-- ==== Sys2Proof/Word.lean ====
section
/-! DEFINITION. The word types of the module and the plain data that commands carry. -/

namespace Sys2Proof

/-- A register or a memory word: 32 bits, little-endian (R10). -/
abbrev Word := BitVec 32

/-- One byte of memory, of a packet or of a frame. -/
abbrev Byte := BitVec 8

/-- An audio sample as a whole number, −2²³ to 2²³ − 1 (R17). -/
abbrev Sample := Int

/-- Where an Easel packet arrives from (R138). -/
inductive Transport where
  /-- The PCIe command ring. -/
  | pcie
  /-- UDP port 52080 on P3, with the source IPv4 address and port of the datagram. -/
  | udp (ip : Word) (port : BitVec 16)
  /-- Host mailbox pair `pair`. -/
  | mailbox (pair : Nat)
deriving DecidableEq, Repr

/-- An Easel command packet without its opcode (R140): the header fields as they stand in the packet and every byte
after the 16-byte header. -/
structure Packet where
  transport : Transport
  magic : BitVec 16
  version : Byte
  flags : Byte
  length : BitVec 16
  seq : Word
  session : BitVec 16
  reserved : BitVec 16
  /-- The bytes that follow the 16-byte header: the AT_TIME word where FLAGS says so, then the parameters. -/
  payload : List Byte
deriving DecidableEq, Repr

/-- One 32-bit register access on the fabric: the master port (R169, R444), the BAR0 offset of R537 and, for a write, the
word. -/
structure Access where
  master : Nat
  off : Nat
  value : Word
deriving DecidableEq, Repr

/-- The dataset of a PTP leader, as its Announce carries it. -/
structure Leader where
  prio1 : Nat
  cls : Nat
  accuracy : Nat
  variance : Nat
  prio2 : Nat
  gm : Nat
  steps : Nat
  /-- The sender's clock identity and port number. -/
  sender : Nat
  /-- logAnnounceInterval, within the accepted range (R96). -/
  interval : Int
  timeSource : Nat
  /-- When its last Announce arrived, and whether it is qualified (second Announce within 4 intervals). -/
  at_ : Nat
  qualified : Bool
deriving DecidableEq, Repr

/-- An RTP packet over UDP over IPv4: addresses, destination port, the VID of its tag, the RTP fields and its payload. -/
structure Rtp where
  dst : Nat
  src : Nat
  port : Nat
  vid : Option Nat
  pt : Nat
  seq : Nat
  ts : Nat
  payload : List Byte
deriving DecidableEq, Repr

/-- A tether frame (R480): the source address, the fields of its 32-byte header and its payload. -/
structure Tether where
  mac : Nat
  magic : Nat
  version : Nat
  state : Nat
  flags : Nat
  frag : Nat
  block : Nat
  epoch : Nat
  setLen : Nat
  check : Nat
  payload : List Byte
deriving DecidableEq, Repr

/-- What the world outside and the silicon itself bring to a block: TIME cycles that it lasted; the bits of the PDM inputs by
input; faults found in near words (address, kind), DM words (core, address, kind) and table words (engine, index); lanes that
differ from their shadow, units that fail a self-test (lanes; 64 and up: cores) and groups whose lockstep differs; FEC counts
by port (corrected, uncorrected). -/
structure BlockEnv where
  cycles : Nat
  pdm : List (List Bool)
  near : List (Nat × Nat)
  dm : List (Nat × Nat × Nat)
  table : List (Nat × Nat)
  lanes : List Nat
  fails : List Nat
  groups : List Nat
  fec : List (Nat × Nat × Nat)
deriving DecidableEq, Repr

/-- A datagram of the update chain (R503): its source address, the fields of its header and its data. -/
structure UpFrame where
  src : Nat
  magic : Nat
  version : Nat
  xfer : Nat
  offset : Nat
  status : Nat
  digest : List Byte
  data : List Byte
deriving DecidableEq, Repr

/-- What the checks of R499 find that no register shows: a page that cannot be read, a revoked or absent key, a bad signature. -/
structure ImageEnv where
  unreadable : Bool
  keyBad : Bool
  sigBad : Bool
deriving DecidableEq, Repr

end Sys2Proof
end

