-- ==== Sys2Proof/Machine/SMap.lean ====
section
/-! DEFINITION. Sparse maps in one canonical form: keys strictly rising, no entry equal to what an unlisted key reads
as. Registers, memories and numbered tables of the module are held in them. -/

namespace Sys2Proof.Machine

/-- A sparse map from numbers to `α`. -/
abbrev SMap (α : Type) := List (Nat × α)

/-- The value at key `k`: the entry where one is listed, else the default `d k`. -/
def smGet {α : Type} (d : Nat → α) : SMap α → Nat → α
  | [], k => d k
  | (j, v) :: t, k => if j = k then v else smGet d t k

/-- The map without any entry for `k`. -/
def smErase {α : Type} (k : Nat) : SMap α → SMap α
  | [] => []
  | (j, v) :: t => if j = k then smErase k t else (j, v) :: smErase k t

/-- The map with an entry put in before the first greater key. -/
def smInsert {α : Type} (k : Nat) (v : α) : SMap α → SMap α
  | [] => [(k, v)]
  | (j, w) :: t => if k < j then (k, v) :: (j, w) :: t else (j, w) :: smInsert k v t

/-- The map with `v` at key `k`, in canonical form. -/
def smSet {α : Type} [DecidableEq α] (d : Nat → α) (m : SMap α) (k : Nat) (v : α) : SMap α :=
  if v = d k then smErase k m else smInsert k v (smErase k m)

/-- Every key of the map is above `b`. -/
def smAbove {α : Type} (b : Nat) : SMap α → Bool
  | [] => true
  | (j, _) :: t => decide (b < j) && smAbove b t

/-- The canonical form: keys strictly rising, no entry equal to the default of its key. -/
def smWf {α : Type} [DecidableEq α] (d : Nat → α) : SMap α → Bool
  | [] => true
  | (j, v) :: t => decide (v ≠ d j) && smAbove j t && smWf d t

end Sys2Proof.Machine
end

