-- ==== Sys2Proof/Machine/Bits.lean ====
section
/-! DEFINITION. Bit fields of words, byte order, saturation and rounding: the plain arithmetic that the chapters share. -/

namespace Sys2Proof.Machine

/-- Bits hi:lo of a word, as a number. -/
def bitsOf (w : Word) (hi lo : Nat) : Nat := (w.toNat / 2 ^ lo) % 2 ^ (hi - lo + 1)

/-- The word with bits hi:lo replaced by the low bits of `v`. -/
def withBits (w : Word) (hi lo v : Nat) : Word :=
  let m : Nat := 2 ^ (hi - lo + 1)
  let n := w.toNat
  .ofNat 32 (n % 2 ^ lo + (v % m) * 2 ^ lo + n / 2 ^ (hi + 1) * 2 ^ (hi + 1))

/-- A bit of a word. -/
def bitOf (w : Word) (i : Nat) : Bool := w.toNat / 2 ^ i % 2 == 1

/-- 1 for true, 0 for false. -/
def b2n (b : Bool) : Nat := if b then 1 else 0

/-- The bytes of a number, least significant first, `n` of them. -/
def leBytes : Nat → Nat → List Byte
  | 0, _ => []
  | n + 1, v => .ofNat 8 v :: leBytes n (v / 256)

/-- The number whose bytes, least significant first, are given. -/
def leNat : List Byte → Nat
  | [] => 0
  | b :: t => b.toNat + 256 * leNat t

/-- The number whose bytes, most significant first, are given. -/
def beNat (l : List Byte) : Nat := l.foldl (fun a b => a * 256 + b.toNat) 0

/-- 32-bit little-endian words as bytes (R155). -/
def wordsBytes (ws : List Word) : List Byte := ws.flatMap fun w => leBytes 4 w.toNat

/-- Numbers as 32-bit little-endian words. -/
def natBytes (ns : List Nat) : List Byte := ns.flatMap (leBytes 4)

/-- The 32-bit little-endian words of a byte string; a last part of fewer than four bytes is dropped. -/
def bytesWords : List Byte → List Word
  | a :: b :: c :: d :: t => .ofNat 32 (leNat [a, b, c, d]) :: bytesWords t
  | _ => []

/-- Two's complement: the low `n` bits of `v` as a signed number. -/
def signed (n : Nat) (v : Nat) : Int :=
  let m := v % 2 ^ n
  if m < 2 ^ (n - 1) then (m : Int) else (m : Int) - (2 ^ n : Nat)

/-- The low `n` bits of a signed number, as a natural number (two's complement). -/
def unsigned (n : Nat) (v : Int) : Nat := (v % ((2 ^ n : Nat) : Int)).toNat

/-- Saturation to `n`-bit two's complement. -/
def sat (n : Nat) (v : Int) : Int :=
  let m : Int := ((2 ^ (n - 1) : Nat) : Int)
  if v < -m then -m else if v > m - 1 then m - 1 else v

/-- Wrapping to `n`-bit two's complement. -/
def wrap (n : Nat) (v : Int) : Int := signed n (unsigned n v)

/-- `v / 2^k` rounded to the nearest integer, ties toward +∞. -/
def rshr (k : Nat) (v : Int) : Int := if k = 0 then v else (v + ((2 ^ (k - 1) : Nat) : Int)) / ((2 ^ k : Nat) : Int)

/-- Quotient of natural numbers rounded up. -/
def ceilDiv (a b : Nat) : Nat := (a + b - 1) / b

/-- Quotient of integers rounded to nearest, ties away from zero. -/
def roundDiv (a : Int) (b : Nat) : Int :=
  if a < 0 then -(((-a) * 2 + b) / (2 * b)) else (a * 2 + b) / (2 * b)

/-- The nearer limit of a range for a number outside it. -/
def clampNat (lo hi v : Nat) : Nat := if v < lo then lo else if v > hi then hi else v

/-- The nearer limit of a range for a number outside it. -/
def clampInt (lo hi v : Int) : Int := if v < lo then lo else if v > hi then hi else v

/-- The number of set bits below bit `n`. -/
def popCount : Nat → Nat → Nat
  | 0, _ => 0
  | n + 1, v => v % 2 + popCount n (v / 2)

/-- The list with element `i` replaced; unchanged when there is no such element. -/
def listSet {α : Type} : List α → Nat → α → List α
  | [], _, _ => []
  | _ :: t, 0, v => v :: t
  | a :: t, i + 1, v => a :: listSet t i v

/-- One step of the noise generator: a Galois register with feedback taps 32, 22, 2 and 1 (R300). -/
def galoisStep (s : Nat) : Nat := if s % 2 = 1 then (s / 2) ^^^ 0x80200003 else s / 2

end Sys2Proof.Machine
end

