-- ==== Sys2Proof/Config.lean ====
section
/-! DEFINITION. What one unit or one installation fixes, and the values the spec leaves open: opaque constants, so that no
proof can see what they are. -/

namespace Sys2Proof

/-- SYS_CONFIG_ID.ORDER_CODE of this unit: 0 or 1 (R4, R542). -/
opaque Config.orderCode : BitVec 1
/-- The fused trim code of the AON oscillator (R73, R542). -/
opaque Config.aonTrim : BitVec 10
/-- The MAC address of network port p (R542). -/
opaque Config.mac : Nat → BitVec 48
/-- The version of the installed firmware (R155, R542). -/
opaque Config.firmwareVersion : Word
/-- The image of the installed firmware (R508). -/
opaque Config.firmwareImage : List Byte
/-- The SVN of the installed firmware (R507). -/
opaque Config.activeSvn : Byte
/-- The fused minimum SVN (R507). -/
opaque Config.minSvn : Byte
/-- The firmware's set of PDM FIR coefficients h[k] (R293). -/
opaque Config.pdmFirCoef : Nat → BitVec 24
/-- The stored first word of FLASH_EUn (R462). -/
opaque Config.flashUnitA : Nat → Word
/-- The stored second word of FLASH_EUn (R461). -/
opaque Config.flashUnitB : Nat → Word
/-- The index of the next Patina ledger record at power-up (R528). -/
opaque Config.ledgerNext : BitVec 64
/-- The PTP clock identity of this module (IEEE 1588-2019). -/
opaque Config.ptpIdentity : BitVec 64
/-- The clockAccuracy and the offsetScaledLogVariance that the module advertises (IEEE 1588-2019). -/
opaque Config.ptpAccuracy : Byte
opaque Config.ptpVariance : BitVec 16
/-- The deviation of a quantised target from the exact result, within the bound that R211 and R255 give, as a number from
0 on; it depends on the operands listed. -/
opaque Config.targetDev : List Int → Nat
/-- The stream of free values: value number n, which nothing constrains. -/
opaque Config.free : Nat → Nat

end Sys2Proof
end

