-- ==== Sys2Proof/Machine/Regs.lean ====
section
/-! DEFINITION. The register map: the BAR0 offset of every register (R537), every field, and for each register its access
types (R12), its counter class (R16) and its value after reset, as the register tables of the chapters give them. -/

namespace Sys2Proof.Machine

/-- A field of a register: the register's BAR0 offset and the field's bits hi:lo (R10). -/
structure Field where
  off : Nat
  hi : Nat
  lo : Nat
deriving DecidableEq, Repr

/-- One row of the register map, a register or an array of registers of up to two indices: base offset, the count and
stride of each index, the value after reset, the masks of the RW, W1C, W1S, WO and RC fields (R12), and the counter class
(R16): 0 no counter, 1 class S with SAT in bit 31, 2 class S with SAT in bit 30, 3 class W. -/
structure RegRow where
  base : Nat
  n1 : Nat
  s1 : Nat
  n2 : Nat
  s2 : Nat
  reset : Nat
  rw : Nat
  w1c : Nat
  w1s : Nat
  wo : Nat
  rc : Nat
  cls : Nat
deriving DecidableEq, Repr

/-! ### Register offsets -/

def R.CLK_MEDIA_STATUS : Nat := 0x100000
def R.CLK_INT_STATUS : Nat := 0x100004
def R.CLK_INT_ENABLE : Nat := 0x100008
def R.CLK_QUAL : Nat := 0x100010
def R.CLK_REF_CTRL : Nat := 0x100014
def R.CLK_MEDIA_CTRL : Nat := 0x100018
def R.CLK_REF_OFFSET : Nat := 0x10001C
def R.CLK_DPLL_OFFSET : Nat := 0x100020
def R.CLK_SWITCH : Nat := 0x100024
def R.CLK_EN : Nat := 0x100030
def R.CLK_EN_LOCK : Nat := 0x100034
def R.CLK_EN_BRUSH0 : Nat := 0x100038
def R.CLK_EN_BRUSH1 : Nat := 0x10003C
def R.CLK_EN_BRUSH2 : Nat := 0x100040
def R.CLK_EN_REFUSED : Nat := 0x100044
def R.CLKOUT0_CTRL : Nat := 0x100050
def R.CLKOUT1_CTRL : Nat := 0x100054
def R.CLK_AON_TRIM : Nat := 0x100060
def R.CLK_AON_TRIM_CTRL : Nat := 0x100064
def R.CLK_REF_TRIP_COUNT : Nat := 0x100070
def R.CLK_HOLDOVER_COUNT : Nat := 0x100074
def R.CLK_DOUBLE_FAULT_COUNT : Nat := 0x100078
def R.SYS_GATED_ACCESS : Nat := 0x180
def R.SYS_GATED_ADDR_LO : Nat := 0x184
def R.SYS_GATED_ADDR_HI : Nat := 0x188
def R.TIME_STATUS : Nat := 0x200000
def R.TIME_INT_STATUS : Nat := 0x200004
def R.TIME_INT_ENABLE : Nat := 0x200008
def R.TIME_CTRL : Nat := 0x200010
def R.TIME_STEP_LIMIT : Nat := 0x200014
def R.TIME_STEP_ACCEPT : Nat := 0x200018
def R.TIME_LEADER_CFG : Nat := 0x20001C
def R.TIME_OFFSET_LO : Nat := 0x200020
def R.TIME_OFFSET_HI : Nat := 0x200024
def R.TIME_MPD : Nat := 0x200028
def R.TIME_RATE : Nat := 0x20002C
def R.TIME_LEADER_ID_LO : Nat := 0x200030
def R.TIME_LEADER_ID_HI : Nat := 0x200034
def R.TIME_NOW_FRAC : Nat := 0x200040
def R.TIME_NOW_NS : Nat := 0x200044
def R.TIME_NOW_SEC_LO : Nat := 0x200048
def R.TIME_NOW_SEC_HI : Nat := 0x20004C
def R.TIME_NOW_MEDIA_LO : Nat := 0x200050
def R.TIME_NOW_MEDIA_HI : Nat := 0x200054
def R.TIME_NOW_MPHASE : Nat := 0x200058
def R.TIME_STEP_COUNT : Nat := 0x200060
def R.TIME_STEP_REFUSED_COUNT : Nat := 0x200064
def R.TIME_LEADER_CHANGE_COUNT : Nat := 0x200068
def R.TIME_OUTLIER_COUNT : Nat := 0x20006C
def R.TIME_PTP_LOSS_COUNT : Nat := 0x200070
def R.TIME_SYNC_RX_COUNT : Nat := 0x200074
def R.TIME_PORT_INGRESS (i : Nat) : Nat := 0x200100 + 0x10 * i
def R.TIME_PORT_EGRESS (i : Nat) : Nat := 0x200104 + 0x10 * i
def R.TIME_PORT_ASYM (i : Nat) : Nat := 0x200108 + 0x10 * i
def R.TIME_PULSE_CTRL (i : Nat) : Nat := 0x200200 + 0x20 * i
def R.TIME_PULSE_START_NS (i : Nat) : Nat := 0x200204 + 0x20 * i
def R.TIME_PULSE_START_SEC_LO (i : Nat) : Nat := 0x200208 + 0x20 * i
def R.TIME_PULSE_START_SEC_HI (i : Nat) : Nat := 0x20020C + 0x20 * i
def R.TIME_PULSE_PERIOD_NS (i : Nat) : Nat := 0x200210 + 0x20 * i
def R.TIME_PULSE_WIDTH_NS (i : Nat) : Nat := 0x200214 + 0x20 * i
def R.TIME_PULSE_STATUS (i : Nat) : Nat := 0x200218 + 0x20 * i
def R.TIME_TSIN_CTRL (i : Nat) : Nat := 0x200300 + 0x20 * i
def R.TIME_TSIN_TS_FRAC (i : Nat) : Nat := 0x200304 + 0x20 * i
def R.TIME_TSIN_TS_NS (i : Nat) : Nat := 0x200308 + 0x20 * i
def R.TIME_TSIN_TS_SEC_LO (i : Nat) : Nat := 0x20030C + 0x20 * i
def R.TIME_TSIN_TS_SEC_HI (i : Nat) : Nat := 0x200310 + 0x20 * i
def R.TIME_TSIN_MEDIA_LO (i : Nat) : Nat := 0x200314 + 0x20 * i
def R.TIME_TSIN_MEDIA_HI (i : Nat) : Nat := 0x200318 + 0x20 * i
def R.TIME_TSIN_STATUS (i : Nat) : Nat := 0x20031C + 0x20 * i
def R.TIME_TSIN_OVERFLOW (i : Nat) : Nat := 0x200340 + 0x4 * i
def R.SYS_IDENT : Nat := 0x0
def R.SYS_MODULE_ISSUE : Nat := 0x4
def R.SYS_CONFIG_ID : Nat := 0x8
def R.SYS_STRAPS : Nat := 0xC
def R.SYS_STATUS : Nat := 0x10
def R.SYS_RESET_CAUSE : Nat := 0x14
def R.SYS_INT_STATUS : Nat := 0x18
def R.SYS_INT_ENABLE : Nat := 0x1C
def R.SYS_RESET_CTRL : Nat := 0x20
def R.SYS_FUNC_RESET : Nat := 0x24
def R.SYS_FUNC_RESET_COUNT : Nat := 0x28
def R.SYS_VIN_WARN_COUNT : Nat := 0x2C
def R.SYS_START_CFG : Nat := 0x30
def R.SYS_OUTPUT_RELEASE : Nat := 0x34
def R.SYS_STANDBY_CTRL : Nat := 0x40
def R.SYS_WAKE_AT_LO : Nat := 0x44
def R.SYS_WAKE_AT_HI : Nat := 0x48
def R.SYS_VIN : Nat := 0x50
def R.SYS_PIN : Nat := 0x54
def R.SYS_TDIE : Nat := 0x58
def R.SYS_TBOARD : Nat := 0x5C
def R.SYS_START_TIME : Nat := 0x60
def R.SYS_WAKE_TOL (i : Nat) : Nat := 0x80 + 0x4 * i
def R.SYS_PD_STATE : Nat := 0xC0
def R.SYS_PD_WAKING : Nat := 0xC4
def R.SYS_BACKUP_SEC_LO : Nat := 0x100
def R.SYS_BACKUP_SEC_HI : Nat := 0x104
def R.HOST_STATUS : Nat := 0x300000
def R.HOST_INT_STATUS : Nat := 0x300004
def R.HOST_INT_ENABLE : Nat := 0x300008
def R.HOST_EXPERT_CTRL : Nat := 0x300010
def R.HOST_BAR2_BASE : Nat := 0x300014
def R.HOST_CMD_BASE_LO : Nat := 0x300020
def R.HOST_CMD_BASE_HI : Nat := 0x300024
def R.HOST_CMD_SIZE : Nat := 0x300028
def R.HOST_CMD_PROD : Nat := 0x30002C
def R.HOST_CMD_CONS : Nat := 0x300030
def R.HOST_RPL_BASE_LO : Nat := 0x300040
def R.HOST_RPL_BASE_HI : Nat := 0x300044
def R.HOST_RPL_SIZE : Nat := 0x300048
def R.HOST_RPL_PROD : Nat := 0x30004C
def R.HOST_RPL_CONS : Nat := 0x300050
def R.HOST_EASEL_RX_COUNT : Nat := 0x300080
def R.HOST_EASEL_DISCARD : Nat := 0x300084
def R.HOST_HOLD_BAD_RELEASE : Nat := 0x300088
def R.HOST_MBX_OVERRUN : Nat := 0x30008C
def R.HOST_BAR0_DENIED : Nat := 0x300090
def R.HOST_BAR0_DENIED_ADDR_LO : Nat := 0x3000A0
def R.HOST_BAR0_DENIED_ADDR_HI : Nat := 0x3000A4
def R.HOST_DB_STATUS : Nat := 0x300100
def R.HOST_DB_MASK : Nat := 0x300104
def R.HOST_MBX_H2F (i : Nat) : Nat := 0x300200 + 0x10 * i
def R.HOST_MBX_F2H (i : Nat) : Nat := 0x300204 + 0x10 * i
def R.HOST_MBX_STATUS (i : Nat) : Nat := 0x300208 + 0x10 * i
def R.HOST_MBX_ACK (i : Nat) : Nat := 0x30020C + 0x10 * i
def R.HOST_MBX_STALL : Nat := 0x300300
def R.HOST_HOLD (i : Nat) : Nat := 0x300400 + 0x4 * i
def R.HOST_HOLD_HELD_LO : Nat := 0x300500
def R.HOST_HOLD_HELD_HI : Nat := 0x300504
def R.HOST_INT_ROUTE (i : Nat) : Nat := 0x300600 + 0x4 * i
def R.CALIPER_STATUS : Nat := 0x1100000
def R.CALIPER_INT_STATUS : Nat := 0x1100004
def R.CALIPER_INT_ENABLE : Nat := 0x1100008
def R.CALIPER_CTRL : Nat := 0x1100010
def R.CALIPER_FRONT : Nat := 0x1100014
def R.CALIPER_AIR_K : Nat := 0x1100018
def R.CALIPER_NEAR_HYST : Nat := 0x110001C
def R.CALIPER_SPEED : Nat := 0x1100020
def R.CALIPER_PERIOD_START_LO : Nat := 0x1100028
def R.CALIPER_PERIOD_START_HI : Nat := 0x110002C
def R.CALIPER_LAST_SWAP_LO : Nat := 0x1100030
def R.CALIPER_LAST_SWAP_HI : Nat := 0x1100034
def R.CALIPER_PAL_STATUS : Nat := 0x1100040
def R.CALIPER_MAQUETTE : Nat := 0x1100050
def R.CALIPER_BOX_CLAMP_COUNT : Nat := 0x1100080
def R.CALIPER_DOPPLER_COUNT : Nat := 0x1100084
def R.CALIPER_STREAM_IGNORED : Nat := 0x1100088
def R.CALIPER_SWAP_DEFERRED : Nat := 0x110008C
def R.CALIPER_SUPERSEDED : Nat := 0x1100090
def R.CALIPER_STREAM_ENTRIES : Nat := 0x1100094
def R.CALIPER_TIER_SWITCH : Nat := 0x1100098
def R.RENDER_STATUS : Nat := 0x1200000
def R.RENDER_INT_STATUS : Nat := 0x1200004
def R.RENDER_INT_ENABLE : Nat := 0x1200008
def R.RENDER_ENGINE_MAP : Nat := 0x1200010
def R.RENDER_LANE_SPARE : Nat := 0x1200014
def R.RENDER_LANE_RETIRED : Nat := 0x1200018
def R.RENDER_LANE_RETIRED8 : Nat := 0x120001C
def R.RENDER_LOAD_SLOTS : Nat := 0x1200020
def R.RENDER_LOAD_FAR : Nat := 0x1200024
def R.RENDER_LOAD_FAR_OBJ : Nat := 0x1200028
def R.RENDER_LANE_MAX : Nat := 0x120002C
def R.RENDER_PEAK_BUSY : Nat := 0x1200030
def R.RENDER_FAR_BASE_LO : Nat := 0x1200038
def R.RENDER_FAR_BASE_HI : Nat := 0x120003C
def R.RENDER_EXPERT_OBJ (i : Nat) : Nat := 0x1200100 + 0x4 * i
def R.RENDER_FIRST_UNCORR : Nat := 0x1200050
def R.RENDER_NEAR_CORRECTED : Nat := 0x1200080
def R.RENDER_NEAR_UNCORRECTED : Nat := 0x1200084
def R.RENDER_FAR_LATE : Nat := 0x1200088
def R.RENDER_FAR_ECC : Nat := 0x120008C
def R.RENDER_OVERRUN : Nat := 0x1200090
def R.RENDER_EXPERT_CLAMP : Nat := 0x1200094
def R.RENDER_WINDOW_FETCH : Nat := 0x1200098
def R.RENDER_WINDOW_SHARED : Nat := 0x120009C
def R.RENDER_FAR_FETCH : Nat := 0x12000A0
def R.RENDER_HEADROOM (i : Nat) : Nat := 0x1200200 + 0x4 * i
def R.RENDER_CLIP (i : Nat) : Nat := 0x1201000 + 0x4 * i
def R.OUTPROC_STATUS : Nat := 0x1300000
def R.OUTPROC_INT_STATUS : Nat := 0x1300004
def R.OUTPROC_INT_ENABLE : Nat := 0x1300008
def R.OUTPROC_TAIL_BASE_LO : Nat := 0x1300010
def R.OUTPROC_TAIL_BASE_HI : Nat := 0x1300014
def R.OUTPROC_LAST_CLIP : Nat := 0x1300020
def R.OUTPROC_OVERRUN : Nat := 0x1300080
def R.OUTPROC_MUTE (i : Nat) : Nat := 0x1300100 + 0x4 * i
def R.OUTPROC_CLIP (i : Nat) : Nat := 0x1301000 + 0x4 * i
def R.OUTPROC_GR (i : Nat) : Nat := 0x1301800 + 0x4 * i
def R.PDM_STATUS : Nat := 0xA00000
def R.PDM_INT_STATUS : Nat := 0xA00004
def R.PDM_INT_ENABLE : Nat := 0xA00008
def R.PDM_CLK_CTRL : Nat := 0xA00010
def R.PDM_RESAMPLE_STEP : Nat := 0xA00014
def R.PDM_CH_CTRL (i : Nat) : Nat := 0xA00100 + 0x4 * i
def R.PDM_STUCK_COUNT : Nat := 0xA00180
def R.PDM_SAT (i : Nat) : Nat := 0xA00200 + 0x4 * i
def R.PDM_FIR_COEF (i : Nat) : Nat := 0xA00400 + 0x4 * i
def R.SURVEY_STATUS : Nat := 0x1500000
def R.SURVEY_INT_STATUS : Nat := 0x1500004
def R.SURVEY_INT_ENABLE : Nat := 0x1500008
def R.SURVEY_TEMP : Nat := 0x1500010
def R.SURVEY_DET_CTRL : Nat := 0x1500014
def R.SURVEY_LAST_WINDOW_LO : Nat := 0x1500018
def R.SURVEY_LAST_WINDOW_HI : Nat := 0x150001C
def R.SURVEY_BASE_LO : Nat := 0x1500020
def R.SURVEY_BASE_HI : Nat := 0x1500024
def R.SURVEY_WINDOWS : Nat := 0x1500080
def R.SURVEY_GATED : Nat := 0x1500084
def R.SURVEY_PROPOSALS : Nat := 0x1500088
def R.SURVEY_APPLIED : Nat := 0x150008C
def R.SURVEY_DEFER : Nat := 0x1500090
def R.SURVEY_OVERRIDE : Nat := 0x1500094
def R.SURVEY_OUTLIER : Nat := 0x1500098
def R.SURVEY_LOG_DROP : Nat := 0x150009C
def R.SURVEY_DET_PEAK (i : Nat) : Nat := 0x1500100 + 0x10 * i
def R.SURVEY_DET_RMS (i : Nat) : Nat := 0x1500104 + 0x10 * i
def R.SURVEY_DET_ENV (i : Nat) : Nat := 0x1500108 + 0x10 * i
def R.PORTS_STATUS : Nat := 0x900000
def R.PORTS_INT_STATUS : Nat := 0x900004
def R.PORTS_INT_ENABLE : Nat := 0x900008
def R.PORTS_TDM_CTRL (i : Nat) : Nat := 0x900100 + 0x40 * i
def R.PORTS_TDM_RX_MASK (i : Nat) : Nat := 0x900104 + 0x40 * i
def R.PORTS_TDM_TX_MASK (i : Nat) : Nat := 0x900108 + 0x40 * i
def R.PORTS_TDM_STATE (i : Nat) : Nat := 0x90010C + 0x40 * i
def R.PORTS_TDM_RATE (i : Nat) : Nat := 0x900110 + 0x40 * i
def R.PORTS_TDM_PHASE (i : Nat) : Nat := 0x900114 + 0x40 * i
def R.PORTS_TDM_FRAMING (i : Nat) : Nat := 0x900120 + 0x40 * i
def R.PORTS_TDM_LOSS_COUNT (i : Nat) : Nat := 0x900124 + 0x40 * i
def R.PORTS_TDM_RATE_COUNT (i : Nat) : Nat := 0x900128 + 0x40 * i
def R.PORTS_TDM_SLIP (i : Nat) : Nat := 0x90012C + 0x40 * i
def R.PORTS_TDM_FRAMES (i : Nat) : Nat := 0x900130 + 0x40 * i
def R.ARMATURE_STATUS : Nat := 0xB00000
def R.ARMATURE_INT_STATUS : Nat := 0xB00004
def R.ARMATURE_INT_ENABLE : Nat := 0xB00008
def R.ARMATURE_METER_CTRL : Nat := 0xB00010
def R.ARMATURE_NONPCM_HOLD : Nat := 0xB00014
def R.ARMATURE_FIRST_NONPCM : Nat := 0xB00020
def R.ARMATURE_NONPCM_COUNT : Nat := 0xB00080
def R.ARMATURE_UNDERRUN_COUNT : Nat := 0xB00084
def R.ARMATURE_LATE_COUNT : Nat := 0xB00088
def R.ARMATURE_DP_NONPCM_COUNT : Nat := 0xB0008C
def R.ARMATURE_GROUP (i : Nat) : Nat := 0xB00200 + 0x4 * i
def R.ARMATURE_DP_CTRL (i : Nat) : Nat := 0xB01000 + 0x10 * i
def R.ARMATURE_DP_TARGET (i : Nat) : Nat := 0xB01004 + 0x10 * i
def R.ARMATURE_DP_GAIN (i : Nat) : Nat := 0xB01008 + 0x10 * i
def R.ARMATURE_ROUTE (i : Nat) : Nat := 0xB10000 + 0x4 * i
def R.ARMATURE_METER_PEAK (i : Nat) : Nat := 0xB20000 + 0x10 * i
def R.ARMATURE_METER_TP (i : Nat) : Nat := 0xB20004 + 0x10 * i
def R.ARMATURE_METER_RMS (i : Nat) : Nat := 0xB20008 + 0x10 * i
def R.ARMATURE_METER_HOLD (i : Nat) : Nat := 0xB2000C + 0x10 * i
def R.NET_STATUS (i : Nat) : Nat := 0xC00000 + 0x100000 * i
def R.NET_INT_STATUS (i : Nat) : Nat := 0xC00004 + 0x100000 * i
def R.NET_INT_ENABLE (i : Nat) : Nat := 0xC00008 + 0x100000 * i
def R.NET_CTRL (i : Nat) : Nat := 0xC00010 + 0x100000 * i
def R.NET_MAX_FRAME (i : Nat) : Nat := 0xC00014 + 0x100000 * i
def R.NET_PAUSE (i : Nat) : Nat := 0xC00018 + 0x100000 * i
def R.NET_PAUSE_QUANTA (i : Nat) : Nat := 0xC0001C + 0x100000 * i
def R.NET_DROP_OTHER (i : Nat) : Nat := 0xC00020 + 0x100000 * i
def R.NET_BUFFER_FILL (i : Nat) : Nat := 0xC00024 + 0x100000 * i
def R.NET_MAC_LO (i : Nat) : Nat := 0xC00028 + 0x100000 * i
def R.NET_MAC_HI (i : Nat) : Nat := 0xC0002C + 0x100000 * i
def R.NET_IP (i : Nat) : Nat := 0xC00030 + 0x100000 * i
def R.NET_IP_MASK (i : Nat) : Nat := 0xC00034 + 0x100000 * i
def R.NET_IP_GW (i : Nat) : Nat := 0xC00038 + 0x100000 * i
def R.NET_IP_ALIAS (i : Nat) : Nat := 0xC0003C + 0x100000 * i
def R.NET_VLAN (i : Nat) : Nat := 0xC00040 + 0x100000 * i
def R.NET_GATE_CTRL (i : Nat) : Nat := 0xC00050 + 0x100000 * i
def R.NET_GATE_CYCLE (i : Nat) : Nat := 0xC00054 + 0x100000 * i
def R.NET_GATE_BASE_NS (i : Nat) : Nat := 0xC00058 + 0x100000 * i
def R.NET_GATE_BASE_SEC_LO (i : Nat) : Nat := 0xC0005C + 0x100000 * i
def R.NET_GATE_BASE_SEC_HI (i : Nat) : Nat := 0xC00060 + 0x100000 * i
def R.NET_GATE_STATUS (i : Nat) : Nat := 0xC00064 + 0x100000 * i
def R.NET_RX_FRAMES (i : Nat) : Nat := 0xC00080 + 0x100000 * i
def R.NET_RX_OCTETS (i : Nat) : Nat := 0xC00084 + 0x100000 * i
def R.NET_RX_MULTICAST (i : Nat) : Nat := 0xC00088 + 0x100000 * i
def R.NET_RX_FILTERED (i : Nat) : Nat := 0xC0008C + 0x100000 * i
def R.NET_TX_FRAMES (i : Nat) : Nat := 0xC00090 + 0x100000 * i
def R.NET_TX_OCTETS (i : Nat) : Nat := 0xC00094 + 0x100000 * i
def R.NET_TX_HELD (i : Nat) : Nat := 0xC00098 + 0x100000 * i
def R.NET_FEC_CORRECTED (i : Nat) : Nat := 0xC0009C + 0x100000 * i
def R.NET_RX_FCS (i : Nat) : Nat := 0xC000A0 + 0x100000 * i
def R.NET_RX_UNDERSIZE (i : Nat) : Nat := 0xC000A4 + 0x100000 * i
def R.NET_RX_FRAGMENT (i : Nat) : Nat := 0xC000A8 + 0x100000 * i
def R.NET_RX_OVERSIZE (i : Nat) : Nat := 0xC000AC + 0x100000 * i
def R.NET_RX_L3_ERR (i : Nat) : Nat := 0xC000B0 + 0x100000 * i
def R.NET_RX_BUFFER_DROP (i : Nat) : Nat := 0xC000B4 + 0x100000 * i
def R.NET_TX_ERR (i : Nat) : Nat := 0xC000B8 + 0x100000 * i
def R.NET_PAUSE_TX (i : Nat) : Nat := 0xC000BC + 0x100000 * i
def R.NET_PAUSE_RX (i : Nat) : Nat := 0xC000C0 + 0x100000 * i
def R.NET_LINK_DOWN (i : Nat) : Nat := 0xC000C4 + 0x100000 * i
def R.NET_FEC_UNCORRECTED (i : Nat) : Nat := 0xC000C8 + 0x100000 * i
def R.NET_GATE_ADMIN (i : Nat) (j : Nat) : Nat := 0xC00400 + 0x100000 * i + 0x4 * j
def R.NET_GATE_OPER (i : Nat) (j : Nat) : Nat := 0xC00800 + 0x100000 * i + 0x4 * j
def R.MEDIA_STATUS : Nat := 0x1000000
def R.MEDIA_INT_STATUS : Nat := 0x1000004
def R.MEDIA_INT_ENABLE : Nat := 0x1000008
def R.MEDIA_POOL : Nat := 0x1000010
def R.MEDIA_RX_CTRL (i : Nat) : Nat := 0x1001000 + 0x40 * i
def R.MEDIA_RX_MAP (i : Nat) : Nat := 0x1001004 + 0x40 * i
def R.MEDIA_RX_STATE (i : Nat) : Nat := 0x1001008 + 0x40 * i
def R.MEDIA_RX_MARGIN (i : Nat) : Nat := 0x100100C + 0x40 * i
def R.MEDIA_RX_PACKETS (i : Nat) : Nat := 0x1001010 + 0x40 * i
def R.MEDIA_RX_UNDERRUN (i : Nat) : Nat := 0x1001014 + 0x40 * i
def R.MEDIA_RX_LATE (i : Nat) : Nat := 0x1001018 + 0x40 * i
def R.MEDIA_RX_EARLY (i : Nat) : Nat := 0x100101C + 0x40 * i
def R.MEDIA_RX_SEQ_GAP_A (i : Nat) : Nat := 0x1001020 + 0x40 * i
def R.MEDIA_RX_SEQ_GAP_B (i : Nat) : Nat := 0x1001024 + 0x40 * i
def R.MEDIA_RX_LEG_LOSS (i : Nat) : Nat := 0x1001028 + 0x40 * i
def R.MEDIA_TX_CTRL (i : Nat) : Nat := 0x1008000 + 0x40 * i
def R.MEDIA_TX_MAP (i : Nat) : Nat := 0x1008004 + 0x40 * i
def R.MEDIA_TX_STATE (i : Nat) : Nat := 0x1008008 + 0x40 * i
def R.MEDIA_TX_SEQ (i : Nat) : Nat := 0x100800C + 0x40 * i
def R.MEDIA_TX_PACKETS (i : Nat) : Nat := 0x1008010 + 0x40 * i
def R.MEDIA_TX_LATE (i : Nat) : Nat := 0x1008014 + 0x40 * i
def R.MEDIA_TX_DROP (i : Nat) : Nat := 0x1008018 + 0x40 * i
def R.BRUSH_CORE_STATE (i : Nat) : Nat := 0x2000000 + 0x40000 * i
def R.BRUSH_CORE_CTRL (i : Nat) : Nat := 0x2000004 + 0x40000 * i
def R.BRUSH_CORE_ENTRY (i : Nat) : Nat := 0x2000008 + 0x40000 * i
def R.BRUSH_CORE_PC (i : Nat) : Nat := 0x200000C + 0x40000 * i
def R.BRUSH_CORE_IRQ (i : Nat) : Nat := 0x2000010 + 0x40000 * i
def R.BRUSH_CORE_IVB (i : Nat) : Nat := 0x2000014 + 0x40000 * i
def R.BRUSH_CORE_CYCLE_LO (i : Nat) : Nat := 0x2000018 + 0x40000 * i
def R.BRUSH_CORE_CYCLE_HI (i : Nat) : Nat := 0x200001C + 0x40000 * i
def R.BRUSH_CORE_FAULT (i : Nat) : Nat := 0x2000020 + 0x40000 * i
def R.BRUSH_CORE_BLOCK_LO (i : Nat) : Nat := 0x2000028 + 0x40000 * i
def R.BRUSH_CORE_BLOCK_HI (i : Nat) : Nat := 0x200002C + 0x40000 * i
def R.BRUSH_CORE_PARAM_A (i : Nat) (j : Nat) : Nat := 0x2000040 + 0x40000 * i + 0x8 * j
def R.BRUSH_CORE_PARAM_B (i : Nat) (j : Nat) : Nat := 0x2000044 + 0x40000 * i + 0x8 * j
def R.BRUSH_XFER_FADDR_LO (i : Nat) (j : Nat) : Nat := 0x2000080 + 0x40000 * i + 0x10 * j
def R.BRUSH_XFER_FADDR_HI (i : Nat) (j : Nat) : Nat := 0x2000084 + 0x40000 * i + 0x10 * j
def R.BRUSH_XFER_DM (i : Nat) (j : Nat) : Nat := 0x2000088 + 0x40000 * i + 0x10 * j
def R.BRUSH_XFER_CTRL (i : Nat) (j : Nat) : Nat := 0x200008C + 0x40000 * i + 0x10 * j
def R.BRUSH_CORE_MBX_IN (i : Nat) : Nat := 0x2000100 + 0x40000 * i
def R.BRUSH_CORE_MBX_OUT (i : Nat) : Nat := 0x2000104 + 0x40000 * i
def R.BRUSH_CORE_MBX_STATUS (i : Nat) : Nat := 0x2000108 + 0x40000 * i
def R.BRUSH_CORE_MBX_ACK (i : Nat) : Nat := 0x200010C + 0x40000 * i
def R.BRUSH_STATUS : Nat := 0x3F00000
def R.BRUSH_INT_STATUS : Nat := 0x3F00004
def R.BRUSH_INT_ENABLE : Nat := 0x3F00008
def R.BRUSH_MAP (i : Nat) : Nat := 0x3F00040 + 0x4 * i
def R.BRUSH_DM_CORRECTED : Nat := 0x3F00080
def R.BRUSH_ERR_STOP : Nat := 0x3F00084
def R.BRUSH_MIGRATE_MISMATCH : Nat := 0x3F00088
def R.BRUSH_MIGRATE_COLD : Nat := 0x3F0008C
def R.BRUSH_WINDOW_DENIED : Nat := 0x3F00090
def R.BRUSH_MIGRATED : Nat := 0x3F00094
def R.ATELIER_STATUS : Nat := 0x400000
def R.ATELIER_INT_STATUS : Nat := 0x400004
def R.ATELIER_INT_ENABLE : Nat := 0x400008
def R.ATELIER_TRACE_CTRL : Nat := 0x400010
def R.ATELIER_TRACE_BASE_LO : Nat := 0x400014
def R.ATELIER_TRACE_BASE_HI : Nat := 0x400018
def R.ATELIER_TRACE_PROD : Nat := 0x40001C
def R.ATELIER_TRACE_CONS : Nat := 0x400020
def R.ATELIER_CANCEL : Nat := 0x400030
def R.ATELIER_DONE : Nat := 0x400034
def R.ATELIER_POSTED : Nat := 0x400080
def R.ATELIER_DISPATCHED : Nat := 0x400084
def R.ATELIER_REFUSED : Nat := 0x400088
def R.ATELIER_BAD_POST : Nat := 0x40008C
def R.ATELIER_CANCEL_LATE : Nat := 0x400090
def R.ATELIER_CANCEL_STALE : Nat := 0x400094
def R.ATELIER_RETRY : Nat := 0x400098
def R.ATELIER_FAULTED : Nat := 0x40009C
def R.ATELIER_SKIP : Nat := 0x4000A0
def R.ATELIER_DONE_LOST : Nat := 0x4000A4
def R.ATELIER_TRACE_DROP : Nat := 0x4000A8
def R.ATELIER_STAGE_D (i : Nat) (j : Nat) : Nat := 0x400100 + 0x40 * i + 0x4 * j
def R.ATELIER_STAGE_GO (i : Nat) : Nat := 0x400120 + 0x40 * i
def R.ATELIER_STAGE_RESULT (i : Nat) : Nat := 0x400124 + 0x40 * i
def R.ATELIER_FLOW (i : Nat) : Nat := 0x400400 + 0x4 * i
def R.ATELIER_SLOT (i : Nat) : Nat := 0x400800 + 0x4 * i
def R.FABRIC_STATUS : Nat := 0x500000
def R.FABRIC_INT_STATUS : Nat := 0x500004
def R.FABRIC_INT_ENABLE : Nat := 0x500008
def R.FABRIC_TARGET (i : Nat) : Nat := 0x500010 + 0x4 * i
def R.FABRIC_HELD_LIMIT : Nat := 0x500080
def R.FABRIC_HELD_ORDER : Nat := 0x500084
def R.FABRIC_NO_PATH : Nat := 0x500088
def R.FABRIC_NO_PATH_ADDR_LO : Nat := 0x500090
def R.FABRIC_NO_PATH_ADDR_HI : Nat := 0x500094
def R.FABRIC_PORT (i : Nat) : Nat := 0x500100 + 0x4 * i
def R.MEMC_STATUS : Nat := 0x600000
def R.MEMC_MAP : Nat := 0x600010
def R.MEMC_INT_STATUS : Nat := 0x600004
def R.MEMC_INT_ENABLE : Nat := 0x600008
def R.MEMC_SCRUB : Nat := 0x600014
def R.MEMC_FIRST_UNCORR_LO : Nat := 0x600020
def R.MEMC_FIRST_UNCORR_HI : Nat := 0x600024
def R.MEMC_CORRECTED : Nat := 0x600080
def R.MEMC_UNCORRECTED : Nat := 0x600084
def R.MEMC_TRACK_LIMIT : Nat := 0x600088
def R.MEMC_HAZARD_WAIT : Nat := 0x60008C
def R.MEMC_ROW_HIT : Nat := 0x600090
def R.MEMC_ROW_MISS : Nat := 0x600094
def R.MEMC_TRAIN_A (i : Nat) : Nat := 0x600200 + 0x10 * i
def R.MEMC_TRAIN_B (i : Nat) : Nat := 0x600204 + 0x10 * i
def R.MEMC_REMAP (i : Nat) (j : Nat) : Nat := 0x600400 + 0x80 * i + 0x4 * j
def R.FLASH_STATUS : Nat := 0x700000
def R.FLASH_INT_STATUS : Nat := 0x700004
def R.FLASH_INT_ENABLE : Nat := 0x700008
def R.FLASH_SCRUB : Nat := 0x700010
def R.FLASH_AGE_LIMIT : Nat := 0x700014
def R.FLASH_REFUSED : Nat := 0x700080
def R.FLASH_PROG_FAIL : Nat := 0x700084
def R.FLASH_ERASE_FAIL : Nat := 0x700088
def R.FLASH_UNCORRECTABLE : Nat := 0x70008C
def R.FLASH_RELOCATED : Nat := 0x700090
def R.FLASH_RETIRED : Nat := 0x700094
def R.FLASH_CORRECTED_BITS : Nat := 0x700098
def R.FLASH_PAGES_READ : Nat := 0x70009C
def R.FLASH_PAGES_PROGRAMMED : Nat := 0x7000A0
def R.FLASH_EU_A (i : Nat) : Nat := 0x710000 + 0x8 * i
def R.FLASH_EU_B (i : Nat) : Nat := 0x710004 + 0x8 * i
def R.CRC_STATUS : Nat := 0x800000
def R.CRC_INT_STATUS : Nat := 0x800004
def R.CRC_INT_ENABLE : Nat := 0x800008
def R.CRC_GO_IGNORED : Nat := 0x800080
def R.CRC_CH_ADDR_LO (i : Nat) : Nat := 0x800100 + 0x40 * i
def R.CRC_CH_ADDR_HI (i : Nat) : Nat := 0x800104 + 0x40 * i
def R.CRC_CH_LEN (i : Nat) : Nat := 0x800108 + 0x40 * i
def R.CRC_CH_CTRL (i : Nat) : Nat := 0x80010C + 0x40 * i
def R.CRC_CH_SEED_LO (i : Nat) : Nat := 0x800110 + 0x40 * i
def R.CRC_CH_SEED_HI (i : Nat) : Nat := 0x800114 + 0x40 * i
def R.CRC_CH_RESULT_LO (i : Nat) : Nat := 0x800118 + 0x40 * i
def R.CRC_CH_RESULT_HI (i : Nat) : Nat := 0x80011C + 0x40 * i
def R.TWIN_STATUS : Nat := 0x1600000
def R.TWIN_INT_STATUS : Nat := 0x1600004
def R.TWIN_INT_ENABLE : Nat := 0x1600008
def R.TWIN_CFG : Nat := 0x1600010
def R.TWIN_TRIGGER : Nat := 0x1600014
def R.TWIN_ALIAS0 : Nat := 0x1600020
def R.TWIN_ALIAS1 : Nat := 0x1600024
def R.TWIN_ALIAS3 : Nat := 0x1600028
def R.TWIN_EPOCH : Nat := 0x1600030
def R.TWIN_LAST_SET_LO : Nat := 0x1600038
def R.TWIN_LAST_SET_HI : Nat := 0x160003C
def R.TWIN_SET_SIZE : Nat := 0x1600040
def R.TWIN_SET_PEAK : Nat := 0x1600044
def R.TWIN_TAKEOVER_COUNT : Nat := 0x1600080
def R.TWIN_SWITCHOVER_COUNT : Nat := 0x1600084
def R.TWIN_SET_MISSING : Nat := 0x1600088
def R.TWIN_SET_BAD : Nat := 0x160008C
def R.TWIN_RESYNC_COUNT : Nat := 0x1600090
def R.TWIN_TETHER_LOST : Nat := 0x1600094
def R.TWIN_SETS : Nat := 0x1600098
def R.UPDATE_STATUS : Nat := 0x1900000
def R.UPDATE_INT_STATUS : Nat := 0x1900004
def R.UPDATE_INT_ENABLE : Nat := 0x1900008
def R.UPDATE_CFG : Nat := 0x1900010
def R.UPDATE_UPSTREAM : Nat := 0x1900014
def R.UPDATE_PEER (i : Nat) : Nat := 0x1900020 + 0x4 * i
def R.UPDATE_PEER_STATE : Nat := 0x1900030
def R.UPDATE_SLOT_STATE (i : Nat) : Nat := 0x1900040 + 0x20 * i
def R.UPDATE_SLOT_RECEIVED (i : Nat) : Nat := 0x1900044 + 0x20 * i
def R.UPDATE_SLOT_LENGTH (i : Nat) : Nat := 0x1900048 + 0x20 * i
def R.UPDATE_SLOT_PREFIX_LO (i : Nat) : Nat := 0x190004C + 0x20 * i
def R.UPDATE_SLOT_PREFIX_HI (i : Nat) : Nat := 0x1900050 + 0x20 * i
def R.UPDATE_DIGEST (i : Nat) : Nat := 0x1900080 + 0x4 * i
def R.UPDATE_ACT_SEC_LO : Nat := 0x19000A0
def R.UPDATE_ACT_SEC_HI : Nat := 0x19000A4
def R.UPDATE_ACT_NS : Nat := 0x19000A8
def R.UPDATE_ACTIVE_VERSION : Nat := 0x19000B0
def R.UPDATE_SVN : Nat := 0x19000B4
def R.UPDATE_PREV_VERSION : Nat := 0x19000B8
def R.UPDATE_VERIFY_FAILED : Nat := 0x19000C0
def R.UPDATE_CONFLICT : Nat := 0x19000C4
def R.UPDATE_DUPLICATE : Nat := 0x19000C8
def R.UPDATE_BAD_SOURCE : Nat := 0x19000CC
def R.UPDATE_FALLBACK : Nat := 0x19000D0
def R.UPDATE_RETRANSMIT : Nat := 0x19000D4
def R.HEALTH_STATUS : Nat := 0x1700000
def R.HEALTH_INT_STATUS : Nat := 0x1700004
def R.HEALTH_INT_ENABLE : Nat := 0x1700008
def R.HEALTH_CTRL : Nat := 0x1700010
def R.HEALTH_AUTO_RESET : Nat := 0x1700014
def R.HEALTH_PATROL : Nat := 0x1700018
def R.HEALTH_THRESH : Nat := 0x170001C
def R.HEALTH_CAPACITY : Nat := 0x1700020
def R.HEALTH_LEDGER_NEXT_LO : Nat := 0x1700028
def R.HEALTH_LEDGER_NEXT_HI : Nat := 0x170002C
def R.HEALTH_SUSPECT : Nat := 0x1700080
def R.HEALTH_SWAPS : Nat := 0x1700084
def R.HEALTH_RETIRED : Nat := 0x1700088
def R.HEALTH_SELFTEST_FAIL : Nat := 0x170008C
def R.HEALTH_AUTO_RESETS : Nat := 0x1700090
def R.HEALTH_LEDGER_DROP : Nat := 0x1700094
def R.HEALTH_PATROLS : Nat := 0x1700098
def R.HEALTH_SELFTEST_RUNS : Nat := 0x170009C
def R.HEALTH_MARGIN (i : Nat) : Nat := 0x1700100 + 0x4 * i
def R.SMUDGE_STATUS : Nat := 0x1800000
def R.SMUDGE_INT_STATUS : Nat := 0x1800004
def R.SMUDGE_INT_ENABLE : Nat := 0x1800008
def R.SMUDGE_SEED : Nat := 0x1800010
def R.SMUDGE_FABRIC : Nat := 0x1800014
def R.SMUDGE_FABRIC_PORT : Nat := 0x1800018
def R.SMUDGE_ATELIER : Nat := 0x180001C
def R.SMUDGE_LANE_MASK : Nat := 0x1800020
def R.SMUDGE_LANE : Nat := 0x1800024
def R.SMUDGE_NET : Nat := 0x1800028
def R.SMUDGE_PTP : Nat := 0x180002C
def R.SMUDGE_PTP_OFFSET : Nat := 0x1800030
def R.SMUDGE_CLOCK : Nat := 0x1800034
def R.SMUDGE_FLASH : Nat := 0x1800038
def R.SMUDGE_ARM : Nat := 0x1800040
def R.SMUDGE_EVENTS (i : Nat) : Nat := 0x1800080 + 0x4 * i

/-! ### Register fields -/

def F.CLK_MEDIA_STATUS_STATE : Field := ⟨R.CLK_MEDIA_STATUS, 2, 0⟩
def F.CLK_MEDIA_STATUS_TCXO_QUALIFIED : Field := ⟨R.CLK_MEDIA_STATUS, 8, 8⟩
def F.CLK_MEDIA_STATUS_REF_QUALIFIED : Field := ⟨R.CLK_MEDIA_STATUS, 9, 9⟩
def F.CLK_MEDIA_STATUS_REF_PRESENT : Field := ⟨R.CLK_MEDIA_STATUS, 10, 10⟩
def F.CLK_MEDIA_STATUS_SWITCH_PENDING : Field := ⟨R.CLK_MEDIA_STATUS, 11, 11⟩
def F.CLK_MEDIA_STATUS_BAD_REQUEST : Field := ⟨R.CLK_MEDIA_STATUS, 12, 12⟩
def F.CLK_MEDIA_STATUS_DOUBLE_FAULT : Field := ⟨R.CLK_MEDIA_STATUS, 13, 13⟩
def F.CLK_MEDIA_STATUS_TCXO_FAIL : Field := ⟨R.CLK_MEDIA_STATUS, 14, 14⟩
def F.CLK_MEDIA_STATUS_PLL_FAULT : Field := ⟨R.CLK_MEDIA_STATUS, 15, 15⟩
def F.CLK_MEDIA_STATUS_AON_FAULT : Field := ⟨R.CLK_MEDIA_STATUS, 16, 16⟩
def F.CLK_MEDIA_STATUS_QUAL_UNCONFIRMED : Field := ⟨R.CLK_MEDIA_STATUS, 17, 17⟩
def F.CLK_INT_STATUS_REF_TRIP : Field := ⟨R.CLK_INT_STATUS, 0, 0⟩
def F.CLK_INT_STATUS_REF_QUALIFIED : Field := ⟨R.CLK_INT_STATUS, 1, 1⟩
def F.CLK_INT_STATUS_HOLDOVER_ENTER : Field := ⟨R.CLK_INT_STATUS, 2, 2⟩
def F.CLK_INT_STATUS_HOLDOVER_EXIT : Field := ⟨R.CLK_INT_STATUS, 3, 3⟩
def F.CLK_INT_STATUS_DOUBLE_FAULT : Field := ⟨R.CLK_INT_STATUS, 4, 4⟩
def F.CLK_INT_STATUS_TCXO_QUALIFIED : Field := ⟨R.CLK_INT_STATUS, 5, 5⟩
def F.CLK_INT_STATUS_MEDIA_SWITCH_DONE : Field := ⟨R.CLK_INT_STATUS, 6, 6⟩
def F.CLK_INT_STATUS_MEDIA_MON : Field := ⟨R.CLK_INT_STATUS, 7, 7⟩
def F.CLK_INT_STATUS_AON_FAULT : Field := ⟨R.CLK_INT_STATUS, 8, 8⟩
def F.CLK_INT_STATUS_TRIM_STALE : Field := ⟨R.CLK_INT_STATUS, 9, 9⟩
def F.CLK_INT_STATUS_PLLS_FAULT : Field := ⟨R.CLK_INT_STATUS, 10, 10⟩
def F.CLK_INT_ENABLE_REF_TRIP : Field := ⟨R.CLK_INT_ENABLE, 0, 0⟩
def F.CLK_INT_ENABLE_REF_QUALIFIED : Field := ⟨R.CLK_INT_ENABLE, 1, 1⟩
def F.CLK_INT_ENABLE_HOLDOVER_ENTER : Field := ⟨R.CLK_INT_ENABLE, 2, 2⟩
def F.CLK_INT_ENABLE_HOLDOVER_EXIT : Field := ⟨R.CLK_INT_ENABLE, 3, 3⟩
def F.CLK_INT_ENABLE_DOUBLE_FAULT : Field := ⟨R.CLK_INT_ENABLE, 4, 4⟩
def F.CLK_INT_ENABLE_TCXO_QUALIFIED : Field := ⟨R.CLK_INT_ENABLE, 5, 5⟩
def F.CLK_INT_ENABLE_MEDIA_SWITCH_DONE : Field := ⟨R.CLK_INT_ENABLE, 6, 6⟩
def F.CLK_INT_ENABLE_MEDIA_MON : Field := ⟨R.CLK_INT_ENABLE, 7, 7⟩
def F.CLK_INT_ENABLE_AON_FAULT : Field := ⟨R.CLK_INT_ENABLE, 8, 8⟩
def F.CLK_INT_ENABLE_TRIM_STALE : Field := ⟨R.CLK_INT_ENABLE, 9, 9⟩
def F.CLK_INT_ENABLE_PLLS_FAULT : Field := ⟨R.CLK_INT_ENABLE, 10, 10⟩
def F.CLK_QUAL_TCXO_QUAL_DELAY : Field := ⟨R.CLK_QUAL, 9, 0⟩
def F.CLK_QUAL_REF_QUAL_DELAY : Field := ⟨R.CLK_QUAL, 25, 16⟩
def F.CLK_REF_CTRL_EN : Field := ⟨R.CLK_REF_CTRL, 0, 0⟩
def F.CLK_REF_CTRL_TYPE : Field := ⟨R.CLK_REF_CTRL, 3, 1⟩
def F.CLK_REF_CTRL_WINDOW : Field := ⟨R.CLK_REF_CTRL, 15, 8⟩
def F.CLK_MEDIA_CTRL_DREF : Field := ⟨R.CLK_MEDIA_CTRL, 1, 0⟩
def F.CLK_MEDIA_CTRL_FAMILY : Field := ⟨R.CLK_MEDIA_CTRL, 4, 4⟩
def F.CLK_MEDIA_CTRL_SRC : Field := ⟨R.CLK_MEDIA_CTRL, 5, 5⟩
def F.CLK_MEDIA_CTRL_MULT : Field := ⟨R.CLK_MEDIA_CTRL, 7, 6⟩
def F.CLK_MEDIA_CTRL_LL : Field := ⟨R.CLK_MEDIA_CTRL, 8, 8⟩
def F.CLK_REF_OFFSET_OFFSET : Field := ⟨R.CLK_REF_OFFSET, 31, 0⟩
def F.CLK_DPLL_OFFSET_OFFSET : Field := ⟨R.CLK_DPLL_OFFSET, 31, 0⟩
def F.CLK_SWITCH_DOMAIN : Field := ⟨R.CLK_SWITCH, 3, 0⟩
def F.CLK_SWITCH_SRC : Field := ⟨R.CLK_SWITCH, 7, 4⟩
def F.CLK_SWITCH_REFUSED : Field := ⟨R.CLK_SWITCH, 30, 30⟩
def F.CLK_SWITCH_GO : Field := ⟨R.CLK_SWITCH, 31, 31⟩
def F.CLK_EN_TIME : Field := ⟨R.CLK_EN, 0, 0⟩
def F.CLK_EN_ATELIER : Field := ⟨R.CLK_EN, 1, 1⟩
def F.CLK_EN_MEMC : Field := ⟨R.CLK_EN, 2, 2⟩
def F.CLK_EN_FLASH : Field := ⟨R.CLK_EN, 3, 3⟩
def F.CLK_EN_CRC : Field := ⟨R.CLK_EN, 4, 4⟩
def F.CLK_EN_PORTS : Field := ⟨R.CLK_EN, 5, 5⟩
def F.CLK_EN_PDM : Field := ⟨R.CLK_EN, 6, 6⟩
def F.CLK_EN_ARMATURE : Field := ⟨R.CLK_EN, 7, 7⟩
def F.CLK_EN_NET0_NET3 : Field := ⟨R.CLK_EN, 11, 8⟩
def F.CLK_EN_MEDIA : Field := ⟨R.CLK_EN, 12, 12⟩
def F.CLK_EN_CALIPER : Field := ⟨R.CLK_EN, 13, 13⟩
def F.CLK_EN_RENDER : Field := ⟨R.CLK_EN, 14, 14⟩
def F.CLK_EN_OUTPROC : Field := ⟨R.CLK_EN, 15, 15⟩
def F.CLK_EN_SURVEY : Field := ⟨R.CLK_EN, 16, 16⟩
def F.CLK_EN_TWIN : Field := ⟨R.CLK_EN, 17, 17⟩
def F.CLK_EN_HEALTH : Field := ⟨R.CLK_EN, 18, 18⟩
def F.CLK_EN_SMUDGE : Field := ⟨R.CLK_EN, 19, 19⟩
def F.CLK_EN_UPDATE : Field := ⟨R.CLK_EN, 20, 20⟩
def F.CLK_EN_LOCK_TIME : Field := ⟨R.CLK_EN_LOCK, 0, 0⟩
def F.CLK_EN_LOCK_ATELIER : Field := ⟨R.CLK_EN_LOCK, 1, 1⟩
def F.CLK_EN_LOCK_MEMC : Field := ⟨R.CLK_EN_LOCK, 2, 2⟩
def F.CLK_EN_LOCK_FLASH : Field := ⟨R.CLK_EN_LOCK, 3, 3⟩
def F.CLK_EN_LOCK_CRC : Field := ⟨R.CLK_EN_LOCK, 4, 4⟩
def F.CLK_EN_LOCK_PORTS : Field := ⟨R.CLK_EN_LOCK, 5, 5⟩
def F.CLK_EN_LOCK_PDM : Field := ⟨R.CLK_EN_LOCK, 6, 6⟩
def F.CLK_EN_LOCK_ARMATURE : Field := ⟨R.CLK_EN_LOCK, 7, 7⟩
def F.CLK_EN_LOCK_NET0_NET3 : Field := ⟨R.CLK_EN_LOCK, 11, 8⟩
def F.CLK_EN_LOCK_MEDIA : Field := ⟨R.CLK_EN_LOCK, 12, 12⟩
def F.CLK_EN_LOCK_CALIPER : Field := ⟨R.CLK_EN_LOCK, 13, 13⟩
def F.CLK_EN_LOCK_RENDER : Field := ⟨R.CLK_EN_LOCK, 14, 14⟩
def F.CLK_EN_LOCK_OUTPROC : Field := ⟨R.CLK_EN_LOCK, 15, 15⟩
def F.CLK_EN_LOCK_SURVEY : Field := ⟨R.CLK_EN_LOCK, 16, 16⟩
def F.CLK_EN_LOCK_TWIN : Field := ⟨R.CLK_EN_LOCK, 17, 17⟩
def F.CLK_EN_LOCK_HEALTH : Field := ⟨R.CLK_EN_LOCK, 18, 18⟩
def F.CLK_EN_LOCK_SMUDGE : Field := ⟨R.CLK_EN_LOCK, 19, 19⟩
def F.CLK_EN_LOCK_UPDATE : Field := ⟨R.CLK_EN_LOCK, 20, 20⟩
def F.CLK_EN_BRUSH0_CORE : Field := ⟨R.CLK_EN_BRUSH0, 31, 0⟩
def F.CLK_EN_BRUSH1_CORE : Field := ⟨R.CLK_EN_BRUSH1, 31, 0⟩
def F.CLK_EN_BRUSH2_CORE : Field := ⟨R.CLK_EN_BRUSH2, 31, 0⟩
def F.CLK_EN_REFUSED_COUNT : Field := ⟨R.CLK_EN_REFUSED, 15, 0⟩
def F.CLK_EN_REFUSED_SAT : Field := ⟨R.CLK_EN_REFUSED, 31, 31⟩
def F.CLKOUT0_CTRL_EN : Field := ⟨R.CLKOUT0_CTRL, 0, 0⟩
def F.CLKOUT0_CTRL_SRC : Field := ⟨R.CLKOUT0_CTRL, 1, 1⟩
def F.CLKOUT0_CTRL_DIVH : Field := ⟨R.CLKOUT0_CTRL, 14, 8⟩
def F.CLKOUT1_CTRL_EN : Field := ⟨R.CLKOUT1_CTRL, 0, 0⟩
def F.CLKOUT1_CTRL_SRC : Field := ⟨R.CLKOUT1_CTRL, 1, 1⟩
def F.CLKOUT1_CTRL_DIVH : Field := ⟨R.CLKOUT1_CTRL, 14, 8⟩
def F.CLK_AON_TRIM_CODE : Field := ⟨R.CLK_AON_TRIM, 9, 0⟩
def F.CLK_AON_TRIM_CTRL_SRC : Field := ⟨R.CLK_AON_TRIM_CTRL, 1, 0⟩
def F.CLK_AON_TRIM_CTRL_PORT : Field := ⟨R.CLK_AON_TRIM_CTRL, 6, 4⟩
def F.CLK_AON_TRIM_CTRL_FS : Field := ⟨R.CLK_AON_TRIM_CTRL, 9, 8⟩
def F.CLK_AON_TRIM_CTRL_TRIM_STALE : Field := ⟨R.CLK_AON_TRIM_CTRL, 16, 16⟩
def F.CLK_REF_TRIP_COUNT_COUNT : Field := ⟨R.CLK_REF_TRIP_COUNT, 15, 0⟩
def F.CLK_REF_TRIP_COUNT_SAT : Field := ⟨R.CLK_REF_TRIP_COUNT, 31, 31⟩
def F.CLK_HOLDOVER_COUNT_COUNT : Field := ⟨R.CLK_HOLDOVER_COUNT, 15, 0⟩
def F.CLK_HOLDOVER_COUNT_SAT : Field := ⟨R.CLK_HOLDOVER_COUNT, 31, 31⟩
def F.CLK_DOUBLE_FAULT_COUNT_COUNT : Field := ⟨R.CLK_DOUBLE_FAULT_COUNT, 15, 0⟩
def F.CLK_DOUBLE_FAULT_COUNT_SAT : Field := ⟨R.CLK_DOUBLE_FAULT_COUNT, 31, 31⟩
def F.SYS_GATED_ACCESS_COUNT : Field := ⟨R.SYS_GATED_ACCESS, 15, 0⟩
def F.SYS_GATED_ACCESS_SAT : Field := ⟨R.SYS_GATED_ACCESS, 30, 30⟩
def F.SYS_GATED_ACCESS_CLEAR : Field := ⟨R.SYS_GATED_ACCESS, 31, 31⟩
def F.SYS_GATED_ADDR_LO_ADDR : Field := ⟨R.SYS_GATED_ADDR_LO, 31, 0⟩
def F.SYS_GATED_ADDR_HI_ADDR : Field := ⟨R.SYS_GATED_ADDR_HI, 7, 0⟩
def F.SYS_GATED_ADDR_HI_MASTER : Field := ⟨R.SYS_GATED_ADDR_HI, 15, 8⟩
def F.SYS_GATED_ADDR_HI_WRITE : Field := ⟨R.SYS_GATED_ADDR_HI, 16, 16⟩
def F.TIME_STATUS_STATE : Field := ⟨R.TIME_STATUS, 2, 0⟩
def F.TIME_STATUS_ACTIVE_PORT : Field := ⟨R.TIME_STATUS, 4, 3⟩
def F.TIME_STATUS_JUMP_REFUSED : Field := ⟨R.TIME_STATUS, 5, 5⟩
def F.TIME_STATUS_REALIGNED : Field := ⟨R.TIME_STATUS, 6, 6⟩
def F.TIME_STATUS_EPOCH : Field := ⟨R.TIME_STATUS, 11, 8⟩
def F.TIME_INT_STATUS_JUMP_REFUSED : Field := ⟨R.TIME_INT_STATUS, 0, 0⟩
def F.TIME_INT_STATUS_STEPPED : Field := ⟨R.TIME_INT_STATUS, 1, 1⟩
def F.TIME_INT_STATUS_LOCKED : Field := ⟨R.TIME_INT_STATUS, 2, 2⟩
def F.TIME_INT_STATUS_PTP_LOSS : Field := ⟨R.TIME_INT_STATUS, 3, 3⟩
def F.TIME_INT_STATUS_LEADER_CHANGE : Field := ⟨R.TIME_INT_STATUS, 4, 4⟩
def F.TIME_INT_STATUS_CAPTURE0 : Field := ⟨R.TIME_INT_STATUS, 5, 5⟩
def F.TIME_INT_STATUS_CAPTURE1 : Field := ⟨R.TIME_INT_STATUS, 6, 6⟩
def F.TIME_INT_STATUS_PULSE_FAULT : Field := ⟨R.TIME_INT_STATUS, 7, 7⟩
def F.TIME_INT_STATUS_HALF_RANGE : Field := ⟨R.TIME_INT_STATUS, 8, 8⟩
def F.TIME_INT_ENABLE_JUMP_REFUSED : Field := ⟨R.TIME_INT_ENABLE, 0, 0⟩
def F.TIME_INT_ENABLE_STEPPED : Field := ⟨R.TIME_INT_ENABLE, 1, 1⟩
def F.TIME_INT_ENABLE_LOCKED : Field := ⟨R.TIME_INT_ENABLE, 2, 2⟩
def F.TIME_INT_ENABLE_PTP_LOSS : Field := ⟨R.TIME_INT_ENABLE, 3, 3⟩
def F.TIME_INT_ENABLE_LEADER_CHANGE : Field := ⟨R.TIME_INT_ENABLE, 4, 4⟩
def F.TIME_INT_ENABLE_CAPTURE0 : Field := ⟨R.TIME_INT_ENABLE, 5, 5⟩
def F.TIME_INT_ENABLE_CAPTURE1 : Field := ⟨R.TIME_INT_ENABLE, 6, 6⟩
def F.TIME_INT_ENABLE_PULSE_FAULT : Field := ⟨R.TIME_INT_ENABLE, 7, 7⟩
def F.TIME_INT_ENABLE_HALF_RANGE : Field := ⟨R.TIME_INT_ENABLE, 8, 8⟩
def F.TIME_CTRL_EN : Field := ⟨R.TIME_CTRL, 0, 0⟩
def F.TIME_CTRL_PROFILE : Field := ⟨R.TIME_CTRL, 1, 1⟩
def F.TIME_CTRL_FOLLOWER_ONLY : Field := ⟨R.TIME_CTRL, 2, 2⟩
def F.TIME_CTRL_PORT_EN : Field := ⟨R.TIME_CTRL, 7, 4⟩
def F.TIME_CTRL_PREF_PORT : Field := ⟨R.TIME_CTRL, 9, 8⟩
def F.TIME_CTRL_DOMAIN : Field := ⟨R.TIME_CTRL, 23, 16⟩
def F.TIME_STEP_LIMIT_LIMIT : Field := ⟨R.TIME_STEP_LIMIT, 29, 0⟩
def F.TIME_STEP_ACCEPT_MODE : Field := ⟨R.TIME_STEP_ACCEPT, 0, 0⟩
def F.TIME_STEP_ACCEPT_REFUSED : Field := ⟨R.TIME_STEP_ACCEPT, 30, 30⟩
def F.TIME_STEP_ACCEPT_GO : Field := ⟨R.TIME_STEP_ACCEPT, 31, 31⟩
def F.TIME_LEADER_CFG_PRIORITY1 : Field := ⟨R.TIME_LEADER_CFG, 7, 0⟩
def F.TIME_LEADER_CFG_PRIORITY2 : Field := ⟨R.TIME_LEADER_CFG, 15, 8⟩
def F.TIME_LEADER_CFG_TRACEABLE : Field := ⟨R.TIME_LEADER_CFG, 16, 16⟩
def F.TIME_OFFSET_LO_OFFSET : Field := ⟨R.TIME_OFFSET_LO, 31, 0⟩
def F.TIME_OFFSET_HI_OFFSET : Field := ⟨R.TIME_OFFSET_HI, 31, 0⟩
def F.TIME_MPD_MPD : Field := ⟨R.TIME_MPD, 31, 0⟩
def F.TIME_RATE_RATE : Field := ⟨R.TIME_RATE, 31, 0⟩
def F.TIME_LEADER_ID_LO_ID : Field := ⟨R.TIME_LEADER_ID_LO, 31, 0⟩
def F.TIME_LEADER_ID_HI_ID : Field := ⟨R.TIME_LEADER_ID_HI, 31, 0⟩
def F.TIME_NOW_FRAC_FRAC : Field := ⟨R.TIME_NOW_FRAC, 15, 0⟩
def F.TIME_NOW_NS_NS : Field := ⟨R.TIME_NOW_NS, 31, 0⟩
def F.TIME_NOW_SEC_LO_SEC : Field := ⟨R.TIME_NOW_SEC_LO, 31, 0⟩
def F.TIME_NOW_SEC_HI_SEC : Field := ⟨R.TIME_NOW_SEC_HI, 15, 0⟩
def F.TIME_NOW_SEC_HI_EPOCH : Field := ⟨R.TIME_NOW_SEC_HI, 19, 16⟩
def F.TIME_NOW_MEDIA_LO_N : Field := ⟨R.TIME_NOW_MEDIA_LO, 31, 0⟩
def F.TIME_NOW_MEDIA_HI_N : Field := ⟨R.TIME_NOW_MEDIA_HI, 31, 0⟩
def F.TIME_NOW_MPHASE_PHASE : Field := ⟨R.TIME_NOW_MPHASE, 15, 0⟩
def F.TIME_STEP_COUNT_COUNT : Field := ⟨R.TIME_STEP_COUNT, 15, 0⟩
def F.TIME_STEP_COUNT_SAT : Field := ⟨R.TIME_STEP_COUNT, 31, 31⟩
def F.TIME_STEP_REFUSED_COUNT_COUNT : Field := ⟨R.TIME_STEP_REFUSED_COUNT, 15, 0⟩
def F.TIME_STEP_REFUSED_COUNT_SAT : Field := ⟨R.TIME_STEP_REFUSED_COUNT, 31, 31⟩
def F.TIME_LEADER_CHANGE_COUNT_COUNT : Field := ⟨R.TIME_LEADER_CHANGE_COUNT, 15, 0⟩
def F.TIME_LEADER_CHANGE_COUNT_SAT : Field := ⟨R.TIME_LEADER_CHANGE_COUNT, 31, 31⟩
def F.TIME_OUTLIER_COUNT_COUNT : Field := ⟨R.TIME_OUTLIER_COUNT, 15, 0⟩
def F.TIME_OUTLIER_COUNT_SAT : Field := ⟨R.TIME_OUTLIER_COUNT, 31, 31⟩
def F.TIME_PTP_LOSS_COUNT_COUNT : Field := ⟨R.TIME_PTP_LOSS_COUNT, 15, 0⟩
def F.TIME_PTP_LOSS_COUNT_SAT : Field := ⟨R.TIME_PTP_LOSS_COUNT, 31, 31⟩
def F.TIME_SYNC_RX_COUNT_COUNT : Field := ⟨R.TIME_SYNC_RX_COUNT, 31, 0⟩
def F.TIME_PORT_INGRESS_VALUE (i : Nat) : Field := ⟨R.TIME_PORT_INGRESS i, 31, 0⟩
def F.TIME_PORT_EGRESS_VALUE (i : Nat) : Field := ⟨R.TIME_PORT_EGRESS i, 31, 0⟩
def F.TIME_PORT_ASYM_VALUE (i : Nat) : Field := ⟨R.TIME_PORT_ASYM i, 31, 0⟩
def F.TIME_PULSE_CTRL_ARM (i : Nat) : Field := ⟨R.TIME_PULSE_CTRL i, 0, 0⟩
def F.TIME_PULSE_CTRL_MODE (i : Nat) : Field := ⟨R.TIME_PULSE_CTRL i, 1, 1⟩
def F.TIME_PULSE_CTRL_STOP (i : Nat) : Field := ⟨R.TIME_PULSE_CTRL i, 2, 2⟩
def F.TIME_PULSE_START_NS_NS (i : Nat) : Field := ⟨R.TIME_PULSE_START_NS i, 31, 0⟩
def F.TIME_PULSE_START_SEC_LO_SEC (i : Nat) : Field := ⟨R.TIME_PULSE_START_SEC_LO i, 31, 0⟩
def F.TIME_PULSE_START_SEC_HI_SEC (i : Nat) : Field := ⟨R.TIME_PULSE_START_SEC_HI i, 15, 0⟩
def F.TIME_PULSE_PERIOD_NS_PERIOD (i : Nat) : Field := ⟨R.TIME_PULSE_PERIOD_NS i, 31, 0⟩
def F.TIME_PULSE_WIDTH_NS_WIDTH (i : Nat) : Field := ⟨R.TIME_PULSE_WIDTH_NS i, 29, 0⟩
def F.TIME_PULSE_STATUS_LATE (i : Nat) : Field := ⟨R.TIME_PULSE_STATUS i, 0, 0⟩
def F.TIME_PULSE_STATUS_SKIPPED (i : Nat) : Field := ⟨R.TIME_PULSE_STATUS i, 1, 1⟩
def F.TIME_PULSE_STATUS_BAD_PROGRAM (i : Nat) : Field := ⟨R.TIME_PULSE_STATUS i, 2, 2⟩
def F.TIME_TSIN_CTRL_EDGE (i : Nat) : Field := ⟨R.TIME_TSIN_CTRL i, 1, 0⟩
def F.TIME_TSIN_TS_FRAC_FRAC (i : Nat) : Field := ⟨R.TIME_TSIN_TS_FRAC i, 15, 0⟩
def F.TIME_TSIN_TS_NS_NS (i : Nat) : Field := ⟨R.TIME_TSIN_TS_NS i, 31, 0⟩
def F.TIME_TSIN_TS_SEC_LO_SEC (i : Nat) : Field := ⟨R.TIME_TSIN_TS_SEC_LO i, 31, 0⟩
def F.TIME_TSIN_TS_SEC_HI_SEC (i : Nat) : Field := ⟨R.TIME_TSIN_TS_SEC_HI i, 15, 0⟩
def F.TIME_TSIN_TS_SEC_HI_EPOCH (i : Nat) : Field := ⟨R.TIME_TSIN_TS_SEC_HI i, 19, 16⟩
def F.TIME_TSIN_TS_SEC_HI_PHASE_LO (i : Nat) : Field := ⟨R.TIME_TSIN_TS_SEC_HI i, 27, 20⟩
def F.TIME_TSIN_TS_SEC_HI_VALID (i : Nat) : Field := ⟨R.TIME_TSIN_TS_SEC_HI i, 31, 31⟩
def F.TIME_TSIN_MEDIA_LO_N (i : Nat) : Field := ⟨R.TIME_TSIN_MEDIA_LO i, 31, 0⟩
def F.TIME_TSIN_MEDIA_HI_N (i : Nat) : Field := ⟨R.TIME_TSIN_MEDIA_HI i, 31, 0⟩
def F.TIME_TSIN_STATUS_FILL (i : Nat) : Field := ⟨R.TIME_TSIN_STATUS i, 4, 0⟩
def F.TIME_TSIN_STATUS_PHASE_HI (i : Nat) : Field := ⟨R.TIME_TSIN_STATUS i, 15, 8⟩
def F.TIME_TSIN_OVERFLOW_COUNT (i : Nat) : Field := ⟨R.TIME_TSIN_OVERFLOW i, 15, 0⟩
def F.TIME_TSIN_OVERFLOW_SAT (i : Nat) : Field := ⟨R.TIME_TSIN_OVERFLOW i, 31, 31⟩
def F.SYS_IDENT_IDENT : Field := ⟨R.SYS_IDENT, 31, 0⟩
def F.SYS_MODULE_ISSUE_ISSUE : Field := ⟨R.SYS_MODULE_ISSUE, 7, 0⟩
def F.SYS_CONFIG_ID_ORDER_CODE : Field := ⟨R.SYS_CONFIG_ID, 3, 0⟩
def F.SYS_STRAPS_VIO_SEL : Field := ⟨R.SYS_STRAPS, 0, 0⟩
def F.SYS_STRAPS_BOOT_MODE : Field := ⟨R.SYS_STRAPS, 1, 1⟩
def F.SYS_STRAPS_P3_RATE : Field := ⟨R.SYS_STRAPS, 2, 2⟩
def F.SYS_STRAPS_SMB_ADDR : Field := ⟨R.SYS_STRAPS, 4, 3⟩
def F.SYS_STATUS_STATE : Field := ⟨R.SYS_STATUS, 2, 0⟩
def F.SYS_STATUS_READY : Field := ⟨R.SYS_STATUS, 3, 3⟩
def F.SYS_STATUS_RECOVERY : Field := ⟨R.SYS_STATUS, 4, 4⟩
def F.SYS_STATUS_OUTPUT_HELD : Field := ⟨R.SYS_STATUS, 5, 5⟩
def F.SYS_STATUS_VIN_WARN : Field := ⟨R.SYS_STATUS, 6, 6⟩
def F.SYS_STATUS_THERM_WARN : Field := ⟨R.SYS_STATUS, 7, 7⟩
def F.SYS_STATUS_THERM_HOLD : Field := ⟨R.SYS_STATUS, 8, 8⟩
def F.SYS_STATUS_FUNC_RESET_BUSY : Field := ⟨R.SYS_STATUS, 9, 9⟩
def F.SYS_RESET_CAUSE_POWER_UP : Field := ⟨R.SYS_RESET_CAUSE, 0, 0⟩
def F.SYS_RESET_CAUSE_RESET_N : Field := ⟨R.SYS_RESET_CAUSE, 1, 1⟩
def F.SYS_RESET_CAUSE_MODULE_RESET : Field := ⟨R.SYS_RESET_CAUSE, 2, 2⟩
def F.SYS_RESET_CAUSE_CLOCK_FAULT : Field := ⟨R.SYS_RESET_CAUSE, 3, 3⟩
def F.SYS_RESET_CAUSE_THERMAL_TRIP : Field := ⟨R.SYS_RESET_CAUSE, 4, 4⟩
def F.SYS_RESET_CAUSE_DEEP_WAKE : Field := ⟨R.SYS_RESET_CAUSE, 5, 5⟩
def F.SYS_INT_STATUS_READY : Field := ⟨R.SYS_INT_STATUS, 0, 0⟩
def F.SYS_INT_STATUS_VIN_WARN : Field := ⟨R.SYS_INT_STATUS, 1, 1⟩
def F.SYS_INT_STATUS_VIN_WARN_CLEAR : Field := ⟨R.SYS_INT_STATUS, 2, 2⟩
def F.SYS_INT_STATUS_THERM_WARN : Field := ⟨R.SYS_INT_STATUS, 3, 3⟩
def F.SYS_INT_STATUS_THERM_HOLD : Field := ⟨R.SYS_INT_STATUS, 4, 4⟩
def F.SYS_INT_STATUS_THERM_RESUME : Field := ⟨R.SYS_INT_STATUS, 5, 5⟩
def F.SYS_INT_STATUS_FUNC_RESET_DONE : Field := ⟨R.SYS_INT_STATUS, 6, 6⟩
def F.SYS_INT_STATUS_PD_ON : Field := ⟨R.SYS_INT_STATUS, 7, 7⟩
def F.SYS_INT_STATUS_GATED_ACCESS : Field := ⟨R.SYS_INT_STATUS, 8, 8⟩
def F.SYS_INT_STATUS_OUTPUT_RELEASED : Field := ⟨R.SYS_INT_STATUS, 9, 9⟩
def F.SYS_INT_ENABLE_READY : Field := ⟨R.SYS_INT_ENABLE, 0, 0⟩
def F.SYS_INT_ENABLE_VIN_WARN : Field := ⟨R.SYS_INT_ENABLE, 1, 1⟩
def F.SYS_INT_ENABLE_VIN_WARN_CLEAR : Field := ⟨R.SYS_INT_ENABLE, 2, 2⟩
def F.SYS_INT_ENABLE_THERM_WARN : Field := ⟨R.SYS_INT_ENABLE, 3, 3⟩
def F.SYS_INT_ENABLE_THERM_HOLD : Field := ⟨R.SYS_INT_ENABLE, 4, 4⟩
def F.SYS_INT_ENABLE_THERM_RESUME : Field := ⟨R.SYS_INT_ENABLE, 5, 5⟩
def F.SYS_INT_ENABLE_FUNC_RESET_DONE : Field := ⟨R.SYS_INT_ENABLE, 6, 6⟩
def F.SYS_INT_ENABLE_PD_ON : Field := ⟨R.SYS_INT_ENABLE, 7, 7⟩
def F.SYS_INT_ENABLE_GATED_ACCESS : Field := ⟨R.SYS_INT_ENABLE, 8, 8⟩
def F.SYS_INT_ENABLE_OUTPUT_RELEASED : Field := ⟨R.SYS_INT_ENABLE, 9, 9⟩
def F.SYS_RESET_CTRL_KIND : Field := ⟨R.SYS_RESET_CTRL, 0, 0⟩
def F.SYS_RESET_CTRL_REFUSED : Field := ⟨R.SYS_RESET_CTRL, 30, 30⟩
def F.SYS_RESET_CTRL_GO : Field := ⟨R.SYS_RESET_CTRL, 31, 31⟩
def F.SYS_FUNC_RESET_FUNC : Field := ⟨R.SYS_FUNC_RESET, 5, 0⟩
def F.SYS_FUNC_RESET_FORCE : Field := ⟨R.SYS_FUNC_RESET, 8, 8⟩
def F.SYS_FUNC_RESET_BUSY : Field := ⟨R.SYS_FUNC_RESET, 29, 29⟩
def F.SYS_FUNC_RESET_REFUSED : Field := ⟨R.SYS_FUNC_RESET, 30, 30⟩
def F.SYS_FUNC_RESET_GO : Field := ⟨R.SYS_FUNC_RESET, 31, 31⟩
def F.SYS_FUNC_RESET_COUNT_COUNT : Field := ⟨R.SYS_FUNC_RESET_COUNT, 15, 0⟩
def F.SYS_FUNC_RESET_COUNT_SAT : Field := ⟨R.SYS_FUNC_RESET_COUNT, 31, 31⟩
def F.SYS_VIN_WARN_COUNT_COUNT : Field := ⟨R.SYS_VIN_WARN_COUNT, 15, 0⟩
def F.SYS_VIN_WARN_COUNT_SAT : Field := ⟨R.SYS_VIN_WARN_COUNT, 31, 31⟩
def F.SYS_START_CFG_HOLD_MUTE : Field := ⟨R.SYS_START_CFG, 0, 0⟩
def F.SYS_START_CFG_RESTORE : Field := ⟨R.SYS_START_CFG, 1, 1⟩
def F.SYS_OUTPUT_RELEASE_GO : Field := ⟨R.SYS_OUTPUT_RELEASE, 0, 0⟩
def F.SYS_STANDBY_CTRL_LEVEL : Field := ⟨R.SYS_STANDBY_CTRL, 1, 0⟩
def F.SYS_STANDBY_CTRL_WAKE_AT_EN : Field := ⟨R.SYS_STANDBY_CTRL, 4, 4⟩
def F.SYS_STANDBY_CTRL_REFUSED : Field := ⟨R.SYS_STANDBY_CTRL, 30, 30⟩
def F.SYS_STANDBY_CTRL_GO : Field := ⟨R.SYS_STANDBY_CTRL, 31, 31⟩
def F.SYS_WAKE_AT_LO_SEC : Field := ⟨R.SYS_WAKE_AT_LO, 31, 0⟩
def F.SYS_WAKE_AT_HI_SEC : Field := ⟨R.SYS_WAKE_AT_HI, 15, 0⟩
def F.SYS_VIN_VIN : Field := ⟨R.SYS_VIN, 15, 0⟩
def F.SYS_PIN_PIN : Field := ⟨R.SYS_PIN, 15, 0⟩
def F.SYS_TDIE_TDIE : Field := ⟨R.SYS_TDIE, 15, 0⟩
def F.SYS_TBOARD_TBOARD : Field := ⟨R.SYS_TBOARD, 15, 0⟩
def F.SYS_START_TIME_MS : Field := ⟨R.SYS_START_TIME, 15, 0⟩
def F.SYS_WAKE_TOL_TOL (i : Nat) : Field := ⟨R.SYS_WAKE_TOL i, 25, 0⟩
def F.SYS_PD_STATE_PD (n : Nat) : Field := ⟨R.SYS_PD_STATE, 2*n+1, 2*n⟩
def F.SYS_PD_WAKING_WAKING : Field := ⟨R.SYS_PD_WAKING, 12, 0⟩
def F.SYS_BACKUP_SEC_LO_SEC : Field := ⟨R.SYS_BACKUP_SEC_LO, 31, 0⟩
def F.SYS_BACKUP_SEC_HI_SEC : Field := ⟨R.SYS_BACKUP_SEC_HI, 15, 0⟩
def F.SYS_BACKUP_SEC_HI_VALID : Field := ⟨R.SYS_BACKUP_SEC_HI, 31, 31⟩
def F.HOST_STATUS_LINK_UP : Field := ⟨R.HOST_STATUS, 0, 0⟩
def F.HOST_STATUS_SPEED : Field := ⟨R.HOST_STATUS, 3, 1⟩
def F.HOST_STATUS_WIDTH : Field := ⟨R.HOST_STATUS, 6, 4⟩
def F.HOST_STATUS_EASEL_READY : Field := ⟨R.HOST_STATUS, 7, 7⟩
def F.HOST_STATUS_RESTARTING : Field := ⟨R.HOST_STATUS, 8, 8⟩
def F.HOST_STATUS_EXPERT_OPEN : Field := ⟨R.HOST_STATUS, 9, 9⟩
def F.HOST_INT_STATUS_MBX_STALL : Field := ⟨R.HOST_INT_STATUS, 0, 0⟩
def F.HOST_INT_STATUS_HOLD_BAD_RELEASE : Field := ⟨R.HOST_INT_STATUS, 1, 1⟩
def F.HOST_INT_STATUS_BAR0_DENIED : Field := ⟨R.HOST_INT_STATUS, 2, 2⟩
def F.HOST_INT_STATUS_CMD_RING_ERROR : Field := ⟨R.HOST_INT_STATUS, 3, 3⟩
def F.HOST_INT_STATUS_DISCARD : Field := ⟨R.HOST_INT_STATUS, 4, 4⟩
def F.HOST_INT_STATUS_HALF_RANGE : Field := ⟨R.HOST_INT_STATUS, 5, 5⟩
def F.HOST_INT_STATUS_MBX_OVERRUN : Field := ⟨R.HOST_INT_STATUS, 6, 6⟩
def F.HOST_INT_STATUS_SESSION_CLOSED : Field := ⟨R.HOST_INT_STATUS, 7, 7⟩
def F.HOST_INT_ENABLE_MBX_STALL : Field := ⟨R.HOST_INT_ENABLE, 0, 0⟩
def F.HOST_INT_ENABLE_HOLD_BAD_RELEASE : Field := ⟨R.HOST_INT_ENABLE, 1, 1⟩
def F.HOST_INT_ENABLE_BAR0_DENIED : Field := ⟨R.HOST_INT_ENABLE, 2, 2⟩
def F.HOST_INT_ENABLE_CMD_RING_ERROR : Field := ⟨R.HOST_INT_ENABLE, 3, 3⟩
def F.HOST_INT_ENABLE_DISCARD : Field := ⟨R.HOST_INT_ENABLE, 4, 4⟩
def F.HOST_INT_ENABLE_HALF_RANGE : Field := ⟨R.HOST_INT_ENABLE, 5, 5⟩
def F.HOST_INT_ENABLE_MBX_OVERRUN : Field := ⟨R.HOST_INT_ENABLE, 6, 6⟩
def F.HOST_INT_ENABLE_SESSION_CLOSED : Field := ⟨R.HOST_INT_ENABLE, 7, 7⟩
def F.HOST_EXPERT_CTRL_UDP_ALLOW : Field := ⟨R.HOST_EXPERT_CTRL, 0, 0⟩
def F.HOST_EXPERT_CTRL_BAR0_WRITE_EN : Field := ⟨R.HOST_EXPERT_CTRL, 1, 1⟩
def F.HOST_EXPERT_CTRL_SESSION : Field := ⟨R.HOST_EXPERT_CTRL, 31, 16⟩
def F.HOST_BAR2_BASE_BASE : Field := ⟨R.HOST_BAR2_BASE, 5, 0⟩
def F.HOST_CMD_BASE_LO_BASE : Field := ⟨R.HOST_CMD_BASE_LO, 31, 12⟩
def F.HOST_CMD_BASE_HI_BASE : Field := ⟨R.HOST_CMD_BASE_HI, 31, 0⟩
def F.HOST_CMD_SIZE_LOG2 : Field := ⟨R.HOST_CMD_SIZE, 3, 0⟩
def F.HOST_CMD_SIZE_EN : Field := ⟨R.HOST_CMD_SIZE, 31, 31⟩
def F.HOST_CMD_PROD_INDEX : Field := ⟨R.HOST_CMD_PROD, 11, 0⟩
def F.HOST_CMD_CONS_INDEX : Field := ⟨R.HOST_CMD_CONS, 11, 0⟩
def F.HOST_RPL_BASE_LO_BASE : Field := ⟨R.HOST_RPL_BASE_LO, 31, 12⟩
def F.HOST_RPL_BASE_HI_BASE : Field := ⟨R.HOST_RPL_BASE_HI, 31, 0⟩
def F.HOST_RPL_SIZE_LOG2 : Field := ⟨R.HOST_RPL_SIZE, 3, 0⟩
def F.HOST_RPL_SIZE_EN : Field := ⟨R.HOST_RPL_SIZE, 31, 31⟩
def F.HOST_RPL_PROD_INDEX : Field := ⟨R.HOST_RPL_PROD, 11, 0⟩
def F.HOST_RPL_CONS_INDEX : Field := ⟨R.HOST_RPL_CONS, 11, 0⟩
def F.HOST_EASEL_RX_COUNT_COUNT : Field := ⟨R.HOST_EASEL_RX_COUNT, 31, 0⟩
def F.HOST_EASEL_DISCARD_COUNT : Field := ⟨R.HOST_EASEL_DISCARD, 15, 0⟩
def F.HOST_EASEL_DISCARD_SAT : Field := ⟨R.HOST_EASEL_DISCARD, 31, 31⟩
def F.HOST_HOLD_BAD_RELEASE_COUNT : Field := ⟨R.HOST_HOLD_BAD_RELEASE, 15, 0⟩
def F.HOST_HOLD_BAD_RELEASE_SAT : Field := ⟨R.HOST_HOLD_BAD_RELEASE, 31, 31⟩
def F.HOST_MBX_OVERRUN_COUNT : Field := ⟨R.HOST_MBX_OVERRUN, 15, 0⟩
def F.HOST_MBX_OVERRUN_SAT : Field := ⟨R.HOST_MBX_OVERRUN, 31, 31⟩
def F.HOST_BAR0_DENIED_COUNT : Field := ⟨R.HOST_BAR0_DENIED, 15, 0⟩
def F.HOST_BAR0_DENIED_SAT : Field := ⟨R.HOST_BAR0_DENIED, 30, 30⟩
def F.HOST_BAR0_DENIED_CLEAR : Field := ⟨R.HOST_BAR0_DENIED, 31, 31⟩
def F.HOST_BAR0_DENIED_ADDR_LO_ADDR : Field := ⟨R.HOST_BAR0_DENIED_ADDR_LO, 31, 0⟩
def F.HOST_BAR0_DENIED_ADDR_HI_ADDR : Field := ⟨R.HOST_BAR0_DENIED_ADDR_HI, 7, 0⟩
def F.HOST_DB_STATUS_DB : Field := ⟨R.HOST_DB_STATUS, 6, 0⟩
def F.HOST_DB_MASK_MASK : Field := ⟨R.HOST_DB_MASK, 6, 0⟩
def F.HOST_MBX_H2F_WORD (i : Nat) : Field := ⟨R.HOST_MBX_H2F i, 31, 0⟩
def F.HOST_MBX_F2H_WORD (i : Nat) : Field := ⟨R.HOST_MBX_F2H i, 31, 0⟩
def F.HOST_MBX_STATUS_H2F_FULL (i : Nat) : Field := ⟨R.HOST_MBX_STATUS i, 0, 0⟩
def F.HOST_MBX_STATUS_F2H_FULL (i : Nat) : Field := ⟨R.HOST_MBX_STATUS i, 1, 1⟩
def F.HOST_MBX_STATUS_ABORT (i : Nat) : Field := ⟨R.HOST_MBX_STATUS i, 2, 2⟩
def F.HOST_MBX_STATUS_STALL (i : Nat) : Field := ⟨R.HOST_MBX_STATUS i, 3, 3⟩
def F.HOST_MBX_ACK_ACK (i : Nat) : Field := ⟨R.HOST_MBX_ACK i, 0, 0⟩
def F.HOST_MBX_STALL_PAIR : Field := ⟨R.HOST_MBX_STALL, 15, 0⟩
def F.HOST_HOLD_HOLD (i : Nat) : Field := ⟨R.HOST_HOLD i, 31, 0⟩
def F.HOST_HOLD_HELD_LO_HELD : Field := ⟨R.HOST_HOLD_HELD_LO, 31, 0⟩
def F.HOST_HOLD_HELD_HI_HELD : Field := ⟨R.HOST_HOLD_HELD_HI, 31, 0⟩
def F.HOST_INT_ROUTE_VECTOR (i : Nat) : Field := ⟨R.HOST_INT_ROUTE i, 5, 0⟩
def F.HOST_INT_ROUTE_EN (i : Nat) : Field := ⟨R.HOST_INT_ROUTE i, 31, 31⟩
def F.CALIPER_STATUS_RUNNING : Field := ⟨R.CALIPER_STATUS, 0, 0⟩
def F.CALIPER_STATUS_MAQUETTE : Field := ⟨R.CALIPER_STATUS, 1, 1⟩
def F.CALIPER_STATUS_SWAP_PENDING : Field := ⟨R.CALIPER_STATUS, 5, 2⟩
def F.CALIPER_STATUS_GLAZE_ACTIVE : Field := ⟨R.CALIPER_STATUS, 9, 6⟩
def F.CALIPER_STATUS_SPEED_SOURCE : Field := ⟨R.CALIPER_STATUS, 11, 10⟩
def F.CALIPER_INT_STATUS_SWAP_DONE : Field := ⟨R.CALIPER_INT_STATUS, 0, 0⟩
def F.CALIPER_INT_STATUS_SWAP_DEFERRED : Field := ⟨R.CALIPER_INT_STATUS, 1, 1⟩
def F.CALIPER_INT_STATUS_DOPPLER : Field := ⟨R.CALIPER_INT_STATUS, 2, 2⟩
def F.CALIPER_INT_STATUS_BOX_CLAMP : Field := ⟨R.CALIPER_INT_STATUS, 3, 3⟩
def F.CALIPER_INT_STATUS_STREAM_IGNORED : Field := ⟨R.CALIPER_INT_STATUS, 4, 4⟩
def F.CALIPER_INT_STATUS_MAQUETTE_END : Field := ⟨R.CALIPER_INT_STATUS, 5, 5⟩
def F.CALIPER_INT_STATUS_HALF_RANGE : Field := ⟨R.CALIPER_INT_STATUS, 6, 6⟩
def F.CALIPER_INT_STATUS_SAT : Field := ⟨R.CALIPER_INT_STATUS, 7, 7⟩
def F.CALIPER_INT_ENABLE_SWAP_DONE : Field := ⟨R.CALIPER_INT_ENABLE, 0, 0⟩
def F.CALIPER_INT_ENABLE_SWAP_DEFERRED : Field := ⟨R.CALIPER_INT_ENABLE, 1, 1⟩
def F.CALIPER_INT_ENABLE_DOPPLER : Field := ⟨R.CALIPER_INT_ENABLE, 2, 2⟩
def F.CALIPER_INT_ENABLE_BOX_CLAMP : Field := ⟨R.CALIPER_INT_ENABLE, 3, 3⟩
def F.CALIPER_INT_ENABLE_STREAM_IGNORED : Field := ⟨R.CALIPER_INT_ENABLE, 4, 4⟩
def F.CALIPER_INT_ENABLE_MAQUETTE_END : Field := ⟨R.CALIPER_INT_ENABLE, 5, 5⟩
def F.CALIPER_INT_ENABLE_HALF_RANGE : Field := ⟨R.CALIPER_INT_ENABLE, 6, 6⟩
def F.CALIPER_INT_ENABLE_SAT : Field := ⟨R.CALIPER_INT_ENABLE, 7, 7⟩
def F.CALIPER_CTRL_PERIOD : Field := ⟨R.CALIPER_CTRL, 4, 0⟩
def F.CALIPER_CTRL_GLAZE : Field := ⟨R.CALIPER_CTRL, 16, 8⟩
def F.CALIPER_FRONT_TAPER : Field := ⟨R.CALIPER_FRONT, 5, 0⟩
def F.CALIPER_FRONT_DREF : Field := ⟨R.CALIPER_FRONT, 15, 8⟩
def F.CALIPER_AIR_K_K : Field := ⟨R.CALIPER_AIR_K, 15, 0⟩
def F.CALIPER_NEAR_HYST_HYST : Field := ⟨R.CALIPER_NEAR_HYST, 12, 0⟩
def F.CALIPER_SPEED_SPEED : Field := ⟨R.CALIPER_SPEED, 31, 0⟩
def F.CALIPER_PERIOD_START_LO_N : Field := ⟨R.CALIPER_PERIOD_START_LO, 31, 0⟩
def F.CALIPER_PERIOD_START_HI_N : Field := ⟨R.CALIPER_PERIOD_START_HI, 31, 0⟩
def F.CALIPER_LAST_SWAP_LO_N : Field := ⟨R.CALIPER_LAST_SWAP_LO, 31, 0⟩
def F.CALIPER_LAST_SWAP_HI_N : Field := ⟨R.CALIPER_LAST_SWAP_HI, 27, 0⟩
def F.CALIPER_LAST_SWAP_HI_MASK : Field := ⟨R.CALIPER_LAST_SWAP_HI, 31, 28⟩
def F.CALIPER_PAL_STATUS_STAGED_READY : Field := ⟨R.CALIPER_PAL_STATUS, 3, 0⟩
def F.CALIPER_PAL_STATUS_LIVE_BANK : Field := ⟨R.CALIPER_PAL_STATUS, 7, 4⟩
def F.CALIPER_MAQUETTE_EN : Field := ⟨R.CALIPER_MAQUETTE, 0, 0⟩
def F.CALIPER_MAQUETTE_PAIR : Field := ⟨R.CALIPER_MAQUETTE, 3, 1⟩
def F.CALIPER_BOX_CLAMP_COUNT_COUNT : Field := ⟨R.CALIPER_BOX_CLAMP_COUNT, 15, 0⟩
def F.CALIPER_BOX_CLAMP_COUNT_SAT : Field := ⟨R.CALIPER_BOX_CLAMP_COUNT, 31, 31⟩
def F.CALIPER_DOPPLER_COUNT_COUNT : Field := ⟨R.CALIPER_DOPPLER_COUNT, 15, 0⟩
def F.CALIPER_DOPPLER_COUNT_SAT : Field := ⟨R.CALIPER_DOPPLER_COUNT, 31, 31⟩
def F.CALIPER_STREAM_IGNORED_COUNT : Field := ⟨R.CALIPER_STREAM_IGNORED, 15, 0⟩
def F.CALIPER_STREAM_IGNORED_SAT : Field := ⟨R.CALIPER_STREAM_IGNORED, 31, 31⟩
def F.CALIPER_SWAP_DEFERRED_COUNT : Field := ⟨R.CALIPER_SWAP_DEFERRED, 15, 0⟩
def F.CALIPER_SWAP_DEFERRED_SAT : Field := ⟨R.CALIPER_SWAP_DEFERRED, 31, 31⟩
def F.CALIPER_SUPERSEDED_COUNT : Field := ⟨R.CALIPER_SUPERSEDED, 31, 0⟩
def F.CALIPER_STREAM_ENTRIES_COUNT : Field := ⟨R.CALIPER_STREAM_ENTRIES, 31, 0⟩
def F.CALIPER_TIER_SWITCH_COUNT : Field := ⟨R.CALIPER_TIER_SWITCH, 31, 0⟩
def F.RENDER_STATUS_RUNNING : Field := ⟨R.RENDER_STATUS, 0, 0⟩
def F.RENDER_STATUS_RATE : Field := ⟨R.RENDER_STATUS, 2, 1⟩
def F.RENDER_STATUS_STAGED_SUMS : Field := ⟨R.RENDER_STATUS, 3, 3⟩
def F.RENDER_STATUS_GLAZE0 : Field := ⟨R.RENDER_STATUS, 4, 4⟩
def F.RENDER_INT_STATUS_CLIP : Field := ⟨R.RENDER_INT_STATUS, 0, 0⟩
def F.RENDER_INT_STATUS_NEAR_CORRECTED : Field := ⟨R.RENDER_INT_STATUS, 1, 1⟩
def F.RENDER_INT_STATUS_NEAR_UNCORRECTED : Field := ⟨R.RENDER_INT_STATUS, 2, 2⟩
def F.RENDER_INT_STATUS_FAR_LATE : Field := ⟨R.RENDER_INT_STATUS, 3, 3⟩
def F.RENDER_INT_STATUS_FAR_ECC : Field := ⟨R.RENDER_INT_STATUS, 4, 4⟩
def F.RENDER_INT_STATUS_OVERRUN : Field := ⟨R.RENDER_INT_STATUS, 5, 5⟩
def F.RENDER_INT_STATUS_EXPERT_CLAMP : Field := ⟨R.RENDER_INT_STATUS, 6, 6⟩
def F.RENDER_INT_STATUS_SPARE_CHANGE : Field := ⟨R.RENDER_INT_STATUS, 7, 7⟩
def F.RENDER_INT_STATUS_HALF_RANGE : Field := ⟨R.RENDER_INT_STATUS, 8, 8⟩
def F.RENDER_INT_STATUS_SAT : Field := ⟨R.RENDER_INT_STATUS, 9, 9⟩
def F.RENDER_INT_ENABLE_CLIP : Field := ⟨R.RENDER_INT_ENABLE, 0, 0⟩
def F.RENDER_INT_ENABLE_NEAR_CORRECTED : Field := ⟨R.RENDER_INT_ENABLE, 1, 1⟩
def F.RENDER_INT_ENABLE_NEAR_UNCORRECTED : Field := ⟨R.RENDER_INT_ENABLE, 2, 2⟩
def F.RENDER_INT_ENABLE_FAR_LATE : Field := ⟨R.RENDER_INT_ENABLE, 3, 3⟩
def F.RENDER_INT_ENABLE_FAR_ECC : Field := ⟨R.RENDER_INT_ENABLE, 4, 4⟩
def F.RENDER_INT_ENABLE_OVERRUN : Field := ⟨R.RENDER_INT_ENABLE, 5, 5⟩
def F.RENDER_INT_ENABLE_EXPERT_CLAMP : Field := ⟨R.RENDER_INT_ENABLE, 6, 6⟩
def F.RENDER_INT_ENABLE_SPARE_CHANGE : Field := ⟨R.RENDER_INT_ENABLE, 7, 7⟩
def F.RENDER_INT_ENABLE_HALF_RANGE : Field := ⟨R.RENDER_INT_ENABLE, 8, 8⟩
def F.RENDER_INT_ENABLE_SAT : Field := ⟨R.RENDER_INT_ENABLE, 9, 9⟩
def F.RENDER_ENGINE_MAP_RE (n : Nat) : Field := ⟨R.RENDER_ENGINE_MAP, 3*n+2, 3*n⟩
def F.RENDER_LANE_SPARE_LANE (n : Nat) : Field := ⟨R.RENDER_LANE_SPARE, 8*n+4, 8*n⟩
def F.RENDER_LANE_SPARE_VALID (n : Nat) : Field := ⟨R.RENDER_LANE_SPARE, 8*n+7, 8*n+7⟩
def F.RENDER_LANE_RETIRED_LANE : Field := ⟨R.RENDER_LANE_RETIRED, 31, 0⟩
def F.RENDER_LANE_RETIRED8_LANE : Field := ⟨R.RENDER_LANE_RETIRED8, 3, 0⟩
def F.RENDER_LOAD_SLOTS_SLOTS : Field := ⟨R.RENDER_LOAD_SLOTS, 19, 0⟩
def F.RENDER_LOAD_FAR_FAR : Field := ⟨R.RENDER_LOAD_FAR, 16, 0⟩
def F.RENDER_LOAD_FAR_OBJ_OBJECTS : Field := ⟨R.RENDER_LOAD_FAR_OBJ, 8, 0⟩
def F.RENDER_LANE_MAX_SLOTS : Field := ⟨R.RENDER_LANE_MAX, 14, 0⟩
def F.RENDER_PEAK_BUSY_CYCLES : Field := ⟨R.RENDER_PEAK_BUSY, 19, 0⟩
def F.RENDER_FAR_BASE_LO_BASE : Field := ⟨R.RENDER_FAR_BASE_LO, 31, 0⟩
def F.RENDER_FAR_BASE_HI_BASE : Field := ⟨R.RENDER_FAR_BASE_HI, 7, 0⟩
def F.RENDER_EXPERT_OBJ_OBJ (i : Nat) : Field := ⟨R.RENDER_EXPERT_OBJ i, 31, 0⟩
def F.RENDER_FIRST_UNCORR_ADDR : Field := ⟨R.RENDER_FIRST_UNCORR, 23, 0⟩
def F.RENDER_FIRST_UNCORR_CLEAR : Field := ⟨R.RENDER_FIRST_UNCORR, 30, 30⟩
def F.RENDER_FIRST_UNCORR_VALID : Field := ⟨R.RENDER_FIRST_UNCORR, 31, 31⟩
def F.RENDER_NEAR_CORRECTED_COUNT : Field := ⟨R.RENDER_NEAR_CORRECTED, 15, 0⟩
def F.RENDER_NEAR_CORRECTED_SAT : Field := ⟨R.RENDER_NEAR_CORRECTED, 31, 31⟩
def F.RENDER_NEAR_UNCORRECTED_COUNT : Field := ⟨R.RENDER_NEAR_UNCORRECTED, 15, 0⟩
def F.RENDER_NEAR_UNCORRECTED_SAT : Field := ⟨R.RENDER_NEAR_UNCORRECTED, 31, 31⟩
def F.RENDER_FAR_LATE_COUNT : Field := ⟨R.RENDER_FAR_LATE, 15, 0⟩
def F.RENDER_FAR_LATE_SAT : Field := ⟨R.RENDER_FAR_LATE, 31, 31⟩
def F.RENDER_FAR_ECC_COUNT : Field := ⟨R.RENDER_FAR_ECC, 15, 0⟩
def F.RENDER_FAR_ECC_SAT : Field := ⟨R.RENDER_FAR_ECC, 31, 31⟩
def F.RENDER_OVERRUN_COUNT : Field := ⟨R.RENDER_OVERRUN, 15, 0⟩
def F.RENDER_OVERRUN_SAT : Field := ⟨R.RENDER_OVERRUN, 31, 31⟩
def F.RENDER_EXPERT_CLAMP_COUNT : Field := ⟨R.RENDER_EXPERT_CLAMP, 15, 0⟩
def F.RENDER_EXPERT_CLAMP_SAT : Field := ⟨R.RENDER_EXPERT_CLAMP, 31, 31⟩
def F.RENDER_WINDOW_FETCH_COUNT : Field := ⟨R.RENDER_WINDOW_FETCH, 31, 0⟩
def F.RENDER_WINDOW_SHARED_COUNT : Field := ⟨R.RENDER_WINDOW_SHARED, 31, 0⟩
def F.RENDER_FAR_FETCH_COUNT : Field := ⟨R.RENDER_FAR_FETCH, 31, 0⟩
def F.RENDER_HEADROOM_SHIFT (i : Nat) (n : Nat) : Field := ⟨R.RENDER_HEADROOM i, 4*n+3, 4*n⟩
def F.RENDER_CLIP_COUNT (i : Nat) : Field := ⟨R.RENDER_CLIP i, 15, 0⟩
def F.RENDER_CLIP_SAT (i : Nat) : Field := ⟨R.RENDER_CLIP i, 31, 31⟩
def F.OUTPROC_STATUS_RUNNING : Field := ⟨R.OUTPROC_STATUS, 0, 0⟩
def F.OUTPROC_STATUS_GLAZE : Field := ⟨R.OUTPROC_STATUS, 1, 1⟩
def F.OUTPROC_STATUS_CORES : Field := ⟨R.OUTPROC_STATUS, 8, 2⟩
def F.OUTPROC_INT_STATUS_CLIP : Field := ⟨R.OUTPROC_INT_STATUS, 0, 0⟩
def F.OUTPROC_INT_STATUS_OVERRUN : Field := ⟨R.OUTPROC_INT_STATUS, 1, 1⟩
def F.OUTPROC_INT_STATUS_MUTE_DONE : Field := ⟨R.OUTPROC_INT_STATUS, 2, 2⟩
def F.OUTPROC_INT_STATUS_COMMIT_DONE : Field := ⟨R.OUTPROC_INT_STATUS, 3, 3⟩
def F.OUTPROC_INT_STATUS_SAT : Field := ⟨R.OUTPROC_INT_STATUS, 4, 4⟩
def F.OUTPROC_INT_ENABLE_CLIP : Field := ⟨R.OUTPROC_INT_ENABLE, 0, 0⟩
def F.OUTPROC_INT_ENABLE_OVERRUN : Field := ⟨R.OUTPROC_INT_ENABLE, 1, 1⟩
def F.OUTPROC_INT_ENABLE_MUTE_DONE : Field := ⟨R.OUTPROC_INT_ENABLE, 2, 2⟩
def F.OUTPROC_INT_ENABLE_COMMIT_DONE : Field := ⟨R.OUTPROC_INT_ENABLE, 3, 3⟩
def F.OUTPROC_INT_ENABLE_SAT : Field := ⟨R.OUTPROC_INT_ENABLE, 4, 4⟩
def F.OUTPROC_TAIL_BASE_LO_BASE : Field := ⟨R.OUTPROC_TAIL_BASE_LO, 31, 0⟩
def F.OUTPROC_TAIL_BASE_HI_BASE : Field := ⟨R.OUTPROC_TAIL_BASE_HI, 7, 0⟩
def F.OUTPROC_LAST_CLIP_OUTPUT : Field := ⟨R.OUTPROC_LAST_CLIP, 8, 0⟩
def F.OUTPROC_LAST_CLIP_STAGE : Field := ⟨R.OUTPROC_LAST_CLIP, 11, 9⟩
def F.OUTPROC_LAST_CLIP_CLEAR : Field := ⟨R.OUTPROC_LAST_CLIP, 30, 30⟩
def F.OUTPROC_LAST_CLIP_VALID : Field := ⟨R.OUTPROC_LAST_CLIP, 31, 31⟩
def F.OUTPROC_OVERRUN_COUNT : Field := ⟨R.OUTPROC_OVERRUN, 15, 0⟩
def F.OUTPROC_OVERRUN_SAT : Field := ⟨R.OUTPROC_OVERRUN, 31, 31⟩
def F.OUTPROC_MUTE_MUTE (i : Nat) : Field := ⟨R.OUTPROC_MUTE i, 31, 0⟩
def F.OUTPROC_CLIP_COUNT (i : Nat) : Field := ⟨R.OUTPROC_CLIP i, 15, 0⟩
def F.OUTPROC_CLIP_SAT (i : Nat) : Field := ⟨R.OUTPROC_CLIP i, 31, 31⟩
def F.OUTPROC_GR_GR_MAX (i : Nat) : Field := ⟨R.OUTPROC_GR i, 15, 0⟩
def F.PDM_STATUS_SETTLED : Field := ⟨R.PDM_STATUS, 15, 0⟩
def F.PDM_STATUS_STUCK : Field := ⟨R.PDM_STATUS, 31, 16⟩
def F.PDM_INT_STATUS_SETTLED : Field := ⟨R.PDM_INT_STATUS, 0, 0⟩
def F.PDM_INT_STATUS_STUCK : Field := ⟨R.PDM_INT_STATUS, 1, 1⟩
def F.PDM_INT_STATUS_CHAIN_SAT : Field := ⟨R.PDM_INT_STATUS, 2, 2⟩
def F.PDM_INT_STATUS_SAT : Field := ⟨R.PDM_INT_STATUS, 3, 3⟩
def F.PDM_INT_ENABLE_SETTLED : Field := ⟨R.PDM_INT_ENABLE, 0, 0⟩
def F.PDM_INT_ENABLE_STUCK : Field := ⟨R.PDM_INT_ENABLE, 1, 1⟩
def F.PDM_INT_ENABLE_CHAIN_SAT : Field := ⟨R.PDM_INT_ENABLE, 2, 2⟩
def F.PDM_INT_ENABLE_SAT : Field := ⟨R.PDM_INT_ENABLE, 3, 3⟩
def F.PDM_CLK_CTRL_EN (n : Nat) : Field := ⟨R.PDM_CLK_CTRL, 4*n, 4*n⟩
def F.PDM_CLK_CTRL_RATE (n : Nat) : Field := ⟨R.PDM_CLK_CTRL, 4*n+1, 4*n+1⟩
def F.PDM_RESAMPLE_STEP_STEP : Field := ⟨R.PDM_RESAMPLE_STEP, 31, 0⟩
def F.PDM_CH_CTRL_EN (i : Nat) : Field := ⟨R.PDM_CH_CTRL i, 0, 0⟩
def F.PDM_CH_CTRL_D1 (i : Nat) : Field := ⟨R.PDM_CH_CTRL i, 2, 1⟩
def F.PDM_CH_CTRL_SH_CIC (i : Nat) : Field := ⟨R.PDM_CH_CTRL i, 7, 4⟩
def F.PDM_CH_CTRL_SH_OUT (i : Nat) : Field := ⟨R.PDM_CH_CTRL i, 11, 8⟩
def F.PDM_CH_CTRL_WAKE (i : Nat) : Field := ⟨R.PDM_CH_CTRL i, 23, 16⟩
def F.PDM_STUCK_COUNT_COUNT : Field := ⟨R.PDM_STUCK_COUNT, 15, 0⟩
def F.PDM_STUCK_COUNT_SAT : Field := ⟨R.PDM_STUCK_COUNT, 31, 31⟩
def F.PDM_SAT_COUNT (i : Nat) : Field := ⟨R.PDM_SAT i, 15, 0⟩
def F.PDM_SAT_SAT (i : Nat) : Field := ⟨R.PDM_SAT i, 31, 31⟩
def F.PDM_FIR_COEF_COEF (i : Nat) : Field := ⟨R.PDM_FIR_COEF i, 23, 0⟩
def F.SURVEY_STATUS_MEAS : Field := ⟨R.SURVEY_STATUS, 1, 0⟩
def F.SURVEY_STATUS_POLICY : Field := ⟨R.SURVEY_STATUS, 3, 2⟩
def F.SURVEY_STATUS_PROPOSAL : Field := ⟨R.SURVEY_STATUS, 4, 4⟩
def F.SURVEY_STATUS_TEMP_VALID : Field := ⟨R.SURVEY_STATUS, 5, 5⟩
def F.SURVEY_STATUS_BASELINE : Field := ⟨R.SURVEY_STATUS, 6, 6⟩
def F.SURVEY_INT_STATUS_MEAS_DONE : Field := ⟨R.SURVEY_INT_STATUS, 0, 0⟩
def F.SURVEY_INT_STATUS_DESIGN_DONE : Field := ⟨R.SURVEY_INT_STATUS, 1, 1⟩
def F.SURVEY_INT_STATUS_PROPOSAL : Field := ⟨R.SURVEY_INT_STATUS, 2, 2⟩
def F.SURVEY_INT_STATUS_APPLIED : Field := ⟨R.SURVEY_INT_STATUS, 3, 3⟩
def F.SURVEY_INT_STATUS_WITHDRAWN : Field := ⟨R.SURVEY_INT_STATUS, 4, 4⟩
def F.SURVEY_INT_STATUS_OVERRIDE : Field := ⟨R.SURVEY_INT_STATUS, 5, 5⟩
def F.SURVEY_INT_STATUS_DEFER : Field := ⟨R.SURVEY_INT_STATUS, 6, 6⟩
def F.SURVEY_INT_STATUS_TEMP : Field := ⟨R.SURVEY_INT_STATUS, 7, 7⟩
def F.SURVEY_INT_STATUS_OUTLIER : Field := ⟨R.SURVEY_INT_STATUS, 8, 8⟩
def F.SURVEY_INT_STATUS_LOG_DROP : Field := ⟨R.SURVEY_INT_STATUS, 9, 9⟩
def F.SURVEY_INT_STATUS_HALF_RANGE : Field := ⟨R.SURVEY_INT_STATUS, 10, 10⟩
def F.SURVEY_INT_STATUS_SAT : Field := ⟨R.SURVEY_INT_STATUS, 11, 11⟩
def F.SURVEY_INT_ENABLE_MEAS_DONE : Field := ⟨R.SURVEY_INT_ENABLE, 0, 0⟩
def F.SURVEY_INT_ENABLE_DESIGN_DONE : Field := ⟨R.SURVEY_INT_ENABLE, 1, 1⟩
def F.SURVEY_INT_ENABLE_PROPOSAL : Field := ⟨R.SURVEY_INT_ENABLE, 2, 2⟩
def F.SURVEY_INT_ENABLE_APPLIED : Field := ⟨R.SURVEY_INT_ENABLE, 3, 3⟩
def F.SURVEY_INT_ENABLE_WITHDRAWN : Field := ⟨R.SURVEY_INT_ENABLE, 4, 4⟩
def F.SURVEY_INT_ENABLE_OVERRIDE : Field := ⟨R.SURVEY_INT_ENABLE, 5, 5⟩
def F.SURVEY_INT_ENABLE_DEFER : Field := ⟨R.SURVEY_INT_ENABLE, 6, 6⟩
def F.SURVEY_INT_ENABLE_TEMP : Field := ⟨R.SURVEY_INT_ENABLE, 7, 7⟩
def F.SURVEY_INT_ENABLE_OUTLIER : Field := ⟨R.SURVEY_INT_ENABLE, 8, 8⟩
def F.SURVEY_INT_ENABLE_LOG_DROP : Field := ⟨R.SURVEY_INT_ENABLE, 9, 9⟩
def F.SURVEY_INT_ENABLE_HALF_RANGE : Field := ⟨R.SURVEY_INT_ENABLE, 10, 10⟩
def F.SURVEY_INT_ENABLE_SAT : Field := ⟨R.SURVEY_INT_ENABLE, 11, 11⟩
def F.SURVEY_TEMP_TEMP : Field := ⟨R.SURVEY_TEMP, 15, 0⟩
def F.SURVEY_TEMP_PAIRS : Field := ⟨R.SURVEY_TEMP, 20, 16⟩
def F.SURVEY_TEMP_VALID : Field := ⟨R.SURVEY_TEMP, 31, 31⟩
def F.SURVEY_DET_CTRL_RMS_WIN : Field := ⟨R.SURVEY_DET_CTRL, 2, 0⟩
def F.SURVEY_DET_CTRL_ATTACK : Field := ⟨R.SURVEY_DET_CTRL, 15, 8⟩
def F.SURVEY_DET_CTRL_RELEASE : Field := ⟨R.SURVEY_DET_CTRL, 27, 16⟩
def F.SURVEY_LAST_WINDOW_LO_N : Field := ⟨R.SURVEY_LAST_WINDOW_LO, 31, 0⟩
def F.SURVEY_LAST_WINDOW_HI_N : Field := ⟨R.SURVEY_LAST_WINDOW_HI, 31, 0⟩
def F.SURVEY_BASE_LO_BASE : Field := ⟨R.SURVEY_BASE_LO, 31, 0⟩
def F.SURVEY_BASE_HI_BASE : Field := ⟨R.SURVEY_BASE_HI, 7, 0⟩
def F.SURVEY_WINDOWS_COUNT : Field := ⟨R.SURVEY_WINDOWS, 31, 0⟩
def F.SURVEY_GATED_COUNT : Field := ⟨R.SURVEY_GATED, 31, 0⟩
def F.SURVEY_PROPOSALS_COUNT : Field := ⟨R.SURVEY_PROPOSALS, 31, 0⟩
def F.SURVEY_APPLIED_COUNT : Field := ⟨R.SURVEY_APPLIED, 31, 0⟩
def F.SURVEY_DEFER_COUNT : Field := ⟨R.SURVEY_DEFER, 15, 0⟩
def F.SURVEY_DEFER_SAT : Field := ⟨R.SURVEY_DEFER, 31, 31⟩
def F.SURVEY_OVERRIDE_COUNT : Field := ⟨R.SURVEY_OVERRIDE, 15, 0⟩
def F.SURVEY_OVERRIDE_SAT : Field := ⟨R.SURVEY_OVERRIDE, 31, 31⟩
def F.SURVEY_OUTLIER_COUNT : Field := ⟨R.SURVEY_OUTLIER, 15, 0⟩
def F.SURVEY_OUTLIER_SAT : Field := ⟨R.SURVEY_OUTLIER, 31, 31⟩
def F.SURVEY_LOG_DROP_COUNT : Field := ⟨R.SURVEY_LOG_DROP, 15, 0⟩
def F.SURVEY_LOG_DROP_SAT : Field := ⟨R.SURVEY_LOG_DROP, 31, 31⟩
def F.SURVEY_DET_PEAK_PEAK (i : Nat) : Field := ⟨R.SURVEY_DET_PEAK i, 23, 0⟩
def F.SURVEY_DET_RMS_RMS (i : Nat) : Field := ⟨R.SURVEY_DET_RMS i, 23, 0⟩
def F.SURVEY_DET_ENV_ENV (i : Nat) : Field := ⟨R.SURVEY_DET_ENV i, 23, 0⟩
def F.PORTS_STATUS_RUN : Field := ⟨R.PORTS_STATUS, 7, 0⟩
def F.PORTS_STATUS_MUTED : Field := ⟨R.PORTS_STATUS, 15, 8⟩
def F.PORTS_INT_STATUS_LOSS : Field := ⟨R.PORTS_INT_STATUS, 0, 0⟩
def F.PORTS_INT_STATUS_RATE_MISMATCH : Field := ⟨R.PORTS_INT_STATUS, 1, 1⟩
def F.PORTS_INT_STATUS_FRAMING : Field := ⟨R.PORTS_INT_STATUS, 2, 2⟩
def F.PORTS_INT_STATUS_SLIP : Field := ⟨R.PORTS_INT_STATUS, 3, 3⟩
def F.PORTS_INT_STATUS_RESUMED : Field := ⟨R.PORTS_INT_STATUS, 4, 4⟩
def F.PORTS_INT_STATUS_CONFIG_BAD : Field := ⟨R.PORTS_INT_STATUS, 5, 5⟩
def F.PORTS_INT_STATUS_HALF_RANGE : Field := ⟨R.PORTS_INT_STATUS, 6, 6⟩
def F.PORTS_INT_STATUS_SAT : Field := ⟨R.PORTS_INT_STATUS, 7, 7⟩
def F.PORTS_INT_ENABLE_LOSS : Field := ⟨R.PORTS_INT_ENABLE, 0, 0⟩
def F.PORTS_INT_ENABLE_RATE_MISMATCH : Field := ⟨R.PORTS_INT_ENABLE, 1, 1⟩
def F.PORTS_INT_ENABLE_FRAMING : Field := ⟨R.PORTS_INT_ENABLE, 2, 2⟩
def F.PORTS_INT_ENABLE_SLIP : Field := ⟨R.PORTS_INT_ENABLE, 3, 3⟩
def F.PORTS_INT_ENABLE_RESUMED : Field := ⟨R.PORTS_INT_ENABLE, 4, 4⟩
def F.PORTS_INT_ENABLE_CONFIG_BAD : Field := ⟨R.PORTS_INT_ENABLE, 5, 5⟩
def F.PORTS_INT_ENABLE_HALF_RANGE : Field := ⟨R.PORTS_INT_ENABLE, 6, 6⟩
def F.PORTS_INT_ENABLE_SAT : Field := ⟨R.PORTS_INT_ENABLE, 7, 7⟩
def F.PORTS_TDM_CTRL_EN (i : Nat) : Field := ⟨R.PORTS_TDM_CTRL i, 0, 0⟩
def F.PORTS_TDM_CTRL_ROLE (i : Nat) : Field := ⟨R.PORTS_TDM_CTRL i, 1, 1⟩
def F.PORTS_TDM_CTRL_SLOTS (i : Nat) : Field := ⟨R.PORTS_TDM_CTRL i, 7, 2⟩
def F.PORTS_TDM_CTRL_WIDTH (i : Nat) : Field := ⟨R.PORTS_TDM_CTRL i, 9, 8⟩
def F.PORTS_TDM_CTRL_DATA16 (i : Nat) : Field := ⟨R.PORTS_TDM_CTRL i, 10, 10⟩
def F.PORTS_TDM_CTRL_DELAY (i : Nat) : Field := ⟨R.PORTS_TDM_CTRL i, 11, 11⟩
def F.PORTS_TDM_CTRL_FS_HALF (i : Nat) : Field := ⟨R.PORTS_TDM_CTRL i, 12, 12⟩
def F.PORTS_TDM_CTRL_FS_POL (i : Nat) : Field := ⟨R.PORTS_TDM_CTRL i, 13, 13⟩
def F.PORTS_TDM_CTRL_EDGE (i : Nat) : Field := ⟨R.PORTS_TDM_CTRL i, 14, 14⟩
def F.PORTS_TDM_CTRL_TX_HIZ (i : Nat) : Field := ⟨R.PORTS_TDM_CTRL i, 15, 15⟩
def F.PORTS_TDM_RX_MASK_MASK (i : Nat) : Field := ⟨R.PORTS_TDM_RX_MASK i, 31, 0⟩
def F.PORTS_TDM_TX_MASK_MASK (i : Nat) : Field := ⟨R.PORTS_TDM_TX_MASK i, 31, 0⟩
def F.PORTS_TDM_STATE_STATE (i : Nat) : Field := ⟨R.PORTS_TDM_STATE i, 2, 0⟩
def F.PORTS_TDM_STATE_LOSS (i : Nat) : Field := ⟨R.PORTS_TDM_STATE i, 3, 3⟩
def F.PORTS_TDM_STATE_RATE_MISMATCH (i : Nat) : Field := ⟨R.PORTS_TDM_STATE i, 4, 4⟩
def F.PORTS_TDM_STATE_CONFIG_BAD (i : Nat) : Field := ⟨R.PORTS_TDM_STATE i, 5, 5⟩
def F.PORTS_TDM_STATE_GOOD (i : Nat) : Field := ⟨R.PORTS_TDM_STATE i, 13, 7⟩
def F.PORTS_TDM_STATE_RX_BASE (i : Nat) : Field := ⟨R.PORTS_TDM_STATE i, 22, 14⟩
def F.PORTS_TDM_STATE_TX_BASE (i : Nat) : Field := ⟨R.PORTS_TDM_STATE i, 31, 23⟩
def F.PORTS_TDM_RATE_PPM (i : Nat) : Field := ⟨R.PORTS_TDM_RATE i, 31, 0⟩
def F.PORTS_TDM_PHASE_PHASE (i : Nat) : Field := ⟨R.PORTS_TDM_PHASE i, 9, 0⟩
def F.PORTS_TDM_FRAMING_COUNT (i : Nat) : Field := ⟨R.PORTS_TDM_FRAMING i, 15, 0⟩
def F.PORTS_TDM_FRAMING_SAT (i : Nat) : Field := ⟨R.PORTS_TDM_FRAMING i, 31, 31⟩
def F.PORTS_TDM_LOSS_COUNT_COUNT (i : Nat) : Field := ⟨R.PORTS_TDM_LOSS_COUNT i, 15, 0⟩
def F.PORTS_TDM_LOSS_COUNT_SAT (i : Nat) : Field := ⟨R.PORTS_TDM_LOSS_COUNT i, 31, 31⟩
def F.PORTS_TDM_RATE_COUNT_COUNT (i : Nat) : Field := ⟨R.PORTS_TDM_RATE_COUNT i, 15, 0⟩
def F.PORTS_TDM_RATE_COUNT_SAT (i : Nat) : Field := ⟨R.PORTS_TDM_RATE_COUNT i, 31, 31⟩
def F.PORTS_TDM_SLIP_COUNT (i : Nat) : Field := ⟨R.PORTS_TDM_SLIP i, 15, 0⟩
def F.PORTS_TDM_SLIP_SAT (i : Nat) : Field := ⟨R.PORTS_TDM_SLIP i, 31, 31⟩
def F.PORTS_TDM_FRAMES_COUNT (i : Nat) : Field := ⟨R.PORTS_TDM_FRAMES i, 31, 0⟩
def F.ARMATURE_STATUS_GLAZE : Field := ⟨R.ARMATURE_STATUS, 0, 0⟩
def F.ARMATURE_STATUS_NONPCM_ANY : Field := ⟨R.ARMATURE_STATUS, 1, 1⟩
def F.ARMATURE_STATUS_GROUPS : Field := ⟨R.ARMATURE_STATUS, 9, 2⟩
def F.ARMATURE_INT_STATUS_NONPCM_ON : Field := ⟨R.ARMATURE_INT_STATUS, 0, 0⟩
def F.ARMATURE_INT_STATUS_NONPCM_OFF : Field := ⟨R.ARMATURE_INT_STATUS, 1, 1⟩
def F.ARMATURE_INT_STATUS_UNDERRUN : Field := ⟨R.ARMATURE_INT_STATUS, 2, 2⟩
def F.ARMATURE_INT_STATUS_LATE : Field := ⟨R.ARMATURE_INT_STATUS, 3, 3⟩
def F.ARMATURE_INT_STATUS_DP_NONPCM : Field := ⟨R.ARMATURE_INT_STATUS, 4, 4⟩
def F.ARMATURE_INT_STATUS_COMMIT_DONE : Field := ⟨R.ARMATURE_INT_STATUS, 5, 5⟩
def F.ARMATURE_INT_STATUS_HALF_RANGE : Field := ⟨R.ARMATURE_INT_STATUS, 6, 6⟩
def F.ARMATURE_INT_STATUS_SAT : Field := ⟨R.ARMATURE_INT_STATUS, 7, 7⟩
def F.ARMATURE_INT_ENABLE_NONPCM_ON : Field := ⟨R.ARMATURE_INT_ENABLE, 0, 0⟩
def F.ARMATURE_INT_ENABLE_NONPCM_OFF : Field := ⟨R.ARMATURE_INT_ENABLE, 1, 1⟩
def F.ARMATURE_INT_ENABLE_UNDERRUN : Field := ⟨R.ARMATURE_INT_ENABLE, 2, 2⟩
def F.ARMATURE_INT_ENABLE_LATE : Field := ⟨R.ARMATURE_INT_ENABLE, 3, 3⟩
def F.ARMATURE_INT_ENABLE_DP_NONPCM : Field := ⟨R.ARMATURE_INT_ENABLE, 4, 4⟩
def F.ARMATURE_INT_ENABLE_COMMIT_DONE : Field := ⟨R.ARMATURE_INT_ENABLE, 5, 5⟩
def F.ARMATURE_INT_ENABLE_HALF_RANGE : Field := ⟨R.ARMATURE_INT_ENABLE, 6, 6⟩
def F.ARMATURE_INT_ENABLE_SAT : Field := ⟨R.ARMATURE_INT_ENABLE, 7, 7⟩
def F.ARMATURE_METER_CTRL_RMS_WIN : Field := ⟨R.ARMATURE_METER_CTRL, 2, 0⟩
def F.ARMATURE_METER_CTRL_HOLD : Field := ⟨R.ARMATURE_METER_CTRL, 15, 8⟩
def F.ARMATURE_NONPCM_HOLD_SAMPLES : Field := ⟨R.ARMATURE_NONPCM_HOLD, 17, 0⟩
def F.ARMATURE_FIRST_NONPCM_SOURCE : Field := ⟨R.ARMATURE_FIRST_NONPCM, 11, 0⟩
def F.ARMATURE_FIRST_NONPCM_CLEAR : Field := ⟨R.ARMATURE_FIRST_NONPCM, 30, 30⟩
def F.ARMATURE_FIRST_NONPCM_VALID : Field := ⟨R.ARMATURE_FIRST_NONPCM, 31, 31⟩
def F.ARMATURE_NONPCM_COUNT_COUNT : Field := ⟨R.ARMATURE_NONPCM_COUNT, 15, 0⟩
def F.ARMATURE_NONPCM_COUNT_SAT : Field := ⟨R.ARMATURE_NONPCM_COUNT, 31, 31⟩
def F.ARMATURE_UNDERRUN_COUNT_COUNT : Field := ⟨R.ARMATURE_UNDERRUN_COUNT, 15, 0⟩
def F.ARMATURE_UNDERRUN_COUNT_SAT : Field := ⟨R.ARMATURE_UNDERRUN_COUNT, 31, 31⟩
def F.ARMATURE_LATE_COUNT_COUNT : Field := ⟨R.ARMATURE_LATE_COUNT, 31, 0⟩
def F.ARMATURE_DP_NONPCM_COUNT_COUNT : Field := ⟨R.ARMATURE_DP_NONPCM_COUNT, 15, 0⟩
def F.ARMATURE_DP_NONPCM_COUNT_SAT : Field := ⟨R.ARMATURE_DP_NONPCM_COUNT, 31, 31⟩
def F.ARMATURE_GROUP_OFFSET (i : Nat) : Field := ⟨R.ARMATURE_GROUP i, 15, 0⟩
def F.ARMATURE_GROUP_MEMBERS (i : Nat) : Field := ⟨R.ARMATURE_GROUP i, 24, 16⟩
def F.ARMATURE_DP_CTRL_ACTIVE (i : Nat) : Field := ⟨R.ARMATURE_DP_CTRL i, 0, 0⟩
def F.ARMATURE_DP_CTRL_TRANSPARENT (i : Nat) : Field := ⟨R.ARMATURE_DP_CTRL i, 1, 1⟩
def F.ARMATURE_DP_CTRL_MUTE (i : Nat) : Field := ⟨R.ARMATURE_DP_CTRL i, 2, 2⟩
def F.ARMATURE_DP_CTRL_NONPCM (i : Nat) : Field := ⟨R.ARMATURE_DP_CTRL i, 3, 3⟩
def F.ARMATURE_DP_TARGET_GAIN (i : Nat) : Field := ⟨R.ARMATURE_DP_TARGET i, 23, 0⟩
def F.ARMATURE_DP_GAIN_GAIN (i : Nat) : Field := ⟨R.ARMATURE_DP_GAIN i, 23, 0⟩
def F.ARMATURE_ROUTE_SOURCE (i : Nat) : Field := ⟨R.ARMATURE_ROUTE i, 11, 0⟩
def F.ARMATURE_ROUTE_TRANSPARENT (i : Nat) : Field := ⟨R.ARMATURE_ROUTE i, 31, 31⟩
def F.ARMATURE_METER_PEAK_PEAK (i : Nat) : Field := ⟨R.ARMATURE_METER_PEAK i, 23, 0⟩
def F.ARMATURE_METER_TP_TP (i : Nat) : Field := ⟨R.ARMATURE_METER_TP i, 15, 0⟩
def F.ARMATURE_METER_TP_TP_HOLD (i : Nat) : Field := ⟨R.ARMATURE_METER_TP i, 31, 16⟩
def F.ARMATURE_METER_RMS_RMS (i : Nat) : Field := ⟨R.ARMATURE_METER_RMS i, 15, 0⟩
def F.ARMATURE_METER_RMS_RMS_HOLD (i : Nat) : Field := ⟨R.ARMATURE_METER_RMS i, 31, 16⟩
def F.ARMATURE_METER_HOLD_PEAK_HOLD (i : Nat) : Field := ⟨R.ARMATURE_METER_HOLD i, 23, 0⟩
def F.NET_STATUS_LINK_UP (i : Nat) : Field := ⟨R.NET_STATUS i, 0, 0⟩
def F.NET_STATUS_BLOCK_LOCK (i : Nat) : Field := ⟨R.NET_STATUS i, 1, 1⟩
def F.NET_STATUS_RATE (i : Nat) : Field := ⟨R.NET_STATUS i, 3, 2⟩
def F.NET_STATUS_FEC (i : Nat) : Field := ⟨R.NET_STATUS i, 5, 4⟩
def F.NET_STATUS_SFP_PRESENT (i : Nat) : Field := ⟨R.NET_STATUS i, 6, 6⟩
def F.NET_STATUS_SFP_LOS (i : Nat) : Field := ⟨R.NET_STATUS i, 7, 7⟩
def F.NET_STATUS_PAUSING (i : Nat) : Field := ⟨R.NET_STATUS i, 8, 8⟩
def F.NET_STATUS_PAUSED (i : Nat) : Field := ⟨R.NET_STATUS i, 9, 9⟩
def F.NET_STATUS_GATE_RUN (i : Nat) : Field := ⟨R.NET_STATUS i, 10, 10⟩
def F.NET_STATUS_GATE_PENDING (i : Nat) : Field := ⟨R.NET_STATUS i, 11, 11⟩
def F.NET_INT_STATUS_LINK_DOWN (i : Nat) : Field := ⟨R.NET_INT_STATUS i, 0, 0⟩
def F.NET_INT_STATUS_LINK_UP (i : Nat) : Field := ⟨R.NET_INT_STATUS i, 1, 1⟩
def F.NET_INT_STATUS_SFP_CHANGE (i : Nat) : Field := ⟨R.NET_INT_STATUS i, 2, 2⟩
def F.NET_INT_STATUS_BUFFER_DROP (i : Nat) : Field := ⟨R.NET_INT_STATUS i, 3, 3⟩
def F.NET_INT_STATUS_RX_ERROR (i : Nat) : Field := ⟨R.NET_INT_STATUS i, 4, 4⟩
def F.NET_INT_STATUS_TX_ERR (i : Nat) : Field := ⟨R.NET_INT_STATUS i, 5, 5⟩
def F.NET_INT_STATUS_GATE_CHANGE (i : Nat) : Field := ⟨R.NET_INT_STATUS i, 6, 6⟩
def F.NET_INT_STATUS_GATE_BAD (i : Nat) : Field := ⟨R.NET_INT_STATUS i, 7, 7⟩
def F.NET_INT_STATUS_HALF_RANGE (i : Nat) : Field := ⟨R.NET_INT_STATUS i, 8, 8⟩
def F.NET_INT_STATUS_SAT (i : Nat) : Field := ⟨R.NET_INT_STATUS i, 9, 9⟩
def F.NET_INT_ENABLE_LINK_DOWN (i : Nat) : Field := ⟨R.NET_INT_ENABLE i, 0, 0⟩
def F.NET_INT_ENABLE_LINK_UP (i : Nat) : Field := ⟨R.NET_INT_ENABLE i, 1, 1⟩
def F.NET_INT_ENABLE_SFP_CHANGE (i : Nat) : Field := ⟨R.NET_INT_ENABLE i, 2, 2⟩
def F.NET_INT_ENABLE_BUFFER_DROP (i : Nat) : Field := ⟨R.NET_INT_ENABLE i, 3, 3⟩
def F.NET_INT_ENABLE_RX_ERROR (i : Nat) : Field := ⟨R.NET_INT_ENABLE i, 4, 4⟩
def F.NET_INT_ENABLE_TX_ERR (i : Nat) : Field := ⟨R.NET_INT_ENABLE i, 5, 5⟩
def F.NET_INT_ENABLE_GATE_CHANGE (i : Nat) : Field := ⟨R.NET_INT_ENABLE i, 6, 6⟩
def F.NET_INT_ENABLE_GATE_BAD (i : Nat) : Field := ⟨R.NET_INT_ENABLE i, 7, 7⟩
def F.NET_INT_ENABLE_HALF_RANGE (i : Nat) : Field := ⟨R.NET_INT_ENABLE i, 8, 8⟩
def F.NET_INT_ENABLE_SAT (i : Nat) : Field := ⟨R.NET_INT_ENABLE i, 9, 9⟩
def F.NET_CTRL_EN (i : Nat) : Field := ⟨R.NET_CTRL i, 0, 0⟩
def F.NET_CTRL_RATE (i : Nat) : Field := ⟨R.NET_CTRL i, 1, 1⟩
def F.NET_CTRL_FEC (i : Nat) : Field := ⟨R.NET_CTRL i, 3, 2⟩
def F.NET_CTRL_TX_PAUSE_EN (i : Nat) : Field := ⟨R.NET_CTRL i, 4, 4⟩
def F.NET_CTRL_RX_PAUSE_EN (i : Nat) : Field := ⟨R.NET_CTRL i, 5, 5⟩
def F.NET_MAX_FRAME_BYTES (i : Nat) : Field := ⟨R.NET_MAX_FRAME i, 13, 0⟩
def F.NET_MAX_FRAME_REFUSED (i : Nat) : Field := ⟨R.NET_MAX_FRAME i, 31, 31⟩
def F.NET_PAUSE_HIGH (i : Nat) : Field := ⟨R.NET_PAUSE i, 9, 0⟩
def F.NET_PAUSE_LOW (i : Nat) : Field := ⟨R.NET_PAUSE i, 25, 16⟩
def F.NET_PAUSE_QUANTA_QUANTA (i : Nat) : Field := ⟨R.NET_PAUSE_QUANTA i, 15, 0⟩
def F.NET_DROP_OTHER_KIB (i : Nat) : Field := ⟨R.NET_DROP_OTHER i, 9, 0⟩
def F.NET_BUFFER_FILL_FILL (i : Nat) : Field := ⟨R.NET_BUFFER_FILL i, 9, 0⟩
def F.NET_BUFFER_FILL_PEAK (i : Nat) : Field := ⟨R.NET_BUFFER_FILL i, 25, 16⟩
def F.NET_MAC_LO_MAC (i : Nat) : Field := ⟨R.NET_MAC_LO i, 31, 0⟩
def F.NET_MAC_HI_MAC (i : Nat) : Field := ⟨R.NET_MAC_HI i, 15, 0⟩
def F.NET_IP_ADDR (i : Nat) : Field := ⟨R.NET_IP i, 31, 0⟩
def F.NET_IP_MASK_MASK (i : Nat) : Field := ⟨R.NET_IP_MASK i, 31, 0⟩
def F.NET_IP_GW_ADDR (i : Nat) : Field := ⟨R.NET_IP_GW i, 31, 0⟩
def F.NET_IP_ALIAS_ADDR (i : Nat) : Field := ⟨R.NET_IP_ALIAS i, 31, 0⟩
def F.NET_VLAN_VID (i : Nat) : Field := ⟨R.NET_VLAN i, 11, 0⟩
def F.NET_VLAN_PCP (i : Nat) : Field := ⟨R.NET_VLAN i, 14, 12⟩
def F.NET_VLAN_TAG (i : Nat) : Field := ⟨R.NET_VLAN i, 15, 15⟩
def F.NET_GATE_CTRL_EN (i : Nat) : Field := ⟨R.NET_GATE_CTRL i, 0, 0⟩
def F.NET_GATE_CTRL_COUNT (i : Nat) : Field := ⟨R.NET_GATE_CTRL i, 16, 8⟩
def F.NET_GATE_CTRL_BAD (i : Nat) : Field := ⟨R.NET_GATE_CTRL i, 30, 30⟩
def F.NET_GATE_CTRL_GO (i : Nat) : Field := ⟨R.NET_GATE_CTRL i, 31, 31⟩
def F.NET_GATE_CYCLE_NS (i : Nat) : Field := ⟨R.NET_GATE_CYCLE i, 29, 0⟩
def F.NET_GATE_BASE_NS_NS (i : Nat) : Field := ⟨R.NET_GATE_BASE_NS i, 29, 0⟩
def F.NET_GATE_BASE_SEC_LO_SEC (i : Nat) : Field := ⟨R.NET_GATE_BASE_SEC_LO i, 31, 0⟩
def F.NET_GATE_BASE_SEC_HI_SEC (i : Nat) : Field := ⟨R.NET_GATE_BASE_SEC_HI i, 15, 0⟩
def F.NET_GATE_STATUS_OPER_INDEX (i : Nat) : Field := ⟨R.NET_GATE_STATUS i, 7, 0⟩
def F.NET_GATE_STATUS_OPER_COUNT (i : Nat) : Field := ⟨R.NET_GATE_STATUS i, 16, 8⟩
def F.NET_RX_FRAMES_COUNT (i : Nat) : Field := ⟨R.NET_RX_FRAMES i, 31, 0⟩
def F.NET_RX_OCTETS_COUNT (i : Nat) : Field := ⟨R.NET_RX_OCTETS i, 31, 0⟩
def F.NET_RX_MULTICAST_COUNT (i : Nat) : Field := ⟨R.NET_RX_MULTICAST i, 31, 0⟩
def F.NET_RX_FILTERED_COUNT (i : Nat) : Field := ⟨R.NET_RX_FILTERED i, 31, 0⟩
def F.NET_TX_FRAMES_COUNT (i : Nat) : Field := ⟨R.NET_TX_FRAMES i, 31, 0⟩
def F.NET_TX_OCTETS_COUNT (i : Nat) : Field := ⟨R.NET_TX_OCTETS i, 31, 0⟩
def F.NET_TX_HELD_COUNT (i : Nat) : Field := ⟨R.NET_TX_HELD i, 31, 0⟩
def F.NET_FEC_CORRECTED_COUNT (i : Nat) : Field := ⟨R.NET_FEC_CORRECTED i, 31, 0⟩
def F.NET_RX_FCS_COUNT (i : Nat) : Field := ⟨R.NET_RX_FCS i, 15, 0⟩
def F.NET_RX_FCS_SAT (i : Nat) : Field := ⟨R.NET_RX_FCS i, 31, 31⟩
def F.NET_RX_UNDERSIZE_COUNT (i : Nat) : Field := ⟨R.NET_RX_UNDERSIZE i, 15, 0⟩
def F.NET_RX_UNDERSIZE_SAT (i : Nat) : Field := ⟨R.NET_RX_UNDERSIZE i, 31, 31⟩
def F.NET_RX_FRAGMENT_COUNT (i : Nat) : Field := ⟨R.NET_RX_FRAGMENT i, 15, 0⟩
def F.NET_RX_FRAGMENT_SAT (i : Nat) : Field := ⟨R.NET_RX_FRAGMENT i, 31, 31⟩
def F.NET_RX_OVERSIZE_COUNT (i : Nat) : Field := ⟨R.NET_RX_OVERSIZE i, 15, 0⟩
def F.NET_RX_OVERSIZE_SAT (i : Nat) : Field := ⟨R.NET_RX_OVERSIZE i, 31, 31⟩
def F.NET_RX_L3_ERR_COUNT (i : Nat) : Field := ⟨R.NET_RX_L3_ERR i, 15, 0⟩
def F.NET_RX_L3_ERR_SAT (i : Nat) : Field := ⟨R.NET_RX_L3_ERR i, 31, 31⟩
def F.NET_RX_BUFFER_DROP_COUNT (i : Nat) : Field := ⟨R.NET_RX_BUFFER_DROP i, 15, 0⟩
def F.NET_RX_BUFFER_DROP_SAT (i : Nat) : Field := ⟨R.NET_RX_BUFFER_DROP i, 31, 31⟩
def F.NET_TX_ERR_COUNT (i : Nat) : Field := ⟨R.NET_TX_ERR i, 15, 0⟩
def F.NET_TX_ERR_SAT (i : Nat) : Field := ⟨R.NET_TX_ERR i, 31, 31⟩
def F.NET_PAUSE_TX_COUNT (i : Nat) : Field := ⟨R.NET_PAUSE_TX i, 15, 0⟩
def F.NET_PAUSE_TX_SAT (i : Nat) : Field := ⟨R.NET_PAUSE_TX i, 31, 31⟩
def F.NET_PAUSE_RX_COUNT (i : Nat) : Field := ⟨R.NET_PAUSE_RX i, 15, 0⟩
def F.NET_PAUSE_RX_SAT (i : Nat) : Field := ⟨R.NET_PAUSE_RX i, 31, 31⟩
def F.NET_LINK_DOWN_COUNT (i : Nat) : Field := ⟨R.NET_LINK_DOWN i, 15, 0⟩
def F.NET_LINK_DOWN_SAT (i : Nat) : Field := ⟨R.NET_LINK_DOWN i, 31, 31⟩
def F.NET_FEC_UNCORRECTED_COUNT (i : Nat) : Field := ⟨R.NET_FEC_UNCORRECTED i, 15, 0⟩
def F.NET_FEC_UNCORRECTED_SAT (i : Nat) : Field := ⟨R.NET_FEC_UNCORRECTED i, 31, 31⟩
def F.NET_GATE_ADMIN_GATES (i : Nat) (j : Nat) : Field := ⟨R.NET_GATE_ADMIN i j, 7, 0⟩
def F.NET_GATE_ADMIN_INTERVAL (i : Nat) (j : Nat) : Field := ⟨R.NET_GATE_ADMIN i j, 31, 8⟩
def F.NET_GATE_OPER_GATES (i : Nat) (j : Nat) : Field := ⟨R.NET_GATE_OPER i j, 7, 0⟩
def F.NET_GATE_OPER_INTERVAL (i : Nat) (j : Nat) : Field := ⟨R.NET_GATE_OPER i j, 31, 8⟩
def F.MEDIA_STATUS_RX_STREAMS : Field := ⟨R.MEDIA_STATUS, 8, 0⟩
def F.MEDIA_STATUS_TX_STREAMS : Field := ⟨R.MEDIA_STATUS, 24, 16⟩
def F.MEDIA_INT_STATUS_UNDERRUN : Field := ⟨R.MEDIA_INT_STATUS, 0, 0⟩
def F.MEDIA_INT_STATUS_LATE : Field := ⟨R.MEDIA_INT_STATUS, 1, 1⟩
def F.MEDIA_INT_STATUS_EARLY : Field := ⟨R.MEDIA_INT_STATUS, 2, 2⟩
def F.MEDIA_INT_STATUS_LEG_LOSS : Field := ⟨R.MEDIA_INT_STATUS, 3, 3⟩
def F.MEDIA_INT_STATUS_LEG_RESTORE : Field := ⟨R.MEDIA_INT_STATUS, 4, 4⟩
def F.MEDIA_INT_STATUS_TX_LATE : Field := ⟨R.MEDIA_INT_STATUS, 5, 5⟩
def F.MEDIA_INT_STATUS_TX_DROP : Field := ⟨R.MEDIA_INT_STATUS, 6, 6⟩
def F.MEDIA_INT_STATUS_HALF_RANGE : Field := ⟨R.MEDIA_INT_STATUS, 7, 7⟩
def F.MEDIA_INT_STATUS_SAT : Field := ⟨R.MEDIA_INT_STATUS, 8, 8⟩
def F.MEDIA_INT_ENABLE_UNDERRUN : Field := ⟨R.MEDIA_INT_ENABLE, 0, 0⟩
def F.MEDIA_INT_ENABLE_LATE : Field := ⟨R.MEDIA_INT_ENABLE, 1, 1⟩
def F.MEDIA_INT_ENABLE_EARLY : Field := ⟨R.MEDIA_INT_ENABLE, 2, 2⟩
def F.MEDIA_INT_ENABLE_LEG_LOSS : Field := ⟨R.MEDIA_INT_ENABLE, 3, 3⟩
def F.MEDIA_INT_ENABLE_LEG_RESTORE : Field := ⟨R.MEDIA_INT_ENABLE, 4, 4⟩
def F.MEDIA_INT_ENABLE_TX_LATE : Field := ⟨R.MEDIA_INT_ENABLE, 5, 5⟩
def F.MEDIA_INT_ENABLE_TX_DROP : Field := ⟨R.MEDIA_INT_ENABLE, 6, 6⟩
def F.MEDIA_INT_ENABLE_HALF_RANGE : Field := ⟨R.MEDIA_INT_ENABLE, 7, 7⟩
def F.MEDIA_INT_ENABLE_SAT : Field := ⟨R.MEDIA_INT_ENABLE, 8, 8⟩
def F.MEDIA_POOL_RX_USED : Field := ⟨R.MEDIA_POOL, 11, 0⟩
def F.MEDIA_POOL_TX_USED : Field := ⟨R.MEDIA_POOL, 27, 16⟩
def F.MEDIA_RX_CTRL_CTRL (i : Nat) : Field := ⟨R.MEDIA_RX_CTRL i, 31, 0⟩
def F.MEDIA_RX_MAP_FIRST_CH (i : Nat) : Field := ⟨R.MEDIA_RX_MAP i, 10, 0⟩
def F.MEDIA_RX_MAP_L (i : Nat) : Field := ⟨R.MEDIA_RX_MAP i, 26, 16⟩
def F.MEDIA_RX_STATE_STATE (i : Nat) : Field := ⟨R.MEDIA_RX_STATE i, 2, 0⟩
def F.MEDIA_RX_STATE_LEG_A_UP (i : Nat) : Field := ⟨R.MEDIA_RX_STATE i, 3, 3⟩
def F.MEDIA_RX_STATE_LEG_B_UP (i : Nat) : Field := ⟨R.MEDIA_RX_STATE i, 4, 4⟩
def F.MEDIA_RX_STATE_GROUP (i : Nat) : Field := ⟨R.MEDIA_RX_STATE i, 9, 5⟩
def F.MEDIA_RX_STATE_IN_GROUP (i : Nat) : Field := ⟨R.MEDIA_RX_STATE i, 10, 10⟩
def F.MEDIA_RX_MARGIN_MARGIN (i : Nat) : Field := ⟨R.MEDIA_RX_MARGIN i, 15, 0⟩
def F.MEDIA_RX_PACKETS_COUNT (i : Nat) : Field := ⟨R.MEDIA_RX_PACKETS i, 31, 0⟩
def F.MEDIA_RX_UNDERRUN_COUNT (i : Nat) : Field := ⟨R.MEDIA_RX_UNDERRUN i, 15, 0⟩
def F.MEDIA_RX_UNDERRUN_SAT (i : Nat) : Field := ⟨R.MEDIA_RX_UNDERRUN i, 31, 31⟩
def F.MEDIA_RX_LATE_COUNT (i : Nat) : Field := ⟨R.MEDIA_RX_LATE i, 15, 0⟩
def F.MEDIA_RX_LATE_SAT (i : Nat) : Field := ⟨R.MEDIA_RX_LATE i, 31, 31⟩
def F.MEDIA_RX_EARLY_COUNT (i : Nat) : Field := ⟨R.MEDIA_RX_EARLY i, 15, 0⟩
def F.MEDIA_RX_EARLY_SAT (i : Nat) : Field := ⟨R.MEDIA_RX_EARLY i, 31, 31⟩
def F.MEDIA_RX_SEQ_GAP_A_COUNT (i : Nat) : Field := ⟨R.MEDIA_RX_SEQ_GAP_A i, 15, 0⟩
def F.MEDIA_RX_SEQ_GAP_A_SAT (i : Nat) : Field := ⟨R.MEDIA_RX_SEQ_GAP_A i, 31, 31⟩
def F.MEDIA_RX_SEQ_GAP_B_COUNT (i : Nat) : Field := ⟨R.MEDIA_RX_SEQ_GAP_B i, 15, 0⟩
def F.MEDIA_RX_SEQ_GAP_B_SAT (i : Nat) : Field := ⟨R.MEDIA_RX_SEQ_GAP_B i, 31, 31⟩
def F.MEDIA_RX_LEG_LOSS_COUNT (i : Nat) : Field := ⟨R.MEDIA_RX_LEG_LOSS i, 15, 0⟩
def F.MEDIA_RX_LEG_LOSS_SAT (i : Nat) : Field := ⟨R.MEDIA_RX_LEG_LOSS i, 31, 31⟩
def F.MEDIA_TX_CTRL_CTRL (i : Nat) : Field := ⟨R.MEDIA_TX_CTRL i, 31, 0⟩
def F.MEDIA_TX_MAP_FIRST_CH (i : Nat) : Field := ⟨R.MEDIA_TX_MAP i, 10, 0⟩
def F.MEDIA_TX_STATE_STATE (i : Nat) : Field := ⟨R.MEDIA_TX_STATE i, 2, 0⟩
def F.MEDIA_TX_STATE_ARP_A (i : Nat) : Field := ⟨R.MEDIA_TX_STATE i, 3, 3⟩
def F.MEDIA_TX_STATE_ARP_B (i : Nat) : Field := ⟨R.MEDIA_TX_STATE i, 4, 4⟩
def F.MEDIA_TX_SEQ_SEQ (i : Nat) : Field := ⟨R.MEDIA_TX_SEQ i, 15, 0⟩
def F.MEDIA_TX_PACKETS_COUNT (i : Nat) : Field := ⟨R.MEDIA_TX_PACKETS i, 31, 0⟩
def F.MEDIA_TX_LATE_COUNT (i : Nat) : Field := ⟨R.MEDIA_TX_LATE i, 15, 0⟩
def F.MEDIA_TX_LATE_SAT (i : Nat) : Field := ⟨R.MEDIA_TX_LATE i, 31, 31⟩
def F.MEDIA_TX_DROP_COUNT (i : Nat) : Field := ⟨R.MEDIA_TX_DROP i, 15, 0⟩
def F.MEDIA_TX_DROP_SAT (i : Nat) : Field := ⟨R.MEDIA_TX_DROP i, 31, 31⟩
def F.BRUSH_CORE_STATE_STATE (i : Nat) : Field := ⟨R.BRUSH_CORE_STATE i, 2, 0⟩
def F.BRUSH_CORE_STATE_OWNER (i : Nat) : Field := ⟨R.BRUSH_CORE_STATE i, 4, 3⟩
def F.BRUSH_CORE_STATE_IN_TASK (i : Nat) : Field := ⟨R.BRUSH_CORE_STATE i, 6, 6⟩
def F.BRUSH_CORE_STATE_LCORE (i : Nat) : Field := ⟨R.BRUSH_CORE_STATE i, 15, 8⟩
def F.BRUSH_CORE_STATE_PCORE (i : Nat) : Field := ⟨R.BRUSH_CORE_STATE i, 23, 16⟩
def F.BRUSH_CORE_CTRL_GO (i : Nat) : Field := ⟨R.BRUSH_CORE_CTRL i, 0, 0⟩
def F.BRUSH_CORE_CTRL_STOP (i : Nat) : Field := ⟨R.BRUSH_CORE_CTRL i, 1, 1⟩
def F.BRUSH_CORE_ENTRY_PC (i : Nat) : Field := ⟨R.BRUSH_CORE_ENTRY i, 12, 0⟩
def F.BRUSH_CORE_PC_PC (i : Nat) : Field := ⟨R.BRUSH_CORE_PC i, 12, 0⟩
def F.BRUSH_CORE_IRQ_PENDING (i : Nat) : Field := ⟨R.BRUSH_CORE_IRQ i, 3, 0⟩
def F.BRUSH_CORE_IRQ_ENABLE (i : Nat) : Field := ⟨R.BRUSH_CORE_IRQ i, 11, 8⟩
def F.BRUSH_CORE_IVB_PC (i : Nat) : Field := ⟨R.BRUSH_CORE_IVB i, 12, 0⟩
def F.BRUSH_CORE_CYCLE_LO_CYCLE (i : Nat) : Field := ⟨R.BRUSH_CORE_CYCLE_LO i, 31, 0⟩
def F.BRUSH_CORE_CYCLE_HI_CYCLE (i : Nat) : Field := ⟨R.BRUSH_CORE_CYCLE_HI i, 31, 0⟩
def F.BRUSH_CORE_FAULT_PC (i : Nat) : Field := ⟨R.BRUSH_CORE_FAULT i, 12, 0⟩
def F.BRUSH_CORE_FAULT_CAUSE (i : Nat) : Field := ⟨R.BRUSH_CORE_FAULT i, 18, 16⟩
def F.BRUSH_CORE_BLOCK_LO_K (i : Nat) : Field := ⟨R.BRUSH_CORE_BLOCK_LO i, 31, 0⟩
def F.BRUSH_CORE_BLOCK_HI_K (i : Nat) : Field := ⟨R.BRUSH_CORE_BLOCK_HI i, 31, 0⟩
def F.BRUSH_CORE_PARAM_A_LIVE (i : Nat) (j : Nat) : Field := ⟨R.BRUSH_CORE_PARAM_A i j, 14, 0⟩
def F.BRUSH_CORE_PARAM_A_OLD (i : Nat) (j : Nat) : Field := ⟨R.BRUSH_CORE_PARAM_A i j, 30, 16⟩
def F.BRUSH_CORE_PARAM_A_DECLARED (i : Nat) (j : Nat) : Field := ⟨R.BRUSH_CORE_PARAM_A i j, 31, 31⟩
def F.BRUSH_CORE_PARAM_B_GLAZE_LEFT (i : Nat) (j : Nat) : Field := ⟨R.BRUSH_CORE_PARAM_B i j, 12, 0⟩
def F.BRUSH_CORE_PARAM_B_PSWAP (i : Nat) (j : Nat) : Field := ⟨R.BRUSH_CORE_PARAM_B i j, 16, 16⟩
def F.BRUSH_XFER_FADDR_LO_ADDR (i : Nat) (j : Nat) : Field := ⟨R.BRUSH_XFER_FADDR_LO i j, 31, 0⟩
def F.BRUSH_XFER_FADDR_HI_ADDR (i : Nat) (j : Nat) : Field := ⟨R.BRUSH_XFER_FADDR_HI i j, 7, 0⟩
def F.BRUSH_XFER_DM_DM (i : Nat) (j : Nat) : Field := ⟨R.BRUSH_XFER_DM i j, 14, 0⟩
def F.BRUSH_XFER_DM_COUNT (i : Nat) (j : Nat) : Field := ⟨R.BRUSH_XFER_DM i j, 28, 16⟩
def F.BRUSH_XFER_DM_DIR (i : Nat) (j : Nat) : Field := ⟨R.BRUSH_XFER_DM i j, 29, 29⟩
def F.BRUSH_XFER_CTRL_GO (i : Nat) (j : Nat) : Field := ⟨R.BRUSH_XFER_CTRL i j, 0, 0⟩
def F.BRUSH_XFER_CTRL_BUSY (i : Nat) (j : Nat) : Field := ⟨R.BRUSH_XFER_CTRL i j, 1, 1⟩
def F.BRUSH_XFER_CTRL_DONE (i : Nat) (j : Nat) : Field := ⟨R.BRUSH_XFER_CTRL i j, 2, 2⟩
def F.BRUSH_XFER_CTRL_ERR (i : Nat) (j : Nat) : Field := ⟨R.BRUSH_XFER_CTRL i j, 3, 3⟩
def F.BRUSH_CORE_MBX_IN_WORD (i : Nat) : Field := ⟨R.BRUSH_CORE_MBX_IN i, 31, 0⟩
def F.BRUSH_CORE_MBX_OUT_WORD (i : Nat) : Field := ⟨R.BRUSH_CORE_MBX_OUT i, 31, 0⟩
def F.BRUSH_CORE_MBX_STATUS_IN_FULL (i : Nat) : Field := ⟨R.BRUSH_CORE_MBX_STATUS i, 0, 0⟩
def F.BRUSH_CORE_MBX_STATUS_OUT_FULL (i : Nat) : Field := ⟨R.BRUSH_CORE_MBX_STATUS i, 1, 1⟩
def F.BRUSH_CORE_MBX_STATUS_ABORT (i : Nat) : Field := ⟨R.BRUSH_CORE_MBX_STATUS i, 2, 2⟩
def F.BRUSH_CORE_MBX_STATUS_STALL (i : Nat) : Field := ⟨R.BRUSH_CORE_MBX_STATUS i, 3, 3⟩
def F.BRUSH_CORE_MBX_STATUS_PAIR (i : Nat) : Field := ⟨R.BRUSH_CORE_MBX_STATUS i, 6, 4⟩
def F.BRUSH_CORE_MBX_ACK_ACK (i : Nat) : Field := ⟨R.BRUSH_CORE_MBX_ACK i, 0, 0⟩
def F.BRUSH_STATUS_FREE : Field := ⟨R.BRUSH_STATUS, 6, 0⟩
def F.BRUSH_STATUS_MIGRATING : Field := ⟨R.BRUSH_STATUS, 10, 7⟩
def F.BRUSH_INT_STATUS_ERR_STOP : Field := ⟨R.BRUSH_INT_STATUS, 0, 0⟩
def F.BRUSH_INT_STATUS_DM_CORRECTED : Field := ⟨R.BRUSH_INT_STATUS, 1, 1⟩
def F.BRUSH_INT_STATUS_MIGRATED : Field := ⟨R.BRUSH_INT_STATUS, 2, 2⟩
def F.BRUSH_INT_STATUS_MISMATCH : Field := ⟨R.BRUSH_INT_STATUS, 3, 3⟩
def F.BRUSH_INT_STATUS_MBX_STALL : Field := ⟨R.BRUSH_INT_STATUS, 4, 4⟩
def F.BRUSH_INT_STATUS_WINDOW_DENIED : Field := ⟨R.BRUSH_INT_STATUS, 5, 5⟩
def F.BRUSH_INT_STATUS_HALF_RANGE : Field := ⟨R.BRUSH_INT_STATUS, 6, 6⟩
def F.BRUSH_INT_STATUS_SAT : Field := ⟨R.BRUSH_INT_STATUS, 7, 7⟩
def F.BRUSH_INT_ENABLE_ERR_STOP : Field := ⟨R.BRUSH_INT_ENABLE, 0, 0⟩
def F.BRUSH_INT_ENABLE_DM_CORRECTED : Field := ⟨R.BRUSH_INT_ENABLE, 1, 1⟩
def F.BRUSH_INT_ENABLE_MIGRATED : Field := ⟨R.BRUSH_INT_ENABLE, 2, 2⟩
def F.BRUSH_INT_ENABLE_MISMATCH : Field := ⟨R.BRUSH_INT_ENABLE, 3, 3⟩
def F.BRUSH_INT_ENABLE_MBX_STALL : Field := ⟨R.BRUSH_INT_ENABLE, 4, 4⟩
def F.BRUSH_INT_ENABLE_WINDOW_DENIED : Field := ⟨R.BRUSH_INT_ENABLE, 5, 5⟩
def F.BRUSH_INT_ENABLE_HALF_RANGE : Field := ⟨R.BRUSH_INT_ENABLE, 6, 6⟩
def F.BRUSH_INT_ENABLE_SAT : Field := ⟨R.BRUSH_INT_ENABLE, 7, 7⟩
def F.BRUSH_MAP_PCORE (i : Nat) (n : Nat) : Field := ⟨R.BRUSH_MAP i, 8*n+6, 8*n⟩
def F.BRUSH_DM_CORRECTED_COUNT : Field := ⟨R.BRUSH_DM_CORRECTED, 15, 0⟩
def F.BRUSH_DM_CORRECTED_SAT : Field := ⟨R.BRUSH_DM_CORRECTED, 31, 31⟩
def F.BRUSH_ERR_STOP_COUNT : Field := ⟨R.BRUSH_ERR_STOP, 15, 0⟩
def F.BRUSH_ERR_STOP_SAT : Field := ⟨R.BRUSH_ERR_STOP, 31, 31⟩
def F.BRUSH_MIGRATE_MISMATCH_COUNT : Field := ⟨R.BRUSH_MIGRATE_MISMATCH, 15, 0⟩
def F.BRUSH_MIGRATE_MISMATCH_SAT : Field := ⟨R.BRUSH_MIGRATE_MISMATCH, 31, 31⟩
def F.BRUSH_MIGRATE_COLD_COUNT : Field := ⟨R.BRUSH_MIGRATE_COLD, 15, 0⟩
def F.BRUSH_MIGRATE_COLD_SAT : Field := ⟨R.BRUSH_MIGRATE_COLD, 31, 31⟩
def F.BRUSH_WINDOW_DENIED_COUNT : Field := ⟨R.BRUSH_WINDOW_DENIED, 15, 0⟩
def F.BRUSH_WINDOW_DENIED_SAT : Field := ⟨R.BRUSH_WINDOW_DENIED, 31, 31⟩
def F.BRUSH_MIGRATED_COUNT : Field := ⟨R.BRUSH_MIGRATED, 31, 0⟩
def F.ATELIER_STATUS_IN_FLIGHT : Field := ⟨R.ATELIER_STATUS, 9, 0⟩
def F.ATELIER_STATUS_READY : Field := ⟨R.ATELIER_STATUS, 19, 10⟩
def F.ATELIER_STATUS_RUNNING : Field := ⟨R.ATELIER_STATUS, 26, 20⟩
def F.ATELIER_STATUS_TRACE_ON : Field := ⟨R.ATELIER_STATUS, 27, 27⟩
def F.ATELIER_INT_STATUS_REFUSED : Field := ⟨R.ATELIER_INT_STATUS, 0, 0⟩
def F.ATELIER_INT_STATUS_FAULT : Field := ⟨R.ATELIER_INT_STATUS, 1, 1⟩
def F.ATELIER_INT_STATUS_SKIP : Field := ⟨R.ATELIER_INT_STATUS, 2, 2⟩
def F.ATELIER_INT_STATUS_DONE_ENTRY : Field := ⟨R.ATELIER_INT_STATUS, 3, 3⟩
def F.ATELIER_INT_STATUS_TRACE_DROP : Field := ⟨R.ATELIER_INT_STATUS, 4, 4⟩
def F.ATELIER_INT_STATUS_HALF_RANGE : Field := ⟨R.ATELIER_INT_STATUS, 5, 5⟩
def F.ATELIER_INT_STATUS_SAT : Field := ⟨R.ATELIER_INT_STATUS, 6, 6⟩
def F.ATELIER_INT_ENABLE_REFUSED : Field := ⟨R.ATELIER_INT_ENABLE, 0, 0⟩
def F.ATELIER_INT_ENABLE_FAULT : Field := ⟨R.ATELIER_INT_ENABLE, 1, 1⟩
def F.ATELIER_INT_ENABLE_SKIP : Field := ⟨R.ATELIER_INT_ENABLE, 2, 2⟩
def F.ATELIER_INT_ENABLE_DONE_ENTRY : Field := ⟨R.ATELIER_INT_ENABLE, 3, 3⟩
def F.ATELIER_INT_ENABLE_TRACE_DROP : Field := ⟨R.ATELIER_INT_ENABLE, 4, 4⟩
def F.ATELIER_INT_ENABLE_HALF_RANGE : Field := ⟨R.ATELIER_INT_ENABLE, 5, 5⟩
def F.ATELIER_INT_ENABLE_SAT : Field := ⟨R.ATELIER_INT_ENABLE, 6, 6⟩
def F.ATELIER_TRACE_CTRL_EN : Field := ⟨R.ATELIER_TRACE_CTRL, 0, 0⟩
def F.ATELIER_TRACE_CTRL_MODE : Field := ⟨R.ATELIER_TRACE_CTRL, 1, 1⟩
def F.ATELIER_TRACE_CTRL_LOG2 : Field := ⟨R.ATELIER_TRACE_CTRL, 7, 4⟩
def F.ATELIER_TRACE_CTRL_EVENTS : Field := ⟨R.ATELIER_TRACE_CTRL, 27, 16⟩
def F.ATELIER_TRACE_BASE_LO_BASE : Field := ⟨R.ATELIER_TRACE_BASE_LO, 31, 0⟩
def F.ATELIER_TRACE_BASE_HI_BASE : Field := ⟨R.ATELIER_TRACE_BASE_HI, 7, 0⟩
def F.ATELIER_TRACE_PROD_INDEX : Field := ⟨R.ATELIER_TRACE_PROD, 19, 0⟩
def F.ATELIER_TRACE_CONS_INDEX : Field := ⟨R.ATELIER_TRACE_CONS, 19, 0⟩
def F.ATELIER_CANCEL_HANDLE : Field := ⟨R.ATELIER_CANCEL, 15, 0⟩
def F.ATELIER_DONE_HANDLE : Field := ⟨R.ATELIER_DONE, 15, 0⟩
def F.ATELIER_DONE_STATUS : Field := ⟨R.ATELIER_DONE, 18, 16⟩
def F.ATELIER_DONE_VALID : Field := ⟨R.ATELIER_DONE, 31, 31⟩
def F.ATELIER_POSTED_COUNT : Field := ⟨R.ATELIER_POSTED, 31, 0⟩
def F.ATELIER_DISPATCHED_COUNT : Field := ⟨R.ATELIER_DISPATCHED, 31, 0⟩
def F.ATELIER_REFUSED_COUNT : Field := ⟨R.ATELIER_REFUSED, 15, 0⟩
def F.ATELIER_REFUSED_SAT : Field := ⟨R.ATELIER_REFUSED, 31, 31⟩
def F.ATELIER_BAD_POST_COUNT : Field := ⟨R.ATELIER_BAD_POST, 15, 0⟩
def F.ATELIER_BAD_POST_SAT : Field := ⟨R.ATELIER_BAD_POST, 31, 31⟩
def F.ATELIER_CANCEL_LATE_COUNT : Field := ⟨R.ATELIER_CANCEL_LATE, 15, 0⟩
def F.ATELIER_CANCEL_LATE_SAT : Field := ⟨R.ATELIER_CANCEL_LATE, 31, 31⟩
def F.ATELIER_CANCEL_STALE_COUNT : Field := ⟨R.ATELIER_CANCEL_STALE, 15, 0⟩
def F.ATELIER_CANCEL_STALE_SAT : Field := ⟨R.ATELIER_CANCEL_STALE, 31, 31⟩
def F.ATELIER_RETRY_COUNT : Field := ⟨R.ATELIER_RETRY, 15, 0⟩
def F.ATELIER_RETRY_SAT : Field := ⟨R.ATELIER_RETRY, 31, 31⟩
def F.ATELIER_FAULTED_COUNT : Field := ⟨R.ATELIER_FAULTED, 15, 0⟩
def F.ATELIER_FAULTED_SAT : Field := ⟨R.ATELIER_FAULTED, 31, 31⟩
def F.ATELIER_SKIP_COUNT : Field := ⟨R.ATELIER_SKIP, 15, 0⟩
def F.ATELIER_SKIP_SAT : Field := ⟨R.ATELIER_SKIP, 31, 31⟩
def F.ATELIER_DONE_LOST_COUNT : Field := ⟨R.ATELIER_DONE_LOST, 15, 0⟩
def F.ATELIER_DONE_LOST_SAT : Field := ⟨R.ATELIER_DONE_LOST, 31, 31⟩
def F.ATELIER_TRACE_DROP_COUNT : Field := ⟨R.ATELIER_TRACE_DROP, 15, 0⟩
def F.ATELIER_TRACE_DROP_SAT : Field := ⟨R.ATELIER_TRACE_DROP, 31, 31⟩
def F.ATELIER_STAGE_D_WORD (i : Nat) (j : Nat) : Field := ⟨R.ATELIER_STAGE_D i j, 31, 0⟩
def F.ATELIER_STAGE_GO_GO (i : Nat) : Field := ⟨R.ATELIER_STAGE_GO i, 0, 0⟩
def F.ATELIER_STAGE_RESULT_RESULT (i : Nat) : Field := ⟨R.ATELIER_STAGE_RESULT i, 31, 0⟩
def F.ATELIER_FLOW_NEXT_SEQ (i : Nat) : Field := ⟨R.ATELIER_FLOW i, 14, 0⟩
def F.ATELIER_FLOW_REL_SEQ (i : Nat) : Field := ⟨R.ATELIER_FLOW i, 30, 16⟩
def F.ATELIER_SLOT_STATE (i : Nat) : Field := ⟨R.ATELIER_SLOT i, 2, 0⟩
def F.ATELIER_SLOT_PRIO (i : Nat) : Field := ⟨R.ATELIER_SLOT i, 5, 3⟩
def F.ATELIER_SLOT_CORE (i : Nat) : Field := ⟨R.ATELIER_SLOT i, 13, 7⟩
def F.ATELIER_SLOT_RETRIED (i : Nat) : Field := ⟨R.ATELIER_SLOT i, 14, 14⟩
def F.ATELIER_SLOT_GEN (i : Nat) : Field := ⟨R.ATELIER_SLOT i, 22, 16⟩
def F.ATELIER_SLOT_DEP (i : Nat) : Field := ⟨R.ATELIER_SLOT i, 30, 23⟩
def F.FABRIC_STATUS_OUTSTANDING : Field := ⟨R.FABRIC_STATUS, 10, 0⟩
def F.FABRIC_STATUS_PEAK : Field := ⟨R.FABRIC_STATUS, 26, 16⟩
def F.FABRIC_INT_STATUS_NO_PATH : Field := ⟨R.FABRIC_INT_STATUS, 0, 0⟩
def F.FABRIC_INT_STATUS_HALF_RANGE : Field := ⟨R.FABRIC_INT_STATUS, 1, 1⟩
def F.FABRIC_INT_STATUS_SAT : Field := ⟨R.FABRIC_INT_STATUS, 2, 2⟩
def F.FABRIC_INT_ENABLE_NO_PATH : Field := ⟨R.FABRIC_INT_ENABLE, 0, 0⟩
def F.FABRIC_INT_ENABLE_HALF_RANGE : Field := ⟨R.FABRIC_INT_ENABLE, 1, 1⟩
def F.FABRIC_INT_ENABLE_SAT : Field := ⟨R.FABRIC_INT_ENABLE, 2, 2⟩
def F.FABRIC_TARGET_OUT (i : Nat) : Field := ⟨R.FABRIC_TARGET i, 8, 0⟩
def F.FABRIC_TARGET_PEAK (i : Nat) : Field := ⟨R.FABRIC_TARGET i, 24, 16⟩
def F.FABRIC_HELD_LIMIT_COUNT : Field := ⟨R.FABRIC_HELD_LIMIT, 31, 0⟩
def F.FABRIC_HELD_ORDER_COUNT : Field := ⟨R.FABRIC_HELD_ORDER, 31, 0⟩
def F.FABRIC_NO_PATH_COUNT : Field := ⟨R.FABRIC_NO_PATH, 15, 0⟩
def F.FABRIC_NO_PATH_SAT : Field := ⟨R.FABRIC_NO_PATH, 30, 30⟩
def F.FABRIC_NO_PATH_CLEAR : Field := ⟨R.FABRIC_NO_PATH, 31, 31⟩
def F.FABRIC_NO_PATH_ADDR_LO_ADDR : Field := ⟨R.FABRIC_NO_PATH_ADDR_LO, 31, 0⟩
def F.FABRIC_NO_PATH_ADDR_HI_ADDR : Field := ⟨R.FABRIC_NO_PATH_ADDR_HI, 7, 0⟩
def F.FABRIC_NO_PATH_ADDR_HI_MASTER : Field := ⟨R.FABRIC_NO_PATH_ADDR_HI, 14, 8⟩
def F.FABRIC_NO_PATH_ADDR_HI_WRITE : Field := ⟨R.FABRIC_NO_PATH_ADDR_HI, 16, 16⟩
def F.FABRIC_PORT_OUT (i : Nat) : Field := ⟨R.FABRIC_PORT i, 6, 0⟩
def F.FABRIC_PORT_PEAK (i : Nat) : Field := ⟨R.FABRIC_PORT i, 22, 16⟩
def F.MEMC_STATUS_TRAINED : Field := ⟨R.MEMC_STATUS, 0, 0⟩
def F.MEMC_STATUS_HOT : Field := ⟨R.MEMC_STATUS, 1, 1⟩
def F.MEMC_STATUS_SELF_REFRESH : Field := ⟨R.MEMC_STATUS, 2, 2⟩
def F.MEMC_MAP_GRAIN : Field := ⟨R.MEMC_MAP, 4, 0⟩
def F.MEMC_MAP_GRAIN_NEXT : Field := ⟨R.MEMC_MAP, 12, 8⟩
def F.MEMC_INT_STATUS_CORRECTED : Field := ⟨R.MEMC_INT_STATUS, 0, 0⟩
def F.MEMC_INT_STATUS_UNCORRECTED : Field := ⟨R.MEMC_INT_STATUS, 1, 1⟩
def F.MEMC_INT_STATUS_REMAP_DONE : Field := ⟨R.MEMC_INT_STATUS, 2, 2⟩
def F.MEMC_INT_STATUS_HOT : Field := ⟨R.MEMC_INT_STATUS, 3, 3⟩
def F.MEMC_INT_STATUS_TRACK_LIMIT : Field := ⟨R.MEMC_INT_STATUS, 4, 4⟩
def F.MEMC_INT_STATUS_HALF_RANGE : Field := ⟨R.MEMC_INT_STATUS, 5, 5⟩
def F.MEMC_INT_STATUS_SAT : Field := ⟨R.MEMC_INT_STATUS, 6, 6⟩
def F.MEMC_INT_ENABLE_CORRECTED : Field := ⟨R.MEMC_INT_ENABLE, 0, 0⟩
def F.MEMC_INT_ENABLE_UNCORRECTED : Field := ⟨R.MEMC_INT_ENABLE, 1, 1⟩
def F.MEMC_INT_ENABLE_REMAP_DONE : Field := ⟨R.MEMC_INT_ENABLE, 2, 2⟩
def F.MEMC_INT_ENABLE_HOT : Field := ⟨R.MEMC_INT_ENABLE, 3, 3⟩
def F.MEMC_INT_ENABLE_TRACK_LIMIT : Field := ⟨R.MEMC_INT_ENABLE, 4, 4⟩
def F.MEMC_INT_ENABLE_HALF_RANGE : Field := ⟨R.MEMC_INT_ENABLE, 5, 5⟩
def F.MEMC_INT_ENABLE_SAT : Field := ⟨R.MEMC_INT_ENABLE, 6, 6⟩
def F.MEMC_SCRUB_HOURS : Field := ⟨R.MEMC_SCRUB, 7, 0⟩
def F.MEMC_SCRUB_PROGRESS : Field := ⟨R.MEMC_SCRUB, 25, 16⟩
def F.MEMC_FIRST_UNCORR_LO_ADDR : Field := ⟨R.MEMC_FIRST_UNCORR_LO, 31, 0⟩
def F.MEMC_FIRST_UNCORR_HI_ADDR : Field := ⟨R.MEMC_FIRST_UNCORR_HI, 7, 0⟩
def F.MEMC_FIRST_UNCORR_HI_MASTER : Field := ⟨R.MEMC_FIRST_UNCORR_HI, 14, 8⟩
def F.MEMC_FIRST_UNCORR_HI_CLEAR : Field := ⟨R.MEMC_FIRST_UNCORR_HI, 30, 30⟩
def F.MEMC_FIRST_UNCORR_HI_VALID : Field := ⟨R.MEMC_FIRST_UNCORR_HI, 31, 31⟩
def F.MEMC_CORRECTED_COUNT : Field := ⟨R.MEMC_CORRECTED, 15, 0⟩
def F.MEMC_CORRECTED_SAT : Field := ⟨R.MEMC_CORRECTED, 31, 31⟩
def F.MEMC_UNCORRECTED_COUNT : Field := ⟨R.MEMC_UNCORRECTED, 15, 0⟩
def F.MEMC_UNCORRECTED_SAT : Field := ⟨R.MEMC_UNCORRECTED, 31, 31⟩
def F.MEMC_TRACK_LIMIT_COUNT : Field := ⟨R.MEMC_TRACK_LIMIT, 15, 0⟩
def F.MEMC_TRACK_LIMIT_SAT : Field := ⟨R.MEMC_TRACK_LIMIT, 31, 31⟩
def F.MEMC_HAZARD_WAIT_COUNT : Field := ⟨R.MEMC_HAZARD_WAIT, 31, 0⟩
def F.MEMC_ROW_HIT_COUNT : Field := ⟨R.MEMC_ROW_HIT, 31, 0⟩
def F.MEMC_ROW_MISS_COUNT : Field := ⟨R.MEMC_ROW_MISS, 31, 0⟩
def F.MEMC_TRAIN_A_RD_DELAY (i : Nat) : Field := ⟨R.MEMC_TRAIN_A i, 6, 0⟩
def F.MEMC_TRAIN_A_WR_DELAY (i : Nat) : Field := ⟨R.MEMC_TRAIN_A i, 14, 8⟩
def F.MEMC_TRAIN_A_RD_EYE (i : Nat) : Field := ⟨R.MEMC_TRAIN_A i, 22, 16⟩
def F.MEMC_TRAIN_A_WR_EYE (i : Nat) : Field := ⟨R.MEMC_TRAIN_A i, 30, 24⟩
def F.MEMC_TRAIN_B_RD_VREF (i : Nat) : Field := ⟨R.MEMC_TRAIN_B i, 4, 0⟩
def F.MEMC_TRAIN_B_WR_VREF (i : Nat) : Field := ⟨R.MEMC_TRAIN_B i, 12, 8⟩
def F.MEMC_TRAIN_B_ATTEMPTS (i : Nat) : Field := ⟨R.MEMC_TRAIN_B i, 17, 16⟩
def F.MEMC_TRAIN_B_FAILED (i : Nat) : Field := ⟨R.MEMC_TRAIN_B i, 31, 31⟩
def F.MEMC_REMAP_ROW (i : Nat) (j : Nat) : Field := ⟨R.MEMC_REMAP i j, 15, 0⟩
def F.MEMC_REMAP_BANK (i : Nat) (j : Nat) : Field := ⟨R.MEMC_REMAP i j, 19, 16⟩
def F.MEMC_REMAP_SPARE (i : Nat) (j : Nat) : Field := ⟨R.MEMC_REMAP i j, 24, 20⟩
def F.MEMC_REMAP_STATE (i : Nat) (j : Nat) : Field := ⟨R.MEMC_REMAP i j, 26, 25⟩
def F.FLASH_STATUS_BUSY : Field := ⟨R.FLASH_STATUS, 0, 0⟩
def F.FLASH_STATUS_WRITES_ALLOWED : Field := ⟨R.FLASH_STATUS, 1, 1⟩
def F.FLASH_STATUS_RECOVERED : Field := ⟨R.FLASH_STATUS, 2, 2⟩
def F.FLASH_STATUS_RECORD_MISSED : Field := ⟨R.FLASH_STATUS, 3, 3⟩
def F.FLASH_STATUS_SPARES : Field := ⟨R.FLASH_STATUS, 24, 16⟩
def F.FLASH_INT_STATUS_PROG_FAIL : Field := ⟨R.FLASH_INT_STATUS, 0, 0⟩
def F.FLASH_INT_STATUS_ERASE_FAIL : Field := ⟨R.FLASH_INT_STATUS, 1, 1⟩
def F.FLASH_INT_STATUS_UNCORRECTABLE : Field := ⟨R.FLASH_INT_STATUS, 2, 2⟩
def F.FLASH_INT_STATUS_RELOCATED : Field := ⟨R.FLASH_INT_STATUS, 3, 3⟩
def F.FLASH_INT_STATUS_RETIRED : Field := ⟨R.FLASH_INT_STATUS, 4, 4⟩
def F.FLASH_INT_STATUS_SPARE_LOW : Field := ⟨R.FLASH_INT_STATUS, 5, 5⟩
def F.FLASH_INT_STATUS_REFUSED : Field := ⟨R.FLASH_INT_STATUS, 6, 6⟩
def F.FLASH_INT_STATUS_HALF_RANGE : Field := ⟨R.FLASH_INT_STATUS, 7, 7⟩
def F.FLASH_INT_STATUS_SAT : Field := ⟨R.FLASH_INT_STATUS, 8, 8⟩
def F.FLASH_INT_ENABLE_PROG_FAIL : Field := ⟨R.FLASH_INT_ENABLE, 0, 0⟩
def F.FLASH_INT_ENABLE_ERASE_FAIL : Field := ⟨R.FLASH_INT_ENABLE, 1, 1⟩
def F.FLASH_INT_ENABLE_UNCORRECTABLE : Field := ⟨R.FLASH_INT_ENABLE, 2, 2⟩
def F.FLASH_INT_ENABLE_RELOCATED : Field := ⟨R.FLASH_INT_ENABLE, 3, 3⟩
def F.FLASH_INT_ENABLE_RETIRED : Field := ⟨R.FLASH_INT_ENABLE, 4, 4⟩
def F.FLASH_INT_ENABLE_SPARE_LOW : Field := ⟨R.FLASH_INT_ENABLE, 5, 5⟩
def F.FLASH_INT_ENABLE_REFUSED : Field := ⟨R.FLASH_INT_ENABLE, 6, 6⟩
def F.FLASH_INT_ENABLE_HALF_RANGE : Field := ⟨R.FLASH_INT_ENABLE, 7, 7⟩
def F.FLASH_INT_ENABLE_SAT : Field := ⟨R.FLASH_INT_ENABLE, 8, 8⟩
def F.FLASH_SCRUB_TLC_DAYS : Field := ⟨R.FLASH_SCRUB, 7, 0⟩
def F.FLASH_SCRUB_PSLC_DAYS : Field := ⟨R.FLASH_SCRUB, 15, 8⟩
def F.FLASH_SCRUB_THRESH : Field := ⟨R.FLASH_SCRUB, 23, 16⟩
def F.FLASH_AGE_LIMIT_TLC : Field := ⟨R.FLASH_AGE_LIMIT, 15, 0⟩
def F.FLASH_AGE_LIMIT_PSLC : Field := ⟨R.FLASH_AGE_LIMIT, 31, 16⟩
def F.FLASH_REFUSED_COUNT : Field := ⟨R.FLASH_REFUSED, 15, 0⟩
def F.FLASH_REFUSED_SAT : Field := ⟨R.FLASH_REFUSED, 31, 31⟩
def F.FLASH_PROG_FAIL_COUNT : Field := ⟨R.FLASH_PROG_FAIL, 15, 0⟩
def F.FLASH_PROG_FAIL_SAT : Field := ⟨R.FLASH_PROG_FAIL, 31, 31⟩
def F.FLASH_ERASE_FAIL_COUNT : Field := ⟨R.FLASH_ERASE_FAIL, 15, 0⟩
def F.FLASH_ERASE_FAIL_SAT : Field := ⟨R.FLASH_ERASE_FAIL, 31, 31⟩
def F.FLASH_UNCORRECTABLE_COUNT : Field := ⟨R.FLASH_UNCORRECTABLE, 15, 0⟩
def F.FLASH_UNCORRECTABLE_SAT : Field := ⟨R.FLASH_UNCORRECTABLE, 31, 31⟩
def F.FLASH_RELOCATED_COUNT : Field := ⟨R.FLASH_RELOCATED, 15, 0⟩
def F.FLASH_RELOCATED_SAT : Field := ⟨R.FLASH_RELOCATED, 31, 31⟩
def F.FLASH_RETIRED_COUNT : Field := ⟨R.FLASH_RETIRED, 15, 0⟩
def F.FLASH_RETIRED_SAT : Field := ⟨R.FLASH_RETIRED, 31, 31⟩
def F.FLASH_CORRECTED_BITS_COUNT : Field := ⟨R.FLASH_CORRECTED_BITS, 31, 0⟩
def F.FLASH_PAGES_READ_COUNT : Field := ⟨R.FLASH_PAGES_READ, 31, 0⟩
def F.FLASH_PAGES_PROGRAMMED_COUNT : Field := ⟨R.FLASH_PAGES_PROGRAMMED, 31, 0⟩
def F.FLASH_EU_A_PE (i : Nat) : Field := ⟨R.FLASH_EU_A i, 15, 0⟩
def F.FLASH_EU_A_AGE (i : Nat) : Field := ⟨R.FLASH_EU_A i, 30, 16⟩
def F.FLASH_EU_A_SAT (i : Nat) : Field := ⟨R.FLASH_EU_A i, 31, 31⟩
def F.FLASH_EU_B_STATE (i : Nat) : Field := ⟨R.FLASH_EU_B i, 2, 0⟩
def F.FLASH_EU_B_AREA (i : Nat) : Field := ⟨R.FLASH_EU_B i, 6, 4⟩
def F.FLASH_EU_B_MAXBITS (i : Nat) : Field := ⟨R.FLASH_EU_B i, 15, 8⟩
def F.CRC_STATUS_BUSY : Field := ⟨R.CRC_STATUS, 3, 0⟩
def F.CRC_INT_STATUS_DONE : Field := ⟨R.CRC_INT_STATUS, 3, 0⟩
def F.CRC_INT_STATUS_ERR : Field := ⟨R.CRC_INT_STATUS, 7, 4⟩
def F.CRC_INT_STATUS_SAT : Field := ⟨R.CRC_INT_STATUS, 8, 8⟩
def F.CRC_INT_ENABLE_DONE : Field := ⟨R.CRC_INT_ENABLE, 3, 0⟩
def F.CRC_INT_ENABLE_ERR : Field := ⟨R.CRC_INT_ENABLE, 7, 4⟩
def F.CRC_INT_ENABLE_SAT : Field := ⟨R.CRC_INT_ENABLE, 8, 8⟩
def F.CRC_GO_IGNORED_COUNT : Field := ⟨R.CRC_GO_IGNORED, 15, 0⟩
def F.CRC_GO_IGNORED_SAT : Field := ⟨R.CRC_GO_IGNORED, 31, 31⟩
def F.CRC_CH_ADDR_LO_ADDR (i : Nat) : Field := ⟨R.CRC_CH_ADDR_LO i, 31, 0⟩
def F.CRC_CH_ADDR_HI_ADDR (i : Nat) : Field := ⟨R.CRC_CH_ADDR_HI i, 7, 0⟩
def F.CRC_CH_LEN_COUNT (i : Nat) : Field := ⟨R.CRC_CH_LEN i, 31, 0⟩
def F.CRC_CH_CTRL_POLY (i : Nat) : Field := ⟨R.CRC_CH_CTRL i, 1, 0⟩
def F.CRC_CH_CTRL_CONT (i : Nat) : Field := ⟨R.CRC_CH_CTRL i, 2, 2⟩
def F.CRC_CH_CTRL_BUSY (i : Nat) : Field := ⟨R.CRC_CH_CTRL i, 8, 8⟩
def F.CRC_CH_CTRL_DONE (i : Nat) : Field := ⟨R.CRC_CH_CTRL i, 9, 9⟩
def F.CRC_CH_CTRL_ERR (i : Nat) : Field := ⟨R.CRC_CH_CTRL i, 10, 10⟩
def F.CRC_CH_CTRL_CAUSE (i : Nat) : Field := ⟨R.CRC_CH_CTRL i, 13, 12⟩
def F.CRC_CH_CTRL_GO (i : Nat) : Field := ⟨R.CRC_CH_CTRL i, 31, 31⟩
def F.CRC_CH_SEED_LO_SEED (i : Nat) : Field := ⟨R.CRC_CH_SEED_LO i, 31, 0⟩
def F.CRC_CH_SEED_HI_SEED (i : Nat) : Field := ⟨R.CRC_CH_SEED_HI i, 31, 0⟩
def F.CRC_CH_RESULT_LO_RESULT (i : Nat) : Field := ⟨R.CRC_CH_RESULT_LO i, 31, 0⟩
def F.CRC_CH_RESULT_HI_RESULT (i : Nat) : Field := ⟨R.CRC_CH_RESULT_HI i, 31, 0⟩
def F.TWIN_STATUS_STATE : Field := ⟨R.TWIN_STATUS, 2, 0⟩
def F.TWIN_STATUS_READY : Field := ⟨R.TWIN_STATUS, 3, 3⟩
def F.TWIN_STATUS_TETHER_UP : Field := ⟨R.TWIN_STATUS, 4, 4⟩
def F.TWIN_STATUS_MEDIA_MATCH : Field := ⟨R.TWIN_STATUS, 5, 5⟩
def F.TWIN_STATUS_WITNESS_SEEN : Field := ⟨R.TWIN_STATUS, 6, 6⟩
def F.TWIN_STATUS_PARTNER_FLAGS : Field := ⟨R.TWIN_STATUS, 13, 8⟩
def F.TWIN_INT_STATUS_TAKEOVER : Field := ⟨R.TWIN_INT_STATUS, 0, 0⟩
def F.TWIN_INT_STATUS_TAKEOVER_DONE : Field := ⟨R.TWIN_INT_STATUS, 1, 1⟩
def F.TWIN_INT_STATUS_SWITCH_DONE : Field := ⟨R.TWIN_INT_STATUS, 2, 2⟩
def F.TWIN_INT_STATUS_TETHER_LOST : Field := ⟨R.TWIN_INT_STATUS, 3, 3⟩
def F.TWIN_INT_STATUS_TETHER_UP : Field := ⟨R.TWIN_INT_STATUS, 4, 4⟩
def F.TWIN_INT_STATUS_SET_MISSING : Field := ⟨R.TWIN_INT_STATUS, 5, 5⟩
def F.TWIN_INT_STATUS_SET_BAD : Field := ⟨R.TWIN_INT_STATUS, 6, 6⟩
def F.TWIN_INT_STATUS_RESYNC_DONE : Field := ⟨R.TWIN_INT_STATUS, 7, 7⟩
def F.TWIN_INT_STATUS_ISOLATED : Field := ⟨R.TWIN_INT_STATUS, 8, 8⟩
def F.TWIN_INT_STATUS_CONFLICT : Field := ⟨R.TWIN_INT_STATUS, 9, 9⟩
def F.TWIN_INT_STATUS_HALF_RANGE : Field := ⟨R.TWIN_INT_STATUS, 10, 10⟩
def F.TWIN_INT_STATUS_SAT : Field := ⟨R.TWIN_INT_STATUS, 11, 11⟩
def F.TWIN_INT_ENABLE_TAKEOVER : Field := ⟨R.TWIN_INT_ENABLE, 0, 0⟩
def F.TWIN_INT_ENABLE_TAKEOVER_DONE : Field := ⟨R.TWIN_INT_ENABLE, 1, 1⟩
def F.TWIN_INT_ENABLE_SWITCH_DONE : Field := ⟨R.TWIN_INT_ENABLE, 2, 2⟩
def F.TWIN_INT_ENABLE_TETHER_LOST : Field := ⟨R.TWIN_INT_ENABLE, 3, 3⟩
def F.TWIN_INT_ENABLE_TETHER_UP : Field := ⟨R.TWIN_INT_ENABLE, 4, 4⟩
def F.TWIN_INT_ENABLE_SET_MISSING : Field := ⟨R.TWIN_INT_ENABLE, 5, 5⟩
def F.TWIN_INT_ENABLE_SET_BAD : Field := ⟨R.TWIN_INT_ENABLE, 6, 6⟩
def F.TWIN_INT_ENABLE_RESYNC_DONE : Field := ⟨R.TWIN_INT_ENABLE, 7, 7⟩
def F.TWIN_INT_ENABLE_ISOLATED : Field := ⟨R.TWIN_INT_ENABLE, 8, 8⟩
def F.TWIN_INT_ENABLE_CONFLICT : Field := ⟨R.TWIN_INT_ENABLE, 9, 9⟩
def F.TWIN_INT_ENABLE_HALF_RANGE : Field := ⟨R.TWIN_INT_ENABLE, 10, 10⟩
def F.TWIN_INT_ENABLE_SAT : Field := ⟨R.TWIN_INT_ENABLE, 11, 11⟩
def F.TWIN_CFG_EN : Field := ⟨R.TWIN_CFG, 0, 0⟩
def F.TWIN_CFG_PRIMARY : Field := ⟨R.TWIN_CFG, 1, 1⟩
def F.TWIN_CFG_SYNC_REPLY : Field := ⟨R.TWIN_CFG, 2, 2⟩
def F.TWIN_CFG_WITNESS : Field := ⟨R.TWIN_CFG, 16, 8⟩
def F.TWIN_CFG_TDM_SHARED : Field := ⟨R.TWIN_CFG, 31, 24⟩
def F.TWIN_TRIGGER_FLAGS : Field := ⟨R.TWIN_TRIGGER, 4, 0⟩
def F.TWIN_ALIAS0_ADDR : Field := ⟨R.TWIN_ALIAS0, 31, 0⟩
def F.TWIN_ALIAS1_ADDR : Field := ⟨R.TWIN_ALIAS1, 31, 0⟩
def F.TWIN_ALIAS3_ADDR : Field := ⟨R.TWIN_ALIAS3, 31, 0⟩
def F.TWIN_EPOCH_EPOCH : Field := ⟨R.TWIN_EPOCH, 31, 0⟩
def F.TWIN_LAST_SET_LO_N : Field := ⟨R.TWIN_LAST_SET_LO, 31, 0⟩
def F.TWIN_LAST_SET_HI_N : Field := ⟨R.TWIN_LAST_SET_HI, 31, 0⟩
def F.TWIN_SET_SIZE_LAST : Field := ⟨R.TWIN_SET_SIZE, 19, 0⟩
def F.TWIN_SET_PEAK_PEAK : Field := ⟨R.TWIN_SET_PEAK, 19, 0⟩
def F.TWIN_TAKEOVER_COUNT_COUNT : Field := ⟨R.TWIN_TAKEOVER_COUNT, 15, 0⟩
def F.TWIN_TAKEOVER_COUNT_SAT : Field := ⟨R.TWIN_TAKEOVER_COUNT, 31, 31⟩
def F.TWIN_SWITCHOVER_COUNT_COUNT : Field := ⟨R.TWIN_SWITCHOVER_COUNT, 15, 0⟩
def F.TWIN_SWITCHOVER_COUNT_SAT : Field := ⟨R.TWIN_SWITCHOVER_COUNT, 31, 31⟩
def F.TWIN_SET_MISSING_COUNT : Field := ⟨R.TWIN_SET_MISSING, 15, 0⟩
def F.TWIN_SET_MISSING_SAT : Field := ⟨R.TWIN_SET_MISSING, 31, 31⟩
def F.TWIN_SET_BAD_COUNT : Field := ⟨R.TWIN_SET_BAD, 15, 0⟩
def F.TWIN_SET_BAD_SAT : Field := ⟨R.TWIN_SET_BAD, 31, 31⟩
def F.TWIN_RESYNC_COUNT_COUNT : Field := ⟨R.TWIN_RESYNC_COUNT, 15, 0⟩
def F.TWIN_RESYNC_COUNT_SAT : Field := ⟨R.TWIN_RESYNC_COUNT, 31, 31⟩
def F.TWIN_TETHER_LOST_COUNT : Field := ⟨R.TWIN_TETHER_LOST, 15, 0⟩
def F.TWIN_TETHER_LOST_SAT : Field := ⟨R.TWIN_TETHER_LOST, 31, 31⟩
def F.TWIN_SETS_COUNT : Field := ⟨R.TWIN_SETS, 31, 0⟩
def F.UPDATE_STATUS_STATE : Field := ⟨R.UPDATE_STATUS, 2, 0⟩
def F.UPDATE_STATUS_WINNER_SLOT : Field := ⟨R.UPDATE_STATUS, 3, 3⟩
def F.UPDATE_STATUS_BRUSH_PENDING : Field := ⟨R.UPDATE_STATUS, 4, 4⟩
def F.UPDATE_STATUS_FALLBACK : Field := ⟨R.UPDATE_STATUS, 5, 5⟩
def F.UPDATE_STATUS_ACT_CAUSE : Field := ⟨R.UPDATE_STATUS, 9, 6⟩
def F.UPDATE_INT_STATUS_VERIFIED : Field := ⟨R.UPDATE_INT_STATUS, 0, 0⟩
def F.UPDATE_INT_STATUS_VERIFY_FAILED : Field := ⟨R.UPDATE_INT_STATUS, 1, 1⟩
def F.UPDATE_INT_STATUS_CONFLICT : Field := ⟨R.UPDATE_INT_STATUS, 2, 2⟩
def F.UPDATE_INT_STATUS_PEER_CHANGE : Field := ⟨R.UPDATE_INT_STATUS, 3, 3⟩
def F.UPDATE_INT_STATUS_SCHEDULED : Field := ⟨R.UPDATE_INT_STATUS, 4, 4⟩
def F.UPDATE_INT_STATUS_ACTIVATED : Field := ⟨R.UPDATE_INT_STATUS, 5, 5⟩
def F.UPDATE_INT_STATUS_ACT_FAILED : Field := ⟨R.UPDATE_INT_STATUS, 6, 6⟩
def F.UPDATE_INT_STATUS_HALF_RANGE : Field := ⟨R.UPDATE_INT_STATUS, 7, 7⟩
def F.UPDATE_INT_STATUS_SAT : Field := ⟨R.UPDATE_INT_STATUS, 8, 8⟩
def F.UPDATE_INT_ENABLE_VERIFIED : Field := ⟨R.UPDATE_INT_ENABLE, 0, 0⟩
def F.UPDATE_INT_ENABLE_VERIFY_FAILED : Field := ⟨R.UPDATE_INT_ENABLE, 1, 1⟩
def F.UPDATE_INT_ENABLE_CONFLICT : Field := ⟨R.UPDATE_INT_ENABLE, 2, 2⟩
def F.UPDATE_INT_ENABLE_PEER_CHANGE : Field := ⟨R.UPDATE_INT_ENABLE, 3, 3⟩
def F.UPDATE_INT_ENABLE_SCHEDULED : Field := ⟨R.UPDATE_INT_ENABLE, 4, 4⟩
def F.UPDATE_INT_ENABLE_ACTIVATED : Field := ⟨R.UPDATE_INT_ENABLE, 5, 5⟩
def F.UPDATE_INT_ENABLE_ACT_FAILED : Field := ⟨R.UPDATE_INT_ENABLE, 6, 6⟩
def F.UPDATE_INT_ENABLE_HALF_RANGE : Field := ⟨R.UPDATE_INT_ENABLE, 7, 7⟩
def F.UPDATE_INT_ENABLE_SAT : Field := ⟨R.UPDATE_INT_ENABLE, 8, 8⟩
def F.UPDATE_CFG_FWD_EN : Field := ⟨R.UPDATE_CFG, 0, 0⟩
def F.UPDATE_CFG_RATE : Field := ⟨R.UPDATE_CFG, 15, 4⟩
def F.UPDATE_UPSTREAM_ADDR : Field := ⟨R.UPDATE_UPSTREAM, 31, 0⟩
def F.UPDATE_PEER_ADDR (i : Nat) : Field := ⟨R.UPDATE_PEER i, 31, 0⟩
def F.UPDATE_PEER_STATE_PEER (n : Nat) : Field := ⟨R.UPDATE_PEER_STATE, 4*n+3, 4*n⟩
def F.UPDATE_SLOT_STATE_STATE (i : Nat) : Field := ⟨R.UPDATE_SLOT_STATE i, 1, 0⟩
def F.UPDATE_SLOT_STATE_SOURCE (i : Nat) : Field := ⟨R.UPDATE_SLOT_STATE i, 2, 2⟩
def F.UPDATE_SLOT_STATE_CAUSE (i : Nat) : Field := ⟨R.UPDATE_SLOT_STATE i, 7, 4⟩
def F.UPDATE_SLOT_RECEIVED_BYTES (i : Nat) : Field := ⟨R.UPDATE_SLOT_RECEIVED i, 31, 0⟩
def F.UPDATE_SLOT_LENGTH_BYTES (i : Nat) : Field := ⟨R.UPDATE_SLOT_LENGTH i, 31, 0⟩
def F.UPDATE_SLOT_PREFIX_LO_DIGEST (i : Nat) : Field := ⟨R.UPDATE_SLOT_PREFIX_LO i, 31, 0⟩
def F.UPDATE_SLOT_PREFIX_HI_DIGEST (i : Nat) : Field := ⟨R.UPDATE_SLOT_PREFIX_HI i, 31, 0⟩
def F.UPDATE_DIGEST_DIGEST (i : Nat) : Field := ⟨R.UPDATE_DIGEST i, 31, 0⟩
def F.UPDATE_ACT_SEC_LO_SEC : Field := ⟨R.UPDATE_ACT_SEC_LO, 31, 0⟩
def F.UPDATE_ACT_SEC_HI_SEC : Field := ⟨R.UPDATE_ACT_SEC_HI, 15, 0⟩
def F.UPDATE_ACT_NS_NS : Field := ⟨R.UPDATE_ACT_NS, 29, 0⟩
def F.UPDATE_ACTIVE_VERSION_VERSION : Field := ⟨R.UPDATE_ACTIVE_VERSION, 31, 0⟩
def F.UPDATE_SVN_ACTIVE : Field := ⟨R.UPDATE_SVN, 7, 0⟩
def F.UPDATE_SVN_MIN : Field := ⟨R.UPDATE_SVN, 15, 8⟩
def F.UPDATE_PREV_VERSION_VERSION : Field := ⟨R.UPDATE_PREV_VERSION, 31, 0⟩
def F.UPDATE_VERIFY_FAILED_COUNT : Field := ⟨R.UPDATE_VERIFY_FAILED, 15, 0⟩
def F.UPDATE_VERIFY_FAILED_SAT : Field := ⟨R.UPDATE_VERIFY_FAILED, 31, 31⟩
def F.UPDATE_CONFLICT_COUNT : Field := ⟨R.UPDATE_CONFLICT, 15, 0⟩
def F.UPDATE_CONFLICT_SAT : Field := ⟨R.UPDATE_CONFLICT, 31, 31⟩
def F.UPDATE_DUPLICATE_COUNT : Field := ⟨R.UPDATE_DUPLICATE, 15, 0⟩
def F.UPDATE_DUPLICATE_SAT : Field := ⟨R.UPDATE_DUPLICATE, 31, 31⟩
def F.UPDATE_BAD_SOURCE_COUNT : Field := ⟨R.UPDATE_BAD_SOURCE, 15, 0⟩
def F.UPDATE_BAD_SOURCE_SAT : Field := ⟨R.UPDATE_BAD_SOURCE, 31, 31⟩
def F.UPDATE_FALLBACK_COUNT : Field := ⟨R.UPDATE_FALLBACK, 15, 0⟩
def F.UPDATE_FALLBACK_SAT : Field := ⟨R.UPDATE_FALLBACK, 31, 31⟩
def F.UPDATE_RETRANSMIT_COUNT : Field := ⟨R.UPDATE_RETRANSMIT, 31, 0⟩
def F.HEALTH_STATUS_PATROL_ON : Field := ⟨R.HEALTH_STATUS, 0, 0⟩
def F.HEALTH_STATUS_RE8_FREE : Field := ⟨R.HEALTH_STATUS, 3, 1⟩
def F.HEALTH_STATUS_BRUSH_SPARE : Field := ⟨R.HEALTH_STATUS, 7, 4⟩
def F.HEALTH_STATUS_NO_SPARE : Field := ⟨R.HEALTH_STATUS, 8, 8⟩
def F.HEALTH_STATUS_CAPACITY_REDUCED : Field := ⟨R.HEALTH_STATUS, 9, 9⟩
def F.HEALTH_STATUS_MAINT : Field := ⟨R.HEALTH_STATUS, 10, 10⟩
def F.HEALTH_STATUS_SMUDGE_ARMED : Field := ⟨R.HEALTH_STATUS, 11, 11⟩
def F.HEALTH_STATUS_LEDGER_HELD : Field := ⟨R.HEALTH_STATUS, 12, 12⟩
def F.HEALTH_INT_STATUS_SUSPECT : Field := ⟨R.HEALTH_INT_STATUS, 0, 0⟩
def F.HEALTH_INT_STATUS_SWAP : Field := ⟨R.HEALTH_INT_STATUS, 1, 1⟩
def F.HEALTH_INT_STATUS_RETIRED : Field := ⟨R.HEALTH_INT_STATUS, 2, 2⟩
def F.HEALTH_INT_STATUS_QUALIFIED : Field := ⟨R.HEALTH_INT_STATUS, 3, 3⟩
def F.HEALTH_INT_STATUS_SELFTEST_FAIL : Field := ⟨R.HEALTH_INT_STATUS, 4, 4⟩
def F.HEALTH_INT_STATUS_MARGIN_LOW : Field := ⟨R.HEALTH_INT_STATUS, 5, 5⟩
def F.HEALTH_INT_STATUS_NO_SPARE : Field := ⟨R.HEALTH_INT_STATUS, 6, 6⟩
def F.HEALTH_INT_STATUS_AUTO_RESET : Field := ⟨R.HEALTH_INT_STATUS, 7, 7⟩
def F.HEALTH_INT_STATUS_EXHAUSTED : Field := ⟨R.HEALTH_INT_STATUS, 8, 8⟩
def F.HEALTH_INT_STATUS_HALF_RANGE : Field := ⟨R.HEALTH_INT_STATUS, 9, 9⟩
def F.HEALTH_INT_STATUS_SAT : Field := ⟨R.HEALTH_INT_STATUS, 10, 10⟩
def F.HEALTH_INT_ENABLE_SUSPECT : Field := ⟨R.HEALTH_INT_ENABLE, 0, 0⟩
def F.HEALTH_INT_ENABLE_SWAP : Field := ⟨R.HEALTH_INT_ENABLE, 1, 1⟩
def F.HEALTH_INT_ENABLE_RETIRED : Field := ⟨R.HEALTH_INT_ENABLE, 2, 2⟩
def F.HEALTH_INT_ENABLE_QUALIFIED : Field := ⟨R.HEALTH_INT_ENABLE, 3, 3⟩
def F.HEALTH_INT_ENABLE_SELFTEST_FAIL : Field := ⟨R.HEALTH_INT_ENABLE, 4, 4⟩
def F.HEALTH_INT_ENABLE_MARGIN_LOW : Field := ⟨R.HEALTH_INT_ENABLE, 5, 5⟩
def F.HEALTH_INT_ENABLE_NO_SPARE : Field := ⟨R.HEALTH_INT_ENABLE, 6, 6⟩
def F.HEALTH_INT_ENABLE_AUTO_RESET : Field := ⟨R.HEALTH_INT_ENABLE, 7, 7⟩
def F.HEALTH_INT_ENABLE_EXHAUSTED : Field := ⟨R.HEALTH_INT_ENABLE, 8, 8⟩
def F.HEALTH_INT_ENABLE_HALF_RANGE : Field := ⟨R.HEALTH_INT_ENABLE, 9, 9⟩
def F.HEALTH_INT_ENABLE_SAT : Field := ⟨R.HEALTH_INT_ENABLE, 10, 10⟩
def F.HEALTH_CTRL_PATROL_EN : Field := ⟨R.HEALTH_CTRL, 0, 0⟩
def F.HEALTH_CTRL_SELFTEST_EN : Field := ⟨R.HEALTH_CTRL, 1, 1⟩
def F.HEALTH_AUTO_RESET_PORTS : Field := ⟨R.HEALTH_AUTO_RESET, 10, 0⟩
def F.HEALTH_AUTO_RESET_BRUSH : Field := ⟨R.HEALTH_AUTO_RESET, 23, 20⟩
def F.HEALTH_AUTO_RESET_OTHER : Field := ⟨R.HEALTH_AUTO_RESET, 28, 24⟩
def F.HEALTH_PATROL_INTERVAL : Field := ⟨R.HEALTH_PATROL, 15, 0⟩
def F.HEALTH_PATROL_QUALIFY : Field := ⟨R.HEALTH_PATROL, 23, 16⟩
def F.HEALTH_THRESH_NEAR_CORR : Field := ⟨R.HEALTH_THRESH, 7, 0⟩
def F.HEALTH_THRESH_DRAM_CORR : Field := ⟨R.HEALTH_THRESH, 15, 8⟩
def F.HEALTH_THRESH_BRUSH_DM : Field := ⟨R.HEALTH_THRESH, 23, 16⟩
def F.HEALTH_THRESH_MARGIN_MIN : Field := ⟨R.HEALTH_THRESH, 31, 24⟩
def F.HEALTH_CAPACITY_LANES : Field := ⟨R.HEALTH_CAPACITY, 5, 0⟩
def F.HEALTH_CAPACITY_BRUSH : Field := ⟨R.HEALTH_CAPACITY, 22, 16⟩
def F.HEALTH_CAPACITY_REDUCED : Field := ⟨R.HEALTH_CAPACITY, 31, 31⟩
def F.HEALTH_LEDGER_NEXT_LO_INDEX : Field := ⟨R.HEALTH_LEDGER_NEXT_LO, 31, 0⟩
def F.HEALTH_LEDGER_NEXT_HI_INDEX : Field := ⟨R.HEALTH_LEDGER_NEXT_HI, 31, 0⟩
def F.HEALTH_SUSPECT_COUNT : Field := ⟨R.HEALTH_SUSPECT, 15, 0⟩
def F.HEALTH_SUSPECT_SAT : Field := ⟨R.HEALTH_SUSPECT, 31, 31⟩
def F.HEALTH_SWAPS_COUNT : Field := ⟨R.HEALTH_SWAPS, 15, 0⟩
def F.HEALTH_SWAPS_SAT : Field := ⟨R.HEALTH_SWAPS, 31, 31⟩
def F.HEALTH_RETIRED_COUNT : Field := ⟨R.HEALTH_RETIRED, 15, 0⟩
def F.HEALTH_RETIRED_SAT : Field := ⟨R.HEALTH_RETIRED, 31, 31⟩
def F.HEALTH_SELFTEST_FAIL_COUNT : Field := ⟨R.HEALTH_SELFTEST_FAIL, 15, 0⟩
def F.HEALTH_SELFTEST_FAIL_SAT : Field := ⟨R.HEALTH_SELFTEST_FAIL, 31, 31⟩
def F.HEALTH_AUTO_RESETS_COUNT : Field := ⟨R.HEALTH_AUTO_RESETS, 15, 0⟩
def F.HEALTH_AUTO_RESETS_SAT : Field := ⟨R.HEALTH_AUTO_RESETS, 31, 31⟩
def F.HEALTH_LEDGER_DROP_COUNT : Field := ⟨R.HEALTH_LEDGER_DROP, 15, 0⟩
def F.HEALTH_LEDGER_DROP_SAT : Field := ⟨R.HEALTH_LEDGER_DROP, 31, 31⟩
def F.HEALTH_PATROLS_COUNT : Field := ⟨R.HEALTH_PATROLS, 31, 0⟩
def F.HEALTH_SELFTEST_RUNS_COUNT : Field := ⟨R.HEALTH_SELFTEST_RUNS, 31, 0⟩
def F.HEALTH_MARGIN_H (i : Nat) : Field := ⟨R.HEALTH_MARGIN i, 6, 0⟩
def F.HEALTH_MARGIN_V (i : Nat) : Field := ⟨R.HEALTH_MARGIN i, 14, 8⟩
def F.HEALTH_MARGIN_H_MIN (i : Nat) : Field := ⟨R.HEALTH_MARGIN i, 22, 16⟩
def F.HEALTH_MARGIN_LOW (i : Nat) : Field := ⟨R.HEALTH_MARGIN i, 31, 31⟩
def F.SMUDGE_STATUS_MAINT : Field := ⟨R.SMUDGE_STATUS, 0, 0⟩
def F.SMUDGE_STATUS_ARMED : Field := ⟨R.SMUDGE_STATUS, 7, 1⟩
def F.SMUDGE_STATUS_REMAIN : Field := ⟨R.SMUDGE_STATUS, 27, 16⟩
def F.SMUDGE_INT_STATUS_DISARMED : Field := ⟨R.SMUDGE_INT_STATUS, 0, 0⟩
def F.SMUDGE_INT_STATUS_TIMEOUT : Field := ⟨R.SMUDGE_INT_STATUS, 1, 1⟩
def F.SMUDGE_INT_STATUS_REFUSED : Field := ⟨R.SMUDGE_INT_STATUS, 2, 2⟩
def F.SMUDGE_INT_STATUS_HALF_RANGE : Field := ⟨R.SMUDGE_INT_STATUS, 3, 3⟩
def F.SMUDGE_INT_ENABLE_DISARMED : Field := ⟨R.SMUDGE_INT_ENABLE, 0, 0⟩
def F.SMUDGE_INT_ENABLE_TIMEOUT : Field := ⟨R.SMUDGE_INT_ENABLE, 1, 1⟩
def F.SMUDGE_INT_ENABLE_REFUSED : Field := ⟨R.SMUDGE_INT_ENABLE, 2, 2⟩
def F.SMUDGE_INT_ENABLE_HALF_RANGE : Field := ⟨R.SMUDGE_INT_ENABLE, 3, 3⟩
def F.SMUDGE_SEED_SEED : Field := ⟨R.SMUDGE_SEED, 31, 0⟩
def F.SMUDGE_FABRIC_TARGETS : Field := ⟨R.SMUDGE_FABRIC, 6, 0⟩
def F.SMUDGE_FABRIC_DELAY : Field := ⟨R.SMUDGE_FABRIC, 25, 16⟩
def F.SMUDGE_FABRIC_PROB : Field := ⟨R.SMUDGE_FABRIC, 31, 26⟩
def F.SMUDGE_FABRIC_PORT_PORT : Field := ⟨R.SMUDGE_FABRIC_PORT, 6, 0⟩
def F.SMUDGE_ATELIER_SLOTS : Field := ⟨R.SMUDGE_ATELIER, 9, 0⟩
def F.SMUDGE_ATELIER_GAP : Field := ⟨R.SMUDGE_ATELIER, 23, 16⟩
def F.SMUDGE_LANE_MASK_LANES : Field := ⟨R.SMUDGE_LANE_MASK, 31, 0⟩
def F.SMUDGE_LANE_LANES8 : Field := ⟨R.SMUDGE_LANE, 3, 0⟩
def F.SMUDGE_LANE_STALL : Field := ⟨R.SMUDGE_LANE, 23, 8⟩
def F.SMUDGE_LANE_PROB : Field := ⟨R.SMUDGE_LANE, 31, 26⟩
def F.SMUDGE_NET_PORT : Field := ⟨R.SMUDGE_NET, 1, 0⟩
def F.SMUDGE_NET_CLASS : Field := ⟨R.SMUDGE_NET, 5, 4⟩
def F.SMUDGE_NET_DROP : Field := ⟨R.SMUDGE_NET, 15, 8⟩
def F.SMUDGE_NET_DUP : Field := ⟨R.SMUDGE_NET, 23, 16⟩
def F.SMUDGE_PTP_PORTS : Field := ⟨R.SMUDGE_PTP, 3, 0⟩
def F.SMUDGE_PTP_OFFSET_OFFSET : Field := ⟨R.SMUDGE_PTP_OFFSET, 31, 0⟩
def F.SMUDGE_CLOCK_MON : Field := ⟨R.SMUDGE_CLOCK, 3, 0⟩
def F.SMUDGE_CLOCK_GO : Field := ⟨R.SMUDGE_CLOCK, 31, 31⟩
def F.SMUDGE_FLASH_COUNT : Field := ⟨R.SMUDGE_FLASH, 7, 0⟩
def F.SMUDGE_FLASH_AREAS : Field := ⟨R.SMUDGE_FLASH, 14, 8⟩
def F.SMUDGE_FLASH_ERASE : Field := ⟨R.SMUDGE_FLASH, 15, 15⟩
def F.SMUDGE_ARM_ARM : Field := ⟨R.SMUDGE_ARM, 6, 0⟩
def F.SMUDGE_EVENTS_COUNT (i : Nat) : Field := ⟨R.SMUDGE_EVENTS i, 31, 0⟩

/-! ### The register map -/

/-- The registers of window 0x0 (SYS). -/
def regRows0 : List RegRow := [
  ⟨0x180, 1, 0x0, 1, 0x0, 0x0, 0x0, 0x0, 0x0, 0x80000000, 0x0, 2⟩,
  ⟨0x184, 1, 0x0, 1, 0x0, 0x0, 0x0, 0x0, 0x0, 0x0, 0x0, 0⟩,
  ⟨0x188, 1, 0x0, 1, 0x0, 0x0, 0x0, 0x0, 0x0, 0x0, 0x0, 0⟩,
  ⟨0x0, 1, 0x0, 1, 0x0, 0x512000B1, 0x0, 0x0, 0x0, 0x0, 0x0, 0⟩,
  ⟨0x4, 1, 0x0, 1, 0x0, 0x3, 0x0, 0x0, 0x0, 0x0, 0x0, 0⟩,
  ⟨0x8, 1, 0x0, 1, 0x0, 0x0, 0x0, 0x0, 0x0, 0x0, 0x0, 0⟩,
  ⟨0xC, 1, 0x0, 1, 0x0, 0x0, 0x0, 0x0, 0x0, 0x0, 0x0, 0⟩,
  ⟨0x10, 1, 0x0, 1, 0x0, 0x40, 0x0, 0x0, 0x0, 0x0, 0x0, 0⟩,
  ⟨0x14, 1, 0x0, 1, 0x0, 0x1, 0x0, 0x0, 0x0, 0x0, 0x0, 0⟩,
  ⟨0x18, 1, 0x0, 1, 0x0, 0x0, 0x0, 0x3FF, 0x0, 0x0, 0x0, 0⟩,
  ⟨0x1C, 1, 0x0, 1, 0x0, 0x0, 0x3FF, 0x0, 0x0, 0x0, 0x0, 0⟩,
  ⟨0x20, 1, 0x0, 1, 0x0, 0x0, 0x1, 0x40000000, 0x80000000, 0x0, 0x0, 0⟩,
  ⟨0x24, 1, 0x0, 1, 0x0, 0x0, 0x13F, 0x40000000, 0x80000000, 0x0, 0x0, 0⟩,
  ⟨0x28, 1, 0x0, 1, 0x0, 0x0, 0x0, 0x0, 0x0, 0x0, 0x8000FFFF, 1⟩,
  ⟨0x2C, 1, 0x0, 1, 0x0, 0x0, 0x0, 0x0, 0x0, 0x0, 0x8000FFFF, 1⟩,
  ⟨0x30, 1, 0x0, 1, 0x0, 0x3, 0x3, 0x0, 0x0, 0x0, 0x0, 0⟩,
  ⟨0x34, 1, 0x0, 1, 0x0, 0x0, 0x0, 0x0, 0x1, 0x0, 0x0, 0⟩,
  ⟨0x40, 1, 0x0, 1, 0x0, 0x0, 0x13, 0x40000000, 0x80000000, 0x0, 0x0, 0⟩,
  ⟨0x44, 1, 0x0, 1, 0x0, 0x0, 0xFFFFFFFF, 0x0, 0x0, 0x0, 0x0, 0⟩,
  ⟨0x48, 1, 0x0, 1, 0x0, 0x0, 0xFFFF, 0x0, 0x0, 0x0, 0x0, 0⟩,
  ⟨0x50, 1, 0x0, 1, 0x0, 0x0, 0x0, 0x0, 0x0, 0x0, 0x0, 0⟩,
  ⟨0x54, 1, 0x0, 1, 0x0, 0x0, 0x0, 0x0, 0x0, 0x0, 0x0, 0⟩,
  ⟨0x58, 1, 0x0, 1, 0x0, 0x8000, 0x0, 0x0, 0x0, 0x0, 0x0, 0⟩,
  ⟨0x5C, 1, 0x0, 1, 0x0, 0x0, 0x0, 0x0, 0x0, 0x0, 0x0, 0⟩,
  ⟨0x60, 1, 0x0, 1, 0x0, 0x0, 0x0, 0x0, 0x0, 0x0, 0x0, 0⟩,
  ⟨0x80, 12, 0x4, 1, 0x0, 0x0, 0x3FFFFFF, 0x0, 0x0, 0x0, 0x0, 0⟩,
  ⟨0xC0, 1, 0x0, 1, 0x0, 0x0, 0x0, 0x0, 0x0, 0x0, 0x0, 0⟩,
  ⟨0xC4, 1, 0x0, 1, 0x0, 0x0, 0x0, 0x0, 0x0, 0x0, 0x0, 0⟩,
  ⟨0x100, 1, 0x0, 1, 0x0, 0x0, 0x0, 0x0, 0x0, 0x0, 0x0, 0⟩,
  ⟨0x104, 1, 0x0, 1, 0x0, 0x0, 0x0, 0x0, 0x0, 0x0, 0x0, 0⟩]

/-- The registers of window 0x1 (CLK). -/
def regRows1 : List RegRow := [
  ⟨0x100000, 1, 0x0, 1, 0x0, 0x0, 0x0, 0x13000, 0x0, 0x0, 0x0, 0⟩,
  ⟨0x100004, 1, 0x0, 1, 0x0, 0x0, 0x0, 0x7FF, 0x0, 0x0, 0x0, 0⟩,
  ⟨0x100008, 1, 0x0, 1, 0x0, 0x0, 0x7FF, 0x0, 0x0, 0x0, 0x0, 0⟩,
  ⟨0x100010, 1, 0x0, 1, 0x0, 0x140014, 0x3FF03FF, 0x0, 0x0, 0x0, 0x0, 0⟩,
  ⟨0x100014, 1, 0x0, 1, 0x0, 0xA00, 0xFF0F, 0x0, 0x0, 0x0, 0x0, 0⟩,
  ⟨0x100018, 1, 0x0, 1, 0x0, 0x0, 0x1F3, 0x0, 0x0, 0x0, 0x0, 0⟩,
  ⟨0x10001C, 1, 0x0, 1, 0x0, 0x0, 0x0, 0x0, 0x0, 0x0, 0x0, 0⟩,
  ⟨0x100020, 1, 0x0, 1, 0x0, 0x0, 0x0, 0x0, 0x0, 0x0, 0x0, 0⟩,
  ⟨0x100024, 1, 0x0, 1, 0x0, 0x2, 0xFF, 0x40000000, 0x80000000, 0x0, 0x0, 0⟩,
  ⟨0x100030, 1, 0x0, 1, 0x0, 0x14080D, 0x1FFFFF, 0x0, 0x0, 0x0, 0x0, 0⟩,
  ⟨0x100034, 1, 0x0, 1, 0x0, 0x0, 0x0, 0x0, 0x0, 0x0, 0x0, 0⟩,
  ⟨0x100038, 1, 0x0, 1, 0x0, 0x0, 0xFFFFFFFF, 0x0, 0x0, 0x0, 0x0, 0⟩,
  ⟨0x10003C, 1, 0x0, 1, 0x0, 0x0, 0xFFFFFFFF, 0x0, 0x0, 0x0, 0x0, 0⟩,
  ⟨0x100040, 1, 0x0, 1, 0x0, 0x0, 0xFFFFFFFF, 0x0, 0x0, 0x0, 0x0, 0⟩,
  ⟨0x100044, 1, 0x0, 1, 0x0, 0x0, 0x0, 0x0, 0x0, 0x0, 0x8000FFFF, 1⟩,
  ⟨0x100050, 1, 0x0, 1, 0x0, 0x200, 0x7F03, 0x0, 0x0, 0x0, 0x0, 0⟩,
  ⟨0x100054, 1, 0x0, 1, 0x0, 0x200, 0x7F03, 0x0, 0x0, 0x0, 0x0, 0⟩,
  ⟨0x100060, 1, 0x0, 1, 0x0, 0x0, 0x3FF, 0x0, 0x0, 0x0, 0x0, 0⟩,
  ⟨0x100064, 1, 0x0, 1, 0x0, 0x101, 0x373, 0x0, 0x0, 0x0, 0x0, 0⟩,
  ⟨0x100070, 1, 0x0, 1, 0x0, 0x0, 0x0, 0x0, 0x0, 0x0, 0x8000FFFF, 1⟩,
  ⟨0x100074, 1, 0x0, 1, 0x0, 0x0, 0x0, 0x0, 0x0, 0x0, 0x8000FFFF, 1⟩,
  ⟨0x100078, 1, 0x0, 1, 0x0, 0x0, 0x0, 0x0, 0x0, 0x0, 0x8000FFFF, 1⟩]

/-- The registers of window 0x2 (TIME). -/
def regRows2 : List RegRow := [
  ⟨0x200000, 1, 0x0, 1, 0x0, 0x0, 0x0, 0x40, 0x0, 0x0, 0x0, 0⟩,
  ⟨0x200004, 1, 0x0, 1, 0x0, 0x0, 0x0, 0x1FF, 0x0, 0x0, 0x0, 0⟩,
  ⟨0x200008, 1, 0x0, 1, 0x0, 0x0, 0x1FF, 0x0, 0x0, 0x0, 0x0, 0⟩,
  ⟨0x200010, 1, 0x0, 1, 0x0, 0x7F0004, 0xFF03F7, 0x0, 0x0, 0x0, 0x0, 0⟩,
  ⟨0x200014, 1, 0x0, 1, 0x0, 0x2710, 0x3FFFFFFF, 0x0, 0x0, 0x0, 0x0, 0⟩,
  ⟨0x200018, 1, 0x0, 1, 0x0, 0x0, 0x1, 0x40000000, 0x80000000, 0x0, 0x0, 0⟩,
  ⟨0x20001C, 1, 0x0, 1, 0x0, 0x8080, 0x1FFFF, 0x0, 0x0, 0x0, 0x0, 0⟩,
  ⟨0x200020, 1, 0x0, 1, 0x0, 0x0, 0x0, 0x0, 0x0, 0x0, 0x0, 0⟩,
  ⟨0x200024, 1, 0x0, 1, 0x0, 0x0, 0x0, 0x0, 0x0, 0x0, 0x0, 0⟩,
  ⟨0x200028, 1, 0x0, 1, 0x0, 0x0, 0x0, 0x0, 0x0, 0x0, 0x0, 0⟩,
  ⟨0x20002C, 1, 0x0, 1, 0x0, 0x0, 0x0, 0x0, 0x0, 0x0, 0x0, 0⟩,
  ⟨0x200030, 1, 0x0, 1, 0x0, 0x0, 0x0, 0x0, 0x0, 0x0, 0x0, 0⟩,
  ⟨0x200034, 1, 0x0, 1, 0x0, 0x0, 0x0, 0x0, 0x0, 0x0, 0x0, 0⟩,
  ⟨0x200040, 1, 0x0, 1, 0x0, 0x0, 0x0, 0x0, 0x0, 0x0, 0x0, 0⟩,
  ⟨0x200044, 1, 0x0, 1, 0x0, 0x0, 0x0, 0x0, 0x0, 0x0, 0x0, 0⟩,
  ⟨0x200048, 1, 0x0, 1, 0x0, 0x0, 0x0, 0x0, 0x0, 0x0, 0x0, 0⟩,
  ⟨0x20004C, 1, 0x0, 1, 0x0, 0x0, 0x0, 0x0, 0x0, 0x0, 0x0, 0⟩,
  ⟨0x200050, 1, 0x0, 1, 0x0, 0x0, 0x0, 0x0, 0x0, 0x0, 0x0, 0⟩,
  ⟨0x200054, 1, 0x0, 1, 0x0, 0x0, 0x0, 0x0, 0x0, 0x0, 0x0, 0⟩,
  ⟨0x200058, 1, 0x0, 1, 0x0, 0x0, 0x0, 0x0, 0x0, 0x0, 0x0, 0⟩,
  ⟨0x200060, 1, 0x0, 1, 0x0, 0x0, 0x0, 0x0, 0x0, 0x0, 0x8000FFFF, 1⟩,
  ⟨0x200064, 1, 0x0, 1, 0x0, 0x0, 0x0, 0x0, 0x0, 0x0, 0x8000FFFF, 1⟩,
  ⟨0x200068, 1, 0x0, 1, 0x0, 0x0, 0x0, 0x0, 0x0, 0x0, 0x8000FFFF, 1⟩,
  ⟨0x20006C, 1, 0x0, 1, 0x0, 0x0, 0x0, 0x0, 0x0, 0x0, 0x8000FFFF, 1⟩,
  ⟨0x200070, 1, 0x0, 1, 0x0, 0x0, 0x0, 0x0, 0x0, 0x0, 0x8000FFFF, 1⟩,
  ⟨0x200074, 1, 0x0, 1, 0x0, 0x0, 0x0, 0x0, 0x0, 0x0, 0x0, 3⟩,
  ⟨0x200100, 4, 0x10, 1, 0x0, 0x0, 0xFFFFFFFF, 0x0, 0x0, 0x0, 0x0, 0⟩,
  ⟨0x200104, 4, 0x10, 1, 0x0, 0x0, 0xFFFFFFFF, 0x0, 0x0, 0x0, 0x0, 0⟩,
  ⟨0x200108, 4, 0x10, 1, 0x0, 0x0, 0xFFFFFFFF, 0x0, 0x0, 0x0, 0x0, 0⟩,
  ⟨0x200200, 4, 0x20, 1, 0x0, 0x0, 0x2, 0x0, 0x5, 0x0, 0x0, 0⟩] ++ [
  ⟨0x200204, 4, 0x20, 1, 0x0, 0x0, 0xFFFFFFFF, 0x0, 0x0, 0x0, 0x0, 0⟩,
  ⟨0x200208, 4, 0x20, 1, 0x0, 0x0, 0xFFFFFFFF, 0x0, 0x0, 0x0, 0x0, 0⟩,
  ⟨0x20020C, 4, 0x20, 1, 0x0, 0x0, 0xFFFF, 0x0, 0x0, 0x0, 0x0, 0⟩,
  ⟨0x200210, 4, 0x20, 1, 0x0, 0x3B9ACA00, 0xFFFFFFFF, 0x0, 0x0, 0x0, 0x0, 0⟩,
  ⟨0x200214, 4, 0x20, 1, 0x0, 0x3E8, 0x3FFFFFFF, 0x0, 0x0, 0x0, 0x0, 0⟩,
  ⟨0x200218, 4, 0x20, 1, 0x0, 0x0, 0x0, 0x7, 0x0, 0x0, 0x0, 0⟩,
  ⟨0x200300, 2, 0x20, 1, 0x0, 0x0, 0x3, 0x0, 0x0, 0x0, 0x0, 0⟩,
  ⟨0x200304, 2, 0x20, 1, 0x0, 0x0, 0x0, 0x0, 0x0, 0x0, 0x0, 0⟩,
  ⟨0x200308, 2, 0x20, 1, 0x0, 0x0, 0x0, 0x0, 0x0, 0x0, 0x0, 0⟩,
  ⟨0x20030C, 2, 0x20, 1, 0x0, 0x0, 0x0, 0x0, 0x0, 0x0, 0x0, 0⟩,
  ⟨0x200310, 2, 0x20, 1, 0x0, 0x0, 0x0, 0x0, 0x0, 0x0, 0x0, 0⟩,
  ⟨0x200314, 2, 0x20, 1, 0x0, 0x0, 0x0, 0x0, 0x0, 0x0, 0x0, 0⟩,
  ⟨0x200318, 2, 0x20, 1, 0x0, 0x0, 0x0, 0x0, 0x0, 0x0, 0x0, 0⟩,
  ⟨0x20031C, 2, 0x20, 1, 0x0, 0x0, 0x0, 0x0, 0x0, 0x0, 0x0, 0⟩,
  ⟨0x200340, 2, 0x4, 1, 0x0, 0x0, 0x0, 0x0, 0x0, 0x0, 0x8000FFFF, 1⟩]

/-- The registers of window 0x3 (HOST). -/
def regRows3 : List RegRow := [
  ⟨0x300000, 1, 0x0, 1, 0x0, 0x0, 0x0, 0x0, 0x0, 0x0, 0x0, 0⟩,
  ⟨0x300004, 1, 0x0, 1, 0x0, 0x0, 0x0, 0xFF, 0x0, 0x0, 0x0, 0⟩,
  ⟨0x300008, 1, 0x0, 1, 0x0, 0x0, 0xFF, 0x0, 0x0, 0x0, 0x0, 0⟩,
  ⟨0x300010, 1, 0x0, 1, 0x0, 0x0, 0x1, 0x0, 0x0, 0x0, 0x0, 0⟩,
  ⟨0x300014, 1, 0x0, 1, 0x0, 0x0, 0x3F, 0x0, 0x0, 0x0, 0x0, 0⟩,
  ⟨0x300020, 1, 0x0, 1, 0x0, 0x0, 0xFFFFF000, 0x0, 0x0, 0x0, 0x0, 0⟩,
  ⟨0x300024, 1, 0x0, 1, 0x0, 0x0, 0xFFFFFFFF, 0x0, 0x0, 0x0, 0x0, 0⟩,
  ⟨0x300028, 1, 0x0, 1, 0x0, 0x0, 0x8000000F, 0x0, 0x0, 0x0, 0x0, 0⟩,
  ⟨0x30002C, 1, 0x0, 1, 0x0, 0x0, 0xFFF, 0x0, 0x0, 0x0, 0x0, 0⟩,
  ⟨0x300030, 1, 0x0, 1, 0x0, 0x0, 0x0, 0x0, 0x0, 0x0, 0x0, 0⟩,
  ⟨0x300040, 1, 0x0, 1, 0x0, 0x0, 0xFFFFF000, 0x0, 0x0, 0x0, 0x0, 0⟩,
  ⟨0x300044, 1, 0x0, 1, 0x0, 0x0, 0xFFFFFFFF, 0x0, 0x0, 0x0, 0x0, 0⟩,
  ⟨0x300048, 1, 0x0, 1, 0x0, 0x0, 0x8000000F, 0x0, 0x0, 0x0, 0x0, 0⟩,
  ⟨0x30004C, 1, 0x0, 1, 0x0, 0x0, 0x0, 0x0, 0x0, 0x0, 0x0, 0⟩,
  ⟨0x300050, 1, 0x0, 1, 0x0, 0x0, 0xFFF, 0x0, 0x0, 0x0, 0x0, 0⟩,
  ⟨0x300080, 1, 0x0, 1, 0x0, 0x0, 0x0, 0x0, 0x0, 0x0, 0x0, 3⟩,
  ⟨0x300084, 1, 0x0, 1, 0x0, 0x0, 0x0, 0x0, 0x0, 0x0, 0x8000FFFF, 1⟩,
  ⟨0x300088, 1, 0x0, 1, 0x0, 0x0, 0x0, 0x0, 0x0, 0x0, 0x8000FFFF, 1⟩,
  ⟨0x30008C, 1, 0x0, 1, 0x0, 0x0, 0x0, 0x0, 0x0, 0x0, 0x8000FFFF, 1⟩,
  ⟨0x300090, 1, 0x0, 1, 0x0, 0x0, 0x0, 0x0, 0x0, 0x80000000, 0x0, 2⟩,
  ⟨0x3000A0, 1, 0x0, 1, 0x0, 0x0, 0x0, 0x0, 0x0, 0x0, 0x0, 0⟩,
  ⟨0x3000A4, 1, 0x0, 1, 0x0, 0x0, 0x0, 0x0, 0x0, 0x0, 0x0, 0⟩,
  ⟨0x300100, 1, 0x0, 1, 0x0, 0x0, 0x0, 0x7F, 0x0, 0x0, 0x0, 0⟩,
  ⟨0x300104, 1, 0x0, 1, 0x0, 0x0, 0x7F, 0x0, 0x0, 0x0, 0x0, 0⟩,
  ⟨0x300200, 16, 0x10, 1, 0x0, 0x0, 0xFFFFFFFF, 0x0, 0x0, 0x0, 0x0, 0⟩,
  ⟨0x300204, 16, 0x10, 1, 0x0, 0x0, 0x0, 0x0, 0x0, 0x0, 0x0, 0⟩,
  ⟨0x300208, 16, 0x10, 1, 0x0, 0x0, 0x0, 0xC, 0x0, 0x0, 0x0, 0⟩,
  ⟨0x30020C, 16, 0x10, 1, 0x0, 0x0, 0x0, 0x0, 0x0, 0x1, 0x0, 0⟩,
  ⟨0x300300, 1, 0x0, 1, 0x0, 0x0, 0x0, 0x0, 0x0, 0x0, 0x0, 0⟩,
  ⟨0x300400, 64, 0x4, 1, 0x0, 0x0, 0xFFFFFFFF, 0x0, 0x0, 0x0, 0x0, 0⟩] ++ [
  ⟨0x300500, 1, 0x0, 1, 0x0, 0x0, 0x0, 0x0, 0x0, 0x0, 0x0, 0⟩,
  ⟨0x300504, 1, 0x0, 1, 0x0, 0x0, 0x0, 0x0, 0x0, 0x0, 0x0, 0⟩,
  ⟨0x300600, 32, 0x4, 1, 0x0, 0x80000000, 0x8000003F, 0x0, 0x0, 0x0, 0x0, 0⟩]

/-- The registers of window 0x4 (ATELIER). -/
def regRows4 : List RegRow := [
  ⟨0x400000, 1, 0x0, 1, 0x0, 0x0, 0x0, 0x0, 0x0, 0x0, 0x0, 0⟩,
  ⟨0x400004, 1, 0x0, 1, 0x0, 0x0, 0x0, 0x7F, 0x0, 0x0, 0x0, 0⟩,
  ⟨0x400008, 1, 0x0, 1, 0x0, 0x0, 0x7F, 0x0, 0x0, 0x0, 0x0, 0⟩,
  ⟨0x400010, 1, 0x0, 1, 0x0, 0xFFF00C0, 0xFFF00F3, 0x0, 0x0, 0x0, 0x0, 0⟩,
  ⟨0x400014, 1, 0x0, 1, 0x0, 0x0, 0xFFFFFFFF, 0x0, 0x0, 0x0, 0x0, 0⟩,
  ⟨0x400018, 1, 0x0, 1, 0x0, 0x0, 0xFF, 0x0, 0x0, 0x0, 0x0, 0⟩,
  ⟨0x40001C, 1, 0x0, 1, 0x0, 0x0, 0x0, 0x0, 0x0, 0x0, 0x0, 0⟩,
  ⟨0x400020, 1, 0x0, 1, 0x0, 0x0, 0xFFFFF, 0x0, 0x0, 0x0, 0x0, 0⟩,
  ⟨0x400030, 1, 0x0, 1, 0x0, 0x0, 0x0, 0x0, 0x0, 0xFFFF, 0x0, 0⟩,
  ⟨0x400034, 1, 0x0, 1, 0x0, 0x0, 0x0, 0x0, 0x0, 0x0, 0x8007FFFF, 0⟩,
  ⟨0x400080, 1, 0x0, 1, 0x0, 0x0, 0x0, 0x0, 0x0, 0x0, 0x0, 3⟩,
  ⟨0x400084, 1, 0x0, 1, 0x0, 0x0, 0x0, 0x0, 0x0, 0x0, 0x0, 3⟩,
  ⟨0x400088, 1, 0x0, 1, 0x0, 0x0, 0x0, 0x0, 0x0, 0x0, 0x8000FFFF, 1⟩,
  ⟨0x40008C, 1, 0x0, 1, 0x0, 0x0, 0x0, 0x0, 0x0, 0x0, 0x8000FFFF, 1⟩,
  ⟨0x400090, 1, 0x0, 1, 0x0, 0x0, 0x0, 0x0, 0x0, 0x0, 0x8000FFFF, 1⟩,
  ⟨0x400094, 1, 0x0, 1, 0x0, 0x0, 0x0, 0x0, 0x0, 0x0, 0x8000FFFF, 1⟩,
  ⟨0x400098, 1, 0x0, 1, 0x0, 0x0, 0x0, 0x0, 0x0, 0x0, 0x8000FFFF, 1⟩,
  ⟨0x40009C, 1, 0x0, 1, 0x0, 0x0, 0x0, 0x0, 0x0, 0x0, 0x8000FFFF, 1⟩,
  ⟨0x4000A0, 1, 0x0, 1, 0x0, 0x0, 0x0, 0x0, 0x0, 0x0, 0x8000FFFF, 1⟩,
  ⟨0x4000A4, 1, 0x0, 1, 0x0, 0x0, 0x0, 0x0, 0x0, 0x0, 0x8000FFFF, 1⟩,
  ⟨0x4000A8, 1, 0x0, 1, 0x0, 0x0, 0x0, 0x0, 0x0, 0x0, 0x8000FFFF, 1⟩,
  ⟨0x400100, 5, 0x40, 8, 0x4, 0x0, 0xFFFFFFFF, 0x0, 0x0, 0x0, 0x0, 0⟩,
  ⟨0x400120, 5, 0x40, 1, 0x0, 0x0, 0x0, 0x0, 0x1, 0x0, 0x0, 0⟩,
  ⟨0x400124, 5, 0x40, 1, 0x0, 0x0, 0x0, 0x0, 0x0, 0x0, 0x0, 0⟩,
  ⟨0x400400, 64, 0x4, 1, 0x0, 0x0, 0x0, 0x0, 0x0, 0x0, 0x0, 0⟩,
  ⟨0x400800, 512, 0x4, 1, 0x0, 0x3F80, 0x0, 0x0, 0x0, 0x0, 0x0, 0⟩]

/-- The registers of window 0x5 (FABRIC). -/
def regRows5 : List RegRow := [
  ⟨0x500000, 1, 0x0, 1, 0x0, 0x0, 0x0, 0x0, 0x0, 0x0, 0x7FF0000, 0⟩,
  ⟨0x500004, 1, 0x0, 1, 0x0, 0x0, 0x0, 0x7, 0x0, 0x0, 0x0, 0⟩,
  ⟨0x500008, 1, 0x0, 1, 0x0, 0x0, 0x7, 0x0, 0x0, 0x0, 0x0, 0⟩,
  ⟨0x500010, 7, 0x4, 1, 0x0, 0x0, 0x0, 0x0, 0x0, 0x0, 0x1FF0000, 0⟩,
  ⟨0x500080, 1, 0x0, 1, 0x0, 0x0, 0x0, 0x0, 0x0, 0x0, 0x0, 3⟩,
  ⟨0x500084, 1, 0x0, 1, 0x0, 0x0, 0x0, 0x0, 0x0, 0x0, 0x0, 3⟩,
  ⟨0x500088, 1, 0x0, 1, 0x0, 0x0, 0x0, 0x0, 0x0, 0x80000000, 0x0, 2⟩,
  ⟨0x500090, 1, 0x0, 1, 0x0, 0x0, 0x0, 0x0, 0x0, 0x0, 0x0, 0⟩,
  ⟨0x500094, 1, 0x0, 1, 0x0, 0x0, 0x0, 0x0, 0x0, 0x0, 0x0, 0⟩,
  ⟨0x500100, 84, 0x4, 1, 0x0, 0x0, 0x0, 0x0, 0x0, 0x0, 0x7F0000, 0⟩]

/-- The registers of window 0x6 (MEMC). -/
def regRows6 : List RegRow := [
  ⟨0x600000, 1, 0x0, 1, 0x0, 0x0, 0x0, 0x0, 0x0, 0x0, 0x0, 0⟩,
  ⟨0x600010, 1, 0x0, 1, 0x0, 0xB0B, 0x0, 0x0, 0x0, 0x0, 0x0, 0⟩,
  ⟨0x600004, 1, 0x0, 1, 0x0, 0x0, 0x0, 0x7F, 0x0, 0x0, 0x0, 0⟩,
  ⟨0x600008, 1, 0x0, 1, 0x0, 0x0, 0x7F, 0x0, 0x0, 0x0, 0x0, 0⟩,
  ⟨0x600014, 1, 0x0, 1, 0x0, 0x18, 0xFF, 0x0, 0x0, 0x0, 0x0, 0⟩,
  ⟨0x600020, 1, 0x0, 1, 0x0, 0x0, 0x0, 0x0, 0x0, 0x0, 0x0, 0⟩,
  ⟨0x600024, 1, 0x0, 1, 0x0, 0x0, 0x0, 0x0, 0x0, 0x40000000, 0x0, 0⟩,
  ⟨0x600080, 1, 0x0, 1, 0x0, 0x0, 0x0, 0x0, 0x0, 0x0, 0x8000FFFF, 1⟩,
  ⟨0x600084, 1, 0x0, 1, 0x0, 0x0, 0x0, 0x0, 0x0, 0x0, 0x8000FFFF, 1⟩,
  ⟨0x600088, 1, 0x0, 1, 0x0, 0x0, 0x0, 0x0, 0x0, 0x0, 0x8000FFFF, 1⟩,
  ⟨0x60008C, 1, 0x0, 1, 0x0, 0x0, 0x0, 0x0, 0x0, 0x0, 0x0, 3⟩,
  ⟨0x600090, 1, 0x0, 1, 0x0, 0x0, 0x0, 0x0, 0x0, 0x0, 0x0, 3⟩,
  ⟨0x600094, 1, 0x0, 1, 0x0, 0x0, 0x0, 0x0, 0x0, 0x0, 0x0, 3⟩,
  ⟨0x600200, 16, 0x10, 1, 0x0, 0x0, 0x0, 0x0, 0x0, 0x0, 0x0, 0⟩,
  ⟨0x600204, 16, 0x10, 1, 0x0, 0x0, 0x0, 0x0, 0x0, 0x0, 0x0, 0⟩,
  ⟨0x600400, 8, 0x80, 32, 0x4, 0x0, 0x0, 0x0, 0x0, 0x0, 0x0, 0⟩]

/-- The registers of window 0x7 (FLASH). -/
def regRows7 : List RegRow := [
  ⟨0x700000, 1, 0x0, 1, 0x0, 0x17F0000, 0x0, 0x8, 0x0, 0x0, 0x0, 0⟩,
  ⟨0x700004, 1, 0x0, 1, 0x0, 0x0, 0x0, 0x1FF, 0x0, 0x0, 0x0, 0⟩,
  ⟨0x700008, 1, 0x0, 1, 0x0, 0x0, 0x1FF, 0x0, 0x0, 0x0, 0x0, 0⟩,
  ⟨0x700010, 1, 0x0, 1, 0x0, 0x241E07, 0xFFFFFF, 0x0, 0x0, 0x0, 0x0, 0⟩,
  ⟨0x700014, 1, 0x0, 1, 0x0, 0x2238111C, 0xFFFFFFFF, 0x0, 0x0, 0x0, 0x0, 0⟩,
  ⟨0x700080, 1, 0x0, 1, 0x0, 0x0, 0x0, 0x0, 0x0, 0x0, 0x8000FFFF, 1⟩,
  ⟨0x700084, 1, 0x0, 1, 0x0, 0x0, 0x0, 0x0, 0x0, 0x0, 0x8000FFFF, 1⟩,
  ⟨0x700088, 1, 0x0, 1, 0x0, 0x0, 0x0, 0x0, 0x0, 0x0, 0x8000FFFF, 1⟩,
  ⟨0x70008C, 1, 0x0, 1, 0x0, 0x0, 0x0, 0x0, 0x0, 0x0, 0x8000FFFF, 1⟩,
  ⟨0x700090, 1, 0x0, 1, 0x0, 0x0, 0x0, 0x0, 0x0, 0x0, 0x8000FFFF, 1⟩,
  ⟨0x700094, 1, 0x0, 1, 0x0, 0x0, 0x0, 0x0, 0x0, 0x0, 0x8000FFFF, 1⟩,
  ⟨0x700098, 1, 0x0, 1, 0x0, 0x0, 0x0, 0x0, 0x0, 0x0, 0x0, 3⟩,
  ⟨0x70009C, 1, 0x0, 1, 0x0, 0x0, 0x0, 0x0, 0x0, 0x0, 0x0, 3⟩,
  ⟨0x7000A0, 1, 0x0, 1, 0x0, 0x0, 0x0, 0x0, 0x0, 0x0, 0x0, 3⟩,
  ⟨0x710000, 5464, 0x8, 1, 0x0, 0x0, 0x0, 0x0, 0x0, 0x0, 0x0, 1⟩,
  ⟨0x710004, 5464, 0x8, 1, 0x0, 0x0, 0x0, 0x0, 0x0, 0x0, 0x0, 0⟩]

/-- The registers of window 0x8 (CRC). -/
def regRows8 : List RegRow := [
  ⟨0x800000, 1, 0x0, 1, 0x0, 0x0, 0x0, 0x0, 0x0, 0x0, 0x0, 0⟩,
  ⟨0x800004, 1, 0x0, 1, 0x0, 0x0, 0x0, 0x1FF, 0x0, 0x0, 0x0, 0⟩,
  ⟨0x800008, 1, 0x0, 1, 0x0, 0x0, 0x1FF, 0x0, 0x0, 0x0, 0x0, 0⟩,
  ⟨0x800080, 1, 0x0, 1, 0x0, 0x0, 0x0, 0x0, 0x0, 0x0, 0x8000FFFF, 1⟩,
  ⟨0x800100, 4, 0x40, 1, 0x0, 0x0, 0xFFFFFFFF, 0x0, 0x0, 0x0, 0x0, 0⟩,
  ⟨0x800104, 4, 0x40, 1, 0x0, 0x0, 0xFF, 0x0, 0x0, 0x0, 0x0, 0⟩,
  ⟨0x800108, 4, 0x40, 1, 0x0, 0x0, 0xFFFFFFFF, 0x0, 0x0, 0x0, 0x0, 0⟩,
  ⟨0x80010C, 4, 0x40, 1, 0x0, 0x0, 0x7, 0x600, 0x80000000, 0x0, 0x0, 0⟩,
  ⟨0x800110, 4, 0x40, 1, 0x0, 0x0, 0xFFFFFFFF, 0x0, 0x0, 0x0, 0x0, 0⟩,
  ⟨0x800114, 4, 0x40, 1, 0x0, 0x0, 0xFFFFFFFF, 0x0, 0x0, 0x0, 0x0, 0⟩,
  ⟨0x800118, 4, 0x40, 1, 0x0, 0x0, 0x0, 0x0, 0x0, 0x0, 0x0, 0⟩,
  ⟨0x80011C, 4, 0x40, 1, 0x0, 0x0, 0x0, 0x0, 0x0, 0x0, 0x0, 0⟩]

/-- The registers of window 0x9 (PORTS). -/
def regRows9 : List RegRow := [
  ⟨0x900000, 1, 0x0, 1, 0x0, 0x0, 0x0, 0x0, 0x0, 0x0, 0x0, 0⟩,
  ⟨0x900004, 1, 0x0, 1, 0x0, 0x0, 0x0, 0xFF, 0x0, 0x0, 0x0, 0⟩,
  ⟨0x900008, 1, 0x0, 1, 0x0, 0x0, 0xFF, 0x0, 0x0, 0x0, 0x0, 0⟩,
  ⟨0x900100, 8, 0x40, 1, 0x0, 0x3A08, 0xFFFF, 0x0, 0x0, 0x0, 0x0, 0⟩,
  ⟨0x900104, 8, 0x40, 1, 0x0, 0x0, 0xFFFFFFFF, 0x0, 0x0, 0x0, 0x0, 0⟩,
  ⟨0x900108, 8, 0x40, 1, 0x0, 0x0, 0xFFFFFFFF, 0x0, 0x0, 0x0, 0x0, 0⟩,
  ⟨0x90010C, 8, 0x40, 1, 0x0, 0x0, 0x0, 0x38, 0x0, 0x0, 0x0, 0⟩,
  ⟨0x900110, 8, 0x40, 1, 0x0, 0x0, 0x0, 0x0, 0x0, 0x0, 0x0, 0⟩,
  ⟨0x900114, 8, 0x40, 1, 0x0, 0x0, 0x0, 0x0, 0x0, 0x0, 0x0, 0⟩,
  ⟨0x900120, 8, 0x40, 1, 0x0, 0x0, 0x0, 0x0, 0x0, 0x0, 0x8000FFFF, 1⟩,
  ⟨0x900124, 8, 0x40, 1, 0x0, 0x0, 0x0, 0x0, 0x0, 0x0, 0x8000FFFF, 1⟩,
  ⟨0x900128, 8, 0x40, 1, 0x0, 0x0, 0x0, 0x0, 0x0, 0x0, 0x8000FFFF, 1⟩,
  ⟨0x90012C, 8, 0x40, 1, 0x0, 0x0, 0x0, 0x0, 0x0, 0x0, 0x8000FFFF, 1⟩,
  ⟨0x900130, 8, 0x40, 1, 0x0, 0x0, 0x0, 0x0, 0x0, 0x0, 0x0, 3⟩]

/-- The registers of window 0xA (PDM). -/
def regRowsA : List RegRow := [
  ⟨0xA00000, 1, 0x0, 1, 0x0, 0x0, 0x0, 0x0, 0x0, 0x0, 0x0, 0⟩,
  ⟨0xA00004, 1, 0x0, 1, 0x0, 0x0, 0x0, 0xF, 0x0, 0x0, 0x0, 0⟩,
  ⟨0xA00008, 1, 0x0, 1, 0x0, 0x0, 0xF, 0x0, 0x0, 0x0, 0x0, 0⟩,
  ⟨0xA00010, 1, 0x0, 1, 0x0, 0x0, 0x3333, 0x0, 0x0, 0x0, 0x0, 0⟩,
  ⟨0xA00014, 1, 0x0, 1, 0x0, 0x0, 0x0, 0x0, 0x0, 0x0, 0x0, 0⟩,
  ⟨0xA00100, 16, 0x4, 1, 0x0, 0x320082, 0xFF0FF1, 0x0, 0x0, 0x0, 0x0, 0⟩,
  ⟨0xA00180, 1, 0x0, 1, 0x0, 0x0, 0x0, 0x0, 0x0, 0x0, 0x8000FFFF, 1⟩,
  ⟨0xA00200, 16, 0x4, 1, 0x0, 0x0, 0x0, 0x0, 0x0, 0x0, 0x8000FFFF, 1⟩,
  ⟨0xA00400, 32, 0x4, 1, 0x0, 0x0, 0xFFFFFF, 0x0, 0x0, 0x0, 0x0, 0⟩]

/-- The registers of window 0xB (ARMATURE). -/
def regRowsB : List RegRow := [
  ⟨0xB00000, 1, 0x0, 1, 0x0, 0x0, 0x0, 0x0, 0x0, 0x0, 0x0, 0⟩,
  ⟨0xB00004, 1, 0x0, 1, 0x0, 0x0, 0x0, 0xFF, 0x0, 0x0, 0x0, 0⟩,
  ⟨0xB00008, 1, 0x0, 1, 0x0, 0x0, 0xFF, 0x0, 0x0, 0x0, 0x0, 0⟩,
  ⟨0xB00010, 1, 0x0, 1, 0x0, 0x1403, 0xFF07, 0x0, 0x0, 0x0, 0x0, 0⟩,
  ⟨0xB00014, 1, 0x0, 1, 0x0, 0x4000, 0x3FFFF, 0x0, 0x0, 0x0, 0x0, 0⟩,
  ⟨0xB00020, 1, 0x0, 1, 0x0, 0x0, 0x0, 0x0, 0x0, 0x40000000, 0x0, 0⟩,
  ⟨0xB00080, 1, 0x0, 1, 0x0, 0x0, 0x0, 0x0, 0x0, 0x0, 0x8000FFFF, 1⟩,
  ⟨0xB00084, 1, 0x0, 1, 0x0, 0x0, 0x0, 0x0, 0x0, 0x0, 0x8000FFFF, 1⟩,
  ⟨0xB00088, 1, 0x0, 1, 0x0, 0x0, 0x0, 0x0, 0x0, 0x0, 0x0, 3⟩,
  ⟨0xB0008C, 1, 0x0, 1, 0x0, 0x0, 0x0, 0x0, 0x0, 0x0, 0x8000FFFF, 1⟩,
  ⟨0xB00200, 32, 0x4, 1, 0x0, 0x0, 0x0, 0x0, 0x0, 0x0, 0x0, 0⟩,
  ⟨0xB01000, 256, 0x10, 1, 0x0, 0x0, 0x0, 0x0, 0x0, 0x0, 0x0, 0⟩,
  ⟨0xB01004, 256, 0x10, 1, 0x0, 0x200000, 0x0, 0x0, 0x0, 0x0, 0x0, 0⟩,
  ⟨0xB01008, 256, 0x10, 1, 0x0, 0x200000, 0x0, 0x0, 0x0, 0x0, 0x0, 0⟩,
  ⟨0xB10000, 8192, 0x4, 1, 0x0, 0xFFF, 0x0, 0x0, 0x0, 0x0, 0x0, 0⟩,
  ⟨0xB20000, 4096, 0x10, 1, 0x0, 0x0, 0x0, 0x0, 0x0, 0x0, 0xFFFFFF, 0⟩,
  ⟨0xB20004, 4096, 0x10, 1, 0x0, 0x80008000, 0x0, 0x0, 0x0, 0x0, 0x0, 0⟩,
  ⟨0xB20008, 4096, 0x10, 1, 0x0, 0x80008000, 0x0, 0x0, 0x0, 0x0, 0x0, 0⟩,
  ⟨0xB2000C, 4096, 0x10, 1, 0x0, 0x0, 0x0, 0x0, 0x0, 0x0, 0x0, 0⟩]

/-- The registers of window 0xC (NET). -/
def regRowsC : List RegRow := [
  ⟨0xC00000, 4, 0x100000, 1, 0x0, 0x0, 0x0, 0x0, 0x0, 0x0, 0x0, 0⟩,
  ⟨0xC00004, 4, 0x100000, 1, 0x0, 0x0, 0x0, 0x3FF, 0x0, 0x0, 0x0, 0⟩,
  ⟨0xC00008, 4, 0x100000, 1, 0x0, 0x0, 0x3FF, 0x0, 0x0, 0x0, 0x0, 0⟩,
  ⟨0xC00010, 4, 0x100000, 1, 0x0, 0x0, 0x3F, 0x0, 0x0, 0x0, 0x0, 0⟩,
  ⟨0xC00014, 4, 0x100000, 1, 0x0, 0x5F2, 0x3FFF, 0x80000000, 0x0, 0x0, 0x0, 0⟩,
  ⟨0xC00018, 4, 0x100000, 1, 0x0, 0x800100, 0x3FF03FF, 0x0, 0x0, 0x0, 0x0, 0⟩,
  ⟨0xC0001C, 4, 0x100000, 1, 0x0, 0xFFFF, 0xFFFF, 0x0, 0x0, 0x0, 0x0, 0⟩,
  ⟨0xC00020, 4, 0x100000, 1, 0x0, 0x180, 0x3FF, 0x0, 0x0, 0x0, 0x0, 0⟩,
  ⟨0xC00024, 4, 0x100000, 1, 0x0, 0x0, 0x0, 0x0, 0x0, 0x0, 0x3FF0000, 0⟩,
  ⟨0xC00028, 4, 0x100000, 1, 0x0, 0x0, 0x0, 0x0, 0x0, 0x0, 0x0, 0⟩,
  ⟨0xC0002C, 4, 0x100000, 1, 0x0, 0x0, 0x0, 0x0, 0x0, 0x0, 0x0, 0⟩,
  ⟨0xC00030, 4, 0x100000, 1, 0x0, 0x0, 0xFFFFFFFF, 0x0, 0x0, 0x0, 0x0, 0⟩,
  ⟨0xC00034, 4, 0x100000, 1, 0x0, 0x0, 0xFFFFFFFF, 0x0, 0x0, 0x0, 0x0, 0⟩,
  ⟨0xC00038, 4, 0x100000, 1, 0x0, 0x0, 0xFFFFFFFF, 0x0, 0x0, 0x0, 0x0, 0⟩,
  ⟨0xC0003C, 4, 0x100000, 1, 0x0, 0x0, 0x0, 0x0, 0x0, 0x0, 0x0, 0⟩,
  ⟨0xC00040, 4, 0x100000, 1, 0x0, 0x0, 0xFFFF, 0x0, 0x0, 0x0, 0x0, 0⟩,
  ⟨0xC00050, 4, 0x100000, 1, 0x0, 0x0, 0x1FF01, 0x40000000, 0x80000000, 0x0, 0x0, 0⟩,
  ⟨0xC00054, 4, 0x100000, 1, 0x0, 0xF4240, 0x3FFFFFFF, 0x0, 0x0, 0x0, 0x0, 0⟩,
  ⟨0xC00058, 4, 0x100000, 1, 0x0, 0x0, 0x3FFFFFFF, 0x0, 0x0, 0x0, 0x0, 0⟩,
  ⟨0xC0005C, 4, 0x100000, 1, 0x0, 0x0, 0xFFFFFFFF, 0x0, 0x0, 0x0, 0x0, 0⟩,
  ⟨0xC00060, 4, 0x100000, 1, 0x0, 0x0, 0xFFFF, 0x0, 0x0, 0x0, 0x0, 0⟩,
  ⟨0xC00064, 4, 0x100000, 1, 0x0, 0x0, 0x0, 0x0, 0x0, 0x0, 0x0, 0⟩,
  ⟨0xC00080, 4, 0x100000, 1, 0x0, 0x0, 0x0, 0x0, 0x0, 0x0, 0x0, 3⟩,
  ⟨0xC00084, 4, 0x100000, 1, 0x0, 0x0, 0x0, 0x0, 0x0, 0x0, 0x0, 3⟩,
  ⟨0xC00088, 4, 0x100000, 1, 0x0, 0x0, 0x0, 0x0, 0x0, 0x0, 0x0, 3⟩,
  ⟨0xC0008C, 4, 0x100000, 1, 0x0, 0x0, 0x0, 0x0, 0x0, 0x0, 0x0, 3⟩,
  ⟨0xC00090, 4, 0x100000, 1, 0x0, 0x0, 0x0, 0x0, 0x0, 0x0, 0x0, 3⟩,
  ⟨0xC00094, 4, 0x100000, 1, 0x0, 0x0, 0x0, 0x0, 0x0, 0x0, 0x0, 3⟩,
  ⟨0xC00098, 4, 0x100000, 1, 0x0, 0x0, 0x0, 0x0, 0x0, 0x0, 0x0, 3⟩,
  ⟨0xC0009C, 4, 0x100000, 1, 0x0, 0x0, 0x0, 0x0, 0x0, 0x0, 0x0, 3⟩] ++ [
  ⟨0xC000A0, 4, 0x100000, 1, 0x0, 0x0, 0x0, 0x0, 0x0, 0x0, 0x8000FFFF, 1⟩,
  ⟨0xC000A4, 4, 0x100000, 1, 0x0, 0x0, 0x0, 0x0, 0x0, 0x0, 0x8000FFFF, 1⟩,
  ⟨0xC000A8, 4, 0x100000, 1, 0x0, 0x0, 0x0, 0x0, 0x0, 0x0, 0x8000FFFF, 1⟩,
  ⟨0xC000AC, 4, 0x100000, 1, 0x0, 0x0, 0x0, 0x0, 0x0, 0x0, 0x8000FFFF, 1⟩,
  ⟨0xC000B0, 4, 0x100000, 1, 0x0, 0x0, 0x0, 0x0, 0x0, 0x0, 0x8000FFFF, 1⟩,
  ⟨0xC000B4, 4, 0x100000, 1, 0x0, 0x0, 0x0, 0x0, 0x0, 0x0, 0x8000FFFF, 1⟩,
  ⟨0xC000B8, 4, 0x100000, 1, 0x0, 0x0, 0x0, 0x0, 0x0, 0x0, 0x8000FFFF, 1⟩,
  ⟨0xC000BC, 4, 0x100000, 1, 0x0, 0x0, 0x0, 0x0, 0x0, 0x0, 0x8000FFFF, 1⟩,
  ⟨0xC000C0, 4, 0x100000, 1, 0x0, 0x0, 0x0, 0x0, 0x0, 0x0, 0x8000FFFF, 1⟩,
  ⟨0xC000C4, 4, 0x100000, 1, 0x0, 0x0, 0x0, 0x0, 0x0, 0x0, 0x8000FFFF, 1⟩,
  ⟨0xC000C8, 4, 0x100000, 1, 0x0, 0x0, 0x0, 0x0, 0x0, 0x0, 0x8000FFFF, 1⟩,
  ⟨0xC00400, 4, 0x100000, 256, 0x4, 0xFF, 0xFFFFFFFF, 0x0, 0x0, 0x0, 0x0, 0⟩,
  ⟨0xC00800, 4, 0x100000, 256, 0x4, 0x0, 0x0, 0x0, 0x0, 0x0, 0x0, 0⟩]

/-- The registers of window 0x10 (MEDIA). -/
def regRows10 : List RegRow := [
  ⟨0x1000000, 1, 0x0, 1, 0x0, 0x0, 0x0, 0x0, 0x0, 0x0, 0x0, 0⟩,
  ⟨0x1000004, 1, 0x0, 1, 0x0, 0x0, 0x0, 0x1FF, 0x0, 0x0, 0x0, 0⟩,
  ⟨0x1000008, 1, 0x0, 1, 0x0, 0x0, 0x1FF, 0x0, 0x0, 0x0, 0x0, 0⟩,
  ⟨0x1000010, 1, 0x0, 1, 0x0, 0x0, 0x0, 0x0, 0x0, 0x0, 0x0, 0⟩,
  ⟨0x1001000, 256, 0x40, 1, 0x0, 0x0, 0x0, 0x0, 0x0, 0x0, 0x0, 0⟩,
  ⟨0x1001004, 256, 0x40, 1, 0x0, 0x0, 0x0, 0x0, 0x0, 0x0, 0x0, 0⟩,
  ⟨0x1001008, 256, 0x40, 1, 0x0, 0x0, 0x0, 0x0, 0x0, 0x0, 0x0, 0⟩,
  ⟨0x100100C, 256, 0x40, 1, 0x0, 0x8000, 0x0, 0x0, 0x0, 0x0, 0x0, 0⟩,
  ⟨0x1001010, 256, 0x40, 1, 0x0, 0x0, 0x0, 0x0, 0x0, 0x0, 0x0, 3⟩,
  ⟨0x1001014, 256, 0x40, 1, 0x0, 0x0, 0x0, 0x0, 0x0, 0x0, 0x8000FFFF, 1⟩,
  ⟨0x1001018, 256, 0x40, 1, 0x0, 0x0, 0x0, 0x0, 0x0, 0x0, 0x8000FFFF, 1⟩,
  ⟨0x100101C, 256, 0x40, 1, 0x0, 0x0, 0x0, 0x0, 0x0, 0x0, 0x8000FFFF, 1⟩,
  ⟨0x1001020, 256, 0x40, 1, 0x0, 0x0, 0x0, 0x0, 0x0, 0x0, 0x8000FFFF, 1⟩,
  ⟨0x1001024, 256, 0x40, 1, 0x0, 0x0, 0x0, 0x0, 0x0, 0x0, 0x8000FFFF, 1⟩,
  ⟨0x1001028, 256, 0x40, 1, 0x0, 0x0, 0x0, 0x0, 0x0, 0x0, 0x8000FFFF, 1⟩,
  ⟨0x1008000, 256, 0x40, 1, 0x0, 0x0, 0x0, 0x0, 0x0, 0x0, 0x0, 0⟩,
  ⟨0x1008004, 256, 0x40, 1, 0x0, 0x0, 0x0, 0x0, 0x0, 0x0, 0x0, 0⟩,
  ⟨0x1008008, 256, 0x40, 1, 0x0, 0x0, 0x0, 0x0, 0x0, 0x0, 0x0, 0⟩,
  ⟨0x100800C, 256, 0x40, 1, 0x0, 0x0, 0x0, 0x0, 0x0, 0x0, 0x0, 0⟩,
  ⟨0x1008010, 256, 0x40, 1, 0x0, 0x0, 0x0, 0x0, 0x0, 0x0, 0x0, 3⟩,
  ⟨0x1008014, 256, 0x40, 1, 0x0, 0x0, 0x0, 0x0, 0x0, 0x0, 0x8000FFFF, 1⟩,
  ⟨0x1008018, 256, 0x40, 1, 0x0, 0x0, 0x0, 0x0, 0x0, 0x0, 0x8000FFFF, 1⟩]

/-- The registers of window 0x11 (CALIPER). -/
def regRows11 : List RegRow := [
  ⟨0x1100000, 1, 0x0, 1, 0x0, 0x0, 0x0, 0x0, 0x0, 0x0, 0x0, 0⟩,
  ⟨0x1100004, 1, 0x0, 1, 0x0, 0x0, 0x0, 0xFF, 0x0, 0x0, 0x0, 0⟩,
  ⟨0x1100008, 1, 0x0, 1, 0x0, 0x0, 0xFF, 0x0, 0x0, 0x0, 0x0, 0⟩,
  ⟨0x1100010, 1, 0x0, 1, 0x0, 0x403, 0x1FF1F, 0x0, 0x0, 0x0, 0x0, 0⟩,
  ⟨0x1100014, 1, 0x0, 1, 0x0, 0x14, 0xFF3F, 0x0, 0x0, 0x0, 0x0, 0⟩,
  ⟨0x1100018, 1, 0x0, 1, 0x0, 0xFA0, 0xFFFF, 0x0, 0x0, 0x0, 0x0, 0⟩,
  ⟨0x110001C, 1, 0x0, 1, 0x0, 0x400, 0x1FFF, 0x0, 0x0, 0x0, 0x0, 0⟩,
  ⟨0x1100020, 1, 0x0, 1, 0x0, 0x15736F18, 0x0, 0x0, 0x0, 0x0, 0x0, 0⟩,
  ⟨0x1100028, 1, 0x0, 1, 0x0, 0x0, 0x0, 0x0, 0x0, 0x0, 0x0, 0⟩,
  ⟨0x110002C, 1, 0x0, 1, 0x0, 0x0, 0x0, 0x0, 0x0, 0x0, 0x0, 0⟩,
  ⟨0x1100030, 1, 0x0, 1, 0x0, 0x0, 0x0, 0x0, 0x0, 0x0, 0x0, 0⟩,
  ⟨0x1100034, 1, 0x0, 1, 0x0, 0x0, 0x0, 0x0, 0x0, 0x0, 0x0, 0⟩,
  ⟨0x1100040, 1, 0x0, 1, 0x0, 0x0, 0x0, 0x0, 0x0, 0x0, 0x0, 0⟩,
  ⟨0x1100050, 1, 0x0, 1, 0x0, 0x0, 0x0, 0x0, 0x0, 0x0, 0x0, 0⟩,
  ⟨0x1100080, 1, 0x0, 1, 0x0, 0x0, 0x0, 0x0, 0x0, 0x0, 0x8000FFFF, 1⟩,
  ⟨0x1100084, 1, 0x0, 1, 0x0, 0x0, 0x0, 0x0, 0x0, 0x0, 0x8000FFFF, 1⟩,
  ⟨0x1100088, 1, 0x0, 1, 0x0, 0x0, 0x0, 0x0, 0x0, 0x0, 0x8000FFFF, 1⟩,
  ⟨0x110008C, 1, 0x0, 1, 0x0, 0x0, 0x0, 0x0, 0x0, 0x0, 0x8000FFFF, 1⟩,
  ⟨0x1100090, 1, 0x0, 1, 0x0, 0x0, 0x0, 0x0, 0x0, 0x0, 0x0, 3⟩,
  ⟨0x1100094, 1, 0x0, 1, 0x0, 0x0, 0x0, 0x0, 0x0, 0x0, 0x0, 3⟩,
  ⟨0x1100098, 1, 0x0, 1, 0x0, 0x0, 0x0, 0x0, 0x0, 0x0, 0x0, 3⟩]

/-- The registers of window 0x12 (RENDER). -/
def regRows12 : List RegRow := [
  ⟨0x1200000, 1, 0x0, 1, 0x0, 0x0, 0x0, 0x0, 0x0, 0x0, 0x0, 0⟩,
  ⟨0x1200004, 1, 0x0, 1, 0x0, 0x0, 0x0, 0x3FF, 0x0, 0x0, 0x0, 0⟩,
  ⟨0x1200008, 1, 0x0, 1, 0x0, 0x0, 0x3FF, 0x0, 0x0, 0x0, 0x0, 0⟩,
  ⟨0x1200010, 1, 0x0, 1, 0x0, 0x6DB6DB6, 0x0, 0x0, 0x0, 0x0, 0x0, 0⟩,
  ⟨0x1200014, 1, 0x0, 1, 0x0, 0x0, 0x0, 0x0, 0x0, 0x0, 0x0, 0⟩,
  ⟨0x1200018, 1, 0x0, 1, 0x0, 0x0, 0x0, 0x0, 0x0, 0x0, 0x0, 0⟩,
  ⟨0x120001C, 1, 0x0, 1, 0x0, 0x0, 0x0, 0x0, 0x0, 0x0, 0x0, 0⟩,
  ⟨0x1200020, 1, 0x0, 1, 0x0, 0x0, 0x0, 0x0, 0x0, 0x0, 0x0, 0⟩,
  ⟨0x1200024, 1, 0x0, 1, 0x0, 0x0, 0x0, 0x0, 0x0, 0x0, 0x0, 0⟩,
  ⟨0x1200028, 1, 0x0, 1, 0x0, 0x0, 0x0, 0x0, 0x0, 0x0, 0x0, 0⟩,
  ⟨0x120002C, 1, 0x0, 1, 0x0, 0x0, 0x0, 0x0, 0x0, 0x0, 0x0, 0⟩,
  ⟨0x1200030, 1, 0x0, 1, 0x0, 0x0, 0x0, 0x0, 0x0, 0x0, 0xFFFFF, 0⟩,
  ⟨0x1200038, 1, 0x0, 1, 0x0, 0x0, 0x0, 0x0, 0x0, 0x0, 0x0, 0⟩,
  ⟨0x120003C, 1, 0x0, 1, 0x0, 0x0, 0x0, 0x0, 0x0, 0x0, 0x0, 0⟩,
  ⟨0x1200100, 32, 0x4, 1, 0x0, 0x0, 0x0, 0x0, 0x0, 0x0, 0x0, 0⟩,
  ⟨0x1200050, 1, 0x0, 1, 0x0, 0x0, 0x0, 0x0, 0x0, 0x40000000, 0x0, 0⟩,
  ⟨0x1200080, 1, 0x0, 1, 0x0, 0x0, 0x0, 0x0, 0x0, 0x0, 0x8000FFFF, 1⟩,
  ⟨0x1200084, 1, 0x0, 1, 0x0, 0x0, 0x0, 0x0, 0x0, 0x0, 0x8000FFFF, 1⟩,
  ⟨0x1200088, 1, 0x0, 1, 0x0, 0x0, 0x0, 0x0, 0x0, 0x0, 0x8000FFFF, 1⟩,
  ⟨0x120008C, 1, 0x0, 1, 0x0, 0x0, 0x0, 0x0, 0x0, 0x0, 0x8000FFFF, 1⟩,
  ⟨0x1200090, 1, 0x0, 1, 0x0, 0x0, 0x0, 0x0, 0x0, 0x0, 0x8000FFFF, 1⟩,
  ⟨0x1200094, 1, 0x0, 1, 0x0, 0x0, 0x0, 0x0, 0x0, 0x0, 0x8000FFFF, 1⟩,
  ⟨0x1200098, 1, 0x0, 1, 0x0, 0x0, 0x0, 0x0, 0x0, 0x0, 0x0, 3⟩,
  ⟨0x120009C, 1, 0x0, 1, 0x0, 0x0, 0x0, 0x0, 0x0, 0x0, 0x0, 3⟩,
  ⟨0x12000A0, 1, 0x0, 1, 0x0, 0x0, 0x0, 0x0, 0x0, 0x0, 0x0, 3⟩,
  ⟨0x1200200, 64, 0x4, 1, 0x0, 0x0, 0xFFFFFFFF, 0x0, 0x0, 0x0, 0x0, 0⟩,
  ⟨0x1201000, 512, 0x4, 1, 0x0, 0x0, 0x0, 0x0, 0x0, 0x0, 0x8000FFFF, 1⟩]

/-- The registers of window 0x13 (OUTPROC). -/
def regRows13 : List RegRow := [
  ⟨0x1300000, 1, 0x0, 1, 0x0, 0x0, 0x0, 0x0, 0x0, 0x0, 0x0, 0⟩,
  ⟨0x1300004, 1, 0x0, 1, 0x0, 0x0, 0x0, 0x1F, 0x0, 0x0, 0x0, 0⟩,
  ⟨0x1300008, 1, 0x0, 1, 0x0, 0x0, 0x1F, 0x0, 0x0, 0x0, 0x0, 0⟩,
  ⟨0x1300010, 1, 0x0, 1, 0x0, 0x0, 0x0, 0x0, 0x0, 0x0, 0x0, 0⟩,
  ⟨0x1300014, 1, 0x0, 1, 0x0, 0x0, 0x0, 0x0, 0x0, 0x0, 0x0, 0⟩,
  ⟨0x1300020, 1, 0x0, 1, 0x0, 0x0, 0x0, 0x0, 0x0, 0x40000000, 0x0, 0⟩,
  ⟨0x1300080, 1, 0x0, 1, 0x0, 0x0, 0x0, 0x0, 0x0, 0x0, 0x8000FFFF, 1⟩,
  ⟨0x1300100, 16, 0x4, 1, 0x0, 0x0, 0x0, 0x0, 0x0, 0x0, 0x0, 0⟩,
  ⟨0x1301000, 512, 0x4, 1, 0x0, 0x0, 0x0, 0x0, 0x0, 0x0, 0x8000FFFF, 1⟩,
  ⟨0x1301800, 512, 0x4, 1, 0x0, 0x0, 0x0, 0x0, 0x0, 0x0, 0xFFFF, 0⟩]

/-- The registers of window 0x15 (SURVEY). -/
def regRows15 : List RegRow := [
  ⟨0x1500000, 1, 0x0, 1, 0x0, 0x0, 0x0, 0x0, 0x0, 0x0, 0x0, 0⟩,
  ⟨0x1500004, 1, 0x0, 1, 0x0, 0x0, 0x0, 0xFFF, 0x0, 0x0, 0x0, 0⟩,
  ⟨0x1500008, 1, 0x0, 1, 0x0, 0x0, 0xFFF, 0x0, 0x0, 0x0, 0x0, 0⟩,
  ⟨0x1500010, 1, 0x0, 1, 0x0, 0x8000, 0x0, 0x0, 0x0, 0x0, 0x0, 0⟩,
  ⟨0x1500014, 1, 0x0, 1, 0x0, 0x12C0A04, 0xFFFFF07, 0x0, 0x0, 0x0, 0x0, 0⟩,
  ⟨0x1500018, 1, 0x0, 1, 0x0, 0x0, 0x0, 0x0, 0x0, 0x0, 0x0, 0⟩,
  ⟨0x150001C, 1, 0x0, 1, 0x0, 0x0, 0x0, 0x0, 0x0, 0x0, 0x0, 0⟩,
  ⟨0x1500020, 1, 0x0, 1, 0x0, 0x0, 0x0, 0x0, 0x0, 0x0, 0x0, 0⟩,
  ⟨0x1500024, 1, 0x0, 1, 0x0, 0x0, 0x0, 0x0, 0x0, 0x0, 0x0, 0⟩,
  ⟨0x1500080, 1, 0x0, 1, 0x0, 0x0, 0x0, 0x0, 0x0, 0x0, 0x0, 3⟩,
  ⟨0x1500084, 1, 0x0, 1, 0x0, 0x0, 0x0, 0x0, 0x0, 0x0, 0x0, 3⟩,
  ⟨0x1500088, 1, 0x0, 1, 0x0, 0x0, 0x0, 0x0, 0x0, 0x0, 0x0, 3⟩,
  ⟨0x150008C, 1, 0x0, 1, 0x0, 0x0, 0x0, 0x0, 0x0, 0x0, 0x0, 3⟩,
  ⟨0x1500090, 1, 0x0, 1, 0x0, 0x0, 0x0, 0x0, 0x0, 0x0, 0x8000FFFF, 1⟩,
  ⟨0x1500094, 1, 0x0, 1, 0x0, 0x0, 0x0, 0x0, 0x0, 0x0, 0x8000FFFF, 1⟩,
  ⟨0x1500098, 1, 0x0, 1, 0x0, 0x0, 0x0, 0x0, 0x0, 0x0, 0x8000FFFF, 1⟩,
  ⟨0x150009C, 1, 0x0, 1, 0x0, 0x0, 0x0, 0x0, 0x0, 0x0, 0x8000FFFF, 1⟩,
  ⟨0x1500100, 16, 0x10, 1, 0x0, 0x0, 0x0, 0x0, 0x0, 0x0, 0xFFFFFF, 0⟩,
  ⟨0x1500104, 16, 0x10, 1, 0x0, 0x0, 0x0, 0x0, 0x0, 0x0, 0x0, 0⟩,
  ⟨0x1500108, 16, 0x10, 1, 0x0, 0x0, 0x0, 0x0, 0x0, 0x0, 0x0, 0⟩]

/-- The registers of window 0x16 (TWIN). -/
def regRows16 : List RegRow := [
  ⟨0x1600000, 1, 0x0, 1, 0x0, 0x0, 0x0, 0x0, 0x0, 0x0, 0x0, 0⟩,
  ⟨0x1600004, 1, 0x0, 1, 0x0, 0x0, 0x0, 0xFFF, 0x0, 0x0, 0x0, 0⟩,
  ⟨0x1600008, 1, 0x0, 1, 0x0, 0x0, 0xFFF, 0x0, 0x0, 0x0, 0x0, 0⟩,
  ⟨0x1600010, 1, 0x0, 1, 0x0, 0x1FF04, 0xFF01FF07, 0x0, 0x0, 0x0, 0x0, 0⟩,
  ⟨0x1600014, 1, 0x0, 1, 0x0, 0x15, 0x1F, 0x0, 0x0, 0x0, 0x0, 0⟩,
  ⟨0x1600020, 1, 0x0, 1, 0x0, 0x0, 0xFFFFFFFF, 0x0, 0x0, 0x0, 0x0, 0⟩,
  ⟨0x1600024, 1, 0x0, 1, 0x0, 0x0, 0xFFFFFFFF, 0x0, 0x0, 0x0, 0x0, 0⟩,
  ⟨0x1600028, 1, 0x0, 1, 0x0, 0x0, 0xFFFFFFFF, 0x0, 0x0, 0x0, 0x0, 0⟩,
  ⟨0x1600030, 1, 0x0, 1, 0x0, 0x0, 0x0, 0x0, 0x0, 0x0, 0x0, 0⟩,
  ⟨0x1600038, 1, 0x0, 1, 0x0, 0x0, 0x0, 0x0, 0x0, 0x0, 0x0, 0⟩,
  ⟨0x160003C, 1, 0x0, 1, 0x0, 0x0, 0x0, 0x0, 0x0, 0x0, 0x0, 0⟩,
  ⟨0x1600040, 1, 0x0, 1, 0x0, 0x0, 0x0, 0x0, 0x0, 0x0, 0x0, 0⟩,
  ⟨0x1600044, 1, 0x0, 1, 0x0, 0x0, 0x0, 0x0, 0x0, 0x0, 0xFFFFF, 0⟩,
  ⟨0x1600080, 1, 0x0, 1, 0x0, 0x0, 0x0, 0x0, 0x0, 0x0, 0x8000FFFF, 1⟩,
  ⟨0x1600084, 1, 0x0, 1, 0x0, 0x0, 0x0, 0x0, 0x0, 0x0, 0x8000FFFF, 1⟩,
  ⟨0x1600088, 1, 0x0, 1, 0x0, 0x0, 0x0, 0x0, 0x0, 0x0, 0x8000FFFF, 1⟩,
  ⟨0x160008C, 1, 0x0, 1, 0x0, 0x0, 0x0, 0x0, 0x0, 0x0, 0x8000FFFF, 1⟩,
  ⟨0x1600090, 1, 0x0, 1, 0x0, 0x0, 0x0, 0x0, 0x0, 0x0, 0x8000FFFF, 1⟩,
  ⟨0x1600094, 1, 0x0, 1, 0x0, 0x0, 0x0, 0x0, 0x0, 0x0, 0x8000FFFF, 1⟩,
  ⟨0x1600098, 1, 0x0, 1, 0x0, 0x0, 0x0, 0x0, 0x0, 0x0, 0x0, 3⟩]

/-- The registers of window 0x17 (HEALTH). -/
def regRows17 : List RegRow := [
  ⟨0x1700000, 1, 0x0, 1, 0x0, 0x0, 0x0, 0x0, 0x0, 0x0, 0x0, 0⟩,
  ⟨0x1700004, 1, 0x0, 1, 0x0, 0x0, 0x0, 0x7FF, 0x0, 0x0, 0x0, 0⟩,
  ⟨0x1700008, 1, 0x0, 1, 0x0, 0x0, 0x7FF, 0x0, 0x0, 0x0, 0x0, 0⟩,
  ⟨0x1700010, 1, 0x0, 1, 0x0, 0x3, 0x3, 0x0, 0x0, 0x0, 0x0, 0⟩,
  ⟨0x1700014, 1, 0x0, 1, 0x0, 0x1F0007FF, 0x1FF007FF, 0x0, 0x0, 0x0, 0x0, 0⟩,
  ⟨0x1700018, 1, 0x0, 1, 0x0, 0x400BB8, 0xFFFFFF, 0x0, 0x0, 0x0, 0x0, 0⟩,
  ⟨0x170001C, 1, 0x0, 1, 0x0, 0x8100408, 0xFFFFFFFF, 0x0, 0x0, 0x0, 0x0, 0⟩,
  ⟨0x1700020, 1, 0x0, 1, 0x0, 0x400020, 0x0, 0x0, 0x0, 0x0, 0x0, 0⟩,
  ⟨0x1700028, 1, 0x0, 1, 0x0, 0x0, 0x0, 0x0, 0x0, 0x0, 0x0, 0⟩,
  ⟨0x170002C, 1, 0x0, 1, 0x0, 0x0, 0x0, 0x0, 0x0, 0x0, 0x0, 0⟩,
  ⟨0x1700080, 1, 0x0, 1, 0x0, 0x0, 0x0, 0x0, 0x0, 0x0, 0x8000FFFF, 1⟩,
  ⟨0x1700084, 1, 0x0, 1, 0x0, 0x0, 0x0, 0x0, 0x0, 0x0, 0x8000FFFF, 1⟩,
  ⟨0x1700088, 1, 0x0, 1, 0x0, 0x0, 0x0, 0x0, 0x0, 0x0, 0x8000FFFF, 1⟩,
  ⟨0x170008C, 1, 0x0, 1, 0x0, 0x0, 0x0, 0x0, 0x0, 0x0, 0x8000FFFF, 1⟩,
  ⟨0x1700090, 1, 0x0, 1, 0x0, 0x0, 0x0, 0x0, 0x0, 0x0, 0x8000FFFF, 1⟩,
  ⟨0x1700094, 1, 0x0, 1, 0x0, 0x0, 0x0, 0x0, 0x0, 0x0, 0x8000FFFF, 1⟩,
  ⟨0x1700098, 1, 0x0, 1, 0x0, 0x0, 0x0, 0x0, 0x0, 0x0, 0x0, 3⟩,
  ⟨0x170009C, 1, 0x0, 1, 0x0, 0x0, 0x0, 0x0, 0x0, 0x0, 0x0, 3⟩,
  ⟨0x1700100, 8, 0x4, 1, 0x0, 0x7F0000, 0x0, 0x0, 0x0, 0x0, 0x7F0000, 0⟩]

/-- The registers of window 0x18 (SMUDGE). -/
def regRows18 : List RegRow := [
  ⟨0x1800000, 1, 0x0, 1, 0x0, 0x0, 0x0, 0x0, 0x0, 0x0, 0x0, 0⟩,
  ⟨0x1800004, 1, 0x0, 1, 0x0, 0x0, 0x0, 0xF, 0x0, 0x0, 0x0, 0⟩,
  ⟨0x1800008, 1, 0x0, 1, 0x0, 0x0, 0xF, 0x0, 0x0, 0x0, 0x0, 0⟩,
  ⟨0x1800010, 1, 0x0, 1, 0x0, 0x1, 0xFFFFFFFF, 0x0, 0x0, 0x0, 0x0, 0⟩,
  ⟨0x1800014, 1, 0x0, 1, 0x0, 0x0, 0xFFFF007F, 0x0, 0x0, 0x0, 0x0, 0⟩,
  ⟨0x1800018, 1, 0x0, 1, 0x0, 0x7F, 0x7F, 0x0, 0x0, 0x0, 0x0, 0⟩,
  ⟨0x180001C, 1, 0x0, 1, 0x0, 0x200, 0xFF03FF, 0x0, 0x0, 0x0, 0x0, 0⟩,
  ⟨0x1800020, 1, 0x0, 1, 0x0, 0x0, 0xFFFFFFFF, 0x0, 0x0, 0x0, 0x0, 0⟩,
  ⟨0x1800024, 1, 0x0, 1, 0x0, 0x0, 0xFCFFFF0F, 0x0, 0x0, 0x0, 0x0, 0⟩,
  ⟨0x1800028, 1, 0x0, 1, 0x0, 0x0, 0xFFFF33, 0x0, 0x0, 0x0, 0x0, 0⟩,
  ⟨0x180002C, 1, 0x0, 1, 0x0, 0x0, 0xF, 0x0, 0x0, 0x0, 0x0, 0⟩,
  ⟨0x1800030, 1, 0x0, 1, 0x0, 0x0, 0xFFFFFFFF, 0x0, 0x0, 0x0, 0x0, 0⟩,
  ⟨0x1800034, 1, 0x0, 1, 0x0, 0x0, 0xF, 0x0, 0x80000000, 0x0, 0x0, 0⟩,
  ⟨0x1800038, 1, 0x0, 1, 0x0, 0x0, 0xFFFF, 0x0, 0x0, 0x0, 0x0, 0⟩,
  ⟨0x1800040, 1, 0x0, 1, 0x0, 0x0, 0x7F, 0x0, 0x0, 0x0, 0x0, 0⟩,
  ⟨0x1800080, 7, 0x4, 1, 0x0, 0x0, 0x0, 0x0, 0x0, 0x0, 0x0, 3⟩]

/-- The registers of window 0x19 (UPDATE). -/
def regRows19 : List RegRow := [
  ⟨0x1900000, 1, 0x0, 1, 0x0, 0x0, 0x0, 0x20, 0x0, 0x0, 0x0, 0⟩,
  ⟨0x1900004, 1, 0x0, 1, 0x0, 0x0, 0x0, 0x1FF, 0x0, 0x0, 0x0, 0⟩,
  ⟨0x1900008, 1, 0x0, 1, 0x0, 0x0, 0x1FF, 0x0, 0x0, 0x0, 0x0, 0⟩,
  ⟨0x1900010, 1, 0x0, 1, 0x0, 0x640, 0xFFF1, 0x0, 0x0, 0x0, 0x0, 0⟩,
  ⟨0x1900014, 1, 0x0, 1, 0x0, 0x0, 0xFFFFFFFF, 0x0, 0x0, 0x0, 0x0, 0⟩,
  ⟨0x1900020, 4, 0x4, 1, 0x0, 0x0, 0xFFFFFFFF, 0x0, 0x0, 0x0, 0x0, 0⟩,
  ⟨0x1900030, 1, 0x0, 1, 0x0, 0x0, 0x0, 0x0, 0x0, 0x0, 0x0, 0⟩,
  ⟨0x1900040, 2, 0x20, 1, 0x0, 0x0, 0x0, 0x0, 0x0, 0x0, 0x0, 0⟩,
  ⟨0x1900044, 2, 0x20, 1, 0x0, 0x0, 0x0, 0x0, 0x0, 0x0, 0x0, 0⟩,
  ⟨0x1900048, 2, 0x20, 1, 0x0, 0x0, 0x0, 0x0, 0x0, 0x0, 0x0, 0⟩,
  ⟨0x190004C, 2, 0x20, 1, 0x0, 0x0, 0x0, 0x0, 0x0, 0x0, 0x0, 0⟩,
  ⟨0x1900050, 2, 0x20, 1, 0x0, 0x0, 0x0, 0x0, 0x0, 0x0, 0x0, 0⟩,
  ⟨0x1900080, 8, 0x4, 1, 0x0, 0x0, 0x0, 0x0, 0x0, 0x0, 0x0, 0⟩,
  ⟨0x19000A0, 1, 0x0, 1, 0x0, 0x0, 0x0, 0x0, 0x0, 0x0, 0x0, 0⟩,
  ⟨0x19000A4, 1, 0x0, 1, 0x0, 0x0, 0x0, 0x0, 0x0, 0x0, 0x0, 0⟩,
  ⟨0x19000A8, 1, 0x0, 1, 0x0, 0x0, 0x0, 0x0, 0x0, 0x0, 0x0, 0⟩,
  ⟨0x19000B0, 1, 0x0, 1, 0x0, 0x0, 0x0, 0x0, 0x0, 0x0, 0x0, 0⟩,
  ⟨0x19000B4, 1, 0x0, 1, 0x0, 0x0, 0x0, 0x0, 0x0, 0x0, 0x0, 0⟩,
  ⟨0x19000B8, 1, 0x0, 1, 0x0, 0x0, 0x0, 0x0, 0x0, 0x0, 0x0, 0⟩,
  ⟨0x19000C0, 1, 0x0, 1, 0x0, 0x0, 0x0, 0x0, 0x0, 0x0, 0x8000FFFF, 1⟩,
  ⟨0x19000C4, 1, 0x0, 1, 0x0, 0x0, 0x0, 0x0, 0x0, 0x0, 0x8000FFFF, 1⟩,
  ⟨0x19000C8, 1, 0x0, 1, 0x0, 0x0, 0x0, 0x0, 0x0, 0x0, 0x8000FFFF, 1⟩,
  ⟨0x19000CC, 1, 0x0, 1, 0x0, 0x0, 0x0, 0x0, 0x0, 0x0, 0x8000FFFF, 1⟩,
  ⟨0x19000D0, 1, 0x0, 1, 0x0, 0x0, 0x0, 0x0, 0x0, 0x0, 0x8000FFFF, 1⟩,
  ⟨0x19000D4, 1, 0x0, 1, 0x0, 0x0, 0x0, 0x0, 0x0, 0x0, 0x0, 3⟩]

/-- The registers of window 0x20 (BRUSH cores and shared). -/
def regRows20 : List RegRow := [
  ⟨0x2000000, 68, 0x40000, 1, 0x0, 0xFF00, 0x0, 0x0, 0x0, 0x0, 0x0, 0⟩,
  ⟨0x2000004, 68, 0x40000, 1, 0x0, 0x0, 0x0, 0x0, 0x3, 0x0, 0x0, 0⟩,
  ⟨0x2000008, 68, 0x40000, 1, 0x0, 0x0, 0x1FFF, 0x0, 0x0, 0x0, 0x0, 0⟩,
  ⟨0x200000C, 68, 0x40000, 1, 0x0, 0x0, 0x0, 0x0, 0x0, 0x0, 0x0, 0⟩,
  ⟨0x2000010, 68, 0x40000, 1, 0x0, 0x0, 0xF00, 0xF, 0x0, 0x0, 0x0, 0⟩,
  ⟨0x2000014, 68, 0x40000, 1, 0x0, 0x0, 0x1FFF, 0x0, 0x0, 0x0, 0x0, 0⟩,
  ⟨0x2000018, 68, 0x40000, 1, 0x0, 0x0, 0x0, 0x0, 0x0, 0x0, 0x0, 0⟩,
  ⟨0x200001C, 68, 0x40000, 1, 0x0, 0x0, 0x0, 0x0, 0x0, 0x0, 0x0, 0⟩,
  ⟨0x2000020, 68, 0x40000, 1, 0x0, 0x0, 0x0, 0x0, 0x0, 0x0, 0x0, 0⟩,
  ⟨0x2000028, 68, 0x40000, 1, 0x0, 0x0, 0x0, 0x0, 0x0, 0x0, 0x0, 0⟩,
  ⟨0x200002C, 68, 0x40000, 1, 0x0, 0x0, 0x0, 0x0, 0x0, 0x0, 0x0, 0⟩,
  ⟨0x2000040, 68, 0x40000, 4, 0x8, 0x0, 0x0, 0x0, 0x0, 0x0, 0x0, 0⟩,
  ⟨0x2000044, 68, 0x40000, 4, 0x8, 0x0, 0x0, 0x10000, 0x0, 0x0, 0x0, 0⟩,
  ⟨0x2000080, 68, 0x40000, 4, 0x10, 0x0, 0xFFFFFFFF, 0x0, 0x0, 0x0, 0x0, 0⟩,
  ⟨0x2000084, 68, 0x40000, 4, 0x10, 0x0, 0xFF, 0x0, 0x0, 0x0, 0x0, 0⟩,
  ⟨0x2000088, 68, 0x40000, 4, 0x10, 0x0, 0x3FFF7FFF, 0x0, 0x0, 0x0, 0x0, 0⟩,
  ⟨0x200008C, 68, 0x40000, 4, 0x10, 0x0, 0x0, 0xC, 0x1, 0x0, 0x0, 0⟩,
  ⟨0x2000100, 68, 0x40000, 1, 0x0, 0x0, 0x0, 0x0, 0x0, 0x0, 0x0, 0⟩,
  ⟨0x2000104, 68, 0x40000, 1, 0x0, 0x0, 0xFFFFFFFF, 0x0, 0x0, 0x0, 0x0, 0⟩,
  ⟨0x2000108, 68, 0x40000, 1, 0x0, 0x0, 0x0, 0xC, 0x0, 0x0, 0x0, 0⟩,
  ⟨0x200010C, 68, 0x40000, 1, 0x0, 0x0, 0x0, 0x0, 0x0, 0x1, 0x0, 0⟩,
  ⟨0x3F00000, 1, 0x0, 1, 0x0, 0x0, 0x0, 0x0, 0x0, 0x0, 0x0, 0⟩,
  ⟨0x3F00004, 1, 0x0, 1, 0x0, 0x0, 0x0, 0xFF, 0x0, 0x0, 0x0, 0⟩,
  ⟨0x3F00008, 1, 0x0, 1, 0x0, 0x0, 0xFF, 0x0, 0x0, 0x0, 0x0, 0⟩,
  ⟨0x3F00040, 16, 0x4, 1, 0x0, 0x0, 0x0, 0x0, 0x0, 0x0, 0x0, 0⟩,
  ⟨0x3F00080, 1, 0x0, 1, 0x0, 0x0, 0x0, 0x0, 0x0, 0x0, 0x8000FFFF, 1⟩,
  ⟨0x3F00084, 1, 0x0, 1, 0x0, 0x0, 0x0, 0x0, 0x0, 0x0, 0x8000FFFF, 1⟩,
  ⟨0x3F00088, 1, 0x0, 1, 0x0, 0x0, 0x0, 0x0, 0x0, 0x0, 0x8000FFFF, 1⟩,
  ⟨0x3F0008C, 1, 0x0, 1, 0x0, 0x0, 0x0, 0x0, 0x0, 0x0, 0x8000FFFF, 1⟩,
  ⟨0x3F00090, 1, 0x0, 1, 0x0, 0x0, 0x0, 0x0, 0x0, 0x0, 0x8000FFFF, 1⟩] ++ [
  ⟨0x3F00094, 1, 0x0, 1, 0x0, 0x0, 0x0, 0x0, 0x0, 0x0, 0x0, 3⟩]

/-- The rows a BAR0 offset can belong to, by its window (R537). -/
def regRows (off : Nat) : List RegRow :=
  match off / 0x100000 with
  | 0x0 => regRows0
  | 0x1 => regRows1
  | 0x2 => regRows2
  | 0x3 => regRows3
  | 0x4 => regRows4
  | 0x5 => regRows5
  | 0x6 => regRows6
  | 0x7 => regRows7
  | 0x8 => regRows8
  | 0x9 => regRows9
  | 0xA => regRowsA
  | 0xB => regRowsB
  | 0xC => regRowsC
  | 0xD => regRowsC
  | 0xE => regRowsC
  | 0xF => regRowsC
  | 0x10 => regRows10
  | 0x11 => regRows11
  | 0x12 => regRows12
  | 0x13 => regRows13
  | 0x15 => regRows15
  | 0x16 => regRows16
  | 0x17 => regRows17
  | 0x18 => regRows18
  | 0x19 => regRows19
  | w => if 0x20 ≤ w then regRows20 else []

/-- Whether `off` is one of the registers of a row. -/
def rowHas (r : RegRow) (off : Nat) : Bool :=
  r.base ≤ off &&
    (let d := off - r.base
     let i := if r.s1 = 0 then 0 else min (d / r.s1) (r.n1 - 1)
     let e := d - i * r.s1
     let j := if r.s2 = 0 then 0 else e / r.s2
     e = j * r.s2 && j < r.n2 && (r.s1 ≠ 0 || i = 0))

/-- The row of the register at a BAR0 offset, none where no register is defined (R11). -/
def regRow? (off : Nat) : Option RegRow := (regRows off).find? (rowHas · off)

/-- Tolerance after reset of SYS_WAKE_TOLn in µs (R132). -/
def wakeTolReset (n : Nat) : Nat := if 1 ≤ n ∧ n ≤ 6 ∨ n = 7 then 1000 else 0

/-- Values after reset that differ between the registers of an array, or that are set for each unit or follow from what is
stored (R542, R451, R424). -/
def regSpecial (off : Nat) : Option Word :=
  if off = R.SYS_CONFIG_ID then some (Config.orderCode.setWidth 32)
  else if off = R.CLK_AON_TRIM then some (Config.aonTrim.setWidth 32)
  else if R.SYS_WAKE_TOL 0 ≤ off ∧ off ≤ R.SYS_WAKE_TOL 11 then some (.ofNat 32 (wakeTolReset ((off - R.SYS_WAKE_TOL 0) / 4)))
  else if R.HOST_INT_ROUTE 0 ≤ off ∧ off ≤ R.HOST_INT_ROUTE 31 then
    some (.ofNat 32 (0x80000000 + (off - R.HOST_INT_ROUTE 0) / 4 + 2))
  else if off = R.NET_CTRL 3 then some 0x33#32
  else if off = R.NET_MAX_FRAME 2 then some 9216#32
  else if off = R.NET_MAC_LO 0 ∨ off = R.NET_MAC_LO 1 ∨ off = R.NET_MAC_LO 2 ∨ off = R.NET_MAC_LO 3 then
    some ((Config.mac ((off - R.NET_MAC_LO 0) / 0x100000)).setWidth 32)
  else if off = R.NET_MAC_HI 0 ∨ off = R.NET_MAC_HI 1 ∨ off = R.NET_MAC_HI 2 ∨ off = R.NET_MAC_HI 3 then
    some (((Config.mac ((off - R.NET_MAC_HI 0) / 0x100000)) >>> 32).setWidth 32)
  else if R.PDM_FIR_COEF 0 ≤ off ∧ off ≤ R.PDM_FIR_COEF 31 then
    some ((Config.pdmFirCoef ((off - R.PDM_FIR_COEF 0) / 4)).signExtend 32)
  else if R.BRUSH_MAP 0 ≤ off ∧ off ≤ R.BRUSH_MAP 15 then
    some (.ofNat 32 (let l := 4 * ((off - R.BRUSH_MAP 0) / 4); let n := 17 * (l / 16) + l % 16
      n + (n + 1) * 0x100 + (n + 2) * 0x10000 + (n + 3) * 0x1000000))
  else if 0x2000000 ≤ off ∧ off < 0x3100000 ∧ (off - 0x2000000) % 0x40000 = 0 then
    some (.ofNat 32 (0xFF00 + (off - 0x2000000) / 0x40000 * 0x10000))
  else if off = R.UPDATE_ACTIVE_VERSION then some Config.firmwareVersion
  else if off = R.UPDATE_SVN then some (.ofNat 32 (Config.activeSvn.toNat + 256 * Config.minSvn.toNat))
  else if R.FLASH_EU_A 0 ≤ off ∧ off ≤ R.FLASH_EU_B 5463 then
    some (if off % 8 = 0 then Config.flashUnitA ((off - R.FLASH_EU_A 0) / 8) else Config.flashUnitB ((off - R.FLASH_EU_A 0) / 8))
  else if off = R.HEALTH_LEDGER_NEXT_LO then some (Config.ledgerNext.setWidth 32)
  else if off = R.HEALTH_LEDGER_NEXT_HI then some ((Config.ledgerNext >>> 32).setWidth 32)
  else none

/-- The value of a register after reset. An offset with no register reads 0 (R11). -/
def regReset (off : Nat) : Word :=
  match regSpecial off with
  | some w => w
  | none =>
    match regRow? off with
    | some r => .ofNat 32 r.reset
    | none => 0

end Sys2Proof.Machine
end

