-- ==== Sys2Proof/Machine/Parts.lean ====
section
/-! DEFINITION. The parts of the state, chapter by chapter, as plain data: what the spec gives the module beside its
registers, and the record `Core` of all of it but DRAM, studio SRAM and the queue of waiting commands. -/

namespace Sys2Proof.Machine

/-- What the module sends to the world outside, oldest first in the outbox: everything an observer at the connectors
can see that no register keeps. -/
inductive Msg where
  /-- A reply, a completion notice (FLAGS bit 0) or an event notice (FLAGS bit 1) of R141. -/
  | easel (dest : Transport) (flags status opcode : Nat) (seq : Word) (session : Nat) (body : List Byte)
  /-- An MSI-X message on a vector. -/
  | msix (vector : Nat)
  /-- The word a read access returns. -/
  | read (master off : Nat) (value : Word)
  /-- The bytes an SMBus read returns, or a NACK. -/
  | smbus (bytes : List Byte)
  | smbusNack
  /-- A PCIe configuration completion; none is Configuration Request Retry Status. -/
  | config (value : Option Word)
  /-- Bytes returned by a BAR2, DRAM or flash read. -/
  | data (bytes : List Byte)
  /-- An output pin changes level. -/
  | pin (name : String) (index : Nat) (level : Bool)
  /-- An Ethernet frame or a tether frame leaves a port: port, traffic class, kind and contents. -/
  | frame (port cls : Nat) (kind : String) (words : List Nat)
  /-- A TDM frame leaves a port: the port and the slot words, none for a slot left at high impedance. -/
  | tdm (port : Nat) (slots : List (Option Nat))
deriving DecidableEq, Repr

/-- Who is to get the completion notice of an accepted operation: the session, the sequence number and the opcode of its
command (R141, R148). -/
structure Tok where
  session : Nat := 0
  seq : Word := 0
  opcode : Nat := 0
deriving DecidableEq, Repr

/-! ### Supply, resets and power states -/

/-- A function reset under way (R128): its code, and whose command asked for it. -/
structure FuncReset where
  code : Nat
  tok : Option Tok
deriving DecidableEq, Repr

/-- A standby entry or exit under way (R135, R136). -/
inductive StandbyStep where
  /-- Entry into quiet standby at media sample count B. -/
  | entering (b : Nat)
  /-- Exit from quiet standby. -/
  | leaving
  /-- Entry into deep standby. -/
  | deepEntering
deriving DecidableEq, Repr

/-- The supply, the pins of J2 that report it, start-up and power states. -/
structure Power where
  /-- VIN has crossed the start threshold and the AON oscillator runs (step 1 of R121). -/
  vinOn : Bool := false
  /-- The last completed step of R121, 0 before step 1. -/
  step : Nat := 0
  /-- Start-up has stopped at its step for good (R123). -/
  stuck : Bool := false
  /-- Every module rail is in regulation (R51). -/
  railsOk : Bool := false
  /-- The hold-up store is charged (R50). -/
  holdup : Bool := false
  /-- PGOOD_N is driven low (R51). -/
  pgood : Bool := false
  /-- PGOOD_N has gone low since VIN was applied (R53). -/
  pgoodSeen : Bool := false
  /-- SMB_ALERT_N is asserted (R60). -/
  alert : Bool := false
  /-- FLAGS bit 4, THERM_TRIP (R64). -/
  trip : Bool := false
  /-- The values the SMBus port reports, refreshed every 10 ms (R59). -/
  smbState : Nat := 0
  smbFlags : Nat := 0
  smbVin : Nat := 0
  smbPin : Nat := 0
  smbTdie : Nat := 0x8000
  smbTboard : Nat := 0
  /-- The die has reached 115 °C and the next block boundary begins mute and hold (R65). -/
  holdDue : Bool := false
  /-- RESET_N is low and recognised. -/
  inReset : Bool := false
  /-- The PCIe endpoint has stopped returning Retry Status (R63). -/
  endpointReady : Bool := false
  /-- PCIE_PERST_N is low. -/
  perst : Bool := false
  /-- An accepted module reset waits for its block boundary (R126). -/
  resetDue : Bool := false
  /-- An accepted control-plane restart begins once the reply has been sent (R137). -/
  restartDue : Bool := false
  funcReset : Option FuncReset := none
  standby : Option StandbyStep := none
  /-- A release of the output hold received before step 14 (R122). -/
  releaseDue : Bool := false
  /-- Outputs are at zero for one of the causes of R52, R65, R126, R135 or R122 and fade in at the next resumption. -/
  silenced : Bool := true
  /-- The engines, Caliper and the Brush cores are stopped by standby or mute and hold. -/
  engineStop : Bool := true
  /-- Cages that hold an SFP module, by port, and whether its LOS line is high (R61). -/
  cages : SMap (Option Bool) := []
  /-- The SFP identity read at each insertion, by port (R61). -/
  sfpId : SMap (List Byte) := []
  /-- The cause written to SYS_RESET_CAUSE at the start under way. -/
  cause : Nat := 1
deriving DecidableEq, Repr

/-! ### Easel, mailboxes, rings -/

/-- The stored first reply to a taken command (R147). -/
structure Stored where
  seq : Word
  opcode : Nat
  length : Nat
  status : Nat
  body : List Byte
  /-- The first reply has been sent. -/
  sent : Bool
deriving DecidableEq, Repr

/-- One open session (R144). -/
structure Session where
  num : Nat
  transport : Transport
  /-- The SEQUENCE its next command must carry. -/
  expected : Word
  /-- The SEQUENCE of the SESSION_OPEN that opened it. -/
  base : Word
  /-- The TIME cycle at which it opened, and that of the last packet taken (R145, R147). -/
  openAt : Nat := 0
  /-- The reply to its SESSION_OPEN. -/
  openReply : List Byte := []
  /-- The last 64 taken commands with their first replies, newest first. -/
  stored : List Stored := []
  /-- The source mask of EVENT_SUBSCRIBE (R155). -/
  mask : Word := 0
  /-- Event notices sent to it so far (R141). -/
  events : Word := 0
deriving DecidableEq, Repr

/-- A pending timed command (R150): its packet, the boundary at which it takes effect and whether it has been committed. -/
structure Timed where
  opcode : Nat
  packet : Packet
  boundary : Nat
  committed : Bool := false
  /-- Its effect was scheduled when it was accepted, and whether that effect gives the notice itself. -/
  eager : Bool := false
  own : Bool := false
deriving DecidableEq, Repr

/-- A datagram in reassembly (R139): source address, identification, and the fragments as (offset, bytes, more). -/
structure Reasm where
  src : Nat
  ident : Nat
  parts : List (Nat × List Byte × Bool)
deriving DecidableEq, Repr

/-- The Easel engines and the HOST block beyond its registers. -/
structure HostPart where
  sessions : List Session := []
  /-- The number the search for the next free session number starts after (R144). -/
  lastNum : Nat := 0
  timed : List Timed := []
  /-- Replies and notices that wait for room in the reply ring, oldest first (R161). -/
  held : List Msg := []
  /-- The bytes of the command ring slots that host software has posted and the module has not yet read (R160). -/
  unread : List Byte := []
  /-- Packets read from the command ring and not yet taken, oldest first. -/
  ring : List (List Byte) := []
  /-- Datagrams in reassembly, at most 16 (R139). -/
  reasm : List Reasm := []
  /-- Datagrams complete and not yet taken. -/
  datagrams : List (List Byte) := []
  /-- The owner of each hold register, none when free (R168). -/
  holds : SMap (Option Nat) := []
  /-- Event masks of the sixteen mailbox sessions (R163). -/
  mbxMask : SMap Word := []
  /-- The firmware side's doorbells rung and not yet served: H2F full by pair, ABORT by pair, MBX_STALL (R167). -/
  fwBells : SMap Nat := []
  /-- The MSI-X table by word and the pending bits (R171). -/
  msix : SMap Word := []
  pba : Nat := 0
  /-- Sources whose enabled interrupt status gained a bit since the last block boundary (R156). -/
  gained : List Nat := []
  /-- Notices that completed during a control-plane restart and are sent when it ends (R149). -/
  later : List (Tok × Nat × List Byte) := []
  /-- Operations that complete in the step that accepts them: their notices follow the ACCEPTED reply (R148). -/
  instant : List (Tok × Nat × List Byte) := []
  /-- Accepted operations whose completion notice is still to come (R148). -/
  ops : List Tok := []
deriving DecidableEq, Repr

/-! ### Audio gate: what every output, monitor channel and direct path is doing as a whole -/

/-- The common fade of the outputs: full, fading out from sample `a` over `g` samples, at zero, or fading in (R52, R65,
R83, R88, R111, R121, R126, R135). -/
inductive Gate where
  | full
  | fadeOut (a g : Nat)
  | zero
  | fadeIn (a g : Nat)
deriving DecidableEq, Repr

/-! ### Clocks -/

/-- A MEDIA switch under way (R88): the new setting, its anchor B, and the command to be told. -/
structure MediaSwitch where
  family : Nat
  mult : Nat
  ll : Nat
  src : Nat
  b : Nat
  tok : Option Tok
  /-- B has passed and the domain has restarted; the next block boundary is step 3. -/
  done : Bool := false
  /-- FAMILY, MULT or LL changes, so that the media count is re-aligned to the epoch. -/
  rate : Bool := false
deriving DecidableEq, Repr

/-- The oscillators, the MEDIA domain and the DPLL beyond their registers. -/
structure Clk where
  /-- The TCXO is enabled; its start check has passed (R73). -/
  tcxoOn : Bool := false
  tcxoOk : Bool := false
  /-- PLL_A, PLL_B, PLL_M and PLL_S0–3 are released and locked. -/
  pllOn : Bool := false
  /-- The source of CTRL: 0 PLL_B, 1 TCXO direct (R72). -/
  ctrlSrc : Nat := 1
  /-- The MEDIA domain runs; it has started since power-up or RESET_N. -/
  mediaOn : Bool := false
  mediaStarted : Bool := false
  /-- The running rate, mode and source of the MEDIA domain (R89). -/
  family : Nat := 0
  mult : Nat := 0
  ll : Nat := 0
  src : Nat := 0
  /-- The reference the DPLL follows: 0 none, 1 PTP, 2 REF_IN; it can lag DREF until the TCXO qualifies (R79). -/
  follow : Nat := 0
  /-- The DPLL holds its control word. -/
  held : Bool := false
  /-- The DPLL has declared lock (R79). -/
  locked : Bool := false
  /-- REF_IN is present and in window since a whole measurement interval, so that a trip can be declared (R76). -/
  refGood : Bool := false
  /-- Consecutive good 1PPS edges (R77). -/
  ppsEdges : Nat := 0
  /-- A REF_IN 1PPS reference has been qualified and traceable before (R100). -/
  wasTraceable : Bool := false
  /-- The double fault: none, or the number of block boundaries passed since its anchor D (R83). -/
  fault : Option Nat := none
  /-- A double fault has frozen the MEDIA domain, which waits for the TCXO. -/
  frozen : Bool := false
  sw : Option MediaSwitch := none
  /-- The settings that run on CLKOUT0 and CLKOUT1: EN, SRC, DIVH (R93). -/
  clkout : SMap (Nat × Nat × Nat) := []
  /-- CLKOUTs stopped low and waiting for the next block boundary (R93). -/
  clkoutDue : List Nat := []
  /-- The common fade of outputs and monitor channels, and that of the direct paths. -/
  gate : Gate := .zero
  dpGate : Gate := .zero
  /-- Data-transparent direct paths are replaced by zeros. -/
  dpCut : Bool := true
  /-- The gate fades in from this sample count on, once set. -/
  fadeInAt : Option Nat := none
  /-- Samples before this count read as zero from delay memory (R83, R111). -/
  zeroBefore : Nat := 0
  /-- The PLL or port resets asked for by the monitors, by port (R85). -/
  portResets : List Nat := []
deriving DecidableEq, Repr

/-! ### Network time -/

/-- A PTP port's state (R98). -/
inductive PtpState where
  | listening | follower | leader | passive
deriving DecidableEq, Repr

/-- One PTP port: its state machine and its delay measurement (R98). Times are in units of 2⁻¹⁶ ns. -/
structure PtpPort where
  state : PtpState := .listening
  foreign : List Leader := []
  /-- The leader it follows. -/
  leader : Option Leader := none
  /-- A two-step Sync that waits for its Follow_Up: sequence number, corrected t2, correction. -/
  sync : Option (Nat × Int × Int) := none
  /-- t2 − t1 of the last complete Sync. -/
  down : Option Int := none
  /-- A Delay_Req that waits for its Delay_Resp: sequence number and corrected t3. -/
  req : Option (Nat × Int) := none
  /-- Mean path delay. -/
  mpd : Option Int := none
  /-- Sequence numbers of the next Delay_Req, Sync and Announce it sends. -/
  reqSeq : Nat := 0
  syncSeq : Nat := 0
  annSeq : Nat := 0
  /-- The interval the leader's Delay_Resp advertises, not below −3 (R96). -/
  reqInterval : Int := -3
deriving DecidableEq, Repr

/-- A live pulse program (R115). Times are PTP nanoseconds. -/
structure Pulse where
  periodic : Bool
  start : Nat
  period : Nat
  width : Nat
  /-- The number of the next edge, its output level, and the end of the pulse that is high. -/
  next : Nat
  high : Option Nat
  /-- STOP has been written. -/
  stopping : Bool
deriving DecidableEq, Repr

/-- One time capture (R117). -/
structure Capture where
  /-- PTP time in units of 2⁻¹⁶ ns. -/
  time : Nat
  n : Nat
  phase : Nat
  epoch : Nat
deriving DecidableEq, Repr

/-- A scheduled re-alignment (R111): its anchor B, the offset to step by, and the seconds a TIME_SET asked for. -/
structure Realign where
  b : Nat
  offset : Int
deriving DecidableEq, Repr

/-- The TIME block beyond its registers. -/
structure TimePart where
  /-- The PTP counter, in units of 2⁻³² ns (R104). -/
  ptp : Nat := 0
  /-- TIME cycles of 4 ns since power-up: the model's measure of elapsed time. -/
  cycles : Nat := 0
  /-- The counter's time is known. -/
  known : Bool := false
  /-- The media sample counter (R113). -/
  n : Nat := 0
  ports : SMap PtpPort := []
  active : Option Nat := none
  /-- PTP is lost, so TIME_RATE is frozen (R106). -/
  lost : Bool := false
  /-- A step check is due after the next four Syncs (R108), and the offsets taken for it. -/
  checking : Bool := true
  sums : List Int := []
  /-- The averaged offset of a refused step, in units of 2⁻¹⁶ ns. -/
  refused : Int := 0
  outliers : Nat := 0
  realign : Option Realign := none
  pulses : SMap (Option Pulse) := []
  captures : SMap (List Capture) := []
  /-- The entry each master last popped, by 2 × port + input (R118). -/
  popped : SMap (Option Capture) := []
  /-- The last seconds set with TIME_SET (R112). -/
  setSec : Option Nat := none
deriving DecidableEq, Repr

/-! ### What flash and fuses keep -/

/-- The configuration store: what firmware loads again at step 11 of a start (R78, R89, R121, R137). -/
structure ConfigStore where
  clkQual : Word := 0x00140014
  startCfg : Word := 3
  family : Nat := 0
  mult : Nat := 0
  ll : Nat := 0
  udpAllow : Bool := false
  /-- GRAIN for the next power-up or RESET_N (R451). -/
  grain : Nat := 11
  /-- The stored port, TIME and stream configuration: register offsets with the words firmware writes at step 11. -/
  regs : SMap Word := []
  /-- The carrier's latency figures of R102 by port, ingress then egress, in units of 2⁻¹⁶ ns. -/
  latency : SMap (Int × Int) := []
deriving DecidableEq, Repr
/-! ### The scene, Caliper, the render engines and the monitors (chapters 7 to 10) -/

/-- A position: three coordinates in units of 1/8,192 m (R173). -/
abbrev Pos := Int × Int × Int

/-- The defined properties of an object, as after an empty LAYOUT_BEGIN (R176). -/
structure ObjDef where
  enable : Bool := false
  /-- 0 PAN, 1 FRONT, 2 HYBRID, 3 DIRECT (R179). -/
  mode : Nat := 0
  zone : Nat := 0
  excl : Nat := 0
  direct : Nat := 0
  interp : Bool := false
  air : Bool := true
  boxMin : Pos := (-262144, -262144, -262144)
  boxMax : Pos := (262144, 262144, 262144)
deriving DecidableEq, Repr

/-- A loudspeaker record (R181). -/
structure Speaker where
  pos : Pos
  lfe : Bool
  inArray : Bool
  array : Nat
  element : Nat
deriving DecidableEq, Repr

/-- A scene bus (R253). -/
structure BusDef where
  enable : Bool := false
  order : Nat := 1
  n3d : Bool := false
  maxre : Bool := true
  zone : Nat := 0
  excl : Nat := 0
  gain : Int := 0
deriving DecidableEq, Repr

/-- A bed channel (R256). -/
structure BedDef where
  enable : Bool := false
  output : Nat := 0
  gain : Int := 0
deriving DecidableEq, Repr

/-- One bank of the layout-and-zones Palette (R188, R253, R256), as after an empty LAYOUT_BEGIN. -/
structure Layout where
  objs : SMap ObjDef := []
  spks : SMap (Option Speaker) := []
  /-- Masks of zones 1 to 63 by output. -/
  zones : SMap Nat := []
  tMin : Int := -1000
  tMax : Int := 4500
  buses : SMap BusDef := []
  beds : SMap BedDef := []
deriving DecidableEq, Repr

/-- The live properties of an object (R177). GAIN −32,768 is −∞. -/
structure ObjLive where
  pos : Pos := (0, 0, 0)
  gain : Int := 0
  mute : Bool := false
  spread : Nat := 0
  /-- Clamped in the last live Caliper period (R195). -/
  clamped : Bool := false
  /-- Updated since the last snapshot (R193). -/
  fresh : Bool := false
deriving DecidableEq, Repr

/-- Objects, layouts and the position stream. -/
structure ScenePart where
  live : Layout := {}
  staged : Layout := {}
  objs : SMap ObjLive := []
  /-- Entries the position-stream bucket lacks of being full (R194). -/
  used : Nat := 0
  /-- SOURCE and value of SOUND_SPEED_SET (R187); after reset TEMPERATURE with 20.00 °C. -/
  speedSrc : Nat := 0
  speedVal : Int := 2000
  /-- The last Survey temperature estimate. -/
  surveyTemp : Option Int := none
  /-- The LAYOUT_COMMIT under way (R188). -/
  commit : Option Tok := none
deriving DecidableEq, Repr

/-- A target that Caliper has computed for an entry: gain Q3.21, delay 17.16, air coefficient Q0.16 (R198). -/
structure Target where
  src : Nat
  out : Nat
  slot : Option Nat
  bank : Nat
  g : Int
  d : Nat
  a : Nat
  /-- Starts at its targets (R222), or takes its delay without ramp (R213). -/
  arrive : Bool := false
  silent : Bool := false
deriving DecidableEq, Repr

/-- A swap accepted and not yet made (R219). -/
structure Swap where
  mask : Nat
  b : Nat
  g : Nat
  tok : Option Tok
  timed : Bool
  prepared : Bool := false
  deferred : Bool := false
deriving DecidableEq, Repr

/-- A Glaze that runs from boundary b over g samples (R220). -/
structure GlazeRun where
  mask : Nat
  b : Nat
  g : Nat
  tok : Option Tok
  deferred : Bool
deriving DecidableEq, Repr

/-- Caliper and the Palettes. -/
structure CalPart where
  /-- The next snapshot boundary, the period latched at the last one, and the last handover (R197, R198). -/
  next : Nat := 0
  len : Nat := 48
  handAt : Nat := 0
  /-- Targets that wait for their handover, and its boundary. -/
  pend : List Target := []
  pendAt : Option Nat := none
  /-- A CALIPER_CONFIG that takes effect at the next snapshot (R226). -/
  config : Option (Word × Word × Word × Word) := none
  swaps : List Swap := []
  glazes : List GlazeRun := []
  /-- The fade of the Maquette pair: since which sample, and whether into Maquette (R224, R225). -/
  maqAt : Nat := 0
  /-- Caliper is in a function reset (R128). -/
  inReset : Bool := false
  /-- The last swap boundary of each Palette (R466). -/
  lastSwaps : List Nat := [0, 0, 0, 0]
deriving DecidableEq, Repr

/-- One entry of the contribution table (R231), with its run's source and kind. -/
structure Entry where
  src : Nat
  out : Nat := 0
  /-- The slot of a set of more than 64 loudspeakers, and whether it has an output (R205). -/
  slot : Option Nat := none
  bound : Bool := true
  /-- 0 shared, 1 bank A only, 2 bank B only. -/
  bank : Nat
  fixed : Bool := false
  fine : Bool := false
  air : Bool := false
  /-- Counted far at admission (R214). -/
  farCount : Bool := false
  /-- The current ramp reads the far tier. -/
  far : Bool := false
  gS : Int := 0
  gT : Int := 0
  dS : Nat := 0
  dT : Nat := 0
  aS : Nat := 0
  aT : Nat := 0
  /-- Air-filter state. -/
  y : Int := 0
  /-- Where the current ramp began and how long it is. -/
  s0 : Nat := 0
  len : Nat := 1
  j0 : Nat := 0
  /-- The lane that holds it (R229). -/
  lane : Nat := 0
  /-- Its far window for the block has arrived (R237). -/
  window : Bool := false
  /-- It contributes 0 to the block in hand (R237, R249). -/
  dropped : Bool := false
deriving DecidableEq, Repr

/-- Expert targets that wait for their boundary: entry index, engine, and the three targets (R252). -/
structure ExpertWrite where
  b : Nat
  /-- Where the next handover ends the ramps. -/
  stop : Nat
  items : List (Nat × Nat × Int × Nat × Nat)
deriving DecidableEq, Repr

/-- The render engines and delay memory. -/
structure RenPart where
  entries : List Entry := []
  /-- Near delay memory by word address, the count after the last sample written, and where the lines start (R233,
  R238). -/
  near : SMap Int := []
  nearEnd : Nat := 0
  nearStart : Nat := 0
  /-- Faults of near words: 1 a single-bit error, 2 an uncorrectable word; by row in the second map (R235, R519). -/
  nearFault : SMap Nat := []
  /-- Far slots of objects, and where their lines start (R236). -/
  farSlot : SMap (Option Nat) := []
  farStart : SMap Nat := []
  /-- Every entry starts at the targets of the next handover (R66, R83, R111, R135). -/
  fresh : Bool := true
  /-- The captured block of each source code (R232). -/
  cap : SMap (List Int) := []
  /-- A block has been rendered whose sums are not complete. -/
  busy : Bool := false
  /-- The boundary at which the engines started the block in hand. -/
  blockAt : Nat := 0
  /-- The number of the block whose sums stand in `live` and `staged`, by output (R247). -/
  blockN : Nat := 0
  live : SMap (List Int) := []
  staged : SMap (List Int) := []
  /-- The last 191 samples of each output's sums, newest first, for the binaural filters (R262). -/
  liveHist : SMap (List Int) := []
  stagedHist : SMap (List Int) := []
  expert : List ExpertWrite := []
  /-- Objects that enter or leave expert control at the next snapshot (R251). -/
  expertDue : List (Nat × Bool) := []
  /-- The unit RE8 shadows, as a list of lanes, and whether it stands in (R230). -/
  shadow : List Nat := []
deriving DecidableEq, Repr

/-- What a binaural pair is set to (R261). -/
structure PairSet where
  on : Bool := false
  lfe : Bool := false
  zone : Nat := 0
  h : Nat := 0
  item : Nat := 0
deriving DecidableEq, Repr

/-- A binaural pair (R261 to R264). -/
structure Pair where
  set : PairSet := {}
  /-- A change that waits for its anchor B, and whether only H changes. -/
  next : Option (PairSet × Nat × Bool) := none
  /-- Its fade: 0 none, 1 out, 2 in; from which sample and over how many. -/
  fade : Nat := 0
  fadeAt : Nat := 0
  fadeLen : Nat := 0
  /-- Its filter histories start at this sample count. -/
  since : Nat := 0
  clips : Nat := 0
  sat : Bool := false
deriving DecidableEq, Repr

/-- What a downmix channel plays (R265). -/
structure MixSet where
  h : Nat := 0
  list : List (Nat × Int) := []
deriving DecidableEq, Repr

/-- A downmix channel, with a change that waits for its boundary and the list it crossfades from. -/
structure Mix where
  set : MixSet := {}
  next : Option (MixSet × Nat) := none
  old : Option (MixSet × Nat × Nat) := none
  clips : Nat := 0
  sat : Bool := false
deriving DecidableEq, Repr

/-- A loudness meter (R266): the weighted powers of its 100 ms steps, newest first, and of its gating blocks since its
reset, in units of 2⁻⁹⁶ of full scale squared. -/
structure Meter where
  kind : Nat := 0
  first : Nat := 0
  count : Nat := 0
  weights : Nat := 0
  resetAt : Nat := 0
  steps : List Int := []
  blocks : List Int := []
deriving DecidableEq, Repr

/-- Monitor rendering. -/
structure MonPart where
  pairs : SMap Pair := []
  mixes : SMap Mix := []
  meters : SMap Meter := []
  /-- The block of each monitor channel (R259). -/
  out : SMap (List Int) := []
deriving DecidableEq, Repr

/-! ### The output chain (chapter 11) -/

/-- A biquad section of Palette 1 (R271, R285). -/
structure Biquad where
  bypass : Bool := true
  b0 : Int := 0
  b1 : Int := 0
  b2 : Int := 0
  a1 : Int := 0
  a2 : Int := 0
deriving DecidableEq, Repr

/-- The fields of Palette 1 for an output, as after an empty OUTCHAIN_BEGIN (R285). -/
structure ChainSet where
  /-- Units of 0.01 dB; −32,768 is −∞. -/
  trim : Int := 0
  align : Nat := 0
  h : Nat := 0
  sections : SMap Biquad := []
  firEn : Bool := false
  firItem : Nat := 0xFFFFFFFF
  varnishEn : Bool := false
  thresh : Int := -10
  knee : Nat := 200
  release : Nat := 100
  link : Nat := 0
deriving DecidableEq, Repr

/-- The state of a biquad section (R271). -/
structure BiquadState where
  x1 : Int := 0
  x2 : Int := 0
  y1 : Int := 0
  y2 : Int := 0
  r : Int := 0
deriving DecidableEq, Repr

/-- The state of one chain (R287). -/
structure ChainState where
  sections : SMap BiquadState := []
  /-- The last 256 FIR inputs, newest first. -/
  ins : List Int := []
  /-- The input spectra of the last 63 frames, newest first, bins 0 to 128. -/
  spectra : List (List (Int × Int)) := []
  /-- The tail of the frame in hand, its first sample count, and whether its transforms saturated. -/
  tail : List Int := []
  tailAt : Option Nat := none
  tailSat : Bool := false
  /-- The Varnish envelope. -/
  env : Nat := 0
  /-- The count before which no frame of its history began (R276). -/
  since : Nat := 0
deriving DecidableEq, Repr

/-- A mute or unmute that has not been carried out on every output (R283). -/
structure MuteReq where
  b : Nat
  mute : Bool
  todo : List Nat
  fading : List Nat := []
  tok : Tok
deriving DecidableEq, Repr

/-- The output chain and Palette 1. -/
structure OutPart where
  live : SMap ChainSet := []
  staged : SMap ChainSet := []
  commit : Option Tok := none
  /-- The sums of the block that waits for the chain, each with the headroom shift it was made with, and the count of its
  first sample. -/
  inp : SMap (List (Int × Nat)) := []
  inpAt : Option Nat := none
  /-- Alignment lines, newest word first, at most 8,192 words (R270). -/
  lines : SMap (List (Int × Nat)) := []
  chains : SMap ChainState := []
  /-- The chains of the former live bank during a Glaze of Palette 1 (R287). -/
  old : SMap (Option ChainState) := []
  /-- The block that the chain finished last: what the Armature reads from each output. -/
  out : SMap (List Int) := []
  /-- The same after stage 5, the feed that Survey reads (R290). -/
  feed : SMap (List Int) := []
  mutes : List MuteReq := []
  /-- A mute fade of an output: whether it mutes, its first sample and its length. -/
  fades : SMap (Option (Bool × Nat × Nat)) := []
deriving DecidableEq, Repr
/-! ### Survey (chapter 12) -/

/-- A PDM decimation chain (R293 to R297). Histories are newest first. -/
structure PdmChain where
  /-- The settings it runs with: clock rate, D1 code and F_c; none while it does not run. -/
  run : Option (Nat × Nat × Nat) := none
  integ : List Int := [0, 0, 0, 0, 0]
  comb : List Int := [0, 0, 0, 0, 0]
  /-- Bits since the last CIC output, and the parity of each later stage. -/
  bits : Nat := 0
  par1 : Nat := 0
  par2 : Nat := 0
  par3 : Nat := 0
  hb1 : List Int := []
  hb2 : List Int := []
  fir : List Int := []
  /-- Samples at F_c that wait, oldest first; the resampler's history and the fraction of its accumulator. -/
  fifo : List Int := []
  hist : List Int := []
  frac : Nat := 0
  /-- The settling hold: samples at F_c still to pass, none when it is over (R296). -/
  hold : Option Nat := none
  /-- The fade in after the hold: its first sample count and length; the fade out of a stuck input. -/
  fadeAt : Option (Nat × Nat) := none
  stuckAt : Option Nat := none
  stuck : Bool := false
  /-- The samples of the last block. -/
  out : List Int := []
deriving DecidableEq, Repr

/-- A measurement (R299 to R303). -/
structure Meas where
  kind : Nat
  /-- Units of 0.01 dBFS. -/
  level : Int
  post : Bool
  muteOthers : Bool
  mic : Nat
  repeats : Nat
  p1 : Nat
  p2 : Nat
  p3 : Nat
  gap : Nat
  outs : List Nat
  tok : Tok
  /-- The anchor B of R303 and the Glaze length. -/
  b : Nat
  g : Nat
  /-- The turn being played, and its first sample count. -/
  turn : Option (Nat × Nat) := none
  /-- Turns played whose results are not complete, and turns whose results are. -/
  waiting : List (Nat × SMap (List Int) × Nat × Nat) := []
  done : Nat := 0
  /-- The outputs fade their programme back in from here on. -/
  backAt : Option Nat := none
  aborted : Bool := false
  /-- The capture of the turn, newest first: channels 0 to 15, and 16 for the feed; and its flags so far by channel. -/
  cap : SMap (List Int) := []
  full : SMap Bool := []
  silent : SMap Bool := []
  muted : Bool := false
deriving DecidableEq, Repr

/-- A measurement result (R302): ARRIVAL in 16.16 samples, LEVEL and bands in 0.01 dB, FLAGS and the response. -/
structure SurveyResult where
  arrival : Nat
  level : Int
  flags : Nat
  bands : List Int
  taps : List Int
deriving DecidableEq, Repr

/-- The settings of LIVE_CONFIG (R320). -/
structure LiveCfg where
  coh : Nat := 90
  shelfMax : Nat := 300
  bandMax : Nat := 600
  rate : Nat := 100
  deadband : Nat := 25
  ttl : Nat := 120
  glaze : Nat := 4096
  alignStep : Nat := 4
  baseWin : Nat := 8
deriving DecidableEq, Repr

/-- A managed output (R309 to R315): its microphones with their LAGs, the gains of its four quantities and their baseline in
0.01 dB, A0, the last valid estimates of each quantity, and the changes made, as (boundary, quantity, amount). -/
structure LiveOut where
  managed : Bool := false
  speed : Bool := false
  mics : List (Nat × Nat) := []
  gains : List Int := [0, 0, 0, 0]
  base : List Int := [0, 0, 0, 0]
  /-- The gains that stand in the staged bank of Palette 1. -/
  alt : List Int := [0, 0, 0, 0]
  a0 : Nat := 0
  ests : List (List Int) := [[], [], [], []]
  moves : List (Nat × Nat × Nat) := []
deriving DecidableEq, Repr

/-- A timing pair (R313): d in 1/8,192 m; τ0 and τ_e in units of 2⁻⁹⁶ sample, once the baseline has ended. -/
structure Timing where
  en : Bool := false
  out : Nat := 0
  ch : Nat := 0
  d : Nat := 0
  lag : Nat := 0
  tau0 : Option Int := none
  tauE : Option Int := none
deriving DecidableEq, Repr

/-- A baseline in a pair and band: windows passed and the sum of their |H|², in units of 2⁻⁹⁶ (R314). -/
structure BaseBand where
  n : Nat := 0
  sum : Int := 0
deriving DecidableEq, Repr

/-- One change of a proposal: output, quantity (0 SHELF to 4 ALIGN), old and new value (R318). -/
structure Change where
  out : Nat
  q : Nat
  old : Int
  new : Int
deriving DecidableEq, Repr

/-- A proposal (R316, R317): its changes, whether its commit has completed and since which count, and the swap that applies
it. -/
structure Proposal where
  changes : List Change
  staged : Option Nat := none
  swapB : Option Nat := none
  passed : Nat := 0
deriving DecidableEq, Repr

/-- A Survey log record (R318). -/
structure SurveyLog where
  count : Nat
  kind : Nat
  policy : Nat
  out : Nat := 0xFFFF
  q : Nat := 0xFF
  old : Int := 0
  new : Int := 0
  temp : Nat := 0x8000
  pairs : Nat := 0
deriving DecidableEq, Repr

/-- A DESIGN under way (R305). -/
structure DesignReq where
  tok : Tok
  out : Nat
  mask : Nat
  item : Nat
  taps : Nat
  linear : Bool
  smooth : Nat
  fLo : Nat
  fHi : Nat
  boost : Nat
  cut : Nat
  points : List (Nat × Int)
deriving DecidableEq, Repr

/-- Survey beyond its registers. -/
structure SurveyPart where
  pdm : SMap PdmChain := []
  /-- The block of each Survey channel, and channels muted for a non-PCM payload (R290). -/
  chan : SMap (List Int) := []
  muted : SMap Bool := []
  /-- The RMS window of each channel: the sum of squares and the samples so far (R298). -/
  rms : SMap (Nat × Nat) := []
  /-- The Armature source code of each channel, 0 for none. -/
  srcs : SMap Nat := []
  meas : Option Meas := none
  results : SMap (Option SurveyResult) := []
  store : Option (Tok × Nat × Nat) := none
  design : Option DesignReq := none
  cfg : LiveCfg := {}
  cfgNext : Option LiveCfg := none
  policyNext : Option Nat := none
  rebaseTok : Option Tok := none
  outs : SMap LiveOut := []
  timing : SMap Timing := []
  /-- Baselines by (output × 16 + channel) × 240 + band, and c0 once the baseline has ended (R312, R314). -/
  base : SMap BaseBand := []
  c0 : Nat := 0
  /-- Audio of the window: channels 0 to 15, and 16 + o for the feed of output o, newest first; the count from which it runs
  without a break; windows analysed since the baseline began. -/
  hist : SMap (List Int) := []
  from_ : Nat := 0
  windows : Nat := 0
  /-- Channels that did not deliver their source's samples in a block of the window, as a mask. -/
  bad : Nat := 0
  /-- A measurement or another event has spoiled the window. -/
  spoiled : Bool := false
  proposal : Option Proposal := none
  /-- The host has written or committed the staged bank since the latest swap of Palette 1, and when the host last started a
  swap of it (R317). -/
  hostWrote : Bool := false
  hostSwap : Option Nat := none
  log : SMap (Option SurveyLog) := []
  logHeld : List SurveyLog := []
  logNext : Nat := 0
  tempLogAt : Nat := 0
deriving DecidableEq, Repr

/-! ### Ports and the Armature (chapter 13) -/

/-- A TDM port (R321 to R334). -/
structure TdmPort where
  /-- The configuration it runs with: CTRL, RX_MASK and TX_MASK. -/
  run : Option (Word × Word × Word) := none
  /-- It starts again at the next block boundary. -/
  restart : Bool := false
  /-- It is in a function reset (R128). -/
  inReset : Bool := false
  /-- Frames captured in the block, newest first: sample place and slot samples. -/
  frames : List (Nat × List Int) := []
  /-- The slots of the last good frame. -/
  held : List Int := []
  /-- The phase of the last frame, and the drift from the recorded one, in MEDIA cycles. -/
  last : Nat := 0
  drift : Int := 0
  /-- Its slots fade from the held values from this count on (R330). -/
  muteAt : Option Nat := none
  /-- Its slots rise from this count on over this length (R333). -/
  rise : Option (Nat × Nat) := none
  tok : Option Tok := none
deriving DecidableEq, Repr

/-- A direct path (R343, R349 to R351). -/
structure DirectPath where
  /-- Its ramp of 32 samples: from, to and first sample count. -/
  gS : Int := 2097152
  gT : Int := 2097152
  s0 : Nat := 0
  /-- Its target and mute as set. -/
  target : Int := 2097152
  mute : Bool := false
  /-- Its input port is muted. -/
  lost : Bool := false
  /-- It has found a payload, and the previous sample of its source. -/
  nonpcm : Bool := false
  prev : Int := 0
  /-- The last good word, and the word it sends, as 32 bits with the sample at the top. -/
  word : Nat := 0
  out : Nat := 0
  /-- Its output in the block so far, as (sample place, word), newest first. -/
  outs : List (Nat × Nat) := []
deriving DecidableEq, Repr

/-- A DIRECT_GAIN_SET that waits for its boundary or for its ramps to end (R350). -/
structure DirectReq where
  b : Nat
  first : Nat
  count : Nat
  gain : Int
  mute : Bool
  /-- Paths whose ramp has still to start. -/
  todo : List Nat
  tok : Tok
deriving DecidableEq, Repr

/-- A meter of a source code (R352). -/
structure SrcMeter where
  peak : Nat := 0
  /-- The last 12 samples, newest first, and the largest oversampled magnitude in units of 2⁻¹³. -/
  hist : List Int := []
  tp : Nat := 0
  /-- Sums of squares of the last blocks, newest first. -/
  powers : List Nat := []
  rms : Nat := 0x8000
  /-- Held sample peak, true peak and RMS with the counts at which they were taken. -/
  hold : Nat × Nat := (0, 0)
  holdTp : Nat × Nat := (0x8000, 0)
  holdRms : Nat × Nat := (0x8000, 0)
deriving DecidableEq, Repr

/-- The ports, the Armature, direct paths and meters. -/
structure ArmPart where
  ports : SMap TdmPort := []
  /-- The banks of Palette 2: source code, and 2³¹ for TRANSPARENT, by destination code. -/
  live : SMap Nat := []
  staged : SMap Nat := []
  commit : Option Tok := none
  /-- A ROUTE_BEGIN or ROUTE_SET has been taken since the last swap of Palette 2 (R347). -/
  edited : Bool := false
  /-- The block of each source that the Armature reads at the present boundary. -/
  src : SMap (List Int) := []
  /-- The last sample of each receive channel, and for how long a payload has marked it: the count after which no sign has been
  seen (R341). -/
  last : SMap Int := []
  marks : SMap (Option Nat) := []
  /-- Sources that rise after a mark, by the boundary (R342). -/
  rise : SMap (Option Nat) := []
  /-- The block in delivery, by destination, and the block being emitted. -/
  deliv : SMap (List Int) := []
  tx : SMap (List Int) := []
  dps : SMap DirectPath := []
  dpReqs : List DirectReq := []
  meters : SMap SrcMeter := []
  /-- Alignment groups by number, and changes that wait for their boundary: B, group, members (R339, R340). -/
  groups : SMap (List Nat) := []
  groupNext : List (Nat × Nat × List Nat × Tok) := []
deriving DecidableEq, Repr

/-! ### Network ports and streams (chapter 14) -/

/-- A frame that waits in a transmit queue: its class, its length without FCS, what leaves, and for a stream packet its stream
and the time by which its first bit is due, in PTP ns (R366, R380). -/
structure TxFrame where
  cls : Nat
  len : Nat
  msg : Msg
  stream : Option (Nat × Nat) := none
  held : Bool := false
deriving DecidableEq, Repr

/-- A network port beyond its registers. -/
structure NetPort where
  txq : List TxFrame := []
  /-- Bytes in the receive buffer, and octets counted so far below a unit of 256. -/
  fill : Nat := 0
  rxRest : Nat := 0
  txRest : Nat := 0
  /-- The operating gate list: CYCLE and BASE in ns, the start of the running cycle, and the entry held after a step of the
  counter (R368, R370). -/
  cycle : Nat := 0
  base : Nat := 0
  start : Nat := 0
  holdEntry : Option Nat := none
  /-- The change time of a pending list in ns, and whom to tell (R369). -/
  pending : Option (Nat × Option Tok) := none
  /-- Resolved addresses: MAC by IPv4 address (R382). -/
  arp : SMap (Option Nat) := []
  /-- The second of TIME cycles in which echo requests were answered last, and how many (R362). -/
  echo : Nat × Nat := (0, 0)
  /-- The port is in a function reset, and the NET_CONFIG that asked for it (R356). -/
  inReset : Bool := false
  tok : Option Tok := none
deriving DecidableEq, Repr

/-- A receive stream (R371 to R379). -/
structure RxStream where
  /-- The 13 words of the definition in force; empty before the first. -/
  defn : List Nat := []
  /-- Definitions that wait for their boundaries, earliest first. -/
  next : List (List Nat × Nat) := []
  /-- Its alignment group and the link offset with which it is captured (R339); a boundary at which that offset changes by a
  change of the group, and the new one (R340). -/
  group : Option Nat := none
  off : Nat := 0
  regroup : Option (Nat × Nat) := none
  /-- Samples that have arrived, by 64 × media time + channel, with the subframe of ST 2110-31 beside each. -/
  data : SMap (Option (Int × Nat)) := []
  /-- Samples with media times from here on may still arrive. -/
  judged : Nat := 0
  /-- Media times below that were missing when judged. -/
  lost : List Nat := []
  /-- The block judged last, one block before its release: its channels, or none when it was missing. -/
  hold : Option (List (List Int)) := none
  /-- The block released to capture, by channel. -/
  cap : List (List Int) := []
  /-- The block before the held one was complete; a complete block has been judged since the definition came into force. -/
  was : Bool := false
  begun : Bool := false
  seqA : Option Nat := none
  seqB : Option Nat := none
  lastA : Nat := 0
  lastB : Nat := 0
  lostA : Bool := false
  lostB : Bool := false
  /-- The smallest margin of the span so far (R377). -/
  margin : Option Int := none
  /-- A payload of ST 2110-31: place in the channel-status block and the non-audio bit of each channel (R341). -/
  place : SMap Nat := []
  nonAudio : SMap Bool := []
deriving DecidableEq, Repr

/-- A transmit stream (R379 to R381). -/
structure TxStream where
  defn : List Nat := []
  next : List (List Nat × Nat) := []
  /-- The media time of the first sample of its next packet. -/
  at_ : Nat := 0
deriving DecidableEq, Repr

/-- The network ports and the stream engines. -/
structure NetPart where
  ports : SMap NetPort := []
  rx : SMap RxStream := []
  tx : SMap TxStream := []
  /-- What the network transmit channels have delivered, by channel, newest first, as words with the sample at the top, and the
  count after the newest. -/
  txHist : SMap (List Nat) := []
  txEnd : Nat := 0
deriving DecidableEq, Repr

/-! ### Brush cores (chapter 15) -/

/-- A write that an instruction has issued and that has still to land (R391). -/
inductive BcOp where
  /-- A register of R405 by its code. -/
  | scalar (code v : Nat)
  /-- The four lanes of a vector register, or one of them. -/
  | lanes (reg : Nat) (vs : List Int)
  | lane (reg i : Nat) (v : Int)
  /-- An accumulator is set, added to, or takes a half of a lane (R394, R405). -/
  | accSet (a : Nat) (vs : List Int)
  | accAdd (a : Nat) (vs : List Int)
  | accHalf (a lane half v : Nat)
  /-- Bits of SR under a mask. -/
  | flags (mask bits : Nat)
deriving DecidableEq, Repr

/-- The cycle from which a write is seen, and the write. -/
structure BcWrite where
  from_ : Nat
  op : BcOp
deriving DecidableEq, Repr

/-- A physical Brush core beyond its control registers and memories (R390). -/
structure BrushCore where
  /-- Scalar registers by the codes of R405, as words; vector registers 0–15 and accumulators 0–3 with four lanes. -/
  sc : SMap Nat := []
  vec : SMap (List Int) := []
  acc : SMap (List Int) := []
  /-- PC of the next instruction, the core's cycle count, and how often the instruction at PC is still to issue under REP. -/
  pc : Nat := 0
  cycle : Nat := 0
  rep : Nat := 0
  /-- A halt request waits for the end of a REP (R414). -/
  halt : Bool := false
  /-- Writes in flight, in the order issued. -/
  writes : List BcWrite := []
  /-- The slot of the running task. -/
  task : Option Nat := none
  /-- The PC of a DONE whose wait an interrupt has broken off, and to which RTI returns (R413, R434). -/
  waited : Option Nat := none
deriving DecidableEq, Repr

/-- A transfer under way (R418): fabric address, DM address, words and direction. -/
structure Xfer where
  addr : Nat
  dm : Nat
  count : Nat
  toFabric : Bool
deriving DecidableEq, Repr

/-- A mailbox pair between the control processors and a group (R417). -/
structure BrushMbx where
  c2b : Nat := 0
  c2bFull : Bool := false
  b2c : Nat := 0
  b2cFull : Bool := false
  /-- The logical core that owns it. -/
  owner : Option Nat := none
deriving DecidableEq, Repr

/-- A bound buffer (R415): logical core and DM address, and whether firmware bound it. -/
structure BrushBind where
  core : Nat
  dm : Nat
  fw : Bool := false
deriving DecidableEq, Repr

/-- A parameter block (R416): logical core, slot, size, and the bases of its live and its other bank. -/
structure ParamBlock where
  core : Nat
  slot : Nat
  size : Nat
  live : Nat
  old : Nat
deriving DecidableEq, Repr

/-- A migration of a group (R423): unit and spare by physical number, the step, its anchor or C1, restarts in a row, whether
a comparison has differed since C1, and whom to tell (R522). -/
structure Migration where
  unit : Nat
  spare : Nat
  step : Nat
  at_ : Nat
  tries : Nat := 0
  diff : Bool := false
  cold : Bool := false
  /-- A patrol, which makes no swap unless something differs; the unit is retired without a test (R515, R516, R518). -/
  patrol : Bool := false
  retire : Bool := false
  tok : Option Tok := none
deriving DecidableEq, Repr

/-- The Brush cores beyond their registers. -/
structure BrushPart where
  /-- Logical cores that customer brushwork holds, and those that firmware has reserved (R38, R419, R422). -/
  custom : List Nat := []
  fw : List Nat := []
  /-- Physical cores; IM by 16,384 × core + word, DM by 32,768 × core + word, and faults of DM words by the same place: 1 a
  single-bit error, 2 uncorrectable (R388). -/
  cores : SMap BrushCore := []
  im : SMap Word := []
  dm : SMap Word := []
  ecc : SMap Nat := []
  /-- Transfers by 4 × core + channel. -/
  xfers : SMap (Option Xfer) := []
  mbx : SMap BrushMbx := []
  /-- Bound buffers, by number; output buffers from 256 on. -/
  binds : SMap (Option BrushBind) := []
  params : SMap (Option ParamBlock) := []
  /-- A PARAM_COMMIT that runs, and the boundary and Glaze length of the last swap of Palette 3. -/
  commit : Option Tok := none
  glaze : Option (Nat × Nat) := none
  /-- BRUSH_STARTs and BRUSH_BUFFER_SETs that wait for their boundaries: boundary, logical core and entry PC; boundary, buffer
  and binding. -/
  starts : List (Nat × Nat × Nat) := []
  newBinds : List (Nat × Nat × Option BrushBind) := []
  /-- Fades of outputs (by number) and monitor channels (512 and up) whose brushwork a reset or a missing core ends: whether to zero,
  first sample and length (R128, R521). -/
  fades : SMap (Option (Bool × Nat × Nat)) := []
  /-- Migrations by group. -/
  mig : SMap (Option Migration) := []
  /-- The blocks that the Brush input buffers received, and those of the output buffers completed last (R336). -/
  inBufs : SMap (List Int) := []
  outBufs : SMap (List Int) := []
deriving DecidableEq, Repr

/-! ### Atelier and the fabric (chapter 16) -/

/-- A task slot (R426, R427, ATELIER_SLOTs). -/
structure AtSlot where
  desc : List Nat := []
  /-- 0 FREE, 1 WAIT_TIME, 2 WAIT_DEP, 3 READY, 4 RUNNING, 5 FINISHED, 6 PERIODIC_IDLE. -/
  state : Nat := 0
  gen : Nat := 0
  dep : Nat := 0
  seq : Nat := 0
  retried : Bool := false
  core : Nat := 0x7F
  /-- The master port that posted it. -/
  poster : Nat := 0
  /-- It releases no further instances. -/
  last : Bool := false
deriving DecidableEq, Repr

/-- A decision that may be traced: EVENT, REASON, the slot with what it holds, logical core and port (R443). -/
structure AtEvent where
  event : Nat
  reason : Nat
  slot : Nat
  info : AtSlot
  core : Nat
  port : Nat
deriving DecidableEq, Repr

/-- A DRAM request held at its port (R447, R448): port, ID, address, bytes to write or none, and bytes to read. -/
structure HeldReq where
  port : Nat
  id : Nat
  addr : Nat
  data : Option (List Byte)
  len : Nat
deriving DecidableEq, Repr

/-- Atelier and the fabric beyond their registers. -/
structure AtelierPart where
  slots : SMap AtSlot := []
  /-- Ready lists by priority, first in first out. -/
  ready : SMap (List Nat) := []
  /-- SEQs released as holes and still to come, by 32,768 × flow + SEQ (R438). -/
  holes : SMap Bool := []
  /-- Completion entries not yet read, oldest first (R437). -/
  done : List Nat := []
  /-- Decisions of this step that are still to be traced, and records dropped since the last one written (R443). -/
  trace : List AtEvent := []
  gap : Nat := 0
  /-- Requests held at their ports, oldest first. -/
  held : List HeldReq := []
deriving DecidableEq, Repr

/-! ### DRAM, flash storage and check-value scanning (chapter 17) -/

/-- The addressed memories of the module: DRAM by fabric address (R449) and studio SRAM by fabric address (R535), each in
the canonical form of a sparse map of bytes. -/
structure Mem where
  dram : SMap Byte := []
  sram : SMap Byte := []
deriving DecidableEq, Repr

/-- The DRAM controller beyond its registers. -/
structure MemcPart where
  /-- The lines that wait in each channel's write queue, oldest first (R458). -/
  wq : SMap (List Nat) := []
  /-- The open row of each bank, by 16 × channel + bank (R458). -/
  open_ : SMap (Option Nat) := []
  /-- Faults of 8-byte words, by address / 8: 1 a single-bit error, 2 uncorrectable (R454, R455). -/
  ecc : SMap Nat := []
  /-- The boundary from which a copied spare row may be read, by 32 × channel + entry (R456). -/
  remapAt : SMap (Option Nat) := []
  /-- Trained write delays by byte lane (R453). -/
  trained : SMap Nat := []
  /-- Devices that report more than 85 °C, by channel (R458). -/
  hot : SMap Bool := []
  /-- The line the patrol scrub reads next, and the words of the last one that it has corrected and not yet written back
  (R457). -/
  scrubAt : Nat := 0
  scrubFix : List Nat := []
deriving DecidableEq, Repr

/-- A flash operation under way (R460): its die, unit, and whether it erases. -/
structure FlashOp where
  die : Nat
  unit : Nat
  erase : Bool
deriving DecidableEq, Repr

/-- A library item (R468). -/
structure LibItem where
  num : Nat
  kind : Nat
  data : List Byte
  crc : Nat
  /-- Pages of 16 KiB that cannot be corrected (R470). -/
  damaged : List Nat := []
deriving DecidableEq, Repr

/-- An open library write (R469). -/
structure LibWrite where
  session : Nat
  num : Nat
  kind : Nat
  size : Nat
  data : List Byte := []
  /-- Its commit is accepted: who is told, and the check value. -/
  commit : Option (Tok × Nat) := none
deriving DecidableEq, Repr

/-- The last committed show, as the configuration store keeps it for step 11 of start-up (R121): the live banks of Palettes 0 to
2. -/
structure Show where
  layout : Layout
  chains : SMap ChainSet
  routes : SMap Nat
deriving DecidableEq, Repr

/-- The flash controller and the library beyond the registers. -/
structure FlashPart where
  ops : List FlashOp := []
  /-- Units whose contents are to be relocated (R463 to R465), and those retired on arrival. -/
  reloc : List (Nat × Bool) := []
  /-- Units erased and not yet scrubbed (R465). -/
  erased : List Nat := []
  /-- Erased pSLC pages kept for the shutdown record, the record written last, and whether a start has not yet found it
  (R466). -/
  recPages : Nat := 4
  record : Option (List Nat) := none
  missed : Bool := false
  lib : List LibItem := []
  writes : List LibWrite := []
  /-- Units by which the library has shrunk (R465). -/
  lost : Nat := 0
  /-- The committed show that is stored, and whether one waits for flash to take programs again (R121, R466). -/
  saved : Option Show := none
  showDue : Bool := false
deriving DecidableEq, Repr

/-- The CRC scan engine beyond its registers: whose command asked for the scan of a channel, the master that wrote its GO,
and whether its region has been written since (R473). -/
structure CrcPart where
  tok : SMap (Option Tok) := []
  dirty : SMap Bool := []
deriving DecidableEq, Repr

/-! ### Twin operation (chapter 18) -/

/-- A firmware library write of a block (R481). -/
structure LibCopy where
  num : Nat
  kind : Nat
  data : List Byte
deriving DecidableEq, Repr

/-- Survey's live state as a mirror set carries it, with its log (R481). -/
structure SurveyLive where
  outs : SMap LiveOut := []
  timing : SMap Timing := []
  base : SMap BaseBand := []
  c0 : Nat := 0
  proposal : Option Proposal := none
  log : SMap (Option SurveyLog) := []
  logNext : Nat := 0
deriving DecidableEq, Repr

/-- A mirrored command: opcode, packet and the status returned (R481). -/
structure MirrorCmd where
  opcode : Nat
  packet : Packet
  status : Nat
deriving DecidableEq, Repr

/-- The items of a mirror set (R481), and the firmware version that the partner runs (R496). -/
structure MirrorItems where
  cmds : List MirrorCmd := []
  libs : List LibCopy := []
  survey : Option SurveyLive := none
  /-- Persistent regions by number, as their words (R486). -/
  regions : List (Nat × List Word) := []
  version : Word := 0
deriving DecidableEq, Repr

/-- What a RESYNC_DATA frame carries (R484). -/
inductive ResyncPart where
  | layouts (live staged : Layout)
  | objects (l : SMap ObjLive)
  | chains (live staged : SMap ChainSet)
  | routes (live staged : SMap Nat)
  | params (core dm : Nat) (words : List Word)
  | regs (l : List (Nat × Word))
  | rxStream (s : Nat) (defn : List Nat)
  | txStream (s : Nat) (defn : List Nat)
  | groups (l : SMap (List Nat))
  | pair (n : Nat) (s : PairSet)
  | mix (n : Nat) (s : MixSet)
  | item (x : LibCopy)
  | survey (x : SurveyLive)
  | region (n : Nat) (words : List Word)
deriving DecidableEq, Repr

/-- The partner as its last frame showed it: state, P2 MAC address, epoch, flags and the TIME cycle of its arrival. -/
structure Partner where
  state : Nat
  mac : Nat
  epoch : Nat
  flags : Nat
  at_ : Nat
deriving DecidableEq, Repr

/-- The fragments of a mirror set received so far (R480): index and payload; the set's length, its last index and check value once
the last fragment is there; and the flags it carries. -/
structure SetParts where
  block : Nat
  parts : List (Nat × List Byte) := []
  len : Nat := 0
  last : Option (Nat × Nat) := none
  flags : Nat := 0
deriving DecidableEq, Repr

/-- A switch-over under way (R492): boundary B, Glaze length G, whether this module is the one that plays before B, whether the
partner's engines have started, whether B has passed, and whom to tell. -/
structure SwitchRun where
  b : Nat
  g : Nat
  mine : Bool
  prepared : Bool := false
  faded : Bool := false
  past : Bool := false
  tok : Option Tok := none
deriving DecidableEq, Repr

/-- Twin operation beyond its registers. -/
structure TwinPart where
  partner : Option Partner := none
  /-- Sets in reception, and complete sets that have still to be applied, oldest first: block, length and flags (R483). -/
  sets : List SetParts := []
  ready : List (Nat × Nat × Nat) := []
  /-- Consecutive missing sets, the first sample of the first of them, and whether the module was READY before it (R488, R490). -/
  missed : Nat := 0
  from_ : Option Nat := none
  wasReady : Bool := false
  /-- A full resync runs, with whom to tell (R484). -/
  resync : Bool := false
  tok : Option Tok := none
  /-- The anchor of a takeover that is due, the decision boundary of R490, and the anchor of the takeover that runs (R489, R491). -/
  due : Option Nat := none
  decide_ : Option Nat := none
  anchor : Option Nat := none
  /-- Streams are released and shared TDM ports driven in a takeover that runs. -/
  released : Bool := false
  /-- RELINQUISH or TWIN_FORCE has decided D. -/
  fixed : Bool := false
  switch : Option SwitchRun := none
  /-- The block boundary at which the module stands down (R494). -/
  down : Option Nat := none
  /-- The latest media time of a witness packet (R490). -/
  witness : Option Nat := none
  /-- Declared persistent regions: core, DM address and words (R486). -/
  persist : SMap (Option (Nat × Nat × Nat)) := []
  /-- The mirrored commands of the block in hand, and firmware library writes (R481). -/
  cmds : List MirrorCmd := []
  libs : List LibCopy := []
  /-- Survey's live state as it was sent last. -/
  sent : SurveyLive := {}
  /-- Replies, and notices behind them, that wait for the ACK of a block's set or for an anchor (R485, R497). -/
  replies : List (Nat × Msg) := []
  /-- RENDER_OVERRUN, OUTPROC_OVERRUN and ATELIER_FAULTED as the last set saw them (R480). -/
  overruns : Nat := 0
  faulted : Nat := 0
deriving DecidableEq, Repr

/-! ### Firmware delivery (chapter 19) -/

/-- A firmware image that a flash area holds (R498): its bytes, its digest, FW_VERSION and SVN. -/
structure Image where
  data : List Byte
  digest : List Byte
  version : Nat
  svn : Nat
deriving DecidableEq, Repr

/-- A reception slot (R500): its state as UPDATE_SLOTk_STATE codes it, the announced length and digest, the bytes received in
order; the host session that sends it, or none and the upstream's transfer number; whom to tell; the TIME cycle of the last data;
and its place in the order of verifications (R502). -/
structure UpSlot where
  state : Nat := 0
  length : Nat := 0
  digest : List Byte := []
  data : List Byte := []
  session : Option Nat := none
  xfer : Nat := 0
  tok : Option Tok := none
  at_ : Nat := 0
  order : Nat := 0
deriving DecidableEq, Repr

/-- A downstream peer in this session (R504, R505): the bytes it has acknowledged and those sent, the TIME cycles of its last ACK and of
the last that advanced, when it was found BUSY or UNREACHABLE, and what it reports. -/
structure UpPeer where
  xfer : Nat := 0
  offered : Bool := false
  acked : Nat := 0
  sent : Nat := 0
  lastAck : Nat := 0
  advance : Nat := 0
  waitAt : Option Nat := none
  cause : Nat := 0
  version : Nat := 0
deriving DecidableEq, Repr

/-- A scheduled activation (R506): the image, whether it is the previous one, T in PTP ns (none: at once, R510), whether step 1 has
passed, whether T has passed, and whom to tell. -/
structure UpSched where
  image : Image
  back : Bool
  t : Option Nat
  checked : Bool := false
  running : Bool := false
  tok : Option Tok := none
deriving DecidableEq, Repr

/-- Firmware delivery beyond its registers. -/
structure UpdatePart where
  slots : SMap UpSlot := []
  /-- The winner with its slot; the active image, none for that of the factory; the previous image with the slot it lies in. -/
  winner : Option (Nat × Image) := none
  active : Option Image := none
  prev : Option (Nat × Image) := none
  sched : Option UpSched := none
  peers : SMap UpPeer := []
  /-- The number of receptions completed so far, and the transfer number used last. -/
  order : Nat := 0
  xfer : Nat := 0
  /-- Brush groups that still run firmware brushwork loaded before the activation (R508). -/
  pending : List Nat := []
deriving DecidableEq, Repr

/-! ### Health, spares and Smudge (chapter 20) -/

/-- A ledger record (R528). -/
structure LedgerRec where
  count : Nat
  kind : Nat
  res : Nat
  unit : Nat
  detail : Nat
  value : Int
  smudge : Bool := false
  nondet : Bool := false
deriving DecidableEq, Repr

/-- What the unit table holds of a unit (R527, R529, R534): state 0 in service, 1 spare, 2 suspect, 3 standing in or stood
in for, 4 retired. -/
structure UnitRec where
  state : Nat := 0
  differ : Nat := 0
  corrected : Nat := 0
  selftest : Nat := 0
  retiredAt : Nat := 0
deriving DecidableEq, Repr

/-- A patrol or sparing of a render unit or a Brush core under way (R515, R517): the unit's lanes or core, the spare lanes
or core, the boundary of its copy, whether it is a return shadow, and the lanes found different. -/
structure Patrol where
  lanes : List Nat
  spares : List Nat
  at_ : Nat
  back : Bool := false
  tok : Option Tok := none
  differ : List Nat := []
deriving DecidableEq, Repr

/-- A freed unit that runs known-answer tests (R517, R518): resource 1 lane or 3 core, unit, runs passed, who is told. -/
structure Qualify where
  res : Nat
  unit : Nat
  runs : Nat := 0
  tok : Option Tok := none
deriving DecidableEq, Repr

/-- A near row being spared or spared (R519): its bank and row, the spare row, where step 1 began, and whether reads have
moved. -/
structure NearSpare where
  bank : Nat
  row : Nat
  spare : Nat
  at_ : Nat
  active : Bool := false
deriving DecidableEq, Repr

/-- A Smudge class that arms or disarms at a boundary, with whom to tell (R531). -/
structure SmudgeDue where
  b : Nat
  cls : Nat
  on : Bool
  regs : List (Nat × Word)
  tok : Option Tok
deriving DecidableEq, Repr

/-- Patina and Smudge beyond their registers. -/
structure HealthPart where
  /-- The ledger ring by record index, and records held under VIN_WARN (R528). -/
  ledger : SMap (Option LedgerRec) := []
  held : List LedgerRec := []
  /-- The unit table, by 65,536 × RESOURCE + unit (R527, R529). -/
  units : SMap UnitRec := []
  /-- TIME cycles at which corrected reads or uncorrectable words were seen, by resource key (R513). -/
  seen : SMap (List Nat) := []
  /-- Blocks since each spare's last patrol started (0 RE8, 1 to 4 the groups), and the unit it patrols next: RE8's engine, the
  groups' cores, and under 5 RE8's single lane (R515). -/
  wait : SMap Nat := []
  nextUnit : SMap Nat := []
  patrols : List Patrol := []
  qualify : List Qualify := []
  /-- TIME cycle at which a lane returned, or a core qualified (R517, R518). -/
  returned : SMap Nat := []
  /-- The core that replaced a qualified one (R518). -/
  partner : SMap Nat := []
  nearRows : List NearSpare := []
  /-- Rows already suspect, by resource key, and entries whose table word is to be rewritten (R513). -/
  suspects : List Nat := []
  tableBad : List (Nat × Nat × Option Nat × Nat) := []
  /-- Smallest horizontal margin of the hour by lane, and the TIME cycle at which its hour began (R520). -/
  marginMin : SMap Nat := []
  marginAt : SMap Nat := []
  /-- Blocks that a function has missed in a row (R522). -/
  missed : SMap Nat := []
  /-- Logical cores marked NONDET (R516). -/
  nondet : List Nat := []
  /-- The Smudge challenge: session, V, and the TIME cycle of its issue (R530). -/
  chal : Option (Nat × Word × Nat) := none
  /-- Maintenance mode: its session and the TIME cycle at which it ends (R530). -/
  maint : Option (Nat × Nat) := none
  due : List SmudgeDue := []
  lfsr : Word := 1
  /-- Lanes whose entries are silent because no spare was free, and whether their entries are still to be placed anew; logical
  cores whose work has ended for want of a core (R521). -/
  silent : List Nat := []
  replace_ : Bool := false
  dead : List Nat := []
deriving DecidableEq, Repr

/-! ### The whole block but DRAM, studio SRAM and the queue -/

/-- Everything the spec gives the module beside DRAM, studio SRAM and the queue of waiting commands. Registers stand in
`regs` by BAR0 offset; what the chapters give beside the registers stands in the parts. -/
structure Core where
  /-- Registers, by BAR0 offset; an unlisted one reads its value after reset. -/
  regs : SMap Word := []
  /-- SNAP shadow words, by master port and offset (R12). -/
  shadow : SMap Word := []
  /-- Everything sent so far, oldest first. -/
  outbox : List Msg := []
  /-- The number of free values used so far (the model's own field). -/
  freeIx : Nat := 0
  power : Power := {}
  host : HostPart := {}
  clk : Clk := {}
  time : TimePart := {}
  cfg : ConfigStore := {}
  scene : ScenePart := {}
  cal : CalPart := {}
  ren : RenPart := {}
  mon : MonPart := {}
  out : OutPart := {}
  memc : MemcPart := {}
  flash : FlashPart := {}
  crc : CrcPart := {}
  health : HealthPart := {}
  brush : BrushPart := {}
  atl : AtelierPart := {}
  survey : SurveyPart := {}
  arm : ArmPart := {}
  net : NetPart := {}
  twin : TwinPart := {}
  update : UpdatePart := {}
deriving DecidableEq, Repr

end Sys2Proof.Machine
end

