-- ==== Sys2Proof/Syntax.lean ====
section
/-! DEFINITION. The commands of the block: one constructor for every row of the command table, with its operands. An Easel opcode
carries its packet; an event carries what the world outside brings with it. -/

namespace Sys2Proof

/-- A command. -/
inductive Instr where
  | registerWrite (m : Nat) (off : Nat) (v : Word)
  | readClear (m : Nat) (off : Nat)
  | snapshotRead (m : Nat) (off : Nat)
  | gatedAccessClear (m : Nat) (v : Word)
  | bar0DeniedClear (m : Nat) (v : Word)
  | noPathClear (m : Nat) (v : Word)
  | blockBoundary (env : BlockEnv)
  | vinRise
  | startThresholdMet (vioSel : Bool)
  | railsInRegulation (boot : Bool) (p3 : Bool) (addr : Nat)
  | tcxoStartCheck
  | bootStage (primaryOk : Bool) (secondaryOk : Bool)
  | gessoStart
  | dramTrainingDone (lanes : List (List Nat))
  | holdupCharged
  | firmwareHandoff (imageOk : Bool) (prevOk : Bool)
  | pcieEndpointReady
  | startReady (ms : Nat)
  | mediaStart
  | vinWarnSet
  | vinWarnClear
  | vinOff
  | resetNAssert
  | resetNRelease (boot : Bool) (p3 : Bool) (addr : Nat)
  | wakeNFall
  | wakeAtReached
  | pciePerstAssert
  | pciePerstRelease
  | pcieConfigRequest (reg : Nat)
  | smbusReadByte (addr : Nat) (code : Nat) (extra : Nat)
  | smbusReadWord (addr : Nat) (code : Nat) (extra : Nat)
  | smbusWrite (addr : Nat)
  | smbusAlertResponse
  | smbusRefresh (vin : Nat) (pin : Nat)
  | tempMeasure (die : Int) (board : Int)
  | muteAndHold
  | thermalResume
  | sfpModuleInsert (p : Nat) (los : Bool) (id : List Byte)
  | sfpModuleRemove (p : Nat)
  | tcxoQualify (confirmed : Bool)
  | refInLoss
  | refInMeasurement (off : Int)
  | refQualify
  | dpllLock
  | drefWrite (m : Nat) (v : Word)
  | tcxoMonitorTrip
  | corePllLoss
  | serdesPllLoss (port : Nat)
  | hostClockLoss
  | mediaMonitorTrip
  | aonMonitorTrip
  | clkSwitchGo (m : Nat) (v : Word)
  | mediaSwitchWrite (m : Nat) (v : Word)
  | mediaSwitch
  | clkEnWrite (m : Nat) (k : Nat) (v : Word)
  | pdWakeDone (pd : Nat)
  | clkoutCtrlWrite (m : Nat) (n : Nat) (v : Word)
  | aonTrimGate (err : Int) (fsyncOk : Bool)
  | ptpAnnounceReceive (port : Nat) (domain : Nat) (l : Leader)
  | ptpSyncReceive (port : Nat) (domain : Nat) (sender : Nat) (seq : Nat) (twoStep : Bool) (t1 : Int) (corr : Int) (t2 : Int)
  | ptpFollowUpReceive (port : Nat) (domain : Nat) (sender : Nat) (seq : Nat) (t1 : Int) (corr : Int)
  | ptpDelayRespReceive (port : Nat) (domain : Nat) (sender : Nat) (seq : Nat) (t4 : Int) (corr : Int) (interval : Int)
  | ptpDelayReqSend (port : Nat) (t3 : Int)
  | ptpDelayReqReceive (port : Nat) (domain : Nat) (sender : Nat) (seq : Nat) (t4 : Int)
  | ptpAnnounceSend (port : Nat)
  | ptpSyncSend (port : Nat) (t1 : Int)
  | announceReceiptTimeout (port : Nat)
  | syncTimeout
  | servoLock
  | servoUnlock
  | stepAcceptSlew (m : Nat) (v : Word)
  | stepAcceptRealign (m : Nat) (v : Word)
  | realignment
  | timeConfig (p : Packet)
  | timeStatusGet (p : Packet)
  | timeStepAccept (p : Packet)
  | timeSet (p : Packet)
  | pulseProgram (p : Packet)
  | tsinRead (p : Packet)
  | pulseArm (m : Nat) (n : Nat) (v : Word)
  | pulseStop (m : Nat) (n : Nat) (v : Word)
  | pulseEdge (n : Nat)
  | tsinCapture (n : Nat) (rising : Bool) (off : Nat) (phase : Nat)
  | tsinFifoPop (m : Nat) (n : Nat)
  | backupTimeCopy
  | sysStateGet (p : Packet)
  | sysStandby (p : Packet)
  | sysRestart (p : Packet)
  | funcReset (p : Packet)
  | wakeTolSet (p : Packet)
  | outputRelease (p : Packet)
  | startConfigSet (p : Packet)
  | mediaRateSet (p : Packet)
  | outputReleaseGo (m : Nat) (v : Word)
  | resetCtrlRestart (m : Nat) (v : Word)
  | resetCtrlModuleReset (m : Nat) (v : Word)
  | moduleReset
  | controlPlaneRestartEnd
  | funcResetGo (m : Nat) (v : Word)
  | funcResetDone (ok : Bool)
  | standbyRunGo (m : Nat) (v : Word)
  | standbyQuietGo (m : Nat) (v : Word)
  | standbyDeepGo (m : Nat) (v : Word)
  | quietStandbyEntry
  | quietStandbyExit
  | deepStandbyEntry
  | ipv4FragmentReceive (src : Nat) (ident : Nat) (offset : Nat) (bytes : List Byte) (more : Bool)
  | ipReassemblyTimeout (src : Nat) (ident : Nat)
  | hostCmdProdWrite (m : Nat) (v : Word) (bytes : List Byte)
  | replyRingConsume (m : Nat) (v : Word)
  | udpSessionTimeout (num : Nat)
  | sessionOpen (p : Packet)
  | sessionClose (p : Packet)
  | ping (p : Packet)
  | eventSubscribe (p : Packet)
  | sessionLevel (p : Packet)
  | timedCancel (p : Packet)
  | timedCommit
  | timedExecute
  | mbxH2fWrite (m : Nat) (n : Nat) (v : Word)
  | mbxF2hAck (m : Nat) (n : Nat) (v : Word)
  | mbxCommandTake (n : Nat)
  | mbxEventPost (n : Nat) (k : Nat)
  | mbxStall (n : Nat)
  | dbMaskWrite (m : Nat) (v : Word)
  | holdAcquire (m : Nat) (n : Nat)
  | holdRelease (m : Nat) (n : Nat) (v : Word)
  | bar2BaseWrite (m : Nat) (v : Word)
  | bar2Access (y : Nat) (write : Bool) (bytes : List Byte) (n : Nat)
  | objectDefine (p : Packet)
  | objectGet (p : Packet)
  | objectDisableAll (p : Packet)
  | positionStream (p : Packet)
  | objectStateGet (p : Packet)
  | positionBucketRefill
  | layoutBegin (p : Packet)
  | speakerDefine (p : Packet)
  | zoneDefine (p : Packet)
  | layoutTempRange (p : Packet)
  | layoutCommit (p : Packet)
  | layoutCommitDone
  | layoutAdmissionGet (p : Packet)
  | speakerGet (p : Packet)
  | soundSpeedSet (p : Packet)
  | soundSpeedGet (p : Packet)
  | caliperSnapshot
  | targetHandover
  | paletteStatusGet (p : Packet)
  | paletteSwap (p : Packet)
  | swapPrepare
  | paletteSwapExecute
  | glazeEnd
  | maquetteSet (p : Packet)
  | caliperConfig (p : Packet)
  | caliperCountersGet (p : Packet)
  | farWindowArrive (engine : Nat) (index : Nat)
  | farWindowLate (engine : Nat) (index : Nat)
  | renderSumsComplete
  | renderOverrun (engine : Nat) (done : List Nat)
  | renderSpareSwap
  | renderStatusGet (p : Packet)
  | contribRead (p : Packet)
  | contribFind (p : Packet)
  | expertObjectSet (p : Packet)
  | contribWrite (p : Packet)
  | nearRead (p : Packet)
  | renderCountersGet (p : Packet)
  | clipCountsGet (p : Packet)
  | renderUncorrClear (m : Nat) (v : Word)
  | sceneBusDefine (p : Packet)
  | sceneBusGet (p : Packet)
  | bedDefine (p : Packet)
  | bedGet (p : Packet)
  | binauralSet (p : Packet)
  | binauralChange (p : Nat)
  | binauralGet (p : Packet)
  | downmixSet (p : Packet)
  | downmixChange (m : Nat)
  | downmixGet (p : Packet)
  | loudnessConfig (p : Packet)
  | loudnessGet (p : Packet)
  | loudnessReset (p : Packet)
  | loudnessGatingBlock (q : Nat)
  | firTailFrame (o : Nat)
  | tailOverrun (o : Nat)
  | outchainBegin (p : Packet)
  | outchainSet (p : Packet)
  | biquadSet (p : Packet)
  | firSet (p : Packet)
  | varnishSet (p : Packet)
  | outchainCommit (p : Packet)
  | outchainCommitDone
  | outchainGet (p : Packet)
  | outputMute (p : Packet)
  | muteApply (o : Nat)
  | muteFadeEnd (o : Nat)
  | outchainMetersGet (p : Packet)
  | lastClipClear (m : Nat) (v : Word)
  | surveyStatusGet (p : Packet)
  | measureStart (p : Packet)
  | measureBegin
  | measureTurnEnd
  | turnResultsDone
  | measureComplete
  | measureAbort (p : Packet)
  | resultGet (p : Packet)
  | resultBandsGet (p : Packet)
  | resultStore (p : Packet)
  | resultStoreDone
  | design (p : Packet)
  | designDone
  | liveConfig (p : Packet)
  | liveOutputSet (p : Packet)
  | liveTimingSet (p : Packet)
  | livePolicySet (p : Packet)
  | liveRebase (p : Packet)
  | proposalGet (p : Packet)
  | proposalApply (p : Packet)
  | proposalDiscard (p : Packet)
  | surveyWindowEnd
  | proposalCommitDone
  | proposalExpire
  | surveyLogFlush
  | surveyLogRead (p : Packet)
  | surveyLogInfo (p : Packet)
  | detectorGet (p : Packet)
  | detectorConfig (p : Packet)
  | detectorRmsWindow (n : Nat)
  | pdmConfig (p : Packet)
  | pdmFirLoad (p : Packet)
  | pdmHoldEnd (n : Nat)
  | pdmStuck (n : Nat)
  | portConfig (p : Packet)
  | portStatusGet (p : Packet)
  | tdmFrame (p : Nat) (j : Nat) (edge : Bool) (gapless : Bool) (phase : Nat) (ws : List Nat)
  | tdmLeaderFrame (p : Nat) (j : Nat) (ws : List Nat)
  | tdmLoss (p : Nat) (j : Nat)
  | tdmRateRun (p : Nat) (j : Nat) (cycles : Nat)
  | tdmResume (p : Nat)
  | nonpcmHoldExpire (num : Nat)
  | nonpcmRecordClear (m : Nat) (v : Word)
  | directPathWord (n : Nat) (j : Nat) (raw : Nat)
  | routeBegin (p : Packet)
  | routeSet (p : Packet)
  | routeCommit (p : Packet)
  | routeCommitDone
  | routeGet (p : Packet)
  | routeNow (p : Packet)
  | directGainSet (p : Packet)
  | directGainChange (n : Nat)
  | directGet (p : Packet)
  | groupSet (p : Packet)
  | groupChange (g : Nat)
  | meterGet (p : Packet)
  | meterConfig (p : Packet)
  | meterHoldReset (p : Packet)
  | meterHoldExpire (num : Nat) (which : Nat)
  | nonpcmGet (p : Packet)
  | linkUp (p : Nat)
  | linkDown (p : Nat)
  | ethernetFrameReceive (p : Nat) (len : Nat) (fcs : Nat) (before : Nat) (bytes : List Byte)
  | pauseRepeat (p : Nat)
  | pauseFrameReceive (p : Nat) (quanta : Nat)
  | arpRequestReceive (p : Nat) (ip : Nat)
  | arpReplyReceive (p : Nat) (ip : Nat) (mac : Nat)
  | arpRefresh (p : Nat)
  | icmpEchoReceive (p : Nat) (dst : Nat) (data : List Byte)
  | igmpQueryReceive (p : Nat)
  | rtpPacketReceive (p : Nat) (x : Rtp) (j : Nat)
  | streamLegLoss (num : Nat) (leg : Nat)
  | marginSpanEnd (num : Nat)
  | streamPacketQueue (num : Nat)
  | frameTransmit (p : Nat)
  | gateGo (p : Nat) (m : Nat) (v : Word)
  | gateChangeTime (p : Nat)
  | gateCycleStart (p : Nat)
  | streamDefinitionApply (rx : Bool) (num : Nat)
  | maxFrameWrite (p : Nat) (m : Nat) (v : Word)
  | netCtrlWrite (p : Nat) (m : Nat) (v : Word)
  | netConfig (p : Packet)
  | netStatusGet (p : Packet)
  | netPauseSet (p : Packet)
  | netGateSet (p : Packet)
  | netGateGet (p : Packet)
  | streamRxSet (p : Packet)
  | streamRxGet (p : Packet)
  | streamTxSet (p : Packet)
  | streamTxGet (p : Packet)
  | streamStatsGet (p : Packet)
  | bcNop (k : Nat)
  | bcMac (k : Nat)
  | bcMsu (k : Nat)
  | bcMpy (k : Nat)
  | bcClr (k : Nat)
  | bcAdda (k : Nat)
  | bcSuba (k : Nat)
  | bcRnd (k : Nat)
  | bcTrn (k : Nat)
  | bcHsum (k : Nat)
  | bcAccmov (k : Nat)
  | bcVadd (k : Nat)
  | bcVsub (k : Nat)
  | bcVand (k : Nat)
  | bcVor (k : Nat)
  | bcVxor (k : Nat)
  | bcVneg (k : Nat)
  | bcVabs (k : Nat)
  | bcVmax (k : Nat)
  | bcVmin (k : Nat)
  | bcVasr (k : Nat)
  | bcVasrr (k : Nat)
  | bcVshl (k : Nat)
  | bcVmov (k : Nat)
  | bcVrot (k : Nat)
  | bcLdi (k : Nat)
  | bcMov (k : Nat)
  | bcAdd (k : Nat)
  | bcSub (k : Nat)
  | bcAnd (k : Nat)
  | bcOr (k : Nat)
  | bcXor (k : Nat)
  | bcShl (k : Nat)
  | bcShr (k : Nat)
  | bcAsr (k : Nat)
  | bcCmp (k : Nat)
  | bcMul (k : Nat)
  | bcLds (k : Nat)
  | bcSts (k : Nat)
  | bcLdc (k : Nat)
  | bcStc (k : Nat)
  | bcXget (k : Nat)
  | bcXput (k : Nat)
  | bcAccget (k : Nat)
  | bcAccput (k : Nat)
  | bcBra (k : Nat)
  | bcJsr (k : Nat)
  | bcRet (k : Nat)
  | bcRep (k : Nat)
  | bcDo (k : Nat)
  | bcPoll (k : Nat)
  | bcWait (k : Nat) (n : Nat)
  | bcDone (k : Nat)
  | bcRti (k : Nat)
  | bcTrap (k : Nat)
  | bcHalt (k : Nat)
  | bcSync (k : Nat) (n : Nat)
  | bcFtap (k : Nat)
  | brushCoreGo (m : Nat) (k : Nat) (v : Word)
  | brushCoreCtrlStop (m : Nat) (k : Nat) (v : Word)
  | xferGo (k : Nat) (n : Nat) (v : Word)
  | xferComplete (k : Nat) (n : Nat)
  | brushMbxOutWrite (k : Nat) (v : Word)
  | brushMbxAck (k : Nat) (v : Word)
  | brushWindowWrite (m : Nat) (k : Nat) (space : Nat) (w : Nat) (v : Word)
  | brushStatusGet (p : Packet)
  | brushAlloc (p : Packet)
  | brushFree (p : Packet)
  | brushLoad (p : Packet)
  | brushRead (p : Packet)
  | brushStart (p : Packet)
  | brushStop (p : Packet)
  | brushBufferSet (p : Packet)
  | paramDeclare (p : Packet)
  | paramBegin (p : Packet)
  | paramSet (p : Packet)
  | paramCommit (p : Packet)
  | paramGet (p : Packet)
  | brushMbxPost (p : Packet)
  | brushMbxRead (p : Packet)
  | migrationCopy (g : Nat)
  | migrationSwap (g : Nat)
  | migrationCold (g : Nat)
  | atelierPost (port : Nat) (m : Nat) (v : Word)
  | atelierTick (j : Nat)
  | atelierDispatch
  | atelierCancel (port : Nat) (v : Word)
  | atelierDonePop (port : Nat)
  | fabricHeldIssue (m : Nat)
  | dramRead (m : Nat) (id : Nat) (addr : Nat) (len : Nat) (outPort : Nat) (outTarget : Nat) (outAll : Nat) (other : Bool)
  | dramWrite (m : Nat) (id : Nat) (addr : Nat) (bytes : List Byte) (outPort : Nat) (outTarget : Nat) (outAll : Nat) (other : Bool)
  | dramRefresh (ch : Nat) (bank : Nat)
  | dramWckTrack (wanted : List Int)
  | dramScrubRead (errs : List (Nat × Nat))
  | dramRemapStart (ch : Nat) (e : Nat) (row : Nat) (bank : Nat) (spare : Nat)
  | dramRemapCopyDone (ch : Nat) (e : Nat)
  | dramRemapActivate (ch : Nat) (e : Nat)
  | memcUncorrClear (m : Nat) (v : Word)
  | flashPageRead (unit : Nat) (bits : List Nat) (owner : List (Nat × Nat))
  | flashProgram (unit : Nat)
  | flashErase (unit : Nat)
  | flashOpComplete (die : Nat) (ok : Bool)
  | flashScrubPass (unit : Nat) (pages : Nat) (bits : Nat) (most : Nat) (bad : Nat) (owner : List (Nat × Nat))
  | flashWearLevel (tlc : Bool)
  | flashRelocate (unit : Nat) (verified : Bool)
  | flashRetentionAgeTick
  | storageStatusGet (p : Packet)
  | libList (p : Packet)
  | libWriteBegin (p : Packet)
  | libWriteData (p : Packet)
  | libWriteCommit (p : Packet)
  | libCommitDone (session : Nat)
  | libWriteTimeout (session : Nat)
  | libRead (p : Packet)
  | libDelete (p : Packet)
  | libWriteAbort (p : Packet)
  | crcScan (p : Packet)
  | crcScanGo (m : Nat) (k : Nat) (v : Word)
  | crcScanDone (k : Nat)
  | memConfigSet (p : Packet)
  | flashConfigSet (p : Packet)
  | flashUnitGet (p : Packet)
  | tetherMirrorReceive (f : Tether)
  | mirrorSetApply (items : Machine.MirrorItems)
  | tetherAckReceive (f : Tether)
  | tetherResyncReqReceive (f : Tether)
  | tetherResyncDataReceive (f : Tether) (part : Machine.ResyncPart)
  | resyncComplete (version : Word)
  | tetherSwitchReceive (f : Tether) (g : Nat)
  | tetherRelinquishReceive (f : Tether)
  | tetherPairReceive (f : Tether) (primary : Bool)
  | pairingTimeout
  | witnessDecision
  | takeover
  | switchoverPrepare
  | switchover
  | switchoverGlazeEnd
  | twinStatusGet (p : Packet)
  | twinConfig (p : Packet)
  | twinSwitchover (p : Packet)
  | twinForce (p : Packet)
  | twinLeave (p : Packet)
  | twinPersistDeclare (p : Packet)
  | twinResync (p : Packet)
  | updateStatusGet (p : Packet)
  | updateBegin (p : Packet)
  | updateData (p : Packet)
  | updateEnd (p : Packet)
  | updateDiscard (p : Packet)
  | updatePeersSet (p : Packet)
  | updateActivate (p : Packet)
  | updateCancel (p : Packet)
  | updatePeerStatusGet (p : Packet)
  | updateSvnRaise (p : Packet)
  | updateOfferReceive (f : UpFrame)
  | updateDataReceive (f : UpFrame)
  | updateAckReceive (f : UpFrame)
  | updateRefuseReceive (f : UpFrame)
  | updateVerifiedReceive (f : UpFrame)
  | updateActivateReceive (f : UpFrame)
  | updateCancelReceive (f : UpFrame)
  | updateResultReceive (f : UpFrame)
  | ackStallRetransmit (n : Nat)
  | peerUnreachable (n : Nat)
  | peerReoffer (n : Nat)
  | imageVerifyDone (env : ImageEnv)
  | updateReceptionTimeout (k : Nat)
  | activationPrecheck (env : ImageEnv)
  | activation
  | activationFallback
  | patrolStart (num : Nat)
  | nearRowSpare (bank : Nat) (row : Nat)
  | nearRowSwitch (bank : Nat) (row : Nat)
  | eyeMarginMeasure (j : Nat) (h : Nat) (v : Nat)
  | functionStall (code : Nat)
  | patinaLedgerFlush
  | healthStatusGet (p : Packet)
  | healthConfig (p : Packet)
  | patinaRead (p : Packet)
  | patinaInfo (p : Packet)
  | unitGet (p : Packet)
  | spareSwap (p : Packet)
  | smudgeChallenge (p : Packet)
  | smudgeChallengeExpire
  | smudgeUnlock (p : Packet)
  | smudgeSet (p : Packet)
  | smudgeLock (p : Packet)
  | smudgeTimeout
  | smudgeArmWrite (m : Nat) (v : Word)
  | smudgeClockGo (m : Nat) (v : Word)
  | converterFault
  | sfpLosChange (p : Nat) (level : Bool)
  | pcieLinkTrained (gen : Nat) (width : Nat)
  | timeCtrlWrite (m : Nat) (v : Word)
  | easelPacketRefused (tr : Transport) (raw : List Byte)
  | rxBufferFillLow (p : Nat)
  | pauseQuantaExpire (p : Nat)
  | pdmTransitionsReturn (n : Nat)
  | paramCommitDone
  | mr4TemperatureReport (ch : Nat) (warm : Bool)
deriving DecidableEq, Repr

end Sys2Proof
end

