-- ==== Sys2Proof/Decode.lean ====
section
/-! DEFINITION. The command that a word of the command table spells. The table gives no row any bits: the module takes its
commands as register accesses, packets, frames and events, none of them a word of one encoding. -/

namespace Sys2Proof

/-- The command that `nbits` bits with the value `w` spell: none, since no row of the table has bits. -/
def decodeTableWord (_nbits _w : Nat) : Option Instr := none

end Sys2Proof
end

