-- ==== Sys2Proof/Machine/Fix.lean ====
section
/-! DEFINITION. Real quantities of the laws of chapters 7 to 12, carried in fixed point with 96 fraction bits. The words the
module keeps have at most 32 fraction bits, so that one rounding at the end gives the word nearest the exact result. -/

namespace Sys2Proof.Machine

/-- A real number in units of 2⁻⁹⁶. -/
abbrev Fx := Int

/-- 1.0 -/
def one : Fx := 2 ^ 96

/-- The quotient of two integers. -/
def fx (n : Int) (d : Nat) : Fx := n * one / (d : Int)

/-- Product. -/
def fmul (a b : Fx) : Fx := a * b / one

/-- Quotient; 0 for a divisor of 0. -/
def fdiv (a b : Fx) : Fx := if b = 0 then 0 else a * one / b

/-- The binary digits of the integer square root from bit k down. -/
def isqrtGo (n : Nat) : Nat → Nat → Nat
  | 0, r => if (r + 1) * (r + 1) ≤ n then r + 1 else r
  | k + 1, r => let s := r + 2 ^ (k + 1); isqrtGo n k (if s * s ≤ n then s else r)

/-- The integer square root, rounded down. -/
def isqrt (n : Nat) : Nat := isqrtGo n (n.log2 / 2 + 1) 0

/-- The integer square root rounded up. -/
def isqrtUp (n : Nat) : Nat := let r := isqrt n; if r * r = n then r else r + 1

/-- Square root; 0 for a negative number. -/
def fsqrt (a : Fx) : Fx := (isqrt (a.toNat * 2 ^ 96) : Nat)

/-- π -/
def fpi : Fx := 248902613312231085230521944622

/-- The natural logarithm of 10. -/
def fln10 : Fx := 182429585950654714090129938606

/-- cos 1° -/
def cosOneDeg : Fx := 79216095681363193075345657853

/-- The Taylor series Σ (−1)^j x^(k+2j) / (k+2j)!, n further terms after term t with index k. -/
def altSeries (x2 : Fx) : Nat → Nat → Fx → Fx
  | 0, _, t => t
  | n + 1, k, t => t + altSeries x2 n (k + 2) (-(fmul t x2) / (((k + 1) * (k + 2) : Nat) : Int))

/-- Sine of an angle given as a fraction n / d of a turn. -/
def sinTurn (n : Int) (d : Nat) : Fx :=
  let r := n % (d : Int)
  let r := if 2 * r > d then r - d else r
  let x := fmul (fx r d) (2 * fpi)
  altSeries (fmul x x) 36 1 x

/-- Cosine of an angle given as a fraction n / d of a turn. -/
def cosTurn (n : Int) (d : Nat) : Fx := sinTurn (4 * n + d) (4 * d)

/-- Sine and cosine of an angle in radians. -/
def fsin (x : Fx) : Fx := sinTurn (fdiv x (2 * fpi)) (2 ^ 96)
def fcos (x : Fx) : Fx := cosTurn (fdiv x (2 * fpi)) (2 ^ 96)

/-- The series of the exponential, n further terms after term t with index k. -/
def expSeries (x : Fx) : Nat → Nat → Fx → Fx
  | 0, _, t => t
  | n + 1, k, t => t + expSeries x n (k + 1) (fmul t x / ((k + 1 : Nat) : Int))

/-- A number squared n times. -/
def squareN : Nat → Fx → Fx
  | 0, x => x
  | n + 1, x => squareN n (fmul x x)

/-- The exponential; an exponent below −64 gives 0. -/
def fexp (x : Fx) : Fx := if x < -64 * one then 0 else squareN 8 (expSeries (x / 256) 30 0 one)

/-- 10 to the power n / d. -/
def pow10 (n : Int) (d : Nat) : Fx := fexp (fmul (fx n d) fln10)

/-- Natural logarithm of a positive number by Newton's method on the exponential. -/
def flog (a : Fx) : Fx :=
  if a ≤ 0 then -200 * one
  else
    let e : Int := (a.toNat.log2 : Nat) - 96
    let ln2 : Fx := 54916777467707473351141471128
    let m := if e ≥ 0 then a / ((2 ^ e.toNat : Nat) : Int) else a * ((2 ^ (-e).toNat : Nat) : Int)
    let y := (List.range 8).foldl (fun y _ => y + 2 * fdiv (m - fexp y) (m + fexp y)) (0 : Fx)
    y + e * ln2

/-- The nearest multiple of 2⁻ᵏ, as a count of 2⁻ᵏ, ties away from zero (R211). -/
def roundFx (k : Nat) (x : Fx) : Int := roundDiv (x * ((2 ^ k : Nat) : Int)) (2 ^ 96)

/-- The nearest multiple of 2⁻ᵏ, ties toward +∞. -/
def roundUpFx (k : Nat) (x : Fx) : Int := (2 * x * ((2 ^ k : Nat) : Int) + one) / (2 * one)

/-! ### Vectors -/

/-- A vector of real numbers. -/
abbrev V3 := Fx × Fx × Fx

def vadd (a b : V3) : V3 := (a.1 + b.1, a.2.1 + b.2.1, a.2.2 + b.2.2)
def vsub (a b : V3) : V3 := (a.1 - b.1, a.2.1 - b.2.1, a.2.2 - b.2.2)
def vscale (k : Fx) (a : V3) : V3 := (fmul k a.1, fmul k a.2.1, fmul k a.2.2)
def vneg (a : V3) : V3 := (-a.1, -a.2.1, -a.2.2)
def vdot (a b : V3) : Fx := fmul a.1 b.1 + fmul a.2.1 b.2.1 + fmul a.2.2 b.2.2
def vcross (a b : V3) : V3 :=
  (fmul a.2.1 b.2.2 - fmul a.2.2 b.2.1, fmul a.2.2 b.1 - fmul a.1 b.2.2, fmul a.1 b.2.1 - fmul a.2.1 b.1)
def vnorm (a : V3) : Fx := fsqrt (vdot a a)

/-- The unit vector of a vector; +x for the zero vector (R200). -/
def vunit (a : V3) : V3 := let n := vnorm a; if n = 0 then (one, 0, 0) else (fdiv a.1 n, fdiv a.2.1 n, fdiv a.2.2 n)

/-- A position in units of 1/8,192 m, as a vector in metres (R173). -/
def vpos (p : Int × Int × Int) : V3 := (p.1 * 2 ^ 83, p.2.1 * 2 ^ 83, p.2.2 * 2 ^ 83)

/-! ### Glaze (R221) -/

/-- w_in(n) for a Glaze of g samples in Q1.23. -/
def wIn (n g : Nat) : Int := if n ≥ g then 2 ^ 23 else roundFx 23 (sinTurn (2 * n + 1) (8 * g))

/-- w_out(n) for a Glaze of g samples in Q1.23. -/
def wOut (n g : Nat) : Int := if n ≥ g then 0 else roundFx 23 (cosTurn (2 * n + 1) (8 * g))

/-! ### Spherical positions (R174) -/

/-- A spherical position as Cartesian coordinates: sines and cosines rounded to Q2.30, products exact and rounded once. -/
def sphere (az : Nat) (el : Int) (d : Nat) : Int × Int × Int :=
  let q := fun (x : Fx) => roundFx 30 x
  let ca := q (cosTurn az 65536)
  let sa := q (sinTurn az 65536)
  let ce := q (cosTurn el 65536)
  let se := q (sinTurn el 65536)
  let fit := fun (v : Int) => clampInt (-8388608) 8388607 v
  (fit (roundDiv (d * ce * ca) (2 ^ 60)), fit (roundDiv (d * ce * sa) (2 ^ 60)), fit (roundDiv (d * se) (2 ^ 30)))

/-! ### The speed of sound (R186) -/

/-- c(T)² in (m/s)², as a numerator over 2,731,500, for T in units of 0.01 °C: 331.3² × (1 + T / 273.15). -/
def speedSqNum (t : Int) : Nat := (10975969 * (27315 + t)).toNat

/-- c(T) in units of 2⁻²⁰ m/s, rounded to nearest (R187). -/
def speedOf (t : Int) : Nat := (isqrt (4 * speedSqNum t * 2 ^ 40 / 2731500) + 1) / 2

/-- ceil(d × fs / c(T)) for a squared distance in units of (1/8,192 m)² (R189). -/
def delaySamples (dSq fs : Nat) (t : Int) : Nat :=
  let num := dSq * fs * fs * 2731500
  let den := 2 ^ 26 * speedSqNum t
  if den = 0 then 0 else isqrtUp (ceilDiv num den)

end Sys2Proof.Machine
end

