-- ==== Sys2Proof/Machine/Geometry.lean ====
section
/-! DEFINITION. Meshes and panning (R185, R200 to R205), the spherical harmonics of the scene buses (R254), and how a
rounded result may stand off the exact one (R211, R255). -/

namespace Sys2Proof.Machine

/-! ### Tolerance -/

/-- A rounded result within `bound` LSB of the exact one; which one is a free value of the operands listed. An exact 0
stays 0. -/
def withDev (key : List Int) (bound : Nat) (v : Int) : Int :=
  if v = 0 then 0 else v + (Config.targetDev key % (2 * bound + 1) : Nat) - bound

/-! ### Exact tests on stored coordinates -/

/-- Inner product of two positions. -/
def idot (a b : Int × Int × Int) : Int := a.1 * b.1 + a.2.1 * b.2.1 + a.2.2 * b.2.2

/-- Squared distance between two positions. -/
def idistSq (a b : Int × Int × Int) : Nat :=
  ((a.1 - b.1) ^ 2 + (a.2.1 - b.2.1) ^ 2 + (a.2.2 - b.2.2) ^ 2).toNat

/-- Two directions from the origin within 0.5° of each other (R182). The number is cos² 0.5° in units of 2⁻²⁰⁰. -/
def withinHalfDegree (a b : Int × Int × Int) : Bool :=
  let d := idot a b
  d > 0 && decide (d * d * 2 ^ 200 ≥
    1606815672035230358780107969736648895514333335719525289507915 * (idot a a * idot b b))

/-- The six axis directions in the order of R185. -/
def axisDirs : List (Int × Int × Int) := [(1, 0, 0), (-1, 0, 0), (0, 1, 0), (0, -1, 0), (0, 0, 1), (0, 0, -1)]

/-- A loudspeaker within 45° of an axis direction (R185, step 2). -/
def withinAxis (p ax : Int × Int × Int) : Bool :=
  let c := idot p ax
  decide (c ≥ 0) && decide (2 * c * c ≥ idot p p)

/-- The axis directions at which a set gets a virtual loudspeaker (R185, step 2). -/
def virtualAxes (ps : List (Int × Int × Int)) : List (Int × Int × Int) := axisDirs.filter fun ax => !ps.any (withinAxis · ax)

/-! ### Meshes (R185) -/

/-- A mesh: the unit directions of its vertices, real before virtual, how many are real, and its faces in the order of
R201. -/
structure Mesh where
  verts : List V3
  real : Nat
  faces : List (Nat × Nat × Nat)
deriving DecidableEq, Repr

/-- Vertex i of a list. -/
def vertex (vs : List V3) (i : Nat) : V3 := vs.getD i (0, 0, 0)

/-- The vertices on the supporting plane through three vertices, to within 2⁻²⁰; none when the plane supports nothing. -/
def hullPolygon (vs : List V3) (i j k : Nat) : Option (V3 × List Nat) :=
  let a := vertex vs i
  let n := vunit (vcross (vsub (vertex vs j) a) (vsub (vertex vs k) a))
  let n := if vdot n a < 0 then vneg n else n
  let d := vdot n a
  let tol := one / 2 ^ 20
  if vs.all fun v => decide (vdot n v ≤ d + tol) then
    some (n, (List.range vs.length).filter fun m => decide (vdot n (vertex vs m) ≥ d - tol))
  else none

/-- The vertices of a polygon after its lowest-numbered one, in order round the normal. -/
def fanOrder (vs : List V3) (n : V3) (v0 : Nat) : List Nat → List Nat
  | [] => []
  | m :: t =>
    let rest := fanOrder vs n v0 t
    let before := fun w => decide (vdot n (vcross (vsub (vertex vs w) (vertex vs v0)) (vsub (vertex vs m) (vertex vs v0))) > 0)
    (rest.takeWhile before) ++ m :: rest.dropWhile before

/-- Three vertex numbers in ascending order. -/
def sortFace (a b c : Nat) : Nat × Nat × Nat :=
  let lo := min a (min b c)
  let hi := max a (max b c)
  (lo, a + b + c - lo - hi, hi)

/-- The fan of triangles from a vertex over the others in order (R185, step 3). -/
def fanFaces (v0 : Nat) : List Nat → List (Nat × Nat × Nat)
  | a :: b :: t => sortFace v0 a b :: fanFaces v0 (b :: t)
  | _ => []

/-- The order of faces of R201. -/
def faceLt (a b : Nat × Nat × Nat) : Bool :=
  a.1 < b.1 || (a.1 = b.1 && (a.2.1 < b.2.1 || (a.2.1 = b.2.1 && a.2.2 < b.2.2)))

/-- A face put in its place, once. -/
def insertFace (f : Nat × Nat × Nat) : List (Nat × Nat × Nat) → List (Nat × Nat × Nat)
  | [] => [f]
  | g :: t => if f = g then g :: t else if faceLt f g then f :: g :: t else g :: insertFace f t

/-- The faces of the convex hull of a list of unit directions, triangulated (R185, step 3). -/
def hullFaces (vs : List V3) : List (Nat × Nat × Nat) :=
  let n := vs.length
  let tris := (List.range n).flatMap fun i => ((List.range n).filter (i < ·)).flatMap fun j =>
    ((List.range n).filter (j < ·)).map fun k => (i, j, k)
  tris.foldl (fun fs t =>
    match hullPolygon vs t.1 t.2.1 t.2.2 with
    | some (nrm, v0 :: rest) =>
      -- the polygon is taken once, at the triple of its three lowest vertices
      if t.1 = v0 ∧ rest.take 2 = [t.2.1, t.2.2] then (fanFaces v0 (fanOrder vs nrm v0 rest)).foldl (fun fs f => insertFace f fs) fs
      else fs
    | _ => fs) []

/-- The mesh of a set of loudspeaker positions in output order. -/
def mkMesh (ps : List (Int × Int × Int)) : Mesh :=
  let vs := ps.map (fun p => vunit (vpos p)) ++ (virtualAxes ps).map fun a => (a.1 * one, a.2.1 * one, a.2.2 * one)
  { verts := vs, real := ps.length, faces := hullFaces vs }

/-- The number of faces of the mesh of a set: 2V − 4, and none for fewer than three loudspeakers (R185). -/
def faceCount (ps : List (Int × Int × Int)) : Nat :=
  if ps.length < 3 then 0 else 2 * (ps.length + (virtualAxes ps).length) - 4

/-! ### Panning one direction (R201, R202, R204) -/

/-- The solution of v = g_a·a + g_b·b + g_c·c. -/
def solve3 (a b c v : V3) : Fx × Fx × Fx :=
  let d := vdot a (vcross b c)
  (fdiv (vdot v (vcross b c)) d, fdiv (vdot v (vcross c a)) d, fdiv (vdot v (vcross a b)) d)

/-- The vertex powers of a direction over a mesh (R201). -/
def panMesh (m : Mesh) (v : V3) : List Fx :=
  let tol := one / 2 ^ 20
  let sol := fun (f : Nat × Nat × Nat) => solve3 (vertex m.verts f.1) (vertex m.verts f.2.1) (vertex m.verts f.2.2) v
  match m.faces.find? fun f => let g := sol f; decide (g.1 ≥ -tol) && decide (g.2.1 ≥ -tol) && decide (g.2.2 ≥ -tol) with
  | none => m.verts.map fun _ => 0
  | some f =>
    let g := sol f
    let sq := fun (x : Fx) => if x < 0 then 0 else fmul x x
    let t := sq g.1 + sq g.2.1 + sq g.2.2
    (List.range m.verts.length).map fun i =>
      if i = f.1 then fdiv (sq g.1) t else if i = f.2.1 then fdiv (sq g.2.1) t else if i = f.2.2 then fdiv (sq g.2.2) t else 0

/-- The powers of a direction over two loudspeakers (R202). -/
def panTwo (p q : Int × Int × Int) (v : V3) : Fx × Fx :=
  let a := vunit (vpos p)
  let b := vunit (vpos q)
  let va := vdot v a
  let vb := vdot v b
  let cr := (p.2.1 * q.2.2 - p.2.2 * q.2.1, p.2.2 * q.1 - p.1 * q.2.2, p.1 * q.2.1 - p.2.1 * q.1)
  let k := vdot a b
  let det := one - fmul k k
  let g : Fx × Fx := if cr = (0, 0, 0) then (va / 2, -(va / 2))
    else (fdiv (va - fmul k vb) det, fdiv (vb - fmul k va) det)
  let sq := fun (x : Fx) => if x < 0 then 0 else fmul x x
  let t := sq g.1 + sq g.2
  if t = 0 then (one / 2, one / 2) else (fdiv (sq g.1) t, fdiv (sq g.2) t)

/-- Whether two vertices share an edge. -/
def Mesh.edge (m : Mesh) (i j : Nat) : Bool :=
  m.faces.any fun f => (i = f.1 || i = f.2.1 || i = f.2.2) && (j = f.1 || j = f.2.1 || j = f.2.2)

/-- The powers of the real vertices after the virtual ones have passed theirs on (R204). -/
def Mesh.passVirtual (m : Mesh) (pw : List Fx) : List Fx :=
  let reals := List.range m.real
  ((List.range m.verts.length).drop m.real).foldl (fun acc v =>
    let p := pw.getD v 0
    let nb := reals.filter fun i => m.edge v i
    let dest := if nb.isEmpty then reals else nb
    (List.range acc.length).map fun i => if i ∈ dest then acc.getD i 0 + p / (dest.length : Int) else acc.getD i 0) (pw.take m.real)

/-- What panning over a set needs: its positions, and its mesh where it has one. -/
structure PanSet where
  pos : List (Int × Int × Int)
  mesh : Mesh
deriving DecidableEq, Repr

/-- The panning set of loudspeaker positions in output order. -/
def mkPanSet (ps : List (Int × Int × Int)) : PanSet :=
  { pos := ps, mesh := if ps.length < 3 then ⟨[], 0, []⟩ else mkMesh ps }

/-- The vertex powers of one direction over a set (R201, R202). -/
def PanSet.vertexPower (s : PanSet) (v : V3) : List Fx :=
  match s.pos with
  | [] => []
  | [_] => [one]
  | [p, q] => let r := panTwo p q v; [r.1, r.2]
  | _ => panMesh s.mesh v

/-- The powers of the loudspeakers of a set from its vertex powers (R204). -/
def PanSet.realPower (s : PanSet) (pw : List Fx) : List Fx := if s.pos.length < 3 then pw else s.mesh.passVirtual pw

/-! ### Spread (R200, R203) -/

/-- The directions that a spread of θ (a fraction of a turn in units of 2⁻⁹⁶) pans: u, and the four rings (R203). -/
def spreadDirs (u : V3) (theta : Fx) : List V3 :=
  if theta = 0 then [u]
  else
    let z : V3 := (0, 0, one)
    let pole := decide (u.2.2.natAbs ≥ cosOneDeg.natAbs)
    let w : V3 := if pole then (one, 0, 0) else z
    let e1 := vunit (vsub w (vscale (vdot w u) u))
    let e2 := vcross u e1
    u :: [1, 2, 3, 4].flatMap fun (j : Nat) =>
      let t := theta * (j : Int) / 4
      let ct := cosTurn t (2 ^ 96)
      let st := sinTurn t (2 ^ 96)
      (List.range (6 * j)).map fun (m : Nat) =>
        vadd (vscale ct u) (vscale st (vadd (vscale (cosTurn m (6 * j)) e1) (vscale (sinTurn m (6 * j)) e2)))

/-- θ_eff of R200 as a fraction of a turn, for SPREAD in units of 1/65,536 turn and a distance r. -/
def thetaEff (spread : Nat) (r : Fx) : Fx :=
  let s := fx spread 65536
  if 2 * r < one then max s ((one - 2 * r) / 2) else s

/-- The loudspeaker powers of an object at p with a spread over a set (R203, R204). -/
def PanSet.power (s : PanSet) (p : V3) (spread : Nat) : List Fx :=
  let ds := spreadDirs (vunit p) (thetaEff spread (vnorm p))
  let n : Int := (ds.length : Nat)
  let sums := ds.foldl (fun acc d =>
    let pw := s.vertexPower d
    if acc.isEmpty then pw else List.zipWith (· + ·) acc pw) []
  s.realPower (sums.map (· / n))

/-! ### Taper of an array (R207) -/

/-- The taper of element e of E at a TAPER in percent. -/
def taper (e total percent : Nat) : Fx :=
  let m := min e (total - 1 - e)
  let lt := (2 * total * percent + 100) / 200
  if m < lt then (one - cosTurn (2 * m + 1) (4 * lt)) / 2 else one

/-! ### Spherical harmonics (R254) and order weights (R255) -/

/-- The associated Legendre function P_n^m without the Condon–Shortley phase, by recurrence on n from the two before. -/
def legendreUp (x : Fx) (m : Nat) : Nat → Nat → Fx → Fx → Fx
  | 0, _, _, p => p
  | k + 1, n, q, p => legendreUp x m k (n + 1) p
      ((fmul ((2 * n + 1 : Nat) * x) p - ((n + m : Nat) : Int) * q) / ((n + 1 - m : Nat) : Int))

/-- A real number to the power n. -/
def fpow (x : Fx) : Nat → Fx
  | 0 => one
  | n + 1 => fmul x (fpow x n)

/-- P_n^m(sin el), given sin el and cos el. -/
def legendre (n m : Nat) (x s : Fx) : Fx :=
  let dfact : Nat := (List.range m).foldl (fun a k => a * (2 * k + 1)) 1
  legendreUp x m (n - m) m 0 ((dfact : Fx) * fpow s m)

/-- n! -/
def fact : Nat → Nat
  | 0 => 1
  | n + 1 => (n + 1) * fact n

/-- The N3D harmonic of ACN channel c at a direction with sine of elevation z, cosine s and azimuth t turns. -/
def harmonic (c : Nat) (z s t : Fx) : Fx :=
  let n := isqrt c
  let m : Int := (c : Int) - (n * n + n : Nat)
  let k := m.natAbs
  let norm := fsqrt (fx (((2 * n + 1) * (if k = 0 then 1 else 2) * fact (n - k) : Nat) : Int) (fact (n + k)))
  let tm := if m ≥ 0 then cosTurn ((k : Int) * t) (2 ^ 96) else sinTurn ((k : Int) * t) (2 ^ 96)
  fmul (fmul norm (legendre n k z s)) tm

/-- The order weight a_n of R255 for a bus of an order. -/
def orderWeight (maxre : Bool) (order n : Nat) : Fx :=
  if maxre then
    let x := cosTurn (137900 * 1) (360 * (order * 1000 + 1510))
    legendre n 0 x (fsqrt (one - fmul x x))
  else one

end Sys2Proof.Machine
end

