-- ==== Sys2Proof/Machine/Ops.lean ====
section
/-! DEFINITION. The named operations over registers, counters, interrupts and messages that every chapter shares. -/

namespace Sys2Proof.Machine

/-! ### Registers and fields -/

/-- The stored value of the register at a BAR0 offset. -/
def Core.get (c : Core) (off : Nat) : Word := smGet regReset c.regs off

/-- The register at a BAR0 offset takes a value. -/
def Core.put (c : Core) (off : Nat) (w : Word) : Core := { c with regs := smSet regReset c.regs off w }

/-- A field of a register, as a number. -/
def Core.f (c : Core) (x : Field) : Nat := bitsOf (c.get x.off) x.hi x.lo

/-- A field of a register takes a value. -/
def Core.setF (c : Core) (x : Field) (v : Nat) : Core := c.put x.off (withBits (c.get x.off) x.hi x.lo v)

/-- A one-bit field, or whether a field is not 0. -/
def Core.flag (c : Core) (x : Field) : Bool := c.f x ≠ 0

/-- A one-bit field takes a truth value. -/
def Core.setB (c : Core) (x : Field) (b : Bool) : Core := c.setF x (b2n b)

/-- A field read as two's complement. -/
def Core.fs (c : Core) (x : Field) : Int := signed (x.hi - x.lo + 1) (c.f x)

/-- A field written as two's complement. -/
def Core.setFs (c : Core) (x : Field) (v : Int) : Core := c.setF x (unsigned (x.hi - x.lo + 1) v)

/-- A 64-bit value held in a low and a high register. -/
def Core.get64 (c : Core) (lo hi : Nat) : Nat := (c.get lo).toNat + (c.get hi).toNat * 2 ^ 32

/-- A 64-bit value written to a low and a high register. -/
def Core.put64 (c : Core) (lo hi : Nat) (v : Nat) : Core :=
  (c.put lo (.ofNat 32 v)).put hi (.ofNat 32 (v / 2 ^ 32))

/-! ### Messages, MSI-X, doorbells and interrupts -/

/-- A message goes out. -/
def Core.send (c : Core) (m : Msg) : Core := { c with outbox := c.outbox ++ [m] }

/-- The value after reset of word i of the MSI-X table: every vector is masked (PCI Express Base Specification). -/
def msixReset (i : Nat) : Word := if i % 4 = 3 then 1 else 0

/-- An MSI-X message on a vector: sent, or its PBA bit set while the vector is masked (R171). -/
def Core.msix (c : Core) (v : Nat) : Core :=
  if bitOf (smGet msixReset c.host.msix (4 * v + 3)) 0 then
    { c with host := { c.host with pba := if c.host.pba / 2 ^ v % 2 = 1 then c.host.pba else c.host.pba + 2 ^ v } }
  else c.send (.msix v)

/-- The vector of a host doorbell (R167). -/
def bellVector (b : Nat) : Nat := if b = 1 then 0 else 1

/-- A host doorbell rings: its bit sets, and a bit that becomes set unmasked sends its message (R167). -/
def Core.ring (c : Core) (b : Nat) : Core :=
  let x : Field := ⟨R.HOST_DB_STATUS, b, b⟩
  let m : Field := ⟨R.HOST_DB_MASK, b, b⟩
  if c.flag x then c
  else
    let c' := c.setF x 1
    if c.flag m then c' else c'.msix (bellVector b)

/-- The interrupt source k of an INT_STATUS register, by its window (R172, R537). -/
def sourceOf (off : Nat) : Nat :=
  match off / 0x100000 with
  | 0x10 => 16 | 0x11 => 17 | 0x12 => 18 | 0x13 => 19 | 0x15 => 20 | 0x16 => 21 | 0x17 => 22 | 0x18 => 23 | 0x19 => 24
  | w => if w < 0x10 then w else 25

/-- Whether a source is active: any bit of its INT_STATUS set together with its enable bit (R171). The enable register of
every block follows its status register. -/
def Core.active (c : Core) (st : Nat) : Bool := (c.get st &&& c.get (st + 4)) ≠ 0

/-- The source of an INT_STATUS register has become active: its message goes out on the routed vector (R171). -/
def Core.fireSource (c : Core) (st : Nat) : Core :=
  let k := sourceOf st
  if k ≤ 25 ∧ c.flag (F.HOST_INT_ROUTE_EN k) then c.msix (c.f (F.HOST_INT_ROUTE_VECTOR k)) else c

/-- An interrupt status bit becomes set: a message when the source becomes active, and an event notice is due when an
enabled bit is gained (R171, R156). -/
def Core.raise (c : Core) (x : Field) : Core :=
  let was := c.active x.off
  let gained := !c.flag x && c.flag ⟨x.off + 4, x.hi, x.lo⟩
  let c' := c.setF x 1
  let k := sourceOf x.off
  let c' := if gained ∧ k ∉ c'.host.gained then { c' with host := { c'.host with gained := c'.host.gained ++ [k] } } else c'
  if !was ∧ c'.active x.off then c'.fireSource x.off else c'

/-- An interrupt is raised when a condition holds. -/
def Core.raiseIf (c : Core) (b : Bool) (x : Field) : Core := if b then c.raise x else c

/-! ### Counters (R16) -/

/-- The SAT interrupt of the block of a register, where the block has one. -/
def satField (off : Nat) : Option Field :=
  match off / 0x100000 with
  | 0x4 => some F.ATELIER_INT_STATUS_SAT | 0x5 => some F.FABRIC_INT_STATUS_SAT | 0x6 => some F.MEMC_INT_STATUS_SAT
  | 0x7 => some F.FLASH_INT_STATUS_SAT | 0x8 => some F.CRC_INT_STATUS_SAT | 0x9 => some F.PORTS_INT_STATUS_SAT
  | 0xA => some F.PDM_INT_STATUS_SAT | 0xB => some F.ARMATURE_INT_STATUS_SAT | 0x10 => some F.MEDIA_INT_STATUS_SAT
  | 0x11 => some F.CALIPER_INT_STATUS_SAT | 0x12 => some F.RENDER_INT_STATUS_SAT | 0x13 => some F.OUTPROC_INT_STATUS_SAT
  | 0x15 => some F.SURVEY_INT_STATUS_SAT | 0x16 => some F.TWIN_INT_STATUS_SAT | 0x17 => some F.HEALTH_INT_STATUS_SAT
  | 0x19 => some F.UPDATE_INT_STATUS_SAT | 0x3F => some F.BRUSH_INT_STATUS_SAT
  | w => if 0xC ≤ w ∧ w ≤ 0xF then some (F.NET_INT_STATUS_SAT (w - 0xC)) else none

/-- The HALF_RANGE interrupt of the block of a register, where the block has one. -/
def halfField (off : Nat) : Option Field :=
  match off / 0x100000 with
  | 0x2 => some F.TIME_INT_STATUS_HALF_RANGE | 0x3 => some F.HOST_INT_STATUS_HALF_RANGE
  | 0x4 => some F.ATELIER_INT_STATUS_HALF_RANGE | 0x5 => some F.FABRIC_INT_STATUS_HALF_RANGE
  | 0x6 => some F.MEMC_INT_STATUS_HALF_RANGE | 0x7 => some F.FLASH_INT_STATUS_HALF_RANGE
  | 0x9 => some F.PORTS_INT_STATUS_HALF_RANGE | 0xB => some F.ARMATURE_INT_STATUS_HALF_RANGE
  | 0x10 => some F.MEDIA_INT_STATUS_HALF_RANGE | 0x11 => some F.CALIPER_INT_STATUS_HALF_RANGE
  | 0x12 => some F.RENDER_INT_STATUS_HALF_RANGE | 0x15 => some F.SURVEY_INT_STATUS_HALF_RANGE
  | 0x16 => some F.TWIN_INT_STATUS_HALF_RANGE | 0x17 => some F.HEALTH_INT_STATUS_HALF_RANGE
  | 0x18 => some F.SMUDGE_INT_STATUS_HALF_RANGE | 0x19 => some F.UPDATE_INT_STATUS_HALF_RANGE
  | 0x3F => some F.BRUSH_INT_STATUS_HALF_RANGE
  | w => if 0xC ≤ w ∧ w ≤ 0xF then some (F.NET_INT_STATUS_HALF_RANGE (w - 0xC)) else none

/-- An interrupt of a block that may not have it. -/
def Core.raise? (c : Core) : Option Field → Core
  | some x => c.raise x
  | none => c

/-- A class S counter of a field advances by `n`: it stops at all ones and then sets its SAT flag (R16). -/
def Core.countS (c : Core) (x sat : Field) (n : Nat) : Core :=
  let top := 2 ^ (x.hi - x.lo + 1) - 1
  let old := c.f x
  let c' := c.setF x (min (old + n) top)
  if old + n ≥ top ∧ old ≠ top then (c'.setF sat 1).raise? (satField x.off) else c'

/-- The class S counter in bits 15:0 of a register, with SAT in bit 31, advances by `n`. -/
def Core.countN (c : Core) (r n : Nat) : Core := c.countS ⟨r, 15, 0⟩ ⟨r, 31, 31⟩ n

/-- The class S counter in bits 15:0 of a register, with SAT in bit 31, advances by 1. -/
def Core.count (c : Core) (r : Nat) : Core := c.countN r 1

/-- A class W counter advances by `n` and wraps; HALF_RANGE is raised when bit 31 becomes set (R16). -/
def Core.countW (c : Core) (r n : Nat) : Core :=
  let old := c.get r
  let new : Word := old + .ofNat 32 n
  let c' := c.put r new
  if !old.msb ∧ new.msb then c'.raise? (halfField r) else c'

/-- The key of a shadow word of a master (R12). -/
def shadowKey (m off : Nat) : Nat := m * 0x4000000 + off

/-- Words go into the shadow registers of a master, from an offset on (R12). -/
def Core.putShadow (c : Core) (m off : Nat) (ws : List Nat) : Core :=
  { c with shadow := ws.zipIdx.foldl (fun s x => smSet (fun _ => 0) s (shadowKey m (off + 4 * x.2)) (.ofNat 32 x.1)) c.shadow }

/-- The shadow word of a master for a register (R12). -/
def Core.shadowWord (c : Core) (m off : Nat) : Word := smGet (fun _ => 0) c.shadow (shadowKey m off)

/-! ### Frames that leave a network port -/

/-- A network port's state beside its registers. -/
def Core.netPort (c : Core) (p : Nat) : NetPort := smGet (fun _ => {}) c.net.ports p
def Core.setNetPort (c : Core) (p : Nat) (x : NetPort) : Core :=
  { c with net := { c.net with ports := smSet (fun _ => {}) c.net.ports p x } }

/-- A frame waits in its class's queue; one longer than MAX_FRAME is refused, and a port that is down discards it, counted for a
stream packet (R357, R360, R366). -/
def Core.queueFrame (c : Core) (p : Nat) (f : TxFrame) : Core :=
  if !c.flag (F.NET_STATUS_LINK_UP p) then
    match f.stream with
    | some s => (c.count (R.MEDIA_TX_DROP s.1)).raise F.MEDIA_INT_STATUS_TX_DROP
    | none => c
  else if max 64 (f.len + 4) > c.f (F.NET_MAX_FRAME_BYTES p) then
    (c.count (R.NET_TX_ERR p)).raise (F.NET_INT_STATUS_TX_ERR p)
  else
    let x := c.netPort p
    c.setNetPort p { x with txq := x.txq ++ [f] }

/-! ### Errors seen (R513) -/

/-- The time of an error is kept with those of its resource (R513). -/
def Core.seenAt (c : Core) (key : Nat) : Core :=
  let l := c.time.cycles :: (smGet (fun _ => []) c.health.seen key).take 1023
  { c with health := { c.health with seen := smSet (fun _ => []) c.health.seen key l } }

/-! ### Free values -/

/-- The next free value, which nothing constrains, and the state in which it has been used. -/
def Core.free (c : Core) : Nat × Core := (Config.free c.freeIx, { c with freeIx := c.freeIx + 1 })

end Sys2Proof.Machine
end

