-- ==== Sys2Proof/Machine/Bus.lean ====
section
/-! DEFINITION. Register access over the fabric: the path table, gating, BAR0 levels, access types and limits (R11, R12,
R15, R90, R92, R153, R445, R536, R537). -/

namespace Sys2Proof.Machine

/-! ### Power domains and gating -/

/-- Whether power domain n is ON (R130). -/
def Core.pdOn (c : Core) (n : Nat) : Bool := n = 0 || c.f (F.SYS_PD_STATE_PD n) = 0

/-- The CLK_EN bit of a register window (R537). -/
def clkEnBit (w : Nat) : Option Nat :=
  match w with
  | 0x2 => some 0 | 0x4 => some 1 | 0x6 => some 2 | 0x7 => some 3 | 0x8 => some 4 | 0x9 => some 5 | 0xA => some 6
  | 0xB => some 7 | 0xC => some 8 | 0xD => some 9 | 0xE => some 10 | 0xF => some 11 | 0x10 => some 12 | 0x11 => some 13
  | 0x12 => some 14 | 0x13 => some 15 | 0x15 => some 16 | 0x16 => some 17 | 0x17 => some 18 | 0x18 => some 19
  | 0x19 => some 20
  | _ => none

/-- The power domain of a register window (R543). -/
def windowPd (w : Nat) : Nat :=
  match w with
  | 0x2 | 0x4 | 0x8 => 2
  | 0x9 | 0xA | 0xB | 0x15 => 3
  | 0x11 | 0x12 => 4
  | 0xC | 0xD | 0xE | 0x10 | 0x16 => 10
  | 0x6 => 11
  | 0xF | 0x7 | 0x13 | 0x17 | 0x18 | 0x19 => 1
  | _ => 0

/-- The power domain of a physical Brush core, by its group (R387). -/
def corePd (core : Nat) : Nat := 6 + core / 17

/-- The clock enable of a physical Brush core (R90). -/
def Core.brushEnabled (c : Core) (core : Nat) : Bool := bitOf (c.get (R.CLK_EN_BRUSH0 + 4 * (core / 32))) (core % 32)

/-- Whether a register offset is assigned to a block (R537). -/
def windowAssigned (off : Nat) : Bool :=
  let w := off / 0x100000
  w ≤ 0x13 || (0x15 ≤ w && w ≤ 0x19) || (0x20 ≤ w && w ≤ 0x3F)

/-- Whether the block of a register offset is gated: its enable is 0 or its domain is not ON (R90, R537). -/
def Core.gated (c : Core) (off : Nat) : Bool :=
  let w := off / 0x100000
  if 0x20 ≤ w then
    if off < 0x3100000 then
      let core := (off - 0x2000000) / 0x40000
      !c.brushEnabled core || !c.pdOn (corePd core)
    else !c.pdOn 6 && !c.pdOn 7 && !c.pdOn 8 && !c.pdOn 9
  else
    match clkEnBit w with
    | none => false
    | some b => !bitOf (c.get R.CLK_EN) b || !c.pdOn (windowPd w)

/-- A gated access: counted, and recorded while COUNT is 0 (R92). -/
def Core.gatedAccess (c : Core) (m off : Nat) (write : Bool) : Core :=
  let first := c.f F.SYS_GATED_ACCESS_COUNT = 0
  let c := if first then
      let a := 0xF000000000 + off
      (((c.put R.SYS_GATED_ADDR_LO (.ofNat 32 a)).setF F.SYS_GATED_ADDR_HI_ADDR (a / 2 ^ 32)).setF
        F.SYS_GATED_ADDR_HI_MASTER m).setB F.SYS_GATED_ADDR_HI_WRITE write
    else c
  (c.countS F.SYS_GATED_ACCESS_COUNT F.SYS_GATED_ACCESS_SAT 1).raiseIf first F.SYS_INT_STATUS_GATED_ACCESS

/-- An access for which no path exists, or to an address that is no range: counted and recorded (R445, R536). -/
def Core.noPath (c : Core) (m addr : Nat) (write : Bool) : Core :=
  let c := if c.f F.FABRIC_NO_PATH_COUNT = 0 then
      (((c.put R.FABRIC_NO_PATH_ADDR_LO (.ofNat 32 addr)).setF F.FABRIC_NO_PATH_ADDR_HI_ADDR (addr / 2 ^ 32)).setF
        F.FABRIC_NO_PATH_ADDR_HI_MASTER m).setB F.FABRIC_NO_PATH_ADDR_HI_WRITE write
    else c
  (c.countS F.FABRIC_NO_PATH_COUNT F.FABRIC_NO_PATH_SAT 1).raise F.FABRIC_INT_STATUS_NO_PATH

/-- Whether a master port has a path to a register offset (R445, R169). -/
def regPath (m off : Nat) : Bool :=
  m ≤ 3 || m = 8 || (m = 4 && off / 0x100000 = 3) ||
    (16 ≤ m && m ≤ 83 && R.HOST_HOLD 0 ≤ off && off ≤ R.HOST_HOLD 63)

/-- Whether a BAR0 write of every field is served (R153). -/
def Core.bar0All (c : Core) (m off : Nat) : Bool :=
  m ≠ 8 || off / 0x100000 ≤ 3 || c.flag F.HOST_EXPERT_CTRL_BAR0_WRITE_EN

/-- A BAR0 write that is not served in every field: counted, and the first one recorded (R153). -/
def Core.bar0Denied (c : Core) (off : Nat) : Core :=
  let first := c.f F.HOST_BAR0_DENIED_COUNT = 0
  let c := if first then
      let a := 0xF000000000 + off
      (c.put R.HOST_BAR0_DENIED_ADDR_LO (.ofNat 32 a)).setF F.HOST_BAR0_DENIED_ADDR_HI_ADDR (a / 2 ^ 32)
    else c
  (c.countS F.HOST_BAR0_DENIED_COUNT F.HOST_BAR0_DENIED_SAT 1).raise F.HOST_INT_STATUS_BAR0_DENIED

/-! ### What a write leaves in a register -/

/-- A field outside a range is replaced by the nearest limit. -/
def limitField (hi lo a b : Nat) (w : Word) : Word := withBits w hi lo (clampNat a b (bitsOf w hi lo))

/-- The same of a NET register: RATE and MAX_FRAME of P2 stand, MAX_FRAME is limited, and while PENDING the admin list, CYCLE and
BASE stand (R356, R359, R369). -/
def Core.fixNet (c : Core) (off : Nat) (old new : Word) : Word :=
  let p := off / 0x100000 - 0xC
  let x := off % 0x100000
  if x = 0x10 ∧ p = 2 then withBits new 1 1 0
  else if x = 0x14 then withBits new 13 0 (if p = 2 then 9216 else clampNat 1518 9216 (bitsOf new 13 0))
  else if c.flag (F.NET_STATUS_GATE_PENDING p) then
    if x = 0x50 then withBits new 16 8 (bitsOf old 16 8)
    else if (0x54 ≤ x ∧ x ≤ 0x60) ∨ (0x400 ≤ x ∧ x < 0x800) then old else new
  else new

/-- The word a register keeps of a written word, where its table limits a field, or keeps the old one (the register tables
of the chapters). -/
def Core.fixWrite (c : Core) (off : Nat) (old new : Word) : Word :=
  if 0xC00000 ≤ off ∧ off < 0x1000000 then c.fixNet off old new else
  if off = R.CLK_QUAL then limitField 25 16 1 600 (limitField 9 0 1 600 new)
  else if off = R.CLK_REF_CTRL then limitField 15 8 1 100 new
  else if off = R.CLK_AON_TRIM then (if c.f F.CLK_AON_TRIM_CTRL_SRC = 0 then new else old)
  else if off = R.TIME_STEP_LIMIT then limitField 29 0 100 1000000000 new
  else if off = R.HOST_BAR2_BASE then (if bitsOf new 5 0 > 55 then old else new)
  else if off = R.HOST_CMD_BASE_LO ∨ off = R.HOST_CMD_BASE_HI then (if c.flag F.HOST_CMD_SIZE_EN then old else new)
  else if off = R.HOST_RPL_BASE_LO ∨ off = R.HOST_RPL_BASE_HI then (if c.flag F.HOST_RPL_SIZE_EN then old else new)
  else if off = R.HOST_CMD_SIZE ∨ off = R.HOST_RPL_SIZE then
    (if bitOf old 31 then withBits new 3 0 (bitsOf old 3 0) else new)
  else if off = R.CALIPER_CTRL then limitField 16 8 1 256 (limitField 4 0 1 16 new)
  else if off = R.ARMATURE_NONPCM_HOLD then limitField 17 0 2048 131072 new
  else if off = R.ATELIER_TRACE_CTRL then
    (let new := limitField 7 4 8 20 new
     if bitOf old 0 then withBits (withBits new 1 1 (bitsOf old 1 1)) 7 4 (bitsOf old 7 4) else new)
  else if off = R.FLASH_SCRUB then limitField 23 16 8 72 (limitField 15 8 1 180 (limitField 7 0 1 90 new))
  else if R.CRC_CH_ADDR_LO 0 ≤ off ∧ off < R.CRC_CH_ADDR_LO 4 then
    (if c.flag (F.CRC_CH_CTRL_BUSY ((off - R.CRC_CH_ADDR_LO 0) / 64)) then old else new)
  else if off = R.ATELIER_TRACE_BASE_LO ∨ off = R.ATELIER_TRACE_BASE_HI then
    (if c.flag F.ATELIER_TRACE_CTRL_EN then old else new)
  else if off = R.MEMC_SCRUB then limitField 7 0 1 168 new
  else if off = R.UPDATE_CFG then limitField 15 4 1 400 new
  else if R.PDM_FIR_COEF 0 ≤ off ∧ off ≤ R.PDM_FIR_COEF 31 then
    (if (List.range 16).any fun n => c.flag (F.PDM_CH_CTRL_EN n) then old
     else .ofNat 32 (unsigned 32 (signed 24 new.toNat)))
  else new

/-- The masks of the fields a write reaches, when only W1C fields are served and when all are (R153). -/
def servedMasks (r : RegRow) (all : Bool) : Nat × Nat × Nat := if all then (r.rw, r.w1c, r.w1s) else (0, r.w1c, 0)

/-- The value of a register after a write of `v` by the access types of its fields (R12): RW fields take it, a 1 clears a
W1C bit, a 1 sets a W1S bit. -/
def typedWrite (old v m : Word) (w1c w1s : Nat) : Word :=
  ((old &&& ~~~m) ||| (v &&& m)) &&& ~~~(v &&& .ofNat 32 w1c) ||| (v &&& .ofNat 32 w1s)

/-- The INT_STATUS offset of a window (R171). -/
def intStatusOf (off : Nat) : Nat :=
  let w := off / 0x100000
  if w = 0 then R.SYS_INT_STATUS else if 0x20 ≤ w then R.BRUSH_INT_STATUS else w * 0x100000 + 4

/-- A register takes a value; a source that this makes active sends its message (R171). -/
def Core.putIrq (c : Core) (off : Nat) (w : Word) : Core :=
  let st := intStatusOf off
  let was := c.active st
  let c' := c.put off w
  if (off = st ∨ off = st + 4) ∧ !was ∧ c'.active st then c'.fireSource st else c'

/-- The part of a write that reaches a register by type. W1S fields named in `hold` start an operation of their own and
are left to it. -/
def Core.writeTyped (c : Core) (off : Nat) (v : Word) (r : RegRow) (all : Bool) (hold : Nat) : Core :=
  let m := servedMasks r all
  let old := c.get off
  let keep : Word := .ofNat 32 hold
  let new := typedWrite old (v &&& ~~~keep) (.ofNat 32 m.1 &&& ~~~keep) m.2.1 m.2.2
  c.putIrq off (c.fixWrite off old new)

/-- A register write over the fabric (R11, R15, R153, R445): no path, an unassigned window and a gated block are counted
and ignored; an undefined offset ignores it; otherwise the served fields act by type and `act` carries out what the write
starts, when its field is served. `hold` masks the bits that `act` looks after. -/
def Core.busWrite (c : Core) (a : Access) (hold : Nat) (act : Core → Core) : Core :=
  if !regPath a.master a.off ∨ !windowAssigned a.off then c.noPath a.master (0xF000000000 + a.off) true
  else if c.gated a.off then c.gatedAccess a.master a.off true
  else
    match regRow? a.off with
    | none => c
    | some r =>
      let all := c.bar0All a.master a.off
      let c := if !all ∧ (r.rw ≠ 0 ∨ r.w1s ≠ 0 ∨ r.wo ≠ 0) then c.bar0Denied a.off else c
      let c := c.writeTyped a.off a.value r all hold
      if all then act c else c

/-- A register read over the fabric: `none` where the access reads 0 and is counted (R11, R15, R445). -/
def Core.busRead (c : Core) (m off : Nat) (act : Core → Word × Core) : Core :=
  if !regPath m off ∨ !windowAssigned off then (c.noPath m (0xF000000000 + off) false).send (.read m off 0)
  else if c.gated off then (c.gatedAccess m off false).send (.read m off 0)
  else
    match regRow? off with
    | none => c.send (.read m off 0)
    | some _ => let x := act c; x.2.send (.read m off x.1)

end Sys2Proof.Machine
end

