-- ==== Sys2Proof/Machine/Smudge.lean ====
section
/-! DEFINITION. What an armed Smudge class does where it acts: decisions of its register, and frames, timestamps, posts, programs
and responses that it perturbs (R531, R532). -/

namespace Sys2Proof.Machine

/-- Whether a Smudge class is armed. -/
def Core.armed (c : Core) (cls : Nat) : Bool := bitOf (c.get R.SMUDGE_STATUS) (1 + cls)

/-- One decision: the register advances, and its low n bits decide (R300, R531). -/
def Core.draw (c : Core) (n : Nat) : Nat × Core :=
  let s := galoisStep c.health.lfsr.toNat
  (s % 2 ^ n, { c with health := { c.health with lfsr := .ofNat 32 s } })

/-- A perturbation of a class has been applied. -/
def Core.smudgeHit (c : Core) (cls : Nat) : Core := c.countW (R.SMUDGE_EVENTS cls) 1

/-- How often an accepted frame of a port and class (1 PTP, 2 media, 3 Easel) is passed on: dropped, once or twice. -/
def Core.frameCopies (c : Core) (p cls : Nat) : Nat × Core :=
  let k := c.f F.SMUDGE_NET_CLASS
  if !c.armed 3 ∨ c.f F.SMUDGE_NET_PORT ≠ p ∨ (k ≠ 0 ∧ k ≠ cls) then (1, c)
  else
    let d := c.draw 8
    if d.1 < c.f F.SMUDGE_NET_DROP then (0, d.2.smudgeHit 3)
    else
      let e := d.2.draw 8
      if e.1 < c.f F.SMUDGE_NET_DUP then (2, e.2.smudgeHit 3) else (1, e.2)

/-- An accepted frame of a port and class is passed on to what receives it. -/
def Core.passFrame (c : Core) (p cls : Nat) (act : Core → Core) : Core :=
  let x := c.frameCopies p cls
  if x.1 = 0 then x.2 else if x.1 = 1 then act x.2 else act (act x.2)

/-- What Smudge adds to a corrected ingress timestamp of a port, in units of 2⁻¹⁶ ns. -/
def Core.ptpSmudge (c : Core) (p : Nat) : Int × Core :=
  if c.armed 4 ∧ p ≠ 2 ∧ bitOf (c.get R.SMUDGE_PTP) p then (signed 32 (c.get R.SMUDGE_PTP_OFFSET).toNat, c.smudgeHit 4) else (0, c)

/-- Whether a post is refused with FULL: as many tasks as SLOTS gives are in flight. -/
def Core.postSmudged (c : Core) (inFlight : Nat) : Bool := c.armed 1 && decide (inFlight ≥ max 1 (c.f F.SMUDGE_ATELIER_SLOTS))

/-- A window fetch of a lane: whether it waits is decided and counted; waiting changes no sample by itself (R248). -/
def Core.laneSmudge (c : Core) (lane : Nat) : Core :=
  let on := if lane < 32 then bitOf (c.get R.SMUDGE_LANE_MASK) lane else bitOf (c.get R.SMUDGE_LANE) (lane - 32)
  if !c.armed 2 ∨ !on then c
  else
    let d := c.draw 6
    if d.1 ≤ c.f F.SMUDGE_LANE_PROB then d.2.smudgeHit 2 else d.2

/-- A response of a fabric target to a master: whether it is delayed is decided and counted. -/
def Core.fabricSmudge (c : Core) (target port : Nat) : Core :=
  let p := c.f F.SMUDGE_FABRIC_PORT_PORT
  if !c.armed 0 ∨ !bitOf (c.get R.SMUDGE_FABRIC) target ∨ (p ≠ 0x7F ∧ p ≠ port) then c
  else
    let d := c.draw 6
    if d.1 ≤ c.f F.SMUDGE_FABRIC_PROB then d.2.smudgeHit 0 else d.2

/-- Whether a flash operation in an area is to report failure, of which there are COUNT (R531). -/
def Core.flashSmudge (c : Core) (area : Nat) (erase : Bool) : Bool × Core :=
  let n := c.f F.SMUDGE_FLASH_COUNT
  if !c.armed 6 ∨ n = 0 ∨ area = 0 ∨ area > 6 ∨ !bitOf (c.get R.SMUDGE_FLASH) (7 + area) ∨ (erase ∧ !c.flag F.SMUDGE_FLASH_ERASE) then
    (false, c)
  else (true, (c.setF F.SMUDGE_FLASH_COUNT (n - 1)).smudgeHit 6)

end Sys2Proof.Machine
end

