-- ==== Sys2Proof/Machine/Tether.lean ====
section
/-! DEFINITION. The twin state as other functions see it, which commands are mirrored, and frames on the tether (R476, R480, R481,
R485, R487). -/

namespace Sys2Proof.Machine

/-- TWIN_STATUS.STATE (R476): 0 SOLO, 1 PAIRING, 2 ACTIVE, 3 STANDBY, 4 TAKING_OVER, 5 HANDING_OVER, 6 ISOLATED. -/
def Core.twinState (c : Core) : Nat := c.f F.TWIN_STATUS_STATE

/-- The module plays for the pair. -/
def Core.twinPlays (c : Core) : Bool := c.twinState = 2 || c.twinState = 5

/-- The module waits: its Easel refuses what is mirrored (R486). -/
def Core.twinWaits (c : Core) : Bool := c.twinState = 1 || c.twinState = 3 || c.twinState = 6

/-- Transmit streams are held and shared TDM ports released (R476, R487, R491). -/
def Core.twinHeld (c : Core) : Bool := c.twinWaits || (c.twinState = 4 && !c.twin.released)

/-- Whether a TDM port is shared and released (R487). -/
def Core.tdmReleased (c : Core) (p : Nat) : Bool := c.twinHeld && bitOf (c.get R.TWIN_CFG) (24 + p)

/-- Opcodes of R481 whose names end in _GET or _READ, of the classes that are mirrored otherwise. -/
def readOpcodes : List Nat := [0x0110, 0x0121, 0x0125, 0x0201, 0x0211, 0x0221, 0x0223, 0x0225, 0x0227, 0x0229, 0x0309, 0x030A, 0x0311,
  0x0400, 0x0421, 0x0501, 0x0513, 0x0521, 0x0540, 0x0550, 0x0601, 0x0604, 0x0611, 0x0613, 0x0614, 0x0700, 0x0703, 0x0704, 0x0725,
  0x0730, 0x0740, 0x0809, 0x0811, 0x0900, 0x0904, 0x0914, 0x0921, 0x0A00, 0x0A01, 0x0A05, 0x0A06, 0x0A07, 0x0B00, 0x0B05, 0x0B20]

/-- Whether a command is mirrored (R481). -/
def mirrored (op : Nat) : Bool :=
  !(op / 256 = 0x0C || op / 256 = 0x0D || op / 256 = 0x0E || (0x0100 ≤ op && op ≤ 0x0107) || (0x0111 ≤ op && op ≤ 0x0116) ||
    op = 0x0600 || op = 0x0B10 || readOpcodes.contains op)

/-- The largest payload of a mirror set in bytes (R482). -/
def Core.setLimit (c : Core) : Nat := if c.clk.mult ≥ 1 ∨ c.clk.ll = 1 then 262144 else 524288

/-- The bytes of a mirrored command in a set: header, AT_TIME word and parameters, and the status as a word. -/
def MirrorCmd.size (x : MirrorCmd) : Nat := 20 + x.packet.payload.length

/-- The bytes of the set that the block in hand has filled so far. -/
def Core.setFill? (c : Core) : Nat :=
  c.twin.cmds.foldl (fun n x => n + x.size) 0 + c.twin.libs.foldl (fun n x => n + 12 + x.data.length) 0

/-- Whether a packet would overflow the set of the block (R482). -/
def Core.setFull (c : Core) (op : Nat) (p : Packet) : Bool :=
  c.twinPlays && decide (c.setFill? + (if mirrored op then 20 + p.payload.length else 0) > c.setLimit)

/-- The partner is READY. -/
def Core.partnerReady (c : Core) : Bool := c.flag F.TWIN_STATUS_TETHER_UP && decide (c.f F.TWIN_STATUS_PARTNER_FLAGS / 32 % 2 = 1)

/-- Replies to mirrored commands are held for the ACK of their set (R485). -/
def Core.holdsReplies (c : Core) : Bool :=
  c.twinPlays && c.flag F.TWIN_CFG_SYNC_REPLY && c.partnerReady

/-- The FLAGS of R480. -/
def Core.twinFlags (c : Core) : Nat :=
  c.f F.SYS_STATUS_THERM_HOLD + 2 * b2n (c.f F.RENDER_OVERRUN_COUNT + c.f F.OUTPROC_OVERRUN_COUNT > c.twin.overruns) +
    4 * b2n (c.f F.ATELIER_FAULTED_COUNT > c.twin.faulted) + 8 * b2n (!c.power.vinOn) + 16 * b2n (!c.clk.mediaOn) +
    32 * b2n (c.flag F.TWIN_STATUS_READY)

/-- A tether frame waits on P2 in traffic class 6: the header fields of R480 but MAGIC and VERSION, then the payload. -/
def Core.tetherSend (c : Core) (kind frag block setLen check : Nat) (payload : List Byte) : Core :=
  let names := ["", "MIRROR", "ACK", "RESYNC_REQ", "RESYNC_DATA", "SWITCH", "RELINQUISH", "PAIR"]
  let head := [kind, c.twinState, c.twinFlags, frag, block % 2 ^ 32, block / 2 ^ 32, (c.get R.TWIN_EPOCH).toNat, setLen, check]
  let m : Msg := .frame 2 6 ("TETHER " ++ names.getD kind "") (head ++ payload.map (·.toNat))
  c.queueFrame 2 { cls := 6, len := 46 + payload.length, msg := m }

/-- Step 2 of the ordered shutdown: an ACTIVE module gives up the role (R489). -/
def Core.relinquish (c : Core) : Core := if c.twinPlays then c.tetherSend 6 0x8000 c.time.n 0 0 [] else c

end Sys2Proof.Machine
end

