-- ==== Sys2Proof/Machine/Easel.lean ====
section
/-! DEFINITION. The Easel engine: checks on arrival, sessions and sequence numbers, levels, timed execution, replies and
notices (R138 to R157), as one operation that every opcode's meaning goes through. -/

namespace Sys2Proof.Machine

/-! ### Media time -/

/-- The running media sample rate in Hz (R89). -/
def Core.fsHz (c : Core) : Nat := if c.clk.family = 1 then 44100 else 48000 * 2 ^ c.clk.mult

/-- The block length in samples: 16, or 8 in low-latency mode. -/
def Core.blk (c : Core) : Nat := if c.clk.ll = 1 then 8 else 16

/-- The PTP counter in nanoseconds. -/
def Core.ptpNs (c : Core) : Nat := c.time.ptp / 2 ^ 32

/-- The media count that the TIME block carries from the PTP counter, N = floor(T × fs) (R113). -/
def Core.countOfPtp (c : Core) : Nat := c.time.ptp * c.fsHz / (10 ^ 9 * 2 ^ 32)

/-- The current media count of R150: the media sample counter while MEDIA runs, else the count of R113. -/
def Core.now (c : Core) : Nat := if c.clk.mediaOn then c.time.n else c.countOfPtp

/-- The first block boundary at or after a media count (R113). -/
def Core.boundaryAt (c : Core) (n : Nat) : Nat := ceilDiv n c.blk * c.blk

/-- The Glaze time in samples: the default length of CALIPER_CTRL.GLAZE in units of 16 samples (R221). -/
def Core.glaze (c : Core) : Nat := 16 * c.f F.CALIPER_CTRL_GLAZE

/-- The first block boundary at least the Glaze time plus one block from now. -/
def Core.anchorB (c : Core) : Nat := c.boundaryAt (c.now + c.glaze + c.blk)

/-- The next block boundary after now. -/
def Core.nextB (c : Core) : Nat := c.boundaryAt (c.now + 1)

/-! ### Status codes (R157) -/

/-- The status of a reply or notice. -/
inductive Status where
  | ok | accepted | busy | restarting | badOpcode | badLength | badParam | outOfRange | notPermitted | locked
  | noResource | noSpace | conflict | stale | aborted | faulted | verifyFailed
deriving DecidableEq, Repr

/-- The code of a status (R157). -/
def statusCode : Status → Nat
  | .ok => 0x0000 | .accepted => 0x0001 | .busy => 0x0100 | .restarting => 0x0101 | .badOpcode => 0x0200
  | .badLength => 0x0201 | .badParam => 0x0202 | .outOfRange => 0x0203 | .notPermitted => 0x0300 | .locked => 0x0301
  | .noResource => 0x0400 | .noSpace => 0x0401 | .conflict => 0x0500 | .stale => 0x0501 | .aborted => 0x0600
  | .faulted => 0x0601 | .verifyFailed => 0x0700

/-! ### Sending -/

/-- The number of slots of a ring from its SIZE register: 2^LOG2, with LOG2 outside 6 to 12 treated as 6 (R159). -/
def ringSlots (w : Word) : Nat :=
  let l := bitsOf w 3 0
  2 ^ (if 6 ≤ l ∧ l ≤ 12 then l else 6)

/-- The slots a packet of some bytes occupies (R159). -/
def slotsOf (bytes : Nat) : Nat := ceilDiv bytes 64

/-- The bytes of a message on a packet transport. -/
def msgBytes : Msg → Nat
  | .easel _ _ _ _ _ _ body => 16 + body.length
  | _ => 0

/-- A message replaced by BAD_LENGTH with LENGTH 0 (R141, R161). -/
def msgTooLong : Msg → Msg
  | .easel t fl _ op sq se _ => .easel t fl (statusCode .badLength) op sq se []
  | m => m

/-- Whether the reply ring has room for a message (R159). -/
def Core.ringFits (c : Core) (m : Msg) : Bool :=
  let size := ringSlots (c.get R.HOST_RPL_SIZE)
  let free := (c.f F.HOST_RPL_CONS_INDEX + size - c.f F.HOST_RPL_PROD_INDEX % size - 1) % size
  c.flag F.HOST_RPL_SIZE_EN && slotsOf (msgBytes m) ≤ free

/-- A message written to the reply ring: its slots, then HOST_RPL_PROD, then the REPLY doorbell (R161, R167). -/
def Core.ringPut (c : Core) (m : Msg) : Core :=
  let size := ringSlots (c.get R.HOST_RPL_SIZE)
  ((c.send m).setF F.HOST_RPL_PROD_INDEX ((c.f F.HOST_RPL_PROD_INDEX + slotsOf (msgBytes m)) % size)).ring 1

/-- An Easel datagram with some bytes above its IP header waits on P3, in fragments when it exceeds MAX_FRAME; the message counts
with the last one (R139, R366). -/
def Core.queueDatagram (c : Core) (bytes : Nat) (m : Msg) : Core :=
  let head := 34 + 4 * c.f (F.NET_VLAN_TAG 3)
  let unit := 8 * ((c.f (F.NET_MAX_FRAME_BYTES 3) - 4 - head) / 8)
  let k := ceilDiv bytes unit
  let c := (List.range (k - 1)).foldl (fun (c : Core) i =>
    c.queueFrame 3 { cls := 0, len := head + unit, msg := .frame 3 0 "IP fragment" [i] }) c
  c.queueFrame 3 { cls := 0, len := head + (bytes - (k - 1) * unit), msg := m }

/-- A reply or notice goes to its transport. On the rings the module never drops one: it waits for room, and one that
cannot fit at all becomes BAD_LENGTH (R161). -/
def Core.post (c : Core) (m : Msg) : Core :=
  match m with
  | .easel .pcie _ _ _ _ _ body =>
    let size := ringSlots (c.get R.HOST_RPL_SIZE)
    let m := if body.length > 65520 ∨ slotsOf (msgBytes m) > size - 1 then msgTooLong m else m
    if c.host.held.isEmpty ∧ c.ringFits m then c.ringPut m
    else { c with host := { c.host with held := c.host.held ++ [m] } }
  | .easel (.udp ..) _ _ _ _ _ body =>
    let m := if body.length > 4080 then msgTooLong m else m
    c.queueDatagram (8 + msgBytes m) m
  | _ => c.send m

/-- Held replies go out while they fit (R161). -/
def Core.drainHeld : Nat → Core → Core
  | 0, c => c
  | n + 1, c =>
    match c.host.held with
    | [] => c
    | m :: t => if c.ringFits m then Core.drainHeld n (({ c with host := { c.host with held := t } }).ringPut m) else c

/-! ### Sessions -/

/-- The session with a number. -/
def Core.session? (c : Core) (num : Nat) : Option Session := c.host.sessions.find? (·.num = num)

/-- A session changes. -/
def Core.setSession (c : Core) (s : Session) : Core :=
  { c with host := { c.host with sessions := c.host.sessions.map fun x => if x.num = s.num then s else x } }

/-- Whether a session is in expert mode (R152). -/
def Core.isExpert (c : Core) (num : Nat) : Bool := num ≠ 0 && c.f F.HOST_EXPERT_CTRL_SESSION = num

/-- Whether a packet came over the transport of a session, and for UDP from its source (R143, step 4). -/
def sameTransport : Transport → Transport → Bool
  | .pcie, .pcie => true
  | .udp .., .udp .. => true
  | .mailbox a, .mailbox b => a = b
  | _, _ => false

/-- A session enters or leaves expert mode: HOST_EXPERT_CTRL and HOST_STATUS follow (R152, R153). -/
def Core.setExpert (c : Core) (num : Nat) (pcie : Bool) : Core :=
  ((c.setF F.HOST_EXPERT_CTRL_SESSION num).setB F.HOST_EXPERT_CTRL_BAR0_WRITE_EN (num ≠ 0 && pcie)).setB
    F.HOST_STATUS_EXPERT_OPEN (num ≠ 0)

/-- A session closes; an expert session gives up expert mode (R145, R155). Notices of what it started are discarded. -/
def Core.closeSession (c : Core) (num : Nat) : Core :=
  let c := if c.isExpert num then c.setExpert 0 false else c
  { c with host := { c.host with sessions := c.host.sessions.filter (·.num ≠ num) } }

/-- Every session whose transport satisfies a test closes. -/
def Core.closeSessions (c : Core) (q : Transport → Bool) : Core :=
  (c.host.sessions.filter fun s => q s.transport).foldl (fun c s => c.closeSession s.num) c

/-- Whether a transport is a PCIe one. -/
def isPcie : Transport → Bool
  | .pcie => true
  | _ => false

/-- Whether a transport is UDP. -/
def isUdp : Transport → Bool
  | .udp .. => true
  | _ => false

/-! ### Replies that wait for the partner (R485) -/

/-- Whether a message is a reply to a session's command. -/
def replyTo (session : Nat) (seq : Word) : Msg → Bool
  | .easel _ 0 _ _ q s _ => s = session && q = seq
  | _ => false

/-- A notice goes out, or waits behind the reply of its command. -/
def Core.postAfter (c : Core) (session : Nat) (seq : Word) (m : Msg) : Core :=
  match c.twin.replies.find? fun x => replyTo session seq x.2 with
  | some x => { c with twin := { c.twin with replies := c.twin.replies ++ [(x.1, m)] } }
  | none => c.post m

/-- The reply that a session keeps for a command counts as sent. -/
def Core.markSent (c : Core) (session : Nat) (seq : Word) (sent : Bool) : Core :=
  match c.session? session with
  | some s => c.setSession { s with stored := s.stored.map fun r => if r.seq = seq then { r with sent := sent } else r }
  | none => c

/-- Held replies whose block satisfies a test go out, with the notices behind them. -/
def Core.releaseReplies (c : Core) (q : Nat → Bool) : Core :=
  let l := c.twin.replies.filter fun x => q x.1
  let c := { c with twin := { c.twin with replies := c.twin.replies.filter fun x => !q x.1 } }
  l.foldl (fun (c : Core) x =>
    match x.2 with
    | .easel _ 0 _ _ sq se _ => (c.markSent se sq true).post x.2
    | m => c.post m) c

/-! ### Notices -/

/-- A completion notice goes to the session of an accepted operation, if it is still open, and waits while the control
plane restarts (R142, R145, R148, R149). Only an operation that still waits for its notice gets one. -/
def Core.notice (c : Core) (t : Tok) (st : Status) (body : List Byte) : Core :=
  if t ∈ c.host.ops then
    let c := { c with host := { c.host with ops := c.host.ops.erase t } }
    if c.flag F.HOST_STATUS_RESTARTING then
      { c with host := { c.host with later := c.host.later ++ [(t, statusCode st, body)] } }
    else
      match c.session? t.session with
      | some s => c.postAfter t.session t.seq (.easel s.transport 1 (statusCode st) t.opcode t.seq t.session body)
      | none => c
  else c

/-- A completion notice where there is an operation to complete. -/
def Core.notice? (c : Core) (t : Option Tok) (st : Status) (body : List Byte) : Core :=
  match t with
  | some t => c.notice t st body
  | none => c

/-- The event notices due at a block boundary: one to each session subscribed to a source that gained an enabled status
bit in the block (R156). -/
def Core.eventNotices (c : Core) : Core :=
  let srcs := c.host.gained
  let c := { c with host := { c.host with gained := [] } }
  srcs.foldl (fun c k =>
    c.host.sessions.foldl (fun c s =>
      if bitOf s.mask k then
        let s := { s with events := s.events + 1 }
        let base := if k = 25 then R.BRUSH_INT_STATUS else if k = 0 then R.SYS_INT_STATUS
          else if k < 16 then k * 0x100000 + 4
          else (if k ≤ 19 then k else k + 1) * 0x100000 + 4
        (c.setSession s).post (.easel s.transport 2 0 0x0104 s.events s.num
          (natBytes [k, (c.get base).toNat, c.time.n % 2 ^ 32, c.time.n / 2 ^ 32]))
      else c) c) c

/-! ### Arrival -/

/-- Parameter bytes a transport can carry (R138). -/
def maxParams : Transport → Nat
  | .pcie => 65520
  | .udp .. => 4080
  | .mailbox _ => 2

/-- What the checks on arrival decide (R143, steps 1 to 6). -/
inductive Arrival where
  | discard
  | refuse (st : Status)
  | duplicate (r : Stored)
  | silent
  | openAgain (s : Session)
  | take
deriving DecidableEq, Repr

/-- FLAGS bits (R140). -/
def pkExpert (p : Packet) : Bool := p.flags.getLsbD 0
def pkNoReply (p : Packet) : Bool := p.flags.getLsbD 1
def pkAtTime (p : Packet) : Bool := p.flags.getLsbD 2

/-- The parameter bytes: what follows the AT_TIME word, where there is one (R140). -/
def pkParams (p : Packet) : List Byte := if (pkAtTime p) then p.payload.drop 8 else p.payload

/-- The AT_TIME value (R140). -/
def pkAt (p : Packet) : Nat := leNat (p.payload.take 8)

/-- Whether the Easel engines answer at all: from step 9 of start-up, or in recovery (R121, R123). -/
def Core.easelAnswers (c : Core) : Bool := c.power.step ≥ 9 || c.flag F.SYS_STATUS_RECOVERY

/-- Whether the control plane takes packets: READY and not restarting, or in recovery (R121, R123, R127). -/
def Core.easelRuns (c : Core) : Bool :=
  (c.flag F.HOST_STATUS_EASEL_READY || c.flag F.SYS_STATUS_RECOVERY) && !c.flag F.HOST_STATUS_RESTARTING

/-- The commands of a session that wait for their first reply: those whose replies the reply ring holds (R143, step 6). -/
def Core.waiting (c : Core) (num : Nat) : Nat :=
  (c.host.held.filter fun m => match m with
    | .easel _ fl _ _ _ se _ => fl = 0 && se = num
    | _ => false).length

/-- The checks of R143, steps 1 to 6, in order. -/
def Core.arrival (c : Core) (opcode : Nat) (p : Packet) : Arrival :=
  if p.magic ≠ 0x455A then .discard
  else if p.version ≠ 1 ∨ p.flags.toNat ≥ 8 ∨ p.reserved ≠ 0 ∨ (opcode = 0x0100 ∧ p.session ≠ 0) then .refuse .badParam
  else if p.length.toNat > maxParams p.transport ∨ p.payload.length ≠ 8 * b2n (pkAtTime p) + p.length.toNat then
    .refuse .badLength
  else if p.session = 0 then
    if opcode ≠ 0x0100 then .refuse .stale
    else
      match c.host.sessions.find? fun s =>
          isUdp p.transport && decide (s.transport = p.transport) && s.base = p.seq &&
            decide (c.time.cycles - s.openAt ≤ 2500000000) with
      | some s => .openAgain s
      | none => if c.easelRuns then .take else .refuse .restarting
  else
    match c.session? p.session.toNat with
    | none => .refuse .stale
    | some s =>
      if !sameTransport s.transport p.transport then .refuse .stale
      else if p.seq ≠ s.expected then
        match s.stored.find? fun r => r.seq = p.seq && r.opcode = opcode && r.length = p.length.toNat with
        | some r => if r.sent then .duplicate r else .silent
        | none => .refuse .stale
      else if !c.easelRuns then .refuse .restarting
      else if c.waiting s.num ≥ 64 ∨ c.setFull opcode p then .refuse .busy
      else .take

/-- A reply to a packet (R141, R142). -/
def Core.reply (c : Core) (opcode : Nat) (p : Packet) (session : Nat) (st : Status) (body : List Byte) : Core :=
  if (pkNoReply p) ∧ (st = .ok ∨ st = .accepted) then c
  else c.post (.easel p.transport 0 (statusCode st) opcode p.seq session body)

/-- A taken packet: HOST_EASEL_RX_COUNT counts it, the session expects the next SEQUENCE, and its first reply is kept for
duplicates (R143, R147). -/
def Core.taken (c : Core) (opcode : Nat) (p : Packet) (st : Status) (body : List Byte) : Core :=
  match c.session? p.session.toNat with
  | none => c
  | some s =>
    c.setSession { s with
      expected := p.seq + 1
      stored := (({ seq := p.seq, opcode := opcode, length := p.length.toNat, status := statusCode st,
                    body := body, sent := true } : Stored) :: s.stored).take 64 }

/-! ### Opcodes -/

/-- What the Easel engine knows of an opcode: its number, whether it is an expert opcode, whether it can be timed, which
lengths it takes. -/
structure Opc where
  code : Nat
  expert : Bool := false
  timeable : Bool := false
  len : Nat → Bool := fun _ => true
  /-- A timed command's checks of R150 come last (R219). -/
  lateTime : Bool := false
  /-- A timed command schedules its effect when it is accepted, rather than taking effect as a whole at its boundary. -/
  eager : Bool := false

/-- A command as its meaning sees it: the packet, its parameter bytes and words, and whom a notice goes to. -/
structure Req where
  p : Packet
  bytes : List Byte
  words : List Word
  tok : Tok

/-- Parameter word i, 0 past the end. -/
def Req.w (r : Req) (i : Nat) : Word := r.words.getD i 0

/-- Parameter word i as a number. -/
def Req.n (r : Req) (i : Nat) : Nat := (r.w i).toNat

/-- What the body of an opcode answers: the state, the status and the reply parameters. -/
abbrev Answer := Core × Status × List Byte

/-- The body of an opcode. -/
abbrev Body := Core → Req → Answer

/-- OK with words. -/
def okW (c : Core) (ws : List Nat) : Answer := (c, .ok, natBytes ws)

/-- A status with no parameters. -/
def ans (c : Core) (st : Status) : Answer := (c, st, [])

/-- The function a command is aimed at, whose reset refuses it: by its class Caliper, Survey, the flash controller and the twin
link; by its port, engine, core or group a TDM port, a network port, a render engine or a Brush group (R128). -/
def opcodeFunc (code : Nat) (ws : List Word) : Option Nat :=
  let w := fun i => (ws.getD i 0).toNat
  let group := fun (l : Nat) => if l < 64 then some (20 + l / 16) else none
  if code / 256 = 4 then some 24
  else if code / 256 = 7 then some 25
  else if code / 256 = 0x0D then some 28
  else if (0x0B01 ≤ code && code ≤ 0x0B07) || code = 0x0B19 then some 26
  else if code = 0x0500 || code = 0x0501 then (if w 0 < 8 then some (w 0) else none)
  else if 0x0600 ≤ code && code ≤ 0x0604 then
    (if w 0 < 2 then some (8 + w 0) else if w 0 = 2 then some 28 else if w 0 = 3 then some 10 else none)
  else if code = 0x0A01 then (if w 0 < 9 then some (11 + w 0) else none)
  else if 0x0903 ≤ code && code ≤ 0x0906 then group (w 0)
  else if code = 0x0907 then group (w 2)
  else if code = 0x0910 then group (w 1)
  else if code = 0x0920 || code = 0x0921 then (if w 0 < 4 then some (20 + w 0) else none)
  else none

/-- The classes that recovery accepts (R123): 0x0Cxx, 0x0100–0x0107 and SYS_STATE_GET. -/
def recoveryOp (op : Nat) : Bool := op / 256 = 0x0C || (0x0100 ≤ op && op ≤ 0x0107) || op = 0x0110

/-- The level check of R152. -/
def levelOk (c : Core) (o : Opc) (p : Packet) : Bool :=
  let e := c.isExpert p.session.toNat
  (!(pkExpert p) || e) && (!o.expert || ((pkExpert p) && e))

/-- The command of a packet as its meaning sees it. -/
def reqOf (o : Opc) (p : Packet) : Req :=
  { p := p, bytes := (pkParams p), words := bytesWords (pkParams p),
    tok := { session := p.session.toNat, seq := p.seq, opcode := o.code } }

/-- The check of a timed command (R150) after a trial of its body; none is a timed command that can be queued. -/
def timedCheck (c : Core) (o : Opc) (p : Packet) : Option Status :=
  let b := c.boundaryAt (pkAt p)
  if !o.timeable then some .badParam
  else if b < c.now + 2 * c.blk then some .stale
  else if (pkAt p) > c.now + 2 ^ 31 then some .outOfRange
  else if c.host.timed.length ≥ 256 then some .noResource
  else none

/-- The boundary of a command: that of its AT_TIME, or another (R150). -/
def Req.boundary (r : Req) (c : Core) (b : Nat) : Nat := if pkAtTime r.p then c.boundaryAt (pkAt r.p) else b

/-- A timed command that passes its body's checks is queued (R150). -/
def queueTimed (o : Opc) (p : Packet) (c : Core) (a : Answer) : Answer :=
  if a.2.1 = .ok ∨ a.2.1 = .accepted then
    let c := if o.eager then a.1 else c
    let t : Timed := { opcode := o.code, packet := p, boundary := c.boundaryAt (pkAt p), eager := o.eager,
                       own := o.eager && decide (a.2.1 = .accepted) }
    ({ c with host := { c.host with timed := c.host.timed ++ [t] } }, .accepted, [])
  else ans c a.2.1

/-- The command refused at steps 7 to 10, or carried out, or queued as a timed command (R143, R150). -/
def runOp (o : Opc) (body : Body) (p : Packet) (c : Core) : Answer :=
  let r := reqOf o p
  if c.flag F.SYS_STATUS_RECOVERY ∧ !recoveryOp o.code then ans c .notPermitted
  else if c.twinWaits ∧ mirrored o.code then ans c .notPermitted
  else if !levelOk c o p then ans c .notPermitted
  else
    match (if (pkAtTime p) && !o.lateTime then timedCheck c o p else none) with
    | some st => ans c st
    | none =>
      if !o.len r.bytes.length then ans c .badLength
      else if (opcodeFunc o.code r.words).isSome ∧ c.power.funcReset.map FuncReset.code = opcodeFunc o.code r.words then
        ans c .aborted
      else
        let a := body c r
        if pkAtTime p then
          match (if o.lateTime ∧ (a.2.1 = .ok ∨ a.2.1 = .accepted) then timedCheck c o p else none) with
          | some st => ans c st
          | none => queueTimed o p c a
        else a

/-- An accepted operation waits for its completion notice (R148). -/
def noteOp (o : Opc) (p : Packet) (a : Answer) : Core :=
  if a.2.1 = .accepted then
    { a.1 with host := { a.1.host with ops := a.1.host.ops ++ [(reqOf o p).tok] } }
  else a.1

/-- The bytes of a command packet (R140). -/
def packetBytes (opcode : Nat) (p : Packet) : List Byte :=
  leBytes 2 p.magic.toNat ++ [p.version, p.flags] ++ leBytes 2 opcode ++ leBytes 2 p.length.toNat ++
    leBytes 4 p.seq.toNat ++ leBytes 2 p.session.toNat ++ leBytes 2 p.reserved.toNat ++ p.payload

/-- A packet that is being processed leaves the list of those read from the command ring, or of the datagrams put together
from fragments (R139, R160). -/
def Core.popRing (c : Core) (opcode : Nat) (p : Packet) : Core :=
  if isPcie p.transport then { c with host := { c.host with ring := c.host.ring.drop 1 } }
  else if isUdp p.transport then
    { c with host := { c.host with datagrams := c.host.datagrams.eraseP fun d => d.drop 8 == packetBytes opcode p } }
  else c

/-- The status with a code. -/
def statusOf (n : Nat) : Status :=
  if n = 0 then .ok else if n = 0x600 then .aborted else if n = 0x400 then .noResource else if n = 0x601 then .faulted
  else if n = 0x401 then .noSpace else if n = 0x203 then .outOfRange else if n = 0x202 then .badParam
  else if n = 0x700 then .verifyFailed else if n = 0x300 then .notPermitted else if n = 0x100 then .busy
  else if n = 0x501 then .stale else if n = 0x500 then .conflict else if n = 0x301 then .locked
  else if n = 0x101 then .restarting else if n = 0x200 then .badOpcode else if n = 0x201 then .badLength else .accepted

/-- Notices of operations that completed in the step that accepted them (R148). -/
def Core.flushInstant (c : Core) : Core :=
  c.host.instant.foldl (fun c x => c.notice x.1 (statusOf x.2.1) x.2.2)
    { c with host := { c.host with instant := [] } }

/-- An operation completes in the step that accepts it. -/
def Core.completeNow (c : Core) (t : Tok) (st : Status) (body : List Byte) : Core :=
  { c with host := { c.host with instant := c.host.instant ++ [(t, statusCode st, body)] } }

/-- A taken command of the playing module enters the set of the block (R481). -/
def Core.mirror (c : Core) (opcode : Nat) (p : Packet) (st : Status) : Core :=
  if c.twinPlays ∧ mirrored opcode then
    { c with twin := { c.twin with cmds := c.twin.cmds ++ [{ opcode := opcode, packet := p, status := statusCode st }] } }
  else c

/-- The block whose ACK a reply waits for, or the anchor of a TWIN_FORCE (R485, R497). -/
def Core.replyWaits (c : Core) (opcode : Nat) (st : Status) : Option Nat :=
  if c.holdsReplies ∧ mirrored opcode then some c.time.n
  else if opcode = 0x0D03 ∧ st = .ok then c.twin.due
  else none

/-- A first reply goes out, or waits for the partner (R142, R485). -/
def Core.firstReply (c : Core) (opcode : Nat) (p : Packet) (a : Status × List Byte) : Core :=
  match c.replyWaits opcode a.1 with
  | some k =>
    if pkNoReply p ∧ (a.1 = .ok ∨ a.1 = .accepted) then c
    else
      let m : Msg := .easel p.transport 0 (statusCode a.1) opcode p.seq p.session.toNat a.2
      { c.markSent p.session.toNat p.seq false with twin := { c.twin with replies := c.twin.replies ++ [(k, m)] } }
  | none => c.reply opcode p p.session.toNat a.1 a.2

/-- An Easel packet with an issued opcode is taken up: the checks of R143, then the opcode's body and its first reply. -/
def easelOnce (o : Opc) (body : Body) (p : Packet) (c0 : Core) : Core :=
  if !c0.easelAnswers then c0
  else
    let c := c0.popRing o.code p
    match c.arrival o.code p with
    | .discard => (c.count R.HOST_EASEL_DISCARD).raise F.HOST_INT_STATUS_DISCARD
    | .refuse st => c.reply o.code p p.session.toNat st []
    | .silent => c
    | .duplicate r => c.post (.easel p.transport 0 r.status o.code p.seq p.session.toNat r.body)
    | .openAgain s => c.post (.easel p.transport 0 0 o.code p.seq s.num s.openReply)
    | .take =>
      let c := c.countW R.HOST_EASEL_RX_COUNT 1
      let a := runOp o body p c
      let c := ((noteOp o p a).taken o.code p a.2.1 a.2.2).mirror o.code p a.2.1
      (c.firstReply o.code p a.2).flushInstant

/-- An Easel packet with an issued opcode arrives; datagrams pass Smudge on P3 (R531). -/
def easel (o : Opc) (body : Body) (p : Packet) (c : Core) : Core :=
  if isUdp p.transport then c.passFrame 3 3 (easelOnce o body p) else easelOnce o body p c

end Sys2Proof.Machine
end

