-- ==== Sys2Proof/Machine/Resets.lean ====
section
/-! DEFINITION. The reset kinds and what each keeps (R124 to R128, R136, R145, R164, R170), and the common fade of the
audio outputs. -/

namespace Sys2Proof.Machine

/-! ### The common fade -/

/-- Outputs, monitor channels and direct paths start a fade to zero at sample a over g samples; a data-transparent direct
path is replaced by zeros (R52, R65, R83, R88, R126). -/
def Core.fadeOut (c : Core) (a g : Nat) : Core :=
  { c with clk := { c.clk with gate := .fadeOut a g, dpGate := .fadeOut a g, dpCut := true, fadeInAt := none } }

/-- Everything is at zero. -/
def Core.cutAudio (c : Core) : Core :=
  { c with clk := { c.clk with gate := .zero, dpGate := .zero, dpCut := true, fadeInAt := none } }

/-- Outputs fade in over the Glaze time from sample n on, unless the start-up hold keeps them at zero (R122). -/
def Core.fadeInFrom (c : Core) (n : Nat) : Core :=
  { c with clk := { c.clk with fadeInAt := some n } }

/-! ### Mailboxes, sessions and holds in resets -/

/-- A host mailbox is cleared because its receiver is reset; a full one tells its sender (R164). H2F: the host's status and
doorbell. -/
def Core.clearH2F (c : Core) (n : Nat) : Core :=
  if c.flag (F.HOST_MBX_STATUS_H2F_FULL n) then
    ((c.setF (F.HOST_MBX_STATUS_H2F_FULL n) 0).setF (F.HOST_MBX_STATUS_ABORT n) 1).ring 3
  else c

/-- F2H is cleared; firmware sees ABORT for a full one (R164). -/
def Core.clearF2H (c : Core) (n : Nat) : Core :=
  if c.flag (F.HOST_MBX_STATUS_F2H_FULL n) then
    let c := c.setF (F.HOST_MBX_STATUS_F2H_FULL n) 0
    { c with host := { c.host with fwBells := smSet (fun _ => 0) c.host.fwBells (16 + n) 1 } }
  else c

/-- Hold registers whose owner satisfies a test become free (R170). -/
def Core.releaseHolds (c : Core) (q : Nat → Bool) : Core :=
  (List.range 64).foldl (fun c n =>
    match smGet (fun _ => none) c.host.holds n with
    | some m =>
      if q m then
        { c.setF ⟨R.HOST_HOLD_HELD_LO + 4 * (n / 32), n % 32, n % 32⟩ 0 with
          host := { c.host with holds := smSet (fun _ => none) c.host.holds n none } }
      else c
    | none => c) c

/-- Reset of the host interface, function 27 or PCIE_PERST_N: every PCIe session closes, the rings are disabled, unsent
replies are discarded, F2H mailboxes are cleared and the host's holds are released (R128, R145, R149, R164, R170). -/
def Core.hostReset (c : Core) : Core :=
  let c := c.closeSessions isPcie
  let c := { c with host := { c.host with held := [], ring := [], unread := [] } }
  let c := (List.range 16).foldl Core.clearF2H c
  let c := c.releaseHolds (· = 8)
  ((((c.setF F.HOST_CMD_SIZE_EN 0).setF F.HOST_RPL_SIZE_EN 0).setF F.HOST_STATUS_LINK_UP 0).setF F.HOST_STATUS_SPEED 0).setF
    F.HOST_STATUS_WIDTH 0

/-! ### Resets of the module -/

/-- Registers that stand in flash (R461, R500, R507, R528). -/
def flashReg (off : Nat) : Bool :=
  (R.FLASH_EU_A 0 ≤ off && off ≤ R.FLASH_EU_B 5463) || off = R.HEALTH_LEDGER_NEXT_LO || off = R.HEALTH_LEDGER_NEXT_HI ||
    off = R.UPDATE_ACTIVE_VERSION || off = R.UPDATE_SVN || off = R.UPDATE_PREV_VERSION

/-- Registers that stand in PD0 or in flash, and so outlive a reset of PD1 to PD12 (R125, R136, R461). -/
def keepReg (off : Nat) : Bool :=
  off = R.CLK_AON_TRIM || off = R.CLK_AON_TRIM_CTRL || off = R.SYS_BACKUP_SEC_LO || off = R.SYS_BACKUP_SEC_HI || off = R.SYS_RESET_CAUSE ||
    off = R.SYS_VIN || off = R.SYS_PIN || off = R.SYS_TDIE || off = R.SYS_TBOARD || off = R.SYS_STRAPS ||
    flashReg off

/-- Everything that flash and fuses keep passes from the old state into one after a reset. -/
def Core.keepFlash (c old : Core) : Core :=
  let flash := { c.flash with lib := old.flash.lib, record := old.flash.record, missed := old.flash.missed,
                              recPages := old.flash.recPages, reloc := old.flash.reloc, erased := old.flash.erased, lost := old.flash.lost,
                              saved := old.flash.saved, showDue := old.flash.showDue }
  let update := { c.update with winner := old.update.winner, prev := old.update.prev, active := old.update.active,
                                slots := old.update.slots.filter fun x => decide (x.2.state = 3) }
  { c with
    cfg := old.cfg
    outbox := old.outbox
    freeIx := old.freeIx
    time := { c.time with cycles := old.time.cycles }
    flash := flash
    health := { c.health with ledger := old.health.ledger, units := old.health.units }
    survey := { c.survey with log := old.survey.log, logNext := old.survey.logNext }
    update := update }

/-- Every register but those of PD0 and flash returns to its reset value, and every part but those of PD0 and flash to
what it is after reset (R124, R125). -/
def Core.resetPd (c : Core) : Core :=
  Core.keepFlash (old := c)
  { regs := c.regs.filter fun x => keepReg x.1
    power := { vinOn := c.power.vinOn, step := 3, railsOk := c.power.railsOk, holdup := c.power.holdup,
               pgood := c.power.pgood, pgoodSeen := c.power.pgoodSeen, alert := c.power.alert, trip := c.power.trip,
               smbState := c.power.smbState, smbFlags := c.power.smbFlags, smbVin := c.power.smbVin,
               smbPin := c.power.smbPin, smbTdie := c.power.smbTdie, smbTboard := c.power.smbTboard,
               inReset := c.power.inReset, perst := c.power.perst, sfpId := c.power.sfpId, cages := c.power.cages, cause := c.power.cause }
    clk := { tcxoOn := c.clk.tcxoOn } }

/-- A reset of PD1 to PD12 as RESET_N makes it (R125): TCXO_FAIL and PLL_FAULT, VIN_WARN and THERM_WARN stand in PD0 and
stay; GRAIN takes the stored value (R451); the cause is recorded. -/
def Core.resetN (c : Core) (cause : Nat) : Core :=
  let d := c.resetPd
  let d := d.setF F.CLK_MEDIA_STATUS_TCXO_FAIL (c.f F.CLK_MEDIA_STATUS_TCXO_FAIL)
  let d := d.setF F.CLK_MEDIA_STATUS_PLL_FAULT (c.f F.CLK_MEDIA_STATUS_PLL_FAULT)
  let d := d.setF F.SYS_STATUS_VIN_WARN (c.f F.SYS_STATUS_VIN_WARN)
  let d := d.setF F.SYS_STATUS_THERM_WARN (c.f F.SYS_STATUS_THERM_WARN)
  let d := (d.setF F.MEMC_MAP_GRAIN c.cfg.grain).setF F.MEMC_MAP_GRAIN_NEXT c.cfg.grain
  let d := d.put R.SYS_RESET_CAUSE (.ofNat 32 cause)
  { d with power := { d.power with cause := cause } }

/-- The SYS_RESET_CAUSE words: one bit each (R126, the SYS register map). -/
def causePowerUp : Nat := 1
def causeResetN : Nat := 2
def causeModule : Nat := 4
def causeClock : Nat := 8
def causeThermal : Nat := 16
def causeDeepWake : Nat := 32

/-- Whether an ordered shutdown, which runs to completion in its own step, a MEDIA switch or a re-alignment is under way. -/
def Core.mediaChanging (c : Core) : Bool := c.clk.sw.isSome || c.time.realign.isSome

end Sys2Proof.Machine
end

