-- ==== Sys2Proof/Machine/Scene.lean ====
section
/-! DEFINITION. The scene model (chapter 7) with the scene buses and beds of chapter 10: capacities, the layout banks and
their opcodes, the position stream, the contribution sets and the checks of a commit. -/

namespace Sys2Proof.Machine

/-! ### Capacities (R27, R28) -/

/-- The capacities of a rate and mode. -/
structure Caps where
  objs : Nat
  outs : Nat
  slots : Nat
  far : Nat
  farObjs : Nat
  nspan : Nat
  fs : Nat
deriving DecidableEq, Repr

/-- The capacities of a FAMILY, MULT and LL (R27, R28). -/
def capsOf (family mult ll : Nat) : Caps :=
  let fs := if family = 1 then 44100 else 48000 * 2 ^ mult
  if mult = 2 then ⟨512, 256, 0, 0, 0, 32768, fs⟩
  else if mult = 1 ∨ ll = 1 then ⟨512, 256, 262144, 32768, 128, 32768, fs⟩
  else ⟨1024, 512, 524288, 65536, 256, 16384, fs⟩

/-- The capacities of the running rate and mode, with the slots of the lanes that are left (R521). -/
def Core.caps (c : Core) : Caps :=
  let k := capsOf c.clk.family c.clk.mult c.clk.ll
  { k with slots := k.slots / 32 * c.f F.HEALTH_CAPACITY_LANES }

/-! ### Words of parameters -/

/-- A signed value sign-extended to 32 bits; none when the word is no sign extension of `n` bits. -/
def sext? (n : Nat) (w : Word) : Option Int :=
  let v := signed 32 w.toNat
  if -(2 ^ (n - 1) : Nat) ≤ v ∧ v < (2 ^ (n - 1) : Nat) then some v else none

/-- A signed number as a 32-bit word. -/
def w32 (v : Int) : Nat := unsigned 32 v

/-- A position from three words (R173). -/
def posOf (x y z : Word) : Option Pos :=
  match sext? 24 x, sext? 24 y, sext? 24 z with
  | some a, some b, some c => some (a, b, c)
  | _, _, _ => none

/-- The three words of a position. -/
def posWords (p : Pos) : List Nat := [w32 p.1, w32 p.2.1, w32 p.2.2]

/-! ### Layout banks (R176, R181, R183, R188) -/

def Layout.obj (l : Layout) (o : Nat) : ObjDef := smGet (fun _ => {}) l.objs o
def Layout.bus (l : Layout) (b : Nat) : BusDef := smGet (fun _ => {}) l.buses b
def Layout.bed (l : Layout) (j : Nat) : BedDef := smGet (fun _ => {}) l.beds j
def Layout.spk (l : Layout) (o : Nat) : Option Speaker := smGet (fun _ => none) l.spks o

/-- The loudspeaker records of a layout, by output. -/
def Layout.speakers (l : Layout) : List (Nat × Speaker) :=
  l.spks.filterMap fun x => x.2.map fun s => (x.1, s)

/-- A bank of Palette 0: 0 live, 1 staged. -/
def Core.layout (c : Core) (bank : Nat) : Layout := if bank = 0 then c.scene.live else c.scene.staged

/-- Whether a Palette has a swap pending or its Glaze running (R218). -/
def Core.palBusy (c : Core) (p : Nat) : Bool :=
  bitOf (c.get R.CALIPER_STATUS) (2 + p) || bitOf (c.get R.CALIPER_STATUS) (6 + p)

/-- SWAP_PENDING and the GLAZE bits follow the swaps that wait and the Glazes that run (the CALIPER_STATUS, OUTPROC_STATUS and
ARMATURE_STATUS registers). -/
def Core.palShow (c : Core) : Core :=
  let has := fun (l : List Nat) (p : Nat) => l.any fun m => m / 2 ^ p % 2 = 1
  let bits := fun (l : List Nat) => (List.range 4).foldl (fun (a p : Nat) => a + b2n (has l p) * 2 ^ p) 0
  let gs := c.cal.glazes.map (·.mask)
  let c := (c.setF F.CALIPER_STATUS_SWAP_PENDING (bits (c.cal.swaps.map (·.mask)))).setF F.CALIPER_STATUS_GLAZE_ACTIVE (bits gs)
  (c.setB F.OUTPROC_STATUS_GLAZE (has gs 1)).setB F.ARMATURE_STATUS_GLAZE (has gs 2)

/-- A swap that has passed its checks waits for its boundary. -/
def Core.addSwap (c : Core) (w : Swap) : Core := { c with cal := { c.cal with swaps := c.cal.swaps ++ [w] } }.palShow

/-- Whether writes to the staged layout bank are refused with BUSY (R188). -/
def Core.sceneBusy (c : Core) : Bool := c.scene.commit.isSome || c.palBusy 0

/-- STAGED_READY of a Palette. -/
def stagedReady (p : Nat) : Field := ⟨R.CALIPER_PAL_STATUS, p, p⟩

/-- The end of Maquette, with its interrupt where MAQUETTE_SET did not ask for it (R225): the pair fades back from sample
count n on. -/
def Core.maquetteEnd (c : Core) (irq : Bool) (n : Nat) : Core :=
  if c.flag F.CALIPER_MAQUETTE_EN then
    let c := (((c.setF F.CALIPER_MAQUETTE_EN 0).setF F.CALIPER_STATUS_MAQUETTE 0).setF F.RENDER_STATUS_STAGED_SUMS 0).raiseIf irq
      F.CALIPER_INT_STATUS_MAQUETTE_END
    { c with cal := { c.cal with maqAt := n } }
  else c

/-- A write to the staged bank of Palette 0: STAGED_READY clears and Maquette ends (R188, R225). -/
def Core.editLayout (c : Core) (l : Layout) : Core :=
  { (c.setF (stagedReady 0) 0).maquetteEnd true c.nextB with scene := { c.scene with staged := l } }

/-! ### Objects (R195) -/

/-- The flag word of OBJECT_DEFINE. -/
def objFlags (d : ObjDef) : Nat :=
  b2n d.enable + 2 * d.mode + 8 * b2n d.interp + 16 * b2n d.air + 32 * d.zone + 4096 * d.direct

/-- The definition of a parameter block; none with a reserved bit set or a coordinate that is no sign extension. -/
def objOf (r : Req) : Option ObjDef :=
  let w := r.w 1
  match posOf (r.w 4) (r.w 5) (r.w 6), posOf (r.w 7) (r.w 8) (r.w 9) with
  | some lo, some hi =>
    if w &&& 0xFFE00800 ≠ 0 then none
    else some { enable := bitOf w 0, mode := bitsOf w 2 1, interp := bitOf w 3, air := bitOf w 4, zone := bitsOf w 10 5,
                direct := bitsOf w 20 12, excl := r.n 2 + r.n 3 * 2 ^ 32, boxMin := lo, boxMax := hi }
  | _, _ => none

def opObjectDefine : Opc := { code := 0x0200, len := (· = 40) }

/-- OBJECT_DEFINE (R176, R188, R195). -/
def objectDefineBody : Body := fun c r =>
  match objOf r with
  | none => ans c .badParam
  | some d =>
    if r.n 0 ≥ c.caps.objs then ans c .outOfRange
    else if c.sceneBusy then ans c .busy
    else
      let l := c.scene.staged
      ans (c.editLayout { l with objs := smSet (fun _ => {}) l.objs (r.n 0) d }) .ok

def opObjectGet : Opc := { code := 0x0201, len := (· = 8) }

/-- OBJECT_GET (R195). -/
def objectGetBody : Body := fun c r =>
  if r.n 1 > 1 then ans c .badParam
  else if r.n 0 ≥ c.caps.objs then ans c .outOfRange
  else
    let d := (c.layout (r.n 1)).obj (r.n 0)
    okW c ([objFlags d, d.excl % 2 ^ 32, d.excl / 2 ^ 32] ++ posWords d.boxMin ++ posWords d.boxMax)

def opObjectDisableAll : Opc := { code := 0x0202, len := (· = 0) }

/-- OBJECT_DISABLE_ALL (R195). -/
def objectDisableAllBody : Body := fun c _ =>
  if c.sceneBusy then ans c .busy
  else
    let l := c.scene.staged
    let objs := l.objs.foldl (fun m x => smSet (fun _ => ({} : ObjDef)) m x.1 { x.2 with enable := false }) []
    ans (c.editLayout { l with objs := objs }) .ok

/-! ### The position stream (R191 to R194) -/

/-- What one entry of a POSITION_STREAM sets. -/
structure StreamSet where
  obj : Nat
  pos : Option Pos
  gain : Option Int
  spread : Option Nat
  mute : Option Bool
deriving DecidableEq, Repr

/-- The position of an entry; the outer none is an entry to be ignored (R191, R192). -/
def streamPos (e : List Byte) (sph : Bool) : Option Pos :=
  let a := leNat ((e.drop 4).take 3)
  let b := leNat ((e.drop 7).take 3)
  let d := leNat ((e.drop 10).take 3)
  if sph then
    let el := signed 24 b
    if a < 65536 ∧ -16384 ≤ el ∧ el ≤ 16384 then some (sphere a el d) else none
  else some (signed 24 a, signed 24 b, signed 24 d)

/-- One entry of 20 bytes, or none when it is ignored in whole (R191, R192). -/
def streamEntry (objs : Nat) (e : List Byte) : Option StreamSet :=
  let b := fun i => (e.getD i 0).toNat
  let o := leNat (e.take 2)
  let fl := e.getD 2 0
  let gain := signed 16 (leNat ((e.drop 16).take 2))
  let spread := leNat ((e.drop 14).take 2)
  if o ≥ 1024 ∨ o ≥ objs ∨ fl.toNat ≥ 64 ∨ b 3 ≠ 0 ∨ b 13 ≠ 0 ∨ b 18 ≠ 0 ∨ b 19 ≠ 0 then none
  else if fl.getLsbD 2 ∧ gain ≠ -32768 ∧ (gain < -10000 ∨ gain > 1200) then none
  else if fl.getLsbD 3 ∧ spread > 32768 then none
  else
    let p := streamPos e (fl.getLsbD 0)
    if fl.getLsbD 1 ∧ p.isNone then none
    else some { obj := o, pos := if fl.getLsbD 1 then p else none, gain := if fl.getLsbD 2 then some gain else none,
                spread := if fl.getLsbD 3 then some spread else none,
                mute := if fl.getLsbD 4 then some (fl.getLsbD 5) else none }

/-- The 20-byte entries of a parameter block. -/
def streamEntries : Nat → List Byte → List (List Byte)
  | 0, _ => []
  | n + 1, l => l.take 20 :: streamEntries n (l.drop 20)

/-- The live properties of an object. -/
def Core.obj (c : Core) (o : Nat) : ObjLive := smGet (fun _ => {}) c.scene.objs o

/-- The live properties of an object change. -/
def Core.setObj (c : Core) (o : Nat) (x : ObjLive) : Core :=
  { c with scene := { c.scene with objs := smSet (fun _ => {}) c.scene.objs o x } }

/-- One entry is applied; an update that overwrites another before a snapshot is counted (R193). -/
def Core.streamApply (c : Core) (s : StreamSet) : Core :=
  let x := c.obj s.obj
  let c := if x.fresh then c.countW R.CALIPER_SUPERSEDED 1 else c
  c.setObj s.obj { x with pos := s.pos.getD x.pos, gain := s.gain.getD x.gain, spread := s.spread.getD x.spread,
                          mute := s.mute.getD x.mute, fresh := true }

/-- The entries of a packet are applied in order, and the ignored ones counted (R192, R193). -/
def Core.streamAll (c : Core) (r : Req) : Answer :=
  let n := bitsOf (r.w 0) 10 0
  let es := (streamEntries n (r.bytes.drop 4)).map (streamEntry c.caps.objs)
  let good := es.filterMap id
  let bad := n - good.length
  let c := good.foldl Core.streamApply c
  let c := c.countW R.CALIPER_STREAM_ENTRIES good.length
  let c := if bad = 0 then c else (c.countN R.CALIPER_STREAM_IGNORED bad).raise F.CALIPER_INT_STATUS_STREAM_IGNORED
  okW c [good.length, bad]

def opPositionStream : Opc := { code := 0x0210, timeable := true }

/-- The number of entries of the bucket (R194). -/
def Core.bucketSize (c : Core) : Nat := 4 * c.caps.objs

/-- The checks of POSITION_STREAM (R191, R194). -/
def streamCheck (c : Core) (r : Req) : Option Status :=
  let n := bitsOf (r.w 0) 10 0
  if r.bytes.length < 4 ∨ r.bytes.length ≠ 4 + 20 * n then some .badLength
  else if bitsOf (r.w 0) 31 11 ≠ 0 then some .badParam
  else if n = 0 ∨ n > 1024 then some .outOfRange
  else if c.bucketSize < c.scene.used + n then some .busy
  else none

/-- Entries leave the bucket (R194). -/
def Core.streamCharge (c : Core) (n : Nat) : Core := { c with scene := { c.scene with used := c.scene.used + n } }

/-- POSITION_STREAM when it is taken (R191 to R194). -/
def positionStreamBody : Body := fun c r =>
  match streamCheck c r with
  | some st => ans c st
  | none => (c.streamCharge (bitsOf (r.w 0) 10 0)).streamAll r

/-- POSITION_STREAM at its execution boundary: its entries left the bucket when it was taken (R193, R194). -/
def positionExecBody : Body := fun c r => c.streamAll r

/-- POSITION_STREAM: a timed packet also takes its entries out of the bucket when it is taken (R194). -/
def positionStream (p : Packet) (c : Core) : Core :=
  let d := easel opPositionStream positionStreamBody p c
  if pkAtTime p ∧ d.host.timed.length > c.host.timed.length then d.streamCharge (bitsOf ((reqOf opPositionStream p).w 0) 10 0)
  else d

/-- The bucket refills by the object capacity in every millisecond (R194). -/
def positionBucketRefill (c : Core) : Core :=
  { c with scene := { c.scene with used := c.scene.used - c.caps.objs } }

def opObjectState : Opc := { code := 0x0211, len := (· = 8) }

/-- OBJECT_STATE_GET (R177, R195). -/
def objectStateBody : Body := fun c r =>
  let n := r.n 1
  if n = 0 ∨ n > 256 ∨ r.n 0 + n > c.caps.objs then ans c .outOfRange
  else okW c ((List.range n).flatMap fun i =>
    let x := c.obj (r.n 0 + i)
    posWords x.pos ++ [unsigned 16 x.gain + 65536 * b2n x.mute + 131072 * b2n x.clamped, x.spread])

/-! ### Layouts (R196) -/

def opLayoutBegin : Opc := { code := 0x0300, len := (· = 4) }

/-- LAYOUT_BEGIN (R188). -/
def layoutBeginBody : Body := fun c r =>
  if r.n 0 > 1 then ans c .badParam
  else if c.sceneBusy then ans c .busy
  else ans (c.editLayout (if r.n 0 = 1 then c.scene.live else {})) .ok

/-- The flag word of a loudspeaker record, PRESENT set. -/
def spkFlags (s : Speaker) : Nat := 1 + 2 * b2n s.lfe + 4 * b2n s.inArray + 256 * s.array + 65536 * s.element

def opSpeakerDefine : Opc := { code := 0x0301, len := (· = 20) }

/-- SPEAKER_DEFINE (R181, R196). -/
def speakerDefineBody : Body := fun c r =>
  let w := r.w 1
  match posOf (r.w 2) (r.w 3) (r.w 4) with
  | none => ans c .badParam
  | some p =>
    if w &&& 0xFF00E0F8 ≠ 0 then ans c .badParam
    else if r.n 0 ≥ c.caps.outs then ans c .outOfRange
    else if c.sceneBusy then ans c .busy
    else
      let s : Option Speaker := if bitOf w 0 then
        some { pos := p, lfe := bitOf w 1, inArray := bitOf w 2, array := bitsOf w 12 8, element := bitsOf w 23 16 } else none
      let l := c.scene.staged
      ans (c.editLayout { l with spks := smSet (fun _ => none) l.spks (r.n 0) s }) .ok

def opSpeakerGet : Opc := { code := 0x030A, len := (· = 8) }

/-- SPEAKER_GET (R196). -/
def speakerGetBody : Body := fun c r =>
  if r.n 1 > 1 then ans c .badParam
  else if r.n 0 ≥ c.caps.outs then ans c .outOfRange
  else
    match (c.layout (r.n 1)).spk (r.n 0) with
    | none => okW c [0, 0, 0, 0]
    | some s => okW c (spkFlags s :: posWords s.pos)

def opZoneDefine : Opc := { code := 0x0302, len := (· = 68) }

/-- ZONE_DEFINE (R183, R196). -/
def zoneDefineBody : Body := fun c r =>
  let z := r.n 0
  if z = 0 then ans c .badParam
  else if z > 63 then ans c .outOfRange
  else if c.sceneBusy then ans c .busy
  else
    let l := c.scene.staged
    ans (c.editLayout { l with zones := smSet (fun _ => 0) l.zones z (leNat (r.bytes.drop 4)) }) .ok

def opLayoutTemp : Opc := { code := 0x0303, len := (· = 8) }

/-- LAYOUT_TEMP_RANGE (R186). -/
def layoutTempBody : Body := fun c r =>
  let lo := signed 32 (r.n 0)
  let hi := signed 32 (r.n 1)
  if lo < -3000 ∨ hi < lo ∨ hi > 6000 then ans c .outOfRange
  else if c.sceneBusy then ans c .busy
  else ans (c.editLayout { c.scene.staged with tMin := lo, tMax := hi }) .ok

/-! ### Scene buses and beds (R253, R256, R268) -/

def opBusDefine : Opc := { code := 0x0220, len := (· = 20) }

/-- SCENE_BUS_DEFINE (R253, R268). -/
def busDefineBody : Body := fun c r =>
  let w := r.w 1
  let g := signed 32 (r.n 4)
  if w.toNat ≥ 4096 then ans c .badParam
  else if r.n 0 > 1 ∨ bitsOf w 3 1 = 0 ∨ g < -10000 ∨ g > 1200 then ans c .outOfRange
  else if c.sceneBusy then ans c .busy
  else
    let d : BusDef := { enable := bitOf w 0, order := bitsOf w 3 1, n3d := bitOf w 4, maxre := bitOf w 5,
                        zone := bitsOf w 11 6, excl := r.n 2 + r.n 3 * 2 ^ 32, gain := g }
    let l := c.scene.staged
    ans (c.editLayout { l with buses := smSet (fun _ => {}) l.buses (r.n 0) d }) .ok

def opBusGet : Opc := { code := 0x0221, len := (· = 8) }

/-- SCENE_BUS_GET (R268). -/
def busGetBody : Body := fun c r =>
  if r.n 1 > 1 then ans c .badParam
  else if r.n 0 > 1 then ans c .outOfRange
  else
    let d := (c.layout (r.n 1)).bus (r.n 0)
    okW c [b2n d.enable + 2 * d.order + 16 * b2n d.n3d + 32 * b2n d.maxre + 64 * d.zone, d.excl % 2 ^ 32, d.excl / 2 ^ 32,
      w32 d.gain]

def opBedDefine : Opc := { code := 0x0222, len := (· = 12) }

/-- BED_DEFINE (R256, R268); OUTPUT is checked at the commit (R257). -/
def bedDefineBody : Body := fun c r =>
  let g := signed 32 (r.n 2)
  if r.n 1 ≥ 1024 then ans c .badParam
  else if r.n 0 > 127 ∨ g < -10000 ∨ g > 1200 then ans c .outOfRange
  else if c.sceneBusy then ans c .busy
  else
    let d : BedDef := { enable := bitOf (r.w 1) 0, output := bitsOf (r.w 1) 9 1, gain := g }
    let l := c.scene.staged
    ans (c.editLayout { l with beds := smSet (fun _ => {}) l.beds (r.n 0) d }) .ok

def opBedGet : Opc := { code := 0x0223, len := (· = 8) }

/-- BED_GET (R268). -/
def bedGetBody : Body := fun c r =>
  if r.n 1 > 1 then ans c .badParam
  else if r.n 0 > 127 then ans c .outOfRange
  else
    let d := (c.layout (r.n 1)).bed (r.n 0)
    okW c [b2n d.enable + 2 * d.output, w32 d.gain]

/-! ### The speed of sound (R187) -/

/-- Caliper's speed for a layout, in units of 2⁻²⁰ m/s (R187). -/
def Core.speedFor (c : Core) (l : Layout) : Nat :=
  let lim := clampNat (speedOf l.tMin) (speedOf l.tMax)
  if c.scene.speedSrc = 0 then speedOf (clampInt l.tMin l.tMax c.scene.speedVal)
  else if c.scene.speedSrc = 1 then lim (c.scene.speedVal.toNat * 1024)
  else
    match c.scene.surveyTemp with
    | some t => speedOf (clampInt l.tMin l.tMax t)
    | none => lim (c.get R.CALIPER_SPEED).toNat

/-- A speed in units of 1/1,024 m/s. -/
def speedKilo (s : Nat) : Nat := (s + 512) / 1024

def opSoundSpeedSet : Opc := { code := 0x0310, len := (· = 8) }

/-- SOUND_SPEED_SET (R187). -/
def soundSpeedSetBody : Body := fun c r =>
  let src := r.n 0
  if src > 2 then ans c .badParam
  else if src = 0 ∧ (sext? 16 (r.w 1)).isNone then ans c .outOfRange
  else
    let v : Int := if src = 0 then signed 32 (r.n 1) else (r.n 1 : Nat)
    let c := { c with scene := { c.scene with speedSrc := src, speedVal := v } }.setF F.CALIPER_STATUS_SPEED_SOURCE src
    okW c [speedKilo (c.speedFor c.scene.live)]

def opSoundSpeedGet : Opc := { code := 0x0311, len := (· = 0) }

/-- SOUND_SPEED_GET (R196). -/
def soundSpeedGetBody : Body := fun c _ =>
  okW c [c.scene.speedSrc, speedKilo (c.speedFor c.scene.live),
    match c.scene.surveyTemp with
    | some t => w32 t
    | none => 0x8000]

/-! ### Render sets (R183, R184) -/

/-- The loudspeakers of a zone: outputs with a record that is no LFE (R183). -/
def Layout.zone (l : Layout) (z : Nat) : List Nat :=
  (l.speakers.filter fun x => !x.2.lfe && (z = 0 || smGet (fun _ => 0) l.zones z / 2 ^ x.1 % 2 = 1)).map (·.1)

/-- EXCL with its ignored bit 0 cleared (R176). -/
def exclMask (e : Nat) : Nat := e / 2 * 2

/-- The render set of a ZONE and EXCL as (output, position), by output (R184). -/
def Layout.renderSet (l : Layout) (zone excl : Nat) : List (Nat × Pos) :=
  let gone := ((List.range 64).filter fun z => exclMask excl / 2 ^ z % 2 = 1).flatMap l.zone
  let ins := l.zone zone
  (l.speakers.filter fun x => x.1 ∈ ins && !(x.1 ∈ gone)).map fun x => (x.1, x.2.pos)

/-- What identifies a render set: whether its class is FRONT, its ZONE and its EXCL (R184). -/
abbrev SetKey := Bool × Nat × Nat

/-- The render set key of an object; none for a DIRECT one. -/
def ObjDef.key (d : ObjDef) : Option SetKey := if d.mode = 3 then none else some (d.mode = 1, d.zone, exclMask d.excl)

/-- The enabled objects of a layout, by number. -/
def Layout.enabled (l : Layout) : List (Nat × ObjDef) := l.objs.filter (·.2.enable)

/-- The enabled buses of a layout. -/
def Layout.enabledBuses (l : Layout) : List (Nat × BusDef) := l.buses.filter (·.2.enable)

/-- The distinct render sets of a layout (R184, R253). -/
def Layout.setKeys (l : Layout) : List SetKey :=
  ((l.enabled.filterMap fun x => x.2.key) ++ l.enabledBuses.map fun x => (false, x.2.zone, exclMask x.2.excl)).eraseDups

/-- The loudspeakers of a key. -/
def Layout.members (l : Layout) (k : SetKey) : List (Nat × Pos) := l.renderSet k.2.1 k.2.2

/-! ### Scene-bus decodes (R255) -/

/-- Q3.21 saturation (R177, R209). -/
def satGain (v : Int) : Int := clampInt (-(2 ^ 23)) (2 ^ 23 - 1) v

/-- A gain of units of 0.01 dB as a real number; −32,768 is −∞. -/
def gainOf (g : Int) : Fx := if g = -32768 then 0 else pow10 g 2000

/-- The virtual directions of the decode: sine of elevation, cosine, azimuth in turns, and the vector (R255, step 1). -/
def decodeDirs : List (Fx × Fx × Fx × V3) :=
  let phi := (3 * one - fsqrt (5 * one)) / 2
  (List.range 2048).map fun (k : Nat) =>
    let z := one - fx ((2 * k + 1 : Nat) : Int) 2048
    let s := fsqrt (one - fmul z z)
    let t := ((k : Int) * phi) % one
    (z, s, t, (fmul s (cosTurn t (2 ^ 96)), fmul s (sinTurn t (2 ^ 96)), z))

/-- The decode gains of a bus: for each loudspeaker of its decode set, the gain words of its channels (R255). -/
def Layout.decode (l : Layout) (b : Nat) (d : BusDef) : List (Nat × List Int) :=
  let set := l.renderSet d.zone d.excl
  let ps := mkPanSet (set.map (·.2))
  let chans := (d.order + 1) ^ 2
  let rows := decodeDirs.map fun x => (ps.realPower (ps.vertexPower x.2.2.2) |>.map fsqrt,
    (List.range chans).map fun c => harmonic c x.1 x.2.1 x.2.2.1)
  let d0 := (List.range set.length).map fun i => (List.range chans).map fun c =>
    let s := rows.foldl (fun a r => a + fmul (r.1.getD i 0) (r.2.getD c 0)) (0 : Fx)
    fmul (orderWeight d.maxre d.order (isqrt c)) (s / 2048)
  let e := rows.foldl (fun a r => d0.foldl (fun a g =>
    let y := (List.zipWith fmul g r.2).foldl (· + ·) (0 : Fx)
    a + fmul y y) a) (0 : Fx) / 2048
  let g := gainOf d.gain
  List.zipWith (fun (o : Nat × Pos) row => (o.1, (List.range chans).map fun c =>
    let v := fdiv (row.getD c 0) (fsqrt e)
    let v := if d.n3d then v else fmul v (fsqrt ((2 * isqrt c + 1 : Nat) * one))
    satGain (withDev [1, b, c, o.1, d.gain] 2 (roundFx 21 (fmul v g))))) set d0

/-! ### The contribution set of a layout (R179, R189, R205, R222, R258) -/

/-- One contribution that a layout counts. -/
structure Path where
  src : Nat
  /-- Its output; for a slot of a set of more than 64 loudspeakers, which has none of its own, 0. -/
  out : Nat := 0
  /-- The slot number of a set of more than 64 loudspeakers. -/
  slot : Option Nat := none
  mode : Nat := 3
  fine : Bool := false
  air : Bool := false
  /-- The loudspeaker positions that a shared path must agree in. -/
  pos : List (Nat × Pos) := []
  /-- The gain word of a fixed contribution. -/
  gain : Option Int := none
  /-- Counted as far, and whether it may read the far tier (R189, R214). -/
  far : Bool := false
  mayFar : Bool := false
deriving DecidableEq, Repr

/-- The corners of a box. -/
def boxCorners (d : ObjDef) : List Pos :=
  [d.boxMin.1, d.boxMax.1].flatMap fun x => [d.boxMin.2.1, d.boxMax.2.1].flatMap fun y =>
    [d.boxMin.2.2, d.boxMax.2.2].map fun z => (x, y, z)

/-- The largest delay D of a contribution to a loudspeaker (R189). -/
def largestDelay (k : Caps) (l : Layout) (d : ObjDef) (spk : Pos) : Nat :=
  delaySamples ((boxCorners d).foldl (fun a c => max a (idistSq c spk)) 0) k.fs l.tMin

/-- The contributions of an object (R179, R189, R205). -/
def Layout.objPaths (l : Layout) (k : Caps) (o : Nat) (d : ObjDef) : List Path :=
  if d.mode = 3 then [{ src := o, out := d.direct, pos := ((l.spk d.direct).map fun s => (0, s.pos)).toList }]
  else
    let set := l.renderSet d.zone d.excl
    let far := fun (p : Pos) => d.mode ≠ 0 && decide (largestDelay k l d p > k.nspan)
    if d.mode = 1 ∨ set.length ≤ 64 then
      set.map fun x => { src := o, out := x.1, mode := d.mode, fine := d.interp, air := d.air, pos := [(0, x.2)],
                         far := far x.2, mayFar := far x.2 }
    else
      let n := (set.filter fun x => far x.2).length
      (List.range 64).map fun i => { src := o, slot := some i, mode := d.mode, fine := d.interp, air := d.air, pos := set,
                                     far := i < n, mayFar := n > 0 }

/-- The gain word of a bed channel (R256). -/
def bedGain (g : Int) : Int := satGain (roundFx 21 (gainOf g))

/-- The contributions of a layout, by source (R29, R232). -/
def Layout.paths (l : Layout) (k : Caps) : List Path :=
  (l.enabled.flatMap fun x => l.objPaths k x.1 x.2) ++
  (l.enabledBuses.flatMap fun x =>
    let dec := l.decode x.1 x.2
    (List.range ((x.2.order + 1) ^ 2)).flatMap fun c => dec.map fun g =>
      ({ src := 1024 + 64 * x.1 + c, out := g.1, gain := some (g.2.getD c 0) } : Path)) ++
  ((l.beds.filter (·.2.enable)).map fun x => { src := 1152 + x.1, out := x.2.output, gain := some (bedGain x.2.gain) })

/-- Whether contributions of two banks are shared (R222, R258). -/
def sharedPath (a b : Path) : Bool :=
  a.src = b.src && a.out = b.out && decide (a.slot = b.slot) && decide (a.gain = b.gain) && a.mode = b.mode &&
    a.fine = b.fine && a.air = b.air && decide (a.pos = b.pos)

/-- The union of two contribution sets, source by source, each with its role: 0 shared, 1 the first bank only, 2 the second
only; a shared one is far when it is far in either bank (R30, R189). -/
def unionPaths (a b : List Path) : List (Path × Nat) :=
  (List.range 1280).flatMap fun s =>
    let a := a.filter (·.src = s)
    let b := b.filter (·.src = s)
    (a.map fun p =>
      match b.find? (sharedPath p) with
      | some q => ({ p with far := p.far || q.far, mayFar := p.mayFar || q.mayFar }, 0)
      | none => (p, 1)) ++ (b.filter fun q => !a.any (sharedPath · q)).map fun q => (q, 2)

/-- The lane slots of a contribution (R29). -/
def pathSlots (p : Path) : Nat := if p.fine then 2 else 1

/-- The lane slots of a list of contributions. -/
def slotsTotal (ps : List (Path × Nat)) : Nat := ps.foldl (fun a p => a + pathSlots p.1) 0

/-! ### Admission (R182, R189, R190, R257) -/

/-- What a commit finds: the status, words 2 to 7 of R190, the step that failed and the number implicated. -/
structure Admission where
  status : Status := .ok
  slotsU : Nat := 0
  slotsS : Nat := 0
  far : Nat := 0
  farObjs : Nat := 0
  faces : Nat := 0
  sets : Nat := 0
  step : Nat := 0
  who : Nat := 0xFFFFFFFF
deriving DecidableEq, Repr

/-- The nine words of the notice of LAYOUT_COMMIT (R190). -/
def Admission.words (a : Admission) : List Nat :=
  [statusCode a.status, a.slotsU, a.slotsS, a.far, a.farObjs, a.faces, a.sets, a.step, a.who]

/-- Step 1: the number implicated when a record, zone or object is not valid (R181, R182, R257). -/
def Layout.invalid (l : Layout) (k : Caps) : Option Nat :=
  let spks := l.speakers
  let keys := l.setKeys
  let sets := keys.map fun x => l.members x
  let first := fun (q : Nat × Speaker → Bool) => (spks.find? q).map (·.1)
  first (fun x => x.1 ≥ k.outs) <|>
  first (fun x => idot x.2.pos x.2.pos < 2048 * 2048) <|>
  first (fun x => sets.any fun s => s.any (·.1 = x.1) && s.any fun y => y.1 < x.1 && withinHalfDegree x.2.pos y.2) <|>
  first (fun x => spks.any fun y =>
    y.1 < x.1 && x.2.inArray && y.2.inArray && x.2.array = y.2.array && x.2.element = y.2.element) <|>
  (l.enabled.find? fun x => match x.2.key with
    | some key => (l.members key).isEmpty
    | none => false).map (·.1) <|>
  (l.objs.find? fun x => x.2.boxMin.1 > x.2.boxMax.1 || x.2.boxMin.2.1 > x.2.boxMax.2.1 ||
    x.2.boxMin.2.2 > x.2.boxMax.2.2).map (·.1) <|>
  (l.enabledBuses.find? fun x => (l.renderSet x.2.zone x.2.excl).isEmpty).map fun x => 1024 + 64 * x.1

/-- Step 2: the number implicated when an object, output or delay is out of capacity (R189, R257). -/
def Layout.tooFar (l : Layout) (k : Caps) : Option Nat :=
  (l.enabled.find? fun x =>
    x.1 ≥ k.objs || (x.2.mode = 3 && x.2.direct ≥ k.outs) ||
      ((x.2.mode = 1 || x.2.mode = 2) && (l.renderSet x.2.zone x.2.excl).any fun s => largestDelay k l x.2 s.2 > 131071)).map
    (·.1) <|>
  (l.beds.find? fun x => x.2.enable && x.2.output ≥ k.outs).map fun x => 1152 + x.1

/-- The faces of all meshes of a layout (R185). -/
def Layout.faces (l : Layout) : Nat :=
  l.setKeys.foldl (fun a k => if k.1 then a else a + faceCount ((l.members k).map (·.2))) 0

/-- The five steps of a commit on a live and a staged bank (R189, R190). The counts of a step that fails, and of later
steps, are 0. -/
def admitAll (k : Caps) (live staged : Layout) : Admission :=
  match staged.invalid k with
  | some w => { status := .badParam, step := 1, who := w }
  | none =>
    match staged.tooFar k with
    | some w => { status := .outOfRange, step := 2, who := w }
    | none =>
      let sets := staged.setKeys.length
      let faces := staged.faces
      if sets > 256 ∨ faces > 2048 then { status := .noResource, step := 3 }
      else
        let u := unionPaths (live.paths k) (staged.paths k)
        let a : Admission := { sets := sets, faces := faces }
        if slotsTotal u > k.slots then { a with status := .noResource, step := 4 }
        else
          let a := { a with slotsU := slotsTotal u, slotsS := slotsTotal ((staged.paths k).map fun p => (p, 2)) }
          let far := u.filter (·.1.far)
          let farObjs := (far.map (·.1.src)).eraseDups.length
          if far.length > k.far ∨ farObjs > k.farObjs then { a with status := .noResource, step := 5 }
          else { a with far := far.length, farObjs := farObjs }

def opLayoutAdmission : Opc := { code := 0x0309, len := (· = 4) }

/-- LAYOUT_ADMISSION_GET (R196): the counts of a bank as its union with an empty bank, then STAGED_READY. -/
def layoutAdmissionBody : Body := fun c r =>
  if r.n 0 > 1 then ans c .badParam
  else okW c (((admitAll c.caps {} (c.layout (r.n 0))).words.drop 1).take 6 ++ [c.f (stagedReady 0)])

def opLayoutCommit : Opc := { code := 0x0308, len := (· = 0) }

/-- LAYOUT_COMMIT starts (R188, R189). -/
def layoutCommitBody : Body := fun c r =>
  if c.sceneBusy then ans c .busy
  else ans { c with scene := { c.scene with commit := some r.tok } } .accepted

end Sys2Proof.Machine
end

