-- ==== Sys2Proof/Machine/Render.lean ====
section
/-! DEFINITION. The render engines and delay memory (chapter 9): the contribution table, delay lines, ramps, kernels, the
sums of a block, and expert access. -/

namespace Sys2Proof.Machine

/-! ### Ramps (R239, R240) -/

/-- X(j) of a ramp of R samples from X0 to X1 (R239). -/
def rampAt (x0 x1 : Int) (len j : Nat) : Int := if j + 1 ≥ len then x1 else x0 + roundDiv ((x1 - x0) * (j + 1)) len

/-- The gain, delay and air coefficient of an entry at sample n. -/
def Entry.at (e : Entry) (n : Nat) : Int × Int × Int :=
  let j := n - e.s0
  (rampAt e.gS e.gT e.len j, rampAt e.dS e.dT e.len j, rampAt e.aS e.aT e.len j)

/-- A new ramp from the values held at sample b − 1 to new targets (R240). -/
def Entry.ramp (e : Entry) (b len : Nat) (g : Int) (d a : Nat) : Entry :=
  let v := e.at (b - 1)
  { e with gS := v.1, gT := g, dS := v.2.1.toNat, dT := d, aS := v.2.2.toNat, aT := a, s0 := b, len := max len 1 }

/-- Every quantity at its target (R240). -/
def Entry.settle (e : Entry) : Entry := { e with gS := e.gT, dS := e.dT, aS := e.aT }

/-! ### Kernels (R241 to R243) -/

/-- The 4-tap Lagrange coefficients in Q2.22 at μ = m / 65,536 (R242). -/
def lagrange (m : Int) : List Int :=
  let u := 65536
  let r := fun (num : Int) (den : Nat) => roundDiv (num * 2 ^ 22) (den * 2 ^ 48)
  [r (-((m - u) * (m - 2 * u) * (m - 3 * u))) 6, r (m * (m - 2 * u) * (m - 3 * u)) 2, r (-(m * (m - u) * (m - 3 * u))) 2,
    r (m * (m - u) * (m - 2 * u)) 6]

/-- The Hann-windowed sinc c_k of R243 at x = d / 65,536. -/
def fineTap (d : Int) : Fx :=
  if d = 0 then one
  else if d.natAbs > 4 * 65536 then 0
  else
    let w := cosTurn d (16 * 65536)
    fmul (fdiv (sinTurn d (2 * 65536)) (fmul fpi (fx d 65536))) (fmul w w)

/-- The 8-tap fine coefficients in Q2.22 at μ = m / 65,536 (R243). -/
def fineKernel (m : Int) : List Int :=
  let cs := (List.range 8).map fun (k : Nat) => fineTap (m - 65536 * (k : Int))
  let t := cs.foldl (· + ·) 0
  cs.map fun x => roundFx 22 (fdiv x t)

/-- The offset e of the newest tap at a delay word (R241). -/
def tapOffset (fine : Bool) (d : Nat) : Nat := d / 65536 - (if fine then 3 else 1)

/-- The coefficients at a delay word (R241). -/
def kernelAt (fine : Bool) (d : Nat) : List Int :=
  let m : Int := (d : Int) - 65536 * (tapOffset fine d : Nat)
  if fine then fineKernel m else lagrange m

/-! ### Delay memory (R233 to R238) -/

/-- The word address of sample n of an object's near line (R233). -/
def nearAddr (nspan o n : Nat) : Nat := o * nspan + n % nspan

/-- The first sample count of the near lines (R238). -/
def Core.nearFrom (c : Core) : Nat := max c.ren.nearStart c.clk.zeroBefore

/-- A near word by address, with concealment of an uncorrectable one by the sample one newer (R235). -/
def Core.nearWord (c : Core) (o n : Nat) : Int :=
  let s := c.caps.nspan
  let bad := fun k => smGet (fun _ => 0) c.ren.nearFault (nearAddr s o k) = 2
  if bad n then (if bad (n + 1) then 0 else smGet (fun _ => 0) c.ren.near (nearAddr s o (n + 1)))
  else smGet (fun _ => 0) c.ren.near (nearAddr s o n)

/-- The DRAM address of sample n of far slot s (R236). -/
def Core.farAddr (c : Core) (s n : Nat) : Nat :=
  c.get64 R.RENDER_FAR_BASE_LO R.RENDER_FAR_BASE_HI + 4 * (s * 131072 + n % 131072)

/-- A sample that an entry reads, given how DRAM reads a word: none is an uncorrectable ECC error (R237, R238). -/
def Core.lineSample (c : Core) (dram : Nat → Option Nat) (e : Entry) (n : Int) : Int :=
  if n < 0 then 0
  else
    let n := n.toNat
    if e.far then
      match smGet (fun _ => none) c.ren.farSlot e.src with
      | none => 0
      | some s =>
        if n < max (smGet (fun _ => 0) c.ren.farStart e.src) c.clk.zeroBefore then 0
        else signed 24 ((dram (c.farAddr s n)).getD 0)
    else if n < c.nearFrom then 0 else c.nearWord e.src n

/-! ### A block of one entry (R244) -/

/-- The code of the live bank of Palette 0 in an entry's BANK field. -/
def Core.liveCode (c : Core) : Nat := 1 + bitsOf (c.get R.CALIPER_PAL_STATUS) 4 4

/-- The Glaze of Palette 0 that runs, if any: its boundary and length. -/
def Core.glaze0 (c : Core) : Option (Nat × Nat) := (c.cal.glazes.find? (·.mask % 2 = 1)).map fun g => (g.b, g.g)

/-- Where an entry's product goes: the Glaze weight at sample n, and whether into the live sums (R245). -/
def Core.entryWeight (c : Core) (e : Entry) (n : Nat) : Int × Bool :=
  if e.bank = 0 then (2 ^ 23, true)
  else
    match c.glaze0 with
    | some (b, g) => (if e.bank = c.liveCode then wIn (n - b) g else wOut (n - b) g, true)
    | none => (2 ^ 23, e.bank = c.liveCode)

/-- One sample of an entry: the product and the new air-filter state (R244). t is the captured sample count. -/
def Core.entrySample (c : Core) (dram : Nat → Option Nat) (e : Entry) (y : Int) (n t : Nat) : Int × Int :=
  let v := e.at n
  let y' :=
    if e.fixed then 16 * (smGet (fun _ => []) c.ren.cap e.src).getD (t % c.blk) 0
    else
      let d := v.2.1.toNat
      let off : Int := (t : Int) - (tapOffset e.fine d : Nat)
      let h := kernelAt e.fine d
      let acc := (List.range h.length).foldl (fun (a : Int) (k : Nat) => a + h.getD k 0 * c.lineSample dram e (off - k)) 0
      let x := sat 28 (rshr 18 acc)
      sat 28 (x + rshr 16 (v.2.2 * (y - x)))
  let w := (c.entryWeight e n).1
  let g := if w = 2 ^ 23 then v.1 else rshr 23 (v.1 * w)
  (rshr 9 (g * y'), if e.fixed then y else y')

/-- The samples of an entry from index j on. -/
def Core.entrySamples (c : Core) (dram : Nat → Option Nat) (e : Entry) (b : Nat) : Nat → Nat → Int → List Int × Int
  | 0, _, y => ([], y)
  | k + 1, j, y =>
    let r := c.entrySample dram e y (b + j) (b - c.blk + j)
    let t := c.entrySamples dram e b k (j + 1) r.2
    (r.1 :: t.1, t.2)

/-- A block of an entry: its products and the entry afterwards. An entry whose work did not finish, or whose far window did
not arrive, contributes 0 and holds Y (R237, R249). -/
def Core.entryBlock (c : Core) (dram : Nat → Option Nat) (e : Entry) : List Int × Entry :=
  if e.dropped ∨ !e.bound then ([], { e with dropped := false })
  else
    let r := c.entrySamples dram e c.ren.blockAt c.blk 0 e.y
    (r.1, { e with y := r.2 })

/-! ### Windows (R246) -/

/-- The oldest and newest line samples that an entry's kernel touches over a block. -/
def Core.entrySpan (c : Core) (e : Entry) : Int × Int :=
  let b := c.ren.blockAt
  (List.range c.blk).foldl (fun (a : Int × Int) j =>
    let off : Int := ((b - c.blk + j : Nat) : Int) - (tapOffset e.fine (e.at (b + j)).2.1.toNat : Nat)
    let lo := off - (if e.fine then 7 else 3)
    if j = 0 then (lo, off) else (min a.1 lo, max a.2 off)) (0, 0)

/-- The window that a lane holds: source, tier and first sample. -/
abbrev LaneWindow := Option (Nat × Bool × Int)

/-- What fetching does over a lane's list: near fetches, shared windows, far fetches, faulty words seen (R235, R246). -/
def Core.laneFetch (c : Core) (es : List Entry) : Nat × Nat × Nat × List Nat :=
  let r := es.foldl (fun (s : LaneWindow × Nat × Nat × Nat × List Nat) e =>
    if e.fixed ∨ !e.bound then (none, s.2)
    else
      let span := c.entrySpan e
      let same := match s.1 with
        | some (o, f, lo) => o = e.src && f = e.far && decide (lo ≤ span.1) && decide (span.2 < lo + 32)
        | none => false
      if same then (s.1, s.2.1, s.2.2.1 + 1, s.2.2.2)
      else if e.far then (some (e.src, true, span.1 / 4 * 4), s.2.1, s.2.2.1, s.2.2.2.1 + 1, s.2.2.2.2)
      else
        let addrs := (List.range 32).filterMap fun (i : Nat) =>
          if span.1 + i < 0 then none else some (nearAddr c.caps.nspan e.src (span.1 + i).toNat)
        let bad := addrs.filter fun a => smGet (fun _ => 0) c.ren.nearFault a ≠ 0
        (some (e.src, false, span.1), s.2.1 + 1, s.2.2.1, s.2.2.2.1, s.2.2.2.2 ++ bad)) (none, 0, 0, 0, [])
  r.2

/-- The key of the near row of a word address among the errors seen: bank A mod 64, row A / 16,384 (R233, R513). -/
def nearRowKey (a : Nat) : Nat := 4 * 2 ^ 32 + a % 64 * 1024 + a / 16384

/-- A faulty near word has been read (R235). -/
def Core.nearFaultRead (c : Core) (a : Nat) : Core :=
  let c := c.seenAt (nearRowKey a + if smGet (fun _ => 0) c.ren.nearFault a = 2 then 2 ^ 40 else 0)
  if smGet (fun _ => 0) c.ren.nearFault a = 2 then
    let c := if c.flag F.RENDER_FIRST_UNCORR_VALID then c
      else (c.setF F.RENDER_FIRST_UNCORR_ADDR a).setF F.RENDER_FIRST_UNCORR_VALID 1
    (c.count R.RENDER_NEAR_UNCORRECTED).raise F.RENDER_INT_STATUS_NEAR_UNCORRECTED
  else (c.count R.RENDER_NEAR_CORRECTED).raise F.RENDER_INT_STATUS_NEAR_CORRECTED

/-- The lane that computes the list of a lane: RE8's where it stands in (R230). -/
def Core.standIn (c : Core) (l : Nat) : Nat :=
  match (List.range 4).find? fun m => c.flag (F.RENDER_LANE_SPARE_VALID m) && c.f (F.RENDER_LANE_SPARE_LANE m) = l with
  | some m => 32 + m
  | none => l

/-- The counters of a block's fetches, and the busiest lane (R246). -/
def Core.fetchCounts (c : Core) : Core :=
  let c := (List.range 32).foldl (fun c l =>
    let r := c.laneFetch (c.ren.entries.filter (·.lane = l))
    let c := ((c.countW R.RENDER_WINDOW_FETCH r.1).countW R.RENDER_WINDOW_SHARED r.2.1).countW R.RENDER_FAR_FETCH r.2.2.1
    let c := (List.range (r.1 + r.2.2.1)).foldl (fun (c : Core) _ => c.laneSmudge (c.standIn l)) c
    r.2.2.2.foldl Core.nearFaultRead c) c
  let busy := c.f F.RENDER_LANE_MAX_SLOTS * c.blk
  if busy > c.f F.RENDER_PEAK_BUSY_CYCLES then c.setF F.RENDER_PEAK_BUSY_CYCLES busy else c

/-! ### The sums of a block (R247 to R249) -/

/-- The headroom shift of an output (R247). -/
def Core.headroom (c : Core) (o : Nat) : Nat := bitsOf (c.get (R.RENDER_HEADROOM 0 + 4 * (o / 8))) (4 * (o % 8) + 3) (4 * (o % 8))

/-- A sum shifted and rounded, before saturation (R247). -/
def shiftSum (h : Nat) (s : Int) : Int := rshr (16 + h) s

/-- Products added to the sums of an output. -/
def addSums (m : SMap (List Int)) (o : Nat) (p : List Int) : SMap (List Int) :=
  let old := smGet (fun _ => []) m o
  smSet (fun _ => []) m o (if old.isEmpty then p else List.zipWith (· + ·) old p)

/-- A block of samples, zeros where nothing is listed. -/
def blockOf (blk : Nat) (l : List Int) : List Int := if l.isEmpty then List.replicate blk 0 else l

/-- The last 191 samples of each output, newest first, after a block (R262). -/
def pushHist (blk : Nat) (hist sums : SMap (List Int)) : SMap (List Int) :=
  (List.range 512).foldl (fun m o =>
    let h := smGet (fun _ => []) hist o
    let s := smGet (fun _ => []) sums o
    if h.isEmpty ∧ s.isEmpty then m
    else
      let all := ((blockOf blk s).reverse ++ h).take 191
      smSet (fun _ => []) m o (if all.all (· = 0) then [] else all)) []

/-- The sums of a block by output, of the entries that go into the live sums or of the others (R245). -/
def sumEntries (live : Bool) (done : List ((List Int × Entry) × Bool)) : SMap (List Int) :=
  done.foldl (fun m x => if x.2 = live && !x.1.1.isEmpty then addSums m x.1.2.out x.1.1 else m) []

/-- Sums shifted and saturated; outputs at zero are not listed. -/
def Core.cutSums (c : Core) (m : SMap (List Int)) : SMap (List Int) :=
  (m.map fun x => (x.1, x.2.map fun s => sat 24 (shiftSum (c.headroom x.1) s))).filter fun x => !x.2.all (· = 0)

/-- The live samples of each output that saturate. -/
def Core.clipped (c : Core) (m : SMap (List Int)) : List (Nat × Nat) :=
  m.map fun x => (x.1, (x.2.filter fun s => let v := shiftSum (c.headroom x.1) s; decide (sat 24 v ≠ v)).length)

/-- Far samples of the block that DRAM reports as uncorrectable (R237). -/
def Core.farEcc (c : Core) (dram : Nat → Option Nat) : Nat :=
  (c.ren.entries.filter fun e => e.far && e.bound && !e.dropped).foldl (fun a e =>
    let span := c.entrySpan e
    match smGet (fun _ => none) c.ren.farSlot e.src with
    | none => a
    | some s => a + ((List.range (span.2 - span.1 + 1).toNat).filter fun (i : Nat) =>
        decide (span.1 + i ≥ 0) && (dram (c.farAddr s (span.1 + i).toNat)).isNone).length) 0

/-- The engines have finished the block in hand: products, sums, headroom, saturation and clip counts (R244 to R249). -/
def Core.finishRender (c : Core) (dram : Nat → Option Nat) : Core :=
  if !c.ren.busy then c
  else
    let c := c.fetchCounts
    let b := c.ren.blockAt
    let done := c.ren.entries.map fun e => (c.entryBlock dram e, (c.entryWeight e b).2)
    let sums := sumEntries true done
    let out := c.cutSums sums
    let aud := c.cutSums (sumEntries false done)
    let clips := c.clipped sums
    let ecc := c.farEcc dram
    let c := { c with ren := { c.ren with
      busy := false, entries := done.map (·.1.2), live := out, staged := aud, blockN := b,
      liveHist := pushHist c.blk c.ren.liveHist out, stagedHist := pushHist c.blk c.ren.stagedHist aud } }
    let c := clips.foldl (fun c x => if x.2 = 0 then c else (c.countN (R.RENDER_CLIP x.1) x.2).raise F.RENDER_INT_STATUS_CLIP) c
    if ecc = 0 then c else (c.countN R.RENDER_FAR_ECC ecc).raise F.RENDER_INT_STATUS_FAR_ECC

/-- Whether the engines render: MEDIA runs below 192 kHz, nothing stops them, and targets have been handed over since the
last restart, or are handed over at this boundary (R28, R65, R66, R135). -/
def Core.renders (c : Core) : Bool :=
  c.clk.mediaOn && !c.power.engineStop && c.clk.mult ≠ 2 &&
    (!c.ren.fresh || (c.cal.pendAt.map fun h => decide (h ≤ c.time.n)).getD false)

/-- The near and far line writes of a captured block: the near map, and the DRAM words (R234, R236). -/
def Core.writeLines (c : Core) : Core × List (Nat × Nat) :=
  let k := c.caps
  let t0 := c.time.n - c.blk
  let objs := List.range k.objs
  let near := objs.foldl (fun m o =>
    let xs := blockOf c.blk (smGet (fun _ => []) c.ren.cap o)
    (List.range c.blk).foldl (fun m j => smSet (fun _ => 0) m (nearAddr k.nspan o (t0 + j)) (xs.getD j 0)) m) c.ren.near
  let far := objs.flatMap fun o =>
    match smGet (fun _ => none) c.ren.farSlot o with
    | none => []
    | some s =>
      let xs := blockOf c.blk (smGet (fun _ => []) c.ren.cap o)
      (List.range c.blk).map fun j => (c.farAddr s (t0 + j), w32 (xs.getD j 0))
  let fault := c.ren.nearFault.filter fun x =>
    let a := x.1 % k.nspan
    !(List.range c.blk).any fun j => (t0 + j) % k.nspan = a
  ({ c with ren := { c.ren with near := near, nearFault := fault, nearEnd := c.time.n } }, far)

/-- The lane number of an entry that has no lane (R521). -/
def noLane : Nat := 99

/-- The engines start the block that is complete in capture (R33, step 3; R234). -/
def Core.startRender (c : Core) : Core :=
  if c.renders then
    { c with ren := { c.ren with busy := true, blockAt := c.time.n,
                                 entries := c.ren.entries.map fun e =>
                                   { e with window := false, dropped := c.health.silent.contains e.lane || e.lane = noLane } } }
  else { c with ren := { c.ren with live := [], staged := [], blockN := c.time.n } }

/-- All engines have finished the block (R247). -/
def Core.renderSumsComplete (c : Core) (dram : Nat → Option Nat) : Core := c.finishRender dram

/-! ### Engines, lanes and entries -/

/-- The lanes whose lists the memory of an engine holds: its own, or for RE8 those of the unit it shadows or replaces
(R230). -/
def Core.engineLanes (c : Core) (e : Nat) : List Nat := if e = 8 then c.ren.shadow else [4 * e, 4 * e + 1, 4 * e + 2, 4 * e + 3]

/-- The entries of an engine in table order. -/
def Core.engineEntries (c : Core) (e : Nat) : List Entry := (c.engineLanes e).flatMap fun l => c.ren.entries.filter (·.lane = l)

/-- What tells an entry from every other. -/
def Entry.key (e : Entry) : Nat × Nat × Option Nat × Nat := (e.src, if e.slot.isSome then 0 else e.out, e.slot, e.bank)

/-- The entries that satisfy a test change. -/
def Core.mapEntries (c : Core) (q : Entry → Bool) (f : Entry → Entry) : Core :=
  { c with ren := { c.ren with entries := c.ren.entries.map fun e => if q e then f e else e } }

/-- A far window of the block in hand has arrived (R237). -/
def farWindowArrive (engine index : Nat) (c : Core) : Core :=
  match (c.engineEntries engine)[index]? with
  | some x => if c.ren.busy then c.mapEntries (fun e => e.key = x.key && e.far) ({ · with window := true }) else c
  | none => c

/-- A lane has waited 4,096 cycles for a far window (R237). -/
def farWindowLate (engine index : Nat) (c : Core) : Core :=
  match (c.engineEntries engine)[index]? with
  | some x =>
    if c.ren.busy ∧ x.far ∧ !x.window ∧ !x.dropped then
      ((c.mapEntries (·.key = x.key) ({ · with dropped := true })).count R.RENDER_FAR_LATE).raise F.RENDER_INT_STATUS_FAR_LATE
    else c
  | none => c

/-- An engine has not finished by the deadline: of each of its lanes, the entries after the first `done` ones contribute 0
(R249). -/
def renderOverrun (engine : Nat) (done : List Nat) (c : Core) : Core :=
  if !c.ren.busy then c
  else
    let late := ((c.engineLanes engine).zip done).flatMap fun x => ((c.ren.entries.filter (·.lane = x.1)).drop x.2).map Entry.key
    if late.isEmpty then c
    else ((c.mapEntries (fun e => e.key ∈ late) ({ · with dropped := true })).count R.RENDER_OVERRUN).raise
      F.RENDER_INT_STATUS_OVERRUN

/-! ### Placement of the union (R229) -/

/-- Slots that an entry costs on its lane. -/
def entrySlots (e : Entry) : Nat := if e.fine then 2 else 1

/-- Entries of one source placed on some lanes: together on the first lane with room, else one by one; one that fits nowhere
has no lane. -/
def placeSource (lanes : List Nat) (limit : Nat) (use : List Nat) (es : List Entry) : List Nat × List Entry :=
  let n := es.foldl (fun a e => a + entrySlots e) 0
  match lanes.find? fun l => use.getD l 0 + n ≤ limit with
  | some l => (listSet use l (use.getD l 0 + n), es.map ({ · with lane := l }))
  | none => es.foldl (fun (s : List Nat × List Entry) e =>
      let l := (lanes.find? fun l => s.1.getD l 0 + entrySlots e ≤ limit).getD noLane
      (listSet s.1 l (s.1.getD l 0 + entrySlots e), s.2 ++ [{ e with lane := l }])) (use, [])

/-- The entries of the union placed on some lanes, source by source (R229). -/
def placeAll (lanes : List Nat) (limit : Nat) (es : List Entry) : List Nat × List Entry :=
  (List.range 1280).foldl (fun (s : List Nat × List Entry) o =>
    let r := placeSource lanes limit s.1 (es.filter (·.src = o))
    (r.1, s.2 ++ r.2)) (List.replicate 32 0, [])

/-- The lanes that hold lists: those in service and those that RE8 stands in for (R229, R521). -/
def Core.placeLanes (c : Core) : List Nat := (List.range 32).filter fun l => !c.health.silent.contains l

/-- The most slots of a lane (R229). -/
def Core.laneLimit (c : Core) : Nat := (capsOf c.clk.family c.clk.mult c.clk.ll).slots / 32

/-- The entry of a path in a role of the union: what the table already holds of it keeps its state (R222, R231). -/
def Core.entryOf (c : Core) (p : Path) (role : Nat) : Entry :=
  let live := c.liveCode
  let bank := if role = 0 then 0 else if role = 1 then live else 3 - live
  let fresh : Entry := { src := p.src, out := p.out, slot := p.slot, bound := p.slot.isNone, bank := bank }
  let old := if role = 2 then none else c.ren.entries.find? fun e =>
    e.src = p.src && decide (e.slot = p.slot) && (e.slot.isSome || e.out = p.out) && (e.bank = 0 || e.bank = live)
  let e := { old.getD fresh with bank := bank, fixed := p.gain.isSome, fine := p.fine, air := p.air, farCount := p.mayFar }
  match p.gain with
  | some g => { e with gS := g, gT := g, dS := 0, dT := 0, aS := 0, aT := 0, far := false }
  | none => e

/-- Far slots after a commit: an object that is far in either bank keeps its slot or takes the lowest free one, and its line
starts filling at the next block boundary (R216, R236). -/
def Core.placeFar (c : Core) (objs : List Nat) (start : Nat) : Core :=
  let kept := c.ren.farSlot.filter fun x => x.1 ∈ objs
  let news := objs.filter fun o => !kept.any (·.1 = o)
  news.foldl (fun c o =>
    let used := c.ren.farSlot.filterMap (·.2)
    let s := ((List.range 256).find? fun s => !(s ∈ used)).getD 255
    { c with ren := { c.ren with farSlot := smSet (fun _ => none) c.ren.farSlot o (some s),
                                 farStart := smSet (fun _ => 0) c.ren.farStart o start } })
    { c with ren := { c.ren with farSlot := kept, farStart := c.ren.farStart.filter fun x => x.1 ∈ objs } }

/-- The table is loaded with the union of both banks (R229, R231). -/
def Core.loadEntries (c : Core) : Core :=
  let k := c.caps
  let u := unionPaths (c.scene.live.paths k) (c.scene.staged.paths k)
  let r := placeAll c.placeLanes c.laneLimit (u.map fun x => c.entryOf x.1 x.2)
  let far := u.filter (·.1.far)
  let objs := ((u.filter (·.1.mayFar)).map (·.1.src)).eraseDups
  let c := { c with ren := { c.ren with entries := r.2 } }
  let c := c.placeFar objs (c.nextB - c.blk)
  let c := (c.setF F.RENDER_LOAD_SLOTS_SLOTS (slotsTotal u)).setF F.RENDER_LOAD_FAR_FAR far.length
  (c.setF F.RENDER_LOAD_FAR_OBJ_OBJECTS objs.length).setF F.RENDER_LANE_MAX_SLOTS (r.1.foldl max 0)

/-! ### Expert access (R251, R252) -/

/-- The field of RENDER_EXPERT_OBJn for an object. -/
def expertBit (o : Nat) : Field := ⟨R.RENDER_EXPERT_OBJ 0 + 4 * (o / 32), o % 32, o % 32⟩

def opRenderStatus : Opc := { code := 0x0A00, expert := true, len := (· = 0) }

/-- RENDER_STATUS_GET (R251). -/
def renderStatusBody : Body := fun c _ =>
  let ws := [R.RENDER_STATUS, R.RENDER_ENGINE_MAP, R.RENDER_LANE_SPARE, R.RENDER_LOAD_SLOTS, R.RENDER_LOAD_FAR,
    R.RENDER_LANE_MAX, R.RENDER_PEAK_BUSY].map fun r => (c.get r).toNat
  okW (c.setF F.RENDER_PEAK_BUSY_CYCLES 0) ws

/-- The 192 bits of an entry (R231). -/
def Entry.word (e : Entry) : Nat :=
  unsigned 24 e.gS + unsigned 24 e.gT * 2 ^ 24 + e.dS * 2 ^ 48 + e.dT * 2 ^ 81 + e.aS * 2 ^ 114 + e.aT * 2 ^ 130 +
    unsigned 28 e.y * 2 ^ 146 + e.out * 2 ^ 174 + e.bank * 2 ^ 183 + e.j0 % 16 * 2 ^ 185 + b2n e.fine * 2 ^ 189 +
    b2n e.far * 2 ^ 190 + 2 ^ 191

/-- The low n 32-bit words of a number, least significant first. -/
def natWords (n v : Nat) : List Nat := (List.range n).map fun i => v / 2 ^ (32 * i) % 2 ^ 32

def opContribRead : Opc := { code := 0x0A01, expert := true, len := (· = 12) }

/-- CONTRIB_READ (R251); an index beyond the engine's lists reads as an entry that is not valid. -/
def contribReadBody : Body := fun c r =>
  let n := r.n 2
  if r.n 0 > 8 ∨ r.n 1 > 65535 ∨ n = 0 ∨ n > 128 ∨ r.n 1 + n > 65536 then ans c .outOfRange
  else
    let es := c.engineEntries (r.n 0)
    okW c ((List.range n).flatMap fun i =>
      match es[r.n 1 + i]? with
      | some e => e.src :: natWords 6 e.word
      | none => [0, 0, 0, 0, 0, 0, 0])

def opContribFind : Opc := { code := 0x0A02, expert := true, len := (· = 12) }

/-- The index of the first element that satisfies a test. -/
def findIndex {α : Type} (q : α → Bool) : List α → Nat → Option Nat
  | [], _ => none
  | a :: t, i => if q a then some i else findIndex q t (i + 1)

/-- CONTRIB_FIND (R251). -/
def contribFindBody : Body := fun c r =>
  let code := if r.n 2 = 0 then c.liveCode else 3 - c.liveCode
  let q := fun (e : Entry) => e.src = r.n 0 && e.out = r.n 1 && e.bound && (e.bank = 0 || e.bank = code)
  if r.n 2 > 1 then ans c .badParam
  else
    match (List.range 8).filterMap (fun e => (findIndex q (c.engineEntries e) 0).map fun i => (e, i)) with
    | (e, i) :: _ => okW c [e, i, (((c.engineEntries e)[i]?).map (·.bank)).getD 0]
    | [] => ans c .badParam

def opExpertObject : Opc := { code := 0x0A03, expert := true, timeable := true, len := (· = 8) }

/-- EXPERT_OBJECT_SET (R251). -/
def expertObjectBody : Body := fun c r =>
  if r.n 1 > 1 then ans c .badParam
  else if r.n 0 ≥ c.caps.objs then ans c .outOfRange
  else ans { c with ren := { c.ren with expertDue := c.ren.expertDue ++ [(r.n 0, decide (r.n 1 = 1))] } } .ok

/-- The items of a CONTRIB_WRITE: engine, entry index, and the words of its targets. -/
def contribItem (r : Req) (i : Nat) : Nat × Nat × Word × Nat × Nat :=
  let w := fun j => r.w (1 + 5 * i + j)
  (bitsOf (w 0) 19 16, bitsOf (w 0) 15 0, w 1, (w 2).toNat + bitsOf (w 3) 0 0 * 2 ^ 32, (w 4).toNat)

/-- The check of one item (R252). -/
def Core.contribCheck (c : Core) (r : Req) (i : Nat) : Option Status :=
  let w := fun j => r.w (1 + 5 * i + j)
  let x := contribItem r i
  if (w 0).toNat ≥ 2 ^ 20 ∨ (w 3).toNat > 1 ∨ (w 4).toNat ≥ 65536 ∨ (sext? 24 (w 1)).isNone then some .badParam
  else
    match (c.engineEntries x.1)[x.2.1]? with
    | none => some .notPermitted
    | some e =>
      if e.fixed ∨ !c.flag (expertBit e.src) ∨ !(e.bank = 0 ∨ e.bank = c.liveCode) then some .notPermitted
      else if (if e.farCount then x.2.2.2.1 > 131071 * 65536 else x.2.2.2.1 ≥ c.caps.nspan * 65536) then some .outOfRange
      else if !e.air ∧ x.2.2.2.2 ≠ 0 then some .outOfRange
      else none

/-- The handover after boundary b. -/
def Core.handoverAfter (c : Core) (b : Nat) : Nat :=
  match c.cal.pendAt with
  | some h => if h > b then h else max (c.cal.next + c.blk) (b + c.blk)
  | none =>
    let h := c.cal.next + c.blk
    if h > b then h else b + c.blk + (c.cal.len - (b - h) % c.cal.len) % c.cal.len

/-- A delay target clamped to 0.25 × R from the value at b − 1 (R252). -/
def clampDelay (lim : Nat) (prev : Int) (d : Nat) : Nat := (clampInt (prev - lim) (prev + lim) d).toNat

/-- The tier of a far-counted entry for a ramp (R215). -/
def Core.tierOf (c : Core) (e : Entry) (d0 d1 : Nat) : Bool :=
  let hi := max d0 d1
  let near := c.caps.nspan * 65536
  let hyst := min 4096 (c.f F.CALIPER_NEAR_HYST_HYST) * 65536
  e.farCount && (if hi > near then true else if hi ≤ near - hyst then false else e.far)

/-- Expert targets take effect at their boundary (R240, R252). -/
def Core.expertApply (c : Core) (x : ExpertWrite) : Core :=
  x.items.foldl (fun c i =>
    match (c.engineEntries i.1)[i.2.1]? with
    | none => c
    | some e0 => c.mapEntries (·.key = e0.key) fun e =>
        let e' := e.ramp x.b (x.stop - x.b) i.2.2.1 i.2.2.2.1 i.2.2.2.2
        { e' with far := c.tierOf e e'.dS e'.dT, j0 := (x.b - c.cal.handAt) / c.blk }) c

/-- Expert targets whose boundary has come. -/
def Core.expertBlock (c : Core) : Core :=
  let due := c.ren.expert.filter (·.b ≤ c.time.n)
  due.foldl Core.expertApply { c with ren := { c.ren with expert := c.ren.expert.filter (·.b > c.time.n) } }

def opContribWrite : Opc := { code := 0x0A04, expert := true, timeable := true }

/-- CONTRIB_WRITE (R252). -/
def contribWriteBody : Body := fun c r =>
  let n := r.n 0
  if r.bytes.length < 4 ∨ r.bytes.length ≠ 4 + 20 * n then ans c .badLength
  else if n = 0 ∨ n > 200 then ans c .outOfRange
  else
    match (List.range n).filterMap fun i => (c.contribCheck r i).map fun st => (i, st) with
    | (i, st) :: _ => (c, st, natBytes [i])
    | [] =>
      let b := if pkAtTime r.p then c.boundaryAt (pkAt r.p) else c.boundaryAt (c.now + 2 * c.blk)
      let stop := c.handoverAfter b
      let items := (List.range n).map fun i =>
        let x := contribItem r i
        let prev := (((c.engineEntries x.1)[x.2.1]?).map fun e => (e.at (b - 1)).2.1).getD 0
        let d := clampDelay ((stop - b) * 16384) prev x.2.2.2.1
        (x.1, x.2.1, signed 32 x.2.2.1.toNat, d, x.2.2.2.2, b2n (d ≠ x.2.2.2.1))
      let clamped : Nat := items.foldl (fun a x => a + x.2.2.2.2.2) 0
      let w : ExpertWrite := { b := b, stop := stop, items := items.map fun x => (x.1, x.2.1, x.2.2.1, x.2.2.2.1, x.2.2.2.2.1) }
      let c := { c with ren := { c.ren with expert := c.ren.expert ++ [w] } }
      let c := if b ≤ c.time.n then c.expertBlock else c
      let c := if clamped = 0 then c else (c.countN R.RENDER_EXPERT_CLAMP clamped).raise F.RENDER_INT_STATUS_EXPERT_CLAMP
      okW c [clamped]

def opNearRead : Opc := { code := 0x0A05, expert := true, len := (· = 16) }

/-- NEAR_READ (R251). -/
def nearReadBody : Body := fun c r =>
  let n0 := r.n 1 + r.n 2 * 2 ^ 32
  let k := r.n 3
  if r.n 0 ≥ c.caps.objs ∨ k = 0 ∨ k > 1000 then ans c .outOfRange
  else okW c ((List.range k).map fun i =>
    let n := n0 + i
    if n ≥ c.ren.nearEnd ∨ n + c.caps.nspan < c.ren.nearEnd ∨ n < c.nearFrom then 0x80000000
    else w32 (c.nearWord (r.n 0) n))

def opRenderCounters : Opc := { code := 0x0A06, expert := true, len := (· = 0) }

/-- RENDER_COUNTERS_GET (R251). -/
def renderCountersBody : Body := fun c _ =>
  okW c ([R.RENDER_NEAR_CORRECTED, R.RENDER_NEAR_UNCORRECTED, R.RENDER_FAR_LATE, R.RENDER_FAR_ECC, R.RENDER_OVERRUN,
    R.RENDER_EXPERT_CLAMP, R.RENDER_WINDOW_FETCH, R.RENDER_WINDOW_SHARED, R.RENDER_FAR_FETCH].map fun x => (c.get x).toNat)

def opClipCounts : Opc := { code := 0x0A07, expert := true, len := (· = 8) }

/-- CLIP_COUNTS_GET (R251). -/
def clipCountsBody : Body := fun c r =>
  let n := r.n 1
  if n = 0 ∨ n > 512 ∨ r.n 0 + n > 512 then ans c .outOfRange
  else
    let rs := (List.range n).map fun i => R.RENDER_CLIP (r.n 0 + i)
    okW (rs.foldl (fun c x => c.put x 0) c) (rs.map fun x => (c.get x).toNat)

/-- RENDER_FIRST_UNCORR.CLEAR (R235). -/
def Core.uncorrClear (c : Core) (v : Word) : Core :=
  if bitOf v 30 then (c.setF F.RENDER_FIRST_UNCORR_ADDR 0).setF F.RENDER_FIRST_UNCORR_VALID 0 else c

/-- A write of RENDER_FIRST_UNCORR. -/
def renderUncorrClear (m : Nat) (v : Word) (c : Core) : Core :=
  c.busWrite ⟨m, R.RENDER_FIRST_UNCORR, v⟩ 0 fun c => c.uncorrClear v

/-! ### Restarts (R238, R240, R250) -/

/-- Every entry starts at its target and Y is cleared; rendering starts at the next handover. -/
def Core.renderRestart (c : Core) : Core :=
  { c with ren := { c.ren with
      entries := c.ren.entries.map fun e => { e.settle with y := 0, dropped := false }
      fresh := true, busy := false, live := [], staged := [], liveHist := [], stagedHist := [] } }

end Sys2Proof.Machine
end

