-- ==== Sys2Proof/Machine/Caliper.lean ====
section
/-! DEFINITION. Caliper (chapter 8): the period, the gain, delay and air laws, the handover of targets, Maquette and the
Caliper opcodes. -/

namespace Sys2Proof.Machine

/-! ### The laws (R200 to R211) -/

/-- The law parameters of a snapshot: TAPER, DREF, K in Hz·m, and the speed in units of 2⁻²⁰ m/s. -/
structure Law where
  taper : Nat
  dref : Nat
  k : Nat
  speed : Nat
  fs : Nat
deriving DecidableEq, Repr

/-- The law parameters with the speed of a layout (R187, R198). -/
def Core.law (c : Core) (l : Layout) : Law :=
  { taper := min 50 (c.f F.CALIPER_FRONT_TAPER), dref := c.f F.CALIPER_FRONT_DREF, k := 100 * max 1 (c.f F.CALIPER_AIR_K_K),
    speed := c.speedFor l, fs := c.fsHz }

/-- A distance as a delay in samples. -/
def Law.delay (p : Law) (d : Fx) : Fx := d * (p.fs : Int) * 2 ^ 20 / (p.speed : Int)

/-- The air coefficient of an air distance (R210). -/
def Law.air (p : Law) (on : Bool) (d : Fx) : Fx :=
  if !on ∨ d ≤ 0 then 0 else fexp (-(fdiv (fmul (2 * fpi) ((p.k : Int) * one)) (d * (p.fs : Int))))

/-- A position clamped to an object's box (R180). -/
def clampBox (d : ObjDef) (p : Pos) : Pos :=
  (clampInt d.boxMin.1 d.boxMax.1 p.1, clampInt d.boxMin.2.1 d.boxMax.2.1 p.2.1, clampInt d.boxMin.2.2 d.boxMax.2.2 p.2.2)

/-- The distance of two positions in metres. -/
def fdist (a b : Pos) : Fx := vnorm (vsub (vpos a) (vpos b))

/-- An exact target of one loudspeaker: output, gain without G_obj, delay in samples, air coefficient. -/
abbrev Exact := Nat × Fx × Fx × Fx

/-- The taper of each loudspeaker of a render set (R207). -/
def Layout.tapers (l : Layout) (percent : Nat) (set : List (Nat × Pos)) : List Fx :=
  let recs := set.filterMap fun x => (l.spk x.1).map fun s => (x.1, s)
  set.map fun x =>
    match l.spk x.1 with
    | none => one
    | some s =>
      if !s.inArray then one
      else
        let arr := recs.filter fun y => y.2.inArray && y.2.array = s.array
        taper (arr.filter fun y => y.2.element < s.element).length arr.length percent

/-- The wavefront law (R206). -/
def Layout.front (l : Layout) (p : Law) (d : ObjDef) (pos : Pos) (set : List (Nat × Pos)) : List Exact :=
  let quarter := one / 4
  let shape := List.zipWith (fun (x : Nat × Pos) t =>
    let dist := fdist pos x.2
    let near := max dist quarter
    let li := vpos x.2
    let v := if dist = 0 then 0 else max 0 (vdot (vunit (vsub li (vpos pos))) (vneg (vunit li)))
    let k := one / 10 + 9 * v / 10
    (near, dist, fdiv (fmul t k) (fsqrt near))) set (l.tapers p.taper set)
  let norm := fsqrt (shape.foldl (fun a x => a + fmul x.2.2 x.2.2) 0)
  let dmin := shape.foldl (fun a x => if a = 0 then x.1 else min a x.1) 0
  let gd := if p.dref = 0 then one else min one (fdiv ((p.dref : Int) * one) dmin)
  List.zipWith (fun (x : Nat × Pos) s => (x.1, fmul gd (fdiv s.2.2 norm), p.delay s.1, p.air d.air s.2.1)) set shape

/-- The loudspeaker powers of PAN and HYBRID (R201 to R204). -/
def panPowers (set : List (Nat × Pos)) (pos : Pos) (spread : Nat) : List (Nat × Fx) :=
  List.zipWith (fun (x : Nat × Pos) p => (x.1, p)) set ((mkPanSet (set.map (·.2))).power (vpos pos) spread)

/-- The delay and air coefficient of a loudspeaker under PAN and HYBRID (R208, R210). -/
def panDelay (p : Law) (d : ObjDef) (pos : Pos) (set : List (Nat × Pos)) (spk : Pos) : Fx × Fx :=
  if d.mode = 2 then
    let dmin := set.foldl (fun a x => let y := fdist pos x.2; if a < 0 ∨ y < a then y else a) (-1)
    let x := fdist pos spk - dmin
    (p.delay x, p.air d.air x)
  else (0, p.air d.air (max 0 (vnorm (vpos pos) - vnorm (vpos spk))))

/-- The loudspeakers of largest power, at most 64, equal powers in output order (R205). -/
def strongest (ps : List (Nat × Fx)) : List Nat :=
  let before := fun (a b : Nat × Fx) => decide (a.2 > b.2) || (decide (a.2 = b.2) && decide (a.1 < b.1))
  (ps.filter fun x => decide ((ps.filter fun y => before y x).length < 64)).map (·.1)

/-- A list of outputs in order of power, largest first. -/
def byPower (ps : List (Nat × Fx)) : List Nat → List Nat
  | [] => []
  | o :: t =>
    let pw := fun o => ((ps.find? (·.1 = o)).map (·.2)).getD 0
    let rest := byPower ps t
    (rest.takeWhile fun x => decide (pw x > pw o)) ++ o :: rest.dropWhile fun x => decide (pw x > pw o)

/-- Outputs without a slot take the free slots, lowest first (R205): pairs of slot and output. -/
def bindFree : List Nat → List Nat → List (Nat × Nat)
  | s :: ss, o :: os => (s, o) :: bindFree ss os
  | _, _ => []

/-! ### Quantisation (R211) -/

/-- The quantised target of an exact one. `key` lists what the deviation may depend on. -/
def quantise (key : List Int) (gobj : Fx) (x : Fx × Fx × Fx) : Int × Nat × Nat :=
  let g := clampInt 0 (2 ^ 23 - 1) (withDev (0 :: key) 2 (roundFx 21 (fmul gobj x.1)))
  let d := clampInt 0 (2 ^ 33 - 1) (withDev (1 :: key) 2 (roundFx 16 x.2.1))
  let a := clampInt 0 65535 (withDev (2 :: key) 1 (roundFx 16 x.2.2))
  (g, d.toNat, a.toNat)

/-- What a target depends on. -/
def targetKey (p : Law) (o out : Nat) (x : ObjLive) (e : Fx × Fx × Fx) : List Int :=
  [(o : Int), out, x.pos.1, x.pos.2.1, x.pos.2.2, x.gain, x.spread, p.taper, p.dref, p.k, p.speed, p.fs, e.1, e.2.1, e.2.2]

/-! ### The targets of an object (R199 to R209) -/

/-- Whether an entry is silent at S_k: its present gain and its target are 0 (R205, R213). -/
def Entry.silentAt (e : Entry) (n : Nat) : Bool := decide (e.gT = 0) && decide ((e.at n).1 = 0)

/-- The targets that an object's entries of one bank get from a layout (R199 to R209). -/
def Core.objTargets (c : Core) (l : Layout) (o : Nat) (es : List Entry) (arrive : Bool) : List Target :=
  let d := l.obj o
  let x := c.obj o
  let p := c.law l
  let n := c.time.n
  let gobj := if x.mute then 0 else gainOf x.gain
  let mk := fun (e : Entry) (out : Nat) (v : Fx × Fx × Fx) =>
    let q := quantise (targetKey p o out x v) gobj v
    ({ src := o, out := out, slot := e.slot, bank := e.bank, g := q.1, d := q.2.1, a := q.2.2, arrive := arrive,
       silent := e.silentAt n } : Target)
  if d.mode = 3 then es.map fun e => mk e e.out (one, 0, 0)
  else
    let pos := clampBox d x.pos
    let set := l.renderSet d.zone d.excl
    if d.mode = 1 then
      let all := l.front p d pos set
      es.filterMap fun e => (all.find? (·.1 = e.out)).map fun v => mk e e.out v.2
    else
      let ps := panPowers set pos x.spread
      let pw := fun o => ((ps.find? (·.1 = o)).map (·.2)).getD 0
      let da := fun o => (((set.find? (·.1 = o)).map fun s => panDelay p d pos set s.2)).getD (0, 0)
      if set.length ≤ 64 then
        let t := ps.foldl (fun a x => a + x.2) 0
        es.map fun e => mk e e.out (fsqrt (fdiv (pw e.out) t), da e.out)
      else
        let s := byPower ps (strongest ps)
        let held := (es.filter fun e => e.bound && (e.out ∈ s || !e.silentAt n)).map fun e => ((e.slot.getD 0), e.out)
        let free := (es.filterMap (·.slot)).filter fun k => !held.any (·.1 = k)
        let bound := held ++ bindFree free (s.filter fun o => !held.any (·.2 = o))
        let t := bound.foldl (fun a b => if b.2 ∈ s then a + pw b.2 else a) 0
        es.filterMap fun e => (bound.find? fun b => some b.1 = e.slot).map fun b =>
          if b.2 ∈ s then mk e b.2 (fsqrt (fdiv (pw b.2) t), da b.2) else mk e b.2 (0, da b.2)

/-! ### Snapshots and handovers (R197 to R199, R212 to R215) -/

/-- Whether Caliper takes snapshots. -/
def Core.caliperRuns (c : Core) : Bool :=
  c.clk.mediaOn && !c.power.engineStop && !c.cal.inReset && c.clk.mult ≠ 2

/-- The running period in samples (R197). -/
def Core.period (c : Core) : Nat := clampNat 1 16 (c.f F.CALIPER_CTRL_PERIOD) * c.blk

/-- Objects that enter or leave expert control (R251). -/
def Core.expertTurn (c : Core) : Core :=
  c.ren.expertDue.foldl (fun c x => c.setB (expertBit x.1) x.2) { c with ren := { c.ren with expertDue := [] } }

/-- A CALIPER_CONFIG takes effect (R226). -/
def Core.configTurn (c : Core) : Core :=
  match c.cal.config with
  | none => c
  | some (a, b, k, h) =>
    let c := { c with cal := { c.cal with config := none } }
    (((c.put R.CALIPER_CTRL a).put R.CALIPER_FRONT b).put R.CALIPER_AIR_K k).put R.CALIPER_NEAR_HYST h

/-- Boxes that clamp an object of the live bank, once per object (R180). -/
def Core.boxClamps (c : Core) : Core :=
  let objs := (c.scene.objs.map fun x => (x.1, { x.2 with clamped := false })).filter (fun x => x.2 ≠ {})
  let c := { c with scene := { c.scene with objs := objs } }
  c.scene.live.enabled.foldl (fun c x =>
    let o := c.obj x.1
    if x.2.mode ≠ 3 ∧ clampBox x.2 o.pos ≠ o.pos then
      ((c.setObj x.1 { o with clamped := true }).count R.CALIPER_BOX_CLAMP_COUNT).raise F.CALIPER_INT_STATUS_BOX_CLAMP
    else c) c

/-- The targets of every contribution that needs them (R199). During the snapshot of a swap of Palette 0 shared
contributions go toward the staged bank and those of the staged bank arrive (R220, R222). -/
def Core.allTargets (c : Core) (swap : Bool) : List Target :=
  let live := c.liveCode
  let needStaged := swap || c.glaze0.isSome || c.flag F.CALIPER_MAQUETTE_EN
  (List.range 1024).flatMap fun o =>
    let es := c.ren.entries.filter fun e => e.src = o && !e.fixed
    if es.isEmpty then []
    else
      let expert := c.flag (expertBit o)
      [0, live, 3 - live].flatMap fun b =>
        let es := es.filter (·.bank = b)
        if es.isEmpty ∨ (b = 3 - live ∧ !needStaged) ∨ (b ≠ 3 - live ∧ expert) then []
        else c.objTargets (if b = 3 - live ∨ (b = 0 ∧ swap) then c.scene.staged else c.scene.live) o es (swap && b = 3 - live)

/-- A snapshot at the present boundary (R197, R198). -/
def Core.snapshot (c : Core) (swap : Bool) : Core :=
  let c := (c.configTurn.expertTurn).boxClamps
  let n := c.time.n
  let c := c.put R.CALIPER_SPEED (.ofNat 32 (c.speedFor c.scene.live))
  let c := (c.put64 R.CALIPER_PERIOD_START_LO R.CALIPER_PERIOD_START_HI n).setF F.CALIPER_STATUS_RUNNING 1
  let ts := c.allTargets swap
  let objs := (c.scene.objs.map fun x => (x.1, { x.2 with fresh := false })).filter fun x => x.2 ≠ {}
  { c with scene := { c.scene with objs := objs }
           cal := { c.cal with next := n + c.period, len := c.period, pend := ts, pendAt := some (n + c.blk) } }

/-- Caliper takes its snapshot at S_k (R198). -/
def caliperSnapshot (c : Core) : Core := if c.caliperRuns ∧ c.cal.next ≤ c.time.n then c.snapshot false else c

/-- One target is handed over (R212, R213, R215, R222, R240): the entry after, whether the Doppler limit clamped it, and
whether the tier changed. -/
def Core.handOne (c : Core) (at_ : Nat) (t : Target) (e : Entry) : Entry × Bool × Bool :=
  let prev := (e.at (at_ - 1)).2.1.toNat
  let free := c.ren.fresh || t.arrive || (t.silent && t.g = 0)
  let lim := c.cal.len * 16384
  let d := if free then t.d else clampDelay lim prev t.d
  let e' := e.ramp at_ c.cal.len t.g d t.a
  let e' := { e' with out := t.out, bound := true, j0 := 0, dS := if free then d else e'.dS }
  let e' := if c.ren.fresh ∨ t.arrive then e'.settle else e'
  let far := c.tierOf e e'.dS e'.dT
  ({ e' with far := far }, !free && d ≠ t.d, far ≠ e.far)

/-- Targets go to the render engines at S_k + 1 block (R198). -/
def Core.handover (c : Core) (at_ : Nat) : Core :=
  let hit := fun (e : Entry) => c.cal.pend.find? fun t =>
    t.src = e.src && t.bank = e.bank && decide (t.slot = e.slot) && (e.slot.isSome || t.out = e.out)
  let rs : List (Entry × Bool × Bool) := c.ren.entries.map fun e =>
    match hit e with
    | some t => c.handOne at_ t e
    | none => (if c.ren.fresh then e.settle else e, false, false)
  let clamped := ((rs.filter fun x => x.2.1).map fun x => x.1.src).eraseDups.length
  let tiers := (rs.filter fun x => x.2.2).length
  let c := { c with ren := { c.ren with entries := rs.map Prod.fst, fresh := false }
                    cal := { c.cal with pend := [], pendAt := none, handAt := at_ } }
  let c := (c.countW R.CALIPER_TIER_SWITCH tiers).setF F.RENDER_STATUS_RUNNING 1
  if clamped = 0 then c else (c.countN R.CALIPER_DOPPLER_COUNT clamped).raise F.CALIPER_INT_STATUS_DOPPLER

/-- The handover of the last snapshot's targets (R198). -/
def targetHandover (c : Core) : Core :=
  match c.cal.pendAt with
  | some h => if h ≤ c.time.n ∧ c.caliperRuns then c.handover h else c
  | none => c

/-- The grid is anchored at a boundary, and a handover of the old grid is dropped (R197). -/
def Core.anchorGrid (c : Core) (n : Nat) : Core := { c with cal := { c.cal with next := n, pend := [], pendAt := none } }

/-! ### Opcodes (R226) -/

def opPaletteStatus : Opc := { code := 0x0400, len := (· = 0) }

/-- PALETTE_STATUS_GET (R226). -/
def paletteStatusBody : Body := fun c _ =>
  okW c ([R.CALIPER_STATUS, R.CALIPER_PAL_STATUS, R.CALIPER_LAST_SWAP_LO, R.CALIPER_LAST_SWAP_HI, R.CALIPER_CTRL].map
    fun x => (c.get x).toNat)

/-- A binaural pair (R261). -/
def Core.pair (c : Core) (p : Nat) : Pair := smGet (fun _ => {}) c.mon.pairs p

def opMaquette : Opc := { code := 0x0410, len := (· = 8) }

/-- MAQUETTE_SET (R224 to R226). -/
def maquetteBody : Body := fun c r =>
  let en := r.n 0
  let p := r.n 1
  if en > 1 then ans c .badParam
  else if p > 7 then ans c .outOfRange
  else if en = 0 then ans (c.maquetteEnd false c.nextB) .ok
  else if !c.flag (stagedReady 0) then ans c .notPermitted
  else if !(c.pair p).set.on then ans c .noResource
  else
    let c := ((c.setF F.CALIPER_MAQUETTE_EN 1).setF F.CALIPER_MAQUETTE_PAIR p).setF F.CALIPER_STATUS_MAQUETTE 1
    ans { c.setF F.RENDER_STATUS_STAGED_SUMS 1 with cal := { c.cal with maqAt := c.nextB } } .ok

def opCaliperConfig : Opc := { code := 0x0420, timeable := true, len := (· = 16) }

/-- CALIPER_CONFIG (R226). -/
def caliperConfigBody : Body := fun c r =>
  let a := r.w 0
  let b := r.w 1
  let k := r.w 2
  let h := r.w 3
  let bad := a &&& 0xFFFE00E0 ≠ 0 ∨ b &&& 0xFFFF00C0 ≠ 0 ∨ k.toNat ≥ 65536 ∨ h.toNat ≥ 8192
  let within := 1 ≤ bitsOf a 4 0 ∧ bitsOf a 4 0 ≤ 16 ∧ 1 ≤ bitsOf a 16 8 ∧ bitsOf a 16 8 ≤ 256 ∧ bitsOf b 5 0 ≤ 50 ∧
    1 ≤ k.toNat ∧ h.toNat ≤ 4096
  if bad then ans c .badParam
  else if !within then ans c .outOfRange
  else ans { c with cal := { c.cal with config := some (a, b, k, h) } } .ok

def opCaliperCounters : Opc := { code := 0x0421, len := (· = 0) }

/-- CALIPER_COUNTERS_GET (R226). -/
def caliperCountersBody : Body := fun c _ =>
  okW c ([R.CALIPER_BOX_CLAMP_COUNT, R.CALIPER_DOPPLER_COUNT, R.CALIPER_STREAM_IGNORED, R.CALIPER_SWAP_DEFERRED,
    R.CALIPER_SUPERSEDED, R.CALIPER_STREAM_ENTRIES, R.CALIPER_TIER_SWITCH].map fun x => (c.get x).toNat)


/-! ### Swap requests (R219) -/

/-- The first check of R219 that a mask and a Glaze length fail; 0 selects the default length. -/
def Core.swapCheck (c : Core) (mask g : Nat) : Option Status :=
  let inMask := (List.range 4).filter fun p => mask / 2 ^ p % 2 = 1
  if mask = 0 ∨ mask ≥ 16 then some .badParam
  else if g % 16 ≠ 0 ∨ g > 4096 then some .outOfRange
  else if inMask.any fun p => !c.flag (stagedReady p) then some .notPermitted
  else if inMask.any c.palBusy then some .busy
  else none

/-- A swap passes the checks and waits for its boundary (R219). -/
def Core.swapRequest (c : Core) (r : Req) (mask g dflt : Nat) : Answer :=
  match c.swapCheck mask g with
  | some st => ans c st
  | none =>
    let b := r.boundary c (c.boundaryAt (c.now + 2 * c.blk))
    let w : Swap := { mask := mask, b := b, g := if g = 0 then dflt else g, tok := some r.tok, timed := pkAtTime r.p }
    ans (c.addSwap w) .accepted

end Sys2Proof.Machine
end

