-- ==== Sys2Proof/Machine/Storage.lean ====
section
/-! DEFINITION. DRAM, flash storage, the library store and the CRC scan engine (R449 to R475), with the Patina ledger's
gathering of records (R528). -/

namespace Sys2Proof.Machine

/-! ### Memory bytes -/

/-- A byte of DRAM by fabric address; memory that nothing has written reads 0. -/
def Mem.dramByte (m : Mem) (a : Nat) : Byte := smGet (fun _ => 0) m.dram a

/-- A byte of studio SRAM by fabric address; memory that nothing has written reads 0. -/
def Mem.sramByte (m : Mem) (a : Nat) : Byte := smGet (fun _ => 0) m.sram a

/-- Bytes written to DRAM from an address on. -/
def Mem.writeDram (m : Mem) : Nat → List Byte → Mem
  | _, [] => m
  | a, b :: t => Mem.writeDram { m with dram := smSet (fun _ => 0) m.dram a b } (a + 1) t

/-- Bytes written to studio SRAM from an address on. -/
def Mem.writeSram (m : Mem) : Nat → List Byte → Mem
  | _, [] => m
  | a, b :: t => Mem.writeSram { m with sram := smSet (fun _ => 0) m.sram a b } (a + 1) t

/-- The end of addressable DRAM, 14 GiB (R449), and the range of studio SRAM (R535). -/
def dramEnd : Nat := 14 * 2 ^ 30
def sramBase : Nat := 0x9000000000
def sramEnd : Nat := sramBase + 8 * 2 ^ 20

/-- A byte of DRAM or of studio SRAM. -/
def Mem.byte (m : Mem) (a : Nat) : Byte := if a < dramEnd then m.dramByte a else m.sramByte a

/-- Bytes written to DRAM or to studio SRAM. -/
def Mem.write (m : Mem) (a : Nat) (bs : List Byte) : Mem := if a < dramEnd then m.writeDram a bs else m.writeSram a bs

/-! ### The DRAM map (R449, R450) -/

/-- Channel, bank, row and byte of the row. -/
structure DramPlace where
  ch : Nat
  bank : Nat
  row : Nat
  byte : Nat
deriving DecidableEq, Repr

/-- The place of a channel address (R450). -/
def chanPlace (c a : Nat) : DramPlace :=
  { ch := c, bank := (a / 2048 % 16) ^^^ (a / 32768 % 16), row := a / 32768, byte := a % 2048 }

/-- The channel and the channel address of a fabric address at a grain (R450). -/
def chanOf (grain a : Nat) : Nat × Nat :=
  let g := 2 ^ grain
  (a / g % 8, a / (8 * g) * g + a % g)

/-- The fabric address of a channel address: the inverse of `chanOf`. -/
def fabricOf (grain c a : Nat) : Nat :=
  let g := 2 ^ grain
  (a / g * 8 + c) * g + a % g

/-- The place of a fabric address (R450). -/
def dramMap (grain a : Nat) : DramPlace := let x := chanOf grain a; chanPlace x.1 x.2

/-- The channel address of the check bytes of the line at a channel address (R454). -/
def checkAddr (a : Nat) : Nat := 57344 * 32768 + 8 * (a / 64)

/-- The running grain (R451). -/
def Core.grain (c : Core) : Nat := c.f F.MEMC_MAP_GRAIN

/-- DRAM can be accessed: trained, its domain ON and out of self-refresh (R452, R459). -/
def Core.memOn (c : Core) : Bool := c.flag F.MEMC_STATUS_TRAINED && c.pdOn 11 && !c.flag F.MEMC_STATUS_SELF_REFRESH

/-- The row that reads of a row go to: the spare of an ACTIVE entry (R456). -/
def Core.rowFor (c : Core) (p : DramPlace) : Nat :=
  match (List.range 32).find? fun e =>
      c.f (F.MEMC_REMAP_STATE p.ch e) = 2 && c.f (F.MEMC_REMAP_BANK p.ch e) = p.bank && c.f (F.MEMC_REMAP_ROW p.ch e) = p.row with
  | some e => 65504 + c.f (F.MEMC_REMAP_SPARE p.ch e)
  | none => p.row

/-- An access to a row: to the open page of its bank, or one that opens it (R458). -/
def Core.rowAccess (c : Core) (p : DramPlace) : Core :=
  let k := 16 * p.ch + p.bank
  let row := c.rowFor p
  if smGet (fun _ => none) c.memc.open_ k = some row then c.countW R.MEMC_ROW_HIT 1
  else
    ({ c with memc := { c.memc with open_ := smSet (fun _ => none) c.memc.open_ k (some row) } }).countW R.MEMC_ROW_MISS 1

/-- The lines that wait in a channel's write queue (R458). -/
def Core.wq (c : Core) (ch : Nat) : List Nat := smGet (fun _ => []) c.memc.wq ch

/-- A channel's write queue changes. -/
def Core.setWq (c : Core) (ch : Nat) (l : List Nat) : Core :=
  { c with memc := { c.memc with wq := smSet (fun _ => []) c.memc.wq ch l } }

/-- Queued writes reach the device, oldest first, until the queue holds `keep` (R458). -/
def Core.drainTo (ch keep : Nat) : Nat → Core → Core
  | 0, c => c
  | n + 1, c =>
    match c.wq ch with
    | [] => c
    | l :: t =>
      if t.length + 1 ≤ keep then c
      else Core.drainTo ch keep n ((c.setWq ch t).rowAccess (dramMap c.grain (64 * l)))

/-- Every write queue drains, as it does whenever no read is waiting (R458). -/
def Core.drainWrites (c : Core) : Core :=
  (List.range 8).foldl (fun c ch => Core.drainTo ch 0 (c.wq ch).length c) c

/-- Writes queued before and up to the last one of a line reach the device (R458: a read waits for them). -/
def Core.drainLine (c : Core) (ch line : Nat) : Core :=
  let q := c.wq ch
  let after := (q.reverse.takeWhile (· ≠ line)).length
  Core.drainTo ch after q.length c

/-! ### Errors (R454, R455) -/

/-- The fault of an 8-byte word: 0 none, 1 a single-bit error, 2 uncorrectable. -/
def Core.eccOf (c : Core) (w : Nat) : Nat := smGet (fun _ => 0) c.memc.ecc w

/-- The fault of a word changes. -/
def Core.setEcc (c : Core) (w k : Nat) : Core := { c with memc := { c.memc with ecc := smSet (fun _ => 0) c.memc.ecc w k } }

/-- An error that a read has seen is noted for Patina by row (R513). -/
def rowKey (p : DramPlace) : Nat := 5 * 2 ^ 32 + (p.ch * 16 + p.bank) * 65536 + p.row

/-- A read of one 8-byte word by master m: counters, record and interrupts (R455). -/
def Core.wordRead (m : Nat) (c : Core) (w : Nat) : Core :=
  match c.eccOf w with
  | 0 => c
  | 1 => ((c.count R.MEMC_CORRECTED).raise F.MEMC_INT_STATUS_CORRECTED).seenAt (rowKey (dramMap c.grain (8 * w)))
  | _ =>
    let c := (c.count R.MEMC_UNCORRECTED).raise F.MEMC_INT_STATUS_UNCORRECTED
    let c := c.seenAt (2 ^ 40 + rowKey (dramMap c.grain (8 * w)))
    if c.flag F.MEMC_FIRST_UNCORR_HI_VALID then c
    else
      (((c.put R.MEMC_FIRST_UNCORR_LO (.ofNat 32 (8 * w))).setF F.MEMC_FIRST_UNCORR_HI_ADDR (8 * w / 2 ^ 32)).setF
        F.MEMC_FIRST_UNCORR_HI_MASTER m).setF F.MEMC_FIRST_UNCORR_HI_VALID 1

/-- The numbers of the units of `s` bytes that a range touches. -/
def unitsOf (s a n : Nat) : List Nat := if n = 0 then [] else (List.range ((a + n - 1) / s - a / s + 1)).map (· + a / s)

/-- A read of a range by a master: hazards, pages and errors, line by line (R455, R458). -/
def Core.memcRead (m a n : Nat) (c : Core) : Core :=
  let c := (unitsOf 64 a n).foldl (fun c l =>
    let p := dramMap c.grain (64 * l)
    let c := if l ∈ c.wq p.ch then (c.countW R.MEMC_HAZARD_WAIT 1).drainLine p.ch l else c
    c.rowAccess p) c
  (unitsOf 8 a n).foldl (Core.wordRead m) c

/-- The byte of a fabric address as DRAM reads it: 0 in an uncorrectable word (R455). -/
def Core.dramRead (c : Core) (mem : Mem) (a : Nat) : Byte := if c.eccOf (a / 8) = 2 then 0 else mem.dramByte a

/-- The 32-bit word that the far delay engine reads, none where it is uncorrectable (R237). -/
def Core.farRead (c : Core) (mem : Mem) (a : Nat) : Option Nat :=
  if c.eccOf (a / 8) = 2 then none else some (leNat ((List.range 4).map fun i => mem.dramByte (a + i)))

/-- The bytes of a range as DRAM or studio SRAM reads them. -/
def Core.readBytes (c : Core) (mem : Mem) (a n : Nat) : List Byte :=
  (List.range n).map fun i => if a + i < dramEnd then c.dramRead mem (a + i) else mem.sramByte (a + i)

/-- CRC channels whose range a write meets are marked (R473). -/
def Core.crcTouch (c : Core) (a n : Nat) : Core :=
  (List.range 4).foldl (fun c k =>
    let s := c.f (F.CRC_CH_ADDR_LO_ADDR k) + 2 ^ 32 * c.f (F.CRC_CH_ADDR_HI_ADDR k)
    let len := if c.f (F.CRC_CH_LEN_COUNT k) = 0 then 2 ^ 32 else c.f (F.CRC_CH_LEN_COUNT k)
    if c.flag (F.CRC_CH_CTRL_BUSY k) ∧ a < s + len ∧ s < a + n then
      { c with crc := { c.crc with dirty := smSet (fun _ => false) c.crc.dirty k true } }
    else c) c

/-- A write to DRAM or studio SRAM by a master: a DRAM word that is not written whole is read, merged and written back, its
lines enter the write queues, which drain from 48 entries to 16, and correct words have no fault (R454, R458). -/
def memWrite (m a : Nat) (bs : List Byte) (mem : Mem) (c : Core) : Core × Mem :=
  let n := bs.length
  let c := c.crcTouch a n
  if a < dramEnd then
    let part := (unitsOf 8 a n).filter fun w => 8 * w < a ∨ a + n < 8 * w + 8
    let bad := part.filter fun w => c.eccOf w = 2
    let c := part.foldl (fun c w => c.memcRead m (8 * w) 8) c
    let mem := bad.foldl (fun mem w => mem.writeDram (8 * w) (List.replicate 8 0)) mem
    let c := (unitsOf 8 a n).foldl (fun c w => c.setEcc w 0) c
    let c := (unitsOf 64 a n).foldl (fun c l =>
      let ch := (dramMap c.grain (64 * l)).ch
      let c := c.setWq ch (c.wq ch ++ [l])
      let c := { c with memc := { c.memc with scrubFix := c.memc.scrubFix.filter (· / 8 ≠ l) } }
      if (c.wq ch).length ≥ 48 then Core.drainTo ch 16 64 c else c) c
    (c, mem.writeDram a bs)
  else (c, mem.writeSram a bs)

/-- The engines finish the block in hand, with the far words that DRAM holds (R237, R249, R455). -/
def renderSumsDone (mem : Mem) (c : Core) : Core × Mem :=
  let rd := c.farRead mem
  let bad := if c.ren.busy then c.farEcc rd else 0
  let c := if bad = 0 then c else
    ((c.memc.ecc.filter (·.2 = 2)).take 1).foldl (fun c x => Core.wordRead 9 c x.1) (c.countN R.MEMC_UNCORRECTED (bad - 1))
  (c.renderSumsComplete rd, mem)

/-! ### Refresh, tracking, scrub and heat -/

/-- A per-bank refresh falls due: it closes the bank's page (R458). -/
def dramRefresh (ch bank : Nat) (c : Core) : Core :=
  if c.memOn then { c with memc := { c.memc with open_ := smSet (fun _ => none) c.memc.open_ (16 * ch + bank) none } } else c

/-- What a device of a channel reports through MR4 (R458). -/
def mr4TemperatureReport (ch : Nat) (warm : Bool) (c : Core) : Core :=
  if !c.memOn ∨ ch ≥ 8 then c
  else
    let was := c.flag F.MEMC_STATUS_HOT
    let c := { c with memc := { c.memc with hot := smSet (fun _ => false) c.memc.hot ch warm } }
    let hot := !c.memc.hot.isEmpty
    (c.setB F.MEMC_STATUS_HOT hot).raiseIf (hot && !was) F.MEMC_INT_STATUS_HOT

/-- The WCK-to-DQ oscillator has run: each lane's write delay moves by at most one step towards the offset from its trained
value that the devices call for, and never beyond ±4 (R453). -/
def dramWckTrack (wanted : List Int) (c : Core) : Core :=
  if !c.memOn then c
  else
    (List.range 16).foldl (fun c i =>
      let want := wanted.getD i 0
      let t : Int := (smGet (fun _ => 0) c.memc.trained i : Nat)
      let off : Int := (c.f (F.MEMC_TRAIN_A_WR_DELAY i) : Int) - t
      let aim := clampInt (-4) 4 want
      let new := if aim > off then off + 1 else if aim < off then off - 1 else off
      let c := c.setF (F.MEMC_TRAIN_A_WR_DELAY i) (t + new).toNat
      if want > 4 ∨ want < -4 then (c.count R.MEMC_TRACK_LIMIT).raise F.MEMC_INT_STATUS_TRACK_LIMIT else c) c

/-- A word of a line shows a fault that is worse than the one it had. -/
def Core.hurtWord (c : Core) (base : Nat) (e : Nat × Nat) : Core :=
  if 8 ≤ e.1 then c
  else
    let was := c.eccOf (base + e.1)
    if was < e.2 then c.setEcc (base + e.1) (min e.2 2) else c

/-- The lines of a channel's data and check rows, and of all eight channels (R457). -/
def chanLines : Nat := 64512 * 512
def allLines : Nat := 8 * chanLines

/-- The patrol scrub writes back what it corrected of the last line, unless a write to that line has been queued since, and
reads the next line, whose faults `errs` are (word of the line, 1 or 2) (R457). A check line stands for the eight lines it
guards. -/
def dramScrubRead (errs : List (Nat × Nat)) (c : Core) : Core :=
  if !c.memOn then c
  else
    let c := c.memc.scrubFix.foldl (fun c w => c.setEcc w 0) c
    let at_ := c.memc.scrubAt
    let ch := at_ / chanLines % 8
    let a := at_ % chanLines * 64
    let c := { c with memc := { c.memc with scrubAt := (at_ + 1) % allLines, scrubFix := [] } }
    let c := c.setF F.MEMC_SCRUB_PROGRESS (at_ * 1000 / allLines)
    let c := c.rowAccess (chanPlace ch a)
    if a / 32768 < 57344 then
      let base := fabricOf c.grain ch a / 8
      let c := errs.foldl (fun c e => c.hurtWord base e) c
      let ws := (List.range 8).map (· + base)
      let fix := ws.filter fun w => c.eccOf w = 1
      let c := ws.foldl (Core.wordRead 0) c
      { c with memc := { c.memc with scrubFix := fix } }
    else c

/-! ### Row replacement (R456) -/

/-- Firmware writes a remap entry: the row is in SHADOW. -/
def dramRemapStart (ch e row bank spare : Nat) (c : Core) : Core :=
  if ch ≥ 8 ∨ e ≥ 32 ∨ spare ≥ 32 ∨ bank ≥ 16 ∨ row ≥ 64512 ∨ c.f (F.MEMC_REMAP_STATE ch e) ≠ 0 then c
  else
    (((c.setF (F.MEMC_REMAP_ROW ch e) row).setF (F.MEMC_REMAP_BANK ch e) bank).setF (F.MEMC_REMAP_SPARE ch e) spare).setF
      (F.MEMC_REMAP_STATE ch e) 1

/-- The words of a data row (R450). -/
def Core.rowWords (c : Core) (ch bank row : Nat) : List Nat :=
  let a := row * 32768 + (bank ^^^ (row % 16)) * 2048
  (List.range 256).map fun i => fabricOf c.grain ch (a + 8 * i) / 8

/-- The row has been copied into its spare: reads may move three blocks after the next block boundary. -/
def dramRemapCopyDone (ch e : Nat) (c : Core) : Core :=
  if ch ≥ 8 ∨ e ≥ 32 ∨ c.f (F.MEMC_REMAP_STATE ch e) ≠ 1 then c
  else
    { c with memc := { c.memc with
      remapAt := smSet (fun _ => none) c.memc.remapAt (32 * ch + e) (some (c.boundaryAt c.now + 3 * c.blk)) } }

/-- Three blocks after the boundary, STATE becomes ACTIVE and reads move to the spare; corrected words stand there without
an error, uncorrectable ones stay uncorrectable. -/
def dramRemapActivate (ch e : Nat) (c : Core) : Core :=
  match smGet (fun _ => none) c.memc.remapAt (32 * ch + e) with
  | none => c
  | some b =>
    if b > c.now then c
    else
      let c := { c with memc := { c.memc with remapAt := smSet (fun _ => none) c.memc.remapAt (32 * ch + e) none } }
      let bank := c.f (F.MEMC_REMAP_BANK ch e)
      let row := c.f (F.MEMC_REMAP_ROW ch e)
      let c := if row < 57344 then
          (c.rowWords ch bank row).foldl (fun c w => if c.eccOf w = 1 then c.setEcc w 0 else c) c
        else c
      (c.setF (F.MEMC_REMAP_STATE ch e) 2).raise F.MEMC_INT_STATUS_REMAP_DONE

/-- MEMC_FIRST_UNCORR_HI.CLEAR clears the record (R455). -/
def Core.memcClear (c : Core) (v : Word) : Core :=
  if bitOf v 30 then (c.put R.MEMC_FIRST_UNCORR_LO 0).put R.MEMC_FIRST_UNCORR_HI 0 else c

/-- A write of MEMC_FIRST_UNCORR_HI. -/
def memcUncorrClear (m : Nat) (v : Word) (c : Core) : Core :=
  c.busWrite ⟨m, R.MEMC_FIRST_UNCORR_HI, v⟩ 0 fun c => c.memcClear v

/-! ### The ledger's gathering of records (R528) -/

/-- A ledger record is gathered; under VIN_WARN 1,024 records are held and the rest dropped. -/
def Core.ledger (c : Core) (kind res unit detail : Nat) (value : Int) (smudge : Bool) : Core :=
  if c.flag F.SYS_STATUS_VIN_WARN ∧ c.health.held.length ≥ 1024 then c.count R.HEALTH_LEDGER_DROP
  else
    let rec1 : LedgerRec :=
      { count := c.now / c.blk * c.blk, kind := kind, res := res, unit := unit, detail := detail, value := value,
        smudge := smudge }
    ({ c with health := { c.health with held := c.health.held ++ [rec1] } }).setB F.HEALTH_STATUS_LEDGER_HELD
      (c.flag F.SYS_STATUS_VIN_WARN)

/-! ### Flash (R460 to R466) -/

/-- The dies, erase units and pages of the array. -/
def dieOf (n : Nat) : Nat := n / 1366
def flashUnits : Nat := 5464

/-- Whether an area is TLC (R461). -/
def tlcArea (area : Nat) : Bool := area = 4 || area = 5

/-- Writes to flash may start (R466). -/
def Core.flashWrites (c : Core) : Bool := c.flag F.FLASH_STATUS_WRITES_ALLOWED

/-- FLASH_STATUS.BUSY follows the operations under way. -/
def Core.setFlashOps (c : Core) (l : List FlashOp) : Core :=
  ({ c with flash := { c.flash with ops := l } }).setB F.FLASH_STATUS_BUSY (!l.isEmpty)

/-- A command refused under VIN_WARN (R466). -/
def Core.flashRefused (c : Core) : Core := (c.count R.FLASH_REFUSED).raise F.FLASH_INT_STATUS_REFUSED

/-- The units of a state and a test on their area. -/
def Core.unitsIn (c : Core) (st : Nat) (q : Nat → Bool) : List Nat :=
  (List.range flashUnits).filter fun n => c.f (F.FLASH_EU_B_STATE n) = st && q (c.f (F.FLASH_EU_B_AREA n))

/-- The unit with the lowest program/erase count, the lower number where two are equal (R462). -/
def Core.leastWorn (c : Core) : List Nat → Option Nat
  | [] => none
  | n :: t =>
    match c.leastWorn t with
    | none => some n
    | some k => if c.f (F.FLASH_EU_A_PE k) < c.f (F.FLASH_EU_A_PE n) then some k else some n

/-- The unit with the highest program/erase count, the lower number where two are equal. -/
def Core.mostWorn (c : Core) : List Nat → Option Nat
  | [] => none
  | n :: t =>
    match c.mostWorn t with
    | none => some n
    | some k => if c.f (F.FLASH_EU_A_PE k) > c.f (F.FLASH_EU_A_PE n) then some k else some n

/-- A unit's state and area. -/
def Core.setUnit (c : Core) (n st area : Nat) : Core :=
  (c.setF (F.FLASH_EU_B_STATE n) st).setF (F.FLASH_EU_B_AREA n) area

/-- A unit is retired and replaced from the spare pool, if it holds one (R465). -/
def Core.retireUnit (c : Core) (n : Nat) : Core :=
  let area := c.f (F.FLASH_EU_B_AREA n)
  let spare := c.leastWorn (c.unitsIn 2 fun _ => true)
  let c := ((c.setUnit n 3 6).count R.FLASH_RETIRED).raise F.FLASH_INT_STATUS_RETIRED
  let c := { c with flash := { c.flash with
    reloc := c.flash.reloc.filter (·.1 ≠ n), erased := c.flash.erased.erase n } }
  let c := c.ledger 6 6 n (spare.getD 0) (c.f (F.FLASH_EU_A_PE n)) false
  match spare with
  | none => if tlcArea area then { c with flash := { c.flash with lost := c.flash.lost + 1 } } else c
  | some s =>
    let left := c.f F.FLASH_STATUS_SPARES - 1
    ((c.setUnit s 0 area).setF F.FLASH_STATUS_SPARES left).raiseIf (decide (left = 38)) F.FLASH_INT_STATUS_SPARE_LOW

/-- A unit is to be relocated, and retired after it or not (R463, R465). -/
def Core.needReloc (c : Core) (n : Nat) (retire : Bool) : Core :=
  if c.f (F.FLASH_EU_B_STATE n) ≠ 1 then (if retire then c.retireUnit n else c)
  else
    match c.flash.reloc.find? (·.1 = n) with
    | some x =>
      if retire && !x.2 then
        { c with flash := { c.flash with reloc := c.flash.reloc.map fun y => if y.1 = n then (n, true) else y } }
      else c
    | none => { c with flash := { c.flash with reloc := c.flash.reloc ++ [(n, retire)] } }

/-- Corrected bits and uncorrectable codewords of pages that have been read are counted; a page of a library item that cannot
be corrected marks the item DAMAGED (R460, R465, R470). -/
def Core.pagesRead (c : Core) (pages bits bad : Nat) (owner : List (Nat × Nat)) : Core :=
  let c := (c.countW R.FLASH_PAGES_READ pages).countW R.FLASH_CORRECTED_BITS bits
  if bad = 0 then c
  else
    let c := (c.countN R.FLASH_UNCORRECTABLE bad).raise F.FLASH_INT_STATUS_UNCORRECTABLE
    { c with flash := { c.flash with lib := c.flash.lib.map fun it =>
        { it with damaged := it.damaged ++ ((owner.filter fun x => x.1 = it.num && !it.damaged.contains x.2).map (·.2)) } } }

/-- A page of a unit is read; each codeword has shown some corrected bits, or more than 72, which cannot be corrected. The
page may belong to a page of library items. -/
def flashPageRead (unit : Nat) (bits : List Nat) (owner : List (Nat × Nat)) (c : Core) : Core :=
  if unit ≥ flashUnits then c
  else
    let bad := (bits.filter (· > 72)).length
    let c := c.pagesRead 1 ((bits.filter (· ≤ 72)).foldl (· + ·) 0) bad owner
    if bad = 0 then c else c.needReloc unit true

/-- Whether a die is free, and whether a unit may be written: it is no retired or factory-bad one (R465). -/
def Core.dieFree (c : Core) (n : Nat) : Bool := n < flashUnits && !c.flash.ops.any (·.die = dieOf n)
def Core.unitGood (c : Core) (n : Nat) : Bool := c.f (F.FLASH_EU_B_STATE n) < 3

/-- A program of a unit starts, or is refused. -/
def flashProgram (unit : Nat) (c : Core) : Core :=
  if !(c.dieFree unit) ∨ !(c.unitGood unit) then c
  else if !c.flashWrites then c.flashRefused
  else c.setFlashOps (c.flash.ops ++ [{ die := dieOf unit, unit := unit, erase := false }])

/-- An erase of a unit starts, or is refused. -/
def flashErase (unit : Nat) (c : Core) : Core :=
  if !(c.dieFree unit) ∨ !(c.unitGood unit) then c
  else if !c.flashWrites then c.flashRefused
  else c.setFlashOps (c.flash.ops ++ [{ die := dieOf unit, unit := unit, erase := true }])

/-- A class S count or age of a unit goes on by one (R462). -/
def Core.unitCount (c : Core) (x : Field) (n : Nat) : Core :=
  let top := 2 ^ (x.hi - x.lo + 1) - 1
  let v := min (c.f x + 1) top
  let c := c.setF x v
  if v = top then c.setF (F.FLASH_EU_A_SAT n) 1 else c

/-- The program or erase of a die ends, with a pass or a failure (R460, R462, R465). -/
def flashOpComplete (die : Nat) (ok : Bool) (c : Core) : Core :=
  match c.flash.ops.find? (·.die = die) with
  | none => c
  | some op =>
    let n := op.unit
    let c := c.setFlashOps (c.flash.ops.filter (·.die ≠ die))
    let area := c.f (F.FLASH_EU_B_AREA n)
    let z := if ok then c.flashSmudge area op.erase else (false, c)
    let c := z.2
    if z.1 then
      -- a failure that Smudge causes: the unit returns to the free pool and R465 does not apply (R532)
      let c := if op.erase then (c.unitCount (F.FLASH_EU_A_PE n) n).count R.FLASH_ERASE_FAIL |>.raise F.FLASH_INT_STATUS_ERASE_FAIL
        else (c.count R.FLASH_PROG_FAIL).raise F.FLASH_INT_STATUS_PROG_FAIL
      c.setUnit n 0 area
    else if op.erase then
      let c := c.unitCount (F.FLASH_EU_A_PE n) n
      if ok then
        let c := c.setUnit n (if c.f (F.FLASH_EU_B_STATE n) = 2 then 2 else 0) area
        { c with flash := { c.flash with erased := if n ∈ c.flash.erased then c.flash.erased else c.flash.erased ++ [n] } }
      else ((c.count R.FLASH_ERASE_FAIL).raise F.FLASH_INT_STATUS_ERASE_FAIL).retireUnit n
    else
      let c := (c.setUnit n 1 area).setF (F.FLASH_EU_A_AGE n) 0
      let c := c.countW R.FLASH_PAGES_PROGRAMMED (if tlcArea area then 3 else 1)
      if ok then c else ((c.count R.FLASH_PROG_FAIL).raise F.FLASH_INT_STATUS_PROG_FAIL).needReloc n true

/-- The retention limit of a unit's mode, in hours (R463). -/
def Core.ageLimit (c : Core) (n : Nat) : Nat :=
  if tlcArea (c.f (F.FLASH_EU_B_AREA n)) then c.f F.FLASH_AGE_LIMIT_TLC else c.f F.FLASH_AGE_LIMIT_PSLC

/-- Scrub has read the programmed pages of a unit: how many, the bits corrected in all, the most in one codeword, and the
codewords that could not be corrected (R463, R465). -/
def flashScrubPass (unit pages bits most bad : Nat) (owner : List (Nat × Nat)) (c : Core) : Core :=
  if unit ≥ flashUnits ∨ c.f (F.FLASH_EU_B_STATE unit) ≠ 1 then c
  else
    let c := (c.pagesRead pages bits bad owner).setF (F.FLASH_EU_B_MAXBITS unit) most
    let first := unit ∈ c.flash.erased
    let c := { c with flash := { c.flash with erased := c.flash.erased.erase unit } }
    if bad > 0 ∨ (first ∧ most > 60) then c.needReloc unit true
    else if most > c.f F.FLASH_SCRUB_THRESH ∨ c.f (F.FLASH_EU_A_AGE unit) > c.ageLimit unit then c.needReloc unit false
    else c

/-- Wear levelling within a mode: the contents of the least-worn unit in use move into the most-worn free unit when the counts
of units in use differ by more than the limit; never the Gesso or active firmware areas (R462). -/
def flashWearLevel (tlc : Bool) (c : Core) : Core :=
  let inMode := fun a => if tlc then tlcArea a else a ≤ 3
  let used := c.unitsIn 1 inMode
  match c.leastWorn used, c.mostWorn used, c.leastWorn (c.unitsIn 1 fun a => inMode a && 2 ≤ a),
      c.mostWorn (c.unitsIn 0 inMode) with
  | some lo, some hi, some from_, some dst =>
    if c.flashWrites ∧ c.f (F.FLASH_EU_A_PE hi) - c.f (F.FLASH_EU_A_PE lo) > (if tlc then 500 else 2000) ∧ from_ = lo then
      let area := c.f (F.FLASH_EU_B_AREA from_)
      let toArea := c.f (F.FLASH_EU_B_AREA dst)
      ((c.setUnit dst 1 area).setF (F.FLASH_EU_A_AGE dst) 0).setUnit from_ 0 toArea
    else c
  | _, _, _, _ => c

/-- The relocation of a unit runs: its valid pages are copied into an erased unit and read back; only when all have verified is
the mapping switched, and the old unit freed or retired (R464). -/
def flashRelocate (unit : Nat) (verified : Bool) (c : Core) : Core :=
  match c.flash.reloc.find? (·.1 = unit) with
  | none => c
  | some x =>
    if !c.flashWrites ∨ !verified then c
    else
      let area := c.f (F.FLASH_EU_B_AREA unit)
      let tlc := tlcArea area
      match c.leastWorn (c.unitsIn 0 fun a => decide (tlcArea a = tlc) && decide (a < 6)) with
      | none => c
      | some dst =>
        let toArea := c.f (F.FLASH_EU_B_AREA dst)
        let c := (c.setUnit dst 1 area).setF (F.FLASH_EU_A_AGE dst) 0
        let c := { c with flash := { c.flash with reloc := c.flash.reloc.filter (·.1 ≠ unit) } }
        let c := (c.count R.FLASH_RELOCATED).raise F.FLASH_INT_STATUS_RELOCATED
        if x.2 then (c.setUnit unit 1 toArea).retireUnit unit else c.setUnit unit 0 toArea

/-- An hour has passed: the age of every programmed unit goes on, and one past its limit is to be relocated (R462, R463). -/
def flashRetentionAgeTick (c : Core) : Core :=
  (c.unitsIn 1 fun _ => true).foldl (fun c n =>
    let c := c.unitCount (F.FLASH_EU_A_AGE n) n
    if c.f (F.FLASH_EU_A_AGE n) > c.ageLimit n then c.needReloc n false else c) c

/-! ### Check values (R472) -/

/-- Width, polynomial, init value, reflected, final XOR. -/
def crcParams (poly : Nat) : Nat × Nat × Nat × Bool × Nat :=
  match poly with
  | 0 => (32, 0x04C11DB7, 0xFFFFFFFF, true, 0xFFFFFFFF)
  | 1 => (32, 0x1EDC6F41, 0xFFFFFFFF, true, 0xFFFFFFFF)
  | 2 => (16, 0x1021, 0xFFFF, false, 0)
  | _ => (64, 0x42F0E1EBA9EA3693, 0, false, 0)

/-- The low n bits of a number in reverse order. -/
def bitRev : Nat → Nat → Nat
  | 0, _ => 0
  | n + 1, v => v % 2 * 2 ^ n + bitRev n (v / 2)

/-- k shifts of a register that shifts towards its top bit. -/
def crcShift (w poly : Nat) : Nat → Nat → Nat
  | 0, r => r
  | k + 1, r => crcShift w poly k (if r / 2 ^ (w - 1) % 2 = 1 then (r * 2 % 2 ^ w) ^^^ poly else r * 2 % 2 ^ w)

/-- One byte enters the register, which always shifts towards its top bit here. -/
def crcByte (w poly : Nat) (refl : Bool) (r : Nat) (b : Byte) : Nat :=
  let x := if refl then bitRev 8 b.toNat else b.toNat
  crcShift w poly 8 (r ^^^ (x * 2 ^ (w - 8)))

/-- The register before a scan: the init value, or the seed without its final XOR (R472). -/
def crcStart (poly : Nat) (seed : Option Nat) : Nat :=
  let p := crcParams poly
  match seed with
  | none => p.2.2.1
  | some s => let x := (s % 2 ^ p.1) ^^^ p.2.2.2.2; if p.2.2.2.1 then bitRev p.1 x else x

/-- The check value of a register after a scan. -/
def crcEnd (poly r : Nat) : Nat :=
  let p := crcParams poly
  (if p.2.2.2.1 then bitRev p.1 r else r) ^^^ p.2.2.2.2

/-- The check value of a byte string. -/
def crcOf (poly : Nat) (seed : Option Nat) (bs : List Byte) : Nat :=
  let p := crcParams poly
  crcEnd poly (bs.foldl (crcByte p.1 p.2.1 p.2.2.2.1) (crcStart poly seed))

/-- The check register after `n` bytes from an address on. -/
def crcRun (w poly : Nat) (refl : Bool) (rd : Nat → Byte) : Nat → Nat → Nat → Nat
  | 0, _, r => r
  | n + 1, a, r => crcRun w poly refl rd n (a + 1) (crcByte w poly refl r (rd a))

/-- CRC-32C of a byte string. -/
def crc32c (bs : List Byte) : Nat := crcOf 1 none bs

/-! ### Library items (R468 to R470) -/

/-- The number of the ledger's item (R528). -/
def ledgerItem : Nat := 0xFFFFFF00

/-- A ledger record as 32 bytes (R528). -/
def ledgerBytes (i : Nat) (r : LedgerRec) : List Byte :=
  leBytes 8 r.count ++ leBytes 1 r.kind ++ leBytes 1 r.res ++ leBytes 2 r.unit ++ leBytes 4 r.detail ++
    leBytes 4 (unsigned 32 r.value) ++ leBytes 1 (b2n r.smudge + 2 * b2n r.nondet) ++ leBytes 3 0 ++ leBytes 8 i

/-- The index of the next ledger record (R528). -/
def Core.ledgerNext (c : Core) : Nat := c.get64 R.HEALTH_LEDGER_NEXT_LO R.HEALTH_LEDGER_NEXT_HI

/-- The latest record that stands in a place of the ring, with its index. -/
def Core.ledgerAt (c : Core) (slot : Nat) : Option (Nat × LedgerRec) :=
  let next := c.ledgerNext
  let i := (next + 65535 - slot) / 65536 * 65536 + slot
  if i < 65536 ∧ next ≤ slot then none
  else
    let i := i - 65536
    (smGet (fun _ => none) c.health.ledger i).map fun r => (i, r)

/-- A byte of the ledger's item. -/
def Core.ledgerByte (c : Core) (k : Nat) : Byte :=
  match c.ledgerAt (k / 32) with
  | some x => (ledgerBytes x.1 x.2).getD (k % 32) 0
  | none => 0

/-- The library item with a number. -/
def Core.item? (c : Core) (n : Nat) : Option LibItem :=
  if n = ledgerItem then some { num := n, kind := 7, data := [], crc := 0 } else c.flash.lib.find? (·.num = n)

/-- The bytes of an item. -/
def Core.itemSize (it : LibItem) : Nat := if it.num = ledgerItem then 65536 * 32 else it.data.length

/-- The contents of an item. -/
def Core.itemData (c : Core) (it : LibItem) : List Byte :=
  if it.num = ledgerItem then (List.range (65536 * 32)).map c.ledgerByte else it.data

/-- Whether something names an item that a session wants to write or delete (R470). -/
def Core.itemLocked (c : Core) (num session : Nat) : Bool :=
  (c.out.live.any fun x => x.2.firItem = num) || (c.out.staged.any fun x => x.2.firItem = num) ||
    (c.mon.pairs.any fun x => (x.2.set.on && x.2.set.item = num) ||
      (match x.2.next with
       | some y => y.1.on && y.1.item = num
       | none => false)) ||
    (c.flash.writes.any fun w => w.num = num && w.session ≠ session)

/-- Capacity and free bytes of the library (R461, R465); the ledger and the Survey log take their share (R318, R528). -/
def Core.libCapacity (c : Core) : Nat := (53244 - 12 * c.flash.lost) * 2 ^ 20
def Core.libFree (c : Core) : Nat :=
  c.libCapacity - (c.flash.lib.foldl (fun a it => a + it.data.length) 0 + c.flash.writes.foldl (fun a w => a + w.size) 0 +
    18 * 2 ^ 20)

/-- Little-endian numbers of an item's bytes. -/
def itemNat (d : List Byte) (at_ n : Nat) : Nat := leNat ((d.drop at_).take n)

/-- Whether the 32-bit words of a byte string are sign-extended 24-bit values. -/
def sext24s : List Byte → Bool
  | _ :: _ :: c :: d :: t => (d = if c.msb then 0xFF else 0) && sext24s t
  | [] => true
  | _ => false

/-- CHECK: the last four bytes hold the CRC-32C of every earlier byte. -/
def checkOk (d : List Byte) : Bool := itemNat d (d.length - 4) 4 = crc32c (d.take (d.length - 4))

/-- The rates an item may name. -/
def itemRate (r : Nat) : Bool := r = 44100 || r = 48000 || r = 96000

/-- The format of a FIR item (R280). -/
def firFormat (d : List Byte) : Bool :=
  let taps := itemNat d 6 2
  itemNat d 0 4 = 0x46524943 && itemNat d 4 2 = 1 && 1 ≤ taps && taps ≤ 8192 && itemRate (itemNat d 8 4) &&
    itemNat d 12 4 = 0 && d.length = 16 + 4 * taps + 4 && sext24s ((d.drop 16).take (4 * taps)) && checkOk d

/-- The format of an HRTF item (R260). -/
def hrtfFormat (d : List Byte) : Bool :=
  let n := itemNat d 6 2
  itemNat d 0 4 = 0x53485246 && itemNat d 4 2 = 1 && 1 ≤ n && n ≤ 2048 && itemRate (itemNat d 8 4) &&
    itemNat d 12 2 = 192 && itemNat d 14 2 = 0 && d.length = 16 + 1544 * n + 4 &&
    ((List.range n).all fun i => itemNat d (16 + 8 * i + 4) 4 = 0) && sext24s ((d.drop (16 + 8 * n)).take (1536 * n)) &&
    checkOk d

/-- The format of a MEASUREMENT item (R304). -/
def measurementFormat (d : List Byte) : Bool :=
  itemNat d 0 4 = 0x4D524943 && itemNat d 4 2 = 1 && itemNat d 6 2 = 16384 && itemRate (itemNat d 8 4) &&
    itemNat d 12 4 = 0 && d.length = 16 + 65536 + 8 + 480 + 4 && sext24s ((d.drop 16).take 65536) && checkOk d

/-- The check of an item's format at commit (R468). -/
def formatOk (kind : Nat) (d : List Byte) : Bool :=
  match kind with
  | 1 => firFormat d
  | 2 => hrtfFormat d
  | 3 => measurementFormat d
  | _ => true

/-- An item becomes visible (R469). -/
def Core.storeItem (c : Core) (num kind : Nat) (d : List Byte) : Core :=
  { c with flash := { c.flash with
    lib := (c.flash.lib.filter (·.num < num)) ++ [{ num := num, kind := kind, data := d, crc := crc32c d }] ++
      (c.flash.lib.filter fun it => num < it.num) } }

/-- Firmware writes an item, which a playing twin module tells its partner (R481). -/
def Core.fwStore (c : Core) (num kind : Nat) (d : List Byte) : Core :=
  let c := c.storeItem num kind d
  if c.twinPlays then { c with twin := { c.twin with libs := c.twin.libs ++ [{ num := num, kind := kind, data := d }] } } else c

/-! ### Opcodes (R475) -/

/-- A field out of range. -/
def inRange (lo hi v : Nat) : Bool := lo ≤ v && v ≤ hi

def opStorageStatus : Opc := { code := 0x0B00, len := (· = 0) }

/-- STORAGE_STATUS_GET (R475). -/
def storageStatusBody : Body := fun c _ =>
  let most := fun tlc => (List.range flashUnits).foldl (fun a n =>
    if tlcArea (c.f (F.FLASH_EU_B_AREA n)) = tlc ∧ c.f (F.FLASH_EU_B_AREA n) ≤ 5 then max a (c.f (F.FLASH_EU_A_PE n)) else a) 0
  okW c [(c.get R.FLASH_STATUS).toNat, (c.get R.MEMC_STATUS).toNat, c.libCapacity % 2 ^ 32, c.libCapacity / 2 ^ 32,
    c.libFree % 2 ^ 32, c.libFree / 2 ^ 32, c.flash.lib.length + 1, most true, most false]

def opLibList : Opc := { code := 0x0B01, len := (· = 8) }

/-- The four words of an item in LIB_LIST (R475). -/
def Core.itemWords (c : Core) (session : Nat) (it : LibItem) : List Nat :=
  [it.num, it.kind + 2 ^ 30 * b2n (!it.damaged.isEmpty) + 2 ^ 31 * b2n (c.itemLocked it.num session), Core.itemSize it,
    if it.num = ledgerItem then crc32c (c.itemData it) else it.crc]

/-- LIB_LIST (R475): up to `count` items from the first number on. -/
def libListBody : Body := fun c r =>
  if !inRange 1 256 (r.n 1) then ans c .outOfRange
  else
    let all := (c.flash.lib.filter (·.num < ledgerItem)) ++ (c.item? ledgerItem).toList ++
      (c.flash.lib.filter fun it => ledgerItem < it.num)
    okW c (((all.filter fun it => r.n 0 ≤ it.num).take (r.n 1)).flatMap (c.itemWords r.p.session.toNat))

def opLibWriteBegin : Opc := { code := 0x0B02, len := (· = 12) }

/-- The check of LIB_WRITE_BEGIN, in the order of R475. -/
def libBeginCheck (c : Core) (session num kind size : Nat) : Status :=
  if c.flash.writes.length ≥ 4 ∨ (c.flash.writes.any (·.session = session)) then .noResource
  else if num = 0xFFFFFFFF ∨ size = 0 ∨ size > 2 ^ 29 then .outOfRange
  else if kind = 0 ∨ kind ≥ 8 then .badParam
  else if kind = 6 ∨ kind = 7 ∨ num = ledgerItem then .notPermitted
  else if c.itemLocked num session then .locked
  else if c.flag F.SYS_STATUS_VIN_WARN then .busy
  else if size > c.libFree ∨ ((c.item? num).isNone ∧ c.flash.lib.length + 1 ≥ 65536) then .noSpace
  else .ok

/-- LIB_WRITE_BEGIN (R469, R475). -/
def libWriteBeginBody : Body := fun c r =>
  match libBeginCheck c r.tok.session (r.n 0) (r.n 1) (r.n 2) with
  | .ok =>
    ans { c with flash := { c.flash with writes :=
      c.flash.writes ++ [{ session := r.tok.session, num := r.n 0, kind := r.n 1, size := r.n 2 }] } } .ok
  | st => ans c st

/-- The open write of a session for an item, whose commit has not been accepted. -/
def Core.openWrite? (c : Core) (session num : Nat) : Option LibWrite :=
  c.flash.writes.find? fun w => w.session = session && w.num = num && w.commit.isNone

/-- An open write of a session changes or goes. -/
def Core.setWrite (c : Core) (session : Nat) (w : Option LibWrite) : Core :=
  { c with flash := { c.flash with writes := c.flash.writes.flatMap fun x =>
      if x.session = session then w.toList else [x] } }

def opLibWriteData : Opc := { code := 0x0B03, len := (8 ≤ ·) }

/-- LIB_WRITE_DATA (R469, R475). -/
def libWriteDataBody : Body := fun c r =>
  let d := r.bytes.drop 8
  match c.openWrite? r.tok.session (r.n 0) with
  | none => ans c .notPermitted
  | some w =>
    if r.n 1 ≠ w.data.length ∨ w.data.length + d.length > w.size then ans c .outOfRange
    else if c.flag F.SYS_STATUS_VIN_WARN then ans c .busy
    else ans (c.setWrite r.tok.session (some { w with data := w.data ++ d })) .ok

def opLibWriteCommit : Opc := { code := 0x0B04, len := (· = 8) }

/-- LIB_WRITE_COMMIT (R469, R470, R475). -/
def libWriteCommitBody : Body := fun c r =>
  match c.openWrite? r.tok.session (r.n 0) with
  | none => ans c .notPermitted
  | some w =>
    if w.data.length ≠ w.size then ans c .badLength
    else if crc32c w.data ≠ r.n 1 ∨ !formatOk w.kind w.data then ans c .verifyFailed
    else if c.itemLocked w.num r.tok.session then ans c .locked
    else if c.flag F.SYS_STATUS_VIN_WARN then ans c .busy
    else ans (c.setWrite r.tok.session (some { w with commit := some (r.tok, r.n 1) })) .accepted

/-- The mapping record of a session's committed write has been written: the item becomes visible and the notice of OK goes out.
Under VIN_WARN the record stays pending (R469, R471). -/
def libCommitDone (session : Nat) (c : Core) : Core :=
  match c.flash.writes.find? fun w => w.session = session && w.commit.isSome with
  | none => c
  | some w =>
    if c.flag F.SYS_STATUS_VIN_WARN then c
    else
      let c := (c.storeItem w.num w.kind w.data).setWrite session none
      c.notice? (w.commit.map (·.1)) .ok []

/-- 60 s have passed without data: the open write is discarded (R469). -/
def libWriteTimeout (session : Nat) (c : Core) : Core :=
  { c with flash := { c.flash with writes := c.flash.writes.filter fun w => w.session ≠ session || w.commit.isSome } }

def opLibRead : Opc := { code := 0x0B05, len := (· = 12) }

/-- LIB_READ (R470, R475). -/
def libReadBody : Body := fun c r =>
  match c.item? (r.n 0) with
  | none => ans c .outOfRange
  | some it =>
    let off := r.n 1
    let n := r.n 2
    if n = 0 ∨ n + 4 > maxParams r.p.transport ∨ off + n > Core.itemSize it then ans c .outOfRange
    else if it.damaged.any fun p => decide (p * 16384 < off + n ∧ off < p * 16384 + 16384) then ans c .faulted
    else if it.num = ledgerItem then (c, .ok, (List.range n).map fun i => c.ledgerByte (off + i))
    else (c, .ok, (it.data.drop off).take n)

def opLibDelete : Opc := { code := 0x0B06, len := (· = 4) }

/-- LIB_DELETE (R470, R475). -/
def libDeleteBody : Body := fun c r =>
  if c.itemLocked (r.n 0) r.tok.session then ans c .locked
  else if (match c.item? (r.n 0) with
      | some it => it.kind = 6 || it.kind = 7
      | none => false) then ans c .notPermitted
  else if c.flag F.SYS_STATUS_VIN_WARN then ans c .busy
  else ans { c with flash := { c.flash with lib := c.flash.lib.filter (·.num ≠ r.n 0) } } .ok

def opLibWriteAbort : Opc := { code := 0x0B07, len := (· = 4) }

/-- LIB_WRITE_ABORT (R469, R475). -/
def libWriteAbortBody : Body := fun c r =>
  match c.openWrite? r.tok.session (r.n 0) with
  | none => ans c .ok
  | some _ => ans (c.setWrite r.tok.session none) .ok

/-! ### The CRC scan engine (R472, R473) -/

/-- The range of a CRC channel. -/
def Core.crcAddr (c : Core) (k : Nat) : Nat := c.f (F.CRC_CH_ADDR_LO_ADDR k) + 2 ^ 32 * c.f (F.CRC_CH_ADDR_HI_ADDR k)
def Core.crcLen (c : Core) (k : Nat) : Nat := if c.f (F.CRC_CH_LEN_COUNT k) = 0 then 2 ^ 32 else c.f (F.CRC_CH_LEN_COUNT k)

/-- A channel stops with ERR and a CAUSE. -/
def Core.crcErr (c : Core) (k cause : Nat) : Core :=
  let c := ((c.setF (F.CRC_CH_CTRL_BUSY k) 0).setF (F.CRC_CH_CTRL_GO k) 0).setF ⟨R.CRC_STATUS, k, k⟩ 0
  ((c.setF (F.CRC_CH_CTRL_ERR k) 1).setF (F.CRC_CH_CTRL_CAUSE k) cause).raise ⟨R.CRC_INT_STATUS, 4 + k, 4 + k⟩

/-- GO of a channel that is not BUSY: the scan starts, or stops at once on a bad range (R473). -/
def Core.crcGo (c : Core) (k : Nat) : Core :=
  let a := c.crcAddr k
  let e := a + c.crcLen k
  if !(decide (e ≤ dramEnd) || (decide (sramBase ≤ a) && decide (e ≤ sramEnd))) then c.crcErr k 1
  else
    let c := { c with crc := { c.crc with dirty := smSet (fun _ => false) c.crc.dirty k false } }
    (((c.setF (F.CRC_CH_CTRL_BUSY k) 1).setF (F.CRC_CH_CTRL_GO k) 1).setF (F.CRC_CH_CTRL_CAUSE k) 0).setF
      ⟨R.CRC_STATUS, k, k⟩ 1

/-- A write of CRC_CHn_CTRL: ignored while the channel is BUSY, when a GO is counted; channels 2 and 3 are not for host
software. -/
def crcScanGo (m k : Nat) (v : Word) (c : Core) : Core :=
  if k ≥ 4 then c
  else if m = 8 ∧ k ≥ 2 then c.busWrite ⟨m, R.CRC_CH_CTRL k, v⟩ (2 ^ 32 - 1) id
  else if c.flag (F.CRC_CH_CTRL_BUSY k) then
    c.busWrite ⟨m, R.CRC_CH_CTRL k, v⟩ (2 ^ 32 - 1) fun c => c.countN R.CRC_GO_IGNORED (bitsOf v 31 31)
  else
    c.busWrite ⟨m, R.CRC_CH_CTRL k, v⟩ (2 ^ 31) fun c => if bitOf v 31 then c.crcGo k else c

/-- The words of a notice of CRC_SCAN (R475). -/
def Core.crcWords (c : Core) (k : Nat) (st : Status) : List Byte :=
  natBytes [statusCode st, c.f (F.CRC_CH_CTRL_CAUSE k), (c.get (R.CRC_CH_RESULT_LO k)).toNat,
    (c.get (R.CRC_CH_RESULT_HI k)).toNat]

/-- A scan ends: with RESULT, or with ERR on an uncorrectable DRAM word. A region written during the scan gives a value that
nothing fixes (R473). -/
def crcScanDone (k : Nat) (mem : Mem) (c : Core) : Core × Mem :=
  if k ≥ 4 ∨ !c.flag (F.CRC_CH_CTRL_BUSY k) then (c, mem)
  else
    let a := c.crcAddr k
    let n := c.crcLen k
    let tok := smGet (fun _ => none) c.crc.tok k
    let c := { c with crc := { c.crc with tok := smSet (fun _ => none) c.crc.tok k none } }
    let bad := c.memc.ecc.filter fun x => decide (x.2 = 2 ∧ a < 8 * x.1 + 8 ∧ 8 * x.1 < a + n)
    if !bad.isEmpty then
      let c := (bad.take 1).foldl (fun c x => Core.wordRead 6 c x.1) c
      let c := c.crcErr k 2
      (c.notice? tok .faulted (c.crcWords k .faulted), mem)
    else
      let poly := c.f (F.CRC_CH_CTRL_POLY k)
      let p := crcParams poly
      let seed := if c.flag (F.CRC_CH_CTRL_CONT k) then some (c.get64 (R.CRC_CH_SEED_LO k) (R.CRC_CH_SEED_HI k)) else none
      let c := if a < dramEnd then (c.memc.ecc.filter fun x => decide (a < 8 * x.1 + 8 ∧ 8 * x.1 < a + n)).foldl
          (fun c x => Core.wordRead 6 c x.1) c else c
      let dirty := smGet (fun _ => false) c.crc.dirty k
      let x := c.free
      let res := if dirty then x.1 % 2 ^ p.1 else crcEnd poly (crcRun p.1 p.2.1 p.2.2.2.1 mem.byte n a (crcStart poly seed))
      let c := if dirty then x.2 else c
      let c := c.put64 (R.CRC_CH_RESULT_LO k) (R.CRC_CH_RESULT_HI k) res
      let c := (((c.setF (F.CRC_CH_CTRL_BUSY k) 0).setF (F.CRC_CH_CTRL_GO k) 0).setF ⟨R.CRC_STATUS, k, k⟩ 0).setF
        (F.CRC_CH_CTRL_DONE k) 1
      let c := c.raise ⟨R.CRC_INT_STATUS, k, k⟩
      (c.notice? tok .ok (c.crcWords k .ok), mem)

def opCrcScan : Opc := { code := 0x0B10, len := (· = 32) }

/-- CRC_SCAN (R475): the channel's registers take the parameters and the scan starts. -/
def crcScanBody : Body := fun c r =>
  let k := r.n 0
  if k = 2 ∨ k = 3 then ans c .notPermitted
  else if k > 3 then ans c .outOfRange
  else if r.n 1 > 3 ∨ r.n 2 > 1 ∨ r.n 4 > 255 then ans c .badParam
  else if c.flag (F.CRC_CH_CTRL_BUSY k) then ans c .busy
  else
    let c := (c.put (R.CRC_CH_ADDR_LO k) (r.w 3)).put (R.CRC_CH_ADDR_HI k) (r.w 4)
    let c := (c.put (R.CRC_CH_LEN k) (r.w 5)).put64 (R.CRC_CH_SEED_LO k) (R.CRC_CH_SEED_HI k) (r.n 6 + 2 ^ 32 * r.n 7)
    let c := ((c.setF (F.CRC_CH_CTRL_POLY k) (r.n 1)).setF (F.CRC_CH_CTRL_CONT k) (r.n 2)).crcGo k
    if c.flag (F.CRC_CH_CTRL_BUSY k) then
      ans { c with crc := { c.crc with tok := smSet (fun _ => none) c.crc.tok k (some r.tok) } } .accepted
    else ans (c.completeNow r.tok .outOfRange (c.crcWords k .outOfRange)) .accepted

/-! ### Settings that flash keeps -/

/-- A register's word is stored in the configuration store and loaded again at step 11 of a start. -/
def Core.storeReg (c : Core) (off : Nat) (w : Word) : Core :=
  { c with cfg := { c.cfg with regs := smSet regReset c.cfg.regs off w } }

def opMemConfig : Opc := { code := 0x0B18, len := (· = 8) }

/-- MEM_CONFIG_SET (R451, R475). -/
def memConfigBody : Body := fun c r =>
  if !inRange 8 16 (r.n 0) ∨ !inRange 1 168 (r.n 1) then ans c .outOfRange
  else if c.flag F.SYS_STATUS_VIN_WARN then ans c .busy
  else
    let c := { c with cfg := { c.cfg with grain := r.n 0 } }
    let c := (c.setF F.MEMC_MAP_GRAIN_NEXT (r.n 0)).setF F.MEMC_SCRUB_HOURS (r.n 1)
    ans (c.storeReg R.MEMC_SCRUB (withBits (regReset R.MEMC_SCRUB) 7 0 (r.n 1))) .ok

def opFlashConfig : Opc := { code := 0x0B19, len := (· = 8) }

/-- FLASH_CONFIG_SET (R475). -/
def flashConfigBody : Body := fun c r =>
  let w := r.w 0
  if bitsOf w 31 24 ≠ 0 then ans c .badParam
  else if !inRange 1 90 (bitsOf w 7 0) ∨ !inRange 1 180 (bitsOf w 15 8) ∨ !inRange 8 72 (bitsOf w 23 16) then ans c .outOfRange
  else if c.flag F.SYS_STATUS_VIN_WARN then ans c .busy
  else
    let c := (c.put R.FLASH_SCRUB w).put R.FLASH_AGE_LIMIT (r.w 1)
    ans ((c.storeReg R.FLASH_SCRUB w).storeReg R.FLASH_AGE_LIMIT (r.w 1)) .ok

def opFlashUnit : Opc := { code := 0x0B20, len := (· = 8) }

/-- FLASH_UNIT_GET (R475). -/
def flashUnitBody : Body := fun c r =>
  if r.n 0 ≥ flashUnits ∨ !inRange 1 512 (r.n 1) ∨ r.n 0 + r.n 1 > flashUnits then ans c .outOfRange
  else okW c ((List.range (r.n 1)).flatMap fun i =>
    [(c.get (R.FLASH_EU_A (r.n 0 + i))).toNat, (c.get (R.FLASH_EU_B (r.n 0 + i))).toNat])

/-! ### Supply events (R466, R471) -/

/-- FLASH_STATUS.WRITES_ALLOWED: VIN_WARN is clear and PGOOD_N is low. -/
def Core.flashAllow (c : Core) : Core :=
  c.setB F.FLASH_STATUS_WRITES_ALLOWED (!c.flag F.SYS_STATUS_VIN_WARN && c.power.pgood)

/-- The shutdown record: cause, media sample count and PTP time, VIN, temperatures, the last swap boundaries and the class S
counters (R466). -/
def Core.shutdownWords (c : Core) : List Nat :=
  [(c.get R.SYS_RESET_CAUSE).toNat, c.time.n, c.time.ptp, (c.get R.SYS_VIN).toNat, (c.get R.SYS_TDIE).toNat,
    (c.get R.SYS_TBOARD).toNat] ++
    c.cal.lastSwaps ++
    ((c.regs.filter fun x => match regRow? x.1 with
      | some r => r.rc ≠ 0
      | none => false).map fun x => x.2.toNat)

/-- The shutdown record is written into one of the erased pages kept for it, if one is left (R466). -/
def Core.writeRecord (c : Core) : Core :=
  if c.flash.recPages = 0 then { c with flash := { c.flash with missed := true } }
  else
    { c with flash := { c.flash with recPages := c.flash.recPages - 1, record := some c.shutdownWords, missed := false } }

/-- A start looks for the shutdown record (R466): RECOVERED without one, RECORD_MISSED when none could be written. What was
programmed and never named in a committed record is gone. -/
def Core.findRecord (c : Core) : Core :=
  let c := (c.setB F.FLASH_STATUS_RECOVERED c.flash.record.isNone).setB F.FLASH_STATUS_RECORD_MISSED c.flash.missed
  { c with flash := { c.flash with record := none, missed := false, writes := [] } }

end Sys2Proof.Machine
end

