-- ==== Sys2Proof/Machine/Monitor.lean ====
section
/-! DEFINITION. Monitor rendering: binaural pairs, downmix channels and loudness meters (R259 to R268), and the Brush cores
that the configuration reserves (R38). -/

namespace Sys2Proof.Machine

/-! ### Reserved Brush cores (R38) -/

/-- The cores that binaural pairs, with `extra` more than run now, downmix and meters, and Survey reserve beside those of the
output chains. -/
def Core.coresElse (c : Core) (extra : Nat) : Nat :=
  4 * ((c.mon.pairs.filter fun x => x.2.set.on).length + extra) + 2 +
    (if c.f F.SURVEY_STATUS_POLICY ≠ 0 ∨ c.flag F.SURVEY_STATUS_MEAS then 8 else 0)

/-- Whether the reserved cores and those that customer brushwork holds fit the cores in service (R38). -/
def Core.coresFit (c : Core) (extra : Nat) : Bool :=
  decide (c.f F.OUTPROC_STATUS_CORES + c.coresElse extra + c.brush.custom.length ≤ c.f F.HEALTH_CAPACITY_BRUSH)

/-! ### HRTF selection (R260, R261) -/

/-- A cosine of an angle in units of R174, in Q2.30 (R261). -/
def cosQ30 (a : Int) : Int := roundFx 30 (cosTurn a 65536)
def sinQ30 (a : Int) : Int := roundFx 30 (sinTurn a 65536)

/-- The direction of record k of an HRTF set, in units of 2⁻⁶⁰. -/
def hrtfDir (d : List Byte) (k : Nat) : Int × Int × Int :=
  let az : Int := itemNat d (16 + 8 * k) 2
  let el := signed 16 (itemNat d (16 + 8 * k + 2) 2)
  (cosQ30 el * cosQ30 az, cosQ30 el * sinQ30 az, sinQ30 el * 2 ^ 30)

/-- The record with the largest u · d, the lower one where two are equal: the search from record k on, with the best so far. -/
def hrtfBest (d : List Byte) (u : Int × Int × Int) : Nat → Nat → Nat × Int → Nat
  | 0, _, best => best.1
  | n + 1, k, best =>
    let x := idot u (hrtfDir d k)
    hrtfBest d u n (k + 1) (if x > best.2 then (k, x) else best)

/-- The record selected for a direction. -/
def hrtfSelect (d : List Byte) (u : Int × Int × Int) : Nat :=
  hrtfBest d u (itemNat d 6 2 - 1) 1 (0, idot u (hrtfDir d 0))

/-- The 192 taps of a record for an ear: 0 left, 1 right. -/
def hrtfTaps (d : List Byte) (k ear : Nat) : List Int :=
  let at_ := 16 + 8 * itemNat d 6 2 + 1536 * k + 768 * ear
  (List.range 192).map fun i => signed 24 (itemNat d (at_ + 4 * i) 4)

/-- The loudspeakers that a pair renders in a bank, with their records (R261). -/
def pairPaths (l : Layout) (s : PairSet) (d : List Byte) : List (Nat × Nat) :=
  let zone := l.zone s.zone
  (l.speakers.filter fun x => x.1 ∈ zone).map (fun x => (x.1, hrtfSelect d x.2.pos)) ++
    (if s.lfe then (l.speakers.filter (·.2.lfe)).map (fun x => (x.1, hrtfSelect d (1, 0, 0))) else [])

/-! ### The filters (R262) -/

/-- Sample t − k of an output's sums, from the block in hand and the samples before it, newest first. -/
def tapSample (hist cur : List Int) (j k : Nat) : Int := if k ≤ j then cur.getD (j - k) 0 else hist.getD (k - j - 1) 0

/-- The sum of one loudspeaker's products for sample j of a block that starts at count n: samples before `since` are 0. -/
def earProduct (taps hist cur : List Int) (n since j : Nat) : Int :=
  let lim := n + j + 1 - since
  ((taps.take lim).zipIdx).foldl (fun a x => a + rshr 7 (x.1 * tapSample hist cur j x.2)) 0

/-- A block of the exact ear sums of a pair over a set of sums. -/
def earSums (blk n since : Nat) (paths : List (Nat × Nat)) (d : List Byte) (ear : Nat) (hist sums : SMap (List Int)) : List Int :=
  paths.foldl (fun acc x =>
    let taps := hrtfTaps d x.2 ear
    let h := smGet (fun _ => []) hist x.1
    let s := blockOf blk (smGet (fun _ => []) sums x.1)
    List.zipWith (· + ·) acc ((List.range blk).map fun j => earProduct taps h s n since j)) (List.replicate blk 0)

/-- A weighted sample, rounded to nearest. -/
def weighted (w x : Int) : Int := rshr 23 (w * x)

/-- When a pending change of a pair that fades takes effect (R263). -/
def Core.pairAnchor (c : Core) (p : Nat) : Option Nat :=
  match (c.pair p).next with
  | some (_, b, false) => some b
  | _ => none

/-- The weight of a pair's own mute-and-return at sample count n (R263). -/
def Core.pairWeight (c : Core) (p n : Nat) : Int :=
  let x := c.pair p
  let g := c.glaze
  match c.pairAnchor p with
  | some b => if n + g ≥ b then wOut (n + g - b) g else 2 ^ 23
  | none => if x.fade = 2 ∧ n ≥ x.fadeAt then wIn (n - x.fadeAt) x.fadeLen else 2 ^ 23

/-- How much of a pair at sample count n is its normal programme and how much the staged bank (R224, R225). -/
def Core.maqWeights (c : Core) (p n : Nat) : Int × Int :=
  if c.f F.CALIPER_MAQUETTE_PAIR ≠ p then (2 ^ 23, 0)
  else
    let g := c.glaze
    if c.flag F.CALIPER_MAQUETTE_EN then
      (if n < c.cal.maqAt then (2 ^ 23, 0) else (wOut (n - c.cal.maqAt) g, wIn (n - c.cal.maqAt) g))
    else if n < c.cal.maqAt then (0, 2 ^ 23)
    else (wIn (n - c.cal.maqAt) g, wOut (n - c.cal.maqAt) g)

/-- A block of one ear: the samples and how many of them saturated (R262 to R264). -/
def Core.earBlock (c : Core) (p ear : Nat) (d : List Byte) : List Int × Nat :=
  let x := c.pair p
  let n := c.ren.blockN
  let blk := c.blk
  let live := earSums blk n x.since (pairPaths c.scene.live x.set d) d ear c.ren.liveHist c.ren.live
  let useStaged := (List.range blk).any fun j => (c.maqWeights p (n + j)).2 ≠ 0
  let staged := if useStaged then
      earSums blk n x.since (pairPaths c.scene.staged x.set d) d ear c.ren.stagedHist c.ren.staged
    else List.replicate blk 0
  let cut := fun (e : Int) => sat 24 (rshr (16 + x.set.h) e)
  let clips := ((live.filter fun e => decide (cut e ≠ rshr (16 + x.set.h) e))).length
  let ys := (List.zipWith (fun a b => (cut a, cut b)) live staged).zipIdx.map fun y =>
    let t := n + y.2
    let w := c.maqWeights p t
    let v := if w.2 = 0 then (if w.1 = 2 ^ 23 then y.1.1 else weighted w.1 y.1.1)
      else sat 24 (weighted w.1 y.1.1 + weighted w.2 y.1.2)
    let g := c.pairWeight p t
    if g = 2 ^ 23 then v else weighted g v
  (ys, clips)

/-- A pair's clip count, a class S counter of 16 bits (R262). -/
def clipCount (n k : Nat) (sat : Bool) : Nat × Bool := (min (n + k) 65535, sat || decide (n + k ≥ 65535))

/-- A pair changes. -/
def Core.setPair (c : Core) (p : Nat) (x : Pair) : Core :=
  { c with mon := { c.mon with pairs := smSet (fun _ => {}) c.mon.pairs p x } }

/-- A monitor channel's block. -/
def Core.setMon (c : Core) (m : Nat) (l : List Int) : Core :=
  { c with mon := { c.mon with out := smSet (fun _ => []) c.mon.out m (if l.all (· = 0) then [] else l) } }

/-- The block of a binaural pair (R262). A pair that is OFF carries zeros (R259). -/
def Core.pairBlock (c : Core) (p : Nat) : Core :=
  let x := c.pair p
  match if x.set.on then c.item? x.set.item else none with
  | none => (c.setMon (2 * p) []).setMon (2 * p + 1) []
  | some it =>
    let l := c.earBlock p 0 it.data
    let r := c.earBlock p 1 it.data
    let k := clipCount x.clips (l.2 + r.2) x.sat
    ((c.setPair p { x with clips := k.1, sat := k.2 }).setMon (2 * p) l.1).setMon (2 * p + 1) r.1

/-! ### Downmix channels (R265) -/

/-- A downmix channel. -/
def Core.mix (c : Core) (m : Nat) : Mix := smGet (fun _ => {}) c.mon.mixes m

/-- A downmix channel changes. -/
def Core.setMix (c : Core) (m : Nat) (x : Mix) : Core :=
  { c with mon := { c.mon with mixes := smSet (fun _ => {}) c.mon.mixes m x } }

/-- A sample of a list before saturation. -/
def Core.mixSample (c : Core) (s : MixSet) (j : Nat) : Int :=
  rshr (21 + s.h) (s.list.foldl (fun a x => a + x.2 * (smGet (fun _ => []) c.ren.live x.1).getD j 0) 0)

/-- The block of a downmix channel, crossfading while its list changes. -/
def Core.mixBlock (c : Core) (m : Nat) : Core :=
  let x := c.mix m
  let n := c.ren.blockN
  let ys := (List.range c.blk).map fun j =>
    let a := c.mixSample x.set j
    match x.old with
    | none => (sat 24 a, b2n (decide (sat 24 a ≠ a)))
    | some (o, at_, g) =>
      let b := c.mixSample o j
      let t := n + j - at_
      (sat 24 (weighted (wIn t g) (sat 24 a) + weighted (wOut t g) (sat 24 b)), b2n (decide (sat 24 a ≠ a)))
  let clips := ys.foldl (fun a y => a + y.2) 0
  let k := clipCount x.clips clips x.sat
  let old := match x.old with
    | some (o, at_, g) => if n + c.blk ≥ at_ + g then none else some (o, at_, g)
    | none => none
  (c.setMix m { x with clips := k.1, sat := k.2, old := old }).setMon (16 + m) (ys.map (·.1))

/-- The block of every monitor channel, from the sums just finished; at 192 kHz there is none (R28, R259). -/
def Core.monitorBlock (c : Core) : Core :=
  if c.clk.mult = 2 then c
  else
    let c := (List.range 8).foldl Core.pairBlock c
    (List.range 48).foldl Core.mixBlock c

/-- Step 1 of a change of the pair that is in Maquette ends Maquette (R264). -/
def Core.monitorTurn (c : Core) : Core :=
  let p := c.f F.CALIPER_MAQUETTE_PAIR
  match if c.flag F.CALIPER_MAQUETTE_EN then c.pairAnchor p else none with
  | some b => if b ≤ c.time.n + c.glaze then c.maquetteEnd true c.time.n else c
  | none => c

/-- Filter histories are cleared, and gating blocks in progress are discarded (R267). -/
def Core.monitorRestart (c : Core) (n : Nat) : Core :=
  let pairs := (c.mon.pairs.map fun x => (x.1, { x.2 with since := n })).filter fun x => decide (x.2 ≠ {})
  let meters := (c.mon.meters.map fun x => (x.1, { x.2 with steps := [] })).filter fun x => decide (x.2 ≠ {})
  { c with mon := { c.mon with pairs := pairs, meters := meters, out := [] } }

/-! ### BINAURAL_SET (R261, R263) -/

def opBinauralSet : Opc := { code := 0x0224, timeable := true, len := (· = 12), eager := true }

/-- The configuration of a BINAURAL_SET. -/
def binauralOf (w item : Word) : PairSet :=
  { on := bitOf w 0, lfe := bitOf w 1, zone := bitsOf w 7 2, h := bitsOf w 11 8, item := item.toNat }

/-- The check of an HRTF item before a set is accepted (R263). -/
def Core.hrtfCheck (c : Core) (item : Nat) : Status :=
  match c.item? item with
  | none => .verifyFailed
  | some it =>
    if it.kind ≠ 2 ∨ !hrtfFormat it.data then .verifyFailed
    else if itemNat it.data 8 4 ≠ c.fsHz then .outOfRange
    else .ok

/-- The checks of BINAURAL_SET. -/
def Core.binauralCheck (c : Core) (r : Req) : Status :=
  let p := r.n 0
  let x := c.pair p
  let s := binauralOf (r.w 1) (r.w 2)
  if p > 7 then .outOfRange
  else if bitsOf (r.w 1) 31 12 ≠ 0 then .badParam
  else
    let st := if s.on then c.hrtfCheck s.item else .ok
    if st ≠ .ok then st
    else if s.on ∧ !x.set.on ∧ !c.coresFit 1 then .noResource
    else if x.next.isSome ∨ (x.fade = 2 ∧ c.now < x.fadeAt + x.fadeLen) then .busy
    else if (pkAtTime r.p) ∧ { s with h := x.set.h } ≠ x.set ∧ c.boundaryAt (pkAt r.p) < c.anchorB then .stale
    else .ok

/-- BINAURAL_SET (R263, R268). -/
def binauralSetBody : Body := fun c r =>
  match c.binauralCheck r with
  | .ok =>
    let p := r.n 0
    let x := c.pair p
    let s := binauralOf (r.w 1) (r.w 2)
    let onlyH := decide ({ s with h := x.set.h } = x.set)
    let b := r.boundary c (if onlyH then c.boundaryAt (c.now + 2 * c.blk) else c.anchorB)
    ans (c.setPair p { x with next := some (s, b, onlyH) }) .ok
  | st => ans c st

/-- A pair takes its new set at the present boundary (R263, step 2). -/
def Core.pairTake (c : Core) (p : Nat) (s : PairSet) : Core :=
  let x := c.pair p
  let n := c.time.n
  if { s with h := x.set.h } = x.set then c.setPair p { x with set := s, next := none }
  else c.setPair p { x with set := s, next := none, since := n, fade := 2, fadeAt := n, fadeLen := c.glaze }

/-- At anchor B the pair's change takes effect. -/
def binauralChange (p : Nat) (c : Core) : Core :=
  match (c.pair p).next with
  | some (s, b, _) => if b ≤ c.time.n then c.pairTake p s else c
  | none => c

def opBinauralGet : Opc := { code := 0x0225, len := (· = 4) }

/-- BINAURAL_GET (R268): the read clears the clip count. -/
def binauralGetBody : Body := fun c r =>
  let p := r.n 0
  if p > 7 then ans c .outOfRange
  else
    let x := c.pair p
    okW (c.setPair p { x with clips := 0, sat := false })
      [b2n x.set.on + 2 * b2n x.set.lfe + 4 * x.set.zone + 256 * x.set.h, x.set.item, x.clips + 2 ^ 31 * b2n x.sat]

/-! ### DOWNMIX_SET (R265, R268) -/

def opDownmixSet : Opc := { code := 0x0226, timeable := true, len := (12 ≤ ·), eager := true }

/-- The pairs of a DOWNMIX_SET; none where a gain is not sign-extended. -/
def mixList (r : Req) (n : Nat) : Option (List (Nat × Int)) :=
  (List.range n).mapM fun i => (sext? 24 (r.w (4 + 2 * i))).map fun g => (r.n (3 + 2 * i), g)

/-- The checks of DOWNMIX_SET; the list where they pass. -/
def Core.downmixCheck (c : Core) (r : Req) : Except Status MixSet :=
  let n := r.n 2
  if r.n 0 > 47 ∨ r.n 1 > 15 ∨ n > 512 then .error .outOfRange
  else if r.bytes.length ≠ 12 + 8 * n then .error .badLength
  else
    match mixList r n with
    | none => .error .badParam
    | some l =>
      if l.any fun x => decide (x.1 ≥ c.caps.outs) then .error .outOfRange
      else if (l.map (·.1)).eraseDups.length ≠ n then .error .badParam
      else if (c.mix (r.n 0)).next.isSome ∨ (c.mix (r.n 0)).old.isSome then .error .busy
      else .ok { h := r.n 1, list := l }

/-- DOWNMIX_SET: the definition takes effect at the first boundary at least two blocks from now. -/
def downmixSetBody : Body := fun c r =>
  match c.downmixCheck r with
  | .error st => ans c st
  | .ok s => ans (c.setMix (r.n 0) { c.mix (r.n 0) with next := some (s, r.boundary c (c.boundaryAt (c.now + 2 * c.blk))) }) .ok

/-- A downmix channel takes its new definition at the present boundary and crossfades to it. -/
def Core.mixTake (c : Core) (m : Nat) (s : MixSet) : Core :=
  let x := c.mix m
  c.setMix m { x with set := s, next := none, old := some (x.set, c.time.n, c.glaze) }

/-- At B the downmix channel crossfades to its new list. -/
def downmixChange (m : Nat) (c : Core) : Core :=
  match (c.mix m).next with
  | some (s, b) => if b ≤ c.time.n then c.mixTake m s else c
  | none => c

def opDownmixGet : Opc := { code := 0x0227, len := (· = 4) }

/-- DOWNMIX_GET (R268). -/
def downmixGetBody : Body := fun c r =>
  let m := r.n 0
  if m > 47 then ans c .outOfRange
  else
    let x := c.mix m
    okW (c.setMix m { x with clips := 0, sat := false })
      ([x.set.h, x.set.list.length] ++ (x.set.list.flatMap fun y => [y.1, w32 y.2]) ++ [x.clips + 2 ^ 31 * b2n x.sat])

/-! ### Loudness meters (R266) -/

/-- A meter. -/
def Core.meter (c : Core) (q : Nat) : Meter := smGet (fun _ => {}) c.mon.meters q

/-- A meter changes. -/
def Core.setMeter (c : Core) (q : Nat) (x : Meter) : Core :=
  { c with mon := { c.mon with meters := smSet (fun _ => {}) c.mon.meters q x } }

def opLoudnessConfig : Opc := { code := 0x0228, len := (· = 24) }

/-- LOUDNESS_CONFIG (R268): five parameter words, the weight codes of 24 channels in 2-bit fields of the last two. -/
def loudnessConfigBody : Body := fun c r =>
  let q := r.n 0
  let kind := r.n 1
  let first := r.n 2
  let count := r.n 3
  let weights := r.n 4 + 2 ^ 32 * r.n 5
  if q > 7 ∨ kind > 2 then ans c .outOfRange
  else if kind = 1 ∧ first > 7 then ans c .outOfRange
  else if kind = 2 ∧ (count = 0 ∨ count > 24 ∨ first + count > 48) then ans c .outOfRange
  else if kind = 2 ∧ (List.range count).any (fun i => weights / 4 ^ i % 4 = 3) then ans c .outOfRange
  else
    ans (c.setMeter q { kind := kind, first := first, count := count, weights := weights, resetAt := c.now }) .ok

/-- The mean of the first n of a list. -/
def meanOf (l : List Int) (n : Nat) : Int := (l.take n).foldl (· + ·) 0 / (n : Int)

/-- −0.691 + 10 log₁₀ of a weighted power, in hundredths of a unit, 0x8000 below −70.00 (R266, ITU-R BS.1770-4). -/
def lufs (p : Int) : Nat :=
  if p ≤ 0 then 0x8000
  else
    let v := roundFx 0 (1000 * fdiv (flog p) fln10 - fx 691 10)
    if v < -7000 then 0x8000 else unsigned 16 v

/-- Momentary, short-term and integrated values of a meter. -/
def meterValues (x : Meter) : Nat × Nat × Nat :=
  let m := if x.steps.length ≥ 4 then lufs (meanOf x.steps 4) else 0x8000
  let s := if x.steps.length ≥ 30 then lufs (meanOf x.steps 30) else 0x8000
  let abs := x.blocks.filter fun b => lufs b ≠ 0x8000
  let i := if abs.isEmpty then 0x8000
    else
      let rel := meanOf abs abs.length / 10
      let gated := abs.filter fun b => decide (b > rel)
      if gated.isEmpty then 0x8000 else lufs (meanOf gated gated.length)
  (m, s, i)

def opLoudnessGet : Opc := { code := 0x0229, len := (· = 4) }

/-- LOUDNESS_GET (R268). -/
def loudnessGetBody : Body := fun c r =>
  if r.n 0 > 7 then ans c .outOfRange
  else
    let x := c.meter (r.n 0)
    let v := meterValues x
    okW c [v.1, v.2.1, v.2.2, x.resetAt % 2 ^ 32, x.resetAt / 2 ^ 32]

def opLoudnessReset : Opc := { code := 0x022A, timeable := true, len := (· = 4) }

/-- LOUDNESS_RESET (R268): the integrated value restarts. -/
def loudnessResetBody : Body := fun c r =>
  if r.n 0 > 255 then ans c .badParam
  else
    ans ((List.range 8).foldl (fun c q =>
      if r.n 0 / 2 ^ q % 2 = 1 then c.setMeter q { c.meter q with blocks := [], resetAt := c.now } else c) c) .ok

/-- The weights of a meter's channels, in hundredths (R266). -/
def meterWeights (x : Meter) : List Int :=
  if x.kind = 1 then [100, 100]
  else (List.range x.count).map fun i =>
    match x.weights / 4 ^ i % 4 with
    | 0 => 100
    | 1 => 141
    | _ => 0

/-- 100 ms have passed: the K-weighted power of the step is the weighted sum over the meter's channels, each a free value
(the design of the K-weighting at the running rate is the standard's), and a 400 ms gating block is complete once four steps
are there (R266). -/
def loudnessGatingBlock (q : Nat) (c : Core) : Core :=
  let x := c.meter q
  if x.kind = 0 ∨ q > 7 ∨ c.power.engineStop then c
  else
    let s : Int × Core := (meterWeights x).foldl (fun a w =>
      let f := a.2.free
      (a.1 + w * (f.1 : Int) / 100, f.2)) (0, c)
    let steps := (s.1 :: x.steps).take 30
    let blocks := if steps.length ≥ 4 then meanOf steps 4 :: x.blocks else x.blocks
    s.2.setMeter q { x with steps := steps, blocks := blocks }

end Sys2Proof.Machine
end

