-- ==== Sys2Proof/Machine/Excite.lean ====
section
/-! DEFINITION. The excitations of a Survey measurement and how they replace the programme (R299, R300, R303). -/

namespace Sys2Proof.Machine

/-- The peak level A of a measurement (R299). -/
def Meas.peak (m : Meas) : Int := roundFx 0 (pow10 m.level 2000 * (2 ^ 23 - 1))

/-- L of a sweep or noise, P of an MLS (R299). -/
def Meas.unitLen (m : Meas) : Nat :=
  match m.kind with
  | 0 => 2 ^ m.p3
  | 1 => 2 ^ m.p1
  | _ => 2 ^ m.p1 - 1

/-- The samples of a turn during which the excitation plays (R299). -/
def Meas.playLen (m : Meas) : Nat := if m.kind = 3 then (m.repeats + 1) * m.unitLen else m.repeats * m.unitLen

/-- The samples of a turn (R299). -/
def Meas.turnLen (m : Meas) : Nat := m.playLen + m.gap

/-- n steps of the noise generator. -/
def galois : Nat → Nat → Nat
  | 0, s => s
  | n + 1, s => galois n (galoisStep s)

/-- The feedback taps of the MLS generators (R300). -/
def mlsTaps (order : Nat) : List Nat :=
  match order with
  | 15 => [15, 14]
  | 16 => [16, 15, 13, 4]
  | 17 => [17, 14]
  | _ => [18, 11]

/-- The register of an MLS generator after n steps from all ones: stage k in bit k − 1; its output is the last stage. -/
def mlsState (order : Nat) : Nat → Nat
  | 0 => 2 ^ order - 1
  | n + 1 =>
    let s := mlsState order n
    let fb := (mlsTaps order).foldl (fun a k => a + s / 2 ^ (k - 1) % 2) 0 % 2
    (2 * s + fb) % 2 ^ order

/-- Bit n of an MLS. -/
def mlsBit (order n : Nat) : Bool := mlsState order n / 2 ^ (order - 1) % 2 = 1

/-- The half-Hann window of a sweep (R300). -/
def sweepWindow (l t : Nat) : Fx :=
  if t < 1024 then (one - cosTurn t 2048) / 2
  else if t + 1024 ≥ l then (one - cosTurn (l - 1 - t : Nat) 2048) / 2
  else one

/-- Sample t of a sweep from F1 to F2 (R300). -/
def sweepSample (a : Int) (f1 f2 l fs t : Nat) : Int :=
  let lr := fdiv (fx l 1) (flog (fx f2 f1))
  let turns := fmul (fdiv (f1 * lr) (fx fs 1)) (fexp (fdiv (fx t 1) lr) - one)
  roundFx 0 (a * fmul (sweepWindow l t) (sinTurn turns (2 ^ 96)))

/-- Sample t of a turn: the excitation while it plays, then silence (R300). -/
def Meas.sample (m : Meas) (fs t : Nat) : Int :=
  if t ≥ m.playLen then 0
  else
    match m.kind with
    | 0 => sweepSample m.peak m.p1 m.p2 m.unitLen fs (t % m.unitLen)
    | 1 => roundDiv (m.peak * signed 24 (galois (32 * (t + 1)) m.p2 / 256)) (2 ^ 23)
    | _ => if mlsBit m.p1 (t % m.unitLen) then m.peak else -m.peak

/-- The weight of an output's programme at sample count n while a measurement silences it (R303). -/
def Meas.weight (m : Meas) (o n : Nat) : Int :=
  if !(m.muteOthers || m.outs.contains o) then 2 ^ 23
  else if n + m.g < m.b then 2 ^ 23
  else
    match m.backAt with
    | some k => if n ≥ k then wIn (n - k) m.g else 0
    | none => if n < m.b then wOut (n + m.g - m.b) m.g else 0

/-- The excitation that an output carries at sample count n, none where it carries its programme. -/
def Meas.excite (m : Meas) (fs o n : Nat) : Option Int :=
  match m.turn with
  | some (k, at_) => if m.outs[k]? = some o ∧ n ≥ at_ ∧ n < at_ + m.turnLen then some (m.sample fs (n - at_)) else none
  | none => none

/-- A word that enters stage 1 of an output at sample count n (R299, R303). -/
def Core.insertPre (c : Core) (o n h : Nat) (w : Int × Nat) : Int × Nat :=
  match c.survey.meas with
  | none => w
  | some m =>
    if m.post then w
    else
      match m.excite c.fsHz o n with
      | some x => (x, h)
      | none => let k := m.weight o n; if k = 2 ^ 23 then w else (weighted k w.1, w.2)

/-- A sample that enters stage 6 of an output at sample count n (R299, R303). -/
def Core.insertPost (c : Core) (o n : Nat) (x : Int) : Int :=
  match c.survey.meas with
  | none => x
  | some m =>
    if !m.post then x
    else
      match m.excite c.fsHz o n with
      | some y => y
      | none => let k := m.weight o n; if k = 2 ^ 23 then x else weighted k x

end Sys2Proof.Machine
end

