-- ==== Sys2Proof/Machine/OutChain.lean ====
section
/-! DEFINITION. The output chain: alignment, equalisation, room-correction convolution, Varnish, mute and its Palette (R269 to
R289). -/

namespace Sys2Proof.Machine

/-! ### Trim and alignment (R270) -/

/-- The chain settings of an output in a bank. -/
def chainSet (m : SMap ChainSet) (o : Nat) : ChainSet := smGet (fun _ => {}) m o

/-- The state of a chain. -/
def Core.chain (c : Core) (o : Nat) : ChainState := smGet (fun _ => {}) c.out.chains o

/-- The trim as a Q3.21 gain, ties away from zero (R270). -/
def trimGain (t : Int) : Int := roundFx 21 (gainOf t)

/-- A stored word at the chain's own headroom shift, and whether it saturated (R270). -/
def toHeadroom (h : Nat) (w : Int × Nat) : Int × Bool :=
  if w.2 > h then let v := w.1 * ((2 ^ (w.2 - h) : Nat) : Int); (sat 24 v, decide (sat 24 v ≠ v))
  else (rshr (h - w.2) w.1, false)

/-- Stages 1 and 2 for one stored word (R270). -/
def trimStage (s : ChainSet) (w : Int × Nat) : Int × Bool :=
  let x := toHeadroom s.h w
  let v := rshr 21 (trimGain s.trim * x.1)
  (sat 24 v, x.2 || decide (sat 24 v ≠ v))

/-! ### Biquads (R271, R272) -/

/-- One sample through a section: the result, the state after, and whether it saturated. -/
def biquadStep (b : Biquad) (s : BiquadState) (x : Int) : Int × BiquadState × Bool :=
  if b.bypass then (x, {}, false)
  else
    let acc := b.b0 * x + b.b1 * s.x1 + b.b2 * s.x2 - b.a1 * s.y1 - b.a2 * s.y2 + s.r
    let v := acc / 2 ^ 21
    let y := sat 24 v
    let r := if y = v then acc - v * 2 ^ 21 else 0
    (y, { x1 := x, x2 := s.x1, y1 := y, y2 := s.y1, r := r }, decide (y ≠ v))

/-- One sample through the sections of a chain. -/
def biquadChain (bs : SMap Biquad) (ss : SMap BiquadState) (x : Int) : Int × SMap BiquadState × Bool :=
  bs.foldl (fun a b =>
    let s := smGet (fun _ => {}) ss b.1
    let y := biquadStep b.2 s a.1
    (y.1, smSet (fun _ => {}) a.2.1 b.1 y.2.1, a.2.2 || y.2.2)) (x, [], false)

/-- Whether a section is accepted (R272); 1 is 2²¹. -/
def biquadOk (b : Biquad) : Bool :=
  decide (b.a2.natAbs ≤ 2 ^ 21 - 32) && decide ((b.a1.natAbs : Int) ≤ 2 ^ 21 + b.a2 - 32)

/-! ### The correction FIR (R273 to R277) -/

/-- Tap k of a FIR item (R273, R280). -/
def firTap (d : List Byte) (k : Nat) : Int := if k < itemNat d 6 2 then signed 24 (itemNat d (16 + 4 * k) 4) else 0

/-- The taps of partition j. -/
def firPart (d : List Byte) (j : Nat) : List Int := (List.range 128).map fun n => firTap d (128 * j + n)

/-- Part of bin k of the exact spectrum of 128 taps, by a cosine or sine of n k / 256 turns (R275). -/
def binSum (h : List Int) (wave : Int → Nat → Fx) (k : Nat) : Fx :=
  h.zipIdx.foldl (fun a x => a + x.1 * wave ((x.2 * k : Nat) : Int) 256) 0

/-- The scaled spectrum of a partition and its exponent (R275): the parts as numbers of 24 bits. -/
def partSpectrum (h : List Int) : List (Int × Int) × Nat :=
  let bins := (List.range 129).map fun k => (binSum h cosTurn k, -binSum h sinTurn k)
  let at_ := fun (e : Nat) => bins.map fun b => (roundFx (16 + e) (b.1 / 2 ^ 23), roundFx (16 + e) (b.2 / 2 ^ 23))
  let fits := fun (e : Nat) => (at_ e).all fun b => decide (b.1.natAbs ≤ 2 ^ 23 - 1 ∧ b.2.natAbs ≤ 2 ^ 23 - 1)
  let e := ((List.range 16).filter fits).foldl max 0
  (at_ e, e)

/-- Elements at even and at odd places. -/
def evens {α : Type} : List α → List α
  | a :: _ :: t => a :: evens t
  | l => l
def odds {α : Type} : List α → List α
  | _ :: b :: t => b :: odds t
  | _ => []

/-- A value of the transforms: real part, imaginary part, and whether it or one before it saturated. -/
abbrev Cx := Int × Int × Bool

/-- The twiddle factor of i / 256 turns in Q2.22 (R276), its conjugate for the inverse. -/
def twiddle (inv : Bool) (i : Nat) : Int × Int :=
  let s := roundFx 22 (sinTurn i 256)
  (roundFx 22 (cosTurn i 256), if inv then s else -s)

/-- A saturated part, halved with rounding in the forward transform. -/
def butterflyPart (inv : Bool) (v : Int) : Int × Bool :=
  let v := if inv then v else rshr 1 v
  (sat 24 v, decide (sat 24 v ≠ v))

/-- A butterfly's result from a and ±t (R276, steps 2 and 7). -/
def butterflyOut (inv : Bool) (a : Cx) (tr ti : Int) (t : Bool) : Cx :=
  let r := butterflyPart inv (a.1 + tr)
  let i := butterflyPart inv (a.2.1 + ti)
  (r.1, i.1, a.2.2 || t || r.2 || i.2)

/-- The results of one stage from those of its even and odd halves: the sums, and the differences. -/
def butterflies (inv : Bool) (step : Nat) : Nat → List Cx → List Cx → List Cx × List Cx
  | k, a :: as, b :: bs =>
    let w := twiddle inv (k * step)
    let tr := rshr 22 (w.1 * b.1 - w.2 * b.2.1)
    let ti := rshr 22 (w.1 * b.2.1 + w.2 * b.1)
    let t := butterflies inv step (k + 1) as bs
    (butterflyOut inv a tr ti b.2.2 :: t.1, butterflyOut inv a (-tr) (-ti) b.2.2 :: t.2)
  | _, _, _ => ([], [])

/-- The 2ˢ-point radix-2 transform, decimation in time (R276). -/
def fft (inv : Bool) : Nat → List Cx → List Cx
  | 0, l => l
  | s + 1, l =>
    let r := butterflies inv (2 ^ (7 - s)) 0 (fft inv s (evens l)) (fft inv s (odds l))
    r.1 ++ r.2

/-- The input spectrum of a frame: bins 0 to 128 of its 256 inputs, newest first (R276, steps 1 to 3). -/
def inputSpectrum (ins : List Int) : List (Int × Int) × Bool :=
  let u : List Cx := ((List.range 256).map fun i => (ins.getD (255 - i) 0, (0 : Int), false))
  let x := fft false 8 u
  ((x.take 129).map fun b => (b.1, b.2.1), x.any (·.2.2))

/-- The sum over the partitions of input spectrum times scaled spectrum (R276, step 4). -/
def tailBins (d : List Byte) (spectra : List (List (Int × Int))) : List (Int × Int) :=
  (spectra.zipIdx).foldl (fun acc x =>
    let h := firPart d (x.2 + 1)
    if x.1.isEmpty ∨ h.all (· = 0) then acc
    else
      let p := partSpectrum h
      let y := List.zipWith (fun (a b : Int × Int) =>
        (rshr p.2 (a.1 * b.1 - a.2 * b.2), rshr p.2 (a.1 * b.2 + a.2 * b.1))) x.1 p.1
      List.zipWith (fun (a b : Int × Int) => (a.1 + b.1, a.2 + b.2)) acc y) (List.replicate 129 (0, 0))

/-- The 128 tail samples of a frame, and whether a transform saturated (R276, steps 4 to 8). -/
def tailOf (d : List Byte) (spectra : List (List (Int × Int))) : List Int × Bool :=
  let y : List Cx := (tailBins d spectra).map fun a =>
    let r := rshr 16 a.1
    let i := rshr 16 a.2
    (sat 24 r, sat 24 i, decide (sat 24 r ≠ r ∨ sat 24 i ≠ i))
  let full := y ++ ((y.drop 1).take 127).reverse.map fun b => (b.1, -b.2.1, b.2.2)
  let x := fft true 8 full
  ((x.drop 128).map (·.1), x.any (·.2.2))

/-- Whether a frame of an output begins at a sample count (R274). -/
def Core.frameStart (c : Core) (o n : Nat) : Bool :=
  if c.clk.ll = 1 then (n + 128 - 8 * (o % 16)) % 128 = 0 else (n + 128 - 16 * (o % 8)) % 128 = 0

/-- The contents of the item that an output's settings name. -/
def Core.firData (c : Core) (s : ChainSet) : List Byte :=
  match if s.firEn then c.item? s.firItem else none with
  | some it => it.data
  | none => []

/-- A chain at a frame boundary at count n: the frame's spectrum joins its history and the tail of the next frame is
computed. -/
def Core.tailFrame (c : Core) (s : ChainSet) (x : ChainState) (n : Nat) (late : Bool) : ChainState :=
  let sp := inputSpectrum x.ins
  let new := if n < x.since + 128 then [] else sp.1
  let spectra := (new :: x.spectra).take 63
  let t := if s.firEn && !late then tailOf (c.firData s) spectra else ([], false)
  { x with spectra := spectra, tail := t.1, tailAt := some n, tailSat := s.firEn && !late && (t.2 || sp.2) }

/-- A chain changes. -/
def Core.setChain (c : Core) (o : Nat) (x : ChainState) : Core :=
  { c with out := { c.out with chains := smSet (fun _ => {}) c.out.chains o x } }

/-- A second chain of a Glaze. -/
def Core.oldChain (c : Core) (o : Nat) : Option ChainState := smGet (fun _ => none) c.out.old o
def Core.setOld (c : Core) (o : Nat) (x : Option ChainState) : Core :=
  { c with out := { c.out with old := smSet (fun _ => none) c.out.old o x } }

/-- The count of the first sample that the chains process next. -/
def Core.chainNext (c : Core) : Option Nat := c.out.inpAt

/-- The frame of an output begins with the next block that its chain processes: the tail of the frame is computed once
(R274). A late one leaves the tail at 0 (R278). -/
def Core.newFrame (c : Core) (o : Nat) (late : Bool) : Core :=
  match c.chainNext with
  | none => c
  | some n =>
    if !c.frameStart o n ∨ (c.chain o).tailAt = some n then c
    else
      let c := match c.oldChain o with
        | some x => c.setOld o (some (c.tailFrame (chainSet c.out.staged o) x n late))
        | none => c
      c.setChain o (c.tailFrame (chainSet c.out.live o) (c.chain o) n late)

/-- At a frame boundary of an output the tail of the next frame is computed (R274, R276). -/
def firTailFrame (o : Nat) (c : Core) : Core := if o < c.caps.outs then c.newFrame o false else c

/-- A tail is not finished when the chain needs it: it is 0 for the whole frame (R278). -/
def tailOverrun (o : Nat) (c : Core) : Core :=
  match c.chainNext with
  | none => c
  | some n =>
    if o ≥ c.caps.outs ∨ !c.frameStart o n ∨ !(chainSet c.out.live o).firEn then c
    else
      let c := (c.newFrame o true)
      let x := c.chain o
      let c := c.setChain o { x with tail := [], tailSat := false }
      let c := match c.oldChain o with
        | some y => c.setOld o (some { y with tail := [], tailSat := false })
        | none => c
      (c.count R.OUTPROC_OVERRUN).raise F.OUTPROC_INT_STATUS_OVERRUN

/-! ### Varnish (R281, R282) -/

/-- R of the envelope's release. -/
def releaseFactor (fs ms : Nat) : Int := roundFx 23 (fexp (-(fx 1000 (fs * ms))))

/-- The envelope after a sample (R281). -/
def envStep (fs : Nat) (s : ChainSet) (env m : Nat) : Nat :=
  max m (rshr 23 ((env : Int) * releaseFactor fs s.release)).toNat

/-- The gain reduction of an envelope in dB (R281). -/
def gainReduction (s : ChainSet) (env : Nat) : Fx :=
  if env = 0 then 0
  else
    let l := fdiv (20 * flog (fx env (2 ^ 23))) fln10
    let t := fx s.thresh 100
    let w := fx s.knee 100
    if s.knee = 0 then max 0 (l - t)
    else if l ≤ t - w / 2 then 0
    else if l < t + w / 2 then fdiv (fmul (l - t + w / 2) (l - t + w / 2)) (2 * w)
    else l - t

/-- Stage 5 of a sample at an envelope: the result, and the gain reduction in units of 0.01 dB (R282). The gain is within one
LSB of the exact one. -/
def varnish (s : ChainSet) (env : Nat) (z : Int) : Int × Nat :=
  if !s.varnishEn then (z, 0)
  else
    let gr := gainReduction s env
    if gr = 0 then (z, 0)
    else
      let g := withDev [5, env, s.thresh, s.knee] 1 (roundFx 23 (fexp (fmul (-gr / 20) fln10)))
      let c := roundFx 23 (pow10 s.thresh 2000)
      (clampInt (-c) c (weighted g z), (roundFx 0 (100 * gr)).toNat)

/-! ### A block of the chains -/

/-- Stages 1 to 4 of one sample: the word of the alignment line, the sample count, the result, the stage that clipped last, 0
for none. -/
def chainSample (s : ChainSet) (taps : List Int) (x : ChainState) (w : Int × Nat) (t : Nat) : Int × Nat × ChainState :=
  let a := trimStage s w
  let b := biquadChain s.sections x.sections a.1
  let ins := (b.1 :: x.ins).take 256
  let k := if b.2.2 then 3 else if a.2 then 1 else 0
  let x' := { x with sections := b.2.1, ins := ins }
  if s.firEn then
    let f := x.tailAt.getD 0
    let tail := if x.tailAt.isSome ∧ f ≤ t ∧ t < f + 128 then x.tail.getD (t - f) 0 else 0
    let v := rshr 23 ((List.zipWith (· * ·) taps ins).foldl (· + ·) 0 + tail * 2 ^ 23)
    let k := if x.tailSat ∧ x.tailAt = some t then 4 else k
    (sat 24 v, (if sat 24 v ≠ v then 5 else k), x')
  else (b.1, k, x')

/-- Stages 1 to 4 of a block: the samples with the stage that clipped, and the state after. -/
def chainBlock (s : ChainSet) (taps : List Int) (line : List (Int × Nat)) (blk n : Nat) (x : ChainState) :
    List (Int × Nat) × ChainState :=
  (List.range blk).foldl (fun a j =>
    let y := chainSample s taps a.2 (line.getD (blk - 1 - j + s.align) (0, 0)) (n + j)
    (a.1 ++ [(y.1, y.2.1)], y.2.2)) ([], x)

/-- The largest magnitude at sample j over the outputs of a link group, or of the output alone (R281). -/
def linkMax (sets : SMap ChainSet) (z : SMap (List (Int × Nat))) (o j : Nat) : Nat :=
  let g := (chainSet sets o).link
  let mag := fun (p : Nat) => (((smGet (fun _ => []) z p).getD j (0, 0)).1).natAbs
  if g = 0 then mag o else (z.filter fun x => (chainSet sets x.1).link = g).foldl (fun a x => max a (mag x.1)) (mag o)

/-- Stage 5 of a block of an output: samples, the envelope after, and the largest gain reduction. -/
def varnishBlock (fs blk : Nat) (sets : SMap ChainSet) (z : SMap (List (Int × Nat))) (o env : Nat) : List Int × Nat × Nat :=
  (List.range blk).foldl (fun a j =>
    let env := envStep fs (chainSet sets o) a.2.1 (linkMax sets z o j)
    let y := varnish (chainSet sets o) env ((smGet (fun _ => []) z o).getD j (0, 0)).1
    (a.1 ++ [y.1], env, max a.2.2 y.2)) ([], env, 0)

/-- The Glaze of Palette 1 that runs (R287). -/
def Core.glaze1 (c : Core) : Option (Nat × Nat) := (c.cal.glazes.find? (·.mask / 2 % 2 = 1)).map fun g => (g.b, g.g)

/-- The mute state of an output. -/
def muteBit (o : Nat) : Field := ⟨R.OUTPROC_MUTE (o / 32), o % 32, o % 32⟩

/-- Stage 6 of a sample at count n (R283). -/
def Core.muteSample (c : Core) (o n : Nat) (x : Int) : Int :=
  match smGet (fun _ => none) c.out.fades o with
  | some (true, a, g) => if n < a then x else weighted (wOut (n - a) g) x
  | some (false, a, g) => if n < a then 0 else if n - a ≥ g then x else weighted (wIn (n - a) g) x
  | none => if c.flag (muteBit o) then 0 else x

/-- Clips of an output in a block: counted, and the last one recorded as a sample place and a stage. -/
def Core.chainClips (c : Core) (o : Nat) (ks : List Nat) : Core :=
  let n := (ks.filter (· ≠ 0)).length
  if n = 0 then c else (c.countN (R.OUTPROC_CLIP o) n).raise F.OUTPROC_INT_STATUS_CLIP

/-- The latest clip of a block, as (place, stage). -/
def lastClip (ks : List Nat) : Option (Nat × Nat) := (ks.zipIdx.filter (·.1 ≠ 0)).getLast?.map fun x => (x.2, x.1)

/-- What a block leaves of an output: the result of stage 5, the stage that clipped in each sample, the state of its chain and
of the second chain of a Glaze, and the largest gain reduction. -/
structure ChainRes where
  out : Nat
  ys : List Int
  clips : List Nat
  st : ChainState
  old : Option ChainState
  gr : Nat

/-- Stage 5 of an output: one chain, or the crossfade of two (R282, R287). -/
def Core.chainRes (c : Core) (b : Nat) (zLive zOld : SMap (List (Int × Nat))) (o : Nat) (st : ChainState)
    (old : Option ChainState) : ChainRes :=
  let v := varnishBlock c.fsHz c.blk c.out.live zLive o st.env
  let ks := (smGet (fun _ => []) zLive o).map (·.2)
  match old with
  | none => { out := o, ys := v.1, clips := ks, st := { st with env := v.2.1 }, old := none, gr := v.2.2 }
  | some y =>
    let g := c.glaze1.getD (0, 1)
    let u := varnishBlock c.fsHz c.blk c.out.staged zOld o y.env
    let ks0 := (smGet (fun _ => []) zOld o).map (·.2)
    let mix := (List.range c.blk).map fun j =>
      let t := b + j - g.1
      let s := rshr 23 (wOut t g.2 * u.1.getD j 0 + wIn t g.2 * v.1.getD j 0)
      (sat 24 s, if sat 24 s ≠ s then 6 else max (ks0.getD j 0) (ks.getD j 0))
    { out := o, ys := mix.map (·.1), clips := mix.map (·.2), st := { st with env := v.2.1 },
      old := some { y with env := u.2.1 }, gr := max v.2.2 u.2.2 }

/-- The chains process the block that waits for them, in the block that begins at boundary b, whose samples have counts from n
on (R269 to R288). -/
def Core.runChains (c : Core) (b n : Nat) : Core :=
  let blk := c.blk
  let outs := List.range c.caps.outs
  let lines := outs.foldl (fun m o =>
    let w := smGet (fun _ => []) c.out.inp o
    let w := ((if w.isEmpty then List.replicate blk (0, 0) else w).zipIdx).map fun x =>
      c.insertPre o (b + x.2) (chainSet c.out.live o).h x.1
    let old := smGet (fun _ => []) c.out.lines o
    if w.all (· = (0, 0)) ∧ old.isEmpty then m else smSet (fun _ => []) m o (w.reverse ++ old)) []
  let line := fun (o : Nat) => smGet (fun _ => []) lines o
  let run := fun (sets : SMap ChainSet) (o : Nat) (x : ChainState) =>
    let s := chainSet sets o
    let d := c.firData s
    chainBlock s (if s.firEn then firPart d 0 else []) (line o) blk n x
  let live := outs.map fun o => (o, run c.out.live o (c.chain o))
  let old := outs.map fun o => (o, (c.oldChain o).map (run c.out.staged o))
  let zLive : SMap (List (Int × Nat)) := live.map fun x => (x.1, x.2.1)
  let zOld : SMap (List (Int × Nat)) := (old.zip live).map fun x => (x.1.1, (x.1.2.map (·.1)).getD x.2.2.1)
  let res := (live.zip old).map fun x => c.chainRes b zLive zOld x.1.1 x.1.2.2 (x.2.2.map (·.2))
  let clip := (res.flatMap fun x => ((lastClip x.clips).map fun k => (k.1, x.out, k.2)).toList).foldl
    (fun (a : Option (Nat × Nat × Nat)) k => match a with
      | some l => if k.1 ≥ l.1 then some k else a
      | none => some k) none
  let c := res.foldl (fun c x =>
    let c := c.chainClips x.out x.clips
    if x.gr > c.f (F.OUTPROC_GR_GR_MAX x.out) then c.setF (F.OUTPROC_GR_GR_MAX x.out) (min x.gr 65535) else c) c
  let c := match clip with
    | some k => ((c.setF F.OUTPROC_LAST_CLIP_OUTPUT k.2.1).setF F.OUTPROC_LAST_CLIP_STAGE k.2.2).setF F.OUTPROC_LAST_CLIP_VALID 1
    | none => c
  let feed := res.map fun x => (x.out, x.ys.zipIdx.map fun y => c.insertPost x.out (b + y.2) y.1)
  let out := feed.map fun x => (x.1, x.2.zipIdx.map fun y => c.muteSample x.1 (b + y.2) y.1)
  let trim := (lines.map fun x => (x.1, x.2.take 8192)).filter fun x => !x.2.all fun w => decide (w = (0, 0))
  { c with out := { c.out with
    lines := trim
    chains := (res.map fun x => (x.out, x.st)).filter fun x => decide (x.2 ≠ {})
    old := (res.map fun x => (x.out, x.old)).filter fun x => x.2.isSome
    out := out.filter fun x => !x.2.all (· = 0)
    feed := feed.filter fun x => !x.2.all (· = 0)
    inp := [], inpAt := none } }

/-- The chains' part of a block that begins at boundary b: nothing runs at 192 kHz or while the engines are stopped (R28,
R288). -/
def Core.chainTurn (c : Core) (b : Nat) : Core :=
  match c.out.inpAt with
  | some n => if c.clk.mult = 2 then { c with out := { c.out with out := [], feed := [], inp := [], inpAt := none } } else
      (c.runChains b n).setF F.OUTPROC_STATUS_RUNNING 1
  | none => { c with out := { c.out with out := [], feed := [] } }.setF F.OUTPROC_STATUS_RUNNING 0

/-- The sums just finished wait for the chain, each word with its headroom shift (R270). -/
def Core.chainInput (c : Core) : Core :=
  let inp := c.ren.live.map fun x => (x.1, x.2.map fun s => (s, c.headroom x.1))
  { c with out := { c.out with inp := inp, inpAt := some c.ren.blockN } }

/-- Biquad states and residues, head histories, input spectra, envelopes and alignment lines are cleared; mute states are kept
(R66, R288). -/
def Core.chainClear (c : Core) (n : Nat) : Core :=
  let chains := (List.range c.caps.outs).map fun o => (o, ({ since := n } : ChainState))
  { c with out := { c.out with lines := [], chains := if n = 0 then [] else chains, old := [], inp := [], inpAt := none, out := [], feed := [] } }

/-- Fields of an output's H after a swap of Palette 1 (R247). -/
def Core.loadHeadroom (c : Core) : Core :=
  (List.range 512).foldl (fun c o =>
    c.setF ⟨R.RENDER_HEADROOM 0 + 4 * (o / 8), 4 * (o % 8) + 3, 4 * (o % 8)⟩ (chainSet c.out.live o).h) c

/-- A swap of Palette 1 at a boundary: the banks are exchanged, and every changed output starts a second chain when a Glaze
runs (R287). -/
def Core.swapChains (c : Core) (glaze : Bool) : Core :=
  let c := { c with out := { c.out with live := c.out.staged, staged := c.out.live } }
  let c := if glaze then
      (List.range c.caps.outs).foldl (fun c o =>
        if chainSet c.out.live o = chainSet c.out.staged o then c else c.setOld o (some (c.chain o))) c
    else c
  c.loadHeadroom

/-! ### Editing Palette 1 (R285, R289) -/

/-- Editing or committing Palette 1 is refused while a commit runs, a swap of it is pending or its Glaze runs (R218). -/
def Core.outBusy (c : Core) : Bool := c.out.commit.isSome || c.palBusy 1

/-- The staged bank of Palette 1 is written. -/
def Core.editOut (c : Core) (m : SMap ChainSet) : Core :=
  { c.setF (stagedReady 1) 0 with out := { c.out with staged := m } }

/-- The same edit of `count` consecutive outputs, where the range fits. -/
def Core.editRange (c : Core) (first count : Nat) (f : ChainSet → ChainSet) : Answer :=
  if count = 0 ∨ first + count > c.caps.outs then ans c .outOfRange
  else if c.outBusy then ans c .busy
  else
    ans (c.editOut ((List.range count).foldl (fun m i =>
      smSet (fun _ => {}) m (first + i) (f (chainSet m (first + i)))) c.out.staged)) .ok

def opOutchainBegin : Opc := { code := 0x0800, len := (· = 4) }

/-- OUTCHAIN_BEGIN (R285). -/
def outchainBeginBody : Body := fun c r =>
  if r.n 0 > 1 then ans c .badParam
  else if c.outBusy then ans c .busy
  else ans (c.editOut (if r.n 0 = 1 then c.out.live else [])) .ok

def opOutchainSet : Opc := { code := 0x0801, len := (· = 16) }

/-- TRIM lies within R285. −∞ is 0x8000. -/
def trimOk (t : Int) : Bool := t = -32768 || (decide (-10000 ≤ t) && decide (t ≤ 1200))

/-- OUTCHAIN_SET (R289). -/
def outchainSetBody : Body := fun c r =>
  let w := r.w 2
  let t := signed 16 w.toNat
  if bitsOf w 31 22 ≠ 0 then ans c .badParam
  else if !trimOk t ∨ r.n 3 > 8191 then ans c .outOfRange
  else
    c.editRange (r.n 0) (r.n 1) fun s =>
      { s with trim := t, h := bitsOf w 19 16, firEn := bitOf w 20, varnishEn := bitOf w 21, align := r.n 3 }

def opBiquadSet : Opc := { code := 0x0802, len := (16 ≤ ·) }

/-- Section i of a BIQUAD_SET; none where a word is not sign-extended or BYPASS has other bits. -/
def biquadOf (r : Req) (i : Nat) : Option Biquad :=
  let w := fun (k : Nat) => r.w (4 + 6 * i + k)
  if (w 0).toNat > 1 then none
  else do
    let b0 ← sext? 24 (w 1)
    let b1 ← sext? 24 (w 2)
    let b2 ← sext? 24 (w 3)
    let a1 ← sext? 24 (w 4)
    let a2 ← sext? 24 (w 5)
    some { bypass := bitOf (w 0) 0, b0 := b0, b1 := b1, b2 := b2, a1 := a1, a2 := a2 }

/-- BIQUAD_SET (R272, R289). -/
def biquadSetBody : Body := fun c r =>
  let first := r.n 2
  let n := r.n 3
  if n = 0 ∨ n > 16 ∨ first + n > 16 then ans c .outOfRange
  else if r.bytes.length ≠ 16 + 24 * n then ans c .badLength
  else
    match (List.range n).mapM (biquadOf r) with
    | none => ans c .badParam
    | some bs =>
      if !bs.all biquadOk then ans c .outOfRange
      else
        c.editRange (r.n 0) (r.n 1) fun s =>
          { s with sections := bs.zipIdx.foldl (fun m x => smSet (fun _ => {}) m (first + x.2) x.1) s.sections }

def opFirSet : Opc := { code := 0x0803, len := (· = 12) }

/-- FIR_SET (R289). -/
def firSetBody : Body := fun c r => c.editRange (r.n 0) (r.n 1) fun s => { s with firItem := r.n 2 }

def opVarnishSet : Opc := { code := 0x0804, len := (· = 24) }

/-- VARNISH_SET (R289). -/
def varnishSetBody : Body := fun c r =>
  match sext? 16 (r.w 2) with
  | none => ans c .badParam
  | some t =>
    if t < -4000 ∨ t > 0 ∨ r.n 3 > 1200 ∨ !inRange 1 2000 (r.n 4) ∨ r.n 5 > 63 then ans c .outOfRange
    else c.editRange (r.n 0) (r.n 1) fun s => { s with thresh := t, knee := r.n 3, release := r.n 4, link := r.n 5 }

def opOutchainGet : Opc := { code := 0x0809, len := (· = 8) }

/-- OUTCHAIN_GET (R289). -/
def outchainGetBody : Body := fun c r =>
  if r.n 1 > 1 then ans c .badParam
  else if r.n 0 ≥ c.caps.outs then ans c .outOfRange
  else
    let s := chainSet (if r.n 1 = 0 then c.out.live else c.out.staged) (r.n 0)
    okW c ([unsigned 16 s.trim + 2 ^ 16 * s.h + 2 ^ 20 * b2n s.firEn + 2 ^ 21 * b2n s.varnishEn, s.align] ++
      ((List.range 16).flatMap fun q =>
        let b := smGet (fun _ => {}) s.sections q
        [b2n b.bypass, w32 b.b0, w32 b.b1, w32 b.b2, w32 b.a1, w32 b.a2]) ++
      [s.firItem, w32 s.thresh, s.knee, s.release, s.link])

/-! ### OUTCHAIN_COMMIT (R286) -/

def opOutchainCommit : Opc := { code := 0x0808, len := (· = 0) }

/-- OUTCHAIN_COMMIT starts. -/
def outchainCommitBody : Body := fun c r =>
  if c.outBusy then ans c .busy
  else ans { c with out := { c.out with commit := some r.tok } } .accepted

/-- The outputs that some contribution of either bank of Palette 0 may feed (R286). -/
def countedOuts (k : Caps) (live staged : Layout) : List Nat :=
  ((live.paths k ++ staged.paths k).flatMap fun p => if p.slot.isSome then p.pos.map (·.1) else [p.out]).eraseDups

/-- The cores that a number of counted outputs need (R286). -/
def Core.chainCores (c : Core) (n : Nat) : Nat := ceilDiv n (if c.clk.mult = 1 ∨ c.clk.ll = 1 then 32 else 64)

/-- Whether the cores for the chains of two layouts are free beside everything else. -/
def Core.chainCoresFit (c : Core) (n : Nat) : Bool :=
  decide (c.chainCores n + c.coresElse 0 + c.brush.custom.length ≤ c.f F.HEALTH_CAPACITY_BRUSH)

/-- Step 1 of the commit for an output: its settings, and those of its link group (R286). -/
def chainFault (m : SMap ChainSet) (o : Nat) : Option Status :=
  let s := chainSet m o
  if !trimOk s.trim ∨ s.align > 8191 ∨ !(s.sections.all fun x => biquadOk x.2) then some .outOfRange
  else if s.firEn ∧ s.firItem = 0xFFFFFFFF then some .badParam
  else if s.link ≠ 0 ∧ m.any fun x => x.2.link = s.link &&
      decide ((x.2.thresh, x.2.knee, x.2.release) ≠ (s.thresh, s.knee, s.release)) then some .badParam
  else none

/-- Step 2 for an output: the item it names (R280, R286). -/
def Core.itemFault (c : Core) (s : ChainSet) : Option Status :=
  if s.firItem = 0xFFFFFFFF then none
  else
    match c.item? s.firItem with
    | none => some .badParam
    | some it =>
      if it.kind ≠ 1 then some .badParam
      else if !firFormat it.data then some .verifyFailed
      else if itemNat it.data 8 4 ≠ c.fsHz then some .outOfRange
      else none

/-- The first output for which a check fails. -/
def firstFault (q : Nat → Option Status) : List Nat → Option (Status × Nat)
  | [] => none
  | o :: t =>
    match q o with
    | some st => some (st, o)
    | none => firstFault q t

/-- The outcome of the checks of a bank: status, cores, counted outputs, step, output (R286). -/
def Core.outAdmit (c : Core) (m : SMap ChainSet) : Status × Nat × Nat × Nat × Nat :=
  let outs := m.map (·.1)
  match firstFault (chainFault m) outs with
  | some x => (x.1, c.f F.OUTPROC_STATUS_CORES, 0, 1, x.2)
  | none =>
    match firstFault (fun o => c.itemFault (chainSet m o)) outs with
    | some x => (x.1, c.f F.OUTPROC_STATUS_CORES, 0, 2, x.2)
    | none =>
      let n := (countedOuts c.caps c.scene.live c.scene.staged).length
      if !c.chainCoresFit n then (.noResource, c.f F.OUTPROC_STATUS_CORES, n, 3, 0xFFFFFFFF)
      else (.ok, c.chainCores n, n, 0, 0xFFFFFFFF)

/-- OUTCHAIN_COMMIT completes with its five words (R286). -/
def outchainCommitDone (c : Core) : Core :=
  match c.out.commit with
  | none => c
  | some t =>
    let a := c.outAdmit c.out.staged
    let c := { c with out := { c.out with commit := none } }
    let c := if a.1 = .ok then (c.setF (stagedReady 1) 1).setF F.OUTPROC_STATUS_CORES a.2.1 else c
    (c.raise F.OUTPROC_INT_STATUS_COMMIT_DONE).notice t a.1
      (natBytes [statusCode a.1, a.2.1, a.2.2.1, a.2.2.2.1, a.2.2.2.2])

/-! ### Mute (R283) -/

def opOutputMute : Opc := { code := 0x0810, timeable := true, len := (· = 12), eager := true }

/-- A mute request whose outputs are all done gives its notice. -/
def Core.muteDone (c : Core) : Core :=
  let done := c.out.mutes.filter fun q => q.todo.isEmpty && q.fading.isEmpty
  done.foldl (fun c q => c.notice q.tok .ok [])
    { c with out := { c.out with mutes := c.out.mutes.filter fun q => !(q.todo.isEmpty && q.fading.isEmpty) } }

/-- The checks of OUTPUT_MUTE, then its request for a boundary. -/
def Core.muteRequest (c : Core) (r : Req) (b : Nat) : Answer :=
  if r.n 2 > 1 then ans c .badParam
  else if r.n 1 = 0 ∨ r.n 0 + r.n 1 > c.caps.outs then ans c .outOfRange
  else
    let q : MuteReq := { b := b, mute := r.n 2 = 1, todo := (List.range (r.n 1)).map (· + r.n 0), tok := r.tok }
    ans { c with out := { c.out with mutes := c.out.mutes ++ [q] } } .accepted

/-- OUTPUT_MUTE (R283). -/
def outputMuteBody : Body := fun c r => c.muteRequest r (r.boundary c (c.boundaryAt (c.now + 2 * c.blk)))

/-- At B the mute state of an output changes and its fade starts; a running fade ends first, and an equal state changes
nothing. -/
def muteApply (o : Nat) (c : Core) : Core :=
  let n := c.boundaryAt c.now
  match c.out.mutes.find? fun q => q.todo.contains o with
  | none => c
  | some q =>
    if q.b > c.now ∨ (smGet (fun _ => none) c.out.fades o).isSome then c
    else
      let same := c.flag (muteBit o) = q.mute
      let q' := { q with todo := q.todo.erase o, fading := if same then q.fading else q.fading ++ [o] }
      let ms := c.out.mutes.map fun x => if x = q then q' else x
      let c := { c with out := { c.out with mutes := ms } }
      let c := if same then c
        else
          let c := c.setB (muteBit o) q.mute
          let fs := smSet (fun _ => none) c.out.fades o (some (q.mute, n, c.glaze))
          { c with out := { c.out with fades := fs } }
      c.muteDone

/-- A mute fade has ended. -/
def muteFadeEnd (o : Nat) (c : Core) : Core :=
  match smGet (fun _ => none) c.out.fades o with
  | none => c
  | some (_, a, g) =>
    if a + g > c.now then c
    else
      let fs := smSet (fun _ => none) c.out.fades o none
      let ms := c.out.mutes.map fun (q : MuteReq) => { q with fading := q.fading.erase o }
      let c := { c with out := { c.out with fades := fs, mutes := ms } }
      (c.raise F.OUTPROC_INT_STATUS_MUTE_DONE).muteDone

/-! ### Meters and the clip record (R284) -/

def opOutchainMeters : Opc := { code := 0x0811, len := (· = 8) }

/-- OUTCHAIN_METERS_GET (R289): the counters are cleared as by an RC read. -/
def outchainMetersBody : Body := fun c r =>
  if r.n 1 = 0 ∨ r.n 0 + r.n 1 > c.caps.outs then ans c .outOfRange
  else
    let outs := (List.range (r.n 1)).map (· + r.n 0)
    (outs.foldl (fun c o => (c.put (R.OUTPROC_GR o) 0).put (R.OUTPROC_CLIP o) 0) c, .ok,
      natBytes (outs.flatMap fun o => [(c.get (R.OUTPROC_GR o)).toNat, (c.get (R.OUTPROC_CLIP o)).toNat]))

/-- A write of OUTPROC_LAST_CLIP: CLEAR clears the record (R284). -/
def lastClipClear (m : Nat) (v : Word) (c : Core) : Core :=
  c.busWrite ⟨m, R.OUTPROC_LAST_CLIP, v⟩ 0 fun c => if bitOf v 30 then c.put R.OUTPROC_LAST_CLIP 0 else c

end Sys2Proof.Machine
end

