-- ==== Sys2Proof/Machine/Pdm.lean ====
section
/-! DEFINITION. The PDM decimation chains and the detectors of the Survey channels (R290 to R298). -/

namespace Sys2Proof.Machine

/-! ### Modes (R292) -/

/-- F_c in Hz: 48 kHz for the 44.1 kHz family. -/
def Core.pdmFc (c : Core) : Nat := if c.clk.family = 1 then 48000 else c.fsHz

/-- A chain, and its change. -/
def Core.pdm (c : Core) (n : Nat) : PdmChain := smGet (fun _ => {}) c.survey.pdm n
def Core.setPdm (c : Core) (n : Nat) (x : PdmChain) : Core :=
  { c with survey := { c.survey with pdm := smSet (fun _ => {}) c.survey.pdm n x } }

/-- D1 as its code: 0 for 4, 1 for 8, 2 for 16 (R292). -/
def Core.pdmMode (c : Core) (n : Nat) : Nat :=
  c.f (F.PDM_CLK_CTRL_RATE (n / 4)) + (if c.clk.family = 0 ∧ c.clk.mult = 1 then 0 else 1)

/-- Whether a chain runs: enabled, on a running clock, its block not gated, and below 192 kHz (R291, R335). -/
def Core.pdmRuns (c : Core) (n : Nat) : Bool :=
  c.flag (F.PDM_CH_CTRL_EN n) && c.flag (F.PDM_CLK_CTRL_EN (n / 4)) && !c.gated R.PDM_STATUS && c.clk.mult ≠ 2

/-- The settings with which a chain runs, none where it does not: clock rate, D1 code and F_c. -/
def Core.pdmWant (c : Core) (n : Nat) : Option (Nat × Nat × Nat) :=
  if c.pdmRuns n then some (c.f (F.PDM_CLK_CTRL_RATE (n / 4)), c.pdmMode n, c.pdmFc) else none

/-- The settling hold of a chain in samples at F_c (R296). -/
def Core.pdmHold (c : Core) (n : Nat) : Nat := c.f (F.PDM_CH_CTRL_WAKE n) * c.pdmFc / 1000 + 64

/-- A chain whose settings have changed starts again at the present block boundary; firmware writes D1, and SH_CIC when D1
changes (R292, R293, R296, R335). -/
def Core.pdmTurn (c : Core) (n : Nat) : Core :=
  let want := c.pdmWant n
  let d1 := c.pdmMode n
  let c := if c.clk.mult ≠ 2 ∧ d1 ≠ c.f (F.PDM_CH_CTRL_D1 n) then
      (c.setF (F.PDM_CH_CTRL_D1 n) d1).setF (F.PDM_CH_CTRL_SH_CIC n) (23 - 5 * (d1 + 2))
    else c
  if want = (c.pdm n).run then c
  else
    let x : PdmChain := { run := want, hold := if want.isSome then some (c.pdmHold n) else none }
    (c.setPdm n x).setF ⟨R.PDM_STATUS, n, n⟩ 0

/-! ### Stages (R293) -/

/-- Running sums of a value through the integrators, 32-bit wrapping. -/
def integrate : Int → List Int → List Int
  | _, [] => []
  | v, a :: t => let b := wrap 32 (a + v); b :: integrate b t

/-- Differences of a value through the combs, 32-bit wrapping: the result and the combs after. -/
def combChain : Int → List Int → Int × List Int
  | v, [] => (v, [])
  | v, p :: t => let r := combChain (wrap 32 (v - p)) t; (r.1, v :: r.2)

/-- Taps times samples. -/
def dotTaps (taps xs : List Int) : Int := (List.zipWith (· * ·) taps xs).foldl (· + ·) 0

/-- The halfband taps (R293). -/
def hb1Taps : List Int := [-1, 0, 9, 16, 9, 0, -1]
def hb2Taps : List Int := [3, 0, -25, 0, 150, 256, 150, 0, -25, 0, 3]

/-- The 63 FIR taps in use (R293). -/
def Core.pdmFir (c : Core) : List Int :=
  (List.range 63).map fun k => signed 24 (c.f (F.PDM_FIR_COEF_COEF (if k ≤ 31 then k else 62 - k)))

/-- A saturated value, and 1 where it saturated. -/
def satCount (v : Int) : Int × Nat := (sat 24 v, b2n (decide (sat 24 v ≠ v)))

/-- A sample at 2 F_c enters the FIR; every second one gives a sample at F_c. -/
def firStage (fir : List Int) (shOut : Nat) (x : PdmChain) (v : Int) : PdmChain × Nat :=
  let h := (v :: x.fir).take 63
  if x.par3 = 0 then ({ x with fir := h, par3 := 1 }, 0)
  else
    let y := satCount (rshr 23 (dotTaps fir h) * 2 ^ shOut)
    ({ x with fir := h, par3 := 0, fifo := x.fifo ++ [y.1], hold := x.hold.map (· - 1) }, y.2)

/-- A sample at 4 F_c enters HB2. -/
def hb2Stage (fir : List Int) (shOut : Nat) (x : PdmChain) (v : Int) : PdmChain × Nat :=
  let h := (v :: x.hb2).take 11
  if x.par2 = 0 then ({ x with hb2 := h, par2 := 1 }, 0)
  else
    let y := satCount (rshr 9 (dotTaps hb2Taps h))
    let r := firStage fir shOut { x with hb2 := h, par2 := 0 } y.1
    (r.1, r.2 + y.2)

/-- A sample at 8 F_c enters HB1. -/
def hb1Stage (fir : List Int) (shOut : Nat) (x : PdmChain) (v : Int) : PdmChain × Nat :=
  let h := (v :: x.hb1).take 7
  if x.par1 = 0 then ({ x with hb1 := h, par1 := 1 }, 0)
  else
    let y := satCount (rshr 5 (dotTaps hb1Taps h))
    let r := hb2Stage fir shOut { x with hb1 := h, par1 := 0 } y.1
    (r.1, r.2 + y.2)

/-- One bit of an input enters its chain: the chain after, and the samples that saturated. -/
def pdmBit (d1 shCic shOut : Nat) (fir : List Int) (x : PdmChain) (bit : Bool) : PdmChain × Nat :=
  let integ := integrate (if bit then 1 else -1) x.integ
  if x.bits + 1 < d1 then ({ x with integ := integ, bits := x.bits + 1 }, 0)
  else
    let k := combChain (integ.getD 4 0) x.comb
    let y := satCount (k.1 * 2 ^ shCic)
    let r := hb1Stage fir shOut { x with integ := integ, bits := 0, comb := k.2 } y.1
    (r.1, r.2 + y.2)

/-! ### The resampler (R295) -/

/-- I₀ by its power series: the sum from term k, with the term in hand. -/
def besselSeries (q : Fx) : Nat → Nat → Fx → Fx
  | 0, _, _ => 0
  | n + 1, k, t => t + besselSeries q n (k + 1) (fdiv (fmul t q) (((k + 1) * (k + 1) : Nat) * one))

/-- The modified Bessel function I₀. -/
def besselI0 (z : Fx) : Fx := besselSeries (fmul z z / 4) 60 0 one

/-- The prototype g(x) at x = n / 256 input samples (R295). -/
def prototype (n : Int) : Fx :=
  let x := fx n 256
  let u := fdiv x (16 * one)
  let win := fdiv (besselI0 (9 * fsqrt (max 0 (one - fmul u u)))) (besselI0 (9 * one))
  let s := if n = 0 then one else fdiv (sinTurn (5 * n) (12 * 256)) (fmul fpi (fx (5 * n) (6 * 256)))
  fmul (fmul (fx 5 6) s) win

/-- Tap k of phase p, in Q1.23. -/
def phaseTap (p k : Nat) : Int := roundFx 23 (prototype (256 * ((k : Int) - 16) + p))

/-- STEP at a measured offset (R295). -/
def resampleStep (offset : Int) : Nat := (roundDiv (2 ^ 24 * 48000 * 10 ^ 9) (44100 * (10 ^ 9 + offset)).toNat).toNat

/-- An output sample at a fraction of the accumulator, over a history with the newest sample first. -/
def resampleAt (hist : List Int) (frac : Nat) : Int :=
  let p := frac / 65536
  let f : Int := (frac % 65536 : Nat)
  let y := fun (q : Nat) => (List.range 32).foldl (fun a k => a + phaseTap q k * hist.getD k 0) 0
  sat 24 (rshr 39 (y p * (65536 - f) + y (p + 1) * f))

/-- The next output sample: the accumulator goes on by STEP and the history by its integer part. -/
def resampleNext (step : Nat) (x : PdmChain) : Int × PdmChain :=
  let a := x.frac + step
  let n := a / 2 ^ 24
  let hist := ((x.fifo.take n).reverse ++ List.replicate (n - x.fifo.length) 0 ++ x.hist).take 32
  let x := { x with fifo := x.fifo.drop n, hist := hist, frac := a % 2 ^ 24 }
  (resampleAt hist x.frac, x)

/-- `n` output samples. -/
def resampleMany (step : Nat) : Nat → PdmChain → List Int × PdmChain
  | 0, x => ([], x)
  | n + 1, x => let y := resampleNext step x; let r := resampleMany step n y.2; (y.1 :: r.1, r.2)

/-! ### A block of a chain -/

/-- The weight of a chain's output at a sample count: the hold, the fade in after it, the fade of a stuck input (R296,
R297). -/
def PdmChain.weight (x : PdmChain) (blk n : Nat) : Int :=
  if x.hold.isSome then 0
  else if x.stuck then
    match x.stuckAt with
    | some a => if n < a then 2 ^ 23 else wOut (n - a) blk
    | none => 0
  else
    match x.fadeAt with
    | some (a, g) => if n < a then 0 else wIn (n - a) g
    | none => 0

/-- The bits that an input has shown in the block that begins at count b pass its chain, and the chain delivers a block. -/
def Core.pdmBlock (c : Core) (n b : Nat) (bits : List Bool) : Core :=
  let c := c.pdmTurn n
  let x := c.pdm n
  if x.run.isNone then c
  else
    let d1 := 2 ^ (c.f (F.PDM_CH_CTRL_D1 n) + 2)
    let fir := c.pdmFir
    let shOut := min 12 (c.f (F.PDM_CH_CTRL_SH_OUT n))
    let r := bits.foldl (fun a bit =>
      let y := pdmBit d1 (c.f (F.PDM_CH_CTRL_SH_CIC n)) shOut fir a.1 bit
      (y.1, a.2 + y.2)) (x, 0)
    let blk := c.blk
    let d := if c.clk.family = 1 then resampleMany (resampleStep (c.fs F.CLK_DPLL_OFFSET_OFFSET)) blk r.1
      else (r.1.fifo.take blk ++ List.replicate (blk - r.1.fifo.length) 0, { r.1 with fifo := r.1.fifo.drop blk })
    let ys := d.1.zipIdx.map fun y => let w := d.2.weight blk (b + y.2); if w = 2 ^ 23 then y.1 else weighted w y.1
    let c := c.setPdm n { d.2 with out := ys }
    if r.2 = 0 then c else (c.countN (R.PDM_SAT n) r.2).raise F.PDM_INT_STATUS_CHAIN_SAT

/-- All chains for the block that begins at count b (R336). -/
def Core.pdmBlocks (c : Core) (b : Nat) (bits : List (List Bool)) : Core :=
  let c := c.put R.PDM_RESAMPLE_STEP (if c.clk.family = 1 then .ofNat 32 (resampleStep (c.fs F.CLK_DPLL_OFFSET_OFFSET)) else 0)
  (List.range 16).foldl (fun c n => c.pdmBlock n b (bits.getD n [])) c

/-- The settling hold of a chain is over: it fades in and SETTLED is raised (R296). -/
def pdmHoldEnd (n : Nat) (c : Core) : Core :=
  let x := c.pdm n
  if x.hold ≠ some 0 ∨ n ≥ 16 then c
  else
    ((c.setPdm n { x with hold := none, fadeAt := some (c.now, c.glaze) }).setF ⟨R.PDM_STATUS, n, n⟩ 1).raise
      F.PDM_INT_STATUS_SETTLED

/-- An input has shown no transition for 4,096 clock periods (R297). -/
def pdmStuck (n : Nat) (c : Core) : Core :=
  let x := c.pdm n
  if n ≥ 16 ∨ x.run.isNone ∨ x.stuck then c
  else
    let c := (c.setPdm n { x with stuck := true, stuckAt := some c.now }).setF ⟨R.PDM_STATUS, n, n⟩ 0
    ((c.setF ⟨R.PDM_STATUS, 16 + n, 16 + n⟩ 1).count R.PDM_STUCK_COUNT).raise F.PDM_INT_STATUS_STUCK

/-- Transitions have returned on a stuck input: the settling hold starts again (R297). -/
def pdmTransitionsReturn (n : Nat) (c : Core) : Core :=
  let x := c.pdm n
  if n ≥ 16 ∨ !x.stuck then c
  else
    (c.setPdm n { x with stuck := false, stuckAt := none, fadeAt := none, hold := some (c.pdmHold n) }).setF
      ⟨R.PDM_STATUS, 16 + n, 16 + n⟩ 0

/-- A function reset of Survey or a restart clears the chains; each starts again with its hold (R128). -/
def Core.pdmClear (c : Core) : Core :=
  { c with survey := { c.survey with pdm := [] } }.setF F.PDM_STATUS_SETTLED 0

/-! ### Detectors (R298) -/

/-- The envelope's factor of a time constant in ms, in Q0.16. -/
def envFactor (fs ms : Nat) : Int := roundFx 16 (one - fexp (-(fx 1000 (fs * ms))))

/-- The envelope after a sample. -/
def envNext (fs attack release : Nat) (e : Nat) (x : Int) : Nat :=
  let m : Int := x.natAbs
  let k := envFactor fs (if m > e then attack else release)
  ((e : Int) + rshr 16 (k * (m - e))).toNat

/-- The detectors of a channel take its block. -/
def Core.detect (c : Core) (n : Nat) : Core :=
  let xs := blockOf c.blk (smGet (fun _ => []) c.survey.chan n)
  let at_ := max 1 (c.f F.SURVEY_DET_CTRL_ATTACK)
  let rel := max 1 (c.f F.SURVEY_DET_CTRL_RELEASE)
  let peak := xs.foldl (fun a x => max a x.natAbs) (c.f (F.SURVEY_DET_PEAK_PEAK n))
  let env := xs.foldl (fun e x => envNext c.fsHz at_ rel e x) (c.f (F.SURVEY_DET_ENV_ENV n))
  let r := smGet (fun _ => (0, 0)) c.survey.rms n
  let r' := (r.1 + xs.foldl (fun a x => a + x.natAbs * x.natAbs) 0, r.2 + xs.length)
  let c := (c.setF (F.SURVEY_DET_PEAK_PEAK n) (min peak (2 ^ 24 - 1))).setF (F.SURVEY_DET_ENV_ENV n) (min env (2 ^ 24 - 1))
  { c with survey := { c.survey with rms := smSet (fun _ => (0, 0)) c.survey.rms n r' } }

/-- The detectors of all channels. -/
def Core.detectAll (c : Core) : Core := if c.clk.mult = 2 then c else (List.range 16).foldl Core.detect c

/-- The samples of an RMS window. -/
def Core.rmsLen (c : Core) : Nat := 2 ^ (10 + min 6 (c.f F.SURVEY_DET_CTRL_RMS_WIN))

/-- The RMS window of a channel is complete (R298). -/
def detectorRmsWindow (n : Nat) (c : Core) : Core :=
  let r := smGet (fun _ => (0, 0)) c.survey.rms n
  if n ≥ 16 ∨ r.2 < c.rmsLen then c
  else
    let c := c.setF (F.SURVEY_DET_RMS_RMS n) (isqrt (r.1 / r.2))
    { c with survey := { c.survey with rms := smSet (fun _ => (0, 0)) c.survey.rms n (0, 0) } }

/-- Opcodes of class 0x07xx are refused at 192 kHz (R291). -/
def surveyBody (b : Body) : Body := fun c r => if c.clk.mult = 2 then ans c .notPermitted else b c r

def opDetectorGet : Opc := { code := 0x0740, len := (· = 0) }

/-- DETECTOR_GET (R320): the read clears PEAK. -/
def detectorGetBody : Body := surveyBody fun c _ =>
  ((List.range 16).foldl (fun c n => c.put (R.SURVEY_DET_PEAK n) 0) c, .ok,
    natBytes ((List.range 16).flatMap fun n =>
      [c.f (F.SURVEY_DET_PEAK_PEAK n), c.f (F.SURVEY_DET_RMS_RMS n), c.f (F.SURVEY_DET_ENV_ENV n)]))

def opDetectorConfig : Opc := { code := 0x0741, len := (· = 4) }

/-- DETECTOR_CONFIG (R320). -/
def detectorConfigBody : Body := surveyBody fun c r =>
  let w := r.w 0
  if bitsOf w 7 3 ≠ 0 ∨ bitsOf w 31 28 ≠ 0 then ans c .badParam
  else if bitsOf w 2 0 > 6 ∨ bitsOf w 15 8 = 0 ∨ bitsOf w 27 16 = 0 then ans c .outOfRange
  else ans (c.put R.SURVEY_DET_CTRL w) .ok

def opPdmConfig : Opc := { code := 0x0750, len := (· = 68) }

/-- PDM_CONFIG (R320): D1 is firmware's. -/
def pdmConfigBody : Body := surveyBody fun c r =>
  let clk := r.w 0
  let bad := (List.range 16).any fun n => (r.n (1 + n)) &&& 0xFF00F008 ≠ 0
  if clk.toNat &&& 0xFFFFCCCC ≠ 0 ∨ bad then ans c .badParam
  else
    let c := c.put R.PDM_CLK_CTRL clk
    ans ((List.range 16).foldl (fun c n =>
      let d := c.f (F.PDM_CH_CTRL_D1 n)
      (c.put (R.PDM_CH_CTRL n) (r.w (1 + n))).setF (F.PDM_CH_CTRL_D1 n) d) c) .ok

def opPdmFirLoad : Opc := { code := 0x0751, len := (· = 128) }

/-- PDM_FIR_LOAD (R293, R320). -/
def pdmFirLoadBody : Body := surveyBody fun c r =>
  if (List.range 32).any fun k => (sext? 24 (r.w k)).isNone then ans c .badParam
  else if (List.range 16).any fun n => c.flag (F.PDM_CH_CTRL_EN n) then ans c .notPermitted
  else ans ((List.range 32).foldl (fun c k => c.put (R.PDM_FIR_COEF k) (r.w k)) c) .ok

end Sys2Proof.Machine
end

