-- ==== Sys2Proof/Machine/Measure.lean ====
section
/-! DEFINITION. Survey measurements, their results and the design of correction filters (R299 to R306), with the Survey log's
gathering of records (R318). -/

namespace Sys2Proof.Machine

/-! ### The log's gathering of records (R318) -/

/-- The running policy: 0 OFF, 1 PROPOSE, 2 APPLY. -/
def Core.policy (c : Core) : Nat := c.f F.SURVEY_STATUS_POLICY

/-- A Survey log record is gathered; under VIN_WARN 1,024 are held and the rest dropped. -/
def Core.surveyLog (c : Core) (x : SurveyLog) : Core :=
  if c.flag F.SYS_STATUS_VIN_WARN ∧ c.survey.logHeld.length ≥ 1024 then
    (c.count R.SURVEY_LOG_DROP).raise F.SURVEY_INT_STATUS_LOG_DROP
  else
    let x := { x with policy := c.policy, temp := c.f F.SURVEY_TEMP_TEMP }
    { c with survey := { c.survey with logHeld := c.survey.logHeld ++ [x] } }

/-- A record of a kind, at the present count. -/
def Core.surveyNote (c : Core) (kind out : Nat) : Core := c.surveyLog { count := c.now, kind := kind, policy := 0, out := out }

/-! ### Logarithms and transforms -/

/-- 10 log₁₀ of a number, in units of 0.01, limited below by −32,768. -/
def centiBel (x : Fx) : Int := if x ≤ 0 then -32768 else max (-32768) (roundFx 0 (fdiv (1000 * flog x) fln10))

/-- 10 log₁₀ of a number. -/
def decibel (x : Fx) : Fx := fdiv (10 * flog x) fln10

/-- A complex number. -/
abbrev Cf := Fx × Fx

/-- Bin k of the N-point transform of a sequence of real numbers. -/
def dftBin (n : Nat) (x : List Fx) (k : Nat) : Cf :=
  x.zipIdx.foldl (fun a y =>
    (a.1 + fmul y.1 (cosTurn ((y.2 * k : Nat) : Int) n), a.2 - fmul y.1 (sinTurn ((y.2 * k : Nat) : Int) n))) (0, 0)

/-- Sample t of the inverse N-point transform of a spectrum, its real part. -/
def idftAt (n : Nat) (xs : List Cf) (t : Int) : Fx :=
  (xs.zipIdx.foldl (fun a y =>
    a + fmul y.1.1 (cosTurn (t * y.2) n) - fmul y.1.2 (sinTurn (t * y.2) n)) 0) / (n : Int)

/-- |z|². -/
def cNorm (z : Cf) : Fx := fmul z.1 z.1 + fmul z.2 z.2

/-- y times the conjugate of x. -/
def cCross (y x : Cf) : Cf := (fmul y.1 x.1 + fmul y.2 x.2, fmul y.2 x.1 - fmul y.1 x.2)

/-- The next power of two. -/
def nextPow2 (n : Nat) : Nat := if n ≤ 1 then 1 else 2 ^ ((n - 1).log2 + 1)

/-- A 24-bit sample as a fraction of full scale. -/
def sampleFx (x : Int) : Fx := x * 2 ^ 73

/-! ### Impulse responses (R301) -/

/-- The responses of a sweep or noise: deconvolution of the whole turn's capture. -/
def deconvolve (x y : List Int) (taps : Nat) : List Fx :=
  let n := nextPow2 x.length
  let bx := (List.range n).map (dftBin n (x.map sampleFx))
  let bye := (List.range n).map (dftBin n (y.map sampleFx))
  let eps := (bx.foldl (fun a z => max a (cNorm z)) 0) / 10 ^ 6
  let h := List.zipWith (fun (u v : Cf) =>
    let z := cCross v u
    let d := cNorm u + eps
    (fdiv z.1 d, fdiv z.2 d)) bx bye
  (List.range taps).map fun (t : Nat) => idftAt n h t

/-- The response of an MLS measurement: the mean of the periods after the first, correlated with the sequence. -/
def mlsResponse (m : Meas) (y : List Int) (taps : Nat) : List Fx :=
  let p := m.unitLen
  (List.range taps).map fun n =>
    let s := (List.range p).foldl (fun a k =>
      let v := (List.range m.repeats).foldl (fun b r => b + y.getD (p * (r + 1) + (k + n) % p) 0) 0
      a + (if mlsBit m.p1 k then v else -v)) 0
    fx s (m.repeats * m.peak.toNat * (p + 1))

/-- The taps of a measured response before rounding. -/
def Meas.response (m : Meas) (x y : List Int) : List Fx :=
  if m.kind = 3 then mlsResponse m y 16384 else deconvolve x y 16384

/-! ### Result values (R302) -/

/-- D_chain in units of 2⁻¹⁶ sample at F_c, by D1 code (R294). -/
def chainDelay (d1 : Nat) : Nat := if d1 = 0 then 1137664 else if d1 = 1 then 1140224 else 1141504

/-- The delay of a channel's source that ARRIVAL leaves out, in units of 2⁻¹⁶ media sample: D_chain and the resampler for a PDM
source (source codes 0x900 to 0x90F). -/
def Core.sourceDelay (c : Core) (ch : Nat) : Nat :=
  let s := smGet (fun _ => 0) c.survey.srcs ch
  if 0x900 ≤ s ∧ s ≤ 0x90F then
    let d := chainDelay (c.f (F.PDM_CH_CTRL_D1 (s - 0x900)))
    if c.clk.family = 1 then ((d + 16 * 65536) * 44100 + 24000) / 48000 else d
  else 0

/-- The first local maximum of |h| at or after a tap. -/
def localMax (h : List Nat) : Nat → Nat → Nat
  | 0, n => n
  | k + 1, n => if h.getD (n + 1) 0 > h.getD n 0 then localMax h k (n + 1) else n

/-- ARRIVAL of a response before the delays are subtracted, in units of 2⁻¹⁶ sample. -/
def arrivalOf (h : List Int) : Int :=
  let a := h.map Int.natAbs
  let top := a.foldl max 0
  if top = 0 then 0
  else
    let n0 := (a.zipIdx.find? fun x => 10 * x.1 ≥ top).map (·.2) |>.getD 0
    let n := localMax a a.length n0
    let p : Int := a.getD (n - 1) 0
    let q : Int := a.getD n 0
    let r : Int := a.getD (n + 1) 0
    let den := 2 * (2 * q - p - r)
    n * 65536 + (if n = 0 ∨ den ≤ 0 then 0 else roundDiv ((r - p) * 65536) den.toNat)

/-- 2 to the power n / d. -/
def pow2 (n : Int) (d : Nat) : Fx := fexp (fmul (fx n d) 54916777467707473351141471128)

/-- The edges and the centre of band b in Hz: 20 × 2^(n/48) (R302). -/
def bandEdge (n : Nat) : Fx := 20 * pow2 n 48

/-- The bins of an N-point transform at a rate that lie in band b, or the nearest to its centre (R302). -/
def bandBins (n fs b : Nat) : List Nat :=
  let f := fun (k : Nat) => fx (k * fs) n
  let ks := (List.range (n / 2)).filter fun k => decide (bandEdge (2 * b) ≤ f k ∧ f k < bandEdge (2 * b + 2))
  if ks.isEmpty then [(roundFx 0 (fdiv (n * bandEdge (2 * b + 1)) (fs * one))).toNat] else ks

/-- The 240 band values of a response, in 0.01 dB (R302). -/
def bandValues (fs : Nat) (h : List Int) : List Int :=
  (List.range 240).map fun b =>
    let ks := bandBins 65536 fs b
    centiBel ((ks.foldl (fun a k => a + cNorm (dftBin 65536 (h.map sampleFx) k)) 0) / (ks.length : Int))

/-- Whether the response stands less than 20 dB above its end (R302, LOW_SNR). -/
def lowSnr (h : List Int) : Bool :=
  let top := h.foldl (fun a x => max a x.natAbs) 0
  let e := (h.drop 15360).foldl (fun a x => a + x.natAbs * x.natAbs) 0
  decide (top * top * 1024 < 100 * e)

/-- The result of a turn for a channel (R301, R302). -/
def Core.resultOf (c : Core) (m : Meas) (turn : Nat) (cap : SMap (List Int)) (full silent : Nat) (ch : Nat) : SurveyResult :=
  let x := smGet (fun _ => []) cap 16
  let y := smGet (fun _ => []) cap ch
  let raw := (m.response x y).zipIdx.map fun v => withDev [6, turn, ch, v.2, v.1] 1 (roundFx 23 v.1)
  let h := raw.map (sat 24)
  let arrival := arrivalOf h - 16 * 65536 - (c.sourceDelay ch : Int)
  { arrival := arrival.toNat
    level := centiBel (h.foldl (fun a v => a + fmul (sampleFx v) (sampleFx v)) 0)
    flags := b2n (decide (raw ≠ h) || full / 2 ^ ch % 2 = 1) + 2 * b2n (lowSnr h) + 4 * (silent / 2 ^ 16 % 2) +
      8 * (silent / 2 ^ ch % 2)
    bands := bandValues c.fsHz h
    taps := h }

/-! ### A measurement (R303) -/

/-- The measurement changes; MEAS follows: 1 while turns play, 2 while results are due, 3 while only a design runs. -/
def Core.setMeas (c : Core) (m : Option Meas) : Core :=
  let v := match m with
    | some x => if x.turn.isSome then 1 else if x.backAt.isSome ∨ x.b ≤ c.now then 2 else 0
    | none => if c.survey.design.isSome then 3 else 0
  { c.setF F.SURVEY_STATUS_MEAS v with survey := { c.survey with meas := m } }

def opSurveyStatus : Opc := { code := 0x0700, len := (· = 0) }

/-- SURVEY_STATUS_GET (R320). -/
def surveyStatusBody : Body := fun c _ =>
  let n := match c.survey.meas with
    | some m => (m.done, m.outs.length)
    | none => (0, 0)
  okW c [(c.get R.SURVEY_STATUS).toNat, (c.get R.SURVEY_TEMP).toNat, (c.get R.PDM_STATUS).toNat, n.1, n.2]

def opMeasureStart : Opc := { code := 0x0701, timeable := true, len := (44 ≤ ·), eager := true }

/-- Whether the parameters of an excitation lie in their ranges (R299). -/
def Meas.ranges (m : Meas) (fs : Nat) : Bool :=
  decide (-6000 ≤ m.level ∧ m.level ≤ -300) && inRange 1 0xFFFF m.mic && inRange 1 16 m.repeats &&
    inRange 16384 262144 m.gap &&
    (match m.kind with
     | 0 => decide (10 ≤ m.p1 ∧ 2 * m.p1 ≤ m.p2 ∧ 20 * m.p2 ≤ 9 * fs) && inRange 15 20 m.p3
     | 1 => inRange 15 20 m.p1 && m.p2 ≠ 0
     | 3 => inRange 15 18 m.p1
     | _ => false) && decide (m.turnLen ≤ 2 ^ 21)

/-- MEASURE_START (R299, R303, R319). -/
def measureStartBody : Body := surveyBody fun c r =>
  let n := r.n 9
  if n = 0 ∨ n > 512 then ans c .outOfRange
  else if r.bytes.length ≠ 40 + 4 * n then ans c .badLength
  else
    match sext? 16 (r.w 1) with
    | none => ans c .badParam
    | some level =>
      let outs := (List.range n).map fun i => r.n (10 + i)
      let m : Meas :=
        { kind := r.n 0, level := level, post := bitOf (r.w 2) 0, muteOthers := bitOf (r.w 2) 1, mic := r.n 3
          repeats := r.n 4, p1 := r.n 5, p2 := r.n 6, p3 := r.n 7, gap := r.n 8, outs := outs, tok := r.tok
          b := r.boundary c c.anchorB, g := c.glaze }
      if r.n 2 > 3 ∨ outs.eraseDups.length ≠ n then ans c .badParam
      else if !m.ranges c.fsHz ∨ outs.any (fun o => o ≥ c.caps.outs) then ans c .outOfRange
      else if c.survey.meas.isSome then ans c .busy
      else ans (c.setMeas (some m)) .accepted

/-- At anchor B the first turn starts. -/
def measureBegin (c : Core) : Core :=
  match c.survey.meas with
  | some m =>
    if m.turn.isNone ∧ m.done = 0 ∧ m.waiting.isEmpty ∧ m.backAt.isNone ∧ m.b ≤ c.now then
      c.setMeas (some { m with turn := some (0, c.boundaryAt c.now) })
    else c
  | none => c

/-- A mask of the channels that a map marks. -/
def maskOf (m : SMap Bool) : Nat := m.foldl (fun a x => if x.2 then a + 2 ^ x.1 else a) 0

/-- A turn ends: the next one starts at the first block boundary, or the outputs fade their programme back in. -/
def measureTurnEnd (c : Core) : Core :=
  match c.survey.meas with
  | some m =>
    match m.turn with
    | some (k, at_) =>
      if at_ + m.turnLen > c.now then c
      else
        let n := c.boundaryAt c.now
        let cap := m.cap.map fun x => (x.1, x.2.reverse.take m.turnLen)
        let more := k + 1 < m.outs.length
        let m := { m with
          waiting := m.waiting ++ [(k, cap, maskOf m.full, maskOf m.silent + 2 ^ 16 * b2n m.muted)]
          cap := [], full := [], silent := [], muted := false
          turn := if more then some (k + 1, n) else none
          backAt := if more then m.backAt else some n }
        c.setMeas (some m)
    | none => c
  | none => c

/-- The results of a finished turn are complete. -/
def turnResultsDone (c : Core) : Core :=
  match c.survey.meas with
  | some m =>
    match m.waiting with
    | [] => c
    | (k, cap, full, silent) :: t =>
      let o := m.outs.getD k 0
      let chs := (List.range 16).filter fun ch => m.mic / 2 ^ ch % 2 = 1
      let rs := chs.foldl (fun (rs : SMap (Option SurveyResult)) ch =>
        smSet (fun _ => none) rs (16 * o + ch) (some (c.resultOf m k cap full silent ch))) c.survey.results
      ({ c with survey := { c.survey with results := rs } }).setMeas (some { m with waiting := t, done := m.done + 1 })
  | none => c

/-- A measurement ends with its notice: the status and the turns completed. -/
def Core.measureOver (c : Core) (m : Meas) (st : Status) : Core :=
  let c := ((c.setMeas none).surveyNote 11 0xFFFF).raise F.SURVEY_INT_STATUS_MEAS_DONE
  c.notice m.tok st (natBytes [statusCode st, m.done])

/-- The measurement is complete once the programme is back and every result is there. -/
def measureComplete (c : Core) : Core :=
  match c.survey.meas with
  | some m =>
    match m.backAt with
    | some k => if k + m.g ≤ c.now ∧ m.waiting.isEmpty then c.measureOver m (if m.aborted then .aborted else .ok) else c
    | none => c
  | none => c

/-- A measurement ends at once with ABORTED: a function reset, mute and hold, standby or a MEDIA restart (R319). -/
def Core.measureStop (c : Core) : Core :=
  match c.survey.meas with
  | some m => c.measureOver m .aborted
  | none => c

def opMeasureAbort : Opc := { code := 0x0702, len := (· = 0) }

/-- MEASURE_ABORT (R320): the measurement ends at step 4 of R303. -/
def measureAbortBody : Body := surveyBody fun c _ =>
  match c.survey.meas with
  | none => ans c .notPermitted
  | some m =>
    if m.backAt.isSome then ans (c.setMeas (some { m with aborted := true })) .ok
    else ans (c.setMeas (some { m with aborted := true, turn := none, cap := [], backAt := some c.nextB })) .ok

/-- Whether a channel's samples do not come from its source: muted for a non-PCM payload, or a PDM input that is stuck or has
not settled (R302). -/
def Core.channelSilent (c : Core) (ch : Nat) : Bool :=
  let s := smGet (fun _ => 0) c.survey.srcs ch
  smGet (fun _ => false) c.survey.muted ch ||
    (decide (0x900 ≤ s ∧ s ≤ 0x90F) && !c.flag ⟨R.PDM_STATUS, s - 0x900, s - 0x900⟩)

/-- The capture of a turn takes a block that begins at count b: the feed and the recorded channels (R303). -/
def Core.measureBlock (c : Core) (b : Nat) : Core :=
  match c.survey.meas with
  | some m =>
    match m.turn with
    | some (k, at_) =>
      if b < at_ then c
      else
        let o := m.outs.getD k 0
        let push := fun (cap : SMap (List Int)) (i : Nat) (xs : List Int) =>
          smSet (fun _ => []) cap i ((blockOf c.blk xs).reverse ++ smGet (fun _ => []) cap i)
        let chs := (List.range 16).filter fun ch => m.mic / 2 ^ ch % 2 = 1
        let cap := chs.foldl (fun cap ch => push cap ch (smGet (fun _ => []) c.survey.chan ch))
          (push m.cap 16 (smGet (fun _ => []) c.out.feed o))
        let full := chs.foldl (fun f ch =>
          if (smGet (fun _ => []) c.survey.chan ch).any fun x => decide (x ≥ 2 ^ 23 - 1 ∨ x ≤ -(2 ^ 23)) then
            smSet (fun _ => false) f ch true else f) m.full
        let silent := chs.foldl (fun f ch => if c.channelSilent ch then smSet (fun _ => false) f ch true else f) m.silent
        c.setMeas (some { m with cap := cap, full := full, silent := silent, muted := m.muted || c.flag (muteBit o) })
    | none => c
  | none => c

/-! ### Results (R304, R320) -/

/-- A stored result. -/
def Core.result? (c : Core) (o ch : Nat) : Option SurveyResult := smGet (fun _ => none) c.survey.results (16 * o + ch)

def opResultGet : Opc := { code := 0x0703, len := (· = 16) }

/-- RESULT_GET (R320). -/
def resultGetBody : Body := surveyBody fun c r =>
  if r.n 0 ≥ c.caps.outs ∨ r.n 1 > 15 ∨ r.n 3 > 1000 ∨ r.n 2 + r.n 3 > 16384 then ans c .outOfRange
  else
    match c.result? (r.n 0) (r.n 1) with
    | none => ans c .notPermitted
    | some x => okW c ([x.arrival, w32 x.level, x.flags] ++ ((x.taps.drop (r.n 2)).take (r.n 3)).map w32)

def opResultBands : Opc := { code := 0x0704, len := (· = 8) }

/-- RESULT_BANDS_GET (R320). -/
def resultBandsBody : Body := surveyBody fun c r =>
  if r.n 0 ≥ c.caps.outs ∨ r.n 1 > 15 then ans c .outOfRange
  else
    match c.result? (r.n 0) (r.n 1) with
    | none => ans c .notPermitted
    | some x => okW c ((List.range 120).map fun w =>
        unsigned 16 (x.bands.getD (2 * w) 0) + 2 ^ 16 * unsigned 16 (x.bands.getD (2 * w + 1) 0))

/-- The bytes of a measurement item (R304). -/
def measurementItem (fs : Nat) (x : SurveyResult) : List Byte :=
  let d := leBytes 4 0x4D524943 ++ leBytes 2 1 ++ leBytes 2 16384 ++ leBytes 4 fs ++ leBytes 4 0 ++
    x.taps.flatMap (fun t => leBytes 4 (w32 t)) ++ leBytes 4 x.arrival ++ leBytes 2 (unsigned 16 x.level) ++
    leBytes 2 x.flags ++ x.bands.flatMap (fun b => leBytes 2 (unsigned 16 b))
  d ++ leBytes 4 (crc32c d)

def opResultStore : Opc := { code := 0x0705, len := (· = 12) }

/-- RESULT_STORE (R304, R319, R320). -/
def resultStoreBody : Body := surveyBody fun c r =>
  if r.n 0 ≥ c.caps.outs ∨ r.n 1 > 15 ∨ r.n 2 = 0xFFFFFFFF then ans c .outOfRange
  else if (c.result? (r.n 0) (r.n 1)).isNone ∨ r.n 2 = ledgerItem then ans c .notPermitted
  else if c.flag F.SYS_STATUS_VIN_WARN ∨ c.survey.store.isSome then ans c .busy
  else if c.itemLocked (r.n 2) r.tok.session then ans c .locked
  else if c.libFree < 66044 then ans c .noSpace
  else
    ans { c with survey := { c.survey with store := some (r.tok, 16 * r.n 0 + r.n 1, r.n 2) } } .accepted

/-- The measurement item has been written. -/
def resultStoreDone (c : Core) : Core :=
  match c.survey.store with
  | none => c
  | some (tok, key, item) =>
    if c.flag F.SYS_STATUS_VIN_WARN then c
    else
      let c := { c with survey := { c.survey with store := none } }
      match smGet (fun _ => none) c.survey.results key with
      | some x => (c.fwStore item 3 (measurementItem c.fsHz x)).notice tok .ok []
      | none => c.notice tok .aborted []

/-! ### DESIGN (R305, R306) -/

/-- The centre of band b on a logarithmic scale: log₂ of the frequency over 20 Hz, in units of 1/48 octave. -/
def bandCentre (b : Nat) : Fx := bandEdge (2 * b + 1)

/-- Step 1: the smoothed mean of the masked channels. -/
def designMean (rs : List SurveyResult) (smooth : Nat) : List Fx :=
  let raw := (List.range 240).map fun b =>
    decibel ((rs.foldl (fun a x => a + pow10 (x.bands.getD b 0) 1000) 0) / (rs.length : Int))
  let w := [1, 2, 4, 8, 12, 24].getD smooth 1
  (List.range 240).map fun b =>
    let ks := (List.range 240).filter fun k => decide (b ≤ k + (w - 1) / 2 ∧ k ≤ b + w / 2)
    (ks.foldl (fun a k => a + raw.getD k 0) 0) / (ks.length : Int)

/-- Linear interpolation of (place, value) points, rising in place, held flat beyond the ends. -/
def interpolate : List (Fx × Fx) → Fx → Fx
  | [], _ => 0
  | [p], _ => p.2
  | p :: q :: t, x =>
    if x ≤ p.1 then p.2
    else if x ≤ q.1 then p.2 + fmul (q.2 - p.2) (fdiv (x - p.1) (q.1 - p.1))
    else interpolate (q :: t) x

/-- Steps 2 to 4: C_b after the clamp and the transition, and the number of bands clamped. -/
def designCurve (d : DesignReq) (m : List Fx) : List Fx × Nat :=
  let pts := d.points.map fun p => (flog (fx p.1 1), fx p.2 100)
  let fs := (List.range 240).map bandCentre
  let diff := List.zipWith (fun f mb => interpolate pts (flog f) - mb) fs m
  let inside := fun (f : Fx) => decide (fx d.fLo 1 ≤ f ∧ f ≤ fx d.fHi 1)
  let ins := (List.zip fs diff).filter fun x => inside x.1
  let mean := if ins.isEmpty then 0 else (ins.foldl (fun a x => a + x.2) 0) / (ins.length : Int)
  let cut := fun (v : Fx) => clampInt (-(fx d.cut 100)) (fx d.boost 100) v
  let edge := fun (f : Fx) =>
    let r := if f < fx d.fLo 1 then fdiv (fx d.fLo 1) f else fdiv f (fx d.fHi 1)
    let x := 3 * fdiv (flog r) 54916777467707473351141471128
    if inside f then one else if x ≥ one then 0 else (one + cosTurn x (2 * 2 ^ 96)) / 2
  let c := List.zipWith (fun f v => fmul (edge f) (cut (v - mean))) fs diff
  (c, ((List.zip fs diff).filter fun x => cut (x.2 - mean) ≠ x.2 - mean).length)

/-- Step 5: the magnitude at bin k of n, in dB. -/
def designMag (fs n : Nat) (c : List Fx) (k : Nat) : Fx :=
  let pts := (List.range 240).map fun b => (flog (bandCentre b), c.getD b 0)
  interpolate pts (if k = 0 then 0 else flog (fx (k * fs) n))

/-- Step 6: the taps before the taper. -/
def designTaps (fs taps : Nat) (linear : Bool) (c : List Fx) : List Fx :=
  let n := 8 * taps
  let half := (List.range (n / 2 + 1)).map (designMag fs n c)
  let full := half ++ ((half.drop 1).take (n / 2 - 1)).reverse
  if linear then
    let amp := full.map fun v => (fexp (fmul (v / 20) fln10), (0 : Fx))
    (List.range taps).map fun (t : Nat) => if t + 1 = taps then 0 else idftAt n amp ((t : Int) - (taps / 2 - 1 : Nat))
  else
    let cep := (List.range n).map fun (t : Nat) => idftAt n (full.map fun v => (fmul (v / 20) fln10, (0 : Fx))) t
    let fold := cep.zipIdx.map fun x => if x.2 = 0 ∨ 2 * x.2 = n then x.1 else if 2 * x.2 < n then 2 * x.1 else 0
    let spec := (List.range n).map fun k =>
      let z := dftBin n fold k
      (fmul (fexp z.1) (fcos z.2), fmul (fexp z.1) (fsin z.2))
    (List.range taps).map fun (t : Nat) => idftAt n spec t

/-- Step 7: the half-Hann taper of the outer taps. -/
def designTaper (linear : Bool) (h : List Fx) : List Fx :=
  let n := h.length
  let k := n / 8
  let w := fun (i : Nat) => if i < k then (one - cosTurn (2 * i + 1) (4 * k)) / 2 else one
  h.zipIdx.map fun x => fmul (fmul x.1 (w (n - 1 - x.2))) (if linear then w x.2 else one)

/-- Step 8: the scale and the rounded taps; 31 halvings always fit. -/
def designScale (h : List Fx) : Nat × List Int :=
  let at_ := fun (k : Nat) => h.map fun x => roundFx 23 (x / 2 ^ k)
  let k := ((List.range 32).find? fun k => (at_ k).all fun v => decide (v.natAbs < 2 ^ 23)).getD 31
  (k, at_ k)

/-- The largest difference of the filter from C_b over the design's bands, in 0.01 dB (R306). -/
def designError (d : DesignReq) (fs k : Nat) (taps : List Int) (c : List Fx) : Nat :=
  ((List.range 240).filter fun b => decide (fx d.fLo 1 ≤ bandCentre b ∧ bandCentre b ≤ fx d.fHi 1)).foldl (fun a b =>
    let z := taps.zipIdx.foldl (fun (s : Cf) y =>
      let t := fdiv (y.2 * bandCentre b) (fs * one)
      (s.1 + fmul (sampleFx y.1) (cosTurn t (2 ^ 96)), s.2 - fmul (sampleFx y.1) (sinTurn t (2 ^ 96)))) (0, 0)
    max a (roundFx 0 (100 * (decibel (cNorm z * 4 ^ k) - c.getD b 0))).natAbs) 0

/-- The bytes of a FIR item (R280). -/
def firItemBytes (fs : Nat) (taps : List Int) : List Byte :=
  let d := leBytes 4 0x46524943 ++ leBytes 2 1 ++ leBytes 2 taps.length ++ leBytes 4 fs ++ leBytes 4 0 ++
    taps.flatMap fun t => leBytes 4 (w32 t)
  d ++ leBytes 4 (crc32c d)

def opDesign : Opc := { code := 0x0710, len := (60 ≤ ·) }

/-- Whether frequencies rise. -/
def rising : List (Nat × Int) → Bool
  | a :: b :: t => decide (a.1 < b.1) && rising (b :: t)
  | _ => true

/-- The channels of a mask. -/
def maskChannels (m : Nat) : List Nat := (List.range 16).filter fun ch => m / 2 ^ ch % 2 = 1

/-- DESIGN (R305, R306). -/
def designBody : Body := surveyBody fun c r =>
  let n := r.n 10
  if n < 2 ∨ n > 32 then ans c .outOfRange
  else if r.bytes.length ≠ 44 + 8 * n then ans c .badLength
  else
    match (List.range n).mapM fun i => (sext? 16 (r.w (12 + 2 * i))).map fun l => (r.n (11 + 2 * i), l) with
    | none => ans c .badParam
    | some pts =>
      let d : DesignReq :=
        { tok := r.tok, out := r.n 0, mask := r.n 1, item := r.n 2, taps := r.n 3, linear := r.n 4 = 1, smooth := r.n 5
          fLo := r.n 6, fHi := r.n 7, boost := r.n 8, cut := r.n 9, points := pts }
      let rs := (maskChannels d.mask).map fun ch => c.result? d.out ch
      if d.taps % 128 ≠ 0 ∨ !inRange 512 8192 d.taps ∨ r.n 4 > 1 ∨ d.smooth > 5 ∨ d.fLo < 20 ∨ d.fLo ≥ d.fHi ∨ d.fHi > 20000 ∨
          d.boost > 600 ∨ d.cut > 2400 ∨ !rising pts ∨ pts.any (fun p => p.1 = 0) ∨ d.out ≥ c.caps.outs ∨ d.mask = 0 ∨
          d.mask > 0xFFFF ∨ d.item = 0xFFFFFFFF then ans c .outOfRange
      else if rs.any (fun x => match x with
          | some y => y.flags / 8 % 2 = 1
          | none => true) ∨ d.item = ledgerItem then ans c .notPermitted
      else if c.flag F.SYS_STATUS_VIN_WARN ∨ c.survey.design.isSome then ans c .busy
      else if c.itemLocked d.item r.tok.session then ans c .locked
      else if c.libFree < 20 + 4 * d.taps then ans c .noSpace
      else
        let c := { c with survey := { c.survey with design := some d } }
        ans (c.setMeas c.survey.meas) .accepted

/-- The design finishes: its item is stored and the five words are sent. -/
def designDone (c : Core) : Core :=
  match c.survey.design with
  | none => c
  | some d =>
    if c.flag F.SYS_STATUS_VIN_WARN then c
    else
      let fs := c.fsHz
      let rs := (maskChannels d.mask).filterMap fun ch => c.result? d.out ch
      let cv := designCurve d (designMean rs d.smooth)
      let h := designScale (designTaper d.linear (designTaps fs d.taps d.linear cv.1))
      let c := { c with survey := { c.survey with design := none } }
      let c := (c.setMeas c.survey.meas).fwStore d.item 1 (firItemBytes fs h.2)
      let c := (c.surveyNote 12 d.out).raise F.SURVEY_INT_STATUS_DESIGN_DONE
      c.notice d.tok .ok (natBytes [0, d.item, h.1, designError d fs h.1 h.2 cv.1, cv.2])

end Sys2Proof.Machine
end

