-- ==== Sys2Proof/Machine/Survey.lean ====
section
/-! DEFINITION. Survey live: windows, estimates, the baseline, temperature, proposals and the Survey log (R307 to R320). -/

namespace Sys2Proof.Machine

/-! ### Windows (R307) -/

/-- The frame length. -/
def Core.frameLen (c : Core) : Nat := if c.clk.mult = 1 then 32768 else 16384

/-- The window length: 23 frames with a hop of half a frame. -/
def Core.windowLen (c : Core) : Nat := 12 * c.frameLen

/-- Twin Standby: Survey live does not run (R319). -/
def Core.twinStandby (c : Core) : Bool := c.f F.TWIN_STATUS_STATE = 3

/-- A managed output. -/
def Core.liveOut (c : Core) (o : Nat) : LiveOut := smGet (fun _ => {}) c.survey.outs o
def Core.setLiveOut (c : Core) (o : Nat) (x : LiveOut) : Core :=
  { c with survey := { c.survey with outs := smSet (fun _ => {}) c.survey.outs o x } }

/-- The managed outputs. -/
def Core.managed (c : Core) : List (Nat × LiveOut) := c.survey.outs.filter (·.2.managed)

/-- A timing pair. -/
def Core.timing (c : Core) (i : Nat) : Timing := smGet (fun _ => {}) c.survey.timing i
def Core.setTiming (c : Core) (i : Nat) (x : Timing) : Core :=
  { c with survey := { c.survey with timing := smSet (fun _ => {}) c.survey.timing i x } }

/-- The history that a window needs: audio of the sixteen channels and of the feeds of managed outputs and timing pairs joins
it, block by block. -/
def Core.surveyCapture (c : Core) (b : Nat) : Core :=
  if c.policy = 0 ∨ c.clk.mult = 2 then
    { c with survey := { c.survey with hist := [], from_ := b + c.blk, bad := 0, spoiled := false } }
  else
    let keep := c.windowLen + 32768
    let push := fun (h : SMap (List Int)) (i : Nat) (xs : List Int) =>
      smSet (fun _ => []) h i (((blockOf c.blk xs).reverse ++ smGet (fun _ => []) h i).take keep)
    let feeds := (c.managed.map (·.1) ++
      (List.range 16).filterMap fun i => if (c.timing i).en then some (c.timing i).out else none).eraseDups
    let h := (List.range 16).foldl (fun h ch => push h ch (smGet (fun _ => []) c.survey.chan ch)) c.survey.hist
    let h := feeds.foldl (fun h o => push h (16 + o) (smGet (fun _ => []) c.out.feed o)) h
    let silent := (List.range 16).foldl (fun m ch => if c.channelSilent ch then m ||| 2 ^ ch else m) 0
    let first := b % c.windowLen = 0
    { c with survey := { c.survey with
      hist := h
      bad := (if first then 0 else c.survey.bad) ||| silent
      spoiled := (!first && c.survey.spoiled) || c.survey.meas.isSome } }

/-- Samples from count n on of a history, for a block boundary `now` (the count after its newest sample); a sample that is not
there is 0. -/
def histSlice (h : List Int) (now n len : Nat) : List Int :=
  let last := n + len
  if last > now then List.replicate len 0
  else
    let l := ((h.drop (now - last)).take len).reverse
    List.replicate (len - l.length) 0 ++ l

/-- A Hann-windowed frame. -/
def hannFrame (xs : List Int) : List Fx :=
  let n := xs.length
  xs.zipIdx.map fun x => fmul (sampleFx x.1) ((one - cosTurn x.2 n) / 2)

/-- The spectra of the 23 frames of a window that starts at count n: bins 0 to half the frame. -/
def Core.windowSpectra (c : Core) (key n : Nat) : List (List Cf) :=
  let len := c.frameLen
  let h := smGet (fun _ => []) c.survey.hist key
  (List.range 23).map fun k =>
    let x := hannFrame (histSlice h c.now (n + k * (len / 2)) len)
    (List.range (len / 2 + 1)).map (dftBin len x)

/-- S_xx, S_yy and S_xy over frames and some bins (R308). -/
def crossSums (xs ys : List (List Cf)) (ks : List Nat) : Fx × Fx × Cf :=
  (List.zip xs ys).foldl (fun a f =>
    ks.foldl (fun (a : Fx × Fx × Cf) k =>
      let x := f.1.getD k (0, 0)
      let y := f.2.getD k (0, 0)
      let z := cCross y x
      (a.1 + cNorm x, a.2.1 + cNorm y, a.2.2.1 + z.1, a.2.2.2 + z.2)) a) (0, 0, 0, 0)

/-- The coherence. -/
def coherence (s : Fx × Fx × Cf) : Fx := fdiv (cNorm s.2.2) (fmul s.1 s.2.1)

/-- The squared magnitude. -/
def magSq (s : Fx × Fx × Cf) : Fx := fdiv (fdiv (cNorm s.2.2) s.1) s.1

/-- What a window gives for a pair: |H|² of every band in which the pair passes (R308). -/
def Core.pairBands (c : Core) (xs ys : List (List Cf)) (silent : Bool) : List (Nat × Fx) :=
  if silent then []
  else
    (List.range 240).filterMap fun b =>
      let s := crossSums xs ys (bandBins c.frameLen c.fsHz b)
      if s.1 > 0 ∧ s.2.1 > 0 ∧ 100 * coherence s ≥ (c.survey.cfg.coh : Int) * one then some (b, magSq s) else none

/-- Whether a channel has failed to deliver its source in the window (R302, R319). -/
def Core.badChannel (c : Core) (ch : Nat) : Bool := c.survey.bad / 2 ^ ch % 2 = 1 || c.channelSilent ch

/-- The results of a window that starts at count n: output, channel, bands passed. -/
def Core.windowPairs (c : Core) (n : Nat) : List (Nat × Nat × List (Nat × Fx)) :=
  c.managed.flatMap fun x => x.2.mics.map fun m =>
    (x.1, m.1, c.pairBands (c.windowSpectra (16 + x.1) (n - m.2)) (c.windowSpectra m.1 n) (c.badChannel m.1))

/-! ### Estimates (R308, R309) -/

/-- The key of a baseline band. -/
def baseKey (o ch b : Nat) : Nat := (o * 16 + ch) * 240 + b

/-- A baseline band. -/
def Core.baseBand (c : Core) (k : Nat) : BaseBand := smGet (fun _ => {}) c.survey.base k

/-- The region of a quantity in tenths of a hertz, and its section frequency in hertz (R309). -/
def region (q : Nat) : Nat × Nat × Nat :=
  match q with
  | 0 => (40000, 160000, 6000)
  | 1 => (884, 1768, 125)
  | 2 => (3540, 7070, 500)
  | _ => (14140, 28280, 2000)

/-- The bands of a region. -/
def regionBands (q : Nat) : List Nat :=
  (List.range 240).filter fun b =>
    decide (fx (region q).1 10 ≤ bandCentre b ∧ bandCentre b ≤ fx (region q).2.1 10)

/-- ΔM_b of an output: in dB, none where no pair passes (R308). -/
def Core.deltaM (c : Core) (ps : List (Nat × Nat × List (Nat × Fx))) (o b : Nat) : Option Fx :=
  let rs := ps.filterMap fun p =>
    let s := c.baseBand (baseKey o p.2.1 b)
    if p.1 ≠ o ∨ s.n = 0 ∨ s.sum ≤ 0 then none
    else (p.2.2.find? (·.1 = b)).map fun v => fdiv v.2 (s.sum / (s.n : Int))
  if rs.isEmpty then none else some (decibel (rs.foldl (· + ·) 0 / (rs.length : Int)))

/-- X of a quantity in a window, in dB, where it is valid (R309). -/
def Core.estimateX (c : Core) (ps : List (Nat × Nat × List (Nat × Fx))) (o q : Nat) : Option Fx :=
  let bs := regionBands q
  let ms := bs.filterMap (c.deltaM ps o)
  if ms.isEmpty ∨ 2 * ms.length < bs.length then none else some (ms.foldl (· + ·) 0 / (ms.length : Int))

/-- The estimates of an output after a window, newest first, at most four; and whether one was valid. -/
def Core.newEstimates (c : Core) (ps : List (Nat × Nat × List (Nat × Fx))) (o : Nat) (x : LiveOut) : LiveOut × Bool :=
  let vs := (List.range 4).map (c.estimateX ps o)
  let ests := List.zipWith (fun (l : List Int) (v : Option Fx) => match v with
    | some y => (y :: l).take 4
    | none => l) x.ests vs
  ({ x with ests := ests }, vs.any Option.isSome)

/-! ### Temperature (R312, R313) -/

/-- Numbers in rising order. -/
def insertUp (x : Int) : List Int → List Int
  | [] => [x]
  | y :: t => if x ≤ y then x :: y :: t else y :: insertUp x t
def sortUp : List Int → List Int
  | [] => []
  | x :: t => insertUp x (sortUp t)

/-- The median; of an even number of values, the mean of the two in the middle. -/
def median (l : List Int) : Int :=
  let s := sortUp l
  let n := s.length
  if n % 2 = 1 then s.getD (n / 2) 0 else (s.getD (n / 2 - 1) 0 + s.getD (n / 2) 0) / 2

/-- τ of a timing pair in units of 2⁻⁹⁶ sample, and whether its peak coherence passes (R313). -/
def Core.timingArrival (c : Core) (t : Timing) (n : Nat) : Fx × Bool :=
  let len := c.frameLen
  let xs := c.windowSpectra (16 + t.out) (n - t.lag)
  let ys := c.windowSpectra t.ch n
  let sums := (List.range (len / 2 + 1)).map fun k => crossSums xs ys [k]
  let h := sums.map fun s => (fdiv s.2.2.1 s.1, fdiv s.2.2.2 s.1)
  let full := h ++ (((h.drop 1).take (len / 2 - 1)).reverse.map fun z => (z.1, -z.2))
  let y := (List.range len).map fun (i : Nat) => idftAt len full i
  let top := y.foldl (fun a v => max a v.natAbs) 0
  let k := (y.zipIdx.find? fun v => v.1.natAbs = top).map (·.2) |>.getD 0
  let at_ := fun (i : Nat) => (((y.getD (i % len) 0).natAbs : Nat) : Int)
  let p := at_ (k + len - 1)
  let q := at_ k
  let r := at_ (k + 1)
  let den := 2 * (2 * q - p - r)
  let frac := if den = 0 then 0 else fdiv (r - p) den
  let place : Int := if 2 * k < len then k else (k : Int) - len
  let ok := !c.badChannel t.ch && sums.any fun s => decide (s.1 > 0 ∧ s.2.1 > 0 ∧ 100 * coherence s ≥ (c.survey.cfg.coh : Int) * one)
  (place * one + frac + (t.lag : Int) * one, ok)

/-- A speed in units of 2⁻²⁰ m/s as m/s. -/
def speedFx (s : Nat) : Fx := (s : Int) * 2 ^ 76

/-- d × fs in metre samples a second. -/
def Core.pathFs (c : Core) (t : Timing) : Fx := (t.d : Int) * (c.fsHz : Int) * 2 ^ 83

/-- The enabled timing pairs, by index. -/
def Core.timingPairs (c : Core) : List (Nat × Timing) :=
  (List.range 16).filterMap fun i => if (c.timing i).en then some (i, c.timing i) else none

/-- The temperature of the speeds of some pairs, in 0.01 °C. -/
def temperatureOf (cs : List Fx) : Int :=
  let r := fdiv (median cs) (fx 3313 10)
  roundFx 0 (27315 * (fmul r r - one))

/-- The speed that a timing pair reads in a window, where its peak coherence passes. -/
def Core.pairSpeed (c : Core) (n : Nat) (t : Timing) : Option Fx :=
  match t.tauE with
  | none => none
  | some e =>
    let a := c.timingArrival t n
    if a.2 && decide (e < a.1) then some (fdiv (c.pathFs t) (a.1 - e)) else none

/-- SURVEY_TEMP and its status take an estimate. -/
def Core.tempRegs (c : Core) (t : Int) (pairs : Nat) : Core :=
  (((c.setFs F.SURVEY_TEMP_TEMP t).setF F.SURVEY_TEMP_PAIRS pairs).setF F.SURVEY_TEMP_VALID 1).setF
    F.SURVEY_STATUS_TEMP_VALID 1

/-- The scene keeps the estimate for SOUND_SPEED_SET's source SURVEY. -/
def Core.keepTemp (c : Core) (t : Int) : Core := { c with scene := { c.scene with surveyTemp := some t } }

/-- A temperature record is logged once a minute. -/
def Core.logTemp (c : Core) (old t : Int) (pairs : Nat) : Core :=
  if c.now < c.survey.tempLogAt then c
  else
    ({ c with survey := { c.survey with tempLogAt := c.now + 60 * c.fsHz } }).surveyLog
      { count := c.now, kind := 8, policy := 0, old := old, new := t, pairs := pairs }

/-- An estimate of the temperature in 0.01 °C from a number of pairs is taken. -/
def Core.setTemp (c : Core) (t : Int) (pairs : Nat) : Core :=
  (((c.tempRegs t pairs).raise F.SURVEY_INT_STATUS_TEMP).keepTemp t).logTemp (c.fs F.SURVEY_TEMP_TEMP) t pairs

/-- The temperature is estimated from a window (R313), from at least three pairs; an outlier is discarded. -/
def Core.estimateTemp (c : Core) (n : Nat) : Core :=
  let cs := c.timingPairs.filterMap fun x => c.pairSpeed n x.2
  if cs.length < 3 then c
  else
    let t := temperatureOf cs
    if c.flag F.SURVEY_TEMP_VALID && decide ((t - c.fs F.SURVEY_TEMP_TEMP).natAbs > 200) then
      (c.count R.SURVEY_OUTLIER).raise F.SURVEY_INT_STATUS_OUTLIER
    else c.setTemp (clampInt (-32767) 32767 t) cs.length

/-! ### The baseline (R314) -/

/-- A baseline begins to be learned. -/
def Core.rebase (c : Core) (tok : Option Tok) : Core :=
  let c := c.notice? c.survey.rebaseTok .aborted []
  let outs := c.survey.outs.map fun x => (x.1, { x.2 with ests := [[], [], [], []] })
  let timing := c.survey.timing.map fun x => (x.1, { x.2 with tau0 := none, tauE := none })
  { c.setF F.SURVEY_STATUS_BASELINE 1 with survey := { c.survey with
    rebaseTok := tok, base := [], windows := 0, outs := outs.filter fun x => decide (x.2 ≠ ({} : LiveOut)),
    timing := timing.filter fun x => decide (x.2 ≠ ({} : Timing)) } }

/-- A window joins the baseline: each pair and band takes its first BASELINE_WINDOWS passes. -/
def Core.learn (c : Core) (ps : List (Nat × Nat × List (Nat × Fx))) : Core :=
  let base := ps.foldl (fun m p => p.2.2.foldl (fun m v =>
    let k := baseKey p.1 p.2.1 v.1
    let s := smGet (fun _ => {}) m k
    if s.n ≥ c.survey.cfg.baseWin then m else smSet (fun _ => {}) m k { n := s.n + 1, sum := s.sum + v.2 }) m) c.survey.base
  let passed := ps.any fun p => !p.2.2.isEmpty
  { c with survey := { c.survey with base := base, windows := c.survey.windows + b2n passed } }

/-- The baseline ends: the gains, A0, c0, τ0 and τ_e are recorded, and the notice of LIVE_REBASE is sent. -/
def Core.baseEnd (c : Core) (n : Nat) : Core :=
  let c0 := (c.get R.CALIPER_SPEED).toNat
  let outs := c.survey.outs.map fun x => (x.1, { x.2 with base := x.2.gains, a0 := (chainSet c.out.live x.1).align })
  let timing := c.timingPairs.foldl (fun m x =>
    let a := (c.timingArrival x.2 n).1
    smSet (fun _ => {}) m x.1 { x.2 with tau0 := some a, tauE := some (a - fdiv (c.pathFs x.2) (speedFx c0)) }) c.survey.timing
  let tok := c.survey.rebaseTok
  let c := { c.setF F.SURVEY_STATUS_BASELINE 0 with survey := { c.survey with
    outs := outs.filter fun x => decide (x.2 ≠ ({} : LiveOut)), timing := timing, c0 := c0, rebaseTok := none } }
  (c.surveyNote 9 0xFFFF).notice? tok .ok []

/-! ### Proposals (R309 to R311, R316, R317) -/

/-- The coefficients of a section for a gain in 0.01 dB (R310). -/
def sectionOf (fs q : Nat) (g : Int) : Biquad :=
  if g = 0 then {}
  else
    let a := pow10 g 4000
    let f := (region q).2.2
    let cw := cosTurn f fs
    let sw := sinTurn f fs
    let fit := fun (a0 v : Fx) => sat 24 (roundFx 21 (fdiv v a0))
    if q = 0 then
      let beta := fmul (2 * fsqrt a) (fdiv sw (fsqrt (2 * one)))
      let up := a + one
      let dn := a - one
      let a0 := up - fmul dn cw + beta
      { bypass := false
        b0 := fit a0 (fmul a (up + fmul dn cw + beta))
        b1 := fit a0 (-2 * fmul a (dn + fmul up cw))
        b2 := fit a0 (fmul a (up + fmul dn cw - beta))
        a1 := fit a0 (2 * (dn - fmul up cw))
        a2 := fit a0 (up - fmul dn cw - beta) }
    else
      let al := fdiv sw (2 * fx 1414 1000)
      let a0 := one + fdiv al a
      { bypass := false
        b0 := fit a0 (one + fmul al a)
        b1 := fit a0 (-2 * cw)
        b2 := fit a0 (one - fmul al a)
        a1 := fit a0 (-2 * cw)
        a2 := fit a0 (one - fdiv al a) }

/-- The gain a quantity moves to after a window, in 0.01 dB: toward its desired gain by its remaining allowance (R309,
R311). -/
def Core.gainMove (c : Core) (x : LiveOut) (q : Nat) : Int :=
  let cur := x.gains.getD q 0
  let es := x.ests.getD q []
  if es.length < 2 then cur
  else
    let lim : Int := if q = 0 then c.survey.cfg.shelfMax else c.survey.cfg.bandMax
    let mean := es.foldl (· + ·) 0 / (es.length : Int)
    let want := x.base.getD q 0 + clampInt (-lim) lim (roundFx 0 (-100 * mean))
    let used := (x.moves.filter fun m => m.2.1 = q && decide (m.1 + 60 * c.fsHz > c.now)).foldl (fun a m => a + m.2.2) 0
    let left : Int := (c.survey.cfg.rate - used : Nat)
    cur + clampInt (-left) left (want - cur)

/-- The ALIGN a SPEED output moves to (R312). -/
def Core.alignMove (c : Core) (o : Nat) (x : LiveOut) : Nat :=
  let cur := (chainSet c.out.live o).align
  if !x.speed ∨ !c.flag F.SURVEY_TEMP_VALID then cur
  else
    let now := speedOf (c.fs F.SURVEY_TEMP_TEMP)
    let want := clampInt 0 8191 (roundDiv ((x.a0 * c.survey.c0 : Nat) : Int) now)
    let step : Int := c.survey.cfg.alignStep
    ((cur : Int) + clampInt (-step) step (want - cur)).toNat

/-- The changes that a window asks for; none where no gain would move by DEADBAND and no ALIGN by a sample (R311, R312). -/
def Core.wanted (c : Core) : List Change :=
  let cs := c.managed.flatMap fun x =>
    let gs := (List.range 4).map fun q => ({ out := x.1, q := q, old := x.2.gains.getD q 0, new := c.gainMove x.2 q } : Change)
    let al : Change := { out := x.1, q := 4, old := (chainSet c.out.live x.1).align, new := c.alignMove x.1 x.2 }
    (gs ++ [al]).filter fun y => decide (y.old ≠ y.new)
  if cs.any fun y => y.q = 4 || decide ((y.new - y.old).natAbs ≥ c.survey.cfg.deadband) then cs else []

/-- Whether the staged bank of Palette 1 is free (R317). -/
def Core.bankFree (c : Core) : Bool :=
  !c.survey.hostWrote && !c.outBusy &&
    match c.survey.hostSwap with
    | some b => decide (b + 60 * c.fsHz ≤ c.now)
    | none => true

/-- The live bank with changes written into it. -/
def Core.applyChanges (c : Core) (cs : List Change) : SMap ChainSet :=
  cs.foldl (fun m y =>
    let s := chainSet m y.out
    let s := if y.q = 4 then { s with align := y.new.toNat }
      else { s with sections := smSet (fun _ => {}) s.sections (12 + y.q) (sectionOf c.fsHz y.q y.new) }
    smSet (fun _ => {}) m y.out s) c.out.live

/-- The gains that stand in the staged bank, from those of the live bank and the changes. -/
def Core.setAlts (c : Core) (cs : List Change) : Core :=
  let outs := c.survey.outs.map fun x =>
    (x.1, { x.2 with alt := x.2.gains.zipIdx.map fun g => ((cs.find? fun y => y.out = x.1 && y.q = g.2).map (·.new)).getD g.1 })
  { c with survey := { c.survey with outs := outs.filter fun x => decide (x.2 ≠ ({} : LiveOut)) } }

/-- Each change of a proposal is logged with a kind. -/
def Core.logChanges (c : Core) (kind count pairs : Nat) (cs : List Change) : Core :=
  cs.foldl (fun c y => c.surveyLog
    { count := count, kind := kind, policy := 0, out := y.out, q := y.q, old := y.old, new := y.new, pairs := pairs }) c

/-- A proposal is staged and its commit starts, or is deferred (R317). -/
def Core.propose (c : Core) (passed : Nat) : Core :=
  let cs := c.wanted
  if cs.isEmpty ∨ c.survey.proposal.isSome then c
  else if !c.bankFree then
    ((c.count R.SURVEY_DEFER).raise F.SURVEY_INT_STATUS_DEFER).logChanges 6 c.now passed cs
  else
    let c := (c.editOut (c.applyChanges cs)).setAlts cs
    { c with survey := { c.survey with proposal := some { changes := cs, passed := passed } } }

/-- The staged proposal is withdrawn: the live bank goes back into the staged bank, committed (R317). -/
def Core.withdraw (c : Core) (kind : Nat) : Core :=
  match c.survey.proposal with
  | none => c
  | some p =>
    if p.swapB.isSome then c
    else
      let c := ((c.editOut c.out.live).setF (stagedReady 1) 1).setAlts []
      let c := { c.setF F.SURVEY_STATUS_PROPOSAL 0 with survey := { c.survey with proposal := none } }
      (c.logChanges kind c.now p.passed p.changes).raise F.SURVEY_INT_STATUS_WITHDRAWN

/-! ### The end of a window -/

/-- A window that started at count n is analysed. -/
def Core.analyse (c : Core) (n : Nat) : Core :=
  let ps := c.windowPairs n
  let passed := (ps.filter fun p => !p.2.2.isEmpty).length
  let c := (c.countW R.SURVEY_WINDOWS 1).put64 R.SURVEY_LAST_WINDOW_LO R.SURVEY_LAST_WINDOW_HI n
  if c.flag F.SURVEY_STATUS_BASELINE then
    let c := c.learn ps
    if c.survey.windows ≥ c.survey.cfg.baseWin then c.baseEnd n else c
  else
    let rs := c.managed.map fun x => (x.1, c.newEstimates ps x.1 x.2)
    let c := rs.foldl (fun c x => c.setLiveOut x.1 x.2.1) c
    let c := if rs.any fun x => x.2.2 then c else c.countW R.SURVEY_GATED 1
    (c.estimateTemp n).propose passed

/-- A change of policy, and LIVE_CONFIG, take effect at the end of a window (R316, R320). -/
def Core.policyTurn (c : Core) : Core :=
  let c := match c.survey.cfgNext with
    | some x => { c with survey := { c.survey with cfg := x, cfgNext := none } }
    | none => c
  match c.survey.policyNext with
  | none => c
  | some p =>
    let was := c.policy
    let c := { c with survey := { c.survey with policyNext := none } }
    if p = was then c
    else
      let c := (c.setF F.SURVEY_STATUS_POLICY p).surveyNote 10 0xFFFF
      if p = 0 then
        let c := c.withdraw 3
        let c := c.notice? c.survey.rebaseTok .aborted []
        { c.setF F.SURVEY_STATUS_BASELINE 0 with survey := { c.survey with rebaseTok := none, hist := [] } }
      else if was = 0 then
        let c := c.rebase none
        let sv : SurveyPart := { c.survey with from_ := c.now }
        { c with survey := sv }
      else c

/-- Whether a window that ends now may be analysed: its audio is whole, and nothing has spoiled it (R319). -/
def Core.windowWhole (c : Core) (n : Nat) : Bool :=
  let lag := (c.managed.flatMap fun x => x.2.mics.map (·.2)).foldl max 0
  let lag := (c.timingPairs.map fun x => x.2.lag).foldl max lag
  !c.survey.spoiled && !c.twinStandby && !c.flag F.HOST_STATUS_RESTARTING && !c.power.engineStop &&
    decide (c.survey.from_ + lag ≤ n)

/-- SURVEY_WINDOW_END: at a count that is a multiple of the window length. -/
def surveyWindowEnd (c : Core) : Core :=
  if c.now % c.windowLen ≠ 0 ∨ c.now = 0 ∨ c.clk.mult = 2 ∨ !c.clk.mediaOn then c
  else
    let n := c.now - c.windowLen
    let c := if c.policy ≠ 0 ∧ c.windowWhole n then c.analyse n else c
    c.policyTurn

/-! ### Proposals after their commit (R316) -/

/-- The commit of a proposal completes. -/
def proposalCommitDone (c : Core) : Core :=
  match c.survey.proposal with
  | none => c
  | some p =>
    if p.staged.isSome then c
    else
      let a := c.outAdmit c.out.staged
      if a.1 ≠ .ok then c.withdraw 6
      else
        let c := (c.setF (stagedReady 1) 1).setF F.OUTPROC_STATUS_CORES a.2.1
        let c := (c.countW R.SURVEY_PROPOSALS 1).setF F.SURVEY_STATUS_PROPOSAL 1
        let c := c.logChanges 1 c.now p.passed p.changes
        if c.policy = 2 then
          let b := c.boundaryAt (c.now + 2 * c.blk)
          let w : Swap := { mask := 2, b := b, g := c.survey.cfg.glaze, tok := none, timed := false }
          { c.addSwap w with
            survey := { c.survey with proposal := some { p with staged := some c.now, swapB := some b } } }
        else
          { c.raise F.SURVEY_INT_STATUS_PROPOSAL with
            survey := { c.survey with proposal := some { p with staged := some c.now } } }

/-- A proposal not applied within TTL seconds is withdrawn. -/
def proposalExpire (c : Core) : Core :=
  match c.survey.proposal with
  | some p =>
    match p.staged with
    | some n => if n + c.survey.cfg.ttl * c.fsHz ≤ c.now then c.withdraw 4 else c
    | none => c
  | none => c

/-- Palette 1 has been swapped at boundary b: gains follow the banks, changes count against the allowances, and the staged bank
is free of host writes (R311, R317). -/
def Core.surveySwapped (c : Core) (b : Nat) (host : Bool) : Core :=
  let outs := c.survey.outs.map fun x =>
    let ms := (List.range 4).filterMap fun q =>
      let d := (x.2.alt.getD q 0 - x.2.gains.getD q 0).natAbs
      if d = 0 then none else some (b, q, d)
    let old := x.2.moves.filter fun m => decide (m.1 + 60 * c.fsHz > b)
    (x.1, { x.2 with gains := x.2.alt, alt := x.2.gains, moves := if x.2.managed then old ++ ms else [] })
  { c with survey := { c.survey with
    outs := outs.filter fun x => decide (x.2 ≠ ({} : LiveOut))
    hostWrote := false
    hostSwap := if host then some b else c.survey.hostSwap
    proposal := c.survey.proposal.map fun p => { p with swapB := some b } } }

/-- The swap of a proposal made at boundary b has completed. -/
def Core.surveyApplied (c : Core) (b : Nat) : Core :=
  match c.survey.proposal with
  | none => c
  | some p =>
    if p.swapB ≠ some b then c
    else
      let c := { c.setF F.SURVEY_STATUS_PROPOSAL 0 with survey := { c.survey with proposal := none } }
      ((c.countW R.SURVEY_APPLIED 1).logChanges 2 b p.passed p.changes).raise F.SURVEY_INT_STATUS_APPLIED

/-- The pending swap of a proposal has ended without effect: it stays staged. -/
def Core.surveyUnswapped (c : Core) : Core :=
  { c with survey := { c.survey with proposal := c.survey.proposal.map fun p => { p with swapB := none } } }

/-! ### Host edits of Palette 1 (R315, R317) -/

/-- What of an output's settings Survey live holds: sections 12 to 15, and ALIGN where it is marked SPEED. -/
def heldOf (s : ChainSet) (speed : Bool) : List Biquad × Nat :=
  ((List.range 4).map fun q => smGet (fun _ => {}) s.sections (12 + q), if speed then s.align else 0)

/-- Outputs whose held settings a host write changes stop being managed. -/
def Core.overrides (c : Core) (before : SMap ChainSet) : Core :=
  c.managed.foldl (fun c x =>
    let new := heldOf (chainSet c.out.staged x.1) x.2.speed
    if new = heldOf (chainSet before x.1) x.2.speed ∨ new = heldOf (chainSet c.out.live x.1) x.2.speed then c
    else
      let c := c.setLiveOut x.1 { x.2 with managed := false }
      ((c.count R.SURVEY_OVERRIDE).raise F.SURVEY_INT_STATUS_OVERRIDE).surveyNote 7 x.1) c

/-- A host edit or commit of the staged bank of Palette 1: a staged proposal is withdrawn first, then the command is carried
out. -/
def hostEdit (b : Body) : Body := fun c r =>
  let d := if (b c r).2.1 = .ok ∨ (b c r).2.1 = .accepted then c.withdraw 5 else c
  let a := b d r
  if a.2.1 = .ok ∨ a.2.1 = .accepted then
    let c := { a.1 with survey := { a.1.survey with hostWrote := true } }
    let same := c.out.staged = c.out.live
    ((if same then c.setAlts [] else c).overrides d.out.staged, a.2)
  else a

/-! ### Opcodes (R320) -/

def opLiveConfig : Opc := { code := 0x0720, len := (· = 36) }

/-- LIVE_CONFIG. -/
def liveConfigBody : Body := surveyBody fun c r =>
  let x : LiveCfg :=
    { coh := r.n 0, shelfMax := r.n 1, bandMax := r.n 2, rate := r.n 3, deadband := r.n 4, ttl := r.n 5, glaze := r.n 6
      alignStep := r.n 7, baseWin := r.n 8 }
  if inRange 50 99 x.coh && inRange 0 300 x.shelfMax && inRange 0 600 x.bandMax && inRange 0 100 x.rate &&
      inRange 1 100 x.deadband && inRange 10 600 x.ttl && inRange 16 4096 x.glaze && x.glaze % 16 == 0 &&
      inRange 1 16 x.alignStep && inRange 1 64 x.baseWin then
    ans { c with survey := { c.survey with cfgNext := some x } } .ok
  else ans c .outOfRange

def opLiveOutputSet : Opc := { code := 0x0721, len := (8 ≤ ·) }

/-- LIVE_OUTPUT_SET (R315). -/
def liveOutputSetBody : Body := surveyBody fun c r =>
  let o := r.n 0
  let w := r.w 1
  let chs := maskChannels (bitsOf w 31 16)
  if r.bytes.length ≠ 8 + 4 * chs.length then ans c .badLength
  else if bitsOf w 15 2 ≠ 0 then ans c .badParam
  else
    let mics := chs.zipIdx.map fun x => (x.1, r.n (2 + x.2))
    let old := c.liveOut o
    if o ≥ c.caps.outs ∨ mics.any fun m => decide (m.2 > 32767) then ans c .outOfRange
    else if !bitOf w 0 then ans (c.setLiveOut o {}) .ok
    else if !old.managed && (List.range 4).any fun q => !(smGet (fun _ => {}) (chainSet c.out.live o).sections (12 + q)).bypass then
      ans c .notPermitted
    else if ((c.managed.filter fun x => decide (x.1 ≠ o)).foldl (fun a x => a + x.2.mics.length) mics.length) > 2048 then
      ans c .noResource
    else
      let base : LiveOut := if old.managed then old else { a0 := (chainSet c.out.live o).align }
      ans (c.setLiveOut o { base with managed := true, speed := bitOf w 1, mics := mics }) .ok

def opLiveTimingSet : Opc := { code := 0x0722, len := (· = 24) }

/-- LIVE_TIMING_SET (R313). -/
def liveTimingSetBody : Body := surveyBody fun c r =>
  if r.n 1 > 1 then ans c .badParam
  else if r.n 0 > 15 ∨ r.n 2 ≥ c.caps.outs ∨ r.n 3 > 15 ∨ r.n 4 < 40960 ∨ r.n 5 > 32767 then ans c .outOfRange
  else ans (c.setTiming (r.n 0) { en := r.n 1 = 1, out := r.n 2, ch := r.n 3, d := r.n 4, lag := r.n 5 }) .ok

def opLivePolicySet : Opc := { code := 0x0723, timeable := true, len := (· = 4) }

/-- LIVE_POLICY_SET (R316). -/
def livePolicySetBody : Body := surveyBody fun c r =>
  if r.n 0 > 2 then ans c .outOfRange
  else ans { c with survey := { c.survey with policyNext := some (r.n 0) } } .ok

def opLiveRebase : Opc := { code := 0x0724, len := (· = 0) }

/-- LIVE_REBASE (R314). -/
def liveRebaseBody : Body := surveyBody fun c r =>
  if c.policy = 0 then ans c .notPermitted else ans (c.rebase (some r.tok)) .accepted

/-- Whether a proposal is staged. -/
def Core.staged? (c : Core) : Option Proposal := c.survey.proposal.filter (·.staged.isSome)

def opProposalGet : Opc := { code := 0x0725, len := (· = 8) }

/-- PROPOSAL_GET. -/
def proposalGetBody : Body := surveyBody fun c r =>
  if !inRange 1 64 (r.n 1) ∨ r.n 0 + r.n 1 > c.caps.outs then ans c .outOfRange
  else
    match c.staged? with
    | none => ans c .notPermitted
    | some p =>
      okW c (((List.range (r.n 1)).map (· + r.n 0)).flatMap fun o =>
        let cs := p.changes.filter (·.out = o)
        let mask := cs.foldl (fun a y => a + 2 ^ y.q) 0
        let cur := fun (q : Nat) => if q = 4 then ((chainSet c.out.live o).align : Int) else (c.liveOut o).gains.getD q 0
        mask :: (List.range 5).flatMap fun q =>
          [w32 (cur q), w32 (((cs.find? (·.q = q)).map (·.new)).getD (cur q))])

def opProposalApply : Opc := { code := 0x0726, timeable := true, len := (· = 4), lateTime := true, eager := true }

/-- PROPOSAL_APPLY (R219, R316). -/
def proposalApplyBody : Body := surveyBody fun c r =>
  match c.staged? with
  | none => ans c .notPermitted
  | some p =>
    let a := c.swapRequest r 2 (r.n 0) c.survey.cfg.glaze
    if a.2.1 = .accepted then
      let b := r.boundary c (c.boundaryAt (c.now + 2 * c.blk))
      ({ a.1 with survey := { a.1.survey with proposal := some { p with swapB := some b } } }, a.2)
    else a

def opProposalDiscard : Opc := { code := 0x0727, len := (· = 0) }

/-- PROPOSAL_DISCARD (R317); while its swap is pending or its Glaze runs the staged bank is busy (R218). -/
def proposalDiscardBody : Body := surveyBody fun c _ =>
  match c.staged? with
  | none => ans c .notPermitted
  | some p => if p.swapB.isSome then ans c .busy else ans (c.withdraw 3) .ok

/-! ### The log (R318) -/

/-- The number of records in the ring. -/
def surveyRing : Nat := 262144

/-- Every 10 s the gathered records are written to flash. -/
def surveyLogFlush (c : Core) : Core :=
  if c.flag F.SYS_STATUS_VIN_WARN then c
  else
    let log := c.survey.logHeld.zipIdx.foldl (fun (m : SMap (Option SurveyLog)) x =>
      smSet (fun _ => none) m ((c.survey.logNext + x.2) % surveyRing) (some x.1)) c.survey.log
    { c with survey := { c.survey with log := log, logHeld := [], logNext := c.survey.logNext + c.survey.logHeld.length } }

/-- The 64 bytes of a record. -/
def surveyLogBytes (i : Nat) (x : SurveyLog) : List Byte :=
  leBytes 8 x.count ++ leBytes 1 x.kind ++ leBytes 1 x.policy ++ leBytes 2 x.out ++ leBytes 1 x.q ++ leBytes 3 0 ++
    leBytes 4 (w32 x.old) ++ leBytes 4 (w32 x.new) ++ leBytes 2 x.temp ++ leBytes 2 x.pairs ++ leBytes 8 i ++
    List.replicate 28 0

/-- The oldest index held. -/
def Core.logOldest (c : Core) : Nat := c.survey.logNext - surveyRing

def opSurveyLogRead : Opc := { code := 0x0730, len := (· = 12) }

/-- SURVEY_LOG_READ. -/
def surveyLogReadBody : Body := surveyBody fun c r =>
  let first := r.n 0 + 2 ^ 32 * r.n 1
  if !inRange 1 60 (r.n 2) then ans c .outOfRange
  else
    let is := ((List.range (r.n 2)).map (· + first)).filter fun i => decide (c.logOldest ≤ i ∧ i < c.survey.logNext)
    (c, .ok, is.flatMap fun i => match smGet (fun _ => none) c.survey.log (i % surveyRing) with
      | some x => surveyLogBytes i x
      | none => [])

def opSurveyLogInfo : Opc := { code := 0x0731, len := (· = 0) }

/-- SURVEY_LOG_INFO. -/
def surveyLogInfoBody : Body := surveyBody fun c _ =>
  okW c [c.logOldest % 2 ^ 32, c.logOldest / 2 ^ 32, c.survey.logNext % 2 ^ 32, c.survey.logNext / 2 ^ 32,
    (c.get R.SURVEY_LOG_DROP).toNat]

/-! ### Events (R319) -/

/-- The window in progress is discarded and the history starts again at count n. -/
def Core.surveyBreak (c : Core) (n : Nat) : Core :=
  { c with survey := { c.survey with hist := [], from_ := n, spoiled := true } }

/-- Mute and hold, standby or a MEDIA restart: a measurement ends and the window is discarded. -/
def Core.surveyHold (c : Core) : Core := c.measureStop.surveyBreak c.now

end Sys2Proof.Machine
end

