-- ==== Sys2Proof/Machine/Ports.lean ====
section
/-! DEFINITION. TDM ports, input capture, the Armature, direct paths and meters (R321 to R354). -/

namespace Sys2Proof.Machine

/-! ### The common fade at the ports -/

/-- The weight of a fade at sample count n. -/
def Gate.weight : Gate → Nat → Int
  | .full, _ => 2 ^ 23
  | .fadeOut a g, n => if n < a then 2 ^ 23 else wOut (n - a) g
  | .zero, _ => 0
  | .fadeIn a g, n => if n < a then 0 else wIn (n - a) g

/-! ### Slots (R321, R322) -/

/-- A TDM port's state beside its registers. -/
def Core.tdm (c : Core) (p : Nat) : TdmPort := smGet (fun _ => {}) c.arm.ports p
def Core.setTdm (c : Core) (p : Nat) (x : TdmPort) : Core :=
  { c with arm := { c.arm with ports := smSet (fun _ => {}) c.arm.ports p x } }

/-- The width of a slot in bits, and whether its sample has 16 bits. -/
def slotWidth (ctrl : Word) : Nat := match bitsOf ctrl 9 8 with
  | 0 => 16
  | 1 => 24
  | _ => 32
def slot16 (ctrl : Word) : Bool := bitOf ctrl 10 || slotWidth ctrl = 16

/-- The sample of a received slot word, as it stands in its slot. -/
def slotSample (ctrl : Word) (w : Nat) : Int :=
  let top := w * 2 ^ (32 - slotWidth ctrl) % 2 ^ 32
  if slot16 ctrl then signed 24 (top / 2 ^ 16 * 256) else signed 24 (top / 2 ^ 8)

/-- A 24-bit sample rounded to 16 bits (R321, R372). -/
def round16 (x : Int) : Int := sat 16 (rshr 8 x)

/-- The slot word of a sample. -/
def slotWord (ctrl : Word) (x : Int) : Nat :=
  let w := slotWidth ctrl
  if slot16 ctrl then unsigned 16 (round16 x) * 2 ^ (w - 16) else unsigned 24 x * 2 ^ (w - 24)

/-- The largest slot count, and the bits of a leader frame, at a rate (R322). -/
def slotLimit (mult : Nat) : Nat := 32 / 2 ^ mult
def frameBits (mult : Nat) : Nat := 1024 / 2 ^ mult

/-- The samples in a sample period's MEDIA cycles (R331). -/
def Core.period1 (c : Core) : Nat := frameBits c.clk.mult

/-- Whether the slots and the leader's division of a configuration fit a rate (R322, R323). -/
def slotsFit (mult : Nat) (ctrl : Word) : Bool :=
  let n := bitsOf ctrl 7 2
  inRange 1 (slotLimit mult) n && (!bitOf ctrl 1 || frameBits mult % (n * slotWidth ctrl) = 0)

/-- The checks of a port configuration (R322, R323, R326). -/
def portCheck (mult : Nat) (ctrl rx tx : Word) : Option Status :=
  if bitsOf ctrl 31 16 ≠ 0 ∨ bitsOf ctrl 9 8 = 3 then some .badParam
  else if !slotsFit mult ctrl then some .outOfRange
  else if rx.toNat / 2 ^ bitsOf ctrl 7 2 ≠ 0 ∨ tx.toNat / 2 ^ bitsOf ctrl 7 2 ≠ 0 then some .badParam
  else none

/-! ### A port's state -/

/-- A port's state code; PORTS_STATUS follows. -/
def Core.portState (c : Core) (p st : Nat) : Core :=
  let c := c.setF (F.PORTS_TDM_STATE_STATE p) st
  let c := c.setB ⟨R.PORTS_STATUS, p, p⟩ (st = 2)
  c.setB ⟨R.PORTS_STATUS, 8 + p, 8 + p⟩ (st = 3 || st = 4)

/-- The state code of a port: 0 OFF, 1 SEEKING, 2 RUN, 3 MUTED_LOSS, 4 MUTED_RATE, 5 RESUMING, 6 FROZEN. -/
def Core.portSt (c : Core) (p : Nat) : Nat := c.f (F.PORTS_TDM_STATE_STATE p)

/-- The pool bases of every port: the enabled slots of the running ports before it (R326). -/
def Core.poolBases (c : Core) : Core :=
  ((List.range 8).foldl (fun (a : Core × Nat × Nat) p =>
    let c := (a.1.setF (F.PORTS_TDM_STATE_RX_BASE p) a.2.1).setF (F.PORTS_TDM_STATE_TX_BASE p) a.2.2
    let n := match (c.tdm p).run with
      | some r => if bitOf r.1 0 then (popCount 32 r.2.1.toNat, popCount 32 r.2.2.toNat) else (0, 0)
      | none => (0, 0)
    (c, a.2.1 + n.1, a.2.2 + n.2)) (c, 0, 0)).1

/-- A port's registers as a configuration. -/
def Core.portRegs (c : Core) (p : Nat) : Word × Word × Word :=
  (c.get (R.PORTS_TDM_CTRL p), c.get (R.PORTS_TDM_RX_MASK p), c.get (R.PORTS_TDM_TX_MASK p))

/-- The configuration that a port runs with, while it is enabled and the MEDIA domain runs. -/
def Core.portRun (c : Core) (p : Nat) : Option (Word × Word × Word) :=
  if c.clk.mediaOn ∧ !(c.tdm p).inReset then (c.tdm p).run.filter fun r => bitOf r.1 0 else none

/-- Whether direct path n takes its words from a port. -/
def dpFromPort (live : SMap Nat) (n p : Nat) : Bool :=
  let s := smGet (fun _ => 0xFFF) live (0x1800 + n) % 2 ^ 12
  s < 0x100 && s / 32 = p

/-- A direct path. -/
def Core.dp (c : Core) (n : Nat) : DirectPath := smGet (fun _ => {}) c.arm.dps n
def Core.setDp (c : Core) (n : Nat) (x : DirectPath) : Core :=
  { c with arm := { c.arm with dps := smSet (fun _ => {}) c.arm.dps n x } }

/-- The gain of a direct path at a sample count (R350). -/
def DirectPath.gain (x : DirectPath) (n : Nat) : Int := if n < x.s0 then x.gS else rampAt x.gS x.gT 32 (n - x.s0)

/-- A direct path ramps toward what its mute, its input port and its target ask for, from a sample count on. -/
def DirectPath.toward (x : DirectPath) (n : Nat) : DirectPath :=
  { x with gS := x.gain (n - 1), gT := if x.lost ∨ x.mute then 0 else x.target, s0 := n }

/-- The direct paths that an input port feeds lose it, or have it back, at a sample count (R351). -/
def Core.portPaths (c : Core) (p n : Nat) (lost : Bool) : Core :=
  (List.range 256).foldl (fun c k =>
    if dpFromPort c.arm.live k p ∧ (c.dp k).lost ≠ lost then c.setDp k ({ c.dp k with lost := lost }.toward n) else c) c

/-- A port mutes from a sample count on (R330 to R332). -/
def Core.portMute (c : Core) (p st n : Nat) : Core :=
  let x := c.tdm p
  let c := (c.setTdm p { x with muteAt := some n, rise := none }).portState p st
  (c.setF (F.PORTS_TDM_STATE_GOOD p) 0).portPaths p n true

/-- A port starts afresh with the configuration of its registers: OFF, or SEEKING its 64 good frames (R333). A configuration
that does not fit the rate turns it off (R353). -/
def Core.portStart (c : Core) (p : Nat) : Core :=
  let r := c.portRegs p
  let x := c.tdm p
  let c := c.setF (F.PORTS_TDM_STATE_GOOD p) 0
  if bitOf r.1 0 ∧ (portCheck c.clk.mult r.1 r.2.1 r.2.2).isSome then
    let c := c.setTdm p { run := some (withBits r.1 0 0 0, r.2.1, r.2.2) }
    let c := ((c.setF (F.PORTS_TDM_CTRL_EN p) 0).setF (F.PORTS_TDM_STATE_CONFIG_BAD p) 1).portState p 0
    ((c.raise F.PORTS_INT_STATUS_CONFIG_BAD).portPaths p c.now true).notice? x.tok .aborted []
  else if bitOf r.1 0 then
    ((c.setTdm p { run := some r, tok := x.tok, inReset := x.inReset }).portState p 1).portPaths p c.now true
  else
    (((c.setTdm p { run := some r }).portState p 0).portPaths p c.now true).notice? x.tok .ok []

/-- At a block boundary a port whose registers have changed, or which is to restart, starts afresh. -/
def Core.portTurn (c : Core) (p : Nat) : Core :=
  let x := c.tdm p
  if x.inReset then c
  else if x.restart ∨ (x.run ≠ some (c.portRegs p) ∧ (x.run.isSome ∨ bitOf (c.portRegs p).1 0)) then c.portStart p
  else c

/-- All ports at a block boundary. -/
def Core.portsTurn (c : Core) : Core := ((List.range 8).foldl Core.portTurn c).poolBases

/-! ### Frames (R323, R324, R328 to R334) -/

/-- The word a transmit slot sends at sample place j of the block in hand: none for high impedance; a waiting twin module sends zeros,
and nothing on a shared port (R487). -/
def Core.slotOut (c : Core) (p k j : Nat) (r : Word × Word × Word) : Option Nat :=
  if c.tdmReleased p then none
  else if !bitOf r.2.2 k then (if bitOf r.1 15 then none else some 0)
  else if c.twinHeld then some 0
  else
    let n := c.time.n + j
    let x := c.tdm p
    let d := 0x800 + 32 * p + k
    let s := smGet (fun _ => 0xFFF) c.arm.live d % 2 ^ 12
    let w := if c.portSt p ≠ 2 then 0
      else match x.muteAt, x.rise with
        | some a, _ => if n < a then 2 ^ 23 else wOut (n - a) c.blk
        | none, some (a, g) => if n < a then 0 else wIn (n - a) g
        | none, none => 2 ^ 23
    if 0xD00 ≤ s ∧ s ≤ 0xDFF then
      let y := c.dp (s - 0xD00)
      let v := y.out
      if bitOf (.ofNat 32 (smGet (fun _ => 0xFFF) c.arm.live (0x1800 + (s - 0xD00)))) 31 then
        some (if w = 0 then 0 else v / 2 ^ (32 - slotWidth r.1))
      else some (slotWord r.1 (weighted w (signed 24 (v / 256))))
    else
      let v := (smGet (fun _ => []) c.arm.tx d).getD j 0
      some (slotWord r.1 (weighted w (weighted (c.clk.gate.weight n) v)))

/-- The frame that leaves a port at sample place j. -/
def Core.sendTdm (c : Core) (p j : Nat) (r : Word × Word × Word) : Core :=
  c.send (.tdm p ((List.range (bitsOf r.1 7 2)).map fun k => c.slotOut p k j r))

/-- The slot samples of a frame: a slot that is not enabled is not captured (R326). -/
def slotSamples (r : Word × Word × Word) (ws : List Nat) : List Int :=
  (List.range (bitsOf r.1 7 2)).map fun k => if bitOf r.2.1 k then slotSample r.1 (ws.getD k 0) else 0

/-- A frame's samples are captured at place j. -/
def Core.captureFrame (c : Core) (p j : Nat) (l : List Int) : Core :=
  let x := c.tdm p
  c.setTdm p { x with frames := (j, l) :: x.frames, held := l }

/-- A good frame of a port that is not in RUN counts toward its 64 (R333). -/
def Core.goodFrame (c : Core) (p : Nat) : Core :=
  let n := c.f (F.PORTS_TDM_STATE_GOOD p)
  (c.portState p 5).setF (F.PORTS_TDM_STATE_GOOD p) (min 64 (n + 1))

/-- The difference of two phases, within half a sample period. -/
def phaseStep (period a b : Nat) : Int :=
  let d := (a + period - b % period) % period
  if 2 * d > period then (d : Int) - period else d

/-- A follower port receives a frame at sample place j of the block in hand: whether its FSYNC edge stood where it is expected,
whether its bit clock had no gap, its phase, and its slot words (R324, R328, R329, R332). -/
def tdmFrame (p j : Nat) (edge gapless : Bool) (phase : Nat) (ws : List Nat) (c : Core) : Core :=
  match c.portRun p with
  | none => c
  | some r =>
    if p > 7 ∨ (bitOf r.1 1 ∧ !c.tdmReleased p) ∨ j ≥ c.blk then c
    else
      let c := c.sendTdm p j r
      if !edge then
        let c := if c.portSt p = 2 then c else c.setF (F.PORTS_TDM_STATE_GOOD p) 0
        (c.count (R.PORTS_TDM_FRAMING p)).raise F.PORTS_INT_STATUS_FRAMING
      else
        let x := c.tdm p
        let x := { x with drift := x.drift + phaseStep c.period1 phase x.last, last := phase % c.period1 }
        let c := c.setTdm p x
        if c.portSt p = 2 then
          let c := (c.countW (R.PORTS_TDM_FRAMES p) 1).captureFrame p j (slotSamples r ws)
          if gapless && decide (2 * x.drift.natAbs > c.period1) then
            ((c.count (R.PORTS_TDM_SLIP p)).raise F.PORTS_INT_STATUS_SLIP).portMute p 4 (c.time.n + j + 1)
          else c
        else if gapless then c.goodFrame p
        else c.setF (F.PORTS_TDM_STATE_GOOD p) 0

/-- A leader port drives the frame of sample place j and captures what its slots carry (R323). -/
def tdmLeaderFrame (p j : Nat) (ws : List Nat) (c : Core) : Core :=
  match c.portRun p with
  | none => c
  | some r =>
    if p > 7 ∨ !bitOf r.1 1 ∨ c.tdmReleased p ∨ j ≥ c.blk then c
    else
      let c := c.sendTdm p j r
      if c.portSt p = 2 then (c.countW (R.PORTS_TDM_FRAMES p) 1).captureFrame p j (slotSamples r ws) else c.goodFrame p

/-- FSYNC is missing twice, or BCLK has been silent, at sample place j (R330). -/
def tdmLoss (p j : Nat) (c : Core) : Core :=
  match c.portRun p with
  | none => c
  | some r =>
    if p > 7 ∨ (bitOf r.1 1 ∧ !c.tdmReleased p) then c
    else if c.portSt p = 2 then
      let c := (c.setF (F.PORTS_TDM_STATE_LOSS p) 1).raise F.PORTS_INT_STATUS_LOSS
      (c.count (R.PORTS_TDM_LOSS_COUNT p)).portMute p 3 (c.time.n + j + 1)
    else if c.portSt p = 5 then (c.portState p 3).setF (F.PORTS_TDM_STATE_GOOD p) 0
    else c

/-- A run of 16 frames ends at sample place j after a number of MEDIA cycles (R331). -/
def tdmRateRun (p j cycles : Nat) (c : Core) : Core :=
  match c.portRun p with
  | none => c
  | some r =>
    if p > 7 ∨ (bitOf r.1 1 ∧ !c.tdmReleased p) then c
    else
      let nominal := 16 * c.period1
      let d : Int := (nominal : Int) - cycles
      let c := c.put (R.PORTS_TDM_RATE p) (.ofNat 32 (w32 (Int.tdiv (d * 1000000) nominal)))
      if d.natAbs * 1000 ≤ nominal then c
      else if c.portSt p = 2 then
        let c := (c.setF (F.PORTS_TDM_STATE_RATE_MISMATCH p) 1).raise F.PORTS_INT_STATUS_RATE_MISMATCH
        (c.count (R.PORTS_TDM_RATE_COUNT p)).portMute p 4 (c.time.n + j + 1)
      else if c.portSt p = 5 then c.setF (F.PORTS_TDM_STATE_GOOD p) 0
      else c

/-- At the block boundary after 64 good frames a port numbers its frames afresh and enters RUN (R333). -/
def tdmResume (p : Nat) (c : Core) : Core :=
  match c.portRun p with
  | none => c
  | some _ =>
    if p > 7 ∨ c.portSt p ≠ 5 ∨ c.f (F.PORTS_TDM_STATE_GOOD p) < 64 then c
    else
      let x := c.tdm p
      let n := c.time.n
      let c := c.setTdm p { x with drift := 0, muteAt := none, rise := some (n, c.glaze), frames := [], tok := none }
      let c := ((c.put (R.PORTS_TDM_PHASE p) (.ofNat 32 x.last)).setF (F.PORTS_TDM_STATE_GOOD p) 0).portState p 2
      ((c.raise F.PORTS_INT_STATUS_RESUMED).portPaths p n false).notice? x.tok .ok []

/-! ### Input capture (R336) -/

/-- The sample of slot k at place j of a block: that of the last frame up to j, else the held value. -/
def slotAt (frames : List (Nat × List Int)) (before : List Int) (k j : Nat) : Int :=
  match frames.find? fun f => decide (f.1 ≤ j) with
  | some f => f.2.getD k 0
  | none => before.getD k 0

/-- The block of slot k of a port that begins at count b (R330, R333). -/
def Core.slotBlock (c : Core) (p k b : Nat) : List Int :=
  let x := c.tdm p
  let before := match x.frames.getLast? with
    | some f => f.2
    | none => x.held
  (List.range c.blk).map fun j =>
    let n := b + j
    match x.muteAt, x.rise with
    | some a, _ => if n < a then slotAt x.frames before k j else weighted (wOut (n - a) c.blk) (x.held.getD k 0)
    | none, some (a, g) => if n < a then 0 else weighted (wIn (n - a) g) (slotAt x.frames before k j)
    | none, none => if c.portSt p = 2 then slotAt x.frames before k j else 0

/-- The captured blocks of every enabled receive slot, by source code; the frames make room for the next block. -/
def Core.captureTdm (c : Core) (b : Nat) : SMap (List Int) × Core :=
  (List.range 8).foldl (fun a p =>
    match (a.2.tdm p).run with
    | some r =>
      if bitOf r.1 0 then
        let m := (List.range (bitsOf r.1 7 2)).foldl (fun m k =>
          if bitOf r.2.1 k then smSet (fun _ => []) m (32 * p + k) (a.2.slotBlock p k b) else m) a.1
        (m, a.2.setTdm p { a.2.tdm p with frames := [] })
      else a
    | none => a) ([], c)

/-! ### Non-PCM payloads (R341 to R343) -/

/-- Whether two words are Pa and Pb in one of the widths of ST 337. -/
def pcmSign (a b : Int) : Bool :=
  let x := unsigned 24 a
  let y := unsigned 24 b
  (x / 2 ^ 8 = 0xF872 && y / 2 ^ 8 = 0x4E1F) || (x / 2 ^ 4 = 0x6F872 && y / 2 ^ 4 = 0x54E1F) ||
    (x = 0x96F872 && y = 0xA54E1F)

/-- Whether a channel's block, after the sample before it, holds a preamble in two consecutive samples. -/
def burstIn : Int → List Int → Bool
  | _, [] => false
  | a, b :: t => pcmSign a b || burstIn b t

/-- Whether two channels of a pair hold a preamble in the same sample. -/
def pairBurst : List Int → List Int → Bool
  | a :: s, b :: t => pcmSign a b || pairBurst s t
  | _, _ => false

/-- Whether a source is marked non-PCM. -/
def Core.marked (c : Core) (s : Nat) : Bool := (smGet (fun _ => none) c.arm.marks s).isSome

/-- NONPCM_ANY follows the marks. -/
def Core.nonpcmAny (c : Core) : Core := c.setB F.ARMATURE_STATUS_NONPCM_ANY (c.arm.marks.any fun x => x.2.isSome)

/-- A direct path that is not data-transparent outputs 0 (R343). -/
def Core.dpMute (c : Core) (n : Nat) : Core :=
  let x := c.dp n
  if x.nonpcm ∨ c.flag (F.ARMATURE_DP_CTRL_TRANSPARENT n) ∨ !c.flag (F.ARMATURE_DP_CTRL_ACTIVE n) then c
  else
    let c := (c.setDp n { x with nonpcm := true }).setF (F.ARMATURE_DP_CTRL_NONPCM n) 1
    (c.count R.ARMATURE_DP_NONPCM_COUNT).raise F.ARMATURE_INT_STATUS_DP_NONPCM

/-- The direct paths that take their words from a source. -/
def Core.dpsOf (c : Core) (s : Nat) : List Nat :=
  (List.range 256).filter fun n => smGet (fun _ => 0xFFF) c.arm.live (0x1800 + n) % 2 ^ 12 = s

/-- A sign of a payload is seen on a source by sample count n: the source is marked (R341). -/
def Core.mark (c : Core) (s n : Nat) : Core :=
  let was := c.marked s
  let c := { c with arm := { c.arm with marks := smSet (fun _ => none) c.arm.marks s (some n)
                                        rise := smSet (fun _ => none) c.arm.rise s none } }
  if was then c
  else
    let c := if c.flag F.ARMATURE_FIRST_NONPCM_VALID then c
      else (c.setF F.ARMATURE_FIRST_NONPCM_SOURCE s).setF F.ARMATURE_FIRST_NONPCM_VALID 1
    let c := ((c.count R.ARMATURE_NONPCM_COUNT).raise F.ARMATURE_INT_STATUS_NONPCM_ON).nonpcmAny
    (c.dpsOf s).foldl Core.dpMute c

/-- The receive channels of a block that begins at count b are examined. `pair` says which source forms a channel pair with one
on an even place; `flagged` are those whose channel status says non-audio. -/
def Core.examine (c : Core) (b : Nat) (m : SMap (List Int)) (pair : Nat → Option Nat) (flagged : List Nat) : Core :=
  let at_ := b + c.blk
  let seen := m.flatMap fun x =>
    let own := if burstIn (smGet (fun _ => 0) c.arm.last x.1) x.2 || flagged.contains x.1 then [x.1] else []
    let two := match pair x.1 with
      | some q => if pairBurst x.2 (smGet (fun _ => []) m q) then [x.1, q] else []
      | none => []
    own ++ two
  let c := seen.foldl (fun c s => c.mark s at_) c
  let last := m.foldl (fun l x => smSet (fun _ => 0) l x.1 (x.2.getLastD 0)) c.arm.last
  { c with arm := { c.arm with last := last } }

/-- NONPCM_HOLD samples pass without a sign: the mark clears and destinations rise from the next block boundary (R341, R342). -/
def nonpcmHoldExpire (s : Nat) (c : Core) : Core :=
  match smGet (fun _ => none) c.arm.marks s with
  | none => c
  | some n =>
    if c.now < n + c.f F.ARMATURE_NONPCM_HOLD_SAMPLES then c
    else
      let b := c.boundaryAt c.now
      let c := { c with arm := { c.arm with marks := smSet (fun _ => none) c.arm.marks s none
                                            rise := smSet (fun _ => none) c.arm.rise s (some b) } }
      let c := (c.raise F.ARMATURE_INT_STATUS_NONPCM_OFF).nonpcmAny
      (c.dpsOf s).foldl (fun c k =>
        let x := c.dp k
        if x.nonpcm then
          let y : DirectPath := { x with nonpcm := false, gS := 0, s0 := b, gT := if x.lost ∨ x.mute then 0 else x.target }
          (c.setDp k y).setF (F.ARMATURE_DP_CTRL_NONPCM k) 0
        else c) c

/-- A write of ARMATURE_FIRST_NONPCM: CLEAR clears the record. -/
def nonpcmRecordClear (m : Nat) (v : Word) (c : Core) : Core :=
  c.busWrite ⟨m, R.ARMATURE_FIRST_NONPCM, v⟩ 0 fun c => if bitOf v 30 then c.put R.ARMATURE_FIRST_NONPCM 0 else c

/-- What destinations receive of a source's block: zeros while it is marked, a rise after a mark (R342). -/
def Core.heard (c : Core) (b s : Nat) (xs : List Int) : List Int :=
  if c.marked s then xs.map fun _ => 0
  else match smGet (fun _ => none) c.arm.rise s with
    | some a => xs.zipIdx.map fun x => if b + x.2 < a then 0 else weighted (wIn (b + x.2 - a) c.glaze) x.1
    | none => xs

/-! ### The Armature (R344 to R348) -/

/-- The pool of network channels each way at a rate (R375). -/
def poolSize (mult : Nat) : Nat := 2048 / 2 ^ mult

/-- Whether a source code is issued. -/
def srcIssued (s : Nat) : Bool :=
  s < 0x910 || inRange 0xA00 0xC3F s || inRange 0xD00 0xEFF s || s = 0xFFF

/-- Whether a destination code is issued. -/
def destIssued (d : Nat) : Bool :=
  d ≤ 0x50F || inRange 0x600 0x6FF d || inRange 0x800 0x8FF d || inRange 0x1000 0x18FF d

/-- Whether a destination code is a port's: a TDM transmit slot or a network transmit channel. -/
def destPort (d : Nat) : Bool := inRange 0x800 0x8FF d || inRange 0x1000 0x17FF d

/-- Whether a source is allowed for a destination (R344). -/
def routeAllowed (d s : Nat) : Bool :=
  s = 0xFFF || (if 0x1800 ≤ d then s ≤ 0x8FF else if destPort d then true else !inRange 0xD00 0xDFF s)

/-- Whether a destination or a source lies beyond the capacity of a rate (R344). -/
def destBeyond (k : Caps) (mult d : Nat) : Bool :=
  (d < 0x400 && d ≥ k.objs) || (inRange 0x1000 0x17FF d && d ≥ 0x1000 + poolSize mult) ||
    (mult = 2 && !(destPort d || 0x1800 ≤ d))
def srcBeyond (k : Caps) (mult s : Nat) : Bool :=
  (inRange 0x100 0x8FF s && s ≥ 0x100 + poolSize mult) || (inRange 0xA00 0xBFF s && s ≥ 0xA00 + k.outs)

/-- The destinations of a bank that select a source other than silence: destination, source, TRANSPARENT. -/
def routesOf (m : SMap Nat) : List (Nat × Nat × Bool) :=
  (m.map fun x => (x.1, x.2 % 2 ^ 12, decide (x.2 ≥ 2 ^ 31))).filter fun x => decide (x.2.1 ≠ 0xFFF)

/-- The format of the stream that holds a network channel, by the words of its definition: 0 L24, 1 L16, 2 ST 2110-31; L24 where
no stream does. -/
def Core.netFormat (c : Core) (rx : Bool) (ch : Nat) : Nat :=
  let holds := fun (d : List Nat) =>
    let w : Word := .ofNat 32 (d.getD 1 0)
    let first := d.getD 2 0 % 2 ^ 11
    bitOf w 0 && first ≤ ch && ch < first + bitsOf w 22 16
  let ds := if rx then c.net.rx.map fun x => ((x.2.next.getLast?).map (·.1)).getD x.2.defn
    else c.net.tx.map fun x => ((x.2.next.getLast?).map (·.1)).getD x.2.defn
  match ds.find? holds with
  | some d => bitsOf (.ofNat 32 (d.getD 1 0)) 2 1
  | none => 0

/-- The data width of an end of a direct path: bits, and whether it is a 32-bit TDM slot (R345, step 4). -/
def Core.endWidth (c : Core) (tdm rx : Bool) (i : Nat) : Nat × Bool :=
  if tdm then
    let ctrl := c.get (R.PORTS_TDM_CTRL (i / 32))
    if slot16 ctrl then (16, false) else (24, decide (slotWidth ctrl = 32))
  else (if c.netFormat rx i = 1 then 16 else 24, false)

/-- Whether a TRANSPARENT path has equal widths at its ends. -/
def Core.widthsEqual (c : Core) (s d : Nat) : Bool :=
  let a := c.endWidth (decide (s < 0x100)) true (if s < 0x100 then s else s - 0x100)
  let b := c.endWidth (decide (d < 0x1000)) false (if d < 0x1000 then d - 0x800 else d - 0x1000)
  a.1 = b.1

/-- The first destination of a list for which a check fails. -/
def firstDest (l : List (Nat × Nat × Bool)) (q : Nat × Nat × Bool → Bool) : Option Nat := (l.find? q).map (·.1)

/-- The checks of a routing bank: status, step and destination (R345). -/
def Core.routeAdmit (c : Core) (m : SMap Nat) : Status × Nat × Nat :=
  let rs := routesOf m
  let k := c.caps
  let dpOut := fun (n : Nat) => rs.filter fun x => x.2.1 = 0xD00 + n
  let input := fun (n : Nat) => rs.any fun x => x.1 = 0x1800 + n
  let bad3 := fun (x : Nat × Nat × Bool) =>
    (inRange 0xD00 0xDFF x.2.1 && (!destPort x.1 || decide ((dpOut (x.2.1 - 0xD00)).length > 1) || !input (x.2.1 - 0xD00))) ||
      (decide (0x1800 ≤ x.1) && (dpOut (x.1 - 0x1800)).isEmpty)
  let bad4 := fun (x : Nat × Nat × Bool) =>
    decide (0x1800 ≤ x.1) && x.2.2 && !((dpOut (x.1 - 0x1800)).all fun y => c.widthsEqual x.2.1 y.1)
  match firstDest rs fun x => !srcIssued x.2.1 || !routeAllowed x.1 x.2.1 with
  | some d => (.badParam, 1, d)
  | none =>
    match firstDest rs fun x => destBeyond k c.clk.mult x.1 || srcBeyond k c.clk.mult x.2.1 with
    | some d => (.outOfRange, 2, d)
    | none =>
      match firstDest rs bad3 with
      | some d => (.badParam, 3, d)
      | none =>
        match firstDest rs bad4 with
        | some d => (.badParam, 4, d)
        | none =>
          let n := (rs.filter fun x => inRange 0x1000 0x17FF x.1).length
          if n > poolSize c.clk.mult then (.noResource, 5, 0xFFFFFFFF) else (.ok, 0, 0xFFFFFFFF)

/-- The Glaze of Palette 2 that runs. -/
def Core.glaze2 (c : Core) : Option (Nat × Nat) := (c.cal.glazes.find? (·.mask / 4 % 2 = 1)).map fun g => (g.b, g.g)

/-- The block that a destination receives at boundary B from the sources' blocks (R346). A destination on either side of a direct
path's output switches at B. -/
def Core.received (c : Core) (b : Nat) (src : Nat → List Int) (d : Nat) : List Int :=
  let s := smGet (fun _ => 0xFFF) c.arm.live d % 2 ^ 12
  let o := smGet (fun _ => 0xFFF) c.arm.staged d % 2 ^ 12
  let new := blockOf c.blk (src s)
  match c.glaze2 with
  | some (g0, g) =>
    if s = o ∨ inRange 0xD00 0xDFF s ∨ inRange 0xD00 0xDFF o then new
    else
      List.zipWith (fun (x : Int × Nat) (y : Int) =>
        let t := b + x.2 - g0
        sat 24 (rshr 23 (wOut t g * y + wIn t g * x.1))) new.zipIdx (blockOf c.blk (src o))
  | none => new

/-- The destinations that may receive a sound: those routed in the live bank, and while a Glaze of Palette 2 runs those of the
former bank. -/
def Core.routed (c : Core) : List Nat :=
  let l := (routesOf c.arm.live).map (·.1)
  if c.glaze2.isSome then (l ++ (routesOf c.arm.staged).map (·.1)).eraseDups else l

/-- A block list without blocks of zeros. -/
def dropZeros (m : SMap (List Int)) : SMap (List Int) := m.filter fun x => !x.2.all (· = 0)

/-- The Armature at boundary B: every destination receives its block (R344, R348). `src` holds the sources' blocks. The former
delivery block is the one emitted next. -/
def Core.deliver (c : Core) (b : Nat) (src : SMap (List Int)) : Core :=
  let get := fun (s : Nat) => smGet (fun _ => []) src s
  let rs : SMap (List Int) := c.routed.foldl (fun m d =>
    smSet (fun _ => []) m d (c.received b get d)) []
  let cut := fun (lo hi : Nat) => (rs.filter fun x => inRange lo hi x.1)
  let chan := (cut 0x500 0x50F).map fun x => (x.1 - 0x500, x.2)
  let muted := (List.range 16).foldl (fun (m : SMap Bool) i =>
    smSet (fun _ => false) m i (c.marked (smGet (fun _ => 0xFFF) c.arm.live (0x500 + i) % 2 ^ 12))) []
  let srcs := (List.range 16).foldl (fun (m : SMap Nat) i =>
    smSet (fun _ => 0) m i (smGet (fun _ => 0xFFF) c.arm.live (0x500 + i) % 2 ^ 12)) []
  { c with
    arm := { c.arm with src := dropZeros src, tx := c.arm.deliv,
                        deliv := dropZeros (rs.filter fun x => destPort x.1) }
    ren := { c.ren with cap := dropZeros (cut 0 0x4FF) }
    survey := { c.survey with chan := dropZeros chan, muted := muted, srcs := srcs }
    brush := { c.brush with inBufs := dropZeros ((cut 0x600 0x6FF).map fun x => (x.1 - 0x600, x.2)) } }

/-- ROUTE registers and direct paths follow the live bank; a path that becomes routed starts at 0 dB (R350). -/
def Core.loadRoutes (c : Core) (old : SMap Nat) : Core :=
  let ds := ((c.arm.live.map (·.1)) ++ old.map (·.1)).eraseDups
  ds.foldl (fun c d =>
    let w := smGet (fun _ => 0xFFF) c.arm.live d
    let v := smGet (fun _ => 0xFFF) old d
    let c := c.put (R.ARMATURE_ROUTE d) (.ofNat 32 w)
    if 0x1800 ≤ d ∧ w ≠ v then
      let n := d - 0x1800
      let on := decide (w % 2 ^ 12 ≠ 0xFFF)
      let c := (c.setB (F.ARMATURE_DP_CTRL_ACTIVE n) on).setB (F.ARMATURE_DP_CTRL_TRANSPARENT n) (decide (w ≥ 2 ^ 31))
      let s := w % 2 ^ 12
      let lost := decide (s < 0x100) && decide (c.portSt (s / 32) ≠ 2)
      if on && decide (v % 2 ^ 12 = 0xFFF) then
        let x : DirectPath := { lost := lost, nonpcm := c.marked s }
        let x := if lost then { x with gS := 0, gT := 0 } else x
        (((c.setDp n x).setF (F.ARMATURE_DP_TARGET_GAIN n) 2097152).setB (F.ARMATURE_DP_CTRL_NONPCM n) x.nonpcm).setF
          (F.ARMATURE_DP_CTRL_MUTE n) 0
      else
        let y := c.dp n
        c.setDp n (if y.lost = lost then y else { y with lost := lost }.toward c.time.n)
    else c) c

/-- A swap of Palette 2 at a boundary: the banks are exchanged (R346). -/
def Core.swapRoutes (c : Core) : Core :=
  let old := c.arm.live
  ({ c with arm := { c.arm with live := c.arm.staged, staged := c.arm.live, edited := false } }).loadRoutes old

/-! ### Editing and committing routes (R345, R347, R354) -/

/-- Edits and commits of Palette 2 are refused while its commit runs, a swap of it is pending or its Glaze runs. -/
def Core.armBusy (c : Core) : Bool := c.arm.commit.isSome || c.palBusy 2

def opRouteBegin : Opc := { code := 0x0510, len := (· = 4) }

/-- ROUTE_BEGIN. -/
def routeBeginBody : Body := fun c r =>
  if r.n 0 > 1 then ans c .badParam
  else if c.armBusy then ans c .busy
  else
    ans { c.setF (stagedReady 2) 0 with arm := { c.arm with staged := if r.n 0 = 1 then c.arm.live else [], edited := true } } .ok

/-- A route word: destination, and source with TRANSPARENT. -/
def routeItem (w : Word) : Nat × Nat := (bitsOf w 12 0, bitsOf w 27 16 + 2 ^ 31 * bitsOf w 31 31)

/-- Whether a route word is well-formed. -/
def routeOk (w : Word) : Bool :=
  bitsOf w 15 13 = 0 && bitsOf w 30 28 = 0 && destIssued (bitsOf w 12 0) && (!bitOf w 31 || bitsOf w 12 0 ≥ 0x1800)

/-- Route words written into a bank. -/
def writeRoutes (m : SMap Nat) (ws : List Word) : SMap Nat :=
  ws.foldl (fun m w => smSet (fun _ => 0xFFF) m (routeItem w).1 (routeItem w).2) m

def opRouteSet : Opc := { code := 0x0511, len := (8 ≤ ·) }

/-- ROUTE_SET. -/
def routeSetBody : Body := fun c r =>
  let n := r.n 0
  let ws := r.words.drop 1
  if !inRange 1 1024 n then ans c .outOfRange
  else if r.bytes.length ≠ 4 + 4 * n then ans c .badLength
  else if !ws.all routeOk then ans c .badParam
  else if c.armBusy then ans c .busy
  else ans { c.setF (stagedReady 2) 0 with arm := { c.arm with staged := writeRoutes c.arm.staged ws, edited := true } } .ok

def opRouteCommit : Opc := { code := 0x0512, len := (· = 0) }

/-- ROUTE_COMMIT starts. -/
def routeCommitBody : Body := fun c r =>
  if c.armBusy then ans c .busy else ans { c with arm := { c.arm with commit := some r.tok } } .accepted

/-- ROUTE_COMMIT completes with its three words. -/
def routeCommitDone (c : Core) : Core :=
  match c.arm.commit with
  | none => c
  | some t =>
    let a := c.routeAdmit c.arm.staged
    let c := { c with arm := { c.arm with commit := none } }
    let c := if a.1 = .ok then c.setF (stagedReady 2) 1 else c
    (c.raise F.ARMATURE_INT_STATUS_COMMIT_DONE).notice t a.1 (natBytes [statusCode a.1, a.2.1, a.2.2])

def opRouteGet : Opc := { code := 0x0513, len := (· = 12) }

/-- ROUTE_GET. -/
def routeGetBody : Body := fun c r =>
  if r.n 0 > 1 then ans c .badParam
  else if !inRange 1 1024 (r.n 2) ∨ r.n 1 + r.n 2 > 8192 then ans c .outOfRange
  else
    let m := if r.n 0 = 0 then c.arm.live else c.arm.staged
    okW c ((List.range (r.n 2)).map fun i =>
      let d := r.n 1 + i
      let w := smGet (fun _ => 0xFFF) m d
      d + 2 ^ 16 * (w % 2 ^ 12) + 2 ^ 31 * (w / 2 ^ 31))

def opRouteNow : Opc := { code := 0x0514, timeable := true, len := (12 ≤ ·), lateTime := true, eager := true }

/-- ROUTE_NOW (R347). -/
def routeNowBody : Body := fun c r =>
  let n := r.n 1
  let ws := r.words.drop 2
  if !inRange 1 1024 n then ans c .outOfRange
  else if r.bytes.length ≠ 8 + 4 * n then ans c .badLength
  else if c.arm.edited then ans c .busy
  else if c.armBusy then ans c .busy
  else if !ws.all routeOk then ans c .badParam
  else
    let m := writeRoutes c.arm.live ws
    let a := c.routeAdmit m
    if a.1 ≠ .ok then ans c a.1
    else
      let d : Core := { c.setF (stagedReady 2) 1 with arm := { c.arm with staged := m } }
      let x := d.swapRequest r 4 (r.n 0) c.glaze
      if x.2.1 = .accepted then x else ans c x.2.1

/-! ### Direct paths (R349 to R351) -/

/-- A source word reaches direct path n at sample place j: 32 bits with the sample at the top. -/
def directPathWord (n j raw : Nat) (c : Core) : Core :=
  if n > 255 ∨ !c.flag (F.ARMATURE_DP_CTRL_ACTIVE n) ∨ j ≥ c.blk then c
  else
    let x := c.dp n
    let t := c.time.n + j
    let raw := raw % 2 ^ 32
    if c.flag (F.ARMATURE_DP_CTRL_TRANSPARENT n) then
      let y := if x.lost ∨ c.clk.dpCut then 0 else raw
      c.setDp n { x with word := raw, out := y, outs := (j, y) :: x.outs }
    else
      let raw := if x.lost then x.word else raw
      let s := signed 24 (raw / 256)
      let g := x.gain t
      let v := if x.nonpcm then 0 else weighted (c.clk.dpGate.weight t) (sat 24 (rshr 21 (g * s)))
      let y := unsigned 24 v * 256
      let found := !x.lost && pcmSign x.prev s
      let c := c.setDp n { x with word := raw, prev := s, out := y, outs := (j, y) :: x.outs }
      let c := c.setFs (F.ARMATURE_DP_GAIN_GAIN n) g
      let c := c.put (R.ARMATURE_DP_GAIN n) (.ofNat 32 (w32 g))
      if found then c.dpMute n else c

/-- The block of a direct path that begins at count b, with its samples as 32-bit words. -/
def Core.dpBlock (c : Core) (n : Nat) : List Nat :=
  let x := c.dp n
  (List.range c.blk).map fun j => ((x.outs.find? fun y => decide (y.1 ≤ j)).map (·.2)).getD 0

/-- A boundary has passed: the words of the last block make room. -/
def Core.dpTurn (c : Core) : Core :=
  let dps := c.arm.dps.map fun x => (x.1, { x.2 with outs := [] })
  { c with arm := { c.arm with dps := dps.filter fun x => decide (x.2 ≠ ({} : DirectPath)) } }

def opDirectGain : Opc := { code := 0x0520, timeable := true, len := (· = 16), eager := true }

/-- DIRECT_GAIN_SET (R350). -/
def directGainBody : Body := fun c r =>
  match sext? 24 (r.w 2) with
  | none => ans c .badParam
  | some g =>
    if r.n 3 > 1 then ans c .badParam
    else if r.n 1 = 0 ∨ r.n 0 + r.n 1 > 256 then ans c .outOfRange
    else
      let ps := (List.range (r.n 1)).map (· + r.n 0)
      if ps.any fun n => c.flag (F.ARMATURE_DP_CTRL_TRANSPARENT n) then ans c .notPermitted
      else
        let q : DirectReq := { b := r.boundary c (c.boundaryAt (c.now + 2 * c.blk)), first := r.n 0, count := r.n 1,
                               gain := g, mute := r.n 3 = 1, todo := ps, tok := r.tok }
        ans { c with arm := { c.arm with dpReqs := c.arm.dpReqs ++ [q] } } .accepted

/-- At boundary b the gain of a direct path starts its ramp. -/
def directGainChange (n : Nat) (c : Core) : Core :=
  match c.arm.dpReqs.find? fun q => q.todo.contains n && decide (q.b ≤ c.now) with
  | none => c
  | some q =>
    let qs := c.arm.dpReqs.map fun x => if x = q then { x with todo := x.todo.erase n } else x
    let x := { c.dp n with target := q.gain, mute := q.mute }
    let c := ({ c with arm := { c.arm with dpReqs := qs } }).setDp n (x.toward q.b)
    (c.put (R.ARMATURE_DP_TARGET n) (.ofNat 32 (w32 (if q.mute then 0 else q.gain)))).setB (F.ARMATURE_DP_CTRL_MUTE n) q.mute

/-- Requests whose ramps have all ended give their notices. -/
def Core.directDone (c : Core) : Core :=
  let past := fun (q : DirectReq) => q.todo.isEmpty && decide (q.b + 32 ≤ c.now)
  (c.arm.dpReqs.filter past).foldl (fun c q => c.notice q.tok .ok [])
    { c with arm := { c.arm with dpReqs := c.arm.dpReqs.filter fun q => !past q } }

def opDirectGet : Opc := { code := 0x0521, len := (· = 4) }

/-- DIRECT_GET. -/
def directGetBody : Body := fun c r =>
  let n := r.n 0
  if n > 255 then ans c .outOfRange
  else
    let d := ((routesOf c.arm.live).find? fun x => x.2.1 = 0xD00 + n).map (·.1)
    okW c [(c.get (R.ARMATURE_DP_CTRL n)).toNat, (c.get (R.ARMATURE_DP_TARGET n)).toNat, (c.get (R.ARMATURE_DP_GAIN n)).toNat,
      smGet (fun _ => 0xFFF) c.arm.live (0x1800 + n) % 2 ^ 12, d.getD 0xFFFFFFFF]

/-! ### Meters (R352) -/

/-- The phases of the interpolating filter of ITU-R BS.1770-4, Annex 2, in units of 2⁻¹³. -/
def tpPhase (k : Nat) : List Int :=
  let a : List Int := [14, 90, -161, 272, -487, 1125, 7964, -838, 390, -218, 122, -68]
  let b : List Int := [-239, 240, -424, 730, -1364, 3810, 6388, -1641, 832, -477, 271, -155]
  match k with
  | 0 => a
  | 1 => b
  | 2 => b.reverse
  | _ => a.reverse

/-- The phases that a rate uses. -/
def tpPhases (mult : Nat) : List Nat := if mult = 0 then [0, 1, 2, 3] else if mult = 1 then [0, 2] else []

/-- 20 log₁₀ of a fraction of full scale in 0.01 dB, as 16 bits; 0x8000 below −120 dB. -/
def meterDb (x : Fx) (factor : Int) : Nat :=
  if x ≤ 0 then 0x8000
  else
    let v := roundFx 0 (fdiv (factor * flog x) fln10)
    if v < -12000 then 0x8000 else unsigned 16 v

/-- A meter value as a signed number, for a comparison. -/
def meterVal (v : Nat) : Int := signed 16 v

/-- A held value after a new one at count n. -/
def holdMax (h : Nat × Nat) (v n : Nat) : Nat × Nat := if meterVal v > meterVal h.1 then (v, n) else h

/-- The meter of a source takes its block, which ends at count n. -/
def Core.meterBlock (c : Core) (s n : Nat) (xs : List Int) : Core :=
  let x : SrcMeter := smGet (fun _ => {}) c.arm.meters s
  let peakF : Field := ⟨R.ARMATURE_METER_PEAK s, 23, 0⟩
  let old := c.f peakF
  let mag := xs.foldl (fun a v => max a v.natAbs) 0
  let peak := max old (min mag (2 ^ 24 - 1))
  let run := xs.foldl (fun (a : List Int × Nat) v =>
    let h := (v :: a.1).take 12
    (h, (tpPhases c.clk.mult).foldl (fun m k =>
      max m ((List.zipWith (· * ·) (tpPhase k) h).foldl (· + ·) 0).natAbs) (max a.2 (v.natAbs * 8192))))
    (x.hist, if old = 0 then 0 else x.tp)
  let tp := meterDb (fx run.2 (2 ^ 36)) 2000
  let win := 2 ^ (11 + min 6 (c.f F.ARMATURE_METER_CTRL_RMS_WIN)) / c.blk
  let powers := ((xs.foldl (fun a v => a + v.natAbs * v.natAbs) 0) :: x.powers).take win
  let rms := meterDb (fx ((powers.foldl (· + ·) 0 : Nat) : Int) (win * c.blk * 2 ^ 46)) 1000
  let y : SrcMeter := { x with hist := run.1, tp := run.2, powers := powers, rms := rms
                               hold := if peak > x.hold.1 then (peak, n) else x.hold
                               holdTp := holdMax x.holdTp tp n, holdRms := holdMax x.holdRms rms n }
  let c := { c with arm := { c.arm with meters := smSet (fun _ => {}) c.arm.meters s y } }
  let c := c.setF peakF peak
  let c := c.put (R.ARMATURE_METER_TP s) (.ofNat 32 (tp + 2 ^ 16 * y.holdTp.1))
  let c := c.put (R.ARMATURE_METER_RMS s) (.ofNat 32 (rms + 2 ^ 16 * y.holdRms.1))
  c.put (R.ARMATURE_METER_HOLD s) (.ofNat 32 y.hold.1)

/-- Every meter with something to measure takes the blocks of the sources at a boundary. -/
def Core.meterAll (c : Core) (n : Nat) (src : SMap (List Int)) : Core :=
  let ss := (src.map (·.1) ++ c.arm.meters.map (·.1)).eraseDups
  ss.foldl (fun c s => c.meterBlock s n (blockOf c.blk (smGet (fun _ => []) src s))) c

/-- The held values of a meter start again from the present ones; `which` selects peak, true peak and RMS by bits 0 to 2. -/
def Core.holdReset (c : Core) (s which : Nat) : Core :=
  let x : SrcMeter := smGet (fun _ => {}) c.arm.meters s
  let n := c.now
  let tp := (c.get (R.ARMATURE_METER_TP s)).toNat % 2 ^ 16
  let y : SrcMeter := { x with
    hold := if which % 2 = 1 then (c.f ⟨R.ARMATURE_METER_PEAK s, 23, 0⟩, n) else x.hold
    holdTp := if which / 2 % 2 = 1 then (tp, n) else x.holdTp
    holdRms := if which / 4 % 2 = 1 then (x.rms, n) else x.holdRms }
  let c := { c with arm := { c.arm with meters := smSet (fun _ => {}) c.arm.meters s y } }
  let c := c.put (R.ARMATURE_METER_TP s) (.ofNat 32 (tp + 2 ^ 16 * y.holdTp.1))
  let c := c.put (R.ARMATURE_METER_RMS s) (.ofNat 32 ((c.get (R.ARMATURE_METER_RMS s)).toNat % 2 ^ 16 + 2 ^ 16 * y.holdRms.1))
  c.put (R.ARMATURE_METER_HOLD s) (.ofNat 32 y.hold.1)

/-- A held value of a meter, 0 peak, 1 true peak, 2 RMS, expires after HOLD × 0.1 s. -/
def meterHoldExpire (s which : Nat) (c : Core) : Core :=
  let x : SrcMeter := smGet (fun _ => {}) c.arm.meters s
  let h := c.f F.ARMATURE_METER_CTRL_HOLD
  let at_ := if which = 0 then x.hold.2 else if which = 1 then x.holdTp.2 else x.holdRms.2
  if s > 4095 ∨ !srcIssued s ∨ which > 2 ∨ h = 0 ∨ 10 * c.now < 10 * at_ + h * c.fsHz then c else c.holdReset s (2 ^ which)

def opMeterGet : Opc := { code := 0x0540, len := (· = 8) }

/-- METER_GET: PEAK is cleared. -/
def meterGetBody : Body := fun c r =>
  if !inRange 1 256 (r.n 1) ∨ r.n 0 + r.n 1 > 4096 then ans c .outOfRange
  else
    let ss := (List.range (r.n 1)).map (· + r.n 0)
    (ss.foldl (fun c s => c.put (R.ARMATURE_METER_PEAK s) 0) c, .ok,
      natBytes (ss.flatMap fun s =>
        if !srcIssued s then [0, 0, 0, 0]
        else [R.ARMATURE_METER_PEAK s, R.ARMATURE_METER_TP s, R.ARMATURE_METER_RMS s, R.ARMATURE_METER_HOLD s].map
          fun x => (c.get x).toNat))

def opMeterConfig : Opc := { code := 0x0541, len := (· = 4) }

/-- METER_CONFIG. -/
def meterConfigBody : Body := fun c r =>
  let w := r.w 0
  if bitsOf w 7 3 ≠ 0 ∨ bitsOf w 31 16 ≠ 0 then ans c .badParam
  else if bitsOf w 2 0 > 6 then ans c .outOfRange
  else ans (c.put R.ARMATURE_METER_CTRL w) .ok

def opMeterHold : Opc := { code := 0x0542, timeable := true, len := (· = 8) }

/-- METER_HOLD_RESET. -/
def meterHoldBody : Body := fun c r =>
  if r.n 1 = 0 ∨ r.n 0 + r.n 1 > 4096 then ans c .outOfRange
  else ans (((List.range (r.n 1)).map (· + r.n 0)).foldl (fun c s => if srcIssued s then c.holdReset s 7 else c) c) .ok

def opNonpcmGet : Opc := { code := 0x0550, len := (· = 0) }

/-- NONPCM_GET: 128 words of marks. -/
def nonpcmGetBody : Body := fun c _ =>
  okW c ((List.range 128).map fun w =>
    (List.range 32).foldl (fun a b => if c.marked (32 * w + b) then a + 2 ^ b else a) 0)

/-! ### Port opcodes (R354) -/

def opPortConfig : Opc := { code := 0x0500, len := (· = 16) }

/-- PORT_CONFIG: applied as a function reset of the port (R353). -/
def portConfigBody : Body := fun c r =>
  let p := r.n 0
  if p > 7 then ans c .outOfRange
  else if (c.tdm p).inReset then ans c .aborted
  else
    match portCheck c.clk.mult (r.w 1) (r.w 2) (r.w 3) with
    | some st => ans c st
    | none =>
      let x := c.tdm p
      let c := c.notice? x.tok .aborted []
      let c := ((c.put (R.PORTS_TDM_CTRL p) (r.w 1)).put (R.PORTS_TDM_RX_MASK p) (r.w 2)).put (R.PORTS_TDM_TX_MASK p) (r.w 3)
      let at_ := if c.portSt p = 2 then some c.now else x.muteAt
      ans (c.setTdm p { x with restart := true, tok := some r.tok, muteAt := at_ }) .accepted

def opPortStatus : Opc := { code := 0x0501, len := (· = 4) }

/-- PORT_STATUS_GET: the class S counters are cleared as by an RC read. -/
def portStatusBody : Body := fun c r =>
  let p := r.n 0
  if p > 7 then ans c .outOfRange
  else
    let s := [R.PORTS_TDM_FRAMING p, R.PORTS_TDM_LOSS_COUNT p, R.PORTS_TDM_RATE_COUNT p, R.PORTS_TDM_SLIP p]
    (s.foldl (fun c x => c.put x 0) c, .ok,
      natBytes (([R.PORTS_TDM_CTRL p, R.PORTS_TDM_RX_MASK p, R.PORTS_TDM_TX_MASK p, R.PORTS_TDM_STATE p, R.PORTS_TDM_RATE p,
        R.PORTS_TDM_PHASE p] ++ s ++ [R.PORTS_TDM_FRAMES p]).map fun x => (c.get x).toNat))

/-! ### Ports and other events (R128, R353) -/

/-- A function reset of a port starts: its slots fade out over one block. -/
def Core.portResetStart (c : Core) (p : Nat) : Core :=
  let x := c.tdm p
  if x.run.isSome ∧ c.flag (F.PORTS_TDM_CTRL_EN p) then
    let c := if c.portSt p = 2 then c.portMute p 1 c.now else c.portState p 1
    c.setTdm p { c.tdm p with inReset := true }
  else c.setTdm p { x with inReset := true }

/-- It ends: the port restarts at the next block boundary. -/
def Core.portResetEnd (c : Core) (p : Nat) : Core := c.setTdm p { c.tdm p with inReset := false, restart := true }

/-- The MEDIA domain has stopped: leaders hold their lines at 0, followers discard their input and hold their state. -/
def Core.portsFreeze (c : Core) : Core :=
  (List.range 8).foldl (fun c p => if c.flag (F.PORTS_TDM_CTRL_EN p) then c.portState p 6 else c) c

/-- The MEDIA domain restarts at count n: followers resume under R333, leaders from the restart block with a Glaze fade-in. -/
def Core.portsRestart (c : Core) (n : Nat) : Core :=
  let c := (List.range 8).foldl (fun c p =>
    let x := c.tdm p
    match x.run with
    | some r =>
      if !bitOf r.1 0 ∨ x.inReset then c
      else if bitOf r.1 1 ∧ c.portSt p = 2 ∨ bitOf r.1 1 ∧ c.portSt p = 6 then
        (((c.setTdm p { x with frames := [], held := [], muteAt := none, rise := some (n, c.glaze) }).portState p 2)).portPaths p n
          false
      else
        ((((c.setTdm p { x with frames := [], held := [], muteAt := some n, rise := none }).portState p 5)).setF
          (F.PORTS_TDM_STATE_GOOD p) 0).portPaths p n true
    | none => c) c
  { c with arm := { c.arm with src := [], deliv := [], tx := [], last := [] } }.dpTurn

/-- A change of rate turns off the ports whose slots or division no longer fit. -/
def Core.portsRate (c : Core) : Core :=
  (List.range 8).foldl (fun c p =>
    if c.flag (F.PORTS_TDM_CTRL_EN p) ∧ !slotsFit c.clk.mult (c.get (R.PORTS_TDM_CTRL p)) then c.portStart p else c) c

end Sys2Proof.Machine
end

