-- ==== Sys2Proof/Machine/Net.lean ====
section
/-! DEFINITION. The network ports: links, received frames, pause, transmit classes and gates, ARP, ICMP and IGMP (chapter 14). -/

namespace Sys2Proof.Machine

/-! ### Streams as they are defined -/

def Core.rxStream (c : Core) (s : Nat) : RxStream := smGet (fun _ => {}) c.net.rx s
def Core.setRxStream (c : Core) (s : Nat) (x : RxStream) : Core :=
  { c with net := { c.net with rx := smSet (fun _ => {}) c.net.rx s x } }
def Core.txStream (c : Core) (s : Nat) : TxStream := smGet (fun _ => {}) c.net.tx s
def Core.setTxStream (c : Core) (s : Nat) (x : TxStream) : Core :=
  { c with net := { c.net with tx := smSet (fun _ => {}) c.net.tx s x } }

/-- Word i of a stream definition. -/
def dw (d : List Nat) (i : Nat) : Word := .ofNat 32 (d.getD i 0)

/-- Fields of word 1 and word 2 of a definition (R385). -/
def defEn (d : List Nat) : Bool := bitOf (dw d 1) 0
def defFormat (d : List Nat) : Nat := bitsOf (dw d 1) 2 1
def defLeg (d : List Nat) (leg : Nat) : Bool := bitOf (dw d 1) (3 + leg)
def defPtime (d : List Nat) : Nat := bitsOf (dw d 1) 9 8
def defCh (d : List Nat) : Nat := bitsOf (dw d 1) 22 16
def defFirst (d : List Nat) : Nat := bitsOf (dw d 2) 10 0
def defL (d : List Nat) : Nat := bitsOf (dw d 2) 26 16

/-- Samples per packet (R373). -/
def packetSamples (mult code : Nat) : Nat := [6, 12, 16, 48].getD code 48 * 2 ^ mult

/-- Bytes per sample of a format (R374). -/
def formatBytes (f : Nat) : Nat := if f = 0 then 3 else if f = 1 then 2 else 4

/-- Whether a leg of a definition carries a VLAN tag. -/
def legTag (rx : Bool) (d : List Nat) (leg : Nat) : Bool :=
  if rx then bitOf (dw d (8 + 4 * leg)) 31 else bitOf (dw d (8 + 3 * leg)) 15

/-- The bytes of a leg's frame (R374). -/
def legFrame (mult : Nat) (rx : Bool) (d : List Nat) (leg : Nat) : Nat :=
  14 + 4 * b2n (legTag rx d leg) + 20 + 8 + 12 + defCh d * packetSamples mult (defPtime d) * formatBytes (defFormat d) + 4

/-- The definition of a stream that was taken last. -/
def lastDef (d : List Nat) (next : List (List Nat × Nat)) : List Nat := (next.getLast?.map (·.1)).getD d

/-- Every definition, in force or to come, of the enabled streams: direction, number and words. -/
def Core.streamDefs (c : Core) : List (Bool × Nat × List Nat) :=
  ((c.net.rx.flatMap fun x => (x.2.defn :: x.2.next.map (·.1)).map fun d => (true, x.1, d)) ++
    (c.net.tx.flatMap fun x => (x.2.defn :: x.2.next.map (·.1)).map fun d => (false, x.1, d))).filter fun x => defEn x.2.2

/-- Whether every enabled stream of a port still fits under a MAX_FRAME (R359). -/
def Core.streamsFit (c : Core) (p maxFrame : Nat) : Bool :=
  p ≥ 2 || c.streamDefs.all fun x => !defLeg x.2.2 p || decide (legFrame c.clk.mult x.1 x.2.2 p ≤ maxFrame)

/-- Whether an IPv4 address is a multicast group. -/
def isGroup (a : Nat) : Bool := a / 2 ^ 28 % 16 = 14

/-- The MAC address of a group (RFC 1112). -/
def groupMac (a : Nat) : Nat := 0x01005E000000 + a % 2 ^ 23

/-- The receive legs on a port with a group as destination: group, source filter and VID word. -/
def Core.groupsOf (c : Core) (p : Nat) : List (Nat × Nat × Word) :=
  c.streamDefs.filterMap fun x =>
    let d := x.2.2
    if x.1 && p < 2 && defLeg d p && isGroup (d.getD (5 + 4 * p) 0) then
      some (d.getD (5 + 4 * p) 0, d.getD (6 + 4 * p) 0, dw d (8 + 4 * p)) else none

/-! ### Frames that the module sends of its own accord -/

/-- The tag of a control frame: bit 15, PCP and VID, or 0 for none (R366). -/
def Core.controlTag (c : Core) (p : Nat) : Nat :=
  if c.flag (F.NET_VLAN_TAG p) then (c.get (R.NET_VLAN p)).toNat % 2 ^ 16 else 0

/-- A control frame waits: its class, its bytes untagged and without FCS, its kind and contents, with the tag in front. -/
def Core.control (c : Core) (p cls len : Nat) (kind : String) (ws : List Nat) : Core :=
  let tag := c.controlTag p
  c.queueFrame p { cls := cls, len := len + (if tag = 0 then 0 else 4), msg := .frame p cls kind (tag :: ws) }

/-- The module's own MAC address of a port. -/
def Core.mac (c : Core) (p : Nat) : Nat := c.f (F.NET_MAC_HI_MAC p) * 2 ^ 32 + (c.get (R.NET_MAC_LO p)).toNat

/-- Whether an address is NET_IP of a port, or its alias when that is not 0 (R362). -/
def Core.ownIp (c : Core) (p a : Nat) : Bool :=
  a ≠ 0 && (a = (c.get (R.NET_IP p)).toNat || a = (c.get (R.NET_IP_ALIAS p)).toNat)

/-- A PAUSE frame is sent: counted, and PAUSING follows (R364). -/
def Core.sendPause (c : Core) (p quanta : Nat) : Core :=
  ((c.send (.frame p 7 "PAUSE" [quanta])).count (R.NET_PAUSE_TX p)).setB (F.NET_STATUS_PAUSING p) (quanta ≠ 0)

/-- The source address of a port's streams: its alias where one is set (R382). -/
def Core.sourceIp (c : Core) (p : Nat) : Nat :=
  let a := (c.get (R.NET_IP_ALIAS p)).toNat
  if a ≠ 0 then a else (c.get (R.NET_IP p)).toNat

/-- The address that ARP must resolve for a destination: none for a group, the gateway off the subnet (R382). -/
def Core.nextHop (c : Core) (p dst : Nat) : Option Nat :=
  let mask := (c.get (R.NET_IP_MASK p)).toNat
  if isGroup dst then none
  else if dst &&& mask = (c.get (R.NET_IP p)).toNat &&& mask then some dst
  else some (c.get (R.NET_IP_GW p)).toNat

/-- The MAC address to which a destination resolves, once it does. -/
def Core.resolve (c : Core) (p dst : Nat) : Option Nat :=
  match c.nextHop p dst with
  | none => some (groupMac dst)
  | some h => smGet (fun _ => none) (c.netPort p).arp h

/-- The next hops that the transmit streams of a port need. -/
def Core.hops (c : Core) (p : Nat) : List Nat :=
  (c.streamDefs.filterMap fun x =>
    if !x.1 && p < 2 && defLeg x.2.2 p then c.nextHop p (x.2.2.getD (6 + 3 * p) 0) else none).eraseDups

/-- ARP requests go out for addresses (R382). -/
def Core.askArp (c : Core) (p : Nat) (l : List Nat) : Core :=
  l.foldl (fun (c : Core) a => c.control p 5 42 "ARP request" [a, c.sourceIp p]) c

/-- ARP_A, ARP_B and STATE of a transmit stream that runs (R382; 3 HELD while twin operation holds them). -/
def Core.txShow (c : Core) (s : Nat) : Core :=
  let d := (c.txStream s).defn
  if !defEn d then c.put (R.MEDIA_TX_STATE s) 0
  else
    let a := defLeg d 0 && (c.resolve 0 (d.getD 6 0)).isSome
    let b := defLeg d 1 && (c.resolve 1 (d.getD 9 0)).isSome
    let st := if !c.clk.mediaOn then 4 else if c.twinHeld then 3 else if a || b then 1 else 2
    ((c.setF (F.MEDIA_TX_STATE_STATE s) st).setB (F.MEDIA_TX_STATE_ARP_A s) a).setB (F.MEDIA_TX_STATE_ARP_B s) b

/-- All transmit streams show their state. -/
def Core.txShowAll (c : Core) : Core := c.net.tx.foldl (fun (c : Core) x => c.txShow x.1) c

/-! ### Links and cages (R61, R356, R357) -/

/-- The module's own latency figures in units of 2⁻¹⁶ ns, ingress and egress (R102). -/
def portLatency (rate fec : Nat) : Int × Int :=
  if rate = 1 then (96 * 65536, 74 * 65536)
  else if fec = 1 then (118 * 65536, 58 * 65536)
  else if fec = 2 then (52 * 65536, 41 * 65536)
  else (142 * 65536, 123 * 32768)

/-- SFPn_TX_DIS is low while the port is enabled and its cage holds a module (R357). -/
def Core.txDis (c : Core) (p : Nat) : Core :=
  c.send (.pin "SFP_TX_DIS" p (!(c.flag (F.NET_CTRL_EN p) && c.flag (F.NET_STATUS_SFP_PRESENT p))))

/-- The PCS of a port has held lock for 10 ms. -/
def linkUp (p : Nat) (c : Core) : Core :=
  if p > 3 ∨ c.gated (R.NET_STATUS p) ∨ !c.flag (F.NET_CTRL_EN p) ∨ !c.flag (F.NET_STATUS_SFP_PRESENT p) ∨
      c.flag (F.NET_STATUS_LINK_UP p) ∨ (c.netPort p).inReset then c
  else
    let rate := if p = 2 then 0 else c.f (F.NET_CTRL_RATE p)
    let fec := if rate = 1 then 2 else if c.f (F.NET_CTRL_FEC p) = 3 then 0 else c.f (F.NET_CTRL_FEC p)
    let c := ((c.setF (F.NET_STATUS_LINK_UP p) 1).setF (F.NET_STATUS_BLOCK_LOCK p) 1).setF (F.NET_STATUS_RATE p) rate
    let c := (c.setF (F.NET_STATUS_FEC p) fec).raise (F.NET_INT_STATUS_LINK_UP p)
    let own := portLatency rate fec
    let more := smGet (fun _ => ((0 : Int), (0 : Int))) c.cfg.latency p
    if p = 2 then c
    else
      (c.put (R.TIME_PORT_INGRESS p) (.ofNat 32 (unsigned 32 (own.1 + more.1)))).put (R.TIME_PORT_EGRESS p)
        (.ofNat 32 (unsigned 32 (own.2 + more.2)))

/-- A leg of a receive stream is lost (R378). -/
def Core.legLost (c : Core) (s leg : Nat) : Core :=
  let x := c.rxStream s
  let was := if leg = 0 then x.lostA else x.lostB
  if was ∨ !defEn x.defn ∨ !defLeg x.defn leg then c
  else
    let c := c.setRxStream s (if leg = 0 then { x with lostA := true } else { x with lostB := true })
    let c := c.setF (if leg = 0 then F.MEDIA_RX_STATE_LEG_A_UP s else F.MEDIA_RX_STATE_LEG_B_UP s) 0
    (c.count (R.MEDIA_RX_LEG_LOSS s)).raise F.MEDIA_INT_STATUS_LEG_LOSS

/-- A port goes down: counted, its frames discarded, and the legs of receive streams on it lost at once (R357, R378). -/
def Core.portDown (c : Core) (p : Nat) : Core :=
  if !c.flag (F.NET_STATUS_LINK_UP p) then c
  else
    let x := c.netPort p
    let c := (c.setF (F.NET_STATUS_LINK_UP p) 0).setF (F.NET_STATUS_BLOCK_LOCK p) 0
    let c := (c.count (R.NET_LINK_DOWN p)).raise (F.NET_INT_STATUS_LINK_DOWN p)
    let c := x.txq.foldl (fun (c : Core) f => match f.stream with
      | some s => (c.count (R.MEDIA_TX_DROP s.1)).raise F.MEDIA_INT_STATUS_TX_DROP
      | none => c) c
    let c := c.setNetPort p { x with txq := [] }
    if p < 2 then c.net.rx.foldl (fun (c : Core) y => c.legLost y.1 p) c else c

/-- 1 ms without lock declares link down. -/
def linkDown (p : Nat) (c : Core) : Core := if p > 3 then c else c.portDown p

/-- The receive buffer holds some bytes: FILL and PEAK follow. -/
def Core.setFill (c : Core) (p n : Nat) : Core :=
  let c := c.setNetPort p { c.netPort p with fill := n }
  (c.setF (F.NET_BUFFER_FILL_FILL p) (n / 1024)).setF (F.NET_BUFFER_FILL_PEAK p) (max (c.f (F.NET_BUFFER_FILL_PEAK p)) (n / 1024))

/-- A port is reset: as link down, with its queues cleared; gate lists, configuration and counters are kept (R384). -/
def Core.netReset (c : Core) (p : Nat) : Core :=
  let c := (c.portDown p).setFill p 0
  let c := c.setNetPort p { c.netPort p with txq := [], arp := [] }
  ((c.setF (F.NET_STATUS_PAUSED p) 0).setF (F.NET_STATUS_PAUSING p) 0).txShowAll

/-- SFP_PRESENT and SFP_LOS show the sideband lines. -/
def Core.sfpPins (c : Core) (p : Nat) : Core :=
  let x := smGet (fun _ => none) c.power.cages p
  (c.setB (F.NET_STATUS_SFP_PRESENT p) x.isSome).setB (F.NET_STATUS_SFP_LOS p) (x = some true)

/-- All ports show their sideband lines, and RATE of P3 starts as strapped (R44, R356). -/
def Core.readPins (c : Core) : Core :=
  ((List.range 4).foldl Core.sfpPins c).setB (F.NET_CTRL_RATE 3) (!c.flag F.SYS_STRAPS_P3_RATE)

/-- A module is inserted in a cage: its identity is read (R61). -/
def sfpModuleInsert (p : Nat) (los : Bool) (id : List Byte) (c : Core) : Core :=
  if p > 3 ∨ (smGet (fun _ => none) c.power.cages p).isSome then c
  else
    let c := { c with power := { c.power with cages := smSet (fun _ => none) c.power.cages p (some los),
                                              sfpId := smSet (fun _ => []) c.power.sfpId p id } }
    if c.power.step < 3 ∨ c.gated (R.NET_STATUS p) then c
    else
      ((c.sfpPins p).raise (F.NET_INT_STATUS_SFP_CHANGE p)).txDis p

/-- A module is removed: SFPn_MOD_ABS is high and the port is held down (R357). -/
def sfpModuleRemove (p : Nat) (c : Core) : Core :=
  if p > 3 ∨ (smGet (fun _ => none) c.power.cages p).isNone then c
  else
    let c := { c with power := { c.power with cages := smSet (fun _ => none) c.power.cages p none,
                                              sfpId := smSet (fun _ => []) c.power.sfpId p [] } }
    if c.power.step < 3 ∨ c.gated (R.NET_STATUS p) then c
    else (((c.sfpPins p).raise (F.NET_INT_STATUS_SFP_CHANGE p)).txDis p).portDown p

/-- SFPn_LOS changes level. -/
def sfpLosChange (p : Nat) (level : Bool) (c : Core) : Core :=
  if p > 3 ∨ (smGet (fun _ => none) c.power.cages p) ≠ some (!level) then c
  else
    let c := { c with power := { c.power with cages := smSet (fun _ => none) c.power.cages p (some level) } }
    if c.power.step < 3 ∨ c.gated (R.NET_STATUS p) then c
    else (c.sfpPins p).raise (F.NET_INT_STATUS_SFP_CHANGE p)

/-! ### Received frames (R355, R358, R361 to R364) -/

/-- What becomes of an accepted frame. -/
inductive FrameUse where
  | filtered | l3err | control | other | priority
deriving DecidableEq, Repr

/-- A big-endian number in a frame. -/
def be (l : List Byte) (at_ n : Nat) : Nat := beNat ((l.drop at_).take n)

/-- The one's complement sum of 16-bit words, carries folded in. -/
def onesSum (l : List Byte) : Nat :=
  let s := (List.range ((l.length + 1) / 2)).foldl (fun a i =>
    a + (l.getD (2 * i) 0).toNat * 256 + (l.getD (2 * i + 1) 0).toNat) 0
  let s := s % 65536 + s / 65536
  s % 65536 + s / 65536

/-- Whether the UDP checksum of an IPv4 datagram, its header and what follows, is 0 or right (RFC 768). -/
def udpOk (ip udp : List Byte) : Bool :=
  be udp 6 2 = 0 || onesSum ((ip.drop 12).take 8 ++ [0, 17] ++ (udp.drop 4).take 2 ++ udp.take (be udp 4 2)) = 65535

/-- Whether a port takes frames for a destination MAC address (R361). -/
def Core.macTaken (c : Core) (p dst : Nat) : Bool :=
  dst = c.mac p || dst = 0xFFFFFFFFFFFF || (p ≠ 2 && (dst = 0x01005E000181 || dst = 0x01005E000001)) ||
    (c.groupsOf p).any fun g => groupMac g.1 = dst

/-- Whether a port takes frames with a VID (R361). -/
def Core.vidTaken (c : Core) (p : Nat) (vid : Option Nat) : Bool :=
  match vid with
  | none => true
  | some v => v = c.f (F.NET_VLAN_VID p) || (p < 2 && c.streamDefs.any fun x =>
      x.1 && defLeg x.2.2 p && bitsOf (dw x.2.2 (8 + 4 * p)) 27 16 = v)

/-- Whether a datagram matches a receive stream of a port in force: destination, source, port and VID (R378). -/
def legMatches (d : List Nat) (leg dst src port : Nat) (vid : Option Nat) : Bool :=
  let v := dw d (8 + 4 * leg)
  defEn d && defLeg d leg && d.getD (5 + 4 * leg) 0 = dst && (d.getD (6 + 4 * leg) 0 = 0 || d.getD (6 + 4 * leg) 0 = src) &&
    d.getD (7 + 4 * leg) 0 % 65536 = port && (vid = some (bitsOf v 27 16) || (!bitOf v 31 && vid = none))

/-- What becomes of an IPv4 datagram on a port (R355, R362, R363). -/
def Core.ipUse (c : Core) (p : Nat) (vid : Option Nat) (ip : List Byte) : FrameUse :=
  let ihl := 4 * (be ip 0 1 % 16)
  let proto := be ip 9 1
  let body := (ip.take (be ip 2 2)).drop ihl
  let port := be body 2 2
  if be ip 0 1 / 16 ≠ 4 ∨ ihl < 20 then .filtered
  else if onesSum (ip.take ihl) ≠ 65535 then .l3err
  else if be ip 6 2 % 16384 ≠ 0 then
    if p = 3 ∧ proto = 17 ∧ (be ip 6 2 % 8192 ≠ 0 ∨ port = 52080) then .other else .filtered
  else if proto = 1 then .other
  else if proto = 2 then (if p < 2 then .other else .filtered)
  else if proto ≠ 17 then .filtered
  else if !udpOk ip body then .l3err
  else if port = 319 ∨ port = 320 then .priority
  else if p = 3 then (if port = 52080 ∨ port = 52081 then .other else .filtered)
  else if c.net.rx.any fun x => legMatches x.2.defn p (be ip 16 4) (be ip 12 4) port vid then .priority
  else .filtered

/-- What becomes of an accepted frame, from its destination address on, without its FCS. -/
def Core.frameUse (c : Core) (p : Nat) (l : List Byte) : FrameUse :=
  let tagged := be l 12 2 = 0x8100
  let et := if tagged then be l 16 2 else be l 12 2
  let vid := if tagged then some (be l 14 2 % 4096) else none
  let body := l.drop (if tagged then 18 else 14)
  if et = 0x8808 then .control
  else if !c.macTaken p (be l 0 6) ∨ !c.vidTaken p vid then .filtered
  else if p = 2 then (if et = 0x88B5 then .other else .filtered)
  else if et = 0x0806 then .other
  else if et = 0x0800 then c.ipUse p vid body
  else .filtered

/-- An accepted frame takes room in the receive buffer, or is dropped (R363); PAUSE goes out when the fill rises above HIGH
(R364). -/
def Core.buffer (c : Core) (p len before : Nat) (priority : Bool) : Core :=
  let fill := min before (c.netPort p).fill
  if (!priority ∧ fill > 1024 * c.f (F.NET_DROP_OTHER_KIB p)) ∨ fill + len > 524288 then
    ((c.setFill p fill).count (R.NET_RX_BUFFER_DROP p)).raise (F.NET_INT_STATUS_BUFFER_DROP p)
  else
    let high := 1024 * c.f (F.NET_PAUSE_HIGH p)
    let c := c.setFill p (fill + len)
    if c.flag (F.NET_CTRL_TX_PAUSE_EN p) ∧ fill ≤ high ∧ high < fill + len then
      c.sendPause p (c.f (F.NET_PAUSE_QUANTA_QUANTA p))
    else c

/-- Octets count in units of 256, with the remainder carried (NET_RX_OCTETS). -/
def Core.octets (c : Core) (p len : Nat) (rx : Bool) : Core :=
  let x := c.netPort p
  let n := (if rx then x.rxRest else x.txRest) + len
  let c := c.setNetPort p (if rx then { x with rxRest := n % 256 } else { x with txRest := n % 256 })
  if n < 256 then c else c.countW (if rx then R.NET_RX_OCTETS p else R.NET_TX_OCTETS p) (n / 256)

/-- A frame of `len` bytes arrives; `fcs` is 0 for a good FCS, 1 for a bad one, 2 for none. `before` is what the buffer still held
and `bytes` the frame without its FCS. -/
def ethernetFrameReceive (p len fcs before : Nat) (bytes : List Byte) (c : Core) : Core :=
  let bad := fun (r : Nat) => (c.count r).raise (F.NET_INT_STATUS_RX_ERROR p)
  if p > 3 ∨ !c.flag (F.NET_STATUS_LINK_UP p) then c
  else if len < 64 then (if fcs = 0 then bad (R.NET_RX_UNDERSIZE p) else bad (R.NET_RX_FRAGMENT p))
  else if len > c.f (F.NET_MAX_FRAME_BYTES p) then bad (R.NET_RX_OVERSIZE p)
  else if fcs ≠ 0 then bad (R.NET_RX_FCS p)
  else
    let c := (c.countW (R.NET_RX_FRAMES p) 1).octets p len true
    let c := if be bytes 0 1 % 2 = 1 then c.countW (R.NET_RX_MULTICAST p) 1 else c
    match c.frameUse p bytes with
    | .filtered => c.countW (R.NET_RX_FILTERED p) 1
    | .l3err => c.count (R.NET_RX_L3_ERR p)
    | .control => c
    | .other => c.buffer p len before false
    | .priority => c.buffer p len before true

/-- The fill of the receive buffer falls to LOW (R364). -/
def rxBufferFillLow (p : Nat) (c : Core) : Core :=
  if p > 3 ∨ !c.flag (F.NET_STATUS_PAUSING p) then c
  else (c.setFill p (min (c.netPort p).fill (1024 * c.f (F.NET_PAUSE_LOW p)))).sendPause p 0

/-- Half the quanta time has passed with the fill above LOW (R364). -/
def pauseRepeat (p : Nat) (c : Core) : Core :=
  if p > 3 ∨ !c.flag (F.NET_STATUS_PAUSING p) ∨ (c.netPort p).fill ≤ 1024 * c.f (F.NET_PAUSE_LOW p) then c
  else if !c.flag (F.NET_CTRL_TX_PAUSE_EN p) then c.setF (F.NET_STATUS_PAUSING p) 0
  else c.sendPause p (c.f (F.NET_PAUSE_QUANTA_QUANTA p))

/-- A PAUSE frame arrives (R365). -/
def pauseFrameReceive (p quanta : Nat) (c : Core) : Core :=
  if p > 3 ∨ !c.flag (F.NET_STATUS_LINK_UP p) then c
  else
    let c := c.count (R.NET_PAUSE_RX p)
    if c.flag (F.NET_CTRL_RX_PAUSE_EN p) then c.setB (F.NET_STATUS_PAUSED p) (quanta % 65536 ≠ 0) else c

/-- The quanta time of a PAUSE frame runs out (R365). -/
def pauseQuantaExpire (p : Nat) (c : Core) : Core := if p > 3 then c else c.setF (F.NET_STATUS_PAUSED p) 0

/-! ### ARP, ICMP and IGMP (R362, R382, R383) -/

/-- An ARP request for an address. -/
def arpRequestReceive (p ip : Nat) (c : Core) : Core :=
  if p > 3 ∨ p = 2 ∨ !c.flag (F.NET_STATUS_LINK_UP p) ∨ !c.ownIp p ip then c
  else c.control p 5 42 "ARP reply" [ip, c.mac p]

/-- An ARP reply resolves an address that a stream needs. -/
def arpReplyReceive (p ip mac : Nat) (c : Core) : Core :=
  if !c.flag (F.NET_STATUS_LINK_UP p) ∨ !(c.hops p).contains ip then c
  else
    let x := c.netPort p
    (c.setNetPort p { x with arp := smSet (fun _ => none) x.arp ip (some (mac % 2 ^ 48)) }).txShowAll

/-- 60 s have passed: requests go out for every entry in use. -/
def arpRefresh (p : Nat) (c : Core) : Core := if p > 1 then c else c.askArp p (c.hops p)

/-- An ICMP echo request. -/
def icmpEchoReceive (p dst : Nat) (data : List Byte) (c : Core) : Core :=
  let x := c.netPort p
  let sec := c.time.cycles / 250000000
  let n := if x.echo.1 = sec then x.echo.2 else 0
  if p > 3 ∨ p = 2 ∨ !c.flag (F.NET_STATUS_LINK_UP p) ∨ !c.ownIp p dst ∨ n ≥ 100 then c
  else (c.setNetPort p { x with echo := (sec, n + 1) }).control p 5 (42 + data.length) "ICMP echo reply" (dst :: data.map (·.toNat))

/-- IGMPv3 messages go out on a port, one per group: the group, its source (INCLUDE, or 0 for EXCLUDE of none), whether it joins,
and the tag of a leg that names a VID (R383). -/
def Core.sendIgmp (c : Core) (p : Nat) (join : Bool) (l : List (Nat × Nat × Word)) : Core :=
  l.foldl (fun (c : Core) g =>
    let vid := bitsOf g.2.2 27 16
    c.queueFrame p { cls := 5, len := 54 + (if vid = 0 then 0 else 4),
                     msg := .frame p 5 (if join then "IGMPv3 report" else "IGMPv3 leave") [vid, g.1, g.2.1] }) c

/-- An IGMP query is answered with a report for every joined group. -/
def igmpQueryReceive (p : Nat) (c : Core) : Core :=
  if p > 1 ∨ !c.flag (F.NET_STATUS_LINK_UP p) then c else c.sendIgmp p true (c.groupsOf p).eraseDups

/-! ### Gates (R367 to R370) -/

/-- The entries of a list in the registers: gate states and interval. -/
def Core.gateList (c : Core) (base n : Nat) : List (Nat × Nat) :=
  (List.range n).map fun e => let w := c.get (base + 4 * e); (bitsOf w 7 0, bitsOf w 31 8)

/-- The entries of one cycle, cut off at its end or with the last one held (R368). -/
def cycleSegs : List (Nat × Nat) → Nat → List (Nat × Nat)
  | [], _ => []
  | [(g, _)], n => [(g, n)]
  | (g, d) :: t, n => if n ≤ d then [(g, n)] else (g, d) :: cycleSegs t (n - d)

/-- What is left of a cycle after some time. -/
def dropSegs : List (Nat × Nat) → Nat → List (Nat × Nat)
  | [], _ => []
  | (g, d) :: t, n => if d ≤ n then dropSegs t (n - d) else (g, d - n) :: t

/-- After what time a class is closed next, none when it stays open to the end of the list. -/
def closesIn (cls : Nat) : List (Nat × Nat) → Option Nat
  | [] => none
  | (g, d) :: t => if g / 2 ^ cls % 2 = 0 then some 0 else (closesIn cls t).map (· + d)

/-- The first cycle start after a time, computed from BASE (R370). -/
def cycleAfter (base cycle t : Nat) : Nat :=
  let k : Int := ((t : Int) - base) / (cycle : Int) + 1
  ((base : Int) + k * cycle).toNat

/-- The operating list of a port and one whole cycle of it. -/
def Core.operCycle (c : Core) (p : Nat) : List (Nat × Nat) :=
  cycleSegs (c.gateList (R.NET_GATE_OPER p 0) (c.f (F.NET_GATE_STATUS_OPER_COUNT p))) (c.netPort p).cycle

/-- Gate states from now to the end of the running cycle. -/
def Core.gateNow (c : Core) (p : Nat) : List (Nat × Nat) :=
  let x := c.netPort p
  match x.holdEntry with
  | some e => [(c.f (F.NET_GATE_OPER_GATES p e), cycleAfter x.base x.cycle c.ptpNs - c.ptpNs)]
  | none => dropSegs (c.operCycle p) (c.ptpNs - x.start)

/-- Whether gates act on a port: EN is 1 and an operating list is in force (R367). -/
def Core.gated? (c : Core) (p : Nat) : Bool := c.flag (F.NET_GATE_CTRL_EN p) && c.flag (F.NET_STATUS_GATE_RUN p)

/-- The admin list of a port and CYCLE and BASE in ns. -/
def Core.adminCycle (c : Core) (p : Nat) : List (Nat × Nat) :=
  cycleSegs (c.gateList (R.NET_GATE_ADMIN p 0) (c.f (F.NET_GATE_CTRL_COUNT p))) (c.f (F.NET_GATE_CYCLE_NS p))
def Core.adminBase (c : Core) (p : Nat) : Nat :=
  (c.get64 (R.NET_GATE_BASE_SEC_LO p) (R.NET_GATE_BASE_SEC_HI p) % 2 ^ 48) * 10 ^ 9 + c.f (F.NET_GATE_BASE_NS_NS p)

/-- After what time the gate of a class closes next: none when it does not; 0 when it is closed. -/
def Core.gateCloses (c : Core) (p cls : Nat) : Option Nat :=
  if !c.gated? p then none
  else
    let own := closesIn cls (c.gateNow p ++ c.operCycle p)
    match (c.netPort p).pending with
    | none => own
    | some (t, _) =>
      let left := t - c.ptpNs
      match own with
      | some d => if d < left then some d else (closesIn cls (c.adminCycle p)).map (· + left)
      | none => (closesIn cls (c.adminCycle p)).map (· + left)

/-- The operating entry at this time. -/
def Core.operIndex (c : Core) (p : Nat) : Nat :=
  match (c.netPort p).holdEntry with
  | some e => e
  | none => (c.operCycle p).length - (dropSegs (c.operCycle p) (c.ptpNs - (c.netPort p).start)).length

/-- The PTP counter is about to step: the entry in force is held (R370). -/
def Core.gateStep (c : Core) (p : Nat) : Core :=
  if c.flag (F.NET_STATUS_GATE_RUN p) then c.setNetPort p { c.netPort p with holdEntry := some (c.operIndex p) } else c

/-- Whether the admin list can be taken: COUNT, every interval and CYCLE in range (R368, R369). -/
def Core.adminGood (c : Core) (p : Nat) : Bool :=
  let n := c.f (F.NET_GATE_CTRL_COUNT p)
  inRange 1 256 n && inRange 1000 1000000000 (c.f (F.NET_GATE_CYCLE_NS p)) &&
    (c.gateList (R.NET_GATE_ADMIN p 0) n).all fun e => decide (100 ≤ e.2)

/-- GO: the change time is the first BASE + k × CYCLE at least 1 ms from now (R369). -/
def Core.gateGo (c : Core) (p : Nat) (tok : Option Tok) : Core :=
  let cyc := c.f (F.NET_GATE_CYCLE_NS p)
  let base := c.adminBase p
  let from_ := c.ptpNs + 1000000
  let t := if from_ ≤ base then base else base + ceilDiv (from_ - base) cyc * cyc
  let c := c.setNetPort p { c.netPort p with pending := some (t, tok) }
  (c.setF (F.NET_STATUS_GATE_PENDING p) 1).setF (F.NET_GATE_CTRL_GO p) 1

/-- A write of NET_GATE_CTRL. -/
def gateGo (p m : Nat) (v : Word) (c : Core) : Core :=
  if p > 3 then c
  else
    c.busWrite ⟨m, R.NET_GATE_CTRL p, v⟩ (2 ^ 31) fun c =>
      if !bitOf v 31 ∨ c.flag (F.NET_STATUS_GATE_PENDING p) then c
      else if c.adminGood p then c.gateGo p none
      else (c.setF (F.NET_GATE_CTRL_BAD p) 1).raise (F.NET_INT_STATUS_GATE_BAD p)

/-- A PTP time in ns as three words: nanoseconds, seconds low and high. -/
def timeWords (ns : Nat) : List Nat := [ns % 10 ^ 9, ns / 10 ^ 9 % 2 ^ 32, ns / 10 ^ 9 / 2 ^ 32]

/-- The change time: the admin list becomes the operating list (R369). -/
def gateChangeTime (p : Nat) (c : Core) : Core :=
  match (c.netPort p).pending with
  | none => c
  | some (t, tok) =>
    if c.ptpNs < t then c
    else
      let n := c.f (F.NET_GATE_CTRL_COUNT p)
      let c := c.setNetPort p { c.netPort p with pending := none, cycle := c.f (F.NET_GATE_CYCLE_NS p),
                                                 base := c.adminBase p, start := t, holdEntry := none }
      let c := (List.range 256).foldl (fun (c : Core) e =>
        c.put (R.NET_GATE_OPER p e) (if e < n then c.get (R.NET_GATE_ADMIN p e) else 0)) c
      let c := (c.setF (F.NET_GATE_STATUS_OPER_COUNT p) n).setF (F.NET_GATE_STATUS_OPER_INDEX p) 0
      let c := ((c.setF (F.NET_STATUS_GATE_RUN p) 1).setF (F.NET_STATUS_GATE_PENDING p) 0).setF (F.NET_GATE_CTRL_GO p) 0
      (c.raise (F.NET_INT_STATUS_GATE_CHANGE p)).notice? tok .ok (natBytes (timeWords t))

/-- A cycle of the operating list begins (R368, R370). -/
def gateCycleStart (p : Nat) (c : Core) : Core :=
  let x := c.netPort p
  if !c.flag (F.NET_STATUS_GATE_RUN p) ∨ x.cycle = 0 then c
  else
    let t := cycleAfter x.base x.cycle c.ptpNs - x.cycle
    if x.holdEntry.isNone ∧ t ≤ x.start then c
    else (c.setNetPort p { x with start := t, holdEntry := none }).setF (F.NET_GATE_STATUS_OPER_INDEX p) 0

/-! ### Transmission (R366, R367, R380) -/

/-- The time in ns that a frame occupies the wire, with preamble and inter-frame gap. -/
def Core.wireTime (c : Core) (p len : Nat) : Nat :=
  ceilDiv (8 * (max 64 (len + 4) + 20)) (if c.f (F.NET_STATUS_RATE p) = 1 then 10 else 25)

/-- A frame leaves: counted, and late for a stream packet whose first bit was due more than P samples ago (R380). -/
def Core.sendFrame (c : Core) (p : Nat) (f : TxFrame) : Core :=
  let x := c.netPort p
  let c := (c.setNetPort p { x with txq := x.txq.erase f }).send f.msg
  let c := (c.countW (R.NET_TX_FRAMES p) 1).octets p (max 64 (f.len + 4)) false
  match f.stream with
  | some (s, due) => if c.ptpNs > due then (c.count (R.MEDIA_TX_LATE s)).raise F.MEDIA_INT_STATUS_TX_LATE else c
  | none => c

/-- A frame boundary on a port. -/
def frameTransmit (p : Nat) (c : Core) : Core :=
  if p > 3 ∨ !c.flag (F.NET_STATUS_LINK_UP p) then c
  else
    let c := if c.flag (F.NET_STATUS_GATE_RUN p) then c.setF (F.NET_GATE_STATUS_OPER_INDEX p) (c.operIndex p) else c
    let x := c.netPort p
    let may := fun (k : Nat) => (k ≥ 6 || !c.flag (F.NET_STATUS_PAUSED p)) && c.gateCloses p k ≠ some 0
    match [7, 6, 5, 4, 3, 2, 1, 0].findSome? fun k => if may k then x.txq.find? fun f => decide (f.cls = k) else none with
    | none => c
    | some f =>
      let fits := match c.gateCloses p f.cls with
        | none => true
        | some d => decide (c.wireTime p f.len ≤ d)
      if fits then c.sendFrame p f
      else if f.held then c
      else
        let q := x.txq.map fun g => if g = f then { f with held := true } else g
        (c.setNetPort p { x with txq := q }).countW (R.NET_TX_HELD p) 1

/-! ### Registers and opcodes -/

/-- A write of NET_MAX_FRAME (R359). -/
def maxFrameWrite (p m : Nat) (v : Word) (c : Core) : Core :=
  if p > 3 then c
  else
    c.busWrite ⟨m, R.NET_MAX_FRAME p, v⟩ 0x3FFF fun c =>
      let n := clampNat 1518 9216 (bitsOf v 13 0)
      if p = 2 then c
      else if c.streamsFit p n then c.setF (F.NET_MAX_FRAME_BYTES p) n
      else c.setF (F.NET_MAX_FRAME_REFUSED p) 1

/-- A class S counter read over Easel: its word, and COUNT and SAT cleared (R16). -/
def Core.takeCount (c : Core) (r : Nat) : Nat × Core := ((c.get r).toNat, c.put r 0)

def opNetStatus : Opc := { code := 0x0601, len := (· = 4) }

/-- NET_STATUS_GET: NET_STATUS and the 19 counter words. -/
def netStatusBody : Body := fun c r =>
  let p := r.n 0
  if p > 3 then ans c .outOfRange
  else
    let ws := (List.range 19).map fun i => (c.get (R.NET_RX_FRAMES p + 4 * i)).toNat
    let d := (List.range 11).foldl (fun (c : Core) i => c.put (R.NET_RX_FCS p + 4 * i) 0) c
    okW d ((c.get (R.NET_STATUS p)).toNat :: ws)

def opNetPause : Opc := { code := 0x0602, len := (· = 16) }

/-- NET_PAUSE_SET. -/
def netPauseBody : Body := fun c r =>
  let p := r.n 0
  let high := bitsOf (r.w 1) 9 0
  let low := bitsOf (r.w 1) 25 16
  if p > 3 then ans c .outOfRange
  else if bitsOf (r.w 1) 15 10 ≠ 0 ∨ bitsOf (r.w 1) 31 26 ≠ 0 ∨ r.n 2 ≥ 65536 then ans c .badParam
  else if low > high ∨ high > 512 ∨ r.n 3 > 512 then ans c .outOfRange
  else ans (((c.put (R.NET_PAUSE p) (r.w 1)).put (R.NET_PAUSE_QUANTA p) (r.w 2)).put (R.NET_DROP_OTHER p) (r.w 3)) .ok

def opNetGateSet : Opc := { code := 0x0603, len := (28 ≤ ·) }

/-- NET_GATE_SET (R369). -/
def netGateSetBody : Body := fun c r =>
  let p := r.n 0
  let n := r.n 6
  let es := r.words.drop 7
  if p > 3 then ans c .outOfRange
  else if r.bytes.length ≠ 28 + 4 * n then ans c .badLength
  else if r.n 1 > 1 then ans c .badParam
  else if c.flag (F.NET_STATUS_GATE_PENDING p) then ans c .busy
  else if n = 0 ∨ n > 256 ∨ !inRange 1000 1000000000 (r.n 2) ∨ r.n 3 ≥ 1000000000 ∨ r.n 5 ≥ 65536 ∨
      !es.all fun w => decide (100 ≤ bitsOf w 31 8) then ans c .outOfRange
  else
    let c := ((c.setF (F.NET_GATE_CTRL_EN p) (r.n 1)).setF (F.NET_GATE_CTRL_COUNT p) n).put (R.NET_GATE_CYCLE p) (r.w 2)
    let c := ((c.put (R.NET_GATE_BASE_NS p) (r.w 3)).put (R.NET_GATE_BASE_SEC_LO p) (r.w 4)).put (R.NET_GATE_BASE_SEC_HI p) (r.w 5)
    let c := es.zipIdx.foldl (fun (c : Core) x => c.put (R.NET_GATE_ADMIN p x.2) x.1) c
    ans (c.gateGo p (some r.tok)) .accepted

def opNetGateGet : Opc := { code := 0x0604, len := (· = 8) }

/-- NET_GATE_GET. -/
def netGateGetBody : Body := fun c r =>
  let p := r.n 0
  let x := c.netPort p
  if p > 3 then ans c .outOfRange
  else if r.n 1 > 1 then ans c .badParam
  else if r.n 1 = 0 then
    let n := c.f (F.NET_GATE_STATUS_OPER_COUNT p)
    okW c (x.cycle :: timeWords x.base ++ [n] ++ (List.range n).map fun e => (c.get (R.NET_GATE_OPER p e)).toNat)
  else
    let n := min 256 (c.f (F.NET_GATE_CTRL_COUNT p))
    okW c ([(c.get (R.NET_GATE_CYCLE p)).toNat, (c.get (R.NET_GATE_BASE_NS p)).toNat, (c.get (R.NET_GATE_BASE_SEC_LO p)).toNat,
      (c.get (R.NET_GATE_BASE_SEC_HI p)).toNat, n] ++ (List.range n).map fun e => (c.get (R.NET_GATE_ADMIN p e)).toNat)

end Sys2Proof.Machine
end

