-- ==== Sys2Proof/Machine/Streams.lean ====
section
/-! DEFINITION. The stream engines: definitions, receive timing, ST 2022-7 merge, alignment groups and transmission (R336 to R340,
R371 to R386). -/

namespace Sys2Proof.Machine

/-! ### Alignment groups (R339, R340) -/

/-- The link offset of a group: the largest configured among its members. -/
def Core.groupOffset (c : Core) (members : List Nat) : Nat :=
  members.foldl (fun m s => let d := lastDef (c.rxStream s).defn (c.rxStream s).next; if defEn d then max m (defL d) else m) 0

/-- The members of a group as the last command for it gives them. -/
def Core.membersOf (c : Core) (g : Nat) : List Nat :=
  match (c.arm.groupNext.filter fun x => x.2.1 = g).getLast? with
  | some x => x.2.2.1
  | none => smGet (fun _ => []) c.arm.groups g

/-- The group of a stream as the last commands give it. -/
def Core.groupOf (c : Core) (s : Nat) : Option Nat := (List.range 32).find? fun g => (c.membersOf g).contains s

/-- The link offset with which a stream is captured once all that has been taken is in force. -/
def Core.offsetOf (c : Core) (s : Nat) : Nat :=
  match c.groupOf s with
  | some g => c.groupOffset (c.membersOf g)
  | none => defL (lastDef (c.rxStream s).defn (c.rxStream s).next)

/-- Streams whose link offset changes, other than one that is redefined, change at boundary b (R340). -/
def Core.regroup (c : Core) (b : Nat) (skip : Option Nat) : Core :=
  (c.net.rx.map (·.1)).foldl (fun (c : Core) s =>
    let x := c.rxStream s
    let l := c.offsetOf s
    if some s ≠ skip ∧ defEn x.defn ∧ l ≠ (x.regroup.map (·.2)).getD x.off then
      c.setRxStream s { x with regroup := some (b, l) }
    else c) c

/-- ARMATURE_GROUPg, the number of groups with members, and a stream's GROUP fields follow. -/
def Core.groupRegs (c : Core) : Core :=
  let gs := c.arm.groups
  let c := (List.range 32).foldl (fun (c : Core) g =>
    let l := smGet (fun _ => []) gs g
    (c.setF ⟨R.ARMATURE_GROUP g, 15, 0⟩ (c.groupOffset l)).setF ⟨R.ARMATURE_GROUP g, 24, 16⟩ l.length) c
  c.setF F.ARMATURE_STATUS_GROUPS (gs.filter fun x => !x.2.isEmpty).length

def opGroupSet : Opc := { code := 0x0530, timeable := true, len := (8 ≤ ·), eager := true }

/-- GROUP_SET (R340): checked when taken; the members take their place at B. -/
def groupSetBody : Body := fun c r =>
  let g := r.n 0
  let n := r.n 1
  let l := (r.words.drop 2).map (·.toNat)
  if g > 31 ∨ n > 256 then ans c .outOfRange
  else if r.bytes.length ≠ 8 + 4 * n then ans c .badLength
  else if l.any (· > 255) then ans c .outOfRange
  else if l.any fun s => (c.groupOf s).isSome ∧ c.groupOf s ≠ some g then ans c .badParam
  else
    let b := r.boundary c (c.boundaryAt (c.now + 2 * c.blk))
    let c := { c with arm := { c.arm with groupNext := c.arm.groupNext ++ [(b, g, l.eraseDups, r.tok)] } }
    ans (c.regroup b none) .accepted

/-- At B a group has its new members. -/
def groupChange (g : Nat) (c : Core) : Core :=
  match c.arm.groupNext.find? fun x => decide (x.2.1 = g ∧ x.1 ≤ c.now) with
  | none => c
  | some q =>
    let old := smGet (fun _ => []) c.arm.groups g
    let c := { c with arm := { c.arm with groupNext := c.arm.groupNext.erase q,
                                          groups := smSet (fun _ => []) c.arm.groups g q.2.2.1 } }
    let c := (old.filter fun s => !q.2.2.1.contains s).foldl (fun (c : Core) s =>
      let c := (c.setF (F.MEDIA_RX_STATE_IN_GROUP s) 0).setF (F.MEDIA_RX_STATE_GROUP s) 0
      c.setRxStream s { c.rxStream s with group := none }) c
    let c := q.2.2.1.foldl (fun (c : Core) s =>
      let c := (c.setF (F.MEDIA_RX_STATE_IN_GROUP s) 1).setF (F.MEDIA_RX_STATE_GROUP s) g
      c.setRxStream s { c.rxStream s with group := some g }) c
    c.groupRegs.notice q.2.2.2 .ok []

/-! ### Packets that arrive (R376 to R378) -/

/-- EARLY_SPAN at a rate. -/
def earlySpan (mult : Nat) : Nat := 1024 * 2 ^ mult

/-- A channel's sample in a payload and, of ST 2110-31, its subframe (R372). -/
def payloadSample (fmt : Nat) (l : List Byte) (i : Nat) : Int × Nat :=
  let w := be l (i * formatBytes fmt) (formatBytes fmt)
  if fmt = 0 then (signed 24 w, 0) else if fmt = 1 then (signed 16 w * 256, 0) else (signed 24 (w / 16), w)

/-- The media time of an RTP timestamp: the count nearest to now (R376). -/
def mediaTime (ts off now : Nat) : Int := (now : Int) + signed 32 (unsigned 32 ((ts : Int) - off - now))

/-- A packet counts its sequence number on its leg (R376). -/
def Core.seqCount (c : Core) (s leg seq : Nat) : Core :=
  let x := c.rxStream s
  match (if leg = 0 then x.seqA else x.seqB) with
  | none => c.setRxStream s (if leg = 0 then { x with seqA := some seq } else { x with seqB := some seq })
  | some o =>
    let jump := (seq + 65536 - o) % 65536
    if jump ≥ 32768 then c
    else
      let c := c.setRxStream s (if leg = 0 then { x with seqA := some seq } else { x with seqB := some seq })
      if jump > 1 then c.countN (if leg = 0 then R.MEDIA_RX_SEQ_GAP_A s else R.MEDIA_RX_SEQ_GAP_B s) (jump - 1) else c

/-- A leg delivers a packet: it is up, and a lost leg is restored (R378). -/
def Core.legUp (c : Core) (s leg : Nat) : Core :=
  let x := c.rxStream s
  let was := if leg = 0 then x.lostA else x.lostB
  let c := c.setRxStream s (if leg = 0 then { x with lostA := false, lastA := c.time.cycles }
                            else { x with lostB := false, lastB := c.time.cycles })
  let c := c.setF (if leg = 0 then F.MEDIA_RX_STATE_LEG_A_UP s else F.MEDIA_RX_STATE_LEG_B_UP s) 1
  c.raiseIf was F.MEDIA_INT_STATUS_LEG_RESTORE

/-- Samples of a packet are placed by media time; those for blocks already judged are late (R338, R377, R378). -/
def Core.placeSamples (c : Core) (s : Nat) (t : Int) (payload : List Byte) : Core :=
  let x := c.rxStream s
  let ch := defCh x.defn
  let fmt := defFormat x.defn
  let p := packetSamples c.clk.mult (defPtime x.defn)
  let times := (List.range p).filter fun (i : Nat) => decide (0 ≤ t + (i : Int))
  let late := times.filter fun (i : Nat) => x.lost.contains (t + i).toNat
  let new := times.filter fun (i : Nat) => decide (x.judged ≤ (t + i).toNat) && (smGet (fun _ => none) x.data (64 * (t + i).toNat)).isNone
  let data := new.foldl (fun (m : SMap (Option (Int × Nat))) (i : Nat) =>
    (List.range ch).foldl (fun (m : SMap (Option (Int × Nat))) k =>
      smSet (fun _ => none) m (64 * (t + i).toNat + k) (some (payloadSample fmt payload (i * ch + k)))) m) x.data
  let c := c.setRxStream s { x with data := data }
  if late.isEmpty then c
  else ((c.count (R.MEDIA_RX_LATE s)).raise F.MEDIA_INT_STATUS_LATE).countW R.ARMATURE_LATE_COUNT (late.length * ch)

/-- The smallest margin of the span takes a packet's margin (R377). -/
def Core.takeMargin (c : Core) (s : Nat) (m : Int) : Core :=
  let x := c.rxStream s
  c.setRxStream s { x with margin := some (match x.margin with
    | some o => min o m
    | none => m) }

/-- A packet of a stream's leg arrives at count `n`. -/
def Core.rtpTake (c : Core) (s leg n : Nat) (x : Rtp) : Core :=
  let r := c.rxStream s
  let d := r.defn
  let size := defCh d * packetSamples c.clk.mult (defPtime d) * formatBytes (defFormat d)
  let pt := bitsOf (dw d 4) 6 0
  if (pt ≠ 0 ∧ x.pt ≠ pt) ∨ x.payload.length ≠ size then c.countW (R.NET_RX_FILTERED leg) 1
  else
    let c := (c.seqCount s leg (x.seq % 65536)).legUp s leg
    let t := mediaTime x.ts (d.getD 3 0) n
    if t + r.off > n + earlySpan c.clk.mult then (c.count (R.MEDIA_RX_EARLY s)).raise F.MEDIA_INT_STATUS_EARLY
    else
      let b : Int := t / (c.blk : Int) * (c.blk : Int)
      ((c.countW (R.MEDIA_RX_PACKETS s) 1).takeMargin s (b + r.off - 16 - n)).placeSamples s t x.payload

/-- A packet of the witness stream from an alias address: its media time (R376, R490). -/
def Core.witness (c : Core) (p : Nat) (x : Rtp) : Core :=
  let w := c.f F.TWIN_CFG_WITNESS
  let d := (c.txStream w).defn
  let src := (c.get (if p = 0 then R.TWIN_ALIAS0 else R.TWIN_ALIAS1)).toNat
  if !c.twinWaits ∨ w > 255 ∨ p > 1 ∨ x.src ≠ src ∨ x.src = 0 ∨ !defLeg d p ∨ x.dst ≠ d.getD (6 + 3 * p) 0 then c
  else
    let t := (x.ts + 2 ^ 32 - d.getD 3 0 % 2 ^ 32) % 2 ^ 32
    let base := c.time.n / 2 ^ 32 * 2 ^ 32 + t
    let m := if base > c.time.n + 2 ^ 31 then base - 2 ^ 32 else if base + 2 ^ 31 < c.time.n then base + 2 ^ 32 else base
    let seen := match c.twin.from_ with
      | some s => decide (s ≤ m)
      | none => c.twinState = 1
    let c := { c with twin := { c.twin with witness := some (max m (c.twin.witness.getD 0)) } }
    if seen then c.setF F.TWIN_STATUS_WITNESS_SEEN 1 else c

/-- An RTP packet arrives on a media port at sample place j of the block. -/
def rtpPacketReceive (p : Nat) (x : Rtp) (j : Nat) (c : Core) : Core :=
  if p > 1 ∨ !c.flag (F.NET_STATUS_LINK_UP p) ∨ !c.clk.mediaOn then c
  else
    let c := c.witness p x
    match c.net.rx.filter fun y => legMatches y.2.defn p x.dst x.src x.port x.vid with
    | [] => c.countW (R.NET_RX_FILTERED p) 1
    | l => c.passFrame p 2 fun c => l.foldl (fun (c : Core) y => c.rtpTake y.1 p (c.time.n + min j (c.blk - 1)) x) c

/-- A leg has delivered no packet for 100 ms (R378). -/
def streamLegLoss (s leg : Nat) (c : Core) : Core :=
  let x := c.rxStream s
  if s > 255 ∨ leg > 1 ∨ c.time.cycles < (if leg = 0 then x.lastA else x.lastB) + 25000000 then c else c.legLost s leg

/-- A span of 65,536 samples ends (R377). -/
def marginSpanEnd (s : Nat) (c : Core) : Core :=
  let x := c.rxStream s
  if s > 255 ∨ !defEn x.defn ∨ c.time.n % 65536 ≠ 0 then c
  else
    let v := match x.margin with
      | some m => unsigned 16 (clampInt (-32767) 32767 m)
      | none => 0x8000
    (c.setRxStream s { x with margin := none }).setF (F.MEDIA_RX_MARGIN_MARGIN s) v

/-! ### Blocks judged and released (R336 to R340) -/

/-- The block that begins at count b of a stream captured with an offset: a list per channel, none when a sample lacks. -/
def RxStream.blockAt (x : RxStream) (b blk off : Nat) : Option (List (List Int)) :=
  let ch := defCh x.defn
  let at_ := fun (n k : Nat) => if n < off then none else smGet (fun _ => none) x.data (64 * (n - off) + k)
  if (List.range blk).all fun j => (at_ (b + j) 0).isSome then
    some ((List.range ch).map fun k => (List.range blk).map fun j => ((at_ (b + j) k).map (·.1)).getD 0)
  else none

/-- The channel status of a complete block of ST 2110-31 (R341, R372): place and the non-audio bit of each channel. -/
def RxStream.status (x : RxStream) (b blk off : Nat) : RxStream :=
  if defFormat x.defn ≠ 2 then x
  else
    (List.range (defCh x.defn)).foldl (fun (x : RxStream) k =>
      (List.range blk).foldl (fun (x : RxStream) j =>
        let w := ((smGet (fun _ => none) x.data (64 * (b + j - off) + k)).map (·.2)).getD 0
        let at_ := if w / 8 % 2 = 1 then 0 else smGet (fun _ => 0) x.place k
        let non := if at_ = 1 then smSet (fun _ => false) x.nonAudio k (decide (w / 2 ^ 30 % 2 = 1)) else x.nonAudio
        { x with place := smSet (fun _ => 0) x.place k ((at_ + 1) % 192), nonAudio := non }) x) x

/-- The weight of a sample at count n in the block at b: fades of R338, of a redefinition (R379) and of a group change
(R340), in turn. -/
def releaseWeight (blk glaze : Nat) (fadeIn fadeOut : Bool) (redef : Bool) (regroup : Option Nat) (b n : Nat) (v : Int) : Int :=
  let v := if fadeIn then weighted (wIn (n - b) blk) v else v
  let v := if fadeOut ∨ redef then weighted (wOut (n - b) blk) v else v
  match regroup with
  | none => v
  | some g =>
    if n + blk < g then v
    else if n < g then weighted (wOut (n + blk - g) blk) v
    else if n < g + 16 then 0
    else weighted (wIn (n - g - 16) glaze) v

/-- The offset with which the block at count b is captured. -/
def RxStream.offAt (x : RxStream) (b : Nat) : Nat :=
  match x.regroup with
  | some (g, l) => if g ≤ b then l else x.off
  | none => x.off

/-- The next block is judged: complete or missing, counted when missing (R337, R338). -/
def Core.judge (c : Core) (s b : Nat) : Core :=
  let x := c.rxStream s
  let off := x.offAt b
  let y := x.blockAt b c.blk off
  let top := b + c.blk - off
  let lost := (List.range c.blk).filterMap fun j =>
    if off ≤ b + j ∧ (smGet (fun _ => none) x.data (64 * (b + j - off))).isNone then some (b + j - off) else none
  let lost := if y.isSome then x.lost else (lost ++ x.lost).take 4096
  let keep := 64 * (b - (384 * 2 ^ c.clk.mult + 4 * c.blk))
  let x := if y.isSome then x.status b c.blk off else x
  let c := c.setRxStream s { x with judged := top, lost := lost, was := x.hold.isSome, hold := y, begun := x.begun || y.isSome,
                                    data := x.data.filter fun e => decide (keep ≤ e.1) }
  if y.isSome then c.setF (F.MEDIA_RX_STATE_STATE s) 2
  else if x.begun then
    let c := (c.count R.ARMATURE_UNDERRUN_COUNT).raise F.ARMATURE_INT_STATUS_UNDERRUN
    ((c.count (R.MEDIA_RX_UNDERRUN s)).raise F.MEDIA_INT_STATUS_UNDERRUN).setF (F.MEDIA_RX_STATE_STATE s) 3
  else c

/-- At boundary b the block of a stream that begins there is released and the next one judged. -/
def Core.releaseStream (c : Core) (b s : Nat) : Core :=
  let x := c.rxStream s
  if !defEn x.defn ∨ (x.next.any fun q => decide (q.2 ≤ b)) then c.setRxStream s { x with cap := [], hold := none }
  else
    let cur := x.hold
    let was := x.was
    let c := c.judge s (b + c.blk)
    let x := c.rxStream s
    let redef := x.next.any fun q => decide (q.2 = b + c.blk)
    let g := x.regroup.map (·.1)
    let cap := match cur with
      | none => []
      | some l => l.map fun ch => ch.zipIdx.map fun v =>
          releaseWeight c.blk c.glaze (!was) x.hold.isNone redef g b (b + v.2) v.1
    let past := match x.regroup with
      | some (g, _) => decide (g + 16 + c.glaze ≤ b + c.blk)
      | none => false
    let off := x.offAt b
    c.setRxStream s { x with cap := cap, off := off, regroup := if past then none else x.regroup }

/-- At boundary b every enabled stream releases its block. -/
def Core.releaseAll (c : Core) (b : Nat) : Core := (c.net.rx.map (·.1)).foldl (fun (c : Core) s => c.releaseStream b s) c

/-- The blocks that input capture holds, by source code, from the network receive channels, as the Armature reads them. -/
def Core.netSources (c : Core) : SMap (List Int) :=
  c.net.rx.foldl (fun (m : SMap (List Int)) x =>
    x.2.cap.zipIdx.foldl (fun (m : SMap (List Int)) y => smSet (fun _ => []) m (0x100 + defFirst x.2.defn + y.2) y.1) m) []

/-- The source that shares a channel pair of ST 2110-31 with one on an even place, and the sources whose channel status says
non-audio (R341). -/
def Core.netPair (c : Core) (s : Nat) : Option Nat :=
  (c.net.rx.find? fun x => decide (0x100 + defFirst x.2.defn ≤ s ∧ s < 0x100 + defFirst x.2.defn + defCh x.2.defn)).bind fun x =>
    let k := s - 0x100 - defFirst x.2.defn
    if k % 2 = 0 ∧ k + 1 < defCh x.2.defn then some (s + 1) else none
def Core.netFlagged (c : Core) : List Nat :=
  c.net.rx.flatMap fun x => x.2.nonAudio.filterMap fun y => if y.2 then some (0x100 + defFirst x.2.defn + y.1) else none

/-! ### Transmission (R380, R381) -/

/-- What the network transmit channels have delivered in the block just emitted joins their history; `words` gives the words of a
channel with the sample at the top, newest last. -/
def Core.txPush (c : Core) (endCount : Nat) (blocks : List (Nat × List Nat)) : Core :=
  let cap := 256 * 2 ^ c.clk.mult
  let old : SMap (List Nat) := c.net.txHist.map fun x => (x.1, ((List.replicate c.blk 0) ++ x.2).take cap)
  let h := blocks.foldl (fun (m : SMap (List Nat)) x =>
    smSet (fun _ => []) m x.1 ((x.2.reverse ++ (smGet (fun _ => []) m x.1).drop c.blk).take cap)) old
  { c with net := { c.net with txHist := h.filter fun x => !x.2.all (· = 0), txEnd := endCount } }

/-- The word that transmit channel `ch` delivered at count t. -/
def Core.txWord (c : Core) (ch t : Nat) : Nat := (smGet (fun _ => []) c.net.txHist ch).getD (c.net.txEnd - 1 - t) 0

/-- One step of the CRC of byte 23 (AES3): x⁸ + x⁴ + x³ + x² + 1, least significant bit first. -/
def aesCrcBit (r : Nat) : Nat := if r % 2 = 1 then (r / 2) ^^^ 0xB8 else r / 2
def aesCrc (l : List Nat) : Nat :=
  l.foldl (fun r b => (List.range 8).foldl (fun r _ => aesCrcBit r) (r ^^^ b)) 0xFF

/-- The channel status the module generates: professional, linear PCM, no emphasis, the sampling frequency, 24 bits, and the CRC
(R372, AES3). -/
def channelStatus (family mult : Nat) : List Nat :=
  let b0 := if family = 1 then 0x45 else if mult = 0 then 0x85 else 0x05
  let b4 := if family = 0 ∧ mult = 1 then 0x10 else if family = 0 ∧ mult = 2 then 0x18 else 0
  let l := [b0, 0, 0x2C, 0, b4] ++ List.replicate 18 0
  l ++ [aesCrc l]

/-- A subframe of ST 2110-31 for a sample at count t (R372): audio in bits 27:4, V in 28, U in 29, C in 30, P in 31, the block
start in bit 3 and the frame start in bit 2. -/
def subframe (status : List Nat) (t ch word : Nat) : Nat :=
  let at_ := t % 192
  let bit := status.getD (at_ / 8) 0 / 2 ^ (at_ % 8) % 2
  let body := word / 256 * 16 + bit * 2 ^ 30
  let par := popCount 31 (body / 16) % 2
  body + par * 2 ^ 31 + (if at_ = 0 then 8 else 0) + (if ch % 2 = 0 then 4 else 0)

/-- Whether a transmit channel is fed by a data-transparent direct path from an ST 2110-31 receive channel (R372). -/
def Core.rawFed (c : Core) (ch : Nat) : Bool :=
  let s := smGet (fun _ => 0xFFF) c.arm.live (0x1000 + ch) % 2 ^ 12
  inRange 0xD00 0xDFF s && c.flag (F.ARMATURE_DP_CTRL_TRANSPARENT (s - 0xD00)) &&
    let q := smGet (fun _ => 0xFFF) c.arm.live (0x1800 + (s - 0xD00)) % 2 ^ 12
    inRange 0x100 0x8FF q && c.netFormat true (q - 0x100) = 2

/-- The payload bytes of a packet from count t on (R372, R375). -/
def Core.txPayload (c : Core) (d : List Nat) (t : Nat) : List Byte :=
  let status := channelStatus c.clk.family c.clk.mult
  let fmt := defFormat d
  (List.range (packetSamples c.clk.mult (defPtime d))).flatMap fun i =>
    (List.range (defCh d)).flatMap fun k =>
      let ch := defFirst d + k
      let w := c.txWord ch (t + i)
      let v := if fmt = 0 then w / 256
        else if fmt = 1 then unsigned 16 (round16 (signed 24 (w / 256)))
        else if c.rawFed ch then w else subframe status (t + i) k w
      (leBytes (formatBytes fmt) v).reverse

/-- One leg of a packet waits on its port, or is dropped while its destination is unresolved (R357, R381, R382). -/
def Core.queueLeg (c : Core) (s leg t : Nat) (payload : List Byte) : Core :=
  let d := (c.txStream s).defn
  let dst := d.getD (6 + 3 * leg) 0
  let ports := d.getD (7 + 3 * leg) 0
  let vlan := dw d (8 + 3 * leg)
  if !defLeg d leg then c
  else
    match c.resolve leg dst with
    | none => (c.count (R.MEDIA_TX_DROP s)).raise F.MEDIA_INT_STATUS_TX_DROP
    | some mac =>
      let p := packetSamples c.clk.mult (defPtime d)
      let dscp := bitsOf (dw d 5) 13 8
      let head := [if bitOf vlan 15 then bitsOf vlan 15 0 else 0, mac, c.sourceIp leg, dst, ports / 65536, ports % 65536,
        if dscp = 0 then 34 else dscp, 64, bitsOf (dw d 5) 6 0, c.f (F.MEDIA_TX_SEQ_SEQ s), (t + d.getD 3 0) % 2 ^ 32, d.getD 4 0]
      c.queueFrame leg { cls := 6, len := legFrame c.clk.mult false d leg - 4,
                         msg := .frame leg 6 "RTP" (head ++ payload.map (·.toNat)),
                         stream := some (s, (t + 2 * p) * 10 ^ 9 / c.fsHz) }

/-- The packet of a transmit stream whose samples have all been delivered is queued (R380); nothing is sent while twin operation holds the streams. -/
def streamPacketQueue (s : Nat) (c : Core) : Core :=
  let x := c.txStream s
  let d := x.defn
  let p := packetSamples c.clk.mult (defPtime d)
  if s > 255 ∨ !defEn d ∨ !c.clk.mediaOn ∨ c.net.txEnd < x.at_ + p then c
  else
    let t := x.at_
    let c := c.setTxStream s { x with at_ := t + p }
    if c.twinHeld then c.txShow s
    else
      let payload := c.txPayload d t
      let sent := (defLeg d 0 && (c.resolve 0 (d.getD 6 0)).isSome) || (defLeg d 1 && (c.resolve 1 (d.getD 9 0)).isSome)
      let c := (c.queueLeg s 0 t payload).queueLeg s 1 t payload
      let c := c.setF (F.MEDIA_TX_SEQ_SEQ s) (c.f (F.MEDIA_TX_SEQ_SEQ s) + 1)
      (if sent then c.countW (R.MEDIA_TX_PACKETS s) 1 else c).txShow s

/-! ### Definitions (R379, R385, R386) -/

/-- The number of enabled streams and their channels (MEDIA_STATUS, MEDIA_POOL). -/
def Core.poolRegs (c : Core) : Core :=
  let rx := c.net.rx.filter fun x => defEn x.2.defn
  let tx := c.net.tx.filter fun x => defEn x.2.defn
  let c := (c.setF F.MEDIA_STATUS_RX_STREAMS rx.length).setF F.MEDIA_STATUS_TX_STREAMS tx.length
  (c.setF F.MEDIA_POOL_RX_USED (rx.foldl (fun n x => n + defCh x.2.defn) 0)).setF F.MEDIA_POOL_TX_USED
    (tx.foldl (fun n x => n + defCh x.2.defn) 0)

/-- The first multiple of P that is not before a count (R373, R380). -/
def firstPacket (p b : Nat) : Nat := ceilDiv b p * p

/-- A receive stream starts anew at boundary b with its definition (R379, R384). -/
def Core.rxStart (c : Core) (s b : Nat) : Core :=
  let x := c.rxStream s
  let d := x.defn
  let off := c.offsetOf s
  let y : RxStream := { defn := d, next := x.next, group := x.group, off := off, judged := b + 2 * c.blk - off,
                        seqA := none, lastA := c.time.cycles, lastB := c.time.cycles }
  let c := c.setRxStream s (if defEn d then y else { defn := d, next := x.next, group := x.group })
  let c := (c.put (R.MEDIA_RX_CTRL s) (dw d 1)).put (R.MEDIA_RX_MAP s) (dw d 2)
  let c := (c.setB (F.MEDIA_RX_STATE_STATE s) (defEn d)).put (R.MEDIA_RX_MARGIN s) 0x8000
  ((c.setF (F.MEDIA_RX_STATE_LEG_A_UP s) 0).setF (F.MEDIA_RX_STATE_LEG_B_UP s) 0).poolRegs

/-- A transmit stream starts at boundary b with its definition (R379, R380). -/
def Core.txStart (c : Core) (s b : Nat) : Core :=
  let x := c.txStream s
  let d := x.defn
  let c := c.setTxStream s { x with at_ := if defEn d then firstPacket (packetSamples c.clk.mult (defPtime d)) b else 0 }
  let c := (c.put (R.MEDIA_TX_CTRL s) (dw d 1)).put (R.MEDIA_TX_MAP s) (.ofNat 32 (defFirst d))
  (c.txShow s).poolRegs

/-- Boundary B of a stream's definition has come: `rx` says which direction. Groups it gives up are left (R379). -/
def streamDefinitionApply (rx : Bool) (s : Nat) (c : Core) : Core :=
  if rx then
    let x := c.rxStream s
    match x.next with
    | [] => c
    | (d, b) :: t =>
      if c.now < b then c
      else
        let before := (List.range 2).map c.groupsOf
        let c := (c.setRxStream s { x with defn := d, next := t }).rxStart s b
        let c := (List.range 2).foldl (fun (c : Core) p =>
          c.sendIgmp p false (((before.getD p []).filter fun g => !(c.groupsOf p).contains g).eraseDups)) c
        c.groupRegs
  else
    let x := c.txStream s
    match x.next with
    | [] => c
    | (d, b) :: t => if c.now < b then c else (c.setTxStream s { x with defn := d, next := t }).txStart s b

/-- Step 1 of R386: reserved bits, format, channel parity, legs and payload type. -/
def streamForm (rx : Bool) (d : List Nat) : Bool :=
  let w1 := dw d 1
  let pt := bitsOf (dw d (if rx then 4 else 5)) 6 0
  let clear := fun (i mask : Nat) => (dw d i).toNat &&& (0xFFFFFFFF - mask) = 0
  let legs := if rx then clear 7 0xFFFF && clear 8 0x8FFF0000 && clear 11 0xFFFF && clear 12 0x8FFF0000
    else clear 8 0xFFFF && clear 11 0xFFFF
  clear 0 0xFF && clear 1 0x007F031F && clear 2 (if rx then 0x07FF07FF else 0x7FF) &&
    clear (if rx then 4 else 5) (if rx then 0x7F else 0x3F7F) && legs && bitsOf w1 2 1 ≠ 3 &&
    (bitsOf w1 2 1 ≠ 2 || defCh d % 2 = 0) && (defLeg d 0 || defLeg d 1) && (pt = 0 || 96 ≤ pt)

/-- Step 2 of R386: CH, L and the frame of every leg. -/
def Core.streamRange (c : Core) (rx : Bool) (d : List Nat) : Bool :=
  let p := packetSamples c.clk.mult (defPtime d)
  inRange 1 64 (defCh d) && (!rx || inRange (p + 32) (384 * 2 ^ c.clk.mult) (defL d)) &&
    (List.range 2).all fun leg => !defLeg d leg || decide (legFrame c.clk.mult rx d leg ≤ c.f (F.NET_MAX_FRAME_BYTES leg))

/-- Step 4 of R386: whether channels overlap those of another enabled stream. -/
def Core.streamOverlap (c : Core) (rx : Bool) (d : List Nat) : Bool :=
  let others := if rx then c.net.rx.map fun x => (x.1, lastDef x.2.defn x.2.next)
    else c.net.tx.map fun x => (x.1, lastDef x.2.defn x.2.next)
  others.any fun x => decide (x.1 ≠ d.getD 0 0) && defEn x.2 && decide (defFirst x.2 < defFirst d + defCh d) &&
    decide (defFirst d < defFirst x.2 + defCh x.2)

/-- The checks of R386 in order. -/
def Core.streamCheck (c : Core) (rx : Bool) (d : List Nat) : Status :=
  if !streamForm rx d then .badParam
  else if !defEn d then .ok
  else if !c.streamRange rx d then .outOfRange
  else if defFirst d + defCh d > poolSize c.clk.mult then .noResource
  else if c.streamOverlap rx d then .badParam
  else .ok

/-- Definitions in order of their boundaries; a later one for the same boundary replaces the former. -/
def addDef (l : List (List Nat × Nat)) (d : List Nat) (b : Nat) : List (List Nat × Nat) :=
  (l.filter fun x => decide (x.2 < b)) ++ [(d, b)] ++ l.filter fun x => decide (b < x.2)

def opStreamRxSet : Opc := { code := 0x0610, timeable := true, len := (· = 52), lateTime := true, eager := true }

/-- STREAM_RX_SET. -/
def streamRxSetBody : Body := fun c r =>
  let d := r.words.map (·.toNat)
  let st := c.streamCheck true d
  if st ≠ .ok then ans c st
  else
    let s := d.getD 0 0
    let b := r.boundary c (c.boundaryAt (c.now + 2 * c.blk))
    let before := (List.range 2).map c.groupsOf
    let x := c.rxStream s
    let c := c.setRxStream s { x with next := addDef x.next d b }
    let c := (List.range 2).foldl (fun (c : Core) p =>
      c.sendIgmp p true (((c.groupsOf p).filter fun g => !(before.getD p []).contains g).eraseDups)) c
    ans (c.regroup b (some s)) .ok

def opStreamRxGet : Opc := { code := 0x0611, len := (· = 4) }

/-- The words of a definition, as many as its layout has, with the stream number first. -/
def defWords (n s : Nat) (d : List Nat) : List Nat := s :: (List.range (n - 1)).map fun i => d.getD (i + 1) 0

/-- STREAM_RX_GET. -/
def streamRxGetBody : Body := fun c r =>
  if r.n 0 > 255 then ans c .outOfRange
  else okW c (defWords 13 (r.n 0) (c.rxStream (r.n 0)).defn ++ [(c.get (R.MEDIA_RX_STATE (r.n 0))).toNat])

def opStreamTxSet : Opc := { code := 0x0612, timeable := true, len := (· = 48), lateTime := true, eager := true }

/-- STREAM_TX_SET. -/
def streamTxSetBody : Body := fun c r =>
  let d := r.words.map (·.toNat)
  let st := c.streamCheck false d
  if st ≠ .ok then ans c st
  else
    let s := d.getD 0 0
    let b := r.boundary c (c.boundaryAt (c.now + 2 * c.blk))
    let x := c.txStream s
    let c := c.setTxStream s { x with next := addDef x.next d b }
    ans ((List.range 2).foldl (fun (c : Core) p =>
      c.askArp p ((c.hops p).filter fun a => (smGet (fun _ => none) (c.netPort p).arp a).isNone)) c) .ok

def opStreamTxGet : Opc := { code := 0x0613, len := (· = 4) }

/-- STREAM_TX_GET. -/
def streamTxGetBody : Body := fun c r =>
  if r.n 0 > 255 then ans c .outOfRange
  else okW c (defWords 12 (r.n 0) (c.txStream (r.n 0)).defn ++ [(c.get (R.MEDIA_TX_STATE (r.n 0))).toNat])

def opStreamStats : Opc := { code := 0x0614, len := (· = 12) }

/-- STREAM_STATS_GET: the counters, with those of class S cleared. -/
def streamStatsBody : Body := fun c r =>
  let n := r.n 2
  if r.n 0 > 1 then ans c .badParam
  else if n = 0 ∨ n > 64 ∨ r.n 1 + n > 256 then ans c .outOfRange
  else
    let ss := (List.range n).map (· + r.n 1)
    if r.n 0 = 0 then
      let ws := ss.flatMap fun s => (List.range 8).map fun i => (c.get (R.MEDIA_RX_MARGIN s + 4 * i)).toNat
      okW (ss.foldl (fun (c : Core) s => (List.range 6).foldl (fun (c : Core) i => c.put (R.MEDIA_RX_UNDERRUN s + 4 * i) 0) c) c) ws
    else
      let ws := ss.flatMap fun s => (List.range 3).map fun i => (c.get (R.MEDIA_TX_PACKETS s + 4 * i)).toNat
      okW (ss.foldl (fun (c : Core) s => (c.put (R.MEDIA_TX_LATE s) 0).put (R.MEDIA_TX_DROP s) 0) c) ws

/-! ### MEDIA stops and starts again (R384) -/

/-- MEDIA has stopped: receive streams are discarded, transmit streams stop. -/
def Core.streamsFreeze (c : Core) : Core :=
  let c := (c.net.rx.map (·.1)).foldl (fun (c : Core) s =>
    let x := c.rxStream s
    if defEn x.defn then (c.setRxStream s { x with data := [], hold := none, cap := [] }).setF (F.MEDIA_RX_STATE_STATE s) 4 else c) c
  c.txShowAll

/-- MEDIA starts again at block n: receive streams are newly enabled, transmit streams resume from it. -/
def Core.streamsRestart (c : Core) (n : Nat) : Core :=
  let c := { c with net := { c.net with txHist := [], txEnd := n } }
  let c := (c.net.rx.map (·.1)).foldl (fun (c : Core) s => if defEn (c.rxStream s).defn then c.rxStart s n else c) c
  (c.net.tx.map (·.1)).foldl (fun (c : Core) s => if defEn (c.txStream s).defn then c.txStart s n else c) c

end Sys2Proof.Machine
end

