-- ==== Sys2Proof/Machine/Operands.lean ====
section
/-! DEFINITION. The operands of the Brush instructions: memories, registers, pointers and their addressing, and how results land
(R387 to R400). -/

namespace Sys2Proof.Machine

/-! ### Cores and memories -/

def Core.bc (c : Core) (k : Nat) : BrushCore := smGet (fun _ => {}) c.brush.cores k
def Core.setBc (c : Core) (k : Nat) (x : BrushCore) : Core :=
  { c with brush := { c.brush with cores := smSet (fun _ => {}) c.brush.cores k x } }

/-- The physical core that holds a logical number (R387). -/
def Core.phys (c : Core) (l : Nat) : Nat := bitsOf (c.get (R.BRUSH_MAP (l / 4))) (8 * (l % 4) + 6) (8 * (l % 4))

/-- The logical number a physical core holds. -/
def Core.logical (c : Core) (k : Nat) : Option Nat := (List.range 64).find? fun l => c.phys l = k

/-- The state of a core: 0 OFF, 1 STOPPED, 2 WAIT, 3 RUN, 4 ERROR, 5 SPARE_IDLE, 6 COPYING or SHADOWING, 7 RETIRED. -/
def Core.bcState (c : Core) (k : Nat) : Nat := c.f (F.BRUSH_CORE_STATE_STATE k)
def Core.setBcState (c : Core) (k st : Nat) : Core := c.setF (F.BRUSH_CORE_STATE_STATE k) st

/-- A word of a core's instruction memory, and of its data memory (R388). -/
def Core.imWord (c : Core) (k w : Nat) : Word := smGet (fun _ => 0) c.brush.im (16384 * k + w % 16384)
def Core.dmWord (c : Core) (k w : Nat) : Word := smGet (fun _ => 0) c.brush.dm (32768 * k + w % 32768)
def Core.setIm (c : Core) (k w : Nat) (v : Word) : Core :=
  { c with brush := { c.brush with im := smSet (fun _ => 0) c.brush.im (16384 * k + w % 16384) v } }

/-- A word is written to data memory: it has no fault any more. -/
def Core.setDm (c : Core) (k w : Nat) (v : Word) : Core :=
  let i := 32768 * k + w % 32768
  { c with brush := { c.brush with dm := smSet (fun _ => 0) c.brush.dm i v, ecc := smSet (fun _ => 0) c.brush.ecc i 0 } }

/-- The word that holds a 24-bit value and its sign extension (R388). -/
def dmSample (v : Int) : Word := .ofNat 32 (unsigned 32 v)

/-- The fault of a data memory word: 0 none, 1 a single-bit error, 2 uncorrectable. -/
def Core.dmEcc (c : Core) (k w : Nat) : Nat := smGet (fun _ => 0) c.brush.ecc (32768 * k + w % 32768)

/-- Corrected reads are counted (R388). -/
def Core.dmSeen (c : Core) (k : Nat) (ws : List Nat) : Core :=
  let n := (ws.filter fun w => c.dmEcc k w = 1).length
  if n = 0 then c
  else
    let c := (c.countN R.BRUSH_DM_CORRECTED n).raise F.BRUSH_INT_STATUS_DM_CORRECTED
    (List.range n).foldl (fun (c : Core) _ => c.seenAt (3 * 2 ^ 32 + k)) c

/-! ### Registers (R390, R398, R405) -/

/-- The bits of SR that are not reserved. -/
def srMask : Nat := 0x00FFFF7F

/-- What a register of R405 keeps of a value written. -/
def scalarKeep (code v : Nat) : Nat :=
  if code < 16 then v % 2 ^ 32
  else if code < 48 then v % 2 ^ 16
  else if code = 48 then v % 2 ^ 32
  else if code = 51 then v &&& srMask
  else if code = 53 then v % 2 ^ 32
  else v % 2 ^ 13

/-- A register of R405 as a word: M0 to M7 are signed. -/
def BrushCore.s (x : BrushCore) (code : Nat) : Nat :=
  let v := smGet (fun _ => 0) x.sc code
  if 24 ≤ code ∧ code < 32 then unsigned 32 (signed 16 v) else v

def BrushCore.setS (x : BrushCore) (code v : Nat) : BrushCore :=
  { x with sc := smSet (fun _ => 0) x.sc code (scalarKeep code v) }

/-- SR as a word, and its fields. -/
def BrushCore.sr (x : BrushCore) : Word := .ofNat 32 (x.s 51)
def BrushCore.psh (x : BrushCore) : Nat := bitsOf x.sr 11 8
def BrushCore.osh (x : BrushCore) : Nat := bitsOf x.sr 16 12
def BrushCore.lsh (x : BrushCore) : Int := signed 4 (bitsOf x.sr 20 17)
def BrushCore.ssh (x : BrushCore) : Nat := bitsOf x.sr 23 21

def BrushCore.v (x : BrushCore) (r : Nat) : List Int := smGet (fun _ => [0, 0, 0, 0]) x.vec r
def BrushCore.a (x : BrushCore) (r : Nat) : List Int := smGet (fun _ => [0, 0, 0, 0]) x.acc r

/-- SR.AOV and SR.SAT are set and stay. -/
def BrushCore.sticky (x : BrushCore) (bit : Nat) (on : Bool) : BrushCore := if on then x.setS 51 (x.s 51 ||| 2 ^ bit) else x

/-- An accumulator takes values, saturated to 56 bits (R394). -/
def BrushCore.setAcc (x : BrushCore) (r : Nat) (vs : List Int) : BrushCore :=
  let y := vs.map (sat 56)
  ({ x with acc := smSet (fun _ => [0, 0, 0, 0]) x.acc r y }).sticky 5 (y ≠ vs)

/-- A write lands. -/
def BrushCore.apply (x : BrushCore) (op : BcOp) : BrushCore :=
  match op with
  | .scalar code v => x.setS code v
  | .lanes r vs => { x with vec := smSet (fun _ => [0, 0, 0, 0]) x.vec r vs }
  | .lane r i v => { x with vec := smSet (fun _ => [0, 0, 0, 0]) x.vec r (listSet (x.v r) i v) }
  | .accSet r vs => x.setAcc r vs
  | .accAdd r vs => x.setAcc r (List.zipWith (· + ·) (x.a r) vs)
  | .accHalf r lane half v =>
    let o := unsigned 56 ((x.a r).getD lane 0)
    let n := if half = 0 then o / 2 ^ 28 * 2 ^ 28 + v % 2 ^ 28 else o % 2 ^ 28 + v % 2 ^ 28 * 2 ^ 28
    { x with acc := smSet (fun _ => [0, 0, 0, 0]) x.acc r (listSet (x.a r) lane (signed 56 n)) }
  | .flags mask bits => x.setS 51 ((x.s 51 &&& (2 ^ 32 - 1 - mask)) ||| bits)

/-- The writes seen from cycle t land, in the order issued (R391, R392). -/
def BrushCore.landAt (x : BrushCore) (t : Nat) : BrushCore :=
  (x.writes.filter fun w => w.from_ = t).foldl (fun (x : BrushCore) w => x.apply w.op)
    { x with writes := x.writes.filter fun w => decide (w.from_ ≠ t) }

/-- Cycles pass: the writes seen from each land in turn. -/
def BrushCore.pass (x : BrushCore) (n : Nat) : BrushCore :=
  let y := (List.range (min n 6)).foldl (fun (y : BrushCore) i => y.landAt (x.cycle + i + 1)) x
  { y with cycle := x.cycle + n }

/-- All writes in flight land (R414). -/
def BrushCore.settle (x : BrushCore) : BrushCore := { x.pass 6 with cycle := x.cycle }

/-! ### Addressing (R399, R400) -/

/-- A linear value of pointer i: as it is, or within its circular buffer. -/
def BrushCore.wrapP (x : BrushCore) (i : Nat) (v : Int) : Nat :=
  let l := x.s (40 + i)
  let b := x.s (32 + i)
  if l = 0 then unsigned 16 v else ((b : Int) + (v - b) % (l : Int)).toNat % 65536

/-- The address of lane k of an access through pointer i. -/
def BrushCore.lane (x : BrushCore) (i k : Nat) : Nat := x.wrapP i ((x.s (16 + i) : Int) + k) % 32768

/-- The pointer value after the post-modification of a mode, from the value p. -/
def BrushCore.post (x : BrushCore) (i mode p : Nat) : Nat :=
  let d : Int := if mode < 8 then signed 16 (x.s (24 + mode)) else [0, 1, 4, -1, -4].getD (mode - 8) 0
  if mode = 8 then p else x.wrapP i ((p : Int) + d)

end Sys2Proof.Machine
end

