-- ==== Sys2Proof/Machine/Flags.lean ====
section
/-! DEFINITION. The flag computations of the Brush cores: saturation, the flags of scalar results, and the conditions of branches
(R395, R397, R405, R406). -/

namespace Sys2Proof.Machine

/-- Saturation of lanes to 24 bits, and whether any lane did. -/
def sat24 (l : List Int) : List Int × Bool := let y := l.map (sat 24); (y, y ≠ l)

/-- SR.SAT sets with the result of an operation that saturated (R395). -/
def satWrite (t : Nat) (on : Bool) : List BcWrite := if on then [⟨t, .flags 16 16⟩] else []

/-- The flags of a scalar result: Z and N from it, C and V as given. -/
def aluFlags (t res : Nat) (cy ov : Bool) : BcWrite :=
  ⟨t + 1, .flags 15 (b2n (res = 0) + 2 * (res / 2 ^ 31 % 2) + 4 * b2n cy + 8 * b2n ov)⟩

/-- Result, carry and overflow of ADD, SUB, AND, OR, XOR and MUL, and of SHL, SHR and ASR with a carry and an overflow given. -/
def aluResult (op a b : Nat) (fc fv : Bool) : Nat × Bool × Bool :=
  let n := b % 32
  match op with
  | 0x08 => let s := a + b
            (s % 2 ^ 32, decide (s ≥ 2 ^ 32), signed 32 a + signed 32 b ≠ signed 32 s)
  | 0x09 | 0x10 => let s := unsigned 32 ((a : Int) - b)
                   (s, decide (a < b), signed 32 a - signed 32 b ≠ signed 32 s)
  | 0x0A => (a &&& b, false, false)
  | 0x0B => (a ||| b, false, false)
  | 0x0C => (a ^^^ b, false, false)
  | 0x0D => (a * 2 ^ n % 2 ^ 32, fc, fv)
  | 0x0E => (a / 2 ^ n, fc, fv)
  | 0x0F => (unsigned 32 (signed 32 a / (2 ^ n : Nat)), fc, fv)
  | _ => (a * b % 2 ^ 32, false, false)

/-- Whether an operation is a shift, whose carry and overflow the spec does not state. -/
def isShift (op : Nat) : Bool := 0x0D ≤ op && op ≤ 0x0F

/-- COND (R406). -/
def BrushCore.cond (x : BrushCore) (n : Nat) : Bool :=
  let z := bitOf x.sr 0
  let lt := bitOf x.sr 1 != bitOf x.sr 3
  match n with
  | 0 => true
  | 1 => z
  | 2 => !z
  | 3 => lt
  | 4 => !lt
  | 5 => z || lt
  | 6 => !(z || lt)
  | 7 => bitOf x.sr 2
  | 8 => !bitOf x.sr 2
  | _ => x.s 48 ≠ 0

end Sys2Proof.Machine
end

