-- ==== Sys2Proof/Machine/BrushIsa.lean ====
section
/-! DEFINITION. The decoding of the Brush cores' 64-bit instructions (R402 to R406, R411). -/

namespace Sys2Proof.Machine

/-! ### Instructions (R402 to R406, R411) -/

/-- A decoded instruction. -/
inductive BInstr where
  /-- The MAC/ALU slot (OP, DST, SA, SB, BC), the memory slots (OP, REG, P, MODE) and the AU slot (OP, i, bits 5:0). -/
  | par (op dst sa sb bc : Nat) (ma mb : Nat × Nat × Nat × Nat) (au : Nat × Nat × Nat)
  | ctl (op cond rs imm : Nat)
  | scl (op rd rs : Nat) (i : Bool) (imm : Nat)
  | ftap (a p mode move : Nat)
deriving DecidableEq, Repr

/-- Bits hi:lo of a 64-bit instruction. -/
def ib (w hi lo : Nat) : Nat := w / 2 ^ lo % 2 ^ (hi - lo + 1)

/-- Whether an AU slot, a memory slot and a MAC/ALU slot are issued (R403, R404). -/
def auOk (au : Nat × Nat × Nat) : Bool := au.1 ≤ 4
def memOk (m : Nat × Nat × Nat × Nat) : Bool := m.1 = 0 || (m.1 ≤ 4 && m.2.2.2 ≤ 12)
def macOk (op dst sa bc : Nat) : Bool :=
  (op ≤ 0x0B || (0x10 ≤ op && op ≤ 0x1D)) && op ≠ 4 && (bc = 0 || 4 ≤ bc) &&
    ((op ∉ [1, 2, 3, 5, 6, 7, 0x0A, 0x0B]) || dst < 4) && ((op ∉ [8, 9, 0x0A, 0x0B]) || sa < 4)

/-- The parallel format. -/
def decodePar (w : Nat) : Option BInstr :=
  let op := ib w 61 56
  let dst := ib w 55 52
  let sa := ib w 51 48
  let bc := ib w 43 41
  let ma := (ib w 39 37, ib w 36 33, ib w 32 30, ib w 29 26)
  let mb := (ib w 25 23, ib w 22 19, ib w 18 16, ib w 15 12)
  let au := (ib w 11 9, ib w 8 6, ib w 5 0)
  if macOk op dst sa bc && ib w 40 40 = 0 && memOk ma && memOk mb && auOk au then some (.par op dst sa (ib w 47 44) bc ma mb au)
  else none

/-- The control format: COND of BRA, and 0 for every other. -/
def decodeCtl (w : Nat) : Option BInstr :=
  let op := ib w 61 56
  let cond := ib w 55 52
  let rs := ib w 51 46
  let imm := ib w 31 0
  if 1 ≤ op && op ≤ 0x0C && ib w 45 32 = 0 && (if op = 1 then cond ≤ 9 else cond = 0) &&
      ((op ≠ 4 && op ≠ 5) || imm / 2 ^ 31 = 0 || rs ≤ 53) then some (.ctl op cond rs imm)
  else none

/-- The scalar format: register codes are issued where the operation uses them as such. -/
def decodeScl (w : Nat) : Option BInstr :=
  let op := ib w 61 56
  let rd := ib w 55 50
  let rs := ib w 49 44
  let i := ib w 43 43 = 1
  let alu := inRange 0x08 0x11 op
  let okOp := alu || op ∈ [1, 2, 0x18, 0x19, 0x1A, 0x1B, 0x20, 0x21, 0x22, 0x23]
  let rdReg := op ≠ 0x21 && op ≠ 0x23
  let rsReg := op ∈ [2, 0x18, 0x19, 0x21, 0x23] || (alu && !i)
  if okOp && ib w 42 32 = 0 && (!rdReg || rd ≤ 53) && (!rsReg || rs ≤ 53) then some (.scl op rd rs i (ib w 31 0)) else none

/-- The special format: FTAP. -/
def decodeFtap (w : Nat) : Option BInstr :=
  if ib w 61 56 = 1 && ib w 42 0 = 0 && ib w 50 47 ≤ 12 then some (.ftap (ib w 55 54) (ib w 53 51) (ib w 50 47) (ib w 46 43))
  else none

/-- An instruction word; none where it is not issued or a reserved bit is set (R408). -/
def decodeBrush (w : Nat) : Option BInstr :=
  match ib w 63 62 with
  | 0 => decodePar w
  | 1 => decodeCtl w
  | 2 => decodeScl w
  | _ => decodeFtap w

/-- The operation of an instruction as a number: its MAC/ALU opcode, 0x100 + its scalar opcode, 0x200 + its control opcode, or
0x300 for FTAP. -/
def BInstr.row : BInstr → Nat
  | .par op .. => op
  | .scl op .. => 0x100 + op
  | .ctl op .. => 0x200 + op
  | .ftap .. => 0x300

/-- The instruction word at a PC (R402). -/
def Core.instrAt (c : Core) (k pc : Nat) : Nat := (c.imWord k (2 * (pc % 8192))).toNat + 2 ^ 32 * (c.imWord k (2 * (pc % 8192) + 1)).toNat

end Sys2Proof.Machine
end

