-- ==== Sys2Proof/Machine/Atelier.lean ====
section
/-! DEFINITION. Atelier: task slots, posting, ticks, dispatch, ordered flows, cancels, faults and the decision trace (R426 to
R443), and requests that the fabric holds (R444 to R448). -/

namespace Sys2Proof.Machine

/-! ### Slots and descriptors (R426, R427) -/

def Core.slot (c : Core) (s : Nat) : AtSlot := smGet (fun _ => {}) c.atl.slots s

/-- ATELIER_SLOTs shows a slot. -/
def AtSlot.word (x : AtSlot) : Nat :=
  x.state + bitsOf (dw x.desc 0) 18 16 * 8 + x.core * 128 + b2n x.retried * 2 ^ 14 + x.gen * 2 ^ 16 + x.dep * 2 ^ 23

def Core.setSlot (c : Core) (s : Nat) (x : AtSlot) : Core :=
  { c with atl := { c.atl with slots := smSet (fun _ => {}) c.atl.slots s x } }.put (R.ATELIER_SLOT s) (.ofNat 32 x.word)

/-- Fields of a descriptor. -/
def AtSlot.entry (x : AtSlot) : Nat := bitsOf (dw x.desc 0) 12 0
def AtSlot.prio (x : AtSlot) : Nat := bitsOf (dw x.desc 0) 18 16
def AtSlot.release (x : AtSlot) : Nat := bitsOf (dw x.desc 0) 21 20
def AtSlot.ordered (x : AtSlot) : Bool := bitOf (dw x.desc 0) 22
def AtSlot.notify (x : AtSlot) : Bool := bitOf (dw x.desc 0) 23
def AtSlot.flow (x : AtSlot) : Nat := bitsOf (dw x.desc 0) 29 24
def AtSlot.target (x : AtSlot) (l : Nat) : Bool := bitOf (dw x.desc (1 + l / 32)) (l % 32)
def AtSlot.time (x : AtSlot) : Nat := x.desc.getD 5 0 + 2 ^ 32 * x.desc.getD 6 0
def AtSlot.period (x : AtSlot) : Nat := let p := x.desc.getD 5 0 % 256; if p = 0 then 256 else p
def AtSlot.phase (x : AtSlot) : Nat := x.desc.getD 5 0 / 256 % 256
def AtSlot.succs (x : AtSlot) : List Nat :=
  let w := dw x.desc 7
  (if bitOf w 15 then [bitsOf w 8 0] else []) ++ (if bitOf w 31 then [bitsOf w 24 16] else [])
def handleOf (s : Nat) (x : AtSlot) : Nat := s + x.gen * 512

/-- A decision is noted for the trace (R443). -/
def Core.atTrace (c : Core) (event reason s : Nat) (x : AtSlot) (core port : Nat) : Core :=
  { c with atl := { c.atl with trace := c.atl.trace ++ [{ event := event, reason := reason, slot := s, info := x, core := core,
                                                           port := port }] } }

/-- Slots that are not free. -/
def Core.busySlots (c : Core) : List (Nat × AtSlot) := c.atl.slots.filter fun x => decide (x.2.state ≠ 0)

/-- ATELIER_STATUS follows. -/
def Core.atShow (c : Core) : Core :=
  let l := c.busySlots
  let c := (c.setF F.ATELIER_STATUS_IN_FLIGHT l.length).setF F.ATELIER_STATUS_READY (l.filter (·.2.state = 3)).length
  (c.setF F.ATELIER_STATUS_RUNNING (l.filter (·.2.state = 4)).length).setB F.ATELIER_STATUS_TRACE_ON
    (c.flag F.ATELIER_TRACE_CTRL_EN)

/-! ### Becoming ready (R431, R436) -/

/-- The next SEQ of a flow is given out. -/
def Core.nextSeq (c : Core) (f : Nat) : Nat × Core :=
  let q := bitsOf (c.get (R.ATELIER_FLOW f)) 14 0
  (q, c.setF ⟨R.ATELIER_FLOW f, 14, 0⟩ (q + 1))

/-- A task joins its ready list, with a SEQ of its own for a new instance of EVERY_BLOCK. -/
def Core.makeReady (c : Core) (s reason : Nat) : Core :=
  let x := c.slot s
  let q := if x.ordered ∧ x.release = 2 then c.nextSeq x.flow else (x.seq, c)
  let c := q.2
  let y := { x with state := 3, seq := q.1, retried := false, core := 0x7F }
  let c := c.setSlot s y
  let l := smGet (fun _ => []) c.atl.ready x.prio
  let c := { c with atl := { c.atl with ready := smSet (fun _ => []) c.atl.ready x.prio (l ++ [s]) } }
  c.atTrace 2 reason s y 0x7F 0x7F

/-- A task leaves its ready list. -/
def Core.unready (c : Core) (s : Nat) : Core :=
  { c with atl := { c.atl with ready := (c.atl.ready.map fun x => (x.1, x.2.filter (· ≠ s))).filter fun x => !x.2.isEmpty } }

/-! ### Release (R436 to R438) -/

/-- A completion entry, lost where the FIFO is full (R437). -/
def Core.doneEntry (c : Core) (s : Nat) (x : AtSlot) (status : Nat) : Core :=
  if !x.notify then c
  else if c.atl.done.length ≥ 64 then c.count R.ATELIER_DONE_LOST
  else
    let e := handleOf s x + status * 2 ^ 16 + 2 ^ 31
    let first := c.atl.done.isEmpty
    let c := { c with atl := { c.atl with done := c.atl.done ++ [e] } }
    c.raiseIf first F.ATELIER_INT_STATUS_DONE_ENTRY

/-- Successors' dependency counts go down by 1; at 0 they are ready (R431). -/
def Core.dropDeps (c : Core) (l : List Nat) : Core :=
  l.foldl (fun (c : Core) s =>
    let x := c.slot s
    if x.state ≠ 2 then c
    else
      let c := c.setSlot s { x with dep := x.dep - 1 }
      if x.dep ≤ 1 then c.makeReady s 0 else c) c

/-- A slot is freed, and its generation increments (R426). -/
def Core.freeSlot (c : Core) (s : Nat) : Core := c.setSlot s { gen := ((c.slot s).gen + 1) % 128 }

/-- The task of a slot is over for this instance: its successors, its entry, and its slot (R437). -/
def Core.finish (c : Core) (s status : Nat) : Core :=
  let x := c.slot s
  let c := (c.dropDeps x.succs).doneEntry s x status
  if x.release = 2 ∧ !x.last ∧ status = 0 then
    c.setSlot s { x with state := 6, seq := 0, retried := false, core := 0x7F }
  else c.freeSlot s

/-- Held tasks and holes of a flow that now qualify are released, in SEQ order (R436, R438). -/
def Core.releaseFlow : Nat → Core → Nat → Core
  | 0, c, _ => c
  | n + 1, c, f =>
    let q := bitsOf (c.get (R.ATELIER_FLOW f)) 30 16
    let next := fun (c : Core) => c.setF ⟨R.ATELIER_FLOW f, 30, 16⟩ (q + 1)
    if smGet (fun _ => false) c.atl.holes (32768 * f + q) then
      let c := { c with atl := { c.atl with holes := smSet (fun _ => false) c.atl.holes (32768 * f + q) false } }
      Core.releaseFlow n (next c) f
    else
      match c.atl.slots.find? fun x => decide (x.2.state = 5 ∧ x.2.flow = f ∧ x.2.seq = q) with
      | some (s, x) => Core.releaseFlow n ((next (c.atTrace 5 0 s x x.core 0x7F)).finish s 0) f
      | none => c

/-- A SEQ becomes a hole; tasks that waited for it are released (R438). -/
def Core.hole (c : Core) (s : Nat) (x : AtSlot) (reason : Nat) : Core :=
  if !x.ordered then c
  else
    let c := { c with atl := { c.atl with holes := smSet (fun _ => false) c.atl.holes (32768 * x.flow + x.seq) true } }
    (c.atTrace 6 reason s x 0x7F 0x7F).releaseFlow (513 + c.atl.holes.length) x.flow

/-- A running task's core has executed DONE (R435, R436). -/
def Core.taskDone (c : Core) (s : Nat) : Core :=
  let x := c.slot s
  let c := c.atTrace 4 0 s x x.core 0x7F
  let c := if x.ordered then
      (c.setSlot s { x with state := 5 }).releaseFlow (513 + c.atl.holes.length) x.flow
    else (c.atTrace 5 0 s x x.core 0x7F).finish s 0
  c.atShow

/-- A task ends without completing: cancelled (1), faulted (2) or removed by a reset (3) (R438, R439, R441, R442). -/
def Core.taskLost (c : Core) (s status reason : Nat) : Core :=
  let x := c.slot s
  let c := c.unready s
  let c := c.finish s status
  -- an EVERY_BLOCK task between instances holds no SEQ
  if x.state = 6 then c.atShow else (c.hole s x reason).atShow

/-! ### Posting (R428, R429) -/

/-- Whether a descriptor is well-formed: reserved and unused bits are 0, DEP is 1 to 255, some core is allowed. -/
def descOk (d : List Nat) : Bool :=
  let w := dw d 0
  let r := bitsOf w 21 20
  let w5 := d.getD 5 0
  let w6 := d.getD 6 0
  bitsOf w 15 13 = 0 && !bitOf w 19 && bitsOf w 31 30 = 0 && (d.getD 1 0 ≠ 0 || d.getD 2 0 ≠ 0) &&
    bitsOf (dw d 7) 14 9 = 0 && bitsOf (dw d 7) 30 25 = 0 &&
    (if r = 0 then w5 = 0 && w6 = 0 else if r = 1 then true else if r = 2 then w5 < 65536 && w6 = 0
     else inRange 1 255 w5 && w6 = 0)

/-- The reason to refuse a post, 0 for none (R429). -/
def Core.postReason (c : Core) (port : Nat) (d : List Nat) : Nat :=
  let x : AtSlot := { desc := d }
  let free := 512 - c.busySlots.length
  if (if port = 8 then decide (free < 33) else decide (free = 0)) || c.postSmudged (512 - free) then 1
  else if !descOk d || ((x.release = 1 || x.release = 2) && !c.clk.mediaOn) then 2
  else if x.succs.any fun s => decide ((c.slot s).state ≠ 2) then 3
  else if port = 8 ∧ ((List.range 64).any fun l => x.target l && c.f (F.BRUSH_CORE_STATE_OWNER (c.phys l)) ≠ 2) then 4
  else 0

/-- The post of a staging area: taken whole or refused whole. -/
def Core.postTask (c : Core) (m port : Nat) : Core :=
  let d := (List.range 8).map fun w => (c.get (R.ATELIER_STAGE_D m w)).toNat
  let reason := c.postReason port d
  let c := if reason = 1 ∧ c.postSmudged c.busySlots.length then c.smudgeHit 1 else c
  if reason ≠ 0 then
    let c := ((c.count R.ATELIER_REFUSED).raise F.ATELIER_INT_STATUS_REFUSED).put (R.ATELIER_STAGE_RESULT m) (.ofNat 32 (2 ^ 31 + reason))
    (c.atTrace 1 (reason + 3) 0 { desc := d } 0x7F port).atShow
  else
    let s := ((List.range 512).find? fun s => decide ((c.slot s).state = 0)).getD 0
    let x : AtSlot := { desc := d, gen := (c.slot s).gen, poster := port }
    let q := if x.ordered ∧ x.release ≠ 2 then c.nextSeq x.flow else (0, c)
    let x := { x with seq := q.1, dep := if x.release = 3 then d.getD 5 0 else 0,
                      state := [0, 1, 6, 2].getD x.release 0 }
    let c := (q.2.setSlot s x).countW R.ATELIER_POSTED 1
    let c := c.put (R.ATELIER_STAGE_RESULT m) (.ofNat 32 (handleOf s x + q.1 * 2 ^ 16))
    let c := c.atTrace 0 0 s x 0x7F port
    (if x.release = 0 then c.makeReady s 0 else c).atShow

/-- A write of ATELIER_STAGEm_GO: only the area's own master posts (R428). -/
def atelierPost (port m : Nat) (v : Word) (c : Core) : Core :=
  if m > 4 then c
  else
    c.busWrite ⟨port, R.ATELIER_STAGE_GO m, v⟩ 1 fun c =>
      if port ≠ (if m = 4 then 8 else m) then c.count R.ATELIER_BAD_POST
      else if bitOf v 0 then c.postTask m port else c

/-! ### Ticks (R430 to R433) -/

/-- Slots in the order of the delay list: by TIME and then by number (R431). -/
def insertDue (x : Nat × AtSlot) : List (Nat × AtSlot) → List (Nat × AtSlot)
  | [] => [x]
  | y :: t => if x.2.time < y.2.time then x :: y :: t else y :: insertDue x t

/-- The tick of sample place j of the block: AT_TIME tasks that are due, then at a block boundary the EVERY_BLOCK tasks. -/
def atelierTick (j : Nat) (c : Core) : Core :=
  if !c.clk.mediaOn ∨ j ≥ c.blk then c
  else
    let n := c.time.n + j
    let due := (c.atl.slots.filter fun x => decide (x.2.state = 1 ∧ x.2.time ≤ n)).foldl (fun l x => insertDue x l) []
    let c := due.foldl (fun (c : Core) x => c.makeReady x.1 (if x.2.time < n then 1 else 0)) c
    let k := n / c.blk
    let per : List (Nat × AtSlot) := if n % c.blk ≠ 0 then [] else
      c.atl.slots.filter fun x => decide (x.2.state ≠ 0 ∧ x.2.release = 2 ∧ !x.2.last ∧ k % x.2.period = x.2.phase % x.2.period)
    let c := per.foldl (fun (c : Core) x =>
      if x.2.state = 6 then c.makeReady x.1 0
      else ((c.count R.ATELIER_SKIP).raise F.ATELIER_INT_STATUS_SKIP).atTrace 10 0 x.1 x.2 0x7F 0x7F) c
    c.atShow

/-! ### Dispatch (R434) -/

/-- The lowest pending interrupt source of a core whose enable bit is set, while SR.IE is 1 (R412). -/
def Core.takeable (c : Core) (k : Nat) : Option Nat :=
  if bitOf (c.bc k).sr 6 then
    (List.range 4).find? fun s => bitOf (c.get (R.BRUSH_CORE_IRQ k)) s && bitOf (c.get (R.BRUSH_CORE_IRQ k)) (8 + s)
  else none

/-- Whether a logical core can receive a task. -/
def Core.eligible (c : Core) (l : Nat) : Bool :=
  let k := c.phys l
  c.bcState k = 2 && !c.power.engineStop && !c.flag (F.BRUSH_CORE_STATE_IN_TASK k) && (c.takeable k).isNone

/-- A task goes to a logical core. -/
def Core.dispatch (c : Core) (s l : Nat) : Core :=
  let k := c.phys l
  let x := { c.slot s with state := 4, core := l }
  let c := ((c.unready s).setSlot s x).countW R.ATELIER_DISPATCHED 1
  let b := (((c.bc k).setS 12 (x.desc.getD 3 0)).setS 13 (x.desc.getD 4 0)).setS 14 (handleOf s x + x.seq * 2 ^ 16)
  let c := c.setBc k { b with pc := x.entry, task := some s, waited := none, rep := 0 }
  let c := (c.setBcState k 3).setF (F.BRUSH_CORE_STATE_IN_TASK k) 1
  (c.atTrace 3 0 s x l 0x7F).atShow

/-- One FABRIC cycle's dispatch: the first task, by priority and age, that has an eligible core goes to the lowest one. -/
def atelierDispatch (c : Core) : Core :=
  let l := [7, 6, 5, 4, 3, 2, 1, 0].flatMap fun p => smGet (fun _ => []) c.atl.ready p
  match l.findSome? fun s => ((List.range 64).find? fun k => (c.slot s).target k && c.eligible k).map fun k => (s, k) with
  | some (s, k) => c.dispatch s k
  | none => c

/-! ### Cancel, faults and resets (R439 to R442) -/

/-- A handle is cancelled by a master (R439). -/
def Core.cancelTask (c : Core) (port handle reason : Nat) : Core :=
  let s := handle % 512
  let x := c.slot s
  if x.state = 0 ∨ x.gen ≠ handle / 512 % 128 then (c.count R.ATELIER_CANCEL_STALE).atTrace 7 reason s x 0x7F port
  else
    let c := c.atTrace 7 reason s x 0x7F port
    if x.state = 4 ∨ x.state = 5 then (c.setSlot s { x with last := true }).count R.ATELIER_CANCEL_LATE
    else c.taskLost s 1 reason

/-- A write of ATELIER_CANCEL. -/
def atelierCancel (port : Nat) (v : Word) (c : Core) : Core :=
  c.busWrite ⟨port, R.ATELIER_CANCEL, v⟩ 0 fun c => c.cancelTask port (v.toNat % 65536) 0

/-- A read of ATELIER_DONE pops one entry (R437). -/
def atelierDonePop (port : Nat) (c : Core) : Core :=
  c.busRead port R.ATELIER_DONE fun c =>
    match c.atl.done with
    | [] => (0, c)
    | e :: t => (.ofNat 32 e, { c with atl := { c.atl with done := t } })

/-- A core in a task has entered ERROR: the task is retried once, at the head of its ready list, and then faulted (R441). -/
def Core.taskFault (c : Core) (s : Nat) : Core :=
  let x := c.slot s
  if x.retried then
    let c := ((c.count R.ATELIER_FAULTED).raise F.ATELIER_INT_STATUS_FAULT).atTrace 9 0 s x x.core 0x7F
    c.taskLost s 2 0
  else
    let y := { x with state := 3, retried := true, core := 0x7F }
    let c := c.setSlot s y
    let l := smGet (fun _ => []) c.atl.ready x.prio
    let c := { c with atl := { c.atl with ready := smSet (fun _ => []) c.atl.ready x.prio (s :: l) } }
    ((c.count R.ATELIER_RETRY).atTrace 8 0 s y x.core 0x7F).atShow

/-- A Brush group is reset: its running tasks are removed and waiting tasks that only its cores may run are cancelled (R442). -/
def Core.groupTasks (c : Core) (g : Nat) : Core :=
  let only := fun (x : AtSlot) => (List.range 64).all fun l => !x.target l || decide (l / 16 = g)
  let run := c.atl.slots.filter fun x => decide (x.2.state = 4 ∧ x.2.core / 16 = g)
  let c := run.foldl (fun (c : Core) x => c.taskLost x.1 3 3) c
  let wait := c.atl.slots.filter fun x => decide (x.2.state ∈ [1, 2, 3, 6]) && only x.2
  wait.foldl (fun (c : Core) x => (c.atTrace 7 3 x.1 x.2 0x7F 0x7F).taskLost x.1 1 3) c

/-- The media time moves: every AT_TIME task is cancelled (R442). -/
def Core.mediaTasks (c : Core) : Core :=
  (c.atl.slots.filter fun x => decide (x.2.release = 1 ∧ x.2.state ≠ 0)).foldl (fun (c : Core) x =>
    c.cancelTask 0x7F (handleOf x.1 x.2) 2) c

/-! ### The decision trace (R443) -/

/-- Whether an event is traced. -/
def Core.traces (c : Core) (e : Nat) : Bool := c.flag F.ATELIER_TRACE_CTRL_EN && bitOf (c.get R.ATELIER_TRACE_CTRL) (16 + e)

/-- Events of one cycle in ascending EVENT code and then slot number. -/
def insertEvent (x : AtEvent) : List AtEvent → List AtEvent
  | [] => [x]
  | y :: t => if x.event < y.event ∨ (x.event = y.event ∧ x.slot < y.slot) then x :: y :: t else y :: insertEvent x t

/-- The four words of a record; the FABRIC cycles since the tick are a free value. -/
def Core.recordWords (c : Core) (e : AtEvent) : List Nat × Core :=
  let f := c.free
  let x := e.info
  ([c.now % 2 ^ 32, f.1 % 32768 + e.event * 2 ^ 15 + x.prio * 2 ^ 20 + e.reason * 2 ^ 23 + b2n x.ordered * 2 ^ 27,
    handleOf e.slot x + x.flow * 2 ^ 16, x.seq + e.core * 2 ^ 16 + e.port * 2 ^ 24], f.2)

/-- A record goes into the ring, or is dropped where the ring is full and MODE is 0: the bytes written and where. -/
def Core.ringRecord (c : Core) (ws : List Nat) : Option (Nat × List Byte) × Core :=
  let size := 2 ^ c.f F.ATELIER_TRACE_CTRL_LOG2
  let prod := c.f F.ATELIER_TRACE_PROD_INDEX % size
  let full := decide ((prod + 1) % size = c.f F.ATELIER_TRACE_CONS_INDEX % size)
  if full ∧ c.f F.ATELIER_TRACE_CTRL_MODE = 0 then
    (none, { (c.count R.ATELIER_TRACE_DROP).raise F.ATELIER_INT_STATUS_TRACE_DROP with
      atl := { c.atl with gap := min 32767 (c.atl.gap + 1) } })
  else
    let base := c.f F.ATELIER_TRACE_BASE_LO_BASE + 2 ^ 32 * c.f F.ATELIER_TRACE_BASE_HI_BASE
    (some (base + 16 * prod, natBytes ws), c.setF F.ATELIER_TRACE_PROD_INDEX ((prod + 1) % size))

/-- The records of the step that has just ended, as writes to the ring, with a LOST record after a gap. -/
def Core.traceWrites (c : Core) : List (Nat × List Byte) × Core :=
  let es := c.atl.trace.foldl (fun l e => insertEvent e l) []
  let c := { c with atl := { c.atl with trace := [] } }
  es.foldl (fun (a : List (Nat × List Byte) × Core) e =>
    let c := a.2
    if !c.traces e.event then a
    else
      let lost := if c.atl.gap > 0 ∧ c.traces 11 then
          let r := c.recordWords { event := 11, reason := 0, slot := 0, info := { seq := c.atl.gap }, core := 0x7F, port := 0x7F }
          let w := r.2.ringRecord r.1
          if w.1.isSome then (w.1.toList, { w.2 with atl := { w.2.atl with gap := 0 } }) else ([], c)
        else ([], c)
      let r := lost.2.recordWords e
      let w := r.2.ringRecord r.1
      (a.1 ++ lost.1 ++ w.1.toList, w.2)) ([], c)

/-- The trace records of a step reach the DRAM ring through port 7. -/
def flushTrace (mem : Mem) (c : Core) : Core × Mem :=
  if c.atl.trace.isEmpty then (c, mem)
  else
    let w := c.traceWrites
    w.1.foldl (fun (a : Core × Mem) x => memWrite 7 x.1 x.2 a.2 a.1) (w.2, mem)

end Sys2Proof.Machine
end

