-- ==== Sys2Proof/Machine/BrushExec.lean ====
section
/-! DEFINITION. What a Brush core does with each instruction: timing, arithmetic, memory, loops, interrupts, control registers and
transfers (R389 to R418). -/

namespace Sys2Proof.Machine

/-! ### States of a core -/

/-- The PC of the last issued instruction and the cycle count show in the control registers. -/
def Core.bcShow (c : Core) (k pc : Nat) : Core :=
  let x := c.bc k
  ((c.setF (F.BRUSH_CORE_PC_PC k) pc).put (R.BRUSH_CORE_CYCLE_LO k) (.ofNat 32 x.cycle)).put (R.BRUSH_CORE_CYCLE_HI k)
    (.ofNat 32 (x.cycle / 2 ^ 32))

/-- The running task of a core ends without DONE because the core stops. -/
def Core.dropTask (c : Core) (k : Nat) : Core :=
  match (c.bc k).task with
  | none => c.setF (F.BRUSH_CORE_STATE_IN_TASK k) 0
  | some s =>
    let c := (c.setBc k { c.bc k with task := none }).setF (F.BRUSH_CORE_STATE_IN_TASK k) 0
    c.taskLost s 3 3

/-- A core stops: writes in flight land (R414). -/
def Core.bcStop (c : Core) (k : Nat) : Core :=
  let x := (c.bc k).settle
  let c := c.setBc k { x with writes := [], rep := 0, halt := false, waited := none }
  (c.setBcState k 1).dropTask k

/-- A core enters ERROR and records the cause and the PC (R408); Atelier takes its task back (R441). -/
def Core.bcError (c : Core) (k cause : Nat) : Core :=
  let x := (c.bc k).settle
  let c := c.setBc k { x with writes := [], rep := 0, halt := false, task := none, waited := none }
  let c := ((c.setBcState k 4).setF (F.BRUSH_CORE_FAULT_PC k) x.pc).setF (F.BRUSH_CORE_FAULT_CAUSE k) cause
  let c := ((c.count R.BRUSH_ERR_STOP).raise F.BRUSH_INT_STATUS_ERR_STOP).setF (F.BRUSH_CORE_STATE_IN_TASK k) 0
  match x.task with
  | some s => c.taskFault s
  | none => c

/-- A source becomes pending on a core (R412). -/
def Core.bcPend (c : Core) (k source : Nat) : Core := c.setF ⟨R.BRUSH_CORE_IRQ k, source, source⟩ 1

/-! ### Completion, REP and the loop (R409, R410) -/

/-- Writes of an instruction are in flight. -/
def Core.bcWrites (c : Core) (k : Nat) (ws : List BcWrite) : Core := c.setBc k { c.bc k with writes := (c.bc k).writes ++ ws }

/-- The PC after an instruction that completes in line: it repeats under REP, or the loop goes back at LE. -/
def BrushCore.advance (x : BrushCore) : BrushCore :=
  if x.rep > 1 then { x with rep := x.rep - 1 }
  else
    let lc := x.s 48
    if x.pc = x.s 50 ∧ lc ≠ 0 then
      if lc > 1 then { x.setS 48 (lc - 1) with rep := 0, pc := x.s 49 } else { x.setS 48 0 with rep := 0, pc := (x.pc + 1) % 8192 }
    else { x with rep := 0, pc := (x.pc + 1) % 8192 }

/-- An instruction has taken its cycles; `next` is where control goes, none in line. A halt request acts outside a REP. -/
def Core.bcRetire (c : Core) (k cycles : Nat) (next : Option Nat) : Core :=
  let pc := (c.bc k).pc
  let x := (c.bc k).pass cycles
  let x := match next with
    | some n => { x with pc := n % 8192, rep := 0 }
    | none => x.advance
  let c := (c.setBc k x).bcShow k pc
  if x.halt ∧ x.rep = 0 then c.bcStop k else c

/-- Entry to the interrupt of a source (R413). -/
def Core.bcEnter (c : Core) (k source : Nat) : Core :=
  let x := c.bc k
  let x := ((x.setS 52 x.pc).setS 53 (x.s 51)).setS 51 (x.s 51 &&& (2 ^ 32 - 1 - 64))
  let c := c.setF ⟨R.BRUSH_CORE_IRQ k, source, source⟩ 0
  let c := c.setBc k { x with pc := ((c.get (R.BRUSH_CORE_IVB k)).toNat + 4 * source) % 8192 }
  c.setBcState k 3

/-! ### The parallel format (R394 to R401, R403, R404) -/

/-- Bitwise operations on 24 bits. -/
def bit24 (f : Nat → Nat → Nat) (a b : Int) : Int := signed 24 (f (unsigned 24 a) (unsigned 24 b))

/-- The writes of the MAC/ALU slot issued in cycle t. -/
def BrushCore.macSlot (x : BrushCore) (op dst sa sb bc : Nat) : List BcWrite :=
  let t := x.cycle
  let a := x.v sa
  let b := if bc < 4 then x.v sb else List.replicate 4 ((x.v sb).getD (bc - 4) 0)
  let prod := List.zipWith (fun p q => rshr x.psh (p * q)) a b
  let one := a.map fun p => rshr x.psh (p * 2 ^ 23)
  let neg := fun (l : List Int) => l.map fun v => -v
  let acc := x.a sa
  let vec := fun (l : List Int) => let y := sat24 l; (⟨t + 2, .lanes dst y.1⟩ : BcWrite) :: satWrite (t + 2) y.2
  let bits := fun (f : Nat → Nat → Nat) => [(⟨t + 2, .lanes dst (List.zipWith (bit24 f) a b)⟩ : BcWrite)]
  let on := fun (o : BcOp) => [(⟨t + 3, o⟩ : BcWrite)]
  match op with
  | 0x01 => on (.accAdd dst prod)
  | 0x02 => on (.accAdd dst (neg prod))
  | 0x03 => on (.accSet dst prod)
  | 0x05 => on (.accSet dst [0, 0, 0, 0])
  | 0x06 => on (.accAdd dst one)
  | 0x07 => on (.accAdd dst (neg one))
  | 0x08 => vec (acc.map (rshr x.osh))
  | 0x09 => vec (acc.map fun v => v / (2 ^ x.osh : Nat))
  | 0x0A => on (.accSet dst [acc.sum, 0, 0, 0])
  | 0x0B => on (.accSet dst acc)
  | 0x10 => vec (List.zipWith (· + ·) a b)
  | 0x11 => vec (List.zipWith (· - ·) a b)
  | 0x12 => bits (· &&& ·)
  | 0x13 => bits (· ||| ·)
  | 0x14 => bits (· ^^^ ·)
  | 0x15 => vec (neg a)
  | 0x16 => vec (a.map fun v => (v.natAbs : Int))
  | 0x17 => vec (List.zipWith max a b)
  | 0x18 => vec (List.zipWith min a b)
  | 0x19 => vec (a.map fun v => v / (2 ^ sb : Nat))
  | 0x1A => vec (a.map (rshr sb))
  | 0x1B => vec (a.map fun v => v * (2 ^ sb : Nat))
  | 0x1C => vec b
  | 0x1D => vec ((List.range 4).map fun k => a.getD ((k + sb) % 4) 0)
  | _ => []

/-- What a load places in its register (R396). -/
def BrushCore.loaded (x : BrushCore) (w : Word) : Int :=
  let v := signed 24 w.toNat
  if 0 ≤ x.lsh then v * (2 ^ x.lsh.toNat : Nat) else rshr (-x.lsh).toNat v

/-- A memory slot: the words it reads, its register writes, and its stores with whether one saturated. -/
def Core.memSlot (c : Core) (k : Nat) (m : Nat × Nat × Nat × Nat) : List Nat × List BcWrite × List (Nat × Int) :=
  let x := c.bc k
  let t := x.cycle
  let (op, reg, p, _) := m
  let at4 := (List.range 4).map (x.lane p)
  let ld := fun (ws : List Nat) => let y := sat24 (ws.map fun a => x.loaded (c.dmWord k a))
                                   ((⟨t + 2, .lanes reg y.1⟩ : BcWrite) :: satWrite (t + 2) y.2)
  let full : List Int := (x.v reg).map fun (v : Int) => v * ((2 ^ x.ssh : Nat) : Int)
  let st := fun (ws : List Nat) =>
    (satWrite (t + 1) (sat24 (full.take ws.length)).2, List.zip ws (sat24 full).1)
  match op with
  | 1 => (at4, ld at4, [])
  | 2 => let a := x.lane p 0; ([a], ld [a, a, a, a], [])
  | 3 => let y := st at4; ([], y.1, y.2)
  | 4 => let y := st [x.lane p 0]; ([], y.1, y.2)
  | _ => ([], [], [])

/-- Stores reach data memory. -/
def Core.bcStores (c : Core) (k : Nat) (l : List (Nat × Int)) : Core :=
  l.foldl (fun (c : Core) s => c.setDm k s.1 (dmSample s.2)) c

/-- The pointers, and the offset that OP 3 changes, after the memory slots and the AU slot (R399, R404). -/
def BrushCore.pointers (x : BrushCore) (ma mb : Nat × Nat × Nat × Nat) (au : Nat × Nat × Nat) : List BcWrite :=
  let ps := (List.range 8).map fun i => x.s (16 + i)
  let step := fun (ps : List Nat) (m : Nat × Nat × Nat × Nat) =>
    if m.1 = 0 then ps else listSet ps m.2.2.1 (x.post m.2.2.1 m.2.2.2 (ps.getD m.2.2.1 0))
  let ps := step (step ps ma) mb
  let i := au.2.1
  let imm := signed 6 au.2.2
  let ps := if au.1 = 1 then listSet ps i (x.wrapP i ((ps.getD i 0 : Int) + signed 16 (x.s (24 + au.2.2 % 8))))
    else if au.1 = 2 then listSet ps i (x.wrapP i ((ps.getD i 0 : Int) + imm))
    else if au.1 = 4 then listSet ps i (x.s (32 + i)) else ps
  let ws := (ps.zipIdx.filter fun y => y.1 ≠ x.s (16 + y.2)).map fun y => (⟨x.cycle + 1, .scalar (16 + y.2) y.1⟩ : BcWrite)
  if au.1 = 3 then ws ++ [⟨x.cycle + 1, .scalar (24 + i) (unsigned 16 (signed 16 (x.s (24 + i)) + imm))⟩] else ws

/-- A parallel instruction. -/
def Core.issuePar (c : Core) (k op dst sa sb bc : Nat) (ma mb : Nat × Nat × Nat × Nat) (au : Nat × Nat × Nat) : Core :=
  let x := c.bc k
  let a := c.memSlot k ma
  let b := c.memSlot k mb
  let reads := a.1 ++ b.1
  if reads.any fun w => c.dmEcc k w = 2 then c.bcError k 4
  else
    let c := c.dmSeen k reads
    let c := c.bcWrites k (x.macSlot op dst sa sb bc ++ a.2.1 ++ b.2.1 ++ x.pointers ma mb au)
    ((c.bcStores k a.2.2).bcStores k b.2.2).bcRetire k 1 none

/-- FTAP (R411). -/
def Core.issueFtap (c : Core) (k a p mode move : Nat) : Core :=
  let x := c.bc k
  let t := x.cycle
  let reads := (List.range 4).map (x.lane p)
  let dst := (List.range 4).map fun (i : Nat) => x.wrapP p ((x.s (16 + p) : Int) + signed 4 move + (i : Int)) % 32768
  if reads.any fun w => c.dmEcc k w = 2 then c.bcError k 4
  else
    let c := c.dmSeen k reads
    let v : List Int := reads.map fun w => signed 24 (c.dmWord k w).toNat
    let coef := signed 24 (c.imWord k (x.s 23)).toNat
    let pi := x.post p mode (x.s (16 + p))
    let start7 := if p = 7 then pi else x.s 23
    let p7 := x.wrapP 7 ((start7 : Int) + signed 16 (x.s 31))
    let ws := [(⟨t + 5, .accAdd a (v.map fun q => rshr x.psh (q * coef))⟩ : BcWrite), ⟨t + 1, .scalar (16 + p) pi⟩,
      ⟨t + 1, .scalar 23 p7⟩]
    ((c.bcWrites k ws).bcStores k (List.zip dst v)).bcRetire k 1 none

/-! ### The scalar format (R397, R405) -/

/-- A scalar ALU operation, CMP or MUL. -/
def Core.issueAlu (c : Core) (k op rd : Nat) (b : Nat) : Core :=
  let f1 := if isShift op then c.free else (0, c)
  let f2 := if isShift op then f1.2.free else (0, f1.2)
  let c := f2.2
  let x := c.bc k
  let r := aluResult op (x.s rd) b (f1.1 % 2 = 1) (f2.1 % 2 = 1)
  let fl := aluFlags x.cycle r.1 r.2.1 r.2.2
  let ws := if op = 0x10 then [fl] else [fl, ⟨x.cycle + 1, .scalar rd r.1⟩]
  (c.bcWrites k ws).bcRetire k 1 none

/-! ### Control registers, mailboxes and transfers (R405, R417, R418) -/

/-- Whether a transfer range lies in DRAM below 14 GiB or in studio SRAM (R418). -/
def xferRange (a n : Nat) : Bool := a % 4 = 0 && (a + 4 * n ≤ dramEnd || (sramBase ≤ a && a + 4 * n ≤ sramEnd))

/-- GO of a transfer channel (R418). -/
def Core.xferGo (c : Core) (k n : Nat) : Core :=
  let err := fun (c : Core) => (c.setF (F.BRUSH_XFER_CTRL_ERR k n) 1).bcPend k 2
  if c.flag (F.BRUSH_XFER_CTRL_BUSY k n) then err c
  else
    let a := (c.get (R.BRUSH_XFER_FADDR_LO k n)).toNat + 2 ^ 32 * c.f (F.BRUSH_XFER_FADDR_HI_ADDR k n)
    let cnt := c.f (F.BRUSH_XFER_DM_COUNT k n) % 4096
    let cnt := if cnt = 0 then 4096 else cnt
    if !xferRange a cnt then err c
    else
      let x : Xfer := { addr := a, dm := c.f (F.BRUSH_XFER_DM_DM k n), count := cnt, toFabric := c.flag (F.BRUSH_XFER_DM_DIR k n) }
      { c with brush := { c.brush with xfers := smSet (fun _ => none) c.brush.xfers (4 * k + n) (some x) } }.setF
        (F.BRUSH_XFER_CTRL_BUSY k n) 1

def Core.mbx (c : Core) (p : Nat) : BrushMbx := smGet (fun _ => {}) c.brush.mbx p

/-- A mailbox pair changes; its owner's control registers follow (R417). -/
def Core.setMbx (c : Core) (p : Nat) (x : BrushMbx) : Core :=
  let c := { c with brush := { c.brush with mbx := smSet (fun _ => {}) c.brush.mbx p x } }
  match x.owner with
  | none => c
  | some l =>
    let k := c.phys l
    let c := (c.put (R.BRUSH_CORE_MBX_IN k) (.ofNat 32 x.c2b)).setF (F.BRUSH_CORE_MBX_STATUS_PAIR k) p
    (c.setB (F.BRUSH_CORE_MBX_STATUS_IN_FULL k) x.c2bFull).setB (F.BRUSH_CORE_MBX_STATUS_OUT_FULL k) x.b2cFull

/-- The pair that a physical core owns. -/
def Core.mbxOf (c : Core) (k : Nat) : Option Nat :=
  (List.range 8).find? fun p => match (c.mbx p).owner with
    | some l => decide (c.phys l = k)
    | none => false

/-- The owner posts a word to B2C; a word posted to a full mailbox is ignored and counted (R162). -/
def Core.mbxOut (c : Core) (k : Nat) (v : Word) : Core :=
  match c.mbxOf k with
  | none => c
  | some p =>
    let x := c.mbx p
    if x.b2cFull then (c.count R.HOST_MBX_OVERRUN).raise F.HOST_INT_STATUS_MBX_OVERRUN
    else c.setMbx p { x with b2c := v.toNat, b2cFull := true }

/-- The owner acknowledges C2B. -/
def Core.mbxAck (c : Core) (k : Nat) : Core :=
  match c.mbxOf k with
  | none => c
  | some p => c.setMbx p { c.mbx p with c2bFull := false }

/-- A stopped core starts at ENTRY (R414). -/
def Core.bcGo (c : Core) (k : Nat) : Core :=
  if c.bcState k ≠ 1 then c
  else
    let x := c.bc k
    let c := c.setBc k { x with pc := c.f (F.BRUSH_CORE_ENTRY_PC k), cycle := 0, rep := 0, halt := false, writes := [], task := none,
                                waited := none }
    (c.setBcState k 3).bcShow k (c.f (F.BRUSH_CORE_PC_PC k))

/-- A halt request: at once outside a REP, else it waits for its end (R414). -/
def Core.bcHalt (c : Core) (k : Nat) : Core :=
  if c.bcState k ∉ [2, 3, 4] then c
  else if (c.bc k).rep = 0 then c.bcStop k
  else c.setBc k { c.bc k with halt := true }

/-- What a served write of a control register starts, by its place in the core's window. -/
def Core.ctlAct (c : Core) (k x : Nat) (v : Word) : Core :=
  if x = 0x4 then
    let c := if bitOf v 1 then c.bcHalt k else c
    if bitOf v 0 then c.bcGo k else c
  else if x = 0x104 then c.mbxOut k v
  else if x = 0x10C then (if bitOf v 0 then c.mbxAck k else c)
  else if 0x80 ≤ x ∧ x < 0xC0 ∧ x % 16 = 0xC ∧ bitOf v 0 then c.xferGo k ((x - 0x80) / 16)
  else c

/-- The bits of a control register that ctlAct looks after. -/
def ctlHold (x : Nat) : Nat := if x = 0x4 then 3 else if 0x80 ≤ x ∧ x < 0xC0 ∧ x % 16 = 0xC then 1 else 0

/-- STC: a control register of the core itself is written by type. -/
def Core.stc (c : Core) (k x : Nat) (v : Word) : Core :=
  let off := R.BRUSH_CORE_STATE k + x
  match regRow? off with
  | none => c
  | some r => (c.writeTyped off v r true (ctlHold x)).ctlAct k x v

/-- GLAZE_LEFT of the parameter blocks: samples left of the Glaze of the last Palette 3 swap (R416). -/
def Core.glazeLeft (c : Core) : Nat :=
  match c.brush.glaze with
  | some (b, g) => b + g - c.time.n
  | none => 0

/-- LDC: a control register of the core itself, its snapshots among the core's own shadow words (R12, R405). -/
def Core.ldc (c : Core) (k x : Nat) : Word × Core :=
  let off := R.BRUSH_CORE_STATE k + x
  if x = 0x18 ∨ x = 0x28 then (c.get off, c.putShadow (16 + k) (off + 4) [(c.get (off + 4)).toNat])
  else if x = 0x1C ∨ x = 0x2C then (c.shadowWord (16 + k) off, c)
  else if x = 0x10C then (0, c)
  else if (regRow? off).isSome then (c.get off, c) else (0, c)

/-! ### The rest of the scalar format -/

/-- A scalar instruction (R405). -/
def Core.issueScl (c : Core) (k op rd rs : Nat) (i : Bool) (imm : Nat) : Core :=
  let x := c.bc k
  let t := x.cycle
  let put := fun (c : Core) (w : BcWrite) => (c.bcWrites k [w]).bcRetire k 1 none
  let a := (x.s rs + imm) % 32768
  let lane := imm % 4
  let half := imm / 4 % 2
  if inRange 0x08 0x11 op then c.issueAlu k op rd (if i then imm else x.s rs)
  else
    match op with
    | 0x01 => put c ⟨t + 1, .scalar rd imm⟩
    | 0x02 => put c ⟨t + 1, .scalar rd (x.s rs)⟩
    | 0x18 => if c.dmEcc k a = 2 then c.bcError k 4
              else put (c.dmSeen k [a]) ⟨t + 2, .scalar rd (c.dmWord k a).toNat⟩
    | 0x19 => (c.setDm k a (.ofNat 32 (x.s rd))).bcRetire k 1 none
    | 0x1A => let r := c.ldc k (4 * (imm % 1024)); put r.2 ⟨t + 1, .scalar rd r.1.toNat⟩
    | 0x1B => (c.stc k (4 * (imm % 1024)) (.ofNat 32 (x.s rd))).bcRetire k 1 none
    | 0x20 => put c ⟨t + 1, .scalar rd (unsigned 32 ((x.v (rs % 16)).getD lane 0))⟩
    | 0x21 => put c ⟨t + 2, .lane (rd % 16) lane (signed 24 (x.s rs))⟩
    | 0x22 => let v := unsigned 56 ((x.a (rs % 4)).getD lane 0)
              put c ⟨t + 1, .scalar rd (if half = 0 then v % 2 ^ 28 else unsigned 32 (signed 28 (v / 2 ^ 28)))⟩
    | _ => put c ⟨t + 3, .accHalf (rd % 4) lane half (x.s rs)⟩

/-! ### The control format (R406 to R413) -/

/-- The count of REP and DO (R409, R410). -/
def BrushCore.count (x : BrushCore) (rs imm : Nat) : Nat :=
  if imm / 2 ^ 31 % 2 = 1 then x.s rs else if imm % 65536 = 0 then 65536 else imm % 65536

/-- REP: it is folded into the next instruction, which may not be of the control format. -/
def Core.issueRep (c : Core) (k rs imm : Nat) : Core :=
  let x := c.bc k
  let n := x.count rs imm
  if ib (c.instrAt k (x.pc + 1)) 63 62 = 1 then c.bcError k 2
  else if n = 0 then c.setBc k { x with pc := (x.pc + 2) % 8192, rep := 0 }
  else c.setBc k { x with pc := (x.pc + 1) % 8192, rep := n }

/-- DO. -/
def Core.issueDo (c : Core) (k rs imm : Nat) : Core :=
  let x := c.bc k
  let le := imm / 65536 % 8192
  let n := x.count rs imm
  if le < x.pc + 1 then c.bcError k 3
  else
    let ws := [(48, n), (49, x.pc + 1), (50, le)].map fun y => (⟨x.cycle + 1, .scalar y.1 y.2⟩ : BcWrite)
    (c.bcWrites k ws).bcRetire k 1 (some (if n = 0 then le + 1 else x.pc + 1))

/-- POLL: after its 3 cycles the lowest takeable source is taken, in 2 more (R412, R413). -/
def Core.issuePoll (c : Core) (k : Nat) : Core :=
  let c := c.bcRetire k 3 none
  match (if c.bcState k = 3 then c.takeable k else none) with
  | some s =>
    let c := c.bcEnter k s
    c.setBc k ((c.bc k).pass 2)
  | none => c

/-- WAIT for n cycles: a takeable source is taken; the PC stays at the WAIT, or at the DONE that waits. -/
def Core.issueWait (c : Core) (k n : Nat) : Core :=
  let x := (c.bc k).pass (max 1 n)
  let c := (c.setBc k x).bcShow k x.pc
  match c.takeable k with
  | some s =>
    let done := match decodeBrush (c.instrAt k x.pc) with
      | some (.ctl 8 _ _ _) => some x.pc
      | _ => none
    c.setBc k { x with waited := done } |>.bcEnter k s
  | none => c.setBcState k 2

/-- DONE: the end of the task reaches Atelier and the core waits; outside a task it is an error, unless it is the DONE whose wait
an interrupt broke off. -/
def Core.issueDone (c : Core) (k : Nat) : Core :=
  let x := c.bc k
  match x.task with
  | some s =>
    let y := { x.pass 1 with task := none }
    let c := ((c.setBc k y).bcShow k x.pc).setF (F.BRUSH_CORE_STATE_IN_TASK k) 0
    (c.setBcState k 2).taskDone s
  | none =>
    if x.waited = some x.pc then ((c.setBc k { x.pass 1 with waited := none }).bcShow k x.pc).setBcState k 2
    else c.bcError k 5

/-- A control instruction; n is how long a WAIT or SYNC lasts. -/
def Core.issueCtl (c : Core) (k op cond rs imm n : Nat) : Core :=
  let x := c.bc k
  match op with
  | 0x01 => if x.cond cond then c.bcRetire k 2 (some imm) else c.bcRetire k 1 none
  | 0x02 => (c.bcWrites k [⟨x.cycle + 1, .scalar 15 ((x.pc + 1) % 8192)⟩]).bcRetire k 2 (some imm)
  | 0x03 => c.bcRetire k 2 (some (x.s 15))
  | 0x04 => c.issueRep k rs imm
  | 0x05 => c.issueDo k rs imm
  | 0x06 => c.issuePoll k
  | 0x07 => c.issueWait k n
  | 0x08 => c.issueDone k
  | 0x09 => (c.bcWrites k [⟨x.cycle + 1, .scalar 51 (x.s 53)⟩]).bcRetire k 2 (some (x.s 52))
  | 0x0A => (c.bcPend k 3).issuePoll k
  | 0x0B => ((c.setBc k (x.pass 1)).bcShow k x.pc).bcStop k
  | _ =>
    if (List.range 4).any fun ch => c.flag (F.BRUSH_XFER_CTRL_BUSY k ch) then (c.setBc k (x.pass (max 1 n))).bcShow k x.pc
    else c.bcRetire k 1 none

/-! ### One instruction -/

/-- A decoded instruction issues. -/
def Core.issue (c : Core) (k n : Nat) (i : BInstr) : Core :=
  match i with
  | .par op dst sa sb bc ma mb au => c.issuePar k op dst sa sb bc ma mb au
  | .ctl op cond rs imm => c.issueCtl k op cond rs imm n
  | .scl op rd rs i imm => c.issueScl k op rd rs i imm
  | .ftap a p mode move => c.issueFtap k a p mode move

/-- Core k issues the instruction at its PC, when that is the operation `row`; an instruction that is not issued is an error
(R408), and the cores stand still in standby and mute and hold (R65, R135). n is how long a WAIT or SYNC lasts. -/
def Core.brushStep (c : Core) (row k n : Nat) : Core :=
  if k > 67 ∨ c.bcState k ≠ 3 ∨ c.power.engineStop then c
  else
    match decodeBrush (c.instrAt k (c.bc k).pc) with
    | none => c.bcError k 1
    | some i => if i.row = row then c.issue k n i else c

/-- One instruction of an operation on a physical core. -/
def brushIssue (row k : Nat) (c : Core) : Core := c.brushStep row k 1

/-- SYNC lasts n cycles. -/
def brushSync (k n : Nat) (c : Core) : Core := c.brushStep 0x20C k n

/-- WAIT lasts n cycles: of a core that reaches one, or that waits already. -/
def brushWait (k n : Nat) (c : Core) : Core :=
  if k ≤ 67 ∧ c.bcState k = 2 ∧ !c.flag (F.BRUSH_CORE_STATE_IN_TASK k) then c.issueWait k n else c.brushStep 0x207 k n

/-- A REP under way runs to its end, and the halt request acts (R409, R414). -/
def Core.finishRep (c : Core) (k : Nat) : Core :=
  (List.range (c.bc k).rep).foldl (fun (c : Core) _ =>
    if c.bcState k = 3 ∧ (c.bc k).rep ≠ 0 then
      match decodeBrush (c.instrAt k (c.bc k).pc) with
      | none => c.bcError k 1
      | some i => c.issue k 1 i
    else c) c

/-- A core is stopped, a REP under way first running to its end. -/
def Core.bcStopNow (c : Core) (k : Nat) : Core := ((c.bcHalt k).finishRep k).bcHalt k

end Sys2Proof.Machine
end

