-- ==== Sys2Proof/Machine/Brush.lean ====
section
/-! DEFINITION. Brush cores in the module: reservation, buffers, parameter banks, mailboxes, transfers, windows, group resets and
spare migration (R387, R414 to R425). -/

namespace Sys2Proof.Machine

/-! ### Reservation (R38, R387, R419) -/

/-- The clock enable of a physical core is set or cleared (R90). -/
def Core.setBrushEn (c : Core) (k : Nat) (on : Bool) : Core := c.setB ⟨R.CLK_EN_BRUSH0 + 4 * (k / 32), k % 32, k % 32⟩ on

/-- Whether a physical core has its clock and its supply. -/
def Core.brushOn (c : Core) (k : Nat) : Bool := c.brushEnabled k && c.pdOn (corePd k)

/-- Whether a physical core keeps its state: its clock is enabled and its domain is not OFF (R130, R131). -/
def Core.brushKept (c : Core) (k : Nat) : Bool := c.brushEnabled k && decide (c.f (F.SYS_PD_STATE_PD (corePd k)) ≠ 3)

/-- BRUSH_STATUS.FREE follows. -/
def Core.brushFree (c : Core) : Core := c.setF F.BRUSH_STATUS_FREE ((List.range 64).filter fun l =>
  !c.brush.fw.contains l && !c.brush.custom.contains l && !c.health.dead.contains l).length

/-- The group of a physical core. -/
def groupOfCore (k : Nat) : Nat := k / 17

/-- STATE of a core whose clock or supply changes: OFF without either, else STOPPED, or SPARE_IDLE without a logical number. -/
def Core.coreSupply (c : Core) (k : Nat) : Core :=
  if !c.brushKept k then (if c.bcState k = 7 then c else (c.bcStop k).setBcState k 0)
  else if c.bcState k = 0 then c.setBcState k (if (c.logical k).isSome then 1 else 5)
  else c

/-- Every core follows its clock enable and its power domain (R90, R130). -/
def Core.brushSupply (c : Core) : Core :=
  (List.range 68).foldl (fun (c : Core) k =>
    if decide (c.bcState k = 0) = c.brushKept k then c.coreSupply k else c) c

/-- Firmware takes a logical core for its own brushwork, which then waits for tasks. -/
def Core.fwTake (c : Core) (l : Nat) : Core :=
  let k := c.phys l
  let c := { c with brush := { c.brush with fw := c.brush.fw ++ [l] } }
  let c := (c.setBrushEn k true).setF (F.BRUSH_CORE_STATE_OWNER k) 1
  if c.pdOn (corePd k) then c.setBcState k 2 else c

/-- Firmware gives a logical core back. -/
def Core.fwGive (c : Core) (l : Nat) : Core :=
  let k := c.phys l
  let c := { c with brush := { c.brush with fw := c.brush.fw.filter (· ≠ l) } }
  (c.bcStop k).setF (F.BRUSH_CORE_STATE_OWNER k) 0

/-- The cores that the committed configuration needs (R38). -/
def Core.fwWanted (c : Core) : Nat := c.f F.OUTPROC_STATUS_CORES + c.coresElse 0

/-- Logical cores that nobody holds. -/
def Core.freeCores (c : Core) : List Nat :=
  (List.range 64).filter fun l => !c.brush.fw.contains l && !c.brush.custom.contains l && !c.health.dead.contains l

/-- Firmware reserves the lowest free logical cores that the committed configuration needs, and gives back the others (R38). -/
def Core.fwSync (c : Core) : Core :=
  let want := c.fwWanted
  let c := (c.brush.fw.drop want).foldl Core.fwGive c
  let c := (c.freeCores.take (want - c.brush.fw.length)).foldl Core.fwTake c
  c.brushFree

/-- Firmware starts: logical numbers show, spares are idle, and its brushwork is placed (R387, R419). -/
def Core.brushStart (c : Core) : Core :=
  let c := (List.range 64).foldl (fun (c : Core) l => c.setF (F.BRUSH_CORE_STATE_LCORE (c.phys l)) l) c
  let c := (List.range 68).foldl (fun (c : Core) k =>
    if (c.logical k).isNone then (c.setBrushEn k true).setBcState k 5 else c) c
  c.fwSync

/-- Whether live-audio brushwork runs in a group: firmware holds a core of it (R128, R419). -/
def Core.groupFw (c : Core) (g : Nat) : Bool := c.brush.fw.any fun l => l / 16 = g

/-- Whether firmware holds a physical core. -/
def Core.fwCore (c : Core) (k : Nat) : Bool := c.f (F.BRUSH_CORE_STATE_OWNER k) = 1

/-! ### Control registers, windows and mailboxes (R414, R417, R418, R420) -/

/-- A write of a core's control register over the fabric: firmware's cores refuse the host, and so do cores of nobody (R419). -/
def Core.coreWrite (c : Core) (m k x : Nat) (v : Word) : Core :=
  let off := R.BRUSH_CORE_STATE k + x
  if m = 8 ∧ c.f (F.BRUSH_CORE_STATE_OWNER k) ≠ 2 then c.busWrite ⟨m, off, v⟩ (2 ^ 32 - 1) id
  else c.busWrite ⟨m, off, v⟩ (ctlHold x) fun c => c.ctlAct k x v

/-- BRUSH_CORE_CTRL with GO. -/
def brushCoreGo (m k : Nat) (v : Word) (c : Core) : Core := if k > 67 then c else c.coreWrite m k 4 (withBits v 0 0 1)

/-- BRUSH_CORE_CTRL with STOP: the core stops at the next boundary outside a REP. -/
def brushCoreStop (m k : Nat) (v : Word) (c : Core) : Core :=
  if k > 67 then c
  else
    let d := c.coreWrite m k 4 (withBits v 1 0 2)
    if (d.bc k).halt then d.bcStopNow k else d

/-- A write of a transfer channel's control word by the core itself. -/
def xferGoWrite (k n : Nat) (v : Word) (c : Core) : Core :=
  if k > 67 ∨ n > 3 ∨ c.bcState k ∉ [2, 3] then c else c.stc k (0x8C + 16 * n) v

/-- A write of BRUSH_CORE_MBX_OUT, and of BRUSH_CORE_MBX_ACK, by the core itself. -/
def brushMbxOutWrite (k : Nat) (v : Word) (c : Core) : Core :=
  if k > 67 ∨ c.bcState k ∉ [2, 3] then c else c.stc k 0x104 v
def brushMbxAck (k : Nat) (v : Word) (c : Core) : Core :=
  if k > 67 ∨ c.bcState k ∉ [2, 3] then c else c.stc k 0x10C v

/-- A transfer of a channel ends (R418): its words have moved in ascending order, or an uncorrectable word has ended it. -/
def xferComplete (k n : Nat) (mem : Mem) (c : Core) : Core × Mem :=
  if k > 67 ∨ n > 3 then (c, mem)
  else
    match smGet (fun _ => none) c.brush.xfers (4 * k + n) with
    | none => (c, mem)
    | some x =>
      let c := { c with brush := { c.brush with xfers := smSet (fun _ => none) c.brush.xfers (4 * k + n) none } }
      let c := (c.setF (F.BRUSH_XFER_CTRL_BUSY k n) 0).bcPend k 2
      let done := fun (c : Core) => c.setF (F.BRUSH_XFER_CTRL_DONE k n) 1
      if x.toFabric then
        let ws := (List.range x.count).map fun i => c.dmWord k (x.dm + i)
        if (List.range x.count).any fun i => c.dmEcc k ((x.dm + i) % 32768) = 2 then (c.setF (F.BRUSH_XFER_CTRL_ERR k n) 1, mem)
        else
          let c := c.dmSeen k ((List.range x.count).map fun i => (x.dm + i) % 32768)
          let r := memWrite (16 + k) x.addr (wordsBytes ws) mem c
          (done r.1, r.2)
      else
        let bad := decide (x.addr < dramEnd) && (unitsOf 8 x.addr (4 * x.count)).any fun w => c.eccOf w = 2
        let c := if x.addr < dramEnd then Core.memcRead (16 + k) x.addr (4 * x.count) c else c
        if bad then (c.setF (F.BRUSH_XFER_CTRL_ERR k n) 1, mem)
        else
          let ws := bytesWords (c.readBytes mem x.addr (4 * x.count))
          (done (ws.zipIdx.foldl (fun (c : Core) y => c.setDm k (x.dm + y.2) y.1) c), mem)

/-- A write to the IM (0) or DM (1) window of a core (R389, R420). -/
def brushWindowWrite (m k space w : Nat) (v : Word) (c : Core) : Core :=
  let off := R.BRUSH_CORE_STATE k + 0x10000 * (space + 1) + 4 * w
  if k > 67 ∨ space > 1 ∨ w ≥ (if space = 0 then 16384 else 32768) then c
  else if !regPath m off then c.noPath m (0xF000000000 + off) true
  else if c.gated off then c.gatedAccess m off true
  else if !c.bar0All m off then c.bar0Denied off
  else if m = 8 ∧ c.f (F.BRUSH_CORE_STATE_OWNER k) ≠ 2 then c
  else if c.f (F.BRUSH_CORE_STATE_OWNER k) = 2 ∧ c.bcState k ≠ 1 then
    (c.count R.BRUSH_WINDOW_DENIED).raise F.BRUSH_INT_STATUS_WINDOW_DENIED
  else if space = 0 then c.setIm k w v else c.setDm k w v

/-- Both mailboxes of a Brush pair have stayed FULL for 1 ms (R166, R417). -/
def Core.brushMbxStall (c : Core) (p : Nat) : Core :=
  let x := c.mbx p
  if !(x.c2bFull && x.b2cFull) then c
  else
    let c := c.raise F.BRUSH_INT_STATUS_MBX_STALL
    match x.owner with
    | none => c
    | some l => (c.setF (F.BRUSH_CORE_MBX_STATUS_STALL (c.phys l)) 1).bcPend (c.phys l) 0

/-- A control-plane restart clears B2C of every pair; a full one tells its sender (R164, R425). -/
def Core.brushRestart (c : Core) : Core :=
  (List.range 8).foldl (fun (c : Core) p =>
    let x := c.mbx p
    if !x.b2cFull then c
    else
      let c := c.setMbx p { x with b2cFull := false, b2c := 0 }
      match x.owner with
      | none => c
      | some l => (c.setF (F.BRUSH_CORE_MBX_STATUS_ABORT (c.phys l)) 1).bcPend (c.phys l) 0) c

/-! ### Buffers and parameter banks (R415, R416) -/

/-- The released block reaches the bound input buffers (R415). -/
def Core.brushFill (c : Core) (b : Nat) : Core :=
  let k := b - c.blk
  let half := k / c.blk % 2
  let c := c.brush.binds.foldl (fun (c : Core) e =>
    match e.2 with
    | some x =>
      if e.1 ≥ 256 then c
      else
        (blockOf c.blk (smGet (fun _ => []) c.brush.inBufs e.1)).zipIdx.foldl (fun (c : Core) y =>
          c.setDm (c.phys x.core) (x.dm + half * c.blk + y.2) (dmSample y.1)) c
    | none => c) c
  (List.range 68).foldl (fun (c : Core) i =>
    if c.bcState i = 0 then c else c.put64 (R.BRUSH_CORE_BLOCK_LO i) (R.BRUSH_CORE_BLOCK_HI i) k) c

/-- At boundary b the Armature reads the half that brushwork completed last, made from the block two before (R415). -/
def Core.brushOut (c : Core) (b : Nat) : Core :=
  let half := b / c.blk % 2
  let outs : SMap (List Int) := c.brush.binds.foldl (fun (m : SMap (List Int)) e =>
    match e.2 with
    | some x =>
      if e.1 < 256 then m
      else
        let l : List Int := (List.range c.blk).map fun i => signed 24 (c.dmWord (c.phys x.core) (x.dm + half * c.blk + i)).toNat
        smSet (fun _ => []) m (e.1 - 256) l
    | none => m) []
  { c with brush := { c.brush with outBufs := outs } }

/-- Registers of a declared parameter block follow. -/
def Core.paramRegs (c : Core) (x : ParamBlock) : Core :=
  let k := c.phys x.core
  c.put (R.BRUSH_CORE_PARAM_A k x.slot) (.ofNat 32 (x.live + x.old * 2 ^ 16 + 2 ^ 31))

/-- GLAZE_LEFT of every declared block follows the time (R416). -/
def Core.glazeRegs (c : Core) : Core :=
  c.brush.params.foldl (fun (c : Core) e =>
    match e.2 with
    | some x => c.setF (F.BRUSH_CORE_PARAM_B_GLAZE_LEFT (c.phys x.core) x.slot) c.glazeLeft
    | none => c) c

/-- Palette 3 is swapped at b with a Glaze of g samples: the banks of every block exchange, and PSWAP tells the core (R416). -/
def Core.swapParams (c : Core) (b g : Nat) : Core :=
  let c := { c with brush := { c.brush with glaze := some (b, g) } }
  let c := c.brush.params.foldl (fun (c : Core) e =>
    match e.2 with
    | none => c
    | some x =>
      let y := { x with live := x.old, old := x.live }
      let c := { c with brush := { c.brush with params := smSet (fun _ => none) c.brush.params e.1 (some y) } }
      ((c.paramRegs y).setF (F.BRUSH_CORE_PARAM_B_PSWAP (c.phys x.core) x.slot) 1).bcPend (c.phys x.core) 1) c
  c.glazeRegs

/-- What waits for its boundary takes effect: starts and bindings (R421). -/
def Core.brushDue (c : Core) : Core :=
  let n := c.time.n
  let go := c.brush.starts.filter fun x => decide (x.1 ≤ n)
  let bind := c.brush.newBinds.filter fun x => decide (x.1 ≤ n)
  let c := { c with brush := { c.brush with starts := c.brush.starts.filter fun x => decide (x.1 > n),
                                            newBinds := c.brush.newBinds.filter fun x => decide (x.1 > n) } }
  let c := bind.foldl (fun (c : Core) x =>
    { c with brush := { c.brush with binds := smSet (fun _ => none) c.brush.binds x.2.1 x.2.2 } }) c
  go.foldl (fun (c : Core) x =>
    let k := c.phys x.2.1
    if x.2.1 ∈ c.brush.custom ∧ c.bcState k = 1 then (c.setF (F.BRUSH_CORE_ENTRY_PC k) x.2.2).bcGo k else c) c

/-! ### Group resets (R422, R442) -/

/-- What stands in the memories and registers of a physical core becomes 0. -/
def Core.coreClear (c : Core) (k : Nat) : Core :=
  let ctl := [R.BRUSH_CORE_ENTRY k, R.BRUSH_CORE_PC k, R.BRUSH_CORE_IRQ k, R.BRUSH_CORE_IVB k, R.BRUSH_CORE_CYCLE_LO k,
    R.BRUSH_CORE_CYCLE_HI k, R.BRUSH_CORE_FAULT k]
  let c := ctl.foldl (fun (c : Core) r => c.put r 0) (c.setBc k {})
  { c with brush := { c.brush with
      im := c.brush.im.filter fun x => decide (x.1 / 16384 ≠ k)
      dm := c.brush.dm.filter fun x => decide (x.1 / 32768 ≠ k)
      ecc := c.brush.ecc.filter fun x => decide (x.1 / 32768 ≠ k) } }

/-- A transfer that runs is abandoned with ERR. -/
def Core.xferAbandon (c : Core) (k n : Nat) : Core :=
  if (smGet (fun _ => none) c.brush.xfers (4 * k + n)).isNone then c
  else
    let c := { c with brush := { c.brush with xfers := smSet (fun _ => none) c.brush.xfers (4 * k + n) none } }
    ((c.setF (F.BRUSH_XFER_CTRL_BUSY k n) 0).setF (F.BRUSH_XFER_CTRL_ERR k n) 1).bcPend k 2

/-- The migration of a group: none, or what changes in it. -/
def Core.migOf (c : Core) (g : Nat) : Option Migration := smGet (fun _ => none) c.brush.mig g
def Core.setMig (c : Core) (g : Nat) (m : Option Migration) : Core :=
  { c with brush := { c.brush with mig := smSet (fun _ => none) c.brush.mig g m } }.setB ⟨R.BRUSH_STATUS, 7 + g, 7 + g⟩ m.isSome

/-- A migration is abandoned: its spare is idle again. -/
def Core.migAbandon (c : Core) (g : Nat) : Core :=
  match c.migOf g with
  | some x => ((c.setMig g none).coreClear x.spare).setBcState x.spare 5
  | none => c

/-- A Brush group is reset. -/
def Core.groupReset (c : Core) (g : Nat) : Core :=
  let c := (c.groupTasks g).migAbandon g
  let c := ((List.range 17).map (· + 17 * g)).foldl (fun (c : Core) k =>
    let c := if c.bcState k ∈ [2, 3, 4] then c.bcStop k else c
    (List.range 4).foldl (fun (c : Core) n => c.xferAbandon k n) (c.coreClear k)) c
  let c := [2 * g, 2 * g + 1].foldl (fun (c : Core) p => c.setMbx p { c.mbx p with c2b := 0, c2bFull := false }) c
  c.releaseHolds fun m => decide (16 + 17 * g ≤ m ∧ m < 16 + 17 * (g + 1))

/-- Firmware reloads its own brushwork after a group reset. -/
def Core.groupReload (c : Core) (g : Nat) : Core :=
  (c.brush.fw.filter fun l => l / 16 = g).foldl (fun (c : Core) l =>
    if c.brushOn (c.phys l) then c.setBcState (c.phys l) 2 else c) c

/-- The state of a power domain of the cores is lost (R130). -/
def Core.groupLost (c : Core) (g : Nat) : Core :=
  let c := (c.groupTasks g).migAbandon g
  let c := ((List.range 17).map (· + 17 * g)).foldl Core.coreClear c
  { c with
    regs := c.regs.filter fun x => decide (x.1 < R.BRUSH_CORE_STATE (17 * g) ∨ R.BRUSH_CORE_STATE (17 * g + 17) ≤ x.1)
    brush := { c.brush with
      xfers := c.brush.xfers.filter fun x => decide (x.1 / 68 ≠ g)
      mbx := c.brush.mbx.filter fun x => decide (x.1 / 2 ≠ g)
      custom := c.brush.custom.filter fun l => decide (l / 16 ≠ g)
      fw := c.brush.fw.filter fun l => decide (l / 16 ≠ g)
      binds := c.brush.binds.filter fun x => match x.2 with
        | some y => decide (y.core / 16 ≠ g)
        | none => false
      params := c.brush.params.filter fun x => match x.2 with
        | some y => decide (y.core / 16 ≠ g)
        | none => false } }

/-! ### Spare migration (R423 to R425) -/

/-- Entries of a map with keys k · size and up move to another core. -/
def moveKeys {α : Type} (m : SMap α) (size k s : Nat) : SMap α :=
  let own : SMap α := (m.filter fun (x : Nat × α) => decide (x.1 / size = k)).map fun (x : Nat × α) => (x.1 - k * size + s * size, x.2)
  (m.filter fun (x : Nat × α) => decide (x.1 / size < s)) ++ own ++ (m.filter fun (x : Nat × α) => decide (x.1 / size > s))

/-- A core's whole state is copied into another: registers, memories, transfers, pending interrupts and control registers. -/
def Core.copyCore (c : Core) (k s : Nat) : Core :=
  let lo := R.BRUSH_CORE_STATE k
  let c := (List.range 68).foldl (fun (c : Core) i => let x := 4 + 4 * i; c.put (R.BRUSH_CORE_STATE s + x) (c.get (lo + x))) c
  let c := c.setBc s (c.bc k)
  { c with brush := { c.brush with
      im := moveKeys c.brush.im 16384 k s
      dm := moveKeys c.brush.dm 32768 k s
      ecc := moveKeys c.brush.ecc 32768 k s
      xfers := moveKeys c.brush.xfers 4 k s } }

/-- The spare of a group: the physical core without a logical number that is neither retired nor off. -/
def Core.spareOf (c : Core) (g : Nat) : Option Nat :=
  ((List.range 17).map (· + 17 * g)).find? fun k => (c.logical k).isNone && (c.bcState k = 5)

/-- Step 1: at a boundary the spare of the group starts to receive the unit's state. -/
def Core.migStart (c : Core) (unit spare : Nat) (tok : Option Tok) : Core :=
  let m : Migration := { unit := unit, spare := spare, step := 1, at_ := c.time.n, tok := tok }
  ((c.copyCore unit spare).setBcState spare 6).setMig (groupOfCore unit) (some m)

/-- The spare takes over the logical core: number, buffers, mailboxes and hold registers; the unit stops (R423, step 3). -/
def Core.migSwap (c : Core) (g : Nat) (m : Migration) : Core :=
  match c.logical m.unit with
  | none => c.migAbandon g
  | some l =>
    let st := c.get (R.BRUSH_CORE_STATE m.unit)
    let c := c.copyCore m.unit m.spare
    let c := (c.put (R.BRUSH_CORE_STATE m.spare) st).setF (F.BRUSH_CORE_STATE_PCORE m.spare) m.spare
    let c := c.setF ⟨R.BRUSH_MAP (l / 4), 8 * (l % 4) + 6, 8 * (l % 4)⟩ m.spare
    let c := (c.coreClear m.unit).setF (F.BRUSH_CORE_STATE_STATE m.unit) 1
    let c := ((c.setF (F.BRUSH_CORE_STATE_OWNER m.unit) 0).setF (F.BRUSH_CORE_STATE_LCORE m.unit) 0xFF).setF
      (F.BRUSH_CORE_STATE_IN_TASK m.unit) 0
    let xf := c.brush.xfers.filter fun x => decide (x.1 / 4 ≠ m.unit)
    let hs : SMap (Option Nat) := c.host.holds.map fun x =>
      (x.1, if x.2 = some (16 + m.unit) then some (16 + m.spare) else x.2)
    let c := { c with brush := { c.brush with xfers := xf }, host := { c.host with holds := hs } }
    ((c.setMig g none).countW R.BRUSH_MIGRATED 1).raise F.BRUSH_INT_STATUS_MIGRATED

/-- A comparison has differed: the procedure restarts at the next boundary, or is made cold after three mismatched attempts (R423). -/
def Core.migDiffer (c : Core) (g : Nat) (m : Migration) : Core :=
  let c := (c.count R.BRUSH_MIGRATE_MISMATCH).raise F.BRUSH_INT_STATUS_MISMATCH
  c.setMig g (some { m with step := if m.tries ≥ 2 then 3 else 0, tries := m.tries + 1, cold := decide (m.tries ≥ 2) })

/-- The lockstep of a block has ended: `differs` says whether a comparison of the group differed in it. -/
def Core.migBlock (c : Core) (g : Nat) (differs : Bool) : Core :=
  match c.migOf g with
  | none => c
  | some m =>
    if m.step = 0 then
      ((c.copyCore m.unit m.spare).setBcState m.spare 6).setMig g (some { m with step := 1, at_ := c.time.n })
    else if m.step = 1 then c.setMig g (some { m with step := 2, at_ := c.time.n })
    else if m.step = 2 ∧ differs then c.migDiffer g m
    else c

/-- MIGRATION_COPY: a copy that is due starts. -/
def migrationCopy (g : Nat) (c : Core) : Core :=
  match c.migOf g with
  | some m => if m.step = 0 then ((c.copyCore m.unit m.spare).setBcState m.spare 6).setMig g (some { m with step := 1, at_ := c.time.n })
              else c
  | none => c

/-- Whether three lockstep blocks without a difference have passed. -/
def Core.migReady (c : Core) (m : Migration) : Bool := m.step = 2 && !m.cold && decide (m.at_ + 3 * c.blk ≤ c.time.n)

/-- Whether a cold swap may be made: the unit waits. -/
def Core.migColdReady (c : Core) (m : Migration) : Bool := m.cold && c.bcState m.unit = 2

end Sys2Proof.Machine
end

