-- ==== Sys2Proof/Machine/Dram.lean ====
section
/-! DEFINITION. Training of the DRAM and what it keeps while its power domain is OFF (R136, R452, R453, R459). -/

namespace Sys2Proof.Machine

/-! ### What outlives PD11 (R131, R459) -/

/-- Registers of training results, remap entries and the running grain. -/
def dramReg (off : Nat) : Bool :=
  off = R.MEMC_MAP || (R.MEMC_TRAIN_A 0 ≤ off && off ≤ R.MEMC_TRAIN_B 15) || (R.MEMC_REMAP 0 0 ≤ off && off ≤ R.MEMC_REMAP 7 31)

/-- What the DRAM holds beside its bytes passes from the old state into one in which its controller starts afresh. -/
def Core.keepDram (c old : Core) : Core :=
  let kept := old.regs.filter fun x => dramReg x.1
  let rest := c.regs.filter fun x => !dramReg x.1
  let regs := kept.foldl (fun m x => smSet regReset m x.1 x.2) rest
  { c with regs := regs
           memc := { ecc := old.memc.ecc, remapAt := old.memc.remapAt, trained := old.memc.trained } }

/-- PD11 goes OFF: the devices are in self-refresh (R459). -/
def Core.dramSleep (c old : Core) : Core :=
  ((c.keepDram old).setF F.MEMC_STATUS_TRAINED (old.f F.MEMC_STATUS_TRAINED)).setF F.MEMC_STATUS_SELF_REFRESH 1

/-- PD11 is ON again: the devices leave self-refresh (R453, R459). -/
def Core.dramBack (c : Core) : Core := c.setF F.MEMC_STATUS_SELF_REFRESH 0

/-- Whether a check-value scan reads DRAM, so that PD11 may not go OFF (R459). -/
def Core.dramBusy (c : Core) : Bool := (List.range 4).any fun k => c.flag (F.CRC_CH_CTRL_BUSY k)

/-! ### Training (R452) -/

/-- The longest run of consecutive passing steps of a sweep from step i on, as its length and first step; of equal runs the first. -/
def eyeScan (w : Nat) : Nat → Nat → Nat → Nat × Nat → Nat × Nat
  | 0, _, _, best => best
  | n + 1, i, run, best =>
    let run := if w / 2 ^ i % 2 = 1 then run + 1 else 0
    eyeScan w n (i + 1) run (if run > best.1 then (run, i + 1 - run) else best)

/-- The eye of a sweep of 128 steps: bit i of the word is 1 where delay i passes. -/
def eyeOf (w : Nat) : Nat × Nat := eyeScan w 128 0 0 (0, 0)

/-- The Vref with the widest eye, the lower of equal ones, as (Vref, centre, width). -/
def bestEye (ws : List Nat) : Nat × Nat × Nat :=
  ws.zipIdx.foldl (fun (b : Nat × Nat × Nat) x =>
    let e := eyeOf x.1
    if e.1 > b.2.2 then (x.2, e.2 + (e.1 - 1) / 2, e.1) else b) (0, 0, 0)

/-- Steps 3 and 4 for one lane: its 32 read and 32 write sweeps, and those of a second attempt behind them. The answer holds the
read and write choices, the attempts and whether the lane has failed. -/
def trainLane (ws : List Nat) : (Nat × Nat × Nat) × (Nat × Nat × Nat) × Nat × Bool :=
  let pass := fun (k : Nat) => (bestEye ((ws.drop (64 * k)).take 32), bestEye ((ws.drop (64 * k + 32)).take 32))
  let bad := fun (x : (Nat × Nat × Nat) × Nat × Nat × Nat) => x.1.2.2 < 20 || x.2.2.2 < 20
  let a := pass 0
  if bad a then (let b := pass 1; (b.1, b.2, 2, bad b)) else (a.1, a.2, 1, false)

/-- The results of lane i = 2 × channel + lane (R453). -/
def Core.putLane (c : Core) (i : Nat) (ws : List Nat) : Core :=
  let x := trainLane ws
  let c := (c.setF (F.MEMC_TRAIN_A_RD_DELAY i) x.1.2.1).setF (F.MEMC_TRAIN_A_WR_DELAY i) x.2.1.2.1
  let c := (c.setF (F.MEMC_TRAIN_A_RD_EYE i) x.1.2.2).setF (F.MEMC_TRAIN_A_WR_EYE i) x.2.1.2.2
  let c := (c.setF (F.MEMC_TRAIN_B_RD_VREF i) x.1.1).setF (F.MEMC_TRAIN_B_WR_VREF i) x.2.1.1
  let c := (c.setF (F.MEMC_TRAIN_B_ATTEMPTS i) x.2.2.1).setB (F.MEMC_TRAIN_B_FAILED i) x.2.2.2
  let c := { c with memc := { c.memc with trained := smSet (fun _ => 0) c.memc.trained i x.2.1.2.1 } }
  if x.2.2.2 then c.ledger 7 5 (i / 2) (i % 2) 0 false else c

/-- Training completes (R123, R452, R459): `lanes` holds the sweeps of the 16 byte lanes. A lane that failed twice puts Gesso into
recovery; else all of DRAM holds zeros. In a wake from deep standby nothing is swept or written. -/
def dramTrainingDone (lanes : List (List Nat)) (m : Mem) (c : Core) : Core × Mem :=
  if c.power.step ≠ 6 then (c, m)
  else if c.power.cause = causeDeepWake then
    ({ c.setF F.MEMC_STATUS_TRAINED 1 with power := { c.power with step := 7 } }.dramBack, m)
  else
    let c := (List.range 16).foldl (fun (c : Core) i => c.putLane i (lanes.getD i [])) c
    if (List.range 16).any fun i => c.flag (F.MEMC_TRAIN_B_FAILED i) then (c.setF F.SYS_STATUS_RECOVERY 1, m)
    else
      ({ c.setF F.MEMC_STATUS_TRAINED 1 with
          power := { c.power with step := 7 }, memc := { c.memc with ecc := [] } }, { m with dram := [] })

end Sys2Proof.Machine
end

