-- ==== Sys2Proof/Machine/Health.lean ====
section
/-! DEFINITION. Patina: self-test, patrols, stand-ins, qualification, retirement, row sparing, margins and the ledger (R513 to R529),
and the end of Smudge (R533). -/

namespace Sys2Proof.Machine

/-! ### Units (R513, R527, R529) -/

/-- The key of a unit: RESOURCE and number. -/
def unitKey (res u : Nat) : Nat := 65536 * res + u
def Core.unit (c : Core) (res u : Nat) : UnitRec := smGet (fun _ => {}) c.health.units (unitKey res u)
def Core.putUnit (c : Core) (res u : Nat) (x : UnitRec) : Core :=
  { c with health := { c.health with units := smSet (fun _ => {}) c.health.units (unitKey res u) x } }

/-- Patina's clock windows, in TIME cycles. -/
def hourCycles : Nat := 3600 * 250000000
def dayCycles : Nat := 24 * hourCycles

/-- A record for a unit; what Smudge causes carries its flag (R528, R532). -/
def Core.note (c : Core) (kind res u detail : Nat) (value : Int) : Core := c.ledger kind res u detail value false

/-- A unit is suspect (R513). -/
def Core.suspect (c : Core) (res u detail : Nat) (value : Int) : Core :=
  let c := (c.count R.HEALTH_SUSPECT).raise F.HEALTH_INT_STATUS_SUSPECT
  let x := c.unit res u
  (c.putUnit res u { x with state := if x.state = 4 then 4 else 2 }).note 1 res u detail value

/-- A comparison of a unit has differed. -/
def Core.differed (c : Core) (res u partner : Nat) : Core :=
  let x := c.unit res u
  (c.putUnit res u { x with differ := min 65535 (x.differ + 1) }).note 3 res u partner 0

/-- A spare takes over from a unit. -/
def Core.swapped (c : Core) (res u spare : Nat) : Core :=
  ((c.count R.HEALTH_SWAPS).raise F.HEALTH_INT_STATUS_SWAP).note 4 res u spare 0

/-- A unit is retired for good (R529). -/
def Core.retire (c : Core) (res u : Nat) : Core :=
  let c := (c.count R.HEALTH_RETIRED).raise F.HEALTH_INT_STATUS_RETIRED
  let c := (c.putUnit res u { c.unit res u with state := 4, retiredAt := c.now / c.blk * c.blk }).note 6 res u 0 0
  if res = 1 ∧ u < 32 then c.setF ⟨R.RENDER_LANE_RETIRED, u, u⟩ 1
  else if res = 1 then c.setF ⟨R.RENDER_LANE_RETIRED8, u - 32, u - 32⟩ 1
  else if res = 3 then c.setBcState u 7
  else c

/-- Whether a lane or a core is retired. -/
def Core.laneRetired (c : Core) (l : Nat) : Bool :=
  if l < 32 then bitOf (c.get R.RENDER_LANE_RETIRED) l else bitOf (c.get R.RENDER_LANE_RETIRED8) (l - 32)

/-! ### RE8 and the groups' spares (R230, R514) -/

/-- Whether lane 32 + m of RE8 stands in. -/
def Core.standing (c : Core) (m : Nat) : Bool := c.flag (F.RENDER_LANE_SPARE_VALID m)

/-- The patrol that a lane of RE8 takes part in. -/
def Core.onPatrol (c : Core) (m : Nat) : Bool := c.health.patrols.any fun p => p.spares.contains m

/-- The RE8 lanes free for self-test and patrol. -/
def Core.re8Free (c : Core) : List Nat := (List.range 4).filter fun m => !c.standing m && !c.laneRetired (32 + m) && !c.onPatrol m

/-- Whether a lane is stood in for. -/
def Core.stoodIn (c : Core) (l : Nat) : Bool := c.standIn l ≠ l

/-- The lane of RE8 takes over a lane's list, or gives it up. -/
def Core.setStandIn (c : Core) (m : Nat) (l : Option Nat) : Core :=
  let c := match l with
    | some n => (c.setF (F.RENDER_LANE_SPARE_LANE m) n).setF (F.RENDER_LANE_SPARE_VALID m) 1
    | none => (c.setF (F.RENDER_LANE_SPARE_LANE m) 0).setF (F.RENDER_LANE_SPARE_VALID m) 0
  c.raise F.RENDER_INT_STATUS_SPARE_CHANGE

/-- The state of an engine as RENDER_ENGINE_MAP codes it. -/
def Core.engineState (c : Core) (e : Nat) : Nat :=
  if !c.pdOn (if e ≤ 4 then 4 else 5) then 6
  else if e < 8 then
    let ls := (List.range 4).map (4 * e + ·)
    if ls.all c.laneRetired then 5 else if ls.all c.stoodIn then 2 else 0
  else if (List.range 4).all fun m => c.laneRetired (32 + m) then 5
  else if (List.range 4).any c.standing then 4
  else if !c.health.patrols.isEmpty then 3
  else if c.flag F.HEALTH_CTRL_SELFTEST_EN then 2
  else 1

/-- The engine map and what RE8 holds follow (R230). -/
def Core.renderShow (c : Core) : Core :=
  let old := c.get R.RENDER_ENGINE_MAP
  let c := (List.range 9).foldl (fun (c : Core) e => c.setF (F.RENDER_ENGINE_MAP_RE e) (c.engineState e)) c
  let lanes := (List.range 4).filterMap fun m =>
    if c.standing m then some (c.f (F.RENDER_LANE_SPARE_LANE m))
    else (c.health.patrols.find? fun p => p.spares.contains m).bind fun p => (p.lanes.zip p.spares).findSome? fun x =>
      if x.2 = m then some x.1 else none
  let c := { c with ren := { c.ren with shadow := lanes } }
  if c.get R.RENDER_ENGINE_MAP = old then c else c.raise F.RENDER_INT_STATUS_SPARE_CHANGE

/-- HEALTH_STATUS follows. -/
def Core.healthShow (c : Core) : Core :=
  let c := c.renderShow
  let c := (c.setB F.HEALTH_STATUS_PATROL_ON (!c.health.patrols.isEmpty || c.brush.mig.any fun x => match x.2 with
    | some m => m.patrol
    | none => false)).setF F.HEALTH_STATUS_RE8_FREE c.re8Free.length
  let g := (List.range 4).foldl (fun a g => a + if (c.spareOf g).isSome || (c.migOf g).isSome then 2 ^ g else 0) 0
  let c := c.setF F.HEALTH_STATUS_BRUSH_SPARE g
  c.setB F.HEALTH_STATUS_CAPACITY_REDUCED (c.flag F.HEALTH_CAPACITY_REDUCED)

/-! ### What a firmware core's brushwork feeds (R128, R521) -/

/-- The outputs, and from 512 on the monitor channels, that a logical firmware core processes. -/
def Core.fwWork (c : Core) (l : Nat) : List Nat :=
  let i := c.brush.fw.findIdx (· = l)
  let per := if c.clk.mult = 1 ∨ c.clk.ll = 1 then 32 else 64
  let chains := c.f F.OUTPROC_STATUS_CORES
  let on := (List.range 8).filter fun p => (smGet (fun _ => {}) c.mon.pairs p).set.on
  if i ≥ c.brush.fw.length then []
  else if i < chains then (List.range per).map (per * i + ·)
  else
    let j := i - chains
    if j / 4 < on.length then let p := on.getD (j / 4) 0; [512 + 2 * p, 513 + 2 * p]
    else if j < 4 * on.length + 2 then (List.range 48).map (528 + ·)
    else []

/-- What some logical cores feed starts a fade. -/
def Core.fadeWork (c : Core) (ls : List Nat) (toZero : Bool) (len : Nat) : Core :=
  let m := (ls.flatMap c.fwWork).foldl (fun (m : SMap (Option (Bool × Nat × Nat))) k =>
    smSet (fun _ => none) m k (some (toZero, c.time.n, len))) c.brush.fades
  { c with brush := { c.brush with fades := m } }

/-- The fade of an output or a monitor channel applied to its sample at count n. -/
def Core.workSample (c : Core) (key n : Nat) (x : Int) : Int :=
  match smGet (fun _ => none) c.brush.fades key with
  | some (true, a, g) => if n < a then x else weighted (wOut (n - a) g) x
  | some (false, a, g) => if n < a then 0 else if n - a ≥ g then x else weighted (wIn (n - a) g) x
  | none => x

/-! ### Running out of spares (R521) -/

/-- A lane is retired with no RE8 lane free: its entries are silent, and are placed anew at the following boundary. -/
def Core.laneLost (c : Core) (l : Nat) : Core :=
  let c := { c with health := { c.health with silent := c.health.silent ++ [l], replace_ := true } }
  let c := (c.setF F.HEALTH_STATUS_NO_SPARE 1).raise F.HEALTH_INT_STATUS_NO_SPARE
  let c := c.note 8 1 l 0 0
  ((c.setF F.HEALTH_CAPACITY_LANES (c.f F.HEALTH_CAPACITY_LANES - 1)).setF F.HEALTH_CAPACITY_REDUCED 1).setF
    F.HEALTH_STATUS_CAPACITY_REDUCED 1

/-- The admitted union is placed on the lanes left; the entries carry their state (R521). -/
def Core.placeAgain (c : Core) : Core :=
  if !c.health.replace_ then c
  else
    let r := placeAll c.placeLanes c.laneLimit c.ren.entries
    { c with health := { c.health with replace_ := false }, ren := { c.ren with entries := r.2 } }.setF
      F.RENDER_LANE_MAX_SLOTS (r.1.foldl max 0)

/-- A core in service is retired with no spare left in its group: its number moves to an unreserved core of the group, or what it
processes ends. -/
def Core.coreLost (c : Core) (k : Nat) : Core :=
  match c.logical k with
  | none => c
  | some l =>
    let c := (c.setF F.HEALTH_STATUS_NO_SPARE 1).raise F.HEALTH_INT_STATUS_NO_SPARE
    let c := (c.note 8 3 k 0 0).setF F.HEALTH_CAPACITY_BRUSH (c.f F.HEALTH_CAPACITY_BRUSH - 1)
    let c := (c.setF F.HEALTH_CAPACITY_REDUCED 1).setF F.HEALTH_STATUS_CAPACITY_REDUCED 1
    match c.freeCores.find? fun x => decide (x / 16 = l / 16) with
    | some f =>
      let t := c.phys f
      let own := c.get (R.BRUSH_CORE_STATE k)
      let c := c.copyCore k t
      let c := (((c.put (R.BRUSH_CORE_STATE t) own).setF (F.BRUSH_CORE_STATE_PCORE t) t).setBrushEn t true)
      let c := (c.setF ⟨R.BRUSH_MAP (l / 4), 8 * (l % 4) + 6, 8 * (l % 4)⟩ t).setF ⟨R.BRUSH_MAP (f / 4), 8 * (f % 4) + 6, 8 * (f % 4)⟩ k
      let c := (c.coreClear k).setF (F.BRUSH_CORE_STATE_OWNER k) 0
      let c := (c.setF (F.BRUSH_CORE_STATE_LCORE k) f).retire 3 k
      { c with health := { c.health with dead := c.health.dead ++ [f] } }
    | none =>
      let c := c.fadeWork [l] true c.blk
      let c := (c.bcStop k).retire 3 k
      { c with health := { c.health with dead := c.health.dead ++ [l] } }

/-! ### Self-test and qualification (R514, R517, R518) -/

/-- A spare has run its self-test, and passed or failed. -/
def Core.selfTest (c : Core) (res u : Nat) (failed : Bool) : Core :=
  let c := c.countW R.HEALTH_SELFTEST_RUNS 1
  if !failed then c
  else
    let c := (c.count R.HEALTH_SELFTEST_FAIL).raise F.HEALTH_INT_STATUS_SELFTEST_FAIL
    let x := c.unit res u
    ((c.putUnit res u { x with selftest := min 65535 (x.selftest + 1) }).note 7 res u 0 0).retire res u

/-- The self-tests of a block (R514): `fails` lists the lanes 32 to 35, and 64 + k the cores k, whose run failed. -/
def Core.selfTests (c : Core) (fails : List Nat) : Core :=
  if !c.flag F.HEALTH_CTRL_SELFTEST_EN then c
  else
    let c := c.re8Free.foldl (fun (c : Core) m => c.selfTest 1 (32 + m) (fails.contains (32 + m))) c
    ((List.range 4).filterMap c.spareOf).foldl (fun (c : Core) k => c.selfTest 3 k (fails.contains (64 + k))) c

/-- The runs a freed unit must pass. -/
def Core.qualifyRuns (c : Core) : Nat := max 1 (c.f F.HEALTH_PATROL_QUALIFY)

/-- A freed unit has run the known-answer set for a block: it is retired, or goes on, or qualifies. -/
def Core.qualifyRun (c : Core) (q : Qualify) (failed : Bool) : Core :=
  let drop := fun (c : Core) => { c with health := { c.health with qualify := c.health.qualify.filter fun x => decide (x ≠ q) } }
  if failed then
    let x := c.unit q.res q.unit
    let c := (drop c).putUnit q.res q.unit { x with selftest := min 65535 (x.selftest + 1) }
    (c.retire q.res q.unit).notice? q.tok .ok []
  else if q.runs + 1 < c.qualifyRuns then
    let qs := c.health.qualify.map fun x => if x = q then { q with runs := q.runs + 1 } else x
    { c with health := { c.health with qualify := qs } }
  else
    let c := ((drop c).raise F.HEALTH_INT_STATUS_QUALIFIED).note 5 q.res q.unit 0 0
    if q.res = 1 then
      -- it shadows its stand-in with the roles reversed (R517, step 4)
      let m := c.standIn q.unit - 32
      let p : Patrol := { lanes := [q.unit], spares := [m], at_ := c.time.n, back := true, tok := q.tok }
      { c with health := { c.health with patrols := c.health.patrols ++ [p] } }
    else
      let ret := smSet (fun _ => 0) c.health.returned (unitKey 3 q.unit) (c.time.cycles + 1)
      let c := { c with health := { c.health with returned := ret } }
      let c := (c.setBcState q.unit 5).putUnit 3 q.unit { c.unit 3 q.unit with state := 1 }
      c.notice? q.tok .ok []

/-- The known-answer runs of freed units; fails as for the self-tests, lanes 0 to 31 among them. -/
def Core.qualifyTurn (c : Core) (fails : List Nat) : Core :=
  c.health.qualify.foldl (fun (c : Core) q => c.qualifyRun q (fails.contains (if q.res = 3 then 64 + q.unit else q.unit))) c

/-! ### Patrols of the render (R515, R517) -/

/-- Whether a unit was judged good less than 24 h ago. -/
def Core.recent (c : Core) (res u : Nat) : Bool :=
  let t := smGet (fun _ => 0) c.health.returned (unitKey res u)
  t ≠ 0 && decide (c.time.cycles < t - 1 + dayCycles)

/-- The shadow blocks of a render patrol that have been compared by a boundary n: 1 to 3, else 0. -/
def Patrol.block (p : Patrol) (n blk : Nat) : Nat :=
  let k := (n - p.at_) / blk
  if 2 ≤ k ∧ k ≤ 4 then k - 1 else 0

/-- A lane returns to its own list (R517, step 4). -/
def Core.laneReturn (c : Core) (l m : Nat) (tok : Option Tok) : Core :=
  let ret := smSet (fun _ => 0) c.health.returned (unitKey 1 l) (c.time.cycles + 1)
  let c := { c.setStandIn m none with health := { c.health with returned := ret } }
  (c.putUnit 1 l { c.unit 1 l with state := 0 }).notice? tok .ok []

/-- A boundary of a render patrol: the lanes in `diffs` have differed from their shadows. -/
def Core.patrolTurn (c : Core) (p : Patrol) (diffs : List Nat) : Core :=
  let i := p.block c.time.n c.blk
  let drop := fun (c : Core) => { c with health := { c.health with patrols := c.health.patrols.filter fun x => decide (x ≠ p) } }
  let new := p.lanes.filter fun l => diffs.contains l && !p.differ.contains l
  if i = 0 then c
  else if p.back then
    let l := p.lanes.headD 0
    let m := p.spares.headD 0
    if !new.isEmpty then (((drop c).differed 1 l (32 + m)).retire 1 l).notice? p.tok .ok []
    else if i = 3 then (drop c).laneReturn l m p.tok
    else c
  else
    let c := new.foldl (fun (c : Core) l =>
      let s := 32 + ((p.lanes.zip p.spares).find? fun x => decide (x.1 = l)).elim 0 (·.2)
      (c.suspect 1 l s 0).differed 1 l s) c
    let p' := { p with differ := p.differ ++ new }
    let c := { c with health := { c.health with patrols := c.health.patrols.map fun x => if x = p then p' else x } }
    if i < 3 ∨ !p'.differ.isEmpty then c
    else { c with health := { c.health with patrols := c.health.patrols.filter fun x => decide (x ≠ p') } }.countW R.HEALTH_PATROLS 1

/-- RE8's lanes take over from lanes that differed (R517, step 1): the whole engine where two or more differ. -/
def Core.standInFor (c : Core) (p : Patrol) : Core :=
  let whole := p.differ.length ≥ 2 && p.lanes.length = 4
  let which := (p.lanes.zip p.spares).filter fun x => whole || p.differ.contains x.1
  let c := which.foldl (fun (c : Core) x =>
    let c := (c.setStandIn x.2 (some x.1)).putUnit 1 x.1 { c.unit 1 x.1 with state := 3 }
    let c := c.swapped 1 x.1 (32 + x.2)
    if c.recent 1 x.1 then (c.retire 1 x.1).notice? p.tok .ok []
    else
      let q : Qualify := { res := 1, unit := x.1, tok := p.tok }
      { c with health := { c.health with qualify := c.health.qualify ++ [q] } }) c
  let rest := (p.lanes.zip p.spares).filter fun x => !which.contains x
  let p' : Patrol := { p with lanes := rest.map (·.1), spares := rest.map (·.2), differ := [], tok := none }
  { c with health := { c.health with patrols := c.health.patrols.flatMap fun x =>
      if x = p then (if rest.isEmpty then [] else [p']) else [x] } }

/-- RENDER_SPARE_SWAP: at the boundary after a difference RE8's sums replace those of the unit (R230, R517). -/
def renderSpareSwap (c : Core) : Core :=
  ((c.health.patrols.filter fun p => !p.back && !p.differ.isEmpty).foldl Core.standInFor c).healthShow

/-- Blocks between patrols (R515). -/
def Core.patrolEvery (c : Core) : Nat := max 16 (c.f F.HEALTH_PATROL_INTERVAL)

def Core.waited (c : Core) (s : Nat) : Nat := smGet (fun _ => 0) c.health.wait s
def Core.nextOf (c : Core) (s : Nat) : Nat := smGet (fun _ => 0) c.health.nextUnit s
def Core.setNext (c : Core) (s v : Nat) : Core :=
  { c with health := { c.health with nextUnit := smSet (fun _ => 0) c.health.nextUnit s v,
                                     wait := smSet (fun _ => 0) c.health.wait s 0 } }

/-- A render patrol starts: a whole engine while every RE8 lane is free, else single lanes. -/
def Core.renderPatrol (c : Core) : Core :=
  let free := c.re8Free
  let add := fun (c : Core) (ls ms : List Nat) =>
    { c with health := { c.health with patrols := c.health.patrols ++ [({ lanes := ls, spares := ms, at_ := c.time.n } : Patrol)] } }
  if free.length = 4 then
    let e := ((List.range 8).map fun i => (c.nextOf 0 + i) % 8).find? fun e => c.engineState e = 0
    match e with
    | some e => ((add c ((List.range 4).map (4 * e + ·)) [0, 1, 2, 3]).setNext 0 ((e + 1) % 8)).note 2 2 e 8 0
    | none => c.setNext 0 (c.nextOf 0)
  else
    let at_ := c.nextOf 5
    let ls := (((List.range 32).map fun i => (at_ + i) % 32).filter fun l => !c.stoodIn l && !c.laneRetired l).take free.length
    let c := (add c ls (free.take ls.length)).setNext 5 ((ls.getLastD at_ + 1) % 32)
    ls.foldl (fun (c : Core) l => c.note 2 1 l 0 0) (c.setNext 0 (c.nextOf 0))

/-! ### Brush patrols and migrations (R423, R515, R516, R518) -/

/-- A migration or a patrol of a unit to its group's spare begins. -/
def Core.migBegin (c : Core) (unit : Nat) (patrol retire : Bool) (tok : Option Tok) : Core :=
  match c.spareOf (groupOfCore unit) with
  | none => c
  | some s =>
    let c := c.migStart unit s tok
    match c.migOf (groupOfCore unit) with
    | some m => c.setMig (groupOfCore unit) (some { m with patrol := patrol, retire := retire })
    | none => c

/-- A core in service is suspect: it is migrated out, or without a spare retired (R513, R521). -/
def Core.coreSuspect (c : Core) (k : Nat) (value : Int) : Core :=
  let g := groupOfCore k
  if (c.unit 3 k).state ∈ [2, 4] then c
  else
    let c := c.suspect 3 k 0 value
    match c.migOf g with
    | some m => if m.patrol ∧ m.unit ≠ k then (c.migAbandon g).migBegin k false false none else c
    | none => if (c.spareOf g).isSome then c.migBegin k false false none else c.coreLost k

/-- A Brush patrol starts on a group's next core in service that is not marked NONDET. -/
def Core.brushPatrol (c : Core) (g : Nat) : Core :=
  let ls := ((List.range 16).map fun i => 16 * g + (c.nextOf (1 + g) + i) % 16).filter fun l =>
    !c.health.nondet.contains l && c.bcState (c.phys l) ≠ 7 && c.bcState (c.phys l) ≠ 0
  match ls.head? with
  | some l =>
    let k := c.phys l
    ((c.migBegin k true false none).setNext (1 + g) ((l % 16 + 1) % 16)).note 2 3 k ((c.spareOf g).getD 0) 0
  | none => c

/-- PATROL_START: spare 0 is RE8 and spares 1 to 4 those of the groups; it starts one patrol every INTERVAL blocks, when it is
free (R515). -/
def patrolStart (s : Nat) (c : Core) : Core :=
  if s > 4 ∨ !c.flag F.HEALTH_CTRL_PATROL_EN ∨ c.waited s < c.patrolEvery ∨ !c.clk.mediaOn then c
  else if s = 0 then (if c.re8Free.isEmpty ∨ !c.health.patrols.isEmpty then c else c.renderPatrol.healthShow)
  else if (c.migOf (s - 1)).isSome ∨ (c.spareOf (s - 1)).isNone then c
  else (c.brushPatrol (s - 1)).healthShow

/-- A boundary of a group's migration or patrol, with whether its comparisons differed. -/
def Core.migTurn (c : Core) (g : Nat) (differs : Bool) : Core :=
  match c.migOf g with
  | none => c
  | some m =>
    if m.patrol ∧ m.step = 2 ∧ differs then
      let c := (c.suspect 3 m.unit m.spare 0).differed 3 m.unit m.spare
      -- the spare qualified less than 24 h ago and the unit is the one that had replaced it: the unit is faulty (R518)
      let faulty := c.recent 3 m.spare && decide (smGet (fun _ => 0) c.health.partner m.spare = m.unit + 1)
      c.migDiffer g { m with patrol := false, retire := faulty, tries := 0 } |>.setNext (1 + g) (c.nextOf (1 + g))
    else if m.patrol ∧ c.migReady m then (c.migAbandon g).countW R.HEALTH_PATROLS 1
    else if m.step = 2 ∧ differs then (c.differed 3 m.unit m.spare).migBlock g true
    else c.migBlock g differs

/-- A migration's swap takes place, and the unit it frees is judged (R518). -/
def Core.migFinish (c : Core) (g : Nat) (m : Migration) (cold : Bool) : Core :=
  let l := (c.logical m.unit).getD 0
  let c := (c.migSwap g m).swapped 3 m.unit m.spare
  let c := c.putUnit 3 m.spare { c.unit 3 m.spare with state := 0 }
  let h := c.health
  let c := { c with health := { h with
    partner := smSet (fun _ => 0) h.partner m.unit (m.spare + 1)
    nondet := if cold ∧ !h.nondet.contains l then h.nondet ++ [l] else h.nondet } }
  if m.retire then (c.retire 3 m.unit).notice? m.tok .ok []
  else
    let q : Qualify := { res := 3, unit := m.unit, tok := m.tok }
    { c.putUnit 3 m.unit { c.unit 3 m.unit with state := 3 } with health := { c.health with qualify := c.health.qualify ++ [q] } }

/-- MIGRATION_SWAP (R423, step 3). -/
def migrationSwap (g : Nat) (c : Core) : Core :=
  match c.migOf g with
  | some m => if c.migReady m ∧ !m.patrol then (c.migFinish g m false).healthShow else c
  | none => c

/-- MIGRATION_COLD: the unit waits, and its whole state is copied while it is idle (R423). -/
def migrationCold (g : Nat) (c : Core) : Core :=
  match c.migOf g with
  | some m => if c.migColdReady m then ((c.count R.BRUSH_MIGRATE_COLD).migFinish g m true).healthShow else c
  | none => c

/-! ### Errors that make a unit suspect (R513) -/

/-- The errors of a key within a window. -/
def Core.seenIn (c : Core) (key window : Nat) : Nat :=
  ((smGet (fun _ => []) c.health.seen key).filter fun t => decide (c.time.cycles < t + window)).length

/-- A threshold field, where 0 is treated as 1. -/
def Core.threshold (c : Core) (x : Field) : Nat := max 1 (c.f x)

/-- Spare rows in use in a bank. -/
def Core.rowsUsed (c : Core) (bank : Nat) : List NearSpare := c.health.nearRows.filter (·.bank = bank)

/-- A resource key is suspect from now on. -/
def Core.markKey (c : Core) (key : Nat) : Core := { c with health := { c.health with suspects := c.health.suspects ++ [key] } }

/-- A key of the errors seen is judged. -/
def Core.judgeKey (c : Core) (key : Nat) : Core :=
  let base : Nat := key % 2 ^ 40
  let res := base / 2 ^ 32
  let u : Nat := base % 2 ^ 32
  let hard := decide (key ≥ 2 ^ 40)
  let n := c.seenIn key (if res = 5 then dayCycles else hourCycles)
  let limit := if res = 2 then 2 else if hard then 1
    else if res = 3 then c.threshold F.HEALTH_THRESH_BRUSH_DM
    else if res = 4 then c.threshold F.HEALTH_THRESH_NEAR_CORR else c.threshold F.HEALTH_THRESH_DRAM_CORR
  if n < limit ∨ c.health.suspects.contains base then c
  else
    if res = 3 then c.coreSuspect u n
    else if res = 4 then
      let bank : Nat := u / 1024
      let c := (c.markKey base).suspect 4 bank (u % 1024) n
      if (c.rowsUsed bank).length ≥ 8 then (c.note 8 4 bank (u % 1024) 0).raise F.HEALTH_INT_STATUS_EXHAUSTED else c
    else if res = 5 then (c.markKey base).suspect 5 (u / 65536 / 16) (u % 1048576) n
    else c

/-- Every key is judged, and errors older than a day are forgotten. -/
def Core.judgeErrors (c : Core) : Core :=
  let c := (c.health.seen.map (·.1)).foldl Core.judgeKey c
  let seen := (c.health.seen.map fun x => (x.1, x.2.filter fun t => decide (c.time.cycles < t + dayCycles))).filter fun x => !x.2.isEmpty
  { c with health := { c.health with seen := seen } }

/-- Cores in ERROR for an uncorrectable DM word are suspect. -/
def Core.judgeCores (c : Core) : Core :=
  (List.range 68).foldl (fun (c : Core) k =>
    if c.bcState k = 4 ∧ c.f (F.BRUSH_CORE_FAULT_CAUSE k) = 4 ∧ (c.logical k).isSome then c.coreSuspect k 4 else c) c

/-- Uncorrectable words of the contribution table: the entries contribute 0 to the block and are rewritten at the next boundary
(R513). -/
def Core.tableErrors (c : Core) (errs : List (Nat × Nat)) : Core :=
  errs.foldl (fun (c : Core) x =>
    match (c.engineEntries x.1)[x.2]? with
    | none => c
    | some e =>
      let c := (c.mapEntries (·.key = e.key) ({ · with dropped := true })).seenAt (2 ^ 40 + 2 * 2 ^ 32 + x.1)
      { c with health := { c.health with tableBad := c.health.tableBad ++ [e.key] } }) c

/-- The rewriting of those entries, with START equal to TARGET. -/
def Core.tableRewrite (c : Core) : Core :=
  let ks := c.health.tableBad
  let c := c.mapEntries (fun e => ks.contains e.key) fun e => { e with gS := e.gT, dS := e.dT, aS := e.aT }
  { c with health := { c.health with tableBad := [] } }

/-- An engine with two uncorrectable table words within an hour is stood in for whole; without RE8 its lanes are lost. -/
def Core.judgeEngines (c : Core) : Core :=
  (List.range 8).foldl (fun (c : Core) e =>
    if c.seenIn (2 ^ 40 + 2 * 2 ^ 32 + e) hourCycles < 2 ∨ c.engineState e ≠ 0 ∨ c.health.suspects.contains (2 * 2 ^ 32 + e) then c
    else
      let c := (c.markKey (2 * 2 ^ 32 + e)).suspect 2 e 0 2
      let ls := (List.range 4).map (4 * e + ·)
      if c.re8Free.length = 4 then
        c.standInFor { lanes := ls, spares := [0, 1, 2, 3], at_ := c.time.n, differ := ls }
      else (ls.filter fun l => !c.stoodIn l).foldl (fun (c : Core) l => (c.retire 1 l).laneLost l) c) c

/-! ### Near rows (R519) -/

/-- The word addresses of a near row. -/
def rowWords (bank row : Nat) : List Nat := (List.range 256).map fun i => bank + 64 * (row * 256 + i)

/-- NEAR_ROW_SPARE: writes go to both rows from now on, and the row is copied. -/
def nearRowSpare (bank row : Nat) (c : Core) : Core :=
  let key := 4 * 2 ^ 32 + bank * 1024 + row
  let used := c.rowsUsed bank
  if !c.health.suspects.contains key ∨ used.length ≥ 8 ∨ used.any (·.row = row) then c
  else
    let s := ((List.range 8).find? fun i => !used.any (·.spare = i)).getD 0
    let x : NearSpare := { bank := bank, row := row, spare := s, at_ := c.time.n }
    let c := c.note 2 4 bank row s
    { c with health := { c.health with nearRows := c.health.nearRows ++ [x] } }

/-- The value of a near word as the correcting path reads it (R235). -/
def Core.nearCorrected (c : Core) (a : Nat) : Int :=
  let s := c.caps.nspan
  let newer := a / s * s + (a % s + 1) % s
  let bad := fun k => smGet (fun _ => 0) c.ren.nearFault k = 2
  if bad a then (if bad newer then 0 else smGet (fun _ => 0) c.ren.near newer) else smGet (fun _ => 0) c.ren.near a

/-- NEAR_ROW_SWITCH: three blocks after the boundary that follows the copy, reads move to the spare row. -/
def nearRowSwitch (bank row : Nat) (c : Core) : Core :=
  match c.health.nearRows.find? fun x => decide (x.bank = bank ∧ x.row = row ∧ !x.active) with
  | none => c
  | some x =>
    if c.time.n < x.at_ + 4 * c.blk then c
    else
      let ws := rowWords bank row
      let near := ws.foldl (fun (m : SMap Int) a =>
        if smGet (fun _ => 0) c.ren.nearFault a = 2 then smSet (fun _ => 0) m a (c.nearCorrected a) else m) c.ren.near
      let fault := c.ren.nearFault.filter fun y => !ws.contains y.1
      let rows := c.health.nearRows.map fun y => if y = x then { x with active := true } else y
      let c := { c with ren := { c.ren with near := near, nearFault := fault }, health := { c.health with nearRows := rows } }
      c.swapped 4 bank (row + 65536 * x.spare)

/-! ### Receive margins (R520) -/

/-- Whether a receive lane has its link up: P0 to P3, then the PCIe lanes. -/
def Core.laneUp (c : Core) (j : Nat) : Bool :=
  if j < 4 then c.flag (F.NET_STATUS_LINK_UP j) else c.flag F.HOST_STATUS_LINK_UP && decide (j - 4 < c.f F.HOST_STATUS_WIDTH)

/-- EYE_MARGIN_MEASURE: margins of lane j in 1/64 UI and 4 mV. -/
def eyeMargin (j h v : Nat) (c : Core) : Core :=
  if j > 7 then c
  else if !c.laneUp j then
    ((c.setF (F.HEALTH_MARGIN_H j) 0).setF (F.HEALTH_MARGIN_V j) 0).setF (F.HEALTH_MARGIN_LOW j) 0
  else
    let h := min h 127
    let c := ((c.setF (F.HEALTH_MARGIN_H j) h).setF (F.HEALTH_MARGIN_V j) (min v 127)).setF (F.HEALTH_MARGIN_H_MIN j)
      (min h (c.f (F.HEALTH_MARGIN_H_MIN j)))
    let low := h < c.threshold F.HEALTH_THRESH_MARGIN_MIN
    let c := c.setB (F.HEALTH_MARGIN_LOW j) low
    let c := if low then (c.raise F.HEALTH_INT_STATUS_MARGIN_LOW).note 9 7 j 0 h else c
    let least := min h (smGet (fun _ => 128) c.health.marginMin j)
    if c.time.cycles ≥ smGet (fun _ => 0) c.health.marginAt j + hourCycles then
      let c := c.note 9 7 j 1 least
      { c with health := { c.health with marginMin := smSet (fun _ => 128) c.health.marginMin j 128,
                                         marginAt := smSet (fun _ => 0) c.health.marginAt j c.time.cycles } }
    else { c with health := { c.health with marginMin := smSet (fun _ => 128) c.health.marginMin j least } }

/-! ### The ledger (R528) -/

/-- PATINA_LEDGER_FLUSH: gathered records are written to flash. -/
def patinaFlush (c : Core) : Core :=
  if c.flag F.SYS_STATUS_VIN_WARN ∨ !c.flashWrites ∨ c.health.held.isEmpty then c
  else
    let n := c.ledgerNext
    let led := c.health.held.zipIdx.foldl (fun (m : SMap (Option LedgerRec)) y => smSet (fun _ => none) m (n + y.2) (some y.1)) c.health.ledger
    let next := n + c.health.held.length
    let led := led.filter fun x => decide (x.1 + 65536 ≥ next)
    let c := { c with health := { c.health with ledger := led, held := [] } }
    ((c.put64 R.HEALTH_LEDGER_NEXT_LO R.HEALTH_LEDGER_NEXT_HI next).setF F.HEALTH_STATUS_LEDGER_HELD 0)

/-! ### A block boundary of Patina -/

/-- What a block boundary does for Patina: `diffs` and `fails` are the lanes that differed and the units whose runs failed, `groups`
the Brush groups whose comparisons differed, `table` the uncorrectable table words. -/
def Core.healthTurn (c : Core) (diffs fails groups : List Nat) (table : List (Nat × Nat)) : Core :=
  let c := c.tableRewrite.placeAgain
  let wait := (List.range 5).foldl (fun (m : SMap Nat) s => smSet (fun _ => 0) m s (smGet (fun _ => 0) m s + 1)) c.health.wait
  let c := { c with health := { c.health with wait := wait } }
  let c := c.qualifyTurn fails
  let c := c.health.patrols.foldl (fun (c : Core) p => c.patrolTurn p diffs) c
  let c := c.selfTests fails
  let c := (List.range 4).foldl (fun (c : Core) g => c.migTurn g (groups.contains g)) c
  let c := ((c.tableErrors table).judgeErrors.judgeCores).judgeEngines
  c.healthShow

/-- The unit table is applied at a start (R529): retired lanes have RE8 lanes standing in where there are any, and retired cores
hold no logical number while their group has a spare. -/
def Core.applyUnits (c : Core) : Core :=
  let lanes := (List.range 36).filter fun l => (c.unit 1 l).state = 4
  let c := lanes.foldl (fun (c : Core) l =>
    if l < 32 then c.setF ⟨R.RENDER_LANE_RETIRED, l, l⟩ 1 else c.setF ⟨R.RENDER_LANE_RETIRED8, l - 32, l - 32⟩ 1) c
  let c := (lanes.filter (· < 32)).foldl (fun (c : Core) l =>
    match c.re8Free.head? with
    | some m => (c.setF (F.RENDER_LANE_SPARE_LANE m) l).setF (F.RENDER_LANE_SPARE_VALID m) 1
    | none =>
      let c := { c with health := { c.health with silent := c.health.silent ++ [l] } }
      (c.setF F.HEALTH_CAPACITY_LANES (c.f F.HEALTH_CAPACITY_LANES - 1)).setF F.HEALTH_CAPACITY_REDUCED 1) c
  ((List.range 68).filter fun k => (c.unit 3 k).state = 4).foldl (fun (c : Core) k =>
    let c := c.setBcState k 7
    match c.logical k with
    | none => c
    | some l =>
      match ((List.range 17).map (· + 17 * groupOfCore k)).find? fun s => (c.logical s).isNone && (c.unit 3 s).state ≠ 4 with
      | some s => c.setF ⟨R.BRUSH_MAP (l / 4), 8 * (l % 4) + 6, 8 * (l % 4)⟩ s
      | none =>
        let c := { c with health := { c.health with dead := c.health.dead ++ [l] } }
        (c.setF F.HEALTH_CAPACITY_BRUSH (c.f F.HEALTH_CAPACITY_BRUSH - 1)).setF F.HEALTH_CAPACITY_REDUCED 1) c

/-! ### Function resets of engines (R128) -/

/-- Whether an engine in service has no free spare engine. -/
def Core.engineNoSpare (c : Core) (e : Nat) : Bool := decide (e < 8) && c.engineState e = 0 && decide (c.re8Free.length < 4)

/-- An engine's reset starts: one in service hands its lists to RE8, seamlessly. -/
def Core.engineReset (c : Core) (e : Nat) : Core :=
  if e < 8 ∧ c.engineState e = 0 then
    let c := (List.range 4).foldl (fun (c : Core) m => c.setStandIn m (some (4 * e + m))) c
    c.healthShow
  else c

/-- It completes: the engine takes its lists back. -/
def Core.engineBack (c : Core) (e : Nat) : Core :=
  if e < 8 then
    ((List.range 4).foldl (fun (c : Core) m =>
      if c.standing m ∧ c.f (F.RENDER_LANE_SPARE_LANE m) / 4 = e ∧ !c.laneRetired (4 * e + m) ∧
          !c.health.qualify.any fun q => decide (q.res = 1 ∧ q.unit / 4 = e) then c.setStandIn m none else c) c).healthShow
  else c

/-! ### The end of Smudge (R533) -/

/-- Every class is disarmed and maintenance mode ends. -/
def Core.smudgeEnd (c : Core) : Core :=
  if c.health.maint.isNone ∧ c.get R.SMUDGE_STATUS = 0 then c
  else
    let c := { c with health := { c.health with maint := none, due := [] } }
    let c := (((c.put R.SMUDGE_STATUS 0).put R.SMUDGE_ARM 0).setF F.HEALTH_STATUS_MAINT 0).setF F.HEALTH_STATUS_SMUDGE_ARMED 0
    (c.raise F.SMUDGE_INT_STATUS_DISARMED).ledger 11 0 0 0 0 true

end Sys2Proof.Machine
end

