-- ==== Sys2Proof/Machine/UpdateBase.lean ====
section
/-! DEFINITION. Firmware images, reception slots and datagrams of the update chain (R498 to R505). -/

namespace Sys2Proof.Machine

/-! ### Images (R498, R499) -/

/-- The image that runs. -/
def Core.activeImage (c : Core) : Image :=
  match c.update.active with
  | some x => x
  | none => { data := Config.firmwareImage, digest := sha256 Config.firmwareImage, version := Config.firmwareVersion.toNat,
              svn := Config.activeSvn.toNat }

/-- The CAUSE of an image, 0 when every check of R499 passes. -/
def Core.imageCause (c : Core) (bs digest : List Byte) (env : ImageEnv) : Nat :=
  let at_ := fun (o n : Nat) => itemNat bs o n
  let zero := fun (o n : Nat) => ((bs.drop o).take n).all fun b => decide (b = 0)
  let header := at_ 0 4 = 0x46474D49 ∧ at_ 4 2 = 1 ∧ zero 6 2 ∧ at_ 20 2 < 256 ∧ zero 23 1 ∧ zero 28 4 ∧ zero 128 128 ∧
    1 ≤ at_ 24 4 ∧ at_ 24 4 ≤ 125829120 ∧ bs.length = 256 + at_ 24 4
  let issue := (c.get R.SYS_MODULE_ISSUE).toNat
  if env.unreadable then 8
  else if sha256 bs ≠ digest then 7
  else if ¬ header then 1
  else if at_ 8 4 ≠ (c.get R.SYS_IDENT).toNat ∨ issue < at_ 12 2 ∨ issue > at_ 14 2 then 2
  else if at_ 22 1 > 3 ∨ env.keyBad then 3
  else if env.sigBad then 4
  else if sha256 (bs.drop 256) ≠ (bs.drop 32).take 32 then 5
  else if at_ 20 2 < c.f F.UPDATE_SVN_MIN then 6 else 0

/-- The image of some bytes. -/
def imageOf (bs digest : List Byte) : Image := { data := bs, digest := digest, version := itemNat bs 16 4, svn := itemNat bs 20 2 }

/-! ### Slots and what the registers show -/

/-- A reception slot. -/
def Core.upSlot (c : Core) (k : Nat) : UpSlot := smGet (fun _ => {}) c.update.slots k

/-- A digest's word. -/
def digestWord (d : List Byte) (w : Nat) : Nat := leNat ((d.drop (4 * w)).take 4)

/-- UPDATE_STATUS.STATE (R501 to R508). -/
def Core.upState (c : Core) : Nat :=
  match c.update.sched with
  | some s => if s.running then 5 else 4
  | none =>
    if c.update.winner.isSome then 3
    else if c.update.slots.any fun x => x.2.state = 2 then 2
    else if c.update.slots.any fun x => x.2.state = 1 then 1 else 0

/-- The registers follow the slots, the winner and the schedule. -/
def Core.upShow (c : Core) : Core :=
  let c := c.setF F.UPDATE_STATUS_STATE c.upState
  let c := c.setF F.UPDATE_STATUS_WINNER_SLOT (c.update.winner.elim 0 (·.1))
  let c := c.setB F.UPDATE_STATUS_BRUSH_PENDING (!c.update.pending.isEmpty)
  let d := c.update.winner.elim [] (·.2.digest)
  let c := (List.range 8).foldl (fun (c : Core) w => c.put (R.UPDATE_DIGEST w) (.ofNat 32 (digestWord d w))) c
  let c := c.put R.UPDATE_PREV_VERSION (.ofNat 32 (c.update.prev.elim 0 (·.2.version)))
  let t := (c.update.sched.bind (·.t)).getD 0
  let c := (c.put64 R.UPDATE_ACT_SEC_LO R.UPDATE_ACT_SEC_HI (t / 10 ^ 9)).put R.UPDATE_ACT_NS (.ofNat 32 (t % 10 ^ 9))
  (List.range 2).foldl (fun (c : Core) k =>
    let x := c.upSlot k
    let c := (c.setF (F.UPDATE_SLOT_STATE_STATE k) x.state).setB (F.UPDATE_SLOT_STATE_SOURCE k) (x.state ≠ 0 && x.session.isNone)
    let c := (c.put (R.UPDATE_SLOT_RECEIVED k) (.ofNat 32 x.data.length)).put (R.UPDATE_SLOT_LENGTH k) (.ofNat 32 x.length)
    (c.put (R.UPDATE_SLOT_PREFIX_LO k) (.ofNat 32 (digestWord x.digest 0))).put (R.UPDATE_SLOT_PREFIX_HI k)
      (.ofNat 32 (digestWord x.digest 1))) c

/-- Versions and SVN of the active image. -/
def Core.showActive (c : Core) : Core :=
  let x := c.activeImage
  (c.put R.UPDATE_ACTIVE_VERSION (.ofNat 32 x.version)).setF F.UPDATE_SVN_ACTIVE x.svn

/-- A slot changes. -/
def Core.setUpSlot (c : Core) (k : Nat) (x : UpSlot) : Core :=
  { c with update := { c.update with slots := smSet (fun _ => {}) c.update.slots k x } }.upShow

/-- A slot is free, with the CAUSE of what ended in it. -/
def Core.freeUpSlot (c : Core) (k cause : Nat) : Core := (c.setUpSlot k {}).setF (F.UPDATE_SLOT_STATE_CAUSE k) cause

/-- The slot for a new reception: one that holds no previous image before one that does, which is then given up (R508). -/
def Core.newUpSlot (c : Core) : Option Nat :=
  let free := (List.range 2).filter fun k => (c.upSlot k).state = 0
  match free.find? fun k => c.update.prev.map (·.1) ≠ some k with
  | some k => some k
  | none => free.head?

/-- A reception starts in a slot. -/
def Core.receive (c : Core) (k : Nat) (x : UpSlot) : Core :=
  let c := if c.update.prev.map (·.1) = some k then { c with update := { c.update with prev := none } } else c
  c.setUpSlot k { x with state := 1, at_ := c.time.cycles }

/-- All bytes of a reception are there: its verification waits for its turn (R502). -/
def Core.complete (c : Core) (k : Nat) : Core :=
  let c := { c with update := { c.update with order := c.update.order + 1 } }
  c.setUpSlot k { c.upSlot k with state := 2, order := c.update.order }

/-! ### Datagrams of the chain (R503) -/

/-- The names of the kinds. -/
def upKind (k : Nat) : String :=
  ["", "OFFER", "DATA", "ACK", "REFUSE", "VERIFIED", "ACTIVATE", "CANCEL", "RESULT"].getD k ""

/-- A datagram waits on P3 in traffic class 2. -/
def Core.upSend (c : Core) (dest kind xfer offset st : Nat) (digest data : List Byte) : Core :=
  let len := 66 + data.length + 4 * c.f (F.NET_VLAN_TAG 3)
  let words := [dest, kind, xfer, offset, data.length, st] ++ ((digest.take 8) ++ data).map (·.toNat)
  let m : Msg := .frame 3 2 ("UPDATE " ++ upKind kind) words
  c.queueFrame 3 { cls := 2, len := len, msg := m }

/-- A downstream peer, and its state as UPDATE_PEER_STATE codes it. -/
def Core.peer (c : Core) (n : Nat) : UpPeer := smGet (fun _ => {}) c.update.peers n
def Core.setPeer (c : Core) (n : Nat) (x : UpPeer) : Core :=
  { c with update := { c.update with peers := smSet (fun _ => {}) c.update.peers n x } }
def Core.peerState (c : Core) (n : Nat) : Nat := c.f (F.UPDATE_PEER_STATE_PEER n)
def Core.peerGo (c : Core) (n st : Nat) : Core :=
  if c.peerState n = st then c else (c.setF (F.UPDATE_PEER_STATE_PEER n) st).raise F.UPDATE_INT_STATUS_PEER_CHANGE

/-- The address of a peer. -/
def Core.peerIp (c : Core) (n : Nat) : Nat := (c.get (R.UPDATE_PEER n)).toNat

/-- The winner is offered to a peer (R505). -/
def Core.offer (c : Core) (n : Nat) : Core :=
  match c.update.winner with
  | none => c
  | some w =>
    if c.peerIp n = 0 then c
    else
      let x := c.update.xfer + 1
      let c := { c with update := { c.update with xfer := x } }
      let c := c.setPeer n { xfer := x, offered := true, lastAck := c.time.cycles, advance := c.time.cycles }
      c.upSend (c.peerIp n) 1 x 0 0 w.2.digest (leBytes 4 w.2.data.length ++ w.2.digest)

/-- The winner is offered to every configured peer once in its session (R505). -/
def Core.forward (c : Core) : Core :=
  if !c.flag F.UPDATE_CFG_FWD_EN then c
  else (List.range 4).foldl (fun (c : Core) n => if (c.peer n).offered then c else c.offer n) c

/-- DATA frames go out while fewer than 256 lie beyond the last acknowledged offset (R504). -/
def Core.sendData : Nat → Nat → Core → Core
  | 0, _, c => c
  | k + 1, n, c =>
    let p := c.peer n
    match c.update.winner with
    | none => c
    | some w =>
      if p.sent ≥ w.2.data.length ∨ p.sent ≥ p.acked + 256 * 1408 then c
      else
        let bytes := (w.2.data.drop p.sent).take 1408
        let c := c.upSend (c.peerIp n) 2 p.xfer p.sent 0 w.2.digest bytes
        Core.sendData k n (c.setPeer n { p with sent := p.sent + bytes.length })

/-- The session is over: both slots are free, and nothing is forwarded any more (R502). -/
def Core.sessionOver (c : Core) : Core :=
  let k := c.update.winner.map (·.1)
  let c := { c with update := { c.update with winner := none, peers := [] } }
  let c := (List.range 4).foldl (fun (c : Core) n => c.peerGo n 0) c
  match k with
  | some k => (c.setUpSlot k {}).upShow
  | none => c.upShow

/-! ### Receptions (R500 to R502, R504) -/

/-- A reception ends without an image, with a status for the host's UPDATE_END or an answer to the upstream. -/
def Core.endSlot (c : Core) (k cause : Nat) (st : Status) (answer : Bool) : Core :=
  let x := c.upSlot k
  if x.state = 0 ∨ x.state = 3 then c
  else
    let c := c.freeUpSlot k cause
    let c := c.notice? x.tok st (natBytes [cause, k])
    if answer ∧ x.session.isNone then
      if st = .verifyFailed then c.upSend (c.get R.UPDATE_UPSTREAM).toNat 8 x.xfer cause (statusCode st) x.digest []
      else c.upSend (c.get R.UPDATE_UPSTREAM).toNat 4 x.xfer 0 (statusCode st) x.digest []
    else c

/-- Every reception that is not yet verified is discarded (R500). -/
def Core.dropReceptions (c : Core) : Core := (List.range 2).foldl (fun (c : Core) k => c.endSlot k 0 .aborted false) c

end Sys2Proof.Machine
end

