-- ==== Sys2Proof/Machine/Hooks.lean ====
section
/-! DEFINITION. What events of the whole module do to the functions of each chapter. -/

namespace Sys2Proof.Machine

/-! ### Timed commands whose effect is scheduled -/

/-- The operation that a pending timed command stands for. -/
def Timed.tok (t : Timed) : Tok := { session := t.packet.session.toNat, seq := t.packet.seq, opcode := t.opcode }

/-- A pending swap is withdrawn, and a proposal whose swap it was stays staged (R151, R223). -/
def Core.dropSwap (c : Core) (q : Swap → Bool) : Core :=
  let c := if c.cal.swaps.any fun w => q w && decide (w.mask / 2 % 2 = 1) then c.surveyUnswapped else c
  { c with cal := { c.cal with swaps := c.cal.swaps.filter fun w => !q w } }.palShow

/-- A switch-over whose boundary has not come is given up: the ACTIVE module stays ACTIVE (R151, R476). -/
def Core.dropSwitch (c : Core) : Core :=
  match c.twin.switch with
  | some s =>
    if s.past then c
    else
      let c := { c with twin := { c.twin with switch := none } }
      if c.twinState = 5 then (c.setF F.TWIN_STATUS_STATE 2).txShowAll else c
  | none => c

/-- What a timed command has scheduled is taken back (R151). -/
def Core.undoTimed (c : Core) (t : Timed) : Core :=
  let ws := bytesWords (pkParams t.packet)
  let i := (ws.getD 0 0).toNat
  let b := t.boundary
  if !t.eager then c
  else if t.opcode = 0x0401 ∨ t.opcode = 0x0514 ∨ t.opcode = 0x0726 then c.dropSwap fun w => decide (w.tok = some t.tok)
  else if t.opcode = 0x0224 then
    let x := c.pair i
    if x.next.any fun y => decide (y.2.1 = b) then c.setPair i { x with next := none } else c
  else if t.opcode = 0x0226 then
    let x := c.mix i
    if x.next.any fun y => decide (y.2 = b) then c.setMix i { x with next := none } else c
  else if t.opcode = 0x0810 then
    { c with out := { c.out with mutes := c.out.mutes.filter fun q => decide (q.tok ≠ t.tok) } }
  else if t.opcode = 0x0520 then
    { c with arm := { c.arm with dpReqs := c.arm.dpReqs.filter fun q => decide (q.tok ≠ t.tok) } }
  else if t.opcode = 0x0530 then
    { c with arm := { c.arm with groupNext := c.arm.groupNext.filter fun q => decide (q.2.2.2 ≠ t.tok) } }.regroup b none
  else if t.opcode = 0x0610 then
    let x := c.rxStream i
    (c.setRxStream i { x with next := x.next.filter fun y => decide (y.2 ≠ b) }).regroup b none
  else if t.opcode = 0x0612 then
    let x := c.txStream i
    c.setTxStream i { x with next := x.next.filter fun y => decide (y.2 ≠ b) }
  else if t.opcode = 0x0701 then
    if c.survey.meas.any fun m => decide (m.tok = t.tok) then c.setMeas none else c
  else if t.opcode = 0x0905 then
    { c with brush := { c.brush with starts := c.brush.starts.filter fun x => !decide (x.1 = b ∧ x.2.1 = i) } }
  else if t.opcode = 0x0907 then
    let key := (ws.getD 1 0).toNat + 256 * i
    { c with brush := { c.brush with newBinds := c.brush.newBinds.filter fun x => !decide (x.1 = b ∧ x.2.1 = key) } }
  else if t.opcode = 0x0E82 then
    { c with health := { c.health with due := c.health.due.filter fun d => !decide (d.b = b ∧ d.cls = i) } }
  else if t.opcode = 0x0D02 then
    c.dropSwitch
  else c

/-- A pending timed command ends with ABORTED and changes nothing (R151). -/
def Core.abortTimed (c : Core) (t : Timed) : Core :=
  (({ c with host := { c.host with timed := c.host.timed.erase t } }).undoTimed t).notice t.tok .aborted []

/-- Changes that wait for a boundary and were not timed fall due when the media time moves. -/
def Core.dueNow (c : Core) : Core :=
  let pairs := c.mon.pairs.map fun x => (x.1, { x.2 with next := x.2.next.map fun y => (y.1, 0, y.2.2) })
  let mixes := c.mon.mixes.map fun x => (x.1, { x.2 with next := x.2.next.map fun y => (y.1, 0) })
  let rx := c.net.rx.map fun x => (x.1, { x.2 with next := x.2.next.map fun y => (y.1, 0) })
  let tx := c.net.tx.map fun x => (x.1, { x.2 with next := x.2.next.map fun y => (y.1, 0) })
  let due := c.health.due.map fun d => { d with b := 0 }
  { c with
    mon := { c.mon with pairs := pairs, mixes := mixes }
    out := { c.out with mutes := c.out.mutes.map fun q => { q with b := 0 } }
    arm := { c.arm with dpReqs := c.arm.dpReqs.map fun q => { q with b := 0 }
                        groupNext := c.arm.groupNext.map fun q => (0, q.2) }
    net := { c.net with rx := rx, tx := tx }
    brush := { c.brush with starts := c.brush.starts.map fun x => (0, x.2), newBinds := c.brush.newBinds.map fun x => (0, x.2) }
    health := { c.health with due := due } }

/-! ### Glazes and swaps (R220, R223) -/

/-- The words of a swap's notice: the status, B and the deferral flag (R226). -/
def swapWords (st : Status) (b : Nat) (deferred : Bool) : List Byte :=
  natBytes [statusCode st, b % 2 ^ 32, b / 2 ^ 32, b2n deferred]

/-- Step 4 of R220 for one Glaze: the former banks are released, SWAP_DONE is raised and the notice of OK goes out. -/
def Core.glazeOver (c : Core) (x : GlazeRun) : Core :=
  let c := { c with cal := { c.cal with glazes := c.cal.glazes.erase x } }.palShow
  let c := if x.mask / 2 % 2 = 1 then ({ c with out := { c.out with old := [] } }).surveyApplied x.b else c
  (c.raise F.CALIPER_INT_STATUS_SWAP_DONE).notice? x.tok .ok (swapWords .ok x.b x.deferred)

/-- The media time moves: a re-alignment, or a change of family, rate or mode (R151, R223, R442). -/
def Core.mediaJump (c : Core) : Core :=
  let c := (c.host.timed.foldl Core.abortTimed c).dropSwitch
  let l := c.cal.swaps
  let c := c.dropSwap fun _ => true
  let c := l.foldl (fun (c : Core) w => c.notice? w.tok .aborted (swapWords .aborted w.b w.deferred)) c
  (c.cal.glazes.foldl Core.glazeOver c).dueNow.mediaTasks

/-! ### The MEDIA domain -/

/-- The MEDIA domain restarts at block n: delay memory treats every earlier sample as zero, and biquad, FIR and Varnish
state is cleared (R83, R111, R238, R250, R267, R288, R319, R353, R384). -/
def Core.mediaRestart (c : Core) (n : Nat) : Core :=
  let c := { c with clk := { c.clk with zeroBefore := n } }.renderRestart.anchorGrid n
  let c := ((c.chainClear n).monitorRestart n).measureStop
  ((c.surveyBreak n).portsRestart n).streamsRestart n

/-- A stream that no longer fits the rate is disabled until it is defined again (R89). -/
def Core.dropStream (c : Core) (rx : Bool) (s : Nat) : Core :=
  let off := fun (d : List Nat) => d.set 1 (d.getD 1 0 / 2 * 2)
  if rx then
    let x := c.rxStream s
    let c := c.setRxStream s { x with next := x.next.filter fun y => !defEn y.1 || c.streamRange true y.1 }
    if defEn x.defn ∧ !c.streamRange true x.defn then
      (c.setRxStream s { c.rxStream s with defn := off x.defn, data := [], hold := none, cap := [] }).rxStart s c.now
    else c
  else
    let x := c.txStream s
    let c := c.setTxStream s { x with next := x.next.filter fun y => !defEn y.1 || c.streamRange false y.1 }
    if defEn x.defn ∧ !c.streamRange false x.defn then
      (c.setTxStream s { c.txStream s with defn := off x.defn }).txStart s c.now
    else c

/-- A new rate or mode takes effect: what R89 lists for the anchor B beside what R151 and R223 give, and the recount of
contributions and cores at the new rate. -/
def Core.rateChanged (c : Core) : Core :=
  let c := (c.net.rx.map (·.1)).foldl (fun (c : Core) s => c.dropStream true s) c.portsRate
  let c := (c.net.tx.map (·.1)).foldl (fun (c : Core) s => c.dropStream false s) c
  let c := ({ c with scene := { c.scene with used := 0 } }).loadEntries
  let n := (countedOuts c.caps c.scene.live c.scene.staged).length
  (if c.f F.OUTPROC_STATUS_CORES = 0 then c else c.setF F.OUTPROC_STATUS_CORES (c.chainCores n)).poolBases

/-- Whether step 3 of R89 finds something pending or running beside a MEDIA switch and a re-alignment. -/
def Core.rateBusy (c : Core) : Bool :=
  c.survey.meas.isSome || !c.cal.swaps.isEmpty || !c.cal.glazes.isEmpty || c.scene.commit.isSome || c.out.commit.isSome ||
    c.arm.commit.isSome || c.brush.commit.isSome || c.survey.proposal.any fun p => p.staged.isNone

/-- Whether step 4 of R89 fails. -/
def Core.rateForbidden (c : Core) : Bool :=
  c.out.live.any (fun x => x.2.firEn) || c.out.staged.any (fun x => x.2.firEn) || c.mon.pairs.any (fun x => x.2.set.on) ||
    decide (c.policy ≠ 0)

/-- Whether everything passes the recount of step 5 of R89 at a rate and mode. -/
def Core.rateAdmits (c : Core) (family mult ll : Nat) : Bool :=
  let d := { c with clk := { c.clk with family := family, mult := mult, ll := ll } }
  let k := d.caps
  let a := c.scene.live
  let b := c.scene.staged
  let bank := fun (l : Layout) => (l.tooFar k).isNone && decide (l.setKeys.length ≤ 256) && decide (l.faces ≤ 2048) &&
    !(decide (mult = 2) && (!l.enabled.isEmpty || !l.enabledBuses.isEmpty || l.beds.any fun x => x.2.enable))
  let u := unionPaths (a.paths k) (b.paths k)
  let far := u.filter (·.1.far)
  let routes := fun (m : SMap Nat) => (routesOf m).all (fun x => !destBeyond k mult x.1 && !srcBeyond k mult x.2.1) &&
    decide (((routesOf m).filter fun x => inRange 0x1000 0x17FF x.1).length ≤ poolSize mult)
  let pool := fun (x : List Nat) => !defEn x || decide (defFirst x + defCh x ≤ poolSize mult)
  bank a && bank b && decide (slotsTotal u ≤ k.slots) && decide (far.length ≤ k.far) &&
    decide (((far.map (·.1.src)).eraseDups).length ≤ k.farObjs) && d.chainCoresFit (countedOuts k a b).length &&
    routes c.arm.live && routes c.arm.staged && c.net.rx.all (fun x => pool x.2.defn && x.2.next.all fun y => pool y.1) &&
    c.net.tx.all fun x => pool x.2.defn && x.2.next.all fun y => pool y.1

/-- The render engines, Caliper and the Brush cores stop (R65, R135). -/
def Core.stopEngines (c : Core) : Core :=
  (({ c with power := { c.power with engineStop := true } }).setF F.CALIPER_STATUS_RUNNING 0).setF F.RENDER_STATUS_RUNNING 0

/-- They start again at block boundary b: Caliper computes every target, and rendering starts one block later with every
contribution at its target (R66, R135). -/
def Core.startEngines (c : Core) (b : Nat) : Core :=
  let c := { c with power := { c.power with engineStop := false } }.renderRestart.anchorGrid b
  (c.chainClear b).monitorRestart b

/-- A network port is reset, function 8, 9 or 10 (R85, R128). -/
def Core.resetPort (c : Core) (p : Nat) : Core := c.netReset p

/-! ### Supply, power domains and resets -/

/-- All state of a power domain that goes OFF is lost (R130). -/
def Core.pdLost (c : Core) (n : Nat) : Core :=
  let d := { c with regs := c.regs.filter fun x => x.1 / 0x100000 < 2 || windowPd (x.1 / 0x100000) ≠ n }
  if 6 ≤ n ∧ n ≤ 9 then d.groupLost (n - 6) else if n = 11 then d.dramSleep c else d

/-- The module without supply: flash and fuses alone keep what they hold, and modules stay in their cages (R52, R124). -/
def Core.powerOff (c : Core) : Core :=
  let d : Core := { regs := c.regs.filter fun x => flashReg x.1, power := { cages := c.power.cages, sfpId := c.power.sfpId } }
  ((d.keepFlash c).setF F.MEMC_MAP_GRAIN c.cfg.grain).setF F.MEMC_MAP_GRAIN_NEXT c.cfg.grain

/-- Flash work finishes and the shutdown record is written (R52 steps 5 and 6, R466, R467). -/
def Core.shutdownRecord (c : Core) : Core := { c with flash := { c.flash with ops := [] } }.writeRecord

/-- The standby record is written (R136). -/
def Core.standbyRecord (c : Core) : Core := { c with flash := { c.flash with ops := [] } }.writeRecord

/-- VIN_WARN has set: flash takes no further programs, and receptions end (R48, R467, R500). -/
def Core.vinWarned (c : Core) : Core := c.flashAllow.dropReceptions

/-- The live banks of Palettes 0 to 2 are stored as the last committed show, or as soon as flash takes programs again (R121,
R466). -/
def Core.saveShow (c : Core) : Core :=
  if c.flag F.FLASH_STATUS_WRITES_ALLOWED then
    let s : Show := { layout := c.scene.live, chains := c.out.live, routes := c.arm.live }
    { c with flash := { c.flash with saved := some s, showDue := false } }
  else { c with flash := { c.flash with showDue := true } }

/-- The stored show is admitted again into the live banks (R121, step 11). -/
def Core.restoreShow (c : Core) : Core :=
  match c.flash.saved with
  | none => c
  | some s =>
    if (admitAll c.caps {} s.layout).status = .ok then
      let c := ({ c with scene := { c.scene with live := s.layout } }).loadEntries
      let c := ({ c with out := { c.out with live := s.chains } }).loadHeadroom
      let n := (countedOuts c.caps c.scene.live c.scene.staged).length
      let c := c.setF F.OUTPROC_STATUS_CORES (c.chainCores n)
      ({ c with arm := { c.arm with live := s.routes } }).loadRoutes []
    else c

/-- VIN_WARN has cleared: stopped flash work resumes, and pages are erased again for the shutdown record (R466, R471). -/
def Core.vinCleared (c : Core) : Core :=
  let c := { c with flash := { c.flash with recPages := 4 } }.flashAllow
  if c.flash.showDue then c.saveShow else c

/-- Gesso starts: what it does beside moving CTRL and starting the training: the shutdown record is looked for, and the unit
table is applied (R466, R529). -/
def Core.gessoStarts (c : Core) : Core := c.findRecord.applyUnits

/-- Firmware has started at step 11: its brushwork is placed and what health and firmware delivery report shows (R121, R387,
R507, R529). -/
def Core.firmwareStarts (c : Core) : Core := c.brushStart.renderShow.upShow.showActive

/-! ### Restarts, holds and sessions -/

/-- A control-plane restart begins: what it stops in the chapters (R425, R500, R533); SMUDGE_SET alone is not staged in
hardware (R151). -/
def Core.restartHooks (c : Core) : Core :=
  let l := c.host.timed.filter fun t => decide (t.opcode = 0x0E82)
  (l.foldl Core.abortTimed c.brushRestart).smudgeEnd.dropReceptions

/-- Accepted operations that a control-plane restart does not abort: timed commands and swaps, library commits and scans that
the hardware finishes, measurements, mutes and gains in hardware, and a scheduled activation (R149, R151, R223, R319, R474). -/
def Core.survivors (c : Core) : List Tok :=
  c.host.timed.map Timed.tok ++ c.cal.swaps.filterMap (·.tok) ++ c.cal.glazes.filterMap (·.tok) ++
    c.crc.tok.filterMap (·.2) ++ c.flash.writes.filterMap (fun w => w.commit.map (·.1)) ++
    (c.survey.meas.map (·.tok)).toList ++ c.out.mutes.map (·.tok) ++ c.arm.dpReqs.map (·.tok) ++
    c.arm.groupNext.map (·.2.2.2) ++ (c.update.sched.bind (·.tok)).toList ++ (c.twin.switch.bind (·.tok)).toList ++ c.twin.tok.toList

/-- Mute and hold begins: what it does beside the fade and the stop of the engines (R319, R442). -/
def Core.holdHooks (c : Core) : Core := c.surveyHold

/-- Sessions have closed: what they alone kept open ends: library writes that are not committed, receptions and maintenance mode
(R469, R500, R533). -/
def Core.sessionsGone (c : Core) : Core :=
  let gone := fun (s : Nat) => (c.session? s).isNone && decide (s ≠ 0)
  let c := { c with flash := { c.flash with writes := c.flash.writes.filter fun w => w.commit.isSome || !gone w.session } }
  let c := (List.range 2).foldl (fun (c : Core) k =>
    match (c.upSlot k).session with
    | some s => if (c.upSlot k).state = 1 ∧ gone s then c.endSlot k 0 .aborted false else c
    | none => c) c
  if c.health.maint.any fun m => gone m.1 then c.smudgeEnd else c

/-- Whether the twin state alone moves the module between RUN and quiet standby: it is not SOLO (R134). -/
def Core.twinned (c : Core) : Bool := decide (c.twinState ≠ 0)

/-! ### Function resets (R128) -/

/-- Whether a Brush group runs live-audio brushwork. -/
def Core.groupLive (c : Core) (g : Nat) : Bool := c.groupFw g

/-- Whether a render engine is in service and no spare engine is free. -/
def Core.engineStuck (c : Core) (e : Nat) : Bool := c.engineNoSpare e

/-- The network port of a function code. -/
def funcPort (code : Nat) : Nat := if code = 10 then 3 else if code = 28 then 2 else code - 8

/-- The firmware cores of a group. -/
def Core.fwOf (c : Core) (g : Nat) : List Nat := c.brush.fw.filter fun l => decide (l / 16 = g)

/-- A function reset starts: what it does to the function. -/
def Core.funcStart (c : Core) (code : Nat) : Core :=
  if code ≤ 7 then c.portResetStart code
  else if code ≤ 10 ∨ code = 28 then
    let p := funcPort code
    let c := c.netReset p
    c.setNetPort p { c.netPort p with inReset := true }
  else if code ≤ 19 then c.engineReset (code - 11)
  else if code ≤ 23 then
    let g := code - 20
    (c.fadeWork (c.fwOf g) true c.blk).groupReset g
  else if code = 24 then { c.maquetteEnd true c.nextB with cal := { c.cal with inReset := true } }.setF F.CALIPER_STATUS_RUNNING 0
  else if code = 25 then (c.measureStop.withdraw 3).pdmClear
  else if code = 26 then
    let l := c.flash.writes.filter fun w => w.commit.isSome
    let c := { c with flash := { c.flash with writes := c.flash.writes.filter fun w => w.commit.isNone } }
    (l.foldl (fun (c : Core) w => c.notice? (w.commit.map (·.1)) .aborted []) c).dropReceptions
  else if code = 27 then c.hostReset.sessionsGone
  else c

/-- A function reset completes. -/
def Core.funcEnd (c : Core) (code : Nat) : Core :=
  if code ≤ 7 then c.portResetEnd code
  else if code ≤ 10 ∨ code = 28 then
    let p := funcPort code
    c.setNetPort p { c.netPort p with inReset := false }
  else if code ≤ 19 then c.engineBack (code - 11)
  else if code ≤ 23 then
    let g := code - 20
    let c := (c.groupReload g).fadeWork (c.fwOf g) false c.glaze
    { c with update := { c.update with pending := c.update.pending.filter (· ≠ g) } }.upShow
  else if code = 24 then { c with cal := { c.cal with inReset := false, next := c.boundaryAt c.now } }
  else c

end Sys2Proof.Machine
end

