-- ==== Sys2Proof/Machine/Time.lean ====
section
/-! DEFINITION. Network time (chapter 4): the PTP counter and its servo, leaders, steps and re-alignments, the media sample
counter, timed pulses and time captures. -/

namespace Sys2Proof.Machine

/-! ### References and the DPLL (R79 to R83) -/

/-- The selected disciplining reference: 0 none, 1 PTP, 2 REF_IN; DREF 3 is treated as NONE. -/
def Core.dref (c : Core) : Nat := let d := c.f F.CLK_MEDIA_CTRL_DREF; if d = 3 then 0 else d

/-- House-sync mode: DREF is REF_IN (R112). -/
def Core.houseSync (c : Core) : Bool := c.dref = 2

/-- Whether a reference is qualified: REF_IN under R77; PTP while the servo steers the counter (R79, R82, R106, R109). -/
def Core.refQualified (c : Core) (r : Nat) : Bool :=
  match r with
  | 1 => c.time.active.isSome && !c.time.lost && !c.time.checking && !c.flag F.TIME_STATUS_JUMP_REFUSED
  | 2 => c.flag F.CLK_MEDIA_STATUS_REF_QUALIFIED
  | _ => false

/-- CLK_MEDIA_STATUS.STATE of the running MEDIA domain (R79). -/
def Core.mediaState (c : Core) : Nat :=
  let r := c.clk.follow
  if r = 0 then 4 else if !c.refQualified r then 3 else if c.clk.locked then 2 else 1

/-- STATE follows R79 while the MEDIA domain runs outside a switch and a double fault. -/
def Core.showState (c : Core) : Core :=
  if c.clk.mediaOn ∧ !(c.clk.sw.map (·.done)).getD false ∧ c.clk.fault.isNone then
    c.setF F.CLK_MEDIA_STATUS_STATE c.mediaState
  else c

/-- A double fault is declared: step 1 of R83. -/
def Core.doubleFault (c : Core) : Core :=
  let c := (c.setF F.CLK_MEDIA_STATUS_DOUBLE_FAULT 1).count R.CLK_DOUBLE_FAULT_COUNT
  let c := c.raise F.CLK_INT_STATUS_DOUBLE_FAULT
  { c with clk := { c.clk with fault := some 0, held := true, locked := false } }

/-- The followed reference trips: holdover under R81, or a double fault under R83. -/
def Core.refTrip (c : Core) (r : Nat) : Core :=
  if r = 0 ∨ r ≠ c.clk.follow then c
  else
    let c := { c with clk := { c.clk with locked := false } }
    if !c.clk.mediaOn then c
    else if !c.flag F.CLK_MEDIA_STATUS_TCXO_QUALIFIED then (if c.clk.fault.isSome then c else c.doubleFault)
    else if c.f F.CLK_MEDIA_STATUS_STATE = 3 then c
    else
      let c := { c with clk := { c.clk with held := true } }
      ((c.setF F.CLK_MEDIA_STATUS_STATE 3).count R.CLK_HOLDOVER_COUNT).raise F.CLK_INT_STATUS_HOLDOVER_ENTER

/-- A reference has qualified: the DPLL leaves holdover and reads ACQUIRING (R79, R82). -/
def Core.refBack (c : Core) (r : Nat) : Core :=
  if r ≠ 0 ∧ r = c.clk.follow ∧ c.clk.mediaOn ∧ c.clk.fault.isNone ∧ c.f F.CLK_MEDIA_STATUS_STATE = 3 then
    let c := { c with clk := { c.clk with held := false, locked := false } }
    (c.setF F.CLK_MEDIA_STATUS_STATE 1).raise F.CLK_INT_STATUS_HOLDOVER_EXIT
  else c

/-- The DPLL declares lock on the reference it follows (R79). -/
def Core.dpllLock (c : Core) : Core := { c with clk := { c.clk with locked := true, held := false } }.showState

/-! ### The PTP counter -/

/-- TIME cycles pass: the counter adds 4 ns plus TIME_RATE each (R104). -/
def Core.pass (c : Core) (k : Nat) : Core :=
  let r := signed 32 (c.get R.TIME_RATE).toNat
  let t := (c.time.ptp : Int) + (k : Int) * (4 * 2 ^ 32 + r)
  { c with time := { c.time with ptp := t.toNat, cycles := c.time.cycles + k } }

/-- The first edge number of a periodic program still to come at a time in ns (R115). -/
def Pulse.firstAt (p : Pulse) (ns : Nat) : Nat :=
  if ns ≤ p.start ∨ p.period = 0 then 0 else ceilDiv (ns - p.start) p.period

/-- What a step of the counter does to a live pulse program (R116). -/
def Core.pulseStep (c : Core) (i : Nat) (old : Nat) : Core :=
  match smGet (fun _ => none) c.time.pulses i with
  | none => c
  | some p =>
    let new := c.ptpNs
    let skipped := decide (old < p.start + p.next * p.period ∧ p.start + p.next * p.period < new)
    let c := if skipped then
        (c.setF (F.TIME_PULSE_STATUS_SKIPPED i) 1).raise F.TIME_INT_STATUS_PULSE_FAULT
      else c
    let q := if p.periodic then some { p with next := p.firstAt new }
      else if skipped then (if p.high.isSome then some { p with stopping := true } else none) else some p
    let c := if q.isNone then c.setF (F.TIME_PULSE_CTRL_ARM i) 0 else c
    { c with time := { c.time with pulses := smSet (fun _ => none) c.time.pulses i q } }

/-- The counter steps by a signed amount in units of 2⁻¹⁶ ns (R108, R110 to R112, R116). -/
def Core.stepCounter (c : Core) (d : Int) : Core :=
  let old := c.ptpNs
  let c := (List.range 4).foldl (fun (c : Core) p => c.gateStep p) c
  let c := { c with time := { c.time with ptp := ((c.time.ptp : Int) + d * 2 ^ 16).toNat, known := true } }
  let c := if c.clk.mediaStarted then
      (c.count R.TIME_STEP_COUNT).setF F.TIME_STATUS_EPOCH (c.f F.TIME_STATUS_EPOCH + 1)
    else c
  let c := c.raise F.TIME_INT_STATUS_STEPPED
  (List.range 4).foldl (fun c i => c.pulseStep i old) c

/-- TIME_STEP_LIMIT in units of 2⁻¹⁶ ns. -/
def Core.stepLimit (c : Core) : Int := (c.f F.TIME_STEP_LIMIT_LIMIT : Int) * 65536

/-- TIME_STATUS.STATE as the rules of R106, R109 and R112 give it. -/
def Core.showTime (c : Core) : Core :=
  let states := [0, 1, 3].map fun p => (smGet (fun _ => ({} : PtpPort)) c.time.ports p).state
  let v :=
    if c.houseSync then 7
    else if !c.flag F.TIME_CTRL_EN then 0
    else if c.flag F.TIME_STATUS_JUMP_REFUSED then 4
    else if c.time.active.isSome then
      (if c.time.lost then 4 else if c.f F.TIME_STATUS_STATE = 3 ∧ !c.time.checking then 3 else 2)
    else if PtpState.leader ∈ states then 5
    else if PtpState.passive ∈ states then 6
    else if c.time.lost then 4 else 1
  c.setF F.TIME_STATUS_STATE v

/-- A step larger than the limit is refused (R109). -/
def Core.refuseStep (c : Core) (off : Int) : Core :=
  let c := { c with time := { c.time with refused := off, checking := false, sums := [] } }
  let was := c.flag F.TIME_STATUS_JUMP_REFUSED
  let c := if was then c else
    ((c.setF F.TIME_STATUS_JUMP_REFUSED 1).count R.TIME_STEP_REFUSED_COUNT).raise F.TIME_INT_STATUS_JUMP_REFUSED
  c.showTime.showState

/-- A step by −offset that is taken: JUMP_REFUSED clears and the servo steers again (R108, R109). -/
def Core.takeStep (c : Core) (off : Int) : Core :=
  let c := c.stepCounter (-off)
  let c := { c with time := { c.time with checking := false, sums := [], lost := false, refused := 0 } }
  (c.setF F.TIME_STATUS_JUMP_REFUSED 0).showTime

/-- The step check (R108) on an average offset. -/
def Core.stepCheck (c : Core) (avg : Int) : Core :=
  if !c.clk.mediaStarted ∨ avg.natAbs ≤ c.stepLimit.natAbs then (c.takeStep avg).refBack 1 else c.refuseStep avg

/-- PTP loss is declared (R106): TIME_RATE freezes, and the DPLL enters holdover or the double fault. -/
def Core.ptpLoss (c : Core) : Core :=
  let c := { c with time := { c.time with lost := true, checking := true, sums := [], outliers := 0 } }
  let c := ((c.count R.TIME_PTP_LOSS_COUNT).raise F.TIME_INT_STATUS_PTP_LOSS).showTime
  c.refTrip 1

/-! ### Leaders and the BMCA (R96 to R100) -/

/-- The state of a PTP port. -/
def Core.ptpPort (c : Core) (p : Nat) : PtpPort := smGet (fun _ => {}) c.time.ports p

/-- A PTP port changes. -/
def Core.setPtpPort (c : Core) (p : Nat) (x : PtpPort) : Core :=
  { c with time := { c.time with ports := smSet (fun _ => {}) c.time.ports p x } }

/-- Whether PTP runs on a port (R98): P0, P1 and P3 with EN and PORT_EN set. -/
def Core.ptpOn (c : Core) (p : Nat) : Bool :=
  (p = 0 || p = 1 || p = 3) && c.flag F.TIME_CTRL_EN && bitOf (c.get R.TIME_CTRL) (4 + p)

/-- Whether a message's domain is the module's (R96). -/
def Core.domainOk (c : Core) (d : Nat) : Bool := d = min 127 (c.f F.TIME_CTRL_DOMAIN)

/-- The accepted range of logAnnounceInterval (R96). -/
def Core.clampInterval (c : Core) (i : Int) : Int :=
  if c.f F.TIME_CTRL_PROFILE = 0 then clampInt (-3) 1 i else clampInt (-2) 2 i

/-- TIME cycles in 2^i seconds. -/
def logCycles (i : Int) : Nat := 250000000 * 2 ^ (i + 8).toNat / 256

/-- The dataset comparison of the default BMCA: whether the first dataset is better (IEEE 1588-2019, 9.3). -/
def betterKey : List Nat → List Nat → Bool
  | a :: s, b :: t => if a < b then true else if b < a then false else betterKey s t
  | _, _ => false

/-- The dataset of a leader in the order of comparison. -/
def leaderKey (l : Leader) : List Nat := [l.prio1, l.cls, l.accuracy, l.variance, l.prio2, l.gm, l.steps, l.sender]

/-- The clockClass the module advertises (R100). -/
def Core.ownClass (c : Core) : Nat :=
  if c.f F.CLK_REF_CTRL_TYPE = 1 ∧ c.flag F.CLK_MEDIA_STATUS_REF_QUALIFIED ∧ c.flag F.TIME_LEADER_CFG_TRACEABLE then 6
  else if c.clk.wasTraceable then 7 else 248

/-- The module's own dataset in the order of comparison. -/
def Core.ownKey (c : Core) : List Nat :=
  [c.f F.TIME_LEADER_CFG_PRIORITY1, c.ownClass, Config.ptpAccuracy.toNat, Config.ptpVariance.toNat,
    c.f F.TIME_LEADER_CFG_PRIORITY2, Config.ptpIdentity.toNat, 0, Config.ptpIdentity.toNat]

/-- The best qualified leader of a list. -/
def bestLeader (l : List Leader) : Option Leader :=
  (l.filter (·.qualified)).foldl (fun b x =>
    match b with
    | none => some x
    | some y => if betterKey (leaderKey x) (leaderKey y) then some x else some y) none

/-- The port the module prefers: PREF_PORT, 2 being P0 (R98). -/
def Core.prefPort (c : Core) : Nat := let p := c.f F.TIME_CTRL_PREF_PORT; if p = 2 then 0 else p

/-- The active port (R98): the follower with the best leader, P3 only when neither P0 nor P1 follows. -/
def Core.pickActive (c : Core) : Option Nat :=
  let fol := fun p => (c.ptpPort p).state = .follower && (c.ptpPort p).leader.isSome
  let key := fun p => ((c.ptpPort p).leader.map leaderKey).getD []
  if fol 0 ∧ fol 1 then
    if betterKey (key 0) (key 1) then some 0 else if betterKey (key 1) (key 0) then some 1
    else if c.prefPort = 1 then some 1 else some 0
  else if fol 0 then some 0 else if fol 1 then some 1 else if fol 3 then some 3 else none

/-- The active port and its leader are chosen again: a move or a change of leader is a leader change, after which a step
check is made; so is the first acquisition (R98, R108). -/
def Core.chooseActive (c : Core) (was : Option (Nat × Option Leader)) : Core :=
  let now := c.pickActive
  let c := { c with time := { c.time with active := now } }
  match now with
  | none => c.showTime
  | some p =>
    let l := (c.ptpPort p).leader
    let id := (l.map (·.gm)).getD 0
    let c := (c.setF F.TIME_STATUS_ACTIVE_PORT p).put64 R.TIME_LEADER_ID_LO R.TIME_LEADER_ID_HI id
    let same : Bool := match was with
      | some (q, some m) => q = p && decide ((l.map fun x => (x.gm, x.sender)) = some (m.gm, m.sender))
      | _ => false
    if same then c.showTime
    else
      let c := if was.isSome then (c.count R.TIME_LEADER_CHANGE_COUNT).raise F.TIME_INT_STATUS_LEADER_CHANGE else c
      { c with time := { c.time with checking := true, sums := [], outliers := 0 } }.showTime

/-- The active port with its leader. -/
def Core.activeLeader (c : Core) : Option (Nat × Option Leader) := c.time.active.map fun p => (p, (c.ptpPort p).leader)

/-- The module leads on one port at most: PREF_PORT, or else the lowest; the others are passive (R99). -/
def Core.oneLeader (c : Core) : Core :=
  let ls := [0, 1, 3].filter fun p => (c.ptpPort p).state = .leader
  let keep := if c.prefPort ∈ ls then c.prefPort else ls.headD 9
  ls.foldl (fun c p => if p = keep then c else c.setPtpPort p { c.ptpPort p with state := .passive }) c

/-- The state decision of a port (R96, R99). -/
def Core.decidePort (c : Core) (p : Nat) : Core :=
  let x := c.ptpPort p
  match bestLeader x.foreign with
  | none => c
  | some l =>
    if c.flag F.TIME_CTRL_FOLLOWER_ONLY ∨ betterKey (leaderKey l) c.ownKey then
      let same := x.leader.map (·.sender) = some l.sender
      c.setPtpPort p (if same then { x with state := .follower, leader := some l }
        else { x with state := .follower, leader := some l, sync := none, down := none, req := none, mpd := none })
    else (c.setPtpPort p { x with state := .leader, leader := none }).oneLeader

/-- An Announce message is taken (R96, R98): the foreign leader is recorded, qualified by its second Announce within 4
announce intervals, and the port decides its state. -/
def ptpAnnounceReceive (p domain : Nat) (l0 : Leader) (c : Core) : Core :=
  c.passFrame p 1 fun c =>
  if !c.ptpOn p ∨ !c.domainOk domain ∨ l0.sender = Config.ptpIdentity.toNat then c
  else
    let x := c.ptpPort p
    let iv := c.clampInterval l0.interval
    let now := c.time.cycles
    let fresh := fun (y : Leader) => now - y.at_ ≤ 4 * logCycles y.interval
    let old := x.foreign.find? (·.sender = l0.sender)
    let q := match old with
      | some y => y.qualified || fresh y
      | none => false
    let l := { l0 with interval := iv, at_ := now, qualified := q }
    let was := c.activeLeader
    let keep := x.foreign.filter fun y => y.sender ≠ l0.sender && (fresh y || x.leader.map (·.sender) = some y.sender)
    let c := c.setPtpPort p { x with foreign := keep ++ [l] }
    (c.decidePort p).chooseActive was

/-- The announce receipt timeout expires on a port (R96, R99, R106). -/
def announceReceiptTimeout (p : Nat) (c : Core) : Core :=
  if !c.ptpOn p then c
  else
    let x := c.ptpPort p
    let was := c.activeLeader
    let lead := !c.flag F.TIME_CTRL_FOLLOWER_ONLY
    let gone := x.leader.map (·.sender)
    let x := { x with state := if lead then .leader else .listening, leader := none, sync := none, down := none,
                      req := none, mpd := none, foreign := x.foreign.filter fun y => some y.sender ≠ gone }
    let c := (c.setPtpPort p x).oneLeader
    let c := if was.map (·.1) = some p then c.chooseActive was else c.showTime
    if was.map (·.1) = some p ∧ c.time.active.isNone ∧ !c.time.lost then c.ptpLoss else c

/-- The PTP state machine of a port starts again after a reset of the port (R85, R128). -/
def Core.ptpRestart (c : Core) (p : Nat) : Core :=
  let was := c.activeLeader
  let c := (c.setPtpPort p {}).oneLeader
  let c := if was.map (·.1) = some p then c.chooseActive was else c.showTime
  if was.map (·.1) = some p ∧ c.time.active.isNone ∧ !c.time.lost then c.ptpLoss else c

/-- No Sync has been accepted on the active port for 1 s (R106). -/
def syncTimeout (c : Core) : Core := if c.time.active.isSome ∧ !c.time.lost then c.ptpLoss else c

/-! ### Measurements (R101 to R109) -/

/-- A register read as a signed amount of 2⁻¹⁶ ns. -/
def Core.signedReg (c : Core) (r : Nat) : Int := signed 32 (c.get r).toNat

/-- The steepest TIME_RATE, ±100 ppm of 4 ns, in units of 2⁻³² ns per cycle (R104). -/
def rateLimit : Nat := 1717986

/-- TIME_RATE takes a value that the servo chooses within ±100 ppm: the spec does not give the servo's law (R104). -/
def Core.servoRate (c : Core) : Core :=
  let x := c.free
  x.2.put R.TIME_RATE (.ofNat 32 (unsigned 32 (((x.1 % (2 * rateLimit + 1) : Nat) : Int) - rateLimit)))

/-- A measurement of the active port is used (R103 to R109). -/
def Core.measured (c : Core) (off : Int) : Core :=
  let c := c.put64 R.TIME_OFFSET_LO R.TIME_OFFSET_HI (unsigned 64 off)
  if c.houseSync then c
  else if c.time.checking then
    let s := c.time.sums ++ [off]
    if s.length < 4 then { c with time := { c.time with sums := s } }
    else
      let c := { c with time := { c.time with sums := [] } }
      c.stepCheck (s.foldl (· + ·) 0 / 4)
  else if c.flag F.TIME_STATUS_JUMP_REFUSED then
    let s := c.time.sums ++ [off]
    let c := { c with time := { c.time with refused := off, sums := if s.length < 4 then s else s.drop 1 } }
    let avg := s.foldl (· + ·) 0 / 4
    if 4 ≤ s.length ∧ avg.natAbs ≤ c.stepLimit.natAbs then (c.takeStep avg).refBack 1 else c
  else if c.f F.TIME_STATUS_STATE = 3 ∧ off.natAbs > c.stepLimit.natAbs then
    let c := c.count R.TIME_OUTLIER_COUNT
    let c := { c with time := { c.time with outliers := c.time.outliers + 1 } }
    if c.time.outliers ≥ 8 then c.ptpLoss else c
  else { c with time := { c.time with outliers := 0 } }.servoRate

/-- t2 − t1 of a complete Sync is known: with a mean path delay it makes a measurement (R103). -/
def Core.syncDone (c : Core) (p : Nat) (down : Int) : Core :=
  let x := c.ptpPort p
  let c := c.setPtpPort p { x with sync := none, down := some down }
  match x.mpd with
  | some m => if c.time.active = some p then c.measured (down - m - c.signedReg (R.TIME_PORT_ASYM p)) else c
  | none => c

/-- A Sync of the port's leader is taken (R97, R101, R102). Times are in units of 2⁻¹⁶ ns. -/
def ptpSyncReceive (p domain sender seq : Nat) (twoStep : Bool) (t1 corr t2 : Int) (c : Core) : Core :=
  c.passFrame p 1 fun c =>
  let x := c.ptpPort p
  if !c.ptpOn p ∨ !c.domainOk domain ∨ x.state ≠ .follower ∨ x.leader.map (·.sender) ≠ some sender then c
  else
    let c := c.countW R.TIME_SYNC_RX_COUNT 1
    let z := c.ptpSmudge p
    let c := z.2
    let t2 := t2 - c.signedReg (R.TIME_PORT_INGRESS p) + z.1
    if twoStep then c.setPtpPort p { x with sync := some (seq, t2, corr) } else c.syncDone p (t2 - t1 - corr)

/-- A Follow_Up supplies t1 of the Sync that waits for it (R97). -/
def ptpFollowUpReceive (p domain sender seq : Nat) (t1 corr : Int) (c : Core) : Core :=
  c.passFrame p 1 fun c =>
  let x := c.ptpPort p
  if !c.ptpOn p ∨ !c.domainOk domain ∨ x.state ≠ .follower ∨ x.leader.map (·.sender) ≠ some sender then c
  else
    match x.sync with
    | some (s, t2, cs) => if s = seq then c.syncDone p (t2 - t1 - cs - corr) else c
    | none => c

/-- A Delay_Req leaves a following port, and its departure is timestamped (R96, R101, R102). -/
def ptpDelayReqSend (p : Nat) (t3 : Int) (c : Core) : Core :=
  let x := c.ptpPort p
  if !c.ptpOn p ∨ x.state ≠ .follower then c
  else
    let c := c.setPtpPort p { x with req := some (x.reqSeq, t3 + c.signedReg (R.TIME_PORT_EGRESS p)), reqSeq := x.reqSeq + 1 }
    c.queueFrame p { cls := 7, len := 86, msg := .frame p 7 "PTP Delay_Req" [x.reqSeq] }

/-- A Delay_Resp supplies t4 and the interval of the leader: the mean path delay follows (R96, R103). -/
def ptpDelayRespReceive (p domain sender seq : Nat) (t4 corr interval : Int) (c : Core) : Core :=
  c.passFrame p 1 fun c =>
  let x := c.ptpPort p
  if !c.ptpOn p ∨ !c.domainOk domain ∨ x.leader.map (·.sender) ≠ some sender then c
  else
    match x.req, x.down with
    | some (s, t3), some down =>
      if s ≠ seq then c
      else
        let mpd := (down + (t4 - corr - t3)) / 2
        let c := c.setPtpPort p { x with req := none, mpd := some mpd, reqInterval := max (-3) interval }
        if c.time.active = some p then c.put R.TIME_MPD (.ofNat 32 (unsigned 32 mpd)) else c
    | _, _ => c

/-- As leader, the module timestamps a Delay_Req and answers it with the corrected time of arrival (R97, R101, R102). -/
def ptpDelayReqReceive (p domain sender seq : Nat) (t4 : Int) (c : Core) : Core :=
  c.passFrame p 1 fun c =>
  if !c.ptpOn p ∨ !c.domainOk domain ∨ (c.ptpPort p).state ≠ .leader then c
  else
    let z := c.ptpSmudge p
    let t4 := t4 - c.signedReg (R.TIME_PORT_INGRESS p) + z.1
    z.2.queueFrame p { cls := 7, len := 96, msg := .frame p 7 "PTP Delay_Resp" [sender, seq, unsigned 80 t4] }

/-- As leader, the module advertises its dataset (R100). -/
def ptpAnnounceSend (p : Nat) (c : Core) : Core :=
  let x := c.ptpPort p
  if !c.ptpOn p ∨ x.state ≠ .leader then c
  else
    let c := c.setPtpPort p { x with annSeq := x.annSeq + 1 }
    c.queueFrame p { cls := 7, len := 106, msg := .frame p 7 "PTP Announce" (x.annSeq :: c.ownKey ++ [if c.ownClass ≤ 7 then 0x20 else 0xA0]) }

/-- As leader, the module sends a two-step Sync, then a Follow_Up with its corrected time of departure (R97, R101, R102). -/
def ptpSyncSend (p : Nat) (t1 : Int) (c : Core) : Core :=
  let x := c.ptpPort p
  if !c.ptpOn p ∨ x.state ≠ .leader then c
  else
    let c := c.setPtpPort p { x with syncSeq := x.syncSeq + 1 }
    (c.queueFrame p { cls := 7, len := 86, msg := .frame p 7 "PTP Sync" [x.syncSeq] }).queueFrame p
      { cls := 7, len := 86, msg := .frame p 7 "PTP Follow_Up" [x.syncSeq, unsigned 80 (t1 + c.signedReg (R.TIME_PORT_EGRESS p))] }

/-- The filtered offset has stayed within ±200 ns for 2 s: LOCKED, which is also the DPLL's lock under PTP (R79, R105). -/
def servoLock (c : Core) : Core :=
  if c.f F.TIME_STATUS_STATE = 2 ∧ c.refQualified 1 then
    let c := (c.setF F.TIME_STATUS_STATE 3).raise F.TIME_INT_STATUS_LOCKED
    if c.clk.follow = 1 then c.dpllLock else c
  else c

/-- The filtered offset has exceeded ±1 µs for 1 s: the servo leaves LOCKED (R105). -/
def servoUnlock (c : Core) : Core := if c.f F.TIME_STATUS_STATE = 3 then c.setF F.TIME_STATUS_STATE 2 else c

/-! ### Accepting a step (R109 to R111) -/

/-- Outputs begin a fade that ends at sample b (R88, R111, R135). -/
def Core.fadeTo (c : Core) (b : Nat) : Core :=
  let g := c.glaze
  { c with clk := { c.clk with gate := if c.clk.gate = .zero then .zero else .fadeOut (b - g) g,
                               dpGate := if c.clk.dpGate = .zero then .zero else .fadeOut (b - g) g, fadeInAt := none } }

/-- An accept of the refused step, with JUMP_REFUSED set (R110): `none` where SLEW is refused. -/
def Core.acceptStep (c : Core) (slew : Bool) : Option Core :=
  let off := c.time.refused
  if !c.clk.mediaOn then some (c.takeStep off)
  else if slew then (if off.natAbs > 1000000 * 65536 then none else some ((c.takeStep off).refBack 1))
  else
    let b := c.anchorB
    some ({ c with time := { c.time with realign := some { b := b, offset := off } } }.fadeTo b)

/-- A write of TIME_STEP_ACCEPT (R109, R110): a GO while JUMP_REFUSED is clear or a re-alignment is scheduled is ignored. -/
def stepAcceptWrite (m : Nat) (v : Word) (c : Core) : Core :=
  c.busWrite ⟨m, R.TIME_STEP_ACCEPT, v⟩ 0x80000000 fun c =>
    if bitOf v 31 ∧ c.flag F.TIME_STATUS_JUMP_REFUSED ∧ c.time.realign.isNone then
      match c.acceptStep (c.flag F.TIME_STEP_ACCEPT_MODE) with
      | none => c.setF F.TIME_STEP_ACCEPT_REFUSED 1
      | some c => if c.time.realign.isSome then c.setF F.TIME_STEP_ACCEPT_GO 1 else c
    else c

/-- The moment at which sample n starts, in units of 2⁻³² ns, rounded up (R113). -/
def Core.ptpOfCount (c : Core) (n : Nat) : Nat := ceilDiv (n * (10 ^ 9 * 2 ^ 32)) c.fsHz

/-- The re-alignment at anchor B (R111, R151, R223): the counter steps, the MEDIA domain stops and restarts at the first
epoch-aligned block at least one block later (R544), whose number the media sample counter takes. -/
def realignment (c : Core) : Core :=
  match c.time.realign with
  | none => c
  | some r =>
    if !c.clk.mediaOn ∨ c.time.n < r.b then c
    else
      let c := c.mediaJump.cutAudio
      let c := c.takeStep r.offset
      let n := c.boundaryAt (c.countOfPtp + c.blk)
      let c := { c with time := { c.time with n := n, ptp := max c.time.ptp (c.ptpOfCount n), realign := none } }
      let c := (c.mediaRestart n).refBack 1
      let c := (c.setF F.TIME_STEP_ACCEPT_GO 0).setF F.TIME_STATUS_REALIGNED 1
      let held := c.flag F.SYS_STATUS_OUTPUT_HELD
      { c with clk := { c.clk with fadeInAt := some (n + 4 * c.blk), dpGate := if held then .zero else .fadeIn n c.glaze,
                                   dpCut := held } }

/-! ### Configuration (R106, R120) -/

/-- Ports whose enable is taken away leave PTP; newly enabled ones listen (R98, R106). -/
def Core.timeCtrlChanged (c : Core) : Core :=
  let was := c.activeLeader
  let c := [0, 1, 3].foldl (fun c p =>
    if c.ptpOn p then
      let x := c.ptpPort p
      if c.flag F.TIME_CTRL_FOLLOWER_ONLY ∧ (x.state = .leader ∨ x.state = .passive) then
        c.setPtpPort p { x with state := .listening }
      else c
    else c.setPtpPort p {}) c
  let c := c.oneLeader
  match was with
  | none => c.showTime
  | some (p, _) =>
    let c := c.chooseActive was
    if c.time.active.isNone ∧ !c.ptpOn p then
      let c := if c.dref = 1 ∧ !c.time.lost then c.ptpLoss else c
      let c := { c with time := { c.time with lost := false, checking := true, sums := [] } }
      c.showTime
    else c

/-- A write of TIME_CTRL (R98, R106). -/
def timeCtrlWrite (m : Nat) (v : Word) (c : Core) : Core :=
  c.busWrite ⟨m, R.TIME_CTRL, v⟩ 0 Core.timeCtrlChanged

/-- Whether a word sets no bit outside a mask. -/
def noReserved (w : Word) (mask : Nat) : Bool := w &&& ~~~(.ofNat 32 mask) = 0

/-- Easel 0x0120 (R120). -/
def timeConfigBody : Body := fun c r =>
  if !noReserved (r.w 0) 0x00FF03F7 ∨ !noReserved (r.w 1) 0x3FFFFFFF ∨ !noReserved (r.w 2) 0x0001FFFF then ans c .badParam
  else
    let c := (c.put R.TIME_CTRL (r.w 0)).put R.TIME_STEP_LIMIT (c.fixWrite R.TIME_STEP_LIMIT 0 (r.w 1))
    let c := c.put R.TIME_LEADER_CFG (r.w 2)
    let c := (List.range 4).foldl (fun c n => c.put (R.TIME_PORT_ASYM n) (r.w (3 + n))) c
    ans c.timeCtrlChanged .ok

/-- The seven TIME_NOW words: counter, EPOCH, media sample counter and sample phase of one TIME cycle (R119). -/
def Core.timeNow (c : Core) : List Nat :=
  let t := c.time.ptp
  let ns := t / 2 ^ 32
  let sec := ns / 10 ^ 9
  let n := if c.clk.mediaOn then max c.time.n c.countOfPtp else c.time.n
  let ph := t * c.fsHz * 65536 / (10 ^ 9 * 2 ^ 32) % 65536
  [t / 2 ^ 16 % 65536, ns % 10 ^ 9, sec % 2 ^ 32, sec / 2 ^ 32 % 65536 + c.f F.TIME_STATUS_EPOCH * 65536,
    n % 2 ^ 32, n / 2 ^ 32, ph]

/-- Easel 0x0121 (R120). -/
def timeStatusBody : Body := fun c _ =>
  okW c ([R.TIME_STATUS, R.TIME_OFFSET_LO, R.TIME_OFFSET_HI, R.TIME_MPD, R.TIME_LEADER_ID_LO,
    R.TIME_LEADER_ID_HI].map (fun r => (c.get r).toNat) ++ c.timeNow)

/-- Easel 0x0122 (R110, R120). -/
def timeStepAcceptBody : Body := fun c r =>
  if !c.flag F.TIME_STATUS_JUMP_REFUSED ∨ c.time.realign.isSome then ans c .notPermitted
  else
    let slew := bitOf (r.w 0) 0
    match (c.setB F.TIME_STEP_ACCEPT_MODE slew).acceptStep slew with
    | none => ans c .outOfRange
    | some c => ans c .ok

/-- Easel 0x0123 (R112, R120): while MEDIA runs, the change is a checked step. -/
def timeSetBody : Body := fun c r =>
  if c.f F.TIME_STATUS_STATE = 3 then ans c .notPermitted
  else if r.n 2 ≥ 10 ^ 9 ∨ r.n 1 ≥ 65536 then ans c .outOfRange
  else
    let sec := r.n 0 + r.n 1 * 2 ^ 32
    let new : Nat := (sec * 10 ^ 9 + r.n 2) * 65536
    let d := (new : Int) - (c.time.ptp / 65536 : Nat)
    let c := { c with time := { c.time with setSec := some sec } }
    if c.clk.mediaOn ∧ d.natAbs > c.stepLimit.natAbs then ans (c.refuseStep (-d)) .ok
    else ans (c.stepCounter d) .ok

/-- The backup time counter copies the PTP seconds once per second while the TIME block runs (R114). -/
def backupTimeCopy (c : Core) : Core :=
  if !c.clk.pllOn ∨ c.gated R.TIME_STATUS then c
  else
    let s := c.ptpNs / 10 ^ 9
    ((c.put R.SYS_BACKUP_SEC_LO (.ofNat 32 s)).setF F.SYS_BACKUP_SEC_HI_SEC (s / 2 ^ 32)).setF F.SYS_BACKUP_SEC_HI_VALID 1

/-! ### Timed pulses (R115, R116) -/

/-- ARM: the staged program becomes live, or BAD_PROGRAM or LATE is set (R115, R116). -/
def Core.armPulse (c : Core) (i : Nat) : Core :=
  let periodic := c.flag (F.TIME_PULSE_CTRL_MODE i)
  let width := c.f (F.TIME_PULSE_WIDTH_NS_WIDTH i)
  let period := (c.get (R.TIME_PULSE_PERIOD_NS i)).toNat
  let sec := (c.get (R.TIME_PULSE_START_SEC_LO i)).toNat + c.f (F.TIME_PULSE_START_SEC_HI_SEC i) * 2 ^ 32
  let start := sec * 10 ^ 9 + (c.get (R.TIME_PULSE_START_NS i)).toNat
  let good := 20 ≤ width ∧ width ≤ 10 ^ 9 ∧
    (periodic → 100 ≤ period ∧ period ≤ 4294000000 ∧ width + 20 < period)
  if ¬good then (c.setF (F.TIME_PULSE_STATUS_BAD_PROGRAM i) 1).raise F.TIME_INT_STATUS_PULSE_FAULT
  else if !periodic ∧ start * 2 ^ 32 < c.time.ptp then
    (c.setF (F.TIME_PULSE_STATUS_LATE i) 1).raise F.TIME_INT_STATUS_PULSE_FAULT
  else
    let high := (smGet (fun _ => none) c.time.pulses i).bind (·.high)
    let p : Pulse := { periodic := periodic, start := start, period := period, width := width, next := 0, high := high,
                       stopping := false }
    let p := if periodic then { p with next := p.firstAt (ceilDiv c.time.ptp (2 ^ 32)) } else p
    let c := { c with time := { c.time with pulses := smSet (fun _ => none) c.time.pulses i (some p) } }
    c.setF (F.TIME_PULSE_CTRL_ARM i) 1

/-- The live program of a pulse changes. -/
def Core.setPulse (c : Core) (i : Nat) (p : Option Pulse) : Core :=
  let c := { c with time := { c.time with pulses := smSet (fun _ => none) c.time.pulses i p } }
  if p.isNone then c.setF (F.TIME_PULSE_CTRL_ARM i) 0 else c

/-- STOP: the pulse disarms at the end of the current pulse. -/
def Core.stopPulse (c : Core) (i : Nat) : Core :=
  match smGet (fun _ => none) c.time.pulses i with
  | none => c
  | some p => if p.high.isSome then c.setPulse i (some { p with stopping := true }) else c.setPulse i none

/-- A write of TIME_PULSEn_CTRL (R115). -/
def pulseCtrlWrite (m i : Nat) (v : Word) (c : Core) : Core :=
  if i ≥ 4 then c
  else c.busWrite ⟨m, R.TIME_PULSE_CTRL i, v⟩ 5 fun c =>
    let c := if bitOf v 0 then c.armPulse i else c
    if bitOf v 2 then c.stopPulse i else c

/-- The counter reaches the next edge of a live program: the output rises, or falls after WIDTH (R115, R116). -/
def pulseEdge (i : Nat) (c : Core) : Core :=
  match smGet (fun _ => none) c.time.pulses i with
  | none => c
  | some p =>
    match p.high with
    | some t =>
      let c := { c with time := { c.time with ptp := max c.time.ptp (t * 2 ^ 32) } }
      let c := c.send (.pin "PULSE" i false)
      c.setPulse i (if p.stopping ∨ (!p.periodic ∧ p.next > 0) then none else some { p with high := none })
    | none =>
      let t := p.start + p.next * p.period
      let c := { c with time := { c.time with ptp := max c.time.ptp (t * 2 ^ 32) } }
      (c.send (.pin "PULSE" i true)).setPulse i (some { p with next := p.next + 1, high := some (t + p.width) })

/-- Easel 0x0124 (R120). -/
def pulseProgramBody : Body := fun c r =>
  let i := r.n 0
  if i > 3 ∨ !noReserved (r.w 1) 7 ∨ !noReserved (r.w 4) 0xFFFF ∨ !noReserved (r.w 6) 0x3FFFFFFF then ans c .badParam
  else
    let c := c.setB (F.TIME_PULSE_CTRL_MODE i) (bitOf (r.w 1) 1)
    let c := ((c.put (R.TIME_PULSE_START_NS i) (r.w 2)).put (R.TIME_PULSE_START_SEC_LO i) (r.w 3)).put
      (R.TIME_PULSE_START_SEC_HI i) (r.w 4)
    let c := (c.put (R.TIME_PULSE_PERIOD_NS i) (r.w 5)).put (R.TIME_PULSE_WIDTH_NS i) (r.w 6)
    let bad := c.flag (F.TIME_PULSE_STATUS_BAD_PROGRAM i)
    let c := c.setF (F.TIME_PULSE_STATUS_BAD_PROGRAM i) 0
    let c := if bitOf (r.w 1) 0 then c.armPulse i else c
    if c.flag (F.TIME_PULSE_STATUS_BAD_PROGRAM i) then ans c .badParam
    else
      let c := c.setB (F.TIME_PULSE_STATUS_BAD_PROGRAM i) bad
      ans (if bitOf (r.w 1) 2 then c.stopPulse i else c) .ok

/-! ### Time captures (R117, R118) -/

/-- The captures waiting on an input. -/
def Core.captures (c : Core) (i : Nat) : List Capture := smGet (fun _ => []) c.time.captures i

/-- The FIFO of an input changes, and FILL with it. -/
def Core.setCaptures (c : Core) (i : Nat) (l : List Capture) : Core :=
  { c with time := { c.time with captures := smSet (fun _ => []) c.time.captures i l } }.setF
    (F.TIME_TSIN_STATUS_FILL i) l.length

/-- An edge on TSINn, `off` samples and `phase` 65,536ths of a sample into the block (R117). -/
def tsinCapture (i : Nat) (rising : Bool) (off phase : Nat) (c : Core) : Core :=
  if i ≥ 2 ∨ !bitOf (c.get (R.TIME_TSIN_CTRL i)) (if rising then 0 else 1) then c
  else
    let l := c.captures i
    if l.length ≥ 16 then c.count (R.TIME_TSIN_OVERFLOW i)
    else
      let x : Capture := { time := c.time.ptp / 2 ^ 16, n := c.time.n + off % c.blk, phase := phase % 65536,
                           epoch := c.f F.TIME_STATUS_EPOCH }
      (c.setCaptures i (l ++ [x])).raiseIf l.isEmpty ⟨R.TIME_INT_STATUS, 5 + i, 5 + i⟩

/-- The seven shadow words of an entry (R118): frac, ns, seconds with EPOCH, PHASE_LO and VALID, media count, PHASE_HI. -/
def captureWords (x : Option Capture) (fill : Nat) : List Nat :=
  match x with
  | none => [0, 0, 0, 0, 0, 0, fill]
  | some x =>
    let ns := x.time / 65536
    let sec := ns / 10 ^ 9
    [x.time % 65536, ns % 10 ^ 9, sec % 2 ^ 32,
      sec / 2 ^ 32 % 65536 + x.epoch * 65536 + x.phase % 256 * 2 ^ 20 + 2 ^ 31, x.n % 2 ^ 32, x.n / 2 ^ 32,
      fill + x.phase / 256 * 256]

/-- The oldest entry leaves the FIFO. -/
def Core.popCapture (c : Core) (i : Nat) : Option Capture × Core :=
  match c.captures i with
  | [] => (none, c)
  | x :: t => (some x, c.setCaptures i t)

/-- A read of TIME_TSINn_TS_FRAC removes the oldest entry into the reader's shadow words (R118). -/
def tsinFifoPop (m i : Nat) (c : Core) : Core :=
  if i ≥ 2 then c
  else c.busRead m (R.TIME_TSIN_TS_FRAC i) fun c =>
    let x := c.popCapture i
    let ws := captureWords x.1 0
    let c := { x.2 with time := { x.2.time with popped := smSet (fun _ => none) x.2.time.popped (2 * m + i) x.1 } }
    (.ofNat 32 (ws.headD 0), c.putShadow m (R.TIME_TSIN_TS_FRAC i) ws)

/-- Up to n entries leave the FIFO, as words in FIFO order. -/
def Core.takeCaptures : Nat → Core → Nat → List Nat × Core
  | 0, c, _ => ([], c)
  | n + 1, c, i =>
    match c.popCapture i with
    | (none, c) => ([], c)
    | (some x, c) =>
      let r := Core.takeCaptures n c i
      (captureWords (some x) (c.captures i).length ++ r.1, r.2)

/-- Easel 0x0125 (R120). -/
def tsinReadBody : Body := fun c r =>
  if r.n 0 > 1 then ans c .badParam
  else if r.n 1 = 0 ∨ r.n 1 > 16 then ans c .outOfRange
  else let x := c.takeCaptures (r.n 1) (r.n 0); okW x.2 x.1

/-! ### The Easel opcodes of class 0x012x -/

def opTimeConfig : Opc := { code := 0x0120, len := (· = 28) }
def opTimeStatus : Opc := { code := 0x0121, len := (· = 0) }
def opTimeStepAccept : Opc := { code := 0x0122, len := (· = 4) }
def opTimeSet : Opc := { code := 0x0123, len := (· = 12) }
def opPulseProgram : Opc := { code := 0x0124, len := (· = 28) }
def opTsinRead : Opc := { code := 0x0125, len := (· = 8) }

end Sys2Proof.Machine
end

