-- ==== Sys2Proof/Machine/Clocks.lean ====
section
/-! DEFINITION. Clock domains, oscillators and clock supervision (chapter 3), and the power domains that clock enables wake
and lower (R90 to R92, R130 to R133). -/

namespace Sys2Proof.Machine

/-! ### The MEDIA domain -/

/-- The MEDIA domain runs from block n on: the first rendered block reaches the ports 5 blocks later (R83, R114, R121). -/
def Core.mediaRun (c : Core) (n : Nat) : Core :=
  let c := { c with time := { c.time with n := n } }
  let c := { c with clk := { c.clk with mediaOn := true, mediaStarted := true, frozen := false, fault := none } }
  ({ c with clk := { c.clk with fadeInAt := some (n + 5 * c.blk) } }.mediaRestart n).showState

/-- Engines that stand still outside standby and mute and hold start (R66, R135). -/
def Core.startIdle (c : Core) : Core :=
  if c.power.engineStop && decide (c.f F.SYS_STATUS_STATE = 1) && !c.flag F.SYS_STATUS_THERM_HOLD then c.startEngines c.time.n else c

/-- The MEDIA domain first starts (R75, R114): locked to a qualified reference, or free on a qualified TCXO. -/
def mediaStart (c : Core) : Core :=
  if c.clk.mediaStarted ∨ c.power.step < 11 ∨ !c.clk.pllOn then c
  else if (c.clk.locked && c.refQualified c.clk.follow) || c.flag F.CLK_MEDIA_STATUS_TCXO_QUALIFIED then
    let c := { c with power := { c.power with step := 12 } }
    (c.mediaRun (c.boundaryAt c.countOfPtp)).startIdle
  else c

/-- The TCXO qualifies (R74): `confirmed` where the drift condition is met. The MEDIA domain restarts after a double
fault, at the TCXO's nominal ratio (R83). -/
def tcxoQualify (confirmed : Bool) (c : Core) : Core :=
  if !c.clk.tcxoOk ∨ c.flag F.CLK_MEDIA_STATUS_TCXO_QUALIFIED then c
  else
    let r := c.refQualified c.dref
    let c := (c.setF F.CLK_MEDIA_STATUS_TCXO_QUALIFIED 1).raise F.CLK_INT_STATUS_TCXO_QUALIFIED
    let c := if r && !confirmed then c.setF F.CLK_MEDIA_STATUS_QUAL_UNCONFIRMED 1 else c
    let c := if c.clk.follow = c.dref then c else { c with clk := { c.clk with follow := c.dref, locked := false } }
    if c.clk.fault.isSome then
      let c := { c with clk := { c.clk with locked := false, held := true } }
      let c := (if c.clk.frozen then c else c.cutAudio).mediaRun (c.boundaryAt c.countOfPtp)
      (c.setF F.CLK_MEDIA_STATUS_STATE (if c.dref = 0 then 4 else 3)).refBack (if c.refQualified c.dref then c.dref else 0)
    else c.showState

/-! ### REF_IN (R76, R77, R112) -/

/-- Whether REF_IN is measured: EN is set and TYPE is one of 0 to 4. -/
def Core.refOn (c : Core) : Bool := c.flag F.CLK_REF_CTRL_EN && c.f F.CLK_REF_CTRL_TYPE ≤ 4

/-- A trip of REF_IN is declared, once until it has again been present and in window (R76). -/
def Core.refInTrip (c : Core) : Core :=
  if !c.clk.refGood then { c with clk := { c.clk with ppsEdges := 0 } }
  else
    let trace := c.clk.wasTraceable || c.ownClass = 6
    let c := (c.count R.CLK_REF_TRIP_COUNT).setF F.CLK_MEDIA_STATUS_REF_QUALIFIED 0
    let c := c.raise F.CLK_INT_STATUS_REF_TRIP
    { c with clk := { c.clk with refGood := false, ppsEdges := 0, wasTraceable := trace } }.refTrip 2

/-- REF_IN shows no edge for the loss interval of its TYPE (R76). -/
def refInLoss (c : Core) : Core := if c.refOn then (c.setF F.CLK_MEDIA_STATUS_REF_PRESENT 0).refInTrip else c

/-- A measurement interval of REF_IN ends with an offset in units of 0.001 ppm (R76); in house-sync 1PPS mode the
counter's nanoseconds roll to 0 at a qualified edge (R112). -/
def refInMeasurement (off : Int) (c : Core) : Core :=
  if !c.refOn then c
  else
    let c := (c.setF F.CLK_MEDIA_STATUS_REF_PRESENT 1).put R.CLK_REF_OFFSET (.ofNat 32 (unsigned 32 off))
    if off.natAbs ≤ c.f F.CLK_REF_CTRL_WINDOW * 10000 then
      let c := { c with clk := { c.clk with refGood := true, ppsEdges := c.clk.ppsEdges + 1 } }
      if c.houseSync ∧ c.f F.CLK_REF_CTRL_TYPE = 1 ∧ c.flag F.CLK_MEDIA_STATUS_REF_QUALIFIED then
        let s := (c.ptpNs + 500000000) / 10 ^ 9
        { c with time := { c.time with ptp := s * 10 ^ 9 * 2 ^ 32, known := true } }
      else c
    else c.refInTrip

/-- REF_IN has been present and in window for REF_QUAL_DELAY, for 1PPS after three consecutive good edges (R77, R82). -/
def refQualify (c : Core) : Core :=
  if c.refOn ∧ c.clk.refGood ∧ c.flag F.CLK_MEDIA_STATUS_REF_PRESENT ∧ !c.flag F.CLK_MEDIA_STATUS_REF_QUALIFIED ∧
      (c.f F.CLK_REF_CTRL_TYPE = 1 → 3 ≤ c.clk.ppsEdges) then
    let c := (c.setF F.CLK_MEDIA_STATUS_REF_QUALIFIED 1).raise F.CLK_INT_STATUS_REF_QUALIFIED
    c.refBack 2
  else c

/-- The phase error has stayed within ±50 ns for 1 s on a qualified reference (R79); under PTP the servo must be locked. -/
def dpllLockEvent (c : Core) : Core :=
  let r := c.clk.follow
  if r ≠ 0 ∧ c.refQualified r ∧ (r = 1 → c.f F.TIME_STATUS_STATE = 3) ∧ c.clk.fault.isNone then c.dpllLock else c

/-! ### CLK_MEDIA_CTRL (R79, R88, R89) -/

/-- DREF takes a value (R79, R112): the DPLL holds its averaged word until the new reference qualifies. -/
def Core.setDref (c : Core) (d : Nat) : Core :=
  if d = c.f F.CLK_MEDIA_CTRL_DREF then c
  else
    let c := c.setF F.CLK_MEDIA_CTRL_DREF d
    let c := if c.clk.mediaOn ∧ !c.flag F.CLK_MEDIA_STATUS_TCXO_QUALIFIED ∨ c.clk.follow = c.dref then c
      else { c with clk := { c.clk with follow := c.dref, locked := false, held := c.clk.mediaOn } }
    c.showState.showTime

/-- The issued combinations of FAMILY, MULT and LL (R89). -/
def rateIssued (family mult ll : Nat) : Bool := (mult = 0) || (family = 0 && mult ≤ 2 && ll = 0)

/-- FAMILY, MULT, LL and SRC of CLK_MEDIA_CTRL take values. -/
def Core.putRate (c : Core) (family mult ll src : Nat) : Core :=
  (((c.setF F.CLK_MEDIA_CTRL_FAMILY family).setF F.CLK_MEDIA_CTRL_MULT mult).setF F.CLK_MEDIA_CTRL_LL ll).setF
    F.CLK_MEDIA_CTRL_SRC src

/-- The live setting of the MEDIA domain changes. -/
def Core.liveRate (c : Core) (family mult ll src : Nat) : Core :=
  { c with clk := { c.clk with family := family, mult := mult, ll := ll, src := src } }

/-- A request for a setting of the MEDIA domain (R88): at once while it is stopped, else a switch at anchor B. -/
def Core.requestRate (c : Core) (family mult ll src : Nat) (tok : Option Tok) : Core :=
  let rate := family ≠ c.clk.family ∨ mult ≠ c.clk.mult ∨ ll ≠ c.clk.ll
  if !c.clk.mediaOn then
    let c := (c.putRate family mult ll src).liveRate family mult ll src
    if rate then c.mediaJump.rateChanged else c
  else
    let b := c.anchorB
    let c := (c.putRate family mult ll src).setF F.CLK_MEDIA_STATUS_SWITCH_PENDING 1
    { c with clk := { c.clk with sw := some { family := family, mult := mult, ll := ll, src := src, b := b, tok := tok } } }.fadeTo b

/-- A write of CLK_MEDIA_CTRL (R79, R88, R89): only firmware, master ports 0 to 3, writes FAMILY, MULT and LL. -/
def Core.mediaCtrlWrite (c : Core) (m : Nat) (v : Word) : Core :=
  c.busWrite ⟨m, R.CLK_MEDIA_CTRL, v⟩ 0x1F3 fun c =>
    let fw := m ≤ 3
    let family := if fw then bitsOf v 4 4 else c.f F.CLK_MEDIA_CTRL_FAMILY
    let mult := if fw then bitsOf v 7 6 else c.f F.CLK_MEDIA_CTRL_MULT
    let ll := if fw then bitsOf v 8 8 else c.f F.CLK_MEDIA_CTRL_LL
    let src := bitsOf v 5 5
    if (src = 1 ∧ family = 1) ∨ !rateIssued family mult ll then c.setF F.CLK_MEDIA_STATUS_BAD_REQUEST 1
    else
      let c := c.setDref (bitsOf v 1 0)
      let same := family = c.f F.CLK_MEDIA_CTRL_FAMILY ∧ mult = c.f F.CLK_MEDIA_CTRL_MULT ∧
        ll = c.f F.CLK_MEDIA_CTRL_LL ∧ src = c.f F.CLK_MEDIA_CTRL_SRC
      if same ∨ c.clk.sw.isSome then c else c.requestRate family mult ll src none

/-- A write of CLK_MEDIA_CTRL for its DREF (R79). -/
def drefWrite (m : Nat) (v : Word) (c : Core) : Core := c.mediaCtrlWrite m v

/-- A write of CLK_MEDIA_CTRL for its rate, mode and source (R88). -/
def mediaSwitchWrite (m : Nat) (v : Word) (c : Core) : Core := c.mediaCtrlWrite m v

/-- The MEDIA switch at anchor B: the domain stops, changes source and restarts; nothing is captured or delivered in this
block (R88, R89). -/
def mediaSwitch (c : Core) : Core :=
  match c.clk.sw with
  | none => c
  | some s =>
    if s.done ∨ c.time.n < s.b ∨ !c.clk.mediaOn then c
    else
      let rate := s.family ≠ c.clk.family ∨ s.mult ≠ c.clk.mult ∨ s.ll ≠ c.clk.ll
      let c := c.cutAudio
      let c := if rate then c.mediaJump else c
      let c := c.liveRate s.family s.mult s.ll s.src
      let c := if rate then c.rateChanged else c
      { c with clk := { c.clk with sw := some { s with done := true, rate := rate } } }.setF F.CLK_MEDIA_STATUS_STATE 6

/-- Step 3 of R88, one block after anchor B. -/
def Core.mediaSwitchEnd (c : Core) (s : MediaSwitch) : Core :=
  let n := if s.rate then c.boundaryAt c.countOfPtp else c.time.n
  let c := { c with time := { c.time with n := n }, clk := { c.clk with sw := none, fadeInAt := some n } }
  let c := (c.mediaRestart n).setF F.CLK_MEDIA_STATUS_SWITCH_PENDING 0
  let c := (c.raise F.CLK_INT_STATUS_MEDIA_SWITCH_DONE).showState
  c.notice? s.tok .ok []

/-! ### Monitors (R85) and CLK_SWITCH (R86, R87) -/

/-- A PLL_Sn loses lock: its network port is reset (R85). -/
def serdesPllLoss (p : Nat) (c : Core) : Core :=
  if p ≥ 4 then c else ((c.resetPort p).ptpRestart p).raise F.CLK_INT_STATUS_PLLS_FAULT

/-- PLL_H loses lock or PCIE_REFCLK stops: the host interface is reset (R85). -/
def hostClockLoss (c : Core) : Core := c.hostReset.sessionsGone.raise F.CLK_INT_STATUS_PLLS_FAULT

/-- The MEDIA monitor trips, which is handled as a trip of the selected reference (R85). -/
def mediaMonitorTrip (c : Core) : Core := (c.raise F.CLK_INT_STATUS_MEDIA_MON).refTrip c.clk.follow

/-- The AON monitor trips (R85). -/
def aonMonitorTrip (c : Core) : Core := (c.setF F.CLK_MEDIA_STATUS_AON_FAULT 1).raise F.CLK_INT_STATUS_AON_FAULT

/-- A write of CLK_SWITCH (R86, R87): only CTRL with SRC 0 or 1 is switched. -/
def clkSwitchGo (m : Nat) (v : Word) (c : Core) : Core :=
  c.busWrite ⟨m, R.CLK_SWITCH, v⟩ 0x80000000 fun c =>
    if !bitOf v 31 then c
    else if c.f F.CLK_SWITCH_DOMAIN ≠ 2 ∨ c.f F.CLK_SWITCH_SRC > 1 then c.setF F.CLK_SWITCH_REFUSED 1
    else { c with clk := { c.clk with ctrlSrc := c.f F.CLK_SWITCH_SRC } }

/-! ### Power domains (R130 to R133, R543) -/

/-- The CLK_EN bits that count for a power domain (R543). -/
def pdBlocks (n : Nat) : Nat :=
  match n with
  | 3 => 0x100E0 | 4 => 0x6000 | 5 => 0x4000 | 10 => 0x21700 | 11 => 0x4 | _ => 0

/-- Whether a Brush core of a group is enabled (R132, R387). -/
def Core.groupEnabled (c : Core) (g : Nat) : Bool := (List.range 17).any fun k => c.brushEnabled (17 * g + k)

/-- Whether a domain from PD3 to PD12 is idle (R132). -/
def Core.pdIdle (c : Core) (n : Nat) : Bool :=
  (c.get R.CLK_EN ||| c.get R.CLK_EN_LOCK) &&& .ofNat 32 (pdBlocks n) = 0 &&
    !(decide (6 ≤ n ∧ n ≤ 9) && c.groupEnabled (n - 6))

/-- The tolerance of a domain in µs: the smallest of its functions (R132). -/
def Core.pdTolerance (c : Core) (n : Nat) : Nat :=
  let t := fun k => c.f ⟨R.SYS_WAKE_TOL k, 25, 0⟩
  match n with
  | 3 => t 0 | 4 => min (t 1) (t 2) | 5 => t 3 | 6 => t 4 | 7 => t 5 | 8 => t 6 | 9 => t 7
  | 10 => min (t 8) (t 9) | 11 => t 10 | _ => t 11

/-- Exit latency of OFF in µs (R131). -/
def offLatency (n : Nat) : Nat :=
  match n with
  | 3 => 5000 | 4 | 5 => 3000 | 10 => 10000 | 11 => 8000 | 12 => 20000 | _ => 4000

/-- The state the Plinth controller gives a domain (R132); PD4 to PD9 are in RETAIN or GATED in quiet standby (R134). -/
def Core.pdTarget (c : Core) (n : Nat) : Nat :=
  let t := c.pdTolerance n
  if c.f F.SYS_STATUS_STATE = 2 ∧ 4 ≤ n ∧ n ≤ 9 then (if t < 150 then 1 else 2)
  else if !c.pdIdle n ∨ (n = 11 ∧ c.dramBusy) then 0
  else if offLatency n ≤ t then 3 else if 150 ≤ t then 2 else if 2 ≤ t then 1 else 0

/-- The Plinth controller sets one domain: it starts to wake, or is lowered at once (R132, R133). -/
def Core.plinthPd (c : Core) (n : Nat) : Core :=
  let t := c.pdTarget n
  let cur := c.f (F.SYS_PD_STATE_PD n)
  let w : Field := ⟨R.SYS_PD_WAKING, n, n⟩
  if t = 0 then (if cur = 0 then c else c.setF w 1)
  else
    let c := (c.setF w 0).setF (F.SYS_PD_STATE_PD n) t
    if t = 3 ∧ cur ≠ 3 then c.pdLost n else c

/-- The Plinth controller sets every domain from PD3 to PD12, and the Brush cores follow theirs (R90, R132). -/
def Core.plinth (c : Core) : Core := (((List.range 13).drop 3).foldl Core.plinthPd c).brushSupply

/-- A waking domain reaches ON; PD_ON is raised when the last of them does (R133). -/
def pdWakeDone (n : Nat) (c : Core) : Core :=
  let w : Field := ⟨R.SYS_PD_WAKING, n, n⟩
  if n > 12 ∨ !c.flag w then c
  else
    let c := (c.setF w 0).setF (F.SYS_PD_STATE_PD n) 0
    let c := if n = 10 then c.readPins else if n = 11 then c.dramBack else c.brushSupply
    c.raiseIf (c.get R.SYS_PD_WAKING = 0) F.SYS_INT_STATUS_PD_ON

/-- The four clock enable registers. -/
def clkEnReg (k : Nat) : Nat := if k = 0 then R.CLK_EN else R.CLK_EN_BRUSH0 + 4 * (k - 1)

/-- The bits of CLK_EN_BRUSH0 to 2 of cores that firmware has reserved (R419). -/
def Core.fwEnables (c : Core) (k : Nat) : Word :=
  (List.range 32).foldl (fun (w : Word) i =>
    let core := 32 * (k - 1) + i
    if core < 68 ∧ c.flag (F.BRUSH_CORE_STATE_OWNER core) then w ||| .ofNat 32 (2 ^ i) else w) 0

/-- A write of CLK_EN (k = 0) or CLK_EN_BRUSH0 to 2 (k = 1 to 3): locked bits, and for a host those of firmware's
cores, stay 1 and are counted, and the Plinth controller wakes or lowers domains (R90, R91, R132, R133, R419). -/
def clkEnWrite (m k : Nat) (v : Word) (c : Core) : Core :=
  if k ≥ 4 then c
  else c.busWrite ⟨m, clkEnReg k, v⟩ 0xFFFFFFFF fun c =>
    let mask : Word := if k = 0 then 0x1FFFFF else if k = 3 then 0xF else 0xFFFFFFFF
    let old := c.get (clkEnReg k)
    let lock := if k = 0 then c.get R.CLK_EN_LOCK else if m = 8 then c.fwEnables k else 0
    let refused := old &&& ~~~v &&& lock
    let c := c.put (clkEnReg k) ((v &&& mask) ||| refused)
    let c := if refused = 0 then c else c.countN R.CLK_EN_REFUSED (popCount 32 refused.toNat)
    c.plinth

/-! ### CLKOUT and the AON trim (R93 to R95) -/

/-- CLKOUTn_CTRL. -/
def clkoutReg (n : Nat) : Nat := if n = 0 then R.CLKOUT0_CTRL else R.CLKOUT1_CTRL

/-- EN, SRC and DIVH of CLKOUTn_CTRL. -/
def Core.clkoutSet (c : Core) (n : Nat) : Nat × Nat × Nat :=
  let w := c.get (clkoutReg n)
  (bitsOf w 0 0, bitsOf w 1 1, bitsOf w 14 8)

/-- A write of CLKOUTn_CTRL: a change stops the output low until the next block boundary (R93). -/
def clkoutCtrlWrite (m n : Nat) (v : Word) (c : Core) : Core :=
  if n ≥ 2 then c
  else c.busWrite ⟨m, clkoutReg n, v⟩ 0 fun c =>
    if c.clkoutSet n = smGet (fun _ => (0, 0, 2)) c.clk.clkout n ∧ n ∉ c.clk.clkoutDue then c
    else
      let c := { c with clk := { c.clk with clkout := smSet (fun _ => (0, 0, 2)) c.clk.clkout n (0, 0, 2),
                                            clkoutDue := c.clk.clkoutDue.filter (· ≠ n) ++ [n] } }
      c.send (.pin "CLKOUT" n false)

/-- The CLKOUTs that stopped run with their new setting from a block boundary on (R93). -/
def Core.clkoutRestart (c : Core) : Core :=
  let l := c.clk.clkoutDue
  let c := { c with clk := { c.clk with clkoutDue := [] } }
  l.foldl (fun c n => { c with clk := { c.clk with
    clkout := smSet (fun _ => (0, 0, 2)) c.clk.clkout n (c.clkoutSet n) } }) c

/-- A gate of the trim loop ends: the AON oscillator's error in units of 0.0001 %, and whether the frame sync of the FSYNC
source is present and within ±1,000 ppm (R94, R95). CODE moves by one step against the error. -/
def aonTrimGate (err : Int) (fsyncOk : Bool) (c : Core) : Core :=
  let src := c.f F.CLK_AON_TRIM_CTRL_SRC
  let fsync := src = 2 ∨ (src = 3 ∧ !c.clk.tcxoOn)
  if src = 0 ∨ (src = 1 ∧ !c.clk.tcxoOn) then c
  else if fsync ∧ (!fsyncOk ∨ c.f F.CLK_AON_TRIM_CTRL_FS = 3) then
    (c.setF F.CLK_AON_TRIM_CTRL_TRIM_STALE 1).raise F.CLK_INT_STATUS_TRIM_STALE
  else
    let c := if fsync then c.setF F.CLK_AON_TRIM_CTRL_TRIM_STALE 0 else c
    let code := c.f F.CLK_AON_TRIM_CODE
    if err > 100 then c.setF F.CLK_AON_TRIM_CODE (code - 1)
    else if err < -100 then c.setF F.CLK_AON_TRIM_CODE (min 1023 (code + 1)) else c

end Sys2Proof.Machine
end

