-- ==== Sys2Proof/Machine/BrushCmd.lean ====
section
/-! DEFINITION. The Brush opcodes and the steps of a migration as commands (R416, R417, R419, R421, R423). -/

namespace Sys2Proof.Machine

/-- Whether customer brushwork holds a logical core. -/
def Core.isCustom (c : Core) (l : Nat) : Bool := c.brush.custom.contains l

def opBrushStatus : Opc := { code := 0x0900, expert := true, len := (· = 0) }

/-- BRUSH_STATUS_GET. -/
def brushStatusBody : Body := fun c _ =>
  okW c ([(c.get R.BRUSH_STATUS).toNat, c.f F.BRUSH_STATUS_FREE] ++
    (List.range 64).map fun l => (c.get (R.BRUSH_CORE_STATE (c.phys l))).toNat)

def opBrushAlloc : Opc := { code := 0x0901, expert := true, len := (· = 8) }

/-- A logical core goes to customer brushwork, with its clock on. -/
def Core.customTake (c : Core) (l : Nat) : Core :=
  let k := c.phys l
  let c := { c with brush := { c.brush with custom := c.brush.custom ++ [l] } }
  ((c.setF (F.BRUSH_CORE_STATE_OWNER k) 2).setBrushEn k true).coreSupply k

/-- BRUSH_ALLOC: the lowest free logical cores of the groups asked for (R38, R419). -/
def brushAllocBody : Body := fun c r =>
  let n := r.n 0
  let mask := if r.n 1 = 0 then 15 else r.n 1
  if n = 0 ∨ n > 64 then ans c .outOfRange
  else if r.n 1 > 15 then ans c .badParam
  else
    let l := c.freeCores.filter fun l => bitOf (.ofNat 32 mask) (l / 16)
    if l.length < n ∨ c.brush.fw.length + c.brush.custom.length + n > c.f F.HEALTH_CAPACITY_BRUSH then ans c .noResource
    else
      let l := l.take n
      let c := (l.foldl Core.customTake c).brushFree.plinth.brushSupply
      okW c l

/-- A logical core leaves customer brushwork: it stops, and its mailbox, bindings and parameter blocks go. -/
def Core.customDrop (c : Core) (l : Nat) : Core :=
  let k := c.phys l
  let c := (c.bcStopNow k).setF (F.BRUSH_CORE_STATE_OWNER k) 0
  let p := 2 * (l / 16) + 1
  let c := if (c.mbx p).owner = some l then
      (c.put (R.BRUSH_CORE_MBX_IN k) 0).put (R.BRUSH_CORE_MBX_STATUS k) 0 |>.setMbx p { c.mbx p with owner := none } else c
  let c := (List.range 4).foldl (fun (c : Core) s => (c.put (R.BRUSH_CORE_PARAM_A k s) 0).put (R.BRUSH_CORE_PARAM_B k s) 0) c
  let binds := c.brush.binds.filter fun x => match x.2 with
    | some y => decide (y.core ≠ l)
    | none => false
  let params := c.brush.params.filter fun x => match x.2 with
    | some y => decide (y.core ≠ l)
    | none => false
  { c with brush := { c.brush with custom := c.brush.custom.filter (· ≠ l), binds := binds, params := params,
                                   starts := c.brush.starts.filter fun x => decide (x.2.1 ≠ l) } }

def opBrushFree : Opc := { code := 0x0902, expert := true, len := (4 ≤ ·) }

/-- BRUSH_FREE. -/
def brushFreeBody : Body := fun c r =>
  let n := r.n 0
  let l := (r.words.drop 1).map (·.toNat)
  if r.bytes.length ≠ 4 + 4 * n then ans c .badLength
  else if l.any (· > 63) then ans c .outOfRange
  else if l.any fun x => !c.isCustom x then ans c .notPermitted
  else ans (l.eraseDups.foldl Core.customDrop c).brushFree .ok

def opBrushLoad : Opc := { code := 0x0903, expert := true, len := (16 ≤ ·) }

/-- A core is loaded: its registers read 0, the first core of a group that is loaded owns the customer pair, and its patrols
resume (R390, R417, R516). -/
def Core.loaded (c : Core) (l : Nat) : Core :=
  let c := c.setBc (c.phys l) {}
  let c := { c with health := { c.health with nondet := c.health.nondet.filter (· ≠ l) } }
  let p := 2 * (l / 16) + 1
  if (c.mbx p).owner.isNone then c.setMbx p { c.mbx p with owner := some l } else c

/-- BRUSH_LOAD. -/
def brushLoadBody : Body := fun c r =>
  let l := r.n 0
  let space := r.n 1
  let a := r.n 2
  let n := r.n 3
  if r.bytes.length ≠ 16 + 4 * n then ans c .badLength
  else if l > 63 ∨ n = 0 ∨ n > 16376 then ans c .outOfRange
  else if space > 1 then ans c .badParam
  else if a + n > (if space = 0 then 16384 else 32768) then ans c .outOfRange
  else if !c.isCustom l ∨ c.bcState (c.phys l) ≠ 1 then ans c .notPermitted
  else
    let k := c.phys l
    let c := ((r.words.drop 4).zipIdx.foldl (fun (c : Core) y =>
      if space = 0 then c.setIm k (a + y.2) y.1 else c.setDm k (a + y.2) y.1) c).loaded l
    ans c .ok

/-- A core register by its index in SPACE 3; none where the index is not issued. -/
def BrushCore.coreReg (x : BrushCore) (i : Nat) : Option Nat :=
  if i ≤ 53 then some (x.s i)
  else if 64 ≤ i ∧ i < 128 then some (unsigned 32 ((x.v ((i - 64) / 4)).getD (i % 4) 0))
  else if 128 ≤ i ∧ i < 160 then
    let v := unsigned 56 ((x.a ((i - 128) / 8)).getD (i / 2 % 4) 0)
    some (if i % 2 = 0 then v % 2 ^ 28 else unsigned 32 (signed 28 (v / 2 ^ 28)))
  else none

def opBrushRead : Opc := { code := 0x0904, expert := true, len := (· = 16) }

/-- BRUSH_READ. -/
def brushReadBody : Body := fun c r =>
  let l := r.n 0
  let space := r.n 1
  let a := r.n 2
  let n := r.n 3
  let is := (List.range n).map (a + ·)
  if l > 63 ∨ n = 0 ∨ n > 1000 then ans c .outOfRange
  else if space > 3 then ans c .badParam
  else if !c.isCustom l ∧ !c.brush.fw.contains l then ans c .notPermitted
  else
    let k := c.phys l
    let fw := !c.isCustom l
    if space = 0 then
      if a + n > 16384 then ans c .outOfRange else okW c (is.map fun i => if fw then 0 else (c.imWord k i).toNat)
    else if space = 1 then
      if a + n > 32768 then ans c .outOfRange else okW (c.dmSeen k is) (is.map fun i => (c.dmWord k i).toNat)
    else if space = 2 then
      if a + n > 1024 then ans c .outOfRange
      else okW c (is.map fun i =>
        let off := R.BRUSH_CORE_STATE k + 4 * i
        if (regRow? off).isSome then (c.get off).toNat else 0)
    else if c.bcState k ∉ [1, 4] then ans c .notPermitted
    else if is.any fun i => ((c.bc k).coreReg i).isNone then ans c .outOfRange
    else okW c (is.map fun i => ((c.bc k).coreReg i).getD 0)

def opBrushStart : Opc := { code := 0x0905, expert := true, timeable := true, len := (· = 8), eager := true }

/-- BRUSH_START: the core runs from the entry at the boundary. -/
def brushStartBody : Body := fun c r =>
  if r.n 0 > 63 ∨ r.n 1 > 8191 then ans c .outOfRange
  else if !c.isCustom (r.n 0) then ans c .notPermitted
  else
    let b := r.boundary c (c.boundaryAt (c.now + 2 * c.blk))
    ans { c with brush := { c.brush with starts := c.brush.starts ++ [(b, r.n 0, r.n 1)] } } .ok

def opBrushStop : Opc := { code := 0x0906, expert := true, len := (· = 4) }

/-- BRUSH_STOP. -/
def brushStopBody : Body := fun c r =>
  if r.n 0 > 63 then ans c .outOfRange
  else if !c.isCustom (r.n 0) then ans c .notPermitted
  else ans (c.bcStopNow (c.phys (r.n 0))) .ok

def opBrushBuffer : Opc := { code := 0x0907, expert := true, timeable := true, len := (· = 20), eager := true }

/-- BRUSH_BUFFER_SET. -/
def brushBufferBody : Body := fun c r =>
  let kind := r.n 0
  let i := r.n 1
  let l := r.n 2
  let a := r.n 3
  let en := r.n 4
  let key := i + 256 * kind
  if kind > 1 ∨ en > 1 then ans c .badParam
  else if i > 255 ∨ l > 63 then ans c .outOfRange
  else if (match smGet (fun _ => none) c.brush.binds key with
    | some x => x.fw
    | none => false) then ans c .locked
  else if !c.isCustom l then ans c .notPermitted
  else if a + 2 * c.blk > 32768 then ans c .outOfRange
  else
    let b := r.boundary c (c.boundaryAt (c.now + 2 * c.blk))
    let x : Option BrushBind := if en = 1 then some { core := l, dm := a } else none
    ans { c with brush := { c.brush with newBinds := c.brush.newBinds ++ [(b, key, x)] } } .ok

/-! ### Parameter blocks (R416) -/

/-- Whether writes to the staged banks of Palette 3 are refused (R218). -/
def Core.paramBusy (c : Core) : Bool := c.brush.commit.isSome || c.palBusy 3

def Core.param? (c : Core) (n : Nat) : Option ParamBlock := smGet (fun _ => none) c.brush.params n

def opParamDeclare : Opc := { code := 0x0910, expert := true, len := (· = 24) }

/-- PARAM_DECLARE: a block or a slot declared again is replaced. -/
def paramDeclareBody : Body := fun c r =>
  let n := r.n 0
  let l := r.n 1
  let slot := r.n 2
  let size := r.n 3
  let a := r.n 4
  let b := r.n 5
  if n > 63 ∨ l > 63 ∨ slot > 3 ∨ size = 0 ∨ size > 1024 ∨ a + size > 32768 ∨ b + size > 32768 then ans c .outOfRange
  else if !c.isCustom l ∨ c.bcState (c.phys l) ≠ 1 then ans c .notPermitted
  else if a < b + size ∧ b < a + size then ans c .badParam
  else
    let x : ParamBlock := { core := l, slot := slot, size := size, live := a, old := b }
    let c := match c.param? n with
      | some y => c.put (R.BRUSH_CORE_PARAM_A (c.phys y.core) y.slot) 0
      | none => c
    let rest := c.brush.params.filter fun e => match e.2 with
      | some y => decide (y.core ≠ l ∨ y.slot ≠ slot)
      | none => false
    let c := { c with brush := { c.brush with params := smSet (fun _ => none) rest n (some x) } }
    ans (c.paramRegs x) .ok

def opParamBegin : Opc := { code := 0x0911, expert := true, len := (· = 4) }

/-- PARAM_BEGIN: the staged banks stay, or take the words of the live banks. -/
def paramBeginBody : Body := fun c r =>
  if r.n 0 > 1 then ans c .badParam
  else if c.paramBusy then ans c .busy
  else
    let c := c.setF (stagedReady 3) 0
    if r.n 0 = 0 then ans c .ok
    else
      let c := c.brush.params.foldl (fun (c : Core) e =>
        match e.2 with
        | some x => (List.range x.size).foldl (fun (c : Core) i =>
            c.setDm (c.phys x.core) (x.old + i) (c.dmWord (c.phys x.core) (x.live + i))) c
        | none => c) c
      ans c .ok

def opParamSet : Opc := { code := 0x0912, expert := true, len := (12 ≤ ·) }

/-- PARAM_SET. -/
def paramSetBody : Body := fun c r =>
  let n := r.n 2
  if r.bytes.length ≠ 12 + 4 * n then ans c .badLength
  else if r.n 0 > 63 ∨ n = 0 ∨ n > 1024 then ans c .outOfRange
  else
    match c.param? (r.n 0) with
    | none => ans c .badParam
    | some x =>
      if r.n 1 + n > x.size then ans c .outOfRange
      else if c.paramBusy then ans c .busy
      else
        let c := (r.words.drop 3).zipIdx.foldl (fun (c : Core) y => c.setDm (c.phys x.core) (x.old + r.n 1 + y.2) y.1) c
        ans (c.setF (stagedReady 3) 0) .ok

def opParamCommit : Opc := { code := 0x0913, expert := true, len := (· = 0) }

/-- PARAM_COMMIT. -/
def paramCommitBody : Body := fun c r =>
  if c.paramBusy then ans c .busy else ans { c with brush := { c.brush with commit := some r.tok } } .accepted

/-- A PARAM_COMMIT completes. -/
def paramCommitDone (c : Core) : Core :=
  match c.brush.commit with
  | none => c
  | some t => ({ c with brush := { c.brush with commit := none } }.setF (stagedReady 3) 1).notice t .ok []

def opParamGet : Opc := { code := 0x0914, expert := true, len := (· = 16) }

/-- PARAM_GET. -/
def paramGetBody : Body := fun c r =>
  let n := r.n 3
  if r.n 0 > 63 ∨ n = 0 ∨ n > 1024 then ans c .outOfRange
  else if r.n 1 > 1 then ans c .badParam
  else
    match c.param? (r.n 0) with
    | none => ans c .badParam
    | some x =>
      if r.n 2 + n > x.size then ans c .outOfRange
      else
        let base := (if r.n 1 = 0 then x.live else x.old) + r.n 2
        okW c ((List.range n).map fun i => (c.dmWord (c.phys x.core) (base + i)).toNat)

/-! ### The customer mailbox of a group (R417) -/

def opBrushMbxPost : Opc := { code := 0x0920, expert := true, len := (· = 8) }

/-- BRUSH_MBX_POST: the word reaches C2B and its owner's source 0 is pending. -/
def brushMbxPostBody : Body := fun c r =>
  if r.n 0 > 3 then ans c .outOfRange
  else
    let p := 2 * r.n 0 + 1
    let x := c.mbx p
    if x.c2bFull then ans c .busy
    else
      let c := c.setMbx p { x with c2b := r.n 1, c2bFull := true }
      match x.owner with
      | some l => ans (c.bcPend (c.phys l) 0) .ok
      | none => ans c .ok

def opBrushMbxRead : Opc := { code := 0x0921, expert := true, len := (· = 4) }

/-- BRUSH_MBX_READ: the word, which the read acknowledges. -/
def brushMbxReadBody : Body := fun c r =>
  if r.n 0 > 3 then ans c .outOfRange
  else
    let p := 2 * r.n 0 + 1
    let x := c.mbx p
    okW (if x.b2cFull then c.setMbx p { x with b2cFull := false } else c) [b2n x.b2cFull, x.b2c]

end Sys2Proof.Machine
end

