-- ==== Sys2Proof/Machine/Fabric.lean ====
section
/-! DEFINITION. DRAM accesses over the fabric: paths, limits, order, holding at the port, and the accesses themselves (R444 to
R448, R454, R455, R458). -/

namespace Sys2Proof.Machine

/-- Whether a master port has a path to DRAM at an address (R445); the host's is BAR2 (R158). -/
def dramPath (m a : Nat) : Bool :=
  decide (a < dramEnd) && (m ≤ 3 || m ∈ [5, 6, 7, 8, 9, 10, 12] || inRange 16 83 m)

/-- Whether a transaction is one of R446: an access of 4 bytes, or 1 to 8 beats of 64 bytes within 4 KiB. -/
def burstOk (a len : Nat) : Bool :=
  (len = 4 && a % 4 = 0) || (0 < len && len % 64 = 0 && len ≤ 512 && a % 64 = 0 && decide (a % 4096 + len ≤ 4096))

/-- The DRAM target of an address: port p serves channels 2p and 2p + 1 (R444). -/
def Core.targetOf (c : Core) (a : Nat) : Nat := (dramMap c.grain a).ch / 2

/-- A register's OUT is what is outstanding beside the access, and its PEAK takes the largest (R447). -/
def Core.outPeak (c : Core) (o p : Field) (n : Nat) : Core := (c.setF o n).setF p (max (c.f p) (n + 1))

/-- What is outstanding shows at the port, at the target and in all. -/
def Core.showOut (c : Core) (m t outPort outTarget outAll : Nat) : Core :=
  ((c.outPeak (F.FABRIC_PORT_OUT m) (F.FABRIC_PORT_PEAK m) outPort).outPeak (F.FABRIC_TARGET_OUT t) (F.FABRIC_TARGET_PEAK t)
    outTarget).outPeak F.FABRIC_STATUS_OUTSTANDING F.FABRIC_STATUS_PEAK outAll

/-- Whether a further transaction exceeds a limit (R447): each target keeps 4 entries for ports 0 to 3. -/
def overLimit (m outPort outTarget outAll : Nat) : Bool :=
  decide (outPort ≥ 64) || decide (outTarget ≥ if m ≤ 3 then 256 else 252) || decide (outAll ≥ 1024)

/-- A request issues: the read returns its bytes, the write takes place. -/
def issueReq (q : HeldReq) (mem : Mem) (c : Core) : Core × Mem :=
  let c := c.fabricSmudge (c.targetOf q.addr) q.port
  match q.data with
  | none => let c := Core.memcRead q.port q.addr q.len c; (c.send (.data (c.readBytes mem q.addr q.len)), mem)
  | some bs => memWrite q.port q.addr bs mem c

/-- A request of a master reaches the fabric. The operands say how many transactions are outstanding from the port, at the target
and in all, and whether one of the same ID is outstanding at another target. -/
def fabricReq (q : HeldReq) (outPort outTarget outAll : Nat) (other : Bool) (mem : Mem) (c : Core) : Core × Mem :=
  if !dramPath q.port q.addr then (c.noPath q.port q.addr q.data.isSome, mem)
  else if !burstOk q.addr q.len ∨ !c.memOn then (c, mem)
  else
    let hold := fun (c : Core) => { c with atl := { c.atl with held := c.atl.held ++ [q] } }
    if overLimit q.port outPort outTarget outAll then (hold (c.countW R.FABRIC_HELD_LIMIT 1), mem)
    else if other ∨ c.atl.held.any (fun x => x.port = q.port && x.id = q.id) then (hold (c.countW R.FABRIC_HELD_ORDER 1), mem)
    else issueReq q mem (c.showOut q.port (c.targetOf q.addr) outPort outTarget outAll)

/-- A DRAM read of `len` bytes with an ID. -/
def dramReadReq (m id addr len outPort outTarget outAll : Nat) (other : Bool) (mem : Mem) (c : Core) : Core × Mem :=
  fabricReq { port := m, id := id % 16, addr := addr, data := none, len := len } outPort outTarget outAll other mem c

/-- A DRAM write of bytes with an ID. -/
def dramWriteReq (m id addr : Nat) (bytes : List Byte) (outPort outTarget outAll : Nat) (other : Bool) (mem : Mem) (c : Core) :
    Core × Mem :=
  fabricReq { port := m, id := id % 16, addr := addr, data := some bytes, len := bytes.length } outPort outTarget outAll other mem c

/-- The oldest request held at a port is issued (R447). -/
def heldIssue (m : Nat) (mem : Mem) (c : Core) : Core × Mem :=
  match c.atl.held.find? (·.port = m) with
  | none => (c, mem)
  | some q => issueReq q mem { c with atl := { c.atl with held := c.atl.held.erase q } }

end Sys2Proof.Machine
end

