-- ==== Sys2Proof/Machine/Power.lean ====
section
/-! DEFINITION. Supply, brownout, temperature and the SMBus port (chapter 2); start-up, resets, power states and the system
opcodes (chapter 5). -/

namespace Sys2Proof.Machine

/-! ### Pins that report the supply -/

/-- PGOOD_N: low while `good` (R51). -/
def Core.setPgood (c : Core) (good : Bool) : Core :=
  if c.power.pgood = good then c
  else
    ({ c with power := { c.power with pgood := good, pgoodSeen := c.power.pgoodSeen || good } }.send
      (.pin "PGOOD_N" 0 (!good))).flashAllow

/-- SMB_ALERT_N is asserted (R60). -/
def Core.alert (c : Core) : Core :=
  if c.power.alert then c else { c with power := { c.power with alert := true } }.send (.pin "SMB_ALERT_N" 0 false)

/-! ### Start-up (R121, R123) -/

/-- VIN rises through 35.5 V: the AON oscillator starts with its fused trim and PD0 is powered (step 1). -/
def vinRise (c : Core) : Core :=
  if c.power.vinOn then c
  else
    let c := { c.powerOff with power := { cages := c.power.cages, sfpId := c.power.sfpId, vinOn := true, step := 1 } }
    let c := (List.range 13).foldl (fun c n => if n = 0 then c else c.setF (F.SYS_PD_STATE_PD n) 3) c
    c.put R.SYS_RESET_CAUSE (.ofNat 32 causePowerUp)

/-- The start threshold is met: VIO_SEL is sampled and VIN_WARN is set (step 2, R44, R49). -/
def startThresholdMet (vioSel : Bool) (c : Core) : Core :=
  if !c.power.vinOn ∨ c.power.step ≠ 1 then c
  else
    let c := { c with power := { c.power with step := 2 } }
    (c.setB F.SYS_STRAPS_VIO_SEL vioSel).setF F.SYS_STATUS_VIN_WARN 1

/-- BOOT_MODE, P3_RATE and SMB_ADDR are sampled (R44). -/
def Core.sampleStraps (c : Core) (boot p3 : Bool) (addr : Nat) : Core :=
  ((c.setB F.SYS_STRAPS_BOOT_MODE boot).setB F.SYS_STRAPS_P3_RATE p3).setF F.SYS_STRAPS_SMB_ADDR addr

/-- Whether the module is in deep standby (R134). -/
def Core.deep (c : Core) : Bool := c.f F.SYS_STATUS_STATE = 3

/-- The rails and VIO_MON are in regulation, the straps are sampled, the SMBus answers and the TCXO is enabled (step 3). -/
def railsInRegulation (boot p3 : Bool) (addr : Nat) (c : Core) : Core :=
  if c.power.step ≠ 2 ∨ c.deep ∨ c.power.inReset then c
  else
    let c := { c with power := { c.power with step := 3, railsOk := true } }
    let c := { c with clk := { c.clk with tcxoOn := true } }
    c.sampleStraps boot p3 addr

/-- The TCXO passes its start check: the PLLs are released (step 4, R73), and the PTP counter starts from the backup time
counter (R114). -/
def tcxoStartCheck (c : Core) : Core :=
  if c.power.step ≠ 3 ∨ !c.clk.tcxoOn ∨ c.power.inReset ∨ c.power.trip then c
  else
    let c := { c with power := { c.power with step := 4 } }
    let c := { c with clk := { c.clk with tcxoOk := true, pllOn := true } }
    let sec := if c.flag F.SYS_BACKUP_SEC_HI_VALID then
        (c.get R.SYS_BACKUP_SEC_LO).toNat + c.f F.SYS_BACKUP_SEC_HI_SEC * 2 ^ 32 else 0
    { c with time := { c.time with ptp := sec * 10 ^ 9 * 2 ^ 32, known := c.flag F.SYS_BACKUP_SEC_HI_VALID } }.readPins

/-- A domain is ON. -/
def Core.pdUp (c : Core) (n : Nat) : Core := c.setF (F.SYS_PD_STATE_PD n) 0

/-- PD1 and PD2 are ON and CP0 runs the on-die boot stage, which finds a copy of Gesso good or stays (step 5, R123). -/
def bootStage (primaryOk secondaryOk : Bool) (c : Core) : Core :=
  if c.power.step ≠ 4 then c
  else
    let c := { c with power := { c.power with step := 5, stuck := !(primaryOk || secondaryOk) } }
    let c := (c.pdUp 1).pdUp 2
    ((List.range 8).foldl (fun c k => c.pdUp (k + 3)) c).readPins.plinth

/-- Gesso enters recovery (R123). -/
def Core.enterRecovery (c : Core) : Core := c.setF F.SYS_STATUS_RECOVERY 1

/-- Gesso runs, moves CTRL to PLL_B and starts the DRAM training (step 6, R86); with BOOT_MODE at 0 it enters recovery. -/
def gessoStart (c : Core) : Core :=
  if c.power.step ≠ 5 ∨ c.power.stuck then c
  else
    let c := { c with power := { c.power with step := 6 } }
    let c := (({ c with clk := { c.clk with ctrlSrc := 0 } }.pdUp 11).dramBack).gessoStarts
    if c.flag F.SYS_STRAPS_BOOT_MODE then c else c.enterRecovery

/-- The hold-up store is charged: PGOOD_N is driven low when the rails are in regulation and the straps sampled (step 8,
R50, R51). -/
def holdupCharged (c : Core) : Core :=
  if !c.power.vinOn ∨ c.power.step < 2 then c
  else
    let c := { c with power := { c.power with holdup := true, step := if c.power.step = 7 then 8 else c.power.step } }
    if c.power.railsOk ∧ !c.power.trip then c.setPgood true else c

/-- Gesso has verified the active image, or not (step 9, R123). -/
def firmwareHandoff (imageOk : Bool) (c : Core) : Core :=
  if (c.power.step ≠ 7 ∧ c.power.step ≠ 8) ∨ !c.power.pgood ∨ c.flag F.SYS_STATUS_RECOVERY then c
  else if imageOk then { c with power := { c.power with step := 9 } } else c.enterRecovery

/-- PD12 is ON and the endpoint stops returning Retry Status (step 10, R63). -/
def pcieEndpointReady (c : Core) : Core :=
  if (c.power.step < 9 ∧ !c.flag F.SYS_STATUS_RECOVERY) ∨ c.power.perst ∨ c.deep then c
  else
    let c := c.pdUp 12
    { c with power := { c.power with endpointReady := true, step := if c.power.step = 9 then 10 else c.power.step } }

/-- Firmware has loaded the configuration store and admitted the show again; Easel is accepted and READY is raised
(step 11, R78, R89, R122, R135). `ms` is the time since step 2. -/
def startReady (ms : Nat) (c : Core) : Core :=
  if (c.power.step ≠ 9 ∧ c.power.step ≠ 10) ∨ c.flag F.SYS_STATUS_RECOVERY then c
  else
    let c := { c with power := { c.power with step := 11 } }
    let c := c.cfg.regs.foldl (fun c x => c.put x.1 x.2) c
    let c := (c.put R.CLK_QUAL c.cfg.clkQual).put R.SYS_START_CFG c.cfg.startCfg
    let c := (c.putRate c.cfg.family c.cfg.mult c.cfg.ll (c.f F.CLK_MEDIA_CTRL_SRC)).liveRate c.cfg.family c.cfg.mult
      c.cfg.ll (c.f F.CLK_MEDIA_CTRL_SRC)
    let c := c.setB F.HOST_EXPERT_CTRL_UDP_ALLOW c.cfg.udpAllow
    let c := if c.flag F.SYS_START_CFG_RESTORE then c.restoreShow else c
    let c := (c.setB F.SYS_STATUS_OUTPUT_HELD (c.flag F.SYS_START_CFG_HOLD_MUTE)).put R.SYS_START_TIME (.ofNat 32 (min ms 65535))
    let c := ((c.setF F.SYS_STATUS_READY 1).setF F.SYS_STATUS_STATE 1).setF F.HOST_STATUS_EASEL_READY 1
    let c := { c with power := { c.power with engineStop := false } }
    ((c.firmwareStarts).raise F.SYS_INT_STATUS_READY).ring 0

/-! ### VIN (R48, R49, R52, R53) -/

/-- VIN falls through 38.0 V for 20 µs (R48). -/
def vinWarnSet (c : Core) : Core :=
  if !c.power.vinOn ∨ c.power.step < 2 ∨ c.flag F.SYS_STATUS_VIN_WARN then c
  else
    let c := ((c.setF F.SYS_STATUS_VIN_WARN 1).raise F.SYS_INT_STATUS_VIN_WARN).alert
    let c := if c.power.step ≥ 11 then c.count R.SYS_VIN_WARN_COUNT else c
    c.vinWarned

/-- VIN has stayed at or above 39.0 V for 100 ms (R48, R49). -/
def vinWarnClear (c : Core) : Core :=
  if c.power.step < 2 ∨ !c.flag F.SYS_STATUS_VIN_WARN then c
  else ((c.setF F.SYS_STATUS_VIN_WARN 0).raise F.SYS_INT_STATUS_VIN_WARN_CLEAR).vinCleared

/-- VIN_OFF: the ordered shutdown runs to completion and the supply goes away (R52, R53). -/
def vinOff (c : Core) : Core :=
  if !c.power.vinOn then c
  else
    let seen := c.power.pgoodSeen
    let c := (((c.relinquish.setPgood false).alert).setF F.SYS_STATUS_STATE 4).cutAudio
    let c := if seen then c.shutdownRecord else c
    c.powerOff

/-- VIN_OFF: DRAM and studio SRAM lose what they hold (R52, R136). -/
def vinOffAll (m : Mem) (c : Core) : Core × Mem := (vinOff c, if c.power.vinOn then {} else m)

/-! ### Resets (R85, R124 to R127, R136) -/

/-- Steps 3 to 7 of the ordered shutdown with the converter still on, then a reset as RESET_N makes it (R64, R85). -/
def Core.faultReset (c : Core) (cause : Nat) : Core := (c.cutAudio.shutdownRecord).resetN cause

/-- The TCXO monitor trips (R85). -/
def tcxoMonitorTrip (c : Core) : Core :=
  if !c.power.vinOn ∨ c.power.step < 4 ∨ c.deep then c
  else (c.setF F.CLK_MEDIA_STATUS_TCXO_FAIL 1).faultReset causeClock

/-- PLL_A, PLL_B or PLL_M loses lock (R85). -/
def corePllLoss (c : Core) : Core :=
  if !c.power.vinOn ∨ c.power.step < 5 ∨ c.deep then c
  else (c.setF F.CLK_MEDIA_STATUS_PLL_FAULT 1).faultReset causeClock

/-- Whether the die is below 100 °C. -/
def Core.dieCool (c : Core) : Bool := signed 16 (c.f F.SYS_TDIE_TDIE) < 1000

/-- A recognised RESET_N (R125); ignored while a thermal trip holds at 100 °C or more (R64). In deep standby its release
wakes the module (R136). -/
def resetNAssert (c : Core) : Core :=
  if !c.power.vinOn ∨ c.power.step < 3 ∧ !c.deep ∨ (c.power.trip ∧ !c.dieCool) then c
  else if c.deep then { c with power := { c.power with inReset := true } }
  else
    let c := c.resetN (if c.power.trip then causeThermal else causeResetN)
    { c with power := { c.power with inReset := true, trip := false } }

/-- A wake from deep standby: start-up runs from step 3 on (R136). -/
def Core.wake (c : Core) : Core :=
  let c := ((c.resetN causeDeepWake).keepDram c).setF F.SYS_STATUS_VIN_WARN 1
  let c := { c with power := { c.power with step := 2 } }.setF F.MEMC_STATUS_SELF_REFRESH 1
  (List.range 13).foldl (fun c n => if n = 0 then c else c.setF (F.SYS_PD_STATE_PD n) 3) c

/-- RESET_N is released: the straps but VIO_SEL are sampled again and start-up repeats from step 4, or the module wakes
from deep standby (R44, R125, R136). -/
def resetNRelease (boot p3 : Bool) (addr : Nat) (c : Core) : Core :=
  if !c.power.inReset then c
  else
    let deep := c.deep
    let c := { c with power := { c.power with inReset := false } }
    if deep then c.wake
    else
      let c := c.sampleStraps boot p3 addr
      if c.power.railsOk ∧ c.power.holdup then c.setPgood true else c

/-- A falling edge on WAKE_N (R136). -/
def wakeNFall (c : Core) : Core := if c.deep ∧ !c.power.inReset then c.wake else c

/-- The backup time counter reaches SYS_WAKE_AT while WAKE_AT_EN is set (R136). -/
def wakeAtReached (c : Core) : Core :=
  if c.deep ∧ !c.power.inReset ∧ c.flag F.SYS_STANDBY_CTRL_WAKE_AT_EN then
    let at_ := (c.get R.SYS_WAKE_AT_LO).toNat + c.f F.SYS_WAKE_AT_HI_SEC * 2 ^ 32
    let now := (c.get R.SYS_BACKUP_SEC_LO).toNat + c.f F.SYS_BACKUP_SEC_HI_SEC * 2 ^ 32
    let t := max at_ now
    ((c.put R.SYS_BACKUP_SEC_LO (.ofNat 32 t)).setF F.SYS_BACKUP_SEC_HI_SEC (t / 2 ^ 32)).wake
  else c

/-- A module reset (R126): the outputs fade over one block, and at the next boundary the module acts as RESET_N. -/
def moduleReset (c : Core) : Core := if c.power.resetDue then c.cutAudio.resetN causeModule else c

/-- A control-plane restart begins (R127, R149, R164, R170): mailboxes of the control processors are cleared, their holds
released, accepted operations become ABORTED after the restart, and Easel answers RESTARTING. -/
def Core.controlRestart (c : Core) : Core :=
  if c.flag F.HOST_STATUS_RESTARTING then c
  else
    let keep := c.survivors
    let gone := c.host.ops.filter (· ∉ keep)
    let c := c.restartHooks
    let c := (List.range 16).foldl Core.clearH2F c
    let c := c.releaseHolds (· ≤ 3)
    let c := { c with host := { c.host with ops := c.host.ops.filter (· ∈ keep),
                                            later := c.host.later ++ gone.map fun t => (t, statusCode .aborted, []) } }
    let c := { c with power := { c.power with restartDue := false } }
    ((c.setF F.HOST_STATUS_RESTARTING 1).setF F.HOST_STATUS_EASEL_READY 0).ring 5

/-- A write of SYS_RESET_CTRL (R126, R127): GO with KIND 0 restarts the control plane, with KIND 1 resets the module at the
next block boundary. -/
def Core.resetCtrlWrite (c : Core) (m : Nat) (v : Word) : Core :=
  c.busWrite ⟨m, R.SYS_RESET_CTRL, v⟩ 0x80000000 fun c =>
    if !bitOf v 31 then c
    else if c.mediaChanging then c.setF F.SYS_RESET_CTRL_REFUSED 1
    else if c.flag F.SYS_RESET_CTRL_KIND then { c with power := { c.power with resetDue := true } }
    else c.controlRestart

/-- SYS_RESET_CTRL written with GO and KIND 0. -/
def resetCtrlRestart (m : Nat) (v : Word) (c : Core) : Core := c.resetCtrlWrite m (withBits v 0 0 0)

/-- SYS_RESET_CTRL written with GO and KIND 1. -/
def resetCtrlModule (m : Nat) (v : Word) (c : Core) : Core := c.resetCtrlWrite m (withBits v 0 0 1)

/-- CP0 to CP3 have reloaded: Easel is accepted again, RESTART_END rings and the notices that waited go out (R127, R149). -/
def Core.restartEnd (c : Core) : Core :=
  if !c.flag F.HOST_STATUS_RESTARTING then c
  else
    let c := ((c.setF F.HOST_STATUS_RESTARTING 0).setF F.HOST_STATUS_EASEL_READY 1).ring 6
    let l := c.host.later
    let c := { c with host := { c.host with later := [] } }
    l.foldl (fun c x =>
      match c.session? x.1.session with
      | some s => c.post (.easel s.transport 1 x.2.1 x.1.opcode x.1.seq x.1.session x.2.2)
      | none => c) c

/-! ### PCIe (R63, R124, R158) -/

/-- PCIE_PERST_N goes low: the host interface is reset as by function 27 (R124). -/
def pciePerstAssert (c : Core) : Core :=
  let c := c.hostReset.sessionsGone
  { c with power := { c.power with perst := true, endpointReady := false } }

/-- PCIE_PERST_N is released (R63). -/
def pciePerstRelease (c : Core) : Core := { c with power := { c.power with perst := false } }

/-- A PCIe configuration read of a register offset: Retry Status until the endpoint is ready (R63), then the identity of
R158; the spec gives no other configuration register's value. -/
def pcieConfigRequest (reg : Nat) (c : Core) : Core :=
  if !c.power.vinOn ∨ c.power.perst then c
  else if !c.power.endpointReady then c.send (.config none)
  else
    match reg with
    | 0x00 => c.send (.config (some 0x51201D9F))
    | 0x08 => c.send (.config (some 0x040100B1))
    | 0x2C => c.send (.config (some 0x00031D9F))
    | _ => let x := c.free; x.2.send (.config (some (.ofNat 32 x.1)))

/-- The PCIe link has trained at a generation and width (R61, R63). -/
def pcieLinkTrained (gen width : Nat) (c : Core) : Core :=
  if !c.power.vinOn ∨ c.power.perst ∨ gen = 0 ∨ gen > 4 ∨ (width ≠ 1 ∧ width ≠ 2 ∧ width ≠ 4) then c
  else ((c.setF F.HOST_STATUS_LINK_UP 1).setF F.HOST_STATUS_SPEED gen).setF F.HOST_STATUS_WIDTH width

/-! ### The SMBus port (R59, R60) -/

/-- The SMBus port answers: from step 3 on, in every module state (R59, R121). -/
def Core.smbusOn (c : Core) : Bool := c.power.vinOn && c.power.railsOk

/-- The port's address (R44). -/
def Core.smbusAddr (c : Core) : Nat := 0x58 + c.f F.SYS_STRAPS_SMB_ADDR

/-- The data bytes of a command code under its own protocol; none for a code that is NACKed (R59). -/
def Core.smbusData (c : Core) (code : Nat) : Option (List Byte) :=
  match code with
  | 0 => some (leBytes 2 0x00B1) | 1 => some (leBytes 2 0x5120)
  | 2 => some (leBytes 1 c.power.smbState) | 3 => some (leBytes 1 c.power.smbFlags)
  | 4 => some (leBytes 2 c.power.smbVin) | 5 => some (leBytes 2 c.power.smbPin)
  | 6 => some (leBytes 2 c.power.smbTdie) | 7 => some (leBytes 2 c.power.smbTboard)
  | _ => none

/-- One byte into the SMBus packet error code, CRC-8 with polynomial x⁸ + x² + x + 1 (SMBus 3.1). -/
def pecByte (crc : Nat) (b : Byte) : Nat :=
  (List.range 8).foldl (fun r _ => if r ≥ 128 then (r * 2) % 256 ^^^ 7 else r * 2) (crc ^^^ b.toNat)

/-- The PEC of a read: address with write, code, address with read, data. -/
def pecOf (addr code : Nat) (data : List Byte) : Byte :=
  .ofNat 8 ((leBytes 1 (addr * 2) ++ leBytes 1 code ++ leBytes 1 (addr * 2 + 1) ++ data).foldl pecByte 0)

/-- An SMBus read in which the master clocks `n` bytes: the data under the code's own protocol, the PEC, then 0xFF (R59). -/
def Core.smbusRead (c : Core) (addr code n : Nat) : Core :=
  if !c.smbusOn ∨ addr ≠ c.smbusAddr then c
  else
    match c.smbusData code with
    | none => c.send .smbusNack
    | some d => c.send (.smbus ((d ++ [pecOf addr code d] ++ List.replicate n 0xFF#8).take n))

/-- SMBus Read Byte, with further bytes clocked. -/
def smbusReadByte (addr code extra : Nat) (c : Core) : Core := c.smbusRead addr code (1 + extra)

/-- SMBus Read Word, with further bytes clocked. -/
def smbusReadWord (addr code extra : Nat) (c : Core) : Core := c.smbusRead addr code (2 + extra)

/-- Every SMBus write is NACKed (R59). -/
def smbusWrite (addr : Nat) (c : Core) : Core :=
  if c.smbusOn ∧ addr = c.smbusAddr then c.send .smbusNack else c

/-- A read of the Alert Response Address: answered, and SMB_ALERT_N released, only while it is asserted (R59). -/
def smbusAlertResponse (c : Core) : Core :=
  if c.smbusOn ∧ c.power.alert then
    ({ c with power := { c.power with alert := false } }.send (.smbus (leBytes 1 (c.smbusAddr * 2)))).send
      (.pin "SMB_ALERT_N" 0 true)
  else c.send .smbusNack

/-- FLAGS (R59). -/
def Core.smbusFlags (c : Core) : Nat :=
  c.f F.SYS_STATUS_VIN_WARN + 2 * c.f F.SYS_STATUS_THERM_WARN + 4 * c.f F.SYS_STATUS_THERM_HOLD + 8 * b2n c.power.pgood +
    16 * b2n c.power.trip

/-- The values of the SMBus port and of the SYS registers are refreshed (R59). -/
def smbusRefresh (vin pin : Nat) (c : Core) : Core :=
  if !c.power.vinOn then c
  else
    let c := (c.setF F.SYS_VIN_VIN (min vin 65535)).setF F.SYS_PIN_PIN (min pin 65535)
    { c with power := { c.power with
        smbState := c.f F.SYS_STATUS_STATE, smbFlags := c.smbusFlags, smbVin := min vin 65535, smbPin := min pin 65535,
        smbTdie := c.f F.SYS_TDIE_TDIE, smbTboard := c.f F.SYS_TBOARD_TBOARD } }

/-! ### Temperature (R64 to R66) -/

/-- The thermal trip (R64): PGOOD_N is released, steps 3 to 7 of R52 run and PD0 stays powered. -/
def Core.thermalTrip (c : Core) : Core :=
  let c := (c.setPgood false).alert
  let c := c.faultReset c.power.cause
  let c := { c with power := { c.power with trip := true } }.setF F.SYS_STATUS_STATE 4
  (List.range 13).foldl (fun c n => if n = 0 then c else c.setF (F.SYS_PD_STATE_PD n) 3) c

/-- The hottest die sensor and the board sensor are measured, in units of 0.1 °C, and judged (R64). -/
def tempMeasure (die board : Int) (c : Core) : Core :=
  if !c.power.vinOn then c
  else
    let c := (c.setF F.SYS_TDIE_TDIE (unsigned 16 die)).setF F.SYS_TBOARD_TBOARD (unsigned 16 board)
    if c.power.trip then c
    else if die ≥ 1250 ∨ board ≥ 1200 then c.thermalTrip
    else
      let c := if die ≥ 1000 ∧ !c.flag F.SYS_STATUS_THERM_WARN then
          ((c.setF F.SYS_STATUS_THERM_WARN 1).raise F.SYS_INT_STATUS_THERM_WARN).alert
        else if die < 950 then c.setF F.SYS_STATUS_THERM_WARN 0 else c
      if die ≥ 1150 ∧ !c.flag F.SYS_STATUS_THERM_HOLD then { c with power := { c.power with holdDue := true } } else c

/-- The same, with what the memories lose when a trip switches PD1 to PD12 off (R64, R131). -/
def tempMeasureAll (die board : Int) (m : Mem) (c : Core) : Core × Mem :=
  let d := tempMeasure die board c
  (d, if d.power.trip ∧ !c.power.trip then {} else m)

/-- Mute and hold begins at the first block boundary after the die has reached 115 °C (R65). -/
def muteAndHold (c : Core) : Core :=
  if !c.power.holdDue then c
  else
    let c := { c with power := { c.power with holdDue := false } }
    let c := ((c.setF F.SYS_STATUS_THERM_HOLD 1).raise F.SYS_INT_STATUS_THERM_HOLD).alert
    ((c.fadeOut c.time.n c.blk).stopEngines).holdHooks

/-- The die has stayed below 100 °C for 10 s: the module resumes at this block boundary (R66). -/
def thermalResume (c : Core) : Core :=
  if !c.flag F.SYS_STATUS_THERM_HOLD ∨ !c.dieCool then c
  else
    let c := (c.setF F.SYS_STATUS_THERM_HOLD 0).raise F.SYS_INT_STATUS_THERM_RESUME
    if c.f F.SYS_STATUS_STATE = 1 then (c.startEngines c.time.n).fadeInFrom (c.time.n + 4 * c.blk) else c

/-- A converter fault releases PGOOD_N (R51). -/
def converterFault (c : Core) : Core := if c.power.vinOn then c.setPgood false else c

/-! ### Standby (R134 to R136) -/

/-- A standby request (R129, R134, R135, R136): the status, and the state with the change begun. -/
def Core.standbyRequest (c : Core) (level : Nat) : Status × Core :=
  if level ≥ 3 then (.outOfRange, c)
  else if c.twinned then (.notPermitted, c)
  else if c.power.standby.isSome ∨ c.power.funcReset.isSome ∨ c.mediaChanging then (.busy, c)
  else
    let st := c.f F.SYS_STATUS_STATE
    if level = 2 then (.ok, { c with power := { c.power with standby := some .deepEntering } })
    else if (level = 0 ∧ st = 1) ∨ (level = 1 ∧ st = 2) then (.ok, c)
    else if level = 1 then
      if c.clk.mediaOn then
        let b := c.anchorB
        (.ok, { c with power := { c.power with standby := some (.entering b) } }.fadeTo b)
      else (.ok, (c.stopEngines.setF F.SYS_STATUS_STATE 2).plinth)
    else if c.clk.mediaOn then (.ok, { c with power := { c.power with standby := some .leaving } })
    else
      let c := c.setF F.SYS_STATUS_STATE 1
      (.ok, { c with power := { c.power with engineStop := false } }.plinth)

/-- A write of SYS_STANDBY_CTRL (R129, R134). -/
def Core.standbyCtrlWrite (c : Core) (m : Nat) (v : Word) : Core :=
  c.busWrite ⟨m, R.SYS_STANDBY_CTRL, v⟩ 0x80000000 fun c =>
    if !bitOf v 31 then c
    else
      let x := c.standbyRequest (c.f F.SYS_STANDBY_CTRL_LEVEL)
      if x.1 = .ok then x.2 else c.setF F.SYS_STANDBY_CTRL_REFUSED 1

/-- SYS_STANDBY_CTRL written with LEVEL 0. -/
def standbyRunGo (m : Nat) (v : Word) (c : Core) : Core := c.standbyCtrlWrite m (withBits v 1 0 0)
/-- SYS_STANDBY_CTRL written with LEVEL 1. -/
def standbyQuietGo (m : Nat) (v : Word) (c : Core) : Core := c.standbyCtrlWrite m (withBits v 1 0 1)
/-- SYS_STANDBY_CTRL written with LEVEL 2. -/
def standbyDeepGo (m : Nat) (v : Word) (c : Core) : Core := c.standbyCtrlWrite m (withBits v 1 0 2)

/-- Quiet standby is entered at anchor B (R135). -/
def quietStandbyEntry (c : Core) : Core :=
  match c.power.standby with
  | some (.entering b) =>
    if c.clk.mediaOn ∧ c.time.n < b then c
    else
      let c := { c with power := { c.power with standby := none } }
      ((c.cutAudio.stopEngines).setF F.SYS_STATUS_STATE 2).plinth
  | _ => c

/-- Quiet standby is left: PD4 to PD9 are ON, and at B1 rendering restarts from fresh targets (R135). -/
def quietStandbyExit (c : Core) : Core :=
  match c.power.standby with
  | some .leaving =>
    let c := { c with power := { c.power with standby := none } }.setF F.SYS_STATUS_STATE 1
    let c := [4, 5, 6, 7, 8, 9].foldl Core.pdUp c
    (c.startEngines c.time.n).fadeInFrom (c.time.n + 4 * c.blk)
  | _ => c

/-- Deep standby is entered (R136): the standby record is written unless VIN_WARN is set, PD12 down to PD1 switch off, and
only PD0, flash and the DRAM keep what they hold. -/
def deepStandbyEntry (c : Core) : Core :=
  match c.power.standby with
  | some .deepEntering =>
    let c := if c.flag F.SYS_STATUS_VIN_WARN then c else c.standbyRecord
    let ctrl := c.get R.SYS_STANDBY_CTRL
    let lo := c.get R.SYS_WAKE_AT_LO
    let hi := c.get R.SYS_WAKE_AT_HI
    let cause := (c.get R.SYS_RESET_CAUSE).toNat
    let c := (c.cutAudio.resetN cause).keepDram c
    let c := ((((c.put R.SYS_STANDBY_CTRL ctrl).put R.SYS_WAKE_AT_LO lo).put R.SYS_WAKE_AT_HI hi).setF
      F.MEMC_STATUS_SELF_REFRESH 1).setF F.SYS_STATUS_STATE 3
    let c := { c with clk := { c.clk with tcxoOn := false }, power := { c.power with step := 2 } }
    (List.range 13).foldl (fun c n => if n = 0 then c else c.setF (F.SYS_PD_STATE_PD n) 3) c
  | _ => c

/-- Deep standby is entered: studio SRAM loses what it holds, and the DRAM keeps its contents (R131, R136). -/
def deepStandbyEntryAll (m : Mem) (c : Core) : Core × Mem :=
  match c.power.standby with
  | some .deepEntering => (deepStandbyEntry c, { m with sram := [] })
  | _ => (c, m)

/-! ### Function resets (R128, R129) -/

/-- The power domain of a function. -/
def funcPd (code : Nat) : Nat :=
  if code ≤ 7 then 3 else if code ≤ 9 then 10 else if code = 10 then 1 else if code ≤ 15 then 4 else if code ≤ 19 then 5
  else if code ≤ 23 then 6 + (code - 20) else if code = 24 then 4 else if code = 25 then 3 else if code = 26 then 1
  else if code = 27 then 12 else 10

/-- A function reset is over: it is counted, and whoever asked for it is told (R128). -/
def Core.funcOver (c : Core) (ok : Bool) : Core :=
  match c.power.funcReset with
  | none => c
  | some x =>
    let c := { c with power := { c.power with funcReset := none } }
    let c := (c.setF F.SYS_FUNC_RESET_BUSY 0).setF F.SYS_FUNC_RESET_GO 0
    let c := (c.setF F.SYS_STATUS_FUNC_RESET_BUSY 0).count R.SYS_FUNC_RESET_COUNT
    let c := c.raise F.SYS_INT_STATUS_FUNC_RESET_DONE
    c.notice? x.tok (if ok then .ok else .faulted) []

/-- A function reset starts; that of a PTP port's network port restarts its PTP state machine too (R128). -/
def Core.funcBegin (c : Core) (code : Nat) : Core :=
  let c := c.funcStart code
  if 8 ≤ code ∧ code ≤ 10 then c.ptpRestart (funcPort code) else c

/-- A function reset is requested (R128, R129). -/
def Core.funcRequest (c : Core) (code : Nat) (force : Bool) (tok : Option Tok) : Status × Core :=
  if code > 28 then (.badParam, c)
  else if c.power.funcReset.isSome then (.busy, c)
  else if c.flag F.HOST_STATUS_RESTARTING then (.restarting, c)
  else if 11 ≤ code ∧ code ≤ 19 ∧ c.engineStuck (code - 11) then (.noResource, c)
  else if 20 ≤ code ∧ code ≤ 23 ∧ !force ∧ c.groupLive (code - 20) then (.notPermitted, c)
  else
    let on := c.pdOn (funcPd code)
    let c := { c with power := { c.power with funcReset := some { code := code, tok := tok } } }
    let c := (c.setF F.SYS_FUNC_RESET_BUSY 1).setF F.SYS_STATUS_FUNC_RESET_BUSY 1
    let c := c.setF F.SYS_FUNC_RESET_GO 1
    if on then (.accepted, c.funcBegin code)
    else
      let c := { c with power := { c.power with funcReset := some { code := code, tok := none } } }.funcOver true
      (.accepted, match tok with
        | some t => c.completeNow t .ok []
        | none => c)

/-- A write of SYS_FUNC_RESET (R128, R129). -/
def funcResetGo (m : Nat) (v : Word) (c : Core) : Core :=
  c.busWrite ⟨m, R.SYS_FUNC_RESET, v⟩ 0x80000000 fun c =>
    if !bitOf v 31 then c
    else
      let x := c.funcRequest (c.f F.SYS_FUNC_RESET_FUNC) (c.flag F.SYS_FUNC_RESET_FORCE) none
      if x.1 = .accepted then x.2 else c.setF F.SYS_FUNC_RESET_REFUSED 1

/-- A function reset completes, or fails (R128, R137). -/
def funcResetDone (ok : Bool) (c : Core) : Core :=
  match c.power.funcReset with
  | none => c
  | some x => (c.funcEnd x.code).funcOver ok

/-! ### The system opcodes (R137) -/

/-- The outputs' hold is released at the next block boundary, from step 14 on (R122). -/
def Core.releaseOutputs (c : Core) : Core := { c with power := { c.power with releaseDue := true } }

/-- Easel 0x0110. -/
def sysStateBody : Body := fun c _ =>
  okW c ([R.SYS_STATUS, R.SYS_RESET_CAUSE, R.SYS_PD_STATE, R.SYS_PD_WAKING, R.SYS_VIN, R.SYS_PIN, R.SYS_TDIE,
    R.SYS_TBOARD].map fun r => (c.get r).toNat)

/-- Easel 0x0111. -/
def sysStandbyBody : Body := fun c r =>
  let x := c.standbyRequest (r.n 0)
  if x.1 ≠ .ok then ans c x.1
  else if r.n 0 = 2 then
    let wake := r.n 1 ≠ 0 ∨ r.n 2 ≠ 0
    let c := if wake then
        ((x.2.put R.SYS_WAKE_AT_LO (r.w 1)).put R.SYS_WAKE_AT_HI (r.w 2 &&& 0xFFFF)).setF F.SYS_STANDBY_CTRL_WAKE_AT_EN 1
      else x.2.setF F.SYS_STANDBY_CTRL_WAKE_AT_EN 0
    ans c .ok
  else ans x.2 .ok

/-- Easel 0x0112: OK is sent before the restart begins. -/
def sysRestartBody : Body := fun c r =>
  if r.n 0 > 1 then ans c .badParam
  else if c.mediaChanging then ans c .busy
  else if r.n 0 = 1 then ans { c with power := { c.power with resetDue := true } } .ok
  else ans { c with power := { c.power with restartDue := true } } .ok

/-- A control-plane restart asked for by a command begins once its reply has been posted (R137). -/
def Core.restartIfDue (c : Core) : Core := if c.power.restartDue then c.controlRestart else c

/-- Easel 0x0113. -/
def funcResetBody : Body := fun c r =>
  let force := bitOf (r.w 1) 0
  if !noReserved (r.w 1) 1 then ans c .badParam
  else if force ∧ !pkExpert r.p then ans c .notPermitted
  else let x := c.funcRequest (r.n 0) force (some r.tok); ans x.2 x.1

/-- Easel 0x0114. -/
def wakeTolBody : Body := fun c r =>
  if (List.range 12).any fun k => r.n k > 0x3FFFFFF then ans c .outOfRange
  else ans ((List.range 12).foldl (fun c k => c.put (R.SYS_WAKE_TOL k) (r.w k)) c).plinth .ok

/-- Easel 0x0115. -/
def outputReleaseBody : Body := fun c _ =>
  if c.flag F.SYS_STATUS_OUTPUT_HELD then ans c.releaseOutputs .ok else ans c .notPermitted

/-- A write of SYS_OUTPUT_RELEASE (R122). -/
def outputReleaseGo (m : Nat) (v : Word) (c : Core) : Core :=
  c.busWrite ⟨m, R.SYS_OUTPUT_RELEASE, v⟩ 1 fun c =>
    if bitOf v 0 ∧ c.flag F.SYS_STATUS_OUTPUT_HELD then c.releaseOutputs else c

/-- Easel 0x0116: the word is stored and takes effect in the register at once. -/
def startConfigBody : Body := fun c r =>
  if !noReserved (r.w 0) 3 then ans c .badParam
  else if c.flag F.SYS_STATUS_VIN_WARN then ans c .busy
  else ans ({ c with cfg := { c.cfg with startCfg := r.w 0 } }.put R.SYS_START_CFG (r.w 0)) .ok

/-- Easel 0x0117 (R89): the checks in their order, then the three fields are stored and written. -/
def mediaRateBody : Body := fun c r =>
  let w := r.w 0
  let family := bitsOf w 0 0
  let mult := bitsOf w 2 1
  let ll := bitsOf w 3 3
  if !noReserved w 0xF ∨ mult = 3 then ans c .badParam
  else if !rateIssued family mult ll then ans c .outOfRange
  else if family = c.clk.family ∧ mult = c.clk.mult ∧ ll = c.clk.ll ∧ c.clk.sw.isNone then
    ans (c.completeNow r.tok .ok []) .accepted
  else if c.flag F.SYS_STATUS_VIN_WARN ∨ c.mediaChanging ∨ c.rateBusy then ans c .busy
  else if c.rateForbidden ∨ (family = 1 ∧ c.clk.src = 1) then ans c .notPermitted
  else if !c.rateAdmits family mult ll then ans c .noResource
  else
    let c := { c with cfg := { c.cfg with family := family, mult := mult, ll := ll } }
    let on := c.clk.mediaOn
    let c := c.requestRate family mult ll c.clk.src (if on then some r.tok else none)
    ans (if on then c else c.completeNow r.tok .ok []) .accepted

def opSysState : Opc := { code := 0x0110, len := (· = 0) }
def opSysStandby : Opc := { code := 0x0111, len := (· = 12) }
def opSysRestart : Opc := { code := 0x0112, len := (· = 4) }
def opFuncReset : Opc := { code := 0x0113, len := (· = 8) }
def opWakeTol : Opc := { code := 0x0114, len := (· = 48) }
def opOutputRelease : Opc := { code := 0x0115, len := (· = 0) }
def opStartConfig : Opc := { code := 0x0116, len := (· = 4) }
def opMediaRate : Opc := { code := 0x0117, len := (· = 4) }

end Sys2Proof.Machine
end

