-- ==== Sys2Proof/Machine/Twin.lean ====
section
/-! DEFINITION. Twin operation: pairing, mirror sets, resyncs, takeover and switch-over (chapter 18). -/

namespace Sys2Proof.Machine

/-! ### Roles (R476, R477, R487) -/

/-- TWIN_STATUS.STATE changes; transmit streams show whether they are held. -/
def Core.setTwin (c : Core) (st : Nat) : Core := (c.setF F.TWIN_STATUS_STATE st).txShowAll

/-- NET_IP_ALIAS of P0, P1 and P3 is set from TWIN_ALIAS, or withdrawn (R487). -/
def Core.aliases (c : Core) (on : Bool) : Core :=
  let put := fun (c : Core) (p r : Nat) => c.put (R.NET_IP_ALIAS p) (if on then c.get r else 0)
  put (put (put c 0 R.TWIN_ALIAS0) 1 R.TWIN_ALIAS1) 3 R.TWIN_ALIAS3

/-- Aliases are set, with three gratuitous ARPs each and a report for every receive leg (R383, R491). -/
def Core.takeAliases (c : Core) : Core :=
  let c := c.aliases true
  let c := [0, 1, 3].foldl (fun (c : Core) p =>
    let a := (c.get (R.NET_IP_ALIAS p)).toNat
    if a = 0 then c else (List.range 3).foldl (fun (c : Core) _ => c.control p 5 42 "gratuitous ARP" [a]) c) c
  [0, 1].foldl (fun (c : Core) p => c.sendIgmp p true (c.groupsOf p).eraseDups) c

/-- The module waits: it does not render, its streams are held and it has no alias; its power state is quiet standby (R134, R476,
R487). The outputs fade over one block. -/
def Core.twinWait (c : Core) (st : Nat) : Core :=
  let c := if c.clk.mediaOn then c.fadeOut c.time.n c.blk else c.cutAudio
  let c := (((c.stopEngines.aliases false).setF F.TWIN_STATUS_READY 0).setF F.SYS_STATUS_STATE 2).setTwin st
  c.plinth

/-- PD4 to PD9 wake and the power state is RUN (R476, R491). -/
def Core.twinWake (c : Core) : Core := (c.setF F.SYS_STATUS_STATE 1).plinth

/-- Everything that a role keeps beside its registers goes, with held replies sent. -/
def Core.twinForget (c : Core) : Core :=
  let c := c.releaseReplies fun _ => true
  { c with twin := { partner := c.twin.partner, persist := c.twin.persist } }

/-- TWIN_LEAVE (R497): an ACTIVE module plays on with its own NET_IP after RELINQUISH; a waiting one becomes SOLO with its outputs
held mute. -/
def Core.twinLeave (c : Core) : Core :=
  let st := c.twinState
  if st = 0 then c.setF F.TWIN_CFG_EN 0
  else
    let tok := c.twin.tok
    let c := (c.relinquish.aliases false).twinForget.notice? tok .aborted []
    let c := ((c.setF F.TWIN_CFG_EN 0).setF F.TWIN_STATUS_READY 0).setF F.TWIN_STATUS_MEDIA_MATCH 0
    let c := c.setTwin 0
    if st = 2 ∨ st = 5 then
      match c.clk.gate with
      | .fadeOut _ _ => c.fadeInFrom c.nextB
      | .zero => c.fadeInFrom c.nextB
      | _ => c
    else
      let c := (c.setF F.SYS_STATUS_OUTPUT_HELD 1).twinWake.cutAudio
      c.startEngines c.nextB

/-- The pairing module that becomes ACTIVE starts to play (R477, R479). -/
def Core.twinFirst (c : Core) : Core :=
  let c := ((c.put R.TWIN_EPOCH (c.get R.TWIN_EPOCH + 1)).setTwin 2).twinWake.takeAliases
  if c.clk.mediaOn then (c.startEngines c.nextB).fadeInFrom (c.nextB + 4 * c.blk) else c

/-! ### Frames that arrive (R480, R488, R494) -/

/-- The tether works: twin operation is on and the twin link is not in a function reset (R128). -/
def Core.tetherOn (c : Core) : Bool :=
  c.flag F.TWIN_CFG_EN && c.twinState ≠ 0 && c.power.funcReset.map FuncReset.code ≠ some 28 && c.pdOn 10

/-- Whether this module wins the arbitration of R479 against a partner. -/
def Core.twinWins (c : Core) (primary : Bool) (mac : Nat) : Bool :=
  let mine := c.flag F.TWIN_CFG_PRIMARY
  if mine = primary then decide (c.mac 2 < mac) else mine

/-- A set or a frame is bad (R480, R483). -/
def Core.setBad (c : Core) : Core := (c.count R.TWIN_SET_BAD).raise F.TWIN_INT_STATUS_SET_BAD

/-- A full resync is asked of the partner (R484). -/
def Core.askResync (c : Core) : Core :=
  if c.twin.resync then c
  else
    let c := c.tetherSend 3 0x8000 c.time.n 0 0 []
    { c.setF F.TWIN_STATUS_READY 0 with twin := { c.twin with resync := true, ready := [] } }

/-- A waiting module has lost a set: READY clears and a resync is asked for (R483). -/
def Core.setLost (c : Core) : Core := if c.twinState = 3 then c.askResync else c

/-- What every tether frame tells of the partner: state, flags, address and epoch; the partner is seen; a module that plays stands
down before one of higher precedence; a waiting module takes its partner's epoch and asks for a resync (R477, R479, R494). -/
def Core.tetherSeen (c : Core) (f : Tether) (primary : Bool) : Core :=
  let up := c.flag F.TWIN_STATUS_TETHER_UP
  let c := ((c.setF F.TWIN_STATUS_PARTNER_FLAGS f.flags).setF F.TWIN_STATUS_TETHER_UP 1).raiseIf (!up) F.TWIN_INT_STATUS_TETHER_UP
  let c := { c with twin := { c.twin with
    partner := some { state := f.state, mac := f.mac, epoch := f.epoch, flags := f.flags, at_ := c.time.cycles } } }
  let c := if c.holdsReplies then c else c.releaseReplies fun k => decide (some k ≠ c.twin.due)
  let mine := (c.get R.TWIN_EPOCH).toNat
  let claims := f.state = 2 ∨ f.state = 4
  if c.twinPlays ∧ claims ∧ (f.epoch > mine ∨ (f.epoch = mine ∧ !c.twinWins primary f.mac)) then
    { c with twin := { c.twin with down := some (c.twin.down.getD c.nextB) } }
  else if (c.twinState = 1 ∨ c.twinState = 6) ∧ f.state = 2 then
    (c.put R.TWIN_EPOCH (.ofNat 32 (max mine f.epoch))).askResync
  else if c.twinWaits ∧ claims then c.put R.TWIN_EPOCH (.ofNat 32 (max mine f.epoch))
  else c

/-- A tether frame arrives: MAGIC, VERSION and, for what a playing partner sends, its EPOCH are checked (R480); then it is acted
upon. `plays` marks the kinds that a playing module sends. -/
def Core.tether (c : Core) (f : Tether) (plays primary : Bool) (act : Core → Core) : Core :=
  if !c.tetherOn then c
  else if f.magic ≠ 0x5457 ∨ f.version ≠ 1 ∨ (plays ∧ f.epoch < (c.get R.TWIN_EPOCH).toNat) then c.setBad
  else act (c.tetherSeen f primary)

/-- A PAIR frame: two pairing modules decide who becomes ACTIVE (R479). -/
def tetherPairReceive (f : Tether) (primary : Bool) (c : Core) : Core :=
  c.tether f false primary fun c =>
    if c.twinState = 1 ∧ f.state = 1 then (if c.twinWins primary f.mac then c.twinFirst else c.askResync) else c

/-- No partner has been seen for 2 s (R477, R479). -/
def pairingTimeout (c : Core) : Core :=
  if c.twinState ≠ 1 ∨ c.flag F.TWIN_STATUS_TETHER_UP then c
  else if c.flag F.TWIN_STATUS_WITNESS_SEEN then c.setTwin 6
  else if c.flag F.TWIN_CFG_PRIMARY then c.twinFirst else c

/-! ### Mirror sets (R481 to R484, R488) -/

/-- A number as the bytes of 32-bit words. -/
def intBytes (l : List Int) : List Byte := l.flatMap fun v => leBytes 4 (unsigned 32 v)

/-- Survey's live state. -/
def Core.surveyLive (c : Core) : SurveyLive :=
  { outs := c.survey.outs, timing := c.survey.timing, base := c.survey.base, c0 := c.survey.c0, proposal := c.survey.proposal,
    log := c.survey.log, logNext := c.survey.logNext }

/-- Survey's live state as bytes of a set. -/
def surveyBytes (x : SurveyLive) : List Byte :=
  x.outs.flatMap (fun o => natBytes [o.1, b2n o.2.managed, b2n o.2.speed, o.2.a0] ++ intBytes (o.2.gains ++ o.2.base ++ o.2.ests.flatten)) ++
    x.timing.flatMap (fun t => natBytes [t.1, b2n t.2.en, t.2.out, t.2.ch, t.2.d, t.2.lag]) ++
    x.base.flatMap (fun y => natBytes [y.1, y.2.n] ++ leBytes 16 (unsigned 128 y.2.sum)) ++ natBytes [x.c0, x.logNext]

/-- The words of a persistent region as they stand (R486). -/
def Core.regionWords (c : Core) (x : Nat × Nat × Nat) : List Word :=
  (List.range x.2.2).map fun i => smGet (fun _ => 0) c.brush.dm (32768 * c.phys x.1 + x.2.1 + i)

/-- The declared regions with their words (R481). -/
def Core.regionItems (c : Core) : List (Nat × List Word) :=
  c.twin.persist.filterMap fun x => x.2.map fun y => (x.1, c.regionWords y)

/-- The payload of the set of the block in hand, its items in the order of R481. -/
def Core.setPayload (c : Core) : List Byte :=
  c.twin.cmds.flatMap (fun x => packetBytes x.opcode x.packet ++ leBytes 4 x.status) ++
    c.twin.libs.flatMap (fun x => natBytes [x.num, x.kind, x.data.length] ++ x.data) ++
    (if c.surveyLive = c.twin.sent then [] else surveyBytes c.surveyLive) ++
    c.regionItems.flatMap fun x => wordsBytes x.2

/-- The fragments of a set of block k, of 9,152 bytes at most, leave (R480, R482). -/
def Core.sendParts : Nat → Nat → Nat → List Byte → Nat → Nat → Core → Core
  | 0, _, _, _, _, _, c => c
  | n + 1, i, k, bytes, len, check, c =>
    let last := bytes.length ≤ 9152
    let c := c.tetherSend 1 (i + (if last then 0x8000 else 0)) k len (if last then check else 0) (bytes.take 9152)
    if last then c else Core.sendParts n (i + 1) k (bytes.drop 9152) len check c

/-- The playing module sends the set of block k, which has just ended (R481, R482). -/
def Core.sendSet (c : Core) (k : Nat) : Core :=
  let bytes := c.setPayload
  let c := Core.sendParts (bytes.length / 9152 + 1) 0 k bytes bytes.length (crc32c bytes) c
  let c := (c.put64 R.TWIN_LAST_SET_LO R.TWIN_LAST_SET_HI k).setF F.TWIN_SET_SIZE_LAST bytes.length
  let c := (c.setF F.TWIN_SET_PEAK_PEAK (max (c.f F.TWIN_SET_PEAK_PEAK) bytes.length)).countW R.TWIN_SETS 1
  { c with twin := { c.twin with
    cmds := [], libs := [], sent := c.surveyLive, overruns := c.f F.RENDER_OVERRUN_COUNT + c.f F.OUTPROC_OVERRUN_COUNT,
    faulted := c.f F.ATELIER_FAULTED_COUNT } }

/-- The bytes of the fragments in order, when all of them are there. -/
def SetParts.whole (x : SetParts) : Option (List Byte) :=
  match x.last with
  | none => none
  | some (n, _) =>
    let l := (List.range (n + 1)).map fun i => (x.parts.find? (·.1 = i)).map (·.2)
    if l.all Option.isSome then some (l.flatMap fun o => o.getD []) else none

/-- The partner's BLOCK against the media count: the set of the block that has just ended is due (R488). -/
def Core.matchMedia (c : Core) (block : Nat) : Core :=
  let d := ((block + c.blk : Nat) : Int) - (c.time.n : Int)
  if d.natAbs > c.blk then
    if c.flag F.TWIN_STATUS_MEDIA_MATCH then
      ((c.setF F.TWIN_STATUS_MEDIA_MATCH 0).setF F.TWIN_STATUS_READY 0).raise F.TWIN_INT_STATUS_CONFLICT
    else c.setF F.TWIN_STATUS_READY 0
  else c.setF F.TWIN_STATUS_MEDIA_MATCH 1

/-- A fragment of a mirror set arrives; with the last missing one the set is checked (R480, R483). -/
def tetherMirrorReceive (f : Tether) (c : Core) : Core :=
  c.tether f true false fun c =>
    if !c.twinWaits then c
    else
      let c := c.matchMedia f.block
      let i := f.frag % 32768
      let old := (c.twin.sets.find? (·.block = f.block)).getD { block := f.block }
      let x : SetParts := { old with
        parts := old.parts.filter (fun y => decide (y.1 ≠ i)) ++ [(i, f.payload)], len := f.setLen, flags := f.flags,
        last := if f.frag ≥ 32768 then some (i, f.check) else old.last }
      let rest := c.twin.sets.filter fun y => decide (y.block ≠ f.block)
      match x.whole with
      | none => { c with twin := { c.twin with sets := rest ++ [x] } }
      | some bytes =>
        let c := { c with twin := { c.twin with sets := rest } }
        if bytes.length ≠ x.len ∨ some (crc32c bytes) ≠ x.last.map (·.2) then c.setBad.setLost
        else { c with twin := { c.twin with ready := c.twin.ready ++ [(f.block, x.len, x.flags)], missed := 0, from_ := none } }

/-- An ACK releases the held replies of its set (R485). -/
def tetherAckReceive (f : Tether) (c : Core) : Core :=
  c.tether f false false fun c => c.releaseReplies fun k => decide (k = f.block)

/-- A RESYNC_REQ: the playing module sends everything the sets would have built; what a frame holds is not laid out (R484). -/
def tetherResyncReqReceive (f : Tether) (c : Core) : Core :=
  c.tether f false false fun c => if c.twinPlays then c.tetherSend 4 0x8000 c.time.n 0 0 [] else c

/-- Firmware library writes of the partner take place here (R481). -/
def Core.libCopy (c : Core) (x : LibCopy) : Core := c.storeItem x.num x.kind x.data

/-- Survey takes the partner's live state. -/
def Core.surveyCopy (c : Core) (x : SurveyLive) : Core :=
  { c with survey := { c.survey with
    outs := x.outs, timing := x.timing, base := x.base, c0 := x.c0, proposal := x.proposal, log := x.log, logNext := x.logNext } }

/-- A persistent region takes words (R486). -/
def Core.regionCopy (c : Core) (n : Nat) (ws : List Word) : Core :=
  match smGet (fun _ => none) c.twin.persist n with
  | none => c
  | some x =>
    let base := 32768 * c.phys x.1 + x.2.1
    { c with brush := { c.brush with
      dm := ((ws.take x.2.2).zipIdx).foldl (fun m y => smSet (fun _ => 0) m (base + y.2) y.1) c.brush.dm } }

/-- A part of a resync takes the place of what stood here (R484). -/
def Core.resyncPart (c : Core) : ResyncPart → Core
  | .layouts l s => { c with scene := { c.scene with live := l, staged := s } }
  | .objects l => { c with scene := { c.scene with objs := l } }
  | .chains l s => { c with out := { c.out with live := l, staged := s } }
  | .routes l s => { c with arm := { c.arm with live := l, staged := s } }
  | .params core dm ws =>
    let base := 32768 * c.phys core + dm
    { c with brush := { c.brush with dm := ws.zipIdx.foldl (fun m y => smSet (fun _ => 0) m (base + y.2) y.1) c.brush.dm } }
  | .regs l => l.foldl (fun (c : Core) x => c.put x.1 x.2) c
  | .rxStream s d => (c.setRxStream s { c.rxStream s with defn := d }).rxStart s c.nextB
  | .txStream s d => (c.setTxStream s { c.txStream s with defn := d }).txStart s c.nextB
  | .groups l => { c with arm := { c.arm with groups := l } }
  | .pair n s => { c with mon := { c.mon with pairs := smSet (fun _ => {}) c.mon.pairs n { smGet (fun _ => {}) c.mon.pairs n with set := s } } }
  | .mix n s => { c with mon := { c.mon with mixes := smSet (fun _ => {}) c.mon.mixes n { smGet (fun _ => {}) c.mon.mixes n with set := s } } }
  | .item x => c.libCopy x
  | .survey x => c.surveyCopy x
  | .region n ws => c.regionCopy n ws

/-- A RESYNC_DATA frame, with the part of the state that it carries (R484). -/
def tetherResyncDataReceive (f : Tether) (part : ResyncPart) (c : Core) : Core :=
  c.tether f true false fun c => if c.twin.resync then c.resyncPart part else c

/-- Whether nothing but a set to come keeps a STANDBY from READY (R483, R488, R496). -/
def Core.twinReady (c : Core) (version : Word) : Bool :=
  c.twinState = 3 && !c.twin.resync && c.flag F.TWIN_STATUS_MEDIA_MATCH && !c.flag F.SYS_STATUS_THERM_HOLD &&
    version = c.get R.UPDATE_ACTIVE_VERSION

/-- A full resync completes (R484); a pairing or isolated module becomes STANDBY (R477). -/
def resyncComplete (version : Word) (c : Core) : Core :=
  if !c.twin.resync then c
  else
    let tok := c.twin.tok
    let c := { c with twin := { c.twin with resync := false, tok := none, missed := 0, from_ := none, decide_ := none } }
    let c := if c.twinState = 1 ∨ c.twinState = 6 then c.setTwin 3 else c
    let c := if c.twinReady version then c.setF F.TWIN_STATUS_READY 1 else c
    ((c.raise F.TWIN_INT_STATUS_RESYNC_DONE).count R.TWIN_RESYNC_COUNT).notice? tok .ok []

/-- What follows the commands of a set that is applied at the boundary: library items, Survey's live state and regions, the ACK, READY
and a trigger flag (R481, R483, R489). -/
def Core.applySet (c : Core) (set : Nat × Nat × Nat) (items : MirrorItems) : Core :=
  let c := items.libs.foldl Core.libCopy c
  let c := match items.survey with
    | some x => c.surveyCopy x
    | none => c
  let c := items.regions.foldl (fun (c : Core) x => c.regionCopy x.1 x.2) c
  let c := { c with twin := { c.twin with ready := c.twin.ready.drop 1 } }
  let c := c.tetherSend 2 0x8000 set.1 0 0 []
  let c := ((c.put64 R.TWIN_LAST_SET_LO R.TWIN_LAST_SET_HI set.1).setF F.TWIN_SET_SIZE_LAST set.2.1).countW R.TWIN_SETS 1
  let c := c.setF F.TWIN_SET_PEAK_PEAK (max (c.f F.TWIN_SET_PEAK_PEAK) set.2.1)
  let was := c.flag F.TWIN_STATUS_READY
  let c := c.setB F.TWIN_STATUS_READY (c.twinReady items.version)
  let hit : Bool := decide (set.2.2 &&& c.f F.TWIN_TRIGGER_FLAGS &&& 0x17 ≠ 0)
  if (was && hit && c.twin.due.isNone && !c.flag F.HOST_STATUS_RESTARTING) = true then { c with twin := { c.twin with due := some c.nextB } } else c

/-- A RELINQUISH frame decides D: the first boundary after it (R489, R496). -/
def tetherRelinquishReceive (f : Tether) (c : Core) : Core :=
  c.tether f true false fun c =>
    if c.twinState = 3 ∧ c.flag F.TWIN_STATUS_READY ∧ !c.flag F.HOST_STATUS_RESTARTING ∧ !c.twin.fixed then
      { c with twin := { c.twin with due := some c.nextB, decide_ := none, fixed := true } }
    else c

/-- The boundary that ends block k + 1 judges the set of block k (R488): with a third missing set in a row, heartbeat loss is
declared and the check of R490 is decided later or at once. -/
def Core.judgeSet (c : Core) : Core :=
  let b := c.time.n
  if c.twinState ≠ 3 ∨ c.twin.resync ∨ b < 2 * c.blk then c
  else
    let k := b - 2 * c.blk
    if c.get64 R.TWIN_LAST_SET_LO R.TWIN_LAST_SET_HI ≥ k ∨ c.twin.ready.any fun x => decide (x.1 ≥ k) then
      { c with twin := { c.twin with missed := 0, from_ := none } }
    else
      let first := c.twin.missed = 0
      let was := if first then c.flag F.TWIN_STATUS_READY else c.twin.wasReady
      let s := if first then k else c.twin.from_.getD k
      let c := { c with twin := { c.twin with missed := c.twin.missed + 1, from_ := some s, wasReady := was } }
      let c := if first then c.setF F.TWIN_STATUS_WITNESS_SEEN 0 else c
      let c := ((c.count R.TWIN_SET_MISSING).raise F.TWIN_INT_STATUS_SET_MISSING).setF F.TWIN_STATUS_READY 0
      if c.twin.missed < 3 then c
      else if c.twin.missed > 3 ∨ c.twin.decide_.isSome ∨ c.twin.due.isSome ∨ c.flag F.HOST_STATUS_RESTARTING then c
      else
        let w := c.f F.TWIN_CFG_WITNESS
        if w > 255 then (if was then { c with twin := { c.twin with due := some b } } else c)
        else
          let p := packetSamples c.clk.mult (defPtime (c.txStream w).defn)
          { c with twin := { c.twin with decide_ := some (max b (c.boundaryAt (s + 2 * p + 16))) } }

/-- The decision boundary of R490 has come. -/
def witnessDecision (c : Core) : Core :=
  match c.twin.decide_ with
  | none => c
  | some d =>
    if c.time.n < d ∨ c.twinState ≠ 3 then c
    else
      let c := { c with twin := { c.twin with decide_ := none } }
      let seen := match c.twin.witness, c.twin.from_ with
        | some m, some s => decide (s ≤ m)
        | _, _ => false
      if seen then
        let c := (c.raise F.TWIN_INT_STATUS_TETHER_LOST).raise F.TWIN_INT_STATUS_ISOLATED
        ((c.count R.TWIN_TETHER_LOST).setF F.TWIN_STATUS_READY 0).setTwin 6
      else if c.twin.wasReady then { c with twin := { c.twin with due := some d } }
      else c.askResync

/-! ### Takeover (R489, R491) -/

/-- Step 1 of a takeover, at anchor D. -/
def takeover (c : Core) : Core :=
  match c.twin.due with
  | none => c
  | some d =>
    if c.time.n < d ∨ !c.twinWaits then c
    else
      let c := c.releaseReplies fun k => decide (k = d)
      let c := { c with twin := { c.twin with due := none, decide_ := none, anchor := some d, released := false, fixed := false,
                                              switch := none, resync := false, sets := [], ready := [], missed := 0, from_ := none } }
      let c := (c.setTwin 4).smudgeEnd
      let c := ((c.put R.TWIN_EPOCH (c.get R.TWIN_EPOCH + 1)).count R.TWIN_TAKEOVER_COUNT).raise F.TWIN_INT_STATUS_TAKEOVER
      let c := (c.setF F.TWIN_STATUS_READY 0).setF F.SYS_STATUS_OUTPUT_HELD 0
      c.twinWake.takeAliases

/-- Steps 3 to 6 of the takeover that runs, at a boundary. -/
def Core.takeoverTurn (c : Core) : Core :=
  match c.twin.anchor with
  | none => c
  | some d =>
    let b := c.time.n
    let hit := fun (n : Nat) => decide (b ≥ d + n) && decide (b < d + n + c.blk)
    let c := if hit c.blk then (c.startEngines b).fadeInFrom (d + 5 * c.blk) else c
    let c := if hit (2 * c.blk) then { c with twin := { c.twin with released := true } }.txShowAll else c
    if b ≥ d + 4 * c.blk then
      let c := { c with twin := { c.twin with anchor := none } }
      (c.setTwin 2).raise F.TWIN_INT_STATUS_TAKEOVER_DONE
    else c

/-! ### Switch-over (R492) -/

/-- A SWITCH frame names B in BLOCK; G is the Glaze length that the partner uses. PD4 to PD9 wake. -/
def tetherSwitchReceive (f : Tether) (g : Nat) (c : Core) : Core :=
  c.tether f true false fun c =>
    if c.twinState ≠ 3 ∨ !c.flag F.TWIN_STATUS_READY then c
    else { c with twin := { c.twin with switch := some { b := f.block, g := g, mine := false } } }.twinWake

/-- 12 blocks before B the partner's Caliper computes every target; its delivery carries zeros. -/
def switchoverPrepare (c : Core) : Core :=
  match c.twin.switch with
  | none => c
  | some s =>
    if s.mine ∨ s.prepared ∨ c.time.n + 12 * c.blk < s.b ∨ !c.clk.mediaOn then c
    else
      let c := { c with twin := { c.twin with switch := some { s with prepared := true } } }
      (c.startEngines c.time.n).cutAudio

/-- B: the roles exchange (R492, step 4). -/
def switchover (c : Core) : Core :=
  match c.twin.switch with
  | none => c
  | some s =>
    if s.past ∨ c.time.n < s.b ∨ !c.clk.mediaOn then c
    else
      let c := { c with twin := { c.twin with switch := some { s with past := true } } }
      if s.mine then
        let c := (c.releaseReplies fun _ => true).cutAudio
        ((c.setTwin 3).setF F.TWIN_STATUS_READY 0).aliases false
      else
        let c := (c.put R.TWIN_EPOCH (c.get R.TWIN_EPOCH + 1)).setTwin 2
        let c := (c.setF F.TWIN_STATUS_READY 0).takeAliases
        { c with clk := { c.clk with gate := .fadeIn s.b s.g, dpGate := .fadeIn s.b s.g, dpCut := false, fadeInAt := none } }

/-- G after B (R492, step 5). -/
def switchoverGlazeEnd (c : Core) : Core :=
  match c.twin.switch with
  | none => c
  | some s =>
    if !s.past ∨ c.time.n < s.b + s.g then c
    else
      let c := { c with twin := { c.twin with switch := none } }
      let c := (c.raise F.TWIN_INT_STATUS_SWITCH_DONE).count R.TWIN_SWITCHOVER_COUNT
      let c := if s.mine then (c.stopEngines.setF F.SYS_STATUS_STATE 2).plinth else c
      c.notice? s.tok .ok []

/-! ### A block boundary -/

/-- Frames of the partner have arrived within three blocks. -/
def Core.tetherFresh (c : Core) : Bool :=
  match c.twin.partner with
  | some p => decide ((c.time.cycles - p.at_) * c.fsHz ≤ 3 * c.blk * 250000000)
  | none => false

/-- The module stands down before a partner of higher precedence (R494). -/
def Core.standDown (c : Core) : Core :=
  let c := { c with twin := { c.twin with down := none, switch := none } }
  (((c.releaseReplies fun _ => true).raise F.TWIN_INT_STATUS_CONFLICT).twinWait 3).askResync

/-- What twin operation does at the boundary that ends the block from `old` on. -/
def Core.twinTurn (c : Core) (old : Nat) : Core :=
  if !c.tetherOn then { c with twin := { c.twin with cmds := [], libs := [] } }
  else
    let c := if c.flag F.TWIN_STATUS_TETHER_UP ∧ !c.tetherFresh then
        (c.setF F.TWIN_STATUS_TETHER_UP 0).releaseReplies fun k => decide (some k ≠ c.twin.due) else c
    let c := if c.twinPlays then c.sendSet old else c
    let c := if c.twinState = 1 then c.tetherSend 7 0x8000 c.time.n 0 0 [] else c
    let c := match c.twin.down with
      | some b => if c.time.n ≥ b ∧ c.twinPlays then c.standDown else c
      | none => c
    let c := match c.twin.switch with
      | some s =>
        if s.mine ∧ !s.faded ∧ c.time.n + s.g ≥ s.b then
          { c.fadeOut (s.b - s.g) s.g with twin := { c.twin with switch := some { s with faded := true } } }
        else c
      | none => c
    let c := if c.flag F.SYS_STATUS_THERM_HOLD then c.setF F.TWIN_STATUS_READY 0 else c
    c.judgeSet.takeoverTurn

/-! ### Opcodes (R497) -/

def opTwinStatus : Opc := { code := 0x0D00, len := (· = 0) }

/-- TWIN_STATUS_GET: the counters of class S are cleared as by a read. -/
def twinStatusBody : Body := fun c _ =>
  let rs := [R.TWIN_STATUS, R.TWIN_EPOCH, R.TWIN_LAST_SET_LO, R.TWIN_LAST_SET_HI, R.TWIN_SET_SIZE]
  let ks := [R.TWIN_TAKEOVER_COUNT, R.TWIN_SWITCHOVER_COUNT, R.TWIN_SET_MISSING, R.TWIN_SET_BAD, R.TWIN_RESYNC_COUNT, R.TWIN_TETHER_LOST]
  okW (ks.foldl (fun (c : Core) r => c.put r 0) c) ((rs ++ ks ++ [R.TWIN_SETS]).map fun r => (c.get r).toNat)

/-- TWIN_CFG, TWIN_TRIGGER and the aliases take values; EN from 0 to 1 starts pairing (R477). -/
def Core.twinApply (c : Core) (cfg trigger a0 a1 a3 : Word) : Core :=
  let c := ((((c.put R.TWIN_CFG cfg).put R.TWIN_TRIGGER trigger).put R.TWIN_ALIAS0 a0).put R.TWIN_ALIAS1 a1).put R.TWIN_ALIAS3 a3
  if c.twinState = 0 ∧ bitOf cfg 0 then
    { c.twinWait 1 with twin := { persist := c.twin.persist } }.setF F.TWIN_STATUS_TETHER_UP 0
  else c

def opTwinConfig : Opc := { code := 0x0D01, len := (· = 20) }

/-- TWIN_CONFIG. -/
def twinConfigBody : Body := fun c r =>
  let cfg := r.w 0
  let w := bitsOf cfg 16 8
  if cfg &&& 0x00FE00F8 ≠ 0 ∨ r.w 1 &&& 0xFFFFFFE0 ≠ 0 then ans c .badParam
  else if w > 255 ∧ w ≠ 0x1FF then ans c .outOfRange
  else
    let old := c.get R.TWIN_CFG
    let same := cfg &&& 0xFF000002 = old &&& 0xFF000002 ∧ r.w 2 = c.get R.TWIN_ALIAS0 ∧ r.w 3 = c.get R.TWIN_ALIAS1 ∧
      r.w 4 = c.get R.TWIN_ALIAS3
    if !bitOf cfg 0 then ans (c.twinLeave.twinApply cfg (r.w 1) (r.w 2) (r.w 3) (r.w 4)) .ok
    else if c.twinState ≠ 0 ∧ !same then ans c .notPermitted
    else ans (c.twinApply cfg (r.w 1) (r.w 2) (r.w 3) (r.w 4)) .ok

def opTwinSwitchover : Opc := { code := 0x0D02, timeable := true, len := (· = 4), lateTime := true, eager := true }

/-- TWIN_SWITCHOVER: B at least max(256, G + 32) samples ahead (R492). -/
def twinSwitchoverBody : Body := fun c r =>
  let g := if r.n 0 = 0 then c.glaze else r.n 0
  let lead := c.now + max 256 (g + 32)
  let b := r.boundary c (c.boundaryAt lead)
  if g < 16 ∨ g > 4096 ∨ g % 16 ≠ 0 then ans c .outOfRange
  else if c.twinState ≠ 2 ∨ !c.partnerReady ∨ !c.flag F.TWIN_STATUS_MEDIA_MATCH then ans c .notPermitted
  else if b < lead then ans c .stale
  else
    let c := { c with twin := { c.twin with switch := some { b := b, g := g, mine := true, tok := some r.tok } } }
    ans ((c.smudgeEnd.tetherSend 5 0x8000 b 0 0 []).setTwin 5) .accepted

def opTwinForce : Opc := { code := 0x0D03, len := (· = 0) }

/-- TWIN_FORCE: a takeover at the first boundary after the command; its reply goes out at D (R489, R497). -/
def twinForceBody : Body := fun c _ =>
  if c.twinState = 0 ∨ c.twinState = 2 ∨ c.twinState = 5 then ans c .notPermitted
  else if c.twinState = 4 then ans c .ok
  else ans { c with twin := { c.twin with due := some c.nextB, decide_ := none, fixed := true } } .ok

def opTwinLeave : Opc := { code := 0x0D04, len := (· = 0) }

/-- TWIN_LEAVE. -/
def twinLeaveBody : Body := fun c _ => ans c.twinLeave .ok

def opTwinPersist : Opc := { code := 0x0D05, expert := true, len := (· = 16) }

/-- TWIN_PERSIST_DECLARE: within R486. -/
def twinPersistBody : Body := fun c r =>
  let n := r.n 0
  let words := r.n 3
  let put := fun (x : Option (Nat × Nat × Nat)) => { c with twin := { c.twin with persist := smSet (fun _ => none) c.twin.persist n x } }
  let others := (c.twin.persist.filter fun x => decide (x.1 ≠ n)).foldl (fun a x => a + x.2.elim 0 (·.2.2)) 0
  if n > 15 ∨ words > 32768 then ans c .outOfRange
  else if words = 0 then ans (put none) .ok
  else if !c.brush.custom.contains (r.n 1) ∨ r.n 2 + words > 32768 then ans c .outOfRange
  else if 4 * (others + words) > c.setLimit / 2 then ans c .noResource
  else ans (put (some (r.n 1, r.n 2, words))) .ok

def opTwinResync : Opc := { code := 0x0D06, len := (· = 0) }

/-- TWIN_RESYNC. -/
def twinResyncBody : Body := fun c r =>
  if c.twinState ≠ 3 ∧ c.twinState ≠ 6 then ans c .notPermitted
  else if c.twin.tok.isSome then ans c .busy
  else
    let c := c.askResync
    ans { c with twin := { c.twin with tok := some r.tok } } .accepted

end Sys2Proof.Machine
end

