-- ==== Sys2Proof/Machine/HealthCmd.lean ====
section
/-! DEFINITION. Function stalls, the health and Smudge opcodes, and Smudge's registers (R522, R527 to R534). -/

namespace Sys2Proof.Machine

/-! ### Functions that stall (R522) -/

/-- FUNCTION_STALL: a function has missed two blocks in a row, or the flash controller a command of 50 ms. -/
def functionStall (code : Nat) (c : Core) : Core :=
  if code > 28 ∨ (11 ≤ code ∧ code ≤ 19) then c
  else if bitOf (c.get R.HEALTH_AUTO_RESET) code then
    let x := c.funcRequest code (decide (20 ≤ code ∧ code ≤ 23)) none
    if x.1 = .accepted then
      ((x.2.count R.HEALTH_AUTO_RESETS).raise F.HEALTH_INT_STATUS_AUTO_RESET).note 10 8 code 0 0
    else c
  else c.suspect 8 code 0 0

/-! ### Health opcodes (R527, R528, R534) -/

def opHealthStatus : Opc := { code := 0x0E00, len := (· = 0) }

/-- HEALTH_STATUS_GET: the counters of class S are cleared as by a read. -/
def healthStatusBody : Body := fun c _ =>
  let rs := [R.HEALTH_STATUS, R.HEALTH_CAPACITY, R.RENDER_ENGINE_MAP, R.RENDER_LANE_SPARE, R.RENDER_LANE_RETIRED, R.RENDER_LANE_RETIRED8]
  let ks := [R.HEALTH_SUSPECT, R.HEALTH_SWAPS, R.HEALTH_RETIRED, R.HEALTH_SELFTEST_FAIL, R.HEALTH_AUTO_RESETS, R.HEALTH_LEDGER_DROP]
  okW (ks.foldl (fun (c : Core) r => c.put r 0) c)
    ((rs ++ ks ++ [R.HEALTH_PATROLS, R.HEALTH_SELFTEST_RUNS]).map fun r => (c.get r).toNat)

def opHealthConfig : Opc := { code := 0x0E01, len := (· = 16) }

/-- HEALTH_CONFIG. -/
def healthConfigBody : Body := fun c r =>
  if r.w 0 &&& 0xFFFFFFFC ≠ 0 ∨ r.w 1 &&& 0xE00FF800 ≠ 0 ∨ r.w 2 &&& 0xFF000000 ≠ 0 then ans c .badParam
  else if bitsOf (r.w 2) 15 0 < 16 ∨ bitsOf (r.w 2) 23 16 = 0 then ans c .outOfRange
  else ans ((((c.put R.HEALTH_CTRL (r.w 0)).put R.HEALTH_AUTO_RESET (r.w 1)).put R.HEALTH_PATROL (r.w 2)).put R.HEALTH_THRESH
    (r.w 3)).healthShow .ok

/-- The oldest index that the ring holds, and the next one. -/
def Core.ledgerSpan (c : Core) : Nat × Nat := (c.ledgerNext - 65536, c.ledgerNext)

def opPatinaRead : Opc := { code := 0x0E02, len := (· = 12) }

/-- PATINA_READ: the records held from an index onward. -/
def patinaReadBody : Body := fun c r =>
  let n := r.n 2
  if n = 0 ∨ n > 64 then ans c .outOfRange
  else
    let first := max (r.n 0 + 2 ^ 32 * r.n 1) c.ledgerSpan.1
    let l := (List.range n).filterMap fun i => (smGet (fun _ => none) c.health.ledger (first + i)).map fun x => ledgerBytes (first + i) x
    (c, .ok, l.flatten)

def opPatinaInfo : Opc := { code := 0x0E03, len := (· = 0) }

/-- PATINA_INFO. -/
def patinaInfoBody : Body := fun c _ =>
  let s := c.ledgerSpan
  okW c [s.1 % 2 ^ 32, s.1 / 2 ^ 32, s.2 % 2 ^ 32, s.2 / 2 ^ 32, (c.get R.HEALTH_LEDGER_DROP).toNat]

/-- The number of units of a resource (R513, R528). -/
def unitCountOf (res : Nat) : Nat := [0, 36, 9, 68, 64, 8, 5464, 8, 29].getD res 0

/-- The state of a unit as UNIT_GET reads it. -/
def Core.unitState (c : Core) (res u : Nat) : Nat :=
  let s := (c.unit res u).state
  if s ≠ 0 then s
  else if res = 1 ∧ u ≥ 32 then (if c.standing (u - 32) then 3 else 1)
  else if res = 2 then
    match c.engineState u with
    | 0 => 0 | 1 => 1 | 4 => 3 | 5 => 4 | _ => if u = 8 then 1 else 3
  else if res = 3 ∧ (c.logical u).isNone then 1 else 0

def opUnitGet : Opc := { code := 0x0E04, len := (· = 12) }

/-- UNIT_GET. -/
def unitGetBody : Body := fun c r =>
  let n := r.n 2
  if r.n 0 = 0 ∨ r.n 0 > 8 ∨ n = 0 ∨ n > 64 ∨ r.n 1 + n > unitCountOf (r.n 0) then ans c .outOfRange
  else okW c ((List.range n).flatMap fun i =>
    let x := c.unit (r.n 0) (r.n 1 + i)
    [c.unitState (r.n 0) (r.n 1 + i), x.differ, x.corrected, x.selftest, x.retiredAt % 2 ^ 32, x.retiredAt / 2 ^ 32])

def opSpareSwap : Opc := { code := 0x0E05, expert := true, len := (· = 8) }

/-- Lanes are handled at the next boundary as after a difference; the last one's return is told (R517). -/
def Core.swapLanes (c : Core) (x : List (Nat × Nat)) (tok : Tok) : Core :=
  let ps := x.zipIdx.map fun y =>
    ({ lanes := [y.1.1], spares := [y.1.2], at_ := c.time.n, differ := [y.1.1],
       tok := if y.2 + 1 = x.length then some tok else none } : Patrol)
  { c with health := { c.health with patrols := c.health.patrols ++ ps } }

/-- SPARE_SWAP: a lane, an engine or a Brush core is handled as after a difference. -/
def spareSwapBody : Body := fun c r =>
  let u := r.n 1
  let free := c.re8Free
  if r.n 0 = 0 ∨ r.n 0 > 3 ∨ u ≥ [0, 32, 8, 68].getD (r.n 0) 0 then ans c .outOfRange
  else if r.n 0 = 1 then
    if c.laneRetired u ∨ c.stoodIn u then ans c .badParam
    else
      match free with
      | [] => ans c .noResource
      | m :: _ => ans ((c.swapLanes [(u, m)] r.tok).healthShow) .accepted
  else if r.n 0 = 2 then
    if c.engineState u ≠ 0 then ans c .badParam
    else if free.length < 4 then ans c .noResource
    else ans (c.swapLanes ((List.range 4).map fun m => (4 * u + m, m)) r.tok).healthShow .accepted
  else if (c.logical u).isNone then ans c .badParam
  else if (c.spareOf (groupOfCore u)).isNone ∨ (c.migOf (groupOfCore u)).isSome then ans c .noResource
  else ans (c.migBegin u false false (some r.tok)).healthShow .accepted

/-! ### Maintenance mode (R530, R533) -/

/-- The twin states in which Smudge is refused: PAIRING, ACTIVE, TAKING_OVER and HANDING_OVER. -/
def Core.smudgeBarred (c : Core) : Bool := [1, 2, 4, 5].contains c.twinState

def opSmudgeChallenge : Opc := { code := 0x0E80, expert := true, len := (· = 0) }

/-- SMUDGE_CHALLENGE: V is a free value. -/
def smudgeChallengeBody : Body := fun c r =>
  let x := c.free
  let v : Word := .ofNat 32 x.1
  okW { x.2 with health := { x.2.health with chal := some (r.p.session.toNat, v, c.time.cycles) } } [v.toNat]

/-- V is voided 10 s after it was issued. -/
def smudgeChallengeExpire (c : Core) : Core :=
  match c.health.chal with
  | some x => if c.time.cycles ≥ x.2.2 + 2500000000 then { c with health := { c.health with chal := none } } else c
  | none => c

def opSmudgeUnlock : Opc := { code := 0x0E81, expert := true, len := (· = 8) }

/-- SMUDGE_UNLOCK: the key is V XOR 0x534D_5544, from the same session within 10 s. -/
def smudgeUnlockBody : Body := fun c r =>
  let secs := if r.n 1 = 0 then 600 else r.n 1
  if secs > 3600 then ans c .outOfRange
  else if c.smudgeBarred then ans c .notPermitted
  else
    let d := { c with health := { c.health with chal := none } }
    match c.health.chal with
    | some x =>
      if x.1 = r.p.session.toNat ∧ r.w 0 = x.2.1 ^^^ 0x534D5544 ∧ c.time.cycles < x.2.2 + 2500000000 then
        let d := { d with health := { d.health with maint := some (x.1, c.time.cycles + secs * 250000000) } }
        let d := ((d.setF F.HEALTH_STATUS_MAINT 1).setF F.SMUDGE_STATUS_MAINT 1).setF F.SMUDGE_STATUS_REMAIN secs
        ans (d.ledger 11 0 0 1 0 true) .ok
      else ans d .notPermitted
    | none => ans d .notPermitted

def opSmudgeLock : Opc := { code := 0x0E83, expert := true, len := (· = 0) }

/-- SMUDGE_LOCK. -/
def smudgeLockBody : Body := fun c _ => ans c.smudgeEnd .ok

/-- The duration of maintenance mode has ended. -/
def smudgeTimeout (c : Core) : Core :=
  match c.health.maint with
  | some x => if c.time.cycles ≥ x.2 then c.smudgeEnd.raise F.SMUDGE_INT_STATUS_TIMEOUT else c
  | none => c

/-! ### Arming (R531) -/

/-- The registers of a class, in offset order. -/
def smudgeRegs (cls : Nat) : List Nat :=
  match cls with
  | 0 => [R.SMUDGE_FABRIC, R.SMUDGE_FABRIC_PORT] | 1 => [R.SMUDGE_ATELIER] | 2 => [R.SMUDGE_LANE_MASK, R.SMUDGE_LANE]
  | 3 => [R.SMUDGE_NET] | 4 => [R.SMUDGE_PTP, R.SMUDGE_PTP_OFFSET] | 5 => [R.SMUDGE_CLOCK] | _ => [R.SMUDGE_FLASH]

/-- Reserved bits of a register of Smudge. -/
def smudgeReserved (off : Nat) : Word :=
  if off = R.SMUDGE_FABRIC then 0x0000FF80 else if off = R.SMUDGE_FABRIC_PORT then 0xFFFFFF80
  else if off = R.SMUDGE_ATELIER then 0xFF00FC00 else if off = R.SMUDGE_LANE then 0x030000F0
  else if off = R.SMUDGE_NET then 0xFF0000CC else if off = R.SMUDGE_PTP then 0xFFFFFFF0
  else if off = R.SMUDGE_CLOCK then 0x7FFFFFF0 else if off = R.SMUDGE_FLASH then 0xFFFF0000 else 0

/-- Whether a register of Smudge holds a value outside its range. -/
def smudgeRange (off : Nat) (w : Word) : Bool :=
  (off = R.SMUDGE_ATELIER && (bitsOf w 9 0 = 0 || decide (bitsOf w 9 0 > 512))) || (off = R.SMUDGE_CLOCK && decide (bitsOf w 3 0 > 7))

/-- A single trip of the monitor that SMUDGE_CLOCK selects, as R76 or R85 gives (R531). -/
def Core.smudgeTrip (c : Core) : Core :=
  let mon := c.f F.SMUDGE_CLOCK_MON
  if !c.armed 5 ∨ mon > 7 then c
  else
    let c := c.smudgeHit 5
    if mon = 0 then c.refInTrip else if mon = 1 then mediaMonitorTrip c
    else if mon ≤ 5 then serdesPllLoss (mon - 2) c else if mon = 6 then hostClockLoss c else aonMonitorTrip c

/-- A class arms or disarms at its boundary (R531, R532). -/
def Core.smudgeApply (c : Core) (d : SmudgeDue) : Core :=
  let bit : Field := ⟨R.SMUDGE_STATUS, 1 + d.cls, 1 + d.cls⟩
  let go := d.regs.any fun x => x.1 = R.SMUDGE_CLOCK && bitOf x.2 31
  let c := d.regs.foldl (fun (c : Core) x => c.put x.1 (if x.1 = R.SMUDGE_CLOCK then withBits x.2 31 31 0 else x.2)) c
  let c := (c.setB bit d.on).setB ⟨R.SMUDGE_ARM, d.cls, d.cls⟩ d.on
  let c := c.setB F.HEALTH_STATUS_SMUDGE_ARMED (c.f F.SMUDGE_STATUS_ARMED ≠ 0)
  let c := if d.on then
      let seed := c.get R.SMUDGE_SEED
      let c := { c with health := { c.health with lfsr := if seed = 0 then 1 else seed } }
      if go then c.smudgeTrip else c
    else c.raise F.SMUDGE_INT_STATUS_DISARMED
  (c.ledger 11 0 d.cls (2 + b2n d.on) 0 true).notice? d.tok .ok []

/-- What Smudge does at a boundary: arms that are due, and the time left. -/
def Core.smudgeTurn (c : Core) : Core :=
  match c.health.maint with
  | none => c
  | some x =>
    let l := c.health.due.filter fun d => decide (d.b ≤ c.time.n)
    let c := { c with health := { c.health with due := c.health.due.filter fun d => decide (c.time.n < d.b) } }
    (l.foldl Core.smudgeApply c).setF F.SMUDGE_STATUS_REMAIN (ceilDiv (x.2 - c.time.cycles) 250000000)

def opSmudgeSet : Opc := { code := 0x0E82, expert := true, timeable := true, len := fun n => n = 12 || n = 16, lateTime := true, eager := true }

/-- SMUDGE_SET: a class arms or disarms at the first boundary at least 2 blocks after, or at AT_TIME. -/
def smudgeSetBody : Body := fun c r =>
  let cls := r.n 0
  let regs := smudgeRegs cls
  if cls > 6 ∨ r.n 1 > 1 then ans c .outOfRange
  else if r.bytes.length ≠ 8 + 4 * regs.length then ans c .badLength
  else
    let ws := regs.zipIdx.map fun x => (x.1, r.w (2 + x.2))
    if ws.any fun x => x.2 &&& smudgeReserved x.1 ≠ 0 then ans c .badParam
    else if ws.any fun x => smudgeRange x.1 x.2 then ans c .outOfRange
    else if c.health.maint.isNone ∨ c.smudgeBarred then ans c .notPermitted
    else
      let d : SmudgeDue := { b := r.boundary c (c.boundaryAt (c.now + 2 * c.blk)), cls := cls, on := r.n 1 = 1, regs := ws, tok := none }
      ans { c with health := { c.health with due := c.health.due ++ [d] } } .ok

/-- A write to the SMUDGE window other than its W1C bits outside maintenance mode is ignored and raises REFUSED. -/
def Core.smudgeWrite (c : Core) (m off : Nat) (v : Word) (hold : Nat) (act : Core → Core) : Core :=
  if off = R.SMUDGE_INT_STATUS ∨ c.health.maint.isSome ∨ c.gated off ∨ !regPath m off then c.busWrite ⟨m, off, v⟩ hold act
  else c.raise F.SMUDGE_INT_STATUS_REFUSED

/-- SMUDGE_ARM is written: a bit that changes arms or disarms its class at the next boundary R531 allows. -/
def smudgeArmWrite (m : Nat) (v : Word) (c : Core) : Core :=
  let old := c.get R.SMUDGE_ARM
  c.smudgeWrite m R.SMUDGE_ARM v 0 fun c =>
    let b := c.boundaryAt (c.now + 2 * c.blk)
    let l := (List.range 7).filterMap fun k =>
      if bitOf old k = bitOf v k then none else some ({ b := b, cls := k, on := bitOf v k, regs := [], tok := none } : SmudgeDue)
    if c.smudgeBarred then (c.put R.SMUDGE_ARM old).raise F.SMUDGE_INT_STATUS_REFUSED
    else { c with health := { c.health with due := c.health.due ++ l } }

/-- SMUDGE_CLOCK is written with GO: the monitor that MON selects trips once while class 5 is armed. -/
def smudgeClockGo (m : Nat) (v : Word) (c : Core) : Core :=
  c.smudgeWrite m R.SMUDGE_CLOCK v 0x80000000 fun c => if bitOf v 31 then c.smudgeTrip else c

end Sys2Proof.Machine
end

