-- ==== Sys2Proof/Machine/Host.lean ====
section
/-! DEFINITION. Sessions, rings, mailboxes, doorbells and hold registers (chapter 6). -/

namespace Sys2Proof.Machine

/-! ### UDP reassembly (R139) -/

/-- The bytes of a datagram whose fragments are all there. -/
def assemble : Nat → List (Nat × List Byte × Bool) → List Byte → Option (List Byte)
  | 0, _, _ => none
  | n + 1, parts, acc =>
    match parts.find? (·.1 = acc.length) with
    | none => none
    | some (_, b, more) => if more then (if b.isEmpty then none else assemble n parts (acc ++ b)) else some (acc ++ b)

/-- An IPv4 fragment for port 52080 arrives: its byte offset, its bytes and its More Fragments flag. -/
def ipv4FragmentReceive (src ident offset : Nat) (bytes : List Byte) (more : Bool) (c : Core) : Core :=
  let same := fun (r : Reasm) => r.src = src && r.ident = ident
  let old := c.host.reasm.find? same
  if old.isNone ∧ c.host.reasm.length ≥ 16 then c
  else
    let parts := (old.map (·.parts)).getD [] ++ [(offset, bytes, more)]
    let rest := c.host.reasm.filter fun r => !same r
    let c := { c with host := { c.host with reasm := rest } }
    if offset + bytes.length > 4112 then c
    else
      match assemble (parts.length + 1) parts [] with
      | some d => { c with host := { c.host with datagrams := c.host.datagrams ++ [d] } }
      | none => { c with host := { c.host with reasm := rest ++ [{ src := src, ident := ident, parts := parts }] } }

/-- A datagram still incomplete 100 ms after its first fragment is discarded (R139). -/
def ipReassemblyTimeout (src ident : Nat) (c : Core) : Core :=
  { c with host := { c.host with reasm := c.host.reasm.filter fun r => !(r.src = src && r.ident = ident) } }

/-! ### The command ring (R159, R160) -/

/-- The slots of the packet whose header stands at the front. -/
def headSlots (b : List Byte) : Nat :=
  let flags := (b.getD 3 0).toNat
  slotsOf (16 + 8 * (flags / 4 % 2) + leNat ((b.drop 6).take 2))

/-- Packets are read whole while replies fit; a header whose slot count exceeds the slots written is a ring error. -/
def Core.readRing : Nat → Core → Core
  | 0, c => c
  | n + 1, c =>
    if c.host.unread.isEmpty ∨ !c.host.held.isEmpty then c
    else
      let b := c.host.unread
      let k := headSlots b
      let size := ringSlots (c.get R.HOST_CMD_SIZE)
      if k * 64 > b.length then
        let c := { c with host := { c.host with unread := [] } }
        let c := (c.setF F.HOST_CMD_CONS_INDEX (c.f F.HOST_CMD_PROD_INDEX)).raise F.HOST_INT_STATUS_CMD_RING_ERROR
        if leNat (b.take 2) = 0x455A then
          c.post (.easel .pcie 0 (statusCode .badLength) (leNat ((b.drop 4).take 2)) (.ofNat 32 (leNat ((b.drop 8).take 4)))
            (leNat ((b.drop 12).take 2)) [])
        else c
      else
        let len := 16 + 8 * ((b.getD 3 0).toNat / 4 % 2) + leNat ((b.drop 6).take 2)
        let c := { c with host := { c.host with unread := b.drop (k * 64), ring := c.host.ring ++ [b.take len] } }
        Core.readRing n (c.setF F.HOST_CMD_CONS_INDEX ((c.f F.HOST_CMD_CONS_INDEX + k) % size))

/-- A write of HOST_CMD_PROD; `bytes` are the slots that host memory holds from the old index to the new one (R160). -/
def hostCmdProdWrite (m : Nat) (v : Word) (bytes : List Byte) (c : Core) : Core :=
  c.busWrite ⟨m, R.HOST_CMD_PROD, v⟩ 0 fun c =>
    if !c.flag F.HOST_CMD_SIZE_EN then c
    else
      let size := ringSlots (c.get R.HOST_CMD_SIZE)
      let have_ := c.host.unread.length / 64
      let want := (c.f F.HOST_CMD_PROD_INDEX + size - c.f F.HOST_CMD_CONS_INDEX % size) % size
      let b := bytes.take ((want - have_) * 64)
      let b := b ++ List.replicate ((want - have_) * 64 - b.length) 0
      let c := { c with host := { c.host with unread := c.host.unread ++ b } }
      c.readRing (want + 1)

/-- A write of HOST_RPL_CONS: held replies that now fit are written, and packets are taken again (R161). -/
def replyRingConsume (m : Nat) (v : Word) (c : Core) : Core :=
  c.busWrite ⟨m, R.HOST_RPL_CONS, v⟩ 0 fun c =>
    let c := c.drainHeld (c.host.held.length + 1)
    c.readRing (c.host.unread.length / 64 + 1)

/-! ### Sessions (R144, R145, R147, R152, R155) -/

/-- A UDP session that has taken no packet for 10 s closes (R145). -/
def udpSessionTimeout (num : Nat) (c : Core) : Core :=
  match c.session? num with
  | some s => if isUdp s.transport then ((c.closeSession num).sessionsGone).raise F.HOST_INT_STATUS_SESSION_CLOSED else c
  | none => c

/-- The next session number: the first free one after the last given, from 0x0001 to 0x00FF (R144). -/
def Core.nextSession (c : Core) : Option Nat :=
  ((List.range 255).map fun i => (c.host.lastNum + i) % 255 + 1).find? fun n => (c.session? n).isNone

/-- The check of a request for expert mode, or for basic level (R152, R155). -/
def Core.levelCheck (c : Core) (num mode : Nat) (t : Transport) : Status :=
  if mode > 1 then .badParam
  else if mode = 0 then .ok
  else
    match t with
    | .mailbox _ => .notPermitted
    | .udp .. => if !c.flag F.HOST_EXPERT_CTRL_UDP_ALLOW then .notPermitted
      else if c.f F.HOST_EXPERT_CTRL_SESSION ≠ 0 ∧ c.f F.HOST_EXPERT_CTRL_SESSION ≠ num then .locked else .ok
    | .pcie => if c.f F.HOST_EXPERT_CTRL_SESSION ≠ 0 ∧ c.f F.HOST_EXPERT_CTRL_SESSION ≠ num then .locked else .ok

/-- The largest parameter block of a transport (R138). -/
def largestParams (t : Transport) : Nat := maxParams t

/-- What SESSION_OPEN decides once the packet is taken. -/
def Core.openCheck (c : Core) (p : Packet) : Status :=
  if pkExpert p then .notPermitted
  else if pkAtTime p then .badParam
  else if (pkParams p).length ≠ 4 then .badLength
  else
    let mode := leNat (pkParams p)
    if mode > 1 then .badParam
    else if (c.host.sessions.filter fun s => sameKind s.transport p.transport).length ≥ 8 then .noResource
    else c.levelCheck 0 mode p.transport
where
  /-- Whether two transports are of the same kind. -/
  sameKind (a b : Transport) : Bool := (isPcie a && isPcie b) || (isUdp a && isUdp b)

/-- Easel 0x0100: the new session's number stands in the header of the reply (R144, R147, R152, R155). -/
def sessionOpenOnce (p : Packet) (c0 : Core) : Core :=
  if !c0.easelAnswers then c0
  else
    let c := c0.popRing 0x0100 p
    match c.arrival 0x0100 p with
    | .discard => (c.count R.HOST_EASEL_DISCARD).raise F.HOST_INT_STATUS_DISCARD
    | .refuse st => c.reply 0x0100 p p.session.toNat st []
    | .silent => c
    | .duplicate r => c.post (.easel p.transport 0 r.status 0x0100 p.seq p.session.toNat r.body)
    | .openAgain s => c.post (.easel p.transport 0 0 0x0100 p.seq s.num s.openReply)
    | .take =>
      let c := c.countW R.HOST_EASEL_RX_COUNT 1
      match c.openCheck p, c.nextSession with
      | .ok, some num =>
        let mode := leNat (pkParams p)
        let body := natBytes [mode, (c.get R.SYS_IDENT).toNat, (c.get R.SYS_MODULE_ISSUE).toNat,
          (c.get R.UPDATE_ACTIVE_VERSION).toNat, largestParams p.transport]
        let s : Session := { num := num, transport := p.transport, expected := p.seq + 1, base := p.seq,
                             openAt := c.time.cycles, openReply := body }
        let c := { c with host := { c.host with sessions := c.host.sessions ++ [s], lastNum := num } }
        let c := if mode = 1 then c.setExpert num (isPcie p.transport) else c
        c.reply 0x0100 p num .ok body
      | .ok, none => c.reply 0x0100 p 0 .noResource []
      | st, _ => c.reply 0x0100 p 0 st []

/-- SESSION_OPEN arrives; datagrams pass Smudge on P3 (R531). -/
def sessionOpen (p : Packet) (c : Core) : Core :=
  if isUdp p.transport then c.passFrame 3 3 (sessionOpenOnce p) else sessionOpenOnce p c

/-- Easel 0x0101. -/
def sessionCloseBody : Body := fun c r => ans (c.closeSession r.p.session.toNat).sessionsGone .ok

/-- Easel 0x0102. -/
def pingBody : Body := fun c r => (c, .ok, r.bytes)

/-- Easel 0x0104. -/
def eventSubscribeBody : Body := fun c r =>
  match c.session? r.p.session.toNat with
  | some s => ans (c.setSession { s with mask := r.w 0 }) .ok
  | none => ans c .ok

/-- Easel 0x0105. -/
def sessionLevelBody : Body := fun c r =>
  let num := r.p.session.toNat
  let st := c.levelCheck num (r.n 0) r.p.transport
  if st ≠ .ok then ans c st
  else if r.n 0 = 1 then ans (c.setExpert num (isPcie r.p.transport)) .ok
  else ans (if c.isExpert num then (c.setExpert 0 false) else c) .ok

/-- Easel 0x0107 (R151). -/
def timedCancelBody : Body := fun c r =>
  let mine := fun (t : Timed) => t.packet.session = r.p.session && t.packet.seq = r.w 0
  match c.host.timed.find? mine with
  | none => ans c .badParam
  | some t =>
    if t.committed ∨ t.opcode = 0x0D02 then ans c .stale
    else
      let c := { c with host := { c.host with timed := c.host.timed.filter fun x => !mine x } }.undoTimed t
      ans (c.completeNow { session := r.p.session.toNat, seq := r.w 0, opcode := t.opcode } .aborted []) .ok

/-- Timed commands one block before their boundary are committed to hardware (R151). -/
def timedCommit (c : Core) : Core :=
  { c with host := { c.host with timed := c.host.timed.map fun t =>
      if t.boundary ≤ c.now + c.blk then { t with committed := true } else t } }

def opSessionClose : Opc := { code := 0x0101, len := (· = 0) }
def opPing : Opc := { code := 0x0102, len := (· ≤ 64) }
def opEventSubscribe : Opc := { code := 0x0104, len := (· = 4) }
def opSessionLevel : Opc := { code := 0x0105, len := (· = 4) }
def opTimedCancel : Opc := { code := 0x0107, len := (· = 4) }

/-! ### Mailboxes (R162 to R166) -/

/-- The firmware side's doorbell of a pair rings (R167): bit 0 H2F full, bit 1 ABORT, bit 2 MBX_STALL. -/
def Core.fwBell (c : Core) (n bit : Nat) : Core :=
  let old := smGet (fun _ => 0) c.host.fwBells n
  let new := if old / 2 ^ bit % 2 = 1 then old else old + 2 ^ bit
  { c with host := { c.host with fwBells := smSet (fun _ => 0) c.host.fwBells n new } }

/-- A write of HOST_MBXn_H2F posts a word, or is ignored as an overrun (R162). -/
def mbxH2FWrite (m n : Nat) (v : Word) (c : Core) : Core :=
  if n ≥ 16 then c
  else c.busWrite ⟨m, R.HOST_MBX_H2F n, v⟩ 0xFFFFFFFF fun c =>
    if c.flag (F.HOST_MBX_STATUS_H2F_FULL n) then (c.count R.HOST_MBX_OVERRUN).raise F.HOST_INT_STATUS_MBX_OVERRUN
    else ((c.put (R.HOST_MBX_H2F n) v).setF (F.HOST_MBX_STATUS_H2F_FULL n) 1).fwBell n 0

/-- A write of HOST_MBXn_ACK clears F2H_FULL (R162). -/
def mbxF2HAck (m n : Nat) (v : Word) (c : Core) : Core :=
  if n ≥ 16 then c
  else c.busWrite ⟨m, R.HOST_MBX_ACK n, v⟩ 0 fun c =>
    if bitOf v 0 then c.setF (F.HOST_MBX_STATUS_F2H_FULL n) 0 else c

/-- Firmware posts a word to an empty F2H (R162, R167). -/
def Core.postF2H (c : Core) (n : Nat) (w : Word) : Core :=
  ((c.put (R.HOST_MBX_F2H n) w).setF (F.HOST_MBX_STATUS_F2H_FULL n) 1).ring 2

/-- A short command of a mailbox (R163): status, RESULT and the state. -/
def Core.shortCommand (c : Core) (n opcode arg : Nat) : Status × Nat × Core :=
  if !c.easelRuns then (.restarting, 0, c)
  else
    let c := c.countW R.HOST_EASEL_RX_COUNT 1
    if opcode ∉ [0x0102, 0x0104, 0x0110, 0x0111, 0x0112, 0x0115] then (.badOpcode, 0, c)
    else if c.flag F.SYS_STATUS_RECOVERY ∧ !recoveryOp opcode then (.notPermitted, 0, c)
    else if opcode = 0x0102 then (.ok, arg, c)
    else if opcode = 0x0104 then
      let k := arg % 32
      let old := smGet (fun _ => 0) c.host.mbxMask n
      let new := withBits old k k (arg / 2 ^ 15 % 2)
      (.ok, 0, { c with host := { c.host with mbxMask := smSet (fun _ => 0) c.host.mbxMask n new } })
    else if opcode = 0x0110 then (.ok, (c.get R.SYS_STATUS).toNat % 65536, c)
    else if opcode = 0x0111 then
      let x := c.standbyRequest arg
      (x.1, 0, if x.1 = .ok then x.2 else c)
    else if opcode = 0x0112 then
      if arg > 1 then (.badParam, 0, c)
      else if c.mediaChanging then (.busy, 0, c)
      else if arg = 1 then (.ok, 0, { c with power := { c.power with resetDue := true } })
      else (.ok, 0, { c with power := { c.power with restartDue := true } })
    else if c.flag F.SYS_STATUS_OUTPUT_HELD then (.ok, 0, c.releaseOutputs) else (.notPermitted, 0, c)

/-- With F2H empty, firmware takes a short command from H2F and posts its reply in the same step (R163, R165). -/
def mbxCommandTake (n : Nat) (c : Core) : Core :=
  if n ≥ 16 ∨ !c.easelAnswers ∨ !c.flag (F.HOST_MBX_STATUS_H2F_FULL n) ∨ c.flag (F.HOST_MBX_STATUS_F2H_FULL n) then c
  else
    let w := c.get (R.HOST_MBX_H2F n)
    let x := c.shortCommand n (bitsOf w 31 16) (bitsOf w 15 0)
    let c := x.2.2.setF (F.HOST_MBX_STATUS_H2F_FULL n) 0
    let c := { c with host := { c.host with fwBells := smSet (fun _ => 0) c.host.fwBells n 0 } }
    (c.postF2H n (.ofNat 32 (statusCode x.1 * 65536 + x.2.1))).restartIfDue

/-- The INT_STATUS register of interrupt source k (R172). -/
def statusOfSource (k : Nat) : Nat :=
  if k = 25 then R.BRUSH_INT_STATUS else if k = 0 then R.SYS_INT_STATUS else if k < 16 then k * 0x100000 + 4
  else (if k ≤ 19 then k else k + 1) * 0x100000 + 4

/-- Firmware posts an event word of source k to an empty F2H, where the mailbox session has subscribed to it (R163,
R165). -/
def mbxEventPost (n k : Nat) (c : Core) : Core :=
  if n ≥ 16 ∨ k > 25 ∨ !c.easelRuns ∨ c.flag (F.HOST_MBX_STATUS_F2H_FULL n) ∨
      !bitOf (smGet (fun _ => 0) c.host.mbxMask n) k then c
  else c.postF2H n (.ofNat 32 (2 ^ 31 + k * 2 ^ 26 + (c.get (statusOfSource k)).toNat % 65536))

/-- Both mailboxes of a pair have stayed full together for 1 ms (R166): pairs 0 to 15 of the host, 16 to 23 of the Brush groups. -/
def mbxStall (n : Nat) (c : Core) : Core :=
  if n ≥ 16 then c.brushMbxStall (n - 16)
  else if !c.flag (F.HOST_MBX_STATUS_H2F_FULL n) ∨ !c.flag (F.HOST_MBX_STATUS_F2H_FULL n) then c
  else
    let c := (c.setF (F.HOST_MBX_STATUS_STALL n) 1).setF ⟨R.HOST_MBX_STALL, n, n⟩ 1
    ((c.raise F.HOST_INT_STATUS_MBX_STALL).fwBell n 2).ring 4

/-! ### Doorbells and hold registers (R167 to R170) -/

/-- A write of HOST_DB_MASK: unmasking a set doorbell sends its message (R167). -/
def dbMaskWrite (m : Nat) (v : Word) (c : Core) : Core :=
  let old := c.get R.HOST_DB_MASK
  c.busWrite ⟨m, R.HOST_DB_MASK, v⟩ 0 fun c =>
    (List.range 7).foldl (fun c b =>
      if bitOf old b ∧ !bitOf (c.get R.HOST_DB_MASK) b ∧ c.flag ⟨R.HOST_DB_STATUS, b, b⟩ then c.msix (bellVector b) else c) c

/-- The HELD bit of a hold register. -/
def heldBit (n : Nat) : Field := ⟨R.HOST_HOLD_HELD_LO + 4 * (n / 32), n % 32, n % 32⟩

/-- The owner of a hold register changes. -/
def Core.setHold (c : Core) (n : Nat) (o : Option Nat) : Core :=
  { c with host := { c.host with holds := smSet (fun _ => none) c.host.holds n o } }.setB (heldBit n) o.isSome

/-- A read of a hold register acquires it when it is free, and returns its owner otherwise (R168). -/
def holdAcquire (m n : Nat) (c : Core) : Core :=
  if n ≥ 64 then c
  else c.busRead m (R.HOST_HOLD n) fun c =>
    match smGet (fun _ => none) c.host.holds n with
    | none => (0, c.setHold n (some m))
    | some o => (.ofNat 32 (0x80000000 + o), c)

/-- A write to a hold register: the owner's 0 releases it, any other is ignored and counted (R168). -/
def holdRelease (m n : Nat) (v : Word) (c : Core) : Core :=
  if n ≥ 64 then c
  else c.busWrite ⟨m, R.HOST_HOLD n, v⟩ 0xFFFFFFFF fun c =>
    if v = 0 ∧ smGet (fun _ => none) c.host.holds n = some m then c.setHold n none
    else (c.count R.HOST_HOLD_BAD_RELEASE).raise F.HOST_INT_STATUS_HOLD_BAD_RELEASE

/-- A write of HOST_BAR2_BASE; a value above 55 is ignored (R539). -/
def bar2BaseWrite (m : Nat) (v : Word) (c : Core) : Core := c.busWrite ⟨m, R.HOST_BAR2_BASE, v⟩ 0 id

end Sys2Proof.Machine
end

