-- ==== Sys2Proof/Machine/NetConfig.lean ====
section
/-! DEFINITION. The settings of a network port that reset or stop it (R356, R357, R359, R385). -/

namespace Sys2Proof.Machine

/-- A port starts or stops as NET_CTRL.EN changes (R357). -/
def Core.netEnable (c : Core) (p : Nat) (was : Bool) : Core :=
  let now := c.flag (F.NET_CTRL_EN p)
  if was = now then c else if now then c.txDis p else (c.portDown p).txDis p

/-- Whether a new NET_CTRL changes the rate or the FEC of an enabled port (R356). -/
def rateOrFec (old new : Word) : Bool := bitOf old 0 && decide (bitsOf old 3 1 ≠ bitsOf new 3 1)

/-- The function of a port (R128). -/
def portFunc (p : Nat) : Nat := if p = 2 then 28 else if p = 3 then 10 else 8 + p

/-- The function reset that a change of rate or FEC is carried out as (R356). -/
def Core.netRestart (c : Core) (p : Nat) (tok : Option Tok) : Status × Core :=
  let x := c.funcRequest (portFunc p) true tok
  if x.1 = .accepted then x else (x.1, (c.resetPort p).ptpRestart p)

/-- A write of NET_CTRL (R356, R357). -/
def netCtrlWrite (p m : Nat) (v : Word) (c : Core) : Core :=
  if p > 3 then c
  else
    let old := c.get (R.NET_CTRL p)
    c.busWrite ⟨m, R.NET_CTRL p, v⟩ 0 fun c =>
      let c := c.netEnable p (bitOf old 0)
      if rateOrFec old (c.get (R.NET_CTRL p)) then (c.netRestart p none).2 else c

def opNetConfig : Opc := { code := 0x0600, len := (· = 28) }

/-- NET_CONFIG (R356, R359, R385). -/
def netConfigBody : Body := fun c r =>
  let p := r.n 0
  let old := c.get (R.NET_CTRL p)
  let frame := if p = 2 then 9216 else r.n 2
  if p > 3 ∨ !noReserved (r.w 1) 0x3F ∨ !noReserved (r.w 6) 0xFFFF then ans c .badParam
  else if frame < 1518 ∨ frame > 9216 then ans c .outOfRange
  else if (p = 2 ∧ bitOf (r.w 1) 1) ∨ !c.streamsFit p frame then ans c .notPermitted
  else if rateOrFec old (r.w 1) ∧ c.power.funcReset.isSome then ans c .busy
  else
    let c := (c.put (R.NET_CTRL p) (r.w 1)).setF (F.NET_MAX_FRAME_BYTES p) frame
    let c := (c.put (R.NET_IP p) (r.w 3)).put (R.NET_IP_MASK p) (r.w 4)
    let c := ((c.put (R.NET_IP_GW p) (r.w 5)).put (R.NET_VLAN p) (r.w 6)).netEnable p (bitOf old 0)
    if rateOrFec old (r.w 1) then ans (c.netRestart p (some r.tok)).2 .accepted else ans c .ok

end Sys2Proof.Machine
end

