-- ==== Sys2Proof/Machine/Palettes.lean ====
section
/-! DEFINITION. Palettes (chapter 8): the commit of a layout, swaps from their preparation to their end, and Glaze (R188 to R190,
R217 to R223, R286). -/

namespace Sys2Proof.Machine

/-! ### The commit of a layout (R189, R190, R218, R286) -/

/-- What a LAYOUT_COMMIT finds, with the recount of the cores that the output chain needs (R286). -/
def Core.layoutAdmit (c : Core) : Admission :=
  let a := admitAll c.caps c.scene.live c.scene.staged
  if a.status = .ok ∧ !c.chainCoresFit (countedOuts c.caps c.scene.live c.scene.staged).length then
    { a with status := .noResource }
  else a

/-- LAYOUT_COMMIT completes: on OK the staged bank is ready, the table holds the union and firmware has recounted the cores; the
notice carries nine words (R190). -/
def layoutCommitDone (c : Core) : Core :=
  match c.scene.commit with
  | none => c
  | some t =>
    let a := c.layoutAdmit
    let c := { c with scene := { c.scene with commit := none } }
    let c := if a.status = .ok then
        let n := (countedOuts c.caps c.scene.live c.scene.staged).length
        ((c.setF (stagedReady 0) 1).setF F.OUTPROC_STATUS_CORES (c.chainCores n)).loadEntries
      else c
    c.notice t a.status (natBytes a.words)

/-! ### PALETTE_SWAP (R219) -/

def opPaletteSwap : Opc := { code := 0x0401, timeable := true, lateTime := true, eager := true, len := (· = 8) }

/-- PALETTE_SWAP (R219, R226). -/
def paletteSwapBody : Body := fun c r => c.swapRequest r (r.n 0) (r.n 1) c.glaze

/-! ### From the preparation to the end of Glaze (R220, R222, R223) -/

/-- One swap is committed a block before its boundary: Caliper computes the staged bank's targets. While Caliper is in reset the
whole swap waits (R223). -/
def Core.prepareSwap (c : Core) (w : Swap) : Core :=
  let put := fun (c : Core) (x : Swap) => { c with cal := { c.cal with swaps := c.cal.swaps.map fun y => if y = w then x else y } }
  if c.cal.inReset then
    let d := put c { w with deferred := true }
    if w.deferred then d else (d.count R.CALIPER_SWAP_DEFERRED).raise F.CALIPER_INT_STATUS_SWAP_DEFERRED
  else
    let b := max w.b (c.boundaryAt (c.now + c.blk))
    let d := put c { w with prepared := true, b := b }
    if w.mask % 2 = 1 ∧ d.caliperRuns then d.snapshot true else d

/-- Step 1 of R220 for every swap whose boundary is at most a block away. -/
def swapPrepare (c : Core) : Core :=
  (c.cal.swaps.filter fun w => !w.prepared && decide (w.b ≤ c.now + c.blk)).foldl Core.prepareSwap c

/-- The live and staged banks of Palette 0 are exchanged; Maquette ends (R220, R225). -/
def Core.swapLayout (c : Core) (b : Nat) : Core :=
  let c := c.maquetteEnd true b
  { c with scene := { c.scene with live := c.scene.staged, staged := c.scene.live } }

/-- LIVE_BANK of a Palette changes over (R218). -/
def Core.flipBank (c : Core) (p : Nat) : Core :=
  let x : Field := ⟨R.CALIPER_PAL_STATUS, p + 4, p + 4⟩
  c.setF x (1 - c.f x)

/-- The banks of one Palette are exchanged at boundary b, with a Glaze of g samples, or none where g is 0 (R220). -/
def Core.swapPalette (c : Core) (w : Swap) (g p : Nat) : Core :=
  if w.mask / 2 ^ p % 2 = 0 then c
  else
    let c := c.flipBank p
    match p with
    | 0 => c.swapLayout w.b
    | 1 => (c.swapChains (decide (g ≠ 0))).surveySwapped w.b w.tok.isSome
    | 2 => c.swapRoutes
    | _ => c.swapParams w.b g

/-- Step 2 of R220 for one swap: every Palette of its mask changes at once. Without a running engine no Glaze runs (R223). -/
def Core.executeSwap (c : Core) (w : Swap) : Core :=
  let g := if c.power.engineStop || !c.clk.mediaOn then 0 else w.g
  let run : GlazeRun := { mask := w.mask, b := w.b, g := g, tok := w.tok, deferred := w.deferred }
  let last := (List.range 4).map fun p => if w.mask / 2 ^ p % 2 = 1 then w.b else c.cal.lastSwaps.getD p 0
  let c := { c with cal := { c.cal with swaps := c.cal.swaps.erase w, lastSwaps := last } }
  let c := (List.range 4).foldl (fun (c : Core) p => c.swapPalette w g p) c
  let c := (c.put64 R.CALIPER_LAST_SWAP_LO R.CALIPER_LAST_SWAP_HI (w.b % 2 ^ 60)).setF F.CALIPER_LAST_SWAP_HI_MASK w.mask
  let c := ({ c with cal := { c.cal with glazes := c.cal.glazes ++ [run] } }.palShow).saveShow
  if g = 0 then c.glazeOver run else c

/-- The swaps that are prepared and whose boundary has come. -/
def paletteSwapExecute (c : Core) : Core :=
  (c.cal.swaps.filter fun w => w.prepared && decide (w.b ≤ c.now)).foldl Core.executeSwap c

/-- Step 4 of R220: a Glaze has run for its length. -/
def glazeEnd (c : Core) : Core :=
  (c.cal.glazes.filter fun x => decide (x.b + x.g ≤ c.now)).foldl Core.glazeOver c

end Sys2Proof.Machine
end

