-- ==== Sys2Proof/Machine/Update.lean ====
section
/-! DEFINITION. Firmware delivery: receptions, the chain on P3 and activation (chapter 19). -/

namespace Sys2Proof.Machine

/-! ### Receptions (R500 to R502, R504) -/

/-- A conflicting image is counted (R502). -/
def Core.upConflict (c : Core) : Core := (c.count R.UPDATE_CONFLICT).raise F.UPDATE_INT_STATUS_CONFLICT

/-- Lengths that an image can have (R498). -/
def imageLength (n : Nat) : Bool := inRange 257 (256 + 125829120) n

def opUpdateBegin : Opc := { code := 0x0C01, len := (· = 36) }

/-- UPDATE_BEGIN. -/
def updateBeginBody : Body := fun c r =>
  let digest := (r.bytes.drop 4).take 32
  let s := r.p.session.toNat
  if !imageLength (r.n 0) then ans c .outOfRange
  else
    match c.update.winner with
    | some w =>
      if w.2.digest = digest then okW (c.count R.UPDATE_DUPLICATE) [2 ^ 31 + w.1] else ans c.upConflict .conflict
    | none =>
      if c.flag F.SYS_STATUS_VIN_WARN ∨ (List.range 2).any fun k => (c.upSlot k).state = 1 && (c.upSlot k).session = some s then ans c .busy
      else
        match c.newUpSlot with
        | none => ans c .busy
        | some k => okW (c.receive k { length := r.n 0, digest := digest, session := some s }) [k]

/-- The slot into which a session receives. -/
def Core.openSlot (c : Core) (s : Nat) : Option Nat := (List.range 2).find? fun k => (c.upSlot k).state = 1 && (c.upSlot k).session = some s

def opUpdateData : Opc := { code := 0x0C02, len := (5 ≤ ·) }

/-- UPDATE_DATA. -/
def updateDataBody : Body := fun c r =>
  match c.openSlot r.p.session.toNat with
  | none => ans c .notPermitted
  | some k =>
    let x := c.upSlot k
    let bytes := r.bytes.drop 4
    if r.n 0 ≠ x.data.length ∨ x.data.length + bytes.length > x.length then ans c .outOfRange
    else ans (c.setUpSlot k { x with data := x.data ++ bytes, at_ := c.time.cycles }) .ok

def opUpdateEnd : Opc := { code := 0x0C03, len := (· = 0) }

/-- UPDATE_END. -/
def updateEndBody : Body := fun c r =>
  match c.openSlot r.p.session.toNat with
  | none => ans c .notPermitted
  | some k => ans ((c.setUpSlot k { c.upSlot k with tok := some r.tok }).complete k) .accepted

/-- A host reception has had no data for 60 s (R501). -/
def updateReceptionTimeout (k : Nat) (c : Core) : Core :=
  let x := c.upSlot k
  if k > 1 ∨ x.state ≠ 1 ∨ x.session.isNone ∨ c.time.cycles < x.at_ + 60 * 250000000 then c else c.endSlot k 0 .aborted false

/-- The reception that is verified now: the one whose last byte arrived first (R502). -/
def Core.verifying (c : Core) : Option Nat :=
  let a := (c.upSlot 0).state = 2
  let b := (c.upSlot 1).state = 2
  if a ∧ b then some (if (c.upSlot 0).order ≤ (c.upSlot 1).order then 0 else 1)
  else if a then some 0 else if b then some 1 else none

/-- IMAGE_VERIFY_DONE (R499, R502, R504). -/
def imageVerifyDone (env : ImageEnv) (c : Core) : Core :=
  match c.verifying with
  | none => c
  | some k =>
    let x := c.upSlot k
    let cause := c.imageCause x.data x.digest env
    if cause ≠ 0 then ((c.count R.UPDATE_VERIFY_FAILED).raise F.UPDATE_INT_STATUS_VERIFY_FAILED).endSlot k cause .verifyFailed true
    else
      let c := { c with update := { c.update with winner := some (k, imageOf x.data x.digest), peers := [] } }
      let c := (c.setUpSlot k { x with state := 3, tok := none }).raise F.UPDATE_INT_STATUS_VERIFIED
      let c := c.notice? x.tok .ok (natBytes [0, k])
      let c := if x.session.isNone then
          c.upSend (c.get R.UPDATE_UPSTREAM).toNat 5 x.xfer 0 0 x.digest (leBytes 4 (itemNat x.data 16 4)) else c
      let o := c.upSlot (1 - k)
      let c := if o.state = 1 ∨ o.state = 2 then (c.upConflict).endSlot (1 - k) 0 .conflict true else c
      c.forward.upShow

/-- A datagram of the chain from the configured upstream neighbour; another source is ignored and counted (R503). -/
def Core.fromUpstream (c : Core) (f : UpFrame) (act : Core → Core) : Core :=
  if f.magic ≠ 0x5543 ∨ f.version ≠ 1 ∨ !c.easelRuns then c
  else if f.src = 0 ∨ f.src ≠ (c.get R.UPDATE_UPSTREAM).toNat then c.count R.UPDATE_BAD_SOURCE
  else act c

/-- UPDATE_OFFER_RECEIVE (R500, R502, R504). -/
def updateOfferReceive (f : UpFrame) (c : Core) : Core :=
  c.fromUpstream f fun c =>
    let len := itemNat f.data 0 4
    let digest := (f.data.drop 4).take 32
    let refuse := fun (c : Core) (st : Status) => c.upSend f.src 4 f.xfer 0 (statusCode st) digest []
    match c.update.winner with
    | some w =>
      if w.2.digest = digest then (c.count R.UPDATE_DUPLICATE).upSend f.src 3 f.xfer len 0 digest []
      else refuse c.upConflict .conflict
    | none =>
      if !imageLength len ∨ f.data.length ≠ 36 then refuse c .notPermitted
      else if c.flag F.SYS_STATUS_VIN_WARN then refuse c .busy
      else
        let mine := (List.range 2).find? fun k => (c.upSlot k).state = 1 && (c.upSlot k).session.isNone && (c.upSlot k).digest = digest
        match mine.or c.newUpSlot with
        | none => refuse c .busy
        | some k => (c.receive k { length := len, digest := digest, xfer := f.xfer }).upSend f.src 3 f.xfer 0 0 digest []

/-- UPDATE_DATA_RECEIVE: data in order is stored and acknowledged (R504). -/
def updateDataReceive (f : UpFrame) (c : Core) : Core :=
  c.fromUpstream f fun c =>
    match (List.range 2).find? fun k =>
      (c.upSlot k).state = 1 && (c.upSlot k).session.isNone && (c.upSlot k).xfer = f.xfer && (c.upSlot k).digest.take 8 = f.digest with
    | none => c
    | some k =>
      let x := c.upSlot k
      let ok := f.offset = x.data.length ∧ f.data.length ≤ 1408 ∧ x.data.length + f.data.length ≤ x.length
      let c := if ok then c.setUpSlot k { x with data := x.data ++ f.data, at_ := c.time.cycles } else c
      let n := (c.upSlot k).data.length
      let c := c.upSend f.src 3 f.xfer n 0 x.digest []
      if n = x.length then c.complete k else c

/-! ### The sender's side (R504, R505) -/

/-- A peer's answer: the peer that sent it about the transfer in hand. -/
def Core.fromPeer (c : Core) (f : UpFrame) (act : Nat → Core → Core) : Core :=
  if f.magic ≠ 0x5543 ∨ f.version ≠ 1 ∨ f.src = 0 then c
  else
    match (List.range 4).find? fun n => c.peerIp n = f.src && (c.peer n).offered && (c.peer n).xfer = f.xfer with
    | some n => act n c
    | none => c

/-- UPDATE_ACK_RECEIVE. -/
def updateAckReceive (f : UpFrame) (c : Core) : Core :=
  c.fromPeer f fun n c =>
    match c.update.winner with
    | none => c
    | some w =>
      let p := c.peer n
      let total := w.2.data.length
      if c.peerState n > 1 ∧ c.peerState n ≠ 6 then c
      else
        let a := max p.acked (min f.offset total)
        let adv := if a > p.acked then c.time.cycles else p.advance
        let c := c.setPeer n { p with acked := a, sent := max p.sent a, lastAck := c.time.cycles, advance := adv, waitAt := none }
        if a = total then c.peerGo n 2 else Core.sendData 256 n (c.peerGo n 1)

/-- UPDATE_REFUSE_RECEIVE: a peer that is BUSY is offered again after 60 s. -/
def updateRefuseReceive (f : UpFrame) (c : Core) : Core :=
  c.fromPeer f fun n c =>
    let wait := if f.status = statusCode .busy then some c.time.cycles else none
    (c.setPeer n { c.peer n with waitAt := wait }).peerGo n 4

/-- The FW_VERSION that a peer's answer reports, where it carries one. -/
def reported (f : UpFrame) (old : Nat) : Nat := if f.data.length ≥ 4 then leNat (f.data.take 4) else old

/-- UPDATE_VERIFIED_RECEIVE. -/
def updateVerifiedReceive (f : UpFrame) (c : Core) : Core :=
  c.fromPeer f fun n c => (c.setPeer n { c.peer n with version := reported f (c.peer n).version }).peerGo n 3

/-- UPDATE_RESULT_RECEIVE: a failed verification, or what a peer did with an ACTIVATE or a CANCEL. -/
def updateResultReceive (f : UpFrame) (c : Core) : Core :=
  c.fromPeer f fun n c =>
    let st := c.peerState n
    if f.status = statusCode .verifyFailed ∧ (st = 1 ∨ st = 2) then (c.setPeer n { c.peer n with cause := f.offset % 16 }).peerGo n 5
    else if st = 3 ∧ c.update.sched.isSome then c.peerGo n (if f.status = 0 then 7 else 8)
    else if st = 7 ∧ c.update.sched.isNone ∧ f.status = 0 then c.peerGo n 3
    else c

/-- ACK_STALL_RETRANSMIT: an ACK has not advanced for 50 ms. -/
def ackStallRetransmit (n : Nat) (c : Core) : Core :=
  let p := c.peer n
  if n > 3 ∨ c.peerState n ≠ 1 ∨ c.time.cycles < p.advance + 12500000 then c
  else Core.sendData 256 n ((c.setPeer n { p with sent := p.acked, advance := c.time.cycles }).countW R.UPDATE_RETRANSMIT 1)

/-- PEER_UNREACHABLE: no ACK for 10 s. -/
def peerUnreachable (n : Nat) (c : Core) : Core :=
  let p := c.peer n
  if n > 3 ∨ !p.offered ∨ c.peerState n > 1 ∨ c.time.cycles < p.lastAck + 2500000000 then c
  else (c.setPeer n { p with waitAt := some c.time.cycles }).peerGo n 6

/-- PEER_REOFFER: an unreachable or busy peer is offered the image again after 60 s. -/
def peerReoffer (n : Nat) (c : Core) : Core :=
  match (c.peer n).waitAt with
  | some t => if n > 3 ∨ c.time.cycles < t + 60 * 250000000 ∨ !c.flag F.UPDATE_CFG_FWD_EN then c else c.offer n
  | none => c

/-! ### Activation (R506 to R511) -/

/-- The image that a digest names: the winner, or the previous one. -/
def Core.imageNamed (c : Core) (digest : List Byte) : Option (Image × Bool) :=
  match c.update.winner with
  | some w =>
    if w.2.digest = digest then some (w.2, false)
    else (c.update.prev.filter fun x => decide (x.2.digest = digest)).map fun x => (x.2, true)
  | none => (c.update.prev.filter fun x => decide (x.2.digest = digest)).map fun x => (x.2, true)

/-- The checks of R506 for an activation at T. -/
def Core.actCheck (c : Core) (digest : List Byte) (t : Nat) : Status :=
  let now := c.ptpNs
  if (c.imageNamed digest).isNone then .notPermitted
  else if t < now + 10 * 10 ^ 9 then .stale
  else if t > now + 86400 * 10 ^ 9 then .outOfRange
  else if c.update.sched.isSome then .busy else .ok

/-- The data of an ACTIVATE or a CANCEL. -/
def actData (digest : List Byte) (t : Nat) : List Byte := digest ++ leBytes 6 (t / 10 ^ 9) ++ leBytes 4 (t % 10 ^ 9)

/-- ACTIVATE or CANCEL goes to the peers in a state. -/
def Core.propagate (c : Core) (kind st : Nat) (digest : List Byte) (t : Nat) : Core :=
  (List.range 4).foldl (fun (c : Core) n =>
    if c.peerState n = st then c.upSend (c.peerIp n) kind (c.peer n).xfer 0 0 digest (actData digest t) else c) c

/-- An activation is scheduled (R506). -/
def Core.schedule (c : Core) (digest : List Byte) (t : Option Nat) (chain : Bool) (tok : Option Tok) : Core :=
  match c.imageNamed digest with
  | none => c
  | some x =>
    let s : UpSched := { image := x.1, back := x.2, t := t, tok := tok }
    let c := { c with update := { c.update with sched := some s } }
    let c := c.upShow.raise F.UPDATE_INT_STATUS_SCHEDULED
    if chain then c.propagate 6 3 digest (t.getD 0) else c

/-- Whether a schedule can no longer be undone: T is less than 1 s away (R506). -/
def Core.actSoon (c : Core) : Bool :=
  match c.update.sched with
  | some s => s.running || (match s.t with
    | some t => decide (c.ptpNs + 10 ^ 9 > t)
    | none => true)
  | none => false

/-- A schedule is undone. -/
def Core.unschedule (c : Core) (chain : Bool) : Core :=
  match c.update.sched with
  | none => c
  | some s =>
    let c := { c with update := { c.update with sched := none } }.upShow.notice? s.tok .aborted []
    if chain then c.propagate 7 7 s.image.digest (s.t.getD 0) else c

/-- UPDATE_ACTIVATE_RECEIVE (R506). -/
def updateActivateReceive (f : UpFrame) (c : Core) : Core :=
  c.fromUpstream f fun c =>
    let digest := f.data.take 32
    let t := itemNat f.data 32 6 * 10 ^ 9 + itemNat f.data 38 4
    let st := if f.data.length ≠ 42 then .badLength else c.actCheck digest t
    let c := if st = .ok then c.schedule digest (some t) true none else c
    c.upSend f.src 8 f.xfer 0 (statusCode st) digest []

/-- UPDATE_CANCEL_RECEIVE (R506). -/
def updateCancelReceive (f : UpFrame) (c : Core) : Core :=
  c.fromUpstream f fun c =>
    let digest := f.data.take 32
    let here := (c.update.sched.map fun s => s.image.digest) = some digest
    let st := if !here then Status.notPermitted else if c.actSoon then .stale else .ok
    let c := if st = .ok then c.unschedule true else c
    c.upSend f.src 8 f.xfer 0 (statusCode st) digest []

/-- An activation fails: ACT_FAILED with its CAUSE, and the module returns to VERIFIED. -/
def Core.actFailed (c : Core) (cause : Nat) (st : Status) : Core :=
  let tok := c.update.sched.bind (·.tok)
  let c := { c with update := { c.update with sched := none } }.upShow
  ((c.setF F.UPDATE_STATUS_ACT_CAUSE cause).raise F.UPDATE_INT_STATUS_ACT_FAILED).notice? tok st (natBytes [cause])

/-- ACTIVATION_PRECHECK: step 1 of R508, at T − 1 s. -/
def activationPrecheck (env : ImageEnv) (c : Core) : Core :=
  match c.update.sched with
  | none => c
  | some s =>
    let due := match s.t with
      | some t => decide (c.ptpNs + 10 ^ 9 ≥ t)
      | none => true
    if s.checked ∨ !due then c
    else
      let cause := c.imageCause s.image.data s.image.digest env
      if cause ≠ 0 then c.actFailed cause .verifyFailed
      else { c with update := { c.update with sched := some { s with checked := true } } }

/-- The mapping record exchanges the active image and the one in transit (R508, step 3). -/
def Core.exchange (c : Core) (s : UpSched) : Core :=
  let old := c.activeImage
  let k := if s.back then (c.update.prev.elim 0 (·.1)) else c.update.winner.elim 0 (·.1)
  { c with update := { c.update with active := some s.image, prev := some (k, old) } }

/-- The new image runs: the session ends, and firmware brushwork is loaded at the next start of each group (R508, step 4). -/
def Core.activated (c : Core) (s : UpSched) : Core :=
  let groups := (List.range 4).filter c.groupFw
  let c := { c with update := { c.update with sched := none, pending := groups } }
  let c := if s.back ∧ c.update.winner.isSome then c.upShow else c.sessionOver
  (c.showActive.raise F.UPDATE_INT_STATUS_ACTIVATED).notice? s.tok .ok []

/-- ACTIVATION: T has come (R508, R510). -/
def activation (c : Core) : Core :=
  match c.update.sched with
  | none => c
  | some s =>
    let due := match s.t with
      | some t => decide (c.ptpNs ≥ t)
      | none => true
    if !s.checked ∨ s.running ∨ !due then c
    else if c.flag F.SYS_STATUS_VIN_WARN then c.actFailed 9 .aborted
    else if c.flag F.SYS_STATUS_RECOVERY then
      let d := ((c.exchange s).activated s).resetN c.power.cause
      { d with power := { d.power with step := 3 } }
    else
      let c := { c with update := { c.update with sched := some { s with running := true } } }.upShow.controlRestart
      c.exchange s

/-- CONTROL_PLANE_RESTART_END (R127, R149, R508). -/
def controlPlaneRestartEnd (c : Core) : Core :=
  if !c.flag F.HOST_STATUS_RESTARTING then c
  else
    let c := match c.update.sched with
      | some s => if s.running then c.activated s else c
      | none => c
    c.restartEnd

/-- ACTIVATION_FALLBACK: RESTART_END has not rung by T + 1.5 s (R509). -/
def activationFallback (c : Core) : Core :=
  match c.update.sched with
  | none => c
  | some s =>
    let due := match s.t with
      | some t => decide (c.ptpNs ≥ t + 1500000000)
      | none => true
    if !s.running ∨ !due ∨ !c.flag F.HOST_STATUS_RESTARTING then c
    else
      let old := c.update.prev.map (·.2)
      let back := if s.back then (c.update.prev.map fun x => (x.1, s.image)) else none
      let c := { c with update := { c.update with active := old, prev := back } }
      ((c.setF F.UPDATE_STATUS_FALLBACK 1).count R.UPDATE_FALLBACK).actFailed 11 .faulted

/-- The previous image starts in place of an active one that fails Gesso's check at start-up (R511). -/
def Core.startPrevious (c : Core) : Core :=
  match c.update.prev with
  | none => c
  | some x =>
    let old := c.activeImage
    let c := { c with update := { c.update with active := some x.2, prev := some (x.1, old) } }
    c.showActive.setF F.UPDATE_STATUS_FALLBACK 1

/-- FIRMWARE_HANDOFF: Gesso has verified the active image, or the previous one in its place, or neither (R121, R123, R511). -/
def updateHandoff (imageOk prevOk : Bool) (c : Core) : Core :=
  let c' := firmwareHandoff (imageOk || (prevOk && c.update.prev.isSome)) c
  if !imageOk ∧ c'.power.step = 9 ∧ c.power.step ≠ 9 then c'.startPrevious else c'

/-! ### Opcodes (R512) -/

def opUpdateStatus : Opc := { code := 0x0C00, len := (· = 0) }

/-- UPDATE_STATUS_GET. -/
def updateStatusBody : Body := fun c _ =>
  let rec5 := fun (k : Nat) => [R.UPDATE_SLOT_STATE k, R.UPDATE_SLOT_RECEIVED k, R.UPDATE_SLOT_LENGTH k, R.UPDATE_SLOT_PREFIX_LO k,
    R.UPDATE_SLOT_PREFIX_HI k]
  okW c (([R.UPDATE_STATUS] ++ rec5 0 ++ rec5 1 ++ (List.range 8).map R.UPDATE_DIGEST ++
    [R.UPDATE_ACTIVE_VERSION, R.UPDATE_PREV_VERSION, R.UPDATE_SVN, R.UPDATE_PEER_STATE]).map fun r => (c.get r).toNat)

def opUpdateDiscard : Opc := { code := 0x0C04, len := (· = 4) }

/-- UPDATE_DISCARD. -/
def updateDiscardBody : Body := fun c r =>
  if r.n 0 > 2 then ans c .outOfRange
  else if c.update.sched.isSome then ans c .busy
  else if r.n 0 = 2 ∨ c.update.winner.map (·.1) = some (r.n 0) then ans c.sessionOver .ok
  else ans (c.endSlot (r.n 0) 0 .aborted true) .ok

def opUpdatePeers : Opc := { code := 0x0C05, len := fun n => 12 ≤ n && n ≤ 28 && n % 4 = 0 }

/-- UPDATE_PEERS_SET. -/
def updatePeersBody : Body := fun c r =>
  let cfg := r.w 0
  let n := r.n 2
  if n > 4 then ans c .outOfRange
  else if r.bytes.length ≠ 12 + 4 * n then ans c .badLength
  else if cfg &&& 0xFFFF000E ≠ 0 then ans c .badParam
  else if bitsOf cfg 15 4 = 0 ∨ bitsOf cfg 15 4 > 400 then ans c .outOfRange
  else if (List.range 4).any fun i => c.peerState i = 1 then ans c .busy
  else
    let c := (c.put R.UPDATE_CFG cfg).put R.UPDATE_UPSTREAM (r.w 1)
    let c := (List.range 4).foldl (fun (c : Core) i =>
      let a : Word := if i < n then r.w (3 + i) else 0
      if c.get (R.UPDATE_PEER i) = a then c else ((c.put (R.UPDATE_PEER i) a).setPeer i {}).peerGo i 0) c
    ans c.forward .ok

def opUpdateActivate : Opc := { code := 0x0C06, len := (· = 48) }

/-- UPDATE_ACTIVATE: in recovery T = 0 means at once (R510). -/
def updateActivateBody : Body := fun c r =>
  let digest := r.bytes.take 32
  let sec := r.n 8 + 2 ^ 32 * r.n 9
  let t := sec * 10 ^ 9 + r.n 10
  let chain := bitOf (r.w 11) 0
  if r.w 11 &&& 0xFFFFFFFE ≠ 0 then ans c .badParam
  else if r.n 10 ≥ 10 ^ 9 ∨ sec ≥ 2 ^ 48 then ans c .outOfRange
  else if c.flag F.SYS_STATUS_RECOVERY ∧ t = 0 then
    if (c.imageNamed digest).isNone then ans c .notPermitted
    else if c.update.sched.isSome then ans c .busy
    else ans (c.schedule digest none chain (some r.tok)) .accepted
  else
    let st := c.actCheck digest t
    if st ≠ .ok then ans c st else ans (c.schedule digest (some t) chain (some r.tok)) .accepted

def opUpdateCancel : Opc := { code := 0x0C07, len := (· = 4) }

/-- UPDATE_CANCEL. -/
def updateCancelBody : Body := fun c r =>
  if r.w 0 &&& 0xFFFFFFFE ≠ 0 then ans c .badParam
  else if c.update.sched.isNone then ans c .notPermitted
  else if c.actSoon then ans c .stale
  else ans (c.unschedule (bitOf (r.w 0) 0)) .ok

def opUpdatePeerStatus : Opc := { code := 0x0C08, len := (· = 0) }

/-- UPDATE_PEER_STATUS_GET. -/
def updatePeerStatusBody : Body := fun c _ =>
  okW c ((List.range 4).flatMap fun n => let p := c.peer n; [c.peerIp n, c.peerState n, p.cause, p.acked, p.version])

def opUpdateSvnRaise : Opc := { code := 0x0C09, len := (· = 4) }

/-- UPDATE_SVN_RAISE (R507). -/
def updateSvnRaiseBody : Body := fun c r =>
  if r.n 0 > c.f F.UPDATE_SVN_ACTIVE then ans c .notPermitted
  else if r.n 0 < c.f F.UPDATE_SVN_MIN then ans c .outOfRange
  else ans (c.setF F.UPDATE_SVN_MIN (r.n 0)) .ok

end Sys2Proof.Machine
end

