-- ==== Sys2Proof/Machine/Access.lean ====
section
/-! DEFINITION. Register accesses as a whole: a write or a read of any BAR0 offset, with what the registers that carry out
something do (R11, R12, R13, R15, R90, R92, R153, R444, R445, R536, R537), and the BAR2 window (R158, R539). -/

namespace Sys2Proof.Machine

/-! ### The clearing of the access records -/

/-- Writing 1 to CLEAR clears COUNT, SAT and the recorded access at two registers. -/
def Core.clearRecord (c : Core) (m off lo hi : Nat) (v : Word) : Core :=
  c.busWrite ⟨m, off, v⟩ 0 fun c => if bitOf v 31 then ((c.put off 0).put lo 0).put hi 0 else c

/-- A write of SYS_GATED_ACCESS (R92). -/
def gatedAccessClear (m : Nat) (v : Word) (c : Core) : Core :=
  c.clearRecord m R.SYS_GATED_ACCESS R.SYS_GATED_ADDR_LO R.SYS_GATED_ADDR_HI v

/-- A write of HOST_BAR0_DENIED (R153). -/
def bar0DeniedClear (m : Nat) (v : Word) (c : Core) : Core :=
  c.clearRecord m R.HOST_BAR0_DENIED R.HOST_BAR0_DENIED_ADDR_LO R.HOST_BAR0_DENIED_ADDR_HI v

/-- A write of FABRIC_NO_PATH (R445). -/
def noPathClear (m : Nat) (v : Word) (c : Core) : Core :=
  c.clearRecord m R.FABRIC_NO_PATH R.FABRIC_NO_PATH_ADDR_LO R.FABRIC_NO_PATH_ADDR_HI v

/-! ### Registers of whose writes no row of the table speaks, but that carry out something -/

/-- A write of CLK_REF_CTRL: clearing EN or changing TYPE ends REF_IN as its loss does. -/
def Core.refCtrlWrite (c : Core) (m : Nat) (v : Word) : Core :=
  let en := c.flag F.CLK_REF_CTRL_EN
  let ty := c.f F.CLK_REF_CTRL_TYPE
  c.busWrite ⟨m, R.CLK_REF_CTRL, v⟩ 0 fun c =>
    if en ∧ (!c.flag F.CLK_REF_CTRL_EN ∨ c.f F.CLK_REF_CTRL_TYPE ≠ ty) then (c.setF F.CLK_MEDIA_STATUS_REF_PRESENT 0).refInTrip
    else c

/-- A write of a register that a TDM port reads when it starts: the port starts again with it. -/
def Core.tdmWrite (c : Core) (m off p : Nat) (v : Word) : Core :=
  c.busWrite ⟨m, off, v⟩ 0 fun c => c.setTdm p { c.tdm p with restart := true }

/-- A write of TWIN_CFG: EN from 0 to 1 joins the twin, EN from 1 to 0 leaves it (R476). -/
def Core.twinCfgWrite (c : Core) (m : Nat) (v : Word) : Core :=
  let was := c.flag F.TWIN_CFG_EN
  c.busWrite ⟨m, R.TWIN_CFG, v⟩ 0 fun c =>
    let now := c.flag F.TWIN_CFG_EN
    if now && !was then
      c.twinApply (c.get R.TWIN_CFG) (c.get R.TWIN_TRIGGER) (c.get R.TWIN_ALIAS0) (c.get R.TWIN_ALIAS1) (c.get R.TWIN_ALIAS3)
    else if was && !now then c.twinLeave else c

/-- A write of HOST_MBXn_STATUS: HOST_MBX_STALL mirrors STALL. -/
def Core.mbxStatusWrite (c : Core) (m n : Nat) (v : Word) : Core :=
  c.busWrite ⟨m, R.HOST_MBX_STATUS n, v⟩ 0 fun c => c.setF ⟨R.HOST_MBX_STALL, n, n⟩ (c.f (F.HOST_MBX_STATUS_STALL n))

/-- A write of a word of a post's staging area: only the area's own master posts (R428). -/
def Core.stageWrite (c : Core) (m off area : Nat) (v : Word) : Core :=
  if m = (if area = 4 then 8 else area) then c.busWrite ⟨m, off, v⟩ 0 id
  else c.busWrite ⟨m, off, v⟩ 0xFFFFFFFF fun c => c.count R.ATELIER_BAD_POST

/-- A write of an address or length register of a CRC channel: channels 2 and 3 are firmware's. -/
def Core.crcWrite (c : Core) (m off k : Nat) (v : Word) : Core :=
  if m = 8 ∧ k ≥ 2 then c.busWrite ⟨m, off, v⟩ 0xFFFFFFFF id else c.busWrite ⟨m, off, v⟩ 0 id

/-! ### The MSI-X table (R158, R171) -/

/-- Where the MSI-X table and the PBA stand (R538). -/
def msixBase : Nat := 0x300800
def pbaBase : Nat := 0x300C00

/-- A write of word i of the MSI-X table: a vector that this unmasks sends its pending message. -/
def Core.msixWrite (c : Core) (i : Nat) (v : Word) : Core :=
  let c := { c with host := { c.host with msix := smSet msixReset c.host.msix i v } }
  let k := i / 4
  if i % 4 = 3 && !bitOf v 0 && decide (c.host.pba / 2 ^ k % 2 = 1) then
    { c with host := { c.host with pba := c.host.pba - 2 ^ k } }.send (.msix k)
  else c

/-! ### A write of any register -/

/-- The index of an offset in an array of n registers, if it is one of them. -/
def slotOf (base stride n off : Nat) : Option Nat :=
  if base ≤ off ∧ (off - base) % stride = 0 ∧ (off - base) / stride < n then some ((off - base) / stride) else none

/-- A write in the SYS, CLK and TIME windows. -/
def Core.writeLow (c : Core) (m off : Nat) (v : Word) : Core :=
  if off = R.SYS_GATED_ACCESS then gatedAccessClear m v c
  else if off = R.SYS_RESET_CTRL then c.resetCtrlWrite m v
  else if off = R.SYS_FUNC_RESET then funcResetGo m v c
  else if off = R.SYS_OUTPUT_RELEASE then outputReleaseGo m v c
  else if off = R.SYS_STANDBY_CTRL then c.standbyCtrlWrite m v
  else if (slotOf (R.SYS_WAKE_TOL 0) 4 12 off).isSome then c.busWrite ⟨m, off, v⟩ 0 Core.plinth
  else if off = R.CLK_MEDIA_CTRL then c.mediaCtrlWrite m v
  else if off = R.CLK_SWITCH then clkSwitchGo m v c
  else if off = R.CLK_EN then clkEnWrite m 0 v c
  else if off = R.CLK_EN_BRUSH0 then clkEnWrite m 1 v c
  else if off = R.CLK_EN_BRUSH1 then clkEnWrite m 2 v c
  else if off = R.CLK_EN_BRUSH2 then clkEnWrite m 3 v c
  else if off = R.CLKOUT0_CTRL then clkoutCtrlWrite m 0 v c
  else if off = R.CLKOUT1_CTRL then clkoutCtrlWrite m 1 v c
  else if off = R.CLK_REF_CTRL then c.refCtrlWrite m v
  else if off = R.TIME_CTRL then timeCtrlWrite m v c
  else if off = R.TIME_STEP_ACCEPT then stepAcceptWrite m v c
  else match slotOf (R.TIME_PULSE_CTRL 0) 0x20 4 off with
    | some i => pulseCtrlWrite m i v c
    | none => c.busWrite ⟨m, off, v⟩ 0 id

/-- A write in the HOST window. -/
def Core.writeHost (c : Core) (m off : Nat) (v : Word) : Core :=
  if msixBase ≤ off ∧ off < pbaBase then
    (if m ≤ 3 ∨ m = 8 then (if off % 4 = 0 then c.msixWrite ((off - msixBase) / 4) v else c) else c.noPath m (0xF000000000 + off) true)
  else if off = R.HOST_BAR0_DENIED then bar0DeniedClear m v c
  else if off = R.HOST_CMD_PROD then hostCmdProdWrite m v [] c
  else if off = R.HOST_RPL_CONS then replyRingConsume m v c
  else if off = R.HOST_DB_MASK then dbMaskWrite m v c
  else if off = R.HOST_BAR2_BASE then bar2BaseWrite m v c
  else match slotOf (R.HOST_MBX_H2F 0) 0x10 16 off with
    | some n => mbxH2FWrite m n v c
    | none => match slotOf (R.HOST_MBX_STATUS 0) 0x10 16 off with
      | some n => c.mbxStatusWrite m n v
      | none => match slotOf (R.HOST_MBX_ACK 0) 0x10 16 off with
        | some n => mbxF2HAck m n v c
        | none => match slotOf (R.HOST_HOLD 0) 4 64 off with
          | some n => holdRelease m n v c
          | none => c.busWrite ⟨m, off, v⟩ 0 id

/-- A write in a window of a network port. -/
def Core.writeNet (c : Core) (m off : Nat) (v : Word) : Core :=
  let p := off / 0x100000 - 0xC
  if off = R.NET_CTRL p then netCtrlWrite p m v c
  else if off = R.NET_MAX_FRAME p then maxFrameWrite p m v c
  else if off = R.NET_GATE_CTRL p then Sys2Proof.Machine.gateGo p m v c
  else c.busWrite ⟨m, off, v⟩ 0 id

/-- A write in the ATELIER, FABRIC, MEMC, FLASH and CRC windows. -/
def Core.writeMid (c : Core) (m off : Nat) (v : Word) : Core :=
  if off = R.ATELIER_CANCEL then atelierCancel m v c
  else if off = R.FABRIC_NO_PATH then noPathClear m v c
  else if off = R.MEMC_FIRST_UNCORR_HI then memcUncorrClear m v c
  else match slotOf (R.ATELIER_STAGE_GO 0) (R.ATELIER_STAGE_GO 1 - R.ATELIER_STAGE_GO 0) 5 off with
    | some a => atelierPost m a v c
    | none =>
      if R.ATELIER_STAGE_D 0 0 ≤ off ∧ off < R.ATELIER_STAGE_D 5 0 then
        c.stageWrite m off ((off - R.ATELIER_STAGE_D 0 0) / (R.ATELIER_STAGE_GO 1 - R.ATELIER_STAGE_GO 0)) v
      else match slotOf (R.CRC_CH_CTRL 0) 64 4 off with
        | some k => crcScanGo m k v c
        | none =>
          if R.CRC_CH_ADDR_LO 0 ≤ off ∧ off < R.CRC_CH_ADDR_LO 4 then c.crcWrite m off ((off - R.CRC_CH_ADDR_LO 0) / 64) v
          else c.busWrite ⟨m, off, v⟩ 0 id

/-- A write in the PORTS, ARMATURE, RENDER, OUTPROC and TWIN windows. -/
def Core.writeHigh (c : Core) (m off : Nat) (v : Word) : Core :=
  if off = R.RENDER_FIRST_UNCORR then renderUncorrClear m v c
  else if off = R.OUTPROC_LAST_CLIP then lastClipClear m v c
  else if off = R.ARMATURE_FIRST_NONPCM then nonpcmRecordClear m v c
  else if off = R.TWIN_CFG then c.twinCfgWrite m v
  else match slotOf (R.PORTS_TDM_CTRL 0) (R.PORTS_TDM_CTRL 1 - R.PORTS_TDM_CTRL 0) 8 off with
    | some p => c.tdmWrite m off p v
    | none => match slotOf (R.PORTS_TDM_RX_MASK 0) (R.PORTS_TDM_CTRL 1 - R.PORTS_TDM_CTRL 0) 8 off with
      | some p => c.tdmWrite m off p v
      | none => match slotOf (R.PORTS_TDM_TX_MASK 0) (R.PORTS_TDM_CTRL 1 - R.PORTS_TDM_CTRL 0) 8 off with
        | some p => c.tdmWrite m off p v
        | none => c.busWrite ⟨m, off, v⟩ 0 id

/-- A write in the window of a Brush core: its control registers, IM or DM (R387, R420). -/
def Core.writeBrush (c : Core) (m off : Nat) (v : Word) : Core :=
  let k := (off - 0x2000000) / 0x40000
  let x := off % 0x40000
  if k > 67 then c.busWrite ⟨m, off, v⟩ 0 id
  else if x < 0x1000 then c.coreWrite m k x v
  else if 0x10000 ≤ x ∧ x < 0x20000 ∧ x % 4 = 0 then brushWindowWrite m k 0 ((x - 0x10000) / 4) v c
  else if 0x20000 ≤ x ∧ x % 4 = 0 then brushWindowWrite m k 1 ((x - 0x20000) / 4) v c
  else c.busWrite ⟨m, off, v⟩ 0 id

/-- A write of a register over the fabric. -/
def Core.writeReg (c : Core) (m off : Nat) (v : Word) : Core :=
  let w := off / 0x100000
  if w ≤ 2 then c.writeLow m off v
  else if w = 3 then c.writeHost m off v
  else if w ≤ 8 then c.writeMid m off v
  else if 0xC ≤ w ∧ w ≤ 0xF then c.writeNet m off v
  else if w = 0x18 then
    (if off = R.SMUDGE_ARM then smudgeArmWrite m v c
     else if off = R.SMUDGE_CLOCK then smudgeClockGo m v c
     else c.smudgeWrite m off v 0 id)
  else if w < 0x20 then c.writeHigh m off v
  else c.writeBrush m off v

/-- REGISTER_WRITE. -/
def registerWrite (m off : Nat) (v : Word) (c : Core) : Core := c.writeReg m off v

/-! ### A read of any register -/

/-- The words that a SNAP read copies into the reader's shadow words: those after the low word (R12). -/
def Core.snapWords (c : Core) (off : Nat) : Option (List Nat) :=
  let next := fun (n : Nat) => some ((List.range n).map fun i => (c.get (off + 4 * (i + 1))).toNat)
  if off = R.TIME_NOW_FRAC then some (c.timeNow.drop 1)
  else if off = R.UPDATE_ACT_SEC_LO then next 2
  else if off ∈ [R.TIME_OFFSET_LO, R.TIME_LEADER_ID_LO, R.SYS_BACKUP_SEC_LO, R.CALIPER_PERIOD_START_LO, R.CALIPER_LAST_SWAP_LO,
      R.SURVEY_LAST_WINDOW_LO, R.TWIN_LAST_SET_LO, R.HEALTH_LEDGER_NEXT_LO] then next 1
  else if (slotOf (R.CRC_CH_RESULT_LO 0) 64 4 off).isSome then next 1
  else if (slotOf (R.BRUSH_CORE_CYCLE_LO 0) 0x40000 68 off).isSome then next 1
  else if (slotOf (R.BRUSH_CORE_BLOCK_LO 0) 0x40000 68 off).isSome then next 1
  else none

/-- Whether an offset is a shadow word of a SNAP value. -/
def shadowed (off : Nat) : Bool :=
  (R.TIME_NOW_NS ≤ off && off ≤ R.TIME_NOW_MPHASE) ||
    [R.TIME_OFFSET_HI, R.TIME_LEADER_ID_HI, R.SYS_BACKUP_SEC_HI, R.CALIPER_PERIOD_START_HI, R.CALIPER_LAST_SWAP_HI,
      R.SURVEY_LAST_WINDOW_HI, R.TWIN_LAST_SET_HI, R.UPDATE_ACT_SEC_HI, R.UPDATE_ACT_NS, R.HEALTH_LEDGER_NEXT_HI].contains off ||
    (slotOf (R.CRC_CH_RESULT_HI 0) 64 4 off).isSome || (slotOf (R.BRUSH_CORE_CYCLE_HI 0) 0x40000 68 off).isSome ||
    (slotOf (R.BRUSH_CORE_BLOCK_HI 0) 0x40000 68 off).isSome ||
    (R.TIME_TSIN_TS_NS 0 ≤ off && off ≤ R.TIME_TSIN_MEDIA_HI 0) || (R.TIME_TSIN_TS_NS 1 ≤ off && off ≤ R.TIME_TSIN_MEDIA_HI 1)

/-- What a read leaves of a register: its RC fields are cleared, and HEALTH_MARGINj.H_MIN, the smallest H since the last read,
starts again from its largest value. -/
def readLeaves (off : Nat) (w : Word) (rc : Nat) : Word :=
  if (slotOf (R.HEALTH_MARGIN 0) 4 8 off).isSome then w ||| .ofNat 32 rc else w &&& ~~~(.ofNat 32 rc)

/-- The word a read of a defined, ungated register returns to a master, and what the read leaves (R12). -/
def Core.readWord (c : Core) (m off : Nat) : Word × Core :=
  match regRow? off with
  | none => (0, c)
  | some r =>
    if shadowed off then (c.shadowWord m off, c)
    else if off = R.TIME_TSIN_STATUS 0 ∨ off = R.TIME_TSIN_STATUS 1 then
      (.ofNat 32 ((c.captures ((off - R.TIME_TSIN_STATUS 0) / 32)).length + (c.shadowWord m off).toNat / 32 * 32), c)
    else
      let w := c.get off
      let c := if r.rc = 0 then c else c.putIrq off (readLeaves off w r.rc)
      let c := match c.snapWords off with
        | some ws => c.putShadow m (off + 4) ws
        | none => c
      (if off = R.TIME_NOW_FRAC then .ofNat 32 (c.timeNow.headD 0) else w &&& ~~~(.ofNat 32 r.wo), c)

/-- A read of the memories of a Brush core: IM of a firmware core reads 0 (R420). -/
def Core.readBrush (c : Core) (m off : Nat) : Core :=
  let k := (off - 0x2000000) / 0x40000
  let x := off % 0x40000
  if !regPath m off then (c.noPath m (0xF000000000 + off) false).send (.read m off 0)
  else if c.gated off then (c.gatedAccess m off false).send (.read m off 0)
  else if x < 0x20000 then c.send (.read m off (if c.fwCore k then 0 else c.imWord k ((x - 0x10000) / 4)))
  else
    let a := (x - 0x20000) / 4
    (c.dmSeen k [a]).send (.read m off (if c.dmEcc k a = 2 then 0 else c.dmWord k a))

/-- A read of a register over the fabric. -/
def Core.readReg (c : Core) (m off : Nat) : Core :=
  if msixBase ≤ off ∧ off < pbaBase + 8 then
    (if m ≤ 3 ∨ m = 8 then
       c.send (.read m off (if off % 4 ≠ 0 then 0
         else if off < pbaBase then smGet msixReset c.host.msix ((off - msixBase) / 4)
         else .ofNat 32 (c.host.pba / 2 ^ (8 * (off - pbaBase)))))
     else (c.noPath m (0xF000000000 + off) false).send (.read m off 0))
  else if 0x2000000 ≤ off ∧ off < 0x3100000 ∧ 0x10000 ≤ off % 0x40000 ∧ off % 4 = 0 then c.readBrush m off
  else if off = R.ATELIER_DONE then atelierDonePop m c
  else
    match slotOf (R.HOST_HOLD 0) 4 64 off with
    | some n => holdAcquire m n c
    | none =>
      match slotOf (R.TIME_TSIN_TS_FRAC 0) 0x20 2 off with
      | some i => tsinFifoPop m i c
      | none => c.busRead m off fun c => c.readWord m off

/-- READ_CLEAR. -/
def readClear (m off : Nat) (c : Core) : Core := c.readReg m off

/-- SNAPSHOT_READ. -/
def snapshotRead (m off : Nat) (c : Core) : Core := c.readReg m off

/-! ### BAR2 -/

/-- A host access of up to a block of DRAM through BAR2, at BAR2 offset y: a write of bytes, or a read of n bytes. Beyond 14 GiB a
read returns 0 and a write is ignored. -/
def bar2Access (y : Nat) (write : Bool) (bytes : List Byte) (n : Nat) (mem : Mem) (c : Core) : Core × Mem :=
  let a := c.f F.HOST_BAR2_BASE_BASE * 2 ^ 28 + y
  let zeros := List.replicate n (0 : Byte)
  if !c.power.endpointReady || c.power.perst || decide (y ≥ 2 ^ 28) then (c, mem)
  else if a ≥ dramEnd || !c.memOn then (if write then c else c.send (.data zeros), mem)
  else if write then memWrite 8 a (bytes.take (dramEnd - a)) mem c
  else
    let k := min n (dramEnd - a)
    ((c.memcRead 8 a k).send (.data (c.readBytes mem a k ++ List.replicate (n - k) 0)), mem)

end Sys2Proof.Machine
end

