-- ==== Sys2Proof/Machine/Boundary.lean ====
section
/-! DEFINITION. The block boundary (R23, R24, R33): what the block that ends has computed, the step of media time, what takes
effect at the boundary, and what the block that begins starts. -/

namespace Sys2Proof.Machine

/-! ### What the block brought from outside -/

/-- A fault of a near word, kind 1 a single-bit error, 2 an uncorrectable word. -/
def Core.hurtNear (c : Core) (x : Nat × Nat) : Core :=
  if inRange 1 2 x.2 then { c with ren := { c.ren with nearFault := smSet (fun _ => 0) c.ren.nearFault x.1 x.2 } } else c

/-- A fault of a DM word of a core, of the same kinds. -/
def Core.hurtDm (c : Core) (x : Nat × Nat × Nat) : Core :=
  if x.1 < 68 && inRange 1 2 x.2.2 then
    { c with brush := { c.brush with ecc := smSet (fun _ => 0) c.brush.ecc (32768 * x.1 + x.2.1 % 32768) x.2.2 } }
  else c

/-- Codewords that the FEC of a port has corrected, and those it could not. -/
def Core.fecSeen (c : Core) (x : Nat × Nat × Nat) : Core :=
  if x.1 > 3 then c
  else (c.countW (R.NET_FEC_CORRECTED x.1) x.2.1).countN (R.NET_FEC_UNCORRECTED x.1) x.2.2

/-- The faults and counts that the block brought. -/
def Core.envSeen (c : Core) (e : BlockEnv) : Core :=
  e.fec.foldl Core.fecSeen (e.dm.foldl Core.hurtDm (e.near.foldl Core.hurtNear c))

/-! ### The block that ends -/

/-- The engines, the output chain and monitor rendering complete their block, which began at b (R33, steps 3 to 5). -/
def Core.closeRender (c : Core) (b : Nat) (mem : Mem) : Core :=
  let c := c.chainTurn b
  let done := c.ren.busy || (!c.ren.fresh && decide (c.ren.blockAt = b) && decide (c.ren.blockN = b))
  let c := (renderSumsDone mem c).1
  if done then c.monitorBlock.chainInput else { c with mon := { c.mon with out := [] } }

/-- A sample as a word with the sample at the top. -/
def topWord (x : Int) : Nat := unsigned 24 x * 256

/-- What each network transmit channel has been given for the block from b on, as words: a direct path's words, or the block in
emission under the common fade. -/
def Core.sentWords (c : Core) (b : Nat) : List (Nat × List Nat) :=
  let dests := (routesOf c.arm.live).filter fun x => inRange 0x1000 0x17FF x.1
  dests.map fun x =>
    let ws := if inRange 0xD00 0xDFF x.2.1 then c.dpBlock (x.2.1 - 0xD00)
      else (blockOf c.blk (smGet (fun _ => []) c.arm.tx x.1)).zipIdx.map fun y =>
        topWord (weighted (c.clk.gate.weight (b + y.2)) y.1)
    (x.1 - 0x1000, ws)

/-- The samples of the block from b on that stand outside the TDM ports, by source code: network channels, PDM inputs, outputs,
monitor channels, direct paths and Brush outputs. `mons` are the monitor blocks that the block has completed. -/
def Core.innerSources (c : Core) (b : Nat) (net mons : SMap (List Int)) : SMap (List Int) :=
  let put := fun (base : Nat) (m l : SMap (List Int)) => l.foldl (fun m x => smSet (fun _ => []) m (base + x.1) x.2) m
  let work := fun (key : Nat) (l : SMap (List Int)) =>
    l.map fun x => (x.1, x.2.zipIdx.map fun y => c.workSample (key + x.1) (b + y.2) y.1)
  let pdm := (List.range 16).map fun n => (n, blockOf c.blk (c.pdm n).out)
  let dps := (c.arm.dps.map (·.1)).map fun n => (n, (c.dpBlock n).map fun w => signed 24 (w / 256))
  put 0xE00 (put 0xD00 (put 0xC00 (put 0xA00 (put 0x900 net pdm) (work 0 c.out.out)) (work 512 mons)) dps) c.brush.outBufs

/-- The other channel of a TDM slot's pair. -/
def tdmPair (s : Nat) : Option Nat := if s < 0x100 ∧ s % 2 = 0 then some (s + 1) else none

/-! ### Media time and the common fade -/

/-- A finished fade of the common gate reads as its end. -/
def Gate.settle (g : Gate) (n : Nat) : Gate :=
  match g with
  | .fadeOut a len => if a + len ≤ n then .zero else g
  | .fadeIn a len => if a + len ≤ n then .full else g
  | g => g

/-- Whether outputs may sound: the module is running and not held for heat. -/
def Core.maySound (c : Core) : Bool := decide (c.f F.SYS_STATUS_STATE = 1) && !c.flag F.SYS_STATUS_THERM_HOLD

/-- The hold of a start is released at a boundary, from step 14 on (R122). -/
def Core.releaseTurn (c : Core) : Core :=
  let n := c.time.n
  let ready := match c.clk.fadeInAt with
    | some a => decide (a ≤ n)
    | none => true
  if c.power.releaseDue && ready then
    let c := { c with power := { c.power with releaseDue := false } }
    let c := (c.setF F.SYS_STATUS_OUTPUT_HELD 0).raise F.SYS_INT_STATUS_OUTPUT_RELEASED
    if c.mediaChanging then c else c.fadeInFrom n
  else c

/-- The common fade starts to rise at the boundary it waits for, unless the module is held, stands by or is too hot. -/
def Core.riseTurn (c : Core) : Core :=
  let n := c.time.n
  match c.clk.fadeInAt with
  | none => c
  | some a =>
    if n < a then c
    else
      let c := { c with clk := { c.clk with fadeInAt := none } }
      if c.maySound && !c.flag F.SYS_STATUS_OUTPUT_HELD then
        let up : Gate := .fadeIn n c.glaze
        let dp := match c.clk.dpGate with
          | .full => .full
          | .fadeIn a len => .fadeIn a len
          | _ => up
        { c with clk := { c.clk with gate := up, dpGate := dp, dpCut := false } }
      else c

/-- What the common fade does at a boundary. -/
def Core.gateTurn (c : Core) : Core :=
  let n := c.time.n
  let c := { c with clk := { c.clk with gate := c.clk.gate.settle n, dpGate := c.clk.dpGate.settle n } }
  c.releaseTurn.riseTurn

/-- The MEDIA domain freezes: the third step of a double fault (R83). -/
def Core.mediaFreeze (c : Core) : Core :=
  let c := c.cutAudio
  let c := { c with clk := { c.clk with mediaOn := false, frozen := true, fault := some 2 } }.setF F.CLK_MEDIA_STATUS_STATE 5
  c.portsFreeze.streamsFreeze

/-- What the clocks do at the boundary that begins a block: the steps of a double fault and the end of a MEDIA switch. It says whether
the block that ended was captured and the one that begins runs. -/
def Core.clockTurn (c : Core) : Core × Bool :=
  match c.clk.fault, c.clk.sw with
  | some 0, _ =>
    let c := c.fadeOut c.time.n c.blk
    ({ c with clk := { c.clk with fault := some 1 } }, true)
  | some _, _ => (c.mediaFreeze, false)
  | none, some s => if s.done then (c.mediaSwitchEnd s, false) else (c, true)
  | none, none => (c, true)

/-! ### The block that begins -/

/-- What takes effect at the boundary before the Armature reads its sources: CLKOUTs, swaps, ports. -/
def Core.openTurn (c : Core) : Core := ((paletteSwapExecute c.clkoutRestart).portsTurn)

/-- The Armature reads the block that ended, from b on, and delivers it (R344, R348); meters and payload marks follow it. -/
def Core.armatureTurn (c : Core) (b : Nat) (tdm mons : SMap (List Int)) (pdm : List (List Bool)) : Core :=
  let n := c.time.n
  let net := c.netSources
  let pair := fun (s : Nat) => if s < 0x100 then tdmPair s else c.netPair s
  let flagged := c.netFlagged
  let both := net.foldl (fun m x => smSet (fun _ => []) m x.1 x.2) tdm
  let c := ((c.releaseAll n).pdmBlocks b pdm).examine b both pair flagged
  let c := c.brushOut n
  let src := (c.innerSources b both mons).map fun x => (x.1, c.heard b x.1 x.2)
  (c.meterAll n src).deliver n src

/-- What follows the delivery: Brush buffers, direct paths, detectors, the measurement and Survey's history. -/
def Core.followTurn (c : Core) (b : Nat) : Core :=
  let c := (((c.brushFill c.time.n).glazeRegs.brushDue.fwSync).dpTurn).directDone
  ((c.detectAll).measureBlock b).surveyCapture b

/-- Words at consecutive addresses as one run of bytes. -/
def packWords : List (Nat × Nat) → List (Nat × List Byte)
  | [] => []
  | x :: t =>
    let w := leBytes 4 x.2
    match packWords t with
    | y :: r => if y.1 = x.1 + 4 then (x.1, w ++ y.2) :: r else (x.1, w) :: y :: r
    | [] => [(x.1, w)]

/-- The delay lines are written, the far ones in DRAM, and the engines start the block (R33, step 3; R234, R236). -/
def Core.renderTurn (c : Core) (mem : Mem) : Core × Mem :=
  let x := c.writeLines
  let far := if x.1.memOn then packWords x.2 else []
  let r := far.foldl (fun (a : Core × Mem) y => memWrite 9 y.1 y.2 a.2 a.1) (x.1, mem)
  (r.1.expertBlock.startRender.monitorTurn.drainWrites, r.2)

/-- What the rest of the module does once a block: Patina, Smudge, the twin and event notices. -/
def Core.sideTurn (c : Core) (old : Nat) (e : BlockEnv) : Core :=
  (((c.healthTurn e.lanes e.fails e.groups e.table).smudgeTurn).twinTurn old).eventNotices

/-- BLOCK_BOUNDARY. While MEDIA stands, only time passes and event notices go out. -/
def blockBoundary (e : BlockEnv) (mem : Mem) (c : Core) : Core × Mem :=
  if !c.clk.mediaOn then ((if c.power.step < 4 then c else c.pass e.cycles).eventNotices, mem)
  else
    let b := c.time.n
    let c := c.envSeen e
    let mons := c.mon.out
    let c := c.closeRender b mem
    let c := c.txPush (b + c.blk) (c.sentWords b)
    let x := c.captureTdm b
    let c := { x.2 with time := { x.2.time with n := b + c.blk } }
    let k := (c.pass e.cycles).clockTurn
    if k.2 then
      let c := k.1.gateTurn.openTurn
      let c := (c.armatureTurn b x.1 mons e.pdm).followTurn b
      let r := c.renderTurn mem
      (r.1.sideTurn b e, r.2)
    else (k.1.gateTurn.sideTurn b e, mem)

end Sys2Proof.Machine
end

