-- ==== Sys2Proof/Machine/OpBase.lean ====
section
/-! DEFINITION. The chapters together, for the table of opcodes. -/

namespace Sys2Proof.Machine

/-- Whether a status says that a command has been carried out or will be (R142). -/
def Status.good (st : Status) : Bool := decide (st = .ok) || decide (st = .accepted)

end Sys2Proof.Machine
end

