-- ==== Sys2Proof/Machine/OpTable.lean ====
section
/-! DEFINITION. The issued opcodes with their bodies, for commands that take effect at a boundary or come from the partner. -/

namespace Sys2Proof.Machine

/-- Issued opcodes, part 1. -/
def opPart1 : List (Opc × Body) :=
  [(opTimeConfig, timeConfigBody),
   (opTimeStatus, timeStatusBody),
   (opTimeStepAccept, timeStepAcceptBody),
   (opTimeSet, timeSetBody),
   (opPulseProgram, pulseProgramBody),
   (opTsinRead, tsinReadBody),
   (opSysState, sysStateBody),
   (opSysStandby, sysStandbyBody),
   (opSysRestart, sysRestartBody),
   (opFuncReset, funcResetBody),
   (opWakeTol, wakeTolBody),
   (opOutputRelease, outputReleaseBody),
   (opStartConfig, startConfigBody),
   (opMediaRate, mediaRateBody),
   (opSessionClose, sessionCloseBody),
   (opPing, pingBody),
   (opEventSubscribe, eventSubscribeBody),
   (opSessionLevel, sessionLevelBody),
   (opTimedCancel, timedCancelBody),
   (opObjectDefine, objectDefineBody)]

/-- Issued opcodes, part 2. -/
def opPart2 : List (Opc × Body) :=
  [(opObjectGet, objectGetBody),
   (opObjectDisableAll, objectDisableAllBody),
   (opObjectState, objectStateBody),
   (opLayoutBegin, layoutBeginBody),
   (opSpeakerDefine, speakerDefineBody),
   (opZoneDefine, zoneDefineBody),
   (opLayoutTemp, layoutTempBody),
   (opLayoutCommit, layoutCommitBody),
   (opLayoutAdmission, layoutAdmissionBody),
   (opSpeakerGet, speakerGetBody),
   (opSoundSpeedSet, soundSpeedSetBody),
   (opSoundSpeedGet, soundSpeedGetBody),
   (opPaletteStatus, paletteStatusBody),
   (opPaletteSwap, paletteSwapBody),
   (opMaquette, maquetteBody),
   (opCaliperConfig, caliperConfigBody),
   (opCaliperCounters, caliperCountersBody),
   (opRenderStatus, renderStatusBody),
   (opContribRead, contribReadBody),
   (opContribFind, contribFindBody)]

/-- Issued opcodes, part 3. -/
def opPart3 : List (Opc × Body) :=
  [(opExpertObject, expertObjectBody),
   (opContribWrite, contribWriteBody),
   (opNearRead, nearReadBody),
   (opRenderCounters, renderCountersBody),
   (opClipCounts, clipCountsBody),
   (opBusDefine, busDefineBody),
   (opBusGet, busGetBody),
   (opBedDefine, bedDefineBody),
   (opBedGet, bedGetBody),
   (opBinauralSet, binauralSetBody),
   (opBinauralGet, binauralGetBody),
   (opDownmixSet, downmixSetBody),
   (opDownmixGet, downmixGetBody),
   (opLoudnessConfig, loudnessConfigBody),
   (opLoudnessGet, loudnessGetBody),
   (opLoudnessReset, loudnessResetBody),
   (opOutchainBegin, (hostEdit outchainBeginBody)),
   (opOutchainSet, (hostEdit outchainSetBody)),
   (opBiquadSet, (hostEdit biquadSetBody)),
   (opFirSet, (hostEdit firSetBody))]

/-- Issued opcodes, part 4. -/
def opPart4 : List (Opc × Body) :=
  [(opVarnishSet, (hostEdit varnishSetBody)),
   (opOutchainCommit, (hostEdit outchainCommitBody)),
   (opOutchainGet, outchainGetBody),
   (opOutputMute, outputMuteBody),
   (opOutchainMeters, outchainMetersBody),
   (opSurveyStatus, surveyStatusBody),
   (opMeasureStart, measureStartBody),
   (opMeasureAbort, measureAbortBody),
   (opResultGet, resultGetBody),
   (opResultBands, resultBandsBody),
   (opResultStore, resultStoreBody),
   (opDesign, designBody),
   (opLiveConfig, liveConfigBody),
   (opLiveOutputSet, liveOutputSetBody),
   (opLiveTimingSet, liveTimingSetBody),
   (opLivePolicySet, livePolicySetBody),
   (opLiveRebase, liveRebaseBody),
   (opProposalGet, proposalGetBody),
   (opProposalApply, proposalApplyBody),
   (opProposalDiscard, proposalDiscardBody)]

/-- Issued opcodes, part 5. -/
def opPart5 : List (Opc × Body) :=
  [(opSurveyLogRead, surveyLogReadBody),
   (opSurveyLogInfo, surveyLogInfoBody),
   (opDetectorGet, detectorGetBody),
   (opDetectorConfig, detectorConfigBody),
   (opPdmConfig, pdmConfigBody),
   (opPdmFirLoad, pdmFirLoadBody),
   (opPortConfig, portConfigBody),
   (opPortStatus, portStatusBody),
   (opRouteBegin, routeBeginBody),
   (opRouteSet, routeSetBody),
   (opRouteCommit, routeCommitBody),
   (opRouteGet, routeGetBody),
   (opRouteNow, routeNowBody),
   (opDirectGain, directGainBody),
   (opDirectGet, directGetBody),
   (opGroupSet, groupSetBody),
   (opMeterGet, meterGetBody),
   (opMeterConfig, meterConfigBody),
   (opMeterHold, meterHoldBody),
   (opNonpcmGet, nonpcmGetBody)]

/-- Issued opcodes, part 6. -/
def opPart6 : List (Opc × Body) :=
  [(opNetConfig, netConfigBody),
   (opNetStatus, netStatusBody),
   (opNetPause, netPauseBody),
   (opNetGateSet, netGateSetBody),
   (opNetGateGet, netGateGetBody),
   (opStreamRxSet, streamRxSetBody),
   (opStreamRxGet, streamRxGetBody),
   (opStreamTxSet, streamTxSetBody),
   (opStreamTxGet, streamTxGetBody),
   (opStreamStats, streamStatsBody),
   (opBrushStatus, brushStatusBody),
   (opBrushAlloc, brushAllocBody),
   (opBrushFree, brushFreeBody),
   (opBrushLoad, brushLoadBody),
   (opBrushRead, brushReadBody),
   (opBrushStart, brushStartBody),
   (opBrushStop, brushStopBody),
   (opBrushBuffer, brushBufferBody),
   (opParamDeclare, paramDeclareBody),
   (opParamBegin, paramBeginBody)]

/-- Issued opcodes, part 7. -/
def opPart7 : List (Opc × Body) :=
  [(opParamSet, paramSetBody),
   (opParamCommit, paramCommitBody),
   (opParamGet, paramGetBody),
   (opBrushMbxPost, brushMbxPostBody),
   (opBrushMbxRead, brushMbxReadBody),
   (opStorageStatus, storageStatusBody),
   (opLibList, libListBody),
   (opLibWriteBegin, libWriteBeginBody),
   (opLibWriteData, libWriteDataBody),
   (opLibWriteCommit, libWriteCommitBody),
   (opLibRead, libReadBody),
   (opLibDelete, libDeleteBody),
   (opLibWriteAbort, libWriteAbortBody),
   (opCrcScan, crcScanBody),
   (opMemConfig, memConfigBody),
   (opFlashConfig, flashConfigBody),
   (opFlashUnit, flashUnitBody),
   (opTwinStatus, twinStatusBody),
   (opTwinConfig, twinConfigBody),
   (opTwinSwitchover, twinSwitchoverBody)]

/-- Issued opcodes, part 8. -/
def opPart8 : List (Opc × Body) :=
  [(opTwinForce, twinForceBody),
   (opTwinLeave, twinLeaveBody),
   (opTwinPersist, twinPersistBody),
   (opTwinResync, twinResyncBody),
   (opUpdateStatus, updateStatusBody),
   (opUpdateBegin, updateBeginBody),
   (opUpdateData, updateDataBody),
   (opUpdateEnd, updateEndBody),
   (opUpdateDiscard, updateDiscardBody),
   (opUpdatePeers, updatePeersBody),
   (opUpdateActivate, updateActivateBody),
   (opUpdateCancel, updateCancelBody),
   (opUpdatePeerStatus, updatePeerStatusBody),
   (opUpdateSvnRaise, updateSvnRaiseBody),
   (opHealthStatus, healthStatusBody),
   (opHealthConfig, healthConfigBody),
   (opPatinaRead, patinaReadBody),
   (opPatinaInfo, patinaInfoBody),
   (opUnitGet, unitGetBody),
   (opSpareSwap, spareSwapBody)]

/-- Issued opcodes, part 9. -/
def opPart9 : List (Opc × Body) :=
  [(opSmudgeChallenge, smudgeChallengeBody),
   (opSmudgeUnlock, smudgeUnlockBody),
   (opSmudgeSet, smudgeSetBody),
   (opSmudgeLock, smudgeLockBody),
   (opPositionStream, positionExecBody)]

/-- Every issued opcode but SESSION_OPEN, with what it does. -/
def opList : List (Opc × Body) :=
  opPart1 ++ opPart2 ++ opPart3 ++ opPart4 ++ opPart5 ++ opPart6 ++ opPart7 ++ opPart8 ++ opPart9

/-- The opcode with a code. -/
def opWith (code : Nat) : Option (Opc × Body) := opList.find? fun x => decide (x.1.code = code)

end Sys2Proof.Machine
end

