-- ==== Sys2Proof/Machine/Pending.lean ====
section
/-! DEFINITION. Commands that take effect apart from their arrival: timed commands at their boundary (R150), the commands of a
mirror set (R483), and packets that are refused or whose opcode is not issued (R143). -/

namespace Sys2Proof.Machine

/-! ### Timed commands (R150) -/

/-- A timed command takes effect at its boundary. One whose effect was scheduled when it was accepted has nothing left to do but
its notice, unless the effect gives it itself; any other runs its body now. -/
def Core.timedRun (c : Core) (t : Timed) : Core :=
  let c := { c with host := { c.host with timed := c.host.timed.erase t } }
  if t.eager then (if t.own then c else c.notice t.tok .ok [])
  else
    match opWith t.opcode with
    | none => c
    | some x =>
      let a := x.2 c (reqOf x.1 t.packet)
      (if a.2.1 = .accepted then a.1 else a.1.notice t.tok a.2.1 a.2.2).flushInstant

/-- TIMED_EXECUTE: the timed commands that are due, in the order in which they were taken. -/
def timedExecute (c : Core) : Core := (c.host.timed.filter fun t => decide (t.boundary ≤ c.now)).foldl Core.timedRun c

/-! ### Mirror sets (R483) -/

/-- A command that a mirror set carries, applied without a session: a timed one enters the list of pending ones. -/
def Core.mirrorRun (c : Core) (x : MirrorCmd) : Core :=
  if !(statusOf x.status).good then c
  else
    match opWith x.opcode with
    | none => c
    | some o =>
      let p := { x.packet with session := 0 }
      let a := o.2 c (reqOf o.1 p)
      (if pkAtTime p && o.1.timeable then (queueTimed o.1 p c a).1 else a.1).flushInstant

/-- MIRROR_SET_APPLY: the oldest complete set is applied whole, unless a takeover has come first. `items` is what its payload
holds. -/
def mirrorSetApply (items : MirrorItems) (c : Core) : Core :=
  match c.twin.ready with
  | [] => c
  | set :: t =>
    if c.twinState ≠ 3 ∨ c.twin.resync then c
    else if (c.twin.due.map fun d => decide (d ≤ c.time.n)).getD false then { c with twin := { c.twin with ready := t } }
    else (items.cmds.foldl Core.mirrorRun c).applySet set items

/-! ### Packets that are not carried out (R143) -/

/-- The opcode and the packet that raw bytes hold, if they hold a header. -/
def packetOf (tr : Transport) (raw : List Byte) : Option (Nat × Packet) :=
  if raw.length < 16 then none
  else
    let n := fun (i k : Nat) => leNat ((raw.drop i).take k)
    some (n 4 2, { transport := tr, magic := .ofNat 16 (n 0 2), version := raw.getD 2 0, flags := raw.getD 3 0,
                   length := .ofNat 16 (n 6 2), seq := .ofNat 32 (n 8 4), session := .ofNat 16 (n 12 2),
                   reserved := .ofNat 16 (n 14 2), payload := raw.drop 16 })

/-- Whether an opcode is issued. -/
def issued (op : Nat) : Bool := decide (op = 0x0100) || (opWith op).isSome

/-- The packet is counted as discarded. -/
def Core.discard (c : Core) : Core := (c.count R.HOST_EASEL_DISCARD).raise F.HOST_INT_STATUS_DISCARD

/-- A packet is checked on arrival, and one that would be carried out because its opcode is issued stays where it is. -/
def refusedOnce (tr : Transport) (raw : List Byte) (c0 : Core) : Core :=
  if !c0.easelAnswers then c0
  else
    match packetOf tr raw with
    | none => (if isPcie tr then { c0 with host := { c0.host with ring := c0.host.ring.drop 1 } } else c0).discard
    | some (op, p) =>
      let c := c0.popRing op p
      match c.arrival op p with
      | .discard => c.discard
      | .refuse st => c.reply op p p.session.toNat st []
      | .silent => c
      | .duplicate r => c.post (.easel tr 0 r.status op p.seq p.session.toNat r.body)
      | .openAgain s => c.post (.easel tr 0 0 op p.seq s.num s.openReply)
      | .take =>
        if issued op then c0
        else
          let c := (c.countW R.HOST_EASEL_RX_COUNT 1).taken op p .badOpcode []
          (c.firstReply op p (.badOpcode, [])).flushInstant

/-- EASEL_PACKET_REFUSED. -/
def easelPacketRefused (tr : Transport) (raw : List Byte) (c : Core) : Core :=
  if isUdp tr then c.passFrame 3 3 (refusedOnce tr raw) else refusedOnce tr raw c

end Sys2Proof.Machine
end

