-- ==== Sys2Proof/Machine/State.lean ====
section
/-! DEFINITION. The state of the module: everything the spec gives it, the addressed memories, and the queue of waiting
commands; and why a step can stop. -/

namespace Sys2Proof.Machine

/-- The module with the commands that wait for it, first in, first out. -/
structure State where
  /-- Registers and everything the chapters give beside them. -/
  core : Core := {}
  /-- DRAM and studio SRAM. -/
  mem : Mem := {}
  /-- The commands that wait, the oldest first. -/
  pending : List Instr := []
deriving DecidableEq, Repr

/-- The canonical form of the memories: addresses strictly rising and no entry equal to what an unlisted address reads as, which
is 0. -/
def Memory.wf (m : Mem) : Bool := smWf (fun _ => (0 : Byte)) m.dram && smWf (fun _ => (0 : Byte)) m.sram

/-- The reasons for which a step stops with a fault. There is none: the spec reports every error of the module in its registers,
replies and pins, and the module goes on (safe: nothing is left out). -/
inductive Fault where
deriving DecidableEq, Repr

/-- The reasons for which a step is refused. -/
inductive Refusal where
  /-- Raised by the arm of a command that has no meaning yet; no arm raises it now (safe). -/
  | notModelled (mnemonic : String)
deriving DecidableEq, Repr

/-- The module right after reset: without supply, every register at its value after reset, the memories empty and no command
waiting. -/
def State.reset : State := {}

end Sys2Proof.Machine
end

