-- ==== Sys2Proof/Machine/Run.lean ====
section
/-! DEFINITION. How a command changes the state: what it does to registers and memories, then the trace records that it has
caused (R443). The queue is left as it is. -/

namespace Sys2Proof.Machine

/-- A command that reads and writes the memories beside everything else. -/
def runMem (f : Mem → Core → Core × Mem) (s : State) : Host.Outcome State Fault Refusal :=
  let x := f s.mem s.core
  let y := flushTrace x.2 x.1
  .next { s with core := y.1, mem := y.2 }

/-- A command that leaves the memories alone, but for the trace. -/
def runCore (f : Core → Core) (s : State) : Host.Outcome State Fault Refusal := runMem (fun m c => (f c, m)) s

/-- Whether what studio SRAM held is lost: a control-plane restart has begun, or start-up has gone back (R124, R541). -/
def sramLost (c d : Core) : Bool :=
  (!c.flag F.HOST_STATUS_RESTARTING && d.flag F.HOST_STATUS_RESTARTING) || decide (d.power.step < c.power.step)

/-- A command that may begin a control-plane restart or a reset. -/
def runReset (f : Core → Core) (s : State) : Host.Outcome State Fault Refusal :=
  runMem (fun m c => let d := f c; (d, if sramLost c d then { m with sram := [] } else m)) s

/-- An idle step: one TIME cycle of 4 ns passes once the TIME block has its clock, from step 4 of start-up on (DESIGN CHOICE). -/
def State.idle (s : State) : State := if s.core.power.step < 4 then s else { s with core := s.core.pass 1 }

end Sys2Proof.Machine
end

