-- ==== Sys2Proof/Machine/CmdBrush.lean ====
section
/-! DEFINITION. The meanings of the commands of Brush cores (chapter 15), one for each. -/

namespace Sys2Proof.Machine

/-- NOP (R403): A parallel instruction with no MAC/ALU operation; its memory and AU slots still act. -/
def execBcNop (k : Nat) (s : State) : Host.Outcome State Fault Refusal := runCore (brushIssue 0x00 k) s

/-- MAC (R403): Multiply-accumulate into an accumulator per lane. -/
def execBcMac (k : Nat) (s : State) : Host.Outcome State Fault Refusal := runCore (brushIssue 0x01 k) s

/-- MSU (R403): Multiply-subtract from an accumulator per lane. -/
def execBcMsu (k : Nat) (s : State) : Host.Outcome State Fault Refusal := runCore (brushIssue 0x02 k) s

/-- MPY (R403): Multiply into an accumulator per lane. -/
def execBcMpy (k : Nat) (s : State) : Host.Outcome State Fault Refusal := runCore (brushIssue 0x03 k) s

/-- CLR (R403): Clear an accumulator. -/
def execBcClr (k : Nat) (s : State) : Host.Outcome State Fault Refusal := runCore (brushIssue 0x05 k) s

/-- ADDA (R403): Add an operand scaled by 2²³ into an accumulator. -/
def execBcAdda (k : Nat) (s : State) : Host.Outcome State Fault Refusal := runCore (brushIssue 0x06 k) s

/-- SUBA (R403): Subtract an operand scaled by 2²³ from an accumulator. -/
def execBcSuba (k : Nat) (s : State) : Host.Outcome State Fault Refusal := runCore (brushIssue 0x07 k) s

/-- RND (R395): Move an accumulator to a vector register with OSH shift, rounding and saturation. -/
def execBcRnd (k : Nat) (s : State) : Host.Outcome State Fault Refusal := runCore (brushIssue 0x08 k) s

/-- TRN (R395): Move an accumulator to a vector register with OSH shift, truncation and saturation. -/
def execBcTrn (k : Nat) (s : State) : Host.Outcome State Fault Refusal := runCore (brushIssue 0x09 k) s

/-- HSUM (R403): Sum the four lanes of an accumulator into lane 0. -/
def execBcHsum (k : Nat) (s : State) : Host.Outcome State Fault Refusal := runCore (brushIssue 0x0A k) s

/-- ACCMOV (R403): Copy one accumulator to another. -/
def execBcAccmov (k : Nat) (s : State) : Host.Outcome State Fault Refusal := runCore (brushIssue 0x0B k) s

/-- VADD (R403): Lane-wise saturating add. -/
def execBcVadd (k : Nat) (s : State) : Host.Outcome State Fault Refusal := runCore (brushIssue 0x10 k) s

/-- VSUB (R403): Lane-wise saturating subtract. -/
def execBcVsub (k : Nat) (s : State) : Host.Outcome State Fault Refusal := runCore (brushIssue 0x11 k) s

/-- VAND (R403): Lane-wise bitwise AND on 24 bits. -/
def execBcVand (k : Nat) (s : State) : Host.Outcome State Fault Refusal := runCore (brushIssue 0x12 k) s

/-- VOR (R403): Lane-wise bitwise OR on 24 bits. -/
def execBcVor (k : Nat) (s : State) : Host.Outcome State Fault Refusal := runCore (brushIssue 0x13 k) s

/-- VXOR (R403): Lane-wise bitwise XOR on 24 bits. -/
def execBcVxor (k : Nat) (s : State) : Host.Outcome State Fault Refusal := runCore (brushIssue 0x14 k) s

/-- VNEG (R403): Lane-wise negate. -/
def execBcVneg (k : Nat) (s : State) : Host.Outcome State Fault Refusal := runCore (brushIssue 0x15 k) s

/-- VABS (R403): Lane-wise absolute value. -/
def execBcVabs (k : Nat) (s : State) : Host.Outcome State Fault Refusal := runCore (brushIssue 0x16 k) s

/-- VMAX (R403): Lane-wise maximum. -/
def execBcVmax (k : Nat) (s : State) : Host.Outcome State Fault Refusal := runCore (brushIssue 0x17 k) s

/-- VMIN (R403): Lane-wise minimum. -/
def execBcVmin (k : Nat) (s : State) : Host.Outcome State Fault Refusal := runCore (brushIssue 0x18 k) s

/-- VASR (R403): Lane-wise arithmetic shift right toward −∞. -/
def execBcVasr (k : Nat) (s : State) : Host.Outcome State Fault Refusal := runCore (brushIssue 0x19 k) s

/-- VASRR (R403): Lane-wise arithmetic shift right with rounding. -/
def execBcVasrr (k : Nat) (s : State) : Host.Outcome State Fault Refusal := runCore (brushIssue 0x1A k) s

/-- VSHL (R403): Lane-wise saturating shift left. -/
def execBcVshl (k : Nat) (s : State) : Host.Outcome State Fault Refusal := runCore (brushIssue 0x1B k) s

/-- VMOV (R403): Move SB, after broadcast, into DST. -/
def execBcVmov (k : Nat) (s : State) : Host.Outcome State Fault Refusal := runCore (brushIssue 0x1C k) s

/-- VROT (R403): Rotate the lanes of SA. -/
def execBcVrot (k : Nat) (s : State) : Host.Outcome State Fault Refusal := runCore (brushIssue 0x1D k) s

/-- LDI (R405): Load an immediate into a scalar register. -/
def execBcLdi (k : Nat) (s : State) : Host.Outcome State Fault Refusal := runCore (brushIssue 0x101 k) s

/-- MOV (R405): Copy one scalar register to another. -/
def execBcMov (k : Nat) (s : State) : Host.Outcome State Fault Refusal := runCore (brushIssue 0x102 k) s

/-- ADD (R397): Scalar add, setting the flags. -/
def execBcAdd (k : Nat) (s : State) : Host.Outcome State Fault Refusal := runCore (brushIssue 0x108 k) s

/-- SUB (R397): Scalar subtract, setting the flags. -/
def execBcSub (k : Nat) (s : State) : Host.Outcome State Fault Refusal := runCore (brushIssue 0x109 k) s

/-- AND (R397): Scalar bitwise AND. -/
def execBcAnd (k : Nat) (s : State) : Host.Outcome State Fault Refusal := runCore (brushIssue 0x10A k) s

/-- OR (R397): Scalar bitwise OR. -/
def execBcOr (k : Nat) (s : State) : Host.Outcome State Fault Refusal := runCore (brushIssue 0x10B k) s

/-- XOR (R397): Scalar bitwise XOR. -/
def execBcXor (k : Nat) (s : State) : Host.Outcome State Fault Refusal := runCore (brushIssue 0x10C k) s

/-- SHL (R397): Scalar shift left. -/
def execBcShl (k : Nat) (s : State) : Host.Outcome State Fault Refusal := runCore (brushIssue 0x10D k) s

/-- SHR (R397): Scalar logical shift right. -/
def execBcShr (k : Nat) (s : State) : Host.Outcome State Fault Refusal := runCore (brushIssue 0x10E k) s

/-- ASR (R397): Scalar arithmetic shift right. -/
def execBcAsr (k : Nat) (s : State) : Host.Outcome State Fault Refusal := runCore (brushIssue 0x10F k) s

/-- CMP (R405): Set the flags from RD minus the operand. -/
def execBcCmp (k : Nat) (s : State) : Host.Outcome State Fault Refusal := runCore (brushIssue 0x110 k) s

/-- MUL (R397): Scalar multiply, keeping the low 32 bits. -/
def execBcMul (k : Nat) (s : State) : Host.Outcome State Fault Refusal := runCore (brushIssue 0x111 k) s

/-- LDS (R405): Load a 32-bit DM word into a scalar register. -/
def execBcLds (k : Nat) (s : State) : Host.Outcome State Fault Refusal := runCore (brushIssue 0x118 k) s

/-- STS (R405): Store a scalar register as a 32-bit DM word. -/
def execBcSts (k : Nat) (s : State) : Host.Outcome State Fault Refusal := runCore (brushIssue 0x119 k) s

/-- LDC (R405): Read a core control register. -/
def execBcLdc (k : Nat) (s : State) : Host.Outcome State Fault Refusal := runCore (brushIssue 0x11A k) s

/-- STC (R405): Write a core control register. -/
def execBcStc (k : Nat) (s : State) : Host.Outcome State Fault Refusal := runCore (brushIssue 0x11B k) s

/-- XGET (R405): Read a vector lane into a scalar register. -/
def execBcXget (k : Nat) (s : State) : Host.Outcome State Fault Refusal := runCore (brushIssue 0x120 k) s

/-- XPUT (R405): Write a scalar into a vector lane. -/
def execBcXput (k : Nat) (s : State) : Host.Outcome State Fault Refusal := runCore (brushIssue 0x121 k) s

/-- ACCGET (R405): Read half of an accumulator lane into a scalar register. -/
def execBcAccget (k : Nat) (s : State) : Host.Outcome State Fault Refusal := runCore (brushIssue 0x122 k) s

/-- ACCPUT (R405): Write half of an accumulator lane from a scalar register. -/
def execBcAccput (k : Nat) (s : State) : Host.Outcome State Fault Refusal := runCore (brushIssue 0x123 k) s

/-- BRA (R406): Branch if COND holds. -/
def execBcBra (k : Nat) (s : State) : Host.Outcome State Fault Refusal := runCore (brushIssue 0x201 k) s

/-- JSR (R406): Jump to a subroutine, saving the return address in S15. -/
def execBcJsr (k : Nat) (s : State) : Host.Outcome State Fault Refusal := runCore (brushIssue 0x202 k) s

/-- RET (R406): Return to S15. -/
def execBcRet (k : Nat) (s : State) : Host.Outcome State Fault Refusal := runCore (brushIssue 0x203 k) s

/-- REP (R409): Repeat the next instruction n times. -/
def execBcRep (k : Nat) (s : State) : Host.Outcome State Fault Refusal := runCore (brushIssue 0x204 k) s

/-- DO (R410): Set up the hardware loop. -/
def execBcDo (k : Nat) (s : State) : Host.Outcome State Fault Refusal := runCore (brushIssue 0x205 k) s

/-- POLL (R412): Take the lowest enabled pending interrupt, if any, in 3 cycles. -/
def execBcPoll (k : Nat) (s : State) : Host.Outcome State Fault Refusal := runCore (brushIssue 0x206 k) s

/-- WAIT (R412): Wait for an interrupt or an Atelier task. -/
def execBcWait (k : Nat) (n : Nat) (s : State) : Host.Outcome State Fault Refusal := runCore (brushWait k n) s

/-- DONE (R406): Report the end of the running task to Atelier, then WAIT. -/
def execBcDone (k : Nat) (s : State) : Host.Outcome State Fault Refusal := runCore (brushIssue 0x208 k) s

/-- RTI (R406): Return from an interrupt, restoring PC and SR. -/
def execBcRti (k : Nat) (s : State) : Host.Outcome State Fault Refusal := runCore (brushIssue 0x209 k) s

/-- TRAP (R406): Set pending source 3, then act as POLL. -/
def execBcTrap (k : Nat) (s : State) : Host.Outcome State Fault Refusal := runCore (brushIssue 0x20A k) s

/-- HALT (R406): The core enters STOPPED. -/
def execBcHalt (k : Nat) (s : State) : Host.Outcome State Fault Refusal := runCore (brushIssue 0x20B k) s

/-- SYNC (R406): Wait until no transfer channel of the core is busy. -/
def execBcSync (k : Nat) (n : Nat) (s : State) : Host.Outcome State Fault Refusal := runCore (brushSync k n) s

/-- FTAP (R411): Read and move a delay-line vector, read an IM coefficient and accumulate the product. -/
def execBcFtap (k : Nat) (s : State) : Host.Outcome State Fault Refusal := runCore (brushIssue 0x300 k) s

/-- BRUSH_CORE_GO (R414): BRUSH_CORE_CTRL.GO starts a stopped core at ENTRY. -/
def execBrushCoreGo (m : Nat) (k : Nat) (v : Word) (s : State) : Host.Outcome State Fault Refusal :=
  runCore (brushCoreGo m k v) s

/-- BRUSH_CORE_CTRL_STOP (R414): A halt request stops the core at the next instruction boundary outside REP. -/
def execBrushCoreCtrlStop (m : Nat) (k : Nat) (v : Word) (s : State) : Host.Outcome State Fault Refusal :=
  runCore (brushCoreStop m k v) s

/-- XFER_GO (R418): A transfer channel GO starts a copy between DM and the fabric, or sets ERR. -/
def execXferGo (k : Nat) (n : Nat) (v : Word) (s : State) : Host.Outcome State Fault Refusal := runCore (xferGoWrite k n v) s

/-- XFER_COMPLETE (R418): A transfer channel finishes or fails and makes source 2 pending. -/
def execXferComplete (k : Nat) (n : Nat) (s : State) : Host.Outcome State Fault Refusal := runMem (xferComplete k n) s

/-- BRUSH_MBX_OUT_WRITE (R417): The owner core posts a word to B2C under R162. -/
def execBrushMbxOutWrite (k : Nat) (v : Word) (s : State) : Host.Outcome State Fault Refusal := runCore (brushMbxOutWrite k v) s

/-- BRUSH_MBX_ACK (R417): The owner core acknowledges C2B. -/
def execBrushMbxAck (k : Nat) (v : Word) (s : State) : Host.Outcome State Fault Refusal := runCore (brushMbxAck k v) s

/-- BRUSH_WINDOW_WRITE (R420): A host write to a customer core's IM or DM window, allowed only while STOPPED. -/
def execBrushWindowWrite (m : Nat) (k : Nat) (space : Nat) (w : Nat) (v : Word) (s : State) : Host.Outcome State Fault Refusal :=
  runCore (brushWindowWrite m k space w v) s

/-- BRUSH_STATUS_GET (R421): Easel 0x0900 returns Brush status and core states. -/
def execBrushStatusGet (p : Packet) (s : State) : Host.Outcome State Fault Refusal :=
  runCore (easel opBrushStatus brushStatusBody p) s

/-- BRUSH_ALLOC (R419): Easel 0x0901 allocates cores to customer brushwork. -/
def execBrushAlloc (p : Packet) (s : State) : Host.Outcome State Fault Refusal :=
  runCore (easel opBrushAlloc brushAllocBody p) s

/-- BRUSH_FREE (R421): Easel 0x0902 stops and frees customer cores. -/
def execBrushFree (p : Packet) (s : State) : Host.Outcome State Fault Refusal := runCore (easel opBrushFree brushFreeBody p) s

/-- BRUSH_LOAD (R421): Easel 0x0903 loads words into a stopped customer core. -/
def execBrushLoad (p : Packet) (s : State) : Host.Outcome State Fault Refusal := runCore (easel opBrushLoad brushLoadBody p) s

/-- BRUSH_READ (R421): Easel 0x0904 reads core memory or registers. -/
def execBrushRead (p : Packet) (s : State) : Host.Outcome State Fault Refusal := runCore (easel opBrushRead brushReadBody p) s

/-- BRUSH_START (R421): Easel 0x0905 starts a core at an entry PC at a boundary. -/
def execBrushStart (p : Packet) (s : State) : Host.Outcome State Fault Refusal :=
  runCore (easel opBrushStart brushStartBody p) s

/-- BRUSH_STOP (R421): Easel 0x0906 stops a core. -/
def execBrushStop (p : Packet) (s : State) : Host.Outcome State Fault Refusal := runCore (easel opBrushStop brushStopBody p) s

/-- BRUSH_BUFFER_SET (R415): Easel 0x0907 binds a Brush buffer to a core and DM address. -/
def execBrushBufferSet (p : Packet) (s : State) : Host.Outcome State Fault Refusal :=
  runCore (easel opBrushBuffer brushBufferBody p) s

/-- PARAM_DECLARE (R416): Easel 0x0910 declares a parameter block. -/
def execParamDeclare (p : Packet) (s : State) : Host.Outcome State Fault Refusal :=
  runCore (easel opParamDeclare paramDeclareBody p) s

/-- PARAM_BEGIN (R421): Easel 0x0911 keeps or refills the staged parameter banks. -/
def execParamBegin (p : Packet) (s : State) : Host.Outcome State Fault Refusal :=
  runCore (easel opParamBegin paramBeginBody p) s

/-- PARAM_SET (R421): Easel 0x0912 writes words into a staged parameter bank. -/
def execParamSet (p : Packet) (s : State) : Host.Outcome State Fault Refusal := runCore (easel opParamSet paramSetBody p) s

/-- PARAM_COMMIT (R421): Easel 0x0913 commits Palette 3 and sets STAGED_READY. -/
def execParamCommit (p : Packet) (s : State) : Host.Outcome State Fault Refusal :=
  runCore (easel opParamCommit paramCommitBody p) s

/-- PARAM_GET (R421): Easel 0x0914 reads parameter words from a bank. -/
def execParamGet (p : Packet) (s : State) : Host.Outcome State Fault Refusal := runCore (easel opParamGet paramGetBody p) s

/-- BRUSH_MBX_POST (R421): Easel 0x0920 posts a word to the customer C2B mailbox of a group. -/
def execBrushMbxPost (p : Packet) (s : State) : Host.Outcome State Fault Refusal :=
  runCore (easel opBrushMbxPost brushMbxPostBody p) s

/-- BRUSH_MBX_READ (R421): Easel 0x0921 reads and acknowledges the customer B2C word. -/
def execBrushMbxRead (p : Packet) (s : State) : Host.Outcome State Fault Refusal :=
  runCore (easel opBrushMbxRead brushMbxReadBody p) s

/-- MIGRATION_COPY (R423): At anchor C a spare receives a copy of a suspect core's state. -/
def execMigrationCopy (g : Nat) (s : State) : Host.Outcome State Fault Refusal := runCore (migrationCopy g) s

/-- MIGRATION_SWAP (R423): After three lockstep blocks without difference, the spare takes over the logical core. -/
def execMigrationSwap (g : Nat) (s : State) : Host.Outcome State Fault Refusal := runCore (migrationSwap g) s

/-- MIGRATION_COLD (R423): After three mismatched attempts, the unit's state is copied while it is in WAIT. -/
def execMigrationCold (g : Nat) (s : State) : Host.Outcome State Fault Refusal := runCore (migrationCold g) s

/-- PARAM_COMMIT_DONE (R421): A PARAM_COMMIT completes, sets STAGED_READY of Palette 3 and sends its notice of OK. -/
def execParamCommitDone (s : State) : Host.Outcome State Fault Refusal := runCore paramCommitDone s

end Sys2Proof.Machine
end

