-- ==== Sys2Proof/Machine/CmdHealth.lean ====
section
/-! DEFINITION. The meanings of the commands of Patina and Smudge (chapter 20), one for each. -/

namespace Sys2Proof.Machine

/-- RENDER_SPARE_SWAP (R230): At a swap boundary, RE8's sums replace those of the unit it has shadowed. -/
def execRenderSpareSwap (s : State) : Host.Outcome State Fault Refusal := runCore renderSpareSwap s

/-- PATROL_START (R515): Every INTERVAL blocks a spare copies a unit and shadows it for 3 blocks. -/
def execPatrolStart (num : Nat) (s : State) : Host.Outcome State Fault Refusal := runCore (patrolStart num) s

/-- NEAR_ROW_SPARE (R519): A suspect near row starts dual writes and a copy into a spare row. -/
def execNearRowSpare (bank : Nat) (row : Nat) (s : State) : Host.Outcome State Fault Refusal :=
  runCore (nearRowSpare bank row) s

/-- NEAR_ROW_SWITCH (R519): Three blocks after the copy, reads move to the spare row. -/
def execNearRowSwitch (bank : Nat) (row : Nat) (s : State) : Host.Outcome State Fault Refusal :=
  runCore (nearRowSwitch bank row) s

/-- EYE_MARGIN_MEASURE (R520): Every 10 s each receive lane's eye margins are measured and judged. -/
def execEyeMarginMeasure (j : Nat) (h : Nat) (v : Nat) (s : State) : Host.Outcome State Fault Refusal :=
  runCore (eyeMargin j h v) s

/-- FUNCTION_STALL (R522): A function misses two blocks, or flash a 50 ms command, so it is auto-reset or SUSPECT is raised. -/
def execFunctionStall (code : Nat) (s : State) : Host.Outcome State Fault Refusal := runCore (functionStall code) s

/-- PATINA_LEDGER_FLUSH (R528): Gathered ledger records are written to flash. -/
def execPatinaLedgerFlush (s : State) : Host.Outcome State Fault Refusal := runCore patinaFlush s

/-- HEALTH_STATUS_GET (R534): Easel 0x0E00 returns health status, capacity and counters. -/
def execHealthStatusGet (p : Packet) (s : State) : Host.Outcome State Fault Refusal :=
  runCore (easel opHealthStatus healthStatusBody p) s

/-- HEALTH_CONFIG (R534): Easel 0x0E01 sets the patrol, auto-reset and threshold controls. -/
def execHealthConfig (p : Packet) (s : State) : Host.Outcome State Fault Refusal :=
  runCore (easel opHealthConfig healthConfigBody p) s

/-- PATINA_READ (R534): Easel 0x0E02 returns ledger records. -/
def execPatinaRead (p : Packet) (s : State) : Host.Outcome State Fault Refusal :=
  runCore (easel opPatinaRead patinaReadBody p) s

/-- PATINA_INFO (R534): Easel 0x0E03 returns the ledger indices and drop count. -/
def execPatinaInfo (p : Packet) (s : State) : Host.Outcome State Fault Refusal :=
  runCore (easel opPatinaInfo patinaInfoBody p) s

/-- UNIT_GET (R527): Easel 0x0E04 returns unit states and counters. -/
def execUnitGet (p : Packet) (s : State) : Host.Outcome State Fault Refusal := runCore (easel opUnitGet unitGetBody p) s

/-- SPARE_SWAP (R534): Easel 0x0E05 forces a spare to replace a unit as after a difference. -/
def execSpareSwap (p : Packet) (s : State) : Host.Outcome State Fault Refusal := runCore (easel opSpareSwap spareSwapBody p) s

/-- SMUDGE_CHALLENGE (R530): Easel 0x0E80 returns a challenge value V. -/
def execSmudgeChallenge (p : Packet) (s : State) : Host.Outcome State Fault Refusal :=
  runCore (easel opSmudgeChallenge smudgeChallengeBody p) s

/-- SMUDGE_CHALLENGE_EXPIRE (R530): V is voided 10 s after it was issued. -/
def execSmudgeChallengeExpire (s : State) : Host.Outcome State Fault Refusal := runCore smudgeChallengeExpire s

/-- SMUDGE_UNLOCK (R530): Easel 0x0E81 enters maintenance mode with the right key. -/
def execSmudgeUnlock (p : Packet) (s : State) : Host.Outcome State Fault Refusal :=
  runCore (easel opSmudgeUnlock smudgeUnlockBody p) s

/-- SMUDGE_SET (R531): Easel 0x0E82 arms or disarms a perturbation class at a boundary. -/
def execSmudgeSet (p : Packet) (s : State) : Host.Outcome State Fault Refusal := runCore (easel opSmudgeSet smudgeSetBody p) s

/-- SMUDGE_LOCK (R533): Easel 0x0E83 disarms all classes and ends maintenance mode. -/
def execSmudgeLock (p : Packet) (s : State) : Host.Outcome State Fault Refusal :=
  runCore (easel opSmudgeLock smudgeLockBody p) s

/-- SMUDGE_TIMEOUT (R533): The maintenance duration ends, disarming everything and raising TIMEOUT. -/
def execSmudgeTimeout (s : State) : Host.Outcome State Fault Refusal := runCore smudgeTimeout s

/-- SMUDGE_ARM_WRITE (R531): A write of SMUDGE_ARM arms classes at the next allowed boundary. -/
def execSmudgeArmWrite (m : Nat) (v : Word) (s : State) : Host.Outcome State Fault Refusal := runCore (smudgeArmWrite m v) s

/-- SMUDGE_CLOCK_GO (R531): SMUDGE_CLOCK.GO trips the selected monitor once. -/
def execSmudgeClockGo (m : Nat) (v : Word) (s : State) : Host.Outcome State Fault Refusal := runCore (smudgeClockGo m v) s

end Sys2Proof.Machine
end

