-- ==== Sys2Proof/Machine/CmdMemory.lean ====
section
/-! DEFINITION. The meanings of the commands of DRAM, flash, the library and check-value scanning (chapter 17), one for each. -/

namespace Sys2Proof.Machine

/-- DRAM_REFRESH (R458): A per-bank refresh falls due. -/
def execDramRefresh (ch : Nat) (bank : Nat) (s : State) : Host.Outcome State Fault Refusal := runCore (dramRefresh ch bank) s

/-- DRAM_WCK_TRACK (R453): Every 100 ms each lane's write delay is tracked by at most one step. -/
def execDramWckTrack (wanted : List Int) (s : State) : Host.Outcome State Fault Refusal := runCore (dramWckTrack wanted) s

/-- DRAM_SCRUB_READ (R457): Patrol scrub reads a line and writes back corrections. -/
def execDramScrubRead (errs : List (Nat × Nat)) (s : State) : Host.Outcome State Fault Refusal := runCore (dramScrubRead errs) s

/-- DRAM_REMAP_START (R456): Firmware writes a remap entry and the row enters SHADOW. -/
def execDramRemapStart (ch : Nat) (e : Nat) (row : Nat) (bank : Nat) (spare : Nat) (s : State) : Host.Outcome State Fault Refusal :=
  runCore (dramRemapStart ch e row bank spare) s

/-- DRAM_REMAP_COPY_DONE (R456): The row copy into the spare row completes. -/
def execDramRemapCopyDone (ch : Nat) (e : Nat) (s : State) : Host.Outcome State Fault Refusal :=
  runCore (dramRemapCopyDone ch e) s

/-- DRAM_REMAP_ACTIVATE (R456): Three blocks after the copy, reads move to the spare row and REMAP_DONE is raised. -/
def execDramRemapActivate (ch : Nat) (e : Nat) (s : State) : Host.Outcome State Fault Refusal :=
  runCore (dramRemapActivate ch e) s

/-- MEMC_UNCORR_CLEAR (R455): Writing MEMC_FIRST_UNCORR_HI.CLEAR clears the record. -/
def execMemcUncorrClear (m : Nat) (v : Word) (s : State) : Host.Outcome State Fault Refusal := runCore (memcUncorrClear m v) s

/-- FLASH_PAGE_READ (R460): A flash page read is decoded by BCH. -/
def execFlashPageRead (unit : Nat) (bits : List Nat) (owner : List (Nat × Nat)) (s : State) : Host.Outcome State Fault Refusal :=
  runCore (flashPageRead unit bits owner) s

/-- FLASH_PROGRAM (R460): A flash program starts, or is refused while VIN_WARN is set. -/
def execFlashProgram (unit : Nat) (s : State) : Host.Outcome State Fault Refusal := runCore (flashProgram unit) s

/-- FLASH_ERASE (R460): A flash erase starts, or is refused while VIN_WARN is set. -/
def execFlashErase (unit : Nat) (s : State) : Host.Outcome State Fault Refusal := runCore (flashErase unit) s

/-- FLASH_OP_COMPLETE (R465): A program or erase finishes and reports pass or fail. -/
def execFlashOpComplete (die : Nat) (ok : Bool) (s : State) : Host.Outcome State Fault Refusal :=
  runCore (flashOpComplete die ok) s

/-- FLASH_SCRUB_PASS (R463): Scrub reads programmed pages and triggers relocation above thresholds. -/
def execFlashScrubPass (unit : Nat) (pages : Nat) (bits : Nat) (most : Nat) (bad : Nat) (owner : List (Nat × Nat)) (s : State) : Host.Outcome State Fault Refusal :=
  runCore (flashScrubPass unit pages bits most bad owner) s

/-- FLASH_WEAR_LEVEL (R462): The least-worn unit's contents move into the most-worn free unit. -/
def execFlashWearLevel (tlc : Bool) (s : State) : Host.Outcome State Fault Refusal := runCore (flashWearLevel tlc) s

/-- FLASH_RELOCATE (R464): Valid pages are copied and verified, then the mapping is switched in one record. -/
def execFlashRelocate (unit : Nat) (verified : Bool) (s : State) : Host.Outcome State Fault Refusal :=
  runCore (flashRelocate unit verified) s

/-- FLASH_RETENTION_AGE_TICK (R462): Each hour the retention age of programmed units increments. -/
def execFlashRetentionAgeTick (s : State) : Host.Outcome State Fault Refusal := runCore flashRetentionAgeTick s

/-- STORAGE_STATUS_GET (R475): Easel 0x0B00 returns storage status and capacities. -/
def execStorageStatusGet (p : Packet) (s : State) : Host.Outcome State Fault Refusal :=
  runCore (easel opStorageStatus storageStatusBody p) s

/-- LIB_LIST (R475): Easel 0x0B01 lists library items. -/
def execLibList (p : Packet) (s : State) : Host.Outcome State Fault Refusal := runCore (easel opLibList libListBody p) s

/-- LIB_WRITE_BEGIN (R469): Easel 0x0B02 opens an all-or-nothing item write. -/
def execLibWriteBegin (p : Packet) (s : State) : Host.Outcome State Fault Refusal :=
  runCore (easel opLibWriteBegin libWriteBeginBody p) s

/-- LIB_WRITE_DATA (R469): Easel 0x0B03 appends bytes to an open write. -/
def execLibWriteData (p : Packet) (s : State) : Host.Outcome State Fault Refusal :=
  runCore (easel opLibWriteData libWriteDataBody p) s

/-- LIB_WRITE_COMMIT (R469): Easel 0x0B04 checks the item and writes its mapping record. -/
def execLibWriteCommit (p : Packet) (s : State) : Host.Outcome State Fault Refusal :=
  runCore (easel opLibWriteCommit libWriteCommitBody p) s

/-- LIB_COMMIT_DONE (R469): The item's mapping record is written and the OK notice is sent. -/
def execLibCommitDone (session : Nat) (s : State) : Host.Outcome State Fault Refusal := runCore (libCommitDone session) s

/-- LIB_WRITE_TIMEOUT (R469): An open write receives no data for 60 s and is discarded. -/
def execLibWriteTimeout (session : Nat) (s : State) : Host.Outcome State Fault Refusal := runCore (libWriteTimeout session) s

/-- LIB_READ (R475): Easel 0x0B05 returns item bytes. -/
def execLibRead (p : Packet) (s : State) : Host.Outcome State Fault Refusal := runCore (easel opLibRead libReadBody p) s

/-- LIB_DELETE (R475): Easel 0x0B06 deletes an item that is not locked. -/
def execLibDelete (p : Packet) (s : State) : Host.Outcome State Fault Refusal := runCore (easel opLibDelete libDeleteBody p) s

/-- LIB_WRITE_ABORT (R469): Easel 0x0B07 discards an open write. -/
def execLibWriteAbort (p : Packet) (s : State) : Host.Outcome State Fault Refusal :=
  runCore (easel opLibWriteAbort libWriteAbortBody p) s

/-- CRC_SCAN (R475): Easel 0x0B10 starts a host CRC scan on channel 0 or 1. -/
def execCrcScan (p : Packet) (s : State) : Host.Outcome State Fault Refusal := runCore (easel opCrcScan crcScanBody p) s

/-- CRC_SCAN_GO (R473): CRC_CHn_CTRL.GO starts a scan, or sets ERR for a bad range. -/
def execCrcScanGo (m : Nat) (k : Nat) (v : Word) (s : State) : Host.Outcome State Fault Refusal := runCore (crcScanGo m k v) s

/-- CRC_SCAN_DONE (R473): A scan finishes with RESULT, or stops with ERR on an uncorrectable word. -/
def execCrcScanDone (k : Nat) (s : State) : Host.Outcome State Fault Refusal := runMem (crcScanDone k) s

/-- MEM_CONFIG_SET (R451): Easel 0x0B18 stores the next interleave grain and the scrub hours. -/
def execMemConfigSet (p : Packet) (s : State) : Host.Outcome State Fault Refusal :=
  runCore (easel opMemConfig memConfigBody p) s

/-- FLASH_CONFIG_SET (R475): Easel 0x0B19 stores the flash scrub and age settings. -/
def execFlashConfigSet (p : Packet) (s : State) : Host.Outcome State Fault Refusal :=
  runCore (easel opFlashConfig flashConfigBody p) s

/-- FLASH_UNIT_GET (R475): Easel 0x0B20 returns erase-unit records. -/
def execFlashUnitGet (p : Packet) (s : State) : Host.Outcome State Fault Refusal :=
  runCore (easel opFlashUnit flashUnitBody p) s

/-- MR4_TEMPERATURE_REPORT (R458): An LPDDR5X device reports through MR4 a temperature crossing 85 °C, which halves the refresh
intervals and sets or clears MEMC_STATUS.HOT. -/
def execMr4TemperatureReport (ch : Nat) (warm : Bool) (s : State) : Host.Outcome State Fault Refusal :=
  runCore (mr4TemperatureReport ch warm) s

end Sys2Proof.Machine
end

