-- ==== Sys2Proof/Machine/CmdModule.lean ====
section
/-! DEFINITION. The meanings of the commands of register access, block boundaries and what concerns every chapter, one for each. -/

namespace Sys2Proof.Machine

/-- REGISTER_WRITE (R11): A write to a register that has no row of its own; reserved and undefined offsets ignore it, and W1C,
RW and W1S fields act by type. -/
def execRegisterWrite (m : Nat) (off : Nat) (v : Word) (s : State) : Host.Outcome State Fault Refusal :=
  runReset (registerWrite m off v) s

/-- READ_CLEAR (R12): A read of an RC field returns the value and clears it, keeping an event that lands in the same cycle. -/
def execReadClear (m : Nat) (off : Nat) (s : State) : Host.Outcome State Fault Refusal := runCore (readClear m off) s

/-- SNAPSHOT_READ (R12): A read of the low word of a SNAP value copies the other words into the reading master's shadow
registers. -/
def execSnapshotRead (m : Nat) (off : Nat) (s : State) : Host.Outcome State Fault Refusal := runCore (snapshotRead m off) s

/-- BLOCK_BOUNDARY (R23): At each block boundary the pipeline advances one block and pending block-aligned changes take effect.
-/
def execBlockBoundary (env : BlockEnv) (s : State) : Host.Outcome State Fault Refusal := runMem (blockBoundary env) s

/-- DRAM_TRAINING_DONE (R452): Training of every byte lane completes and all of DRAM is written with valid check bits. -/
def execDramTrainingDone (lanes : List (List Nat)) (s : State) : Host.Outcome State Fault Refusal :=
  runMem (dramTrainingDone lanes) s

/-- TIMED_EXECUTE (R150): A timed command takes effect at its boundary and its completion notice is sent. -/
def execTimedExecute (s : State) : Host.Outcome State Fault Refusal := runCore timedExecute s

/-- BAR2_ACCESS (R158): A host BAR2 access reaches DRAM, or reads 0 at or beyond 14 GiB. -/
def execBar2Access (y : Nat) (write : Bool) (bytes : List Byte) (n : Nat) (s : State) : Host.Outcome State Fault Refusal :=
  runMem (bar2Access y write bytes n) s

/-- MIRROR_SET_APPLY (R483): A complete, checked mirror set is applied whole at a boundary and acknowledged. -/
def execMirrorSetApply (items : MirrorItems) (s : State) : Host.Outcome State Fault Refusal := runCore (mirrorSetApply items) s

/-- EASEL_PACKET_REFUSED (R143): An Easel packet that fails the arrival checks, or whose opcode is not issued, is discarded or
refused with BAD_OPCODE. -/
def execEaselPacketRefused (tr : Transport) (raw : List Byte) (s : State) : Host.Outcome State Fault Refusal :=
  runCore (easelPacketRefused tr raw) s

end Sys2Proof.Machine
end

