-- ==== Sys2Proof/Machine/CmdMonitor.lean ====
section
/-! DEFINITION. The meanings of the commands of buses, binaural monitoring, downmixes and loudness (chapter 10), one for each. -/

namespace Sys2Proof.Machine

/-- BINAURAL_SET (R263): Easel 0x0224 checks and schedules a new binaural pair configuration. -/
def execBinauralSet (p : Packet) (s : State) : Host.Outcome State Fault Refusal :=
  runCore (easel opBinauralSet binauralSetBody p) s

/-- BINAURAL_CHANGE (R263): At anchor B the pair's new set and zone take effect between a fade out and a fade in. -/
def execBinauralChange (p : Nat) (s : State) : Host.Outcome State Fault Refusal := runCore (binauralChange p) s

/-- BINAURAL_GET (R268): Easel 0x0225 returns a pair's configuration and clip count. -/
def execBinauralGet (p : Packet) (s : State) : Host.Outcome State Fault Refusal :=
  runCore (easel opBinauralGet binauralGetBody p) s

/-- DOWNMIX_SET (R265): Easel 0x0226 defines a downmix channel's list and headroom. -/
def execDownmixSet (p : Packet) (s : State) : Host.Outcome State Fault Refusal :=
  runCore (easel opDownmixSet downmixSetBody p) s

/-- DOWNMIX_CHANGE (R265): At B the downmix channel crossfades from its old list to its new one. -/
def execDownmixChange (m : Nat) (s : State) : Host.Outcome State Fault Refusal := runCore (downmixChange m) s

/-- DOWNMIX_GET (R268): Easel 0x0227 returns a downmix definition and its clip count. -/
def execDownmixGet (p : Packet) (s : State) : Host.Outcome State Fault Refusal :=
  runCore (easel opDownmixGet downmixGetBody p) s

/-- LOUDNESS_CONFIG (R266): Easel 0x0228 configures a loudness meter and restarts it. -/
def execLoudnessConfig (p : Packet) (s : State) : Host.Outcome State Fault Refusal :=
  runCore (easel opLoudnessConfig loudnessConfigBody p) s

/-- LOUDNESS_GET (R268): Easel 0x0229 returns a meter's loudness values. -/
def execLoudnessGet (p : Packet) (s : State) : Host.Outcome State Fault Refusal :=
  runCore (easel opLoudnessGet loudnessGetBody p) s

/-- LOUDNESS_RESET (R268): Easel 0x022A restarts the integrated loudness of the named meters. -/
def execLoudnessReset (p : Packet) (s : State) : Host.Outcome State Fault Refusal :=
  runCore (easel opLoudnessReset loudnessResetBody p) s

/-- LOUDNESS_GATING_BLOCK (R266): Every 100 ms a meter completes a 400 ms gating block and updates its values. -/
def execLoudnessGatingBlock (q : Nat) (s : State) : Host.Outcome State Fault Refusal := runCore (loudnessGatingBlock q) s

end Sys2Proof.Machine
end

