-- ==== Sys2Proof/Machine/CmdNetwork.lean ====
section
/-! DEFINITION. The meanings of the commands of network ports and media streams (chapter 14), one for each. -/

namespace Sys2Proof.Machine

/-- SFP_MODULE_INSERT (R61): An SFP module is inserted and its SFF-8472 identity is read. -/
def execSfpModuleInsert (p : Nat) (los : Bool) (id : List Byte) (s : State) : Host.Outcome State Fault Refusal :=
  runCore (sfpModuleInsert p los id) s

/-- SFP_MODULE_REMOVE (R357): SFPn_MOD_ABS goes high, so the port is held down and TX_DIS is driven high. -/
def execSfpModuleRemove (p : Nat) (s : State) : Host.Outcome State Fault Refusal := runCore (sfpModuleRemove p) s

/-- LINK_UP (R357): The PCS has held lock for 10 ms, so link up is declared. -/
def execLinkUp (p : Nat) (s : State) : Host.Outcome State Fault Refusal := runCore (linkUp p) s

/-- LINK_DOWN (R357): 1 ms without lock declares link down, which is counted. -/
def execLinkDown (p : Nat) (s : State) : Host.Outcome State Fault Refusal := runCore (linkDown p) s

/-- ETHERNET_FRAME_RECEIVE (R358): A received Ethernet frame is judged by length and FCS, filtered, buffered or dropped. -/
def execEthernetFrameReceive (p : Nat) (len : Nat) (fcs : Nat) (before : Nat) (bytes : List Byte) (s : State) : Host.Outcome State Fault Refusal :=
  runCore (ethernetFrameReceive p len fcs before bytes) s

/-- PAUSE_REPEAT (R364): Half the quanta time has passed with the fill above LOW, so PAUSE is repeated. -/
def execPauseRepeat (p : Nat) (s : State) : Host.Outcome State Fault Refusal := runCore (pauseRepeat p) s

/-- PAUSE_FRAME_RECEIVE (R365): A received PAUSE frame is counted and, when enabled, holds classes 0 to 5. -/
def execPauseFrameReceive (p : Nat) (quanta : Nat) (s : State) : Host.Outcome State Fault Refusal :=
  runCore (pauseFrameReceive p quanta) s

/-- ARP_REQUEST_RECEIVE (R362): An ARP request for NET_IP or the alias is answered. -/
def execArpRequestReceive (p : Nat) (ip : Nat) (s : State) : Host.Outcome State Fault Refusal :=
  runCore (arpRequestReceive p ip) s

/-- ARP_REPLY_RECEIVE (R382): An ARP reply resolves a stream destination or the gateway. -/
def execArpReplyReceive (p : Nat) (ip : Nat) (mac : Nat) (s : State) : Host.Outcome State Fault Refusal :=
  runCore (arpReplyReceive p ip mac) s

/-- ARP_REFRESH (R382): Every 60 s the ARP entries are refreshed. -/
def execArpRefresh (p : Nat) (s : State) : Host.Outcome State Fault Refusal := runCore (arpRefresh p) s

/-- ICMP_ECHO_RECEIVE (R362): An ICMP echo request is answered, at most 100 per second. -/
def execIcmpEchoReceive (p : Nat) (dst : Nat) (data : List Byte) (s : State) : Host.Outcome State Fault Refusal :=
  runCore (icmpEchoReceive p dst data) s

/-- IGMP_QUERY_RECEIVE (R383): An IGMP query is answered with IGMPv3 reports for every joined group. -/
def execIgmpQueryReceive (p : Nat) (s : State) : Host.Outcome State Fault Refusal := runCore (igmpQueryReceive p) s

/-- RTP_PACKET_RECEIVE (R376): An RTP packet of a receive stream is placed by media time, or discarded as early or late. -/
def execRtpPacketReceive (p : Nat) (x : Rtp) (j : Nat) (s : State) : Host.Outcome State Fault Refusal :=
  runCore (rtpPacketReceive p x j) s

/-- STREAM_LEG_LOSS (R378): A leg has delivered no packet for 100 ms and is lost. -/
def execStreamLegLoss (num : Nat) (leg : Nat) (s : State) : Host.Outcome State Fault Refusal :=
  runCore (streamLegLoss num leg) s

/-- MARGIN_SPAN_END (R377): A span of 65,536 samples ends and MEDIA_RXs_MARGIN is updated. -/
def execMarginSpanEnd (num : Nat) (s : State) : Host.Outcome State Fault Refusal := runCore (marginSpanEnd num) s

/-- STREAM_PACKET_QUEUE (R380): At PTP time (t + P) / fs a transmit packet is queued on each enabled leg. -/
def execStreamPacketQueue (num : Nat) (s : State) : Host.Outcome State Fault Refusal := runCore (streamPacketQueue num) s

/-- FRAME_TRANSMIT (R367): At a frame boundary, the highest open class's waiting frame starts if it can finish before its gate
closes. -/
def execFrameTransmit (p : Nat) (s : State) : Host.Outcome State Fault Refusal := runCore (frameTransmit p) s

/-- GATE_GO (R369): Writing NET_GATE_CTRL.GO schedules the admin gate list, or sets BAD. -/
def execGateGo (p : Nat) (m : Nat) (v : Word) (s : State) : Host.Outcome State Fault Refusal := runCore (gateGo p m v) s

/-- GATE_CHANGE_TIME (R369): At the change time the admin list becomes the operating list. -/
def execGateChangeTime (p : Nat) (s : State) : Host.Outcome State Fault Refusal := runCore (gateChangeTime p) s

/-- GATE_CYCLE_START (R368): A gate cycle begins at BASE + k × CYCLE and runs its entries. -/
def execGateCycleStart (p : Nat) (s : State) : Host.Outcome State Fault Refusal := runCore (gateCycleStart p) s

/-- STREAM_DEFINITION_APPLY (R379): At B a stream's new definition takes effect. -/
def execStreamDefinitionApply (rx : Bool) (num : Nat) (s : State) : Host.Outcome State Fault Refusal :=
  runCore (streamDefinitionApply rx num) s

/-- MAX_FRAME_WRITE (R359): A write of NET_MAX_FRAME applies to later frames, or is refused if a stream would no longer fit. -/
def execMaxFrameWrite (p : Nat) (m : Nat) (v : Word) (s : State) : Host.Outcome State Fault Refusal :=
  runCore (maxFrameWrite p m v) s

/-- NET_CTRL_WRITE (R356): A change of rate or FEC on an enabled port is carried out as a function reset. -/
def execNetCtrlWrite (p : Nat) (m : Nat) (v : Word) (s : State) : Host.Outcome State Fault Refusal :=
  runCore (netCtrlWrite p m v) s

/-- NET_CONFIG (R385): Easel 0x0600 configures a port's control, frame size and addresses. -/
def execNetConfig (p : Packet) (s : State) : Host.Outcome State Fault Refusal := runCore (easel opNetConfig netConfigBody p) s

/-- NET_STATUS_GET (R385): Easel 0x0601 returns port status and counters. -/
def execNetStatusGet (p : Packet) (s : State) : Host.Outcome State Fault Refusal :=
  runCore (easel opNetStatus netStatusBody p) s

/-- NET_PAUSE_SET (R385): Easel 0x0602 sets the pause thresholds, quanta and drop threshold. -/
def execNetPauseSet (p : Packet) (s : State) : Host.Outcome State Fault Refusal := runCore (easel opNetPause netPauseBody p) s

/-- NET_GATE_SET (R385): Easel 0x0603 loads and schedules a gate control list. -/
def execNetGateSet (p : Packet) (s : State) : Host.Outcome State Fault Refusal :=
  runCore (easel opNetGateSet netGateSetBody p) s

/-- NET_GATE_GET (R385): Easel 0x0604 returns a gate list. -/
def execNetGateGet (p : Packet) (s : State) : Host.Outcome State Fault Refusal :=
  runCore (easel opNetGateGet netGateGetBody p) s

/-- STREAM_RX_SET (R386): Easel 0x0610 checks and schedules a receive stream definition. -/
def execStreamRxSet (p : Packet) (s : State) : Host.Outcome State Fault Refusal :=
  runCore (easel opStreamRxSet streamRxSetBody p) s

/-- STREAM_RX_GET (R385): Easel 0x0611 returns a receive stream definition and state. -/
def execStreamRxGet (p : Packet) (s : State) : Host.Outcome State Fault Refusal :=
  runCore (easel opStreamRxGet streamRxGetBody p) s

/-- STREAM_TX_SET (R386): Easel 0x0612 checks and schedules a transmit stream definition. -/
def execStreamTxSet (p : Packet) (s : State) : Host.Outcome State Fault Refusal :=
  runCore (easel opStreamTxSet streamTxSetBody p) s

/-- STREAM_TX_GET (R385): Easel 0x0613 returns a transmit stream definition and state. -/
def execStreamTxGet (p : Packet) (s : State) : Host.Outcome State Fault Refusal :=
  runCore (easel opStreamTxGet streamTxGetBody p) s

/-- STREAM_STATS_GET (R385): Easel 0x0614 returns stream statistics. -/
def execStreamStatsGet (p : Packet) (s : State) : Host.Outcome State Fault Refusal :=
  runCore (easel opStreamStats streamStatsBody p) s

/-- SFP_LOS_CHANGE (R61): The SFPn_LOS sideband line changes level, updating NET_STATUS.SFP_LOS and raising SFP_CHANGE. -/
def execSfpLosChange (p : Nat) (level : Bool) (s : State) : Host.Outcome State Fault Refusal := runCore (sfpLosChange p level) s

/-- RX_BUFFER_FILL_LOW (R364): The receive buffer fill falls to NET_PAUSE.LOW and a PAUSE frame with quanta 0 is sent. -/
def execRxBufferFillLow (p : Nat) (s : State) : Host.Outcome State Fault Refusal := runCore (rxBufferFillLow p) s

/-- PAUSE_QUANTA_EXPIRE (R365): The quanta time of a received PAUSE frame runs out, so classes 0 to 5 may transmit again and
PAUSED clears. -/
def execPauseQuantaExpire (p : Nat) (s : State) : Host.Outcome State Fault Refusal := runCore (pauseQuantaExpire p) s

end Sys2Proof.Machine
end

