-- ==== Sys2Proof/Machine/CmdOutput.lean ====
section
/-! DEFINITION. The meanings of the commands of the output chain (chapter 11), one for each. -/

namespace Sys2Proof.Machine

/-- FIR_TAIL_FRAME (R274): At a frame boundary of an output, the FFT tail of the next frame is computed. -/
def execFirTailFrame (o : Nat) (s : State) : Host.Outcome State Fault Refusal := runCore (firTailFrame o) s

/-- TAIL_OVERRUN (R278): A tail not finished when needed makes τ zero for the frame and increments OUTPROC_OVERRUN. -/
def execTailOverrun (o : Nat) (s : State) : Host.Outcome State Fault Refusal := runCore (tailOverrun o) s

/-- OUTCHAIN_COMMIT_DONE (R286): The output-chain commit completes with its five-word notice. -/
def execOutchainCommitDone (s : State) : Host.Outcome State Fault Refusal := runCore outchainCommitDone s

/-- OUTCHAIN_GET (R289): Easel 0x0809 returns an output's chain settings from a bank. -/
def execOutchainGet (p : Packet) (s : State) : Host.Outcome State Fault Refusal :=
  runCore (easel opOutchainGet outchainGetBody p) s

/-- OUTPUT_MUTE (R283): Easel 0x0810 schedules a mute or unmute of a range of outputs. -/
def execOutputMute (p : Packet) (s : State) : Host.Outcome State Fault Refusal :=
  runCore (easel opOutputMute outputMuteBody p) s

/-- MUTE_APPLY (R283): At B the mute state of an output changes and its fade starts. -/
def execMuteApply (o : Nat) (s : State) : Host.Outcome State Fault Refusal := runCore (muteApply o) s

/-- MUTE_FADE_END (R283): A mute fade ends and MUTE_DONE is raised. -/
def execMuteFadeEnd (o : Nat) (s : State) : Host.Outcome State Fault Refusal := runCore (muteFadeEnd o) s

/-- OUTCHAIN_METERS_GET (R289): Easel 0x0811 returns and clears gain-reduction and clip counters. -/
def execOutchainMetersGet (p : Packet) (s : State) : Host.Outcome State Fault Refusal :=
  runCore (easel opOutchainMeters outchainMetersBody p) s

/-- LAST_CLIP_CLEAR (R284): Writing OUTPROC_LAST_CLIP.CLEAR clears the clip record. -/
def execLastClipClear (m : Nat) (v : Word) (s : State) : Host.Outcome State Fault Refusal := runCore (lastClipClear m v) s

end Sys2Proof.Machine
end

