-- ==== Sys2Proof/Machine/CmdPalette.lean ====
section
/-! DEFINITION. The meanings of the commands of Palettes: commits, swaps and Glazes (chapters 7, 8 and 11), one for each. -/

namespace Sys2Proof.Machine

/-- LAYOUT_COMMIT_DONE (R190): The layout commit completes, its nine-word notice is sent and STAGED_READY is set on success. -/
def execLayoutCommitDone (s : State) : Host.Outcome State Fault Refusal := runCore layoutCommitDone s

/-- PALETTE_SWAP (R219): Easel 0x0401 checks and schedules a swap of the Palettes named in the mask. -/
def execPaletteSwap (p : Packet) (s : State) : Host.Outcome State Fault Refusal :=
  runCore (easel opPaletteSwap paletteSwapBody p) s

/-- SWAP_PREPARE (R220): One block before B the swap is committed and Caliper computes the staged bank's targets. -/
def execSwapPrepare (s : State) : Host.Outcome State Fault Refusal := runCore swapPrepare s

/-- PALETTE_SWAP_EXECUTE (R220): At B the live and staged banks of each named Palette are exchanged and Glaze begins. -/
def execPaletteSwapExecute (s : State) : Host.Outcome State Fault Refusal := runCore paletteSwapExecute s

/-- GLAZE_END (R220): G samples after B the Glaze ends, leaving contributions are released and SWAP_DONE is raised. -/
def execGlazeEnd (s : State) : Host.Outcome State Fault Refusal := runCore glazeEnd s

end Sys2Proof.Machine
end

