-- ==== Sys2Proof/Machine/CmdRouting.lean ====
section
/-! DEFINITION. The meanings of the commands of ports, the Armature, direct paths and meters (chapter 13), one for each. -/

namespace Sys2Proof.Machine

/-- PORT_CONFIG (R354): Easel 0x0500 configures a TDM port, applied as a function reset of the port. -/
def execPortConfig (p : Packet) (s : State) : Host.Outcome State Fault Refusal :=
  runCore (easel opPortConfig portConfigBody p) s

/-- PORT_STATUS_GET (R354): Easel 0x0501 returns a port's configuration, state and counters. -/
def execPortStatusGet (p : Packet) (s : State) : Host.Outcome State Fault Refusal :=
  runCore (easel opPortStatus portStatusBody p) s

/-- TDM_FRAME (R328): A follower port receives a frame, judges it and captures its slots. -/
def execTdmFrame (p : Nat) (j : Nat) (edge : Bool) (gapless : Bool) (phase : Nat) (ws : List Nat) (s : State) : Host.Outcome State Fault Refusal :=
  runCore (tdmFrame p j edge gapless phase ws) s

/-- TDM_LEADER_FRAME (R323): A leader port drives a frame that carries media sample N. -/
def execTdmLeaderFrame (p : Nat) (j : Nat) (ws : List Nat) (s : State) : Host.Outcome State Fault Refusal :=
  runCore (tdmLeaderFrame p j ws) s

/-- TDM_LOSS (R330): FSYNC is missing twice or BCLK is silent, so the port enters MUTED_LOSS. -/
def execTdmLoss (p : Nat) (j : Nat) (s : State) : Host.Outcome State Fault Refusal := runCore (tdmLoss p j) s

/-- TDM_RATE_RUN (R331): A run of 16 frames ends and is measured; a mismatch enters MUTED_RATE. -/
def execTdmRateRun (p : Nat) (j : Nat) (cycles : Nat) (s : State) : Host.Outcome State Fault Refusal :=
  runCore (tdmRateRun p j cycles) s

/-- TDM_RESUME (R333): After 64 good frames the port renumbers at the next boundary, enters RUN and fades in. -/
def execTdmResume (p : Nat) (s : State) : Host.Outcome State Fault Refusal := runCore (tdmResume p) s

/-- NONPCM_HOLD_EXPIRE (R341): NONPCM_HOLD samples pass without a non-PCM sign, so the mark clears and destinations fade in. -/
def execNonpcmHoldExpire (num : Nat) (s : State) : Host.Outcome State Fault Refusal := runCore (nonpcmHoldExpire num) s

/-- NONPCM_RECORD_CLEAR (R341): Writing ARMATURE_FIRST_NONPCM.CLEAR clears the record. -/
def execNonpcmRecordClear (m : Nat) (v : Word) (s : State) : Host.Outcome State Fault Refusal :=
  runCore (nonpcmRecordClear m v) s

/-- DIRECT_PATH_WORD (R349): A direct path takes a source word, applies its gain and writes it to its output slot. -/
def execDirectPathWord (n : Nat) (j : Nat) (raw : Nat) (s : State) : Host.Outcome State Fault Refusal :=
  runCore (directPathWord n j raw) s

/-- ROUTE_BEGIN (R354): Easel 0x0510 empties or copies the staged routing bank. -/
def execRouteBegin (p : Packet) (s : State) : Host.Outcome State Fault Refusal :=
  runCore (easel opRouteBegin routeBeginBody p) s

/-- ROUTE_SET (R354): Easel 0x0511 writes route items into the staged bank. -/
def execRouteSet (p : Packet) (s : State) : Host.Outcome State Fault Refusal := runCore (easel opRouteSet routeSetBody p) s

/-- ROUTE_COMMIT (R345): Easel 0x0512 checks the staged routing bank. -/
def execRouteCommit (p : Packet) (s : State) : Host.Outcome State Fault Refusal :=
  runCore (easel opRouteCommit routeCommitBody p) s

/-- ROUTE_COMMIT_DONE (R345): The routing commit completes with its notice and sets STAGED_READY on success. -/
def execRouteCommitDone (s : State) : Host.Outcome State Fault Refusal := runCore routeCommitDone s

/-- ROUTE_GET (R354): Easel 0x0513 returns route words from a bank. -/
def execRouteGet (p : Packet) (s : State) : Host.Outcome State Fault Refusal := runCore (easel opRouteGet routeGetBody p) s

/-- ROUTE_NOW (R347): Easel 0x0514 copies, edits, commits and swaps Palette 2 as one command. -/
def execRouteNow (p : Packet) (s : State) : Host.Outcome State Fault Refusal := runCore (easel opRouteNow routeNowBody p) s

/-- DIRECT_GAIN_SET (R350): Easel 0x0520 sets a new target gain or mute on direct paths. -/
def execDirectGainSet (p : Packet) (s : State) : Host.Outcome State Fault Refusal :=
  runCore (easel opDirectGain directGainBody p) s

/-- DIRECT_GAIN_CHANGE (R350): At boundary b a direct path's gain starts a 32-sample ramp. -/
def execDirectGainChange (n : Nat) (s : State) : Host.Outcome State Fault Refusal := runCore (directGainChange n) s

/-- DIRECT_GET (R354): Easel 0x0521 returns a direct path's settings. -/
def execDirectGet (p : Packet) (s : State) : Host.Outcome State Fault Refusal := runCore (easel opDirectGet directGetBody p) s

/-- GROUP_SET (R340): Easel 0x0530 defines the members of an alignment group. -/
def execGroupSet (p : Packet) (s : State) : Host.Outcome State Fault Refusal := runCore (easel opGroupSet groupSetBody p) s

/-- GROUP_CHANGE (R340): At B, members whose offset changes fade out, stay silent one block and fade in at the new offset. -/
def execGroupChange (g : Nat) (s : State) : Host.Outcome State Fault Refusal := runCore (groupChange g) s

/-- METER_GET (R354): Easel 0x0540 returns meters, clearing PEAK. -/
def execMeterGet (p : Packet) (s : State) : Host.Outcome State Fault Refusal := runCore (easel opMeterGet meterGetBody p) s

/-- METER_CONFIG (R354): Easel 0x0541 sets the meter RMS window and hold. -/
def execMeterConfig (p : Packet) (s : State) : Host.Outcome State Fault Refusal :=
  runCore (easel opMeterConfig meterConfigBody p) s

/-- METER_HOLD_RESET (R352): Easel 0x0542 resets the held meter values. -/
def execMeterHoldReset (p : Packet) (s : State) : Host.Outcome State Fault Refusal :=
  runCore (easel opMeterHold meterHoldBody p) s

/-- METER_HOLD_EXPIRE (R352): A held meter value expires after HOLD × 0.1 s. -/
def execMeterHoldExpire (num : Nat) (which : Nat) (s : State) : Host.Outcome State Fault Refusal :=
  runCore (meterHoldExpire num which) s

/-- NONPCM_GET (R354): Easel 0x0550 returns the non-PCM marks. -/
def execNonpcmGet (p : Packet) (s : State) : Host.Outcome State Fault Refusal := runCore (easel opNonpcmGet nonpcmGetBody p) s

end Sys2Proof.Machine
end

