-- ==== Sys2Proof/Machine/CmdScene.lean ====
section
/-! DEFINITION. The meanings of the commands of the scene model, Caliper and rendering (chapters 7 to 9), one for each. -/

namespace Sys2Proof.Machine

/-- OBJECT_DEFINE (R176): Easel 0x0200 writes an object's defined properties into the staged layout bank. -/
def execObjectDefine (p : Packet) (s : State) : Host.Outcome State Fault Refusal :=
  runCore (easel opObjectDefine objectDefineBody p) s

/-- OBJECT_GET (R195): Easel 0x0201 returns an object's definition from a bank. -/
def execObjectGet (p : Packet) (s : State) : Host.Outcome State Fault Refusal := runCore (easel opObjectGet objectGetBody p) s

/-- OBJECT_DISABLE_ALL (R195): Easel 0x0202 clears ENABLE of every object in the staged bank. -/
def execObjectDisableAll (p : Packet) (s : State) : Host.Outcome State Fault Refusal :=
  runCore (easel opObjectDisableAll objectDisableAllBody p) s

/-- POSITION_STREAM (R191): Easel 0x0210 applies batched live properties, ignoring invalid entries and policing the entry
bucket. -/
def execPositionStream (p : Packet) (s : State) : Host.Outcome State Fault Refusal := runCore (positionStream p) s

/-- OBJECT_STATE_GET (R195): Easel 0x0211 returns the live properties of a range of objects. -/
def execObjectStateGet (p : Packet) (s : State) : Host.Outcome State Fault Refusal :=
  runCore (easel opObjectState objectStateBody p) s

/-- POSITION_BUCKET_REFILL (R194): Every millisecond the position-stream bucket refills by the object capacity. -/
def execPositionBucketRefill (s : State) : Host.Outcome State Fault Refusal := runCore positionBucketRefill s

/-- LAYOUT_BEGIN (R188): Easel 0x0300 empties the staged layout bank or copies the live bank into it. -/
def execLayoutBegin (p : Packet) (s : State) : Host.Outcome State Fault Refusal :=
  runCore (easel opLayoutBegin layoutBeginBody p) s

/-- SPEAKER_DEFINE (R181): Easel 0x0301 writes or deletes a loudspeaker record. -/
def execSpeakerDefine (p : Packet) (s : State) : Host.Outcome State Fault Refusal :=
  runCore (easel opSpeakerDefine speakerDefineBody p) s

/-- ZONE_DEFINE (R183): Easel 0x0302 writes the output mask of a zone from 1 to 63. -/
def execZoneDefine (p : Packet) (s : State) : Host.Outcome State Fault Refusal :=
  runCore (easel opZoneDefine zoneDefineBody p) s

/-- LAYOUT_TEMP_RANGE (R186): Easel 0x0303 sets the layout's admitted temperature range. -/
def execLayoutTempRange (p : Packet) (s : State) : Host.Outcome State Fault Refusal :=
  runCore (easel opLayoutTemp layoutTempBody p) s

/-- LAYOUT_COMMIT (R189): Easel 0x0308 checks and admits the staged layout bank against capacity. -/
def execLayoutCommit (p : Packet) (s : State) : Host.Outcome State Fault Refusal :=
  runCore (easel opLayoutCommit layoutCommitBody p) s

/-- LAYOUT_ADMISSION_GET (R196): Easel 0x0309 returns the admission counts of one bank alone. -/
def execLayoutAdmissionGet (p : Packet) (s : State) : Host.Outcome State Fault Refusal :=
  runCore (easel opLayoutAdmission layoutAdmissionBody p) s

/-- SPEAKER_GET (R196): Easel 0x030A returns a loudspeaker record from a bank. -/
def execSpeakerGet (p : Packet) (s : State) : Host.Outcome State Fault Refusal :=
  runCore (easel opSpeakerGet speakerGetBody p) s

/-- SOUND_SPEED_SET (R187): Easel 0x0310 selects Caliper's speed-of-sound source and value. -/
def execSoundSpeedSet (p : Packet) (s : State) : Host.Outcome State Fault Refusal :=
  runCore (easel opSoundSpeedSet soundSpeedSetBody p) s

/-- SOUND_SPEED_GET (R196): Easel 0x0311 returns the speed source, the current speed and the Survey temperature estimate. -/
def execSoundSpeedGet (p : Packet) (s : State) : Host.Outcome State Fault Refusal :=
  runCore (easel opSoundSpeedGet soundSpeedGetBody p) s

/-- CALIPER_SNAPSHOT (R198): At snapshot boundary S_k, Caliper snapshots its inputs and computes every target. -/
def execCaliperSnapshot (s : State) : Host.Outcome State Fault Refusal := runCore caliperSnapshot s

/-- TARGET_HANDOVER (R198): One block after S_k, Caliper hands targets to the render engines and new ramps begin. -/
def execTargetHandover (s : State) : Host.Outcome State Fault Refusal := runCore targetHandover s

/-- PALETTE_STATUS_GET (R226): Easel 0x0400 returns Caliper and Palette status and the last swap boundary. -/
def execPaletteStatusGet (p : Packet) (s : State) : Host.Outcome State Fault Refusal :=
  runCore (easel opPaletteStatus paletteStatusBody p) s

/-- MAQUETTE_SET (R224): Easel 0x0410 turns audition of the staged layout on or off on a binaural pair. -/
def execMaquetteSet (p : Packet) (s : State) : Host.Outcome State Fault Refusal := runCore (easel opMaquette maquetteBody p) s

/-- CALIPER_CONFIG (R226): Easel 0x0420 writes Caliper's law parameters, which take effect at a snapshot boundary. -/
def execCaliperConfig (p : Packet) (s : State) : Host.Outcome State Fault Refusal :=
  runCore (easel opCaliperConfig caliperConfigBody p) s

/-- CALIPER_COUNTERS_GET (R226): Easel 0x0421 returns Caliper's seven counters. -/
def execCaliperCountersGet (p : Packet) (s : State) : Host.Outcome State Fault Refusal :=
  runCore (easel opCaliperCounters caliperCountersBody p) s

/-- FAR_WINDOW_ARRIVE (R237): A prefetched far window arrives from DRAM. -/
def execFarWindowArrive (engine : Nat) (index : Nat) (s : State) : Host.Outcome State Fault Refusal :=
  runCore (farWindowArrive engine index) s

/-- FAR_WINDOW_LATE (R237): A lane has waited 4,096 cycles for a far window, so the entry contributes 0 for the block. -/
def execFarWindowLate (engine : Nat) (index : Nat) (s : State) : Host.Outcome State Fault Refusal :=
  runCore (farWindowLate engine index) s

/-- RENDER_SUMS_COMPLETE (R247): All engines finish, and the sums are added, shifted, saturated and clip-counted. -/
def execRenderSumsComplete (s : State) : Host.Outcome State Fault Refusal := runMem renderSumsDone s

/-- RENDER_OVERRUN (R249): An engine has not finished by the deadline, so its unfinished entries contribute 0 and OVERRUN is
raised. -/
def execRenderOverrun (engine : Nat) (done : List Nat) (s : State) : Host.Outcome State Fault Refusal :=
  runCore (renderOverrun engine done) s

/-- RENDER_STATUS_GET (R251): Easel 0x0A00 returns render status, maps and load. -/
def execRenderStatusGet (p : Packet) (s : State) : Host.Outcome State Fault Refusal :=
  runCore (easel opRenderStatus renderStatusBody p) s

/-- CONTRIB_READ (R251): Easel 0x0A01 returns contribution-table entries. -/
def execContribRead (p : Packet) (s : State) : Host.Outcome State Fault Refusal :=
  runCore (easel opContribRead contribReadBody p) s

/-- CONTRIB_FIND (R251): Easel 0x0A02 finds the entry for a source and output. -/
def execContribFind (p : Packet) (s : State) : Host.Outcome State Fault Refusal :=
  runCore (easel opContribFind contribFindBody p) s

/-- EXPERT_OBJECT_SET (R251): Easel 0x0A03 puts an object under expert control or returns it to Caliper. -/
def execExpertObjectSet (p : Packet) (s : State) : Host.Outcome State Fault Refusal :=
  runCore (easel opExpertObject expertObjectBody p) s

/-- CONTRIB_WRITE (R252): Easel 0x0A04 checks and writes expert targets, which take effect at one boundary. -/
def execContribWrite (p : Packet) (s : State) : Host.Outcome State Fault Refusal :=
  runCore (easel opContribWrite contribWriteBody p) s

/-- NEAR_READ (R251): Easel 0x0A05 returns samples from an object's near line. -/
def execNearRead (p : Packet) (s : State) : Host.Outcome State Fault Refusal := runCore (easel opNearRead nearReadBody p) s

/-- RENDER_COUNTERS_GET (R251): Easel 0x0A06 returns the render counters. -/
def execRenderCountersGet (p : Packet) (s : State) : Host.Outcome State Fault Refusal :=
  runCore (easel opRenderCounters renderCountersBody p) s

/-- CLIP_COUNTS_GET (R251): Easel 0x0A07 returns and clears the output clip counts. -/
def execClipCountsGet (p : Packet) (s : State) : Host.Outcome State Fault Refusal :=
  runCore (easel opClipCounts clipCountsBody p) s

/-- RENDER_UNCORR_CLEAR (R235): Writing RENDER_FIRST_UNCORR.CLEAR clears the recorded address. -/
def execRenderUncorrClear (m : Nat) (v : Word) (s : State) : Host.Outcome State Fault Refusal :=
  runCore (renderUncorrClear m v) s

/-- SCENE_BUS_DEFINE (R253): Easel 0x0220 writes a scene bus definition into the staged bank. -/
def execSceneBusDefine (p : Packet) (s : State) : Host.Outcome State Fault Refusal :=
  runCore (easel opBusDefine busDefineBody p) s

/-- SCENE_BUS_GET (R268): Easel 0x0221 returns a scene bus definition from a bank. -/
def execSceneBusGet (p : Packet) (s : State) : Host.Outcome State Fault Refusal := runCore (easel opBusGet busGetBody p) s

/-- BED_DEFINE (R256): Easel 0x0222 writes a bed channel definition into the staged bank. -/
def execBedDefine (p : Packet) (s : State) : Host.Outcome State Fault Refusal := runCore (easel opBedDefine bedDefineBody p) s

/-- BED_GET (R268): Easel 0x0223 returns a bed channel definition from a bank. -/
def execBedGet (p : Packet) (s : State) : Host.Outcome State Fault Refusal := runCore (easel opBedGet bedGetBody p) s

end Sys2Proof.Machine
end

