-- ==== Sys2Proof/Machine/CmdScheduler.lean ====
section
/-! DEFINITION. The meanings of the commands of Atelier and the fabric (chapter 16), one for each. -/

namespace Sys2Proof.Machine

/-- ATELIER_POST (R429): ATELIER_STAGEm_GO checks a descriptor and takes or refuses the task. -/
def execAtelierPost (port : Nat) (m : Nat) (v : Word) (s : State) : Host.Outcome State Fault Refusal :=
  runCore (atelierPost port m v) s

/-- ATELIER_TICK (R430): At each media sample tick, due AT_TIME and EVERY_BLOCK tasks become ready. -/
def execAtelierTick (j : Nat) (s : State) : Host.Outcome State Fault Refusal := runCore (atelierTick j) s

/-- ATELIER_DISPATCH (R434): Atelier dispatches the highest ready task to the lowest eligible core. -/
def execAtelierDispatch (s : State) : Host.Outcome State Fault Refusal := runCore atelierDispatch s

/-- ATELIER_CANCEL (R439): A write of a handle to ATELIER_CANCEL cancels the task as its state allows. -/
def execAtelierCancel (port : Nat) (v : Word) (s : State) : Host.Outcome State Fault Refusal := runCore (atelierCancel port v) s

/-- ATELIER_DONE_POP (R437): A read of ATELIER_DONE pops one completion entry. -/
def execAtelierDonePop (port : Nat) (s : State) : Host.Outcome State Fault Refusal := runCore (atelierDonePop port) s

/-- FABRIC_HELD_ISSUE (R447): A request held at its port for a free entry is issued once one frees. -/
def execFabricHeldIssue (m : Nat) (s : State) : Host.Outcome State Fault Refusal := runMem (heldIssue m) s

/-- DRAM_READ (R458): A DRAM read is scheduled, ECC-checked and returned, or held behind a matching write. -/
def execDramRead (m : Nat) (id : Nat) (addr : Nat) (len : Nat) (outPort : Nat) (outTarget : Nat) (outAll : Nat) (other : Bool) (s : State) : Host.Outcome State Fault Refusal :=
  runMem (dramReadReq m id addr len outPort outTarget outAll other) s

/-- DRAM_WRITE (R454): A DRAM write is queued, with read-merge for partial words. -/
def execDramWrite (m : Nat) (id : Nat) (addr : Nat) (bytes : List Byte) (outPort : Nat) (outTarget : Nat) (outAll : Nat) (other : Bool) (s : State) : Host.Outcome State Fault Refusal :=
  runMem (dramWriteReq m id addr bytes outPort outTarget outAll other) s

end Sys2Proof.Machine
end

