-- ==== Sys2Proof/Machine/CmdSurvey.lean ====
section
/-! DEFINITION. The meanings of the commands of measurement and Survey (chapter 12), one for each. -/

namespace Sys2Proof.Machine

/-- OUTCHAIN_BEGIN (R285): Easel 0x0800 empties or copies the staged output-chain bank. -/
def execOutchainBegin (p : Packet) (s : State) : Host.Outcome State Fault Refusal :=
  runCore (easel opOutchainBegin (hostEdit outchainBeginBody) p) s

/-- OUTCHAIN_SET (R289): Easel 0x0801 sets trim, headroom, FIR_EN, VARNISH_EN and ALIGN for a range of outputs. -/
def execOutchainSet (p : Packet) (s : State) : Host.Outcome State Fault Refusal :=
  runCore (easel opOutchainSet (hostEdit outchainSetBody) p) s

/-- BIQUAD_SET (R272): Easel 0x0802 writes biquad sections, refusing unstable ones. -/
def execBiquadSet (p : Packet) (s : State) : Host.Outcome State Fault Refusal :=
  runCore (easel opBiquadSet (hostEdit biquadSetBody) p) s

/-- FIR_SET (R289): Easel 0x0803 names the FIR item of a range of outputs. -/
def execFirSet (p : Packet) (s : State) : Host.Outcome State Fault Refusal := runCore (easel opFirSet (hostEdit firSetBody) p) s

/-- VARNISH_SET (R289): Easel 0x0804 sets the limiter parameters of a range of outputs. -/
def execVarnishSet (p : Packet) (s : State) : Host.Outcome State Fault Refusal :=
  runCore (easel opVarnishSet (hostEdit varnishSetBody) p) s

/-- OUTCHAIN_COMMIT (R286): Easel 0x0808 checks the staged output-chain bank and computes its spectra. -/
def execOutchainCommit (p : Packet) (s : State) : Host.Outcome State Fault Refusal :=
  runCore (easel opOutchainCommit (hostEdit outchainCommitBody) p) s

/-- SURVEY_STATUS_GET (R320): Easel 0x0700 returns Survey status and measurement progress. -/
def execSurveyStatusGet (p : Packet) (s : State) : Host.Outcome State Fault Refusal :=
  runCore (easel opSurveyStatus surveyStatusBody p) s

/-- MEASURE_START (R299): Easel 0x0701 checks and schedules a measurement. -/
def execMeasureStart (p : Packet) (s : State) : Host.Outcome State Fault Refusal :=
  runCore (easel opMeasureStart measureStartBody p) s

/-- MEASURE_BEGIN (R303): At anchor B the first turn's excitation replaces the programme and capture begins. -/
def execMeasureBegin (s : State) : Host.Outcome State Fault Refusal := runCore measureBegin s

/-- MEASURE_TURN_END (R303): A turn ends and the next turn starts at the next boundary, or the outputs fade back in. -/
def execMeasureTurnEnd (s : State) : Host.Outcome State Fault Refusal := runCore measureTurnEnd s

/-- TURN_RESULTS_DONE (R301): The impulse responses and values of a finished turn are computed. -/
def execTurnResultsDone (s : State) : Host.Outcome State Fault Refusal := runCore turnResultsDone s

/-- MEASURE_COMPLETE (R303): The measurement's completion notice is sent and MEAS_DONE is raised. -/
def execMeasureComplete (s : State) : Host.Outcome State Fault Refusal := runCore measureComplete s

/-- MEASURE_ABORT (R320): Easel 0x0702 ends the running measurement with ABORTED. -/
def execMeasureAbort (p : Packet) (s : State) : Host.Outcome State Fault Refusal :=
  runCore (easel opMeasureAbort measureAbortBody p) s

/-- RESULT_GET (R320): Easel 0x0703 returns a measured response and its values. -/
def execResultGet (p : Packet) (s : State) : Host.Outcome State Fault Refusal := runCore (easel opResultGet resultGetBody p) s

/-- RESULT_BANDS_GET (R320): Easel 0x0704 returns a result's 240 band values. -/
def execResultBandsGet (p : Packet) (s : State) : Host.Outcome State Fault Refusal :=
  runCore (easel opResultBands resultBandsBody p) s

/-- RESULT_STORE (R304): Easel 0x0705 writes a result to the library as a measurement item. -/
def execResultStore (p : Packet) (s : State) : Host.Outcome State Fault Refusal :=
  runCore (easel opResultStore resultStoreBody p) s

/-- RESULT_STORE_DONE (R304): The measurement item has been written and the notice is sent. -/
def execResultStoreDone (s : State) : Host.Outcome State Fault Refusal := runCore resultStoreDone s

/-- DESIGN (R305): Easel 0x0710 designs a correction FIR from stored results. -/
def execDesign (p : Packet) (s : State) : Host.Outcome State Fault Refusal := runCore (easel opDesign designBody p) s

/-- DESIGN_DONE (R306): The design finishes, its item is stored and the five-word notice is sent. -/
def execDesignDone (s : State) : Host.Outcome State Fault Refusal := runCore designDone s

/-- LIVE_CONFIG (R320): Easel 0x0720 sets the Survey live parameters. -/
def execLiveConfig (p : Packet) (s : State) : Host.Outcome State Fault Refusal :=
  runCore (easel opLiveConfig liveConfigBody p) s

/-- LIVE_OUTPUT_SET (R315): Easel 0x0721 makes an output managed or unmanaged, with its microphones and lags. -/
def execLiveOutputSet (p : Packet) (s : State) : Host.Outcome State Fault Refusal :=
  runCore (easel opLiveOutputSet liveOutputSetBody p) s

/-- LIVE_TIMING_SET (R313): Easel 0x0722 defines a temperature timing pair. -/
def execLiveTimingSet (p : Packet) (s : State) : Host.Outcome State Fault Refusal :=
  runCore (easel opLiveTimingSet liveTimingSetBody p) s

/-- LIVE_POLICY_SET (R316): Easel 0x0723 sets the Survey live policy. -/
def execLivePolicySet (p : Packet) (s : State) : Host.Outcome State Fault Refusal :=
  runCore (easel opLivePolicySet livePolicySetBody p) s

/-- LIVE_REBASE (R314): Easel 0x0724 starts learning a new baseline. -/
def execLiveRebase (p : Packet) (s : State) : Host.Outcome State Fault Refusal :=
  runCore (easel opLiveRebase liveRebaseBody p) s

/-- PROPOSAL_GET (R320): Easel 0x0725 returns the staged proposal's changes. -/
def execProposalGet (p : Packet) (s : State) : Host.Outcome State Fault Refusal :=
  runCore (easel opProposalGet proposalGetBody p) s

/-- PROPOSAL_APPLY (R316): Easel 0x0726 swaps the staged proposal in as a Palette 1 swap. -/
def execProposalApply (p : Packet) (s : State) : Host.Outcome State Fault Refusal :=
  runCore (easel opProposalApply proposalApplyBody p) s

/-- PROPOSAL_DISCARD (R317): Easel 0x0727 withdraws the staged proposal. -/
def execProposalDiscard (p : Packet) (s : State) : Host.Outcome State Fault Refusal :=
  runCore (easel opProposalDiscard proposalDiscardBody p) s

/-- SURVEY_WINDOW_END (R307): A Survey live window ends, and estimates, baseline, temperature and proposals are formed. -/
def execSurveyWindowEnd (s : State) : Host.Outcome State Fault Refusal := runCore surveyWindowEnd s

/-- PROPOSAL_COMMIT_DONE (R316): A proposal's commit completes, so PROPOSAL is raised, or under APPLY the swap is scheduled. -/
def execProposalCommitDone (s : State) : Host.Outcome State Fault Refusal := runCore proposalCommitDone s

/-- PROPOSAL_EXPIRE (R316): A proposal not applied within TTL is withdrawn and EXPIRED is logged. -/
def execProposalExpire (s : State) : Host.Outcome State Fault Refusal := runCore proposalExpire s

/-- SURVEY_LOG_FLUSH (R318): Every 10 s the gathered Survey log records are written to flash. -/
def execSurveyLogFlush (s : State) : Host.Outcome State Fault Refusal := runCore surveyLogFlush s

/-- SURVEY_LOG_READ (R320): Easel 0x0730 returns Survey log records. -/
def execSurveyLogRead (p : Packet) (s : State) : Host.Outcome State Fault Refusal :=
  runCore (easel opSurveyLogRead surveyLogReadBody p) s

/-- SURVEY_LOG_INFO (R320): Easel 0x0731 returns the log indices and the drop count. -/
def execSurveyLogInfo (p : Packet) (s : State) : Host.Outcome State Fault Refusal :=
  runCore (easel opSurveyLogInfo surveyLogInfoBody p) s

/-- DETECTOR_GET (R320): Easel 0x0740 returns the detectors of SV0 to SV15, clearing PEAK. -/
def execDetectorGet (p : Packet) (s : State) : Host.Outcome State Fault Refusal :=
  runCore (easel opDetectorGet detectorGetBody p) s

/-- DETECTOR_CONFIG (R320): Easel 0x0741 sets the detector parameters. -/
def execDetectorConfig (p : Packet) (s : State) : Host.Outcome State Fault Refusal :=
  runCore (easel opDetectorConfig detectorConfigBody p) s

/-- DETECTOR_RMS_WINDOW (R298): An RMS window of N samples ends and SURVEY_DETn_RMS is updated. -/
def execDetectorRmsWindow (n : Nat) (s : State) : Host.Outcome State Fault Refusal := runCore (detectorRmsWindow n) s

/-- PDM_CONFIG (R320): Easel 0x0750 writes the PDM clock and chain controls. -/
def execPdmConfig (p : Packet) (s : State) : Host.Outcome State Fault Refusal := runCore (easel opPdmConfig pdmConfigBody p) s

/-- PDM_FIR_LOAD (R293): Easel 0x0751 loads the 32 PDM FIR coefficients while no chain is enabled. -/
def execPdmFirLoad (p : Packet) (s : State) : Host.Outcome State Fault Refusal :=
  runCore (easel opPdmFirLoad pdmFirLoadBody p) s

/-- PDM_HOLD_END (R296): After WAKE ms plus 64 samples, a PDM chain fades in and SETTLED is raised. -/
def execPdmHoldEnd (n : Nat) (s : State) : Host.Outcome State Fault Refusal := runCore (pdmHoldEnd n) s

/-- PDM_STUCK (R297): A PDM input shows no transition for 4,096 clocks, so it fades to 0 and STUCK is raised. -/
def execPdmStuck (n : Nat) (s : State) : Host.Outcome State Fault Refusal := runCore (pdmStuck n) s

/-- PDM_TRANSITIONS_RETURN (R297): Transitions return on a stuck PDM input, and the chain restarts its settling hold. -/
def execPdmTransitionsReturn (n : Nat) (s : State) : Host.Outcome State Fault Refusal := runCore (pdmTransitionsReturn n) s

end Sys2Proof.Machine
end

