-- ==== Sys2Proof/Machine/CmdSystem.lean ====
section
/-! DEFINITION. The meanings of the commands of the supply, clocks, time, resets and the host interface (chapters 2 to 6), one for each. -/

namespace Sys2Proof.Machine

/-- GATED_ACCESS_CLEAR (R92): Writing SYS_GATED_ACCESS.CLEAR clears the count, the SAT flag and the recorded address. -/
def execGatedAccessClear (m : Nat) (v : Word) (s : State) : Host.Outcome State Fault Refusal := runCore (gatedAccessClear m v) s

/-- BAR0_DENIED_CLEAR (R153): Writing HOST_BAR0_DENIED.CLEAR clears the count, the SAT flag and the denied-write record. -/
def execBar0DeniedClear (m : Nat) (v : Word) (s : State) : Host.Outcome State Fault Refusal := runCore (bar0DeniedClear m v) s

/-- NO_PATH_CLEAR (R445): Writing FABRIC_NO_PATH.CLEAR clears the count, the SAT flag and the no-path record. -/
def execNoPathClear (m : Nat) (v : Word) (s : State) : Host.Outcome State Fault Refusal := runCore (noPathClear m v) s

/-- VIN_RISE (R121): VIN rises through 35.5 V, the AON oscillator starts with its fused trim, and the Plinth runs. -/
def execVinRise (s : State) : Host.Outcome State Fault Refusal := runCore vinRise s

/-- START_THRESHOLD_MET (R48): VIN has stayed above the start threshold for 10 ms, so soft start begins, VIO_SEL is sampled and
VIN_WARN is set. -/
def execStartThresholdMet (vioSel : Bool) (s : State) : Host.Outcome State Fault Refusal := runCore (startThresholdMet vioSel) s

/-- RAILS_IN_REGULATION (R121): The rails and VIO_MON reach regulation, pins take their safe states, the straps are sampled, the
SMBus answers and the TCXO is enabled. -/
def execRailsInRegulation (boot : Bool) (p3 : Bool) (addr : Nat) (s : State) : Host.Outcome State Fault Refusal :=
  runCore (railsInRegulation boot p3 addr) s

/-- TCXO_START_CHECK (R73): The TCXO passes ten AON-timed frequency gates, TCXO_QUAL_DELAY starts counting and the PLLs are
released. -/
def execTcxoStartCheck (s : State) : Host.Outcome State Fault Refusal := runCore tcxoStartCheck s

/-- BOOT_STAGE (R121): Once the PLLs lock, PD1 and PD2 are on and CP0 runs the on-die boot stage, which reads and checks Gesso.
-/
def execBootStage (primaryOk : Bool) (secondaryOk : Bool) (s : State) : Host.Outcome State Fault Refusal :=
  runCore (bootStage primaryOk secondaryOk) s

/-- GESSO_START (R121): Gesso runs, moves CTRL to PLL_B and starts DRAM training. -/
def execGessoStart (s : State) : Host.Outcome State Fault Refusal := runCore gessoStart s

/-- HOLDUP_CHARGED (R51): The rails are in regulation, the hold-up store is charged and the straps are sampled, so PGOOD_N is
driven low. -/
def execHoldupCharged (s : State) : Host.Outcome State Fault Refusal := runCore holdupCharged s

/-- FIRMWARE_HANDOFF (R121): Gesso has verified the active image and hands off to firmware, after which Easel packets are
answered with RESTARTING. -/
def execFirmwareHandoff (imageOk : Bool) (prevOk : Bool) (s : State) : Host.Outcome State Fault Refusal :=
  runCore (updateHandoff imageOk prevOk) s

/-- PCIE_ENDPOINT_READY (R121): PD12 is on and the PCIe endpoint stops returning Retry Status completions. -/
def execPcieEndpointReady (s : State) : Host.Outcome State Fault Refusal := runCore pcieEndpointReady s

/-- START_READY (R121): Firmware has loaded the configuration store and re-admitted the show if so set; Easel is accepted and
READY is raised. -/
def execStartReady (ms : Nat) (s : State) : Host.Outcome State Fault Refusal := runCore (startReady ms) s

/-- MEDIA_START (R114): The MEDIA domain first starts at an epoch-aligned block boundary and loads the media sample counter. -/
def execMediaStart (s : State) : Host.Outcome State Fault Refusal := runCore mediaStart s

/-- VIN_WARN_SET (R48): VIN falls through 38.0 V for 20 µs, so VIN_WARN is declared and new flash programs and erases are
refused. -/
def execVinWarnSet (s : State) : Host.Outcome State Fault Refusal := runCore vinWarnSet s

/-- VIN_WARN_CLEAR (R48): VIN has stayed at or above 39.0 V for 100 ms, so VIN_WARN clears and stopped flash work resumes in
order. -/
def execVinWarnClear (s : State) : Host.Outcome State Fault Refusal := runCore vinWarnClear s

/-- VIN_OFF (R52): VIN falls through 34.0 V for 20 µs and the ordered shutdown runs to completion on hold-up energy. -/
def execVinOff (s : State) : Host.Outcome State Fault Refusal := runMem vinOffAll s

/-- RESET_N_ASSERT (R125): A recognised RESET_N low resets PD1 to PD12 within 1 µs and cuts the outputs. -/
def execResetNAssert (s : State) : Host.Outcome State Fault Refusal := runReset resetNAssert s

/-- RESET_N_RELEASE (R125): On release of RESET_N the straps are resampled and start-up repeats from step 4, or a wake runs from
deep standby. -/
def execResetNRelease (boot : Bool) (p3 : Bool) (addr : Nat) (s : State) : Host.Outcome State Fault Refusal :=
  runCore (resetNRelease boot p3 addr) s

/-- WAKE_N_FALL (R136): A falling edge on WAKE_N wakes the module from deep standby. -/
def execWakeNFall (s : State) : Host.Outcome State Fault Refusal := runCore wakeNFall s

/-- WAKE_AT_REACHED (R136): The backup time counter reaches SYS_WAKE_AT while WAKE_AT_EN is set, and the module wakes. -/
def execWakeAtReached (s : State) : Host.Outcome State Fault Refusal := runCore wakeAtReached s

/-- PCIE_PERST_ASSERT (R124): PCIE_PERST_N resets the host interface, as function 27 does. -/
def execPciePerstAssert (s : State) : Host.Outcome State Fault Refusal := runCore pciePerstAssert s

/-- PCIE_PERST_RELEASE (R63): Release of PCIE_PERST_N starts link training within 20 ms. -/
def execPciePerstRelease (s : State) : Host.Outcome State Fault Refusal := runCore pciePerstRelease s

/-- PCIE_CONFIG_REQUEST (R63): A PCIe configuration request, answered with Retry Status until the endpoint is ready. -/
def execPcieConfigRequest (reg : Nat) (s : State) : Host.Outcome State Fault Refusal := runCore (pcieConfigRequest reg) s

/-- SMBUS_READ_BYTE (R59): An SMBus Read Byte returns data under the command code's own protocol, optionally followed by PEC. -/
def execSmbusReadByte (addr : Nat) (code : Nat) (extra : Nat) (s : State) : Host.Outcome State Fault Refusal :=
  runCore (smbusReadByte addr code extra) s

/-- SMBUS_READ_WORD (R59): An SMBus Read Word returns data low byte first, optionally followed by PEC. -/
def execSmbusReadWord (addr : Nat) (code : Nat) (extra : Nat) (s : State) : Host.Outcome State Fault Refusal :=
  runCore (smbusReadWord addr code extra) s

/-- SMBUS_WRITE (R59): Every SMBus write is NACKed. -/
def execSmbusWrite (addr : Nat) (s : State) : Host.Outcome State Fault Refusal := runCore (smbusWrite addr) s

/-- SMBUS_ALERT_RESPONSE (R59): A read of the Alert Response Address returns the module's address and releases SMB_ALERT_N. -/
def execSmbusAlertResponse (s : State) : Host.Outcome State Fault Refusal := runCore smbusAlertResponse s

/-- SMBUS_REFRESH (R59): Every 10 ms the SMBus and SYS measurement values are refreshed. -/
def execSmbusRefresh (vin : Nat) (pin : Nat) (s : State) : Host.Outcome State Fault Refusal := runCore (smbusRefresh vin pin) s

/-- TEMP_MEASURE (R64): Every 10 ms the die and board sensors are measured and the temperature thresholds are judged. -/
def execTempMeasure (die : Int) (board : Int) (s : State) : Host.Outcome State Fault Refusal :=
  runMem (tempMeasureAll die board) s

/-- MUTE_AND_HOLD (R65): At the first block boundary after the die reaches 115 °C, outputs fade out and the render engines,
Caliper and Brush cores stop. -/
def execMuteAndHold (s : State) : Host.Outcome State Fault Refusal := runCore muteAndHold s

/-- THERMAL_RESUME (R66): After the die has stayed below 100 °C for 10 s, the module resumes rendering at the next boundary. -/
def execThermalResume (s : State) : Host.Outcome State Fault Refusal := runCore thermalResume s

/-- TCXO_QUALIFY (R74): The TCXO qualifies after TCXO_QUAL_DELAY together with the drift condition, or after the further 60 s.
-/
def execTcxoQualify (confirmed : Bool) (s : State) : Host.Outcome State Fault Refusal := runCore (tcxoQualify confirmed) s

/-- REF_IN_LOSS (R76): REF_IN shows no edge for the loss interval of its TYPE, which is a trip. -/
def execRefInLoss (s : State) : Host.Outcome State Fault Refusal := runCore refInLoss s

/-- REF_IN_MEASUREMENT (R76): A REF_IN frequency measurement interval ends and the result is judged against WINDOW. -/
def execRefInMeasurement (off : Int) (s : State) : Host.Outcome State Fault Refusal := runCore (refInMeasurement off) s

/-- REF_QUALIFY (R77): REF_IN has been present and in window for REF_QUAL_DELAY, so it qualifies. -/
def execRefQualify (s : State) : Host.Outcome State Fault Refusal := runCore refQualify s

/-- DPLL_LOCK (R79): The phase error has stayed within ±50 ns for 1 s, so the DPLL is declared locked. -/
def execDpllLock (s : State) : Host.Outcome State Fault Refusal := runCore dpllLockEvent s

/-- DREF_WRITE (R79): A write of CLK_MEDIA_CTRL.DREF holds the DPLL's averaged word until the new reference qualifies. -/
def execDrefWrite (m : Nat) (v : Word) (s : State) : Host.Outcome State Fault Refusal := runCore (drefWrite m v) s

/-- TCXO_MONITOR_TRIP (R85): The TCXO monitor trips, TCXO_FAIL is recorded, shutdown steps run and the module restarts. -/
def execTcxoMonitorTrip (s : State) : Host.Outcome State Fault Refusal := runReset tcxoMonitorTrip s

/-- CORE_PLL_LOSS (R85): PLL_A, PLL_B or PLL_M loses lock, which records PLL_FAULT and causes a clock restart. -/
def execCorePllLoss (s : State) : Host.Outcome State Fault Refusal := runReset corePllLoss s

/-- SERDES_PLL_LOSS (R85): A PLL_Sn loses lock and its network port is reset. -/
def execSerdesPllLoss (port : Nat) (s : State) : Host.Outcome State Fault Refusal := runCore (serdesPllLoss port) s

/-- HOST_CLOCK_LOSS (R85): PLL_H loses lock or PCIE_REFCLK stops, and the host interface is reset. -/
def execHostClockLoss (s : State) : Host.Outcome State Fault Refusal := runCore hostClockLoss s

/-- MEDIA_MONITOR_TRIP (R85): The DPLL output is more than 150 ppm off nominal, which is handled as a reference trip. -/
def execMediaMonitorTrip (s : State) : Host.Outcome State Fault Refusal := runCore mediaMonitorTrip s

/-- AON_MONITOR_TRIP (R85): The AON oscillator is more than 2 % off nominal, so AON_FAULT is set. -/
def execAonMonitorTrip (s : State) : Host.Outcome State Fault Refusal := runCore aonMonitorTrip s

/-- CLK_SWITCH_GO (R86): CLK_SWITCH.GO stops CTRL, changes its source and restarts it, or refuses other requests under R87. -/
def execClkSwitchGo (m : Nat) (v : Word) (s : State) : Host.Outcome State Fault Refusal := runCore (clkSwitchGo m v) s

/-- MEDIA_SWITCH_WRITE (R88): A write that changes FAMILY, MULT, LL or SRC sets SWITCH_PENDING and schedules a MEDIA switch at
anchor B. -/
def execMediaSwitchWrite (m : Nat) (v : Word) (s : State) : Host.Outcome State Fault Refusal := runCore (mediaSwitchWrite m v) s

/-- MEDIA_SWITCH (R88): At anchor B the MEDIA domain stops, changes source and restarts, losing one block. -/
def execMediaSwitch (s : State) : Host.Outcome State Fault Refusal := runCore mediaSwitch s

/-- CLK_EN_WRITE (R90): A write to a clock-enable register changes gating, refuses locked bits and wakes or lowers power
domains. -/
def execClkEnWrite (m : Nat) (k : Nat) (v : Word) (s : State) : Host.Outcome State Fault Refusal := runCore (clkEnWrite m k v) s

/-- PD_WAKE_DONE (R133): A waking power domain reaches ON and PD_ON is raised when the last one arrives. -/
def execPdWakeDone (pd : Nat) (s : State) : Host.Outcome State Fault Refusal := runCore (pdWakeDone pd) s

/-- CLKOUT_CTRL_WRITE (R93): A change to CLKOUTn EN, SRC or DIVH stops the output low; it restarts at the next block boundary.
-/
def execClkoutCtrlWrite (m : Nat) (n : Nat) (v : Word) (s : State) : Host.Outcome State Fault Refusal :=
  runCore (clkoutCtrlWrite m n v) s

/-- AON_TRIM_GATE (R94): Every 100 ms the trim loop counts AON cycles over a gate and moves CODE by one step. -/
def execAonTrimGate (err : Int) (fsyncOk : Bool) (s : State) : Host.Outcome State Fault Refusal :=
  runCore (aonTrimGate err fsyncOk) s

/-- PTP_ANNOUNCE_RECEIVE (R96): An Announce message is taken, foreign leaders are qualified and the BMCA decides the port state.
-/
def execPtpAnnounceReceive (port : Nat) (domain : Nat) (l : Leader) (s : State) : Host.Outcome State Fault Refusal :=
  runCore (ptpAnnounceReceive port domain l) s

/-- PTP_SYNC_RECEIVE (R103): A Sync is taken and timestamped, and the servo updates TIME_RATE from the measurement. -/
def execPtpSyncReceive (port : Nat) (domain : Nat) (sender : Nat) (seq : Nat) (twoStep : Bool) (t1 : Int) (corr : Int) (t2 : Int) (s : State) : Host.Outcome State Fault Refusal :=
  runCore (ptpSyncReceive port domain sender seq twoStep t1 corr t2) s

/-- PTP_FOLLOW_UP_RECEIVE (R97): A Follow_Up supplies the precise t1 of a two-step Sync. -/
def execPtpFollowUpReceive (port : Nat) (domain : Nat) (sender : Nat) (seq : Nat) (t1 : Int) (corr : Int) (s : State) : Host.Outcome State Fault Refusal :=
  runCore (ptpFollowUpReceive port domain sender seq t1 corr) s

/-- PTP_DELAY_RESP_RECEIVE (R103): A Delay_Resp supplies t4 for the mean path delay computation. -/
def execPtpDelayRespReceive (port : Nat) (domain : Nat) (sender : Nat) (seq : Nat) (t4 : Int) (corr : Int) (interval : Int) (s : State) : Host.Outcome State Fault Refusal :=
  runCore (ptpDelayRespReceive port domain sender seq t4 corr interval) s

/-- PTP_DELAY_REQ_SEND (R96): At the interval the leader advertises, a Delay_Req is sent and timestamped. -/
def execPtpDelayReqSend (port : Nat) (t3 : Int) (s : State) : Host.Outcome State Fault Refusal :=
  runCore (ptpDelayReqSend port t3) s

/-- PTP_DELAY_REQ_RECEIVE (R97): As leader, the module timestamps a Delay_Req and answers it. -/
def execPtpDelayReqReceive (port : Nat) (domain : Nat) (sender : Nat) (seq : Nat) (t4 : Int) (s : State) : Host.Outcome State Fault Refusal :=
  runCore (ptpDelayReqReceive port domain sender seq t4) s

/-- PTP_ANNOUNCE_SEND (R100): As leader, the module sends an Announce with its advertised dataset. -/
def execPtpAnnounceSend (port : Nat) (s : State) : Host.Outcome State Fault Refusal := runCore (ptpAnnounceSend port) s

/-- PTP_SYNC_SEND (R97): As leader, the module sends a two-step Sync followed by a Follow_Up. -/
def execPtpSyncSend (port : Nat) (t1 : Int) (s : State) : Host.Outcome State Fault Refusal := runCore (ptpSyncSend port t1) s

/-- ANNOUNCE_RECEIPT_TIMEOUT (R106): The announce receipt timeout expires on the active port, which may declare PTP loss. -/
def execAnnounceReceiptTimeout (port : Nat) (s : State) : Host.Outcome State Fault Refusal :=
  runCore (announceReceiptTimeout port) s

/-- SYNC_TIMEOUT (R106): No Sync is accepted on the active port for 1 s, so PTP loss is declared. -/
def execSyncTimeout (s : State) : Host.Outcome State Fault Refusal := runCore syncTimeout s

/-- SERVO_LOCK (R105): The filtered offset has stayed within ±200 ns for 2 s, so the servo declares LOCKED. -/
def execServoLock (s : State) : Host.Outcome State Fault Refusal := runCore servoLock s

/-- SERVO_UNLOCK (R105): The filtered offset has exceeded ±1 µs for 1 s, so the servo leaves LOCKED. -/
def execServoUnlock (s : State) : Host.Outcome State Fault Refusal := runCore servoUnlock s

/-- STEP_ACCEPT_SLEW (R110): TIME_STEP_ACCEPT.GO with MODE SLEW steps the counter at once, or refuses above 1 ms. -/
def execStepAcceptSlew (m : Nat) (v : Word) (s : State) : Host.Outcome State Fault Refusal :=
  runCore (stepAcceptWrite m (withBits v 0 0 1)) s

/-- STEP_ACCEPT_REALIGN (R110): TIME_STEP_ACCEPT.GO with MODE REALIGN schedules a re-alignment. -/
def execStepAcceptRealign (m : Nat) (v : Word) (s : State) : Host.Outcome State Fault Refusal :=
  runCore (stepAcceptWrite m (withBits v 0 0 0)) s

/-- REALIGNMENT (R111): At anchor B the counter steps, the MEDIA domain stops and restarts on an epoch-aligned block, and
REALIGNED is set. -/
def execRealignment (s : State) : Host.Outcome State Fault Refusal := runCore realignment s

/-- TIME_CONFIG (R120): Easel 0x0120 writes TIME_CTRL, the step limit, the leader configuration and the asymmetries. -/
def execTimeConfig (p : Packet) (s : State) : Host.Outcome State Fault Refusal :=
  runCore (easel opTimeConfig timeConfigBody p) s

/-- TIME_STATUS_GET (R120): Easel 0x0121 returns the time status, offset, path delay, leader identity and current time. -/
def execTimeStatusGet (p : Packet) (s : State) : Host.Outcome State Fault Refusal :=
  runCore (easel opTimeStatus timeStatusBody p) s

/-- TIME_STEP_ACCEPT (R120): Easel 0x0122 accepts a refused step in the given mode. -/
def execTimeStepAccept (p : Packet) (s : State) : Host.Outcome State Fault Refusal :=
  runCore (easel opTimeStepAccept timeStepAcceptBody p) s

/-- TIME_SET (R112): Easel 0x0123 sets the PTP seconds, which is a checked step while MEDIA runs. -/
def execTimeSet (p : Packet) (s : State) : Host.Outcome State Fault Refusal := runCore (easel opTimeSet timeSetBody p) s

/-- PULSE_PROGRAM (R120): Easel 0x0124 stages and arms a timed pulse program. -/
def execPulseProgram (p : Packet) (s : State) : Host.Outcome State Fault Refusal :=
  runCore (easel opPulseProgram pulseProgramBody p) s

/-- TSIN_READ (R120): Easel 0x0125 pops and returns timestamp capture entries. -/
def execTsinRead (p : Packet) (s : State) : Host.Outcome State Fault Refusal := runCore (easel opTsinRead tsinReadBody p) s

/-- PULSE_ARM (R115): Writing TIME_PULSEn_CTRL.ARM copies the staged program into the live program. -/
def execPulseArm (m : Nat) (n : Nat) (v : Word) (s : State) : Host.Outcome State Fault Refusal :=
  runCore (pulseCtrlWrite m n (withBits v 0 0 1)) s

/-- PULSE_STOP (R115): Writing TIME_PULSEn_CTRL.STOP disarms the pulse at the end of the current pulse. -/
def execPulseStop (m : Nat) (n : Nat) (v : Word) (s : State) : Host.Outcome State Fault Refusal :=
  runCore (pulseCtrlWrite m n (withBits v 2 2 1)) s

/-- PULSE_EDGE (R116): The PTP counter reaches a programmed pulse time and the output rises, then falls after WIDTH. -/
def execPulseEdge (n : Nat) (s : State) : Host.Outcome State Fault Refusal := runCore (pulseEdge n) s

/-- TSIN_CAPTURE (R117): A selected TSIN edge is captured with PTP time, media count, phase and EPOCH into the FIFO. -/
def execTsinCapture (n : Nat) (rising : Bool) (off : Nat) (phase : Nat) (s : State) : Host.Outcome State Fault Refusal :=
  runCore (tsinCapture n rising off phase) s

/-- TSIN_FIFO_POP (R118): A read of TIME_TSINn_TS_FRAC removes the oldest entry into the reader's shadow words. -/
def execTsinFifoPop (m : Nat) (n : Nat) (s : State) : Host.Outcome State Fault Refusal := runCore (tsinFifoPop m n) s

/-- BACKUP_TIME_COPY (R114): Once per second the backup time counter copies the PTP seconds. -/
def execBackupTimeCopy (s : State) : Host.Outcome State Fault Refusal := runCore backupTimeCopy s

/-- SYS_STATE_GET (R137): Easel 0x0110 returns the system status, reset cause, power-domain state and measurements. -/
def execSysStateGet (p : Packet) (s : State) : Host.Outcome State Fault Refusal := runCore (easel opSysState sysStateBody p) s

/-- SYS_STANDBY (R137): Easel 0x0111 requests RUN, quiet standby or deep standby, with an optional wake time. -/
def execSysStandby (p : Packet) (s : State) : Host.Outcome State Fault Refusal :=
  runCore (easel opSysStandby sysStandbyBody p) s

/-- SYS_RESTART (R137): Easel 0x0112 starts a control-plane restart or a module reset. -/
def execSysRestart (p : Packet) (s : State) : Host.Outcome State Fault Refusal :=
  runReset (fun c => (easel opSysRestart sysRestartBody p c).restartIfDue) s

/-- FUNC_RESET (R137): Easel 0x0113 requests a function reset, with FORCE only at expert level. -/
def execFuncReset (p : Packet) (s : State) : Host.Outcome State Fault Refusal := runCore (easel opFuncReset funcResetBody p) s

/-- WAKE_TOL_SET (R137): Easel 0x0114 writes the twelve wake-latency tolerances. -/
def execWakeTolSet (p : Packet) (s : State) : Host.Outcome State Fault Refusal := runCore (easel opWakeTol wakeTolBody p) s

/-- OUTPUT_RELEASE (R122): Easel 0x0115 releases the start-up output hold at the next block boundary. -/
def execOutputRelease (p : Packet) (s : State) : Host.Outcome State Fault Refusal :=
  runCore (easel opOutputRelease outputReleaseBody p) s

/-- START_CONFIG_SET (R137): Easel 0x0116 stores SYS_START_CFG for later starts. -/
def execStartConfigSet (p : Packet) (s : State) : Host.Outcome State Fault Refusal :=
  runCore (easel opStartConfig startConfigBody p) s

/-- MEDIA_RATE_SET (R89): Easel 0x0117 checks and stores a new rate and mode, then switches MEDIA under R88. -/
def execMediaRateSet (p : Packet) (s : State) : Host.Outcome State Fault Refusal :=
  runCore (easel opMediaRate mediaRateBody p) s

/-- OUTPUT_RELEASE_GO (R122): Writing SYS_OUTPUT_RELEASE.GO releases the output hold at the next block boundary. -/
def execOutputReleaseGo (m : Nat) (v : Word) (s : State) : Host.Outcome State Fault Refusal := runCore (outputReleaseGo m v) s

/-- RESET_CTRL_RESTART (R127): SYS_RESET_CTRL.GO with KIND 0 starts a control-plane restart, clearing the mailboxes and aborting
their words. -/
def execResetCtrlRestart (m : Nat) (v : Word) (s : State) : Host.Outcome State Fault Refusal :=
  runReset (resetCtrlRestart m v) s

/-- RESET_CTRL_MODULE_RESET (R126): SYS_RESET_CTRL.GO with KIND 1 requests a module reset. -/
def execResetCtrlModuleReset (m : Nat) (v : Word) (s : State) : Host.Outcome State Fault Refusal :=
  runReset (resetCtrlModule m v) s

/-- MODULE_RESET (R126): At the first boundary the outputs fade over one block, and at the next the module acts as RESET_N. -/
def execModuleReset (s : State) : Host.Outcome State Fault Refusal := runReset moduleReset s

/-- CONTROL_PLANE_RESTART_END (R127): CP0 to CP3 have reloaded, Easel is accepted again and RESTART_END rings. -/
def execControlPlaneRestartEnd (s : State) : Host.Outcome State Fault Refusal := runCore controlPlaneRestartEnd s

/-- FUNC_RESET_GO (R128): SYS_FUNC_RESET.GO starts a function reset of the selected code, or refuses it. -/
def execFuncResetGo (m : Nat) (v : Word) (s : State) : Host.Outcome State Fault Refusal := runCore (funcResetGo m v) s

/-- FUNC_RESET_DONE (R128): A function reset completes, is counted and raises FUNC_RESET_DONE. -/
def execFuncResetDone (ok : Bool) (s : State) : Host.Outcome State Fault Refusal := runCore (funcResetDone ok) s

/-- STANDBY_RUN_GO (R135): SYS_STANDBY_CTRL.GO with LEVEL RUN leaves quiet standby. -/
def execStandbyRunGo (m : Nat) (v : Word) (s : State) : Host.Outcome State Fault Refusal := runCore (standbyRunGo m v) s

/-- STANDBY_QUIET_GO (R135): SYS_STANDBY_CTRL.GO with LEVEL 1 requests quiet standby. -/
def execStandbyQuietGo (m : Nat) (v : Word) (s : State) : Host.Outcome State Fault Refusal := runCore (standbyQuietGo m v) s

/-- STANDBY_DEEP_GO (R136): SYS_STANDBY_CTRL.GO with LEVEL 2 requests deep standby. -/
def execStandbyDeepGo (m : Nat) (v : Word) (s : State) : Host.Outcome State Fault Refusal := runCore (standbyDeepGo m v) s

/-- QUIET_STANDBY_ENTRY (R135): At anchor B the render engines, Caliper and Brush cores stop and PD4 to PD9 go to RETAIN. -/
def execQuietStandbyEntry (s : State) : Host.Outcome State Fault Refusal := runCore quietStandbyEntry s

/-- QUIET_STANDBY_EXIT (R135): PD4 to PD9 wake and rendering restarts from fresh targets at B1. -/
def execQuietStandbyExit (s : State) : Host.Outcome State Fault Refusal := runCore quietStandbyExit s

/-- DEEP_STANDBY_ENTRY (R136): At the first boundary the outputs fade, the standby record is written and PD12 down to PD1 switch
off. -/
def execDeepStandbyEntry (s : State) : Host.Outcome State Fault Refusal := runMem deepStandbyEntryAll s

/-- IPV4_FRAGMENT_RECEIVE (R139): An IPv4 fragment for UDP port 52080 is held for reassembly into an Easel datagram. -/
def execIpv4FragmentReceive (src : Nat) (ident : Nat) (offset : Nat) (bytes : List Byte) (more : Bool) (s : State) : Host.Outcome State Fault Refusal :=
  runCore (ipv4FragmentReceive src ident offset bytes more) s

/-- IP_REASSEMBLY_TIMEOUT (R139): A datagram still incomplete 100 ms after its first fragment is discarded. -/
def execIpReassemblyTimeout (src : Nat) (ident : Nat) (s : State) : Host.Outcome State Fault Refusal :=
  runCore (ipReassemblyTimeout src ident) s

/-- HOST_CMD_PROD_WRITE (R160): Writing HOST_CMD_PROD rings the command doorbell and the module reads the new packets. -/
def execHostCmdProdWrite (m : Nat) (v : Word) (bytes : List Byte) (s : State) : Host.Outcome State Fault Refusal :=
  runCore (hostCmdProdWrite m v bytes) s

/-- REPLY_RING_CONSUME (R161): Writing HOST_RPL_CONS frees reply slots so that held replies can be written. -/
def execReplyRingConsume (m : Nat) (v : Word) (s : State) : Host.Outcome State Fault Refusal := runCore (replyRingConsume m v) s

/-- UDP_SESSION_TIMEOUT (R145): A UDP session takes no packet for 10 s and is closed. -/
def execUdpSessionTimeout (num : Nat) (s : State) : Host.Outcome State Fault Refusal := runCore (udpSessionTimeout num) s

/-- SESSION_OPEN (R155): Easel 0x0100 opens a session at basic or expert level. -/
def execSessionOpen (p : Packet) (s : State) : Host.Outcome State Fault Refusal := runCore (sessionOpen p) s

/-- SESSION_CLOSE (R155): Easel 0x0101 closes the session and gives up expert mode. -/
def execSessionClose (p : Packet) (s : State) : Host.Outcome State Fault Refusal :=
  runCore (easel opSessionClose sessionCloseBody p) s

/-- PING (R155): Easel 0x0102 returns its bytes. -/
def execPing (p : Packet) (s : State) : Host.Outcome State Fault Refusal := runCore (easel opPing pingBody p) s

/-- EVENT_SUBSCRIBE (R155): Easel 0x0104 sets the session's mask of interrupt sources. -/
def execEventSubscribe (p : Packet) (s : State) : Host.Outcome State Fault Refusal :=
  runCore (easel opEventSubscribe eventSubscribeBody p) s

/-- SESSION_LEVEL (R155): Easel 0x0105 changes the session's level. -/
def execSessionLevel (p : Packet) (s : State) : Host.Outcome State Fault Refusal :=
  runCore (easel opSessionLevel sessionLevelBody p) s

/-- TIMED_CANCEL (R151): Easel 0x0107 removes a pending timed command of the session that has not yet been committed. -/
def execTimedCancel (p : Packet) (s : State) : Host.Outcome State Fault Refusal :=
  runCore (easel opTimedCancel timedCancelBody p) s

/-- TIMED_COMMIT (R151): One block before its boundary, a pending timed command is committed to hardware. -/
def execTimedCommit (s : State) : Host.Outcome State Fault Refusal := runCore timedCommit s

/-- MBX_H2F_WRITE (R162): A host write to H2F stores the word and rings firmware's doorbell, or is ignored as an overrun. -/
def execMbxH2fWrite (m : Nat) (n : Nat) (v : Word) (s : State) : Host.Outcome State Fault Refusal :=
  runCore (mbxH2FWrite m n v) s

/-- MBX_F2H_ACK (R162): A write to HOST_MBXn_ACK clears F2H_FULL. -/
def execMbxF2hAck (m : Nat) (n : Nat) (v : Word) (s : State) : Host.Outcome State Fault Refusal := runCore (mbxF2HAck m n v) s

/-- MBX_COMMAND_TAKE (R165): With F2H empty, firmware takes a short command from H2F and posts its reply in the same step. -/
def execMbxCommandTake (n : Nat) (s : State) : Host.Outcome State Fault Refusal := runReset (mbxCommandTake n) s

/-- MBX_EVENT_POST (R165): Firmware posts an event word to an empty F2H. -/
def execMbxEventPost (n : Nat) (k : Nat) (s : State) : Host.Outcome State Fault Refusal := runCore (mbxEventPost n k) s

/-- MBX_STALL (R166): H2F and F2H of a pair stay full for 1 ms, so STALL is set and MBX_STALL rings. -/
def execMbxStall (n : Nat) (s : State) : Host.Outcome State Fault Refusal := runCore (mbxStall n) s

/-- DB_MASK_WRITE (R167): A write to HOST_DB_MASK; unmasking a set doorbell sends its MSI-X message. -/
def execDbMaskWrite (m : Nat) (v : Word) (s : State) : Host.Outcome State Fault Refusal := runCore (dbMaskWrite m v) s

/-- HOLD_ACQUIRE (R168): A read of a free hold register makes the reader its owner; a read of a held one returns the owner. -/
def execHoldAcquire (m : Nat) (n : Nat) (s : State) : Host.Outcome State Fault Refusal := runCore (holdAcquire m n) s

/-- HOLD_RELEASE (R168): The owner writes 0 to release a hold register; any other write is ignored and counted. -/
def execHoldRelease (m : Nat) (n : Nat) (v : Word) (s : State) : Host.Outcome State Fault Refusal :=
  runCore (holdRelease m n v) s

/-- BAR2_BASE_WRITE (R539): A write to HOST_BAR2_BASE moves the DRAM window for requests taken afterwards. -/
def execBar2BaseWrite (m : Nat) (v : Word) (s : State) : Host.Outcome State Fault Refusal := runCore (bar2BaseWrite m v) s

/-- CONVERTER_FAULT (R51): A fault of the input converter releases PGOOD_N. -/
def execConverterFault (s : State) : Host.Outcome State Fault Refusal := runCore converterFault s

/-- PCIE_LINK_TRAINED (R63): PCIe link training completes and HOST_STATUS.LINK_UP, SPEED and WIDTH are set. -/
def execPcieLinkTrained (gen : Nat) (width : Nat) (s : State) : Host.Outcome State Fault Refusal :=
  runCore (pcieLinkTrained gen width) s

/-- TIME_CTRL_WRITE (R106): A BAR0 write of TIME_CTRL that clears EN or the active port's PORT_EN while DREF is PTP declares PTP
loss, or moves the active port. -/
def execTimeCtrlWrite (m : Nat) (v : Word) (s : State) : Host.Outcome State Fault Refusal := runCore (timeCtrlWrite m v) s

end Sys2Proof.Machine
end

