-- ==== Sys2Proof/Machine/CmdTwin.lean ====
section
/-! DEFINITION. The meanings of the commands of twin operation (chapter 18), one for each. -/

namespace Sys2Proof.Machine

/-- TETHER_MIRROR_RECEIVE (R483): A mirror-set fragment is received and checked. -/
def execTetherMirrorReceive (f : Tether) (s : State) : Host.Outcome State Fault Refusal := runCore (tetherMirrorReceive f) s

/-- TETHER_ACK_RECEIVE (R485): An ACK releases the held replies of the set it names. -/
def execTetherAckReceive (f : Tether) (s : State) : Host.Outcome State Fault Refusal := runCore (tetherAckReceive f) s

/-- TETHER_RESYNC_REQ_RECEIVE (R484): A RESYNC_REQ starts a full resync to the partner. -/
def execTetherResyncReqReceive (f : Tether) (s : State) : Host.Outcome State Fault Refusal :=
  runCore (tetherResyncReqReceive f) s

/-- TETHER_RESYNC_DATA_RECEIVE (R484): A RESYNC_DATA frame carries resync content. -/
def execTetherResyncDataReceive (f : Tether) (part : ResyncPart) (s : State) : Host.Outcome State Fault Refusal :=
  runCore (tetherResyncDataReceive f part) s

/-- RESYNC_COMPLETE (R484): A full resync completes, so READY is set and RESYNC_DONE is raised. -/
def execResyncComplete (version : Word) (s : State) : Host.Outcome State Fault Refusal := runCore (resyncComplete version) s

/-- TETHER_SWITCH_RECEIVE (R492): A SWITCH frame names B and the partner wakes PD4 to PD9. -/
def execTetherSwitchReceive (f : Tether) (g : Nat) (s : State) : Host.Outcome State Fault Refusal :=
  runCore (tetherSwitchReceive f g) s

/-- TETHER_RELINQUISH_RECEIVE (R489): A RELINQUISH frame triggers a takeover at the next boundary. -/
def execTetherRelinquishReceive (f : Tether) (s : State) : Host.Outcome State Fault Refusal :=
  runCore (tetherRelinquishReceive f) s

/-- TETHER_PAIR_RECEIVE (R479): A PAIR frame reveals the partner and arbitration decides the role. -/
def execTetherPairReceive (f : Tether) (primary : Bool) (s : State) : Host.Outcome State Fault Refusal :=
  runCore (tetherPairReceive f primary) s

/-- PAIRING_TIMEOUT (R477): No partner appears for 2 s, so a PRIMARY module without witness becomes ACTIVE. -/
def execPairingTimeout (s : State) : Host.Outcome State Fault Refusal := runCore pairingTimeout s

/-- WITNESS_DECISION (R490): At the decision boundary, a module that saw the witness becomes ISOLATED; otherwise it takes over.
-/
def execWitnessDecision (s : State) : Host.Outcome State Fault Refusal := runCore witnessDecision s

/-- TAKEOVER (R491): At anchor D the Standby becomes TAKING_OVER, sets its aliases and becomes ACTIVE 64 samples later. -/
def execTakeover (s : State) : Host.Outcome State Fault Refusal := runCore takeover s

/-- SWITCHOVER_PREPARE (R492): 192 samples before B, the partner computes targets and starts rendering silently. -/
def execSwitchoverPrepare (s : State) : Host.Outcome State Fault Refusal := runCore switchoverPrepare s

/-- SWITCHOVER (R492): At B the roles exchange, aliases and streams move, and outputs cross-fade. -/
def execSwitchover (s : State) : Host.Outcome State Fault Refusal := runCore switchover s

/-- SWITCHOVER_GLAZE_END (R492): G after B, SWITCH_DONE is raised and the former ACTIVE retains PD4 to PD9. -/
def execSwitchoverGlazeEnd (s : State) : Host.Outcome State Fault Refusal := runCore switchoverGlazeEnd s

/-- TWIN_STATUS_GET (R497): Easel 0x0D00 returns twin status and counters. -/
def execTwinStatusGet (p : Packet) (s : State) : Host.Outcome State Fault Refusal :=
  runCore (easel opTwinStatus twinStatusBody p) s

/-- TWIN_CONFIG (R497): Easel 0x0D01 configures twin operation. -/
def execTwinConfig (p : Packet) (s : State) : Host.Outcome State Fault Refusal :=
  runCore (easel opTwinConfig twinConfigBody p) s

/-- TWIN_SWITCHOVER (R492): Easel 0x0D02 schedules an exchange of roles. -/
def execTwinSwitchover (p : Packet) (s : State) : Host.Outcome State Fault Refusal :=
  runCore (easel opTwinSwitchover twinSwitchoverBody p) s

/-- TWIN_FORCE (R497): Easel 0x0D03 forces a takeover. -/
def execTwinForce (p : Packet) (s : State) : Host.Outcome State Fault Refusal := runCore (easel opTwinForce twinForceBody p) s

/-- TWIN_LEAVE (R497): Easel 0x0D04 leaves the pair and becomes SOLO. -/
def execTwinLeave (p : Packet) (s : State) : Host.Outcome State Fault Refusal := runCore (easel opTwinLeave twinLeaveBody p) s

/-- TWIN_PERSIST_DECLARE (R486): Easel 0x0D05 declares a persistent Brush region. -/
def execTwinPersistDeclare (p : Packet) (s : State) : Host.Outcome State Fault Refusal :=
  runCore (easel opTwinPersist twinPersistBody p) s

/-- TWIN_RESYNC (R497): Easel 0x0D06 requests a full resync. -/
def execTwinResync (p : Packet) (s : State) : Host.Outcome State Fault Refusal :=
  runCore (easel opTwinResync twinResyncBody p) s

end Sys2Proof.Machine
end

