-- ==== Sys2Proof/Machine/CmdUpdate.lean ====
section
/-! DEFINITION. The meanings of the commands of firmware delivery (chapter 19), one for each. -/

namespace Sys2Proof.Machine

/-- UPDATE_STATUS_GET (R512): Easel 0x0C00 returns update status, slots and versions. -/
def execUpdateStatusGet (p : Packet) (s : State) : Host.Outcome State Fault Refusal :=
  runCore (easel opUpdateStatus updateStatusBody p) s

/-- UPDATE_BEGIN (R501): Easel 0x0C01 opens a host image reception. -/
def execUpdateBegin (p : Packet) (s : State) : Host.Outcome State Fault Refusal :=
  runCore (easel opUpdateBegin updateBeginBody p) s

/-- UPDATE_DATA (R501): Easel 0x0C02 appends image bytes. -/
def execUpdateData (p : Packet) (s : State) : Host.Outcome State Fault Refusal :=
  runCore (easel opUpdateData updateDataBody p) s

/-- UPDATE_END (R501): Easel 0x0C03 closes the reception and starts verification. -/
def execUpdateEnd (p : Packet) (s : State) : Host.Outcome State Fault Refusal := runCore (easel opUpdateEnd updateEndBody p) s

/-- UPDATE_DISCARD (R512): Easel 0x0C04 discards a slot or the winner. -/
def execUpdateDiscard (p : Packet) (s : State) : Host.Outcome State Fault Refusal :=
  runCore (easel opUpdateDiscard updateDiscardBody p) s

/-- UPDATE_PEERS_SET (R503): Easel 0x0C05 configures the chain neighbours. -/
def execUpdatePeersSet (p : Packet) (s : State) : Host.Outcome State Fault Refusal :=
  runCore (easel opUpdatePeers updatePeersBody p) s

/-- UPDATE_ACTIVATE (R506): Easel 0x0C06 schedules activation of an image at PTP time T. -/
def execUpdateActivate (p : Packet) (s : State) : Host.Outcome State Fault Refusal :=
  runCore (easel opUpdateActivate updateActivateBody p) s

/-- UPDATE_CANCEL (R506): Easel 0x0C07 cancels a scheduled activation. -/
def execUpdateCancel (p : Packet) (s : State) : Host.Outcome State Fault Refusal :=
  runCore (easel opUpdateCancel updateCancelBody p) s

/-- UPDATE_PEER_STATUS_GET (R512): Easel 0x0C08 returns the peers' progress. -/
def execUpdatePeerStatusGet (p : Packet) (s : State) : Host.Outcome State Fault Refusal :=
  runCore (easel opUpdatePeerStatus updatePeerStatusBody p) s

/-- UPDATE_SVN_RAISE (R507): Easel 0x0C09 raises the fused minimum SVN. -/
def execUpdateSvnRaise (p : Packet) (s : State) : Host.Outcome State Fault Refusal :=
  runCore (easel opUpdateSvnRaise updateSvnRaiseBody p) s

/-- UPDATE_OFFER_RECEIVE (R504): An OFFER from the upstream neighbour is accepted, refused or answered as a duplicate. -/
def execUpdateOfferReceive (f : UpFrame) (s : State) : Host.Outcome State Fault Refusal := runCore (updateOfferReceive f) s

/-- UPDATE_DATA_RECEIVE (R504): A DATA frame of the image is stored and acknowledged. -/
def execUpdateDataReceive (f : UpFrame) (s : State) : Host.Outcome State Fault Refusal := runCore (updateDataReceive f) s

/-- UPDATE_ACK_RECEIVE (R504): An ACK advances the sender's window. -/
def execUpdateAckReceive (f : UpFrame) (s : State) : Host.Outcome State Fault Refusal := runCore (updateAckReceive f) s

/-- UPDATE_REFUSE_RECEIVE (R505): A REFUSE marks the peer REFUSED. -/
def execUpdateRefuseReceive (f : UpFrame) (s : State) : Host.Outcome State Fault Refusal := runCore (updateRefuseReceive f) s

/-- UPDATE_VERIFIED_RECEIVE (R505): A VERIFIED marks the peer VERIFIED. -/
def execUpdateVerifiedReceive (f : UpFrame) (s : State) : Host.Outcome State Fault Refusal :=
  runCore (updateVerifiedReceive f) s

/-- UPDATE_ACTIVATE_RECEIVE (R506): An ACTIVATE frame schedules activation and propagates downstream. -/
def execUpdateActivateReceive (f : UpFrame) (s : State) : Host.Outcome State Fault Refusal :=
  runCore (updateActivateReceive f) s

/-- UPDATE_CANCEL_RECEIVE (R506): A CANCEL frame undoes a schedule and propagates downstream. -/
def execUpdateCancelReceive (f : UpFrame) (s : State) : Host.Outcome State Fault Refusal := runCore (updateCancelReceive f) s

/-- UPDATE_RESULT_RECEIVE (R504): A RESULT reports a peer's verification or scheduling outcome. -/
def execUpdateResultReceive (f : UpFrame) (s : State) : Host.Outcome State Fault Refusal := runCore (updateResultReceive f) s

/-- ACK_STALL_RETRANSMIT (R504): An ACK has not advanced for 50 ms, so the sender resends from the acknowledged offset. -/
def execAckStallRetransmit (n : Nat) (s : State) : Host.Outcome State Fault Refusal := runCore (ackStallRetransmit n) s

/-- PEER_UNREACHABLE (R504): No ACK has arrived for 10 s, so the peer is UNREACHABLE. -/
def execPeerUnreachable (n : Nat) (s : State) : Host.Outcome State Fault Refusal := runCore (peerUnreachable n) s

/-- PEER_REOFFER (R505): After 60 s an unreachable or busy peer is offered the image again. -/
def execPeerReoffer (n : Nat) (s : State) : Host.Outcome State Fault Refusal := runCore (peerReoffer n) s

/-- IMAGE_VERIFY_DONE (R499): Image verification ends, making a winner or recording a CAUSE. -/
def execImageVerifyDone (env : ImageEnv) (s : State) : Host.Outcome State Fault Refusal := runCore (imageVerifyDone env) s

/-- UPDATE_RECEPTION_TIMEOUT (R501): A host reception without data for 60 s is discarded. -/
def execUpdateReceptionTimeout (k : Nat) (s : State) : Host.Outcome State Fault Refusal := runCore (updateReceptionTimeout k) s

/-- ACTIVATION_PRECHECK (R508): At T minus 1 s the transit copy is verified again. -/
def execActivationPrecheck (env : ImageEnv) (s : State) : Host.Outcome State Fault Refusal := runCore (activationPrecheck env) s

/-- ACTIVATION (R508): At T the control-plane restart begins and Gesso swaps the images. -/
def execActivation (s : State) : Host.Outcome State Fault Refusal := runReset activation s

/-- ACTIVATION_FALLBACK (R509): RESTART_END has not rung by T plus 1.5 s, so Gesso restores the previous image. -/
def execActivationFallback (s : State) : Host.Outcome State Fault Refusal := runCore activationFallback s

end Sys2Proof.Machine
end

