-- ==== Sys2Proof/Machine/Dispatch.lean ====
section
/-! DEFINITION. The command table: one arm for every row, each a direct call of its meaning. -/

namespace Sys2Proof.Machine

/-- What a command does to everything but the queue. -/
def exec (i : Instr) (s : State) : Host.Outcome State Fault Refusal :=
  match i with
  | .registerWrite m off v => Sys2Proof.Machine.execRegisterWrite m off v s
  | .readClear m off => Sys2Proof.Machine.execReadClear m off s
  | .snapshotRead m off => Sys2Proof.Machine.execSnapshotRead m off s
  | .gatedAccessClear m v => Sys2Proof.Machine.execGatedAccessClear m v s
  | .bar0DeniedClear m v => Sys2Proof.Machine.execBar0DeniedClear m v s
  | .noPathClear m v => Sys2Proof.Machine.execNoPathClear m v s
  | .blockBoundary env => Sys2Proof.Machine.execBlockBoundary env s
  | .vinRise => Sys2Proof.Machine.execVinRise s
  | .startThresholdMet vioSel => Sys2Proof.Machine.execStartThresholdMet vioSel s
  | .railsInRegulation boot p3 addr => Sys2Proof.Machine.execRailsInRegulation boot p3 addr s
  | .tcxoStartCheck => Sys2Proof.Machine.execTcxoStartCheck s
  | .bootStage primaryOk secondaryOk => Sys2Proof.Machine.execBootStage primaryOk secondaryOk s
  | .gessoStart => Sys2Proof.Machine.execGessoStart s
  | .dramTrainingDone lanes => Sys2Proof.Machine.execDramTrainingDone lanes s
  | .holdupCharged => Sys2Proof.Machine.execHoldupCharged s
  | .firmwareHandoff imageOk prevOk => Sys2Proof.Machine.execFirmwareHandoff imageOk prevOk s
  | .pcieEndpointReady => Sys2Proof.Machine.execPcieEndpointReady s
  | .startReady ms => Sys2Proof.Machine.execStartReady ms s
  | .mediaStart => Sys2Proof.Machine.execMediaStart s
  | .vinWarnSet => Sys2Proof.Machine.execVinWarnSet s
  | .vinWarnClear => Sys2Proof.Machine.execVinWarnClear s
  | .vinOff => Sys2Proof.Machine.execVinOff s
  | .resetNAssert => Sys2Proof.Machine.execResetNAssert s
  | .resetNRelease boot p3 addr => Sys2Proof.Machine.execResetNRelease boot p3 addr s
  | .wakeNFall => Sys2Proof.Machine.execWakeNFall s
  | .wakeAtReached => Sys2Proof.Machine.execWakeAtReached s
  | .pciePerstAssert => Sys2Proof.Machine.execPciePerstAssert s
  | .pciePerstRelease => Sys2Proof.Machine.execPciePerstRelease s
  | .pcieConfigRequest reg => Sys2Proof.Machine.execPcieConfigRequest reg s
  | .smbusReadByte addr code extra => Sys2Proof.Machine.execSmbusReadByte addr code extra s
  | .smbusReadWord addr code extra => Sys2Proof.Machine.execSmbusReadWord addr code extra s
  | .smbusWrite addr => Sys2Proof.Machine.execSmbusWrite addr s
  | .smbusAlertResponse => Sys2Proof.Machine.execSmbusAlertResponse s
  | .smbusRefresh vin pin => Sys2Proof.Machine.execSmbusRefresh vin pin s
  | .tempMeasure die board => Sys2Proof.Machine.execTempMeasure die board s
  | .muteAndHold => Sys2Proof.Machine.execMuteAndHold s
  | .thermalResume => Sys2Proof.Machine.execThermalResume s
  | .sfpModuleInsert p los id => Sys2Proof.Machine.execSfpModuleInsert p los id s
  | .sfpModuleRemove p => Sys2Proof.Machine.execSfpModuleRemove p s
  | .tcxoQualify confirmed => Sys2Proof.Machine.execTcxoQualify confirmed s
  | .refInLoss => Sys2Proof.Machine.execRefInLoss s
  | .refInMeasurement off => Sys2Proof.Machine.execRefInMeasurement off s
  | .refQualify => Sys2Proof.Machine.execRefQualify s
  | .dpllLock => Sys2Proof.Machine.execDpllLock s
  | .drefWrite m v => Sys2Proof.Machine.execDrefWrite m v s
  | .tcxoMonitorTrip => Sys2Proof.Machine.execTcxoMonitorTrip s
  | .corePllLoss => Sys2Proof.Machine.execCorePllLoss s
  | .serdesPllLoss port => Sys2Proof.Machine.execSerdesPllLoss port s
  | .hostClockLoss => Sys2Proof.Machine.execHostClockLoss s
  | .mediaMonitorTrip => Sys2Proof.Machine.execMediaMonitorTrip s
  | .aonMonitorTrip => Sys2Proof.Machine.execAonMonitorTrip s
  | .clkSwitchGo m v => Sys2Proof.Machine.execClkSwitchGo m v s
  | .mediaSwitchWrite m v => Sys2Proof.Machine.execMediaSwitchWrite m v s
  | .mediaSwitch => Sys2Proof.Machine.execMediaSwitch s
  | .clkEnWrite m k v => Sys2Proof.Machine.execClkEnWrite m k v s
  | .pdWakeDone pd => Sys2Proof.Machine.execPdWakeDone pd s
  | .clkoutCtrlWrite m n v => Sys2Proof.Machine.execClkoutCtrlWrite m n v s
  | .aonTrimGate err fsyncOk => Sys2Proof.Machine.execAonTrimGate err fsyncOk s
  | .ptpAnnounceReceive port domain l => Sys2Proof.Machine.execPtpAnnounceReceive port domain l s
  | .ptpSyncReceive port domain sender seq twoStep t1 corr t2 => Sys2Proof.Machine.execPtpSyncReceive port domain sender seq twoStep t1 corr t2 s
  | .ptpFollowUpReceive port domain sender seq t1 corr => Sys2Proof.Machine.execPtpFollowUpReceive port domain sender seq t1 corr s
  | .ptpDelayRespReceive port domain sender seq t4 corr interval => Sys2Proof.Machine.execPtpDelayRespReceive port domain sender seq t4 corr interval s
  | .ptpDelayReqSend port t3 => Sys2Proof.Machine.execPtpDelayReqSend port t3 s
  | .ptpDelayReqReceive port domain sender seq t4 => Sys2Proof.Machine.execPtpDelayReqReceive port domain sender seq t4 s
  | .ptpAnnounceSend port => Sys2Proof.Machine.execPtpAnnounceSend port s
  | .ptpSyncSend port t1 => Sys2Proof.Machine.execPtpSyncSend port t1 s
  | .announceReceiptTimeout port => Sys2Proof.Machine.execAnnounceReceiptTimeout port s
  | .syncTimeout => Sys2Proof.Machine.execSyncTimeout s
  | .servoLock => Sys2Proof.Machine.execServoLock s
  | .servoUnlock => Sys2Proof.Machine.execServoUnlock s
  | .stepAcceptSlew m v => Sys2Proof.Machine.execStepAcceptSlew m v s
  | .stepAcceptRealign m v => Sys2Proof.Machine.execStepAcceptRealign m v s
  | .realignment => Sys2Proof.Machine.execRealignment s
  | .timeConfig p => Sys2Proof.Machine.execTimeConfig p s
  | .timeStatusGet p => Sys2Proof.Machine.execTimeStatusGet p s
  | .timeStepAccept p => Sys2Proof.Machine.execTimeStepAccept p s
  | .timeSet p => Sys2Proof.Machine.execTimeSet p s
  | .pulseProgram p => Sys2Proof.Machine.execPulseProgram p s
  | .tsinRead p => Sys2Proof.Machine.execTsinRead p s
  | .pulseArm m n v => Sys2Proof.Machine.execPulseArm m n v s
  | .pulseStop m n v => Sys2Proof.Machine.execPulseStop m n v s
  | .pulseEdge n => Sys2Proof.Machine.execPulseEdge n s
  | .tsinCapture n rising off phase => Sys2Proof.Machine.execTsinCapture n rising off phase s
  | .tsinFifoPop m n => Sys2Proof.Machine.execTsinFifoPop m n s
  | .backupTimeCopy => Sys2Proof.Machine.execBackupTimeCopy s
  | .sysStateGet p => Sys2Proof.Machine.execSysStateGet p s
  | .sysStandby p => Sys2Proof.Machine.execSysStandby p s
  | .sysRestart p => Sys2Proof.Machine.execSysRestart p s
  | .funcReset p => Sys2Proof.Machine.execFuncReset p s
  | .wakeTolSet p => Sys2Proof.Machine.execWakeTolSet p s
  | .outputRelease p => Sys2Proof.Machine.execOutputRelease p s
  | .startConfigSet p => Sys2Proof.Machine.execStartConfigSet p s
  | .mediaRateSet p => Sys2Proof.Machine.execMediaRateSet p s
  | .outputReleaseGo m v => Sys2Proof.Machine.execOutputReleaseGo m v s
  | .resetCtrlRestart m v => Sys2Proof.Machine.execResetCtrlRestart m v s
  | .resetCtrlModuleReset m v => Sys2Proof.Machine.execResetCtrlModuleReset m v s
  | .moduleReset => Sys2Proof.Machine.execModuleReset s
  | .controlPlaneRestartEnd => Sys2Proof.Machine.execControlPlaneRestartEnd s
  | .funcResetGo m v => Sys2Proof.Machine.execFuncResetGo m v s
  | .funcResetDone ok => Sys2Proof.Machine.execFuncResetDone ok s
  | .standbyRunGo m v => Sys2Proof.Machine.execStandbyRunGo m v s
  | .standbyQuietGo m v => Sys2Proof.Machine.execStandbyQuietGo m v s
  | .standbyDeepGo m v => Sys2Proof.Machine.execStandbyDeepGo m v s
  | .quietStandbyEntry => Sys2Proof.Machine.execQuietStandbyEntry s
  | .quietStandbyExit => Sys2Proof.Machine.execQuietStandbyExit s
  | .deepStandbyEntry => Sys2Proof.Machine.execDeepStandbyEntry s
  | .ipv4FragmentReceive src ident offset bytes more => Sys2Proof.Machine.execIpv4FragmentReceive src ident offset bytes more s
  | .ipReassemblyTimeout src ident => Sys2Proof.Machine.execIpReassemblyTimeout src ident s
  | .hostCmdProdWrite m v bytes => Sys2Proof.Machine.execHostCmdProdWrite m v bytes s
  | .replyRingConsume m v => Sys2Proof.Machine.execReplyRingConsume m v s
  | .udpSessionTimeout num => Sys2Proof.Machine.execUdpSessionTimeout num s
  | .sessionOpen p => Sys2Proof.Machine.execSessionOpen p s
  | .sessionClose p => Sys2Proof.Machine.execSessionClose p s
  | .ping p => Sys2Proof.Machine.execPing p s
  | .eventSubscribe p => Sys2Proof.Machine.execEventSubscribe p s
  | .sessionLevel p => Sys2Proof.Machine.execSessionLevel p s
  | .timedCancel p => Sys2Proof.Machine.execTimedCancel p s
  | .timedCommit => Sys2Proof.Machine.execTimedCommit s
  | .timedExecute => Sys2Proof.Machine.execTimedExecute s
  | .mbxH2fWrite m n v => Sys2Proof.Machine.execMbxH2fWrite m n v s
  | .mbxF2hAck m n v => Sys2Proof.Machine.execMbxF2hAck m n v s
  | .mbxCommandTake n => Sys2Proof.Machine.execMbxCommandTake n s
  | .mbxEventPost n k => Sys2Proof.Machine.execMbxEventPost n k s
  | .mbxStall n => Sys2Proof.Machine.execMbxStall n s
  | .dbMaskWrite m v => Sys2Proof.Machine.execDbMaskWrite m v s
  | .holdAcquire m n => Sys2Proof.Machine.execHoldAcquire m n s
  | .holdRelease m n v => Sys2Proof.Machine.execHoldRelease m n v s
  | .bar2BaseWrite m v => Sys2Proof.Machine.execBar2BaseWrite m v s
  | .bar2Access y write bytes n => Sys2Proof.Machine.execBar2Access y write bytes n s
  | .objectDefine p => Sys2Proof.Machine.execObjectDefine p s
  | .objectGet p => Sys2Proof.Machine.execObjectGet p s
  | .objectDisableAll p => Sys2Proof.Machine.execObjectDisableAll p s
  | .positionStream p => Sys2Proof.Machine.execPositionStream p s
  | .objectStateGet p => Sys2Proof.Machine.execObjectStateGet p s
  | .positionBucketRefill => Sys2Proof.Machine.execPositionBucketRefill s
  | .layoutBegin p => Sys2Proof.Machine.execLayoutBegin p s
  | .speakerDefine p => Sys2Proof.Machine.execSpeakerDefine p s
  | .zoneDefine p => Sys2Proof.Machine.execZoneDefine p s
  | .layoutTempRange p => Sys2Proof.Machine.execLayoutTempRange p s
  | .layoutCommit p => Sys2Proof.Machine.execLayoutCommit p s
  | .layoutCommitDone => Sys2Proof.Machine.execLayoutCommitDone s
  | .layoutAdmissionGet p => Sys2Proof.Machine.execLayoutAdmissionGet p s
  | .speakerGet p => Sys2Proof.Machine.execSpeakerGet p s
  | .soundSpeedSet p => Sys2Proof.Machine.execSoundSpeedSet p s
  | .soundSpeedGet p => Sys2Proof.Machine.execSoundSpeedGet p s
  | .caliperSnapshot => Sys2Proof.Machine.execCaliperSnapshot s
  | .targetHandover => Sys2Proof.Machine.execTargetHandover s
  | .paletteStatusGet p => Sys2Proof.Machine.execPaletteStatusGet p s
  | .paletteSwap p => Sys2Proof.Machine.execPaletteSwap p s
  | .swapPrepare => Sys2Proof.Machine.execSwapPrepare s
  | .paletteSwapExecute => Sys2Proof.Machine.execPaletteSwapExecute s
  | .glazeEnd => Sys2Proof.Machine.execGlazeEnd s
  | .maquetteSet p => Sys2Proof.Machine.execMaquetteSet p s
  | .caliperConfig p => Sys2Proof.Machine.execCaliperConfig p s
  | .caliperCountersGet p => Sys2Proof.Machine.execCaliperCountersGet p s
  | .farWindowArrive engine index => Sys2Proof.Machine.execFarWindowArrive engine index s
  | .farWindowLate engine index => Sys2Proof.Machine.execFarWindowLate engine index s
  | .renderSumsComplete => Sys2Proof.Machine.execRenderSumsComplete s
  | .renderOverrun engine done => Sys2Proof.Machine.execRenderOverrun engine done s
  | .renderSpareSwap => Sys2Proof.Machine.execRenderSpareSwap s
  | .renderStatusGet p => Sys2Proof.Machine.execRenderStatusGet p s
  | .contribRead p => Sys2Proof.Machine.execContribRead p s
  | .contribFind p => Sys2Proof.Machine.execContribFind p s
  | .expertObjectSet p => Sys2Proof.Machine.execExpertObjectSet p s
  | .contribWrite p => Sys2Proof.Machine.execContribWrite p s
  | .nearRead p => Sys2Proof.Machine.execNearRead p s
  | .renderCountersGet p => Sys2Proof.Machine.execRenderCountersGet p s
  | .clipCountsGet p => Sys2Proof.Machine.execClipCountsGet p s
  | .renderUncorrClear m v => Sys2Proof.Machine.execRenderUncorrClear m v s
  | .sceneBusDefine p => Sys2Proof.Machine.execSceneBusDefine p s
  | .sceneBusGet p => Sys2Proof.Machine.execSceneBusGet p s
  | .bedDefine p => Sys2Proof.Machine.execBedDefine p s
  | .bedGet p => Sys2Proof.Machine.execBedGet p s
  | .binauralSet p => Sys2Proof.Machine.execBinauralSet p s
  | .binauralChange p => Sys2Proof.Machine.execBinauralChange p s
  | .binauralGet p => Sys2Proof.Machine.execBinauralGet p s
  | .downmixSet p => Sys2Proof.Machine.execDownmixSet p s
  | .downmixChange m => Sys2Proof.Machine.execDownmixChange m s
  | .downmixGet p => Sys2Proof.Machine.execDownmixGet p s
  | .loudnessConfig p => Sys2Proof.Machine.execLoudnessConfig p s
  | .loudnessGet p => Sys2Proof.Machine.execLoudnessGet p s
  | .loudnessReset p => Sys2Proof.Machine.execLoudnessReset p s
  | .loudnessGatingBlock q => Sys2Proof.Machine.execLoudnessGatingBlock q s
  | .firTailFrame o => Sys2Proof.Machine.execFirTailFrame o s
  | .tailOverrun o => Sys2Proof.Machine.execTailOverrun o s
  | .outchainBegin p => Sys2Proof.Machine.execOutchainBegin p s
  | .outchainSet p => Sys2Proof.Machine.execOutchainSet p s
  | .biquadSet p => Sys2Proof.Machine.execBiquadSet p s
  | .firSet p => Sys2Proof.Machine.execFirSet p s
  | .varnishSet p => Sys2Proof.Machine.execVarnishSet p s
  | .outchainCommit p => Sys2Proof.Machine.execOutchainCommit p s
  | .outchainCommitDone => Sys2Proof.Machine.execOutchainCommitDone s
  | .outchainGet p => Sys2Proof.Machine.execOutchainGet p s
  | .outputMute p => Sys2Proof.Machine.execOutputMute p s
  | .muteApply o => Sys2Proof.Machine.execMuteApply o s
  | .muteFadeEnd o => Sys2Proof.Machine.execMuteFadeEnd o s
  | .outchainMetersGet p => Sys2Proof.Machine.execOutchainMetersGet p s
  | .lastClipClear m v => Sys2Proof.Machine.execLastClipClear m v s
  | .surveyStatusGet p => Sys2Proof.Machine.execSurveyStatusGet p s
  | .measureStart p => Sys2Proof.Machine.execMeasureStart p s
  | .measureBegin => Sys2Proof.Machine.execMeasureBegin s
  | .measureTurnEnd => Sys2Proof.Machine.execMeasureTurnEnd s
  | .turnResultsDone => Sys2Proof.Machine.execTurnResultsDone s
  | .measureComplete => Sys2Proof.Machine.execMeasureComplete s
  | .measureAbort p => Sys2Proof.Machine.execMeasureAbort p s
  | .resultGet p => Sys2Proof.Machine.execResultGet p s
  | .resultBandsGet p => Sys2Proof.Machine.execResultBandsGet p s
  | .resultStore p => Sys2Proof.Machine.execResultStore p s
  | .resultStoreDone => Sys2Proof.Machine.execResultStoreDone s
  | .design p => Sys2Proof.Machine.execDesign p s
  | .designDone => Sys2Proof.Machine.execDesignDone s
  | .liveConfig p => Sys2Proof.Machine.execLiveConfig p s
  | .liveOutputSet p => Sys2Proof.Machine.execLiveOutputSet p s
  | .liveTimingSet p => Sys2Proof.Machine.execLiveTimingSet p s
  | .livePolicySet p => Sys2Proof.Machine.execLivePolicySet p s
  | .liveRebase p => Sys2Proof.Machine.execLiveRebase p s
  | .proposalGet p => Sys2Proof.Machine.execProposalGet p s
  | .proposalApply p => Sys2Proof.Machine.execProposalApply p s
  | .proposalDiscard p => Sys2Proof.Machine.execProposalDiscard p s
  | .surveyWindowEnd => Sys2Proof.Machine.execSurveyWindowEnd s
  | .proposalCommitDone => Sys2Proof.Machine.execProposalCommitDone s
  | .proposalExpire => Sys2Proof.Machine.execProposalExpire s
  | .surveyLogFlush => Sys2Proof.Machine.execSurveyLogFlush s
  | .surveyLogRead p => Sys2Proof.Machine.execSurveyLogRead p s
  | .surveyLogInfo p => Sys2Proof.Machine.execSurveyLogInfo p s
  | .detectorGet p => Sys2Proof.Machine.execDetectorGet p s
  | .detectorConfig p => Sys2Proof.Machine.execDetectorConfig p s
  | .detectorRmsWindow n => Sys2Proof.Machine.execDetectorRmsWindow n s
  | .pdmConfig p => Sys2Proof.Machine.execPdmConfig p s
  | .pdmFirLoad p => Sys2Proof.Machine.execPdmFirLoad p s
  | .pdmHoldEnd n => Sys2Proof.Machine.execPdmHoldEnd n s
  | .pdmStuck n => Sys2Proof.Machine.execPdmStuck n s
  | .portConfig p => Sys2Proof.Machine.execPortConfig p s
  | .portStatusGet p => Sys2Proof.Machine.execPortStatusGet p s
  | .tdmFrame p j edge gapless phase ws => Sys2Proof.Machine.execTdmFrame p j edge gapless phase ws s
  | .tdmLeaderFrame p j ws => Sys2Proof.Machine.execTdmLeaderFrame p j ws s
  | .tdmLoss p j => Sys2Proof.Machine.execTdmLoss p j s
  | .tdmRateRun p j cycles => Sys2Proof.Machine.execTdmRateRun p j cycles s
  | .tdmResume p => Sys2Proof.Machine.execTdmResume p s
  | .nonpcmHoldExpire num => Sys2Proof.Machine.execNonpcmHoldExpire num s
  | .nonpcmRecordClear m v => Sys2Proof.Machine.execNonpcmRecordClear m v s
  | .directPathWord n j raw => Sys2Proof.Machine.execDirectPathWord n j raw s
  | .routeBegin p => Sys2Proof.Machine.execRouteBegin p s
  | .routeSet p => Sys2Proof.Machine.execRouteSet p s
  | .routeCommit p => Sys2Proof.Machine.execRouteCommit p s
  | .routeCommitDone => Sys2Proof.Machine.execRouteCommitDone s
  | .routeGet p => Sys2Proof.Machine.execRouteGet p s
  | .routeNow p => Sys2Proof.Machine.execRouteNow p s
  | .directGainSet p => Sys2Proof.Machine.execDirectGainSet p s
  | .directGainChange n => Sys2Proof.Machine.execDirectGainChange n s
  | .directGet p => Sys2Proof.Machine.execDirectGet p s
  | .groupSet p => Sys2Proof.Machine.execGroupSet p s
  | .groupChange g => Sys2Proof.Machine.execGroupChange g s
  | .meterGet p => Sys2Proof.Machine.execMeterGet p s
  | .meterConfig p => Sys2Proof.Machine.execMeterConfig p s
  | .meterHoldReset p => Sys2Proof.Machine.execMeterHoldReset p s
  | .meterHoldExpire num which => Sys2Proof.Machine.execMeterHoldExpire num which s
  | .nonpcmGet p => Sys2Proof.Machine.execNonpcmGet p s
  | .linkUp p => Sys2Proof.Machine.execLinkUp p s
  | .linkDown p => Sys2Proof.Machine.execLinkDown p s
  | .ethernetFrameReceive p len fcs before bytes => Sys2Proof.Machine.execEthernetFrameReceive p len fcs before bytes s
  | .pauseRepeat p => Sys2Proof.Machine.execPauseRepeat p s
  | .pauseFrameReceive p quanta => Sys2Proof.Machine.execPauseFrameReceive p quanta s
  | .arpRequestReceive p ip => Sys2Proof.Machine.execArpRequestReceive p ip s
  | .arpReplyReceive p ip mac => Sys2Proof.Machine.execArpReplyReceive p ip mac s
  | .arpRefresh p => Sys2Proof.Machine.execArpRefresh p s
  | .icmpEchoReceive p dst data => Sys2Proof.Machine.execIcmpEchoReceive p dst data s
  | .igmpQueryReceive p => Sys2Proof.Machine.execIgmpQueryReceive p s
  | .rtpPacketReceive p x j => Sys2Proof.Machine.execRtpPacketReceive p x j s
  | .streamLegLoss num leg => Sys2Proof.Machine.execStreamLegLoss num leg s
  | .marginSpanEnd num => Sys2Proof.Machine.execMarginSpanEnd num s
  | .streamPacketQueue num => Sys2Proof.Machine.execStreamPacketQueue num s
  | .frameTransmit p => Sys2Proof.Machine.execFrameTransmit p s
  | .gateGo p m v => Sys2Proof.Machine.execGateGo p m v s
  | .gateChangeTime p => Sys2Proof.Machine.execGateChangeTime p s
  | .gateCycleStart p => Sys2Proof.Machine.execGateCycleStart p s
  | .streamDefinitionApply rx num => Sys2Proof.Machine.execStreamDefinitionApply rx num s
  | .maxFrameWrite p m v => Sys2Proof.Machine.execMaxFrameWrite p m v s
  | .netCtrlWrite p m v => Sys2Proof.Machine.execNetCtrlWrite p m v s
  | .netConfig p => Sys2Proof.Machine.execNetConfig p s
  | .netStatusGet p => Sys2Proof.Machine.execNetStatusGet p s
  | .netPauseSet p => Sys2Proof.Machine.execNetPauseSet p s
  | .netGateSet p => Sys2Proof.Machine.execNetGateSet p s
  | .netGateGet p => Sys2Proof.Machine.execNetGateGet p s
  | .streamRxSet p => Sys2Proof.Machine.execStreamRxSet p s
  | .streamRxGet p => Sys2Proof.Machine.execStreamRxGet p s
  | .streamTxSet p => Sys2Proof.Machine.execStreamTxSet p s
  | .streamTxGet p => Sys2Proof.Machine.execStreamTxGet p s
  | .streamStatsGet p => Sys2Proof.Machine.execStreamStatsGet p s
  | .bcNop k => Sys2Proof.Machine.execBcNop k s
  | .bcMac k => Sys2Proof.Machine.execBcMac k s
  | .bcMsu k => Sys2Proof.Machine.execBcMsu k s
  | .bcMpy k => Sys2Proof.Machine.execBcMpy k s
  | .bcClr k => Sys2Proof.Machine.execBcClr k s
  | .bcAdda k => Sys2Proof.Machine.execBcAdda k s
  | .bcSuba k => Sys2Proof.Machine.execBcSuba k s
  | .bcRnd k => Sys2Proof.Machine.execBcRnd k s
  | .bcTrn k => Sys2Proof.Machine.execBcTrn k s
  | .bcHsum k => Sys2Proof.Machine.execBcHsum k s
  | .bcAccmov k => Sys2Proof.Machine.execBcAccmov k s
  | .bcVadd k => Sys2Proof.Machine.execBcVadd k s
  | .bcVsub k => Sys2Proof.Machine.execBcVsub k s
  | .bcVand k => Sys2Proof.Machine.execBcVand k s
  | .bcVor k => Sys2Proof.Machine.execBcVor k s
  | .bcVxor k => Sys2Proof.Machine.execBcVxor k s
  | .bcVneg k => Sys2Proof.Machine.execBcVneg k s
  | .bcVabs k => Sys2Proof.Machine.execBcVabs k s
  | .bcVmax k => Sys2Proof.Machine.execBcVmax k s
  | .bcVmin k => Sys2Proof.Machine.execBcVmin k s
  | .bcVasr k => Sys2Proof.Machine.execBcVasr k s
  | .bcVasrr k => Sys2Proof.Machine.execBcVasrr k s
  | .bcVshl k => Sys2Proof.Machine.execBcVshl k s
  | .bcVmov k => Sys2Proof.Machine.execBcVmov k s
  | .bcVrot k => Sys2Proof.Machine.execBcVrot k s
  | .bcLdi k => Sys2Proof.Machine.execBcLdi k s
  | .bcMov k => Sys2Proof.Machine.execBcMov k s
  | .bcAdd k => Sys2Proof.Machine.execBcAdd k s
  | .bcSub k => Sys2Proof.Machine.execBcSub k s
  | .bcAnd k => Sys2Proof.Machine.execBcAnd k s
  | .bcOr k => Sys2Proof.Machine.execBcOr k s
  | .bcXor k => Sys2Proof.Machine.execBcXor k s
  | .bcShl k => Sys2Proof.Machine.execBcShl k s
  | .bcShr k => Sys2Proof.Machine.execBcShr k s
  | .bcAsr k => Sys2Proof.Machine.execBcAsr k s
  | .bcCmp k => Sys2Proof.Machine.execBcCmp k s
  | .bcMul k => Sys2Proof.Machine.execBcMul k s
  | .bcLds k => Sys2Proof.Machine.execBcLds k s
  | .bcSts k => Sys2Proof.Machine.execBcSts k s
  | .bcLdc k => Sys2Proof.Machine.execBcLdc k s
  | .bcStc k => Sys2Proof.Machine.execBcStc k s
  | .bcXget k => Sys2Proof.Machine.execBcXget k s
  | .bcXput k => Sys2Proof.Machine.execBcXput k s
  | .bcAccget k => Sys2Proof.Machine.execBcAccget k s
  | .bcAccput k => Sys2Proof.Machine.execBcAccput k s
  | .bcBra k => Sys2Proof.Machine.execBcBra k s
  | .bcJsr k => Sys2Proof.Machine.execBcJsr k s
  | .bcRet k => Sys2Proof.Machine.execBcRet k s
  | .bcRep k => Sys2Proof.Machine.execBcRep k s
  | .bcDo k => Sys2Proof.Machine.execBcDo k s
  | .bcPoll k => Sys2Proof.Machine.execBcPoll k s
  | .bcWait k n => Sys2Proof.Machine.execBcWait k n s
  | .bcDone k => Sys2Proof.Machine.execBcDone k s
  | .bcRti k => Sys2Proof.Machine.execBcRti k s
  | .bcTrap k => Sys2Proof.Machine.execBcTrap k s
  | .bcHalt k => Sys2Proof.Machine.execBcHalt k s
  | .bcSync k n => Sys2Proof.Machine.execBcSync k n s
  | .bcFtap k => Sys2Proof.Machine.execBcFtap k s
  | .brushCoreGo m k v => Sys2Proof.Machine.execBrushCoreGo m k v s
  | .brushCoreCtrlStop m k v => Sys2Proof.Machine.execBrushCoreCtrlStop m k v s
  | .xferGo k n v => Sys2Proof.Machine.execXferGo k n v s
  | .xferComplete k n => Sys2Proof.Machine.execXferComplete k n s
  | .brushMbxOutWrite k v => Sys2Proof.Machine.execBrushMbxOutWrite k v s
  | .brushMbxAck k v => Sys2Proof.Machine.execBrushMbxAck k v s
  | .brushWindowWrite m k space w v => Sys2Proof.Machine.execBrushWindowWrite m k space w v s
  | .brushStatusGet p => Sys2Proof.Machine.execBrushStatusGet p s
  | .brushAlloc p => Sys2Proof.Machine.execBrushAlloc p s
  | .brushFree p => Sys2Proof.Machine.execBrushFree p s
  | .brushLoad p => Sys2Proof.Machine.execBrushLoad p s
  | .brushRead p => Sys2Proof.Machine.execBrushRead p s
  | .brushStart p => Sys2Proof.Machine.execBrushStart p s
  | .brushStop p => Sys2Proof.Machine.execBrushStop p s
  | .brushBufferSet p => Sys2Proof.Machine.execBrushBufferSet p s
  | .paramDeclare p => Sys2Proof.Machine.execParamDeclare p s
  | .paramBegin p => Sys2Proof.Machine.execParamBegin p s
  | .paramSet p => Sys2Proof.Machine.execParamSet p s
  | .paramCommit p => Sys2Proof.Machine.execParamCommit p s
  | .paramGet p => Sys2Proof.Machine.execParamGet p s
  | .brushMbxPost p => Sys2Proof.Machine.execBrushMbxPost p s
  | .brushMbxRead p => Sys2Proof.Machine.execBrushMbxRead p s
  | .migrationCopy g => Sys2Proof.Machine.execMigrationCopy g s
  | .migrationSwap g => Sys2Proof.Machine.execMigrationSwap g s
  | .migrationCold g => Sys2Proof.Machine.execMigrationCold g s
  | .atelierPost port m v => Sys2Proof.Machine.execAtelierPost port m v s
  | .atelierTick j => Sys2Proof.Machine.execAtelierTick j s
  | .atelierDispatch => Sys2Proof.Machine.execAtelierDispatch s
  | .atelierCancel port v => Sys2Proof.Machine.execAtelierCancel port v s
  | .atelierDonePop port => Sys2Proof.Machine.execAtelierDonePop port s
  | .fabricHeldIssue m => Sys2Proof.Machine.execFabricHeldIssue m s
  | .dramRead m id addr len outPort outTarget outAll other => Sys2Proof.Machine.execDramRead m id addr len outPort outTarget outAll other s
  | .dramWrite m id addr bytes outPort outTarget outAll other => Sys2Proof.Machine.execDramWrite m id addr bytes outPort outTarget outAll other s
  | .dramRefresh ch bank => Sys2Proof.Machine.execDramRefresh ch bank s
  | .dramWckTrack wanted => Sys2Proof.Machine.execDramWckTrack wanted s
  | .dramScrubRead errs => Sys2Proof.Machine.execDramScrubRead errs s
  | .dramRemapStart ch e row bank spare => Sys2Proof.Machine.execDramRemapStart ch e row bank spare s
  | .dramRemapCopyDone ch e => Sys2Proof.Machine.execDramRemapCopyDone ch e s
  | .dramRemapActivate ch e => Sys2Proof.Machine.execDramRemapActivate ch e s
  | .memcUncorrClear m v => Sys2Proof.Machine.execMemcUncorrClear m v s
  | .flashPageRead unit bits owner => Sys2Proof.Machine.execFlashPageRead unit bits owner s
  | .flashProgram unit => Sys2Proof.Machine.execFlashProgram unit s
  | .flashErase unit => Sys2Proof.Machine.execFlashErase unit s
  | .flashOpComplete die ok => Sys2Proof.Machine.execFlashOpComplete die ok s
  | .flashScrubPass unit pages bits most bad owner => Sys2Proof.Machine.execFlashScrubPass unit pages bits most bad owner s
  | .flashWearLevel tlc => Sys2Proof.Machine.execFlashWearLevel tlc s
  | .flashRelocate unit verified => Sys2Proof.Machine.execFlashRelocate unit verified s
  | .flashRetentionAgeTick => Sys2Proof.Machine.execFlashRetentionAgeTick s
  | .storageStatusGet p => Sys2Proof.Machine.execStorageStatusGet p s
  | .libList p => Sys2Proof.Machine.execLibList p s
  | .libWriteBegin p => Sys2Proof.Machine.execLibWriteBegin p s
  | .libWriteData p => Sys2Proof.Machine.execLibWriteData p s
  | .libWriteCommit p => Sys2Proof.Machine.execLibWriteCommit p s
  | .libCommitDone session => Sys2Proof.Machine.execLibCommitDone session s
  | .libWriteTimeout session => Sys2Proof.Machine.execLibWriteTimeout session s
  | .libRead p => Sys2Proof.Machine.execLibRead p s
  | .libDelete p => Sys2Proof.Machine.execLibDelete p s
  | .libWriteAbort p => Sys2Proof.Machine.execLibWriteAbort p s
  | .crcScan p => Sys2Proof.Machine.execCrcScan p s
  | .crcScanGo m k v => Sys2Proof.Machine.execCrcScanGo m k v s
  | .crcScanDone k => Sys2Proof.Machine.execCrcScanDone k s
  | .memConfigSet p => Sys2Proof.Machine.execMemConfigSet p s
  | .flashConfigSet p => Sys2Proof.Machine.execFlashConfigSet p s
  | .flashUnitGet p => Sys2Proof.Machine.execFlashUnitGet p s
  | .tetherMirrorReceive f => Sys2Proof.Machine.execTetherMirrorReceive f s
  | .mirrorSetApply items => Sys2Proof.Machine.execMirrorSetApply items s
  | .tetherAckReceive f => Sys2Proof.Machine.execTetherAckReceive f s
  | .tetherResyncReqReceive f => Sys2Proof.Machine.execTetherResyncReqReceive f s
  | .tetherResyncDataReceive f part => Sys2Proof.Machine.execTetherResyncDataReceive f part s
  | .resyncComplete version => Sys2Proof.Machine.execResyncComplete version s
  | .tetherSwitchReceive f g => Sys2Proof.Machine.execTetherSwitchReceive f g s
  | .tetherRelinquishReceive f => Sys2Proof.Machine.execTetherRelinquishReceive f s
  | .tetherPairReceive f primary => Sys2Proof.Machine.execTetherPairReceive f primary s
  | .pairingTimeout => Sys2Proof.Machine.execPairingTimeout s
  | .witnessDecision => Sys2Proof.Machine.execWitnessDecision s
  | .takeover => Sys2Proof.Machine.execTakeover s
  | .switchoverPrepare => Sys2Proof.Machine.execSwitchoverPrepare s
  | .switchover => Sys2Proof.Machine.execSwitchover s
  | .switchoverGlazeEnd => Sys2Proof.Machine.execSwitchoverGlazeEnd s
  | .twinStatusGet p => Sys2Proof.Machine.execTwinStatusGet p s
  | .twinConfig p => Sys2Proof.Machine.execTwinConfig p s
  | .twinSwitchover p => Sys2Proof.Machine.execTwinSwitchover p s
  | .twinForce p => Sys2Proof.Machine.execTwinForce p s
  | .twinLeave p => Sys2Proof.Machine.execTwinLeave p s
  | .twinPersistDeclare p => Sys2Proof.Machine.execTwinPersistDeclare p s
  | .twinResync p => Sys2Proof.Machine.execTwinResync p s
  | .updateStatusGet p => Sys2Proof.Machine.execUpdateStatusGet p s
  | .updateBegin p => Sys2Proof.Machine.execUpdateBegin p s
  | .updateData p => Sys2Proof.Machine.execUpdateData p s
  | .updateEnd p => Sys2Proof.Machine.execUpdateEnd p s
  | .updateDiscard p => Sys2Proof.Machine.execUpdateDiscard p s
  | .updatePeersSet p => Sys2Proof.Machine.execUpdatePeersSet p s
  | .updateActivate p => Sys2Proof.Machine.execUpdateActivate p s
  | .updateCancel p => Sys2Proof.Machine.execUpdateCancel p s
  | .updatePeerStatusGet p => Sys2Proof.Machine.execUpdatePeerStatusGet p s
  | .updateSvnRaise p => Sys2Proof.Machine.execUpdateSvnRaise p s
  | .updateOfferReceive f => Sys2Proof.Machine.execUpdateOfferReceive f s
  | .updateDataReceive f => Sys2Proof.Machine.execUpdateDataReceive f s
  | .updateAckReceive f => Sys2Proof.Machine.execUpdateAckReceive f s
  | .updateRefuseReceive f => Sys2Proof.Machine.execUpdateRefuseReceive f s
  | .updateVerifiedReceive f => Sys2Proof.Machine.execUpdateVerifiedReceive f s
  | .updateActivateReceive f => Sys2Proof.Machine.execUpdateActivateReceive f s
  | .updateCancelReceive f => Sys2Proof.Machine.execUpdateCancelReceive f s
  | .updateResultReceive f => Sys2Proof.Machine.execUpdateResultReceive f s
  | .ackStallRetransmit n => Sys2Proof.Machine.execAckStallRetransmit n s
  | .peerUnreachable n => Sys2Proof.Machine.execPeerUnreachable n s
  | .peerReoffer n => Sys2Proof.Machine.execPeerReoffer n s
  | .imageVerifyDone env => Sys2Proof.Machine.execImageVerifyDone env s
  | .updateReceptionTimeout k => Sys2Proof.Machine.execUpdateReceptionTimeout k s
  | .activationPrecheck env => Sys2Proof.Machine.execActivationPrecheck env s
  | .activation => Sys2Proof.Machine.execActivation s
  | .activationFallback => Sys2Proof.Machine.execActivationFallback s
  | .patrolStart num => Sys2Proof.Machine.execPatrolStart num s
  | .nearRowSpare bank row => Sys2Proof.Machine.execNearRowSpare bank row s
  | .nearRowSwitch bank row => Sys2Proof.Machine.execNearRowSwitch bank row s
  | .eyeMarginMeasure j h v => Sys2Proof.Machine.execEyeMarginMeasure j h v s
  | .functionStall code => Sys2Proof.Machine.execFunctionStall code s
  | .patinaLedgerFlush => Sys2Proof.Machine.execPatinaLedgerFlush s
  | .healthStatusGet p => Sys2Proof.Machine.execHealthStatusGet p s
  | .healthConfig p => Sys2Proof.Machine.execHealthConfig p s
  | .patinaRead p => Sys2Proof.Machine.execPatinaRead p s
  | .patinaInfo p => Sys2Proof.Machine.execPatinaInfo p s
  | .unitGet p => Sys2Proof.Machine.execUnitGet p s
  | .spareSwap p => Sys2Proof.Machine.execSpareSwap p s
  | .smudgeChallenge p => Sys2Proof.Machine.execSmudgeChallenge p s
  | .smudgeChallengeExpire => Sys2Proof.Machine.execSmudgeChallengeExpire s
  | .smudgeUnlock p => Sys2Proof.Machine.execSmudgeUnlock p s
  | .smudgeSet p => Sys2Proof.Machine.execSmudgeSet p s
  | .smudgeLock p => Sys2Proof.Machine.execSmudgeLock p s
  | .smudgeTimeout => Sys2Proof.Machine.execSmudgeTimeout s
  | .smudgeArmWrite m v => Sys2Proof.Machine.execSmudgeArmWrite m v s
  | .smudgeClockGo m v => Sys2Proof.Machine.execSmudgeClockGo m v s
  | .converterFault => Sys2Proof.Machine.execConverterFault s
  | .sfpLosChange p level => Sys2Proof.Machine.execSfpLosChange p level s
  | .pcieLinkTrained gen width => Sys2Proof.Machine.execPcieLinkTrained gen width s
  | .timeCtrlWrite m v => Sys2Proof.Machine.execTimeCtrlWrite m v s
  | .easelPacketRefused tr raw => Sys2Proof.Machine.execEaselPacketRefused tr raw s
  | .rxBufferFillLow p => Sys2Proof.Machine.execRxBufferFillLow p s
  | .pauseQuantaExpire p => Sys2Proof.Machine.execPauseQuantaExpire p s
  | .pdmTransitionsReturn n => Sys2Proof.Machine.execPdmTransitionsReturn n s
  | .paramCommitDone => Sys2Proof.Machine.execParamCommitDone s
  | .mr4TemperatureReport ch warm => Sys2Proof.Machine.execMr4TemperatureReport ch warm s

end Sys2Proof.Machine
end

