-- ==== Sys2Proof/Safety.lean ====
section
/-! DEFINITION. The terms in which claims speak of a run: a command that completes, a packet that is carried out, the reply that
its session is told, and states between commands. -/

namespace Sys2Proof.Machine

/-- The command answers a next state, of which `P` holds. -/
def Completes (i : Instr) (s : State) (P : State → Prop) : Prop := ∃ t, exec i s = .next t ∧ P t

/-- Between commands no trace record waits: each command sends those that it has caused (R443). -/
def State.quiet (s : State) : Bool := s.core.atl.trace.isEmpty

/-- The byte of DRAM at an address. -/
def State.dramByte (s : State) (a : Nat) : Byte := smGet (fun _ => 0) s.mem.dram a

/-- The byte of studio SRAM at a fabric address. -/
def State.sramByte (s : State) (a : Nat) : Byte := smGet (fun _ => 0) s.mem.sram a

/-! ### Register accesses -/

/-- A register offset answers a master: there is a path, a block stands at the offset and is not gated, and the offset is that
of a register. -/
def Core.reaches (c : Core) (m off : Nat) : Bool := regPath m off && windowAssigned off && !c.gated off && (regRow? off).isSome

/-- A write by a master reaches every field of a register. -/
def Core.serves (c : Core) (m off : Nat) : Bool := c.reaches m off && c.bar0All m off

/-- What a served write leaves by the access types of the fields, before the register carries anything out. -/
def Core.written (c : Core) (a : Access) (hold : Nat) : Core :=
  match regRow? a.off with
  | some r => c.writeTyped a.off a.value r true hold
  | none => c

/-! ### Brush instructions -/

/-- Core k, in RUN with nothing in flight, stands at an instruction. -/
def Core.atInstr (c : Core) (k : Nat) (i : BInstr) : Bool :=
  decide (k ≤ 67) && decide (c.bcState k = 3) && !c.power.engineStop && (c.bc k).writes.isEmpty &&
    decide (decodeBrush (c.instrAt k (c.bc k).pc) = some i)

/-- No word of data memory that is read is uncorrectable. -/
def Core.dmGood (c : Core) (k : Nat) (ws : List Nat) : Bool := ws.all fun w => decide (c.dmEcc k w ≠ 2)

/-- The same of a parallel instruction's memory slots. -/
def Core.slotsGood (c : Core) (k : Nat) (ma mb : Nat × Nat × Nat × Nat) : Bool :=
  c.dmGood k ((c.memSlot k ma).1 ++ (c.memSlot k mb).1)

/-- Whether a memory slot loads a vector register, stores, or uses a pointer (R404). -/
def loadsReg (m : Nat × Nat × Nat × Nat) (r : Nat) : Bool := (decide (m.1 = 1) || decide (m.1 = 2)) && decide (m.2.1 = r)
def storesDm (m : Nat × Nat × Nat × Nat) : Bool := decide (m.1 = 3) || decide (m.1 = 4)
def usesPtr (m : Nat × Nat × Nat × Nat) (i : Nat) : Bool := decide (m.1 ≠ 0) && decide (m.2.2.1 = i)

/-- SB′: the second operand, or one of its lanes in all four (R401, R403). -/
def BrushCore.sbOf (x : BrushCore) (sb bc : Nat) : List Int :=
  if bc < 4 then x.v sb else List.replicate 4 ((x.v sb).getD (bc - 4) 0)

/-- sh of a product or of an operand times 2²³ (R394). -/
def BrushCore.shs (x : BrushCore) (a b : List Int) : List Int := List.zipWith (fun p q => rshr x.psh (p * q)) a b
def BrushCore.shOne (x : BrushCore) (a : List Int) : List Int := a.map fun p => rshr x.psh (p * 2 ^ 23)

/-- What a register of R405 holds once a value has been written to it. -/
def keptIn (code v : Nat) : Nat := (({} : BrushCore).setS code v).s code

/-! ### Easel packets -/

/-- The state in which the body of an opcode finds the module: the packet has left where it waited and has been counted (R143). -/
def Core.offered (c : Core) (o : Opc) (p : Packet) : Core := (c.popRing o.code p).countW R.HOST_EASEL_RX_COUNT 1

/-- An untimed packet passes every check that R143 makes before those of its opcode, and no Smudge class perturbs its way. -/
def Core.admits (c : Core) (o : Opc) (p : Packet) : Bool :=
  let d := c.offered o p
  let r := reqOf o p
  c.easelAnswers && !pkAtTime p && (!isUdp p.transport || !c.armed 3) &&
    decide ((c.popRing o.code p).arrival o.code p = .take) &&
    (!d.flag F.SYS_STATUS_RECOVERY || recoveryOp o.code) && !(d.twinWaits && mirrored o.code) && levelOk d o p &&
    o.len r.bytes.length &&
    !((opcodeFunc o.code r.words).isSome && decide (d.power.funcReset.map FuncReset.code = opcodeFunc o.code r.words))

/-- What follows the body of an opcode: the session takes the command as its last one, its reply goes out or waits for the
partner, and notices of what is already complete go out (R142, R147, R148, R485). -/
def Core.settled (o : Opc) (p : Packet) (a : Answer) : Core :=
  let c := ((noteOp o p a).taken o.code p a.2.1 a.2.2).mirror o.code p a.2.1
  (c.firstReply o.code p a.2).flushInstant

/-- The first reply that the session of a packet keeps for it: its status and its parameter bytes (R147). -/
def Core.told (c : Core) (p : Packet) : Option (Nat × List Byte) :=
  match c.session? p.session.toNat with
  | some s => (s.stored.find? fun x => x.seq = p.seq).map fun x => (x.status, x.body)
  | none => none

/-- The packet was answered with a status and 32-bit words. -/
abbrev Core.answered (c : Core) (p : Packet) (st : Status) (ws : List Nat) : Prop := c.told p = some (statusCode st, natBytes ws)

/-! ### What a command leaves alone -/

/-- The parts of the state beside the registers. -/
inductive Part where
  | shadow | outbox | freeIx | power | host | clk | time | cfg | scene | cal | ren | mon | out | memc | flash | crc | health | brush
  | atl | survey | arm | net | twin | update
deriving DecidableEq, Repr

/-- A state with one part put out of view. -/
def Core.blank (c : Core) : Part → Core
  | .shadow => { c with shadow := [] } | .outbox => { c with outbox := [] } | .freeIx => { c with freeIx := 0 }
  | .power => { c with power := {} } | .host => { c with host := {} } | .clk => { c with clk := {} }
  | .time => { c with time := {} } | .cfg => { c with cfg := {} } | .scene => { c with scene := {} }
  | .cal => { c with cal := {} } | .ren => { c with ren := {} } | .mon => { c with mon := {} } | .out => { c with out := {} }
  | .memc => { c with memc := {} } | .flash => { c with flash := {} } | .crc => { c with crc := {} }
  | .health => { c with health := {} } | .brush => { c with brush := {} } | .atl => { c with atl := {} }
  | .survey => { c with survey := {} } | .arm => { c with arm := {} } | .net => { c with net := {} }
  | .twin => { c with twin := {} } | .update => { c with update := {} }

/-- A state with the registers and some parts put out of view. -/
def Core.beside (c : Core) (ps : List Part) : Core := ps.foldl Core.blank { c with regs := [] }

/-- The block window of a register offset (R537); 0xC stands for those of the network ports, 0x20 for those of the Brush cores. -/
def windowOf (off : Nat) : Nat :=
  let w := off / 0x100000
  if 0xC ≤ w ∧ w ≤ 0xF then 0xC else min w 0x20

/-- From s to t no part changes but `ps`, and no register but those of the block windows `ws`. -/
def Unmoved (s : State) (ps : List Part) (ws : List Nat) (t : State) : Prop :=
  t.core.beside ps = s.core.beside ps ∧ ∀ off, windowOf off ∉ ws → t.core.get off = s.core.get off

/-- The same, and both memories stay as they are. -/
def Framed (s : State) (ps : List Part) (ws : List Nat) (t : State) : Prop := t.mem = s.mem ∧ Unmoved s ps ws t

/-- What taking, answering or refusing an Easel packet may change whatever its opcode: messages, the host interface, the network
queues, the twin link's replies and the generator of Smudge, with the blocks HOST, NET, MEDIA and SMUDGE. -/
def easelParts : List Part := [.outbox, .host, .health, .net, .twin]
def easelBlocks : List Nat := [0x3, 0xC, 0x10, 0x18]

/-- The commands that write or clear DRAM or studio SRAM as such; every other one reaches them by trace records only (R443). -/
def writesMemory : Instr → Bool
  | .blockBoundary _ | .dramTrainingDone _ | .bar2Access .. | .fabricHeldIssue _ | .dramWrite .. | .xferComplete .. | .vinOff
  | .tempMeasure .. | .deepStandbyEntry => true
  | _ => false

/-- The commands at which a control-plane restart or a reset may begin, which loses what studio SRAM held (R124, R541). -/
def mayLoseSram : Instr → Bool
  | .registerWrite .. | .sysRestart _ | .resetCtrlRestart .. | .resetCtrlModuleReset .. | .mbxCommandTake _ | .activation
  | .resetNAssert | .tcxoMonitorTrip | .corePllLoss | .moduleReset => true
  | _ => false

/-- The ring of trace records: its address, and its size in bytes (R443). -/
def Core.traceBase (c : Core) : Nat := c.f F.ATELIER_TRACE_BASE_LO_BASE + 2 ^ 32 * c.f F.ATELIER_TRACE_BASE_HI_BASE
def Core.traceSize (c : Core) : Nat := 16 * 2 ^ c.f F.ATELIER_TRACE_CTRL_LOG2

/-- An address lies in no 8-byte word that n bytes from an address on reach. -/
abbrev apart (a lo n : Nat) : Prop := a / 8 < lo / 8 ∨ (lo + n) / 8 < a / 8

/-- A byte of DRAM and one of studio SRAM read as before. -/
def SameByte (a : Nat) (s t : State) : Prop := t.dramByte a = s.dramByte a ∧ t.sramByte a = s.sramByte a

end Sys2Proof.Machine
end

