-- ==== Sys2Proof/Certificates/Slice0/Obligations.lean ====
section
/-! DEFINITION. The statements for the provers. `Completes i s P` says that command i answers a next state, of which P holds. In a
statement about an Easel command, `admits` is the checks that R143 makes before those of the opcode, `offered` the state in which
they leave the module, and `answered` what its session keeps as the first reply. -/

open Sys2Proof Sys2Proof.Machine

/-- A step with a command at the front of the queue is that command's meaning on the state with the rest of the queue. -/
def Obligations.StepRunsFrontCommand : Prop :=
  ∀ (i : Instr) (l : List Instr) (s : State), step { s with pending := i :: l } = exec i { s with pending := l }

/-- The idle step, the model's choice (log entry 3): one TIME cycle passes from step 4 of start-up on, and nothing before. -/
def Obligations.IdleStepPassesOneTimeCycle : Prop :=
  ∀ s : State, s.pending = [] →
    (s.core.power.step < 4 → step s = .next s) ∧
    (4 ≤ s.core.power.step → ∃ t, step s = .next t ∧ t.mem = s.mem ∧ t.pending = [] ∧ t.core.time.cycles = s.core.time.cycles + 1)

/-- At reset the memories are canonical, nothing waits to be traced and no command waits. -/
def Obligations.ResetStateCanonical : Prop :=
  Memory.wf State.reset.mem = true ∧ State.reset.quiet = true ∧ State.reset.pending = []

/-- The canonical form of DRAM and studio SRAM is kept by every step, whatever command stands at the front of the queue. -/
def Obligations.StepKeepsMemoryCanonical : Prop :=
  ∀ s t : State, Memory.wf s.mem = true → step s = .next t → Memory.wf t.mem = true

/-- Between commands no trace record waits: an invariant of every step. -/
def Obligations.StepLeavesTraceWritten : Prop :=
  ∀ s t : State, s.quiet = true → step s = .next t → t.quiet = true

/-- Every command answers a next state and leaves the queue of waiting commands alone. -/
def Obligations.EveryCommandGoesOn : Prop :=
  ∀ (i : Instr) (s : State), ∃ t, exec i s = .next t ∧ t.pending = s.pending

/-- A served write of TIME_STEP_LIMIT keeps the nearest limit, one of SYS_INT_STATUS clears the bits written 1; a read of a
counter of type RC answers its value and clears it; a read of TIME_OFFSET_LO copies the high word into the reader's shadow word,
which later reads answer; CLEAR of the gated-access, denied-write and no-path records clears the count and the record; with
MEDIA stopped a block boundary lets its TIME cycles pass and leaves the memories alone. -/
def Obligations.RegisterAccessesComplete : Prop :=
  (∀ (s : State) (m off : Nat) (v : Word), let c := s.core.written ⟨m, off, v⟩ 0; s.core.serves m off = true → s.quiet = true → off
      = R.TIME_STEP_LIMIT → Completes (.registerWrite m off v) s fun t => t.core.f F.TIME_STEP_LIMIT_LIMIT = clampNat 100
      1000000000 (bitsOf v 29 0)) ∧
  (∀ (s : State) (m off : Nat) (v : Word), let c := s.core.written ⟨m, off, v⟩ 0; s.core.serves m off = true → s.quiet = true → off
      = R.SYS_INT_STATUS → Completes (.registerWrite m off v) s fun t => t.core.get R.SYS_INT_STATUS = s.core.get R.SYS_INT_STATUS
      &&& ~~~(v &&& .ofNat 32 (((regRow? R.SYS_INT_STATUS).map (·.w1c)).getD 0))) ∧
  (∀ (s : State) (m off : Nat), s.quiet = true → s.core.reaches m off = true → (off = R.CLK_HOLDOVER_COUNT ∨ off =
      R.TIME_STEP_COUNT ∨ off = R.NET_RX_FCS 1 ∨ off = R.MEMC_CORRECTED) → Completes (.readClear m off) s fun t => t.core.outbox =
      s.core.outbox ++ [.read m off (s.core.get off)] ∧ t.core.f ⟨off, 15, 0⟩ = 0) ∧
  (∀ (s : State) (m off : Nat), s.quiet = true → s.core.reaches m off = true → off = R.TIME_OFFSET_LO → Completes (.snapshotRead m
      off) s fun t => t.core.outbox = s.core.outbox ++ [.read m off (s.core.get off)] ∧ t.core.shadowWord m R.TIME_OFFSET_HI =
      s.core.get R.TIME_OFFSET_HI) ∧
  (∀ (s : State) (m off : Nat), s.quiet = true → s.core.reaches m off = true → off = R.TIME_OFFSET_HI → Completes (.snapshotRead m
      off) s fun t => t.core.outbox = s.core.outbox ++ [.read m off (s.core.shadowWord m off)] ∧ t.core.shadow = s.core.shadow) ∧
  (∀ (s : State) (m : Nat) (v : Word), let c := s.core.written ⟨m, R.SYS_GATED_ACCESS, v⟩ 0; s.core.serves m R.SYS_GATED_ACCESS =
      true → s.quiet = true → bitOf v 31 = true → Completes (.gatedAccessClear m v) s fun t => t.core.get R.SYS_GATED_ACCESS = 0 ∧
      t.core.get R.SYS_GATED_ADDR_LO = 0 ∧ t.core.get R.SYS_GATED_ADDR_HI = 0) ∧
  (∀ (s : State) (m : Nat) (v : Word), let c := s.core.written ⟨m, R.HOST_BAR0_DENIED, v⟩ 0; s.core.serves m R.HOST_BAR0_DENIED =
      true → s.quiet = true → bitOf v 31 = true → Completes (.bar0DeniedClear m v) s fun t => t.core.get R.HOST_BAR0_DENIED = 0 ∧
      t.core.get R.HOST_BAR0_DENIED_ADDR_LO = 0 ∧ t.core.get R.HOST_BAR0_DENIED_ADDR_HI = 0) ∧
  (∀ (s : State) (m : Nat) (v : Word), let c := s.core.written ⟨m, R.FABRIC_NO_PATH, v⟩ 0; s.core.serves m R.FABRIC_NO_PATH = true
      → s.quiet = true → bitOf v 31 = true → Completes (.noPathClear m v) s fun t => t.core.get R.FABRIC_NO_PATH = 0 ∧ t.core.get
      R.FABRIC_NO_PATH_ADDR_LO = 0 ∧ t.core.get R.FABRIC_NO_PATH_ADDR_HI = 0) ∧
  (∀ (s : State) (env : BlockEnv), s.quiet = true → s.core.clk.mediaOn = false → 4 ≤ s.core.power.step → Completes (.blockBoundary
      env) s fun t => t.core.time.cycles = s.core.time.cycles + env.cycles ∧ t.core.time.n = s.core.time.n ∧ t.mem = s.mem)

/-- For every register offset of a gated block that a master has a path to: a write changes no register of the block and a read
answers 0; SYS_GATED_ACCESS.COUNT goes up by 1, up to its limit; and while COUNT is 0 the address, the master and the direction
are recorded in SYS_GATED_ADDR_LO and SYS_GATED_ADDR_HI, which otherwise stay. -/
def Obligations.GatedAccessCounted : Prop :=
  (∀ (s : State) (m off : Nat) (v : Word), s.quiet = true → regPath m off = true → windowAssigned off = true → s.core.gated off =
      true → Completes (.registerWrite m off v) s fun t => t.core.get off = s.core.get off ∧ t.core.f F.SYS_GATED_ACCESS_COUNT =
      min 65535 (s.core.f F.SYS_GATED_ACCESS_COUNT + 1) ∧ (s.core.f F.SYS_GATED_ACCESS_COUNT = 0 → t.core.get R.SYS_GATED_ADDR_LO =
      .ofNat 32 (0xF000000000 + off) ∧ t.core.f F.SYS_GATED_ADDR_HI_ADDR = 0xF0 ∧ t.core.f F.SYS_GATED_ADDR_HI_MASTER = m ∧
      t.core.flag F.SYS_GATED_ADDR_HI_WRITE = true) ∧ (s.core.f F.SYS_GATED_ACCESS_COUNT ≠ 0 → t.core.get R.SYS_GATED_ADDR_LO =
      s.core.get R.SYS_GATED_ADDR_LO ∧ t.core.get R.SYS_GATED_ADDR_HI = s.core.get R.SYS_GATED_ADDR_HI)) ∧
  (∀ (s : State) (m off : Nat), s.quiet = true → regPath m off = true → windowAssigned off = true → s.core.gated off = true →
      Completes (.readClear m off) s fun t => t.core.outbox.getLast? = some (.read m off 0) ∧ t.core.get off = s.core.get off ∧
      t.core.f F.SYS_GATED_ACCESS_COUNT = min 65535 (s.core.f F.SYS_GATED_ACCESS_COUNT + 1) ∧ (s.core.f F.SYS_GATED_ACCESS_COUNT =
      0 → t.core.get R.SYS_GATED_ADDR_LO = .ofNat 32 (0xF000000000 + off) ∧ t.core.f F.SYS_GATED_ADDR_HI_ADDR = 0xF0 ∧ t.core.f
      F.SYS_GATED_ADDR_HI_MASTER = m ∧ t.core.flag F.SYS_GATED_ADDR_HI_WRITE = false) ∧ (s.core.f F.SYS_GATED_ACCESS_COUNT ≠ 0 →
      t.core.get R.SYS_GATED_ADDR_LO = s.core.get R.SYS_GATED_ADDR_LO ∧ t.core.get R.SYS_GATED_ADDR_HI = s.core.get
      R.SYS_GATED_ADDR_HI))

/-- On a state in which its condition holds, each event of start-up completes: VIN rising (step 1, cause POWER_UP), the start
threshold (step 2, VIO_SEL sampled, VIN_WARN set), rails in regulation (step 3, straps sampled, TCXO enabled), the TCXO start
check (step 4, PLLs released), the boot stage (step 5, stuck when neither copy of Gesso is good), Gesso (step 6, CTRL on PLL_B,
recovery where BOOT_MODE is 0), DRAM training (step 7 with DRAM all zeros, or recovery when a lane has failed), the hold-up
store (step 8 from 7), the hand-off (step 9 or recovery), the PCIe endpoint (step 10 from 9), READY (step 11) and the first
start of MEDIA (step 12, at an epoch-aligned boundary). -/
def Obligations.StartUpEventsComplete : Prop :=
  (∀ (s : State), s.quiet = true → s.core.power.vinOn = false → Completes .vinRise s fun t => t.core.power.vinOn = true ∧
      t.core.power.step = 1 ∧ t.core.get R.SYS_RESET_CAUSE = 1) ∧
  (∀ (s : State) (vioSel : Bool), s.quiet = true → s.core.power.vinOn = true → s.core.power.step = 1 → Completes
      (.startThresholdMet vioSel) s fun t => t.core.power.step = 2 ∧ t.core.f F.SYS_STRAPS_VIO_SEL = b2n vioSel ∧ t.core.f
      F.SYS_STATUS_VIN_WARN = 1) ∧
  (∀ (s : State) (boot p3 : Bool) (addr : Nat), s.quiet = true → s.core.power.step = 2 → s.core.deep = false → s.core.power.inReset
      = false → Completes (.railsInRegulation boot p3 addr) s fun t => t.core.power.step = 3 ∧ t.core.power.railsOk = true ∧
      t.core.clk.tcxoOn = true ∧ t.core.f F.SYS_STRAPS_BOOT_MODE = b2n boot ∧ t.core.f F.SYS_STRAPS_P3_RATE = b2n p3 ∧ t.core.f
      F.SYS_STRAPS_SMB_ADDR = addr % 4) ∧
  (∀ (s : State), s.quiet = true → s.core.power.step = 3 → s.core.clk.tcxoOn = true → s.core.power.inReset = false →
      s.core.power.trip = false → Completes .tcxoStartCheck s fun t => t.core.power.step = 4 ∧ t.core.clk.tcxoOk = true ∧
      t.core.clk.pllOn = true ∧ t.core.time.known = s.core.flag F.SYS_BACKUP_SEC_HI_VALID) ∧
  (∀ (s : State) (primaryOk secondaryOk : Bool), s.quiet = true → s.core.power.step = 4 → Completes (.bootStage primaryOk
      secondaryOk) s fun t => t.core.power.step = 5 ∧ t.core.power.stuck = !(primaryOk || secondaryOk)) ∧
  (∀ (s : State), s.quiet = true → s.core.power.step = 5 → s.core.power.stuck = false → Completes .gessoStart s fun t =>
      t.core.power.step = 6 ∧ t.core.clk.ctrlSrc = 0) ∧
  (∀ (s : State), s.quiet = true → s.core.power.step = 5 → s.core.power.stuck = false → s.core.flag F.SYS_STRAPS_BOOT_MODE = false
      → Completes .gessoStart s fun t => t.core.flag F.SYS_STATUS_RECOVERY = true) ∧
  (∀ (s : State) (lanes : List (List Nat)), s.quiet = true → s.core.power.step = 6 → s.core.power.cause ≠ causeDeepWake →
      (((List.range 16).all fun i => !(trainLane (lanes.getD i [])).2.2.2) = true) → Completes (.dramTrainingDone lanes) s fun t =>
      t.core.power.step = 7 ∧ t.core.flag F.MEMC_STATUS_TRAINED = true ∧ t.mem.dram = []) ∧
  (∀ (s : State) (lanes : List (List Nat)), s.quiet = true → s.core.power.step = 6 → s.core.power.cause ≠ causeDeepWake →
      (((List.range 16).any fun i => (trainLane (lanes.getD i [])).2.2.2) = true) → Completes (.dramTrainingDone lanes) s fun t =>
      t.core.power.step = 6 ∧ t.core.flag F.SYS_STATUS_RECOVERY = true) ∧
  (∀ (s : State), s.quiet = true → s.core.power.vinOn = true → 2 ≤ s.core.power.step → Completes .holdupCharged s fun t =>
      t.core.power.holdup = true ∧ (t.core.power.step = if s.core.power.step = 7 then 8 else s.core.power.step)) ∧
  (∀ (s : State) (imageOk prevOk : Bool), s.quiet = true → (s.core.power.step = 7 ∨ s.core.power.step = 8) → s.core.power.pgood =
      true → s.core.flag F.SYS_STATUS_RECOVERY = false → (imageOk || (prevOk && s.core.update.prev.isSome)) = true → Completes
      (.firmwareHandoff imageOk prevOk) s fun t => t.core.power.step = 9) ∧
  (∀ (s : State) (imageOk prevOk : Bool), s.quiet = true → (s.core.power.step = 7 ∨ s.core.power.step = 8) → s.core.power.pgood =
      true → s.core.flag F.SYS_STATUS_RECOVERY = false → (imageOk || (prevOk && s.core.update.prev.isSome)) = false → Completes
      (.firmwareHandoff imageOk prevOk) s fun t => t.core.power.step = s.core.power.step ∧ t.core.flag F.SYS_STATUS_RECOVERY =
      true) ∧
  (∀ (s : State), s.quiet = true → (9 ≤ s.core.power.step ∨ s.core.flag F.SYS_STATUS_RECOVERY = true) → s.core.power.perst = false
      → s.core.deep = false → Completes .pcieEndpointReady s fun t => t.core.power.endpointReady = true ∧ (t.core.power.step = if
      s.core.power.step = 9 then 10 else s.core.power.step) ∧ t.core.pdOn 12 = true) ∧
  (∀ (s : State) (ms : Nat), s.quiet = true → (s.core.power.step = 9 ∨ s.core.power.step = 10) → s.core.flag F.SYS_STATUS_RECOVERY
      = false → Completes (.startReady ms) s fun t => t.core.power.step = 11 ∧ t.core.power.engineStop = false) ∧
  (∀ (s : State), s.quiet = true → s.core.clk.mediaStarted = false → 11 ≤ s.core.power.step → s.core.clk.pllOn = true → s.core.flag
      F.CLK_MEDIA_STATUS_TCXO_QUALIFIED = true → Completes .mediaStart s fun t => t.core.power.step = 12 ∧ t.core.clk.mediaOn =
      true ∧ t.core.clk.mediaStarted = true ∧ t.core.time.n = s.core.boundaryAt s.core.countOfPtp)

/-- On a state in which its condition holds, each of these events completes: VIN_WARN sets and clears SYS_STATUS.VIN_WARN,
VIN_OFF leaves the module without supply and its DRAM and SRAM empty with ALERT seen, RESET_N resets to step 3 with its cause
and holds, its release samples the straps, a wake from deep standby (WAKE_N or the wake time) starts again from step 2, a module
reset that is due resets with the module cause, a converter fault releases PGOOD_N, PERST resets the endpoint and its release
ends that, a link that trains shows its speed and width, the temperatures are measured and judged, mute and hold begins and
ends, and an end of a control-plane restart opens Easel. -/
def Obligations.SupplyEventsComplete : Prop :=
  (∀ (s : State), s.quiet = true → s.core.power.vinOn = true → 2 ≤ s.core.power.step → s.core.flag F.SYS_STATUS_VIN_WARN = false →
      Completes .vinWarnSet s fun t => t.core.flag F.SYS_STATUS_VIN_WARN = true ∧ t.core.power.alert = true) ∧
  (∀ (s : State), s.quiet = true → 2 ≤ s.core.power.step → s.core.flag F.SYS_STATUS_VIN_WARN = true → Completes .vinWarnClear s fun
      t => t.core.flag F.SYS_STATUS_VIN_WARN = false ∧ t.core.flash.recPages = 4) ∧
  (∀ (s : State), s.core.power.vinOn = true → Completes .vinOff s fun t => t.core.power.vinOn = false ∧ t.core.power.step = 0 ∧
      t.core.power.pgood = false ∧ t.mem.dram = [] ∧ t.mem.sram = []) ∧
  (∀ (s : State), s.quiet = true → s.core.power.vinOn = true → 3 ≤ s.core.power.step → s.core.deep = false → s.core.power.trip =
      false → Completes .resetNAssert s fun t => t.core.power.inReset = true ∧ t.core.power.step = 3 ∧ t.core.get R.SYS_RESET_CAUSE
      = 2 ∧ t.core.clk.gate = .zero ∧ t.core.host.sessions = []) ∧
  (∀ (s : State) (boot p3 : Bool) (addr : Nat), s.quiet = true → s.core.power.inReset = true → s.core.deep = false → Completes
      (.resetNRelease boot p3 addr) s fun t => t.core.power.inReset = false ∧ t.core.f F.SYS_STRAPS_BOOT_MODE = b2n boot ∧ t.core.f
      F.SYS_STRAPS_SMB_ADDR = addr % 4) ∧
  (∀ (s : State), s.quiet = true → s.core.deep = true → s.core.power.inReset = false → Completes .wakeNFall s fun t =>
      t.core.power.step = 2 ∧ t.core.get R.SYS_RESET_CAUSE = 32) ∧
  (∀ (s : State), s.quiet = true → s.core.deep = true → s.core.power.inReset = false → s.core.flag F.SYS_STANDBY_CTRL_WAKE_AT_EN =
      true → Completes .wakeAtReached s fun t => t.core.power.step = 2 ∧ t.core.get R.SYS_RESET_CAUSE = 32) ∧
  (∀ (s : State), s.quiet = true → s.core.power.resetDue = true → Completes .moduleReset s fun t => t.core.power.resetDue = false ∧
      t.core.power.step = 3 ∧ t.core.get R.SYS_RESET_CAUSE = 4) ∧
  (∀ (s : State), s.quiet = true → s.core.power.vinOn = true → Completes .converterFault s fun t => t.core.power.pgood = false) ∧
  (∀ (s : State), s.quiet = true → Completes .pciePerstAssert s fun t => t.core.power.perst = true ∧ t.core.power.endpointReady =
      false ∧ t.core.host.held = []) ∧
  (∀ (s : State), s.quiet = true → Completes .pciePerstRelease s fun t => t.core.power.perst = false) ∧
  (∀ (s : State) (gen width : Nat), s.quiet = true → s.core.power.vinOn = true → s.core.power.perst = false → 1 ≤ gen → gen ≤ 4 →
      (width = 1 ∨ width = 2 ∨ width = 4) → Completes (.pcieLinkTrained gen width) s fun t => t.core.flag F.HOST_STATUS_LINK_UP =
      true ∧ t.core.f F.HOST_STATUS_SPEED = gen ∧ t.core.f F.HOST_STATUS_WIDTH = width) ∧
  (∀ (s : State) (die board : Int), s.quiet = true → s.core.power.vinOn = true → s.core.power.trip = false → die < 1250 → board <
      1200 → Completes (.tempMeasure die board) s fun t => t.core.f F.SYS_TDIE_TDIE = unsigned 16 die ∧ t.core.f
      F.SYS_TBOARD_TBOARD = unsigned 16 board ∧ t.core.power.trip = false ∧ t.core.power.holdDue = (s.core.power.holdDue || (decide
      (1150 ≤ die) && !s.core.flag F.SYS_STATUS_THERM_HOLD))) ∧
  (∀ (s : State) (die board : Int), s.core.power.vinOn = true → s.core.power.trip = false → (1250 ≤ die ∨ 1200 ≤ board) → Completes
      (.tempMeasure die board) s fun t => t.core.power.trip = true ∧ t.core.power.pgood = false ∧ t.mem.dram = []) ∧
  (∀ (s : State), s.quiet = true → s.core.power.holdDue = true → Completes .muteAndHold s fun t => t.core.power.holdDue = false ∧
      t.core.power.engineStop = true ∧ t.core.flag F.SYS_STATUS_THERM_HOLD = true ∧ t.core.clk.gate = .fadeOut s.core.time.n
      s.core.blk) ∧
  (∀ (s : State), s.quiet = true → s.core.flag F.SYS_STATUS_THERM_HOLD = true → s.core.dieCool = true → s.core.f F.SYS_STATUS_STATE
      = 1 → Completes .thermalResume s fun t => t.core.power.engineStop = false ∧ t.core.flag F.SYS_STATUS_THERM_HOLD = false ∧
      t.core.clk.fadeInAt = some (s.core.time.n + 4 * s.core.blk)) ∧
  (∀ (s : State), s.quiet = true → s.core.flag F.HOST_STATUS_RESTARTING = true → Completes .controlPlaneRestartEnd s fun t =>
      t.core.flag F.HOST_STATUS_RESTARTING = false ∧ t.core.flag F.HOST_STATUS_EASEL_READY = true ∧ t.core.host.later = [])

/-- On a state in which its condition holds: the TCXO qualifies and the DPLL follows DREF; REF_IN is lost, measured, tripped or
qualified; the DPLL locks; DREF is written; each monitor of the clocks trips with what it records and resets; CLK_SWITCH.GO
moves CTRL or is refused; a write of the rate schedules a MEDIA switch at anchor B, and at B the domain takes the new setting
with its outputs at zero. -/
def Obligations.ClockSupervisionCompletes : Prop :=
  (∀ (s : State) (confirmed : Bool), s.quiet = true → s.core.clk.tcxoOk = true → s.core.flag F.CLK_MEDIA_STATUS_TCXO_QUALIFIED =
      false → s.core.clk.fault = none → Completes (.tcxoQualify confirmed) s fun t => t.core.flag F.CLK_MEDIA_STATUS_TCXO_QUALIFIED
      = true ∧ t.core.flag F.CLK_INT_STATUS_TCXO_QUALIFIED = true ∧ t.core.clk.follow = s.core.dref ∧ t.core.flag
      F.CLK_MEDIA_STATUS_QUAL_UNCONFIRMED = (s.core.flag F.CLK_MEDIA_STATUS_QUAL_UNCONFIRMED || (s.core.refQualified s.core.dref &&
      !confirmed))) ∧
  (∀ (s : State), s.quiet = true → s.core.refOn = true → s.core.clk.refGood = true → Completes .refInLoss s fun t => t.core.flag
      F.CLK_MEDIA_STATUS_REF_PRESENT = false ∧ t.core.flag F.CLK_MEDIA_STATUS_REF_QUALIFIED = false ∧ t.core.clk.refGood = false ∧
      t.core.flag F.CLK_INT_STATUS_REF_TRIP = true) ∧
  (∀ (s : State) (off : Int), s.quiet = true → s.core.refOn = true → off.natAbs ≤ s.core.f F.CLK_REF_CTRL_WINDOW * 10000 →
      Completes (.refInMeasurement off) s fun t => t.core.flag F.CLK_MEDIA_STATUS_REF_PRESENT = true ∧ t.core.get R.CLK_REF_OFFSET
      = .ofNat 32 (unsigned 32 off) ∧ t.core.clk.refGood = true ∧ t.core.clk.ppsEdges = s.core.clk.ppsEdges + 1) ∧
  (∀ (s : State) (off : Int), s.quiet = true → s.core.refOn = true → s.core.clk.refGood = true → s.core.f F.CLK_REF_CTRL_WINDOW *
      10000 < off.natAbs → Completes (.refInMeasurement off) s fun t => t.core.get R.CLK_REF_OFFSET = .ofNat 32 (unsigned 32 off) ∧
      t.core.clk.refGood = false ∧ t.core.flag F.CLK_MEDIA_STATUS_REF_QUALIFIED = false ∧ t.core.flag F.CLK_INT_STATUS_REF_TRIP =
      true) ∧
  (∀ (s : State), s.quiet = true → s.core.refOn = true → s.core.clk.refGood = true → s.core.flag F.CLK_MEDIA_STATUS_REF_PRESENT =
      true → s.core.flag F.CLK_MEDIA_STATUS_REF_QUALIFIED = false → (s.core.f F.CLK_REF_CTRL_TYPE = 1 → 3 ≤ s.core.clk.ppsEdges) →
      Completes .refQualify s fun t => t.core.flag F.CLK_MEDIA_STATUS_REF_QUALIFIED = true ∧ t.core.flag
      F.CLK_INT_STATUS_REF_QUALIFIED = true) ∧
  (∀ (s : State), s.quiet = true → s.core.clk.follow ≠ 0 → s.core.refQualified s.core.clk.follow = true → (s.core.clk.follow = 1 →
      s.core.f F.TIME_STATUS_STATE = 3) → s.core.clk.fault = none → Completes .dpllLock s fun t => t.core.clk.locked = true ∧
      t.core.clk.held = false ∧ (s.core.clk.mediaOn = true → s.core.clk.sw = none → t.core.f F.CLK_MEDIA_STATUS_STATE = 2)) ∧
  (∀ (s : State) (v : Word), let c := s.core.written ⟨8, R.CLK_MEDIA_CTRL, v⟩ 0x1F3; s.core.serves 8 R.CLK_MEDIA_CTRL = true →
      s.quiet = true → bitsOf v 5 5 = c.f F.CLK_MEDIA_CTRL_SRC → ¬(c.f F.CLK_MEDIA_CTRL_SRC = 1 ∧ c.f F.CLK_MEDIA_CTRL_FAMILY = 1)
      → rateIssued (c.f F.CLK_MEDIA_CTRL_FAMILY) (c.f F.CLK_MEDIA_CTRL_MULT) (c.f F.CLK_MEDIA_CTRL_LL) = true → Completes
      (.drefWrite 8 v) s fun t => t.core.f F.CLK_MEDIA_CTRL_DREF = bitsOf v 1 0 ∧ t.core.clk.sw = s.core.clk.sw) ∧
  (∀ (s : State), s.quiet = true → s.core.power.vinOn = true → 4 ≤ s.core.power.step → s.core.deep = false → Completes
      .tcxoMonitorTrip s fun t => t.core.flag F.CLK_MEDIA_STATUS_TCXO_FAIL = true ∧ t.core.power.step = 3 ∧ t.core.get
      R.SYS_RESET_CAUSE = 8 ∧ t.core.host.sessions = [] ∧ t.core.clk.gate = .zero ∧ t.mem.sram = []) ∧
  (∀ (s : State), s.quiet = true → s.core.power.vinOn = true → 5 ≤ s.core.power.step → s.core.deep = false → Completes .corePllLoss
      s fun t => t.core.flag F.CLK_MEDIA_STATUS_PLL_FAULT = true ∧ t.core.power.step = 3 ∧ t.core.get R.SYS_RESET_CAUSE = 8 ∧
      t.core.clk.gate = .zero ∧ t.mem.sram = []) ∧
  (∀ (s : State) (port : Nat), s.quiet = true → port < 4 → Completes (.serdesPllLoss port) s fun t => t.core.flag
      (F.NET_STATUS_LINK_UP port) = false ∧ (t.core.netPort port).txq = [] ∧ t.core.flag F.CLK_INT_STATUS_PLLS_FAULT = true) ∧
  (∀ (s : State), s.quiet = true → Completes .hostClockLoss s fun t => t.core.flag F.HOST_STATUS_LINK_UP = false ∧ t.core.flag
      F.HOST_RPL_SIZE_EN = false ∧ t.core.host.sessions.all (fun x => !isPcie x.transport) = true ∧ t.core.flag
      F.CLK_INT_STATUS_PLLS_FAULT = true) ∧
  (∀ (s : State), s.quiet = true → Completes .mediaMonitorTrip s fun t => t.core.flag F.CLK_INT_STATUS_MEDIA_MON = true ∧
      (s.core.clk.follow ≠ 0 → t.core.clk.locked = false)) ∧
  (∀ (s : State), s.quiet = true → Completes .aonMonitorTrip s fun t => t.core.flag F.CLK_MEDIA_STATUS_AON_FAULT = true ∧
      t.core.flag F.CLK_INT_STATUS_AON_FAULT = true) ∧
  (∀ (s : State) (m : Nat) (v : Word), let c := s.core.written ⟨m, R.CLK_SWITCH, v⟩ 0x80000000; s.core.serves m R.CLK_SWITCH = true
      → s.quiet = true → bitOf v 31 = true → Completes (.clkSwitchGo m v) s fun t => t.core.clk.ctrlSrc = (if c.f
      F.CLK_SWITCH_DOMAIN = 2 ∧ c.f F.CLK_SWITCH_SRC ≤ 1 then c.f F.CLK_SWITCH_SRC else s.core.clk.ctrlSrc) ∧ (¬(c.f
      F.CLK_SWITCH_DOMAIN = 2 ∧ c.f F.CLK_SWITCH_SRC ≤ 1) → t.core.flag F.CLK_SWITCH_REFUSED = true)) ∧
  (∀ (s : State) (m : Nat) (v : Word), let c := s.core.written ⟨m, R.CLK_MEDIA_CTRL, v⟩ 0x1F3; s.core.serves m R.CLK_MEDIA_CTRL =
      true → s.quiet = true → m ≤ 3 → ¬(bitsOf v 5 5 = 1 ∧ bitsOf v 4 4 = 1) → rateIssued (bitsOf v 4 4) (bitsOf v 7 6) (bitsOf v 8
      8) = true → bitsOf v 1 0 = c.f F.CLK_MEDIA_CTRL_DREF → ¬(bitsOf v 4 4 = c.f F.CLK_MEDIA_CTRL_FAMILY ∧ bitsOf v 7 6 = c.f
      F.CLK_MEDIA_CTRL_MULT ∧ bitsOf v 8 8 = c.f F.CLK_MEDIA_CTRL_LL ∧ bitsOf v 5 5 = c.f F.CLK_MEDIA_CTRL_SRC) → s.core.clk.sw =
      none → s.core.clk.mediaOn = true → Completes (.mediaSwitchWrite m v) s fun t => t.core.flag F.CLK_MEDIA_STATUS_SWITCH_PENDING
      = true ∧ t.core.clk.sw = some
      { family := bitsOf v 4 4, mult := bitsOf v 7 6, ll := bitsOf v 8 8, src := bitsOf v 5 5, b := c.anchorB, tok := none } ∧
      t.core.f F.CLK_MEDIA_CTRL_MULT = bitsOf v 7 6) ∧
  (∀ (s : State) (x : MediaSwitch), s.quiet = true → s.core.clk.sw = some x → x.done = false → x.b ≤ s.core.time.n →
      s.core.clk.mediaOn = true → Completes .mediaSwitch s fun t => t.core.clk.family = x.family ∧ t.core.clk.mult = x.mult ∧
      t.core.clk.ll = x.ll ∧ t.core.clk.src = x.src ∧ t.core.clk.gate = .zero ∧ t.core.f F.CLK_MEDIA_STATUS_STATE = 6)

/-- A served write of CLK_EN keeps the locked bits of blocks that it would stop; one of CLK_EN_BRUSHk takes the word; a waking
power domain becomes ON and PD_ON is raised with the last; a change of CLKOUTn stops it low until the next block boundary; a
trim gate moves CODE one step against the error, and a missing frame sync marks the trim stale. -/
def Obligations.ClockGatingCompletes : Prop :=
  (∀ (s : State) (m k : Nat) (v : Word), let c := s.core.written ⟨m, R.CLK_EN, v⟩ 0xFFFFFFFF; s.core.serves m R.CLK_EN = true →
      s.quiet = true → k = 0 → Completes (.clkEnWrite m k v) s fun t => t.core.get R.CLK_EN = (v &&& 0x1FFFFF) ||| (s.core.get
      R.CLK_EN &&& ~~~v &&& s.core.get R.CLK_EN_LOCK)) ∧
  (∀ (s : State) (m k : Nat) (v : Word), let c := s.core.written ⟨m, clkEnReg k, v⟩ 0xFFFFFFFF; s.core.serves m (clkEnReg k) = true
      → s.quiet = true → 1 ≤ k → k ≤ 3 → m ≠ 8 → Completes (.clkEnWrite m k v) s fun t => t.core.get (clkEnReg k) = v &&& (if k = 3
      then 0xF else 0xFFFFFFFF)) ∧
  (∀ (s : State) (pd : Nat), s.quiet = true → pd ≤ 12 → s.core.flag ⟨R.SYS_PD_WAKING, pd, pd⟩ = true → Completes (.pdWakeDone pd) s
      fun t => t.core.f (F.SYS_PD_STATE_PD pd) = 0 ∧ t.core.flag ⟨R.SYS_PD_WAKING, pd, pd⟩ = false ∧ (t.core.get R.SYS_PD_WAKING =
      0 → t.core.flag F.SYS_INT_STATUS_PD_ON = true)) ∧
  (∀ (s : State) (m n : Nat) (v : Word), let c := s.core.written ⟨m, clkoutReg n, v⟩ 0; s.core.serves m (clkoutReg n) = true →
      s.quiet = true → n < 2 → c.clkoutSet n ≠ smGet (fun _ => (0, 0, 2)) s.core.clk.clkout n → Completes (.clkoutCtrlWrite m n v)
      s fun t => smGet (fun _ => (0, 0, 2)) t.core.clk.clkout n = (0, 0, 2) ∧ n ∈ t.core.clk.clkoutDue) ∧
  (∀ (s : State) (err : Int) (fsyncOk : Bool), s.quiet = true → s.core.f F.CLK_AON_TRIM_CTRL_SRC = 1 → s.core.clk.tcxoOn = true →
      100 < err → 1 ≤ s.core.f F.CLK_AON_TRIM_CODE → Completes (.aonTrimGate err fsyncOk) s fun t => t.core.f F.CLK_AON_TRIM_CODE =
      s.core.f F.CLK_AON_TRIM_CODE - 1) ∧
  (∀ (s : State) (err : Int) (fsyncOk : Bool), s.quiet = true → s.core.f F.CLK_AON_TRIM_CTRL_SRC = 1 → s.core.clk.tcxoOn = true →
      err < -100 → Completes (.aonTrimGate err fsyncOk) s fun t => t.core.f F.CLK_AON_TRIM_CODE = min 1023 (s.core.f
      F.CLK_AON_TRIM_CODE + 1)) ∧
  (∀ (s : State) (err : Int) (fsyncOk : Bool), s.quiet = true → s.core.f F.CLK_AON_TRIM_CTRL_SRC = 2 → fsyncOk = false → Completes
      (.aonTrimGate err fsyncOk) s fun t => t.core.flag F.CLK_AON_TRIM_CTRL_TRIM_STALE = true ∧ t.core.flag
      F.CLK_INT_STATUS_TRIM_STALE = true ∧ t.core.f F.CLK_AON_TRIM_CODE = s.core.f F.CLK_AON_TRIM_CODE)

/-- On a port with PTP on, no Smudge class 1 armed and the module's domain: an Announce is recorded; a two-step Sync of the
followed leader waits with its corrected arrival; its Follow_Up and Delay_Resp give t2 − t1 and the mean path delay; a Delay_Req
is sent and kept; as leader the port answers Delay_Req and sends Announce, Sync and Follow_Up; the announce receipt timeout
makes a follower-only port listen, and the Sync timeout declares PTP loss; servo lock and unlock move STATE between 2 and 3. -/
def Obligations.PtpMessagesComplete : Prop :=
  (∀ (s : State) (port domain : Nat) (l : Leader), s.quiet = true → s.core.armed 1 = false → s.core.ptpOn port = true →
      s.core.domainOk domain = true → l.sender ≠ Config.ptpIdentity.toNat → Completes (.ptpAnnounceReceive port domain l) s fun t
      => (t.core.ptpPort port).foreign.any (fun y => decide (y.sender = l.sender)) = true) ∧
  (∀ (s : State) (port domain sender seq : Nat) (twoStep : Bool) (t1 corr t2 : Int), s.quiet = true → s.core.armed 1 = false →
      s.core.armed 4 = false → s.core.ptpOn port = true → s.core.domainOk domain = true → (s.core.ptpPort port).state = .follower →
      (s.core.ptpPort port).leader.map (·.sender) = some sender → twoStep = true → Completes (.ptpSyncReceive port domain sender
      seq twoStep t1 corr t2) s fun t => (t.core.ptpPort port).sync = some (seq, t2 - s.core.signedReg (R.TIME_PORT_INGRESS port),
      corr) ∧ t.core.get R.TIME_SYNC_RX_COUNT = s.core.get R.TIME_SYNC_RX_COUNT + 1) ∧
  (∀ (s : State) (port domain sender seq : Nat) (t1 corr t2 cs : Int), s.quiet = true → s.core.armed 1 = false → s.core.ptpOn port
      = true → s.core.domainOk domain = true → (s.core.ptpPort port).state = .follower → (s.core.ptpPort port).leader.map
      (·.sender) = some sender → (s.core.ptpPort port).sync = some (seq, t2, cs) → Completes (.ptpFollowUpReceive port domain
      sender seq t1 corr) s fun t => (t.core.ptpPort port).down = some (t2 - t1 - cs - corr) ∧ (t.core.ptpPort port).sync = none) ∧
  (∀ (s : State) (port : Nat) (t3 : Int), s.quiet = true → s.core.ptpOn port = true → (s.core.ptpPort port).state = .follower →
      Completes (.ptpDelayReqSend port t3) s fun t => (t.core.ptpPort port).req = some ((s.core.ptpPort port).reqSeq, t3 +
      s.core.signedReg (R.TIME_PORT_EGRESS port)) ∧ (t.core.ptpPort port).reqSeq = (s.core.ptpPort port).reqSeq + 1) ∧
  (∀ (s : State) (port domain sender seq : Nat) (t4 corr interval t3 d : Int), s.quiet = true → s.core.armed 1 = false →
      s.core.ptpOn port = true → s.core.domainOk domain = true → (s.core.ptpPort port).leader.map (·.sender) = some sender →
      (s.core.ptpPort port).req = some (seq, t3) → (s.core.ptpPort port).down = some d → Completes (.ptpDelayRespReceive port
      domain sender seq t4 corr interval) s fun t => (t.core.ptpPort port).mpd = some ((d + (t4 - corr - t3)) / 2) ∧
      (t.core.ptpPort port).reqInterval = max (-3) interval ∧ (s.core.time.active = some port → t.core.get R.TIME_MPD = .ofNat 32
      (unsigned 32 ((d + (t4 - corr - t3)) / 2)))) ∧
  (∀ (s : State) (port domain sender seq : Nat) (t4 : Int), s.quiet = true → s.core.armed 1 = false → s.core.armed 4 = false →
      s.core.ptpOn port = true → s.core.domainOk domain = true → (s.core.ptpPort port).state = .leader → s.core.flag
      (F.NET_STATUS_LINK_UP port) = true → 100 ≤ s.core.f (F.NET_MAX_FRAME_BYTES port) → Completes (.ptpDelayReqReceive port domain
      sender seq t4) s fun t => (t.core.netPort port).txq = (s.core.netPort port).txq ++
      [{ cls := 7, len := 96, msg := .frame port 7 "PTP Delay_Resp" [sender, seq, unsigned 80 (t4 - s.core.signedReg (R.TIME_PORT_INGRESS port))] }])
      ∧
  (∀ (s : State) (port : Nat), s.quiet = true → s.core.ptpOn port = true → (s.core.ptpPort port).state = .leader → s.core.flag
      (F.NET_STATUS_LINK_UP port) = true → 110 ≤ s.core.f (F.NET_MAX_FRAME_BYTES port) → Completes (.ptpAnnounceSend port) s fun t
      => (t.core.ptpPort port).annSeq = (s.core.ptpPort port).annSeq + 1 ∧ (t.core.netPort port).txq.length = (s.core.netPort
      port).txq.length + 1) ∧
  (∀ (s : State) (port : Nat) (t1 : Int), s.quiet = true → s.core.ptpOn port = true → (s.core.ptpPort port).state = .leader →
      s.core.flag (F.NET_STATUS_LINK_UP port) = true → 90 ≤ s.core.f (F.NET_MAX_FRAME_BYTES port) → Completes (.ptpSyncSend port
      t1) s fun t => (t.core.ptpPort port).syncSeq = (s.core.ptpPort port).syncSeq + 1 ∧ (t.core.netPort port).txq.length =
      (s.core.netPort port).txq.length + 2) ∧
  (∀ (s : State) (port : Nat), s.quiet = true → s.core.ptpOn port = true → s.core.flag F.TIME_CTRL_FOLLOWER_ONLY = true → Completes
      (.announceReceiptTimeout port) s fun t => (t.core.ptpPort port).state = .listening ∧ (t.core.ptpPort port).leader = none) ∧
  (∀ (s : State), s.quiet = true → s.core.time.active.isSome = true → s.core.time.lost = false → Completes .syncTimeout s fun t =>
      t.core.time.lost = true ∧ t.core.flag F.TIME_INT_STATUS_PTP_LOSS = true) ∧
  (∀ (s : State), s.quiet = true → s.core.f F.TIME_STATUS_STATE = 2 → s.core.refQualified 1 = true → Completes .servoLock s fun t
      => t.core.f F.TIME_STATUS_STATE = 3 ∧ t.core.flag F.TIME_INT_STATUS_LOCKED = true) ∧
  (∀ (s : State), s.quiet = true → s.core.f F.TIME_STATUS_STATE = 3 → Completes .servoUnlock s fun t => t.core.f
      F.TIME_STATUS_STATE = 2)

/-- A refused step is taken by SLEW or scheduled for anchor B while MEDIA runs; at B the counter has been re-aligned and the
outputs are at zero; TIME_CTRL leaves PTP on disabled ports; the opcodes of class 0x012x answer OK with what they store or read;
an armed pulse, its edges and its stop, a capture on TSIN and a read of its FIFO, and the copy into the backup time counter have
the effect of their rules. -/
def Obligations.TimeCommandsComplete : Prop :=
  (∀ (s : State) (m : Nat) (v : Word), let c := s.core.written ⟨m, R.TIME_STEP_ACCEPT, (withBits v 0 0 1)⟩ 0x80000000;
      s.core.serves m R.TIME_STEP_ACCEPT = true → s.quiet = true → bitOf v 31 = true → s.core.flag F.TIME_STATUS_JUMP_REFUSED =
      true → s.core.time.realign = none → s.core.time.refused.natAbs ≤ 1000000 * 65536 → Completes (.stepAcceptSlew m v) s fun t =>
      t.core.flag F.TIME_STATUS_JUMP_REFUSED = false ∧ t.core.time.ptp = ((s.core.time.ptp : Int) - s.core.time.refused * 2 ^
      16).toNat ∧ t.core.flag F.TIME_INT_STATUS_STEPPED = true) ∧
  (∀ (s : State) (m : Nat) (v : Word), let c := s.core.written ⟨m, R.TIME_STEP_ACCEPT, (withBits v 0 0 0)⟩ 0x80000000;
      s.core.serves m R.TIME_STEP_ACCEPT = true → s.quiet = true → bitOf v 31 = true → s.core.flag F.TIME_STATUS_JUMP_REFUSED =
      true → s.core.time.realign = none → s.core.clk.mediaOn = true → Completes (.stepAcceptRealign m v) s fun t =>
      t.core.time.realign = some ⟨c.anchorB, s.core.time.refused⟩ ∧ t.core.flag F.TIME_STEP_ACCEPT_GO = true) ∧
  (∀ (s : State) (x : Realign), s.quiet = true → s.core.time.realign = some x → s.core.clk.mediaOn = true → x.b ≤ s.core.time.n →
      Completes .realignment s fun t => t.core.time.realign = none ∧ t.core.flag F.TIME_STATUS_REALIGNED = true ∧ t.core.flag
      F.TIME_STEP_ACCEPT_GO = false ∧ t.core.clk.gate = .zero ∧ t.core.clk.fadeInAt = some (t.core.time.n + 4 * t.core.blk)) ∧
  (∀ (s : State) (m : Nat) (v : Word), let c := s.core.written ⟨m, R.TIME_CTRL, v⟩ 0; s.core.serves m R.TIME_CTRL = true → s.quiet
      = true → Completes (.timeCtrlWrite m v) s fun t => t.core.get R.TIME_CTRL = c.get R.TIME_CTRL ∧ (∀ q : Nat, q < 4 → q ≠ 2 →
      t.core.ptpOn q = false → t.core.ptpPort q = {})) ∧
  (∀ (s : State) (p : Packet), let c := s.core.offered opTimeConfig p; let r := reqOf opTimeConfig p; s.core.admits opTimeConfig p
      = true → s.quiet = true → noReserved (r.w 0) 0x00FF03F7 = true → noReserved (r.w 1) 0x3FFFFFFF = true → noReserved (r.w 2)
      0x0001FFFF = true → Completes (.timeConfig p) s fun t => t.core.answered p .ok [] ∧ t.core.get R.TIME_CTRL = r.w 0 ∧
      t.core.get R.TIME_LEADER_CFG = r.w 2 ∧ (∀ k : Nat, k < 4 → t.core.get (R.TIME_PORT_ASYM k) = r.w (3 + k))) ∧
  (∀ (s : State) (p : Packet), let c := s.core.offered opTimeStatus p; let r := reqOf opTimeStatus p; s.core.admits opTimeStatus p
      = true → s.quiet = true → Completes (.timeStatusGet p) s fun t => t.core.answered p .ok ([R.TIME_STATUS, R.TIME_OFFSET_LO,
      R.TIME_OFFSET_HI, R.TIME_MPD, R.TIME_LEADER_ID_LO, R.TIME_LEADER_ID_HI].map (fun x => (c.get x).toNat) ++ c.timeNow)) ∧
  (∀ (s : State) (p : Packet), let c := s.core.offered opTimeStepAccept p; let r := reqOf opTimeStepAccept p; s.core.admits
      opTimeStepAccept p = true → s.quiet = true → c.flag F.TIME_STATUS_JUMP_REFUSED = true → c.time.realign = none → bitOf (r.w 0)
      0 = true → c.time.refused.natAbs ≤ 1000000 * 65536 → Completes (.timeStepAccept p) s fun t => t.core.answered p .ok [] ∧
      t.core.flag F.TIME_STATUS_JUMP_REFUSED = false ∧ t.core.time.ptp = ((s.core.time.ptp : Int) - s.core.time.refused * 2 ^
      16).toNat) ∧
  (∀ (s : State) (p : Packet), let c := s.core.offered opTimeStepAccept p; let r := reqOf opTimeStepAccept p; s.core.admits
      opTimeStepAccept p = true → s.quiet = true → c.flag F.TIME_STATUS_JUMP_REFUSED = true → c.time.realign = none → bitOf (r.w 0)
      0 = false → c.clk.mediaOn = true → Completes (.timeStepAccept p) s fun t => t.core.answered p .ok [] ∧ t.core.time.realign =
      some ⟨c.anchorB, s.core.time.refused⟩) ∧
  (∀ (s : State) (p : Packet), let c := s.core.offered opTimeSet p; let r := reqOf opTimeSet p; s.core.admits opTimeSet p = true →
      s.quiet = true → c.f F.TIME_STATUS_STATE ≠ 3 → r.n 2 < 10 ^ 9 → r.n 1 < 65536 → c.clk.mediaOn = false → Completes (.timeSet
      p) s fun t => t.core.answered p .ok [] ∧ t.core.time.setSec = some (r.n 0 + r.n 1 * 2 ^ 32) ∧ t.core.time.ptp / 2 ^ 32 = (r.n
      0 + r.n 1 * 2 ^ 32) * 10 ^ 9 + r.n 2) ∧
  (∀ (s : State) (p : Packet), let c := s.core.offered opPulseProgram p; let r := reqOf opPulseProgram p; s.core.admits
      opPulseProgram p = true → s.quiet = true → r.n 0 ≤ 3 → noReserved (r.w 1) 2 = true → noReserved (r.w 4) 0xFFFF = true →
      noReserved (r.w 6) 0x3FFFFFFF = true → Completes (.pulseProgram p) s fun t => t.core.answered p .ok [] ∧ t.core.get
      (R.TIME_PULSE_START_NS (r.n 0)) = r.w 2 ∧ t.core.get (R.TIME_PULSE_PERIOD_NS (r.n 0)) = r.w 5 ∧ t.core.get
      (R.TIME_PULSE_WIDTH_NS (r.n 0)) = r.w 6) ∧
  (∀ (s : State) (p : Packet) (x : Capture), let c := s.core.offered opTsinRead p; let r := reqOf opTsinRead p; s.core.admits
      opTsinRead p = true → s.quiet = true → r.n 0 ≤ 1 → 1 ≤ r.n 1 → r.n 1 ≤ 16 → c.captures (r.n 0) = [x] → Completes (.tsinRead
      p) s fun t => t.core.answered p .ok (captureWords (some x) 0) ∧ t.core.captures (r.n 0) = []) ∧
  (∀ (s : State) (m n : Nat) (v : Word), let c := s.core.written ⟨m, (R.TIME_PULSE_CTRL n), (withBits v 0 0 1)⟩ 5; s.core.serves m
      ((R.TIME_PULSE_CTRL n)) = true → s.quiet = true → n < 4 → bitOf v 2 = false → c.flag (F.TIME_PULSE_CTRL_MODE n) = false → 20
      ≤ c.f (F.TIME_PULSE_WIDTH_NS_WIDTH n) → c.f (F.TIME_PULSE_WIDTH_NS_WIDTH n) ≤ 10 ^ 9 → c.time.ptp ≤ (c.get
      (R.TIME_PULSE_START_NS n)).toNat * 2 ^ 32 → Completes (.pulseArm m n v) s fun t => t.core.flag (F.TIME_PULSE_CTRL_ARM n) =
      true ∧ (smGet (fun _ => none) t.core.time.pulses n).isSome = true) ∧
  (∀ (s : State) (m n : Nat) (v : Word) (q : Pulse), let c := s.core.written ⟨m, (R.TIME_PULSE_CTRL n), (withBits v 2 2 1)⟩ 5;
      s.core.serves m ((R.TIME_PULSE_CTRL n)) = true → s.quiet = true → n < 4 → bitOf v 0 = false → smGet (fun _ => none)
      s.core.time.pulses n = some q → q.high = none → Completes (.pulseStop m n v) s fun t => smGet (fun _ => none)
      t.core.time.pulses n = none ∧ t.core.flag (F.TIME_PULSE_CTRL_ARM n) = false) ∧
  (∀ (s : State) (n : Nat) (q : Pulse), s.quiet = true → smGet (fun _ => none) s.core.time.pulses n = some q → q.high = none →
      Completes (.pulseEdge n) s fun t => smGet (fun _ => none) t.core.time.pulses n = some
      { q with next := q.next + 1, high := some (q.start + q.next * q.period + q.width) } ∧ t.core.outbox = s.core.outbox ++ [.pin
      "PULSE" n true]) ∧
  (∀ (s : State) (n : Nat) (rising : Bool) (off phase : Nat), s.quiet = true → n < 2 → bitOf (s.core.get (R.TIME_TSIN_CTRL n)) (if
      rising then 0 else 1) = true → (s.core.captures n).length < 16 → Completes (.tsinCapture n rising off phase) s fun t =>
      t.core.captures n = s.core.captures n ++ [⟨s.core.time.ptp / 2 ^ 16, s.core.time.n + off % s.core.blk, phase % 65536,
      s.core.f F.TIME_STATUS_EPOCH⟩] ∧ t.core.f (F.TIME_TSIN_STATUS_FILL n) = (s.core.captures n).length + 1) ∧
  (∀ (s : State) (n : Nat) (rising : Bool) (off phase : Nat), s.quiet = true → n < 2 → bitOf (s.core.get (R.TIME_TSIN_CTRL n)) (if
      rising then 0 else 1) = true → 16 ≤ (s.core.captures n).length → Completes (.tsinCapture n rising off phase) s fun t =>
      t.core.captures n = s.core.captures n) ∧
  (∀ (s : State) (m n : Nat) (x : Capture) (xs : List Capture), s.quiet = true → n < 2 → s.core.reaches m (R.TIME_TSIN_TS_FRAC n) =
      true → s.core.captures n = x :: xs → Completes (.tsinFifoPop m n) s fun t => t.core.captures n = xs ∧ t.core.outbox =
      s.core.outbox ++ [.read m (R.TIME_TSIN_TS_FRAC n) (.ofNat 32 (x.time % 65536))]) ∧
  (∀ (s : State), s.quiet = true → s.core.clk.pllOn = true → s.core.gated R.TIME_STATUS = false → Completes .backupTimeCopy s fun t
      => t.core.get R.SYS_BACKUP_SEC_LO = .ofNat 32 (s.core.ptpNs / 10 ^ 9) ∧ t.core.flag F.SYS_BACKUP_SEC_HI_VALID = true)

/-- A served SYS_RESET_CTRL.GO with no MEDIA switch or re-alignment under way begins a control-plane restart or marks a module
reset due; SYS_FUNC_RESET.GO starts the reset of a port or block whose domain is ON and sets BUSY, or is refused for a code
above 28, and a function reset ends with its count and interrupt; SYS_STANDBY_CTRL.GO begins each level when nothing bars it;
quiet standby is entered at anchor B with outputs at zero and engines stopped and left with PD4 to PD9 ON; deep standby keeps
the DRAM and loses the SRAM; SYS_OUTPUT_RELEASE marks the release due. -/
def Obligations.ResetsAndStandbyComplete : Prop :=
  (∀ (s : State) (m : Nat) (v : Word), let c := s.core.written ⟨m, R.SYS_RESET_CTRL, (withBits v 0 0 0)⟩ 0x80000000; s.core.serves
      m R.SYS_RESET_CTRL = true → s.quiet = true → bitOf v 31 = true → s.core.mediaChanging = false → s.core.flag
      F.HOST_STATUS_RESTARTING = false → Completes (.resetCtrlRestart m v) s fun t => t.core.flag F.HOST_STATUS_RESTARTING = true ∧
      t.core.flag F.HOST_STATUS_EASEL_READY = false ∧ t.core.easelRuns = false ∧ t.mem.sram = []) ∧
  (∀ (s : State) (m : Nat) (v : Word), let c := s.core.written ⟨m, R.SYS_RESET_CTRL, (withBits v 0 0 1)⟩ 0x80000000; s.core.serves
      m R.SYS_RESET_CTRL = true → s.quiet = true → bitOf v 31 = true → s.core.mediaChanging = false → Completes
      (.resetCtrlModuleReset m v) s fun t => t.core.power.resetDue = true) ∧
  (∀ (s : State) (m : Nat) (v : Word), let c := s.core.written ⟨m, R.SYS_FUNC_RESET, v⟩ 0x80000000; s.core.serves m
      R.SYS_FUNC_RESET = true → s.quiet = true → bitOf v 31 = true → (c.f F.SYS_FUNC_RESET_FUNC ≤ 10 ∨ 24 ≤ c.f
      F.SYS_FUNC_RESET_FUNC) → c.f F.SYS_FUNC_RESET_FUNC ≤ 28 → s.core.power.funcReset = none → s.core.flag
      F.HOST_STATUS_RESTARTING = false → s.core.pdOn (funcPd (c.f F.SYS_FUNC_RESET_FUNC)) = true → Completes (.funcResetGo m v) s
      fun t => t.core.power.funcReset = some { code := c.f F.SYS_FUNC_RESET_FUNC, tok := none } ∧ t.core.flag F.SYS_FUNC_RESET_BUSY
      = true ∧ t.core.flag F.SYS_STATUS_FUNC_RESET_BUSY = true) ∧
  (∀ (s : State) (m : Nat) (v : Word), let c := s.core.written ⟨m, R.SYS_FUNC_RESET, v⟩ 0x80000000; s.core.serves m
      R.SYS_FUNC_RESET = true → s.quiet = true → bitOf v 31 = true → 28 < c.f F.SYS_FUNC_RESET_FUNC → Completes (.funcResetGo m v)
      s fun t => t.core.flag F.SYS_FUNC_RESET_REFUSED = true ∧ t.core.power.funcReset = s.core.power.funcReset) ∧
  (∀ (s : State) (ok : Bool), s.quiet = true → s.core.power.funcReset.isSome = true → Completes (.funcResetDone ok) s fun t =>
      t.core.power.funcReset = none ∧ t.core.flag F.SYS_FUNC_RESET_BUSY = false ∧ t.core.flag F.SYS_INT_STATUS_FUNC_RESET_DONE =
      true ∧ t.core.f ⟨R.SYS_FUNC_RESET_COUNT, 15, 0⟩ = min 65535 (s.core.f ⟨R.SYS_FUNC_RESET_COUNT, 15, 0⟩ + 1)) ∧
  (∀ (s : State) (m : Nat) (v : Word), let c := s.core.written ⟨m, R.SYS_STANDBY_CTRL, (withBits v 1 0 0)⟩ 0x80000000;
      s.core.serves m R.SYS_STANDBY_CTRL = true → s.quiet = true → bitOf v 31 = true → s.core.twinned = false →
      s.core.power.standby = none → s.core.power.funcReset = none → s.core.mediaChanging = false → s.core.f F.SYS_STATUS_STATE = 2
      → s.core.clk.mediaOn = true → Completes (.standbyRunGo m v) s fun t => t.core.power.standby = some .leaving) ∧
  (∀ (s : State) (m : Nat) (v : Word), let c := s.core.written ⟨m, R.SYS_STANDBY_CTRL, (withBits v 1 0 1)⟩ 0x80000000;
      s.core.serves m R.SYS_STANDBY_CTRL = true → s.quiet = true → bitOf v 31 = true → s.core.twinned = false →
      s.core.power.standby = none → s.core.power.funcReset = none → s.core.mediaChanging = false → s.core.f F.SYS_STATUS_STATE = 1
      → s.core.clk.mediaOn = true → Completes (.standbyQuietGo m v) s fun t => t.core.power.standby = some (.entering
      s.core.anchorB)) ∧
  (∀ (s : State) (m : Nat) (v : Word), let c := s.core.written ⟨m, R.SYS_STANDBY_CTRL, (withBits v 1 0 2)⟩ 0x80000000;
      s.core.serves m R.SYS_STANDBY_CTRL = true → s.quiet = true → bitOf v 31 = true → s.core.twinned = false →
      s.core.power.standby = none → s.core.power.funcReset = none → s.core.mediaChanging = false → Completes (.standbyDeepGo m v) s
      fun t => t.core.power.standby = some .deepEntering) ∧
  (∀ (s : State) (b : Nat), s.quiet = true → s.core.power.standby = some (.entering b) → b ≤ s.core.time.n → Completes
      .quietStandbyEntry s fun t => t.core.power.standby = none ∧ t.core.f F.SYS_STATUS_STATE = 2 ∧ t.core.power.engineStop = true
      ∧ t.core.clk.gate = .zero) ∧
  (∀ (s : State), s.quiet = true → s.core.power.standby = some .leaving → Completes .quietStandbyExit s fun t =>
      t.core.power.standby = none ∧ t.core.f F.SYS_STATUS_STATE = 1 ∧ t.core.power.engineStop = false ∧ t.core.clk.fadeInAt = some
      (s.core.time.n + 4 * s.core.blk) ∧ (∀ k : Nat, k < 6 → t.core.pdOn (4 + k) = true)) ∧
  (∀ (s : State), s.quiet = true → s.core.power.standby = some .deepEntering → Completes .deepStandbyEntry s fun t => t.core.deep =
      true ∧ t.core.power.step = 2 ∧ t.core.clk.tcxoOn = false ∧ t.core.flag F.MEMC_STATUS_SELF_REFRESH = true ∧ t.mem.dram =
      s.mem.dram ∧ t.mem.sram = []) ∧
  (∀ (s : State) (m : Nat) (v : Word), let c := s.core.written ⟨m, R.SYS_OUTPUT_RELEASE, v⟩ 1; s.core.serves m R.SYS_OUTPUT_RELEASE
      = true → s.quiet = true → bitOf v 0 = true → c.flag F.SYS_STATUS_OUTPUT_HELD = true → Completes (.outputReleaseGo m v) s fun
      t => t.core.power.releaseDue = true)

/-- An admitted packet of class 0x011x completes: SYS_STATE_GET answers eight registers, SYS_STANDBY begins quiet standby,
SYS_RESTART begins a module reset or a control-plane restart, FUNC_RESET of a TDM port starts its reset with ACCEPTED,
WAKE_TOL_SET, START_CONFIG_SET and OUTPUT_RELEASE store what they carry, and MEDIA_RATE_SET either completes at once where
nothing changes or schedules the switch at anchor B. -/
def Obligations.SystemOpcodesComplete : Prop :=
  (∀ (s : State) (p : Packet), let c := s.core.offered opSysState p; let r := reqOf opSysState p; s.core.admits opSysState p = true
      → s.quiet = true → Completes (.sysStateGet p) s fun t => (t.core.answered p .ok ([R.SYS_STATUS, R.SYS_RESET_CAUSE,
      R.SYS_PD_STATE, R.SYS_PD_WAKING, R.SYS_VIN, R.SYS_PIN, R.SYS_TDIE, R.SYS_TBOARD].map fun x => (c.get x).toNat))) ∧
  (∀ (s : State) (p : Packet), let c := s.core.offered opSysStandby p; let r := reqOf opSysStandby p; s.core.admits opSysStandby p
      = true → s.quiet = true → r.n 0 = 1 → c.twinned = false → c.power.standby = none → c.power.funcReset = none → c.mediaChanging
      = false → c.f F.SYS_STATUS_STATE = 1 → c.clk.mediaOn = true → Completes (.sysStandby p) s fun t => t.core.answered p .ok [] ∧
      t.core.power.standby = some (.entering c.anchorB)) ∧
  (∀ (s : State) (p : Packet), let c := s.core.offered opSysRestart p; let r := reqOf opSysRestart p; s.core.admits opSysRestart p
      = true → s.quiet = true → r.n 0 = 1 → c.mediaChanging = false → c.power.restartDue = false → Completes (.sysRestart p) s fun
      t => t.core.answered p .ok [] ∧ t.core.power.resetDue = true) ∧
  (∀ (s : State) (p : Packet), let c := s.core.offered opSysRestart p; let r := reqOf opSysRestart p; s.core.admits opSysRestart p
      = true → s.quiet = true → r.n 0 = 0 → c.mediaChanging = false → Completes (.sysRestart p) s fun t => t.core.answered p .ok []
      ∧ t.core.flag F.HOST_STATUS_RESTARTING = true) ∧
  (∀ (s : State) (p : Packet), let c := s.core.offered opFuncReset p; let r := reqOf opFuncReset p; s.core.admits opFuncReset p =
      true → s.quiet = true → r.n 0 ≤ 7 → r.n 1 = 0 → c.power.funcReset = none → c.pdOn 3 = true → Completes (.funcReset p) s fun t
      => t.core.answered p .accepted [] ∧ t.core.power.funcReset = some { code := r.n 0, tok := some r.tok }) ∧
  (∀ (s : State) (p : Packet), let c := s.core.offered opWakeTol p; let r := reqOf opWakeTol p; s.core.admits opWakeTol p = true →
      s.quiet = true → (∀ k : Nat, k < 12 → r.n k ≤ 0x3FFFFFF) → Completes (.wakeTolSet p) s fun t => t.core.answered p .ok [] ∧ (∀
      k : Nat, k < 12 → t.core.get (R.SYS_WAKE_TOL k) = r.w k)) ∧
  (∀ (s : State) (p : Packet), let c := s.core.offered opOutputRelease p; let r := reqOf opOutputRelease p; s.core.admits
      opOutputRelease p = true → s.quiet = true → c.flag F.SYS_STATUS_OUTPUT_HELD = true → Completes (.outputRelease p) s fun t =>
      t.core.answered p .ok [] ∧ t.core.power.releaseDue = true) ∧
  (∀ (s : State) (p : Packet), let c := s.core.offered opStartConfig p; let r := reqOf opStartConfig p; s.core.admits opStartConfig
      p = true → s.quiet = true → noReserved (r.w 0) 3 = true → c.flag F.SYS_STATUS_VIN_WARN = false → Completes (.startConfigSet
      p) s fun t => t.core.answered p .ok [] ∧ t.core.get R.SYS_START_CFG = r.w 0 ∧ t.core.cfg.startCfg = r.w 0) ∧
  (∀ (s : State) (p : Packet), let c := s.core.offered opMediaRate p; let r := reqOf opMediaRate p; s.core.admits opMediaRate p =
      true → s.quiet = true → noReserved (r.w 0) 0xF = true → rateIssued (bitsOf (r.w 0) 0 0) (bitsOf (r.w 0) 2 1) (bitsOf (r.w 0)
      3 3) = true → bitsOf (r.w 0) 0 0 = c.clk.family → bitsOf (r.w 0) 2 1 = c.clk.mult → bitsOf (r.w 0) 3 3 = c.clk.ll → c.clk.sw
      = none → Completes (.mediaRateSet p) s fun t => t.core.answered p .accepted [] ∧ t.core.clk.sw = none) ∧
  (∀ (s : State) (p : Packet), let c := s.core.offered opMediaRate p; let r := reqOf opMediaRate p; s.core.admits opMediaRate p =
      true → s.quiet = true → noReserved (r.w 0) 0xF = true → rateIssued (bitsOf (r.w 0) 0 0) (bitsOf (r.w 0) 2 1) (bitsOf (r.w 0)
      3 3) = true → ¬(bitsOf (r.w 0) 0 0 = c.clk.family ∧ bitsOf (r.w 0) 2 1 = c.clk.mult ∧ bitsOf (r.w 0) 3 3 = c.clk.ll) → c.flag
      F.SYS_STATUS_VIN_WARN = false → c.mediaChanging = false → c.rateBusy = false → c.rateForbidden = false → ¬(bitsOf (r.w 0) 0 0
      = 1 ∧ c.clk.src = 1) → c.rateAdmits (bitsOf (r.w 0) 0 0) (bitsOf (r.w 0) 2 1) (bitsOf (r.w 0) 3 3) = true → c.clk.mediaOn =
      true → Completes (.mediaRateSet p) s fun t => t.core.answered p .accepted [] ∧ t.core.clk.sw = some
      { family := bitsOf (r.w 0) 0 0, mult := bitsOf (r.w 0) 2 1, ll := bitsOf (r.w 0) 3 3, src := c.clk.src, b := c.anchorB, tok := some r.tok }
      ∧ t.core.cfg.mult = bitsOf (r.w 0) 2 1)

/-- With the rails in regulation and its own address, the SMBus port answers a read with the bytes of the code's own protocol,
their PEC and 0xFF after that, NACKs an unknown code and every write, answers the Alert Response Address with its address and
releases SMB_ALERT_N, and takes new values at each refresh; a configuration read gets Retry Status until the endpoint is ready
and then the identity of the module. -/
def Obligations.SmbusPortCompletes : Prop :=
  (∀ (s : State) (addr code extra : Nat) (d : List Byte), s.quiet = true → s.core.smbusOn = true → addr = s.core.smbusAddr →
      s.core.smbusData code = some d → Completes (.smbusReadByte addr code extra) s fun t => t.core.outbox = s.core.outbox ++
      [.smbus ((d ++ [pecOf addr code d] ++ List.replicate (1 + extra) 0xFF#8).take (1 + extra))]) ∧
  (∀ (s : State) (addr code extra : Nat) (d : List Byte), s.quiet = true → s.core.smbusOn = true → addr = s.core.smbusAddr →
      s.core.smbusData code = some d → Completes (.smbusReadWord addr code extra) s fun t => t.core.outbox = s.core.outbox ++
      [.smbus ((d ++ [pecOf addr code d] ++ List.replicate (2 + extra) 0xFF#8).take (2 + extra))]) ∧
  (∀ (s : State) (addr code extra : Nat), s.quiet = true → s.core.smbusOn = true → addr = s.core.smbusAddr → 8 ≤ code → Completes
      (.smbusReadByte addr code extra) s fun t => t.core.outbox = s.core.outbox ++ [.smbusNack]) ∧
  (∀ (s : State) (addr : Nat), s.quiet = true → s.core.smbusOn = true → addr = s.core.smbusAddr → Completes (.smbusWrite addr) s
      fun t => t.core.outbox = s.core.outbox ++ [.smbusNack]) ∧
  (∀ (s : State), s.quiet = true → s.core.smbusOn = true → s.core.power.alert = true → Completes .smbusAlertResponse s fun t =>
      t.core.power.alert = false ∧ t.core.outbox = s.core.outbox ++ [.smbus (leBytes 1 (s.core.smbusAddr * 2)), .pin "SMB_ALERT_N"
      0 true]) ∧
  (∀ (s : State) (vin pin : Nat), s.quiet = true → s.core.power.vinOn = true → Completes (.smbusRefresh vin pin) s fun t =>
      t.core.power.smbVin = min vin 65535 ∧ t.core.power.smbPin = min pin 65535 ∧ t.core.power.smbState = s.core.f
      F.SYS_STATUS_STATE ∧ t.core.power.smbTdie = s.core.f F.SYS_TDIE_TDIE ∧ t.core.f F.SYS_VIN_VIN = min vin 65535) ∧
  (∀ (s : State) (reg : Nat), s.quiet = true → s.core.power.vinOn = true → s.core.power.perst = false → s.core.power.endpointReady
      = true → reg = 0 → Completes (.pcieConfigRequest reg) s fun t => t.core.outbox = s.core.outbox ++ [.config (some
      0x51201D9F)]) ∧
  (∀ (s : State) (reg : Nat), s.quiet = true → s.core.power.vinOn = true → s.core.power.perst = false → s.core.power.endpointReady
      = false → Completes (.pcieConfigRequest reg) s fun t => t.core.outbox = s.core.outbox ++ [.config none])

/-- A fragment that is a whole datagram is put together and an incomplete one is given up; a packet in the command ring is read
and a held reply goes out when there is room; a UDP session closes on its timeout; SESSION_OPEN that passes its checks opens a
session with the next number whose next SEQUENCE follows its own, SESSION_CLOSE closes its session, PING echoes, EVENT_SUBSCRIBE
and SESSION_LEVEL change the session, TIMED_CANCEL removes a pending command and TIMED_COMMIT commits those within a block of
their boundary; a command whose effect is scheduled leaves the list at its boundary; a short PCIe packet is discarded and an
opcode that is not issued is answered with BAD_OPCODE. -/
def Obligations.HostRingsAndSessionsComplete : Prop :=
  (∀ (s : State) (src ident offset : Nat) (bytes : List Byte) (more : Bool), s.quiet = true → s.core.host.reasm = [] → offset = 0 →
      more = false → bytes.length ≤ 4112 → Completes (.ipv4FragmentReceive src ident offset bytes more) s fun t =>
      t.core.host.datagrams = s.core.host.datagrams ++ [bytes] ∧ t.core.host.reasm = []) ∧
  (∀ (s : State) (src ident : Nat), s.quiet = true → Completes (.ipReassemblyTimeout src ident) s fun t => (t.core.host.reasm =
      s.core.host.reasm.filter fun x => !(x.src = src && x.ident = ident)) ∧ t.core.host.datagrams = s.core.host.datagrams) ∧
  (∀ (s : State) (m : Nat) (v : Word) (bytes : List Byte), let c := s.core.written ⟨m, R.HOST_CMD_PROD, v⟩ 0; s.core.serves m
      R.HOST_CMD_PROD = true → s.quiet = true → c.flag F.HOST_CMD_SIZE_EN = true → (c.f F.HOST_CMD_PROD_INDEX + ringSlots (c.get
      R.HOST_CMD_SIZE) - c.f F.HOST_CMD_CONS_INDEX % ringSlots (c.get R.HOST_CMD_SIZE)) % ringSlots (c.get R.HOST_CMD_SIZE) = 1 →
      s.core.host.unread = [] → s.core.host.held = [] → bytes.length = 64 → headSlots bytes = 1 → Completes (.hostCmdProdWrite m v
      bytes) s fun t => t.core.host.ring = s.core.host.ring ++ [bytes.take (16 + 8 * ((bytes.getD 3 0).toNat / 4 % 2) + leNat
      ((bytes.drop 6).take 2))] ∧ t.core.host.unread = []) ∧
  (∀ (s : State) (m : Nat) (v : Word) (x : Msg), let c := s.core.written ⟨m, R.HOST_RPL_CONS, v⟩ 0; s.core.serves m R.HOST_RPL_CONS
      = true → s.quiet = true → s.core.host.held = [x] → s.core.host.unread = [] → c.ringFits x = true → Completes
      (.replyRingConsume m v) s fun t => t.core.host.held = [] ∧ x ∈ t.core.outbox ∧ t.core.f F.HOST_RPL_PROD_INDEX = (c.f
      F.HOST_RPL_PROD_INDEX + slotsOf (msgBytes x)) % ringSlots (c.get R.HOST_RPL_SIZE)) ∧
  (∀ (s : State) (num : Nat) (x : Session), s.quiet = true → s.core.session? num = some x → isUdp x.transport = true → Completes
      (.udpSessionTimeout num) s fun t => t.core.session? num = none ∧ t.core.flag F.HOST_INT_STATUS_SESSION_CLOSED = true) ∧
  (∀ (s : State) (p : Packet) (num : Nat), s.quiet = true → isPcie p.transport = true → s.core.easelAnswers = true →
      (s.core.popRing 0x0100 p).arrival 0x0100 p = .take → (s.core.offered { code := 0x0100 } p).openCheck p = .ok →
      (s.core.offered { code := 0x0100 } p).nextSession = some num → Completes (.sessionOpen p) s fun t => (t.core.session?
      num).map (fun x => (x.num, x.transport, x.expected, x.base)) = some (num, p.transport, p.seq + 1, p.seq) ∧
      t.core.host.lastNum = num) ∧
  (∀ (s : State) (p : Packet), let c := s.core.offered opSessionClose p; let r := reqOf opSessionClose p; s.core.admits
      opSessionClose p = true → s.quiet = true → Completes (.sessionClose p) s fun t => t.core.session? p.session.toNat = none) ∧
  (∀ (s : State) (p : Packet), let c := s.core.offered opPing p; let r := reqOf opPing p; s.core.admits opPing p = true → s.quiet =
      true → Completes (.ping p) s fun t => t.core.told p = some (0, r.bytes)) ∧
  (∀ (s : State) (p : Packet), let c := s.core.offered opEventSubscribe p; let r := reqOf opEventSubscribe p; s.core.admits
      opEventSubscribe p = true → s.quiet = true → Completes (.eventSubscribe p) s fun t => t.core.answered p .ok [] ∧
      (t.core.session? p.session.toNat).map (·.mask) = some (r.w 0)) ∧
  (∀ (s : State) (p : Packet), let c := s.core.offered opSessionLevel p; let r := reqOf opSessionLevel p; s.core.admits
      opSessionLevel p = true → s.quiet = true → r.n 0 = 1 → c.levelCheck p.session.toNat 1 p.transport = .ok → p.session.toNat <
      256 → Completes (.sessionLevel p) s fun t => t.core.answered p .ok [] ∧ t.core.isExpert p.session.toNat = true) ∧
  (∀ (s : State) (p : Packet), let c := s.core.offered opSessionLevel p; let r := reqOf opSessionLevel p; s.core.admits
      opSessionLevel p = true → s.quiet = true → r.n 0 = 0 → Completes (.sessionLevel p) s fun t => t.core.answered p .ok [] ∧
      t.core.isExpert p.session.toNat = false) ∧
  (∀ (s : State) (p : Packet) (x : Timed), let c := s.core.offered opTimedCancel p; let r := reqOf opTimedCancel p; s.core.admits
      opTimedCancel p = true → s.quiet = true → c.host.timed = [x] → x.packet.session = p.session → x.packet.seq = r.w 0 →
      x.committed = false → x.opcode ≠ 0x0D02 → Completes (.timedCancel p) s fun t => t.core.answered p .ok [] ∧ t.core.host.timed
      = []) ∧
  (∀ (s : State), s.quiet = true → Completes .timedCommit s fun t => (t.core.host.timed = s.core.host.timed.map fun x => if
      x.boundary ≤ s.core.now + s.core.blk then { x with committed := true } else x)) ∧
  (∀ (s : State) (x : Timed), s.quiet = true → s.core.host.timed = [x] → x.boundary ≤ s.core.now → x.eager = true → x.own = true →
      Completes .timedExecute s fun t => t.core.host.timed = [] ∧ t.core.outbox = s.core.outbox) ∧
  (∀ (s : State) (tr : Transport) (raw : List Byte), s.quiet = true → isPcie tr = true → s.core.easelAnswers = true → raw.length <
      16 → Completes (.easelPacketRefused tr raw) s fun t => t.core.flag F.HOST_INT_STATUS_DISCARD = true ∧ t.core.f
      ⟨R.HOST_EASEL_DISCARD, 15, 0⟩ = min 65535 (s.core.f ⟨R.HOST_EASEL_DISCARD, 15, 0⟩ + 1) ∧ t.core.host.ring =
      s.core.host.ring.drop 1) ∧
  (∀ (s : State) (tr : Transport) (raw : List Byte) (op : Nat) (p : Packet), s.quiet = true → isPcie tr = true →
      s.core.easelAnswers = true → packetOf tr raw = some (op, p) → op ≠ 0x0100 → issued op = false → (s.core.popRing op p).arrival
      op p = .take → Completes (.easelPacketRefused tr raw) s fun t => t.core.answered p .badOpcode [] ∧ t.core.get
      R.HOST_EASEL_RX_COUNT = s.core.get R.HOST_EASEL_RX_COUNT + 1)

/-- A served write to an empty H2F fills it and to a full one counts an overrun; an acknowledge empties F2H; firmware takes a
PING from H2F and posts its reply, posts a subscribed event to an empty F2H, and a pair that stays full is marked STALL;
HOST_DB_MASK takes its word; a free hold register becomes the reader's and a held one returns its owner; the owner's 0 releases
it and any other write counts; HOST_BAR2_BASE up to 55 moves the window, through which a host byte is written and read. -/
def Obligations.MailboxesAndHoldsComplete : Prop :=
  (∀ (s : State) (m n : Nat) (v : Word), let c := s.core.written ⟨m, (R.HOST_MBX_H2F n), v⟩ 0xFFFFFFFF; s.core.serves m
      ((R.HOST_MBX_H2F n)) = true → s.quiet = true → n < 16 → s.core.flag (F.HOST_MBX_STATUS_H2F_FULL n) = false → Completes
      (.mbxH2fWrite m n v) s fun t => t.core.get (R.HOST_MBX_H2F n) = v ∧ t.core.flag (F.HOST_MBX_STATUS_H2F_FULL n) = true) ∧
  (∀ (s : State) (m n : Nat) (v : Word), let c := s.core.written ⟨m, (R.HOST_MBX_H2F n), v⟩ 0xFFFFFFFF; s.core.serves m
      ((R.HOST_MBX_H2F n)) = true → s.quiet = true → n < 16 → s.core.flag (F.HOST_MBX_STATUS_H2F_FULL n) = true → Completes
      (.mbxH2fWrite m n v) s fun t => t.core.get (R.HOST_MBX_H2F n) = s.core.get (R.HOST_MBX_H2F n) ∧ t.core.flag
      F.HOST_INT_STATUS_MBX_OVERRUN = true) ∧
  (∀ (s : State) (m n : Nat) (v : Word), let c := s.core.written ⟨m, (R.HOST_MBX_ACK n), v⟩ 0; s.core.serves m ((R.HOST_MBX_ACK n))
      = true → s.quiet = true → n < 16 → bitOf v 0 = true → Completes (.mbxF2hAck m n v) s fun t => t.core.flag
      (F.HOST_MBX_STATUS_F2H_FULL n) = false) ∧
  (∀ (s : State) (n : Nat), s.quiet = true → n < 16 → s.core.easelAnswers = true → s.core.easelRuns = true → s.core.flag
      (F.HOST_MBX_STATUS_H2F_FULL n) = true → s.core.flag (F.HOST_MBX_STATUS_F2H_FULL n) = false → s.core.power.restartDue = false
      → bitsOf (s.core.get (R.HOST_MBX_H2F n)) 31 16 = 0x0102 → Completes (.mbxCommandTake n) s fun t => t.core.get (R.HOST_MBX_F2H
      n) = .ofNat 32 (bitsOf (s.core.get (R.HOST_MBX_H2F n)) 15 0) ∧ t.core.flag (F.HOST_MBX_STATUS_H2F_FULL n) = false ∧
      t.core.flag (F.HOST_MBX_STATUS_F2H_FULL n) = true) ∧
  (∀ (s : State) (n k : Nat), s.quiet = true → n < 16 → k ≤ 25 → s.core.easelRuns = true → s.core.flag (F.HOST_MBX_STATUS_F2H_FULL
      n) = false → bitOf (smGet (fun _ => 0) s.core.host.mbxMask n) k = true → Completes (.mbxEventPost n k) s fun t => t.core.get
      (R.HOST_MBX_F2H n) = .ofNat 32 (2 ^ 31 + k * 2 ^ 26 + (s.core.get (statusOfSource k)).toNat % 65536) ∧ t.core.flag
      (F.HOST_MBX_STATUS_F2H_FULL n) = true) ∧
  (∀ (s : State) (n : Nat), s.quiet = true → n < 16 → s.core.flag (F.HOST_MBX_STATUS_H2F_FULL n) = true → s.core.flag
      (F.HOST_MBX_STATUS_F2H_FULL n) = true → Completes (.mbxStall n) s fun t => t.core.flag (F.HOST_MBX_STATUS_STALL n) = true ∧
      t.core.flag ⟨R.HOST_MBX_STALL, n, n⟩ = true ∧ t.core.flag F.HOST_INT_STATUS_MBX_STALL = true) ∧
  (∀ (s : State) (m : Nat) (v : Word), let c := s.core.written ⟨m, R.HOST_DB_MASK, v⟩ 0; s.core.serves m R.HOST_DB_MASK = true →
      s.quiet = true → Completes (.dbMaskWrite m v) s fun t => t.core.get R.HOST_DB_MASK = c.get R.HOST_DB_MASK ∧ t.core.get
      R.HOST_DB_STATUS = s.core.get R.HOST_DB_STATUS) ∧
  (∀ (s : State) (m n : Nat), s.quiet = true → n < 64 → s.core.reaches m (R.HOST_HOLD n) = true → smGet (fun _ => none)
      s.core.host.holds n = none → Completes (.holdAcquire m n) s fun t => smGet (fun _ => none) t.core.host.holds n = some m ∧
      t.core.flag (heldBit n) = true ∧ t.core.outbox = s.core.outbox ++ [.read m (R.HOST_HOLD n) 0]) ∧
  (∀ (s : State) (m n o : Nat), s.quiet = true → n < 64 → s.core.reaches m (R.HOST_HOLD n) = true → smGet (fun _ => none)
      s.core.host.holds n = some o → Completes (.holdAcquire m n) s fun t => smGet (fun _ => none) t.core.host.holds n = some o ∧
      t.core.outbox = s.core.outbox ++ [.read m (R.HOST_HOLD n) (.ofNat 32 (0x80000000 + o))]) ∧
  (∀ (s : State) (m n : Nat) (v : Word), let c := s.core.written ⟨m, (R.HOST_HOLD n), v⟩ 0xFFFFFFFF; s.core.serves m ((R.HOST_HOLD
      n)) = true → s.quiet = true → n < 64 → v = 0 → smGet (fun _ => none) s.core.host.holds n = some m → Completes (.holdRelease m
      n v) s fun t => smGet (fun _ => none) t.core.host.holds n = none ∧ t.core.flag (heldBit n) = false) ∧
  (∀ (s : State) (m n : Nat) (v : Word), let c := s.core.written ⟨m, (R.HOST_HOLD n), v⟩ 0xFFFFFFFF; s.core.serves m ((R.HOST_HOLD
      n)) = true → s.quiet = true → n < 64 → ¬(v = 0 ∧ smGet (fun _ => none) s.core.host.holds n = some m) → Completes
      (.holdRelease m n v) s fun t => t.core.host.holds = s.core.host.holds ∧ t.core.flag F.HOST_INT_STATUS_HOLD_BAD_RELEASE =
      true) ∧
  (∀ (s : State) (m : Nat) (v : Word), let c := s.core.written ⟨m, R.HOST_BAR2_BASE, v⟩ 0; s.core.serves m R.HOST_BAR2_BASE = true
      → s.quiet = true → bitsOf v 5 0 ≤ 55 → Completes (.bar2BaseWrite m v) s fun t => t.core.f F.HOST_BAR2_BASE_BASE = bitsOf v 5
      0) ∧
  (∀ (s : State) (y : Nat) (write : Bool) (bytes : List Byte) (n : Nat) (b : Byte), s.quiet = true → write = true → bytes = [b] → y
      < 2 ^ 28 → s.core.f F.HOST_BAR2_BASE_BASE ≤ 55 → s.core.power.endpointReady = true → s.core.power.perst = false →
      s.core.memOn = true → Completes (.bar2Access y write bytes n) s fun t => t.dramByte (s.core.f F.HOST_BAR2_BASE_BASE * 2 ^ 28
      + y) = b) ∧
  (∀ (s : State) (y : Nat) (write : Bool) (bytes : List Byte) (n : Nat), s.quiet = true → write = false → n = 1 → y < 2 ^ 28 →
      s.core.f F.HOST_BAR2_BASE_BASE ≤ 55 → s.core.power.endpointReady = true → s.core.power.perst = false → s.core.memOn = false →
      Completes (.bar2Access y write bytes n) s fun t => t.core.outbox = s.core.outbox ++ [.data [0]])

/-- An admitted packet of these opcodes with parameters in range, while the staged layout is not busy where it writes it, is
answered OK and changes or reads exactly the record it names: objects, loudspeakers, zones, temperature range, scene buses and
beds of the staged bank, whose STAGED_READY clears; the live properties of an object from a position stream; the speed of sound;
LAYOUT_COMMIT is accepted and, when it completes with OK, sets STAGED_READY; the bucket of the position stream refills by the
object capacity. -/
def Obligations.SceneOpcodesComplete : Prop :=
  (∀ (s : State) (p : Packet) (d : ObjDef), let c := s.core.offered opObjectDefine p; let r := reqOf opObjectDefine p;
      s.core.admits opObjectDefine p = true → s.quiet = true → objOf r = some d → r.n 0 < c.caps.objs → c.sceneBusy = false →
      Completes (.objectDefine p) s fun t => t.core.answered p .ok [] ∧ t.core.scene.staged.obj (r.n 0) = d ∧ t.core.scene.live =
      s.core.scene.live ∧ t.core.flag (stagedReady 0) = false) ∧
  (∀ (s : State) (p : Packet), let c := s.core.offered opObjectGet p; let r := reqOf opObjectGet p; s.core.admits opObjectGet p =
      true → s.quiet = true → r.n 1 ≤ 1 → r.n 0 < c.caps.objs → Completes (.objectGet p) s fun t => t.core.answered p .ok
      ([objFlags ((c.layout (r.n 1)).obj (r.n 0)), ((c.layout (r.n 1)).obj (r.n 0)).excl % 2 ^ 32, ((c.layout (r.n 1)).obj (r.n
      0)).excl / 2 ^ 32] ++ posWords ((c.layout (r.n 1)).obj (r.n 0)).boxMin ++ posWords ((c.layout (r.n 1)).obj (r.n 0)).boxMax))
      ∧
  (∀ (s : State) (p : Packet), let c := s.core.offered opObjectDisableAll p; let r := reqOf opObjectDisableAll p; s.core.admits
      opObjectDisableAll p = true → s.quiet = true → c.sceneBusy = false → Completes (.objectDisableAll p) s fun t =>
      t.core.answered p .ok [] ∧ t.core.scene.staged.objs.all (fun x => !x.2.enable) = true) ∧
  (∀ (s : State) (p : Packet) (e : StreamSet), let c := s.core.offered opPositionStream p; let r := reqOf opPositionStream p;
      s.core.admits opPositionStream p = true → s.quiet = true → streamCheck c r = none → bitsOf (r.w 0) 10 0 = 1 → streamEntry
      c.caps.objs ((r.bytes.drop 4).take 20) = some e → Completes (.positionStream p) s fun t => t.core.answered p .ok [1, 0] ∧
      t.core.scene.used = s.core.scene.used + 1 ∧ (t.core.obj e.obj).pos = e.pos.getD (s.core.obj e.obj).pos ∧ (t.core.obj
      e.obj).gain = e.gain.getD (s.core.obj e.obj).gain ∧ (t.core.obj e.obj).mute = e.mute.getD (s.core.obj e.obj).mute) ∧
  (∀ (s : State) (p : Packet), let c := s.core.offered opObjectState p; let r := reqOf opObjectState p; s.core.admits opObjectState
      p = true → s.quiet = true → r.n 1 = 1 → r.n 0 < c.caps.objs → Completes (.objectStateGet p) s fun t => t.core.answered p .ok
      (posWords (c.obj (r.n 0)).pos ++ [unsigned 16 (c.obj (r.n 0)).gain + 65536 * b2n (c.obj (r.n 0)).mute + 131072 * b2n (c.obj
      (r.n 0)).clamped, (c.obj (r.n 0)).spread])) ∧
  (∀ (s : State), s.quiet = true → Completes .positionBucketRefill s fun t => t.core.scene.used = s.core.scene.used -
      s.core.caps.objs) ∧
  (∀ (s : State) (p : Packet), let c := s.core.offered opLayoutBegin p; let r := reqOf opLayoutBegin p; s.core.admits opLayoutBegin
      p = true → s.quiet = true → r.n 0 ≤ 1 → c.sceneBusy = false → Completes (.layoutBegin p) s fun t => t.core.answered p .ok []
      ∧ t.core.scene.staged = (if r.n 0 = 1 then s.core.scene.live else {}) ∧ t.core.flag (stagedReady 0) = false) ∧
  (∀ (s : State) (p : Packet) (q : Pos), let c := s.core.offered opSpeakerDefine p; let r := reqOf opSpeakerDefine p; s.core.admits
      opSpeakerDefine p = true → s.quiet = true → posOf (r.w 2) (r.w 3) (r.w 4) = some q → r.w 1 &&& 0xFF00E0F8 = 0 → r.n 0 <
      c.caps.outs → c.sceneBusy = false → Completes (.speakerDefine p) s fun t => t.core.answered p .ok [] ∧
      t.core.scene.staged.spk (r.n 0) = (if bitOf (r.w 1) 0 then some
      { pos := q, lfe := bitOf (r.w 1) 1, inArray := bitOf (r.w 1) 2, array := bitsOf (r.w 1) 12 8, element := bitsOf (r.w 1) 23 16 }
      else none)) ∧
  (∀ (s : State) (p : Packet), let c := s.core.offered opSpeakerGet p; let r := reqOf opSpeakerGet p; s.core.admits opSpeakerGet p
      = true → s.quiet = true → r.n 1 ≤ 1 → r.n 0 < c.caps.outs → (c.layout (r.n 1)).spk (r.n 0) = none → Completes (.speakerGet p)
      s fun t => t.core.answered p .ok [0, 0, 0, 0]) ∧
  (∀ (s : State) (p : Packet) (x : Speaker), let c := s.core.offered opSpeakerGet p; let r := reqOf opSpeakerGet p; s.core.admits
      opSpeakerGet p = true → s.quiet = true → r.n 1 ≤ 1 → r.n 0 < c.caps.outs → (c.layout (r.n 1)).spk (r.n 0) = some x →
      Completes (.speakerGet p) s fun t => t.core.answered p .ok (spkFlags x :: posWords x.pos)) ∧
  (∀ (s : State) (p : Packet), let c := s.core.offered opZoneDefine p; let r := reqOf opZoneDefine p; s.core.admits opZoneDefine p
      = true → s.quiet = true → 1 ≤ r.n 0 → r.n 0 ≤ 63 → c.sceneBusy = false → Completes (.zoneDefine p) s fun t => t.core.answered
      p .ok [] ∧ smGet (fun _ => 0) t.core.scene.staged.zones (r.n 0) = leNat (r.bytes.drop 4)) ∧
  (∀ (s : State) (p : Packet), let c := s.core.offered opLayoutTemp p; let r := reqOf opLayoutTemp p; s.core.admits opLayoutTemp p
      = true → s.quiet = true → -3000 ≤ signed 32 (r.n 0) → signed 32 (r.n 0) ≤ signed 32 (r.n 1) → signed 32 (r.n 1) ≤ 6000 →
      c.sceneBusy = false → Completes (.layoutTempRange p) s fun t => t.core.answered p .ok [] ∧ t.core.scene.staged.tMin = signed
      32 (r.n 0) ∧ t.core.scene.staged.tMax = signed 32 (r.n 1)) ∧
  (∀ (s : State) (p : Packet), let c := s.core.offered opLayoutCommit p; let r := reqOf opLayoutCommit p; s.core.admits
      opLayoutCommit p = true → s.quiet = true → c.sceneBusy = false → Completes (.layoutCommit p) s fun t => t.core.answered p
      .accepted [] ∧ t.core.scene.commit = some r.tok) ∧
  (∀ (s : State) (k : Tok), s.quiet = true → s.core.scene.commit = some k → Completes .layoutCommitDone s fun t =>
      t.core.scene.commit = none ∧ (s.core.layoutAdmit.status = .ok → t.core.flag (stagedReady 0) = true) ∧ t.core.scene.live =
      s.core.scene.live) ∧
  (∀ (s : State) (p : Packet), let c := s.core.offered opLayoutAdmission p; let r := reqOf opLayoutAdmission p; s.core.admits
      opLayoutAdmission p = true → s.quiet = true → r.n 0 ≤ 1 → Completes (.layoutAdmissionGet p) s fun t => t.core.answered p .ok
      (((admitAll c.caps {} (c.layout (r.n 0))).words.drop 1).take 6 ++ [c.f (stagedReady 0)])) ∧
  (∀ (s : State) (p : Packet), let c := s.core.offered opSoundSpeedSet p; let r := reqOf opSoundSpeedSet p; s.core.admits
      opSoundSpeedSet p = true → s.quiet = true → (r.n 0 = 1 ∨ r.n 0 = 2) → Completes (.soundSpeedSet p) s fun t =>
      t.core.scene.speedSrc = r.n 0 ∧ t.core.scene.speedVal = (r.n 1 : Nat) ∧ t.core.f F.CALIPER_STATUS_SPEED_SOURCE = r.n 0 ∧
      (t.core.told p).map (·.1) = some 0) ∧
  (∀ (s : State) (p : Packet), let c := s.core.offered opSoundSpeedGet p; let r := reqOf opSoundSpeedGet p; s.core.admits
      opSoundSpeedGet p = true → s.quiet = true → c.scene.surveyTemp = none → Completes (.soundSpeedGet p) s fun t =>
      t.core.answered p .ok [c.scene.speedSrc, speedKilo (c.speedFor c.scene.live), 0x8000]) ∧
  (∀ (s : State) (p : Packet), let c := s.core.offered opBusDefine p; let r := reqOf opBusDefine p; s.core.admits opBusDefine p =
      true → s.quiet = true → r.n 1 < 4096 → r.n 0 ≤ 1 → bitsOf (r.w 1) 3 1 ≠ 0 → -10000 ≤ signed 32 (r.n 4) → signed 32 (r.n 4) ≤
      1200 → c.sceneBusy = false → Completes (.sceneBusDefine p) s fun t => t.core.answered p .ok [] ∧ t.core.scene.staged.bus (r.n
      0) =
      { enable := bitOf (r.w 1) 0, order := bitsOf (r.w 1) 3 1, n3d := bitOf (r.w 1) 4, maxre := bitOf (r.w 1) 5, zone := bitsOf (r.w 1) 11 6, excl := r.n 2 + r.n 3 * 2 ^ 32, gain := signed 32 (r.n 4) })
      ∧
  (∀ (s : State) (p : Packet), let c := s.core.offered opBusGet p; let r := reqOf opBusGet p; s.core.admits opBusGet p = true →
      s.quiet = true → r.n 1 ≤ 1 → r.n 0 ≤ 1 → Completes (.sceneBusGet p) s fun t => t.core.answered p .ok [b2n ((c.layout (r.n
      1)).bus (r.n 0)).enable + 2 * ((c.layout (r.n 1)).bus (r.n 0)).order + 16 * b2n ((c.layout (r.n 1)).bus (r.n 0)).n3d + 32 *
      b2n ((c.layout (r.n 1)).bus (r.n 0)).maxre + 64 * ((c.layout (r.n 1)).bus (r.n 0)).zone, ((c.layout (r.n 1)).bus (r.n
      0)).excl % 2 ^ 32, ((c.layout (r.n 1)).bus (r.n 0)).excl / 2 ^ 32, w32 ((c.layout (r.n 1)).bus (r.n 0)).gain]) ∧
  (∀ (s : State) (p : Packet), let c := s.core.offered opBedDefine p; let r := reqOf opBedDefine p; s.core.admits opBedDefine p =
      true → s.quiet = true → r.n 1 < 1024 → r.n 0 ≤ 127 → -10000 ≤ signed 32 (r.n 2) → signed 32 (r.n 2) ≤ 1200 → c.sceneBusy =
      false → Completes (.bedDefine p) s fun t => t.core.answered p .ok [] ∧ t.core.scene.staged.bed (r.n 0) =
      { enable := bitOf (r.w 1) 0, output := bitsOf (r.w 1) 9 1, gain := signed 32 (r.n 2) }) ∧
  (∀ (s : State) (p : Packet), let c := s.core.offered opBedGet p; let r := reqOf opBedGet p; s.core.admits opBedGet p = true →
      s.quiet = true → r.n 1 ≤ 1 → r.n 0 ≤ 127 → Completes (.bedGet p) s fun t => t.core.answered p .ok [b2n ((c.layout (r.n
      1)).bed (r.n 0)).enable + 2 * ((c.layout (r.n 1)).bed (r.n 0)).output, w32 ((c.layout (r.n 1)).bed (r.n 0)).gain])

/-- At its boundary Caliper takes a snapshot and sets the next one a period later and its handover a block later; a handover
that is due sets the grid and ends a fresh start; PALETTE_SWAP that passes its checks waits as a swap; the swap is prepared,
exchanges the banks of the Palettes in its mask at its boundary and starts its Glaze; a Glaze that has run ends with SWAP_DONE;
the opcodes of class 0x04xx answer with what they store or read. -/
def Obligations.CaliperAndPalettesComplete : Prop :=
  (∀ (s : State), s.quiet = true → s.core.caliperRuns = true → s.core.cal.next ≤ s.core.time.n → s.core.cal.config = none →
      Completes .caliperSnapshot s fun t => t.core.cal.next = s.core.time.n + s.core.period ∧ t.core.cal.pendAt = some
      (s.core.time.n + s.core.blk) ∧ t.core.flag F.CALIPER_STATUS_RUNNING = true) ∧
  (∀ (s : State) (h : Nat), s.quiet = true → s.core.cal.pendAt = some h → h ≤ s.core.time.n → s.core.caliperRuns = true → Completes
      .targetHandover s fun t => t.core.cal.pendAt = none ∧ t.core.cal.handAt = h ∧ t.core.ren.fresh = false ∧ t.core.flag
      F.RENDER_STATUS_RUNNING = true) ∧
  (∀ (s : State) (p : Packet), let c := s.core.offered opPaletteStatus p; let r := reqOf opPaletteStatus p; s.core.admits
      opPaletteStatus p = true → s.quiet = true → Completes (.paletteStatusGet p) s fun t => (t.core.answered p .ok
      ([R.CALIPER_STATUS, R.CALIPER_PAL_STATUS, R.CALIPER_LAST_SWAP_LO, R.CALIPER_LAST_SWAP_HI, R.CALIPER_CTRL].map fun x => (c.get
      x).toNat))) ∧
  (∀ (s : State) (p : Packet), let c := s.core.offered opPaletteSwap p; let r := reqOf opPaletteSwap p; s.core.admits opPaletteSwap
      p = true → s.quiet = true → c.swapCheck (r.n 0) (r.n 1) = none → Completes (.paletteSwap p) s fun t => t.core.answered p
      .accepted [] ∧ (t.core.cal.swaps = s.core.cal.swaps ++
      [{ mask := r.n 0, b := c.boundaryAt (c.now + 2 * c.blk), g := if r.n 1 = 0 then c.glaze else r.n 1, tok := some r.tok, timed := false }]))
      ∧
  (∀ (s : State) (w : Swap), s.quiet = true → s.core.cal.swaps = [w] → w.prepared = false → w.b ≤ s.core.now + s.core.blk →
      s.core.cal.inReset = false → w.mask % 2 = 0 → Completes .swapPrepare s fun t => t.core.cal.swaps =
      [{ w with prepared := true, b := max w.b (s.core.boundaryAt (s.core.now + s.core.blk)) }]) ∧
  (∀ (s : State) (w : Swap), s.quiet = true → s.core.cal.swaps = [w] → w.prepared = true → w.b ≤ s.core.now → Completes
      .paletteSwapExecute s fun t => t.core.cal.swaps = [] ∧ (w.mask % 2 = 1 → t.core.scene.live = s.core.scene.staged ∧
      t.core.scene.staged = s.core.scene.live) ∧ (s.core.power.engineStop = false → s.core.clk.mediaOn = true → w.g ≠ 0 →
      t.core.cal.glazes = s.core.cal.glazes ++ [⟨w.mask, w.b, w.g, w.tok, w.deferred⟩]) ∧ t.core.f F.CALIPER_LAST_SWAP_HI_MASK =
      w.mask % 16) ∧
  (∀ (s : State) (x : GlazeRun), s.quiet = true → s.core.cal.glazes = [x] → x.b + x.g ≤ s.core.now → Completes .glazeEnd s fun t =>
      t.core.cal.glazes = [] ∧ t.core.flag F.CALIPER_INT_STATUS_SWAP_DONE = true) ∧
  (∀ (s : State) (p : Packet), let c := s.core.offered opMaquette p; let r := reqOf opMaquette p; s.core.admits opMaquette p = true
      → s.quiet = true → r.n 0 = 1 → r.n 1 ≤ 7 → c.flag (stagedReady 0) = true → (c.pair (r.n 1)).set.on = true → Completes
      (.maquetteSet p) s fun t => t.core.answered p .ok [] ∧ t.core.flag F.CALIPER_MAQUETTE_EN = true ∧ t.core.f
      F.CALIPER_MAQUETTE_PAIR = r.n 1 ∧ t.core.cal.maqAt = c.nextB) ∧
  (∀ (s : State) (p : Packet), let c := s.core.offered opCaliperConfig p; let r := reqOf opCaliperConfig p; s.core.admits
      opCaliperConfig p = true → s.quiet = true → r.w 0 &&& 0xFFFE00E0 = 0 → r.w 1 &&& 0xFFFF00C0 = 0 → 1 ≤ bitsOf (r.w 0) 4 0 →
      bitsOf (r.w 0) 4 0 ≤ 16 → 1 ≤ bitsOf (r.w 0) 16 8 → bitsOf (r.w 0) 16 8 ≤ 256 → bitsOf (r.w 1) 5 0 ≤ 50 → 1 ≤ r.n 2 → r.n 2 <
      65536 → r.n 3 ≤ 4096 → Completes (.caliperConfig p) s fun t => t.core.answered p .ok [] ∧ t.core.cal.config = some (r.w 0,
      r.w 1, r.w 2, r.w 3)) ∧
  (∀ (s : State) (p : Packet), let c := s.core.offered opCaliperCounters p; let r := reqOf opCaliperCounters p; s.core.admits
      opCaliperCounters p = true → s.quiet = true → Completes (.caliperCountersGet p) s fun t => (t.core.answered p .ok
      ([R.CALIPER_BOX_CLAMP_COUNT, R.CALIPER_DOPPLER_COUNT, R.CALIPER_STREAM_IGNORED, R.CALIPER_SWAP_DEFERRED,
      R.CALIPER_SUPERSEDED, R.CALIPER_STREAM_ENTRIES, R.CALIPER_TIER_SWITCH].map fun x => (c.get x).toNat)))

/-- While the engines work on a block, a far window that arrives is taken, one that is late or an engine that overruns leaves
its contributions at 0 and is counted, and the completion of the sums ends the block; the expert opcodes answer with the entry,
counter or memory word they read, or store an expert state or expert targets; RENDER_FIRST_UNCORR clears. -/
def Obligations.RenderCommandsComplete : Prop :=
  (∀ (s : State) (engine index : Nat) (x : Entry), s.quiet = true → (s.core.engineEntries engine)[index]? = some x → x.far = true →
      s.core.ren.busy = true → Completes (.farWindowArrive engine index) s fun t => t.core.ren.entries.any (fun e => decide (e.key
      = x.key) && e.window) = true) ∧
  (∀ (s : State) (engine index : Nat) (x : Entry), s.quiet = true → (s.core.engineEntries engine)[index]? = some x → x.far = true →
      x.window = false → x.dropped = false → s.core.ren.busy = true → Completes (.farWindowLate engine index) s fun t =>
      t.core.ren.entries.any (fun e => decide (e.key = x.key) && e.dropped) = true ∧ t.core.flag F.RENDER_INT_STATUS_FAR_LATE =
      true) ∧
  (∀ (s : State), s.quiet = true → s.core.ren.busy = true → Completes .renderSumsComplete s fun t => t.core.ren.busy = false ∧
      t.core.ren.blockN = s.core.ren.blockAt) ∧
  (∀ (s : State) (engine : Nat) (done : List Nat), s.quiet = true → s.core.ren.busy = true → engine < 8 → s.core.engineEntries
      engine ≠ [] → done = [0, 0, 0, 0] → Completes (.renderOverrun engine done) s fun t => (t.core.engineEntries engine).all
      (·.dropped) = true ∧ t.core.flag F.RENDER_INT_STATUS_OVERRUN = true) ∧
  (∀ (s : State) (p : Packet), let c := s.core.offered opRenderStatus p; let r := reqOf opRenderStatus p; s.core.admits
      opRenderStatus p = true → s.quiet = true → Completes (.renderStatusGet p) s fun t => (t.core.answered p .ok
      ([R.RENDER_STATUS, R.RENDER_ENGINE_MAP, R.RENDER_LANE_SPARE, R.RENDER_LOAD_SLOTS, R.RENDER_LOAD_FAR, R.RENDER_LANE_MAX,
      R.RENDER_PEAK_BUSY].map fun x => (c.get x).toNat)) ∧ t.core.f F.RENDER_PEAK_BUSY_CYCLES = 0) ∧
  (∀ (s : State) (p : Packet) (e : Entry), let c := s.core.offered opContribRead p; let r := reqOf opContribRead p; s.core.admits
      opContribRead p = true → s.quiet = true → r.n 0 ≤ 8 → r.n 1 ≤ 65535 → r.n 2 = 1 → (c.engineEntries (r.n 0))[r.n 1]? = some e
      → Completes (.contribRead p) s fun t => t.core.answered p .ok (e.src :: natWords 6 e.word)) ∧
  (∀ (s : State) (p : Packet) (e i : Nat), let c := s.core.offered opContribFind p; let r := reqOf opContribFind p; s.core.admits
      opContribFind p = true → s.quiet = true → r.n 2 = 0 → (((List.range 8).filterMap fun e => (findIndex (fun (x : Entry) =>
      x.src = r.n 0 && x.out = r.n 1 && x.bound && (x.bank = 0 || x.bank = c.liveCode)) (c.engineEntries e) 0).map fun i => (e,
      i)).head? = some (e, i)) → Completes (.contribFind p) s fun t => t.core.answered p .ok [e, i, (((c.engineEntries e)[i]?).map
      (·.bank)).getD 0]) ∧
  (∀ (s : State) (p : Packet), let c := s.core.offered opExpertObject p; let r := reqOf opExpertObject p; s.core.admits
      opExpertObject p = true → s.quiet = true → r.n 1 ≤ 1 → r.n 0 < c.caps.objs → Completes (.expertObjectSet p) s fun t =>
      t.core.answered p .ok [] ∧ t.core.ren.expertDue = s.core.ren.expertDue ++ [(r.n 0, decide (r.n 1 = 1))]) ∧
  (∀ (s : State) (p : Packet), let c := s.core.offered opContribWrite p; let r := reqOf opContribWrite p; s.core.admits
      opContribWrite p = true → s.quiet = true → r.n 0 = 1 → r.bytes.length = 24 → c.contribCheck r 0 = none → c.clk.mediaOn = true
      → Completes (.contribWrite p) s fun t => (t.core.told p).map (·.1) = some 0 ∧ t.core.ren.expert.length =
      s.core.ren.expert.length + 1) ∧
  (∀ (s : State) (p : Packet), let c := s.core.offered opNearRead p; let r := reqOf opNearRead p; s.core.admits opNearRead p = true
      → s.quiet = true → r.n 0 < c.caps.objs → r.n 3 = 1 → Completes (.nearRead p) s fun t => (t.core.answered p .ok [if r.n 1 +
      r.n 2 * 2 ^ 32 ≥ c.ren.nearEnd ∨ r.n 1 + r.n 2 * 2 ^ 32 + c.caps.nspan < c.ren.nearEnd ∨ r.n 1 + r.n 2 * 2 ^ 32 < c.nearFrom
      then 0x80000000 else w32 (c.nearWord (r.n 0) (r.n 1 + r.n 2 * 2 ^ 32))])) ∧
  (∀ (s : State) (p : Packet), let c := s.core.offered opRenderCounters p; let r := reqOf opRenderCounters p; s.core.admits
      opRenderCounters p = true → s.quiet = true → Completes (.renderCountersGet p) s fun t => (t.core.answered p .ok
      ([R.RENDER_NEAR_CORRECTED, R.RENDER_NEAR_UNCORRECTED, R.RENDER_FAR_LATE, R.RENDER_FAR_ECC, R.RENDER_OVERRUN,
      R.RENDER_EXPERT_CLAMP, R.RENDER_WINDOW_FETCH, R.RENDER_WINDOW_SHARED, R.RENDER_FAR_FETCH].map fun x => (c.get x).toNat))) ∧
  (∀ (s : State) (p : Packet), let c := s.core.offered opClipCounts p; let r := reqOf opClipCounts p; s.core.admits opClipCounts p
      = true → s.quiet = true → r.n 1 = 1 → r.n 0 < 512 → Completes (.clipCountsGet p) s fun t => t.core.answered p .ok [(c.get
      (R.RENDER_CLIP (r.n 0))).toNat] ∧ t.core.get (R.RENDER_CLIP (r.n 0)) = 0) ∧
  (∀ (s : State) (m : Nat) (v : Word), let c := s.core.written ⟨m, R.RENDER_FIRST_UNCORR, v⟩ 0; s.core.serves m
      R.RENDER_FIRST_UNCORR = true → s.quiet = true → bitOf v 30 = true → Completes (.renderUncorrClear m v) s fun t => t.core.f
      F.RENDER_FIRST_UNCORR_ADDR = 0 ∧ t.core.flag F.RENDER_FIRST_UNCORR_VALID = false)

/-- BINAURAL_SET that passes its checks stages the pair's new set for its anchor and BINAURAL_CHANGE makes it live there, with
the histories cleared and a fade in when more than H changes; DOWNMIX_SET stages a list that DOWNMIX_CHANGE takes and crossfades
to; BINAURAL_GET and DOWNMIX_GET return the configuration and clear the clip count; LOUDNESS_CONFIG gives a meter its channels
and restarts it, LOUDNESS_RESET restarts the integrated value of the named meters, LOUDNESS_GET returns the three values, and a
gating step adds its power, a free value, to the meter's steps. -/
def Obligations.MonitorCommandsComplete : Prop :=
  (∀ (s : State) (p : Packet), let c := s.core.offered opBinauralSet p; let r := reqOf opBinauralSet p; s.core.admits opBinauralSet
      p = true → s.quiet = true → c.binauralCheck r = .ok → Completes (.binauralSet p) s fun t => t.core.answered p .ok [] ∧
      (t.core.pair (r.n 0)).next.map (·.1) = some (binauralOf (r.w 1) (r.w 2)) ∧ (t.core.pair (r.n 0)).next.map (·.2.1) = some (if
      { binauralOf (r.w 1) (r.w 2) with h := (c.pair (r.n 0)).set.h } = (c.pair (r.n 0)).set then c.boundaryAt (c.now + 2 * c.blk)
      else c.anchorB) ∧ (t.core.pair (r.n 0)).set = (c.pair (r.n 0)).set) ∧
  (∀ (s : State) (pair b : Nat) (x : PairSet) (onlyH : Bool), s.quiet = true → (s.core.pair pair).next = some (x, b, onlyH) → b ≤
      s.core.time.n → Completes (.binauralChange pair) s fun t => (t.core.pair pair).set = x ∧ (t.core.pair pair).next = none ∧
      ({ x with h := (s.core.pair pair).set.h } = (s.core.pair pair).set ∨ ((t.core.pair pair).since = s.core.time.n ∧ (t.core.pair
      pair).fade = 2 ∧ (t.core.pair pair).fadeAt = s.core.time.n ∧ (t.core.pair pair).fadeLen = s.core.glaze))) ∧
  (∀ (s : State) (p : Packet) (x : Pair), let c := s.core.offered opBinauralGet p; let r := reqOf opBinauralGet p; s.core.admits
      opBinauralGet p = true → s.quiet = true → r.n 0 ≤ 7 → c.pair (r.n 0) = x → Completes (.binauralGet p) s fun t =>
      t.core.answered p .ok [b2n x.set.on + 2 * b2n x.set.lfe + 4 * x.set.zone + 256 * x.set.h, x.set.item, x.clips + 2 ^ 31 * b2n
      x.sat] ∧ t.core.pair (r.n 0) = { x with clips := 0, sat := false }) ∧
  (∀ (s : State) (p : Packet) (d : MixSet), let c := s.core.offered opDownmixSet p; let r := reqOf opDownmixSet p; s.core.admits
      opDownmixSet p = true → s.quiet = true → c.downmixCheck r = .ok d → Completes (.downmixSet p) s fun t => t.core.answered p
      .ok [] ∧ (t.core.mix (r.n 0)).next = some (d, c.boundaryAt (c.now + 2 * c.blk)) ∧ (d.h = r.n 1 ∧ d.list.map (·.1) =
      (List.range (r.n 2)).map fun i => r.n (3 + 2 * i)) ∧ (t.core.mix (r.n 0)).set = (c.mix (r.n 0)).set) ∧
  (∀ (s : State) (m b : Nat) (d : MixSet), s.quiet = true → (s.core.mix m).next = some (d, b) → b ≤ s.core.time.n → Completes
      (.downmixChange m) s fun t => (t.core.mix m).set = d ∧ (t.core.mix m).next = none ∧ (t.core.mix m).old = some ((s.core.mix
      m).set, s.core.time.n, s.core.glaze)) ∧
  (∀ (s : State) (p : Packet) (x : Mix), let c := s.core.offered opDownmixGet p; let r := reqOf opDownmixGet p; s.core.admits
      opDownmixGet p = true → s.quiet = true → r.n 0 ≤ 47 → c.mix (r.n 0) = x → Completes (.downmixGet p) s fun t =>
      (t.core.answered p .ok ([x.set.h, x.set.list.length] ++ (x.set.list.flatMap fun y => [y.1, w32 y.2]) ++ [x.clips + 2 ^ 31 *
      b2n x.sat]) ∧ t.core.mix (r.n 0) = { x with clips := 0, sat := false })) ∧
  (∀ (s : State) (p : Packet), let c := s.core.offered opLoudnessConfig p; let r := reqOf opLoudnessConfig p; s.core.admits
      opLoudnessConfig p = true → s.quiet = true → r.n 0 ≤ 7 → r.n 1 ≤ 2 → (r.n 1 = 1 → r.n 2 ≤ 7) → (r.n 1 = 2 → 1 ≤ r.n 3 ∧ r.n 3
      ≤ 24 ∧ r.n 2 + r.n 3 ≤ 48 ∧ ∀ i : Nat, i < r.n 3 → (r.n 4 + 2 ^ 32 * r.n 5) / 4 ^ i % 4 ≠ 3) → Completes (.loudnessConfig p)
      s fun t => t.core.answered p .ok [] ∧ t.core.meter (r.n 0) =
      { kind := r.n 1, first := r.n 2, count := r.n 3, weights := r.n 4 + 2 ^ 32 * r.n 5, resetAt := c.now }) ∧
  (∀ (s : State) (p : Packet), let c := s.core.offered opLoudnessGet p; let r := reqOf opLoudnessGet p; s.core.admits opLoudnessGet
      p = true → s.quiet = true → r.n 0 ≤ 7 → Completes (.loudnessGet p) s fun t => t.core.answered p .ok [(meterValues (c.meter
      (r.n 0))).1, (meterValues (c.meter (r.n 0))).2.1, (meterValues (c.meter (r.n 0))).2.2, (c.meter (r.n 0)).resetAt % 2 ^ 32,
      (c.meter (r.n 0)).resetAt / 2 ^ 32]) ∧
  (∀ (s : State) (p : Packet) (q : Nat), let c := s.core.offered opLoudnessReset p; let r := reqOf opLoudnessReset p; s.core.admits
      opLoudnessReset p = true → s.quiet = true → r.n 0 ≤ 255 → q < 8 → Completes (.loudnessReset p) s fun t => t.core.answered p
      .ok [] ∧ (t.core.meter q = if r.n 0 / 2 ^ q % 2 = 1 then { c.meter q with blocks := [], resetAt := c.now } else c.meter q)) ∧
  (∀ (s : State) (q : Nat), s.quiet = true → q ≤ 7 → (s.core.meter q).kind ≠ 0 → s.core.power.engineStop = false → Completes
      (.loudnessGatingBlock q) s fun t => (t.core.meter q).steps.drop 1 = (s.core.meter q).steps.take 29 ∧ ((t.core.meter
      q).blocks.length = (s.core.meter q).blocks.length + if (s.core.meter q).steps.length ≥ 3 then 1 else 0) ∧ t.core.freeIx =
      s.core.freeIx + (meterWeights (s.core.meter q)).length)

/-- At a frame boundary the tail of an output's frame is computed once, and a late tail is 0 for the frame and counted in
OUTPROC_OVERRUN; OUTCHAIN_COMMIT completes with the outcome of its checks, and Palette 1 becomes STAGED_READY when they pass;
OUTCHAIN_GET returns the settings of an output from a bank; OUTPUT_MUTE queues its request for the first boundary two blocks
away, and at its boundary an output's mute bit changes and its fade begins; a fade that has run its length ends with MUTE_DONE;
OUTCHAIN_METERS_GET returns and clears the meters; OUTPROC_LAST_CLIP.CLEAR clears the clip record. -/
def Obligations.OutputChainCompletes : Prop :=
  (∀ (s : State) (o n : Nat), s.quiet = true → o < s.core.caps.outs → s.core.out.inpAt = some n → s.core.frameStart o n = true →
      (s.core.chain o).tailAt ≠ some n → Completes (.firTailFrame o) s fun t => t.core.chain o = s.core.tailFrame (chainSet
      s.core.out.live o) (s.core.chain o) n false ∧ (t.core.chain o).tailAt = some n) ∧
  (∀ (s : State) (o n : Nat), s.quiet = true → o < s.core.caps.outs → s.core.out.inpAt = some n → s.core.frameStart o n = true →
      (chainSet s.core.out.live o).firEn = true → Completes (.tailOverrun o) s fun t => (t.core.chain o).tail = [] ∧ (t.core.chain
      o).tailSat = false ∧ t.core.f F.OUTPROC_OVERRUN_COUNT = min (s.core.f F.OUTPROC_OVERRUN_COUNT + 1) 65535 ∧ t.core.flag
      F.OUTPROC_INT_STATUS_OVERRUN = true) ∧
  (∀ (s : State) (k : Tok), s.quiet = true → s.core.out.commit = some k → Completes .outchainCommitDone s fun t =>
      t.core.out.commit = none ∧ t.core.flag F.OUTPROC_INT_STATUS_COMMIT_DONE = true ∧ ((s.core.outAdmit s.core.out.staged).1 = .ok
      → t.core.flag (stagedReady 1) = true ∧ t.core.f F.OUTPROC_STATUS_CORES = (s.core.outAdmit s.core.out.staged).2.1 % 256) ∧
      ((s.core.outAdmit s.core.out.staged).1 ≠ .ok → t.core.flag (stagedReady 1) = s.core.flag (stagedReady 1)) ∧ t.core.out.live =
      s.core.out.live) ∧
  (∀ (s : State) (p : Packet) (x : ChainSet), let c := s.core.offered opOutchainGet p; let r := reqOf opOutchainGet p;
      s.core.admits opOutchainGet p = true → s.quiet = true → r.n 0 < c.caps.outs → r.n 1 ≤ 1 → chainSet (if r.n 1 = 0 then
      c.out.live else c.out.staged) (r.n 0) = x → Completes (.outchainGet p) s fun t => (t.core.answered p .ok ([unsigned 16 x.trim
      + 2 ^ 16 * x.h + 2 ^ 20 * b2n x.firEn + 2 ^ 21 * b2n x.varnishEn, x.align] ++ (((List.range 16).map fun q => smGet (fun _ =>
      {}) x.sections q).flatMap fun b => [b2n b.bypass, w32 b.b0, w32 b.b1, w32 b.b2, w32 b.a1, w32 b.a2]) ++ [x.firItem, w32
      x.thresh, x.knee, x.release, x.link]))) ∧
  (∀ (s : State) (p : Packet), let c := s.core.offered opOutputMute p; let r := reqOf opOutputMute p; s.core.admits opOutputMute p
      = true → s.quiet = true → r.n 2 ≤ 1 → 1 ≤ r.n 1 → r.n 0 + r.n 1 ≤ c.caps.outs → Completes (.outputMute p) s fun t =>
      t.core.answered p .accepted [] ∧ t.core.out.mutes = s.core.out.mutes ++
      [{ b := c.boundaryAt (c.now + 2 * c.blk), mute := decide (r.n 2 = 1), todo := (List.range (r.n 1)).map (· + r.n 0), tok := r.tok }])
      ∧
  (∀ (s : State) (o : Nat) (q : MuteReq), s.quiet = true → o < 512 → s.core.out.mutes = [q] → o ∈ q.todo → q.b ≤ s.core.now → smGet
      (fun _ => none) s.core.out.fades o = none → s.core.flag (muteBit o) ≠ q.mute → Completes (.muteApply o) s fun t =>
      t.core.flag (muteBit o) = q.mute ∧ smGet (fun _ => none) t.core.out.fades o = some (q.mute, s.core.boundaryAt s.core.now,
      s.core.glaze) ∧ t.core.out.mutes = [{ q with todo := q.todo.erase o, fading := q.fading ++ [o] }]) ∧
  (∀ (s : State) (o at_ g : Nat) (m : Bool), s.quiet = true → smGet (fun _ => none) s.core.out.fades o = some (m, at_, g) → at_ + g
      ≤ s.core.now → Completes (.muteFadeEnd o) s fun t => smGet (fun _ => none) t.core.out.fades o = none ∧ t.core.flag
      F.OUTPROC_INT_STATUS_MUTE_DONE = true ∧ t.core.out.mutes.all (fun q => !(q.todo.isEmpty && q.fading.isEmpty)) = true) ∧
  (∀ (s : State) (p : Packet) (o : Nat), let c := s.core.offered opOutchainMeters p; let r := reqOf opOutchainMeters p;
      s.core.admits opOutchainMeters p = true → s.quiet = true → 1 ≤ r.n 1 → r.n 0 + r.n 1 ≤ c.caps.outs → r.n 0 ≤ o → o < r.n 0 +
      r.n 1 → Completes (.outchainMetersGet p) s fun t => (t.core.answered p .ok (((List.range (r.n 1)).map (· + r.n 0)).flatMap
      fun o => [(c.get (R.OUTPROC_GR o)).toNat, (c.get (R.OUTPROC_CLIP o)).toNat])) ∧ t.core.get (R.OUTPROC_GR o) = 0 ∧ t.core.get
      (R.OUTPROC_CLIP o) = 0) ∧
  (∀ (s : State) (m : Nat) (v : Word), let c := s.core.written ⟨m, R.OUTPROC_LAST_CLIP, v⟩ 0; s.core.serves m R.OUTPROC_LAST_CLIP =
      true → s.quiet = true → bitOf v 30 = true → Completes (.lastClipClear m v) s fun t => t.core.get R.OUTPROC_LAST_CLIP = 0)

/-- An OUTCHAIN_BEGIN empties the staged bank or copies the live one into it; OUTCHAIN_SET, BIQUAD_SET, FIR_SET and VARNISH_SET
with values in range write their settings into every output of their range and leave every other output's settings as they were;
OUTCHAIN_COMMIT starts the commit. Each is refused while Palette 1 is busy, and a proposal of Survey that is staged is withdrawn
first. -/
def Obligations.PaletteOneEditsComplete : Prop :=
  (∀ (s : State) (p : Packet), let c := s.core.offered opOutchainBegin p; let r := reqOf opOutchainBegin p; s.core.admits
      opOutchainBegin p = true → s.quiet = true → r.n 0 ≤ 1 → c.outBusy = false → Completes (.outchainBegin p) s fun t =>
      t.core.answered p .ok [] ∧ (t.core.out.staged = if r.n 0 = 1 then c.out.live else []) ∧ t.core.flag (stagedReady 1) = false)
      ∧
  (∀ (s : State) (p : Packet) (o : Nat), let c := s.core.offered opOutchainSet p; let r := reqOf opOutchainSet p; s.core.admits
      opOutchainSet p = true → s.quiet = true → c.outBusy = false → bitsOf (r.w 2) 31 22 = 0 → trimOk (signed 16 (r.w 2).toNat) =
      true → r.n 3 ≤ 8191 → 1 ≤ r.n 1 → r.n 0 + r.n 1 ≤ c.caps.outs → Completes (.outchainSet p) s fun t => t.core.answered p .ok
      [] ∧ (chainSet t.core.out.staged o = if r.n 0 ≤ o ∧ o < r.n 0 + r.n 1 then
      { chainSet (c.withdraw 5).out.staged o with trim := signed 16 (r.w 2).toNat, h := bitsOf (r.w 2) 19 16, firEn := bitOf (r.w 2) 20, varnishEn := bitOf (r.w 2) 21, align := r.n 3 }
      else chainSet (c.withdraw 5).out.staged o) ∧ t.core.out.live = c.out.live) ∧
  (∀ (s : State) (p : Packet) (o : Nat) (bs : List Biquad), let c := s.core.offered opBiquadSet p; let r := reqOf opBiquadSet p;
      s.core.admits opBiquadSet p = true → s.quiet = true → c.outBusy = false → 1 ≤ r.n 3 → r.n 2 + r.n 3 ≤ 16 → r.bytes.length =
      16 + 24 * r.n 3 → (List.range (r.n 3)).mapM (biquadOf r) = some bs → bs.all biquadOk = true → 1 ≤ r.n 1 → r.n 0 + r.n 1 ≤
      c.caps.outs → Completes (.biquadSet p) s fun t => t.core.answered p .ok [] ∧ (∀ q : Nat, q < 16 → smGet (fun _ => {})
      (chainSet t.core.out.staged o).sections q = if r.n 0 ≤ o ∧ o < r.n 0 + r.n 1 ∧ r.n 2 ≤ q ∧ q < r.n 2 + r.n 3 then bs.getD (q
      - r.n 2) {} else smGet (fun _ => {}) (chainSet (c.withdraw 5).out.staged o).sections q)) ∧
  (∀ (s : State) (p : Packet) (o : Nat), let c := s.core.offered opFirSet p; let r := reqOf opFirSet p; s.core.admits opFirSet p =
      true → s.quiet = true → c.outBusy = false → 1 ≤ r.n 1 → r.n 0 + r.n 1 ≤ c.caps.outs → Completes (.firSet p) s fun t =>
      t.core.answered p .ok [] ∧ (chainSet t.core.out.staged o = if r.n 0 ≤ o ∧ o < r.n 0 + r.n 1 then
      { chainSet (c.withdraw 5).out.staged o with firItem := r.n 2 } else chainSet (c.withdraw 5).out.staged o)) ∧
  (∀ (s : State) (p : Packet) (o : Nat) (k : Int), let c := s.core.offered opVarnishSet p; let r := reqOf opVarnishSet p;
      s.core.admits opVarnishSet p = true → s.quiet = true → c.outBusy = false → sext? 16 (r.w 2) = some k → -4000 ≤ k ∧ k ≤ 0 →
      r.n 3 ≤ 1200 → 1 ≤ r.n 4 ∧ r.n 4 ≤ 2000 → r.n 5 ≤ 63 → 1 ≤ r.n 1 → r.n 0 + r.n 1 ≤ c.caps.outs → Completes (.varnishSet p) s
      fun t => t.core.answered p .ok [] ∧ (chainSet t.core.out.staged o = if r.n 0 ≤ o ∧ o < r.n 0 + r.n 1 then
      { chainSet (c.withdraw 5).out.staged o with thresh := k, knee := r.n 3, release := r.n 4, link := r.n 5 } else chainSet
      (c.withdraw 5).out.staged o)) ∧
  (∀ (s : State) (p : Packet), let c := s.core.offered opOutchainCommit p; let r := reqOf opOutchainCommit p; s.core.admits
      opOutchainCommit p = true → s.quiet = true → c.outBusy = false → Completes (.outchainCommit p) s fun t => t.core.answered p
      .accepted [] ∧ t.core.out.commit = some r.tok ∧ t.core.out.staged = (c.withdraw 5).out.staged)

/-- MEASURE_START with values in range schedules the measurement for its anchor; the first turn begins there, a turn ends after
its length and the next one starts or the outputs fade back, each finished turn gives its results, and the measurement completes
with MEAS_DONE; MEASURE_ABORT ends it; RESULT_GET and RESULT_BANDS_GET return a stored result; RESULT_STORE and DESIGN start
their operation and end with the item in the library. The taps of a measured response lie within one LSB of the exact value, a
free value. -/
def Obligations.MeasurementAndDesignComplete : Prop :=
  (∀ (s : State) (p : Packet), let c := s.core.offered opSurveyStatus p; let r := reqOf opSurveyStatus p; s.core.admits
      opSurveyStatus p = true → s.quiet = true → Completes (.surveyStatusGet p) s fun t => (t.core.answered p .ok ([(c.get
      R.SURVEY_STATUS).toNat, (c.get R.SURVEY_TEMP).toNat, (c.get R.PDM_STATUS).toNat] ++ (c.survey.meas.map fun m => [m.done,
      m.outs.length]).getD [0, 0]))) ∧
  (∀ (s : State) (p : Packet) (m : Meas), let c := s.core.offered opMeasureStart p; let r := reqOf opMeasureStart p; s.core.admits
      opMeasureStart p = true → s.quiet = true → c.clk.mult ≠ 2 → 1 ≤ r.n 9 ∧ r.n 9 ≤ 512 → r.bytes.length = 40 + 4 * r.n 9 → sext?
      16 (r.w 1) = some m.level → (m =
      { kind := r.n 0, level := m.level, post := bitOf (r.w 2) 0, muteOthers := bitOf (r.w 2) 1, mic := r.n 3, repeats := r.n 4, p1 := r.n 5, p2 := r.n 6, p3 := r.n 7, gap := r.n 8, outs := (List.range (r.n 9)).map fun i => r.n (10 + i), tok := r.tok, b := c.anchorB, g := c.glaze })
      → r.n 2 ≤ 3 → m.outs.eraseDups.length = r.n 9 → m.ranges c.fsHz = true → m.outs.all (fun o => decide (o < c.caps.outs)) =
      true → c.survey.meas = none → Completes (.measureStart p) s fun t => t.core.answered p .accepted [] ∧ t.core.survey.meas =
      some m) ∧
  (∀ (s : State) (m : Meas), s.quiet = true → s.core.survey.meas = some m → m.turn = none ∧ m.done = 0 ∧ m.waiting = [] ∧ m.backAt
      = none → m.b ≤ s.core.now → Completes .measureBegin s fun t => t.core.survey.meas = some
      { m with turn := some (0, s.core.boundaryAt s.core.now) } ∧ t.core.f F.SURVEY_STATUS_MEAS = 1) ∧
  (∀ (s : State) (m : Meas) (k at_ : Nat), s.quiet = true → s.core.survey.meas = some m → m.turn = some (k, at_) → at_ + m.turnLen
      ≤ s.core.now → Completes .measureTurnEnd s fun t => t.core.survey.meas.map (·.turn) = some (if k + 1 < m.outs.length then
      some (k + 1, s.core.boundaryAt s.core.now) else none) ∧ t.core.survey.meas.map (·.backAt) = some (if k + 1 < m.outs.length
      then m.backAt else some (s.core.boundaryAt s.core.now)) ∧ t.core.survey.meas.map (fun x => (x.waiting.length, x.cap)) = some
      (m.waiting.length + 1, [])) ∧
  (∀ (s : State) (m : Meas) (k full silent : Nat) (cap : SMap (List Int)) (u : List (Nat × SMap (List Int) × Nat × Nat)), s.quiet =
      true → s.core.survey.meas = some m → m.waiting = (k, cap, full, silent) :: u → Completes .turnResultsDone s fun t =>
      t.core.survey.meas = some { m with waiting := u, done := m.done + 1 } ∧ (∀ ch : Nat, ch < 16 → m.mic / 2 ^ ch % 2 = 1 →
      t.core.result? (m.outs.getD k 0) ch = some (s.core.resultOf m k cap full silent ch))) ∧
  (∀ (s : State) (m : Meas) (k : Nat), s.quiet = true → s.core.survey.meas = some m → m.backAt = some k → k + m.g ≤ s.core.now →
      m.waiting = [] → Completes .measureComplete s fun t => t.core.survey.meas = none ∧ t.core.flag F.SURVEY_INT_STATUS_MEAS_DONE
      = true ∧ (t.core.f F.SURVEY_STATUS_MEAS = if s.core.survey.design.isSome then 3 else 0)) ∧
  (∀ (s : State) (p : Packet) (m : Meas), let c := s.core.offered opMeasureAbort p; let r := reqOf opMeasureAbort p; s.core.admits
      opMeasureAbort p = true → s.quiet = true → c.clk.mult ≠ 2 → c.survey.meas = some m → Completes (.measureAbort p) s fun t =>
      t.core.answered p .ok [] ∧ t.core.survey.meas = some (if m.backAt.isSome then { m with aborted := true } else
      { m with aborted := true, turn := none, cap := [], backAt := some c.nextB })) ∧
  (∀ (s : State) (p : Packet) (x : SurveyResult), let c := s.core.offered opResultGet p; let r := reqOf opResultGet p;
      s.core.admits opResultGet p = true → s.quiet = true → c.clk.mult ≠ 2 → r.n 0 < c.caps.outs → r.n 1 ≤ 15 → r.n 3 ≤ 1000 → r.n
      2 + r.n 3 ≤ 16384 → c.result? (r.n 0) (r.n 1) = some x → Completes (.resultGet p) s fun t => t.core.answered p .ok
      ([x.arrival, w32 x.level, x.flags] ++ ((x.taps.drop (r.n 2)).take (r.n 3)).map w32)) ∧
  (∀ (s : State) (p : Packet) (x : SurveyResult), let c := s.core.offered opResultBands p; let r := reqOf opResultBands p;
      s.core.admits opResultBands p = true → s.quiet = true → c.clk.mult ≠ 2 → r.n 0 < c.caps.outs → r.n 1 ≤ 15 → c.result? (r.n 0)
      (r.n 1) = some x → Completes (.resultBandsGet p) s fun t => (t.core.answered p .ok ((List.range 120).map fun w => unsigned 16
      (x.bands.getD (2 * w) 0) + 2 ^ 16 * unsigned 16 (x.bands.getD (2 * w + 1) 0)))) ∧
  (∀ (s : State) (p : Packet), let c := s.core.offered opResultStore p; let r := reqOf opResultStore p; s.core.admits opResultStore
      p = true → s.quiet = true → c.clk.mult ≠ 2 → r.n 0 < c.caps.outs → r.n 1 ≤ 15 → r.n 2 ≠ 0xFFFFFFFF → (c.result? (r.n 0) (r.n
      1)).isSome = true → r.n 2 ≠ ledgerItem → c.flag F.SYS_STATUS_VIN_WARN = false → c.survey.store = none → c.itemLocked (r.n 2)
      r.tok.session = false → 66044 ≤ c.libFree → Completes (.resultStore p) s fun t => t.core.answered p .accepted [] ∧
      t.core.survey.store = some (r.tok, 16 * r.n 0 + r.n 1, r.n 2)) ∧
  (∀ (s : State) (k : Tok) (key item : Nat) (x : SurveyResult), s.quiet = true → s.core.survey.store = some (k, key, item) →
      s.core.flag F.SYS_STATUS_VIN_WARN = false → smGet (fun _ => none) s.core.survey.results key = some x → item ≠ ledgerItem →
      s.core.flash.lib = [] → Completes .resultStoreDone s fun t => t.core.survey.store = none ∧ (t.core.item? item).map (fun y =>
      (y.kind, y.data)) = some (3, measurementItem s.core.fsHz x)) ∧
  (∀ (s : State) (p : Packet) (pts : List (Nat × Int)), let c := s.core.offered opDesign p; let r := reqOf opDesign p;
      s.core.admits opDesign p = true → s.quiet = true → c.clk.mult ≠ 2 → 2 ≤ r.n 10 ∧ r.n 10 ≤ 32 → r.bytes.length = 44 + 8 * r.n
      10 → (((List.range (r.n 10)).mapM fun i => (sext? 16 (r.w (12 + 2 * i))).map fun l => (r.n (11 + 2 * i), l)) = some pts) →
      r.n 3 % 128 = 0 → 512 ≤ r.n 3 ∧ r.n 3 ≤ 8192 → r.n 4 ≤ 1 ∧ r.n 5 ≤ 5 → 20 ≤ r.n 6 ∧ r.n 6 < r.n 7 ∧ r.n 7 ≤ 20000 → r.n 8 ≤
      600 ∧ r.n 9 ≤ 2400 → rising pts = true → pts.all (fun x => decide (x.1 ≠ 0)) = true → r.n 0 < c.caps.outs → 1 ≤ r.n 1 ∧ r.n 1
      ≤ 0xFFFF → r.n 2 ≠ 0xFFFFFFFF ∧ r.n 2 ≠ ledgerItem → ((maskChannels (r.n 1)).all (fun ch => ((c.result? (r.n 0) ch).map fun y
      => decide (y.flags / 8 % 2 = 0)).getD false) = true) → c.flag F.SYS_STATUS_VIN_WARN = false → c.survey.design = none →
      c.itemLocked (r.n 2) r.tok.session = false → 20 + 4 * r.n 3 ≤ c.libFree → Completes (.design p) s fun t => t.core.answered p
      .accepted [] ∧ t.core.survey.design = some
      { tok := r.tok, out := r.n 0, mask := r.n 1, item := r.n 2, taps := r.n 3, linear := decide (r.n 4 = 1), smooth := r.n 5, fLo := r.n 6, fHi := r.n 7, boost := r.n 8, cut := r.n 9, points := pts })
      ∧
  (∀ (s : State) (d : DesignReq), s.quiet = true → s.core.survey.design = some d → s.core.flag F.SYS_STATUS_VIN_WARN = false →
      d.item ≠ ledgerItem → s.core.flash.lib = [] → Completes .designDone s fun t => t.core.survey.design = none ∧ t.core.flag
      F.SURVEY_INT_STATUS_DESIGN_DONE = true ∧ (t.core.item? d.item).map (·.kind) = some 1)

/-- LIVE_CONFIG and LIVE_POLICY_SET stage values that the end of a window puts into force; LIVE_OUTPUT_SET and LIVE_TIMING_SET
define a managed output and a timing pair; LIVE_REBASE begins a baseline; a whole window that ends is counted; a proposal's
commit stages it or, under APPLY, schedules its swap; PROPOSAL_GET, PROPOSAL_APPLY and PROPOSAL_DISCARD return, swap in and
withdraw it; one not applied within TTL is withdrawn; the gathered log records are written and read. -/
def Obligations.SurveyLiveCompletes : Prop :=
  (∀ (s : State) (p : Packet), let c := s.core.offered opLiveConfig p; let r := reqOf opLiveConfig p; s.core.admits opLiveConfig p
      = true → s.quiet = true → c.clk.mult ≠ 2 → 50 ≤ r.n 0 ∧ r.n 0 ≤ 99 → r.n 1 ≤ 300 ∧ r.n 2 ≤ 600 ∧ r.n 3 ≤ 100 → 1 ≤ r.n 4 ∧
      r.n 4 ≤ 100 → 10 ≤ r.n 5 ∧ r.n 5 ≤ 600 → 16 ≤ r.n 6 ∧ r.n 6 ≤ 4096 ∧ r.n 6 % 16 = 0 → 1 ≤ r.n 7 ∧ r.n 7 ≤ 16 → 1 ≤ r.n 8 ∧
      r.n 8 ≤ 64 → Completes (.liveConfig p) s fun t => t.core.answered p .ok [] ∧ t.core.survey.cfgNext = some
      { coh := r.n 0, shelfMax := r.n 1, bandMax := r.n 2, rate := r.n 3, deadband := r.n 4, ttl := r.n 5, glaze := r.n 6, alignStep := r.n 7, baseWin := r.n 8 }
      ∧ t.core.survey.cfg = c.survey.cfg) ∧
  (∀ (s : State) (p : Packet) (mics : List (Nat × Nat)), let c := s.core.offered opLiveOutputSet p;
      let r := reqOf opLiveOutputSet p; s.core.admits opLiveOutputSet p = true → s.quiet = true → c.clk.mult ≠ 2 → r.bytes.length =
      8 + 4 * (maskChannels (bitsOf (r.w 1) 31 16)).length → bitsOf (r.w 1) 15 2 = 0 → r.n 0 < c.caps.outs → (mics = (maskChannels
      (bitsOf (r.w 1) 31 16)).zipIdx.map fun x => (x.1, r.n (2 + x.2))) → mics.all (fun m => decide (m.2 ≤ 32767)) = true → bitOf
      (r.w 1) 0 = true → (c.liveOut (r.n 0)).managed = true → (((c.managed.filter fun x => decide (x.1 ≠ r.n 0)).foldl (fun a x =>
      a + x.2.mics.length) mics.length) ≤ 2048) → Completes (.liveOutputSet p) s fun t => t.core.answered p .ok [] ∧ t.core.liveOut
      (r.n 0) = { c.liveOut (r.n 0) with managed := true, speed := bitOf (r.w 1) 1, mics := mics }) ∧
  (∀ (s : State) (p : Packet), let c := s.core.offered opLiveOutputSet p; let r := reqOf opLiveOutputSet p; s.core.admits
      opLiveOutputSet p = true → s.quiet = true → c.clk.mult ≠ 2 → r.bytes.length = 8 + 4 * (maskChannels (bitsOf (r.w 1) 31
      16)).length → bitsOf (r.w 1) 15 2 = 0 → r.n 0 < c.caps.outs → maskChannels (bitsOf (r.w 1) 31 16) = [] → bitOf (r.w 1) 0 =
      true → (c.liveOut (r.n 0)).managed = false → (∀ q : Nat, q < 4 → (smGet (fun _ => {}) (chainSet c.out.live (r.n 0)).sections
      (12 + q)).bypass = true) → ((c.managed.filter fun x => decide (x.1 ≠ r.n 0)).foldl (fun a x => a + x.2.mics.length) 0 ≤ 2048)
      → Completes (.liveOutputSet p) s fun t => t.core.answered p .ok [] ∧ t.core.liveOut (r.n 0) =
      { managed := true, speed := bitOf (r.w 1) 1, mics := [], a0 := (chainSet c.out.live (r.n 0)).align }) ∧
  (∀ (s : State) (p : Packet), let c := s.core.offered opLiveTimingSet p; let r := reqOf opLiveTimingSet p; s.core.admits
      opLiveTimingSet p = true → s.quiet = true → c.clk.mult ≠ 2 → r.n 1 ≤ 1 → r.n 0 ≤ 15 ∧ r.n 2 < c.caps.outs ∧ r.n 3 ≤ 15 ∧
      40960 ≤ r.n 4 ∧ r.n 5 ≤ 32767 → Completes (.liveTimingSet p) s fun t => t.core.answered p .ok [] ∧ t.core.timing (r.n 0) =
      { en := decide (r.n 1 = 1), out := r.n 2, ch := r.n 3, d := r.n 4, lag := r.n 5 }) ∧
  (∀ (s : State) (p : Packet), let c := s.core.offered opLivePolicySet p; let r := reqOf opLivePolicySet p; s.core.admits
      opLivePolicySet p = true → s.quiet = true → c.clk.mult ≠ 2 → r.n 0 ≤ 2 → Completes (.livePolicySet p) s fun t =>
      t.core.answered p .ok [] ∧ t.core.survey.policyNext = some (r.n 0) ∧ t.core.policy = c.policy) ∧
  (∀ (s : State) (p : Packet), let c := s.core.offered opLiveRebase p; let r := reqOf opLiveRebase p; s.core.admits opLiveRebase p
      = true → s.quiet = true → c.clk.mult ≠ 2 → c.policy ≠ 0 → Completes (.liveRebase p) s fun t => t.core.answered p .accepted []
      ∧ t.core.survey.rebaseTok = some r.tok ∧ t.core.survey.base = [] ∧ t.core.survey.windows = 0 ∧ t.core.flag
      F.SURVEY_STATUS_BASELINE = true) ∧
  (∀ (s : State) (p : Packet) (x : Proposal), let c := s.core.offered opProposalGet p; let r := reqOf opProposalGet p;
      s.core.admits opProposalGet p = true → s.quiet = true → c.clk.mult ≠ 2 → 1 ≤ r.n 1 ∧ r.n 1 ≤ 64 → r.n 0 + r.n 1 ≤ c.caps.outs
      → c.staged? = some x → Completes (.proposalGet p) s fun t => (t.core.told p).map (·.1) = some 0 ∧ (t.core.told p).map
      (·.2.length) = some (44 * r.n 1) ∧ (t.core.told p).map (fun y => leNat (y.2.take 4)) = some ((x.changes.filter (·.out = r.n
      0)).foldl (fun a y => a + 2 ^ y.q) 0 % 2 ^ 32)) ∧
  (∀ (s : State) (p : Packet) (x : Proposal), let c := s.core.offered opProposalApply p; let r := reqOf opProposalApply p;
      s.core.admits opProposalApply p = true → s.quiet = true → c.clk.mult ≠ 2 → c.staged? = some x → c.swapCheck 2 (r.n 0) = none
      → Completes (.proposalApply p) s fun t => t.core.answered p .accepted [] ∧ t.core.survey.proposal = some
      { x with swapB := some (c.boundaryAt (c.now + 2 * c.blk)) } ∧ (t.core.cal.swaps = c.cal.swaps ++
      [{ mask := 2, b := c.boundaryAt (c.now + 2 * c.blk), g := if r.n 0 = 0 then c.survey.cfg.glaze else r.n 0, tok := some r.tok, timed := false }]))
      ∧
  (∀ (s : State) (p : Packet) (x : Proposal), let c := s.core.offered opProposalDiscard p; let r := reqOf opProposalDiscard p;
      s.core.admits opProposalDiscard p = true → s.quiet = true → c.clk.mult ≠ 2 → c.staged? = some x → x.swapB = none → Completes
      (.proposalDiscard p) s fun t => t.core.answered p .ok [] ∧ t.core.survey.proposal = none ∧ t.core.out.staged = c.out.live ∧
      t.core.flag F.SURVEY_STATUS_PROPOSAL = false ∧ t.core.flag F.SURVEY_INT_STATUS_WITHDRAWN = true) ∧
  (∀ (s : State) (q : Nat) (x : LiveCfg), s.quiet = true → s.core.now % s.core.windowLen = 0 → s.core.now ≠ 0 → s.core.clk.mult ≠ 2
      → s.core.clk.mediaOn = true → s.core.policy = 0 → s.core.survey.policyNext = some q → s.core.survey.cfgNext = some x → 1 ≤ q
      ∧ q ≤ 2 → Completes .surveyWindowEnd s fun t => t.core.policy = q ∧ t.core.survey.cfg = x ∧ t.core.survey.policyNext = none ∧
      t.core.survey.cfgNext = none ∧ t.core.flag F.SURVEY_STATUS_BASELINE = true) ∧
  (∀ (s : State), s.quiet = true → s.core.now % s.core.windowLen = 0 → s.core.now ≠ 0 → s.core.clk.mult ≠ 2 → s.core.clk.mediaOn =
      true → s.core.policy ≠ 0 → s.core.windowWhole (s.core.now - s.core.windowLen) = true → Completes .surveyWindowEnd s fun t =>
      t.core.get R.SURVEY_WINDOWS = s.core.get R.SURVEY_WINDOWS + 1 ∧ t.core.get64 R.SURVEY_LAST_WINDOW_LO R.SURVEY_LAST_WINDOW_HI
      = (s.core.now - s.core.windowLen) % 2 ^ 64) ∧
  (∀ (s : State) (x : Proposal), s.quiet = true → s.core.survey.proposal = some x → x.staged = none → (s.core.outAdmit
      s.core.out.staged).1 = .ok → s.core.policy ≠ 2 → Completes .proposalCommitDone s fun t => t.core.survey.proposal = some
      { x with staged := some s.core.now } ∧ t.core.flag F.SURVEY_INT_STATUS_PROPOSAL = true ∧ t.core.flag F.SURVEY_STATUS_PROPOSAL
      = true ∧ t.core.flag (stagedReady 1) = true ∧ t.core.get R.SURVEY_PROPOSALS = s.core.get R.SURVEY_PROPOSALS + 1) ∧
  (∀ (s : State) (x : Proposal), s.quiet = true → s.core.survey.proposal = some x → x.staged = none → (s.core.outAdmit
      s.core.out.staged).1 = .ok → s.core.policy = 2 → Completes .proposalCommitDone s fun t => t.core.survey.proposal = some
      { x with staged := some s.core.now, swapB := some (s.core.boundaryAt (s.core.now + 2 * s.core.blk)) } ∧ t.core.cal.swaps =
      s.core.cal.swaps ++
      [{ mask := 2, b := s.core.boundaryAt (s.core.now + 2 * s.core.blk), g := s.core.survey.cfg.glaze, tok := none, timed := false }])
      ∧
  (∀ (s : State) (x : Proposal) (n : Nat), s.quiet = true → s.core.survey.proposal = some x → x.staged = some n → n +
      s.core.survey.cfg.ttl * s.core.fsHz ≤ s.core.now → x.swapB = none → Completes .proposalExpire s fun t =>
      t.core.survey.proposal = none ∧ t.core.out.staged = s.core.out.live ∧ t.core.flag F.SURVEY_STATUS_PROPOSAL = false ∧
      t.core.flag F.SURVEY_INT_STATUS_WITHDRAWN = true) ∧
  (∀ (s : State), s.quiet = true → s.core.flag F.SYS_STATUS_VIN_WARN = false → Completes .surveyLogFlush s fun t =>
      t.core.survey.logHeld = [] ∧ t.core.survey.logNext = s.core.survey.logNext + s.core.survey.logHeld.length ∧
      (s.core.survey.logHeld.length ≤ surveyRing → ∀ i : Nat, i < s.core.survey.logHeld.length → smGet (fun _ => none)
      t.core.survey.log ((s.core.survey.logNext + i) % surveyRing) = s.core.survey.logHeld[i]?)) ∧
  (∀ (s : State) (p : Packet) (x : SurveyLog), let c := s.core.offered opSurveyLogRead p; let r := reqOf opSurveyLogRead p;
      s.core.admits opSurveyLogRead p = true → s.quiet = true → c.clk.mult ≠ 2 → r.n 2 = 1 → c.logOldest ≤ r.n 0 + 2 ^ 32 * r.n 1 →
      r.n 0 + 2 ^ 32 * r.n 1 < c.survey.logNext → smGet (fun _ => none) c.survey.log ((r.n 0 + 2 ^ 32 * r.n 1) % surveyRing) = some
      x → Completes (.surveyLogRead p) s fun t => t.core.told p = some (0, surveyLogBytes (r.n 0 + 2 ^ 32 * r.n 1) x)) ∧
  (∀ (s : State) (p : Packet), let c := s.core.offered opSurveyLogInfo p; let r := reqOf opSurveyLogInfo p; s.core.admits
      opSurveyLogInfo p = true → s.quiet = true → c.clk.mult ≠ 2 → Completes (.surveyLogInfo p) s fun t => t.core.answered p .ok
      [c.logOldest % 2 ^ 32, c.logOldest / 2 ^ 32, c.survey.logNext % 2 ^ 32, c.survey.logNext / 2 ^ 32, (c.get
      R.SURVEY_LOG_DROP).toNat])

/-- DETECTOR_GET returns peak, RMS and envelope of the sixteen channels and clears the peaks; DETECTOR_CONFIG sets
SURVEY_DET_CTRL; a complete RMS window puts the root of the mean square into the channel's register and starts the next;
PDM_CONFIG writes the clock and chain controls but D1, which is firmware's; PDM_FIR_LOAD loads the 32 coefficients while no
chain is enabled; a settling hold ends with SETTLED, a stuck input raises STUCK and counts, and returning transitions restart
the hold. -/
def Obligations.DetectorsAndPdmComplete : Prop :=
  (∀ (s : State) (p : Packet) (n : Nat), let c := s.core.offered opDetectorGet p; let r := reqOf opDetectorGet p; s.core.admits
      opDetectorGet p = true → s.quiet = true → c.clk.mult ≠ 2 → n < 16 → Completes (.detectorGet p) s fun t => (t.core.answered p
      .ok ((List.range 16).flatMap fun n => [c.f (F.SURVEY_DET_PEAK_PEAK n), c.f (F.SURVEY_DET_RMS_RMS n), c.f
      (F.SURVEY_DET_ENV_ENV n)])) ∧ t.core.get (R.SURVEY_DET_PEAK n) = 0 ∧ t.core.get (R.SURVEY_DET_RMS n) = c.get
      (R.SURVEY_DET_RMS n)) ∧
  (∀ (s : State) (p : Packet), let c := s.core.offered opDetectorConfig p; let r := reqOf opDetectorConfig p; s.core.admits
      opDetectorConfig p = true → s.quiet = true → c.clk.mult ≠ 2 → bitsOf (r.w 0) 7 3 = 0 ∧ bitsOf (r.w 0) 31 28 = 0 → bitsOf (r.w
      0) 2 0 ≤ 6 ∧ bitsOf (r.w 0) 15 8 ≠ 0 ∧ bitsOf (r.w 0) 27 16 ≠ 0 → Completes (.detectorConfig p) s fun t => t.core.answered p
      .ok [] ∧ t.core.get R.SURVEY_DET_CTRL = r.w 0) ∧
  (∀ (s : State) (n : Nat), s.quiet = true → n < 16 → s.core.rmsLen ≤ (smGet (fun _ => (0, 0)) s.core.survey.rms n).2 → Completes
      (.detectorRmsWindow n) s fun t => smGet (fun _ => (0, 0)) t.core.survey.rms n = (0, 0) ∧ t.core.f (F.SURVEY_DET_RMS_RMS n) =
      isqrt ((smGet (fun _ => (0, 0)) s.core.survey.rms n).1 / (smGet (fun _ => (0, 0)) s.core.survey.rms n).2) % 2 ^ 24) ∧
  (∀ (s : State) (p : Packet) (n : Nat), let c := s.core.offered opPdmConfig p; let r := reqOf opPdmConfig p; s.core.admits
      opPdmConfig p = true → s.quiet = true → c.clk.mult ≠ 2 → r.w 0 &&& 0xFFFFCCCC = 0 → (∀ n : Nat, n < 16 → r.w (1 + n) &&&
      0xFF00F008 = 0) → n < 16 → Completes (.pdmConfig p) s fun t => t.core.answered p .ok [] ∧ t.core.get R.PDM_CLK_CTRL = r.w 0 ∧
      t.core.get (R.PDM_CH_CTRL n) = (r.w (1 + n) &&& ~~~6) ||| (c.get (R.PDM_CH_CTRL n) &&& 6)) ∧
  (∀ (s : State) (p : Packet) (k : Nat), let c := s.core.offered opPdmFirLoad p; let r := reqOf opPdmFirLoad p; s.core.admits
      opPdmFirLoad p = true → s.quiet = true → c.clk.mult ≠ 2 → (∀ k : Nat, k < 32 → (sext? 24 (r.w k)).isSome = true) → (∀ n :
      Nat, n < 16 → c.flag (F.PDM_CH_CTRL_EN n) = false) → k < 32 → Completes (.pdmFirLoad p) s fun t => t.core.answered p .ok [] ∧
      t.core.get (R.PDM_FIR_COEF k) = r.w k) ∧
  (∀ (s : State) (n : Nat), s.quiet = true → n < 16 → (s.core.pdm n).hold = some 0 → Completes (.pdmHoldEnd n) s fun t =>
      t.core.pdm n = { s.core.pdm n with hold := none, fadeAt := some (s.core.now, s.core.glaze) } ∧ t.core.flag ⟨R.PDM_STATUS, n,
      n⟩ = true ∧ t.core.flag F.PDM_INT_STATUS_SETTLED = true) ∧
  (∀ (s : State) (n : Nat), s.quiet = true → n < 16 → (s.core.pdm n).run.isSome = true → (s.core.pdm n).stuck = false → Completes
      (.pdmStuck n) s fun t => t.core.pdm n = { s.core.pdm n with stuck := true, stuckAt := some s.core.now } ∧ t.core.flag
      ⟨R.PDM_STATUS, n, n⟩ = false ∧ t.core.flag ⟨R.PDM_STATUS, 16 + n, 16 + n⟩ = true ∧ t.core.f ⟨R.PDM_STUCK_COUNT, 15, 0⟩ = min
      (s.core.f ⟨R.PDM_STUCK_COUNT, 15, 0⟩ + 1) 65535 ∧ t.core.flag F.PDM_INT_STATUS_STUCK = true) ∧
  (∀ (s : State) (n : Nat), s.quiet = true → n < 16 → (s.core.pdm n).stuck = true → Completes (.pdmTransitionsReturn n) s fun t =>
      t.core.pdm n = { s.core.pdm n with stuck := false, stuckAt := none, fadeAt := none, hold := some (s.core.pdmHold n) } ∧
      t.core.flag ⟨R.PDM_STATUS, 16 + n, 16 + n⟩ = false)

/-- PORT_CONFIG writes the port's registers and has it restart, PORT_STATUS_GET returns and clears its counters; a port in RUN
that receives or drives a frame captures its slots, counts it in FRAMES and sends its own slots, a frame with a misplaced edge
is counted in FRAMING and not captured; a loss of the frames takes a port from RUN to MUTED_LOSS, and a run of 16 frames that is
off by more than one part in 1,000 to MUTED_RATE, both fading from the next sample; after 64 good frames the port enters RUN at
the block boundary and rises. -/
def Obligations.TdmPortsComplete : Prop :=
  (∀ (s : State) (p : Packet), let c := s.core.offered opPortConfig p; let r := reqOf opPortConfig p; s.core.admits opPortConfig p
      = true → s.quiet = true → r.n 0 ≤ 7 → (c.tdm (r.n 0)).inReset = false → portCheck c.clk.mult (r.w 1) (r.w 2) (r.w 3) = none →
      Completes (.portConfig p) s fun t => t.core.answered p .accepted [] ∧ t.core.portRegs (r.n 0) = (r.w 1, r.w 2, r.w 3) ∧
      (t.core.tdm (r.n 0)).restart = true ∧ (t.core.tdm (r.n 0)).tok = some r.tok) ∧
  (∀ (s : State) (p : Packet), let c := s.core.offered opPortStatus p; let r := reqOf opPortStatus p; s.core.admits opPortStatus p
      = true → s.quiet = true → r.n 0 ≤ 7 → Completes (.portStatusGet p) s fun t => (t.core.answered p .ok ([R.PORTS_TDM_CTRL (r.n
      0), R.PORTS_TDM_RX_MASK (r.n 0), R.PORTS_TDM_TX_MASK (r.n 0), R.PORTS_TDM_STATE (r.n 0), R.PORTS_TDM_RATE (r.n 0),
      R.PORTS_TDM_PHASE (r.n 0), R.PORTS_TDM_FRAMING (r.n 0), R.PORTS_TDM_LOSS_COUNT (r.n 0), R.PORTS_TDM_RATE_COUNT (r.n 0),
      R.PORTS_TDM_SLIP (r.n 0), R.PORTS_TDM_FRAMES (r.n 0)].map fun x => (c.get x).toNat)) ∧ [R.PORTS_TDM_FRAMING (r.n 0),
      R.PORTS_TDM_LOSS_COUNT (r.n 0), R.PORTS_TDM_RATE_COUNT (r.n 0), R.PORTS_TDM_SLIP (r.n 0)].all (fun x => decide (t.core.get x
      = 0)) = true ∧ t.core.get (R.PORTS_TDM_FRAMES (r.n 0)) = c.get (R.PORTS_TDM_FRAMES (r.n 0))) ∧
  (∀ (s : State) (port j : Nat) (edge gapless : Bool) (phase : Nat) (ws : List Nat) (x : Word × Word × Word), s.quiet = true → port
      ≤ 7 → s.core.portRun port = some x → bitOf x.1 1 = false → j < s.core.blk → edge = true → s.core.portSt port = 2 → Completes
      (.tdmFrame port j edge gapless phase ws) s fun t => (t.core.tdm port).frames = (j, slotSamples x ws) :: (s.core.tdm
      port).frames ∧ t.core.get (R.PORTS_TDM_FRAMES port) = s.core.get (R.PORTS_TDM_FRAMES port) + 1 ∧ ((Msg.tdm port ((List.range
      (bitsOf x.1 7 2)).map fun k => s.core.slotOut port k j x)) ∈ t.core.outbox) ∧ (gapless = false → t.core.portSt port = 2) ∧
      (gapless = true → 2 * (t.core.tdm port).drift.natAbs > s.core.period1 → t.core.portSt port = 4 ∧ t.core.flag
      F.PORTS_INT_STATUS_SLIP = true)) ∧
  (∀ (s : State) (port j : Nat) (edge gapless : Bool) (phase : Nat) (ws : List Nat) (x : Word × Word × Word), s.quiet = true → port
      ≤ 7 → s.core.portRun port = some x → bitOf x.1 1 = false → j < s.core.blk → edge = false → Completes (.tdmFrame port j edge
      gapless phase ws) s fun t => (t.core.tdm port).frames = (s.core.tdm port).frames ∧ t.core.f ⟨R.PORTS_TDM_FRAMING port, 15, 0⟩
      = min (s.core.f ⟨R.PORTS_TDM_FRAMING port, 15, 0⟩ + 1) 65535 ∧ t.core.flag F.PORTS_INT_STATUS_FRAMING = true ∧ t.core.portSt
      port = s.core.portSt port) ∧
  (∀ (s : State) (port j : Nat) (ws : List Nat) (x : Word × Word × Word), s.quiet = true → port ≤ 7 → s.core.portRun port = some x
      → bitOf x.1 1 = true → s.core.tdmReleased port = false → j < s.core.blk → s.core.portSt port = 2 → Completes (.tdmLeaderFrame
      port j ws) s fun t => (t.core.tdm port).frames = (j, slotSamples x ws) :: (s.core.tdm port).frames ∧ t.core.get
      (R.PORTS_TDM_FRAMES port) = s.core.get (R.PORTS_TDM_FRAMES port) + 1 ∧ ((Msg.tdm port ((List.range (bitsOf x.1 7 2)).map fun
      k => s.core.slotOut port k j x)) ∈ t.core.outbox) ∧ t.core.portSt port = 2) ∧
  (∀ (s : State) (port j : Nat), s.quiet = true → port ≤ 7 → (s.core.portRun port).any (fun x => !bitOf x.1 1) = true →
      s.core.portSt port = 2 → Completes (.tdmLoss port j) s fun t => t.core.portSt port = 3 ∧ (t.core.tdm port).muteAt = some
      (s.core.time.n + j + 1) ∧ t.core.flag (F.PORTS_TDM_STATE_LOSS port) = true ∧ t.core.f ⟨R.PORTS_TDM_LOSS_COUNT port, 15, 0⟩ =
      min (s.core.f ⟨R.PORTS_TDM_LOSS_COUNT port, 15, 0⟩ + 1) 65535 ∧ t.core.flag F.PORTS_INT_STATUS_LOSS = true ∧ t.core.f
      (F.PORTS_TDM_STATE_GOOD port) = 0) ∧
  (∀ (s : State) (port j cycles : Nat), s.quiet = true → port ≤ 7 → (s.core.portRun port).any (fun x => !bitOf x.1 1) = true →
      s.core.portSt port = 2 → Completes (.tdmRateRun port j cycles) s fun t => t.core.get (R.PORTS_TDM_RATE port) = .ofNat 32 (w32
      (Int.tdiv (((16 * s.core.period1 : Nat) - (cycles : Int)) * 1000000) (16 * s.core.period1))) ∧ (((16 * s.core.period1 : Nat)
      - (cycles : Int)).natAbs * 1000 ≤ 16 * s.core.period1 → t.core.portSt port = 2) ∧ (((16 * s.core.period1 : Nat) - (cycles :
      Int)).natAbs * 1000 > 16 * s.core.period1 → t.core.portSt port = 4 ∧ (t.core.tdm port).muteAt = some (s.core.time.n + j + 1)
      ∧ t.core.flag (F.PORTS_TDM_STATE_RATE_MISMATCH port) = true ∧ t.core.flag F.PORTS_INT_STATUS_RATE_MISMATCH = true)) ∧
  (∀ (s : State) (port : Nat), s.quiet = true → port ≤ 7 → (s.core.portRun port).isSome = true → s.core.portSt port = 5 → 64 ≤
      s.core.f (F.PORTS_TDM_STATE_GOOD port) → Completes (.tdmResume port) s fun t => t.core.portSt port = 2 ∧ (t.core.tdm
      port).rise = some (s.core.time.n, s.core.glaze) ∧ (t.core.tdm port).muteAt = none ∧ (t.core.tdm port).drift = 0 ∧ t.core.get
      (R.PORTS_TDM_PHASE port) = .ofNat 32 (s.core.tdm port).last ∧ t.core.flag F.PORTS_INT_STATUS_RESUMED = true)

/-- ROUTE_BEGIN and ROUTE_SET write the staged bank of Palette 2 and nothing else of it, ROUTE_COMMIT and its completion check
it, ROUTE_GET reads a bank, ROUTE_NOW stages the live bank with its edits and schedules the swap; a direct path passes its word
through its gain, or unchanged when transparent; DIRECT_GAIN_SET and its boundary start the ramp; GROUP_SET and its boundary
give a group its members; METER_GET, METER_CONFIG, METER_HOLD_RESET and a hold's expiry act on the meters; a non-PCM mark ends
after the hold. -/
def Obligations.ArmatureCommandsComplete : Prop :=
  (∀ (s : State) (num n : Nat), s.quiet = true → smGet (fun _ => none) s.core.arm.marks num = some n → n + s.core.f
      F.ARMATURE_NONPCM_HOLD_SAMPLES ≤ s.core.now → Completes (.nonpcmHoldExpire num) s fun t => t.core.marked num = false ∧ smGet
      (fun _ => none) t.core.arm.rise num = some (s.core.boundaryAt s.core.now) ∧ t.core.flag F.ARMATURE_INT_STATUS_NONPCM_OFF =
      true) ∧
  (∀ (s : State) (m : Nat) (v : Word), let c := s.core.written ⟨m, R.ARMATURE_FIRST_NONPCM, v⟩ 0; s.core.serves m
      R.ARMATURE_FIRST_NONPCM = true → s.quiet = true → bitOf v 30 = true → Completes (.nonpcmRecordClear m v) s fun t =>
      t.core.get R.ARMATURE_FIRST_NONPCM = 0) ∧
  (∀ (s : State) (p : Packet), let c := s.core.offered opNonpcmGet p; let r := reqOf opNonpcmGet p; s.core.admits opNonpcmGet p =
      true → s.quiet = true → Completes (.nonpcmGet p) s fun t => (t.core.answered p .ok ((List.range 128).map fun w => (List.range
      32).foldl (fun a b => if c.marked (32 * w + b) then a + 2 ^ b else a) 0))) ∧
  (∀ (s : State) (n j raw : Nat), s.quiet = true → n ≤ 255 → s.core.flag (F.ARMATURE_DP_CTRL_ACTIVE n) = true → s.core.flag
      (F.ARMATURE_DP_CTRL_TRANSPARENT n) = true → j < s.core.blk → (s.core.dp n).lost = false → s.core.clk.dpCut = false →
      Completes (.directPathWord n j raw) s fun t => (t.core.dp n).out = raw % 2 ^ 32 ∧ (t.core.dp n).outs = (j, raw % 2 ^ 32) ::
      (s.core.dp n).outs) ∧
  (∀ (s : State) (n j raw : Nat), s.quiet = true → n ≤ 255 → s.core.flag (F.ARMATURE_DP_CTRL_ACTIVE n) = true → s.core.flag
      (F.ARMATURE_DP_CTRL_TRANSPARENT n) = false → j < s.core.blk → (s.core.dp n).lost = false → (s.core.dp n).nonpcm = false →
      Completes (.directPathWord n j raw) s fun t => (t.core.dp n).out = unsigned 24 (weighted (s.core.clk.dpGate.weight
      (s.core.time.n + j)) (sat 24 (rshr 21 ((s.core.dp n).gain (s.core.time.n + j) * signed 24 (raw % 2 ^ 32 / 256))))) * 256 ∧
      t.core.get (R.ARMATURE_DP_GAIN n) = .ofNat 32 (w32 ((s.core.dp n).gain (s.core.time.n + j)))) ∧
  (∀ (s : State) (p : Packet), let c := s.core.offered opRouteBegin p; let r := reqOf opRouteBegin p; s.core.admits opRouteBegin p
      = true → s.quiet = true → r.n 0 ≤ 1 → c.armBusy = false → Completes (.routeBegin p) s fun t => t.core.answered p .ok [] ∧
      (t.core.arm.staged = if r.n 0 = 1 then c.arm.live else []) ∧ t.core.arm.live = c.arm.live ∧ t.core.flag (stagedReady 2) =
      false) ∧
  (∀ (s : State) (p : Packet) (d : Nat), let c := s.core.offered opRouteSet p; let r := reqOf opRouteSet p; s.core.admits
      opRouteSet p = true → s.quiet = true → 1 ≤ r.n 0 ∧ r.n 0 ≤ 1024 → r.bytes.length = 4 + 4 * r.n 0 → (r.words.drop 1).all
      routeOk = true → c.armBusy = false → Completes (.routeSet p) s fun t => t.core.answered p .ok [] ∧ (smGet (fun _ => 0xFFF)
      t.core.arm.staged d = (((r.words.drop 1).reverse.find? fun w => (routeItem w).1 = d).map fun w => (routeItem w).2).getD
      (smGet (fun _ => 0xFFF) c.arm.staged d)) ∧ t.core.arm.live = c.arm.live) ∧
  (∀ (s : State) (p : Packet), let c := s.core.offered opRouteCommit p; let r := reqOf opRouteCommit p; s.core.admits opRouteCommit
      p = true → s.quiet = true → c.armBusy = false → Completes (.routeCommit p) s fun t => t.core.answered p .accepted [] ∧
      t.core.arm.commit = some r.tok) ∧
  (∀ (s : State) (k : Tok), s.quiet = true → s.core.arm.commit = some k → Completes .routeCommitDone s fun t => t.core.arm.commit =
      none ∧ t.core.flag F.ARMATURE_INT_STATUS_COMMIT_DONE = true ∧ ((s.core.routeAdmit s.core.arm.staged).1 = .ok → t.core.flag
      (stagedReady 2) = true) ∧ ((s.core.routeAdmit s.core.arm.staged).1 ≠ .ok → t.core.flag (stagedReady 2) = s.core.flag
      (stagedReady 2)) ∧ t.core.arm.staged = s.core.arm.staged) ∧
  (∀ (s : State) (p : Packet), let c := s.core.offered opRouteGet p; let r := reqOf opRouteGet p; s.core.admits opRouteGet p = true
      → s.quiet = true → r.n 0 ≤ 1 → 1 ≤ r.n 2 ∧ r.n 2 ≤ 1024 → r.n 1 + r.n 2 ≤ 8192 → Completes (.routeGet p) s fun t =>
      (t.core.answered p .ok ((List.range (r.n 2)).map fun i => r.n 1 + i + 2 ^ 16 * (smGet (fun _ => 0xFFF) (if r.n 0 = 0 then
      c.arm.live else c.arm.staged) (r.n 1 + i) % 2 ^ 12) + 2 ^ 31 * (smGet (fun _ => 0xFFF) (if r.n 0 = 0 then c.arm.live else
      c.arm.staged) (r.n 1 + i) / 2 ^ 31)))) ∧
  (∀ (s : State) (p : Packet), let c := s.core.offered opRouteNow p; let r := reqOf opRouteNow p; s.core.admits opRouteNow p = true
      → s.quiet = true → 1 ≤ r.n 1 ∧ r.n 1 ≤ 1024 → r.bytes.length = 8 + 4 * r.n 1 → c.arm.edited = false → c.armBusy = false →
      (r.words.drop 2).all routeOk = true → (c.routeAdmit (writeRoutes c.arm.live (r.words.drop 2))).1 = .ok → r.n 0 % 16 = 0 ∧ r.n
      0 ≤ 4096 → Completes (.routeNow p) s fun t => t.core.answered p .accepted [] ∧ t.core.arm.staged = writeRoutes c.arm.live
      (r.words.drop 2) ∧ t.core.arm.live = c.arm.live ∧ (t.core.cal.swaps = c.cal.swaps ++
      [{ mask := 4, b := c.boundaryAt (c.now + 2 * c.blk), g := if r.n 0 = 0 then c.glaze else r.n 0, tok := some r.tok, timed := false }]))
      ∧
  (∀ (s : State) (p : Packet) (g : Int), let c := s.core.offered opDirectGain p; let r := reqOf opDirectGain p; s.core.admits
      opDirectGain p = true → s.quiet = true → sext? 24 (r.w 2) = some g → r.n 3 ≤ 1 → 1 ≤ r.n 1 → r.n 0 + r.n 1 ≤ 256 →
      (List.range (r.n 1)).all (fun i => !c.flag (F.ARMATURE_DP_CTRL_TRANSPARENT (i + r.n 0))) = true → Completes (.directGainSet
      p) s fun t => t.core.answered p .accepted [] ∧ t.core.arm.dpReqs = c.arm.dpReqs ++
      [{ b := c.boundaryAt (c.now + 2 * c.blk), first := r.n 0, count := r.n 1, gain := g, mute := decide (r.n 3 = 1), todo := (List.range (r.n 1)).map (· + r.n 0), tok := r.tok }])
      ∧
  (∀ (s : State) (n : Nat) (q : DirectReq), s.quiet = true → n ≤ 255 → s.core.arm.dpReqs = [q] → n ∈ q.todo → q.b ≤ s.core.now →
      Completes (.directGainChange n) s fun t => t.core.arm.dpReqs = [{ q with todo := q.todo.erase n }] ∧ t.core.dp n =
      ({ s.core.dp n with target := q.gain, mute := q.mute } : DirectPath).toward q.b ∧ t.core.get (R.ARMATURE_DP_TARGET n) =
      .ofNat 32 (w32 (if q.mute then 0 else q.gain)) ∧ t.core.flag (F.ARMATURE_DP_CTRL_MUTE n) = q.mute) ∧
  (∀ (s : State) (p : Packet), let c := s.core.offered opDirectGet p; let r := reqOf opDirectGet p; s.core.admits opDirectGet p =
      true → s.quiet = true → r.n 0 ≤ 255 → Completes (.directGet p) s fun t => (t.core.answered p .ok [(c.get (R.ARMATURE_DP_CTRL
      (r.n 0))).toNat, (c.get (R.ARMATURE_DP_TARGET (r.n 0))).toNat, (c.get (R.ARMATURE_DP_GAIN (r.n 0))).toNat, smGet (fun _ =>
      0xFFF) c.arm.live (0x1800 + r.n 0) % 2 ^ 12, (((routesOf c.arm.live).find? fun x => x.2.1 = 0xD00 + r.n 0).map (·.1)).getD
      0xFFFFFFFF])) ∧
  (∀ (s : State) (p : Packet), let c := s.core.offered opGroupSet p; let r := reqOf opGroupSet p; s.core.admits opGroupSet p = true
      → s.quiet = true → r.n 0 ≤ 31 ∧ r.n 1 ≤ 256 → r.bytes.length = 8 + 4 * r.n 1 → ((r.words.drop 2).all (fun w => decide
      (w.toNat ≤ 255 ∧ (c.groupOf w.toNat = none ∨ c.groupOf w.toNat = some (r.n 0)))) = true) → Completes (.groupSet p) s fun t =>
      t.core.answered p .accepted [] ∧ t.core.arm.groupNext = c.arm.groupNext ++ [(c.boundaryAt (c.now + 2 * c.blk), r.n 0,
      ((r.words.drop 2).map (·.toNat)).eraseDups, r.tok)]) ∧
  (∀ (s : State) (g b : Nat) (l : List Nat) (k : Tok), s.quiet = true → g ≤ 31 → s.core.arm.groupNext = [(b, g, l, k)] → b ≤
      s.core.now → Completes (.groupChange g) s fun t => t.core.arm.groupNext = [] ∧ smGet (fun _ => []) t.core.arm.groups g = l ∧
      t.core.f ⟨R.ARMATURE_GROUP g, 24, 16⟩ = l.length % 512 ∧ (∀ x ∈ l, (t.core.rxStream x).group = some g)) ∧
  (∀ (s : State) (p : Packet) (x : Nat), let c := s.core.offered opMeterGet p; let r := reqOf opMeterGet p; s.core.admits
      opMeterGet p = true → s.quiet = true → 1 ≤ r.n 1 ∧ r.n 1 ≤ 256 → r.n 0 + r.n 1 ≤ 4096 → r.n 0 ≤ x ∧ x < r.n 0 + r.n 1 →
      Completes (.meterGet p) s fun t => (t.core.answered p .ok (((List.range (r.n 1)).map (· + r.n 0)).flatMap fun y => if
      srcIssued y then [(c.get (R.ARMATURE_METER_PEAK y)).toNat, (c.get (R.ARMATURE_METER_TP y)).toNat, (c.get
      (R.ARMATURE_METER_RMS y)).toNat, (c.get (R.ARMATURE_METER_HOLD y)).toNat] else [0, 0, 0, 0])) ∧ t.core.get
      (R.ARMATURE_METER_PEAK x) = 0 ∧ t.core.get (R.ARMATURE_METER_TP x) = c.get (R.ARMATURE_METER_TP x)) ∧
  (∀ (s : State) (p : Packet), let c := s.core.offered opMeterConfig p; let r := reqOf opMeterConfig p; s.core.admits opMeterConfig
      p = true → s.quiet = true → bitsOf (r.w 0) 7 3 = 0 ∧ bitsOf (r.w 0) 31 16 = 0 → bitsOf (r.w 0) 2 0 ≤ 6 → Completes
      (.meterConfig p) s fun t => t.core.answered p .ok [] ∧ t.core.get R.ARMATURE_METER_CTRL = r.w 0) ∧
  (∀ (s : State) (p : Packet) (x : Nat), let c := s.core.offered opMeterHold p; let r := reqOf opMeterHold p; s.core.admits
      opMeterHold p = true → s.quiet = true → 1 ≤ r.n 1 → r.n 0 + r.n 1 ≤ 4096 → r.n 0 ≤ x ∧ x < r.n 0 + r.n 1 → srcIssued x = true
      → Completes (.meterHoldReset p) s fun t => t.core.answered p .ok [] ∧ (smGet (fun _ => {}) t.core.arm.meters x).hold = (c.f
      ⟨R.ARMATURE_METER_PEAK x, 23, 0⟩, c.now) ∧ (smGet (fun _ => {}) t.core.arm.meters x).holdTp = (bitsOf (c.get
      (R.ARMATURE_METER_TP x)) 15 0, c.now) ∧ (smGet (fun _ => {}) t.core.arm.meters x).holdRms = ((smGet (fun _ => {})
      c.arm.meters x).rms, c.now)) ∧
  (∀ (s : State) (num which : Nat), s.quiet = true → num ≤ 4095 → srcIssued num = true → which = 0 → s.core.f
      F.ARMATURE_METER_CTRL_HOLD ≠ 0 → 10 * (smGet (fun _ => {}) s.core.arm.meters num).hold.2 + s.core.f
      F.ARMATURE_METER_CTRL_HOLD * s.core.fsHz ≤ 10 * s.core.now → Completes (.meterHoldExpire num which) s fun t => (smGet (fun _
      => {}) t.core.arm.meters num).hold = (s.core.f ⟨R.ARMATURE_METER_PEAK num, 23, 0⟩, s.core.now) ∧ (smGet (fun _ => {})
      t.core.arm.meters num).holdTp = (smGet (fun _ => {}) s.core.arm.meters num).holdTp ∧ t.core.get (R.ARMATURE_METER_HOLD num) =
      .ofNat 32 (s.core.f ⟨R.ARMATURE_METER_PEAK num, 23, 0⟩))

/-- A module in or out of its cage and its LOS line show in NET_STATUS and raise SFP_CHANGE; a link comes up and goes down; a
frame that is accepted is counted, and each kind of bad frame counts in its own counter; PAUSE frames stop the port's lower
classes until their quanta end, and the module pauses its partner above HIGH and ends it at LOW; ARP, ICMP and IGMP are answered
with a queued frame; NET_CONFIG, NET_PAUSE_SET, NET_CTRL and NET_MAX_FRAME write the port's settings, and NET_STATUS_GET returns
and clears the counters. -/
def Obligations.NetworkPortsComplete : Prop :=
  (∀ (s : State) (port : Nat) (los : Bool) (id : List Byte), s.quiet = true → port ≤ 3 → smGet (fun _ => none) s.core.power.cages
      port = none → 3 ≤ s.core.power.step → s.core.gated (R.NET_STATUS port) = false → Completes (.sfpModuleInsert port los id) s
      fun t => smGet (fun _ => none) t.core.power.cages port = some los ∧ smGet (fun _ => []) t.core.power.sfpId port = id ∧
      t.core.flag (F.NET_STATUS_SFP_PRESENT port) = true ∧ t.core.flag (F.NET_STATUS_SFP_LOS port) = los ∧ t.core.flag
      (F.NET_INT_STATUS_SFP_CHANGE port) = true) ∧
  (∀ (s : State) (port : Nat), s.quiet = true → port ≤ 3 → (smGet (fun _ => none) s.core.power.cages port).isSome = true → 3 ≤
      s.core.power.step → s.core.gated (R.NET_STATUS port) = false → Completes (.sfpModuleRemove port) s fun t => smGet (fun _ =>
      none) t.core.power.cages port = none ∧ t.core.flag (F.NET_STATUS_SFP_PRESENT port) = false ∧ t.core.flag
      (F.NET_STATUS_LINK_UP port) = false ∧ t.core.flag (F.NET_INT_STATUS_SFP_CHANGE port) = true) ∧
  (∀ (s : State) (port : Nat) (level : Bool), s.quiet = true → port ≤ 3 → smGet (fun _ => none) s.core.power.cages port = some
      (!level) → 3 ≤ s.core.power.step → s.core.gated (R.NET_STATUS port) = false → Completes (.sfpLosChange port level) s fun t =>
      t.core.flag (F.NET_STATUS_SFP_LOS port) = level ∧ t.core.flag (F.NET_INT_STATUS_SFP_CHANGE port) = true ∧ smGet (fun _ =>
      none) t.core.power.cages port = some level) ∧
  (∀ (s : State) (port : Nat), s.quiet = true → port ≤ 3 → s.core.gated (R.NET_STATUS port) = false → s.core.flag (F.NET_CTRL_EN
      port) = true → s.core.flag (F.NET_STATUS_SFP_PRESENT port) = true → s.core.flag (F.NET_STATUS_LINK_UP port) = false →
      (s.core.netPort port).inReset = false → Completes (.linkUp port) s fun t => t.core.flag (F.NET_STATUS_LINK_UP port) = true ∧
      t.core.flag (F.NET_STATUS_BLOCK_LOCK port) = true ∧ t.core.flag (F.NET_INT_STATUS_LINK_UP port) = true ∧ (t.core.f
      (F.NET_STATUS_RATE port) = if port = 2 then 0 else s.core.f (F.NET_CTRL_RATE port))) ∧
  (∀ (s : State) (port : Nat), s.quiet = true → port ≤ 3 → s.core.flag (F.NET_STATUS_LINK_UP port) = true → Completes (.linkDown
      port) s fun t => t.core.flag (F.NET_STATUS_LINK_UP port) = false ∧ t.core.flag (F.NET_STATUS_BLOCK_LOCK port) = false ∧
      t.core.f ⟨R.NET_LINK_DOWN port, 15, 0⟩ = min (s.core.f ⟨R.NET_LINK_DOWN port, 15, 0⟩ + 1) 65535 ∧ t.core.flag
      (F.NET_INT_STATUS_LINK_DOWN port) = true ∧ (t.core.netPort port).txq = []) ∧
  (∀ (s : State) (port len fcs before : Nat) (bytes : List Byte), s.quiet = true → port ≤ 3 → s.core.flag (F.NET_STATUS_LINK_UP
      port) = true → 64 ≤ len ∧ len ≤ s.core.f (F.NET_MAX_FRAME_BYTES port) → fcs = 0 → Completes (.ethernetFrameReceive port len
      fcs before bytes) s fun t => t.core.get (R.NET_RX_FRAMES port) = s.core.get (R.NET_RX_FRAMES port) + 1 ∧ (t.core.get
      (R.NET_RX_MULTICAST port) = s.core.get (R.NET_RX_MULTICAST port) + if be bytes 0 1 % 2 = 1 then 1 else 0) ∧ (s.core.frameUse
      port bytes = .filtered → t.core.get (R.NET_RX_FILTERED port) = s.core.get (R.NET_RX_FILTERED port) + 1) ∧ (s.core.frameUse
      port bytes = .priority → min before (s.core.netPort port).fill + len ≤ 524288 → (t.core.netPort port).fill = min before
      (s.core.netPort port).fill + len)) ∧
  (∀ (s : State) (port len fcs before err : Nat) (bytes : List Byte), s.quiet = true → port ≤ 3 → s.core.flag (F.NET_STATUS_LINK_UP
      port) = true → ((if len < 64 then (if fcs = 0 then R.NET_RX_UNDERSIZE port else R.NET_RX_FRAGMENT port) else if s.core.f
      (F.NET_MAX_FRAME_BYTES port) < len then R.NET_RX_OVERSIZE port else R.NET_RX_FCS port) = err) → (len < 64 ∨ s.core.f
      (F.NET_MAX_FRAME_BYTES port) < len ∨ fcs ≠ 0) → Completes (.ethernetFrameReceive port len fcs before bytes) s fun t =>
      t.core.f ⟨err, 15, 0⟩ = min (s.core.f ⟨err, 15, 0⟩ + 1) 65535 ∧ t.core.flag (F.NET_INT_STATUS_RX_ERROR port) = true ∧
      t.core.get (R.NET_RX_FRAMES port) = s.core.get (R.NET_RX_FRAMES port) ∧ (t.core.netPort port).fill = (s.core.netPort
      port).fill) ∧
  (∀ (s : State) (port quanta : Nat), s.quiet = true → port ≤ 3 → s.core.flag (F.NET_STATUS_LINK_UP port) = true → Completes
      (.pauseFrameReceive port quanta) s fun t => t.core.f ⟨R.NET_PAUSE_RX port, 15, 0⟩ = min (s.core.f ⟨R.NET_PAUSE_RX port, 15,
      0⟩ + 1) 65535 ∧ (t.core.flag (F.NET_STATUS_PAUSED port) = if s.core.flag (F.NET_CTRL_RX_PAUSE_EN port) then decide (quanta %
      65536 ≠ 0) else s.core.flag (F.NET_STATUS_PAUSED port))) ∧
  (∀ (s : State) (port : Nat), s.quiet = true → port ≤ 3 → Completes (.pauseQuantaExpire port) s fun t => t.core.flag
      (F.NET_STATUS_PAUSED port) = false) ∧
  (∀ (s : State) (port : Nat), s.quiet = true → port ≤ 3 → s.core.flag (F.NET_STATUS_PAUSING port) = true → 1024 * s.core.f
      (F.NET_PAUSE_LOW port) < (s.core.netPort port).fill → s.core.flag (F.NET_CTRL_TX_PAUSE_EN port) = true → Completes
      (.pauseRepeat port) s fun t => t.core.f ⟨R.NET_PAUSE_TX port, 15, 0⟩ = min (s.core.f ⟨R.NET_PAUSE_TX port, 15, 0⟩ + 1) 65535
      ∧ Msg.frame port 7 "PAUSE" [s.core.f (F.NET_PAUSE_QUANTA_QUANTA port)] ∈ t.core.outbox) ∧
  (∀ (s : State) (port : Nat), s.quiet = true → port ≤ 3 → s.core.flag (F.NET_STATUS_PAUSING port) = true → Completes
      (.rxBufferFillLow port) s fun t => t.core.flag (F.NET_STATUS_PAUSING port) = false ∧ Msg.frame port 7 "PAUSE" [0] ∈
      t.core.outbox ∧ (t.core.netPort port).fill = min (s.core.netPort port).fill (1024 * s.core.f (F.NET_PAUSE_LOW port))) ∧
  (∀ (s : State) (port ip : Nat), s.quiet = true → port ≤ 3 → port ≠ 2 → s.core.flag (F.NET_STATUS_LINK_UP port) = true →
      s.core.ownIp port ip = true → s.core.f (F.NET_MAX_FRAME_BYTES port) ≥ 1518 → Completes (.arpRequestReceive port ip) s fun t
      => (t.core.netPort port).txq = (s.core.netPort port).txq ++
      [{ cls := 5, len := 42 + (if s.core.controlTag port = 0 then 0 else 4), msg := .frame port 5 "ARP reply" [s.core.controlTag port, ip, s.core.mac port] }])
      ∧
  (∀ (s : State) (port ip mac : Nat), s.quiet = true → s.core.flag (F.NET_STATUS_LINK_UP port) = true → ip ∈ s.core.hops port →
      Completes (.arpReplyReceive port ip mac) s fun t => smGet (fun _ => none) (t.core.netPort port).arp ip = some (mac % 2 ^ 48))
      ∧
  (∀ (s : State) (port : Nat), s.quiet = true → port ≤ 1 → s.core.flag (F.NET_STATUS_LINK_UP port) = true → s.core.f
      (F.NET_MAX_FRAME_BYTES port) ≥ 1518 → Completes (.arpRefresh port) s fun t => ((t.core.netPort port).txq = (s.core.netPort
      port).txq ++ (s.core.hops port).map fun a =>
      { cls := 5, len := 42 + (if s.core.controlTag port = 0 then 0 else 4), msg := .frame port 5 "ARP request" [s.core.controlTag port, a, s.core.sourceIp port] }))
      ∧
  (∀ (s : State) (port dst : Nat) (data : List Byte), s.quiet = true → port ≤ 3 → port ≠ 2 → s.core.flag (F.NET_STATUS_LINK_UP
      port) = true → s.core.ownIp port dst = true → ((s.core.netPort port).echo.1 ≠ s.core.time.cycles / 250000000 ∨
      (s.core.netPort port).echo.2 < 100) → data.length ≤ 1400 → s.core.f (F.NET_MAX_FRAME_BYTES port) ≥ 1518 → Completes
      (.icmpEchoReceive port dst data) s fun t => ((t.core.netPort port).txq.getLast?).map (·.msg) = some (.frame port 5 "ICMP echo
      reply" (s.core.controlTag port :: dst :: data.map (·.toNat))) ∧ (t.core.netPort port).echo.1 = s.core.time.cycles / 250000000
      ∧ (1 ≤ (t.core.netPort port).echo.2 ∧ ((s.core.netPort port).echo.1 = s.core.time.cycles / 250000000 → (t.core.netPort
      port).echo.2 = (s.core.netPort port).echo.2 + 1))) ∧
  (∀ (s : State) (port : Nat), s.quiet = true → port ≤ 1 → s.core.flag (F.NET_STATUS_LINK_UP port) = true → s.core.f
      (F.NET_MAX_FRAME_BYTES port) ≥ 1518 → Completes (.igmpQueryReceive port) s fun t => ((t.core.netPort port).txq =
      (s.core.netPort port).txq ++ (s.core.groupsOf port).eraseDups.map fun g =>
      { cls := 5, len := 54 + (if bitsOf g.2.2 27 16 = 0 then 0 else 4), msg := .frame port 5 "IGMPv3 report" [bitsOf g.2.2 27 16, g.1, g.2.1] }))
      ∧
  (∀ (s : State) (port m : Nat) (v : Word), let c := s.core.written ⟨m, R.NET_MAX_FRAME port, v⟩ 0x3FFF; s.core.serves m
      (R.NET_MAX_FRAME port) = true → s.quiet = true → port ≤ 3 → port ≠ 2 → Completes (.maxFrameWrite port m v) s fun t =>
      (c.streamsFit port (clampNat 1518 9216 (bitsOf v 13 0)) = true → t.core.f (F.NET_MAX_FRAME_BYTES port) = clampNat 1518 9216
      (bitsOf v 13 0)) ∧ (c.streamsFit port (clampNat 1518 9216 (bitsOf v 13 0)) = false → t.core.f (F.NET_MAX_FRAME_BYTES port) =
      s.core.f (F.NET_MAX_FRAME_BYTES port) ∧ t.core.flag (F.NET_MAX_FRAME_REFUSED port) = true)) ∧
  (∀ (s : State) (port m : Nat) (v : Word), let c := s.core.written ⟨m, R.NET_CTRL port, v⟩ 0; s.core.serves m (R.NET_CTRL port) =
      true → s.quiet = true → port ≤ 3 → rateOrFec (s.core.get (R.NET_CTRL port)) (c.get (R.NET_CTRL port)) = false → Completes
      (.netCtrlWrite port m v) s fun t => t.core.get (R.NET_CTRL port) = c.get (R.NET_CTRL port) ∧ (s.core.flag (F.NET_CTRL_EN
      port) = true → c.flag (F.NET_CTRL_EN port) = false → t.core.flag (F.NET_STATUS_LINK_UP port) = false) ∧ (s.core.flag
      (F.NET_CTRL_EN port) = c.flag (F.NET_CTRL_EN port) → t.core.flag (F.NET_STATUS_LINK_UP port) = s.core.flag
      (F.NET_STATUS_LINK_UP port))) ∧
  (∀ (s : State) (p : Packet), let c := s.core.offered opNetConfig p; let r := reqOf opNetConfig p; s.core.admits opNetConfig p =
      true → s.quiet = true → r.n 0 ≤ 3 → noReserved (r.w 1) 0x3F = true ∧ noReserved (r.w 6) 0xFFFF = true → r.n 0 ≠ 2 → 1518 ≤
      r.n 2 ∧ r.n 2 ≤ 9216 → c.streamsFit (r.n 0) (r.n 2) = true → rateOrFec (c.get (R.NET_CTRL (r.n 0))) (r.w 1) = false →
      Completes (.netConfig p) s fun t => t.core.answered p .ok [] ∧ t.core.get (R.NET_CTRL (r.n 0)) = r.w 1 ∧ t.core.f
      (F.NET_MAX_FRAME_BYTES (r.n 0)) = r.n 2 ∧ t.core.get (R.NET_IP (r.n 0)) = r.w 3 ∧ t.core.get (R.NET_IP_MASK (r.n 0)) = r.w 4
      ∧ t.core.get (R.NET_IP_GW (r.n 0)) = r.w 5 ∧ t.core.get (R.NET_VLAN (r.n 0)) = r.w 6) ∧
  (∀ (s : State) (p : Packet) (i : Nat), let c := s.core.offered opNetStatus p; let r := reqOf opNetStatus p; s.core.admits
      opNetStatus p = true → s.quiet = true → r.n 0 ≤ 3 → i < 11 → Completes (.netStatusGet p) s fun t => (t.core.answered p .ok
      ((c.get (R.NET_STATUS (r.n 0))).toNat :: (List.range 19).map fun i => (c.get (R.NET_RX_FRAMES (r.n 0) + 4 * i)).toNat)) ∧
      t.core.get (R.NET_RX_FCS (r.n 0) + 4 * i) = 0 ∧ t.core.get (R.NET_RX_FRAMES (r.n 0)) = c.get (R.NET_RX_FRAMES (r.n 0))) ∧
  (∀ (s : State) (p : Packet), let c := s.core.offered opNetPause p; let r := reqOf opNetPause p; s.core.admits opNetPause p = true
      → s.quiet = true → r.n 0 ≤ 3 → bitsOf (r.w 1) 15 10 = 0 ∧ bitsOf (r.w 1) 31 26 = 0 ∧ r.n 2 < 65536 → bitsOf (r.w 1) 25 16 ≤
      bitsOf (r.w 1) 9 0 ∧ bitsOf (r.w 1) 9 0 ≤ 512 ∧ r.n 3 ≤ 512 → Completes (.netPauseSet p) s fun t => t.core.answered p .ok []
      ∧ t.core.get (R.NET_PAUSE (r.n 0)) = r.w 1 ∧ t.core.get (R.NET_PAUSE_QUANTA (r.n 0)) = r.w 2 ∧ t.core.get (R.NET_DROP_OTHER
      (r.n 0)) = r.w 3)

/-- While no gate list acts, the oldest frame of the highest class leaves at a frame boundary and is counted; a gate list that
is given GO waits for its change time, which is at least 1 ms away and on its cycle, and is then in force; a stream definition
that passes its checks waits for its boundary and then takes effect; a packet of a receive stream is counted and its samples are
placed by media time; a silent leg is lost, and the span's margin is shown; a transmit stream's packet is queued and its
sequence number advances; the counters are returned and cleared. -/
def Obligations.TransmissionAndStreamsComplete : Prop :=
  (∀ (s : State) (port : Nat) (f : TxFrame) (u : List TxFrame), s.quiet = true → port ≤ 3 → s.core.flag (F.NET_STATUS_LINK_UP port)
      = true → s.core.flag (F.NET_STATUS_PAUSED port) = false → s.core.gated? port = false → (s.core.netPort port).txq = f :: u →
      f.cls ≤ 7 → u.all (fun g => decide (g.cls ≤ f.cls)) = true → Completes (.frameTransmit port) s fun t => (t.core.netPort
      port).txq = u ∧ f.msg ∈ t.core.outbox ∧ t.core.get (R.NET_TX_FRAMES port) = s.core.get (R.NET_TX_FRAMES port) + 1) ∧
  (∀ (s : State) (port m : Nat) (v : Word), let c := s.core.written ⟨m, R.NET_GATE_CTRL port, v⟩ (2 ^ 31); s.core.serves m
      (R.NET_GATE_CTRL port) = true → s.quiet = true → port ≤ 3 → bitOf v 31 = true → s.core.flag (F.NET_STATUS_GATE_PENDING port)
      = false → c.adminGood port = true → Completes (.gateGo port m v) s fun t => t.core.flag (F.NET_STATUS_GATE_PENDING port) =
      true ∧ t.core.flag (F.NET_GATE_CTRL_GO port) = true ∧ ((t.core.netPort port).pending.any (fun x => decide (s.core.ptpNs +
      1000000 ≤ x.1 ∧ c.adminBase port ≤ x.1 ∧ (x.1 - c.adminBase port) % c.f (F.NET_GATE_CYCLE_NS port) = 0 ∧ (x.1 = c.adminBase
      port ∨ x.1 < s.core.ptpNs + 1000000 + c.f (F.NET_GATE_CYCLE_NS port)))) = true)) ∧
  (∀ (s : State) (port at_ : Nat) (k : Option Tok), s.quiet = true → port ≤ 3 → (s.core.netPort port).pending = some (at_, k) → at_
      ≤ s.core.ptpNs → Completes (.gateChangeTime port) s fun t => (t.core.netPort port).pending = none ∧ (t.core.netPort
      port).cycle = s.core.f (F.NET_GATE_CYCLE_NS port) ∧ (t.core.netPort port).base = s.core.adminBase port ∧ (t.core.netPort
      port).start = at_ ∧ t.core.flag (F.NET_STATUS_GATE_RUN port) = true ∧ t.core.flag (F.NET_STATUS_GATE_PENDING port) = false ∧
      t.core.flag (F.NET_GATE_CTRL_GO port) = false ∧ t.core.flag (F.NET_INT_STATUS_GATE_CHANGE port) = true ∧ (∀ e : Nat, e < 256
      → t.core.get (R.NET_GATE_OPER port e) = if e < s.core.f (F.NET_GATE_CTRL_COUNT port) then s.core.get (R.NET_GATE_ADMIN port
      e) else 0)) ∧
  (∀ (s : State) (port : Nat), s.quiet = true → port ≤ 3 → s.core.flag (F.NET_STATUS_GATE_RUN port) = true → (s.core.netPort
      port).cycle ≠ 0 → (s.core.netPort port).start < cycleAfter (s.core.netPort port).base (s.core.netPort port).cycle
      s.core.ptpNs - (s.core.netPort port).cycle → Completes (.gateCycleStart port) s fun t => (t.core.netPort port).start =
      cycleAfter (s.core.netPort port).base (s.core.netPort port).cycle s.core.ptpNs - (s.core.netPort port).cycle ∧
      (t.core.netPort port).holdEntry = none ∧ t.core.f (F.NET_GATE_STATUS_OPER_INDEX port) = 0) ∧
  (∀ (s : State) (p : Packet), let c := s.core.offered opNetGateSet p; let r := reqOf opNetGateSet p; s.core.admits opNetGateSet p
      = true → s.quiet = true → r.n 0 ≤ 3 → r.bytes.length = 28 + 4 * r.n 6 → r.n 1 ≤ 1 → c.flag (F.NET_STATUS_GATE_PENDING (r.n
      0)) = false → 1 ≤ r.n 6 ∧ r.n 6 ≤ 256 → 1000 ≤ r.n 2 ∧ r.n 2 ≤ 1000000000 → r.n 3 < 1000000000 ∧ r.n 5 < 65536 →
      (r.words.drop 7).all (fun w => decide (100 ≤ bitsOf w 31 8)) = true → Completes (.netGateSet p) s fun t => t.core.answered p
      .accepted [] ∧ t.core.flag (F.NET_STATUS_GATE_PENDING (r.n 0)) = true ∧ (t.core.netPort (r.n 0)).pending.map (·.2) = some
      (some r.tok) ∧ t.core.f (F.NET_GATE_CTRL_EN (r.n 0)) = r.n 1 ∧ t.core.f (F.NET_GATE_CTRL_COUNT (r.n 0)) = r.n 6 ∧ t.core.get
      (R.NET_GATE_CYCLE (r.n 0)) = r.w 2 ∧ (∀ e : Nat, e < r.n 6 → t.core.get (R.NET_GATE_ADMIN (r.n 0) e) = r.w (7 + e))) ∧
  (∀ (s : State) (p : Packet), let c := s.core.offered opNetGateGet p; let r := reqOf opNetGateGet p; s.core.admits opNetGateGet p
      = true → s.quiet = true → r.n 0 ≤ 3 → r.n 1 ≤ 1 → Completes (.netGateGet p) s fun t => (r.n 1 = 0 → t.core.answered p .ok
      ((c.netPort (r.n 0)).cycle :: timeWords (c.netPort (r.n 0)).base ++ [c.f (F.NET_GATE_STATUS_OPER_COUNT (r.n 0))] ++
      (List.range (c.f (F.NET_GATE_STATUS_OPER_COUNT (r.n 0)))).map fun e => (c.get (R.NET_GATE_OPER (r.n 0) e)).toNat)) ∧ (r.n 1 =
      1 → t.core.answered p .ok ([(c.get (R.NET_GATE_CYCLE (r.n 0))).toNat, (c.get (R.NET_GATE_BASE_NS (r.n 0))).toNat, (c.get
      (R.NET_GATE_BASE_SEC_LO (r.n 0))).toNat, (c.get (R.NET_GATE_BASE_SEC_HI (r.n 0))).toNat, min 256 (c.f (F.NET_GATE_CTRL_COUNT
      (r.n 0)))] ++ (List.range (min 256 (c.f (F.NET_GATE_CTRL_COUNT (r.n 0))))).map fun e => (c.get (R.NET_GATE_ADMIN (r.n 0)
      e)).toNat))) ∧
  (∀ (s : State) (p : Packet), let c := s.core.offered opStreamRxSet p; let r := reqOf opStreamRxSet p; s.core.admits opStreamRxSet
      p = true → s.quiet = true → c.streamCheck true (r.words.map (·.toNat)) = .ok → Completes (.streamRxSet p) s fun t =>
      t.core.answered p .ok [] ∧ (t.core.rxStream (r.n 0)).next = addDef (c.rxStream (r.n 0)).next (r.words.map (·.toNat))
      (c.boundaryAt (c.now + 2 * c.blk)) ∧ (t.core.rxStream (r.n 0)).defn = (c.rxStream (r.n 0)).defn) ∧
  (∀ (s : State) (p : Packet), let c := s.core.offered opStreamTxSet p; let r := reqOf opStreamTxSet p; s.core.admits opStreamTxSet
      p = true → s.quiet = true → c.streamCheck false (r.words.map (·.toNat)) = .ok → Completes (.streamTxSet p) s fun t =>
      t.core.answered p .ok [] ∧ (t.core.txStream (r.n 0)).next = addDef (c.txStream (r.n 0)).next (r.words.map (·.toNat))
      (c.boundaryAt (c.now + 2 * c.blk)) ∧ (t.core.txStream (r.n 0)).defn = (c.txStream (r.n 0)).defn) ∧
  (∀ (s : State) (rx : Bool) (num : Nat) (d : List Nat) (b : Nat) (u : List (List Nat × Nat)), s.quiet = true → rx = true → num ≤
      255 → (s.core.rxStream num).next = (d, b) :: u → b ≤ s.core.now → Completes (.streamDefinitionApply rx num) s fun t =>
      (t.core.rxStream num).defn = d ∧ (t.core.rxStream num).next = u ∧ (t.core.rxStream num).data = [] ∧ (t.core.rxStream
      num).hold = none ∧ t.core.get (R.MEDIA_RX_CTRL num) = dw d 1 ∧ t.core.get (R.MEDIA_RX_MAP num) = dw d 2) ∧
  (∀ (s : State) (rx : Bool) (num : Nat) (d : List Nat) (b : Nat) (u : List (List Nat × Nat)), s.quiet = true → rx = false → num ≤
      255 → (s.core.txStream num).next = (d, b) :: u → b ≤ s.core.now → Completes (.streamDefinitionApply rx num) s fun t =>
      (t.core.txStream num).defn = d ∧ (t.core.txStream num).next = u ∧ ((t.core.txStream num).at_ = if defEn d then firstPacket
      (packetSamples s.core.clk.mult (defPtime d)) b else 0) ∧ t.core.get (R.MEDIA_TX_CTRL num) = dw d 1) ∧
  (∀ (s : State) (p : Packet), let c := s.core.offered opStreamRxGet p; let r := reqOf opStreamRxGet p; s.core.admits opStreamRxGet
      p = true → s.quiet = true → r.n 0 ≤ 255 → Completes (.streamRxGet p) s fun t => t.core.answered p .ok (defWords 13 (r.n 0)
      (c.rxStream (r.n 0)).defn ++ [(c.get (R.MEDIA_RX_STATE (r.n 0))).toNat])) ∧
  (∀ (s : State) (p : Packet), let c := s.core.offered opStreamTxGet p; let r := reqOf opStreamTxGet p; s.core.admits opStreamTxGet
      p = true → s.quiet = true → r.n 0 ≤ 255 → Completes (.streamTxGet p) s fun t => t.core.answered p .ok (defWords 12 (r.n 0)
      (c.txStream (r.n 0)).defn ++ [(c.get (R.MEDIA_TX_STATE (r.n 0))).toNat])) ∧
  (∀ (s : State) (p : Packet) (num : Nat), let c := s.core.offered opStreamStats p; let r := reqOf opStreamStats p; s.core.admits
      opStreamStats p = true → s.quiet = true → r.n 0 = 0 → 1 ≤ r.n 2 ∧ r.n 2 ≤ 64 ∧ r.n 1 + r.n 2 ≤ 256 → r.n 1 ≤ num ∧ num < r.n
      1 + r.n 2 → Completes (.streamStatsGet p) s fun t => (t.core.answered p .ok (((List.range (r.n 2)).map (· + r.n 1)).flatMap
      fun x => (List.range 8).map fun i => (c.get (R.MEDIA_RX_MARGIN x + 4 * i)).toNat)) ∧ (∀ i : Nat, i < 6 → t.core.get
      (R.MEDIA_RX_UNDERRUN num + 4 * i) = 0)) ∧
  (∀ (s : State) (p : Packet) (num : Nat), let c := s.core.offered opStreamStats p; let r := reqOf opStreamStats p; s.core.admits
      opStreamStats p = true → s.quiet = true → r.n 0 = 1 → 1 ≤ r.n 2 ∧ r.n 2 ≤ 64 ∧ r.n 1 + r.n 2 ≤ 256 → r.n 1 ≤ num ∧ num < r.n
      1 + r.n 2 → Completes (.streamStatsGet p) s fun t => (t.core.answered p .ok (((List.range (r.n 2)).map (· + r.n 1)).flatMap
      fun x => (List.range 3).map fun i => (c.get (R.MEDIA_TX_PACKETS x + 4 * i)).toNat)) ∧ t.core.get (R.MEDIA_TX_LATE num) = 0 ∧
      t.core.get (R.MEDIA_TX_DROP num) = 0) ∧
  (∀ (s : State) (port : Nat) (x : Rtp) (j num i k : Nat) (y : RxStream), s.quiet = true → port ≤ 1 → s.core.flag
      (F.NET_STATUS_LINK_UP port) = true → s.core.clk.mediaOn = true → s.core.armed 3 = false → s.core.twinWaits = false →
      s.core.net.rx.filter (fun z => legMatches z.2.defn port x.dst x.src x.port x.vid) = [(num, y)] → s.core.rxStream num = y →
      num ≤ 255 ∧ j < s.core.blk → (bitsOf (dw y.defn 4) 6 0 = 0 ∨ x.pt = bitsOf (dw y.defn 4) 6 0) → x.payload.length = defCh
      y.defn * packetSamples s.core.clk.mult (defPtime y.defn) * formatBytes (defFormat y.defn) → mediaTime x.ts (y.defn.getD 3 0)
      (s.core.time.n + j) + y.off ≤ s.core.time.n + j + earlySpan s.core.clk.mult → i < packetSamples s.core.clk.mult (defPtime
      y.defn) ∧ k < defCh y.defn ∧ defCh y.defn ≤ 64 → 0 ≤ mediaTime x.ts (y.defn.getD 3 0) (s.core.time.n + j) → y.judged ≤
      (mediaTime x.ts (y.defn.getD 3 0) (s.core.time.n + j) + i).toNat → smGet (fun _ => none) y.data (64 * (mediaTime x.ts
      (y.defn.getD 3 0) (s.core.time.n + j) + i).toNat) = none → Completes (.rtpPacketReceive port x j) s fun t => t.core.get
      (R.MEDIA_RX_PACKETS num) = s.core.get (R.MEDIA_RX_PACKETS num) + 1 ∧ smGet (fun _ => none) (t.core.rxStream num).data (64 *
      (mediaTime x.ts (y.defn.getD 3 0) (s.core.time.n + j) + i).toNat + k) = some (payloadSample (defFormat y.defn) x.payload (i *
      defCh y.defn + k)) ∧ t.core.flag (if port = 0 then F.MEDIA_RX_STATE_LEG_A_UP num else F.MEDIA_RX_STATE_LEG_B_UP num) = true)
      ∧
  (∀ (s : State) (num leg : Nat), s.quiet = true → num ≤ 255 ∧ leg ≤ 1 → defEn (s.core.rxStream num).defn = true ∧ defLeg
      (s.core.rxStream num).defn leg = true → (if leg = 0 then (s.core.rxStream num).lostA else (s.core.rxStream num).lostB) =
      false → (if leg = 0 then (s.core.rxStream num).lastA else (s.core.rxStream num).lastB) + 25000000 ≤ s.core.time.cycles →
      Completes (.streamLegLoss num leg) s fun t => t.core.flag (if leg = 0 then F.MEDIA_RX_STATE_LEG_A_UP num else
      F.MEDIA_RX_STATE_LEG_B_UP num) = false ∧ t.core.f ⟨R.MEDIA_RX_LEG_LOSS num, 15, 0⟩ = min (s.core.f ⟨R.MEDIA_RX_LEG_LOSS num,
      15, 0⟩ + 1) 65535 ∧ t.core.flag F.MEDIA_INT_STATUS_LEG_LOSS = true) ∧
  (∀ (s : State) (num : Nat), s.quiet = true → num ≤ 255 → defEn (s.core.rxStream num).defn = true → s.core.time.n % 65536 = 0 →
      Completes (.marginSpanEnd num) s fun t => (t.core.f (F.MEDIA_RX_MARGIN_MARGIN num) = ((s.core.rxStream num).margin.map fun m
      => unsigned 16 (clampInt (-32767) 32767 m)).getD 0x8000) ∧ (t.core.rxStream num).margin = none) ∧
  (∀ (s : State) (num m : Nat), s.quiet = true → num ≤ 255 → defEn (s.core.txStream num).defn = true → s.core.clk.mediaOn = true →
      (s.core.txStream num).at_ + packetSamples s.core.clk.mult (defPtime (s.core.txStream num).defn) ≤ s.core.net.txEnd →
      s.core.twinHeld = false → defLeg (s.core.txStream num).defn 0 = true → s.core.resolve 0 ((s.core.txStream num).defn.getD 6 0)
      = some m → s.core.flag (F.NET_STATUS_LINK_UP 0) = true → 64 ≤ s.core.f (F.NET_MAX_FRAME_BYTES 0) → legFrame s.core.clk.mult
      false (s.core.txStream num).defn 0 ≤ s.core.f (F.NET_MAX_FRAME_BYTES 0) → Completes (.streamPacketQueue num) s fun t =>
      (t.core.txStream num).at_ = (s.core.txStream num).at_ + packetSamples s.core.clk.mult (defPtime (s.core.txStream num).defn) ∧
      t.core.f (F.MEDIA_TX_SEQ_SEQ num) = (s.core.f (F.MEDIA_TX_SEQ_SEQ num) + 1) % 65536 ∧ t.core.get (R.MEDIA_TX_PACKETS num) =
      s.core.get (R.MEDIA_TX_PACKETS num) + 1 ∧ (t.core.netPort 0).txq.length = (s.core.netPort 0).txq.length + 1 ∧
      ((t.core.netPort 0).txq.getLast?).map (fun f => (f.cls, f.len, f.stream.map (·.1))) = some (6, legFrame s.core.clk.mult false
      (s.core.txStream num).defn 0 - 4, some num))

/-- For every operand, broadcast, memory slot and AU slot, without an uncorrectable word among those read: the accumulator or
vector register of MAC, MSU, MPY, CLR, ADDA, SUBA, HSUM, ACCMOV, RND, TRN and the vector operations holds, once the writes in
flight have landed, the value that R394, R395 and R403 give, saturated to 56 or 24 bits, with AOV or SAT set where it saturated.
A vector result is stated where no load of the same instruction names its register, which would take precedence (R392). -/
def Obligations.BrushVectorInstructionsComplete : Prop :=
  (∀ (s : State) (k dst sa sb bc : Nat) (ma mb : Nat × Nat × Nat × Nat) (au : Nat × Nat × Nat), let x := s.core.bc k; s.quiet =
      true → s.core.atInstr k (.par 1 dst sa sb bc ma mb au) = true → s.core.slotsGood k ma mb = true → Completes (.bcMac k) s fun
      t => (t.core.bc k).settle.a dst = (List.zipWith (· + ·) (x.a dst) (x.shs (x.v sa) (x.sbOf sb bc))).map (sat 56) ∧
      ((List.zipWith (· + ·) (x.a dst) (x.shs (x.v sa) (x.sbOf sb bc))).any (fun q => decide (sat 56 q ≠ q)) = true → bitOf
      (t.core.bc k).settle.sr 5 = true)) ∧
  (∀ (s : State) (k dst sa sb bc : Nat) (ma mb : Nat × Nat × Nat × Nat) (au : Nat × Nat × Nat), let x := s.core.bc k; s.quiet =
      true → s.core.atInstr k (.par 2 dst sa sb bc ma mb au) = true → s.core.slotsGood k ma mb = true → Completes (.bcMsu k) s fun
      t => (t.core.bc k).settle.a dst = (List.zipWith (· - ·) (x.a dst) (x.shs (x.v sa) (x.sbOf sb bc))).map (sat 56) ∧
      ((List.zipWith (· - ·) (x.a dst) (x.shs (x.v sa) (x.sbOf sb bc))).any (fun q => decide (sat 56 q ≠ q)) = true → bitOf
      (t.core.bc k).settle.sr 5 = true)) ∧
  (∀ (s : State) (k dst sa sb bc : Nat) (ma mb : Nat × Nat × Nat × Nat) (au : Nat × Nat × Nat), let x := s.core.bc k; s.quiet =
      true → s.core.atInstr k (.par 3 dst sa sb bc ma mb au) = true → s.core.slotsGood k ma mb = true → Completes (.bcMpy k) s fun
      t => (t.core.bc k).settle.a dst = (x.shs (x.v sa) (x.sbOf sb bc)).map (sat 56)) ∧
  (∀ (s : State) (k dst sa sb bc : Nat) (ma mb : Nat × Nat × Nat × Nat) (au : Nat × Nat × Nat), let x := s.core.bc k; s.quiet =
      true → s.core.atInstr k (.par 5 dst sa sb bc ma mb au) = true → s.core.slotsGood k ma mb = true → Completes (.bcClr k) s fun
      t => (t.core.bc k).settle.a dst = [0, 0, 0, 0]) ∧
  (∀ (s : State) (k dst sa sb bc : Nat) (ma mb : Nat × Nat × Nat × Nat) (au : Nat × Nat × Nat), let x := s.core.bc k; s.quiet =
      true → s.core.atInstr k (.par 6 dst sa sb bc ma mb au) = true → s.core.slotsGood k ma mb = true → Completes (.bcAdda k) s fun
      t => (t.core.bc k).settle.a dst = (List.zipWith (· + ·) (x.a dst) (x.shOne (x.v sa))).map (sat 56) ∧ ((List.zipWith (· + ·)
      (x.a dst) (x.shOne (x.v sa))).any (fun q => decide (sat 56 q ≠ q)) = true → bitOf (t.core.bc k).settle.sr 5 = true)) ∧
  (∀ (s : State) (k dst sa sb bc : Nat) (ma mb : Nat × Nat × Nat × Nat) (au : Nat × Nat × Nat), let x := s.core.bc k; s.quiet =
      true → s.core.atInstr k (.par 7 dst sa sb bc ma mb au) = true → s.core.slotsGood k ma mb = true → Completes (.bcSuba k) s fun
      t => (t.core.bc k).settle.a dst = (List.zipWith (· - ·) (x.a dst) (x.shOne (x.v sa))).map (sat 56) ∧ ((List.zipWith (· - ·)
      (x.a dst) (x.shOne (x.v sa))).any (fun q => decide (sat 56 q ≠ q)) = true → bitOf (t.core.bc k).settle.sr 5 = true)) ∧
  (∀ (s : State) (k dst sa sb bc : Nat) (ma mb : Nat × Nat × Nat × Nat) (au : Nat × Nat × Nat), let x := s.core.bc k; s.quiet =
      true → s.core.atInstr k (.par 10 dst sa sb bc ma mb au) = true → s.core.slotsGood k ma mb = true → Completes (.bcHsum k) s
      fun t => (t.core.bc k).settle.a dst = [sat 56 (x.a sa).sum, 0, 0, 0] ∧ (sat 56 (x.a sa).sum ≠ (x.a sa).sum → bitOf (t.core.bc
      k).settle.sr 5 = true)) ∧
  (∀ (s : State) (k dst sa sb bc : Nat) (ma mb : Nat × Nat × Nat × Nat) (au : Nat × Nat × Nat), let x := s.core.bc k; s.quiet =
      true → s.core.atInstr k (.par 11 dst sa sb bc ma mb au) = true → s.core.slotsGood k ma mb = true → Completes (.bcAccmov k) s
      fun t => (t.core.bc k).settle.a dst = (x.a sa).map (sat 56)) ∧
  (∀ (s : State) (k dst sa sb bc : Nat) (ma mb : Nat × Nat × Nat × Nat) (au : Nat × Nat × Nat), let x := s.core.bc k; s.quiet =
      true → s.core.atInstr k (.par 8 dst sa sb bc ma mb au) = true → s.core.slotsGood k ma mb = true → loadsReg ma dst = false →
      loadsReg mb dst = false → Completes (.bcRnd k) s fun t => (t.core.bc k).settle.v dst = ((x.a sa).map (rshr x.osh)).map (sat
      24) ∧ (((x.a sa).map (rshr x.osh)).any (fun q => decide (sat 24 q ≠ q)) = true → bitOf (t.core.bc k).settle.sr 4 = true)) ∧
  (∀ (s : State) (k dst sa sb bc : Nat) (ma mb : Nat × Nat × Nat × Nat) (au : Nat × Nat × Nat), let x := s.core.bc k; s.quiet =
      true → s.core.atInstr k (.par 9 dst sa sb bc ma mb au) = true → s.core.slotsGood k ma mb = true → loadsReg ma dst = false →
      loadsReg mb dst = false → Completes (.bcTrn k) s fun t => ((t.core.bc k).settle.v dst = ((x.a sa).map fun q => q / ((2 ^
      x.osh : Nat) : Int)).map (sat 24)) ∧ (((x.a sa).map fun q => q / ((2 ^ x.osh : Nat) : Int)).any (fun q => decide (sat 24 q ≠
      q)) = true → bitOf (t.core.bc k).settle.sr 4 = true)) ∧
  (∀ (s : State) (k dst sa sb bc : Nat) (ma mb : Nat × Nat × Nat × Nat) (au : Nat × Nat × Nat), let x := s.core.bc k; s.quiet =
      true → s.core.atInstr k (.par 16 dst sa sb bc ma mb au) = true → s.core.slotsGood k ma mb = true → loadsReg ma dst = false →
      loadsReg mb dst = false → Completes (.bcVadd k) s fun t => (t.core.bc k).settle.v dst = (List.zipWith (· + ·) (x.v sa)
      (x.sbOf sb bc)).map (sat 24) ∧ ((List.zipWith (· + ·) (x.v sa) (x.sbOf sb bc)).any (fun q => decide (sat 24 q ≠ q)) = true →
      bitOf (t.core.bc k).settle.sr 4 = true)) ∧
  (∀ (s : State) (k dst sa sb bc : Nat) (ma mb : Nat × Nat × Nat × Nat) (au : Nat × Nat × Nat), let x := s.core.bc k; s.quiet =
      true → s.core.atInstr k (.par 17 dst sa sb bc ma mb au) = true → s.core.slotsGood k ma mb = true → loadsReg ma dst = false →
      loadsReg mb dst = false → Completes (.bcVsub k) s fun t => (t.core.bc k).settle.v dst = (List.zipWith (· - ·) (x.v sa)
      (x.sbOf sb bc)).map (sat 24) ∧ ((List.zipWith (· - ·) (x.v sa) (x.sbOf sb bc)).any (fun q => decide (sat 24 q ≠ q)) = true →
      bitOf (t.core.bc k).settle.sr 4 = true)) ∧
  (∀ (s : State) (k dst sa sb bc : Nat) (ma mb : Nat × Nat × Nat × Nat) (au : Nat × Nat × Nat), let x := s.core.bc k; s.quiet =
      true → s.core.atInstr k (.par 18 dst sa sb bc ma mb au) = true → s.core.slotsGood k ma mb = true → loadsReg ma dst = false →
      loadsReg mb dst = false → Completes (.bcVand k) s fun t => (t.core.bc k).settle.v dst = List.zipWith (fun p q => signed 24
      (unsigned 24 p &&& unsigned 24 q)) (x.v sa) (x.sbOf sb bc)) ∧
  (∀ (s : State) (k dst sa sb bc : Nat) (ma mb : Nat × Nat × Nat × Nat) (au : Nat × Nat × Nat), let x := s.core.bc k; s.quiet =
      true → s.core.atInstr k (.par 19 dst sa sb bc ma mb au) = true → s.core.slotsGood k ma mb = true → loadsReg ma dst = false →
      loadsReg mb dst = false → Completes (.bcVor k) s fun t => (t.core.bc k).settle.v dst = List.zipWith (fun p q => signed 24
      (unsigned 24 p ||| unsigned 24 q)) (x.v sa) (x.sbOf sb bc)) ∧
  (∀ (s : State) (k dst sa sb bc : Nat) (ma mb : Nat × Nat × Nat × Nat) (au : Nat × Nat × Nat), let x := s.core.bc k; s.quiet =
      true → s.core.atInstr k (.par 20 dst sa sb bc ma mb au) = true → s.core.slotsGood k ma mb = true → loadsReg ma dst = false →
      loadsReg mb dst = false → Completes (.bcVxor k) s fun t => (t.core.bc k).settle.v dst = List.zipWith (fun p q => signed 24
      (unsigned 24 p ^^^ unsigned 24 q)) (x.v sa) (x.sbOf sb bc)) ∧
  (∀ (s : State) (k dst sa sb bc : Nat) (ma mb : Nat × Nat × Nat × Nat) (au : Nat × Nat × Nat), let x := s.core.bc k; s.quiet =
      true → s.core.atInstr k (.par 21 dst sa sb bc ma mb au) = true → s.core.slotsGood k ma mb = true → loadsReg ma dst = false →
      loadsReg mb dst = false → Completes (.bcVneg k) s fun t => ((t.core.bc k).settle.v dst = ((x.v sa).map fun q => -q).map (sat
      24)) ∧ (((x.v sa).map fun q => -q).any (fun q => decide (sat 24 q ≠ q)) = true → bitOf (t.core.bc k).settle.sr 4 = true)) ∧
  (∀ (s : State) (k dst sa sb bc : Nat) (ma mb : Nat × Nat × Nat × Nat) (au : Nat × Nat × Nat), let x := s.core.bc k; s.quiet =
      true → s.core.atInstr k (.par 22 dst sa sb bc ma mb au) = true → s.core.slotsGood k ma mb = true → loadsReg ma dst = false →
      loadsReg mb dst = false → Completes (.bcVabs k) s fun t => ((t.core.bc k).settle.v dst = ((x.v sa).map fun q => (q.natAbs :
      Int)).map (sat 24)) ∧ (((x.v sa).map fun q => (q.natAbs : Int)).any (fun q => decide (sat 24 q ≠ q)) = true → bitOf
      (t.core.bc k).settle.sr 4 = true)) ∧
  (∀ (s : State) (k dst sa sb bc : Nat) (ma mb : Nat × Nat × Nat × Nat) (au : Nat × Nat × Nat), let x := s.core.bc k; s.quiet =
      true → s.core.atInstr k (.par 23 dst sa sb bc ma mb au) = true → s.core.slotsGood k ma mb = true → loadsReg ma dst = false →
      loadsReg mb dst = false → Completes (.bcVmax k) s fun t => (t.core.bc k).settle.v dst = (List.zipWith max (x.v sa) (x.sbOf sb
      bc)).map (sat 24) ∧ ((List.zipWith max (x.v sa) (x.sbOf sb bc)).any (fun q => decide (sat 24 q ≠ q)) = true → bitOf
      (t.core.bc k).settle.sr 4 = true)) ∧
  (∀ (s : State) (k dst sa sb bc : Nat) (ma mb : Nat × Nat × Nat × Nat) (au : Nat × Nat × Nat), let x := s.core.bc k; s.quiet =
      true → s.core.atInstr k (.par 24 dst sa sb bc ma mb au) = true → s.core.slotsGood k ma mb = true → loadsReg ma dst = false →
      loadsReg mb dst = false → Completes (.bcVmin k) s fun t => (t.core.bc k).settle.v dst = (List.zipWith min (x.v sa) (x.sbOf sb
      bc)).map (sat 24) ∧ ((List.zipWith min (x.v sa) (x.sbOf sb bc)).any (fun q => decide (sat 24 q ≠ q)) = true → bitOf
      (t.core.bc k).settle.sr 4 = true)) ∧
  (∀ (s : State) (k dst sa sb bc : Nat) (ma mb : Nat × Nat × Nat × Nat) (au : Nat × Nat × Nat), let x := s.core.bc k; s.quiet =
      true → s.core.atInstr k (.par 25 dst sa sb bc ma mb au) = true → s.core.slotsGood k ma mb = true → loadsReg ma dst = false →
      loadsReg mb dst = false → Completes (.bcVasr k) s fun t => ((t.core.bc k).settle.v dst = ((x.v sa).map fun q => q / ((2 ^ sb
      : Nat) : Int)).map (sat 24)) ∧ (((x.v sa).map fun q => q / ((2 ^ sb : Nat) : Int)).any (fun q => decide (sat 24 q ≠ q)) =
      true → bitOf (t.core.bc k).settle.sr 4 = true)) ∧
  (∀ (s : State) (k dst sa sb bc : Nat) (ma mb : Nat × Nat × Nat × Nat) (au : Nat × Nat × Nat), let x := s.core.bc k; s.quiet =
      true → s.core.atInstr k (.par 26 dst sa sb bc ma mb au) = true → s.core.slotsGood k ma mb = true → loadsReg ma dst = false →
      loadsReg mb dst = false → Completes (.bcVasrr k) s fun t => (t.core.bc k).settle.v dst = ((x.v sa).map (rshr sb)).map (sat
      24) ∧ (((x.v sa).map (rshr sb)).any (fun q => decide (sat 24 q ≠ q)) = true → bitOf (t.core.bc k).settle.sr 4 = true)) ∧
  (∀ (s : State) (k dst sa sb bc : Nat) (ma mb : Nat × Nat × Nat × Nat) (au : Nat × Nat × Nat), let x := s.core.bc k; s.quiet =
      true → s.core.atInstr k (.par 27 dst sa sb bc ma mb au) = true → s.core.slotsGood k ma mb = true → loadsReg ma dst = false →
      loadsReg mb dst = false → Completes (.bcVshl k) s fun t => ((t.core.bc k).settle.v dst = ((x.v sa).map fun q => q * ((2 ^ sb
      : Nat) : Int)).map (sat 24)) ∧ (((x.v sa).map fun q => q * ((2 ^ sb : Nat) : Int)).any (fun q => decide (sat 24 q ≠ q)) =
      true → bitOf (t.core.bc k).settle.sr 4 = true)) ∧
  (∀ (s : State) (k dst sa sb bc : Nat) (ma mb : Nat × Nat × Nat × Nat) (au : Nat × Nat × Nat), let x := s.core.bc k; s.quiet =
      true → s.core.atInstr k (.par 28 dst sa sb bc ma mb au) = true → s.core.slotsGood k ma mb = true → loadsReg ma dst = false →
      loadsReg mb dst = false → Completes (.bcVmov k) s fun t => (t.core.bc k).settle.v dst = (x.sbOf sb bc).map (sat 24) ∧
      ((x.sbOf sb bc).any (fun q => decide (sat 24 q ≠ q)) = true → bitOf (t.core.bc k).settle.sr 4 = true)) ∧
  (∀ (s : State) (k dst sa sb bc : Nat) (ma mb : Nat × Nat × Nat × Nat) (au : Nat × Nat × Nat), let x := s.core.bc k; s.quiet =
      true → s.core.atInstr k (.par 29 dst sa sb bc ma mb au) = true → s.core.slotsGood k ma mb = true → loadsReg ma dst = false →
      loadsReg mb dst = false → Completes (.bcVrot k) s fun t => ((t.core.bc k).settle.v dst = ((List.range 4).map fun i => (x.v
      sa).getD ((i + sb) % 4) 0).map (sat 24)) ∧ (((List.range 4).map fun i => (x.v sa).getD ((i + sb) % 4) 0).any (fun q => decide
      (sat 24 q ≠ q)) = true → bitOf (t.core.bc k).settle.sr 4 = true))

/-- Stated of NOP, whose other slots act as in any parallel instruction: a load places its words, shifted and saturated, in its
register, the MB slot before the MA slot; a store writes its lanes; the pointers take their post-modifications and the AU
operation; the instruction takes one cycle, and the PC advances, repeats under REP, or goes back to LS at an armed LE. FTAP
accumulates the products of the delay-line vector and the coefficient, moves the vector, and steps both pointers. Data memory
words that a store does not write keep their values. -/
def Obligations.BrushSlotsLoopsAndFtapComplete : Prop :=
  (∀ (s : State) (k dst sa sb bc : Nat) (ma mb : Nat × Nat × Nat × Nat) (au : Nat × Nat × Nat) (m : Nat × Nat × Nat × Nat),
      let x := s.core.bc k; s.quiet = true → s.core.atInstr k (.par 0 dst sa sb bc ma mb au) = true → s.core.slotsGood k ma mb =
      true → (m = mb ∨ (m = ma ∧ loadsReg mb m.2.1 = false)) → m.1 = 1 → Completes (.bcNop k) s fun t => ((t.core.bc k).settle.v
      m.2.1 = ((List.range 4).map (x.lane m.2.2.1)).map fun w => sat 24 (x.loaded (s.core.dmWord k w)))) ∧
  (∀ (s : State) (k dst sa sb bc : Nat) (ma mb : Nat × Nat × Nat × Nat) (au : Nat × Nat × Nat) (m : Nat × Nat × Nat × Nat),
      let x := s.core.bc k; s.quiet = true → s.core.atInstr k (.par 0 dst sa sb bc ma mb au) = true → s.core.slotsGood k ma mb =
      true → (m = mb ∨ (m = ma ∧ loadsReg mb m.2.1 = false)) → m.1 = 2 → Completes (.bcNop k) s fun t => (t.core.bc k).settle.v
      m.2.1 = List.replicate 4 (sat 24 (x.loaded (s.core.dmWord k (x.lane m.2.2.1 0))))) ∧
  (∀ (s : State) (k dst sa sb bc : Nat) (ma mb : Nat × Nat × Nat × Nat) (au : Nat × Nat × Nat) (m : Nat × Nat × Nat × Nat) (i :
      Nat), let x := s.core.bc k; s.quiet = true → s.core.atInstr k (.par 0 dst sa sb bc ma mb au) = true → s.core.slotsGood k ma
      mb = true → (m = mb ∨ (m = ma ∧ storesDm mb = false)) → m.1 = 3 ∧ i < 4 → (∀ j : Nat, j < 4 → i < j → x.lane m.2.2.1 j ≠
      x.lane m.2.2.1 i) → Completes (.bcNop k) s fun t => (t.core.dmWord k (x.lane m.2.2.1 i) = dmSample (((x.v m.2.1).map fun q =>
      sat 24 (q * ((2 ^ x.ssh : Nat) : Int))).getD i 0))) ∧
  (∀ (s : State) (k dst sa sb bc : Nat) (ma mb : Nat × Nat × Nat × Nat) (au : Nat × Nat × Nat) (m : Nat × Nat × Nat × Nat),
      let x := s.core.bc k; s.quiet = true → s.core.atInstr k (.par 0 dst sa sb bc ma mb au) = true → s.core.slotsGood k ma mb =
      true → (m = mb ∨ (m = ma ∧ storesDm mb = false)) → m.1 = 4 → Completes (.bcNop k) s fun t => t.core.dmWord k (x.lane m.2.2.1
      0) = dmSample (sat 24 ((x.v m.2.1).getD 0 0 * ((2 ^ x.ssh : Nat) : Int)))) ∧
  (∀ (s : State) (k dst sa sb bc : Nat) (ma mb : Nat × Nat × Nat × Nat) (au : Nat × Nat × Nat) (w : Nat), let x := s.core.bc k;
      s.quiet = true → s.core.atInstr k (.par 0 dst sa sb bc ma mb au) = true → s.core.slotsGood k ma mb = true → w < 32768 → ([ma,
      mb].all (fun m => decide (m.1 ≠ 3 ∨ w ∉ (List.range 4).map (x.lane m.2.2.1)) && decide (m.1 ≠ 4 ∨ w ≠ x.lane m.2.2.1 0)) =
      true) → Completes (.bcNop k) s fun t => t.core.dmWord k w = s.core.dmWord k w) ∧
  (∀ (s : State) (k dst sa sb bc : Nat) (ma mb : Nat × Nat × Nat × Nat) (au : Nat × Nat × Nat) (m : Nat × Nat × Nat × Nat),
      let x := s.core.bc k; s.quiet = true → s.core.atInstr k (.par 0 dst sa sb bc ma mb au) = true → s.core.slotsGood k ma mb =
      true → m.1 ≠ 0 → ((m = ma ∧ usesPtr mb m.2.2.1 = false) ∨ (m = mb ∧ usesPtr ma m.2.2.1 = false)) → (au.1 = 0 ∨ au.1 = 3 ∨
      au.2.1 ≠ m.2.2.1) → m.2.2.1 < 8 → Completes (.bcNop k) s fun t => (t.core.bc k).settle.s (16 + m.2.2.1) = x.post m.2.2.1
      m.2.2.2 (x.s (16 + m.2.2.1)) % 2 ^ 16) ∧
  (∀ (s : State) (k dst sa sb bc : Nat) (ma mb : Nat × Nat × Nat × Nat) (au : Nat × Nat × Nat), let x := s.core.bc k; s.quiet =
      true → s.core.atInstr k (.par 0 dst sa sb bc ma mb au) = true → s.core.slotsGood k ma mb = true → usesPtr ma au.2.1 = false ∧
      usesPtr mb au.2.1 = false → Completes (.bcNop k) s fun t => (au.1 = 1 → (t.core.bc k).settle.s (16 + au.2.1) = x.wrapP au.2.1
      ((x.s (16 + au.2.1) : Int) + signed 16 (x.s (24 + au.2.2 % 8))) % 2 ^ 16) ∧ (au.1 = 2 → (t.core.bc k).settle.s (16 + au.2.1)
      = x.wrapP au.2.1 ((x.s (16 + au.2.1) : Int) + signed 6 au.2.2) % 2 ^ 16) ∧ (au.1 = 3 → signed 16 ((t.core.bc k).settle.s (24
      + au.2.1)) = signed 16 (unsigned 16 (signed 16 (x.s (24 + au.2.1)) + signed 6 au.2.2))) ∧ (au.1 = 4 → (t.core.bc k).settle.s
      (16 + au.2.1) = x.s (32 + au.2.1) % 2 ^ 16)) ∧
  (∀ (s : State) (k dst sa sb bc : Nat) (ma mb : Nat × Nat × Nat × Nat) (au : Nat × Nat × Nat), let x := s.core.bc k; s.quiet =
      true → s.core.atInstr k (.par 0 dst sa sb bc ma mb au) = true → s.core.slotsGood k ma mb = true → x.rep ≤ 1 → (x.pc ≠ x.s 50
      ∨ x.s 48 = 0) → Completes (.bcNop k) s fun t => (t.core.bc k).pc = (x.pc + 1) % 8192 ∧ (t.core.bc k).rep = 0 ∧ (t.core.bc
      k).cycle = x.cycle + 1 ∧ t.core.f (F.BRUSH_CORE_PC_PC k) = x.pc % 8192 ∧ (x.halt = true → t.core.bcState k = 1)) ∧
  (∀ (s : State) (k dst sa sb bc : Nat) (ma mb : Nat × Nat × Nat × Nat) (au : Nat × Nat × Nat), let x := s.core.bc k; s.quiet =
      true → s.core.atInstr k (.par 0 dst sa sb bc ma mb au) = true → s.core.slotsGood k ma mb = true → x.rep ≤ 1 → x.pc = x.s 50 →
      x.s 48 ≠ 0 → Completes (.bcNop k) s fun t => ((t.core.bc k).pc = if x.s 48 > 1 then x.s 49 else (x.pc + 1) % 8192) ∧
      (t.core.bc k).settle.s 48 = (x.s 48 - 1) % 2 ^ 32) ∧
  (∀ (s : State) (k dst sa sb bc : Nat) (ma mb : Nat × Nat × Nat × Nat) (au : Nat × Nat × Nat), let x := s.core.bc k; s.quiet =
      true → s.core.atInstr k (.par 0 dst sa sb bc ma mb au) = true → s.core.slotsGood k ma mb = true → 1 < x.rep → Completes
      (.bcNop k) s fun t => (t.core.bc k).pc = x.pc ∧ (t.core.bc k).rep = x.rep - 1 ∧ t.core.bcState k = 3) ∧
  (∀ (s : State) (k a p mode move : Nat), let x := s.core.bc k; s.quiet = true → s.core.atInstr k (.ftap a p mode move) = true →
      s.core.dmGood k ((List.range 4).map (x.lane p)) = true → p ≠ 7 → Completes (.bcFtap k) s fun t => ((t.core.bc k).settle.a a =
      (List.zipWith (· + ·) (x.a a) (((List.range 4).map (x.lane p)).map fun w => rshr x.psh (signed 24 (s.core.dmWord k w).toNat *
      signed 24 (s.core.imWord k (x.s 23)).toNat))).map (sat 56)) ∧ (t.core.bc k).settle.s (16 + p) = x.post p mode (x.s (16 + p))
      % 2 ^ 16 ∧ (t.core.bc k).settle.s 23 = x.wrapP 7 ((x.s 23 : Int) + signed 16 (x.s 31)) % 2 ^ 16) ∧
  (∀ (s : State) (k a p mode move : Nat) (i : Nat), let x := s.core.bc k; s.quiet = true → s.core.atInstr k (.ftap a p mode move) =
      true → s.core.dmGood k ((List.range 4).map (x.lane p)) = true → i < 4 → (∀ j : Nat, j < 4 → i < j → x.wrapP p ((x.s (16 + p)
      : Int) + signed 4 move + j) % 32768 ≠ x.wrapP p ((x.s (16 + p) : Int) + signed 4 move + i) % 32768) → Completes (.bcFtap k) s
      fun t => t.core.dmWord k (x.wrapP p ((x.s (16 + p) : Int) + signed 4 move + i)) = dmSample (signed 24 (s.core.dmWord k
      (x.lane p i)).toNat))

/-- LDI, MOV, ADD, SUB, AND, OR, XOR, MUL and the shifts leave their result in RD as the register keeps it, with Z and N from
the result and C and V as R397 states them; C and V of a shift are free values, since R397 names no carry and no overflow of a
shift; CMP sets the flags alone. LDS and STS read and write data memory, LDC and STC the control registers of the core, XGET,
XPUT, ACCGET and ACCPUT a lane. A result in LC is stated where the instruction does not itself stand at LE. -/
def Obligations.BrushScalarInstructionsComplete : Prop :=
  (∀ (s : State) (k rd rs : Nat) (i : Bool) (imm : Nat), let x := s.core.bc k; s.quiet = true → s.core.atInstr k (.scl 1 rd rs i
      imm) = true → (rd ≠ 48 ∨ x.pc ≠ x.s 50) → Completes (.bcLdi k) s fun t => (t.core.bc k).settle.s rd = keptIn rd imm) ∧
  (∀ (s : State) (k rd rs : Nat) (i : Bool) (imm : Nat), let x := s.core.bc k; s.quiet = true → s.core.atInstr k (.scl 2 rd rs i
      imm) = true → (rd ≠ 48 ∨ x.pc ≠ x.s 50) → Completes (.bcMov k) s fun t => (t.core.bc k).settle.s rd = keptIn rd (x.s rs)) ∧
  (∀ (s : State) (k rd rs : Nat) (i : Bool) (imm : Nat) (b : Nat), let x := s.core.bc k; s.quiet = true → s.core.atInstr k (.scl 8
      rd rs i imm) = true → (b = if i then imm else x.s rs) → (rd ≠ 48 ∨ x.pc ≠ x.s 50) → Completes (.bcAdd k) s fun t =>
      (t.core.bc k).settle.s rd = keptIn rd ((x.s rd + b) % 2 ^ 32) ∧ (rd ≠ 51 → bitOf (t.core.bc k).settle.sr 0 = decide ((x.s rd
      + b) % 2 ^ 32 = 0) ∧ bitOf (t.core.bc k).settle.sr 1 = decide (2 ^ 31 ≤ (x.s rd + b) % 2 ^ 32)) ∧ (rd ≠ 51 → bitOf (t.core.bc
      k).settle.sr 2 = decide (2 ^ 32 ≤ x.s rd + b) ∧ bitOf (t.core.bc k).settle.sr 3 = decide (signed 32 (x.s rd) + signed 32 b ≠
      signed 32 ((x.s rd + b) % 2 ^ 32)))) ∧
  (∀ (s : State) (k rd rs : Nat) (i : Bool) (imm : Nat) (b : Nat), let x := s.core.bc k; s.quiet = true → s.core.atInstr k (.scl 9
      rd rs i imm) = true → (b = if i then imm else x.s rs) → (rd ≠ 48 ∨ x.pc ≠ x.s 50) → Completes (.bcSub k) s fun t =>
      (t.core.bc k).settle.s rd = keptIn rd (unsigned 32 ((x.s rd : Int) - b)) ∧ (rd ≠ 51 → bitOf (t.core.bc k).settle.sr 0 =
      decide (unsigned 32 ((x.s rd : Int) - b) = 0) ∧ bitOf (t.core.bc k).settle.sr 1 = decide (2 ^ 31 ≤ unsigned 32 ((x.s rd :
      Int) - b))) ∧ (rd ≠ 51 → bitOf (t.core.bc k).settle.sr 2 = decide (x.s rd < b) ∧ bitOf (t.core.bc k).settle.sr 3 = decide
      (signed 32 (x.s rd) - signed 32 b ≠ signed 32 (unsigned 32 ((x.s rd : Int) - b))))) ∧
  (∀ (s : State) (k rd rs : Nat) (i : Bool) (imm : Nat) (b : Nat), let x := s.core.bc k; s.quiet = true → s.core.atInstr k (.scl 16
      rd rs i imm) = true → (b = if i then imm else x.s rs) → Completes (.bcCmp k) s fun t => bitOf (t.core.bc k).settle.sr 0 =
      decide (unsigned 32 ((x.s rd : Int) - b) = 0) ∧ bitOf (t.core.bc k).settle.sr 1 = decide (2 ^ 31 ≤ unsigned 32 ((x.s rd :
      Int) - b)) ∧ bitOf (t.core.bc k).settle.sr 2 = decide (x.s rd < b) ∧ bitOf (t.core.bc k).settle.sr 3 = decide (signed 32 (x.s
      rd) - signed 32 b ≠ signed 32 (unsigned 32 ((x.s rd : Int) - b))) ∧ (rd ≠ 51 → (rd = 48 → x.pc ≠ x.s 50) → (t.core.bc
      k).settle.s rd = x.s rd)) ∧
  (∀ (s : State) (k rd rs : Nat) (i : Bool) (imm : Nat) (b : Nat), let x := s.core.bc k; s.quiet = true → s.core.atInstr k (.scl 10
      rd rs i imm) = true → (b = if i then imm else x.s rs) → (rd ≠ 48 ∨ x.pc ≠ x.s 50) → Completes (.bcAnd k) s fun t =>
      (t.core.bc k).settle.s rd = keptIn rd ((x.s rd &&& b)) ∧ (rd ≠ 51 → bitOf (t.core.bc k).settle.sr 0 = decide ((x.s rd &&& b)
      = 0) ∧ bitOf (t.core.bc k).settle.sr 1 = decide (2 ^ 31 ≤ (x.s rd &&& b))) ∧ (rd ≠ 51 → bitOf (t.core.bc k).settle.sr 2 =
      false ∧ bitOf (t.core.bc k).settle.sr 3 = false)) ∧
  (∀ (s : State) (k rd rs : Nat) (i : Bool) (imm : Nat) (b : Nat), let x := s.core.bc k; s.quiet = true → s.core.atInstr k (.scl 11
      rd rs i imm) = true → (b = if i then imm else x.s rs) → (rd ≠ 48 ∨ x.pc ≠ x.s 50) → Completes (.bcOr k) s fun t => (t.core.bc
      k).settle.s rd = keptIn rd ((x.s rd ||| b)) ∧ (rd ≠ 51 → bitOf (t.core.bc k).settle.sr 0 = decide ((x.s rd ||| b) = 0) ∧
      bitOf (t.core.bc k).settle.sr 1 = decide (2 ^ 31 ≤ (x.s rd ||| b))) ∧ (rd ≠ 51 → bitOf (t.core.bc k).settle.sr 2 = false ∧
      bitOf (t.core.bc k).settle.sr 3 = false)) ∧
  (∀ (s : State) (k rd rs : Nat) (i : Bool) (imm : Nat) (b : Nat), let x := s.core.bc k; s.quiet = true → s.core.atInstr k (.scl 12
      rd rs i imm) = true → (b = if i then imm else x.s rs) → (rd ≠ 48 ∨ x.pc ≠ x.s 50) → Completes (.bcXor k) s fun t =>
      (t.core.bc k).settle.s rd = keptIn rd ((x.s rd ^^^ b)) ∧ (rd ≠ 51 → bitOf (t.core.bc k).settle.sr 0 = decide ((x.s rd ^^^ b)
      = 0) ∧ bitOf (t.core.bc k).settle.sr 1 = decide (2 ^ 31 ≤ (x.s rd ^^^ b))) ∧ (rd ≠ 51 → bitOf (t.core.bc k).settle.sr 2 =
      false ∧ bitOf (t.core.bc k).settle.sr 3 = false)) ∧
  (∀ (s : State) (k rd rs : Nat) (i : Bool) (imm : Nat) (b : Nat), let x := s.core.bc k; s.quiet = true → s.core.atInstr k (.scl 17
      rd rs i imm) = true → (b = if i then imm else x.s rs) → (rd ≠ 48 ∨ x.pc ≠ x.s 50) → Completes (.bcMul k) s fun t =>
      (t.core.bc k).settle.s rd = keptIn rd (x.s rd * b % 2 ^ 32) ∧ (rd ≠ 51 → bitOf (t.core.bc k).settle.sr 0 = decide (x.s rd * b
      % 2 ^ 32 = 0) ∧ bitOf (t.core.bc k).settle.sr 1 = decide (2 ^ 31 ≤ x.s rd * b % 2 ^ 32)) ∧ (rd ≠ 51 → bitOf (t.core.bc
      k).settle.sr 2 = false ∧ bitOf (t.core.bc k).settle.sr 3 = false)) ∧
  (∀ (s : State) (k rd rs : Nat) (i : Bool) (imm : Nat) (b : Nat), let x := s.core.bc k; s.quiet = true → s.core.atInstr k (.scl 13
      rd rs i imm) = true → (b = if i then imm else x.s rs) → (rd ≠ 48 ∨ x.pc ≠ x.s 50) → Completes (.bcShl k) s fun t =>
      (t.core.bc k).settle.s rd = keptIn rd (x.s rd * 2 ^ (b % 32) % 2 ^ 32) ∧ (rd ≠ 51 → bitOf (t.core.bc k).settle.sr 0 = decide
      (x.s rd * 2 ^ (b % 32) % 2 ^ 32 = 0) ∧ bitOf (t.core.bc k).settle.sr 1 = decide (2 ^ 31 ≤ x.s rd * 2 ^ (b % 32) % 2 ^ 32)) ∧
      t.core.freeIx = s.core.freeIx + 2) ∧
  (∀ (s : State) (k rd rs : Nat) (i : Bool) (imm : Nat) (b : Nat), let x := s.core.bc k; s.quiet = true → s.core.atInstr k (.scl 14
      rd rs i imm) = true → (b = if i then imm else x.s rs) → (rd ≠ 48 ∨ x.pc ≠ x.s 50) → Completes (.bcShr k) s fun t =>
      (t.core.bc k).settle.s rd = keptIn rd (x.s rd / 2 ^ (b % 32)) ∧ (rd ≠ 51 → bitOf (t.core.bc k).settle.sr 0 = decide (x.s rd /
      2 ^ (b % 32) = 0) ∧ bitOf (t.core.bc k).settle.sr 1 = decide (2 ^ 31 ≤ x.s rd / 2 ^ (b % 32))) ∧ t.core.freeIx =
      s.core.freeIx + 2) ∧
  (∀ (s : State) (k rd rs : Nat) (i : Bool) (imm : Nat) (b : Nat), let x := s.core.bc k; s.quiet = true → s.core.atInstr k (.scl 15
      rd rs i imm) = true → (b = if i then imm else x.s rs) → (rd ≠ 48 ∨ x.pc ≠ x.s 50) → Completes (.bcAsr k) s fun t =>
      (t.core.bc k).settle.s rd = keptIn rd (unsigned 32 (signed 32 (x.s rd) / ((2 ^ (b % 32) : Nat) : Int))) ∧ (rd ≠ 51 → bitOf
      (t.core.bc k).settle.sr 0 = decide (unsigned 32 (signed 32 (x.s rd) / ((2 ^ (b % 32) : Nat) : Int)) = 0) ∧ bitOf (t.core.bc
      k).settle.sr 1 = decide (2 ^ 31 ≤ unsigned 32 (signed 32 (x.s rd) / ((2 ^ (b % 32) : Nat) : Int)))) ∧ t.core.freeIx =
      s.core.freeIx + 2) ∧
  (∀ (s : State) (k rd rs : Nat) (i : Bool) (imm : Nat), let x := s.core.bc k; s.quiet = true → s.core.atInstr k (.scl 24 rd rs i
      imm) = true → s.core.dmGood k [(x.s rs + imm) % 32768] = true → (rd ≠ 48 ∨ x.pc ≠ x.s 50) → Completes (.bcLds k) s fun t =>
      (t.core.bc k).settle.s rd = keptIn rd (s.core.dmWord k ((x.s rs + imm) % 32768)).toNat) ∧
  (∀ (s : State) (k rd rs : Nat) (i : Bool) (imm : Nat) (w : Nat), let x := s.core.bc k; s.quiet = true → s.core.atInstr k (.scl 25
      rd rs i imm) = true → w < 32768 → Completes (.bcSts k) s fun t => (t.core.dmWord k w = if w = (x.s rs + imm) % 32768 then
      .ofNat 32 (x.s rd) else s.core.dmWord k w)) ∧
  (∀ (s : State) (k rd rs : Nat) (i : Bool) (imm : Nat) (off : Nat), let x := s.core.bc k; s.quiet = true → s.core.atInstr k (.scl
      26 rd rs i imm) = true → off = R.BRUSH_CORE_STATE k + 4 * (imm % 1024) → (regRow? off).isSome = true → imm % 1024 ∉ [0x7,
      0xB, 0x43] → (rd ≠ 48 ∨ x.pc ≠ x.s 50) → Completes (.bcLdc k) s fun t => (t.core.bc k).settle.s rd = keptIn rd (s.core.get
      off).toNat) ∧
  (∀ (s : State) (k rd rs : Nat) (i : Bool) (imm : Nat) (off : Nat) (row : RegRow), let x := s.core.bc k; s.quiet = true →
      s.core.atInstr k (.scl 27 rd rs i imm) = true → off = R.BRUSH_CORE_STATE k + 4 * (imm % 1024) → regRow? off = some row → imm
      % 1024 ∉ [0, 1, 3, 6, 7, 0x41, 0x43, 0x23, 0x27, 0x2B, 0x2F] → Completes (.bcStc k) s fun t => t.core.get off =
      (s.core.writeTyped off (.ofNat 32 (x.s rd)) row true 0).get off ∧ (t.core.bc k).pc = x.advance.pc) ∧
  (∀ (s : State) (k rd rs : Nat) (i : Bool) (imm : Nat), let x := s.core.bc k; s.quiet = true → s.core.atInstr k (.scl 32 rd rs i
      imm) = true → (rd ≠ 48 ∨ x.pc ≠ x.s 50) → Completes (.bcXget k) s fun t => (t.core.bc k).settle.s rd = keptIn rd (unsigned 32
      ((x.v (rs % 16)).getD (imm % 4) 0))) ∧
  (∀ (s : State) (k rd rs : Nat) (i : Bool) (imm : Nat) (j : Nat), let x := s.core.bc k; s.quiet = true → s.core.atInstr k (.scl 33
      rd rs i imm) = true → j < 4 → (x.v (rd % 16)).length = 4 → Completes (.bcXput k) s fun t => (((t.core.bc k).settle.v (rd %
      16)).getD j 0 = if j = imm % 4 then signed 24 (x.s rs) else (x.v (rd % 16)).getD j 0)) ∧
  (∀ (s : State) (k rd rs : Nat) (i : Bool) (imm : Nat), let x := s.core.bc k; s.quiet = true → s.core.atInstr k (.scl 34 rd rs i
      imm) = true → (rd ≠ 48 ∨ x.pc ≠ x.s 50) → Completes (.bcAccget k) s fun t => (imm / 4 % 2 = 0 → (t.core.bc k).settle.s rd =
      keptIn rd (unsigned 56 ((x.a (rs % 4)).getD (imm % 4) 0) % 2 ^ 28)) ∧ (imm / 4 % 2 = 1 → (t.core.bc k).settle.s rd = keptIn
      rd (unsigned 32 (signed 28 (unsigned 56 ((x.a (rs % 4)).getD (imm % 4) 0) / 2 ^ 28))))) ∧
  (∀ (s : State) (k rd rs : Nat) (i : Bool) (imm : Nat) (j : Nat), let x := s.core.bc k; s.quiet = true → s.core.atInstr k (.scl 35
      rd rs i imm) = true → j < 4 → (x.a (rd % 4)).length = 4 → Completes (.bcAccput k) s fun t => (j ≠ imm % 4 → ((t.core.bc
      k).settle.a (rd % 4)).getD j 0 = (x.a (rd % 4)).getD j 0) ∧ (j = imm % 4 → imm / 4 % 2 = 0 → unsigned 56 (((t.core.bc
      k).settle.a (rd % 4)).getD j 0) = unsigned 56 ((x.a (rd % 4)).getD j 0) / 2 ^ 28 * 2 ^ 28 + x.s rs % 2 ^ 28) ∧ (j = imm % 4 →
      imm / 4 % 2 = 1 → unsigned 56 (((t.core.bc k).settle.a (rd % 4)).getD j 0) = unsigned 56 ((x.a (rd % 4)).getD j 0) % 2 ^ 28 +
      x.s rs % 2 ^ 28 * 2 ^ 28))

/-- BRA goes to its target when its condition holds and otherwise goes on; JSR, RET and RTI move the PC and the link, or SR, as
R406 says; REP and DO set up their repetition; POLL and TRAP go on, or enter the lowest takeable interrupt source with IPC, ISR,
IE and the pending bit as R413 says; WAIT waits, DONE ends the task and waits, HALT stops the core, and SYNC goes on once no
transfer channel is busy. -/
def Obligations.BrushControlInstructionsComplete : Prop :=
  (∀ (s : State) (k cond rs imm : Nat), let x := s.core.bc k; s.quiet = true → s.core.atInstr k (.ctl 1 cond rs imm) = true →
      x.cond cond = true → Completes (.bcBra k) s fun t => (t.core.bc k).pc = imm % 8192 ∧ (t.core.bc k).cycle = x.cycle + 2 ∧
      (t.core.bc k).settle.s 48 = x.s 48) ∧
  (∀ (s : State) (k cond rs imm : Nat), let x := s.core.bc k; s.quiet = true → s.core.atInstr k (.ctl 1 cond rs imm) = true →
      x.cond cond = false → Completes (.bcBra k) s fun t => (t.core.bc k).pc = x.advance.pc ∧ (t.core.bc k).cycle = x.cycle + 1) ∧
  (∀ (s : State) (k cond rs imm : Nat), let x := s.core.bc k; s.quiet = true → s.core.atInstr k (.ctl 2 cond rs imm) = true →
      Completes (.bcJsr k) s fun t => (t.core.bc k).pc = imm % 8192 ∧ (t.core.bc k).settle.s 15 = (x.pc + 1) % 8192 ∧ (t.core.bc
      k).cycle = x.cycle + 2) ∧
  (∀ (s : State) (k cond rs imm : Nat), let x := s.core.bc k; s.quiet = true → s.core.atInstr k (.ctl 3 cond rs imm) = true →
      Completes (.bcRet k) s fun t => (t.core.bc k).pc = x.s 15 % 8192 ∧ (t.core.bc k).cycle = x.cycle + 2) ∧
  (∀ (s : State) (k cond rs imm : Nat) (n : Nat), let x := s.core.bc k; s.quiet = true → s.core.atInstr k (.ctl 4 cond rs imm) =
      true → ib (s.core.instrAt k (x.pc + 1)) 63 62 ≠ 1 → (n = if imm / 2 ^ 31 % 2 = 1 then x.s rs else if imm % 65536 = 0 then
      65536 else imm % 65536) → Completes (.bcRep k) s fun t => ((t.core.bc k).pc = (x.pc + if n = 0 then 2 else 1) % 8192) ∧
      (t.core.bc k).rep = n ∧ (t.core.bc k).cycle = x.cycle) ∧
  (∀ (s : State) (k cond rs imm : Nat) (n : Nat), let x := s.core.bc k; s.quiet = true → s.core.atInstr k (.ctl 5 cond rs imm) =
      true → x.pc + 1 ≤ imm / 65536 % 8192 → (n = if imm / 2 ^ 31 % 2 = 1 then x.s rs else if imm % 65536 = 0 then 65536 else imm %
      65536) → Completes (.bcDo k) s fun t => (t.core.bc k).settle.s 48 = n % 2 ^ 32 ∧ (t.core.bc k).settle.s 49 = (x.pc + 1) %
      8192 ∧ (t.core.bc k).settle.s 50 = imm / 65536 % 8192 ∧ (t.core.bc k).pc = (if n = 0 then imm / 65536 % 8192 + 1 else x.pc +
      1) % 8192 ∧ (t.core.bc k).cycle = x.cycle + 1) ∧
  (∀ (s : State) (k cond rs imm : Nat), let x := s.core.bc k; s.quiet = true → s.core.atInstr k (.ctl 6 cond rs imm) = true →
      s.core.takeable k = none → Completes (.bcPoll k) s fun t => (t.core.bc k).pc = x.advance.pc ∧ (t.core.bc k).cycle = x.cycle +
      3 ∧ t.core.get (R.BRUSH_CORE_IRQ k) = s.core.get (R.BRUSH_CORE_IRQ k)) ∧
  (∀ (s : State) (k cond rs imm : Nat) (n : Nat), let x := s.core.bc k; s.quiet = true → s.core.atInstr k (.ctl 6 cond rs imm) =
      true → x.halt = false → s.core.takeable k = some n → x.rep ≤ 1 → Completes (.bcPoll k) s fun t => (t.core.bc k).pc =
      ((s.core.get (R.BRUSH_CORE_IVB k)).toNat + 4 * n) % 8192 ∧ (t.core.bc k).settle.s 53 = x.s 51 ∧ (t.core.bc k).settle.s 51 =
      (x.s 51 &&& (2 ^ 32 - 1 - 64)) &&& srMask ∧ t.core.flag ⟨R.BRUSH_CORE_IRQ k, n, n⟩ = false ∧ t.core.bcState k = 3 ∧
      (t.core.bc k).settle.s 52 = x.advance.pc % 8192 ∧ (t.core.bc k).cycle = x.cycle + 5) ∧
  (∀ (s : State) (k cond rs imm : Nat) (d : Nat), let x := s.core.bc k; s.quiet = true → s.core.atInstr k (.ctl 7 cond rs imm) =
      true → s.core.takeable k = none → Completes (.bcWait k d) s fun t => t.core.bcState k = 2 ∧ (t.core.bc k).pc = x.pc ∧
      (t.core.bc k).cycle = x.cycle + max 1 d) ∧
  (∀ (s : State) (k cond rs imm : Nat) (n d : Nat), let x := s.core.bc k; s.quiet = true → s.core.atInstr k (.ctl 7 cond rs imm) =
      true → s.core.takeable k = some n → Completes (.bcWait k d) s fun t => (t.core.bc k).pc = ((s.core.get (R.BRUSH_CORE_IVB
      k)).toNat + 4 * n) % 8192 ∧ (t.core.bc k).settle.s 53 = x.s 51 ∧ (t.core.bc k).settle.s 51 = (x.s 51 &&& (2 ^ 32 - 1 - 64))
      &&& srMask ∧ t.core.flag ⟨R.BRUSH_CORE_IRQ k, n, n⟩ = false ∧ t.core.bcState k = 3 ∧ (t.core.bc k).settle.s 52 = x.pc % 8192)
      ∧
  (∀ (s : State) (k cond rs imm : Nat), let x := s.core.bc k; s.quiet = true → s.core.atInstr k (.ctl 8 cond rs imm) = true →
      x.task.isSome = true → Completes (.bcDone k) s fun t => (t.core.bc k).task = none ∧ t.core.bcState k = 2 ∧ t.core.flag
      (F.BRUSH_CORE_STATE_IN_TASK k) = false ∧ (t.core.bc k).pc = x.pc) ∧
  (∀ (s : State) (k cond rs imm : Nat), let x := s.core.bc k; s.quiet = true → s.core.atInstr k (.ctl 9 cond rs imm) = true →
      Completes (.bcRti k) s fun t => (t.core.bc k).pc = x.s 52 % 8192 ∧ (t.core.bc k).settle.s 51 = x.s 53 &&& srMask ∧ (t.core.bc
      k).cycle = x.cycle + 2) ∧
  (∀ (s : State) (k cond rs imm : Nat), let x := s.core.bc k; s.quiet = true → s.core.atInstr k (.ctl 10 cond rs imm) = true →
      (bitOf x.sr 6 = false ∨ bitOf (s.core.get (R.BRUSH_CORE_IRQ k)) 11 = false) → s.core.takeable k = none → Completes (.bcTrap
      k) s fun t => t.core.flag ⟨R.BRUSH_CORE_IRQ k, 3, 3⟩ = true ∧ (t.core.bc k).pc = x.advance.pc ∧ (t.core.bc k).cycle = x.cycle
      + 3) ∧
  (∀ (s : State) (k cond rs imm : Nat), let x := s.core.bc k; s.quiet = true → s.core.atInstr k (.ctl 10 cond rs imm) = true →
      x.halt = false → x.rep ≤ 1 → s.core.takeable k = none → bitOf x.sr 6 = true → bitOf (s.core.get (R.BRUSH_CORE_IRQ k)) 11 =
      true → Completes (.bcTrap k) s fun t => (t.core.bc k).pc = ((s.core.get (R.BRUSH_CORE_IVB k)).toNat + 12) % 8192 ∧ (t.core.bc
      k).settle.s 52 = x.advance.pc % 8192 ∧ (t.core.bc k).settle.s 53 = x.s 51 ∧ t.core.flag ⟨R.BRUSH_CORE_IRQ k, 3, 3⟩ = false) ∧
  (∀ (s : State) (k cond rs imm : Nat), let x := s.core.bc k; s.quiet = true → s.core.atInstr k (.ctl 11 cond rs imm) = true →
      Completes (.bcHalt k) s fun t => t.core.bcState k = 1 ∧ (t.core.bc k).pc = x.pc ∧ (t.core.bc k).cycle = x.cycle + 1) ∧
  (∀ (s : State) (k cond rs imm : Nat) (d : Nat), let x := s.core.bc k; s.quiet = true → s.core.atInstr k (.ctl 12 cond rs imm) =
      true → (∀ q : Nat, q < 4 → s.core.flag (F.BRUSH_XFER_CTRL_BUSY k q) = false) → Completes (.bcSync k d) s fun t => (t.core.bc
      k).pc = x.advance.pc ∧ (t.core.bc k).cycle = x.cycle + 1) ∧
  (∀ (s : State) (k cond rs imm : Nat) (d q : Nat), let x := s.core.bc k; s.quiet = true → s.core.atInstr k (.ctl 12 cond rs imm) =
      true → q < 4 → s.core.flag (F.BRUSH_XFER_CTRL_BUSY k q) = true → Completes (.bcSync k d) s fun t => (t.core.bc k).pc = x.pc ∧
      t.core.bcState k = 3 ∧ (t.core.bc k).cycle = x.cycle + max 1 d)

/-- A served GO starts a stopped customer core at ENTRY with its cycle count at 0, and STOP outside a REP stops it; a transfer
channel's GO starts a copy of 1 to 4,096 words between data memory and the fabric, or sets ERR when it is busy or the range is
bad; a transfer that ends sets DONE and makes source 2 pending, its words having moved to the fabric or into data memory in
order; the owner of a mailbox pair posts to B2C and acknowledges C2B, and a post to a full one is counted; a word written to a
window of a stopped customer core is stored, and one to a running core is denied; a migration copies the unit's state into the
spare, and its swap and its cold swap end it with MIGRATED. -/
def Obligations.BrushCoreAccessesComplete : Prop :=
  (∀ (s : State) (m k : Nat) (v : Word), let c := s.core.written ⟨m, R.BRUSH_CORE_CTRL k, withBits v 0 0 1⟩ 3; s.core.serves m
      (R.BRUSH_CORE_CTRL k) = true → s.quiet = true → k ≤ 67 → (m = 8 → s.core.f (F.BRUSH_CORE_STATE_OWNER k) = 2) → s.core.bcState
      k = 1 → Completes (.brushCoreGo m k v) s fun t => t.core.bcState k = 3 ∧ (t.core.bc k).pc = s.core.f (F.BRUSH_CORE_ENTRY_PC
      k) ∧ (t.core.bc k).cycle = 0 ∧ (t.core.bc k).sc = (s.core.bc k).sc ∧ (t.core.bc k).vec = (s.core.bc k).vec ∧ (t.core.bc
      k).acc = (s.core.bc k).acc) ∧
  (∀ (s : State) (m k : Nat) (v : Word), let c := s.core.written ⟨m, R.BRUSH_CORE_CTRL k, withBits v 1 0 2⟩ 3; s.core.serves m
      (R.BRUSH_CORE_CTRL k) = true → s.quiet = true → k ≤ 67 → (m = 8 → s.core.f (F.BRUSH_CORE_STATE_OWNER k) = 2) →
      (s.core.bcState k = 2 ∨ s.core.bcState k = 3 ∨ s.core.bcState k = 4) → (s.core.bc k).rep = 0 → Completes (.brushCoreCtrlStop
      m k v) s fun t => t.core.bcState k = 1 ∧ (t.core.bc k).pc = (s.core.bc k).pc) ∧
  (∀ (s : State) (k n a cnt : Nat) (v : Word), s.quiet = true → k ≤ 67 ∧ n ≤ 3 → (s.core.bcState k = 2 ∨ s.core.bcState k = 3) →
      bitOf v 0 = true → s.core.flag (F.BRUSH_XFER_CTRL_BUSY k n) = false → a = (s.core.get (R.BRUSH_XFER_FADDR_LO k n)).toNat + 2
      ^ 32 * s.core.f (F.BRUSH_XFER_FADDR_HI_ADDR k n) → cnt = (if s.core.f (F.BRUSH_XFER_DM_COUNT k n) % 4096 = 0 then 4096 else
      s.core.f (F.BRUSH_XFER_DM_COUNT k n) % 4096) → xferRange a cnt = true → Completes (.xferGo k n v) s fun t => t.core.flag
      (F.BRUSH_XFER_CTRL_BUSY k n) = true ∧ smGet (fun _ => none) t.core.brush.xfers (4 * k + n) = some
      { addr := a, dm := s.core.f (F.BRUSH_XFER_DM_DM k n), count := cnt, toFabric := s.core.flag (F.BRUSH_XFER_DM_DIR k n) }) ∧
  (∀ (s : State) (k n a cnt : Nat) (v : Word), s.quiet = true → k ≤ 67 ∧ n ≤ 3 → (s.core.bcState k = 2 ∨ s.core.bcState k = 3) →
      bitOf v 0 = true → a = (s.core.get (R.BRUSH_XFER_FADDR_LO k n)).toNat + 2 ^ 32 * s.core.f (F.BRUSH_XFER_FADDR_HI_ADDR k n) →
      cnt = (if s.core.f (F.BRUSH_XFER_DM_COUNT k n) % 4096 = 0 then 4096 else s.core.f (F.BRUSH_XFER_DM_COUNT k n) % 4096) →
      (s.core.flag (F.BRUSH_XFER_CTRL_BUSY k n) = true ∨ xferRange a cnt = false) → Completes (.xferGo k n v) s fun t =>
      t.core.flag (F.BRUSH_XFER_CTRL_ERR k n) = true ∧ t.core.flag ⟨R.BRUSH_CORE_IRQ k, 2, 2⟩ = true ∧ t.core.brush.xfers =
      s.core.brush.xfers) ∧
  (∀ (s : State) (k n : Nat) (x : Xfer) (ws : List Word), s.quiet = true → k ≤ 67 ∧ n ≤ 3 → smGet (fun _ => none)
      s.core.brush.xfers (4 * k + n) = some x → x.toFabric = true ∧ xferRange x.addr x.count = true → (ws = (List.range
      x.count).map fun i => s.core.dmWord k (x.dm + i)) → (s.core.dmGood k ((List.range x.count).map fun i => x.dm + i) = true) →
      Completes (.xferComplete k n) s fun t => t.core.flag (F.BRUSH_XFER_CTRL_DONE k n) = true ∧ t.core.flag
      (F.BRUSH_XFER_CTRL_BUSY k n) = false ∧ t.core.flag ⟨R.BRUSH_CORE_IRQ k, 2, 2⟩ = true ∧ smGet (fun _ => none)
      t.core.brush.xfers (4 * k + n) = none ∧ (∀ i : Nat, i < 4 * x.count → t.mem.byte (x.addr + i) = (wordsBytes ws).getD i 0)) ∧
  (∀ (s : State) (k n : Nat) (x : Xfer) (ws : List Word), s.quiet = true → k ≤ 67 ∧ n ≤ 3 → smGet (fun _ => none)
      s.core.brush.xfers (4 * k + n) = some x → x.toFabric = false ∧ 1 ≤ x.count ∧ x.count ≤ 4096 → (ws = bytesWords ((List.range
      (4 * x.count)).map fun i => s.mem.byte (x.addr + i))) → (unitsOf 8 x.addr (4 * x.count)).all (fun w => decide (s.core.eccOf w
      ≠ 2)) = true → Completes (.xferComplete k n) s fun t => t.core.flag (F.BRUSH_XFER_CTRL_DONE k n) = true ∧ t.core.flag
      (F.BRUSH_XFER_CTRL_BUSY k n) = false ∧ t.core.flag ⟨R.BRUSH_CORE_IRQ k, 2, 2⟩ = true ∧ (∀ i : Nat, i < x.count →
      t.core.dmWord k (x.dm + i) = ws.getD i 0) ∧ t.mem = s.mem) ∧
  (∀ (s : State) (k p : Nat) (v : Word), s.quiet = true → k ≤ 67 → (s.core.bcState k = 2 ∨ s.core.bcState k = 3) → s.core.mbxOf k =
      some p → (s.core.mbx p).b2cFull = false → Completes (.brushMbxOutWrite k v) s fun t => t.core.mbx p =
      { s.core.mbx p with b2c := v.toNat, b2cFull := true } ∧ t.core.flag (F.BRUSH_CORE_MBX_STATUS_OUT_FULL k) = true) ∧
  (∀ (s : State) (k p : Nat) (v : Word), s.quiet = true → k ≤ 67 → (s.core.bcState k = 2 ∨ s.core.bcState k = 3) → s.core.mbxOf k =
      some p → (s.core.mbx p).b2cFull = true → Completes (.brushMbxOutWrite k v) s fun t => t.core.mbx p = s.core.mbx p ∧ t.core.f
      ⟨R.HOST_MBX_OVERRUN, 15, 0⟩ = min (s.core.f ⟨R.HOST_MBX_OVERRUN, 15, 0⟩ + 1) 65535 ∧ t.core.flag
      F.HOST_INT_STATUS_MBX_OVERRUN = true) ∧
  (∀ (s : State) (k p : Nat) (v : Word), s.quiet = true → k ≤ 67 → (s.core.bcState k = 2 ∨ s.core.bcState k = 3) → s.core.mbxOf k =
      some p → bitOf v 0 = true → Completes (.brushMbxAck k v) s fun t => t.core.mbx p = { s.core.mbx p with c2bFull := false } ∧
      t.core.flag (F.BRUSH_CORE_MBX_STATUS_IN_FULL k) = false) ∧
  (∀ (s : State) (m k space w : Nat) (v : Word), s.quiet = true → k ≤ 67 ∧ space ≤ 1 → w < 16384 * (space + 1) → regPath m
      (R.BRUSH_CORE_STATE k + 0x10000 * (space + 1) + 4 * w) = true → s.core.gated (R.BRUSH_CORE_STATE k) = false → (m = 8 →
      s.core.flag F.HOST_EXPERT_CTRL_BAR0_WRITE_EN = true) → s.core.f (F.BRUSH_CORE_STATE_OWNER k) = 2 → s.core.bcState k = 1 →
      Completes (.brushWindowWrite m k space w v) s fun t => (if space = 0 then t.core.imWord k w else t.core.dmWord k w) = v ∧ (∀
      x : Nat, x < 32768 → (x ≠ w ∨ space = 0) → t.core.dmWord k x = s.core.dmWord k x)) ∧
  (∀ (s : State) (m k space w : Nat) (v : Word), s.quiet = true → k ≤ 67 ∧ space ≤ 1 → w < 16384 * (space + 1) → regPath m
      (R.BRUSH_CORE_STATE k + 0x10000 * (space + 1) + 4 * w) = true → s.core.gated (R.BRUSH_CORE_STATE k) = false → (m = 8 →
      s.core.flag F.HOST_EXPERT_CTRL_BAR0_WRITE_EN = true) → s.core.f (F.BRUSH_CORE_STATE_OWNER k) = 2 → s.core.bcState k ≠ 1 →
      Completes (.brushWindowWrite m k space w v) s fun t => t.core.brush = s.core.brush ∧ t.core.f F.BRUSH_WINDOW_DENIED_COUNT =
      min (s.core.f F.BRUSH_WINDOW_DENIED_COUNT + 1) 65535 ∧ t.core.flag F.BRUSH_INT_STATUS_WINDOW_DENIED = true) ∧
  (∀ (s : State) (g : Nat) (m : Migration), s.quiet = true → s.core.migOf g = some m → m.step = 0 → m.spare ≤ 67 → Completes
      (.migrationCopy g) s fun t => t.core.migOf g = some { m with step := 1, at_ := s.core.time.n } ∧ t.core.bcState m.spare = 6 ∧
      t.core.bc m.spare = s.core.bc m.unit) ∧
  (∀ (s : State) (g l : Nat) (m : Migration), s.quiet = true → s.core.migOf g = some m → s.core.migReady m = true → m.patrol =
      false → s.core.logical m.unit = some l → m.unit ≤ 67 ∧ m.spare ≤ 67 ∧ m.unit ≠ m.spare ∧ l ≤ 63 → Completes (.migrationSwap
      g) s fun t => t.core.migOf g = none ∧ t.core.phys l = m.spare ∧ t.core.get R.BRUSH_MIGRATED = s.core.get R.BRUSH_MIGRATED + 1
      ∧ t.core.flag F.BRUSH_INT_STATUS_MIGRATED = true ∧ t.core.bc m.spare = s.core.bc m.unit) ∧
  (∀ (s : State) (g l : Nat) (m : Migration), s.quiet = true → s.core.migOf g = some m → m.cold = true → s.core.bcState m.unit = 2
      → s.core.logical m.unit = some l → m.unit ≤ 67 ∧ m.spare ≤ 67 ∧ m.unit ≠ m.spare ∧ l ≤ 63 → Completes (.migrationCold g) s
      fun t => t.core.migOf g = none ∧ t.core.phys l = m.spare ∧ t.core.f F.BRUSH_MIGRATE_COLD_COUNT = min (s.core.f
      F.BRUSH_MIGRATE_COLD_COUNT + 1) 65535 ∧ t.core.bc m.spare = s.core.bc m.unit ∧ t.core.health.nondet.contains l = true)

/-- BRUSH_STATUS_GET returns the status and 64 core states; BRUSH_ALLOC takes the lowest free cores of the groups asked for and
returns them; BRUSH_FREE gives them back; BRUSH_LOAD stores words in a stopped customer core and BRUSH_READ reads data memory;
BRUSH_START, untimed, starts the core at the boundary two blocks on, and BRUSH_BUFFER_SET binds a buffer there; BRUSH_STOP stops
a core outside a REP; PARAM_DECLARE, PARAM_BEGIN (which copies the live bank of each block that no other block overlaps),
PARAM_SET, PARAM_COMMIT and PARAM_GET keep the banks of a block, and a commit ends with STAGED_READY of Palette 3;
BRUSH_MBX_POST and BRUSH_MBX_READ pass words through the customer pair of a group. -/
def Obligations.BrushOpcodesComplete : Prop :=
  (∀ (s : State) (p : Packet), let c := s.core.offered opBrushStatus p; let r := reqOf opBrushStatus p; s.core.admits opBrushStatus
      p = true → s.quiet = true → Completes (.brushStatusGet p) s fun t => (t.core.answered p .ok ([(c.get R.BRUSH_STATUS).toNat,
      c.f F.BRUSH_STATUS_FREE] ++ (List.range 64).map fun l => (c.get (R.BRUSH_CORE_STATE (c.phys l))).toNat))) ∧
  (∀ (s : State) (p : Packet) (l : List Nat), let c := s.core.offered opBrushAlloc p; let r := reqOf opBrushAlloc p; s.core.admits
      opBrushAlloc p = true → s.quiet = true → 1 ≤ r.n 0 ∧ r.n 0 ≤ 64 → r.n 1 ≤ 15 → (l = (c.freeCores.filter fun x => bitOf
      (.ofNat 32 (if r.n 1 = 0 then 15 else r.n 1)) (x / 16)).take (r.n 0)) → l.length = r.n 0 → c.brush.fw.length +
      c.brush.custom.length + r.n 0 ≤ c.f F.HEALTH_CAPACITY_BRUSH → Completes (.brushAlloc p) s fun t => t.core.answered p .ok l ∧
      t.core.brush.custom = c.brush.custom ++ l) ∧
  (∀ (s : State) (p : Packet) (l : List Nat), let c := s.core.offered opBrushFree p; let r := reqOf opBrushFree p; s.core.admits
      opBrushFree p = true → s.quiet = true → l = (r.words.drop 1).map (·.toNat) → r.bytes.length = 4 + 4 * r.n 0 → l.all (fun x =>
      decide (x ≤ 63) && c.isCustom x) = true → Completes (.brushFree p) s fun t => t.core.answered p .ok [] ∧ (t.core.brush.custom
      = c.brush.custom.filter fun x => !l.contains x) ∧ t.core.brush.fw = c.brush.fw ∧ (∀ x : Nat, x < 64 → l.contains x = true →
      (t.core.param? x).all (fun y => !l.contains y.core) = true)) ∧
  (∀ (s : State) (p : Packet) (k : Nat), let c := s.core.offered opBrushLoad p; let r := reqOf opBrushLoad p; s.core.admits
      opBrushLoad p = true → s.quiet = true → r.bytes.length = 16 + 4 * r.n 3 → r.n 0 ≤ 63 ∧ 1 ≤ r.n 3 ∧ r.n 3 ≤ 16376 ∧ r.n 1 ≤ 1
      → r.n 2 + r.n 3 ≤ 16384 * (r.n 1 + 1) → c.isCustom (r.n 0) = true → k = c.phys (r.n 0) → c.bcState k = 1 → Completes
      (.brushLoad p) s fun t => t.core.answered p .ok [] ∧ (∀ i : Nat, i < r.n 3 → (if r.n 1 = 0 then t.core.imWord k (r.n 2 + i)
      else t.core.dmWord k (r.n 2 + i)) = r.w (4 + i)) ∧ t.core.bc k = {}) ∧
  (∀ (s : State) (p : Packet) (k : Nat), let c := s.core.offered opBrushRead p; let r := reqOf opBrushRead p; s.core.admits
      opBrushRead p = true → s.quiet = true → r.n 0 ≤ 63 ∧ 1 ≤ r.n 3 ∧ r.n 3 ≤ 1000 → (r.n 1 = 1 ∨ (r.n 1 = 0 ∧ c.isCustom (r.n 0)
      = true)) → r.n 2 + r.n 3 ≤ 16384 * (r.n 1 + 1) → (c.isCustom (r.n 0) = true ∨ c.brush.fw.contains (r.n 0) = true) → k =
      c.phys (r.n 0) → Completes (.brushRead p) s fun t => (t.core.answered p .ok ((List.range (r.n 3)).map fun i => (if r.n 1 = 0
      then c.imWord k (r.n 2 + i) else c.dmWord k (r.n 2 + i)).toNat))) ∧
  (∀ (s : State) (p : Packet), let c := s.core.offered opBrushStart p; let r := reqOf opBrushStart p; s.core.admits opBrushStart p
      = true → s.quiet = true → r.n 0 ≤ 63 ∧ r.n 1 ≤ 8191 → c.isCustom (r.n 0) = true → Completes (.brushStart p) s fun t =>
      t.core.answered p .ok [] ∧ t.core.brush.starts = c.brush.starts ++ [(c.boundaryAt (c.now + 2 * c.blk), r.n 0, r.n 1)]) ∧
  (∀ (s : State) (p : Packet) (k : Nat), let c := s.core.offered opBrushStop p; let r := reqOf opBrushStop p; s.core.admits
      opBrushStop p = true → s.quiet = true → r.n 0 ≤ 63 → c.isCustom (r.n 0) = true → k = c.phys (r.n 0) → (c.bcState k = 2 ∨
      c.bcState k = 3 ∨ c.bcState k = 4) → (c.bc k).rep = 0 → Completes (.brushStop p) s fun t => t.core.answered p .ok [] ∧
      t.core.bcState k = 1) ∧
  (∀ (s : State) (p : Packet), let c := s.core.offered opBrushBuffer p; let r := reqOf opBrushBuffer p; s.core.admits opBrushBuffer
      p = true → s.quiet = true → r.n 0 ≤ 1 ∧ r.n 4 ≤ 1 → r.n 1 ≤ 255 ∧ r.n 2 ≤ 63 → (smGet (fun _ => none) c.brush.binds (r.n 1 +
      256 * r.n 0)).all (fun x => !x.fw) = true → c.isCustom (r.n 2) = true → r.n 3 + 2 * c.blk ≤ 32768 → Completes
      (.brushBufferSet p) s fun t => t.core.answered p .ok [] ∧ (t.core.brush.newBinds = c.brush.newBinds ++ [(c.boundaryAt (c.now
      + 2 * c.blk), r.n 1 + 256 * r.n 0, if r.n 4 = 1 then some { core := r.n 2, dm := r.n 3 } else none)])) ∧
  (∀ (s : State) (p : Packet) (x : ParamBlock), let c := s.core.offered opParamDeclare p; let r := reqOf opParamDeclare p;
      s.core.admits opParamDeclare p = true → s.quiet = true → r.n 0 ≤ 63 ∧ r.n 1 ≤ 63 ∧ r.n 2 ≤ 3 → 1 ≤ r.n 3 ∧ r.n 3 ≤ 1024 → r.n
      4 + r.n 3 ≤ 32768 ∧ r.n 5 + r.n 3 ≤ 32768 → c.isCustom (r.n 1) = true ∧ c.bcState (c.phys (r.n 1)) = 1 → (r.n 5 + r.n 3 ≤ r.n
      4 ∨ r.n 4 + r.n 3 ≤ r.n 5) → x = { core := r.n 1, slot := r.n 2, size := r.n 3, live := r.n 4, old := r.n 5 } → Completes
      (.paramDeclare p) s fun t => t.core.answered p .ok [] ∧ t.core.param? (r.n 0) = some x ∧ t.core.f (F.BRUSH_CORE_PARAM_A_LIVE
      (c.phys x.core) x.slot) = x.live ∧ t.core.f (F.BRUSH_CORE_PARAM_A_OLD (c.phys x.core) x.slot) = x.old ∧ t.core.flag
      (F.BRUSH_CORE_PARAM_A_DECLARED (c.phys x.core) x.slot) = true) ∧
  (∀ (s : State) (p : Packet), let c := s.core.offered opParamBegin p; let r := reqOf opParamBegin p; s.core.admits opParamBegin p
      = true → s.quiet = true → r.n 0 = 0 → c.paramBusy = false → Completes (.paramBegin p) s fun t => t.core.answered p .ok [] ∧
      t.core.flag (stagedReady 3) = false ∧ t.core.brush.dm = c.brush.dm) ∧
  (∀ (s : State) (p : Packet) (n : Nat) (x : ParamBlock), let c := s.core.offered opParamBegin p; let r := reqOf opParamBegin p;
      s.core.admits opParamBegin p = true → s.quiet = true → r.n 0 = 1 → c.paramBusy = false → c.param? n = some x → x.live +
      x.size ≤ 32768 ∧ x.old + x.size ≤ 32768 → (x.live + x.size ≤ x.old ∨ x.old + x.size ≤ x.live) → (c.brush.params.all (fun e =>
      e.2.all fun y => decide (y = x ∨ (y.old + y.size ≤ 32768 ∧ (c.phys y.core ≠ c.phys x.core ∨ ((y.old + y.size ≤ x.live ∨
      x.live + x.size ≤ y.old) ∧ (y.old + y.size ≤ x.old ∨ x.old + x.size ≤ y.old)))))) = true) → Completes (.paramBegin p) s fun t
      => t.core.answered p .ok [] ∧ t.core.flag (stagedReady 3) = false ∧ (∀ i : Nat, i < x.size → t.core.dmWord (c.phys x.core)
      (x.old + i) = c.dmWord (c.phys x.core) (x.live + i))) ∧
  (∀ (s : State) (p : Packet) (x : ParamBlock), let c := s.core.offered opParamSet p; let r := reqOf opParamSet p; s.core.admits
      opParamSet p = true → s.quiet = true → r.bytes.length = 12 + 4 * r.n 2 → r.n 0 ≤ 63 ∧ 1 ≤ r.n 2 ∧ r.n 2 ≤ 1024 → c.param?
      (r.n 0) = some x → r.n 1 + r.n 2 ≤ x.size ∧ x.size ≤ 1024 → c.paramBusy = false → Completes (.paramSet p) s fun t =>
      t.core.answered p .ok [] ∧ t.core.flag (stagedReady 3) = false ∧ (∀ i : Nat, i < r.n 2 → t.core.dmWord (c.phys x.core) (x.old
      + r.n 1 + i) = r.w (3 + i))) ∧
  (∀ (s : State) (p : Packet), let c := s.core.offered opParamCommit p; let r := reqOf opParamCommit p; s.core.admits opParamCommit
      p = true → s.quiet = true → c.paramBusy = false → Completes (.paramCommit p) s fun t => t.core.answered p .accepted [] ∧
      t.core.brush.commit = some r.tok) ∧
  (∀ (s : State) (k : Tok), s.quiet = true → s.core.brush.commit = some k → Completes .paramCommitDone s fun t =>
      t.core.brush.commit = none ∧ t.core.flag (stagedReady 3) = true) ∧
  (∀ (s : State) (p : Packet) (x : ParamBlock), let c := s.core.offered opParamGet p; let r := reqOf opParamGet p; s.core.admits
      opParamGet p = true → s.quiet = true → r.n 0 ≤ 63 ∧ 1 ≤ r.n 3 ∧ r.n 3 ≤ 1024 → r.n 1 ≤ 1 → c.param? (r.n 0) = some x → r.n 2
      + r.n 3 ≤ x.size → Completes (.paramGet p) s fun t => (t.core.answered p .ok ((List.range (r.n 3)).map fun i => (c.dmWord
      (c.phys x.core) ((if r.n 1 = 0 then x.live else x.old) + r.n 2 + i)).toNat))) ∧
  (∀ (s : State) (p : Packet) (q : Nat), let c := s.core.offered opBrushMbxPost p; let r := reqOf opBrushMbxPost p; s.core.admits
      opBrushMbxPost p = true → s.quiet = true → r.n 0 ≤ 3 → q = 2 * r.n 0 + 1 → (c.mbx q).c2bFull = false → Completes
      (.brushMbxPost p) s fun t => t.core.answered p .ok [] ∧ t.core.mbx q = { c.mbx q with c2b := r.n 1, c2bFull := true } ∧ (∀ l
      ∈ (c.mbx q).owner, t.core.flag ⟨R.BRUSH_CORE_IRQ (c.phys l), 0, 0⟩ = true)) ∧
  (∀ (s : State) (p : Packet) (q : Nat) (x : BrushMbx), let c := s.core.offered opBrushMbxRead p; let r := reqOf opBrushMbxRead p;
      s.core.admits opBrushMbxRead p = true → s.quiet = true → r.n 0 ≤ 3 → q = 2 * r.n 0 + 1 → c.mbx q = x → Completes
      (.brushMbxRead p) s fun t => t.core.answered p .ok [b2n x.b2cFull, x.b2c] ∧ t.core.mbx q = { x with b2cFull := false })

/-- A served GO of a staging area by its own master takes a well-formed descriptor into the lowest free slot, which becomes
ready, waits for its time or its dependencies or is idle by its release, with a sequence number of its flow where it is ordered,
and the result word holds its handle; a refused post gives its reason, and another master's write is counted. At a tick due
tasks become ready; dispatch sends the first task that has an eligible core to the lowest one, whose PC and S12 to S14 it sets;
a cancel frees a waiting task, marks a running one as its last instance, and counts a stale handle; a read of ATELIER_DONE takes
the oldest entry. -/
def Obligations.AtelierCommandsComplete : Prop :=
  (∀ (s : State) (port m n q : Nat) (v : Word) (d : List Nat) (x : AtSlot),
      let c := s.core.written ⟨port, R.ATELIER_STAGE_GO m, v⟩ 1; s.core.serves port (R.ATELIER_STAGE_GO m) = true → s.quiet = true
      → m ≤ 4 → (port = if m = 4 then 8 else m) → bitOf v 0 = true → (d = (List.range 8).map fun w => (s.core.get
      (R.ATELIER_STAGE_D m w)).toNat) → x = { desc := d } → s.core.postReason port d = 0 → (List.range 512).find? (fun i => decide
      ((s.core.slot i).state = 0)) = some n → (q = if x.ordered ∧ x.release ≠ 2 then s.core.f (F.ATELIER_FLOW_NEXT_SEQ x.flow) else
      0) → Completes (.atelierPost port m v) s fun t => (t.core.slot n).desc = d ∧ (t.core.slot n).state = [3, 1, 6, 2].getD
      x.release 0 ∧ (t.core.slot n).gen = (s.core.slot n).gen ∧ (t.core.slot n).seq = q ∧ ((t.core.slot n).dep = if x.release = 3
      then d.getD 5 0 else 0) ∧ t.core.get (R.ATELIER_STAGE_RESULT m) = .ofNat 32 (n + (s.core.slot n).gen * 512 + q * 65536) ∧
      t.core.get R.ATELIER_POSTED = s.core.get R.ATELIER_POSTED + 1 ∧ (x.release = 0 → (smGet (fun _ => []) t.core.atl.ready
      x.prio).getLast? = some n)) ∧
  (∀ (s : State) (port m : Nat) (v : Word) (d : List Nat), let c := s.core.written ⟨port, R.ATELIER_STAGE_GO m, v⟩ 1; s.core.serves
      port (R.ATELIER_STAGE_GO m) = true → s.quiet = true → m ≤ 4 → (port = if m = 4 then 8 else m) → bitOf v 0 = true → (d =
      (List.range 8).map fun w => (s.core.get (R.ATELIER_STAGE_D m w)).toNat) → s.core.postReason port d ≠ 0 → Completes
      (.atelierPost port m v) s fun t => t.core.atl.slots = s.core.atl.slots ∧ t.core.atl.ready = s.core.atl.ready ∧ t.core.get
      (R.ATELIER_STAGE_RESULT m) = .ofNat 32 (2 ^ 31 + s.core.postReason port d) ∧ t.core.f F.ATELIER_REFUSED_COUNT = min (s.core.f
      F.ATELIER_REFUSED_COUNT + 1) 65535 ∧ t.core.flag F.ATELIER_INT_STATUS_REFUSED = true) ∧
  (∀ (s : State) (port m : Nat) (v : Word), let c := s.core.written ⟨port, R.ATELIER_STAGE_GO m, v⟩ 1; s.core.serves port
      (R.ATELIER_STAGE_GO m) = true → s.quiet = true → m ≤ 4 → (port ≠ if m = 4 then 8 else m) → Completes (.atelierPost port m v)
      s fun t => t.core.atl.slots = s.core.atl.slots ∧ t.core.f F.ATELIER_BAD_POST_COUNT = min (s.core.f F.ATELIER_BAD_POST_COUNT +
      1) 65535) ∧
  (∀ (s : State) (j n : Nat), s.quiet = true → s.core.clk.mediaOn = true → j < s.core.blk → (s.core.slot n).state = 1 →
      (s.core.slot n).time ≤ s.core.time.n + j → Completes (.atelierTick j) s fun t => (t.core.slot n).state = 3 ∧ (t.core.slot
      n).desc = (s.core.slot n).desc ∧ (smGet (fun _ => []) t.core.atl.ready (s.core.slot n).prio).contains n = true) ∧
  (∀ (s : State) (j n : Nat), s.quiet = true → s.core.clk.mediaOn = true → j < s.core.blk → (s.core.time.n + j) % s.core.blk = 0 →
      (s.core.slot n).state = 6 ∧ (s.core.slot n).release = 2 ∧ (s.core.slot n).last = false → (s.core.time.n + j) / s.core.blk %
      (s.core.slot n).period = (s.core.slot n).phase % (s.core.slot n).period → Completes (.atelierTick j) s fun t => (t.core.slot
      n).state = 3 ∧ (smGet (fun _ => []) t.core.atl.ready (s.core.slot n).prio).contains n = true) ∧
  (∀ (s : State) (j n : Nat), s.quiet = true → s.core.clk.mediaOn = true → j < s.core.blk → (s.core.time.n + j) % s.core.blk = 0 →
      (s.core.slot n).state = 4 ∧ (s.core.slot n).release = 2 ∧ (s.core.slot n).last = false → (s.core.time.n + j) / s.core.blk %
      (s.core.slot n).period = (s.core.slot n).phase % (s.core.slot n).period → Completes (.atelierTick j) s fun t => (t.core.slot
      n).state = 4 ∧ t.core.flag F.ATELIER_INT_STATUS_SKIP = true) ∧
  (∀ (s : State) (n l k : Nat) (x : AtSlot), s.quiet = true → (([7, 6, 5, 4, 3, 2, 1, 0].flatMap fun q => smGet (fun _ => [])
      s.core.atl.ready q).findSome? (fun i => ((List.range 64).find? fun y => (s.core.slot i).target y && s.core.eligible y).map
      fun y => (i, y)) = some (n, l)) → k = s.core.phys l → k ≤ 67 → x = s.core.slot n → Completes .atelierDispatch s fun t =>
      (t.core.slot n).state = 4 ∧ (t.core.slot n).core = l ∧ t.core.bcState k = 3 ∧ (t.core.bc k).pc = x.entry ∧ (t.core.bc k).s 12
      = x.desc.getD 3 0 % 2 ^ 32 ∧ (t.core.bc k).s 13 = x.desc.getD 4 0 % 2 ^ 32 ∧ (t.core.bc k).s 14 = (handleOf n x + x.seq * 2 ^
      16) % 2 ^ 32 ∧ t.core.flag (F.BRUSH_CORE_STATE_IN_TASK k) = true ∧ t.core.get R.ATELIER_DISPATCHED = s.core.get
      R.ATELIER_DISPATCHED + 1 ∧ ((t.core.atl.ready.any fun e => e.2.contains n) = false)) ∧
  (∀ (s : State) (port n : Nat) (v : Word), let c := s.core.written ⟨port, R.ATELIER_CANCEL, v⟩ 0; s.core.serves port
      R.ATELIER_CANCEL = true → s.quiet = true → n = v.toNat % 512 → ((s.core.slot n).state = 0 ∨ (s.core.slot n).gen ≠ v.toNat %
      65536 / 512) → Completes (.atelierCancel port v) s fun t => t.core.atl.slots = s.core.atl.slots ∧ t.core.f
      F.ATELIER_CANCEL_STALE_COUNT = min (s.core.f F.ATELIER_CANCEL_STALE_COUNT + 1) 65535) ∧
  (∀ (s : State) (port n : Nat) (v : Word), let c := s.core.written ⟨port, R.ATELIER_CANCEL, v⟩ 0; s.core.serves port
      R.ATELIER_CANCEL = true → s.quiet = true → n = v.toNat % 512 → (s.core.slot n).gen = v.toNat % 65536 / 512 → ((s.core.slot
      n).state = 4 ∨ (s.core.slot n).state = 5) → Completes (.atelierCancel port v) s fun t => t.core.slot n =
      { s.core.slot n with last := true } ∧ t.core.f F.ATELIER_CANCEL_LATE_COUNT = min (s.core.f F.ATELIER_CANCEL_LATE_COUNT + 1)
      65535) ∧
  (∀ (s : State) (port n : Nat) (v : Word), let c := s.core.written ⟨port, R.ATELIER_CANCEL, v⟩ 0; s.core.serves port
      R.ATELIER_CANCEL = true → s.quiet = true → n = v.toNat % 512 → (s.core.slot n).gen = v.toNat % 65536 / 512 → ((s.core.slot
      n).state = 1 ∨ (s.core.slot n).state = 2 ∨ (s.core.slot n).state = 3 ∨ (s.core.slot n).state = 6) → Completes (.atelierCancel
      port v) s fun t => t.core.slot n = { gen := ((s.core.slot n).gen + 1) % 128 } ∧ ((s.core.slot n).notify = true →
      s.core.atl.done.length < 64 → t.core.atl.done.contains (handleOf n (s.core.slot n) + 2 ^ 16 + 2 ^ 31) = true)) ∧
  (∀ (s : State) (port e : Nat) (l : List Nat), s.quiet = true → s.core.reaches port R.ATELIER_DONE = true → s.core.atl.done = e ::
      l → Completes (.atelierDonePop port) s fun t => t.core.atl.done = l ∧ t.core.outbox.getLast? = some (.read port
      R.ATELIER_DONE (.ofNat 32 e)))

/-- A read or a write of the forms of R446 by a master with a path, within the limits and behind no request of the same ID,
issues: a read of words without an uncorrectable error returns the bytes, a write stores them, and every other byte stays.
Beyond a limit, or behind a request of the same ID at another target, it is held and counted. A held request issues as the
oldest of its port. -/
def Obligations.FabricAccessesComplete : Prop :=
  (∀ (s : State) (m id addr len outPort outTarget outAll : Nat) (other : Bool), s.quiet = true → s.core.memOn = true → dramPath m
      addr = true ∧ burstOk addr len = true → overLimit m outPort outTarget outAll = false → other = false ∧ s.core.atl.held.any
      (fun x => x.port = m && x.id = id % 16) = false → (unitsOf 8 addr len).all (fun w => decide (s.core.eccOf w ≠ 2)) = true →
      Completes (.dramRead m id addr len outPort outTarget outAll other) s fun t => (t.core.outbox.getLast? = some (.data
      ((List.range len).map fun i => s.dramByte (addr + i)))) ∧ t.mem = s.mem ∧ t.core.atl.held = s.core.atl.held) ∧
  (∀ (s : State) (m id addr outPort outTarget outAll a : Nat) (bytes : List Byte) (other : Bool), s.quiet = true → s.core.memOn =
      true → dramPath m addr = true ∧ burstOk addr bytes.length = true → overLimit m outPort outTarget outAll = false → (a < addr ∨
      addr + bytes.length ≤ a) → other = false ∧ s.core.atl.held.any (fun x => x.port = m && x.id = id % 16) = false → (unitsOf 8
      addr bytes.length).all (fun w => decide (s.core.eccOf w ≠ 2)) = true → Completes (.dramWrite m id addr bytes outPort
      outTarget outAll other) s fun t => (∀ i : Nat, i < bytes.length → t.dramByte (addr + i) = bytes.getD i 0) ∧ t.dramByte a =
      s.dramByte a ∧ t.mem.sram = s.mem.sram) ∧
  (∀ (s : State) (m id addr len outPort outTarget outAll : Nat) (other : Bool), s.quiet = true → s.core.memOn = true → dramPath m
      addr = true ∧ burstOk addr len = true → overLimit m outPort outTarget outAll = true → Completes (.dramRead m id addr len
      outPort outTarget outAll other) s fun t => t.core.atl.held = s.core.atl.held ++
      [{ port := m, id := id % 16, addr := addr, data := none, len := len }] ∧ t.core.get R.FABRIC_HELD_LIMIT = s.core.get
      R.FABRIC_HELD_LIMIT + 1 ∧ t.mem = s.mem) ∧
  (∀ (s : State) (m id addr outPort outTarget outAll : Nat) (bytes : List Byte) (other : Bool), s.quiet = true → s.core.memOn =
      true → dramPath m addr = true ∧ burstOk addr bytes.length = true → overLimit m outPort outTarget outAll = false → other =
      true → Completes (.dramWrite m id addr bytes outPort outTarget outAll other) s fun t => t.core.atl.held = s.core.atl.held ++
      [{ port := m, id := id % 16, addr := addr, data := some bytes, len := bytes.length }] ∧ t.core.get R.FABRIC_HELD_ORDER =
      s.core.get R.FABRIC_HELD_ORDER + 1 ∧ t.mem = s.mem) ∧
  (∀ (s : State) (m : Nat) (q : HeldReq), s.quiet = true → s.core.atl.held.find? (fun x => decide (x.port = m)) = some q → q.addr +
      q.len ≤ dramEnd → (unitsOf 8 q.addr q.len).all (fun w => decide (s.core.eccOf w ≠ 2)) = true → q.len = (q.data.map
      (·.length)).getD q.len → Completes (.fabricHeldIssue m) s fun t => t.core.atl.held = s.core.atl.held.erase q ∧ (q.data = none
      → t.core.outbox.getLast? = some (.data ((List.range q.len).map fun i => s.dramByte (q.addr + i)))) ∧ (∀ i : Nat, i < q.len →
      t.dramByte (q.addr + i) = ((q.data.map fun b => b.getD i 0).getD (s.dramByte (q.addr + i)))))

/-- While the DRAM is on, a refresh closes its bank's page; a device above 85 °C shows as HOT; tracking moves a lane's write
delay by one step towards the offset called for, within ±4 of the trained value, and counts one called for beyond; scrub goes on
by one line, and what it corrected of the last line is written back; a remap entry that is free enters SHADOW, may be read from
three blocks after the boundary that follows the copy, and then becomes ACTIVE with REMAP_DONE; a served write of CLEAR to
MEMC_FIRST_UNCORR_HI clears the record. -/
def Obligations.DramUpkeepCompletes : Prop :=
  (∀ (s : State) (ch bank : Nat), s.quiet = true → s.core.memOn = true → Completes (.dramRefresh ch bank) s fun t => smGet (fun _
      => none) t.core.memc.open_ (16 * ch + bank) = none ∧ t.mem = s.mem) ∧
  (∀ (s : State) (ch : Nat) (warm : Bool), s.quiet = true → s.core.memOn = true → ch ≤ 7 → Completes (.mr4TemperatureReport ch
      warm) s fun t => smGet (fun _ => false) t.core.memc.hot ch = warm ∧ (warm = true → t.core.flag F.MEMC_STATUS_HOT = true) ∧
      (s.core.memc.hot = [] → warm = true → t.core.flag F.MEMC_INT_STATUS_HOT = true ∨ s.core.flag F.MEMC_STATUS_HOT = true) ∧
      (s.core.memc.hot = [(ch, true)] → warm = false → t.core.flag F.MEMC_STATUS_HOT = false)) ∧
  (∀ (s : State) (wanted : List Int) (i : Nat) (t0 off : Int), s.quiet = true → s.core.memOn = true → i < 16 → t0 = (smGet (fun _
      => 0) s.core.memc.trained i : Nat) → off = (s.core.f (F.MEMC_TRAIN_A_WR_DELAY i) : Int) - t0 → 1 ≤ s.core.f
      (F.MEMC_TRAIN_A_WR_DELAY i) ∧ s.core.f (F.MEMC_TRAIN_A_WR_DELAY i) ≤ 126 → Completes (.dramWckTrack wanted) s fun t =>
      ((t.core.f (F.MEMC_TRAIN_A_WR_DELAY i) : Int) = t0 + off + (if off < clampInt (-4) 4 (wanted.getD i 0) then 1 else if
      clampInt (-4) 4 (wanted.getD i 0) < off then -1 else 0)) ∧ (wanted.getD i 0 > 4 ∨ wanted.getD i 0 < -4 → t.core.flag
      F.MEMC_INT_STATUS_TRACK_LIMIT = true)) ∧
  (∀ (s : State) (errs : List (Nat × Nat)), s.quiet = true → s.core.memOn = true → Completes (.dramScrubRead errs) s fun t =>
      t.core.memc.scrubAt = (s.core.memc.scrubAt + 1) % allLines ∧ t.core.f F.MEMC_SCRUB_PROGRESS = s.core.memc.scrubAt * 1000 /
      allLines % 1024 ∧ (errs = [] → s.core.memc.scrubFix.all (fun w => decide (t.core.eccOf w = 0)) = true)) ∧
  (∀ (s : State) (w base : Nat) (errs : List (Nat × Nat)), s.quiet = true → s.core.memOn = true → s.core.memc.scrubAt % chanLines *
      64 / 32768 < 57344 → base = fabricOf s.core.grain (s.core.memc.scrubAt / chanLines % 8) (s.core.memc.scrubAt % chanLines *
      64) / 8 → errs = [(w, 1)] → w < 8 → s.core.memc.scrubFix = [] → s.core.eccOf (base + w) = 0 → Completes (.dramScrubRead errs)
      s fun t => t.core.eccOf (base + w) = 1 ∧ t.core.memc.scrubFix.contains (base + w) = true ∧ t.core.flag
      F.MEMC_INT_STATUS_CORRECTED = true) ∧
  (∀ (s : State) (ch e row bank spare : Nat), s.quiet = true → ch ≤ 7 ∧ e ≤ 31 ∧ spare ≤ 31 ∧ bank ≤ 15 ∧ row < 64512 → s.core.f
      (F.MEMC_REMAP_STATE ch e) = 0 → Completes (.dramRemapStart ch e row bank spare) s fun t => t.core.f (F.MEMC_REMAP_ROW ch e) =
      row ∧ t.core.f (F.MEMC_REMAP_BANK ch e) = bank ∧ t.core.f (F.MEMC_REMAP_SPARE ch e) = spare ∧ t.core.f (F.MEMC_REMAP_STATE ch
      e) = 1) ∧
  (∀ (s : State) (ch e : Nat), s.quiet = true → ch ≤ 7 ∧ e ≤ 31 → s.core.f (F.MEMC_REMAP_STATE ch e) = 1 → Completes
      (.dramRemapCopyDone ch e) s fun t => smGet (fun _ => none) t.core.memc.remapAt (32 * ch + e) = some (s.core.boundaryAt
      s.core.now + 3 * s.core.blk) ∧ t.core.f (F.MEMC_REMAP_STATE ch e) = 1) ∧
  (∀ (s : State) (ch e b : Nat), s.quiet = true → ch ≤ 7 ∧ e ≤ 31 → smGet (fun _ => none) s.core.memc.remapAt (32 * ch + e) = some
      b → b ≤ s.core.now → Completes (.dramRemapActivate ch e) s fun t => t.core.f (F.MEMC_REMAP_STATE ch e) = 2 ∧ t.core.flag
      F.MEMC_INT_STATUS_REMAP_DONE = true ∧ smGet (fun _ => none) t.core.memc.remapAt (32 * ch + e) = none) ∧
  (∀ (s : State) (m : Nat) (v : Word), let c := s.core.written ⟨m, R.MEMC_FIRST_UNCORR_HI, v⟩ 0; s.core.serves m
      R.MEMC_FIRST_UNCORR_HI = true → s.quiet = true → bitOf v 30 = true → Completes (.memcUncorrClear m v) s fun t => t.core.get
      R.MEMC_FIRST_UNCORR_LO = 0 ∧ t.core.get R.MEMC_FIRST_UNCORR_HI = 0)

/-- A page read counts its corrected bits and codewords of more than 72; a program or an erase of a good unit on a free die
starts while writes are allowed and is refused and counted otherwise; a program that ends leaves its unit in use with age 0, an
erase leaves it free and worn by one more, and one that fails, with Smudge class 6 not armed, retires the unit; scrub counts and
notes a unit's worst codeword; wear levelling exchanges the least-worn unit in use and the most-worn free one beyond the limit;
a verified relocation moves a unit; each hour adds one to the age of a unit in use. -/
def Obligations.FlashUpkeepCompletes : Prop :=
  (∀ (s : State) (unit : Nat) (bits : List Nat) (owner : List (Nat × Nat)), s.quiet = true → unit < flashUnits → s.core.armed 6 =
      false → Completes (.flashPageRead unit bits owner) s fun t => t.core.get R.FLASH_PAGES_READ = s.core.get R.FLASH_PAGES_READ +
      1 ∧ (t.core.get R.FLASH_CORRECTED_BITS = s.core.get R.FLASH_CORRECTED_BITS + .ofNat 32 ((bits.filter fun b => decide (b ≤
      72)).foldl (fun a b => a + b) 0)) ∧ (bits.any (fun b => decide (72 < b)) = true → t.core.flag
      F.FLASH_INT_STATUS_UNCORRECTABLE = true) ∧ (bits.any (fun b => decide (72 < b)) = true → s.core.f (F.FLASH_EU_B_STATE unit) =
      1 → t.core.flash.reloc.any (fun x => decide (x = (unit, true))) = true)) ∧
  (∀ (s : State) (unit : Nat), s.quiet = true → s.core.dieFree unit = true ∧ s.core.unitGood unit = true → s.core.flashWrites =
      true → Completes (.flashProgram unit) s fun t => t.core.flash.ops = s.core.flash.ops ++
      [{ die := dieOf unit, unit := unit, erase := false }] ∧ t.core.flag F.FLASH_STATUS_BUSY = true) ∧
  (∀ (s : State) (unit : Nat), s.quiet = true → s.core.dieFree unit = true ∧ s.core.unitGood unit = true → s.core.flashWrites =
      true → Completes (.flashErase unit) s fun t => t.core.flash.ops = s.core.flash.ops ++
      [{ die := dieOf unit, unit := unit, erase := true }] ∧ t.core.flag F.FLASH_STATUS_BUSY = true) ∧
  (∀ (s : State) (unit : Nat), s.quiet = true → s.core.dieFree unit = true ∧ s.core.unitGood unit = true → s.core.flashWrites =
      false → Completes (.flashErase unit) s fun t => t.core.flash = s.core.flash ∧ t.core.f ⟨R.FLASH_REFUSED, 15, 0⟩ = min
      (s.core.f ⟨R.FLASH_REFUSED, 15, 0⟩ + 1) 65535 ∧ t.core.flag F.FLASH_INT_STATUS_REFUSED = true) ∧
  (∀ (s : State) (unit : Nat), s.quiet = true → s.core.dieFree unit = true ∧ s.core.unitGood unit = true → s.core.flashWrites =
      false → Completes (.flashProgram unit) s fun t => t.core.flash = s.core.flash ∧ t.core.f ⟨R.FLASH_REFUSED, 15, 0⟩ = min
      (s.core.f ⟨R.FLASH_REFUSED, 15, 0⟩ + 1) 65535 ∧ t.core.flag F.FLASH_INT_STATUS_REFUSED = true) ∧
  (∀ (s : State) (die n : Nat) (ok : Bool), s.quiet = true → s.core.flash.ops.find? (fun x => decide (x.die = die)) = some
      { die := die, unit := n, erase := false } → n < flashUnits → ok = true → s.core.armed 6 = false → Completes (.flashOpComplete
      die ok) s fun t => t.core.f (F.FLASH_EU_B_STATE n) = 1 ∧ t.core.f (F.FLASH_EU_A_AGE n) = 0 ∧ t.core.f (F.FLASH_EU_B_AREA n) =
      s.core.f (F.FLASH_EU_B_AREA n) ∧ (t.core.flash.ops = s.core.flash.ops.filter fun x => decide (x.die ≠ die))) ∧
  (∀ (s : State) (die n : Nat) (ok : Bool), s.quiet = true → s.core.flash.ops.find? (fun x => decide (x.die = die)) = some
      { die := die, unit := n, erase := true } → n < flashUnits → ok = true → s.core.armed 6 = false → Completes (.flashOpComplete
      die ok) s fun t => (t.core.f (F.FLASH_EU_B_STATE n) = if s.core.f (F.FLASH_EU_B_STATE n) = 2 then 2 else 0) ∧ t.core.f
      (F.FLASH_EU_A_PE n) = min (s.core.f (F.FLASH_EU_A_PE n) + 1) (2 ^ ((F.FLASH_EU_A_PE n).hi - (F.FLASH_EU_A_PE n).lo + 1) - 1)
      ∧ t.core.flash.erased.contains n = true ∧ (t.core.flash.ops = s.core.flash.ops.filter fun x => decide (x.die ≠ die))) ∧
  (∀ (s : State) (die n : Nat) (ok : Bool), s.quiet = true → s.core.flash.ops.find? (fun x => decide (x.die = die)) = some
      { die := die, unit := n, erase := true } → n < flashUnits → ok = false → s.core.armed 6 = false → Completes (.flashOpComplete
      die ok) s fun t => t.core.f (F.FLASH_EU_B_STATE n) = 3 ∧ t.core.f (F.FLASH_EU_B_AREA n) = 6 ∧ t.core.flag
      F.FLASH_INT_STATUS_ERASE_FAIL = true ∧ t.core.flag F.FLASH_INT_STATUS_RETIRED = true ∧ (t.core.flash.ops =
      s.core.flash.ops.filter fun x => decide (x.die ≠ die))) ∧
  (∀ (s : State) (unit pages bits most bad : Nat) (owner : List (Nat × Nat)), s.quiet = true → unit < flashUnits → s.core.f
      (F.FLASH_EU_B_STATE unit) = 1 → most < 128 → Completes (.flashScrubPass unit pages bits most bad owner) s fun t => t.core.get
      R.FLASH_PAGES_READ = s.core.get R.FLASH_PAGES_READ + .ofNat 32 pages ∧ t.core.f (F.FLASH_EU_B_MAXBITS unit) = most ∧ (bad > 0
      ∨ most > s.core.f F.FLASH_SCRUB_THRESH → t.core.flash.reloc.any (fun x => decide (x.1 = unit)) = true)) ∧
  (∀ (s : State) (tlc : Bool) (lo hi dst : Nat), s.quiet = true → (s.core.leastWorn (s.core.unitsIn 1 fun a => if tlc then tlcArea
      a else a ≤ 3) = some lo) → (s.core.mostWorn (s.core.unitsIn 1 fun a => if tlc then tlcArea a else a ≤ 3) = some hi) →
      (s.core.mostWorn (s.core.unitsIn 0 fun a => if tlc then tlcArea a else a ≤ 3) = some dst) → 2 ≤ s.core.f (F.FLASH_EU_B_AREA
      lo) → s.core.flashWrites = true → (s.core.f (F.FLASH_EU_A_PE hi) > s.core.f (F.FLASH_EU_A_PE lo) + if tlc then 500 else 2000)
      → lo < flashUnits ∧ dst < flashUnits ∧ lo ≠ dst → Completes (.flashWearLevel tlc) s fun t => t.core.f (F.FLASH_EU_B_STATE
      dst) = 1 ∧ t.core.f (F.FLASH_EU_B_AREA dst) = s.core.f (F.FLASH_EU_B_AREA lo) ∧ t.core.f (F.FLASH_EU_B_STATE lo) = 0 ∧
      t.core.f (F.FLASH_EU_B_AREA lo) = s.core.f (F.FLASH_EU_B_AREA dst)) ∧
  (∀ (s : State) (unit dst : Nat) (verified : Bool), s.quiet = true → s.core.flash.reloc.find? (fun x => decide (x.1 = unit)) =
      some (unit, false) → s.core.flashWrites = true → verified = true → (s.core.leastWorn (s.core.unitsIn 0 fun a => decide
      (tlcArea a = tlcArea (s.core.f (F.FLASH_EU_B_AREA unit))) && decide (a < 6)) = some dst) → unit < flashUnits ∧ dst <
      flashUnits ∧ unit ≠ dst → Completes (.flashRelocate unit verified) s fun t => t.core.f (F.FLASH_EU_B_STATE dst) = 1 ∧
      t.core.f (F.FLASH_EU_B_AREA dst) = s.core.f (F.FLASH_EU_B_AREA unit) ∧ t.core.f (F.FLASH_EU_B_STATE unit) = 0 ∧ t.core.flag
      F.FLASH_INT_STATUS_RELOCATED = true ∧ t.core.flash.reloc.any (fun x => decide (x.1 = unit)) = false) ∧
  (∀ (s : State) (n : Nat), s.quiet = true → n < flashUnits → s.core.f (F.FLASH_EU_B_STATE n) = 1 → Completes
      .flashRetentionAgeTick s fun t => t.core.f (F.FLASH_EU_A_AGE n) = min (s.core.f (F.FLASH_EU_A_AGE n) + 1) (2 ^
      ((F.FLASH_EU_A_AGE n).hi - (F.FLASH_EU_A_AGE n).lo + 1) - 1))

/-- STORAGE_STATUS_GET and LIB_LIST return what R475 says; LIB_WRITE_BEGIN that passes its checks opens a write for the session,
LIB_WRITE_DATA appends its bytes at their offset, LIB_WRITE_COMMIT of a whole item with the right check value and format is
accepted, and its completion makes the item visible with its CRC-32C; a write without data for 60 s and LIB_WRITE_ABORT discard
an open write; LIB_READ returns bytes of an undamaged item, and LIB_DELETE removes one that nothing names. -/
def Obligations.LibraryCommandsComplete : Prop :=
  (∀ (s : State) (p : Packet), let c := s.core.offered opStorageStatus p; let r := reqOf opStorageStatus p;
      let most : Bool → Nat := fun tlc => (List.range flashUnits).foldl (fun a n => if tlcArea (c.f (F.FLASH_EU_B_AREA n)) = tlc ∧ c.f (F.FLASH_EU_B_AREA n) ≤ 5 then max a (c.f (F.FLASH_EU_A_PE n)) else a) 0;
      s.core.admits opStorageStatus p = true → s.quiet = true → Completes (.storageStatusGet p) s fun t => t.core.answered p .ok
      [(c.get R.FLASH_STATUS).toNat, (c.get R.MEMC_STATUS).toNat, c.libCapacity % 2 ^ 32, c.libCapacity / 2 ^ 32, c.libFree % 2 ^
      32, c.libFree / 2 ^ 32, c.flash.lib.length + 1, most true, most false] ∧ t.core.flash = c.flash) ∧
  (∀ (s : State) (p : Packet) (l : List LibItem), let c := s.core.offered opLibList p; let r := reqOf opLibList p; s.core.admits
      opLibList p = true → s.quiet = true → 1 ≤ r.n 1 ∧ r.n 1 ≤ 256 → (l = ((((c.flash.lib.filter fun it => decide (it.num <
      ledgerItem)) ++ (c.item? ledgerItem).toList ++ (c.flash.lib.filter fun it => decide (ledgerItem < it.num))).filter fun it =>
      decide (r.n 0 ≤ it.num)).take (r.n 1))) → Completes (.libList p) s fun t => t.core.answered p .ok (l.flatMap (c.itemWords
      p.session.toNat))) ∧
  (∀ (s : State) (p : Packet), let c := s.core.offered opLibWriteBegin p; let r := reqOf opLibWriteBegin p; s.core.admits
      opLibWriteBegin p = true → s.quiet = true → libBeginCheck c r.tok.session (r.n 0) (r.n 1) (r.n 2) = .ok → Completes
      (.libWriteBegin p) s fun t => t.core.answered p .ok [] ∧ t.core.flash.writes = c.flash.writes ++
      [{ session := r.tok.session, num := r.n 0, kind := r.n 1, size := r.n 2 }] ∧ t.core.flash.lib = c.flash.lib) ∧
  (∀ (s : State) (p : Packet) (w : LibWrite), let c := s.core.offered opLibWriteData p; let r := reqOf opLibWriteData p;
      s.core.admits opLibWriteData p = true → s.quiet = true → c.openWrite? r.tok.session (r.n 0) = some w → r.n 1 = w.data.length
      → w.data.length + (r.bytes.drop 8).length ≤ w.size → c.flag F.SYS_STATUS_VIN_WARN = false → Completes (.libWriteData p) s fun
      t => t.core.answered p .ok [] ∧ t.core.openWrite? r.tok.session (r.n 0) = some { w with data := w.data ++ r.bytes.drop 8 } ∧
      t.core.flash.lib = c.flash.lib) ∧
  (∀ (s : State) (p : Packet) (w : LibWrite), let c := s.core.offered opLibWriteCommit p; let r := reqOf opLibWriteCommit p;
      s.core.admits opLibWriteCommit p = true → s.quiet = true → c.openWrite? r.tok.session (r.n 0) = some w → w.data.length =
      w.size → crc32c w.data = r.n 1 → formatOk w.kind w.data = true → c.itemLocked w.num r.tok.session = false → c.flag
      F.SYS_STATUS_VIN_WARN = false → Completes (.libWriteCommit p) s fun t => t.core.answered p .accepted [] ∧
      t.core.flash.writes.any (fun x => decide (x = { w with commit := some (r.tok, r.n 1) })) = true ∧ t.core.flash.lib =
      c.flash.lib) ∧
  (∀ (s : State) (session : Nat) (w : LibWrite), s.quiet = true → s.core.flash.writes.find? (fun x => decide (x.session = session)
      && x.commit.isSome) = some w → s.core.flag F.SYS_STATUS_VIN_WARN = false → w.num ≠ ledgerItem → Completes (.libCommitDone
      session) s fun t => t.core.item? w.num = some { num := w.num, kind := w.kind, data := w.data, crc := crc32c w.data } ∧
      t.core.flash.writes.any (fun x => decide (x.session = session)) = false) ∧
  (∀ (s : State) (session : Nat), s.quiet = true → Completes (.libWriteTimeout session) s fun t => (t.core.flash.writes =
      s.core.flash.writes.filter fun w => decide (w.session ≠ session) || w.commit.isSome) ∧ t.core.flash.lib = s.core.flash.lib) ∧
  (∀ (s : State) (p : Packet) (it : LibItem), let c := s.core.offered opLibRead p; let r := reqOf opLibRead p; s.core.admits
      opLibRead p = true → s.quiet = true → c.item? (r.n 0) = some it → it.num ≠ ledgerItem → 1 ≤ r.n 2 ∧ r.n 2 + 4 ≤ maxParams
      p.transport ∧ r.n 1 + r.n 2 ≤ it.data.length → (it.damaged.all (fun k => decide (r.n 1 + r.n 2 ≤ k * 16384 ∨ k * 16384 +
      16384 ≤ r.n 1)) = true) → Completes (.libRead p) s fun t => t.core.told p = some (statusCode .ok, (it.data.drop (r.n 1)).take
      (r.n 2))) ∧
  (∀ (s : State) (p : Packet), let c := s.core.offered opLibDelete p; let r := reqOf opLibDelete p; s.core.admits opLibDelete p =
      true → s.quiet = true → c.itemLocked (r.n 0) r.tok.session = false → (c.item? (r.n 0)).all (fun it => decide (it.kind ≠ 6) &&
      decide (it.kind ≠ 7)) = true → c.flag F.SYS_STATUS_VIN_WARN = false → Completes (.libDelete p) s fun t => t.core.answered p
      .ok [] ∧ (t.core.flash.lib = c.flash.lib.filter fun it => decide (it.num ≠ r.n 0))) ∧
  (∀ (s : State) (p : Packet) (w : LibWrite), let c := s.core.offered opLibWriteAbort p; let r := reqOf opLibWriteAbort p;
      s.core.admits opLibWriteAbort p = true → s.quiet = true → c.openWrite? r.tok.session (r.n 0) = some w → Completes
      (.libWriteAbort p) s fun t => t.core.answered p .ok [] ∧ (t.core.flash.writes = c.flash.writes.filter fun x => decide
      (x.session ≠ r.tok.session)))

/-- CRC_SCAN on channel 0 or 1, and a served GO, start a scan of the channel's range; a scan whose range has not been written
meanwhile and holds no uncorrectable word ends with the check value of its bytes by R472, and one with an uncorrectable word
ends with ERR; MEM_CONFIG_SET and FLASH_CONFIG_SET store their settings, and FLASH_UNIT_GET returns the records of erase units.
-/
def Obligations.CheckScansAndSettingsComplete : Prop :=
  (∀ (s : State) (p : Packet), let c := s.core.offered opCrcScan p; let r := reqOf opCrcScan p; s.core.admits opCrcScan p = true →
      s.quiet = true → r.n 0 ≤ 1 ∧ r.n 1 ≤ 3 ∧ r.n 2 ≤ 1 ∧ r.n 4 ≤ 255 → c.flag (F.CRC_CH_CTRL_BUSY (r.n 0)) = false → (r.n 3 + 2 ^
      32 * r.n 4 + (if r.n 5 = 0 then 2 ^ 32 else r.n 5) ≤ dramEnd ∨ (sramBase ≤ r.n 3 + 2 ^ 32 * r.n 4 ∧ r.n 3 + 2 ^ 32 * r.n 4 +
      (if r.n 5 = 0 then 2 ^ 32 else r.n 5) ≤ sramEnd)) → Completes (.crcScan p) s fun t => t.core.answered p .accepted [] ∧
      t.core.flag (F.CRC_CH_CTRL_BUSY (r.n 0)) = true ∧ t.core.crcAddr (r.n 0) = r.n 3 + 2 ^ 32 * r.n 4 ∧ (t.core.crcLen (r.n 0) =
      if r.n 5 = 0 then 2 ^ 32 else r.n 5) ∧ t.core.f (F.CRC_CH_CTRL_POLY (r.n 0)) = r.n 1 ∧ smGet (fun _ => none) t.core.crc.tok
      (r.n 0) = some r.tok) ∧
  (∀ (s : State) (m k a n : Nat) (v : Word), let c := s.core.written ⟨m, R.CRC_CH_CTRL k, v⟩ 2147483648; s.core.serves m
      (R.CRC_CH_CTRL k) = true → s.quiet = true → k ≤ 3 → (m = 8 → k ≤ 1) → bitOf v 31 = true → s.core.flag (F.CRC_CH_CTRL_BUSY k)
      = false → a = s.core.crcAddr k ∧ n = s.core.crcLen k → (a + n ≤ dramEnd ∨ (sramBase ≤ a ∧ a + n ≤ sramEnd)) → Completes
      (.crcScanGo m k v) s fun t => t.core.flag (F.CRC_CH_CTRL_BUSY k) = true ∧ t.core.crcAddr k = a ∧ t.core.crcLen k = n) ∧
  (∀ (s : State) (m k a n : Nat) (v : Word), let c := s.core.written ⟨m, R.CRC_CH_CTRL k, v⟩ 2147483648; s.core.serves m
      (R.CRC_CH_CTRL k) = true → s.quiet = true → k ≤ 3 → (m = 8 → k ≤ 1) → bitOf v 31 = true → s.core.flag (F.CRC_CH_CTRL_BUSY k)
      = false → a = s.core.crcAddr k ∧ n = s.core.crcLen k → dramEnd < a + n → (a < sramBase ∨ sramEnd < a + n) → Completes
      (.crcScanGo m k v) s fun t => t.core.flag (F.CRC_CH_CTRL_BUSY k) = false ∧ t.core.flag (F.CRC_CH_CTRL_ERR k) = true ∧
      t.core.f (F.CRC_CH_CTRL_CAUSE k) = 1) ∧
  (∀ (s : State) (k a n poly : Nat) (seed : Option Nat), s.quiet = true → k ≤ 3 → s.core.flag (F.CRC_CH_CTRL_BUSY k) = true → a =
      s.core.crcAddr k ∧ n = s.core.crcLen k → poly = s.core.f (F.CRC_CH_CTRL_POLY k) → (seed = if s.core.flag (F.CRC_CH_CTRL_CONT
      k) then some (s.core.get64 (R.CRC_CH_SEED_LO k) (R.CRC_CH_SEED_HI k)) else none) → smGet (fun _ => false) s.core.crc.dirty k
      = false → s.core.memc.ecc.all (fun x => decide (x.2 ≠ 2)) = true → Completes (.crcScanDone k) s fun t => t.core.flag
      (F.CRC_CH_CTRL_BUSY k) = false ∧ t.core.flag (F.CRC_CH_CTRL_DONE k) = true ∧ (t.core.get64 (R.CRC_CH_RESULT_LO k)
      (R.CRC_CH_RESULT_HI k) = crcOf poly seed ((List.range n).map fun i => s.mem.byte (a + i))) ∧ t.core.flag ⟨R.CRC_INT_STATUS,
      k, k⟩ = true ∧ t.mem = s.mem) ∧
  (∀ (s : State) (k a n : Nat), s.quiet = true → k ≤ 3 → s.core.flag (F.CRC_CH_CTRL_BUSY k) = true → a = s.core.crcAddr k ∧ n =
      s.core.crcLen k → s.core.memc.ecc.any (fun x => decide (x.2 = 2 ∧ a < 8 * x.1 + 8 ∧ 8 * x.1 < a + n)) = true → Completes
      (.crcScanDone k) s fun t => t.core.flag (F.CRC_CH_CTRL_BUSY k) = false ∧ t.core.flag (F.CRC_CH_CTRL_ERR k) = true ∧ t.core.f
      (F.CRC_CH_CTRL_CAUSE k) = 2 ∧ t.core.flag ⟨R.CRC_INT_STATUS, 4 + k, 4 + k⟩ = true ∧ t.mem = s.mem) ∧
  (∀ (s : State) (p : Packet), let c := s.core.offered opMemConfig p; let r := reqOf opMemConfig p; s.core.admits opMemConfig p =
      true → s.quiet = true → 8 ≤ r.n 0 ∧ r.n 0 ≤ 16 → 1 ≤ r.n 1 ∧ r.n 1 ≤ 168 → c.flag F.SYS_STATUS_VIN_WARN = false → Completes
      (.memConfigSet p) s fun t => t.core.answered p .ok [] ∧ t.core.cfg.grain = r.n 0 ∧ t.core.f F.MEMC_MAP_GRAIN_NEXT = r.n 0 ∧
      t.core.f F.MEMC_SCRUB_HOURS = r.n 1 ∧ t.core.f F.MEMC_MAP_GRAIN = c.f F.MEMC_MAP_GRAIN) ∧
  (∀ (s : State) (p : Packet), let c := s.core.offered opFlashConfig p; let r := reqOf opFlashConfig p; s.core.admits opFlashConfig
      p = true → s.quiet = true → bitsOf (r.w 0) 31 24 = 0 → 1 ≤ bitsOf (r.w 0) 7 0 ∧ bitsOf (r.w 0) 7 0 ≤ 90 → 1 ≤ bitsOf (r.w 0)
      15 8 ∧ bitsOf (r.w 0) 15 8 ≤ 180 → 8 ≤ bitsOf (r.w 0) 23 16 ∧ bitsOf (r.w 0) 23 16 ≤ 72 → c.flag F.SYS_STATUS_VIN_WARN =
      false → Completes (.flashConfigSet p) s fun t => t.core.answered p .ok [] ∧ t.core.get R.FLASH_SCRUB = r.w 0 ∧ t.core.get
      R.FLASH_AGE_LIMIT = r.w 1 ∧ smGet regReset t.core.cfg.regs R.FLASH_SCRUB = r.w 0) ∧
  (∀ (s : State) (p : Packet), let c := s.core.offered opFlashUnit p; let r := reqOf opFlashUnit p; s.core.admits opFlashUnit p =
      true → s.quiet = true → 1 ≤ r.n 1 ∧ r.n 1 ≤ 512 → r.n 0 + r.n 1 ≤ flashUnits → Completes (.flashUnitGet p) s fun t =>
      (t.core.answered p .ok ((List.range (r.n 1)).flatMap fun i => [(c.get (R.FLASH_EU_A (r.n 0 + i))).toNat, (c.get (R.FLASH_EU_B
      (r.n 0 + i))).toNat])))

/-- While the tether works, a frame with the right MAGIC, VERSION and, where a playing partner sends it, an EPOCH not below ours
is acted upon: a STANDBY module takes a mirror set of one fragment whose check value holds, counts one whose check value does
not, and keeps a fragment of a longer one; an ACK releases the held replies of its block and, while SYNC_REPLY holds them, no
other; a RESYNC_REQ is answered; a RESYNC_DATA part takes the place of what stood here; SWITCH names the boundary of the
switch-over and wakes the module; RELINQUISH decides the next boundary; a PAIR frame decides who becomes ACTIVE. A set that is
applied stores its library items and is acknowledged. -/
def Obligations.TetherFramesComplete : Prop :=
  (∀ (s : State) (f : Tether), s.quiet = true → s.core.tetherOn = true → s.core.twinState = 3 → f.magic = 0x5457 ∧ f.version = 1 ∧
      (s.core.get R.TWIN_EPOCH).toNat ≤ f.epoch → f.frag = 0x8000 → f.payload.length = f.setLen ∧ crc32c f.payload = f.check →
      Completes (.tetherMirrorReceive f) s fun t => t.core.twin.ready = s.core.twin.ready ++ [(f.block, f.setLen, f.flags)] ∧
      t.core.twin.missed = 0 ∧ t.core.flag F.TWIN_STATUS_TETHER_UP = true ∧ (f.block ≤ s.core.time.n → s.core.time.n ≤ f.block + 2
      * s.core.blk → t.core.flag F.TWIN_STATUS_MEDIA_MATCH = true)) ∧
  (∀ (s : State) (f : Tether), s.quiet = true → s.core.tetherOn = true → s.core.twinState = 3 → f.magic = 0x5457 ∧ f.version = 1 ∧
      (s.core.get R.TWIN_EPOCH).toNat ≤ f.epoch → f.frag = 0x8000 → f.payload.length = f.setLen ∧ crc32c f.payload ≠ f.check →
      Completes (.tetherMirrorReceive f) s fun t => t.core.f F.TWIN_SET_BAD_COUNT = min (s.core.f F.TWIN_SET_BAD_COUNT + 1) 65535 ∧
      t.core.flag F.TWIN_INT_STATUS_SET_BAD = true ∧ (t.core.flag F.TWIN_STATUS_READY = false ∨ s.core.twin.resync = true) ∧
      t.core.twin.resync = true) ∧
  (∀ (s : State) (f : Tether), s.quiet = true → s.core.tetherOn = true → s.core.twinState = 3 → f.magic = 0x5457 ∧ f.version = 1 ∧
      (s.core.get R.TWIN_EPOCH).toNat ≤ f.epoch → f.frag < 0x8000 → s.core.twin.sets.all (fun x => decide (x.block ≠ f.block)) =
      true → Completes (.tetherMirrorReceive f) s fun t => t.core.twin.sets = s.core.twin.sets ++
      [{ block := f.block, parts := [(f.frag, f.payload)], len := f.setLen, flags := f.flags }] ∧ t.core.twin.ready =
      s.core.twin.ready) ∧
  (∀ (s : State) (f : Tether), s.quiet = true → s.core.tetherOn = true → (f.magic ≠ 0x5457 ∨ f.version ≠ 1 ∨ f.epoch < (s.core.get
      R.TWIN_EPOCH).toNat) → Completes (.tetherMirrorReceive f) s fun t => t.core.f F.TWIN_SET_BAD_COUNT = min (s.core.f
      F.TWIN_SET_BAD_COUNT + 1) 65535 ∧ t.core.twin = s.core.twin) ∧
  (∀ (s : State) (f : Tether), s.quiet = true → s.core.tetherOn = true → s.core.twinState = 2 → f.magic = 0x5457 ∧ f.version = 1 →
      s.core.flag F.TWIN_CFG_SYNC_REPLY = true ∧ f.flags / 32 % 2 = 1 → Completes (.tetherAckReceive f) s fun t =>
      (t.core.twin.replies = s.core.twin.replies.filter fun x => decide (x.1 ≠ f.block)) ∧ t.core.f F.TWIN_STATUS_PARTNER_FLAGS =
      f.flags % 64) ∧
  (∀ (s : State) (f : Tether), s.quiet = true → s.core.tetherOn = true → s.core.twinState = 2 → f.magic = 0x5457 ∧ f.version = 1 →
      f.state = 3 → s.core.flag (F.NET_STATUS_LINK_UP 2) = true → 64 ≤ s.core.f (F.NET_MAX_FRAME_BYTES 2) → Completes
      (.tetherResyncReqReceive f) s fun t => ((t.core.netPort 2).txq.getLast?).map (fun x => (x.cls, x.len)) = some (6, 46) ∧
      (t.core.netPort 2).txq.length = (s.core.netPort 2).txq.length + 1) ∧
  (∀ (s : State) (f : Tether) (part : ResyncPart) (n : Nat) (w : Word) (o : SMap ObjLive), s.quiet = true → s.core.tetherOn = true
      → s.core.twinWaits = true → s.core.twin.resync = true → f.magic = 0x5457 ∧ f.version = 1 ∧ (s.core.get R.TWIN_EPOCH).toNat ≤
      f.epoch → (part = .objects o ∨ part = .regs [(n, w)]) → Completes (.tetherResyncDataReceive f part) s fun t => (part =
      .objects o → t.core.scene.objs = o) ∧ (part = .regs [(n, w)] → t.core.get n = w)) ∧
  (∀ (s : State) (f : Tether) (g : Nat), s.quiet = true → s.core.tetherOn = true → s.core.twinState = 3 → s.core.flag
      F.TWIN_STATUS_READY = true → f.magic = 0x5457 ∧ f.version = 1 ∧ (s.core.get R.TWIN_EPOCH).toNat ≤ f.epoch → Completes
      (.tetherSwitchReceive f g) s fun t => t.core.twin.switch = some { b := f.block, g := g, mine := false } ∧ t.core.f
      F.SYS_STATUS_STATE = 1) ∧
  (∀ (s : State) (f : Tether), s.quiet = true → s.core.tetherOn = true → s.core.twinState = 3 → s.core.flag F.TWIN_STATUS_READY =
      true ∧ s.core.flag F.HOST_STATUS_RESTARTING = false → s.core.twin.fixed = false → f.magic = 0x5457 ∧ f.version = 1 ∧
      (s.core.get R.TWIN_EPOCH).toNat ≤ f.epoch → Completes (.tetherRelinquishReceive f) s fun t => t.core.twin.due = some
      s.core.nextB ∧ t.core.twin.fixed = true) ∧
  (∀ (s : State) (f : Tether) (primary : Bool), s.quiet = true → s.core.tetherOn = true → s.core.twinState = 1 ∧ f.state = 1 →
      f.magic = 0x5457 ∧ f.version = 1 → s.core.twin.resync = false → Completes (.tetherPairReceive f primary) s fun t =>
      (s.core.twinWins primary f.mac = true → t.core.twinState = 2 ∧ t.core.get R.TWIN_EPOCH = s.core.get R.TWIN_EPOCH + 1) ∧
      (s.core.twinWins primary f.mac = false → t.core.twinState = 1 ∧ t.core.twin.resync = true)) ∧
  (∀ (s : State) (items : MirrorItems) (set : Nat × Nat × Nat) (u : List (Nat × Nat × Nat)) (l : LibCopy), s.quiet = true →
      s.core.twin.ready = set :: u → s.core.twinState = 3 ∧ s.core.twin.resync = false → s.core.twin.due = none → items.cmds = [] ∧
      items.libs = [l] ∧ items.regions = [] → set.1 < 2 ^ 64 ∧ set.2.1 < 2 ^ 20 → l.num ≠ ledgerItem → Completes (.mirrorSetApply
      items) s fun t => t.core.twin.ready = u ∧ t.core.item? l.num = some
      { num := l.num, kind := l.kind, data := l.data, crc := crc32c l.data } ∧ t.core.get64 R.TWIN_LAST_SET_LO R.TWIN_LAST_SET_HI =
      set.1 ∧ t.core.f F.TWIN_SET_SIZE_LAST = set.2.1 ∧ t.core.get R.TWIN_SETS = s.core.get R.TWIN_SETS + 1 ∧ (∀ x ∈ items.survey,
      t.core.surveyLive = x))

/-- A pairing module that has seen no partner for 2 s becomes ACTIVE where it is PRIMARY, and ISOLATED where the witness is
seen; a complete resync is told and counted and makes a pairing module STANDBY; the witness check isolates a module that hears
the partner and otherwise sets the takeover of one that was READY; a takeover at its anchor raises EPOCH, clears the held
outputs and shows TAKING_OVER; a switch-over starts the partner's engines, exchanges the roles at B, and ends a Glaze later; the
opcodes of R497 have their effect. -/
def Obligations.TwinRolesComplete : Prop :=
  (∀ (s : State), s.quiet = true → s.core.twinState = 1 → s.core.flag F.TWIN_STATUS_TETHER_UP = false → Completes .pairingTimeout s
      fun t => (s.core.flag F.TWIN_STATUS_WITNESS_SEEN = true → t.core.twinState = 6) ∧ (s.core.flag F.TWIN_STATUS_WITNESS_SEEN =
      false → s.core.flag F.TWIN_CFG_PRIMARY = true → t.core.twinState = 2 ∧ t.core.get R.TWIN_EPOCH = s.core.get R.TWIN_EPOCH + 1)
      ∧ (s.core.flag F.TWIN_STATUS_WITNESS_SEEN = false → s.core.flag F.TWIN_CFG_PRIMARY = false → t.core.twinState = 1)) ∧
  (∀ (s : State) (version : Word), s.quiet = true → s.core.twin.resync = true → Completes (.resyncComplete version) s fun t =>
      t.core.twin.resync = false ∧ (t.core.twinState = if s.core.twinState = 1 ∨ s.core.twinState = 6 then 3 else s.core.twinState)
      ∧ t.core.flag F.TWIN_INT_STATUS_RESYNC_DONE = true ∧ t.core.f F.TWIN_RESYNC_COUNT_COUNT = min (s.core.f
      F.TWIN_RESYNC_COUNT_COUNT + 1) 65535) ∧
  (∀ (s : State) (d : Nat), s.quiet = true → s.core.twin.decide_ = some d → d ≤ s.core.time.n ∧ s.core.twinState = 3 → Completes
      .witnessDecision s fun t => t.core.twin.decide_ = none ∧ (∀ m ∈ s.core.twin.witness, ∀ k ∈ s.core.twin.from_, k ≤ m →
      t.core.twinState = 6 ∧ t.core.flag F.TWIN_INT_STATUS_ISOLATED = true) ∧ (s.core.twin.witness = none ∨ s.core.twin.from_ =
      none → s.core.twin.wasReady = true → t.core.twin.due = some d ∧ t.core.twinState = 3) ∧ (s.core.twin.witness = none ∨
      s.core.twin.from_ = none → s.core.twin.wasReady = false → t.core.twin.resync = true)) ∧
  (∀ (s : State) (d : Nat), s.quiet = true → s.core.twin.due = some d → d ≤ s.core.time.n → s.core.twinWaits = true → Completes
      .takeover s fun t => t.core.twinState = 4 ∧ t.core.twin.anchor = some d ∧ t.core.twin.due = none ∧ t.core.get R.TWIN_EPOCH =
      s.core.get R.TWIN_EPOCH + 1 ∧ t.core.flag F.SYS_STATUS_OUTPUT_HELD = false ∧ t.core.f F.SYS_STATUS_STATE = 1 ∧ t.core.flag
      F.TWIN_INT_STATUS_TAKEOVER = true ∧ t.core.f F.TWIN_TAKEOVER_COUNT_COUNT = min (s.core.f F.TWIN_TAKEOVER_COUNT_COUNT + 1)
      65535) ∧
  (∀ (s : State) (x : SwitchRun), s.quiet = true → s.core.twin.switch = some x → x.mine = false ∧ x.prepared = false → x.b ≤
      s.core.time.n + 12 * s.core.blk → s.core.clk.mediaOn = true → Completes .switchoverPrepare s fun t => t.core.twin.switch =
      some { x with prepared := true } ∧ t.core.power.engineStop = false) ∧
  (∀ (s : State) (x : SwitchRun), s.quiet = true → s.core.twin.switch = some x → x.mine = true ∧ x.past = false → x.b ≤
      s.core.time.n → s.core.clk.mediaOn = true → Completes .switchover s fun t => t.core.twin.switch = some
      { x with past := true } ∧ t.core.twinState = 3 ∧ t.core.flag F.TWIN_STATUS_READY = false ∧ t.core.get (R.NET_IP_ALIAS 0) = 0
      ∧ t.core.get (R.NET_IP_ALIAS 1) = 0 ∧ t.core.get (R.NET_IP_ALIAS 3) = 0 ∧ t.core.twin.replies = []) ∧
  (∀ (s : State) (x : SwitchRun), s.quiet = true → s.core.twin.switch = some x → x.mine = false ∧ x.past = false → x.b ≤
      s.core.time.n → s.core.clk.mediaOn = true → Completes .switchover s fun t => t.core.twin.switch = some
      { x with past := true } ∧ t.core.twinState = 2 ∧ t.core.get R.TWIN_EPOCH = s.core.get R.TWIN_EPOCH + 1 ∧ t.core.clk.gate =
      .fadeIn x.b x.g ∧ t.core.get (R.NET_IP_ALIAS 0) = s.core.get R.TWIN_ALIAS0) ∧
  (∀ (s : State) (x : SwitchRun), s.quiet = true → s.core.twin.switch = some x → x.past = true → x.b + x.g ≤ s.core.time.n →
      Completes .switchoverGlazeEnd s fun t => t.core.twin.switch = none ∧ t.core.flag F.TWIN_INT_STATUS_SWITCH_DONE = true ∧
      t.core.f F.TWIN_SWITCHOVER_COUNT_COUNT = min (s.core.f F.TWIN_SWITCHOVER_COUNT_COUNT + 1) 65535 ∧ (x.mine = true →
      t.core.power.engineStop = true ∧ t.core.f F.SYS_STATUS_STATE = 2)) ∧
  (∀ (s : State) (p : Packet), let c := s.core.offered opTwinStatus p; let r := reqOf opTwinStatus p; s.core.admits opTwinStatus p
      = true → s.quiet = true → Completes (.twinStatusGet p) s fun t => (t.core.answered p .ok ([R.TWIN_STATUS, R.TWIN_EPOCH,
      R.TWIN_LAST_SET_LO, R.TWIN_LAST_SET_HI, R.TWIN_SET_SIZE, R.TWIN_TAKEOVER_COUNT, R.TWIN_SWITCHOVER_COUNT, R.TWIN_SET_MISSING,
      R.TWIN_SET_BAD, R.TWIN_RESYNC_COUNT, R.TWIN_TETHER_LOST, R.TWIN_SETS].map fun x => (c.get x).toNat)) ∧ t.core.get
      R.TWIN_SET_BAD = 0 ∧ t.core.get R.TWIN_TETHER_LOST = 0 ∧ t.core.get R.TWIN_SETS = c.get R.TWIN_SETS) ∧
  (∀ (s : State) (p : Packet), let c := s.core.offered opTwinConfig p; let r := reqOf opTwinConfig p; s.core.admits opTwinConfig p
      = true → s.quiet = true → r.w 0 &&& 0x00FE00F8 = 0 ∧ r.w 1 &&& 0xFFFFFFE0 = 0 → (bitsOf (r.w 0) 16 8 ≤ 255 ∨ bitsOf (r.w 0)
      16 8 = 0x1FF) → bitOf (r.w 0) 0 = true → c.twinState = 0 → Completes (.twinConfig p) s fun t => t.core.answered p .ok [] ∧
      t.core.twinState = 1 ∧ t.core.get R.TWIN_CFG = r.w 0 ∧ t.core.get R.TWIN_TRIGGER = r.w 1 ∧ t.core.get R.TWIN_ALIAS3 = r.w 4 ∧
      t.core.f F.SYS_STATUS_STATE = 2 ∧ t.core.power.engineStop = true) ∧
  (∀ (s : State) (p : Packet) (g : Nat), let c := s.core.offered opTwinSwitchover p; let r := reqOf opTwinSwitchover p;
      s.core.admits opTwinSwitchover p = true → s.quiet = true → (g = if r.n 0 = 0 then c.glaze else r.n 0) → 16 ≤ g ∧ g ≤ 4096 ∧ g
      % 16 = 0 → c.twinState = 2 → c.partnerReady = true ∧ c.flag F.TWIN_STATUS_MEDIA_MATCH = true → c.now + max 256 (g + 32) ≤
      c.boundaryAt (c.now + max 256 (g + 32)) → Completes (.twinSwitchover p) s fun t => t.core.answered p .accepted [] ∧
      t.core.twinState = 5 ∧ t.core.twin.switch = some
      { b := c.boundaryAt (c.now + max 256 (g + 32)), g := g, mine := true, tok := some r.tok }) ∧
  (∀ (s : State) (p : Packet), let c := s.core.offered opTwinForce p; let r := reqOf opTwinForce p; s.core.admits opTwinForce p =
      true → s.quiet = true → (c.twinState = 1 ∨ c.twinState = 3 ∨ c.twinState = 6) → Completes (.twinForce p) s fun t =>
      t.core.answered p .ok [] ∧ t.core.twin.due = some c.nextB) ∧
  (∀ (s : State) (p : Packet), let c := s.core.offered opTwinLeave p; let r := reqOf opTwinLeave p; s.core.admits opTwinLeave p =
      true → s.quiet = true → Completes (.twinLeave p) s fun t => t.core.answered p .ok [] ∧ t.core.twinState = 0 ∧ t.core.flag
      F.TWIN_CFG_EN = false ∧ (c.twinState = 3 → t.core.flag F.SYS_STATUS_OUTPUT_HELD = true ∧ t.core.power.engineStop = false)) ∧
  (∀ (s : State) (p : Packet), let c := s.core.offered opTwinPersist p; let r := reqOf opTwinPersist p; s.core.admits opTwinPersist
      p = true → s.quiet = true → r.n 0 ≤ 15 → 1 ≤ r.n 3 ∧ r.n 2 + r.n 3 ≤ 32768 → c.brush.custom.contains (r.n 1) = true → (4 *
      ((c.twin.persist.filter fun x => decide (x.1 ≠ r.n 0)).foldl (fun a x => a + x.2.elim 0 (fun y => y.2.2)) 0 + r.n 3) ≤
      c.setLimit / 2) → Completes (.twinPersistDeclare p) s fun t => t.core.answered p .ok [] ∧ smGet (fun _ => none)
      t.core.twin.persist (r.n 0) = some (r.n 1, r.n 2, r.n 3)) ∧
  (∀ (s : State) (p : Packet), let c := s.core.offered opTwinResync p; let r := reqOf opTwinResync p; s.core.admits opTwinResync p
      = true → s.quiet = true → (c.twinState = 3 ∨ c.twinState = 6) → c.twin.tok = none → Completes (.twinResync p) s fun t =>
      t.core.answered p .accepted [] ∧ t.core.twin.resync = true ∧ t.core.twin.tok = some r.tok)

/-- UPDATE_STATUS_GET and UPDATE_PEER_STATUS_GET return what R512 says; UPDATE_BEGIN of an image that is not the winner opens a
free slot, UPDATE_DATA appends to it at its offset, and UPDATE_END completes it for verification; UPDATE_DISCARD frees a slot in
reception and ends the session of a winner; UPDATE_PEERS_SET, while no peer is receiving, sets the chain; UPDATE_ACTIVATE of a
named image from 10 s to 24 h ahead schedules it and UPDATE_CANCEL undoes it until 1 s before; UPDATE_SVN_RAISE raises the
lowest SVN, never above that of the active image. -/
def Obligations.UpdateOpcodesComplete : Prop :=
  (∀ (s : State) (p : Packet), let c := s.core.offered opUpdateStatus p; let r := reqOf opUpdateStatus p; s.core.admits
      opUpdateStatus p = true → s.quiet = true → Completes (.updateStatusGet p) s fun t => (t.core.answered p .ok
      (([R.UPDATE_STATUS, R.UPDATE_SLOT_STATE 0, R.UPDATE_SLOT_RECEIVED 0, R.UPDATE_SLOT_LENGTH 0, R.UPDATE_SLOT_PREFIX_LO 0,
      R.UPDATE_SLOT_PREFIX_HI 0, R.UPDATE_SLOT_STATE 1, R.UPDATE_SLOT_RECEIVED 1, R.UPDATE_SLOT_LENGTH 1, R.UPDATE_SLOT_PREFIX_LO
      1, R.UPDATE_SLOT_PREFIX_HI 1] ++ (List.range 8).map R.UPDATE_DIGEST ++ [R.UPDATE_ACTIVE_VERSION, R.UPDATE_PREV_VERSION,
      R.UPDATE_SVN, R.UPDATE_PEER_STATE]).map fun x => (c.get x).toNat))) ∧
  (∀ (s : State) (p : Packet) (k : Nat), let c := s.core.offered opUpdateBegin p; let r := reqOf opUpdateBegin p; s.core.admits
      opUpdateBegin p = true → s.quiet = true → imageLength (r.n 0) = true → c.update.winner = none → c.flag F.SYS_STATUS_VIN_WARN
      = false → (List.range 2).any (fun i => decide ((c.upSlot i).state = 1) && decide ((c.upSlot i).session = some
      p.session.toNat)) = false → c.newUpSlot = some k → Completes (.updateBegin p) s fun t => t.core.answered p .ok [k] ∧
      t.core.upSlot k =
      { state := 1, length := r.n 0, digest := (r.bytes.drop 4).take 32, session := some p.session.toNat, at_ := c.time.cycles } ∧
      t.core.f (F.UPDATE_SLOT_STATE_STATE k) = 1 ∧ t.core.f (F.UPDATE_SLOT_LENGTH_BYTES k) = r.n 0) ∧
  (∀ (s : State) (p : Packet) (k : Nat), let c := s.core.offered opUpdateData p; let r := reqOf opUpdateData p; s.core.admits
      opUpdateData p = true → s.quiet = true → c.openSlot p.session.toNat = some k → r.n 0 = (c.upSlot k).data.length → (c.upSlot
      k).data.length + (r.bytes.drop 4).length ≤ (c.upSlot k).length → Completes (.updateData p) s fun t => t.core.answered p .ok
      [] ∧ (t.core.upSlot k).data = (c.upSlot k).data ++ r.bytes.drop 4 ∧ (t.core.upSlot k).state = 1 ∧ (t.core.upSlot k).at_ =
      c.time.cycles) ∧
  (∀ (s : State) (p : Packet) (k : Nat), let c := s.core.offered opUpdateEnd p; let r := reqOf opUpdateEnd p; s.core.admits
      opUpdateEnd p = true → s.quiet = true → c.openSlot p.session.toNat = some k → Completes (.updateEnd p) s fun t =>
      t.core.answered p .accepted [] ∧ t.core.upSlot k =
      { c.upSlot k with state := 2, tok := some r.tok, order := c.update.order + 1 }) ∧
  (∀ (s : State) (p : Packet), let c := s.core.offered opUpdateDiscard p; let r := reqOf opUpdateDiscard p; s.core.admits
      opUpdateDiscard p = true → s.quiet = true → r.n 0 ≤ 1 → c.update.sched = none → ((c.update.winner.map fun w => w.1) ≠ some
      (r.n 0)) → ((c.upSlot (r.n 0)).state = 1 ∨ (c.upSlot (r.n 0)).state = 2) → Completes (.updateDiscard p) s fun t =>
      t.core.answered p .ok [] ∧ t.core.upSlot (r.n 0) = {} ∧ t.core.f (F.UPDATE_SLOT_STATE_STATE (r.n 0)) = 0) ∧
  (∀ (s : State) (p : Packet), let c := s.core.offered opUpdateDiscard p; let r := reqOf opUpdateDiscard p; s.core.admits
      opUpdateDiscard p = true → s.quiet = true → r.n 0 = 2 → c.update.sched = none → Completes (.updateDiscard p) s fun t =>
      t.core.answered p .ok [] ∧ t.core.update.winner = none ∧ t.core.update.peers = [] ∧ t.core.peerState 0 = 0 ∧ t.core.peerState
      3 = 0) ∧
  (∀ (s : State) (p : Packet), let c := s.core.offered opUpdatePeers p; let r := reqOf opUpdatePeers p; s.core.admits opUpdatePeers
      p = true → s.quiet = true → r.n 2 ≤ 4 ∧ r.bytes.length = 12 + 4 * r.n 2 → r.w 0 &&& 0xFFFF000E = 0 → 1 ≤ bitsOf (r.w 0) 15 4
      ∧ bitsOf (r.w 0) 15 4 ≤ 400 → (List.range 4).all (fun i => decide (c.peerState i ≠ 1)) = true → Completes (.updatePeersSet p)
      s fun t => t.core.answered p .ok [] ∧ t.core.get R.UPDATE_CFG = r.w 0 ∧ t.core.get R.UPDATE_UPSTREAM = r.w 1 ∧ (∀ i : Nat, i
      < 4 → t.core.get (R.UPDATE_PEER i) = if i < r.n 2 then r.w (3 + i) else 0)) ∧
  (∀ (s : State) (p : Packet) (d : List Byte) (u : Nat) (x : Image × Bool), let c := s.core.offered opUpdateActivate p;
      let r := reqOf opUpdateActivate p; s.core.admits opUpdateActivate p = true → s.quiet = true → r.w 11 &&& 0xFFFFFFFE = 0 → r.n
      10 < 10 ^ 9 ∧ r.n 9 < 65536 → d = r.bytes.take 32 → u = (r.n 8 + 2 ^ 32 * r.n 9) * 10 ^ 9 + r.n 10 → c.imageNamed d = some x
      → c.ptpNs + 10 * 10 ^ 9 ≤ u ∧ u ≤ c.ptpNs + 86400 * 10 ^ 9 → c.update.sched = none → Completes (.updateActivate p) s fun t =>
      t.core.answered p .accepted [] ∧ t.core.update.sched = some { image := x.1, back := x.2, t := some u, tok := some r.tok } ∧
      t.core.f F.UPDATE_STATUS_STATE = 4 ∧ t.core.flag F.UPDATE_INT_STATUS_SCHEDULED = true ∧ t.core.get64 R.UPDATE_ACT_SEC_LO
      R.UPDATE_ACT_SEC_HI = u / 10 ^ 9 ∧ t.core.get R.UPDATE_ACT_NS = .ofNat 32 (u % 10 ^ 9)) ∧
  (∀ (s : State) (p : Packet), let c := s.core.offered opUpdateCancel p; let r := reqOf opUpdateCancel p; s.core.admits
      opUpdateCancel p = true → s.quiet = true → r.w 0 &&& 0xFFFFFFFE = 0 → c.update.sched.isSome = true → c.actSoon = false →
      Completes (.updateCancel p) s fun t => t.core.answered p .ok [] ∧ t.core.update.sched = none ∧ t.core.update.winner =
      c.update.winner) ∧
  (∀ (s : State) (p : Packet), let c := s.core.offered opUpdatePeerStatus p; let r := reqOf opUpdatePeerStatus p; s.core.admits
      opUpdatePeerStatus p = true → s.quiet = true → Completes (.updatePeerStatusGet p) s fun t => (t.core.answered p .ok
      ((List.range 4).flatMap fun n => [c.peerIp n, c.peerState n, (c.peer n).cause, (c.peer n).acked, (c.peer n).version]))) ∧
  (∀ (s : State) (p : Packet), let c := s.core.offered opUpdateSvnRaise p; let r := reqOf opUpdateSvnRaise p; s.core.admits
      opUpdateSvnRaise p = true → s.quiet = true → r.n 0 ≤ c.f F.UPDATE_SVN_ACTIVE ∧ c.f F.UPDATE_SVN_MIN ≤ r.n 0 → Completes
      (.updateSvnRaise p) s fun t => t.core.answered p .ok [] ∧ t.core.f F.UPDATE_SVN_MIN = r.n 0 ∧ t.core.f F.UPDATE_SVN_ACTIVE =
      c.f F.UPDATE_SVN_ACTIVE)

/-- An OFFER of the upstream opens a slot and is acknowledged, DATA in order is stored and acknowledged, and a datagram of
another source is counted; an ACK moves a peer on and the last byte makes it SENT; REFUSE, VERIFIED and RESULT show in its
state, as does silence for 10 s, and it is offered the image again after 60 s; a stall sends again from the last ACK; a
verification by R499 makes its image the winner or frees the slot with its CAUSE; a reception without data for 60 s ends; an
activation is checked 1 s before T, restarts the control plane at T, and falls back when that has not ended by T + 1.5 s. -/
def Obligations.UpdateChainCompletes : Prop :=
  (∀ (s : State) (f : UpFrame) (k : Nat), s.quiet = true → f.magic = 0x5543 ∧ f.version = 1 → s.core.easelRuns = true → f.src ≠ 0 ∧
      f.src = (s.core.get R.UPDATE_UPSTREAM).toNat → s.core.update.winner = none → imageLength (itemNat f.data 0 4) = true ∧
      f.data.length = 36 → s.core.flag F.SYS_STATUS_VIN_WARN = false → (List.range 2).all (fun i => decide ((s.core.upSlot i).state
      = 0)) = true → s.core.newUpSlot = some k → Completes (.updateOfferReceive f) s fun t => t.core.upSlot k =
      { state := 1, length := itemNat f.data 0 4, digest := (f.data.drop 4).take 32, xfer := f.xfer, at_ := s.core.time.cycles } ∧
      t.core.flag (F.UPDATE_SLOT_STATE_SOURCE k) = true) ∧
  (∀ (s : State) (f : UpFrame), s.quiet = true → f.magic = 0x5543 ∧ f.version = 1 → s.core.easelRuns = true → f.src ≠ (s.core.get
      R.UPDATE_UPSTREAM).toNat → Completes (.updateOfferReceive f) s fun t => t.core.update = s.core.update ∧ t.core.f
      F.UPDATE_BAD_SOURCE_COUNT = min (s.core.f F.UPDATE_BAD_SOURCE_COUNT + 1) 65535) ∧
  (∀ (s : State) (f : UpFrame) (k : Nat), s.quiet = true → f.magic = 0x5543 ∧ f.version = 1 → s.core.easelRuns = true → f.src ≠ 0 ∧
      f.src = (s.core.get R.UPDATE_UPSTREAM).toNat → (List.range 2).find? (fun i => decide ((s.core.upSlot i).state = 1) &&
      (s.core.upSlot i).session.isNone && decide ((s.core.upSlot i).xfer = f.xfer) && decide ((s.core.upSlot i).digest.take 8 =
      f.digest)) = some k → f.offset = (s.core.upSlot k).data.length ∧ f.data.length ≤ 1408 → (s.core.upSlot k).data.length +
      f.data.length ≤ (s.core.upSlot k).length → Completes (.updateDataReceive f) s fun t => (t.core.upSlot k).data =
      (s.core.upSlot k).data ++ f.data ∧ ((t.core.upSlot k).state = if (s.core.upSlot k).data.length + f.data.length =
      (s.core.upSlot k).length then 2 else 1)) ∧
  (∀ (s : State) (f : UpFrame) (n : Nat) (w : Nat × Image), s.quiet = true → f.magic = 0x5543 ∧ f.version = 1 ∧ f.src ≠ 0 →
      (List.range 4).find? (fun i => decide (s.core.peerIp i = f.src) && (s.core.peer i).offered && decide ((s.core.peer i).xfer =
      f.xfer)) = some n → s.core.update.winner = some w → (s.core.peerState n ≤ 1 ∨ s.core.peerState n = 6) → (s.core.peer n).acked
      ≤ f.offset ∧ f.offset ≤ w.2.data.length → Completes (.updateAckReceive f) s fun t => (t.core.peer n).acked = f.offset ∧
      (t.core.peerState n = if f.offset = w.2.data.length then 2 else 1) ∧ (t.core.peer n).lastAck = s.core.time.cycles) ∧
  (∀ (s : State) (f : UpFrame) (n : Nat), s.quiet = true → f.magic = 0x5543 ∧ f.version = 1 ∧ f.src ≠ 0 → (List.range 4).find? (fun
      i => decide (s.core.peerIp i = f.src) && (s.core.peer i).offered && decide ((s.core.peer i).xfer = f.xfer)) = some n →
      Completes (.updateRefuseReceive f) s fun t => t.core.peerState n = 4 ∧ ((t.core.peer n).waitAt = if f.status = statusCode
      .busy then some s.core.time.cycles else none)) ∧
  (∀ (s : State) (f : UpFrame) (n : Nat), s.quiet = true → f.magic = 0x5543 ∧ f.version = 1 ∧ f.src ≠ 0 → (List.range 4).find? (fun
      i => decide (s.core.peerIp i = f.src) && (s.core.peer i).offered && decide ((s.core.peer i).xfer = f.xfer)) = some n →
      Completes (.updateVerifiedReceive f) s fun t => t.core.peerState n = 3 ∧ (4 ≤ f.data.length → (t.core.peer n).version = leNat
      (f.data.take 4))) ∧
  (∀ (s : State) (f : UpFrame) (n : Nat), s.quiet = true → f.magic = 0x5543 ∧ f.version = 1 ∧ f.src ≠ 0 → (List.range 4).find? (fun
      i => decide (s.core.peerIp i = f.src) && (s.core.peer i).offered && decide ((s.core.peer i).xfer = f.xfer)) = some n →
      f.status = statusCode .verifyFailed → (s.core.peerState n = 1 ∨ s.core.peerState n = 2) → Completes (.updateResultReceive f)
      s fun t => t.core.peerState n = 5 ∧ (t.core.peer n).cause = f.offset % 16) ∧
  (∀ (s : State) (f : UpFrame) (n : Nat), s.quiet = true → f.magic = 0x5543 ∧ f.version = 1 ∧ f.src ≠ 0 → (List.range 4).find? (fun
      i => decide (s.core.peerIp i = f.src) && (s.core.peer i).offered && decide ((s.core.peer i).xfer = f.xfer)) = some n →
      s.core.peerState n = 3 ∧ s.core.update.sched.isSome = true → Completes (.updateResultReceive f) s fun t => (t.core.peerState
      n = if f.status = 0 then 7 else 8)) ∧
  (∀ (s : State) (f : UpFrame) (x : Image × Bool) (u : Nat), s.quiet = true → f.magic = 0x5543 ∧ f.version = 1 → s.core.easelRuns =
      true → f.src ≠ 0 ∧ f.src = (s.core.get R.UPDATE_UPSTREAM).toNat → f.data.length = 42 → u = itemNat f.data 32 6 * 10 ^ 9 +
      itemNat f.data 38 4 → s.core.imageNamed (f.data.take 32) = some x → s.core.ptpNs + 10 * 10 ^ 9 ≤ u ∧ u ≤ s.core.ptpNs + 86400
      * 10 ^ 9 → s.core.update.sched = none → Completes (.updateActivateReceive f) s fun t => t.core.update.sched = some
      { image := x.1, back := x.2, t := some u } ∧ t.core.flag F.UPDATE_INT_STATUS_SCHEDULED = true) ∧
  (∀ (s : State) (f : UpFrame) (x : UpSched), s.quiet = true → f.magic = 0x5543 ∧ f.version = 1 → s.core.easelRuns = true → f.src ≠
      0 ∧ f.src = (s.core.get R.UPDATE_UPSTREAM).toNat → s.core.update.sched = some x ∧ x.image.digest = f.data.take 32 →
      s.core.actSoon = false → Completes (.updateCancelReceive f) s fun t => t.core.update.sched = none) ∧
  (∀ (s : State) (n : Nat), s.quiet = true → n ≤ 3 → s.core.peerState n = 1 → (s.core.peer n).advance + 12500000 ≤
      s.core.time.cycles → Completes (.ackStallRetransmit n) s fun t => (t.core.peer n).acked = (s.core.peer n).acked ∧ t.core.get
      R.UPDATE_RETRANSMIT = s.core.get R.UPDATE_RETRANSMIT + 1 ∧ (t.core.peer n).advance = s.core.time.cycles) ∧
  (∀ (s : State) (n : Nat), s.quiet = true → n ≤ 3 → s.core.peerState n ≤ 1 ∧ (s.core.peer n).offered = true → (s.core.peer
      n).lastAck + 2500000000 ≤ s.core.time.cycles → Completes (.peerUnreachable n) s fun t => t.core.peerState n = 6 ∧
      (t.core.peer n).waitAt = some s.core.time.cycles) ∧
  (∀ (s : State) (n x : Nat), s.quiet = true → n ≤ 3 → (s.core.peer n).waitAt = some x → x + 15000000000 ≤ s.core.time.cycles →
      s.core.flag F.UPDATE_CFG_FWD_EN = true → s.core.update.winner.isSome = true ∧ s.core.peerIp n ≠ 0 → Completes (.peerReoffer
      n) s fun t => t.core.peer n =
      { xfer := s.core.update.xfer + 1, offered := true, lastAck := s.core.time.cycles, advance := s.core.time.cycles } ∧
      t.core.update.xfer = s.core.update.xfer + 1) ∧
  (∀ (s : State) (env : ImageEnv) (k : Nat), s.quiet = true → s.core.verifying = some k → s.core.imageCause (s.core.upSlot k).data
      (s.core.upSlot k).digest env = 0 → Completes (.imageVerifyDone env) s fun t => t.core.update.winner = some (k, imageOf
      (s.core.upSlot k).data (s.core.upSlot k).digest) ∧ (t.core.upSlot k).state = 3 ∧ t.core.flag F.UPDATE_INT_STATUS_VERIFIED =
      true ∧ ((s.core.upSlot (1 - k)).state = 1 ∨ (s.core.upSlot (1 - k)).state = 2 → (t.core.upSlot (1 - k)).state = 0 ∧
      t.core.flag F.UPDATE_INT_STATUS_CONFLICT = true)) ∧
  (∀ (s : State) (env : ImageEnv) (k x : Nat), s.quiet = true → s.core.verifying = some k → s.core.imageCause (s.core.upSlot
      k).data (s.core.upSlot k).digest env = x → x ≠ 0 → Completes (.imageVerifyDone env) s fun t => t.core.upSlot k = {} ∧
      t.core.f (F.UPDATE_SLOT_STATE_CAUSE k) = x ∧ t.core.update.winner = s.core.update.winner ∧ t.core.f
      F.UPDATE_VERIFY_FAILED_COUNT = min (s.core.f F.UPDATE_VERIFY_FAILED_COUNT + 1) 65535 ∧ t.core.flag
      F.UPDATE_INT_STATUS_VERIFY_FAILED = true) ∧
  (∀ (s : State) (k n : Nat), s.quiet = true → k ≤ 1 → (s.core.upSlot k).state = 1 ∧ (s.core.upSlot k).session = some n →
      (s.core.upSlot k).at_ + 15000000000 ≤ s.core.time.cycles → Completes (.updateReceptionTimeout k) s fun t => t.core.upSlot k =
      {} ∧ t.core.f (F.UPDATE_SLOT_STATE_STATE k) = 0) ∧
  (∀ (s : State) (env : ImageEnv) (x : UpSched) (u cause : Nat), s.quiet = true → s.core.update.sched = some x → x.checked = false
      → x.t = some u ∧ u ≤ s.core.ptpNs + 10 ^ 9 → s.core.imageCause x.image.data x.image.digest env = cause → Completes
      (.activationPrecheck env) s fun t => (cause = 0 → t.core.update.sched = some { x with checked := true }) ∧ (cause ≠ 0 →
      t.core.update.sched = none ∧ t.core.f F.UPDATE_STATUS_ACT_CAUSE = cause ∧ t.core.flag F.UPDATE_INT_STATUS_ACT_FAILED = true))
      ∧
  (∀ (s : State) (x : UpSched) (u : Nat), s.quiet = true → s.core.update.sched = some x → x.checked = true ∧ x.running = false →
      x.t = some u ∧ u ≤ s.core.ptpNs → s.core.flag F.SYS_STATUS_VIN_WARN = false ∧ s.core.flag F.SYS_STATUS_RECOVERY = false →
      s.core.flag F.HOST_STATUS_RESTARTING = false → Completes .activation s fun t => t.core.flag F.HOST_STATUS_RESTARTING = true ∧
      t.core.update.sched = some { x with running := true } ∧ t.core.update.active = some x.image) ∧
  (∀ (s : State) (x : UpSched) (u : Nat), s.quiet = true → s.core.update.sched = some x → x.checked = true ∧ x.running = false →
      x.t = some u ∧ u ≤ s.core.ptpNs → s.core.flag F.SYS_STATUS_VIN_WARN = true → Completes .activation s fun t =>
      t.core.update.sched = none ∧ t.core.f F.UPDATE_STATUS_ACT_CAUSE = 9 ∧ t.core.flag F.UPDATE_INT_STATUS_ACT_FAILED = true ∧
      t.core.update.active = s.core.update.active) ∧
  (∀ (s : State) (x : UpSched) (u : Nat), s.quiet = true → s.core.update.sched = some x → x.running = true → x.t = some u ∧ u +
      1500000000 ≤ s.core.ptpNs → s.core.flag F.HOST_STATUS_RESTARTING = true → Completes .activationFallback s fun t =>
      t.core.update.sched = none ∧ t.core.update.active = s.core.update.prev.map (·.2) ∧ t.core.f F.UPDATE_STATUS_ACT_CAUSE = 11 ∧
      t.core.flag F.UPDATE_STATUS_FALLBACK = true ∧ t.core.f F.UPDATE_FALLBACK_COUNT = min (s.core.f F.UPDATE_FALLBACK_COUNT + 1)
      65535)

/-- A lane found different by a patrol has its RE8 lane standing in for it and starts its known-answer runs; a render patrol and
a Brush patrol start when INTERVAL blocks have passed and their spare is free; a suspect near row gets the lowest free spare
row, and once 3 blocks have followed the copy, reads move to it and its uncorrectable words are gone; the margins of a receive
lane are stored and judged, a lane without link reads 0; a function that has stalled is reset where its bit says so and is
suspect otherwise; gathered ledger records are written to flash in order. -/
def Obligations.SparesComplete : Prop :=
  (∀ (s : State) (p : Patrol) (l m : Nat), s.quiet = true → s.core.health.patrols = [p] → p.back = false ∧ p.lanes = [l] ∧ p.spares
      = [m] ∧ p.differ = [l] → l < 32 ∧ m < 4 → s.core.recent 1 l = false → Completes .renderSpareSwap s fun t => t.core.flag
      (F.RENDER_LANE_SPARE_VALID m) = true ∧ t.core.f (F.RENDER_LANE_SPARE_LANE m) = l ∧ t.core.health.patrols = [] ∧
      t.core.health.qualify = s.core.health.qualify ++ [{ res := 1, unit := l, tok := p.tok }] ∧ (t.core.unit 1 l).state = 3 ∧
      t.core.f F.HEALTH_SWAPS_COUNT = min (s.core.f F.HEALTH_SWAPS_COUNT + 1) 65535 ∧ t.core.flag F.HEALTH_INT_STATUS_SWAP = true)
      ∧
  (∀ (s : State) (num e : Nat), s.quiet = true → num = 0 → s.core.flag F.HEALTH_CTRL_PATROL_EN = true ∧ s.core.patrolEvery ≤
      s.core.waited 0 → s.core.clk.mediaOn = true ∧ s.core.health.patrols = [] ∧ s.core.re8Free = [0, 1, 2, 3] → ((((List.range
      8).map fun i : Nat => (s.core.nextOf 0 + i) % 8).find? fun e : Nat => s.core.engineState e = 0) = some e) → Completes
      (.patrolStart num) s fun t => t.core.health.patrols =
      [{ lanes := [4 * e, 4 * e + 1, 4 * e + 2, 4 * e + 3], spares := [0, 1, 2, 3], at_ := s.core.time.n }] ∧ t.core.waited 0 = 0 ∧
      t.core.nextOf 0 = (e + 1) % 8 ∧ t.core.flag F.HEALTH_STATUS_PATROL_ON = true ∧ t.core.f F.HEALTH_STATUS_RE8_FREE = 0) ∧
  (∀ (s : State) (num l k : Nat), s.quiet = true → 1 ≤ num ∧ num ≤ 4 → s.core.flag F.HEALTH_CTRL_PATROL_EN = true ∧
      s.core.patrolEvery ≤ s.core.waited num → s.core.clk.mediaOn = true ∧ s.core.migOf (num - 1) = none ∧ s.core.spareOf (num - 1)
      = some k → ((((List.range 16).map fun i : Nat => 16 * (num - 1) + (s.core.nextOf num + i) % 16).filter fun x : Nat =>
      !s.core.health.nondet.contains x && decide (s.core.bcState (s.core.phys x) ≠ 7) && decide (s.core.bcState (s.core.phys x) ≠
      0)).head? = some l) → groupOfCore (s.core.phys l) = num - 1 → Completes (.patrolStart num) s fun t => (t.core.migOf (num -
      1)).map (fun m => (m.unit, m.spare, m.patrol, m.at_)) = some (s.core.phys l, k, true, s.core.time.n) ∧ t.core.waited num = 0
      ∧ t.core.nextOf num = (l % 16 + 1) % 16 ∧ t.core.flag F.HEALTH_STATUS_PATROL_ON = true) ∧
  (∀ (s : State) (bank row k : Nat), s.quiet = true → s.core.health.suspects.contains (4 * 2 ^ 32 + bank * 1024 + row) = true →
      (s.core.rowsUsed bank).length < 8 → (s.core.rowsUsed bank).any (fun x => decide (x.row = row)) = false → (((List.range
      8).find? fun i : Nat => !(s.core.rowsUsed bank).any fun x => decide (x.spare = i)) = some k) → Completes (.nearRowSpare bank
      row) s fun t => t.core.health.nearRows = s.core.health.nearRows ++
      [{ bank := bank, row := row, spare := k, at_ := s.core.time.n }] ∧ t.core.ren.near = s.core.ren.near) ∧
  (∀ (s : State) (bank row : Nat) (x : NearSpare), s.quiet = true → s.core.health.nearRows = [x] → x.bank = bank ∧ x.row = row ∧
      x.active = false → x.at_ + 4 * s.core.blk ≤ s.core.time.n → Completes (.nearRowSwitch bank row) s fun t =>
      t.core.health.nearRows = [{ x with active := true }] ∧ (∀ i : Nat, i < 256 → smGet (fun _ => 0) t.core.ren.nearFault (bank +
      64 * (row * 256 + i)) = 0) ∧ (∀ i : Nat, i < 256 → smGet (fun _ => 0) s.core.ren.nearFault (bank + 64 * (row * 256 + i)) ≠ 2
      → smGet (fun _ => 0) t.core.ren.near (bank + 64 * (row * 256 + i)) = smGet (fun _ => 0) s.core.ren.near (bank + 64 * (row *
      256 + i))) ∧ t.core.f F.HEALTH_SWAPS_COUNT = min (s.core.f F.HEALTH_SWAPS_COUNT + 1) 65535) ∧
  (∀ (s : State) (j h v : Nat), s.quiet = true → j ≤ 7 ∧ h ≤ 127 ∧ v ≤ 127 → s.core.laneUp j = true → Completes (.eyeMarginMeasure
      j h v) s fun t => t.core.f (F.HEALTH_MARGIN_H j) = h ∧ t.core.f (F.HEALTH_MARGIN_V j) = v ∧ t.core.f (F.HEALTH_MARGIN_H_MIN
      j) = min h (s.core.f (F.HEALTH_MARGIN_H_MIN j)) ∧ t.core.flag (F.HEALTH_MARGIN_LOW j) = decide (h < s.core.threshold
      F.HEALTH_THRESH_MARGIN_MIN) ∧ (h < s.core.threshold F.HEALTH_THRESH_MARGIN_MIN → t.core.flag F.HEALTH_INT_STATUS_MARGIN_LOW =
      true)) ∧
  (∀ (s : State) (j h v : Nat), s.quiet = true → j ≤ 7 → s.core.laneUp j = false → Completes (.eyeMarginMeasure j h v) s fun t =>
      t.core.f (F.HEALTH_MARGIN_H j) = 0 ∧ t.core.f (F.HEALTH_MARGIN_V j) = 0 ∧ t.core.flag (F.HEALTH_MARGIN_LOW j) = false ∧
      t.core.health = s.core.health) ∧
  (∀ (s : State) (code : Nat), s.quiet = true → (code ≤ 10 ∨ (20 ≤ code ∧ code ≤ 28)) → bitOf (s.core.get R.HEALTH_AUTO_RESET) code
      = false → Completes (.functionStall code) s fun t => (t.core.unit 8 code).state = (if (s.core.unit 8 code).state = 4 then 4
      else 2) ∧ t.core.flag F.HEALTH_INT_STATUS_SUSPECT = true ∧ t.core.f F.HEALTH_SUSPECT_COUNT = min (s.core.f
      F.HEALTH_SUSPECT_COUNT + 1) 65535 ∧ t.core.f F.HEALTH_AUTO_RESETS_COUNT = s.core.f F.HEALTH_AUTO_RESETS_COUNT) ∧
  (∀ (s : State) (code : Nat), s.quiet = true → (code ≤ 10 ∨ (20 ≤ code ∧ code ≤ 28)) → bitOf (s.core.get R.HEALTH_AUTO_RESET) code
      = true → s.core.power.funcReset = none → s.core.flag F.HOST_STATUS_RESTARTING = false → Completes (.functionStall code) s fun
      t => t.core.flag F.HEALTH_INT_STATUS_AUTO_RESET = true ∧ t.core.f F.HEALTH_AUTO_RESETS_COUNT = min (s.core.f
      F.HEALTH_AUTO_RESETS_COUNT + 1) 65535 ∧ t.core.f F.HEALTH_SUSPECT_COUNT = s.core.f F.HEALTH_SUSPECT_COUNT) ∧
  (∀ (s : State), s.quiet = true → s.core.flag F.SYS_STATUS_VIN_WARN = false → s.core.flag F.FLASH_STATUS_WRITES_ALLOWED = true →
      s.core.health.held.isEmpty = false → s.core.ledgerNext + s.core.health.held.length < 2 ^ 64 → s.core.health.held.length ≤
      1024 → Completes .patinaLedgerFlush s fun t => t.core.health.held = [] ∧ t.core.flag F.HEALTH_STATUS_LEDGER_HELD = false ∧
      t.core.ledgerNext = s.core.ledgerNext + s.core.health.held.length ∧ (∀ i : Nat, i < s.core.health.held.length → smGet (fun _
      => none) t.core.health.ledger (s.core.ledgerNext + i) = s.core.health.held[i]?))

/-- HEALTH_STATUS_GET returns the registers and counters of R534 and clears the class S counters; HEALTH_CONFIG stores what it
is given where no reserved bit is set and INTERVAL and QUALIFY are in their ranges; PATINA_READ and PATINA_INFO return records
and the indices the ring holds; UNIT_GET tells of units; SPARE_SWAP of a lane in service is accepted, and the lane is handled as
after a difference. -/
def Obligations.HealthOpcodesComplete : Prop :=
  (∀ (s : State) (p : Packet), let c := s.core.offered opHealthStatus p; let r := reqOf opHealthStatus p; s.core.admits
      opHealthStatus p = true → s.quiet = true → Completes (.healthStatusGet p) s fun t => (t.core.answered p .ok
      ([R.HEALTH_STATUS, R.HEALTH_CAPACITY, R.RENDER_ENGINE_MAP, R.RENDER_LANE_SPARE, R.RENDER_LANE_RETIRED,
      R.RENDER_LANE_RETIRED8, R.HEALTH_SUSPECT, R.HEALTH_SWAPS, R.HEALTH_RETIRED, R.HEALTH_SELFTEST_FAIL, R.HEALTH_AUTO_RESETS,
      R.HEALTH_LEDGER_DROP, R.HEALTH_PATROLS, R.HEALTH_SELFTEST_RUNS].map fun x => (c.get x).toNat)) ∧ t.core.get R.HEALTH_SUSPECT
      = 0 ∧ t.core.get R.HEALTH_SWAPS = 0 ∧ t.core.get R.HEALTH_RETIRED = 0 ∧ t.core.get R.HEALTH_SELFTEST_FAIL = 0 ∧ t.core.get
      R.HEALTH_AUTO_RESETS = 0 ∧ t.core.get R.HEALTH_LEDGER_DROP = 0 ∧ t.core.get R.HEALTH_PATROLS = c.get R.HEALTH_PATROLS) ∧
  (∀ (s : State) (p : Packet), let c := s.core.offered opHealthConfig p; let r := reqOf opHealthConfig p; s.core.admits
      opHealthConfig p = true → s.quiet = true → r.w 0 &&& 0xFFFFFFFC = 0 ∧ r.w 1 &&& 0xE00FF800 = 0 ∧ r.w 2 &&& 0xFF000000 = 0 →
      16 ≤ bitsOf (r.w 2) 15 0 ∧ bitsOf (r.w 2) 23 16 ≠ 0 → Completes (.healthConfig p) s fun t => t.core.answered p .ok [] ∧
      t.core.get R.HEALTH_CTRL = r.w 0 ∧ t.core.get R.HEALTH_AUTO_RESET = r.w 1 ∧ t.core.get R.HEALTH_PATROL = r.w 2 ∧ t.core.get
      R.HEALTH_THRESH = r.w 3) ∧
  (∀ (s : State) (p : Packet) (x : LedgerRec) (i : Nat), let c := s.core.offered opPatinaRead p; let r := reqOf opPatinaRead p;
      s.core.admits opPatinaRead p = true → s.quiet = true → i = r.n 0 + 2 ^ 32 * r.n 1 → r.n 2 = 1 → c.ledgerNext - 65536 ≤ i →
      smGet (fun _ => none) c.health.ledger i = some x → Completes (.patinaRead p) s fun t => t.core.told p = some (statusCode .ok,
      ledgerBytes i x)) ∧
  (∀ (s : State) (p : Packet), let c := s.core.offered opPatinaInfo p; let r := reqOf opPatinaInfo p; s.core.admits opPatinaInfo p
      = true → s.quiet = true → Completes (.patinaInfo p) s fun t => t.core.answered p .ok [(c.ledgerNext - 65536) % 2 ^ 32,
      (c.ledgerNext - 65536) / 2 ^ 32, c.ledgerNext % 2 ^ 32, c.ledgerNext / 2 ^ 32, (c.get R.HEALTH_LEDGER_DROP).toNat]) ∧
  (∀ (s : State) (p : Packet), let c := s.core.offered opUnitGet p; let r := reqOf opUnitGet p; s.core.admits opUnitGet p = true →
      s.quiet = true → 1 ≤ r.n 0 ∧ r.n 0 ≤ 8 → r.n 2 = 1 ∧ r.n 1 < unitCountOf (r.n 0) → Completes (.unitGet p) s fun t =>
      t.core.answered p .ok [c.unitState (r.n 0) (r.n 1), (c.unit (r.n 0) (r.n 1)).differ, (c.unit (r.n 0) (r.n 1)).corrected,
      (c.unit (r.n 0) (r.n 1)).selftest, (c.unit (r.n 0) (r.n 1)).retiredAt % 2 ^ 32, (c.unit (r.n 0) (r.n 1)).retiredAt / 2 ^ 32])
      ∧
  (∀ (s : State) (p : Packet) (m : Nat), let c := s.core.offered opSpareSwap p; let r := reqOf opSpareSwap p; s.core.admits
      opSpareSwap p = true → s.quiet = true → r.n 0 = 1 ∧ r.n 1 < 32 → c.laneRetired (r.n 1) = false ∧ c.stoodIn (r.n 1) = false →
      c.re8Free.head? = some m → Completes (.spareSwap p) s fun t => t.core.answered p .accepted [] ∧ t.core.health.patrols =
      c.health.patrols ++ [{ lanes := [r.n 1], spares := [m], at_ := c.time.n, differ := [r.n 1], tok := some r.tok }]) ∧
  (∀ (s : State) (p : Packet), let c := s.core.offered opSpareSwap p; let r := reqOf opSpareSwap p; s.core.admits opSpareSwap p =
      true → s.quiet = true → r.n 0 = 1 ∧ r.n 1 < 32 → c.laneRetired (r.n 1) = false ∧ c.stoodIn (r.n 1) = false → c.re8Free = [] →
      Completes (.spareSwap p) s fun t => t.core.answered p .noResource [] ∧ t.core.health = c.health)

/-- SMUDGE_CHALLENGE issues a value V, which the module keeps with the session; 10 s later V is void. SMUDGE_UNLOCK with the key
V XOR 0x534D5544 from the same session within 10 s enters maintenance mode for its duration, 600 s for 0; with a wrong key it is
refused and voids V, and in a barred twin state it is refused. In maintenance mode SMUDGE_SET has its class arm at the first
boundary at least 2 blocks later, and a write of SMUDGE_ARM does so for each bit that changes; outside it SMUDGE_SET is refused
and a write is ignored and raises REFUSED. GO with MON 0 trips the REF_IN monitor once while class 5 is armed and not otherwise.
SMUDGE_LOCK and the end of the duration disarm every class and end maintenance mode. That the reply of SMUDGE_SET is OK at once
is the model's choice. -/
def Obligations.SmudgeCompletes : Prop :=
  (∀ (s : State) (p : Packet), let c := s.core.offered opSmudgeChallenge p; let r := reqOf opSmudgeChallenge p; s.core.admits
      opSmudgeChallenge p = true → s.quiet = true → Completes (.smudgeChallenge p) s fun t => t.core.health.chal.map (fun x =>
      (x.1, x.2.2)) = some (p.session.toNat, c.time.cycles) ∧ (t.core.answered p .ok (t.core.health.chal.map fun x =>
      x.2.1.toNat).toList)) ∧
  (∀ (s : State) (x : Nat × Word × Nat), s.quiet = true → s.core.health.chal = some x → x.2.2 + 2500000000 ≤ s.core.time.cycles →
      Completes .smudgeChallengeExpire s fun t => t.core.health.chal = none) ∧
  (∀ (s : State) (x : Nat × Word × Nat), s.quiet = true → s.core.health.chal = some x → s.core.time.cycles < x.2.2 + 2500000000 →
      Completes .smudgeChallengeExpire s fun t => t.core.health.chal = some x) ∧
  (∀ (s : State) (p : Packet) (v : Word) (a : Nat), let c := s.core.offered opSmudgeUnlock p; let r := reqOf opSmudgeUnlock p;
      s.core.admits opSmudgeUnlock p = true → s.quiet = true → r.n 1 ≤ 3600 → (c.twinState = 0 ∨ c.twinState = 3 ∨ c.twinState = 6)
      → c.health.chal = some (p.session.toNat, v, a) → r.w 0 = v ^^^ 0x534D5544 ∧ c.time.cycles < a + 2500000000 → Completes
      (.smudgeUnlock p) s fun t => t.core.answered p .ok [] ∧ (t.core.health.maint = some (p.session.toNat, c.time.cycles +
      250000000 * if r.n 1 = 0 then 600 else r.n 1)) ∧ t.core.flag F.HEALTH_STATUS_MAINT = true ∧ t.core.flag F.SMUDGE_STATUS_MAINT
      = true ∧ (t.core.f F.SMUDGE_STATUS_REMAIN = if r.n 1 = 0 then 600 else r.n 1) ∧ t.core.health.chal = none) ∧
  (∀ (s : State) (p : Packet) (v : Word) (q a : Nat), let c := s.core.offered opSmudgeUnlock p; let r := reqOf opSmudgeUnlock p;
      s.core.admits opSmudgeUnlock p = true → s.quiet = true → r.n 1 ≤ 3600 → c.health.chal = some (q, v, a) → (q ≠ p.session.toNat
      ∨ r.w 0 ≠ v ^^^ 0x534D5544 ∨ a + 2500000000 ≤ c.time.cycles) → [1, 2, 4, 5].contains c.twinState = false → Completes
      (.smudgeUnlock p) s fun t => t.core.answered p .notPermitted [] ∧ t.core.health.chal = none ∧ t.core.health.maint =
      c.health.maint) ∧
  (∀ (s : State) (p : Packet), let c := s.core.offered opSmudgeUnlock p; let r := reqOf opSmudgeUnlock p; s.core.admits
      opSmudgeUnlock p = true → s.quiet = true → r.n 1 ≤ 3600 → [1, 2, 4, 5].contains c.twinState = true → Completes (.smudgeUnlock
      p) s fun t => t.core.answered p .notPermitted [] ∧ t.core.health = c.health) ∧
  (∀ (s : State) (p : Packet), let c := s.core.offered opSmudgeSet p; let r := reqOf opSmudgeSet p; s.core.admits opSmudgeSet p =
      true → s.quiet = true → r.n 0 ≤ 6 ∧ r.n 1 ≤ 1 → r.bytes.length = 8 + 4 * (smudgeRegs (r.n 0)).length → (((smudgeRegs (r.n
      0)).zipIdx.map fun x => (x.1, r.w (2 + x.2))).all (fun x => decide (x.2 &&& smudgeReserved x.1 = 0) && !smudgeRange x.1 x.2)
      = true) → c.health.maint.isSome = true → (c.twinState = 0 ∨ c.twinState = 3 ∨ c.twinState = 6) → Completes (.smudgeSet p) s
      fun t => t.core.answered p .ok [] ∧ (t.core.health.due = c.health.due ++
      [{ b := c.boundaryAt (c.now + 2 * c.blk), cls := r.n 0, on := decide (r.n 1 = 1), regs := (smudgeRegs (r.n 0)).zipIdx.map fun x => (x.1, r.w (2 + x.2)), tok := none }]))
      ∧
  (∀ (s : State) (p : Packet), let c := s.core.offered opSmudgeSet p; let r := reqOf opSmudgeSet p; s.core.admits opSmudgeSet p =
      true → s.quiet = true → r.n 0 ≤ 6 ∧ r.n 1 ≤ 1 → r.bytes.length = 8 + 4 * (smudgeRegs (r.n 0)).length → (((smudgeRegs (r.n
      0)).zipIdx.map fun x => (x.1, r.w (2 + x.2))).all (fun x => decide (x.2 &&& smudgeReserved x.1 = 0) && !smudgeRange x.1 x.2)
      = true) → c.health.maint = none → Completes (.smudgeSet p) s fun t => t.core.answered p .notPermitted [] ∧ t.core.health.due
      = c.health.due) ∧
  (∀ (s : State) (p : Packet), let c := s.core.offered opSmudgeLock p; let r := reqOf opSmudgeLock p; s.core.admits opSmudgeLock p
      = true → s.quiet = true → c.health.maint.isSome = true → Completes (.smudgeLock p) s fun t => t.core.answered p .ok [] ∧
      t.core.health.maint = none ∧ t.core.health.due = [] ∧ t.core.get R.SMUDGE_STATUS = 0 ∧ t.core.get R.SMUDGE_ARM = 0 ∧
      t.core.flag F.HEALTH_STATUS_MAINT = false ∧ t.core.flag F.HEALTH_STATUS_SMUDGE_ARMED = false ∧ t.core.flag
      F.SMUDGE_INT_STATUS_DISARMED = true) ∧
  (∀ (s : State) (x : Nat × Nat), s.quiet = true → s.core.health.maint = some x → x.2 ≤ s.core.time.cycles → Completes
      .smudgeTimeout s fun t => t.core.health.maint = none ∧ t.core.health.due = [] ∧ t.core.get R.SMUDGE_STATUS = 0 ∧ t.core.get
      R.SMUDGE_ARM = 0 ∧ t.core.flag F.SMUDGE_INT_STATUS_DISARMED = true ∧ t.core.flag F.SMUDGE_INT_STATUS_TIMEOUT = true) ∧
  (∀ (s : State) (m : Nat) (v : Word), let c := s.core.written ⟨m, R.SMUDGE_ARM, v⟩ 0; s.core.serves m R.SMUDGE_ARM = true →
      s.quiet = true → s.core.health.maint.isSome = true → (c.twinState = 0 ∨ c.twinState = 3 ∨ c.twinState = 6) → Completes
      (.smudgeArmWrite m v) s fun t => (t.core.health.due = s.core.health.due ++ (List.range 7).filterMap fun k => if bitOf
      (s.core.get R.SMUDGE_ARM) k = bitOf v k then none else some
      { b := c.boundaryAt (c.now + 2 * c.blk), cls := k, on := bitOf v k, regs := [], tok := none })) ∧
  (∀ (s : State) (m : Nat) (v : Word), s.quiet = true → s.core.reaches m R.SMUDGE_ARM = true → s.core.health.maint = none →
      Completes (.smudgeArmWrite m v) s fun t => t.core.get R.SMUDGE_ARM = s.core.get R.SMUDGE_ARM ∧ t.core.health.due =
      s.core.health.due ∧ t.core.flag F.SMUDGE_INT_STATUS_REFUSED = true) ∧
  (∀ (s : State) (m : Nat) (v : Word), let c := s.core.written ⟨m, R.SMUDGE_CLOCK, v⟩ 0x80000000; s.core.serves m R.SMUDGE_CLOCK =
      true → s.quiet = true → s.core.health.maint.isSome = true → bitOf v 31 = true ∧ bitsOf v 3 0 = 0 → bitOf (s.core.get
      R.SMUDGE_STATUS) 6 = true → Completes (.smudgeClockGo m v) s fun t => t.core.get (R.SMUDGE_EVENTS 5) = s.core.get
      (R.SMUDGE_EVENTS 5) + 1 ∧ t.core.f F.SMUDGE_CLOCK_MON = 0) ∧
  (∀ (s : State) (m : Nat) (v : Word), let c := s.core.written ⟨m, R.SMUDGE_CLOCK, v⟩ 0x80000000; s.core.serves m R.SMUDGE_CLOCK =
      true → s.quiet = true → s.core.health.maint.isSome = true → bitOf (s.core.get R.SMUDGE_STATUS) 6 = false → Completes
      (.smudgeClockGo m v) s fun t => t.core.get (R.SMUDGE_EVENTS 5) = s.core.get (R.SMUDGE_EVENTS 5) ∧ t.core.f F.SMUDGE_CLOCK_MON
      = bitsOf v 3 0 ∧ t.core.clk = s.core.clk)

/-- A served write of CLK_SWITCH with GO names CTRL (DOMAIN 2) with SRC 0 or 1: CTRL runs from that source and REFUSED keeps the
value that the write leaves. For every other DOMAIN, and for CTRL with an SRC above 1, REFUSED is set, and nothing else in the
module changes but the DOMAIN and SRC fields written: no other register, no clock, no part of the state, neither memory. -/
def Obligations.ClkSwitchAcceptsOnlyCtrl : Prop :=
  (∀ (s : State) (m : Nat) (v : Word), let c := s.core.written ⟨m, R.CLK_SWITCH, v⟩ 0x80000000; s.core.serves m R.CLK_SWITCH = true
      → s.quiet = true → bitOf v 31 = true → c.f F.CLK_SWITCH_DOMAIN = 2 ∧ c.f F.CLK_SWITCH_SRC ≤ 1 → Completes (.clkSwitchGo m v)
      s fun t => t.core.clk = { s.core.clk with ctrlSrc := c.f F.CLK_SWITCH_SRC } ∧ t.core.get R.CLK_SWITCH = c.get R.CLK_SWITCH) ∧
  (∀ (s : State) (m off : Nat) (v : Word), let c := s.core.written ⟨m, R.CLK_SWITCH, v⟩ 0x80000000; s.core.serves m R.CLK_SWITCH =
      true → s.quiet = true → bitOf v 31 = true → (c.f F.CLK_SWITCH_DOMAIN ≠ 2 ∨ 2 ≤ c.f F.CLK_SWITCH_SRC) → off ≠ R.CLK_SWITCH →
      Completes (.clkSwitchGo m v) s fun t => t.core.flag F.CLK_SWITCH_REFUSED = true ∧ t.core.f F.CLK_SWITCH_DOMAIN = c.f
      F.CLK_SWITCH_DOMAIN ∧ t.core.f F.CLK_SWITCH_SRC = c.f F.CLK_SWITCH_SRC ∧ t.core.get off = s.core.get off ∧ t.mem = s.mem ∧
      t.core.beside [] = s.core.beside [])

/-- In a module whose minimum SVN is at most that of the running firmware, an admitted UPDATE_SVN_RAISE of a value up to the SVN
of the running firmware and from the minimum on is answered OK and makes it the fused minimum; a higher value is refused with
NOT_PERMITTED and one below the minimum with OUT_OF_RANGE, and then the register stays; whatever the value, the minimum does not
fall and the SVN of the running firmware stays. -/
def Obligations.SvnRaiseNeverLowers : Prop :=
  (∀ (s : State) (p : Packet), let c := s.core.offered opUpdateSvnRaise p; let r := reqOf opUpdateSvnRaise p; s.core.admits
      opUpdateSvnRaise p = true → s.quiet = true → c.f F.UPDATE_SVN_MIN ≤ c.f F.UPDATE_SVN_ACTIVE → r.n 0 ≤ c.f F.UPDATE_SVN_ACTIVE
      ∧ c.f F.UPDATE_SVN_MIN ≤ r.n 0 → Completes (.updateSvnRaise p) s fun t => t.core.answered p .ok [] ∧ t.core.f
      F.UPDATE_SVN_MIN = r.n 0) ∧
  (∀ (s : State) (p : Packet), let c := s.core.offered opUpdateSvnRaise p; let r := reqOf opUpdateSvnRaise p; s.core.admits
      opUpdateSvnRaise p = true → s.quiet = true → c.f F.UPDATE_SVN_MIN ≤ c.f F.UPDATE_SVN_ACTIVE → c.f F.UPDATE_SVN_ACTIVE < r.n 0
      → Completes (.updateSvnRaise p) s fun t => t.core.answered p .notPermitted [] ∧ t.core.get R.UPDATE_SVN = c.get R.UPDATE_SVN)
      ∧
  (∀ (s : State) (p : Packet), let c := s.core.offered opUpdateSvnRaise p; let r := reqOf opUpdateSvnRaise p; s.core.admits
      opUpdateSvnRaise p = true → s.quiet = true → c.f F.UPDATE_SVN_MIN ≤ c.f F.UPDATE_SVN_ACTIVE → r.n 0 < c.f F.UPDATE_SVN_MIN →
      Completes (.updateSvnRaise p) s fun t => t.core.answered p .outOfRange [] ∧ t.core.get R.UPDATE_SVN = c.get R.UPDATE_SVN) ∧
  (∀ (s : State) (p : Packet), let c := s.core.offered opUpdateSvnRaise p; let r := reqOf opUpdateSvnRaise p; s.core.admits
      opUpdateSvnRaise p = true → s.quiet = true → Completes (.updateSvnRaise p) s fun t => c.f F.UPDATE_SVN_MIN ≤ t.core.f
      F.UPDATE_SVN_MIN ∧ t.core.f F.UPDATE_SVN_ACTIVE = c.f F.UPDATE_SVN_ACTIVE)

/-- With MEDIA running, no clock fault and no rate change that is complete, a block boundary makes the media sample count that
of the block that begins, one block later, and the TIME cycles of the block have passed. -/
def Obligations.BlockBoundaryAdvancesMediaTime : Prop :=
  ∀ (s : State) (env : BlockEnv), s.core.clk.mediaOn = true → (s.core.clk.fault = none ∧ (s.core.clk.sw.all fun x => !x.done) =
      true) → s.quiet = true → Completes (.blockBoundary env) s fun t => t.core.time.n = s.core.time.n + s.core.blk ∧
      t.core.time.cycles = s.core.time.cycles + env.cycles

/-- What the Easel commands that keep nothing of their own beside registers leave unchanged, whether their packet is carried out,
refused, discarded or kept for its time. -/
def Obligations.EaselReadsLeaveModuleAlone : Prop :=
  ∀ s : State, s.quiet = true →
    (∀ (p : Packet), Completes (.sysStateGet p) s (Framed s easelParts (easelBlocks ++ [0x0]))) ∧
    (∀ (p : Packet), Completes (.timeStatusGet p) s (Framed s easelParts (easelBlocks ++ [0x2]))) ∧
    (∀ (p : Packet), Completes (.portStatusGet p) s (Framed s easelParts (easelBlocks ++ [0x9]))) ∧
    (∀ (p : Packet), ∀ i ∈ ([.pdmConfig p, .pdmFirLoad p] : List Instr), Completes i s (Framed s easelParts (easelBlocks ++
        [0xA]))) ∧
    (∀ (p : Packet), ∀ i ∈ ([.meterGet p, .meterConfig p] : List Instr), Completes i s (Framed s easelParts (easelBlocks ++
        [0xB]))) ∧
    (∀ (p : Packet), ∀ i ∈ ([.layoutAdmissionGet p, .paletteStatusGet p, .caliperCountersGet p] : List Instr), Completes i s
        (Framed s easelParts (easelBlocks ++ [0x11]))) ∧
    (∀ (p : Packet), Completes (.healthStatusGet p) s (Framed s easelParts (easelBlocks ++ [0x12, 0x17]))) ∧
    (∀ (p : Packet), ∀ i ∈ ([.renderStatusGet p, .renderCountersGet p, .clipCountsGet p] : List Instr), Completes i s (Framed s
        easelParts (easelBlocks ++ [0x12]))) ∧
    (∀ (p : Packet), Completes (.outchainMetersGet p) s (Framed s easelParts (easelBlocks ++ [0x13]))) ∧
    (∀ (p : Packet), ∀ i ∈ ([.detectorGet p, .detectorConfig p] : List Instr), Completes i s (Framed s easelParts (easelBlocks ++
        [0x15]))) ∧
    (∀ (p : Packet), Completes (.twinSwitchover p) s (Framed s easelParts (easelBlocks ++ [0x16, 0x17]))) ∧
    (∀ (p : Packet), ∀ i ∈ ([.twinStatusGet p, .twinResync p] : List Instr), Completes i s (Framed s easelParts (easelBlocks ++
        [0x16]))) ∧
    (∀ (p : Packet), ∀ i ∈ ([.smudgeUnlock p, .smudgeLock p] : List Instr), Completes i s (Framed s easelParts (easelBlocks ++
        [0x17]))) ∧
    (∀ (p : Packet), ∀ i ∈ ([.ping p, .eventSubscribe p, .sessionLevel p, .objectGet p, .objectStateGet p, .speakerGet p,
        .soundSpeedGet p, .contribRead p, .contribFind p, .nearRead p, .sceneBusGet p, .bedGet p, .loudnessGet p, .outchainGet p,
        .surveyStatusGet p, .resultGet p, .resultBandsGet p, .proposalGet p, .surveyLogRead p, .surveyLogInfo p, .routeGet p,
        .directGet p, .nonpcmGet p, .netStatusGet p, .netPauseSet p, .netGateSet p, .netGateGet p, .streamRxSet p, .streamRxGet p,
        .streamTxSet p, .streamTxGet p, .streamStatsGet p, .brushStatusGet p, .paramGet p, .storageStatusGet p, .libList p,
        .libRead p, .flashUnitGet p, .twinForce p, .twinPersistDeclare p, .updatePeerStatusGet p, .patinaRead p, .patinaInfo p,
        .unitGet p, .smudgeSet p] : List Instr), Completes i s (Framed s easelParts easelBlocks)) ∧
    (∀ (p : Packet), ∀ i ∈ ([.updateStatusGet p, .updateSvnRaise p] : List Instr), Completes i s (Framed s easelParts (easelBlocks
        ++ [0x19]))) ∧
    (∀ (p : Packet), Completes (.brushRead p) s (Framed s easelParts (easelBlocks ++ [0x20])))

/-- What the Easel commands that stage, commit or start something leave unchanged, whatever becomes of their packet. -/
def Obligations.EaselSettingsReachOwnPartsOnly : Prop :=
  ∀ s : State, s.quiet = true →
    (∀ (p : Packet), Completes (.paletteSwap p) s (Framed s (easelParts ++ [.cal]) (easelBlocks ++ [0xB, 0x11, 0x13]))) ∧
    (∀ (p : Packet), Completes (.maquetteSet p) s (Framed s (easelParts ++ [.cal]) (easelBlocks ++ [0x11, 0x12]))) ∧
    (∀ (p : Packet), Completes (.caliperConfig p) s (Framed s (easelParts ++ [.cal]) easelBlocks)) ∧
    (∀ (p : Packet), Completes (.startConfigSet p) s (Framed s (easelParts ++ [.cfg]) (easelBlocks ++ [0x0]))) ∧
    (∀ (p : Packet), Completes (.memConfigSet p) s (Framed s (easelParts ++ [.cfg]) (easelBlocks ++ [0x6]))) ∧
    (∀ (p : Packet), Completes (.flashConfigSet p) s (Framed s (easelParts ++ [.cfg]) (easelBlocks ++ [0x7]))) ∧
    (∀ (p : Packet), Completes (.crcScan p) s (Framed s (easelParts ++ [.crc]) (easelBlocks ++ [0x8]))) ∧
    (∀ (p : Packet), ∀ i ∈ ([.libWriteBegin p, .libWriteData p, .libWriteCommit p, .libDelete p, .libWriteAbort p] : List Instr),
        Completes i s (Framed s (easelParts ++ [.flash]) easelBlocks)) ∧
    (∀ (p : Packet), Completes (.smudgeChallenge p) s (Framed s (easelParts ++ [.freeIx]) easelBlocks)) ∧
    (∀ (p : Packet), Completes (.portConfig p) s (Framed s (easelParts ++ [.arm]) (easelBlocks ++ [0x9]))) ∧
    (∀ (p : Packet), Completes (.meterHoldReset p) s (Framed s (easelParts ++ [.arm]) (easelBlocks ++ [0xB]))) ∧
    (∀ (p : Packet), ∀ i ∈ ([.routeBegin p, .routeSet p] : List Instr), Completes i s (Framed s (easelParts ++ [.arm])
        (easelBlocks ++ [0x11]))) ∧
    (∀ (p : Packet), ∀ i ∈ ([.routeCommit p, .directGainSet p, .groupSet p] : List Instr), Completes i s (Framed s (easelParts ++
        [.arm]) easelBlocks)) ∧
    (∀ (p : Packet), ∀ i ∈ ([.paramBegin p, .paramSet p] : List Instr), Completes i s (Framed s (easelParts ++ [.brush])
        (easelBlocks ++ [0x11]))) ∧
    (∀ (p : Packet), ∀ i ∈ ([.brushStart p, .brushBufferSet p, .paramCommit p] : List Instr), Completes i s (Framed s (easelParts
        ++ [.brush]) easelBlocks)) ∧
    (∀ (p : Packet), ∀ i ∈ ([.brushLoad p, .paramDeclare p, .brushMbxPost p, .brushMbxRead p] : List Instr), Completes i s (Framed
        s (easelParts ++ [.brush]) (easelBlocks ++ [0x20]))) ∧
    (∀ (p : Packet), ∀ i ∈ ([.updateBegin p, .updateData p, .updateEnd p, .updateDiscard p, .updatePeersSet p, .updateActivate p,
        .updateCancel p] : List Instr), Completes i s (Framed s (easelParts ++ [.update]) (easelBlocks ++ [0x19]))) ∧
    (∀ (p : Packet), ∀ i ∈ ([.measureStart p, .measureAbort p, .design p, .liveRebase p] : List Instr), Completes i s (Framed s
        (easelParts ++ [.survey]) (easelBlocks ++ [0x15]))) ∧
    (∀ (p : Packet), ∀ i ∈ ([.resultStore p, .liveConfig p, .liveOutputSet p, .liveTimingSet p, .livePolicySet p] : List Instr),
        Completes i s (Framed s (easelParts ++ [.survey]) easelBlocks)) ∧
    (∀ (p : Packet), ∀ i ∈ ([.binauralSet p, .binauralGet p, .downmixSet p, .downmixGet p, .loudnessConfig p, .loudnessReset p] :
        List Instr), Completes i s (Framed s (easelParts ++ [.mon]) easelBlocks)) ∧
    (∀ (p : Packet), Completes (.outputMute p) s (Framed s (easelParts ++ [.out]) easelBlocks)) ∧
    (∀ (p : Packet), Completes (.outputRelease p) s (Framed s (easelParts ++ [.power]) easelBlocks)) ∧
    (∀ (p : Packet), Completes (.healthConfig p) s (Framed s (easelParts ++ [.ren]) (easelBlocks ++ [0x12, 0x17]))) ∧
    (∀ (p : Packet), Completes (.contribWrite p) s (Framed s (easelParts ++ [.ren]) (easelBlocks ++ [0x12]))) ∧
    (∀ (p : Packet), Completes (.expertObjectSet p) s (Framed s (easelParts ++ [.ren]) easelBlocks)) ∧
    (∀ (p : Packet), Completes (.soundSpeedSet p) s (Framed s (easelParts ++ [.scene]) (easelBlocks ++ [0x11]))) ∧
    (∀ (p : Packet), Completes (.layoutCommit p) s (Framed s (easelParts ++ [.scene]) easelBlocks)) ∧
    (∀ (p : Packet), Completes (.timeSet p) s (Framed s (easelParts ++ [.time]) (easelBlocks ++ [0x1, 0x2]))) ∧
    (∀ (p : Packet), ∀ i ∈ ([.pulseProgram p, .tsinRead p] : List Instr), Completes i s (Framed s (easelParts ++ [.time])
        (easelBlocks ++ [0x2]))) ∧
    (∀ (p : Packet), Completes (.routeNow p) s (Framed s (easelParts ++ [.cal, .arm]) (easelBlocks ++ [0xB, 0x11, 0x13]))) ∧
    (∀ (p : Packet), Completes (.proposalApply p) s (Framed s (easelParts ++ [.cal, .survey]) (easelBlocks ++ [0xB, 0x11, 0x13]))) ∧
    (∀ (p : Packet), ∀ i ∈ ([.timeConfig p, .timeStepAccept p] : List Instr), Completes i s (Framed s (easelParts ++ [.clk,
        .time]) (easelBlocks ++ [0x1, 0x2]))) ∧
    (∀ (p : Packet), Completes (.sessionClose p) s (Framed s (easelParts ++ [.flash, .update]) (easelBlocks ++ [0x17, 0x19]))) ∧
    (∀ (p : Packet), ∀ i ∈ ([.outchainBegin p, .outchainSet p, .biquadSet p, .firSet p, .varnishSet p, .outchainCommit p,
        .proposalDiscard p] : List Instr), Completes i s (Framed s (easelParts ++ [.out, .survey]) (easelBlocks ++ [0x11, 0x15]))) ∧
    (∀ (p : Packet), Completes (.spareSwap p) s (Framed s (easelParts ++ [.ren, .brush]) (easelBlocks ++ [0x12, 0x17, 0x20]))) ∧
    (∀ (p : Packet), ∀ i ∈ ([.objectDefine p, .objectDisableAll p, .layoutBegin p, .speakerDefine p, .zoneDefine p,
        .layoutTempRange p, .sceneBusDefine p, .bedDefine p] : List Instr), Completes i s (Framed s (easelParts ++ [.scene, .cal])
        (easelBlocks ++ [0x11, 0x12]))) ∧
    (∀ (p : Packet), Completes (.brushAlloc p) s (Unmoved s (easelParts ++ [.freeIx, .memc, .crc, .brush, .atl]) (easelBlocks ++
        [0x0, 0x1, 0x4, 0x6, 0x20]))) ∧
    (∀ (p : Packet), Completes (.wakeTolSet p) s (Unmoved s (easelParts ++ [.freeIx, .memc, .crc, .brush, .atl]) (easelBlocks ++
        [0x0, 0x4, 0x6, 0x20]))) ∧
    (∀ (p : Packet), Completes (.timedCancel p) s (Framed s (easelParts ++ [.cal, .mon, .out, .brush, .survey, .arm]) (easelBlocks
        ++ [0xB, 0x11, 0x13, 0x15, 0x16]))) ∧
    (∀ (p : Packet), ∀ i ∈ ([.brushFree p, .brushStop p] : List Instr), Completes i s (Unmoved s (easelParts ++ [.shadow, .freeIx,
        .memc, .crc, .brush, .atl]) (easelBlocks ++ [0x0, 0x4, 0x6, 0x20])))

/-- What a Brush instruction leaves unchanged: everything beside the Brush cores and what an end of a task, a trace record or a
fault reaches; and every other core. -/
def Obligations.BrushInstructionsStayInCore : Prop :=
  ∀ s : State, s.quiet = true →
    (∀ (k n : Nat), ∀ i ∈ ([.bcNop k, .bcMac k, .bcMsu k, .bcMpy k, .bcClr k, .bcAdda k, .bcSuba k, .bcRnd k, .bcTrn k, .bcHsum k,
        .bcAccmov k, .bcVadd k, .bcVsub k, .bcVand k, .bcVor k, .bcVxor k, .bcVneg k, .bcVabs k, .bcVmax k, .bcVmin k, .bcVasr k,
        .bcVasrr k, .bcVshl k, .bcVmov k, .bcVrot k, .bcLdi k, .bcMov k, .bcAdd k, .bcSub k, .bcAnd k, .bcOr k, .bcXor k, .bcShl
        k, .bcShr k, .bcAsr k, .bcCmp k, .bcMul k, .bcLds k, .bcSts k, .bcLdc k, .bcStc k, .bcXget k, .bcXput k, .bcAccget k,
        .bcAccput k, .bcBra k, .bcJsr k, .bcRet k, .bcRep k, .bcDo k, .bcPoll k, .bcWait k n, .bcDone k, .bcRti k, .bcTrap k,
        .bcHalt k, .bcSync k n, .bcFtap k] : List Instr), Completes i s (Unmoved s [.outbox, .host, .shadow, .freeIx, .memc, .crc,
        .health, .brush, .atl] [0x0, 0x3, 0x4, 0x6, 0x20])) ∧
    (∀ k j w : Nat, j ≤ 67 → j ≠ k → ∀ i ∈ ([
        .bcNop k, .bcMac k, .bcMsu k, .bcMpy k, .bcClr k, .bcAdda k, .bcSuba k, .bcRnd k, .bcTrn k, .bcHsum k, .bcAccmov k,
        .bcVadd k, .bcVsub k, .bcVand k, .bcVor k, .bcVxor k, .bcVneg k, .bcVabs k, .bcVmax k, .bcVmin k, .bcVasr k, .bcVasrr k,
        .bcVshl k, .bcVmov k, .bcVrot k, .bcLdi k, .bcMov k, .bcAdd k, .bcSub k, .bcAnd k, .bcOr k, .bcXor k, .bcShl k, .bcShr
        k, .bcAsr k, .bcCmp k, .bcMul k, .bcLds k, .bcSts k, .bcLdc k, .bcStc k, .bcXget k, .bcXput k, .bcAccget k, .bcAccput k,
        .bcBra k, .bcJsr k, .bcRet k, .bcRep k, .bcDo k, .bcPoll k, .bcDone k, .bcRti k, .bcTrap k, .bcHalt k, .bcFtap k] : List Instr),
      Completes i s fun t => t.core.bc j = s.core.bc j ∧ t.core.dmWord j w = s.core.dmWord j w ∧ t.core.brush.im = s.core.brush.im ∧
        t.core.get (R.BRUSH_CORE_STATE j) = s.core.get (R.BRUSH_CORE_STATE j))

/-- What the events of the system, the network, the twin, the update chain, the scheduler and Brush control leave unchanged. -/
def Obligations.SystemEventsReachOwnPartsOnly : Prop :=
  ∀ s : State, s.quiet = true →
    (∀ (addr code extra src ident offset : Nat) (bytes : List Byte) (more : Bool), ∀ i ∈ ([.smbusReadByte addr code extra,
        .smbusReadWord addr code extra, .smbusWrite addr, .ipv4FragmentReceive src ident offset bytes more, .ipReassemblyTimeout
        src ident, .timedCommit] : List Instr), Completes i s (Framed s [.outbox, .host] [])) ∧
    (Completes .backupTimeCopy s (Framed s [.outbox, .host] [0x0, 0x2])) ∧
    (∀ (m n : Nat), Completes (.holdAcquire m n) s (Framed s [.outbox, .host] [0x0, 0x3, 0x5])) ∧
    (∀ (p m : Nat) (v : Word), Completes (.maxFrameWrite p m v) s (Framed s [.outbox, .host] [0x0, 0x3, 0x5, 0xC, 0x20])) ∧
    (∀ (m n : Nat) (v : Word), ∀ i ∈ ([.gatedAccessClear m v, .bar0DeniedClear m v, .noPathClear m v, .mbxH2fWrite m n v,
        .mbxF2hAck m n v, .dbMaskWrite m v, .holdRelease m n v, .bar2BaseWrite m v] : List Instr), Completes i s (Framed s
        [.outbox, .host] [0x0, 0x3, 0x5, 0x20])) ∧
    (∀ (n k : Nat), Completes (.mbxEventPost n k) s (Framed s [.outbox, .host] [0x0, 0x3, 0x20])) ∧
    (∀ (err : Int) (fsyncOk : Bool), ∀ i ∈ ([.aonMonitorTrip, .aonTrimGate err fsyncOk] : List Instr), Completes i s (Framed s
        [.outbox, .host] [0x1])) ∧
    (Completes .servoUnlock s (Framed s [.outbox, .host] [0x2])) ∧
    (∀ (p : Nat), Completes (.linkUp p) s (Framed s [.outbox, .host] [0x2, 0xC])) ∧
    (∀ (gen width : Nat), Completes (.pcieLinkTrained gen width) s (Framed s [.outbox, .host] [0x3])) ∧
    (∀ (n : Nat), Completes (.mbxStall n) s (Framed s [.outbox, .host] [0x3, 0x20])) ∧
    (∀ (p quanta : Nat), ∀ i ∈ ([.pauseRepeat p, .pauseFrameReceive p quanta, .pauseQuantaExpire p] : List Instr), Completes i s
        (Framed s [.outbox, .host] [0xC])) ∧
    (∀ (m k space w : Nat) (v : Word), Completes (.brushWindowWrite m k space w v) s (Framed s [.outbox, .host, .brush] [0x0, 0x3,
        0x5, 0x20])) ∧
    (∀ (g : Nat), Completes (.migrationCopy g) s (Framed s [.outbox, .host, .brush] [0x20])) ∧
    (∀ (m n : Nat) (v : Word), ∀ i ∈ ([.clkSwitchGo m v, .clkoutCtrlWrite m n v] : List Instr), Completes i s (Framed s [.outbox,
        .host, .clk] [0x0, 0x1, 0x3, 0x5, 0x20])) ∧
    (∀ i ∈ ([.refInLoss, .refQualify, .dpllLock, .mediaMonitorTrip] : List Instr), Completes i s (Framed s [.outbox, .host, .clk]
        [0x1])) ∧
    (Completes .servoLock s (Framed s [.outbox, .host, .clk] [0x1, 0x2])) ∧
    (Completes .vinWarnClear s (Framed s [.outbox, .host, .flash] [0x0, 0x7])) ∧
    (∀ (reg : Nat), Completes (.pcieConfigRequest reg) s (Framed s [.outbox, .host, .freeIx] [])) ∧
    (∀ (m : Nat) (v : Word) (bytes : List Byte), ∀ i ∈ ([.hostCmdProdWrite m v bytes, .replyRingConsume m v] : List Instr),
        Completes i s (Framed s [.outbox, .host, .net] [0x0, 0x3, 0x5, 0xC, 0x10, 0x20])) ∧
    (∀ (p m : Nat) (v : Word), Completes (.gateGo p m v) s (Framed s [.outbox, .host, .net] [0x0, 0x3, 0x5, 0xC, 0x20])) ∧
    (∀ (rx : Bool) (num : Nat), Completes (.streamDefinitionApply rx num) s (Framed s [.outbox, .host, .net] [0xB, 0xC, 0x10])) ∧
    (∀ (p len fcs before : Nat) (bytes : List Byte), ∀ i ∈ ([.ethernetFrameReceive p len fcs before bytes, .gateCycleStart p,
        .rxBufferFillLow p] : List Instr), Completes i s (Framed s [.outbox, .host, .net] [0xC])) ∧
    (∀ (p ip dst num : Nat) (data : List Byte), ∀ i ∈ ([.linkDown p, .arpRequestReceive p ip, .arpRefresh p, .icmpEchoReceive p
        dst data, .igmpQueryReceive p, .streamPacketQueue num, .frameTransmit p] : List Instr), Completes i s (Framed s [.outbox,
        .host, .net] [0xC, 0x10])) ∧
    (∀ (p ip mac num leg : Nat), ∀ i ∈ ([.arpReplyReceive p ip mac, .streamLegLoss num leg, .marginSpanEnd num] : List Instr),
        Completes i s (Framed s [.outbox, .host, .net] [0x10])) ∧
    (∀ i ∈ ([.pciePerstRelease, .smbusAlertResponse] : List Instr), Completes i s (Framed s [.outbox, .host, .power] [])) ∧
    (∀ (vioSel : Bool) (vin pin : Nat), ∀ i ∈ ([.startThresholdMet vioSel, .pcieEndpointReady, .smbusRefresh vin pin] : List
        Instr), Completes i s (Framed s [.outbox, .host, .power] [0x0])) ∧
    (∀ (m : Nat) (v : Word), Completes (.outputReleaseGo m v) s (Framed s [.outbox, .host, .power] [0x0, 0x3, 0x5, 0x20])) ∧
    (∀ i ∈ ([.holdupCharged, .converterFault] : List Instr), Completes i s (Framed s [.outbox, .host, .power] [0x7])) ∧
    (∀ (p : Nat) (los level : Bool) (id : List Byte), ∀ i ∈ ([.sfpModuleInsert p los id, .sfpLosChange p level] : List Instr),
        Completes i s (Framed s [.outbox, .host, .power] [0xC])) ∧
    (∀ (m n : Nat) (v : Word), ∀ i ∈ ([.pulseArm m n v, .pulseStop m n v] : List Instr), Completes i s (Framed s [.outbox, .host,
        .time] [0x0, 0x2, 0x3, 0x5, 0x20])) ∧
    (∀ (n off phase : Nat) (rising : Bool), ∀ i ∈ ([.pulseEdge n, .tsinCapture n rising off phase] : List Instr), Completes i s
        (Framed s [.outbox, .host, .time] [0x2])) ∧
    (∀ (f : UpFrame) (n : Nat), ∀ i ∈ ([.updateRefuseReceive f, .updateVerifiedReceive f, .updateResultReceive f, .peerUnreachable
        n] : List Instr), Completes i s (Framed s [.outbox, .host, .update] [0x19])) ∧
    (∀ (m : Nat) (v : Word), Completes (.timeCtrlWrite m v) s (Framed s [.outbox, .host, .clk, .time] [0x0, 0x1, 0x2, 0x3, 0x5,
        0x20])) ∧
    (∀ (off : Int), Completes (.refInMeasurement off) s (Framed s [.outbox, .host, .clk, .time] [0x1])) ∧
    (∀ (port : Nat), ∀ i ∈ ([.announceReceiptTimeout port, .syncTimeout] : List Instr), Completes i s (Framed s [.outbox, .host,
        .clk, .time] [0x1, 0x2])) ∧
    (∀ (port domain sender seq : Nat) (t4 : Int), Completes (.ptpDelayReqReceive port domain sender seq t4) s (Framed s [.outbox,
        .host, .health, .net] [0x2, 0xC, 0x10, 0x18])) ∧
    (∀ (p : Packet), Completes (.sessionOpen p) s (Framed s [.outbox, .host, .health, .net] [0x3, 0xC, 0x10, 0x18])) ∧
    (∀ (p : Nat), Completes (.gateChangeTime p) s (Framed s [.outbox, .host, .net, .twin] [0x3, 0xC, 0x10])) ∧
    (∀ (f : Tether) (version : Word), ∀ i ∈ ([.tetherMirrorReceive f, .tetherAckReceive f, .tetherResyncReqReceive f,
        .resyncComplete version, .tetherRelinquishReceive f] : List Instr), Completes i s (Framed s [.outbox, .host, .net, .twin]
        [0x3, 0xC, 0x10, 0x16])) ∧
    (Completes .witnessDecision s (Framed s [.outbox, .host, .net, .twin] [0xC, 0x10, 0x16])) ∧
    (∀ (n : Nat), Completes (.peerReoffer n) s (Framed s [.outbox, .host, .net, .update] [0xC, 0x10])) ∧
    (∀ (f : UpFrame) (n : Nat), ∀ i ∈ ([.updateOfferReceive f, .updateDataReceive f, .updateAckReceive f, .updateActivateReceive
        f, .ackStallRetransmit n] : List Instr), Completes i s (Framed s [.outbox, .host, .net, .update] [0xC, 0x10, 0x19])) ∧
    (∀ (boot p3 : Bool) (addr : Nat), Completes (.railsInRegulation boot p3 addr) s (Framed s [.outbox, .host, .power, .clk]
        [0x0])) ∧
    (∀ (p : Nat), Completes (.sfpModuleRemove p) s (Framed s [.outbox, .host, .power, .net] [0xC, 0x10])) ∧
    (∀ (imageOk prevOk : Bool), Completes (.firmwareHandoff imageOk prevOk) s (Framed s [.outbox, .host, .power, .update] [0x0,
        0x19])) ∧
    (∀ (m n : Nat), Completes (.tsinFifoPop m n) s (Framed s [.outbox, .host, .shadow, .time] [0x0, 0x2, 0x3, 0x5])) ∧
    (∀ (port domain sender seq : Nat) (l : Leader) (t4 corr interval : Int), ∀ i ∈ ([.ptpAnnounceReceive port domain l,
        .ptpDelayRespReceive port domain sender seq t4 corr interval] : List Instr), Completes i s (Framed s [.outbox, .host,
        .time, .health] [0x2, 0x18])) ∧
    (∀ (port : Nat) (t3 t1 : Int), ∀ i ∈ ([.ptpDelayReqSend port t3, .ptpSyncSend port t1] : List Instr), Completes i s (Framed s
        [.outbox, .host, .time, .net] [0x2, 0xC, 0x10])) ∧
    (∀ (port : Nat), Completes (.ptpAnnounceSend port) s (Framed s [.outbox, .host, .time, .net] [0xC, 0x10])) ∧
    (Completes .paramCommitDone s (Framed s [.outbox, .host, .brush, .net, .twin] [0x3, 0xC, 0x10, 0x11])) ∧
    (Completes .switchover s (Framed s [.outbox, .host, .clk, .net, .twin] [0x3, 0xC, 0x10, 0x16])) ∧
    (∀ (m : Nat) (v : Word), ∀ i ∈ ([.stepAcceptSlew m v, .stepAcceptRealign m v] : List Instr), Completes i s (Framed s [.outbox,
        .host, .clk, .time, .net] [0x0, 0x1, 0x2, 0x3, 0x5, 0xC, 0x20])) ∧
    (∀ (port : Nat), Completes (.serdesPllLoss port) s (Framed s [.outbox, .host, .clk, .time, .net] [0x1, 0x2, 0xC, 0x10])) ∧
    (∀ (p j : Nat) (x : Rtp), Completes (.rtpPacketReceive p x j) s (Framed s [.outbox, .host, .health, .net, .twin] [0xB, 0xC,
        0x10, 0x16, 0x18])) ∧
    (∀ (y n : Nat) (write : Bool) (bytes : List Byte), Completes (.bar2Access y write bytes n) s (Unmoved s [.outbox, .host,
        .memc, .crc, .health] [0x6])) ∧
    (∀ (f : UpFrame) (env : ImageEnv) (k : Nat), ∀ i ∈ ([.controlPlaneRestartEnd, .updateCancelReceive f, .imageVerifyDone env,
        .updateReceptionTimeout k, .activationPrecheck env, .activationFallback] : List Instr), Completes i s (Framed s [.outbox,
        .host, .net, .twin, .update] [0x3, 0xC, 0x10, 0x19])) ∧
    (Completes .tcxoStartCheck s (Framed s [.outbox, .host, .power, .clk, .time] [0xC])) ∧
    (∀ (lanes : List (List Nat)), Completes (.dramTrainingDone lanes) s (Unmoved s [.outbox, .host, .power, .memc, .health] [0x0,
        0x6, 0x17])) ∧
    (∀ (k n : Nat), Completes (.xferComplete k n) s (Unmoved s [.outbox, .host, .memc, .crc, .health, .brush] [0x6, 0x20])) ∧
    (Completes .gessoStart s (Framed s [.outbox, .host, .power, .clk, .flash, .health] [0x0, 0x6, 0x7, 0x12, 0x17, 0x20])) ∧
    (Completes .vinWarnSet s (Framed s [.outbox, .host, .power, .net, .twin, .update] [0x0, 0x3, 0x7, 0xC, 0x10, 0x19])) ∧
    (Completes .hostClockLoss s (Framed s [.outbox, .host, .flash, .health, .net, .twin, .update] [0x1, 0x3, 0xC, 0x10, 0x17,
        0x18, 0x19])) ∧
    (∀ (num : Nat), Completes (.udpSessionTimeout num) s (Framed s [.outbox, .host, .flash, .health, .net, .twin, .update] [0x3,
        0xC, 0x10, 0x17, 0x18, 0x19])) ∧
    (∀ (port domain sender seq : Nat) (twoStep : Bool) (t1 corr t2 : Int), ∀ i ∈ ([.ptpSyncReceive port domain sender seq twoStep
        t1 corr t2, .ptpFollowUpReceive port domain sender seq t1 corr] : List Instr), Completes i s (Framed s [.outbox, .host,
        .freeIx, .clk, .time, .health, .net] [0x1, 0x2, 0xC, 0x18])) ∧
    (∀ (port : Nat), Completes (.atelierDonePop port) s (Unmoved s [.outbox, .host, .freeIx, .memc, .crc, .health, .atl] [0x0,
        0x3, 0x4, 0x5, 0x6])) ∧
    (∀ (port m : Nat) (v : Word), Completes (.atelierPost port m v) s (Unmoved s [.outbox, .host, .freeIx, .memc, .crc, .health,
        .atl] [0x0, 0x3, 0x4, 0x5, 0x6, 0x18, 0x20])) ∧
    (∀ (port : Nat) (v : Word), Completes (.atelierCancel port v) s (Unmoved s [.outbox, .host, .freeIx, .memc, .crc, .health,
        .atl] [0x0, 0x3, 0x4, 0x5, 0x6, 0x20])) ∧
    (∀ (m id addr len outPort outTarget outAll : Nat) (other : Bool) (bytes : List Byte), ∀ i ∈ ([.dramRead m id addr len outPort
        outTarget outAll other, .dramWrite m id addr bytes outPort outTarget outAll other] : List Instr), Completes i s (Unmoved s
        [.outbox, .host, .freeIx, .memc, .crc, .health, .atl] [0x4, 0x5, 0x6, 0x18])) ∧
    (∀ (j : Nat), Completes (.atelierTick j) s (Unmoved s [.outbox, .host, .freeIx, .memc, .crc, .health, .atl] [0x4, 0x6])) ∧
    (∀ (m : Nat), Completes (.fabricHeldIssue m) s (Unmoved s [.outbox, .host, .freeIx, .memc, .crc, .health, .atl] [0x4, 0x6,
        0x18])) ∧
    (Completes .muteAndHold s (Framed s [.outbox, .host, .power, .clk, .survey, .net, .twin] [0x0, 0x3, 0xC, 0x10, 0x11, 0x12,
        0x15])) ∧
    (∀ (g : Nat), ∀ i ∈ ([.migrationSwap g, .migrationCold g] : List Instr), Completes i s (Framed s [.outbox, .host, .ren,
        .health, .brush, .net, .twin] [0x3, 0xC, 0x10, 0x12, 0x17, 0x20])) ∧
    (∀ (m k : Nat) (v : Word), Completes (.clkEnWrite m k v) s (Unmoved s [.outbox, .host, .freeIx, .memc, .crc, .health, .brush,
        .atl] [0x0, 0x1, 0x3, 0x4, 0x5, 0x6, 0x20])) ∧
    (∀ (m k : Nat) (v : Word), Completes (.brushCoreGo m k v) s (Unmoved s [.outbox, .host, .freeIx, .memc, .crc, .health, .brush,
        .atl] [0x0, 0x3, 0x4, 0x5, 0x6, 0x20])) ∧
    (∀ (k n : Nat) (v : Word), ∀ i ∈ ([.xferGo k n v, .brushMbxOutWrite k v, .brushMbxAck k v] : List Instr), Completes i s
        (Unmoved s [.outbox, .host, .freeIx, .memc, .crc, .health, .brush, .atl] [0x0, 0x3, 0x4, 0x6, 0x20])) ∧
    (∀ (pd : Nat), Completes (.pdWakeDone pd) s (Unmoved s [.outbox, .host, .freeIx, .memc, .crc, .health, .brush, .atl] [0x0,
        0x4, 0x6, 0xC, 0x20])) ∧
    (Completes .atelierDispatch s (Unmoved s [.outbox, .host, .freeIx, .memc, .crc, .health, .brush, .atl] [0x4, 0x6, 0x20])) ∧
    (∀ i ∈ ([.thermalResume, .quietStandbyExit] : List Instr), Completes i s (Framed s [.outbox, .host, .power, .clk, .cal, .ren,
        .mon, .out] [0x0])) ∧
    (Completes .pciePerstAssert s (Framed s [.outbox, .host, .power, .flash, .health, .net, .twin, .update] [0x3, 0xC, 0x10, 0x17,
        0x18, 0x19])) ∧
    (∀ (primaryOk secondaryOk : Bool), Completes (.bootStage primaryOk secondaryOk) s (Unmoved s [.outbox, .host, .freeIx, .power,
        .memc, .crc, .health, .brush, .atl] [0x0, 0x4, 0x6, 0xC, 0x20])) ∧
    (Completes .switchoverPrepare s (Framed s [.outbox, .host, .power, .clk, .cal, .ren, .mon, .out, .twin] [])) ∧
    (∀ (m k : Nat) (v : Word), Completes (.brushCoreCtrlStop m k v) s (Unmoved s [.outbox, .host, .shadow, .freeIx, .memc, .crc,
        .health, .brush, .atl] [0x0, 0x3, 0x4, 0x5, 0x6, 0x20])) ∧
    (∀ (m off : Nat), ∀ i ∈ ([.readClear m off, .snapshotRead m off] : List Instr), Completes i s (Unmoved s [.outbox, .host,
        .shadow, .freeIx, .time, .memc, .crc, .health, .atl] [0x0, 0x2, 0x3, 0x4, 0x5, 0x6, 0x17, 0x20]))

/-- What the events of the scene, render, outputs, Survey, ports, memories and Patina leave unchanged. -/
def Obligations.MediaEventsReachOwnPartsOnly : Prop :=
  ∀ s : State, s.quiet = true →
    (∀ (m : Nat) (v : Word), Completes (.memcUncorrClear m v) s (Framed s [.outbox, .host] [0x0, 0x3, 0x5, 0x6, 0x20])) ∧
    (∀ (m : Nat) (v : Word), Completes (.nonpcmRecordClear m v) s (Framed s [.outbox, .host] [0x0, 0x3, 0x5, 0xB, 0x20])) ∧
    (∀ (m : Nat) (v : Word), Completes (.renderUncorrClear m v) s (Framed s [.outbox, .host] [0x0, 0x3, 0x5, 0x12, 0x20])) ∧
    (∀ (m : Nat) (v : Word), Completes (.lastClipClear m v) s (Framed s [.outbox, .host] [0x0, 0x3, 0x5, 0x13, 0x20])) ∧
    (∀ (wanted : List Int) (ch e row bank spare : Nat), ∀ i ∈ ([.dramWckTrack wanted, .dramRemapStart ch e row bank spare] : List
        Instr), Completes i s (Framed s [.outbox, .host] [0x6])) ∧
    (∀ (tlc : Bool), Completes (.flashWearLevel tlc) s (Framed s [.outbox, .host] [0x7])) ∧
    (∀ (p j phase cycles : Nat) (edge gapless : Bool) (ws : List Nat), ∀ i ∈ ([.tdmFrame p j edge gapless phase ws,
        .tdmLeaderFrame p j ws, .tdmLoss p j, .tdmRateRun p j cycles] : List Instr), Completes i s (Framed s [.outbox, .host,
        .arm] [0x9])) ∧
    (∀ (num n j raw which : Nat), ∀ i ∈ ([.nonpcmHoldExpire num, .directPathWord n j raw, .directGainChange n, .meterHoldExpire
        num which] : List Instr), Completes i s (Framed s [.outbox, .host, .arm] [0xB])) ∧
    (∀ (m k : Nat) (v : Word), Completes (.crcScanGo m k v) s (Framed s [.outbox, .host, .crc] [0x0, 0x3, 0x5, 0x8, 0x20])) ∧
    (∀ (session : Nat), Completes (.libWriteTimeout session) s (Framed s [.outbox, .host, .flash] [])) ∧
    (∀ (unit : Nat), ∀ i ∈ ([.flashProgram unit, .flashErase unit] : List Instr), Completes i s (Framed s [.outbox, .host, .flash]
        [0x7])) ∧
    (Completes .smudgeChallengeExpire s (Framed s [.outbox, .host, .health] [])) ∧
    (∀ (m : Nat) (v : Word), Completes (.smudgeArmWrite m v) s (Framed s [.outbox, .host, .health] [0x0, 0x3, 0x5, 0x18, 0x20])) ∧
    (∀ (bank row j h v : Nat), ∀ i ∈ ([.nearRowSpare bank row, .eyeMarginMeasure j h v, .patinaLedgerFlush] : List Instr),
        Completes i s (Framed s [.outbox, .host, .health] [0x17])) ∧
    (Completes .smudgeTimeout s (Framed s [.outbox, .host, .health] [0x17, 0x18])) ∧
    (∀ (ch bank e : Nat), ∀ i ∈ ([.dramRefresh ch bank, .dramRemapCopyDone ch e] : List Instr), Completes i s (Framed s [.outbox,
        .host, .memc] [])) ∧
    (∀ (ch e : Nat) (warm : Bool), ∀ i ∈ ([.dramRemapActivate ch e, .mr4TemperatureReport ch warm] : List Instr), Completes i s
        (Framed s [.outbox, .host, .memc] [0x6])) ∧
    (∀ (p m : Nat), ∀ i ∈ ([.binauralChange p, .downmixChange m] : List Instr), Completes i s (Framed s [.outbox, .host, .mon]
        [])) ∧
    (∀ (o : Nat), Completes (.firTailFrame o) s (Framed s [.outbox, .host, .out] [])) ∧
    (∀ (o : Nat), Completes (.tailOverrun o) s (Framed s [.outbox, .host, .out] [0x13])) ∧
    (∀ (engine index : Nat), Completes (.farWindowArrive engine index) s (Framed s [.outbox, .host, .ren] [])) ∧
    (∀ (engine index : Nat) (done : List Nat), ∀ i ∈ ([.farWindowLate engine index, .renderOverrun engine done] : List Instr),
        Completes i s (Framed s [.outbox, .host, .ren] [0x12])) ∧
    (Completes .positionBucketRefill s (Framed s [.outbox, .host, .scene] [])) ∧
    (Completes .surveyLogFlush s (Framed s [.outbox, .host, .survey] [])) ∧
    (∀ (n : Nat), ∀ i ∈ ([.pdmHoldEnd n, .pdmStuck n, .pdmTransitionsReturn n] : List Instr), Completes i s (Framed s [.outbox,
        .host, .survey] [0xA])) ∧
    (∀ (n : Nat), ∀ i ∈ ([.measureBegin, .measureTurnEnd, .turnResultsDone, .detectorRmsWindow n] : List Instr), Completes i s
        (Framed s [.outbox, .host, .survey] [0x15])) ∧
    (Completes .targetHandover s (Framed s [.outbox, .host, .cal, .ren] [0x11, 0x12])) ∧
    (∀ (unit : Nat) (bits : List Nat) (owner : List (Nat × Nat)) (verified : Bool), ∀ i ∈ ([.flashPageRead unit bits owner,
        .flashRelocate unit verified, .flashRetentionAgeTick] : List Instr), Completes i s (Framed s [.outbox, .host, .flash,
        .health] [0x7, 0x17])) ∧
    (∀ (unit pages bits most bad : Nat) (owner : List (Nat × Nat)), Completes (.flashScrubPass unit pages bits most bad owner) s
        (Framed s [.outbox, .host, .flash, .health] [0x7, 0x17])) ∧
    (∀ (die : Nat) (ok : Bool), Completes (.flashOpComplete die ok) s (Framed s [.outbox, .host, .flash, .health] [0x7, 0x17,
        0x18])) ∧
    (∀ (q : Nat), Completes (.loudnessGatingBlock q) s (Framed s [.outbox, .host, .freeIx, .mon] [])) ∧
    (∀ (errs : List (Nat × Nat)), Completes (.dramScrubRead errs) s (Framed s [.outbox, .host, .memc, .health] [0x6])) ∧
    (Completes .proposalExpire s (Framed s [.outbox, .host, .out, .survey] [0x11, 0x15])) ∧
    (Completes .renderSumsComplete s (Unmoved s [.outbox, .host, .ren, .health] [0x6, 0x12, 0x18])) ∧
    (∀ (bank row : Nat), Completes (.nearRowSwitch bank row) s (Framed s [.outbox, .host, .ren, .health] [0x17])) ∧
    (∀ (p : Nat), Completes (.tdmResume p) s (Framed s [.outbox, .host, .arm, .net, .twin] [0x3, 0x9, 0xC, 0x10])) ∧
    (∀ (g : Nat), Completes (.groupChange g) s (Framed s [.outbox, .host, .arm, .net, .twin] [0x3, 0xB, 0xC, 0x10])) ∧
    (Completes .routeCommitDone s (Framed s [.outbox, .host, .arm, .net, .twin] [0x3, 0xB, 0xC, 0x10, 0x11])) ∧
    (Completes .proposalCommitDone s (Framed s [.outbox, .host, .cal, .out, .survey] [0xB, 0x11, 0x13, 0x15])) ∧
    (∀ (session : Nat), Completes (.libCommitDone session) s (Framed s [.outbox, .host, .flash, .net, .twin] [0x3, 0xC, 0x10])) ∧
    (Completes .outchainCommitDone s (Framed s [.outbox, .host, .out, .net, .twin] [0x3, 0xC, 0x10, 0x11, 0x13])) ∧
    (∀ (o : Nat), ∀ i ∈ ([.muteApply o, .muteFadeEnd o] : List Instr), Completes i s (Framed s [.outbox, .host, .out, .net, .twin]
        [0x3, 0xC, 0x10, 0x13])) ∧
    (∀ (num : Nat), Completes (.patrolStart num) s (Framed s [.outbox, .host, .ren, .health, .brush] [0x12, 0x17, 0x20])) ∧
    (∀ i ∈ ([.caliperSnapshot, .swapPrepare] : List Instr), Completes i s (Framed s [.outbox, .host, .scene, .cal, .ren] [0x11,
        0x12])) ∧
    (Completes .measureComplete s (Framed s [.outbox, .host, .survey, .net, .twin] [0x3, 0xC, 0x10, 0x15])) ∧
    (Completes .resultStoreDone s (Framed s [.outbox, .host, .flash, .survey, .net, .twin] [0x3, 0xC, 0x10])) ∧
    (Completes .designDone s (Framed s [.outbox, .host, .flash, .survey, .net, .twin] [0x3, 0xC, 0x10, 0x15])) ∧
    (Completes .renderSpareSwap s (Framed s [.outbox, .host, .ren, .health, .net, .twin] [0x3, 0xC, 0x10, 0x12, 0x17, 0x20])) ∧
    (∀ (p : Packet), Completes (.positionStream p) s (Framed s [.outbox, .host, .scene, .health, .net, .twin] [0x3, 0xC, 0x10,
        0x11, 0x18])) ∧
    (Completes .layoutCommitDone s (Framed s [.outbox, .host, .scene, .ren, .net, .twin] [0x3, 0xC, 0x10, 0x11, 0x12, 0x13])) ∧
    (Completes .glazeEnd s (Framed s [.outbox, .host, .cal, .out, .survey, .net, .twin] [0x3, 0xB, 0xC, 0x10, 0x11, 0x13, 0x15])) ∧
    (∀ (k : Nat), Completes (.crcScanDone k) s (Unmoved s [.outbox, .host, .freeIx, .crc, .health, .net, .twin] [0x3, 0x6, 0x8,
        0xC, 0x10])) ∧
    (Completes .surveyWindowEnd s (Framed s [.outbox, .host, .scene, .out, .survey, .net, .twin] [0x3, 0xC, 0x10, 0x11, 0x15])) ∧
    (∀ (m : Nat) (v : Word), Completes (.smudgeClockGo m v) s (Framed s [.outbox, .host, .clk, .time, .flash, .health, .net,
        .twin, .update] [0x0, 0x1, 0x2, 0x3, 0x5, 0xC, 0x10, 0x17, 0x18, 0x19, 0x20]))

/-- Which bytes of the memories a command leaves as they are: all but the ring of the trace and the 8-byte words of what it stores. -/
def Obligations.CommandsKeepOtherBytes : Prop :=
  ∀ (s t : State) (a : Nat), apart a t.core.traceBase t.core.traceSize →
    (∀ i : Instr, writesMemory i = false → mayLoseSram i = false → exec i s = .next t → SameByte a s t) ∧
    (∀ i : Instr, mayLoseSram i = true → exec i s = .next t → t.dramByte a = s.dramByte a) ∧
    (∀ i : Instr, mayLoseSram i = true → sramLost s.core t.core = false → exec i s = .next t → t.sramByte a = s.sramByte a) ∧
    (∀ (m id addr outPort outTarget outAll : Nat) (bytes : List Byte) (other : Bool), apart a addr bytes.length →
      exec (.dramWrite m id addr bytes outPort outTarget outAll other) s = .next t → SameByte a s t) ∧
    (∀ (y n : Nat) (write : Bool) (bytes : List Byte), apart a (s.core.f F.HOST_BAR2_BASE_BASE * 2 ^ 28 + y) bytes.length →
      exec (.bar2Access y write bytes n) s = .next t → SameByte a s t) ∧
    (∀ (m : Nat) (q : HeldReq), s.core.atl.held.find? (fun x => decide (x.port = m)) = some q →
      apart a q.addr ((q.data.map List.length).getD 0) → exec (.fabricHeldIssue m) s = .next t → SameByte a s t) ∧
    (∀ (k n : Nat) (x : Xfer), smGet (fun _ => none) s.core.brush.xfers (4 * k + n) = some x → apart a x.addr (4 * x.count) →
      exec (.xferComplete k n) s = .next t → SameByte a s t)
end

