-- ==== Sys2Proof/Laws/Bits.lean ====
section
/-! SUPPORT. Reading back the bits of a word that were written, and the bits beside them. -/

namespace Sys2Proof.Machine

/-- A word split at a field: what lies below it, the field, and what lies above it. -/
theorem field_split (n lo k : Nat) : n = n % 2 ^ lo + (n / 2 ^ lo % 2 ^ k) * 2 ^ lo + n / 2 ^ (lo + k) * 2 ^ (lo + k) := by
  have h1 := Nat.div_add_mod n (2 ^ lo)
  have h2 := Nat.div_add_mod (n / 2 ^ lo) (2 ^ k)
  have h3 : n / 2 ^ lo / 2 ^ k = n / 2 ^ (lo + k) := by rw [Nat.div_div_eq_div_mul, ← pow_add]
  rw [h3] at h2
  have h4 : (2 : Nat) ^ (lo + k) = 2 ^ lo * 2 ^ k := pow_add 2 lo k
  rw [h4] at h2 ⊢
  calc n = 2 ^ lo * (n / 2 ^ lo) + n % 2 ^ lo := h1.symm
    _ = 2 ^ lo * (2 ^ k * (n / (2 ^ lo * 2 ^ k)) + n / 2 ^ lo % 2 ^ k) + n % 2 ^ lo := by rw [h2]
    _ = _ := by ring

theorem withBits_toNat (w : Word) {hi lo : Nat} (v : Nat) (hl : lo ≤ hi) (h : hi < 32) :
    (withBits w hi lo v).toNat = w.toNat % 2 ^ lo + (v % 2 ^ (hi - lo + 1)) * 2 ^ lo + w.toNat / 2 ^ (hi + 1) * 2 ^ (hi + 1) := by
  have hw := w.isLt
  have hs := field_split w.toNat lo (hi - lo + 1)
  have e : lo + (hi - lo + 1) = hi + 1 := by omega
  rw [e] at hs
  have a : w.toNat / 2 ^ (hi + 1) < 2 ^ (32 - (hi + 1)) := by
    rw [Nat.div_lt_iff_lt_mul (by positivity), ← pow_add]; rwa [show 32 - (hi + 1) + (hi + 1) = 32 by omega]
  have b : w.toNat % 2 ^ lo < 2 ^ lo := Nat.mod_lt _ (by positivity)
  have d : v % 2 ^ (hi - lo + 1) < 2 ^ (hi - lo + 1) := Nat.mod_lt _ (by positivity)
  have p1 : (2 : Nat) ^ (hi + 1) = 2 ^ (hi - lo + 1) * 2 ^ lo := by rw [← pow_add]; congr 1; omega
  have p2 : (2 : Nat) ^ 32 = 2 ^ (32 - (hi + 1)) * 2 ^ (hi + 1) := by rw [← pow_add]; congr 1; omega
  simp only [withBits, BitVec.toNat_ofNat]
  apply Nat.mod_eq_of_lt
  have f : w.toNat % 2 ^ lo + (v % 2 ^ (hi - lo + 1)) * 2 ^ lo < 2 ^ (hi + 1) := by
    rw [p1]
    have := Nat.mul_le_mul_right (2 ^ lo) (Nat.succ_le_of_lt d)
    have e2 : (v % 2 ^ (hi - lo + 1) + 1) * 2 ^ lo = v % 2 ^ (hi - lo + 1) * 2 ^ lo + 2 ^ lo := by ring
    have e3 : (v % 2 ^ (hi - lo + 1)).succ * 2 ^ lo = v % 2 ^ (hi - lo + 1) * 2 ^ lo + 2 ^ lo := e2
    omega
  have g := Nat.mul_le_mul_right (2 ^ (hi + 1)) (Nat.succ_le_of_lt a)
  have e4 : (w.toNat / 2 ^ (hi + 1)).succ * 2 ^ (hi + 1) = w.toNat / 2 ^ (hi + 1) * 2 ^ (hi + 1) + 2 ^ (hi + 1) := Nat.succ_mul _ _
  rw [p2]; omega

/-- The field just written reads as written. -/
theorem bitsOf_withBits_same (w : Word) {hi lo : Nat} (v : Nat) (hl : lo ≤ hi) (h : hi < 32) :
    bitsOf (withBits w hi lo v) hi lo = v % 2 ^ (hi - lo + 1) := by
  have b : w.toNat % 2 ^ lo < 2 ^ lo := Nat.mod_lt _ (by positivity)
  have p1 : (2 : Nat) ^ (hi + 1) = 2 ^ (hi - lo + 1) * 2 ^ lo := by rw [← pow_add]; congr 1; omega
  unfold bitsOf
  rw [withBits_toNat w v hl h, p1]
  have : w.toNat % 2 ^ lo + v % 2 ^ (hi - lo + 1) * 2 ^ lo + w.toNat / (2 ^ (hi - lo + 1) * 2 ^ lo) * (2 ^ (hi - lo + 1) * 2 ^ lo) =
      w.toNat % 2 ^ lo + (v % 2 ^ (hi - lo + 1) + w.toNat / (2 ^ (hi - lo + 1) * 2 ^ lo) * 2 ^ (hi - lo + 1)) * 2 ^ lo := by ring
  rw [this, Nat.add_mul_div_right _ _ (by positivity), Nat.div_eq_of_lt b, zero_add, Nat.add_mul_mod_self_right, Nat.mod_mod]

/-- A field below the one written reads as before. -/
theorem bitsOf_withBits_below (w : Word) {hi lo hi' lo' : Nat} (v : Nat) (hl : lo ≤ hi) (h : hi < 32) (hd : hi' < lo) (hl' : lo' ≤ hi') :
    bitsOf (withBits w hi lo v) hi' lo' = bitsOf w hi' lo' := by
  unfold bitsOf
  rw [withBits_toNat w v hl h]
  have key : (w.toNat % 2 ^ lo + v % 2 ^ (hi - lo + 1) * 2 ^ lo + w.toNat / 2 ^ (hi + 1) * 2 ^ (hi + 1)) % 2 ^ lo = w.toNat % 2 ^ lo := by
    have p1 : (2 : Nat) ^ (hi + 1) = 2 ^ (hi - lo + 1) * 2 ^ lo := by rw [← pow_add]; congr 1; omega
    rw [p1, ← mul_assoc, Nat.add_mul_mod_self_right, Nat.add_mul_mod_self_right, Nat.mod_mod]
  have low : ∀ x : Nat, x / 2 ^ lo' % 2 ^ (hi' - lo' + 1) = (x % 2 ^ lo) / 2 ^ lo' % 2 ^ (hi' - lo' + 1) := by
    intro x
    have e : (2 : Nat) ^ lo = 2 ^ lo' * 2 ^ (lo - lo') := by rw [← pow_add]; congr 1; omega
    rw [e, Nat.mod_mul_right_div_self, Nat.mod_mod_of_dvd _ (pow_dvd_pow 2 (by omega))]
  rw [low, key, ← low]

/-- A field above the one written reads as before. -/
theorem bitsOf_withBits_above (w : Word) {hi lo hi' lo' : Nat} (v : Nat) (hl : lo ≤ hi) (h : hi < 32) (hd : hi < lo') :
    bitsOf (withBits w hi lo v) hi' lo' = bitsOf w hi' lo' := by
  unfold bitsOf
  rw [withBits_toNat w v hl h]
  have p1 : (2 : Nat) ^ (hi + 1) = 2 ^ (hi - lo + 1) * 2 ^ lo := by rw [← pow_add]; congr 1; omega
  have b : w.toNat % 2 ^ lo < 2 ^ lo := Nat.mod_lt _ (by positivity)
  have d : v % 2 ^ (hi - lo + 1) < 2 ^ (hi - lo + 1) := Nat.mod_lt _ (by positivity)
  have f : w.toNat % 2 ^ lo + (v % 2 ^ (hi - lo + 1)) * 2 ^ lo < 2 ^ (hi + 1) := by
    rw [p1]
    have := Nat.mul_le_mul_right (2 ^ lo) (Nat.succ_le_of_lt d)
    have e2 : (v % 2 ^ (hi - lo + 1)).succ * 2 ^ lo = v % 2 ^ (hi - lo + 1) * 2 ^ lo + 2 ^ lo := Nat.succ_mul _ _
    omega
  have e : (2 : Nat) ^ lo' = 2 ^ (hi + 1) * 2 ^ (lo' - (hi + 1)) := by rw [← pow_add]; congr 1; omega
  rw [e, ← Nat.div_div_eq_div_mul, ← Nat.div_div_eq_div_mul, Nat.add_mul_div_right _ _ (by positivity), Nat.div_eq_of_lt f, zero_add]

end Sys2Proof.Machine
end

