-- ==== Sys2Proof/Laws/SMap.lean ====
section
/-! SUPPORT. Read-after-write laws of the sparse maps, and that every write keeps the canonical form. -/

namespace Sys2Proof.Machine
variable {α : Type}

theorem smGet_smErase_same (d : Nat → α) (m : SMap α) (k : Nat) : smGet d (smErase k m) k = d k := by
  induction m with
  | nil => rfl
  | cons p t ih =>
    obtain ⟨j, v⟩ := p
    by_cases h : j = k
    · simp [smErase, h, ih]
    · simp [smErase, smGet, h, ih]

theorem smGet_smErase_ne (d : Nat → α) (m : SMap α) {k k' : Nat} (h : k' ≠ k) :
    smGet d (smErase k m) k' = smGet d m k' := by
  induction m with
  | nil => rfl
  | cons p t ih =>
    obtain ⟨j, v⟩ := p
    by_cases hj : j = k
    · subst hj; simp [smErase, smGet, ih, Ne.symm h]
    · by_cases hk : j = k'
      · subst hk; simp [smErase, smGet, h]
      · simp [smErase, smGet, hj, hk, ih]

theorem smGet_smInsert_ne (d : Nat → α) (m : SMap α) {k k' : Nat} (v : α) (h : k' ≠ k) :
    smGet d (smInsert k v m) k' = smGet d m k' := by
  induction m with
  | nil => simp [smInsert, smGet, Ne.symm h]
  | cons p t ih =>
    obtain ⟨j, w⟩ := p
    by_cases hj : k < j
    · simp [smInsert, smGet, hj, Ne.symm h]
    · simp [smInsert, smGet, hj, ih]

theorem smGet_smInsert_erase (d : Nat → α) (m : SMap α) (k : Nat) (v : α) :
    smGet d (smInsert k v (smErase k m)) k = v := by
  induction m with
  | nil => simp [smErase, smInsert, smGet]
  | cons p t ih =>
    obtain ⟨j, w⟩ := p
    by_cases hj : j = k
    · simp [smErase, hj, ih]
    · by_cases hk : k < j
      · simp [smErase, smInsert, smGet, hj, hk]
      · simp [smErase, smInsert, smGet, hj, hk, ih]

/-- A read of the key just written gives the value written. -/
@[simp] theorem smGet_smSet_same [DecidableEq α] (d : Nat → α) (m : SMap α) (k : Nat) (v : α) :
    smGet d (smSet d m k v) k = v := by
  unfold smSet
  split
  · next h => rw [smGet_smErase_same, h]
  · exact smGet_smInsert_erase d m k v

/-- A write leaves every other key as it was. -/
theorem smGet_smSet_ne [DecidableEq α] (d : Nat → α) (m : SMap α) {k k' : Nat} (v : α) (h : k' ≠ k) :
    smGet d (smSet d m k v) k' = smGet d m k' := by
  unfold smSet
  split
  · exact smGet_smErase_ne d m h
  · rw [smGet_smInsert_ne d _ v h, smGet_smErase_ne d m h]

/-- Read after write, both cases at once. -/
theorem smGet_smSet [DecidableEq α] (d : Nat → α) (m : SMap α) (k k' : Nat) (v : α) :
    smGet d (smSet d m k v) k' = if k' = k then v else smGet d m k' := by
  split
  · next h => rw [h, smGet_smSet_same]
  · next h => exact smGet_smSet_ne d m v h

theorem smAbove_mono {b b' : Nat} (h : b' ≤ b) {m : SMap α} (hm : smAbove b m = true) : smAbove b' m = true := by
  induction m with
  | nil => rfl
  | cons p t ih => simp [smAbove] at hm ⊢; exact ⟨by omega, ih hm.2⟩

theorem smAbove_smErase {b k : Nat} {m : SMap α} (hm : smAbove b m = true) : smAbove b (smErase k m) = true := by
  induction m with
  | nil => rfl
  | cons p t ih =>
    obtain ⟨j, v⟩ := p
    simp [smAbove] at hm
    by_cases h : j = k <;> simp [smErase, smAbove, h, ih hm.2]
    exact hm.1

theorem smWf_smErase [DecidableEq α] (d : Nat → α) {m : SMap α} (k : Nat) (hm : smWf d m = true) :
    smWf d (smErase k m) = true := by
  induction m with
  | nil => rfl
  | cons p t ih =>
    obtain ⟨j, v⟩ := p
    simp [smWf] at hm
    by_cases h : j = k <;> simp [smErase, smWf, h, ih hm.2]
    exact ⟨hm.1.1, smAbove_smErase hm.1.2⟩

theorem smAbove_smInsert {b k : Nat} {v : α} {m : SMap α} (hb : b < k) (hm : smAbove b m = true) :
    smAbove b (smInsert k v m) = true := by
  induction m with
  | nil => simp [smInsert, smAbove, hb]
  | cons p t ih =>
    obtain ⟨j, w⟩ := p
    simp [smAbove] at hm
    by_cases h : k < j <;> simp [smInsert, smAbove, h, hm, hb, ih]

theorem smWf_smInsert [DecidableEq α] (d : Nat → α) {m : SMap α} {k : Nat} {v : α} (hv : v ≠ d k)
    (hk : ∀ w, (k, w) ∉ m) (hm : smWf d m = true) : smWf d (smInsert k v m) = true := by
  induction m with
  | nil => simp [smInsert, smWf, smAbove, hv]
  | cons p t ih =>
    obtain ⟨j, w⟩ := p
    simp [smWf] at hm
    have hjk : j ≠ k := by rintro rfl; exact hk w (by simp)
    by_cases h : k < j
    · simp [smInsert, smWf, smAbove, h, hv, hm]
      exact smAbove_mono (by omega) hm.1.2
    · simp [smInsert, smWf, h, hm.1.1]
      exact ⟨smAbove_smInsert (by omega) hm.1.2, ih (fun w hw => hk w (by simp [hw])) hm.2⟩

theorem not_mem_smErase (k : Nat) (m : SMap α) (w : α) : (k, w) ∉ smErase k m := by
  induction m with
  | nil => simp [smErase]
  | cons p t ih =>
    obtain ⟨j, v⟩ := p
    by_cases h : j = k
    · simp [smErase, h, ih]
    · simp [smErase, h, ih, Ne.symm h]

/-- Every write keeps the canonical form. -/
theorem smWf_smSet [DecidableEq α] (d : Nat → α) {m : SMap α} (k : Nat) (v : α) (hm : smWf d m = true) :
    smWf d (smSet d m k v) = true := by
  unfold smSet
  split
  · exact smWf_smErase d k hm
  · next h => exact smWf_smInsert d h (not_mem_smErase k m) (smWf_smErase d k hm)

end Sys2Proof.Machine
end

