-- ==== Sys2Proof/Laws/Ops.lean ====
section
/-! SUPPORT. What the shared operations read back and what they leave alone: registers and fields, interrupts, counters, messages,
replies and notices. -/

namespace Sys2Proof.Machine

/-! ### Registers and fields -/

@[simp] theorem Core.get_put_same (c : Core) (off : Nat) (w : Word) : (c.put off w).get off = w := smGet_smSet_same _ _ _ _

theorem Core.get_put_ne (c : Core) {off off' : Nat} (w : Word) (h : off' ≠ off) : (c.put off w).get off' = c.get off' :=
  smGet_smSet_ne _ _ _ h

/-- A register reads what was written last. -/
theorem Core.get_put (c : Core) (off off' : Nat) (w : Word) : (c.put off w).get off' = if off' = off then w else c.get off' :=
  smGet_smSet _ _ _ _ _

theorem Core.get_setF_ne (c : Core) {x : Field} {off : Nat} (v : Nat) (h : off ≠ x.off) : (c.setF x v).get off = c.get off :=
  c.get_put_ne _ h

/-- A field reads as it was written. -/
theorem Core.f_setF_same (c : Core) (x : Field) (v : Nat) (hl : x.lo ≤ x.hi) (h : x.hi < 32) :
    (c.setF x v).f x = v % 2 ^ (x.hi - x.lo + 1) := by
  unfold Core.f Core.setF
  rw [Core.get_put_same, bitsOf_withBits_same _ _ hl h]

/-- Two fields do not share a bit. -/
def Field.apart (x y : Field) : Bool := x.off != y.off || decide (x.hi < y.lo) || decide (y.hi < x.lo)

/-- A field that shares no bit with the one written reads as before. -/
theorem Core.f_setF_apart (c : Core) {x y : Field} (v : Nat) (hx : x.lo ≤ x.hi) (h : x.hi < 32) (hy : y.lo ≤ y.hi)
    (ha : x.apart y = true) : (c.setF x v).f y = c.f y := by
  unfold Core.f Core.setF
  by_cases e : x.off = y.off
  · rw [e, Core.get_put_same]
    simp [Field.apart, e] at ha
    rcases ha with ha | ha
    · exact bitsOf_withBits_above _ _ hx h ha
    · exact bitsOf_withBits_below _ _ hx h ha hy
  · rw [Core.get_put_ne _ _ (Ne.symm e)]

/-! ### What each operation leaves alone -/

/-- Everything beside registers, messages and the host interface. -/
def Core.rest (c : Core) : Core := { c with regs := [], outbox := [], host := {} }

/-- Everything beside registers, messages, the host interface, the network ports and the twin link. -/
def Core.still (c : Core) : Core := { c with regs := [], outbox := [], host := {}, net := {}, twin := {} }

theorem Core.still_of_rest {c d : Core} (h : c.rest = d.rest) : c.still = d.still := by
  have := congrArg (fun c : Core => { c with net := {}, twin := {} }) h
  exact this

/-- A fold whose every step leaves a projection alone leaves it alone. -/
theorem foldl_keeps {α β γ : Type} (g : α → γ) (f : α → β → α) (h : ∀ a b, g (f a b) = g a) (l : List β) (a : α) :
    g (l.foldl f a) = g a := by
  induction l generalizing a with
  | nil => rfl
  | cons b t ih => rw [List.foldl_cons, ih, h]

@[simp] theorem Core.put_rest (c : Core) (off : Nat) (w : Word) : (c.put off w).rest = c.rest := (rfl)
@[simp] theorem Core.put_shadow (c : Core) (off : Nat) (w : Word) : (c.put off w).shadow = c.shadow := (congrArg Core.shadow (Core.put_rest c off w) :)
@[simp] theorem Core.put_freeIx (c : Core) (off : Nat) (w : Word) : (c.put off w).freeIx = c.freeIx := (congrArg Core.freeIx (Core.put_rest c off w) :)
@[simp] theorem Core.put_power (c : Core) (off : Nat) (w : Word) : (c.put off w).power = c.power := (congrArg Core.power (Core.put_rest c off w) :)
@[simp] theorem Core.put_clk (c : Core) (off : Nat) (w : Word) : (c.put off w).clk = c.clk := (congrArg Core.clk (Core.put_rest c off w) :)
@[simp] theorem Core.put_time (c : Core) (off : Nat) (w : Word) : (c.put off w).time = c.time := (congrArg Core.time (Core.put_rest c off w) :)
@[simp] theorem Core.put_cfg (c : Core) (off : Nat) (w : Word) : (c.put off w).cfg = c.cfg := (congrArg Core.cfg (Core.put_rest c off w) :)
@[simp] theorem Core.put_scene (c : Core) (off : Nat) (w : Word) : (c.put off w).scene = c.scene := (congrArg Core.scene (Core.put_rest c off w) :)
@[simp] theorem Core.put_cal (c : Core) (off : Nat) (w : Word) : (c.put off w).cal = c.cal := (congrArg Core.cal (Core.put_rest c off w) :)
@[simp] theorem Core.put_ren (c : Core) (off : Nat) (w : Word) : (c.put off w).ren = c.ren := (congrArg Core.ren (Core.put_rest c off w) :)
@[simp] theorem Core.put_mon (c : Core) (off : Nat) (w : Word) : (c.put off w).mon = c.mon := (congrArg Core.mon (Core.put_rest c off w) :)
@[simp] theorem Core.put_out (c : Core) (off : Nat) (w : Word) : (c.put off w).out = c.out := (congrArg Core.out (Core.put_rest c off w) :)
@[simp] theorem Core.put_memc (c : Core) (off : Nat) (w : Word) : (c.put off w).memc = c.memc := (congrArg Core.memc (Core.put_rest c off w) :)
@[simp] theorem Core.put_flash (c : Core) (off : Nat) (w : Word) : (c.put off w).flash = c.flash := (congrArg Core.flash (Core.put_rest c off w) :)
@[simp] theorem Core.put_crc (c : Core) (off : Nat) (w : Word) : (c.put off w).crc = c.crc := (congrArg Core.crc (Core.put_rest c off w) :)
@[simp] theorem Core.put_health (c : Core) (off : Nat) (w : Word) : (c.put off w).health = c.health := (congrArg Core.health (Core.put_rest c off w) :)
@[simp] theorem Core.put_brush (c : Core) (off : Nat) (w : Word) : (c.put off w).brush = c.brush := (congrArg Core.brush (Core.put_rest c off w) :)
@[simp] theorem Core.put_atl (c : Core) (off : Nat) (w : Word) : (c.put off w).atl = c.atl := (congrArg Core.atl (Core.put_rest c off w) :)
@[simp] theorem Core.put_survey (c : Core) (off : Nat) (w : Word) : (c.put off w).survey = c.survey := (congrArg Core.survey (Core.put_rest c off w) :)
@[simp] theorem Core.put_arm (c : Core) (off : Nat) (w : Word) : (c.put off w).arm = c.arm := (congrArg Core.arm (Core.put_rest c off w) :)
@[simp] theorem Core.put_update (c : Core) (off : Nat) (w : Word) : (c.put off w).update = c.update := (congrArg Core.update (Core.put_rest c off w) :)
@[simp] theorem Core.put_net (c : Core) (off : Nat) (w : Word) : (c.put off w).net = c.net := (congrArg Core.net (Core.put_rest c off w) :)
@[simp] theorem Core.put_twin (c : Core) (off : Nat) (w : Word) : (c.put off w).twin = c.twin := (congrArg Core.twin (Core.put_rest c off w) :)
@[simp] theorem Core.setF_rest (c : Core) (x : Field) (v : Nat) : (c.setF x v).rest = c.rest := (rfl)
@[simp] theorem Core.setF_shadow (c : Core) (x : Field) (v : Nat) : (c.setF x v).shadow = c.shadow := (congrArg Core.shadow (Core.setF_rest c x v) :)
@[simp] theorem Core.setF_freeIx (c : Core) (x : Field) (v : Nat) : (c.setF x v).freeIx = c.freeIx := (congrArg Core.freeIx (Core.setF_rest c x v) :)
@[simp] theorem Core.setF_power (c : Core) (x : Field) (v : Nat) : (c.setF x v).power = c.power := (congrArg Core.power (Core.setF_rest c x v) :)
@[simp] theorem Core.setF_clk (c : Core) (x : Field) (v : Nat) : (c.setF x v).clk = c.clk := (congrArg Core.clk (Core.setF_rest c x v) :)
@[simp] theorem Core.setF_time (c : Core) (x : Field) (v : Nat) : (c.setF x v).time = c.time := (congrArg Core.time (Core.setF_rest c x v) :)
@[simp] theorem Core.setF_cfg (c : Core) (x : Field) (v : Nat) : (c.setF x v).cfg = c.cfg := (congrArg Core.cfg (Core.setF_rest c x v) :)
@[simp] theorem Core.setF_scene (c : Core) (x : Field) (v : Nat) : (c.setF x v).scene = c.scene := (congrArg Core.scene (Core.setF_rest c x v) :)
@[simp] theorem Core.setF_cal (c : Core) (x : Field) (v : Nat) : (c.setF x v).cal = c.cal := (congrArg Core.cal (Core.setF_rest c x v) :)
@[simp] theorem Core.setF_ren (c : Core) (x : Field) (v : Nat) : (c.setF x v).ren = c.ren := (congrArg Core.ren (Core.setF_rest c x v) :)
@[simp] theorem Core.setF_mon (c : Core) (x : Field) (v : Nat) : (c.setF x v).mon = c.mon := (congrArg Core.mon (Core.setF_rest c x v) :)
@[simp] theorem Core.setF_out (c : Core) (x : Field) (v : Nat) : (c.setF x v).out = c.out := (congrArg Core.out (Core.setF_rest c x v) :)
@[simp] theorem Core.setF_memc (c : Core) (x : Field) (v : Nat) : (c.setF x v).memc = c.memc := (congrArg Core.memc (Core.setF_rest c x v) :)
@[simp] theorem Core.setF_flash (c : Core) (x : Field) (v : Nat) : (c.setF x v).flash = c.flash := (congrArg Core.flash (Core.setF_rest c x v) :)
@[simp] theorem Core.setF_crc (c : Core) (x : Field) (v : Nat) : (c.setF x v).crc = c.crc := (congrArg Core.crc (Core.setF_rest c x v) :)
@[simp] theorem Core.setF_health (c : Core) (x : Field) (v : Nat) : (c.setF x v).health = c.health := (congrArg Core.health (Core.setF_rest c x v) :)
@[simp] theorem Core.setF_brush (c : Core) (x : Field) (v : Nat) : (c.setF x v).brush = c.brush := (congrArg Core.brush (Core.setF_rest c x v) :)
@[simp] theorem Core.setF_atl (c : Core) (x : Field) (v : Nat) : (c.setF x v).atl = c.atl := (congrArg Core.atl (Core.setF_rest c x v) :)
@[simp] theorem Core.setF_survey (c : Core) (x : Field) (v : Nat) : (c.setF x v).survey = c.survey := (congrArg Core.survey (Core.setF_rest c x v) :)
@[simp] theorem Core.setF_arm (c : Core) (x : Field) (v : Nat) : (c.setF x v).arm = c.arm := (congrArg Core.arm (Core.setF_rest c x v) :)
@[simp] theorem Core.setF_update (c : Core) (x : Field) (v : Nat) : (c.setF x v).update = c.update := (congrArg Core.update (Core.setF_rest c x v) :)
@[simp] theorem Core.setF_net (c : Core) (x : Field) (v : Nat) : (c.setF x v).net = c.net := (congrArg Core.net (Core.setF_rest c x v) :)
@[simp] theorem Core.setF_twin (c : Core) (x : Field) (v : Nat) : (c.setF x v).twin = c.twin := (congrArg Core.twin (Core.setF_rest c x v) :)
@[simp] theorem Core.setB_rest (c : Core) (x : Field) (b : Bool) : (c.setB x b).rest = c.rest := (rfl)
@[simp] theorem Core.setB_shadow (c : Core) (x : Field) (b : Bool) : (c.setB x b).shadow = c.shadow := (congrArg Core.shadow (Core.setB_rest c x b) :)
@[simp] theorem Core.setB_freeIx (c : Core) (x : Field) (b : Bool) : (c.setB x b).freeIx = c.freeIx := (congrArg Core.freeIx (Core.setB_rest c x b) :)
@[simp] theorem Core.setB_power (c : Core) (x : Field) (b : Bool) : (c.setB x b).power = c.power := (congrArg Core.power (Core.setB_rest c x b) :)
@[simp] theorem Core.setB_clk (c : Core) (x : Field) (b : Bool) : (c.setB x b).clk = c.clk := (congrArg Core.clk (Core.setB_rest c x b) :)
@[simp] theorem Core.setB_time (c : Core) (x : Field) (b : Bool) : (c.setB x b).time = c.time := (congrArg Core.time (Core.setB_rest c x b) :)
@[simp] theorem Core.setB_cfg (c : Core) (x : Field) (b : Bool) : (c.setB x b).cfg = c.cfg := (congrArg Core.cfg (Core.setB_rest c x b) :)
@[simp] theorem Core.setB_scene (c : Core) (x : Field) (b : Bool) : (c.setB x b).scene = c.scene := (congrArg Core.scene (Core.setB_rest c x b) :)
@[simp] theorem Core.setB_cal (c : Core) (x : Field) (b : Bool) : (c.setB x b).cal = c.cal := (congrArg Core.cal (Core.setB_rest c x b) :)
@[simp] theorem Core.setB_ren (c : Core) (x : Field) (b : Bool) : (c.setB x b).ren = c.ren := (congrArg Core.ren (Core.setB_rest c x b) :)
@[simp] theorem Core.setB_mon (c : Core) (x : Field) (b : Bool) : (c.setB x b).mon = c.mon := (congrArg Core.mon (Core.setB_rest c x b) :)
@[simp] theorem Core.setB_out (c : Core) (x : Field) (b : Bool) : (c.setB x b).out = c.out := (congrArg Core.out (Core.setB_rest c x b) :)
@[simp] theorem Core.setB_memc (c : Core) (x : Field) (b : Bool) : (c.setB x b).memc = c.memc := (congrArg Core.memc (Core.setB_rest c x b) :)
@[simp] theorem Core.setB_flash (c : Core) (x : Field) (b : Bool) : (c.setB x b).flash = c.flash := (congrArg Core.flash (Core.setB_rest c x b) :)
@[simp] theorem Core.setB_crc (c : Core) (x : Field) (b : Bool) : (c.setB x b).crc = c.crc := (congrArg Core.crc (Core.setB_rest c x b) :)
@[simp] theorem Core.setB_health (c : Core) (x : Field) (b : Bool) : (c.setB x b).health = c.health := (congrArg Core.health (Core.setB_rest c x b) :)
@[simp] theorem Core.setB_brush (c : Core) (x : Field) (b : Bool) : (c.setB x b).brush = c.brush := (congrArg Core.brush (Core.setB_rest c x b) :)
@[simp] theorem Core.setB_atl (c : Core) (x : Field) (b : Bool) : (c.setB x b).atl = c.atl := (congrArg Core.atl (Core.setB_rest c x b) :)
@[simp] theorem Core.setB_survey (c : Core) (x : Field) (b : Bool) : (c.setB x b).survey = c.survey := (congrArg Core.survey (Core.setB_rest c x b) :)
@[simp] theorem Core.setB_arm (c : Core) (x : Field) (b : Bool) : (c.setB x b).arm = c.arm := (congrArg Core.arm (Core.setB_rest c x b) :)
@[simp] theorem Core.setB_update (c : Core) (x : Field) (b : Bool) : (c.setB x b).update = c.update := (congrArg Core.update (Core.setB_rest c x b) :)
@[simp] theorem Core.setB_net (c : Core) (x : Field) (b : Bool) : (c.setB x b).net = c.net := (congrArg Core.net (Core.setB_rest c x b) :)
@[simp] theorem Core.setB_twin (c : Core) (x : Field) (b : Bool) : (c.setB x b).twin = c.twin := (congrArg Core.twin (Core.setB_rest c x b) :)
@[simp] theorem Core.setFs_rest (c : Core) (x : Field) (v : Int) : (c.setFs x v).rest = c.rest := (rfl)
@[simp] theorem Core.put64_rest (c : Core) (lo hi v : Nat) : (c.put64 lo hi v).rest = c.rest := (rfl)
@[simp] theorem Core.send_rest (c : Core) (m : Msg) : (c.send m).rest = c.rest := (rfl)
@[simp] theorem Core.send_shadow (c : Core) (m : Msg) : (c.send m).shadow = c.shadow := (congrArg Core.shadow (Core.send_rest c m) :)
@[simp] theorem Core.send_freeIx (c : Core) (m : Msg) : (c.send m).freeIx = c.freeIx := (congrArg Core.freeIx (Core.send_rest c m) :)
@[simp] theorem Core.send_power (c : Core) (m : Msg) : (c.send m).power = c.power := (congrArg Core.power (Core.send_rest c m) :)
@[simp] theorem Core.send_clk (c : Core) (m : Msg) : (c.send m).clk = c.clk := (congrArg Core.clk (Core.send_rest c m) :)
@[simp] theorem Core.send_time (c : Core) (m : Msg) : (c.send m).time = c.time := (congrArg Core.time (Core.send_rest c m) :)
@[simp] theorem Core.send_cfg (c : Core) (m : Msg) : (c.send m).cfg = c.cfg := (congrArg Core.cfg (Core.send_rest c m) :)
@[simp] theorem Core.send_scene (c : Core) (m : Msg) : (c.send m).scene = c.scene := (congrArg Core.scene (Core.send_rest c m) :)
@[simp] theorem Core.send_cal (c : Core) (m : Msg) : (c.send m).cal = c.cal := (congrArg Core.cal (Core.send_rest c m) :)
@[simp] theorem Core.send_ren (c : Core) (m : Msg) : (c.send m).ren = c.ren := (congrArg Core.ren (Core.send_rest c m) :)
@[simp] theorem Core.send_mon (c : Core) (m : Msg) : (c.send m).mon = c.mon := (congrArg Core.mon (Core.send_rest c m) :)
@[simp] theorem Core.send_out (c : Core) (m : Msg) : (c.send m).out = c.out := (congrArg Core.out (Core.send_rest c m) :)
@[simp] theorem Core.send_memc (c : Core) (m : Msg) : (c.send m).memc = c.memc := (congrArg Core.memc (Core.send_rest c m) :)
@[simp] theorem Core.send_flash (c : Core) (m : Msg) : (c.send m).flash = c.flash := (congrArg Core.flash (Core.send_rest c m) :)
@[simp] theorem Core.send_crc (c : Core) (m : Msg) : (c.send m).crc = c.crc := (congrArg Core.crc (Core.send_rest c m) :)
@[simp] theorem Core.send_health (c : Core) (m : Msg) : (c.send m).health = c.health := (congrArg Core.health (Core.send_rest c m) :)
@[simp] theorem Core.send_brush (c : Core) (m : Msg) : (c.send m).brush = c.brush := (congrArg Core.brush (Core.send_rest c m) :)
@[simp] theorem Core.send_atl (c : Core) (m : Msg) : (c.send m).atl = c.atl := (congrArg Core.atl (Core.send_rest c m) :)
@[simp] theorem Core.send_survey (c : Core) (m : Msg) : (c.send m).survey = c.survey := (congrArg Core.survey (Core.send_rest c m) :)
@[simp] theorem Core.send_arm (c : Core) (m : Msg) : (c.send m).arm = c.arm := (congrArg Core.arm (Core.send_rest c m) :)
@[simp] theorem Core.send_update (c : Core) (m : Msg) : (c.send m).update = c.update := (congrArg Core.update (Core.send_rest c m) :)
@[simp] theorem Core.send_net (c : Core) (m : Msg) : (c.send m).net = c.net := (congrArg Core.net (Core.send_rest c m) :)
@[simp] theorem Core.send_twin (c : Core) (m : Msg) : (c.send m).twin = c.twin := (congrArg Core.twin (Core.send_rest c m) :)
@[simp] theorem Core.msix_rest (c : Core) (v : Nat) : (c.msix v).rest = c.rest := by unfold Core.msix; split <;> rfl
@[simp] theorem Core.ring_rest (c : Core) (b : Nat) : (c.ring b).rest = c.rest := by
  unfold Core.ring; dsimp only
  repeat' split
  all_goals simp
@[simp] theorem Core.ring_shadow (c : Core) (b : Nat) : (c.ring b).shadow = c.shadow := (congrArg Core.shadow (Core.ring_rest c b) :)
@[simp] theorem Core.ring_freeIx (c : Core) (b : Nat) : (c.ring b).freeIx = c.freeIx := (congrArg Core.freeIx (Core.ring_rest c b) :)
@[simp] theorem Core.ring_power (c : Core) (b : Nat) : (c.ring b).power = c.power := (congrArg Core.power (Core.ring_rest c b) :)
@[simp] theorem Core.ring_clk (c : Core) (b : Nat) : (c.ring b).clk = c.clk := (congrArg Core.clk (Core.ring_rest c b) :)
@[simp] theorem Core.ring_time (c : Core) (b : Nat) : (c.ring b).time = c.time := (congrArg Core.time (Core.ring_rest c b) :)
@[simp] theorem Core.ring_cfg (c : Core) (b : Nat) : (c.ring b).cfg = c.cfg := (congrArg Core.cfg (Core.ring_rest c b) :)
@[simp] theorem Core.ring_scene (c : Core) (b : Nat) : (c.ring b).scene = c.scene := (congrArg Core.scene (Core.ring_rest c b) :)
@[simp] theorem Core.ring_cal (c : Core) (b : Nat) : (c.ring b).cal = c.cal := (congrArg Core.cal (Core.ring_rest c b) :)
@[simp] theorem Core.ring_ren (c : Core) (b : Nat) : (c.ring b).ren = c.ren := (congrArg Core.ren (Core.ring_rest c b) :)
@[simp] theorem Core.ring_mon (c : Core) (b : Nat) : (c.ring b).mon = c.mon := (congrArg Core.mon (Core.ring_rest c b) :)
@[simp] theorem Core.ring_out (c : Core) (b : Nat) : (c.ring b).out = c.out := (congrArg Core.out (Core.ring_rest c b) :)
@[simp] theorem Core.ring_memc (c : Core) (b : Nat) : (c.ring b).memc = c.memc := (congrArg Core.memc (Core.ring_rest c b) :)
@[simp] theorem Core.ring_flash (c : Core) (b : Nat) : (c.ring b).flash = c.flash := (congrArg Core.flash (Core.ring_rest c b) :)
@[simp] theorem Core.ring_crc (c : Core) (b : Nat) : (c.ring b).crc = c.crc := (congrArg Core.crc (Core.ring_rest c b) :)
@[simp] theorem Core.ring_health (c : Core) (b : Nat) : (c.ring b).health = c.health := (congrArg Core.health (Core.ring_rest c b) :)
@[simp] theorem Core.ring_brush (c : Core) (b : Nat) : (c.ring b).brush = c.brush := (congrArg Core.brush (Core.ring_rest c b) :)
@[simp] theorem Core.ring_atl (c : Core) (b : Nat) : (c.ring b).atl = c.atl := (congrArg Core.atl (Core.ring_rest c b) :)
@[simp] theorem Core.ring_survey (c : Core) (b : Nat) : (c.ring b).survey = c.survey := (congrArg Core.survey (Core.ring_rest c b) :)
@[simp] theorem Core.ring_arm (c : Core) (b : Nat) : (c.ring b).arm = c.arm := (congrArg Core.arm (Core.ring_rest c b) :)
@[simp] theorem Core.ring_update (c : Core) (b : Nat) : (c.ring b).update = c.update := (congrArg Core.update (Core.ring_rest c b) :)
@[simp] theorem Core.ring_net (c : Core) (b : Nat) : (c.ring b).net = c.net := (congrArg Core.net (Core.ring_rest c b) :)
@[simp] theorem Core.ring_twin (c : Core) (b : Nat) : (c.ring b).twin = c.twin := (congrArg Core.twin (Core.ring_rest c b) :)
@[simp] theorem Core.fireSource_rest (c : Core) (st : Nat) : (c.fireSource st).rest = c.rest := by unfold Core.fireSource; dsimp only; split <;> simp
@[simp] theorem Core.raise_rest (c : Core) (x : Field) : (c.raise x).rest = c.rest := by
  unfold Core.raise; dsimp only
  repeat' split
  all_goals first | rfl | exact (Core.fireSource_rest _ _).trans rfl
@[simp] theorem Core.raise_shadow (c : Core) (x : Field) : (c.raise x).shadow = c.shadow := (congrArg Core.shadow (Core.raise_rest c x) :)
@[simp] theorem Core.raise_freeIx (c : Core) (x : Field) : (c.raise x).freeIx = c.freeIx := (congrArg Core.freeIx (Core.raise_rest c x) :)
@[simp] theorem Core.raise_power (c : Core) (x : Field) : (c.raise x).power = c.power := (congrArg Core.power (Core.raise_rest c x) :)
@[simp] theorem Core.raise_clk (c : Core) (x : Field) : (c.raise x).clk = c.clk := (congrArg Core.clk (Core.raise_rest c x) :)
@[simp] theorem Core.raise_time (c : Core) (x : Field) : (c.raise x).time = c.time := (congrArg Core.time (Core.raise_rest c x) :)
@[simp] theorem Core.raise_cfg (c : Core) (x : Field) : (c.raise x).cfg = c.cfg := (congrArg Core.cfg (Core.raise_rest c x) :)
@[simp] theorem Core.raise_scene (c : Core) (x : Field) : (c.raise x).scene = c.scene := (congrArg Core.scene (Core.raise_rest c x) :)
@[simp] theorem Core.raise_cal (c : Core) (x : Field) : (c.raise x).cal = c.cal := (congrArg Core.cal (Core.raise_rest c x) :)
@[simp] theorem Core.raise_ren (c : Core) (x : Field) : (c.raise x).ren = c.ren := (congrArg Core.ren (Core.raise_rest c x) :)
@[simp] theorem Core.raise_mon (c : Core) (x : Field) : (c.raise x).mon = c.mon := (congrArg Core.mon (Core.raise_rest c x) :)
@[simp] theorem Core.raise_out (c : Core) (x : Field) : (c.raise x).out = c.out := (congrArg Core.out (Core.raise_rest c x) :)
@[simp] theorem Core.raise_memc (c : Core) (x : Field) : (c.raise x).memc = c.memc := (congrArg Core.memc (Core.raise_rest c x) :)
@[simp] theorem Core.raise_flash (c : Core) (x : Field) : (c.raise x).flash = c.flash := (congrArg Core.flash (Core.raise_rest c x) :)
@[simp] theorem Core.raise_crc (c : Core) (x : Field) : (c.raise x).crc = c.crc := (congrArg Core.crc (Core.raise_rest c x) :)
@[simp] theorem Core.raise_health (c : Core) (x : Field) : (c.raise x).health = c.health := (congrArg Core.health (Core.raise_rest c x) :)
@[simp] theorem Core.raise_brush (c : Core) (x : Field) : (c.raise x).brush = c.brush := (congrArg Core.brush (Core.raise_rest c x) :)
@[simp] theorem Core.raise_atl (c : Core) (x : Field) : (c.raise x).atl = c.atl := (congrArg Core.atl (Core.raise_rest c x) :)
@[simp] theorem Core.raise_survey (c : Core) (x : Field) : (c.raise x).survey = c.survey := (congrArg Core.survey (Core.raise_rest c x) :)
@[simp] theorem Core.raise_arm (c : Core) (x : Field) : (c.raise x).arm = c.arm := (congrArg Core.arm (Core.raise_rest c x) :)
@[simp] theorem Core.raise_update (c : Core) (x : Field) : (c.raise x).update = c.update := (congrArg Core.update (Core.raise_rest c x) :)
@[simp] theorem Core.raise_net (c : Core) (x : Field) : (c.raise x).net = c.net := (congrArg Core.net (Core.raise_rest c x) :)
@[simp] theorem Core.raise_twin (c : Core) (x : Field) : (c.raise x).twin = c.twin := (congrArg Core.twin (Core.raise_rest c x) :)
@[simp] theorem Core.raiseIf_rest (c : Core) (b : Bool) (x : Field) : (c.raiseIf b x).rest = c.rest := by unfold Core.raiseIf; split <;> simp
@[simp] theorem Core.raiseIf_shadow (c : Core) (b : Bool) (x : Field) : (c.raiseIf b x).shadow = c.shadow := (congrArg Core.shadow (Core.raiseIf_rest c b x) :)
@[simp] theorem Core.raiseIf_freeIx (c : Core) (b : Bool) (x : Field) : (c.raiseIf b x).freeIx = c.freeIx := (congrArg Core.freeIx (Core.raiseIf_rest c b x) :)
@[simp] theorem Core.raiseIf_power (c : Core) (b : Bool) (x : Field) : (c.raiseIf b x).power = c.power := (congrArg Core.power (Core.raiseIf_rest c b x) :)
@[simp] theorem Core.raiseIf_clk (c : Core) (b : Bool) (x : Field) : (c.raiseIf b x).clk = c.clk := (congrArg Core.clk (Core.raiseIf_rest c b x) :)
@[simp] theorem Core.raiseIf_time (c : Core) (b : Bool) (x : Field) : (c.raiseIf b x).time = c.time := (congrArg Core.time (Core.raiseIf_rest c b x) :)
@[simp] theorem Core.raiseIf_cfg (c : Core) (b : Bool) (x : Field) : (c.raiseIf b x).cfg = c.cfg := (congrArg Core.cfg (Core.raiseIf_rest c b x) :)
@[simp] theorem Core.raiseIf_scene (c : Core) (b : Bool) (x : Field) : (c.raiseIf b x).scene = c.scene := (congrArg Core.scene (Core.raiseIf_rest c b x) :)
@[simp] theorem Core.raiseIf_cal (c : Core) (b : Bool) (x : Field) : (c.raiseIf b x).cal = c.cal := (congrArg Core.cal (Core.raiseIf_rest c b x) :)
@[simp] theorem Core.raiseIf_ren (c : Core) (b : Bool) (x : Field) : (c.raiseIf b x).ren = c.ren := (congrArg Core.ren (Core.raiseIf_rest c b x) :)
@[simp] theorem Core.raiseIf_mon (c : Core) (b : Bool) (x : Field) : (c.raiseIf b x).mon = c.mon := (congrArg Core.mon (Core.raiseIf_rest c b x) :)
@[simp] theorem Core.raiseIf_out (c : Core) (b : Bool) (x : Field) : (c.raiseIf b x).out = c.out := (congrArg Core.out (Core.raiseIf_rest c b x) :)
@[simp] theorem Core.raiseIf_memc (c : Core) (b : Bool) (x : Field) : (c.raiseIf b x).memc = c.memc := (congrArg Core.memc (Core.raiseIf_rest c b x) :)
@[simp] theorem Core.raiseIf_flash (c : Core) (b : Bool) (x : Field) : (c.raiseIf b x).flash = c.flash := (congrArg Core.flash (Core.raiseIf_rest c b x) :)
@[simp] theorem Core.raiseIf_crc (c : Core) (b : Bool) (x : Field) : (c.raiseIf b x).crc = c.crc := (congrArg Core.crc (Core.raiseIf_rest c b x) :)
@[simp] theorem Core.raiseIf_health (c : Core) (b : Bool) (x : Field) : (c.raiseIf b x).health = c.health := (congrArg Core.health (Core.raiseIf_rest c b x) :)
@[simp] theorem Core.raiseIf_brush (c : Core) (b : Bool) (x : Field) : (c.raiseIf b x).brush = c.brush := (congrArg Core.brush (Core.raiseIf_rest c b x) :)
@[simp] theorem Core.raiseIf_atl (c : Core) (b : Bool) (x : Field) : (c.raiseIf b x).atl = c.atl := (congrArg Core.atl (Core.raiseIf_rest c b x) :)
@[simp] theorem Core.raiseIf_survey (c : Core) (b : Bool) (x : Field) : (c.raiseIf b x).survey = c.survey := (congrArg Core.survey (Core.raiseIf_rest c b x) :)
@[simp] theorem Core.raiseIf_arm (c : Core) (b : Bool) (x : Field) : (c.raiseIf b x).arm = c.arm := (congrArg Core.arm (Core.raiseIf_rest c b x) :)
@[simp] theorem Core.raiseIf_update (c : Core) (b : Bool) (x : Field) : (c.raiseIf b x).update = c.update := (congrArg Core.update (Core.raiseIf_rest c b x) :)
@[simp] theorem Core.raiseIf_net (c : Core) (b : Bool) (x : Field) : (c.raiseIf b x).net = c.net := (congrArg Core.net (Core.raiseIf_rest c b x) :)
@[simp] theorem Core.raiseIf_twin (c : Core) (b : Bool) (x : Field) : (c.raiseIf b x).twin = c.twin := (congrArg Core.twin (Core.raiseIf_rest c b x) :)
@[simp] theorem Core.raise?_rest (c : Core) (x : Option Field) : (c.raise? x).rest = c.rest := by cases x <;> simp [Core.raise?]
@[simp] theorem Core.countS_rest (c : Core) (x sat : Field) (n : Nat) : (c.countS x sat n).rest = c.rest := by unfold Core.countS; dsimp only; split <;> simp
@[simp] theorem Core.countS_shadow (c : Core) (x sat : Field) (n : Nat) : (c.countS x sat n).shadow = c.shadow := (congrArg Core.shadow (Core.countS_rest c x sat n) :)
@[simp] theorem Core.countS_freeIx (c : Core) (x sat : Field) (n : Nat) : (c.countS x sat n).freeIx = c.freeIx := (congrArg Core.freeIx (Core.countS_rest c x sat n) :)
@[simp] theorem Core.countS_power (c : Core) (x sat : Field) (n : Nat) : (c.countS x sat n).power = c.power := (congrArg Core.power (Core.countS_rest c x sat n) :)
@[simp] theorem Core.countS_clk (c : Core) (x sat : Field) (n : Nat) : (c.countS x sat n).clk = c.clk := (congrArg Core.clk (Core.countS_rest c x sat n) :)
@[simp] theorem Core.countS_time (c : Core) (x sat : Field) (n : Nat) : (c.countS x sat n).time = c.time := (congrArg Core.time (Core.countS_rest c x sat n) :)
@[simp] theorem Core.countS_cfg (c : Core) (x sat : Field) (n : Nat) : (c.countS x sat n).cfg = c.cfg := (congrArg Core.cfg (Core.countS_rest c x sat n) :)
@[simp] theorem Core.countS_scene (c : Core) (x sat : Field) (n : Nat) : (c.countS x sat n).scene = c.scene := (congrArg Core.scene (Core.countS_rest c x sat n) :)
@[simp] theorem Core.countS_cal (c : Core) (x sat : Field) (n : Nat) : (c.countS x sat n).cal = c.cal := (congrArg Core.cal (Core.countS_rest c x sat n) :)
@[simp] theorem Core.countS_ren (c : Core) (x sat : Field) (n : Nat) : (c.countS x sat n).ren = c.ren := (congrArg Core.ren (Core.countS_rest c x sat n) :)
@[simp] theorem Core.countS_mon (c : Core) (x sat : Field) (n : Nat) : (c.countS x sat n).mon = c.mon := (congrArg Core.mon (Core.countS_rest c x sat n) :)
@[simp] theorem Core.countS_out (c : Core) (x sat : Field) (n : Nat) : (c.countS x sat n).out = c.out := (congrArg Core.out (Core.countS_rest c x sat n) :)
@[simp] theorem Core.countS_memc (c : Core) (x sat : Field) (n : Nat) : (c.countS x sat n).memc = c.memc := (congrArg Core.memc (Core.countS_rest c x sat n) :)
@[simp] theorem Core.countS_flash (c : Core) (x sat : Field) (n : Nat) : (c.countS x sat n).flash = c.flash := (congrArg Core.flash (Core.countS_rest c x sat n) :)
@[simp] theorem Core.countS_crc (c : Core) (x sat : Field) (n : Nat) : (c.countS x sat n).crc = c.crc := (congrArg Core.crc (Core.countS_rest c x sat n) :)
@[simp] theorem Core.countS_health (c : Core) (x sat : Field) (n : Nat) : (c.countS x sat n).health = c.health := (congrArg Core.health (Core.countS_rest c x sat n) :)
@[simp] theorem Core.countS_brush (c : Core) (x sat : Field) (n : Nat) : (c.countS x sat n).brush = c.brush := (congrArg Core.brush (Core.countS_rest c x sat n) :)
@[simp] theorem Core.countS_atl (c : Core) (x sat : Field) (n : Nat) : (c.countS x sat n).atl = c.atl := (congrArg Core.atl (Core.countS_rest c x sat n) :)
@[simp] theorem Core.countS_survey (c : Core) (x sat : Field) (n : Nat) : (c.countS x sat n).survey = c.survey := (congrArg Core.survey (Core.countS_rest c x sat n) :)
@[simp] theorem Core.countS_arm (c : Core) (x sat : Field) (n : Nat) : (c.countS x sat n).arm = c.arm := (congrArg Core.arm (Core.countS_rest c x sat n) :)
@[simp] theorem Core.countS_update (c : Core) (x sat : Field) (n : Nat) : (c.countS x sat n).update = c.update := (congrArg Core.update (Core.countS_rest c x sat n) :)
@[simp] theorem Core.countS_net (c : Core) (x sat : Field) (n : Nat) : (c.countS x sat n).net = c.net := (congrArg Core.net (Core.countS_rest c x sat n) :)
@[simp] theorem Core.countS_twin (c : Core) (x sat : Field) (n : Nat) : (c.countS x sat n).twin = c.twin := (congrArg Core.twin (Core.countS_rest c x sat n) :)
@[simp] theorem Core.countN_rest (c : Core) (r n : Nat) : (c.countN r n).rest = c.rest := by simp [Core.countN]
@[simp] theorem Core.countN_shadow (c : Core) (r n : Nat) : (c.countN r n).shadow = c.shadow := (congrArg Core.shadow (Core.countN_rest c r n) :)
@[simp] theorem Core.countN_freeIx (c : Core) (r n : Nat) : (c.countN r n).freeIx = c.freeIx := (congrArg Core.freeIx (Core.countN_rest c r n) :)
@[simp] theorem Core.countN_power (c : Core) (r n : Nat) : (c.countN r n).power = c.power := (congrArg Core.power (Core.countN_rest c r n) :)
@[simp] theorem Core.countN_clk (c : Core) (r n : Nat) : (c.countN r n).clk = c.clk := (congrArg Core.clk (Core.countN_rest c r n) :)
@[simp] theorem Core.countN_time (c : Core) (r n : Nat) : (c.countN r n).time = c.time := (congrArg Core.time (Core.countN_rest c r n) :)
@[simp] theorem Core.countN_cfg (c : Core) (r n : Nat) : (c.countN r n).cfg = c.cfg := (congrArg Core.cfg (Core.countN_rest c r n) :)
@[simp] theorem Core.countN_scene (c : Core) (r n : Nat) : (c.countN r n).scene = c.scene := (congrArg Core.scene (Core.countN_rest c r n) :)
@[simp] theorem Core.countN_cal (c : Core) (r n : Nat) : (c.countN r n).cal = c.cal := (congrArg Core.cal (Core.countN_rest c r n) :)
@[simp] theorem Core.countN_ren (c : Core) (r n : Nat) : (c.countN r n).ren = c.ren := (congrArg Core.ren (Core.countN_rest c r n) :)
@[simp] theorem Core.countN_mon (c : Core) (r n : Nat) : (c.countN r n).mon = c.mon := (congrArg Core.mon (Core.countN_rest c r n) :)
@[simp] theorem Core.countN_out (c : Core) (r n : Nat) : (c.countN r n).out = c.out := (congrArg Core.out (Core.countN_rest c r n) :)
@[simp] theorem Core.countN_memc (c : Core) (r n : Nat) : (c.countN r n).memc = c.memc := (congrArg Core.memc (Core.countN_rest c r n) :)
@[simp] theorem Core.countN_flash (c : Core) (r n : Nat) : (c.countN r n).flash = c.flash := (congrArg Core.flash (Core.countN_rest c r n) :)
@[simp] theorem Core.countN_crc (c : Core) (r n : Nat) : (c.countN r n).crc = c.crc := (congrArg Core.crc (Core.countN_rest c r n) :)
@[simp] theorem Core.countN_health (c : Core) (r n : Nat) : (c.countN r n).health = c.health := (congrArg Core.health (Core.countN_rest c r n) :)
@[simp] theorem Core.countN_brush (c : Core) (r n : Nat) : (c.countN r n).brush = c.brush := (congrArg Core.brush (Core.countN_rest c r n) :)
@[simp] theorem Core.countN_atl (c : Core) (r n : Nat) : (c.countN r n).atl = c.atl := (congrArg Core.atl (Core.countN_rest c r n) :)
@[simp] theorem Core.countN_survey (c : Core) (r n : Nat) : (c.countN r n).survey = c.survey := (congrArg Core.survey (Core.countN_rest c r n) :)
@[simp] theorem Core.countN_arm (c : Core) (r n : Nat) : (c.countN r n).arm = c.arm := (congrArg Core.arm (Core.countN_rest c r n) :)
@[simp] theorem Core.countN_update (c : Core) (r n : Nat) : (c.countN r n).update = c.update := (congrArg Core.update (Core.countN_rest c r n) :)
@[simp] theorem Core.countN_net (c : Core) (r n : Nat) : (c.countN r n).net = c.net := (congrArg Core.net (Core.countN_rest c r n) :)
@[simp] theorem Core.countN_twin (c : Core) (r n : Nat) : (c.countN r n).twin = c.twin := (congrArg Core.twin (Core.countN_rest c r n) :)
@[simp] theorem Core.count_rest (c : Core) (r : Nat) : (c.count r).rest = c.rest := by simp [Core.count]
@[simp] theorem Core.count_shadow (c : Core) (r : Nat) : (c.count r).shadow = c.shadow := (congrArg Core.shadow (Core.count_rest c r) :)
@[simp] theorem Core.count_freeIx (c : Core) (r : Nat) : (c.count r).freeIx = c.freeIx := (congrArg Core.freeIx (Core.count_rest c r) :)
@[simp] theorem Core.count_power (c : Core) (r : Nat) : (c.count r).power = c.power := (congrArg Core.power (Core.count_rest c r) :)
@[simp] theorem Core.count_clk (c : Core) (r : Nat) : (c.count r).clk = c.clk := (congrArg Core.clk (Core.count_rest c r) :)
@[simp] theorem Core.count_time (c : Core) (r : Nat) : (c.count r).time = c.time := (congrArg Core.time (Core.count_rest c r) :)
@[simp] theorem Core.count_cfg (c : Core) (r : Nat) : (c.count r).cfg = c.cfg := (congrArg Core.cfg (Core.count_rest c r) :)
@[simp] theorem Core.count_scene (c : Core) (r : Nat) : (c.count r).scene = c.scene := (congrArg Core.scene (Core.count_rest c r) :)
@[simp] theorem Core.count_cal (c : Core) (r : Nat) : (c.count r).cal = c.cal := (congrArg Core.cal (Core.count_rest c r) :)
@[simp] theorem Core.count_ren (c : Core) (r : Nat) : (c.count r).ren = c.ren := (congrArg Core.ren (Core.count_rest c r) :)
@[simp] theorem Core.count_mon (c : Core) (r : Nat) : (c.count r).mon = c.mon := (congrArg Core.mon (Core.count_rest c r) :)
@[simp] theorem Core.count_out (c : Core) (r : Nat) : (c.count r).out = c.out := (congrArg Core.out (Core.count_rest c r) :)
@[simp] theorem Core.count_memc (c : Core) (r : Nat) : (c.count r).memc = c.memc := (congrArg Core.memc (Core.count_rest c r) :)
@[simp] theorem Core.count_flash (c : Core) (r : Nat) : (c.count r).flash = c.flash := (congrArg Core.flash (Core.count_rest c r) :)
@[simp] theorem Core.count_crc (c : Core) (r : Nat) : (c.count r).crc = c.crc := (congrArg Core.crc (Core.count_rest c r) :)
@[simp] theorem Core.count_health (c : Core) (r : Nat) : (c.count r).health = c.health := (congrArg Core.health (Core.count_rest c r) :)
@[simp] theorem Core.count_brush (c : Core) (r : Nat) : (c.count r).brush = c.brush := (congrArg Core.brush (Core.count_rest c r) :)
@[simp] theorem Core.count_atl (c : Core) (r : Nat) : (c.count r).atl = c.atl := (congrArg Core.atl (Core.count_rest c r) :)
@[simp] theorem Core.count_survey (c : Core) (r : Nat) : (c.count r).survey = c.survey := (congrArg Core.survey (Core.count_rest c r) :)
@[simp] theorem Core.count_arm (c : Core) (r : Nat) : (c.count r).arm = c.arm := (congrArg Core.arm (Core.count_rest c r) :)
@[simp] theorem Core.count_update (c : Core) (r : Nat) : (c.count r).update = c.update := (congrArg Core.update (Core.count_rest c r) :)
@[simp] theorem Core.count_net (c : Core) (r : Nat) : (c.count r).net = c.net := (congrArg Core.net (Core.count_rest c r) :)
@[simp] theorem Core.count_twin (c : Core) (r : Nat) : (c.count r).twin = c.twin := (congrArg Core.twin (Core.count_rest c r) :)
@[simp] theorem Core.countW_rest (c : Core) (r n : Nat) : (c.countW r n).rest = c.rest := by unfold Core.countW; dsimp only; split <;> simp
@[simp] theorem Core.countW_shadow (c : Core) (r n : Nat) : (c.countW r n).shadow = c.shadow := (congrArg Core.shadow (Core.countW_rest c r n) :)
@[simp] theorem Core.countW_freeIx (c : Core) (r n : Nat) : (c.countW r n).freeIx = c.freeIx := (congrArg Core.freeIx (Core.countW_rest c r n) :)
@[simp] theorem Core.countW_power (c : Core) (r n : Nat) : (c.countW r n).power = c.power := (congrArg Core.power (Core.countW_rest c r n) :)
@[simp] theorem Core.countW_clk (c : Core) (r n : Nat) : (c.countW r n).clk = c.clk := (congrArg Core.clk (Core.countW_rest c r n) :)
@[simp] theorem Core.countW_time (c : Core) (r n : Nat) : (c.countW r n).time = c.time := (congrArg Core.time (Core.countW_rest c r n) :)
@[simp] theorem Core.countW_cfg (c : Core) (r n : Nat) : (c.countW r n).cfg = c.cfg := (congrArg Core.cfg (Core.countW_rest c r n) :)
@[simp] theorem Core.countW_scene (c : Core) (r n : Nat) : (c.countW r n).scene = c.scene := (congrArg Core.scene (Core.countW_rest c r n) :)
@[simp] theorem Core.countW_cal (c : Core) (r n : Nat) : (c.countW r n).cal = c.cal := (congrArg Core.cal (Core.countW_rest c r n) :)
@[simp] theorem Core.countW_ren (c : Core) (r n : Nat) : (c.countW r n).ren = c.ren := (congrArg Core.ren (Core.countW_rest c r n) :)
@[simp] theorem Core.countW_mon (c : Core) (r n : Nat) : (c.countW r n).mon = c.mon := (congrArg Core.mon (Core.countW_rest c r n) :)
@[simp] theorem Core.countW_out (c : Core) (r n : Nat) : (c.countW r n).out = c.out := (congrArg Core.out (Core.countW_rest c r n) :)
@[simp] theorem Core.countW_memc (c : Core) (r n : Nat) : (c.countW r n).memc = c.memc := (congrArg Core.memc (Core.countW_rest c r n) :)
@[simp] theorem Core.countW_flash (c : Core) (r n : Nat) : (c.countW r n).flash = c.flash := (congrArg Core.flash (Core.countW_rest c r n) :)
@[simp] theorem Core.countW_crc (c : Core) (r n : Nat) : (c.countW r n).crc = c.crc := (congrArg Core.crc (Core.countW_rest c r n) :)
@[simp] theorem Core.countW_health (c : Core) (r n : Nat) : (c.countW r n).health = c.health := (congrArg Core.health (Core.countW_rest c r n) :)
@[simp] theorem Core.countW_brush (c : Core) (r n : Nat) : (c.countW r n).brush = c.brush := (congrArg Core.brush (Core.countW_rest c r n) :)
@[simp] theorem Core.countW_atl (c : Core) (r n : Nat) : (c.countW r n).atl = c.atl := (congrArg Core.atl (Core.countW_rest c r n) :)
@[simp] theorem Core.countW_survey (c : Core) (r n : Nat) : (c.countW r n).survey = c.survey := (congrArg Core.survey (Core.countW_rest c r n) :)
@[simp] theorem Core.countW_arm (c : Core) (r n : Nat) : (c.countW r n).arm = c.arm := (congrArg Core.arm (Core.countW_rest c r n) :)
@[simp] theorem Core.countW_update (c : Core) (r n : Nat) : (c.countW r n).update = c.update := (congrArg Core.update (Core.countW_rest c r n) :)
@[simp] theorem Core.countW_net (c : Core) (r n : Nat) : (c.countW r n).net = c.net := (congrArg Core.net (Core.countW_rest c r n) :)
@[simp] theorem Core.countW_twin (c : Core) (r n : Nat) : (c.countW r n).twin = c.twin := (congrArg Core.twin (Core.countW_rest c r n) :)
@[simp] theorem Core.setSession_rest (c : Core) (s : Session) : (c.setSession s).rest = c.rest := (rfl)
@[simp] theorem Core.markSent_rest (c : Core) (n : Nat) (q : Word) (b : Bool) : (c.markSent n q b).rest = c.rest := by unfold Core.markSent; split <;> simp
@[simp] theorem Core.taken_rest (c : Core) (op : Nat) (p : Packet) (st : Status) (l : List Byte) : (c.taken op p st l).rest = c.rest := by unfold Core.taken; split <;> simp
@[simp] theorem Core.popRing_rest (c : Core) (op : Nat) (p : Packet) : (c.popRing op p).rest = c.rest := by
  unfold Core.popRing; repeat' split
  all_goals rfl
@[simp] theorem Core.popRing_shadow (c : Core) (op : Nat) (p : Packet) : (c.popRing op p).shadow = c.shadow := (congrArg Core.shadow (Core.popRing_rest c op p) :)
@[simp] theorem Core.popRing_freeIx (c : Core) (op : Nat) (p : Packet) : (c.popRing op p).freeIx = c.freeIx := (congrArg Core.freeIx (Core.popRing_rest c op p) :)
@[simp] theorem Core.popRing_power (c : Core) (op : Nat) (p : Packet) : (c.popRing op p).power = c.power := (congrArg Core.power (Core.popRing_rest c op p) :)
@[simp] theorem Core.popRing_clk (c : Core) (op : Nat) (p : Packet) : (c.popRing op p).clk = c.clk := (congrArg Core.clk (Core.popRing_rest c op p) :)
@[simp] theorem Core.popRing_time (c : Core) (op : Nat) (p : Packet) : (c.popRing op p).time = c.time := (congrArg Core.time (Core.popRing_rest c op p) :)
@[simp] theorem Core.popRing_cfg (c : Core) (op : Nat) (p : Packet) : (c.popRing op p).cfg = c.cfg := (congrArg Core.cfg (Core.popRing_rest c op p) :)
@[simp] theorem Core.popRing_scene (c : Core) (op : Nat) (p : Packet) : (c.popRing op p).scene = c.scene := (congrArg Core.scene (Core.popRing_rest c op p) :)
@[simp] theorem Core.popRing_cal (c : Core) (op : Nat) (p : Packet) : (c.popRing op p).cal = c.cal := (congrArg Core.cal (Core.popRing_rest c op p) :)
@[simp] theorem Core.popRing_ren (c : Core) (op : Nat) (p : Packet) : (c.popRing op p).ren = c.ren := (congrArg Core.ren (Core.popRing_rest c op p) :)
@[simp] theorem Core.popRing_mon (c : Core) (op : Nat) (p : Packet) : (c.popRing op p).mon = c.mon := (congrArg Core.mon (Core.popRing_rest c op p) :)
@[simp] theorem Core.popRing_out (c : Core) (op : Nat) (p : Packet) : (c.popRing op p).out = c.out := (congrArg Core.out (Core.popRing_rest c op p) :)
@[simp] theorem Core.popRing_memc (c : Core) (op : Nat) (p : Packet) : (c.popRing op p).memc = c.memc := (congrArg Core.memc (Core.popRing_rest c op p) :)
@[simp] theorem Core.popRing_flash (c : Core) (op : Nat) (p : Packet) : (c.popRing op p).flash = c.flash := (congrArg Core.flash (Core.popRing_rest c op p) :)
@[simp] theorem Core.popRing_crc (c : Core) (op : Nat) (p : Packet) : (c.popRing op p).crc = c.crc := (congrArg Core.crc (Core.popRing_rest c op p) :)
@[simp] theorem Core.popRing_health (c : Core) (op : Nat) (p : Packet) : (c.popRing op p).health = c.health := (congrArg Core.health (Core.popRing_rest c op p) :)
@[simp] theorem Core.popRing_brush (c : Core) (op : Nat) (p : Packet) : (c.popRing op p).brush = c.brush := (congrArg Core.brush (Core.popRing_rest c op p) :)
@[simp] theorem Core.popRing_atl (c : Core) (op : Nat) (p : Packet) : (c.popRing op p).atl = c.atl := (congrArg Core.atl (Core.popRing_rest c op p) :)
@[simp] theorem Core.popRing_survey (c : Core) (op : Nat) (p : Packet) : (c.popRing op p).survey = c.survey := (congrArg Core.survey (Core.popRing_rest c op p) :)
@[simp] theorem Core.popRing_arm (c : Core) (op : Nat) (p : Packet) : (c.popRing op p).arm = c.arm := (congrArg Core.arm (Core.popRing_rest c op p) :)
@[simp] theorem Core.popRing_update (c : Core) (op : Nat) (p : Packet) : (c.popRing op p).update = c.update := (congrArg Core.update (Core.popRing_rest c op p) :)
@[simp] theorem Core.popRing_net (c : Core) (op : Nat) (p : Packet) : (c.popRing op p).net = c.net := (congrArg Core.net (Core.popRing_rest c op p) :)
@[simp] theorem Core.popRing_twin (c : Core) (op : Nat) (p : Packet) : (c.popRing op p).twin = c.twin := (congrArg Core.twin (Core.popRing_rest c op p) :)
@[simp] theorem Core.completeNow_rest (c : Core) (t : Tok) (st : Status) (l : List Byte) : (c.completeNow t st l).rest = c.rest := (rfl)
@[simp] theorem Core.completeNow_shadow (c : Core) (t : Tok) (st : Status) (l : List Byte) : (c.completeNow t st l).shadow = c.shadow := (congrArg Core.shadow (Core.completeNow_rest c t st l) :)
@[simp] theorem Core.completeNow_freeIx (c : Core) (t : Tok) (st : Status) (l : List Byte) : (c.completeNow t st l).freeIx = c.freeIx := (congrArg Core.freeIx (Core.completeNow_rest c t st l) :)
@[simp] theorem Core.completeNow_power (c : Core) (t : Tok) (st : Status) (l : List Byte) : (c.completeNow t st l).power = c.power := (congrArg Core.power (Core.completeNow_rest c t st l) :)
@[simp] theorem Core.completeNow_clk (c : Core) (t : Tok) (st : Status) (l : List Byte) : (c.completeNow t st l).clk = c.clk := (congrArg Core.clk (Core.completeNow_rest c t st l) :)
@[simp] theorem Core.completeNow_time (c : Core) (t : Tok) (st : Status) (l : List Byte) : (c.completeNow t st l).time = c.time := (congrArg Core.time (Core.completeNow_rest c t st l) :)
@[simp] theorem Core.completeNow_cfg (c : Core) (t : Tok) (st : Status) (l : List Byte) : (c.completeNow t st l).cfg = c.cfg := (congrArg Core.cfg (Core.completeNow_rest c t st l) :)
@[simp] theorem Core.completeNow_scene (c : Core) (t : Tok) (st : Status) (l : List Byte) : (c.completeNow t st l).scene = c.scene := (congrArg Core.scene (Core.completeNow_rest c t st l) :)
@[simp] theorem Core.completeNow_cal (c : Core) (t : Tok) (st : Status) (l : List Byte) : (c.completeNow t st l).cal = c.cal := (congrArg Core.cal (Core.completeNow_rest c t st l) :)
@[simp] theorem Core.completeNow_ren (c : Core) (t : Tok) (st : Status) (l : List Byte) : (c.completeNow t st l).ren = c.ren := (congrArg Core.ren (Core.completeNow_rest c t st l) :)
@[simp] theorem Core.completeNow_mon (c : Core) (t : Tok) (st : Status) (l : List Byte) : (c.completeNow t st l).mon = c.mon := (congrArg Core.mon (Core.completeNow_rest c t st l) :)
@[simp] theorem Core.completeNow_out (c : Core) (t : Tok) (st : Status) (l : List Byte) : (c.completeNow t st l).out = c.out := (congrArg Core.out (Core.completeNow_rest c t st l) :)
@[simp] theorem Core.completeNow_memc (c : Core) (t : Tok) (st : Status) (l : List Byte) : (c.completeNow t st l).memc = c.memc := (congrArg Core.memc (Core.completeNow_rest c t st l) :)
@[simp] theorem Core.completeNow_flash (c : Core) (t : Tok) (st : Status) (l : List Byte) : (c.completeNow t st l).flash = c.flash := (congrArg Core.flash (Core.completeNow_rest c t st l) :)
@[simp] theorem Core.completeNow_crc (c : Core) (t : Tok) (st : Status) (l : List Byte) : (c.completeNow t st l).crc = c.crc := (congrArg Core.crc (Core.completeNow_rest c t st l) :)
@[simp] theorem Core.completeNow_health (c : Core) (t : Tok) (st : Status) (l : List Byte) : (c.completeNow t st l).health = c.health := (congrArg Core.health (Core.completeNow_rest c t st l) :)
@[simp] theorem Core.completeNow_brush (c : Core) (t : Tok) (st : Status) (l : List Byte) : (c.completeNow t st l).brush = c.brush := (congrArg Core.brush (Core.completeNow_rest c t st l) :)
@[simp] theorem Core.completeNow_atl (c : Core) (t : Tok) (st : Status) (l : List Byte) : (c.completeNow t st l).atl = c.atl := (congrArg Core.atl (Core.completeNow_rest c t st l) :)
@[simp] theorem Core.completeNow_survey (c : Core) (t : Tok) (st : Status) (l : List Byte) : (c.completeNow t st l).survey = c.survey := (congrArg Core.survey (Core.completeNow_rest c t st l) :)
@[simp] theorem Core.completeNow_arm (c : Core) (t : Tok) (st : Status) (l : List Byte) : (c.completeNow t st l).arm = c.arm := (congrArg Core.arm (Core.completeNow_rest c t st l) :)
@[simp] theorem Core.completeNow_update (c : Core) (t : Tok) (st : Status) (l : List Byte) : (c.completeNow t st l).update = c.update := (congrArg Core.update (Core.completeNow_rest c t st l) :)
@[simp] theorem Core.completeNow_net (c : Core) (t : Tok) (st : Status) (l : List Byte) : (c.completeNow t st l).net = c.net := (congrArg Core.net (Core.completeNow_rest c t st l) :)
@[simp] theorem Core.completeNow_twin (c : Core) (t : Tok) (st : Status) (l : List Byte) : (c.completeNow t st l).twin = c.twin := (congrArg Core.twin (Core.completeNow_rest c t st l) :)
@[simp] theorem Core.ringPut_rest (c : Core) (m : Msg) : (c.ringPut m).rest = c.rest := by simp [Core.ringPut]
@[simp] theorem Core.queueFrame_still (c : Core) (p : Nat) (x : TxFrame) : (c.queueFrame p x).still = c.still := by
  unfold Core.queueFrame; repeat' split
  all_goals first | rfl | exact Core.still_of_rest (by simp)
@[simp] theorem Core.queueDatagram_still (c : Core) (n : Nat) (m : Msg) : (c.queueDatagram n m).still = c.still := by
  unfold Core.queueDatagram; dsimp only
  rw [Core.queueFrame_still]
  exact foldl_keeps Core.still _ (fun a b => Core.queueFrame_still _ _ _) _ _
@[simp] theorem Core.post_still (c : Core) (m : Msg) : (c.post m).still = c.still := by
  unfold Core.post; repeat' split
  all_goals first | rfl | (dsimp only; repeat' split)
  all_goals first | rfl | exact Core.still_of_rest (by simp) | simp
@[simp] theorem Core.post_shadow (c : Core) (m : Msg) : (c.post m).shadow = c.shadow := (congrArg Core.shadow (Core.post_still c m) :)
@[simp] theorem Core.post_freeIx (c : Core) (m : Msg) : (c.post m).freeIx = c.freeIx := (congrArg Core.freeIx (Core.post_still c m) :)
@[simp] theorem Core.post_power (c : Core) (m : Msg) : (c.post m).power = c.power := (congrArg Core.power (Core.post_still c m) :)
@[simp] theorem Core.post_clk (c : Core) (m : Msg) : (c.post m).clk = c.clk := (congrArg Core.clk (Core.post_still c m) :)
@[simp] theorem Core.post_time (c : Core) (m : Msg) : (c.post m).time = c.time := (congrArg Core.time (Core.post_still c m) :)
@[simp] theorem Core.post_cfg (c : Core) (m : Msg) : (c.post m).cfg = c.cfg := (congrArg Core.cfg (Core.post_still c m) :)
@[simp] theorem Core.post_scene (c : Core) (m : Msg) : (c.post m).scene = c.scene := (congrArg Core.scene (Core.post_still c m) :)
@[simp] theorem Core.post_cal (c : Core) (m : Msg) : (c.post m).cal = c.cal := (congrArg Core.cal (Core.post_still c m) :)
@[simp] theorem Core.post_ren (c : Core) (m : Msg) : (c.post m).ren = c.ren := (congrArg Core.ren (Core.post_still c m) :)
@[simp] theorem Core.post_mon (c : Core) (m : Msg) : (c.post m).mon = c.mon := (congrArg Core.mon (Core.post_still c m) :)
@[simp] theorem Core.post_out (c : Core) (m : Msg) : (c.post m).out = c.out := (congrArg Core.out (Core.post_still c m) :)
@[simp] theorem Core.post_memc (c : Core) (m : Msg) : (c.post m).memc = c.memc := (congrArg Core.memc (Core.post_still c m) :)
@[simp] theorem Core.post_flash (c : Core) (m : Msg) : (c.post m).flash = c.flash := (congrArg Core.flash (Core.post_still c m) :)
@[simp] theorem Core.post_crc (c : Core) (m : Msg) : (c.post m).crc = c.crc := (congrArg Core.crc (Core.post_still c m) :)
@[simp] theorem Core.post_health (c : Core) (m : Msg) : (c.post m).health = c.health := (congrArg Core.health (Core.post_still c m) :)
@[simp] theorem Core.post_brush (c : Core) (m : Msg) : (c.post m).brush = c.brush := (congrArg Core.brush (Core.post_still c m) :)
@[simp] theorem Core.post_atl (c : Core) (m : Msg) : (c.post m).atl = c.atl := (congrArg Core.atl (Core.post_still c m) :)
@[simp] theorem Core.post_survey (c : Core) (m : Msg) : (c.post m).survey = c.survey := (congrArg Core.survey (Core.post_still c m) :)
@[simp] theorem Core.post_arm (c : Core) (m : Msg) : (c.post m).arm = c.arm := (congrArg Core.arm (Core.post_still c m) :)
@[simp] theorem Core.post_update (c : Core) (m : Msg) : (c.post m).update = c.update := (congrArg Core.update (Core.post_still c m) :)
@[simp] theorem Core.postAfter_still (c : Core) (n : Nat) (q : Word) (m : Msg) : (c.postAfter n q m).still = c.still := by
  unfold Core.postAfter; split
  · rfl
  · simp
@[simp] theorem Core.notice_still (c : Core) (t : Tok) (st : Status) (l : List Byte) : (c.notice t st l).still = c.still := by
  unfold Core.notice; dsimp only; repeat' split
  all_goals first | rfl | exact (Core.postAfter_still _ _ _ _).trans rfl
@[simp] theorem Core.notice_shadow (c : Core) (t : Tok) (st : Status) (l : List Byte) : (c.notice t st l).shadow = c.shadow := (congrArg Core.shadow (Core.notice_still c t st l) :)
@[simp] theorem Core.notice_freeIx (c : Core) (t : Tok) (st : Status) (l : List Byte) : (c.notice t st l).freeIx = c.freeIx := (congrArg Core.freeIx (Core.notice_still c t st l) :)
@[simp] theorem Core.notice_power (c : Core) (t : Tok) (st : Status) (l : List Byte) : (c.notice t st l).power = c.power := (congrArg Core.power (Core.notice_still c t st l) :)
@[simp] theorem Core.notice_clk (c : Core) (t : Tok) (st : Status) (l : List Byte) : (c.notice t st l).clk = c.clk := (congrArg Core.clk (Core.notice_still c t st l) :)
@[simp] theorem Core.notice_time (c : Core) (t : Tok) (st : Status) (l : List Byte) : (c.notice t st l).time = c.time := (congrArg Core.time (Core.notice_still c t st l) :)
@[simp] theorem Core.notice_cfg (c : Core) (t : Tok) (st : Status) (l : List Byte) : (c.notice t st l).cfg = c.cfg := (congrArg Core.cfg (Core.notice_still c t st l) :)
@[simp] theorem Core.notice_scene (c : Core) (t : Tok) (st : Status) (l : List Byte) : (c.notice t st l).scene = c.scene := (congrArg Core.scene (Core.notice_still c t st l) :)
@[simp] theorem Core.notice_cal (c : Core) (t : Tok) (st : Status) (l : List Byte) : (c.notice t st l).cal = c.cal := (congrArg Core.cal (Core.notice_still c t st l) :)
@[simp] theorem Core.notice_ren (c : Core) (t : Tok) (st : Status) (l : List Byte) : (c.notice t st l).ren = c.ren := (congrArg Core.ren (Core.notice_still c t st l) :)
@[simp] theorem Core.notice_mon (c : Core) (t : Tok) (st : Status) (l : List Byte) : (c.notice t st l).mon = c.mon := (congrArg Core.mon (Core.notice_still c t st l) :)
@[simp] theorem Core.notice_out (c : Core) (t : Tok) (st : Status) (l : List Byte) : (c.notice t st l).out = c.out := (congrArg Core.out (Core.notice_still c t st l) :)
@[simp] theorem Core.notice_memc (c : Core) (t : Tok) (st : Status) (l : List Byte) : (c.notice t st l).memc = c.memc := (congrArg Core.memc (Core.notice_still c t st l) :)
@[simp] theorem Core.notice_flash (c : Core) (t : Tok) (st : Status) (l : List Byte) : (c.notice t st l).flash = c.flash := (congrArg Core.flash (Core.notice_still c t st l) :)
@[simp] theorem Core.notice_crc (c : Core) (t : Tok) (st : Status) (l : List Byte) : (c.notice t st l).crc = c.crc := (congrArg Core.crc (Core.notice_still c t st l) :)
@[simp] theorem Core.notice_health (c : Core) (t : Tok) (st : Status) (l : List Byte) : (c.notice t st l).health = c.health := (congrArg Core.health (Core.notice_still c t st l) :)
@[simp] theorem Core.notice_brush (c : Core) (t : Tok) (st : Status) (l : List Byte) : (c.notice t st l).brush = c.brush := (congrArg Core.brush (Core.notice_still c t st l) :)
@[simp] theorem Core.notice_atl (c : Core) (t : Tok) (st : Status) (l : List Byte) : (c.notice t st l).atl = c.atl := (congrArg Core.atl (Core.notice_still c t st l) :)
@[simp] theorem Core.notice_survey (c : Core) (t : Tok) (st : Status) (l : List Byte) : (c.notice t st l).survey = c.survey := (congrArg Core.survey (Core.notice_still c t st l) :)
@[simp] theorem Core.notice_arm (c : Core) (t : Tok) (st : Status) (l : List Byte) : (c.notice t st l).arm = c.arm := (congrArg Core.arm (Core.notice_still c t st l) :)
@[simp] theorem Core.notice_update (c : Core) (t : Tok) (st : Status) (l : List Byte) : (c.notice t st l).update = c.update := (congrArg Core.update (Core.notice_still c t st l) :)
@[simp] theorem Core.notice?_still (c : Core) (t : Option Tok) (st : Status) (l : List Byte) : (c.notice? t st l).still = c.still := by cases t <;> simp [Core.notice?]
@[simp] theorem Core.notice?_shadow (c : Core) (t : Option Tok) (st : Status) (l : List Byte) : (c.notice? t st l).shadow = c.shadow := (congrArg Core.shadow (Core.notice?_still c t st l) :)
@[simp] theorem Core.notice?_freeIx (c : Core) (t : Option Tok) (st : Status) (l : List Byte) : (c.notice? t st l).freeIx = c.freeIx := (congrArg Core.freeIx (Core.notice?_still c t st l) :)
@[simp] theorem Core.notice?_power (c : Core) (t : Option Tok) (st : Status) (l : List Byte) : (c.notice? t st l).power = c.power := (congrArg Core.power (Core.notice?_still c t st l) :)
@[simp] theorem Core.notice?_clk (c : Core) (t : Option Tok) (st : Status) (l : List Byte) : (c.notice? t st l).clk = c.clk := (congrArg Core.clk (Core.notice?_still c t st l) :)
@[simp] theorem Core.notice?_time (c : Core) (t : Option Tok) (st : Status) (l : List Byte) : (c.notice? t st l).time = c.time := (congrArg Core.time (Core.notice?_still c t st l) :)
@[simp] theorem Core.notice?_cfg (c : Core) (t : Option Tok) (st : Status) (l : List Byte) : (c.notice? t st l).cfg = c.cfg := (congrArg Core.cfg (Core.notice?_still c t st l) :)
@[simp] theorem Core.notice?_scene (c : Core) (t : Option Tok) (st : Status) (l : List Byte) : (c.notice? t st l).scene = c.scene := (congrArg Core.scene (Core.notice?_still c t st l) :)
@[simp] theorem Core.notice?_cal (c : Core) (t : Option Tok) (st : Status) (l : List Byte) : (c.notice? t st l).cal = c.cal := (congrArg Core.cal (Core.notice?_still c t st l) :)
@[simp] theorem Core.notice?_ren (c : Core) (t : Option Tok) (st : Status) (l : List Byte) : (c.notice? t st l).ren = c.ren := (congrArg Core.ren (Core.notice?_still c t st l) :)
@[simp] theorem Core.notice?_mon (c : Core) (t : Option Tok) (st : Status) (l : List Byte) : (c.notice? t st l).mon = c.mon := (congrArg Core.mon (Core.notice?_still c t st l) :)
@[simp] theorem Core.notice?_out (c : Core) (t : Option Tok) (st : Status) (l : List Byte) : (c.notice? t st l).out = c.out := (congrArg Core.out (Core.notice?_still c t st l) :)
@[simp] theorem Core.notice?_memc (c : Core) (t : Option Tok) (st : Status) (l : List Byte) : (c.notice? t st l).memc = c.memc := (congrArg Core.memc (Core.notice?_still c t st l) :)
@[simp] theorem Core.notice?_flash (c : Core) (t : Option Tok) (st : Status) (l : List Byte) : (c.notice? t st l).flash = c.flash := (congrArg Core.flash (Core.notice?_still c t st l) :)
@[simp] theorem Core.notice?_crc (c : Core) (t : Option Tok) (st : Status) (l : List Byte) : (c.notice? t st l).crc = c.crc := (congrArg Core.crc (Core.notice?_still c t st l) :)
@[simp] theorem Core.notice?_health (c : Core) (t : Option Tok) (st : Status) (l : List Byte) : (c.notice? t st l).health = c.health := (congrArg Core.health (Core.notice?_still c t st l) :)
@[simp] theorem Core.notice?_brush (c : Core) (t : Option Tok) (st : Status) (l : List Byte) : (c.notice? t st l).brush = c.brush := (congrArg Core.brush (Core.notice?_still c t st l) :)
@[simp] theorem Core.notice?_atl (c : Core) (t : Option Tok) (st : Status) (l : List Byte) : (c.notice? t st l).atl = c.atl := (congrArg Core.atl (Core.notice?_still c t st l) :)
@[simp] theorem Core.notice?_survey (c : Core) (t : Option Tok) (st : Status) (l : List Byte) : (c.notice? t st l).survey = c.survey := (congrArg Core.survey (Core.notice?_still c t st l) :)
@[simp] theorem Core.notice?_arm (c : Core) (t : Option Tok) (st : Status) (l : List Byte) : (c.notice? t st l).arm = c.arm := (congrArg Core.arm (Core.notice?_still c t st l) :)
@[simp] theorem Core.notice?_update (c : Core) (t : Option Tok) (st : Status) (l : List Byte) : (c.notice? t st l).update = c.update := (congrArg Core.update (Core.notice?_still c t st l) :)
@[simp] theorem Core.flushInstant_still (c : Core) : (c.flushInstant).still = c.still := by
  unfold Core.flushInstant
  exact (foldl_keeps Core.still _ (fun a b => Core.notice_still _ _ _ _) _ _).trans rfl
@[simp] theorem Core.flushInstant_shadow (c : Core) : (c.flushInstant).shadow = c.shadow := (congrArg Core.shadow (Core.flushInstant_still c) :)
@[simp] theorem Core.flushInstant_freeIx (c : Core) : (c.flushInstant).freeIx = c.freeIx := (congrArg Core.freeIx (Core.flushInstant_still c) :)
@[simp] theorem Core.flushInstant_power (c : Core) : (c.flushInstant).power = c.power := (congrArg Core.power (Core.flushInstant_still c) :)
@[simp] theorem Core.flushInstant_clk (c : Core) : (c.flushInstant).clk = c.clk := (congrArg Core.clk (Core.flushInstant_still c) :)
@[simp] theorem Core.flushInstant_time (c : Core) : (c.flushInstant).time = c.time := (congrArg Core.time (Core.flushInstant_still c) :)
@[simp] theorem Core.flushInstant_cfg (c : Core) : (c.flushInstant).cfg = c.cfg := (congrArg Core.cfg (Core.flushInstant_still c) :)
@[simp] theorem Core.flushInstant_scene (c : Core) : (c.flushInstant).scene = c.scene := (congrArg Core.scene (Core.flushInstant_still c) :)
@[simp] theorem Core.flushInstant_cal (c : Core) : (c.flushInstant).cal = c.cal := (congrArg Core.cal (Core.flushInstant_still c) :)
@[simp] theorem Core.flushInstant_ren (c : Core) : (c.flushInstant).ren = c.ren := (congrArg Core.ren (Core.flushInstant_still c) :)
@[simp] theorem Core.flushInstant_mon (c : Core) : (c.flushInstant).mon = c.mon := (congrArg Core.mon (Core.flushInstant_still c) :)
@[simp] theorem Core.flushInstant_out (c : Core) : (c.flushInstant).out = c.out := (congrArg Core.out (Core.flushInstant_still c) :)
@[simp] theorem Core.flushInstant_memc (c : Core) : (c.flushInstant).memc = c.memc := (congrArg Core.memc (Core.flushInstant_still c) :)
@[simp] theorem Core.flushInstant_flash (c : Core) : (c.flushInstant).flash = c.flash := (congrArg Core.flash (Core.flushInstant_still c) :)
@[simp] theorem Core.flushInstant_crc (c : Core) : (c.flushInstant).crc = c.crc := (congrArg Core.crc (Core.flushInstant_still c) :)
@[simp] theorem Core.flushInstant_health (c : Core) : (c.flushInstant).health = c.health := (congrArg Core.health (Core.flushInstant_still c) :)
@[simp] theorem Core.flushInstant_brush (c : Core) : (c.flushInstant).brush = c.brush := (congrArg Core.brush (Core.flushInstant_still c) :)
@[simp] theorem Core.flushInstant_atl (c : Core) : (c.flushInstant).atl = c.atl := (congrArg Core.atl (Core.flushInstant_still c) :)
@[simp] theorem Core.flushInstant_survey (c : Core) : (c.flushInstant).survey = c.survey := (congrArg Core.survey (Core.flushInstant_still c) :)
@[simp] theorem Core.flushInstant_arm (c : Core) : (c.flushInstant).arm = c.arm := (congrArg Core.arm (Core.flushInstant_still c) :)
@[simp] theorem Core.flushInstant_update (c : Core) : (c.flushInstant).update = c.update := (congrArg Core.update (Core.flushInstant_still c) :)
@[simp] theorem Core.reply_still (c : Core) (op : Nat) (p : Packet) (n : Nat) (st : Status) (l : List Byte) : (c.reply op p n st l).still = c.still := by unfold Core.reply; split <;> simp
@[simp] theorem Core.reply_shadow (c : Core) (op : Nat) (p : Packet) (n : Nat) (st : Status) (l : List Byte) : (c.reply op p n st l).shadow = c.shadow := (congrArg Core.shadow (Core.reply_still c op p n st l) :)
@[simp] theorem Core.reply_freeIx (c : Core) (op : Nat) (p : Packet) (n : Nat) (st : Status) (l : List Byte) : (c.reply op p n st l).freeIx = c.freeIx := (congrArg Core.freeIx (Core.reply_still c op p n st l) :)
@[simp] theorem Core.reply_power (c : Core) (op : Nat) (p : Packet) (n : Nat) (st : Status) (l : List Byte) : (c.reply op p n st l).power = c.power := (congrArg Core.power (Core.reply_still c op p n st l) :)
@[simp] theorem Core.reply_clk (c : Core) (op : Nat) (p : Packet) (n : Nat) (st : Status) (l : List Byte) : (c.reply op p n st l).clk = c.clk := (congrArg Core.clk (Core.reply_still c op p n st l) :)
@[simp] theorem Core.reply_time (c : Core) (op : Nat) (p : Packet) (n : Nat) (st : Status) (l : List Byte) : (c.reply op p n st l).time = c.time := (congrArg Core.time (Core.reply_still c op p n st l) :)
@[simp] theorem Core.reply_cfg (c : Core) (op : Nat) (p : Packet) (n : Nat) (st : Status) (l : List Byte) : (c.reply op p n st l).cfg = c.cfg := (congrArg Core.cfg (Core.reply_still c op p n st l) :)
@[simp] theorem Core.reply_scene (c : Core) (op : Nat) (p : Packet) (n : Nat) (st : Status) (l : List Byte) : (c.reply op p n st l).scene = c.scene := (congrArg Core.scene (Core.reply_still c op p n st l) :)
@[simp] theorem Core.reply_cal (c : Core) (op : Nat) (p : Packet) (n : Nat) (st : Status) (l : List Byte) : (c.reply op p n st l).cal = c.cal := (congrArg Core.cal (Core.reply_still c op p n st l) :)
@[simp] theorem Core.reply_ren (c : Core) (op : Nat) (p : Packet) (n : Nat) (st : Status) (l : List Byte) : (c.reply op p n st l).ren = c.ren := (congrArg Core.ren (Core.reply_still c op p n st l) :)
@[simp] theorem Core.reply_mon (c : Core) (op : Nat) (p : Packet) (n : Nat) (st : Status) (l : List Byte) : (c.reply op p n st l).mon = c.mon := (congrArg Core.mon (Core.reply_still c op p n st l) :)
@[simp] theorem Core.reply_out (c : Core) (op : Nat) (p : Packet) (n : Nat) (st : Status) (l : List Byte) : (c.reply op p n st l).out = c.out := (congrArg Core.out (Core.reply_still c op p n st l) :)
@[simp] theorem Core.reply_memc (c : Core) (op : Nat) (p : Packet) (n : Nat) (st : Status) (l : List Byte) : (c.reply op p n st l).memc = c.memc := (congrArg Core.memc (Core.reply_still c op p n st l) :)
@[simp] theorem Core.reply_flash (c : Core) (op : Nat) (p : Packet) (n : Nat) (st : Status) (l : List Byte) : (c.reply op p n st l).flash = c.flash := (congrArg Core.flash (Core.reply_still c op p n st l) :)
@[simp] theorem Core.reply_crc (c : Core) (op : Nat) (p : Packet) (n : Nat) (st : Status) (l : List Byte) : (c.reply op p n st l).crc = c.crc := (congrArg Core.crc (Core.reply_still c op p n st l) :)
@[simp] theorem Core.reply_health (c : Core) (op : Nat) (p : Packet) (n : Nat) (st : Status) (l : List Byte) : (c.reply op p n st l).health = c.health := (congrArg Core.health (Core.reply_still c op p n st l) :)
@[simp] theorem Core.reply_brush (c : Core) (op : Nat) (p : Packet) (n : Nat) (st : Status) (l : List Byte) : (c.reply op p n st l).brush = c.brush := (congrArg Core.brush (Core.reply_still c op p n st l) :)
@[simp] theorem Core.reply_atl (c : Core) (op : Nat) (p : Packet) (n : Nat) (st : Status) (l : List Byte) : (c.reply op p n st l).atl = c.atl := (congrArg Core.atl (Core.reply_still c op p n st l) :)
@[simp] theorem Core.reply_survey (c : Core) (op : Nat) (p : Packet) (n : Nat) (st : Status) (l : List Byte) : (c.reply op p n st l).survey = c.survey := (congrArg Core.survey (Core.reply_still c op p n st l) :)
@[simp] theorem Core.reply_arm (c : Core) (op : Nat) (p : Packet) (n : Nat) (st : Status) (l : List Byte) : (c.reply op p n st l).arm = c.arm := (congrArg Core.arm (Core.reply_still c op p n st l) :)
@[simp] theorem Core.reply_update (c : Core) (op : Nat) (p : Packet) (n : Nat) (st : Status) (l : List Byte) : (c.reply op p n st l).update = c.update := (congrArg Core.update (Core.reply_still c op p n st l) :)
@[simp] theorem Core.mirror_still (c : Core) (op : Nat) (p : Packet) (st : Status) : (c.mirror op p st).still = c.still := by unfold Core.mirror; split <;> rfl
@[simp] theorem Core.mirror_shadow (c : Core) (op : Nat) (p : Packet) (st : Status) : (c.mirror op p st).shadow = c.shadow := (congrArg Core.shadow (Core.mirror_still c op p st) :)
@[simp] theorem Core.mirror_freeIx (c : Core) (op : Nat) (p : Packet) (st : Status) : (c.mirror op p st).freeIx = c.freeIx := (congrArg Core.freeIx (Core.mirror_still c op p st) :)
@[simp] theorem Core.mirror_power (c : Core) (op : Nat) (p : Packet) (st : Status) : (c.mirror op p st).power = c.power := (congrArg Core.power (Core.mirror_still c op p st) :)
@[simp] theorem Core.mirror_clk (c : Core) (op : Nat) (p : Packet) (st : Status) : (c.mirror op p st).clk = c.clk := (congrArg Core.clk (Core.mirror_still c op p st) :)
@[simp] theorem Core.mirror_time (c : Core) (op : Nat) (p : Packet) (st : Status) : (c.mirror op p st).time = c.time := (congrArg Core.time (Core.mirror_still c op p st) :)
@[simp] theorem Core.mirror_cfg (c : Core) (op : Nat) (p : Packet) (st : Status) : (c.mirror op p st).cfg = c.cfg := (congrArg Core.cfg (Core.mirror_still c op p st) :)
@[simp] theorem Core.mirror_scene (c : Core) (op : Nat) (p : Packet) (st : Status) : (c.mirror op p st).scene = c.scene := (congrArg Core.scene (Core.mirror_still c op p st) :)
@[simp] theorem Core.mirror_cal (c : Core) (op : Nat) (p : Packet) (st : Status) : (c.mirror op p st).cal = c.cal := (congrArg Core.cal (Core.mirror_still c op p st) :)
@[simp] theorem Core.mirror_ren (c : Core) (op : Nat) (p : Packet) (st : Status) : (c.mirror op p st).ren = c.ren := (congrArg Core.ren (Core.mirror_still c op p st) :)
@[simp] theorem Core.mirror_mon (c : Core) (op : Nat) (p : Packet) (st : Status) : (c.mirror op p st).mon = c.mon := (congrArg Core.mon (Core.mirror_still c op p st) :)
@[simp] theorem Core.mirror_out (c : Core) (op : Nat) (p : Packet) (st : Status) : (c.mirror op p st).out = c.out := (congrArg Core.out (Core.mirror_still c op p st) :)
@[simp] theorem Core.mirror_memc (c : Core) (op : Nat) (p : Packet) (st : Status) : (c.mirror op p st).memc = c.memc := (congrArg Core.memc (Core.mirror_still c op p st) :)
@[simp] theorem Core.mirror_flash (c : Core) (op : Nat) (p : Packet) (st : Status) : (c.mirror op p st).flash = c.flash := (congrArg Core.flash (Core.mirror_still c op p st) :)
@[simp] theorem Core.mirror_crc (c : Core) (op : Nat) (p : Packet) (st : Status) : (c.mirror op p st).crc = c.crc := (congrArg Core.crc (Core.mirror_still c op p st) :)
@[simp] theorem Core.mirror_health (c : Core) (op : Nat) (p : Packet) (st : Status) : (c.mirror op p st).health = c.health := (congrArg Core.health (Core.mirror_still c op p st) :)
@[simp] theorem Core.mirror_brush (c : Core) (op : Nat) (p : Packet) (st : Status) : (c.mirror op p st).brush = c.brush := (congrArg Core.brush (Core.mirror_still c op p st) :)
@[simp] theorem Core.mirror_atl (c : Core) (op : Nat) (p : Packet) (st : Status) : (c.mirror op p st).atl = c.atl := (congrArg Core.atl (Core.mirror_still c op p st) :)
@[simp] theorem Core.mirror_survey (c : Core) (op : Nat) (p : Packet) (st : Status) : (c.mirror op p st).survey = c.survey := (congrArg Core.survey (Core.mirror_still c op p st) :)
@[simp] theorem Core.mirror_arm (c : Core) (op : Nat) (p : Packet) (st : Status) : (c.mirror op p st).arm = c.arm := (congrArg Core.arm (Core.mirror_still c op p st) :)
@[simp] theorem Core.mirror_update (c : Core) (op : Nat) (p : Packet) (st : Status) : (c.mirror op p st).update = c.update := (congrArg Core.update (Core.mirror_still c op p st) :)
@[simp] theorem Core.firstReply_still (c : Core) (op : Nat) (p : Packet) (a : Status × List Byte) : (c.firstReply op p a).still = c.still := by
  unfold Core.firstReply; repeat' split
  all_goals first | rfl | exact Core.reply_still _ _ _ _ _ _ | exact (Core.still_of_rest (Core.markSent_rest c p.session.toNat p.seq false) :)
@[simp] theorem Core.firstReply_shadow (c : Core) (op : Nat) (p : Packet) (a : Status × List Byte) : (c.firstReply op p a).shadow = c.shadow := (congrArg Core.shadow (Core.firstReply_still c op p a) :)
@[simp] theorem Core.firstReply_freeIx (c : Core) (op : Nat) (p : Packet) (a : Status × List Byte) : (c.firstReply op p a).freeIx = c.freeIx := (congrArg Core.freeIx (Core.firstReply_still c op p a) :)
@[simp] theorem Core.firstReply_power (c : Core) (op : Nat) (p : Packet) (a : Status × List Byte) : (c.firstReply op p a).power = c.power := (congrArg Core.power (Core.firstReply_still c op p a) :)
@[simp] theorem Core.firstReply_clk (c : Core) (op : Nat) (p : Packet) (a : Status × List Byte) : (c.firstReply op p a).clk = c.clk := (congrArg Core.clk (Core.firstReply_still c op p a) :)
@[simp] theorem Core.firstReply_time (c : Core) (op : Nat) (p : Packet) (a : Status × List Byte) : (c.firstReply op p a).time = c.time := (congrArg Core.time (Core.firstReply_still c op p a) :)
@[simp] theorem Core.firstReply_cfg (c : Core) (op : Nat) (p : Packet) (a : Status × List Byte) : (c.firstReply op p a).cfg = c.cfg := (congrArg Core.cfg (Core.firstReply_still c op p a) :)
@[simp] theorem Core.firstReply_scene (c : Core) (op : Nat) (p : Packet) (a : Status × List Byte) : (c.firstReply op p a).scene = c.scene := (congrArg Core.scene (Core.firstReply_still c op p a) :)
@[simp] theorem Core.firstReply_cal (c : Core) (op : Nat) (p : Packet) (a : Status × List Byte) : (c.firstReply op p a).cal = c.cal := (congrArg Core.cal (Core.firstReply_still c op p a) :)
@[simp] theorem Core.firstReply_ren (c : Core) (op : Nat) (p : Packet) (a : Status × List Byte) : (c.firstReply op p a).ren = c.ren := (congrArg Core.ren (Core.firstReply_still c op p a) :)
@[simp] theorem Core.firstReply_mon (c : Core) (op : Nat) (p : Packet) (a : Status × List Byte) : (c.firstReply op p a).mon = c.mon := (congrArg Core.mon (Core.firstReply_still c op p a) :)
@[simp] theorem Core.firstReply_out (c : Core) (op : Nat) (p : Packet) (a : Status × List Byte) : (c.firstReply op p a).out = c.out := (congrArg Core.out (Core.firstReply_still c op p a) :)
@[simp] theorem Core.firstReply_memc (c : Core) (op : Nat) (p : Packet) (a : Status × List Byte) : (c.firstReply op p a).memc = c.memc := (congrArg Core.memc (Core.firstReply_still c op p a) :)
@[simp] theorem Core.firstReply_flash (c : Core) (op : Nat) (p : Packet) (a : Status × List Byte) : (c.firstReply op p a).flash = c.flash := (congrArg Core.flash (Core.firstReply_still c op p a) :)
@[simp] theorem Core.firstReply_crc (c : Core) (op : Nat) (p : Packet) (a : Status × List Byte) : (c.firstReply op p a).crc = c.crc := (congrArg Core.crc (Core.firstReply_still c op p a) :)
@[simp] theorem Core.firstReply_health (c : Core) (op : Nat) (p : Packet) (a : Status × List Byte) : (c.firstReply op p a).health = c.health := (congrArg Core.health (Core.firstReply_still c op p a) :)
@[simp] theorem Core.firstReply_brush (c : Core) (op : Nat) (p : Packet) (a : Status × List Byte) : (c.firstReply op p a).brush = c.brush := (congrArg Core.brush (Core.firstReply_still c op p a) :)
@[simp] theorem Core.firstReply_atl (c : Core) (op : Nat) (p : Packet) (a : Status × List Byte) : (c.firstReply op p a).atl = c.atl := (congrArg Core.atl (Core.firstReply_still c op p a) :)
@[simp] theorem Core.firstReply_survey (c : Core) (op : Nat) (p : Packet) (a : Status × List Byte) : (c.firstReply op p a).survey = c.survey := (congrArg Core.survey (Core.firstReply_still c op p a) :)
@[simp] theorem Core.firstReply_arm (c : Core) (op : Nat) (p : Packet) (a : Status × List Byte) : (c.firstReply op p a).arm = c.arm := (congrArg Core.arm (Core.firstReply_still c op p a) :)
@[simp] theorem Core.firstReply_update (c : Core) (op : Nat) (p : Packet) (a : Status × List Byte) : (c.firstReply op p a).update = c.update := (congrArg Core.update (Core.firstReply_still c op p a) :)

end Sys2Proof.Machine
end

