-- ==== Sys2Proof/Laws/Bus.lean ====
section
/-! SUPPORT. Register accesses: what a served write and a read that is answered do. -/

namespace Sys2Proof.Machine

/-- A served write acts on the state that its access types leave. -/
theorem busWrite_served {c : Core} {a : Access} (h : c.serves a.master a.off = true) (hold : Nat) (act : Core → Core) :
    c.busWrite a hold act = act (c.written a hold) := by
  simp only [Core.serves, Core.reaches, Bool.and_eq_true, Bool.not_eq_true'] at h
  obtain ⟨⟨⟨⟨h1, h2⟩, h3⟩, h4⟩, h5⟩ := h
  unfold Core.busWrite Core.written
  obtain ⟨r, hr⟩ := Option.isSome_iff_exists.mp h4
  simp [h1, h2, h3, h5, hr]

/-- A read of a register that answers sends the word. -/
theorem busRead_reached {c : Core} {m off : Nat} (h : c.reaches m off = true) (act : Core → Word × Core) :
    c.busRead m off act = (act c).2.send (.read m off (act c).1) := by
  simp only [Core.reaches, Bool.and_eq_true, Bool.not_eq_true'] at h
  obtain ⟨⟨⟨h1, h2⟩, h3⟩, h4⟩ := h
  unfold Core.busRead
  obtain ⟨r, hr⟩ := Option.isSome_iff_exists.mp h4
  simp [h1, h2, h3, hr]

theorem Core.putIrq_rest (c : Core) (off : Nat) (w : Word) : (c.putIrq off w).rest = c.rest := by
  unfold Core.putIrq; dsimp only; split
  · simp
  · simp

/-- A served write leaves everything but registers and messages. -/
@[simp] theorem Core.written_rest (c : Core) (a : Access) (hold : Nat) : (c.written a hold).rest = c.rest := by
  unfold Core.written Core.writeTyped
  split
  · exact Core.putIrq_rest _ _ _
  · rfl

end Sys2Proof.Machine
end

