-- ==== Sys2Proof/Laws/Easel.lean ====
section
/-! SUPPORT. What happens to an Easel packet that is carried out: the body of its opcode, the reply that its session keeps, and
what everything around the body leaves alone. -/

namespace Sys2Proof.Machine

/-! ### Commands and the trace -/

theorem flushTrace_quiet {c : Core} (m : Mem) (h : c.atl.trace = []) : flushTrace m c = (c, m) := by
  unfold flushTrace; simp [h]

/-- What a command that touches registers and messages only answers, when it leaves no trace record. -/
theorem runCore_quiet {f : Core → Core} {s : State} (h : (f s.core).atl.trace = []) :
    runCore f s = .next { s with core := f s.core } := by
  unfold runCore runMem; simp [flushTrace_quiet _ h]

theorem runMem_quiet {f : Mem → Core → Core × Mem} {s : State} (h : (f s.mem s.core).1.atl.trace = []) :
    runMem f s = .next { s with core := (f s.mem s.core).1, mem := (f s.mem s.core).2 } := by
  unfold runMem; simp [flushTrace_quiet _ h]

/-- Every command answers a next state with the queue as it was. -/
theorem runMem_next (f : Mem → Core → Core × Mem) (s : State) :
    ∃ c m, runMem f s = .next { s with core := c, mem := m } := ⟨_, _, rfl⟩

theorem runCore_next (f : Core → Core) (s : State) : ∃ c m, runCore f s = .next { s with core := c, mem := m } := ⟨_, _, rfl⟩

theorem completes_of_runCore {i : Instr} {s : State} {f : Core → Core} {P : State → Prop} (e : exec i s = runCore f s)
    (h : (f s.core).atl.trace = []) (hp : P { s with core := f s.core }) : Completes i s P :=
  ⟨_, e.trans (runCore_quiet h), hp⟩

theorem completes_of_runMem {i : Instr} {s : State} {f : Mem → Core → Core × Mem} {P : State → Prop} (e : exec i s = runMem f s)
    (h : (f s.mem s.core).1.atl.trace = []) (hp : P { s with core := (f s.mem s.core).1, mem := (f s.mem s.core).2 }) :
    Completes i s P :=
  ⟨_, e.trans (runMem_quiet h), hp⟩

/-! ### A packet that is carried out -/

theorem passFrame_unarmed {c : Core} (h : c.armed 3 = false) (p cls : Nat) (f : Core → Core) : c.passFrame p cls f = f c := by
  unfold Core.passFrame Core.frameCopies; simp [h]

theorem runOp_admitted {c : Core} {o : Opc} {p : Packet} (h : c.admits o p = true) (body : Body) :
    runOp o body p (c.offered o p) = body (c.offered o p) (reqOf o p) := by
  simp only [Core.admits, Bool.and_eq_true, Bool.or_eq_true, Bool.not_eq_true', Bool.and_eq_false_iff, decide_eq_true_eq,
    decide_eq_false_iff_not] at h
  obtain ⟨⟨⟨⟨⟨⟨⟨⟨_, ht⟩, _⟩, _⟩, hr⟩, hw⟩, hl⟩, hn⟩, hf⟩ := h
  unfold runOp
  have h1 : ¬((c.offered o p).flag F.SYS_STATUS_RECOVERY = true ∧ (!recoveryOp o.code) = true) := by
    rintro ⟨a, b⟩; rcases hr with hr | hr <;> simp_all
  have h2 : ¬((c.offered o p).twinWaits = true ∧ mirrored o.code = true) := by
    rintro ⟨a, b⟩; rcases hw with hw | hw <;> simp_all
  have h3 : ¬((opcodeFunc o.code (reqOf o p).words).isSome = true ∧
      (c.offered o p).power.funcReset.map FuncReset.code = opcodeFunc o.code (reqOf o p).words) := by
    rintro ⟨a, b⟩; rcases hf with hf | hf <;> simp_all
  simp only [h1, h2, h3, if_false, hl, ht, hn, Bool.not_true, Bool.false_and, Bool.false_eq_true, reduceIte]

/-- An Easel packet that passes every check runs the body of its opcode. -/
theorem easel_admitted {c : Core} {o : Opc} {p : Packet} (h : c.admits o p = true) (body : Body) :
    easel o body p c = Core.settled o p (body (c.offered o p) (reqOf o p)) := by
  have hr := runOp_admitted h body
  simp only [Core.admits, Bool.and_eq_true, Bool.or_eq_true, Bool.not_eq_true', decide_eq_true_eq] at h
  obtain ⟨⟨⟨⟨⟨⟨⟨⟨ha, _⟩, hu⟩, hk⟩, _⟩, _⟩, _⟩, _⟩, _⟩ := h
  have once : easelOnce o body p c = Core.settled o p (body (c.offered o p) (reqOf o p)) := by
    unfold easelOnce
    simp only [ha, Bool.not_true, Bool.false_eq_true, reduceIte, hk]
    show Core.settled o p (runOp o body p (c.offered o p)) = _
    rw [hr]
  unfold easel
  split
  · next hi =>
    rw [passFrame_unarmed]
    · exact once
    · rcases hu with hu | hu
      · simp [hi] at hu
      · exact hu
  · exact once

@[simp] theorem Core.settled_still (o : Opc) (p : Packet) (a : Answer) : (Core.settled o p a).still = a.1.still := by
  unfold Core.settled noteOp
  rw [Core.flushInstant_still, Core.firstReply_still, Core.mirror_still, Core.still_of_rest (Core.taken_rest _ _ _ _ _)]
  split <;> rfl

@[simp] theorem Core.settled_shadow (o : Opc) (p : Packet) (a : Answer) : (Core.settled o p a).shadow = a.1.shadow := (congrArg Core.shadow (Core.settled_still o p a) :)
@[simp] theorem Core.settled_freeIx (o : Opc) (p : Packet) (a : Answer) : (Core.settled o p a).freeIx = a.1.freeIx := (congrArg Core.freeIx (Core.settled_still o p a) :)
@[simp] theorem Core.settled_power (o : Opc) (p : Packet) (a : Answer) : (Core.settled o p a).power = a.1.power := (congrArg Core.power (Core.settled_still o p a) :)
@[simp] theorem Core.settled_clk (o : Opc) (p : Packet) (a : Answer) : (Core.settled o p a).clk = a.1.clk := (congrArg Core.clk (Core.settled_still o p a) :)
@[simp] theorem Core.settled_time (o : Opc) (p : Packet) (a : Answer) : (Core.settled o p a).time = a.1.time := (congrArg Core.time (Core.settled_still o p a) :)
@[simp] theorem Core.settled_cfg (o : Opc) (p : Packet) (a : Answer) : (Core.settled o p a).cfg = a.1.cfg := (congrArg Core.cfg (Core.settled_still o p a) :)
@[simp] theorem Core.settled_scene (o : Opc) (p : Packet) (a : Answer) : (Core.settled o p a).scene = a.1.scene := (congrArg Core.scene (Core.settled_still o p a) :)
@[simp] theorem Core.settled_cal (o : Opc) (p : Packet) (a : Answer) : (Core.settled o p a).cal = a.1.cal := (congrArg Core.cal (Core.settled_still o p a) :)
@[simp] theorem Core.settled_ren (o : Opc) (p : Packet) (a : Answer) : (Core.settled o p a).ren = a.1.ren := (congrArg Core.ren (Core.settled_still o p a) :)
@[simp] theorem Core.settled_mon (o : Opc) (p : Packet) (a : Answer) : (Core.settled o p a).mon = a.1.mon := (congrArg Core.mon (Core.settled_still o p a) :)
@[simp] theorem Core.settled_out (o : Opc) (p : Packet) (a : Answer) : (Core.settled o p a).out = a.1.out := (congrArg Core.out (Core.settled_still o p a) :)
@[simp] theorem Core.settled_memc (o : Opc) (p : Packet) (a : Answer) : (Core.settled o p a).memc = a.1.memc := (congrArg Core.memc (Core.settled_still o p a) :)
@[simp] theorem Core.settled_flash (o : Opc) (p : Packet) (a : Answer) : (Core.settled o p a).flash = a.1.flash := (congrArg Core.flash (Core.settled_still o p a) :)
@[simp] theorem Core.settled_crc (o : Opc) (p : Packet) (a : Answer) : (Core.settled o p a).crc = a.1.crc := (congrArg Core.crc (Core.settled_still o p a) :)
@[simp] theorem Core.settled_health (o : Opc) (p : Packet) (a : Answer) : (Core.settled o p a).health = a.1.health := (congrArg Core.health (Core.settled_still o p a) :)
@[simp] theorem Core.settled_brush (o : Opc) (p : Packet) (a : Answer) : (Core.settled o p a).brush = a.1.brush := (congrArg Core.brush (Core.settled_still o p a) :)
@[simp] theorem Core.settled_atl (o : Opc) (p : Packet) (a : Answer) : (Core.settled o p a).atl = a.1.atl := (congrArg Core.atl (Core.settled_still o p a) :)
@[simp] theorem Core.settled_survey (o : Opc) (p : Packet) (a : Answer) : (Core.settled o p a).survey = a.1.survey := (congrArg Core.survey (Core.settled_still o p a) :)
@[simp] theorem Core.settled_arm (o : Opc) (p : Packet) (a : Answer) : (Core.settled o p a).arm = a.1.arm := (congrArg Core.arm (Core.settled_still o p a) :)
@[simp] theorem Core.settled_update (o : Opc) (p : Packet) (a : Answer) : (Core.settled o p a).update = a.1.update := (congrArg Core.update (Core.settled_still o p a) :)

@[simp] theorem Core.offered_rest (c : Core) (o : Opc) (p : Packet) : (c.offered o p).rest = c.rest := by simp [Core.offered]

@[simp] theorem Core.offered_shadow (c : Core) (o : Opc) (p : Packet) : (c.offered o p).shadow = c.shadow := (congrArg Core.shadow (Core.offered_rest c o p) :)
@[simp] theorem Core.offered_freeIx (c : Core) (o : Opc) (p : Packet) : (c.offered o p).freeIx = c.freeIx := (congrArg Core.freeIx (Core.offered_rest c o p) :)
@[simp] theorem Core.offered_power (c : Core) (o : Opc) (p : Packet) : (c.offered o p).power = c.power := (congrArg Core.power (Core.offered_rest c o p) :)
@[simp] theorem Core.offered_clk (c : Core) (o : Opc) (p : Packet) : (c.offered o p).clk = c.clk := (congrArg Core.clk (Core.offered_rest c o p) :)
@[simp] theorem Core.offered_time (c : Core) (o : Opc) (p : Packet) : (c.offered o p).time = c.time := (congrArg Core.time (Core.offered_rest c o p) :)
@[simp] theorem Core.offered_cfg (c : Core) (o : Opc) (p : Packet) : (c.offered o p).cfg = c.cfg := (congrArg Core.cfg (Core.offered_rest c o p) :)
@[simp] theorem Core.offered_scene (c : Core) (o : Opc) (p : Packet) : (c.offered o p).scene = c.scene := (congrArg Core.scene (Core.offered_rest c o p) :)
@[simp] theorem Core.offered_cal (c : Core) (o : Opc) (p : Packet) : (c.offered o p).cal = c.cal := (congrArg Core.cal (Core.offered_rest c o p) :)
@[simp] theorem Core.offered_ren (c : Core) (o : Opc) (p : Packet) : (c.offered o p).ren = c.ren := (congrArg Core.ren (Core.offered_rest c o p) :)
@[simp] theorem Core.offered_mon (c : Core) (o : Opc) (p : Packet) : (c.offered o p).mon = c.mon := (congrArg Core.mon (Core.offered_rest c o p) :)
@[simp] theorem Core.offered_out (c : Core) (o : Opc) (p : Packet) : (c.offered o p).out = c.out := (congrArg Core.out (Core.offered_rest c o p) :)
@[simp] theorem Core.offered_memc (c : Core) (o : Opc) (p : Packet) : (c.offered o p).memc = c.memc := (congrArg Core.memc (Core.offered_rest c o p) :)
@[simp] theorem Core.offered_flash (c : Core) (o : Opc) (p : Packet) : (c.offered o p).flash = c.flash := (congrArg Core.flash (Core.offered_rest c o p) :)
@[simp] theorem Core.offered_crc (c : Core) (o : Opc) (p : Packet) : (c.offered o p).crc = c.crc := (congrArg Core.crc (Core.offered_rest c o p) :)
@[simp] theorem Core.offered_health (c : Core) (o : Opc) (p : Packet) : (c.offered o p).health = c.health := (congrArg Core.health (Core.offered_rest c o p) :)
@[simp] theorem Core.offered_brush (c : Core) (o : Opc) (p : Packet) : (c.offered o p).brush = c.brush := (congrArg Core.brush (Core.offered_rest c o p) :)
@[simp] theorem Core.offered_atl (c : Core) (o : Opc) (p : Packet) : (c.offered o p).atl = c.atl := (congrArg Core.atl (Core.offered_rest c o p) :)
@[simp] theorem Core.offered_survey (c : Core) (o : Opc) (p : Packet) : (c.offered o p).survey = c.survey := (congrArg Core.survey (Core.offered_rest c o p) :)
@[simp] theorem Core.offered_arm (c : Core) (o : Opc) (p : Packet) : (c.offered o p).arm = c.arm := (congrArg Core.arm (Core.offered_rest c o p) :)
@[simp] theorem Core.offered_update (c : Core) (o : Opc) (p : Packet) : (c.offered o p).update = c.update := (congrArg Core.update (Core.offered_rest c o p) :)
@[simp] theorem Core.offered_net (c : Core) (o : Opc) (p : Packet) : (c.offered o p).net = c.net := (congrArg Core.net (Core.offered_rest c o p) :)
@[simp] theorem Core.offered_twin (c : Core) (o : Opc) (p : Packet) : (c.offered o p).twin = c.twin := (congrArg Core.twin (Core.offered_rest c o p) :)

end Sys2Proof.Machine
end

