-- ==== Sys2Proof/Laws/Replies.lean ====
section
/-! SUPPORT. The reply that a session keeps for a command, through everything that follows the body of its opcode; and the
registers that this leaves alone. -/

namespace Sys2Proof.Machine

/-! ### What the sessions keep -/

/-- What the sessions have been told: for each its number and, for each command it keeps, SEQUENCE, status and parameters. -/
def Core.tolds (c : Core) : List (Nat × List (Word × Nat × List Byte)) :=
  c.host.sessions.map fun s => (s.num, s.stored.map fun x => (x.seq, x.status, x.body))

theorem tolds_of_sessions {c d : Core} (h : c.host.sessions = d.host.sessions) : c.tolds = d.tolds := by
  unfold Core.tolds; rw [h]

@[simp] theorem Core.send_sessions (c : Core) (m : Msg) : (c.send m).host.sessions = c.host.sessions := rfl

@[simp] theorem Core.setF_sessions (c : Core) (x : Field) (v : Nat) : (c.setF x v).host.sessions = c.host.sessions := rfl

@[simp] theorem Core.msix_sessions (c : Core) (v : Nat) : (c.msix v).host.sessions = c.host.sessions := by
  unfold Core.msix; split <;> rfl

@[simp] theorem Core.ring_sessions (c : Core) (b : Nat) : (c.ring b).host.sessions = c.host.sessions := by
  unfold Core.ring; dsimp only; repeat' split
  all_goals simp

@[simp] theorem Core.fireSource_sessions (c : Core) (st : Nat) : (c.fireSource st).host.sessions = c.host.sessions := by
  unfold Core.fireSource; dsimp only; split <;> simp

@[simp] theorem Core.raise_sessions (c : Core) (x : Field) : (c.raise x).host.sessions = c.host.sessions := by
  unfold Core.raise; dsimp only; repeat' split
  all_goals first | rfl | exact (Core.fireSource_sessions _ _).trans rfl

@[simp] theorem Core.raise?_sessions (c : Core) (x : Option Field) : (c.raise? x).host.sessions = c.host.sessions := by
  cases x <;> simp [Core.raise?]

@[simp] theorem Core.countS_sessions (c : Core) (x sat : Field) (n : Nat) : (c.countS x sat n).host.sessions = c.host.sessions := by
  unfold Core.countS; dsimp only; split <;> simp

@[simp] theorem Core.countW_sessions (c : Core) (r n : Nat) : (c.countW r n).host.sessions = c.host.sessions := by
  unfold Core.countW; dsimp only; split
  · rw [Core.raise?_sessions]; rfl
  · rfl

@[simp] theorem Core.ringPut_sessions (c : Core) (m : Msg) : (c.ringPut m).host.sessions = c.host.sessions := by
  unfold Core.ringPut; simp

@[simp] theorem Core.queueFrame_sessions (c : Core) (p : Nat) (x : TxFrame) : (c.queueFrame p x).host.sessions = c.host.sessions := by
  unfold Core.queueFrame; repeat' split
  all_goals first | rfl | simp [Core.count, Core.countN]

@[simp] theorem Core.queueDatagram_sessions (c : Core) (n : Nat) (m : Msg) :
    (c.queueDatagram n m).host.sessions = c.host.sessions := by
  unfold Core.queueDatagram; dsimp only
  rw [Core.queueFrame_sessions]
  exact foldl_keeps (fun c : Core => c.host.sessions) _ (fun a b => Core.queueFrame_sessions _ _ _) _ _

@[simp] theorem Core.post_sessions (c : Core) (m : Msg) : (c.post m).host.sessions = c.host.sessions := by
  unfold Core.post; repeat' split
  all_goals first | rfl | (dsimp only; repeat' split)
  all_goals first | rfl | simp

@[simp] theorem Core.postAfter_sessions (c : Core) (n : Nat) (q : Word) (m : Msg) :
    (c.postAfter n q m).host.sessions = c.host.sessions := by
  unfold Core.postAfter; split
  · rfl
  · simp

@[simp] theorem Core.notice_sessions (c : Core) (t : Tok) (st : Status) (l : List Byte) :
    (c.notice t st l).host.sessions = c.host.sessions := by
  unfold Core.notice; dsimp only; repeat' split
  all_goals first | rfl | exact (Core.postAfter_sessions _ _ _ _).trans rfl

@[simp] theorem Core.flushInstant_sessions (c : Core) : c.flushInstant.host.sessions = c.host.sessions := by
  unfold Core.flushInstant
  exact (foldl_keeps (fun c : Core => c.host.sessions) _ (fun a b => Core.notice_sessions _ _ _ _) _ _).trans rfl

@[simp] theorem Core.reply_sessions (c : Core) (op : Nat) (p : Packet) (n : Nat) (st : Status) (l : List Byte) :
    (c.reply op p n st l).host.sessions = c.host.sessions := by unfold Core.reply; split <;> simp

@[simp] theorem Core.mirror_sessions (c : Core) (op : Nat) (p : Packet) (st : Status) :
    (c.mirror op p st).host.sessions = c.host.sessions := by unfold Core.mirror; split <;> rfl

theorem Core.popRing_sessions (c : Core) (op : Nat) (p : Packet) : (c.popRing op p).host.sessions = c.host.sessions := by
  unfold Core.popRing; repeat' split
  all_goals rfl

@[simp] theorem Core.offered_sessions (c : Core) (o : Opc) (p : Packet) : (c.offered o p).host.sessions = c.host.sessions := by
  unfold Core.offered; rw [Core.countW_sessions, Core.popRing_sessions]

theorem setSession_tolds (c : Core) {s s' : Session} (hs : c.session? s.num = some s) (hn : s'.num = s.num)
    (hu : ∀ x ∈ c.host.sessions, x.num = s.num → (x.stored.map fun x => (x.seq, x.status, x.body)) =
      s'.stored.map fun x => (x.seq, x.status, x.body)) : (c.setSession s').tolds = c.tolds := by
  unfold Core.tolds Core.setSession
  simp only [List.map_map]
  apply List.map_congr_left
  intro x hx
  simp only [Function.comp]
  split
  · next h => rw [hn] at h ⊢; rw [h, hu x hx h]
  · rfl

/-! ### The newest command of a session -/

/-- What a session has been told last. -/
def Core.lastTold (c : Core) (num : Nat) : Option (Word × Nat × List Byte) :=
  (c.session? num).bind fun s => s.stored.head?.map fun x => (x.seq, x.status, x.body)

theorem lastTold_of_sessions {c d : Core} (h : c.host.sessions = d.host.sessions) (n : Nat) : c.lastTold n = d.lastTold n := by
  unfold Core.lastTold Core.session?; rw [h]

theorem told_of_lastTold {c : Core} {p : Packet} {n : Nat} {l : List Byte} (h : c.lastTold p.session.toNat = some (p.seq, n, l)) :
    c.told p = some (n, l) := by
  unfold Core.lastTold at h
  unfold Core.told
  cases hs : c.session? p.session.toNat with
  | none => simp [hs] at h
  | some s =>
    simp only [hs, Option.bind_some] at h
    cases hl : s.stored with
    | nil => simp [hl] at h
    | cons x t => simp [hl] at h ⊢; simp [h]

theorem session?_setSession (c : Core) (s : Session) :
    (c.setSession s).session? s.num = (c.session? s.num).map fun _ => s := by
  unfold Core.session? Core.setSession
  simp only
  induction c.host.sessions with
  | nil => rfl
  | cons x t ih =>
    by_cases h : x.num = s.num
    · simp [h]
    · simp only [List.map_cons, h, if_false]
      rw [List.find?_cons_of_neg (by simp [h]), List.find?_cons_of_neg (by simp [h]), ih]

theorem session?_setSession_of (c : Core) {s : Session} {n : Nat} (h : s.num = n) :
    (c.setSession s).session? n = (c.session? n).map fun _ => s := by subst h; exact session?_setSession c s

theorem session?_num {c : Core} {n : Nat} {s : Session} (h : c.session? n = some s) : s.num = n := by
  have := List.find?_some h; simpa using this

theorem markSent_lastTold (c : Core) (n : Nat) (q : Word) (b : Bool) : (c.markSent n q b).lastTold n = c.lastTold n := by
  unfold Core.markSent
  cases hs : c.session? n with
  | none => rfl
  | some s =>
    have hn := session?_num hs
    subst hn
    unfold Core.lastTold
    have := session?_setSession c { s with stored := s.stored.map fun r => if r.seq = q then { r with sent := b } else r }
    simp only [hs, Option.map_some] at this
    simp only [this, hs, Option.bind_some]
    cases s.stored with
    | nil => rfl
    | cons x t => simp only [List.map_cons, List.head?_cons, Option.map_some]; split <;> rfl

theorem firstReply_lastTold (c : Core) (op : Nat) (p : Packet) (a : Status × List Byte) :
    (c.firstReply op p a).lastTold p.session.toNat = c.lastTold p.session.toNat := by
  unfold Core.firstReply
  repeat' split
  · rfl
  · exact (markSent_lastTold c _ p.seq false)
  · exact lastTold_of_sessions (Core.reply_sessions _ _ _ _ _ _) _

theorem taken_lastTold {c : Core} {p : Packet} (h : (c.session? p.session.toNat).isSome = true) (op : Nat) (st : Status)
    (l : List Byte) : (c.taken op p st l).lastTold p.session.toNat = some (p.seq, statusCode st, l) := by
  obtain ⟨s, hs⟩ := Option.isSome_iff_exists.mp h
  have hn := session?_num hs
  have e : c.taken op p st l = c.setSession { s with
      expected := p.seq + 1
      stored := (({ seq := p.seq, opcode := op, length := p.length.toNat, status := statusCode st, body := l, sent := true } :
        Stored) :: s.stored).take 64 } := by unfold Core.taken; rw [hs]
  rw [e]
  unfold Core.lastTold
  rw [session?_setSession_of _ (by exact hn), hs]
  rfl

/-- The session of a packet that is carried out keeps the answer of the opcode's body as its first reply. -/
theorem settled_told {o : Opc} {p : Packet} {a : Answer} (h : (a.1.session? p.session.toNat).isSome = true) :
    (Core.settled o p a).told p = some (statusCode a.2.1, a.2.2) := by
  apply told_of_lastTold
  unfold Core.settled
  rw [lastTold_of_sessions (Core.flushInstant_sessions _), firstReply_lastTold, lastTold_of_sessions (Core.mirror_sessions _ _ _ _)]
  apply taken_lastTold
  unfold noteOp
  split
  · exact h
  · exact h

theorem session?_of_sessions {c d : Core} (h : c.host.sessions = d.host.sessions) (n : Nat) : c.session? n = d.session? n := by
  unfold Core.session?; rw [h]

/-- The session of a packet with a session number is open when the packet is carried out. -/
theorem admits_session {c : Core} {o : Opc} {p : Packet} (h : c.admits o p = true) (ho : o.code ≠ 0x0100) :
    (c.session? p.session.toNat).isSome = true := by
  simp only [Core.admits, Bool.and_eq_true, decide_eq_true_eq] at h
  have ha := h.1.1.1.1.1.2
  rw [← session?_of_sessions (Core.popRing_sessions c o.code p)]
  generalize hc : c.popRing o.code p = d at ha
  unfold Core.arrival at ha
  repeat' split at ha
  all_goals first | (cases ha; done) | skip
  next hs _ _ _ _ => rw [hs]; rfl

/-- The answer that a command's session keeps, where the body leaves the sessions alone. -/
theorem answered_of_body {c : Core} {o : Opc} {p : Packet} {body : Body} (h : c.admits o p = true) (ho : o.code ≠ 0x0100)
    (hb : (body (c.offered o p) (reqOf o p)).1.host.sessions = c.host.sessions) :
    (easel o body p c).told p =
      some (statusCode (body (c.offered o p) (reqOf o p)).2.1, (body (c.offered o p) (reqOf o p)).2.2) := by
  rw [easel_admitted h]
  apply settled_told
  rw [session?_of_sessions hb]
  exact admits_session h ho

/-! ### Registers outside the host interface and port P3 -/

/-- The window of a register. -/
def window (off : Nat) : Nat := off / 0x100000

theorem satField_window {off : Nat} {x : Field} (h : satField off = some x) : window x.off = window off := by
  unfold satField at h
  unfold window
  split at h
  all_goals first
    | (rename_i e; simp only [Option.some.injEq] at h; subst h; rw [e]; rfl)
    | skip
  split at h
  · next hw =>
      simp only [Option.some.injEq] at h
      subst h
      simp only [F.NET_INT_STATUS_SAT, R.NET_INT_STATUS]
      omega
  · simp at h

theorem halfField_window {off : Nat} {x : Field} (h : halfField off = some x) : window x.off = window off := by
  unfold halfField at h
  unfold window
  split at h
  all_goals first
    | (rename_i e; simp only [Option.some.injEq] at h; subst h; rw [e]; rfl)
    | skip
  split at h
  · next hw =>
      simp only [Option.some.injEq] at h
      subst h
      simp only [F.NET_INT_STATUS_HALF_RANGE, R.NET_INT_STATUS]
      omega
  · simp at h

theorem Core.get_put_away (c : Core) {r off : Nat} (w : Word) (h : window off ≠ window r) : (c.put r w).get off = c.get off :=
  c.get_put_ne w (fun e => h (by rw [e]))

theorem Core.get_setF_away (c : Core) {x : Field} {off : Nat} (v : Nat) (h : window off ≠ window x.off) :
    (c.setF x v).get off = c.get off := c.get_put_away _ h

theorem Core.msix_regs (c : Core) (v : Nat) : (c.msix v).regs = c.regs := by unfold Core.msix; split <;> rfl

theorem get_of_regs {c d : Core} (h : c.regs = d.regs) (off : Nat) : c.get off = d.get off := by unfold Core.get; rw [h]

theorem Core.fireSource_regs (c : Core) (st : Nat) : (c.fireSource st).regs = c.regs := by
  unfold Core.fireSource; dsimp only; split
  · exact Core.msix_regs _ _
  · rfl

/-- An interrupt changes no register but its own status register. -/
theorem Core.get_raise_ne (c : Core) {x : Field} {off : Nat} (h : off ≠ x.off) : (c.raise x).get off = c.get off := by
  have base : (c.setF x 1).get off = c.get off := c.get_setF_ne _ h
  unfold Core.raise; dsimp only; repeat' split
  all_goals first
    | exact (get_of_regs (Core.fireSource_regs _ _) _).trans base
    | exact base

theorem Core.get_raise?_away (c : Core) {x : Option Field} {off w : Nat} (hx : ∀ y, x = some y → window y.off = w) (h : window off ≠ w) :
    (c.raise? x).get off = c.get off := by
  cases x with
  | none => rfl
  | some y => exact c.get_raise_ne (fun e => h (by rw [e, hx y rfl]))

theorem Core.get_countN_away (c : Core) {r off : Nat} (n : Nat) (h : window off ≠ window r) : (c.countN r n).get off = c.get off := by
  unfold Core.countN Core.countS; dsimp only; split
  · rw [Core.get_raise?_away _ (fun y hy => satField_window hy) h, Core.get_setF_away _ _ h, Core.get_setF_away _ _ h]
  · exact c.get_setF_away _ h

theorem Core.get_countW_away (c : Core) {r off : Nat} (n : Nat) (h : window off ≠ window r) : (c.countW r n).get off = c.get off := by
  unfold Core.countW; dsimp only; split
  · rw [Core.get_raise?_away _ (fun y hy => halfField_window hy) h, Core.get_put_away _ _ h]
  · exact c.get_put_away _ h

theorem Core.get_ring_away (c : Core) {b off : Nat} (h : window off ≠ 3) : (c.ring b).get off = c.get off := by
  have w : window R.HOST_DB_STATUS = 3 := by decide
  unfold Core.ring; dsimp only; repeat' split
  · rfl
  · exact c.get_setF_away _ (by rw [w]; exact h)
  · exact (get_of_regs (Core.msix_regs _ _) _).trans (c.get_setF_away _ (by rw [w]; exact h))

theorem Core.get_ringPut_away (c : Core) {m : Msg} {off : Nat} (h : window off ≠ 3) : (c.ringPut m).get off = c.get off := by
  have w : window F.HOST_RPL_PROD_INDEX.off = 3 := by decide
  unfold Core.ringPut
  rw [Core.get_ring_away _ h, Core.get_setF_away _ _ (by rw [w]; exact h)]
  rfl

theorem Core.get_queueFrame_away (c : Core) {x : TxFrame} {off : Nat} (hx : x.stream = none) (h : window off ≠ 15) :
    (c.queueFrame 3 x).get off = c.get off := by
  have w1 : window (R.NET_TX_ERR 3) = 15 := by decide
  have w2 : window (F.NET_INT_STATUS_TX_ERR 3).off = 15 := by decide
  unfold Core.queueFrame; rw [hx]; dsimp only; repeat' split
  · rfl
  · rw [Core.get_raise_ne _ (fun e => h (by rw [e, w2]))]
    exact c.get_countN_away 1 (by rw [w1]; exact h)
  · rfl

theorem Core.get_queueDatagram_away (c : Core) {n : Nat} {m : Msg} {off : Nat} (h : window off ≠ 15) :
    (c.queueDatagram n m).get off = c.get off := by
  unfold Core.queueDatagram; dsimp only
  rw [Core.get_queueFrame_away _ rfl h]
  exact foldl_keeps (fun c : Core => c.get off) _ (fun a b => Core.get_queueFrame_away _ rfl h) _ _

/-- A message changes registers of the host interface and of port P3 only. -/
theorem Core.get_post_away (c : Core) {m : Msg} {off : Nat} (h : window off ≠ 3) (h' : window off ≠ 15) :
    (c.post m).get off = c.get off := by
  unfold Core.post; repeat' split
  all_goals first | rfl | (dsimp only; repeat' split)
  all_goals first | rfl | exact Core.get_ringPut_away _ h | exact Core.get_queueDatagram_away _ h'

theorem Core.get_postAfter_away (c : Core) {n : Nat} {q : Word} {m : Msg} {off : Nat} (h : window off ≠ 3) (h' : window off ≠ 15) :
    (c.postAfter n q m).get off = c.get off := by
  unfold Core.postAfter; split
  · rfl
  · exact c.get_post_away h h'

theorem Core.get_notice_away (c : Core) {t : Tok} {st : Status} {l : List Byte} {off : Nat} (h : window off ≠ 3) (h' : window off ≠ 15) :
    (c.notice t st l).get off = c.get off := by
  unfold Core.notice; dsimp only; repeat' split
  all_goals first | rfl | exact (Core.get_postAfter_away _ h h').trans rfl

theorem Core.get_flushInstant_away (c : Core) {off : Nat} (h : window off ≠ 3) (h' : window off ≠ 15) :
    c.flushInstant.get off = c.get off := by
  unfold Core.flushInstant
  exact (foldl_keeps (fun c : Core => c.get off) _ (fun a b => Core.get_notice_away _ h h') _ _).trans rfl

theorem Core.markSent_regs (c : Core) (n : Nat) (q : Word) (b : Bool) : (c.markSent n q b).regs = c.regs := by
  unfold Core.markSent; split <;> rfl

theorem Core.get_firstReply_away (c : Core) {op : Nat} {p : Packet} {a : Status × List Byte} {off : Nat} (h : window off ≠ 3)
    (h' : window off ≠ 15) : (c.firstReply op p a).get off = c.get off := by
  unfold Core.firstReply; repeat' split
  · rfl
  · exact get_of_regs (Core.markSent_regs c _ _ _) _
  · unfold Core.reply; split
    · rfl
    · exact c.get_post_away h h'

/-- What follows the body of an opcode changes registers of the host interface and of port P3 only. -/
theorem Core.get_settled_away {o : Opc} {p : Packet} {a : Answer} {off : Nat} (h : window off ≠ 3) (h' : window off ≠ 15) :
    (Core.settled o p a).get off = a.1.get off := by
  unfold Core.settled
  rw [Core.get_flushInstant_away _ h h', Core.get_firstReply_away _ h h']
  unfold Core.mirror
  have e : ∀ c : Core, (c.taken o.code p a.2.1 a.2.2).get off = c.get off := by
    intro c; unfold Core.taken; split <;> rfl
  split
  · exact (e _).trans (by unfold noteOp; split <;> rfl)
  · exact (e _).trans (by unfold noteOp; split <;> rfl)

theorem Core.get_offered_away (c : Core) {o : Opc} {p : Packet} {off : Nat} (h : window off ≠ 3) :
    (c.offered o p).get off = c.get off := by
  have w : window R.HOST_EASEL_RX_COUNT = 3 := by decide
  unfold Core.offered
  rw [Core.get_countW_away _ _ (by rw [w]; exact h)]
  unfold Core.popRing; repeat' split
  all_goals rfl

end Sys2Proof.Machine
end

