-- ==== Sys2Proof/Laws/Memory.lean ====
section
/-! SUPPORT. What the memory controller and the trace leave alone: the canonical form of the memories, and every part of the module
beside registers, messages, memory controller and trace. -/

namespace Sys2Proof.Machine

/-! ### The canonical form of the memories -/

theorem wf_iff (m : Mem) : Memory.wf m = true ↔ smWf (fun _ => (0 : Byte)) m.dram = true ∧ smWf (fun _ => (0 : Byte)) m.sram = true := by
  simp [Memory.wf]

theorem writeDram_wf {m : Mem} (h : Memory.wf m = true) (a : Nat) (l : List Byte) : Memory.wf (m.writeDram a l) = true := by
  induction l generalizing m a with
  | nil => exact h
  | cons b t ih =>
    apply ih
    rw [wf_iff] at h ⊢
    exact ⟨smWf_smSet _ _ _ h.1, h.2⟩

theorem writeSram_wf {m : Mem} (h : Memory.wf m = true) (a : Nat) (l : List Byte) : Memory.wf (m.writeSram a l) = true := by
  induction l generalizing m a with
  | nil => exact h
  | cons b t ih =>
    apply ih
    rw [wf_iff] at h ⊢
    exact ⟨h.1, smWf_smSet _ _ _ h.2⟩

theorem write_wf {m : Mem} (h : Memory.wf m = true) (a : Nat) (l : List Byte) : Memory.wf (m.write a l) = true := by
  unfold Mem.write; split
  · exact writeDram_wf h a l
  · exact writeSram_wf h a l

theorem foldl_wf {β : Type} (f : Mem → β → Mem) (hf : ∀ m b, Memory.wf m = true → Memory.wf (f m b) = true) (l : List β) {m : Mem}
    (h : Memory.wf m = true) : Memory.wf (l.foldl f m) = true := by
  induction l generalizing m with
  | nil => exact h
  | cons b t ih => exact ih (hf m b h)

theorem memWrite_wf {mem : Mem} (h : Memory.wf mem = true) (m a : Nat) (bs : List Byte) (c : Core) :
    Memory.wf (memWrite m a bs mem c).2 = true := by
  unfold memWrite; dsimp only; split
  · exact writeDram_wf (foldl_wf _ (fun m b hm => writeDram_wf hm _ _) _ h) _ _
  · exact writeSram_wf h _ _

theorem foldl_snd_wf {β : Type} (f : Core × Mem → β → Core × Mem)
    (hf : ∀ a b, Memory.wf a.2 = true → Memory.wf (f a b).2 = true) (l : List β) {a : Core × Mem} (h : Memory.wf a.2 = true) :
    Memory.wf (l.foldl f a).2 = true := by
  induction l generalizing a with
  | nil => exact h
  | cons b t ih => exact ih (hf a b h)

theorem flushTrace_wf {m : Mem} (h : Memory.wf m = true) (c : Core) : Memory.wf (flushTrace m c).2 = true := by
  unfold flushTrace; split
  · exact h
  · exact foldl_snd_wf _ (fun a b ha => memWrite_wf ha _ _ _ _) _ h

/-- A command whose meaning keeps the memories in canonical form leaves them so. -/
theorem runMem_wf {f : Mem → Core → Core × Mem} {s t : State} (hf : Memory.wf (f s.mem s.core).2 = true) (h : runMem f s = .next t) :
    Memory.wf t.mem = true := by
  unfold runMem at h
  simp only [Host.Outcome.next.injEq] at h
  subst h
  exact flushTrace_wf hf _

theorem runCore_wf {f : Core → Core} {s t : State} (hm : Memory.wf s.mem = true) (h : runCore f s = .next t) :
    Memory.wf t.mem = true := runMem_wf (f := fun m c => (f c, m)) hm h

theorem runReset_wf {f : Core → Core} {s t : State} (hm : Memory.wf s.mem = true) (h : runReset f s = .next t) :
    Memory.wf t.mem = true := by
  refine runMem_wf ?_ h
  dsimp only
  split
  · simp only [Memory.wf, Bool.and_eq_true] at hm ⊢
    exact ⟨hm.1, rfl⟩
  · exact hm

/-! ### What the memory controller leaves alone -/

/-- Everything beside registers, messages, host interface, free values, memory controller, scans, health and trace. -/
def Core.beyond (c : Core) : Core :=
  { c with regs := [], outbox := [], freeIx := 0, host := {}, memc := {}, crc := {}, health := {}, atl := {} }

theorem beyond_of_rest {c d : Core} (h : c.rest = d.rest) : c.beyond = d.beyond :=
  (congrArg (fun c : Core => { c with freeIx := 0, memc := {}, crc := {}, health := {}, atl := {} }) h :)

@[simp] theorem Core.seenAt_beyond (c : Core) (k : Nat) : (c.seenAt k).beyond = c.beyond := rfl

@[simp] theorem Core.rowAccess_beyond (c : Core) (p : DramPlace) : (c.rowAccess p).beyond = c.beyond := by
  unfold Core.rowAccess; dsimp only; split
  · exact beyond_of_rest (Core.countW_rest _ _ _)
  · exact (beyond_of_rest (Core.countW_rest _ _ _)).trans rfl

theorem drainTo_beyond (ch keep n : Nat) (c : Core) : (Core.drainTo ch keep n c).beyond = c.beyond := by
  induction n generalizing c with
  | zero => rfl
  | succ n ih =>
    unfold Core.drainTo; split
    · rfl
    · split
      · rfl
      · rw [ih, Core.rowAccess_beyond]; rfl

theorem seen_beyond {c d : Core} (h : d.rest = c.rest) (k : Nat) : (d.seenAt k).beyond = c.beyond :=
  (Core.seenAt_beyond d k).trans (beyond_of_rest h)

/-- The record of the first uncorrectable word (R455). -/
theorem firstUncorr_beyond {c d : Core} (h : d.beyond = c.beyond) (a : Word) (b m : Nat) :
    ((((d.put R.MEMC_FIRST_UNCORR_LO a).setF F.MEMC_FIRST_UNCORR_HI_ADDR b).setF
        F.MEMC_FIRST_UNCORR_HI_MASTER m).setF F.MEMC_FIRST_UNCORR_HI_VALID 1).beyond = c.beyond :=
  (beyond_of_rest (by rw [Core.setF_rest, Core.setF_rest, Core.setF_rest, Core.put_rest])).trans h

@[simp] theorem wordRead_beyond (m : Nat) (c : Core) (w : Nat) : (Core.wordRead m c w).beyond = c.beyond := by
  unfold Core.wordRead
  have e := seen_beyond (c := c) (d := (c.count R.MEMC_UNCORRECTED).raise F.MEMC_INT_STATUS_UNCORRECTED) (by simp)
  split
  · rfl
  · exact seen_beyond (by simp) _
  · dsimp only
    split
    · exact e _
    · exact firstUncorr_beyond (e _) _ _ m

@[simp] theorem memcRead_beyond (m a n : Nat) (c : Core) : (Core.memcRead m a n c).beyond = c.beyond := by
  unfold Core.memcRead
  rw [foldl_keeps Core.beyond _ (fun a b => wordRead_beyond m a b)]
  refine foldl_keeps Core.beyond _ (fun a b => ?_) _ _
  dsimp only; rw [Core.rowAccess_beyond]; split
  · exact (drainTo_beyond _ _ _ _).trans (beyond_of_rest (by simp))
  · rfl

@[simp] theorem Core.crcTouch_beyond (c : Core) (a n : Nat) : (c.crcTouch a n).beyond = c.beyond := by
  unfold Core.crcTouch
  refine foldl_keeps Core.beyond _ (fun a b => ?_) _ _
  dsimp only; repeat' split
  all_goals rfl

@[simp] theorem Core.crcTouch_atl (c : Core) (a n : Nat) : (c.crcTouch a n).atl = c.atl := by
  unfold Core.crcTouch
  refine foldl_keeps Core.atl _ (fun a b => ?_) _ _
  dsimp only; repeat' split
  all_goals rfl

theorem setEccs_beyond (l : List Nat) (c : Core) : (l.foldl (fun c w => c.setEcc w 0) c).beyond = c.beyond :=
  foldl_keeps Core.beyond (fun (c : Core) w => c.setEcc w 0) (fun _ _ => rfl) l c

theorem setEccs_atl (l : List Nat) (c : Core) : (l.foldl (fun c w => c.setEcc w 0) c).atl = c.atl :=
  foldl_keeps Core.atl (fun (c : Core) w => c.setEcc w 0) (fun _ _ => rfl) l c

@[simp] theorem memWrite_beyond (m a : Nat) (bs : List Byte) (mem : Mem) (c : Core) : (memWrite m a bs mem c).1.beyond = c.beyond := by
  unfold memWrite; dsimp only; split
  · dsimp only
    rw [foldl_keeps Core.beyond _ (fun a b => ?_)]
    · rw [setEccs_beyond, foldl_keeps Core.beyond _ (fun a b => memcRead_beyond _ _ _ _)]
      exact Core.crcTouch_beyond _ _ _
    · split
      · exact (drainTo_beyond _ _ _ _).trans rfl
      · rfl
  · exact Core.crcTouch_beyond _ _ _

/-! ### What the trace leaves alone -/

theorem with_atl_beyond (c : Core) (x : AtelierPart) : { c with atl := x }.beyond = c.beyond := rfl

theorem recordWords_beyond (c : Core) (e : AtEvent) : (c.recordWords e).2.beyond = c.beyond := by
  unfold Core.recordWords Core.free; rfl

theorem ringRecord_beyond (c : Core) (ws : List Nat) : (c.ringRecord ws).2.beyond = c.beyond := by
  unfold Core.ringRecord; dsimp only; split
  · have e : ((c.count R.ATELIER_TRACE_DROP).raise F.ATELIER_INT_STATUS_TRACE_DROP).beyond = c.beyond := beyond_of_rest (by simp)
    exact (with_atl_beyond _ _).trans e
  · exact beyond_of_rest (Core.setF_rest _ _ _)

theorem foldl_snd_keeps {β δ γ : Type} (g : Core → γ) (f : δ × Core → β → δ × Core) (hf : ∀ a b, g (f a b).2 = g a.2) (l : List β)
    (a : δ × Core) : g (l.foldl f a).2 = g a.2 := by
  induction l generalizing a with
  | nil => rfl
  | cons b t ih => exact (ih _).trans (hf a b)

/-- One record of the trace, with the record of a gap before it. -/
theorem traceWrites_step_beyond (a : List (Nat × List Byte) × Core) (e : AtEvent) :
    ((if !a.2.traces e.event then a
      else
        let lost := if a.2.atl.gap > 0 ∧ a.2.traces 11 then
            let r := a.2.recordWords { event := 11, reason := 0, slot := 0, info := { seq := a.2.atl.gap }, core := 0x7F, port := 0x7F }
            let w := r.2.ringRecord r.1
            if w.1.isSome then (w.1.toList, { w.2 with atl := { w.2.atl with gap := 0 } }) else ([], a.2)
          else ([], a.2)
        let r := lost.2.recordWords e
        let w := r.2.ringRecord r.1
        (a.1 ++ lost.1 ++ w.1.toList, w.2)) : List (Nat × List Byte) × Core).2.beyond = a.2.beyond := by
  split
  · rfl
  · dsimp only
    rw [ringRecord_beyond, recordWords_beyond]
    split
    · split
      · exact (ringRecord_beyond _ _).trans (recordWords_beyond _ _)
      · rfl
    · rfl

theorem traceWrites_beyond (c : Core) : c.traceWrites.2.beyond = c.beyond := by
  unfold Core.traceWrites; dsimp only
  exact (foldl_snd_keeps Core.beyond _ traceWrites_step_beyond _ _).trans rfl

theorem flushTrace_beyond (m : Mem) (c : Core) : (flushTrace m c).1.beyond = c.beyond := by
  unfold flushTrace; split
  · rfl
  · have : ∀ (l : List (Nat × List Byte)) (a : Core × Mem),
        (l.foldl (fun (a : Core × Mem) x => memWrite 7 x.1 x.2 a.2 a.1) a).1.beyond = a.1.beyond := by
      intro l
      induction l with
      | nil => intro a; rfl
      | cons b t ih => intro a; exact (ih _).trans (memWrite_beyond _ _ _ _ _)
    exact (this _ _).trans (traceWrites_beyond c)

@[simp] theorem flushTrace_shadow (m : Mem) (c : Core) : (flushTrace m c).1.shadow = c.shadow := (congrArg Core.shadow (flushTrace_beyond m c) :)
@[simp] theorem flushTrace_power (m : Mem) (c : Core) : (flushTrace m c).1.power = c.power := (congrArg Core.power (flushTrace_beyond m c) :)
@[simp] theorem flushTrace_clk (m : Mem) (c : Core) : (flushTrace m c).1.clk = c.clk := (congrArg Core.clk (flushTrace_beyond m c) :)
@[simp] theorem flushTrace_time (m : Mem) (c : Core) : (flushTrace m c).1.time = c.time := (congrArg Core.time (flushTrace_beyond m c) :)
@[simp] theorem flushTrace_cfg (m : Mem) (c : Core) : (flushTrace m c).1.cfg = c.cfg := (congrArg Core.cfg (flushTrace_beyond m c) :)
@[simp] theorem flushTrace_scene (m : Mem) (c : Core) : (flushTrace m c).1.scene = c.scene := (congrArg Core.scene (flushTrace_beyond m c) :)
@[simp] theorem flushTrace_cal (m : Mem) (c : Core) : (flushTrace m c).1.cal = c.cal := (congrArg Core.cal (flushTrace_beyond m c) :)
@[simp] theorem flushTrace_ren (m : Mem) (c : Core) : (flushTrace m c).1.ren = c.ren := (congrArg Core.ren (flushTrace_beyond m c) :)
@[simp] theorem flushTrace_mon (m : Mem) (c : Core) : (flushTrace m c).1.mon = c.mon := (congrArg Core.mon (flushTrace_beyond m c) :)
@[simp] theorem flushTrace_out (m : Mem) (c : Core) : (flushTrace m c).1.out = c.out := (congrArg Core.out (flushTrace_beyond m c) :)
@[simp] theorem flushTrace_flash (m : Mem) (c : Core) : (flushTrace m c).1.flash = c.flash := (congrArg Core.flash (flushTrace_beyond m c) :)
@[simp] theorem flushTrace_brush (m : Mem) (c : Core) : (flushTrace m c).1.brush = c.brush := (congrArg Core.brush (flushTrace_beyond m c) :)
@[simp] theorem flushTrace_survey (m : Mem) (c : Core) : (flushTrace m c).1.survey = c.survey := (congrArg Core.survey (flushTrace_beyond m c) :)
@[simp] theorem flushTrace_arm (m : Mem) (c : Core) : (flushTrace m c).1.arm = c.arm := (congrArg Core.arm (flushTrace_beyond m c) :)
@[simp] theorem flushTrace_net (m : Mem) (c : Core) : (flushTrace m c).1.net = c.net := (congrArg Core.net (flushTrace_beyond m c) :)
@[simp] theorem flushTrace_twin (m : Mem) (c : Core) : (flushTrace m c).1.twin = c.twin := (congrArg Core.twin (flushTrace_beyond m c) :)
@[simp] theorem flushTrace_update (m : Mem) (c : Core) : (flushTrace m c).1.update = c.update := (congrArg Core.update (flushTrace_beyond m c) :)

/-! ### No trace record waits between commands -/

@[simp] theorem Core.rowAccess_atl (c : Core) (p : DramPlace) : (c.rowAccess p).atl = c.atl := by
  unfold Core.rowAccess; dsimp only; split <;> simp

theorem drainTo_atl (ch keep n : Nat) (c : Core) : (Core.drainTo ch keep n c).atl = c.atl := by
  induction n generalizing c with
  | zero => rfl
  | succ n ih =>
    unfold Core.drainTo; split
    · rfl
    · split
      · rfl
      · rw [ih, Core.rowAccess_atl]; rfl

@[simp] theorem wordRead_atl (m : Nat) (c : Core) (w : Nat) : (Core.wordRead m c w).atl = c.atl := by
  unfold Core.wordRead; split
  · rfl
  · simp [Core.seenAt]
  · dsimp only; split <;> simp [Core.seenAt]

@[simp] theorem memcRead_atl (m a n : Nat) (c : Core) : (Core.memcRead m a n c).atl = c.atl := by
  unfold Core.memcRead
  rw [foldl_keeps Core.atl _ (fun a b => wordRead_atl m a b)]
  refine foldl_keeps Core.atl _ (fun a b => ?_) _ _
  dsimp only; rw [Core.rowAccess_atl]; split
  · exact (drainTo_atl _ _ _ _).trans (by simp)
  · rfl

@[simp] theorem memWrite_atl (m a : Nat) (bs : List Byte) (mem : Mem) (c : Core) : (memWrite m a bs mem c).1.atl = c.atl := by
  unfold memWrite; dsimp only; split
  · dsimp only
    rw [foldl_keeps Core.atl _ (fun a b => ?_)]
    · rw [setEccs_atl, foldl_keeps Core.atl _ (fun a b => memcRead_atl _ _ _ _)]
      exact Core.crcTouch_atl _ _ _
    · split
      · exact (drainTo_atl _ _ _ _).trans rfl
      · rfl
  · exact Core.crcTouch_atl _ _ _

theorem ringRecord_trace (c : Core) (ws : List Nat) : (c.ringRecord ws).2.atl.trace = c.atl.trace := by
  unfold Core.ringRecord; dsimp only; split
  · simp
  · simp

theorem traceWrites_trace (c : Core) : c.traceWrites.2.atl.trace = [] := by
  unfold Core.traceWrites; dsimp only
  refine (foldl_snd_keeps (fun c : Core => c.atl.trace) _ (fun a e => ?_) _ _).trans rfl
  split
  · rfl
  · dsimp only
    rw [ringRecord_trace]
    show ((if _ then _ else _ : List (Nat × List Byte) × Core).2).atl.trace = _
    split
    · split
      · exact ringRecord_trace _ _
      · rfl
    · rfl

theorem flushTrace_trace (m : Mem) (c : Core) : (flushTrace m c).1.atl.trace = [] := by
  unfold flushTrace; split
  · next h => simpa using h
  · have : ∀ (l : List (Nat × List Byte)) (a : Core × Mem),
        (l.foldl (fun (a : Core × Mem) x => memWrite 7 x.1 x.2 a.2 a.1) a).1.atl = a.1.atl := by
      intro l
      induction l with
      | nil => intro a; rfl
      | cons b t ih => intro a; exact (ih _).trans (memWrite_atl _ _ _ _ _)
    exact (congrArg AtelierPart.trace (this _ _)).trans (traceWrites_trace c)

/-- After every command no trace record waits. -/
theorem runMem_leaves_quiet {f : Mem → Core → Core × Mem} {s t : State} (h : runMem f s = .next t) : t.quiet = true := by
  unfold runMem at h
  simp only [Host.Outcome.next.injEq] at h
  subst h
  unfold State.quiet
  simp [flushTrace_trace]

theorem runCore_leaves_quiet {f : Core → Core} {s t : State} (h : runCore f s = .next t) : t.quiet = true :=
  runMem_leaves_quiet (f := fun m c => (f c, m)) h

theorem runReset_leaves_quiet {f : Core → Core} {s t : State} (h : runReset f s = .next t) : t.quiet = true :=
  runMem_leaves_quiet h

/-! ### Completion -/

/-- A command that touches registers and messages completes with whatever holds after it and its trace records. -/
theorem completes_core {i : Instr} {s : State} {f : Core → Core} {P : State → Prop} (e : exec i s = runCore f s)
    (hp : P { s with core := (flushTrace s.mem (f s.core)).1, mem := (flushTrace s.mem (f s.core)).2 }) : Completes i s P :=
  ⟨_, e, hp⟩

theorem completes_mem {i : Instr} {s : State} {f : Mem → Core → Core × Mem} {P : State → Prop} (e : exec i s = runMem f s)
    (hp : P { s with core := (flushTrace (f s.mem s.core).2 (f s.mem s.core).1).1,
                     mem := (flushTrace (f s.mem s.core).2 (f s.mem s.core).1).2 }) : Completes i s P :=
  ⟨_, e, hp⟩

end Sys2Proof.Machine
end

