-- ==== Sys2Proof/WellFormed.lean ====
section
/-! DEFINITION. Which commands are well formed: their operands name units that the module has. The meanings are total and check
again what they need; a command that is not well formed is one that no sender can send. -/

namespace Sys2Proof

/-- A master port of the fabric (R444): ports 13 to 15 are not issued. -/
def masterOk (m : Nat) : Bool := decide (m < 84) && !(decide (13 ≤ m) && decide (m < 16))

/-- A word offset in BAR0, which maps the 64 MiB of register space (R537). -/
def offsetOk (off : Nat) : Bool := decide (off < 0x4000000) && decide (off % 4 = 0)

/-- A physical Brush core, BC00 to BC67 (R387). -/
def coreOk (k : Nat) : Bool := decide (k < 68)

/-- An Easel packet: its mailbox pair is issued, and what follows its header fits the largest packet, 65,520 bytes of parameters
after an AT_TIME word (R138, R140). -/
def packetOk (p : Packet) : Bool :=
  decide (p.payload.length ≤ 65528) && match p.transport with
    | .mailbox n => decide (n < 16)
    | _ => true

/-- A tether frame: every field of its header fits its place, and its payload the 9,152 bytes of a frame (R480). -/
def tetherOk (f : Tether) : Bool :=
  decide (f.magic < 2 ^ 16) && decide (f.version < 2 ^ 8) && decide (f.state < 2 ^ 8) && decide (f.flags < 2 ^ 8) &&
    decide (f.frag < 2 ^ 16) && decide (f.block < 2 ^ 64) && decide (f.epoch < 2 ^ 32) && decide (f.setLen < 2 ^ 32) &&
    decide (f.check < 2 ^ 32) && decide (f.payload.length ≤ 9152)

/-- A datagram of the update chain: its fields fit their places, with 8 bytes of the digest and at most 1,408 data bytes
(R503). -/
def upFrameOk (f : UpFrame) : Bool :=
  decide (f.magic < 2 ^ 16) && decide (f.version < 2 ^ 8) && decide (f.xfer < 2 ^ 32) && decide (f.offset < 2 ^ 32) &&
    decide (f.status < 2 ^ 16) && decide (f.digest.length = 8) && decide (f.data.length ≤ 1408)

/-- An RTP packet: sequence number, timestamp and port fit their places. -/
def rtpOk (x : Rtp) : Bool := decide (x.seq < 2 ^ 16) && decide (x.ts < 2 ^ 32) && decide (x.port < 2 ^ 16) && decide (x.pt < 128)

/-- A command is well formed. -/
def Instr.wf (i : Instr) : Bool :=
  match i with
  | .registerWrite m off _
  | .readClear m off
  | .snapshotRead m off => masterOk m && offsetOk off
  | .gatedAccessClear m _
  | .bar0DeniedClear m _
  | .noPathClear m _
  | .drefWrite m _
  | .clkSwitchGo m _
  | .mediaSwitchWrite m _
  | .stepAcceptSlew m _
  | .stepAcceptRealign m _
  | .outputReleaseGo m _
  | .resetCtrlRestart m _
  | .resetCtrlModuleReset m _
  | .funcResetGo m _
  | .standbyRunGo m _
  | .standbyQuietGo m _
  | .standbyDeepGo m _
  | .hostCmdProdWrite m _ _
  | .replyRingConsume m _
  | .dbMaskWrite m _
  | .bar2BaseWrite m _
  | .renderUncorrClear m _
  | .lastClipClear m _
  | .nonpcmRecordClear m _
  | .fabricHeldIssue m
  | .dramRead m _ _ _ _ _ _ _
  | .dramWrite m _ _ _ _ _ _ _
  | .memcUncorrClear m _
  | .smudgeArmWrite m _
  | .smudgeClockGo m _
  | .timeCtrlWrite m _ => masterOk m
  | .blockBoundary _
  | .vinRise
  | .startThresholdMet _
  | .railsInRegulation _ _ _
  | .tcxoStartCheck
  | .bootStage _ _
  | .gessoStart
  | .dramTrainingDone _
  | .holdupCharged
  | .firmwareHandoff _ _
  | .pcieEndpointReady
  | .startReady _
  | .mediaStart
  | .vinWarnSet
  | .vinWarnClear
  | .vinOff
  | .resetNAssert
  | .resetNRelease _ _ _
  | .wakeNFall
  | .wakeAtReached
  | .pciePerstAssert
  | .pciePerstRelease
  | .pcieConfigRequest _
  | .smbusReadByte _ _ _
  | .smbusReadWord _ _ _
  | .smbusWrite _
  | .smbusAlertResponse
  | .smbusRefresh _ _
  | .tempMeasure _ _
  | .muteAndHold
  | .thermalResume
  | .tcxoQualify _
  | .refInLoss
  | .refInMeasurement _
  | .refQualify
  | .dpllLock
  | .tcxoMonitorTrip
  | .corePllLoss
  | .hostClockLoss
  | .mediaMonitorTrip
  | .aonMonitorTrip
  | .mediaSwitch
  | .aonTrimGate _ _
  | .syncTimeout
  | .servoLock
  | .servoUnlock
  | .realignment
  | .backupTimeCopy
  | .moduleReset
  | .controlPlaneRestartEnd
  | .funcResetDone _
  | .quietStandbyEntry
  | .quietStandbyExit
  | .deepStandbyEntry
  | .ipv4FragmentReceive _ _ _ _ _
  | .ipReassemblyTimeout _ _
  | .udpSessionTimeout _
  | .timedCommit
  | .timedExecute
  | .positionBucketRefill
  | .layoutCommitDone
  | .caliperSnapshot
  | .targetHandover
  | .swapPrepare
  | .paletteSwapExecute
  | .glazeEnd
  | .renderSumsComplete
  | .renderSpareSwap
  | .outchainCommitDone
  | .measureBegin
  | .measureTurnEnd
  | .turnResultsDone
  | .measureComplete
  | .resultStoreDone
  | .designDone
  | .surveyWindowEnd
  | .proposalCommitDone
  | .proposalExpire
  | .surveyLogFlush
  | .routeCommitDone
  | .atelierTick _
  | .atelierDispatch
  | .dramWckTrack _
  | .dramScrubRead _
  | .flashWearLevel _
  | .flashRetentionAgeTick
  | .libCommitDone _
  | .libWriteTimeout _
  | .mirrorSetApply _
  | .resyncComplete _
  | .pairingTimeout
  | .witnessDecision
  | .takeover
  | .switchoverPrepare
  | .switchover
  | .switchoverGlazeEnd
  | .imageVerifyDone _
  | .activationPrecheck _
  | .activation
  | .activationFallback
  | .patinaLedgerFlush
  | .smudgeChallengeExpire
  | .smudgeTimeout
  | .converterFault
  | .pcieLinkTrained _ _
  | .easelPacketRefused _ _
  | .paramCommitDone => true
  | .sfpModuleInsert p _ _
  | .sfpModuleRemove p
  | .binauralChange p
  | .linkUp p
  | .linkDown p
  | .ethernetFrameReceive p _ _ _ _
  | .pauseRepeat p
  | .pauseFrameReceive p _
  | .arpRequestReceive p _
  | .arpReplyReceive p _ _
  | .arpRefresh p
  | .icmpEchoReceive p _ _
  | .igmpQueryReceive p
  | .frameTransmit p
  | .gateChangeTime p
  | .gateCycleStart p
  | .sfpLosChange p _
  | .rxBufferFillLow p
  | .pauseQuantaExpire p => decide (p < 4)
  | .serdesPllLoss port
  | .ptpAnnounceReceive port _ _
  | .ptpSyncReceive port _ _ _ _ _ _ _
  | .ptpFollowUpReceive port _ _ _ _ _
  | .ptpDelayRespReceive port _ _ _ _ _ _
  | .ptpDelayReqSend port _
  | .ptpDelayReqReceive port _ _ _ _
  | .ptpAnnounceSend port
  | .ptpSyncSend port _
  | .announceReceiptTimeout port => decide (port < 4)
  | .clkEnWrite m k _
  | .crcScanGo m k _ => masterOk m && decide (k < 4)
  | .pdWakeDone pd => decide (pd < 13)
  | .clkoutCtrlWrite m n _
  | .pulseArm m n _
  | .pulseStop m n _
  | .tsinFifoPop m n => masterOk m && decide (n < 2)
  | .timeConfig p
  | .timeStatusGet p
  | .timeStepAccept p
  | .timeSet p
  | .pulseProgram p
  | .tsinRead p
  | .sysStateGet p
  | .sysStandby p
  | .sysRestart p
  | .funcReset p
  | .wakeTolSet p
  | .outputRelease p
  | .startConfigSet p
  | .mediaRateSet p
  | .sessionOpen p
  | .sessionClose p
  | .ping p
  | .eventSubscribe p
  | .sessionLevel p
  | .timedCancel p
  | .objectDefine p
  | .objectGet p
  | .objectDisableAll p
  | .positionStream p
  | .objectStateGet p
  | .layoutBegin p
  | .speakerDefine p
  | .zoneDefine p
  | .layoutTempRange p
  | .layoutCommit p
  | .layoutAdmissionGet p
  | .speakerGet p
  | .soundSpeedSet p
  | .soundSpeedGet p
  | .paletteStatusGet p
  | .paletteSwap p
  | .maquetteSet p
  | .caliperConfig p
  | .caliperCountersGet p
  | .renderStatusGet p
  | .contribRead p
  | .contribFind p
  | .expertObjectSet p
  | .contribWrite p
  | .nearRead p
  | .renderCountersGet p
  | .clipCountsGet p
  | .sceneBusDefine p
  | .sceneBusGet p
  | .bedDefine p
  | .bedGet p
  | .binauralSet p
  | .binauralGet p
  | .downmixSet p
  | .downmixGet p
  | .loudnessConfig p
  | .loudnessGet p
  | .loudnessReset p
  | .outchainBegin p
  | .outchainSet p
  | .biquadSet p
  | .firSet p
  | .varnishSet p
  | .outchainCommit p
  | .outchainGet p
  | .outputMute p
  | .outchainMetersGet p
  | .surveyStatusGet p
  | .measureStart p
  | .measureAbort p
  | .resultGet p
  | .resultBandsGet p
  | .resultStore p
  | .design p
  | .liveConfig p
  | .liveOutputSet p
  | .liveTimingSet p
  | .livePolicySet p
  | .liveRebase p
  | .proposalGet p
  | .proposalApply p
  | .proposalDiscard p
  | .surveyLogRead p
  | .surveyLogInfo p
  | .detectorGet p
  | .detectorConfig p
  | .pdmConfig p
  | .pdmFirLoad p
  | .portConfig p
  | .portStatusGet p
  | .routeBegin p
  | .routeSet p
  | .routeCommit p
  | .routeGet p
  | .routeNow p
  | .directGainSet p
  | .directGet p
  | .groupSet p
  | .meterGet p
  | .meterConfig p
  | .meterHoldReset p
  | .nonpcmGet p
  | .netConfig p
  | .netStatusGet p
  | .netPauseSet p
  | .netGateSet p
  | .netGateGet p
  | .streamRxSet p
  | .streamRxGet p
  | .streamTxSet p
  | .streamTxGet p
  | .streamStatsGet p
  | .brushStatusGet p
  | .brushAlloc p
  | .brushFree p
  | .brushLoad p
  | .brushRead p
  | .brushStart p
  | .brushStop p
  | .brushBufferSet p
  | .paramDeclare p
  | .paramBegin p
  | .paramSet p
  | .paramCommit p
  | .paramGet p
  | .brushMbxPost p
  | .brushMbxRead p
  | .storageStatusGet p
  | .libList p
  | .libWriteBegin p
  | .libWriteData p
  | .libWriteCommit p
  | .libRead p
  | .libDelete p
  | .libWriteAbort p
  | .crcScan p
  | .memConfigSet p
  | .flashConfigSet p
  | .flashUnitGet p
  | .twinStatusGet p
  | .twinConfig p
  | .twinSwitchover p
  | .twinForce p
  | .twinLeave p
  | .twinPersistDeclare p
  | .twinResync p
  | .updateStatusGet p
  | .updateBegin p
  | .updateData p
  | .updateEnd p
  | .updateDiscard p
  | .updatePeersSet p
  | .updateActivate p
  | .updateCancel p
  | .updatePeerStatusGet p
  | .updateSvnRaise p
  | .healthStatusGet p
  | .healthConfig p
  | .patinaRead p
  | .patinaInfo p
  | .unitGet p
  | .spareSwap p
  | .smudgeChallenge p
  | .smudgeUnlock p
  | .smudgeSet p
  | .smudgeLock p => packetOk p
  | .pulseEdge n
  | .tsinCapture n _ _ _ => decide (n < 2)
  | .mbxH2fWrite m n _
  | .mbxF2hAck m n _ => masterOk m && decide (n < 16)
  | .mbxCommandTake n
  | .detectorRmsWindow n
  | .pdmHoldEnd n
  | .pdmStuck n
  | .pdmTransitionsReturn n => decide (n < 16)
  | .mbxEventPost n k => decide (n < 16) && decide (k < 26)
  | .mbxStall n => decide (n < 24)
  | .holdAcquire m n
  | .holdRelease m n _ => masterOk m && decide (n < 64)
  | .bar2Access y _ _ _ => decide (y < 2 ^ 28)
  | .farWindowArrive engine _
  | .farWindowLate engine _
  | .renderOverrun engine _ => decide (engine < 9)
  | .downmixChange m => decide (m < 8)
  | .loudnessGatingBlock q => decide (q < 8)
  | .firTailFrame o
  | .tailOverrun o
  | .muteApply o
  | .muteFadeEnd o => decide (o < 256)
  | .tdmFrame p _ _ _ _ _
  | .tdmLeaderFrame p _ _
  | .tdmLoss p _
  | .tdmRateRun p _ _
  | .tdmResume p => decide (p < 8)
  | .nonpcmHoldExpire num => Machine.srcIssued num
  | .directPathWord n _ _
  | .directGainChange n => decide (n < 256)
  | .groupChange g => decide (g < 32)
  | .meterHoldExpire num which => Machine.srcIssued num && decide (which < 3)
  | .rtpPacketReceive p x _ => decide (p < 4) && rtpOk x
  | .streamLegLoss num leg => decide (num < 256) && decide (leg < 2)
  | .marginSpanEnd num
  | .streamPacketQueue num
  | .streamDefinitionApply _ num => decide (num < 256)
  | .gateGo p m _
  | .maxFrameWrite p m _
  | .netCtrlWrite p m _ => decide (p < 4) && masterOk m
  | .bcNop k
  | .bcMac k
  | .bcMsu k
  | .bcMpy k
  | .bcClr k
  | .bcAdda k
  | .bcSuba k
  | .bcRnd k
  | .bcTrn k
  | .bcHsum k
  | .bcAccmov k
  | .bcVadd k
  | .bcVsub k
  | .bcVand k
  | .bcVor k
  | .bcVxor k
  | .bcVneg k
  | .bcVabs k
  | .bcVmax k
  | .bcVmin k
  | .bcVasr k
  | .bcVasrr k
  | .bcVshl k
  | .bcVmov k
  | .bcVrot k
  | .bcLdi k
  | .bcMov k
  | .bcAdd k
  | .bcSub k
  | .bcAnd k
  | .bcOr k
  | .bcXor k
  | .bcShl k
  | .bcShr k
  | .bcAsr k
  | .bcCmp k
  | .bcMul k
  | .bcLds k
  | .bcSts k
  | .bcLdc k
  | .bcStc k
  | .bcXget k
  | .bcXput k
  | .bcAccget k
  | .bcAccput k
  | .bcBra k
  | .bcJsr k
  | .bcRet k
  | .bcRep k
  | .bcDo k
  | .bcPoll k
  | .bcWait k _
  | .bcDone k
  | .bcRti k
  | .bcTrap k
  | .bcHalt k
  | .bcSync k _
  | .bcFtap k
  | .brushMbxOutWrite k _
  | .brushMbxAck k _ => coreOk k
  | .brushCoreGo m k _
  | .brushCoreCtrlStop m k _ => masterOk m && coreOk k
  | .xferGo k n _
  | .xferComplete k n => coreOk k && decide (n < 4)
  | .brushWindowWrite m k space _ _ => masterOk m && coreOk k && decide (space < 2)
  | .migrationCopy g
  | .migrationSwap g
  | .migrationCold g => decide (g < 4)
  | .atelierPost port m _ => masterOk port && decide (m < 5)
  | .atelierCancel port _
  | .atelierDonePop port => masterOk port
  | .dramRefresh ch bank => decide (ch < 8) && decide (bank < 16)
  | .dramRemapStart ch e row bank spare => decide (ch < 8) && decide (e < 32) && decide (row < 64512) && decide (bank < 16) && decide (spare < 32)
  | .dramRemapCopyDone ch e
  | .dramRemapActivate ch e => decide (ch < 8) && decide (e < 32)
  | .flashPageRead unit _ _
  | .flashProgram unit
  | .flashErase unit
  | .flashScrubPass unit _ _ _ _ _
  | .flashRelocate unit _ => decide (unit < 5464)
  | .flashOpComplete die _ => decide (die < 8)
  | .crcScanDone k => decide (k < 4)
  | .tetherMirrorReceive f
  | .tetherAckReceive f
  | .tetherResyncReqReceive f
  | .tetherResyncDataReceive f _
  | .tetherRelinquishReceive f
  | .tetherPairReceive f _ => tetherOk f
  | .tetherSwitchReceive f g => tetherOk f && decide (g < 8192)
  | .updateOfferReceive f
  | .updateDataReceive f
  | .updateAckReceive f
  | .updateRefuseReceive f
  | .updateVerifiedReceive f
  | .updateActivateReceive f
  | .updateCancelReceive f
  | .updateResultReceive f => upFrameOk f
  | .ackStallRetransmit n
  | .peerUnreachable n
  | .peerReoffer n => decide (n < 4)
  | .updateReceptionTimeout k => decide (k < 2)
  | .patrolStart num => decide (num < 5)
  | .nearRowSpare bank row
  | .nearRowSwitch bank row => decide (bank < 64) && decide (row < 1024)
  | .eyeMarginMeasure j h _ => decide (j < 8) && decide (h < 128)
  | .functionStall code => decide (code < 29)
  | .mr4TemperatureReport ch _ => decide (ch < 8)

/-- The Easel packet that a command carries, if it is an Easel command. -/
def Instr.packet (i : Instr) : Option Packet :=
  match i with
  | .timeConfig p
  | .timeStatusGet p
  | .timeStepAccept p
  | .timeSet p
  | .pulseProgram p
  | .tsinRead p
  | .sysStateGet p
  | .sysStandby p
  | .sysRestart p
  | .funcReset p
  | .wakeTolSet p
  | .outputRelease p
  | .startConfigSet p
  | .mediaRateSet p
  | .sessionOpen p
  | .sessionClose p
  | .ping p
  | .eventSubscribe p
  | .sessionLevel p
  | .timedCancel p
  | .objectDefine p
  | .objectGet p
  | .objectDisableAll p
  | .positionStream p
  | .objectStateGet p
  | .layoutBegin p
  | .speakerDefine p
  | .zoneDefine p
  | .layoutTempRange p
  | .layoutCommit p
  | .layoutAdmissionGet p
  | .speakerGet p
  | .soundSpeedSet p
  | .soundSpeedGet p
  | .paletteStatusGet p
  | .paletteSwap p
  | .maquetteSet p
  | .caliperConfig p
  | .caliperCountersGet p
  | .renderStatusGet p
  | .contribRead p
  | .contribFind p
  | .expertObjectSet p
  | .contribWrite p
  | .nearRead p
  | .renderCountersGet p
  | .clipCountsGet p
  | .sceneBusDefine p
  | .sceneBusGet p
  | .bedDefine p
  | .bedGet p
  | .binauralSet p
  | .binauralGet p
  | .downmixSet p
  | .downmixGet p
  | .loudnessConfig p
  | .loudnessGet p
  | .loudnessReset p
  | .outchainBegin p
  | .outchainSet p
  | .biquadSet p
  | .firSet p
  | .varnishSet p
  | .outchainCommit p
  | .outchainGet p
  | .outputMute p
  | .outchainMetersGet p
  | .surveyStatusGet p
  | .measureStart p
  | .measureAbort p
  | .resultGet p
  | .resultBandsGet p
  | .resultStore p
  | .design p
  | .liveConfig p
  | .liveOutputSet p
  | .liveTimingSet p
  | .livePolicySet p
  | .liveRebase p
  | .proposalGet p
  | .proposalApply p
  | .proposalDiscard p
  | .surveyLogRead p
  | .surveyLogInfo p
  | .detectorGet p
  | .detectorConfig p
  | .pdmConfig p
  | .pdmFirLoad p
  | .portConfig p
  | .portStatusGet p
  | .routeBegin p
  | .routeSet p
  | .routeCommit p
  | .routeGet p
  | .routeNow p
  | .directGainSet p
  | .directGet p
  | .groupSet p
  | .meterGet p
  | .meterConfig p
  | .meterHoldReset p
  | .nonpcmGet p
  | .netConfig p
  | .netStatusGet p
  | .netPauseSet p
  | .netGateSet p
  | .netGateGet p
  | .streamRxSet p
  | .streamRxGet p
  | .streamTxSet p
  | .streamTxGet p
  | .streamStatsGet p
  | .brushStatusGet p
  | .brushAlloc p
  | .brushFree p
  | .brushLoad p
  | .brushRead p
  | .brushStart p
  | .brushStop p
  | .brushBufferSet p
  | .paramDeclare p
  | .paramBegin p
  | .paramSet p
  | .paramCommit p
  | .paramGet p
  | .brushMbxPost p
  | .brushMbxRead p
  | .storageStatusGet p
  | .libList p
  | .libWriteBegin p
  | .libWriteData p
  | .libWriteCommit p
  | .libRead p
  | .libDelete p
  | .libWriteAbort p
  | .crcScan p
  | .memConfigSet p
  | .flashConfigSet p
  | .flashUnitGet p
  | .twinStatusGet p
  | .twinConfig p
  | .twinSwitchover p
  | .twinForce p
  | .twinLeave p
  | .twinPersistDeclare p
  | .twinResync p
  | .updateStatusGet p
  | .updateBegin p
  | .updateData p
  | .updateEnd p
  | .updateDiscard p
  | .updatePeersSet p
  | .updateActivate p
  | .updateCancel p
  | .updatePeerStatusGet p
  | .updateSvnRaise p
  | .healthStatusGet p
  | .healthConfig p
  | .patinaRead p
  | .patinaInfo p
  | .unitGet p
  | .spareSwap p
  | .smudgeChallenge p
  | .smudgeUnlock p
  | .smudgeSet p
  | .smudgeLock p => some p
  | .registerWrite _ _ _
  | .readClear _ _
  | .snapshotRead _ _
  | .gatedAccessClear _ _
  | .bar0DeniedClear _ _
  | .noPathClear _ _
  | .blockBoundary _
  | .vinRise
  | .startThresholdMet _
  | .railsInRegulation _ _ _
  | .tcxoStartCheck
  | .bootStage _ _
  | .gessoStart
  | .dramTrainingDone _
  | .holdupCharged
  | .firmwareHandoff _ _
  | .pcieEndpointReady
  | .startReady _
  | .mediaStart
  | .vinWarnSet
  | .vinWarnClear
  | .vinOff
  | .resetNAssert
  | .resetNRelease _ _ _
  | .wakeNFall
  | .wakeAtReached
  | .pciePerstAssert
  | .pciePerstRelease
  | .pcieConfigRequest _
  | .smbusReadByte _ _ _
  | .smbusReadWord _ _ _
  | .smbusWrite _
  | .smbusAlertResponse
  | .smbusRefresh _ _
  | .tempMeasure _ _
  | .muteAndHold
  | .thermalResume
  | .sfpModuleInsert _ _ _
  | .sfpModuleRemove _
  | .tcxoQualify _
  | .refInLoss
  | .refInMeasurement _
  | .refQualify
  | .dpllLock
  | .drefWrite _ _
  | .tcxoMonitorTrip
  | .corePllLoss
  | .serdesPllLoss _
  | .hostClockLoss
  | .mediaMonitorTrip
  | .aonMonitorTrip
  | .clkSwitchGo _ _
  | .mediaSwitchWrite _ _
  | .mediaSwitch
  | .clkEnWrite _ _ _
  | .pdWakeDone _
  | .clkoutCtrlWrite _ _ _
  | .aonTrimGate _ _
  | .ptpAnnounceReceive _ _ _
  | .ptpSyncReceive _ _ _ _ _ _ _ _
  | .ptpFollowUpReceive _ _ _ _ _ _
  | .ptpDelayRespReceive _ _ _ _ _ _ _
  | .ptpDelayReqSend _ _
  | .ptpDelayReqReceive _ _ _ _ _
  | .ptpAnnounceSend _
  | .ptpSyncSend _ _
  | .announceReceiptTimeout _
  | .syncTimeout
  | .servoLock
  | .servoUnlock
  | .stepAcceptSlew _ _
  | .stepAcceptRealign _ _
  | .realignment
  | .pulseArm _ _ _
  | .pulseStop _ _ _
  | .pulseEdge _
  | .tsinCapture _ _ _ _
  | .tsinFifoPop _ _
  | .backupTimeCopy
  | .outputReleaseGo _ _
  | .resetCtrlRestart _ _
  | .resetCtrlModuleReset _ _
  | .moduleReset
  | .controlPlaneRestartEnd
  | .funcResetGo _ _
  | .funcResetDone _
  | .standbyRunGo _ _
  | .standbyQuietGo _ _
  | .standbyDeepGo _ _
  | .quietStandbyEntry
  | .quietStandbyExit
  | .deepStandbyEntry
  | .ipv4FragmentReceive _ _ _ _ _
  | .ipReassemblyTimeout _ _
  | .hostCmdProdWrite _ _ _
  | .replyRingConsume _ _
  | .udpSessionTimeout _
  | .timedCommit
  | .timedExecute
  | .mbxH2fWrite _ _ _
  | .mbxF2hAck _ _ _
  | .mbxCommandTake _
  | .mbxEventPost _ _
  | .mbxStall _
  | .dbMaskWrite _ _
  | .holdAcquire _ _
  | .holdRelease _ _ _
  | .bar2BaseWrite _ _
  | .bar2Access _ _ _ _
  | .positionBucketRefill
  | .layoutCommitDone
  | .caliperSnapshot
  | .targetHandover
  | .swapPrepare
  | .paletteSwapExecute
  | .glazeEnd
  | .farWindowArrive _ _
  | .farWindowLate _ _
  | .renderSumsComplete
  | .renderOverrun _ _
  | .renderSpareSwap
  | .renderUncorrClear _ _
  | .binauralChange _
  | .downmixChange _
  | .loudnessGatingBlock _
  | .firTailFrame _
  | .tailOverrun _
  | .outchainCommitDone
  | .muteApply _
  | .muteFadeEnd _
  | .lastClipClear _ _
  | .measureBegin
  | .measureTurnEnd
  | .turnResultsDone
  | .measureComplete
  | .resultStoreDone
  | .designDone
  | .surveyWindowEnd
  | .proposalCommitDone
  | .proposalExpire
  | .surveyLogFlush
  | .detectorRmsWindow _
  | .pdmHoldEnd _
  | .pdmStuck _
  | .tdmFrame _ _ _ _ _ _
  | .tdmLeaderFrame _ _ _
  | .tdmLoss _ _
  | .tdmRateRun _ _ _
  | .tdmResume _
  | .nonpcmHoldExpire _
  | .nonpcmRecordClear _ _
  | .directPathWord _ _ _
  | .routeCommitDone
  | .directGainChange _
  | .groupChange _
  | .meterHoldExpire _ _
  | .linkUp _
  | .linkDown _
  | .ethernetFrameReceive _ _ _ _ _
  | .pauseRepeat _
  | .pauseFrameReceive _ _
  | .arpRequestReceive _ _
  | .arpReplyReceive _ _ _
  | .arpRefresh _
  | .icmpEchoReceive _ _ _
  | .igmpQueryReceive _
  | .rtpPacketReceive _ _ _
  | .streamLegLoss _ _
  | .marginSpanEnd _
  | .streamPacketQueue _
  | .frameTransmit _
  | .gateGo _ _ _
  | .gateChangeTime _
  | .gateCycleStart _
  | .streamDefinitionApply _ _
  | .maxFrameWrite _ _ _
  | .netCtrlWrite _ _ _
  | .bcNop _
  | .bcMac _
  | .bcMsu _
  | .bcMpy _
  | .bcClr _
  | .bcAdda _
  | .bcSuba _
  | .bcRnd _
  | .bcTrn _
  | .bcHsum _
  | .bcAccmov _
  | .bcVadd _
  | .bcVsub _
  | .bcVand _
  | .bcVor _
  | .bcVxor _
  | .bcVneg _
  | .bcVabs _
  | .bcVmax _
  | .bcVmin _
  | .bcVasr _
  | .bcVasrr _
  | .bcVshl _
  | .bcVmov _
  | .bcVrot _
  | .bcLdi _
  | .bcMov _
  | .bcAdd _
  | .bcSub _
  | .bcAnd _
  | .bcOr _
  | .bcXor _
  | .bcShl _
  | .bcShr _
  | .bcAsr _
  | .bcCmp _
  | .bcMul _
  | .bcLds _
  | .bcSts _
  | .bcLdc _
  | .bcStc _
  | .bcXget _
  | .bcXput _
  | .bcAccget _
  | .bcAccput _
  | .bcBra _
  | .bcJsr _
  | .bcRet _
  | .bcRep _
  | .bcDo _
  | .bcPoll _
  | .bcWait _ _
  | .bcDone _
  | .bcRti _
  | .bcTrap _
  | .bcHalt _
  | .bcSync _ _
  | .bcFtap _
  | .brushCoreGo _ _ _
  | .brushCoreCtrlStop _ _ _
  | .xferGo _ _ _
  | .xferComplete _ _
  | .brushMbxOutWrite _ _
  | .brushMbxAck _ _
  | .brushWindowWrite _ _ _ _ _
  | .migrationCopy _
  | .migrationSwap _
  | .migrationCold _
  | .atelierPost _ _ _
  | .atelierTick _
  | .atelierDispatch
  | .atelierCancel _ _
  | .atelierDonePop _
  | .fabricHeldIssue _
  | .dramRead _ _ _ _ _ _ _ _
  | .dramWrite _ _ _ _ _ _ _ _
  | .dramRefresh _ _
  | .dramWckTrack _
  | .dramScrubRead _
  | .dramRemapStart _ _ _ _ _
  | .dramRemapCopyDone _ _
  | .dramRemapActivate _ _
  | .memcUncorrClear _ _
  | .flashPageRead _ _ _
  | .flashProgram _
  | .flashErase _
  | .flashOpComplete _ _
  | .flashScrubPass _ _ _ _ _ _
  | .flashWearLevel _
  | .flashRelocate _ _
  | .flashRetentionAgeTick
  | .libCommitDone _
  | .libWriteTimeout _
  | .crcScanGo _ _ _
  | .crcScanDone _
  | .tetherMirrorReceive _
  | .mirrorSetApply _
  | .tetherAckReceive _
  | .tetherResyncReqReceive _
  | .tetherResyncDataReceive _ _
  | .resyncComplete _
  | .tetherSwitchReceive _ _
  | .tetherRelinquishReceive _
  | .tetherPairReceive _ _
  | .pairingTimeout
  | .witnessDecision
  | .takeover
  | .switchoverPrepare
  | .switchover
  | .switchoverGlazeEnd
  | .updateOfferReceive _
  | .updateDataReceive _
  | .updateAckReceive _
  | .updateRefuseReceive _
  | .updateVerifiedReceive _
  | .updateActivateReceive _
  | .updateCancelReceive _
  | .updateResultReceive _
  | .ackStallRetransmit _
  | .peerUnreachable _
  | .peerReoffer _
  | .imageVerifyDone _
  | .updateReceptionTimeout _
  | .activationPrecheck _
  | .activation
  | .activationFallback
  | .patrolStart _
  | .nearRowSpare _ _
  | .nearRowSwitch _ _
  | .eyeMarginMeasure _ _ _
  | .functionStall _
  | .patinaLedgerFlush
  | .smudgeChallengeExpire
  | .smudgeTimeout
  | .smudgeArmWrite _ _
  | .smudgeClockGo _ _
  | .converterFault
  | .sfpLosChange _ _
  | .pcieLinkTrained _ _
  | .timeCtrlWrite _ _
  | .easelPacketRefused _ _
  | .rxBufferFillLow _
  | .pauseQuantaExpire _
  | .pdmTransitionsReturn _
  | .paramCommitDone
  | .mr4TemperatureReport _ _ => none

end Sys2Proof
end

