-- ==== Sys2Proof/Laws/PerInstr.lean ====
section
/-! SUPPORT. Statements for all commands, one lemma for each. -/

namespace Sys2Proof.Laws.PacketFits

/-- A well-formed Easel command carries at most an AT_TIME word and the 65,520 parameter bytes of the largest packet (R138), and
its mailbox pair, if it came by one, is issued. -/
def Statement (i : Instr) : Prop := i.wf = true → ∀ p, i.packet = some p → packetOk p = true

theorem registerWrite (x0 : Nat) (x1 : Nat) (x2 : Word) : Statement (.registerWrite x0 x1 x2) := fun _ _ e => nomatch e
theorem readClear (x0 : Nat) (x1 : Nat) : Statement (.readClear x0 x1) := fun _ _ e => nomatch e
theorem snapshotRead (x0 : Nat) (x1 : Nat) : Statement (.snapshotRead x0 x1) := fun _ _ e => nomatch e
theorem gatedAccessClear (x0 : Nat) (x1 : Word) : Statement (.gatedAccessClear x0 x1) := fun _ _ e => nomatch e
theorem bar0DeniedClear (x0 : Nat) (x1 : Word) : Statement (.bar0DeniedClear x0 x1) := fun _ _ e => nomatch e
theorem noPathClear (x0 : Nat) (x1 : Word) : Statement (.noPathClear x0 x1) := fun _ _ e => nomatch e
theorem blockBoundary (x0 : BlockEnv) : Statement (.blockBoundary x0) := fun _ _ e => nomatch e
theorem vinRise : Statement (.vinRise) := fun _ _ e => nomatch e
theorem startThresholdMet (x0 : Bool) : Statement (.startThresholdMet x0) := fun _ _ e => nomatch e
theorem railsInRegulation (x0 : Bool) (x1 : Bool) (x2 : Nat) : Statement (.railsInRegulation x0 x1 x2) := fun _ _ e => nomatch e
theorem tcxoStartCheck : Statement (.tcxoStartCheck) := fun _ _ e => nomatch e
theorem bootStage (x0 : Bool) (x1 : Bool) : Statement (.bootStage x0 x1) := fun _ _ e => nomatch e
theorem gessoStart : Statement (.gessoStart) := fun _ _ e => nomatch e
theorem dramTrainingDone (x0 : List (List Nat)) : Statement (.dramTrainingDone x0) := fun _ _ e => nomatch e
theorem holdupCharged : Statement (.holdupCharged) := fun _ _ e => nomatch e
theorem firmwareHandoff (x0 : Bool) (x1 : Bool) : Statement (.firmwareHandoff x0 x1) := fun _ _ e => nomatch e
theorem pcieEndpointReady : Statement (.pcieEndpointReady) := fun _ _ e => nomatch e
theorem startReady (x0 : Nat) : Statement (.startReady x0) := fun _ _ e => nomatch e
theorem mediaStart : Statement (.mediaStart) := fun _ _ e => nomatch e
theorem vinWarnSet : Statement (.vinWarnSet) := fun _ _ e => nomatch e
theorem vinWarnClear : Statement (.vinWarnClear) := fun _ _ e => nomatch e
theorem vinOff : Statement (.vinOff) := fun _ _ e => nomatch e
theorem resetNAssert : Statement (.resetNAssert) := fun _ _ e => nomatch e
theorem resetNRelease (x0 : Bool) (x1 : Bool) (x2 : Nat) : Statement (.resetNRelease x0 x1 x2) := fun _ _ e => nomatch e
theorem wakeNFall : Statement (.wakeNFall) := fun _ _ e => nomatch e
theorem wakeAtReached : Statement (.wakeAtReached) := fun _ _ e => nomatch e
theorem pciePerstAssert : Statement (.pciePerstAssert) := fun _ _ e => nomatch e
theorem pciePerstRelease : Statement (.pciePerstRelease) := fun _ _ e => nomatch e
theorem pcieConfigRequest (x0 : Nat) : Statement (.pcieConfigRequest x0) := fun _ _ e => nomatch e
theorem smbusReadByte (x0 : Nat) (x1 : Nat) (x2 : Nat) : Statement (.smbusReadByte x0 x1 x2) := fun _ _ e => nomatch e
theorem smbusReadWord (x0 : Nat) (x1 : Nat) (x2 : Nat) : Statement (.smbusReadWord x0 x1 x2) := fun _ _ e => nomatch e
theorem smbusWrite (x0 : Nat) : Statement (.smbusWrite x0) := fun _ _ e => nomatch e
theorem smbusAlertResponse : Statement (.smbusAlertResponse) := fun _ _ e => nomatch e
theorem smbusRefresh (x0 : Nat) (x1 : Nat) : Statement (.smbusRefresh x0 x1) := fun _ _ e => nomatch e
theorem tempMeasure (x0 : Int) (x1 : Int) : Statement (.tempMeasure x0 x1) := fun _ _ e => nomatch e
theorem muteAndHold : Statement (.muteAndHold) := fun _ _ e => nomatch e
theorem thermalResume : Statement (.thermalResume) := fun _ _ e => nomatch e
theorem sfpModuleInsert (x0 : Nat) (x1 : Bool) (x2 : List Byte) : Statement (.sfpModuleInsert x0 x1 x2) := fun _ _ e => nomatch e
theorem sfpModuleRemove (x0 : Nat) : Statement (.sfpModuleRemove x0) := fun _ _ e => nomatch e
theorem tcxoQualify (x0 : Bool) : Statement (.tcxoQualify x0) := fun _ _ e => nomatch e
theorem refInLoss : Statement (.refInLoss) := fun _ _ e => nomatch e
theorem refInMeasurement (x0 : Int) : Statement (.refInMeasurement x0) := fun _ _ e => nomatch e
theorem refQualify : Statement (.refQualify) := fun _ _ e => nomatch e
theorem dpllLock : Statement (.dpllLock) := fun _ _ e => nomatch e
theorem drefWrite (x0 : Nat) (x1 : Word) : Statement (.drefWrite x0 x1) := fun _ _ e => nomatch e
theorem tcxoMonitorTrip : Statement (.tcxoMonitorTrip) := fun _ _ e => nomatch e
theorem corePllLoss : Statement (.corePllLoss) := fun _ _ e => nomatch e
theorem serdesPllLoss (x0 : Nat) : Statement (.serdesPllLoss x0) := fun _ _ e => nomatch e
theorem hostClockLoss : Statement (.hostClockLoss) := fun _ _ e => nomatch e
theorem mediaMonitorTrip : Statement (.mediaMonitorTrip) := fun _ _ e => nomatch e
theorem aonMonitorTrip : Statement (.aonMonitorTrip) := fun _ _ e => nomatch e
theorem clkSwitchGo (x0 : Nat) (x1 : Word) : Statement (.clkSwitchGo x0 x1) := fun _ _ e => nomatch e
theorem mediaSwitchWrite (x0 : Nat) (x1 : Word) : Statement (.mediaSwitchWrite x0 x1) := fun _ _ e => nomatch e
theorem mediaSwitch : Statement (.mediaSwitch) := fun _ _ e => nomatch e
theorem clkEnWrite (x0 : Nat) (x1 : Nat) (x2 : Word) : Statement (.clkEnWrite x0 x1 x2) := fun _ _ e => nomatch e
theorem pdWakeDone (x0 : Nat) : Statement (.pdWakeDone x0) := fun _ _ e => nomatch e
theorem clkoutCtrlWrite (x0 : Nat) (x1 : Nat) (x2 : Word) : Statement (.clkoutCtrlWrite x0 x1 x2) := fun _ _ e => nomatch e
theorem aonTrimGate (x0 : Int) (x1 : Bool) : Statement (.aonTrimGate x0 x1) := fun _ _ e => nomatch e
theorem ptpAnnounceReceive (x0 : Nat) (x1 : Nat) (x2 : Leader) : Statement (.ptpAnnounceReceive x0 x1 x2) := fun _ _ e => nomatch e
theorem ptpSyncReceive (x0 : Nat) (x1 : Nat) (x2 : Nat) (x3 : Nat) (x4 : Bool) (x5 : Int) (x6 : Int) (x7 : Int) : Statement (.ptpSyncReceive x0 x1 x2 x3 x4 x5 x6 x7) := fun _ _ e => nomatch e
theorem ptpFollowUpReceive (x0 : Nat) (x1 : Nat) (x2 : Nat) (x3 : Nat) (x4 : Int) (x5 : Int) : Statement (.ptpFollowUpReceive x0 x1 x2 x3 x4 x5) := fun _ _ e => nomatch e
theorem ptpDelayRespReceive (x0 : Nat) (x1 : Nat) (x2 : Nat) (x3 : Nat) (x4 : Int) (x5 : Int) (x6 : Int) : Statement (.ptpDelayRespReceive x0 x1 x2 x3 x4 x5 x6) := fun _ _ e => nomatch e
theorem ptpDelayReqSend (x0 : Nat) (x1 : Int) : Statement (.ptpDelayReqSend x0 x1) := fun _ _ e => nomatch e
theorem ptpDelayReqReceive (x0 : Nat) (x1 : Nat) (x2 : Nat) (x3 : Nat) (x4 : Int) : Statement (.ptpDelayReqReceive x0 x1 x2 x3 x4) := fun _ _ e => nomatch e
theorem ptpAnnounceSend (x0 : Nat) : Statement (.ptpAnnounceSend x0) := fun _ _ e => nomatch e
theorem ptpSyncSend (x0 : Nat) (x1 : Int) : Statement (.ptpSyncSend x0 x1) := fun _ _ e => nomatch e
theorem announceReceiptTimeout (x0 : Nat) : Statement (.announceReceiptTimeout x0) := fun _ _ e => nomatch e
theorem syncTimeout : Statement (.syncTimeout) := fun _ _ e => nomatch e
theorem servoLock : Statement (.servoLock) := fun _ _ e => nomatch e
theorem servoUnlock : Statement (.servoUnlock) := fun _ _ e => nomatch e
theorem stepAcceptSlew (x0 : Nat) (x1 : Word) : Statement (.stepAcceptSlew x0 x1) := fun _ _ e => nomatch e
theorem stepAcceptRealign (x0 : Nat) (x1 : Word) : Statement (.stepAcceptRealign x0 x1) := fun _ _ e => nomatch e
theorem realignment : Statement (.realignment) := fun _ _ e => nomatch e
theorem timeConfig (x0 : Packet) : Statement (.timeConfig x0) := fun h p e => by cases e; exact h
theorem timeStatusGet (x0 : Packet) : Statement (.timeStatusGet x0) := fun h p e => by cases e; exact h
theorem timeStepAccept (x0 : Packet) : Statement (.timeStepAccept x0) := fun h p e => by cases e; exact h
theorem timeSet (x0 : Packet) : Statement (.timeSet x0) := fun h p e => by cases e; exact h
theorem pulseProgram (x0 : Packet) : Statement (.pulseProgram x0) := fun h p e => by cases e; exact h
theorem tsinRead (x0 : Packet) : Statement (.tsinRead x0) := fun h p e => by cases e; exact h
theorem pulseArm (x0 : Nat) (x1 : Nat) (x2 : Word) : Statement (.pulseArm x0 x1 x2) := fun _ _ e => nomatch e
theorem pulseStop (x0 : Nat) (x1 : Nat) (x2 : Word) : Statement (.pulseStop x0 x1 x2) := fun _ _ e => nomatch e
theorem pulseEdge (x0 : Nat) : Statement (.pulseEdge x0) := fun _ _ e => nomatch e
theorem tsinCapture (x0 : Nat) (x1 : Bool) (x2 : Nat) (x3 : Nat) : Statement (.tsinCapture x0 x1 x2 x3) := fun _ _ e => nomatch e
theorem tsinFifoPop (x0 : Nat) (x1 : Nat) : Statement (.tsinFifoPop x0 x1) := fun _ _ e => nomatch e
theorem backupTimeCopy : Statement (.backupTimeCopy) := fun _ _ e => nomatch e
theorem sysStateGet (x0 : Packet) : Statement (.sysStateGet x0) := fun h p e => by cases e; exact h
theorem sysStandby (x0 : Packet) : Statement (.sysStandby x0) := fun h p e => by cases e; exact h
theorem sysRestart (x0 : Packet) : Statement (.sysRestart x0) := fun h p e => by cases e; exact h
theorem funcReset (x0 : Packet) : Statement (.funcReset x0) := fun h p e => by cases e; exact h
theorem wakeTolSet (x0 : Packet) : Statement (.wakeTolSet x0) := fun h p e => by cases e; exact h
theorem outputRelease (x0 : Packet) : Statement (.outputRelease x0) := fun h p e => by cases e; exact h
theorem startConfigSet (x0 : Packet) : Statement (.startConfigSet x0) := fun h p e => by cases e; exact h
theorem mediaRateSet (x0 : Packet) : Statement (.mediaRateSet x0) := fun h p e => by cases e; exact h
theorem outputReleaseGo (x0 : Nat) (x1 : Word) : Statement (.outputReleaseGo x0 x1) := fun _ _ e => nomatch e
theorem resetCtrlRestart (x0 : Nat) (x1 : Word) : Statement (.resetCtrlRestart x0 x1) := fun _ _ e => nomatch e
theorem resetCtrlModuleReset (x0 : Nat) (x1 : Word) : Statement (.resetCtrlModuleReset x0 x1) := fun _ _ e => nomatch e
theorem moduleReset : Statement (.moduleReset) := fun _ _ e => nomatch e
theorem controlPlaneRestartEnd : Statement (.controlPlaneRestartEnd) := fun _ _ e => nomatch e
theorem funcResetGo (x0 : Nat) (x1 : Word) : Statement (.funcResetGo x0 x1) := fun _ _ e => nomatch e
theorem funcResetDone (x0 : Bool) : Statement (.funcResetDone x0) := fun _ _ e => nomatch e
theorem standbyRunGo (x0 : Nat) (x1 : Word) : Statement (.standbyRunGo x0 x1) := fun _ _ e => nomatch e
theorem standbyQuietGo (x0 : Nat) (x1 : Word) : Statement (.standbyQuietGo x0 x1) := fun _ _ e => nomatch e
theorem standbyDeepGo (x0 : Nat) (x1 : Word) : Statement (.standbyDeepGo x0 x1) := fun _ _ e => nomatch e
theorem quietStandbyEntry : Statement (.quietStandbyEntry) := fun _ _ e => nomatch e
theorem quietStandbyExit : Statement (.quietStandbyExit) := fun _ _ e => nomatch e
theorem deepStandbyEntry : Statement (.deepStandbyEntry) := fun _ _ e => nomatch e
theorem ipv4FragmentReceive (x0 : Nat) (x1 : Nat) (x2 : Nat) (x3 : List Byte) (x4 : Bool) : Statement (.ipv4FragmentReceive x0 x1 x2 x3 x4) := fun _ _ e => nomatch e
theorem ipReassemblyTimeout (x0 : Nat) (x1 : Nat) : Statement (.ipReassemblyTimeout x0 x1) := fun _ _ e => nomatch e
theorem hostCmdProdWrite (x0 : Nat) (x1 : Word) (x2 : List Byte) : Statement (.hostCmdProdWrite x0 x1 x2) := fun _ _ e => nomatch e
theorem replyRingConsume (x0 : Nat) (x1 : Word) : Statement (.replyRingConsume x0 x1) := fun _ _ e => nomatch e
theorem udpSessionTimeout (x0 : Nat) : Statement (.udpSessionTimeout x0) := fun _ _ e => nomatch e
theorem sessionOpen (x0 : Packet) : Statement (.sessionOpen x0) := fun h p e => by cases e; exact h
theorem sessionClose (x0 : Packet) : Statement (.sessionClose x0) := fun h p e => by cases e; exact h
theorem ping (x0 : Packet) : Statement (.ping x0) := fun h p e => by cases e; exact h
theorem eventSubscribe (x0 : Packet) : Statement (.eventSubscribe x0) := fun h p e => by cases e; exact h
theorem sessionLevel (x0 : Packet) : Statement (.sessionLevel x0) := fun h p e => by cases e; exact h
theorem timedCancel (x0 : Packet) : Statement (.timedCancel x0) := fun h p e => by cases e; exact h
theorem timedCommit : Statement (.timedCommit) := fun _ _ e => nomatch e
theorem timedExecute : Statement (.timedExecute) := fun _ _ e => nomatch e
theorem mbxH2fWrite (x0 : Nat) (x1 : Nat) (x2 : Word) : Statement (.mbxH2fWrite x0 x1 x2) := fun _ _ e => nomatch e
theorem mbxF2hAck (x0 : Nat) (x1 : Nat) (x2 : Word) : Statement (.mbxF2hAck x0 x1 x2) := fun _ _ e => nomatch e
theorem mbxCommandTake (x0 : Nat) : Statement (.mbxCommandTake x0) := fun _ _ e => nomatch e
theorem mbxEventPost (x0 : Nat) (x1 : Nat) : Statement (.mbxEventPost x0 x1) := fun _ _ e => nomatch e
theorem mbxStall (x0 : Nat) : Statement (.mbxStall x0) := fun _ _ e => nomatch e
theorem dbMaskWrite (x0 : Nat) (x1 : Word) : Statement (.dbMaskWrite x0 x1) := fun _ _ e => nomatch e
theorem holdAcquire (x0 : Nat) (x1 : Nat) : Statement (.holdAcquire x0 x1) := fun _ _ e => nomatch e
theorem holdRelease (x0 : Nat) (x1 : Nat) (x2 : Word) : Statement (.holdRelease x0 x1 x2) := fun _ _ e => nomatch e
theorem bar2BaseWrite (x0 : Nat) (x1 : Word) : Statement (.bar2BaseWrite x0 x1) := fun _ _ e => nomatch e
theorem bar2Access (x0 : Nat) (x1 : Bool) (x2 : List Byte) (x3 : Nat) : Statement (.bar2Access x0 x1 x2 x3) := fun _ _ e => nomatch e
theorem objectDefine (x0 : Packet) : Statement (.objectDefine x0) := fun h p e => by cases e; exact h
theorem objectGet (x0 : Packet) : Statement (.objectGet x0) := fun h p e => by cases e; exact h
theorem objectDisableAll (x0 : Packet) : Statement (.objectDisableAll x0) := fun h p e => by cases e; exact h
theorem positionStream (x0 : Packet) : Statement (.positionStream x0) := fun h p e => by cases e; exact h
theorem objectStateGet (x0 : Packet) : Statement (.objectStateGet x0) := fun h p e => by cases e; exact h
theorem positionBucketRefill : Statement (.positionBucketRefill) := fun _ _ e => nomatch e
theorem layoutBegin (x0 : Packet) : Statement (.layoutBegin x0) := fun h p e => by cases e; exact h
theorem speakerDefine (x0 : Packet) : Statement (.speakerDefine x0) := fun h p e => by cases e; exact h
theorem zoneDefine (x0 : Packet) : Statement (.zoneDefine x0) := fun h p e => by cases e; exact h
theorem layoutTempRange (x0 : Packet) : Statement (.layoutTempRange x0) := fun h p e => by cases e; exact h
theorem layoutCommit (x0 : Packet) : Statement (.layoutCommit x0) := fun h p e => by cases e; exact h
theorem layoutCommitDone : Statement (.layoutCommitDone) := fun _ _ e => nomatch e
theorem layoutAdmissionGet (x0 : Packet) : Statement (.layoutAdmissionGet x0) := fun h p e => by cases e; exact h
theorem speakerGet (x0 : Packet) : Statement (.speakerGet x0) := fun h p e => by cases e; exact h
theorem soundSpeedSet (x0 : Packet) : Statement (.soundSpeedSet x0) := fun h p e => by cases e; exact h
theorem soundSpeedGet (x0 : Packet) : Statement (.soundSpeedGet x0) := fun h p e => by cases e; exact h
theorem caliperSnapshot : Statement (.caliperSnapshot) := fun _ _ e => nomatch e
theorem targetHandover : Statement (.targetHandover) := fun _ _ e => nomatch e
theorem paletteStatusGet (x0 : Packet) : Statement (.paletteStatusGet x0) := fun h p e => by cases e; exact h
theorem paletteSwap (x0 : Packet) : Statement (.paletteSwap x0) := fun h p e => by cases e; exact h
theorem swapPrepare : Statement (.swapPrepare) := fun _ _ e => nomatch e
theorem paletteSwapExecute : Statement (.paletteSwapExecute) := fun _ _ e => nomatch e
theorem glazeEnd : Statement (.glazeEnd) := fun _ _ e => nomatch e
theorem maquetteSet (x0 : Packet) : Statement (.maquetteSet x0) := fun h p e => by cases e; exact h
theorem caliperConfig (x0 : Packet) : Statement (.caliperConfig x0) := fun h p e => by cases e; exact h
theorem caliperCountersGet (x0 : Packet) : Statement (.caliperCountersGet x0) := fun h p e => by cases e; exact h
theorem farWindowArrive (x0 : Nat) (x1 : Nat) : Statement (.farWindowArrive x0 x1) := fun _ _ e => nomatch e
theorem farWindowLate (x0 : Nat) (x1 : Nat) : Statement (.farWindowLate x0 x1) := fun _ _ e => nomatch e
theorem renderSumsComplete : Statement (.renderSumsComplete) := fun _ _ e => nomatch e
theorem renderOverrun (x0 : Nat) (x1 : List Nat) : Statement (.renderOverrun x0 x1) := fun _ _ e => nomatch e
theorem renderSpareSwap : Statement (.renderSpareSwap) := fun _ _ e => nomatch e
theorem renderStatusGet (x0 : Packet) : Statement (.renderStatusGet x0) := fun h p e => by cases e; exact h
theorem contribRead (x0 : Packet) : Statement (.contribRead x0) := fun h p e => by cases e; exact h
theorem contribFind (x0 : Packet) : Statement (.contribFind x0) := fun h p e => by cases e; exact h
theorem expertObjectSet (x0 : Packet) : Statement (.expertObjectSet x0) := fun h p e => by cases e; exact h
theorem contribWrite (x0 : Packet) : Statement (.contribWrite x0) := fun h p e => by cases e; exact h
theorem nearRead (x0 : Packet) : Statement (.nearRead x0) := fun h p e => by cases e; exact h
theorem renderCountersGet (x0 : Packet) : Statement (.renderCountersGet x0) := fun h p e => by cases e; exact h
theorem clipCountsGet (x0 : Packet) : Statement (.clipCountsGet x0) := fun h p e => by cases e; exact h
theorem renderUncorrClear (x0 : Nat) (x1 : Word) : Statement (.renderUncorrClear x0 x1) := fun _ _ e => nomatch e
theorem sceneBusDefine (x0 : Packet) : Statement (.sceneBusDefine x0) := fun h p e => by cases e; exact h
theorem sceneBusGet (x0 : Packet) : Statement (.sceneBusGet x0) := fun h p e => by cases e; exact h
theorem bedDefine (x0 : Packet) : Statement (.bedDefine x0) := fun h p e => by cases e; exact h
theorem bedGet (x0 : Packet) : Statement (.bedGet x0) := fun h p e => by cases e; exact h
theorem binauralSet (x0 : Packet) : Statement (.binauralSet x0) := fun h p e => by cases e; exact h
theorem binauralChange (x0 : Nat) : Statement (.binauralChange x0) := fun _ _ e => nomatch e
theorem binauralGet (x0 : Packet) : Statement (.binauralGet x0) := fun h p e => by cases e; exact h
theorem downmixSet (x0 : Packet) : Statement (.downmixSet x0) := fun h p e => by cases e; exact h
theorem downmixChange (x0 : Nat) : Statement (.downmixChange x0) := fun _ _ e => nomatch e
theorem downmixGet (x0 : Packet) : Statement (.downmixGet x0) := fun h p e => by cases e; exact h
theorem loudnessConfig (x0 : Packet) : Statement (.loudnessConfig x0) := fun h p e => by cases e; exact h
theorem loudnessGet (x0 : Packet) : Statement (.loudnessGet x0) := fun h p e => by cases e; exact h
theorem loudnessReset (x0 : Packet) : Statement (.loudnessReset x0) := fun h p e => by cases e; exact h
theorem loudnessGatingBlock (x0 : Nat) : Statement (.loudnessGatingBlock x0) := fun _ _ e => nomatch e
theorem firTailFrame (x0 : Nat) : Statement (.firTailFrame x0) := fun _ _ e => nomatch e
theorem tailOverrun (x0 : Nat) : Statement (.tailOverrun x0) := fun _ _ e => nomatch e
theorem outchainBegin (x0 : Packet) : Statement (.outchainBegin x0) := fun h p e => by cases e; exact h
theorem outchainSet (x0 : Packet) : Statement (.outchainSet x0) := fun h p e => by cases e; exact h
theorem biquadSet (x0 : Packet) : Statement (.biquadSet x0) := fun h p e => by cases e; exact h
theorem firSet (x0 : Packet) : Statement (.firSet x0) := fun h p e => by cases e; exact h
theorem varnishSet (x0 : Packet) : Statement (.varnishSet x0) := fun h p e => by cases e; exact h
theorem outchainCommit (x0 : Packet) : Statement (.outchainCommit x0) := fun h p e => by cases e; exact h
theorem outchainCommitDone : Statement (.outchainCommitDone) := fun _ _ e => nomatch e
theorem outchainGet (x0 : Packet) : Statement (.outchainGet x0) := fun h p e => by cases e; exact h
theorem outputMute (x0 : Packet) : Statement (.outputMute x0) := fun h p e => by cases e; exact h
theorem muteApply (x0 : Nat) : Statement (.muteApply x0) := fun _ _ e => nomatch e
theorem muteFadeEnd (x0 : Nat) : Statement (.muteFadeEnd x0) := fun _ _ e => nomatch e
theorem outchainMetersGet (x0 : Packet) : Statement (.outchainMetersGet x0) := fun h p e => by cases e; exact h
theorem lastClipClear (x0 : Nat) (x1 : Word) : Statement (.lastClipClear x0 x1) := fun _ _ e => nomatch e
theorem surveyStatusGet (x0 : Packet) : Statement (.surveyStatusGet x0) := fun h p e => by cases e; exact h
theorem measureStart (x0 : Packet) : Statement (.measureStart x0) := fun h p e => by cases e; exact h
theorem measureBegin : Statement (.measureBegin) := fun _ _ e => nomatch e
theorem measureTurnEnd : Statement (.measureTurnEnd) := fun _ _ e => nomatch e
theorem turnResultsDone : Statement (.turnResultsDone) := fun _ _ e => nomatch e
theorem measureComplete : Statement (.measureComplete) := fun _ _ e => nomatch e
theorem measureAbort (x0 : Packet) : Statement (.measureAbort x0) := fun h p e => by cases e; exact h
theorem resultGet (x0 : Packet) : Statement (.resultGet x0) := fun h p e => by cases e; exact h
theorem resultBandsGet (x0 : Packet) : Statement (.resultBandsGet x0) := fun h p e => by cases e; exact h
theorem resultStore (x0 : Packet) : Statement (.resultStore x0) := fun h p e => by cases e; exact h
theorem resultStoreDone : Statement (.resultStoreDone) := fun _ _ e => nomatch e
theorem design (x0 : Packet) : Statement (.design x0) := fun h p e => by cases e; exact h
theorem designDone : Statement (.designDone) := fun _ _ e => nomatch e
theorem liveConfig (x0 : Packet) : Statement (.liveConfig x0) := fun h p e => by cases e; exact h
theorem liveOutputSet (x0 : Packet) : Statement (.liveOutputSet x0) := fun h p e => by cases e; exact h
theorem liveTimingSet (x0 : Packet) : Statement (.liveTimingSet x0) := fun h p e => by cases e; exact h
theorem livePolicySet (x0 : Packet) : Statement (.livePolicySet x0) := fun h p e => by cases e; exact h
theorem liveRebase (x0 : Packet) : Statement (.liveRebase x0) := fun h p e => by cases e; exact h
theorem proposalGet (x0 : Packet) : Statement (.proposalGet x0) := fun h p e => by cases e; exact h
theorem proposalApply (x0 : Packet) : Statement (.proposalApply x0) := fun h p e => by cases e; exact h
theorem proposalDiscard (x0 : Packet) : Statement (.proposalDiscard x0) := fun h p e => by cases e; exact h
theorem surveyWindowEnd : Statement (.surveyWindowEnd) := fun _ _ e => nomatch e
theorem proposalCommitDone : Statement (.proposalCommitDone) := fun _ _ e => nomatch e
theorem proposalExpire : Statement (.proposalExpire) := fun _ _ e => nomatch e
theorem surveyLogFlush : Statement (.surveyLogFlush) := fun _ _ e => nomatch e
theorem surveyLogRead (x0 : Packet) : Statement (.surveyLogRead x0) := fun h p e => by cases e; exact h
theorem surveyLogInfo (x0 : Packet) : Statement (.surveyLogInfo x0) := fun h p e => by cases e; exact h
theorem detectorGet (x0 : Packet) : Statement (.detectorGet x0) := fun h p e => by cases e; exact h
theorem detectorConfig (x0 : Packet) : Statement (.detectorConfig x0) := fun h p e => by cases e; exact h
theorem detectorRmsWindow (x0 : Nat) : Statement (.detectorRmsWindow x0) := fun _ _ e => nomatch e
theorem pdmConfig (x0 : Packet) : Statement (.pdmConfig x0) := fun h p e => by cases e; exact h
theorem pdmFirLoad (x0 : Packet) : Statement (.pdmFirLoad x0) := fun h p e => by cases e; exact h
theorem pdmHoldEnd (x0 : Nat) : Statement (.pdmHoldEnd x0) := fun _ _ e => nomatch e
theorem pdmStuck (x0 : Nat) : Statement (.pdmStuck x0) := fun _ _ e => nomatch e
theorem portConfig (x0 : Packet) : Statement (.portConfig x0) := fun h p e => by cases e; exact h
theorem portStatusGet (x0 : Packet) : Statement (.portStatusGet x0) := fun h p e => by cases e; exact h
theorem tdmFrame (x0 : Nat) (x1 : Nat) (x2 : Bool) (x3 : Bool) (x4 : Nat) (x5 : List Nat) : Statement (.tdmFrame x0 x1 x2 x3 x4 x5) := fun _ _ e => nomatch e
theorem tdmLeaderFrame (x0 : Nat) (x1 : Nat) (x2 : List Nat) : Statement (.tdmLeaderFrame x0 x1 x2) := fun _ _ e => nomatch e
theorem tdmLoss (x0 : Nat) (x1 : Nat) : Statement (.tdmLoss x0 x1) := fun _ _ e => nomatch e
theorem tdmRateRun (x0 : Nat) (x1 : Nat) (x2 : Nat) : Statement (.tdmRateRun x0 x1 x2) := fun _ _ e => nomatch e
theorem tdmResume (x0 : Nat) : Statement (.tdmResume x0) := fun _ _ e => nomatch e
theorem nonpcmHoldExpire (x0 : Nat) : Statement (.nonpcmHoldExpire x0) := fun _ _ e => nomatch e
theorem nonpcmRecordClear (x0 : Nat) (x1 : Word) : Statement (.nonpcmRecordClear x0 x1) := fun _ _ e => nomatch e
theorem directPathWord (x0 : Nat) (x1 : Nat) (x2 : Nat) : Statement (.directPathWord x0 x1 x2) := fun _ _ e => nomatch e
theorem routeBegin (x0 : Packet) : Statement (.routeBegin x0) := fun h p e => by cases e; exact h
theorem routeSet (x0 : Packet) : Statement (.routeSet x0) := fun h p e => by cases e; exact h
theorem routeCommit (x0 : Packet) : Statement (.routeCommit x0) := fun h p e => by cases e; exact h
theorem routeCommitDone : Statement (.routeCommitDone) := fun _ _ e => nomatch e
theorem routeGet (x0 : Packet) : Statement (.routeGet x0) := fun h p e => by cases e; exact h
theorem routeNow (x0 : Packet) : Statement (.routeNow x0) := fun h p e => by cases e; exact h
theorem directGainSet (x0 : Packet) : Statement (.directGainSet x0) := fun h p e => by cases e; exact h
theorem directGainChange (x0 : Nat) : Statement (.directGainChange x0) := fun _ _ e => nomatch e
theorem directGet (x0 : Packet) : Statement (.directGet x0) := fun h p e => by cases e; exact h
theorem groupSet (x0 : Packet) : Statement (.groupSet x0) := fun h p e => by cases e; exact h
theorem groupChange (x0 : Nat) : Statement (.groupChange x0) := fun _ _ e => nomatch e
theorem meterGet (x0 : Packet) : Statement (.meterGet x0) := fun h p e => by cases e; exact h
theorem meterConfig (x0 : Packet) : Statement (.meterConfig x0) := fun h p e => by cases e; exact h
theorem meterHoldReset (x0 : Packet) : Statement (.meterHoldReset x0) := fun h p e => by cases e; exact h
theorem meterHoldExpire (x0 : Nat) (x1 : Nat) : Statement (.meterHoldExpire x0 x1) := fun _ _ e => nomatch e
theorem nonpcmGet (x0 : Packet) : Statement (.nonpcmGet x0) := fun h p e => by cases e; exact h
theorem linkUp (x0 : Nat) : Statement (.linkUp x0) := fun _ _ e => nomatch e
theorem linkDown (x0 : Nat) : Statement (.linkDown x0) := fun _ _ e => nomatch e
theorem ethernetFrameReceive (x0 : Nat) (x1 : Nat) (x2 : Nat) (x3 : Nat) (x4 : List Byte) : Statement (.ethernetFrameReceive x0 x1 x2 x3 x4) := fun _ _ e => nomatch e
theorem pauseRepeat (x0 : Nat) : Statement (.pauseRepeat x0) := fun _ _ e => nomatch e
theorem pauseFrameReceive (x0 : Nat) (x1 : Nat) : Statement (.pauseFrameReceive x0 x1) := fun _ _ e => nomatch e
theorem arpRequestReceive (x0 : Nat) (x1 : Nat) : Statement (.arpRequestReceive x0 x1) := fun _ _ e => nomatch e
theorem arpReplyReceive (x0 : Nat) (x1 : Nat) (x2 : Nat) : Statement (.arpReplyReceive x0 x1 x2) := fun _ _ e => nomatch e
theorem arpRefresh (x0 : Nat) : Statement (.arpRefresh x0) := fun _ _ e => nomatch e
theorem icmpEchoReceive (x0 : Nat) (x1 : Nat) (x2 : List Byte) : Statement (.icmpEchoReceive x0 x1 x2) := fun _ _ e => nomatch e
theorem igmpQueryReceive (x0 : Nat) : Statement (.igmpQueryReceive x0) := fun _ _ e => nomatch e
theorem rtpPacketReceive (x0 : Nat) (x1 : Rtp) (x2 : Nat) : Statement (.rtpPacketReceive x0 x1 x2) := fun _ _ e => nomatch e
theorem streamLegLoss (x0 : Nat) (x1 : Nat) : Statement (.streamLegLoss x0 x1) := fun _ _ e => nomatch e
theorem marginSpanEnd (x0 : Nat) : Statement (.marginSpanEnd x0) := fun _ _ e => nomatch e
theorem streamPacketQueue (x0 : Nat) : Statement (.streamPacketQueue x0) := fun _ _ e => nomatch e
theorem frameTransmit (x0 : Nat) : Statement (.frameTransmit x0) := fun _ _ e => nomatch e
theorem gateGo (x0 : Nat) (x1 : Nat) (x2 : Word) : Statement (.gateGo x0 x1 x2) := fun _ _ e => nomatch e
theorem gateChangeTime (x0 : Nat) : Statement (.gateChangeTime x0) := fun _ _ e => nomatch e
theorem gateCycleStart (x0 : Nat) : Statement (.gateCycleStart x0) := fun _ _ e => nomatch e
theorem streamDefinitionApply (x0 : Bool) (x1 : Nat) : Statement (.streamDefinitionApply x0 x1) := fun _ _ e => nomatch e
theorem maxFrameWrite (x0 : Nat) (x1 : Nat) (x2 : Word) : Statement (.maxFrameWrite x0 x1 x2) := fun _ _ e => nomatch e
theorem netCtrlWrite (x0 : Nat) (x1 : Nat) (x2 : Word) : Statement (.netCtrlWrite x0 x1 x2) := fun _ _ e => nomatch e
theorem netConfig (x0 : Packet) : Statement (.netConfig x0) := fun h p e => by cases e; exact h
theorem netStatusGet (x0 : Packet) : Statement (.netStatusGet x0) := fun h p e => by cases e; exact h
theorem netPauseSet (x0 : Packet) : Statement (.netPauseSet x0) := fun h p e => by cases e; exact h
theorem netGateSet (x0 : Packet) : Statement (.netGateSet x0) := fun h p e => by cases e; exact h
theorem netGateGet (x0 : Packet) : Statement (.netGateGet x0) := fun h p e => by cases e; exact h
theorem streamRxSet (x0 : Packet) : Statement (.streamRxSet x0) := fun h p e => by cases e; exact h
theorem streamRxGet (x0 : Packet) : Statement (.streamRxGet x0) := fun h p e => by cases e; exact h
theorem streamTxSet (x0 : Packet) : Statement (.streamTxSet x0) := fun h p e => by cases e; exact h
theorem streamTxGet (x0 : Packet) : Statement (.streamTxGet x0) := fun h p e => by cases e; exact h
theorem streamStatsGet (x0 : Packet) : Statement (.streamStatsGet x0) := fun h p e => by cases e; exact h
theorem bcNop (x0 : Nat) : Statement (.bcNop x0) := fun _ _ e => nomatch e
theorem bcMac (x0 : Nat) : Statement (.bcMac x0) := fun _ _ e => nomatch e
theorem bcMsu (x0 : Nat) : Statement (.bcMsu x0) := fun _ _ e => nomatch e
theorem bcMpy (x0 : Nat) : Statement (.bcMpy x0) := fun _ _ e => nomatch e
theorem bcClr (x0 : Nat) : Statement (.bcClr x0) := fun _ _ e => nomatch e
theorem bcAdda (x0 : Nat) : Statement (.bcAdda x0) := fun _ _ e => nomatch e
theorem bcSuba (x0 : Nat) : Statement (.bcSuba x0) := fun _ _ e => nomatch e
theorem bcRnd (x0 : Nat) : Statement (.bcRnd x0) := fun _ _ e => nomatch e
theorem bcTrn (x0 : Nat) : Statement (.bcTrn x0) := fun _ _ e => nomatch e
theorem bcHsum (x0 : Nat) : Statement (.bcHsum x0) := fun _ _ e => nomatch e
theorem bcAccmov (x0 : Nat) : Statement (.bcAccmov x0) := fun _ _ e => nomatch e
theorem bcVadd (x0 : Nat) : Statement (.bcVadd x0) := fun _ _ e => nomatch e
theorem bcVsub (x0 : Nat) : Statement (.bcVsub x0) := fun _ _ e => nomatch e
theorem bcVand (x0 : Nat) : Statement (.bcVand x0) := fun _ _ e => nomatch e
theorem bcVor (x0 : Nat) : Statement (.bcVor x0) := fun _ _ e => nomatch e
theorem bcVxor (x0 : Nat) : Statement (.bcVxor x0) := fun _ _ e => nomatch e
theorem bcVneg (x0 : Nat) : Statement (.bcVneg x0) := fun _ _ e => nomatch e
theorem bcVabs (x0 : Nat) : Statement (.bcVabs x0) := fun _ _ e => nomatch e
theorem bcVmax (x0 : Nat) : Statement (.bcVmax x0) := fun _ _ e => nomatch e
theorem bcVmin (x0 : Nat) : Statement (.bcVmin x0) := fun _ _ e => nomatch e
theorem bcVasr (x0 : Nat) : Statement (.bcVasr x0) := fun _ _ e => nomatch e
theorem bcVasrr (x0 : Nat) : Statement (.bcVasrr x0) := fun _ _ e => nomatch e
theorem bcVshl (x0 : Nat) : Statement (.bcVshl x0) := fun _ _ e => nomatch e
theorem bcVmov (x0 : Nat) : Statement (.bcVmov x0) := fun _ _ e => nomatch e
theorem bcVrot (x0 : Nat) : Statement (.bcVrot x0) := fun _ _ e => nomatch e
theorem bcLdi (x0 : Nat) : Statement (.bcLdi x0) := fun _ _ e => nomatch e
theorem bcMov (x0 : Nat) : Statement (.bcMov x0) := fun _ _ e => nomatch e
theorem bcAdd (x0 : Nat) : Statement (.bcAdd x0) := fun _ _ e => nomatch e
theorem bcSub (x0 : Nat) : Statement (.bcSub x0) := fun _ _ e => nomatch e
theorem bcAnd (x0 : Nat) : Statement (.bcAnd x0) := fun _ _ e => nomatch e
theorem bcOr (x0 : Nat) : Statement (.bcOr x0) := fun _ _ e => nomatch e
theorem bcXor (x0 : Nat) : Statement (.bcXor x0) := fun _ _ e => nomatch e
theorem bcShl (x0 : Nat) : Statement (.bcShl x0) := fun _ _ e => nomatch e
theorem bcShr (x0 : Nat) : Statement (.bcShr x0) := fun _ _ e => nomatch e
theorem bcAsr (x0 : Nat) : Statement (.bcAsr x0) := fun _ _ e => nomatch e
theorem bcCmp (x0 : Nat) : Statement (.bcCmp x0) := fun _ _ e => nomatch e
theorem bcMul (x0 : Nat) : Statement (.bcMul x0) := fun _ _ e => nomatch e
theorem bcLds (x0 : Nat) : Statement (.bcLds x0) := fun _ _ e => nomatch e
theorem bcSts (x0 : Nat) : Statement (.bcSts x0) := fun _ _ e => nomatch e
theorem bcLdc (x0 : Nat) : Statement (.bcLdc x0) := fun _ _ e => nomatch e
theorem bcStc (x0 : Nat) : Statement (.bcStc x0) := fun _ _ e => nomatch e
theorem bcXget (x0 : Nat) : Statement (.bcXget x0) := fun _ _ e => nomatch e
theorem bcXput (x0 : Nat) : Statement (.bcXput x0) := fun _ _ e => nomatch e
theorem bcAccget (x0 : Nat) : Statement (.bcAccget x0) := fun _ _ e => nomatch e
theorem bcAccput (x0 : Nat) : Statement (.bcAccput x0) := fun _ _ e => nomatch e
theorem bcBra (x0 : Nat) : Statement (.bcBra x0) := fun _ _ e => nomatch e
theorem bcJsr (x0 : Nat) : Statement (.bcJsr x0) := fun _ _ e => nomatch e
theorem bcRet (x0 : Nat) : Statement (.bcRet x0) := fun _ _ e => nomatch e
theorem bcRep (x0 : Nat) : Statement (.bcRep x0) := fun _ _ e => nomatch e
theorem bcDo (x0 : Nat) : Statement (.bcDo x0) := fun _ _ e => nomatch e
theorem bcPoll (x0 : Nat) : Statement (.bcPoll x0) := fun _ _ e => nomatch e
theorem bcWait (x0 : Nat) (x1 : Nat) : Statement (.bcWait x0 x1) := fun _ _ e => nomatch e
theorem bcDone (x0 : Nat) : Statement (.bcDone x0) := fun _ _ e => nomatch e
theorem bcRti (x0 : Nat) : Statement (.bcRti x0) := fun _ _ e => nomatch e
theorem bcTrap (x0 : Nat) : Statement (.bcTrap x0) := fun _ _ e => nomatch e
theorem bcHalt (x0 : Nat) : Statement (.bcHalt x0) := fun _ _ e => nomatch e
theorem bcSync (x0 : Nat) (x1 : Nat) : Statement (.bcSync x0 x1) := fun _ _ e => nomatch e
theorem bcFtap (x0 : Nat) : Statement (.bcFtap x0) := fun _ _ e => nomatch e
theorem brushCoreGo (x0 : Nat) (x1 : Nat) (x2 : Word) : Statement (.brushCoreGo x0 x1 x2) := fun _ _ e => nomatch e
theorem brushCoreCtrlStop (x0 : Nat) (x1 : Nat) (x2 : Word) : Statement (.brushCoreCtrlStop x0 x1 x2) := fun _ _ e => nomatch e
theorem xferGo (x0 : Nat) (x1 : Nat) (x2 : Word) : Statement (.xferGo x0 x1 x2) := fun _ _ e => nomatch e
theorem xferComplete (x0 : Nat) (x1 : Nat) : Statement (.xferComplete x0 x1) := fun _ _ e => nomatch e
theorem brushMbxOutWrite (x0 : Nat) (x1 : Word) : Statement (.brushMbxOutWrite x0 x1) := fun _ _ e => nomatch e
theorem brushMbxAck (x0 : Nat) (x1 : Word) : Statement (.brushMbxAck x0 x1) := fun _ _ e => nomatch e
theorem brushWindowWrite (x0 : Nat) (x1 : Nat) (x2 : Nat) (x3 : Nat) (x4 : Word) : Statement (.brushWindowWrite x0 x1 x2 x3 x4) := fun _ _ e => nomatch e
theorem brushStatusGet (x0 : Packet) : Statement (.brushStatusGet x0) := fun h p e => by cases e; exact h
theorem brushAlloc (x0 : Packet) : Statement (.brushAlloc x0) := fun h p e => by cases e; exact h
theorem brushFree (x0 : Packet) : Statement (.brushFree x0) := fun h p e => by cases e; exact h
theorem brushLoad (x0 : Packet) : Statement (.brushLoad x0) := fun h p e => by cases e; exact h
theorem brushRead (x0 : Packet) : Statement (.brushRead x0) := fun h p e => by cases e; exact h
theorem brushStart (x0 : Packet) : Statement (.brushStart x0) := fun h p e => by cases e; exact h
theorem brushStop (x0 : Packet) : Statement (.brushStop x0) := fun h p e => by cases e; exact h
theorem brushBufferSet (x0 : Packet) : Statement (.brushBufferSet x0) := fun h p e => by cases e; exact h
theorem paramDeclare (x0 : Packet) : Statement (.paramDeclare x0) := fun h p e => by cases e; exact h
theorem paramBegin (x0 : Packet) : Statement (.paramBegin x0) := fun h p e => by cases e; exact h
theorem paramSet (x0 : Packet) : Statement (.paramSet x0) := fun h p e => by cases e; exact h
theorem paramCommit (x0 : Packet) : Statement (.paramCommit x0) := fun h p e => by cases e; exact h
theorem paramGet (x0 : Packet) : Statement (.paramGet x0) := fun h p e => by cases e; exact h
theorem brushMbxPost (x0 : Packet) : Statement (.brushMbxPost x0) := fun h p e => by cases e; exact h
theorem brushMbxRead (x0 : Packet) : Statement (.brushMbxRead x0) := fun h p e => by cases e; exact h
theorem migrationCopy (x0 : Nat) : Statement (.migrationCopy x0) := fun _ _ e => nomatch e
theorem migrationSwap (x0 : Nat) : Statement (.migrationSwap x0) := fun _ _ e => nomatch e
theorem migrationCold (x0 : Nat) : Statement (.migrationCold x0) := fun _ _ e => nomatch e
theorem atelierPost (x0 : Nat) (x1 : Nat) (x2 : Word) : Statement (.atelierPost x0 x1 x2) := fun _ _ e => nomatch e
theorem atelierTick (x0 : Nat) : Statement (.atelierTick x0) := fun _ _ e => nomatch e
theorem atelierDispatch : Statement (.atelierDispatch) := fun _ _ e => nomatch e
theorem atelierCancel (x0 : Nat) (x1 : Word) : Statement (.atelierCancel x0 x1) := fun _ _ e => nomatch e
theorem atelierDonePop (x0 : Nat) : Statement (.atelierDonePop x0) := fun _ _ e => nomatch e
theorem fabricHeldIssue (x0 : Nat) : Statement (.fabricHeldIssue x0) := fun _ _ e => nomatch e
theorem dramRead (x0 : Nat) (x1 : Nat) (x2 : Nat) (x3 : Nat) (x4 : Nat) (x5 : Nat) (x6 : Nat) (x7 : Bool) : Statement (.dramRead x0 x1 x2 x3 x4 x5 x6 x7) := fun _ _ e => nomatch e
theorem dramWrite (x0 : Nat) (x1 : Nat) (x2 : Nat) (x3 : List Byte) (x4 : Nat) (x5 : Nat) (x6 : Nat) (x7 : Bool) : Statement (.dramWrite x0 x1 x2 x3 x4 x5 x6 x7) := fun _ _ e => nomatch e
theorem dramRefresh (x0 : Nat) (x1 : Nat) : Statement (.dramRefresh x0 x1) := fun _ _ e => nomatch e
theorem dramWckTrack (x0 : List Int) : Statement (.dramWckTrack x0) := fun _ _ e => nomatch e
theorem dramScrubRead (x0 : List (Nat × Nat)) : Statement (.dramScrubRead x0) := fun _ _ e => nomatch e
theorem dramRemapStart (x0 : Nat) (x1 : Nat) (x2 : Nat) (x3 : Nat) (x4 : Nat) : Statement (.dramRemapStart x0 x1 x2 x3 x4) := fun _ _ e => nomatch e
theorem dramRemapCopyDone (x0 : Nat) (x1 : Nat) : Statement (.dramRemapCopyDone x0 x1) := fun _ _ e => nomatch e
theorem dramRemapActivate (x0 : Nat) (x1 : Nat) : Statement (.dramRemapActivate x0 x1) := fun _ _ e => nomatch e
theorem memcUncorrClear (x0 : Nat) (x1 : Word) : Statement (.memcUncorrClear x0 x1) := fun _ _ e => nomatch e
theorem flashPageRead (x0 : Nat) (x1 : List Nat) (x2 : List (Nat × Nat)) : Statement (.flashPageRead x0 x1 x2) := fun _ _ e => nomatch e
theorem flashProgram (x0 : Nat) : Statement (.flashProgram x0) := fun _ _ e => nomatch e
theorem flashErase (x0 : Nat) : Statement (.flashErase x0) := fun _ _ e => nomatch e
theorem flashOpComplete (x0 : Nat) (x1 : Bool) : Statement (.flashOpComplete x0 x1) := fun _ _ e => nomatch e
theorem flashScrubPass (x0 : Nat) (x1 : Nat) (x2 : Nat) (x3 : Nat) (x4 : Nat) (x5 : List (Nat × Nat)) : Statement (.flashScrubPass x0 x1 x2 x3 x4 x5) := fun _ _ e => nomatch e
theorem flashWearLevel (x0 : Bool) : Statement (.flashWearLevel x0) := fun _ _ e => nomatch e
theorem flashRelocate (x0 : Nat) (x1 : Bool) : Statement (.flashRelocate x0 x1) := fun _ _ e => nomatch e
theorem flashRetentionAgeTick : Statement (.flashRetentionAgeTick) := fun _ _ e => nomatch e
theorem storageStatusGet (x0 : Packet) : Statement (.storageStatusGet x0) := fun h p e => by cases e; exact h
theorem libList (x0 : Packet) : Statement (.libList x0) := fun h p e => by cases e; exact h
theorem libWriteBegin (x0 : Packet) : Statement (.libWriteBegin x0) := fun h p e => by cases e; exact h
theorem libWriteData (x0 : Packet) : Statement (.libWriteData x0) := fun h p e => by cases e; exact h
theorem libWriteCommit (x0 : Packet) : Statement (.libWriteCommit x0) := fun h p e => by cases e; exact h
theorem libCommitDone (x0 : Nat) : Statement (.libCommitDone x0) := fun _ _ e => nomatch e
theorem libWriteTimeout (x0 : Nat) : Statement (.libWriteTimeout x0) := fun _ _ e => nomatch e
theorem libRead (x0 : Packet) : Statement (.libRead x0) := fun h p e => by cases e; exact h
theorem libDelete (x0 : Packet) : Statement (.libDelete x0) := fun h p e => by cases e; exact h
theorem libWriteAbort (x0 : Packet) : Statement (.libWriteAbort x0) := fun h p e => by cases e; exact h
theorem crcScan (x0 : Packet) : Statement (.crcScan x0) := fun h p e => by cases e; exact h
theorem crcScanGo (x0 : Nat) (x1 : Nat) (x2 : Word) : Statement (.crcScanGo x0 x1 x2) := fun _ _ e => nomatch e
theorem crcScanDone (x0 : Nat) : Statement (.crcScanDone x0) := fun _ _ e => nomatch e
theorem memConfigSet (x0 : Packet) : Statement (.memConfigSet x0) := fun h p e => by cases e; exact h
theorem flashConfigSet (x0 : Packet) : Statement (.flashConfigSet x0) := fun h p e => by cases e; exact h
theorem flashUnitGet (x0 : Packet) : Statement (.flashUnitGet x0) := fun h p e => by cases e; exact h
theorem tetherMirrorReceive (x0 : Tether) : Statement (.tetherMirrorReceive x0) := fun _ _ e => nomatch e
theorem mirrorSetApply (x0 : Machine.MirrorItems) : Statement (.mirrorSetApply x0) := fun _ _ e => nomatch e
theorem tetherAckReceive (x0 : Tether) : Statement (.tetherAckReceive x0) := fun _ _ e => nomatch e
theorem tetherResyncReqReceive (x0 : Tether) : Statement (.tetherResyncReqReceive x0) := fun _ _ e => nomatch e
theorem tetherResyncDataReceive (x0 : Tether) (x1 : Machine.ResyncPart) : Statement (.tetherResyncDataReceive x0 x1) := fun _ _ e => nomatch e
theorem resyncComplete (x0 : Word) : Statement (.resyncComplete x0) := fun _ _ e => nomatch e
theorem tetherSwitchReceive (x0 : Tether) (x1 : Nat) : Statement (.tetherSwitchReceive x0 x1) := fun _ _ e => nomatch e
theorem tetherRelinquishReceive (x0 : Tether) : Statement (.tetherRelinquishReceive x0) := fun _ _ e => nomatch e
theorem tetherPairReceive (x0 : Tether) (x1 : Bool) : Statement (.tetherPairReceive x0 x1) := fun _ _ e => nomatch e
theorem pairingTimeout : Statement (.pairingTimeout) := fun _ _ e => nomatch e
theorem witnessDecision : Statement (.witnessDecision) := fun _ _ e => nomatch e
theorem takeover : Statement (.takeover) := fun _ _ e => nomatch e
theorem switchoverPrepare : Statement (.switchoverPrepare) := fun _ _ e => nomatch e
theorem switchover : Statement (.switchover) := fun _ _ e => nomatch e
theorem switchoverGlazeEnd : Statement (.switchoverGlazeEnd) := fun _ _ e => nomatch e
theorem twinStatusGet (x0 : Packet) : Statement (.twinStatusGet x0) := fun h p e => by cases e; exact h
theorem twinConfig (x0 : Packet) : Statement (.twinConfig x0) := fun h p e => by cases e; exact h
theorem twinSwitchover (x0 : Packet) : Statement (.twinSwitchover x0) := fun h p e => by cases e; exact h
theorem twinForce (x0 : Packet) : Statement (.twinForce x0) := fun h p e => by cases e; exact h
theorem twinLeave (x0 : Packet) : Statement (.twinLeave x0) := fun h p e => by cases e; exact h
theorem twinPersistDeclare (x0 : Packet) : Statement (.twinPersistDeclare x0) := fun h p e => by cases e; exact h
theorem twinResync (x0 : Packet) : Statement (.twinResync x0) := fun h p e => by cases e; exact h
theorem updateStatusGet (x0 : Packet) : Statement (.updateStatusGet x0) := fun h p e => by cases e; exact h
theorem updateBegin (x0 : Packet) : Statement (.updateBegin x0) := fun h p e => by cases e; exact h
theorem updateData (x0 : Packet) : Statement (.updateData x0) := fun h p e => by cases e; exact h
theorem updateEnd (x0 : Packet) : Statement (.updateEnd x0) := fun h p e => by cases e; exact h
theorem updateDiscard (x0 : Packet) : Statement (.updateDiscard x0) := fun h p e => by cases e; exact h
theorem updatePeersSet (x0 : Packet) : Statement (.updatePeersSet x0) := fun h p e => by cases e; exact h
theorem updateActivate (x0 : Packet) : Statement (.updateActivate x0) := fun h p e => by cases e; exact h
theorem updateCancel (x0 : Packet) : Statement (.updateCancel x0) := fun h p e => by cases e; exact h
theorem updatePeerStatusGet (x0 : Packet) : Statement (.updatePeerStatusGet x0) := fun h p e => by cases e; exact h
theorem updateSvnRaise (x0 : Packet) : Statement (.updateSvnRaise x0) := fun h p e => by cases e; exact h
theorem updateOfferReceive (x0 : UpFrame) : Statement (.updateOfferReceive x0) := fun _ _ e => nomatch e
theorem updateDataReceive (x0 : UpFrame) : Statement (.updateDataReceive x0) := fun _ _ e => nomatch e
theorem updateAckReceive (x0 : UpFrame) : Statement (.updateAckReceive x0) := fun _ _ e => nomatch e
theorem updateRefuseReceive (x0 : UpFrame) : Statement (.updateRefuseReceive x0) := fun _ _ e => nomatch e
theorem updateVerifiedReceive (x0 : UpFrame) : Statement (.updateVerifiedReceive x0) := fun _ _ e => nomatch e
theorem updateActivateReceive (x0 : UpFrame) : Statement (.updateActivateReceive x0) := fun _ _ e => nomatch e
theorem updateCancelReceive (x0 : UpFrame) : Statement (.updateCancelReceive x0) := fun _ _ e => nomatch e
theorem updateResultReceive (x0 : UpFrame) : Statement (.updateResultReceive x0) := fun _ _ e => nomatch e
theorem ackStallRetransmit (x0 : Nat) : Statement (.ackStallRetransmit x0) := fun _ _ e => nomatch e
theorem peerUnreachable (x0 : Nat) : Statement (.peerUnreachable x0) := fun _ _ e => nomatch e
theorem peerReoffer (x0 : Nat) : Statement (.peerReoffer x0) := fun _ _ e => nomatch e
theorem imageVerifyDone (x0 : ImageEnv) : Statement (.imageVerifyDone x0) := fun _ _ e => nomatch e
theorem updateReceptionTimeout (x0 : Nat) : Statement (.updateReceptionTimeout x0) := fun _ _ e => nomatch e
theorem activationPrecheck (x0 : ImageEnv) : Statement (.activationPrecheck x0) := fun _ _ e => nomatch e
theorem activation : Statement (.activation) := fun _ _ e => nomatch e
theorem activationFallback : Statement (.activationFallback) := fun _ _ e => nomatch e
theorem patrolStart (x0 : Nat) : Statement (.patrolStart x0) := fun _ _ e => nomatch e
theorem nearRowSpare (x0 : Nat) (x1 : Nat) : Statement (.nearRowSpare x0 x1) := fun _ _ e => nomatch e
theorem nearRowSwitch (x0 : Nat) (x1 : Nat) : Statement (.nearRowSwitch x0 x1) := fun _ _ e => nomatch e
theorem eyeMarginMeasure (x0 : Nat) (x1 : Nat) (x2 : Nat) : Statement (.eyeMarginMeasure x0 x1 x2) := fun _ _ e => nomatch e
theorem functionStall (x0 : Nat) : Statement (.functionStall x0) := fun _ _ e => nomatch e
theorem patinaLedgerFlush : Statement (.patinaLedgerFlush) := fun _ _ e => nomatch e
theorem healthStatusGet (x0 : Packet) : Statement (.healthStatusGet x0) := fun h p e => by cases e; exact h
theorem healthConfig (x0 : Packet) : Statement (.healthConfig x0) := fun h p e => by cases e; exact h
theorem patinaRead (x0 : Packet) : Statement (.patinaRead x0) := fun h p e => by cases e; exact h
theorem patinaInfo (x0 : Packet) : Statement (.patinaInfo x0) := fun h p e => by cases e; exact h
theorem unitGet (x0 : Packet) : Statement (.unitGet x0) := fun h p e => by cases e; exact h
theorem spareSwap (x0 : Packet) : Statement (.spareSwap x0) := fun h p e => by cases e; exact h
theorem smudgeChallenge (x0 : Packet) : Statement (.smudgeChallenge x0) := fun h p e => by cases e; exact h
theorem smudgeChallengeExpire : Statement (.smudgeChallengeExpire) := fun _ _ e => nomatch e
theorem smudgeUnlock (x0 : Packet) : Statement (.smudgeUnlock x0) := fun h p e => by cases e; exact h
theorem smudgeSet (x0 : Packet) : Statement (.smudgeSet x0) := fun h p e => by cases e; exact h
theorem smudgeLock (x0 : Packet) : Statement (.smudgeLock x0) := fun h p e => by cases e; exact h
theorem smudgeTimeout : Statement (.smudgeTimeout) := fun _ _ e => nomatch e
theorem smudgeArmWrite (x0 : Nat) (x1 : Word) : Statement (.smudgeArmWrite x0 x1) := fun _ _ e => nomatch e
theorem smudgeClockGo (x0 : Nat) (x1 : Word) : Statement (.smudgeClockGo x0 x1) := fun _ _ e => nomatch e
theorem converterFault : Statement (.converterFault) := fun _ _ e => nomatch e
theorem sfpLosChange (x0 : Nat) (x1 : Bool) : Statement (.sfpLosChange x0 x1) := fun _ _ e => nomatch e
theorem pcieLinkTrained (x0 : Nat) (x1 : Nat) : Statement (.pcieLinkTrained x0 x1) := fun _ _ e => nomatch e
theorem timeCtrlWrite (x0 : Nat) (x1 : Word) : Statement (.timeCtrlWrite x0 x1) := fun _ _ e => nomatch e
theorem easelPacketRefused (x0 : Transport) (x1 : List Byte) : Statement (.easelPacketRefused x0 x1) := fun _ _ e => nomatch e
theorem rxBufferFillLow (x0 : Nat) : Statement (.rxBufferFillLow x0) := fun _ _ e => nomatch e
theorem pauseQuantaExpire (x0 : Nat) : Statement (.pauseQuantaExpire x0) := fun _ _ e => nomatch e
theorem pdmTransitionsReturn (x0 : Nat) : Statement (.pdmTransitionsReturn x0) := fun _ _ e => nomatch e
theorem paramCommitDone : Statement (.paramCommitDone) := fun _ _ e => nomatch e
theorem mr4TemperatureReport (x0 : Nat) (x1 : Bool) : Statement (.mr4TemperatureReport x0 x1) := fun _ _ e => nomatch e

end Sys2Proof.Laws.PacketFits
end

