-- ==== Sys2Proof/Laws/State.lean ====
section
/-! SUPPORT. What an update of one field of the state leaves in the others, and which updates a frame does not see. -/

namespace Sys2Proof.Machine

/-! ### The state -/

@[simp] theorem State.core_of_core (s : State) (c : Core) : ({ s with core := c } : State).core = c := rfl
@[simp] theorem State.mem_of_core (s : State) (c : Core) : ({ s with core := c } : State).mem = s.mem := rfl
@[simp] theorem State.pending_of_core (s : State) (c : Core) : ({ s with core := c } : State).pending = s.pending := rfl
@[simp] theorem State.core_of_mem (s : State) (m : Mem) : ({ s with mem := m } : State).core = s.core := rfl
@[simp] theorem State.mem_of_mem (s : State) (m : Mem) : ({ s with mem := m } : State).mem = m := rfl
@[simp] theorem State.pending_of_mem (s : State) (m : Mem) : ({ s with mem := m } : State).pending = s.pending := rfl
@[simp] theorem State.core_of_pending (s : State) (l : List Instr) : ({ s with pending := l } : State).core = s.core := rfl
@[simp] theorem State.mem_of_pending (s : State) (l : List Instr) : ({ s with pending := l } : State).mem = s.mem := rfl
@[simp] theorem State.quiet_of_pending (s : State) (l : List Instr) : ({ s with pending := l } : State).quiet = s.quiet := rfl

/-! ### Frames -/

/-- A frame does not see registers. -/
@[simp] theorem Core.beside_of_regs (c : Core) (r : SMap Word) (ps : List Part) : ({ c with regs := r } : Core).beside ps = c.beside ps := rfl
@[simp] theorem Core.beside_put (c : Core) (off : Nat) (w : Word) (ps : List Part) : (c.put off w).beside ps = c.beside ps := (rfl)
@[simp] theorem Core.beside_setF (c : Core) (x : Field) (v : Nat) (ps : List Part) : (c.setF x v).beside ps = c.beside ps := (rfl)

/-- A part put out of view once more makes no difference. -/
theorem Core.blank_twice (c : Core) (p : Part) : (c.blank p).blank p = c.blank p := by cases p <;> rfl

/-- The order in which parts are put out of view makes no difference. -/
theorem Core.blank_swap (c : Core) (p q : Part) : (c.blank p).blank q = (c.blank q).blank p := by cases p <;> cases q <;> rfl

/-- Two states that agree beside some parts agree beside more. -/
theorem Core.beside_more {c d : Core} {ps : List Part} (h : c.beside ps = d.beside ps) (qs : List Part) :
    c.beside (ps ++ qs) = d.beside (ps ++ qs) := by
  unfold Core.beside at *
  rw [List.foldl_append, List.foldl_append, h]

/-- Every frame holds of a state and itself. -/
theorem Unmoved.rfl (s : State) (ps : List Part) (ws : List Nat) : Unmoved s ps ws s := ⟨Eq.refl _, fun _ _ => Eq.refl _⟩

end Sys2Proof.Machine
end

