-- ==== Sys2Proof/Tests/Slice0.lean ====
section
/-! SUPPORT. The model's own tests: commands that are not well formed, single steps on small states with results taken from the spec,
and for every statement states and operands that meet its hypotheses. -/

namespace Sys2Proof.Tests
open Sys2Proof Sys2Proof.Machine
set_option Elab.async false

/-- A module in RUN at 48 kHz with one PCIe session, number 1, that expects SEQUENCE 5. -/
def cRun : Core :=
  let c : Core :=
    { power := { vinOn := true, step := 14, railsOk := true, holdup := true, pgood := true, pgoodSeen := true,
                 endpointReady := true, engineStop := false, silenced := false }
      clk := { tcxoOn := true, tcxoOk := true, pllOn := true, ctrlSrc := 0, mediaOn := true, mediaStarted := true,
               gate := .full, dpGate := .full, dpCut := false }
      time := { n := 4800, cycles := 1000000000 }
      host := { sessions := [{ num := 1, transport := .pcie, expected := 5, base := 1 }], lastNum := 1 } }
  let c := ((((c.setF F.SYS_STATUS_STATE 1).setF F.SYS_STATUS_VIN_WARN 0).setF F.SYS_STATUS_READY 1).setF F.HOST_STATUS_EASEL_READY 1)
  let c := ((c.put R.CLK_EN 0x1FFFFF).setF F.HOST_RPL_SIZE_EN 1).setF F.CLK_MEDIA_STATUS_TCXO_QUALIFIED 1
  ((c.setF F.SYS_STRAPS_BOOT_MODE 1).setF F.MEMC_STATUS_TRAINED 1).setF F.MEMC_STATUS_SELF_REFRESH 0

/-- The same with a change. -/
def runWith (f : Core → Core) : State := { core := f cRun }

/-- The running module. -/
def tRun : State := runWith id

/-- The running module with session 1 in expert mode. -/
def tExpert : State := runWith fun c => c.setExpert 1 true

/-- A module in the middle of its start-up. -/
def starting (step : Nat) (f : Core → Core) : State :=
  { core := f { power := { vinOn := true, step := step, railsOk := true }, clk := { tcxoOn := true } } }

/-- A packet of session 1 with parameter words. -/
def pk (ws : List Nat) : Packet :=
  { transport := .pcie, magic := 0x455A, version := 1, flags := 0, length := .ofNat 16 (4 * ws.length), seq := 5, session := 1,
    reserved := 0, payload := natBytes ws }

/-- The same with FLAGS.EXPERT. -/
def pkX (ws : List Nat) : Packet := { pk ws with flags := 1 }

/-- P0 follows leader 9; Sync 3 waits for its Follow_Up and Delay_Req 2 for its Delay_Resp; the link is up. -/
def tFollower : State := runWith fun c =>
  let c := ((c.put R.TIME_CTRL 0x15).setF F.TIME_STATUS_STATE 2).setF (F.NET_STATUS_LINK_UP 0) 1
  let l : Leader := { prio1 := 128, cls := 6, accuracy := 0x21, variance := 0x4E5D, prio2 := 128, gm := 7, sender := 9, steps := 0,
                      interval := 1, timeSource := 0x20, at_ := 0, qualified := true }
  { c.setPtpPort 0 { state := .follower, leader := some l, sync := some (3, 70, 1), down := some 60, req := some (2, 30) } with
    time := { (c.setPtpPort 0 { state := .follower, leader := some l, sync := some (3, 70, 1), down := some 60,
                                req := some (2, 30) }).time with active := some 0, checking := false, lost := false } }

/-- P1 leads, and its link is up. -/
def tLeader : State := runWith fun c =>
  (((c.put R.TIME_CTRL 0x21).setF (F.NET_STATUS_LINK_UP 1) 1).setF (F.NET_MAX_FRAME_BYTES 1) 1518).setPtpPort 1 { state := .leader }

/-- A step of 1 ms, the largest that can be slewed, has been refused. -/
def tRefused : State := runWith fun c =>
  { c.setF F.TIME_STATUS_JUMP_REFUSED 1 with time := { c.time with refused := 1000000 * 65536, checking := false, ptp := 2 ^ 70 } }

/-- One capture waits on TSIN1. -/
def tCaptured : State := runWith fun c => c.setCaptures 1 [⟨65536, 4805, 300, 2⟩]

/-- Pulse 2 is armed and low. -/
def tPulsing : State := runWith fun c => c.setPulse 2 (some ⟨true, 100, 1000, 50, 3, none, false⟩)

/-- A timed command of session 1 with SEQUENCE 4 is pending. -/
def tTimed : State := runWith fun c =>
  { c with host := { c.host with timed := [{ opcode := 0x0205, packet := { pk [] with seq := 4 }, boundary := 5600 }] } }

/-- The engines work on a block; engine 1 holds one far contribution whose window has not come. -/
def tFar : State := runWith fun c =>
  { c with ren := { c.ren with busy := true, blockAt := 4784, entries := [{ src := 5, out := 9, bank := 1, far := true, lane := 4 }] } }


/-- All links are up, with modules in the cages; each port has an address and gateway. -/
def cNet : Core :=
  [0, 1, 2, 3].foldl (fun (c : Core) p =>
    let c := { c with power := { c.power with cages := smSet (fun _ => none) c.power.cages p (some false) } }
    let c := (((c.put (R.NET_CTRL p) 0x31).setF (F.NET_STATUS_LINK_UP p) 1).setF (F.NET_STATUS_SFP_PRESENT p) 1).setF (F.NET_MAX_FRAME_BYTES p) 1518
    ((c.put (R.NET_IP p) 0x0A000001).put (R.NET_IP_MASK p) 0xFFFFFF00).put (R.NET_IP_GW p) 0x0A0000FE) cRun

/-- The module with its links up, with a change. -/
def netWith (f : Core → Core) : State := { core := f cNet }

/-- A receive stream of one channel of L24, 6 samples a packet, on leg A from group 239.1.2.3, port 5004. -/
def rxDef : List Nat := [255, 0x10009, 0x300000, 0, 0, 0xEF010203, 0, 5004, 0, 0, 0, 0, 0]

/-- A transmit stream of one channel of L24, 6 samples a packet, on leg A to that group. -/
def txDef : List Nat := [255, 0x10009, 0, 0, 77, 0, 0xEF010203, 0x138C138C, 0, 0, 0, 0]

/-- A memory slot, a parallel, a control, a scalar and an FTAP instruction word (R402 to R405, R411). -/
def slotBits (m : Nat × Nat × Nat × Nat) : Nat := m.1 * 2 ^ 11 + m.2.1 * 2 ^ 7 + m.2.2.1 * 2 ^ 4 + m.2.2.2
def parWord (op dst sa sb bc : Nat) (ma mb : Nat × Nat × Nat × Nat) (au : Nat × Nat × Nat) : Nat :=
  op * 2 ^ 56 + dst * 2 ^ 52 + sa * 2 ^ 48 + sb * 2 ^ 44 + bc * 2 ^ 41 + slotBits ma * 2 ^ 26 + slotBits mb * 2 ^ 12 +
    au.1 * 2 ^ 9 + au.2.1 * 2 ^ 6 + au.2.2
def ctlWord (op cond rs imm : Nat) : Nat := 2 ^ 62 + op * 2 ^ 56 + cond * 2 ^ 52 + rs * 2 ^ 46 + imm
def sclWord (op rd rs i imm : Nat) : Nat := 2 ^ 63 + op * 2 ^ 56 + rd * 2 ^ 50 + rs * 2 ^ 44 + i * 2 ^ 43 + imm
def ftapWord (a p mode move : Nat) : Nat := 3 * 2 ^ 62 + 2 ^ 56 + a * 2 ^ 54 + p * 2 ^ 51 + mode * 2 ^ 47 + move * 2 ^ 43

/-- Core 67 runs and stands at PC 5 with an instruction there, values in its registers and in data memory. -/
def bcWith (w : Nat) (f : BrushCore → BrushCore) : State := runWith fun c =>
  let x : BrushCore :=
    { pc := 5, cycle := 100
      sc := [(0, 7), (1, 0xFFFFFFFE), (15, 9), (16, 100), (17, 200), (23, 3), (24, 0xFFFF), (31, 1), (40, 0), (49, 2), (50, 5),
             (51, 0x84140), (52, 33), (53, 0x40)]
      vec := [(0, [1, -2, 3, -8388608]), (8, [8388607, 5, -6, 7])]
      acc := [(0, [5, -5, 2 ^ 54, -(2 ^ 55)]), (1, [1, 2, 3, 4])] }
  let c := ((c.setBcState 67 3).setBc 67 (f x)).setIm 67 10 (.ofNat 32 w)
  let c := ((c.setIm 67 11 (.ofNat 32 (w / 2 ^ 32))).setIm 67 3 0x00800000).setIm 67 13 0x00000000
  ((c.setDm 67 100 0x00012345).setDm 67 101 0xFF800000).setDm 67 200 0x007FFFFF


/-- Customer brushwork holds logical cores 5 and 20, which are physical cores 5 and 21 and stopped; parameter block 3 is declared. -/
def custWith (f : Core → Core) : State := runWith fun c =>
  let x : ParamBlock := { core := 20, slot := 2, size := 4, live := 100, old := 200 }
  let c := { c.setExpert 1 true with brush := { custom := [5, 20], fw := [0], params := [(3, some x)] } }
  let c := [5, 21].foldl (fun (c : Core) k => ((c.setBrushEn k true).setBcState k 1).setF (F.BRUSH_CORE_STATE_OWNER k) 2) c
  f ((((c.setBrushEn 0 true).setBcState 0 2).setF (F.BRUSH_CORE_STATE_OWNER 0) 1).paramRegs x)


/-- Master 8 may write BAR0; staging area 4 holds a descriptor, a slot is taken, core 5 of customer brushwork waits for a task. -/
def atWith (d : List Nat) (n : Nat) (x : AtSlot) (f : Core → Core) : State := custWith fun c =>
  let c := ((c.setF F.HOST_EXPERT_CTRL_BAR0_WRITE_EN 1).setBcState 5 2).setSlot n x
  f ((List.range 8).foldl (fun (c : Core) w => c.put (R.ATELIER_STAGE_D 4 w) (.ofNat 32 (d.getD w 0))) c)


/-- The running module, whose flash units have words. -/
def flashWith (l : List (Nat × Word)) (f : Core → Core) : State := runWith fun c => let c := f c; { c with regs := l ++ c.regs }

/-- Every erase unit holds a word that gives its state and area. -/
def flashAll (w : Nat → Word) : List (Nat × Word) := (List.range flashUnits).map fun n => (R.FLASH_EU_B n, w n)

/-- The word of a unit in such a list. -/
theorem flashAll_get (d : Nat → Word) (w : Nat → Word) (rest : List (Nat × Word)) (n : Nat) : ∀ r m : Nat, m ≤ n → n < m + r →
    smGet d (((List.range' m r).map fun n => (R.FLASH_EU_B n, w n)) ++ rest) (R.FLASH_EU_B n) = w n := by
  intro r
  induction r with
  | zero => intro m h0 h1; omega
  | succ r ih =>
    intro m h0 h1
    simp only [List.range'_succ, List.map_cons, List.cons_append, smGet]
    split
    · next h => rw [show m = n by unfold R.FLASH_EU_B at h; omega]
    · next h => exact ih (m + 1) (by have : m ≠ n := fun e => h (by rw [e])
                                     omega) (by omega)

/-- The units that meet a test on state and area, where every unit has such a word. -/
theorem unitsIn_of (w : Nat → Word) (l : List (Nat × Word)) (f : Core → Core) (st : Nat) (q : Nat → Bool) :
    (flashWith (flashAll w ++ l) f).core.unitsIn st q =
      (List.range flashUnits).filter fun n => decide (bitsOf (w n) 2 0 = st) && q (bitsOf (w n) 6 4) := by
  unfold Core.unitsIn
  apply List.filter_congr
  intro n hn
  have e : (flashWith (flashAll w ++ l) f).core.get (R.FLASH_EU_B n) = w n := by
    simp only [flashWith, runWith, Core.get, flashAll, List.append_assoc, List.range_eq_range']
    exact flashAll_get _ w _ n flashUnits 0 (by omega) (by have := List.mem_range.mp hn; omega)
  simp only [Core.f, F.FLASH_EU_B_STATE, F.FLASH_EU_B_AREA, e]

/-- Units 5462 and 5463 are in use, 5461 is free, and all others are of no mode. -/
def wearWord (n : Nat) : Word := if n = 5461 then 0x40 else if n = 5462 ∨ n = 5463 then 0x41 else 0x63
def wearState : State := flashWith (flashAll wearWord ++ [(R.FLASH_EU_A 5462, 501), (R.FLASH_EU_A 5463, 0)]) fun c =>
  { c.setF F.FLASH_STATUS_WRITES_ALLOWED 1 with flash := { c.flash with reloc := [(5463, false)] } }

theorem wear_used : (wearState.core.unitsIn 1 fun a => if true then tlcArea a else a ≤ 3) = [5462, 5463] :=
  (unitsIn_of wearWord _ _ _ _).trans (by decide +kernel)

theorem wear_free : (wearState.core.unitsIn 0 fun a => if true then tlcArea a else a ≤ 3) = [5461] :=
  (unitsIn_of wearWord _ _ _ _).trans (by decide +kernel)

theorem wear_tlc : (wearState.core.unitsIn 0 fun a =>
    decide (tlcArea a = tlcArea (wearState.core.f (F.FLASH_EU_B_AREA 5463))) && decide (a < 6)) = [5461] :=
  (unitsIn_of wearWord _ _ _ _).trans (by decide +kernel)

/-- The library holds item 7; session 1 has written half of item 9. -/
def libWith (f : Core → Core) : State := runWith fun c => f
  { c with flash := { c.flash with lib := [⟨7, 4, [1, 2, 3], 9, []⟩],
                                   writes := [{ session := 1, num := 9, kind := 5, size := 8, data := [1, 2, 3, 4] }] } }

/-- A module of a pair in a role, with its link on P2 up, EPOCH 3, and a partner seen. -/
def twinWith (st : Nat) (f : Core → Core) : State := netWith fun c =>
  let c := (((c.put R.TWIN_CFG 0x1FF01).setF F.TWIN_STATUS_STATE st).setF F.TWIN_STATUS_TETHER_UP 1).put R.TWIN_EPOCH 3
  f ({ c with twin := { partner := some ⟨2, 7, 3, 0, 1000000000⟩ } }.setF (F.NET_MAX_FRAME_BYTES 2) 9216)

/-- A tether frame of the partner for the block from 4784 on, in one fragment. -/
def tetherOf (st frag flags : Nat) (payload : List Byte) : Tether :=
  { mac := 7, magic := 0x5457, version := 1, state := st, flags := flags, frag := frag, block := 4784, epoch := 3,
    setLen := payload.length, check := crc32c payload, payload := payload }


/-- A firmware image of one payload byte, and its digest. -/
def testHead : List Byte := [73, 77, 71, 70, 1, 0, 0, 0, 177, 0, 32, 81, 3, 0, 3, 0, 0, 0, 2, 0, 2, 0, 3, 0, 1, 0, 0, 0, 0, 0,
0, 0, 202, 53, 135, 88, 246, 210, 126, 108, 244, 82, 114, 147, 121, 119, 167, 72, 253, 136, 57, 29, 182, 121, 206, 218, 125,
199, 191, 31, 0, 94, 232, 121]
def testImage : List Byte := testHead ++ List.replicate 192 0 ++ [7]
def testDigest : List Byte := [141, 58, 7, 162, 211, 137, 227, 176, 227, 98, 41, 223, 31, 175, 119, 161, 73, 29, 113, 42, 227,
55, 220, 111, 155, 192, 160, 100, 12, 223, 234, 182]

/-- The module stands in an update chain: 10.0.0.9 is upstream, 10.0.0.8 is peer 0, and images may go on from SVN 2. -/
def updWith (f : Core → Core) : State := netWith fun c =>
  let c := ((c.put R.UPDATE_UPSTREAM 0x0A000009).put (R.UPDATE_PEER 0) 0x0A000008).put R.UPDATE_CFG 0x641
  let c := f c
  { c with regs := (R.UPDATE_SVN, 0x0202) :: c.regs }

/-- The winner lies in slot 1. -/
def winWith (f : Core → Core) : State := updWith fun c =>
  f { c with update := { c.update with winner := some (1, ⟨testImage, testDigest, 0x20000, 2⟩), slots := [(1, { state := 3 })] } }

/-- A datagram of the chain. -/
def upOf (src xfer off st : Nat) (digest data : List Byte) : UpFrame :=
  { src := src, magic := 0x5543, version := 1, xfer := xfer, offset := off, status := st, digest := digest, data := data }

/-- An activation at PTP second 100 is scheduled. -/
def schedOf (checked running : Bool) : UpSched :=
  { image := ⟨testImage, testDigest, 0x20000, 2⟩, back := false, t := some (100 * 10 ^ 9), checked := checked, running := running }

/-- A write is held at port 8, and core 5 has a transfer under way. -/
def tHeld : State := runWith fun c => { c with atl := { c.atl with held := [⟨8, 3, 64, some [1, 2], 2⟩] } }
def tXfer : State := runWith fun c => { c.setBcState 5 3 with brush := { c.brush with xfers := [(20, some ⟨64, 0, 2, true⟩)] } }

/-! ### Commands that are not well formed -/

/-- No fabric port 13 or 84, no offset off a word or outside BAR0. -/
theorem test_illformed_access : ([.registerWrite 84 0 0, .readClear 13 0, .registerWrite 8 2 0, .snapshotRead 8 0x4000000, .dramRead 84 0 0 64 0 0 0 false,
    .crcScanGo 8 4 0, .tsinFifoPop 8 2, .netCtrlWrite 4 8 0, .bar2Access (2 ^ 28) false [] 4] : List Instr).all (fun i => !i.wf) = true := by
  decide +kernel

/-- No mailbox pair 16, no hold register 64, no payload above the largest packet. -/
theorem test_illformed_host : ([.mbxF2hAck 8 16 0, .mbxEventPost 0 26, .mbxStall 24, .holdRelease 8 64 0,
    .ping { pk [] with transport := .mailbox 16 }, .smudgeLock { pk [] with payload := List.replicate 65529 0 }] : List Instr).all
    (fun i => !i.wf) = true := by decide +kernel

/-- No Brush core 68, no third window, no channel 4, no group 4, no staging area 5. -/
theorem test_illformed_brush : ([.bcMac 68, .brushWindowWrite 8 0 2 0 0, .xferComplete 0 4, .migrationCold 4, .atelierPost 0 5 0,
    .atelierDonePop 84] : List Instr).all (fun i => !i.wf) = true := by decide +kernel

/-- No unit, port, channel or slot that the module lacks. -/
theorem test_illformed_unit : ([.pauseQuantaExpire 4, .announceReceiptTimeout 4, .pdWakeDone 13, .tsinCapture 2 false 0 0, .pdmTransitionsReturn 16,
    .renderOverrun 9 [], .downmixChange 8, .loudnessGatingBlock 8, .muteFadeEnd 256, .tdmResume 8, .directGainChange 256, .groupChange 32,
    .streamLegLoss 256 0, .streamDefinitionApply true 256, .dramRefresh 8 0, .dramRemapStart 0 32 0 0 0, .dramRemapActivate 0 32,
    .flashRelocate 5464 false, .flashOpComplete 8 false, .crcScanDone 4, .peerReoffer 4, .updateReceptionTimeout 2, .patrolStart 5,
    .nearRowSwitch 64 0, .eyeMarginMeasure 8 0 0, .functionStall 29, .mr4TemperatureReport 8 false] : List Instr).all (fun i => !i.wf) = true := by
  decide +kernel

/-- No source that is not issued, and no frame whose fields do not fit their places. -/
theorem test_illformed_frames : ([.nonpcmHoldExpire 0xFFFF, .meterHoldExpire 0 3, .tetherPairReceive { tetherOf 2 0 0 [] with state := 256 } false,
    .tetherSwitchReceive (tetherOf 2 0 0 []) 8192, .updateResultReceive (upOf (2 ^ 31) (2 ^ 32) 0 0 [] [])] : List Instr).all
    (fun i => !i.wf) = true := by decide +kernel

/-! ### Results that the spec states -/

/-- The check values of R472 for the nine ASCII bytes "123456789". -/
theorem test_crc_check_values : let b : List Byte := [0x31, 0x32, 0x33, 0x34, 0x35, 0x36, 0x37, 0x38, 0x39]
    crcOf 0 none b = 0xCBF43926 ∧ crcOf 1 none b = 0xE3069283 ∧ crcOf 2 none b = 0x29B1 ∧ crcOf 3 none b = 0x6C40DF5F0B497347 := by
  decide +kernel

/-- R472: a scan of A and one of B that goes on from its result give the check value of A followed by B. -/
theorem test_crc_continues : crcOf 1 (some (crcOf 1 none [0x31, 0x32, 0x33, 0x34])) [0x35, 0x36, 0x37, 0x38, 0x39] = 0xE3069283 := by
  decide +kernel

/-- The instruction that R404 writes out: mac acc0,x0,y0 | ldv x0,(p0)-1 | ldb y0,(p1)+1. -/
theorem test_brush_encoding : decodeBrush 0x010080202D419000 = some (.par 1 0 0 8 0 (1, 0, 0, 11) (2, 8, 1, 9) (0, 0, 0)) := by
  decide +kernel

/-- The gain ramp that R239 works out. -/
theorem test_ramp : rampAt 0 0x100000 48 0 = 21845 ∧ rampAt 0 0x100000 48 23 = 524288 ∧ rampAt 0 0x100000 48 47 = 1048576 := by decide

/-- HOLD5 as ch. 6 tells it: CP1, port 1, finds it free and owns it, and the host then reads its owner's number. -/
theorem test_hold_taken : smGet (fun _ => none)
    ((holdAcquire 1 5 cRun).host.holds) 5 = some 1 ∧ (holdAcquire 8 5 (holdAcquire 1 5 cRun)).outbox.getLast? = some (.read 8 (R.HOST_HOLD 5) 0x80000001) := by
  decide +kernel

/-- The spherical position of ch. 7: azimuth 45°, elevation 0, 10 m. -/
theorem test_sphere : sphere 0x2000 0 81920 = (57926, 57926, 0) := by decide +kernel

/-- A state without supply in which the queue is empty, and one whose TIME block runs (IdleStepPassesOneTimeCycle). -/
theorem witness_idle : State.reset.pending = [] ∧ State.reset.core.power.step < 4 ∧
    (({ core := { power := { step := 4 } } } : State).pending = [] ∧ 4 ≤ ({ core := { power := { step := 4 } } } : State).core.power.step) := by
  decide

/-- Canonical memories with a byte listed, and a step that answers next (StepKeepsMemoryCanonical). -/
theorem witness_canonical : Memory.wf { dram := [(5, 7)], sram := [(0x9000000000, 1)] } = true ∧
    ∃ t, step { mem := { dram := [(5, 7)], sram := [(0x9000000000, 1)] } } = .next t := ⟨by decide, _, rfl⟩

/-- A quiet state and a step that answers next (StepLeavesTraceWritten). -/
theorem witness_quiet : State.reset.quiet = true ∧ ∃ t, step State.reset = .next t := ⟨by decide, _, rfl⟩

/-- States and operands that meet the hypotheses of RegisterAccessesComplete. -/
theorem witness_RegisterAccessesComplete :
    (∃ (s : State) (m off : Nat) (v : Word), let c := s.core.written ⟨m, off, v⟩ 0; s.core.serves m off = true ∧ s.quiet = true ∧
        off = R.TIME_STEP_LIMIT) ∧
    (∃ (s : State) (m off : Nat) (v : Word), let c := s.core.written ⟨m, off, v⟩ 0; s.core.serves m off = true ∧ s.quiet = true ∧
        off = R.SYS_INT_STATUS) ∧
    (∃ (s : State) (m off : Nat), s.quiet = true ∧ s.core.reaches m off = true ∧ (off = R.CLK_HOLDOVER_COUNT ∨ off =
        R.TIME_STEP_COUNT ∨ off = R.NET_RX_FCS 1 ∨ off = R.MEMC_CORRECTED)) ∧
    (∃ (s : State) (m off : Nat), s.quiet = true ∧ s.core.reaches m off = true ∧ off = R.TIME_OFFSET_LO) ∧
    (∃ (s : State) (m off : Nat), s.quiet = true ∧ s.core.reaches m off = true ∧ off = R.TIME_OFFSET_HI) ∧
    (∃ (s : State) (m : Nat) (v : Word), let c := s.core.written ⟨m, R.SYS_GATED_ACCESS, v⟩ 0; s.core.serves m R.SYS_GATED_ACCESS =
        true ∧ s.quiet = true ∧ bitOf v 31 = true) ∧
    (∃ (s : State) (m : Nat) (v : Word), let c := s.core.written ⟨m, R.HOST_BAR0_DENIED, v⟩ 0; s.core.serves m R.HOST_BAR0_DENIED =
        true ∧ s.quiet = true ∧ bitOf v 31 = true) ∧
    (∃ (s : State) (m : Nat) (v : Word), let c := s.core.written ⟨m, R.FABRIC_NO_PATH, v⟩ 0; s.core.serves m R.FABRIC_NO_PATH =
        true ∧ s.quiet = true ∧ bitOf v 31 = true) ∧
    (∃ (s : State) (env : BlockEnv), s.quiet = true ∧ s.core.clk.mediaOn = false ∧ 4 ≤ s.core.power.step) :=
  ⟨⟨tRun, 8, R.TIME_STEP_LIMIT, 99, by decide +kernel⟩,
   ⟨runWith fun c => c.put R.SYS_INT_STATUS 5, 8, R.SYS_INT_STATUS, 4, by decide +kernel⟩,
   ⟨runWith fun c => c.put R.MEMC_CORRECTED 65535, 0, R.MEMC_CORRECTED, by decide +kernel⟩,
   ⟨runWith fun c => c.put R.TIME_OFFSET_HI 0xFFFFFFFF, 8, R.TIME_OFFSET_LO, by decide +kernel⟩,
   ⟨runWith fun c => c.put R.TIME_OFFSET_HI 7, 8, R.TIME_OFFSET_HI, by decide +kernel⟩,
   ⟨runWith fun c => c.gatedAccess 8 0x200000 false, 8, 0x80000000, by decide +kernel⟩,
   ⟨runWith fun c => c.bar0Denied 0x200000, 8, 0x80000000, by decide +kernel⟩,
   ⟨runWith fun c => c.noPath 20 0 true, 0, 0x80000000, by decide +kernel⟩,
   ⟨runWith fun c => { c with clk := { c.clk with mediaOn := false } }, { cycles := 83333, pdm := [], lanes := [], fails := [], groups := [], table := [], near := [], dm := [], fec := [] }, by decide +kernel⟩⟩

/-- States and operands that meet the hypotheses of GatedAccessCounted. -/
theorem witness_GatedAccessCounted :
    (∃ (s : State) (m off : Nat) (v : Word), s.quiet = true ∧ regPath m off = true ∧ windowAssigned off = true ∧ s.core.gated off =
        true) ∧
    (∃ (s : State) (m off : Nat), s.quiet = true ∧ regPath m off = true ∧ windowAssigned off = true ∧ s.core.gated off = true) :=
  ⟨⟨runWith fun c => c.put R.CLK_EN 0, 8, R.TIME_CTRL, 1, by decide +kernel⟩,
   ⟨runWith fun c => c.put R.CLK_EN 0, 8, R.TIME_STEP_COUNT, by decide +kernel⟩⟩

/-- States and operands that meet the hypotheses of StartUpEventsComplete. -/
theorem witness_StartUpEventsComplete :
    (∃ (s : State), s.quiet = true ∧ s.core.power.vinOn = false) ∧
    (∃ (s : State) (vioSel : Bool), s.quiet = true ∧ s.core.power.vinOn = true ∧ s.core.power.step = 1) ∧
    (∃ (s : State) (boot p3 : Bool) (addr : Nat), s.quiet = true ∧ s.core.power.step = 2 ∧ s.core.deep = false ∧
        s.core.power.inReset = false) ∧
    (∃ (s : State), s.quiet = true ∧ s.core.power.step = 3 ∧ s.core.clk.tcxoOn = true ∧ s.core.power.inReset = false ∧
        s.core.power.trip = false) ∧
    (∃ (s : State) (primaryOk secondaryOk : Bool), s.quiet = true ∧ s.core.power.step = 4) ∧
    (∃ (s : State), s.quiet = true ∧ s.core.power.step = 5 ∧ s.core.power.stuck = false) ∧
    (∃ (s : State), s.quiet = true ∧ s.core.power.step = 5 ∧ s.core.power.stuck = false ∧ s.core.flag F.SYS_STRAPS_BOOT_MODE =
        false) ∧
    (∃ (s : State) (lanes : List (List Nat)), s.quiet = true ∧ s.core.power.step = 6 ∧ s.core.power.cause ≠ causeDeepWake ∧
        (((List.range 16).all fun i => !(trainLane (lanes.getD i [])).2.2.2) = true)) ∧
    (∃ (s : State) (lanes : List (List Nat)), s.quiet = true ∧ s.core.power.step = 6 ∧ s.core.power.cause ≠ causeDeepWake ∧
        (((List.range 16).any fun i => (trainLane (lanes.getD i [])).2.2.2) = true)) ∧
    (∃ (s : State), s.quiet = true ∧ s.core.power.vinOn = true ∧ 2 ≤ s.core.power.step) ∧
    (∃ (s : State) (imageOk prevOk : Bool), s.quiet = true ∧ (s.core.power.step = 7 ∨ s.core.power.step = 8) ∧ s.core.power.pgood =
        true ∧ s.core.flag F.SYS_STATUS_RECOVERY = false ∧ (imageOk || (prevOk && s.core.update.prev.isSome)) = true) ∧
    (∃ (s : State) (imageOk prevOk : Bool), s.quiet = true ∧ (s.core.power.step = 7 ∨ s.core.power.step = 8) ∧ s.core.power.pgood =
        true ∧ s.core.flag F.SYS_STATUS_RECOVERY = false ∧ (imageOk || (prevOk && s.core.update.prev.isSome)) = false) ∧
    (∃ (s : State), s.quiet = true ∧ (9 ≤ s.core.power.step ∨ s.core.flag F.SYS_STATUS_RECOVERY = true) ∧ s.core.power.perst =
        false ∧ s.core.deep = false) ∧
    (∃ (s : State) (ms : Nat), s.quiet = true ∧ (s.core.power.step = 9 ∨ s.core.power.step = 10) ∧ s.core.flag
        F.SYS_STATUS_RECOVERY = false) ∧
    (∃ (s : State), s.quiet = true ∧ s.core.clk.mediaStarted = false ∧ 11 ≤ s.core.power.step ∧ s.core.clk.pllOn = true ∧
        s.core.flag F.CLK_MEDIA_STATUS_TCXO_QUALIFIED = true) :=
  ⟨⟨State.reset, by decide +kernel⟩,
   ⟨starting 1 id, true, by decide +kernel⟩,
   ⟨starting 2 id, true, true, 3, by decide +kernel⟩,
   ⟨starting 3 id, by decide +kernel⟩,
   ⟨starting 4 id, false, true, by decide +kernel⟩,
   ⟨starting 5 id, by decide +kernel⟩,
   ⟨starting 5 id, by decide +kernel⟩,
   ⟨starting 6 id, List.replicate 16 (List.replicate 64 (2 ^ 40 - 2 ^ 10)), by decide +kernel⟩,
   ⟨starting 6 id, [], by decide +kernel⟩,
   ⟨starting 7 id, by decide +kernel⟩,
   ⟨starting 8 fun c => { c with power := { c.power with pgood := true } }, true, false, by decide +kernel⟩,
   ⟨starting 7 fun c => { c with power := { c.power with pgood := true } }, false, true, by decide +kernel⟩,
   ⟨starting 9 id, by decide +kernel⟩,
   ⟨starting 10 id, 70000, by decide +kernel⟩,
   ⟨runWith fun c => { c with clk := { c.clk with mediaOn := false, mediaStarted := false } }, by decide +kernel⟩⟩

/-- States and operands that meet the hypotheses of SupplyEventsComplete. -/
theorem witness_SupplyEventsComplete :
    (∃ (s : State), s.quiet = true ∧ s.core.power.vinOn = true ∧ 2 ≤ s.core.power.step ∧ s.core.flag F.SYS_STATUS_VIN_WARN = false)
        ∧
    (∃ (s : State), s.quiet = true ∧ 2 ≤ s.core.power.step ∧ s.core.flag F.SYS_STATUS_VIN_WARN = true) ∧
    (∃ (s : State), s.core.power.vinOn = true) ∧
    (∃ (s : State), s.quiet = true ∧ s.core.power.vinOn = true ∧ 3 ≤ s.core.power.step ∧ s.core.deep = false ∧ s.core.power.trip =
        false) ∧
    (∃ (s : State) (boot p3 : Bool) (addr : Nat), s.quiet = true ∧ s.core.power.inReset = true ∧ s.core.deep = false) ∧
    (∃ (s : State), s.quiet = true ∧ s.core.deep = true ∧ s.core.power.inReset = false) ∧
    (∃ (s : State), s.quiet = true ∧ s.core.deep = true ∧ s.core.power.inReset = false ∧ s.core.flag F.SYS_STANDBY_CTRL_WAKE_AT_EN
        = true) ∧
    (∃ (s : State), s.quiet = true ∧ s.core.power.resetDue = true) ∧
    (∃ (s : State), s.quiet = true ∧ s.core.power.vinOn = true) ∧
    (∃ (s : State), s.quiet = true) ∧
    (∃ (s : State), s.quiet = true) ∧
    (∃ (s : State) (gen width : Nat), s.quiet = true ∧ s.core.power.vinOn = true ∧ s.core.power.perst = false ∧ 1 ≤ gen ∧ gen ≤ 4 ∧
        (width = 1 ∨ width = 2 ∨ width = 4)) ∧
    (∃ (s : State) (die board : Int), s.quiet = true ∧ s.core.power.vinOn = true ∧ s.core.power.trip = false ∧ die < 1250 ∧ board <
        1200) ∧
    (∃ (s : State) (die board : Int), s.core.power.vinOn = true ∧ s.core.power.trip = false ∧ (1250 ≤ die ∨ 1200 ≤ board)) ∧
    (∃ (s : State), s.quiet = true ∧ s.core.power.holdDue = true) ∧
    (∃ (s : State), s.quiet = true ∧ s.core.flag F.SYS_STATUS_THERM_HOLD = true ∧ s.core.dieCool = true ∧ s.core.f
        F.SYS_STATUS_STATE = 1) ∧
    (∃ (s : State), s.quiet = true ∧ s.core.flag F.HOST_STATUS_RESTARTING = true) :=
  ⟨⟨tRun, by decide +kernel⟩,
   ⟨runWith fun c => c.setF F.SYS_STATUS_VIN_WARN 1, by decide +kernel⟩,
   ⟨tRun, by decide +kernel⟩,
   ⟨tRun, by decide +kernel⟩,
   ⟨starting 3 fun c => { c with power := { c.power with inReset := true } }, true, false, 2, by decide +kernel⟩,
   ⟨starting 2 fun c => c.setF F.SYS_STATUS_STATE 3, by decide +kernel⟩,
   ⟨starting 2 fun c => (c.setF F.SYS_STATUS_STATE 3).setF F.SYS_STANDBY_CTRL_WAKE_AT_EN 1, by decide +kernel⟩,
   ⟨runWith fun c => { c with power := { c.power with resetDue := true } }, by decide +kernel⟩,
   ⟨tRun, by decide +kernel⟩,
   ⟨tRun, by decide +kernel⟩,
   ⟨tRun, by decide +kernel⟩,
   ⟨tRun, 4, 4, by decide +kernel⟩,
   ⟨tRun, 1150, -400, by decide +kernel⟩,
   ⟨tRun, 1250, 0, by decide +kernel⟩,
   ⟨runWith fun c => { c with power := { c.power with holdDue := true } }, by decide +kernel⟩,
   ⟨runWith fun c => c.setF F.SYS_STATUS_THERM_HOLD 1, by decide +kernel⟩,
   ⟨runWith fun c => c.setF F.HOST_STATUS_RESTARTING 1, by decide +kernel⟩⟩

/-- States and operands that meet the hypotheses of ClockSupervisionCompletes. -/
theorem witness_ClockSupervisionCompletes :
    (∃ (s : State) (confirmed : Bool), s.quiet = true ∧ s.core.clk.tcxoOk = true ∧ s.core.flag F.CLK_MEDIA_STATUS_TCXO_QUALIFIED =
        false ∧ s.core.clk.fault = none) ∧
    (∃ (s : State), s.quiet = true ∧ s.core.refOn = true ∧ s.core.clk.refGood = true) ∧
    (∃ (s : State) (off : Int), s.quiet = true ∧ s.core.refOn = true ∧ off.natAbs ≤ s.core.f F.CLK_REF_CTRL_WINDOW * 10000) ∧
    (∃ (s : State) (off : Int), s.quiet = true ∧ s.core.refOn = true ∧ s.core.clk.refGood = true ∧ s.core.f F.CLK_REF_CTRL_WINDOW *
        10000 < off.natAbs) ∧
    (∃ (s : State), s.quiet = true ∧ s.core.refOn = true ∧ s.core.clk.refGood = true ∧ s.core.flag F.CLK_MEDIA_STATUS_REF_PRESENT =
        true ∧ s.core.flag F.CLK_MEDIA_STATUS_REF_QUALIFIED = false ∧ (s.core.f F.CLK_REF_CTRL_TYPE = 1 → 3 ≤ s.core.clk.ppsEdges))
        ∧
    (∃ (s : State), s.quiet = true ∧ s.core.clk.follow ≠ 0 ∧ s.core.refQualified s.core.clk.follow = true ∧ (s.core.clk.follow = 1
        → s.core.f F.TIME_STATUS_STATE = 3) ∧ s.core.clk.fault = none) ∧
    (∃ (s : State) (v : Word), let c := s.core.written ⟨8, R.CLK_MEDIA_CTRL, v⟩ 0x1F3; s.core.serves 8 R.CLK_MEDIA_CTRL = true ∧
        s.quiet = true ∧ bitsOf v 5 5 = c.f F.CLK_MEDIA_CTRL_SRC ∧ ¬(c.f F.CLK_MEDIA_CTRL_SRC = 1 ∧ c.f F.CLK_MEDIA_CTRL_FAMILY =
        1) ∧ rateIssued (c.f F.CLK_MEDIA_CTRL_FAMILY) (c.f F.CLK_MEDIA_CTRL_MULT) (c.f F.CLK_MEDIA_CTRL_LL) = true) ∧
    (∃ (s : State), s.quiet = true ∧ s.core.power.vinOn = true ∧ 4 ≤ s.core.power.step ∧ s.core.deep = false) ∧
    (∃ (s : State), s.quiet = true ∧ s.core.power.vinOn = true ∧ 5 ≤ s.core.power.step ∧ s.core.deep = false) ∧
    (∃ (s : State) (port : Nat), s.quiet = true ∧ port < 4) ∧
    (∃ (s : State), s.quiet = true) ∧
    (∃ (s : State), s.quiet = true) ∧
    (∃ (s : State), s.quiet = true) ∧
    (∃ (s : State) (m : Nat) (v : Word), let c := s.core.written ⟨m, R.CLK_SWITCH, v⟩ 0x80000000; s.core.serves m R.CLK_SWITCH =
        true ∧ s.quiet = true ∧ bitOf v 31 = true) ∧
    (∃ (s : State) (m : Nat) (v : Word), let c := s.core.written ⟨m, R.CLK_MEDIA_CTRL, v⟩ 0x1F3; s.core.serves m R.CLK_MEDIA_CTRL =
        true ∧ s.quiet = true ∧ m ≤ 3 ∧ ¬(bitsOf v 5 5 = 1 ∧ bitsOf v 4 4 = 1) ∧ rateIssued (bitsOf v 4 4) (bitsOf v 7 6) (bitsOf v
        8 8) = true ∧ bitsOf v 1 0 = c.f F.CLK_MEDIA_CTRL_DREF ∧ ¬(bitsOf v 4 4 = c.f F.CLK_MEDIA_CTRL_FAMILY ∧ bitsOf v 7 6 = c.f
        F.CLK_MEDIA_CTRL_MULT ∧ bitsOf v 8 8 = c.f F.CLK_MEDIA_CTRL_LL ∧ bitsOf v 5 5 = c.f F.CLK_MEDIA_CTRL_SRC) ∧ s.core.clk.sw =
        none ∧ s.core.clk.mediaOn = true) ∧
    (∃ (s : State) (x : MediaSwitch), s.quiet = true ∧ s.core.clk.sw = some x ∧ x.done = false ∧ x.b ≤ s.core.time.n ∧
        s.core.clk.mediaOn = true) :=
  ⟨⟨runWith fun c => c.setF F.CLK_MEDIA_STATUS_TCXO_QUALIFIED 0, true, by decide +kernel⟩,
   ⟨runWith fun c => { c with clk := { c.clk with refGood := true } }.setF F.CLK_REF_CTRL_EN 1, by decide +kernel⟩,
   ⟨runWith fun c => c.setF F.CLK_REF_CTRL_EN 1, -10000, by decide +kernel⟩,
   ⟨runWith fun c => { c with clk := { c.clk with refGood := true } }.setF F.CLK_REF_CTRL_EN 1, 1000001, by decide +kernel⟩,
   ⟨runWith fun c => ({ c with clk := { c.clk with refGood := true, ppsEdges := 3 } }.put R.CLK_REF_CTRL 0x0A03).setF F.CLK_MEDIA_STATUS_REF_PRESENT 1, by decide +kernel⟩,
   ⟨runWith fun c => { c with clk := { c.clk with follow := 2 } }.setF F.CLK_MEDIA_STATUS_REF_QUALIFIED 1, by decide +kernel⟩,
   ⟨tRun, 2, by decide +kernel⟩,
   ⟨tRun, by decide +kernel⟩,
   ⟨tRun, by decide +kernel⟩,
   ⟨tRun, 3, by decide +kernel⟩,
   ⟨tRun, by decide +kernel⟩,
   ⟨tRun, by decide +kernel⟩,
   ⟨tRun, by decide +kernel⟩,
   ⟨tRun, 8, 0x80000012, by decide +kernel⟩,
   ⟨tRun, 0, 0x40, by decide +kernel⟩,
   ⟨runWith fun c => { c with clk := { c.clk with sw := some { family := 0, mult := 1, ll := 0, src := 0, b := 4800, tok := none } } }, { family := 0, mult := 1, ll := 0, src := 0, b := 4800, tok := none }, by decide +kernel⟩⟩

/-- States and operands that meet the hypotheses of ClockGatingCompletes. -/
theorem witness_ClockGatingCompletes :
    (∃ (s : State) (m k : Nat) (v : Word), let c := s.core.written ⟨m, R.CLK_EN, v⟩ 0xFFFFFFFF; s.core.serves m R.CLK_EN = true ∧
        s.quiet = true ∧ k = 0) ∧
    (∃ (s : State) (m k : Nat) (v : Word), let c := s.core.written ⟨m, clkEnReg k, v⟩ 0xFFFFFFFF; s.core.serves m (clkEnReg k) =
        true ∧ s.quiet = true ∧ 1 ≤ k ∧ k ≤ 3 ∧ m ≠ 8) ∧
    (∃ (s : State) (pd : Nat), s.quiet = true ∧ pd ≤ 12 ∧ s.core.flag ⟨R.SYS_PD_WAKING, pd, pd⟩ = true) ∧
    (∃ (s : State) (m n : Nat) (v : Word), let c := s.core.written ⟨m, clkoutReg n, v⟩ 0; s.core.serves m (clkoutReg n) = true ∧
        s.quiet = true ∧ n < 2 ∧ c.clkoutSet n ≠ smGet (fun _ => (0, 0, 2)) s.core.clk.clkout n) ∧
    (∃ (s : State) (err : Int) (fsyncOk : Bool), s.quiet = true ∧ s.core.f F.CLK_AON_TRIM_CTRL_SRC = 1 ∧ s.core.clk.tcxoOn = true ∧
        100 < err ∧ 1 ≤ s.core.f F.CLK_AON_TRIM_CODE) ∧
    (∃ (s : State) (err : Int) (fsyncOk : Bool), s.quiet = true ∧ s.core.f F.CLK_AON_TRIM_CTRL_SRC = 1 ∧ s.core.clk.tcxoOn = true ∧
        err < -100) ∧
    (∃ (s : State) (err : Int) (fsyncOk : Bool), s.quiet = true ∧ s.core.f F.CLK_AON_TRIM_CTRL_SRC = 2 ∧ fsyncOk = false) :=
  ⟨⟨tRun, 8, 0, 0x1FFFDF, by decide +kernel⟩,
   ⟨tRun, 0, 3, 0xFF, by decide +kernel⟩,
   ⟨runWith fun c => c.put R.SYS_PD_WAKING 0x800, 11, by decide +kernel⟩,
   ⟨tRun, 8, 1, 0x401, by decide +kernel⟩,
   ⟨runWith fun c => { c with regs := (R.CLK_AON_TRIM, 512) :: (c.setF F.CLK_AON_TRIM_CTRL_SRC 1).regs }, 101, false, by decide +kernel⟩,
   ⟨runWith fun c => { c with regs := (R.CLK_AON_TRIM, 1023) :: (c.setF F.CLK_AON_TRIM_CTRL_SRC 1).regs }, -101, false, by decide +kernel⟩,
   ⟨runWith fun c => c.setF F.CLK_AON_TRIM_CTRL_SRC 2, 0, false, by decide +kernel⟩⟩

/-- States and operands that meet the hypotheses of PtpMessagesComplete. -/
theorem witness_PtpMessagesComplete :
    (∃ (s : State) (port domain : Nat) (l : Leader), s.quiet = true ∧ s.core.armed 1 = false ∧ s.core.ptpOn port = true ∧
        s.core.domainOk domain = true ∧ l.sender ≠ Config.ptpIdentity.toNat) ∧
    (∃ (s : State) (port domain sender seq : Nat) (twoStep : Bool) (t1 corr t2 : Int), s.quiet = true ∧ s.core.armed 1 = false ∧
        s.core.armed 4 = false ∧ s.core.ptpOn port = true ∧ s.core.domainOk domain = true ∧ (s.core.ptpPort port).state = .follower
        ∧ (s.core.ptpPort port).leader.map (·.sender) = some sender ∧ twoStep = true) ∧
    (∃ (s : State) (port domain sender seq : Nat) (t1 corr t2 cs : Int), s.quiet = true ∧ s.core.armed 1 = false ∧ s.core.ptpOn
        port = true ∧ s.core.domainOk domain = true ∧ (s.core.ptpPort port).state = .follower ∧ (s.core.ptpPort port).leader.map
        (·.sender) = some sender ∧ (s.core.ptpPort port).sync = some (seq, t2, cs)) ∧
    (∃ (s : State) (port : Nat) (t3 : Int), s.quiet = true ∧ s.core.ptpOn port = true ∧ (s.core.ptpPort port).state = .follower) ∧
    (∃ (s : State) (port domain sender seq : Nat) (t4 corr interval t3 d : Int), s.quiet = true ∧ s.core.armed 1 = false ∧
        s.core.ptpOn port = true ∧ s.core.domainOk domain = true ∧ (s.core.ptpPort port).leader.map (·.sender) = some sender ∧
        (s.core.ptpPort port).req = some (seq, t3) ∧ (s.core.ptpPort port).down = some d) ∧
    (∃ (s : State) (port domain sender seq : Nat) (t4 : Int), s.quiet = true ∧ s.core.armed 1 = false ∧ s.core.armed 4 = false ∧
        s.core.ptpOn port = true ∧ s.core.domainOk domain = true ∧ (s.core.ptpPort port).state = .leader ∧ s.core.flag
        (F.NET_STATUS_LINK_UP port) = true ∧ 100 ≤ s.core.f (F.NET_MAX_FRAME_BYTES port)) ∧
    (∃ (s : State) (port : Nat), s.quiet = true ∧ s.core.ptpOn port = true ∧ (s.core.ptpPort port).state = .leader ∧ s.core.flag
        (F.NET_STATUS_LINK_UP port) = true ∧ 110 ≤ s.core.f (F.NET_MAX_FRAME_BYTES port)) ∧
    (∃ (s : State) (port : Nat) (t1 : Int), s.quiet = true ∧ s.core.ptpOn port = true ∧ (s.core.ptpPort port).state = .leader ∧
        s.core.flag (F.NET_STATUS_LINK_UP port) = true ∧ 90 ≤ s.core.f (F.NET_MAX_FRAME_BYTES port)) ∧
    (∃ (s : State) (port : Nat), s.quiet = true ∧ s.core.ptpOn port = true ∧ s.core.flag F.TIME_CTRL_FOLLOWER_ONLY = true) ∧
    (∃ (s : State), s.quiet = true ∧ s.core.time.active.isSome = true ∧ s.core.time.lost = false) ∧
    (∃ (s : State), s.quiet = true ∧ s.core.f F.TIME_STATUS_STATE = 2 ∧ s.core.refQualified 1 = true) ∧
    (∃ (s : State), s.quiet = true ∧ s.core.f F.TIME_STATUS_STATE = 3) :=
  ⟨⟨runWith fun c => (c.put R.TIME_CTRL 0x11), 0, 0, { prio1 := 128, cls := 6, accuracy := 0x21, variance := 0x4E5D, prio2 := 128, gm := 7, sender := 2 ^ 64, steps := 0, interval := 1, timeSource := 0x20, at_ := 0, qualified := true }, ⟨by decide, by decide +kernel, by decide +kernel, by decide +kernel, Nat.ne_of_gt Config.ptpIdentity.isLt⟩⟩,
   ⟨tFollower, 0, 0, 9, 4, true, 0, -5, 100, by decide +kernel⟩,
   ⟨tFollower, 0, 0, 9, 3, 10, 2, 70, 1, by decide +kernel⟩,
   ⟨tFollower, 0, 50, by decide +kernel⟩,
   ⟨tFollower, 0, 0, 9, 2, 90, 0, -4, 30, 60, by decide +kernel⟩,
   ⟨tLeader, 1, 0, 9, 2, 90, by decide +kernel⟩,
   ⟨tLeader, 1, by decide +kernel⟩,
   ⟨tLeader, 1, 4, by decide +kernel⟩,
   ⟨runWith fun c => c.put R.TIME_CTRL 0x15, 0, by decide +kernel⟩,
   ⟨tFollower, by decide +kernel⟩,
   ⟨tFollower, by decide +kernel⟩,
   ⟨runWith fun c => c.setF F.TIME_STATUS_STATE 3, by decide +kernel⟩⟩

/-- States and operands that meet the hypotheses of TimeCommandsComplete. -/
theorem witness_TimeCommandsComplete :
    (∃ (s : State) (m : Nat) (v : Word), let c := s.core.written ⟨m, R.TIME_STEP_ACCEPT, (withBits v 0 0 1)⟩ 0x80000000;
        s.core.serves m R.TIME_STEP_ACCEPT = true ∧ s.quiet = true ∧ bitOf v 31 = true ∧ s.core.flag F.TIME_STATUS_JUMP_REFUSED =
        true ∧ s.core.time.realign = none ∧ s.core.time.refused.natAbs ≤ 1000000 * 65536) ∧
    (∃ (s : State) (m : Nat) (v : Word), let c := s.core.written ⟨m, R.TIME_STEP_ACCEPT, (withBits v 0 0 0)⟩ 0x80000000;
        s.core.serves m R.TIME_STEP_ACCEPT = true ∧ s.quiet = true ∧ bitOf v 31 = true ∧ s.core.flag F.TIME_STATUS_JUMP_REFUSED =
        true ∧ s.core.time.realign = none ∧ s.core.clk.mediaOn = true) ∧
    (∃ (s : State) (x : Realign), s.quiet = true ∧ s.core.time.realign = some x ∧ s.core.clk.mediaOn = true ∧ x.b ≤ s.core.time.n)
        ∧
    (∃ (s : State) (m : Nat) (v : Word), let c := s.core.written ⟨m, R.TIME_CTRL, v⟩ 0; s.core.serves m R.TIME_CTRL = true ∧
        s.quiet = true) ∧
    (∃ (s : State) (p : Packet), let c := s.core.offered opTimeConfig p; let r := reqOf opTimeConfig p; s.core.admits opTimeConfig
        p = true ∧ s.quiet = true ∧ noReserved (r.w 0) 0x00FF03F7 = true ∧ noReserved (r.w 1) 0x3FFFFFFF = true ∧ noReserved (r.w
        2) 0x0001FFFF = true) ∧
    (∃ (s : State) (p : Packet), let c := s.core.offered opTimeStatus p; let r := reqOf opTimeStatus p; s.core.admits opTimeStatus
        p = true ∧ s.quiet = true) ∧
    (∃ (s : State) (p : Packet), let c := s.core.offered opTimeStepAccept p; let r := reqOf opTimeStepAccept p; s.core.admits
        opTimeStepAccept p = true ∧ s.quiet = true ∧ c.flag F.TIME_STATUS_JUMP_REFUSED = true ∧ c.time.realign = none ∧ bitOf (r.w
        0) 0 = true ∧ c.time.refused.natAbs ≤ 1000000 * 65536) ∧
    (∃ (s : State) (p : Packet), let c := s.core.offered opTimeStepAccept p; let r := reqOf opTimeStepAccept p; s.core.admits
        opTimeStepAccept p = true ∧ s.quiet = true ∧ c.flag F.TIME_STATUS_JUMP_REFUSED = true ∧ c.time.realign = none ∧ bitOf (r.w
        0) 0 = false ∧ c.clk.mediaOn = true) ∧
    (∃ (s : State) (p : Packet), let c := s.core.offered opTimeSet p; let r := reqOf opTimeSet p; s.core.admits opTimeSet p = true
        ∧ s.quiet = true ∧ c.f F.TIME_STATUS_STATE ≠ 3 ∧ r.n 2 < 10 ^ 9 ∧ r.n 1 < 65536 ∧ c.clk.mediaOn = false) ∧
    (∃ (s : State) (p : Packet), let c := s.core.offered opPulseProgram p; let r := reqOf opPulseProgram p; s.core.admits
        opPulseProgram p = true ∧ s.quiet = true ∧ r.n 0 ≤ 3 ∧ noReserved (r.w 1) 2 = true ∧ noReserved (r.w 4) 0xFFFF = true ∧
        noReserved (r.w 6) 0x3FFFFFFF = true) ∧
    (∃ (s : State) (p : Packet) (x : Capture), let c := s.core.offered opTsinRead p; let r := reqOf opTsinRead p; s.core.admits
        opTsinRead p = true ∧ s.quiet = true ∧ r.n 0 ≤ 1 ∧ 1 ≤ r.n 1 ∧ r.n 1 ≤ 16 ∧ c.captures (r.n 0) = [x]) ∧
    (∃ (s : State) (m n : Nat) (v : Word), let c := s.core.written ⟨m, (R.TIME_PULSE_CTRL n), (withBits v 0 0 1)⟩ 5; s.core.serves
        m ((R.TIME_PULSE_CTRL n)) = true ∧ s.quiet = true ∧ n < 4 ∧ bitOf v 2 = false ∧ c.flag (F.TIME_PULSE_CTRL_MODE n) = false ∧
        20 ≤ c.f (F.TIME_PULSE_WIDTH_NS_WIDTH n) ∧ c.f (F.TIME_PULSE_WIDTH_NS_WIDTH n) ≤ 10 ^ 9 ∧ c.time.ptp ≤ (c.get
        (R.TIME_PULSE_START_NS n)).toNat * 2 ^ 32) ∧
    (∃ (s : State) (m n : Nat) (v : Word) (q : Pulse), let c := s.core.written ⟨m, (R.TIME_PULSE_CTRL n), (withBits v 2 2 1)⟩ 5;
        s.core.serves m ((R.TIME_PULSE_CTRL n)) = true ∧ s.quiet = true ∧ n < 4 ∧ bitOf v 0 = false ∧ smGet (fun _ => none)
        s.core.time.pulses n = some q ∧ q.high = none) ∧
    (∃ (s : State) (n : Nat) (q : Pulse), s.quiet = true ∧ smGet (fun _ => none) s.core.time.pulses n = some q ∧ q.high = none) ∧
    (∃ (s : State) (n : Nat) (rising : Bool) (off phase : Nat), s.quiet = true ∧ n < 2 ∧ bitOf (s.core.get (R.TIME_TSIN_CTRL n))
        (if rising then 0 else 1) = true ∧ (s.core.captures n).length < 16) ∧
    (∃ (s : State) (n : Nat) (rising : Bool) (off phase : Nat), s.quiet = true ∧ n < 2 ∧ bitOf (s.core.get (R.TIME_TSIN_CTRL n))
        (if rising then 0 else 1) = true ∧ 16 ≤ (s.core.captures n).length) ∧
    (∃ (s : State) (m n : Nat) (x : Capture) (xs : List Capture), s.quiet = true ∧ n < 2 ∧ s.core.reaches m (R.TIME_TSIN_TS_FRAC n)
        = true ∧ s.core.captures n = x :: xs) ∧
    (∃ (s : State), s.quiet = true ∧ s.core.clk.pllOn = true ∧ s.core.gated R.TIME_STATUS = false) :=
  ⟨⟨tRefused, 8, 0x80000000, by decide +kernel⟩,
   ⟨tRefused, 8, 0x80000001, by decide +kernel⟩,
   ⟨runWith fun c => { c with time := { c.time with realign := some ⟨4800, 5⟩, ptp := 2 ^ 70 } }, ⟨4800, 5⟩, by decide +kernel⟩,
   ⟨tFollower, 8, 0, by decide +kernel⟩,
   ⟨tRun, pk [0x11, 1000, 0x8080, 1, 2, 3, 4], by decide +kernel⟩,
   ⟨tRun, pk [], by decide +kernel⟩,
   ⟨tRefused, pk [1], by decide +kernel⟩,
   ⟨tRefused, pk [0], by decide +kernel⟩,
   ⟨runWith fun c => { c with clk := { c.clk with mediaOn := false } }, pk [5, 0xFFFF, 999999999], by decide +kernel⟩,
   ⟨tRun, pk [3, 2, 9, 8, 7, 6, 5], by decide +kernel⟩,
   ⟨tCaptured, pk [1, 16], ⟨65536, 4805, 300, 2⟩, by decide +kernel⟩,
   ⟨runWith fun c => ((c.put (R.TIME_PULSE_WIDTH_NS 3) 20).put (R.TIME_PULSE_START_NS 3) 7), 8, 3, 0, by decide +kernel⟩,
   ⟨tPulsing, 8, 2, 0, ⟨true, 100, 1000, 50, 3, none, false⟩, by decide +kernel⟩,
   ⟨tPulsing, 2, ⟨true, 100, 1000, 50, 3, none, false⟩, by decide +kernel⟩,
   ⟨runWith fun c => c.put (R.TIME_TSIN_CTRL 1) 2, 1, false, 15, 65535, by decide +kernel⟩,
   ⟨runWith fun c => (c.setCaptures 0 (List.replicate 16 ⟨0, 0, 0, 0⟩)).put (R.TIME_TSIN_CTRL 0) 1, 0, true, 0, 0, by decide +kernel⟩,
   ⟨tCaptured, 8, 1, ⟨65536, 4805, 300, 2⟩, [], by decide +kernel⟩,
   ⟨tRun, by decide +kernel⟩⟩

/-- States and operands that meet the hypotheses of ResetsAndStandbyComplete. -/
theorem witness_ResetsAndStandbyComplete :
    (∃ (s : State) (m : Nat) (v : Word), let c := s.core.written ⟨m, R.SYS_RESET_CTRL, (withBits v 0 0 0)⟩ 0x80000000;
        s.core.serves m R.SYS_RESET_CTRL = true ∧ s.quiet = true ∧ bitOf v 31 = true ∧ s.core.mediaChanging = false ∧ s.core.flag
        F.HOST_STATUS_RESTARTING = false) ∧
    (∃ (s : State) (m : Nat) (v : Word), let c := s.core.written ⟨m, R.SYS_RESET_CTRL, (withBits v 0 0 1)⟩ 0x80000000;
        s.core.serves m R.SYS_RESET_CTRL = true ∧ s.quiet = true ∧ bitOf v 31 = true ∧ s.core.mediaChanging = false) ∧
    (∃ (s : State) (m : Nat) (v : Word), let c := s.core.written ⟨m, R.SYS_FUNC_RESET, v⟩ 0x80000000; s.core.serves m
        R.SYS_FUNC_RESET = true ∧ s.quiet = true ∧ bitOf v 31 = true ∧ (c.f F.SYS_FUNC_RESET_FUNC ≤ 10 ∨ 24 ≤ c.f
        F.SYS_FUNC_RESET_FUNC) ∧ c.f F.SYS_FUNC_RESET_FUNC ≤ 28 ∧ s.core.power.funcReset = none ∧ s.core.flag
        F.HOST_STATUS_RESTARTING = false ∧ s.core.pdOn (funcPd (c.f F.SYS_FUNC_RESET_FUNC)) = true) ∧
    (∃ (s : State) (m : Nat) (v : Word), let c := s.core.written ⟨m, R.SYS_FUNC_RESET, v⟩ 0x80000000; s.core.serves m
        R.SYS_FUNC_RESET = true ∧ s.quiet = true ∧ bitOf v 31 = true ∧ 28 < c.f F.SYS_FUNC_RESET_FUNC) ∧
    (∃ (s : State) (ok : Bool), s.quiet = true ∧ s.core.power.funcReset.isSome = true) ∧
    (∃ (s : State) (m : Nat) (v : Word), let c := s.core.written ⟨m, R.SYS_STANDBY_CTRL, (withBits v 1 0 0)⟩ 0x80000000;
        s.core.serves m R.SYS_STANDBY_CTRL = true ∧ s.quiet = true ∧ bitOf v 31 = true ∧ s.core.twinned = false ∧
        s.core.power.standby = none ∧ s.core.power.funcReset = none ∧ s.core.mediaChanging = false ∧ s.core.f F.SYS_STATUS_STATE =
        2 ∧ s.core.clk.mediaOn = true) ∧
    (∃ (s : State) (m : Nat) (v : Word), let c := s.core.written ⟨m, R.SYS_STANDBY_CTRL, (withBits v 1 0 1)⟩ 0x80000000;
        s.core.serves m R.SYS_STANDBY_CTRL = true ∧ s.quiet = true ∧ bitOf v 31 = true ∧ s.core.twinned = false ∧
        s.core.power.standby = none ∧ s.core.power.funcReset = none ∧ s.core.mediaChanging = false ∧ s.core.f F.SYS_STATUS_STATE =
        1 ∧ s.core.clk.mediaOn = true) ∧
    (∃ (s : State) (m : Nat) (v : Word), let c := s.core.written ⟨m, R.SYS_STANDBY_CTRL, (withBits v 1 0 2)⟩ 0x80000000;
        s.core.serves m R.SYS_STANDBY_CTRL = true ∧ s.quiet = true ∧ bitOf v 31 = true ∧ s.core.twinned = false ∧
        s.core.power.standby = none ∧ s.core.power.funcReset = none ∧ s.core.mediaChanging = false) ∧
    (∃ (s : State) (b : Nat), s.quiet = true ∧ s.core.power.standby = some (.entering b) ∧ b ≤ s.core.time.n) ∧
    (∃ (s : State), s.quiet = true ∧ s.core.power.standby = some .leaving) ∧
    (∃ (s : State), s.quiet = true ∧ s.core.power.standby = some .deepEntering) ∧
    (∃ (s : State) (m : Nat) (v : Word), let c := s.core.written ⟨m, R.SYS_OUTPUT_RELEASE, v⟩ 1; s.core.serves m
        R.SYS_OUTPUT_RELEASE = true ∧ s.quiet = true ∧ bitOf v 0 = true ∧ c.flag F.SYS_STATUS_OUTPUT_HELD = true) :=
  ⟨⟨tRun, 8, 0x80000001, by decide +kernel⟩,
   ⟨tRun, 8, 0x80000000, by decide +kernel⟩,
   ⟨tRun, 8, 0x80000018, by decide +kernel⟩,
   ⟨tRun, 8, 0x8000001D, by decide +kernel⟩,
   ⟨runWith fun c => { c with power := { c.power with funcReset := some { code := 24, tok := none } } }, true, by decide +kernel⟩,
   ⟨runWith fun c => c.setF F.SYS_STATUS_STATE 2, 8, 0x80000002, by decide +kernel⟩,
   ⟨tRun, 8, 0x80000000, by decide +kernel⟩,
   ⟨tRun, 8, 0x80000000, by decide +kernel⟩,
   ⟨runWith fun c => { c with power := { c.power with standby := some (.entering 4800) } }, 4800, by decide +kernel⟩,
   ⟨runWith fun c => { c with power := { c.power with standby := some .leaving } }.setF F.SYS_STATUS_STATE 2, by decide +kernel⟩,
   ⟨runWith fun c => { c with power := { c.power with standby := some .deepEntering } }, by decide +kernel⟩,
   ⟨runWith fun c => c.setF F.SYS_STATUS_OUTPUT_HELD 1, 8, 1, by decide +kernel⟩⟩

/-- States and operands that meet the hypotheses of SystemOpcodesComplete. -/
theorem witness_SystemOpcodesComplete :
    (∃ (s : State) (p : Packet), let c := s.core.offered opSysState p; let r := reqOf opSysState p; s.core.admits opSysState p =
        true ∧ s.quiet = true) ∧
    (∃ (s : State) (p : Packet), let c := s.core.offered opSysStandby p; let r := reqOf opSysStandby p; s.core.admits opSysStandby
        p = true ∧ s.quiet = true ∧ r.n 0 = 1 ∧ c.twinned = false ∧ c.power.standby = none ∧ c.power.funcReset = none ∧
        c.mediaChanging = false ∧ c.f F.SYS_STATUS_STATE = 1 ∧ c.clk.mediaOn = true) ∧
    (∃ (s : State) (p : Packet), let c := s.core.offered opSysRestart p; let r := reqOf opSysRestart p; s.core.admits opSysRestart
        p = true ∧ s.quiet = true ∧ r.n 0 = 1 ∧ c.mediaChanging = false ∧ c.power.restartDue = false) ∧
    (∃ (s : State) (p : Packet), let c := s.core.offered opSysRestart p; let r := reqOf opSysRestart p; s.core.admits opSysRestart
        p = true ∧ s.quiet = true ∧ r.n 0 = 0 ∧ c.mediaChanging = false) ∧
    (∃ (s : State) (p : Packet), let c := s.core.offered opFuncReset p; let r := reqOf opFuncReset p; s.core.admits opFuncReset p =
        true ∧ s.quiet = true ∧ r.n 0 ≤ 7 ∧ r.n 1 = 0 ∧ c.power.funcReset = none ∧ c.pdOn 3 = true) ∧
    (∃ (s : State) (p : Packet), let c := s.core.offered opWakeTol p; let r := reqOf opWakeTol p; s.core.admits opWakeTol p = true
        ∧ s.quiet = true ∧ (∀ k : Nat, k < 12 → r.n k ≤ 0x3FFFFFF)) ∧
    (∃ (s : State) (p : Packet), let c := s.core.offered opOutputRelease p; let r := reqOf opOutputRelease p; s.core.admits
        opOutputRelease p = true ∧ s.quiet = true ∧ c.flag F.SYS_STATUS_OUTPUT_HELD = true) ∧
    (∃ (s : State) (p : Packet), let c := s.core.offered opStartConfig p; let r := reqOf opStartConfig p; s.core.admits
        opStartConfig p = true ∧ s.quiet = true ∧ noReserved (r.w 0) 3 = true ∧ c.flag F.SYS_STATUS_VIN_WARN = false) ∧
    (∃ (s : State) (p : Packet), let c := s.core.offered opMediaRate p; let r := reqOf opMediaRate p; s.core.admits opMediaRate p =
        true ∧ s.quiet = true ∧ noReserved (r.w 0) 0xF = true ∧ rateIssued (bitsOf (r.w 0) 0 0) (bitsOf (r.w 0) 2 1) (bitsOf (r.w
        0) 3 3) = true ∧ bitsOf (r.w 0) 0 0 = c.clk.family ∧ bitsOf (r.w 0) 2 1 = c.clk.mult ∧ bitsOf (r.w 0) 3 3 = c.clk.ll ∧
        c.clk.sw = none) ∧
    (∃ (s : State) (p : Packet), let c := s.core.offered opMediaRate p; let r := reqOf opMediaRate p; s.core.admits opMediaRate p =
        true ∧ s.quiet = true ∧ noReserved (r.w 0) 0xF = true ∧ rateIssued (bitsOf (r.w 0) 0 0) (bitsOf (r.w 0) 2 1) (bitsOf (r.w
        0) 3 3) = true ∧ ¬(bitsOf (r.w 0) 0 0 = c.clk.family ∧ bitsOf (r.w 0) 2 1 = c.clk.mult ∧ bitsOf (r.w 0) 3 3 = c.clk.ll) ∧
        c.flag F.SYS_STATUS_VIN_WARN = false ∧ c.mediaChanging = false ∧ c.rateBusy = false ∧ c.rateForbidden = false ∧ ¬(bitsOf
        (r.w 0) 0 0 = 1 ∧ c.clk.src = 1) ∧ c.rateAdmits (bitsOf (r.w 0) 0 0) (bitsOf (r.w 0) 2 1) (bitsOf (r.w 0) 3 3) = true ∧
        c.clk.mediaOn = true) :=
  ⟨⟨tRun, pk [], by decide +kernel⟩,
   ⟨tRun, pk [1, 0, 0], by decide +kernel⟩,
   ⟨tRun, pk [1], by decide +kernel⟩,
   ⟨tRun, pk [0], by decide +kernel⟩,
   ⟨tRun, pk [7, 0], by decide +kernel⟩,
   ⟨tRun, pk [1, 2, 3, 4, 5, 6, 7, 8, 9, 10, 11, 0x3FFFFFF], by decide +kernel⟩,
   ⟨runWith fun c => c.setF F.SYS_STATUS_OUTPUT_HELD 1, pk [], by decide +kernel⟩,
   ⟨tRun, pk [2], by decide +kernel⟩,
   ⟨tRun, pk [0], by decide +kernel⟩,
   ⟨tRun, pk [2], by decide +kernel⟩⟩

/-- States and operands that meet the hypotheses of SmbusPortCompletes. -/
theorem witness_SmbusPortCompletes :
    (∃ (s : State) (addr code extra : Nat) (d : List Byte), s.quiet = true ∧ s.core.smbusOn = true ∧ addr = s.core.smbusAddr ∧
        s.core.smbusData code = some d) ∧
    (∃ (s : State) (addr code extra : Nat) (d : List Byte), s.quiet = true ∧ s.core.smbusOn = true ∧ addr = s.core.smbusAddr ∧
        s.core.smbusData code = some d) ∧
    (∃ (s : State) (addr code extra : Nat), s.quiet = true ∧ s.core.smbusOn = true ∧ addr = s.core.smbusAddr ∧ 8 ≤ code) ∧
    (∃ (s : State) (addr : Nat), s.quiet = true ∧ s.core.smbusOn = true ∧ addr = s.core.smbusAddr) ∧
    (∃ (s : State), s.quiet = true ∧ s.core.smbusOn = true ∧ s.core.power.alert = true) ∧
    (∃ (s : State) (vin pin : Nat), s.quiet = true ∧ s.core.power.vinOn = true) ∧
    (∃ (s : State) (reg : Nat), s.quiet = true ∧ s.core.power.vinOn = true ∧ s.core.power.perst = false ∧
        s.core.power.endpointReady = true ∧ reg = 0) ∧
    (∃ (s : State) (reg : Nat), s.quiet = true ∧ s.core.power.vinOn = true ∧ s.core.power.perst = false ∧
        s.core.power.endpointReady = false) :=
  ⟨⟨tRun, 0x58, 0, 2, [0xB1, 0x00], by decide +kernel⟩,
   ⟨tRun, 0x58, 1, 0, [0x20, 0x51], by decide +kernel⟩,
   ⟨tRun, 0x58, 8, 0, by decide +kernel⟩,
   ⟨tRun, 0x58, by decide +kernel⟩,
   ⟨runWith fun c => { c with power := { c.power with alert := true } }, by decide +kernel⟩,
   ⟨tRun, 65536, 0, by decide +kernel⟩,
   ⟨tRun, 0, by decide +kernel⟩,
   ⟨runWith fun c => { c with power := { c.power with endpointReady := false } }, 8, by decide +kernel⟩⟩

/-- States and operands that meet the hypotheses of HostRingsAndSessionsComplete. -/
theorem witness_HostRingsAndSessionsComplete :
    (∃ (s : State) (src ident offset : Nat) (bytes : List Byte) (more : Bool), s.quiet = true ∧ s.core.host.reasm = [] ∧ offset = 0
        ∧ more = false ∧ bytes.length ≤ 4112) ∧
    (∃ (s : State) (src ident : Nat), s.quiet = true) ∧
    (∃ (s : State) (m : Nat) (v : Word) (bytes : List Byte), let c := s.core.written ⟨m, R.HOST_CMD_PROD, v⟩ 0; s.core.serves m
        R.HOST_CMD_PROD = true ∧ s.quiet = true ∧ c.flag F.HOST_CMD_SIZE_EN = true ∧ (c.f F.HOST_CMD_PROD_INDEX + ringSlots (c.get
        R.HOST_CMD_SIZE) - c.f F.HOST_CMD_CONS_INDEX % ringSlots (c.get R.HOST_CMD_SIZE)) % ringSlots (c.get R.HOST_CMD_SIZE) = 1 ∧
        s.core.host.unread = [] ∧ s.core.host.held = [] ∧ bytes.length = 64 ∧ headSlots bytes = 1) ∧
    (∃ (s : State) (m : Nat) (v : Word) (x : Msg), let c := s.core.written ⟨m, R.HOST_RPL_CONS, v⟩ 0; s.core.serves m
        R.HOST_RPL_CONS = true ∧ s.quiet = true ∧ s.core.host.held = [x] ∧ s.core.host.unread = [] ∧ c.ringFits x = true) ∧
    (∃ (s : State) (num : Nat) (x : Session), s.quiet = true ∧ s.core.session? num = some x ∧ isUdp x.transport = true) ∧
    (∃ (s : State) (p : Packet) (num : Nat), s.quiet = true ∧ isPcie p.transport = true ∧ s.core.easelAnswers = true ∧
        (s.core.popRing 0x0100 p).arrival 0x0100 p = .take ∧ (s.core.offered { code := 0x0100 } p).openCheck p = .ok ∧
        (s.core.offered { code := 0x0100 } p).nextSession = some num) ∧
    (∃ (s : State) (p : Packet), let c := s.core.offered opSessionClose p; let r := reqOf opSessionClose p; s.core.admits
        opSessionClose p = true ∧ s.quiet = true) ∧
    (∃ (s : State) (p : Packet), let c := s.core.offered opPing p; let r := reqOf opPing p; s.core.admits opPing p = true ∧ s.quiet
        = true) ∧
    (∃ (s : State) (p : Packet), let c := s.core.offered opEventSubscribe p; let r := reqOf opEventSubscribe p; s.core.admits
        opEventSubscribe p = true ∧ s.quiet = true) ∧
    (∃ (s : State) (p : Packet), let c := s.core.offered opSessionLevel p; let r := reqOf opSessionLevel p; s.core.admits
        opSessionLevel p = true ∧ s.quiet = true ∧ r.n 0 = 1 ∧ c.levelCheck p.session.toNat 1 p.transport = .ok ∧ p.session.toNat <
        256) ∧
    (∃ (s : State) (p : Packet), let c := s.core.offered opSessionLevel p; let r := reqOf opSessionLevel p; s.core.admits
        opSessionLevel p = true ∧ s.quiet = true ∧ r.n 0 = 0) ∧
    (∃ (s : State) (p : Packet) (x : Timed), let c := s.core.offered opTimedCancel p; let r := reqOf opTimedCancel p; s.core.admits
        opTimedCancel p = true ∧ s.quiet = true ∧ c.host.timed = [x] ∧ x.packet.session = p.session ∧ x.packet.seq = r.w 0 ∧
        x.committed = false ∧ x.opcode ≠ 0x0D02) ∧
    (∃ (s : State), s.quiet = true) ∧
    (∃ (s : State) (x : Timed), s.quiet = true ∧ s.core.host.timed = [x] ∧ x.boundary ≤ s.core.now ∧ x.eager = true ∧ x.own = true)
        ∧
    (∃ (s : State) (tr : Transport) (raw : List Byte), s.quiet = true ∧ isPcie tr = true ∧ s.core.easelAnswers = true ∧ raw.length
        < 16) ∧
    (∃ (s : State) (tr : Transport) (raw : List Byte) (op : Nat) (p : Packet), s.quiet = true ∧ isPcie tr = true ∧
        s.core.easelAnswers = true ∧ packetOf tr raw = some (op, p) ∧ op ≠ 0x0100 ∧ issued op = false ∧ (s.core.popRing op
        p).arrival op p = .take) :=
  ⟨⟨tRun, 7, 1, 0, List.replicate 4112 1, false, by decide +kernel⟩,
   ⟨runWith fun c => { c with host := { c.host with reasm := [⟨7, 1, []⟩] } }, 7, 1, by decide +kernel⟩,
   ⟨runWith fun c => c.setF F.HOST_CMD_SIZE_EN 1, 8, 1, List.replicate 6 1 ++ [48, 0] ++ List.replicate 56 0, by decide +kernel⟩,
   ⟨runWith fun c => { c with host := { c.host with held := [.easel .pcie 0 0 0x0102 4 1 []] } }, 8, 0, .easel .pcie 0 0 0x0102 4 1 [], by decide +kernel⟩,
   ⟨runWith fun c => { c with host := { c.host with sessions := [{ num := 2, transport := .udp 9 9, expected := 5, base := 1 }] } }, 2, { num := 2, transport := .udp 9 9, expected := 5, base := 1 }, by decide +kernel⟩,
   ⟨tRun, { pk [0] with session := 0 }, 2, by decide +kernel⟩,
   ⟨tRun, pk [], by decide +kernel⟩,
   ⟨tRun, pk (List.replicate 16 7), by decide +kernel⟩,
   ⟨tRun, pk [0x20], by decide +kernel⟩,
   ⟨tRun, pk [1], by decide +kernel⟩,
   ⟨tExpert, pk [0], by decide +kernel⟩,
   ⟨tTimed, pk [4], { opcode := 0x0205, packet := { pk [] with seq := 4 }, boundary := 5600 }, by decide +kernel⟩,
   ⟨tRun, by decide +kernel⟩,
   ⟨runWith fun c => { c with host := { c.host with timed := [{ opcode := 0x0401, packet := pk [], boundary := 4800, eager := true, own := true }] } }, { opcode := 0x0401, packet := pk [], boundary := 4800, eager := true, own := true }, by decide +kernel⟩,
   ⟨tRun, .pcie, List.replicate 15 0, by decide +kernel⟩,
   ⟨tRun, .pcie, packetBytes 0x0BFF (pk []), 0x0BFF, pk [], by decide +kernel⟩⟩

/-- States and operands that meet the hypotheses of MailboxesAndHoldsComplete. -/
theorem witness_MailboxesAndHoldsComplete :
    (∃ (s : State) (m n : Nat) (v : Word), let c := s.core.written ⟨m, (R.HOST_MBX_H2F n), v⟩ 0xFFFFFFFF; s.core.serves m
        ((R.HOST_MBX_H2F n)) = true ∧ s.quiet = true ∧ n < 16 ∧ s.core.flag (F.HOST_MBX_STATUS_H2F_FULL n) = false) ∧
    (∃ (s : State) (m n : Nat) (v : Word), let c := s.core.written ⟨m, (R.HOST_MBX_H2F n), v⟩ 0xFFFFFFFF; s.core.serves m
        ((R.HOST_MBX_H2F n)) = true ∧ s.quiet = true ∧ n < 16 ∧ s.core.flag (F.HOST_MBX_STATUS_H2F_FULL n) = true) ∧
    (∃ (s : State) (m n : Nat) (v : Word), let c := s.core.written ⟨m, (R.HOST_MBX_ACK n), v⟩ 0; s.core.serves m ((R.HOST_MBX_ACK
        n)) = true ∧ s.quiet = true ∧ n < 16 ∧ bitOf v 0 = true) ∧
    (∃ (s : State) (n : Nat), s.quiet = true ∧ n < 16 ∧ s.core.easelAnswers = true ∧ s.core.easelRuns = true ∧ s.core.flag
        (F.HOST_MBX_STATUS_H2F_FULL n) = true ∧ s.core.flag (F.HOST_MBX_STATUS_F2H_FULL n) = false ∧ s.core.power.restartDue =
        false ∧ bitsOf (s.core.get (R.HOST_MBX_H2F n)) 31 16 = 0x0102) ∧
    (∃ (s : State) (n k : Nat), s.quiet = true ∧ n < 16 ∧ k ≤ 25 ∧ s.core.easelRuns = true ∧ s.core.flag
        (F.HOST_MBX_STATUS_F2H_FULL n) = false ∧ bitOf (smGet (fun _ => 0) s.core.host.mbxMask n) k = true) ∧
    (∃ (s : State) (n : Nat), s.quiet = true ∧ n < 16 ∧ s.core.flag (F.HOST_MBX_STATUS_H2F_FULL n) = true ∧ s.core.flag
        (F.HOST_MBX_STATUS_F2H_FULL n) = true) ∧
    (∃ (s : State) (m : Nat) (v : Word), let c := s.core.written ⟨m, R.HOST_DB_MASK, v⟩ 0; s.core.serves m R.HOST_DB_MASK = true ∧
        s.quiet = true) ∧
    (∃ (s : State) (m n : Nat), s.quiet = true ∧ n < 64 ∧ s.core.reaches m (R.HOST_HOLD n) = true ∧ smGet (fun _ => none)
        s.core.host.holds n = none) ∧
    (∃ (s : State) (m n o : Nat), s.quiet = true ∧ n < 64 ∧ s.core.reaches m (R.HOST_HOLD n) = true ∧ smGet (fun _ => none)
        s.core.host.holds n = some o) ∧
    (∃ (s : State) (m n : Nat) (v : Word), let c := s.core.written ⟨m, (R.HOST_HOLD n), v⟩ 0xFFFFFFFF; s.core.serves m
        ((R.HOST_HOLD n)) = true ∧ s.quiet = true ∧ n < 64 ∧ v = 0 ∧ smGet (fun _ => none) s.core.host.holds n = some m) ∧
    (∃ (s : State) (m n : Nat) (v : Word), let c := s.core.written ⟨m, (R.HOST_HOLD n), v⟩ 0xFFFFFFFF; s.core.serves m
        ((R.HOST_HOLD n)) = true ∧ s.quiet = true ∧ n < 64 ∧ ¬(v = 0 ∧ smGet (fun _ => none) s.core.host.holds n = some m)) ∧
    (∃ (s : State) (m : Nat) (v : Word), let c := s.core.written ⟨m, R.HOST_BAR2_BASE, v⟩ 0; s.core.serves m R.HOST_BAR2_BASE =
        true ∧ s.quiet = true ∧ bitsOf v 5 0 ≤ 55) ∧
    (∃ (s : State) (y : Nat) (write : Bool) (bytes : List Byte) (n : Nat) (b : Byte), s.quiet = true ∧ write = true ∧ bytes = [b] ∧
        y < 2 ^ 28 ∧ s.core.f F.HOST_BAR2_BASE_BASE ≤ 55 ∧ s.core.power.endpointReady = true ∧ s.core.power.perst = false ∧
        s.core.memOn = true) ∧
    (∃ (s : State) (y : Nat) (write : Bool) (bytes : List Byte) (n : Nat), s.quiet = true ∧ write = false ∧ n = 1 ∧ y < 2 ^ 28 ∧
        s.core.f F.HOST_BAR2_BASE_BASE ≤ 55 ∧ s.core.power.endpointReady = true ∧ s.core.power.perst = false ∧ s.core.memOn =
        false) :=
  ⟨⟨tRun, 8, 15, 0x01020005, by decide +kernel⟩,
   ⟨runWith fun c => c.setF (F.HOST_MBX_STATUS_H2F_FULL 0) 1, 8, 0, 3, by decide +kernel⟩,
   ⟨runWith fun c => c.setF (F.HOST_MBX_STATUS_F2H_FULL 3) 1, 8, 3, 1, by decide +kernel⟩,
   ⟨runWith fun c => (c.setF (F.HOST_MBX_STATUS_H2F_FULL 2) 1).put (R.HOST_MBX_H2F 2) 0x01020034, 2, by decide +kernel⟩,
   ⟨runWith fun c => { c with host := { c.host with mbxMask := [(0, 0x2000000)] } }, 0, 25, by decide +kernel⟩,
   ⟨runWith fun c => (c.setF (F.HOST_MBX_STATUS_H2F_FULL 2) 1).setF (F.HOST_MBX_STATUS_F2H_FULL 2) 1, 2, by decide +kernel⟩,
   ⟨tRun, 8, 0x7F, by decide +kernel⟩,
   ⟨tRun, 16, 63, by decide +kernel⟩,
   ⟨runWith fun c => c.setHold 5 (some 8), 0, 5, 8, by decide +kernel⟩,
   ⟨runWith fun c => c.setHold 5 (some 8), 8, 5, 0, by decide +kernel⟩,
   ⟨runWith fun c => c.setHold 5 (some 8), 0, 5, 0, by decide +kernel⟩,
   ⟨tRun, 8, 55, by decide +kernel⟩,
   ⟨tRun, 2 ^ 28 - 1, true, [0xA5], 0, 0xA5, by decide +kernel⟩,
   ⟨runWith fun c => c.setF F.MEMC_STATUS_TRAINED 0, 0, false, [], 1, by decide +kernel⟩⟩

/-- States and operands that meet the hypotheses of SceneOpcodesComplete. -/
theorem witness_SceneOpcodesComplete :
    (∃ (s : State) (p : Packet) (d : ObjDef), let c := s.core.offered opObjectDefine p; let r := reqOf opObjectDefine p;
        s.core.admits opObjectDefine p = true ∧ s.quiet = true ∧ objOf r = some d ∧ r.n 0 < c.caps.objs ∧ c.sceneBusy = false) ∧
    (∃ (s : State) (p : Packet), let c := s.core.offered opObjectGet p; let r := reqOf opObjectGet p; s.core.admits opObjectGet p =
        true ∧ s.quiet = true ∧ r.n 1 ≤ 1 ∧ r.n 0 < c.caps.objs) ∧
    (∃ (s : State) (p : Packet), let c := s.core.offered opObjectDisableAll p; let r := reqOf opObjectDisableAll p; s.core.admits
        opObjectDisableAll p = true ∧ s.quiet = true ∧ c.sceneBusy = false) ∧
    (∃ (s : State) (p : Packet) (e : StreamSet), let c := s.core.offered opPositionStream p; let r := reqOf opPositionStream p;
        s.core.admits opPositionStream p = true ∧ s.quiet = true ∧ streamCheck c r = none ∧ bitsOf (r.w 0) 10 0 = 1 ∧ streamEntry
        c.caps.objs ((r.bytes.drop 4).take 20) = some e) ∧
    (∃ (s : State) (p : Packet), let c := s.core.offered opObjectState p; let r := reqOf opObjectState p; s.core.admits
        opObjectState p = true ∧ s.quiet = true ∧ r.n 1 = 1 ∧ r.n 0 < c.caps.objs) ∧
    (∃ (s : State), s.quiet = true) ∧
    (∃ (s : State) (p : Packet), let c := s.core.offered opLayoutBegin p; let r := reqOf opLayoutBegin p; s.core.admits
        opLayoutBegin p = true ∧ s.quiet = true ∧ r.n 0 ≤ 1 ∧ c.sceneBusy = false) ∧
    (∃ (s : State) (p : Packet) (q : Pos), let c := s.core.offered opSpeakerDefine p; let r := reqOf opSpeakerDefine p;
        s.core.admits opSpeakerDefine p = true ∧ s.quiet = true ∧ posOf (r.w 2) (r.w 3) (r.w 4) = some q ∧ r.w 1 &&& 0xFF00E0F8 = 0
        ∧ r.n 0 < c.caps.outs ∧ c.sceneBusy = false) ∧
    (∃ (s : State) (p : Packet), let c := s.core.offered opSpeakerGet p; let r := reqOf opSpeakerGet p; s.core.admits opSpeakerGet
        p = true ∧ s.quiet = true ∧ r.n 1 ≤ 1 ∧ r.n 0 < c.caps.outs ∧ (c.layout (r.n 1)).spk (r.n 0) = none) ∧
    (∃ (s : State) (p : Packet) (x : Speaker), let c := s.core.offered opSpeakerGet p; let r := reqOf opSpeakerGet p; s.core.admits
        opSpeakerGet p = true ∧ s.quiet = true ∧ r.n 1 ≤ 1 ∧ r.n 0 < c.caps.outs ∧ (c.layout (r.n 1)).spk (r.n 0) = some x) ∧
    (∃ (s : State) (p : Packet), let c := s.core.offered opZoneDefine p; let r := reqOf opZoneDefine p; s.core.admits opZoneDefine
        p = true ∧ s.quiet = true ∧ 1 ≤ r.n 0 ∧ r.n 0 ≤ 63 ∧ c.sceneBusy = false) ∧
    (∃ (s : State) (p : Packet), let c := s.core.offered opLayoutTemp p; let r := reqOf opLayoutTemp p; s.core.admits opLayoutTemp
        p = true ∧ s.quiet = true ∧ -3000 ≤ signed 32 (r.n 0) ∧ signed 32 (r.n 0) ≤ signed 32 (r.n 1) ∧ signed 32 (r.n 1) ≤ 6000 ∧
        c.sceneBusy = false) ∧
    (∃ (s : State) (p : Packet), let c := s.core.offered opLayoutCommit p; let r := reqOf opLayoutCommit p; s.core.admits
        opLayoutCommit p = true ∧ s.quiet = true ∧ c.sceneBusy = false) ∧
    (∃ (s : State) (k : Tok), s.quiet = true ∧ s.core.scene.commit = some k) ∧
    (∃ (s : State) (p : Packet), let c := s.core.offered opLayoutAdmission p; let r := reqOf opLayoutAdmission p; s.core.admits
        opLayoutAdmission p = true ∧ s.quiet = true ∧ r.n 0 ≤ 1) ∧
    (∃ (s : State) (p : Packet), let c := s.core.offered opSoundSpeedSet p; let r := reqOf opSoundSpeedSet p; s.core.admits
        opSoundSpeedSet p = true ∧ s.quiet = true ∧ (r.n 0 = 1 ∨ r.n 0 = 2)) ∧
    (∃ (s : State) (p : Packet), let c := s.core.offered opSoundSpeedGet p; let r := reqOf opSoundSpeedGet p; s.core.admits
        opSoundSpeedGet p = true ∧ s.quiet = true ∧ c.scene.surveyTemp = none) ∧
    (∃ (s : State) (p : Packet), let c := s.core.offered opBusDefine p; let r := reqOf opBusDefine p; s.core.admits opBusDefine p =
        true ∧ s.quiet = true ∧ r.n 1 < 4096 ∧ r.n 0 ≤ 1 ∧ bitsOf (r.w 1) 3 1 ≠ 0 ∧ -10000 ≤ signed 32 (r.n 4) ∧ signed 32 (r.n 4)
        ≤ 1200 ∧ c.sceneBusy = false) ∧
    (∃ (s : State) (p : Packet), let c := s.core.offered opBusGet p; let r := reqOf opBusGet p; s.core.admits opBusGet p = true ∧
        s.quiet = true ∧ r.n 1 ≤ 1 ∧ r.n 0 ≤ 1) ∧
    (∃ (s : State) (p : Packet), let c := s.core.offered opBedDefine p; let r := reqOf opBedDefine p; s.core.admits opBedDefine p =
        true ∧ s.quiet = true ∧ r.n 1 < 1024 ∧ r.n 0 ≤ 127 ∧ -10000 ≤ signed 32 (r.n 2) ∧ signed 32 (r.n 2) ≤ 1200 ∧ c.sceneBusy =
        false) ∧
    (∃ (s : State) (p : Packet), let c := s.core.offered opBedGet p; let r := reqOf opBedGet p; s.core.admits opBedGet p = true ∧
        s.quiet = true ∧ r.n 1 ≤ 1 ∧ r.n 0 ≤ 127) :=
  ⟨⟨tRun, pk [1023, 0x19, 0, 0, 0, 0, 0, 8192, 8192, 8192], { enable := true, interp := true, boxMin := (0, 0, 0), boxMax := (8192, 8192, 8192) }, by decide +kernel⟩,
   ⟨tRun, pk [1023, 1], by decide +kernel⟩,
   ⟨runWith fun c => { c with scene := { c.scene with staged := { objs := [(3, { enable := true })] } } }, pk [], by decide +kernel⟩,
   ⟨tRun, pk [1, 0x00060007, 256, 0, 0, 0x00000064], { obj := 7, pos := some (256, 0, 0), gain := some 100, spread := none, mute := none }, by decide +kernel⟩,
   ⟨tRun, pk [1023, 1], by decide +kernel⟩,
   ⟨runWith fun c => { c with scene := { c.scene with used := 1025 } }, by decide +kernel⟩,
   ⟨tRun, pk [1], by decide +kernel⟩,
   ⟨tRun, pk [511, 0x0003010B - 8, 100, 0, 0xFFFFFF9C], (100, 0, -100), by decide +kernel⟩,
   ⟨tRun, pk [511, 1], by decide +kernel⟩,
   ⟨runWith fun c => { c with scene := { c.scene with live := { spks := [(0, some ⟨(5, 6, -7), false, true, 3, 9⟩)] } } }, pk [0, 0], ⟨(5, 6, -7), false, true, 3, 9⟩, by decide +kernel⟩,
   ⟨tRun, pk (63 :: List.replicate 16 0xFFFFFFFF), by decide +kernel⟩,
   ⟨tRun, pk [0xFFFFF448, 6000], by decide +kernel⟩,
   ⟨tRun, pk [], by decide +kernel⟩,
   ⟨runWith fun c => { c with scene := { c.scene with commit := some ⟨1, 4, 0x0308⟩ } }, ⟨1, 4, 0x0308⟩, by decide +kernel⟩,
   ⟨tRun, pk [1], by decide +kernel⟩,
   ⟨tRun, pk [1, 351539], by decide +kernel⟩,
   ⟨tRun, pk [], by decide +kernel⟩,
   ⟨tRun, pk [1, 0xFDF, 1, 2, 1200], by decide +kernel⟩,
   ⟨tRun, pk [1, 0], by decide +kernel⟩,
   ⟨tRun, pk [127, 1023, 0xFFFFD8F0], by decide +kernel⟩,
   ⟨tRun, pk [127, 1], by decide +kernel⟩⟩

/-- States and operands that meet the hypotheses of CaliperAndPalettesComplete. -/
theorem witness_CaliperAndPalettesComplete :
    (∃ (s : State), s.quiet = true ∧ s.core.caliperRuns = true ∧ s.core.cal.next ≤ s.core.time.n ∧ s.core.cal.config = none) ∧
    (∃ (s : State) (h : Nat), s.quiet = true ∧ s.core.cal.pendAt = some h ∧ h ≤ s.core.time.n ∧ s.core.caliperRuns = true) ∧
    (∃ (s : State) (p : Packet), let c := s.core.offered opPaletteStatus p; let r := reqOf opPaletteStatus p; s.core.admits
        opPaletteStatus p = true ∧ s.quiet = true) ∧
    (∃ (s : State) (p : Packet), let c := s.core.offered opPaletteSwap p; let r := reqOf opPaletteSwap p; s.core.admits
        opPaletteSwap p = true ∧ s.quiet = true ∧ c.swapCheck (r.n 0) (r.n 1) = none) ∧
    (∃ (s : State) (w : Swap), s.quiet = true ∧ s.core.cal.swaps = [w] ∧ w.prepared = false ∧ w.b ≤ s.core.now + s.core.blk ∧
        s.core.cal.inReset = false ∧ w.mask % 2 = 0) ∧
    (∃ (s : State) (w : Swap), s.quiet = true ∧ s.core.cal.swaps = [w] ∧ w.prepared = true ∧ w.b ≤ s.core.now) ∧
    (∃ (s : State) (x : GlazeRun), s.quiet = true ∧ s.core.cal.glazes = [x] ∧ x.b + x.g ≤ s.core.now) ∧
    (∃ (s : State) (p : Packet), let c := s.core.offered opMaquette p; let r := reqOf opMaquette p; s.core.admits opMaquette p =
        true ∧ s.quiet = true ∧ r.n 0 = 1 ∧ r.n 1 ≤ 7 ∧ c.flag (stagedReady 0) = true ∧ (c.pair (r.n 1)).set.on = true) ∧
    (∃ (s : State) (p : Packet), let c := s.core.offered opCaliperConfig p; let r := reqOf opCaliperConfig p; s.core.admits
        opCaliperConfig p = true ∧ s.quiet = true ∧ r.w 0 &&& 0xFFFE00E0 = 0 ∧ r.w 1 &&& 0xFFFF00C0 = 0 ∧ 1 ≤ bitsOf (r.w 0) 4 0 ∧
        bitsOf (r.w 0) 4 0 ≤ 16 ∧ 1 ≤ bitsOf (r.w 0) 16 8 ∧ bitsOf (r.w 0) 16 8 ≤ 256 ∧ bitsOf (r.w 1) 5 0 ≤ 50 ∧ 1 ≤ r.n 2 ∧ r.n 2
        < 65536 ∧ r.n 3 ≤ 4096) ∧
    (∃ (s : State) (p : Packet), let c := s.core.offered opCaliperCounters p; let r := reqOf opCaliperCounters p; s.core.admits
        opCaliperCounters p = true ∧ s.quiet = true) :=
  ⟨⟨tRun, by decide +kernel⟩,
   ⟨runWith fun c => { c with cal := { c.cal with pendAt := some 4800 } }, 4800, by decide +kernel⟩,
   ⟨tRun, pk [], by decide +kernel⟩,
   ⟨runWith fun c => c.setF (stagedReady 0) 1, pk [1, 4096], by decide +kernel⟩,
   ⟨runWith fun c => { c with cal := { c.cal with swaps := [⟨2, 4816, 64, none, false, false, false⟩] } }, ⟨2, 4816, 64, none, false, false, false⟩, by decide +kernel⟩,
   ⟨runWith fun c => { c with scene := { c.scene with staged := { tMin := 0 } }, cal := { c.cal with swaps := [⟨1, 4800, 64, none, false, true, false⟩] } }, ⟨1, 4800, 64, none, false, true, false⟩, by decide +kernel⟩,
   ⟨runWith fun c => { c with cal := { c.cal with glazes := [⟨1, 4736, 64, none, false⟩] } }, ⟨1, 4736, 64, none, false⟩, by decide +kernel⟩,
   ⟨runWith fun c => { c.setF (stagedReady 0) 1 with mon := { c.mon with pairs := [(7, { set := { on := true } })] } }, pk [1, 7], by decide +kernel⟩,
   ⟨tRun, pk [0x10010, 50, 65535, 4096], by decide +kernel⟩,
   ⟨tRun, pk [], by decide +kernel⟩⟩

/-- States and operands that meet the hypotheses of RenderCommandsComplete. -/
theorem witness_RenderCommandsComplete :
    (∃ (s : State) (engine index : Nat) (x : Entry), s.quiet = true ∧ (s.core.engineEntries engine)[index]? = some x ∧ x.far = true
        ∧ s.core.ren.busy = true) ∧
    (∃ (s : State) (engine index : Nat) (x : Entry), s.quiet = true ∧ (s.core.engineEntries engine)[index]? = some x ∧ x.far = true
        ∧ x.window = false ∧ x.dropped = false ∧ s.core.ren.busy = true) ∧
    (∃ (s : State), s.quiet = true ∧ s.core.ren.busy = true) ∧
    (∃ (s : State) (engine : Nat) (done : List Nat), s.quiet = true ∧ s.core.ren.busy = true ∧ engine < 8 ∧ s.core.engineEntries
        engine ≠ [] ∧ done = [0, 0, 0, 0]) ∧
    (∃ (s : State) (p : Packet), let c := s.core.offered opRenderStatus p; let r := reqOf opRenderStatus p; s.core.admits
        opRenderStatus p = true ∧ s.quiet = true) ∧
    (∃ (s : State) (p : Packet) (e : Entry), let c := s.core.offered opContribRead p; let r := reqOf opContribRead p; s.core.admits
        opContribRead p = true ∧ s.quiet = true ∧ r.n 0 ≤ 8 ∧ r.n 1 ≤ 65535 ∧ r.n 2 = 1 ∧ (c.engineEntries (r.n 0))[r.n 1]? = some
        e) ∧
    (∃ (s : State) (p : Packet) (e i : Nat), let c := s.core.offered opContribFind p; let r := reqOf opContribFind p; s.core.admits
        opContribFind p = true ∧ s.quiet = true ∧ r.n 2 = 0 ∧ (((List.range 8).filterMap fun e => (findIndex (fun (x : Entry) =>
        x.src = r.n 0 && x.out = r.n 1 && x.bound && (x.bank = 0 || x.bank = c.liveCode)) (c.engineEntries e) 0).map fun i => (e,
        i)).head? = some (e, i))) ∧
    (∃ (s : State) (p : Packet), let c := s.core.offered opExpertObject p; let r := reqOf opExpertObject p; s.core.admits
        opExpertObject p = true ∧ s.quiet = true ∧ r.n 1 ≤ 1 ∧ r.n 0 < c.caps.objs) ∧
    (∃ (s : State) (p : Packet), let c := s.core.offered opContribWrite p; let r := reqOf opContribWrite p; s.core.admits
        opContribWrite p = true ∧ s.quiet = true ∧ r.n 0 = 1 ∧ r.bytes.length = 24 ∧ c.contribCheck r 0 = none ∧ c.clk.mediaOn =
        true) ∧
    (∃ (s : State) (p : Packet), let c := s.core.offered opNearRead p; let r := reqOf opNearRead p; s.core.admits opNearRead p =
        true ∧ s.quiet = true ∧ r.n 0 < c.caps.objs ∧ r.n 3 = 1) ∧
    (∃ (s : State) (p : Packet), let c := s.core.offered opRenderCounters p; let r := reqOf opRenderCounters p; s.core.admits
        opRenderCounters p = true ∧ s.quiet = true) ∧
    (∃ (s : State) (p : Packet), let c := s.core.offered opClipCounts p; let r := reqOf opClipCounts p; s.core.admits opClipCounts
        p = true ∧ s.quiet = true ∧ r.n 1 = 1 ∧ r.n 0 < 512) ∧
    (∃ (s : State) (m : Nat) (v : Word), let c := s.core.written ⟨m, R.RENDER_FIRST_UNCORR, v⟩ 0; s.core.serves m
        R.RENDER_FIRST_UNCORR = true ∧ s.quiet = true ∧ bitOf v 30 = true) :=
  ⟨⟨tFar, 1, 0, { src := 5, out := 9, bank := 1, far := true, lane := 4 }, by decide +kernel⟩,
   ⟨tFar, 1, 0, { src := 5, out := 9, bank := 1, far := true, lane := 4 }, by decide +kernel⟩,
   ⟨tFar, by decide +kernel⟩,
   ⟨tFar, 1, [0, 0, 0, 0], by decide +kernel⟩,
   ⟨tExpert, pkX [], by decide +kernel⟩,
   ⟨{ tFar with core := tFar.core.setExpert 1 true }, pkX [1, 0, 1], { src := 5, out := 9, bank := 1, far := true, lane := 4 }, by decide +kernel⟩,
   ⟨{ tFar with core := tFar.core.setExpert 1 true }, pkX [5, 9, 0], 1, 0, by decide +kernel⟩,
   ⟨tExpert, pkX [1023, 1], by decide +kernel⟩,
   ⟨{ tFar with core := (tFar.core.setExpert 1 true).setF (expertBit 5) 1 }, pkX [1, 0x10000, 0x200000, 65536, 0, 0], by decide +kernel⟩,
   ⟨tExpert, pkX [1023, 4799, 0, 1], by decide +kernel⟩,
   ⟨tExpert, pkX [], by decide +kernel⟩,
   ⟨{ tExpert with core := tExpert.core.put (R.RENDER_CLIP 511) 7 }, pkX [511, 1], by decide +kernel⟩,
   ⟨runWith fun c => c.setF F.RENDER_FIRST_UNCORR_VALID 1, 0, 0x40000000, by decide +kernel⟩⟩

/-- States and operands that meet the hypotheses of MonitorCommandsComplete. -/
theorem witness_MonitorCommandsComplete :
    (∃ (s : State) (p : Packet), let c := s.core.offered opBinauralSet p; let r := reqOf opBinauralSet p; s.core.admits
        opBinauralSet p = true ∧ s.quiet = true ∧ c.binauralCheck r = .ok) ∧
    (∃ (s : State) (pair b : Nat) (x : PairSet) (onlyH : Bool), s.quiet = true ∧ (s.core.pair pair).next = some (x, b, onlyH) ∧ b ≤
        s.core.time.n) ∧
    (∃ (s : State) (p : Packet) (x : Pair), let c := s.core.offered opBinauralGet p; let r := reqOf opBinauralGet p; s.core.admits
        opBinauralGet p = true ∧ s.quiet = true ∧ r.n 0 ≤ 7 ∧ c.pair (r.n 0) = x) ∧
    (∃ (s : State) (p : Packet) (d : MixSet), let c := s.core.offered opDownmixSet p; let r := reqOf opDownmixSet p; s.core.admits
        opDownmixSet p = true ∧ s.quiet = true ∧ c.downmixCheck r = .ok d) ∧
    (∃ (s : State) (m b : Nat) (d : MixSet), s.quiet = true ∧ (s.core.mix m).next = some (d, b) ∧ b ≤ s.core.time.n) ∧
    (∃ (s : State) (p : Packet) (x : Mix), let c := s.core.offered opDownmixGet p; let r := reqOf opDownmixGet p; s.core.admits
        opDownmixGet p = true ∧ s.quiet = true ∧ r.n 0 ≤ 47 ∧ c.mix (r.n 0) = x) ∧
    (∃ (s : State) (p : Packet), let c := s.core.offered opLoudnessConfig p; let r := reqOf opLoudnessConfig p; s.core.admits
        opLoudnessConfig p = true ∧ s.quiet = true ∧ r.n 0 ≤ 7 ∧ r.n 1 ≤ 2 ∧ (r.n 1 = 1 → r.n 2 ≤ 7) ∧ (r.n 1 = 2 → 1 ≤ r.n 3 ∧ r.n
        3 ≤ 24 ∧ r.n 2 + r.n 3 ≤ 48 ∧ ∀ i : Nat, i < r.n 3 → (r.n 4 + 2 ^ 32 * r.n 5) / 4 ^ i % 4 ≠ 3)) ∧
    (∃ (s : State) (p : Packet), let c := s.core.offered opLoudnessGet p; let r := reqOf opLoudnessGet p; s.core.admits
        opLoudnessGet p = true ∧ s.quiet = true ∧ r.n 0 ≤ 7) ∧
    (∃ (s : State) (p : Packet) (q : Nat), let c := s.core.offered opLoudnessReset p; let r := reqOf opLoudnessReset p;
        s.core.admits opLoudnessReset p = true ∧ s.quiet = true ∧ r.n 0 ≤ 255 ∧ q < 8) ∧
    (∃ (s : State) (q : Nat), s.quiet = true ∧ q ≤ 7 ∧ (s.core.meter q).kind ≠ 0 ∧ s.core.power.engineStop = false) :=
  ⟨⟨tRun, pk [3, 0x102, 77], by decide +kernel⟩,
   ⟨runWith fun c => c.setPair 7 { next := some ({ zone := 3 }, 4800, false) }, 7, 4800, { zone := 3 }, false, by decide +kernel⟩,
   ⟨runWith fun c => c.setPair 7 { clips := 9 }, pk [7], { clips := 9 }, by decide +kernel⟩,
   ⟨tRun, pk [47, 15, 1, 511, 0xFF800000], { h := 15, list := [(511, -8388608)] }, by decide +kernel⟩,
   ⟨runWith fun c => c.setMix 47 { next := some ({ h := 2 }, 4800) }, 47, 4800, { h := 2 }, by decide +kernel⟩,
   ⟨runWith fun c => c.setMix 47 { set := { h := 2, list := [(5, -1)] }, clips := 9 }, pk [47], { set := { h := 2, list := [(5, -1)] }, clips := 9 }, by decide +kernel⟩,
   ⟨tRun, pk [7, 2, 24, 24, 0, 0xAAAA], by decide +kernel⟩,
   ⟨runWith fun c => c.setMeter 7 { kind := 1, resetAt := 2 ^ 33 }, pk [7], by decide +kernel⟩,
   ⟨runWith fun c => c.setMeter 7 { kind := 1, blocks := [5, 6] }, pk [128], 7, by decide +kernel⟩,
   ⟨runWith fun c => c.setMeter 7 { kind := 1, steps := [5, 6, 7] }, 7, by decide +kernel⟩⟩

/-- States and operands that meet the hypotheses of OutputChainCompletes. -/
theorem witness_OutputChainCompletes :
    (∃ (s : State) (o n : Nat), s.quiet = true ∧ o < s.core.caps.outs ∧ s.core.out.inpAt = some n ∧ s.core.frameStart o n = true ∧
        (s.core.chain o).tailAt ≠ some n) ∧
    (∃ (s : State) (o n : Nat), s.quiet = true ∧ o < s.core.caps.outs ∧ s.core.out.inpAt = some n ∧ s.core.frameStart o n = true ∧
        (chainSet s.core.out.live o).firEn = true) ∧
    (∃ (s : State) (k : Tok), s.quiet = true ∧ s.core.out.commit = some k) ∧
    (∃ (s : State) (p : Packet) (x : ChainSet), let c := s.core.offered opOutchainGet p; let r := reqOf opOutchainGet p;
        s.core.admits opOutchainGet p = true ∧ s.quiet = true ∧ r.n 0 < c.caps.outs ∧ r.n 1 ≤ 1 ∧ chainSet (if r.n 1 = 0 then
        c.out.live else c.out.staged) (r.n 0) = x) ∧
    (∃ (s : State) (p : Packet), let c := s.core.offered opOutputMute p; let r := reqOf opOutputMute p; s.core.admits opOutputMute
        p = true ∧ s.quiet = true ∧ r.n 2 ≤ 1 ∧ 1 ≤ r.n 1 ∧ r.n 0 + r.n 1 ≤ c.caps.outs) ∧
    (∃ (s : State) (o : Nat) (q : MuteReq), s.quiet = true ∧ o < 512 ∧ s.core.out.mutes = [q] ∧ o ∈ q.todo ∧ q.b ≤ s.core.now ∧
        smGet (fun _ => none) s.core.out.fades o = none ∧ s.core.flag (muteBit o) ≠ q.mute) ∧
    (∃ (s : State) (o at_ g : Nat) (m : Bool), s.quiet = true ∧ smGet (fun _ => none) s.core.out.fades o = some (m, at_, g) ∧ at_ +
        g ≤ s.core.now) ∧
    (∃ (s : State) (p : Packet) (o : Nat), let c := s.core.offered opOutchainMeters p; let r := reqOf opOutchainMeters p;
        s.core.admits opOutchainMeters p = true ∧ s.quiet = true ∧ 1 ≤ r.n 1 ∧ r.n 0 + r.n 1 ≤ c.caps.outs ∧ r.n 0 ≤ o ∧ o < r.n 0
        + r.n 1) ∧
    (∃ (s : State) (m : Nat) (v : Word), let c := s.core.written ⟨m, R.OUTPROC_LAST_CLIP, v⟩ 0; s.core.serves m R.OUTPROC_LAST_CLIP
        = true ∧ s.quiet = true ∧ bitOf v 30 = true) :=
  ⟨⟨runWith fun c => { c with out := { c.out with inpAt := some 128 } }, 504, 128, by decide +kernel⟩,
   ⟨runWith fun c => { c with out := { c.out with inpAt := some 128, live := [(504, { firEn := true })] } }, 504, 128, by decide +kernel⟩,
   ⟨runWith fun c => { c with out := { c.out with commit := some ⟨1, 4, 0x0808⟩ } }, ⟨1, 4, 0x0808⟩, by decide +kernel⟩,
   ⟨runWith fun c => { c with out := { c.out with staged := [(511, { trim := -32768, h := 15 })] } }, pk [511, 1], { trim := -32768, h := 15 }, by decide +kernel⟩,
   ⟨tRun, pk [511, 1, 1], by decide +kernel⟩,
   ⟨runWith fun c => { c with out := { c.out with mutes := [{ b := 4800, mute := true, todo := [511], tok := ⟨1, 4, 0x0810⟩ }] } }, 511, { b := 4800, mute := true, todo := [511], tok := ⟨1, 4, 0x0810⟩ }, by decide +kernel⟩,
   ⟨runWith fun c => { c with out := { c.out with fades := [(511, some (true, 4000, 800))] } }, 511, 4000, 800, true, by decide +kernel⟩,
   ⟨runWith fun c => c.put (R.OUTPROC_GR 511) 7, pk [510, 2], 511, by decide +kernel⟩,
   ⟨runWith fun c => c.setF F.OUTPROC_LAST_CLIP_VALID 1, 0, 0x40000000, by decide +kernel⟩⟩

/-- States and operands that meet the hypotheses of PaletteOneEditsComplete. -/
theorem witness_PaletteOneEditsComplete :
    (∃ (s : State) (p : Packet), let c := s.core.offered opOutchainBegin p; let r := reqOf opOutchainBegin p; s.core.admits
        opOutchainBegin p = true ∧ s.quiet = true ∧ r.n 0 ≤ 1 ∧ c.outBusy = false) ∧
    (∃ (s : State) (p : Packet) (o : Nat), let c := s.core.offered opOutchainSet p; let r := reqOf opOutchainSet p; s.core.admits
        opOutchainSet p = true ∧ s.quiet = true ∧ c.outBusy = false ∧ bitsOf (r.w 2) 31 22 = 0 ∧ trimOk (signed 16 (r.w 2).toNat) =
        true ∧ r.n 3 ≤ 8191 ∧ 1 ≤ r.n 1 ∧ r.n 0 + r.n 1 ≤ c.caps.outs) ∧
    (∃ (s : State) (p : Packet) (o : Nat) (bs : List Biquad), let c := s.core.offered opBiquadSet p; let r := reqOf opBiquadSet p;
        s.core.admits opBiquadSet p = true ∧ s.quiet = true ∧ c.outBusy = false ∧ 1 ≤ r.n 3 ∧ r.n 2 + r.n 3 ≤ 16 ∧ r.bytes.length =
        16 + 24 * r.n 3 ∧ (List.range (r.n 3)).mapM (biquadOf r) = some bs ∧ bs.all biquadOk = true ∧ 1 ≤ r.n 1 ∧ r.n 0 + r.n 1 ≤
        c.caps.outs) ∧
    (∃ (s : State) (p : Packet) (o : Nat), let c := s.core.offered opFirSet p; let r := reqOf opFirSet p; s.core.admits opFirSet p
        = true ∧ s.quiet = true ∧ c.outBusy = false ∧ 1 ≤ r.n 1 ∧ r.n 0 + r.n 1 ≤ c.caps.outs) ∧
    (∃ (s : State) (p : Packet) (o : Nat) (k : Int), let c := s.core.offered opVarnishSet p; let r := reqOf opVarnishSet p;
        s.core.admits opVarnishSet p = true ∧ s.quiet = true ∧ c.outBusy = false ∧ sext? 16 (r.w 2) = some k ∧ -4000 ≤ k ∧ k ≤ 0 ∧
        r.n 3 ≤ 1200 ∧ 1 ≤ r.n 4 ∧ r.n 4 ≤ 2000 ∧ r.n 5 ≤ 63 ∧ 1 ≤ r.n 1 ∧ r.n 0 + r.n 1 ≤ c.caps.outs) ∧
    (∃ (s : State) (p : Packet), let c := s.core.offered opOutchainCommit p; let r := reqOf opOutchainCommit p; s.core.admits
        opOutchainCommit p = true ∧ s.quiet = true ∧ c.outBusy = false) :=
  ⟨⟨runWith fun c => { c with out := { c.out with live := [(511, { h := 15 })] } }, pk [1], by decide +kernel⟩,
   ⟨tRun, pk [510, 2, 0x38FFFF, 8191], 511, by decide +kernel⟩,
   ⟨tRun, pk [511, 1, 15, 1, 0, 0x200000, 0, 0, 0xFFE00000, 0x80000], 511, [{ bypass := false, b0 := 0x200000, b1 := 0, b2 := 0, a1 := -0x200000, a2 := 0x80000 }], by decide +kernel⟩,
   ⟨tRun, pk [511, 1, 9], 511, by decide +kernel⟩,
   ⟨tRun, pk [511, 1, 0xFFFFF060, 1200, 2000, 63], 511, -4000, by decide +kernel⟩,
   ⟨tRun, pk [], by decide +kernel⟩⟩

/-- States and operands that meet the hypotheses of MeasurementAndDesignComplete. -/
theorem witness_MeasurementAndDesignComplete :
    (∃ (s : State) (p : Packet), let c := s.core.offered opSurveyStatus p; let r := reqOf opSurveyStatus p; s.core.admits
        opSurveyStatus p = true ∧ s.quiet = true) ∧
    (∃ (s : State) (p : Packet) (m : Meas), let c := s.core.offered opMeasureStart p; let r := reqOf opMeasureStart p;
        s.core.admits opMeasureStart p = true ∧ s.quiet = true ∧ c.clk.mult ≠ 2 ∧ 1 ≤ r.n 9 ∧ r.n 9 ≤ 512 ∧ r.bytes.length = 40 + 4
        * r.n 9 ∧ sext? 16 (r.w 1) = some m.level ∧ (m =
        { kind := r.n 0, level := m.level, post := bitOf (r.w 2) 0, muteOthers := bitOf (r.w 2) 1, mic := r.n 3, repeats := r.n 4, p1 := r.n 5, p2 := r.n 6, p3 := r.n 7, gap := r.n 8, outs := (List.range (r.n 9)).map fun i => r.n (10 + i), tok := r.tok, b := c.anchorB, g := c.glaze })
        ∧ r.n 2 ≤ 3 ∧ m.outs.eraseDups.length = r.n 9 ∧ m.ranges c.fsHz = true ∧ m.outs.all (fun o => decide (o < c.caps.outs)) =
        true ∧ c.survey.meas = none) ∧
    (∃ (s : State) (m : Meas), s.quiet = true ∧ s.core.survey.meas = some m ∧ m.turn = none ∧ m.done = 0 ∧ m.waiting = [] ∧
        m.backAt = none ∧ m.b ≤ s.core.now) ∧
    (∃ (s : State) (m : Meas) (k at_ : Nat), s.quiet = true ∧ s.core.survey.meas = some m ∧ m.turn = some (k, at_) ∧ at_ +
        m.turnLen ≤ s.core.now) ∧
    (∃ (s : State) (m : Meas) (k full silent : Nat) (cap : SMap (List Int)) (u : List (Nat × SMap (List Int) × Nat × Nat)), s.quiet
        = true ∧ s.core.survey.meas = some m ∧ m.waiting = (k, cap, full, silent) :: u) ∧
    (∃ (s : State) (m : Meas) (k : Nat), s.quiet = true ∧ s.core.survey.meas = some m ∧ m.backAt = some k ∧ k + m.g ≤ s.core.now ∧
        m.waiting = []) ∧
    (∃ (s : State) (p : Packet) (m : Meas), let c := s.core.offered opMeasureAbort p; let r := reqOf opMeasureAbort p;
        s.core.admits opMeasureAbort p = true ∧ s.quiet = true ∧ c.clk.mult ≠ 2 ∧ c.survey.meas = some m) ∧
    (∃ (s : State) (p : Packet) (x : SurveyResult), let c := s.core.offered opResultGet p; let r := reqOf opResultGet p;
        s.core.admits opResultGet p = true ∧ s.quiet = true ∧ c.clk.mult ≠ 2 ∧ r.n 0 < c.caps.outs ∧ r.n 1 ≤ 15 ∧ r.n 3 ≤ 1000 ∧
        r.n 2 + r.n 3 ≤ 16384 ∧ c.result? (r.n 0) (r.n 1) = some x) ∧
    (∃ (s : State) (p : Packet) (x : SurveyResult), let c := s.core.offered opResultBands p; let r := reqOf opResultBands p;
        s.core.admits opResultBands p = true ∧ s.quiet = true ∧ c.clk.mult ≠ 2 ∧ r.n 0 < c.caps.outs ∧ r.n 1 ≤ 15 ∧ c.result? (r.n
        0) (r.n 1) = some x) ∧
    (∃ (s : State) (p : Packet), let c := s.core.offered opResultStore p; let r := reqOf opResultStore p; s.core.admits
        opResultStore p = true ∧ s.quiet = true ∧ c.clk.mult ≠ 2 ∧ r.n 0 < c.caps.outs ∧ r.n 1 ≤ 15 ∧ r.n 2 ≠ 0xFFFFFFFF ∧
        (c.result? (r.n 0) (r.n 1)).isSome = true ∧ r.n 2 ≠ ledgerItem ∧ c.flag F.SYS_STATUS_VIN_WARN = false ∧ c.survey.store =
        none ∧ c.itemLocked (r.n 2) r.tok.session = false ∧ 66044 ≤ c.libFree) ∧
    (∃ (s : State) (k : Tok) (key item : Nat) (x : SurveyResult), s.quiet = true ∧ s.core.survey.store = some (k, key, item) ∧
        s.core.flag F.SYS_STATUS_VIN_WARN = false ∧ smGet (fun _ => none) s.core.survey.results key = some x ∧ item ≠ ledgerItem ∧
        s.core.flash.lib = []) ∧
    (∃ (s : State) (p : Packet) (pts : List (Nat × Int)), let c := s.core.offered opDesign p; let r := reqOf opDesign p;
        s.core.admits opDesign p = true ∧ s.quiet = true ∧ c.clk.mult ≠ 2 ∧ 2 ≤ r.n 10 ∧ r.n 10 ≤ 32 ∧ r.bytes.length = 44 + 8 *
        r.n 10 ∧ (((List.range (r.n 10)).mapM fun i => (sext? 16 (r.w (12 + 2 * i))).map fun l => (r.n (11 + 2 * i), l)) = some
        pts) ∧ r.n 3 % 128 = 0 ∧ 512 ≤ r.n 3 ∧ r.n 3 ≤ 8192 ∧ r.n 4 ≤ 1 ∧ r.n 5 ≤ 5 ∧ 20 ≤ r.n 6 ∧ r.n 6 < r.n 7 ∧ r.n 7 ≤ 20000 ∧
        r.n 8 ≤ 600 ∧ r.n 9 ≤ 2400 ∧ rising pts = true ∧ pts.all (fun x => decide (x.1 ≠ 0)) = true ∧ r.n 0 < c.caps.outs ∧ 1 ≤ r.n
        1 ∧ r.n 1 ≤ 0xFFFF ∧ r.n 2 ≠ 0xFFFFFFFF ∧ r.n 2 ≠ ledgerItem ∧ ((maskChannels (r.n 1)).all (fun ch => ((c.result? (r.n 0)
        ch).map fun y => decide (y.flags / 8 % 2 = 0)).getD false) = true) ∧ c.flag F.SYS_STATUS_VIN_WARN = false ∧ c.survey.design
        = none ∧ c.itemLocked (r.n 2) r.tok.session = false ∧ 20 + 4 * r.n 3 ≤ c.libFree) ∧
    (∃ (s : State) (d : DesignReq), s.quiet = true ∧ s.core.survey.design = some d ∧ s.core.flag F.SYS_STATUS_VIN_WARN = false ∧
        d.item ≠ ledgerItem ∧ s.core.flash.lib = []) :=
  ⟨⟨tRun, pk [], by decide +kernel⟩,
   ⟨tRun, pk [3, 0xFFFFE890, 3, 0xFFFF, 16, 15, 0, 0, 16384, 1, 511], { kind := 3, level := -6000, post := true, muteOthers := true, mic := 0xFFFF, repeats := 16, p1 := 15, p2 := 0, p3 := 0, gap := 16384, outs := [511], tok := ⟨1, 5, 0x0701⟩, b := cRun.anchorB, g := cRun.glaze }, by decide +kernel⟩,
   ⟨runWith fun c => { c with survey := { c.survey with meas := some { kind := 3, level := -6000, post := true, muteOthers := true, mic := 0xFFFF, repeats := 16, p1 := 15, p2 := 0, p3 := 0, gap := 16384, outs := [511], tok := ⟨1, 4, 0x0701⟩, b := 4800, g := 480 } } }, { kind := 3, level := -6000, post := true, muteOthers := true, mic := 0xFFFF, repeats := 16, p1 := 15, p2 := 0, p3 := 0, gap := 16384, outs := [511], tok := ⟨1, 4, 0x0701⟩, b := 4800, g := 480 }, by decide +kernel⟩,
   ⟨runWith fun c => { c with time := { c.time with n := 4800000 }, survey := { c.survey with meas := some { kind := 3, level := -6000, post := true, muteOthers := true, mic := 0xFFFF, repeats := 1, p1 := 15, p2 := 0, p3 := 0, gap := 16384, outs := [511], tok := ⟨1, 4, 0x0701⟩, b := 4800, g := 480, turn := some (0, 4800) } } }, { kind := 3, level := -6000, post := true, muteOthers := true, mic := 0xFFFF, repeats := 1, p1 := 15, p2 := 0, p3 := 0, gap := 16384, outs := [511], tok := ⟨1, 4, 0x0701⟩, b := 4800, g := 480, turn := some (0, 4800) }, 0, 4800, by decide +kernel⟩,
   ⟨runWith fun c => { c with survey := { c.survey with meas := some { kind := 9, level := -6000, post := true, muteOthers := true, mic := 0, repeats := 1, p1 := 15, p2 := 0, p3 := 0, gap := 16384, outs := [511], tok := ⟨1, 4, 0x0701⟩, b := 4800, g := 480, backAt := some 4800, waiting := [(0, [], 0, 0)] } } }, { kind := 9, level := -6000, post := true, muteOthers := true, mic := 0, repeats := 1, p1 := 15, p2 := 0, p3 := 0, gap := 16384, outs := [511], tok := ⟨1, 4, 0x0701⟩, b := 4800, g := 480, backAt := some 4800, waiting := [(0, [], 0, 0)] }, 0, 0, 0, [], [], by decide +kernel⟩,
   ⟨runWith fun c => { c with survey := { c.survey with meas := some { kind := 3, level := -6000, post := true, muteOthers := true, mic := 1, repeats := 1, p1 := 15, p2 := 0, p3 := 0, gap := 16384, outs := [511], tok := ⟨1, 4, 0x0701⟩, b := 800, g := 480, backAt := some 4320 } } }, { kind := 3, level := -6000, post := true, muteOthers := true, mic := 1, repeats := 1, p1 := 15, p2 := 0, p3 := 0, gap := 16384, outs := [511], tok := ⟨1, 4, 0x0701⟩, b := 800, g := 480, backAt := some 4320 }, 4320, by decide +kernel⟩,
   ⟨runWith fun c => { c with survey := { c.survey with meas := some { kind := 3, level := -6000, post := true, muteOthers := true, mic := 1, repeats := 1, p1 := 15, p2 := 0, p3 := 0, gap := 16384, outs := [511], tok := ⟨1, 4, 0x0701⟩, b := 800, g := 480 } } }, pk [], { kind := 3, level := -6000, post := true, muteOthers := true, mic := 1, repeats := 1, p1 := 15, p2 := 0, p3 := 0, gap := 16384, outs := [511], tok := ⟨1, 4, 0x0701⟩, b := 800, g := 480 }, by decide +kernel⟩,
   ⟨runWith fun c => { c with survey := { c.survey with results := [(16 * 511 + 15, some ⟨7, -3, 8, [], [5, -6]⟩)] } }, pk [511, 15, 15384, 1000], ⟨7, -3, 8, [], [5, -6]⟩, by decide +kernel⟩,
   ⟨runWith fun c => { c with survey := { c.survey with results := [(16 * 511 + 15, some ⟨7, -3, 8, [-1, 2], [5, -6]⟩)] } }, pk [511, 15], ⟨7, -3, 8, [-1, 2], [5, -6]⟩, by decide +kernel⟩,
   ⟨runWith fun c => { c with survey := { c.survey with results := [(16 * 511 + 15, some ⟨7, -3, 8, [-1, 2], [5, -6]⟩)] } }, pk [511, 15, 40], by decide +kernel⟩,
   ⟨runWith fun c => { c with survey := { c.survey with store := some (⟨1, 4, 0x0705⟩, 16, 40), results := [(16, some ⟨7, -3, 8, [-1, 2], [5, -6]⟩)] } }, ⟨1, 4, 0x0705⟩, 16, 40, ⟨7, -3, 8, [-1, 2], [5, -6]⟩, by decide +kernel⟩,
   ⟨runWith fun c => { c with survey := { c.survey with results := [(16 * 511 + 15, some ⟨7, -3, 0, [-1, 2], [5, -6]⟩)] } }, pk [511, 0x8000, 40, 8192, 1, 5, 20, 20000, 600, 2400, 2, 1, 0, 2, 0xFFFFFFFF], [(1, 0), (2, -1)], by decide +kernel⟩,
   ⟨runWith fun c => { c with survey := { c.survey with design := some { tok := ⟨1, 4, 0x0710⟩, out := 511, mask := 1, item := 40, taps := 512, linear := true, smooth := 0, fLo := 20, fHi := 20000, boost := 600, cut := 2400, points := [(1, 0), (2, 0)] } } }, { tok := ⟨1, 4, 0x0710⟩, out := 511, mask := 1, item := 40, taps := 512, linear := true, smooth := 0, fLo := 20, fHi := 20000, boost := 600, cut := 2400, points := [(1, 0), (2, 0)] }, by decide +kernel⟩⟩

/-- States and operands that meet the hypotheses of SurveyLiveCompletes. -/
theorem witness_SurveyLiveCompletes :
    (∃ (s : State) (p : Packet), let c := s.core.offered opLiveConfig p; let r := reqOf opLiveConfig p; s.core.admits opLiveConfig
        p = true ∧ s.quiet = true ∧ c.clk.mult ≠ 2 ∧ 50 ≤ r.n 0 ∧ r.n 0 ≤ 99 ∧ r.n 1 ≤ 300 ∧ r.n 2 ≤ 600 ∧ r.n 3 ≤ 100 ∧ 1 ≤ r.n 4
        ∧ r.n 4 ≤ 100 ∧ 10 ≤ r.n 5 ∧ r.n 5 ≤ 600 ∧ 16 ≤ r.n 6 ∧ r.n 6 ≤ 4096 ∧ r.n 6 % 16 = 0 ∧ 1 ≤ r.n 7 ∧ r.n 7 ≤ 16 ∧ 1 ≤ r.n 8
        ∧ r.n 8 ≤ 64) ∧
    (∃ (s : State) (p : Packet) (mics : List (Nat × Nat)), let c := s.core.offered opLiveOutputSet p;
        let r := reqOf opLiveOutputSet p; s.core.admits opLiveOutputSet p = true ∧ s.quiet = true ∧ c.clk.mult ≠ 2 ∧ r.bytes.length
        = 8 + 4 * (maskChannels (bitsOf (r.w 1) 31 16)).length ∧ bitsOf (r.w 1) 15 2 = 0 ∧ r.n 0 < c.caps.outs ∧ (mics =
        (maskChannels (bitsOf (r.w 1) 31 16)).zipIdx.map fun x => (x.1, r.n (2 + x.2))) ∧ mics.all (fun m => decide (m.2 ≤ 32767))
        = true ∧ bitOf (r.w 1) 0 = true ∧ (c.liveOut (r.n 0)).managed = true ∧ (((c.managed.filter fun x => decide (x.1 ≠ r.n
        0)).foldl (fun a x => a + x.2.mics.length) mics.length) ≤ 2048)) ∧
    (∃ (s : State) (p : Packet), let c := s.core.offered opLiveOutputSet p; let r := reqOf opLiveOutputSet p; s.core.admits
        opLiveOutputSet p = true ∧ s.quiet = true ∧ c.clk.mult ≠ 2 ∧ r.bytes.length = 8 + 4 * (maskChannels (bitsOf (r.w 1) 31
        16)).length ∧ bitsOf (r.w 1) 15 2 = 0 ∧ r.n 0 < c.caps.outs ∧ maskChannels (bitsOf (r.w 1) 31 16) = [] ∧ bitOf (r.w 1) 0 =
        true ∧ (c.liveOut (r.n 0)).managed = false ∧ (∀ q : Nat, q < 4 → (smGet (fun _ => {}) (chainSet c.out.live (r.n
        0)).sections (12 + q)).bypass = true) ∧ ((c.managed.filter fun x => decide (x.1 ≠ r.n 0)).foldl (fun a x => a +
        x.2.mics.length) 0 ≤ 2048)) ∧
    (∃ (s : State) (p : Packet), let c := s.core.offered opLiveTimingSet p; let r := reqOf opLiveTimingSet p; s.core.admits
        opLiveTimingSet p = true ∧ s.quiet = true ∧ c.clk.mult ≠ 2 ∧ r.n 1 ≤ 1 ∧ r.n 0 ≤ 15 ∧ r.n 2 < c.caps.outs ∧ r.n 3 ≤ 15 ∧
        40960 ≤ r.n 4 ∧ r.n 5 ≤ 32767) ∧
    (∃ (s : State) (p : Packet), let c := s.core.offered opLivePolicySet p; let r := reqOf opLivePolicySet p; s.core.admits
        opLivePolicySet p = true ∧ s.quiet = true ∧ c.clk.mult ≠ 2 ∧ r.n 0 ≤ 2) ∧
    (∃ (s : State) (p : Packet), let c := s.core.offered opLiveRebase p; let r := reqOf opLiveRebase p; s.core.admits opLiveRebase
        p = true ∧ s.quiet = true ∧ c.clk.mult ≠ 2 ∧ c.policy ≠ 0) ∧
    (∃ (s : State) (p : Packet) (x : Proposal), let c := s.core.offered opProposalGet p; let r := reqOf opProposalGet p;
        s.core.admits opProposalGet p = true ∧ s.quiet = true ∧ c.clk.mult ≠ 2 ∧ 1 ≤ r.n 1 ∧ r.n 1 ≤ 64 ∧ r.n 0 + r.n 1 ≤
        c.caps.outs ∧ c.staged? = some x) ∧
    (∃ (s : State) (p : Packet) (x : Proposal), let c := s.core.offered opProposalApply p; let r := reqOf opProposalApply p;
        s.core.admits opProposalApply p = true ∧ s.quiet = true ∧ c.clk.mult ≠ 2 ∧ c.staged? = some x ∧ c.swapCheck 2 (r.n 0) =
        none) ∧
    (∃ (s : State) (p : Packet) (x : Proposal), let c := s.core.offered opProposalDiscard p; let r := reqOf opProposalDiscard p;
        s.core.admits opProposalDiscard p = true ∧ s.quiet = true ∧ c.clk.mult ≠ 2 ∧ c.staged? = some x ∧ x.swapB = none) ∧
    (∃ (s : State) (q : Nat) (x : LiveCfg), s.quiet = true ∧ s.core.now % s.core.windowLen = 0 ∧ s.core.now ≠ 0 ∧ s.core.clk.mult ≠
        2 ∧ s.core.clk.mediaOn = true ∧ s.core.policy = 0 ∧ s.core.survey.policyNext = some q ∧ s.core.survey.cfgNext = some x ∧ 1
        ≤ q ∧ q ≤ 2) ∧
    (∃ (s : State), s.quiet = true ∧ s.core.now % s.core.windowLen = 0 ∧ s.core.now ≠ 0 ∧ s.core.clk.mult ≠ 2 ∧ s.core.clk.mediaOn
        = true ∧ s.core.policy ≠ 0 ∧ s.core.windowWhole (s.core.now - s.core.windowLen) = true) ∧
    (∃ (s : State) (x : Proposal), s.quiet = true ∧ s.core.survey.proposal = some x ∧ x.staged = none ∧ (s.core.outAdmit
        s.core.out.staged).1 = .ok ∧ s.core.policy ≠ 2) ∧
    (∃ (s : State) (x : Proposal), s.quiet = true ∧ s.core.survey.proposal = some x ∧ x.staged = none ∧ (s.core.outAdmit
        s.core.out.staged).1 = .ok ∧ s.core.policy = 2) ∧
    (∃ (s : State) (x : Proposal) (n : Nat), s.quiet = true ∧ s.core.survey.proposal = some x ∧ x.staged = some n ∧ n +
        s.core.survey.cfg.ttl * s.core.fsHz ≤ s.core.now ∧ x.swapB = none) ∧
    (∃ (s : State), s.quiet = true ∧ s.core.flag F.SYS_STATUS_VIN_WARN = false) ∧
    (∃ (s : State) (p : Packet) (x : SurveyLog), let c := s.core.offered opSurveyLogRead p; let r := reqOf opSurveyLogRead p;
        s.core.admits opSurveyLogRead p = true ∧ s.quiet = true ∧ c.clk.mult ≠ 2 ∧ r.n 2 = 1 ∧ c.logOldest ≤ r.n 0 + 2 ^ 32 * r.n 1
        ∧ r.n 0 + 2 ^ 32 * r.n 1 < c.survey.logNext ∧ smGet (fun _ => none) c.survey.log ((r.n 0 + 2 ^ 32 * r.n 1) % surveyRing) =
        some x) ∧
    (∃ (s : State) (p : Packet), let c := s.core.offered opSurveyLogInfo p; let r := reqOf opSurveyLogInfo p; s.core.admits
        opSurveyLogInfo p = true ∧ s.quiet = true ∧ c.clk.mult ≠ 2) :=
  ⟨⟨tRun, pk [50, 300, 600, 100, 100, 600, 4096, 16, 64], by decide +kernel⟩,
   ⟨runWith fun c => c.setLiveOut 511 { managed := true }, pk [511, 0x80010003, 32767, 1], [(0, 32767), (15, 1)], by decide +kernel⟩,
   ⟨tRun, pk [511, 3], by decide +kernel⟩,
   ⟨tRun, pk [15, 1, 511, 15, 40960, 32767], by decide +kernel⟩,
   ⟨tRun, pk [2], by decide +kernel⟩,
   ⟨runWith fun c => c.setF F.SURVEY_STATUS_POLICY 1, pk [], by decide +kernel⟩,
   ⟨runWith fun c => { c with survey := { c.survey with proposal := some { changes := [⟨511, 4, 0, 7⟩], staged := some 4000 } } }, pk [511, 1], { changes := [⟨511, 4, 0, 7⟩], staged := some 4000 }, by decide +kernel⟩,
   ⟨runWith fun c => { c.setF (stagedReady 1) 1 with survey := { c.survey with proposal := some { changes := [⟨511, 4, 0, 7⟩], staged := some 4000 } } }, pk [0], { changes := [⟨511, 4, 0, 7⟩], staged := some 4000 }, by decide +kernel⟩,
   ⟨runWith fun c => { c with survey := { c.survey with proposal := some { changes := [⟨511, 4, 0, 7⟩], staged := some 4000 } } }, pk [], { changes := [⟨511, 4, 0, 7⟩], staged := some 4000 }, by decide +kernel⟩,
   ⟨runWith fun c => { c with time := { c.time with n := 196608 }, survey := { c.survey with cfgNext := some {}, policyNext := some 2 } }, 2, {}, by decide +kernel⟩,
   ⟨runWith fun c => { c.setF F.SURVEY_STATUS_POLICY 1 with time := { c.time with n := 196608 } }, by decide +kernel⟩,
   ⟨runWith fun c => { c.setF F.HEALTH_CAPACITY_BRUSH 63 with survey := { c.survey with proposal := some { changes := [] } } }, { changes := [] }, by decide +kernel⟩,
   ⟨runWith fun c => { (c.setF F.HEALTH_CAPACITY_BRUSH 63).setF F.SURVEY_STATUS_POLICY 2 with survey := { c.survey with proposal := some { changes := [] } } }, { changes := [] }, by decide +kernel⟩,
   ⟨runWith fun c => { c with time := { c.time with n := 120 * 48000 + 16 }, survey := { c.survey with proposal := some { changes := [], staged := some 16 } } }, { changes := [], staged := some 16 }, 16, by decide +kernel⟩,
   ⟨runWith fun c => { c with survey := { c.survey with logNext := 262143, logHeld := [{ count := 1, kind := 9, policy := 0 }, { count := 2, kind := 9, policy := 0 }] } }, by decide +kernel⟩,
   ⟨runWith fun c => { c with survey := { c.survey with logNext := 262145, log := [(0, some { count := 1, kind := 9, policy := 0 })] } }, pk [262144, 0, 1], { count := 1, kind := 9, policy := 0 }, by decide +kernel⟩,
   ⟨tRun, pk [], by decide +kernel⟩⟩

/-- States and operands that meet the hypotheses of DetectorsAndPdmComplete. -/
theorem witness_DetectorsAndPdmComplete :
    (∃ (s : State) (p : Packet) (n : Nat), let c := s.core.offered opDetectorGet p; let r := reqOf opDetectorGet p; s.core.admits
        opDetectorGet p = true ∧ s.quiet = true ∧ c.clk.mult ≠ 2 ∧ n < 16) ∧
    (∃ (s : State) (p : Packet), let c := s.core.offered opDetectorConfig p; let r := reqOf opDetectorConfig p; s.core.admits
        opDetectorConfig p = true ∧ s.quiet = true ∧ c.clk.mult ≠ 2 ∧ bitsOf (r.w 0) 7 3 = 0 ∧ bitsOf (r.w 0) 31 28 = 0 ∧ bitsOf
        (r.w 0) 2 0 ≤ 6 ∧ bitsOf (r.w 0) 15 8 ≠ 0 ∧ bitsOf (r.w 0) 27 16 ≠ 0) ∧
    (∃ (s : State) (n : Nat), s.quiet = true ∧ n < 16 ∧ s.core.rmsLen ≤ (smGet (fun _ => (0, 0)) s.core.survey.rms n).2) ∧
    (∃ (s : State) (p : Packet) (n : Nat), let c := s.core.offered opPdmConfig p; let r := reqOf opPdmConfig p; s.core.admits
        opPdmConfig p = true ∧ s.quiet = true ∧ c.clk.mult ≠ 2 ∧ r.w 0 &&& 0xFFFFCCCC = 0 ∧ (∀ n : Nat, n < 16 → r.w (1 + n) &&&
        0xFF00F008 = 0) ∧ n < 16) ∧
    (∃ (s : State) (p : Packet) (k : Nat), let c := s.core.offered opPdmFirLoad p; let r := reqOf opPdmFirLoad p; s.core.admits
        opPdmFirLoad p = true ∧ s.quiet = true ∧ c.clk.mult ≠ 2 ∧ (∀ k : Nat, k < 32 → (sext? 24 (r.w k)).isSome = true) ∧ (∀ n :
        Nat, n < 16 → c.flag (F.PDM_CH_CTRL_EN n) = false) ∧ k < 32) ∧
    (∃ (s : State) (n : Nat), s.quiet = true ∧ n < 16 ∧ (s.core.pdm n).hold = some 0) ∧
    (∃ (s : State) (n : Nat), s.quiet = true ∧ n < 16 ∧ (s.core.pdm n).run.isSome = true ∧ (s.core.pdm n).stuck = false) ∧
    (∃ (s : State) (n : Nat), s.quiet = true ∧ n < 16 ∧ (s.core.pdm n).stuck = true) :=
  ⟨⟨runWith fun c => c.setF (F.SURVEY_DET_PEAK_PEAK 15) 7, pk [], 15, by decide +kernel⟩,
   ⟨tRun, pk [0x0FFFFF06], by decide +kernel⟩,
   ⟨runWith fun c => { c with survey := { c.survey with rms := [(15, (1000000, 65536))] } }, 15, by decide +kernel⟩,
   ⟨tRun, pk (0x3333 :: List.replicate 16 0x00FF0FF7), 15, by decide +kernel⟩,
   ⟨tRun, pk (List.replicate 32 0xFF800000), 31, by decide +kernel⟩,
   ⟨runWith fun c => c.setPdm 15 { hold := some 0 }, 15, by decide +kernel⟩,
   ⟨runWith fun c => c.setPdm 15 { run := some (0, 0, 48000) }, 15, by decide +kernel⟩,
   ⟨runWith fun c => c.setPdm 15 { run := some (0, 0, 48000), stuck := true }, 15, by decide +kernel⟩⟩

/-- States and operands that meet the hypotheses of TdmPortsComplete. -/
theorem witness_TdmPortsComplete :
    (∃ (s : State) (p : Packet), let c := s.core.offered opPortConfig p; let r := reqOf opPortConfig p; s.core.admits opPortConfig
        p = true ∧ s.quiet = true ∧ r.n 0 ≤ 7 ∧ (c.tdm (r.n 0)).inReset = false ∧ portCheck c.clk.mult (r.w 1) (r.w 2) (r.w 3) =
        none) ∧
    (∃ (s : State) (p : Packet), let c := s.core.offered opPortStatus p; let r := reqOf opPortStatus p; s.core.admits opPortStatus
        p = true ∧ s.quiet = true ∧ r.n 0 ≤ 7) ∧
    (∃ (s : State) (port j : Nat) (edge gapless : Bool) (phase : Nat) (ws : List Nat) (x : Word × Word × Word), s.quiet = true ∧
        port ≤ 7 ∧ s.core.portRun port = some x ∧ bitOf x.1 1 = false ∧ j < s.core.blk ∧ edge = true ∧ s.core.portSt port = 2) ∧
    (∃ (s : State) (port j : Nat) (edge gapless : Bool) (phase : Nat) (ws : List Nat) (x : Word × Word × Word), s.quiet = true ∧
        port ≤ 7 ∧ s.core.portRun port = some x ∧ bitOf x.1 1 = false ∧ j < s.core.blk ∧ edge = false) ∧
    (∃ (s : State) (port j : Nat) (ws : List Nat) (x : Word × Word × Word), s.quiet = true ∧ port ≤ 7 ∧ s.core.portRun port = some
        x ∧ bitOf x.1 1 = true ∧ s.core.tdmReleased port = false ∧ j < s.core.blk ∧ s.core.portSt port = 2) ∧
    (∃ (s : State) (port j : Nat), s.quiet = true ∧ port ≤ 7 ∧ (s.core.portRun port).any (fun x => !bitOf x.1 1) = true ∧
        s.core.portSt port = 2) ∧
    (∃ (s : State) (port j cycles : Nat), s.quiet = true ∧ port ≤ 7 ∧ (s.core.portRun port).any (fun x => !bitOf x.1 1) = true ∧
        s.core.portSt port = 2) ∧
    (∃ (s : State) (port : Nat), s.quiet = true ∧ port ≤ 7 ∧ (s.core.portRun port).isSome = true ∧ s.core.portSt port = 5 ∧ 64 ≤
        s.core.f (F.PORTS_TDM_STATE_GOOD port)) :=
  ⟨⟨tRun, pk [7, 0x205, 1, 1], by decide +kernel⟩,
   ⟨runWith fun c => c.put (R.PORTS_TDM_SLIP 7) 5, pk [7], by decide +kernel⟩,
   ⟨runWith fun c => (c.setTdm 7 { run := some (0x205, 1, 1) }).portState 7 2, 7, 15, true, true, 700, [0x80000000], (0x205, 1, 1), by decide +kernel⟩,
   ⟨runWith fun c => (c.setTdm 7 { run := some (0x205, 1, 1) }).portState 7 2, 7, 15, false, true, 700, [], (0x205, 1, 1), by decide +kernel⟩,
   ⟨runWith fun c => (c.setTdm 7 { run := some (0x207, 1, 1) }).portState 7 2, 7, 15, [0x80000000], (0x207, 1, 1), by decide +kernel⟩,
   ⟨runWith fun c => (c.setTdm 7 { run := some (0x205, 1, 1) }).portState 7 2, 7, 3, by decide +kernel⟩,
   ⟨runWith fun c => (c.setTdm 7 { run := some (0x205, 1, 1) }).portState 7 2, 7, 3, 16367, by decide +kernel⟩,
   ⟨runWith fun c => ((c.setTdm 7 { run := some (0x205, 1, 1) }).portState 7 5).setF (F.PORTS_TDM_STATE_GOOD 7) 64, 7, by decide +kernel⟩⟩

/-- States and operands that meet the hypotheses of ArmatureCommandsComplete. -/
theorem witness_ArmatureCommandsComplete :
    (∃ (s : State) (num n : Nat), s.quiet = true ∧ smGet (fun _ => none) s.core.arm.marks num = some n ∧ n + s.core.f
        F.ARMATURE_NONPCM_HOLD_SAMPLES ≤ s.core.now) ∧
    (∃ (s : State) (m : Nat) (v : Word), let c := s.core.written ⟨m, R.ARMATURE_FIRST_NONPCM, v⟩ 0; s.core.serves m
        R.ARMATURE_FIRST_NONPCM = true ∧ s.quiet = true ∧ bitOf v 30 = true) ∧
    (∃ (s : State) (p : Packet), let c := s.core.offered opNonpcmGet p; let r := reqOf opNonpcmGet p; s.core.admits opNonpcmGet p =
        true ∧ s.quiet = true) ∧
    (∃ (s : State) (n j raw : Nat), s.quiet = true ∧ n ≤ 255 ∧ s.core.flag (F.ARMATURE_DP_CTRL_ACTIVE n) = true ∧ s.core.flag
        (F.ARMATURE_DP_CTRL_TRANSPARENT n) = true ∧ j < s.core.blk ∧ (s.core.dp n).lost = false ∧ s.core.clk.dpCut = false) ∧
    (∃ (s : State) (n j raw : Nat), s.quiet = true ∧ n ≤ 255 ∧ s.core.flag (F.ARMATURE_DP_CTRL_ACTIVE n) = true ∧ s.core.flag
        (F.ARMATURE_DP_CTRL_TRANSPARENT n) = false ∧ j < s.core.blk ∧ (s.core.dp n).lost = false ∧ (s.core.dp n).nonpcm = false) ∧
    (∃ (s : State) (p : Packet), let c := s.core.offered opRouteBegin p; let r := reqOf opRouteBegin p; s.core.admits opRouteBegin
        p = true ∧ s.quiet = true ∧ r.n 0 ≤ 1 ∧ c.armBusy = false) ∧
    (∃ (s : State) (p : Packet) (d : Nat), let c := s.core.offered opRouteSet p; let r := reqOf opRouteSet p; s.core.admits
        opRouteSet p = true ∧ s.quiet = true ∧ 1 ≤ r.n 0 ∧ r.n 0 ≤ 1024 ∧ r.bytes.length = 4 + 4 * r.n 0 ∧ (r.words.drop 1).all
        routeOk = true ∧ c.armBusy = false) ∧
    (∃ (s : State) (p : Packet), let c := s.core.offered opRouteCommit p; let r := reqOf opRouteCommit p; s.core.admits
        opRouteCommit p = true ∧ s.quiet = true ∧ c.armBusy = false) ∧
    (∃ (s : State) (k : Tok), s.quiet = true ∧ s.core.arm.commit = some k) ∧
    (∃ (s : State) (p : Packet), let c := s.core.offered opRouteGet p; let r := reqOf opRouteGet p; s.core.admits opRouteGet p =
        true ∧ s.quiet = true ∧ r.n 0 ≤ 1 ∧ 1 ≤ r.n 2 ∧ r.n 2 ≤ 1024 ∧ r.n 1 + r.n 2 ≤ 8192) ∧
    (∃ (s : State) (p : Packet), let c := s.core.offered opRouteNow p; let r := reqOf opRouteNow p; s.core.admits opRouteNow p =
        true ∧ s.quiet = true ∧ 1 ≤ r.n 1 ∧ r.n 1 ≤ 1024 ∧ r.bytes.length = 8 + 4 * r.n 1 ∧ c.arm.edited = false ∧ c.armBusy =
        false ∧ (r.words.drop 2).all routeOk = true ∧ (c.routeAdmit (writeRoutes c.arm.live (r.words.drop 2))).1 = .ok ∧ r.n 0 % 16
        = 0 ∧ r.n 0 ≤ 4096) ∧
    (∃ (s : State) (p : Packet) (g : Int), let c := s.core.offered opDirectGain p; let r := reqOf opDirectGain p; s.core.admits
        opDirectGain p = true ∧ s.quiet = true ∧ sext? 24 (r.w 2) = some g ∧ r.n 3 ≤ 1 ∧ 1 ≤ r.n 1 ∧ r.n 0 + r.n 1 ≤ 256 ∧
        (List.range (r.n 1)).all (fun i => !c.flag (F.ARMATURE_DP_CTRL_TRANSPARENT (i + r.n 0))) = true) ∧
    (∃ (s : State) (n : Nat) (q : DirectReq), s.quiet = true ∧ n ≤ 255 ∧ s.core.arm.dpReqs = [q] ∧ n ∈ q.todo ∧ q.b ≤ s.core.now) ∧
    (∃ (s : State) (p : Packet), let c := s.core.offered opDirectGet p; let r := reqOf opDirectGet p; s.core.admits opDirectGet p =
        true ∧ s.quiet = true ∧ r.n 0 ≤ 255) ∧
    (∃ (s : State) (p : Packet), let c := s.core.offered opGroupSet p; let r := reqOf opGroupSet p; s.core.admits opGroupSet p =
        true ∧ s.quiet = true ∧ r.n 0 ≤ 31 ∧ r.n 1 ≤ 256 ∧ r.bytes.length = 8 + 4 * r.n 1 ∧ ((r.words.drop 2).all (fun w => decide
        (w.toNat ≤ 255 ∧ (c.groupOf w.toNat = none ∨ c.groupOf w.toNat = some (r.n 0)))) = true)) ∧
    (∃ (s : State) (g b : Nat) (l : List Nat) (k : Tok), s.quiet = true ∧ g ≤ 31 ∧ s.core.arm.groupNext = [(b, g, l, k)] ∧ b ≤
        s.core.now) ∧
    (∃ (s : State) (p : Packet) (x : Nat), let c := s.core.offered opMeterGet p; let r := reqOf opMeterGet p; s.core.admits
        opMeterGet p = true ∧ s.quiet = true ∧ 1 ≤ r.n 1 ∧ r.n 1 ≤ 256 ∧ r.n 0 + r.n 1 ≤ 4096 ∧ r.n 0 ≤ x ∧ x < r.n 0 + r.n 1) ∧
    (∃ (s : State) (p : Packet), let c := s.core.offered opMeterConfig p; let r := reqOf opMeterConfig p; s.core.admits
        opMeterConfig p = true ∧ s.quiet = true ∧ bitsOf (r.w 0) 7 3 = 0 ∧ bitsOf (r.w 0) 31 16 = 0 ∧ bitsOf (r.w 0) 2 0 ≤ 6) ∧
    (∃ (s : State) (p : Packet) (x : Nat), let c := s.core.offered opMeterHold p; let r := reqOf opMeterHold p; s.core.admits
        opMeterHold p = true ∧ s.quiet = true ∧ 1 ≤ r.n 1 ∧ r.n 0 + r.n 1 ≤ 4096 ∧ r.n 0 ≤ x ∧ x < r.n 0 + r.n 1 ∧ srcIssued x =
        true) ∧
    (∃ (s : State) (num which : Nat), s.quiet = true ∧ num ≤ 4095 ∧ srcIssued num = true ∧ which = 0 ∧ s.core.f
        F.ARMATURE_METER_CTRL_HOLD ≠ 0 ∧ 10 * (smGet (fun _ => {}) s.core.arm.meters num).hold.2 + s.core.f
        F.ARMATURE_METER_CTRL_HOLD * s.core.fsHz ≤ 10 * s.core.now) :=
  ⟨⟨runWith fun c => { c.setF F.ARMATURE_NONPCM_HOLD_SAMPLES 4096 with arm := { c.arm with marks := [(0x0FF, some 704)] } }, 0xFF, 704, by decide +kernel⟩,
   ⟨runWith fun c => c.setF F.ARMATURE_FIRST_NONPCM_VALID 1, 0, 0x40000000, by decide +kernel⟩,
   ⟨tRun, pk [], by decide +kernel⟩,
   ⟨runWith fun c => (c.setF (F.ARMATURE_DP_CTRL_ACTIVE 255) 1).setF (F.ARMATURE_DP_CTRL_TRANSPARENT 255) 1, 255, 15, 0xFFFFFFFF, by decide +kernel⟩,
   ⟨runWith fun c => c.setF (F.ARMATURE_DP_CTRL_ACTIVE 255) 1, 255, 15, 0xFFFFFFFF, by decide +kernel⟩,
   ⟨runWith fun c => { c with arm := { c.arm with live := [(0, 5)] } }, pk [1], by decide +kernel⟩,
   ⟨tRun, pk [2, 0x00050000, 0x8FF18FF], 0x18FF, by decide +kernel⟩,
   ⟨tRun, pk [], by decide +kernel⟩,
   ⟨runWith fun c => { c with arm := { c.arm with commit := some ⟨1, 4, 0x0512⟩ } }, ⟨1, 4, 0x0512⟩, by decide +kernel⟩,
   ⟨runWith fun c => { c with arm := { c.arm with staged := [(8191, 5)] } }, pk [1, 8190, 2], by decide +kernel⟩,
   ⟨tRun, pk [4096, 1, 0x00050001], by decide +kernel⟩,
   ⟨tRun, pk [255, 1, 0xFF800000, 1], -8388608, by decide +kernel⟩,
   ⟨runWith fun c => { c with arm := { c.arm with dpReqs := [⟨4800, 255, 1, -5, true, [255], ⟨1, 4, 0x0520⟩⟩] } }, 255, ⟨4800, 255, 1, -5, true, [255], ⟨1, 4, 0x0520⟩⟩, by decide +kernel⟩,
   ⟨tRun, pk [255], by decide +kernel⟩,
   ⟨tRun, pk [31, 2, 255, 0], by decide +kernel⟩,
   ⟨runWith fun c => { c with arm := { c.arm with groupNext := [(4800, 31, [255], ⟨1, 4, 0x0530⟩)] } }, 31, 4800, [255], ⟨1, 4, 0x0530⟩, by decide +kernel⟩,
   ⟨runWith fun c => c.put (R.ARMATURE_METER_PEAK 0xC3F) 7, pk [0xC3F, 2], 0xC3F, by decide +kernel⟩,
   ⟨tRun, pk [0xFF06], by decide +kernel⟩,
   ⟨tRun, pk [0xC3F, 2], 0xC3F, by decide +kernel⟩,
   ⟨runWith fun c => c.setF F.ARMATURE_METER_CTRL_HOLD 1, 0xC3F, 0, by decide +kernel⟩⟩

/-- States and operands that meet the hypotheses of NetworkPortsComplete. -/
theorem witness_NetworkPortsComplete :
    (∃ (s : State) (port : Nat) (los : Bool) (id : List Byte), s.quiet = true ∧ port ≤ 3 ∧ smGet (fun _ => none) s.core.power.cages
        port = none ∧ 3 ≤ s.core.power.step ∧ s.core.gated (R.NET_STATUS port) = false) ∧
    (∃ (s : State) (port : Nat), s.quiet = true ∧ port ≤ 3 ∧ (smGet (fun _ => none) s.core.power.cages port).isSome = true ∧ 3 ≤
        s.core.power.step ∧ s.core.gated (R.NET_STATUS port) = false) ∧
    (∃ (s : State) (port : Nat) (level : Bool), s.quiet = true ∧ port ≤ 3 ∧ smGet (fun _ => none) s.core.power.cages port = some
        (!level) ∧ 3 ≤ s.core.power.step ∧ s.core.gated (R.NET_STATUS port) = false) ∧
    (∃ (s : State) (port : Nat), s.quiet = true ∧ port ≤ 3 ∧ s.core.gated (R.NET_STATUS port) = false ∧ s.core.flag (F.NET_CTRL_EN
        port) = true ∧ s.core.flag (F.NET_STATUS_SFP_PRESENT port) = true ∧ s.core.flag (F.NET_STATUS_LINK_UP port) = false ∧
        (s.core.netPort port).inReset = false) ∧
    (∃ (s : State) (port : Nat), s.quiet = true ∧ port ≤ 3 ∧ s.core.flag (F.NET_STATUS_LINK_UP port) = true) ∧
    (∃ (s : State) (port len fcs before : Nat) (bytes : List Byte), s.quiet = true ∧ port ≤ 3 ∧ s.core.flag (F.NET_STATUS_LINK_UP
        port) = true ∧ 64 ≤ len ∧ len ≤ s.core.f (F.NET_MAX_FRAME_BYTES port) ∧ fcs = 0) ∧
    (∃ (s : State) (port len fcs before err : Nat) (bytes : List Byte), s.quiet = true ∧ port ≤ 3 ∧ s.core.flag
        (F.NET_STATUS_LINK_UP port) = true ∧ ((if len < 64 then (if fcs = 0 then R.NET_RX_UNDERSIZE port else R.NET_RX_FRAGMENT
        port) else if s.core.f (F.NET_MAX_FRAME_BYTES port) < len then R.NET_RX_OVERSIZE port else R.NET_RX_FCS port) = err) ∧ (len
        < 64 ∨ s.core.f (F.NET_MAX_FRAME_BYTES port) < len ∨ fcs ≠ 0)) ∧
    (∃ (s : State) (port quanta : Nat), s.quiet = true ∧ port ≤ 3 ∧ s.core.flag (F.NET_STATUS_LINK_UP port) = true) ∧
    (∃ (s : State) (port : Nat), s.quiet = true ∧ port ≤ 3) ∧
    (∃ (s : State) (port : Nat), s.quiet = true ∧ port ≤ 3 ∧ s.core.flag (F.NET_STATUS_PAUSING port) = true ∧ 1024 * s.core.f
        (F.NET_PAUSE_LOW port) < (s.core.netPort port).fill ∧ s.core.flag (F.NET_CTRL_TX_PAUSE_EN port) = true) ∧
    (∃ (s : State) (port : Nat), s.quiet = true ∧ port ≤ 3 ∧ s.core.flag (F.NET_STATUS_PAUSING port) = true) ∧
    (∃ (s : State) (port ip : Nat), s.quiet = true ∧ port ≤ 3 ∧ port ≠ 2 ∧ s.core.flag (F.NET_STATUS_LINK_UP port) = true ∧
        s.core.ownIp port ip = true ∧ s.core.f (F.NET_MAX_FRAME_BYTES port) ≥ 1518) ∧
    (∃ (s : State) (port ip mac : Nat), s.quiet = true ∧ s.core.flag (F.NET_STATUS_LINK_UP port) = true ∧ ip ∈ s.core.hops port) ∧
    (∃ (s : State) (port : Nat), s.quiet = true ∧ port ≤ 1 ∧ s.core.flag (F.NET_STATUS_LINK_UP port) = true ∧ s.core.f
        (F.NET_MAX_FRAME_BYTES port) ≥ 1518) ∧
    (∃ (s : State) (port dst : Nat) (data : List Byte), s.quiet = true ∧ port ≤ 3 ∧ port ≠ 2 ∧ s.core.flag (F.NET_STATUS_LINK_UP
        port) = true ∧ s.core.ownIp port dst = true ∧ ((s.core.netPort port).echo.1 ≠ s.core.time.cycles / 250000000 ∨
        (s.core.netPort port).echo.2 < 100) ∧ data.length ≤ 1400 ∧ s.core.f (F.NET_MAX_FRAME_BYTES port) ≥ 1518) ∧
    (∃ (s : State) (port : Nat), s.quiet = true ∧ port ≤ 1 ∧ s.core.flag (F.NET_STATUS_LINK_UP port) = true ∧ s.core.f
        (F.NET_MAX_FRAME_BYTES port) ≥ 1518) ∧
    (∃ (s : State) (port m : Nat) (v : Word), let c := s.core.written ⟨m, R.NET_MAX_FRAME port, v⟩ 0x3FFF; s.core.serves m
        (R.NET_MAX_FRAME port) = true ∧ s.quiet = true ∧ port ≤ 3 ∧ port ≠ 2) ∧
    (∃ (s : State) (port m : Nat) (v : Word), let c := s.core.written ⟨m, R.NET_CTRL port, v⟩ 0; s.core.serves m (R.NET_CTRL port)
        = true ∧ s.quiet = true ∧ port ≤ 3 ∧ rateOrFec (s.core.get (R.NET_CTRL port)) (c.get (R.NET_CTRL port)) = false) ∧
    (∃ (s : State) (p : Packet), let c := s.core.offered opNetConfig p; let r := reqOf opNetConfig p; s.core.admits opNetConfig p =
        true ∧ s.quiet = true ∧ r.n 0 ≤ 3 ∧ noReserved (r.w 1) 0x3F = true ∧ noReserved (r.w 6) 0xFFFF = true ∧ r.n 0 ≠ 2 ∧ 1518 ≤
        r.n 2 ∧ r.n 2 ≤ 9216 ∧ c.streamsFit (r.n 0) (r.n 2) = true ∧ rateOrFec (c.get (R.NET_CTRL (r.n 0))) (r.w 1) = false) ∧
    (∃ (s : State) (p : Packet) (i : Nat), let c := s.core.offered opNetStatus p; let r := reqOf opNetStatus p; s.core.admits
        opNetStatus p = true ∧ s.quiet = true ∧ r.n 0 ≤ 3 ∧ i < 11) ∧
    (∃ (s : State) (p : Packet), let c := s.core.offered opNetPause p; let r := reqOf opNetPause p; s.core.admits opNetPause p =
        true ∧ s.quiet = true ∧ r.n 0 ≤ 3 ∧ bitsOf (r.w 1) 15 10 = 0 ∧ bitsOf (r.w 1) 31 26 = 0 ∧ r.n 2 < 65536 ∧ bitsOf (r.w 1) 25
        16 ≤ bitsOf (r.w 1) 9 0 ∧ bitsOf (r.w 1) 9 0 ≤ 512 ∧ r.n 3 ≤ 512) :=
  ⟨⟨tRun, 3, true, [3, 4], by decide +kernel⟩,
   ⟨netWith id, 3, by decide +kernel⟩,
   ⟨netWith id, 3, true, by decide +kernel⟩,
   ⟨netWith fun c => c.setF (F.NET_STATUS_LINK_UP 3) 0, 3, by decide +kernel⟩,
   ⟨netWith id, 3, by decide +kernel⟩,
   ⟨netWith id, 3, 1518, 0, 0, List.replicate 1514 255, by decide +kernel⟩,
   ⟨netWith id, 3, 1519, 1, 0, R.NET_RX_OVERSIZE 3, [], by decide +kernel⟩,
   ⟨netWith id, 3, 65535, by decide +kernel⟩,
   ⟨netWith fun c => c.setF (F.NET_STATUS_PAUSED 3) 1, 3, by decide +kernel⟩,
   ⟨netWith fun c => ((c.setF (F.NET_STATUS_PAUSING 3) 1).put (R.NET_CTRL 3) 0x71).setNetPort 3 { fill := 524288 }, 3, by decide +kernel⟩,
   ⟨netWith fun c => (c.setF (F.NET_STATUS_PAUSING 3) 1).setNetPort 3 { fill := 524288 }, 3, by decide +kernel⟩,
   ⟨netWith id, 3, 0x0A000001, by decide +kernel⟩,
   ⟨netWith fun c => { c with net := { c.net with tx := [(255, { defn := txDef.set 6 0x0A000009 })] } }, 0, 0x0A000009, 2 ^ 48 - 1, by decide +kernel⟩,
   ⟨netWith fun c => { c with net := { c.net with tx := [(255, { defn := txDef.set 6 0x0A000009 })] } }, 0, by decide +kernel⟩,
   ⟨netWith fun c => c.setNetPort 3 { echo := (4, 99) }, 3, 0x0A000001, [1, 2], by decide +kernel⟩,
   ⟨netWith fun c => { c with net := { c.net with rx := [(255, { defn := rxDef })] } }, 0, by decide +kernel⟩,
   ⟨netWith fun c => { c with net := { c.net with tx := [(255, { defn := txDef })] } }, 3, 0, 0x3FFF, by decide +kernel⟩,
   ⟨netWith id, 3, 0, 0x30, by decide +kernel⟩,
   ⟨netWith id, pk [3, 0x30, 9216, 1, 2, 3, 0xFFFF], by decide +kernel⟩,
   ⟨netWith fun c => c.put (R.NET_RX_FCS 3 + 40) 7, pk [3], 10, by decide +kernel⟩,
   ⟨netWith id, pk [3, 0x2000200, 0xFFFF, 512], by decide +kernel⟩⟩

/-- States and operands that meet the hypotheses of TransmissionAndStreamsComplete. -/
theorem witness_TransmissionAndStreamsComplete :
    (∃ (s : State) (port : Nat) (f : TxFrame) (u : List TxFrame), s.quiet = true ∧ port ≤ 3 ∧ s.core.flag (F.NET_STATUS_LINK_UP
        port) = true ∧ s.core.flag (F.NET_STATUS_PAUSED port) = false ∧ s.core.gated? port = false ∧ (s.core.netPort port).txq = f
        :: u ∧ f.cls ≤ 7 ∧ u.all (fun g => decide (g.cls ≤ f.cls)) = true) ∧
    (∃ (s : State) (port m : Nat) (v : Word), let c := s.core.written ⟨m, R.NET_GATE_CTRL port, v⟩ (2 ^ 31); s.core.serves m
        (R.NET_GATE_CTRL port) = true ∧ s.quiet = true ∧ port ≤ 3 ∧ bitOf v 31 = true ∧ s.core.flag (F.NET_STATUS_GATE_PENDING
        port) = false ∧ c.adminGood port = true) ∧
    (∃ (s : State) (port at_ : Nat) (k : Option Tok), s.quiet = true ∧ port ≤ 3 ∧ (s.core.netPort port).pending = some (at_, k) ∧
        at_ ≤ s.core.ptpNs) ∧
    (∃ (s : State) (port : Nat), s.quiet = true ∧ port ≤ 3 ∧ s.core.flag (F.NET_STATUS_GATE_RUN port) = true ∧ (s.core.netPort
        port).cycle ≠ 0 ∧ (s.core.netPort port).start < cycleAfter (s.core.netPort port).base (s.core.netPort port).cycle
        s.core.ptpNs - (s.core.netPort port).cycle) ∧
    (∃ (s : State) (p : Packet), let c := s.core.offered opNetGateSet p; let r := reqOf opNetGateSet p; s.core.admits opNetGateSet
        p = true ∧ s.quiet = true ∧ r.n 0 ≤ 3 ∧ r.bytes.length = 28 + 4 * r.n 6 ∧ r.n 1 ≤ 1 ∧ c.flag (F.NET_STATUS_GATE_PENDING
        (r.n 0)) = false ∧ 1 ≤ r.n 6 ∧ r.n 6 ≤ 256 ∧ 1000 ≤ r.n 2 ∧ r.n 2 ≤ 1000000000 ∧ r.n 3 < 1000000000 ∧ r.n 5 < 65536 ∧
        (r.words.drop 7).all (fun w => decide (100 ≤ bitsOf w 31 8)) = true) ∧
    (∃ (s : State) (p : Packet), let c := s.core.offered opNetGateGet p; let r := reqOf opNetGateGet p; s.core.admits opNetGateGet
        p = true ∧ s.quiet = true ∧ r.n 0 ≤ 3 ∧ r.n 1 ≤ 1) ∧
    (∃ (s : State) (p : Packet), let c := s.core.offered opStreamRxSet p; let r := reqOf opStreamRxSet p; s.core.admits
        opStreamRxSet p = true ∧ s.quiet = true ∧ c.streamCheck true (r.words.map (·.toNat)) = .ok) ∧
    (∃ (s : State) (p : Packet), let c := s.core.offered opStreamTxSet p; let r := reqOf opStreamTxSet p; s.core.admits
        opStreamTxSet p = true ∧ s.quiet = true ∧ c.streamCheck false (r.words.map (·.toNat)) = .ok) ∧
    (∃ (s : State) (rx : Bool) (num : Nat) (d : List Nat) (b : Nat) (u : List (List Nat × Nat)), s.quiet = true ∧ rx = true ∧ num ≤
        255 ∧ (s.core.rxStream num).next = (d, b) :: u ∧ b ≤ s.core.now) ∧
    (∃ (s : State) (rx : Bool) (num : Nat) (d : List Nat) (b : Nat) (u : List (List Nat × Nat)), s.quiet = true ∧ rx = false ∧ num
        ≤ 255 ∧ (s.core.txStream num).next = (d, b) :: u ∧ b ≤ s.core.now) ∧
    (∃ (s : State) (p : Packet), let c := s.core.offered opStreamRxGet p; let r := reqOf opStreamRxGet p; s.core.admits
        opStreamRxGet p = true ∧ s.quiet = true ∧ r.n 0 ≤ 255) ∧
    (∃ (s : State) (p : Packet), let c := s.core.offered opStreamTxGet p; let r := reqOf opStreamTxGet p; s.core.admits
        opStreamTxGet p = true ∧ s.quiet = true ∧ r.n 0 ≤ 255) ∧
    (∃ (s : State) (p : Packet) (num : Nat), let c := s.core.offered opStreamStats p; let r := reqOf opStreamStats p; s.core.admits
        opStreamStats p = true ∧ s.quiet = true ∧ r.n 0 = 0 ∧ 1 ≤ r.n 2 ∧ r.n 2 ≤ 64 ∧ r.n 1 + r.n 2 ≤ 256 ∧ r.n 1 ≤ num ∧ num <
        r.n 1 + r.n 2) ∧
    (∃ (s : State) (p : Packet) (num : Nat), let c := s.core.offered opStreamStats p; let r := reqOf opStreamStats p; s.core.admits
        opStreamStats p = true ∧ s.quiet = true ∧ r.n 0 = 1 ∧ 1 ≤ r.n 2 ∧ r.n 2 ≤ 64 ∧ r.n 1 + r.n 2 ≤ 256 ∧ r.n 1 ≤ num ∧ num <
        r.n 1 + r.n 2) ∧
    (∃ (s : State) (port : Nat) (x : Rtp) (j num i k : Nat) (y : RxStream), s.quiet = true ∧ port ≤ 1 ∧ s.core.flag
        (F.NET_STATUS_LINK_UP port) = true ∧ s.core.clk.mediaOn = true ∧ s.core.armed 3 = false ∧ s.core.twinWaits = false ∧
        s.core.net.rx.filter (fun z => legMatches z.2.defn port x.dst x.src x.port x.vid) = [(num, y)] ∧ s.core.rxStream num = y ∧
        num ≤ 255 ∧ j < s.core.blk ∧ (bitsOf (dw y.defn 4) 6 0 = 0 ∨ x.pt = bitsOf (dw y.defn 4) 6 0) ∧ x.payload.length = defCh
        y.defn * packetSamples s.core.clk.mult (defPtime y.defn) * formatBytes (defFormat y.defn) ∧ mediaTime x.ts (y.defn.getD 3
        0) (s.core.time.n + j) + y.off ≤ s.core.time.n + j + earlySpan s.core.clk.mult ∧ i < packetSamples s.core.clk.mult
        (defPtime y.defn) ∧ k < defCh y.defn ∧ defCh y.defn ≤ 64 ∧ 0 ≤ mediaTime x.ts (y.defn.getD 3 0) (s.core.time.n + j) ∧
        y.judged ≤ (mediaTime x.ts (y.defn.getD 3 0) (s.core.time.n + j) + i).toNat ∧ smGet (fun _ => none) y.data (64 * (mediaTime
        x.ts (y.defn.getD 3 0) (s.core.time.n + j) + i).toNat) = none) ∧
    (∃ (s : State) (num leg : Nat), s.quiet = true ∧ num ≤ 255 ∧ leg ≤ 1 ∧ defEn (s.core.rxStream num).defn = true ∧ defLeg
        (s.core.rxStream num).defn leg = true ∧ (if leg = 0 then (s.core.rxStream num).lostA else (s.core.rxStream num).lostB) =
        false ∧ (if leg = 0 then (s.core.rxStream num).lastA else (s.core.rxStream num).lastB) + 25000000 ≤ s.core.time.cycles) ∧
    (∃ (s : State) (num : Nat), s.quiet = true ∧ num ≤ 255 ∧ defEn (s.core.rxStream num).defn = true ∧ s.core.time.n % 65536 = 0) ∧
    (∃ (s : State) (num m : Nat), s.quiet = true ∧ num ≤ 255 ∧ defEn (s.core.txStream num).defn = true ∧ s.core.clk.mediaOn = true
        ∧ (s.core.txStream num).at_ + packetSamples s.core.clk.mult (defPtime (s.core.txStream num).defn) ≤ s.core.net.txEnd ∧
        s.core.twinHeld = false ∧ defLeg (s.core.txStream num).defn 0 = true ∧ s.core.resolve 0 ((s.core.txStream num).defn.getD 6
        0) = some m ∧ s.core.flag (F.NET_STATUS_LINK_UP 0) = true ∧ 64 ≤ s.core.f (F.NET_MAX_FRAME_BYTES 0) ∧ legFrame
        s.core.clk.mult false (s.core.txStream num).defn 0 ≤ s.core.f (F.NET_MAX_FRAME_BYTES 0)) :=
  ⟨⟨netWith fun c => c.setNetPort 3 { txq := [⟨5, 60, .frame 3 5 "ARP reply" [], none, false⟩, ⟨5, 64, .frame 3 5 "ARP reply" [1], none, false⟩] }, 3, ⟨5, 60, .frame 3 5 "ARP reply" [], none, false⟩, [⟨5, 64, .frame 3 5 "ARP reply" [1], none, false⟩], by decide +kernel⟩,
   ⟨netWith fun c => (c.put (R.NET_GATE_CYCLE 3) 1000).put (R.NET_GATE_ADMIN 3 0) 0x64FF, 3, 0, 0x80000101, by decide +kernel⟩,
   ⟨netWith fun c => (c.put (R.NET_GATE_CYCLE 3) 1000).setNetPort 3 { pending := some (0, none) }, 3, 0, none, by decide +kernel⟩,
   ⟨netWith fun c => { (c.setF (F.NET_STATUS_GATE_RUN 3) 1).setNetPort 3 { cycle := 1000, start := 3 } with time := { c.time with ptp := 2 ^ 60 } }, 3, by decide +kernel⟩,
   ⟨netWith id, pk [3, 1, 1000, 999999999, 7, 65535, 2, 0x64FF, 0x650F], by decide +kernel⟩,
   ⟨netWith fun c => c.setF (F.NET_GATE_CTRL_COUNT 3) 2, pk [3, 1], by decide +kernel⟩,
   ⟨netWith id, pk rxDef, by decide +kernel⟩,
   ⟨netWith id, pk txDef, by decide +kernel⟩,
   ⟨netWith fun c => c.setRxStream 255 { next := [(rxDef, 4800)] }, true, 255, rxDef, 4800, [], by decide +kernel⟩,
   ⟨netWith fun c => c.setTxStream 255 { next := [(txDef, 4800)] }, false, 255, txDef, 4800, [], by decide +kernel⟩,
   ⟨netWith fun c => c.setRxStream 255 { defn := rxDef }, pk [255], by decide +kernel⟩,
   ⟨netWith fun c => c.setTxStream 255 { defn := txDef }, pk [255], by decide +kernel⟩,
   ⟨netWith fun c => c.put (R.MEDIA_RX_LATE 255) 7, pk [0, 254, 2], 255, by decide +kernel⟩,
   ⟨netWith fun c => c.put (R.MEDIA_TX_LATE 255) 7, pk [1, 254, 2], 255, by decide +kernel⟩,
   ⟨netWith fun c => c.setRxStream 255 { defn := rxDef, off := 48, judged := 4800 }, 0, ⟨0xEF010203, 5, 5004, none, 97, 3, 4801, (List.range 18).map fun i => .ofNat 8 (i + 200)⟩, 15, 255, 5, 0, { defn := rxDef, off := 48, judged := 4800 }, by decide +kernel⟩,
   ⟨netWith fun c => c.setRxStream 255 { defn := rxDef }, 255, 0, by decide +kernel⟩,
   ⟨netWith fun c => { c.setRxStream 255 { defn := rxDef, margin := some (-40000) } with time := { c.time with n := 65536 } }, 255, by decide +kernel⟩,
   ⟨netWith fun c => { c with net := { c.net with tx := [(255, { defn := txDef, at_ := 4794 })], txEnd := 4800 } }, 255, 0x01005E010203, by decide +kernel⟩⟩

/-- States and operands that meet the hypotheses of BrushVectorInstructionsComplete. -/
theorem witness_BrushVectorInstructionsComplete :
    (∃ (s : State) (k dst sa sb bc : Nat) (ma mb : Nat × Nat × Nat × Nat) (au : Nat × Nat × Nat), let x := s.core.bc k; s.quiet =
        true ∧ s.core.atInstr k (.par 1 dst sa sb bc ma mb au) = true ∧ s.core.slotsGood k ma mb = true) ∧
    (∃ (s : State) (k dst sa sb bc : Nat) (ma mb : Nat × Nat × Nat × Nat) (au : Nat × Nat × Nat), let x := s.core.bc k; s.quiet =
        true ∧ s.core.atInstr k (.par 2 dst sa sb bc ma mb au) = true ∧ s.core.slotsGood k ma mb = true) ∧
    (∃ (s : State) (k dst sa sb bc : Nat) (ma mb : Nat × Nat × Nat × Nat) (au : Nat × Nat × Nat), let x := s.core.bc k; s.quiet =
        true ∧ s.core.atInstr k (.par 3 dst sa sb bc ma mb au) = true ∧ s.core.slotsGood k ma mb = true) ∧
    (∃ (s : State) (k dst sa sb bc : Nat) (ma mb : Nat × Nat × Nat × Nat) (au : Nat × Nat × Nat), let x := s.core.bc k; s.quiet =
        true ∧ s.core.atInstr k (.par 5 dst sa sb bc ma mb au) = true ∧ s.core.slotsGood k ma mb = true) ∧
    (∃ (s : State) (k dst sa sb bc : Nat) (ma mb : Nat × Nat × Nat × Nat) (au : Nat × Nat × Nat), let x := s.core.bc k; s.quiet =
        true ∧ s.core.atInstr k (.par 6 dst sa sb bc ma mb au) = true ∧ s.core.slotsGood k ma mb = true) ∧
    (∃ (s : State) (k dst sa sb bc : Nat) (ma mb : Nat × Nat × Nat × Nat) (au : Nat × Nat × Nat), let x := s.core.bc k; s.quiet =
        true ∧ s.core.atInstr k (.par 7 dst sa sb bc ma mb au) = true ∧ s.core.slotsGood k ma mb = true) ∧
    (∃ (s : State) (k dst sa sb bc : Nat) (ma mb : Nat × Nat × Nat × Nat) (au : Nat × Nat × Nat), let x := s.core.bc k; s.quiet =
        true ∧ s.core.atInstr k (.par 10 dst sa sb bc ma mb au) = true ∧ s.core.slotsGood k ma mb = true) ∧
    (∃ (s : State) (k dst sa sb bc : Nat) (ma mb : Nat × Nat × Nat × Nat) (au : Nat × Nat × Nat), let x := s.core.bc k; s.quiet =
        true ∧ s.core.atInstr k (.par 11 dst sa sb bc ma mb au) = true ∧ s.core.slotsGood k ma mb = true) ∧
    (∃ (s : State) (k dst sa sb bc : Nat) (ma mb : Nat × Nat × Nat × Nat) (au : Nat × Nat × Nat), let x := s.core.bc k; s.quiet =
        true ∧ s.core.atInstr k (.par 8 dst sa sb bc ma mb au) = true ∧ s.core.slotsGood k ma mb = true ∧ loadsReg ma dst = false ∧
        loadsReg mb dst = false) ∧
    (∃ (s : State) (k dst sa sb bc : Nat) (ma mb : Nat × Nat × Nat × Nat) (au : Nat × Nat × Nat), let x := s.core.bc k; s.quiet =
        true ∧ s.core.atInstr k (.par 9 dst sa sb bc ma mb au) = true ∧ s.core.slotsGood k ma mb = true ∧ loadsReg ma dst = false ∧
        loadsReg mb dst = false) ∧
    (∃ (s : State) (k dst sa sb bc : Nat) (ma mb : Nat × Nat × Nat × Nat) (au : Nat × Nat × Nat), let x := s.core.bc k; s.quiet =
        true ∧ s.core.atInstr k (.par 16 dst sa sb bc ma mb au) = true ∧ s.core.slotsGood k ma mb = true ∧ loadsReg ma dst = false
        ∧ loadsReg mb dst = false) ∧
    (∃ (s : State) (k dst sa sb bc : Nat) (ma mb : Nat × Nat × Nat × Nat) (au : Nat × Nat × Nat), let x := s.core.bc k; s.quiet =
        true ∧ s.core.atInstr k (.par 17 dst sa sb bc ma mb au) = true ∧ s.core.slotsGood k ma mb = true ∧ loadsReg ma dst = false
        ∧ loadsReg mb dst = false) ∧
    (∃ (s : State) (k dst sa sb bc : Nat) (ma mb : Nat × Nat × Nat × Nat) (au : Nat × Nat × Nat), let x := s.core.bc k; s.quiet =
        true ∧ s.core.atInstr k (.par 18 dst sa sb bc ma mb au) = true ∧ s.core.slotsGood k ma mb = true ∧ loadsReg ma dst = false
        ∧ loadsReg mb dst = false) ∧
    (∃ (s : State) (k dst sa sb bc : Nat) (ma mb : Nat × Nat × Nat × Nat) (au : Nat × Nat × Nat), let x := s.core.bc k; s.quiet =
        true ∧ s.core.atInstr k (.par 19 dst sa sb bc ma mb au) = true ∧ s.core.slotsGood k ma mb = true ∧ loadsReg ma dst = false
        ∧ loadsReg mb dst = false) ∧
    (∃ (s : State) (k dst sa sb bc : Nat) (ma mb : Nat × Nat × Nat × Nat) (au : Nat × Nat × Nat), let x := s.core.bc k; s.quiet =
        true ∧ s.core.atInstr k (.par 20 dst sa sb bc ma mb au) = true ∧ s.core.slotsGood k ma mb = true ∧ loadsReg ma dst = false
        ∧ loadsReg mb dst = false) ∧
    (∃ (s : State) (k dst sa sb bc : Nat) (ma mb : Nat × Nat × Nat × Nat) (au : Nat × Nat × Nat), let x := s.core.bc k; s.quiet =
        true ∧ s.core.atInstr k (.par 21 dst sa sb bc ma mb au) = true ∧ s.core.slotsGood k ma mb = true ∧ loadsReg ma dst = false
        ∧ loadsReg mb dst = false) ∧
    (∃ (s : State) (k dst sa sb bc : Nat) (ma mb : Nat × Nat × Nat × Nat) (au : Nat × Nat × Nat), let x := s.core.bc k; s.quiet =
        true ∧ s.core.atInstr k (.par 22 dst sa sb bc ma mb au) = true ∧ s.core.slotsGood k ma mb = true ∧ loadsReg ma dst = false
        ∧ loadsReg mb dst = false) ∧
    (∃ (s : State) (k dst sa sb bc : Nat) (ma mb : Nat × Nat × Nat × Nat) (au : Nat × Nat × Nat), let x := s.core.bc k; s.quiet =
        true ∧ s.core.atInstr k (.par 23 dst sa sb bc ma mb au) = true ∧ s.core.slotsGood k ma mb = true ∧ loadsReg ma dst = false
        ∧ loadsReg mb dst = false) ∧
    (∃ (s : State) (k dst sa sb bc : Nat) (ma mb : Nat × Nat × Nat × Nat) (au : Nat × Nat × Nat), let x := s.core.bc k; s.quiet =
        true ∧ s.core.atInstr k (.par 24 dst sa sb bc ma mb au) = true ∧ s.core.slotsGood k ma mb = true ∧ loadsReg ma dst = false
        ∧ loadsReg mb dst = false) ∧
    (∃ (s : State) (k dst sa sb bc : Nat) (ma mb : Nat × Nat × Nat × Nat) (au : Nat × Nat × Nat), let x := s.core.bc k; s.quiet =
        true ∧ s.core.atInstr k (.par 25 dst sa sb bc ma mb au) = true ∧ s.core.slotsGood k ma mb = true ∧ loadsReg ma dst = false
        ∧ loadsReg mb dst = false) ∧
    (∃ (s : State) (k dst sa sb bc : Nat) (ma mb : Nat × Nat × Nat × Nat) (au : Nat × Nat × Nat), let x := s.core.bc k; s.quiet =
        true ∧ s.core.atInstr k (.par 26 dst sa sb bc ma mb au) = true ∧ s.core.slotsGood k ma mb = true ∧ loadsReg ma dst = false
        ∧ loadsReg mb dst = false) ∧
    (∃ (s : State) (k dst sa sb bc : Nat) (ma mb : Nat × Nat × Nat × Nat) (au : Nat × Nat × Nat), let x := s.core.bc k; s.quiet =
        true ∧ s.core.atInstr k (.par 27 dst sa sb bc ma mb au) = true ∧ s.core.slotsGood k ma mb = true ∧ loadsReg ma dst = false
        ∧ loadsReg mb dst = false) ∧
    (∃ (s : State) (k dst sa sb bc : Nat) (ma mb : Nat × Nat × Nat × Nat) (au : Nat × Nat × Nat), let x := s.core.bc k; s.quiet =
        true ∧ s.core.atInstr k (.par 28 dst sa sb bc ma mb au) = true ∧ s.core.slotsGood k ma mb = true ∧ loadsReg ma dst = false
        ∧ loadsReg mb dst = false) ∧
    (∃ (s : State) (k dst sa sb bc : Nat) (ma mb : Nat × Nat × Nat × Nat) (au : Nat × Nat × Nat), let x := s.core.bc k; s.quiet =
        true ∧ s.core.atInstr k (.par 29 dst sa sb bc ma mb au) = true ∧ s.core.slotsGood k ma mb = true ∧ loadsReg ma dst = false
        ∧ loadsReg mb dst = false) :=
  ⟨⟨bcWith (parWord 1 0 0 8 0 (1, 3, 0, 11) (2, 4, 1, 9) (4, 2, 0)) id, 67, 0, 0, 8, 0, (1, 3, 0, 11), (2, 4, 1, 9), (4, 2, 0), by decide +kernel⟩,
   ⟨bcWith (parWord 2 0 0 8 4 (1, 3, 0, 11) (2, 4, 1, 9) (4, 2, 0)) id, 67, 0, 0, 8, 4, (1, 3, 0, 11), (2, 4, 1, 9), (4, 2, 0), by decide +kernel⟩,
   ⟨bcWith (parWord 3 0 0 8 7 (1, 3, 0, 11) (2, 4, 1, 9) (4, 2, 0)) id, 67, 0, 0, 8, 7, (1, 3, 0, 11), (2, 4, 1, 9), (4, 2, 0), by decide +kernel⟩,
   ⟨bcWith (parWord 5 0 0 8 0 (1, 3, 0, 11) (2, 4, 1, 9) (4, 2, 0)) id, 67, 0, 0, 8, 0, (1, 3, 0, 11), (2, 4, 1, 9), (4, 2, 0), by decide +kernel⟩,
   ⟨bcWith (parWord 6 0 0 8 0 (1, 3, 0, 11) (2, 4, 1, 9) (4, 2, 0)) id, 67, 0, 0, 8, 0, (1, 3, 0, 11), (2, 4, 1, 9), (4, 2, 0), by decide +kernel⟩,
   ⟨bcWith (parWord 7 0 0 8 0 (1, 3, 0, 11) (2, 4, 1, 9) (4, 2, 0)) id, 67, 0, 0, 8, 0, (1, 3, 0, 11), (2, 4, 1, 9), (4, 2, 0), by decide +kernel⟩,
   ⟨bcWith (parWord 10 3 0 8 0 (1, 3, 0, 11) (2, 4, 1, 9) (4, 2, 0)) id, 67, 3, 0, 8, 0, (1, 3, 0, 11), (2, 4, 1, 9), (4, 2, 0), by decide +kernel⟩,
   ⟨bcWith (parWord 11 3 0 8 0 (1, 3, 0, 11) (2, 4, 1, 9) (4, 2, 0)) id, 67, 3, 0, 8, 0, (1, 3, 0, 11), (2, 4, 1, 9), (4, 2, 0), by decide +kernel⟩,
   ⟨bcWith (parWord 8 15 0 8 0 (1, 3, 0, 11) (2, 4, 1, 9) (4, 2, 0)) id, 67, 15, 0, 8, 0, (1, 3, 0, 11), (2, 4, 1, 9), (4, 2, 0), by decide +kernel⟩,
   ⟨bcWith (parWord 9 15 0 8 0 (1, 3, 0, 11) (2, 4, 1, 9) (4, 2, 0)) id, 67, 15, 0, 8, 0, (1, 3, 0, 11), (2, 4, 1, 9), (4, 2, 0), by decide +kernel⟩,
   ⟨bcWith (parWord 16 8 0 8 0 (1, 3, 0, 11) (2, 4, 1, 9) (4, 2, 0)) id, 67, 8, 0, 8, 0, (1, 3, 0, 11), (2, 4, 1, 9), (4, 2, 0), by decide +kernel⟩,
   ⟨bcWith (parWord 17 0 0 8 5 (1, 3, 0, 11) (2, 4, 1, 9) (4, 2, 0)) id, 67, 0, 0, 8, 5, (1, 3, 0, 11), (2, 4, 1, 9), (4, 2, 0), by decide +kernel⟩,
   ⟨bcWith (parWord 18 0 0 8 0 (1, 3, 0, 11) (2, 4, 1, 9) (4, 2, 0)) id, 67, 0, 0, 8, 0, (1, 3, 0, 11), (2, 4, 1, 9), (4, 2, 0), by decide +kernel⟩,
   ⟨bcWith (parWord 19 0 0 8 0 (1, 3, 0, 11) (2, 4, 1, 9) (4, 2, 0)) id, 67, 0, 0, 8, 0, (1, 3, 0, 11), (2, 4, 1, 9), (4, 2, 0), by decide +kernel⟩,
   ⟨bcWith (parWord 20 0 0 8 0 (1, 3, 0, 11) (2, 4, 1, 9) (4, 2, 0)) id, 67, 0, 0, 8, 0, (1, 3, 0, 11), (2, 4, 1, 9), (4, 2, 0), by decide +kernel⟩,
   ⟨bcWith (parWord 21 0 0 8 0 (1, 3, 0, 11) (2, 4, 1, 9) (4, 2, 0)) id, 67, 0, 0, 8, 0, (1, 3, 0, 11), (2, 4, 1, 9), (4, 2, 0), by decide +kernel⟩,
   ⟨bcWith (parWord 22 0 0 8 0 (1, 3, 0, 11) (2, 4, 1, 9) (4, 2, 0)) id, 67, 0, 0, 8, 0, (1, 3, 0, 11), (2, 4, 1, 9), (4, 2, 0), by decide +kernel⟩,
   ⟨bcWith (parWord 23 0 0 8 0 (1, 3, 0, 11) (2, 4, 1, 9) (4, 2, 0)) id, 67, 0, 0, 8, 0, (1, 3, 0, 11), (2, 4, 1, 9), (4, 2, 0), by decide +kernel⟩,
   ⟨bcWith (parWord 24 0 0 8 0 (1, 3, 0, 11) (2, 4, 1, 9) (4, 2, 0)) id, 67, 0, 0, 8, 0, (1, 3, 0, 11), (2, 4, 1, 9), (4, 2, 0), by decide +kernel⟩,
   ⟨bcWith (parWord 25 0 0 15 0 (1, 3, 0, 11) (2, 4, 1, 9) (4, 2, 0)) id, 67, 0, 0, 15, 0, (1, 3, 0, 11), (2, 4, 1, 9), (4, 2, 0), by decide +kernel⟩,
   ⟨bcWith (parWord 26 0 0 15 0 (1, 3, 0, 11) (2, 4, 1, 9) (4, 2, 0)) id, 67, 0, 0, 15, 0, (1, 3, 0, 11), (2, 4, 1, 9), (4, 2, 0), by decide +kernel⟩,
   ⟨bcWith (parWord 27 0 0 15 0 (1, 3, 0, 11) (2, 4, 1, 9) (4, 2, 0)) id, 67, 0, 0, 15, 0, (1, 3, 0, 11), (2, 4, 1, 9), (4, 2, 0), by decide +kernel⟩,
   ⟨bcWith (parWord 28 0 0 8 6 (1, 3, 0, 11) (2, 4, 1, 9) (4, 2, 0)) id, 67, 0, 0, 8, 6, (1, 3, 0, 11), (2, 4, 1, 9), (4, 2, 0), by decide +kernel⟩,
   ⟨bcWith (parWord 29 0 0 3 0 (1, 3, 0, 11) (2, 4, 1, 9) (4, 2, 0)) id, 67, 0, 0, 3, 0, (1, 3, 0, 11), (2, 4, 1, 9), (4, 2, 0), by decide +kernel⟩⟩

/-- States and operands that meet the hypotheses of BrushSlotsLoopsAndFtapComplete. -/
theorem witness_BrushSlotsLoopsAndFtapComplete :
    (∃ (s : State) (k dst sa sb bc : Nat) (ma mb : Nat × Nat × Nat × Nat) (au : Nat × Nat × Nat) (m : Nat × Nat × Nat × Nat),
        let x := s.core.bc k; s.quiet = true ∧ s.core.atInstr k (.par 0 dst sa sb bc ma mb au) = true ∧ s.core.slotsGood k ma mb =
        true ∧ (m = mb ∨ (m = ma ∧ loadsReg mb m.2.1 = false)) ∧ m.1 = 1) ∧
    (∃ (s : State) (k dst sa sb bc : Nat) (ma mb : Nat × Nat × Nat × Nat) (au : Nat × Nat × Nat) (m : Nat × Nat × Nat × Nat),
        let x := s.core.bc k; s.quiet = true ∧ s.core.atInstr k (.par 0 dst sa sb bc ma mb au) = true ∧ s.core.slotsGood k ma mb =
        true ∧ (m = mb ∨ (m = ma ∧ loadsReg mb m.2.1 = false)) ∧ m.1 = 2) ∧
    (∃ (s : State) (k dst sa sb bc : Nat) (ma mb : Nat × Nat × Nat × Nat) (au : Nat × Nat × Nat) (m : Nat × Nat × Nat × Nat) (i :
        Nat), let x := s.core.bc k; s.quiet = true ∧ s.core.atInstr k (.par 0 dst sa sb bc ma mb au) = true ∧ s.core.slotsGood k ma
        mb = true ∧ (m = mb ∨ (m = ma ∧ storesDm mb = false)) ∧ m.1 = 3 ∧ i < 4 ∧ (∀ j : Nat, j < 4 → i < j → x.lane m.2.2.1 j ≠
        x.lane m.2.2.1 i)) ∧
    (∃ (s : State) (k dst sa sb bc : Nat) (ma mb : Nat × Nat × Nat × Nat) (au : Nat × Nat × Nat) (m : Nat × Nat × Nat × Nat),
        let x := s.core.bc k; s.quiet = true ∧ s.core.atInstr k (.par 0 dst sa sb bc ma mb au) = true ∧ s.core.slotsGood k ma mb =
        true ∧ (m = mb ∨ (m = ma ∧ storesDm mb = false)) ∧ m.1 = 4) ∧
    (∃ (s : State) (k dst sa sb bc : Nat) (ma mb : Nat × Nat × Nat × Nat) (au : Nat × Nat × Nat) (w : Nat), let x := s.core.bc k;
        s.quiet = true ∧ s.core.atInstr k (.par 0 dst sa sb bc ma mb au) = true ∧ s.core.slotsGood k ma mb = true ∧ w < 32768 ∧
        ([ma, mb].all (fun m => decide (m.1 ≠ 3 ∨ w ∉ (List.range 4).map (x.lane m.2.2.1)) && decide (m.1 ≠ 4 ∨ w ≠ x.lane m.2.2.1
        0)) = true)) ∧
    (∃ (s : State) (k dst sa sb bc : Nat) (ma mb : Nat × Nat × Nat × Nat) (au : Nat × Nat × Nat) (m : Nat × Nat × Nat × Nat),
        let x := s.core.bc k; s.quiet = true ∧ s.core.atInstr k (.par 0 dst sa sb bc ma mb au) = true ∧ s.core.slotsGood k ma mb =
        true ∧ m.1 ≠ 0 ∧ ((m = ma ∧ usesPtr mb m.2.2.1 = false) ∨ (m = mb ∧ usesPtr ma m.2.2.1 = false)) ∧ (au.1 = 0 ∨ au.1 = 3 ∨
        au.2.1 ≠ m.2.2.1) ∧ m.2.2.1 < 8) ∧
    (∃ (s : State) (k dst sa sb bc : Nat) (ma mb : Nat × Nat × Nat × Nat) (au : Nat × Nat × Nat), let x := s.core.bc k; s.quiet =
        true ∧ s.core.atInstr k (.par 0 dst sa sb bc ma mb au) = true ∧ s.core.slotsGood k ma mb = true ∧ usesPtr ma au.2.1 = false
        ∧ usesPtr mb au.2.1 = false) ∧
    (∃ (s : State) (k dst sa sb bc : Nat) (ma mb : Nat × Nat × Nat × Nat) (au : Nat × Nat × Nat), let x := s.core.bc k; s.quiet =
        true ∧ s.core.atInstr k (.par 0 dst sa sb bc ma mb au) = true ∧ s.core.slotsGood k ma mb = true ∧ x.rep ≤ 1 ∧ (x.pc ≠ x.s
        50 ∨ x.s 48 = 0)) ∧
    (∃ (s : State) (k dst sa sb bc : Nat) (ma mb : Nat × Nat × Nat × Nat) (au : Nat × Nat × Nat), let x := s.core.bc k; s.quiet =
        true ∧ s.core.atInstr k (.par 0 dst sa sb bc ma mb au) = true ∧ s.core.slotsGood k ma mb = true ∧ x.rep ≤ 1 ∧ x.pc = x.s 50
        ∧ x.s 48 ≠ 0) ∧
    (∃ (s : State) (k dst sa sb bc : Nat) (ma mb : Nat × Nat × Nat × Nat) (au : Nat × Nat × Nat), let x := s.core.bc k; s.quiet =
        true ∧ s.core.atInstr k (.par 0 dst sa sb bc ma mb au) = true ∧ s.core.slotsGood k ma mb = true ∧ 1 < x.rep) ∧
    (∃ (s : State) (k a p mode move : Nat), let x := s.core.bc k; s.quiet = true ∧ s.core.atInstr k (.ftap a p mode move) = true ∧
        s.core.dmGood k ((List.range 4).map (x.lane p)) = true ∧ p ≠ 7) ∧
    (∃ (s : State) (k a p mode move : Nat) (i : Nat), let x := s.core.bc k; s.quiet = true ∧ s.core.atInstr k (.ftap a p mode move)
        = true ∧ s.core.dmGood k ((List.range 4).map (x.lane p)) = true ∧ i < 4 ∧ (∀ j : Nat, j < 4 → i < j → x.wrapP p ((x.s (16 +
        p) : Int) + signed 4 move + j) % 32768 ≠ x.wrapP p ((x.s (16 + p) : Int) + signed 4 move + i) % 32768)) :=
  ⟨⟨bcWith (parWord 0 0 0 0 0 (1, 15, 0, 11) (2, 3, 1, 9) (0, 0, 0)) id, 67, 0, 0, 0, 0, (1, 15, 0, 11), (2, 3, 1, 9), (0, 0, 0), (1, 15, 0, 11), by decide +kernel⟩,
   ⟨bcWith (parWord 0 0 0 0 0 (1, 3, 0, 11) (2, 3, 1, 9) (0, 0, 0)) id, 67, 0, 0, 0, 0, (1, 3, 0, 11), (2, 3, 1, 9), (0, 0, 0), (2, 3, 1, 9), by decide +kernel⟩,
   ⟨bcWith (parWord 0 0 0 0 0 (3, 0, 0, 11) (1, 3, 1, 9) (0, 0, 0)) id, 67, 0, 0, 0, 0, (3, 0, 0, 11), (1, 3, 1, 9), (0, 0, 0), (3, 0, 0, 11), 3, by decide +kernel⟩,
   ⟨bcWith (parWord 0 0 0 0 0 (3, 0, 0, 11) (4, 8, 1, 9) (0, 0, 0)) id, 67, 0, 0, 0, 0, (3, 0, 0, 11), (4, 8, 1, 9), (0, 0, 0), (4, 8, 1, 9), by decide +kernel⟩,
   ⟨bcWith (parWord 0 0 0 0 0 (3, 0, 0, 11) (4, 8, 1, 9) (0, 0, 0)) id, 67, 0, 0, 0, 0, (3, 0, 0, 11), (4, 8, 1, 9), (0, 0, 0), 104, by decide +kernel⟩,
   ⟨bcWith (parWord 0 0 0 0 0 (1, 3, 0, 0) (2, 4, 1, 9) (0, 0, 0)) id, 67, 0, 0, 0, 0, (1, 3, 0, 0), (2, 4, 1, 9), (0, 0, 0), (1, 3, 0, 0), by decide +kernel⟩,
   ⟨bcWith (parWord 0 0 0 0 0 (1, 3, 0, 0) (2, 4, 1, 9) (3, 7, 63)) id, 67, 0, 0, 0, 0, (1, 3, 0, 0), (2, 4, 1, 9), (3, 7, 63), by decide +kernel⟩,
   ⟨bcWith (parWord 0 0 0 0 0 (0, 0, 0, 0) (0, 0, 0, 0) (0, 0, 0)) id, 67, 0, 0, 0, 0, (0, 0, 0, 0), (0, 0, 0, 0), (0, 0, 0), by decide +kernel⟩,
   ⟨bcWith (parWord 0 0 0 0 0 (0, 0, 0, 0) (0, 0, 0, 0) (0, 0, 0)) fun x => x.setS 48 2, 67, 0, 0, 0, 0, (0, 0, 0, 0), (0, 0, 0, 0), (0, 0, 0), by decide +kernel⟩,
   ⟨bcWith (parWord 0 0 0 0 0 (0, 0, 0, 0) (0, 0, 0, 0) (0, 0, 0)) fun x => { x with rep := 2, halt := true }, 67, 0, 0, 0, 0, (0, 0, 0, 0), (0, 0, 0, 0), (0, 0, 0), by decide +kernel⟩,
   ⟨bcWith (ftapWord 1 0 11 15) id, 67, 1, 0, 11, 15, by decide +kernel⟩,
   ⟨bcWith (ftapWord 1 0 11 8) id, 67, 1, 0, 11, 8, 3, by decide +kernel⟩⟩

/-- States and operands that meet the hypotheses of BrushScalarInstructionsComplete. -/
theorem witness_BrushScalarInstructionsComplete :
    (∃ (s : State) (k rd rs : Nat) (i : Bool) (imm : Nat), let x := s.core.bc k; s.quiet = true ∧ s.core.atInstr k (.scl 1 rd rs i
        imm) = true ∧ (rd ≠ 48 ∨ x.pc ≠ x.s 50)) ∧
    (∃ (s : State) (k rd rs : Nat) (i : Bool) (imm : Nat), let x := s.core.bc k; s.quiet = true ∧ s.core.atInstr k (.scl 2 rd rs i
        imm) = true ∧ (rd ≠ 48 ∨ x.pc ≠ x.s 50)) ∧
    (∃ (s : State) (k rd rs : Nat) (i : Bool) (imm : Nat) (b : Nat), let x := s.core.bc k; s.quiet = true ∧ s.core.atInstr k (.scl
        8 rd rs i imm) = true ∧ (b = if i then imm else x.s rs) ∧ (rd ≠ 48 ∨ x.pc ≠ x.s 50)) ∧
    (∃ (s : State) (k rd rs : Nat) (i : Bool) (imm : Nat) (b : Nat), let x := s.core.bc k; s.quiet = true ∧ s.core.atInstr k (.scl
        9 rd rs i imm) = true ∧ (b = if i then imm else x.s rs) ∧ (rd ≠ 48 ∨ x.pc ≠ x.s 50)) ∧
    (∃ (s : State) (k rd rs : Nat) (i : Bool) (imm : Nat) (b : Nat), let x := s.core.bc k; s.quiet = true ∧ s.core.atInstr k (.scl
        16 rd rs i imm) = true ∧ (b = if i then imm else x.s rs)) ∧
    (∃ (s : State) (k rd rs : Nat) (i : Bool) (imm : Nat) (b : Nat), let x := s.core.bc k; s.quiet = true ∧ s.core.atInstr k (.scl
        10 rd rs i imm) = true ∧ (b = if i then imm else x.s rs) ∧ (rd ≠ 48 ∨ x.pc ≠ x.s 50)) ∧
    (∃ (s : State) (k rd rs : Nat) (i : Bool) (imm : Nat) (b : Nat), let x := s.core.bc k; s.quiet = true ∧ s.core.atInstr k (.scl
        11 rd rs i imm) = true ∧ (b = if i then imm else x.s rs) ∧ (rd ≠ 48 ∨ x.pc ≠ x.s 50)) ∧
    (∃ (s : State) (k rd rs : Nat) (i : Bool) (imm : Nat) (b : Nat), let x := s.core.bc k; s.quiet = true ∧ s.core.atInstr k (.scl
        12 rd rs i imm) = true ∧ (b = if i then imm else x.s rs) ∧ (rd ≠ 48 ∨ x.pc ≠ x.s 50)) ∧
    (∃ (s : State) (k rd rs : Nat) (i : Bool) (imm : Nat) (b : Nat), let x := s.core.bc k; s.quiet = true ∧ s.core.atInstr k (.scl
        17 rd rs i imm) = true ∧ (b = if i then imm else x.s rs) ∧ (rd ≠ 48 ∨ x.pc ≠ x.s 50)) ∧
    (∃ (s : State) (k rd rs : Nat) (i : Bool) (imm : Nat) (b : Nat), let x := s.core.bc k; s.quiet = true ∧ s.core.atInstr k (.scl
        13 rd rs i imm) = true ∧ (b = if i then imm else x.s rs) ∧ (rd ≠ 48 ∨ x.pc ≠ x.s 50)) ∧
    (∃ (s : State) (k rd rs : Nat) (i : Bool) (imm : Nat) (b : Nat), let x := s.core.bc k; s.quiet = true ∧ s.core.atInstr k (.scl
        14 rd rs i imm) = true ∧ (b = if i then imm else x.s rs) ∧ (rd ≠ 48 ∨ x.pc ≠ x.s 50)) ∧
    (∃ (s : State) (k rd rs : Nat) (i : Bool) (imm : Nat) (b : Nat), let x := s.core.bc k; s.quiet = true ∧ s.core.atInstr k (.scl
        15 rd rs i imm) = true ∧ (b = if i then imm else x.s rs) ∧ (rd ≠ 48 ∨ x.pc ≠ x.s 50)) ∧
    (∃ (s : State) (k rd rs : Nat) (i : Bool) (imm : Nat), let x := s.core.bc k; s.quiet = true ∧ s.core.atInstr k (.scl 24 rd rs i
        imm) = true ∧ s.core.dmGood k [(x.s rs + imm) % 32768] = true ∧ (rd ≠ 48 ∨ x.pc ≠ x.s 50)) ∧
    (∃ (s : State) (k rd rs : Nat) (i : Bool) (imm : Nat) (w : Nat), let x := s.core.bc k; s.quiet = true ∧ s.core.atInstr k (.scl
        25 rd rs i imm) = true ∧ w < 32768) ∧
    (∃ (s : State) (k rd rs : Nat) (i : Bool) (imm : Nat) (off : Nat), let x := s.core.bc k; s.quiet = true ∧ s.core.atInstr k
        (.scl 26 rd rs i imm) = true ∧ off = R.BRUSH_CORE_STATE k + 4 * (imm % 1024) ∧ (regRow? off).isSome = true ∧ imm % 1024 ∉
        [0x7, 0xB, 0x43] ∧ (rd ≠ 48 ∨ x.pc ≠ x.s 50)) ∧
    (∃ (s : State) (k rd rs : Nat) (i : Bool) (imm : Nat) (off : Nat) (row : RegRow), let x := s.core.bc k; s.quiet = true ∧
        s.core.atInstr k (.scl 27 rd rs i imm) = true ∧ off = R.BRUSH_CORE_STATE k + 4 * (imm % 1024) ∧ regRow? off = some row ∧
        imm % 1024 ∉ [0, 1, 3, 6, 7, 0x41, 0x43, 0x23, 0x27, 0x2B, 0x2F]) ∧
    (∃ (s : State) (k rd rs : Nat) (i : Bool) (imm : Nat), let x := s.core.bc k; s.quiet = true ∧ s.core.atInstr k (.scl 32 rd rs i
        imm) = true ∧ (rd ≠ 48 ∨ x.pc ≠ x.s 50)) ∧
    (∃ (s : State) (k rd rs : Nat) (i : Bool) (imm : Nat) (j : Nat), let x := s.core.bc k; s.quiet = true ∧ s.core.atInstr k (.scl
        33 rd rs i imm) = true ∧ j < 4 ∧ (x.v (rd % 16)).length = 4) ∧
    (∃ (s : State) (k rd rs : Nat) (i : Bool) (imm : Nat), let x := s.core.bc k; s.quiet = true ∧ s.core.atInstr k (.scl 34 rd rs i
        imm) = true ∧ (rd ≠ 48 ∨ x.pc ≠ x.s 50)) ∧
    (∃ (s : State) (k rd rs : Nat) (i : Bool) (imm : Nat) (j : Nat), let x := s.core.bc k; s.quiet = true ∧ s.core.atInstr k (.scl
        35 rd rs i imm) = true ∧ j < 4 ∧ (x.a (rd % 4)).length = 4) :=
  ⟨⟨bcWith (sclWord 1 24 0 0 4294934529) (id), 67, 24, 0, false, 4294934529, by decide +kernel⟩,
   ⟨bcWith (sclWord 2 48 1 0 0) (fun x => x.setS 50 9), 67, 48, 1, false, 0, by decide +kernel⟩,
   ⟨bcWith (sclWord 8 1 0 1 2147483648) (id), 67, 1, 0, true, 2147483648, 0x80000000, by decide +kernel⟩,
   ⟨bcWith (sclWord 9 0 1 0 0) (id), 67, 0, 1, false, 0, 0xFFFFFFFE, by decide +kernel⟩,
   ⟨bcWith (sclWord 16 0 1 0 0) (id), 67, 0, 1, false, 0, 0xFFFFFFFE, by decide +kernel⟩,
   ⟨bcWith (sclWord 10 1 0 0 0) (id), 67, 1, 0, false, 0, 7, by decide +kernel⟩,
   ⟨bcWith (sclWord 11 1 0 0 0) (id), 67, 1, 0, false, 0, 7, by decide +kernel⟩,
   ⟨bcWith (sclWord 12 1 0 0 0) (id), 67, 1, 0, false, 0, 7, by decide +kernel⟩,
   ⟨bcWith (sclWord 17 1 0 0 0) (id), 67, 1, 0, false, 0, 7, by decide +kernel⟩,
   ⟨bcWith (sclWord 13 0 0 1 63) (id), 67, 0, 0, true, 63, 63, by decide +kernel⟩,
   ⟨bcWith (sclWord 14 1 0 1 31) (id), 67, 1, 0, true, 31, 31, by decide +kernel⟩,
   ⟨bcWith (sclWord 15 1 0 1 31) (id), 67, 1, 0, true, 31, 31, by decide +kernel⟩,
   ⟨bcWith (sclWord 24 0 16 0 8388353) (id), 67, 0, 16, false, 8388353, by decide +kernel⟩,
   ⟨bcWith (sclWord 25 1 16 0 0) (id), 67, 1, 16, false, 0, 100, by decide +kernel⟩,
   ⟨bcWith (sclWord 26 0 0 0 2) (id), 67, 0, 0, false, 2, R.BRUSH_CORE_ENTRY 67, by decide +kernel⟩,
   ⟨bcWith (sclWord 27 1 0 0 5) (id), 67, 1, 0, false, 5, R.BRUSH_CORE_IVB 67, ((regRow? (R.BRUSH_CORE_IVB 67)).get (by decide +kernel)), by decide +kernel⟩,
   ⟨bcWith (sclWord 32 0 16 0 3) (id), 67, 0, 16, false, 3, by decide +kernel⟩,
   ⟨bcWith (sclWord 33 8 1 0 3) (id), 67, 8, 1, false, 3, 3, by decide +kernel⟩,
   ⟨bcWith (sclWord 34 0 0 0 7) (id), 67, 0, 0, false, 7, by decide +kernel⟩,
   ⟨bcWith (sclWord 35 0 1 0 7) (id), 67, 0, 1, false, 7, 3, by decide +kernel⟩⟩

/-- States and operands that meet the hypotheses of BrushControlInstructionsComplete. -/
theorem witness_BrushControlInstructionsComplete :
    (∃ (s : State) (k cond rs imm : Nat), let x := s.core.bc k; s.quiet = true ∧ s.core.atInstr k (.ctl 1 cond rs imm) = true ∧
        x.cond cond = true) ∧
    (∃ (s : State) (k cond rs imm : Nat), let x := s.core.bc k; s.quiet = true ∧ s.core.atInstr k (.ctl 1 cond rs imm) = true ∧
        x.cond cond = false) ∧
    (∃ (s : State) (k cond rs imm : Nat), let x := s.core.bc k; s.quiet = true ∧ s.core.atInstr k (.ctl 2 cond rs imm) = true) ∧
    (∃ (s : State) (k cond rs imm : Nat), let x := s.core.bc k; s.quiet = true ∧ s.core.atInstr k (.ctl 3 cond rs imm) = true) ∧
    (∃ (s : State) (k cond rs imm : Nat) (n : Nat), let x := s.core.bc k; s.quiet = true ∧ s.core.atInstr k (.ctl 4 cond rs imm) =
        true ∧ ib (s.core.instrAt k (x.pc + 1)) 63 62 ≠ 1 ∧ (n = if imm / 2 ^ 31 % 2 = 1 then x.s rs else if imm % 65536 = 0 then
        65536 else imm % 65536)) ∧
    (∃ (s : State) (k cond rs imm : Nat) (n : Nat), let x := s.core.bc k; s.quiet = true ∧ s.core.atInstr k (.ctl 5 cond rs imm) =
        true ∧ x.pc + 1 ≤ imm / 65536 % 8192 ∧ (n = if imm / 2 ^ 31 % 2 = 1 then x.s rs else if imm % 65536 = 0 then 65536 else imm
        % 65536)) ∧
    (∃ (s : State) (k cond rs imm : Nat), let x := s.core.bc k; s.quiet = true ∧ s.core.atInstr k (.ctl 6 cond rs imm) = true ∧
        s.core.takeable k = none) ∧
    (∃ (s : State) (k cond rs imm : Nat) (n : Nat), let x := s.core.bc k; s.quiet = true ∧ s.core.atInstr k (.ctl 6 cond rs imm) =
        true ∧ x.halt = false ∧ s.core.takeable k = some n ∧ x.rep ≤ 1) ∧
    (∃ (s : State) (k cond rs imm : Nat) (d : Nat), let x := s.core.bc k; s.quiet = true ∧ s.core.atInstr k (.ctl 7 cond rs imm) =
        true ∧ s.core.takeable k = none) ∧
    (∃ (s : State) (k cond rs imm : Nat) (n d : Nat), let x := s.core.bc k; s.quiet = true ∧ s.core.atInstr k (.ctl 7 cond rs imm)
        = true ∧ s.core.takeable k = some n) ∧
    (∃ (s : State) (k cond rs imm : Nat), let x := s.core.bc k; s.quiet = true ∧ s.core.atInstr k (.ctl 8 cond rs imm) = true ∧
        x.task.isSome = true) ∧
    (∃ (s : State) (k cond rs imm : Nat), let x := s.core.bc k; s.quiet = true ∧ s.core.atInstr k (.ctl 9 cond rs imm) = true) ∧
    (∃ (s : State) (k cond rs imm : Nat), let x := s.core.bc k; s.quiet = true ∧ s.core.atInstr k (.ctl 10 cond rs imm) = true ∧
        (bitOf x.sr 6 = false ∨ bitOf (s.core.get (R.BRUSH_CORE_IRQ k)) 11 = false) ∧ s.core.takeable k = none) ∧
    (∃ (s : State) (k cond rs imm : Nat), let x := s.core.bc k; s.quiet = true ∧ s.core.atInstr k (.ctl 10 cond rs imm) = true ∧
        x.halt = false ∧ x.rep ≤ 1 ∧ s.core.takeable k = none ∧ bitOf x.sr 6 = true ∧ bitOf (s.core.get (R.BRUSH_CORE_IRQ k)) 11 =
        true) ∧
    (∃ (s : State) (k cond rs imm : Nat), let x := s.core.bc k; s.quiet = true ∧ s.core.atInstr k (.ctl 11 cond rs imm) = true) ∧
    (∃ (s : State) (k cond rs imm : Nat) (d : Nat), let x := s.core.bc k; s.quiet = true ∧ s.core.atInstr k (.ctl 12 cond rs imm) =
        true ∧ (∀ q : Nat, q < 4 → s.core.flag (F.BRUSH_XFER_CTRL_BUSY k q) = false)) ∧
    (∃ (s : State) (k cond rs imm : Nat) (d q : Nat), let x := s.core.bc k; s.quiet = true ∧ s.core.atInstr k (.ctl 12 cond rs imm)
        = true ∧ q < 4 ∧ s.core.flag (F.BRUSH_XFER_CTRL_BUSY k q) = true) :=
  ⟨⟨bcWith (ctlWord 1 9 0 8195) (fun x => x.setS 48 4), 67, 9, 0, 8195, by decide +kernel⟩,
   ⟨bcWith (ctlWord 1 9 0 77) (id), 67, 9, 0, 77, by decide +kernel⟩,
   ⟨bcWith (ctlWord 2 0 0 77) (id), 67, 0, 0, 77, by decide +kernel⟩,
   ⟨bcWith (ctlWord 3 0 0 0) (id), 67, 0, 0, 0, by decide +kernel⟩,
   ⟨bcWith (ctlWord 4 0 0 0) (id), 67, 0, 0, 0, 65536, by decide +kernel⟩,
   ⟨bcWith (ctlWord 5 0 2 (2 ^ 31 + 8191 * 2 ^ 16)) (id), 67, 0, 2, (2 ^ 31 + 8191 * 2 ^ 16), 0, by decide +kernel⟩,
   ⟨bcWith (ctlWord 6 0 0 0) (id), 67, 0, 0, 0, by decide +kernel⟩,
   ⟨{ core := (bcWith (ctlWord 6 0 0 0) id).core.put (R.BRUSH_CORE_IRQ 67) 0xF0C }, 67, 0, 0, 0, 2, by decide +kernel⟩,
   ⟨bcWith (ctlWord 7 0 0 0) (id), 67, 0, 0, 0, 40, by decide +kernel⟩,
   ⟨{ core := (bcWith (ctlWord 7 0 0 0) id).core.put (R.BRUSH_CORE_IRQ 67) 0xF0C }, 67, 0, 0, 0, 2, 0, by decide +kernel⟩,
   ⟨bcWith (ctlWord 8 0 0 0) (fun x => { x with task := some 3 }), 67, 0, 0, 0, by decide +kernel⟩,
   ⟨bcWith (ctlWord 9 0 0 0) (id), 67, 0, 0, 0, by decide +kernel⟩,
   ⟨bcWith (ctlWord 10 0 0 0) (id), 67, 0, 0, 0, by decide +kernel⟩,
   ⟨{ core := (bcWith (ctlWord 10 0 0 0) id).core.put (R.BRUSH_CORE_IRQ 67) 0x800 }, 67, 0, 0, 0, by decide +kernel⟩,
   ⟨bcWith (ctlWord 11 0 0 0) (id), 67, 0, 0, 0, by decide +kernel⟩,
   ⟨bcWith (ctlWord 12 0 0 0) (id), 67, 0, 0, 0, 40, by decide +kernel⟩,
   ⟨{ core := (bcWith (ctlWord 12 0 0 0) id).core.setF (F.BRUSH_XFER_CTRL_BUSY 67 3) 1 }, 67, 0, 0, 0, 40, 3, by decide +kernel⟩⟩

/-- States and operands that meet the hypotheses of BrushCoreAccessesComplete. -/
theorem witness_BrushCoreAccessesComplete :
    (∃ (s : State) (m k : Nat) (v : Word), let c := s.core.written ⟨m, R.BRUSH_CORE_CTRL k, withBits v 0 0 1⟩ 3; s.core.serves m
        (R.BRUSH_CORE_CTRL k) = true ∧ s.quiet = true ∧ k ≤ 67 ∧ (m = 8 → s.core.f (F.BRUSH_CORE_STATE_OWNER k) = 2) ∧
        s.core.bcState k = 1) ∧
    (∃ (s : State) (m k : Nat) (v : Word), let c := s.core.written ⟨m, R.BRUSH_CORE_CTRL k, withBits v 1 0 2⟩ 3; s.core.serves m
        (R.BRUSH_CORE_CTRL k) = true ∧ s.quiet = true ∧ k ≤ 67 ∧ (m = 8 → s.core.f (F.BRUSH_CORE_STATE_OWNER k) = 2) ∧
        (s.core.bcState k = 2 ∨ s.core.bcState k = 3 ∨ s.core.bcState k = 4) ∧ (s.core.bc k).rep = 0) ∧
    (∃ (s : State) (k n a cnt : Nat) (v : Word), s.quiet = true ∧ k ≤ 67 ∧ n ≤ 3 ∧ (s.core.bcState k = 2 ∨ s.core.bcState k = 3) ∧
        bitOf v 0 = true ∧ s.core.flag (F.BRUSH_XFER_CTRL_BUSY k n) = false ∧ a = (s.core.get (R.BRUSH_XFER_FADDR_LO k n)).toNat +
        2 ^ 32 * s.core.f (F.BRUSH_XFER_FADDR_HI_ADDR k n) ∧ cnt = (if s.core.f (F.BRUSH_XFER_DM_COUNT k n) % 4096 = 0 then 4096
        else s.core.f (F.BRUSH_XFER_DM_COUNT k n) % 4096) ∧ xferRange a cnt = true) ∧
    (∃ (s : State) (k n a cnt : Nat) (v : Word), s.quiet = true ∧ k ≤ 67 ∧ n ≤ 3 ∧ (s.core.bcState k = 2 ∨ s.core.bcState k = 3) ∧
        bitOf v 0 = true ∧ a = (s.core.get (R.BRUSH_XFER_FADDR_LO k n)).toNat + 2 ^ 32 * s.core.f (F.BRUSH_XFER_FADDR_HI_ADDR k n)
        ∧ cnt = (if s.core.f (F.BRUSH_XFER_DM_COUNT k n) % 4096 = 0 then 4096 else s.core.f (F.BRUSH_XFER_DM_COUNT k n) % 4096) ∧
        (s.core.flag (F.BRUSH_XFER_CTRL_BUSY k n) = true ∨ xferRange a cnt = false)) ∧
    (∃ (s : State) (k n : Nat) (x : Xfer) (ws : List Word), s.quiet = true ∧ k ≤ 67 ∧ n ≤ 3 ∧ smGet (fun _ => none)
        s.core.brush.xfers (4 * k + n) = some x ∧ x.toFabric = true ∧ xferRange x.addr x.count = true ∧ (ws = (List.range
        x.count).map fun i => s.core.dmWord k (x.dm + i)) ∧ (s.core.dmGood k ((List.range x.count).map fun i => x.dm + i) = true))
        ∧
    (∃ (s : State) (k n : Nat) (x : Xfer) (ws : List Word), s.quiet = true ∧ k ≤ 67 ∧ n ≤ 3 ∧ smGet (fun _ => none)
        s.core.brush.xfers (4 * k + n) = some x ∧ x.toFabric = false ∧ 1 ≤ x.count ∧ x.count ≤ 4096 ∧ (ws = bytesWords ((List.range
        (4 * x.count)).map fun i => s.mem.byte (x.addr + i))) ∧ (unitsOf 8 x.addr (4 * x.count)).all (fun w => decide (s.core.eccOf
        w ≠ 2)) = true) ∧
    (∃ (s : State) (k p : Nat) (v : Word), s.quiet = true ∧ k ≤ 67 ∧ (s.core.bcState k = 2 ∨ s.core.bcState k = 3) ∧ s.core.mbxOf k
        = some p ∧ (s.core.mbx p).b2cFull = false) ∧
    (∃ (s : State) (k p : Nat) (v : Word), s.quiet = true ∧ k ≤ 67 ∧ (s.core.bcState k = 2 ∨ s.core.bcState k = 3) ∧ s.core.mbxOf k
        = some p ∧ (s.core.mbx p).b2cFull = true) ∧
    (∃ (s : State) (k p : Nat) (v : Word), s.quiet = true ∧ k ≤ 67 ∧ (s.core.bcState k = 2 ∨ s.core.bcState k = 3) ∧ s.core.mbxOf k
        = some p ∧ bitOf v 0 = true) ∧
    (∃ (s : State) (m k space w : Nat) (v : Word), s.quiet = true ∧ k ≤ 67 ∧ space ≤ 1 ∧ w < 16384 * (space + 1) ∧ regPath m
        (R.BRUSH_CORE_STATE k + 0x10000 * (space + 1) + 4 * w) = true ∧ s.core.gated (R.BRUSH_CORE_STATE k) = false ∧ (m = 8 →
        s.core.flag F.HOST_EXPERT_CTRL_BAR0_WRITE_EN = true) ∧ s.core.f (F.BRUSH_CORE_STATE_OWNER k) = 2 ∧ s.core.bcState k = 1) ∧
    (∃ (s : State) (m k space w : Nat) (v : Word), s.quiet = true ∧ k ≤ 67 ∧ space ≤ 1 ∧ w < 16384 * (space + 1) ∧ regPath m
        (R.BRUSH_CORE_STATE k + 0x10000 * (space + 1) + 4 * w) = true ∧ s.core.gated (R.BRUSH_CORE_STATE k) = false ∧ (m = 8 →
        s.core.flag F.HOST_EXPERT_CTRL_BAR0_WRITE_EN = true) ∧ s.core.f (F.BRUSH_CORE_STATE_OWNER k) = 2 ∧ s.core.bcState k ≠ 1) ∧
    (∃ (s : State) (g : Nat) (m : Migration), s.quiet = true ∧ s.core.migOf g = some m ∧ m.step = 0 ∧ m.spare ≤ 67) ∧
    (∃ (s : State) (g l : Nat) (m : Migration), s.quiet = true ∧ s.core.migOf g = some m ∧ s.core.migReady m = true ∧ m.patrol =
        false ∧ s.core.logical m.unit = some l ∧ m.unit ≤ 67 ∧ m.spare ≤ 67 ∧ m.unit ≠ m.spare ∧ l ≤ 63) ∧
    (∃ (s : State) (g l : Nat) (m : Migration), s.quiet = true ∧ s.core.migOf g = some m ∧ m.cold = true ∧ s.core.bcState m.unit =
        2 ∧ s.core.logical m.unit = some l ∧ m.unit ≤ 67 ∧ m.spare ≤ 67 ∧ m.unit ≠ m.spare ∧ l ≤ 63) :=
  ⟨⟨custWith fun c => (c.setF F.HOST_EXPERT_CTRL_BAR0_WRITE_EN 1).setF (F.BRUSH_CORE_ENTRY_PC 21) 8191, 8, 21, 0, by decide +kernel⟩,
   ⟨custWith fun c => (c.setBcState 21 3).setBc 21 { pc := 77 }, 3, 21, 0, by decide +kernel⟩,
   ⟨custWith fun c => ((c.setBcState 21 3).put (R.BRUSH_XFER_FADDR_HI 21 3) 0x90).put (R.BRUSH_XFER_DM 21 3) 0x20047FFF, 21, 3, 0x9000000000, 4, 1, by decide +kernel⟩,
   ⟨custWith fun c => ((c.setBcState 21 3).put (R.BRUSH_XFER_FADDR_HI 21 3) 0x90).put (R.BRUSH_XFER_FADDR_LO 21 3) 2, 21, 3, 0x9000000002, 4096, 1, by decide +kernel⟩,
   ⟨custWith fun c => { c.setDm 21 0 0x01020304 with brush := { (c.setDm 21 0 0x01020304).brush with xfers := [(87, some ⟨0x9000000000, 32767, 2, true⟩)] } }, 21, 3, ⟨0x9000000000, 32767, 2, true⟩, [0, 0x01020304], by decide +kernel⟩,
   ⟨{ custWith (fun c => { c with brush := { c.brush with xfers := [(87, some ⟨64, 32767, 2, false⟩)] } }) with mem := { dram := [(68, 9)] } }, 21, 3, ⟨64, 32767, 2, false⟩, [0, 9], by decide +kernel⟩,
   ⟨custWith fun c => ((c.setBcState 21 3).setMbx 3 { owner := some 20 }), 21, 3, 0xFFFFFFFF, by decide +kernel⟩,
   ⟨custWith fun c => ((c.setBcState 21 3).setMbx 3 { owner := some 20, b2cFull := true, b2c := 5 }), 21, 3, 0xFFFFFFFF, by decide +kernel⟩,
   ⟨custWith fun c => ((c.setBcState 21 3).setMbx 3 { owner := some 20, c2bFull := true, c2b := 5 }), 21, 3, 1, by decide +kernel⟩,
   ⟨custWith fun c => c.setF F.HOST_EXPERT_CTRL_BAR0_WRITE_EN 1, 8, 21, 1, 32767, 0xFFFFFFFF, by decide +kernel⟩,
   ⟨custWith fun c => c.setBcState 21 3, 3, 21, 0, 16383, 1, by decide +kernel⟩,
   ⟨custWith fun c => c.setMig 1 (some { unit := 21, spare := 33, step := 0, at_ := 0, tries := 1 }), 1, { unit := 21, spare := 33, step := 0, at_ := 0, tries := 1 }, by decide +kernel⟩,
   ⟨custWith fun c => c.setMig 1 (some { unit := 21, spare := 33, step := 2, at_ := 0 }), 1, 20, { unit := 21, spare := 33, step := 2, at_ := 0 }, by decide +kernel⟩,
   ⟨custWith fun c => (c.setMig 1 (some { unit := 21, spare := 33, step := 3, at_ := 0, cold := true })).setBcState 21 2, 1, 20, { unit := 21, spare := 33, step := 3, at_ := 0, cold := true }, by decide +kernel⟩⟩

/-- States and operands that meet the hypotheses of BrushOpcodesComplete. -/
theorem witness_BrushOpcodesComplete :
    (∃ (s : State) (p : Packet), let c := s.core.offered opBrushStatus p; let r := reqOf opBrushStatus p; s.core.admits
        opBrushStatus p = true ∧ s.quiet = true) ∧
    (∃ (s : State) (p : Packet) (l : List Nat), let c := s.core.offered opBrushAlloc p; let r := reqOf opBrushAlloc p;
        s.core.admits opBrushAlloc p = true ∧ s.quiet = true ∧ 1 ≤ r.n 0 ∧ r.n 0 ≤ 64 ∧ r.n 1 ≤ 15 ∧ (l = (c.freeCores.filter fun x
        => bitOf (.ofNat 32 (if r.n 1 = 0 then 15 else r.n 1)) (x / 16)).take (r.n 0)) ∧ l.length = r.n 0 ∧ c.brush.fw.length +
        c.brush.custom.length + r.n 0 ≤ c.f F.HEALTH_CAPACITY_BRUSH) ∧
    (∃ (s : State) (p : Packet) (l : List Nat), let c := s.core.offered opBrushFree p; let r := reqOf opBrushFree p; s.core.admits
        opBrushFree p = true ∧ s.quiet = true ∧ l = (r.words.drop 1).map (·.toNat) ∧ r.bytes.length = 4 + 4 * r.n 0 ∧ l.all (fun x
        => decide (x ≤ 63) && c.isCustom x) = true) ∧
    (∃ (s : State) (p : Packet) (k : Nat), let c := s.core.offered opBrushLoad p; let r := reqOf opBrushLoad p; s.core.admits
        opBrushLoad p = true ∧ s.quiet = true ∧ r.bytes.length = 16 + 4 * r.n 3 ∧ r.n 0 ≤ 63 ∧ 1 ≤ r.n 3 ∧ r.n 3 ≤ 16376 ∧ r.n 1 ≤
        1 ∧ r.n 2 + r.n 3 ≤ 16384 * (r.n 1 + 1) ∧ c.isCustom (r.n 0) = true ∧ k = c.phys (r.n 0) ∧ c.bcState k = 1) ∧
    (∃ (s : State) (p : Packet) (k : Nat), let c := s.core.offered opBrushRead p; let r := reqOf opBrushRead p; s.core.admits
        opBrushRead p = true ∧ s.quiet = true ∧ r.n 0 ≤ 63 ∧ 1 ≤ r.n 3 ∧ r.n 3 ≤ 1000 ∧ (r.n 1 = 1 ∨ (r.n 1 = 0 ∧ c.isCustom (r.n
        0) = true)) ∧ r.n 2 + r.n 3 ≤ 16384 * (r.n 1 + 1) ∧ (c.isCustom (r.n 0) = true ∨ c.brush.fw.contains (r.n 0) = true) ∧ k =
        c.phys (r.n 0)) ∧
    (∃ (s : State) (p : Packet), let c := s.core.offered opBrushStart p; let r := reqOf opBrushStart p; s.core.admits opBrushStart
        p = true ∧ s.quiet = true ∧ r.n 0 ≤ 63 ∧ r.n 1 ≤ 8191 ∧ c.isCustom (r.n 0) = true) ∧
    (∃ (s : State) (p : Packet) (k : Nat), let c := s.core.offered opBrushStop p; let r := reqOf opBrushStop p; s.core.admits
        opBrushStop p = true ∧ s.quiet = true ∧ r.n 0 ≤ 63 ∧ c.isCustom (r.n 0) = true ∧ k = c.phys (r.n 0) ∧ (c.bcState k = 2 ∨
        c.bcState k = 3 ∨ c.bcState k = 4) ∧ (c.bc k).rep = 0) ∧
    (∃ (s : State) (p : Packet), let c := s.core.offered opBrushBuffer p; let r := reqOf opBrushBuffer p; s.core.admits
        opBrushBuffer p = true ∧ s.quiet = true ∧ r.n 0 ≤ 1 ∧ r.n 4 ≤ 1 ∧ r.n 1 ≤ 255 ∧ r.n 2 ≤ 63 ∧ (smGet (fun _ => none)
        c.brush.binds (r.n 1 + 256 * r.n 0)).all (fun x => !x.fw) = true ∧ c.isCustom (r.n 2) = true ∧ r.n 3 + 2 * c.blk ≤ 32768) ∧
    (∃ (s : State) (p : Packet) (x : ParamBlock), let c := s.core.offered opParamDeclare p; let r := reqOf opParamDeclare p;
        s.core.admits opParamDeclare p = true ∧ s.quiet = true ∧ r.n 0 ≤ 63 ∧ r.n 1 ≤ 63 ∧ r.n 2 ≤ 3 ∧ 1 ≤ r.n 3 ∧ r.n 3 ≤ 1024 ∧
        r.n 4 + r.n 3 ≤ 32768 ∧ r.n 5 + r.n 3 ≤ 32768 ∧ c.isCustom (r.n 1) = true ∧ c.bcState (c.phys (r.n 1)) = 1 ∧ (r.n 5 + r.n 3
        ≤ r.n 4 ∨ r.n 4 + r.n 3 ≤ r.n 5) ∧ x = { core := r.n 1, slot := r.n 2, size := r.n 3, live := r.n 4, old := r.n 5 }) ∧
    (∃ (s : State) (p : Packet), let c := s.core.offered opParamBegin p; let r := reqOf opParamBegin p; s.core.admits opParamBegin
        p = true ∧ s.quiet = true ∧ r.n 0 = 0 ∧ c.paramBusy = false) ∧
    (∃ (s : State) (p : Packet) (n : Nat) (x : ParamBlock), let c := s.core.offered opParamBegin p; let r := reqOf opParamBegin p;
        s.core.admits opParamBegin p = true ∧ s.quiet = true ∧ r.n 0 = 1 ∧ c.paramBusy = false ∧ c.param? n = some x ∧ x.live +
        x.size ≤ 32768 ∧ x.old + x.size ≤ 32768 ∧ (x.live + x.size ≤ x.old ∨ x.old + x.size ≤ x.live) ∧ (c.brush.params.all (fun e
        => e.2.all fun y => decide (y = x ∨ (y.old + y.size ≤ 32768 ∧ (c.phys y.core ≠ c.phys x.core ∨ ((y.old + y.size ≤ x.live ∨
        x.live + x.size ≤ y.old) ∧ (y.old + y.size ≤ x.old ∨ x.old + x.size ≤ y.old)))))) = true)) ∧
    (∃ (s : State) (p : Packet) (x : ParamBlock), let c := s.core.offered opParamSet p; let r := reqOf opParamSet p; s.core.admits
        opParamSet p = true ∧ s.quiet = true ∧ r.bytes.length = 12 + 4 * r.n 2 ∧ r.n 0 ≤ 63 ∧ 1 ≤ r.n 2 ∧ r.n 2 ≤ 1024 ∧ c.param?
        (r.n 0) = some x ∧ r.n 1 + r.n 2 ≤ x.size ∧ x.size ≤ 1024 ∧ c.paramBusy = false) ∧
    (∃ (s : State) (p : Packet), let c := s.core.offered opParamCommit p; let r := reqOf opParamCommit p; s.core.admits
        opParamCommit p = true ∧ s.quiet = true ∧ c.paramBusy = false) ∧
    (∃ (s : State) (k : Tok), s.quiet = true ∧ s.core.brush.commit = some k) ∧
    (∃ (s : State) (p : Packet) (x : ParamBlock), let c := s.core.offered opParamGet p; let r := reqOf opParamGet p; s.core.admits
        opParamGet p = true ∧ s.quiet = true ∧ r.n 0 ≤ 63 ∧ 1 ≤ r.n 3 ∧ r.n 3 ≤ 1024 ∧ r.n 1 ≤ 1 ∧ c.param? (r.n 0) = some x ∧ r.n
        2 + r.n 3 ≤ x.size) ∧
    (∃ (s : State) (p : Packet) (q : Nat), let c := s.core.offered opBrushMbxPost p; let r := reqOf opBrushMbxPost p; s.core.admits
        opBrushMbxPost p = true ∧ s.quiet = true ∧ r.n 0 ≤ 3 ∧ q = 2 * r.n 0 + 1 ∧ (c.mbx q).c2bFull = false) ∧
    (∃ (s : State) (p : Packet) (q : Nat) (x : BrushMbx), let c := s.core.offered opBrushMbxRead p;
        let r := reqOf opBrushMbxRead p; s.core.admits opBrushMbxRead p = true ∧ s.quiet = true ∧ r.n 0 ≤ 3 ∧ q = 2 * r.n 0 + 1 ∧
        c.mbx q = x) :=
  ⟨⟨custWith id, pkX [], by decide +kernel⟩,
   ⟨custWith fun c => c.setF F.HEALTH_CAPACITY_BRUSH 64, pkX [2, 2], [16, 17], by decide +kernel⟩,
   ⟨custWith id, pkX [2, 20, 5], [20, 5], by decide +kernel⟩,
   ⟨custWith id, pkX [20, 1, 32766, 2, 7, 0x800000], 21, by decide +kernel⟩,
   ⟨custWith fun c => c.setDm 21 32767 9, pkX [20, 1, 32766, 2], 21, by decide +kernel⟩,
   ⟨custWith id, pkX [20, 8191], by decide +kernel⟩,
   ⟨custWith fun c => c.setBcState 21 3, pkX [20], 21, by decide +kernel⟩,
   ⟨custWith id, pkX [1, 255, 20, 32736, 1], by decide +kernel⟩,
   ⟨custWith id, pkX [63, 5, 3, 1024, 0, 31744], ⟨5, 3, 1024, 0, 31744⟩, by decide +kernel⟩,
   ⟨custWith fun c => c.setDm 21 103 9, pkX [0], by decide +kernel⟩,
   ⟨custWith fun c => c.setDm 21 103 9, pkX [1], 3, ⟨20, 2, 4, 100, 200⟩, by decide +kernel⟩,
   ⟨custWith id, pkX [3, 2, 2, 0xFFFFFFFF, 7], ⟨20, 2, 4, 100, 200⟩, by decide +kernel⟩,
   ⟨custWith id, pkX [], by decide +kernel⟩,
   ⟨custWith fun c => { c with brush := { c.brush with commit := some ⟨1, 4, 0x0913⟩ } }, ⟨1, 4, 0x0913⟩, by decide +kernel⟩,
   ⟨custWith fun c => c.setDm 21 203 9, pkX [3, 1, 2, 2], ⟨20, 2, 4, 100, 200⟩, by decide +kernel⟩,
   ⟨custWith fun c => c.setMbx 3 { owner := some 20 }, pkX [1, 0xFFFFFFFF], 3, by decide +kernel⟩,
   ⟨custWith fun c => c.setMbx 3 { owner := some 20, b2cFull := true, b2c := 8 }, pkX [1], 3, { owner := some 20, b2cFull := true, b2c := 8 }, by decide +kernel⟩⟩

/-- States and operands that meet the hypotheses of AtelierCommandsComplete. -/
theorem witness_AtelierCommandsComplete :
    (∃ (s : State) (port m n q : Nat) (v : Word) (d : List Nat) (x : AtSlot),
        let c := s.core.written ⟨port, R.ATELIER_STAGE_GO m, v⟩ 1; s.core.serves port (R.ATELIER_STAGE_GO m) = true ∧ s.quiet =
        true ∧ m ≤ 4 ∧ (port = if m = 4 then 8 else m) ∧ bitOf v 0 = true ∧ (d = (List.range 8).map fun w => (s.core.get
        (R.ATELIER_STAGE_D m w)).toNat) ∧ x = { desc := d } ∧ s.core.postReason port d = 0 ∧ (List.range 512).find? (fun i =>
        decide ((s.core.slot i).state = 0)) = some n ∧ (q = if x.ordered ∧ x.release ≠ 2 then s.core.f (F.ATELIER_FLOW_NEXT_SEQ
        x.flow) else 0)) ∧
    (∃ (s : State) (port m : Nat) (v : Word) (d : List Nat), let c := s.core.written ⟨port, R.ATELIER_STAGE_GO m, v⟩ 1;
        s.core.serves port (R.ATELIER_STAGE_GO m) = true ∧ s.quiet = true ∧ m ≤ 4 ∧ (port = if m = 4 then 8 else m) ∧ bitOf v 0 =
        true ∧ (d = (List.range 8).map fun w => (s.core.get (R.ATELIER_STAGE_D m w)).toNat) ∧ s.core.postReason port d ≠ 0) ∧
    (∃ (s : State) (port m : Nat) (v : Word), let c := s.core.written ⟨port, R.ATELIER_STAGE_GO m, v⟩ 1; s.core.serves port
        (R.ATELIER_STAGE_GO m) = true ∧ s.quiet = true ∧ m ≤ 4 ∧ (port ≠ if m = 4 then 8 else m)) ∧
    (∃ (s : State) (j n : Nat), s.quiet = true ∧ s.core.clk.mediaOn = true ∧ j < s.core.blk ∧ (s.core.slot n).state = 1 ∧
        (s.core.slot n).time ≤ s.core.time.n + j) ∧
    (∃ (s : State) (j n : Nat), s.quiet = true ∧ s.core.clk.mediaOn = true ∧ j < s.core.blk ∧ (s.core.time.n + j) % s.core.blk = 0
        ∧ (s.core.slot n).state = 6 ∧ (s.core.slot n).release = 2 ∧ (s.core.slot n).last = false ∧ (s.core.time.n + j) / s.core.blk
        % (s.core.slot n).period = (s.core.slot n).phase % (s.core.slot n).period) ∧
    (∃ (s : State) (j n : Nat), s.quiet = true ∧ s.core.clk.mediaOn = true ∧ j < s.core.blk ∧ (s.core.time.n + j) % s.core.blk = 0
        ∧ (s.core.slot n).state = 4 ∧ (s.core.slot n).release = 2 ∧ (s.core.slot n).last = false ∧ (s.core.time.n + j) / s.core.blk
        % (s.core.slot n).period = (s.core.slot n).phase % (s.core.slot n).period) ∧
    (∃ (s : State) (n l k : Nat) (x : AtSlot), s.quiet = true ∧ (([7, 6, 5, 4, 3, 2, 1, 0].flatMap fun q => smGet (fun _ => [])
        s.core.atl.ready q).findSome? (fun i => ((List.range 64).find? fun y => (s.core.slot i).target y && s.core.eligible y).map
        fun y => (i, y)) = some (n, l)) ∧ k = s.core.phys l ∧ k ≤ 67 ∧ x = s.core.slot n) ∧
    (∃ (s : State) (port n : Nat) (v : Word), let c := s.core.written ⟨port, R.ATELIER_CANCEL, v⟩ 0; s.core.serves port
        R.ATELIER_CANCEL = true ∧ s.quiet = true ∧ n = v.toNat % 512 ∧ ((s.core.slot n).state = 0 ∨ (s.core.slot n).gen ≠ v.toNat %
        65536 / 512)) ∧
    (∃ (s : State) (port n : Nat) (v : Word), let c := s.core.written ⟨port, R.ATELIER_CANCEL, v⟩ 0; s.core.serves port
        R.ATELIER_CANCEL = true ∧ s.quiet = true ∧ n = v.toNat % 512 ∧ (s.core.slot n).gen = v.toNat % 65536 / 512 ∧ ((s.core.slot
        n).state = 4 ∨ (s.core.slot n).state = 5)) ∧
    (∃ (s : State) (port n : Nat) (v : Word), let c := s.core.written ⟨port, R.ATELIER_CANCEL, v⟩ 0; s.core.serves port
        R.ATELIER_CANCEL = true ∧ s.quiet = true ∧ n = v.toNat % 512 ∧ (s.core.slot n).gen = v.toNat % 65536 / 512 ∧ ((s.core.slot
        n).state = 1 ∨ (s.core.slot n).state = 2 ∨ (s.core.slot n).state = 3 ∨ (s.core.slot n).state = 6)) ∧
    (∃ (s : State) (port e : Nat) (l : List Nat), s.quiet = true ∧ s.core.reaches port R.ATELIER_DONE = true ∧ s.core.atl.done = e
        :: l) :=
  ⟨⟨atWith [0x03470008, 0x20, 0, 9, 8, 0, 0, 0] 0 { state := 4 } id, 8, 4, 1, 0, 1, [0x03470008, 0x20, 0, 9, 8, 0, 0, 0], { desc := [0x03470008, 0x20, 0, 9, 8, 0, 0, 0] }, by decide +kernel⟩,
   ⟨atWith [0x03470008, 0x01, 0, 9, 8, 0, 0, 0] 0 { state := 4 } id, 8, 4, 1, [0x03470008, 0x01, 0, 9, 8, 0, 0, 0], by decide +kernel⟩,
   ⟨atWith [] 0 { state := 4 } id, 8, 3, 1, by decide +kernel⟩,
   ⟨atWith [] 511 { state := 1, desc := [0x00160000, 1, 0, 0, 0, 4815, 0, 0] } id, 15, 511, by decide +kernel⟩,
   ⟨atWith [] 511 { state := 6, desc := [0x00260000, 1, 0, 0, 0, 3, 0, 0] } id, 0, 511, by decide +kernel⟩,
   ⟨atWith [] 511 { state := 4, desc := [0x00260000, 1, 0, 0, 0, 3, 0, 0] } id, 0, 511, by decide +kernel⟩,
   ⟨atWith [] 511 { state := 3, gen := 127, seq := 9, desc := [0x00071FFF, 0x20, 0, 7, 0xFFFFFFFF, 0, 0, 0] } fun c => { c with atl := { c.atl with ready := [(7, [511])] } }, 511, 5, 5, { state := 3, gen := 127, seq := 9, desc := [0x00071FFF, 0x20, 0, 7, 0xFFFFFFFF, 0, 0, 0] }, by decide +kernel⟩,
   ⟨atWith [] 511 { state := 3, gen := 127 } id, 8, 511, 0x01FF, by decide +kernel⟩,
   ⟨atWith [] 511 { state := 4, gen := 127 } id, 8, 511, 0xFFFF, by decide +kernel⟩,
   ⟨atWith [] 511 { state := 3, gen := 127, desc := [0x00C00000] } fun c => { c with atl := { c.atl with ready := [(7, [511])] } }, 8, 511, 0xFFFF, by decide +kernel⟩,
   ⟨atWith [] 511 {} fun c => { c with atl := { c.atl with done := [0x8001FFFF] } }, 8, 0x8001FFFF, [], by decide +kernel⟩⟩

/-- States and operands that meet the hypotheses of FabricAccessesComplete. -/
theorem witness_FabricAccessesComplete :
    (∃ (s : State) (m id addr len outPort outTarget outAll : Nat) (other : Bool), s.quiet = true ∧ s.core.memOn = true ∧ dramPath m
        addr = true ∧ burstOk addr len = true ∧ overLimit m outPort outTarget outAll = false ∧ other = false ∧ s.core.atl.held.any
        (fun x => x.port = m && x.id = id % 16) = false ∧ (unitsOf 8 addr len).all (fun w => decide (s.core.eccOf w ≠ 2)) = true) ∧
    (∃ (s : State) (m id addr outPort outTarget outAll a : Nat) (bytes : List Byte) (other : Bool), s.quiet = true ∧ s.core.memOn =
        true ∧ dramPath m addr = true ∧ burstOk addr bytes.length = true ∧ overLimit m outPort outTarget outAll = false ∧ (a < addr
        ∨ addr + bytes.length ≤ a) ∧ other = false ∧ s.core.atl.held.any (fun x => x.port = m && x.id = id % 16) = false ∧ (unitsOf
        8 addr bytes.length).all (fun w => decide (s.core.eccOf w ≠ 2)) = true) ∧
    (∃ (s : State) (m id addr len outPort outTarget outAll : Nat) (other : Bool), s.quiet = true ∧ s.core.memOn = true ∧ dramPath m
        addr = true ∧ burstOk addr len = true ∧ overLimit m outPort outTarget outAll = true) ∧
    (∃ (s : State) (m id addr outPort outTarget outAll : Nat) (bytes : List Byte) (other : Bool), s.quiet = true ∧ s.core.memOn =
        true ∧ dramPath m addr = true ∧ burstOk addr bytes.length = true ∧ overLimit m outPort outTarget outAll = false ∧ other =
        true) ∧
    (∃ (s : State) (m : Nat) (q : HeldReq), s.quiet = true ∧ s.core.atl.held.find? (fun x => decide (x.port = m)) = some q ∧ q.addr
        + q.len ≤ dramEnd ∧ (unitsOf 8 q.addr q.len).all (fun w => decide (s.core.eccOf w ≠ 2)) = true ∧ q.len = (q.data.map
        (·.length)).getD q.len) :=
  ⟨⟨{ tRun with mem := { dram := [(15032385535, 9)] } }, 8, 15, 15032385024, 512, 63, 251, 1023, false, by decide +kernel⟩,
   ⟨{ tRun with mem := { dram := [(0, 9)] } }, 8, 15, 4, 0, 0, 0, 8, [1, 2, 3, 4], false, by decide +kernel⟩,
   ⟨tRun, 8, 15, 4, 4, 64, 0, 0, false, by decide +kernel⟩,
   ⟨tRun, 8, 15, 4, 0, 0, 0, [1, 2, 3, 4], true, by decide +kernel⟩,
   ⟨{ tRun with core := { tRun.core with atl := { tRun.core.atl with held := [⟨8, 3, 64, some [1, 2], 2⟩, ⟨7, 3, 64, none, 64⟩] } }, mem := { dram := [(65, 9)] } }, 7, ⟨7, 3, 64, none, 64⟩, by decide +kernel⟩⟩

/-- States and operands that meet the hypotheses of DramUpkeepCompletes. -/
theorem witness_DramUpkeepCompletes :
    (∃ (s : State) (ch bank : Nat), s.quiet = true ∧ s.core.memOn = true) ∧
    (∃ (s : State) (ch : Nat) (warm : Bool), s.quiet = true ∧ s.core.memOn = true ∧ ch ≤ 7) ∧
    (∃ (s : State) (wanted : List Int) (i : Nat) (t0 off : Int), s.quiet = true ∧ s.core.memOn = true ∧ i < 16 ∧ t0 = (smGet (fun _
        => 0) s.core.memc.trained i : Nat) ∧ off = (s.core.f (F.MEMC_TRAIN_A_WR_DELAY i) : Int) - t0 ∧ 1 ≤ s.core.f
        (F.MEMC_TRAIN_A_WR_DELAY i) ∧ s.core.f (F.MEMC_TRAIN_A_WR_DELAY i) ≤ 126) ∧
    (∃ (s : State) (errs : List (Nat × Nat)), s.quiet = true ∧ s.core.memOn = true) ∧
    (∃ (s : State) (w base : Nat) (errs : List (Nat × Nat)), s.quiet = true ∧ s.core.memOn = true ∧ s.core.memc.scrubAt % chanLines
        * 64 / 32768 < 57344 ∧ base = fabricOf s.core.grain (s.core.memc.scrubAt / chanLines % 8) (s.core.memc.scrubAt % chanLines
        * 64) / 8 ∧ errs = [(w, 1)] ∧ w < 8 ∧ s.core.memc.scrubFix = [] ∧ s.core.eccOf (base + w) = 0) ∧
    (∃ (s : State) (ch e row bank spare : Nat), s.quiet = true ∧ ch ≤ 7 ∧ e ≤ 31 ∧ spare ≤ 31 ∧ bank ≤ 15 ∧ row < 64512 ∧ s.core.f
        (F.MEMC_REMAP_STATE ch e) = 0) ∧
    (∃ (s : State) (ch e : Nat), s.quiet = true ∧ ch ≤ 7 ∧ e ≤ 31 ∧ s.core.f (F.MEMC_REMAP_STATE ch e) = 1) ∧
    (∃ (s : State) (ch e b : Nat), s.quiet = true ∧ ch ≤ 7 ∧ e ≤ 31 ∧ smGet (fun _ => none) s.core.memc.remapAt (32 * ch + e) =
        some b ∧ b ≤ s.core.now) ∧
    (∃ (s : State) (m : Nat) (v : Word), let c := s.core.written ⟨m, R.MEMC_FIRST_UNCORR_HI, v⟩ 0; s.core.serves m
        R.MEMC_FIRST_UNCORR_HI = true ∧ s.quiet = true ∧ bitOf v 30 = true) :=
  ⟨⟨runWith fun c => { c with memc := { c.memc with open_ := [(127, some 9)] } }, 7, 15, by decide +kernel⟩,
   ⟨tRun, 7, true, by decide +kernel⟩,
   ⟨runWith fun c => c.setF (F.MEMC_TRAIN_A_WR_DELAY 15) 126, [], 15, 0, 126, by decide +kernel⟩,
   ⟨runWith fun c => { c with memc := { c.memc with scrubFix := [7], ecc := [(7, 1)] } }, [(7, 1)], by decide +kernel⟩,
   ⟨runWith fun c => { c with memc := { c.memc with scrubAt := 5 } }, 7, 40, [(7, 1)], by decide +kernel⟩,
   ⟨tRun, 7, 31, 64511, 15, 31, by decide +kernel⟩,
   ⟨runWith fun c => c.setF (F.MEMC_REMAP_STATE 7 31) 1, 7, 31, by decide +kernel⟩,
   ⟨runWith fun c => { c with memc := { c.memc with remapAt := [(255, some 4800)] } }, 7, 31, 4800, by decide +kernel⟩,
   ⟨runWith fun c => c.put R.MEMC_FIRST_UNCORR_LO 9, 3, 0x40000000, by decide +kernel⟩⟩

/-- States and operands that meet the hypotheses of FlashUpkeepCompletes. -/
theorem witness_FlashUpkeepCompletes :
    (∃ (s : State) (unit : Nat) (bits : List Nat) (owner : List (Nat × Nat)), s.quiet = true ∧ unit < flashUnits ∧ s.core.armed 6 =
        false) ∧
    (∃ (s : State) (unit : Nat), s.quiet = true ∧ s.core.dieFree unit = true ∧ s.core.unitGood unit = true ∧ s.core.flashWrites =
        true) ∧
    (∃ (s : State) (unit : Nat), s.quiet = true ∧ s.core.dieFree unit = true ∧ s.core.unitGood unit = true ∧ s.core.flashWrites =
        true) ∧
    (∃ (s : State) (unit : Nat), s.quiet = true ∧ s.core.dieFree unit = true ∧ s.core.unitGood unit = true ∧ s.core.flashWrites =
        false) ∧
    (∃ (s : State) (unit : Nat), s.quiet = true ∧ s.core.dieFree unit = true ∧ s.core.unitGood unit = true ∧ s.core.flashWrites =
        false) ∧
    (∃ (s : State) (die n : Nat) (ok : Bool), s.quiet = true ∧ s.core.flash.ops.find? (fun x => decide (x.die = die)) = some
        { die := die, unit := n, erase := false } ∧ n < flashUnits ∧ ok = true ∧ s.core.armed 6 = false) ∧
    (∃ (s : State) (die n : Nat) (ok : Bool), s.quiet = true ∧ s.core.flash.ops.find? (fun x => decide (x.die = die)) = some
        { die := die, unit := n, erase := true } ∧ n < flashUnits ∧ ok = true ∧ s.core.armed 6 = false) ∧
    (∃ (s : State) (die n : Nat) (ok : Bool), s.quiet = true ∧ s.core.flash.ops.find? (fun x => decide (x.die = die)) = some
        { die := die, unit := n, erase := true } ∧ n < flashUnits ∧ ok = false ∧ s.core.armed 6 = false) ∧
    (∃ (s : State) (unit pages bits most bad : Nat) (owner : List (Nat × Nat)), s.quiet = true ∧ unit < flashUnits ∧ s.core.f
        (F.FLASH_EU_B_STATE unit) = 1 ∧ most < 128) ∧
    (∃ (s : State) (tlc : Bool) (lo hi dst : Nat), s.quiet = true ∧ (s.core.leastWorn (s.core.unitsIn 1 fun a => if tlc then
        tlcArea a else a ≤ 3) = some lo) ∧ (s.core.mostWorn (s.core.unitsIn 1 fun a => if tlc then tlcArea a else a ≤ 3) = some hi)
        ∧ (s.core.mostWorn (s.core.unitsIn 0 fun a => if tlc then tlcArea a else a ≤ 3) = some dst) ∧ 2 ≤ s.core.f
        (F.FLASH_EU_B_AREA lo) ∧ s.core.flashWrites = true ∧ (s.core.f (F.FLASH_EU_A_PE hi) > s.core.f (F.FLASH_EU_A_PE lo) + if
        tlc then 500 else 2000) ∧ lo < flashUnits ∧ dst < flashUnits ∧ lo ≠ dst) ∧
    (∃ (s : State) (unit dst : Nat) (verified : Bool), s.quiet = true ∧ s.core.flash.reloc.find? (fun x => decide (x.1 = unit)) =
        some (unit, false) ∧ s.core.flashWrites = true ∧ verified = true ∧ (s.core.leastWorn (s.core.unitsIn 0 fun a => decide
        (tlcArea a = tlcArea (s.core.f (F.FLASH_EU_B_AREA unit))) && decide (a < 6)) = some dst) ∧ unit < flashUnits ∧ dst <
        flashUnits ∧ unit ≠ dst) ∧
    (∃ (s : State) (n : Nat), s.quiet = true ∧ n < flashUnits ∧ s.core.f (F.FLASH_EU_B_STATE n) = 1) :=
  ⟨⟨flashWith [(R.FLASH_EU_B 5463, 0x31)] id, 5463, [72, 73], [], by decide +kernel⟩,
   ⟨flashWith [(R.FLASH_EU_B 5463, 0x30)] fun c => c.setF F.FLASH_STATUS_WRITES_ALLOWED 1, 5463, by decide +kernel⟩,
   ⟨flashWith [(R.FLASH_EU_B 5463, 0x30)] fun c => c.setF F.FLASH_STATUS_WRITES_ALLOWED 1, 5463, by decide +kernel⟩,
   ⟨flashWith [(R.FLASH_EU_B 5463, 0x30)] fun c => c.setF F.FLASH_STATUS_WRITES_ALLOWED 0, 5463, by decide +kernel⟩,
   ⟨flashWith [(R.FLASH_EU_B 5463, 0x30)] fun c => c.setF F.FLASH_STATUS_WRITES_ALLOWED 0, 5463, by decide +kernel⟩,
   ⟨runWith fun c => c.setFlashOps [⟨3, 5463, false⟩], 3, 5463, true, by decide +kernel⟩,
   ⟨runWith fun c => c.setFlashOps [⟨3, 5463, true⟩], 3, 5463, true, by decide +kernel⟩,
   ⟨flashWith [(R.FLASH_EU_B 5463, 0x30)] fun c => c.setFlashOps [⟨3, 5463, true⟩], 3, 5463, false, by decide +kernel⟩,
   ⟨flashWith [(R.FLASH_EU_B 5463, 0x31)] id, 5463, 64, 9, 73, 1, [], by decide +kernel⟩,
   ⟨wearState, true, 5463, 5462, 5461, by rw [wear_used, wear_free]; decide +kernel⟩,
   ⟨wearState, 5463, 5461, true, by rw [wear_tlc]; decide +kernel⟩,
   ⟨flashWith [(R.FLASH_EU_B 5463, 0x31)] id, 5463, by decide +kernel⟩⟩

/-- States and operands that meet the hypotheses of LibraryCommandsComplete. -/
theorem witness_LibraryCommandsComplete :
    (∃ (s : State) (p : Packet), let c := s.core.offered opStorageStatus p; let r := reqOf opStorageStatus p;
        let most : Bool → Nat := fun tlc => (List.range flashUnits).foldl (fun a n => if tlcArea (c.f (F.FLASH_EU_B_AREA n)) = tlc ∧ c.f (F.FLASH_EU_B_AREA n) ≤ 5 then max a (c.f (F.FLASH_EU_A_PE n)) else a) 0;
        s.core.admits opStorageStatus p = true ∧ s.quiet = true) ∧
    (∃ (s : State) (p : Packet) (l : List LibItem), let c := s.core.offered opLibList p; let r := reqOf opLibList p; s.core.admits
        opLibList p = true ∧ s.quiet = true ∧ 1 ≤ r.n 1 ∧ r.n 1 ≤ 256 ∧ (l = ((((c.flash.lib.filter fun it => decide (it.num <
        ledgerItem)) ++ (c.item? ledgerItem).toList ++ (c.flash.lib.filter fun it => decide (ledgerItem < it.num))).filter fun it
        => decide (r.n 0 ≤ it.num)).take (r.n 1)))) ∧
    (∃ (s : State) (p : Packet), let c := s.core.offered opLibWriteBegin p; let r := reqOf opLibWriteBegin p; s.core.admits
        opLibWriteBegin p = true ∧ s.quiet = true ∧ libBeginCheck c r.tok.session (r.n 0) (r.n 1) (r.n 2) = .ok) ∧
    (∃ (s : State) (p : Packet) (w : LibWrite), let c := s.core.offered opLibWriteData p; let r := reqOf opLibWriteData p;
        s.core.admits opLibWriteData p = true ∧ s.quiet = true ∧ c.openWrite? r.tok.session (r.n 0) = some w ∧ r.n 1 =
        w.data.length ∧ w.data.length + (r.bytes.drop 8).length ≤ w.size ∧ c.flag F.SYS_STATUS_VIN_WARN = false) ∧
    (∃ (s : State) (p : Packet) (w : LibWrite), let c := s.core.offered opLibWriteCommit p; let r := reqOf opLibWriteCommit p;
        s.core.admits opLibWriteCommit p = true ∧ s.quiet = true ∧ c.openWrite? r.tok.session (r.n 0) = some w ∧ w.data.length =
        w.size ∧ crc32c w.data = r.n 1 ∧ formatOk w.kind w.data = true ∧ c.itemLocked w.num r.tok.session = false ∧ c.flag
        F.SYS_STATUS_VIN_WARN = false) ∧
    (∃ (s : State) (session : Nat) (w : LibWrite), s.quiet = true ∧ s.core.flash.writes.find? (fun x => decide (x.session =
        session) && x.commit.isSome) = some w ∧ s.core.flag F.SYS_STATUS_VIN_WARN = false ∧ w.num ≠ ledgerItem) ∧
    (∃ (s : State) (session : Nat), s.quiet = true) ∧
    (∃ (s : State) (p : Packet) (it : LibItem), let c := s.core.offered opLibRead p; let r := reqOf opLibRead p; s.core.admits
        opLibRead p = true ∧ s.quiet = true ∧ c.item? (r.n 0) = some it ∧ it.num ≠ ledgerItem ∧ 1 ≤ r.n 2 ∧ r.n 2 + 4 ≤ maxParams
        p.transport ∧ r.n 1 + r.n 2 ≤ it.data.length ∧ (it.damaged.all (fun k => decide (r.n 1 + r.n 2 ≤ k * 16384 ∨ k * 16384 +
        16384 ≤ r.n 1)) = true)) ∧
    (∃ (s : State) (p : Packet), let c := s.core.offered opLibDelete p; let r := reqOf opLibDelete p; s.core.admits opLibDelete p =
        true ∧ s.quiet = true ∧ c.itemLocked (r.n 0) r.tok.session = false ∧ (c.item? (r.n 0)).all (fun it => decide (it.kind ≠ 6)
        && decide (it.kind ≠ 7)) = true ∧ c.flag F.SYS_STATUS_VIN_WARN = false) ∧
    (∃ (s : State) (p : Packet) (w : LibWrite), let c := s.core.offered opLibWriteAbort p; let r := reqOf opLibWriteAbort p;
        s.core.admits opLibWriteAbort p = true ∧ s.quiet = true ∧ c.openWrite? r.tok.session (r.n 0) = some w) :=
  ⟨⟨tRun, pk [], by decide +kernel⟩,
   ⟨libWith id, pk [2, 1], [⟨7, 4, [1, 2, 3], 9, []⟩], by decide +kernel⟩,
   ⟨libWith fun c => { c with flash := { c.flash with writes := [] } }, pk [0xFFFFFFFE, 5, 12], by decide +kernel⟩,
   ⟨libWith id, pk [9, 4, 0x08070605], { session := 1, num := 9, kind := 5, size := 8, data := [1, 2, 3, 4] }, by decide +kernel⟩,
   ⟨libWith fun c => { c with flash := { c.flash with writes := [{ session := 1, num := 9, kind := 5, size := 9, data := [0x31, 0x32, 0x33, 0x34, 0x35, 0x36, 0x37, 0x38, 0x39] }] } }, pk [9, 0xE3069283], { session := 1, num := 9, kind := 5, size := 9, data := [0x31, 0x32, 0x33, 0x34, 0x35, 0x36, 0x37, 0x38, 0x39] }, by decide +kernel⟩,
   ⟨libWith fun c => { c with flash := { c.flash with writes := [{ session := 1, num := 9, kind := 5, size := 1, data := [7], commit := some (⟨1, 4, 0x0B04⟩, 3) }] } }, 1, { session := 1, num := 9, kind := 5, size := 1, data := [7], commit := some (⟨1, 4, 0x0B04⟩, 3) }, by decide +kernel⟩,
   ⟨libWith id, 1, by decide +kernel⟩,
   ⟨libWith id, pk [7, 1, 2], ⟨7, 4, [1, 2, 3], 9, []⟩, by decide +kernel⟩,
   ⟨libWith id, pk [7], by decide +kernel⟩,
   ⟨libWith id, pk [9], { session := 1, num := 9, kind := 5, size := 8, data := [1, 2, 3, 4] }, by decide +kernel⟩⟩

/-- States and operands that meet the hypotheses of CheckScansAndSettingsComplete. -/
theorem witness_CheckScansAndSettingsComplete :
    (∃ (s : State) (p : Packet), let c := s.core.offered opCrcScan p; let r := reqOf opCrcScan p; s.core.admits opCrcScan p = true
        ∧ s.quiet = true ∧ r.n 0 ≤ 1 ∧ r.n 1 ≤ 3 ∧ r.n 2 ≤ 1 ∧ r.n 4 ≤ 255 ∧ c.flag (F.CRC_CH_CTRL_BUSY (r.n 0)) = false ∧ (r.n 3 +
        2 ^ 32 * r.n 4 + (if r.n 5 = 0 then 2 ^ 32 else r.n 5) ≤ dramEnd ∨ (sramBase ≤ r.n 3 + 2 ^ 32 * r.n 4 ∧ r.n 3 + 2 ^ 32 *
        r.n 4 + (if r.n 5 = 0 then 2 ^ 32 else r.n 5) ≤ sramEnd))) ∧
    (∃ (s : State) (m k a n : Nat) (v : Word), let c := s.core.written ⟨m, R.CRC_CH_CTRL k, v⟩ 2147483648; s.core.serves m
        (R.CRC_CH_CTRL k) = true ∧ s.quiet = true ∧ k ≤ 3 ∧ (m = 8 → k ≤ 1) ∧ bitOf v 31 = true ∧ s.core.flag (F.CRC_CH_CTRL_BUSY
        k) = false ∧ a = s.core.crcAddr k ∧ n = s.core.crcLen k ∧ (a + n ≤ dramEnd ∨ (sramBase ≤ a ∧ a + n ≤ sramEnd))) ∧
    (∃ (s : State) (m k a n : Nat) (v : Word), let c := s.core.written ⟨m, R.CRC_CH_CTRL k, v⟩ 2147483648; s.core.serves m
        (R.CRC_CH_CTRL k) = true ∧ s.quiet = true ∧ k ≤ 3 ∧ (m = 8 → k ≤ 1) ∧ bitOf v 31 = true ∧ s.core.flag (F.CRC_CH_CTRL_BUSY
        k) = false ∧ a = s.core.crcAddr k ∧ n = s.core.crcLen k ∧ dramEnd < a + n ∧ (a < sramBase ∨ sramEnd < a + n)) ∧
    (∃ (s : State) (k a n poly : Nat) (seed : Option Nat), s.quiet = true ∧ k ≤ 3 ∧ s.core.flag (F.CRC_CH_CTRL_BUSY k) = true ∧ a =
        s.core.crcAddr k ∧ n = s.core.crcLen k ∧ poly = s.core.f (F.CRC_CH_CTRL_POLY k) ∧ (seed = if s.core.flag
        (F.CRC_CH_CTRL_CONT k) then some (s.core.get64 (R.CRC_CH_SEED_LO k) (R.CRC_CH_SEED_HI k)) else none) ∧ smGet (fun _ =>
        false) s.core.crc.dirty k = false ∧ s.core.memc.ecc.all (fun x => decide (x.2 ≠ 2)) = true) ∧
    (∃ (s : State) (k a n : Nat), s.quiet = true ∧ k ≤ 3 ∧ s.core.flag (F.CRC_CH_CTRL_BUSY k) = true ∧ a = s.core.crcAddr k ∧ n =
        s.core.crcLen k ∧ s.core.memc.ecc.any (fun x => decide (x.2 = 2 ∧ a < 8 * x.1 + 8 ∧ 8 * x.1 < a + n)) = true) ∧
    (∃ (s : State) (p : Packet), let c := s.core.offered opMemConfig p; let r := reqOf opMemConfig p; s.core.admits opMemConfig p =
        true ∧ s.quiet = true ∧ 8 ≤ r.n 0 ∧ r.n 0 ≤ 16 ∧ 1 ≤ r.n 1 ∧ r.n 1 ≤ 168 ∧ c.flag F.SYS_STATUS_VIN_WARN = false) ∧
    (∃ (s : State) (p : Packet), let c := s.core.offered opFlashConfig p; let r := reqOf opFlashConfig p; s.core.admits
        opFlashConfig p = true ∧ s.quiet = true ∧ bitsOf (r.w 0) 31 24 = 0 ∧ 1 ≤ bitsOf (r.w 0) 7 0 ∧ bitsOf (r.w 0) 7 0 ≤ 90 ∧ 1 ≤
        bitsOf (r.w 0) 15 8 ∧ bitsOf (r.w 0) 15 8 ≤ 180 ∧ 8 ≤ bitsOf (r.w 0) 23 16 ∧ bitsOf (r.w 0) 23 16 ≤ 72 ∧ c.flag
        F.SYS_STATUS_VIN_WARN = false) ∧
    (∃ (s : State) (p : Packet), let c := s.core.offered opFlashUnit p; let r := reqOf opFlashUnit p; s.core.admits opFlashUnit p =
        true ∧ s.quiet = true ∧ 1 ≤ r.n 1 ∧ r.n 1 ≤ 512 ∧ r.n 0 + r.n 1 ≤ flashUnits) :=
  ⟨⟨tRun, pk [1, 3, 1, 0x80000000, 2, 0, 7, 8], by decide +kernel⟩,
   ⟨tRun, 3, 3, 0, 4294967296, 0x80000000, by decide +kernel⟩,
   ⟨runWith fun c => c.setF (F.CRC_CH_ADDR_HI_ADDR 3) 3, 3, 3, 12884901888, 4294967296, 0x80000000, by decide +kernel⟩,
   ⟨{ tRun with core := ((tRun.core.setF (F.CRC_CH_CTRL_BUSY 3) 1).put (R.CRC_CH_LEN 3) 9), mem := { dram := [(0, 0x31), (1, 0x32)] } }, 3, 0, 9, 0, none, by decide +kernel⟩,
   ⟨runWith fun c => { (c.setF (F.CRC_CH_CTRL_BUSY 3) 1).put (R.CRC_CH_LEN 3) 9 with memc := { c.memc with ecc := [(1, 2)] } }, 3, 0, 9, by decide +kernel⟩,
   ⟨tRun, pk [16, 168], by decide +kernel⟩,
   ⟨tRun, pk [0x0048B45A, 0x00010002], by decide +kernel⟩,
   ⟨tRun, pk [4952, 512], by decide +kernel⟩⟩

/-- States and operands that meet the hypotheses of TetherFramesComplete. -/
theorem witness_TetherFramesComplete :
    (∃ (s : State) (f : Tether), s.quiet = true ∧ s.core.tetherOn = true ∧ s.core.twinState = 3 ∧ f.magic = 0x5457 ∧ f.version = 1
        ∧ (s.core.get R.TWIN_EPOCH).toNat ≤ f.epoch ∧ f.frag = 0x8000 ∧ f.payload.length = f.setLen ∧ crc32c f.payload = f.check) ∧
    (∃ (s : State) (f : Tether), s.quiet = true ∧ s.core.tetherOn = true ∧ s.core.twinState = 3 ∧ f.magic = 0x5457 ∧ f.version = 1
        ∧ (s.core.get R.TWIN_EPOCH).toNat ≤ f.epoch ∧ f.frag = 0x8000 ∧ f.payload.length = f.setLen ∧ crc32c f.payload ≠ f.check) ∧
    (∃ (s : State) (f : Tether), s.quiet = true ∧ s.core.tetherOn = true ∧ s.core.twinState = 3 ∧ f.magic = 0x5457 ∧ f.version = 1
        ∧ (s.core.get R.TWIN_EPOCH).toNat ≤ f.epoch ∧ f.frag < 0x8000 ∧ s.core.twin.sets.all (fun x => decide (x.block ≠ f.block))
        = true) ∧
    (∃ (s : State) (f : Tether), s.quiet = true ∧ s.core.tetherOn = true ∧ (f.magic ≠ 0x5457 ∨ f.version ≠ 1 ∨ f.epoch <
        (s.core.get R.TWIN_EPOCH).toNat)) ∧
    (∃ (s : State) (f : Tether), s.quiet = true ∧ s.core.tetherOn = true ∧ s.core.twinState = 2 ∧ f.magic = 0x5457 ∧ f.version = 1
        ∧ s.core.flag F.TWIN_CFG_SYNC_REPLY = true ∧ f.flags / 32 % 2 = 1) ∧
    (∃ (s : State) (f : Tether), s.quiet = true ∧ s.core.tetherOn = true ∧ s.core.twinState = 2 ∧ f.magic = 0x5457 ∧ f.version = 1
        ∧ f.state = 3 ∧ s.core.flag (F.NET_STATUS_LINK_UP 2) = true ∧ 64 ≤ s.core.f (F.NET_MAX_FRAME_BYTES 2)) ∧
    (∃ (s : State) (f : Tether) (part : ResyncPart) (n : Nat) (w : Word) (o : SMap ObjLive), s.quiet = true ∧ s.core.tetherOn =
        true ∧ s.core.twinWaits = true ∧ s.core.twin.resync = true ∧ f.magic = 0x5457 ∧ f.version = 1 ∧ (s.core.get
        R.TWIN_EPOCH).toNat ≤ f.epoch ∧ (part = .objects o ∨ part = .regs [(n, w)])) ∧
    (∃ (s : State) (f : Tether) (g : Nat), s.quiet = true ∧ s.core.tetherOn = true ∧ s.core.twinState = 3 ∧ s.core.flag
        F.TWIN_STATUS_READY = true ∧ f.magic = 0x5457 ∧ f.version = 1 ∧ (s.core.get R.TWIN_EPOCH).toNat ≤ f.epoch) ∧
    (∃ (s : State) (f : Tether), s.quiet = true ∧ s.core.tetherOn = true ∧ s.core.twinState = 3 ∧ s.core.flag F.TWIN_STATUS_READY =
        true ∧ s.core.flag F.HOST_STATUS_RESTARTING = false ∧ s.core.twin.fixed = false ∧ f.magic = 0x5457 ∧ f.version = 1 ∧
        (s.core.get R.TWIN_EPOCH).toNat ≤ f.epoch) ∧
    (∃ (s : State) (f : Tether) (primary : Bool), s.quiet = true ∧ s.core.tetherOn = true ∧ s.core.twinState = 1 ∧ f.state = 1 ∧
        f.magic = 0x5457 ∧ f.version = 1 ∧ s.core.twin.resync = false) ∧
    (∃ (s : State) (items : MirrorItems) (set : Nat × Nat × Nat) (u : List (Nat × Nat × Nat)) (l : LibCopy), s.quiet = true ∧
        s.core.twin.ready = set :: u ∧ s.core.twinState = 3 ∧ s.core.twin.resync = false ∧ s.core.twin.due = none ∧ items.cmds = []
        ∧ items.libs = [l] ∧ items.regions = [] ∧ set.1 < 2 ^ 64 ∧ set.2.1 < 2 ^ 20 ∧ l.num ≠ ledgerItem) :=
  ⟨⟨twinWith 3 id, tetherOf 2 0x8000 0 [1, 2, 3], by decide +kernel⟩,
   ⟨twinWith 3 id, { tetherOf 2 0x8000 0 [1, 2, 3] with check := 0 }, by decide +kernel⟩,
   ⟨twinWith 3 id, tetherOf 2 0x7FFF 0 [1, 2, 3], by decide +kernel⟩,
   ⟨twinWith 3 id, { tetherOf 2 0x8000 0 [1, 2, 3] with epoch := 2 }, by decide +kernel⟩,
   ⟨twinWith 2 fun c => { c.setF F.TWIN_CFG_SYNC_REPLY 1 with twin := { c.twin with replies := [(4784, .pin "x" 0 true), (4800, .pin "x" 0 true)] } }, tetherOf 3 0x8000 32 [], by decide +kernel⟩,
   ⟨twinWith 2 id, tetherOf 3 0x8000 0 [], by decide +kernel⟩,
   ⟨twinWith 1 fun c => { c with twin := { c.twin with resync := true } }, tetherOf 2 0x8000 0 [], .regs [(R.TWIN_TRIGGER, 9)], R.TWIN_TRIGGER, 9, [], by decide +kernel⟩,
   ⟨twinWith 3 fun c => (c.setF F.TWIN_STATUS_READY 1).setF F.SYS_STATUS_STATE 2, { tetherOf 5 0x8000 0 [] with block := 9600 }, 480, by decide +kernel⟩,
   ⟨twinWith 3 fun c => c.setF F.TWIN_STATUS_READY 1, tetherOf 2 0x8000 0 [], by decide +kernel⟩,
   ⟨twinWith 1 id, tetherOf 1 0x8000 0 [], false, by decide +kernel⟩,
   ⟨twinWith 3 fun c => { c with twin := { c.twin with ready := [(4784, 12, 0)] } }, { libs := [⟨9, 5, [1]⟩] }, (4784, 12, 0), [], ⟨9, 5, [1]⟩, by decide +kernel⟩⟩

/-- States and operands that meet the hypotheses of TwinRolesComplete. -/
theorem witness_TwinRolesComplete :
    (∃ (s : State), s.quiet = true ∧ s.core.twinState = 1 ∧ s.core.flag F.TWIN_STATUS_TETHER_UP = false) ∧
    (∃ (s : State) (version : Word), s.quiet = true ∧ s.core.twin.resync = true) ∧
    (∃ (s : State) (d : Nat), s.quiet = true ∧ s.core.twin.decide_ = some d ∧ d ≤ s.core.time.n ∧ s.core.twinState = 3) ∧
    (∃ (s : State) (d : Nat), s.quiet = true ∧ s.core.twin.due = some d ∧ d ≤ s.core.time.n ∧ s.core.twinWaits = true) ∧
    (∃ (s : State) (x : SwitchRun), s.quiet = true ∧ s.core.twin.switch = some x ∧ x.mine = false ∧ x.prepared = false ∧ x.b ≤
        s.core.time.n + 12 * s.core.blk ∧ s.core.clk.mediaOn = true) ∧
    (∃ (s : State) (x : SwitchRun), s.quiet = true ∧ s.core.twin.switch = some x ∧ x.mine = true ∧ x.past = false ∧ x.b ≤
        s.core.time.n ∧ s.core.clk.mediaOn = true) ∧
    (∃ (s : State) (x : SwitchRun), s.quiet = true ∧ s.core.twin.switch = some x ∧ x.mine = false ∧ x.past = false ∧ x.b ≤
        s.core.time.n ∧ s.core.clk.mediaOn = true) ∧
    (∃ (s : State) (x : SwitchRun), s.quiet = true ∧ s.core.twin.switch = some x ∧ x.past = true ∧ x.b + x.g ≤ s.core.time.n) ∧
    (∃ (s : State) (p : Packet), let c := s.core.offered opTwinStatus p; let r := reqOf opTwinStatus p; s.core.admits opTwinStatus
        p = true ∧ s.quiet = true) ∧
    (∃ (s : State) (p : Packet), let c := s.core.offered opTwinConfig p; let r := reqOf opTwinConfig p; s.core.admits opTwinConfig
        p = true ∧ s.quiet = true ∧ r.w 0 &&& 0x00FE00F8 = 0 ∧ r.w 1 &&& 0xFFFFFFE0 = 0 ∧ (bitsOf (r.w 0) 16 8 ≤ 255 ∨ bitsOf (r.w
        0) 16 8 = 0x1FF) ∧ bitOf (r.w 0) 0 = true ∧ c.twinState = 0) ∧
    (∃ (s : State) (p : Packet) (g : Nat), let c := s.core.offered opTwinSwitchover p; let r := reqOf opTwinSwitchover p;
        s.core.admits opTwinSwitchover p = true ∧ s.quiet = true ∧ (g = if r.n 0 = 0 then c.glaze else r.n 0) ∧ 16 ≤ g ∧ g ≤ 4096 ∧
        g % 16 = 0 ∧ c.twinState = 2 ∧ c.partnerReady = true ∧ c.flag F.TWIN_STATUS_MEDIA_MATCH = true ∧ c.now + max 256 (g + 32) ≤
        c.boundaryAt (c.now + max 256 (g + 32))) ∧
    (∃ (s : State) (p : Packet), let c := s.core.offered opTwinForce p; let r := reqOf opTwinForce p; s.core.admits opTwinForce p =
        true ∧ s.quiet = true ∧ (c.twinState = 1 ∨ c.twinState = 3 ∨ c.twinState = 6)) ∧
    (∃ (s : State) (p : Packet), let c := s.core.offered opTwinLeave p; let r := reqOf opTwinLeave p; s.core.admits opTwinLeave p =
        true ∧ s.quiet = true) ∧
    (∃ (s : State) (p : Packet), let c := s.core.offered opTwinPersist p; let r := reqOf opTwinPersist p; s.core.admits
        opTwinPersist p = true ∧ s.quiet = true ∧ r.n 0 ≤ 15 ∧ 1 ≤ r.n 3 ∧ r.n 2 + r.n 3 ≤ 32768 ∧ c.brush.custom.contains (r.n 1)
        = true ∧ (4 * ((c.twin.persist.filter fun x => decide (x.1 ≠ r.n 0)).foldl (fun a x => a + x.2.elim 0 (fun y => y.2.2)) 0 +
        r.n 3) ≤ c.setLimit / 2)) ∧
    (∃ (s : State) (p : Packet), let c := s.core.offered opTwinResync p; let r := reqOf opTwinResync p; s.core.admits opTwinResync
        p = true ∧ s.quiet = true ∧ (c.twinState = 3 ∨ c.twinState = 6) ∧ c.twin.tok = none) :=
  ⟨⟨twinWith 1 fun c => (c.setF F.TWIN_STATUS_TETHER_UP 0).setF F.TWIN_CFG_PRIMARY 1, by decide +kernel⟩,
   ⟨twinWith 1 fun c => { c with twin := { c.twin with resync := true } }, 0, by decide +kernel⟩,
   ⟨twinWith 3 fun c => { c with twin := { c.twin with decide_ := some 4800, wasReady := true } }, 4800, by decide +kernel⟩,
   ⟨twinWith 3 fun c => { c with twin := { c.twin with due := some 4800 } }, 4800, by decide +kernel⟩,
   ⟨twinWith 3 fun c => { c with power := { c.power with engineStop := true }, twin := { c.twin with switch := some { b := 4992, g := 480, mine := false } } }, { b := 4992, g := 480, mine := false }, by decide +kernel⟩,
   ⟨twinWith 5 fun c => { c with twin := { c.twin with switch := some { b := 4800, g := 480, mine := true } } }, { b := 4800, g := 480, mine := true }, by decide +kernel⟩,
   ⟨twinWith 3 fun c => { c.put R.TWIN_ALIAS0 0x0A000005 with twin := { c.twin with switch := some { b := 4800, g := 480, mine := false, prepared := true } } }, { b := 4800, g := 480, mine := false, prepared := true }, by decide +kernel⟩,
   ⟨twinWith 3 fun c => { c with twin := { c.twin with switch := some { b := 4320, g := 480, mine := true, past := true } } }, { b := 4320, g := 480, mine := true, past := true }, by decide +kernel⟩,
   ⟨twinWith 2 fun c => c.put R.TWIN_SET_BAD 4, pk [], by decide +kernel⟩,
   ⟨twinWith 0 id, pk [0x0001FF03, 0x1F, 1, 2, 3], by decide +kernel⟩,
   ⟨twinWith 2 fun c => (c.setF F.TWIN_STATUS_PARTNER_FLAGS 32).setF F.TWIN_STATUS_MEDIA_MATCH 1, pk [4096], 4096, by decide +kernel⟩,
   ⟨twinWith 6 id, pk [], by decide +kernel⟩,
   ⟨twinWith 3 id, pk [], by decide +kernel⟩,
   ⟨custWith id, pkX [15, 20, 0, 32768], by decide +kernel⟩,
   ⟨twinWith 3 id, pk [], by decide +kernel⟩⟩

/-- States and operands that meet the hypotheses of UpdateOpcodesComplete. -/
theorem witness_UpdateOpcodesComplete :
    (∃ (s : State) (p : Packet), let c := s.core.offered opUpdateStatus p; let r := reqOf opUpdateStatus p; s.core.admits
        opUpdateStatus p = true ∧ s.quiet = true) ∧
    (∃ (s : State) (p : Packet) (k : Nat), let c := s.core.offered opUpdateBegin p; let r := reqOf opUpdateBegin p; s.core.admits
        opUpdateBegin p = true ∧ s.quiet = true ∧ imageLength (r.n 0) = true ∧ c.update.winner = none ∧ c.flag
        F.SYS_STATUS_VIN_WARN = false ∧ (List.range 2).any (fun i => decide ((c.upSlot i).state = 1) && decide ((c.upSlot
        i).session = some p.session.toNat)) = false ∧ c.newUpSlot = some k) ∧
    (∃ (s : State) (p : Packet) (k : Nat), let c := s.core.offered opUpdateData p; let r := reqOf opUpdateData p; s.core.admits
        opUpdateData p = true ∧ s.quiet = true ∧ c.openSlot p.session.toNat = some k ∧ r.n 0 = (c.upSlot k).data.length ∧ (c.upSlot
        k).data.length + (r.bytes.drop 4).length ≤ (c.upSlot k).length) ∧
    (∃ (s : State) (p : Packet) (k : Nat), let c := s.core.offered opUpdateEnd p; let r := reqOf opUpdateEnd p; s.core.admits
        opUpdateEnd p = true ∧ s.quiet = true ∧ c.openSlot p.session.toNat = some k) ∧
    (∃ (s : State) (p : Packet), let c := s.core.offered opUpdateDiscard p; let r := reqOf opUpdateDiscard p; s.core.admits
        opUpdateDiscard p = true ∧ s.quiet = true ∧ r.n 0 ≤ 1 ∧ c.update.sched = none ∧ ((c.update.winner.map fun w => w.1) ≠ some
        (r.n 0)) ∧ ((c.upSlot (r.n 0)).state = 1 ∨ (c.upSlot (r.n 0)).state = 2)) ∧
    (∃ (s : State) (p : Packet), let c := s.core.offered opUpdateDiscard p; let r := reqOf opUpdateDiscard p; s.core.admits
        opUpdateDiscard p = true ∧ s.quiet = true ∧ r.n 0 = 2 ∧ c.update.sched = none) ∧
    (∃ (s : State) (p : Packet), let c := s.core.offered opUpdatePeers p; let r := reqOf opUpdatePeers p; s.core.admits
        opUpdatePeers p = true ∧ s.quiet = true ∧ r.n 2 ≤ 4 ∧ r.bytes.length = 12 + 4 * r.n 2 ∧ r.w 0 &&& 0xFFFF000E = 0 ∧ 1 ≤
        bitsOf (r.w 0) 15 4 ∧ bitsOf (r.w 0) 15 4 ≤ 400 ∧ (List.range 4).all (fun i => decide (c.peerState i ≠ 1)) = true) ∧
    (∃ (s : State) (p : Packet) (d : List Byte) (u : Nat) (x : Image × Bool), let c := s.core.offered opUpdateActivate p;
        let r := reqOf opUpdateActivate p; s.core.admits opUpdateActivate p = true ∧ s.quiet = true ∧ r.w 11 &&& 0xFFFFFFFE = 0 ∧
        r.n 10 < 10 ^ 9 ∧ r.n 9 < 65536 ∧ d = r.bytes.take 32 ∧ u = (r.n 8 + 2 ^ 32 * r.n 9) * 10 ^ 9 + r.n 10 ∧ c.imageNamed d =
        some x ∧ c.ptpNs + 10 * 10 ^ 9 ≤ u ∧ u ≤ c.ptpNs + 86400 * 10 ^ 9 ∧ c.update.sched = none) ∧
    (∃ (s : State) (p : Packet), let c := s.core.offered opUpdateCancel p; let r := reqOf opUpdateCancel p; s.core.admits
        opUpdateCancel p = true ∧ s.quiet = true ∧ r.w 0 &&& 0xFFFFFFFE = 0 ∧ c.update.sched.isSome = true ∧ c.actSoon = false) ∧
    (∃ (s : State) (p : Packet), let c := s.core.offered opUpdatePeerStatus p; let r := reqOf opUpdatePeerStatus p; s.core.admits
        opUpdatePeerStatus p = true ∧ s.quiet = true) ∧
    (∃ (s : State) (p : Packet), let c := s.core.offered opUpdateSvnRaise p; let r := reqOf opUpdateSvnRaise p; s.core.admits
        opUpdateSvnRaise p = true ∧ s.quiet = true ∧ r.n 0 ≤ c.f F.UPDATE_SVN_ACTIVE ∧ c.f F.UPDATE_SVN_MIN ≤ r.n 0) :=
  ⟨⟨tRun, pk [], by decide +kernel⟩,
   ⟨updWith id, pk (257 :: List.replicate 8 7), 0, by decide +kernel⟩,
   ⟨updWith fun c => { c with update := { c.update with slots := [(1, { state := 1, length := 257, data := [1], session := some 1 })] } }, pk [1, 0x04030201], 1, by decide +kernel⟩,
   ⟨updWith fun c => { c with update := { c.update with slots := [(1, { state := 1, length := 257, data := [1], session := some 1 })] } }, pk [], 1, by decide +kernel⟩,
   ⟨updWith fun c => { c with update := { c.update with slots := [(1, { state := 1, length := 257, data := [1], session := some 1 })] } }, pk [1], by decide +kernel⟩,
   ⟨winWith id, pk [2], by decide +kernel⟩,
   ⟨updWith id, pk [0x1900, 1, 4, 2, 3, 4, 5], by decide +kernel⟩,
   ⟨winWith id, pk ((bytesWords testDigest).map (·.toNat) ++ [86400, 0, 0, 1]), testDigest, 86400 * 10 ^ 9, (⟨testImage, testDigest, 0x20000, 2⟩, false), by decide +kernel⟩,
   ⟨winWith fun c => { c with update := { c.update with sched := some (schedOf false false) } }, pk [1], by decide +kernel⟩,
   ⟨updWith id, pk [], by decide +kernel⟩,
   ⟨updWith id, pk [2], by decide +kernel⟩⟩

/-- States and operands that meet the hypotheses of UpdateChainCompletes. -/
theorem witness_UpdateChainCompletes :
    (∃ (s : State) (f : UpFrame) (k : Nat), s.quiet = true ∧ f.magic = 0x5543 ∧ f.version = 1 ∧ s.core.easelRuns = true ∧ f.src ≠ 0
        ∧ f.src = (s.core.get R.UPDATE_UPSTREAM).toNat ∧ s.core.update.winner = none ∧ imageLength (itemNat f.data 0 4) = true ∧
        f.data.length = 36 ∧ s.core.flag F.SYS_STATUS_VIN_WARN = false ∧ (List.range 2).all (fun i => decide ((s.core.upSlot
        i).state = 0)) = true ∧ s.core.newUpSlot = some k) ∧
    (∃ (s : State) (f : UpFrame), s.quiet = true ∧ f.magic = 0x5543 ∧ f.version = 1 ∧ s.core.easelRuns = true ∧ f.src ≠ (s.core.get
        R.UPDATE_UPSTREAM).toNat) ∧
    (∃ (s : State) (f : UpFrame) (k : Nat), s.quiet = true ∧ f.magic = 0x5543 ∧ f.version = 1 ∧ s.core.easelRuns = true ∧ f.src ≠ 0
        ∧ f.src = (s.core.get R.UPDATE_UPSTREAM).toNat ∧ (List.range 2).find? (fun i => decide ((s.core.upSlot i).state = 1) &&
        (s.core.upSlot i).session.isNone && decide ((s.core.upSlot i).xfer = f.xfer) && decide ((s.core.upSlot i).digest.take 8 =
        f.digest)) = some k ∧ f.offset = (s.core.upSlot k).data.length ∧ f.data.length ≤ 1408 ∧ (s.core.upSlot k).data.length +
        f.data.length ≤ (s.core.upSlot k).length) ∧
    (∃ (s : State) (f : UpFrame) (n : Nat) (w : Nat × Image), s.quiet = true ∧ f.magic = 0x5543 ∧ f.version = 1 ∧ f.src ≠ 0 ∧
        (List.range 4).find? (fun i => decide (s.core.peerIp i = f.src) && (s.core.peer i).offered && decide ((s.core.peer i).xfer
        = f.xfer)) = some n ∧ s.core.update.winner = some w ∧ (s.core.peerState n ≤ 1 ∨ s.core.peerState n = 6) ∧ (s.core.peer
        n).acked ≤ f.offset ∧ f.offset ≤ w.2.data.length) ∧
    (∃ (s : State) (f : UpFrame) (n : Nat), s.quiet = true ∧ f.magic = 0x5543 ∧ f.version = 1 ∧ f.src ≠ 0 ∧ (List.range 4).find?
        (fun i => decide (s.core.peerIp i = f.src) && (s.core.peer i).offered && decide ((s.core.peer i).xfer = f.xfer)) = some n)
        ∧
    (∃ (s : State) (f : UpFrame) (n : Nat), s.quiet = true ∧ f.magic = 0x5543 ∧ f.version = 1 ∧ f.src ≠ 0 ∧ (List.range 4).find?
        (fun i => decide (s.core.peerIp i = f.src) && (s.core.peer i).offered && decide ((s.core.peer i).xfer = f.xfer)) = some n)
        ∧
    (∃ (s : State) (f : UpFrame) (n : Nat), s.quiet = true ∧ f.magic = 0x5543 ∧ f.version = 1 ∧ f.src ≠ 0 ∧ (List.range 4).find?
        (fun i => decide (s.core.peerIp i = f.src) && (s.core.peer i).offered && decide ((s.core.peer i).xfer = f.xfer)) = some n ∧
        f.status = statusCode .verifyFailed ∧ (s.core.peerState n = 1 ∨ s.core.peerState n = 2)) ∧
    (∃ (s : State) (f : UpFrame) (n : Nat), s.quiet = true ∧ f.magic = 0x5543 ∧ f.version = 1 ∧ f.src ≠ 0 ∧ (List.range 4).find?
        (fun i => decide (s.core.peerIp i = f.src) && (s.core.peer i).offered && decide ((s.core.peer i).xfer = f.xfer)) = some n ∧
        s.core.peerState n = 3 ∧ s.core.update.sched.isSome = true) ∧
    (∃ (s : State) (f : UpFrame) (x : Image × Bool) (u : Nat), s.quiet = true ∧ f.magic = 0x5543 ∧ f.version = 1 ∧ s.core.easelRuns
        = true ∧ f.src ≠ 0 ∧ f.src = (s.core.get R.UPDATE_UPSTREAM).toNat ∧ f.data.length = 42 ∧ u = itemNat f.data 32 6 * 10 ^ 9 +
        itemNat f.data 38 4 ∧ s.core.imageNamed (f.data.take 32) = some x ∧ s.core.ptpNs + 10 * 10 ^ 9 ≤ u ∧ u ≤ s.core.ptpNs +
        86400 * 10 ^ 9 ∧ s.core.update.sched = none) ∧
    (∃ (s : State) (f : UpFrame) (x : UpSched), s.quiet = true ∧ f.magic = 0x5543 ∧ f.version = 1 ∧ s.core.easelRuns = true ∧ f.src
        ≠ 0 ∧ f.src = (s.core.get R.UPDATE_UPSTREAM).toNat ∧ s.core.update.sched = some x ∧ x.image.digest = f.data.take 32 ∧
        s.core.actSoon = false) ∧
    (∃ (s : State) (n : Nat), s.quiet = true ∧ n ≤ 3 ∧ s.core.peerState n = 1 ∧ (s.core.peer n).advance + 12500000 ≤
        s.core.time.cycles) ∧
    (∃ (s : State) (n : Nat), s.quiet = true ∧ n ≤ 3 ∧ s.core.peerState n ≤ 1 ∧ (s.core.peer n).offered = true ∧ (s.core.peer
        n).lastAck + 2500000000 ≤ s.core.time.cycles) ∧
    (∃ (s : State) (n x : Nat), s.quiet = true ∧ n ≤ 3 ∧ (s.core.peer n).waitAt = some x ∧ x + 15000000000 ≤ s.core.time.cycles ∧
        s.core.flag F.UPDATE_CFG_FWD_EN = true ∧ s.core.update.winner.isSome = true ∧ s.core.peerIp n ≠ 0) ∧
    (∃ (s : State) (env : ImageEnv) (k : Nat), s.quiet = true ∧ s.core.verifying = some k ∧ s.core.imageCause (s.core.upSlot
        k).data (s.core.upSlot k).digest env = 0) ∧
    (∃ (s : State) (env : ImageEnv) (k x : Nat), s.quiet = true ∧ s.core.verifying = some k ∧ s.core.imageCause (s.core.upSlot
        k).data (s.core.upSlot k).digest env = x ∧ x ≠ 0) ∧
    (∃ (s : State) (k n : Nat), s.quiet = true ∧ k ≤ 1 ∧ (s.core.upSlot k).state = 1 ∧ (s.core.upSlot k).session = some n ∧
        (s.core.upSlot k).at_ + 15000000000 ≤ s.core.time.cycles) ∧
    (∃ (s : State) (env : ImageEnv) (x : UpSched) (u cause : Nat), s.quiet = true ∧ s.core.update.sched = some x ∧ x.checked =
        false ∧ x.t = some u ∧ u ≤ s.core.ptpNs + 10 ^ 9 ∧ s.core.imageCause x.image.data x.image.digest env = cause) ∧
    (∃ (s : State) (x : UpSched) (u : Nat), s.quiet = true ∧ s.core.update.sched = some x ∧ x.checked = true ∧ x.running = false ∧
        x.t = some u ∧ u ≤ s.core.ptpNs ∧ s.core.flag F.SYS_STATUS_VIN_WARN = false ∧ s.core.flag F.SYS_STATUS_RECOVERY = false ∧
        s.core.flag F.HOST_STATUS_RESTARTING = false) ∧
    (∃ (s : State) (x : UpSched) (u : Nat), s.quiet = true ∧ s.core.update.sched = some x ∧ x.checked = true ∧ x.running = false ∧
        x.t = some u ∧ u ≤ s.core.ptpNs ∧ s.core.flag F.SYS_STATUS_VIN_WARN = true) ∧
    (∃ (s : State) (x : UpSched) (u : Nat), s.quiet = true ∧ s.core.update.sched = some x ∧ x.running = true ∧ x.t = some u ∧ u +
        1500000000 ≤ s.core.ptpNs ∧ s.core.flag F.HOST_STATUS_RESTARTING = true) :=
  ⟨⟨updWith id, upOf 0x0A000009 5 0 0 (testDigest.take 8) ([1, 1, 0, 0] ++ testDigest), 0, by decide +kernel⟩,
   ⟨updWith id, upOf 0x0A000008 5 0 0 (testDigest.take 8) ([1, 1, 0, 0] ++ testDigest), by decide +kernel⟩,
   ⟨updWith fun c => { c with update := { c.update with slots := [(1, { state := 1, length := 257, digest := testDigest, data := List.replicate 256 1, xfer := 5 })] } }, upOf 0x0A000009 5 256 0 (testDigest.take 8) [7], 1, by decide +kernel⟩,
   ⟨winWith fun c => (c.setPeer 0 { xfer := 5, offered := true }), upOf 0x0A000008 5 257 0 (testDigest.take 8) [], 0, (1, ⟨testImage, testDigest, 0x20000, 2⟩), by decide +kernel⟩,
   ⟨winWith fun c => (c.setPeer 0 { xfer := 5, offered := true }), upOf 0x0A000008 5 0 (statusCode .busy) (testDigest.take 8) [], 0, by decide +kernel⟩,
   ⟨winWith fun c => (c.setPeer 0 { xfer := 5, offered := true }), upOf 0x0A000008 5 0 0 (testDigest.take 8) [0, 0, 2, 0], 0, by decide +kernel⟩,
   ⟨winWith fun c => (c.setPeer 0 { xfer := 5, offered := true }).setF (F.UPDATE_PEER_STATE_PEER 0) 2, upOf 0x0A000008 5 5 (statusCode .verifyFailed) (testDigest.take 8) [], 0, by decide +kernel⟩,
   ⟨winWith fun c => let c := (c.setPeer 0 { xfer := 5, offered := true }).setF (F.UPDATE_PEER_STATE_PEER 0) 3; { c with update := { c.update with sched := some (schedOf false false) } }, upOf 0x0A000008 5 0 0 (testDigest.take 8) [], 0, by decide +kernel⟩,
   ⟨winWith id, upOf 0x0A000009 5 0 0 (testDigest.take 8) (actData testDigest (10 * 10 ^ 9)), (⟨testImage, testDigest, 0x20000, 2⟩, false), 10 * 10 ^ 9, by decide +kernel⟩,
   ⟨winWith fun c => { c with update := { c.update with sched := some (schedOf false false) } }, upOf 0x0A000009 5 0 0 (testDigest.take 8) (actData testDigest (100 * 10 ^ 9)), schedOf false false, by decide +kernel⟩,
   ⟨winWith fun c => (c.setPeer 0 { xfer := 5, offered := true, sent := 257 }).setF (F.UPDATE_PEER_STATE_PEER 0) 1, 0, by decide +kernel⟩,
   ⟨winWith fun c => { c.setPeer 0 { xfer := 5, offered := true } with time := { c.time with cycles := 2500000000 } }, 0, by decide +kernel⟩,
   ⟨winWith fun c => { c.setPeer 0 { xfer := 5, offered := true, waitAt := some 1 } with time := { c.time with cycles := 15000000001 } }, 0, 1, by decide +kernel⟩,
   ⟨updWith fun c => { c with update := { c.update with slots := [(0, { state := 1 }), (1, { state := 2, length := 257, digest := testDigest, data := testImage })] } }, ⟨false, false, false⟩, 1, by decide +kernel⟩,
   ⟨updWith fun c => { c with update := { c.update with slots := [(1, { state := 2, length := 257, digest := testDigest, data := testImage })] } }, ⟨true, false, false⟩, 1, 8, by decide +kernel⟩,
   ⟨updWith fun c => { c with time := { c.time with cycles := 15000000000 }, update := { c.update with slots := [(1, { state := 1, session := some 1 })] } }, 1, 1, by decide +kernel⟩,
   ⟨winWith fun c => { c with time := { c.time with ptp := 99 * 10 ^ 9 * 2 ^ 32 }, update := { c.update with sched := some (schedOf false false) } }, ⟨false, false, false⟩, schedOf false false, 100 * 10 ^ 9, 0, by decide +kernel⟩,
   ⟨winWith fun c => { c with time := { c.time with ptp := 100 * 10 ^ 9 * 2 ^ 32 }, update := { c.update with active := some ⟨[], [], 1, 1⟩, sched := some (schedOf true false) } }, schedOf true false, 100 * 10 ^ 9, by decide +kernel⟩,
   ⟨winWith fun c => { c.setF F.SYS_STATUS_VIN_WARN 1 with time := { c.time with ptp := 100 * 10 ^ 9 * 2 ^ 32 }, update := { c.update with sched := some (schedOf true false) } }, schedOf true false, 100 * 10 ^ 9, by decide +kernel⟩,
   ⟨winWith fun c => { c.setF F.HOST_STATUS_RESTARTING 1 with time := { c.time with ptp := 102 * 10 ^ 9 * 2 ^ 32 }, update := { c.update with active := some ⟨testImage, testDigest, 0x20000, 2⟩, prev := some (1, ⟨[], [], 1, 1⟩), sched := some (schedOf true true) } }, schedOf true true, 100 * 10 ^ 9, by decide +kernel⟩⟩

/-- States and operands that meet the hypotheses of SparesComplete. -/
theorem witness_SparesComplete :
    (∃ (s : State) (p : Patrol) (l m : Nat), s.quiet = true ∧ s.core.health.patrols = [p] ∧ p.back = false ∧ p.lanes = [l] ∧
        p.spares = [m] ∧ p.differ = [l] ∧ l < 32 ∧ m < 4 ∧ s.core.recent 1 l = false) ∧
    (∃ (s : State) (num e : Nat), s.quiet = true ∧ num = 0 ∧ s.core.flag F.HEALTH_CTRL_PATROL_EN = true ∧ s.core.patrolEvery ≤
        s.core.waited 0 ∧ s.core.clk.mediaOn = true ∧ s.core.health.patrols = [] ∧ s.core.re8Free = [0, 1, 2, 3] ∧ ((((List.range
        8).map fun i : Nat => (s.core.nextOf 0 + i) % 8).find? fun e : Nat => s.core.engineState e = 0) = some e)) ∧
    (∃ (s : State) (num l k : Nat), s.quiet = true ∧ 1 ≤ num ∧ num ≤ 4 ∧ s.core.flag F.HEALTH_CTRL_PATROL_EN = true ∧
        s.core.patrolEvery ≤ s.core.waited num ∧ s.core.clk.mediaOn = true ∧ s.core.migOf (num - 1) = none ∧ s.core.spareOf (num -
        1) = some k ∧ ((((List.range 16).map fun i : Nat => 16 * (num - 1) + (s.core.nextOf num + i) % 16).filter fun x : Nat =>
        !s.core.health.nondet.contains x && decide (s.core.bcState (s.core.phys x) ≠ 7) && decide (s.core.bcState (s.core.phys x) ≠
        0)).head? = some l) ∧ groupOfCore (s.core.phys l) = num - 1) ∧
    (∃ (s : State) (bank row k : Nat), s.quiet = true ∧ s.core.health.suspects.contains (4 * 2 ^ 32 + bank * 1024 + row) = true ∧
        (s.core.rowsUsed bank).length < 8 ∧ (s.core.rowsUsed bank).any (fun x => decide (x.row = row)) = false ∧ (((List.range
        8).find? fun i : Nat => !(s.core.rowsUsed bank).any fun x => decide (x.spare = i)) = some k)) ∧
    (∃ (s : State) (bank row : Nat) (x : NearSpare), s.quiet = true ∧ s.core.health.nearRows = [x] ∧ x.bank = bank ∧ x.row = row ∧
        x.active = false ∧ x.at_ + 4 * s.core.blk ≤ s.core.time.n) ∧
    (∃ (s : State) (j h v : Nat), s.quiet = true ∧ j ≤ 7 ∧ h ≤ 127 ∧ v ≤ 127 ∧ s.core.laneUp j = true) ∧
    (∃ (s : State) (j h v : Nat), s.quiet = true ∧ j ≤ 7 ∧ s.core.laneUp j = false) ∧
    (∃ (s : State) (code : Nat), s.quiet = true ∧ (code ≤ 10 ∨ (20 ≤ code ∧ code ≤ 28)) ∧ bitOf (s.core.get R.HEALTH_AUTO_RESET)
        code = false) ∧
    (∃ (s : State) (code : Nat), s.quiet = true ∧ (code ≤ 10 ∨ (20 ≤ code ∧ code ≤ 28)) ∧ bitOf (s.core.get R.HEALTH_AUTO_RESET)
        code = true ∧ s.core.power.funcReset = none ∧ s.core.flag F.HOST_STATUS_RESTARTING = false) ∧
    (∃ (s : State), s.quiet = true ∧ s.core.flag F.SYS_STATUS_VIN_WARN = false ∧ s.core.flag F.FLASH_STATUS_WRITES_ALLOWED = true ∧
        s.core.health.held.isEmpty = false ∧ s.core.ledgerNext + s.core.health.held.length < 2 ^ 64 ∧ s.core.health.held.length ≤
        1024) :=
  ⟨⟨runWith fun c => { c with health := { c.health with patrols := [{ lanes := [5], spares := [2], at_ := 480, differ := [5] }] } }, { lanes := [5], spares := [2], at_ := 480, differ := [5] }, 5, 2, by decide +kernel⟩,
   ⟨runWith fun c => { (c.setF F.HEALTH_CTRL_PATROL_EN 1) with health := { c.health with wait := [(0, 5000)], nextUnit := [(0, 3)] } }, 0, 3, by decide +kernel⟩,
   ⟨custWith fun c => { ((c.setF F.HEALTH_CTRL_PATROL_EN 1).setBcState 33 5) with health := { c.health with wait := [(2, 5000)] } }, 2, 20, 33, by decide +kernel⟩,
   ⟨runWith fun c => { c with health := { c.health with suspects := [4 * 2 ^ 32 + 7 * 1024 + 3], nearRows := [{ bank := 7, row := 9, spare := 0, at_ := 0 }] } }, 7, 3, 1, by decide +kernel⟩,
   ⟨runWith fun c => { c with ren := { c.ren with near := [(49159, 5)], nearFault := [(49159, 2)] }, health := { c.health with nearRows := [{ bank := 7, row := 3, spare := 0, at_ := 0 }] } }, 7, 3, { bank := 7, row := 3, spare := 0, at_ := 0 }, by decide +kernel⟩,
   ⟨runWith fun c => c.setF (F.NET_STATUS_LINK_UP 1) 1, 1, 7, 20, by decide +kernel⟩,
   ⟨tRun, 3, 7, 20, by decide +kernel⟩,
   ⟨runWith fun c => c.put R.HEALTH_AUTO_RESET 0, 27, by decide +kernel⟩,
   ⟨runWith fun c => c.put R.HEALTH_AUTO_RESET 0x1FF007FF, 2, by decide +kernel⟩,
   ⟨flashWith [(R.HEALTH_LEDGER_NEXT_LO, 5), (R.HEALTH_LEDGER_NEXT_HI, 0)] fun c => { c.setF F.FLASH_STATUS_WRITES_ALLOWED 1 with health := { c.health with held := [⟨480, 4, 1, 5, 34, 0, false, false⟩, ⟨480, 1, 1, 5, 34, -1, false, false⟩] } }, by decide +kernel⟩⟩

/-- States and operands that meet the hypotheses of HealthOpcodesComplete. -/
theorem witness_HealthOpcodesComplete :
    (∃ (s : State) (p : Packet), let c := s.core.offered opHealthStatus p; let r := reqOf opHealthStatus p; s.core.admits
        opHealthStatus p = true ∧ s.quiet = true) ∧
    (∃ (s : State) (p : Packet), let c := s.core.offered opHealthConfig p; let r := reqOf opHealthConfig p; s.core.admits
        opHealthConfig p = true ∧ s.quiet = true ∧ r.w 0 &&& 0xFFFFFFFC = 0 ∧ r.w 1 &&& 0xE00FF800 = 0 ∧ r.w 2 &&& 0xFF000000 = 0 ∧
        16 ≤ bitsOf (r.w 2) 15 0 ∧ bitsOf (r.w 2) 23 16 ≠ 0) ∧
    (∃ (s : State) (p : Packet) (x : LedgerRec) (i : Nat), let c := s.core.offered opPatinaRead p; let r := reqOf opPatinaRead p;
        s.core.admits opPatinaRead p = true ∧ s.quiet = true ∧ i = r.n 0 + 2 ^ 32 * r.n 1 ∧ r.n 2 = 1 ∧ c.ledgerNext - 65536 ≤ i ∧
        smGet (fun _ => none) c.health.ledger i = some x) ∧
    (∃ (s : State) (p : Packet), let c := s.core.offered opPatinaInfo p; let r := reqOf opPatinaInfo p; s.core.admits opPatinaInfo
        p = true ∧ s.quiet = true) ∧
    (∃ (s : State) (p : Packet), let c := s.core.offered opUnitGet p; let r := reqOf opUnitGet p; s.core.admits opUnitGet p = true
        ∧ s.quiet = true ∧ 1 ≤ r.n 0 ∧ r.n 0 ≤ 8 ∧ r.n 2 = 1 ∧ r.n 1 < unitCountOf (r.n 0)) ∧
    (∃ (s : State) (p : Packet) (m : Nat), let c := s.core.offered opSpareSwap p; let r := reqOf opSpareSwap p; s.core.admits
        opSpareSwap p = true ∧ s.quiet = true ∧ r.n 0 = 1 ∧ r.n 1 < 32 ∧ c.laneRetired (r.n 1) = false ∧ c.stoodIn (r.n 1) = false
        ∧ c.re8Free.head? = some m) ∧
    (∃ (s : State) (p : Packet), let c := s.core.offered opSpareSwap p; let r := reqOf opSpareSwap p; s.core.admits opSpareSwap p =
        true ∧ s.quiet = true ∧ r.n 0 = 1 ∧ r.n 1 < 32 ∧ c.laneRetired (r.n 1) = false ∧ c.stoodIn (r.n 1) = false ∧ c.re8Free =
        []) :=
  ⟨⟨runWith fun c => (c.put R.HEALTH_SWAPS 0x80000003).put R.HEALTH_PATROLS 9, pk [], by decide +kernel⟩,
   ⟨tRun, pk [2, 0x1FF007FF, 0x10010, 0x08080408], by decide +kernel⟩,
   ⟨flashWith [(R.HEALTH_LEDGER_NEXT_LO, 6), (R.HEALTH_LEDGER_NEXT_HI, 0)] fun c => { c with health := { c.health with ledger := [(5, some ⟨480, 4, 1, 5, 34, 0, false, false⟩)] } }, pk [5, 0, 1], ⟨480, 4, 1, 5, 34, 0, false, false⟩, 5, by decide +kernel⟩,
   ⟨flashWith [(R.HEALTH_LEDGER_NEXT_LO, 70000), (R.HEALTH_LEDGER_NEXT_HI, 0)] id, pk [], by decide +kernel⟩,
   ⟨runWith fun c => c.putUnit 1 31 ⟨4, 2, 0, 1, 4800⟩, pk [1, 31, 1], by decide +kernel⟩,
   ⟨tExpert, pkX [1, 7], 0, by decide +kernel⟩,
   ⟨runWith fun c => (c.setExpert 1 true).put R.RENDER_LANE_RETIRED8 15, pkX [1, 7], by decide +kernel⟩⟩

/-- States and operands that meet the hypotheses of SmudgeCompletes. -/
theorem witness_SmudgeCompletes :
    (∃ (s : State) (p : Packet), let c := s.core.offered opSmudgeChallenge p; let r := reqOf opSmudgeChallenge p; s.core.admits
        opSmudgeChallenge p = true ∧ s.quiet = true) ∧
    (∃ (s : State) (x : Nat × Word × Nat), s.quiet = true ∧ s.core.health.chal = some x ∧ x.2.2 + 2500000000 ≤ s.core.time.cycles)
        ∧
    (∃ (s : State) (x : Nat × Word × Nat), s.quiet = true ∧ s.core.health.chal = some x ∧ s.core.time.cycles < x.2.2 + 2500000000)
        ∧
    (∃ (s : State) (p : Packet) (v : Word) (a : Nat), let c := s.core.offered opSmudgeUnlock p; let r := reqOf opSmudgeUnlock p;
        s.core.admits opSmudgeUnlock p = true ∧ s.quiet = true ∧ r.n 1 ≤ 3600 ∧ (c.twinState = 0 ∨ c.twinState = 3 ∨ c.twinState =
        6) ∧ c.health.chal = some (p.session.toNat, v, a) ∧ r.w 0 = v ^^^ 0x534D5544 ∧ c.time.cycles < a + 2500000000) ∧
    (∃ (s : State) (p : Packet) (v : Word) (q a : Nat), let c := s.core.offered opSmudgeUnlock p; let r := reqOf opSmudgeUnlock p;
        s.core.admits opSmudgeUnlock p = true ∧ s.quiet = true ∧ r.n 1 ≤ 3600 ∧ c.health.chal = some (q, v, a) ∧ (q ≠
        p.session.toNat ∨ r.w 0 ≠ v ^^^ 0x534D5544 ∨ a + 2500000000 ≤ c.time.cycles) ∧ [1, 2, 4, 5].contains c.twinState = false) ∧
    (∃ (s : State) (p : Packet), let c := s.core.offered opSmudgeUnlock p; let r := reqOf opSmudgeUnlock p; s.core.admits
        opSmudgeUnlock p = true ∧ s.quiet = true ∧ r.n 1 ≤ 3600 ∧ [1, 2, 4, 5].contains c.twinState = true) ∧
    (∃ (s : State) (p : Packet), let c := s.core.offered opSmudgeSet p; let r := reqOf opSmudgeSet p; s.core.admits opSmudgeSet p =
        true ∧ s.quiet = true ∧ r.n 0 ≤ 6 ∧ r.n 1 ≤ 1 ∧ r.bytes.length = 8 + 4 * (smudgeRegs (r.n 0)).length ∧ (((smudgeRegs (r.n
        0)).zipIdx.map fun x => (x.1, r.w (2 + x.2))).all (fun x => decide (x.2 &&& smudgeReserved x.1 = 0) && !smudgeRange x.1
        x.2) = true) ∧ c.health.maint.isSome = true ∧ (c.twinState = 0 ∨ c.twinState = 3 ∨ c.twinState = 6)) ∧
    (∃ (s : State) (p : Packet), let c := s.core.offered opSmudgeSet p; let r := reqOf opSmudgeSet p; s.core.admits opSmudgeSet p =
        true ∧ s.quiet = true ∧ r.n 0 ≤ 6 ∧ r.n 1 ≤ 1 ∧ r.bytes.length = 8 + 4 * (smudgeRegs (r.n 0)).length ∧ (((smudgeRegs (r.n
        0)).zipIdx.map fun x => (x.1, r.w (2 + x.2))).all (fun x => decide (x.2 &&& smudgeReserved x.1 = 0) && !smudgeRange x.1
        x.2) = true) ∧ c.health.maint = none) ∧
    (∃ (s : State) (p : Packet), let c := s.core.offered opSmudgeLock p; let r := reqOf opSmudgeLock p; s.core.admits opSmudgeLock
        p = true ∧ s.quiet = true ∧ c.health.maint.isSome = true) ∧
    (∃ (s : State) (x : Nat × Nat), s.quiet = true ∧ s.core.health.maint = some x ∧ x.2 ≤ s.core.time.cycles) ∧
    (∃ (s : State) (m : Nat) (v : Word), let c := s.core.written ⟨m, R.SMUDGE_ARM, v⟩ 0; s.core.serves m R.SMUDGE_ARM = true ∧
        s.quiet = true ∧ s.core.health.maint.isSome = true ∧ (c.twinState = 0 ∨ c.twinState = 3 ∨ c.twinState = 6)) ∧
    (∃ (s : State) (m : Nat) (v : Word), s.quiet = true ∧ s.core.reaches m R.SMUDGE_ARM = true ∧ s.core.health.maint = none) ∧
    (∃ (s : State) (m : Nat) (v : Word), let c := s.core.written ⟨m, R.SMUDGE_CLOCK, v⟩ 0x80000000; s.core.serves m R.SMUDGE_CLOCK
        = true ∧ s.quiet = true ∧ s.core.health.maint.isSome = true ∧ bitOf v 31 = true ∧ bitsOf v 3 0 = 0 ∧ bitOf (s.core.get
        R.SMUDGE_STATUS) 6 = true) ∧
    (∃ (s : State) (m : Nat) (v : Word), let c := s.core.written ⟨m, R.SMUDGE_CLOCK, v⟩ 0x80000000; s.core.serves m R.SMUDGE_CLOCK
        = true ∧ s.quiet = true ∧ s.core.health.maint.isSome = true ∧ bitOf (s.core.get R.SMUDGE_STATUS) 6 = false) :=
  ⟨⟨tExpert, pkX [], by decide +kernel⟩,
   ⟨runWith fun c => { c with time := { c.time with cycles := 2500000005 }, health := { c.health with chal := some (1, 7, 5) } }, (1, 7, 5), by decide +kernel⟩,
   ⟨runWith fun c => { c with time := { c.time with cycles := 2500000004 }, health := { c.health with chal := some (1, 7, 5) } }, (1, 7, 5), by decide +kernel⟩,
   ⟨runWith fun c => { c.setExpert 1 true with health := { c.health with chal := some (1, 7, 0) } }, pkX [0x534D5543, 3600], 7, 0, by decide +kernel⟩,
   ⟨runWith fun c => { c.setExpert 1 true with health := { c.health with chal := some (1, 7, 0) } }, pkX [0x534D5544, 3600], 7, 1, 0, by decide +kernel⟩,
   ⟨runWith fun c => { (c.setExpert 1 true).setF F.TWIN_STATUS_STATE 2 with health := { c.health with chal := some (1, 7, 0) } }, pkX [0x534D5543, 3600], by decide +kernel⟩,
   ⟨runWith fun c => { c.setExpert 1 true with health := { c.health with maint := some (1, 9999) } }, pkX [4, 1, 1, 65536], by decide +kernel⟩,
   ⟨tExpert, pkX [4, 1, 1, 65536], by decide +kernel⟩,
   ⟨runWith fun c => { c.setExpert 1 true with health := { c.health with maint := some (1, 9999) } }, pkX [], by decide +kernel⟩,
   ⟨runWith fun c => { c.put R.SMUDGE_STATUS 0x13 with time := { c.time with cycles := 9999 }, health := { c.health with maint := some (1, 9999) } }, (1, 9999), by decide +kernel⟩,
   ⟨runWith fun c => { c.setF F.HOST_EXPERT_CTRL_BAR0_WRITE_EN 1 with health := { c.health with maint := some (1, 9999) } }, 8, 0x14, by decide +kernel⟩,
   ⟨tRun, 8, 0x14, by decide +kernel⟩,
   ⟨runWith fun c => { (c.setF F.HOST_EXPERT_CTRL_BAR0_WRITE_EN 1).put R.SMUDGE_STATUS 0x41 with health := { c.health with maint := some (1, 9999) } }, 8, 0x80000000, by decide +kernel⟩,
   ⟨runWith fun c => { c.setF F.HOST_EXPERT_CTRL_BAR0_WRITE_EN 1 with health := { c.health with maint := some (1, 9999) } }, 8, 0x80000003, by decide +kernel⟩⟩

/-- States and operands that meet the hypotheses of ClkSwitchAcceptsOnlyCtrl. -/
theorem witness_ClkSwitchAcceptsOnlyCtrl :
    (∃ (s : State) (m : Nat) (v : Word), let c := s.core.written ⟨m, R.CLK_SWITCH, v⟩ 0x80000000; s.core.serves m R.CLK_SWITCH =
        true ∧ s.quiet = true ∧ bitOf v 31 = true ∧ c.f F.CLK_SWITCH_DOMAIN = 2 ∧ c.f F.CLK_SWITCH_SRC ≤ 1) ∧
    (∃ (s : State) (m off : Nat) (v : Word), let c := s.core.written ⟨m, R.CLK_SWITCH, v⟩ 0x80000000; s.core.serves m R.CLK_SWITCH
        = true ∧ s.quiet = true ∧ bitOf v 31 = true ∧ (c.f F.CLK_SWITCH_DOMAIN ≠ 2 ∨ 2 ≤ c.f F.CLK_SWITCH_SRC) ∧ off ≠
        R.CLK_SWITCH) :=
  ⟨⟨tRun, 8, 0x80000012, by decide +kernel⟩,
   ⟨tRun, 8, R.CLK_EN, 0x80000022, by decide +kernel⟩⟩

/-- States and operands that meet the hypotheses of SvnRaiseNeverLowers. -/
theorem witness_SvnRaiseNeverLowers :
    (∃ (s : State) (p : Packet), let c := s.core.offered opUpdateSvnRaise p; let r := reqOf opUpdateSvnRaise p; s.core.admits
        opUpdateSvnRaise p = true ∧ s.quiet = true ∧ c.f F.UPDATE_SVN_MIN ≤ c.f F.UPDATE_SVN_ACTIVE ∧ r.n 0 ≤ c.f
        F.UPDATE_SVN_ACTIVE ∧ c.f F.UPDATE_SVN_MIN ≤ r.n 0) ∧
    (∃ (s : State) (p : Packet), let c := s.core.offered opUpdateSvnRaise p; let r := reqOf opUpdateSvnRaise p; s.core.admits
        opUpdateSvnRaise p = true ∧ s.quiet = true ∧ c.f F.UPDATE_SVN_MIN ≤ c.f F.UPDATE_SVN_ACTIVE ∧ c.f F.UPDATE_SVN_ACTIVE < r.n
        0) ∧
    (∃ (s : State) (p : Packet), let c := s.core.offered opUpdateSvnRaise p; let r := reqOf opUpdateSvnRaise p; s.core.admits
        opUpdateSvnRaise p = true ∧ s.quiet = true ∧ c.f F.UPDATE_SVN_MIN ≤ c.f F.UPDATE_SVN_ACTIVE ∧ r.n 0 < c.f F.UPDATE_SVN_MIN)
        ∧
    (∃ (s : State) (p : Packet), let c := s.core.offered opUpdateSvnRaise p; let r := reqOf opUpdateSvnRaise p; s.core.admits
        opUpdateSvnRaise p = true ∧ s.quiet = true) :=
  ⟨⟨updWith id, pk [2], by decide +kernel⟩,
   ⟨updWith id, pk [3], by decide +kernel⟩,
   ⟨updWith id, pk [1], by decide +kernel⟩,
   ⟨updWith id, pk [0], by decide +kernel⟩⟩

/-- States and operands that meet the hypotheses of BlockBoundaryAdvancesMediaTime. -/
theorem witness_BlockBoundaryAdvancesMediaTime :
    ∃ (s : State) (env : BlockEnv), s.core.clk.mediaOn = true ∧ (s.core.clk.fault = none ∧ (s.core.clk.sw.all fun x => !x.done) =
        true) ∧ s.quiet = true :=
  ⟨tRun, { cycles := 1000, pdm := [], near := [], dm := [], table := [], lanes := [], fails := [], groups := [], fec := [] }, by decide +kernel⟩

/-- A quiet state, on which every row of the frames answers a next state (EaselReadsLeaveModuleAlone, EaselSettingsReachOwnPartsOnly,
BrushInstructionsStayInCore, SystemEventsReachOwnPartsOnly, MediaEventsReachOwnPartsOnly). -/
theorem witness_frames : tRun.quiet = true ∧ ∀ i : Instr, ∃ t, exec i tRun = .next t := by
  refine ⟨by decide +kernel, fun i => ?_⟩
  cases i <;> exact ⟨_, rfl⟩

/-- A byte apart from the ring and from what is stored, in each clause (CommandsKeepOtherBytes). -/
theorem witness_CommandsKeepOtherBytes :
    (∃ t, exec .vinRise tRun = .next t ∧ writesMemory .vinRise = false ∧ mayLoseSram .vinRise = false ∧
      apart 0x8000000 t.core.traceBase t.core.traceSize) ∧
    (∃ t, exec .corePllLoss tRun = .next t ∧ mayLoseSram .corePllLoss = true ∧ apart 0x8000000 t.core.traceBase t.core.traceSize) ∧
    (∃ t, exec .moduleReset tRun = .next t ∧ mayLoseSram .moduleReset = true ∧ sramLost tRun.core t.core = false ∧
      apart 0x8000000 t.core.traceBase t.core.traceSize) ∧
    (∃ t, exec (.dramWrite 8 15 8 [1] 0 0 0 false) tRun = .next t ∧ apart 0x8000000 t.core.traceBase t.core.traceSize ∧ apart 0x8000000 8 1) ∧
    (∃ t, exec (.bar2Access 8 true [1] 0) tRun = .next t ∧ apart 0x8000000 t.core.traceBase t.core.traceSize ∧
      apart 0x8000000 (tRun.core.f F.HOST_BAR2_BASE_BASE * 2 ^ 28 + 8) 1) ∧
    (∃ q t, tHeld.core.atl.held.find? (fun x => decide (x.port = 8)) = some q ∧ exec (.fabricHeldIssue 8) tHeld = .next t ∧
      apart 0x8000000 t.core.traceBase t.core.traceSize ∧ apart 0x8000000 q.addr ((q.data.map List.length).getD 0)) ∧
    (∃ x t, smGet (fun _ => none) tXfer.core.brush.xfers 20 = some x ∧ exec (.xferComplete 5 0) tXfer = .next t ∧
      apart 0x8000000 t.core.traceBase t.core.traceSize ∧ apart 0x8000000 x.addr (4 * x.count)) := by
  exact ⟨⟨_, rfl, rfl, rfl, by decide +kernel⟩, ⟨_, rfl, rfl, by decide +kernel⟩, ⟨_, rfl, rfl, by decide +kernel, by decide +kernel⟩,
    ⟨_, rfl, by decide +kernel, by decide⟩, ⟨_, rfl, by decide +kernel, by decide +kernel⟩,
    ⟨_, _, rfl, rfl, by decide +kernel, by decide⟩, ⟨_, _, rfl, rfl, by decide +kernel, by decide⟩⟩

end Sys2Proof.Tests
end

section
/-! What a served write leaves in the registers and in the parts beside them, and O52: which requests CLK_SWITCH accepts (R87). -/

namespace Sys2Proof.Machine
open Sys2Proof

/-! ### Served writes -/

/-- A value taken by one register leaves the others, whether or not a source becomes active (R171). -/
theorem Core.get_putIrq_ne (c : Core) {r off : Nat} (w : Word) (h : off ≠ r) : (c.putIrq r w).get off = c.get off := by
  unfold Core.putIrq
  dsimp only
  split
  · exact (get_of_regs (Core.fireSource_regs _ _) off).trans (c.get_put_ne w h)
  · exact c.get_put_ne w h

/-- A register that is neither the status nor the enable register of its window's interrupts sends no message when it takes a
value. -/
theorem Core.putIrq_plain (c : Core) {r : Nat} (w : Word) (h : ¬(r = intStatusOf r ∨ r = intStatusOf r + 4)) :
    c.putIrq r w = c.put r w := by
  unfold Core.putIrq
  exact if_neg fun hi => h hi.1

/-- A served write changes no register but its own. -/
theorem Core.get_written_ne (c : Core) {a : Access} {off : Nat} (hold : Nat) (h : off ≠ a.off) :
    (c.written a hold).get off = c.get off := by
  unfold Core.written
  split
  · exact c.get_putIrq_ne _ h
  · rfl

/-- A served write of a register that raises no interrupt changes no part beside the registers, messages included. -/
theorem Core.beside_written (c : Core) {a : Access} (hold : Nat) (h : ¬(a.off = intStatusOf a.off ∨ a.off = intStatusOf a.off + 4))
    (ps : List Part) : (c.written a hold).beside ps = c.beside ps := by
  unfold Core.written
  split
  · exact (congrArg (Core.beside · ps) (c.putIrq_plain _ h)).trans (c.beside_put _ _ ps)
  · rfl

/-- A served write keeps the clocks. -/
@[simp] theorem Core.written_clk (c : Core) (a : Access) (hold : Nat) : (c.written a hold).clk = c.clk :=
  (congrArg Core.clk (c.written_rest a hold) :)

/-- A served write keeps the trace and the rest of Atelier. -/
@[simp] theorem Core.written_atl (c : Core) (a : Access) (hold : Nat) : (c.written a hold).atl = c.atl :=
  (congrArg Core.atl (c.written_rest a hold) :)

/-- Between commands a served write leaves no trace record that waits. -/
theorem State.written_trace {s : State} (h : s.quiet = true) (a : Access) (hold : Nat) :
    (s.core.written a hold).atl.trace = [] := by
  rw [Core.written_atl]
  exact List.isEmpty_iff.mp h

/-! ### CLK_SWITCH (R87) -/

section ClkSwitch
variable {c : Core} {m : Nat} {v : Word} (hs : c.serves m R.CLK_SWITCH = true) (hgo : bitOf v 31 = true)
include hs hgo

/-- CTRL with SRC 0 or 1 is switched. -/
theorem clkSwitchGo_accepts {d : Core} (hd : c.written ⟨m, R.CLK_SWITCH, v⟩ 0x80000000 = d)
    (h : d.f F.CLK_SWITCH_DOMAIN = 2 ∧ d.f F.CLK_SWITCH_SRC ≤ 1) :
    clkSwitchGo m v c = { d with clk := { d.clk with ctrlSrc := d.f F.CLK_SWITCH_SRC } } := by
  obtain ⟨hdom, hsrc⟩ := h
  unfold clkSwitchGo
  rw [busWrite_served hs, hd]
  simp [hgo, hdom, Nat.not_lt.mpr hsrc]

/-- Every other request only sets REFUSED. -/
theorem clkSwitchGo_refuses {d : Core} (hd : c.written ⟨m, R.CLK_SWITCH, v⟩ 0x80000000 = d)
    (h : d.f F.CLK_SWITCH_DOMAIN ≠ 2 ∨ 2 ≤ d.f F.CLK_SWITCH_SRC) :
    clkSwitchGo m v c = d.setF F.CLK_SWITCH_REFUSED 1 := by
  unfold clkSwitchGo
  rw [busWrite_served hs, hd]
  simp only [hgo, Bool.not_true, Bool.false_eq_true, if_false]
  exact if_pos h

end ClkSwitch

/-- CLK_SWITCH is no interrupt register of its window (R171). -/
theorem clkSwitch_not_interrupt :
    ¬(R.CLK_SWITCH = intStatusOf R.CLK_SWITCH ∨ R.CLK_SWITCH = intStatusOf R.CLK_SWITCH + 4) := by decide

/-- REFUSED reads 1 once it is set. -/
theorem flag_setF_refused (c : Core) : (c.setF F.CLK_SWITCH_REFUSED 1).flag F.CLK_SWITCH_REFUSED = true := by
  have h : (c.setF F.CLK_SWITCH_REFUSED 1).f F.CLK_SWITCH_REFUSED = 1 := c.f_setF_same _ 1 (by decide) (by decide)
  simp [Core.flag, h]

/-- Settles O52: a served write of CLK_SWITCH reduces to its two outcomes, and neither REFUSED nor the write itself reaches
anything beside the register. -/
theorem clkSwitchAcceptsOnlyCtrl : Obligations.ClkSwitchAcceptsOnlyCtrl := by
  unfold Obligations.ClkSwitchAcceptsOnlyCtrl
  refine ⟨fun s m v => ?accepted, fun s m off v => ?refused⟩
  case accepted =>
    intro c hs hq hgo hreq
    have e := clkSwitchGo_accepts hs hgo (d := c) rfl hreq
    have hclk : c.clk = s.core.clk := s.core.written_clk _ _
    refine completes_of_runCore rfl ?_ ?_
    · rw [e]
      exact State.written_trace hq _ _
    · rw [State.core_of_core, e]
      exact ⟨by rw [hclk], rfl⟩
  case refused =>
    intro c hs hq hgo hreq hoff
    have e := clkSwitchGo_refuses hs hgo (d := c) rfl hreq
    refine completes_of_runCore rfl ?_ ?_
    · rw [e, Core.setF_atl]
      exact State.written_trace hq _ _
    · rw [State.core_of_core, State.mem_of_core, e, Core.beside_setF]
      exact ⟨flag_setF_refused c,
        c.f_setF_apart 1 (by decide) (by decide) (by decide) (by decide),
        c.f_setF_apart 1 (by decide) (by decide) (by decide) (by decide),
        (c.get_setF_ne 1 hoff).trans (s.core.get_written_ne _ hoff),
        rfl,
        s.core.beside_written _ clkSwitch_not_interrupt []⟩

end Sys2Proof.Machine
end

section
/-! The statements of the Brush cores (chapter 15), both of which range over every state and each fail on one: O37 where a core's
task names a slot that the module does not have, and O38 where the Plinth controller takes a group's supply away while a customer
holds a core of it. -/

namespace Sys2Proof.Machine
open Sys2Proof

/-- A command that touches registers and messages answers one state: what is claimed of its completion holds of that state. -/
theorem Completes.of_runCore {i : Instr} {s : State} {f : Core → Core} {P : State → Prop} (h : Completes i s P)
    (e : exec i s = runCore f s) :
    P { s with core := (flushTrace s.mem (f s.core)).1, mem := (flushTrace s.mem (f s.core)).2 } := by
  obtain ⟨t, ht, hp⟩ := h
  rw [e] at ht
  cases ht
  exact hp

/-! ### A stop that frees a slot beyond the 512 (R414, R426) -/

/-- The number of a task slot whose ATELIER_SLOT register would stand where BRUSH_CORE_STATE of core 21 does: far beyond slot 511,
the last one of the module. -/
def straySlot : Nat := (R.BRUSH_CORE_STATE 21 - R.ATELIER_SLOT 0) / 4

/-- Core 21 has its clock and runs a task, outside a REP, that is said to occupy that slot. -/
def strayTask : State :=
  { core := ((({} : Core).setBrushEn 21 true).setBcState 21 3).setBc 21 { task := some straySlot } }

/-- What STOP, written by control processor 3, leaves: the core stops, its task is taken off it and the slot is freed, and the
word that then shows the free slot reads as state OFF of the core. -/
theorem strayTask_stop_off :
    (flushTrace strayTask.mem (brushCoreStop 3 21 0 strayTask.core)).1.bcState 21 = 0 := by decide +kernel

/-- Refutes O37: its clause on STOP puts no bound on the slot of the core's task. The core of `strayTask` ends in state 0 and not
in STOPPED, because the word of the freed slot overwrites its state. Atelier itself dispatches tasks of slots 0 to 511 only, so it
is the missing bound that fails and not the stop of a core in a state that commands reach. -/
theorem not_brushCoreAccessesComplete : ¬ Obligations.BrushCoreAccessesComplete := by
  unfold Obligations.BrushCoreAccessesComplete
  rintro ⟨_, stop, _⟩
  have hserves : strayTask.core.serves 3 (R.BRUSH_CORE_CTRL 21) = true := by decide +kernel
  have hrun : strayTask.core.bcState 21 = 3 := by decide +kernel
  have hrep : (strayTask.core.bc 21).rep = 0 := by decide +kernel
  have hcompletes := stop strayTask 3 21 0 hserves rfl (by decide) (by decide) (.inr (.inl hrun)) hrep
  obtain ⟨hstopped, _⟩ := hcompletes.of_runCore rfl
  exact absurd (strayTask_stop_off.symm.trans hstopped) (by decide)

/-! ### An allocation at which another group loses its supply (R130, R132, R419) -/

/-- A module in RUN with one PCIe session, in expert mode. Customer brushwork holds logical core 20, whose clock enable, like all
of its group, is 0; PD7 is ON, and 4,000 µs are tolerated for it, as long as it takes to come back from OFF. -/
def idleGroup : State :=
  let c : Core :=
    { power := { step := 14 }
      host := { sessions := [{ num := 1, transport := .pcie, expected := 5, base := 1 }], lastNum := 1 }
      brush := { custom := [20] } }
  let c := ((c.setF F.SYS_STATUS_STATE 1).setF F.HOST_STATUS_EASEL_READY 1).setExpert 1 true
  { core := (c.setF F.HEALTH_CAPACITY_BRUSH 64).put (R.SYS_WAKE_TOL 5) 4000 }

/-- BRUSH_ALLOC of one core of group 0, from session 1 with FLAGS.EXPERT. -/
def allocOne : Packet :=
  { transport := .pcie, magic := 0x455A, version := 1, flags := 1, length := 8, seq := 5, session := 1, reserved := 0,
    payload := natBytes [1, 1] }

/-- The command passes every check before those of its opcode. -/
theorem idleGroup_admits_allocOne : idleGroup.core.admits opBrushAlloc allocOne = true := by decide +kernel

/-- Logical core 0 is the lowest free one. -/
theorem idleGroup_lowest_free :
    [0] = (((idleGroup.core.offered opBrushAlloc allocOne).freeCores.filter fun x =>
      bitOf (.ofNat 32 (if (reqOf opBrushAlloc allocOne).n 1 = 0 then 15 else (reqOf opBrushAlloc allocOne).n 1)) (x / 16)).take
        ((reqOf opBrushAlloc allocOne).n 0)) := by decide +kernel

/-- The Plinth controller, which runs when the clock of core 0 is enabled, finds PD7 idle and switches it OFF: core 20 is lost. -/
theorem idleGroup_alloc_custom :
    (easel opBrushAlloc brushAllocBody allocOne idleGroup.core).brush.custom = [0] := by decide +kernel

/-- Refutes O38: its clause on BRUSH_ALLOC has customer brushwork keep every core that it held. In `idleGroup` the same command
lets PD7 go OFF, which takes core 20 from it. The model's commands lead to such a state: in quiet standby a control processor
clears the clock enable and the tolerance is raised, and quiet standby ends with PD7 ON (R135). -/
theorem not_brushOpcodesComplete : ¬ Obligations.BrushOpcodesComplete := by
  unfold Obligations.BrushOpcodesComplete
  rintro ⟨_, alloc, _⟩
  have hcapacity : (idleGroup.core.offered opBrushAlloc allocOne).brush.fw.length +
      (idleGroup.core.offered opBrushAlloc allocOne).brush.custom.length + (reqOf opBrushAlloc allocOne).n 0 ≤
        (idleGroup.core.offered opBrushAlloc allocOne).f F.HEALTH_CAPACITY_BRUSH := by decide +kernel
  have hcompletes := alloc idleGroup allocOne [0] idleGroup_admits_allocOne rfl (by decide) (by decide) idleGroup_lowest_free rfl
    hcapacity
  obtain ⟨_, hcustom⟩ := hcompletes.of_runCore rfl
  dsimp only at hcustom
  rw [flushTrace_brush, idleGroup_alloc_custom, Core.offered_brush] at hcustom
  exact absurd hcustom (by decide +kernel)

end Sys2Proof.Machine
end

section
/-! The fabric's DRAM accesses (R446 to R448): what a read or a write of words without an uncorrectable error does to the memories,
which requests issue and which are held, and O40. -/

namespace Sys2Proof.Machine
open Sys2Proof

/-! ### Accesses and the faults of DRAM words (R454, R455) -/

theorem Core.rowAccess_ecc (c : Core) (p : DramPlace) : (c.rowAccess p).memc.ecc = c.memc.ecc := by
  unfold Core.rowAccess
  dsimp only
  split <;> simp

theorem drainTo_ecc (ch keep n : Nat) (c : Core) : (Core.drainTo ch keep n c).memc.ecc = c.memc.ecc := by
  induction n generalizing c with
  | zero => rfl
  | succ n ih =>
    unfold Core.drainTo
    split
    · rfl
    · split
      · rfl
      · exact (ih _).trans (Core.rowAccess_ecc _ _)

theorem wordRead_ecc (m : Nat) (c : Core) (w : Nat) : (Core.wordRead m c w).memc.ecc = c.memc.ecc := by
  unfold Core.wordRead
  split
  · rfl
  · simp [Core.seenAt]
  · dsimp only
    split <;> simp [Core.seenAt]

/-- A read leaves the faults of words as they are: what it corrects stays wrong in DRAM (R455). -/
theorem memcRead_ecc (m a n : Nat) (c : Core) : (Core.memcRead m a n c).memc.ecc = c.memc.ecc := by
  unfold Core.memcRead
  rw [foldl_keeps (fun c : Core => c.memc.ecc) _ fun a b => wordRead_ecc m a b]
  refine foldl_keeps (fun c : Core => c.memc.ecc) _ (fun a b => ?_) _ _
  dsimp only
  rw [Core.rowAccess_ecc]
  split
  · exact (drainTo_ecc _ _ _ _).trans (by simp)
  · rfl

theorem Core.crcTouch_memc (c : Core) (a n : Nat) : (c.crcTouch a n).memc = c.memc := by
  unfold Core.crcTouch
  refine foldl_keeps Core.memc _ (fun a b => ?_) _ _
  dsimp only
  repeat' split
  all_goals rfl

/-- No 8-byte word that a range of DRAM touches is uncorrectable. -/
def Core.sound (c : Core) (a n : Nat) : Prop := ∀ w ∈ unitsOf 8 a n, c.eccOf w ≠ 2

theorem Core.sound_iff (c : Core) (a n : Nat) :
    (unitsOf 8 a n).all (fun w => decide (c.eccOf w ≠ 2)) = true ↔ c.sound a n := by
  simp [Core.sound]

theorem sound_of_ecc {c d : Core} {a n : Nat} (h : c.memc.ecc = d.memc.ecc) : c.sound a n ↔ d.sound a n := by
  simp [Core.sound, Core.eccOf, h]

/-- A byte of a range lies in one of the units that the range touches. -/
theorem div_mem_unitsOf {s a n i : Nat} (h : i < n) : (a + i) / s ∈ unitsOf s a n := by
  unfold unitsOf
  rw [if_neg (by omega)]
  have hlow : a / s ≤ (a + i) / s := Nat.div_le_div_right (by omega)
  have hhigh : (a + i) / s ≤ (a + n - 1) / s := Nat.div_le_div_right (by omega)
  exact List.mem_map.mpr ⟨(a + i) / s - a / s, List.mem_range.mpr (by omega), by omega⟩

/-! ### Bytes read and written -/

theorem Core.readBytes_sound {c : Core} {a n : Nat} (h : c.sound a n) (hend : a + n ≤ dramEnd) (mem : Mem) :
    c.readBytes mem a n = (List.range n).map fun i => mem.dramByte (a + i) := by
  refine List.map_congr_left fun i hi => ?_
  have hn : i < n := List.mem_range.mp hi
  rw [if_pos (by omega), Core.dramRead, if_neg (h _ (div_mem_unitsOf hn))]

theorem dramByte_writeDram_ne {a b : Nat} {bs : List Byte} (h : b < a ∨ a + bs.length ≤ b) (mem : Mem) :
    (mem.writeDram a bs).dramByte b = mem.dramByte b := by
  induction bs generalizing a mem with
  | nil => rfl
  | cons x t ih =>
    rw [List.length_cons] at h
    exact (ih (by omega) _).trans (smGet_smSet_ne _ _ _ (by omega))

theorem dramByte_writeDram {bs : List Byte} {i : Nat} (h : i < bs.length) (mem : Mem) (a : Nat) :
    (mem.writeDram a bs).dramByte (a + i) = bs.getD i 0 := by
  induction bs generalizing a i mem with
  | nil => simp at h
  | cons x t ih =>
    rw [Mem.writeDram]
    cases i with
    | zero => exact (dramByte_writeDram_ne (.inl (Nat.lt_succ_self a)) _).trans (smGet_smSet_same _ _ _ _)
    | succ i =>
      rw [← Nat.add_assoc, Nat.add_right_comm]
      exact ih (Nat.lt_of_succ_lt_succ h) _ _

theorem writeDram_sram (mem : Mem) (a : Nat) (bs : List Byte) : (mem.writeDram a bs).sram = mem.sram := by
  induction bs generalizing a mem with
  | nil => rfl
  | cons x t ih => exact ih _ _

/-- Where no word is uncorrectable, a write to DRAM stores its bytes and clears no word (R454). -/
theorem memWrite_sound {c : Core} {a : Nat} {bs : List Byte} (h : c.sound a bs.length) (ha : a < dramEnd) (m : Nat) (mem : Mem) :
    (memWrite m a bs mem c).2 = mem.writeDram a bs := by
  have hbad : ∀ l : List Nat, (∀ w ∈ l, w ∈ unitsOf 8 a bs.length) →
      (l.filter fun w => decide ((c.crcTouch a bs.length).eccOf w = 2)) = [] := by
    intro l hl
    refine List.filter_eq_nil_iff.mpr fun w hw => ?_
    have hgood := h w (hl w hw)
    simpa [Core.eccOf, Core.crcTouch_memc] using hgood
  unfold memWrite
  dsimp only
  rw [if_pos ha, hbad _ fun w hw => (List.mem_filter.mp hw).1]
  rfl

/-! ### Requests on the fabric (R446, R447) -/

/-- A perturbed response (R531) changes neither what is held nor anything of the memory controller. -/
theorem Core.fabricSmudge_keeps (c : Core) (target port : Nat) :
    (c.fabricSmudge target port).atl = c.atl ∧ (c.fabricSmudge target port).memc = c.memc := by
  unfold Core.fabricSmudge
  dsimp only
  repeat' split
  all_goals simp [Core.smudgeHit, Core.draw]

@[simp] theorem Core.showOut_atl (c : Core) (m t outPort outTarget outAll : Nat) :
    (c.showOut m t outPort outTarget outAll).atl = c.atl := by simp [Core.showOut, Core.outPeak]

@[simp] theorem Core.showOut_memc (c : Core) (m t outPort outTarget outAll : Nat) :
    (c.showOut m t outPort outTarget outAll).memc = c.memc := by simp [Core.showOut, Core.outPeak]

/-- A burst of R446 that a master has a path to ends within DRAM. -/
theorem burst_within_dram {m a len : Nat} (hpath : dramPath m a = true) (hburst : burstOk a len = true) :
    a < dramEnd ∧ a + len ≤ dramEnd := by
  simp only [dramPath, Bool.and_eq_true, decide_eq_true_eq] at hpath
  simp only [burstOk, Bool.or_eq_true, Bool.and_eq_true, decide_eq_true_eq] at hburst
  obtain ⟨ha, _⟩ := hpath
  unfold dramEnd at *
  omega

section Issue
variable {q : HeldReq} {c : Core} (mem : Mem)

theorem issueReq_atl : (issueReq q mem c).1.atl = c.atl := by
  unfold issueReq
  dsimp only
  split
  · exact (memcRead_atl _ _ _ _).trans (Core.fabricSmudge_keeps _ _ _).1
  · exact (memWrite_atl _ _ _ _ _).trans (Core.fabricSmudge_keeps _ _ _).1

/-- A read that issues answers the bytes of sound words and leaves the memories alone. -/
theorem issueReq_read (hread : q.data = none) (h : c.sound q.addr q.len) (hend : q.addr + q.len ≤ dramEnd) :
    (issueReq q mem c).1.outbox.getLast? = some (.data ((List.range q.len).map fun i => mem.dramByte (q.addr + i))) ∧
      (issueReq q mem c).2 = mem := by
  unfold issueReq
  simp only [hread]
  refine ⟨?_, trivial⟩
  rw [Core.readBytes_sound ((sound_of_ecc ?_).mpr h) hend]
  · exact List.getLast?_concat
  · rw [memcRead_ecc, (c.fabricSmudge_keeps _ _).2]

/-- A write that issues over sound words stores its bytes and changes nothing else of the memories. -/
theorem issueReq_write {bs : List Byte} (hwrite : q.data = some bs) (h : c.sound q.addr bs.length) (haddr : q.addr < dramEnd) :
    (issueReq q mem c).2 = mem.writeDram q.addr bs := by
  unfold issueReq
  simp only [hwrite]
  exact memWrite_sound ((sound_of_ecc (congrArg MemcPart.ecc (c.fabricSmudge_keeps _ _).2)).mpr h) haddr _ _

end Issue

/-- A request joins those that are held. -/
def Core.holding (c : Core) (q : HeldReq) : Core := { c with atl := { c.atl with held := c.atl.held ++ [q] } }

/-- A held request leaves the list of those that are held. -/
def Core.unholding (c : Core) (q : HeldReq) : Core := { c with atl := { c.atl with held := c.atl.held.erase q } }

section Request
variable {q : HeldReq} {outPort outTarget outAll : Nat} {other : Bool} {c : Core} (mem : Mem)
  (hpath : dramPath q.port q.addr = true) (hburst : burstOk q.addr q.len = true) (hon : c.memOn = true)
include hpath hburst hon

/-- Within the limits and behind no request of its ID a request issues, from a state that only shows what is outstanding. -/
theorem fabricReq_issues (hlim : overLimit q.port outPort outTarget outAll = false)
    (hfirst : other = false ∧ c.atl.held.any (fun x => x.port = q.port && x.id = q.id) = false) :
    ∃ d, d.atl = c.atl ∧ d.memc = c.memc ∧ fabricReq q outPort outTarget outAll other mem c = issueReq q mem d := by
  obtain ⟨hother, hid⟩ := hfirst
  refine ⟨_, c.showOut_atl q.port (c.targetOf q.addr) outPort outTarget outAll, Core.showOut_memc _ _ _ _ _ _, ?_⟩
  unfold fabricReq
  simp [hpath, hburst, hon, hlim, hother, hid]

theorem fabricReq_beyond_limit (hlim : overLimit q.port outPort outTarget outAll = true) :
    fabricReq q outPort outTarget outAll other mem c = ((c.countW R.FABRIC_HELD_LIMIT 1).holding q, mem) := by
  unfold fabricReq
  simp [hpath, hburst, hon, hlim, Core.holding]

theorem fabricReq_behind_other (hlim : overLimit q.port outPort outTarget outAll = false) (hother : other = true) :
    fabricReq q outPort outTarget outAll other mem c = ((c.countW R.FABRIC_HELD_ORDER 1).holding q, mem) := by
  unfold fabricReq
  simp [hpath, hburst, hon, hlim, hother, Core.holding]

end Request

theorem heldIssue_of_find {m : Nat} {q : HeldReq} {c : Core} (h : c.atl.held.find? (fun x => decide (x.port = m)) = some q)
    (mem : Mem) : heldIssue m mem c = issueReq q mem (c.unholding q) := by
  unfold heldIssue
  rw [h]
  rfl

/-- A class W counter that is not the interrupt register of its block reads one step further (R16). -/
theorem Core.get_countW_same (c : Core) {r : Nat} (n : Nat) (h : ∀ y, halfField r = some y → r ≠ y.off) :
    (c.countW r n).get r = c.get r + .ofNat 32 n := by
  have hput : (c.put r (c.get r + .ofNat 32 n)).get r = c.get r + .ofNat 32 n := c.get_put_same _ _
  unfold Core.countW
  dsimp only
  split
  · cases hf : halfField r with
    | none => exact hput
    | some y => exact (Core.get_raise_ne _ (h y hf)).trans hput
  · exact hput

/-! ### Completion -/

theorem State.trace_of_quiet {s : State} (h : s.quiet = true) : s.core.atl.trace = [] := List.isEmpty_iff.mp h

/-- A command that sends a request to the fabric, where the request issues. -/
theorem completes_of_issueReq {i : Instr} {s : State} {f : Mem → Core → Core × Mem} {q : HeldReq} {d : Core} {P : State → Prop}
    (e : exec i s = runMem f s) (hissue : f s.mem s.core = issueReq q s.mem d) (ht : d.atl.trace = [])
    (hp : P { s with core := (issueReq q s.mem d).1, mem := (issueReq q s.mem d).2 }) : Completes i s P := by
  refine completes_of_runMem e ?_ (hissue ▸ hp)
  rw [hissue, issueReq_atl]
  exact ht

/-- A command that sends a request to the fabric, where the request is held and a counter of the block says so. -/
theorem completes_of_holding {i : Instr} {s : State} {f : Mem → Core → Core × Mem} {q : HeldReq} {r : Nat} (hq : s.quiet = true)
    (e : exec i s = runMem f s) (hhold : f s.mem s.core = ((s.core.countW r 1).holding q, s.mem))
    (hr : ∀ y, halfField r = some y → r ≠ y.off) :
    Completes i s fun t => t.core.atl.held = s.core.atl.held ++ [q] ∧ t.core.get r = s.core.get r + 1 ∧ t.mem = s.mem := by
  refine completes_of_runMem e ?_ ?_
  · rw [hhold]
    exact (congrArg AtelierPart.trace (s.core.countW_atl r 1)).trans (State.trace_of_quiet hq)
  · rw [hhold]
    exact ⟨congrArg (fun a : AtelierPart => a.held ++ [q]) (s.core.countW_atl r 1), s.core.get_countW_same 1 hr, rfl⟩

/-- Settles O40: a request within the limits issues, and one beyond them or behind another is held and counted. -/
theorem fabricAccessesComplete : Obligations.FabricAccessesComplete := by
  unfold Obligations.FabricAccessesComplete
  refine ⟨?read, ?write, ?limit, ?order, ?held⟩
  case read =>
    intro s m id addr len outPort outTarget outAll other hq hon ⟨hpath, hburst⟩ hlim hfirst hgood
    obtain ⟨-, hend⟩ := burst_within_dram hpath hburst
    obtain ⟨d, hatl, hmemc, e⟩ := fabricReq_issues (q := ⟨m, id % 16, addr, none, len⟩) s.mem hpath hburst hon hlim hfirst
    have hsound := (sound_of_ecc (congrArg MemcPart.ecc hmemc)).mpr ((s.core.sound_iff addr len).mp hgood)
    obtain ⟨hanswer, hmem⟩ := issueReq_read (q := ⟨m, id % 16, addr, none, len⟩) s.mem rfl hsound hend
    refine completes_of_issueReq rfl e (hatl ▸ State.trace_of_quiet hq) ⟨hanswer, hmem, ?_⟩
    exact congrArg AtelierPart.held ((issueReq_atl s.mem).trans hatl)
  case write =>
    intro s m id addr outPort outTarget outAll a bytes other hq hon ⟨hpath, hburst⟩ hlim ha hfirst hgood
    obtain ⟨haddr, -⟩ := burst_within_dram hpath hburst
    obtain ⟨d, hatl, hmemc, e⟩ :=
      fabricReq_issues (q := ⟨m, id % 16, addr, some bytes, bytes.length⟩) s.mem hpath hburst hon hlim hfirst
    have hsound := (sound_of_ecc (congrArg MemcPart.ecc hmemc)).mpr ((s.core.sound_iff addr bytes.length).mp hgood)
    have hmem := issueReq_write (q := ⟨m, id % 16, addr, some bytes, bytes.length⟩) s.mem rfl hsound haddr
    refine completes_of_issueReq rfl e (hatl ▸ State.trace_of_quiet hq) ?_
    simp only [hmem]
    exact ⟨fun i hi => dramByte_writeDram hi s.mem addr, dramByte_writeDram_ne ha s.mem, writeDram_sram s.mem addr bytes⟩
  case limit =>
    intro s m id addr len outPort outTarget outAll other hq hon ⟨hpath, hburst⟩ hlim
    exact completes_of_holding hq rfl (fabricReq_beyond_limit (q := ⟨m, id % 16, addr, none, len⟩) s.mem hpath hburst hon hlim)
      (by decide)
  case order =>
    intro s m id addr outPort outTarget outAll bytes other hq hon ⟨hpath, hburst⟩ hlim hother
    exact completes_of_holding hq rfl
      (fabricReq_behind_other (q := ⟨m, id % 16, addr, some bytes, bytes.length⟩) s.mem hpath hburst hon hlim hother) (by decide)
  case held =>
    intro s m q hq hfind hend hgood hlen
    have e := heldIssue_of_find hfind s.mem
    have hsound := (s.core.sound_iff q.addr q.len).mp hgood
    refine completes_of_issueReq rfl e (State.trace_of_quiet hq) ⟨congrArg AtelierPart.held (issueReq_atl s.mem), ?_⟩
    cases hdata : q.data with
    | none =>
      obtain ⟨hanswer, hmem⟩ := issueReq_read (c := s.core.unholding q) s.mem hdata hsound hend
      simp only [hmem]
      exact ⟨fun _ => hanswer, fun i _ => rfl⟩
    | some bs =>
      have hbytes : q.len = bs.length := by simpa [hdata] using hlen
      refine ⟨nofun, fun i hi => ?_⟩
      rw [hbytes] at hi hsound hend
      have hmem := issueReq_write (c := s.core.unholding q) s.mem hdata hsound (by omega)
      simp only [hmem]
      exact dramByte_writeDram hi s.mem q.addr

end Sys2Proof.Machine
end

section
/-! The statement of Atelier (chapter 16), which ranges over every table of slots and fails on one that lists a slot twice: O39. -/

namespace Sys2Proof.Machine
open Sys2Proof

/-! ### A tick at which a slot is listed twice (R433) -/

/-- An EVERY_BLOCK task of period 3 and phase 0 for logical core 0. -/
def everyThird : List Nat := [0x00260000, 1, 0, 0, 0, 3, 0, 0]

/-- A module with MEDIA running whose table of slots lists slot 5 twice: first with that task RUNNING, then PERIODIC_IDLE. -/
def doubledSlot : State :=
  { core := { clk := { mediaOn := true }
              atl := { slots := [(5, { state := 4, desc := everyThird }), (5, { state := 6, desc := everyThird })] } } }

/-- At the tick that begins block 0 the first entry is skipped, and the second one makes the slot READY. -/
theorem doubledSlot_tick_ready :
    (flushTrace doubledSlot.mem (atelierTick 0 doubledSlot.core)).1.slot 5 = { state := 3, desc := everyThird } := by decide +kernel

/-- Refutes O39: its clause on a skipped release ranges over every table of slots, and in `doubledSlot` the tick meets the running
slot once more as PERIODIC_IDLE and makes it READY. The clause lacks the hypothesis that the table is canonical, a form that
`Core.setSlot` keeps (`smWf_smSet`) and in which no slot is listed twice. -/
theorem not_atelierCommandsComplete : ¬ Obligations.AtelierCommandsComplete := by
  unfold Obligations.AtelierCommandsComplete
  rintro ⟨_, _, _, _, _, skip, _⟩
  have hcompletes := skip doubledSlot 0 5 rfl rfl (by decide +kernel) (by decide +kernel) ⟨rfl, rfl, rfl⟩ (by decide +kernel)
  obtain ⟨hstate, _⟩ := hcompletes.of_runCore rfl
  have hready := congrArg AtSlot.state doubledSlot_tick_ready
  exact absurd (hready.symm.trans hstate) (by decide)

end Sys2Proof.Machine
end

section
/-! The library store (R468 to R470, R475): one equation for each opcode that succeeds, what the list of items and the open writes
then hold, and O43. -/

namespace Sys2Proof.Machine
open Sys2Proof

/-! ### A command by the answer of its body -/

section Answered
variable {i : Instr} {s : State} {o : Opc} {p : Packet} {body : Body} {d : Core} {st : Status} {bs : List Byte}
  {P : State → Prop}

/-- An Easel command that passes the checks before those of its opcode completes with what follows the answer of its body, which
its session has been told. -/
theorem completes_of_answer (e : exec i s = runCore (easel o body p) s) (hadmits : s.core.admits o p = true) (hq : s.quiet = true)
    (hcode : o.code ≠ 0x0100) (hbody : body (s.core.offered o p) (reqOf o p) = (d, st, bs))
    (hsessions : d.host.sessions = (s.core.offered o p).host.sessions) (hatl : d.atl = (s.core.offered o p).atl)
    (hp : (Core.settled o p (d, st, bs)).told p = some (statusCode st, bs) →
      P { s with core := Core.settled o p (d, st, bs) }) : Completes i s P := by
  have hafter : easel o body p s.core = Core.settled o p (d, st, bs) := hbody ▸ easel_admitted hadmits body
  have hopen : (d.session? p.session.toNat).isSome = true :=
    session?_of_sessions (hsessions.trans (s.core.offered_sessions o p)) _ ▸ admits_session hadmits hcode
  refine completes_of_runCore e ?_ ?_
  · rw [hafter, Core.settled_atl, hatl, Core.offered_atl]
    exact State.trace_of_quiet hq
  · rw [hafter]
    exact hp (settled_told hopen)

end Answered

/-! ### Items -/

/-- Any item but the ledger's is looked up in the library. -/
theorem Core.item?_of_ne (c : Core) {n : Nat} (h : n ≠ ledgerItem) : c.item? n = c.flash.lib.find? (·.num = n) := if_neg h

theorem item?_of_lib {c d : Core} (h : c.flash.lib = d.flash.lib) (n : Nat) : c.item? n = d.item? n := by
  unfold Core.item?
  rw [h]

/-- An item that has been stored is found by its number. -/
theorem Core.item?_storeItem (c : Core) {num : Nat} (kind : Nat) (d : List Byte) (h : num ≠ ledgerItem) :
    (c.storeItem num kind d).item? num = some { num := num, kind := kind, data := d, crc := crc32c d } := by
  have hbelow : (c.flash.lib.filter (·.num < num)).find? (·.num = num) = none := by
    refine List.find?_eq_none.mpr fun it hit => ?_
    have hlt := (List.mem_filter.mp hit).2
    simp only [decide_eq_true_eq] at hlt ⊢
    omega
  rw [Core.item?_of_ne _ h, Core.storeItem]
  simp [hbelow]

/-! ### Open writes -/

/-- A session whose write goes has none left, and the others keep theirs. -/
theorem Core.setWrite_none_writes (c : Core) (session : Nat) :
    (c.setWrite session none).flash.writes = c.flash.writes.filter fun x => decide (x.session ≠ session) := by
  unfold Core.setWrite
  dsimp only
  induction c.flash.writes with
  | nil => rfl
  | cons x t ih =>
    rw [List.flatMap_cons, ih]
    by_cases h : x.session = session <;> simp [h]

/-- What an open write is found by. -/
theorem Core.openWrite?_some {c : Core} {session num : Nat} {w : LibWrite} (h : c.openWrite? session num = some w) :
    w ∈ c.flash.writes ∧ w.session = session ∧ w.num = num ∧ w.commit = none := by
  have hmem := List.mem_of_find?_eq_some h
  have hprop := List.find?_some h
  simp only [Bool.and_eq_true, decide_eq_true_eq, Option.isNone_iff_eq_none] at hprop
  obtain ⟨⟨hsession, hnum⟩, hcommit⟩ := hprop
  exact ⟨hmem, hsession, hnum, hcommit⟩

/-- A write of a session takes the place of the one that was open. -/
theorem Core.mem_setWrite {c : Core} {w w' : LibWrite} (h : w ∈ c.flash.writes) :
    w' ∈ (c.setWrite w.session (some w')).flash.writes :=
  List.mem_flatMap.mpr ⟨w, h, by simp⟩

/-- An open write that has changed is found where the former one was. -/
theorem Core.openWrite?_setWrite {c : Core} {session num : Nat} {w w' : LibWrite} (hopen : c.openWrite? session num = some w)
    (h : w'.session = session ∧ w'.num = num ∧ w'.commit = none) :
    (c.setWrite session (some w')).openWrite? session num = some w' := by
  obtain ⟨hsession, hnum, hcommit⟩ := h
  obtain ⟨hmem, hw, -, -⟩ := Core.openWrite?_some hopen
  unfold Core.openWrite? Core.setWrite
  dsimp only
  clear hopen
  generalize c.flash.writes = l at hmem ⊢
  induction l with
  | nil => simp at hmem
  | cons x t ih =>
    rw [List.flatMap_cons]
    by_cases hx : x.session = session
    · simp [hx, hsession, hnum, hcommit]
    · have ht : w ∈ t := (List.mem_cons.mp hmem).resolve_left fun e => hx (e ▸ hw)
      simpa [hx] using ih ht

/-! ### The opcodes that succeed (R475) -/

section Bodies
variable {c : Core} {r : Req}

theorem libListBody_in_range (h : 1 ≤ r.n 1 ∧ r.n 1 ≤ 256) :
    libListBody c r = okW c (((((c.flash.lib.filter fun it => decide (it.num < ledgerItem)) ++ (c.item? ledgerItem).toList ++
      (c.flash.lib.filter fun it => decide (ledgerItem < it.num))).filter fun it => decide (r.n 0 ≤ it.num)).take
        (r.n 1)).flatMap (c.itemWords r.p.session.toNat)) := by
  have hrange : inRange 1 256 (r.n 1) = true := by simpa [inRange] using h
  unfold libListBody
  rw [hrange]
  rfl

theorem libWriteBeginBody_ok (h : libBeginCheck c r.tok.session (r.n 0) (r.n 1) (r.n 2) = .ok) :
    libWriteBeginBody c r = ans { c with flash := { c.flash with writes :=
      c.flash.writes ++ [{ session := r.tok.session, num := r.n 0, kind := r.n 1, size := r.n 2 }] } } .ok := by
  unfold libWriteBeginBody
  rw [h]

section OpenWrite
variable {w : LibWrite} (hopen : c.openWrite? r.tok.session (r.n 0) = some w)
include hopen

theorem libWriteDataBody_appends (hoff : r.n 1 = w.data.length) (hfits : w.data.length + (r.bytes.drop 8).length ≤ w.size)
    (hwarn : c.flag F.SYS_STATUS_VIN_WARN = false) :
    libWriteDataBody c r = ans (c.setWrite r.tok.session (some { w with data := w.data ++ r.bytes.drop 8 })) .ok := by
  unfold libWriteDataBody
  simp only [hopen, hwarn]
  exact if_neg (by omega)

theorem libWriteCommitBody_accepts (hwhole : w.data.length = w.size) (hcheck : crc32c w.data = r.n 1)
    (hformat : formatOk w.kind w.data = true) (hfree : c.itemLocked w.num r.tok.session = false)
    (hwarn : c.flag F.SYS_STATUS_VIN_WARN = false) :
    libWriteCommitBody c r = ans (c.setWrite r.tok.session (some { w with commit := some (r.tok, r.n 1) })) .accepted := by
  unfold libWriteCommitBody
  simp [hopen, hwhole, hcheck, hformat, hfree, hwarn]

theorem libWriteAbortBody_open : libWriteAbortBody c r = ans (c.setWrite r.tok.session none) .ok := by
  unfold libWriteAbortBody
  rw [hopen]

end OpenWrite

theorem libReadBody_undamaged {it : LibItem} (hitem : c.item? (r.n 0) = some it) (hledger : it.num ≠ ledgerItem)
    (hrange : 1 ≤ r.n 2 ∧ r.n 2 + 4 ≤ maxParams r.p.transport ∧ r.n 1 + r.n 2 ≤ it.data.length)
    (hgood : it.damaged.all (fun k => decide (r.n 1 + r.n 2 ≤ k * 16384 ∨ k * 16384 + 16384 ≤ r.n 1)) = true) :
    libReadBody c r = (c, .ok, (it.data.drop (r.n 1)).take (r.n 2)) := by
  have hsize : Core.itemSize it = it.data.length := if_neg hledger
  have hpages : it.damaged.any (fun p => decide (p * 16384 < r.n 1 + r.n 2 ∧ r.n 1 < p * 16384 + 16384)) = false := by
    refine List.any_eq_false.mpr fun k hk => ?_
    have hapart := List.all_eq_true.mp hgood k hk
    simp only [decide_eq_true_eq] at hapart ⊢
    omega
  unfold libReadBody
  simp only [hitem, hsize, hpages, hledger]
  exact if_neg (by omega)

theorem libDeleteBody_unnamed (hfree : c.itemLocked (r.n 0) r.tok.session = false)
    (hkind : (c.item? (r.n 0)).all (fun it => decide (it.kind ≠ 6) && decide (it.kind ≠ 7)) = true)
    (hwarn : c.flag F.SYS_STATUS_VIN_WARN = false) :
    libDeleteBody c r =
      ans { c with flash := { c.flash with lib := c.flash.lib.filter fun it => decide (it.num ≠ r.n 0) } } .ok := by
  unfold libDeleteBody
  cases hitem : c.item? (r.n 0) with
  | none => simp [hfree, hwarn]
  | some it =>
    rw [hitem] at hkind
    simp only [Option.all_some, Bool.and_eq_true, decide_eq_true_eq] at hkind
    simp [hfree, hwarn, hkind]

end Bodies

/-! ### The end of a commit and the timeout (R469) -/

/-- The mapping record of a committed write makes its item visible and ends the write. -/
theorem libCommitDone_stores {c : Core} {session : Nat} {w : LibWrite}
    (hfind : c.flash.writes.find? (fun x => decide (x.session = session) && x.commit.isSome) = some w)
    (hwarn : c.flag F.SYS_STATUS_VIN_WARN = false) :
    libCommitDone session c =
      ((c.storeItem w.num w.kind w.data).setWrite session none).notice? (w.commit.map (·.1)) .ok [] := by
  unfold libCommitDone
  simp [hfind, hwarn]

/-- Settles O43: each command reduces to the one branch of its body that its hypotheses leave, and what follows the body changes
nothing of the flash store. -/
theorem libraryCommandsComplete : Obligations.LibraryCommandsComplete := by
  unfold Obligations.LibraryCommandsComplete
  refine ⟨?status, ?list, ?begin, ?data, ?commit, ?done, ?timeout, ?read, ?delete, ?abort⟩
  case status =>
    intro s p c r most hadmits hq
    exact completes_of_answer rfl hadmits hq (by decide) rfl rfl rfl
      fun htold => ⟨htold, Core.settled_flash _ p _⟩
  case list =>
    intro s p l c r hadmits hq hcount hl
    subst hl
    exact completes_of_answer rfl hadmits hq (by decide) (libListBody_in_range hcount) rfl rfl id
  case begin =>
    intro s p c r hadmits hq hcheck
    refine completes_of_answer rfl hadmits hq (by decide) (libWriteBeginBody_ok hcheck) rfl rfl fun htold => ⟨htold, ?_⟩
    dsimp only
    rw [Core.settled_flash]
    exact ⟨rfl, rfl⟩
  case data =>
    intro s p w c r hadmits hq hopen hoff hfits hwarn
    refine completes_of_answer rfl hadmits hq (by decide) (libWriteDataBody_appends hopen hoff hfits hwarn) rfl rfl
      fun htold => ⟨htold, ?_⟩
    dsimp only
    rw [Core.openWrite?, Core.settled_flash]
    exact ⟨Core.openWrite?_setWrite hopen (Core.openWrite?_some hopen).2, rfl⟩
  case commit =>
    intro s p w c r hadmits hq hopen hwhole hcheck hformat hfree hwarn
    refine completes_of_answer rfl hadmits hq (by decide)
      (libWriteCommitBody_accepts hopen hwhole hcheck hformat hfree hwarn) rfl rfl fun htold => ⟨htold, ?_⟩
    obtain ⟨hmem, hsession, -, -⟩ := Core.openWrite?_some hopen
    dsimp only
    rw [Core.settled_flash]
    refine ⟨List.any_eq_true.mpr ⟨{ w with commit := some (r.tok, r.n 1) }, ?_, decide_eq_true rfl⟩, rfl⟩
    exact hsession ▸ Core.mem_setWrite hmem
  case done =>
    intro s session w hq hfind hwarn hledger
    have e := libCommitDone_stores hfind hwarn
    refine completes_of_runCore rfl ?_ ?_
    · rw [e, Core.notice?_atl]
      exact State.trace_of_quiet hq
    · rw [State.core_of_core, e, Core.notice?_flash, Core.setWrite_none_writes]
      refine ⟨?_, by simp⟩
      exact (item?_of_lib (congrArg FlashPart.lib (Core.notice?_flash _ _ _ _)) _).trans
        (s.core.item?_storeItem w.kind w.data hledger)
  case timeout =>
    intro s session hq
    exact completes_of_runCore rfl (State.trace_of_quiet hq) ⟨rfl, rfl⟩
  case read =>
    intro s p it c r hadmits hq hitem hledger hrange hgood
    exact completes_of_answer rfl hadmits hq (by decide) (libReadBody_undamaged hitem hledger hrange hgood) rfl rfl id
  case delete =>
    intro s p c r hadmits hq hfree hkind hwarn
    exact completes_of_answer rfl hadmits hq (by decide) (libDeleteBody_unnamed hfree hkind hwarn) rfl rfl
      fun htold => ⟨htold, congrArg FlashPart.lib (Core.settled_flash _ p _)⟩
  case abort =>
    intro s p w c r hadmits hq hopen
    refine completes_of_answer rfl hadmits hq (by decide) (libWriteAbortBody_open hopen) rfl rfl
      fun htold => ⟨htold, ?_⟩
    exact (congrArg FlashPart.writes (Core.settled_flash _ p _)).trans (Core.setWrite_none_writes _ _)

end Sys2Proof.Machine
end

section
/-! Check-value scans and the settings of DRAM and flash (R451, R472, R473, R475): the registers of a scan channel through a scan,
check values as numbers of at most 64 bits, and O44. -/

namespace Sys2Proof.Machine
open Sys2Proof

/-! ### Fields of registers -/

/-- An interrupt leaves in the registers what setting its status bit leaves (R171). -/
theorem Core.raise_regs (c : Core) (x : Field) : (c.raise x).regs = (c.setF x 1).regs := by
  unfold Core.raise
  dsimp only
  repeat' split
  all_goals first | rfl | exact Core.fireSource_regs _ _

theorem Core.f_raise (c : Core) (x y : Field) : (c.raise x).f y = (c.setF x 1).f y := by
  unfold Core.f
  rw [get_of_regs (c.raise_regs x)]

theorem Core.f_congr {c d : Core} {x : Field} (h : c.get x.off = d.get x.off) : c.f x = d.f x := by
  unfold Core.f
  rw [h]

theorem Core.flag_congr {c d : Core} {x : Field} (h : c.get x.off = d.get x.off) : c.flag x = d.flag x := by
  unfold Core.flag
  rw [Core.f_congr h]

theorem Core.flag_of_one {c : Core} {x : Field} (h : c.f x = 1) : c.flag x = true := by
  unfold Core.flag
  rw [h]
  rfl

theorem Core.flag_of_zero {c : Core} {x : Field} (h : c.f x = 0) : c.flag x = false := by
  unfold Core.flag
  rw [h]
  rfl

theorem Core.f_setF_field (c : Core) {o hi lo : Nat} (v : Nat) (hl : lo ≤ hi) (h : hi < 32) :
    (c.setF ⟨o, hi, lo⟩ v).f ⟨o, hi, lo⟩ = v % 2 ^ (hi - lo + 1) := c.f_setF_same _ v hl h

/-- Another field of the register keeps its value. -/
theorem Core.f_setF_beside (c : Core) {o hi lo hi' lo' : Nat} (v : Nat) (hl : lo ≤ hi) (h : hi < 32) (hl' : lo' ≤ hi')
    (hapart : hi < lo' ∨ hi' < lo) : (c.setF ⟨o, hi, lo⟩ v).f ⟨o, hi', lo'⟩ = c.f ⟨o, hi', lo'⟩ :=
  c.f_setF_apart v hl h hl' (by simpa [Field.apart] using hapart)

/-- A field of another register keeps its value. -/
theorem Core.f_setF_off (c : Core) {o hi lo o' hi' lo' : Nat} (v : Nat) (h : o' ≠ o) :
    (c.setF ⟨o, hi, lo⟩ v).f ⟨o', hi', lo'⟩ = c.f ⟨o', hi', lo'⟩ := Core.f_congr (c.get_setF_ne v h)

theorem Core.f_put_off (c : Core) {o o' hi lo : Nat} (w : Word) (h : o' ≠ o) : (c.put o w).f ⟨o', hi, lo⟩ = c.f ⟨o', hi, lo⟩ :=
  Core.f_congr (c.get_put_ne w h)

theorem Core.f_put_same (c : Core) (o hi lo : Nat) (w : Word) : (c.put o w).f ⟨o, hi, lo⟩ = bitsOf w hi lo := by
  unfold Core.f
  rw [Core.get_put_same]

theorem Core.f_of_crc (c : Core) (x : CrcPart) (y : Field) : ({ c with crc := x } : Core).f y = c.f y := rfl

/-- Registers and the host interface change apart from each other. -/
theorem Core.put_host (c : Core) (off : Nat) (w : Word) : (c.put off w).host = c.host := (rfl)

theorem Core.setF_host (c : Core) (x : Field) (v : Nat) : (c.setF x v).host = c.host := c.put_host _ _

/-- The field of all 32 bits is the word. -/
theorem bitsOf_word (w : Word) : bitsOf w 31 0 = w.toNat := by
  unfold bitsOf
  rw [pow_zero, Nat.div_one]
  exact Nat.mod_eq_of_lt w.isLt

/-- A number below 2^64 is held whole by a low and a high register. -/
theorem Core.get64_put64 (c : Core) {lo hi v : Nat} (hne : lo ≠ hi) (hv : v < 2 ^ 64) : (c.put64 lo hi v).get64 lo hi = v := by
  unfold Core.get64 Core.put64
  rw [Core.get_put_ne _ _ hne, Core.get_put_same, Core.get_put_same]
  simp only [BitVec.toNat_ofNat]
  omega

/-! ### Check values (R472) -/

theorem bitRev_lt (n v : Nat) : bitRev n v < 2 ^ n := by
  induction n generalizing v with
  | zero => exact Nat.one_pos
  | succ n ih =>
    have hlow : bitRev n (v / 2) < 2 ^ n := ih _
    have hbit : v % 2 * 2 ^ n ≤ 1 * 2 ^ n := Nat.mul_le_mul_right _ (by omega)
    rw [bitRev, pow_succ]
    omega

theorem crcShift_lt {w poly r : Nat} (hpoly : poly < 2 ^ w) (hr : r < 2 ^ w) (k : Nat) : crcShift w poly k r < 2 ^ w := by
  induction k generalizing r with
  | zero => exact hr
  | succ k ih =>
    have hshift : r * 2 % 2 ^ w < 2 ^ w := Nat.mod_lt _ (by positivity)
    refine ih ?_
    split
    · exact Nat.xor_lt_two_pow hshift hpoly
    · exact hshift

theorem crcByte_lt {w poly r : Nat} (hw : 8 ≤ w) (hpoly : poly < 2 ^ w) (hr : r < 2 ^ w) (refl : Bool) (b : Byte) :
    crcByte w poly refl r b < 2 ^ w := by
  have hbyte : (if refl then bitRev 8 b.toNat else b.toNat) < 2 ^ 8 := by
    split
    · exact bitRev_lt 8 _
    · exact b.isLt
  have htop : (if refl then bitRev 8 b.toNat else b.toNat) * 2 ^ (w - 8) < 2 ^ w := by
    calc _ < 2 ^ 8 * 2 ^ (w - 8) := Nat.mul_lt_mul_of_pos_right hbyte (by positivity)
      _ = 2 ^ w := by rw [← pow_add, Nat.add_sub_cancel' hw]
  exact crcShift_lt hpoly (Nat.xor_lt_two_pow hr htop) 8

/-- Every check value of R472 has 8 to 64 bits, and its constants have no more. -/
theorem crcParams_bounds (poly : Nat) : let p := crcParams poly
    8 ≤ p.1 ∧ p.1 ≤ 64 ∧ p.2.1 < 2 ^ p.1 ∧ p.2.2.1 < 2 ^ p.1 ∧ p.2.2.2.2 < 2 ^ p.1 := by
  unfold crcParams
  split <;> decide

theorem crcStart_lt (poly : Nat) (seed : Option Nat) : crcStart poly seed < 2 ^ (crcParams poly).1 := by
  obtain ⟨-, -, -, hinit, hfinal⟩ := crcParams_bounds poly
  cases seed with
  | none => exact hinit
  | some s =>
    unfold crcStart
    dsimp only
    split
    · exact bitRev_lt _ _
    · exact Nat.xor_lt_two_pow (Nat.mod_lt _ (by positivity)) hfinal

theorem crcEnd_lt {poly r : Nat} (hr : r < 2 ^ (crcParams poly).1) : crcEnd poly r < 2 ^ (crcParams poly).1 := by
  obtain ⟨-, -, -, -, hfinal⟩ := crcParams_bounds poly
  unfold crcEnd
  dsimp only
  refine Nat.xor_lt_two_pow ?_ hfinal
  split
  · exact bitRev_lt _ _
  · exact hr

/-- A check value is a number of at most 64 bits. -/
theorem crcOf_lt (poly : Nat) (seed : Option Nat) (bs : List Byte) : crcOf poly seed bs < 2 ^ 64 := by
  obtain ⟨hw, hw64, hpoly, -, -⟩ := crcParams_bounds poly
  have hrun : ∀ r, r < 2 ^ (crcParams poly).1 →
      bs.foldl (crcByte (crcParams poly).1 (crcParams poly).2.1 (crcParams poly).2.2.2.1) r < 2 ^ (crcParams poly).1 := by
    induction bs with
    | nil => exact fun _ hr => hr
    | cons b t ih => exact fun r hr => ih _ (crcByte_lt hw hpoly hr _ b)
  exact (crcEnd_lt (hrun _ (crcStart_lt poly seed))).trans_le (Nat.pow_le_pow_right (by decide) hw64)

/-- The scan engine's register over a range is that over the bytes of the range. -/
theorem crcRun_eq_foldl (w poly : Nat) (refl : Bool) (rd : Nat → Byte) (n a r : Nat) :
    crcRun w poly refl rd n a r = ((List.range n).map fun i => rd (a + i)).foldl (crcByte w poly refl) r := by
  induction n generalizing a r with
  | zero => rfl
  | succ n ih =>
    have hnext : ((fun i => rd (a + i)) ∘ Nat.succ) = fun i => rd (a + 1 + i) :=
      funext fun i => congrArg rd (by simp only [Nat.succ_eq_add_one]; omega)
    rw [crcRun, ih, List.range_succ_eq_map, List.map_cons, List.foldl_cons, List.map_map, hnext]
    rfl

/-- The result of a scan that nothing has written to is the check value of its bytes. -/
theorem crcEnd_crcRun (poly : Nat) (seed : Option Nat) (rd : Nat → Byte) (n a : Nat) :
    crcEnd poly (crcRun (crcParams poly).1 (crcParams poly).2.1 (crcParams poly).2.2.2.1 rd n a (crcStart poly seed)) =
      crcOf poly seed ((List.range n).map fun i => rd (a + i)) := by
  rw [crcRun_eq_foldl]
  rfl

/-! ### What a channel shows (R473) -/

theorem Core.crcAddr_congr {c d : Core} {k : Nat} (hlo : c.get (R.CRC_CH_ADDR_LO k) = d.get (R.CRC_CH_ADDR_LO k))
    (hhi : c.get (R.CRC_CH_ADDR_HI k) = d.get (R.CRC_CH_ADDR_HI k)) : c.crcAddr k = d.crcAddr k := by
  have elo : c.f (F.CRC_CH_ADDR_LO_ADDR k) = d.f (F.CRC_CH_ADDR_LO_ADDR k) := Core.f_congr hlo
  have ehi : c.f (F.CRC_CH_ADDR_HI_ADDR k) = d.f (F.CRC_CH_ADDR_HI_ADDR k) := Core.f_congr hhi
  unfold Core.crcAddr
  rw [elo, ehi]

theorem Core.crcLen_congr {c d : Core} {k : Nat} (h : c.get (R.CRC_CH_LEN k) = d.get (R.CRC_CH_LEN k)) :
    c.crcLen k = d.crcLen k := by
  have e : c.f (F.CRC_CH_LEN_COUNT k) = d.f (F.CRC_CH_LEN_COUNT k) := Core.f_congr h
  unfold Core.crcLen
  rw [e]

/-- Two states that differ in CTRL of a channel and in STATUS only give the channel the same range. -/
theorem Core.crcRange_congr {c d : Core} {k : Nat}
    (h : ∀ off, off ≠ R.CRC_CH_CTRL k → off ≠ R.CRC_STATUS → c.get off = d.get off) :
    c.crcAddr k = d.crcAddr k ∧ c.crcLen k = d.crcLen k := by
  have hoff : ∀ b, 0x800100 ≤ b ∧ b ≤ 0x800108 → c.get (b + 0x40 * k) = d.get (b + 0x40 * k) := fun b hb =>
    h _ (by unfold R.CRC_CH_CTRL; omega) (by unfold R.CRC_STATUS; omega)
  exact ⟨Core.crcAddr_congr (hoff _ (by decide)) (hoff _ (by decide)), Core.crcLen_congr (hoff _ (by decide))⟩

/-- Two states show the same registers of the scan engine's block. -/
def CrcBlockAgrees (c d : Core) : Prop := ∀ off, window off = 8 → c.get off = d.get off

/-- The registers of a channel lie in the block. -/
theorem window_crcChannel {k b : Nat} (hk : k ≤ 3) (hb : 0x800000 ≤ b ∧ b ≤ 0x800200) : window (b + 0x40 * k) = 8 := by
  unfold window
  omega

namespace CrcBlockAgrees
variable {c d : Core} (h : CrcBlockAgrees c d)
include h

theorem f {x : Field} (hx : window x.off = 8) : c.f x = d.f x := Core.f_congr (h _ hx)

theorem flag {x : Field} (hx : window x.off = 8) : c.flag x = d.flag x := Core.flag_congr (h _ hx)

variable {k : Nat} (hk : k ≤ 3)
include hk

theorem crcAddr : c.crcAddr k = d.crcAddr k :=
  Core.crcAddr_congr (h _ (window_crcChannel hk (by decide))) (h _ (window_crcChannel hk (by decide)))

theorem crcLen : c.crcLen k = d.crcLen k := Core.crcLen_congr (h _ (window_crcChannel hk (by decide)))

theorem crcResult :
    c.get64 (R.CRC_CH_RESULT_LO k) (R.CRC_CH_RESULT_HI k) = d.get64 (R.CRC_CH_RESULT_LO k) (R.CRC_CH_RESULT_HI k) := by
  have hlo : c.get (R.CRC_CH_RESULT_LO k) = d.get (R.CRC_CH_RESULT_LO k) := h _ (window_crcChannel hk (by decide))
  have hhi : c.get (R.CRC_CH_RESULT_HI k) = d.get (R.CRC_CH_RESULT_HI k) := h _ (window_crcChannel hk (by decide))
  unfold Core.get64
  rw [hlo, hhi]

end CrcBlockAgrees

theorem settled_crcBlock (o : Opc) (p : Packet) (a : Answer) : CrcBlockAgrees (Core.settled o p a) a.1 :=
  fun _ ho => Core.get_settled_away (by omega) (by omega)

theorem notice?_crcBlock (c : Core) (t : Option Tok) (st : Status) (l : List Byte) : CrcBlockAgrees (c.notice? t st l) c := by
  cases t with
  | none => exact fun _ _ => rfl
  | some t => exact fun _ ho => c.get_notice_away (by omega) (by omega)

theorem wordRead_crc (m : Nat) (c : Core) (w : Nat) : (Core.wordRead m c w).crc = c.crc := by
  unfold Core.wordRead
  split
  · rfl
  · simp [Core.seenAt]
  · dsimp only
    split <;> simp [Core.seenAt]

/-- The reads of a scan leave the channels' state and the trace alone. -/
theorem wordReads_keep (m : Nat) (l : List (Nat × Nat)) (c : Core) :
    let d := l.foldl (fun c x => Core.wordRead m c x.1) c
    d.crc = c.crc ∧ d.atl = c.atl :=
  ⟨foldl_keeps Core.crc _ (fun a b => wordRead_crc m a b.1) l c,
    foldl_keeps Core.atl _ (fun a b => wordRead_atl m a b.1) l c⟩

/-! ### A channel starts, stops and ends (R473) -/

/-- A range lies in DRAM or in studio SRAM. -/
def scanRange (a n : Nat) : Prop := a + n ≤ dramEnd ∨ (sramBase ≤ a ∧ a + n ≤ sramEnd)

/-- A channel that is BUSY with a scan that nothing has written to. -/
def Core.crcStarted (c : Core) (k : Nat) : Core :=
  let c := { c with crc := { c.crc with dirty := smSet (fun _ => false) c.crc.dirty k false } }
  (((c.setF (F.CRC_CH_CTRL_BUSY k) 1).setF (F.CRC_CH_CTRL_GO k) 1).setF (F.CRC_CH_CTRL_CAUSE k) 0).setF ⟨R.CRC_STATUS, k, k⟩ 1

/-- A channel that is done, with a result. -/
def Core.crcEnded (c : Core) (k res : Nat) : Core :=
  let c := c.put64 (R.CRC_CH_RESULT_LO k) (R.CRC_CH_RESULT_HI k) res
  ((((c.setF (F.CRC_CH_CTRL_BUSY k) 0).setF (F.CRC_CH_CTRL_GO k) 0).setF ⟨R.CRC_STATUS, k, k⟩ 0).setF
    (F.CRC_CH_CTRL_DONE k) 1).raise ⟨R.CRC_INT_STATUS, k, k⟩

theorem crcGo_in_range {c : Core} {k : Nat} (h : scanRange (c.crcAddr k) (c.crcLen k)) : c.crcGo k = c.crcStarted k := by
  have hok : (decide (c.crcAddr k + c.crcLen k ≤ dramEnd) || (decide (sramBase ≤ c.crcAddr k) &&
      decide (c.crcAddr k + c.crcLen k ≤ sramEnd))) = true := by simpa [scanRange] using h
  unfold Core.crcGo
  exact if_neg (by simp [hok])

theorem crcGo_out_of_range {c : Core} {k : Nat} (h : ¬scanRange (c.crcAddr k) (c.crcLen k)) : c.crcGo k = c.crcErr k 1 := by
  have hbad : (decide (c.crcAddr k + c.crcLen k ≤ dramEnd) || (decide (sramBase ≤ c.crcAddr k) &&
      decide (c.crcAddr k + c.crcLen k ≤ sramEnd))) = false := by simpa [scanRange] using h
  unfold Core.crcGo
  exact if_pos (by simp [hbad])

section Channel
variable (c : Core) (k : Nat)

/-- A start changes CTRL of the channel and STATUS of the block only. -/
theorem Core.get_crcStarted {off : Nat} (hctrl : off ≠ R.CRC_CH_CTRL k) (hstatus : off ≠ R.CRC_STATUS) :
    (c.crcStarted k).get off = c.get off := by
  unfold Core.crcStarted
  rw [Core.get_setF_ne _ _ hstatus, Core.get_setF_ne _ _ hctrl, Core.get_setF_ne _ _ hctrl, Core.get_setF_ne _ _ hctrl]
  rfl

/-- A start leaves the range of the channel. -/
theorem Core.crcStarted_range : (c.crcStarted k).crcAddr k = c.crcAddr k ∧ (c.crcStarted k).crcLen k = c.crcLen k :=
  Core.crcRange_congr fun _ hctrl hstatus => c.get_crcStarted k hctrl hstatus

theorem Core.crcStarted_keeps : (c.crcStarted k).host = c.host ∧ (c.crcStarted k).atl = c.atl := by
  simp only [Core.crcStarted, Core.setF_host, Core.setF_atl, and_self]

theorem Core.crcStarted_ctrl : (c.crcStarted k).f (F.CRC_CH_CTRL_BUSY k) = 1 ∧
    (c.crcStarted k).f (F.CRC_CH_CTRL_POLY k) = c.f (F.CRC_CH_CTRL_POLY k) := by
  simp (disch := omega) only [Core.crcStarted, F.CRC_CH_CTRL_BUSY, F.CRC_CH_CTRL_GO, F.CRC_CH_CTRL_CAUSE, F.CRC_CH_CTRL_POLY,
    R.CRC_CH_CTRL, R.CRC_STATUS, Core.f_setF_off, Core.f_setF_beside, Core.f_setF_field, Core.f_of_crc]
  exact ⟨rfl, trivial⟩

theorem Core.crcErr_atl (cause : Nat) : (c.crcErr k cause).atl = c.atl := by
  simp only [Core.crcErr, Core.raise_atl, Core.setF_atl]

theorem Core.crcEnded_atl (res : Nat) : (c.crcEnded k res).atl = c.atl := by
  simp only [Core.crcEnded, Core.put64, Core.raise_atl, Core.setF_atl, Core.put_atl]

theorem Core.crcErr_ctrl (cause : Nat) (hk : k ≤ 3) : (c.crcErr k cause).f (F.CRC_CH_CTRL_BUSY k) = 0 ∧
    (c.crcErr k cause).f (F.CRC_CH_CTRL_ERR k) = 1 ∧ (c.crcErr k cause).f (F.CRC_CH_CTRL_CAUSE k) = cause % 4 ∧
    (c.crcErr k cause).f ⟨R.CRC_INT_STATUS, 4 + k, 4 + k⟩ = 1 := by
  simp (disch := omega) only [Core.crcErr, F.CRC_CH_CTRL_BUSY, F.CRC_CH_CTRL_GO, F.CRC_CH_CTRL_CAUSE, F.CRC_CH_CTRL_ERR,
    R.CRC_CH_CTRL, R.CRC_STATUS, R.CRC_INT_STATUS, Core.f_raise, Core.f_setF_off, Core.f_setF_beside, Core.f_setF_field]
  simp

theorem Core.crcEnded_ctrl (res : Nat) (hk : k ≤ 3) : (c.crcEnded k res).f (F.CRC_CH_CTRL_BUSY k) = 0 ∧
    (c.crcEnded k res).f (F.CRC_CH_CTRL_DONE k) = 1 ∧ (c.crcEnded k res).f ⟨R.CRC_INT_STATUS, k, k⟩ = 1 := by
  simp (disch := omega) only [Core.crcEnded, F.CRC_CH_CTRL_BUSY, F.CRC_CH_CTRL_GO, F.CRC_CH_CTRL_DONE,
    R.CRC_CH_CTRL, R.CRC_STATUS, R.CRC_INT_STATUS, Core.f_raise, Core.f_setF_off, Core.f_setF_beside, Core.f_setF_field]
  simp

/-- The end of a scan leaves its result where it was put. -/
theorem Core.crcEnded_result {res : Nat} (h : res < 2 ^ 64) :
    (c.crcEnded k res).get64 (R.CRC_CH_RESULT_LO k) (R.CRC_CH_RESULT_HI k) = res := by
  have hkeep : ∀ off, off = R.CRC_CH_RESULT_LO k ∨ off = R.CRC_CH_RESULT_HI k →
      (c.crcEnded k res).get off = (c.put64 (R.CRC_CH_RESULT_LO k) (R.CRC_CH_RESULT_HI k) res).get off := by
    intro off hoff
    obtain ⟨hctrl, hstatus, hint⟩ : off ≠ R.CRC_CH_CTRL k ∧ off ≠ R.CRC_STATUS ∧ off ≠ R.CRC_INT_STATUS := by
      simp only [R.CRC_CH_RESULT_LO, R.CRC_CH_RESULT_HI, R.CRC_CH_CTRL, R.CRC_STATUS, R.CRC_INT_STATUS] at *
      omega
    unfold Core.crcEnded
    rw [Core.get_raise_ne _ hint, Core.get_setF_ne _ _ hctrl, Core.get_setF_ne _ _ hstatus, Core.get_setF_ne _ _ hctrl,
      Core.get_setF_ne _ _ hctrl]
  refine Eq.trans ?_ (c.get64_put64 (lo := R.CRC_CH_RESULT_LO k) (hi := R.CRC_CH_RESULT_HI k) ?_ h)
  · unfold Core.get64
    rw [hkeep _ (.inl rfl), hkeep _ (.inr rfl)]
  · simp only [R.CRC_CH_RESULT_LO, R.CRC_CH_RESULT_HI]
    omega

end Channel

/-! ### The commands of the scan engine (R473, R475) -/

/-- A served GO of an idle channel that the master may use starts the channel's scan, after the access types have acted. -/
theorem crcScanGo_served {c : Core} {m k : Nat} {v : Word} (hs : c.serves m (R.CRC_CH_CTRL k) = true) (hk : k ≤ 3)
    (hhost : m = 8 → k ≤ 1) (hgo : bitOf v 31 = true) (hidle : c.flag (F.CRC_CH_CTRL_BUSY k) = false) :
    crcScanGo m k v c = (c.written ⟨m, R.CRC_CH_CTRL k, v⟩ (2 ^ 31)).crcGo k := by
  unfold crcScanGo
  rw [if_neg (by omega), if_neg (by omega), if_neg (by simp [hidle])]
  exact (busWrite_served (a := ⟨m, R.CRC_CH_CTRL k, v⟩) hs _ _).trans (if_pos hgo)

/-- A write of CTRL leaves the range of the channel. -/
theorem Core.written_crcRange (c : Core) (m k hold : Nat) (v : Word) :
    (c.written ⟨m, R.CRC_CH_CTRL k, v⟩ hold).crcAddr k = c.crcAddr k ∧
      (c.written ⟨m, R.CRC_CH_CTRL k, v⟩ hold).crcLen k = c.crcLen k :=
  Core.crcRange_congr fun _ hctrl _ => c.get_written_ne hold hctrl

/-- The registers of a channel as CRC_SCAN sets them. -/
def Core.crcProgrammed (c : Core) (r : Req) : Core :=
  let k := r.n 0
  let c := (c.put (R.CRC_CH_ADDR_LO k) (r.w 3)).put (R.CRC_CH_ADDR_HI k) (r.w 4)
  let c := (c.put (R.CRC_CH_LEN k) (r.w 5)).put64 (R.CRC_CH_SEED_LO k) (R.CRC_CH_SEED_HI k) (r.n 6 + 2 ^ 32 * r.n 7)
  (c.setF (F.CRC_CH_CTRL_POLY k) (r.n 1)).setF (F.CRC_CH_CTRL_CONT k) (r.n 2)

theorem Core.crcProgrammed_shows (c : Core) {r : Req} (hpoly : r.n 1 ≤ 3) (hhigh : r.n 4 ≤ 255) :
    (c.crcProgrammed r).crcAddr (r.n 0) = r.n 3 + 2 ^ 32 * r.n 4 ∧
      ((c.crcProgrammed r).crcLen (r.n 0) = if r.n 5 = 0 then 2 ^ 32 else r.n 5) ∧
      (c.crcProgrammed r).f (F.CRC_CH_CTRL_POLY (r.n 0)) = r.n 1 := by
  have hlow : bitsOf (r.w 3) 31 0 = r.n 3 := bitsOf_word _
  have hlen : bitsOf (r.w 5) 31 0 = r.n 5 := bitsOf_word _
  have hbits : bitsOf (r.w 4) 7 0 = r.n 4 := by
    have hword : (r.w 4).toNat = r.n 4 := rfl
    unfold bitsOf
    omega
  have hcount : (c.crcProgrammed r).f (F.CRC_CH_LEN_COUNT (r.n 0)) = r.n 5 := by
    simp (disch := omega) only [Core.crcProgrammed, Core.put64, F.CRC_CH_CTRL_POLY, F.CRC_CH_CTRL_CONT, F.CRC_CH_LEN_COUNT,
      R.CRC_CH_CTRL, R.CRC_CH_LEN, R.CRC_CH_SEED_LO, R.CRC_CH_SEED_HI, Core.f_setF_off, Core.f_put_off, Core.f_put_same, hlen]
  refine ⟨?_, ?_, ?_⟩
  · simp (disch := omega) only [Core.crcProgrammed, Core.crcAddr, Core.put64, F.CRC_CH_CTRL_POLY, F.CRC_CH_CTRL_CONT,
      F.CRC_CH_ADDR_LO_ADDR, F.CRC_CH_ADDR_HI_ADDR, R.CRC_CH_CTRL, R.CRC_CH_ADDR_LO, R.CRC_CH_ADDR_HI, R.CRC_CH_LEN,
      R.CRC_CH_SEED_LO, R.CRC_CH_SEED_HI, Core.f_setF_off, Core.f_put_off, Core.f_put_same, hlow, hbits]
  · rw [Core.crcLen, hcount]
  · simp (disch := omega) only [Core.crcProgrammed, F.CRC_CH_CTRL_POLY, F.CRC_CH_CTRL_CONT, Core.f_setF_beside, Core.f_setF_field]
    omega

/-- A channel will tell an operation how its scan ended. -/
def Core.crcAsked (c : Core) (k : Nat) (tok : Option Tok) : Core :=
  { c with crc := { c.crc with tok := smSet (fun _ => none) c.crc.tok k tok } }

/-- What CRC_SCAN of a good range leaves. -/
def Core.crcScanning (c : Core) (r : Req) : Core :=
  ((c.crcProgrammed r).crcStarted (r.n 0)).crcAsked (r.n 0) (some r.tok)

theorem Core.crcAsked_host (c : Core) (k : Nat) (tok : Option Tok) : (c.crcAsked k tok).host = c.host := (rfl)
theorem Core.crcAsked_atl (c : Core) (k : Nat) (tok : Option Tok) : (c.crcAsked k tok).atl = c.atl := (rfl)
theorem Core.crcAsked_get (c : Core) (k off : Nat) (tok : Option Tok) : (c.crcAsked k tok).get off = c.get off := (rfl)
theorem Core.crcAsked_tok (c : Core) (k : Nat) (tok : Option Tok) : smGet (fun _ => none) (c.crcAsked k tok).crc.tok k = tok :=
  smGet_smSet_same _ _ _ _

/-- The start of a scan touches neither the host interface nor the trace. -/
theorem Core.crcScanning_keeps (c : Core) (r : Req) : (c.crcScanning r).host = c.host ∧ (c.crcScanning r).atl = c.atl := by
  obtain ⟨hhost, hatl⟩ := (c.crcProgrammed r).crcStarted_keeps (r.n 0)
  unfold Core.crcScanning
  rw [Core.crcAsked_host, Core.crcAsked_atl, hhost, hatl]
  simp only [Core.crcProgrammed, Core.put64, Core.setF_host, Core.put_host, Core.setF_atl, Core.put_atl, and_self]

theorem Core.crcScanning_shows (c : Core) {r : Req} (hpoly : r.n 1 ≤ 3) (hhigh : r.n 4 ≤ 255) :
    (c.crcScanning r).f (F.CRC_CH_CTRL_BUSY (r.n 0)) = 1 ∧
      (c.crcScanning r).crcAddr (r.n 0) = r.n 3 + 2 ^ 32 * r.n 4 ∧
      ((c.crcScanning r).crcLen (r.n 0) = if r.n 5 = 0 then 2 ^ 32 else r.n 5) ∧
      (c.crcScanning r).f (F.CRC_CH_CTRL_POLY (r.n 0)) = r.n 1 ∧
      smGet (fun _ => none) (c.crcScanning r).crc.tok (r.n 0) = some r.tok := by
  obtain ⟨haddr, hlen, hctrl⟩ := c.crcProgrammed_shows hpoly hhigh
  obtain ⟨hbusy, hpoly'⟩ := (c.crcProgrammed r).crcStarted_ctrl (r.n 0)
  obtain ⟨haddr', hlen'⟩ := (c.crcProgrammed r).crcStarted_range (r.n 0)
  have hget := ((c.crcProgrammed r).crcStarted (r.n 0)).crcAsked_get (r.n 0) (tok := some r.tok)
  obtain ⟨haddr'', hlen''⟩ := Core.crcRange_congr fun off _ _ => hget off
  unfold Core.crcScanning
  exact ⟨(Core.f_congr (hget _)).trans hbusy, (haddr''.trans haddr').trans haddr, (hlen''.trans hlen').trans hlen,
    (Core.f_congr (hget _)).trans (hpoly'.trans hctrl), Core.crcAsked_tok _ _ _⟩

/-- CRC_SCAN of a good range on an idle host channel is accepted and the scan starts. -/
theorem crcScanBody_starts {c : Core} {r : Req} (hp : r.n 0 ≤ 1 ∧ r.n 1 ≤ 3 ∧ r.n 2 ≤ 1 ∧ r.n 4 ≤ 255)
    (hidle : c.flag (F.CRC_CH_CTRL_BUSY (r.n 0)) = false)
    (hrange : scanRange (r.n 3 + 2 ^ 32 * r.n 4) (if r.n 5 = 0 then 2 ^ 32 else r.n 5)) :
    crcScanBody c r = ans (c.crcScanning r) .accepted := by
  obtain ⟨hchan, hpoly, hcont, hhigh⟩ := hp
  obtain ⟨haddr, hlen, -⟩ := c.crcProgrammed_shows hpoly hhigh
  have hgo : (c.crcProgrammed r).crcGo (r.n 0) = (c.crcProgrammed r).crcStarted (r.n 0) :=
    crcGo_in_range (by rw [haddr, hlen]; exact hrange)
  obtain ⟨hbusy, -⟩ := (c.crcProgrammed r).crcStarted_ctrl (r.n 0)
  unfold crcScanBody
  rw [if_neg (by omega), if_neg (by omega), if_neg (by omega), if_neg (by simp [hidle])]
  show (if ((c.crcProgrammed r).crcGo (r.n 0)).flag (F.CRC_CH_CTRL_BUSY (r.n 0)) = true then
    ans (((c.crcProgrammed r).crcGo (r.n 0)).crcAsked (r.n 0) (some r.tok)) .accepted else _) = _
  rw [hgo, if_pos (Core.flag_of_one hbusy)]
  rfl

/-- The check value that a channel's scan of unchanged bytes ends with (R472). -/
def Core.crcValue (c : Core) (k : Nat) (mem : Mem) : Nat :=
  crcOf (c.f (F.CRC_CH_CTRL_POLY k))
    (if c.flag (F.CRC_CH_CTRL_CONT k) then some (c.get64 (R.CRC_CH_SEED_LO k) (R.CRC_CH_SEED_HI k)) else none)
    ((List.range (c.crcLen k)).map fun i => mem.byte (c.crcAddr k + i))

/-- A scan's reads of the words of its range that have a fault (R455). -/
def Core.crcReads (c : Core) (k : Nat) : Core :=
  if c.crcAddr k < dramEnd then
    (c.memc.ecc.filter fun x => decide (c.crcAddr k < 8 * x.1 + 8 ∧ 8 * x.1 < c.crcAddr k + c.crcLen k)).foldl
      (fun c x => Core.wordRead 6 c x.1) c
  else c

/-- The end of a scan whose range has been read: the value, or one that nothing fixes where the range was written (R473). -/
def Core.crcFinish (c : Core) (k width value : Nat) (tok : Option Tok) : Core :=
  let dirty := smGet (fun _ => false) c.crc.dirty k
  let x := c.free
  let d := (if dirty then x.2 else c).crcEnded k (if dirty then x.1 % 2 ^ width else value)
  d.notice? tok .ok (d.crcWords k .ok)

theorem Core.crcFinish_clean {c : Core} {k : Nat} (h : smGet (fun _ => false) c.crc.dirty k = false) (width value : Nat)
    (tok : Option Tok) :
    c.crcFinish k width value tok = (c.crcEnded k value).notice? tok .ok ((c.crcEnded k value).crcWords k .ok) := by
  unfold Core.crcFinish
  rw [h]
  rfl

theorem Core.crcReads_keep (c : Core) (k : Nat) : (c.crcReads k).crc = c.crc ∧ (c.crcReads k).atl = c.atl := by
  unfold Core.crcReads
  split
  · exact wordReads_keep 6 _ c
  · exact ⟨rfl, rfl⟩

/-- An uncorrectable word lies in the range of a channel. -/
def Core.crcBad (c : Core) (k : Nat) (x : Nat × Nat) : Bool :=
  decide (x.2 = 2 ∧ c.crcAddr k < 8 * x.1 + 8 ∧ 8 * x.1 < c.crcAddr k + c.crcLen k)

section ScanEnds
variable {c : Core} {k : Nat} (hk : k ≤ 3) (hbusy : c.flag (F.CRC_CH_CTRL_BUSY k) = true) (mem : Mem)
include hk hbusy

/-- A scan of a range that nothing has written to, and without an uncorrectable word, ends with the check value. -/
theorem crcScanDone_ends (hclean : smGet (fun _ => false) c.crc.dirty k = false) (hgood : c.memc.ecc.filter (c.crcBad k) = []) :
    ∃ d e : Core, d.atl = c.atl ∧ d.crcEnded k (c.crcValue k mem) = e ∧
      crcScanDone k mem c = (e.notice? (smGet (fun _ => none) c.crc.tok k) .ok (e.crcWords k .ok), mem) := by
  have hnone : ¬(!(c.memc.ecc.filter (c.crcBad k)).isEmpty) = true := by simp [hgood]
  obtain ⟨hcrc, hatl⟩ := (c.crcAsked k none).crcReads_keep k
  have hclean' : smGet (fun _ => false) ((c.crcAsked k none).crcReads k).crc.dirty k = false := by rw [hcrc]; exact hclean
  refine ⟨(c.crcAsked k none).crcReads k, _, hatl, rfl, ?_⟩
  rw [← Core.crcFinish_clean hclean' (crcParams (c.f (F.CRC_CH_CTRL_POLY k))).1, Core.crcValue, ← crcEnd_crcRun]
  unfold crcScanDone
  rw [if_neg (by simp [hbusy]; omega)]
  exact if_neg hnone

/-- A scan of a range that holds an uncorrectable word stops with ERR and CAUSE 2. -/
theorem crcScanDone_stops (hbad : c.memc.ecc.any (c.crcBad k) = true) :
    ∃ d e : Core, d.atl = c.atl ∧ d.crcErr k 2 = e ∧
      crcScanDone k mem c = (e.notice? (smGet (fun _ => none) c.crc.tok k) .faulted (e.crcWords k .faulted), mem) := by
  have hsome : (!(c.memc.ecc.filter (c.crcBad k)).isEmpty) = true := by
    obtain ⟨x, hx, hx2⟩ := List.any_eq_true.mp hbad
    simpa using ⟨x.1, x.2, hx, hx2⟩
  obtain ⟨-, hatl⟩ := wordReads_keep 6 ((c.memc.ecc.filter (c.crcBad k)).take 1) (c.crcAsked k none)
  refine ⟨_, _, hatl, rfl, ?_⟩
  unfold crcScanDone
  rw [if_neg (by simp [hbusy]; omega)]
  exact if_pos hsome

end ScanEnds

/-! ### Settings (R451, R475) -/

section Settings
variable {c : Core} {r : Req}

/-- The settings of MEM_CONFIG_SET in their registers and, for the next start, in the configuration store. -/
def Core.memConfigured (c : Core) (grain hours : Nat) : Core :=
  (({ c with cfg := { c.cfg with grain := grain } }.setF F.MEMC_MAP_GRAIN_NEXT grain).setF F.MEMC_SCRUB_HOURS hours).storeReg
    R.MEMC_SCRUB (withBits (regReset R.MEMC_SCRUB) 7 0 hours)

/-- The same of FLASH_CONFIG_SET. -/
def Core.flashConfigured (c : Core) (scrub age : Word) : Core :=
  (((c.put R.FLASH_SCRUB scrub).put R.FLASH_AGE_LIMIT age).storeReg R.FLASH_SCRUB scrub).storeReg R.FLASH_AGE_LIMIT age

theorem memConfigBody_ok (hgrain : 8 ≤ r.n 0 ∧ r.n 0 ≤ 16) (hhours : 1 ≤ r.n 1 ∧ r.n 1 ≤ 168)
    (hwarn : c.flag F.SYS_STATUS_VIN_WARN = false) : memConfigBody c r = ans (c.memConfigured (r.n 0) (r.n 1)) .ok := by
  unfold memConfigBody
  rw [if_neg (by simp [inRange, hgrain, hhours]), if_neg (by simp [hwarn])]
  rfl

theorem flashConfigBody_ok (hres : bitsOf (r.w 0) 31 24 = 0) (htlc : 1 ≤ bitsOf (r.w 0) 7 0 ∧ bitsOf (r.w 0) 7 0 ≤ 90)
    (hpslc : 1 ≤ bitsOf (r.w 0) 15 8 ∧ bitsOf (r.w 0) 15 8 ≤ 180)
    (hthresh : 8 ≤ bitsOf (r.w 0) 23 16 ∧ bitsOf (r.w 0) 23 16 ≤ 72)
    (hwarn : c.flag F.SYS_STATUS_VIN_WARN = false) : flashConfigBody c r = ans (c.flashConfigured (r.w 0) (r.w 1)) .ok := by
  unfold flashConfigBody
  dsimp only
  rw [if_neg (by simp [hres]), if_neg (by simp [inRange, htlc, hpslc, hthresh]), if_neg (by simp [hwarn])]
  rfl

theorem flashUnitBody_in_range (hcount : 1 ≤ r.n 1 ∧ r.n 1 ≤ 512) (hunits : r.n 0 + r.n 1 ≤ flashUnits) :
    flashUnitBody c r = okW c ((List.range (r.n 1)).flatMap fun i =>
      [(c.get (R.FLASH_EU_A (r.n 0 + i))).toNat, (c.get (R.FLASH_EU_B (r.n 0 + i))).toNat]) := by
  have hrange : inRange 1 512 (r.n 1) = true := by simpa [inRange] using hcount
  unfold flashUnitBody
  exact if_neg (by simp [hrange]; omega)

theorem Core.storeReg_f (c : Core) (off : Nat) (w : Word) (x : Field) : (c.storeReg off w).f x = c.f x := (rfl)
theorem Core.storeReg_get (c : Core) (off off' : Nat) (w : Word) : (c.storeReg off w).get off' = c.get off' := (rfl)
theorem Core.storeReg_host (c : Core) (off : Nat) (w : Word) : (c.storeReg off w).host = c.host := (rfl)
theorem Core.storeReg_atl (c : Core) (off : Nat) (w : Word) : (c.storeReg off w).atl = c.atl := (rfl)
theorem Core.storeReg_grain (c : Core) (off : Nat) (w : Word) : (c.storeReg off w).cfg.grain = c.cfg.grain := (rfl)

theorem Core.memConfigured_shows (c : Core) {grain hours : Nat} (hg : grain ≤ 16) (hh : hours ≤ 168) :
    (c.memConfigured grain hours).cfg.grain = grain ∧
      (c.memConfigured grain hours).f F.MEMC_MAP_GRAIN_NEXT = grain ∧
      (c.memConfigured grain hours).f F.MEMC_SCRUB_HOURS = hours ∧
      (c.memConfigured grain hours).f F.MEMC_MAP_GRAIN = c.f F.MEMC_MAP_GRAIN := by
  have hcfg : ∀ (x : ConfigStore) (y : Field), ({ c with cfg := x } : Core).f y = c.f y := fun _ _ => rfl
  have hgrain : grain % 2 ^ (12 - 8 + 1) = grain := Nat.mod_eq_of_lt (by omega)
  have hhours : hours % 2 ^ (7 - 0 + 1) = hours := Nat.mod_eq_of_lt (by omega)
  simp (disch := decide) only [Core.memConfigured, Core.storeReg_grain, Core.storeReg_f, Core.setF_cfg, F.MEMC_MAP_GRAIN_NEXT,
    F.MEMC_SCRUB_HOURS, F.MEMC_MAP_GRAIN, Core.f_setF_off, Core.f_setF_beside, Core.f_setF_field, hcfg, hgrain, hhours, and_self]

theorem Core.flashConfigured_shows (c : Core) (scrub age : Word) :
    (c.flashConfigured scrub age).get R.FLASH_SCRUB = scrub ∧ (c.flashConfigured scrub age).get R.FLASH_AGE_LIMIT = age ∧
      smGet regReset (c.flashConfigured scrub age).cfg.regs R.FLASH_SCRUB = scrub := by
  refine ⟨?_, ?_, ?_⟩
  · rw [Core.flashConfigured, Core.storeReg_get, Core.storeReg_get, Core.get_put_ne _ _ (by decide), Core.get_put_same]
  · rw [Core.flashConfigured, Core.storeReg_get, Core.storeReg_get, Core.get_put_same]
  · exact (smGet_smSet_ne _ _ _ (by decide)).trans (smGet_smSet_same _ _ _ _)

/-- Settings change neither the host interface nor the trace. -/
theorem Core.memConfigured_keeps (c : Core) (grain hours : Nat) :
    (c.memConfigured grain hours).host = c.host ∧ (c.memConfigured grain hours).atl = c.atl := by
  simp only [Core.memConfigured, Core.storeReg_host, Core.storeReg_atl, Core.setF_host, Core.setF_atl, and_self]

theorem Core.flashConfigured_keeps (c : Core) (scrub age : Word) :
    (c.flashConfigured scrub age).host = c.host ∧ (c.flashConfigured scrub age).atl = c.atl := by
  simp only [Core.flashConfigured, Core.storeReg_host, Core.storeReg_atl, Core.put_host, Core.put_atl, and_self]

end Settings

/-- Settles O44: each command reduces to the state its channel or its settings then show, and neither the notice nor the rest of an
answer changes a register of the scan engine's block. -/
theorem checkScansAndSettingsComplete : Obligations.CheckScansAndSettingsComplete := by
  unfold Obligations.CheckScansAndSettingsComplete
  refine ⟨?scan, ?go, ?badRange, ?ends, ?stops, ?memory, ?flash, ?units⟩
  case scan =>
    intro s p c r hadmits hq hp hidle hrange
    have ⟨hchan, hpoly, _, hhigh⟩ := hp
    have hk : r.n 0 ≤ 3 := by omega
    obtain ⟨hhost, hatl⟩ := c.crcScanning_keeps r
    obtain ⟨hbusy, haddr, hlen, hshown, htok⟩ := c.crcScanning_shows hpoly hhigh
    refine completes_of_answer rfl hadmits hq (by decide) (crcScanBody_starts hp hidle hrange) (congrArg HostPart.sessions hhost)
      hatl fun htold => ?_
    have hblock := settled_crcBlock opCrcScan p (c.crcScanning r, .accepted, [])
    have hctrl : window (R.CRC_CH_CTRL (r.n 0)) = 8 := window_crcChannel hk (by decide)
    exact ⟨htold, (hblock.flag hctrl).trans (Core.flag_of_one hbusy), (hblock.crcAddr hk).trans haddr, (hblock.crcLen hk).trans hlen,
      (hblock.f hctrl).trans hshown, (congrArg (fun x : CrcPart => smGet _ x.tok (r.n 0)) (Core.settled_crc _ p _)).trans htok⟩
  case go =>
    intro s m k a n v c hs hq hk hhost hgo hidle ⟨ha, hn⟩ hrange
    obtain ⟨haddr, hlen⟩ := s.core.written_crcRange m k (2 ^ 31) v
    have hstart := (crcScanGo_served hs hk hhost hgo hidle).trans
      (crcGo_in_range (by rw [haddr, hlen, ← ha, ← hn]; exact hrange))
    obtain ⟨hbusy, -⟩ := Core.crcStarted_ctrl (s.core.written ⟨m, R.CRC_CH_CTRL k, v⟩ (2 ^ 31)) k
    obtain ⟨haddr', hlen'⟩ := Core.crcStarted_range (s.core.written ⟨m, R.CRC_CH_CTRL k, v⟩ (2 ^ 31)) k
    obtain ⟨-, hatl⟩ := Core.crcStarted_keeps (s.core.written ⟨m, R.CRC_CH_CTRL k, v⟩ (2 ^ 31)) k
    refine completes_of_runCore rfl ?_ ?_
    · rw [hstart, hatl]
      exact State.written_trace hq _ _
    · rw [State.core_of_core, hstart, haddr', hlen', haddr, hlen]
      exact ⟨Core.flag_of_one hbusy, ha.symm, hn.symm⟩
  case badRange =>
    intro s m k a n v c hs hq hk hhost hgo hidle ⟨ha, hn⟩ hend hsram
    obtain ⟨haddr, hlen⟩ := s.core.written_crcRange m k (2 ^ 31) v
    have hbad : ¬scanRange a n := by unfold scanRange; omega
    have herrs := (crcScanGo_served hs hk hhost hgo hidle).trans
      (crcGo_out_of_range (by rw [haddr, hlen, ← ha, ← hn]; exact hbad))
    obtain ⟨hbusy, herr, hcause, -⟩ := (s.core.written ⟨m, R.CRC_CH_CTRL k, v⟩ (2 ^ 31)).crcErr_ctrl k 1 hk
    refine completes_of_runCore rfl ?_ ?_
    · rw [herrs, Core.crcErr_atl]
      exact State.written_trace hq _ _
    · rw [State.core_of_core, herrs]
      exact ⟨Core.flag_of_zero hbusy, Core.flag_of_one herr, hcause⟩
  case ends =>
    intro s k a n poly seed hq hk hbusy ⟨ha, hn⟩ hpoly hseed hclean hgood
    subst ha hn hpoly hseed
    have hnone : s.core.memc.ecc.filter (s.core.crcBad k) = [] := by
      refine List.filter_eq_nil_iff.mpr fun x hx => ?_
      have hx2 : x.2 ≠ 2 := of_decide_eq_true (List.all_eq_true.mp hgood x hx)
      simp [Core.crcBad, hx2]
    obtain ⟨d, x, hatl, hx, e⟩ := crcScanDone_ends hk hbusy s.mem hclean hnone
    subst hx
    obtain ⟨hidle, hdone, hint⟩ := d.crcEnded_ctrl k (s.core.crcValue k s.mem) hk
    have hblock := notice?_crcBlock (d.crcEnded k (s.core.crcValue k s.mem)) (smGet (fun _ => none) s.core.crc.tok k) .ok
      ((d.crcEnded k (s.core.crcValue k s.mem)).crcWords k .ok)
    have hctrl : window (R.CRC_CH_CTRL k) = 8 := window_crcChannel hk (by decide)
    refine completes_of_runMem rfl ?_ ?_
    · rw [e, Core.notice?_atl, Core.crcEnded_atl, hatl]
      exact State.trace_of_quiet hq
    · simp only [e]
      exact ⟨(hblock.flag hctrl).trans (Core.flag_of_zero hidle), (hblock.flag hctrl).trans (Core.flag_of_one hdone),
        (hblock.crcResult hk).trans (d.crcEnded_result k (crcOf_lt _ _ _)),
        (hblock.flag (by decide : window R.CRC_INT_STATUS = 8)).trans (Core.flag_of_one hint), trivial⟩
  case stops =>
    intro s k a n hq hk hbusy ⟨ha, hn⟩ hbad
    subst ha hn
    obtain ⟨d, x, hatl, hx, e⟩ := crcScanDone_stops hk hbusy s.mem hbad
    subst hx
    obtain ⟨hidle, herr, hcause, hint⟩ := d.crcErr_ctrl k 2 hk
    have hblock := notice?_crcBlock (d.crcErr k 2) (smGet (fun _ => none) s.core.crc.tok k) .faulted
      ((d.crcErr k 2).crcWords k .faulted)
    have hctrl : window (R.CRC_CH_CTRL k) = 8 := window_crcChannel hk (by decide)
    refine completes_of_runMem rfl ?_ ?_
    · rw [e, Core.notice?_atl, Core.crcErr_atl, hatl]
      exact State.trace_of_quiet hq
    · simp only [e]
      exact ⟨(hblock.flag hctrl).trans (Core.flag_of_zero hidle), (hblock.flag hctrl).trans (Core.flag_of_one herr),
        (hblock.f hctrl).trans hcause, (hblock.flag (by decide : window R.CRC_INT_STATUS = 8)).trans (Core.flag_of_one hint), trivial⟩
  case memory =>
    intro s p c r hadmits hq ⟨hgrain, hgrain16⟩ ⟨hhours, hhours168⟩ hwarn
    obtain ⟨hhost, hatl⟩ := c.memConfigured_keeps (r.n 0) (r.n 1)
    obtain ⟨hcfg, hnext, hscrub, hnow⟩ := c.memConfigured_shows hgrain16 hhours168
    refine completes_of_answer rfl hadmits hq (by decide)
      (memConfigBody_ok ⟨hgrain, hgrain16⟩ ⟨hhours, hhours168⟩ hwarn) (congrArg HostPart.sessions hhost) hatl fun htold => ?_
    have hget : ∀ off, window off = 6 → _ := fun off ho =>
      Core.get_settled_away (o := opMemConfig) (p := p) (a := (c.memConfigured (r.n 0) (r.n 1), .ok, [])) (off := off) (by omega)
        (by omega)
    exact ⟨htold, (congrArg ConfigStore.grain (Core.settled_cfg _ p _)).trans hcfg, (Core.f_congr (hget _ (by decide))).trans hnext,
      (Core.f_congr (hget _ (by decide))).trans hscrub, (Core.f_congr (hget _ (by decide))).trans hnow⟩
  case flash =>
    intro s p c r hadmits hq hres htlc hpslc hthresh hwarn
    obtain ⟨hhost, hatl⟩ := c.flashConfigured_keeps (r.w 0) (r.w 1)
    obtain ⟨hscrub, hage, hstored⟩ := c.flashConfigured_shows (r.w 0) (r.w 1)
    refine completes_of_answer rfl hadmits hq (by decide) (flashConfigBody_ok hres htlc hpslc hthresh hwarn)
      (congrArg HostPart.sessions hhost) hatl fun htold => ?_
    exact ⟨htold, (Core.get_settled_away (by decide) (by decide)).trans hscrub,
      (Core.get_settled_away (by decide) (by decide)).trans hage,
      (congrArg (fun x : ConfigStore => smGet regReset x.regs R.FLASH_SCRUB) (Core.settled_cfg _ p _)).trans hstored⟩
  case units =>
    intro s p c r hadmits hq hcount hunits
    exact completes_of_answer rfl hadmits hq (by decide) (flashUnitBody_in_range hcount hunits) rfl rfl id

end Sys2Proof.Machine
end

section
/-! The operations of firmware delivery (R500 to R508): what its messages leave alone, what its registers show of slots, session
and schedule, and what receptions, peers and activations make of them. -/

namespace Sys2Proof.Machine
open Sys2Proof

/-! ### Where firmware delivery stands -/

/-- Two states have the same firmware delivery: the same state of it and the same registers in its block. -/
structure SameDelivery (c d : Core) : Prop where
  update : c.update = d.update
  get : ∀ {off : Nat}, window off = 0x19 → c.get off = d.get off

namespace SameDelivery
variable {c d e : Core}

theorem refl (c : Core) : SameDelivery c c := ⟨rfl, fun _ => rfl⟩

theorem trans (h : SameDelivery c d) (h' : SameDelivery d e) : SameDelivery c e :=
  ⟨h.update.trans h'.update, fun ho => (h.get ho).trans (h'.get ho)⟩

variable (h : SameDelivery c d)
include h

theorem upSlot (k : Nat) : c.upSlot k = d.upSlot k := by
  unfold Core.upSlot
  rw [h.update]

theorem f {x : Field} (hx : window x.off = 0x19) : c.f x = d.f x := Core.f_congr (h.get hx)

theorem flag {x : Field} (hx : window x.off = 0x19) : c.flag x = d.flag x := Core.flag_congr (h.get hx)

theorem get64 {lo hi : Nat} (hlo : window lo = 0x19) (hhi : window hi = 0x19) : c.get64 lo hi = d.get64 lo hi := by
  unfold Core.get64
  rw [h.get hlo, h.get hhi]

end SameDelivery

/-- What the opcodes of firmware delivery leave alone so that their answer is told: the sessions and Atelier. -/
def Core.bystanders (c : Core) : List Session × AtelierPart := (c.host.sessions, c.atl)

theorem bystanders_of {c d : Core} (hsessions : c.host.sessions = d.host.sessions) (hatl : c.atl = d.atl) :
    c.bystanders = d.bystanders := Prod.ext hsessions hatl

theorem Core.setF_bystanders (c : Core) (x : Field) (v : Nat) : (c.setF x v).bystanders = c.bystanders := (rfl)

theorem Core.raise_bystanders (c : Core) (x : Field) : (c.raise x).bystanders = c.bystanders :=
  bystanders_of (c.raise_sessions x) (c.raise_atl x)

/-! ### Messages: replies, notices and the datagrams of the chain (R503) -/

theorem settled_delivery (o : Opc) (p : Packet) (a : Answer) : SameDelivery (Core.settled o p a) a.1 :=
  ⟨Core.settled_update o p a, fun ho => Core.get_settled_away (by omega) (by omega)⟩

theorem Core.notice?_delivery (c : Core) (t : Option Tok) (st : Status) (l : List Byte) : SameDelivery (c.notice? t st l) c := by
  refine ⟨c.notice?_update t st l, fun ho => ?_⟩
  cases t with
  | none => rfl
  | some t => exact c.get_notice_away (by omega) (by omega)

theorem Core.notice?_bystanders (c : Core) (t : Option Tok) (st : Status) (l : List Byte) :
    (c.notice? t st l).bystanders = c.bystanders := by
  refine bystanders_of ?_ (c.notice?_atl t st l)
  cases t with
  | none => rfl
  | some t => exact c.notice_sessions t st l

section Datagram
variable (c : Core) (dest kind xfer offset st : Nat) (digest data : List Byte)

theorem Core.upSend_delivery : SameDelivery (c.upSend dest kind xfer offset st digest data) c :=
  ⟨(congrArg Core.update (c.queueFrame_still 3 _) :), fun ho => c.get_queueFrame_away rfl (by omega)⟩

theorem Core.upSend_bystanders : (c.upSend dest kind xfer offset st digest data).bystanders = c.bystanders :=
  bystanders_of (c.queueFrame_sessions 3 _) (congrArg Core.atl (c.queueFrame_still 3 _) :)

end Datagram

theorem Core.propagate_delivery (c : Core) (kind st : Nat) (digest : List Byte) (t : Nat) :
    SameDelivery (c.propagate kind st digest t) c := by
  unfold Core.propagate
  refine ⟨foldl_keeps Core.update _ (fun d n => ?_) _ c, fun {off} ho => foldl_keeps (Core.get · off) _ (fun d n => ?_) _ c⟩
  · split
    · exact (d.upSend_delivery ..).update
    · rfl
  · split
    · exact (d.upSend_delivery ..).get ho
    · rfl

theorem Core.propagate_bystanders (c : Core) (kind st : Nat) (digest : List Byte) (t : Nat) :
    (c.propagate kind st digest t).bystanders = c.bystanders := by
  unfold Core.propagate
  refine foldl_keeps Core.bystanders _ (fun d n => ?_) _ c
  split
  · exact d.upSend_bystanders ..
  · rfl

/-! ### What the registers show (R501 to R508) -/

/-- A register whose field is not the one written keeps its value. -/
theorem Core.get_setF_off (c : Core) {o hi lo off : Nat} (v : Nat) (h : off ≠ o) : (c.setF ⟨o, hi, lo⟩ v).get off = c.get off :=
  c.get_setF_ne v h

/-- The part of `Core.upShow` that shows one slot. -/
def Core.showSlot (c : Core) (k : Nat) : Core :=
  let x := c.upSlot k
  let c := (c.setF (F.UPDATE_SLOT_STATE_STATE k) x.state).setB (F.UPDATE_SLOT_STATE_SOURCE k) (x.state ≠ 0 && x.session.isNone)
  let c := (c.put (R.UPDATE_SLOT_RECEIVED k) (.ofNat 32 x.data.length)).put (R.UPDATE_SLOT_LENGTH k) (.ofNat 32 x.length)
  (c.put (R.UPDATE_SLOT_PREFIX_LO k) (.ofNat 32 (digestWord x.digest 0))).put (R.UPDATE_SLOT_PREFIX_HI k)
    (.ofNat 32 (digestWord x.digest 1))

/-- The part of it that shows UPDATE_STATUS, the winner's digest and the previous image. -/
def Core.showSession (c : Core) : Core :=
  let c := c.setF F.UPDATE_STATUS_STATE c.upState
  let c := c.setF F.UPDATE_STATUS_WINNER_SLOT (c.update.winner.elim 0 (·.1))
  let c := c.setB F.UPDATE_STATUS_BRUSH_PENDING (!c.update.pending.isEmpty)
  let d := c.update.winner.elim [] (·.2.digest)
  let c := (List.range 8).foldl (fun (c : Core) w => c.put (R.UPDATE_DIGEST w) (.ofNat 32 (digestWord d w))) c
  c.put R.UPDATE_PREV_VERSION (.ofNat 32 (c.update.prev.elim 0 (·.2.version)))

/-- The part of it that shows the time of an activation. -/
def Core.showActTime (c : Core) (t : Nat) : Core :=
  (c.put64 R.UPDATE_ACT_SEC_LO R.UPDATE_ACT_SEC_HI (t / 10 ^ 9)).put R.UPDATE_ACT_NS (.ofNat 32 (t % 10 ^ 9))

theorem Core.upShow_eq (c : Core) :
    c.upShow = ((c.showSession.showActTime ((c.update.sched.bind (·.t)).getD 0)).showSlot 0).showSlot 1 := rfl

theorem Core.upShow_update (c : Core) : c.upShow.update = c.update := (rfl)

theorem Core.upShow_bystanders (c : Core) : c.upShow.bystanders = c.bystanders := (rfl)

theorem Core.upShow_upSlot (c : Core) (k : Nat) : c.upShow.upSlot k = c.upSlot k := by
  unfold Core.upSlot
  rw [Core.upShow_update]

/-- A slot is shown in its own five registers. -/
theorem Core.get_showSlot (c : Core) {k off : Nat} (h : off < R.UPDATE_SLOT_STATE k ∨ R.UPDATE_SLOT_PREFIX_HI k < off) :
    (c.showSlot k).get off = c.get off := by
  simp only [R.UPDATE_SLOT_STATE, R.UPDATE_SLOT_PREFIX_HI] at h
  simp (disch := omega) only [Core.showSlot, Core.setB, F.UPDATE_SLOT_STATE_STATE, F.UPDATE_SLOT_STATE_SOURCE,
    R.UPDATE_SLOT_STATE, R.UPDATE_SLOT_RECEIVED, R.UPDATE_SLOT_LENGTH, R.UPDATE_SLOT_PREFIX_LO, R.UPDATE_SLOT_PREFIX_HI,
    Core.get_put_ne, Core.get_setF_off]

theorem Core.showSlot_state (c : Core) (k : Nat) :
    (c.showSlot k).f (F.UPDATE_SLOT_STATE_STATE k) = (c.upSlot k).state % 4 := by
  have hfield : ∀ v, v % 2 ^ (1 - 0 + 1) = v % 4 := fun _ => rfl
  simp (disch := omega) only [Core.showSlot, Core.setB, F.UPDATE_SLOT_STATE_STATE, F.UPDATE_SLOT_STATE_SOURCE,
    R.UPDATE_SLOT_STATE, R.UPDATE_SLOT_RECEIVED, R.UPDATE_SLOT_LENGTH, R.UPDATE_SLOT_PREFIX_LO, R.UPDATE_SLOT_PREFIX_HI,
    Core.f_put_off, Core.f_setF_beside, Core.f_setF_field, hfield]

theorem Core.showSlot_length (c : Core) (k : Nat) :
    (c.showSlot k).get (R.UPDATE_SLOT_LENGTH k) = .ofNat 32 (c.upSlot k).length := by
  simp (disch := omega) only [Core.showSlot, R.UPDATE_SLOT_LENGTH, R.UPDATE_SLOT_PREFIX_LO, R.UPDATE_SLOT_PREFIX_HI,
    Core.get_put_ne, Core.get_put_same]

/-- What is shown of a slot is what the slot holds. -/
theorem Core.upShow_slot (c : Core) {k : Nat} (hk : k < 2) :
    c.upShow.f (F.UPDATE_SLOT_STATE_STATE k) = (c.upSlot k).state % 4 ∧
      c.upShow.f (F.UPDATE_SLOT_LENGTH_BYTES k) = (c.upSlot k).length % 2 ^ 32 := by
  have hlast : ∀ d : Core, (d.showSlot k).f (F.UPDATE_SLOT_STATE_STATE k) = (d.upSlot k).state % 4 ∧
      (d.showSlot k).f (F.UPDATE_SLOT_LENGTH_BYTES k) = (d.upSlot k).length % 2 ^ 32 := by
    refine fun d => ⟨d.showSlot_state k, (congrArg (bitsOf · 31 0) (d.showSlot_length k)).trans ?_⟩
    rw [bitsOf_word, BitVec.toNat_ofNat]
  rw [Core.upShow_eq]
  obtain rfl | rfl : k = 0 ∨ k = 1 := by omega
  · obtain ⟨hstate, hlength⟩ := hlast (c.showSession.showActTime ((c.update.sched.bind (·.t)).getD 0))
    exact ⟨(Core.f_congr (Core.get_showSlot _ (.inl (by decide)))).trans hstate,
      (Core.f_congr (Core.get_showSlot _ (.inl (by decide)))).trans hlength⟩
  · exact hlast _

/-- Below and above the slots nothing but the session and the time of an activation is shown. -/
theorem Core.get_upShow_beside_slots (c : Core) {off : Nat} (h : off < R.UPDATE_SLOT_STATE 0 ∨ R.UPDATE_SLOT_PREFIX_HI 1 < off) :
    c.upShow.get off = (c.showSession.showActTime ((c.update.sched.bind (·.t)).getD 0)).get off := by
  simp only [R.UPDATE_SLOT_STATE, R.UPDATE_SLOT_PREFIX_HI] at h
  rw [Core.upShow_eq, Core.get_showSlot, Core.get_showSlot]
  all_goals simp only [R.UPDATE_SLOT_STATE, R.UPDATE_SLOT_PREFIX_HI]; omega

theorem Core.get_showActTime (c : Core) (t : Nat) {off : Nat} (h : off < R.UPDATE_ACT_SEC_LO) :
    (c.showActTime t).get off = c.get off := by
  simp only [R.UPDATE_ACT_SEC_LO] at h
  simp (disch := omega) only [Core.showActTime, Core.put64, R.UPDATE_ACT_SEC_LO, R.UPDATE_ACT_SEC_HI,
    R.UPDATE_ACT_NS, Core.get_put_ne]

theorem Core.get_foldl_digest (c : Core) (v : Nat → Word) {off : Nat} (h : off < R.UPDATE_DIGEST 0) (l : List Nat) :
    (l.foldl (fun (c : Core) w => c.put (R.UPDATE_DIGEST w) (v w)) c).get off = c.get off := by
  simp only [R.UPDATE_DIGEST] at h
  exact foldl_keeps (Core.get · off) _ (fun d w => d.get_put_ne _ (by simp only [R.UPDATE_DIGEST]; omega)) l c

/-- The settings of the chain, the peers and the interrupts are none of what is shown. -/
theorem Core.get_upShow_settings (c : Core) {off : Nat} (h : R.UPDATE_INT_STATUS ≤ off ∧ off ≤ R.UPDATE_PEER_STATE) :
    c.upShow.get off = c.get off := by
  simp only [R.UPDATE_INT_STATUS, R.UPDATE_PEER_STATE] at h
  rw [Core.get_upShow_beside_slots _ (.inl (by simp only [R.UPDATE_SLOT_STATE]; omega)),
    Core.get_showActTime _ _ (by simp only [R.UPDATE_ACT_SEC_LO]; omega), Core.showSession,
    Core.get_put_ne _ _ (by simp only [R.UPDATE_PREV_VERSION]; omega),
    Core.get_foldl_digest _ _ (by simp only [R.UPDATE_DIGEST]; omega)]
  simp (disch := omega) only [Core.setB, F.UPDATE_STATUS_STATE, F.UPDATE_STATUS_WINNER_SLOT, F.UPDATE_STATUS_BRUSH_PENDING,
    R.UPDATE_STATUS, Core.get_setF_off]

theorem Core.upShow_status (c : Core) : c.upShow.f F.UPDATE_STATUS_STATE = c.upState % 8 := by
  have hfield : c.upState % 2 ^ (2 - 0 + 1) = c.upState % 8 := rfl
  have hget : c.upShow.get R.UPDATE_STATUS = c.showSession.get R.UPDATE_STATUS :=
    (c.get_upShow_beside_slots (.inl (by decide))).trans (Core.get_showActTime _ _ (by decide))
  refine (Core.f_congr (hget.trans ((Core.get_put_ne _ _ (by decide)).trans (Core.get_foldl_digest _ _ (by decide) _)))).trans ?_
  simp (disch := omega) only [Core.setB, F.UPDATE_STATUS_STATE, F.UPDATE_STATUS_WINNER_SLOT, F.UPDATE_STATUS_BRUSH_PENDING,
    Core.f_setF_beside, Core.f_setF_field, hfield]

/-- The time of a scheduled activation is shown in seconds and nanoseconds. -/
theorem Core.upShow_actTime (c : Core) {t : Nat} (ht : (c.update.sched.bind (·.t)).getD 0 = t) (hfits : t / 10 ^ 9 < 2 ^ 64) :
    c.upShow.get64 R.UPDATE_ACT_SEC_LO R.UPDATE_ACT_SEC_HI = t / 10 ^ 9 ∧
      c.upShow.get R.UPDATE_ACT_NS = .ofNat 32 (t % 10 ^ 9) := by
  have hget : ∀ off, R.UPDATE_SLOT_PREFIX_HI 1 < off → c.upShow.get off = (c.showSession.showActTime t).get off :=
    fun off h => ht ▸ c.get_upShow_beside_slots (.inr h)
  refine ⟨?_, (hget _ (by decide)).trans (Core.get_put_same _ _ _)⟩
  refine Eq.trans ?_ (c.showSession.get64_put64 (by decide : R.UPDATE_ACT_SEC_LO ≠ R.UPDATE_ACT_SEC_HI) hfits)
  unfold Core.get64
  rw [hget _ (by decide), hget _ (by decide), Core.showActTime, Core.get_put_ne _ _ (by decide), Core.get_put_ne _ _ (by decide)]

/-! ### Receptions (R500, R501, R504) -/

theorem Core.setUpSlot_upSlot (c : Core) (k : Nat) (x : UpSlot) : (c.setUpSlot k x).upSlot k = x :=
  (Core.upShow_upSlot _ k).trans (smGet_smSet_same _ _ _ _)

theorem Core.setUpSlot_update (c : Core) (k : Nat) (x : UpSlot) :
    (c.setUpSlot k x).update = { c.update with slots := smSet (fun _ => {}) c.update.slots k x } := Core.upShow_update _

theorem Core.setUpSlot_bystanders (c : Core) (k : Nat) (x : UpSlot) : (c.setUpSlot k x).bystanders = c.bystanders :=
  Core.upShow_bystanders _

theorem Core.setF_upSlot (c : Core) (x : Field) (v k : Nat) : (c.setF x v).upSlot k = c.upSlot k := (rfl)

/-- A slot that changes is shown as it is then. -/
theorem Core.setUpSlot_shown (c : Core) {k : Nat} (x : UpSlot) (hk : k < 2) :
    (c.setUpSlot k x).f (F.UPDATE_SLOT_STATE_STATE k) = x.state % 4 ∧
      (c.setUpSlot k x).f (F.UPDATE_SLOT_LENGTH_BYTES k) = x.length % 2 ^ 32 := by
  have h := Core.upShow_slot { c with update := { c.update with slots := smSet (fun _ => {}) c.update.slots k x } } hk
  rwa [← Core.upShow_upSlot, show Core.upSlot (Core.upShow _) k = x from c.setUpSlot_upSlot k x] at h

theorem Core.newUpSlot_lt {c : Core} {k : Nat} (h : c.newUpSlot = some k) : k < 2 := by
  have hfree : ∀ {j}, j ∈ (List.range 2).filter (fun k => (c.upSlot k).state = 0) → j < 2 :=
    fun hj => List.mem_range.mp (List.mem_filter.mp hj).1
  unfold Core.newUpSlot at h
  dsimp only at h
  split at h
  · next hfind => exact Option.some.inj h ▸ hfree (List.mem_of_find?_eq_some hfind)
  · exact hfree (List.mem_of_mem_head? h)

/-- The slot into which a session receives is in state 1. -/
theorem Core.openSlot_state {c : Core} {session k : Nat} (h : c.openSlot session = some k) : (c.upSlot k).state = 1 := by
  have hprop := List.find?_some h
  simp only [Bool.and_eq_true, decide_eq_true_eq] at hprop
  exact hprop.1

theorem Core.receive_bystanders (c : Core) (k : Nat) (x : UpSlot) : (c.receive k x).bystanders = c.bystanders := by
  unfold Core.receive
  split <;> exact Core.setUpSlot_bystanders _ _ _

theorem Core.receive_shown (c : Core) {k : Nat} (x : UpSlot) (hk : k < 2) :
    (c.receive k x).upSlot k = { x with state := 1, at_ := c.time.cycles } ∧
      (c.receive k x).f (F.UPDATE_SLOT_STATE_STATE k) = 1 ∧
      (c.receive k x).f (F.UPDATE_SLOT_LENGTH_BYTES k) = x.length % 2 ^ 32 := by
  unfold Core.receive
  dsimp only
  split <;> exact ⟨Core.setUpSlot_upSlot _ _ _, Core.setUpSlot_shown _ _ hk⟩

theorem Core.complete_upSlot (c : Core) (k : Nat) :
    (c.complete k).upSlot k = { c.upSlot k with state := 2, order := c.update.order + 1 } := Core.setUpSlot_upSlot _ _ _

theorem Core.complete_bystanders (c : Core) (k : Nat) : (c.complete k).bystanders = c.bystanders :=
  Core.setUpSlot_bystanders _ _ _

theorem Core.freeUpSlot_upSlot (c : Core) (k cause : Nat) : (c.freeUpSlot k cause).upSlot k = {} :=
  (Core.setF_upSlot _ _ _ _).trans (c.setUpSlot_upSlot k {})

theorem Core.freeUpSlot_bystanders (c : Core) (k cause : Nat) : (c.freeUpSlot k cause).bystanders = c.bystanders :=
  (Core.setF_bystanders _ _ _).trans (c.setUpSlot_bystanders k {})

theorem Core.freeUpSlot_state (c : Core) {k : Nat} (cause : Nat) (hk : k < 2) :
    (c.freeUpSlot k cause).f (F.UPDATE_SLOT_STATE_STATE k) = 0 := by
  obtain ⟨hstate, -⟩ := c.setUpSlot_shown {} hk
  exact (Core.f_setF_beside _ _ (by decide) (by decide) (by decide) (by decide)).trans hstate

section EndSlot
variable (c : Core) (k cause : Nat) (st : Status) (answer : Bool)

/-- A reception that ends frees its slot; whoever waits for it is told. -/
theorem Core.endSlot_delivery (h : (c.upSlot k).state = 1 ∨ (c.upSlot k).state = 2) :
    SameDelivery (c.endSlot k cause st answer) (c.freeUpSlot k cause) := by
  unfold Core.endSlot
  dsimp only
  rw [if_neg (by omega)]
  have htold := (c.freeUpSlot k cause).notice?_delivery (c.upSlot k).tok st (natBytes [cause, k])
  repeat' split
  · exact (Core.upSend_delivery ..).trans htold
  · exact (Core.upSend_delivery ..).trans htold
  · exact htold

theorem Core.endSlot_bystanders : (c.endSlot k cause st answer).bystanders = c.bystanders := by
  have htold := ((c.freeUpSlot k cause).notice?_bystanders (c.upSlot k).tok st (natBytes [cause, k])).trans
    (c.freeUpSlot_bystanders k cause)
  unfold Core.endSlot
  dsimp only
  repeat' split
  · rfl
  · exact (Core.upSend_bystanders ..).trans htold
  · exact (Core.upSend_bystanders ..).trans htold
  · exact htold

end EndSlot

/-! ### Peers and the session (R502, R503, R505) -/

/-- What the step of one element makes true, and the steps of the others keep, holds after a fold. -/
theorem foldl_of_mem {α β : Type} {f : α → β → α} {Q : α → Prop} {l : List β} {b : β} (hb : b ∈ l) (hmake : ∀ a, Q (f a b))
    (hkeep : ∀ a, ∀ x ∈ l, Q a → Q (f a x)) (a : α) : Q (l.foldl f a) := by
  obtain ⟨s, t, rfl⟩ := List.append_of_mem hb
  rw [List.foldl_append, List.foldl_cons]
  exact List.foldlRecOn t f (hmake _) fun a ha x hx => hkeep a x (by simp [hx]) ha

section PeerGo
variable (c : Core) (n st : Nat)

theorem Core.peerGo_update : (c.peerGo n st).update = c.update := by
  unfold Core.peerGo
  split
  · rfl
  · exact Core.raise_update _ _

theorem Core.peerGo_bystanders : (c.peerGo n st).bystanders = c.bystanders := by
  unfold Core.peerGo
  split
  · rfl
  · exact Core.raise_bystanders _ _

theorem Core.get_peerGo {off : Nat} (hstate : off ≠ R.UPDATE_PEER_STATE) (hint : off ≠ R.UPDATE_INT_STATUS) :
    (c.peerGo n st).get off = c.get off := by
  unfold Core.peerGo
  split
  · rfl
  · exact (Core.get_raise_ne _ hint).trans (c.get_setF_ne _ hstate)

/-- An interrupt of the block changes no peer's state. -/
theorem Core.peerState_raise (m : Nat) : (c.raise F.UPDATE_INT_STATUS_PEER_CHANGE).peerState m = c.peerState m :=
  Core.f_congr (c.get_raise_ne (by decide : R.UPDATE_PEER_STATE ≠ R.UPDATE_INT_STATUS))

theorem Core.peerState_peerGo (hn : n < 8) (hst : st < 16) : (c.peerGo n st).peerState n = st := by
  have hset : (c.setF (F.UPDATE_PEER_STATE_PEER n) st).peerState n = st := by
    refine (c.f_setF_field st (by omega) (by omega)).trans (Nat.mod_eq_of_lt ?_)
    rwa [show 4 * n + 3 - 4 * n + 1 = 4 by omega]
  unfold Core.peerGo
  split
  · assumption
  · rw [Core.peerState_raise, hset]

theorem Core.peerState_peerGo_ne {m : Nat} (hn : n < 8) (hm : m ≠ n) : (c.peerGo n st).peerState m = c.peerState m := by
  unfold Core.peerGo
  split
  · rfl
  · rw [Core.peerState_raise]
    exact c.f_setF_beside st (by omega) (by omega) (by omega) (by omega)

end PeerGo

/-- The session ends as far as the winner and the peers go. -/
def Core.sessionLeft (c : Core) : Core :=
  (List.range 4).foldl (fun (c : Core) n => c.peerGo n 0) { c with update := { c.update with winner := none, peers := [] } }

/-- The session ends with the winner's slot, where there is one, free. -/
theorem Core.sessionOver_cases (c : Core) : c.sessionOver = c.sessionLeft.upShow ∨
    ∃ k, c.sessionOver = (c.sessionLeft.setUpSlot k {}).upShow := by
  unfold Core.sessionOver
  cases c.update.winner with
  | none => exact .inl rfl
  | some w => exact .inr ⟨w.1, rfl⟩

theorem Core.sessionLeft_update (c : Core) : c.sessionLeft.update = { c.update with winner := none, peers := [] } :=
  foldl_keeps Core.update _ (fun d n => d.peerGo_update n 0) _ _

theorem Core.sessionOver_bystanders (c : Core) : c.sessionOver.bystanders = c.bystanders := by
  have hleft : c.sessionLeft.bystanders = c.bystanders := foldl_keeps Core.bystanders _ (fun d n => d.peerGo_bystanders n 0) _ _
  obtain e | ⟨k, e⟩ := c.sessionOver_cases <;> rw [e, Core.upShow_bystanders]
  · exact hleft
  · exact (Core.setUpSlot_bystanders _ _ _).trans hleft

/-- After the session there is neither a winner nor a peer that knows of it. -/
theorem Core.sessionOver_update (c : Core) : c.sessionOver.update.winner = none ∧ c.sessionOver.update.peers = [] := by
  have hleft := c.sessionLeft_update
  obtain e | ⟨k, e⟩ := c.sessionOver_cases <;> rw [e, Core.upShow_update]
  · rw [hleft]
    exact ⟨rfl, rfl⟩
  · rw [Core.setUpSlot_update, hleft]
    exact ⟨rfl, rfl⟩

theorem Core.sessionOver_peerState (c : Core) {n : Nat} (hn : n < 4) : c.sessionOver.peerState n = 0 := by
  have hleft : c.sessionLeft.peerState n = 0 := by
    refine foldl_of_mem (Q := fun d : Core => d.peerState n = 0) (List.mem_range.mpr hn)
      (fun d => d.peerState_peerGo n 0 (by omega) (by omega)) (fun d m hm h => ?_) _
    have hm4 : m < 4 := List.mem_range.mp hm
    by_cases e : n = m
    · exact e ▸ d.peerState_peerGo n 0 (by omega) (by omega)
    · exact (d.peerState_peerGo_ne m 0 (by omega) e).trans h
  have hshow : ∀ d : Core, d.upShow.peerState n = d.peerState n := fun d => 
    Core.f_congr (d.get_upShow_settings (off := R.UPDATE_PEER_STATE) (by decide))
  obtain e | ⟨k, e⟩ := c.sessionOver_cases <;> rw [e]
  · rw [hshow, hleft]
  · exact (hshow _).trans ((hshow _).trans hleft)

/-- A downstream peer is set to an address; one that changes starts anew (R503). -/
def Core.takePeer (c : Core) (n : Nat) (a : Word) : Core :=
  if c.get (R.UPDATE_PEER n) = a then c else ((c.put (R.UPDATE_PEER n) a).setPeer n {}).peerGo n 0

section TakePeer
variable (c : Core) (n : Nat) (a : Word)

theorem Core.takePeer_bystanders : (c.takePeer n a).bystanders = c.bystanders := by
  unfold Core.takePeer
  split
  · rfl
  · exact Core.peerGo_bystanders _ _ _

theorem Core.get_takePeer {off : Nat} (hne : off ≠ R.UPDATE_PEER n) (hstate : off ≠ R.UPDATE_PEER_STATE)
    (hint : off ≠ R.UPDATE_INT_STATUS) : (c.takePeer n a).get off = c.get off := by
  unfold Core.takePeer
  split
  · rfl
  · exact (Core.get_peerGo _ n 0 hstate hint).trans (c.get_put_ne a hne)

theorem Core.takePeer_get (hn : n < 4) : (c.takePeer n a).get (R.UPDATE_PEER n) = a := by
  unfold Core.takePeer
  split
  · assumption
  · refine (Core.get_peerGo _ n 0 ?_ ?_).trans (c.get_put_same _ a)
    · simp only [R.UPDATE_PEER, R.UPDATE_PEER_STATE]; omega
    · simp only [R.UPDATE_PEER, R.UPDATE_INT_STATUS]; omega

end TakePeer

/-- The chain as UPDATE_PEERS_SET gives it. -/
def Core.peersTaken (c : Core) (cfg upstream : Word) (a : Nat → Word) : Core :=
  (List.range 4).foldl (fun (c : Core) i => c.takePeer i (a i)) ((c.put R.UPDATE_CFG cfg).put R.UPDATE_UPSTREAM upstream)

section PeersTaken
variable (c : Core) (cfg upstream : Word) (a : Nat → Word)

theorem Core.peersTaken_bystanders : (c.peersTaken cfg upstream a).bystanders = c.bystanders :=
  foldl_keeps Core.bystanders _ (fun d n => d.takePeer_bystanders n (a n)) _ _

theorem Core.get_peersTaken {off : Nat} (h : R.UPDATE_INT_STATUS < off ∧ off < R.UPDATE_PEER 0) :
    (c.peersTaken cfg upstream a).get off = ((c.put R.UPDATE_CFG cfg).put R.UPDATE_UPSTREAM upstream).get off := by
  simp only [R.UPDATE_INT_STATUS, R.UPDATE_PEER] at h
  refine foldl_keeps (Core.get · off) _ (fun d n => d.get_takePeer n (a n) ?_ ?_ ?_) _ _ <;>
    simp only [R.UPDATE_INT_STATUS, R.UPDATE_PEER, R.UPDATE_PEER_STATE] <;> omega

theorem Core.peersTaken_shows : (c.peersTaken cfg upstream a).get R.UPDATE_CFG = cfg ∧
    (c.peersTaken cfg upstream a).get R.UPDATE_UPSTREAM = upstream ∧
    ∀ n < 4, (c.peersTaken cfg upstream a).get (R.UPDATE_PEER n) = a n := by
  refine ⟨?_, ?_, fun n hn => ?_⟩
  · rw [Core.get_peersTaken _ _ _ _ (by decide), Core.get_put_ne _ _ (by decide), Core.get_put_same]
  · rw [Core.get_peersTaken _ _ _ _ (by decide), Core.get_put_same]
  · refine foldl_of_mem (Q := fun d : Core => d.get (R.UPDATE_PEER n) = a n) (List.mem_range.mpr hn)
      (fun d => d.takePeer_get n (a n) hn) (fun d m _ h => ?_) _
    by_cases e : n = m
    · exact e ▸ d.takePeer_get n (a n) hn
    · refine (d.get_takePeer m (a m) ?_ ?_ ?_).trans h <;>
        simp only [R.UPDATE_INT_STATUS, R.UPDATE_PEER, R.UPDATE_PEER_STATE] <;> omega

end PeersTaken

/-- An offer leaves the registers of the block. -/
theorem Core.get_offer (c : Core) (n : Nat) {off : Nat} (h : window off = 0x19) : (c.offer n).get off = c.get off := by
  unfold Core.offer
  repeat' split
  · rfl
  · rfl
  · exact (Core.upSend_delivery ..).get h

theorem Core.offer_bystanders (c : Core) (n : Nat) : (c.offer n).bystanders = c.bystanders := by
  unfold Core.offer
  repeat' split
  · rfl
  · rfl
  · exact Core.upSend_bystanders ..

theorem Core.get_forward (c : Core) {off : Nat} (h : window off = 0x19) : c.forward.get off = c.get off := by
  unfold Core.forward
  split
  · rfl
  · refine foldl_keeps (Core.get · off) _ (fun d n => ?_) _ c
    split
    · rfl
    · exact d.get_offer n h

theorem Core.forward_bystanders (c : Core) : c.forward.bystanders = c.bystanders := by
  unfold Core.forward
  split
  · rfl
  · refine foldl_keeps Core.bystanders _ (fun d n => ?_) _ c
    split
    · rfl
    · exact d.offer_bystanders n

/-! ### Activation (R506) -/

/-- A schedule stands, or none, and is shown. -/
def Core.withSched (c : Core) (s : Option UpSched) : Core := { c with update := { c.update with sched := s } }.upShow

theorem Core.withSched_bystanders (c : Core) (s : Option UpSched) : (c.withSched s).bystanders = c.bystanders :=
  Core.upShow_bystanders _

section Schedule
variable (c : Core) (chain : Bool)

/-- An activation that is scheduled is shown and raises SCHEDULED; the chain is told. -/
theorem Core.schedule_delivery {digest : List Byte} {x : Image × Bool} (h : c.imageNamed digest = some x) (t : Option Nat)
    (tok : Option Tok) : SameDelivery (c.schedule digest t chain tok)
      ((c.withSched (some { image := x.1, back := x.2, t := t, tok := tok })).raise F.UPDATE_INT_STATUS_SCHEDULED) := by
  unfold Core.schedule
  rw [h]
  dsimp only
  split
  · exact Core.propagate_delivery ..
  · exact .refl _

theorem Core.schedule_bystanders (digest : List Byte) (t : Option Nat) (tok : Option Tok) :
    (c.schedule digest t chain tok).bystanders = c.bystanders := by
  have hset : ∀ s, ((c.withSched s).raise F.UPDATE_INT_STATUS_SCHEDULED).bystanders = c.bystanders :=
    fun s => (Core.raise_bystanders _ _).trans (c.withSched_bystanders s)
  unfold Core.schedule
  repeat' split
  · rfl
  · exact (Core.propagate_bystanders ..).trans (hset _)
  · exact hset _

/-- A schedule that is undone is told to whoever waits for it and to the chain. -/
theorem Core.unschedule_delivery (h : c.update.sched.isSome = true) : SameDelivery (c.unschedule chain) (c.withSched none) := by
  obtain ⟨s, hs⟩ := Option.isSome_iff_exists.mp h
  unfold Core.unschedule
  rw [hs]
  dsimp only
  have htold := (c.withSched none).notice?_delivery s.tok .aborted []
  split
  · exact (Core.propagate_delivery ..).trans htold
  · exact htold

theorem Core.unschedule_bystanders : (c.unschedule chain).bystanders = c.bystanders := by
  have htold : ∀ t, ((c.withSched none).notice? t .aborted []).bystanders = c.bystanders :=
    fun t => (Core.notice?_bystanders _ _ _ _).trans (c.withSched_bystanders none)
  unfold Core.unschedule
  repeat' split
  · rfl
  · exact (Core.propagate_bystanders ..).trans (htold _)
  · exact htold _

end Schedule

/-- What is shown of an activation that waits for its time. -/
theorem Core.scheduled_shown (c : Core) {s : UpSched} {t : Nat} (ht : s.t = some t) (hwaits : s.running = false)
    (hfits : t / 10 ^ 9 < 2 ^ 64) :
    let d := (c.withSched (some s)).raise F.UPDATE_INT_STATUS_SCHEDULED
    d.f F.UPDATE_STATUS_STATE = 4 ∧ d.flag F.UPDATE_INT_STATUS_SCHEDULED = true ∧
      d.get64 R.UPDATE_ACT_SEC_LO R.UPDATE_ACT_SEC_HI = t / 10 ^ 9 ∧ d.get R.UPDATE_ACT_NS = .ofNat 32 (t % 10 ^ 9) := by
  have hraise : ∀ off, off ≠ R.UPDATE_INT_STATUS →
      ((c.withSched (some s)).raise F.UPDATE_INT_STATUS_SCHEDULED).get off = (c.withSched (some s)).get off :=
    fun off h => Core.get_raise_ne _ h
  obtain ⟨hsec, hns⟩ := Core.upShow_actTime { c with update := { c.update with sched := some s } }
    (by simp [ht] : ((some s).bind (·.t)).getD 0 = t) hfits
  have hstate : ({ c with update := { c.update with sched := some s } } : Core).upState = 4 := by simp [Core.upState, hwaits]
  refine ⟨?_, Core.flag_of_one ?_, ?_, (hraise _ (by decide)).trans hns⟩
  · rw [Core.f_congr (hraise R.UPDATE_STATUS (by decide)), Core.withSched, Core.upShow_status, hstate]
  · rw [Core.f_raise]
    exact Core.f_setF_field _ 1 (by decide) (by decide)
  · unfold Core.get64
    rw [hraise _ (by decide), hraise _ (by decide)]
    exact hsec

end Sys2Proof.Machine
end

section
/-! The opcodes of firmware delivery (R501, R503, R506, R507, R512): one equation for each branch of a body that a statement speaks
of, and O53 and O47. -/

namespace Sys2Proof.Machine
open Sys2Proof

/-! ### The opcodes that succeed (R512) -/

section Bodies
variable {c : Core} {r : Req}

theorem updateBeginBody_opens {k : Nat} (hlength : imageLength (r.n 0) = true) (hwinner : c.update.winner = none)
    (hwarn : c.flag F.SYS_STATUS_VIN_WARN = false)
    (hfirst : (List.range 2).any (fun i => decide ((c.upSlot i).state = 1) &&
      decide ((c.upSlot i).session = some r.p.session.toNat)) = false)
    (hfree : c.newUpSlot = some k) :
    updateBeginBody c r = okW (c.receive k
      { length := r.n 0, digest := (r.bytes.drop 4).take 32, session := some r.p.session.toNat }) [k] := by
  unfold updateBeginBody
  simp only [hlength, hwinner, hwarn, hfirst, hfree]
  rfl

theorem updateDataBody_appends {k : Nat} (hopen : c.openSlot r.p.session.toNat = some k) (hoff : r.n 0 = (c.upSlot k).data.length)
    (hfits : (c.upSlot k).data.length + (r.bytes.drop 4).length ≤ (c.upSlot k).length) :
    updateDataBody c r = ans (c.setUpSlot k
      { c.upSlot k with data := (c.upSlot k).data ++ r.bytes.drop 4, at_ := c.time.cycles }) .ok := by
  unfold updateDataBody
  simp only [hopen]
  exact if_neg (by omega)

theorem updateEndBody_completes {k : Nat} (hopen : c.openSlot r.p.session.toNat = some k) :
    updateEndBody c r = ans ((c.setUpSlot k { c.upSlot k with tok := some r.tok }).complete k) .accepted := by
  unfold updateEndBody
  rw [hopen]

theorem updateDiscardBody_frees (hslot : r.n 0 ≤ 1) (hsched : c.update.sched = none)
    (hother : (c.update.winner.map fun w => w.1) ≠ some (r.n 0)) :
    updateDiscardBody c r = ans (c.endSlot (r.n 0) 0 .aborted true) .ok := by
  unfold updateDiscardBody
  rw [if_neg (by omega), if_neg (by simp [hsched]), if_neg (not_or.mpr ⟨by omega, hother⟩)]

theorem updateDiscardBody_ends (hslot : r.n 0 = 2) (hsched : c.update.sched = none) :
    updateDiscardBody c r = ans c.sessionOver .ok := by
  unfold updateDiscardBody
  rw [if_neg (by omega), if_neg (by simp [hsched]), if_pos (.inl hslot)]

theorem updatePeersBody_sets (hcount : r.n 2 ≤ 4) (hbytes : r.bytes.length = 12 + 4 * r.n 2) (hres : r.w 0 &&& 0xFFFF000E = 0)
    (hrate : 1 ≤ bitsOf (r.w 0) 15 4 ∧ bitsOf (r.w 0) 15 4 ≤ 400)
    (hidle : (List.range 4).all (fun i => decide (c.peerState i ≠ 1)) = true) :
    updatePeersBody c r =
      ans (c.peersTaken (r.w 0) (r.w 1) fun i => if i < r.n 2 then r.w (3 + i) else 0).forward .ok := by
  have hbusy : (List.range 4).any (fun i => decide (c.peerState i = 1)) = false := by
    refine List.any_eq_false.mpr fun i hi => ?_
    simpa using List.all_eq_true.mp hidle i hi
  unfold updatePeersBody
  dsimp only
  rw [if_neg (by omega), if_neg (by omega), if_neg (not_not_intro hres), if_neg (by omega), if_neg (by simp [hbusy])]
  rfl

theorem actCheck_ok {digest : List Byte} {t : Nat} {x : Image × Bool} (hnamed : c.imageNamed digest = some x)
    (hsoon : c.ptpNs + 10 * 10 ^ 9 ≤ t) (hlate : t ≤ c.ptpNs + 86400 * 10 ^ 9) (hsched : c.update.sched = none) :
    c.actCheck digest t = .ok := by
  unfold Core.actCheck
  dsimp only
  rw [if_neg (by simp [hnamed]), if_neg (by omega), if_neg (by omega), if_neg (by simp [hsched])]

theorem updateActivateBody_schedules {u : Nat} {x : Image × Bool} (hres : r.w 11 &&& 0xFFFFFFFE = 0)
    (htime : r.n 10 < 10 ^ 9 ∧ r.n 9 < 65536) (hu : u = (r.n 8 + 2 ^ 32 * r.n 9) * 10 ^ 9 + r.n 10)
    (hnamed : c.imageNamed (r.bytes.take 32) = some x) (hsoon : c.ptpNs + 10 * 10 ^ 9 ≤ u)
    (hlate : u ≤ c.ptpNs + 86400 * 10 ^ 9) (hsched : c.update.sched = none) :
    updateActivateBody c r =
      ans (c.schedule (r.bytes.take 32) (some u) (bitOf (r.w 11) 0) (some r.tok)) .accepted := by
  have hword : r.n 8 < 2 ^ 32 := (r.w 8).isLt
  unfold updateActivateBody
  dsimp only
  rw [← hu, if_neg (not_not_intro hres), if_neg (by omega), if_neg (by omega),
    if_neg (by simp [actCheck_ok hnamed hsoon hlate hsched])]

theorem updateCancelBody_unschedules (hres : r.w 0 &&& 0xFFFFFFFE = 0) (hsched : c.update.sched.isSome = true)
    (hsoon : c.actSoon = false) : updateCancelBody c r = ans (c.unschedule (bitOf (r.w 0) 0)) .ok := by
  unfold updateCancelBody
  rw [if_neg (not_not_intro hres), if_neg (by simp [Option.isSome_iff_ne_none.mp hsched]), if_neg (by simp [hsoon])]

/-! ### The lowest SVN (R507) -/

theorem updateSvnRaiseBody_sets (h : r.n 0 ≤ c.f F.UPDATE_SVN_ACTIVE ∧ c.f F.UPDATE_SVN_MIN ≤ r.n 0) :
    updateSvnRaiseBody c r = ans (c.setF F.UPDATE_SVN_MIN (r.n 0)) .ok := by
  unfold updateSvnRaiseBody
  rw [if_neg (by omega), if_neg (by omega)]

theorem updateSvnRaiseBody_above (h : c.f F.UPDATE_SVN_ACTIVE < r.n 0) : updateSvnRaiseBody c r = ans c .notPermitted := by
  unfold updateSvnRaiseBody
  exact if_pos h

theorem updateSvnRaiseBody_below (h : r.n 0 ≤ c.f F.UPDATE_SVN_ACTIVE) (hmin : r.n 0 < c.f F.UPDATE_SVN_MIN) :
    updateSvnRaiseBody c r = ans c .outOfRange := by
  unfold updateSvnRaiseBody
  rw [if_neg (by omega), if_pos hmin]

end Bodies

/-- The lowest SVN takes a value up to that of the running firmware, which stays. -/
theorem Core.setF_svnMin (c : Core) {v : Nat} (h : v ≤ c.f F.UPDATE_SVN_ACTIVE) :
    (c.setF F.UPDATE_SVN_MIN v).f F.UPDATE_SVN_MIN = v ∧
      (c.setF F.UPDATE_SVN_MIN v).f F.UPDATE_SVN_ACTIVE = c.f F.UPDATE_SVN_ACTIVE := by
  have hbyte : c.f F.UPDATE_SVN_ACTIVE < 2 ^ 8 := Nat.mod_lt _ (by decide)
  refine ⟨(c.f_setF_field v (by decide) (by decide)).trans (Nat.mod_eq_of_lt (by omega)), ?_⟩
  exact c.f_setF_beside v (by decide) (by decide) (by decide) (by decide)

/-! ### Completion -/

/-- An opcode whose body leaves sessions and Atelier alone completes with its answer told and with the firmware delivery that the
body leaves. -/
theorem completes_of_delivery {i : Instr} {s : State} {o : Opc} {p : Packet} {body : Body} {d : Core} {st : Status} {bs : List Byte}
    {P : State → Prop} (e : exec i s = runCore (easel o body p) s) (hadmits : s.core.admits o p = true) (hq : s.quiet = true)
    (hcode : o.code ≠ 0x0100) (hbody : body (s.core.offered o p) (reqOf o p) = (d, st, bs))
    (hby : d.bystanders = (s.core.offered o p).bystanders)
    (hp : ∀ t : Core, t.told p = some (statusCode st, bs) → SameDelivery t d → P { s with core := t }) : Completes i s P :=
  completes_of_answer e hadmits hq hcode hbody (congrArg Prod.fst hby) (congrArg Prod.snd hby)
    fun htold => hp _ htold (settled_delivery o p (d, st, bs))

/-- Settles O53: UPDATE_SVN_RAISE falls into the three cases of R507, of which one sets the lowest SVN and the others leave the
register. -/
theorem svnRaiseNeverLowers : Obligations.SvnRaiseNeverLowers := by
  unfold Obligations.SvnRaiseNeverLowers
  have hsvn : window R.UPDATE_SVN = 0x19 := by decide
  refine ⟨?sets, ?above, ?below, ?always⟩
  case sets =>
    intro s p c r hadmits hq _ hv
    refine completes_of_delivery rfl hadmits hq (by decide) (updateSvnRaiseBody_sets hv) (Core.setF_bystanders _ _ _)
      fun t htold ht => ⟨htold, ?_⟩
    exact (ht.f hsvn).trans (c.setF_svnMin hv.1).1
  case above =>
    intro s p c r hadmits hq _ hv
    exact completes_of_delivery rfl hadmits hq (by decide) (updateSvnRaiseBody_above hv) rfl fun t htold ht => ⟨htold, ht.get hsvn⟩
  case below =>
    intro s p c r hadmits hq hle hv
    have hactive : r.n 0 ≤ c.f F.UPDATE_SVN_ACTIVE := by omega
    exact completes_of_delivery rfl hadmits hq (by decide) (updateSvnRaiseBody_below hactive hv) rfl
      fun t htold ht => ⟨htold, ht.get hsvn⟩
  case always =>
    intro s p c r hadmits hq
    have hsame : ∀ t, SameDelivery t c →
        c.f F.UPDATE_SVN_MIN ≤ t.f F.UPDATE_SVN_MIN ∧ t.f F.UPDATE_SVN_ACTIVE = c.f F.UPDATE_SVN_ACTIVE :=
      fun t ht => ⟨(ht.f hsvn).ge, ht.f hsvn⟩
    by_cases habove : c.f F.UPDATE_SVN_ACTIVE < r.n 0
    · exact completes_of_delivery rfl hadmits hq (by decide) (updateSvnRaiseBody_above habove) rfl fun t _ ht => hsame t ht
    by_cases hbelow : r.n 0 < c.f F.UPDATE_SVN_MIN
    · exact completes_of_delivery rfl hadmits hq (by decide) (updateSvnRaiseBody_below (Nat.not_lt.mp habove) hbelow) rfl
        fun t _ ht => hsame t ht
    have hv : r.n 0 ≤ c.f F.UPDATE_SVN_ACTIVE ∧ c.f F.UPDATE_SVN_MIN ≤ r.n 0 := by omega
    obtain ⟨hmin, hactive⟩ := c.setF_svnMin hv.1
    refine completes_of_delivery rfl hadmits hq (by decide) (updateSvnRaiseBody_sets hv) (Core.setF_bystanders _ _ _)
      fun t _ ht => ⟨?_, (ht.f hsvn).trans hactive⟩
    exact hv.2.trans_eq ((ht.f hsvn).trans hmin).symm

/-- Settles O47: each opcode reduces to the one branch of its body that its hypotheses leave, and what is told of it afterwards
changes nothing of firmware delivery. -/
theorem updateOpcodesComplete : Obligations.UpdateOpcodesComplete := by
  unfold Obligations.UpdateOpcodesComplete
  refine ⟨?status, ?begin, ?data, ?fin, ?discard, ?session, ?peers, ?activate, ?cancel, ?peerStatus, ?svn⟩
  case status =>
    intro s p c r hadmits hq
    exact completes_of_delivery rfl hadmits hq (by decide) rfl rfl fun t htold _ => htold
  case begin =>
    intro s p k c r hadmits hq hlength hwinner hwarn hfirst hfree
    have hk := Core.newUpSlot_lt hfree
    have hslot : window (R.UPDATE_SLOT_STATE k) = 0x19 ∧ window (R.UPDATE_SLOT_LENGTH k) = 0x19 := by
      simp only [window, R.UPDATE_SLOT_STATE, R.UPDATE_SLOT_LENGTH]; omega
    refine completes_of_delivery rfl hadmits hq (by decide) (updateBeginBody_opens hlength hwinner hwarn hfirst hfree)
      (c.receive_bystanders _ _) fun t htold ht => ?_
    obtain ⟨hopen, hstate, hbytes⟩ := c.receive_shown
      { length := r.n 0, digest := (r.bytes.drop 4).take 32, session := some p.session.toNat } hk
    refine ⟨htold, (ht.upSlot k).trans hopen, (ht.f hslot.1).trans hstate, ((ht.f hslot.2).trans hbytes).trans ?_⟩
    exact Nat.mod_eq_of_lt (r.w 0).isLt
  case data =>
    intro s p k c r hadmits hq hopen hoff hfits
    refine completes_of_delivery rfl hadmits hq (by decide) (updateDataBody_appends hopen hoff hfits)
      (c.setUpSlot_bystanders _ _) fun t htold ht => ⟨htold, ?_⟩
    have hslot := (ht.upSlot k).trans (c.setUpSlot_upSlot k _)
    dsimp only
    rw [hslot]
    exact ⟨rfl, Core.openSlot_state hopen, rfl⟩
  case fin =>
    intro s p k c r hadmits hq hopen
    refine completes_of_delivery rfl hadmits hq (by decide) (updateEndBody_completes hopen)
      ((Core.complete_bystanders _ _).trans (c.setUpSlot_bystanders _ _)) fun t htold ht => ⟨htold, ?_⟩
    refine (ht.upSlot k).trans ((Core.complete_upSlot _ _).trans ?_)
    rw [Core.setUpSlot_upSlot]
    rfl
  case discard =>
    intro s p c r hadmits hq hslot hsched hother hstate
    have hwindow : window (R.UPDATE_SLOT_STATE (r.n 0)) = 0x19 := by simp only [window, R.UPDATE_SLOT_STATE]; omega
    refine completes_of_delivery rfl hadmits hq (by decide) (updateDiscardBody_frees hslot hsched hother)
      (c.endSlot_bystanders _ _ _ _) fun t htold ht => ⟨htold, ?_⟩
    have hfree := ht.trans (c.endSlot_delivery (r.n 0) 0 .aborted true hstate)
    exact ⟨(hfree.upSlot _).trans (c.freeUpSlot_upSlot _ _), (hfree.f hwindow).trans (c.freeUpSlot_state 0 (by omega))⟩
  case session =>
    intro s p c r hadmits hq hslot hsched
    have hwindow : window R.UPDATE_PEER_STATE = 0x19 := by decide
    obtain ⟨hwinner, hpeers⟩ := c.sessionOver_update
    refine completes_of_delivery rfl hadmits hq (by decide) (updateDiscardBody_ends hslot hsched) c.sessionOver_bystanders
      fun t htold ht => ⟨htold, (congrArg UpdatePart.winner ht.update).trans hwinner,
        (congrArg UpdatePart.peers ht.update).trans hpeers, ?_, ?_⟩
    · exact (ht.f hwindow).trans (c.sessionOver_peerState (by decide))
    · exact (ht.f hwindow).trans (c.sessionOver_peerState (by decide))
  case peers =>
    intro s p c r hadmits hq ⟨hcount, hbytes⟩ hres hrate hidle
    obtain ⟨hcfg, hupstream, hpeer⟩ := c.peersTaken_shows (r.w 0) (r.w 1) fun i => if i < r.n 2 then r.w (3 + i) else 0
    refine completes_of_delivery rfl hadmits hq (by decide) (updatePeersBody_sets hcount hbytes hres hrate hidle)
      ((Core.forward_bystanders _).trans (c.peersTaken_bystanders _ _ _)) fun t htold ht => ?_
    have hget : ∀ off, window off = 0x19 → t.get off = _ := fun off ho => (ht.get ho).trans (Core.get_forward _ ho)
    refine ⟨htold, (hget _ (by decide)).trans hcfg, (hget _ (by decide)).trans hupstream, fun i hi => ?_⟩
    exact (hget _ (by simp only [window, R.UPDATE_PEER]; omega)).trans (hpeer i hi)
  case activate =>
    intro s p d u x c r hadmits hq hres htime hd hu hnamed ⟨hsoon, hlate⟩ hsched
    subst hd
    refine completes_of_delivery rfl hadmits hq (by decide)
      (updateActivateBody_schedules hres htime hu hnamed hsoon hlate hsched) (c.schedule_bystanders _ _ _ _) fun t htold ht => ?_
    have hfits : u / 10 ^ 9 < 2 ^ 64 := by
      have hword : r.n 8 < 2 ^ 32 := (r.w 8).isLt
      omega
    have hset := ht.trans (c.schedule_delivery (bitOf (r.w 11) 0) hnamed (some u) (some r.tok))
    obtain ⟨hstate, hint, hsec, hns⟩ :=
      c.scheduled_shown (s := { image := x.1, back := x.2, t := some u, tok := some r.tok }) rfl rfl hfits
    refine ⟨htold, ?_, (hset.f (by decide)).trans hstate, (hset.flag (by decide)).trans hint,
      (hset.get64 (by decide) (by decide)).trans hsec, (hset.get (by decide)).trans hns⟩
    exact congrArg UpdatePart.sched (hset.update.trans (Core.raise_update _ _))
  case cancel =>
    intro s p c r hadmits hq hres hsched hsoon
    refine completes_of_delivery rfl hadmits hq (by decide) (updateCancelBody_unschedules hres hsched hsoon)
      (c.unschedule_bystanders _) fun t htold ht => ?_
    have hset := (ht.trans (c.unschedule_delivery _ hsched)).update
    exact ⟨htold, congrArg UpdatePart.sched hset, (congrArg UpdatePart.winner hset :)⟩
  case peerStatus =>
    intro s p c r hadmits hq
    exact completes_of_delivery rfl hadmits hq (by decide) rfl rfl fun t htold _ => htold
  case svn =>
    intro s p c r hadmits hq hv
    have hsvn : window R.UPDATE_SVN = 0x19 := by decide
    obtain ⟨hmin, hactive⟩ := c.setF_svnMin hv.1
    exact completes_of_delivery rfl hadmits hq (by decide) (updateSvnRaiseBody_sets hv) (Core.setF_bystanders _ _ _)
      fun t htold ht => ⟨htold, (ht.f hsvn).trans hmin, (ht.f hsvn).trans hactive⟩

end Sys2Proof.Machine
end

section
/-! The Easel commands of health (R527, R528, R534): what the health registers show after an opcode, one equation for each branch
of a body that a statement speaks of, and O50. -/

namespace Sys2Proof.Machine
open Sys2Proof

/-! ### What the engine map and HEALTH_STATUS show (R230, R534) -/

section Shown
variable {α : Type} {g : Core → α}
  (hset : ∀ (c : Core) (x : Field) (v : Nat), x.off = R.RENDER_ENGINE_MAP ∨ x.off = R.HEALTH_STATUS → g (c.setF x v) = g c)
  (hren : ∀ (c : Core) (x : RenPart), g { c with ren := x } = g c)
  (hraise : ∀ c : Core, g (c.raise F.RENDER_INT_STATUS_SPARE_CHANGE) = g c)
include hset hren hraise

/-- What neither the engine map nor the render part holds, and no change of the spares raises, is as before the map is shown. -/
theorem Core.renderShow_keeps (c : Core) : g c.renderShow = g c := by
  have hmap := foldl_keeps g (fun (d : Core) e => d.setF (F.RENDER_ENGINE_MAP_RE e) (d.engineState e))
    (fun d _ => hset d _ _ (.inl rfl)) (List.range 9) c
  unfold Core.renderShow
  dsimp only
  split
  · exact (hren _ _).trans hmap
  · exact (hraise _).trans ((hren _ _).trans hmap)

/-- HEALTH_STATUS shows itself in its own register only. -/
theorem Core.healthShow_keeps (c : Core) : g c.healthShow = g c := by
  have hstatus : ∀ (d : Core) (hi lo v : Nat), g (d.setF ⟨R.HEALTH_STATUS, hi, lo⟩ v) = g d :=
    fun d _ _ _ => hset d _ _ (.inr rfl)
  calc g c.healthShow
    _ = g c.renderShow := (hstatus _ _ _ _).trans ((hstatus _ _ _ _).trans ((hstatus _ _ _ _).trans (hstatus _ _ _ _)))
    _ = g c := Core.renderShow_keeps hset hren hraise c

end Shown

theorem Core.healthShow_health (c : Core) : c.healthShow.health = c.health :=
  Core.healthShow_keeps (fun d x v _ => d.setF_health x v) (fun _ _ => rfl) (fun d => d.raise_health _) c

theorem Core.healthShow_bystanders (c : Core) : c.healthShow.bystanders = c.bystanders :=
  Core.healthShow_keeps (fun d x v _ => d.setF_bystanders x v) (fun _ _ => rfl) (fun d => d.raise_bystanders _) c

/-- Of the registers of health only HEALTH_STATUS follows. -/
theorem Core.get_healthShow (c : Core) {off : Nat} (h : window off = 0x17) (hstatus : off ≠ R.HEALTH_STATUS) :
    c.healthShow.get off = c.get off := by
  have hmap : off ≠ R.RENDER_ENGINE_MAP := by rintro rfl; exact absurd h (by decide)
  have hint : off ≠ R.RENDER_INT_STATUS := by rintro rfl; exact absurd h (by decide)
  refine Core.healthShow_keeps (g := (Core.get · off)) (fun d x v hx => d.get_setF_ne v ?_) (fun _ _ => rfl)
    (fun d => d.get_raise_ne hint) c
  rcases hx with hx | hx <;> rwa [hx]

/-! ### Registers that an opcode sets -/

/-- Registers set to 0, as counters of class S are by a read. -/
def Core.cleared (c : Core) (l : List Nat) : Core := l.foldl (fun (c : Core) r => c.put r 0) c

theorem Core.get_cleared (c : Core) (l : List Nat) (off : Nat) :
    (c.cleared l).get off = if off ∈ l then 0 else c.get off := by
  induction l generalizing c with
  | nil => rfl
  | cons r t ih =>
    have hput : (c.cleared (r :: t)).get off = if off ∈ t then 0 else (c.put r 0).get off := ih (c.put r 0)
    rw [hput, Core.get_put]
    by_cases ht : off ∈ t <;> simp [ht]

theorem Core.cleared_bystanders (c : Core) (l : List Nat) : (c.cleared l).bystanders = c.bystanders :=
  foldl_keeps Core.bystanders (fun (d : Core) r => d.put r 0) (fun _ _ => rfl) l c

/-- The counters of class S that HEALTH_STATUS_GET clears. -/
def healthCounters : List Nat :=
  [R.HEALTH_SUSPECT, R.HEALTH_SWAPS, R.HEALTH_RETIRED, R.HEALTH_SELFTEST_FAIL, R.HEALTH_AUTO_RESETS, R.HEALTH_LEDGER_DROP]

/-- The four settings that HEALTH_CONFIG stores. -/
def Core.healthSet (c : Core) (ctrl reset patrol thresh : Word) : Core :=
  (((c.put R.HEALTH_CTRL ctrl).put R.HEALTH_AUTO_RESET reset).put R.HEALTH_PATROL patrol).put R.HEALTH_THRESH thresh

theorem Core.get_healthSet (c : Core) (ctrl reset patrol thresh : Word) :
    (c.healthSet ctrl reset patrol thresh).get R.HEALTH_CTRL = ctrl ∧
      (c.healthSet ctrl reset patrol thresh).get R.HEALTH_AUTO_RESET = reset ∧
      (c.healthSet ctrl reset patrol thresh).get R.HEALTH_PATROL = patrol ∧
      (c.healthSet ctrl reset patrol thresh).get R.HEALTH_THRESH = thresh := by
  simp [Core.healthSet, Core.get_put, R.HEALTH_CTRL, R.HEALTH_AUTO_RESET, R.HEALTH_PATROL, R.HEALTH_THRESH]

/-! ### The opcodes that succeed (R527, R528, R534) -/

section Bodies
variable {c : Core} {r : Req}

theorem healthStatusBody_clears :
    healthStatusBody c r = okW (c.cleared healthCounters) ([R.HEALTH_STATUS, R.HEALTH_CAPACITY, R.RENDER_ENGINE_MAP,
      R.RENDER_LANE_SPARE, R.RENDER_LANE_RETIRED, R.RENDER_LANE_RETIRED8, R.HEALTH_SUSPECT, R.HEALTH_SWAPS, R.HEALTH_RETIRED,
      R.HEALTH_SELFTEST_FAIL, R.HEALTH_AUTO_RESETS, R.HEALTH_LEDGER_DROP, R.HEALTH_PATROLS, R.HEALTH_SELFTEST_RUNS].map
        fun x => (c.get x).toNat) := rfl

theorem healthConfigBody_stores (hres : r.w 0 &&& 0xFFFFFFFC = 0 ∧ r.w 1 &&& 0xE00FF800 = 0 ∧ r.w 2 &&& 0xFF000000 = 0)
    (hrange : 16 ≤ bitsOf (r.w 2) 15 0 ∧ bitsOf (r.w 2) 23 16 ≠ 0) :
    healthConfigBody c r = ans (c.healthSet (r.w 0) (r.w 1) (r.w 2) (r.w 3)).healthShow .ok := by
  unfold healthConfigBody
  rw [if_neg (by tauto), if_neg (by omega)]
  rfl

/-- One record asked for by an index that the ring still holds is the record of that index. -/
theorem patinaReadBody_one {x : LedgerRec} {i : Nat} (hi : i = r.n 0 + 2 ^ 32 * r.n 1) (hone : r.n 2 = 1)
    (hheld : c.ledgerNext - 65536 ≤ i) (hx : smGet (fun _ => none) c.health.ledger i = some x) :
    patinaReadBody c r = (c, .ok, ledgerBytes i x) := by
  have hfirst : max (r.n 0 + 2 ^ 32 * r.n 1) c.ledgerSpan.1 = i := hi ▸ Nat.max_eq_left (hi ▸ hheld)
  unfold patinaReadBody
  dsimp only
  rw [hone, hfirst, if_neg (by decide)]
  simp [hx]

theorem unitGetBody_one (hres : 1 ≤ r.n 0 ∧ r.n 0 ≤ 8) (hone : r.n 2 = 1) (hunit : r.n 1 < unitCountOf (r.n 0)) :
    unitGetBody c r = okW c [c.unitState (r.n 0) (r.n 1), (c.unit (r.n 0) (r.n 1)).differ, (c.unit (r.n 0) (r.n 1)).corrected,
      (c.unit (r.n 0) (r.n 1)).selftest, (c.unit (r.n 0) (r.n 1)).retiredAt % 2 ^ 32,
      (c.unit (r.n 0) (r.n 1)).retiredAt / 2 ^ 32] := by
  unfold unitGetBody
  dsimp only
  rw [hone, if_neg (by omega)]
  rfl

section Swap
variable (hlane : r.n 0 = 1 ∧ r.n 1 < 32) (hserves : c.laneRetired (r.n 1) = false ∧ c.stoodIn (r.n 1) = false)
include hlane hserves

/-- SPARE_SWAP of a lane in service depends on the free lanes of RE8 alone. -/
theorem spareSwapBody_lane :
    spareSwapBody c r = c.re8Free.head?.elim (ans c .noResource) fun m =>
      ans (c.swapLanes [(r.n 1, m)] r.tok).healthShow .accepted := by
  obtain ⟨hres, hunit⟩ := hlane
  obtain ⟨hretired, hstood⟩ := hserves
  unfold spareSwapBody
  simp only [hres, hretired, hstood]
  rw [if_neg (by simpa using hunit), if_pos trivial, if_neg (by simp)]
  cases c.re8Free <;> rfl

theorem spareSwapBody_accepts {m : Nat} (hfree : c.re8Free.head? = some m) :
    spareSwapBody c r = ans (c.swapLanes [(r.n 1, m)] r.tok).healthShow .accepted := by
  rw [spareSwapBody_lane hlane hserves, hfree]
  rfl

theorem spareSwapBody_without_spare (hfree : c.re8Free = []) : spareSwapBody c r = ans c .noResource := by
  rw [spareSwapBody_lane hlane hserves, hfree]
  rfl

end Swap
end Bodies

/-! ### Completion -/

/-- An opcode whose body leaves sessions and Atelier alone completes with its answer told and with the health part and the health
registers that the body leaves. -/
theorem completes_of_health {i : Instr} {s : State} {o : Opc} {p : Packet} {body : Body} {d : Core} {st : Status} {bs : List Byte}
    {P : State → Prop} (e : exec i s = runCore (easel o body p) s) (hadmits : s.core.admits o p = true) (hq : s.quiet = true)
    (hcode : o.code ≠ 0x0100) (hbody : body (s.core.offered o p) (reqOf o p) = (d, st, bs))
    (hby : d.bystanders = (s.core.offered o p).bystanders)
    (hp : ∀ t : Core, t.told p = some (statusCode st, bs) → t.health = d.health →
      (∀ {off : Nat}, window off = 0x17 → t.get off = d.get off) → P { s with core := t }) : Completes i s P :=
  completes_of_answer e hadmits hq hcode hbody (congrArg Prod.fst hby) (congrArg Prod.snd hby)
    fun htold => hp _ htold (Core.settled_health o p _) fun ho => Core.get_settled_away (by omega) (by omega)

/-- Settles O50: each opcode reduces to the one branch of its body that its hypotheses leave, and what is shown and told of it
afterwards changes neither the health part nor a health register beside HEALTH_STATUS. -/
theorem healthOpcodesComplete : Obligations.HealthOpcodesComplete := by
  unfold Obligations.HealthOpcodesComplete
  refine ⟨?status, ?config, ?read, ?info, ?unit, ?swap, ?noSpare⟩
  case status =>
    intro s p c r hadmits hq
    refine completes_of_health rfl hadmits hq (by decide) healthStatusBody_clears (c.cleared_bystanders _)
      fun t htold _ hget => ?_
    have hclear : ∀ off, window off = 0x17 → off ∈ healthCounters → t.get off = 0 := fun off ho hoff =>
      (hget ho).trans ((c.get_cleared _ _).trans (if_pos hoff))
    have hpatrols : t.get R.HEALTH_PATROLS = c.get R.HEALTH_PATROLS :=
      (hget (by decide)).trans ((c.get_cleared _ _).trans (if_neg (by decide)))
    exact ⟨htold, hclear _ (by decide) (by decide), hclear _ (by decide) (by decide), hclear _ (by decide) (by decide),
      hclear _ (by decide) (by decide), hclear _ (by decide) (by decide), hclear _ (by decide) (by decide), hpatrols⟩
  case config =>
    intro s p c r hadmits hq hres hrange
    refine completes_of_health rfl hadmits hq (by decide) (healthConfigBody_stores hres hrange) (Core.healthShow_bystanders _)
      fun t htold _ hget => ?_
    have hshown : ∀ off, window off = 0x17 → off ≠ R.HEALTH_STATUS → t.get off = _ := fun off ho hoff =>
      (hget ho).trans (Core.get_healthShow _ ho hoff)
    obtain ⟨hctrl, hreset, hpatrol, hthresh⟩ := c.get_healthSet (r.w 0) (r.w 1) (r.w 2) (r.w 3)
    exact ⟨htold, (hshown _ (by decide) (by decide)).trans hctrl, (hshown _ (by decide) (by decide)).trans hreset,
      (hshown _ (by decide) (by decide)).trans hpatrol, (hshown _ (by decide) (by decide)).trans hthresh⟩
  case read =>
    intro s p x i c r hadmits hq hi hone hheld hx
    exact completes_of_health rfl hadmits hq (by decide) (patinaReadBody_one hi hone hheld hx) rfl fun t htold _ _ => htold
  case info =>
    intro s p c r hadmits hq
    exact completes_of_health rfl hadmits hq (by decide) rfl rfl fun t htold _ _ => htold
  case unit =>
    intro s p c r hadmits hq hres ⟨hone, hunit⟩
    exact completes_of_health rfl hadmits hq (by decide) (unitGetBody_one hres hone hunit) rfl fun t htold _ _ => htold
  case swap =>
    intro s p m c r hadmits hq hlane hserves hfree
    refine completes_of_health rfl hadmits hq (by decide) (spareSwapBody_accepts hlane hserves hfree)
      (Core.healthShow_bystanders _) fun t htold hhealth _ => ⟨htold, ?_⟩
    exact congrArg HealthPart.patrols (hhealth.trans (Core.healthShow_health _))
  case noSpare =>
    intro s p c r hadmits hq hlane hserves hfree
    exact completes_of_health rfl hadmits hq (by decide) (spareSwapBody_without_spare hlane hserves hfree) rfl
      fun t htold hhealth _ => ⟨htold, hhealth⟩

end Sys2Proof.Machine
end

section
/-! What every command is: a meaning on registers and memories followed by the trace records it has caused. From that one shape
follow the statements about every step: O1, O3, O4, O5 and O6. -/

namespace Sys2Proof.Machine
open Sys2Proof

/-! ### Meanings that keep the memories in canonical form -/

/-- A meaning leaves memories in canonical form where it finds them so. -/
def KeepsCanonical (f : Mem → Core → Core × Mem) : Prop := ∀ m c, Memory.wf m = true → Memory.wf (f m c).2 = true

theorem core_keepsCanonical (f : Core → Core) : KeepsCanonical fun m c => (f c, m) := fun _ _ h => h

theorem canonical_without_sram {m : Mem} (h : Memory.wf m = true) : Memory.wf { m with sram := [] } = true := by
  rw [wf_iff] at h ⊢
  exact ⟨h.1, rfl⟩

theorem canonical_without_dram {m : Mem} (h : Memory.wf m = true) : Memory.wf { m with dram := [] } = true := by
  rw [wf_iff] at h ⊢
  exact ⟨rfl, h.2⟩

theorem issueReq_keepsCanonical (q : HeldReq) : KeepsCanonical (issueReq q) := by
  intro m c h
  unfold issueReq
  dsimp only
  split
  · exact h
  · exact memWrite_wf h _ _ _ _

theorem fabricReq_keepsCanonical (q : HeldReq) (outPort outTarget outAll : Nat) (other : Bool) :
    KeepsCanonical (fabricReq q outPort outTarget outAll other) := by
  intro m c h
  unfold fabricReq
  dsimp only
  repeat' split
  case _ => exact h
  case _ => exact h
  case _ => exact h
  case _ => exact h
  case _ => exact issueReq_keepsCanonical q _ _ h

theorem heldIssue_keepsCanonical (m : Nat) : KeepsCanonical (heldIssue m) := by
  intro mem c h
  unfold heldIssue
  split
  · exact h
  · exact issueReq_keepsCanonical _ _ _ h

theorem crcScanDone_keepsCanonical (k : Nat) : KeepsCanonical (crcScanDone k) := by
  intro m c h
  unfold crcScanDone
  dsimp only
  repeat' split
  all_goals exact h

theorem xferComplete_keepsCanonical (k n : Nat) : KeepsCanonical (xferComplete k n) := by
  intro m c h
  unfold xferComplete
  dsimp only
  repeat' split
  any_goals exact h
  exact memWrite_wf h _ _ _ _

theorem dramTrainingDone_keepsCanonical (lanes : List (List Nat)) : KeepsCanonical (dramTrainingDone lanes) := by
  intro m c h
  unfold dramTrainingDone
  dsimp only
  repeat' split
  any_goals exact h
  exact canonical_without_dram h

theorem bar2Access_keepsCanonical (y : Nat) (write : Bool) (bytes : List Byte) (n : Nat) :
    KeepsCanonical (bar2Access y write bytes n) := by
  intro m c h
  unfold bar2Access
  dsimp only
  repeat' split
  any_goals exact h
  exact memWrite_wf h _ _ _ _

theorem vinOffAll_keepsCanonical : KeepsCanonical vinOffAll := by
  intro m c h
  unfold vinOffAll
  dsimp only
  split
  · rfl
  · exact h

theorem tempMeasureAll_keepsCanonical (die board : Int) : KeepsCanonical (tempMeasureAll die board) := by
  intro m c h
  unfold tempMeasureAll
  dsimp only
  split
  · rfl
  · exact h

theorem deepStandbyEntryAll_keepsCanonical : KeepsCanonical deepStandbyEntryAll := by
  intro m c h
  unfold deepStandbyEntryAll
  split
  · exact canonical_without_sram h
  · exact h

/-- The far delay lines are stored byte by byte (R234). -/
theorem renderTurn_canonical {m : Mem} (h : Memory.wf m = true) (c : Core) : Memory.wf (c.renderTurn m).2 = true := by
  unfold Core.renderTurn
  dsimp only
  refine foldl_snd_wf _ ?_ _ h
  intro a y ha
  exact memWrite_wf ha _ _ _ _

theorem blockBoundary_keepsCanonical (e : BlockEnv) : KeepsCanonical (blockBoundary e) := by
  intro m c h
  unfold blockBoundary
  split
  · exact h
  · extract_lets b c₁ mons c₂ c₃ x d time d₁ k d₂ d₃ r
    split
    · dsimp only
      exact renderTurn_canonical h d₃
    · exact h

/-! ### The shape of a command -/

section Shape
variable {i : Instr} {s : State}

theorem shape_of_runCore {f : Core → Core} (e : exec i s = runCore f s) : ∃ g, KeepsCanonical g ∧ exec i s = runMem g s :=
  ⟨_, core_keepsCanonical f, e⟩

theorem shape_of_runReset {f : Core → Core} (e : exec i s = runReset f s) : ∃ g, KeepsCanonical g ∧ exec i s = runMem g s := by
  refine ⟨_, fun m c h => ?_, e⟩
  dsimp only
  split
  · exact canonical_without_sram h
  · exact h

theorem shape_of_runMem {f : Mem → Core → Core × Mem} (h : KeepsCanonical f) (e : exec i s = runMem f s) :
    ∃ g, KeepsCanonical g ∧ exec i s = runMem g s := ⟨f, h, e⟩

end Shape

/-- What a command can do: a meaning that keeps the memories in canonical form, then the trace records that it has caused. -/
theorem exec_shape (i : Instr) (s : State) : ∃ f, KeepsCanonical f ∧ exec i s = runMem f s := by
  cases i
  case registerWrite => exact shape_of_runReset rfl
  case resetNAssert => exact shape_of_runReset rfl
  case tcxoMonitorTrip => exact shape_of_runReset rfl
  case corePllLoss => exact shape_of_runReset rfl
  case sysRestart p => exact shape_of_runReset (f := fun c => (easel opSysRestart sysRestartBody p c).restartIfDue) rfl
  case resetCtrlRestart => exact shape_of_runReset rfl
  case resetCtrlModuleReset => exact shape_of_runReset rfl
  case moduleReset => exact shape_of_runReset rfl
  case mbxCommandTake => exact shape_of_runReset rfl
  case activation => exact shape_of_runReset rfl
  case xferComplete k n => exact shape_of_runMem (xferComplete_keepsCanonical k n) rfl
  case crcScanDone k => exact shape_of_runMem (crcScanDone_keepsCanonical k) rfl
  case blockBoundary e => exact shape_of_runMem (blockBoundary_keepsCanonical e) rfl
  case dramTrainingDone lanes => exact shape_of_runMem (dramTrainingDone_keepsCanonical lanes) rfl
  case bar2Access y n write bytes => exact shape_of_runMem (bar2Access_keepsCanonical _ _ _ _) rfl
  case renderSumsComplete => exact shape_of_runMem (f := renderSumsDone) (fun _ _ h => h) rfl
  case fabricHeldIssue m => exact shape_of_runMem (heldIssue_keepsCanonical m) rfl
  case dramRead => exact shape_of_runMem (fabricReq_keepsCanonical _ _ _ _ _) rfl
  case dramWrite => exact shape_of_runMem (fabricReq_keepsCanonical _ _ _ _ _) rfl
  case vinOff => exact shape_of_runMem vinOffAll_keepsCanonical rfl
  case tempMeasure die board => exact shape_of_runMem (tempMeasureAll_keepsCanonical die board) rfl
  case deepStandbyEntry => exact shape_of_runMem deepStandbyEntryAll_keepsCanonical rfl
  all_goals exact shape_of_runCore rfl

theorem exec_canonical {i : Instr} {s t : State} (hm : Memory.wf s.mem = true) (h : exec i s = .next t) :
    Memory.wf t.mem = true := by
  obtain ⟨f, hf, e⟩ := exec_shape i s
  exact runMem_wf (hf _ _ hm) (e ▸ h)

theorem exec_leaves_quiet {i : Instr} {s t : State} (h : exec i s = .next t) : t.quiet = true := by
  obtain ⟨f, -, e⟩ := exec_shape i s
  exact runMem_leaves_quiet (e ▸ h)

/-! ### Steps -/

/-- An idle step changes the TIME counter alone. -/
theorem State.idle_keeps (s : State) : s.idle.mem = s.mem ∧ s.idle.quiet = s.quiet := by
  unfold State.idle
  split
  · exact ⟨rfl, rfl⟩
  · exact ⟨rfl, rfl⟩

/-- Settles O1: the step takes the command off the queue and runs it. -/
theorem stepRunsFrontCommand : Obligations.StepRunsFrontCommand := by
  unfold Obligations.StepRunsFrontCommand
  exact fun _ _ _ => rfl

/-- Settles O3: nothing is stored, traced or queued at reset. -/
theorem resetStateCanonical : Obligations.ResetStateCanonical := by
  unfold Obligations.ResetStateCanonical
  exact ⟨rfl, rfl, rfl⟩

/-- Settles O6: each command has the shape of `exec_shape`, which answers a next state and keeps the queue. -/
theorem everyCommandGoesOn : Obligations.EveryCommandGoesOn := by
  unfold Obligations.EveryCommandGoesOn
  intro i s
  obtain ⟨f, -, e⟩ := exec_shape i s
  exact ⟨_, e, rfl⟩

/-- Settles O4: the idle step leaves the memories alone, and every command keeps their canonical form. -/
theorem stepKeepsMemoryCanonical : Obligations.StepKeepsMemoryCanonical := by
  unfold Obligations.StepKeepsMemoryCanonical
  intro s t hm h
  unfold step at h
  split at h
  · cases h
    rw [s.idle_keeps.1]
    exact hm
  next l _ => exact exec_canonical (s := { s with pending := l }) hm h

/-- Settles O5: the idle step leaves the trace alone, and every command sends the records that it has caused. -/
theorem stepLeavesTraceWritten : Obligations.StepLeavesTraceWritten := by
  unfold Obligations.StepLeavesTraceWritten
  intro s t hq h
  unfold step at h
  split at h
  · cases h
    rw [s.idle_keeps.2]
    exact hq
  · exact exec_leaves_quiet h

end Sys2Proof.Machine
end

section
/-! Statements that range over every state and fail on one: O13, whose Announce a Smudge class drops; O34 to O36 of the Brush
instructions; and O56 to O58, where a slot or a port that the module does not have puts a register into another window. -/

namespace Sys2Proof.Machine
open Sys2Proof Sys2Proof.Tests

/-! ### An Announce that Smudge drops (R96, R531) -/

/-- PTP is on at P0, in domain 0. Smudge class 3 is armed: it drops 255 of 256 frames of P0, of every class. -/
def droppingPort : State := runWith fun c =>
  let c := ((c.setF F.TIME_CTRL_EN 1).setF F.TIME_CTRL_PORT_EN 1).setF F.TIME_CTRL_DOMAIN 0
  (c.setF F.SMUDGE_STATUS_ARMED 8).setF F.SMUDGE_NET_DROP 255

/-- A foreign leader whose 80-bit identity is no clock identity of 64 bits. -/
def foreignLeader : Leader :=
  { prio1 := 1, cls := 6, accuracy := 33, variance := 0, prio2 := 1, gm := 9, steps := 0, sender := 2 ^ 64, interval := 0,
    timeSource := 32, at_ := 0, qualified := false }

theorem foreignLeader_not_own : foreignLeader.sender ≠ Config.ptpIdentity.toNat := by
  have h := Config.ptpIdentity.isLt
  change 2 ^ 64 ≠ _
  omega

/-- The frame is dropped before it is read. -/
theorem droppingPort_keeps_foreign :
    ((flushTrace droppingPort.mem (ptpAnnounceReceive 0 0 foreignLeader droppingPort.core)).1.ptpPort 0).foreign = [] := by
  decide +kernel

/-- Refutes O13: the clause on Announce asks that class 1 is not armed, but it is class 3 that drops frames. On `droppingPort` the
leader is not recorded. -/
theorem not_ptpMessagesComplete : ¬ Obligations.PtpMessagesComplete := by
  unfold Obligations.PtpMessagesComplete
  rintro ⟨announce, _⟩
  have hcompletes := announce droppingPort 0 0 foreignLeader rfl (by decide +kernel) (by decide +kernel) (by decide +kernel)
    foreignLeader_not_own
  have hrecorded := hcompletes.of_runCore rfl
  dsimp only at hrecorded
  rw [droppingPort_keeps_foreign] at hrecorded
  exact absurd hrecorded (by decide)

/-! ### Brush instructions on registers that hold what no instruction leaves in them -/

/-- Core 67 stands at a NOP whose MB slot stores V0, and V0 has no lanes. -/
def laneless : State := bcWith (parWord 0 0 0 0 0 (0, 0, 0, 0) (3, 0, 0, 0) (0, 0, 0)) fun x => { x with vec := [(0, [])] }

/-- Nothing is stored: the word keeps what it held. -/
theorem laneless_keeps_word :
    (flushTrace laneless.mem (brushIssue 0x00 67 laneless.core)).1.dmWord 67 100 = 0x12345 := by decide +kernel

/-- Refutes O34: a lane that a vector register lacks reads as 0 in its clause on the store of a vector, but such a lane is not
stored. No instruction leaves a register with other than four lanes; the statement does not ask for that. -/
theorem not_brushSlotsLoopsAndFtapComplete : ¬ Obligations.BrushSlotsLoopsAndFtapComplete := by
  unfold Obligations.BrushSlotsLoopsAndFtapComplete
  rintro ⟨_, _, store, _⟩
  have hcompletes := store laneless 67 0 0 0 0 (0, 0, 0, 0) (3, 0, 0, 0) (0, 0, 0) (3, 0, 0, 0) 0 rfl (by decide +kernel)
    (by decide +kernel) (.inl rfl) (by decide) (by decide +kernel)
  have hstored := hcompletes.of_runCore rfl
  exact absurd (laneless_keeps_word.symm.trans hstored) (by decide +kernel)

/-- Core 67 stands at AND R0, R1, and both hold 2³², which no register of 32 bits does. -/
def overfull : State := bcWith (sclWord 10 0 1 0 0) fun x => { x with sc := [(0, 2 ^ 32), (1, 2 ^ 32), (50, 9)] }

/-- N is bit 31 of the result. -/
theorem overfull_not_negative :
    bitOf ((flushTrace overfull.mem (brushIssue 0x10A 67 overfull.core)).1.bc 67).settle.sr 1 = false := by decide +kernel

/-- Refutes O35: its clause on AND has N set where the result is 2³¹ or more, which is bit 31 for 32-bit registers only. In
`overfull` the result is 2³². -/
theorem not_brushScalarInstructionsComplete : ¬ Obligations.BrushScalarInstructionsComplete := by
  unfold Obligations.BrushScalarInstructionsComplete
  rintro ⟨_, _, _, _, _, and, _⟩
  have hcompletes := and overfull 67 0 1 false 0 (2 ^ 32) rfl (by decide +kernel) (by decide +kernel) (.inl (by decide))
  obtain ⟨_, hflags, _⟩ := hcompletes.of_runCore rfl
  obtain ⟨_, hnegative⟩ := hflags (by decide)
  exact absurd (overfull_not_negative.symm.trans hnegative) (by decide +kernel)

/-! ### Tasks of slots beyond the 512 (R426) -/

/-- The number of a task slot whose ATELIER_SLOT register would stand at an offset: beyond slot 511 for those that follow. -/
def slotFor (off : Nat) : Nat := (off - R.ATELIER_SLOT 0) / 4

/-- Core 67 stands at HALT in a task whose slot word would stand where its own BRUSH_CORE_STATE does. -/
def haltingStray : State :=
  bcWith (ctlWord 11 0 0 0) fun x => { x with task := some (slotFor (R.BRUSH_CORE_STATE 67)) }

/-- The core stops, its task is lost, and the word of the freed slot reads as state OFF of the core. -/
theorem haltingStray_off : (flushTrace haltingStray.mem (brushIssue 0x20B 67 haltingStray.core)).1.bcState 67 = 0 := by
  decide +kernel

/-- Refutes O36: its clause on HALT puts no bound on the slot of the core's task, as that of O37 on STOP. -/
theorem not_brushControlInstructionsComplete : ¬ Obligations.BrushControlInstructionsComplete := by
  unfold Obligations.BrushControlInstructionsComplete
  rintro ⟨_, _, _, _, _, _, _, _, _, _, _, _, _, _, halt, _⟩
  have hcompletes := halt haltingStray 67 0 0 0 rfl (by decide +kernel)
  obtain ⟨hstopped, _⟩ := hcompletes.of_runCore rfl
  exact absurd (haltingStray_off.symm.trans hstopped) (by decide)

/-- Core 67 stands at DONE in a task whose slot word would be the first register of the FLASH window. -/
def doneStray : State := bcWith (ctlWord 8 0 0 0) fun x => { x with task := some (slotFor R.FLASH_STATUS) }

theorem doneStray_writes_flash :
    (flushTrace doneStray.mem (brushIssue 0x208 67 doneStray.core)).1.get R.FLASH_STATUS ≠ doneStray.core.get R.FLASH_STATUS := by
  decide +kernel

/-- Refutes O57: DONE frees the slot of the core's task, and with it the slot's word changes. The statement puts no bound on the
slot, so that word can stand in any window. -/
theorem not_brushInstructionsStayInCore : ¬ Obligations.BrushInstructionsStayInCore := by
  unfold Obligations.BrushInstructionsStayInCore
  intro h
  have hcompletes := (h doneStray rfl).1 67 0 (.bcDone 67) (List.mem_iff_getElem?.mpr ⟨52, rfl⟩)
  obtain ⟨_, hregs⟩ := hcompletes.of_runCore rfl
  exact doneStray_writes_flash (hregs R.FLASH_STATUS (by decide))

/-- Customer brushwork holds core 21, which runs a task whose slot word would be the first register of the FLASH window. -/
def custStray : State := custWith fun c => (c.setBcState 21 3).setBc 21 { task := some (slotFor R.FLASH_STATUS) }

/-- BRUSH_STOP of logical core 20. -/
theorem custStray_writes_flash :
    (flushTrace custStray.mem (easel opBrushStop brushStopBody (pkX [20]) custStray.core)).1.get R.FLASH_STATUS ≠
      custStray.core.get R.FLASH_STATUS := by
  decide +kernel

/-- Refutes O56: BRUSH_STOP takes the core's task off it and frees its slot, which the statement does not bound either. -/
theorem not_easelSettingsReachOwnPartsOnly : ¬ Obligations.EaselSettingsReachOwnPartsOnly := by
  unfold Obligations.EaselSettingsReachOwnPartsOnly
  intro h
  obtain ⟨_, _, _, _, _, _, _, _, _, _, _, _, _, _, _, _, _, _, _, _, _, _, _, _, _, _, _, _, _, _, _, _, _, _, _, _, _, _, _,
    stop⟩ := h custStray rfl
  have hcompletes := stop (pkX [20]) (.brushStop (pkX [20])) (List.mem_iff_getElem?.mpr ⟨1, rfl⟩)
  obtain ⟨_, hregs⟩ := hcompletes.of_runCore (f := easel opBrushStop brushStopBody (pkX [20])) rfl
  have hkept := hregs R.FLASH_STATUS (by decide)
  dsimp only at hkept
  exact custStray_writes_flash hkept

/-! ### A gate list of a port beyond P3 (R366) -/

/-- A port 4, which the module does not have, runs a gate list and stands at its entry 1. Its registers would lie in the MEDIA
window. -/
def portFour : State := runWith fun c =>
  let c := (c.setF (F.NET_STATUS_GATE_RUN 4) 1).setF (F.NET_GATE_STATUS_OPER_INDEX 4) 1
  c.setNetPort 4 { c.netPort 4 with cycle := 1, holdEntry := some 0 }

theorem portFour_writes_media :
    (flushTrace portFour.mem (gateCycleStart 4 portFour.core)).1.get (R.NET_GATE_STATUS 4) ≠
      portFour.core.get (R.NET_GATE_STATUS 4) := by
  decide +kernel

/-- Refutes O58: its row of GATE_CYCLE_START names the windows of the network ports and no bound on the port. -/
theorem not_systemEventsReachOwnPartsOnly : ¬ Obligations.SystemEventsReachOwnPartsOnly := by
  unfold Obligations.SystemEventsReachOwnPartsOnly
  intro h
  obtain ⟨_, _, _, _, _, _, _, _, _, _, _, _, _, _, _, _, _, _, _, _, _, _, gates, _⟩ := h portFour rfl
  have hcompletes := gates 4 0 0 0 [] (.gateCycleStart 4) (List.mem_iff_getElem?.mpr ⟨1, rfl⟩)
  obtain ⟨_, _, hregs⟩ := hcompletes.of_runCore rfl
  exact portFour_writes_media (hregs (R.NET_GATE_STATUS 4) (by decide))

end Sys2Proof.Machine
end

section
/-! O55: the switchover shows the state of every transmit stream, and the statement does not bound their numbers. -/

namespace Sys2Proof.Machine
open Sys2Proof Sys2Proof.Tests

/-- The number of a transmit stream whose MEDIA_TX_STATE would stand where CALIPER_INT_ENABLE does: the module has streams 0 to
255. -/
def strayStream : Nat := (R.CALIPER_INT_ENABLE - R.MEDIA_TX_STATE 0) / 0x40

/-- An ACTIVE module with a READY partner of the same media, which holds a transmit stream of that number. -/
def activeStray : State := twinWith 2 fun c =>
  let c := ((c.setF F.TWIN_STATUS_MEDIA_MATCH 1).setF F.TWIN_STATUS_PARTNER_FLAGS 32).put R.CALIPER_INT_ENABLE 1
  { c with net := { c.net with tx := [(strayStream, {})] } }

theorem activeStray_writes_caliper :
    (flushTrace activeStray.mem (easel opTwinSwitchover twinSwitchoverBody (pk [0]) activeStray.core)).1.get R.CALIPER_INT_ENABLE ≠
      activeStray.core.get R.CALIPER_INT_ENABLE := by
  decide +kernel

/-- Refutes O55: an accepted TWIN_SWITCHOVER has the states of the transmit streams follow the role of the module, and that of
`strayStream` lies outside the windows named. -/
theorem not_easelReadsLeaveModuleAlone : ¬ Obligations.EaselReadsLeaveModuleAlone := by
  unfold Obligations.EaselReadsLeaveModuleAlone
  intro h
  obtain ⟨_, _, _, _, _, _, _, _, _, _, switchover, _⟩ := h activeStray rfl
  obtain ⟨_, _, hregs⟩ := (switchover (pk [0])).of_runCore (f := easel opTwinSwitchover twinSwitchoverBody (pk [0])) rfl
  have hkept := hregs R.CALIPER_INT_ENABLE (by decide)
  dsimp only at hkept
  exact activeStray_writes_caliper hkept

end Sys2Proof.Machine
end

section
/-! Reading registers back through what the shared operations of the model do to them: fields, interrupts, counters, notices, and
what follows the body of an opcode. -/

namespace Sys2Proof.Machine
open Sys2Proof

/-! ### Interrupts (R171) -/

theorem Core.get_raise (c : Core) (x : Field) (off : Nat) : (c.raise x).get off = (c.setF x 1).get off :=
  get_of_regs (c.raise_regs x) off

/-- A field of one bit shows whether it was set. -/
theorem Core.flag_setF_bit (c : Core) (o k v : Nat) (hk : k < 32) : (c.setF ⟨o, k, k⟩ v).flag ⟨o, k, k⟩ = decide (v % 2 ≠ 0) := by
  unfold Core.flag
  rw [c.f_setF_field v (le_refl k) hk, Nat.sub_self, zero_add, pow_one]

/-- An interrupt shows in its status bit. -/
theorem Core.flag_raise_same (c : Core) (o k : Nat) (hk : k < 32) : (c.raise ⟨o, k, k⟩).flag ⟨o, k, k⟩ = true := by
  unfold Core.flag
  rw [Core.f_raise, c.f_setF_field 1 (le_refl k) hk, Nat.sub_self]
  rfl

theorem Core.f_raise_off (c : Core) {x y : Field} (h : y.off ≠ x.off) : (c.raise x).f y = c.f y := Core.f_congr (c.get_raise_ne h)

theorem Core.flag_raise_off (c : Core) {x y : Field} (h : y.off ≠ x.off) : (c.raise x).flag y = c.flag y :=
  Core.flag_congr (c.get_raise_ne h)

/-- A status bit that is set stays so when any bit is set. -/
theorem Core.flag_setF_mono (c : Core) {o k j : Nat} (hk : k < 32) (hj : j < 32) (h : c.flag ⟨o, k, k⟩ = true) :
    (c.setF ⟨o, j, j⟩ 1).flag ⟨o, k, k⟩ = true := by
  by_cases e : j = k
  · subst e
    rw [c.flag_setF_bit o j 1 hk]
    rfl
  · unfold Core.flag at h ⊢
    rwa [c.f_setF_beside 1 (le_refl j) hj (le_refl k) (by omega)]

theorem Core.flag_raise_mono (c : Core) {o k j : Nat} (hk : k < 32) (hj : j < 32) (h : c.flag ⟨o, k, k⟩ = true) :
    (c.raise ⟨o, j, j⟩).flag ⟨o, k, k⟩ = true := by
  have := c.flag_setF_mono hk hj h
  unfold Core.flag at this ⊢
  rwa [Core.f_raise]

/-! ### Counters (R16) -/

/-- The SAT interrupt of a block stands in its status register, at 4 of the window. -/
theorem satField_off {r : Nat} {x : Field} (h : satField r = some x) : x.off % 0x100000 = 4 := by
  unfold satField at h
  split at h
  case h_18 =>
    split at h
    · simp only [Option.some.injEq] at h
      subst h
      simp only [F.NET_INT_STATUS_SAT, R.NET_INT_STATUS]
      omega
    · simp at h
  all_goals
    simp only [Option.some.injEq] at h
    subst h
    decide

theorem halfField_off {r : Nat} {x : Field} (h : halfField r = some x) : x.off % 0x100000 = 4 := by
  unfold halfField at h
  split at h
  case h_18 =>
    split at h
    · simp only [Option.some.injEq] at h
      subst h
      simp only [F.NET_INT_STATUS_HALF_RANGE, R.NET_INT_STATUS]
      omega
    · simp at h
  all_goals
    simp only [Option.some.injEq] at h
    subst h
    decide

theorem Core.get_raise?_ne (c : Core) {x : Option Field} {off : Nat} (hx : ∀ y, x = some y → off ≠ y.off) :
    (c.raise? x).get off = c.get off := by
  cases x with
  | none => rfl
  | some y => exact c.get_raise_ne (hx y rfl)

/-- A counter of class S changes no register but its own and the status register of its block. -/
theorem Core.get_countN_ne (c : Core) {r off : Nat} (n : Nat) (h : off ≠ r) (hint : off % 0x100000 ≠ 4) :
    (c.countN r n).get off = c.get off := by
  unfold Core.countN Core.countS
  dsimp only
  split
  · rw [Core.get_raise?_ne _ fun y hy e => hint (by rw [e]; exact satField_off hy), Core.get_setF_off _ _ h, Core.get_setF_off _ _ h]
  · exact c.get_setF_off _ h

theorem Core.get_count_ne (c : Core) {r off : Nat} (h : off ≠ r) (hint : off % 0x100000 ≠ 4) : (c.count r).get off = c.get off :=
  c.get_countN_ne 1 h hint

theorem Core.f_count_off (c : Core) {r : Nat} {x : Field} (h : x.off ≠ r) (hint : x.off % 0x100000 ≠ 4) : (c.count r).f x = c.f x :=
  Core.f_congr (c.get_count_ne h hint)

theorem Core.flag_count_off (c : Core) {r : Nat} {x : Field} (h : x.off ≠ r) (hint : x.off % 0x100000 ≠ 4) :
    (c.count r).flag x = c.flag x :=
  Core.flag_congr (c.get_count_ne h hint)

theorem Core.f_count_reg (c : Core) {r o hi lo : Nat} (h : o ≠ r) (hint : o % 0x100000 ≠ 4) :
    (c.count r).f ⟨o, hi, lo⟩ = c.f ⟨o, hi, lo⟩ := c.f_count_off h hint

/-- A counter of class S advances up to all ones. -/
theorem Core.f_countN_same (c : Core) {r : Nat} (n : Nat) (hint : r % 0x100000 ≠ 4) :
    (c.countN r n).f ⟨r, 15, 0⟩ = min (c.f ⟨r, 15, 0⟩ + n) 65535 := by
  have hset : (c.setF ⟨r, 15, 0⟩ (min (c.f ⟨r, 15, 0⟩ + n) 65535)).f ⟨r, 15, 0⟩ = min (c.f ⟨r, 15, 0⟩ + n) 65535 := by
    rw [c.f_setF_field _ (by decide) (by decide)]
    omega
  unfold Core.countN Core.countS
  dsimp only
  split
  · rw [Core.f_congr (Core.get_raise?_ne _ fun y hy (e : r = y.off) => hint (by rw [e]; exact satField_off hy)),
      Core.f_setF_beside _ _ (by decide) (by decide) (by decide) (by decide)]
    exact hset
  · exact hset

theorem Core.f_count_same (c : Core) {r : Nat} (hint : r % 0x100000 ≠ 4) :
    (c.count r).f ⟨r, 15, 0⟩ = min (c.f ⟨r, 15, 0⟩ + 1) 65535 := c.f_countN_same 1 hint

/-- A counter of class W advances and wraps. -/
theorem Core.get_countW_plain (c : Core) {r : Nat} (n : Nat) (hint : r % 0x100000 ≠ 4) :
    (c.countW r n).get r = c.get r + .ofNat 32 n :=
  c.get_countW_same n fun _ hy e => hint (by rw [e]; exact halfField_off hy)

theorem Core.get_countW_ne (c : Core) {r off : Nat} (n : Nat) (h : off ≠ r) (hint : off % 0x100000 ≠ 4) :
    (c.countW r n).get off = c.get off := by
  unfold Core.countW
  dsimp only
  split
  · rw [Core.get_raise?_ne _ fun y hy e => hint (by rw [e]; exact halfField_off hy), Core.get_put_ne _ _ h]
  · exact c.get_put_ne _ h

theorem Core.f_countW_off (c : Core) {r : Nat} {x : Field} (n : Nat) (h : x.off ≠ r) (hint : x.off % 0x100000 ≠ 4) :
    (c.countW r n).f x = c.f x :=
  Core.f_congr (c.get_countW_ne n h hint)

/-- The SAT and HALF_RANGE interrupts are single bits. -/
theorem satField_bit {r : Nat} {x : Field} (h : satField r = some x) : x.lo = x.hi ∧ x.hi < 32 := by
  unfold satField at h
  split at h
  case h_18 =>
    split at h
    · simp only [Option.some.injEq] at h
      subst h
      exact ⟨rfl, by simp only [F.NET_INT_STATUS_SAT]; decide⟩
    · simp at h
  all_goals
    simp only [Option.some.injEq] at h
    subst h
    decide

/-- A status bit that is set stays so when another may be set. -/
theorem Core.flag_raise?_mono (c : Core) {o k : Nat} {x : Option Field} (hk : k < 32) (hx : ∀ y, x = some y → y.lo = y.hi ∧ y.hi < 32)
    (h : c.flag ⟨o, k, k⟩ = true) : (c.raise? x).flag ⟨o, k, k⟩ = true := by
  cases x with
  | none => exact h
  | some y =>
    obtain ⟨o', hi, lo⟩ := y
    obtain ⟨hbit, hlt⟩ := hx _ rfl
    obtain rfl : lo = hi := hbit
    by_cases e : o' = o
    · subst e
      exact c.flag_raise_mono hk hlt h
    · exact (c.flag_raise_off (Ne.symm e)).trans h

theorem Core.flag_count_mono (c : Core) {o k r : Nat} (hk : k < 32) (hr : o ≠ r) (h : c.flag ⟨o, k, k⟩ = true) :
    (c.count r).flag ⟨o, k, k⟩ = true := by
  have hset : ∀ (d : Core) (hi lo v : Nat), (d.setF ⟨r, hi, lo⟩ v).flag ⟨o, k, k⟩ = d.flag ⟨o, k, k⟩ := fun d _ _ v =>
    Core.flag_congr (d.get_setF_off v hr)
  unfold Core.count Core.countN Core.countS
  dsimp only
  split
  · refine Core.flag_raise?_mono _ hk (fun _ hy => satField_bit hy) ?_
    rwa [hset, hset]
  · rwa [hset]

/-! ### Notices -/

theorem Core.get_notice?_away (c : Core) {t : Option Tok} {st : Status} {l : List Byte} {off : Nat} (h : window off ≠ 3)
    (h' : window off ≠ 15) : (c.notice? t st l).get off = c.get off := by
  cases t with
  | none => rfl
  | some t => exact c.get_notice_away h h'

/-! ### Folds over units -/

/-- A register that each step of a fold writes for its own unit only holds what the step of that unit writes. -/
theorem get_foldl_put {β : Type} (reg : β → Nat) (w : β → Word) (hinj : ∀ a b, reg a = reg b → a = b) (l : List β) (c : Core)
    {b : β} (hb : b ∈ l) : (l.foldl (fun (c : Core) a => c.put (reg a) (w a)) c).get (reg b) = w b := by
  induction l using List.reverseRecOn with
  | nil => cases hb
  | append_singleton l a ih =>
    rw [List.foldl_append]
    by_cases e : reg b = reg a
    · obtain rfl := hinj _ _ e
      exact Core.get_put_same _ _ _
    · refine (Core.get_put_ne _ _ e).trans (ih ?_)
      rcases List.mem_append.mp hb with h | h
      · exact h
      · exact absurd (congrArg reg (List.mem_singleton.mp h)) e

theorem get_foldl_put_ne {β : Type} (reg : β → Nat) (w : β → Word) (l : List β) (c : Core) {off : Nat}
    (h : ∀ a ∈ l, off ≠ reg a) : (l.foldl (fun (c : Core) a => c.put (reg a) (w a)) c).get off = c.get off := by
  induction l generalizing c with
  | nil => rfl
  | cons a t ih =>
    exact (ih (c.put (reg a) (w a)) fun b hb => h b (List.mem_cons_of_mem _ hb)).trans
      (c.get_put_ne _ (h a List.mem_cons_self))

/-! ### Completion -/

section Completion
variable {i : Instr} {s : State} {P : State → Prop}

/-- A command without memory accesses whose meaning on this state is known, and which leaves Atelier alone. -/
theorem completes_of_eq {f : Core → Core} {d : Core} (e : exec i s = runCore f s) (hq : s.quiet = true) (hd : f s.core = d)
    (hatl : d.atl = s.core.atl) (hp : P { s with core := d }) : Completes i s P := by
  refine completes_of_runCore e ?_ (by rwa [hd])
  rw [hd, hatl]
  exact State.trace_of_quiet hq

/-- What follows the body of an opcode: the answer has been told, and nothing of the module has changed but the host interface,
the network, the twin link and the windows of HOST and port P3. -/
structure Follows (p : Packet) (st : Status) (bs : List Byte) (d t : Core) : Prop where
  told : t.told p = some (statusCode st, bs)
  still : t.still = d.still
  get : ∀ {off : Nat}, window off ≠ 3 → window off ≠ 15 → t.get off = d.get off

namespace Follows
variable {p : Packet} {st : Status} {bs : List Byte} {d t : Core} (h : Follows p st bs d t)
include h

theorem f {x : Field} (h3 : window x.off ≠ 3) (h15 : window x.off ≠ 15) : t.f x = d.f x := Core.f_congr (h.get h3 h15)

theorem flag {x : Field} (h3 : window x.off ≠ 3) (h15 : window x.off ≠ 15) : t.flag x = d.flag x := Core.flag_congr (h.get h3 h15)

theorem power : t.power = d.power := (congrArg Core.power h.still :)
theorem clk : t.clk = d.clk := (congrArg Core.clk h.still :)
theorem time : t.time = d.time := (congrArg Core.time h.still :)
theorem cfg : t.cfg = d.cfg := (congrArg Core.cfg h.still :)
theorem scene : t.scene = d.scene := (congrArg Core.scene h.still :)
theorem cal : t.cal = d.cal := (congrArg Core.cal h.still :)
theorem mon : t.mon = d.mon := (congrArg Core.mon h.still :)
theorem out : t.out = d.out := (congrArg Core.out h.still :)
theorem flash : t.flash = d.flash := (congrArg Core.flash h.still :)
theorem brush : t.brush = d.brush := (congrArg Core.brush h.still :)
theorem survey : t.survey = d.survey := (congrArg Core.survey h.still :)
theorem arm : t.arm = d.arm := (congrArg Core.arm h.still :)

end Follows

/-- An opcode whose body leaves sessions and Atelier alone completes with what follows its answer. -/
theorem completes_of_body {o : Opc} {p : Packet} {body : Body} {d : Core} {st : Status} {bs : List Byte}
    (e : exec i s = runCore (easel o body p) s) (hadmits : s.core.admits o p = true) (hq : s.quiet = true)
    (hcode : o.code ≠ 0x0100) (hbody : body (s.core.offered o p) (reqOf o p) = (d, st, bs))
    (hby : d.bystanders = (s.core.offered o p).bystanders)
    (hp : ∀ t : Core, Follows p st bs d t → P { s with core := t }) : Completes i s P :=
  completes_of_answer e hadmits hq hcode hbody (congrArg Prod.fst hby) (congrArg Prod.snd hby)
    fun htold => hp _ ⟨htold, Core.settled_still o p _, fun h3 h15 => Core.get_settled_away h3 h15⟩

end Completion

end Sys2Proof.Machine
end

section
/-! The Survey detectors and the PDM inputs (R293 to R298, R320): what each command leaves in their registers and their part, and
O28. -/

namespace Sys2Proof.Machine
open Sys2Proof

/-! ### Detectors (R298) -/

/-- The sums of a channel's RMS window begin anew. -/
def Core.rmsRestart (c : Core) (n : Nat) : Core :=
  { c with survey := { c.survey with rms := smSet (fun _ => (0, 0)) c.survey.rms n (0, 0) } }

theorem Core.rms_rmsRestart (c : Core) (n : Nat) : smGet (fun _ => (0, 0)) (c.rmsRestart n).survey.rms n = (0, 0) :=
  smGet_smSet_same (fun _ => ((0 : Nat), (0 : Nat))) c.survey.rms n (0, 0)

theorem Core.rmsRestart_atl (c : Core) (n : Nat) : (c.rmsRestart n).atl = c.atl := rfl

theorem Core.f_rmsRestart (c : Core) (n : Nat) (x : Field) : (c.rmsRestart n).f x = c.f x := rfl

theorem detectorRmsWindow_complete {n : Nat} {c : Core} (hn : n < 16)
    (hlen : c.rmsLen ≤ (smGet (fun _ => (0, 0)) c.survey.rms n).2) :
    detectorRmsWindow n c = (c.setF (F.SURVEY_DET_RMS_RMS n) (isqrt ((smGet (fun _ => (0, 0)) c.survey.rms n).1 /
      (smGet (fun _ => (0, 0)) c.survey.rms n).2))).rmsRestart n := by
  unfold detectorRmsWindow
  exact if_neg (by omega)

theorem surveyBody_allowed {b : Body} {c : Core} {r : Req} (hrate : c.clk.mult ≠ 2) : surveyBody b c r = b c r := if_neg hrate

theorem detectorConfigBody_stores {c : Core} {r : Req} (hrate : c.clk.mult ≠ 2)
    (hres : bitsOf (r.w 0) 7 3 = 0 ∧ bitsOf (r.w 0) 31 28 = 0)
    (hrange : bitsOf (r.w 0) 2 0 ≤ 6 ∧ bitsOf (r.w 0) 15 8 ≠ 0 ∧ bitsOf (r.w 0) 27 16 ≠ 0) :
    detectorConfigBody c r = ans (c.put R.SURVEY_DET_CTRL (r.w 0)) .ok := by
  unfold detectorConfigBody
  rw [surveyBody_allowed hrate]
  dsimp only
  rw [if_neg (by omega), if_neg (by omega)]

/-! ### PDM chains (R292 to R297) -/

/-- A register of a PDM channel takes a word but for D1, which is firmware's (R320). -/
def Core.pdmSet (c : Core) (n : Nat) (w : Word) : Core :=
  (c.put (R.PDM_CH_CTRL n) w).setF (F.PDM_CH_CTRL_D1 n) (c.f (F.PDM_CH_CTRL_D1 n))

theorem Core.get_pdmSet_ne (c : Core) {n off : Nat} (w : Word) (h : off ≠ R.PDM_CH_CTRL n) : (c.pdmSet n w).get off = c.get off :=
  (Core.get_setF_ne _ _ h).trans (c.get_put_ne w h)

/-- Bits 2 and 1 of a word replaced by those of another. -/
theorem withBits_d1 (w v : Word) : withBits w 2 1 (bitsOf v 2 1) = (w &&& ~~~6) ||| (v &&& 6) := by
  apply BitVec.eq_of_getLsbD_eq
  intro i hi
  have hword : (withBits w 2 1 (bitsOf v 2 1)).toNat = w.toNat % 2 + v.toNat / 2 % 4 * 2 + w.toNat / 8 * 8 := by
    rw [withBits_toNat w _ (by decide) (by decide)]
    unfold bitsOf
    omega
  have hleft : (withBits w 2 1 (bitsOf v 2 1)).getLsbD i =
      decide ((w.toNat % 2 + v.toNat / 2 % 4 * 2 + w.toNat / 8 * 8) / 2 ^ i % 2 = 1) := by
    rw [← BitVec.testBit_toNat, Nat.testBit_eq_decide_div_mod_eq, hword]
  have hmask : ∀ x : Word, x.getLsbD i = decide (x.toNat / 2 ^ i % 2 = 1) := fun x => by
    rw [← BitVec.testBit_toNat, Nat.testBit_eq_decide_div_mod_eq]
  rw [hleft, BitVec.getLsbD_or, BitVec.getLsbD_and, BitVec.getLsbD_and, BitVec.getLsbD_not, hmask w, hmask v]
  by_cases h : 3 ≤ i
  · obtain ⟨j, rfl⟩ := Nat.exists_eq_add_of_le h
    have hsix : (6 : Word).getLsbD (3 + j) = false := by
      rw [← BitVec.testBit_toNat]
      exact Nat.testBit_lt_two_pow (lt_of_lt_of_le (by decide : 6 < 2 ^ 3) (Nat.pow_le_pow_right (by decide) (Nat.le_add_right 3 j)))
    have hdiv : (w.toNat % 2 + v.toNat / 2 % 4 * 2 + w.toNat / 8 * 8) / 2 ^ (3 + j) = w.toNat / 2 ^ (3 + j) := by
      rw [pow_add, ← Nat.div_div_eq_div_mul, ← Nat.div_div_eq_div_mul]
      congr 1
      omega
    rw [hdiv, hsix]
    simp [hi]
  · have : i = 0 ∨ i = 1 ∨ i = 2 := by omega
    rcases this with rfl | rfl | rfl <;> simp <;> omega

theorem Core.get_pdmSet_same (c : Core) (n : Nat) (w : Word) :
    (c.pdmSet n w).get (R.PDM_CH_CTRL n) = (w &&& ~~~6) ||| (c.get (R.PDM_CH_CTRL n) &&& 6) := by
  have hput : ((c.put (R.PDM_CH_CTRL n) w).get (R.PDM_CH_CTRL n)) = w := c.get_put_same _ _
  calc (c.pdmSet n w).get (R.PDM_CH_CTRL n)
    _ = withBits ((c.put (R.PDM_CH_CTRL n) w).get (R.PDM_CH_CTRL n)) 2 1 (bitsOf (c.get (R.PDM_CH_CTRL n)) 2 1) :=
      Core.get_put_same _ _ _
    _ = _ := by rw [hput, withBits_d1]

/-- Each channel's register takes its own word. -/
theorem get_foldl_pdmSet (w : Nat → Word) (m : Nat) (c : Core) (n : Nat) :
    ((List.range m).foldl (fun (c : Core) n => c.pdmSet n (w n)) c).get (R.PDM_CH_CTRL n) =
      if n < m then (w n &&& ~~~6) ||| (c.get (R.PDM_CH_CTRL n) &&& 6) else c.get (R.PDM_CH_CTRL n) := by
  induction m with
  | zero => rfl
  | succ m ih =>
    rw [List.range_succ, List.foldl_append]
    by_cases e : n = m
    · subst e
      exact (Core.get_pdmSet_same _ n (w n)).trans (by rw [ih]; simp)
    · have hreg : R.PDM_CH_CTRL n ≠ R.PDM_CH_CTRL m := by unfold R.PDM_CH_CTRL; omega
      refine (Core.get_pdmSet_ne _ (w m) hreg).trans (ih.trans ?_)
      by_cases h : n < m
      · rw [if_pos h, if_pos (by omega)]
      · rw [if_neg h, if_neg (by omega)]

theorem pdmConfigBody_sets {c : Core} {r : Req} (hrate : c.clk.mult ≠ 2) (hclk : r.w 0 &&& 0xFFFFCCCC = 0)
    (hch : ∀ n : Nat, n < 16 → r.w (1 + n) &&& 0xFF00F008 = 0) :
    pdmConfigBody c r =
      ans ((List.range 16).foldl (fun (c : Core) n => c.pdmSet n (r.w (1 + n))) (c.put R.PDM_CLK_CTRL (r.w 0))) .ok := by
  have hclk' : (r.w 0).toNat &&& 0xFFFFCCCC = 0 := congrArg BitVec.toNat hclk
  have hch' : ((List.range 16).any fun n => decide (r.n (1 + n) &&& 0xFF00F008 ≠ 0)) = false := by
    rw [List.any_eq_false]
    intro n hn
    have := congrArg BitVec.toNat (hch n (List.mem_range.mp hn))
    exact fun h => absurd this (of_decide_eq_true h)
  unfold pdmConfigBody
  rw [surveyBody_allowed hrate]
  dsimp only
  rw [hch', if_neg (by simp [hclk'])]
  rfl

theorem pdmFirLoadBody_loads {c : Core} {r : Req} (hrate : c.clk.mult ≠ 2)
    (hcoef : ∀ k : Nat, k < 32 → (sext? 24 (r.w k)).isSome = true)
    (hoff : ∀ n : Nat, n < 16 → c.flag (F.PDM_CH_CTRL_EN n) = false) :
    pdmFirLoadBody c r = ans ((List.range 32).foldl (fun (c : Core) k => c.put (R.PDM_FIR_COEF k) (r.w k)) c) .ok := by
  have hcoef' : ((List.range 32).any fun k => (sext? 24 (r.w k)).isNone) = false := by
    rw [List.any_eq_false]
    intro k hk
    simp [Option.isSome_iff_ne_none.mp (hcoef k (List.mem_range.mp hk))]
  have hoff' : ((List.range 16).any fun n => c.flag (F.PDM_CH_CTRL_EN n)) = false := by
    rw [List.any_eq_false]
    intro n hn
    simp [hoff n (List.mem_range.mp hn)]
  unfold pdmFirLoadBody
  rw [surveyBody_allowed hrate, hcoef', hoff']
  rfl

theorem pdmHoldEnd_fades {n : Nat} {c : Core} (hn : n < 16) (hhold : (c.pdm n).hold = some 0) :
    pdmHoldEnd n c = ((c.setPdm n { c.pdm n with hold := none, fadeAt := some (c.now, c.glaze) }).setF ⟨R.PDM_STATUS, n, n⟩ 1).raise
      F.PDM_INT_STATUS_SETTLED := by
  unfold pdmHoldEnd
  exact if_neg (by simp [hhold]; omega)

theorem pdmStuck_counts {n : Nat} {c : Core} (hn : n < 16) (hrun : (c.pdm n).run.isSome = true) (hstuck : (c.pdm n).stuck = false) :
    pdmStuck n c = ((((c.setPdm n { c.pdm n with stuck := true, stuckAt := some c.now }).setF ⟨R.PDM_STATUS, n, n⟩ 0).setF
      ⟨R.PDM_STATUS, 16 + n, 16 + n⟩ 1).count R.PDM_STUCK_COUNT).raise F.PDM_INT_STATUS_STUCK := by
  obtain ⟨x, hx⟩ := Option.isSome_iff_exists.mp hrun
  unfold pdmStuck
  exact if_neg (by simp [hx, hstuck]; omega)

theorem pdmTransitionsReturn_holds {n : Nat} {c : Core} (hn : n < 16) (hstuck : (c.pdm n).stuck = true) :
    pdmTransitionsReturn n c = (c.setPdm n { c.pdm n with
      stuck := false, stuckAt := none, fadeAt := none, hold := some (c.pdmHold n) }).setF ⟨R.PDM_STATUS, 16 + n, 16 + n⟩ 0 := by
  unfold pdmTransitionsReturn
  exact if_neg (by simp [hstuck]; omega)

theorem Core.pdm_setPdm_same (c : Core) (n : Nat) (x : PdmChain) : (c.setPdm n x).pdm n = x := smGet_smSet_same _ _ _ _

theorem Core.pdm_of_survey {c d : Core} (h : c.survey = d.survey) (n : Nat) : c.pdm n = d.pdm n := by
  unfold Core.pdm
  rw [h]

/-! ### Completion -/

/-- Settles O28: each command reduces to the one branch that its hypotheses leave, whose registers are each written once. -/
theorem detectorsAndPdmComplete : Obligations.DetectorsAndPdmComplete := by
  unfold Obligations.DetectorsAndPdmComplete
  refine ⟨?get, ?config, ?window, ?pdmConfig, ?fir, ?holdEnd, ?stuck, ?returns⟩
  case get =>
    intro s p n c r hadmits hq hrate hn
    refine completes_of_body rfl hadmits hq (by decide) (surveyBody_allowed hrate)
      (foldl_keeps Core.bystanders (fun (d : Core) n => d.put (R.SURVEY_DET_PEAK n) 0) (fun _ _ => rfl) _ _)
      fun t h => ⟨h.told, ?_, ?_⟩
    · rw [State.core_of_core, h.get (by unfold window R.SURVEY_DET_PEAK; omega) (by unfold window R.SURVEY_DET_PEAK; omega)]
      exact get_foldl_put R.SURVEY_DET_PEAK (fun _ => 0) (fun a b e => by unfold R.SURVEY_DET_PEAK at e; omega) _ _
        (List.mem_range.mpr hn)
    · rw [State.core_of_core, h.get (by unfold window R.SURVEY_DET_RMS; omega) (by unfold window R.SURVEY_DET_RMS; omega)]
      exact get_foldl_put_ne R.SURVEY_DET_PEAK (fun _ => 0) _ _ fun a _ => by unfold R.SURVEY_DET_RMS R.SURVEY_DET_PEAK; omega
  case config =>
    intro s p c r hadmits hq hrate hres hrange
    refine completes_of_body rfl hadmits hq (by decide) (detectorConfigBody_stores hrate hres hrange) rfl fun t h => ⟨h.told, ?_⟩
    rw [State.core_of_core, h.get (by decide) (by decide), Core.get_put_same]
  case window =>
    intro s n hq hn hlen
    refine completes_of_eq rfl hq (detectorRmsWindow_complete hn hlen)
      ((Core.rmsRestart_atl _ _).trans (Core.setF_atl _ _ _)) ⟨Core.rms_rmsRestart _ n, ?_⟩
    rw [State.core_of_core, Core.f_rmsRestart, F.SURVEY_DET_RMS_RMS, Core.f_setF_field _ _ (by decide) (by decide),
      Nat.sub_zero]
  case pdmConfig =>
    intro s p n c r hadmits hq hrate hclk hch hn
    refine completes_of_body rfl hadmits hq (by decide) (pdmConfigBody_sets hrate hclk hch)
      (foldl_keeps Core.bystanders (fun (d : Core) n => d.pdmSet n (r.w (1 + n))) (fun _ _ => rfl) _ _)
      fun t h => ⟨h.told, ?_, ?_⟩
    · rw [State.core_of_core, h.get (by decide) (by decide)]
      refine (foldl_keeps (Core.get · R.PDM_CLK_CTRL) (fun (d : Core) n => d.pdmSet n (r.w (1 + n)))
        (fun d n => d.get_pdmSet_ne _ (by unfold R.PDM_CLK_CTRL R.PDM_CH_CTRL; omega)) _ _).trans (Core.get_put_same _ _ _)
    · rw [State.core_of_core, h.get (by unfold window R.PDM_CH_CTRL; omega) (by unfold window R.PDM_CH_CTRL; omega)]
      refine (get_foldl_pdmSet (fun n => r.w (1 + n)) 16 _ n).trans ?_
      rw [if_pos hn, Core.get_put_ne _ _ (by unfold R.PDM_CH_CTRL R.PDM_CLK_CTRL; omega)]
  case fir =>
    intro s p k c r hadmits hq hrate hcoef hoff hk
    refine completes_of_body rfl hadmits hq (by decide) (pdmFirLoadBody_loads hrate hcoef hoff)
      (foldl_keeps Core.bystanders (fun (d : Core) k => d.put (R.PDM_FIR_COEF k) (r.w k)) (fun _ _ => rfl) _ _)
      fun t h => ⟨h.told, ?_⟩
    rw [State.core_of_core, h.get (by unfold window R.PDM_FIR_COEF; omega) (by unfold window R.PDM_FIR_COEF; omega)]
    exact get_foldl_put R.PDM_FIR_COEF (fun k => r.w k) (fun a b e => by unfold R.PDM_FIR_COEF at e; omega) _ _ (List.mem_range.mpr hk)
  case holdEnd =>
    intro s n hq hn hhold
    have hint : R.PDM_STATUS ≠ R.PDM_INT_STATUS := by decide
    refine completes_of_eq rfl hq (pdmHoldEnd_fades hn hhold) (Core.raise_atl _ _) ⟨?_, ?_, ?_⟩
    · exact (Core.pdm_of_survey (Core.raise_survey _ _) n).trans (Core.pdm_setPdm_same _ _ _)
    · rw [State.core_of_core, Core.flag_raise_off _ hint, Core.flag_setF_bit _ _ _ _ (by omega)]
      rfl
    · exact Core.flag_raise_same _ _ _ (by decide)
  case stuck =>
    intro s n hq hn hrun hstuck
    have hint : R.PDM_STATUS ≠ R.PDM_INT_STATUS := by decide
    have hcount : R.PDM_STATUS ≠ R.PDM_STUCK_COUNT := by decide
    have hwindow : R.PDM_STATUS % 0x100000 ≠ 4 := by decide
    refine completes_of_eq rfl hq (pdmStuck_counts hn hrun hstuck) ((Core.raise_atl _ _).trans (Core.count_atl _ _)) ⟨?_, ?_, ?_, ?_, ?_⟩
    · exact (Core.pdm_of_survey ((Core.raise_survey _ _).trans (Core.count_survey _ _)) n).trans (Core.pdm_setPdm_same _ _ _)
    · rw [State.core_of_core, Core.flag_raise_off _ hint, Core.flag_count_off _ hcount hwindow]
      unfold Core.flag
      rw [Core.f_setF_beside _ _ (by omega) (by omega) (by omega) (by omega), Core.f_setF_field _ _ (by omega) (by omega)]
      simp
    · rw [State.core_of_core, Core.flag_raise_off _ hint, Core.flag_count_off _ hcount hwindow,
        Core.flag_setF_bit _ _ _ _ (by omega)]
      rfl
    · rw [State.core_of_core, Core.f_raise_off _ (by decide), Core.f_count_same _ (by decide), Core.f_setF_off _ _ (by decide),
        Core.f_setF_off _ _ (by decide)]
      rfl
    · exact Core.flag_raise_same _ _ _ (by decide)
  case returns =>
    intro s n hq hn hstuck
    refine completes_of_eq rfl hq (pdmTransitionsReturn_holds hn hstuck) rfl ⟨?_, ?_⟩
    · exact Core.pdm_setPdm_same s.core n _
    · rw [State.core_of_core, Core.flag_setF_bit _ _ _ _ (by omega)]
      rfl

end Sys2Proof.Machine
end

section
/-! The SMBus port and the PCIe configuration space (R59, R60, R63): the one answer of each access to the module's own address, and
O17. -/

namespace Sys2Proof.Machine
open Sys2Proof

/-! ### The SMBus port (R59, R60) -/

section Port
variable {c : Core} {addr code : Nat} (hon : c.smbusOn = true) (haddr : addr = c.smbusAddr)
include hon haddr

theorem smbusRead_answers {d : List Byte} (hd : c.smbusData code = some d) (n : Nat) :
    c.smbusRead addr code n = c.send (.smbus ((d ++ [pecOf addr code d] ++ List.replicate n 0xFF#8).take n)) := by
  unfold Core.smbusRead
  rw [if_neg (by simp [hon, haddr]), hd]

theorem smbusRead_unknown (hd : c.smbusData code = none) (n : Nat) : c.smbusRead addr code n = c.send .smbusNack := by
  unfold Core.smbusRead
  rw [if_neg (by simp [hon, haddr]), hd]

theorem smbusWrite_refused : smbusWrite addr c = c.send .smbusNack := if_pos ⟨hon, haddr⟩

end Port

/-- No data stands behind a code beyond the eight of R59. -/
theorem smbusData_unknown (c : Core) {code : Nat} (h : 8 ≤ code) : c.smbusData code = none := by
  obtain ⟨k, rfl⟩ := Nat.exists_eq_add_of_le h
  unfold Core.smbusData
  split
  case h_9 => rfl
  all_goals omega

/-- SMB_ALERT_N is released. -/
def Core.alertReleased (c : Core) : Core := { c with power := { c.power with alert := false } }

theorem smbusAlertResponse_answers {c : Core} (hon : c.smbusOn = true) (halert : c.power.alert = true) :
    smbusAlertResponse c = (c.alertReleased.send (.smbus (leBytes 1 (c.smbusAddr * 2)))).send (.pin "SMB_ALERT_N" 0 true) :=
  if_pos ⟨hon, halert⟩

/-- The port takes the values that it shows until the next refresh. -/
def Core.smbusTaken (c : Core) (vin pin : Nat) : Core :=
  { c with power := { c.power with
      smbState := c.f F.SYS_STATUS_STATE, smbFlags := c.smbusFlags, smbVin := min vin 65535, smbPin := min pin 65535,
      smbTdie := c.f F.SYS_TDIE_TDIE, smbTboard := c.f F.SYS_TBOARD_TBOARD } }

theorem smbusRefresh_takes {c : Core} (hon : c.power.vinOn = true) (vin pin : Nat) :
    smbusRefresh vin pin c = ((c.setF F.SYS_VIN_VIN (min vin 65535)).setF F.SYS_PIN_PIN (min pin 65535)).smbusTaken vin pin :=
  if_neg (by simp [hon])

/-! ### The configuration space (R63) -/

section Config
variable {c : Core} (hon : c.power.vinOn = true) (hperst : c.power.perst = false)
include hon hperst

theorem pcieConfigRequest_identity (hready : c.power.endpointReady = true) :
    pcieConfigRequest 0 c = c.send (.config (some 0x51201D9F)) := by
  unfold pcieConfigRequest
  rw [if_neg (by simp [hon, hperst]), if_neg (by simp [hready])]
  rfl

theorem pcieConfigRequest_retry (hready : c.power.endpointReady = false) (reg : Nat) :
    pcieConfigRequest reg c = c.send (.config none) := by
  unfold pcieConfigRequest
  rw [if_neg (by simp [hon, hperst]), if_pos (by simp [hready])]

end Config

/-! ### Completion -/

/-- Settles O17: each access to the module's own address has one answer, and the refresh writes each value once. -/
theorem smbusPortCompletes : Obligations.SmbusPortCompletes := by
  unfold Obligations.SmbusPortCompletes
  refine ⟨?readByte, ?readWord, ?unknown, ?write, ?alert, ?refresh, ?ready, ?retry⟩
  case readByte =>
    intro s addr code extra d hq hon haddr hd
    exact completes_of_eq rfl hq (smbusRead_answers hon haddr hd _) rfl rfl
  case readWord =>
    intro s addr code extra d hq hon haddr hd
    exact completes_of_eq rfl hq (smbusRead_answers hon haddr hd _) rfl rfl
  case unknown =>
    intro s addr code extra hq hon haddr hcode
    exact completes_of_eq rfl hq (smbusRead_unknown hon haddr (smbusData_unknown _ hcode) _) rfl rfl
  case write =>
    intro s addr hq hon haddr
    exact completes_of_eq rfl hq (smbusWrite_refused hon haddr) rfl rfl
  case alert =>
    intro s hq hon halert
    refine completes_of_eq rfl hq (smbusAlertResponse_answers hon halert) rfl ⟨rfl, ?_⟩
    exact List.append_assoc _ _ _
  case refresh =>
    intro s vin pin hq hon
    refine completes_of_eq rfl hq (smbusRefresh_takes hon vin pin) rfl ⟨rfl, rfl, ?_, ?_, ?_⟩
    · exact (Core.f_setF_off _ _ (by decide)).trans (Core.f_setF_off _ _ (by decide))
    · exact (Core.f_setF_off _ _ (by decide)).trans (Core.f_setF_off _ _ (by decide))
    · calc ((s.core.setF F.SYS_VIN_VIN (min vin 65535)).setF F.SYS_PIN_PIN (min pin 65535)).f F.SYS_VIN_VIN
        _ = (s.core.setF F.SYS_VIN_VIN (min vin 65535)).f F.SYS_VIN_VIN := Core.f_setF_off _ _ (by decide)
        _ = min vin 65535 % 2 ^ 16 := Core.f_setF_field _ _ (by decide) (by decide)
        _ = min vin 65535 := by omega
  case ready =>
    rintro s reg hq hon hperst hready rfl
    exact completes_of_eq rfl hq (pcieConfigRequest_identity hon hperst hready) rfl rfl
  case retry =>
    intro s reg hq hon hperst hready
    exact completes_of_eq rfl hq (pcieConfigRequest_retry hon hperst hready reg) rfl rfl

end Sys2Proof.Machine
end

section
/-! Binaural pairs, downmix channels and loudness meters (R260 to R268): one equation for each branch of a body that a statement
speaks of, and O23. -/

namespace Sys2Proof.Machine
open Sys2Proof

/-! ### Commands without a time (R150) -/

theorem untimed_of_admits {c : Core} {o : Opc} {p : Packet} (h : c.admits o p = true) : pkAtTime p = false := by
  simp only [Core.admits, Bool.and_eq_true, Bool.not_eq_true'] at h
  obtain ⟨⟨⟨⟨⟨⟨⟨⟨_, huntimed⟩, _⟩, _⟩, _⟩, _⟩, _⟩, _⟩, _⟩ := h
  exact huntimed

/-- The effect of a command without a time falls on its opcode's own boundary. -/
theorem boundary_untimed {o : Opc} {p : Packet} (h : pkAtTime p = false) (c : Core) (b : Nat) : (reqOf o p).boundary c b = b :=
  if_neg (by simpa [reqOf] using h)

/-! ### Binaural pairs (R263, R268) -/

theorem Core.pair_setPair_same (c : Core) (n : Nat) (x : Pair) : (c.setPair n x).pair n = x := smGet_smSet_same _ _ _ _

theorem Core.pair_of_mon {c d : Core} (h : c.mon = d.mon) (n : Nat) : c.pair n = d.pair n := by
  unfold Core.pair
  rw [h]

theorem binauralSetBody_stages {c : Core} {r : Req} (h : c.binauralCheck r = .ok) :
    binauralSetBody c r = ans (c.setPair (r.n 0) { c.pair (r.n 0) with next := some (binauralOf (r.w 1) (r.w 2),
      r.boundary c (if decide ({ binauralOf (r.w 1) (r.w 2) with h := (c.pair (r.n 0)).set.h } = (c.pair (r.n 0)).set) then
        c.boundaryAt (c.now + 2 * c.blk) else c.anchorB),
      decide ({ binauralOf (r.w 1) (r.w 2) with h := (c.pair (r.n 0)).set.h } = (c.pair (r.n 0)).set)) }) .ok := by
  unfold binauralSetBody
  rw [h]

theorem binauralChange_takes {c : Core} {n b : Nat} {x : PairSet} {onlyH : Bool} (h : (c.pair n).next = some (x, b, onlyH))
    (hb : b ≤ c.time.n) : binauralChange n c = c.pairTake n x := by
  unfold binauralChange
  rw [h]
  exact if_pos hb

/-- A pair's new set clears its histories and fades in, unless H alone changes (R263). -/
theorem Core.pair_pairTake (c : Core) (n : Nat) (x : PairSet) :
    (c.pairTake n x).pair n = if { x with h := (c.pair n).set.h } = (c.pair n).set then { c.pair n with set := x, next := none }
      else { c.pair n with set := x, next := none, since := c.time.n, fade := 2, fadeAt := c.time.n, fadeLen := c.glaze } := by
  unfold Core.pairTake
  dsimp only
  split
  · exact Core.pair_setPair_same _ _ _
  · exact Core.pair_setPair_same _ _ _

theorem Core.pairTake_atl (c : Core) (n : Nat) (x : PairSet) : (c.pairTake n x).atl = c.atl := by
  unfold Core.pairTake
  dsimp only
  split <;> rfl

/-! ### Downmix channels (R265, R268) -/

theorem Core.mix_setMix_same (c : Core) (n : Nat) (x : Mix) : (c.setMix n x).mix n = x := smGet_smSet_same _ _ _ _

theorem Core.mix_of_mon {c d : Core} (h : c.mon = d.mon) (n : Nat) : c.mix n = d.mix n := by
  unfold Core.mix
  rw [h]

theorem downmixSetBody_stages {c : Core} {r : Req} {d : MixSet} (h : c.downmixCheck r = .ok d) :
    downmixSetBody c r =
      ans (c.setMix (r.n 0) { c.mix (r.n 0) with next := some (d, r.boundary c (c.boundaryAt (c.now + 2 * c.blk))) }) .ok := by
  unfold downmixSetBody
  rw [h]

theorem mixList_sources {r : Req} {n : Nat} {l : List (Nat × Int)} (h : mixList r n = some l) :
    l.map (·.1) = (List.range n).map fun i => r.n (3 + 2 * i) := by
  unfold mixList at h
  generalize List.range n = is at h ⊢
  induction is generalizing l with
  | nil =>
    cases h
    rfl
  | cons i t ih =>
    simp only [List.mapM_cons, Option.bind_eq_bind, Option.bind_eq_some_iff, Option.map_eq_some_iff, Option.pure_def,
      Option.some.injEq] at h
    obtain ⟨x, ⟨g, -, rfl⟩, l', hl', rfl⟩ := h
    exact congrArg _ (ih hl')

/-- A definition that passes the checks is that of the request. -/
theorem downmixCheck_ok {c : Core} {r : Req} {d : MixSet} (h : c.downmixCheck r = .ok d) :
    d.h = r.n 1 ∧ d.list.map (·.1) = (List.range (r.n 2)).map fun i => r.n (3 + 2 * i) := by
  unfold Core.downmixCheck at h
  dsimp only at h
  repeat' split at h
  all_goals first
    | (cases h; done)
    | skip
  next l hl _ _ _ =>
    cases h
    exact ⟨rfl, mixList_sources hl⟩

theorem downmixChange_takes {c : Core} {m b : Nat} {d : MixSet} (h : (c.mix m).next = some (d, b)) (hb : b ≤ c.time.n) :
    downmixChange m c = c.mixTake m d := by
  unfold downmixChange
  rw [h]
  exact if_pos hb

/-! ### Loudness meters (R266, R268) -/

theorem Core.meter_setMeter_same (c : Core) (q : Nat) (x : Meter) : (c.setMeter q x).meter q = x := smGet_smSet_same _ _ _ _

theorem Core.meter_setMeter_ne (c : Core) {q k : Nat} (x : Meter) (h : k ≠ q) : (c.setMeter q x).meter k = c.meter k :=
  smGet_smSet_ne _ _ _ h

theorem Core.meter_of_mon {c d : Core} (h : c.mon = d.mon) (n : Nat) : c.meter n = d.meter n := by
  unfold Core.meter
  rw [h]

theorem loudnessConfigBody_restarts {c : Core} {r : Req} (hq : r.n 0 ≤ 7) (hkind : r.n 1 ≤ 2) (hpair : r.n 1 = 1 → r.n 2 ≤ 7)
    (hbuses : r.n 1 = 2 → 1 ≤ r.n 3 ∧ r.n 3 ≤ 24 ∧ r.n 2 + r.n 3 ≤ 48 ∧
      ∀ i : Nat, i < r.n 3 → (r.n 4 + 2 ^ 32 * r.n 5) / 4 ^ i % 4 ≠ 3) :
    loudnessConfigBody c r = ans (c.setMeter (r.n 0)
      { kind := r.n 1, first := r.n 2, count := r.n 3, weights := r.n 4 + 2 ^ 32 * r.n 5, resetAt := c.now }) .ok := by
  have hweights : ¬(r.n 1 = 2 ∧
      ((List.range (r.n 3)).any fun i => decide ((r.n 4 + 2 ^ 32 * r.n 5) / 4 ^ i % 4 = 3)) = true) := by
    rintro ⟨htwo, hany⟩
    obtain ⟨i, hi, hthree⟩ := List.any_eq_true.mp hany
    exact (hbuses htwo).2.2.2 i (List.mem_range.mp hi) (of_decide_eq_true hthree)
  unfold loudnessConfigBody
  dsimp only
  rw [if_neg (by omega), if_neg (by omega), if_neg ?count, if_neg hweights]
  case count =>
    rintro ⟨htwo, hcount⟩
    obtain ⟨hfirst, hmost, hlast, _⟩ := hbuses htwo
    omega

/-- What LOUDNESS_RESET does to one meter: its integrated value restarts where its bit of the mask is set. -/
def Core.loudnessRestart (mask : Nat) (c : Core) (q : Nat) : Core :=
  if mask / 2 ^ q % 2 = 1 then c.setMeter q { c.meter q with blocks := [], resetAt := c.now } else c

theorem Core.loudnessRestart_bystanders (mask : Nat) (c : Core) (q : Nat) :
    (Core.loudnessRestart mask c q).bystanders = c.bystanders := by
  unfold Core.loudnessRestart
  split <;> rfl

theorem Core.now_loudnessRestart (mask : Nat) (c : Core) (q : Nat) : (Core.loudnessRestart mask c q).now = c.now := by
  unfold Core.loudnessRestart
  split <;> rfl

theorem Core.meter_loudnessRestart (mask : Nat) (c : Core) (q k : Nat) :
    (Core.loudnessRestart mask c q).meter k =
      if k = q ∧ mask / 2 ^ q % 2 = 1 then { c.meter q with blocks := [], resetAt := c.now } else c.meter k := by
  unfold Core.loudnessRestart
  split
  · next h =>
    by_cases e : k = q
    · subst e
      rw [Core.meter_setMeter_same, if_pos ⟨rfl, h⟩]
    · rw [Core.meter_setMeter_ne _ _ e, if_neg (by tauto)]
  · next h => rw [if_neg (by tauto)]

/-- Each meter restarts by its own bit. -/
theorem meter_foldl_loudnessRestart (mask m : Nat) (c : Core) (q : Nat) :
    ((List.range m).foldl (Core.loudnessRestart mask) c).meter q =
      if q < m ∧ mask / 2 ^ q % 2 = 1 then { c.meter q with blocks := [], resetAt := c.now } else c.meter q := by
  induction m with
  | zero => simp
  | succ m ih =>
    have hnow : ((List.range m).foldl (Core.loudnessRestart mask) c).now = c.now :=
      foldl_keeps Core.now _ (Core.now_loudnessRestart mask) _ _
    rw [List.range_succ, List.foldl_append, List.foldl_cons, List.foldl_nil, Core.meter_loudnessRestart, hnow]
    by_cases e : q = m
    · subst e
      rw [ih, if_neg (by omega : ¬(q < q ∧ mask / 2 ^ q % 2 = 1))]
      by_cases h : mask / 2 ^ q % 2 = 1
      · rw [if_pos ⟨rfl, h⟩, if_pos ⟨by omega, h⟩]
      · rw [if_neg (by tauto), if_neg (by tauto)]
    · rw [if_neg (by tauto), ih]
      by_cases h : q < m ∧ mask / 2 ^ q % 2 = 1
      · rw [if_pos h, if_pos ⟨by omega, h.2⟩]
      · rw [if_neg h, if_neg (by omega)]

theorem loudnessResetBody_restarts {c : Core} {r : Req} (h : r.n 0 ≤ 255) :
    loudnessResetBody c r = ans ((List.range 8).foldl (Core.loudnessRestart (r.n 0)) c) .ok := by
  unfold loudnessResetBody
  exact if_neg (by omega)

theorem loudnessGetBody_values {c : Core} {r : Req} (h : r.n 0 ≤ 7) :
    loudnessGetBody c r = okW c [(meterValues (c.meter (r.n 0))).1, (meterValues (c.meter (r.n 0))).2.1,
      (meterValues (c.meter (r.n 0))).2.2, (c.meter (r.n 0)).resetAt % 2 ^ 32, (c.meter (r.n 0)).resetAt / 2 ^ 32] := by
  unfold loudnessGetBody
  exact if_neg (by omega)

/-- The power of a gating step, with a free value for each channel (R266). -/
def Core.stepPower (c : Core) (ws : List Int) : Int × Core :=
  ws.foldl (fun a w => (a.1 + w * (a.2.free.1 : Int) / 100, a.2.free.2)) (0, c)

/-- Only the count of free values moves on. -/
theorem stepPower_core (ws : List Int) (c : Core) : (c.stepPower ws).2 = { c with freeIx := c.freeIx + ws.length } := by
  have key : ∀ (ws : List Int) (a : Int × Core),
      (ws.foldl (fun a w => (a.1 + w * (a.2.free.1 : Int) / 100, a.2.free.2)) a).2 =
        { a.2 with freeIx := a.2.freeIx + ws.length } := by
    intro ws
    induction ws with
    | nil => intro a; rfl
    | cons w t ih =>
      intro a
      refine (ih _).trans ?_
      unfold Core.free
      simp only [List.length_cons, Nat.add_assoc, Nat.add_comm 1]
  exact key ws (0, c)

/-- A meter with one step more, and with one gating block more once four steps are there (R266). -/
def Meter.stepped (x : Meter) (p : Int) : Meter :=
  { x with steps := (p :: x.steps).take 30
           blocks := if ((p :: x.steps).take 30).length ≥ 4 then meanOf ((p :: x.steps).take 30) 4 :: x.blocks else x.blocks }

theorem loudnessGatingBlock_steps {c : Core} {q : Nat} (hq : q ≤ 7) (hkind : (c.meter q).kind ≠ 0)
    (hstop : c.power.engineStop = false) :
    loudnessGatingBlock q c = (c.stepPower (meterWeights (c.meter q))).2.setMeter q
      ((c.meter q).stepped (c.stepPower (meterWeights (c.meter q))).1) := by
  unfold loudnessGatingBlock
  exact if_neg (by simp [hkind, hstop]; omega)

/-! ### Completion -/

/-- Settles O23: each command reduces to the one branch of its body that its hypotheses leave, which changes one pair, channel or
meter. -/
theorem monitorCommandsComplete : Obligations.MonitorCommandsComplete := by
  unfold Obligations.MonitorCommandsComplete
  refine ⟨?set, ?change, ?get, ?mixSet, ?mixChange, ?mixGet, ?config, ?values, ?reset, ?gating⟩
  case set =>
    intro s p c r hadmits hq hcheck
    refine completes_of_body rfl hadmits hq (by decide) (binauralSetBody_stages hcheck) rfl fun t h => ?_
    have hpair := (Core.pair_of_mon h.mon (r.n 0)).trans (Core.pair_setPair_same _ _ _)
    rw [State.core_of_core, hpair]
    refine ⟨h.told, rfl, ?_, rfl⟩
    simp only [Option.map_some, Option.some.injEq, decide_eq_true_eq]
    exact boundary_untimed (untimed_of_admits hadmits) _ _
  case change =>
    intro s n b x onlyH hq hnext hb
    refine completes_of_eq rfl hq (binauralChange_takes hnext hb) (Core.pairTake_atl _ _ _) ?_
    rw [State.core_of_core, Core.pair_pairTake]
    split
    · next h => exact ⟨rfl, rfl, .inl h⟩
    · exact ⟨rfl, rfl, .inr ⟨rfl, rfl, rfl, rfl⟩⟩
  case get =>
    rintro s p x c r hadmits hq hn rfl
    refine completes_of_body rfl hadmits hq (by decide) (if_neg (Nat.not_lt.mpr hn)) rfl fun t h => ⟨h.told, ?_⟩
    exact (Core.pair_of_mon h.mon (r.n 0)).trans (Core.pair_setPair_same _ _ _)
  case mixSet =>
    intro s p d c r hadmits hq hcheck
    refine completes_of_body rfl hadmits hq (by decide) (downmixSetBody_stages hcheck) rfl fun t h => ?_
    have hmix := (Core.mix_of_mon h.mon (r.n 0)).trans (Core.mix_setMix_same _ _ _)
    rw [State.core_of_core, hmix]
    exact ⟨h.told, congrArg (fun b => some (d, b)) (boundary_untimed (untimed_of_admits hadmits) _ _), downmixCheck_ok hcheck, rfl⟩
  case mixChange =>
    intro s m b d hq hnext hb
    refine completes_of_eq rfl hq (downmixChange_takes hnext hb) rfl ?_
    rw [State.core_of_core, show (s.core.mixTake m d).mix m = _ from Core.mix_setMix_same _ _ _]
    exact ⟨rfl, rfl, rfl⟩
  case mixGet =>
    rintro s p x c r hadmits hq hn rfl
    refine completes_of_body rfl hadmits hq (by decide) (if_neg (Nat.not_lt.mpr hn)) rfl fun t h => ⟨h.told, ?_⟩
    exact (Core.mix_of_mon h.mon (r.n 0)).trans (Core.mix_setMix_same _ _ _)
  case config =>
    intro s p c r hadmits hq hn hkind hpair hbuses
    refine completes_of_body rfl hadmits hq (by decide) (loudnessConfigBody_restarts hn hkind hpair hbuses) rfl
      fun t h => ⟨h.told, ?_⟩
    exact (Core.meter_of_mon h.mon (r.n 0)).trans (Core.meter_setMeter_same _ _ _)
  case values =>
    intro s p c r hadmits hq hn
    exact completes_of_body rfl hadmits hq (by decide) (loudnessGetBody_values hn) rfl fun t h => h.told
  case reset =>
    intro s p q c r hadmits hq hn hlt
    refine completes_of_body rfl hadmits hq (by decide) (loudnessResetBody_restarts hn)
      (foldl_keeps Core.bystanders _ (Core.loudnessRestart_bystanders _) _ _) fun t h => ⟨h.told, ?_⟩
    refine (Core.meter_of_mon h.mon q).trans ((meter_foldl_loudnessRestart _ 8 _ q).trans ?_)
    by_cases hbit : r.n 0 / 2 ^ q % 2 = 1
    · rw [if_pos ⟨hlt, hbit⟩, if_pos hbit]
    · rw [if_neg (by tauto), if_neg hbit]
  case gating =>
    intro s q hq hle hkind hstop
    refine completes_of_eq rfl hq (loudnessGatingBlock_steps hle hkind hstop) (by rw [stepPower_core]; rfl) ?_
    rw [State.core_of_core, Core.meter_setMeter_same, stepPower_core]
    refine ⟨?_, ?_, rfl⟩
    · simp [Meter.stepped]
    · simp only [Meter.stepped, List.length_take, List.length_cons]
      split <;> split <;> first | rfl | (exfalso; omega)

end Sys2Proof.Machine
end

section
/-! The TDM ports (R323 to R334, R353, R354): the registers and the state of a port through a frame, a loss, a mute and a restart, and
O29. -/

namespace Sys2Proof.Machine
open Sys2Proof

/-! ### Messages -/

theorem Core.mem_send (c : Core) (m : Msg) : m ∈ (c.send m).outbox := List.mem_append_right _ (List.mem_singleton_self _)

theorem Core.setF_outbox (c : Core) (x : Field) (v : Nat) : (c.setF x v).outbox = c.outbox := (rfl)

theorem Core.put_outbox (c : Core) (off : Nat) (w : Word) : (c.put off w).outbox = c.outbox := (rfl)

theorem Core.mem_raise_outbox (c : Core) {m : Msg} (x : Field) (h : m ∈ c.outbox) : m ∈ (c.raise x).outbox := by
  have hfire : ∀ (d : Core) (st : Nat), m ∈ d.outbox → m ∈ (d.fireSource st).outbox := by
    intro d st hd
    unfold Core.fireSource Core.msix
    dsimp only
    repeat' split
    all_goals first
      | exact hd
      | exact List.mem_append_left _ hd
  unfold Core.raise
  dsimp only
  repeat' split
  all_goals first
    | exact h
    | exact hfire _ _ h

theorem Core.mem_raise?_outbox (c : Core) {m : Msg} (x : Option Field) (h : m ∈ c.outbox) : m ∈ (c.raise? x).outbox := by
  cases x with
  | none => exact h
  | some x => exact c.mem_raise_outbox x h

theorem Core.mem_countW_outbox (c : Core) {m : Msg} (r n : Nat) (h : m ∈ c.outbox) : m ∈ (c.countW r n).outbox := by
  unfold Core.countW
  dsimp only
  split
  · refine Core.mem_raise?_outbox _ _ ?_
    rwa [Core.put_outbox]
  · rwa [Core.put_outbox]

theorem Core.mem_count_outbox (c : Core) {m : Msg} (r : Nat) (h : m ∈ c.outbox) : m ∈ (c.count r).outbox := by
  unfold Core.count Core.countN Core.countS
  dsimp only
  split
  · refine Core.mem_raise?_outbox _ _ ?_
    rwa [Core.setF_outbox, Core.setF_outbox]
  · rwa [Core.setF_outbox]

/-! ### A port and its registers -/

theorem Core.tdm_of_arm {c d : Core} (h : c.arm = d.arm) (p : Nat) : c.tdm p = d.tdm p := by
  unfold Core.tdm
  rw [h]

theorem Core.tdm_setTdm_same (c : Core) (p : Nat) (x : TdmPort) : (c.setTdm p x).tdm p = x := smGet_smSet_same _ _ _ _

/-- Direct paths stand beside the ports and the registers. -/
theorem Core.portPaths_keeps {α : Type} {g : Core → α} (hg : ∀ (c : Core) (n : Nat) (x : DirectPath), g (c.setDp n x) = g c)
    (c : Core) (p n : Nat) (lost : Bool) : g (c.portPaths p n lost) = g c := by
  unfold Core.portPaths
  refine foldl_keeps g _ (fun d k => ?_) _ _
  dsimp only
  split
  · exact hg d k _
  · rfl

theorem Core.portPaths_regs (c : Core) (p n : Nat) (lost : Bool) : (c.portPaths p n lost).regs = c.regs :=
  Core.portPaths_keeps (g := Core.regs) (fun _ _ _ => rfl) c p n lost

theorem Core.tdm_portPaths (c : Core) (p n k : Nat) (lost : Bool) : (c.portPaths p n lost).tdm k = c.tdm k :=
  Core.portPaths_keeps (g := (Core.tdm · k)) (fun _ _ _ => rfl) c p n lost

theorem Core.portPaths_atl (c : Core) (p n : Nat) (lost : Bool) : (c.portPaths p n lost).atl = c.atl :=
  Core.portPaths_keeps (g := Core.atl) (fun _ _ _ => rfl) c p n lost

theorem tdmState_ne_status (p : Nat) : R.PORTS_TDM_STATE p ≠ R.PORTS_STATUS := by unfold R.PORTS_TDM_STATE R.PORTS_STATUS; omega

theorem Core.get_portState_ne (c : Core) {p off : Nat} (st : Nat) (h : off ≠ R.PORTS_TDM_STATE p) (hstatus : off ≠ R.PORTS_STATUS) :
    (c.portState p st).get off = c.get off := by
  unfold Core.portState Core.setB
  rw [Core.get_setF_ne _ _ hstatus, Core.get_setF_ne _ _ hstatus, Core.get_setF_ne _ _ h]

theorem Core.f_portState (c : Core) (p st : Nat) {x : Field} (h : x.off = R.PORTS_TDM_STATE p) :
    (c.portState p st).f x = (c.setF (F.PORTS_TDM_STATE_STATE p) st).f x := by
  have hne : x.off ≠ R.PORTS_STATUS := h ▸ tdmState_ne_status p
  unfold Core.portState Core.setB
  exact Core.f_congr ((Core.get_setF_ne _ _ hne).trans (Core.get_setF_ne _ _ hne))

theorem Core.portSt_portState (c : Core) (p : Nat) {st : Nat} (h : st < 8) : (c.portState p st).portSt p = st := by
  unfold Core.portSt
  rw [Core.f_portState c p st rfl]
  exact (Core.f_setF_field _ _ (by decide) (by decide)).trans (Nat.mod_eq_of_lt h)

theorem Core.portSt_congr {c d : Core} {p : Nat} (h : c.get (R.PORTS_TDM_STATE p) = d.get (R.PORTS_TDM_STATE p)) :
    c.portSt p = d.portSt p := Core.f_congr h

/-! ### A port mutes (R330 to R332) -/

theorem Core.get_portMute_ne (c : Core) {p off : Nat} (st n : Nat) (h : off ≠ R.PORTS_TDM_STATE p) (hstatus : off ≠ R.PORTS_STATUS) :
    (c.portMute p st n).get off = c.get off := by
  unfold Core.portMute
  dsimp only
  rw [get_of_regs (Core.portPaths_regs _ _ _ _), Core.get_setF_ne _ _ h, Core.get_portState_ne _ _ h hstatus]
  rfl

/-- The registers beside the state of the port and the summary of all ports, by their offsets. -/
theorem Core.get_portMute_off (c : Core) {p off : Nat} (st n : Nat) (h : off ≠ 0x90010C + 0x40 * p) (hstatus : off ≠ 0x900000) :
    (c.portMute p st n).get off = c.get off := c.get_portMute_ne st n h hstatus

theorem Core.f_portMute_off (c : Core) {p o hi lo : Nat} (st n : Nat) (h : o ≠ 0x90010C + 0x40 * p) (hstatus : o ≠ 0x900000) :
    (c.portMute p st n).f ⟨o, hi, lo⟩ = c.f ⟨o, hi, lo⟩ := Core.f_congr (c.get_portMute_ne st n h hstatus)

theorem Core.flag_portMute_off (c : Core) {p o hi lo : Nat} (st n : Nat) (h : o ≠ 0x90010C + 0x40 * p) (hstatus : o ≠ 0x900000) :
    (c.portMute p st n).flag ⟨o, hi, lo⟩ = c.flag ⟨o, hi, lo⟩ := Core.flag_congr (c.get_portMute_ne st n h hstatus)

theorem Core.portSt_portMute (c : Core) (p n : Nat) {st : Nat} (h : st < 8) : (c.portMute p st n).portSt p = st := by
  unfold Core.portMute
  dsimp only
  refine (Core.portSt_congr (get_of_regs (Core.portPaths_regs _ _ _ _) _)).trans ?_
  refine Eq.trans ?_ (Core.portSt_portState (c.setTdm p { c.tdm p with muteAt := some n, rise := none }) p h)
  exact Core.f_setF_beside _ _ (by decide) (by decide) (by decide) (by decide)

theorem Core.f_good_portMute (c : Core) (p st n : Nat) : (c.portMute p st n).f (F.PORTS_TDM_STATE_GOOD p) = 0 := by
  unfold Core.portMute
  dsimp only
  exact (Core.f_congr (get_of_regs (Core.portPaths_regs _ _ _ _) _)).trans (Core.f_setF_field _ _ (by decide) (by decide))

/-- The flags of a port's state stay as they are when it mutes. -/
theorem Core.flag_portMute (c : Core) (p st n k : Nat) (h : k = 3 ∨ k = 4) :
    (c.portMute p st n).flag ⟨R.PORTS_TDM_STATE p, k, k⟩ = c.flag ⟨R.PORTS_TDM_STATE p, k, k⟩ := by
  have hk : k < 32 := by omega
  unfold Core.portMute Core.flag
  dsimp only
  rw [Core.f_congr (get_of_regs (Core.portPaths_regs _ _ _ _) _), F.PORTS_TDM_STATE_GOOD,
    Core.f_setF_beside _ _ (by decide) (by decide) (le_refl k) (by omega), Core.f_portState _ _ _ rfl, F.PORTS_TDM_STATE_STATE,
    Core.f_setF_beside _ _ (by decide) (by decide) (le_refl k) (by omega)]
  rfl

theorem Core.tdm_portMute (c : Core) (p st n : Nat) :
    (c.portMute p st n).tdm p = { c.tdm p with muteAt := some n, rise := none } := by
  unfold Core.portMute
  dsimp only
  exact (Core.tdm_portPaths _ _ _ _ _).trans (Core.tdm_setTdm_same c p _)

theorem Core.portMute_outbox (c : Core) (p st n : Nat) : (c.portMute p st n).outbox = c.outbox := by
  unfold Core.portMute
  exact Core.portPaths_keeps (g := Core.outbox) (fun _ _ _ => rfl) _ _ _ _

theorem Core.portMute_atl (c : Core) (p st n : Nat) : (c.portMute p st n).atl = c.atl := by
  unfold Core.portMute
  exact Core.portPaths_atl _ _ _ _

/-! ### Frames (R323, R324, R332) -/

theorem Core.mem_sendTdm (c : Core) (p j : Nat) (x : Word × Word × Word) :
    Msg.tdm p ((List.range (bitsOf x.1 7 2)).map fun k => c.slotOut p k j x) ∈ (c.sendTdm p j x).outbox := by
  unfold Core.sendTdm
  exact c.mem_send _

/-- A port in RUN counts a frame and captures its slots. -/
def Core.takeFrame (c : Core) (p j : Nat) (l : List Int) : Core := (c.countW (R.PORTS_TDM_FRAMES p) 1).captureFrame p j l

section TakeFrame
variable (c : Core) (p j : Nat) (l : List Int)

theorem tdmFrames_plain {p : Nat} (_ : p ≤ 7) : R.PORTS_TDM_FRAMES p % 0x100000 ≠ 4 := by unfold R.PORTS_TDM_FRAMES; omega

theorem tdmState_plain {p : Nat} (_ : p ≤ 7) : R.PORTS_TDM_STATE p % 0x100000 ≠ 4 := by unfold R.PORTS_TDM_STATE; omega

theorem Core.takeFrame_atl : (c.takeFrame p j l).atl = c.atl := (Core.countW_atl c _ 1 :)

theorem Core.tdm_takeFrame : (c.takeFrame p j l).tdm p = { c.tdm p with frames := (j, l) :: (c.tdm p).frames, held := l } := by
  have h : (c.countW (R.PORTS_TDM_FRAMES p) 1).tdm p = c.tdm p := Core.tdm_of_arm (c.countW_arm _ _) p
  unfold Core.takeFrame Core.captureFrame
  dsimp only
  rw [Core.tdm_setTdm_same, h]

theorem Core.get_takeFrame_frames (hp : p ≤ 7) :
    (c.takeFrame p j l).get (R.PORTS_TDM_FRAMES p) = c.get (R.PORTS_TDM_FRAMES p) + 1 :=
  c.get_countW_plain 1 (tdmFrames_plain hp)

theorem Core.portSt_takeFrame (hp : p ≤ 7) : (c.takeFrame p j l).portSt p = c.portSt p :=
  Core.portSt_congr (Core.get_countW_ne c 1 (by unfold R.PORTS_TDM_STATE R.PORTS_TDM_FRAMES; omega)
    (tdmState_plain hp))

theorem Core.mem_takeFrame_outbox {m : Msg} (h : m ∈ c.outbox) : m ∈ (c.takeFrame p j l).outbox := c.mem_countW_outbox _ _ h

end TakeFrame

/-- The phase of a frame is recorded, and the drift from the frames before (R332). -/
def Core.tdmPhased (c : Core) (p phase : Nat) : Core :=
  c.setTdm p { c.tdm p with
    drift := (c.tdm p).drift + phaseStep c.period1 phase (c.tdm p).last, last := phase % c.period1 }

/-- A port sends its slots with a frame that it does not capture; outside RUN its good frames count anew. -/
def Core.unheard (c : Core) (p j : Nat) (x : Word × Word × Word) : Core :=
  if c.portSt p = 2 then c.sendTdm p j x else (c.sendTdm p j x).setF (F.PORTS_TDM_STATE_GOOD p) 0

section Unheard
variable (c : Core) (p j : Nat) (x : Word × Word × Word)

theorem Core.unheard_atl : (c.unheard p j x).atl = c.atl := by
  unfold Core.unheard
  split <;> rfl

theorem Core.tdm_unheard : (c.unheard p j x).tdm p = c.tdm p := by
  unfold Core.unheard
  split <;> rfl

theorem Core.portSt_unheard : (c.unheard p j x).portSt p = c.portSt p := by
  unfold Core.unheard
  split
  · rfl
  · exact Core.f_setF_beside _ _ (by decide) (by decide) (by decide) (by decide)

theorem Core.get_unheard_ne {off : Nat} (h : off ≠ R.PORTS_TDM_STATE p) : (c.unheard p j x).get off = c.get off := by
  unfold Core.unheard
  split
  · rfl
  · exact Core.get_setF_ne _ _ h

end Unheard

section Follower
variable {c : Core} {p j : Nat} {x : Word × Word × Word} (hp : p ≤ 7) (hrun : c.portRun p = some x) (hrole : bitOf x.1 1 = false)
include hp hrun hrole

theorem tdmFrame_run (hj : j < c.blk) (hst : c.portSt p = 2) (gapless : Bool) (phase : Nat) (ws : List Nat) :
    tdmFrame p j true gapless phase ws c =
      if (gapless && decide (2 * (((c.sendTdm p j x).tdmPhased p phase).tdm p).drift.natAbs > c.period1)) = true then
        (((((c.sendTdm p j x).tdmPhased p phase).takeFrame p j (slotSamples x ws)).count (R.PORTS_TDM_SLIP p)).raise
          F.PORTS_INT_STATUS_SLIP).portMute p 4 (c.time.n + j + 1)
      else ((c.sendTdm p j x).tdmPhased p phase).takeFrame p j (slotSamples x ws) := by
  have hdrift : ((c.sendTdm p j x).tdmPhased p phase).tdm p = _ := Core.tdm_setTdm_same _ _ _
  have hst' : ((c.sendTdm p j x).tdmPhased p phase).portSt p = 2 := hst
  have htime : (((c.sendTdm p j x).tdmPhased p phase).takeFrame p j (slotSamples x ws)).time.n = c.time.n :=
    congrArg TimePart.n (Core.countW_time _ _ _)
  have hperiod : (((c.sendTdm p j x).tdmPhased p phase).takeFrame p j (slotSamples x ws)).period1 = c.period1 :=
    congrArg (fun x : Clk => frameBits x.mult) (Core.countW_clk _ _ _)
  unfold tdmFrame
  rw [hrun, hdrift]
  dsimp only
  rw [if_neg (by simp [hrole]; omega), if_neg (by decide)]
  refine (if_pos hst').trans ?_
  rw [← htime, ← hperiod]
  rfl

theorem tdmFrame_misplaced (hj : j < c.blk) (gapless : Bool) (phase : Nat) (ws : List Nat) :
    tdmFrame p j false gapless phase ws c =
      ((c.unheard p j x).count (R.PORTS_TDM_FRAMING p)).raise F.PORTS_INT_STATUS_FRAMING := by
  unfold tdmFrame
  rw [hrun]
  dsimp only
  rw [if_neg (by simp [hrole]; omega)]
  rfl

end Follower

/-- A leader in RUN drives its frame and captures what its slots carry. -/
theorem tdmLeaderFrame_run {c : Core} {p j : Nat} {x : Word × Word × Word} (hp : p ≤ 7) (hrun : c.portRun p = some x)
    (hrole : bitOf x.1 1 = true) (hreleased : c.tdmReleased p = false) (hj : j < c.blk) (hst : c.portSt p = 2) (ws : List Nat) :
    tdmLeaderFrame p j ws c = (c.sendTdm p j x).takeFrame p j (slotSamples x ws) := by
  have hst' : (c.sendTdm p j x).portSt p = 2 := hst
  unfold tdmLeaderFrame
  rw [hrun]
  dsimp only
  rw [if_neg (by simp [hrole, hreleased]; omega)]
  exact if_pos hst'

/-! ### Loss, rate and return (R330, R331, R333) -/

/-- The rate of a run of 16 frames is shown (R331). -/
def Core.rateShown (c : Core) (p cycles : Nat) : Core :=
  c.put (R.PORTS_TDM_RATE p) (.ofNat 32 (w32 (Int.tdiv (((16 * c.period1 : Nat) - (cycles : Int)) * 1000000) (16 * c.period1 : Nat))))

theorem follower_of_any {o : Option (Word × Word × Word)} (h : o.any (fun x => !bitOf x.1 1) = true) :
    ∃ x, o = some x ∧ bitOf x.1 1 = false := by
  cases o with
  | none => cases h
  | some x => exact ⟨x, rfl, by simpa using h⟩

section Mutes
variable {c : Core} {p : Nat} (hp : p ≤ 7) (hrun : (c.portRun p).any (fun x => !bitOf x.1 1) = true)
include hp hrun

theorem tdmLoss_mutes (hst : c.portSt p = 2) (j : Nat) :
    tdmLoss p j c = (((c.setF (F.PORTS_TDM_STATE_LOSS p) 1).raise F.PORTS_INT_STATUS_LOSS).count (R.PORTS_TDM_LOSS_COUNT p)).portMute
      p 3 (c.time.n + j + 1) := by
  obtain ⟨x, hx, hrole⟩ := follower_of_any hrun
  unfold tdmLoss
  rw [hx]
  dsimp only
  rw [if_neg (by simp [hrole]; omega), if_pos hst]
  simp

theorem tdmRateRun_within {cycles : Nat} (h : ((16 * c.period1 : Nat) - (cycles : Int)).natAbs * 1000 ≤ 16 * c.period1) (j : Nat) :
    tdmRateRun p j cycles c = c.rateShown p cycles := by
  obtain ⟨x, hx, hrole⟩ := follower_of_any hrun
  unfold tdmRateRun
  rw [hx]
  dsimp only
  rw [if_neg (by simp [hrole]; omega)]
  exact if_pos h

theorem tdmRateRun_off {cycles : Nat} (h : ((16 * c.period1 : Nat) - (cycles : Int)).natAbs * 1000 > 16 * c.period1)
    (hst : c.portSt p = 2) (j : Nat) :
    tdmRateRun p j cycles c = ((((c.rateShown p cycles).setF (F.PORTS_TDM_STATE_RATE_MISMATCH p) 1).raise
      F.PORTS_INT_STATUS_RATE_MISMATCH).count (R.PORTS_TDM_RATE_COUNT p)).portMute p 4 (c.time.n + j + 1) := by
  obtain ⟨x, hx, hrole⟩ := follower_of_any hrun
  have hst' : (c.rateShown p cycles).portSt p = 2 :=
    (Core.portSt_congr (Core.get_put_ne _ _ (by unfold R.PORTS_TDM_STATE R.PORTS_TDM_RATE; omega))).trans hst
  unfold tdmRateRun
  rw [hx]
  dsimp only
  rw [if_neg (by simp [hrole]; omega), if_neg (by omega)]
  refine (if_pos hst').trans ?_
  simp [Core.rateShown]

end Mutes

/-- A port enters RUN at a boundary and rises (R333). -/
def Core.portResumed (c : Core) (p : Nat) : Core :=
  ((((c.setTdm p { c.tdm p with drift := 0, muteAt := none, rise := some (c.time.n, c.glaze), frames := [], tok := none }).put
    (R.PORTS_TDM_PHASE p) (.ofNat 32 (c.tdm p).last)).setF (F.PORTS_TDM_STATE_GOOD p) 0).portState p 2)

theorem Core.portResumed_atl (c : Core) (p : Nat) : (c.portResumed p).atl = c.atl := (rfl)

theorem Core.tdm_portResumed (c : Core) (p : Nat) : (c.portResumed p).tdm p = { c.tdm p with
    drift := 0, muteAt := none, rise := some (c.time.n, c.glaze), frames := [], tok := none } := Core.tdm_setTdm_same c p _

theorem tdmResume_runs {c : Core} {p : Nat} (hp : p ≤ 7) (hrun : (c.portRun p).isSome = true) (hst : c.portSt p = 5)
    (hgood : 64 ≤ c.f (F.PORTS_TDM_STATE_GOOD p)) :
    tdmResume p c = (((c.portResumed p).raise F.PORTS_INT_STATUS_RESUMED).portPaths p c.time.n false).notice? (c.tdm p).tok .ok [] := by
  obtain ⟨x, hx⟩ := Option.isSome_iff_exists.mp hrun
  unfold tdmResume
  rw [hx]
  dsimp only
  rw [if_neg (by omega)]
  rfl

/-! ### Port opcodes (R353, R354) -/

/-- A port's registers take a configuration. -/
def Core.putPort (c : Core) (p : Nat) (x : Word × Word × Word) : Core :=
  ((c.put (R.PORTS_TDM_CTRL p) x.1).put (R.PORTS_TDM_RX_MASK p) x.2.1).put (R.PORTS_TDM_TX_MASK p) x.2.2

theorem Core.portRegs_putPort (c : Core) (p : Nat) (x : Word × Word × Word) : (c.putPort p x).portRegs p = x := by
  unfold Core.portRegs Core.putPort
  rw [Core.get_put_ne _ _ (by unfold R.PORTS_TDM_CTRL R.PORTS_TDM_TX_MASK; omega),
    Core.get_put_ne _ _ (by unfold R.PORTS_TDM_CTRL R.PORTS_TDM_RX_MASK; omega), Core.get_put_same,
    Core.get_put_ne _ _ (by unfold R.PORTS_TDM_RX_MASK R.PORTS_TDM_TX_MASK; omega), Core.get_put_same, Core.get_put_same]

/-- The registers of a port's configuration stand in window 9. -/
theorem Core.portRegs_congr {c d : Core} {p : Nat} (hp : p ≤ 7) (h : ∀ {off : Nat}, window off = 9 → c.get off = d.get off) :
    c.portRegs p = d.portRegs p := by
  unfold Core.portRegs
  rw [h (by unfold window R.PORTS_TDM_CTRL; omega), h (by unfold window R.PORTS_TDM_RX_MASK; omega),
    h (by unfold window R.PORTS_TDM_TX_MASK; omega)]

/-- The counters of class S that PORT_STATUS_GET clears. -/
def portCounters (p : Nat) : List Nat :=
  [R.PORTS_TDM_FRAMING p, R.PORTS_TDM_LOSS_COUNT p, R.PORTS_TDM_RATE_COUNT p, R.PORTS_TDM_SLIP p]

theorem portCounters_window {p off : Nat} (hp : p ≤ 7) (h : off ∈ portCounters p) : window off = 9 := by
  simp only [portCounters, List.mem_cons, List.not_mem_nil, or_false] at h
  rcases h with rfl | rfl | rfl | rfl
  · unfold window R.PORTS_TDM_FRAMING; omega
  · unfold window R.PORTS_TDM_LOSS_COUNT; omega
  · unfold window R.PORTS_TDM_RATE_COUNT; omega
  · unfold window R.PORTS_TDM_SLIP; omega

theorem frames_not_counter (p : Nat) : R.PORTS_TDM_FRAMES p ∉ portCounters p := by
  simp only [portCounters, List.mem_cons, List.not_mem_nil, or_false]
  unfold R.PORTS_TDM_FRAMES R.PORTS_TDM_FRAMING R.PORTS_TDM_LOSS_COUNT R.PORTS_TDM_RATE_COUNT R.PORTS_TDM_SLIP
  omega

theorem portConfigBody_restarts {c : Core} {r : Req} (hp : r.n 0 ≤ 7) (hreset : (c.tdm (r.n 0)).inReset = false)
    (hcheck : portCheck c.clk.mult (r.w 1) (r.w 2) (r.w 3) = none) :
    ∃ x : TdmPort, x.restart = true ∧ x.tok = some r.tok ∧ portConfigBody c r =
      ans (((c.notice? (c.tdm (r.n 0)).tok .aborted []).putPort (r.n 0) (r.w 1, r.w 2, r.w 3)).setTdm (r.n 0) x) .accepted := by
  unfold portConfigBody
  dsimp only
  rw [if_neg (by omega), if_neg (by simp [hreset]), hcheck]
  exact ⟨_, rfl, rfl, rfl⟩

theorem portStatusBody_clears {c : Core} {r : Req} (hp : r.n 0 ≤ 7) :
    portStatusBody c r = (c.cleared (portCounters (r.n 0)), .ok, natBytes (([R.PORTS_TDM_CTRL (r.n 0), R.PORTS_TDM_RX_MASK (r.n 0),
      R.PORTS_TDM_TX_MASK (r.n 0), R.PORTS_TDM_STATE (r.n 0), R.PORTS_TDM_RATE (r.n 0), R.PORTS_TDM_PHASE (r.n 0)] ++
      portCounters (r.n 0) ++ [R.PORTS_TDM_FRAMES (r.n 0)]).map fun x => (c.get x).toNat)) := by
  unfold portStatusBody
  exact if_neg (by omega)

/-! ### Completion -/

/-- Settles O29: each command reduces to the one branch that its hypotheses leave, and a port that mutes keeps its registers but for
its state. -/
theorem tdmPortsComplete : Obligations.TdmPortsComplete := by
  unfold Obligations.TdmPortsComplete
  refine ⟨?config, ?status, ?frame, ?misplaced, ?leader, ?loss, ?rate, ?resume⟩
  case config =>
    intro s p c r hadmits hq hp hreset hcheck
    obtain ⟨x, hrestart, htok, hbody⟩ := portConfigBody_restarts hp hreset hcheck
    refine completes_of_body rfl hadmits hq (by decide) hbody (Core.notice?_bystanders _ _ _ _) fun t h => ⟨h.told, ?_, ?_⟩
    · exact (Core.portRegs_congr hp fun hoff => h.get (by omega) (by omega)).trans (Core.portRegs_putPort _ _ _)
    · have htdm := (Core.tdm_of_arm h.arm (r.n 0)).trans (Core.tdm_setTdm_same _ _ x)
      rw [State.core_of_core, htdm]
      exact ⟨hrestart, htok⟩
  case status =>
    intro s p c r hadmits hq hp
    refine completes_of_body rfl hadmits hq (by decide) (portStatusBody_clears hp) (c.cleared_bystanders _)
      fun t h => ⟨h.told, ?_, ?_⟩
    · rw [List.all_eq_true]
      intro x hx
      have hmem : x ∈ portCounters (r.n 0) := hx
      have hwindow := portCounters_window hp hmem
      rw [decide_eq_true_eq, State.core_of_core, h.get (by omega) (by omega), Core.get_cleared, if_pos hmem]
    · have hwindow : window (R.PORTS_TDM_FRAMES (r.n 0)) = 9 := by unfold window R.PORTS_TDM_FRAMES; omega
      rw [State.core_of_core, h.get (by omega) (by omega), Core.get_cleared, if_neg (frames_not_counter _)]
  case frame =>
    rintro s p j _ gapless phase ws x hq hp hrun hrole hj rfl hst
    have hsent : Msg.tdm p ((List.range (bitsOf x.1 7 2)).map fun k => s.core.slotOut p k j x) ∈
        ((s.core.sendTdm p j x).tdmPhased p phase).outbox := s.core.mem_sendTdm p j x
    have hstate : ((s.core.sendTdm p j x).tdmPhased p phase).portSt p = 2 := hst
    have hframes : ((s.core.sendTdm p j x).tdmPhased p phase).tdm p = _ := Core.tdm_setTdm_same _ _ _
    have hrest := tdmFrame_run hp hrun hrole hj hst gapless phase ws
    generalize hd : (s.core.sendTdm p j x).tdmPhased p phase = d at hsent hstate hframes hrest
    have hcount : d.get (R.PORTS_TDM_FRAMES p) = s.core.get (R.PORTS_TDM_FRAMES p) := by rw [← hd]; rfl
    have hatl : d.atl = s.core.atl := by rw [← hd]; rfl
    have hdrift : (d.takeFrame p j (slotSamples x ws)).tdm p = { d.tdm p with
        frames := (j, slotSamples x ws) :: (d.tdm p).frames, held := slotSamples x ws } := Core.tdm_takeFrame _ _ _ _
    have hold : (d.tdm p).frames = (s.core.tdm p).frames := by rw [hframes]; rfl
    split at hrest
    · next hslip =>
      obtain ⟨hgapless, hfar⟩ : gapless = true ∧ 2 * (d.tdm p).drift.natAbs > s.core.period1 := by simpa using hslip
      refine completes_of_eq rfl hq hrest (by simp [Core.portMute_atl, Core.takeFrame_atl, hatl]) ?_
      have htdm := (Core.tdm_of_arm ((Core.raise_arm _ F.PORTS_INT_STATUS_SLIP).trans (Core.count_arm _ (R.PORTS_TDM_SLIP p))) p).trans
        hdrift
      rw [State.core_of_core, Core.tdm_portMute, htdm]
      refine ⟨by rw [hold], ?_, ?_, ?_, fun _ _ => ⟨Core.portSt_portMute _ _ _ (by decide), ?_⟩⟩
      · rw [← hcount, ← Core.get_takeFrame_frames d p j (slotSamples x ws) hp]
        simp (disch := omega) only [R.PORTS_TDM_FRAMES, R.PORTS_TDM_SLIP, F.PORTS_INT_STATUS_SLIP, R.PORTS_INT_STATUS,
          Core.get_portMute_off, Core.get_raise, Core.get_setF_off, Core.get_count_ne]
      · rw [Core.portMute_outbox]
        exact Core.mem_raise_outbox _ _ (Core.mem_count_outbox _ _ (Core.mem_takeFrame_outbox _ _ _ _ hsent))
      · exact fun h => absurd (hgapless.symm.trans h) (by decide)
      · refine (Core.flag_portMute_off _ _ _ ?_ (by decide)).trans (Core.flag_raise_same _ _ _ (by decide))
        unfold R.PORTS_INT_STATUS
        omega
    · next hslip =>
      refine completes_of_eq rfl hq hrest (by simp [Core.takeFrame_atl, hatl]) ?_
      rw [State.core_of_core, hdrift]
      refine ⟨by rw [hold], by rw [Core.get_takeFrame_frames _ _ _ _ hp, hcount], Core.mem_takeFrame_outbox _ _ _ _ hsent,
        fun _ => (Core.portSt_takeFrame _ _ _ _ hp).trans hstate, fun hgapless hfar => absurd ?_ hslip⟩
      simpa using ⟨hgapless, hfar⟩
  case misplaced =>
    rintro s p j _ gapless phase ws x hq hp hrun hrole hj rfl
    have harm : (((s.core.unheard p j x).count (R.PORTS_TDM_FRAMING p)).raise F.PORTS_INT_STATUS_FRAMING).arm = (s.core.unheard p j x).arm := by
      simp
    refine completes_of_eq rfl hq (tdmFrame_misplaced hp hrun hrole hj gapless phase ws) (by simp [Core.unheard_atl]) ?_
    rw [State.core_of_core, Core.tdm_of_arm harm, Core.tdm_unheard]
    refine ⟨rfl, ?_, Core.flag_raise_same _ _ _ (by decide), Eq.trans ?_ (s.core.portSt_unheard p j x)⟩
    · have hcount : (s.core.unheard p j x).f ⟨R.PORTS_TDM_FRAMING p, 15, 0⟩ = s.core.f ⟨R.PORTS_TDM_FRAMING p, 15, 0⟩ :=
        Core.f_congr (s.core.get_unheard_ne p j x (by simp only [R.PORTS_TDM_FRAMING, R.PORTS_TDM_STATE]; omega))
      rw [← hcount]
      simp (disch := omega) only [R.PORTS_TDM_FRAMING, F.PORTS_INT_STATUS_FRAMING, R.PORTS_INT_STATUS, Core.f_raise, Core.f_setF_off,
        Core.f_count_same]
    · unfold Core.portSt
      simp (disch := omega) only [R.PORTS_TDM_FRAMING, F.PORTS_INT_STATUS_FRAMING, R.PORTS_INT_STATUS, F.PORTS_TDM_STATE_STATE,
        R.PORTS_TDM_STATE, Core.f_raise, Core.f_setF_off, Core.f_count_reg]
  case leader =>
    intro s p j ws x hq hp hrun hrole hreleased hj hst
    refine completes_of_eq rfl hq (tdmLeaderFrame_run hp hrun hrole hreleased hj hst ws) (Core.takeFrame_atl _ _ _ _)
      ⟨?_, ?_, ?_, ?_⟩
    · rw [State.core_of_core, Core.tdm_takeFrame]
      rfl
    · exact Core.get_takeFrame_frames _ _ _ _ hp
    · rw [State.core_of_core]
      exact Core.mem_takeFrame_outbox _ _ _ _ (s.core.mem_sendTdm p j x)
    · exact (Core.portSt_takeFrame _ _ _ _ hp).trans hst
  case loss =>
    intro s p j hq hp hrun hst
    refine completes_of_eq rfl hq (tdmLoss_mutes hp hrun hst j) (by simp [Core.portMute_atl]) ?_
    rw [State.core_of_core]
    refine ⟨Core.portSt_portMute _ _ _ (by decide), ?_, ?_, ?_, ?_, Core.f_good_portMute _ _ _ _⟩
    · rw [Core.tdm_portMute]
    · refine (Core.flag_portMute _ _ _ _ 3 (.inl rfl)).trans (Core.flag_of_one ?_)
      simp (disch := omega) only [F.PORTS_TDM_STATE_LOSS, F.PORTS_INT_STATUS_LOSS, R.PORTS_TDM_STATE, R.PORTS_INT_STATUS,
        R.PORTS_TDM_LOSS_COUNT, Core.f_count_reg, Core.f_raise, Core.f_setF_off, Core.f_setF_field, Nat.sub_self]
      rfl
    · simp (disch := omega) only [F.PORTS_TDM_STATE_LOSS, F.PORTS_INT_STATUS_LOSS, R.PORTS_TDM_STATE, R.PORTS_INT_STATUS,
        R.PORTS_TDM_LOSS_COUNT, Core.f_portMute_off, Core.f_count_same, Core.f_raise, Core.f_setF_off]
    · refine (Core.flag_portMute_off _ _ _ ?_ (by decide)).trans
        (Core.flag_count_mono _ (by decide) ?_ (Core.flag_raise_same _ _ _ (by decide)))
      · unfold R.PORTS_INT_STATUS
        omega
      · unfold R.PORTS_INT_STATUS R.PORTS_TDM_LOSS_COUNT
        omega
  case rate =>
    intro s p j cycles hq hp hrun hst
    have hstate : R.PORTS_TDM_STATE p ≠ R.PORTS_TDM_RATE p := by unfold R.PORTS_TDM_STATE R.PORTS_TDM_RATE; omega
    by_cases h : ((16 * s.core.period1 : Nat) - (cycles : Int)).natAbs * 1000 ≤ 16 * s.core.period1
    · refine completes_of_eq rfl hq (tdmRateRun_within hp hrun h j) rfl ?_
      rw [State.core_of_core]
      exact ⟨Core.get_put_same _ _ _, fun _ => (Core.portSt_congr (Core.get_put_ne _ _ hstate)).trans hst, fun h' => absurd h (by omega)⟩
    · refine completes_of_eq rfl hq (tdmRateRun_off hp hrun (by omega) hst j) (by simp [Core.portMute_atl, Core.rateShown]) ?_
      rw [State.core_of_core]
      refine ⟨?_, fun h' => absurd h' h, fun _ => ⟨Core.portSt_portMute _ _ _ (by decide), ?_, ?_, ?_⟩⟩
      · simp (disch := omega) only [Core.rateShown, R.PORTS_TDM_RATE, F.PORTS_TDM_STATE_RATE_MISMATCH, R.PORTS_TDM_STATE,
          F.PORTS_INT_STATUS_RATE_MISMATCH, R.PORTS_INT_STATUS, R.PORTS_TDM_RATE_COUNT, Core.get_portMute_off, Core.get_count_ne,
          Core.get_raise, Core.get_setF_off, Core.get_put_same, Nat.cast_mul, Nat.cast_ofNat]
      · rw [Core.tdm_portMute]
      · refine (Core.flag_portMute _ _ _ _ 4 (.inr rfl)).trans (Core.flag_of_one ?_)
        simp (disch := omega) only [F.PORTS_TDM_STATE_RATE_MISMATCH, F.PORTS_INT_STATUS_RATE_MISMATCH, R.PORTS_TDM_STATE,
          R.PORTS_INT_STATUS, R.PORTS_TDM_RATE_COUNT, Core.f_count_reg, Core.f_raise, Core.f_setF_off, Core.f_setF_field, Nat.sub_self]
        rfl
      · refine (Core.flag_portMute_off _ _ _ ?_ (by decide)).trans
          (Core.flag_count_mono _ (by decide) ?_ (Core.flag_raise_same _ _ _ (by decide)))
        · unfold R.PORTS_INT_STATUS
          omega
        · unfold R.PORTS_INT_STATUS R.PORTS_TDM_RATE_COUNT
          omega
  case resume =>
    intro s p hq hp hrun hst hgood
    refine completes_of_eq rfl hq (tdmResume_runs hp hrun hst hgood) (by simp [Core.portPaths_atl, Core.portResumed_atl]) ?_
    have hget : ∀ {off : Nat}, window off = 9 → (((((s.core.portResumed p).raise F.PORTS_INT_STATUS_RESUMED).portPaths p
        s.core.time.n false).notice? (s.core.tdm p).tok .ok []).get off) = ((s.core.portResumed p).raise F.PORTS_INT_STATUS_RESUMED).get off :=
      fun h => (Core.get_notice?_away _ (by omega) (by omega)).trans (get_of_regs (Core.portPaths_regs _ _ _ _) _)
    have htdm := (Core.tdm_of_arm (Core.notice?_arm (((s.core.portResumed p).raise F.PORTS_INT_STATUS_RESUMED).portPaths p
      s.core.time.n false) (s.core.tdm p).tok .ok []) p).trans ((Core.tdm_portPaths _ _ _ _ _).trans (Core.tdm_of_arm (Core.raise_arm _ _) p))
    rw [State.core_of_core, htdm, Core.tdm_portResumed]
    refine ⟨?_, rfl, rfl, rfl, ?_, ?_⟩
    · have hwindow : window (R.PORTS_TDM_STATE p) = 9 := by unfold window R.PORTS_TDM_STATE; omega
      refine (Core.portSt_congr (hget hwindow)).trans ((Core.portSt_congr (Core.get_raise_ne _ ?_)).trans
        (Core.portSt_portState _ _ (by decide)))
      unfold F.PORTS_INT_STATUS_RESUMED R.PORTS_INT_STATUS R.PORTS_TDM_STATE
      simp only
      omega
    · have hwindow : window (R.PORTS_TDM_PHASE p) = 9 := by unfold window R.PORTS_TDM_PHASE; omega
      rw [hget hwindow]
      simp (disch := omega) only [Core.portResumed, Core.portState, Core.setB, R.PORTS_TDM_PHASE, F.PORTS_INT_STATUS_RESUMED,
        R.PORTS_INT_STATUS, F.PORTS_TDM_STATE_STATE, F.PORTS_TDM_STATE_GOOD, R.PORTS_TDM_STATE, R.PORTS_STATUS, Core.get_raise,
        Core.get_setF_off, Core.get_put_same]
    · exact (Core.flag_congr (hget (by decide))).trans (Core.flag_raise_same _ _ _ (by decide))

end Sys2Proof.Machine
end

section
/-! What messages leave of the network: everything beside the queues of the ports, the queues and settings of the ports beside P3,
and of P3 everything beside its queue. -/

namespace Sys2Proof.Machine
open Sys2Proof

/-- The network beside the ports. -/
def Core.streams (c : Core) : NetPart := { c.net with ports := [] }

/-- A port beside its transmit queue. -/
def Core.portBeside (c : Core) (p : Nat) : NetPort := { c.netPort p with txq := [] }

theorem Core.netPort_of_net {c d : Core} (h : c.net = d.net) (p : Nat) : c.netPort p = d.netPort p := by
  unfold Core.netPort
  rw [h]

theorem Core.netPort_setNetPort_same (c : Core) (p : Nat) (x : NetPort) : (c.setNetPort p x).netPort p = x := smGet_smSet_same _ _ _ _

theorem Core.netPort_setNetPort_ne (c : Core) {p k : Nat} (x : NetPort) (h : k ≠ p) : (c.setNetPort p x).netPort k = c.netPort k :=
  smGet_smSet_ne _ _ _ h

/-- What messages leave alone: the network but for the queue of P3, and the registers but for those of HOST and the counter and
interrupts of what P3 refuses. -/
structure SameNet (c d : Core) : Prop where
  streams : c.streams = d.streams
  port : ∀ {p : Nat}, p ≠ 3 → c.netPort p = d.netPort p
  beside : c.portBeside 3 = d.portBeside 3
  get : ∀ {off : Nat}, window off ≠ 3 → off ≠ R.NET_TX_ERR 3 → off ≠ R.NET_INT_STATUS 3 → c.get off = d.get off
  mono : ∀ {k : Nat}, k < 32 → d.flag ⟨R.NET_INT_STATUS 3, k, k⟩ = true → c.flag ⟨R.NET_INT_STATUS 3, k, k⟩ = true

namespace SameNet
variable {c d e : Core}

theorem of_get (h : c.net = d.net) (hget : ∀ {off : Nat}, window off ≠ 3 → c.get off = d.get off) : SameNet c d where
  streams := by unfold Core.streams; rw [h]
  port _ := Core.netPort_of_net h _
  beside := by unfold Core.portBeside; rw [Core.netPort_of_net h]
  get h3 _ _ := hget h3
  mono _ hk := (Core.flag_congr (hget (show window (R.NET_INT_STATUS 3) ≠ 3 by decide))).trans hk

theorem of_regs (h : c.net = d.net) (hregs : c.regs = d.regs) : SameNet c d := of_get h fun _ => get_of_regs hregs _

theorem refl (c : Core) : SameNet c c := of_regs rfl rfl

theorem trans (h : SameNet c d) (h' : SameNet d e) : SameNet c e where
  streams := h.streams.trans h'.streams
  port hp := (h.port hp).trans (h'.port hp)
  beside := h.beside.trans h'.beside
  get h3 herr hint := (h.get h3 herr hint).trans (h'.get h3 herr hint)
  mono hk hd := h.mono hk (h'.mono hk hd)

variable (h : SameNet c d)
include h

theorem rx : c.net.rx = d.net.rx := (congrArg NetPart.rx h.streams :)
theorem tx : c.net.tx = d.net.tx := (congrArg NetPart.tx h.streams :)

theorem rxStream (n : Nat) : c.rxStream n = d.rxStream n := by
  unfold Core.rxStream
  rw [h.rx]

theorem txStream (n : Nat) : c.txStream n = d.txStream n := by
  unfold Core.txStream
  rw [h.tx]

theorem portBeside (p : Nat) : c.portBeside p = d.portBeside p := by
  by_cases hp : p = 3
  · rw [hp]
    exact h.beside
  · unfold Core.portBeside
    rw [h.port hp]

end SameNet

theorem foldl_sameNet {β : Type} (f : Core → β → Core) (h : ∀ c b, SameNet (f c b) c) (l : List β) (c : Core) :
    SameNet (l.foldl f c) c := by
  induction l generalizing c with
  | nil => exact .refl c
  | cons b t ih => exact (ih (f c b)).trans (h c b)

/-- A frame on P3 that holds no stream packet waits in its queue or is refused. -/
theorem Core.queueFrame_sameNet (c : Core) {x : TxFrame} (hx : x.stream = none) : SameNet (c.queueFrame 3 x) c := by
  have herr : R.NET_TX_ERR 3 ≠ R.NET_INT_STATUS 3 := by decide
  unfold Core.queueFrame
  rw [hx]
  dsimp only
  repeat' split
  · exact .refl c
  · refine { SameNet.of_regs (c := c) (d := c) rfl rfl with
      streams := ?_, port := fun hp => ?_, beside := ?_, get := fun h3 h1 h2 => ?_, mono := fun hk hd => ?_ }
    · unfold Core.streams
      rw [Core.raise_net, Core.count_net]
    · exact Core.netPort_of_net ((Core.raise_net _ _).trans (Core.count_net _ _)) _
    · unfold Core.portBeside
      rw [Core.netPort_of_net ((Core.raise_net _ _).trans (Core.count_net _ _))]
    · rw [Core.get_raise_ne _ h2]
      unfold Core.count Core.countN Core.countS
      dsimp only
      split
      · have hsat : satField (R.NET_TX_ERR 3) = some (F.NET_INT_STATUS_SAT 3) := by decide
        rw [hsat]
        exact (Core.get_raise_ne _ h2).trans ((Core.get_setF_off _ _ h1).trans (Core.get_setF_off _ _ h1))
      · exact Core.get_setF_off _ _ h1
    · exact Core.flag_raise_mono _ hk (by decide) (Core.flag_count_mono _ hk herr.symm hd)
  · refine ⟨rfl, fun hp => Core.netPort_setNetPort_ne c _ hp, ?_, fun _ _ _ => rfl, fun _ hd => hd⟩
    unfold Core.portBeside
    rw [Core.netPort_setNetPort_same]

theorem Core.queueDatagram_sameNet (c : Core) (n : Nat) (m : Msg) : SameNet (c.queueDatagram n m) c := by
  unfold Core.queueDatagram
  dsimp only
  exact (Core.queueFrame_sameNet _ rfl).trans (foldl_sameNet _ (fun d b => d.queueFrame_sameNet rfl) _ _)

theorem Core.ringPut_sameNet (c : Core) (m : Msg) : SameNet (c.ringPut m) c :=
  .of_get (congrArg Core.net (c.ringPut_rest m) :) fun h => c.get_ringPut_away h

theorem Core.post_sameNet (c : Core) (m : Msg) : SameNet (c.post m) c := by
  unfold Core.post
  split
  · dsimp only
    repeat' split
    all_goals first
      | exact c.ringPut_sameNet _
      | exact .of_regs rfl rfl
  · exact c.queueDatagram_sameNet _ _
  · exact .of_regs rfl rfl

theorem Core.postAfter_sameNet (c : Core) (n : Nat) (q : Word) (m : Msg) : SameNet (c.postAfter n q m) c := by
  unfold Core.postAfter
  split
  · exact .of_regs rfl rfl
  · exact c.post_sameNet m

theorem Core.notice_sameNet (c : Core) (t : Tok) (st : Status) (l : List Byte) : SameNet (c.notice t st l) c := by
  unfold Core.notice
  dsimp only
  repeat' split
  · exact .of_regs rfl rfl
  · exact (Core.postAfter_sameNet _ _ _ _).trans (.of_regs rfl rfl)
  · exact .of_regs rfl rfl
  · exact .refl c

theorem Core.notice?_sameNet (c : Core) (t : Option Tok) (st : Status) (l : List Byte) : SameNet (c.notice? t st l) c := by
  cases t with
  | none => exact .refl c
  | some t => exact c.notice_sameNet t st l

theorem Core.flushInstant_sameNet (c : Core) : SameNet c.flushInstant c := by
  unfold Core.flushInstant
  exact (foldl_sameNet _ (fun d x => d.notice_sameNet _ _ _) _ _).trans (.of_regs rfl rfl)

theorem Core.firstReply_sameNet (c : Core) (op : Nat) (p : Packet) (a : Status × List Byte) : SameNet (c.firstReply op p a) c := by
  unfold Core.firstReply
  split
  · split
    · exact .refl c
    · exact .of_regs (congrArg Core.net (c.markSent_rest p.session.toNat p.seq false) :) (c.markSent_regs _ _ _)
  · unfold Core.reply
    split
    · exact .refl c
    · exact c.post_sameNet _

theorem Core.settled_sameNet (o : Opc) (p : Packet) (a : Answer) : SameNet (Core.settled o p a) a.1 := by
  have htaken : ∀ c : Core, SameNet (c.taken o.code p a.2.1 a.2.2) c := fun c =>
    .of_regs (congrArg Core.net (c.taken_rest o.code p a.2.1 a.2.2) :) (by unfold Core.taken; split <;> rfl)
  have hnote : SameNet (noteOp o p a) a.1 := by
    unfold noteOp
    split
    · exact .of_regs rfl rfl
    · exact .refl _
  have hmirror : ∀ c : Core, SameNet (c.mirror o.code p a.2.1) c := fun c => by
    unfold Core.mirror
    split
    · exact .of_regs rfl rfl
    · exact .refl c
  unfold Core.settled
  exact (Core.flushInstant_sameNet _).trans ((Core.firstReply_sameNet _ _ _ _).trans ((hmirror _).trans ((htaken _).trans hnote)))

/-- An opcode whose body leaves sessions and Atelier alone completes with its answer told and the network as its body leaves it. -/
theorem completes_of_net {i : Instr} {s : State} {o : Opc} {p : Packet} {body : Body} {d : Core} {st : Status} {bs : List Byte}
    {P : State → Prop} (e : exec i s = runCore (easel o body p) s) (hadmits : s.core.admits o p = true) (hq : s.quiet = true)
    (hcode : o.code ≠ 0x0100) (hbody : body (s.core.offered o p) (reqOf o p) = (d, st, bs))
    (hby : d.bystanders = (s.core.offered o p).bystanders)
    (hp : ∀ t : Core, t.told p = some (statusCode st, bs) → SameNet t d → P { s with core := t }) : Completes i s P :=
  completes_of_answer e hadmits hq hcode hbody (congrArg Prod.fst hby) (congrArg Prod.snd hby)
    fun htold => hp _ htold (Core.settled_sameNet o p _)

end Sys2Proof.Machine
end

section
/-! The Armature (R339 to R354): marks of non-PCM payloads, the banks of Palette 2, direct paths, alignment groups and meters, and
O30. -/

namespace Sys2Proof.Machine
open Sys2Proof

/-! ### Marks of non-PCM payloads (R341 to R343) -/

/-- The Armature's record of a source without its mark, which rises from a boundary (R342). -/
def Core.unmarked (c : Core) (n b : Nat) : Core :=
  { c with arm := { c.arm with marks := smSet (fun _ => none) c.arm.marks n none
                               rise := smSet (fun _ => none) c.arm.rise n (some b) } }

/-- What the end of a mark does to one direct path. -/
def Core.pathHeard (b : Nat) (c : Core) (k : Nat) : Core :=
  if (c.dp k).nonpcm then
    (c.setDp k { c.dp k with
      nonpcm := false, gS := 0, s0 := b, gT := if (c.dp k).lost ∨ (c.dp k).mute then 0 else (c.dp k).target }).setF
        (F.ARMATURE_DP_CTRL_NONPCM k) 0
  else c

theorem nonpcmHoldExpire_clears {c : Core} {n at_ : Nat} (hmark : smGet (fun _ => none) c.arm.marks n = some at_)
    (hpast : at_ + c.f F.ARMATURE_NONPCM_HOLD_SAMPLES ≤ c.now) :
    nonpcmHoldExpire n c = ((((c.unmarked n (c.boundaryAt c.now)).raise F.ARMATURE_INT_STATUS_NONPCM_OFF).nonpcmAny).dpsOf n).foldl
      (Core.pathHeard (c.boundaryAt c.now))
      (((c.unmarked n (c.boundaryAt c.now)).raise F.ARMATURE_INT_STATUS_NONPCM_OFF).nonpcmAny) := by
  unfold nonpcmHoldExpire
  rw [hmark]
  exact if_neg (by omega)

section PathHeard
variable {α : Type} {g : Core → α} (hdp : ∀ (c : Core) (k : Nat) (x : DirectPath), g (c.setDp k x) = g c)
  (hset : ∀ (c : Core) (k v : Nat), g (c.setF (F.ARMATURE_DP_CTRL_NONPCM k) v) = g c)
include hdp hset

theorem foldl_pathHeard_keeps (b : Nat) (l : List Nat) (c : Core) : g (l.foldl (Core.pathHeard b) c) = g c := by
  refine foldl_keeps g _ (fun d k => ?_) l c
  unfold Core.pathHeard
  split
  · exact (hset _ _ _).trans (hdp _ _ _)
  · rfl

end PathHeard

theorem nonpcmGetBody_marks (c : Core) (r : Req) :
    nonpcmGetBody c r = okW c ((List.range 128).map fun w => (List.range 32).foldl (fun a b => if c.marked (32 * w + b) then a + 2 ^ b else a) 0) :=
  rfl

/-! ### Direct paths (R349 to R351) -/

theorem Core.dp_of_arm {c d : Core} (h : c.arm = d.arm) (n : Nat) : c.dp n = d.dp n := by
  unfold Core.dp
  rw [h]

theorem Core.dp_setDp_same (c : Core) (n : Nat) (x : DirectPath) : (c.setDp n x).dp n = x := smGet_smSet_same _ _ _ _

theorem Core.dpMute_out (c : Core) (n : Nat) : ((c.dpMute n).dp n).out = (c.dp n).out := by
  unfold Core.dpMute
  dsimp only
  split
  · rfl
  · have harm : ∀ d : Core, ((d.count R.ARMATURE_DP_NONPCM_COUNT).raise F.ARMATURE_INT_STATUS_DP_NONPCM).arm = d.arm := by simp
    rw [Core.dp_of_arm (harm _), show ∀ x, ((c.setDp n x).setF (F.ARMATURE_DP_CTRL_NONPCM n) 1).dp n = x from
      fun x => Core.dp_setDp_same c n x]

theorem Core.get_dpMute (c : Core) (n k : Nat) : (c.dpMute n).get (R.ARMATURE_DP_GAIN k) = c.get (R.ARMATURE_DP_GAIN k) := by
  unfold Core.dpMute
  dsimp only
  split
  · rfl
  · simp (disch := omega) only [R.ARMATURE_DP_GAIN, F.ARMATURE_INT_STATUS_DP_NONPCM, R.ARMATURE_INT_STATUS,
      R.ARMATURE_DP_NONPCM_COUNT, F.ARMATURE_DP_CTRL_NONPCM, R.ARMATURE_DP_CTRL, Core.get_raise, Core.get_setF_off, Core.get_count_ne]
    rfl

theorem Core.dpMute_atl (c : Core) (n : Nat) : (c.dpMute n).atl = c.atl := by
  unfold Core.dpMute
  dsimp only
  split
  · rfl
  · simp only [Core.raise_atl, Core.count_atl, Core.setF_atl]
    rfl

/-- A direct path has passed a word: its record and its gain are shown, and where a mark is found it is muted (R343, R350). -/
def Core.pathPassed (c : Core) (n : Nat) (x : DirectPath) (g : Int) (found : Bool) : Core :=
  let d := ((c.setDp n x).setFs (F.ARMATURE_DP_GAIN_GAIN n) g).put (R.ARMATURE_DP_GAIN n) (.ofNat 32 (w32 g))
  if found then d.dpMute n else d

section PathPassed
variable (c : Core) (n : Nat) (x : DirectPath) (g : Int) (found : Bool)

theorem Core.pathPassed_atl : (c.pathPassed n x g found).atl = c.atl := by
  unfold Core.pathPassed
  dsimp only
  have hput : (((c.setDp n x).setFs (F.ARMATURE_DP_GAIN_GAIN n) g).put (R.ARMATURE_DP_GAIN n) (.ofNat 32 (w32 g))).atl = c.atl :=
    (Core.put_atl _ _ _).trans (Core.setF_atl _ _ _)
  split
  · exact (Core.dpMute_atl _ _).trans hput
  · exact hput

theorem Core.out_pathPassed : ((c.pathPassed n x g found).dp n).out = x.out := by
  have hput : (((c.setDp n x).setFs (F.ARMATURE_DP_GAIN_GAIN n) g).put (R.ARMATURE_DP_GAIN n) (.ofNat 32 (w32 g))).dp n = x :=
    (Core.dp_of_arm ((Core.put_arm _ _ _).trans (Core.setF_arm _ _ _)) n).trans (Core.dp_setDp_same c n x)
  unfold Core.pathPassed
  dsimp only
  split
  · rw [Core.dpMute_out, hput]
  · rw [hput]

theorem Core.get_pathPassed : (c.pathPassed n x g found).get (R.ARMATURE_DP_GAIN n) = .ofNat 32 (w32 g) := by
  unfold Core.pathPassed
  dsimp only
  split
  · exact (Core.get_dpMute _ _ _).trans (Core.get_put_same _ _ _)
  · exact Core.get_put_same _ _ _

end PathPassed

section Word
variable {c : Core} {n j : Nat} (hn : n ≤ 255) (hactive : c.flag (F.ARMATURE_DP_CTRL_ACTIVE n) = true) (hj : j < c.blk)
include hn hactive hj

theorem directPathWord_transparent (htransparent : c.flag (F.ARMATURE_DP_CTRL_TRANSPARENT n) = true) (hlost : (c.dp n).lost = false)
    (hcut : c.clk.dpCut = false) (raw : Nat) :
    directPathWord n j raw c = c.setDp n { c.dp n with
      word := raw % 2 ^ 32, out := raw % 2 ^ 32, outs := (j, raw % 2 ^ 32) :: (c.dp n).outs } := by
  unfold directPathWord
  rw [if_neg (by simp [hactive]; omega)]
  dsimp only
  rw [if_pos htransparent, if_neg (by simp [hlost, hcut])]

/-- A path's word through its gain and the gate of the direct paths (R350, R351). -/
def Core.pathWord (c : Core) (n j raw : Nat) : Nat :=
  unsigned 24 (weighted (c.clk.dpGate.weight (c.time.n + j))
    (sat 24 (rshr 21 ((c.dp n).gain (c.time.n + j) * signed 24 (raw % 2 ^ 32 / 256))))) * 256

theorem directPathWord_gain (htransparent : c.flag (F.ARMATURE_DP_CTRL_TRANSPARENT n) = false) (hlost : (c.dp n).lost = false)
    (hnonpcm : (c.dp n).nonpcm = false) (raw : Nat) :
    ∃ (x : DirectPath) (found : Bool), x.out = c.pathWord n j raw ∧
      directPathWord n j raw c = c.pathPassed n x ((c.dp n).gain (c.time.n + j)) found := by
  unfold directPathWord
  rw [if_neg (by simp [hactive]; omega)]
  dsimp only
  rw [if_neg (by simp [htransparent]), hlost, hnonpcm]
  exact ⟨_, _, rfl, rfl⟩

end Word

/-- What a request makes of a direct path at its boundary. -/
def Core.pathAsked (c : Core) (n : Nat) (q : DirectReq) : DirectPath :=
  ({ c.dp n with target := q.gain, mute := q.mute } : DirectPath).toward q.b

/-- The requests of the direct paths take a value. -/
def Core.setDpReqs (c : Core) (l : List DirectReq) : Core := { c with arm := { c.arm with dpReqs := l } }

theorem directGainChange_starts {c : Core} {n : Nat} {q : DirectReq} (hreqs : c.arm.dpReqs = [q]) (htodo : n ∈ q.todo)
    (hb : q.b ≤ c.now) :
    directGainChange n c = ((((c.setDpReqs [{ q with todo := q.todo.erase n }]).setDp n (c.pathAsked n q)).put (R.ARMATURE_DP_TARGET n)
      (.ofNat 32 (w32 (if q.mute then 0 else q.gain)))).setB (F.ARMATURE_DP_CTRL_MUTE n) q.mute) := by
  unfold directGainChange
  rw [hreqs, List.find?_cons_of_pos (by simp [htodo, hb])]
  simp only [List.map_cons, List.map_nil, if_true]
  rfl

theorem directGainBody_waits {c : Core} {r : Req} {g : Int} (hgain : sext? 24 (r.w 2) = some g) (hmute : r.n 3 ≤ 1) (hcount : 1 ≤ r.n 1)
    (hlast : r.n 0 + r.n 1 ≤ 256)
    (hplain : (List.range (r.n 1)).all (fun i => !c.flag (F.ARMATURE_DP_CTRL_TRANSPARENT (i + r.n 0))) = true) :
    directGainBody c r = ans (c.setDpReqs (c.arm.dpReqs ++ [{
      b := r.boundary c (c.boundaryAt (c.now + 2 * c.blk)), first := r.n 0, count := r.n 1, gain := g, mute := decide (r.n 3 = 1),
      todo := (List.range (r.n 1)).map (· + r.n 0), tok := r.tok }])) .accepted := by
  have hnone : ¬(((List.range (r.n 1)).map (· + r.n 0)).any fun n => c.flag (F.ARMATURE_DP_CTRL_TRANSPARENT n)) = true := by
    simpa using hplain
  unfold directGainBody
  rw [hgain]
  dsimp only
  rw [if_neg (by omega), if_neg (by omega), if_neg hnone]
  rfl

theorem directGetBody_words {c : Core} {r : Req} (h : r.n 0 ≤ 255) :
    directGetBody c r = okW c [(c.get (R.ARMATURE_DP_CTRL (r.n 0))).toNat, (c.get (R.ARMATURE_DP_TARGET (r.n 0))).toNat,
      (c.get (R.ARMATURE_DP_GAIN (r.n 0))).toNat, smGet (fun _ => 0xFFF) c.arm.live (0x1800 + r.n 0) % 2 ^ 12,
      (((routesOf c.arm.live).find? fun x => x.2.1 = 0xD00 + r.n 0).map (·.1)).getD 0xFFFFFFFF] := by
  unfold directGetBody
  exact if_neg (by omega)

/-! ### Routes (R345, R347, R354) -/

/-- The staged bank of Palette 2 takes a value. -/
def Core.setStaged (c : Core) (m : SMap Nat) (edited : Bool) : Core := { c with arm := { c.arm with staged := m, edited := edited } }

theorem routeBeginBody_begins {c : Core} {r : Req} (hbank : r.n 0 ≤ 1) (hbusy : c.armBusy = false) :
    routeBeginBody c r = ans ((c.setF (stagedReady 2) 0).setStaged (if r.n 0 = 1 then c.arm.live else []) true) .ok := by
  unfold routeBeginBody
  rw [if_neg (by omega), if_neg (by simp [hbusy])]
  rfl

theorem routeSetBody_writes {c : Core} {r : Req} (hcount : 1 ≤ r.n 0 ∧ r.n 0 ≤ 1024) (hlen : r.bytes.length = 4 + 4 * r.n 0)
    (hok : (r.words.drop 1).all routeOk = true) (hbusy : c.armBusy = false) :
    routeSetBody c r = ans ((c.setF (stagedReady 2) 0).setStaged (writeRoutes c.arm.staged (r.words.drop 1)) true) .ok := by
  unfold routeSetBody
  dsimp only
  rw [if_neg (by simp [inRange]; omega), if_neg (by omega), if_neg (by rw [hok]; decide), if_neg (by simp [hbusy])]
  rfl

/-- A bank holds for each destination its last route word. -/
theorem smGet_writeRoutes (ws : List Word) (m : SMap Nat) (d : Nat) :
    smGet (fun _ => 0xFFF) (writeRoutes m ws) d =
      ((ws.reverse.find? fun w => (routeItem w).1 = d).map fun w => (routeItem w).2).getD (smGet (fun _ => 0xFFF) m d) := by
  induction ws using List.reverseRecOn with
  | nil => rfl
  | append_singleton ws w ih =>
    have hstep : writeRoutes m (ws ++ [w]) = smSet (fun _ => 0xFFF) (writeRoutes m ws) (routeItem w).1 (routeItem w).2 := by
      simp [writeRoutes]
    rw [hstep, List.reverse_append, List.reverse_singleton, List.singleton_append, smGet_smSet]
    by_cases h : (routeItem w).1 = d
    · rw [if_pos h.symm, List.find?_cons_of_pos (by simpa using h)]
      rfl
    · rw [if_neg (Ne.symm h), List.find?_cons_of_neg (by simpa using h), ih]

theorem routeCommitBody_starts {c : Core} {r : Req} (hbusy : c.armBusy = false) :
    routeCommitBody c r = ans { c with arm := { c.arm with commit := some r.tok } } .accepted := if_neg (by simp [hbusy])

/-- The commit of Palette 2 has ended. -/
def Core.routesCommitted (c : Core) : Core :=
  let d : Core := { c with arm := { c.arm with commit := none } }
  if (c.routeAdmit c.arm.staged).1 = .ok then d.setF (stagedReady 2) 1 else d

theorem routeCommitDone_ends {c : Core} {k : Tok} (h : c.arm.commit = some k) :
    ∃ l, routeCommitDone c = (c.routesCommitted.raise F.ARMATURE_INT_STATUS_COMMIT_DONE).notice k (c.routeAdmit c.arm.staged).1 l := by
  unfold routeCommitDone
  rw [h]
  exact ⟨_, rfl⟩

theorem Core.routesCommitted_arm (c : Core) : c.routesCommitted.arm = { c.arm with commit := none } := by
  unfold Core.routesCommitted
  dsimp only
  split <;> rfl

theorem Core.routesCommitted_atl (c : Core) : c.routesCommitted.atl = c.atl := by
  unfold Core.routesCommitted
  dsimp only
  split <;> rfl

theorem Core.flag_stagedReady (c : Core) (v : Nat) : (c.setF (stagedReady 2) v).flag (stagedReady 2) = decide (v % 2 ≠ 0) :=
  c.flag_setF_bit _ 2 v (by decide)

theorem Core.flag_routesCommitted (c : Core) : c.routesCommitted.flag (stagedReady 2) =
    (decide ((c.routeAdmit c.arm.staged).1 = .ok) || c.flag (stagedReady 2)) := by
  unfold Core.routesCommitted
  dsimp only
  split
  · next h =>
    rw [Core.flag_stagedReady]
    simp [h]
  · next h =>
    simp only [h, decide_false, Bool.false_or]
    rfl

theorem routeGetBody_bank {c : Core} {r : Req} (hbank : r.n 0 ≤ 1) (hcount : 1 ≤ r.n 2 ∧ r.n 2 ≤ 1024) (hlast : r.n 1 + r.n 2 ≤ 8192) :
    routeGetBody c r = okW c ((List.range (r.n 2)).map fun i => r.n 1 + i + 2 ^ 16 * (smGet (fun _ => 0xFFF) (if r.n 0 = 0 then
      c.arm.live else c.arm.staged) (r.n 1 + i) % 2 ^ 12) + 2 ^ 31 * (smGet (fun _ => 0xFFF) (if r.n 0 = 0 then c.arm.live else
      c.arm.staged) (r.n 1 + i) / 2 ^ 31)) := by
  unfold routeGetBody
  rw [if_neg (by omega), if_neg (by simp [inRange]; omega)]

/-- The swap of Palette 2 that ROUTE_NOW schedules. -/
def routeSwap (c : Core) (r : Req) : Swap :=
  { mask := 4, b := r.boundary c (c.boundaryAt (c.now + 2 * c.blk)), g := if r.n 0 = 0 then c.glaze else r.n 0, tok := some r.tok,
    timed := pkAtTime r.p }

/-- The staged bank with the edits of ROUTE_NOW, ready. -/
def Core.routesReady (c : Core) (ws : List Word) : Core :=
  { c.setF (stagedReady 2) 1 with arm := { c.arm with staged := writeRoutes c.arm.live ws } }

theorem Core.palBusy_routesReady (c : Core) (ws : List Word) : (c.routesReady ws).palBusy 2 = c.palBusy 2 := by
  have h : (c.routesReady ws).get R.CALIPER_STATUS = c.get R.CALIPER_STATUS := Core.get_setF_ne c _ (by decide)
  unfold Core.palBusy
  rw [h]

/-- A swap of Palette 2 alone passes the checks once its staged bank is ready (R219). -/
theorem swapCheck_routes {c : Core} {g : Nat} (hready : c.flag (stagedReady 2) = true) (hbusy : c.palBusy 2 = false)
    (hglaze : g % 16 = 0 ∧ g ≤ 4096) : c.swapCheck 4 g = none := by
  have hmask : ((List.range 4).filter fun p => 4 / 2 ^ p % 2 = 1) = [2] := by decide
  unfold Core.swapCheck
  dsimp only
  rw [hmask, if_neg (by decide), if_neg (by omega), if_neg (by simp [hready]), if_neg (by simp [hbusy])]

theorem Core.flag_routesReady (c : Core) (ws : List Word) : (c.routesReady ws).flag (stagedReady 2) = true :=
  (c.flag_stagedReady 1).trans (by decide)

theorem routeNowBody_swaps {c : Core} {r : Req} (hcount : 1 ≤ r.n 1 ∧ r.n 1 ≤ 1024) (hlen : r.bytes.length = 8 + 4 * r.n 1)
    (hedited : c.arm.edited = false) (hbusy : c.armBusy = false) (hok : (r.words.drop 2).all routeOk = true)
    (hadmit : (c.routeAdmit (writeRoutes c.arm.live (r.words.drop 2))).1 = .ok) (hglaze : r.n 0 % 16 = 0 ∧ r.n 0 ≤ 4096) :
    routeNowBody c r = ans ((c.routesReady (r.words.drop 2)).addSwap (routeSwap c r)) .accepted := by
  obtain ⟨-, hpal⟩ : c.arm.commit.isSome = false ∧ c.palBusy 2 = false := by simpa [Core.armBusy] using hbusy
  have hcheck := swapCheck_routes (c.flag_routesReady (r.words.drop 2)) ((c.palBusy_routesReady _).trans hpal) hglaze
  have hswap : (c.routesReady (r.words.drop 2)).swapRequest r 4 (r.n 0) c.glaze =
      ans ((c.routesReady (r.words.drop 2)).addSwap (routeSwap c r)) .accepted := by
    unfold Core.swapRequest
    rw [hcheck]
    rfl
  unfold routeNowBody
  dsimp only
  rw [if_neg (by simp [inRange]; omega), if_neg (by omega), if_neg (by simp [hedited]), if_neg (by simp [hbusy]),
    if_neg (by rw [hok]; decide), if_neg (fun h => h hadmit)]
  exact (congrArg (fun x : Answer => if x.2.1 = Status.accepted then x else ans c x.2.1) hswap).trans (if_pos rfl)

/-! ### Alignment groups (R352) -/

/-- Streams stand beside what the groups of others change. -/
theorem Core.regroup_keeps {α : Type} {g : Core → α} (hg : ∀ (c : Core) (n : Nat) (x : RxStream), g (c.setRxStream n x) = g c)
    (c : Core) (b : Nat) (skip : Option Nat) : g (c.regroup b skip) = g c := by
  unfold Core.regroup
  refine foldl_keeps g _ (fun d n => ?_) _ _
  dsimp only
  split
  · exact hg d n _
  · rfl

/-- The members that a group is to have wait for their boundary. -/
def Core.setGroupNext (c : Core) (l : List (Nat × Nat × List Nat × Tok)) : Core := { c with arm := { c.arm with groupNext := l } }

theorem groupSetBody_waits {c : Core} {r : Req} (hn : r.n 0 ≤ 31 ∧ r.n 1 ≤ 256) (hlen : r.bytes.length = 8 + 4 * r.n 1)
    (hfree : ((r.words.drop 2).all fun w => decide (w.toNat ≤ 255 ∧ (c.groupOf w.toNat = none ∨ c.groupOf w.toNat = some (r.n 0)))) =
      true) :
    groupSetBody c r = ans ((c.setGroupNext (c.arm.groupNext ++ [(r.boundary c (c.boundaryAt (c.now + 2 * c.blk)), r.n 0,
      ((r.words.drop 2).map (·.toNat)).eraseDups, r.tok)])).regroup (r.boundary c (c.boundaryAt (c.now + 2 * c.blk))) none) .accepted := by
  have hword : ∀ w ∈ r.words.drop 2, w.toNat ≤ 255 ∧ (c.groupOf w.toNat = none ∨ c.groupOf w.toNat = some (r.n 0)) := fun w hw =>
    of_decide_eq_true (List.all_eq_true.mp hfree w hw)
  have hrange : ¬(((r.words.drop 2).map (·.toNat)).any (· > 255)) = true := by
    simp only [List.any_eq_true, List.mem_map, decide_eq_true_eq, not_exists, not_and]
    rintro n ⟨w, hw, rfl⟩
    exact Nat.not_lt.mpr (hword w hw).1
  have hmember : ¬(((r.words.drop 2).map (·.toNat)).any fun s => (c.groupOf s).isSome ∧ c.groupOf s ≠ some (r.n 0)) = true := by
    simp only [List.any_eq_true, List.mem_map, decide_eq_true_eq, not_exists, not_and]
    rintro n ⟨w, hw, rfl⟩ hsome hne
    rcases (hword w hw).2 with h | h
    · rw [h] at hsome
      cases hsome
    · exact hne h
  unfold groupSetBody
  dsimp only
  rw [if_neg (by omega), if_neg (by omega), if_neg hrange, if_neg hmember]
  rfl

/-- A stream enters a group, or leaves every group. -/
def Core.grouped (g : Option Nat) (c : Core) (n : Nat) : Core :=
  (((c.setF (F.MEDIA_RX_STATE_IN_GROUP n) (b2n g.isSome)).setF (F.MEDIA_RX_STATE_GROUP n) (g.getD 0)).setRxStream n
    { c.rxStream n with group := g })

theorem rxStream_grouped (g : Option Nat) (c : Core) (n k : Nat) :
    (c.grouped g n).rxStream k = if k = n then { c.rxStream n with group := g } else c.rxStream k := by
  unfold Core.grouped
  split
  · next h =>
    subst h
    exact smGet_smSet_same _ _ _ _
  · next h => exact smGet_smSet_ne _ _ _ h

/-- All streams of a list are in the group that they enter. -/
theorem group_foldl_grouped (g : Option Nat) (l : List Nat) (c : Core) {n : Nat} (hn : n ∈ l) :
    ((l.foldl (Core.grouped g) c).rxStream n).group = g := by
  induction l using List.reverseRecOn with
  | nil => cases hn
  | append_singleton l k ih =>
    rw [List.foldl_append, List.foldl_cons, List.foldl_nil, rxStream_grouped]
    split
    · rfl
    · next h => exact ih ((List.mem_append.mp hn).resolve_right fun hk => h (List.mem_singleton.mp hk))

/-- The register of one group. -/
def Core.groupReg (m : SMap (List Nat)) (c : Core) (g : Nat) : Core :=
  (c.setF ⟨R.ARMATURE_GROUP g, 15, 0⟩ (c.groupOffset (smGet (fun _ => []) m g))).setF ⟨R.ARMATURE_GROUP g, 24, 16⟩
    (smGet (fun _ => []) m g).length

theorem members_foldl_groupReg (m : SMap (List Nat)) (l : List Nat) (c : Core) {g : Nat} (hg : g ∈ l) :
    (l.foldl (Core.groupReg m) c).f ⟨R.ARMATURE_GROUP g, 24, 16⟩ = (smGet (fun _ => []) m g).length % 512 := by
  induction l using List.reverseRecOn with
  | nil => cases hg
  | append_singleton l k ih =>
    rw [List.foldl_append, List.foldl_cons, List.foldl_nil]
    by_cases h : g = k
    · subst h
      exact Core.f_setF_field _ _ (by decide) (by decide)
    · have hoff : R.ARMATURE_GROUP g ≠ R.ARMATURE_GROUP k := by
        unfold R.ARMATURE_GROUP
        omega
      unfold Core.groupReg
      rw [Core.f_setF_off _ _ hoff, Core.f_setF_off _ _ hoff]
      exact ih ((List.mem_append.mp hg).resolve_right fun hk => h (List.mem_singleton.mp hk))

theorem Core.groupRegs_keeps {α : Type} {g : Core → α} (hg : ∀ (c : Core) (x : Field) (v : Nat), g (c.setF x v) = g c) (c : Core) :
    g c.groupRegs = g c :=
  (hg _ _ _).trans (foldl_keeps g _ (fun _ _ => (hg _ _ _).trans (hg _ _ _)) _ _)

theorem Core.members_groupRegs (c : Core) {g : Nat} (hg : g ≤ 31) :
    c.groupRegs.f ⟨R.ARMATURE_GROUP g, 24, 16⟩ = (smGet (fun _ => []) c.arm.groups g).length % 512 := by
  have hoff : R.ARMATURE_GROUP g ≠ R.ARMATURE_STATUS := by
    unfold R.ARMATURE_GROUP R.ARMATURE_STATUS
    omega
  unfold Core.groupRegs
  refine (Core.f_setF_off _ _ hoff).trans ?_
  exact members_foldl_groupReg _ _ _ (List.mem_range.mpr (by omega))

/-- The groups take a value, and none waits. -/
def Core.setGroups (c : Core) (m : SMap (List Nat)) : Core := { c with arm := { c.arm with groupNext := [], groups := m } }

/-- A group takes its members at their boundary. -/
theorem groupChange_takes {c : Core} {g b : Nat} {l : List Nat} {k : Tok} (hnext : c.arm.groupNext = [(b, g, l, k)]) (hb : b ≤ c.now) :
    groupChange g c = (l.foldl (Core.grouped (some g)) (((smGet (fun _ => []) c.arm.groups g).filter fun s => !l.contains s).foldl
      (Core.grouped none) (c.setGroups (smSet (fun _ => []) c.arm.groups g l)))).groupRegs.notice k .ok [] := by
  unfold groupChange
  rw [hnext, List.find?_cons_of_pos (by simp [hb])]
  simp only [List.erase_cons_head]
  rfl

/-! ### Meters (R346) -/

theorem meterGetBody_values {c : Core} {r : Req} (hcount : 1 ≤ r.n 1 ∧ r.n 1 ≤ 256) (hlast : r.n 0 + r.n 1 ≤ 4096) :
    meterGetBody c r = (((List.range (r.n 1)).map (· + r.n 0)).foldl (fun c s => c.put (R.ARMATURE_METER_PEAK s) 0) c, .ok,
      natBytes (((List.range (r.n 1)).map (· + r.n 0)).flatMap fun y => if srcIssued y then [(c.get (R.ARMATURE_METER_PEAK y)).toNat,
        (c.get (R.ARMATURE_METER_TP y)).toNat, (c.get (R.ARMATURE_METER_RMS y)).toNat, (c.get (R.ARMATURE_METER_HOLD y)).toNat]
        else [0, 0, 0, 0])) := by
  unfold meterGetBody
  rw [if_neg (by simp [inRange]; omega)]
  dsimp only
  congr 3
  refine congrArg₂ _ (funext fun y => ?_) rfl
  cases srcIssued y <;> rfl

theorem meterConfigBody_puts {c : Core} {r : Req} (hzero : bitsOf (r.w 0) 7 3 = 0 ∧ bitsOf (r.w 0) 31 16 = 0)
    (hwin : bitsOf (r.w 0) 2 0 ≤ 6) : meterConfigBody c r = ans (c.put R.ARMATURE_METER_CTRL (r.w 0)) .ok := by
  unfold meterConfigBody
  dsimp only
  rw [if_neg (by simp [hzero]), if_neg (by omega)]

/-- The meter of a source. -/
def Core.srcMeter (c : Core) (n : Nat) : SrcMeter := smGet (fun _ => {}) c.arm.meters n

/-- A meter whose held values are those of the moment. -/
def Core.meterNow (c : Core) (n : Nat) : SrcMeter :=
  { c.srcMeter n with
    hold := (c.f ⟨R.ARMATURE_METER_PEAK n, 23, 0⟩, c.now)
    holdTp := (bitsOf (c.get (R.ARMATURE_METER_TP n)) 15 0, c.now)
    holdRms := ((c.srcMeter n).rms, c.now) }

theorem bitsOf_low (w : Word) : bitsOf w 15 0 = w.toNat % 2 ^ 16 := by simp [bitsOf]

theorem srcMeter_holdReset (c : Core) (n which : Nat) : (c.holdReset n which).srcMeter n = { c.srcMeter n with
    hold := if which % 2 = 1 then (c.meterNow n).hold else (c.srcMeter n).hold
    holdTp := if which / 2 % 2 = 1 then (c.meterNow n).holdTp else (c.srcMeter n).holdTp
    holdRms := if which / 4 % 2 = 1 then (c.meterNow n).holdRms else (c.srcMeter n).holdRms } := by
  unfold Core.meterNow
  rw [bitsOf_low]
  exact smGet_smSet_same _ _ _ _

theorem srcMeter_holdReset_ne (c : Core) {n k : Nat} (which : Nat) (h : k ≠ n) : (c.holdReset n which).srcMeter k = c.srcMeter k :=
  smGet_smSet_ne _ _ _ h

/-- The held values of one source leave the registers of the others alone. -/
theorem get_holdReset (c : Core) {n off : Nat} (which : Nat) (htp : off ≠ R.ARMATURE_METER_TP n) (hrms : off ≠ R.ARMATURE_METER_RMS n)
    (hhold : off ≠ R.ARMATURE_METER_HOLD n) : (c.holdReset n which).get off = c.get off := by
  unfold Core.holdReset
  dsimp only
  rw [Core.get_put_ne _ _ hhold, Core.get_put_ne _ _ hrms, Core.get_put_ne _ _ htp]
  rfl

theorem now_holdReset (c : Core) (n which : Nat) : (c.holdReset n which).now = c.now := (rfl)

theorem meterNow_holdReset_ne (c : Core) {n k : Nat} (which : Nat) (h : k ≠ n) : (c.holdReset n which).meterNow k = c.meterNow k := by
  have hpeak : (c.holdReset n which).get (R.ARMATURE_METER_PEAK k) = c.get (R.ARMATURE_METER_PEAK k) := get_holdReset c which
    (by unfold R.ARMATURE_METER_PEAK R.ARMATURE_METER_TP; omega) (by unfold R.ARMATURE_METER_PEAK R.ARMATURE_METER_RMS; omega)
    (by unfold R.ARMATURE_METER_PEAK R.ARMATURE_METER_HOLD; omega)
  have htp : (c.holdReset n which).get (R.ARMATURE_METER_TP k) = c.get (R.ARMATURE_METER_TP k) := get_holdReset c which
    (by unfold R.ARMATURE_METER_TP; omega) (by unfold R.ARMATURE_METER_TP R.ARMATURE_METER_RMS; omega)
    (by unfold R.ARMATURE_METER_TP R.ARMATURE_METER_HOLD; omega)
  unfold Core.meterNow
  rw [srcMeter_holdReset_ne c which h, now_holdReset, htp, Core.f_congr hpeak]

theorem get_hold_holdReset (c : Core) (n which : Nat) :
    (c.holdReset n which).get (R.ARMATURE_METER_HOLD n) = .ofNat 32 ((c.holdReset n which).srcMeter n).hold.1 := by
  rw [srcMeter_holdReset]
  exact Core.get_put_same _ _ _

/-- What METER_HOLD_RESET does to one source. -/
def Core.heldAnew (c : Core) (n : Nat) : Core := if srcIssued n then c.holdReset n 7 else c

theorem heldAnew_bystanders (c : Core) (n : Nat) : (c.heldAnew n).bystanders = c.bystanders := by
  unfold Core.heldAnew
  split <;> rfl

theorem heldAnew_ne (c : Core) {n k : Nat} (h : k ≠ n) :
    (c.heldAnew n).srcMeter k = c.srcMeter k ∧ (c.heldAnew n).meterNow k = c.meterNow k := by
  unfold Core.heldAnew
  split
  · exact ⟨srcMeter_holdReset_ne c 7 h, meterNow_holdReset_ne c 7 h⟩
  · exact ⟨rfl, rfl⟩

theorem srcMeter_foldl_heldAnew_notMem (l : List Nat) (c : Core) {n : Nat} (hn : n ∉ l) :
    (l.foldl Core.heldAnew c).srcMeter n = c.srcMeter n := by
  induction l generalizing c with
  | nil => rfl
  | cons k t ih =>
    obtain ⟨hk, ht⟩ := not_or.mp (mt List.mem_cons.mpr hn)
    exact (ih (c.heldAnew k) ht).trans (heldAnew_ne c hk).1

/-- Each issued source of a list without repeats holds the values of the moment. -/
theorem srcMeter_foldl_heldAnew (l : List Nat) (c : Core) {n : Nat} (hl : l.Nodup) (hn : n ∈ l) (hissued : srcIssued n = true) :
    (l.foldl Core.heldAnew c).srcMeter n = c.meterNow n := by
  induction l generalizing c with
  | nil => cases hn
  | cons k t ih =>
    obtain ⟨hk, ht⟩ := List.nodup_cons.mp hl
    rcases List.mem_cons.mp hn with rfl | hmem
    · refine (srcMeter_foldl_heldAnew_notMem t _ hk).trans ?_
      unfold Core.heldAnew
      rw [if_pos hissued]
      exact srcMeter_holdReset c n 7
    · exact (ih (c.heldAnew k) ht hmem).trans (heldAnew_ne c fun h : n = k => hk (h ▸ hmem)).2

theorem meterHoldBody_holds {c : Core} {r : Req} (hcount : 1 ≤ r.n 1) (hlast : r.n 0 + r.n 1 ≤ 4096) :
    meterHoldBody c r = ans (((List.range (r.n 1)).map (· + r.n 0)).foldl Core.heldAnew c) .ok := by
  unfold meterHoldBody
  exact if_neg (by omega)

theorem meterHoldExpire_peak {c : Core} {n : Nat} (hn : n ≤ 4095) (hissued : srcIssued n = true)
    (hset : c.f F.ARMATURE_METER_CTRL_HOLD ≠ 0)
    (hdue : 10 * (c.srcMeter n).hold.2 + c.f F.ARMATURE_METER_CTRL_HOLD * c.fsHz ≤ 10 * c.now) :
    meterHoldExpire n 0 c = c.holdReset n 1 := by
  have hno : ¬(n > 4095 ∨ (!srcIssued n) = true ∨ 0 > 2 ∨ c.f F.ARMATURE_METER_CTRL_HOLD = 0 ∨
      10 * c.now < 10 * (c.srcMeter n).hold.2 + c.f F.ARMATURE_METER_CTRL_HOLD * c.fsHz) := by
    rw [hissued, Bool.not_true]
    simp only [Bool.false_eq_true, false_or]
    omega
  exact if_neg hno

theorem nodup_range_map_add (n k : Nat) : ((List.range n).map (· + k)).Nodup :=
  List.nodup_range.map (add_left_injective k)

/-! ### Completion -/

/-- Settles O30: each command reduces to the one branch that its hypotheses leave; what stands beside the path, the group or the source
it names is kept by the folds over the others. -/
theorem armatureCommandsComplete : Obligations.ArmatureCommandsComplete := by
  unfold Obligations.ArmatureCommandsComplete
  refine ⟨?expire, ?record, ?marks, ?transparent, ?gain, ?begin_, ?set, ?commit, ?done, ?get, ?now, ?gainSet, ?gainChange, ?directGet,
    ?groupSet, ?groupChange, ?meterGet, ?meterConfig, ?holdReset, ?holdExpire⟩
  case expire =>
    intro s n at_ hq hmark hpast
    have hkeep : ∀ {α : Type} (g : Core → α), (∀ (c : Core) (k : Nat) (x : DirectPath), g (c.setDp k x) = g c) →
        (∀ (c : Core) (k v : Nat), g (c.setF (F.ARMATURE_DP_CTRL_NONPCM k) v) = g c) →
        g (nonpcmHoldExpire n s.core) = g (((s.core.unmarked n (s.core.boundaryAt s.core.now)).raise F.ARMATURE_INT_STATUS_NONPCM_OFF).nonpcmAny) :=
      fun g hdp hset => (congrArg g (nonpcmHoldExpire_clears hmark hpast)).trans (foldl_pathHeard_keeps hdp hset _ _ _)
    have harm : (((s.core.unmarked n (s.core.boundaryAt s.core.now)).raise F.ARMATURE_INT_STATUS_NONPCM_OFF).nonpcmAny).arm =
        (s.core.unmarked n (s.core.boundaryAt s.core.now)).arm := (Core.setB_arm _ _ _).trans (Core.raise_arm _ _)
    refine completes_of_eq rfl hq rfl
      ((hkeep Core.atl (fun _ _ _ => rfl) fun _ _ _ => rfl).trans ((Core.setB_atl _ _ _).trans (Core.raise_atl _ _))) ⟨?_, ?_, ?_⟩
    · refine (hkeep (Core.marked · n) (fun _ _ _ => rfl) fun _ _ _ => rfl).trans ?_
      unfold Core.marked
      rw [harm]
      exact congrArg Option.isSome (smGet_smSet_same (fun _ => (none : Option Nat)) s.core.arm.marks n none)
    · refine (hkeep (fun c => (smGet (fun _ => none) c.arm.rise n : Option Nat)) (fun _ _ _ => rfl) fun _ _ _ => rfl).trans ?_
      rw [harm]
      exact smGet_smSet_same (fun _ => (none : Option Nat)) s.core.arm.rise n (some _)
    · refine (hkeep (Core.flag · F.ARMATURE_INT_STATUS_NONPCM_OFF) (fun _ _ _ => rfl) fun c k v =>
        Core.flag_congr (Core.get_setF_ne _ _ ?_)).trans ?_
      · simp only [F.ARMATURE_INT_STATUS_NONPCM_OFF, F.ARMATURE_DP_CTRL_NONPCM, R.ARMATURE_INT_STATUS, R.ARMATURE_DP_CTRL]
        omega
      · exact (Core.flag_congr (Core.get_setF_ne _ _ (by decide))).trans (Core.flag_raise_same _ _ _ (by decide))
  case record =>
    intro s m v c hserves hq hbit
    refine completes_of_eq rfl hq ((busWrite_served hserves 0 _).trans (if_pos hbit)) (Core.written_atl _ _ _) ?_
    exact Core.get_put_same _ _ _
  case marks =>
    intro s p c r hadmits hq
    exact completes_of_body rfl hadmits hq (by decide) (nonpcmGetBody_marks _ _) rfl fun t h => h.told
  case transparent =>
    intro s n j raw hq hn hactive htransparent hj hlost hcut
    refine completes_of_eq rfl hq (directPathWord_transparent hn hactive hj htransparent hlost hcut raw) rfl ?_
    rw [State.core_of_core, Core.dp_setDp_same]
    exact ⟨rfl, rfl⟩
  case gain =>
    intro s n j raw hq hn hactive htransparent hj hlost hnonpcm
    obtain ⟨x, found, hout, hword⟩ := directPathWord_gain hn hactive hj htransparent hlost hnonpcm raw
    exact completes_of_eq rfl hq hword (Core.pathPassed_atl _ _ _ _ _)
      ⟨(Core.out_pathPassed _ _ _ _ _).trans hout, Core.get_pathPassed _ _ _ _ _⟩
  case begin_ =>
    intro s p c r hadmits hq hbank hbusy
    refine completes_of_body rfl hadmits hq (by decide) (routeBeginBody_begins hbank hbusy) rfl fun t h => ?_
    rw [State.core_of_core, h.arm]
    refine ⟨h.told, rfl, rfl, ?_⟩
    exact (h.flag (by decide) (by decide)).trans (Core.flag_stagedReady _ 0)
  case set =>
    intro s p d c r hadmits hq hcount hlen hok hbusy
    refine completes_of_body rfl hadmits hq (by decide) (routeSetBody_writes hcount hlen hok hbusy) rfl fun t h => ?_
    rw [State.core_of_core, h.arm]
    exact ⟨h.told, smGet_writeRoutes _ _ _, rfl⟩
  case commit =>
    intro s p c r hadmits hq hbusy
    refine completes_of_body rfl hadmits hq (by decide) (routeCommitBody_starts hbusy) rfl fun t h => ⟨h.told, ?_⟩
    rw [State.core_of_core, h.arm]
  case done =>
    intro s k hq hcommit
    obtain ⟨l, hdone⟩ := routeCommitDone_ends hcommit
    have harm : ((s.core.routesCommitted.raise F.ARMATURE_INT_STATUS_COMMIT_DONE).notice k (s.core.routeAdmit s.core.arm.staged).1 l).arm =
        { s.core.arm with commit := none } := by
      rw [Core.notice_arm, Core.raise_arm, Core.routesCommitted_arm]
    have hready : ((s.core.routesCommitted.raise F.ARMATURE_INT_STATUS_COMMIT_DONE).notice k
        (s.core.routeAdmit s.core.arm.staged).1 l).flag (stagedReady 2) = s.core.routesCommitted.flag (stagedReady 2) :=
      (Core.flag_congr (Core.get_notice_away _ (by decide) (by decide))).trans (Core.flag_raise_off _ (by decide))
    refine completes_of_eq rfl hq hdone (by rw [Core.notice_atl, Core.raise_atl, Core.routesCommitted_atl]) ?_
    rw [State.core_of_core, harm, hready, Core.flag_routesCommitted]
    refine ⟨rfl, ?_, fun h => by simp [h], fun h => by simp [h], rfl⟩
    exact (Core.flag_congr (Core.get_notice_away _ (by decide) (by decide))).trans (Core.flag_raise_same _ _ _ (by decide))
  case get =>
    intro s p c r hadmits hq hbank hcount hlast
    exact completes_of_body rfl hadmits hq (by decide) (routeGetBody_bank hbank hcount hlast) rfl fun t h => h.told
  case now =>
    intro s p c r hadmits hq hcount hlen hedited hbusy hok hadmit hglaze
    refine completes_of_body rfl hadmits hq (by decide) (routeNowBody_swaps hcount hlen hedited hbusy hok hadmit hglaze) rfl fun t h => ?_
    have huntimed := untimed_of_admits hadmits
    rw [State.core_of_core, h.arm, h.cal]
    refine ⟨h.told, rfl, rfl, ?_⟩
    change c.cal.swaps ++ [routeSwap c r] = _
    unfold routeSwap
    rw [boundary_untimed huntimed, show pkAtTime r.p = false from huntimed]
  case gainSet =>
    intro s p g c r hadmits hq hgain hmute hcount hlast hplain
    refine completes_of_body rfl hadmits hq (by decide) (directGainBody_waits hgain hmute hcount hlast hplain) rfl fun t h => ⟨h.told, ?_⟩
    rw [State.core_of_core, h.arm, boundary_untimed (untimed_of_admits hadmits)]
    rfl
  case gainChange =>
    intro s n q hq hn hreqs htodo hb
    refine completes_of_eq rfl hq (directGainChange_starts hreqs htodo hb) rfl ⟨rfl, Core.dp_setDp_same _ _ _, ?_, ?_⟩
    · refine (Core.get_setF_ne _ _ ?_).trans (Core.get_put_same _ _ _)
      simp only [F.ARMATURE_DP_CTRL_MUTE, R.ARMATURE_DP_TARGET, R.ARMATURE_DP_CTRL]
      omega
    · refine (Core.flag_setF_bit _ _ _ _ (by decide)).trans ?_
      cases q.mute <;> rfl
  case directGet =>
    intro s p c r hadmits hq hn
    exact completes_of_body rfl hadmits hq (by decide) (directGetBody_words hn) rfl fun t h => h.told
  case groupSet =>
    intro s p c r hadmits hq hn hlen hfree
    refine completes_of_body rfl hadmits hq (by decide) (groupSetBody_waits hn hlen hfree)
      (Core.regroup_keeps (g := Core.bystanders) (fun _ _ _ => rfl) _ _ _) fun t h => ⟨h.told, ?_⟩
    rw [State.core_of_core, h.arm, Core.regroup_keeps (g := Core.arm) (fun _ _ _ => rfl), boundary_untimed (untimed_of_admits hadmits)]
    rfl
  case groupChange =>
    intro s g b l k hq hg hnext hb
    have htake := groupChange_takes hnext hb
    generalize hd : s.core.setGroups (smSet (fun _ => []) s.core.arm.groups g l) = d at htake
    generalize (smGet (fun _ => []) s.core.arm.groups g).filter (fun n => !l.contains n) = old at htake
    have hkeep : ∀ {α : Type} (p : Core → α), (∀ c y v, p (Core.setF c y v) = p c) → (∀ c n y, p (Core.setRxStream c n y) = p c) →
        p (l.foldl (Core.grouped (some g)) (old.foldl (Core.grouped none) d)).groupRegs = p d := fun p hset hstream =>
      have hone : ∀ (o : Option Nat) (c : Core) (n : Nat), p (c.grouped o n) = p c := fun _ _ _ =>
        (hstream _ _ _).trans ((hset _ _ _).trans (hset _ _ _))
      (Core.groupRegs_keeps hset _).trans ((foldl_keeps p _ (hone _) _ _).trans (foldl_keeps p _ (hone _) _ _))
    have harm : d.arm = { s.core.arm with groupNext := [], groups := smSet (fun _ => []) s.core.arm.groups g l } := by
      rw [← hd]
      rfl
    have hlive : (l.foldl (Core.grouped (some g)) (old.foldl (Core.grouped none) d)).arm = d.arm :=
      (foldl_keeps Core.arm (Core.grouped _) (fun _ _ => rfl) _ _).trans (foldl_keeps Core.arm (Core.grouped _) (fun _ _ => rfl) _ _)
    refine completes_of_eq rfl hq htake ?_ ?_
    · rw [Core.notice_atl, hkeep Core.atl (fun _ _ _ => rfl) fun _ _ _ => rfl, ← hd]
      rfl
    · rw [State.core_of_core, Core.notice_arm, hkeep Core.arm (fun _ _ _ => rfl) fun _ _ _ => rfl, harm]
      have hwindow : window (R.ARMATURE_GROUP g) = 11 := by
        unfold window R.ARMATURE_GROUP
        omega
      refine ⟨rfl, smGet_smSet_same _ _ _ _, ?_, fun x hx => ?_⟩
      · rw [Core.f_congr (Core.get_notice_away _ (by simp [hwindow]) (by simp [hwindow])), Core.members_groupRegs _ hg, hlive, harm]
        exact congrArg (fun m : List Nat => m.length % 512) (smGet_smSet_same _ _ _ _)
      · rw [(Core.notice_sameNet _ _ _ _).rxStream, Core.groupRegs_keeps (g := (Core.rxStream · x)) fun _ _ _ => rfl]
        exact group_foldl_grouped _ _ _ hx
  case meterGet =>
    intro s p x c r hadmits hq hcount hlast hx
    have hmem : x ∈ (List.range (r.n 1)).map (· + r.n 0) :=
      List.mem_map.mpr ⟨x - r.n 0, List.mem_range.mpr (by omega), by omega⟩
    have hinj : ∀ a b : Nat, R.ARMATURE_METER_PEAK a = R.ARMATURE_METER_PEAK b → a = b := by
      unfold R.ARMATURE_METER_PEAK
      omega
    have hpeak : window (R.ARMATURE_METER_PEAK x) = 11 := by unfold window R.ARMATURE_METER_PEAK; omega
    have htp : window (R.ARMATURE_METER_TP x) = 11 := by unfold window R.ARMATURE_METER_TP; omega
    refine completes_of_body rfl hadmits hq (by decide) (meterGetBody_values hcount hlast)
      (foldl_keeps Core.bystanders (fun c n => Core.put c (R.ARMATURE_METER_PEAK n) 0) (fun _ _ => rfl) _ _) fun t h => ⟨h.told, ?_, ?_⟩
    · exact (h.get (by simp [hpeak]) (by simp [hpeak])).trans (get_foldl_put R.ARMATURE_METER_PEAK (fun _ => 0) hinj _ _ hmem)
    · refine (h.get (by simp [htp]) (by simp [htp])).trans (get_foldl_put_ne _ (fun _ => 0) _ _ fun a _ => ?_)
      unfold R.ARMATURE_METER_TP R.ARMATURE_METER_PEAK
      omega
  case meterConfig =>
    intro s p c r hadmits hq hzero hwin
    refine completes_of_body rfl hadmits hq (by decide) (meterConfigBody_puts hzero hwin) rfl fun t h => ⟨h.told, ?_⟩
    exact (h.get (by decide) (by decide)).trans (Core.get_put_same _ _ _)
  case holdReset =>
    intro s p x c r hadmits hq hcount hlast hx hissued
    refine completes_of_body rfl hadmits hq (by decide) (meterHoldBody_holds hcount hlast)
      (foldl_keeps Core.bystanders _ heldAnew_bystanders _ _) fun t h => ⟨h.told, ?_⟩
    have hmem : x ∈ (List.range (r.n 1)).map (· + r.n 0) :=
      List.mem_map.mpr ⟨x - r.n 0, List.mem_range.mpr (by omega), by omega⟩
    have hmeter := srcMeter_foldl_heldAnew _ c (nodup_range_map_add _ _) hmem hissued
    rw [State.core_of_core, h.arm]
    unfold Core.srcMeter at hmeter
    rw [hmeter]
    exact ⟨rfl, rfl, rfl⟩
  case holdExpire =>
    rintro s n which hq hn hissued rfl hset hdue
    refine completes_of_eq rfl hq (meterHoldExpire_peak hn hissued hset hdue) rfl ?_
    have hmeter := srcMeter_holdReset s.core n 1
    have hreg := get_hold_holdReset s.core n 1
    rw [hmeter] at hreg
    unfold Core.srcMeter at hmeter
    rw [State.core_of_core, hmeter]
    exact ⟨rfl, rfl, hreg⟩

end Sys2Proof.Machine
end

section
/-! Transmission, gate lists and streams (R366 to R386): what a frame, a list, a definition and a packet leave alone, and O32. -/

namespace Sys2Proof.Machine
open Sys2Proof

/-! ### Port registers

The registers that the statements read, by their offsets, beside the counters and the interrupts that messages on P3 may change. -/

/-- Messages leave the registers of a port alone, but for the counter of refused frames and the interrupts of P3. -/
theorem SameNet.get_port {c d : Core} (h : SameNet c d) {off : Nat} (hlo : 0xC00000 ≤ off) (herr : off % 0x100000 ≠ 0xB8)
    (hint : off % 0x100000 ≠ 4) : c.get off = d.get off := by
  refine h.get ?_ ?_ ?_
  · unfold window
    omega
  · unfold R.NET_TX_ERR
    omega
  · unfold R.NET_INT_STATUS
    omega

/-- A fold keeps what each of its steps keeps. -/
theorem foldl_keeps_of_mem {α β γ : Type} (g : α → γ) (f : α → β → α) (l : List β) (h : ∀ b ∈ l, ∀ a, g (f a b) = g a) (a : α) :
    g (l.foldl f a) = g a := by
  induction l generalizing a with
  | nil => rfl
  | cons b t ih => exact (ih (fun x hx => h x (List.mem_cons_of_mem _ hx)) _).trans (h b List.mem_cons_self a)

theorem Core.put_bystanders (c : Core) (off : Nat) (w : Word) : (c.put off w).bystanders = c.bystanders := (rfl)

/-! ### A frame leaves (R366, R380) -/

/-- The octets of a frame that leaves are counted in units of 256. -/
theorem Core.octets_sent (c : Core) (p len : Nat) : c.octets p len false =
    if (c.netPort p).txRest + len < 256 then c.setNetPort p { c.netPort p with txRest := ((c.netPort p).txRest + len) % 256 }
    else (c.setNetPort p { c.netPort p with txRest := ((c.netPort p).txRest + len) % 256 }).countW (R.NET_TX_OCTETS p)
      (((c.netPort p).txRest + len) / 256) := rfl

section Octets
variable (c : Core) (p len : Nat)

theorem Core.get_octets_sent {off : Nat} (h : off ≠ R.NET_TX_OCTETS p) (hint : off % 0x100000 ≠ 4) :
    (c.octets p len false).get off = c.get off := by
  rw [Core.octets_sent]
  split
  · rfl
  · exact (Core.get_countW_ne _ _ h hint).trans rfl

theorem Core.txq_octets_sent : ((c.octets p len false).netPort p).txq = (c.netPort p).txq := by
  have hset : ∀ n : Nat, ((c.setNetPort p { c.netPort p with txRest := n }).netPort p).txq = (c.netPort p).txq := fun n => by
    rw [Core.netPort_setNetPort_same]
  rw [Core.octets_sent]
  split
  · exact hset _
  · rw [Core.netPort_of_net (Core.countW_net _ _ _)]
    exact hset _

theorem Core.octets_sent_atl : (c.octets p len false).atl = c.atl := by
  rw [Core.octets_sent]
  split
  · rfl
  · exact Core.countW_atl _ _ _

theorem Core.mem_octets_sent_outbox {m : Msg} (h : m ∈ c.outbox) : m ∈ (c.octets p len false).outbox := by
  rw [Core.octets_sent]
  split
  · exact h
  · exact Core.mem_countW_outbox _ _ _ h

end Octets

/-- A stream packet that leaves more than a packet time late is counted (R380). -/
def Core.lateCounted (c : Core) (o : Option (Nat × Nat)) : Core :=
  match o with
  | some (s, due) => if c.ptpNs > due then (c.count (R.MEDIA_TX_LATE s)).raise F.MEDIA_INT_STATUS_TX_LATE else c
  | none => c

section LateCounted
variable (c : Core) (o : Option (Nat × Nat))

theorem Core.lateCounted_rest : (c.lateCounted o).rest = c.rest := by
  unfold Core.lateCounted
  split
  · split
    · simp
    · rfl
  · rfl

theorem Core.lateCounted_net : (c.lateCounted o).net = c.net := (congrArg Core.net (c.lateCounted_rest o) :)

theorem Core.lateCounted_atl : (c.lateCounted o).atl = c.atl := (congrArg Core.atl (c.lateCounted_rest o) :)

theorem Core.mem_lateCounted_outbox {m : Msg} (h : m ∈ c.outbox) : m ∈ (c.lateCounted o).outbox := by
  unfold Core.lateCounted
  split
  · split
    · exact Core.mem_raise_outbox _ _ (Core.mem_count_outbox _ _ h)
    · exact h
  · exact h

/-- The ports stand below the streams. -/
theorem Core.get_lateCounted {off : Nat} (h : off < 0x1000000) (hint : off % 0x100000 ≠ 4) : (c.lateCounted o).get off = c.get off := by
  unfold Core.lateCounted
  split
  · split
    · next s due _ =>
      have hoff : off ≠ R.MEDIA_TX_LATE s := by
        unfold R.MEDIA_TX_LATE
        omega
      have hst : off ≠ F.MEDIA_INT_STATUS_TX_LATE.off := by
        simp only [F.MEDIA_INT_STATUS_TX_LATE, R.MEDIA_INT_STATUS]
        omega
      rw [Core.get_raise_ne _ hst, Core.get_count_ne _ hoff hint]
    · rfl
  · rfl

end LateCounted

theorem Core.sendFrame_eq (c : Core) (p : Nat) (f : TxFrame) : c.sendFrame p f =
    (((((c.setNetPort p { c.netPort p with txq := (c.netPort p).txq.erase f }).send f.msg).countW (R.NET_TX_FRAMES p) 1).octets p
      (max 64 (f.len + 4)) false).lateCounted f.stream) := rfl

theorem Core.txq_sendFrame (c : Core) (p : Nat) (f : TxFrame) : ((c.sendFrame p f).netPort p).txq = (c.netPort p).txq.erase f := by
  rw [Core.sendFrame_eq, Core.netPort_of_net (Core.lateCounted_net _ _), Core.txq_octets_sent,
    Core.netPort_of_net (Core.countW_net _ _ _), Core.netPort_of_net (Core.send_net _ _), Core.netPort_setNetPort_same]

theorem Core.mem_sendFrame_outbox (c : Core) (p : Nat) (f : TxFrame) : f.msg ∈ (c.sendFrame p f).outbox := by
  rw [Core.sendFrame_eq]
  exact Core.mem_lateCounted_outbox _ _ (Core.mem_octets_sent_outbox _ _ _ (Core.mem_countW_outbox _ _ _ (Core.mem_send _ _)))

theorem Core.sendFrame_atl (c : Core) (p : Nat) (f : TxFrame) : (c.sendFrame p f).atl = c.atl := by
  rw [Core.sendFrame_eq, Core.lateCounted_atl, Core.octets_sent_atl, Core.countW_atl]
  rfl

theorem Core.get_sendFrame_frames (c : Core) {p : Nat} (hp : p ≤ 3) (f : TxFrame) :
    (c.sendFrame p f).get (R.NET_TX_FRAMES p) = c.get (R.NET_TX_FRAMES p) + 1 := by
  have hlow : R.NET_TX_FRAMES p < 0x1000000 := by unfold R.NET_TX_FRAMES; omega
  have hint : R.NET_TX_FRAMES p % 0x100000 ≠ 4 := by unfold R.NET_TX_FRAMES; omega
  rw [Core.sendFrame_eq, Core.get_lateCounted _ _ hlow hint,
    Core.get_octets_sent _ _ _ (by unfold R.NET_TX_FRAMES R.NET_TX_OCTETS; omega) hint,
    Core.get_countW_plain _ _ hint]
  rfl

/-- The entry that acts is shown while a gate list runs. -/
def Core.entryShown (c : Core) (p : Nat) : Core :=
  if c.flag (F.NET_STATUS_GATE_RUN p) then c.setF (F.NET_GATE_STATUS_OPER_INDEX p) (c.operIndex p) else c

section EntryShown
variable (c : Core) (p : Nat)

theorem Core.entryShown_rest : (c.entryShown p).rest = c.rest := by
  unfold Core.entryShown
  split <;> rfl

theorem Core.entryShown_net : (c.entryShown p).net = c.net := (congrArg Core.net (c.entryShown_rest p) :)

theorem Core.entryShown_atl : (c.entryShown p).atl = c.atl := (congrArg Core.atl (c.entryShown_rest p) :)

theorem Core.get_entryShown {off : Nat} (h : off ≠ R.NET_GATE_STATUS p) : (c.entryShown p).get off = c.get off := by
  unfold Core.entryShown
  split
  · exact Core.get_setF_ne _ _ h
  · rfl

end EntryShown

/-- The first of the classes from the highest down that has a frame is that of the queue's front, where no frame behind it is of a
higher one. -/
theorem findSome_highest {f : TxFrame} {u : List TxFrame} (hcls : f.cls ≤ 7) (hall : u.all (fun g => decide (g.cls ≤ f.cls)) = true)
    (l : List Nat) (hl : f.cls ∈ l) (hsorted : l.Pairwise (· > ·)) :
    (l.findSome? fun k => (f :: u).find? fun g => decide (g.cls = k)) = some f := by
  induction l with
  | nil => cases hl
  | cons k t ih =>
    obtain ⟨hk, ht⟩ := List.pairwise_cons.mp hsorted
    by_cases h : f.cls = k
    · rw [List.findSome?_cons, List.find?_cons_of_pos (by simpa using h)]
    · have hmem : f.cls ∈ t := (List.mem_cons.mp hl).resolve_left h
      have hnone : ((f :: u).find? fun g => decide (g.cls = k)) = none := by
        rw [List.find?_eq_none]
        intro g hg
        have hle : g.cls ≤ f.cls := by
          rcases List.mem_cons.mp hg with rfl | hg
          · exact le_rfl
          · exact of_decide_eq_true (List.all_eq_true.mp hall g hg)
        have hlt := hk _ hmem
        rw [decide_eq_true_eq]
        omega
      rw [List.findSome?_cons, hnone]
      exact ih hmem ht

theorem frameTransmit_sends {c : Core} {p : Nat} {f : TxFrame} {u : List TxFrame} (hp : p ≤ 3)
    (hup : c.flag (F.NET_STATUS_LINK_UP p) = true) (hpaused : c.flag (F.NET_STATUS_PAUSED p) = false) (hgated : c.gated? p = false)
    (hq : (c.netPort p).txq = f :: u) (hcls : f.cls ≤ 7) (hall : u.all (fun g => decide (g.cls ≤ f.cls)) = true) :
    frameTransmit p c = (c.entryShown p).sendFrame p f := by
  have hstatus : R.NET_STATUS p ≠ R.NET_GATE_STATUS p := by unfold R.NET_STATUS R.NET_GATE_STATUS; omega
  have hctrl : R.NET_GATE_CTRL p ≠ R.NET_GATE_STATUS p := by unfold R.NET_GATE_CTRL R.NET_GATE_STATUS; omega
  have hclosed : ∀ k, (c.entryShown p).gateCloses p k = none := fun k => by
    have h : (c.entryShown p).gated? p = false := by
      unfold Core.gated? at hgated ⊢
      rwa [Core.flag_congr (c.get_entryShown p hctrl), Core.flag_congr (c.get_entryShown p hstatus)]
    unfold Core.gateCloses
    rw [h]
    rfl
  have hfree : (c.entryShown p).flag (F.NET_STATUS_PAUSED p) = false := (Core.flag_congr (c.get_entryShown p hstatus)).trans hpaused
  have hqueue : ((c.entryShown p).netPort p).txq = f :: u := by
    rw [Core.netPort_of_net (c.entryShown_net p), hq]
  have hfirst := findSome_highest hcls hall [7, 6, 5, 4, 3, 2, 1, 0] (by simp; omega) (by decide)
  unfold frameTransmit
  rw [if_neg (by simp [hup]; omega)]
  dsimp only
  rw [show (if c.flag (F.NET_STATUS_GATE_RUN p) = true then c.setF (F.NET_GATE_STATUS_OPER_INDEX p) (c.operIndex p) else c) =
    c.entryShown p from rfl]
  simp only [hclosed, hfree, hqueue, Bool.not_false, Bool.or_true, Bool.true_and, ne_eq, reduceCtorEq, not_false_eq_true, decide_true,
    if_true, hfirst]

/-! ### Gate lists (R368 to R370) -/

/-- The change time of the admin list: the first start of a cycle that is at least 1 ms away (R369). -/
def Core.changeTime (c : Core) (p : Nat) : Nat :=
  if c.ptpNs + 1000000 ≤ c.adminBase p then c.adminBase p
  else c.adminBase p + ceilDiv (c.ptpNs + 1000000 - c.adminBase p) (c.f (F.NET_GATE_CYCLE_NS p)) * c.f (F.NET_GATE_CYCLE_NS p)

theorem changeTime_due {c : Core} {p : Nat} (hgood : c.adminGood p = true) :
    c.ptpNs + 1000000 ≤ c.changeTime p ∧ c.adminBase p ≤ c.changeTime p ∧
      (c.changeTime p - c.adminBase p) % c.f (F.NET_GATE_CYCLE_NS p) = 0 ∧
      (c.changeTime p = c.adminBase p ∨ c.changeTime p < c.ptpNs + 1000000 + c.f (F.NET_GATE_CYCLE_NS p)) := by
  have hcycle : 1000 ≤ c.f (F.NET_GATE_CYCLE_NS p) := by
    simp only [Core.adminGood, inRange, Bool.and_eq_true, decide_eq_true_eq] at hgood
    omega
  unfold Core.changeTime
  generalize c.f (F.NET_GATE_CYCLE_NS p) = n at hcycle ⊢
  generalize c.adminBase p = base
  generalize c.ptpNs + 1000000 = from_
  split
  · next h => exact ⟨h, le_rfl, by simp, .inl rfl⟩
  · next h =>
    have hdiv : from_ - base ≤ ceilDiv (from_ - base) n * n ∧ ceilDiv (from_ - base) n * n < from_ - base + n := by
      unfold ceilDiv
      have h1 := Nat.div_add_mod (from_ - base + n - 1) n
      have h2 := Nat.mod_lt (from_ - base + n - 1) (show 0 < n by omega)
      rw [Nat.mul_comm] at h1
      omega
    refine ⟨by omega, by omega, ?_, .inr (by omega)⟩
    rw [Nat.add_sub_cancel_left]
    exact Nat.mul_mod_left _ _

section GateGo
variable (c : Core) (p : Nat) (tok : Option Tok)

/-- A change time is set. -/
def Core.setPending (c : Core) (p : Nat) (x : Option (Nat × Option Tok)) : Core :=
  c.setNetPort p { c.netPort p with pending := x }

theorem Core.pending_setPending (x : Option (Nat × Option Tok)) : ((c.setPending p x).netPort p).pending = x := by
  unfold Core.setPending
  rw [Core.netPort_setNetPort_same]

theorem Core.setPending_bystanders (x : Option (Nat × Option Tok)) : (c.setPending p x).bystanders = c.bystanders := rfl

theorem Core.get_setPending (x : Option (Nat × Option Tok)) (off : Nat) : (c.setPending p x).get off = c.get off := rfl

/-- A list that is given GO waits for its change time. -/
theorem Core.gateGo_eq : c.gateGo p tok =
    ((c.setPending p (some (c.changeTime p, tok))).setF (F.NET_STATUS_GATE_PENDING p) 1).setF (F.NET_GATE_CTRL_GO p) 1 := rfl

theorem Core.gateGo_bystanders : (c.gateGo p tok).bystanders = c.bystanders := by
  rw [Core.gateGo_eq, Core.setF_bystanders, Core.setF_bystanders, Core.setPending_bystanders]

theorem Core.gateGo_atl : (c.gateGo p tok).atl = c.atl := congrArg Prod.snd (c.gateGo_bystanders p tok)

theorem Core.pending_gateGo : ((c.gateGo p tok).netPort p).pending = some (c.changeTime p, tok) := by
  rw [Core.gateGo_eq, Core.netPort_of_net (Core.setF_net _ _ _), Core.netPort_of_net (Core.setF_net _ _ _), Core.pending_setPending]

theorem Core.flag_pending_gateGo : (c.gateGo p tok).flag (F.NET_STATUS_GATE_PENDING p) = true := by
  have hoff : R.NET_STATUS p ≠ R.NET_GATE_CTRL p := by unfold R.NET_STATUS R.NET_GATE_CTRL; omega
  rw [Core.gateGo_eq]
  exact (Core.flag_congr (Core.get_setF_ne _ _ hoff)).trans (Core.flag_setF_bit _ _ _ _ (by decide))

theorem Core.flag_go_gateGo : (c.gateGo p tok).flag (F.NET_GATE_CTRL_GO p) = true := by
  rw [Core.gateGo_eq]
  exact Core.flag_setF_bit _ _ _ _ (by decide)

theorem Core.get_gateGo {off : Nat} (hstatus : off ≠ R.NET_STATUS p) (hctrl : off ≠ R.NET_GATE_CTRL p) :
    (c.gateGo p tok).get off = c.get off := by
  rw [Core.gateGo_eq, Core.get_setF_ne _ _ hctrl, Core.get_setF_ne _ _ hstatus, Core.get_setPending]

/-- The fields of NET_GATE_CTRL below GO stay. -/
theorem Core.f_ctrl_gateGo {hi lo : Nat} (hlo : lo ≤ hi) (hhi : hi < 31) :
    (c.gateGo p tok).f ⟨R.NET_GATE_CTRL p, hi, lo⟩ = c.f ⟨R.NET_GATE_CTRL p, hi, lo⟩ := by
  have hoff : R.NET_GATE_CTRL p ≠ R.NET_STATUS p := by unfold R.NET_STATUS R.NET_GATE_CTRL; omega
  rw [Core.gateGo_eq]
  refine (Core.f_setF_beside _ 1 (by decide) (by decide) hlo (.inr hhi)).trans ?_
  exact Core.f_congr ((Core.get_setF_ne _ _ hoff).trans (Core.get_setPending _ _ _ _))

end GateGo

theorem gateGo_accepts {c : Core} {p m : Nat} {v : Word} (hp : p ≤ 3) (hserves : c.serves m (R.NET_GATE_CTRL p) = true)
    (hbit : bitOf v 31 = true) (hfree : c.flag (F.NET_STATUS_GATE_PENDING p) = false)
    (hgood : (c.written ⟨m, R.NET_GATE_CTRL p, v⟩ (2 ^ 31)).adminGood p = true) :
    gateGo p m v c = (c.written ⟨m, R.NET_GATE_CTRL p, v⟩ (2 ^ 31)).gateGo p none := by
  have hoff : R.NET_STATUS p ≠ R.NET_GATE_CTRL p := by unfold R.NET_STATUS R.NET_GATE_CTRL; omega
  have hfree' : (c.written ⟨m, R.NET_GATE_CTRL p, v⟩ (2 ^ 31)).flag (F.NET_STATUS_GATE_PENDING p) = false :=
    (Core.flag_congr (c.get_written_ne (a := ⟨m, R.NET_GATE_CTRL p, v⟩) (2 ^ 31) hoff)).trans hfree
  unfold gateGo
  rw [if_neg (by omega), busWrite_served hserves, if_neg (by rw [hbit, hfree']; decide), if_pos hgood]

/-- The operating list takes the admin list, entry by entry. -/
def Core.listTaken (p n : Nat) (c : Core) (e : Nat) : Core :=
  c.put (R.NET_GATE_OPER p e) (if e < n then c.get (R.NET_GATE_ADMIN p e) else 0)

section ListTaken
variable (p n : Nat)

theorem get_foldl_listTaken_ne (l : List Nat) (c : Core) {off : Nat} (h : ∀ e ∈ l, off ≠ R.NET_GATE_OPER p e) :
    (l.foldl (Core.listTaken p n) c).get off = c.get off := by
  induction l generalizing c with
  | nil => rfl
  | cons e t ih =>
    exact (ih (c.listTaken p n e) fun b hb => h b (List.mem_cons_of_mem _ hb)).trans (c.get_put_ne _ (h e List.mem_cons_self))

theorem get_foldl_listTaken (m : Nat) (hm : m ≤ 256) (c : Core) {e : Nat} (he : e < m) :
    ((List.range m).foldl (Core.listTaken p n) c).get (R.NET_GATE_OPER p e) = if e < n then c.get (R.NET_GATE_ADMIN p e) else 0 := by
  induction m with
  | zero => omega
  | succ m ih =>
    rw [List.range_succ, List.foldl_append, List.foldl_cons, List.foldl_nil]
    by_cases h : e = m
    · subst h
      refine (Core.get_put_same _ _ _).trans ?_
      rw [get_foldl_listTaken_ne p n _ _ fun k _ => by unfold R.NET_GATE_ADMIN R.NET_GATE_OPER; omega]
    · refine (Core.get_put_ne _ _ (by unfold R.NET_GATE_OPER; omega)).trans (ih (by omega) (by omega))

end ListTaken

/-- The port as its new list finds it (R369). -/
def Core.listPort (c : Core) (p t : Nat) : NetPort :=
  { c.netPort p with
    pending := none, cycle := c.f (F.NET_GATE_CYCLE_NS p), base := c.adminBase p, start := t, holdEntry := none }

/-- A list has come into force, before it is told. -/
def Core.listInForce (c : Core) (p t : Nat) : Core :=
  ((((((List.range 256).foldl (Core.listTaken p (c.f (F.NET_GATE_CTRL_COUNT p))) (c.setNetPort p (c.listPort p t))).setF
    (F.NET_GATE_STATUS_OPER_COUNT p) (c.f (F.NET_GATE_CTRL_COUNT p))).setF (F.NET_GATE_STATUS_OPER_INDEX p) 0).setF
    (F.NET_STATUS_GATE_RUN p) 1).setF (F.NET_STATUS_GATE_PENDING p) 0).setF (F.NET_GATE_CTRL_GO p) 0

theorem gateChangeTime_changes {c : Core} {p t : Nat} {k : Option Tok} (hpending : (c.netPort p).pending = some (t, k))
    (ht : t ≤ c.ptpNs) :
    gateChangeTime p c = ((c.listInForce p t).raise (F.NET_INT_STATUS_GATE_CHANGE p)).notice? k .ok (natBytes (timeWords t)) := by
  unfold gateChangeTime
  rw [hpending]
  exact if_neg (by omega)

section ListInForce
variable (c : Core) (p t : Nat)

theorem Core.listInForce_keeps {α : Type} {g : Core → α} (hg : ∀ (d : Core) (off : Nat) (w : Word), g (d.put off w) = g d) :
    g (c.listInForce p t) = g (c.setNetPort p (c.listPort p t)) :=
  (hg _ _ _).trans <| (hg _ _ _).trans <| (hg _ _ _).trans <| (hg _ _ _).trans <| (hg _ _ _).trans <|
    foldl_keeps g _ (fun _ _ => hg _ _ _) _ _

theorem Core.listInForce_atl : (c.listInForce p t).atl = c.atl := c.listInForce_keeps p t (g := Core.atl) fun _ _ _ => rfl

theorem Core.netPort_listInForce : (c.listInForce p t).netPort p = c.listPort p t := by
  rw [c.listInForce_keeps p t (g := (Core.netPort · p)) fun _ _ _ => rfl, Core.netPort_setNetPort_same]

theorem Core.get_oper_listInForce {e : Nat} (he : e < 256) : (c.listInForce p t).get (R.NET_GATE_OPER p e) =
    if e < c.f (F.NET_GATE_CTRL_COUNT p) then c.get (R.NET_GATE_ADMIN p e) else 0 := by
  have hgate : R.NET_GATE_OPER p e ≠ R.NET_GATE_STATUS p := by unfold R.NET_GATE_OPER R.NET_GATE_STATUS; omega
  have hstatus : R.NET_GATE_OPER p e ≠ R.NET_STATUS p := by unfold R.NET_GATE_OPER R.NET_STATUS; omega
  have hctrl : R.NET_GATE_OPER p e ≠ R.NET_GATE_CTRL p := by unfold R.NET_GATE_OPER R.NET_GATE_CTRL; omega
  unfold Core.listInForce
  rw [Core.get_setF_ne _ _ hctrl, Core.get_setF_ne _ _ hstatus, Core.get_setF_ne _ _ hstatus, Core.get_setF_ne _ _ hgate,
    Core.get_setF_ne _ _ hgate, get_foldl_listTaken _ _ 256 le_rfl _ he]
  rfl

theorem Core.flag_run_listInForce : (c.listInForce p t).flag (F.NET_STATUS_GATE_RUN p) = true := by
  have hctrl : R.NET_STATUS p ≠ R.NET_GATE_CTRL p := by unfold R.NET_STATUS R.NET_GATE_CTRL; omega
  unfold Core.listInForce
  rw [Core.flag_congr (Core.get_setF_ne _ _ hctrl)]
  unfold Core.flag
  rw [F.NET_STATUS_GATE_RUN, F.NET_STATUS_GATE_PENDING, Core.f_setF_beside _ 0 (by decide) (by decide) (by decide) (by decide),
    Core.f_setF_field _ 1 (by decide) (by decide)]
  rfl

theorem Core.flag_pending_listInForce : (c.listInForce p t).flag (F.NET_STATUS_GATE_PENDING p) = false := by
  have hctrl : R.NET_STATUS p ≠ R.NET_GATE_CTRL p := by unfold R.NET_STATUS R.NET_GATE_CTRL; omega
  unfold Core.listInForce
  exact (Core.flag_congr (Core.get_setF_ne _ _ hctrl)).trans (Core.flag_setF_bit _ _ _ _ (by decide))

theorem Core.flag_go_listInForce : (c.listInForce p t).flag (F.NET_GATE_CTRL_GO p) = false := Core.flag_setF_bit _ _ _ _ (by decide)

end ListInForce

/-- The start of the cycle of the operating list that PTP time stands in (R370). -/
def Core.cycleStart (c : Core) (p : Nat) : Nat := cycleAfter (c.netPort p).base (c.netPort p).cycle c.ptpNs - (c.netPort p).cycle

theorem gateCycleStart_begins {c : Core} {p : Nat} (hrun : c.flag (F.NET_STATUS_GATE_RUN p) = true) (hcycle : (c.netPort p).cycle ≠ 0)
    (hlater : (c.netPort p).start < c.cycleStart p) :
    gateCycleStart p c = (c.setNetPort p { c.netPort p with start := c.cycleStart p, holdEntry := none }).setF
      (F.NET_GATE_STATUS_OPER_INDEX p) 0 := by
  have hno : ¬((c.netPort p).holdEntry.isNone = true ∧ c.cycleStart p ≤ (c.netPort p).start) := fun h => absurd h.2 (by omega)
  unfold gateCycleStart
  dsimp only
  rw [if_neg (by rw [hrun]; simp [hcycle])]
  exact if_neg hno

/-- A port's registers with a list that NET_GATE_SET gives. -/
def Core.listGiven (c : Core) (r : Req) : Core :=
  (r.words.drop 7).zipIdx.foldl (fun (c : Core) x => c.put (R.NET_GATE_ADMIN (r.n 0) x.2) x.1)
    ((((((c.setF (F.NET_GATE_CTRL_EN (r.n 0)) (r.n 1)).setF (F.NET_GATE_CTRL_COUNT (r.n 0)) (r.n 6)).put (R.NET_GATE_CYCLE (r.n 0))
      (r.w 2)).put (R.NET_GATE_BASE_NS (r.n 0)) (r.w 3)).put (R.NET_GATE_BASE_SEC_LO (r.n 0)) (r.w 4)).put
      (R.NET_GATE_BASE_SEC_HI (r.n 0)) (r.w 5))

theorem netGateSetBody_gives {c : Core} {r : Req} (hp : r.n 0 ≤ 3) (hlen : r.bytes.length = 28 + 4 * r.n 6) (hen : r.n 1 ≤ 1)
    (hfree : c.flag (F.NET_STATUS_GATE_PENDING (r.n 0)) = false) (hcount : 1 ≤ r.n 6 ∧ r.n 6 ≤ 256)
    (hcycle : 1000 ≤ r.n 2 ∧ r.n 2 ≤ 1000000000) (hbase : r.n 3 < 1000000000 ∧ r.n 5 < 65536)
    (hentries : (r.words.drop 7).all (fun w => decide (100 ≤ bitsOf w 31 8)) = true) :
    netGateSetBody c r = ans ((c.listGiven r).gateGo (r.n 0) (some r.tok)) .accepted := by
  have hrange : inRange 1000 1000000000 (r.n 2) = true := by
    unfold inRange
    simp [hcycle]
  unfold netGateSetBody
  dsimp only
  rw [if_neg (by omega), if_neg (by omega), if_neg (by omega), if_neg (by rw [hfree]; decide)]
  refine if_neg ?_
  rw [hrange, hentries]
  simp only [Bool.not_true, Bool.false_eq_true, false_or, or_false]
  omega

/-- Entries that are stored by their place hold the words of the list. -/
theorem get_foldl_zipIdx_put (reg : Nat → Nat) (hinj : ∀ a b, reg a = reg b → a = b) (l : List Word) (c : Core) {e : Nat} {w : Word}
    (he : l[e]? = some w) : (l.zipIdx.foldl (fun (c : Core) x => c.put (reg x.2) x.1) c).get (reg e) = w := by
  induction l using List.reverseRecOn with
  | nil => simp at he
  | append_singleton l v ih =>
    rw [List.zipIdx_append, List.foldl_append]
    by_cases h : e = l.length
    · subst h
      obtain rfl : v = w := by simpa using he
      simp
    · have hlt : e < l.length := by
        have := (List.getElem?_eq_some_iff.mp he).1
        simp only [List.length_append, List.length_singleton] at this
        omega
      rw [List.getElem?_append_left hlt] at he
      simp only [List.zipIdx_singleton, List.foldl_cons, List.foldl_nil, zero_add]
      exact (Core.get_put_ne _ _ fun heq => h (hinj _ _ heq)).trans (ih he)

theorem Core.listGiven_bystanders (c : Core) (r : Req) : (c.listGiven r).bystanders = c.bystanders :=
  foldl_keeps Core.bystanders _ (fun _ _ => Core.put_bystanders _ _ _) _ _

theorem length_bytesWords (l : List Byte) : (bytesWords l).length = l.length / 4 := by
  induction l using bytesWords.induct with
  | case1 a b c d t ih =>
    rw [bytesWords, List.length_cons, ih]
    simp only [List.length_cons]
    omega
  | case2 l h =>
    rw [bytesWords]
    · rcases l with _ | ⟨_, _ | ⟨_, _ | ⟨_, _ | _⟩⟩⟩
      · rfl
      · simp
      · simp
      · simp
      · exact absurd rfl (h _ _ _ _ _)
    · exact h

section ListGiven
variable (c : Core) {r : Req} (hwords : r.words = bytesWords r.bytes) (hlen : r.bytes.length = 28 + 4 * r.n 6)
include hwords hlen

theorem length_listEntries : (r.words.drop 7).length = r.n 6 := by
  rw [List.length_drop, hwords, length_bytesWords, hlen]
  omega

theorem Core.get_admin_listGiven {e : Nat} (he : e < r.n 6) : (c.listGiven r).get (R.NET_GATE_ADMIN (r.n 0) e) = r.w (7 + e) := by
  have hentries := length_listEntries hwords hlen
  rw [List.length_drop] at hentries
  have hsome : r.words[7 + e]? = some (r.w (7 + e)) := by
    unfold Req.w
    rw [List.getD_eq_getElem?_getD, List.getElem?_eq_getElem (by omega)]
    rfl
  exact get_foldl_zipIdx_put (R.NET_GATE_ADMIN (r.n 0)) (by unfold R.NET_GATE_ADMIN; omega) _ _ (by rw [List.getElem?_drop, hsome])

end ListGiven

/-- The registers beside the entries. -/
theorem Core.get_listGiven (c : Core) {r : Req} {off : Nat} (h : off < R.NET_GATE_ADMIN (r.n 0) 0) :
    (c.listGiven r).get off = ((((((c.setF (F.NET_GATE_CTRL_EN (r.n 0)) (r.n 1)).setF (F.NET_GATE_CTRL_COUNT (r.n 0)) (r.n 6)).put
      (R.NET_GATE_CYCLE (r.n 0)) (r.w 2)).put (R.NET_GATE_BASE_NS (r.n 0)) (r.w 3)).put (R.NET_GATE_BASE_SEC_LO (r.n 0)) (r.w 4)).put
      (R.NET_GATE_BASE_SEC_HI (r.n 0)) (r.w 5)).get off := by
  refine foldl_keeps_of_mem (Core.get · off) _ _ (fun x _ d => Core.get_put_ne _ _ ?_) _
  unfold R.NET_GATE_ADMIN at h ⊢
  omega

theorem Core.f_en_listGiven (c : Core) {r : Req} (hen : r.n 1 ≤ 1) : (c.listGiven r).f (F.NET_GATE_CTRL_EN (r.n 0)) = r.n 1 := by
  rw [Core.f_congr (c.get_listGiven (show R.NET_GATE_CTRL (r.n 0) < _ by
    unfold R.NET_GATE_CTRL R.NET_GATE_ADMIN; omega))]
  simp (disch := omega) only [F.NET_GATE_CTRL_EN, F.NET_GATE_CTRL_COUNT, R.NET_GATE_CTRL, R.NET_GATE_CYCLE, R.NET_GATE_BASE_NS,
    R.NET_GATE_BASE_SEC_LO, R.NET_GATE_BASE_SEC_HI, Core.f_put_off, Core.f_setF_beside, Core.f_setF_field]
  omega

theorem Core.f_count_listGiven (c : Core) {r : Req} (hcount : r.n 6 ≤ 256) : (c.listGiven r).f (F.NET_GATE_CTRL_COUNT (r.n 0)) = r.n 6 := by
  rw [Core.f_congr (c.get_listGiven (show R.NET_GATE_CTRL (r.n 0) < _ by
    unfold R.NET_GATE_CTRL R.NET_GATE_ADMIN; omega))]
  simp (disch := omega) only [F.NET_GATE_CTRL_EN, F.NET_GATE_CTRL_COUNT, R.NET_GATE_CTRL, R.NET_GATE_CYCLE, R.NET_GATE_BASE_NS,
    R.NET_GATE_BASE_SEC_LO, R.NET_GATE_BASE_SEC_HI, Core.f_put_off, Core.f_setF_field]
  omega

theorem Core.get_cycle_listGiven (c : Core) (r : Req) : (c.listGiven r).get (R.NET_GATE_CYCLE (r.n 0)) = r.w 2 := by
  rw [c.get_listGiven (by unfold R.NET_GATE_CYCLE R.NET_GATE_ADMIN; omega)]
  simp (disch := omega) only [R.NET_GATE_CYCLE, R.NET_GATE_BASE_NS, R.NET_GATE_BASE_SEC_LO, R.NET_GATE_BASE_SEC_HI, Core.get_put_ne,
    Core.get_put_same]


theorem netGateGetBody_oper {c : Core} {r : Req} (hp : r.n 0 ≤ 3) (hwhich : r.n 1 = 0) :
    netGateGetBody c r = okW c ((c.netPort (r.n 0)).cycle :: timeWords (c.netPort (r.n 0)).base ++
      [c.f (F.NET_GATE_STATUS_OPER_COUNT (r.n 0))] ++ (List.range (c.f (F.NET_GATE_STATUS_OPER_COUNT (r.n 0)))).map fun e =>
      (c.get (R.NET_GATE_OPER (r.n 0) e)).toNat) := by
  unfold netGateGetBody
  dsimp only
  rw [if_neg (by omega), if_neg (by omega)]
  exact if_pos hwhich

theorem netGateGetBody_admin {c : Core} {r : Req} (hp : r.n 0 ≤ 3) (hwhich : r.n 1 = 1) :
    netGateGetBody c r = okW c ([(c.get (R.NET_GATE_CYCLE (r.n 0))).toNat, (c.get (R.NET_GATE_BASE_NS (r.n 0))).toNat,
      (c.get (R.NET_GATE_BASE_SEC_LO (r.n 0))).toNat, (c.get (R.NET_GATE_BASE_SEC_HI (r.n 0))).toNat,
      min 256 (c.f (F.NET_GATE_CTRL_COUNT (r.n 0)))] ++ (List.range (min 256 (c.f (F.NET_GATE_CTRL_COUNT (r.n 0))))).map fun e =>
      (c.get (R.NET_GATE_ADMIN (r.n 0) e)).toNat) := by
  unfold netGateGetBody
  dsimp only
  rw [if_neg (by omega), if_neg (by omega)]
  exact if_neg (by omega)

/-! ### Definitions of streams (R379, R385) -/

theorem Core.rxStream_setRxStream_same (c : Core) (n : Nat) (x : RxStream) : (c.setRxStream n x).rxStream n = x := smGet_smSet_same _ _ _ _

theorem Core.rxStream_setRxStream_ne (c : Core) {n k : Nat} (x : RxStream) (h : k ≠ n) : (c.setRxStream n x).rxStream k = c.rxStream k :=
  smGet_smSet_ne _ _ _ h

theorem Core.txStream_setTxStream_same (c : Core) (n : Nat) (x : TxStream) : (c.setTxStream n x).txStream n = x := smGet_smSet_same _ _ _ _

/-- A frame that waits, or not, leaves the streams, the bystanders and the registers of no port but its own alone. -/
theorem Core.queueFrame_rx (c : Core) (p : Nat) (x : TxFrame) : (c.queueFrame p x).net.rx = c.net.rx := by
  unfold Core.queueFrame
  repeat' split
  · rw [Core.raise_net, Core.count_net]
  · rfl
  · rw [Core.raise_net, Core.count_net]
  · rfl

theorem Core.queueFrame_tx (c : Core) (p : Nat) (x : TxFrame) : (c.queueFrame p x).net.tx = c.net.tx := by
  unfold Core.queueFrame
  repeat' split
  · rw [Core.raise_net, Core.count_net]
  · rfl
  · rw [Core.raise_net, Core.count_net]
  · rfl

theorem Core.queueFrame_bystanders (c : Core) (p : Nat) (x : TxFrame) : (c.queueFrame p x).bystanders = c.bystanders :=
  bystanders_of (c.queueFrame_sessions p x) (congrArg Core.atl (c.queueFrame_still p x) :)

/-- What a frame of a port that carries no stream packet leaves alone, so do reports and requests. -/
theorem Core.sendIgmp_keeps {α : Type} {g : Core → α} (hg : ∀ (c : Core) (p : Nat) (x : TxFrame), x.stream = none →
    g (c.queueFrame p x) = g c) (c : Core) (p : Nat) (join : Bool) (l : List (Nat × Nat × Word)) : g (c.sendIgmp p join l) = g c :=
  foldl_keeps g _ (fun _ _ => hg _ _ _ rfl) _ _

theorem Core.askArp_keeps {α : Type} {g : Core → α} (hg : ∀ (c : Core) (p : Nat) (x : TxFrame), x.stream = none →
    g (c.queueFrame p x) = g c) (c : Core) (p : Nat) (l : List Nat) : g (c.askArp p l) = g c :=
  foldl_keeps g _ (fun _ _ => hg _ _ _ rfl) _ _

/-- A stream's definitions, whatever the groups of others change of its link offset. -/
theorem Core.defs_regroup (c : Core) (b : Nat) (skip : Option Nat) (n : Nat) :
    ((c.regroup b skip).rxStream n).defn = (c.rxStream n).defn ∧ ((c.regroup b skip).rxStream n).next = (c.rxStream n).next := by
  have key : (fun c : Core => ((c.rxStream n).defn, (c.rxStream n).next)) (c.regroup b skip) =
      (fun c : Core => ((c.rxStream n).defn, (c.rxStream n).next)) c := by
    unfold Core.regroup
    refine foldl_keeps (fun c : Core => ((c.rxStream n).defn, (c.rxStream n).next)) _ (fun d k => ?_) _ _
    dsimp only
    split
    · by_cases h : n = k
      · subst h
        rw [Core.rxStream_setRxStream_same]
      · rw [Core.rxStream_setRxStream_ne _ _ h]
    · rfl
  exact ⟨congrArg Prod.fst key, congrArg Prod.snd key⟩

theorem streamRxSetBody_waits {c : Core} {r : Req} (hcheck : c.streamCheck true (r.words.map (·.toNat)) = .ok) :
    ∃ (d : Core) (b : Nat), (d.bystanders = c.bystanders) ∧ (∀ n, d.rxStream n = (c.setRxStream (r.n 0) { c.rxStream (r.n 0) with
      next := addDef (c.rxStream (r.n 0)).next (r.words.map (·.toNat)) (r.boundary c (c.boundaryAt (c.now + 2 * c.blk))) }).rxStream n) ∧
      streamRxSetBody c r = ans (d.regroup b (some (r.n 0))) .ok := by
  have hnum : (r.words.map (·.toNat)).getD 0 0 = r.n 0 := by
    unfold Req.n Req.w
    cases r.words <;> rfl
  unfold streamRxSetBody
  dsimp only
  rw [if_neg (by simp [hcheck]), hnum]
  refine ⟨_, _, ?_, fun n => ?_, rfl⟩
  · exact (foldl_keeps Core.bystanders _ (fun _ _ => Core.sendIgmp_keeps (fun c p x _ => c.queueFrame_bystanders p x) _ _ _ _) _ _).trans
      rfl
  · refine foldl_keeps (Core.rxStream · n) _ (fun _ _ => Core.sendIgmp_keeps (g := (Core.rxStream · n)) (fun c p x _ => ?_) _ _ _ _) _ _
    unfold Core.rxStream
    rw [Core.queueFrame_rx]

theorem streamTxSetBody_waits {c : Core} {r : Req} (hcheck : c.streamCheck false (r.words.map (·.toNat)) = .ok) :
    ∃ d : Core, (d.bystanders = c.bystanders) ∧ (∀ n, d.txStream n = (c.setTxStream (r.n 0) { c.txStream (r.n 0) with
      next := addDef (c.txStream (r.n 0)).next (r.words.map (·.toNat)) (r.boundary c (c.boundaryAt (c.now + 2 * c.blk))) }).txStream n) ∧
      streamTxSetBody c r = ans d .ok := by
  have hnum : (r.words.map (·.toNat)).getD 0 0 = r.n 0 := by
    unfold Req.n Req.w
    cases r.words <;> rfl
  unfold streamTxSetBody
  dsimp only
  rw [if_neg (by simp [hcheck]), hnum]
  refine ⟨_, ?_, fun n => ?_, rfl⟩
  · exact (foldl_keeps Core.bystanders _ (fun _ _ => Core.askArp_keeps (fun c p x _ => c.queueFrame_bystanders p x) _ _ _) _ _).trans rfl
  · refine foldl_keeps (Core.txStream · n) _ (fun _ _ => Core.askArp_keeps (g := (Core.txStream · n)) (fun c p x _ => ?_) _ _ _) _ _
    unfold Core.txStream
    rw [Core.queueFrame_tx]

/-- The registers of a stream, and the pool of all streams, stand beside everything but registers. -/
theorem Core.poolRegs_keeps {α : Type} {g : Core → α} (hg : ∀ (c : Core) (off : Nat) (w : Word), g (c.put off w) = g c) (c : Core) :
    g c.poolRegs = g c :=
  (hg _ _ _).trans ((hg _ _ _).trans ((hg _ _ _).trans (hg _ _ _)))

theorem Core.get_poolRegs (c : Core) {off : Nat} (hstatus : off ≠ R.MEDIA_STATUS) (hpool : off ≠ R.MEDIA_POOL) :
    c.poolRegs.get off = c.get off := by
  unfold Core.poolRegs
  dsimp only
  rw [Core.get_setF_ne _ _ hpool, Core.get_setF_ne _ _ hpool, Core.get_setF_ne _ _ hstatus, Core.get_setF_ne _ _ hstatus]

theorem Core.txShow_keeps {α : Type} {g : Core → α} (hg : ∀ (c : Core) (off : Nat) (w : Word), g (c.put off w) = g c) (c : Core) (n : Nat) :
    g (c.txShow n) = g c := by
  unfold Core.txShow
  dsimp only
  split
  · exact hg _ _ _
  · exact (hg _ _ _).trans ((hg _ _ _).trans (hg _ _ _))

theorem Core.get_txShow (c : Core) {n off : Nat} (h : off ≠ R.MEDIA_TX_STATE n) : (c.txShow n).get off = c.get off := by
  unfold Core.txShow Core.setB
  dsimp only
  split
  · exact Core.get_put_ne _ _ h
  · rw [Core.get_setF_ne _ _ h, Core.get_setF_ne _ _ h, Core.get_setF_ne _ _ h]

/-- A receive stream as it starts anew with its definition. -/
def Core.rxAnew (c : Core) (n b : Nat) : RxStream :=
  if defEn (c.rxStream n).defn then
    { defn := (c.rxStream n).defn, next := (c.rxStream n).next, group := (c.rxStream n).group, off := c.offsetOf n,
      judged := b + 2 * c.blk - c.offsetOf n, seqA := none, lastA := c.time.cycles, lastB := c.time.cycles }
  else { defn := (c.rxStream n).defn, next := (c.rxStream n).next, group := (c.rxStream n).group }

section RxStart
variable (c : Core) (n b : Nat)

theorem Core.defn_rxAnew : (c.rxAnew n b).defn = (c.rxStream n).defn ∧ (c.rxAnew n b).next = (c.rxStream n).next ∧
    (c.rxAnew n b).data = [] ∧ (c.rxAnew n b).hold = none := by
  unfold Core.rxAnew
  split <;> exact ⟨rfl, rfl, rfl, rfl⟩

/-- The registers of a receive stream that starts. -/
def Core.rxRegs (c : Core) (n : Nat) (d : List Nat) : Core :=
  ((((((c.put (R.MEDIA_RX_CTRL n) (dw d 1)).put (R.MEDIA_RX_MAP n) (dw d 2)).setB (F.MEDIA_RX_STATE_STATE n) (defEn d)).put
    (R.MEDIA_RX_MARGIN n) 0x8000).setF (F.MEDIA_RX_STATE_LEG_A_UP n) 0).setF (F.MEDIA_RX_STATE_LEG_B_UP n) 0)

theorem Core.rxStart_eq : c.rxStart n b = ((c.setRxStream n (c.rxAnew n b)).rxRegs n (c.rxStream n).defn).poolRegs := rfl

theorem Core.rxStart_keeps {α : Type} {g : Core → α} (hg : ∀ (c : Core) (off : Nat) (w : Word), g (c.put off w) = g c) :
    g (c.rxStart n b) = g (c.setRxStream n (c.rxAnew n b)) := by
  rw [Core.rxStart_eq]
  exact (Core.poolRegs_keeps hg _).trans
    ((hg _ _ _).trans ((hg _ _ _).trans ((hg _ _ _).trans ((hg _ _ _).trans ((hg _ _ _).trans (hg _ _ _))))))

theorem Core.rxStream_rxStart : (c.rxStart n b).rxStream n = c.rxAnew n b :=
  (c.rxStart_keeps n b (g := (Core.rxStream · n)) fun _ _ _ => rfl).trans (Core.rxStream_setRxStream_same _ _ _)

theorem Core.get_ctrl_rxStart : (c.rxStart n b).get (R.MEDIA_RX_CTRL n) = dw (c.rxStream n).defn 1 := by
  rw [Core.rxStart_eq, Core.get_poolRegs _ (by unfold R.MEDIA_RX_CTRL R.MEDIA_STATUS; omega)
    (by unfold R.MEDIA_RX_CTRL R.MEDIA_POOL; omega)]
  unfold Core.rxRegs Core.setB
  simp (disch := omega) only [R.MEDIA_RX_CTRL, R.MEDIA_RX_MAP, R.MEDIA_RX_STATE, R.MEDIA_RX_MARGIN, F.MEDIA_RX_STATE_STATE,
    F.MEDIA_RX_STATE_LEG_A_UP, F.MEDIA_RX_STATE_LEG_B_UP, Core.get_setF_off, Core.get_put_ne, Core.get_put_same]

theorem Core.get_map_rxStart : (c.rxStart n b).get (R.MEDIA_RX_MAP n) = dw (c.rxStream n).defn 2 := by
  rw [Core.rxStart_eq, Core.get_poolRegs _ (by unfold R.MEDIA_RX_MAP R.MEDIA_STATUS; omega)
    (by unfold R.MEDIA_RX_MAP R.MEDIA_POOL; omega)]
  unfold Core.rxRegs Core.setB
  simp (disch := omega) only [R.MEDIA_RX_CTRL, R.MEDIA_RX_MAP, R.MEDIA_RX_STATE, R.MEDIA_RX_MARGIN, F.MEDIA_RX_STATE_STATE,
    F.MEDIA_RX_STATE_LEG_A_UP, F.MEDIA_RX_STATE_LEG_B_UP, Core.get_setF_off, Core.get_put_ne, Core.get_put_same]

end RxStart

/-- A transmit stream as it starts with its definition. -/
def Core.txAnew (c : Core) (n b : Nat) : TxStream :=
  { c.txStream n with at_ := if defEn (c.txStream n).defn then firstPacket (packetSamples c.clk.mult (defPtime (c.txStream n).defn)) b else 0 }

section TxStart
variable (c : Core) (n b : Nat)

/-- The registers of a transmit stream that starts. -/
def Core.txRegs (c : Core) (n : Nat) (d : List Nat) : Core :=
  (c.put (R.MEDIA_TX_CTRL n) (dw d 1)).put (R.MEDIA_TX_MAP n) (.ofNat 32 (defFirst d))

theorem Core.txStart_eq : c.txStart n b = (((c.setTxStream n (c.txAnew n b)).txRegs n (c.txStream n).defn).txShow n).poolRegs := rfl

theorem Core.txStart_keeps {α : Type} {g : Core → α} (hg : ∀ (c : Core) (off : Nat) (w : Word), g (c.put off w) = g c) :
    g (c.txStart n b) = g (c.setTxStream n (c.txAnew n b)) := by
  rw [Core.txStart_eq]
  exact (Core.poolRegs_keeps hg _).trans ((Core.txShow_keeps hg _ _).trans ((hg _ _ _).trans (hg _ _ _)))

theorem Core.txStream_txStart : (c.txStart n b).txStream n = c.txAnew n b :=
  (c.txStart_keeps n b (g := (Core.txStream · n)) fun _ _ _ => rfl).trans (Core.txStream_setTxStream_same _ _ _)

theorem Core.get_ctrl_txStart : (c.txStart n b).get (R.MEDIA_TX_CTRL n) = dw (c.txStream n).defn 1 := by
  rw [Core.txStart_eq, Core.get_poolRegs _ (by unfold R.MEDIA_TX_CTRL R.MEDIA_STATUS; omega)
    (by unfold R.MEDIA_TX_CTRL R.MEDIA_POOL; omega), Core.get_txShow _ (by unfold R.MEDIA_TX_CTRL R.MEDIA_TX_STATE; omega)]
  exact (Core.get_put_ne _ _ (by unfold R.MEDIA_TX_CTRL R.MEDIA_TX_MAP; omega)).trans (Core.get_put_same _ _ _)

end TxStart

/-- The registers of the groups stand in the window of the Armature. -/
theorem Core.get_groupRegs (c : Core) {off : Nat} (h : window off ≠ 11) : c.groupRegs.get off = c.get off := by
  have hgroup : ∀ g ∈ List.range 32, off ≠ R.ARMATURE_GROUP g := fun g hg e => h (by
    have := List.mem_range.mp hg
    rw [e]
    unfold window R.ARMATURE_GROUP
    omega)
  have hstatus : off ≠ R.ARMATURE_STATUS := fun e => h (by rw [e]; decide)
  unfold Core.groupRegs
  refine (Core.get_setF_ne _ _ hstatus).trans (foldl_keeps_of_mem (Core.get · off) _ _ (fun g hg d => ?_) _)
  exact (Core.get_setF_ne _ _ (hgroup g hg)).trans (Core.get_setF_ne _ _ (hgroup g hg))

/-- A frame that carries no stream packet changes no register but the error counter and the interrupts of its port. -/
theorem Core.get_queueFrame_ne (c : Core) {p off : Nat} {x : TxFrame} (hx : x.stream = none) (herr : off ≠ R.NET_TX_ERR p)
    (hint : off % 0x100000 ≠ 4) : (c.queueFrame p x).get off = c.get off := by
  have hst : off ≠ R.NET_INT_STATUS p := by unfold R.NET_INT_STATUS; omega
  unfold Core.queueFrame
  rw [hx]
  dsimp only
  repeat' split
  · rfl
  · exact (Core.get_raise_ne _ hst).trans (Core.get_count_ne _ herr hint)
  · rfl

/-- A definition of a receive stream comes into force: reports go out for the groups it gives up (R379). -/
theorem streamDefinitionApply_rx {c : Core} {n b : Nat} {d : List Nat} {u : List (List Nat × Nat)}
    (hnext : (c.rxStream n).next = (d, b) :: u) (hb : b ≤ c.now) :
    ∃ l : List Core → Core → Nat → List (Nat × Nat × Word), streamDefinitionApply true n c =
      ((List.range 2).foldl (fun (e : Core) p => e.sendIgmp p false (l [c] e p))
        ((c.setRxStream n { c.rxStream n with defn := d, next := u }).rxStart n b)).groupRegs := by
  unfold streamDefinitionApply
  rw [if_pos rfl]
  dsimp only
  rw [hnext]
  dsimp only
  rw [if_neg (by omega)]
  exact ⟨fun l e p => (((((List.range 2).map ((l.headD e).groupsOf)).getD p []).filter fun g => !(e.groupsOf p).contains g).eraseDups),
    rfl⟩

theorem streamDefinitionApply_tx {c : Core} {n b : Nat} {d : List Nat} {u : List (List Nat × Nat)}
    (hnext : (c.txStream n).next = (d, b) :: u) (hb : b ≤ c.now) :
    streamDefinitionApply false n c = (c.setTxStream n { c.txStream n with defn := d, next := u }).txStart n b := by
  unfold streamDefinitionApply
  rw [if_neg (by decide)]
  dsimp only
  rw [hnext]
  exact if_neg (by omega)

/-! ### Counters of streams (R386) -/

/-- The counters of class S of some receive streams. -/
def rxCounters (l : List Nat) : List Nat := l.flatMap fun n => (List.range 6).map fun i => R.MEDIA_RX_UNDERRUN n + 4 * i

/-- The counters of class S of some transmit streams. -/
def txCounters (l : List Nat) : List Nat := l.flatMap fun n => [R.MEDIA_TX_LATE n, R.MEDIA_TX_DROP n]

theorem streamStatsBody_rx {c : Core} {r : Req} (hdir : r.n 0 = 0) (hcount : 1 ≤ r.n 2 ∧ r.n 2 ≤ 64 ∧ r.n 1 + r.n 2 ≤ 256) :
    streamStatsBody c r = okW (c.cleared (rxCounters ((List.range (r.n 2)).map (· + r.n 1))))
      (((List.range (r.n 2)).map (· + r.n 1)).flatMap fun x => (List.range 8).map fun i => (c.get (R.MEDIA_RX_MARGIN x + 4 * i)).toNat) := by
  have hclear : ∀ l : List Nat, c.cleared (rxCounters l) =
      l.foldl (fun (c : Core) n => (List.range 6).foldl (fun (c : Core) i => c.put (R.MEDIA_RX_UNDERRUN n + 4 * i) 0) c) c := fun l => by
    simp only [Core.cleared, rxCounters, List.foldl_flatMap, List.foldl_map]
  unfold streamStatsBody
  dsimp only
  rw [if_neg (by omega), if_neg (by omega), if_pos hdir, hclear]

theorem streamStatsBody_tx {c : Core} {r : Req} (hdir : r.n 0 = 1) (hcount : 1 ≤ r.n 2 ∧ r.n 2 ≤ 64 ∧ r.n 1 + r.n 2 ≤ 256) :
    streamStatsBody c r = okW (c.cleared (txCounters ((List.range (r.n 2)).map (· + r.n 1))))
      (((List.range (r.n 2)).map (· + r.n 1)).flatMap fun x => (List.range 3).map fun i => (c.get (R.MEDIA_TX_PACKETS x + 4 * i)).toNat) := by
  have hclear : ∀ l : List Nat, c.cleared (txCounters l) =
      l.foldl (fun (c : Core) n => (c.put (R.MEDIA_TX_LATE n) 0).put (R.MEDIA_TX_DROP n) 0) c := fun l => by
    simp only [Core.cleared, txCounters, List.foldl_flatMap, List.foldl_cons, List.foldl_nil]
  unfold streamStatsBody
  dsimp only
  rw [if_neg (by omega), if_neg (by omega), if_neg (by omega), hclear]

/-! ### Packets that arrive (R376 to R378) -/

theorem streamLegLoss_loses {c : Core} {n leg : Nat} (hn : n ≤ 255 ∧ leg ≤ 1)
    (hdef : defEn (c.rxStream n).defn = true ∧ defLeg (c.rxStream n).defn leg = true)
    (hheard : (if leg = 0 then (c.rxStream n).lostA else (c.rxStream n).lostB) = false)
    (hlate : (if leg = 0 then (c.rxStream n).lastA else (c.rxStream n).lastB) + 25000000 ≤ c.time.cycles) :
    ∃ x : RxStream, streamLegLoss n leg c = (((c.setRxStream n x).setF (if leg = 0 then F.MEDIA_RX_STATE_LEG_A_UP n else
      F.MEDIA_RX_STATE_LEG_B_UP n) 0).count (R.MEDIA_RX_LEG_LOSS n)).raise F.MEDIA_INT_STATUS_LEG_LOSS := by
  unfold streamLegLoss
  dsimp only
  rw [if_neg (by omega)]
  unfold Core.legLost
  dsimp only
  rw [if_neg (by rw [hheard, hdef.1, hdef.2]; decide)]
  exact ⟨_, rfl⟩

theorem marginSpanEnd_shows {c : Core} {n : Nat} (hn : n ≤ 255) (hen : defEn (c.rxStream n).defn = true) (hspan : c.time.n % 65536 = 0) :
    marginSpanEnd n c = (c.setRxStream n { c.rxStream n with margin := none }).setF (F.MEDIA_RX_MARGIN_MARGIN n)
      (((c.rxStream n).margin.map fun m => unsigned 16 (clampInt (-32767) 32767 m)).getD 0x8000) := by
  unfold marginSpanEnd
  dsimp only
  rw [if_neg (by rw [hen, hspan]; simp; omega)]
  cases (c.rxStream n).margin <;> rfl

/-- What a packet's sequence number, its leg and its margin leave of a stream: its definition, its samples and where they stand. -/
def RxStream.placed (x : RxStream) : List Nat × SMap (Option (Int × Nat)) × Nat := (x.defn, x.data, x.judged)

section SeqCount
variable (c : Core) (n leg seq : Nat)

theorem Core.seqCount_keeps {α : Type} {g : Core → α} (hset : ∀ (c : Core) (x : RxStream), x.placed = (c.rxStream n).placed →
    g (c.setRxStream n x) = g c) (hcount : ∀ (c : Core) (r k : Nat), r = R.MEDIA_RX_SEQ_GAP_A n ∨ r = R.MEDIA_RX_SEQ_GAP_B n →
    g (c.countN r k) = g c) : g (c.seqCount n leg seq) = g c := by
  have hleg : ∀ o : Option Nat, g (c.setRxStream n (if leg = 0 then { c.rxStream n with seqA := o } else
      { c.rxStream n with seqB := o })) = g c := fun o => hset _ _ (by split <;> rfl)
  unfold Core.seqCount
  dsimp only
  split
  · exact hleg _
  · split
    · rfl
    · split
      · refine (hcount _ _ _ ?_).trans (hleg _)
        split
        · exact .inl rfl
        · exact .inr rfl
      · exact hleg _

/-- A leg that delivers a packet is up. -/
theorem Core.legUp_eq : ∃ (x : RxStream) (was : Bool), x.placed = (c.rxStream n).placed ∧ c.legUp n leg =
    ((c.setRxStream n x).setF (if leg = 0 then F.MEDIA_RX_STATE_LEG_A_UP n else F.MEDIA_RX_STATE_LEG_B_UP n) 1).raiseIf was
      F.MEDIA_INT_STATUS_LEG_RESTORE :=
  ⟨_, _, by split <;> rfl, rfl⟩

end SeqCount

/-- Keys in a row hold the values of the row. -/
theorem smGet_foldl_row (v : Nat → Option (Int × Nat)) (base ch : Nat) (m : SMap (Option (Int × Nat))) (key : Nat) :
    smGet (fun _ => none) ((List.range ch).foldl (fun m k => smSet (fun _ => none) m (base + k) (v k)) m) key =
      if base ≤ key ∧ key < base + ch then v (key - base) else smGet (fun _ => none) m key := by
  induction ch with
  | zero => rw [if_neg (by omega)]; rfl
  | succ ch ih =>
    rw [List.range_succ, List.foldl_append, List.foldl_cons, List.foldl_nil, smGet_smSet]
    by_cases h : key = base + ch
    · subst h
      rw [if_pos rfl, if_pos (by omega), Nat.add_sub_cancel_left]
    · rw [if_neg h, ih]
      by_cases hin : base ≤ key ∧ key < base + ch
      · rw [if_pos hin, if_pos (by omega)]
      · rw [if_neg hin, if_neg (by omega)]

/-- The samples of a packet placed by media time: those of sample place i in a row of 64 (R376). -/
def placeRows (t : Int) (fmt ch : Nat) (payload : List Byte) (l : List Nat) (m : SMap (Option (Int × Nat))) : SMap (Option (Int × Nat)) :=
  l.foldl (fun (m : SMap (Option (Int × Nat))) (i : Nat) => (List.range ch).foldl (fun (m : SMap (Option (Int × Nat))) k =>
    smSet (fun _ => none) m (64 * (t + i).toNat + k) (some (payloadSample fmt payload (i * ch + k)))) m) m

theorem smGet_placeRows {t : Int} {fmt ch i k : Nat} {payload : List Byte} {l : List Nat} (m : SMap (Option (Int × Nat)))
    (hi : i ∈ l) (hk : k < ch) (hch : ch ≤ 64) (hpast : ∀ j ∈ l, 0 ≤ t + (j : Int)) :
    smGet (fun _ => none) (placeRows t fmt ch payload l m) (64 * (t + i).toNat + k) = some (payloadSample fmt payload (i * ch + k)) := by
  induction l using List.reverseRecOn with
  | nil => cases hi
  | append_singleton l j ih =>
    have hstep : placeRows t fmt ch payload (l ++ [j]) m = (List.range ch).foldl (fun (m : SMap (Option (Int × Nat))) k =>
        smSet (fun _ => none) m (64 * (t + j).toNat + k) (some (payloadSample fmt payload (j * ch + k)))) (placeRows t fmt ch payload l m) := by
      simp only [placeRows, List.foldl_append, List.foldl_cons, List.foldl_nil]
    rw [hstep, smGet_foldl_row fun k => some (payloadSample fmt payload (j * ch + k))]
    have hj := hpast j (List.mem_append_right _ (List.mem_singleton_self _))
    have hi' := hpast i hi
    by_cases h : i = j
    · subst h
      rw [if_pos (by omega), Nat.add_sub_cancel_left]
    · rw [if_neg (by omega)]
      exact ih ((List.mem_append.mp hi).resolve_right fun hs => h (List.mem_singleton.mp hs))
        fun x hx => hpast x (List.mem_append_left _ hx)

/-- The sample places of a packet at or after count 0. -/
def Core.placeTimes (c : Core) (n : Nat) (t : Int) : List Nat :=
  (List.range (packetSamples c.clk.mult (defPtime (c.rxStream n).defn))).filter fun (i : Nat) => decide (0 ≤ t + (i : Int))

/-- Those whose samples are taken: not judged yet and not held yet. -/
def Core.newTimes (c : Core) (n : Nat) (t : Int) : List Nat :=
  (c.placeTimes n t).filter fun (i : Nat) => decide ((c.rxStream n).judged ≤ (t + i).toNat) &&
    (smGet (fun _ => none) (c.rxStream n).data (64 * (t + i).toNat)).isNone

section PlaceSamples
variable (c : Core) (n : Nat) (t : Int) (payload : List Byte)

/-- The stream with the samples of a packet. -/
def Core.withSamples (c : Core) (n : Nat) (t : Int) (payload : List Byte) : Core :=
  c.setRxStream n { c.rxStream n with
    data := placeRows t (defFormat (c.rxStream n).defn) (defCh (c.rxStream n).defn) payload (c.newTimes n t) (c.rxStream n).data }

theorem Core.placeSamples_eq : ∃ (late : Bool) (k : Nat), c.placeSamples n t payload =
    if late then c.withSamples n t payload
    else (((c.withSamples n t payload).count (R.MEDIA_RX_LATE n)).raise F.MEDIA_INT_STATUS_LATE).countW R.ARMATURE_LATE_COUNT k :=
  ⟨_, _, rfl⟩

theorem Core.placeSamples_keeps {α : Type} {g : Core → α} (hcount : ∀ c : Core, g (c.count (R.MEDIA_RX_LATE n)) = g c)
    (hraise : ∀ c : Core, g (c.raise F.MEDIA_INT_STATUS_LATE) = g c) (hcountW : ∀ (c : Core) (k : Nat), g (c.countW R.ARMATURE_LATE_COUNT k) = g c) :
    g (c.placeSamples n t payload) = g (c.withSamples n t payload) := by
  obtain ⟨late, k, h⟩ := c.placeSamples_eq n t payload
  rw [h]
  split
  · rfl
  · rw [hcountW, hraise, hcount]

theorem Core.data_placeSamples : ((c.placeSamples n t payload).rxStream n).data =
    placeRows t (defFormat (c.rxStream n).defn) (defCh (c.rxStream n).defn) payload (c.newTimes n t) (c.rxStream n).data := by
  rw [c.placeSamples_keeps n t payload (g := (Core.rxStream · n))
    (fun c => by unfold Core.rxStream; rw [Core.count_net]) (fun c => by unfold Core.rxStream; rw [Core.raise_net])
    (fun c k => by unfold Core.rxStream; rw [Core.countW_net])]
  unfold Core.withSamples
  rw [Core.rxStream_setRxStream_same]

end PlaceSamples

/-- A packet of a stream is counted on its leg, before its samples are placed. -/
def Core.packetHeard (c : Core) (n leg seq : Nat) (m : Int) : Core :=
  (((c.seqCount n leg seq).legUp n leg).countW (R.MEDIA_RX_PACKETS n) 1).takeMargin n m

section PacketHeard
variable (c : Core) (n leg seq : Nat) (m : Int)

theorem Core.legUp_placed : ((c.legUp n leg).rxStream n).placed = (c.rxStream n).placed ∧ (c.legUp n leg).clk = c.clk ∧
    (c.legUp n leg).atl = c.atl := by
  obtain ⟨x, was, hx, hup⟩ := c.legUp_eq n leg
  have hstream : (((c.setRxStream n x).setF (if leg = 0 then F.MEDIA_RX_STATE_LEG_A_UP n else F.MEDIA_RX_STATE_LEG_B_UP n) 1).rxStream n) =
    x := Core.rxStream_setRxStream_same c n x
  rw [hup]
  unfold Core.raiseIf
  split
  · refine ⟨?_, Core.raise_clk _ _, Core.raise_atl _ _⟩
    unfold Core.rxStream at hstream ⊢
    rw [Core.raise_net, hstream]
    exact hx
  · exact ⟨(congrArg _ hstream).trans hx, rfl, rfl⟩

theorem Core.seqCount_placed : ((c.seqCount n leg seq).rxStream n).placed = (c.rxStream n).placed ∧ (c.seqCount n leg seq).clk = c.clk ∧
    (c.seqCount n leg seq).atl = c.atl :=
  ⟨Core.seqCount_keeps c n leg seq (g := fun c => (c.rxStream n).placed)
    (fun c x hx => by rw [Core.rxStream_setRxStream_same]; exact hx)
    (fun c r k _ => by unfold Core.rxStream; rw [Core.countN_net]),
    Core.seqCount_keeps c n leg seq (g := Core.clk) (fun _ _ _ => rfl) fun _ _ _ _ => Core.countN_clk _ _ _,
    Core.seqCount_keeps c n leg seq (g := Core.atl) (fun _ _ _ => rfl) fun _ _ _ _ => Core.countN_atl _ _ _⟩

theorem Core.packetHeard_placed : ((c.packetHeard n leg seq m).rxStream n).placed = (c.rxStream n).placed ∧
    (c.packetHeard n leg seq m).clk = c.clk ∧ (c.packetHeard n leg seq m).atl = c.atl := by
  obtain ⟨h1, h2, h3⟩ := c.seqCount_placed n leg seq
  obtain ⟨h4, h5, h6⟩ := (c.seqCount n leg seq).legUp_placed n leg
  refine ⟨?_, (Core.countW_clk _ _ _).trans (h5.trans h2), (Core.countW_atl _ _ _).trans (h6.trans h3)⟩
  refine Eq.trans ?_ (h4.trans h1)
  unfold Core.packetHeard Core.takeMargin
  rw [Core.rxStream_setRxStream_same]
  unfold Core.rxStream
  rw [Core.countW_net]
  rfl

variable (hn : n ≤ 255)
include hn

theorem Core.get_packets_packetHeard :
    (c.packetHeard n leg seq m).get (R.MEDIA_RX_PACKETS n) = c.get (R.MEDIA_RX_PACKETS n) + 1 := by
  have hint : R.MEDIA_RX_PACKETS n % 0x100000 ≠ 4 := by unfold R.MEDIA_RX_PACKETS; omega
  have hup : ∀ d : Core, (d.legUp n leg).get (R.MEDIA_RX_PACKETS n) = d.get (R.MEDIA_RX_PACKETS n) := fun d => by
    obtain ⟨x, was, -, h⟩ := d.legUp_eq n leg
    have hset : ∀ y : Field, y.off = R.MEDIA_RX_STATE n →
        ((d.setRxStream n x).setF y 1).get (R.MEDIA_RX_PACKETS n) = d.get (R.MEDIA_RX_PACKETS n) := fun y hy =>
      (Core.get_setF_ne _ _ (by rw [hy]; unfold R.MEDIA_RX_PACKETS R.MEDIA_RX_STATE; omega)).trans rfl
    have hset' := hset (if leg = 0 then F.MEDIA_RX_STATE_LEG_A_UP n else F.MEDIA_RX_STATE_LEG_B_UP n) (by split <;> rfl)
    rw [h]
    unfold Core.raiseIf
    split
    · exact (Core.get_raise_ne _ (by simp only [F.MEDIA_INT_STATUS_LEG_RESTORE, R.MEDIA_INT_STATUS, R.MEDIA_RX_PACKETS]; omega)).trans hset'
    · exact hset'
  have hseq : (c.seqCount n leg seq).get (R.MEDIA_RX_PACKETS n) = c.get (R.MEDIA_RX_PACKETS n) :=
    Core.seqCount_keeps c n leg seq (g := (Core.get · (R.MEDIA_RX_PACKETS n))) (fun _ _ _ => rfl) fun d r k hr =>
      Core.get_countN_ne d k (by
        rcases hr with rfl | rfl
        · unfold R.MEDIA_RX_PACKETS R.MEDIA_RX_SEQ_GAP_A; omega
        · unfold R.MEDIA_RX_PACKETS R.MEDIA_RX_SEQ_GAP_B; omega) hint
  refine (Core.get_countW_plain _ 1 hint).trans ?_
  rw [hup, hseq]
  rfl

theorem Core.flag_leg_packetHeard {y : Field} (hy : y = if leg = 0 then F.MEDIA_RX_STATE_LEG_A_UP n else F.MEDIA_RX_STATE_LEG_B_UP n) :
    (c.packetHeard n leg seq m).flag y = true := by
  have hoff : y.off = R.MEDIA_RX_STATE n := by subst hy; split <;> rfl
  have hset : ∀ d : Core, (d.setF y 1).flag y = true := fun d => by
    subst hy
    split
    · exact Core.flag_setF_bit _ _ _ _ (by decide)
    · exact Core.flag_setF_bit _ _ _ _ (by decide)
  obtain ⟨x, was, -, h⟩ := (c.seqCount n leg seq).legUp_eq n leg
  have hcount : ∀ d : Core, (d.countW (R.MEDIA_RX_PACKETS n) 1).flag y = d.flag y := fun d =>
    Core.flag_congr (Core.get_countW_ne _ _ (by rw [hoff]; unfold R.MEDIA_RX_PACKETS R.MEDIA_RX_STATE; omega)
      (by rw [hoff]; unfold R.MEDIA_RX_STATE; omega))
  refine (hcount _).trans ?_
  rw [h, ← hy]
  unfold Core.raiseIf
  split
  · refine (Core.flag_raise_off _ ?_).trans (hset _)
    rw [hoff]
    simp only [F.MEDIA_INT_STATUS_LEG_RESTORE, R.MEDIA_INT_STATUS, R.MEDIA_RX_STATE]
    omega
  · exact hset _

end PacketHeard

section Receive
variable {c : Core} {port j n : Nat} {x : Rtp} {y : RxStream}

theorem rtpTake_places (hstream : c.rxStream n = y) {at_ : Nat} (hpt : bitsOf (dw y.defn 4) 6 0 = 0 ∨ x.pt = bitsOf (dw y.defn 4) 6 0)
    (hlen : x.payload.length = defCh y.defn * packetSamples c.clk.mult (defPtime y.defn) * formatBytes (defFormat y.defn))
    (hearly : mediaTime x.ts (y.defn.getD 3 0) at_ + y.off ≤ at_ + earlySpan c.clk.mult) :
    ∃ m : Int, c.rtpTake n port at_ x =
      (c.packetHeard n port (x.seq % 65536) m).placeSamples n (mediaTime x.ts (y.defn.getD 3 0) at_) x.payload := by
  obtain ⟨-, hclk, -⟩ := (c.seqCount n port (x.seq % 65536)).legUp_placed n port
  have hmult : ((c.seqCount n port (x.seq % 65536)).legUp n port).clk = c.clk := hclk.trans (c.seqCount_placed n port (x.seq % 65536)).2.1
  unfold Core.rtpTake
  dsimp only
  rw [hstream, if_neg (by rw [hlen]; tauto), hmult, if_neg (by omega)]
  exact ⟨_, rfl⟩

theorem rtpPacketReceive_takes (hport : port ≤ 1) (hup : c.flag (F.NET_STATUS_LINK_UP port) = true) (hmedia : c.clk.mediaOn = true)
    (harmed : c.armed 3 = false) (hwaits : c.twinWaits = false)
    (hleg : c.net.rx.filter (fun z => legMatches z.2.defn port x.dst x.src x.port x.vid) = [(n, y)]) (hj : j < c.blk) :
    rtpPacketReceive port x j c = c.rtpTake n port (c.time.n + j) x := by
  have hwitness : c.witness port x = c := by
    unfold Core.witness
    dsimp only
    exact if_pos (by simp [hwaits])
  unfold rtpPacketReceive
  rw [if_neg (by rw [hup, hmedia]; simp; omega)]
  dsimp only
  rw [hwitness, hleg]
  dsimp only
  rw [passFrame_unarmed harmed, List.foldl_cons, List.foldl_nil, Nat.min_eq_left (by omega)]

end Receive

/-! ### Packets that are sent (R380) -/

/-- A leg's packet waits on its port. -/
theorem Core.queueFrame_waits {c : Core} {p : Nat} {f : TxFrame} (hup : c.flag (F.NET_STATUS_LINK_UP p) = true)
    (hfits : max 64 (f.len + 4) ≤ c.f (F.NET_MAX_FRAME_BYTES p)) :
    c.queueFrame p f = c.setNetPort p { c.netPort p with txq := (c.netPort p).txq ++ [f] } := by
  unfold Core.queueFrame
  rw [if_neg (by simp [hup]), if_neg (by omega)]

section QueueLeg
variable {α : Type} {g : Core → α} {n leg : Nat} (hdrop : ∀ c : Core, g ((c.count (R.MEDIA_TX_DROP n)).raise F.MEDIA_INT_STATUS_TX_DROP) = g c)
  (herr : ∀ c : Core, g ((c.count (R.NET_TX_ERR leg)).raise (F.NET_INT_STATUS_TX_ERR leg)) = g c)
  (hport : ∀ (c : Core) (x : NetPort), g (c.setNetPort leg x) = g c)
include hdrop herr hport

theorem Core.queueFrame_keeps (c : Core) {f : TxFrame} {due : Nat} (hf : f.stream = some (n, due)) : g (c.queueFrame leg f) = g c := by
  unfold Core.queueFrame
  rw [hf]
  dsimp only
  repeat' split
  · exact hdrop _
  · exact herr _
  · exact hport _ _

/-- What a leg of a packet leaves alone, whether it waits or is dropped. -/
theorem Core.queueLeg_keeps (c : Core) (t : Nat) (payload : List Byte) : g (c.queueLeg n leg t payload) = g c := by
  unfold Core.queueLeg
  dsimp only
  split
  · rfl
  · split
    · exact hdrop _
    · exact Core.queueFrame_keeps hdrop herr hport _ rfl

end QueueLeg

/-- The frame of leg 0 of a packet of a stream. -/
theorem Core.queueLeg_waits {c : Core} {n m t : Nat} {payload : List Byte} (hleg : defLeg (c.txStream n).defn 0 = true)
    (hmac : c.resolve 0 ((c.txStream n).defn.getD 6 0) = some m) (hup : c.flag (F.NET_STATUS_LINK_UP 0) = true)
    (hmin : 64 ≤ c.f (F.NET_MAX_FRAME_BYTES 0))
    (hfits : legFrame c.clk.mult false (c.txStream n).defn 0 ≤ c.f (F.NET_MAX_FRAME_BYTES 0)) :
    ∃ f : TxFrame, f.cls = 6 ∧ f.len = legFrame c.clk.mult false (c.txStream n).defn 0 - 4 ∧ f.stream.map (·.1) = some n ∧
      c.queueLeg n 0 t payload = c.setNetPort 0 { c.netPort 0 with txq := (c.netPort 0).txq ++ [f] } := by
  unfold Core.queueLeg
  dsimp only
  rw [if_neg (by simp [hleg]), hmac]
  dsimp only
  refine ⟨_, rfl, rfl, rfl, Core.queueFrame_waits hup ?_⟩
  dsimp only
  have hlong : 4 ≤ legFrame c.clk.mult false (c.txStream n).defn 0 := by
    unfold legFrame
    omega
  omega

/-- A stream's packet is numbered and counted. -/
def Core.packetSent (c : Core) (n : Nat) : Core :=
  ((c.setF (F.MEDIA_TX_SEQ_SEQ n) (c.f (F.MEDIA_TX_SEQ_SEQ n) + 1)).countW (R.MEDIA_TX_PACKETS n) 1).txShow n

/-- The stream goes on to its next packet. -/
def Core.txNext (c : Core) (n : Nat) : Core :=
  c.setTxStream n { c.txStream n with at_ := (c.txStream n).at_ + packetSamples c.clk.mult (defPtime (c.txStream n).defn) }

theorem streamPacketQueue_sends {c : Core} {n m : Nat} (hn : n ≤ 255) (hen : defEn (c.txStream n).defn = true) (hmedia : c.clk.mediaOn = true)
    (hdue : (c.txStream n).at_ + packetSamples c.clk.mult (defPtime (c.txStream n).defn) ≤ c.net.txEnd) (hheld : c.twinHeld = false)
    (hleg : defLeg (c.txStream n).defn 0 = true) (hmac : c.resolve 0 ((c.txStream n).defn.getD 6 0) = some m) :
    streamPacketQueue n c =
      (((c.txNext n).queueLeg n 0 (c.txStream n).at_ ((c.txNext n).txPayload (c.txStream n).defn (c.txStream n).at_)).queueLeg n 1
        (c.txStream n).at_ ((c.txNext n).txPayload (c.txStream n).defn (c.txStream n).at_)).packetSent n := by
  have hheld' : (c.txNext n).twinHeld = false := hheld
  have hmac' : (c.txNext n).resolve 0 ((c.txStream n).defn.getD 6 0) = some m := hmac
  unfold streamPacketQueue
  dsimp only
  rw [if_neg (by rw [hen, hmedia]; simp; omega)]
  change (if (c.txNext n).twinHeld = true then _ else _) = _
  rw [hheld', if_neg (by decide), hleg]
  change (if (true && ((c.txNext n).resolve 0 ((c.txStream n).defn.getD 6 0)).isSome || _) = true then _ else _ : Core).txShow n = _
  rw [hmac']
  rfl

section PacketSent
variable (c : Core) (n : Nat)

theorem Core.packetSent_keeps {α : Type} {g : Core → α} (hput : ∀ (c : Core) (off : Nat) (w : Word), g (c.put off w) = g c)
    (hcount : ∀ (c : Core) (r : Nat), g (c.countW r 1) = g c) : g (c.packetSent n) = g c :=
  (Core.txShow_keeps hput _ _).trans ((hcount _ _).trans (hput _ _ _))

theorem Core.f_seq_packetSent : (c.packetSent n).f (F.MEDIA_TX_SEQ_SEQ n) = (c.f (F.MEDIA_TX_SEQ_SEQ n) + 1) % 65536 := by
  have hstate : R.MEDIA_TX_SEQ n ≠ R.MEDIA_TX_STATE n := by unfold R.MEDIA_TX_SEQ R.MEDIA_TX_STATE; omega
  have hpackets : R.MEDIA_TX_SEQ n ≠ R.MEDIA_TX_PACKETS n := by unfold R.MEDIA_TX_SEQ R.MEDIA_TX_PACKETS; omega
  have hint : R.MEDIA_TX_SEQ n % 0x100000 ≠ 4 := by unfold R.MEDIA_TX_SEQ; omega
  unfold Core.packetSent
  exact (Core.f_congr (Core.get_txShow _ hstate)).trans ((Core.f_countW_off _ _ hpackets hint).trans
    (Core.f_setF_field _ _ (by decide) (by decide)))

theorem Core.get_packets_packetSent : (c.packetSent n).get (R.MEDIA_TX_PACKETS n) = c.get (R.MEDIA_TX_PACKETS n) + 1 := by
  have hstate : R.MEDIA_TX_PACKETS n ≠ R.MEDIA_TX_STATE n := by unfold R.MEDIA_TX_PACKETS R.MEDIA_TX_STATE; omega
  have hseq : R.MEDIA_TX_PACKETS n ≠ R.MEDIA_TX_SEQ n := by unfold R.MEDIA_TX_PACKETS R.MEDIA_TX_SEQ; omega
  have hint : R.MEDIA_TX_PACKETS n % 0x100000 ≠ 4 := by unfold R.MEDIA_TX_PACKETS; omega
  unfold Core.packetSent
  rw [Core.get_txShow _ hstate, Core.get_countW_plain _ 1 hint, Core.get_setF_ne _ _ hseq]
  rfl

end PacketSent

/-! ### Completion -/

/-- Settles O32: each command reduces to the one branch that its hypotheses leave; messages on P3 change no register or stream that is
read. -/
theorem transmissionAndStreamsComplete : Obligations.TransmissionAndStreamsComplete := by
  unfold Obligations.TransmissionAndStreamsComplete
  refine ⟨?transmit, ?go, ?changeTime, ?cycle, ?gateSet, ?gateGet, ?rxSet, ?txSet, ?rxApply, ?txApply, ?rxGet, ?txGet, ?rxStats,
    ?txStats, ?receive, ?legLoss, ?margin, ?queue⟩
  case transmit =>
    intro s p f u hq hp hup hpaused hgated htxq hcls hall
    refine completes_of_eq rfl hq (frameTransmit_sends hp hup hpaused hgated htxq hcls hall)
      ((Core.sendFrame_atl _ _ _).trans (Core.entryShown_atl _ _)) ⟨?_, Core.mem_sendFrame_outbox _ _ _, ?_⟩
    · rw [State.core_of_core, Core.txq_sendFrame, Core.netPort_of_net (Core.entryShown_net _ _), htxq, List.erase_cons_head]
    · rw [State.core_of_core, Core.get_sendFrame_frames _ hp,
        Core.get_entryShown _ _ (by unfold R.NET_TX_FRAMES R.NET_GATE_STATUS; omega)]
  case go =>
    intro s p m v c hserves hq hp hbit hfree hgood
    refine completes_of_eq rfl hq (gateGo_accepts hp hserves hbit hfree hgood)
      ((Core.gateGo_atl _ _ _).trans (Core.written_atl _ _ _))
      ⟨Core.flag_pending_gateGo _ _ _, Core.flag_go_gateGo _ _ _, ?_⟩
    rw [State.core_of_core, Core.pending_gateGo, Option.any_some, decide_eq_true_eq]
    have htime : c.ptpNs = s.core.ptpNs := by
      unfold Core.ptpNs
      rw [show c.time = s.core.time from (congrArg Core.time (Core.written_rest _ _ _) :)]
    rw [← htime]
    exact changeTime_due hgood
  case changeTime =>
    intro s p at_ k hq hp hpending hat
    have hsame := ((s.core.listInForce p at_).raise (F.NET_INT_STATUS_GATE_CHANGE p)).notice?_sameNet k .ok (natBytes (timeWords at_))
    have hother : ∀ {off : Nat}, off ≠ R.NET_INT_STATUS p → ((s.core.listInForce p at_).raise (F.NET_INT_STATUS_GATE_CHANGE p)).get off =
        (s.core.listInForce p at_).get off := fun hoff => Core.get_raise_ne _ hoff
    have hport := hsame.portBeside p
    unfold Core.portBeside at hport
    rw [Core.netPort_of_net (Core.raise_net _ _), Core.netPort_listInForce] at hport
    generalize hd : ((s.core.listInForce p at_).raise (F.NET_INT_STATUS_GATE_CHANGE p)).notice? k .ok (natBytes (timeWords at_)) = d
      at hsame hport
    refine completes_of_eq rfl hq ((gateChangeTime_changes hpending hat).trans hd) ?_ ⟨(congrArg NetPort.pending hport :),
      (congrArg NetPort.cycle hport :), (congrArg NetPort.base hport :), (congrArg NetPort.start hport :), ?_, ?_, ?_, ?_, fun e he => ?_⟩
    · rw [← hd, Core.notice?_atl, Core.raise_atl, Core.listInForce_atl]
    · refine (Core.flag_congr ((hsame.get_port ?_ ?_ ?_).trans (hother ?_))).trans (Core.flag_run_listInForce _ _ _)
      all_goals simp only [F.NET_STATUS_GATE_RUN, R.NET_STATUS, R.NET_INT_STATUS]; omega
    · refine (Core.flag_congr ((hsame.get_port ?_ ?_ ?_).trans (hother ?_))).trans (Core.flag_pending_listInForce _ _ _)
      all_goals simp only [F.NET_STATUS_GATE_PENDING, R.NET_STATUS, R.NET_INT_STATUS]; omega
    · refine (Core.flag_congr ((hsame.get_port ?_ ?_ ?_).trans (hother ?_))).trans (Core.flag_go_listInForce _ _ _)
      all_goals simp only [F.NET_GATE_CTRL_GO, R.NET_GATE_CTRL, R.NET_INT_STATUS]; omega
    · have hset := (s.core.listInForce p at_).flag_raise_same (R.NET_INT_STATUS p) 6 (by decide)
      by_cases h3 : p = 3
      · subst h3
        exact hsame.mono (by decide) hset
      · refine (Core.flag_congr (hsame.get ?_ ?_ ?_)).trans hset
        all_goals simp only [F.NET_INT_STATUS_GATE_CHANGE, R.NET_INT_STATUS, R.NET_TX_ERR, window]; omega
    · refine ((hsame.get_port ?_ ?_ ?_).trans (hother ?_)).trans (Core.get_oper_listInForce _ _ _ he)
      all_goals simp only [R.NET_GATE_OPER, R.NET_INT_STATUS]; omega
  case cycle =>
    intro s p hq hp hrun hcycle hlater
    refine completes_of_eq rfl hq (gateCycleStart_begins hrun hcycle hlater) ((Core.setF_atl _ _ _).trans rfl) ?_
    rw [State.core_of_core, Core.netPort_of_net (Core.setF_net _ _ _), Core.netPort_setNetPort_same]
    exact ⟨rfl, rfl, Core.f_setF_field _ _ (by decide) (by decide)⟩
  case gateSet =>
    intro s p c r hadmits hq hp hlen hen hfree hcount hcycle hbase hentries
    refine completes_of_net rfl hadmits hq (by decide) (netGateSetBody_gives hp hlen hen hfree hcount hcycle hbase hentries)
      ((Core.gateGo_bystanders _ _ _).trans (Core.listGiven_bystanders _ _)) fun t htold hsame => ⟨htold, ?_, ?_, ?_, ?_, ?_, fun e he => ?_⟩
    · refine (Core.flag_congr (hsame.get_port ?_ ?_ ?_)).trans (Core.flag_pending_gateGo _ _ _)
      all_goals simp only [F.NET_STATUS_GATE_PENDING, R.NET_STATUS]; omega
    · have hport : (t.netPort (r.n 0)).pending = _ := (congrArg NetPort.pending (hsame.portBeside (r.n 0)) :)
      rw [State.core_of_core, hport]
      exact congrArg (Option.map (·.2)) (Core.pending_gateGo _ _ _)
    · refine (Core.f_congr (hsame.get_port ?_ ?_ ?_)).trans ((Core.f_ctrl_gateGo _ _ _ (by decide) (by decide)).trans
        (Core.f_en_listGiven _ hen))
      all_goals simp only [F.NET_GATE_CTRL_EN, R.NET_GATE_CTRL]; omega
    · refine (Core.f_congr (hsame.get_port ?_ ?_ ?_)).trans ((Core.f_ctrl_gateGo _ _ _ (by decide) (by decide)).trans
        (Core.f_count_listGiven _ hcount.2))
      all_goals simp only [F.NET_GATE_CTRL_COUNT, R.NET_GATE_CTRL]; omega
    · refine (hsame.get_port ?_ ?_ ?_).trans ((Core.get_gateGo _ _ _ ?_ ?_).trans (Core.get_cycle_listGiven _ _))
      all_goals simp only [R.NET_GATE_CYCLE, R.NET_STATUS, R.NET_GATE_CTRL]; omega
    · refine (hsame.get_port ?_ ?_ ?_).trans ((Core.get_gateGo _ _ _ ?_ ?_).trans (Core.get_admin_listGiven _ rfl hlen he))
      all_goals simp only [R.NET_GATE_ADMIN, R.NET_STATUS, R.NET_GATE_CTRL]; omega
  case gateGet =>
    intro s p c r hadmits hq hp hwhich
    rcases Nat.le_one_iff_eq_zero_or_eq_one.mp hwhich with h | h
    · refine completes_of_body rfl hadmits hq (by decide) (netGateGetBody_oper hp h) rfl fun t ht => ⟨fun _ => ht.told, fun h' => ?_⟩
      omega
    · refine completes_of_body rfl hadmits hq (by decide) (netGateGetBody_admin hp h) rfl fun t ht => ⟨fun h' => ?_, fun _ => ht.told⟩
      omega
  case rxSet =>
    intro s p c r hadmits hq hcheck
    obtain ⟨d, b, hby, hstream, hbody⟩ := streamRxSetBody_waits hcheck
    refine completes_of_net rfl hadmits hq (by decide) hbody
      ((Core.regroup_keeps (g := Core.bystanders) (fun _ _ _ => rfl) _ _ _).trans hby) fun t htold hsame => ⟨htold, ?_⟩
    obtain ⟨hdefn, hnext⟩ := d.defs_regroup b (some (r.n 0)) (r.n 0)
    rw [State.core_of_core, hsame.rxStream, hdefn, hnext, hstream, Core.rxStream_setRxStream_same,
      boundary_untimed (untimed_of_admits hadmits)]
    exact ⟨rfl, rfl⟩
  case txSet =>
    intro s p c r hadmits hq hcheck
    obtain ⟨d, hby, hstream, hbody⟩ := streamTxSetBody_waits hcheck
    refine completes_of_net rfl hadmits hq (by decide) hbody hby fun t htold hsame => ⟨htold, ?_⟩
    rw [State.core_of_core, hsame.txStream, hstream, Core.txStream_setTxStream_same, boundary_untimed (untimed_of_admits hadmits)]
    exact ⟨rfl, rfl⟩
  case rxApply =>
    rintro s rx n d b u hq rfl hn hnext hb
    obtain ⟨l, hstart⟩ := streamDefinitionApply_rx hnext hb
    have hkeep : ∀ {α : Type} (g : Core → α), (∀ (c : Core) (p : Nat) (x : TxFrame), x.stream = none → g (c.queueFrame p x) = g c) →
        g ((List.range 2).foldl (fun (e : Core) p => e.sendIgmp p false (l [s.core] e p))
          ((s.core.setRxStream n { s.core.rxStream n with defn := d, next := u }).rxStart n b)) =
        g ((s.core.setRxStream n { s.core.rxStream n with defn := d, next := u }).rxStart n b) := fun g hg =>
      foldl_keeps g _ (fun _ _ => Core.sendIgmp_keeps hg _ _ _ _) _ _
    have hreg : ∀ off : Nat, window off = 16 → off % 0x100000 ≠ 4 → (∀ p, off ≠ R.NET_TX_ERR p) →
        (streamDefinitionApply true n s.core).get off =
          ((s.core.setRxStream n { s.core.rxStream n with defn := d, next := u }).rxStart n b).get off := fun off h16 hint herr => by
      rw [hstart, Core.get_groupRegs _ (by omega)]
      exact hkeep (Core.get · off) fun c p x hx => Core.get_queueFrame_ne c hx (herr p) hint
    have hstream : (streamDefinitionApply true n s.core).rxStream n =
        (s.core.setRxStream n { s.core.rxStream n with defn := d, next := u }).rxAnew n b := by
      rw [hstart, Core.groupRegs_keeps (g := (Core.rxStream · n)) fun _ _ _ => rfl,
        hkeep (Core.rxStream · n) fun c p x _ => by unfold Core.rxStream; rw [Core.queueFrame_rx], Core.rxStream_rxStart]
    have hatl : (streamDefinitionApply true n s.core).atl = s.core.atl := by
      rw [hstart, Core.groupRegs_keeps (g := Core.atl) fun _ _ _ => rfl,
        hkeep Core.atl fun c p x _ => (congrArg Core.atl (Core.queueFrame_still c p x) :), Core.rxStart_keeps (g := Core.atl) _ _ _ fun _ _ _ => rfl]
      rfl
    obtain ⟨hdefn, hnext', hdata, hhold⟩ := (s.core.setRxStream n { s.core.rxStream n with defn := d, next := u }).defn_rxAnew n b
    rw [Core.rxStream_setRxStream_same] at hdefn hnext'
    refine completes_of_eq rfl hq rfl hatl ?_
    rw [State.core_of_core, hstream]
    refine ⟨hdefn, hnext', hdata, hhold, ?_, ?_⟩
    · rw [hreg _ (by unfold window R.MEDIA_RX_CTRL; omega) (by unfold R.MEDIA_RX_CTRL; omega)
        fun p => by unfold R.MEDIA_RX_CTRL R.NET_TX_ERR; omega, Core.get_ctrl_rxStart, Core.rxStream_setRxStream_same]
    · rw [hreg _ (by unfold window R.MEDIA_RX_MAP; omega) (by unfold R.MEDIA_RX_MAP; omega)
        fun p => by unfold R.MEDIA_RX_MAP R.NET_TX_ERR; omega, Core.get_map_rxStart, Core.rxStream_setRxStream_same]
  case txApply =>
    rintro s rx n d b u hq rfl hn hnext hb
    refine completes_of_eq rfl hq (streamDefinitionApply_tx hnext hb)
      ((Core.txStart_keeps _ _ _ (g := Core.atl) fun _ _ _ => rfl).trans rfl) ?_
    rw [State.core_of_core, Core.txStream_txStart, Core.get_ctrl_txStart]
    unfold Core.txAnew
    rw [Core.txStream_setTxStream_same]
    exact ⟨rfl, rfl, rfl, rfl⟩
  case rxGet =>
    intro s p c r hadmits hq hn
    exact completes_of_body rfl hadmits hq (by decide) (if_neg (Nat.not_lt.mpr hn)) rfl fun t h => h.told
  case txGet =>
    intro s p c r hadmits hq hn
    exact completes_of_body rfl hadmits hq (by decide) (if_neg (Nat.not_lt.mpr hn)) rfl fun t h => h.told
  case rxStats =>
    intro s p n c r hadmits hq hdir hcount hrange
    refine completes_of_body rfl hadmits hq (by decide) (streamStatsBody_rx hdir hcount) (Core.cleared_bystanders _ _)
      fun t h => ⟨h.told, fun i hi => ?_⟩
    have hmem : R.MEDIA_RX_UNDERRUN n + 4 * i ∈ rxCounters ((List.range (r.n 2)).map (· + r.n 1)) :=
      List.mem_flatMap.mpr ⟨n, List.mem_map.mpr ⟨n - r.n 1, List.mem_range.mpr (by omega), by omega⟩,
        List.mem_map.mpr ⟨i, List.mem_range.mpr hi, rfl⟩⟩
    have hwindow : window (R.MEDIA_RX_UNDERRUN n + 4 * i) = 16 := by
      unfold window R.MEDIA_RX_UNDERRUN
      omega
    rw [State.core_of_core, h.get (by omega) (by omega), Core.get_cleared, if_pos hmem]
  case txStats =>
    intro s p n c r hadmits hq hdir hcount hrange
    have hmem : ∀ x ∈ [R.MEDIA_TX_LATE n, R.MEDIA_TX_DROP n], x ∈ txCounters ((List.range (r.n 2)).map (· + r.n 1)) := fun x hx =>
      List.mem_flatMap.mpr ⟨n, List.mem_map.mpr ⟨n - r.n 1, List.mem_range.mpr (by omega), by omega⟩, hx⟩
    have hlate : window (R.MEDIA_TX_LATE n) = 16 := by
      unfold window R.MEDIA_TX_LATE
      omega
    have hdrop : window (R.MEDIA_TX_DROP n) = 16 := by
      unfold window R.MEDIA_TX_DROP
      omega
    refine completes_of_body rfl hadmits hq (by decide) (streamStatsBody_tx hdir hcount) (Core.cleared_bystanders _ _)
      fun t h => ⟨h.told, ?_, ?_⟩
    · rw [State.core_of_core, h.get (by omega) (by omega), Core.get_cleared, if_pos (hmem _ (by simp))]
    · rw [State.core_of_core, h.get (by omega) (by omega), Core.get_cleared, if_pos (hmem _ (by simp))]
  case receive =>
    intro s port x j n i k y hq hport hup hmedia harmed hwaits hleg hstream hn hpt hlen hearly hi hpast hjudged hfree
    obtain ⟨m, htake⟩ := rtpTake_places (port := port) (at_ := s.core.time.n + j) hstream hpt hlen hearly
    obtain ⟨hplaced, hclk, hatl⟩ := s.core.packetHeard_placed n port (x.seq % 65536) m
    have hpackets := s.core.get_packets_packetHeard n port (x.seq % 65536) m hn.1
    have hflag := s.core.flag_leg_packetHeard n port (x.seq % 65536) m hn.1 rfl
    generalize hd : s.core.packetHeard n port (x.seq % 65536) m = d at htake hplaced hclk hatl hpackets hflag
    generalize ht : mediaTime x.ts (y.defn.getD 3 0) (s.core.time.n + j) = t at htake hpast hjudged hfree
    rw [hstream] at hplaced
    obtain ⟨hdefn, hdata, hjudged'⟩ : (d.rxStream n).defn = y.defn ∧ (d.rxStream n).data = y.data ∧ (d.rxStream n).judged = y.judged :=
      ⟨congrArg Prod.fst hplaced, congrArg (·.2.1) hplaced, congrArg (·.2.2) hplaced⟩
    have hkeep : ∀ {off : Nat}, off % 0x100000 ≠ 4 → off ≠ R.MEDIA_RX_LATE n → off ≠ R.ARMATURE_LATE_COUNT →
        (d.placeSamples n t x.payload).get off = d.get off := fun hint hlate harm => by
      refine (d.placeSamples_keeps n t x.payload (g := (Core.get · _)) (fun c => Core.get_count_ne c hlate hint)
        (fun c => Core.get_raise_ne c ?_) fun c k => Core.get_countW_ne c k harm hint).trans rfl
      simp only [F.MEDIA_INT_STATUS_LATE, R.MEDIA_INT_STATUS]
      omega
    have hdone : rtpPacketReceive port x j s.core = d.placeSamples n t x.payload :=
      (rtpPacketReceive_takes hport hup hmedia harmed hwaits hleg hn.2).trans htake
    refine completes_of_eq rfl hq hdone ?_ ⟨?_, ?_, ?_⟩
    · rw [d.placeSamples_keeps n t x.payload (g := Core.atl) (fun c => Core.count_atl c _) (fun c => Core.raise_atl c _)
        fun c k => Core.countW_atl c _ k]
      exact hatl
    · refine (hkeep ?_ ?_ ?_).trans hpackets
      all_goals simp only [R.MEDIA_RX_PACKETS, R.MEDIA_RX_LATE, R.ARMATURE_LATE_COUNT]; omega
    · rw [State.core_of_core, Core.data_placeSamples, hdefn, hdata]
      refine smGet_placeRows _ ?_ hi.2.1 hi.2.2 fun l hl => ?_
      · unfold Core.newTimes Core.placeTimes
        rw [hdefn, hdata, hjudged', hclk]
        simp only [List.mem_filter, List.mem_range, decide_eq_true_eq, Bool.and_eq_true]
        exact ⟨⟨hi.1, by omega⟩, hjudged, by rw [hfree]; rfl⟩
      · exact of_decide_eq_true (List.mem_filter.mp (List.mem_filter.mp hl).1).2
    · have hoff : (if port = 0 then F.MEDIA_RX_STATE_LEG_A_UP n else F.MEDIA_RX_STATE_LEG_B_UP n).off = R.MEDIA_RX_STATE n := by
        split <;> rfl
      refine (Core.flag_congr (hkeep ?_ ?_ ?_)).trans hflag
      all_goals simp only [hoff, R.MEDIA_RX_STATE, R.MEDIA_RX_LATE, R.ARMATURE_LATE_COUNT]; omega
  case legLoss =>
    intro s n leg hq hn hdef hheard hlate
    obtain ⟨x, hlost⟩ := streamLegLoss_loses hn hdef hheard hlate
    have hstate : R.MEDIA_RX_STATE n ≠ R.MEDIA_RX_LEG_LOSS n := by unfold R.MEDIA_RX_STATE R.MEDIA_RX_LEG_LOSS; omega
    have hint : R.MEDIA_RX_STATE n % 0x100000 ≠ 4 := by unfold R.MEDIA_RX_STATE; omega
    have hst : R.MEDIA_RX_STATE n ≠ R.MEDIA_INT_STATUS := by unfold R.MEDIA_RX_STATE R.MEDIA_INT_STATUS; omega
    have hloss : R.MEDIA_RX_LEG_LOSS n ≠ R.MEDIA_INT_STATUS := by unfold R.MEDIA_RX_LEG_LOSS R.MEDIA_INT_STATUS; omega
    refine completes_of_eq rfl hq hlost ((Core.raise_atl _ _).trans (Core.count_atl _ _)) ⟨?_, ?_, Core.flag_raise_same _ _ _ (by decide)⟩
    · have hdown : ∀ d : Core, (d.setF (if leg = 0 then F.MEDIA_RX_STATE_LEG_A_UP n else F.MEDIA_RX_STATE_LEG_B_UP n) 0).flag
          (if leg = 0 then F.MEDIA_RX_STATE_LEG_A_UP n else F.MEDIA_RX_STATE_LEG_B_UP n) = false := fun d => by
        split
        · exact Core.flag_setF_bit _ _ _ _ (by decide)
        · exact Core.flag_setF_bit _ _ _ _ (by decide)
      have hoff : (if leg = 0 then F.MEDIA_RX_STATE_LEG_A_UP n else F.MEDIA_RX_STATE_LEG_B_UP n).off = R.MEDIA_RX_STATE n := by
        split <;> rfl
      refine (Core.flag_congr ?_).trans (hdown (s.core.setRxStream n x))
      rw [hoff]
      exact (Core.get_raise_ne _ hst).trans (Core.get_count_ne _ hstate hint)
    · refine (Core.f_congr (Core.get_raise_ne _ hloss)).trans ((Core.f_count_same _ (by unfold R.MEDIA_RX_LEG_LOSS; omega)).trans ?_)
      rw [Core.f_congr (Core.get_setF_ne _ _ (by split <;> exact hstate.symm))]
      rfl
  case margin =>
    intro s n hq hn hen hspan
    refine completes_of_eq rfl hq (marginSpanEnd_shows hn hen hspan) rfl ?_
    rw [State.core_of_core]
    refine ⟨(Core.f_setF_field _ _ (by decide) (by decide)).trans (Nat.mod_eq_of_lt ?_), congrArg RxStream.margin
      (Core.rxStream_setRxStream_same s.core n { s.core.rxStream n with margin := none })⟩
    cases (s.core.rxStream n).margin with
    | none => decide
    | some m =>
      simp only [Option.map_some, Option.getD_some, unsigned]
      omega
  case queue =>
    intro s n m hq hn hen hmedia hdue hheld hleg hmac hup hmin hfits
    have hnext : (s.core.txNext n).txStream n = { s.core.txStream n with
        at_ := (s.core.txStream n).at_ + packetSamples s.core.clk.mult (defPtime (s.core.txStream n).defn) } :=
      Core.txStream_setTxStream_same _ _ _
    have hsent := streamPacketQueue_sends hn hen hmedia hdue hheld hleg hmac
    generalize hpayload : (s.core.txNext n).txPayload (s.core.txStream n).defn (s.core.txStream n).at_ = payload at hsent
    obtain ⟨f, hcls, hflen, hfstream, hwaits⟩ := Core.queueLeg_waits (c := s.core.txNext n) (n := n) (m := m)
      (t := (s.core.txStream n).at_) (payload := payload) (by rw [hnext]; exact hleg) (by rw [hnext]; exact hmac) hup hmin
      (by rw [hnext]; exact hfits)
    rw [hwaits] at hsent
    generalize hd : (s.core.txNext n).setNetPort 0 { (s.core.txNext n).netPort 0 with txq := ((s.core.txNext n).netPort 0).txq ++ [f] } = d
      at hsent
    have hreg : ∀ {off : Nat}, off % 0x100000 ≠ 4 → off ≠ R.MEDIA_TX_DROP n → off ≠ R.NET_TX_ERR 1 →
        (d.queueLeg n 1 (s.core.txStream n).at_ payload).get off = s.core.get off := fun hint hdrop herr => by
      refine (Core.queueLeg_keeps (g := (Core.get · _)) (fun c => ?_) (fun c => ?_) (fun _ _ => rfl) d _ _).trans (by rw [← hd]; rfl)
      · refine (Core.get_raise_ne _ ?_).trans (Core.get_count_ne _ hdrop hint)
        simp only [F.MEDIA_INT_STATUS_TX_DROP, R.MEDIA_INT_STATUS]
        omega
      · refine (Core.get_raise_ne _ ?_).trans (Core.get_count_ne _ herr hint)
        simp only [F.NET_INT_STATUS_TX_ERR, R.NET_INT_STATUS]
        omega
    have hrest : ∀ {α : Type} (g : Core → α), (∀ (c : Core) (r : Nat) (x : Field), g ((c.count r).raise x) = g c) →
        (∀ (c : Core) (x : NetPort), g (c.setNetPort 1 x) = g c) → (∀ (c : Core) (off : Nat) (w : Word), g (c.put off w) = g c) →
        (∀ (c : Core) (r : Nat), g (c.countW r 1) = g c) → g (streamPacketQueue n s.core) = g d :=
      fun g hcount hport hput hcountW => by
        rw [hsent, Core.packetSent_keeps _ _ hput hcountW]
        exact Core.queueLeg_keeps (fun c => hcount c _ _) (fun c => hcount c _ _) hport d _ _
    have hport : (streamPacketQueue n s.core).netPort 0 = { s.core.netPort 0 with txq := (s.core.netPort 0).txq ++ [f] } := by
      rw [hrest (Core.netPort · 0) (fun c r x => Core.netPort_of_net ((Core.raise_net _ _).trans (Core.count_net _ _)) _)
        (fun c x => Core.netPort_setNetPort_ne c x (by decide)) (fun _ _ _ => rfl) (fun c r => Core.netPort_of_net (Core.countW_net _ _ _) _),
        ← hd, Core.netPort_setNetPort_same]
      rfl
    have hstream : (streamPacketQueue n s.core).txStream n = (s.core.txNext n).txStream n := by
      rw [hrest (Core.txStream · n) (fun c r x => by unfold Core.txStream; rw [Core.raise_net, Core.count_net]) (fun _ _ => rfl)
        (fun _ _ _ => rfl) (fun c r => by unfold Core.txStream; rw [Core.countW_net]), ← hd]
      rfl
    have hatl : (streamPacketQueue n s.core).atl = s.core.atl := by
      rw [hrest Core.atl (fun c r x => (Core.raise_atl _ _).trans (Core.count_atl _ _)) (fun _ _ => rfl) (fun _ _ _ => rfl)
        (fun c r => Core.countW_atl _ _ _), ← hd]
      rfl
    refine completes_of_eq rfl hq rfl hatl ?_
    rw [State.core_of_core, hport, hstream, hnext]
    refine ⟨rfl, ?_, ?_, ?_, ?_⟩
    · rw [hsent, Core.f_seq_packetSent, Core.f_congr (hreg ?_ ?_ ?_)]
      all_goals simp only [F.MEDIA_TX_SEQ_SEQ, R.MEDIA_TX_SEQ, R.MEDIA_TX_DROP, R.NET_TX_ERR]; omega
    · rw [hsent, Core.get_packets_packetSent, hreg]
      all_goals simp only [R.MEDIA_TX_PACKETS, R.MEDIA_TX_DROP, R.NET_TX_ERR]; omega
    · simp
    · rw [List.getLast?_concat, Option.map_some, hcls, hflen, hfstream, hnext]
      rfl

end Sys2Proof.Machine
end

section
/-! The output chain (R274 to R289): tails, Palette 1, mutes and meters, and O24. -/

namespace Sys2Proof.Machine
open Sys2Proof

/-! ### Tails (R274 to R278) -/

theorem Core.chain_setChain_same (c : Core) (o : Nat) (x : ChainState) : (c.setChain o x).chain o = x := smGet_smSet_same _ _ _ _

/-- The chain as it stands before an output's chain takes its new frame: that of a Glaze has taken its own. -/
theorem Core.newFrame_takes {c : Core} {o n : Nat} (hat : c.out.inpAt = some n) (hstart : c.frameStart o n = true)
    (hnew : (c.chain o).tailAt ≠ some n) (late : Bool) :
    ∃ d : Core, d.bystanders = c.bystanders ∧
      c.newFrame o late = d.setChain o (c.tailFrame (chainSet c.out.live o) (c.chain o) n late) := by
  unfold Core.newFrame Core.chainNext
  rw [hat]
  dsimp only
  rw [if_neg (by simp [hstart, hnew])]
  cases c.oldChain o with
  | none => exact ⟨c, rfl, rfl⟩
  | some x => exact ⟨c.setOld o (some (c.tailFrame (chainSet c.out.staged o) x n late)), rfl, rfl⟩

/-- Chains stand beside everything else. -/
theorem Core.newFrame_keeps {α : Type} {g : Core → α} (hchain : ∀ (c : Core) (o : Nat) (x : ChainState), g (c.setChain o x) = g c)
    (hold : ∀ (c : Core) (o : Nat) (x : Option ChainState), g (c.setOld o x) = g c) (c : Core) (o : Nat) (late : Bool) :
    g (c.newFrame o late) = g c := by
  unfold Core.newFrame
  dsimp only
  repeat' split
  · rfl
  · rfl
  · exact (hchain _ _ _).trans (hold _ _ _)
  · exact hchain _ _ _

/-- The chain of an output, and that of a Glaze, with no tail. -/
def Core.noTail (c : Core) (o : Nat) : Core :=
  let d := c.setChain o { c.chain o with tail := [], tailSat := false }
  match d.oldChain o with
  | some y => d.setOld o (some { y with tail := [], tailSat := false })
  | none => d

theorem Core.noTail_keeps {α : Type} {g : Core → α} (hchain : ∀ (c : Core) (o : Nat) (x : ChainState), g (c.setChain o x) = g c)
    (hold : ∀ (c : Core) (o : Nat) (x : Option ChainState), g (c.setOld o x) = g c) (c : Core) (o : Nat) : g (c.noTail o) = g c := by
  unfold Core.noTail
  dsimp only
  split
  · exact (hold _ _ _).trans (hchain _ _ _)
  · exact hchain _ _ _

theorem Core.chain_noTail (c : Core) (o : Nat) : (c.noTail o).chain o = { c.chain o with tail := [], tailSat := false } := by
  unfold Core.noTail
  dsimp only
  split
  · exact Core.chain_setChain_same c o _
  · exact Core.chain_setChain_same c o _

theorem tailOverrun_drops {c : Core} {o n : Nat} (ho : o < c.caps.outs) (hat : c.out.inpAt = some n) (hstart : c.frameStart o n = true)
    (hfir : (chainSet c.out.live o).firEn = true) :
    tailOverrun o c = (((c.newFrame o true).noTail o).count R.OUTPROC_OVERRUN).raise F.OUTPROC_INT_STATUS_OVERRUN := by
  unfold tailOverrun Core.chainNext
  rw [hat]
  dsimp only
  rw [if_neg (by simp [hstart, hfir]; omega)]
  rfl

/-! ### Palette 1 (R281) -/

/-- The commit of Palette 1 has ended. -/
def Core.outCommitted (c : Core) : Core :=
  let d : Core := { c with out := { c.out with commit := none } }
  if (c.outAdmit c.out.staged).1 = .ok then
    (d.setF (stagedReady 1) 1).setF F.OUTPROC_STATUS_CORES (c.outAdmit c.out.staged).2.1
  else d

theorem Core.f_lt (c : Core) (o hi lo : Nat) : c.f ⟨o, hi, lo⟩ < 2 ^ (hi - lo + 1) := Nat.mod_lt _ (Nat.two_pow_pos _)

section OutCommitted
variable (c : Core)

/-- The cores that the chains need are no more than the module has. -/
theorem Core.outAdmit_cores (m : SMap ChainSet) : (c.outAdmit m).2.1 < 128 := by
  have hold : c.f F.OUTPROC_STATUS_CORES < 128 := c.f_lt _ 8 2
  unfold Core.outAdmit
  dsimp only
  repeat' split
  · exact hold
  · exact hold
  · exact hold
  · next hfit =>
    have hcap : c.f F.HEALTH_CAPACITY_BRUSH < 128 := c.f_lt _ 22 16
    simp only [Core.chainCoresFit, Bool.not_eq_true', decide_eq_false_iff_not, not_not] at hfit
    dsimp only
    omega

theorem Core.outCommitted_keeps {α : Type} {g : Core → α} (hput : ∀ (c : Core) (off : Nat) (w : Word), g (c.put off w) = g c) :
    g c.outCommitted = g { c with out := { c.out with commit := none } } := by
  unfold Core.outCommitted
  dsimp only
  split
  · exact (hput _ _ _).trans (hput _ _ _)
  · rfl

theorem Core.out_outCommitted : c.outCommitted.out = { c.out with commit := none } := c.outCommitted_keeps (g := Core.out) fun _ _ _ => rfl

theorem Core.flag_ready_outCommitted : c.outCommitted.flag (stagedReady 1) =
    (decide ((c.outAdmit c.out.staged).1 = .ok) || c.flag (stagedReady 1)) := by
  unfold Core.outCommitted
  dsimp only
  split
  · next h =>
    rw [Core.flag_congr (Core.get_setF_ne _ _ (by decide)), h]
    exact Core.flag_setF_bit _ _ 1 1 (by decide)
  · next h =>
    simp only [h, decide_false, Bool.false_or]
    rfl

theorem Core.f_cores_outCommitted (h : (c.outAdmit c.out.staged).1 = .ok) :
    c.outCommitted.f F.OUTPROC_STATUS_CORES = (c.outAdmit c.out.staged).2.1 % 256 := by
  unfold Core.outCommitted
  dsimp only
  rw [if_pos h]
  refine (Core.f_setF_field _ _ (show 2 ≤ 8 by decide) (by decide)).trans ?_
  have := c.outAdmit_cores c.out.staged
  omega

end OutCommitted

theorem outchainCommitDone_ends {c : Core} {k : Tok} (h : c.out.commit = some k) :
    ∃ l, outchainCommitDone c = (c.outCommitted.raise F.OUTPROC_INT_STATUS_COMMIT_DONE).notice k (c.outAdmit c.out.staged).1 l := by
  unfold outchainCommitDone
  rw [h]
  exact ⟨_, rfl⟩

theorem outchainGetBody_settings {c : Core} {r : Req} {x : ChainSet} (hout : r.n 0 < c.caps.outs) (hbank : r.n 1 ≤ 1)
    (hset : chainSet (if r.n 1 = 0 then c.out.live else c.out.staged) (r.n 0) = x) :
    outchainGetBody c r = okW c ([unsigned 16 x.trim + 2 ^ 16 * x.h + 2 ^ 20 * b2n x.firEn + 2 ^ 21 * b2n x.varnishEn, x.align] ++
      (((List.range 16).map fun q => smGet (fun _ => {}) x.sections q).flatMap fun b =>
        [b2n b.bypass, w32 b.b0, w32 b.b1, w32 b.b2, w32 b.a1, w32 b.a2]) ++ [x.firItem, w32 x.thresh, x.knee, x.release, x.link]) := by
  unfold outchainGetBody
  rw [if_neg (by omega), if_neg (by omega), hset, List.flatMap_map]

/-! ### Mutes (R283) -/

/-- The mute requests take a value. -/
def Core.setMutes (c : Core) (l : List MuteReq) : Core := { c with out := { c.out with mutes := l } }

/-- The fades of the outputs take a value. -/
def Core.setMuteFades (c : Core) (m : SMap (Option (Bool × Nat × Nat))) : Core := { c with out := { c.out with fades := m } }

/-- A mute request that is done. -/
def MuteReq.done (q : MuteReq) : Bool := q.todo.isEmpty && q.fading.isEmpty

section MuteDone
variable (c : Core)

theorem Core.muteDone_keeps {α : Type} {g : Core → α} (hnotice : ∀ (c : Core) (q : MuteReq), g (c.notice q.tok .ok []) = g c) :
    g c.muteDone = g (c.setMutes (c.out.mutes.filter fun q => !q.done)) :=
  foldl_keeps g _ hnotice _ _

theorem Core.muteDone_atl : c.muteDone.atl = c.atl := c.muteDone_keeps (g := Core.atl) fun _ _ => Core.notice_atl _ _ _ _

theorem Core.out_muteDone : c.muteDone.out = { c.out with mutes := c.out.mutes.filter fun q => !q.done } :=
  c.muteDone_keeps (g := Core.out) fun _ _ => Core.notice_out _ _ _ _

theorem Core.get_muteDone {off : Nat} (h : window off = 19) : c.muteDone.get off = c.get off :=
  c.muteDone_keeps (g := (Core.get · off)) fun _ _ => Core.get_notice_away _ (by omega) (by omega)

end MuteDone

theorem outputMuteBody_waits {c : Core} {r : Req} (hmute : r.n 2 ≤ 1) (hcount : 1 ≤ r.n 1) (hlast : r.n 0 + r.n 1 ≤ c.caps.outs) :
    outputMuteBody c r = ans (c.setMutes (c.out.mutes ++ [{
      b := r.boundary c (c.boundaryAt (c.now + 2 * c.blk)), mute := decide (r.n 2 = 1), todo := (List.range (r.n 1)).map (· + r.n 0),
      tok := r.tok }])) .accepted := by
  unfold outputMuteBody Core.muteRequest
  rw [if_neg (by omega), if_neg (by omega)]
  rfl

/-- An output's mute bit changes, before its fade begins. -/
def Core.muteSet (c : Core) (o : Nat) (q : MuteReq) : Core :=
  (c.setMutes [{ q with todo := q.todo.erase o, fading := q.fading ++ [o] }]).setB (muteBit o) q.mute

section MuteSet
variable (c : Core) (o : Nat) (q : MuteReq)

theorem Core.flag_muteSet : (c.muteSet o q).flag (muteBit o) = q.mute := by
  have hset : ∀ (d : Core) (v : Nat), (d.setF (muteBit o) v).flag (muteBit o) = decide (v % 2 ≠ 0) := fun d v =>
    Core.flag_setF_bit d _ _ v (Nat.mod_lt _ (by decide))
  refine (hset _ _).trans ?_
  cases q.mute <;> rfl

theorem Core.muteSet_atl : (c.muteSet o q).atl = c.atl := Core.setF_atl _ _ _

theorem Core.out_muteSet : (c.muteSet o q).out = { c.out with mutes := [{ q with todo := q.todo.erase o, fading := q.fading ++ [o] }] } :=
  Core.setF_out _ _ _

/-- The mute bits stand beside the length of a Glaze. -/
theorem Core.glaze_muteSet : (c.muteSet o q).glaze = c.glaze := by
  have hoff : R.CALIPER_CTRL ≠ (muteBit o).off := by
    simp only [muteBit, R.CALIPER_CTRL, R.OUTPROC_MUTE]
    omega
  unfold Core.glaze
  rw [Core.f_congr (show (c.muteSet o q).get F.CALIPER_CTRL_GLAZE.off = c.get F.CALIPER_CTRL_GLAZE.off from Core.get_setF_ne _ _ hoff)]

end MuteSet

theorem muteApply_begins {c : Core} {o : Nat} {q : MuteReq} (hmutes : c.out.mutes = [q]) (htodo : o ∈ q.todo) (hb : q.b ≤ c.now)
    (hfade : smGet (fun _ => none) c.out.fades o = none) (hbit : c.flag (muteBit o) ≠ q.mute) :
    muteApply o c = ((c.muteSet o q).setMuteFades
      (smSet (fun _ => none) (c.muteSet o q).out.fades o (some (q.mute, c.boundaryAt c.now, (c.muteSet o q).glaze)))).muteDone := by
  unfold muteApply
  dsimp only
  rw [hmutes, List.find?_cons_of_pos (by simpa using htodo)]
  dsimp only
  rw [if_neg (by simp [hfade]; omega), if_neg hbit, if_neg hbit, List.map_cons, List.map_nil, if_pos rfl]
  rfl

theorem muteFadeEnd_ends {c : Core} {o at_ g : Nat} {m : Bool} (hfade : smGet (fun _ => none) c.out.fades o = some (m, at_, g))
    (hpast : at_ + g ≤ c.now) :
    muteFadeEnd o c = (((c.setMutes (c.out.mutes.map fun q => { q with fading := q.fading.erase o })).setMuteFades
      (smSet (fun _ => none) c.out.fades o none)).raise F.OUTPROC_INT_STATUS_MUTE_DONE).muteDone := by
  unfold muteFadeEnd
  rw [hfade]
  exact if_neg (by omega)

/-! ### Meters (R289) -/

/-- The meters of some outputs. -/
def outMeters (l : List Nat) : List Nat := l.flatMap fun o => [R.OUTPROC_GR o, R.OUTPROC_CLIP o]

theorem outchainMetersBody_clears {c : Core} {r : Req} (hcount : 1 ≤ r.n 1) (hlast : r.n 0 + r.n 1 ≤ c.caps.outs) :
    outchainMetersBody c r = (c.cleared (outMeters ((List.range (r.n 1)).map (· + r.n 0))), .ok,
      natBytes (((List.range (r.n 1)).map (· + r.n 0)).flatMap fun o => [(c.get (R.OUTPROC_GR o)).toNat, (c.get (R.OUTPROC_CLIP o)).toNat])) := by
  have hclear : ∀ l : List Nat, c.cleared (outMeters l) =
      l.foldl (fun (c : Core) o => (c.put (R.OUTPROC_GR o) 0).put (R.OUTPROC_CLIP o) 0) c := fun l => by
    simp only [Core.cleared, outMeters, List.foldl_flatMap, List.foldl_cons, List.foldl_nil]
  unfold outchainMetersBody
  rw [if_neg (by omega), hclear]

/-- No module has more than 512 outputs. -/
theorem caps_outs_le (c : Core) : c.caps.outs ≤ 512 := by
  unfold Core.caps capsOf
  dsimp only
  repeat' split
  all_goals
    dsimp only
    omega

/-! ### Completion -/

/-- Settles O24: each command reduces to the one branch that its hypotheses leave; notices change no register of the output chain. -/
theorem outputChainCompletes : Obligations.OutputChainCompletes := by
  unfold Obligations.OutputChainCompletes
  refine ⟨?tail, ?overrun, ?done, ?get, ?mute, ?apply, ?fadeEnd, ?meters, ?clear⟩
  case tail =>
    intro s o n hq ho hat hstart hnew
    obtain ⟨d, hby, hframe⟩ := Core.newFrame_takes hat hstart hnew false
    refine completes_of_eq rfl hq ((if_pos ho).trans hframe) ((congrArg Prod.snd hby :) : d.atl = _) ?_
    rw [State.core_of_core, Core.chain_setChain_same]
    exact ⟨rfl, rfl⟩
  case overrun =>
    intro s o n hq ho hat hstart hfir
    have hregs : ((s.core.newFrame o true).noTail o).regs = s.core.regs :=
      (Core.noTail_keeps (g := Core.regs) (fun _ _ _ => rfl) (fun _ _ _ => rfl) _ _).trans
        (Core.newFrame_keeps (g := Core.regs) (fun _ _ _ => rfl) (fun _ _ _ => rfl) _ _ _)
    have hatl : ((s.core.newFrame o true).noTail o).atl = s.core.atl :=
      (Core.noTail_keeps (g := Core.atl) (fun _ _ _ => rfl) (fun _ _ _ => rfl) _ _).trans
        (Core.newFrame_keeps (g := Core.atl) (fun _ _ _ => rfl) (fun _ _ _ => rfl) _ _ _)
    have hchain := Core.chain_noTail (s.core.newFrame o true) o
    have hdrop := tailOverrun_drops ho hat hstart hfir
    generalize (s.core.newFrame o true).noTail o = d at hregs hatl hchain hdrop
    have hout : ((d.count R.OUTPROC_OVERRUN).raise F.OUTPROC_INT_STATUS_OVERRUN).chain o = d.chain o := by
      unfold Core.chain
      rw [Core.raise_out, Core.count_out]
    refine completes_of_eq rfl hq hdrop ((Core.raise_atl _ _).trans ((Core.count_atl _ _).trans hatl)) ?_
    rw [State.core_of_core, hout, hchain]
    refine ⟨rfl, rfl, ?_, Core.flag_raise_same _ _ _ (by decide)⟩
    refine (Core.f_congr (Core.get_raise_ne _ (by decide))).trans ((Core.f_count_same _ (by decide)).trans ?_)
    rw [Core.f_congr (get_of_regs hregs _)]
    rfl
  case done =>
    intro s k hq hcommit
    obtain ⟨l, hdone⟩ := outchainCommitDone_ends hcommit
    have hget : ∀ {off : Nat}, window off ≠ 3 → window off ≠ 15 → off ≠ R.OUTPROC_INT_STATUS →
        ((s.core.outCommitted.raise F.OUTPROC_INT_STATUS_COMMIT_DONE).notice k (s.core.outAdmit s.core.out.staged).1 l).get off =
          s.core.outCommitted.get off := fun h3 h15 hint => (Core.get_notice_away _ h3 h15).trans (Core.get_raise_ne _ hint)
    have hready := Core.flag_congr (x := stagedReady 1) (hget (by decide) (by decide) (by decide))
    refine completes_of_eq rfl hq hdone ?_ ?_
    · rw [Core.notice_atl, Core.raise_atl]
      exact s.core.outCommitted_keeps (g := Core.atl) fun _ _ _ => rfl
    · rw [State.core_of_core, Core.notice_out, Core.raise_out, Core.out_outCommitted, hready, Core.flag_ready_outCommitted]
      refine ⟨rfl, ?_, fun h => ⟨by simp [h], ?_⟩, fun h => by simp [h], rfl⟩
      · exact (Core.flag_congr (Core.get_notice_away _ (by decide) (by decide))).trans (Core.flag_raise_same _ _ _ (by decide))
      · exact (Core.f_congr (hget (by decide) (by decide) (by decide))).trans (Core.f_cores_outCommitted _ h)
  case get =>
    intro s p x c r hadmits hq hout hbank hset
    exact completes_of_body rfl hadmits hq (by decide) (outchainGetBody_settings hout hbank hset) rfl fun t h => h.told
  case mute =>
    intro s p c r hadmits hq hmute hcount hlast
    refine completes_of_body rfl hadmits hq (by decide) (outputMuteBody_waits hmute hcount hlast) rfl fun t h => ⟨h.told, ?_⟩
    rw [State.core_of_core, h.out, boundary_untimed (untimed_of_admits hadmits)]
    exact congrArg (fun x : OutPart => x.mutes ++ [_]) (Core.offered_out _ _ _)
  case apply =>
    intro s o q hq ho hmutes htodo hb hfade hbit
    refine completes_of_eq rfl hq (muteApply_begins hmutes htodo hb hfade hbit) ((Core.muteDone_atl _).trans (Core.muteSet_atl s.core o q)) ?_
    have hout : ∀ (d : Core) m, (d.setMuteFades m).out = { d.out with fades := m } := fun _ _ => rfl
    rw [State.core_of_core, Core.out_muteDone, hout, Core.out_muteSet, Core.glaze_muteSet]
    refine ⟨?_, smGet_smSet_same (fun _ => (none : Option (Bool × Nat × Nat))) s.core.out.fades o (some _), ?_⟩
    · exact (Core.flag_congr (Core.get_muteDone _ (by simp only [muteBit, window, R.OUTPROC_MUTE]; omega))).trans (Core.flag_muteSet _ _ _)
    · simp [MuteReq.done]
  case fadeEnd =>
    intro s o at_ g m hq hfade hpast
    refine completes_of_eq rfl hq (muteFadeEnd_ends hfade hpast) ((Core.muteDone_atl _).trans (Core.raise_atl _ _)) ?_
    rw [State.core_of_core, Core.out_muteDone, Core.raise_out]
    refine ⟨smGet_smSet_same (fun _ => (none : Option (Bool × Nat × Nat))) s.core.out.fades o none, ?_, ?_⟩
    · exact (Core.flag_congr (Core.get_muteDone _ (by decide))).trans (Core.flag_raise_same _ _ _ (by decide))
    · rw [List.all_eq_true]
      exact fun q hmem => (List.mem_filter.mp hmem).2
  case meters =>
    intro s p o c r hadmits hq hcount hlast hlo hhi
    have ho : o < 512 := by
      have := caps_outs_le c
      omega
    have hmem : ∀ x ∈ [R.OUTPROC_GR o, R.OUTPROC_CLIP o], x ∈ outMeters ((List.range (r.n 1)).map (· + r.n 0)) := fun x hx =>
      List.mem_flatMap.mpr ⟨o, List.mem_map.mpr ⟨o - r.n 0, List.mem_range.mpr (by omega), by omega⟩, hx⟩
    have hgr : window (R.OUTPROC_GR o) = 19 := by
      unfold window R.OUTPROC_GR
      omega
    have hclip : window (R.OUTPROC_CLIP o) = 19 := by
      unfold window R.OUTPROC_CLIP
      omega
    refine completes_of_body rfl hadmits hq (by decide) (outchainMetersBody_clears hcount hlast) (Core.cleared_bystanders _ _)
      fun t h => ⟨h.told, ?_, ?_⟩
    · rw [State.core_of_core, h.get (by omega) (by omega), Core.get_cleared, if_pos (hmem _ (by simp))]
    · rw [State.core_of_core, h.get (by omega) (by omega), Core.get_cleared, if_pos (hmem _ (by simp))]
  case clear =>
    intro s m v c hserves hq hbit
    refine completes_of_eq rfl hq ((busWrite_served hserves 0 _).trans (if_pos hbit)) (Core.written_atl _ _ _) ?_
    exact Core.get_put_same _ _ _

end Sys2Proof.Machine
end

section
/-! Survey measurements, their results and designs (R299 to R306), and O26. -/

namespace Sys2Proof.Machine
open Sys2Proof

/-! ### The part of Survey and its status -/

/-- The part of Survey takes a value. -/
def Core.setSurvey (c : Core) (x : SurveyPart) : Core := { c with survey := x }

/-- MEAS of a measurement (R303): 1 while turns play, 2 while results are due, 3 while only a design runs. -/
def Core.measCode (c : Core) (m : Option Meas) : Nat :=
  match m with
  | some x => if x.turn.isSome then 1 else if x.backAt.isSome ∨ x.b ≤ c.now then 2 else 0
  | none => if c.survey.design.isSome then 3 else 0

theorem Core.setMeas_eq (c : Core) (m : Option Meas) :
    c.setMeas m = (c.setF F.SURVEY_STATUS_MEAS (c.measCode m)).setSurvey { c.survey with meas := m } := rfl

section SetMeas
variable (c : Core) (m : Option Meas)

theorem Core.survey_setMeas : (c.setMeas m).survey = { c.survey with meas := m } := by
  rw [Core.setMeas_eq]
  rfl

theorem Core.setMeas_keeps {α : Type} {g : Core → α} (hset : ∀ (c : Core) (x : Field) (v : Nat), g (c.setF x v) = g c)
    (hsurvey : ∀ (c : Core) (x : SurveyPart), g (c.setSurvey x) = g c) : g (c.setMeas m) = g c := by
  rw [Core.setMeas_eq, hsurvey, hset]

theorem Core.setMeas_bystanders : (c.setMeas m).bystanders = c.bystanders :=
  c.setMeas_keeps m (g := Core.bystanders) (fun _ _ _ => rfl) fun _ _ => rfl

theorem Core.setMeas_atl : (c.setMeas m).atl = c.atl := c.setMeas_keeps m (g := Core.atl) (fun _ _ _ => rfl) fun _ _ => rfl

theorem Core.f_meas_setMeas : (c.setMeas m).f F.SURVEY_STATUS_MEAS = c.measCode m := by
  have hlt : c.measCode m < 4 := by
    unfold Core.measCode
    repeat' split
    all_goals decide
  rw [Core.setMeas_eq]
  exact (Core.f_setF_field _ _ (by decide) (by decide)).trans (Nat.mod_eq_of_lt hlt)

end SetMeas

/-- A log record changes nothing of Survey but the records that wait, and no register but the drop counter and the interrupts. -/
theorem Core.surveyLog_keeps {α : Type} {g : Core → α} (hdrop : ∀ c : Core, g ((c.count R.SURVEY_LOG_DROP).raise F.SURVEY_INT_STATUS_LOG_DROP) = g c)
    (hheld : ∀ (c : Core) (l : List SurveyLog), g (c.setSurvey { c.survey with logHeld := l }) = g c) (c : Core) (x : SurveyLog) :
    g (c.surveyLog x) = g c := by
  unfold Core.surveyLog
  split
  · exact hdrop _
  · exact hheld c _

section SurveyNote
variable (c : Core) (kind out : Nat)

theorem Core.meas_surveyNote : (c.surveyNote kind out).survey.meas = c.survey.meas ∧ (c.surveyNote kind out).survey.design = c.survey.design :=
  ⟨Core.surveyLog_keeps (g := fun c => c.survey.meas) (fun c => by rw [Core.raise_survey, Core.count_survey]) (fun _ _ => rfl) _ _,
    Core.surveyLog_keeps (g := fun c => c.survey.design) (fun c => by rw [Core.raise_survey, Core.count_survey]) (fun _ _ => rfl) _ _⟩

theorem Core.surveyNote_atl : (c.surveyNote kind out).atl = c.atl :=
  Core.surveyLog_keeps (g := Core.atl) (fun c => by rw [Core.raise_atl, Core.count_atl]) (fun _ _ => rfl) _ _

theorem Core.flash_surveyNote : (c.surveyNote kind out).flash = c.flash :=
  Core.surveyLog_keeps (g := Core.flash) (fun c => by rw [Core.raise_flash, Core.count_flash]) (fun _ _ => rfl) _ _

theorem Core.get_surveyNote {off : Nat} (hdrop : off ≠ R.SURVEY_LOG_DROP) (hint : off % 0x100000 ≠ 4) :
    (c.surveyNote kind out).get off = c.get off :=
  Core.surveyLog_keeps (g := (Core.get · off)) (fun c => (Core.get_raise_ne _ fun e => hint (by
    rw [e]
    rfl)).trans (Core.get_count_ne _ hdrop hint)) (fun _ _ => rfl) _ _

end SurveyNote

/-! ### A measurement (R299 to R303) -/

theorem surveyStatusBody_words (c : Core) (r : Req) :
    surveyStatusBody c r = okW c ([(c.get R.SURVEY_STATUS).toNat, (c.get R.SURVEY_TEMP).toNat, (c.get R.PDM_STATUS).toNat] ++
      (c.survey.meas.map fun m => [m.done, m.outs.length]).getD [0, 0]) := by
  unfold surveyStatusBody
  cases c.survey.meas <;> rfl

/-- The measurement that a command asks for. -/
def measAsked (c : Core) (r : Req) (level : Int) : Meas :=
  { kind := r.n 0, level := level, post := bitOf (r.w 2) 0, muteOthers := bitOf (r.w 2) 1, mic := r.n 3, repeats := r.n 4, p1 := r.n 5,
    p2 := r.n 6, p3 := r.n 7, gap := r.n 8, outs := (List.range (r.n 9)).map fun i => r.n (10 + i), tok := r.tok,
    b := r.boundary c c.anchorB, g := c.glaze }

theorem measureStartBody_waits {c : Core} {r : Req} {level : Int} (hrate : c.clk.mult ≠ 2) (hcount : 1 ≤ r.n 9 ∧ r.n 9 ≤ 512)
    (hlen : r.bytes.length = 40 + 4 * r.n 9) (hlevel : sext? 16 (r.w 1) = some level) (hopt : r.n 2 ≤ 3)
    (hdistinct : (measAsked c r level).outs.eraseDups.length = r.n 9) (hranges : (measAsked c r level).ranges c.fsHz = true)
    (houts : (measAsked c r level).outs.all (fun o => decide (o < c.caps.outs)) = true) (hfree : c.survey.meas = none) :
    measureStartBody c r = ans (c.setMeas (some (measAsked c r level))) .accepted := by
  have hnone : ¬((measAsked c r level).outs.any fun o => o ≥ c.caps.outs) = true := by
    simpa using houts
  unfold measureStartBody
  rw [surveyBody_allowed hrate]
  dsimp only
  rw [if_neg (by omega), if_neg (by omega), hlevel]
  dsimp only
  change (if r.n 2 > 3 ∨ (measAsked c r level).outs.eraseDups.length ≠ r.n 9 then _
    else if (!(measAsked c r level).ranges c.fsHz) = true ∨ ((measAsked c r level).outs.any fun o => o ≥ c.caps.outs) = true then _
    else if c.survey.meas.isSome = true then _ else ans (c.setMeas (some (measAsked c r level))) .accepted) = _
  rw [if_neg (by omega), if_neg (by simp only [hranges, hnone]; decide), if_neg (by simp [hfree])]

theorem measureBegin_begins {c : Core} {m : Meas} (hmeas : c.survey.meas = some m)
    (hidle : m.turn = none ∧ m.done = 0 ∧ m.waiting = [] ∧ m.backAt = none) (hb : m.b ≤ c.now) :
    measureBegin c = c.setMeas (some { m with turn := some (0, c.boundaryAt c.now) }) := by
  obtain ⟨hturn, hdone, hwaiting, hback⟩ := hidle
  unfold measureBegin
  rw [hmeas]
  exact if_pos ⟨by rw [hturn]; rfl, hdone, by rw [hwaiting]; rfl, by rw [hback]; rfl, hb⟩

/-- The measurement as a turn leaves it. -/
def Meas.turnOver (m : Meas) (k n : Nat) : Meas :=
  { m with
    waiting := m.waiting ++ [(k, m.cap.map fun x => (x.1, x.2.reverse.take m.turnLen), maskOf m.full, maskOf m.silent + 2 ^ 16 * b2n m.muted)]
    cap := [], full := [], silent := [], muted := false
    turn := if k + 1 < m.outs.length then some (k + 1, n) else none
    backAt := if k + 1 < m.outs.length then m.backAt else some n }

theorem measureTurnEnd_goesOn {c : Core} {m : Meas} {k at_ : Nat} (hmeas : c.survey.meas = some m) (hturn : m.turn = some (k, at_))
    (hend : at_ + m.turnLen ≤ c.now) : measureTurnEnd c = c.setMeas (some (m.turnOver k (c.boundaryAt c.now))) := by
  unfold measureTurnEnd
  rw [hmeas]
  dsimp only
  rw [hturn]
  exact if_neg (by omega)

/-- The recorded channels of a measurement. -/
def Meas.channels (m : Meas) : List Nat := (List.range 16).filter fun ch => m.mic / 2 ^ ch % 2 = 1

/-- The stored results with those of a turn (R304). -/
def Core.withResults (c : Core) (m : Meas) (k : Nat) (cap : SMap (List Int)) (full silent : Nat) : SMap (Option SurveyResult) :=
  m.channels.foldl (fun (rs : SMap (Option SurveyResult)) ch =>
    smSet (fun _ => none) rs (16 * m.outs.getD k 0 + ch) (some (c.resultOf m k cap full silent ch))) c.survey.results

/-- A key that a fold sets holds the value of its own step. -/
theorem smGet_foldl_smSet {β α : Type} [DecidableEq α] (d : Nat → α) (key : β → Nat) (v : β → α) (l : List β)
    (hinj : ∀ a ∈ l, ∀ b ∈ l, key a = key b → a = b) (m : SMap α) {b : β} (hb : b ∈ l) :
    smGet d (l.foldl (fun m a => smSet d m (key a) (v a)) m) (key b) = v b := by
  induction l using List.reverseRecOn with
  | nil => cases hb
  | append_singleton l a ih =>
    rw [List.foldl_append, List.foldl_cons, List.foldl_nil, smGet_smSet]
    by_cases h : key b = key a
    · rw [if_pos h, hinj b hb a (List.mem_append_right _ (List.mem_singleton_self _)) h]
    · rw [if_neg h]
      refine ih (fun x hx y hy => hinj x (List.mem_append_left _ hx) y (List.mem_append_left _ hy)) ?_
      exact (List.mem_append.mp hb).resolve_right fun hs => h (congrArg key (List.mem_singleton.mp hs))

theorem turnResultsDone_stores {c : Core} {m : Meas} {k full silent : Nat} {cap : SMap (List Int)}
    {u : List (Nat × SMap (List Int) × Nat × Nat)} (hmeas : c.survey.meas = some m) (hwaiting : m.waiting = (k, cap, full, silent) :: u) :
    turnResultsDone c = (c.setSurvey { c.survey with results := c.withResults m k cap full silent }).setMeas
      (some { m with waiting := u, done := m.done + 1 }) := by
  unfold turnResultsDone
  rw [hmeas]
  dsimp only
  rw [hwaiting]
  rfl

theorem measureComplete_ends {c : Core} {m : Meas} {k : Nat} (hmeas : c.survey.meas = some m) (hback : m.backAt = some k)
    (hpast : k + m.g ≤ c.now) (hwaiting : m.waiting = []) :
    measureComplete c = c.measureOver m (if m.aborted then .aborted else .ok) := by
  unfold measureComplete
  rw [hmeas]
  dsimp only
  rw [hback]
  exact if_pos ⟨hpast, by rw [hwaiting]; rfl⟩

section MeasureOver
variable (c : Core) (m : Meas) (st : Status)

theorem Core.measureOver_eq : c.measureOver m st = (((c.setMeas none).surveyNote 11 0xFFFF).raise F.SURVEY_INT_STATUS_MEAS_DONE).notice m.tok st
    (natBytes [statusCode st, m.done]) := rfl

theorem Core.measureOver_atl : (c.measureOver m st).atl = c.atl := by
  rw [Core.measureOver_eq, Core.notice_atl, Core.raise_atl, Core.surveyNote_atl, Core.setMeas_atl]

theorem Core.meas_measureOver : (c.measureOver m st).survey.meas = none := by
  rw [Core.measureOver_eq, Core.notice_survey, Core.raise_survey, (Core.meas_surveyNote _ _ _).1, Core.survey_setMeas]

theorem Core.flag_measureOver : (c.measureOver m st).flag F.SURVEY_INT_STATUS_MEAS_DONE = true := by
  rw [Core.measureOver_eq]
  exact (Core.flag_congr (Core.get_notice_away _ (by decide) (by decide))).trans (Core.flag_raise_same _ _ _ (by decide))

theorem Core.f_measureOver : (c.measureOver m st).f F.SURVEY_STATUS_MEAS = if c.survey.design.isSome then 3 else 0 := by
  rw [Core.measureOver_eq]
  refine (Core.f_congr ((Core.get_notice_away _ (by decide) (by decide)).trans ((Core.get_raise_ne _ (by decide)).trans
    (Core.get_surveyNote _ _ _ (by decide) (by decide))))).trans ?_
  exact Core.f_meas_setMeas c none

end MeasureOver

theorem measureAbortBody_ends {c : Core} {r : Req} {m : Meas} (hrate : c.clk.mult ≠ 2) (hmeas : c.survey.meas = some m) :
    measureAbortBody c r = ans (c.setMeas (some (if m.backAt.isSome then { m with aborted := true } else
      { m with aborted := true, turn := none, cap := [], backAt := some c.nextB }))) .ok := by
  unfold measureAbortBody
  rw [surveyBody_allowed hrate, hmeas]
  dsimp only
  split <;> rfl

/-! ### Results (R304) -/

theorem resultGetBody_values {c : Core} {r : Req} {x : SurveyResult} (hrate : c.clk.mult ≠ 2) (hout : r.n 0 < c.caps.outs)
    (hch : r.n 1 ≤ 15) (hcount : r.n 3 ≤ 1000) (hlast : r.n 2 + r.n 3 ≤ 16384) (hres : c.result? (r.n 0) (r.n 1) = some x) :
    resultGetBody c r = okW c ([x.arrival, w32 x.level, x.flags] ++ ((x.taps.drop (r.n 2)).take (r.n 3)).map w32) := by
  unfold resultGetBody
  rw [surveyBody_allowed hrate, if_neg (by omega), hres]

theorem resultBandsBody_values {c : Core} {r : Req} {x : SurveyResult} (hrate : c.clk.mult ≠ 2) (hout : r.n 0 < c.caps.outs)
    (hch : r.n 1 ≤ 15) (hres : c.result? (r.n 0) (r.n 1) = some x) :
    resultBandsBody c r = okW c ((List.range 120).map fun w =>
      unsigned 16 (x.bands.getD (2 * w) 0) + 2 ^ 16 * unsigned 16 (x.bands.getD (2 * w + 1) 0)) := by
  unfold resultBandsBody
  rw [surveyBody_allowed hrate, if_neg (by omega), hres]

theorem resultStoreBody_starts {c : Core} {r : Req} (hrate : c.clk.mult ≠ 2) (hout : r.n 0 < c.caps.outs) (hch : r.n 1 ≤ 15)
    (hitem : r.n 2 ≠ 0xFFFFFFFF) (hres : (c.result? (r.n 0) (r.n 1)).isSome = true) (hledger : r.n 2 ≠ ledgerItem)
    (hwarn : c.flag F.SYS_STATUS_VIN_WARN = false) (hfree : c.survey.store = none) (hlocked : c.itemLocked (r.n 2) r.tok.session = false)
    (hspace : 66044 ≤ c.libFree) :
    resultStoreBody c r = ans (c.setSurvey { c.survey with store := some (r.tok, 16 * r.n 0 + r.n 1, r.n 2) }) .accepted := by
  obtain ⟨x, hx⟩ := Option.isSome_iff_exists.mp hres
  unfold resultStoreBody
  rw [surveyBody_allowed hrate, if_neg (by omega), if_neg (by rw [hx]; simp [hledger]), if_neg (by rw [hwarn, hfree]; decide),
    if_neg (by rw [hlocked]; decide), if_neg (by omega)]
  rfl

theorem resultStoreDone_stores {c : Core} {k : Tok} {key item : Nat} {x : SurveyResult} (hstore : c.survey.store = some (k, key, item))
    (hwarn : c.flag F.SYS_STATUS_VIN_WARN = false) (hres : smGet (fun _ => none) c.survey.results key = some x) :
    resultStoreDone c = ((c.setSurvey { c.survey with store := none }).fwStore item 3 (measurementItem c.fsHz x)).notice k .ok [] := by
  unfold resultStoreDone
  rw [hstore]
  dsimp only
  rw [if_neg (by rw [hwarn]; decide), hres]
  rfl

/-- What firmware stores is the item with its number. -/
theorem Core.item?_fwStore {c : Core} {num : Nat} (kind : Nat) (d : List Byte) (h : num ≠ ledgerItem) :
    (c.fwStore num kind d).item? num = some { num := num, kind := kind, data := d, crc := crc32c d } := by
  have hflash : (c.fwStore num kind d).flash = (c.storeItem num kind d).flash := by
    unfold Core.fwStore
    dsimp only
    split <;> rfl
  unfold Core.item?
  rw [hflash]
  exact Core.item?_storeItem c kind d h

theorem Core.fwStore_keeps {α : Type} {g : Core → α} (hflash : ∀ (c : Core) (num kind : Nat) (d : List Byte), g (c.storeItem num kind d) = g c)
    (htwin : ∀ (c : Core) (x : TwinPart), g { c with twin := x } = g c) (c : Core) (num kind : Nat) (d : List Byte) :
    g (c.fwStore num kind d) = g c := by
  unfold Core.fwStore
  dsimp only
  split
  · exact (htwin _ _).trans (hflash _ _ _ _)
  · exact hflash _ _ _ _

/-! ### A design (R305) -/

/-- The design that a command asks for, with its points. -/
def designAsked (r : Req) (pts : List (Nat × Int)) : DesignReq :=
  { tok := r.tok, out := r.n 0, mask := r.n 1, item := r.n 2, taps := r.n 3, linear := r.n 4 = 1, smooth := r.n 5, fLo := r.n 6, fHi := r.n 7,
    boost := r.n 8, cut := r.n 9, points := pts }

/-- The design runs. -/
def Core.designing (c : Core) (d : Option DesignReq) : Core :=
  (c.setSurvey { c.survey with design := d }).setMeas c.survey.meas

theorem Core.designing_keeps {α : Type} {g : Core → α} (hset : ∀ (c : Core) (x : Field) (v : Nat), g (c.setF x v) = g c)
    (hsurvey : ∀ (c : Core) (x : SurveyPart), g (c.setSurvey x) = g c) (c : Core) (d : Option DesignReq) : g (c.designing d) = g c :=
  (Core.setMeas_keeps _ _ hset hsurvey).trans (hsurvey _ _)

theorem Core.design_designing (c : Core) (d : Option DesignReq) : (c.designing d).survey.design = d := by
  unfold Core.designing
  rw [Core.survey_setMeas]
  rfl

/-- A result that a design may use: one that is not invalid. -/
def Core.resultValid (c : Core) (o ch : Nat) : Bool := ((c.result? o ch).map fun y => decide (y.flags / 8 % 2 = 0)).getD false

theorem designBody_starts {c : Core} {r : Req} {pts : List (Nat × Int)} (hrate : c.clk.mult ≠ 2) (hcount : 2 ≤ r.n 10 ∧ r.n 10 ≤ 32)
    (hlen : r.bytes.length = 44 + 8 * r.n 10)
    (hpts : ((List.range (r.n 10)).mapM fun i => (sext? 16 (r.w (12 + 2 * i))).map fun l => (r.n (11 + 2 * i), l)) = some pts)
    (htaps : r.n 3 % 128 = 0) (htapRange : 512 ≤ r.n 3 ∧ r.n 3 ≤ 8192) (hkind : r.n 4 ≤ 1 ∧ r.n 5 ≤ 5)
    (hband : 20 ≤ r.n 6 ∧ r.n 6 < r.n 7 ∧ r.n 7 ≤ 20000) (hgain : r.n 8 ≤ 600 ∧ r.n 9 ≤ 2400) (hrise : rising pts = true)
    (hnz : pts.all (fun x => decide (x.1 ≠ 0)) = true) (hout : r.n 0 < c.caps.outs) (hmask : 1 ≤ r.n 1 ∧ r.n 1 ≤ 0xFFFF)
    (hitem : r.n 2 ≠ 0xFFFFFFFF ∧ r.n 2 ≠ ledgerItem) (hvalid : (maskChannels (r.n 1)).all (c.resultValid (r.n 0)) = true)
    (hwarn : c.flag F.SYS_STATUS_VIN_WARN = false) (hfree : c.survey.design = none) (hlocked : c.itemLocked (r.n 2) r.tok.session = false)
    (hspace : 20 + 4 * r.n 3 ≤ c.libFree) : designBody c r = ans (c.designing (some (designAsked r pts))) .accepted := by
  have hany : ¬pts.any (fun p => p.1 = 0) = true := fun h => by
    obtain ⟨x, hx, hzero⟩ := List.any_eq_true.mp h
    exact of_decide_eq_true (List.all_eq_true.mp hnz x hx) (of_decide_eq_true hzero)
  have hbad : ¬(((maskChannels (r.n 1)).map fun ch => c.result? (r.n 0) ch).any fun x => match x with
      | some y => decide (y.flags / 8 % 2 = 1)
      | none => true) = true := by
    rw [List.any_map]
    simp only [List.any_eq_true, not_exists, not_and]
    intro ch hch
    have h := List.all_eq_true.mp hvalid ch hch
    unfold Core.resultValid at h
    simp only [Function.comp]
    cases hx : c.result? (r.n 0) ch with
    | none => simp [hx] at h
    | some y => simp [hx] at h ⊢; omega
  unfold designBody
  rw [surveyBody_allowed hrate]
  dsimp only
  rw [if_neg (by omega), if_neg (by omega), hpts]
  dsimp only
  rw [if_neg (by simp only [hrise, hany, inRange]; simp; omega), if_neg (fun h => h.elim hbad hitem.2), if_neg (by rw [hwarn, hfree]; decide),
    if_neg (by rw [hlocked]; decide), if_neg (by omega)]
  rfl

theorem designDone_stores {c : Core} {d : DesignReq} (hdesign : c.survey.design = some d) (hwarn : c.flag F.SYS_STATUS_VIN_WARN = false) :
    ∃ b l, designDone c = ((((c.designing none).fwStore d.item 1 b).surveyNote 12 d.out).raise F.SURVEY_INT_STATUS_DESIGN_DONE).notice d.tok .ok l := by
  unfold designDone
  rw [hdesign]
  dsimp only
  rw [if_neg (by rw [hwarn]; decide)]
  exact ⟨_, _, rfl⟩

/-! ### Completion -/

/-- Settles O26: each command and event reduces to the one branch that its hypotheses leave; log records and notices leave the measurement
and the library alone. -/
theorem measurementAndDesignComplete : Obligations.MeasurementAndDesignComplete := by
  unfold Obligations.MeasurementAndDesignComplete
  refine ⟨?status, ?start, ?begin, ?turnEnd, ?results, ?complete, ?abort, ?resultGet, ?bands, ?store, ?storeDone, ?design, ?designDone⟩
  case status =>
    intro s p c r hadmits hq
    exact completes_of_body rfl hadmits hq (by decide) (surveyStatusBody_words c r) rfl fun t h => h.told
  case start =>
    intro s p m c r hadmits hq hrate hcount hlen hlevel hm hopt hdistinct hranges houts hfree
    have hasked : measAsked c r m.level = m := by
      unfold measAsked
      rw [boundary_untimed (untimed_of_admits hadmits)]
      exact hm.symm
    rw [← hasked] at hdistinct hranges houts
    refine completes_of_body rfl hadmits hq (by decide) (measureStartBody_waits hrate hcount hlen hlevel hopt hdistinct hranges houts hfree)
      (Core.setMeas_bystanders _ _) fun t h => ⟨h.told, ?_⟩
    rw [State.core_of_core, h.survey, Core.survey_setMeas, hasked]
  case begin =>
    intro s m hq hmeas hidle hb
    refine completes_of_eq rfl hq (measureBegin_begins hmeas hidle hb) (Core.setMeas_atl _ _) ?_
    rw [State.core_of_core, Core.survey_setMeas, Core.f_meas_setMeas]
    exact ⟨rfl, rfl⟩
  case turnEnd =>
    intro s m k at_ hq hmeas hturn hend
    refine completes_of_eq rfl hq (measureTurnEnd_goesOn hmeas hturn hend) (Core.setMeas_atl _ _) ?_
    rw [State.core_of_core, Core.survey_setMeas]
    refine ⟨rfl, rfl, congrArg some (Prod.ext ?_ rfl)⟩
    simp [Meas.turnOver]
  case results =>
    intro s m k full silent cap u hq hmeas hwaiting
    refine completes_of_eq rfl hq (turnResultsDone_stores hmeas hwaiting) (Core.setMeas_atl _ _) ?_
    rw [State.core_of_core]
    refine ⟨by rw [Core.survey_setMeas], fun ch hch hmic => ?_⟩
    unfold Core.result?
    rw [Core.survey_setMeas]
    refine smGet_foldl_smSet _ _ _ _ (fun a _ b _ h => by omega) _ ?_
    simp [Meas.channels, hch, hmic]
  case complete =>
    intro s m k hq hmeas hback hpast hwaiting
    refine completes_of_eq rfl hq (measureComplete_ends hmeas hback hpast hwaiting) (Core.measureOver_atl _ _ _) ?_
    rw [State.core_of_core]
    exact ⟨Core.meas_measureOver _ _ _, Core.flag_measureOver _ _ _, Core.f_measureOver _ _ _⟩
  case abort =>
    intro s p m c r hadmits hq hrate hmeas
    refine completes_of_body rfl hadmits hq (by decide) (measureAbortBody_ends hrate hmeas) (Core.setMeas_bystanders _ _) fun t h => ⟨h.told, ?_⟩
    rw [State.core_of_core, h.survey, Core.survey_setMeas]
  case resultGet =>
    intro s p x c r hadmits hq hrate hout hch hcount hlast hres
    exact completes_of_body rfl hadmits hq (by decide) (resultGetBody_values hrate hout hch hcount hlast hres) rfl fun t h => h.told
  case bands =>
    intro s p x c r hadmits hq hrate hout hch hres
    exact completes_of_body rfl hadmits hq (by decide) (resultBandsBody_values hrate hout hch hres) rfl fun t h => h.told
  case store =>
    intro s p c r hadmits hq hrate hout hch hitem hres hledger hwarn hfree hlocked hspace
    refine completes_of_body rfl hadmits hq (by decide) (resultStoreBody_starts hrate hout hch hitem hres hledger hwarn hfree hlocked hspace)
      rfl fun t h => ⟨h.told, ?_⟩
    rw [State.core_of_core, h.survey]
    rfl
  case storeDone =>
    intro s k key item x hq hstore hwarn hres hitem _
    have hatl := (Core.fwStore_keeps (g := Core.atl) (fun _ _ _ _ => rfl) (fun _ _ => rfl) (s.core.setSurvey { s.core.survey with store := none })
      item 3 (measurementItem s.core.fsHz x))
    have hsurvey := (Core.fwStore_keeps (g := Core.survey) (fun _ _ _ _ => rfl) (fun _ _ => rfl)
      (s.core.setSurvey { s.core.survey with store := none }) item 3 (measurementItem s.core.fsHz x))
    have hkept := Core.item?_fwStore (c := s.core.setSurvey { s.core.survey with store := none }) 3 (measurementItem s.core.fsHz x) hitem
    refine completes_of_eq rfl hq (resultStoreDone_stores hstore hwarn hres) ((Core.notice_atl _ _ _ _).trans hatl) ?_
    rw [State.core_of_core, Core.notice_survey, hsurvey]
    refine ⟨rfl, ?_⟩
    unfold Core.item? at hkept ⊢
    rw [Core.notice_flash, hkept]
    rfl
  case design =>
    intro s p pts c r hadmits hq hrate hcount hlen hpts htaps htapRange hkind hband hgain hrise hnz hout hmask hitem hvalid hwarn hfree
      hlocked hspace
    refine completes_of_body rfl hadmits hq (by decide) (designBody_starts hrate hcount hlen hpts htaps htapRange hkind hband hgain hrise hnz
      hout hmask hitem hvalid hwarn hfree hlocked hspace) (Core.designing_keeps (g := Core.bystanders) (fun _ _ _ => rfl) (fun _ _ => rfl) _ _)
      fun t h => ⟨h.told, ?_⟩
    rw [State.core_of_core, h.survey, Core.design_designing]
    rfl
  case designDone =>
    intro s d hq hdesign hwarn hitem _
    obtain ⟨b, l, hdone⟩ := designDone_stores hdesign hwarn
    have hstored := Core.item?_fwStore (c := s.core.designing none) 1 b hitem
    have hnone : ((s.core.designing none).fwStore d.item 1 b).survey.design = none :=
      (congrArg SurveyPart.design (Core.fwStore_keeps (g := Core.survey) (fun _ _ _ _ => rfl) (fun _ _ => rfl) _ _ _ _)).trans
        (Core.design_designing _ _)
    have hatl : ((s.core.designing none).fwStore d.item 1 b).atl = s.core.atl :=
      (Core.fwStore_keeps (g := Core.atl) (fun _ _ _ _ => rfl) (fun _ _ => rfl) _ _ _ _).trans
        (Core.designing_keeps (g := Core.atl) (fun _ _ _ => rfl) (fun _ _ => rfl) _ _)
    generalize (s.core.designing none).fwStore d.item 1 b = e at hdone hstored hnone hatl
    refine completes_of_eq rfl hq hdone ((Core.notice_atl _ _ _ _).trans ((Core.raise_atl _ _).trans ((Core.surveyNote_atl _ _ _).trans hatl))) ?_
    rw [State.core_of_core, Core.notice_survey, Core.raise_survey, (Core.meas_surveyNote _ _ _).2]
    refine ⟨hnone, ?_, ?_⟩
    · exact (Core.flag_congr (Core.get_notice_away _ (by decide) (by decide))).trans (Core.flag_raise_same _ _ _ (by decide))
    · unfold Core.item? at hstored ⊢
      rw [Core.notice_flash, Core.raise_flash, Core.flash_surveyNote, hstored]
      rfl

end Sys2Proof.Machine
end

section
/-! Survey live: settings, windows, baselines, proposals and the Survey log (R307 to R320), and O27. -/

namespace Sys2Proof.Machine
open Sys2Proof

/-! ### Settings (R313, R315, R316, R320) -/

/-- The settings that LIVE_CONFIG asks for. -/
def liveAsked (r : Req) : LiveCfg :=
  { coh := r.n 0, shelfMax := r.n 1, bandMax := r.n 2, rate := r.n 3, deadband := r.n 4, ttl := r.n 5, glaze := r.n 6, alignStep := r.n 7,
    baseWin := r.n 8 }

theorem inRange_of {lo hi v : Nat} (h : lo ≤ v ∧ v ≤ hi) : inRange lo hi v = true := by
  unfold inRange
  rw [decide_eq_true h.1, decide_eq_true h.2]
  rfl

theorem liveConfigBody_stages {c : Core} {r : Req} (hrate : c.clk.mult ≠ 2) (hcoh : 50 ≤ r.n 0 ∧ r.n 0 ≤ 99)
    (hlimits : r.n 1 ≤ 300 ∧ r.n 2 ≤ 600 ∧ r.n 3 ≤ 100) (hdead : 1 ≤ r.n 4 ∧ r.n 4 ≤ 100) (httl : 10 ≤ r.n 5 ∧ r.n 5 ≤ 600)
    (hglaze : 16 ≤ r.n 6 ∧ r.n 6 ≤ 4096 ∧ r.n 6 % 16 = 0) (hstep : 1 ≤ r.n 7 ∧ r.n 7 ≤ 16) (hwin : 1 ≤ r.n 8 ∧ r.n 8 ≤ 64) :
    liveConfigBody c r = ans (c.setSurvey { c.survey with cfgNext := some (liveAsked r) }) .ok := by
  obtain ⟨hshelf, hband, hmove⟩ := hlimits
  obtain ⟨hglo, hghi, hmod⟩ := hglaze
  unfold liveConfigBody
  rw [surveyBody_allowed hrate]
  dsimp only
  rw [inRange_of hcoh, inRange_of ⟨Nat.zero_le _, hshelf⟩, inRange_of ⟨Nat.zero_le _, hband⟩, inRange_of ⟨Nat.zero_le _, hmove⟩,
    inRange_of hdead, inRange_of httl, inRange_of ⟨hglo, hghi⟩, inRange_of hstep, inRange_of hwin, hmod]
  rfl

theorem Core.liveOut_setLiveOut (c : Core) (o : Nat) (x : LiveOut) : (c.setLiveOut o x).liveOut o = x :=
  smGet_smSet_same (fun _ => ({} : LiveOut)) c.survey.outs o x

theorem Core.timing_setTiming (c : Core) (i : Nat) (x : Timing) : (c.setTiming i x).timing i = x :=
  smGet_smSet_same (fun _ => ({} : Timing)) c.survey.timing i x

/-- What LIVE_OUTPUT_SET makes of an output that is managed with some microphones. -/
def Core.managedAs (c : Core) (o : Nat) (speed : Bool) (mics : List (Nat × Nat)) : LiveOut :=
  { (if (c.liveOut o).managed then c.liveOut o else { a0 := (chainSet c.out.live o).align }) with managed := true, speed := speed, mics := mics }

/-- The microphones of all outputs when one has n of them. -/
def Core.micsWith (c : Core) (o n : Nat) : Nat := (c.managed.filter fun x => decide (x.1 ≠ o)).foldl (fun a x => a + x.2.mics.length) n

section LiveOutputSet
variable {c : Core} {r : Req} {mics : List (Nat × Nat)} (hrate : c.clk.mult ≠ 2)
  (hlen : r.bytes.length = 8 + 4 * (maskChannels (bitsOf (r.w 1) 31 16)).length) (hzero : bitsOf (r.w 1) 15 2 = 0)
  (hout : r.n 0 < c.caps.outs) (hmics : mics = (maskChannels (bitsOf (r.w 1) 31 16)).zipIdx.map fun x => (x.1, r.n (2 + x.2)))
  (hlag : mics.all (fun m => decide (m.2 ≤ 32767)) = true) (hon : bitOf (r.w 1) 0 = true)
  (hfree : (c.liveOut (r.n 0)).managed = true ∨ ∀ q : Nat, q < 4 → (smGet (fun _ => {}) (chainSet c.out.live (r.n 0)).sections (12 + q)).bypass = true)
  (hroom : c.micsWith (r.n 0) mics.length ≤ 2048)
include hrate hlen hzero hout hmics hlag hon hfree hroom

theorem liveOutputSetBody_manages :
    liveOutputSetBody c r = ans (c.setLiveOut (r.n 0) (c.managedAs (r.n 0) (bitOf (r.w 1) 1) mics)) .ok := by
  have hfar : ¬(mics.any fun m => decide (m.2 > 32767)) = true := fun h => by
    obtain ⟨m, hm, hgt⟩ := List.any_eq_true.mp h
    have hle := of_decide_eq_true (List.all_eq_true.mp hlag m hm)
    exact absurd (of_decide_eq_true hgt) (by omega)
  have hsections : ¬((!(c.liveOut (r.n 0)).managed && (List.range 4).any fun q =>
      !(smGet (fun _ => {}) (chainSet c.out.live (r.n 0)).sections (12 + q)).bypass) = true) := by
    rcases hfree with h | h
    · rw [h]
      exact Bool.false_ne_true
    · rw [List.any_eq_false.mpr fun q hq => by rw [h q (List.mem_range.mp hq)]; decide, Bool.and_false]
      decide
  unfold Core.micsWith at hroom
  unfold liveOutputSetBody
  rw [surveyBody_allowed hrate]
  dsimp only
  rw [if_neg (by omega), if_neg (by omega), ← hmics, if_neg (fun h => h.elim (by omega) hfar), if_neg (by rw [hon]; decide),
    if_neg hsections, if_neg (Nat.not_lt.mpr hroom)]
  rfl

end LiveOutputSet

theorem liveTimingSetBody_sets {c : Core} {r : Req} (hrate : c.clk.mult ≠ 2) (hen : r.n 1 ≤ 1)
    (hok : r.n 0 ≤ 15 ∧ r.n 2 < c.caps.outs ∧ r.n 3 ≤ 15 ∧ 40960 ≤ r.n 4 ∧ r.n 5 ≤ 32767) :
    liveTimingSetBody c r = ans (c.setTiming (r.n 0) { en := r.n 1 = 1, out := r.n 2, ch := r.n 3, d := r.n 4, lag := r.n 5 }) .ok := by
  unfold liveTimingSetBody
  rw [surveyBody_allowed hrate, if_neg (by omega), if_neg (by omega)]

theorem livePolicySetBody_stages {c : Core} {r : Req} (hrate : c.clk.mult ≠ 2) (hpolicy : r.n 0 ≤ 2) :
    livePolicySetBody c r = ans (c.setSurvey { c.survey with policyNext := some (r.n 0) }) .ok := by
  unfold livePolicySetBody
  rw [surveyBody_allowed hrate, if_neg (by omega)]
  rfl

/-! ### Baselines (R314) -/

/-- The part of Survey when a baseline begins. -/
def SurveyPart.relearn (x : SurveyPart) (tok : Option Tok) : SurveyPart :=
  { x with
    rebaseTok := tok, base := [], windows := 0
    outs := (x.outs.map fun y => (y.1, { y.2 with ests := [[], [], [], []] })).filter fun y => decide (y.2 ≠ ({} : LiveOut))
    timing := (x.timing.map fun y => (y.1, { y.2 with tau0 := none, tauE := none })).filter fun y => decide (y.2 ≠ ({} : Timing)) }

section Rebase
variable (c : Core) (tok : Option Tok)

theorem Core.rebase_eq : c.rebase tok = ((c.notice? c.survey.rebaseTok .aborted []).setF F.SURVEY_STATUS_BASELINE 1).setSurvey
    ((c.notice? c.survey.rebaseTok .aborted []).survey.relearn tok) := rfl

theorem Core.survey_rebase : (c.rebase tok).survey = c.survey.relearn tok := by
  rw [Core.rebase_eq, Core.notice?_survey]
  rfl

theorem Core.flag_baseline_rebase : (c.rebase tok).flag F.SURVEY_STATUS_BASELINE = true := by
  rw [Core.rebase_eq]
  exact Core.flag_setF_bit _ _ _ _ (by decide)

theorem Core.rebase_bystanders : (c.rebase tok).bystanders = c.bystanders := by
  rw [Core.rebase_eq]
  exact Core.notice?_bystanders _ _ _ _

theorem Core.policy_rebase : (c.rebase tok).policy = c.policy := by
  rw [Core.rebase_eq]
  refine (Core.f_setF_beside _ 1 (show 6 ≤ 6 by decide) (by decide) (show 2 ≤ 3 by decide) (.inr (by decide))).trans ?_
  exact Core.f_congr (Core.get_notice?_away _ (by decide) (by decide))

end Rebase

theorem liveRebaseBody_begins {c : Core} {r : Req} (hrate : c.clk.mult ≠ 2) (hpolicy : c.policy ≠ 0) :
    liveRebaseBody c r = ans (c.rebase (some r.tok)) .accepted := by
  unfold liveRebaseBody
  rw [surveyBody_allowed hrate, if_neg hpolicy]

/-! ### Readings that Survey's records and messages leave alone -/

/-- A reading that is kept by what Survey live does beside counting windows: fields and counters other than those of the windows,
interrupts, the part of Survey, the output chains, the scene and notices. -/
structure WindowBlind {α : Type} (g : Core → α) : Prop where
  setF : ∀ (c : Core) (x : Field) (v : Nat), x.off ∉ [R.SURVEY_WINDOWS, R.SURVEY_LAST_WINDOW_LO, R.SURVEY_LAST_WINDOW_HI] → g (c.setF x v) = g c
  count : ∀ (c : Core) (r : Nat), r ∉ [R.SURVEY_WINDOWS, R.SURVEY_LAST_WINDOW_LO, R.SURVEY_LAST_WINDOW_HI] → g (c.count r) = g c
  countW : ∀ (c : Core) (r n : Nat), r ∉ [R.SURVEY_WINDOWS, R.SURVEY_LAST_WINDOW_LO, R.SURVEY_LAST_WINDOW_HI] → g (c.countW r n) = g c
  raise : ∀ (c : Core) (x : Field), x.off % 0x100000 = 4 → g (c.raise x) = g c
  survey : ∀ (c : Core) (x : SurveyPart), g (c.setSurvey x) = g c
  out : ∀ (c : Core) (x : OutPart), g { c with out := x } = g c
  scene : ∀ (c : Core) (x : ScenePart), g { c with scene := x } = g c
  notice : ∀ (c : Core) (t : Option Tok) (st : Status) (l : List Byte), g (c.notice? t st l) = g c

theorem windowBlind_atl : WindowBlind Core.atl where
  setF _ _ _ _ := rfl
  count c r _ := c.count_atl r
  countW c r n _ := c.countW_atl r n
  raise c x _ := c.raise_atl x
  survey _ _ := rfl
  out _ _ := rfl
  scene _ _ := rfl
  notice c t st l := c.notice?_atl t st l

theorem windowBlind_get {off : Nat} (h : off ∈ [R.SURVEY_WINDOWS, R.SURVEY_LAST_WINDOW_LO, R.SURVEY_LAST_WINDOW_HI]) :
    WindowBlind (Core.get · off) := by
  have haway : ∀ {r : Nat}, r ∉ [R.SURVEY_WINDOWS, R.SURVEY_LAST_WINDOW_LO, R.SURVEY_LAST_WINDOW_HI] → off ≠ r := fun hr e => hr (e ▸ h)
  have hplain : off % 0x100000 ≠ 4 ∧ window off = 21 := by
    simp only [List.mem_cons, List.not_mem_nil, or_false] at h
    rcases h with rfl | rfl | rfl <;> decide
  exact
    { setF := fun c x v hx => c.get_setF_ne v (haway hx)
      count := fun c r hr => c.get_count_ne (haway hr) hplain.1
      countW := fun c r n hr => c.get_countW_ne n (haway hr) hplain.1
      raise := fun c x hx => c.get_raise_ne fun e => hplain.1 (e ▸ hx)
      survey := fun _ _ => rfl
      out := fun _ _ => rfl
      scene := fun _ _ => rfl
      notice := fun c t st l => c.get_notice?_away (by omega) (by omega) }

namespace WindowBlind
variable {α : Type} {g : Core → α} (h : WindowBlind g)
include h

theorem surveyLog (c : Core) (x : SurveyLog) : g (c.surveyLog x) = g c :=
  Core.surveyLog_keeps (fun c => (h.raise _ _ (by decide)).trans (h.count _ _ (by decide))) (fun _ _ => h.survey _ _) c x

theorem logChanges (c : Core) (kind count pairs : Nat) (cs : List Change) : g (c.logChanges kind count pairs cs) = g c :=
  foldl_keeps g _ (fun _ _ => h.surveyLog _ _) cs c

theorem setLiveOut (c : Core) (o : Nat) (x : LiveOut) : g (c.setLiveOut o x) = g c := h.survey _ _

theorem editOut (c : Core) (m : SMap ChainSet) : g (c.editOut m) = g c := (h.out _ _).trans (h.setF _ _ _ (by decide))

theorem setAlts (c : Core) (cs : List Change) : g (c.setAlts cs) = g c := h.survey _ _

theorem rebase (c : Core) (tok : Option Tok) : g (c.rebase tok) = g c := by
  rw [Core.rebase_eq, h.survey, h.setF _ _ _ (by decide), h.notice]

theorem withdraw (c : Core) (kind : Nat) : g (c.withdraw kind) = g c := by
  unfold Core.withdraw
  split
  · rfl
  · split
    · rfl
    · dsimp only
      rw [h.raise _ _ (by decide), h.logChanges]
      refine (h.survey _ _).trans ?_
      rw [h.setF _ _ _ (by decide), h.setAlts, h.setF _ _ _ (by decide), h.editOut]

theorem learn (c : Core) (ps : List (Nat × Nat × List (Nat × Fx))) : g (c.learn ps) = g c := h.survey _ _

theorem baseEnd (c : Core) (n : Nat) : g (c.baseEnd n) = g c := by
  unfold Core.baseEnd
  dsimp only
  rw [h.notice, Core.surveyNote, h.surveyLog]
  exact (h.survey _ _).trans (h.setF _ _ _ (by decide))

theorem setTemp (c : Core) (t : Int) (pairs : Nat) : g (c.setTemp t pairs) = g c := by
  have hlog : ∀ (d : Core) (old : Int), g (d.logTemp old t pairs) = g d := fun d old => by
    unfold Core.logTemp
    split
    · rfl
    · exact (h.surveyLog _ _).trans (h.survey _ _)
  unfold Core.setTemp
  rw [hlog]
  refine (h.scene _ _).trans ?_
  rw [h.raise _ _ (by decide)]
  unfold Core.tempRegs Core.setFs
  rw [h.setF _ _ _ (by decide), h.setF _ _ _ (by decide), h.setF _ _ _ (by decide), h.setF _ _ _ (by decide)]

theorem estimateTemp (c : Core) (n : Nat) : g (c.estimateTemp n) = g c := by
  unfold Core.estimateTemp
  dsimp only
  split
  · rfl
  · split
    · exact (h.raise _ _ (by decide)).trans (h.count _ _ (by decide))
    · exact h.setTemp _ _ _

theorem propose (c : Core) (passed : Nat) : g (c.propose passed) = g c := by
  unfold Core.propose
  dsimp only
  split
  · rfl
  · split
    · rw [h.logChanges, h.raise _ _ (by decide), h.count _ _ (by decide)]
    · exact (h.survey _ _).trans ((h.setAlts _ _).trans (h.editOut _ _))

theorem policyTurn (c : Core) : g c.policyTurn = g c := by
  have hnote : ∀ (e : Core) (p : Nat), g ((e.setF F.SURVEY_STATUS_POLICY p).surveyNote 10 0xFFFF) = g e := fun e p =>
    (h.surveyLog _ _).trans (h.setF _ _ _ (by decide))
  unfold Core.policyTurn
  cases hcfg : c.survey.cfgNext
  all_goals
    dsimp only
    split
    · exact h.survey c _
    · split
      · exact h.survey c _
      · split
        · refine (h.survey _ _).trans ?_
          rw [h.setF _ _ _ (by decide), h.notice, h.withdraw]
          exact (hnote _ _).trans (h.survey c _)
        · split
          · refine (h.survey _ _).trans ?_
            rw [h.rebase]
            exact (hnote _ _).trans (h.survey c _)
          · exact (hnote _ _).trans (h.survey c _)

end WindowBlind

/-- A window that ends is counted and its count shown. -/
def Core.windowShown (c : Core) (n : Nat) : Core := (c.countW R.SURVEY_WINDOWS 1).put64 R.SURVEY_LAST_WINDOW_LO R.SURVEY_LAST_WINDOW_HI n

theorem WindowBlind.analyse {α : Type} {g : Core → α} (h : WindowBlind g) (c : Core) (n : Nat) : g (c.analyse n) = g (c.windowShown n) := by
  unfold Core.analyse
  dsimp only
  change g (if (c.windowShown n).flag F.SURVEY_STATUS_BASELINE = true then _ else _) = _
  split
  · split
    · exact (h.baseEnd _ _).trans (h.learn _ _)
    · exact h.learn _ _
  · rw [h.propose, h.estimateTemp]
    split
    · exact foldl_keeps g _ (fun _ _ => h.setLiveOut _ _ _) _ _
    · rw [h.countW _ _ _ (by decide)]
      exact foldl_keeps g _ (fun _ _ => h.setLiveOut _ _ _) _ _

/-! ### The end of a window (R307, R316, R320) -/

theorem surveyWindowEnd_turns {c : Core} (hend : c.now % c.windowLen = 0) (hnow : c.now ≠ 0) (hrate : c.clk.mult ≠ 2)
    (hon : c.clk.mediaOn = true) :
    surveyWindowEnd c = (if c.policy ≠ 0 ∧ c.windowWhole (c.now - c.windowLen) = true then c.analyse (c.now - c.windowLen) else c).policyTurn := by
  unfold surveyWindowEnd
  exact if_neg (by simp [hend, hnow, hrate, hon])

/-- The settings and the policy that wait have been taken. -/
def Core.configured (c : Core) (x : LiveCfg) : Core := c.setSurvey { c.survey with cfg := x, cfgNext := none, policyNext := none }

/-- Survey live has begun under a policy: a baseline begins. -/
def Core.policyBegun (c : Core) (q : Nat) : Core := ((c.setF F.SURVEY_STATUS_POLICY q).surveyNote 10 0xFFFF).rebase none

theorem Core.policyTurn_begins {c : Core} {q : Nat} {x : LiveCfg} (hpolicy : c.policy = 0) (hnext : c.survey.policyNext = some q)
    (hcfg : c.survey.cfgNext = some x) (hq : q ≠ 0) :
    c.policyTurn = ((c.configured x).policyBegun q).setSurvey
      { ((c.configured x).policyBegun q).survey with from_ := ((c.configured x).policyBegun q).now } := by
  have hwas : (c.setSurvey { c.survey with cfg := x, cfgNext := none }).policy = 0 := hpolicy
  unfold Core.policyTurn
  rw [hcfg]
  dsimp only
  rw [hnext]
  dsimp only
  rw [if_neg (fun e => hq (e.trans hwas)), if_neg hq]
  exact if_pos hwas

section PolicyBegun
variable (c : Core) {q : Nat}

theorem Core.policy_policyBegun (hq : q < 4) : (c.policyBegun q).policy = q := by
  unfold Core.policyBegun
  rw [Core.policy_rebase]
  refine (Core.f_congr (Core.get_surveyNote _ _ _ (by decide) (by decide))).trans ?_
  exact (Core.f_setF_field _ _ (by decide) (by decide)).trans (Nat.mod_eq_of_lt hq)

/-- A log record changes nothing of Survey but the records that wait. -/
theorem Core.surveyNote_survey (kind out : Nat) :
    ∃ l, (c.surveyNote kind out).survey = { c.survey with logHeld := l } := by
  unfold Core.surveyNote Core.surveyLog
  split
  · exact ⟨c.survey.logHeld, by rw [Core.raise_survey, Core.count_survey]⟩
  · exact ⟨_, rfl⟩

theorem Core.survey_policyBegun (q : Nat) : ∃ l, (c.policyBegun q).survey = { c.survey.relearn none with logHeld := l } := by
  obtain ⟨l, hl⟩ := (c.setF F.SURVEY_STATUS_POLICY q).surveyNote_survey 10 0xFFFF
  refine ⟨l, ?_⟩
  unfold Core.policyBegun
  rw [Core.survey_rebase, hl]
  rfl

end PolicyBegun

theorem Core.get_windowShown (c : Core) (n : Nat) :
    (c.windowShown n).get R.SURVEY_WINDOWS = c.get R.SURVEY_WINDOWS + 1 ∧
      (c.windowShown n).get64 R.SURVEY_LAST_WINDOW_LO R.SURVEY_LAST_WINDOW_HI = n % 2 ^ 64 := by
  unfold Core.windowShown Core.put64 Core.get64
  constructor
  · rw [Core.get_put_ne _ _ (by decide), Core.get_put_ne _ _ (by decide)]
    exact Core.get_countW_plain _ 1 (by decide)
  · rw [Core.get_put_ne _ _ (by decide), Core.get_put_same, Core.get_put_same]
    simp only [BitVec.toNat_ofNat]
    omega

/-! ### Proposals (R316, R317) -/

theorem natBytes_cons (n : Nat) (l : List Nat) : natBytes (n :: l) = leBytes 4 n ++ natBytes l := rfl

theorem length_natBytes (l : List Nat) : (natBytes l).length = 4 * l.length := by
  induction l with
  | nil => rfl
  | cons n l ih =>
    rw [natBytes_cons, List.length_append, ih, List.length_cons]
    change 4 + _ = _
    omega

/-- The first word of some bytes. -/
theorem leNat_take_natBytes (n : Nat) (l : List Nat) : leNat ((natBytes (n :: l)).take 4) = n % 2 ^ 32 := by
  have htake : (natBytes (n :: l)).take 4 = leBytes 4 n := rfl
  rw [htake]
  simp only [leBytes, leNat, BitVec.toNat_ofNat]
  omega

/-- The words that PROPOSAL_GET tells of an output: the mask of its changes, and each value as it is and as it is to be. -/
def Core.proposalWords (c : Core) (x : Proposal) (o : Nat) : List Nat :=
  (x.changes.filter (·.out = o)).foldl (fun a y => a + 2 ^ y.q) 0 :: (List.range 5).flatMap fun q =>
    [w32 (if q = 4 then ((chainSet c.out.live o).align : Int) else (c.liveOut o).gains.getD q 0),
      w32 ((((x.changes.filter (·.out = o)).find? (·.q = q)).map (·.new)).getD
        (if q = 4 then ((chainSet c.out.live o).align : Int) else (c.liveOut o).gains.getD q 0))]

theorem Core.length_proposalWords (c : Core) (x : Proposal) (o : Nat) : (c.proposalWords x o).length = 11 := rfl

theorem proposalGetBody_words {c : Core} {r : Req} {x : Proposal} (hrate : c.clk.mult ≠ 2) (hcount : 1 ≤ r.n 1 ∧ r.n 1 ≤ 64)
    (hlast : r.n 0 + r.n 1 ≤ c.caps.outs) (hstaged : c.staged? = some x) :
    proposalGetBody c r = okW c (((List.range (r.n 1)).map (· + r.n 0)).flatMap (c.proposalWords x)) := by
  unfold proposalGetBody
  rw [surveyBody_allowed hrate, if_neg (by rw [inRange_of hcount]; simp; omega), hstaged]
  rfl

/-- The swap of a proposal that PROPOSAL_APPLY schedules. -/
def applySwap (c : Core) (r : Req) : Swap :=
  { mask := 2, b := r.boundary c (c.boundaryAt (c.now + 2 * c.blk)), g := if r.n 0 = 0 then c.survey.cfg.glaze else r.n 0, tok := some r.tok,
    timed := pkAtTime r.p }

theorem proposalApplyBody_swaps {c : Core} {r : Req} {x : Proposal} (hrate : c.clk.mult ≠ 2) (hstaged : c.staged? = some x)
    (hcheck : c.swapCheck 2 (r.n 0) = none) :
    proposalApplyBody c r = ans ((c.addSwap (applySwap c r)).setSurvey { c.survey with
      proposal := some { x with swapB := some (r.boundary c (c.boundaryAt (c.now + 2 * c.blk))) } }) .accepted := by
  have hswap : c.swapRequest r 2 (r.n 0) c.survey.cfg.glaze = ans (c.addSwap (applySwap c r)) .accepted := by
    unfold Core.swapRequest
    rw [hcheck]
    rfl
  unfold proposalApplyBody
  rw [surveyBody_allowed hrate, hstaged]
  dsimp only
  rw [hswap]
  exact if_pos rfl

/-- The live bank of Palette 1 stands in the staged bank again, ready, and no proposal is held. -/
def Core.restaged (c : Core) : Core :=
  let d := (((c.editOut c.out.live).setF (stagedReady 1) 1).setAlts []).setF F.SURVEY_STATUS_PROPOSAL 0
  d.setSurvey { d.survey with proposal := none }

theorem Core.withdraw_restages {c : Core} {x : Proposal} (kind : Nat) (hprop : c.survey.proposal = some x) (hswap : x.swapB = none) :
    c.withdraw kind = (c.restaged.logChanges kind c.now x.passed x.changes).raise F.SURVEY_INT_STATUS_WITHDRAWN := by
  unfold Core.withdraw
  rw [hprop]
  dsimp only
  rw [if_neg (by rw [hswap]; decide)]
  rfl

theorem Core.logChanges_keeps {α : Type} {g : Core → α}
    (hdrop : ∀ c : Core, g ((c.count R.SURVEY_LOG_DROP).raise F.SURVEY_INT_STATUS_LOG_DROP) = g c)
    (hheld : ∀ (c : Core) (l : List SurveyLog), g (c.setSurvey { c.survey with logHeld := l }) = g c) (c : Core) (kind count pairs : Nat)
    (cs : List Change) : g (c.logChanges kind count pairs cs) = g c :=
  foldl_keeps g _ (fun _ _ => Core.surveyLog_keeps hdrop hheld _ _) cs c

section LogChanges
variable (c : Core) (kind count pairs : Nat) (cs : List Change)

theorem Core.get_logChanges {off : Nat} (hdrop : off ≠ R.SURVEY_LOG_DROP) (hint : off % 0x100000 ≠ 4) :
    (c.logChanges kind count pairs cs).get off = c.get off :=
  Core.logChanges_keeps (g := (Core.get · off)) (fun c => (Core.get_raise_ne _ fun e => hint (by
    rw [e]
    rfl)).trans (Core.get_count_ne _ hdrop hint)) (fun _ _ => rfl) _ _ _ _ _

theorem Core.logChanges_bystanders : (c.logChanges kind count pairs cs).bystanders = c.bystanders :=
  Core.logChanges_keeps (g := Core.bystanders)
    (fun c => (Core.raise_bystanders _ _).trans (bystanders_of (Core.countS_sessions c _ _ _) (Core.count_atl _ _))) (fun _ _ => rfl) _ _ _ _ _

theorem Core.logChanges_out : (c.logChanges kind count pairs cs).out = c.out :=
  Core.logChanges_keeps (g := Core.out) (fun c => by rw [Core.raise_out, Core.count_out]) (fun _ _ => rfl) _ _ _ _ _

theorem Core.logChanges_cal : (c.logChanges kind count pairs cs).cal = c.cal :=
  Core.logChanges_keeps (g := Core.cal) (fun c => by rw [Core.raise_cal, Core.count_cal]) (fun _ _ => rfl) _ _ _ _ _

theorem Core.logChanges_proposal : (c.logChanges kind count pairs cs).survey.proposal = c.survey.proposal :=
  Core.logChanges_keeps (g := fun c => c.survey.proposal) (fun c => by rw [Core.raise_survey, Core.count_survey]) (fun _ _ => rfl) _ _ _ _ _

theorem Core.logChanges_cfg : (c.logChanges kind count pairs cs).survey.cfg = c.survey.cfg :=
  Core.logChanges_keeps (g := fun c => c.survey.cfg) (fun c => by rw [Core.raise_survey, Core.count_survey]) (fun _ _ => rfl) _ _ _ _ _

theorem Core.logChanges_times : (c.logChanges kind count pairs cs).time = c.time ∧ (c.logChanges kind count pairs cs).clk = c.clk :=
  ⟨Core.logChanges_keeps (g := Core.time) (fun c => by rw [Core.raise_time, Core.count_time]) (fun _ _ => rfl) _ _ _ _ _,
    Core.logChanges_keeps (g := Core.clk) (fun c => by rw [Core.raise_clk, Core.count_clk]) (fun _ _ => rfl) _ _ _ _ _⟩

end LogChanges

section Withdraw
variable {c : Core} {x : Proposal} (kind : Nat) (hprop : c.survey.proposal = some x) (hswap : x.swapB = none)
include hprop hswap

theorem Core.withdraw_bystanders : (c.withdraw kind).bystanders = c.bystanders := by
  rw [Core.withdraw_restages kind hprop hswap, Core.raise_bystanders, Core.logChanges_bystanders]
  rfl

/-- A withdrawn proposal is held no more, and the live bank stands in the staged bank. -/
theorem Core.withdraw_parts : (c.withdraw kind).survey.proposal = none ∧ (c.withdraw kind).out.staged = c.out.live := by
  rw [Core.withdraw_restages kind hprop hswap, Core.raise_survey, Core.logChanges_proposal, Core.raise_out, Core.logChanges_out]
  exact ⟨rfl, rfl⟩

theorem Core.withdraw_flags : (c.withdraw kind).flag F.SURVEY_STATUS_PROPOSAL = false ∧
    (c.withdraw kind).flag F.SURVEY_INT_STATUS_WITHDRAWN = true := by
  rw [Core.withdraw_restages kind hprop hswap]
  refine ⟨?_, Core.flag_raise_same _ _ _ (by decide)⟩
  refine (Core.flag_congr ((Core.get_raise_ne _ (by decide)).trans (Core.get_logChanges _ _ _ _ _ (by decide) (by decide)))).trans ?_
  exact Core.flag_setF_bit _ _ _ 0 (by decide)

end Withdraw

theorem Core.staged?_some {c : Core} {x : Proposal} (h : c.staged? = some x) : c.survey.proposal = some x :=
  (Option.filter_eq_some_iff.mp h).1

theorem proposalDiscardBody_withdraws {c : Core} {r : Req} {x : Proposal} (hrate : c.clk.mult ≠ 2) (hstaged : c.staged? = some x)
    (hswap : x.swapB = none) : proposalDiscardBody c r = ans (c.withdraw 3) .ok := by
  unfold proposalDiscardBody
  rw [surveyBody_allowed hrate, hstaged]
  dsimp only
  rw [if_neg (by rw [hswap]; decide)]

theorem proposalExpire_withdraws {c : Core} {x : Proposal} {n : Nat} (hprop : c.survey.proposal = some x) (hstaged : x.staged = some n)
    (hpast : n + c.survey.cfg.ttl * c.fsHz ≤ c.now) : proposalExpire c = c.withdraw 4 := by
  unfold proposalExpire
  rw [hprop]
  dsimp only
  rw [hstaged]
  exact if_pos hpast

/-- The registers after the commit of a proposal. -/
def Core.proposalShown (c : Core) (cores : Nat) : Core :=
  (((c.setF (stagedReady 1) 1).setF F.OUTPROC_STATUS_CORES cores).countW R.SURVEY_PROPOSALS 1).setF F.SURVEY_STATUS_PROPOSAL 1

/-- A proposal is committed: its registers and its log records. -/
def Core.proposalReady (c : Core) (x : Proposal) : Core :=
  (c.proposalShown (c.outAdmit c.out.staged).2.1).logChanges 1 (c.proposalShown (c.outAdmit c.out.staged).2.1).now x.passed x.changes

/-- The swap that a proposal schedules under APPLY. -/
def Core.proposalSwap (c : Core) : Swap :=
  { mask := 2, b := c.boundaryAt (c.now + 2 * c.blk), g := c.survey.cfg.glaze, tok := none, timed := false }

section CommitDone
variable {c : Core} {x : Proposal}

theorem proposalCommitDone_ready (hprop : c.survey.proposal = some x) (hnew : x.staged = none) (hadmit : (c.outAdmit c.out.staged).1 = .ok) :
    proposalCommitDone c = if (c.proposalReady x).policy = 2 then
      ((c.proposalReady x).addSwap (c.proposalReady x).proposalSwap).setSurvey { (c.proposalReady x).survey with
        proposal := some { x with staged := some (c.proposalReady x).now, swapB := some (c.proposalReady x).proposalSwap.b } }
    else ((c.proposalReady x).raise F.SURVEY_INT_STATUS_PROPOSAL).setSurvey { (c.proposalReady x).survey with
        proposal := some { x with staged := some (c.proposalReady x).now } } := by
  unfold proposalCommitDone
  rw [hprop]
  dsimp only
  rw [if_neg (by rw [hnew]; decide), if_neg (fun h => h hadmit)]
  rfl

variable (c x)

theorem Core.proposalReady_atl : (c.proposalReady x).atl = c.atl :=
  (congrArg Prod.snd (Core.logChanges_bystanders _ _ _ _ _) :).trans (Core.countW_atl _ _ _)

theorem Core.proposalReady_cal : (c.proposalReady x).cal = c.cal :=
  (Core.logChanges_cal _ _ _ _ _).trans ((Core.setF_cal _ _ _).trans (Core.countW_cal _ _ _))

theorem Core.now_proposalReady : (c.proposalReady x).now = c.now := by
  obtain ⟨htime, hclk⟩ := Core.logChanges_times (c.proposalShown (c.outAdmit c.out.staged).2.1) 1
    (c.proposalShown (c.outAdmit c.out.staged).2.1).now x.passed x.changes
  have htime' : (c.proposalReady x).time = c.time := htime.trans ((Core.setF_time _ _ _).trans (Core.countW_time _ _ _))
  have hclk' : (c.proposalReady x).clk = c.clk := hclk.trans ((Core.setF_clk _ _ _).trans (Core.countW_clk _ _ _))
  unfold Core.now Core.countOfPtp Core.fsHz
  rw [htime', hclk']

theorem Core.proposalSwap_proposalReady : (c.proposalReady x).proposalSwap = c.proposalSwap := by
  have hclk : (c.proposalReady x).clk = c.clk :=
    (Core.logChanges_times _ _ _ _ _).2.trans ((Core.setF_clk _ _ _).trans (Core.countW_clk _ _ _))
  have hcfg : (c.proposalReady x).survey.cfg = c.survey.cfg :=
    (Core.logChanges_cfg _ _ _ _ _).trans (congrArg SurveyPart.cfg ((Core.setF_survey _ _ _).trans (Core.countW_survey _ _ _)))
  unfold Core.proposalSwap Core.boundaryAt Core.blk
  rw [Core.now_proposalReady, hclk, hcfg]

/-- A register other than the counter of dropped records and the interrupts is kept by the log records. -/
theorem Core.get_proposalReady {off : Nat} (hdrop : off ≠ R.SURVEY_LOG_DROP) (hint : off % 0x100000 ≠ 4) :
    (c.proposalReady x).get off = (c.proposalShown (c.outAdmit c.out.staged).2.1).get off := Core.get_logChanges _ _ _ _ _ hdrop hint

theorem Core.policy_proposalReady : (c.proposalReady x).policy = c.policy := by
  refine (Core.f_congr (Core.get_proposalReady _ _ (by decide) (by decide))).trans ?_
  refine (Core.f_setF_beside _ 1 (show 4 ≤ 4 by decide) (by decide) (show 2 ≤ 3 by decide) (.inr (by decide))).trans ?_
  refine Core.f_congr ((Core.get_countW_ne _ 1 (by decide) (by decide)).trans ?_)
  exact (Core.get_setF_ne _ _ (by decide)).trans (Core.get_setF_ne _ _ (by decide))

theorem Core.proposals_proposalReady : (c.proposalReady x).get R.SURVEY_PROPOSALS = c.get R.SURVEY_PROPOSALS + 1 := by
  rw [Core.get_proposalReady _ _ (by decide) (by decide)]
  refine (Core.get_setF_ne _ _ (by decide)).trans ((Core.get_countW_plain _ 1 (by decide)).trans ?_)
  exact congrArg (· + 1) ((Core.get_setF_ne _ _ (by decide)).trans (Core.get_setF_ne _ _ (by decide)))

theorem Core.flags_proposalReady : (c.proposalReady x).flag F.SURVEY_STATUS_PROPOSAL = true ∧ (c.proposalReady x).flag (stagedReady 1) = true := by
  constructor
  · exact (Core.flag_congr (Core.get_proposalReady _ _ (by decide) (by decide))).trans (Core.flag_setF_bit _ _ _ 1 (by decide))
  · refine (Core.flag_congr (Core.get_proposalReady _ _ (by decide) (by decide))).trans ?_
    refine (Core.flag_congr ((Core.get_setF_ne _ _ (by decide)).trans ((Core.get_countW_ne _ 1 (by decide) (by decide)).trans
      (Core.get_setF_ne _ _ (by decide))))).trans ?_
    exact Core.flag_setF_bit _ _ _ 1 (by decide)

end CommitDone

/-! ### The log (R318) -/

theorem surveyLogFlush_writes {c : Core} (hwarn : c.flag F.SYS_STATUS_VIN_WARN = false) :
    surveyLogFlush c = c.setSurvey { c.survey with
      log := c.survey.logHeld.zipIdx.foldl (fun (m : SMap (Option SurveyLog)) x =>
        smSet (fun _ => none) m ((c.survey.logNext + x.2) % surveyRing) (some x.1)) c.survey.log
      logHeld := [], logNext := c.survey.logNext + c.survey.logHeld.length } := by
  unfold surveyLogFlush
  rw [if_neg (by rw [hwarn]; decide)]
  rfl

/-- Records that fit into the ring stand there each at its own index. -/
theorem smGet_logged (m : SMap (Option SurveyLog)) (l : List SurveyLog) (n : Nat) (hfit : l.length ≤ surveyRing) {i : Nat} (hi : i < l.length) :
    smGet (fun _ => none) (l.zipIdx.foldl (fun (m : SMap (Option SurveyLog)) x => smSet (fun _ => none) m ((n + x.2) % surveyRing) (some x.1)) m)
      ((n + i) % surveyRing) = l[i]? := by
  have hmem : (l[i], i) ∈ l.zipIdx := List.mk_mem_zipIdx_iff_getElem?.mpr (List.getElem?_eq_getElem hi)
  rw [List.getElem?_eq_getElem hi]
  refine smGet_foldl_smSet (fun _ => none) (fun x : SurveyLog × Nat => (n + x.2) % surveyRing) (fun x => some x.1) _ ?_ m hmem
  rintro ⟨a, j⟩ ha ⟨b, k⟩ hb (h : (n + j) % surveyRing = (n + k) % surveyRing)
  have ha' := List.mk_mem_zipIdx_iff_getElem?.mp ha
  have hb' := List.mk_mem_zipIdx_iff_getElem?.mp hb
  have hj : j < l.length := (List.getElem?_eq_some_iff.mp ha').1
  have hk : k < l.length := (List.getElem?_eq_some_iff.mp hb').1
  obtain rfl : j = k := by
    unfold surveyRing at h hfit
    omega
  rw [ha'] at hb'
  rw [Option.some.inj hb']

theorem surveyLogReadBody_one {c : Core} {r : Req} {x : SurveyLog} (hrate : c.clk.mult ≠ 2) (hcount : r.n 2 = 1)
    (hold : c.logOldest ≤ r.n 0 + 2 ^ 32 * r.n 1) (hnext : r.n 0 + 2 ^ 32 * r.n 1 < c.survey.logNext)
    (hx : smGet (fun _ => none) c.survey.log ((r.n 0 + 2 ^ 32 * r.n 1) % surveyRing) = some x) :
    surveyLogReadBody c r = (c, .ok, surveyLogBytes (r.n 0 + 2 ^ 32 * r.n 1) x) := by
  have hone : ((List.range (r.n 2)).map (· + (r.n 0 + 2 ^ 32 * r.n 1))).filter
      (fun i => decide (c.logOldest ≤ i ∧ i < c.survey.logNext)) = [r.n 0 + 2 ^ 32 * r.n 1] := by
    rw [hcount, show List.range 1 = [0] from rfl, List.map_cons, List.map_nil, Nat.zero_add,
      List.filter_eq_self.mpr fun i hi => decide_eq_true (List.mem_singleton.mp hi ▸ ⟨hold, hnext⟩)]
  unfold surveyLogReadBody
  rw [surveyBody_allowed hrate]
  dsimp only
  rw [if_neg (by rw [hcount]; decide), hone, List.flatMap_cons, hx]
  exact congrArg (fun l => (c, Status.ok, l)) (List.append_nil _)

theorem surveyLogInfoBody_words {c : Core} (r : Req) (hrate : c.clk.mult ≠ 2) :
    surveyLogInfoBody c r = okW c [c.logOldest % 2 ^ 32, c.logOldest / 2 ^ 32, c.survey.logNext % 2 ^ 32, c.survey.logNext / 2 ^ 32,
      (c.get R.SURVEY_LOG_DROP).toNat] := by
  unfold surveyLogInfoBody
  rw [surveyBody_allowed hrate]

/-! ### Completion -/

/-- Settles O27: each command and event reduces to the one branch that its hypotheses leave; what Survey logs on the way keeps the
registers and the parts that the statement names. -/
theorem surveyLiveCompletes : Obligations.SurveyLiveCompletes := by
  unfold Obligations.SurveyLiveCompletes
  refine ⟨?config, ?managed, ?fresh, ?timing, ?policy, ?rebase, ?get, ?apply, ?discard, ?turn, ?whole, ?ready, ?applied, ?expire, ?flush,
    ?read, ?info⟩
  case config =>
    intro s p c r hadmits hq hrate hcoh hlimits hdead httl hglaze hstep hwin
    refine completes_of_body rfl hadmits hq (by decide) (liveConfigBody_stages hrate hcoh hlimits hdead httl hglaze hstep hwin) rfl
      fun t h => ⟨h.told, ?_⟩
    rw [State.core_of_core, h.survey]
    exact ⟨rfl, rfl⟩
  case managed =>
    intro s p mics c r hadmits hq hrate hlen hzero hout hmics hlag hon hman hroom
    refine completes_of_body rfl hadmits hq (by decide)
      (liveOutputSetBody_manages hrate hlen hzero hout hmics hlag hon (.inl hman) hroom) rfl fun t h => ⟨h.told, ?_⟩
    have hset := Core.liveOut_setLiveOut c (r.n 0) (c.managedAs (r.n 0) (bitOf (r.w 1) 1) mics)
    unfold Core.liveOut at hset ⊢
    rw [State.core_of_core, h.survey, hset, Core.managedAs, if_pos hman]
    rfl
  case fresh =>
    intro s p c r hadmits hq hrate hlen hzero hout hnone hon hman hfree hroom
    refine completes_of_body rfl hadmits hq (by decide)
      (liveOutputSetBody_manages (mics := []) hrate hlen hzero hout (by rw [hnone]; rfl) rfl hon (.inr hfree) hroom) rfl fun t h => ⟨h.told, ?_⟩
    have hset := Core.liveOut_setLiveOut c (r.n 0) (c.managedAs (r.n 0) (bitOf (r.w 1) 1) [])
    unfold Core.liveOut at hset ⊢
    rw [State.core_of_core, h.survey, hset, Core.managedAs, if_neg (by rw [hman]; decide)]
  case timing =>
    intro s p c r hadmits hq hrate hen hok
    refine completes_of_body rfl hadmits hq (by decide) (liveTimingSetBody_sets hrate hen hok) rfl fun t h => ⟨h.told, ?_⟩
    have hset := Core.timing_setTiming c (r.n 0) { en := r.n 1 = 1, out := r.n 2, ch := r.n 3, d := r.n 4, lag := r.n 5 }
    unfold Core.timing at hset ⊢
    rw [State.core_of_core, h.survey, hset]
  case policy =>
    intro s p c r hadmits hq hrate hpolicy
    refine completes_of_body rfl hadmits hq (by decide) (livePolicySetBody_stages hrate hpolicy) rfl fun t h => ⟨h.told, ?_, ?_⟩
    · rw [State.core_of_core, h.survey]
      rfl
    · exact h.f (by decide) (by decide)
  case rebase =>
    intro s p c r hadmits hq hrate hpolicy
    refine completes_of_body rfl hadmits hq (by decide) (liveRebaseBody_begins hrate hpolicy) (Core.rebase_bystanders _ _) fun t h => ⟨h.told, ?_⟩
    rw [State.core_of_core, h.survey, Core.survey_rebase]
    exact ⟨rfl, rfl, rfl, (h.flag (by decide) (by decide)).trans (Core.flag_baseline_rebase _ _)⟩
  case get =>
    intro s p x c r hadmits hq hrate hcount hlast hstaged
    refine completes_of_body rfl hadmits hq (by decide) (proposalGetBody_words hrate hcount hlast hstaged) rfl fun t h => ?_
    rw [State.core_of_core, h.told]
    obtain ⟨k, hk⟩ : ∃ k, r.n 1 = k + 1 := ⟨r.n 1 - 1, by omega⟩
    refine ⟨rfl, congrArg some ?_, congrArg some ?_⟩
    · change (natBytes _).length = _
      rw [length_natBytes, List.length_flatMap, List.map_congr_left fun o _ => c.length_proposalWords x o]
      simp only [List.map_const', List.sum_replicate, List.length_map, List.length_range, smul_eq_mul]
      change 4 * (r.n 1 * 11) = 44 * r.n 1
      omega
    · change leNat ((natBytes _).take 4) = _
      rw [hk, List.range_succ_eq_map, List.map_cons, Nat.zero_add, List.flatMap_cons]
      exact leNat_take_natBytes _ _
  case apply =>
    intro s p x c r hadmits hq hrate hstaged hcheck
    have huntimed := untimed_of_admits hadmits
    refine completes_of_body rfl hadmits hq (by decide) (proposalApplyBody_swaps hrate hstaged hcheck) rfl fun t h => ⟨h.told, ?_, ?_⟩
    · rw [State.core_of_core, h.survey, boundary_untimed huntimed]
      rfl
    · rw [State.core_of_core, h.cal]
      change c.cal.swaps ++ [applySwap c r] = _
      unfold applySwap
      rw [boundary_untimed huntimed, show pkAtTime r.p = false from huntimed]
  case discard =>
    intro s p x c r hadmits hq hrate hstaged hswap
    have hprop := Core.staged?_some hstaged
    obtain ⟨hheld, hbank⟩ := Core.withdraw_parts 3 hprop hswap
    obtain ⟨hstatus, hint⟩ := Core.withdraw_flags 3 hprop hswap
    refine completes_of_body rfl hadmits hq (by decide) (proposalDiscardBody_withdraws hrate hstaged hswap)
      (Core.withdraw_bystanders 3 hprop hswap) fun t h => ⟨h.told, ?_, ?_, ?_, ?_⟩
    · rw [State.core_of_core, h.survey, hheld]
    · rw [State.core_of_core, h.out, hbank]
    · exact (h.flag (by decide) (by decide)).trans hstatus
    · exact (h.flag (by decide) (by decide)).trans hint
  case turn =>
    intro s q x hq hend hnow hrate hon hpolicy hnext hcfg hrange
    have hturn : surveyWindowEnd s.core = s.core.policyTurn :=
      (surveyWindowEnd_turns hend hnow hrate hon).trans (congrArg Core.policyTurn (if_neg fun h => h.1 hpolicy))
    have hbegun := Core.policyTurn_begins hpolicy hnext hcfg (by omega)
    obtain ⟨l, hsurvey⟩ := (s.core.configured x).survey_policyBegun q
    refine completes_of_eq rfl hq (hturn.trans hbegun) ?_ ?_
    · rw [← hbegun]
      exact windowBlind_atl.policyTurn _
    · have hflag : ((s.core.configured x).policyBegun q).flag F.SURVEY_STATUS_BASELINE = true := Core.flag_baseline_rebase _ _
      have hpol := (s.core.configured x).policy_policyBegun (q := q) (by omega)
      generalize (s.core.configured x).policyBegun q = d at hsurvey hflag hpol
      rw [State.core_of_core, hsurvey]
      exact ⟨hpol, rfl, rfl, rfl, hflag⟩
  case whole =>
    intro s hq hend hnow hrate hon hpolicy hwhole
    have hturn : surveyWindowEnd s.core = (s.core.analyse (s.core.now - s.core.windowLen)).policyTurn :=
      (surveyWindowEnd_turns hend hnow hrate hon).trans (congrArg Core.policyTurn (if_pos ⟨hpolicy, hwhole⟩))
    have hkept : ∀ {off : Nat}, off ∈ [R.SURVEY_WINDOWS, R.SURVEY_LAST_WINDOW_LO, R.SURVEY_LAST_WINDOW_HI] →
        ((s.core.analyse (s.core.now - s.core.windowLen)).policyTurn).get off = (s.core.windowShown (s.core.now - s.core.windowLen)).get off :=
      fun h => ((windowBlind_get h).policyTurn _).trans ((windowBlind_get h).analyse _ _)
    obtain ⟨hwindows, hlast⟩ := s.core.get_windowShown (s.core.now - s.core.windowLen)
    have hatl : ((s.core.analyse (s.core.now - s.core.windowLen)).policyTurn).atl = s.core.atl :=
      (windowBlind_atl.policyTurn _).trans ((windowBlind_atl.analyse _ _).trans (Core.countW_atl _ _ _))
    refine completes_of_eq rfl hq hturn hatl ⟨(hkept (by decide)).trans hwindows, ?_⟩
    rw [State.core_of_core, Core.get64, hkept (by decide), hkept (by decide)]
    exact hlast
  case ready =>
    intro s x hq hprop hnew hadmit hpolicy
    have hready := (proposalCommitDone_ready hprop hnew hadmit).trans (if_neg (by rwa [Core.policy_proposalReady]))
    have hatl := s.core.proposalReady_atl x
    have hnow := s.core.now_proposalReady x
    have hcount := s.core.proposals_proposalReady x
    obtain ⟨hstatus, hbank⟩ := s.core.flags_proposalReady x
    generalize s.core.proposalReady x = d at hready hatl hnow hcount hstatus hbank
    refine completes_of_eq rfl hq hready ((Core.raise_atl _ _).trans hatl) ?_
    rw [State.core_of_core, hnow]
    refine ⟨rfl, Core.flag_raise_same d _ _ (by decide), ?_, ?_, ?_⟩
    · exact (Core.flag_raise_off d (by decide)).trans hstatus
    · exact (Core.flag_raise_off d (by decide)).trans hbank
    · exact (Core.get_raise_ne d (by decide)).trans hcount
  case applied =>
    intro s x hq hprop hnew hadmit hpolicy
    have hready := (proposalCommitDone_ready hprop hnew hadmit).trans (if_pos (by rwa [Core.policy_proposalReady]))
    have hatl := s.core.proposalReady_atl x
    have hcal := s.core.proposalReady_cal x
    have hnow := s.core.now_proposalReady x
    have hswap := s.core.proposalSwap_proposalReady x
    generalize s.core.proposalReady x = d at hready hatl hcal hnow hswap
    refine completes_of_eq rfl hq hready hatl ?_
    rw [State.core_of_core, hnow, hswap]
    refine ⟨rfl, ?_⟩
    change d.cal.swaps ++ [_] = _
    rw [hcal]
    rfl
  case expire =>
    intro s x n hq hprop hstaged hpast hswap
    obtain ⟨hheld, hbank⟩ := Core.withdraw_parts 4 hprop hswap
    obtain ⟨hstatus, hint⟩ := Core.withdraw_flags 4 hprop hswap
    exact completes_of_eq rfl hq (proposalExpire_withdraws hprop hstaged hpast) (congrArg Prod.snd (Core.withdraw_bystanders 4 hprop hswap) :)
      ⟨hheld, hbank, hstatus, hint⟩
  case flush =>
    intro s hq hwarn
    refine completes_of_eq rfl hq (surveyLogFlush_writes hwarn) rfl ⟨rfl, rfl, fun hfit i hi => ?_⟩
    exact smGet_logged _ _ _ hfit hi
  case read =>
    intro s p x c r hadmits hq hrate hcount hold hnext hx
    exact completes_of_body rfl hadmits hq (by decide) (surveyLogReadBody_one hrate hcount hold hnext hx) rfl fun t h => h.told
  case info =>
    intro s p c r hadmits hq hrate
    exact completes_of_body rfl hadmits hq (by decide) (surveyLogInfoBody_words _ hrate) rfl fun t h => h.told

end Sys2Proof.Machine
end

section
/-! What the Brush cores, Atelier, the memory controller and the decision trace leave alone: readings aside from their registers and
parts are kept when cores stop, when power domains go off, when the Plinth controller acts, and when trace records are written. -/

namespace Sys2Proof.Machine
open Sys2Proof

/-! ### Readings aside -/

/-- A register of Atelier or of a block above it in the map, or one that the Plinth controller writes. -/
abbrev apartOff (off : Nat) : Prop := 0x400000 ≤ off ∨ off = R.SYS_PD_STATE ∨ off = R.SYS_PD_WAKING

/-- A reading that Atelier leaves alone: registers apart, counters and interrupts of their blocks, Atelier's part and the health part. -/
structure Unscheduled {α : Type} (g : Core → α) : Prop where
  put : ∀ (c : Core) {off : Nat} (w : Word), 0x400000 ≤ off → g (c.put off w) = g c
  raise : ∀ (c : Core) (x : Field), 0x400000 ≤ x.off → g (c.raise x) = g c
  count : ∀ (c : Core) (r n : Nat), 0x400000 ≤ r → g (c.countN r n) = g c
  countW : ∀ (c : Core) (r n : Nat), 0x400000 ≤ r → g (c.countW r n) = g c
  atl : ∀ (c : Core) (x : AtelierPart), g { c with atl := x } = g c
  health : ∀ (c : Core) (x : HealthPart), g { c with health := x } = g c

/-- A reading that the parts of the cores and of the memory leave alone too. -/
structure Supplied {α : Type} (g : Core → α) : Prop extends Unscheduled g where
  brush : ∀ (c : Core) (x : BrushPart), g { c with brush := x } = g c
  memc : ∀ (c : Core) (x : MemcPart), g { c with memc := x } = g c
  crc : ∀ (c : Core) (x : CrcPart), g { c with crc := x } = g c
  freeIx : ∀ (c : Core) (n : Nat), g { c with freeIx := n } = g c

/-- A reading that power domains and the Plinth controller leave alone too: what the registers that are not apart say. -/
structure Aside {α : Type} (g : Core → α) : Prop extends Supplied g where
  regs : ∀ (c : Core) (m : SMap Word), (∀ off, ¬apartOff off → smGet regReset m off = c.get off) → g { c with regs := m } = g c

/-- A register below those of Atelier. -/
theorem supplied_get {off : Nat} (h : off < 0x400000) : Supplied (Core.get · off) := by
  have hwindow : ∀ {r : Nat}, 0x400000 ≤ r → window off ≠ window r := fun hr => by
    unfold window
    omega
  exact
    { put := fun c r w hr => c.get_put_ne w (by omega)
      raise := fun c x hx => c.get_raise_ne (by omega)
      count := fun c r n hr => c.get_countN_away n (hwindow hr)
      countW := fun c r n hr => c.get_countW_away n (hwindow hr)
      atl := fun _ _ => rfl
      brush := fun _ _ => rfl
      memc := fun _ _ => rfl
      crc := fun _ _ => rfl
      health := fun _ _ => rfl
      freeIx := fun _ _ => rfl }

/-- A register that is not apart. -/
theorem aside_get {off : Nat} (h : ¬apartOff off) : Aside (Core.get · off) where
  toSupplied := supplied_get (by unfold apartOff at h; omega)
  regs _ _ hm := hm off h

/-- Everything but registers, messages, the host interface and the parts of the cores, of Atelier and of the memory. -/
def Core.afar (c : Core) : Core := { c.beyond with brush := {} }

theorem afar_of_rest {c d : Core} (h : c.rest = d.rest) : c.afar = d.afar :=
  (congrArg (fun c : Core => { c with brush := {} }) (beyond_of_rest h) :)

theorem aside_afar : Aside Core.afar where
  put _ _ _ _ := rfl
  regs _ _ _ := rfl
  raise c x _ := afar_of_rest (c.raise_rest x)
  count c r n _ := afar_of_rest (c.countN_rest r n)
  countW c r n _ := afar_of_rest (c.countW_rest r n)
  atl _ _ := rfl
  brush _ _ := rfl
  memc _ _ := rfl
  crc _ _ := rfl
  health _ _ := rfl
  freeIx _ _ := rfl

/-- Easel's sessions. -/
theorem aside_sessions : Aside fun c => c.host.sessions where
  put _ _ _ _ := rfl
  regs _ _ _ := rfl
  raise c x _ := c.raise_sessions x
  count c _ n _ := c.countS_sessions _ _ n
  countW c r n _ := c.countW_sessions r n
  atl _ _ := rfl
  brush _ _ := rfl
  memc _ _ := rfl
  crc _ _ := rfl
  health _ _ := rfl
  freeIx _ _ := rfl

/-! ### What keeps them -/

theorem smGet_filter {α : Type} (d : Nat → α) (p : Nat × α → Bool) {k : Nat} (m : SMap α) (h : ∀ x ∈ m, x.1 = k → p x = true) :
    smGet d (m.filter p) k = smGet d m k := by
  induction m with
  | nil => rfl
  | cons x t ih =>
    obtain ⟨j, v⟩ := x
    have ht := ih fun x hx => h x (List.mem_cons_of_mem _ hx)
    by_cases hp : p (j, v) = true
    · rw [List.filter_cons_of_pos hp]
      simp only [smGet, ht]
    · have hjk : j ≠ k := fun e => hp (h (j, v) List.mem_cons_self e)
      rw [List.filter_cons_of_neg hp, ht]
      simp only [smGet, if_neg hjk]

/-- A fold that sets other keys leaves a key alone. -/
theorem smGet_foldl_smSet_ne {α : Type} [DecidableEq α] (d : Nat → α) (l m : SMap α) {k : Nat} (h : ∀ x ∈ l, x.1 ≠ k) :
    smGet d (l.foldl (fun m x => smSet d m x.1 x.2) m) k = smGet d m k := by
  induction l generalizing m with
  | nil => rfl
  | cons x t ih =>
    rw [List.foldl_cons, ih _ fun y hy => h y (List.mem_cons_of_mem _ hy)]
    exact smGet_smSet_ne d m x.2 (h x List.mem_cons_self).symm

namespace Unscheduled
variable {α : Type} {g : Core → α} (h : Unscheduled g)
include h

theorem setF (c : Core) {x : Field} (v : Nat) (hoff : 0x400000 ≤ x.off) : g (c.setF x v) = g c := h.put c _ hoff

theorem setB (c : Core) {x : Field} (b : Bool) (hoff : 0x400000 ≤ x.off) : g (c.setB x b) = g c := h.setF c _ hoff

theorem count1 (c : Core) {r : Nat} (hr : 0x400000 ≤ r) : g (c.count r) = g c := h.count c r 1 hr

theorem raiseIf (c : Core) (b : Bool) {x : Field} (hoff : 0x400000 ≤ x.off) : g (c.raiseIf b x) = g c := by
  unfold Core.raiseIf
  split
  · exact h.raise c x hoff
  · rfl

theorem seenAt (c : Core) (k : Nat) : g (c.seenAt k) = g c := h.health c _

/-! ### Atelier -/

theorem setSlot (c : Core) (s : Nat) (x : AtSlot) : g (c.setSlot s x) = g c :=
  (h.put _ _ (by unfold R.ATELIER_SLOT; omega)).trans (h.atl c _)

theorem atTrace (c : Core) (event reason s : Nat) (x : AtSlot) (core port : Nat) : g (c.atTrace event reason s x core port) = g c :=
  h.atl c _

theorem atShow (c : Core) : g c.atShow = g c := by
  unfold Core.atShow
  dsimp only
  rw [h.setB _ _ (by decide), h.setF _ _ (by decide), h.setF _ _ (by decide), h.setF _ _ (by decide)]

theorem makeReady (c : Core) (s reason : Nat) : g (c.makeReady s reason) = g c := by
  have hseq : ∀ x : AtSlot, g (if x.ordered = true ∧ x.release = 2 then c.nextSeq x.flow else (x.seq, c)).2 = g c := fun x => by
    split
    · exact h.setF c _ (by simp only [R.ATELIER_FLOW]; omega)
    · rfl
  unfold Core.makeReady
  dsimp only
  rw [h.atTrace]
  exact (h.atl _ _).trans ((h.setSlot _ _ _).trans (hseq _))

theorem unready (c : Core) (s : Nat) : g (c.unready s) = g c := h.atl c _

theorem doneEntry (c : Core) (s : Nat) (x : AtSlot) (status : Nat) : g (c.doneEntry s x status) = g c := by
  unfold Core.doneEntry
  split
  · rfl
  · split
    · exact h.count1 c (by decide)
    · exact (h.raiseIf _ _ (by decide)).trans (h.atl c _)

theorem dropDeps (c : Core) (l : List Nat) : g (c.dropDeps l) = g c := by
  refine foldl_keeps g _ (fun c s => ?_) l c
  dsimp only
  split
  · rfl
  · split
    · exact (h.makeReady _ _ _).trans (h.setSlot _ _ _)
    · exact h.setSlot _ _ _

theorem finish (c : Core) (s status : Nat) : g (c.finish s status) = g c := by
  unfold Core.finish
  dsimp only
  split
  · rw [h.setSlot, h.doneEntry, h.dropDeps]
  · exact (h.setSlot _ _ _).trans ((h.doneEntry _ _ _ _).trans (h.dropDeps _ _))

theorem releaseFlow (n : Nat) (c : Core) (f : Nat) : g (Core.releaseFlow n c f) = g c := by
  induction n generalizing c with
  | zero => rfl
  | succ n ih =>
    have hnext : ∀ (d : Core) (v : Nat), g (d.setF ⟨R.ATELIER_FLOW f, 30, 16⟩ v) = g d := fun d v =>
      h.setF d v (by simp only [R.ATELIER_FLOW]; omega)
    unfold Core.releaseFlow
    dsimp only
    split
    · rw [ih, hnext]
      exact h.atl c _
    · split
      · rw [ih, h.finish, hnext, h.atTrace]
      · rfl

theorem hole (c : Core) (s : Nat) (x : AtSlot) (reason : Nat) : g (c.hole s x reason) = g c := by
  unfold Core.hole
  split
  · rfl
  · exact (h.releaseFlow _ _ _).trans ((h.atTrace _ _ _ _ _ _ _).trans (h.atl c _))

theorem taskLost (c : Core) (s status reason : Nat) : g (c.taskLost s status reason) = g c := by
  unfold Core.taskLost
  dsimp only
  split
  · rw [h.atShow, h.finish, h.unready]
  · rw [h.atShow, h.hole, h.finish, h.unready]

theorem groupTasks (c : Core) (k : Nat) : g (c.groupTasks k) = g c := by
  unfold Core.groupTasks
  dsimp only
  rw [foldl_keeps g _ fun c (x : Nat × AtSlot) => (h.taskLost _ _ _ _).trans (h.atTrace _ _ _ _ _ _ _)]
  exact foldl_keeps g _ (fun c (x : Nat × AtSlot) => h.taskLost _ _ _ _) _ _

end Unscheduled

namespace Supplied
variable {α : Type} {g : Core → α} (h : Supplied g)
include h

/-! ### Brush cores -/

theorem setBc (c : Core) (k : Nat) (x : BrushCore) : g (c.setBc k x) = g c := h.brush c _

theorem setBcState (c : Core) (k st : Nat) : g (c.setBcState k st) = g c :=
  h.setF c _ (by simp only [F.BRUSH_CORE_STATE_STATE, R.BRUSH_CORE_STATE]; omega)

theorem dropTask (c : Core) (k : Nat) : g (c.dropTask k) = g c := by
  have hin : ∀ (d : Core), g (d.setF (F.BRUSH_CORE_STATE_IN_TASK k) 0) = g d := fun d =>
    h.setF d _ (by simp only [F.BRUSH_CORE_STATE_IN_TASK, R.BRUSH_CORE_STATE]; omega)
  unfold Core.dropTask
  split
  · exact hin c
  · exact (h.taskLost _ _ _ _).trans ((hin _).trans (h.setBc _ _ _))

theorem bcStop (c : Core) (k : Nat) : g (c.bcStop k) = g c :=
  (h.dropTask _ _).trans ((h.setBcState _ _ _).trans (h.setBc _ _ _))

theorem coreSupply (c : Core) (k : Nat) : g (c.coreSupply k) = g c := by
  unfold Core.coreSupply
  split
  · split
    · rfl
    · exact (h.setBcState _ _ _).trans (h.bcStop _ _)
  · split
    · exact h.setBcState _ _ _
    · rfl

theorem brushSupply (c : Core) : g c.brushSupply = g c := by
  refine foldl_keeps g _ (fun c k => ?_) _ c
  split
  · exact h.coreSupply c k
  · rfl

theorem coreClear (c : Core) (k : Nat) : g (c.coreClear k) = g c := by
  have hput : ∀ (d : Core), ∀ r ∈ [R.BRUSH_CORE_ENTRY k, R.BRUSH_CORE_PC k, R.BRUSH_CORE_IRQ k, R.BRUSH_CORE_IVB k, R.BRUSH_CORE_CYCLE_LO k,
      R.BRUSH_CORE_CYCLE_HI k, R.BRUSH_CORE_FAULT k], g (d.put r 0) = g d := fun d r hr => by
    refine h.put d _ ?_
    simp only [List.mem_cons, List.not_mem_nil, or_false, R.BRUSH_CORE_ENTRY, R.BRUSH_CORE_PC, R.BRUSH_CORE_IRQ, R.BRUSH_CORE_IVB,
      R.BRUSH_CORE_CYCLE_LO, R.BRUSH_CORE_CYCLE_HI, R.BRUSH_CORE_FAULT] at hr
    omega
  refine (h.brush _ _).trans ?_
  exact (foldl_keeps_of_mem g _ _ (fun r hr d => hput d r hr) _).trans (h.setBc _ _ _)

theorem migAbandon (c : Core) (k : Nat) : g (c.migAbandon k) = g c := by
  unfold Core.migAbandon
  split
  · rw [h.setBcState, h.coreClear]
    exact (h.setB _ _ (by simp only [R.BRUSH_STATUS]; omega)).trans (h.brush _ _)
  · rfl

/-! ### The decision trace -/

theorem free (c : Core) : g c.free.2 = g c := h.freeIx c _

theorem recordWords (c : Core) (e : AtEvent) : g (c.recordWords e).2 = g c := h.free c

theorem ringRecord (c : Core) (ws : List Nat) : g (c.ringRecord ws).2 = g c := by
  unfold Core.ringRecord
  dsimp only
  split
  · exact (h.atl _ _).trans ((h.raise _ _ (by decide)).trans (h.count1 c (by decide)))
  · exact h.setF c _ (by decide)

theorem traceWrites (c : Core) : g c.traceWrites.2 = g c := by
  unfold Core.traceWrites
  dsimp only
  refine (foldl_snd_keeps g _ (fun a e => ?_) _ _).trans (h.atl c _)
  split
  · rfl
  · dsimp only
    rw [h.ringRecord, h.recordWords]
    split
    · split
      · exact (h.atl _ _).trans ((h.ringRecord _ _).trans (h.recordWords _ _))
      · rfl
    · rfl

/-! ### The memory controller -/

theorem rowAccess (c : Core) (p : DramPlace) : g (c.rowAccess p) = g c := by
  unfold Core.rowAccess
  dsimp only
  split
  · exact h.countW c _ _ (by decide)
  · exact (h.countW _ _ _ (by decide)).trans (h.memc c _)

theorem setWq (c : Core) (ch : Nat) (l : List Nat) : g (c.setWq ch l) = g c := h.memc c _

theorem drainTo (ch keep n : Nat) (c : Core) : g (Core.drainTo ch keep n c) = g c := by
  induction n generalizing c with
  | zero => rfl
  | succ n ih =>
    unfold Core.drainTo
    split
    · rfl
    · split
      · rfl
      · rw [ih, h.rowAccess, h.setWq]

theorem wordRead (m : Nat) (c : Core) (w : Nat) : g (Core.wordRead m c w) = g c := by
  unfold Core.wordRead
  split
  · rfl
  · rw [h.seenAt, h.raise _ _ (by decide), h.count1 _ (by decide)]
  · dsimp only
    have hseen : ∀ k, g (((c.count R.MEMC_UNCORRECTED).raise F.MEMC_INT_STATUS_UNCORRECTED).seenAt k) = g c := fun k => by
      rw [h.seenAt, h.raise _ _ (by decide), h.count1 _ (by decide)]
    split
    · exact hseen _
    · rw [h.setF _ _ (by decide), h.setF _ _ (by decide), h.setF _ _ (by decide), h.put _ _ (by decide)]
      exact hseen _

theorem memcRead (m a n : Nat) (c : Core) : g (Core.memcRead m a n c) = g c := by
  unfold Core.memcRead
  rw [foldl_keeps g _ (fun c w => h.wordRead m c w)]
  refine foldl_keeps g _ (fun c l => ?_) _ c
  dsimp only
  rw [h.rowAccess]
  split
  · exact (h.drainTo _ _ _ _).trans (h.countW c _ _ (by decide))
  · rfl

theorem crcTouch (c : Core) (a n : Nat) : g (c.crcTouch a n) = g c := by
  refine foldl_keeps g _ (fun c k => ?_) _ c
  dsimp only
  rw [apply_ite g, h.crc, ite_self]

theorem memWrite (m a : Nat) (bs : List Byte) (mem : Mem) (c : Core) : g (memWrite m a bs mem c).1 = g c := by
  unfold Machine.memWrite
  dsimp only
  split
  · refine (foldl_keeps g _ (fun c l => ?_) _ _).trans ?_
    · split
      · exact (h.drainTo _ _ _ _).trans ((h.memc _ _).trans (h.setWq _ _ _))
      · exact (h.memc _ _).trans (h.setWq _ _ _)
    · refine (foldl_keeps g (fun (c : Core) w => c.setEcc w 0) (fun c w => h.memc c _) _ _).trans ?_
      exact (foldl_keeps g (fun c w => Core.memcRead m (8 * w) 8 c) (fun c w => h.memcRead _ _ _ c) _ _).trans (h.crcTouch c _ _)
  · exact h.crcTouch c _ _

theorem flushTrace (mem : Mem) (c : Core) : g (flushTrace mem c).1 = g c := by
  unfold Machine.flushTrace
  split
  · rfl
  · have hwrite : ∀ (l : List (Nat × List Byte)) (a : Core × Mem),
        g (l.foldl (fun (a : Core × Mem) x => Machine.memWrite 7 x.1 x.2 a.2 a.1) a).1 = g a.1 := fun l => by
      induction l with
      | nil => exact fun _ => rfl
      | cons b t ih => exact fun a => (ih _).trans (h.memWrite _ _ _ _ _)
    exact (hwrite _ _).trans (h.traceWrites c)

end Supplied

namespace Aside
variable {α : Type} {g : Core → α} (h : Aside g)
include h

/-! ### Power domains and the Plinth controller -/

theorem putApart (c : Core) {off : Nat} (w : Word) (hoff : apartOff off) : g (c.put off w) = g c :=
  h.regs c _ fun _ hne => c.get_put_ne w fun e => hne (e ▸ hoff)

theorem groupLost (c : Core) (k : Nat) : g (c.groupLost k) = g c := by
  have hclear : g (((List.range 17).map (· + 17 * k)).foldl Core.coreClear ((c.groupTasks k).migAbandon k)) = g c :=
    (foldl_keeps g _ h.coreClear _ _).trans ((h.migAbandon _ _).trans (h.groupTasks _ _))
  unfold Core.groupLost
  dsimp only
  generalize ((List.range 17).map (· + 17 * k)).foldl Core.coreClear ((c.groupTasks k).migAbandon k) = d at hclear ⊢
  refine (h.brush _ _).trans ((h.regs d _ fun off hoff => smGet_filter _ _ _ fun x _ hx => ?_).trans hclear)
  unfold apartOff at hoff
  refine decide_eq_true ?_
  unfold R.BRUSH_CORE_STATE
  omega

theorem dramSleep (c old : Core) : g (c.dramSleep old) = g c := by
  have hdram : ∀ off, ¬apartOff off → dramReg off = false := fun off hoff => by
    unfold apartOff at hoff
    refine Bool.eq_false_iff.mpr fun hreg => ?_
    simp only [dramReg, Bool.or_eq_true, Bool.and_eq_true, decide_eq_true_eq] at hreg
    unfold R.MEMC_MAP R.MEMC_TRAIN_A R.MEMC_REMAP at hreg
    omega
  unfold Core.dramSleep
  rw [h.setF _ _ (by decide), h.setF _ _ (by decide)]
  unfold Core.keepDram
  dsimp only
  refine (h.memc _ _).trans (h.regs c _ fun off hoff => ?_)
  rw [smGet_foldl_smSet_ne regReset _ _ fun x hx e => ?_, smGet_filter _ _ _ fun x _ hx => ?_]
  · rfl
  · rw [hx, hdram off hoff]
    rfl
  · have hkept := (List.mem_filter.mp hx).2
    rw [e, hdram off hoff] at hkept
    exact Bool.false_ne_true hkept

theorem pdLost (c : Core) {n : Nat} (hn : 3 ≤ n) : g (c.pdLost n) = g c := by
  have hwindow : ∀ off, ¬apartOff off → (off / 0x100000 < 2 || decide (windowPd (off / 0x100000) ≠ n)) = true := fun off hoff => by
    have hlow : off / 0x100000 = 0 ∨ off / 0x100000 = 1 ∨ off / 0x100000 = 2 ∨ off / 0x100000 = 3 := by
      unfold apartOff at hoff
      omega
    rcases hlow with e | e | e | e <;> rw [e] <;> simp [windowPd] <;> omega
  have hregs : g { c with regs := c.regs.filter fun x => x.1 / 0x100000 < 2 || decide (windowPd (x.1 / 0x100000) ≠ n) } = g c :=
    h.regs c _ fun off hoff => smGet_filter _ _ _ fun x _ hx => by rw [hx]; exact hwindow off hoff
  unfold Core.pdLost
  dsimp only
  split
  · exact (h.groupLost _ _).trans hregs
  · split
    · exact (h.dramSleep _ _).trans hregs
    · exact hregs

theorem plinthPd (c : Core) {n : Nat} (hn : 3 ≤ n) : g (c.plinthPd n) = g c := by
  have hwake : ∀ (d : Core) (v : Nat), g (d.setF ⟨R.SYS_PD_WAKING, n, n⟩ v) = g d := fun d v => h.putApart d _ (.inr (.inr rfl))
  have hstate : ∀ (d : Core) (v : Nat), g (d.setF (F.SYS_PD_STATE_PD n) v) = g d := fun d v => h.putApart d _ (.inr (.inl rfl))
  unfold Core.plinthPd
  dsimp only
  split
  · split
    · rfl
    · exact hwake _ _
  · split
    · rw [h.pdLost _ hn, hstate, hwake]
    · rw [hstate, hwake]

theorem plinth (c : Core) : g c.plinth = g c := by
  unfold Core.plinth
  rw [h.brushSupply]
  refine foldl_keeps_of_mem g _ _ (fun n hn c => h.plinthPd c ?_) _
  have : ∀ n ∈ (List.range 13).drop 3, 3 ≤ n := by decide
  exact this n hn

end Aside

end Sys2Proof.Machine
end

section
/-! System opcodes of class 0x011x (R65, R74, R128 to R137), with the restart of the control plane, and O16. -/

namespace Sys2Proof.Machine
open Sys2Proof

/-! ### Commands that may leave trace records -/

/-- A state in which registers of Atelier and of the blocks above it, messages, and the parts of the cores, of Atelier and of the memory may have changed. -/
def Traced (d t : Core) : Prop := ∀ {α : Type} {g : Core → α}, Supplied g → g t = g d

theorem told_of_sessions {c d : Core} {p : Packet} (h : c.host.sessions = d.host.sessions) : c.told p = d.told p := by
  unfold Core.told
  rw [session?_of_sessions h]

namespace Traced
variable {d t : Core} (h : Traced d t)
include h

theorem get {off : Nat} (hoff : off < 0x400000) : t.get off = d.get off := h (supplied_get hoff)
theorem f {x : Field} (hoff : x.off < 0x400000) : t.f x = d.f x := Core.f_congr (h.get hoff)
theorem flag {x : Field} (hoff : x.off < 0x400000) : t.flag x = d.flag x := Core.flag_congr (h.get hoff)
theorem sessions : t.host.sessions = d.host.sessions := h aside_sessions.toSupplied
theorem afar : t.afar = d.afar := h aside_afar.toSupplied
theorem power : t.power = d.power := (congrArg Core.power h.afar :)
theorem clk : t.clk = d.clk := (congrArg Core.clk h.afar :)
theorem time : t.time = d.time := (congrArg Core.time h.afar :)
theorem cfg : t.cfg = d.cfg := (congrArg Core.cfg h.afar :)
theorem told {p : Packet} : t.told p = d.told p := told_of_sessions h.sessions

end Traced

section Completion
variable {i : Instr} {s : State} {P : State → Prop}

/-- A command whose meaning on this state is known completes with what its trace records, if there are any, leave of it. -/
theorem completes_traced {f : Mem → Core → Core × Mem} {d : Core} (e : exec i s = runMem f s) (hd : (f s.mem s.core).1 = d)
    (hp : ∀ t m, Traced d t → P { s with core := t, mem := m }) : Completes i s P :=
  completes_mem e (hp _ _ fun h => (h.flushTrace _ _).trans (by rw [hd]))

theorem completes_traced_core {f : Core → Core} {d : Core} (e : exec i s = runCore f s) (hd : f s.core = d)
    (hp : ∀ t m, Traced d t → P { s with core := t, mem := m }) : Completes i s P := completes_traced e hd hp

theorem completes_traced_reset {f : Core → Core} {d : Core} (e : exec i s = runReset f s) (hd : f s.core = d)
    (hp : ∀ t m, Traced d t → P { s with core := t, mem := m }) : Completes i s P := completes_traced e hd hp

/-- An opcode whose body leaves sessions alone completes with its answer told, and with what the settling of the command and its
trace records leave. -/
theorem completes_of_traced_body {o : Opc} {p : Packet} {body : Body} {d : Core} {st : Status} {bs : List Byte}
    (e : exec i s = runCore (easel o body p) s) (hadmits : s.core.admits o p = true) (hcode : o.code ≠ 0x0100)
    (hbody : body (s.core.offered o p) (reqOf o p) = (d, st, bs)) (hsessions : d.host.sessions = (s.core.offered o p).host.sessions)
    (hp : ∀ t m, t.told p = some (statusCode st, bs) → Traced (Core.settled o p (d, st, bs)) t → P { s with core := t, mem := m }) :
    Completes i s P := by
  have hopen : (d.session? p.session.toNat).isSome = true :=
    session?_of_sessions (hsessions.trans (s.core.offered_sessions o p)) _ ▸ admits_session hadmits hcode
  refine completes_traced_core e ((easel_admitted hadmits body).trans (by rw [hbody])) fun t m h => hp t m ?_ h
  exact h.told.trans (settled_told hopen)

end Completion

/-! ### The restart of the control plane (R65, R129) -/

section Restart
variable (c : Core)

theorem Core.setMbx_bystanders (p : Nat) (x : BrushMbx) : (c.setMbx p x).bystanders = c.bystanders := by
  unfold Core.setMbx
  dsimp only
  split <;> rfl

theorem Core.brushRestart_bystanders : c.brushRestart.bystanders = c.bystanders := by
  refine foldl_keeps Core.bystanders _ (fun d p => ?_) _ c
  dsimp only
  split
  · rfl
  · split
    · exact Core.setMbx_bystanders _ _ _
    · exact Core.setMbx_bystanders d _ _

theorem Core.ledger_bystanders (kind res unit detail : Nat) (value : Int) (smudge : Bool) :
    (c.ledger kind res unit detail value smudge).bystanders = c.bystanders := by
  unfold Core.ledger
  split
  · exact bystanders_of (Core.countS_sessions c _ _ _) (Core.count_atl _ _)
  · rfl

theorem Core.smudgeEnd_bystanders : c.smudgeEnd.bystanders = c.bystanders := by
  unfold Core.smudgeEnd
  split
  · rfl
  · exact (Core.ledger_bystanders _ _ _ _ _ _ _).trans (Core.raise_bystanders _ _)

theorem Core.dropReceptions_bystanders : c.dropReceptions.bystanders = c.bystanders :=
  foldl_keeps Core.bystanders _ (fun d k => d.endSlot_bystanders k 0 .aborted false) _ c

/-- A scheduled SMUDGE_GO is undone by leaving it out of the list of what is due. -/
theorem Core.undoTimed_smudge {t : Timed} (h : t.opcode = 0x0E82) :
    c.undoTimed t = if !t.eager then c else { c with health := { c.health with
      due := c.health.due.filter fun d => !decide (d.b = t.boundary ∧ d.cls = ((bytesWords (pkParams t.packet)).getD 0 0).toNat) } } := by
  unfold Core.undoTimed
  simp [h]

theorem Core.abortTimed_bystanders {t : Timed} (h : t.opcode = 0x0E82) : (c.abortTimed t).bystanders = c.bystanders := by
  have hundo : ∀ d : Core, (d.undoTimed t).bystanders = d.bystanders := fun d => by
    rw [Core.undoTimed_smudge d h]
    split <;> rfl
  exact (bystanders_of (Core.notice_sessions _ _ _ _) (Core.notice_atl _ _ _ _)).trans (hundo _)

theorem Core.restartHooks_bystanders : c.restartHooks.bystanders = c.bystanders := by
  unfold Core.restartHooks
  dsimp only
  rw [Core.dropReceptions_bystanders, Core.smudgeEnd_bystanders]
  refine (foldl_keeps_of_mem Core.bystanders _ _ (fun t ht d => d.abortTimed_bystanders ?_) _).trans (Core.brushRestart_bystanders c)
  exact of_decide_eq_true (List.mem_filter.mp ht).2

theorem Core.ring_bystanders (b : Nat) : (c.ring b).bystanders = c.bystanders :=
  bystanders_of (Core.ring_sessions c b) (Core.ring_atl c b)

theorem Core.clearH2F_bystanders (n : Nat) : (c.clearH2F n).bystanders = c.bystanders := by
  unfold Core.clearH2F
  split
  · exact Core.ring_bystanders _ _
  · rfl

theorem Core.releaseHolds_bystanders (q : Nat → Bool) : (c.releaseHolds q).bystanders = c.bystanders := by
  refine foldl_keeps Core.bystanders _ (fun d n => ?_) _ c
  split
  · split <;> rfl
  · rfl

/-- Of the operations in flight only those that outlive a restart are kept; the others are to be told ABORTED. -/
def Core.dropOps (keep gone : List Tok) : Core :=
  { c with
    host := { c.host with ops := c.host.ops.filter (· ∈ keep), later := c.host.later ++ gone.map fun t => (t, statusCode .aborted, []) }
    power := { c.power with restartDue := false } }

theorem Core.dropOps_bystanders (keep gone : List Tok) : (c.dropOps keep gone).bystanders = c.bystanders := rfl

/-- The state before the flags of a restart. -/
def Core.restartCleared : Core :=
  (((List.range 16).foldl Core.clearH2F c.restartHooks).releaseHolds (· ≤ 3)).dropOps c.survivors (c.host.ops.filter (· ∉ c.survivors))

theorem Core.controlRestart_begins (h : c.flag F.HOST_STATUS_RESTARTING = false) :
    c.controlRestart = ((c.restartCleared.setF F.HOST_STATUS_RESTARTING 1).setF F.HOST_STATUS_EASEL_READY 0).ring 5 := by
  unfold Core.controlRestart
  rw [if_neg (by rw [h]; decide)]
  dsimp only
  unfold Core.restartCleared Core.dropOps
  generalize ((List.range 16).foldl Core.clearH2F c.restartHooks).releaseHolds (· ≤ 3) = d
  rfl

theorem Core.restartCleared_bystanders : c.restartCleared.bystanders = c.bystanders := by
  unfold Core.restartCleared
  rw [Core.dropOps_bystanders, Core.releaseHolds_bystanders]
  exact (foldl_keeps Core.bystanders _ Core.clearH2F_bystanders _ _).trans (Core.restartHooks_bystanders c)

theorem Core.controlRestart_bystanders : c.controlRestart.bystanders = c.bystanders := by
  by_cases h : c.flag F.HOST_STATUS_RESTARTING = true
  · unfold Core.controlRestart
    rw [if_pos h]
  · rw [Core.controlRestart_begins c (Bool.eq_false_iff.mpr h), Core.ring_bystanders, Core.setF_bystanders, Core.setF_bystanders,
      Core.restartCleared_bystanders]

theorem Core.get_ring_ne {b off : Nat} (h : off ≠ R.HOST_DB_STATUS) : (c.ring b).get off = c.get off := by
  have hmsix : ∀ (d : Core) (v : Nat), (d.msix v).get off = d.get off := fun d v => by
    unfold Core.msix
    split <;> rfl
  unfold Core.ring
  dsimp only
  split
  · rfl
  · split
    · exact Core.get_setF_ne _ _ h
    · exact (hmsix _ _).trans (Core.get_setF_ne _ _ h)

/-- A restart is under way, and Easel does not answer. -/
theorem Core.controlRestart_flags : c.controlRestart.flag F.HOST_STATUS_RESTARTING = true ∧
    (c.flag F.HOST_STATUS_RESTARTING = false → c.controlRestart.flag F.HOST_STATUS_EASEL_READY = false) := by
  by_cases h : c.flag F.HOST_STATUS_RESTARTING = true
  · have hsame : c.controlRestart = c := if_pos h
    rw [hsame]
    exact ⟨h, fun hn => absurd (h.symm.trans hn) (by decide)⟩
  · rw [Core.controlRestart_begins c (Bool.eq_false_iff.mpr h)]
    constructor
    · refine (Core.flag_congr (Core.get_ring_ne _ (by decide))).trans ?_
      have hset : (c.restartCleared.setF F.HOST_STATUS_RESTARTING 1).flag F.HOST_STATUS_RESTARTING = true :=
        Core.flag_setF_bit _ _ _ 1 (by decide)
      unfold Core.flag at hset ⊢
      rwa [F.HOST_STATUS_EASEL_READY, F.HOST_STATUS_RESTARTING,
        Core.f_setF_beside _ 0 (show 7 ≤ 7 by decide) (by decide) (show 8 ≤ 8 by decide) (.inl (by decide))]
    · exact fun _ => (Core.flag_congr (Core.get_ring_ne _ (by decide))).trans (Core.flag_setF_bit _ _ _ 0 (by decide))

end Restart

/-! ### Function resets (R128) -/

theorem easelRuns_of_take {c : Core} {op : Nat} {p : Packet} (h : c.arrival op p = .take) : c.easelRuns = true := by
  unfold Core.arrival at h
  repeat' split at h
  all_goals simp_all

/-- A command that is carried out finds no restart under way. -/
theorem not_restarting_of_admits {c : Core} {o : Opc} {p : Packet} (h : c.admits o p = true) :
    (c.offered o p).flag F.HOST_STATUS_RESTARTING = false := by
  have hruns : (c.popRing o.code p).easelRuns = true := by
    refine easelRuns_of_take (op := o.code) (p := p) ?_
    simp only [Core.admits, Bool.and_eq_true, decide_eq_true_eq] at h
    obtain ⟨⟨⟨⟨⟨⟨_, htake⟩, _⟩, _⟩, _⟩, _⟩, _⟩ := h
    exact htake
  have hflag : (c.offered o p).flag F.HOST_STATUS_RESTARTING = (c.popRing o.code p).flag F.HOST_STATUS_RESTARTING :=
    Core.flag_congr (Core.get_countW_ne _ 1 (by decide) (by decide))
  unfold Core.easelRuns at hruns
  simp only [Bool.and_eq_true, Bool.not_eq_true'] at hruns
  exact hflag.trans hruns.2

/-- A function reset is under way. -/
def Core.funcBusy (c : Core) (code : Nat) (tok : Option Tok) : Core :=
  ((({ c with power := { c.power with funcReset := some { code := code, tok := tok } } }).setF F.SYS_FUNC_RESET_BUSY 1).setF
    F.SYS_STATUS_FUNC_RESET_BUSY 1).setF F.SYS_FUNC_RESET_GO 1

theorem Core.funcBusy_bystanders (c : Core) (code : Nat) (tok : Option Tok) : (c.funcBusy code tok).bystanders = c.bystanders := by
  unfold Core.funcBusy
  rw [Core.setF_bystanders, Core.setF_bystanders, Core.setF_bystanders]
  rfl

theorem Core.power_funcBusy (c : Core) (code : Nat) (tok : Option Tok) :
    (c.funcBusy code tok).power = { c.power with funcReset := some { code := code, tok := tok } } := by
  unfold Core.funcBusy
  rw [Core.setF_power, Core.setF_power, Core.setF_power]

theorem Core.funcRequest_begins {c : Core} {code : Nat} (hcode : code ≤ 10 ∨ 24 ≤ code) (hissued : code ≤ 28) (hfree : c.power.funcReset = none)
    (hrun : c.flag F.HOST_STATUS_RESTARTING = false) (hon : c.pdOn (funcPd code) = true) (force : Bool) (tok : Option Tok) :
    c.funcRequest code force tok = (.accepted, (c.funcBusy code tok).funcBegin code) := by
  unfold Core.funcRequest
  rw [if_neg (by omega), if_neg (by rw [hfree]; decide), if_neg (by rw [hrun]; decide), if_neg (by omega), if_neg (by omega), hon]
  rfl

section PortReset
variable {α : Type} {g : Core → α} (hset : ∀ (c : Core) (x : Field) (v : Nat), g (c.setF x v) = g c)
  (htdm : ∀ (c : Core) (p : Nat) (x : TdmPort), g (c.setTdm p x) = g c) (hdp : ∀ (c : Core) (n : Nat) (x : DirectPath), g (c.setDp n x) = g c)
include hset htdm hdp

theorem Core.portResetStart_keeps (c : Core) (p : Nat) : g (c.portResetStart p) = g c := by
  have hstate : ∀ (d : Core) (st : Nat), g (d.portState p st) = g d := fun d st => by
    unfold Core.portState Core.setB
    dsimp only
    rw [hset, hset, hset]
  have hmute : ∀ (d : Core) (st n : Nat), g (d.portMute p st n) = g d := fun d st n => by
    unfold Core.portMute
    dsimp only
    rw [Core.portPaths_keeps hdp, hset, hstate, htdm]
  unfold Core.portResetStart
  dsimp only
  split
  · rw [htdm]
    split
    · exact hmute _ _ _
    · exact hstate _ _
  · exact htdm _ _ _

end PortReset

theorem Core.funcBegin_port (c : Core) {code : Nat} (h : code ≤ 7) : c.funcBegin code = c.portResetStart code := by
  unfold Core.funcBegin Core.funcStart
  dsimp only
  rw [if_neg (by omega), if_pos h]

theorem funcResetBody_port {c : Core} {r : Req} (hcode : r.n 0 ≤ 7) (hopt : r.n 1 = 0) (hfree : c.power.funcReset = none)
    (hrun : c.flag F.HOST_STATUS_RESTARTING = false) (hon : c.pdOn 3 = true) :
    funcResetBody c r = ans ((c.funcBusy (r.n 0) (some r.tok)).portResetStart (r.n 0)) .accepted := by
  have hpd : funcPd (r.n 0) = 3 := if_pos hcode
  have hzero : r.w 1 = 0 := BitVec.eq_of_toNat_eq hopt
  unfold funcResetBody
  dsimp only
  rw [Core.funcRequest_begins (.inl (by omega)) (by omega) hfree hrun (hpd ▸ hon), Core.funcBegin_port _ hcode, hzero,
    if_neg (by decide), if_neg (fun h => absurd h.1 (by decide))]

/-! ### Standby, restarts and settings of the system (R65, R132, R135 to R137) -/

theorem sysStateBody_words (c : Core) (r : Req) : sysStateBody c r = okW c ([R.SYS_STATUS, R.SYS_RESET_CAUSE, R.SYS_PD_STATE, R.SYS_PD_WAKING,
    R.SYS_VIN, R.SYS_PIN, R.SYS_TDIE, R.SYS_TBOARD].map fun x => (c.get x).toNat) := rfl

/-- Quiet standby has been asked for: outputs fade out until boundary b. -/
def Core.standbyEntering (c : Core) (b : Nat) : Core :=
  ({ c with power := { c.power with standby := some (.entering b) } } : Core).fadeTo b

theorem Core.standbyRequest_quiet {c : Core} (htwin : c.twinned = false) (hfree : c.power.standby = none) (hfunc : c.power.funcReset = none)
    (hmedia : c.mediaChanging = false) (hst : c.f F.SYS_STATUS_STATE = 1) (hon : c.clk.mediaOn = true) :
    c.standbyRequest 1 = (.ok, c.standbyEntering c.anchorB) := by
  unfold Core.standbyRequest
  dsimp only
  rw [if_neg (by decide), if_neg (by rw [htwin]; decide), if_neg (by rw [hfree, hfunc, hmedia]; decide), if_neg (by decide),
    if_neg (by rw [hst]; decide), if_pos rfl, if_pos hon]
  rfl

theorem sysStandbyBody_quiet {c : Core} {r : Req} (hlevel : r.n 0 = 1) (htwin : c.twinned = false) (hfree : c.power.standby = none)
    (hfunc : c.power.funcReset = none) (hmedia : c.mediaChanging = false) (hst : c.f F.SYS_STATUS_STATE = 1) (hon : c.clk.mediaOn = true) :
    sysStandbyBody c r = ans (c.standbyEntering c.anchorB) .ok := by
  unfold sysStandbyBody
  rw [hlevel, Core.standbyRequest_quiet htwin hfree hfunc hmedia hst hon]
  dsimp only
  rw [if_neg (by decide), if_neg (by decide)]

/-- The power part takes a value. -/
def Core.setPower (c : Core) (x : Power) : Core := { c with power := x }

theorem Core.power_setPower (c : Core) (x : Power) : (c.setPower x).power = x := rfl

theorem Core.setPower_bystanders (c : Core) (x : Power) : (c.setPower x).bystanders = c.bystanders := rfl

theorem sysRestartBody_module {c : Core} {r : Req} (hkind : r.n 0 = 1) (hmedia : c.mediaChanging = false) :
    sysRestartBody c r = ans (c.setPower { c.power with resetDue := true }) .ok := by
  unfold sysRestartBody
  rw [if_neg (by omega), if_neg (by rw [hmedia]; decide), if_pos hkind]
  rfl

theorem sysRestartBody_control {c : Core} {r : Req} (hkind : r.n 0 = 0) (hmedia : c.mediaChanging = false) :
    sysRestartBody c r = ans (c.setPower { c.power with restartDue := true }) .ok := by
  unfold sysRestartBody
  rw [if_neg (by omega), if_neg (by rw [hmedia]; decide), if_neg (by omega)]
  rfl

/-- The tolerances of the power domains are stored. -/
def Core.wakeTols (c : Core) (r : Req) : Core := (List.range 12).foldl (fun c k => c.put (R.SYS_WAKE_TOL k) (r.w k)) c

theorem wakeTolBody_stores {c : Core} {r : Req} (h : ∀ k : Nat, k < 12 → r.n k ≤ 0x3FFFFFF) : wakeTolBody c r = ans (c.wakeTols r).plinth .ok := by
  have hnone : ¬((List.range 12).any fun k => decide (r.n k > 0x3FFFFFF)) = true := fun hany => by
    obtain ⟨k, hk, hgt⟩ := List.any_eq_true.mp hany
    have hle := h k (List.mem_range.mp hk)
    exact absurd (of_decide_eq_true hgt) (by omega)
  unfold wakeTolBody
  rw [if_neg hnone]
  rfl

theorem Core.get_wakeTols (c : Core) (r : Req) {k : Nat} (hk : k < 12) : (c.wakeTols r).get (R.SYS_WAKE_TOL k) = r.w k := by
  refine get_foldl_put R.SYS_WAKE_TOL (fun k => r.w k) (fun a b h => ?_) (List.range 12) c (List.mem_range.mpr hk)
  unfold R.SYS_WAKE_TOL at h
  omega

theorem outputReleaseBody_due {c : Core} (r : Req) (hheld : c.flag F.SYS_STATUS_OUTPUT_HELD = true) :
    outputReleaseBody c r = ans (c.setPower { c.power with releaseDue := true }) .ok := if_pos hheld

theorem startConfigBody_stores {c : Core} {r : Req} (hzero : noReserved (r.w 0) 3 = true) (hwarn : c.flag F.SYS_STATUS_VIN_WARN = false) :
    startConfigBody c r = ans (({ c with cfg := { c.cfg with startCfg := r.w 0 } } : Core).put R.SYS_START_CFG (r.w 0)) .ok := by
  unfold startConfigBody
  rw [if_neg (by rw [hzero]; decide), if_neg (by rw [hwarn]; decide)]

/-! ### The rate of MEDIA (R89) -/

theorem rateIssued_mult {family mult ll : Nat} (h : rateIssued family mult ll = true) : mult ≠ 3 := by
  rintro rfl
  simp [rateIssued] at h

theorem mediaRateBody_same {c : Core} {r : Req} (hzero : noReserved (r.w 0) 0xF = true)
    (hissued : rateIssued (bitsOf (r.w 0) 0 0) (bitsOf (r.w 0) 2 1) (bitsOf (r.w 0) 3 3) = true) (hfamily : bitsOf (r.w 0) 0 0 = c.clk.family)
    (hmult : bitsOf (r.w 0) 2 1 = c.clk.mult) (hll : bitsOf (r.w 0) 3 3 = c.clk.ll) (hsw : c.clk.sw = none) :
    mediaRateBody c r = ans (c.completeNow r.tok .ok []) .accepted := by
  unfold mediaRateBody
  dsimp only
  rw [if_neg (fun h => h.elim (by rw [hzero]; decide) (rateIssued_mult hissued)), if_neg (by rw [hissued]; decide),
    if_pos ⟨hfamily, hmult, hll, by rw [hsw]; rfl⟩]

/-- A switch of MEDIA to a rate has been scheduled: outputs fade out until its boundary (R89). -/
def Core.switchSet (c : Core) (w : MediaSwitch) : Core :=
  ({ (c.putRate w.family w.mult w.ll w.src).setF F.CLK_MEDIA_STATUS_SWITCH_PENDING 1 with clk := { c.clk with sw := some w } } : Core).fadeTo w.b

theorem Core.requestRate_schedules {c : Core} (hon : c.clk.mediaOn = true) (family mult ll src : Nat) (tok : Option Tok) :
    c.requestRate family mult ll src tok =
      c.switchSet { family := family, mult := mult, ll := ll, src := src, b := c.anchorB, tok := tok } := by
  unfold Core.requestRate
  dsimp only
  rw [if_neg (by rw [hon]; decide)]
  rfl

theorem mediaRateBody_schedules {c : Core} {r : Req} (hzero : noReserved (r.w 0) 0xF = true)
    (hissued : rateIssued (bitsOf (r.w 0) 0 0) (bitsOf (r.w 0) 2 1) (bitsOf (r.w 0) 3 3) = true)
    (hnew : ¬(bitsOf (r.w 0) 0 0 = c.clk.family ∧ bitsOf (r.w 0) 2 1 = c.clk.mult ∧ bitsOf (r.w 0) 3 3 = c.clk.ll))
    (hwarn : c.flag F.SYS_STATUS_VIN_WARN = false) (hmedia : c.mediaChanging = false) (hbusy : c.rateBusy = false)
    (hforbidden : c.rateForbidden = false) (hsrc : ¬(bitsOf (r.w 0) 0 0 = 1 ∧ c.clk.src = 1))
    (hfits : c.rateAdmits (bitsOf (r.w 0) 0 0) (bitsOf (r.w 0) 2 1) (bitsOf (r.w 0) 3 3) = true) (hon : c.clk.mediaOn = true) :
    mediaRateBody c r = ans (({ c with cfg := { c.cfg with
        family := bitsOf (r.w 0) 0 0, mult := bitsOf (r.w 0) 2 1, ll := bitsOf (r.w 0) 3 3 } } : Core).switchSet
      { family := bitsOf (r.w 0) 0 0, mult := bitsOf (r.w 0) 2 1, ll := bitsOf (r.w 0) 3 3, src := c.clk.src, b := c.anchorB, tok := some r.tok })
        .accepted := by
  have hset : ({ c with cfg := { c.cfg with family := bitsOf (r.w 0) 0 0, mult := bitsOf (r.w 0) 2 1, ll := bitsOf (r.w 0) 3 3 } } : Core).clk.mediaOn =
      true := hon
  unfold mediaRateBody
  dsimp only
  rw [if_neg (fun h => h.elim (by rw [hzero]; decide) (rateIssued_mult hissued)), if_neg (by rw [hissued]; decide),
    if_neg (fun h => hnew ⟨h.1, h.2.1, h.2.2.1⟩), if_neg (by rw [hwarn, hmedia, hbusy]; decide),
    if_neg (fun h => h.elim (by rw [hforbidden]; decide) hsrc), if_neg (by rw [hfits]; decide), if_pos hon, if_pos hon,
    Core.requestRate_schedules hset]
  rfl

/-! ### Completion -/

/-- Settles O16: each body reduces to the one branch that its hypotheses leave. The tolerances and the restart are read through what the
Plinth controller, a restart and trace records leave alone. -/
theorem systemOpcodesComplete : Obligations.SystemOpcodesComplete := by
  unfold Obligations.SystemOpcodesComplete
  refine ⟨?state, ?standby, ?module, ?control, ?func, ?wakeTol, ?release, ?startCfg, ?same, ?switch⟩
  case state =>
    intro s p c r hadmits hq
    exact completes_of_body rfl hadmits hq (by decide) (sysStateBody_words c r) rfl fun t h => h.told
  case standby =>
    intro s p c r hadmits hq hlevel htwin hfree hfunc hmedia hst hon
    refine completes_of_body rfl hadmits hq (by decide) (sysStandbyBody_quiet hlevel htwin hfree hfunc hmedia hst hon) rfl
      fun t h => ⟨h.told, ?_⟩
    rw [State.core_of_core, h.power]
    rfl
  case module =>
    intro s p c r hadmits hq hkind hmedia hdue
    have hbody := sysRestartBody_module hkind hmedia
    have heasel := (easel_admitted hadmits sysRestartBody).trans (congrArg (Core.settled opSysRestart p) hbody)
    have hpower := (Core.settled_power opSysRestart p (ans (c.setPower { c.power with resetDue := true }) .ok)).trans (c.power_setPower _)
    have hopen : ((c.setPower { c.power with resetDue := true }).session? p.session.toNat).isSome = true :=
      session?_of_sessions (s.core.offered_sessions _ p) _ ▸ admits_session hadmits (by decide)
    have htold := settled_told (o := opSysRestart) (p := p) (a := ans (c.setPower { c.power with resetDue := true }) .ok) hopen
    generalize Core.settled opSysRestart p (ans (c.setPower { c.power with resetDue := true }) .ok) = d at heasel hpower htold
    have hdone : (easel opSysRestart sysRestartBody p s.core).restartIfDue = d := by
      rw [heasel]
      exact if_neg (by rw [hpower, hdue]; decide)
    exact completes_traced_reset (f := fun c => (easel opSysRestart sysRestartBody p c).restartIfDue) rfl hdone fun t m h => ⟨h.told.trans htold, (congrArg Power.resetDue (h.power.trans hpower) :)⟩
  case control =>
    intro s p c r hadmits hq hkind hmedia
    have hbody := sysRestartBody_control hkind hmedia
    have heasel := (easel_admitted hadmits sysRestartBody).trans (congrArg (Core.settled opSysRestart p) hbody)
    have hpower := (Core.settled_power opSysRestart p (ans (c.setPower { c.power with restartDue := true }) .ok)).trans (c.power_setPower _)
    have hopen : ((c.setPower { c.power with restartDue := true }).session? p.session.toNat).isSome = true :=
      session?_of_sessions (s.core.offered_sessions _ p) _ ▸ admits_session hadmits (by decide)
    have htold := settled_told (o := opSysRestart) (p := p) (a := ans (c.setPower { c.power with restartDue := true }) .ok) hopen
    generalize Core.settled opSysRestart p (ans (c.setPower { c.power with restartDue := true }) .ok) = d at heasel hpower htold
    have hdone : (easel opSysRestart sysRestartBody p s.core).restartIfDue = d.controlRestart := by
      rw [heasel]
      exact if_pos (by rw [hpower])
    have hkept : d.controlRestart.told p = d.told p := told_of_sessions (congrArg Prod.fst d.controlRestart_bystanders :)
    exact completes_traced_reset (f := fun c => (easel opSysRestart sysRestartBody p c).restartIfDue) rfl hdone fun t m h =>
      ⟨h.told.trans (hkept.trans htold), (h.flag (by decide)).trans d.controlRestart_flags.1⟩
  case func =>
    intro s p c r hadmits hq hcode hopt hfree hon
    refine completes_of_body rfl hadmits hq (by decide) (funcResetBody_port hcode hopt hfree (not_restarting_of_admits hadmits) hon)
      ((Core.portResetStart_keeps (g := Core.bystanders) (fun _ _ _ => rfl) (fun _ _ _ => rfl) (fun _ _ _ => rfl) _ _).trans
        (Core.funcBusy_bystanders _ _ _)) fun t h => ⟨h.told, ?_⟩
    rw [State.core_of_core, h.power, Core.portResetStart_keeps (g := Core.power) (fun _ _ _ => rfl) (fun _ _ _ => rfl) (fun _ _ _ => rfl),
      Core.power_funcBusy]
  case wakeTol =>
    intro s p c r hadmits hq htol
    have hsessions : (c.wakeTols r).plinth.host.sessions = c.host.sessions :=
      (aside_sessions.plinth _).trans (foldl_keeps (fun d : Core => d.host.sessions) (fun d k => Core.put d (R.SYS_WAKE_TOL k) (r.w k)) (fun _ _ => rfl) _ _)
    refine completes_of_traced_body rfl hadmits (by decide) (wakeTolBody_stores htol) hsessions fun t m htold h => ⟨htold, fun k hk => ?_⟩
    have hoff : ¬apartOff (R.SYS_WAKE_TOL k) ∧ window (R.SYS_WAKE_TOL k) = 0 := by
      unfold apartOff window R.SYS_WAKE_TOL R.SYS_PD_STATE R.SYS_PD_WAKING
      omega
    have hkept : (c.wakeTols r).plinth.get (R.SYS_WAKE_TOL k) = (c.wakeTols r).get (R.SYS_WAKE_TOL k) := (aside_get hoff.1).plinth _
    have hsettled := Core.get_settled_away (o := opWakeTol) (p := p) (a := ((c.wakeTols r).plinth, .ok, [])) (off := R.SYS_WAKE_TOL k) (by omega)
      (by omega)
    exact (h.get (by unfold R.SYS_WAKE_TOL; omega)).trans (hsettled.trans (hkept.trans (c.get_wakeTols r hk)))
  case release =>
    intro s p c r hadmits hq hheld
    refine completes_of_body rfl hadmits hq (by decide) (outputReleaseBody_due r hheld) (c.setPower_bystanders _) fun t h => ⟨h.told, ?_⟩
    rw [State.core_of_core, h.power, Core.power_setPower]
  case startCfg =>
    intro s p c r hadmits hq hzero hwarn
    refine completes_of_body rfl hadmits hq (by decide) (startConfigBody_stores hzero hwarn) rfl fun t h => ⟨h.told, ?_, ?_⟩
    · exact (h.get (by decide) (by decide)).trans (Core.get_put_same _ _ _)
    · rw [State.core_of_core, h.cfg]
      rfl
  case same =>
    intro s p c r hadmits hq hzero hissued hfamily hmult hll hsw
    refine completes_of_body rfl hadmits hq (by decide) (mediaRateBody_same hzero hissued hfamily hmult hll hsw) rfl fun t h => ⟨h.told, ?_⟩
    rw [State.core_of_core, h.clk]
    exact hsw
  case switch =>
    intro s p c r hadmits hq hzero hissued hnew hwarn hmedia hbusy hforbidden hsrc hfits hon
    refine completes_of_body rfl hadmits hq (by decide)
      (mediaRateBody_schedules hzero hissued hnew hwarn hmedia hbusy hforbidden hsrc hfits hon) rfl fun t h => ⟨h.told, ?_, ?_⟩
    · rw [State.core_of_core, h.clk]
      rfl
    · rw [State.core_of_core, h.cfg]
      rfl

end Sys2Proof.Machine
end

section
/-! What messages leave alone: readings that replies, notices, doorbells and queued frames do not change (R144 to R158). -/

namespace Sys2Proof.Machine
open Sys2Proof

/-- A reading that messages leave alone: replies and notices that go out or wait, the reply ring's index, doorbells, frames queued on
port P3, and what sessions keep of their commands. -/
structure Unsaid {α : Type} (g : Core → α) : Prop where
  outbox : ∀ (c : Core) (l : List Msg), g { c with outbox := l } = g c
  index : ∀ (c : Core) (x : Field) (v : Nat), x.off = R.HOST_RPL_PROD ∨ x.off = R.HOST_DB_STATUS → g (c.setF x v) = g c
  frame : ∀ (c : Core) (x : TxFrame), x.stream = none → g (c.queueFrame 3 x) = g c
  held : ∀ (c : Core) (l : List Msg), g { c with host := { c.host with held := l } } = g c
  pba : ∀ (c : Core) (n : Nat), g { c with host := { c.host with pba := n } } = g c
  ops : ∀ (c : Core) (l : List Tok), g { c with host := { c.host with ops := l } } = g c
  later : ∀ (c : Core) (l : List (Tok × Nat × List Byte)), g { c with host := { c.host with later := l } } = g c
  instant : ∀ (c : Core) (l : List (Tok × Nat × List Byte)), g { c with host := { c.host with instant := l } } = g c
  twin : ∀ (c : Core) (x : TwinPart), g { c with twin := x } = g c
  session : ∀ (c : Core) (s s' : Session), c.session? s.num = some s → s'.num = s.num → s'.mask = s.mask → g (c.setSession s') = g c

namespace Unsaid
variable {α : Type} {g : Core → α} (h : Unsaid g)
include h

theorem msix (c : Core) (v : Nat) : g (c.msix v) = g c := by
  unfold Core.msix
  split
  · exact h.pba c _
  · exact h.outbox c _

theorem ring (c : Core) (b : Nat) : g (c.ring b) = g c := by
  have hset : g (c.setF ⟨R.HOST_DB_STATUS, b, b⟩ 1) = g c := h.index c _ _ (.inr rfl)
  unfold Core.ring
  dsimp only
  split
  · rfl
  · split
    · exact hset
    · exact (h.msix _ _).trans hset

theorem ringPut (c : Core) (m : Msg) : g (c.ringPut m) = g c :=
  (h.ring _ _).trans ((h.index _ _ _ (.inl rfl)).trans (h.outbox c _))

theorem queueDatagram (c : Core) (n : Nat) (m : Msg) : g (c.queueDatagram n m) = g c := by
  unfold Core.queueDatagram
  dsimp only
  rw [h.frame _ _ rfl]
  exact foldl_keeps g _ (fun c _ => h.frame c _ rfl) _ _

theorem post (c : Core) (m : Msg) : g (c.post m) = g c := by
  have hring : ∀ m : Msg, g (if c.host.held.isEmpty = true ∧ c.ringFits m = true then c.ringPut m
      else { c with host := { c.host with held := c.host.held ++ [m] } }) = g c := fun m => by
    split
    · exact h.ringPut c m
    · exact h.held c _
  unfold Core.post
  split
  · exact hring _
  · exact h.queueDatagram _ _ _
  · exact h.outbox _ _

theorem postAfter (c : Core) (n : Nat) (q : Word) (m : Msg) : g (c.postAfter n q m) = g c := by
  unfold Core.postAfter
  split
  · exact h.twin _ _
  · exact h.post _ _

theorem notice (c : Core) (t : Tok) (st : Status) (l : List Byte) : g (c.notice t st l) = g c := by
  have hops := h.ops c (c.host.ops.erase t)
  unfold Core.notice
  split
  · refine Eq.trans ?_ hops
    generalize ({ c with host := { c.host with ops := c.host.ops.erase t } } : Core) = d
    dsimp only
    split
    · exact h.later d _
    · split
      · exact h.postAfter _ _ _ _
      · rfl
  · rfl

theorem reply (c : Core) (op : Nat) (p : Packet) (n : Nat) (st : Status) (l : List Byte) : g (c.reply op p n st l) = g c := by
  unfold Core.reply
  split
  · rfl
  · exact h.post _ _

theorem markSent (c : Core) (n : Nat) (q : Word) (sent : Bool) : g (c.markSent n q sent) = g c := by
  unfold Core.markSent
  split
  · next s hs => exact h.session c s _ (session?_num hs ▸ hs) rfl rfl
  · rfl

theorem firstReply (c : Core) (op : Nat) (p : Packet) (a : Status × List Byte) : g (c.firstReply op p a) = g c := by
  unfold Core.firstReply
  split
  · split
    · rfl
    · exact (h.twin _ _).trans (h.markSent c _ _ _)
  · exact h.reply _ _ _ _ _ _

theorem taken (c : Core) (op : Nat) (p : Packet) (st : Status) (l : List Byte) : g (c.taken op p st l) = g c := by
  unfold Core.taken
  split
  · rfl
  · next s hs => exact h.session c s _ (session?_num hs ▸ hs) rfl rfl

theorem mirror (c : Core) (op : Nat) (p : Packet) (st : Status) : g (c.mirror op p st) = g c := by
  unfold Core.mirror
  split
  · exact h.twin _ _
  · rfl

theorem flushInstant (c : Core) : g c.flushInstant = g c := by
  unfold Core.flushInstant
  exact (foldl_keeps g _ (fun c (x : Tok × Nat × List Byte) => h.notice c x.1 (statusOf x.2.1) x.2.2) _ _).trans (h.instant c _)

theorem settled (o : Opc) (p : Packet) (a : Answer) : g (Core.settled o p a) = g a.1 := by
  have hnote : g (noteOp o p a) = g a.1 := by
    unfold noteOp
    split
    · exact h.ops _ _
    · rfl
  unfold Core.settled
  dsimp only
  rw [h.flushInstant, h.firstReply, h.mirror, h.taken, hnote]

end Unsaid

/-- A register of the host interface other than the reply ring's index and the doorbells. -/
theorem unsaid_get {off : Nat} (hwindow : window off ≠ 15) (hprod : off ≠ R.HOST_RPL_PROD) (hdb : off ≠ R.HOST_DB_STATUS) :
    Unsaid (Core.get · off) where
  outbox _ _ := rfl
  index c x v hx := c.get_setF_ne v (by rcases hx with e | e <;> rw [e] <;> assumption)
  frame c x hx := c.get_queueFrame_away hx hwindow
  held _ _ := rfl
  pba _ _ := rfl
  ops _ _ := rfl
  later _ _ := rfl
  instant _ _ := rfl
  twin _ _ := rfl
  session _ _ _ _ _ _ := rfl

/-- What the host interface keeps beside messages and sessions. -/
def Core.hostRest (c : Core) : HostPart :=
  { c.host with held := [], pba := 0, ops := [], later := [], instant := [], sessions := [], gained := [] }

/-- An interrupt changes its status bit, the sources that gained a bit, and what its message changes. -/
theorem Core.raise_keeps {α : Type} {g : Core → α} (hset : ∀ (c : Core) (x : Field) (v : Nat), g (c.setF x v) = g c)
    (hgained : ∀ (c : Core) (l : List Nat), g { c with host := { c.host with gained := l } } = g c)
    (hfire : ∀ (c : Core) (st : Nat), g (c.fireSource st) = g c) (c : Core) (x : Field) : g (c.raise x) = g c := by
  unfold Core.raise
  dsimp only
  have hbit := hset c x 1
  generalize c.setF x 1 = d at hbit ⊢
  rw [← hbit]
  split
  · split
    · exact (hfire _ _).trans (hgained d _)
    · exact hgained d _
  · split
    · exact hfire _ _
    · rfl

theorem Core.raise_hostRest (c : Core) (x : Field) : (c.raise x).hostRest = c.hostRest := by
  have hmsix : ∀ (d : Core) (v : Nat), (d.msix v).hostRest = d.hostRest := fun d v => by
    unfold Core.msix
    split <;> rfl
  refine Core.raise_keeps (g := Core.hostRest) (fun _ _ _ => rfl) (fun _ _ => rfl) (fun d st => ?_) c x
  unfold Core.fireSource
  dsimp only
  split
  · exact hmsix _ _
  · rfl

theorem Core.setF_hostRest (c : Core) (x : Field) (v : Nat) : (c.setF x v).hostRest = c.hostRest := rfl

theorem Core.countN_hostRest (c : Core) (r n : Nat) : (c.countN r n).hostRest = c.hostRest := by
  have hraise : ∀ (d : Core) (x : Option Field), (d.raise? x).hostRest = d.hostRest := fun d x => by
    cases x with
    | none => rfl
    | some y => exact d.raise_hostRest y
  unfold Core.countN Core.countS
  dsimp only
  split
  · rw [hraise, Core.setF_hostRest, Core.setF_hostRest]
  · rw [Core.setF_hostRest]

theorem Core.count_hostRest (c : Core) (r : Nat) : (c.count r).hostRest = c.hostRest := c.countN_hostRest r 1

theorem unsaid_hostRest : Unsaid Core.hostRest where
  outbox _ _ := rfl
  index _ _ _ _ := rfl
  frame c x hx := by
    unfold Core.queueFrame
    rw [hx]
    dsimp only
    split
    · rfl
    · split
      · exact (Core.raise_hostRest _ _).trans (Core.count_hostRest c _)
      · rfl
  held _ _ := rfl
  pba _ _ := rfl
  ops _ _ := rfl
  later _ _ := rfl
  instant _ _ := rfl
  twin _ _ := rfl
  session _ _ _ _ _ _ := rfl

/-- A session other than the one that is set. -/
theorem session?_setSession_ne (c : Core) {s : Session} {n : Nat} (h : s.num ≠ n) : (c.setSession s).session? n = c.session? n := by
  unfold Core.session? Core.setSession
  simp only
  induction c.host.sessions with
  | nil => rfl
  | cons x t ih =>
    by_cases hx : x.num = s.num
    · rw [List.map_cons, if_pos hx, List.find?_cons_of_neg (by simpa using h), List.find?_cons_of_neg (by simp [hx, h]), ih]
    · by_cases hn : x.num = n
      · rw [List.map_cons, if_neg hx, List.find?_cons_of_pos (by simpa using hn), List.find?_cons_of_pos (by simpa using hn)]
      · rw [List.map_cons, if_neg hx, List.find?_cons_of_neg (by simpa using hn), List.find?_cons_of_neg (by simpa using hn), ih]

/-- Whether a session is open, and its event mask. -/
theorem unsaid_mask (n : Nat) : Unsaid fun c => (c.session? n).map (·.mask) where
  outbox _ _ := rfl
  index _ _ _ _ := rfl
  frame c x _ := congrArg (Option.map Session.mask) (session?_of_sessions (c.queueFrame_sessions 3 x) n)
  held _ _ := rfl
  pba _ _ := rfl
  ops _ _ := rfl
  later _ _ := rfl
  instant _ _ := rfl
  twin _ _ := rfl
  session c s s' hs hn hmask := by
    by_cases e : s'.num = n
    · subst e
      rw [session?_setSession, hn, hs]
      exact congrArg some hmask
    · rw [session?_setSession_ne c e]

end Sys2Proof.Machine
end

section
/-! Rings, reassembly, sessions and the opcodes of class 0x010x (R138 to R161), and O18. -/

namespace Sys2Proof.Machine
open Sys2Proof

/-! ### Reassembly and rings (R139, R160, R161) -/

/-- The host interface takes a value. -/
def Core.setHost (c : Core) (x : HostPart) : Core := { c with host := x }

theorem ipv4FragmentReceive_whole {c : Core} (hnone : c.host.reasm = []) (src ident : Nat) {bytes : List Byte} (hlen : bytes.length ≤ 4112) :
    ipv4FragmentReceive src ident 0 bytes false c = c.setHost { c.host with reasm := [], datagrams := c.host.datagrams ++ [bytes] } := by
  have hone : assemble 2 [(0, bytes, false)] [] = some bytes := rfl
  unfold ipv4FragmentReceive
  rw [hnone]
  dsimp only [List.find?_nil, Option.map_none, Option.getD_none, List.nil_append, List.length_cons, List.length_nil]
  rw [if_neg (by simp), if_neg (by omega), hone]
  rfl

/-- The length of the packet whose header stands at the front. -/
def headLen (b : List Byte) : Nat := 16 + 8 * ((b.getD 3 0).toNat / 4 % 2) + leNat ((b.drop 6).take 2)

/-- The packet of one slot at the front of the command ring has been read. -/
def Core.slotRead (c : Core) (b : List Byte) : Core :=
  (c.setHost { c.host with unread := [], ring := c.host.ring ++ [b.take (headLen b)] }).setF F.HOST_CMD_CONS_INDEX
    ((c.f F.HOST_CMD_CONS_INDEX + 1) % ringSlots (c.get R.HOST_CMD_SIZE))

theorem Core.readRing_empty {c : Core} (h : c.host.unread = []) (n : Nat) : Core.readRing n c = c := by
  cases n with
  | zero => rfl
  | succ n =>
    unfold Core.readRing
    exact if_pos (.inl (by rw [h]; rfl))

theorem Core.readRing_slot {c : Core} {b : List Byte} (hunread : c.host.unread = b) (hheld : c.host.held = []) (hlen : b.length = 64)
    (hslots : headSlots b = 1) (n : Nat) : Core.readRing (n + 1) c = c.slotRead b := by
  have hne : b ≠ [] := fun e => by simp [e] at hlen
  unfold Core.readRing
  rw [if_neg (by simp [hunread, hheld, hne])]
  dsimp only
  rw [hunread, hslots, if_neg (by omega), List.drop_of_length_le (by omega)]
  exact Core.readRing_empty rfl n

theorem Core.host_written (c : Core) {a : Access} (hold : Nat) (h : ¬(a.off = intStatusOf a.off ∨ a.off = intStatusOf a.off + 4)) :
    (c.written a hold).host = c.host := (congrArg Core.host (c.beside_written hold h []) :)

/-- The bytes of the command ring that the host has posted. -/
def Core.posted (c : Core) (b : List Byte) : Core := c.setHost { c.host with unread := c.host.unread ++ b }

theorem hostCmdProdWrite_reads {c : Core} {m : Nat} {v : Word} {bytes : List Byte} (hserves : c.serves m R.HOST_CMD_PROD = true)
    (hen : (c.written ⟨m, R.HOST_CMD_PROD, v⟩ 0).flag F.HOST_CMD_SIZE_EN = true)
    (hone : ((c.written ⟨m, R.HOST_CMD_PROD, v⟩ 0).f F.HOST_CMD_PROD_INDEX + ringSlots ((c.written ⟨m, R.HOST_CMD_PROD, v⟩ 0).get R.HOST_CMD_SIZE) -
      (c.written ⟨m, R.HOST_CMD_PROD, v⟩ 0).f F.HOST_CMD_CONS_INDEX % ringSlots ((c.written ⟨m, R.HOST_CMD_PROD, v⟩ 0).get R.HOST_CMD_SIZE)) %
        ringSlots ((c.written ⟨m, R.HOST_CMD_PROD, v⟩ 0).get R.HOST_CMD_SIZE) = 1)
    (hunread : c.host.unread = []) (hheld : c.host.held = []) (hlen : bytes.length = 64) (hslots : headSlots bytes = 1) :
    hostCmdProdWrite m v bytes c = ((c.written ⟨m, R.HOST_CMD_PROD, v⟩ 0).posted bytes).slotRead bytes := by
  have hplain : ¬(R.HOST_CMD_PROD = intStatusOf R.HOST_CMD_PROD ∨ R.HOST_CMD_PROD = intStatusOf R.HOST_CMD_PROD + 4) := by decide
  have hhost := c.host_written (a := ⟨m, R.HOST_CMD_PROD, v⟩) 0 hplain
  unfold hostCmdProdWrite
  rw [busWrite_served hserves]
  generalize c.written ⟨m, R.HOST_CMD_PROD, v⟩ 0 = d at hen hone hhost ⊢
  have hwait : d.host.unread = [] := by rw [hhost, hunread]
  have hnone : d.host.held = [] := by rw [hhost, hheld]
  dsimp only
  rw [if_neg (by rw [hen]; decide), hone, hwait]
  change Core.readRing 2 (d.setHost { d.host with unread := bytes.take 64 ++ List.replicate (64 - (bytes.take 64).length) 0 }) = _
  rw [List.take_of_length_le (by omega), hlen, Nat.sub_self, List.replicate_zero, List.append_nil]
  have hposted : d.posted bytes = d.setHost { d.host with unread := bytes } := by
    unfold Core.posted
    rw [hwait, List.nil_append]
  rw [← hposted]
  refine Core.readRing_slot (c := d.posted bytes) ?_ hnone hlen hslots 1
  rw [hposted]
  rfl

theorem replyRingConsume_sends {c : Core} {m : Nat} {v : Word} {x : Msg} (hserves : c.serves m R.HOST_RPL_CONS = true) (hheld : c.host.held = [x])
    (hunread : c.host.unread = []) (hfits : (c.written ⟨m, R.HOST_RPL_CONS, v⟩ 0).ringFits x = true) :
    replyRingConsume m v c = ((c.written ⟨m, R.HOST_RPL_CONS, v⟩ 0).setHost { (c.written ⟨m, R.HOST_RPL_CONS, v⟩ 0).host with held := [] }).ringPut x := by
  have hplain : ¬(R.HOST_RPL_CONS = intStatusOf R.HOST_RPL_CONS ∨ R.HOST_RPL_CONS = intStatusOf R.HOST_RPL_CONS + 4) := by decide
  have hhost := c.host_written (a := ⟨m, R.HOST_RPL_CONS, v⟩) 0 hplain
  unfold replyRingConsume
  rw [busWrite_served hserves]
  generalize c.written ⟨m, R.HOST_RPL_CONS, v⟩ 0 = d at hfits hhost ⊢
  have hone : d.host.held = [x] := by rw [hhost, hheld]
  have hput : ∀ {α : Type} (g : HostPart → α), (∀ (y : HostPart) (n : Nat), g { y with pba := n } = g y) →
      g ((d.setHost { d.host with held := [] }).ringPut x).host = g { d.host with held := [] } := fun g hg => by
    have hmsix : ∀ (e : Core) (n : Nat), g (e.msix n).host = g e.host := fun e n => by
      unfold Core.msix
      split
      · exact hg _ _
      · rfl
    unfold Core.ringPut Core.ring
    dsimp only
    split
    · rfl
    · split
      · rfl
      · exact hmsix _ _
  have hdrain : Core.drainHeld 2 d = (d.setHost { d.host with held := [] }).ringPut x := by
    have hempty := hput HostPart.held fun _ _ => rfl
    unfold Core.drainHeld
    rw [hone]
    dsimp only
    rw [if_pos hfits]
    change Core.drainHeld 1 ((d.setHost { d.host with held := [] }).ringPut x) = _
    generalize (d.setHost { d.host with held := [] }).ringPut x = e at hempty ⊢
    unfold Core.drainHeld
    rw [hempty]
  dsimp only
  rw [hone]
  change Core.readRing (((Core.drainHeld 2 d).host.unread.length) / 64 + 1) (Core.drainHeld 2 d) = _
  rw [hdrain]
  refine Core.readRing_empty ?_ _
  rw [hput HostPart.unread fun _ _ => rfl, hhost]
  exact hunread

/-! ### Sessions (R144, R145, R152, R155) -/

section Sessions
variable (c : Core)

/-- The writes to the store take a value. -/
def Core.setWrites (c : Core) (l : List LibWrite) : Core := { c with flash := { c.flash with writes := l } }

/-- The receptions of sessions that are gone end. -/
def Core.slotsGone (gone : Nat → Bool) (c : Core) : Core :=
  (List.range 2).foldl (fun (c : Core) k =>
    match (c.upSlot k).session with
    | some s => if (c.upSlot k).state = 1 ∧ gone s then c.endSlot k 0 .aborted false else c
    | none => c) c

theorem Core.slotsGone_bystanders (gone : Nat → Bool) : (c.slotsGone gone).bystanders = c.bystanders := by
  refine foldl_keeps Core.bystanders _ (fun e k => ?_) _ c
  split
  · split
    · exact e.endSlot_bystanders _ _ _ _
    · rfl
  · rfl

theorem Core.sessionsGone_bystanders : c.sessionsGone.bystanders = c.bystanders := by
  have hslots : ∀ gone l, ((c.setWrites l).slotsGone gone).bystanders = c.bystanders := fun gone l =>
    Core.slotsGone_bystanders (c.setWrites l) gone
  unfold Core.sessionsGone
  dsimp only
  split
  · exact (Core.smudgeEnd_bystanders _).trans (hslots _ _)
  · exact hslots _ _

theorem Core.setExpert_bystanders (num : Nat) (pcie : Bool) : (c.setExpert num pcie).bystanders = c.bystanders := by
  unfold Core.setExpert Core.setB
  rw [Core.setF_bystanders, Core.setF_bystanders, Core.setF_bystanders]

theorem Core.f_session_setExpert (num : Nat) (pcie : Bool) : (c.setExpert num pcie).f F.HOST_EXPERT_CTRL_SESSION = num % 65536 := by
  unfold Core.setExpert Core.setB
  rw [Core.f_congr (Core.get_setF_ne _ _ (by decide))]
  refine (Core.f_setF_beside _ _ (by decide) (by decide) (by decide) (by decide)).trans ?_
  exact Core.f_setF_field _ _ (by decide) (by decide)

theorem Core.session?_closeSession (num : Nat) : (c.closeSession num).session? num = none := by
  unfold Core.session? Core.closeSession
  dsimp only
  refine List.find?_eq_none.mpr fun x hx => ?_
  simpa using (List.mem_filter.mp hx).2

theorem Core.closeSession_atl (num : Nat) : (c.closeSession num).atl = c.atl := by
  unfold Core.closeSession
  dsimp only
  split
  · exact (congrArg Prod.snd (c.setExpert_bystanders 0 false) :)
  · rfl

theorem Core.session?_gone (num : Nat) : (c.closeSession num).sessionsGone.session? num = none :=
  (session?_of_sessions (congrArg Prod.fst (Core.sessionsGone_bystanders _) :) num).trans (c.session?_closeSession num)

end Sessions

theorem udpSessionTimeout_closes {c : Core} {num : Nat} {x : Session} (hsession : c.session? num = some x) (hudp : isUdp x.transport = true) :
    udpSessionTimeout num c = ((c.closeSession num).sessionsGone).raise F.HOST_INT_STATUS_SESSION_CLOSED := by
  unfold udpSessionTimeout
  rw [hsession]
  exact if_pos hudp

theorem sessionCloseBody_closes (c : Core) (r : Req) : sessionCloseBody c r = ans (c.closeSession r.p.session.toNat).sessionsGone .ok := rfl

theorem eventSubscribeBody_sets {c : Core} {r : Req} {x : Session} (h : c.session? r.p.session.toNat = some x) :
    eventSubscribeBody c r = ans (c.setSession { x with mask := r.w 0 }) .ok := by
  unfold eventSubscribeBody
  rw [h]

theorem sessionLevelBody_expert {c : Core} {r : Req} (hmode : r.n 0 = 1) (hok : c.levelCheck r.p.session.toNat 1 r.p.transport = .ok) :
    sessionLevelBody c r = ans (c.setExpert r.p.session.toNat (isPcie r.p.transport)) .ok := by
  unfold sessionLevelBody
  dsimp only
  rw [hmode, if_neg (fun h => h hok), if_pos rfl]

theorem sessionLevelBody_basic {c : Core} {r : Req} (hmode : r.n 0 = 0) :
    sessionLevelBody c r = ans (if c.isExpert r.p.session.toNat then c.setExpert 0 false else c) .ok := by
  have hok : c.levelCheck r.p.session.toNat 0 r.p.transport = .ok := rfl
  unfold sessionLevelBody
  dsimp only
  rw [hmode, if_neg (fun h => h hok), if_neg (by decide)]

/-- A command that is carried out names a session. -/
theorem session_ne_zero_of_admits {c : Core} {o : Opc} {p : Packet} (h : c.admits o p = true) (ho : o.code ≠ 0x0100) : p.session ≠ 0 := by
  simp only [Core.admits, Bool.and_eq_true, decide_eq_true_eq] at h
  obtain ⟨⟨⟨⟨⟨⟨_, htake⟩, _⟩, _⟩, _⟩, _⟩, _⟩ := h
  intro hzero
  unfold Core.arrival at htake
  rw [hzero] at htake
  repeat' split at htake
  all_goals simp_all

/-- The session that SESSION_OPEN opens. -/
def Core.openedSession (c : Core) (p : Packet) (num : Nat) : Session :=
  { num := num, transport := p.transport, expected := p.seq + 1, base := p.seq, openAt := c.time.cycles
    openReply := natBytes [leNat (pkParams p), (c.get R.SYS_IDENT).toNat, (c.get R.SYS_MODULE_ISSUE).toNat, (c.get R.UPDATE_ACTIVE_VERSION).toNat,
      largestParams p.transport] }

/-- The session stands in the list. -/
def Core.seated (c : Core) (x : Session) : Core :=
  { c with host := { c.host with sessions := c.host.sessions ++ [x], lastNum := x.num } }

/-- The session is open, at expert level where the command asks for it. -/
def Core.opened (c : Core) (p : Packet) (num : Nat) : Core :=
  if leNat (pkParams p) = 1 then (c.seated (c.openedSession p num)).setExpert num (isPcie p.transport) else c.seated (c.openedSession p num)

theorem sessionOpen_opens {c : Core} {p : Packet} {num : Nat} (hpcie : isPcie p.transport = true) (hanswers : c.easelAnswers = true)
    (htake : (c.popRing 0x0100 p).arrival 0x0100 p = .take) (hok : (c.offered { code := 0x0100 } p).openCheck p = .ok)
    (hnum : (c.offered { code := 0x0100 } p).nextSession = some num) :
    sessionOpen p c = ((c.offered { code := 0x0100 } p).opened p num).reply 0x0100 p num .ok
      ((c.offered { code := 0x0100 } p).openedSession p num).openReply := by
  have hnot : isUdp p.transport = false := by
    cases ht : p.transport with
    | pcie => rfl
    | _ => rw [ht] at hpcie; cases hpcie
  unfold sessionOpen sessionOpenOnce
  rw [if_neg (by rw [hnot]; decide), if_neg (by rw [hanswers]; decide)]
  dsimp only
  rw [htake]
  dsimp only
  change (match (c.offered { code := 0x0100 } p).openCheck p, (c.offered { code := 0x0100 } p).nextSession with
    | .ok, some num => _
    | .ok, none => _
    | st, _ => _) = _
  rw [hok, hnum]
  rfl

theorem Core.session?_seated {c : Core} {x : Session} (h : c.session? x.num = none) : (c.seated x).session? x.num = some x := by
  unfold Core.session? at h ⊢
  change (c.host.sessions ++ [x]).find? (fun y => decide (y.num = x.num)) = _
  rw [List.find?_append, h]
  exact List.find?_cons_of_pos (p := fun y : Session => decide (y.num = x.num)) (decide_eq_true rfl)

theorem Core.setExpert_hostRest (c : Core) (num : Nat) (pcie : Bool) : (c.setExpert num pcie).hostRest = c.hostRest := by
  unfold Core.setExpert Core.setB
  rw [Core.setF_hostRest, Core.setF_hostRest, Core.setF_hostRest]

theorem Core.opened_bystanders (c : Core) (p : Packet) (num : Nat) :
    (c.opened p num).bystanders = (c.seated (c.openedSession p num)).bystanders := by
  unfold Core.opened
  generalize c.seated (c.openedSession p num) = d
  split
  · exact d.setExpert_bystanders _ _
  · rfl

theorem Core.session?_opened {c : Core} {num : Nat} (h : c.session? num = none) (p : Packet) :
    (c.opened p num).session? num = some (c.openedSession p num) :=
  (session?_of_sessions (congrArg Prod.fst (c.opened_bystanders p num) :) num).trans (Core.session?_seated (x := c.openedSession p num) h)

theorem Core.opened_atl (c : Core) (p : Packet) (num : Nat) : (c.opened p num).atl = c.atl :=
  (congrArg Prod.snd (c.opened_bystanders p num) :)

theorem Core.lastNum_opened (c : Core) (p : Packet) (num : Nat) : (c.opened p num).hostRest.lastNum = num := by
  unfold Core.opened
  have hseat : (c.seated (c.openedSession p num)).hostRest.lastNum = num := rfl
  generalize c.seated (c.openedSession p num) = d at hseat ⊢
  split
  · rw [Core.setExpert_hostRest, hseat]
  · exact hseat

theorem session?_of_nextSession {c : Core} {num : Nat} (h : c.nextSession = some num) : c.session? num = none := by
  have hfree := List.find?_some (p := fun n => (c.session? n).isNone) h
  exact Option.isNone_iff_eq_none.mp hfree

/-! ### Commands that wait for their time (R148, R149) -/

/-- The host interface and Atelier. -/
def Core.hostAtl (c : Core) : HostPart × AtelierPart := (c.host, c.atl)

theorem Core.setF_hostAtl (c : Core) (x : Field) (v : Nat) : (c.setF x v).hostAtl = c.hostAtl := rfl

theorem Core.setB_hostAtl (c : Core) (x : Field) (b : Bool) : (c.setB x b).hostAtl = c.hostAtl := c.setF_hostAtl x (b2n b)

theorem Core.put_hostAtl (c : Core) (off : Nat) (w : Word) : (c.put off w).hostAtl = c.hostAtl := rfl

theorem Core.regroup_hostAtl (c : Core) (b : Nat) (skip : Option Nat) : (c.regroup b skip).hostAtl = c.hostAtl :=
  Core.regroup_keeps (g := Core.hostAtl) (fun _ _ _ => rfl) c b skip

theorem Core.palShow_hostAtl (c : Core) : c.palShow.hostAtl = c.hostAtl := by
  unfold Core.palShow
  dsimp only
  rw [Core.setB_hostAtl, Core.setB_hostAtl, Core.setF_hostAtl, Core.setF_hostAtl]

theorem Core.dropSwap_hostAtl (c : Core) (q : Swap → Bool) : (c.dropSwap q).hostAtl = c.hostAtl := by
  unfold Core.dropSwap
  dsimp only
  refine (Core.palShow_hostAtl _).trans ?_
  split <;> rfl

theorem Core.dropSwitch_hostAtl (c : Core) : c.dropSwitch.hostAtl = c.hostAtl := by
  have hshow : ∀ d : Core, d.txShowAll.hostAtl = d.hostAtl := fun d =>
    foldl_keeps Core.hostAtl _ (fun e (x : Nat × TxStream) => Core.txShow_keeps (g := Core.hostAtl) Core.put_hostAtl e x.1) _ d
  unfold Core.dropSwitch
  split
  · split
    · rfl
    · dsimp only
      split
      · exact (hshow _).trans (Core.setF_hostAtl _ _ _)
      · rfl
  · rfl

theorem keeps_ite {α β : Type} (g : α → β) {p : Prop} [Decidable p] {x y : α} {v : β} (hx : g x = v) (hy : g y = v) :
    g (if p then x else y) = v := by
  split
  · exact hx
  · exact hy

/-- Undoing a command that was to take effect later takes nothing from the host interface or Atelier. -/
theorem Core.undoTimed_hostAtl (c : Core) (t : Timed) : (c.undoTimed t).hostAtl = c.hostAtl := by
  have hmeas : (c.setMeas none).hostAtl = c.hostAtl := c.setMeas_keeps none Core.setF_hostAtl fun _ _ => rfl
  unfold Core.undoTimed
  dsimp only
  refine keeps_ite Core.hostAtl rfl <| keeps_ite Core.hostAtl (c.dropSwap_hostAtl _) ?_
  refine keeps_ite Core.hostAtl (keeps_ite Core.hostAtl rfl rfl) <| keeps_ite Core.hostAtl (keeps_ite Core.hostAtl rfl rfl) ?_
  refine keeps_ite Core.hostAtl rfl <| keeps_ite Core.hostAtl rfl ?_
  refine keeps_ite Core.hostAtl (Core.regroup_hostAtl _ _ _) <| keeps_ite Core.hostAtl (Core.regroup_hostAtl _ _ _) ?_
  refine keeps_ite Core.hostAtl rfl <| keeps_ite Core.hostAtl (keeps_ite Core.hostAtl hmeas rfl) ?_
  refine keeps_ite Core.hostAtl rfl <| keeps_ite Core.hostAtl rfl <| keeps_ite Core.hostAtl rfl ?_
  exact keeps_ite Core.hostAtl c.dropSwitch_hostAtl rfl

/-- The one command that waited has been cancelled. -/
def Core.cancelled (c : Core) (t : Timed) (session : Nat) (seq : Word) : Core :=
  ((c.setHost { c.host with timed := [] }).undoTimed t).completeNow { session := session, seq := seq, opcode := t.opcode } .aborted []

theorem timedCancelBody_cancels {c : Core} {r : Req} {x : Timed} (hone : c.host.timed = [x]) (hsession : x.packet.session = r.p.session)
    (hseq : x.packet.seq = r.w 0) (hopen : x.committed = false) (hop : x.opcode ≠ 0x0D02) :
    timedCancelBody c r = ans (c.cancelled x r.p.session.toNat (r.w 0)) .ok := by
  unfold timedCancelBody
  dsimp only
  rw [hone, List.find?_cons_of_pos (by simp [hsession, hseq])]
  dsimp only
  rw [if_neg (by simp [hopen, hop]), List.filter_cons_of_neg (by simp [hsession, hseq])]
  rfl

theorem Core.cancelled_parts (c : Core) (t : Timed) (session : Nat) (seq : Word) :
    (c.cancelled t session seq).bystanders = c.bystanders ∧ (c.cancelled t session seq).hostRest.timed = [] := by
  have hundo := (c.setHost { c.host with timed := [] }).undoTimed_hostAtl t
  unfold Core.cancelled
  generalize (c.setHost { c.host with timed := [] }).undoTimed t = d at hundo ⊢
  have hhost : d.host = { c.host with timed := [] } := (congrArg Prod.fst hundo :)
  have hatl : d.atl = c.atl := (congrArg Prod.snd hundo :)
  exact ⟨bystanders_of (congrArg HostPart.sessions hhost :) hatl, (congrArg HostPart.timed hhost :)⟩

theorem timedExecute_drops {c : Core} {x : Timed} (hone : c.host.timed = [x]) (hdue : x.boundary ≤ c.now) (heager : x.eager = true)
    (hown : x.own = true) : timedExecute c = c.setHost { c.host with timed := [] } := by
  have herase : c.host.timed.erase x = [] := by rw [hone]; exact List.erase_cons_head x []
  have hfilter : (c.host.timed.filter fun t => decide (t.boundary ≤ c.now)) = [x] := by
    rw [hone]
    exact List.filter_cons_of_pos (p := fun t : Timed => decide (t.boundary ≤ c.now)) (decide_eq_true hdue)
  unfold timedExecute
  rw [hfilter, List.foldl_cons, List.foldl_nil]
  unfold Core.timedRun
  dsimp only
  rw [if_pos heager, if_pos hown, herase]
  rfl

/-! ### Packets that are not carried out (R144, R146) -/

/-- The packet at the front of the ring has been taken. -/
def Core.ringDropped (c : Core) : Core := c.setHost { c.host with ring := c.host.ring.drop 1 }

theorem isUdp_of_isPcie {t : Transport} (h : isPcie t = true) : isUdp t = false := by
  cases t with
  | pcie => rfl
  | _ => cases h

theorem packetOf_short (tr : Transport) {raw : List Byte} (h : raw.length < 16) : packetOf tr raw = none := by
  unfold packetOf
  exact if_pos h

theorem easelPacketRefused_discards {c : Core} {tr : Transport} {raw : List Byte} (hpcie : isPcie tr = true) (hanswers : c.easelAnswers = true)
    (hshort : raw.length < 16) : easelPacketRefused tr raw c = c.ringDropped.discard := by
  unfold easelPacketRefused refusedOnce
  rw [if_neg (by rw [isUdp_of_isPcie hpcie]; decide), if_neg (by rw [hanswers]; decide), packetOf_short tr hshort]
  dsimp only
  rw [if_pos hpcie]
  rfl

/-- A packet whose opcode nothing carries out has been answered. -/
def Core.badOpcode (c : Core) (op : Nat) (p : Packet) : Core :=
  ((((c.popRing op p).countW R.HOST_EASEL_RX_COUNT 1).taken op p .badOpcode []).firstReply op p (.badOpcode, [])).flushInstant

theorem easelPacketRefused_answers {c : Core} {tr : Transport} {raw : List Byte} {op : Nat} {p : Packet} (hpcie : isPcie tr = true)
    (hanswers : c.easelAnswers = true) (hpacket : packetOf tr raw = some (op, p)) (hissued : issued op = false)
    (htake : (c.popRing op p).arrival op p = .take) : easelPacketRefused tr raw c = c.badOpcode op p := by
  unfold easelPacketRefused refusedOnce
  rw [if_neg (by rw [isUdp_of_isPcie hpcie]; decide), if_neg (by rw [hanswers]; decide), hpacket]
  dsimp only
  rw [htake]
  dsimp only
  rw [if_neg (by rw [hissued]; decide)]
  rfl

/-! ### O18 -/

theorem Core.ringPut_outbox (c : Core) (x : Msg) : x ∈ (c.ringPut x).outbox := by
  have hmsix : ∀ (d : Core) (v : Nat), x ∈ d.outbox → x ∈ (d.msix v).outbox := fun d v h => by
    unfold Core.msix
    split
    · exact h
    · exact List.mem_append_left _ h
  have hput : x ∈ ((c.send x).setF F.HOST_RPL_PROD_INDEX ((c.f F.HOST_RPL_PROD_INDEX + slotsOf (msgBytes x)) % ringSlots (c.get R.HOST_RPL_SIZE))).outbox :=
    c.mem_send x
  unfold Core.ringPut Core.ring
  dsimp only
  split
  · exact hput
  · split
    · exact hput
    · exact hmsix _ _ hput

theorem ringSlots_bounds (w : Word) : 0 < ringSlots w ∧ ringSlots w ≤ 4096 := by
  unfold ringSlots
  dsimp only
  split
  · next h => exact ⟨Nat.two_pow_pos _, Nat.pow_le_pow_right (by decide) h.2⟩
  · decide

theorem Core.f_prod_ringPut (c : Core) (x : Msg) : (c.ringPut x).f F.HOST_RPL_PROD_INDEX =
    (c.f F.HOST_RPL_PROD_INDEX + slotsOf (msgBytes x)) % ringSlots (c.get R.HOST_RPL_SIZE) := by
  obtain ⟨hpos, hbound⟩ := ringSlots_bounds (c.get R.HOST_RPL_SIZE)
  have hmod := Nat.mod_lt (c.f F.HOST_RPL_PROD_INDEX + slotsOf (msgBytes x)) hpos
  unfold Core.ringPut
  rw [Core.f_congr (Core.get_ring_ne _ (by decide))]
  refine (Core.f_setF_field _ _ (by decide) (by decide)).trans (Nat.mod_eq_of_lt ?_)
  exact Nat.lt_of_lt_of_le (Nat.lt_of_lt_of_le hmod hbound) (by decide)

theorem session_of_take {c : Core} {op : Nat} {p : Packet} (h : c.arrival op p = .take) (hop : op ≠ 0x0100) :
    (c.session? p.session.toNat).isSome = true := by
  unfold Core.arrival at h
  repeat' split at h
  all_goals first | (cases h; done) | skip
  next hs _ _ _ _ => rw [hs]; rfl

theorem bystanders_ringPut (c : Core) (x : Msg) : (c.ringPut x).bystanders = c.bystanders := by
  unfold Core.ringPut
  exact (Core.ring_bystanders _ _).trans (Core.setF_bystanders _ _ _)

theorem Core.held_ringPut (c : Core) (x : Msg) : (c.ringPut x).host.held = c.host.held := by
  have hmsix : ∀ (d : Core) (n : Nat), (d.msix n).host.held = d.host.held := fun d n => by
    unfold Core.msix
    split <;> rfl
  unfold Core.ringPut Core.ring
  dsimp only
  split
  · rfl
  · split
    · rfl
    · exact hmsix _ _

theorem Core.closed_bystanders (c : Core) (num : Nat) : ((c.closeSession num).sessionsGone.raise F.HOST_INT_STATUS_SESSION_CLOSED).atl = c.atl :=
  (Core.raise_atl _ _).trans ((congrArg Prod.snd (Core.sessionsGone_bystanders _) :).trans (c.closeSession_atl num))

theorem Core.settled_timed (o : Opc) (p : Packet) (a : Answer) : (Core.settled o p a).host.timed = a.1.host.timed :=
  (congrArg HostPart.timed (unsaid_hostRest.settled o p a) :)

theorem Core.settled_expert (o : Opc) (p : Packet) (a : Answer) :
    (Core.settled o p a).f F.HOST_EXPERT_CTRL_SESSION = a.1.f F.HOST_EXPERT_CTRL_SESSION :=
  Core.f_congr ((unsaid_get (off := R.HOST_EXPERT_CTRL) (by decide) (by decide) (by decide)).settled o p a)

theorem Core.isExpert_of_f {c d : Core} (h : c.f F.HOST_EXPERT_CTRL_SESSION = d.f F.HOST_EXPERT_CTRL_SESSION) (n : Nat) :
    c.isExpert n = d.isExpert n := by
  unfold Core.isExpert
  rw [h]

theorem Core.settled_isExpert (o : Opc) (p : Packet) (a : Answer) (n : Nat) : (Core.settled o p a).isExpert n = a.1.isExpert n :=
  Core.isExpert_of_f (Core.settled_expert o p a) n

theorem Core.isExpert_setExpert_same (c : Core) {n : Nat} (hn : n ≠ 0) (hlow : n < 65536) (b : Bool) : (c.setExpert n b).isExpert n = true := by
  unfold Core.isExpert
  rw [Core.f_session_setExpert, Nat.mod_eq_of_lt hlow]
  simp [hn]

theorem Core.isExpert_setExpert_none (c : Core) (n : Nat) (b : Bool) : (c.setExpert 0 b).isExpert n = false := by
  unfold Core.isExpert
  rw [Core.f_session_setExpert, Nat.zero_mod]
  by_cases hn : n = 0
  · rw [hn]
    rfl
  · rw [decide_eq_false fun h : 0 = n => hn h.symm, Bool.and_false]

theorem Core.get_popRing (c : Core) (op : Nat) (p : Packet) (off : Nat) : (c.popRing op p).get off = c.get off := by
  unfold Core.popRing
  split
  · rfl
  · split <;> rfl

theorem Core.atl_taken (c : Core) (op : Nat) (p : Packet) (st : Status) (l : List Byte) : (c.taken op p st l).atl = c.atl :=
  (congrArg Core.atl (c.taken_rest op p st l) :)

theorem Core.badOpcode_atl (c : Core) (op : Nat) (p : Packet) : (c.badOpcode op p).atl = c.atl := by
  unfold Core.badOpcode
  rw [Core.flushInstant_atl, Core.firstReply_atl, Core.atl_taken, Core.countW_atl, Core.popRing_atl]

theorem Core.told_badOpcode {c : Core} {op : Nat} {p : Packet} (h : ((c.popRing op p).session? p.session.toNat).isSome = true) :
    (c.badOpcode op p).told p = some (statusCode .badOpcode, []) := by
  refine told_of_lastTold ?_
  unfold Core.badOpcode
  rw [lastTold_of_sessions (Core.flushInstant_sessions _), firstReply_lastTold]
  exact taken_lastTold (by rwa [session?_of_sessions (Core.countW_sessions _ _ _)]) _ _ _

theorem Core.rxCount_badOpcode (c : Core) (op : Nat) (p : Packet) :
    (c.badOpcode op p).get R.HOST_EASEL_RX_COUNT = c.get R.HOST_EASEL_RX_COUNT + 1 := by
  have hcount := unsaid_get (off := R.HOST_EASEL_RX_COUNT) (by decide) (by decide) (by decide)
  unfold Core.badOpcode
  refine (hcount.flushInstant _).trans ((hcount.firstReply _ _ _ _).trans ((hcount.taken _ _ _ _ _).trans ?_))
  refine (Core.get_countW_plain _ 1 (by decide)).trans ?_
  rw [Core.get_popRing]
  rfl

theorem Core.discard_atl (c : Core) : c.discard.atl = c.atl := (Core.raise_atl _ _).trans (Core.count_atl _ _)

theorem Core.discard_counts (c : Core) : c.discard.flag F.HOST_INT_STATUS_DISCARD = true ∧
    c.discard.f ⟨R.HOST_EASEL_DISCARD, 15, 0⟩ = min 65535 (c.f ⟨R.HOST_EASEL_DISCARD, 15, 0⟩ + 1) ∧ c.discard.host.ring = c.host.ring := by
  refine ⟨Core.flag_raise_same _ _ _ (by decide), ?_, ?_⟩
  · unfold Core.discard
    rw [Core.f_raise_off _ (by decide), Core.f_count_same _ (by decide), min_comm]
  · exact (congrArg HostPart.ring ((Core.raise_hostRest _ _).trans (Core.count_hostRest c R.HOST_EASEL_DISCARD)) :)

theorem Core.session?_closed (c : Core) (p : Packet) :
    (Core.settled opSessionClose p (ans (c.closeSession p.session.toNat).sessionsGone .ok)).session? p.session.toNat = none := by
  have hgone := c.session?_gone p.session.toNat
  generalize (c.closeSession p.session.toNat).sessionsGone = d at hgone ⊢
  exact Option.map_eq_none_iff.mp (((unsaid_mask p.session.toNat).settled opSessionClose p (ans d .ok)).trans (congrArg (Option.map Session.mask) hgone))

/-- Settles O18: each clause follows the host interface's own operation on the reassembly list, the rings, the sessions or the waiting commands,
and what settling a command leaves of them. -/
theorem hostRingsAndSessionsComplete : Obligations.HostRingsAndSessionsComplete := by
  unfold Obligations.HostRingsAndSessionsComplete
  refine ⟨?_, ?_, ?_, ?_, ?_, ?_, ?_, ?_, ?_, ?_, ?_, ?_, ?_, ?_, ?_, ?_⟩
  case _ =>
    intro s src ident offset bytes more hq hnone hoffset hmore hlen
    subst hoffset
    subst hmore
    exact completes_of_eq rfl hq (ipv4FragmentReceive_whole hnone src ident hlen) rfl ⟨rfl, rfl⟩
  case _ =>
    intro s src ident hq
    exact completes_of_eq rfl hq rfl rfl ⟨rfl, rfl⟩
  case _ =>
    intro s m v bytes c hserves hq hen hone hunread hheld hlen hslots
    have hplain : ¬(R.HOST_CMD_PROD = intStatusOf R.HOST_CMD_PROD ∨ R.HOST_CMD_PROD = intStatusOf R.HOST_CMD_PROD + 4) := by decide
    have hring : c.host.ring = s.core.host.ring := congrArg HostPart.ring (s.core.host_written (a := ⟨m, R.HOST_CMD_PROD, v⟩) 0 hplain)
    have hatl : c.atl = s.core.atl := s.core.written_atl _ _
    refine completes_of_eq rfl hq (hostCmdProdWrite_reads hserves hen hone hunread hheld hlen hslots) hatl ?_
    rw [← hring]
    exact ⟨rfl, rfl⟩
  case _ =>
    intro s m v x c hserves hq hheld hunread hfits
    refine completes_of_eq rfl hq (replyRingConsume_sends hserves hheld hunread hfits) ?_ ⟨?_, ?_, ?_⟩
    · exact (congrArg Prod.snd (bystanders_ringPut _ _) :).trans (s.core.written_atl _ _)
    · exact Core.held_ringPut _ _
    · exact Core.ringPut_outbox _ _
    · exact Core.f_prod_ringPut _ _
  case _ =>
    intro s num x hq hsession hudp
    refine completes_of_eq rfl hq (udpSessionTimeout_closes hsession hudp) (Core.closed_bystanders _ _) ⟨?_, ?_⟩
    · exact (session?_of_sessions (Core.raise_sessions _ _) num).trans (Core.session?_gone s.core num)
    · exact Core.flag_raise_same _ _ _ (by decide)
  case _ =>
    intro s p num hq hpcie hanswers htake hok hnum
    refine completes_of_eq rfl hq (sessionOpen_opens hpcie hanswers htake hok hnum) ?_ ?_
    · rw [Core.reply_atl, Core.opened_atl, Core.offered_atl]
    · have hopen := Core.session?_opened (session?_of_nextSession hnum) p
      have hlast := Core.lastNum_opened (s.core.offered { code := 0x0100 } p) p num
      rw [State.core_of_core, session?_of_sessions (Core.reply_sessions _ _ _ _ _ _), hopen]
      exact ⟨rfl, (congrArg HostPart.lastNum (unsaid_hostRest.reply _ _ _ _ _ _) :).trans hlast⟩
  case _ =>
    intro s p c r hadmits hq
    have heasel := (easel_admitted hadmits sessionCloseBody).trans (congrArg _ (sessionCloseBody_closes c r))
    refine completes_of_eq rfl hq heasel ?_ ?_
    · rw [Core.settled_atl]
      exact (congrArg Prod.snd (Core.sessionsGone_bystanders _) :).trans ((c.closeSession_atl _).trans (Core.offered_atl _ _ _))
    · exact c.session?_closed p
  case _ =>
    intro s p c r hadmits hq
    exact completes_of_body rfl hadmits hq (by decide) rfl rfl fun t h => h.told
  case _ =>
    intro s p c r hadmits hq
    obtain ⟨x, hx⟩ := Option.isSome_iff_exists.mp (admits_session hadmits (by decide))
    have hsession : c.session? p.session.toNat = some x := (session?_of_sessions (Core.offered_sessions _ _ _) _).trans hx
    have heasel := (easel_admitted hadmits eventSubscribeBody).trans (congrArg _ (eventSubscribeBody_sets (r := r) hsession))
    have hset : (c.setSession { x with mask := r.w 0 }).session? p.session.toNat = some { x with mask := r.w 0 } := by
      have hnum : x.num = p.session.toNat := session?_num hsession
      rw [session?_setSession_of c (s := { x with mask := r.w 0 }) hnum, hsession]
      rfl
    refine completes_of_eq rfl hq heasel ?_ ⟨?_, ?_⟩
    · rw [Core.settled_atl]
      exact Core.offered_atl _ _ _
    · exact settled_told (congrArg Option.isSome hset)
    · exact ((unsaid_mask p.session.toNat).settled opEventSubscribe p (ans (c.setSession { x with mask := r.w 0 }) .ok)).trans
        (congrArg (Option.map Session.mask) hset)
  case _ =>
    intro s p c r hadmits hq hmode hok hlow
    have hby := c.setExpert_bystanders r.p.session.toNat (isPcie r.p.transport)
    have hne := session_ne_zero_of_admits hadmits (by decide)
    have hexpert : (c.setExpert r.p.session.toNat (isPcie r.p.transport)).isExpert p.session.toNat = true :=
      c.isExpert_setExpert_same (fun e => hne (BitVec.eq_of_toNat_eq e)) (by omega) _
    have hbody := sessionLevelBody_expert hmode hok
    generalize c.setExpert r.p.session.toNat (isPcie r.p.transport) = d at hby hexpert hbody
    refine completes_of_answer rfl hadmits hq (by decide) hbody
      (congrArg Prod.fst hby) (congrArg Prod.snd hby) fun htold => ⟨htold, ?_⟩
    rw [State.core_of_core, Core.settled_isExpert]
    exact hexpert
  case _ =>
    intro s p c r hadmits hq hmode
    have hby : (if c.isExpert r.p.session.toNat then c.setExpert 0 false else c).bystanders = c.bystanders :=
      keeps_ite Core.bystanders (c.setExpert_bystanders 0 false) rfl
    have hexpert : (if c.isExpert p.session.toNat then c.setExpert 0 false else c).isExpert p.session.toNat = false := by
      split
      · exact c.isExpert_setExpert_none _ _
      · next h => exact Bool.eq_false_iff.mpr h
    refine completes_of_answer rfl hadmits hq (by decide) (sessionLevelBody_basic hmode)
      (congrArg Prod.fst hby) (congrArg Prod.snd hby) fun htold => ⟨htold, ?_⟩
    rw [State.core_of_core, Core.settled_isExpert]
    exact hexpert
  case _ =>
    intro s p x c r hadmits hq hone hsession hseq hopen hop
    obtain ⟨hby, (htimed : (c.cancelled x r.p.session.toNat (r.w 0)).host.timed = [])⟩ := c.cancelled_parts x r.p.session.toNat (r.w 0)
    refine completes_of_answer rfl hadmits hq (by decide) (timedCancelBody_cancels hone hsession hseq hopen hop)
      (congrArg Prod.fst hby) (congrArg Prod.snd hby) fun htold => ⟨htold, ?_⟩
    exact (Core.settled_timed _ _ _).trans htimed
  case _ =>
    intro s hq
    exact completes_of_eq rfl hq rfl rfl rfl
  case _ =>
    intro s x hq hone hdue heager hown
    exact completes_of_eq rfl hq (timedExecute_drops hone hdue heager hown) rfl ⟨rfl, rfl⟩
  case _ =>
    intro s tr raw hq hpcie hanswers hshort
    refine completes_of_eq rfl hq (easelPacketRefused_discards hpcie hanswers hshort) ?_ ?_
    · exact Core.discard_atl _
    · exact s.core.ringDropped.discard_counts
  case _ =>
    intro s tr raw op p hq hpcie hanswers hpacket hop hissued htake
    have hopen := session_of_take htake hop
    exact completes_of_eq rfl hq (easelPacketRefused_answers hpcie hanswers hpacket hissued htake) (Core.badOpcode_atl _ _ _)
      ⟨Core.told_badOpcode hopen, Core.rxCount_badOpcode _ _ _⟩

end Sys2Proof.Machine
end

section
/-! The writes in flight of a Brush core (R390 to R395, R414), parallel instructions, and O33. -/

namespace Sys2Proof.Machine
open Sys2Proof

/-! ### Writes that land -/

/-- A reading of a core that neither the list of writes in flight nor the cycle count changes. -/
structure Landed {α : Type} (g : BrushCore → α) : Prop where
  writes : ∀ (x : BrushCore) (l : List BcWrite), g { x with writes := l } = g x
  cycle : ∀ (x : BrushCore) (n : Nat), g { x with cycle := n } = g x

theorem landed_acc : Landed BrushCore.acc := ⟨fun _ _ => rfl, fun _ _ => rfl⟩

theorem BrushCore.writes_apply (x : BrushCore) (op : BcOp) : (x.apply op).writes = x.writes := by
  have hacc : ∀ r vs, (x.setAcc r vs).writes = x.writes := fun r vs => by
    unfold BrushCore.setAcc BrushCore.sticky
    dsimp only
    split <;> rfl
  cases op with
  | accSet r vs => exact hacc _ _
  | accAdd r vs => exact hacc _ _
  | _ => rfl

theorem BrushCore.writes_landAt (x : BrushCore) (t : Nat) : (x.landAt t).writes = x.writes.filter fun w => decide (w.from_ ≠ t) := by
  unfold BrushCore.landAt
  exact foldl_keeps BrushCore.writes _ (fun y (w : BcWrite) => y.writes_apply w.op) _ _

/-- Writes that land leave a reading alone when each of them does. -/
theorem Landed.landAt {α : Type} {g : BrushCore → α} (hg : Landed g) (x : BrushCore) (t : Nat)
    (h : ∀ w ∈ x.writes, w.from_ = t → ∀ y, g (y.apply w.op) = g y) : g (x.landAt t) = g x := by
  unfold BrushCore.landAt
  refine (foldl_keeps_of_mem g _ _ (fun w hw y => ?_) _).trans (hg.writes x _)
  obtain ⟨hmem, hfrom⟩ := List.mem_filter.mp hw
  exact h w hmem (of_decide_eq_true hfrom) y

/-- The one write of a cycle lands. -/
theorem BrushCore.landAt_one {x : BrushCore} {t : Nat} {op : BcOp} (h : (x.writes.filter fun w => decide (w.from_ = t)) = [⟨t, op⟩]) :
    x.landAt t = ({ x with writes := x.writes.filter fun w => decide (w.from_ ≠ t) } : BrushCore).apply op := by
  unfold BrushCore.landAt
  rw [h]
  rfl

/-- The landings of the six cycles that settle a core. -/
theorem Landed.settle {α : Type} {g : BrushCore → α} (hg : Landed g) (x : BrushCore) :
    g x.settle = g ((((((x.landAt (x.cycle + 1)).landAt (x.cycle + 2)).landAt (x.cycle + 3)).landAt (x.cycle + 4)).landAt
      (x.cycle + 5)).landAt (x.cycle + 6)) := by
  unfold BrushCore.settle BrushCore.pass
  exact (hg.cycle _ _).trans ((hg.cycle _ _).trans rfl)

/-- A property that one write of a cycle brings about and no other write of that cycle takes away. -/
theorem BrushCore.landAt_sets {P : BrushCore → Prop} {x : BrushCore} {t : Nat} {w : BcWrite} (hw : w ∈ x.writes) (hfrom : w.from_ = t)
    (hset : ∀ y : BrushCore, P (y.apply w.op)) (hkeep : ∀ v ∈ x.writes, v.from_ = t → ∀ y : BrushCore, P y → P (y.apply v.op)) : P (x.landAt t) := by
  have hin : w ∈ x.writes.filter fun w => decide (w.from_ = t) := List.mem_filter.mpr ⟨hw, decide_eq_true hfrom⟩
  have hall : ∀ v ∈ x.writes.filter fun w => decide (w.from_ = t), ∀ y : BrushCore, P y → P (y.apply v.op) := fun v hv =>
    hkeep v (List.mem_filter.mp hv).1 (of_decide_eq_true (List.mem_filter.mp hv).2)
  unfold BrushCore.landAt
  generalize x.writes.filter (fun w => decide (w.from_ = t)) = l at hin hall ⊢
  generalize ({ x with writes := _ } : BrushCore) = y
  induction l generalizing y with
  | nil => cases hin
  | cons v l ih =>
    have hrest : ∀ z, P z → P (l.foldl (fun (x : BrushCore) w => x.apply w.op) z) := fun z hz => by
      have hl : ∀ u ∈ l, ∀ y : BrushCore, P y → P (y.apply u.op) := fun u hu => hall u (List.mem_cons_of_mem _ hu)
      clear ih hin hall
      induction l generalizing z with
      | nil => exact hz
      | cons u l ih => exact ih _ (hl u List.mem_cons_self _ hz) fun a ha => hl a (List.mem_cons_of_mem _ ha)
    rcases List.mem_cons.mp hin with rfl | htail
    · exact hrest _ (hset y)
    · exact ih htail (fun u hu => hall u (List.mem_cons_of_mem _ hu)) _

/-! ### What an instruction's writes leave when they have landed -/

/-- What a core keeps of its registers. -/
def BrushCore.kept (x : BrushCore) : SMap Nat × SMap (List Int) × SMap (List Int) := (x.sc, x.vec, x.acc)

theorem landed_kept : Landed BrushCore.kept := ⟨fun _ _ => rfl, fun _ _ => rfl⟩

theorem BrushCore.settle_kept_of_idle {x : BrushCore} (h : x.writes = []) : x.settle.kept = x.kept := by
  have hland : ∀ {y : BrushCore} (t : Nat), y.writes = [] → (y.landAt t).writes = [] ∧ (y.landAt t).kept = y.kept := fun {y} t hy => by
    refine ⟨by rw [y.writes_landAt, hy]; rfl, landed_kept.landAt y t fun w hw => ?_⟩
    rw [hy] at hw
    cases hw
  obtain ⟨h1, k1⟩ := hland (x.cycle + 1) h
  obtain ⟨h2, k2⟩ := hland (x.cycle + 2) h1
  obtain ⟨h3, k3⟩ := hland (x.cycle + 3) h2
  obtain ⟨h4, k4⟩ := hland (x.cycle + 4) h3
  obtain ⟨h5, k5⟩ := hland (x.cycle + 5) h4
  obtain ⟨_, k6⟩ := hland (x.cycle + 6) h5
  rw [landed_kept.settle, k6, k5, k4, k3, k2, k1]

/-- The core in the cycle after it has issued writes, its PC advanced. -/
def BrushCore.issued (x : BrushCore) (ws : List BcWrite) : BrushCore := (({ x with writes := ws } : BrushCore).pass 1).advance

section Issued
variable (x : BrushCore) (ws : List BcWrite)

theorem BrushCore.advance_keeps : x.advance.writes = x.writes ∧ x.advance.cycle = x.cycle ∧ x.advance.acc = x.acc := by
  unfold BrushCore.advance
  split
  · exact ⟨rfl, rfl, rfl⟩
  · dsimp only
    split
    · split <;> exact ⟨rfl, rfl, rfl⟩
    · exact ⟨rfl, rfl, rfl⟩

theorem BrushCore.pass_one : x.pass 1 = { x.landAt (x.cycle + 1) with cycle := x.cycle + 1 } := rfl

theorem BrushCore.cycle_issued : (x.issued ws).cycle = x.cycle + 1 := by
  unfold BrushCore.issued
  rw [(BrushCore.advance_keeps _).2.1]
  rfl

theorem BrushCore.writes_issued : (x.issued ws).writes = ws.filter fun w => decide (w.from_ ≠ x.cycle + 1) := by
  unfold BrushCore.issued
  rw [(BrushCore.advance_keeps _).1, BrushCore.pass_one]
  exact BrushCore.writes_landAt _ _

theorem BrushCore.acc_issued (h : ∀ w ∈ ws, w.from_ = x.cycle + 1 → ∀ y : BrushCore, (y.apply w.op).acc = y.acc) :
    (x.issued ws).acc = x.acc := by
  unfold BrushCore.issued
  rw [(BrushCore.advance_keeps _).2.2, BrushCore.pass_one]
  exact landed_acc.landAt { x with writes := ws } _ h

/-- Writes that land in later cycles than the third leave a settled core as it is after the third landing. -/
theorem Landed.settle_of_early {α : Type} {g : BrushCore → α} (hg : Landed g) {z : BrushCore} (h : ∀ w ∈ z.writes, w.from_ ≤ z.cycle + 2) :
    g z.settle = g ((z.landAt (z.cycle + 1)).landAt (z.cycle + 2)) := by
  have hlate : ∀ {y : BrushCore} {n : Nat}, (∀ w ∈ y.writes, w ∈ z.writes) → 2 < n →
      g (y.landAt (z.cycle + n)) = g y ∧ ∀ w ∈ (y.landAt (z.cycle + n)).writes, w ∈ z.writes := fun {y n} hy hn => by
    refine ⟨hg.landAt y _ fun w hw hfrom => ?_, fun w hw => ?_⟩
    · have := h w (hy w hw)
      omega
    · rw [y.writes_landAt] at hw
      exact hy w (List.mem_filter.mp hw).1
  have hstart : ∀ w ∈ ((z.landAt (z.cycle + 1)).landAt (z.cycle + 2)).writes, w ∈ z.writes := fun w hw => by
    rw [BrushCore.writes_landAt, BrushCore.writes_landAt] at hw
    exact (List.mem_filter.mp (List.mem_filter.mp hw).1).1
  obtain ⟨e3, h3⟩ := hlate hstart (show 2 < 3 by decide)
  obtain ⟨e4, h4⟩ := hlate h3 (show 2 < 4 by decide)
  obtain ⟨e5, h5⟩ := hlate h4 (show 2 < 5 by decide)
  obtain ⟨e6, _⟩ := hlate h5 (show 2 < 6 by decide)
  rw [hg.settle, e6, e5, e4, e3]

/-- An accumulator's write lands on the accumulators that the instruction found. -/
theorem BrushCore.settle_issued_acc {op : BcOp} {l : List BcWrite} (h : ∀ w ∈ l, w.from_ ≤ x.cycle + 2 ∧ ∀ y : BrushCore, (y.apply w.op).acc = y.acc) :
    ∃ q : BrushCore, q.acc = x.acc ∧ (x.issued (⟨x.cycle + 3, op⟩ :: l)).settle.kept = (q.apply op).kept := by
  have hcycle := x.cycle_issued (⟨x.cycle + 3, op⟩ :: l)
  have hwrites := x.writes_issued (⟨x.cycle + 3, op⟩ :: l)
  rw [List.filter_cons_of_pos (by simp)] at hwrites
  have hacc := x.acc_issued (⟨x.cycle + 3, op⟩ :: l) fun w hw hfrom => by
    rcases List.mem_cons.mp hw with rfl | hw
    · exact absurd (show x.cycle + 3 = x.cycle + 1 from hfrom) (by omega)
    · exact (h w hw).2
  generalize x.issued (⟨x.cycle + 3, op⟩ :: l) = z at hcycle hwrites hacc ⊢
  have hz : ∀ w ∈ z.writes, w = ⟨x.cycle + 3, op⟩ ∨ w ∈ l := fun w hw => by
    rw [hwrites] at hw
    exact (List.mem_cons.mp hw).imp id fun h => (List.mem_filter.mp h).1
  have hearly : ∀ w ∈ z.writes, w.from_ ≤ z.cycle + 2 := fun w hw => by
    rw [hcycle]
    rcases hz w hw with rfl | hl
    · exact Nat.le_refl _
    · have := (h w hl).1
      omega
  have hland : (z.landAt (z.cycle + 1)).acc = z.acc := landed_acc.landAt z _ fun w hw hfrom => by
    rcases hz w hw with rfl | hl
    · exact absurd (show x.cycle + 3 = z.cycle + 1 from hfrom) (by omega)
    · exact (h w hl).2
  have hlast : ((z.landAt (z.cycle + 1)).writes.filter fun w => decide (w.from_ = z.cycle + 2)) = [⟨z.cycle + 2, op⟩] := by
    rw [BrushCore.writes_landAt, hwrites, hcycle, List.filter_cons_of_pos (by simp), List.filter_cons_of_pos (by simp)]
    refine congrArg (List.cons _) (List.filter_eq_nil_iff.mpr fun w hw => ?_)
    have := (h w (List.mem_filter.mp (List.mem_filter.mp hw).1).1).1
    simp only [decide_eq_true_eq]
    omega
  refine ⟨_, ?_, (landed_kept.settle_of_early hearly).trans (congrArg BrushCore.kept (BrushCore.landAt_one hlast))⟩
  exact hland.trans hacc

/-- What a write of the second cycle brings about, and no other of that cycle takes away, holds of the settled core when no write lands
later. -/
theorem BrushCore.settle_issued_sets {P : BrushCore → Prop} (hP : Landed P) {w : BcWrite} (hw : w ∈ ws) (hfrom : w.from_ = x.cycle + 2)
    (hlast : ∀ v ∈ ws, v.from_ ≤ x.cycle + 2) (hset : ∀ y : BrushCore, P (y.apply w.op))
    (hkeep : ∀ v ∈ ws, v.from_ = x.cycle + 2 → ∀ y : BrushCore, P y → P (y.apply v.op)) : P (x.issued ws).settle := by
  have hcycle := x.cycle_issued ws
  have hwrites := x.writes_issued ws
  generalize x.issued ws = z at hcycle hwrites ⊢
  have hz : ∀ v ∈ z.writes, v ∈ ws := fun v hv => by
    rw [hwrites] at hv
    exact (List.mem_filter.mp hv).1
  have hin : w ∈ z.writes := by
    rw [hwrites]
    exact List.mem_filter.mpr ⟨hw, decide_eq_true (by omega)⟩
  rw [hP.settle_of_early fun v hv => by have := hlast v (hz v hv); omega]
  have hidle : P ((z.landAt (z.cycle + 1)).landAt (z.cycle + 2)) = P (z.landAt (z.cycle + 1)) := hP.landAt _ _ fun v hv hv2 => by
    rw [BrushCore.writes_landAt] at hv
    have := hlast v (hz v (List.mem_filter.mp hv).1)
    omega
  rw [hidle]
  exact BrushCore.landAt_sets hin (by omega) hset fun v hv hv1 => hkeep v (hz v hv) (by omega)

end Issued

/-! ### Registers and flags -/

theorem BrushCore.bitOf_setS_sr (y : BrushCore) {n : Nat} (hn : n = 4 ∨ n = 5) (v : Nat) :
    bitOf (y.setS 51 (v ||| 2 ^ n)).sr n = true := by
  have hs : (y.setS 51 (v ||| 2 ^ n)).s 51 = (v ||| 2 ^ n) &&& srMask := smGet_smSet_same _ _ _ _
  unfold BrushCore.sr
  rw [hs]
  have hmask : Nat.testBit srMask n = true ∧ n < 32 := by rcases hn with rfl | rfl <;> decide
  have hbit : Nat.testBit (((v ||| 2 ^ n) &&& srMask) % 2 ^ 32) n = true := by
    rw [Nat.testBit_mod_two_pow, Nat.testBit_and, Nat.testBit_or, Nat.testBit_two_pow_self, hmask.1, decide_eq_true hmask.2, Bool.or_true]
    rfl
  rw [Nat.testBit_eq_decide_div_mod_eq] at hbit
  exact beq_iff_eq.mpr (of_decide_eq_true hbit)

theorem BrushCore.a_setAcc (y : BrushCore) (r : Nat) (vs : List Int) : (y.setAcc r vs).a r = vs.map (sat 56) := by
  have hput : ∀ on : Bool, ((({ y with acc := smSet (fun _ => [0, 0, 0, 0]) y.acc r (vs.map (sat 56)) } : BrushCore).sticky 5 on)).a r =
      vs.map (sat 56) := fun on => by
    unfold BrushCore.sticky
    split <;> exact smGet_smSet_same _ _ _ _
  exact hput _

theorem map_ne_of_any {f : Int → Int} {l : List Int} (h : l.any (fun q => decide (f q ≠ q)) = true) : l.map f ≠ l := by
  obtain ⟨q, hq, hne⟩ := List.any_eq_true.mp h
  intro e
  exact of_decide_eq_true hne (List.map_inj_left.mp (e.trans l.map_id.symm) q hq)

theorem BrushCore.aov_setAcc (y : BrushCore) (r : Nat) {vs : List Int} (h : vs.map (sat 56) ≠ vs) : bitOf (y.setAcc r vs).sr 5 = true := by
  unfold BrushCore.setAcc
  dsimp only
  rw [decide_eq_true h]
  exact BrushCore.bitOf_setS_sr _ (.inr rfl) _

/-! ### Parallel instructions -/

/-- A write of a memory slot or of the pointers, seen from the first or the second cycle after cycle t. -/
inductive SlotWrite (t : Nat) (loads : Nat → Bool) : BcWrite → Prop
  | load (r : Nat) (l : List Int) (h : loads r = true) : SlotWrite t loads ⟨t + 2, .lanes r l⟩
  | loadSat : SlotWrite t loads ⟨t + 2, .flags 16 16⟩
  | storeSat : SlotWrite t loads ⟨t + 1, .flags 16 16⟩
  | pointer (code v : Nat) : SlotWrite t loads ⟨t + 1, .scalar code v⟩

namespace SlotWrite
variable {t : Nat} {loads : Nat → Bool} {w : BcWrite}

theorem early (h : SlotWrite t loads w) : w.from_ ≤ t + 2 := by
  cases h with
  | load | loadSat => exact Nat.le_refl _
  | storeSat | pointer => exact Nat.le_succ _

theorem acc (h : SlotWrite t loads w) (y : BrushCore) : (y.apply w.op).acc = y.acc := by
  cases h <;> rfl

theorem mono {loads' : Nat → Bool} (h : SlotWrite t loads w) (hl : ∀ r, loads r = true → loads' r = true) : SlotWrite t loads' w := by
  cases h with
  | load r l hr => exact .load r l (hl r hr)
  | loadSat => exact .loadSat
  | storeSat => exact .storeSat
  | pointer code v => exact .pointer code v

/-- No load of a register takes its lanes. -/
theorem v (h : SlotWrite t loads w) {r : Nat} (hr : loads r = false) (hfrom : w.from_ = t + 2) (y : BrushCore) : (y.apply w.op).v r = y.v r := by
  cases h with
  | load r' l hl =>
    refine smGet_smSet_ne _ _ _ fun e => ?_
    rw [e, hl] at hr
    cases hr
  | loadSat => rfl
  | storeSat => exact absurd (show t + 1 = t + 2 from hfrom) (by omega)
  | pointer => exact absurd (show t + 1 = t + 2 from hfrom) (by omega)

/-- SAT stays. -/
theorem sat (h : SlotWrite t loads w) (hfrom : w.from_ = t + 2) (y : BrushCore) (hy : bitOf y.sr 4 = true) : bitOf (y.apply w.op).sr 4 = true := by
  cases h with
  | load => exact hy
  | loadSat => exact y.bitOf_setS_sr (.inl rfl) _
  | storeSat => exact absurd (show t + 1 = t + 2 from hfrom) (by omega)
  | pointer => exact absurd (show t + 1 = t + 2 from hfrom) (by omega)

end SlotWrite

theorem mem_satWrite {t : Nat} {on : Bool} {w : BcWrite} (h : w ∈ satWrite t on) : w = ⟨t, .flags 16 16⟩ := by
  unfold satWrite at h
  split at h
  · exact List.mem_singleton.mp h
  · cases h

theorem memSlot_writes (c : Core) (k : Nat) (m : Nat × Nat × Nat × Nat) :
    ∀ w ∈ (c.memSlot k m).2.1, SlotWrite (c.bc k).cycle (loadsReg m) w := by
  obtain ⟨op, reg, p, mode⟩ := m
  have hload : ∀ (hop : op = 1 ∨ op = 2) (ws : List Int) (on : Bool),
      ∀ w ∈ (⟨(c.bc k).cycle + 2, .lanes reg ws⟩ : BcWrite) :: satWrite ((c.bc k).cycle + 2) on,
        SlotWrite (c.bc k).cycle (loadsReg (op, reg, p, mode)) w := fun hop ws on w hw => by
    rcases List.mem_cons.mp hw with rfl | hw
    · exact .load reg ws (by rcases hop with rfl | rfl <;> simp [loadsReg])
    · exact mem_satWrite hw ▸ .loadSat
  have hstore : ∀ (on : Bool), ∀ w ∈ satWrite ((c.bc k).cycle + 1) on, SlotWrite (c.bc k).cycle (loadsReg (op, reg, p, mode)) w :=
    fun on w hw => mem_satWrite hw ▸ .storeSat
  unfold Core.memSlot
  dsimp only
  split
  · exact hload (.inl rfl) _ _
  · exact hload (.inr rfl) _ _
  · exact hstore _
  · exact hstore _
  · intro w hw
    cases hw

theorem pointers_writes (x : BrushCore) (ma mb : Nat × Nat × Nat × Nat) (au : Nat × Nat × Nat) :
    ∀ w ∈ x.pointers ma mb au, ∀ loads, SlotWrite x.cycle loads w := by
  intro w hw loads
  unfold BrushCore.pointers at hw
  dsimp only at hw
  split at hw
  · rcases List.mem_append.mp hw with hw | hw
    · obtain ⟨y, _, rfl⟩ := List.mem_map.mp hw
      exact .pointer _ _
    · rw [List.mem_singleton.mp hw]
      exact .pointer _ _
  · obtain ⟨y, _, rfl⟩ := List.mem_map.mp hw
    exact .pointer _ _

/-- What the slots beside the MAC/ALU slot write. -/
def Core.besides (c : Core) (k : Nat) (ma mb : Nat × Nat × Nat × Nat) (au : Nat × Nat × Nat) : List BcWrite :=
  (c.memSlot k ma).2.1 ++ (c.memSlot k mb).2.1 ++ (c.bc k).pointers ma mb au

theorem besides_writes (c : Core) (k : Nat) (ma mb : Nat × Nat × Nat × Nat) (au : Nat × Nat × Nat) :
    ∀ w ∈ c.besides k ma mb au, SlotWrite (c.bc k).cycle (fun r => loadsReg ma r || loadsReg mb r) w := by
  intro w hw
  rcases List.mem_append.mp hw with hw | hw
  · rcases List.mem_append.mp hw with hw | hw
    · exact (memSlot_writes c k ma w hw).mono fun r hr => by rw [hr, Bool.true_or]
    · exact (memSlot_writes c k mb w hw).mono fun r hr => by rw [hr, Bool.or_true]
  · exact pointers_writes _ _ _ _ w hw _

theorem v_of_kept {x y : BrushCore} (h : x.kept = y.kept) (r : Nat) : x.v r = y.v r := by
  have hvec : x.vec = y.vec := congrArg (·.2.1) h
  unfold BrushCore.v
  rw [hvec]

theorem a_of_kept {x y : BrushCore} (h : x.kept = y.kept) (r : Nat) : x.a r = y.a r := by
  have hacc : x.acc = y.acc := congrArg (·.2.2) h
  unfold BrushCore.a
  rw [hacc]

theorem sr_of_kept {x y : BrushCore} (h : x.kept = y.kept) : x.sr = y.sr := by
  have hsc : x.sc = y.sc := congrArg (·.1) h
  unfold BrushCore.sr BrushCore.s
  rw [hsc]

/-! ### The core that issues -/

theorem unscheduled_brush : Unscheduled Core.brush where
  put _ _ _ _ := rfl
  raise c x _ := c.raise_brush x
  count c r n _ := (congrArg Core.brush (c.countN_rest r n) :)
  countW c r n _ := c.countW_brush r n
  atl _ _ := rfl
  health _ _ := rfl

theorem bc_of_brush {c d : Core} (h : c.brush = d.brush) (k : Nat) : c.bc k = d.bc k := by
  unfold Core.bc
  rw [h]

theorem Core.bc_setBc_same (c : Core) (k : Nat) (x : BrushCore) : (c.setBc k x).bc k = x := smGet_smSet_same _ _ _ _

theorem Core.dmSeen_brush (c : Core) (k : Nat) (ws : List Nat) : (c.dmSeen k ws).brush = c.brush := by
  unfold Core.dmSeen
  dsimp only
  split
  · rfl
  · refine (foldl_keeps Core.brush _ (fun c _ => unscheduled_brush.seenAt c _) _ _).trans ?_
    exact (Core.raise_brush _ _).trans (unscheduled_brush.count _ _ _ (by decide))

theorem Core.bc_bcStores (c : Core) (k : Nat) (l : List (Nat × Int)) : (c.bcStores k l).bc k = c.bc k := by
  unfold Core.bcStores
  exact foldl_keeps (Core.bc · k) (fun (c : Core) (s : Nat × Int) => c.setDm k s.1 (dmSample s.2)) (fun _ _ => rfl) l c

theorem Core.bc_bcShow (c : Core) (k pc : Nat) : (c.bcShow k pc).bc k = c.bc k := bc_of_brush rfl k

/-- A core whose task is dropped keeps its registers. -/
theorem Core.kept_dropTask (c : Core) (k : Nat) :
    ((c.dropTask k).bc k).kept = (c.bc k).kept ∧ ((c.dropTask k).bc k).writes = (c.bc k).writes := by
  unfold Core.dropTask
  split
  · exact ⟨rfl, rfl⟩
  · dsimp only
    rw [bc_of_brush (unscheduled_brush.taskLost _ _ _ _)]
    have hset := c.bc_setBc_same k { c.bc k with task := none }
    exact ⟨(congrArg BrushCore.kept hset :), (congrArg BrushCore.writes hset :)⟩

/-- A core as it stops. -/
def BrushCore.stopped (x : BrushCore) : BrushCore := { x.settle with writes := [], rep := 0, halt := false, waited := none }

theorem BrushCore.stopped_keeps (x : BrushCore) : x.stopped.writes = [] ∧ x.stopped.kept = x.settle.kept := by
  unfold BrushCore.stopped
  generalize x.settle = y
  exact ⟨rfl, rfl⟩

/-- A core that stops lets its writes land. -/
theorem Core.settle_bcStop (c : Core) (k : Nat) : ((c.bcStop k).bc k).settle.kept = (c.bc k).settle.kept := by
  have hstop : c.bcStop k = ((c.setBc k (c.bc k).stopped).setBcState k 1).dropTask k := rfl
  obtain ⟨hkept, hwrites⟩ := Core.kept_dropTask ((c.setBc k (c.bc k).stopped).setBcState k 1) k
  have hset : ((c.setBc k (c.bc k).stopped).setBcState k 1).bc k = (c.bc k).stopped := c.bc_setBc_same k _
  rw [hset] at hkept hwrites
  obtain ⟨hidle, hregs⟩ := (c.bc k).stopped_keeps
  rw [hstop, BrushCore.settle_kept_of_idle (hwrites.trans hidle), hkept, hregs]

/-- An instruction of one cycle that has issued writes leaves the core with them in flight. -/
theorem Core.settle_bcRetire (c : Core) (k : Nat) :
    ((c.bcRetire k 1 none).bc k).settle.kept = ((c.bc k).pass 1).advance.settle.kept := by
  have hset : ∀ x : BrushCore, ((c.setBc k x).bcShow k (c.bc k).pc).bc k = x := fun x => (Core.bc_bcShow _ _ _).trans (c.bc_setBc_same k x)
  unfold Core.bcRetire
  dsimp only
  split
  · rw [Core.settle_bcStop, hset]
  · rw [hset]

theorem Core.settle_issuePar {c : Core} {k : Nat} {ma mb : Nat × Nat × Nat × Nat} (hgood : c.slotsGood k ma mb = true)
    (hidle : (c.bc k).writes = []) (op dst sa sb bc : Nat) (au : Nat × Nat × Nat) :
    ((c.issuePar k op dst sa sb bc ma mb au).bc k).settle.kept =
      ((c.bc k).issued ((c.bc k).macSlot op dst sa sb bc ++ c.besides k ma mb au)).settle.kept := by
  have hreads : ¬((c.memSlot k ma).1 ++ (c.memSlot k mb).1).any (fun w => decide (c.dmEcc k w = 2)) = true := by
    have hall := List.all_eq_true.mp hgood
    intro h
    obtain ⟨w, hw, he⟩ := List.any_eq_true.mp h
    exact of_decide_eq_true (hall w hw) (of_decide_eq_true he)
  have hseen : (c.dmSeen k ((c.memSlot k ma).1 ++ (c.memSlot k mb).1)).bc k = c.bc k := bc_of_brush (c.dmSeen_brush _ _) k
  unfold Core.issuePar
  dsimp only
  rw [if_neg hreads, Core.settle_bcRetire, Core.bc_bcStores, Core.bc_bcStores]
  unfold Core.bcWrites
  rw [Core.bc_setBc_same, hseen, hidle, List.nil_append, List.append_assoc, List.append_assoc]
  unfold Core.besides BrushCore.issued
  rw [List.append_assoc]

section Parallel
variable {i : Instr} {s : State} {k op dst sa sb bc : Nat} {ma mb : Nat × Nat × Nat × Nat} {au : Nat × Nat × Nat}

/-- A parallel instruction completes, and its core settles as one that has issued the writes of its slots. -/
theorem completes_par {P : BrushCore → Prop} (e : exec i s = runCore (brushIssue op k) s)
    (hat : s.core.atInstr k (.par op dst sa sb bc ma mb au) = true) (hgood : s.core.slotsGood k ma mb = true)
    (hP : ∀ b : BrushCore, b.settle.kept =
      ((s.core.bc k).issued ((s.core.bc k).macSlot op dst sa sb bc ++ s.core.besides k ma mb au)).settle.kept → P b) :
    Completes i s fun t => P (t.core.bc k) := by
  unfold Core.atInstr at hat
  simp only [Bool.and_eq_true, decide_eq_true_eq, Bool.not_eq_true', List.isEmpty_iff] at hat
  obtain ⟨⟨⟨⟨hk, hrun⟩, hengine⟩, hidle⟩, hdecode⟩ := hat
  have hissue : brushIssue op k s.core = s.core.issuePar k op dst sa sb bc ma mb au := by
    unfold brushIssue Core.brushStep
    rw [if_neg (by simp [hk, hrun, hengine]), hdecode]
    exact if_pos rfl
  refine completes_mem (by rw [e]; rfl) ?_
  refine hP _ ?_
  rw [bc_of_brush (flushTrace_brush _ _), hissue]
  exact Core.settle_issuePar hgood hidle op dst sa sb bc au

/-- An operation on an accumulator lands on the accumulators that the instruction found. -/
theorem settle_of_acc {o : BcOp} (hslot : (s.core.bc k).macSlot op dst sa sb bc = [⟨(s.core.bc k).cycle + 3, o⟩]) {b : BrushCore}
    (hb : b.settle.kept = ((s.core.bc k).issued ((s.core.bc k).macSlot op dst sa sb bc ++ s.core.besides k ma mb au)).settle.kept) :
    ∃ q : BrushCore, q.acc = (s.core.bc k).acc ∧ b.settle.kept = (q.apply o).kept := by
  obtain ⟨q, hacc, hq⟩ := (s.core.bc k).settle_issued_acc (op := o) (l := s.core.besides k ma mb au) fun w hw =>
    ⟨(besides_writes _ _ _ _ _ w hw).early, (besides_writes _ _ _ _ _ w hw).acc⟩
  rw [hslot] at hb
  exact ⟨q, hacc, hb.trans hq⟩

variable (e : exec i s = runCore (brushIssue op k) s) (hat : s.core.atInstr k (.par op dst sa sb bc ma mb au) = true)
  (hgood : s.core.slotsGood k ma mb = true)
include e hat hgood

theorem completes_accSet {l : List Int} (hslot : (s.core.bc k).macSlot op dst sa sb bc = [⟨(s.core.bc k).cycle + 3, .accSet dst l⟩]) :
    Completes i s fun t => (t.core.bc k).settle.a dst = l.map (sat 56) ∧ (l.map (sat 56) ≠ l → bitOf (t.core.bc k).settle.sr 5 = true) := by
  refine completes_par (P := fun b => b.settle.a dst = l.map (sat 56) ∧ (l.map (sat 56) ≠ l → bitOf b.settle.sr 5 = true)) e hat hgood
    fun b hb => ?_
  obtain ⟨q, -, hq⟩ := settle_of_acc hslot hb
  rw [a_of_kept hq, sr_of_kept hq]
  exact ⟨q.a_setAcc dst l, q.aov_setAcc dst⟩

theorem completes_accAdd {l : List Int} (hslot : (s.core.bc k).macSlot op dst sa sb bc = [⟨(s.core.bc k).cycle + 3, .accAdd dst l⟩]) :
    let sums := List.zipWith (· + ·) ((s.core.bc k).a dst) l
    Completes i s fun t => (t.core.bc k).settle.a dst = sums.map (sat 56) ∧
      (sums.any (fun q => decide (sat 56 q ≠ q)) = true → bitOf (t.core.bc k).settle.sr 5 = true) := by
  intro sums
  refine completes_par (P := fun b => b.settle.a dst = sums.map (sat 56) ∧
    (sums.any (fun q => decide (sat 56 q ≠ q)) = true → bitOf b.settle.sr 5 = true)) e hat hgood fun b hb => ?_
  obtain ⟨q, hacc, hq⟩ := settle_of_acc hslot hb
  have hadd : q.apply (.accAdd dst l) = q.setAcc dst sums := by
    have ha : q.a dst = (s.core.bc k).a dst := congrArg (smGet (fun _ => [0, 0, 0, 0]) · dst) hacc
    exact congrArg (fun v => q.setAcc dst (List.zipWith (· + ·) v l)) ha
  rw [hadd] at hq
  rw [a_of_kept hq, sr_of_kept hq]
  exact ⟨q.a_setAcc dst sums, fun h => q.aov_setAcc dst (map_ne_of_any h)⟩

/-- An operation on a vector register that no load of the same instruction names. -/
theorem completes_lanes {l : List Int} {on : Bool} (hma : loadsReg ma dst = false) (hmb : loadsReg mb dst = false)
    (hslot : (s.core.bc k).macSlot op dst sa sb bc = ⟨(s.core.bc k).cycle + 2, .lanes dst l⟩ :: satWrite ((s.core.bc k).cycle + 2) on) :
    Completes i s fun t => (t.core.bc k).settle.v dst = l ∧ (on = true → bitOf (t.core.bc k).settle.sr 4 = true) := by
  refine completes_par (P := fun b => b.settle.v dst = l ∧ (on = true → bitOf b.settle.sr 4 = true)) e hat hgood fun b hb => ?_
  have hslots := besides_writes s.core k ma mb au
  rw [hslot] at hb
  generalize s.core.bc k = x at hb hslots
  generalize s.core.besides k ma mb au = r at hb hslots
  have hloads : (fun r => loadsReg ma r || loadsReg mb r) dst = false := by
    dsimp only
    rw [hma, hmb]
    rfl
  have hcases : ∀ v ∈ (⟨x.cycle + 2, .lanes dst l⟩ : BcWrite) :: satWrite (x.cycle + 2) on ++ r, v = ⟨x.cycle + 2, .lanes dst l⟩ ∨
      SlotWrite x.cycle (fun r => loadsReg ma r || loadsReg mb r) v := fun v hv => by
    rcases List.mem_append.mp hv with hv | hv
    · refine (List.mem_cons.mp hv).imp id fun h => ?_
      rw [mem_satWrite h]
      exact .loadSat
    · exact .inr (hslots v hv)
  have hlast : ∀ v ∈ (⟨x.cycle + 2, .lanes dst l⟩ : BcWrite) :: satWrite (x.cycle + 2) on ++ r, v.from_ ≤ x.cycle + 2 := fun v hv => by
    rcases hcases v hv with rfl | h
    · exact Nat.le_refl _
    · exact h.early
  rw [v_of_kept hb, sr_of_kept hb]
  refine ⟨?_, fun hon => ?_⟩
  · refine BrushCore.settle_issued_sets x _ (P := fun y => y.v dst = l) ⟨fun _ _ => rfl, fun _ _ => rfl⟩ List.mem_cons_self rfl hlast
      (fun y => smGet_smSet_same _ _ _ _) fun v hv hfrom y hy => ?_
    rcases hcases v hv with rfl | h
    · exact smGet_smSet_same _ _ _ _
    · exact (h.v hloads hfrom y).trans hy
  · have hsat : (⟨x.cycle + 2, .flags 16 16⟩ : BcWrite) ∈ (⟨x.cycle + 2, .lanes dst l⟩ : BcWrite) :: satWrite (x.cycle + 2) on ++ r := by
      rw [hon]
      exact List.mem_append_left _ (List.mem_cons_of_mem _ List.mem_cons_self)
    refine BrushCore.settle_issued_sets x _ (P := fun y => bitOf y.sr 4 = true) ⟨fun _ _ => rfl, fun _ _ => rfl⟩ hsat rfl hlast
      (fun y => y.bitOf_setS_sr (.inl rfl) _) fun v hv hfrom y hy => ?_
    rcases hcases v hv with rfl | h
    · exact hy
    · exact h.sat hfrom y hy

theorem completes_vec {l : List Int} (hma : loadsReg ma dst = false) (hmb : loadsReg mb dst = false)
    (hslot : (s.core.bc k).macSlot op dst sa sb bc =
      ⟨(s.core.bc k).cycle + 2, .lanes dst (sat24 l).1⟩ :: satWrite ((s.core.bc k).cycle + 2) (sat24 l).2) :
    Completes i s fun t => (t.core.bc k).settle.v dst = l.map (sat 24) ∧
      (l.any (fun q => decide (sat 24 q ≠ q)) = true → bitOf (t.core.bc k).settle.sr 4 = true) := by
  obtain ⟨t, ht, hv, hsat⟩ := completes_lanes e hat hgood hma hmb hslot
  exact ⟨t, ht, hv, fun h => hsat (decide_eq_true (map_ne_of_any h))⟩

theorem completes_bits {f : Nat → Nat → Nat} {a b : List Int} (hma : loadsReg ma dst = false) (hmb : loadsReg mb dst = false)
    (hslot : (s.core.bc k).macSlot op dst sa sb bc = [⟨(s.core.bc k).cycle + 2, .lanes dst (List.zipWith (bit24 f) a b)⟩]) :
    Completes i s fun t => (t.core.bc k).settle.v dst = List.zipWith (bit24 f) a b := by
  obtain ⟨t, ht, hv, -⟩ := completes_lanes (on := false) e hat hgood hma hmb hslot
  exact ⟨t, ht, hv⟩

end Parallel

/-! ### O33 -/

theorem Completes.mono {i : Instr} {s : State} {P Q : State → Prop} (h : Completes i s P) (hpq : ∀ t, P t → Q t) : Completes i s Q :=
  h.imp fun t ht => ⟨ht.1, hpq t ht.2⟩

theorem zipWith_add_neg (a b : List Int) : List.zipWith (· + ·) a (b.map fun v => -v) = List.zipWith (· - ·) a b := by
  rw [List.zipWith_map_right]
  rfl

/-- Settles O33: every row writes an accumulator in the third cycle or a vector register in the second, and the writes of the other slots
leave both as they are. -/
theorem brushVectorInstructionsComplete : Obligations.BrushVectorInstructionsComplete := by
  unfold Obligations.BrushVectorInstructionsComplete
  refine ⟨?_, ?_, ?_, ?_, ?_, ?_, ?_, ?_, ?_, ?_, ?_, ?_, ?_, ?_, ?_, ?_, ?_, ?_, ?_, ?_, ?_, ?_, ?_, ?_⟩
  case _ =>
    intro s k dst sa sb bc ma mb au x hq hat hgood
    exact completes_accAdd rfl hat hgood rfl
  case _ =>
    intro s k dst sa sb bc ma mb au x hq hat hgood
    rw [← zipWith_add_neg]
    exact completes_accAdd rfl hat hgood rfl
  case _ =>
    intro s k dst sa sb bc ma mb au x hq hat hgood
    exact (completes_accSet rfl hat hgood rfl).mono fun t h => h.1
  case _ =>
    intro s k dst sa sb bc ma mb au x hq hat hgood
    exact (completes_accSet rfl hat hgood rfl).mono fun t h => h.1
  case _ =>
    intro s k dst sa sb bc ma mb au x hq hat hgood
    exact completes_accAdd rfl hat hgood rfl
  case _ =>
    intro s k dst sa sb bc ma mb au x hq hat hgood
    rw [← zipWith_add_neg]
    exact completes_accAdd rfl hat hgood rfl
  case _ =>
    intro s k dst sa sb bc ma mb au x hq hat hgood
    exact (completes_accSet rfl hat hgood rfl).mono fun t h => ⟨h.1, fun hne => h.2 fun e => hne (List.cons.inj e).1⟩
  case _ =>
    intro s k dst sa sb bc ma mb au x hq hat hgood
    exact (completes_accSet rfl hat hgood rfl).mono fun t h => h.1
  all_goals intro s k dst sa sb bc ma mb au x hq hat hgood hma hmb
  case _ => exact completes_vec rfl hat hgood hma hmb rfl
  case _ => exact completes_vec rfl hat hgood hma hmb rfl
  case _ => exact completes_vec rfl hat hgood hma hmb rfl
  case _ => exact completes_vec rfl hat hgood hma hmb rfl
  case _ => exact completes_bits rfl hat hgood hma hmb rfl
  case _ => exact completes_bits rfl hat hgood hma hmb rfl
  case _ => exact completes_bits rfl hat hgood hma hmb rfl
  all_goals exact completes_vec rfl hat hgood hma hmb rfl

end Sys2Proof.Machine
end

section
/-! Register accesses by access type (R12, R59, R90 to R92, R445), block boundaries with MEDIA stopped, and O7. -/

namespace Sys2Proof.Machine
open Sys2Proof

/-! ### Writes -/

/-- A register that nothing but its access types rules: no write of it starts anything. -/
theorem writeReg_plain (c : Core) (m : Nat) (v : Word) {off : Nat} (h : off = R.TIME_STEP_LIMIT ∨ off = R.SYS_INT_STATUS) :
    c.writeReg m off v = c.busWrite ⟨m, off, v⟩ 0 id := by
  have hlow : ∀ off, off = R.TIME_STEP_LIMIT ∨ off = R.SYS_INT_STATUS → c.writeLow m off v = c.busWrite ⟨m, off, v⟩ 0 id := by
    rintro off (rfl | rfl) <;>
    · unfold Core.writeLow
      rw [if_neg (by decide), if_neg (by decide), if_neg (by decide), if_neg (by decide), if_neg (by decide), if_neg (by decide), if_neg (by decide), if_neg (by decide), if_neg (by decide), if_neg (by decide), if_neg (by decide), if_neg (by decide), if_neg (by decide), if_neg (by decide), if_neg (by decide), if_neg (by decide), if_neg (by decide)]
      rfl
  rcases h with rfl | rfl <;>
  · unfold Core.writeReg
    dsimp only
    rw [if_pos (by decide)]
    exact hlow _ (by decide)

theorem Core.get_putIrq_same (c : Core) (off : Nat) (w : Word) : (c.putIrq off w).get off = w := by
  unfold Core.putIrq
  dsimp only
  split
  · exact (get_of_regs (Core.fireSource_regs _ _) off).trans (Core.get_put_same _ _ _)
  · exact Core.get_put_same _ _ _

/-- What a served write leaves in the register it names. -/
theorem Core.get_written_same (c : Core) {a : Access} {r : RegRow} (hrow : regRow? a.off = some r) :
    (c.written a 0).get a.off = c.fixWrite a.off (c.get a.off) (typedWrite (c.get a.off) a.value (.ofNat 32 r.rw) r.w1c r.w1s) := by
  unfold Core.written Core.writeTyped servedMasks
  rw [hrow]
  dsimp only
  rw [Core.get_putIrq_same, if_pos rfl, show ~~~BitVec.ofNat 32 0 = BitVec.allOnes 32 from by decide, BitVec.and_allOnes, BitVec.and_allOnes]

theorem fixWrite_stepLimit (c : Core) (old new : Word) :
    c.fixWrite R.TIME_STEP_LIMIT old new = limitField 29 0 100 1000000000 new := by
  unfold Core.fixWrite
  rw [if_neg (by decide), if_neg (by decide), if_neg (by decide), if_neg (by decide), if_pos rfl]

theorem clampNat_le {lo hi : Nat} (h : lo ≤ hi) (v : Nat) : clampNat lo hi v ≤ hi := by
  unfold clampNat
  split
  · exact h
  · split <;> omega

/-- Where no bit is cleared or set by a 1, the fields are written. -/
theorem typedWrite_fields (w v m : Word) : typedWrite w v m 0 0 = (w &&& ~~~m) ||| (v &&& m) := by
  unfold typedWrite
  rw [show BitVec.ofNat 32 0 = 0#32 from rfl, BitVec.and_zero, BitVec.or_zero, show ~~~(0#32) = BitVec.allOnes 32 from by decide,
    BitVec.and_allOnes]

/-- A field of 30 bits that is written takes the low bits of what is written. -/
theorem bitsOf_typedWrite (old v : Word) : bitsOf (typedWrite old v (.ofNat 32 1073741823) 0 0) 29 0 = bitsOf v 29 0 := by
  have hmask : ∀ i < 30, (BitVec.ofNat 32 1073741823).getLsbD i = true := by decide
  have hbit : ∀ (w : Word) (i : Nat), (bitsOf w 29 0).testBit i = (decide (i < 30) && w.getLsbD i) := fun w i => by
    unfold bitsOf
    rw [pow_zero, Nat.div_one, Nat.testBit_mod_two_pow, BitVec.testBit_toNat]
  refine Nat.eq_of_testBit_eq fun i => ?_
  rw [hbit, hbit]
  by_cases hi : i < 30
  · have hword : i < 32 := by omega
    rw [typedWrite_fields, BitVec.getLsbD_or, BitVec.getLsbD_and, BitVec.getLsbD_and, BitVec.getLsbD_not, hmask i hi]
    simp
  · rw [decide_eq_false hi, Bool.false_and, Bool.false_and]

theorem stepLimit_written (c : Core) (m : Nat) (v : Word) :
    (c.written ⟨m, R.TIME_STEP_LIMIT, v⟩ 0).f F.TIME_STEP_LIMIT_LIMIT = clampNat 100 1000000000 (bitsOf v 29 0) := by
  have hrow : ∃ r, regRow? R.TIME_STEP_LIMIT = some r ∧ r.rw = 1073741823 ∧ r.w1c = 0 ∧ r.w1s = 0 := by decide +kernel
  obtain ⟨r, hrow, hrw, hw1c, hw1s⟩ := hrow
  have hget := c.get_written_same (a := ⟨m, R.TIME_STEP_LIMIT, v⟩) hrow
  rw [hrw, hw1c, hw1s] at hget
  have hclamp : clampNat 100 1000000000 (bitsOf v 29 0) < 2 ^ 30 := Nat.lt_of_le_of_lt (clampNat_le (by decide) _) (by decide)
  unfold Core.f
  rw [show F.TIME_STEP_LIMIT_LIMIT.off = R.TIME_STEP_LIMIT from rfl, hget, fixWrite_stepLimit]
  refine (bitsOf_withBits_same _ _ (by decide) (by decide)).trans ?_
  rw [bitsOf_typedWrite]
  exact Nat.mod_eq_of_lt hclamp

/-- What is written 1 is cleared, and no field is written. -/
theorem typedWrite_clears (w v : Word) (n : Nat) : typedWrite w v (.ofNat 32 0) n 0 = w &&& ~~~(v &&& .ofNat 32 n) := by
  have hones : ~~~BitVec.ofNat 32 0 = BitVec.allOnes 32 := by decide
  unfold typedWrite
  rw [hones, BitVec.and_allOnes, show BitVec.ofNat 32 0 = 0#32 from rfl, BitVec.and_zero, BitVec.or_zero, BitVec.or_zero]

theorem fixWrite_intStatus (c : Core) (old new : Word) : c.fixWrite R.SYS_INT_STATUS old new = new := by
  unfold Core.fixWrite
  rw [if_neg (by decide), if_neg (by decide), if_neg (by decide), if_neg (by decide), if_neg (by decide), if_neg (by decide), if_neg (by decide), if_neg (by decide), if_neg (by decide), if_neg (by decide), if_neg (by decide), if_neg (by decide), if_neg (by decide), if_neg (by decide), if_neg (by decide), if_neg (by decide), if_neg (by decide), if_neg (by decide)]

theorem intStatus_written (c : Core) (m : Nat) (v : Word) : (c.written ⟨m, R.SYS_INT_STATUS, v⟩ 0).get R.SYS_INT_STATUS =
    c.get R.SYS_INT_STATUS &&& ~~~(v &&& .ofNat 32 (((regRow? R.SYS_INT_STATUS).map (·.w1c)).getD 0)) := by
  have hrow : ∃ r, regRow? R.SYS_INT_STATUS = some r ∧ r.rw = 0 ∧ r.w1s = 0 := by decide +kernel
  obtain ⟨r, hrow, hrw, hw1s⟩ := hrow
  refine (c.get_written_same (a := ⟨m, R.SYS_INT_STATUS, v⟩) hrow).trans ?_
  rw [hrow, hrw, hw1s]
  rw [Option.map_some, Option.getD_some]
  exact (fixWrite_intStatus c _ _).trans (typedWrite_clears _ v _)

/-! ### Reads -/

/-- No read of the register pops a list, takes a hold, or reads a table, a memory or a shadow word, and no counter starts anything. -/
def plainRead (off : Nat) : Bool :=
  decide (¬(msixBase ≤ off ∧ off < pbaBase + 8) ∧ off < 0x2000000) && decide (off ≠ R.ATELIER_DONE) && (slotOf (R.HOST_HOLD 0) 4 64 off).isNone &&
    (slotOf (R.TIME_TSIN_TS_FRAC 0) 0x20 2 off).isNone && decide (off ≠ R.TIME_TSIN_STATUS 0 ∧ off ≠ R.TIME_TSIN_STATUS 1) &&
    decide (off ≠ R.TIME_NOW_FRAC)

theorem readReg_plain {c : Core} {m off : Nat} (hplain : plainRead off = true) (hreach : c.reaches m off = true) :
    c.readReg m off = (c.readWord m off).2.send (.read m off (c.readWord m off).1) := by
  simp only [plainRead, Bool.and_eq_true, decide_eq_true_eq, Option.isNone_iff_eq_none] at hplain
  obtain ⟨⟨⟨⟨⟨⟨hmsix, hlow⟩, hdone⟩, hhold⟩, hfifo⟩, -⟩, -⟩ := hplain
  unfold Core.readReg
  rw [if_neg hmsix, if_neg (by omega), if_neg hdone, hhold]
  dsimp only
  rw [hfifo]
  exact busRead_reached hreach _

/-- What a read of a register with an own snapshot or a clearing field leaves. -/
def Core.afterRead (c : Core) (m off : Nat) (r : RegRow) : Core :=
  let d := if r.rc = 0 then c else c.putIrq off (readLeaves off (c.get off) r.rc)
  match d.snapWords off with
  | some ws => d.putShadow m (off + 4) ws
  | none => d

theorem readWord_plain {c : Core} {m off : Nat} {r : RegRow} (hplain : plainRead off = true) (hown : shadowed off = false)
    (hrow : regRow? off = some r) (hwo : r.wo = 0) : c.readWord m off = (c.get off, c.afterRead m off r) := by
  simp only [plainRead, Bool.and_eq_true, decide_eq_true_eq] at hplain
  obtain ⟨⟨_, hstatus⟩, hnow⟩ := hplain
  have hmask : ∀ w : Word, w &&& ~~~(.ofNat 32 0) = w := fun w => by
    rw [show ~~~BitVec.ofNat 32 0 = BitVec.allOnes 32 from by decide, BitVec.and_allOnes]
  unfold Core.readWord
  rw [hrow]
  dsimp only
  rw [if_neg (by rw [hown]; decide), if_neg (by simp [hstatus]), if_neg hnow, hwo, hmask]
  rfl

theorem readWord_shadowed {c : Core} {m off : Nat} {r : RegRow} (hown : shadowed off = true) (hrow : regRow? off = some r) :
    c.readWord m off = (c.shadowWord m off, c) := by
  unfold Core.readWord
  rw [hrow]
  exact if_pos hown

theorem readClear_clears {c : Core} {m off : Nat} (hreach : c.reaches m off = true)
    (hoff : off = R.CLK_HOLDOVER_COUNT ∨ off = R.TIME_STEP_COUNT ∨ off = R.NET_RX_FCS 1 ∨ off = R.MEMC_CORRECTED) :
    readClear m off c = ((c.put off (c.get off &&& ~~~(.ofNat 32 0x8000FFFF)))).send (.read m off (c.get off)) := by
  have hrow : ∃ r, regRow? off = some r ∧ r.wo = 0 ∧ r.rc = 0x8000FFFF := by rcases hoff with rfl | rfl | rfl | rfl <;> decide +kernel
  have hplain : plainRead off = true ∧ shadowed off = false ∧ (slotOf (R.HEALTH_MARGIN 0) 4 8 off).isSome = false ∧
      (off ≠ intStatusOf off ∧ off ≠ intStatusOf off + 4) := by rcases hoff with rfl | rfl | rfl | rfl <;> decide
  have hsnap : ∀ d : Core, d.snapWords off = none := fun d => by rcases hoff with rfl | rfl | rfl | rfl <;> rfl
  obtain ⟨r, hrow, hwo, hrc⟩ := hrow
  obtain ⟨hplain, hown, hmargin, hint⟩ := hplain
  have hafter : c.afterRead m off r = c.put off (c.get off &&& ~~~(.ofNat 32 0x8000FFFF)) := by
    unfold Core.afterRead
    dsimp only
    rw [hsnap, hrc, if_neg (by decide)]
    have hleaves : readLeaves off (c.get off) 0x8000FFFF = c.get off &&& ~~~(.ofNat 32 0x8000FFFF) := if_neg (by rw [hmargin]; decide)
    rw [hleaves]
    unfold Core.putIrq
    exact if_neg fun h => (h.1 : off = intStatusOf off ∨ off = intStatusOf off + 4).elim hint.1 hint.2
  unfold readClear
  rw [readReg_plain hplain hreach, readWord_plain hplain hown hrow hwo, hafter]

theorem bitsOf_cleared (w : Word) : bitsOf (w &&& ~~~(.ofNat 32 0x8000FFFF)) 15 0 = 0 := by
  have hmask : ∀ i < 16, (BitVec.ofNat 32 0x8000FFFF).getLsbD i = true := by decide
  refine Nat.eq_of_testBit_eq fun i => ?_
  unfold bitsOf
  rw [pow_zero, Nat.div_one, Nat.testBit_mod_two_pow, BitVec.testBit_toNat, BitVec.getLsbD_and, BitVec.getLsbD_not, Nat.zero_testBit]
  by_cases hi : i < 16
  · rw [hmask i hi]
    simp
  · rw [decide_eq_false hi, Bool.false_and]

theorem snapshotRead_low {c : Core} {m : Nat} (hreach : c.reaches m R.TIME_OFFSET_LO = true) : snapshotRead m R.TIME_OFFSET_LO c =
    (c.putShadow m R.TIME_OFFSET_HI [(c.get R.TIME_OFFSET_HI).toNat]).send (.read m R.TIME_OFFSET_LO (c.get R.TIME_OFFSET_LO)) := by
  have hrow : ∃ r, regRow? R.TIME_OFFSET_LO = some r ∧ r.wo = 0 ∧ r.rc = 0 := by decide +kernel
  obtain ⟨r, hrow, hwo, hrc⟩ := hrow
  have hsnap : c.snapWords R.TIME_OFFSET_LO = some [(c.get R.TIME_OFFSET_HI).toNat] := rfl
  have hafter : c.afterRead m R.TIME_OFFSET_LO r = c.putShadow m R.TIME_OFFSET_HI [(c.get R.TIME_OFFSET_HI).toNat] := by
    unfold Core.afterRead
    dsimp only
    rw [if_pos hrc, hsnap]
    rfl
  unfold snapshotRead
  rw [readReg_plain (by decide) hreach, readWord_plain (by decide) (by decide) hrow hwo, hafter]

theorem snapshotRead_high {c : Core} {m : Nat} (hreach : c.reaches m R.TIME_OFFSET_HI = true) : snapshotRead m R.TIME_OFFSET_HI c =
    c.send (.read m R.TIME_OFFSET_HI (c.shadowWord m R.TIME_OFFSET_HI)) := by
  have hrow : (regRow? R.TIME_OFFSET_HI).isSome = true := by decide +kernel
  obtain ⟨r, hrow⟩ := Option.isSome_iff_exists.mp hrow
  unfold snapshotRead
  rw [readReg_plain (by decide) hreach, readWord_shadowed (by decide) hrow]

theorem shadowWord_putShadow (c : Core) (m off n : Nat) : (c.putShadow m off [n]).shadowWord m off = .ofNat 32 n :=
  smGet_smSet_same _ _ _ _

/-! ### Records that CLEAR empties -/

theorem clearRecord_clears {c : Core} {m off lo hi : Nat} {v : Word} (hserves : c.serves m off = true) (hclear : bitOf v 31 = true) :
    c.clearRecord m off lo hi v = (((c.written ⟨m, off, v⟩ 0).put off 0).put lo 0).put hi 0 := by
  unfold Core.clearRecord
  rw [busWrite_served hserves]
  exact if_pos hclear

theorem get_cleared (c : Core) {off lo hi : Nat} (h : off ≠ lo ∧ off ≠ hi ∧ lo ≠ hi) :
    (((c.put off 0).put lo 0).put hi 0).get off = 0 ∧ (((c.put off 0).put lo 0).put hi 0).get lo = 0 ∧
      (((c.put off 0).put lo 0).put hi 0).get hi = 0 := by
  obtain ⟨hlo, hhi, hne⟩ := h
  refine ⟨?_, ?_, Core.get_put_same _ _ _⟩
  · rw [Core.get_put_ne _ _ hhi, Core.get_put_ne _ _ hlo, Core.get_put_same]
  · rw [Core.get_put_ne _ _ hne, Core.get_put_same]

/-! ### A block boundary with MEDIA stopped (R445) -/

/-- Notices of interrupts go out to sessions, which count them. -/
theorem Core.eventNotices_keeps {α : Type} {g : Core → α} (hpost : ∀ (c : Core) (m : Msg), g (c.post m) = g c)
    (hset : ∀ (c : Core) (s : Session), g (c.setSession s) = g c)
    (hgained : ∀ (c : Core) (l : List Nat), g { c with host := { c.host with gained := l } } = g c) (c : Core) : g c.eventNotices = g c := by
  unfold Core.eventNotices
  refine (foldl_keeps g _ (fun c k => ?_) _ _).trans (hgained c [])
  refine foldl_keeps g _ (fun c s => ?_) _ _
  split
  · exact (hpost _ _).trans (hset _ _)
  · rfl

theorem Core.eventNotices_time (c : Core) : c.eventNotices.time = c.time :=
  c.eventNotices_keeps Core.post_time (fun _ _ => rfl) fun _ _ => rfl

theorem Core.eventNotices_atl (c : Core) : c.eventNotices.atl = c.atl :=
  c.eventNotices_keeps Core.post_atl (fun _ _ => rfl) fun _ _ => rfl

/-- Settles O7: the access types decide what a served write or a read leaves, and a block boundary without MEDIA lets its cycles pass. -/
theorem registerAccessesComplete : Obligations.RegisterAccessesComplete := by
  unfold Obligations.RegisterAccessesComplete
  refine ⟨?_, ?_, ?_, ?_, ?_, ?_, ?_, ?_, ?_⟩
  case _ =>
    intro s m off v c hserves hq hoff
    subst hoff
    refine completes_traced_reset (f := registerWrite m _ v) rfl ((writeReg_plain _ _ _ (.inl rfl)).trans (busWrite_served hserves 0 id))
      fun t _ h => ?_
    exact (h.f (by decide)).trans (stepLimit_written _ _ _)
  case _ =>
    intro s m off v c hserves hq hoff
    subst hoff
    refine completes_traced_reset (f := registerWrite m _ v) rfl ((writeReg_plain _ _ _ (.inr rfl)).trans (busWrite_served hserves 0 id))
      fun t _ h => ?_
    exact (h.get (by decide)).trans (intStatus_written _ _ _)
  case _ =>
    intro s m off hq hreach hoff
    refine completes_of_eq rfl hq (readClear_clears hreach hoff) rfl ⟨rfl, ?_⟩
    exact (congrArg (bitsOf · 15 0) (Core.get_put_same _ _ _)).trans (bitsOf_cleared _)
  case _ =>
    intro s m off hq hreach hoff
    subst hoff
    refine completes_of_eq rfl hq (snapshotRead_low hreach) rfl ⟨rfl, ?_⟩
    refine (shadowWord_putShadow _ _ _ _).trans ?_
    exact BitVec.ofNat_toNat _ _ ▸ BitVec.setWidth_eq _
  case _ =>
    intro s m off hq hreach hoff
    subst hoff
    exact completes_of_eq rfl hq (snapshotRead_high hreach) rfl ⟨rfl, rfl⟩
  case _ =>
    intro s m v c hserves hq hclear
    exact completes_of_eq rfl hq (clearRecord_clears hserves hclear) (Core.written_atl _ _ _) (get_cleared _ (by decide))
  case _ =>
    intro s m v c hserves hq hclear
    exact completes_of_eq rfl hq (clearRecord_clears hserves hclear) (Core.written_atl _ _ _) (get_cleared _ (by decide))
  case _ =>
    intro s m v c hserves hq hclear
    exact completes_of_eq rfl hq (clearRecord_clears hserves hclear) (Core.written_atl _ _ _) (get_cleared _ (by decide))
  case _ =>
    intro s env hq hmedia hstep
    have hturn : blockBoundary env s.mem s.core = ((s.core.pass env.cycles).eventNotices, s.mem) := by
      unfold blockBoundary
      rw [if_pos (by rw [hmedia]; rfl), if_neg (by omega)]
    have hatl : ((s.core.pass env.cycles).eventNotices).atl.trace = [] := by
      rw [Core.eventNotices_atl]
      exact State.trace_of_quiet hq
    refine completes_of_runMem rfl (by rw [hturn]; exact hatl) ?_
    rw [hturn, State.core_of_core, Core.eventNotices_time]
    exact ⟨rfl, rfl, rfl⟩

end Sys2Proof.Machine
end

section
/-! What stands off stage when the media time jumps: power, clocks, time and the registers of SYS, CLK and TIME are kept by what
renders, swaps, streams, measures and reports (R88, R100, R147, R216, R289, R442). -/

namespace Sys2Proof.Machine
open Sys2Proof

/-! ### Readings off stage -/

/-- A reading of power, clocks, time and the registers below those of the host interface: registers from there on, their counters and
interrupts, messages, and every other part leave it alone. -/
structure Offstage {α : Type} (g : Core → α) : Prop where
  put : ∀ (c : Core) {off : Nat} (w : Word), 0x300000 ≤ off → g (c.put off w) = g c
  raise : ∀ (c : Core) (x : Field), 0x300000 ≤ x.off → g (c.raise x) = g c
  count : ∀ (c : Core) (r n : Nat), 0x300000 ≤ r → g (c.countN r n) = g c
  countW : ∀ (c : Core) (r n : Nat), 0x300000 ≤ r → g (c.countW r n) = g c
  outbox : ∀ (c : Core) (l : List Msg), g { c with outbox := l } = g c
  host : ∀ (c : Core) (x : HostPart), g { c with host := x } = g c
  freeIx : ∀ (c : Core) (n : Nat), g { c with freeIx := n } = g c
  scene : ∀ (c : Core) (x : ScenePart), g { c with scene := x } = g c
  cal : ∀ (c : Core) (x : CalPart), g { c with cal := x } = g c
  ren : ∀ (c : Core) (x : RenPart), g { c with ren := x } = g c
  mon : ∀ (c : Core) (x : MonPart), g { c with mon := x } = g c
  out : ∀ (c : Core) (x : OutPart), g { c with out := x } = g c
  flash : ∀ (c : Core) (x : FlashPart), g { c with flash := x } = g c
  health : ∀ (c : Core) (x : HealthPart), g { c with health := x } = g c
  brush : ∀ (c : Core) (x : BrushPart), g { c with brush := x } = g c
  atl : ∀ (c : Core) (x : AtelierPart), g { c with atl := x } = g c
  survey : ∀ (c : Core) (x : SurveyPart), g { c with survey := x } = g c
  arm : ∀ (c : Core) (x : ArmPart), g { c with arm := x } = g c
  net : ∀ (c : Core) (x : NetPart), g { c with net := x } = g c
  twin : ∀ (c : Core) (x : TwinPart), g { c with twin := x } = g c
  memc : ∀ (c : Core) (x : MemcPart), g { c with memc := x } = g c
  crc : ∀ (c : Core) (x : CrcPart), g { c with crc := x } = g c
  update : ∀ (c : Core) (x : UpdatePart), g { c with update := x } = g c

theorem offstage_get {off : Nat} (h : off < 0x300000) : Offstage (Core.get · off) := by
  have hwindow : ∀ {r : Nat}, 0x300000 ≤ r → window off ≠ window r := fun hr => by
    unfold window
    omega
  exact
    { put := fun c r w hr => c.get_put_ne w (by omega)
      raise := fun c x hx => c.get_raise_ne (by omega)
      count := fun c r n hr => c.get_countN_away n (hwindow hr)
      countW := fun c r n hr => c.get_countW_away n (hwindow hr)
      outbox := fun _ _ => rfl
      host := fun _ _ => rfl
      freeIx := fun _ _ => rfl
      scene := fun _ _ => rfl
      cal := fun _ _ => rfl
      ren := fun _ _ => rfl
      mon := fun _ _ => rfl
      out := fun _ _ => rfl
      flash := fun _ _ => rfl
      health := fun _ _ => rfl
      brush := fun _ _ => rfl
      atl := fun _ _ => rfl
      survey := fun _ _ => rfl
      arm := fun _ _ => rfl
      net := fun _ _ => rfl
      twin := fun _ _ => rfl
      memc := fun _ _ => rfl
      crc := fun _ _ => rfl
      update := fun _ _ => rfl }

/-- Power, clocks and time. -/
def Core.backstage (c : Core) : Power × Clk × TimePart := (c.power, c.clk, c.time)

theorem backstage_of_rest {c d : Core} (h : c.rest = d.rest) : c.backstage = d.backstage :=
  (congrArg (fun c : Core => (c.power, c.clk, c.time)) h :)

theorem offstage_backstage : Offstage Core.backstage where
  put _ _ _ _ := rfl
  raise c x _ := backstage_of_rest (c.raise_rest x)
  count c r n _ := backstage_of_rest (c.countN_rest r n)
  countW c r n _ := backstage_of_rest (c.countW_rest r n)
  outbox _ _ := rfl
  host _ _ := rfl
  freeIx _ _ := rfl
  scene _ _ := rfl
  cal _ _ := rfl
  ren _ _ := rfl
  mon _ _ := rfl
  out _ _ := rfl
  flash _ _ := rfl
  health _ _ := rfl
  brush _ _ := rfl
  atl _ _ := rfl
  survey _ _ := rfl
  arm _ _ := rfl
  net _ _ := rfl
  twin _ _ := rfl
  memc _ _ := rfl
  crc _ _ := rfl
  update _ _ := rfl

namespace Offstage
variable {α : Type} {g : Core → α} (h : Offstage g)
include h

theorem setF (c : Core) {x : Field} (v : Nat) (hoff : 0x300000 ≤ x.off) : g (c.setF x v) = g c := h.put c _ hoff

theorem setB (c : Core) {x : Field} (b : Bool) (hoff : 0x300000 ≤ x.off) : g (c.setB x b) = g c := h.setF c _ hoff

theorem count1 (c : Core) {r : Nat} (hr : 0x300000 ≤ r) : g (c.count r) = g c := h.count c r 1 hr

theorem raiseIf (c : Core) (b : Bool) {x : Field} (hoff : 0x300000 ≤ x.off) : g (c.raiseIf b x) = g c := by
  unfold Core.raiseIf
  split
  · exact h.raise c x hoff
  · rfl

theorem unscheduled : Unscheduled g where
  put c _ w hoff := h.put c w (Nat.le_trans (by decide) hoff)
  raise c x hoff := h.raise c x (Nat.le_trans (by decide) hoff)
  count c r n hr := h.count c r n (Nat.le_trans (by decide) hr)
  countW c r n hr := h.countW c r n (Nat.le_trans (by decide) hr)
  atl := h.atl
  health := h.health

/-! ### Messages -/

theorem queueFrame (c : Core) (p : Nat) (f : TxFrame) : g (c.queueFrame p f) = g c := by
  unfold Core.queueFrame
  split
  · split
    · exact (h.raise _ _ (by decide)).trans (h.count1 c (by simp only [R.MEDIA_TX_DROP]; omega))
    · rfl
  · split
    · exact (h.raise _ _ (by simp only [F.NET_INT_STATUS_TX_ERR, R.NET_INT_STATUS]; omega)).trans (h.count1 c (by simp only [R.NET_TX_ERR]; omega))
    · exact h.net c _

theorem unsaid : Unsaid g where
  outbox := h.outbox
  index c x v hx := h.setF c v (by rcases hx with e | e <;> rw [e] <;> decide)
  frame c x _ := h.queueFrame c 3 x
  held c _ := h.host c _
  pba c _ := h.host c _
  ops c _ := h.host c _
  later c _ := h.host c _
  instant c _ := h.host c _
  twin := h.twin
  session c _ _ _ _ _ := h.host c _

theorem notice (c : Core) (t : Tok) (st : Status) (l : List Byte) : g (c.notice t st l) = g c := h.unsaid.notice c t st l

theorem notice? (c : Core) (t : Option Tok) (st : Status) (l : List Byte) : g (c.notice? t st l) = g c := by
  cases t with
  | none => rfl
  | some t => exact h.notice c t st l

/-! ### Commands and swaps that a jump ends -/

theorem palShow (c : Core) : g c.palShow = g c := by
  unfold Core.palShow
  dsimp only
  rw [h.setB _ _ (by decide), h.setB _ _ (by decide), h.setF _ _ (by decide), h.setF _ _ (by decide)]

theorem dropSwap (c : Core) (q : Swap → Bool) : g (c.dropSwap q) = g c := by
  unfold Core.dropSwap
  dsimp only
  refine (h.palShow _).trans ((h.cal _ _).trans ?_)
  exact keeps_ite g (h.survey c _) rfl

theorem txShow (c : Core) (n : Nat) : g (c.txShow n) = g c := by
  have hoff : 0x300000 ≤ R.MEDIA_TX_STATE n := by simp only [R.MEDIA_TX_STATE]; omega
  unfold Core.txShow
  dsimp only
  exact keeps_ite g (h.put c _ hoff) ((h.setB _ _ hoff).trans ((h.setB _ _ hoff).trans (h.setF _ _ hoff)))

theorem txShowAll (c : Core) : g c.txShowAll = g c := foldl_keeps g _ (fun c (x : Nat × TxStream) => h.txShow c x.1) _ c

theorem dropSwitch (c : Core) : g c.dropSwitch = g c := by
  unfold Core.dropSwitch
  split
  · dsimp only
    refine keeps_ite g rfl ?_
    exact keeps_ite g ((h.txShowAll _).trans ((h.setF _ _ (by decide)).trans (h.twin _ _))) (h.twin _ _)
  · rfl

theorem regroup (c : Core) (b : Nat) (skip : Option Nat) : g (c.regroup b skip) = g c := Core.regroup_keeps (fun c _ _ => h.net c _) c b skip

theorem setMeas (c : Core) (m : Option Meas) : g (c.setMeas m) = g c := (h.survey _ _).trans (h.setF c _ (by decide))

theorem undoTimed (c : Core) (t : Timed) : g (c.undoTimed t) = g c := by
  unfold Core.undoTimed
  dsimp only
  refine keeps_ite g rfl <| keeps_ite g (h.dropSwap c _) ?_
  refine keeps_ite g (keeps_ite g (h.mon c _) rfl) <| keeps_ite g (keeps_ite g (h.mon c _) rfl) ?_
  refine keeps_ite g (h.out c _) <| keeps_ite g (h.arm c _) ?_
  refine keeps_ite g ((h.regroup _ _ _).trans (h.arm c _)) <| keeps_ite g ((h.regroup _ _ _).trans (h.net c _)) ?_
  refine keeps_ite g (h.net c _) <| keeps_ite g (keeps_ite g (h.setMeas c none) rfl) ?_
  refine keeps_ite g (h.brush c _) <| keeps_ite g (h.brush c _) <| keeps_ite g (h.health c _) ?_
  exact keeps_ite g (h.dropSwitch c) rfl

theorem abortTimed (c : Core) (t : Timed) : g (c.abortTimed t) = g c :=
  (h.notice _ _ _ _).trans ((h.undoTimed _ _).trans (h.host c _))

theorem surveyLog (c : Core) (x : SurveyLog) : g (c.surveyLog x) = g c :=
  Core.surveyLog_keeps (fun c => (h.raise _ _ (by decide)).trans (h.count1 c (by decide))) (fun c _ => h.survey c _) c x

theorem logChanges (c : Core) (kind count pairs : Nat) (cs : List Change) : g (c.logChanges kind count pairs cs) = g c :=
  foldl_keeps g _ (fun c _ => h.surveyLog c _) cs c

theorem surveyApplied (c : Core) (b : Nat) : g (c.surveyApplied b) = g c := by
  unfold Core.surveyApplied
  split
  · rfl
  · dsimp only
    refine keeps_ite g rfl ?_
    exact (h.raise _ _ (by decide)).trans ((h.logChanges _ _ _ _ _).trans ((h.countW _ _ _ (by decide)).trans
      ((h.survey _ _).trans (h.setF c _ (by decide)))))

theorem glazeOver (c : Core) (x : GlazeRun) : g (c.glazeOver x) = g c := by
  have hshow : g ({ c with cal := { c.cal with glazes := c.cal.glazes.erase x } } : Core).palShow = g c := (h.palShow _).trans (h.cal c _)
  unfold Core.glazeOver
  dsimp only
  refine (h.notice? _ _ _ _).trans ((h.raise _ _ (by decide)).trans ?_)
  exact keeps_ite g ((h.surveyApplied _ _).trans ((h.out _ _).trans hshow)) hshow

theorem dueNow (c : Core) : g c.dueNow = g c := by
  have hparts : ∀ (mon : MonPart) (out : OutPart) (arm : ArmPart) (net : NetPart) (brush : BrushPart) (health : HealthPart),
      g { c with mon := mon, out := out, arm := arm, net := net, brush := brush, health := health } = g c :=
    fun mon out arm net brush health =>
      (h.health { c with mon := mon, out := out, arm := arm, net := net, brush := brush } health).trans <|
        (h.brush { c with mon := mon, out := out, arm := arm, net := net } brush).trans <|
        (h.net { c with mon := mon, out := out, arm := arm } net).trans <|
        (h.arm { c with mon := mon, out := out } arm).trans <| (h.out { c with mon := mon } out).trans (h.mon c mon)
  exact hparts _ _ _ _ _ _

theorem cancelTask (c : Core) (port handle reason : Nat) : g (c.cancelTask port handle reason) = g c := by
  have hu := h.unscheduled
  have htrace : ∀ (d : Core) (event reason s : Nat) (x : AtSlot), g (d.atTrace event reason s x 0x7F port) = g d := fun d _ _ _ _ => h.atl d _
  unfold Core.cancelTask
  dsimp only
  refine keeps_ite g ((htrace _ _ _ _ _).trans (hu.count1 c (by decide))) ?_
  exact keeps_ite g ((hu.count1 _ (by decide)).trans ((hu.setSlot _ _ _).trans (htrace _ _ _ _ _)))
    ((hu.taskLost _ _ _ _).trans (htrace _ _ _ _ _))

theorem mediaTasks (c : Core) : g c.mediaTasks = g c := foldl_keeps g _ (fun c _ => h.cancelTask c _ _ _) _ c

theorem mediaJump (c : Core) : g c.mediaJump = g c := by
  unfold Core.mediaJump
  dsimp only
  rw [h.mediaTasks, h.dueNow, foldl_keeps g _ fun c x => h.glazeOver c x]
  rw [foldl_keeps g _ fun c (w : Swap) => h.notice? c _ _ _, h.dropSwap, h.dropSwitch]
  exact foldl_keeps g _ (fun c t => h.abortTimed c t) _ c

/-! ### What starts anew with the media time -/

theorem measureOver (c : Core) (m : Meas) (st : Status) : g (c.measureOver m st) = g c :=
  (h.notice _ _ _ _).trans ((h.raise _ _ (by decide)).trans ((h.surveyLog _ _).trans (h.setMeas c none)))

theorem measureStop (c : Core) : g c.measureStop = g c := by
  unfold Core.measureStop
  split
  · exact h.measureOver c _ _
  · rfl

theorem portState (c : Core) (p st : Nat) : g (c.portState p st) = g c := by
  have hoff : 0x300000 ≤ R.PORTS_TDM_STATE p := by simp only [R.PORTS_TDM_STATE]; omega
  have hstatus : 0x300000 ≤ R.PORTS_STATUS := by decide
  unfold Core.portState
  dsimp only
  exact (h.setB _ _ hstatus).trans ((h.setB _ _ hstatus).trans (h.setF c _ hoff))

theorem portPaths (c : Core) (p n : Nat) (lost : Bool) : g (c.portPaths p n lost) = g c := Core.portPaths_keeps (fun c _ _ => h.arm c _) c p n lost

theorem portsRestart (c : Core) (n : Nat) : g (c.portsRestart n) = g c := by
  have hport : ∀ (d : Core) (p : Nat) (x : TdmPort) (st : Nat), g ((d.setTdm p x).portState p st) = g d := fun d p x st =>
    (h.portState _ _ _).trans (h.arm d _)
  unfold Core.portsRestart Core.dpTurn
  refine (h.arm _ _).trans ((h.arm _ _).trans (foldl_keeps g _ (fun d p => ?_) _ c))
  dsimp only
  split
  · refine keeps_ite g rfl <| keeps_ite g ((h.portPaths _ _ _ _).trans (hport _ _ _ _)) ?_
    exact (h.portPaths _ _ _ _).trans ((h.setF _ _ (by simp only [F.PORTS_TDM_STATE_GOOD, R.PORTS_TDM_STATE]; omega)).trans (hport _ _ _ _))
  · rfl

theorem poolRegs (c : Core) : g c.poolRegs = g c :=
  (h.setF _ _ (by decide)).trans ((h.setF _ _ (by decide)).trans ((h.setF _ _ (by decide)).trans (h.setF c _ (by decide))))

theorem rxStart (c : Core) (n b : Nat) : g (c.rxStart n b) = g c := by
  have hstate : 0x300000 ≤ R.MEDIA_RX_STATE n := by simp only [R.MEDIA_RX_STATE]; omega
  rw [Core.rxStart_eq, h.poolRegs]
  unfold Core.rxRegs
  refine (h.setF _ _ hstate).trans ((h.setF _ _ hstate).trans ((h.put _ _ (by simp only [R.MEDIA_RX_MARGIN]; omega)).trans ?_))
  refine (h.setF _ _ hstate).trans ((h.put _ _ (by simp only [R.MEDIA_RX_MAP]; omega)).trans ?_)
  exact (h.put _ _ (by simp only [R.MEDIA_RX_CTRL]; omega)).trans (h.net c _)

theorem txStart (c : Core) (n b : Nat) : g (c.txStart n b) = g c := by
  rw [Core.txStart_eq, h.poolRegs, h.txShow]
  unfold Core.txRegs
  refine (h.put _ _ (by simp only [R.MEDIA_TX_MAP]; omega)).trans ?_
  exact (h.put _ _ (by simp only [R.MEDIA_TX_CTRL]; omega)).trans (h.net c _)

theorem streamsRestart (c : Core) (n : Nat) : g (c.streamsRestart n) = g c := by
  unfold Core.streamsRestart
  dsimp only
  rw [foldl_keeps g _ fun d s => keeps_ite g (h.txStart d s n) rfl, foldl_keeps g _ fun d s => keeps_ite g (h.rxStart d s n) rfl]
  exact h.net c _

/-- What starts anew beside the clocks. -/
theorem restartParts (c : Core) (n : Nat) :
    g (((((((c.renderRestart.anchorGrid n).chainClear n).monitorRestart n).measureStop).surveyBreak n).portsRestart n).streamsRestart n) = g c := by
  rw [h.streamsRestart, h.portsRestart]
  exact (h.survey _ _).trans ((h.measureStop _).trans ((h.mon _ _).trans ((h.out _ _).trans ((h.cal _ _).trans (h.ren c _)))))

end Offstage

/-- The gate is closed before block n from now on. -/
def Core.zeroFrom (c : Core) (n : Nat) : Core := { c with clk := { c.clk with zeroBefore := n } }

theorem mediaRestart_eq (c : Core) (n : Nat) : c.mediaRestart n =
    ((((((((c.zeroFrom n).renderRestart.anchorGrid n).chainClear n).monitorRestart n).measureStop).surveyBreak n).portsRestart n).streamsRestart n) :=
  rfl

theorem Offstage.mediaRestart {α : Type} {g : Core → α} (h : Offstage g) (c : Core) (n : Nat) : g (c.mediaRestart n) = g (c.zeroFrom n) := by
  rw [mediaRestart_eq]
  exact h.restartParts _ n

end Sys2Proof.Machine
end

section
/-! Steps, re-alignments, pulses, captures and the opcodes of class 0x012x (R108 to R118), and O14. -/

namespace Sys2Proof.Machine
open Sys2Proof

/-! ### Bits of a word that is written -/

theorem bitOf_eq_bitsOf (w : Word) (n : Nat) : bitOf w n = decide (bitsOf w n n = 1) := by
  unfold bitOf bitsOf
  rw [Nat.sub_self, zero_add, pow_one]
  rfl

theorem bitOf_withBits_same (w : Word) {k : Nat} (hk : k < 32) (v : Nat) : bitOf (withBits w k k v) k = decide (v % 2 = 1) := by
  rw [bitOf_eq_bitsOf, bitsOf_withBits_same w v (le_refl k) hk, Nat.sub_self, zero_add, pow_one]

theorem bitOf_withBits_ne (w : Word) {k n : Nat} (hk : k < 32) (h : n ≠ k) (v : Nat) : bitOf (withBits w k k v) n = bitOf w n := by
  rw [bitOf_eq_bitsOf, bitOf_eq_bitsOf]
  rcases Nat.lt_or_gt_of_ne h with hn | hn
  · rw [bitsOf_withBits_below w v (le_refl k) hk hn (le_refl n)]
  · rw [bitsOf_withBits_above w v (le_refl k) hk hn]

/-! ### The counter steps (R108) -/

/-- The time part takes a value. -/
def Core.setTime (c : Core) (x : TimePart) : Core := { c with time := x }

/-- The clock part takes a value. -/
def Core.setClk (c : Core) (x : Clk) : Core := { c with clk := x }

theorem Core.pulseStep_keeps {α : Type} {g : Core → α} (hset : ∀ (c : Core) (x : Field) (v : Nat), 0x200200 ≤ x.off → g (c.setF x v) = g c)
    (hraise : ∀ c : Core, g (c.raise F.TIME_INT_STATUS_PULSE_FAULT) = g c)
    (hpulses : ∀ (c : Core) (m : SMap (Option Pulse)), g (c.setTime { c.time with pulses := m }) = g c) (c : Core) (i old : Nat) :
    g (c.pulseStep i old) = g c := by
  unfold Core.pulseStep
  split
  · rfl
  · next p _ =>
    have hskip : ∀ b : Bool, g (if b then (c.setF (F.TIME_PULSE_STATUS_SKIPPED i) 1).raise F.TIME_INT_STATUS_PULSE_FAULT else c) = g c :=
      fun b => keeps_ite g ((hraise _).trans (hset _ _ _ (by simp only [F.TIME_PULSE_STATUS_SKIPPED, R.TIME_PULSE_STATUS]; omega))) rfl
    dsimp only
    refine (hpulses _ _).trans (keeps_ite g ((hset _ _ _ ?_).trans (hskip _)) (hskip _))
    simp only [F.TIME_PULSE_CTRL_ARM, R.TIME_PULSE_CTRL]
    omega

theorem Core.gateStep_keeps {α : Type} {g : Core → α} (hnet : ∀ (c : Core) (p : Nat) (x : NetPort), g (c.setNetPort p x) = g c) (c : Core) (p : Nat) :
    g (c.gateStep p) = g c := keeps_ite g (hnet c p _) rfl

/-- The ports note the step. -/
def Core.gatesStep (c : Core) : Core := (List.range 4).foldl (fun (c : Core) p => c.gateStep p) c

/-- A step counts, where MEDIA has started. -/
def Core.epochStep (c : Core) : Core :=
  if c.clk.mediaStarted then (c.count R.TIME_STEP_COUNT).setF F.TIME_STATUS_EPOCH (c.f F.TIME_STATUS_EPOCH + 1) else c

/-- The counter takes its new value. -/
def Core.moved (c : Core) (d : Int) : Core := c.setTime { c.time with ptp := ((c.time.ptp : Int) + d * 2 ^ 16).toNat, known := true }

theorem Core.stepCounter_eq (c : Core) (d : Int) : c.stepCounter d =
    (List.range 4).foldl (fun x i => x.pulseStep i c.ptpNs) (((c.gatesStep.moved d).epochStep).raise F.TIME_INT_STATUS_STEPPED) := rfl

theorem Core.gatesStep_keeps {α : Type} {g : Core → α} (hnet : ∀ (c : Core) (p : Nat) (x : NetPort), g (c.setNetPort p x) = g c) (c : Core) :
    g c.gatesStep = g c := foldl_keeps g _ (fun c p => Core.gateStep_keeps hnet c p) _ c

theorem Core.epochStep_keeps {α : Type} {g : Core → α} (hcount : ∀ c : Core, g (c.count R.TIME_STEP_COUNT) = g c)
    (hset : ∀ (c : Core) (v : Nat), g (c.setF F.TIME_STATUS_EPOCH v) = g c) (c : Core) : g c.epochStep = g c :=
  keeps_ite g ((hset _ _).trans (hcount c)) rfl

section StepCounter
variable (c : Core) (d : Int)

theorem Core.stepCounter_clk : (c.stepCounter d).clk = c.clk := by
  rw [Core.stepCounter_eq, foldl_keeps Core.clk _ fun x i => x.pulseStep_keeps (fun _ _ _ _ => rfl) (fun x => x.raise_clk _) (fun _ _ => rfl) i _,
    Core.raise_clk, Core.epochStep_keeps (g := Core.clk) (fun x => x.count_clk _) fun _ _ => rfl]
  exact Core.gatesStep_keeps (g := Core.clk) (fun _ _ _ => rfl) c

theorem Core.stepCounter_bystanders : (c.stepCounter d).bystanders = c.bystanders := by
  have hcount : ∀ x : Core, (x.count R.TIME_STEP_COUNT).bystanders = x.bystanders := fun x =>
    bystanders_of (Core.countS_sessions x _ _ _) (Core.count_atl _ _)
  rw [Core.stepCounter_eq, foldl_keeps Core.bystanders _ fun x i => x.pulseStep_keeps (fun _ _ _ _ => rfl) (fun x => x.raise_bystanders _)
    (fun _ _ => rfl) i _, Core.raise_bystanders, Core.epochStep_keeps (g := Core.bystanders) hcount fun _ _ => rfl]
  exact Core.gatesStep_keeps (g := Core.bystanders) (fun _ _ _ => rfl) c

/-- Time apart from pulses, which a step looks at again. -/
def TimePart.unpulsed (x : TimePart) : TimePart := { x with pulses := [] }

theorem Core.stepCounter_time : (c.stepCounter d).time.unpulsed =
    { c.time.unpulsed with ptp := ((c.time.ptp : Int) + d * 2 ^ 16).toNat, known := true } := by
  have hgates : c.gatesStep.time = c.time := Core.gatesStep_keeps (g := Core.time) (fun _ _ _ => rfl) c
  have hmoved : (c.gatesStep.moved d).time = { c.time with ptp := ((c.time.ptp : Int) + d * 2 ^ 16).toNat, known := true } :=
    congrArg (fun x : TimePart => { x with ptp := ((x.ptp : Int) + d * 2 ^ 16).toNat, known := true }) hgates
  rw [Core.stepCounter_eq, foldl_keeps (fun x : Core => x.time.unpulsed) _ fun x i =>
    x.pulseStep_keeps (g := fun x : Core => x.time.unpulsed) (fun _ _ _ _ => rfl) (fun x => congrArg TimePart.unpulsed (x.raise_time _)) (fun _ _ => rfl) i _]
  rw [Core.raise_time, Core.epochStep_keeps (g := Core.time) (fun x => x.count_time _) fun _ _ => rfl, hmoved]
  rfl

theorem Core.stepped_stepCounter : (c.stepCounter d).flag F.TIME_INT_STATUS_STEPPED = true := by
  have hset : ∀ (x : Core) (f : Field) (v : Nat), 0x200200 ≤ f.off → (x.setF f v).flag F.TIME_INT_STATUS_STEPPED = x.flag F.TIME_INT_STATUS_STEPPED :=
    fun x f v hf => Core.flag_congr (x.get_setF_ne v fun e : R.TIME_INT_STATUS = f.off => by rw [← e] at hf; exact absurd hf (by decide))
  have hraise : ∀ x : Core, (x.raise F.TIME_INT_STATUS_PULSE_FAULT).flag F.TIME_INT_STATUS_STEPPED = x.flag F.TIME_INT_STATUS_STEPPED := fun x => by
    unfold Core.flag
    rw [Core.f_raise, show (x.setF F.TIME_INT_STATUS_PULSE_FAULT 1).f F.TIME_INT_STATUS_STEPPED = x.f F.TIME_INT_STATUS_STEPPED from
      x.f_setF_beside 1 (show 7 ≤ 7 by decide) (by decide) (show 1 ≤ 1 by decide) (by decide)]
  rw [Core.stepCounter_eq, foldl_keeps (Core.flag · F.TIME_INT_STATUS_STEPPED) _ fun x i =>
    x.pulseStep_keeps (g := (Core.flag · F.TIME_INT_STATUS_STEPPED)) hset hraise (fun _ _ => rfl) i _]
  exact Core.flag_raise_same _ _ _ (by decide)

end StepCounter

section TakeStep
variable (c : Core) (off : Int)

/-- A step that is taken. -/
def Core.stepTaken : Core :=
  (c.stepCounter (-off)).setTime { (c.stepCounter (-off)).time with checking := false, sums := [], lost := false, refused := 0 }

theorem Core.takeStep_eq : c.takeStep off = ((c.stepTaken off).setF F.TIME_STATUS_JUMP_REFUSED 0).showTime := rfl

theorem Core.showTime_keeps {α : Type} {g : Core → α} (hset : ∀ (c : Core) (v : Nat), g (c.setF F.TIME_STATUS_STATE v) = g c) : g c.showTime = g c :=
  hset c _

theorem Core.takeStep_keeps {α : Type} {g : Core → α} (hset : ∀ (c : Core) (x : Field) (v : Nat), x.off = R.TIME_STATUS → g (c.setF x v) = g c) :
    g (c.takeStep off) = g (c.stepTaken off) := by
  rw [Core.takeStep_eq, Core.showTime_keeps _ fun c v => hset c _ v rfl]
  exact hset _ _ _ rfl

theorem Core.stepTaken_keeps {α : Type} {g : Core → α} (htime : ∀ (c : Core) (x : TimePart), g (c.setTime x) = g c) :
    g (c.stepTaken off) = g (c.stepCounter (-off)) := htime _ _

theorem Core.takeStep_clk : (c.takeStep off).clk = c.clk :=
  (c.takeStep_keeps off (g := Core.clk) fun _ _ _ _ => rfl).trans
    ((c.stepTaken_keeps off (g := Core.clk) fun _ _ => rfl).trans (c.stepCounter_clk _))

theorem Core.takeStep_bystanders : (c.takeStep off).bystanders = c.bystanders :=
  (c.takeStep_keeps off (g := Core.bystanders) fun _ _ _ _ => rfl).trans
    ((c.stepTaken_keeps off (g := Core.bystanders) fun _ _ => rfl).trans (c.stepCounter_bystanders _))

theorem Core.takeStep_time : (c.takeStep off).time.unpulsed =
    { c.time.unpulsed with ptp := ((c.time.ptp : Int) - off * 2 ^ 16).toNat, known := true, checking := false, sums := [], lost := false, refused := 0 } := by
  have htime := c.stepCounter_time (-off)
  rw [Int.neg_mul, ← Int.sub_eq_add_neg] at htime
  rw [c.takeStep_keeps off (g := fun x : Core => x.time.unpulsed) fun _ _ _ _ => rfl]
  unfold Core.stepTaken
  generalize c.stepCounter (-off) = d at htime ⊢
  exact congrArg (fun x : TimePart => { x with checking := false, sums := [], lost := false, refused := 0 }) htime

theorem Core.stepped_takeStep : (c.takeStep off).flag F.TIME_INT_STATUS_STEPPED = true := by
  rw [c.takeStep_keeps off (g := (Core.flag · F.TIME_INT_STATUS_STEPPED)) fun c x v hx =>
    Core.flag_congr (c.get_setF_ne v (by rw [hx]; decide))]
  exact (c.stepTaken_keeps off (g := (Core.flag · F.TIME_INT_STATUS_STEPPED)) fun _ _ => rfl).trans (c.stepped_stepCounter _)

theorem Core.jumpRefused_takeStep : (c.takeStep off).flag F.TIME_STATUS_JUMP_REFUSED = false := by
  have hshow : ∀ (x : Core) (v : Nat), (x.setF F.TIME_STATUS_STATE v).flag F.TIME_STATUS_JUMP_REFUSED = x.flag F.TIME_STATUS_JUMP_REFUSED := fun x v => by
    unfold Core.flag
    rw [show (x.setF F.TIME_STATUS_STATE v).f F.TIME_STATUS_JUMP_REFUSED = x.f F.TIME_STATUS_JUMP_REFUSED from
      x.f_setF_beside v (show 0 ≤ 2 by decide) (by decide) (show 5 ≤ 5 by decide) (by decide)]
  rw [Core.takeStep_eq, Core.showTime_keeps _ (g := (Core.flag · F.TIME_STATUS_JUMP_REFUSED)) hshow]
  exact Core.flag_setF_bit _ _ _ _ (by decide)

end TakeStep

theorem Core.refBack_keeps {α : Type} {g : Core → α} (hclk : ∀ (c : Core), g (c.setClk { c.clk with held := false, locked := false }) = g c)
    (hset : ∀ c : Core, g (c.setF F.CLK_MEDIA_STATUS_STATE 1) = g c) (hraise : ∀ c : Core, g (c.raise F.CLK_INT_STATUS_HOLDOVER_EXIT) = g c)
    (c : Core) (r : Nat) : g (c.refBack r) = g c :=
  keeps_ite g ((hraise _).trans ((hset _).trans (hclk c))) rfl

theorem Core.refBack_time (c : Core) (r : Nat) : (c.refBack r).time = c.time :=
  Core.refBack_keeps (g := Core.time) (fun _ => rfl) (fun _ => rfl) (fun c => c.raise_time _) c r

theorem Core.refBack_bystanders (c : Core) (r : Nat) : (c.refBack r).bystanders = c.bystanders :=
  Core.refBack_keeps (g := Core.bystanders) (fun _ => rfl) (fun _ => rfl) (fun c => c.raise_bystanders _) c r

theorem Core.get_refBack (c : Core) (r : Nat) {off : Nat} (h : off / 0x100000 ≠ 1) : (c.refBack r).get off = c.get off :=
  Core.refBack_keeps (g := (Core.get · off)) (fun _ => rfl) (fun c => c.get_setF_ne _ fun e => h (by rw [e]; decide))
    (fun c => c.get_raise_ne fun e => h (by rw [e]; decide)) c r

/-! ### TIME_STEP_ACCEPT (R109) -/

/-- What a served write leaves in the register it names, some bits held back. -/
theorem Core.get_written_hold (c : Core) {a : Access} {r : RegRow} (hrow : regRow? a.off = some r) (hold : Nat) :
    (c.written a hold).get a.off = c.fixWrite a.off (c.get a.off)
      (typedWrite (c.get a.off) (a.value &&& ~~~(.ofNat 32 hold)) (.ofNat 32 r.rw &&& ~~~(.ofNat 32 hold)) r.w1c r.w1s) := by
  unfold Core.written Core.writeTyped servedMasks
  rw [hrow]
  dsimp only
  rw [Core.get_putIrq_same, if_pos rfl]

theorem typedWrite_getLsbD (old v m : Word) (a b : Nat) {i : Nat} (hi : i < 32) : (typedWrite old v m a b).getLsbD i =
    (((old.getLsbD i && !m.getLsbD i || v.getLsbD i && m.getLsbD i) && !(v.getLsbD i && (BitVec.ofNat 32 a).getLsbD i)) ||
      (v.getLsbD i && (BitVec.ofNat 32 b).getLsbD i)) := by
  unfold typedWrite
  simp only [BitVec.getLsbD_or, BitVec.getLsbD_and, BitVec.getLsbD_not, hi, decide_true, Bool.true_and]

theorem bitOf_eq_getLsbD (w : Word) (n : Nat) : bitOf w n = w.getLsbD n := by
  unfold bitOf
  rw [← BitVec.testBit_toNat, Nat.testBit_eq_decide_div_mod_eq]
  rfl

theorem Core.flag_eq_bitOf (c : Core) (o k : Nat) : c.flag ⟨o, k, k⟩ = bitOf (c.get o) k := by
  unfold Core.flag Core.f
  rw [bitOf_eq_bitsOf]
  have hlt : bitsOf (c.get o) k k < 2 := by
    unfold bitsOf
    rw [Nat.sub_self]
    exact Nat.mod_lt _ (by decide)
  rw [decide_eq_decide]
  change bitsOf (c.get o) k k ≠ 0 ↔ _
  omega

theorem fixWrite_stepAccept (c : Core) (old new : Word) : c.fixWrite R.TIME_STEP_ACCEPT old new = new := by
  unfold Core.fixWrite
  rw [if_neg (by decide), if_neg (by decide), if_neg (by decide), if_neg (by decide), if_neg (by decide), if_neg (by decide), if_neg (by decide), if_neg (by decide), if_neg (by decide), if_neg (by decide), if_neg (by decide), if_neg (by decide), if_neg (by decide), if_neg (by decide), if_neg (by decide), if_neg (by decide), if_neg (by decide), if_neg (by decide)]

theorem stepMode_written (c : Core) (m : Nat) (v : Word) :
    (c.written ⟨m, R.TIME_STEP_ACCEPT, v⟩ 0x80000000).flag F.TIME_STEP_ACCEPT_MODE = bitOf v 0 := by
  have hrow : ∃ r, regRow? R.TIME_STEP_ACCEPT = some r ∧ r.rw = 1 ∧ r.w1c = 0x40000000 ∧ r.w1s = 0x80000000 := by decide +kernel
  obtain ⟨r, hrow, hrw, hw1c, hw1s⟩ := hrow
  have hget := c.get_written_hold (a := ⟨m, R.TIME_STEP_ACCEPT, v⟩) hrow 0x80000000
  rw [hrw, hw1c, hw1s, fixWrite_stepAccept] at hget
  refine (Core.flag_eq_bitOf _ R.TIME_STEP_ACCEPT 0).trans ?_
  rw [show (c.written ⟨m, R.TIME_STEP_ACCEPT, v⟩ 0x80000000).get R.TIME_STEP_ACCEPT = _ from hget, bitOf_eq_getLsbD, bitOf_eq_getLsbD,
    typedWrite_getLsbD _ _ _ _ _ (by decide), BitVec.getLsbD_and, BitVec.getLsbD_and]
  rw [show (BitVec.ofNat 32 1).getLsbD 0 = true from rfl, show (~~~BitVec.ofNat 32 0x80000000).getLsbD 0 = true from by decide,
    show (BitVec.ofNat 32 0x40000000).getLsbD 0 = false from by decide, show (BitVec.ofNat 32 0x80000000).getLsbD 0 = false from by decide]
  simp

/-- A re-alignment is scheduled. -/
def Core.realigning (c : Core) (b : Nat) (off : Int) : Core := (c.setTime { c.time with realign := some { b := b, offset := off } }).fadeTo b

theorem acceptStep_slews {c : Core} (hsmall : c.time.refused.natAbs ≤ 1000000 * 65536) :
    c.acceptStep true = some (if c.clk.mediaOn then (c.takeStep c.time.refused).refBack 1 else c.takeStep c.time.refused) := by
  unfold Core.acceptStep
  by_cases hmedia : c.clk.mediaOn = true
  · rw [if_neg (by rw [hmedia]; decide), if_pos rfl, if_neg (by omega), if_pos hmedia]
  · rw [if_pos (by simpa using hmedia), if_neg hmedia]

theorem acceptStep_realigns {c : Core} (hmedia : c.clk.mediaOn = true) :
    c.acceptStep false = some (c.realigning c.anchorB c.time.refused) := by
  unfold Core.acceptStep
  dsimp only
  rw [if_neg (by rw [hmedia]; decide), if_neg (by decide)]
  rfl

/-- What a step that is slewed leaves. -/
def Core.slewed (c : Core) : Core := if c.clk.mediaOn then (c.takeStep c.time.refused).refBack 1 else c.takeStep c.time.refused

theorem Core.slewed_keeps {α : Type} {g : Core → α} (hback : ∀ (c : Core) (r : Nat), g (c.refBack r) = g c) (c : Core) :
    g c.slewed = g (c.takeStep c.time.refused) := keeps_ite g (hback _ _) rfl

section Slewed
variable (c : Core)

theorem Core.slewed_bystanders : c.slewed.bystanders = c.bystanders :=
  (Core.slewed_keeps (g := Core.bystanders) Core.refBack_bystanders c).trans (c.takeStep_bystanders _)

theorem Core.slewed_time : c.slewed.time.ptp = ((c.time.ptp : Int) - c.time.refused * 2 ^ 16).toNat ∧ c.slewed.time.realign = c.time.realign := by
  have htime := c.takeStep_time c.time.refused
  rw [Core.slewed_keeps (g := Core.time) Core.refBack_time c]
  exact ⟨(congrArg TimePart.ptp htime :), (congrArg TimePart.realign htime :)⟩

theorem Core.slewed_flags : c.slewed.flag F.TIME_STATUS_JUMP_REFUSED = false ∧ c.slewed.flag F.TIME_INT_STATUS_STEPPED = true := by
  have hget : ∀ (d : Core) (r : Nat) {x : Field}, x.off / 0x100000 ≠ 1 → (d.refBack r).flag x = d.flag x := fun d r _ h =>
    Core.flag_congr (d.get_refBack r h)
  refine ⟨?_, ?_⟩
  · rw [Core.slewed_keeps (g := (Core.flag · F.TIME_STATUS_JUMP_REFUSED)) (fun d r => hget d r (by decide)) c]
    exact c.jumpRefused_takeStep _
  · rw [Core.slewed_keeps (g := (Core.flag · F.TIME_INT_STATUS_STEPPED)) (fun d r => hget d r (by decide)) c]
    exact c.stepped_takeStep _

end Slewed

section StepAccept
variable {c : Core} {m : Nat} {v : Word}

theorem stepAcceptWrite_accepts {mode : Bool} {d : Core} (hserves : c.serves m R.TIME_STEP_ACCEPT = true) (hgo : bitOf v 31 = true)
    (hmode : bitOf v 0 = mode) (hrefused : c.flag F.TIME_STATUS_JUMP_REFUSED = true) (hfree : c.time.realign = none)
    (haccept : (c.written ⟨m, R.TIME_STEP_ACCEPT, v⟩ 0x80000000).acceptStep mode = some d) :
    stepAcceptWrite m v c = if d.time.realign.isSome then d.setF F.TIME_STEP_ACCEPT_GO 1 else d := by
  have hflag : (c.written ⟨m, R.TIME_STEP_ACCEPT, v⟩ 0x80000000).flag F.TIME_STATUS_JUMP_REFUSED = true :=
    (Core.flag_congr (c.get_written_ne _ (show R.TIME_STATUS ≠ R.TIME_STEP_ACCEPT by decide))).trans hrefused
  have htime : (c.written ⟨m, R.TIME_STEP_ACCEPT, v⟩ 0x80000000).time = c.time := (congrArg Core.time (c.written_rest _ _) :)
  have hset := stepMode_written c m v
  unfold stepAcceptWrite
  rw [busWrite_served hserves]
  generalize c.written ⟨m, R.TIME_STEP_ACCEPT, v⟩ 0x80000000 = w at haccept hflag htime hset ⊢
  rw [if_pos ⟨hgo, hflag, by rw [htime, hfree]; rfl⟩, hset, hmode, haccept]

end StepAccept

end Sys2Proof.Machine
end

section
/-! Re-alignments, TIME_CTRL, pulses and captures (R95, R106, R110 to R118), and O14. -/

namespace Sys2Proof.Machine
open Sys2Proof

/-! ### Re-alignment (R110, R111) -/

/-- The media time at the boundary from which a re-aligned counter goes on. -/
def Core.alignedAt (c : Core) : Nat := c.boundaryAt (c.countOfPtp + c.blk)

/-- The counter and the media time agree again. -/
def Core.aligned (c : Core) : Core :=
  c.setTime { c.time with n := c.alignedAt, ptp := max c.time.ptp (c.ptpOfCount c.alignedAt), realign := none }

/-- A re-alignment is over. -/
def Core.realignEnds (c : Core) : Core := (c.setF F.TIME_STEP_ACCEPT_GO 0).setF F.TIME_STATUS_REALIGNED 1

/-- The outputs fade in four blocks after media time n. -/
def Core.fadesIn (c : Core) (n : Nat) : Core :=
  c.setClk { c.clk with fadeInAt := some (n + 4 * c.blk),
                        dpGate := if c.flag F.SYS_STATUS_OUTPUT_HELD then .zero else .fadeIn n c.glaze,
                        dpCut := c.flag F.SYS_STATUS_OUTPUT_HELD }

/-- Everything has started anew at the aligned media time. -/
def Core.realigned (c : Core) : Core := ((c.aligned.mediaRestart c.alignedAt).refBack 1).realignEnds.fadesIn c.alignedAt

theorem realignment_realigns {c : Core} {x : Realign} (hrealign : c.time.realign = some x) (hmedia : c.clk.mediaOn = true) (hdue : x.b ≤ c.time.n) :
    realignment c = (c.mediaJump.cutAudio.takeStep x.offset).realigned := by
  unfold realignment
  rw [hrealign]
  dsimp only
  rw [if_neg (by rw [hmedia]; simp only [Bool.not_true, Bool.false_eq_true, false_or]; omega)]
  generalize c.mediaJump.cutAudio.takeStep x.offset = d
  unfold Core.realigned Core.aligned Core.setTime
  generalize hd : ({ d with time := { d.time with n := d.alignedAt, ptp := max d.time.ptp (d.ptpOfCount d.alignedAt), realign := none } } : Core) = e
  unfold Core.alignedAt at hd ⊢
  rw [hd]
  generalize d.boundaryAt (d.countOfPtp + d.blk) = n
  generalize (e.mediaRestart n).refBack 1 = f
  rfl

section FadesIn
variable (c : Core) (n : Nat)

theorem Core.fadesIn_clk : (c.fadesIn n).clk.gate = c.clk.gate ∧ (c.fadesIn n).clk.fadeInAt = some (n + 4 * (c.fadesIn n).blk) := ⟨rfl, rfl⟩

theorem Core.fadesIn_rest : (c.fadesIn n).time = c.time ∧ ∀ x, (c.fadesIn n).flag x = c.flag x :=
  ⟨rfl, fun _ => Core.flag_congr (get_of_regs rfl _)⟩

theorem Core.realignEnds_parts : c.realignEnds.clk = c.clk ∧ c.realignEnds.time = c.time := by
  unfold Core.realignEnds
  rw [Core.setF_clk, Core.setF_clk, Core.setF_time, Core.setF_time]
  exact ⟨rfl, rfl⟩

theorem Core.realignEnds_flags : c.realignEnds.flag F.TIME_STATUS_REALIGNED = true ∧ c.realignEnds.flag F.TIME_STEP_ACCEPT_GO = false := by
  unfold Core.realignEnds
  refine ⟨Core.flag_setF_bit _ _ _ _ (by decide), ?_⟩
  rw [Core.flag_congr (Core.get_setF_ne _ _ (by decide))]
  exact Core.flag_setF_bit _ _ _ _ (by decide)

theorem Core.restarted_clk_time : ((c.mediaRestart n).refBack 1).clk.gate = c.clk.gate ∧ ((c.mediaRestart n).refBack 1).time = c.time := by
  have hback : ∀ (d : Core) (r : Nat), (d.refBack r).clk.gate = d.clk.gate := Core.refBack_keeps (g := fun d => d.clk.gate) (fun _ => rfl)
    (fun _ => rfl) fun d => congrArg Clk.gate (d.raise_clk _)
  have hrestart := offstage_backstage.mediaRestart c n
  rw [hback, Core.refBack_time]
  generalize c.mediaRestart n = d at hrestart
  exact ⟨(congrArg (·.2.1.gate) hrestart :), (congrArg (·.2.2) hrestart :)⟩

end FadesIn

theorem Core.realigned_parts (c : Core) : c.realigned.clk.gate = c.clk.gate ∧
    c.realigned.clk.fadeInAt = some (c.alignedAt + 4 * c.realigned.blk) ∧ c.realigned.time = c.aligned.time ∧
    c.realigned.flag F.TIME_STATUS_REALIGNED = true ∧ c.realigned.flag F.TIME_STEP_ACCEPT_GO = false := by
  obtain ⟨hgate, htime⟩ := Core.restarted_clk_time c.aligned c.alignedAt
  unfold Core.realigned
  generalize (c.aligned.mediaRestart c.alignedAt).refBack 1 = d at hgate htime ⊢
  obtain ⟨haligned, hgo⟩ := d.realignEnds_flags
  obtain ⟨hclk, hends⟩ := d.realignEnds_parts
  generalize d.realignEnds = e at haligned hgo hclk hends ⊢
  obtain ⟨hfade, hin⟩ := e.fadesIn_clk c.alignedAt
  obtain ⟨hrest, hflags⟩ := e.fadesIn_rest c.alignedAt
  rw [hfade, hrest, hflags, hflags, hclk, hends]
  exact ⟨hgate, hin, htime, haligned, hgo⟩

/-! ### TIME_CTRL (R95, R106) -/

/-- A reading that choosing a leader and losing PTP leave alone: registers of TIME from LEADER_CFG on are kept where they are not
OFFSET, RATE, LEADER_ID or a count, and so are ports. -/
structure Unled {α : Type} (g : Core → α) : Prop where
  set : ∀ (c : Core) (x : Field) (v : Nat), x.off = R.TIME_STATUS ∨ x.off = R.CLK_MEDIA_STATUS → g (c.setF x v) = g c
  leader : ∀ (c : Core) (off : Nat) (w : Word), off = R.TIME_LEADER_ID_LO ∨ off = R.TIME_LEADER_ID_HI → g (c.put off w) = g c
  count : ∀ (c : Core) (r : Nat), r ∈ [R.TIME_LEADER_CHANGE_COUNT, R.TIME_PTP_LOSS_COUNT, R.CLK_DOUBLE_FAULT_COUNT, R.CLK_HOLDOVER_COUNT] →
    g (c.count r) = g c
  raise : ∀ (c : Core) (x : Field), x.off = R.TIME_INT_STATUS ∨ x.off = R.CLK_INT_STATUS → g (c.raise x) = g c
  time : ∀ (c : Core) (x : TimePart), x.ports = c.time.ports → x.n = c.time.n → x.cycles = c.time.cycles → g (c.setTime x) = g c
  clk : ∀ (c : Core) (x : Clk), g (c.setClk x) = g c

namespace Unled
variable {α : Type} {g : Core → α} (h : Unled g)
include h

theorem showTime (c : Core) : g c.showTime = g c := h.set c _ _ (.inl rfl)

theorem chooseActive (c : Core) (was : Option (Nat × Option Leader)) : g (c.chooseActive was) = g c := by
  have hnow : ∀ p, g (c.setTime { c.time with active := p }) = g c := fun p => h.time c _ rfl rfl rfl
  unfold Core.chooseActive
  dsimp only
  split
  · exact (h.showTime _).trans (hnow _)
  · next p _ =>
    have hid : ∀ (d : Core) (q n : Nat), g ((d.setF F.TIME_STATUS_ACTIVE_PORT q).put64 R.TIME_LEADER_ID_LO R.TIME_LEADER_ID_HI n) = g d := fun d q n =>
      (h.leader _ _ _ (.inr rfl)).trans ((h.leader _ _ _ (.inl rfl)).trans (h.set d _ _ (.inl rfl)))
    have hcheck : ∀ e : Core, g { e with time := { e.time with checking := true, sums := [], outliers := 0 } } = g e := fun e =>
      h.time e { e.time with checking := true, sums := [], outliers := 0 } rfl rfl rfl
    refine keeps_ite g ((h.showTime _).trans ((hid _ _ _).trans (hnow _))) ((h.showTime _).trans ((hcheck _).trans ?_))
    exact keeps_ite g ((h.raise _ _ (.inl rfl)).trans ((h.count _ _ (by decide)).trans ((hid _ _ _).trans (hnow _)))) ((hid _ _ _).trans (hnow _))

theorem doubleFault (c : Core) : g c.doubleFault = g c :=
  (h.clk _ _).trans ((h.raise _ _ (.inr rfl)).trans ((h.count _ _ (by decide)).trans (h.set c _ _ (.inr rfl))))

theorem refTrip (c : Core) (r : Nat) : g (c.refTrip r) = g c := by
  have hunlock : g (c.setClk { c.clk with locked := false }) = g c := h.clk c _
  unfold Core.refTrip
  dsimp only
  refine keeps_ite g rfl <| keeps_ite g hunlock <| keeps_ite g (keeps_ite g hunlock ((h.doubleFault _).trans hunlock)) ?_
  refine keeps_ite g hunlock ((h.raise _ _ (.inr rfl)).trans ((h.count _ _ (by decide)).trans ((h.set _ _ _ (.inr rfl)).trans ?_)))
  exact h.clk c { c.clk with locked := false, held := true }

theorem ptpLoss (c : Core) : g c.ptpLoss = g c := by
  unfold Core.ptpLoss
  dsimp only
  refine (h.refTrip _ _).trans ((h.showTime _).trans ((h.raise _ _ (.inl rfl)).trans ((h.count _ _ (by decide)).trans ?_)))
  exact h.time c { c.time with lost := true, checking := true, sums := [], outliers := 0 } rfl rfl rfl

end Unled

/-- Ports as TIME_CTRL has them. -/
def Core.portsChecked (c : Core) : Core :=
  [0, 1, 3].foldl (fun c p =>
    if c.ptpOn p then
      let x := c.ptpPort p
      if c.flag F.TIME_CTRL_FOLLOWER_ONLY ∧ (x.state = .leader ∨ x.state = .passive) then
        c.setPtpPort p { x with state := .listening }
      else c
    else c.setPtpPort p {}) c

/-- What follows a leader once TIME_CTRL has changed. -/
def Core.refollow (c : Core) (was : Option (Nat × Option Leader)) : Core :=
  match was with
  | none => c.showTime
  | some (p, _) =>
    let c := c.chooseActive was
    if c.time.active.isNone ∧ !c.ptpOn p then
      let c := if c.dref = 1 ∧ !c.time.lost then c.ptpLoss else c
      let c := { c with time := { c.time with lost := false, checking := true, sums := [] } }
      c.showTime
    else c

theorem Core.timeCtrlChanged_eq (c : Core) : c.timeCtrlChanged = c.portsChecked.oneLeader.refollow c.activeLeader := rfl

theorem Unled.refollow {α : Type} {g : Core → α} (h : Unled g) (c : Core) (was : Option (Nat × Option Leader)) : g (c.refollow was) = g c := by
  have hloss : ∀ d : Core, g (if d.dref = 1 ∧ (!d.time.lost) = true then d.ptpLoss else d) = g d := fun d => keeps_ite g (h.ptpLoss d) rfl
  have hcheck : ∀ e : Core, g { e with time := { e.time with lost := false, checking := true, sums := [] } } = g e := fun e =>
    h.time e { e.time with lost := false, checking := true, sums := [] } rfl rfl rfl
  cases was with
  | none => exact h.showTime c
  | some q =>
    refine keeps_ite g ((h.showTime _).trans ((hcheck _).trans ((hloss _).trans ?_))) ?_ <;> exact h.chooseActive c _

theorem Unled.timeCtrlChanged {α : Type} {g : Core → α} (h : Unled g) (c : Core) : g c.timeCtrlChanged = g c.portsChecked.oneLeader := by
  rw [Core.timeCtrlChanged_eq, h.refollow]

theorem unled_get {off : Nat} (h : 0x200010 ≤ off) (hid : off ≠ R.TIME_LEADER_ID_LO ∧ off ≠ R.TIME_LEADER_ID_HI)
    (hcount : off ≠ R.TIME_LEADER_CHANGE_COUNT ∧ off ≠ R.TIME_PTP_LOSS_COUNT) (hint : off % 0x100000 ≠ 4) : Unled (Core.get · off) where
  set c x v hx := c.get_setF_ne v (by rcases hx with e | e <;> rw [e] <;> simp only [R.TIME_STATUS, R.CLK_MEDIA_STATUS] <;> omega)
  leader c _ w hr := c.get_put_ne w (by rcases hr with e | e <;> rw [e] <;> [exact hid.1; exact hid.2])
  count c _ hr := by
    refine c.get_count_ne (fun e => ?_) hint
    rw [← e] at hr
    simp only [List.mem_cons, List.not_mem_nil, or_false, hcount.1, hcount.2, false_or, R.CLK_DOUBLE_FAULT_COUNT, R.CLK_HOLDOVER_COUNT] at hr
    omega
  raise c x hx := c.get_raise_ne (by rcases hx with e | e <;> rw [e] <;> simp only [R.TIME_INT_STATUS, R.CLK_INT_STATUS] <;> omega)
  time _ _ _ _ _ := rfl
  clk _ _ := rfl

theorem unled_ports : Unled fun c => c.time.ports where
  set c x v _ := congrArg TimePart.ports (c.setF_time x v)
  leader _ _ _ _ := rfl
  count c r _ := congrArg TimePart.ports (c.count_time r)
  raise c x _ := congrArg TimePart.ports (c.raise_time x)
  time _ _ hx _ _ := hx
  clk _ _ := rfl

theorem unled_bystanders : Unled Core.bystanders where
  set c x v _ := c.setF_bystanders x v
  leader c off w _ := c.put_bystanders off w
  count c _ _ := bystanders_of (Core.countS_sessions c _ _ _) (Core.count_atl _ _)
  raise c x _ := c.raise_bystanders x
  time _ _ _ _ _ := rfl
  clk _ _ := rfl

/-- A reading that ports of PTP leave alone is kept when ports are checked. -/
theorem Core.portsChecked_keeps {α : Type} {g : Core → α} (hport : ∀ (c : Core) (p : Nat) (x : PtpPort), g (c.setPtpPort p x) = g c) (c : Core) :
    g c.portsChecked.oneLeader = g c := by
  have hone : ∀ d : Core, g d.oneLeader = g d := fun d =>
    foldl_keeps g _ (fun e p => keeps_ite g rfl (hport e p _)) _ d
  exact (hone _).trans (foldl_keeps g _ (fun d p => keeps_ite g (keeps_ite g (hport d p _) rfl) (hport d p _)) _ c)

theorem Core.ptpOn_of_get {c d : Core} (h : c.get R.TIME_CTRL = d.get R.TIME_CTRL) (p : Nat) : c.ptpOn p = d.ptpOn p := by
  unfold Core.ptpOn
  rw [h, Core.flag_congr (x := F.TIME_CTRL_EN) h]

theorem Core.ptpPort_setPtpPort_same (c : Core) (p : Nat) (x : PtpPort) : (c.setPtpPort p x).ptpPort p = x := smGet_smSet_same _ _ _ _

theorem Core.ptpPort_setPtpPort_ne (c : Core) {p q : Nat} (x : PtpPort) (h : q ≠ p) : (c.setPtpPort p x).ptpPort q = c.ptpPort q :=
  smGet_smSet_ne _ _ _ h

/-- A port on which PTP is off is left as at reset. -/
theorem Core.portsChecked_off {c : Core} {q : Nat} (hq : q ∈ [0, 1, 3]) (hoff : c.ptpOn q = false) : c.portsChecked.ptpPort q = {} := by
  suffices h : ∀ (l : List Nat) (d : Core), d.ptpOn q = false → (q ∈ l ∨ d.ptpPort q = {}) → (l.foldl (fun (c : Core) p =>
      if c.ptpOn p then
        let x := c.ptpPort p
        if c.flag F.TIME_CTRL_FOLLOWER_ONLY ∧ (x.state = .leader ∨ x.state = .passive) then
          c.setPtpPort p { x with state := .listening }
        else c
      else c.setPtpPort p {}) d).ptpPort q = {} from h _ c hoff (.inl hq)
  intro l
  induction l with
  | nil => exact fun d _ h => h.elim (absurd · List.not_mem_nil) id
  | cons p l ih =>
    intro d hd h
    have hon : ∀ x : PtpPort, (d.setPtpPort p x).ptpOn q = false := fun x => hd
    by_cases e : q = p
    · subst e
      rw [List.foldl_cons, if_neg (by rw [hd]; decide)]
      exact ih _ (hon _) (.inr (d.ptpPort_setPtpPort_same q {}))
    · have hkept : ∀ x : PtpPort, q ∈ l ∨ (d.setPtpPort p x).ptpPort q = {} := fun x =>
        h.imp (fun hm => (List.mem_cons.mp hm).resolve_left e) fun hx => (d.ptpPort_setPtpPort_ne x e).trans hx
      have hsame : q ∈ l ∨ d.ptpPort q = {} := h.imp_left fun hm => (List.mem_cons.mp hm).resolve_left e
      rw [List.foldl_cons]
      dsimp only
      split
      · split
        · exact ih _ (hon _) (hkept _)
        · exact ih _ hd hsame
      · exact ih _ (hon _) (hkept _)

theorem Core.oneLeader_off {c : Core} {q : Nat} (h : c.ptpPort q = {}) : c.oneLeader.ptpPort q = {} := by
  unfold Core.oneLeader
  refine (foldl_keeps_of_mem (Core.ptpPort · q) _ _ (fun p hp d => ?_) c).trans h
  have hne : q ≠ p := by
    rintro rfl
    have hlead := of_decide_eq_true (List.mem_filter.mp hp).2
    rw [h] at hlead
    exact absurd hlead (by decide)
  exact keeps_ite (Core.ptpPort · q) rfl (d.ptpPort_setPtpPort_ne _ hne)

section TimeCtrl
variable (c : Core)

theorem Core.timeCtrlChanged_bystanders : c.timeCtrlChanged.bystanders = c.bystanders :=
  (unled_bystanders.timeCtrlChanged c).trans (c.portsChecked_keeps fun _ _ _ => rfl)

theorem Core.get_timeCtrlChanged {off : Nat} (h : 0x200010 ≤ off) (hid : off ≠ R.TIME_LEADER_ID_LO ∧ off ≠ R.TIME_LEADER_ID_HI)
    (hcount : off ≠ R.TIME_LEADER_CHANGE_COUNT ∧ off ≠ R.TIME_PTP_LOSS_COUNT) (hint : off % 0x100000 ≠ 4) :
    c.timeCtrlChanged.get off = c.get off :=
  ((unled_get h hid hcount hint).timeCtrlChanged c).trans (c.portsChecked_keeps (g := (Core.get · off)) fun _ _ _ => rfl)

theorem Core.ctrl_timeCtrlChanged : c.timeCtrlChanged.get R.TIME_CTRL = c.get R.TIME_CTRL :=
  c.get_timeCtrlChanged (by decide) (by decide) (by decide) (by decide)

theorem Core.ptpPort_timeCtrlChanged {q : Nat} (hq : q < 4) (h2 : q ≠ 2) (hoff : c.timeCtrlChanged.ptpOn q = false) :
    c.timeCtrlChanged.ptpPort q = {} := by
  rw [Core.ptpOn_of_get c.ctrl_timeCtrlChanged] at hoff
  have hmem : q ∈ [0, 1, 3] := by
    simp only [List.mem_cons, List.not_mem_nil, or_false]
    omega
  unfold Core.ptpPort
  rw [show c.timeCtrlChanged.time.ports = c.portsChecked.oneLeader.time.ports from unled_ports.timeCtrlChanged c]
  exact Core.oneLeader_off (Core.portsChecked_off hmem hoff)

end TimeCtrl

/-- Registers as TIME_CONFIG gives them. -/
def Core.timeConfigured (c : Core) (r : Req) : Core :=
  (List.range 4).foldl (fun c n => c.put (R.TIME_PORT_ASYM n) (r.w (3 + n)))
    (((c.put R.TIME_CTRL (r.w 0)).put R.TIME_STEP_LIMIT (c.fixWrite R.TIME_STEP_LIMIT 0 (r.w 1))).put R.TIME_LEADER_CFG (r.w 2))

theorem timeConfigBody_stores {c : Core} {r : Req} (h0 : noReserved (r.w 0) 0x00FF03F7 = true) (h1 : noReserved (r.w 1) 0x3FFFFFFF = true)
    (h2 : noReserved (r.w 2) 0x0001FFFF = true) : timeConfigBody c r = ans (c.timeConfigured r).timeCtrlChanged .ok := by
  unfold timeConfigBody
  rw [if_neg (by rw [h0, h1, h2]; decide)]
  rfl

theorem Core.timeConfigured_bystanders (c : Core) (r : Req) : (c.timeConfigured r).bystanders = c.bystanders := by
  unfold Core.timeConfigured
  rw [foldl_keeps Core.bystanders _ fun d n => d.put_bystanders _ _, Core.put_bystanders, Core.put_bystanders, Core.put_bystanders]

theorem Core.get_timeConfigured (c : Core) (r : Req) : (c.timeConfigured r).get R.TIME_CTRL = r.w 0 ∧
    (c.timeConfigured r).get R.TIME_LEADER_CFG = r.w 2 ∧ ∀ k, k < 4 → (c.timeConfigured r).get (R.TIME_PORT_ASYM k) = r.w (3 + k) := by
  unfold Core.timeConfigured
  refine ⟨?_, ?_, fun k hk => ?_⟩
  · rw [get_foldl_put_ne _ _ _ _ fun n _ => by unfold R.TIME_CTRL R.TIME_PORT_ASYM; omega, Core.get_put_ne _ _ (by decide),
      Core.get_put_ne _ _ (by decide), Core.get_put_same]
  · rw [get_foldl_put_ne _ _ _ _ fun n _ => by unfold R.TIME_LEADER_CFG R.TIME_PORT_ASYM; omega, Core.get_put_same]
  · refine get_foldl_put R.TIME_PORT_ASYM (fun n => r.w (3 + n)) (fun a b h => ?_) _ _ (List.mem_range.mpr hk)
    unfold R.TIME_PORT_ASYM at h
    omega

/-! ### TIME_STEP_ACCEPT and TIME_SET (R109, R114) -/

theorem timeStepAcceptBody_accepts {c d : Core} {r : Req} (hrefused : c.flag F.TIME_STATUS_JUMP_REFUSED = true) (hfree : c.time.realign = none)
    (haccept : (c.setB F.TIME_STEP_ACCEPT_MODE (bitOf (r.w 0) 0)).acceptStep (bitOf (r.w 0) 0) = some d) :
    timeStepAcceptBody c r = ans d .ok := by
  unfold timeStepAcceptBody
  dsimp only
  rw [if_neg (by rw [hrefused, hfree]; decide), haccept]

/-- The next anchor hangs on the clocks, the time and Palette 0's own crossfade. -/
theorem Core.anchorB_setMode (c : Core) (b : Bool) : (c.setB F.TIME_STEP_ACCEPT_MODE b).anchorB = c.anchorB := by
  have hglaze : (c.setB F.TIME_STEP_ACCEPT_MODE b).glaze = c.glaze :=
    congrArg (16 * ·) (Core.f_congr (c.get_setF_ne _ (by decide)))
  unfold Core.anchorB
  rw [hglaze]
  rfl

theorem Core.realigning_parts (c : Core) (b : Nat) (off : Int) : (c.realigning b off).bystanders = c.bystanders ∧
    (c.realigning b off).time.realign = some { b := b, offset := off } := ⟨rfl, rfl⟩

theorem timeSetBody_sets {c : Core} {r : Req} (hstate : c.f F.TIME_STATUS_STATE ≠ 3) (hns : r.n 2 < 10 ^ 9) (hsec : r.n 1 < 65536)
    (hmedia : c.clk.mediaOn = false) : timeSetBody c r =
      ans ((c.setTime { c.time with setSec := some (r.n 0 + r.n 1 * 2 ^ 32) }).stepCounter
        ((((r.n 0 + r.n 1 * 2 ^ 32) * 10 ^ 9 + r.n 2) * 65536 : Nat) - (c.time.ptp / 65536 : Nat))) .ok := by
  unfold timeSetBody
  dsimp only
  rw [if_neg hstate, if_neg (by omega), if_neg (by rw [hmedia]; exact fun h => absurd h.1 (by decide))]
  rfl

theorem stepped_ptp (ptp new : Nat) : (((ptp : Int) + ((new * 65536 : Nat) - (ptp / 65536 : Nat)) * 2 ^ 16).toNat) / 2 ^ 32 = new := by
  omega

/-! ### Pulses (R115) -/

section Pulse
variable {c : Core} {n : Nat}

theorem bits_of_noReserved {w : Word} (h : noReserved w 2 = true) : bitOf w 0 = false ∧ bitOf w 2 = false ∧ noReserved w 7 = true := by
  unfold noReserved at h ⊢
  have hw : w &&& ~~~(BitVec.ofNat 32 2) = 0 := of_decide_eq_true h
  have hbit : ∀ i, i < 32 → (~~~(BitVec.ofNat 32 2)).getLsbD i = true → w.getLsbD i = false := fun i _ hz => by
    have hand := congrArg (BitVec.getLsbD · i) hw
    simp only [BitVec.getLsbD_and, hz, Bool.and_true] at hand
    exact hand.trans (BitVec.getLsbD_zero)
  refine ⟨(bitOf_eq_getLsbD w 0).trans (hbit 0 (by decide) (by decide)), (bitOf_eq_getLsbD w 2).trans (hbit 2 (by decide) (by decide)), ?_⟩
  rw [show ~~~(BitVec.ofNat 32 7) = ~~~(BitVec.ofNat 32 2) &&& ~~~(BitVec.ofNat 32 7) by decide, ← BitVec.and_assoc, hw]
  exact decide_eq_true (BitVec.zero_and)

/-- Registers of a pulse output as PULSE_PROGRAM gives them. -/
def Core.pulseSet (c : Core) (r : Req) : Core :=
  let i := r.n 0
  let c := c.setB (F.TIME_PULSE_CTRL_MODE i) (bitOf (r.w 1) 1)
  let c := ((c.put (R.TIME_PULSE_START_NS i) (r.w 2)).put (R.TIME_PULSE_START_SEC_LO i) (r.w 3)).put (R.TIME_PULSE_START_SEC_HI i) (r.w 4)
  (c.put (R.TIME_PULSE_PERIOD_NS i) (r.w 5)).put (R.TIME_PULSE_WIDTH_NS i) (r.w 6)

theorem pulseProgramBody_stores {r : Req} (hn : r.n 0 ≤ 3) (h1 : noReserved (r.w 1) 2 = true) (h4 : noReserved (r.w 4) 0xFFFF = true)
    (h6 : noReserved (r.w 6) 0x3FFFFFFF = true) : pulseProgramBody c r =
      ans (((c.pulseSet r).setF (F.TIME_PULSE_STATUS_BAD_PROGRAM (r.n 0)) 0).setB (F.TIME_PULSE_STATUS_BAD_PROGRAM (r.n 0))
        ((c.pulseSet r).flag (F.TIME_PULSE_STATUS_BAD_PROGRAM (r.n 0)))) .ok := by
  obtain ⟨harm, hstop, hall⟩ := bits_of_noReserved h1
  have hgood : ((c.pulseSet r).setF (F.TIME_PULSE_STATUS_BAD_PROGRAM (r.n 0)) 0).flag (F.TIME_PULSE_STATUS_BAD_PROGRAM (r.n 0)) = false :=
    Core.flag_setF_bit _ _ _ 0 (by decide)
  unfold Core.pulseSet at hgood ⊢
  unfold pulseProgramBody
  dsimp only at hgood ⊢
  rw [if_neg (by rw [hall, h4, h6]; simp only [Bool.not_true, Bool.false_eq_true, or_false]; omega)]
  simp only [harm, hstop, Bool.false_eq_true, if_false]
  exact if_neg (by rw [hgood]; exact Bool.false_ne_true)

theorem pulseSet_regs (r : Req) (bad : Bool) (d : Core)
    (hd : d = ((c.pulseSet r).setF (F.TIME_PULSE_STATUS_BAD_PROGRAM (r.n 0)) 0).setB (F.TIME_PULSE_STATUS_BAD_PROGRAM (r.n 0)) bad) :
    d.bystanders = c.bystanders ∧ d.get (R.TIME_PULSE_START_NS (r.n 0)) = r.w 2 ∧ d.get (R.TIME_PULSE_PERIOD_NS (r.n 0)) = r.w 5 ∧
      d.get (R.TIME_PULSE_WIDTH_NS (r.n 0)) = r.w 6 := by
  subst hd
  have haway : ∀ {off : Nat}, off ≠ R.TIME_PULSE_STATUS (r.n 0) →
      ((((c.pulseSet r).setF (F.TIME_PULSE_STATUS_BAD_PROGRAM (r.n 0)) 0).setB (F.TIME_PULSE_STATUS_BAD_PROGRAM (r.n 0)) bad).get off =
        (c.pulseSet r).get off) := fun h => (Core.get_setF_ne _ _ h).trans (Core.get_setF_ne _ _ h)
  refine ⟨?_, ?_, ?_, ?_⟩
  · unfold Core.setB Core.pulseSet
    rw [Core.setF_bystanders, Core.setF_bystanders]
    rfl
  · rw [haway (by unfold R.TIME_PULSE_STATUS R.TIME_PULSE_START_NS; omega)]
    unfold Core.pulseSet
    dsimp only
    rw [Core.get_put_ne _ _ (by unfold R.TIME_PULSE_START_NS R.TIME_PULSE_WIDTH_NS; omega),
      Core.get_put_ne _ _ (by unfold R.TIME_PULSE_START_NS R.TIME_PULSE_PERIOD_NS; omega),
      Core.get_put_ne _ _ (by unfold R.TIME_PULSE_START_NS R.TIME_PULSE_START_SEC_HI; omega),
      Core.get_put_ne _ _ (by unfold R.TIME_PULSE_START_NS R.TIME_PULSE_START_SEC_LO; omega), Core.get_put_same]
  · rw [haway (by unfold R.TIME_PULSE_STATUS R.TIME_PULSE_PERIOD_NS; omega)]
    unfold Core.pulseSet
    dsimp only
    rw [Core.get_put_ne _ _ (by unfold R.TIME_PULSE_PERIOD_NS R.TIME_PULSE_WIDTH_NS; omega), Core.get_put_same]
  · rw [haway (by unfold R.TIME_PULSE_STATUS R.TIME_PULSE_WIDTH_NS; omega)]
    exact Core.get_put_same _ _ _

/-- A pulse that has been armed. -/
def Core.pulseArmed (c : Core) (n : Nat) (p : Pulse) : Core :=
  (c.setTime { c.time with pulses := smSet (fun _ => none) c.time.pulses n (some p) }).setF (F.TIME_PULSE_CTRL_ARM n) 1

theorem armPulse_arms (hmode : c.flag (F.TIME_PULSE_CTRL_MODE n) = false) (hlow : 20 ≤ c.f (F.TIME_PULSE_WIDTH_NS_WIDTH n))
    (hhigh : c.f (F.TIME_PULSE_WIDTH_NS_WIDTH n) ≤ 10 ^ 9) (hstart : c.time.ptp ≤ (c.get (R.TIME_PULSE_START_NS n)).toNat * 2 ^ 32) :
    ∃ p, c.armPulse n = c.pulseArmed n p := by
  unfold Core.armPulse
  dsimp only
  rw [hmode, if_neg (fun h => h ⟨hlow, hhigh, fun e => absurd e (by decide)⟩), if_neg (by simp only [Bool.not_false, true_and]; omega)]
  exact ⟨_, rfl⟩

theorem Core.pulseArmed_parts (c : Core) (n : Nat) (p : Pulse) : (c.pulseArmed n p).flag (F.TIME_PULSE_CTRL_ARM n) = true ∧
    smGet (fun _ => none) (c.pulseArmed n p).time.pulses n = some p ∧ (c.pulseArmed n p).atl = c.atl :=
  ⟨Core.flag_setF_bit _ _ _ 1 (by decide), smGet_smSet_same (fun _ => (none : Option Pulse)) c.time.pulses n (some p), rfl⟩

/-- A pulse output that has been stopped. -/
def Core.pulseStopped (c : Core) (n : Nat) : Core :=
  (c.setTime { c.time with pulses := smSet (fun _ => none) c.time.pulses n none }).setF (F.TIME_PULSE_CTRL_ARM n) 0

theorem Core.pulseStopped_parts (c : Core) (n : Nat) : smGet (fun _ => none) (c.pulseStopped n).time.pulses n = none ∧
    (c.pulseStopped n).flag (F.TIME_PULSE_CTRL_ARM n) = false ∧ (c.pulseStopped n).atl = c.atl :=
  ⟨smGet_smSet_same (fun _ => (none : Option Pulse)) c.time.pulses n none, Core.flag_setF_bit _ _ _ 0 (by decide), rfl⟩

theorem stopPulse_stops {q : Pulse} (hq : smGet (fun _ => none) c.time.pulses n = some q) (hhigh : q.high = none) :
    c.stopPulse n = c.pulseStopped n := by
  unfold Core.stopPulse
  rw [hq]
  dsimp only
  exact if_neg (by rw [hhigh]; decide)

theorem pulseArm_writes {m : Nat} {v : Word} {d : Core} (hn : n < 4) (hserves : c.serves m (R.TIME_PULSE_CTRL n) = true) (hstop : bitOf v 2 = false)
    (harm : (c.written ⟨m, R.TIME_PULSE_CTRL n, withBits v 0 0 1⟩ 5).armPulse n = d) : pulseCtrlWrite m n (withBits v 0 0 1) c = d := by
  have h0 : bitOf (withBits v 0 0 1) 0 = true := bitOf_withBits_same v (by decide) 1
  have h2 : bitOf (withBits v 0 0 1) 2 = false := (bitOf_withBits_ne v (by decide) (by decide) 1).trans hstop
  unfold pulseCtrlWrite
  rw [if_neg (by omega), busWrite_served hserves]
  dsimp only
  rw [h0, h2, if_pos rfl]
  exact harm

theorem pulseStop_writes {m : Nat} {v : Word} {d : Core} (hn : n < 4) (hserves : c.serves m (R.TIME_PULSE_CTRL n) = true) (harm : bitOf v 0 = false)
    (hstop : (c.written ⟨m, R.TIME_PULSE_CTRL n, withBits v 2 2 1⟩ 5).stopPulse n = d) : pulseCtrlWrite m n (withBits v 2 2 1) c = d := by
  have h0 : bitOf (withBits v 2 2 1) 0 = false := (bitOf_withBits_ne v (by decide) (by decide) 1).trans harm
  have h2 : bitOf (withBits v 2 2 1) 2 = true := bitOf_withBits_same v (by decide) 1
  unfold pulseCtrlWrite
  rw [if_neg (by omega), busWrite_served hserves]
  dsimp only
  rw [h0, h2, if_pos rfl]
  exact hstop

theorem Core.pulse_setPulse (c : Core) (n : Nat) (q : Pulse) : smGet (fun _ => none) (c.setPulse n (some q)).time.pulses n = some q :=
  smGet_smSet_same (fun _ => (none : Option Pulse)) c.time.pulses n (some q)

theorem pulseEdge_rises {q : Pulse} (hq : smGet (fun _ => none) c.time.pulses n = some q) (hhigh : q.high = none) :
    pulseEdge n c = ((c.setTime { c.time with ptp := max c.time.ptp ((q.start + q.next * q.period) * 2 ^ 32) }).send (.pin "PULSE" n true)).setPulse n
      (some { q with next := q.next + 1, high := some (q.start + q.next * q.period + q.width) }) := by
  unfold pulseEdge
  rw [hq]
  dsimp only
  rw [hhigh]
  rfl

end Pulse

/-! ### Captures (R116) -/

section Capture
variable {c : Core} {n : Nat}

theorem Core.captures_setCaptures (c : Core) (n : Nat) (l : List Capture) : (c.setCaptures n l).captures n = l := by
  unfold Core.captures Core.setCaptures
  rw [Core.setF_time]
  exact smGet_smSet_same _ _ _ _

theorem Core.fill_setCaptures (c : Core) (n : Nat) (l : List Capture) (hl : l.length ≤ 16) :
    (c.setCaptures n l).f (F.TIME_TSIN_STATUS_FILL n) = l.length := by
  unfold Core.setCaptures
  rw [Core.f_setF_same _ _ _ (by simp only [F.TIME_TSIN_STATUS_FILL]; decide) (by simp only [F.TIME_TSIN_STATUS_FILL]; decide)]
  simp only [F.TIME_TSIN_STATUS_FILL]
  omega

theorem Core.captures_of_time {c d : Core} (h : c.time = d.time) (n : Nat) : c.captures n = d.captures n := by
  unfold Core.captures
  rw [h]

theorem tsinReadBody_takes {r : Req} {x : Capture} (hn : r.n 0 ≤ 1) (hlow : 1 ≤ r.n 1) (hhigh : r.n 1 ≤ 16) (hone : c.captures (r.n 0) = [x]) :
    tsinReadBody c r = okW (c.setCaptures (r.n 0) []) (captureWords (some x) 0) := by
  have hempty : ∀ k, Core.takeCaptures k (c.setCaptures (r.n 0) []) (r.n 0) = ([], c.setCaptures (r.n 0) []) := fun k => by
    cases k with
    | zero => rfl
    | succ k => unfold Core.takeCaptures Core.popCapture; rw [Core.captures_setCaptures]
  obtain ⟨k, hk⟩ : ∃ k, r.n 1 = k + 1 := ⟨r.n 1 - 1, by omega⟩
  unfold tsinReadBody
  rw [if_neg (by omega), if_neg (by omega), hk]
  unfold Core.takeCaptures Core.popCapture
  rw [hone]
  dsimp only
  rw [hempty, Core.captures_setCaptures]
  rfl

/-- A capture goes behind those that wait. -/
theorem tsinCapture_stores {rising : Bool} {off phase : Nat} (hn : n < 2) (hedge : bitOf (c.get (R.TIME_TSIN_CTRL n)) (if rising then 0 else 1) = true)
    (hroom : (c.captures n).length < 16) : tsinCapture n rising off phase c =
      (c.setCaptures n (c.captures n ++ [⟨c.time.ptp / 2 ^ 16, c.time.n + off % c.blk, phase % 65536, c.f F.TIME_STATUS_EPOCH⟩])).raiseIf
        (c.captures n).isEmpty ⟨R.TIME_INT_STATUS, 5 + n, 5 + n⟩ := by
  unfold tsinCapture
  rw [if_neg (by rw [hedge]; simp only [Bool.not_true, Bool.false_eq_true, or_false]; omega)]
  dsimp only
  rw [if_neg (by omega)]

theorem tsinCapture_overflows {rising : Bool} {off phase : Nat} (hn : n < 2)
    (hedge : bitOf (c.get (R.TIME_TSIN_CTRL n)) (if rising then 0 else 1) = true) (hfull : 16 ≤ (c.captures n).length) :
    tsinCapture n rising off phase c = c.count (R.TIME_TSIN_OVERFLOW n) := by
  unfold tsinCapture
  rw [if_neg (by rw [hedge]; simp only [Bool.not_true, Bool.false_eq_true, or_false]; omega)]
  dsimp only
  rw [if_pos hfull]

/-- The oldest capture has been read by a master. -/
def Core.captureRead (c : Core) (m n : Nat) (x : Capture) : Core :=
  (c.setTime { c.time with popped := smSet (fun _ => none) c.time.popped (2 * m + n) (some x) }).putShadow m (R.TIME_TSIN_TS_FRAC n)
    (captureWords (some x) 0)

theorem tsinFifoPop_pops {m : Nat} {x : Capture} {xs : List Capture} (hn : n < 2) (hreach : c.reaches m (R.TIME_TSIN_TS_FRAC n) = true)
    (hcaptures : c.captures n = x :: xs) : tsinFifoPop m n c =
      ((c.setCaptures n xs).captureRead m n x).send (.read m (R.TIME_TSIN_TS_FRAC n) (.ofNat 32 (x.time % 65536))) := by
  unfold tsinFifoPop
  rw [if_neg (by omega), busRead_reached hreach]
  unfold Core.popCapture
  rw [hcaptures]
  rfl

end Capture

/-- The backup counter after a copy. -/
def Core.backedUp (c : Core) : Core :=
  ((c.put R.SYS_BACKUP_SEC_LO (.ofNat 32 (c.ptpNs / 10 ^ 9))).setF F.SYS_BACKUP_SEC_HI_SEC (c.ptpNs / 10 ^ 9 / 2 ^ 32)).setF F.SYS_BACKUP_SEC_HI_VALID 1

theorem Core.backedUp_parts (c : Core) : c.backedUp.bystanders = c.bystanders ∧
    c.backedUp.get R.SYS_BACKUP_SEC_LO = .ofNat 32 (c.ptpNs / 10 ^ 9) ∧ c.backedUp.flag F.SYS_BACKUP_SEC_HI_VALID = true := by
  unfold Core.backedUp
  refine ⟨?_, ?_, Core.flag_setF_bit _ _ _ 1 (by decide)⟩
  · rw [Core.setF_bystanders, Core.setF_bystanders, Core.put_bystanders]
  · rw [Core.get_setF_ne _ _ (by decide), Core.get_setF_ne _ _ (by decide), Core.get_put_same]

theorem backupTimeCopy_copies {c : Core} (hpll : c.clk.pllOn = true) (hgated : c.gated R.TIME_STATUS = false) : backupTimeCopy c = c.backedUp :=
  if_neg (by rw [hpll, hgated]; decide)

theorem Core.captures_captureRead (c : Core) (m n : Nat) (x : Capture) : (c.captureRead m n x).captures n = c.captures n := rfl

theorem Core.setCaptures_bystanders (c : Core) (n : Nat) (l : List Capture) : (c.setCaptures n l).bystanders = c.bystanders := Core.setF_bystanders _ _ _

theorem Core.raiseIf_keeps {α : Type} {g : Core → α} (hraise : ∀ (c : Core) (x : Field), g (c.raise x) = g c) (c : Core) (b : Bool) (x : Field) :
    g (c.raiseIf b x) = g c := keeps_ite g (hraise c x) rfl

/-- Settles O14: steps are read through what moving the counter leaves alone, the re-alignment through what a restart of MEDIA does, and the
other commands through the one branch that their hypotheses leave. -/
theorem timeCommandsComplete : Obligations.TimeCommandsComplete := by
  unfold Obligations.TimeCommandsComplete
  refine ⟨?slew, ?realign, ?aligned, ?ctrl, ?config, ?status, ?slewed, ?scheduled, ?set, ?program, ?tsin, ?arm, ?stop, ?edge, ?capture, ?overflow,
    ?pop, ?copy⟩
  case slew =>
    intro s m v c hserves hq hgo hrefused hfree hsmall
    have htime : c.time = s.core.time := (congrArg Core.time (s.core.written_rest _ _) :)
    have hatl : c.atl = s.core.atl := Core.written_atl _ _ _
    have haccept : c.acceptStep true = some c.slewed := acceptStep_slews (by rw [htime]; exact hsmall)
    have hdone := stepAcceptWrite_accepts hserves ((bitOf_withBits_ne v (by decide) (by decide) 1).trans hgo)
      (bitOf_withBits_same v (by decide) 1) hrefused hfree haccept
    obtain ⟨hptp, hrealign⟩ := c.slewed_time
    obtain ⟨hjump, hstepped⟩ := c.slewed_flags
    have hby := c.slewed_bystanders
    rw [htime] at hptp hrealign
    generalize c.slewed = d at hdone hptp hrealign hjump hstepped hby
    rw [if_neg (by rw [hrealign, hfree]; decide)] at hdone
    exact completes_of_eq rfl hq hdone ((congrArg Prod.snd hby).trans hatl) ⟨hjump, hptp, hstepped⟩
  case realign =>
    intro s m v c hserves hq hgo hrefused hfree hmedia
    have htime : c.time = s.core.time := (congrArg Core.time (s.core.written_rest _ _) :)
    have hclk : c.clk = s.core.clk := (congrArg Core.clk (s.core.written_rest _ _) :)
    have hatl : c.atl = s.core.atl := Core.written_atl _ _ _
    have hdone := stepAcceptWrite_accepts hserves ((bitOf_withBits_ne v (by decide) (by decide) 0).trans hgo)
      (bitOf_withBits_same v (by decide) 0) hrefused hfree (acceptStep_realigns (c := c) (by rw [hclk]; exact hmedia))
    obtain ⟨hby, hset⟩ := c.realigning_parts c.anchorB s.core.time.refused
    rw [htime] at hdone
    generalize c.realigning c.anchorB s.core.time.refused = d at hdone hby hset
    rw [hset, Option.isSome_some, if_pos rfl] at hdone
    have hflag : (d.setF F.TIME_STEP_ACCEPT_GO 1).flag F.TIME_STEP_ACCEPT_GO = true := Core.flag_setF_bit _ _ _ 1 (by decide)
    have hatl' : (d.setF F.TIME_STEP_ACCEPT_GO 1).atl = s.core.atl := (congrArg Prod.snd hby).trans hatl
    have htime' : (d.setF F.TIME_STEP_ACCEPT_GO 1).time = d.time := d.setF_time _ _
    generalize d.setF F.TIME_STEP_ACCEPT_GO 1 = e at hdone hflag hatl' htime'
    exact completes_of_eq rfl hq hdone hatl' ⟨(congrArg TimePart.realign htime').trans hset, hflag⟩
  case aligned =>
    intro s x hq hrealign hmedia hdue
    have hdone := realignment_realigns hrealign hmedia hdue
    have hclk : (s.core.mediaJump.cutAudio.takeStep x.offset).clk.gate = .zero := by
      rw [Core.takeStep_clk]
      rfl
    generalize s.core.mediaJump.cutAudio.takeStep x.offset = d at hdone hclk
    obtain ⟨hgate, hin, htime, haligned, hgo⟩ := d.realigned_parts
    generalize d.realigned = e at hdone hgate hin htime haligned hgo
    refine completes_traced_core rfl hdone fun t m h => ⟨?_, (h.flag (by decide)).trans haligned, (h.flag (by decide)).trans hgo, ?_, ?_⟩
    · exact congrArg TimePart.realign (h.time.trans htime)
    · exact (congrArg Clk.gate h.clk).trans (hgate.trans hclk)
    · change t.clk.fadeInAt = some (t.time.n + 4 * t.blk)
      unfold Core.blk at hin ⊢
      rw [h.time, htime, h.clk, hin]
      rfl
  case ctrl =>
    intro s m v c hserves hq
    refine completes_of_eq rfl hq (busWrite_served hserves 0 Core.timeCtrlChanged) ((congrArg Prod.snd (Core.timeCtrlChanged_bystanders _)).trans (Core.written_atl _ _ _))
      ⟨Core.ctrl_timeCtrlChanged _, fun q hlow h2 hoff => Core.ptpPort_timeCtrlChanged _ hlow h2 hoff⟩
  case config =>
    intro s p c r hadmits hq h0 h1 h2
    obtain ⟨hctrl, hleader, hasym⟩ := c.get_timeConfigured r
    refine completes_of_body rfl hadmits hq (by decide) (timeConfigBody_stores h0 h1 h2)
      ((Core.timeCtrlChanged_bystanders _).trans (c.timeConfigured_bystanders r)) fun t h => ⟨h.told, ?_, ?_, fun k hk => ?_⟩
    · exact (h.get (by decide) (by decide)).trans ((Core.ctrl_timeCtrlChanged _).trans hctrl)
    · exact (h.get (by decide) (by decide)).trans
        ((Core.get_timeCtrlChanged _ (by decide) (by decide) (by decide) (by decide)).trans hleader)
    · have hoff : 0x200108 ≤ R.TIME_PORT_ASYM k ∧ R.TIME_PORT_ASYM k < 0x200200 := by
        unfold R.TIME_PORT_ASYM
        omega
      have hstored := hasym k hk
      generalize R.TIME_PORT_ASYM k = off at hoff hstored ⊢
      have hwindow : window off ≠ 3 ∧ window off ≠ 15 := by
        unfold window
        omega
      refine (h.get hwindow.1 hwindow.2).trans ((Core.get_timeCtrlChanged _ (by omega) ?_ ?_ (by omega)).trans hstored)
      · unfold R.TIME_LEADER_ID_LO R.TIME_LEADER_ID_HI
        omega
      · unfold R.TIME_LEADER_CHANGE_COUNT R.TIME_PTP_LOSS_COUNT
        omega
  case status =>
    intro s p c r hadmits hq
    exact completes_of_body rfl hadmits hq (by decide) (rfl : timeStatusBody c r = _) rfl fun t h => h.told
  case slewed =>
    intro s p c r hadmits hq hrefused hfree hslew hsmall
    have htime : c.time = s.core.time := s.core.offered_time _ _
    have hbody : timeStepAcceptBody c r = ans (c.setB F.TIME_STEP_ACCEPT_MODE true).slewed .ok :=
      timeStepAcceptBody_accepts hrefused hfree (by rw [hslew]; exact acceptStep_slews (c := c.setB F.TIME_STEP_ACCEPT_MODE true) hsmall)
    obtain ⟨hptp, -⟩ := (c.setB F.TIME_STEP_ACCEPT_MODE true).slewed_time
    obtain ⟨hjump, -⟩ := (c.setB F.TIME_STEP_ACCEPT_MODE true).slewed_flags
    have hby : (c.setB F.TIME_STEP_ACCEPT_MODE true).slewed.bystanders = c.bystanders :=
      (Core.slewed_bystanders _).trans (c.setF_bystanders _ _)
    rw [Core.setB, Core.setF_time, htime] at hptp
    unfold Core.setB at hbody hjump hby
    generalize (c.setF F.TIME_STEP_ACCEPT_MODE (b2n true)).slewed = d at hbody hptp hjump hby
    refine completes_of_body rfl hadmits hq (by decide) hbody hby fun t h => ⟨h.told, (h.flag (by decide) (by decide)).trans hjump, ?_⟩
    rw [State.core_of_core, h.time, hptp]
  case scheduled =>
    intro s p c r hadmits hq hrefused hfree hslew hmedia
    have htime : c.time = s.core.time := s.core.offered_time _ _
    have hbody : timeStepAcceptBody c r =
        ans ((c.setB F.TIME_STEP_ACCEPT_MODE false).realigning c.anchorB s.core.time.refused) .ok := by
      rw [← c.anchorB_setMode false, ← htime]
      exact timeStepAcceptBody_accepts hrefused hfree (by rw [hslew]; exact acceptStep_realigns (c := c.setB F.TIME_STEP_ACCEPT_MODE false) hmedia)
    obtain ⟨hby, hset⟩ := (c.setB F.TIME_STEP_ACCEPT_MODE false).realigning_parts c.anchorB s.core.time.refused
    refine completes_of_body rfl hadmits hq (by decide) hbody (hby.trans (c.setF_bystanders _ (b2n false))) fun t h => ⟨h.told, ?_⟩
    exact (congrArg TimePart.realign h.time).trans hset
  case set =>
    intro s p c r hadmits hq hstate hns hsec hmedia
    have hbody := timeSetBody_sets hstate hns hsec hmedia
    have htime := (c.setTime { c.time with setSec := some (r.n 0 + r.n 1 * 2 ^ 32) }).stepCounter_time
      ((((r.n 0 + r.n 1 * 2 ^ 32) * 10 ^ 9 + r.n 2) * 65536 : Nat) - (c.time.ptp / 65536 : Nat))
    have hby := (c.setTime { c.time with setSec := some (r.n 0 + r.n 1 * 2 ^ 32) }).stepCounter_bystanders
      ((((r.n 0 + r.n 1 * 2 ^ 32) * 10 ^ 9 + r.n 2) * 65536 : Nat) - (c.time.ptp / 65536 : Nat))
    generalize Core.stepCounter _ _ = d at hbody htime hby
    refine completes_of_body rfl hadmits hq (by decide) hbody hby fun t h => ⟨h.told, ?_, ?_⟩
    · rw [State.core_of_core, h.time]
      exact (congrArg TimePart.setSec htime :)
    · rw [State.core_of_core, h.time]
      exact (congrArg (· / 2 ^ 32) (congrArg TimePart.ptp htime)).trans (stepped_ptp _ _)
  case program =>
    intro s p c r hadmits hq hn h1 h4 h6
    have hbody := pulseProgramBody_stores (c := c) hn h1 h4 h6
    obtain ⟨hby, hstart, hperiod, hwidth⟩ := pulseSet_regs (c := c) r _ _ rfl
    have hwindow : ∀ {off : Nat}, 0x200200 ≤ off → off < 0x200300 → window off ≠ 3 ∧ window off ≠ 15 := fun _ _ => by
      unfold window
      omega
    refine completes_of_body rfl hadmits hq (by decide) hbody hby fun t h => ⟨h.told, ?_, ?_, ?_⟩
    · obtain ⟨h3, h15⟩ := hwindow (off := R.TIME_PULSE_START_NS (r.n 0)) (by unfold R.TIME_PULSE_START_NS; omega) (by unfold R.TIME_PULSE_START_NS; omega)
      exact (h.get h3 h15).trans hstart
    · obtain ⟨h3, h15⟩ := hwindow (off := R.TIME_PULSE_PERIOD_NS (r.n 0)) (by unfold R.TIME_PULSE_PERIOD_NS; omega) (by unfold R.TIME_PULSE_PERIOD_NS; omega)
      exact (h.get h3 h15).trans hperiod
    · obtain ⟨h3, h15⟩ := hwindow (off := R.TIME_PULSE_WIDTH_NS (r.n 0)) (by unfold R.TIME_PULSE_WIDTH_NS; omega) (by unfold R.TIME_PULSE_WIDTH_NS; omega)
      exact (h.get h3 h15).trans hwidth
  case tsin =>
    intro s p x c r hadmits hq hn hlow hhigh hone
    refine completes_of_body rfl hadmits hq (by decide) (tsinReadBody_takes hn hlow hhigh hone) (Core.setCaptures_bystanders _ _ _) fun t h => ⟨h.told, ?_⟩
    exact (Core.captures_of_time h.time _).trans (Core.captures_setCaptures _ _ _)
  case arm =>
    intro s m n v c hserves hq hn hstop hmode hlow hhigh hstart
    have htime : c.time = s.core.time := (congrArg Core.time (s.core.written_rest _ _) :)
    obtain ⟨p, harm⟩ := armPulse_arms (c := c) hmode hlow hhigh hstart
    obtain ⟨hflag, hpulse, hatl⟩ := c.pulseArmed_parts n p
    refine completes_of_eq rfl hq (pulseArm_writes hn hserves hstop harm) (hatl.trans (Core.written_atl _ _ _)) ⟨hflag, ?_⟩
    rw [State.core_of_core, hpulse]
    rfl
  case stop =>
    intro s m n v q c hserves hq hn harm hpulse hhigh
    have htime : c.time = s.core.time := (congrArg Core.time (s.core.written_rest _ _) :)
    obtain ⟨hnone, hflag, hatl⟩ := c.pulseStopped_parts n
    exact completes_of_eq rfl hq (pulseStop_writes hn hserves harm (stopPulse_stops (c := c) (by rw [htime]; exact hpulse) hhigh))
      (hatl.trans (Core.written_atl _ _ _)) ⟨hnone, hflag⟩
  case edge =>
    intro s n q hq hpulse hhigh
    exact completes_of_eq rfl hq (pulseEdge_rises hpulse hhigh) rfl ⟨Core.pulse_setPulse _ n _, rfl⟩
  case capture =>
    intro s n rising off phase hq hn hedge hroom
    have hset := s.core.captures_setCaptures n
      (s.core.captures n ++ [⟨s.core.time.ptp / 2 ^ 16, s.core.time.n + off % s.core.blk, phase % 65536, s.core.f F.TIME_STATUS_EPOCH⟩])
    have hfill := s.core.fill_setCaptures n
      (s.core.captures n ++ [⟨s.core.time.ptp / 2 ^ 16, s.core.time.n + off % s.core.blk, phase % 65536, s.core.f F.TIME_STATUS_EPOCH⟩])
      (by rw [List.length_append, List.length_singleton]; omega)
    have hby := s.core.setCaptures_bystanders n
      (s.core.captures n ++ [⟨s.core.time.ptp / 2 ^ 16, s.core.time.n + off % s.core.blk, phase % 65536, s.core.f F.TIME_STATUS_EPOCH⟩])
    have hdone := tsinCapture_stores (off := off) (phase := phase) hn hedge hroom
    rw [List.length_append, List.length_singleton] at hfill
    generalize s.core.setCaptures n _ = d at hset hfill hby hdone
    refine completes_of_eq rfl hq hdone ((congrArg Prod.snd (Core.raiseIf_keeps (g := Core.bystanders) Core.raise_bystanders _ _ _)).trans (congrArg Prod.snd hby)) ⟨?_, ?_⟩
    · exact (Core.captures_of_time (Core.raiseIf_keeps (g := Core.time) Core.raise_time _ _ _) n).trans hset
    · refine Eq.trans ?_ hfill
      exact keeps_ite (Core.f · _) (Core.f_raise_off _ (by simp only [F.TIME_TSIN_STATUS_FILL, R.TIME_TSIN_STATUS, R.TIME_INT_STATUS]; omega)) rfl
  case overflow =>
    intro s n rising off phase hq hn hedge hfull
    refine completes_of_eq rfl hq (tsinCapture_overflows hn hedge hfull) (Core.count_atl _ _) ?_
    exact Core.captures_of_time (Core.count_time _ _) _
  case pop =>
    intro s m n x xs hq hn hreach hcaptures
    refine completes_of_eq rfl hq (tsinFifoPop_pops hn hreach hcaptures) rfl ⟨?_, rfl⟩
    exact (Core.captures_captureRead _ m n x).trans (Core.captures_setCaptures _ n xs)
  case copy =>
    intro s hq hpll hgated
    obtain ⟨hby, hsec, hvalid⟩ := s.core.backedUp_parts
    exact completes_of_eq rfl hq (backupTimeCopy_copies hpll hgated) (congrArg Prod.snd hby) ⟨hsec, hvalid⟩

end Sys2Proof.Machine
end

section
/-! Clock enables, power domains that wake, clock outputs and the AON trim (R90 to R95, R133), and O12. -/

namespace Sys2Proof.Machine
open Sys2Proof

/-! ### CLK_EN (R90, R91) -/

/-- A write all of whose bits are held back leaves what is written to the register as it was. -/
theorem typedWrite_held (old v : Word) (a b : Nat) (m : Word) : typedWrite old (v &&& ~~~(.ofNat 32 0xFFFFFFFF))
    (m &&& ~~~(.ofNat 32 0xFFFFFFFF)) a b = old := by
  have hzero : ∀ w : Word, w &&& ~~~(.ofNat 32 0xFFFFFFFF) = 0 := fun w => by
    rw [show ~~~(BitVec.ofNat 32 0xFFFFFFFF) = 0 by decide]
    exact BitVec.and_zero
  unfold typedWrite
  rw [hzero, hzero]
  change (old &&& ~~~(0#32) ||| 0#32 &&& 0#32) &&& ~~~(0#32 &&& BitVec.ofNat 32 a) ||| 0#32 &&& BitVec.ofNat 32 b = old
  simp only [BitVec.not_zero, BitVec.and_allOnes, BitVec.zero_and, BitVec.or_zero]

theorem Core.get_written_held (c : Core) {m off : Nat} {v : Word} {r : RegRow} (hrow : regRow? off = some r) :
    (c.written ⟨m, off, v⟩ 0xFFFFFFFF).get off = c.fixWrite off (c.get off) (c.get off) := by
  refine (c.get_written_hold (a := ⟨m, off, v⟩) hrow 0xFFFFFFFF).trans ?_
  rw [typedWrite_held]

theorem fixWrite_clkEn (c : Core) (old new : Word) : c.fixWrite R.CLK_EN old new = new := by
  unfold Core.fixWrite
  rw [if_neg (by decide), if_neg (by decide), if_neg (by decide), if_neg (by decide), if_neg (by decide), if_neg (by decide), if_neg (by decide), if_neg (by decide), if_neg (by decide), if_neg (by decide), if_neg (by decide), if_neg (by decide), if_neg (by decide), if_neg (by decide), if_neg (by decide), if_neg (by decide), if_neg (by decide), if_neg (by decide)]

theorem clkEn_held (c : Core) (m : Nat) (v : Word) : (c.written ⟨m, R.CLK_EN, v⟩ 0xFFFFFFFF).get R.CLK_EN = c.get R.CLK_EN := by
  obtain ⟨r, hrow⟩ := Option.isSome_iff_exists.mp (show (regRow? R.CLK_EN).isSome = true by decide +kernel)
  rw [c.get_written_held hrow, fixWrite_clkEn]

/-- Bits that a write may not clear have been counted. -/
def Core.enableRefused (c : Core) (w : Word) : Core := if w = 0 then c else c.countN R.CLK_EN_REFUSED (popCount 32 w.toNat)

theorem Core.get_enableRefused (c : Core) (w : Word) {off : Nat} (h : off ≠ R.CLK_EN_REFUSED) (hint : off % 0x100000 ≠ 4) :
    (c.enableRefused w).get off = c.get off := keeps_ite (Core.get · off) rfl (c.get_countN_ne _ h hint)

theorem clkEnWrite_locks {c : Core} {m : Nat} {v : Word} (hserves : c.serves m R.CLK_EN = true) : clkEnWrite m 0 v c =
    (((c.written ⟨m, R.CLK_EN, v⟩ 0xFFFFFFFF).put R.CLK_EN ((v &&& 0x1FFFFF) ||| (c.get R.CLK_EN &&& ~~~v &&& c.get R.CLK_EN_LOCK))).enableRefused
      (c.get R.CLK_EN &&& ~~~v &&& c.get R.CLK_EN_LOCK)).plinth := by
  have hlock : (c.written ⟨m, R.CLK_EN, v⟩ 0xFFFFFFFF).get R.CLK_EN_LOCK = c.get R.CLK_EN_LOCK :=
    c.get_written_ne _ (show R.CLK_EN_LOCK ≠ R.CLK_EN by decide)
  unfold clkEnWrite
  rw [if_neg (by decide), busWrite_served (show c.serves m (clkEnReg 0) = true from hserves)]
  dsimp only
  rw [if_pos rfl, if_pos rfl, show clkEnReg 0 = R.CLK_EN from rfl, clkEn_held, hlock]
  rfl

theorem clkEnWrite_takes {c : Core} {m k : Nat} {v : Word} (hserves : c.serves m (clkEnReg k) = true) (hlow : 1 ≤ k) (hhigh : k ≤ 3) (hm : m ≠ 8) :
    clkEnWrite m k v c = ((c.written ⟨m, clkEnReg k, v⟩ 0xFFFFFFFF).put (clkEnReg k) (v &&& (if k = 3 then 0xF else 0xFFFFFFFF))).plinth := by
  unfold clkEnWrite
  rw [if_neg (by omega), busWrite_served hserves]
  have hnone : ∀ w : Word, w &&& (0 : Word) = 0 := fun _ => BitVec.and_zero
  have hall : ∀ w : Word, w ||| (0 : Word) = w := fun _ => BitVec.or_zero
  simp only [show ¬k = 0 by omega, hm, if_false, hnone, hall, if_true]

theorem clkEnReg_bounds {k : Nat} (h : k ≤ 3) : ¬apartOff (clkEnReg k) ∧ clkEnReg k < 0x400000 := by
  unfold apartOff clkEnReg R.CLK_EN R.CLK_EN_BRUSH0 R.SYS_PD_STATE R.SYS_PD_WAKING
  split <;> omega

/-! ### A domain that has woken (R133) -/

/-- What follows a domain that is ON again: pins are read, DRAM leaves self-refresh, or cores are supplied. -/
def Core.domainBack (c : Core) (n : Nat) : Core := if n = 10 then c.readPins else if n = 11 then c.dramBack else c.brushSupply

theorem Supplied.readPins {α : Type} {g : Core → α} (h : Supplied g) (c : Core) : g c.readPins = g c := by
  unfold Core.readPins
  refine (h.setB _ _ (by decide)).trans (foldl_keeps g _ (fun d p => ?_) _ c)
  refine (h.setB _ _ ?_).trans (h.setB _ _ ?_)
  · simp only [F.NET_STATUS_SFP_LOS, R.NET_STATUS]
    omega
  · simp only [F.NET_STATUS_SFP_PRESENT, R.NET_STATUS]
    omega

theorem Supplied.domainBack {α : Type} {g : Core → α} (h : Supplied g) (c : Core) (n : Nat) : g (c.domainBack n) = g c :=
  keeps_ite g (h.readPins c) (keeps_ite g (h.setF c _ (by decide)) (h.brushSupply c))

/-- A domain is ON and no longer wakes. -/
def Core.domainOn (c : Core) (n : Nat) : Core := (c.setF ⟨R.SYS_PD_WAKING, n, n⟩ 0).setF (F.SYS_PD_STATE_PD n) 0

theorem pdWakeDone_wakes {c : Core} {n : Nat} (hn : n ≤ 12) (hwaking : c.flag ⟨R.SYS_PD_WAKING, n, n⟩ = true) :
    pdWakeDone n c = ((c.domainOn n).domainBack n).raiseIf (((c.domainOn n).domainBack n).get R.SYS_PD_WAKING = 0) F.SYS_INT_STATUS_PD_ON := by
  unfold pdWakeDone
  dsimp only
  rw [if_neg (by rw [hwaking]; simp only [Bool.not_true, Bool.false_eq_true, or_false]; omega)]
  rfl

theorem Core.domainOn_regs (c : Core) {n : Nat} (hn : n ≤ 12) : (c.domainOn n).f (F.SYS_PD_STATE_PD n) = 0 ∧
    (c.domainOn n).flag ⟨R.SYS_PD_WAKING, n, n⟩ = false := by
  refine ⟨?_, ?_⟩
  · exact (Core.f_setF_same _ (F.SYS_PD_STATE_PD n) 0 (by simp only [F.SYS_PD_STATE_PD]; omega) (by simp only [F.SYS_PD_STATE_PD]; omega)).trans
      (Nat.zero_mod _)
  · exact (Core.flag_congr (Core.get_setF_ne _ 0 (by simp only [F.SYS_PD_STATE_PD]; decide))).trans (Core.flag_setF_bit _ _ _ 0 (by omega))

/-! ### Clock outputs (R93) -/

/-- A clock output has been stopped for a new setting. -/
def Core.clkoutStopped (c : Core) (n : Nat) : Core :=
  (c.setClk { c.clk with clkout := smSet (fun _ => (0, 0, 2)) c.clk.clkout n (0, 0, 2), clkoutDue := c.clk.clkoutDue.filter (· ≠ n) ++ [n] }).send
    (.pin "CLKOUT" n false)

theorem clkoutCtrlWrite_stops {c : Core} {m n : Nat} {v : Word} (hn : n < 2) (hserves : c.serves m (clkoutReg n) = true)
    (hnew : (c.written ⟨m, clkoutReg n, v⟩ 0).clkoutSet n ≠ smGet (fun _ => (0, 0, 2)) (c.written ⟨m, clkoutReg n, v⟩ 0).clk.clkout n) :
    clkoutCtrlWrite m n v c = (c.written ⟨m, clkoutReg n, v⟩ 0).clkoutStopped n := by
  unfold clkoutCtrlWrite
  rw [if_neg (by omega), busWrite_served hserves]
  exact if_neg fun h => hnew h.1

theorem Core.clkoutStopped_parts (c : Core) (n : Nat) : (c.clkoutStopped n).atl = c.atl ∧
    smGet (fun _ => (0, 0, 2)) (c.clkoutStopped n).clk.clkout n = (0, 0, 2) ∧ n ∈ (c.clkoutStopped n).clk.clkoutDue :=
  ⟨rfl, smGet_smSet_same (fun _ => ((0, 0, 2) : Nat × Nat × Nat)) c.clk.clkout n (0, 0, 2), List.mem_append_right _ (List.mem_singleton_self n)⟩

/-! ### The trim of the AON oscillator (R94, R95) -/

theorem bitsOf_lt (w : Word) (hi lo : Nat) : bitsOf w hi lo < 2 ^ (hi - lo + 1) := Nat.mod_lt _ (by positivity)

section Trim
variable {c : Core} {err : Int} {fsyncOk : Bool}

theorem aonTrimGate_slows (hsrc : c.f F.CLK_AON_TRIM_CTRL_SRC = 1) (hon : c.clk.tcxoOn = true) (herr : 100 < err) :
    aonTrimGate err fsyncOk c = c.setF F.CLK_AON_TRIM_CODE (c.f F.CLK_AON_TRIM_CODE - 1) := by
  unfold aonTrimGate
  dsimp only
  rw [hsrc, hon]
  simp [herr]

theorem aonTrimGate_hastens (hsrc : c.f F.CLK_AON_TRIM_CTRL_SRC = 1) (hon : c.clk.tcxoOn = true) (herr : err < -100) :
    aonTrimGate err fsyncOk c = c.setF F.CLK_AON_TRIM_CODE (min 1023 (c.f F.CLK_AON_TRIM_CODE + 1)) := by
  have hslow : ¬100 < err := by omega
  unfold aonTrimGate
  dsimp only
  rw [hsrc, hon]
  simp [herr, hslow]

theorem aonTrimGate_stale (hsrc : c.f F.CLK_AON_TRIM_CTRL_SRC = 2) (hfsync : fsyncOk = false) :
    aonTrimGate err fsyncOk c = (c.setF F.CLK_AON_TRIM_CTRL_TRIM_STALE 1).raise F.CLK_INT_STATUS_TRIM_STALE := by
  unfold aonTrimGate
  dsimp only
  rw [hsrc, hfsync]
  simp

theorem Core.trim_setF (c : Core) {v : Nat} (hv : v < 1024) : (c.setF F.CLK_AON_TRIM_CODE v).f F.CLK_AON_TRIM_CODE = v :=
  (c.f_setF_same F.CLK_AON_TRIM_CODE v (by decide) (by decide)).trans (Nat.mod_eq_of_lt hv)

theorem Core.trim_lt (c : Core) : c.f F.CLK_AON_TRIM_CODE < 1024 := bitsOf_lt _ 9 0

end Trim

/-- Settles O12: the Plinth controller and cores that are supplied leave the clock enables and the domains' states alone; the other
commands reduce to one branch each. -/
theorem clockGatingCompletes : Obligations.ClockGatingCompletes := by
  unfold Obligations.ClockGatingCompletes
  refine ⟨?locked, ?brush, ?wake, ?clkout, ?slow, ?hasten, ?stale⟩
  case locked =>
    intro s m k v c hserves hq hk
    subst hk
    refine completes_traced_core rfl (clkEnWrite_locks hserves) fun t _ h => (h.get (by decide)).trans ?_
    refine ((aside_get (by decide)).plinth _).trans ((Core.get_enableRefused _ _ (by decide) (by decide)).trans ?_)
    exact Core.get_put_same _ _ _
  case brush =>
    intro s m k v c hserves hq hlow hhigh hm
    obtain ⟨hapart, hoff⟩ := clkEnReg_bounds hhigh
    refine completes_traced_core rfl (clkEnWrite_takes hserves hlow hhigh hm) fun t _ h => (h.get hoff).trans ?_
    exact ((aside_get hapart).plinth _).trans (Core.get_put_same _ _ _)
  case wake =>
    intro s n hq hn hwaking
    have hdone := pdWakeDone_wakes hn hwaking
    obtain ⟨hstate, hwoken⟩ := s.core.domainOn_regs hn
    generalize he : (s.core.domainOn n).domainBack n = e at hdone
    have hkept : ∀ {off : Nat}, off < 0x400000 → e.get off = (s.core.domainOn n).get off := fun hoff => by
      rw [← he]
      exact (supplied_get hoff).domainBack _ n
    have hraised : ∀ {off : Nat}, off ≠ R.SYS_INT_STATUS → (e.raiseIf (e.get R.SYS_PD_WAKING = 0) F.SYS_INT_STATUS_PD_ON).get off = e.get off :=
      fun hoff => keeps_ite (Core.get · _) (Core.get_raise_ne _ hoff) rfl
    have hstill : ∀ {off : Nat}, off < 0x400000 → off ≠ R.SYS_INT_STATUS →
        (e.raiseIf (e.get R.SYS_PD_WAKING = 0) F.SYS_INT_STATUS_PD_ON).get off = (s.core.domainOn n).get off :=
      fun hoff hint => (hraised hint).trans (hkept hoff)
    refine completes_traced_core rfl hdone fun t _ h => ⟨?_, ?_, fun hall => ?_⟩
    · exact (Core.f_congr ((h.get (off := R.SYS_PD_STATE) (by decide)).trans (hstill (by decide) (by decide)))).trans hstate
    · exact (Core.flag_congr ((h.get (off := R.SYS_PD_WAKING) (by decide)).trans (hstill (by decide) (by decide)))).trans hwoken
    · have hzero : e.get R.SYS_PD_WAKING = 0 := (hraised (by decide)).symm.trans ((h.get (by decide)).symm.trans hall)
      rw [h.flag (by decide), Core.raiseIf, if_pos (decide_eq_true hzero)]
      exact Core.flag_raise_same _ _ _ (by decide)
  case clkout =>
    intro s m n v c hserves hq hn hnew
    have hclk : c.clk = s.core.clk := (congrArg Core.clk (s.core.written_rest _ _) :)
    obtain ⟨hatl, hout, hdue⟩ := c.clkoutStopped_parts n
    exact completes_of_eq rfl hq (clkoutCtrlWrite_stops hn hserves (by rw [show (s.core.written _ 0).clk = s.core.clk from hclk]; exact hnew))
      (hatl.trans (Core.written_atl _ _ _)) ⟨hout, hdue⟩
  case slow =>
    intro s err fsyncOk hq hsrc hon herr _
    have hlt := s.core.trim_lt
    exact completes_of_eq rfl hq (aonTrimGate_slows hsrc hon herr) rfl (s.core.trim_setF (by omega))
  case hasten =>
    intro s err fsyncOk hq hsrc hon herr
    exact completes_of_eq rfl hq (aonTrimGate_hastens hsrc hon herr) rfl (s.core.trim_setF (by omega))
  case stale =>
    intro s err fsyncOk hq hsrc hfsync
    refine completes_of_eq rfl hq (aonTrimGate_stale hsrc hfsync) (Core.raise_atl _ _) ⟨?_, ?_, ?_⟩
    · exact (Core.flag_raise_off _ (by decide)).trans (Core.flag_setF_bit _ _ _ 1 (by decide))
    · exact Core.flag_raise_same _ _ _ (by decide)
    · exact (Core.f_raise_off _ (by decide)).trans (Core.f_congr (Core.get_setF_ne _ _ (by decide)))

end Sys2Proof.Machine
end

section
/-! Clock supervision (R74 to R89): the TCXO, REF_IN, the DPLL, monitors, the switch of MEDIA, and O11. -/

namespace Sys2Proof.Machine
open Sys2Proof

/-! ### Flags beside a field -/

theorem Core.flag_setF_beside (c : Core) {o k hi lo : Nat} (v : Nat) (hl : lo ≤ hi) (h : hi < 32) (hapart : hi < k ∨ k < lo) :
    (c.setF ⟨o, hi, lo⟩ v).flag ⟨o, k, k⟩ = c.flag ⟨o, k, k⟩ := by
  unfold Core.flag
  rw [c.f_setF_beside v hl h (le_refl k) hapart]

theorem Core.showState_keeps {α : Type} {g : Core → α} (hset : ∀ (c : Core) (v : Nat), g (c.setF F.CLK_MEDIA_STATUS_STATE v) = g c) (c : Core) :
    g c.showState = g c := keeps_ite g (hset c _) rfl

theorem Core.showState_clk (c : Core) : c.showState.clk = c.clk := c.showState_keeps (g := Core.clk) fun _ _ => rfl

theorem Core.showState_bystanders (c : Core) : c.showState.bystanders = c.bystanders := c.showState_keeps (g := Core.bystanders) fun _ _ => rfl

theorem Core.get_showState (c : Core) {off : Nat} (h : off ≠ R.CLK_MEDIA_STATUS) : c.showState.get off = c.get off :=
  c.showState_keeps (g := (Core.get · off)) fun d _ => d.get_setF_ne _ h

/-- A flag of CLK_MEDIA_STATUS is not of its STATE. -/
theorem Core.flag_showState (c : Core) {k : Nat} (h : 2 < k) : c.showState.flag ⟨R.CLK_MEDIA_STATUS, k, k⟩ = c.flag ⟨R.CLK_MEDIA_STATUS, k, k⟩ :=
  c.showState_keeps (g := (Core.flag · ⟨R.CLK_MEDIA_STATUS, k, k⟩)) fun d v => d.flag_setF_beside v (by decide) (by decide) (.inl h)

/-! ### The TCXO qualifies (R74) -/

/-- The TCXO is shown as qualified. -/
def Core.tcxoGood (c : Core) : Core := (c.setF F.CLK_MEDIA_STATUS_TCXO_QUALIFIED 1).raise F.CLK_INT_STATUS_TCXO_QUALIFIED

/-- Whether the drift condition was not met is shown. -/
def Core.unconfirmed (c : Core) (b : Bool) : Core := if b then c.setF F.CLK_MEDIA_STATUS_QUAL_UNCONFIRMED 1 else c

/-- The DPLL follows DREF. -/
def Core.followDref (c : Core) : Core := if c.clk.follow = c.dref then c else c.setClk { c.clk with follow := c.dref, locked := false }

section Tcxo
variable (c : Core) (b : Bool)

theorem Core.unconfirmed_keeps {α : Type} {g : Core → α} (hset : ∀ c : Core, g (c.setF F.CLK_MEDIA_STATUS_QUAL_UNCONFIRMED 1) = g c) :
    g (c.unconfirmed b) = g c := keeps_ite g (hset c) rfl

theorem Core.followDref_keeps {α : Type} {g : Core → α} (hclk : ∀ c : Core, g (c.setClk { c.clk with follow := c.dref, locked := false }) = g c) :
    g c.followDref = g c := keeps_ite g rfl (hclk c)

theorem Core.dref_of_get {c d : Core} (h : c.get R.CLK_MEDIA_CTRL = d.get R.CLK_MEDIA_CTRL) : c.dref = d.dref := by
  unfold Core.dref
  rw [Core.f_congr (x := F.CLK_MEDIA_CTRL_DREF) h]

theorem Core.follow_followDref : c.followDref.clk.follow = c.dref := by
  unfold Core.followDref
  split
  · next h => exact h
  · rfl

theorem Core.tcxoGood_clk : c.tcxoGood.clk = c.clk := (Core.raise_clk _ _).trans (c.setF_clk _ _)

theorem Core.tcxoGood_bystanders : c.tcxoGood.bystanders = c.bystanders := (Core.raise_bystanders _ _).trans (c.setF_bystanders _ _)

theorem Core.get_tcxoGood {off : Nat} (h : off ≠ R.CLK_MEDIA_STATUS) (hint : off ≠ R.CLK_INT_STATUS) : c.tcxoGood.get off = c.get off :=
  (Core.get_raise_ne _ hint).trans (c.get_setF_ne _ h)

theorem Core.flags_tcxoGood : c.tcxoGood.flag F.CLK_MEDIA_STATUS_TCXO_QUALIFIED = true ∧ c.tcxoGood.flag F.CLK_INT_STATUS_TCXO_QUALIFIED = true ∧
    c.tcxoGood.flag F.CLK_MEDIA_STATUS_QUAL_UNCONFIRMED = c.flag F.CLK_MEDIA_STATUS_QUAL_UNCONFIRMED :=
  ⟨(Core.flag_raise_off _ (by decide)).trans (Core.flag_setF_bit _ _ _ 1 (by decide)), Core.flag_raise_same _ _ _ (by decide),
    (Core.flag_raise_off _ (by decide)).trans (c.flag_setF_beside 1 (by decide) (by decide) (by decide))⟩

theorem Core.flags_unconfirmed : (c.unconfirmed b).flag F.CLK_MEDIA_STATUS_TCXO_QUALIFIED = c.flag F.CLK_MEDIA_STATUS_TCXO_QUALIFIED ∧
    (c.unconfirmed b).flag F.CLK_INT_STATUS_TCXO_QUALIFIED = c.flag F.CLK_INT_STATUS_TCXO_QUALIFIED ∧
    (c.unconfirmed b).flag F.CLK_MEDIA_STATUS_QUAL_UNCONFIRMED = (c.flag F.CLK_MEDIA_STATUS_QUAL_UNCONFIRMED || b) := by
  refine ⟨c.unconfirmed_keeps b (g := (Core.flag · _)) fun d => d.flag_setF_beside 1 (by decide) (by decide) (by decide),
    c.unconfirmed_keeps b (g := (Core.flag · _)) fun d => Core.flag_congr (d.get_setF_ne _ (by decide)), ?_⟩
  cases b with
  | false => exact (Bool.or_false _).symm
  | true => exact (c.flag_setF_bit _ _ 1 (by decide)).trans (Bool.or_true _).symm

theorem tcxoQualify_qualifies {c : Core} (confirmed : Bool) (hok : c.clk.tcxoOk = true) (hnew : c.flag F.CLK_MEDIA_STATUS_TCXO_QUALIFIED = false)
    (hfault : c.clk.fault = none) : tcxoQualify confirmed c =
      ((c.tcxoGood.unconfirmed (c.refQualified c.dref && !confirmed)).followDref).showState := by
  have hclk : (c.tcxoGood.unconfirmed (c.refQualified c.dref && !confirmed)).followDref.clk.fault = none := by
    rw [Core.followDref_keeps _ (g := fun d => d.clk.fault) fun _ => rfl, Core.unconfirmed_keeps _ _ (g := fun d => d.clk.fault) fun _ => rfl,
      c.tcxoGood_clk, hfault]
  unfold tcxoQualify
  rw [if_neg (by rw [hok, hnew]; decide)]
  exact if_neg fun h => Bool.false_ne_true ((congrArg Option.isSome hclk).symm.trans h)

theorem tcxoQualify_parts (d : Core) (hd : d = ((c.tcxoGood.unconfirmed b).followDref).showState) :
    d.bystanders = c.bystanders ∧ d.flag F.CLK_MEDIA_STATUS_TCXO_QUALIFIED = true ∧ d.flag F.CLK_INT_STATUS_TCXO_QUALIFIED = true ∧
      d.clk.follow = c.dref ∧ d.flag F.CLK_MEDIA_STATUS_QUAL_UNCONFIRMED = (c.flag F.CLK_MEDIA_STATUS_QUAL_UNCONFIRMED || b) := by
  obtain ⟨hgood, hint, hsame⟩ := c.flags_tcxoGood
  obtain ⟨hgood', hint', hset⟩ := c.tcxoGood.flags_unconfirmed b
  have hfollow : ∀ x : Field, ((c.tcxoGood.unconfirmed b).followDref).flag x = (c.tcxoGood.unconfirmed b).flag x := fun x =>
    Core.followDref_keeps _ (g := (Core.flag · x)) fun _ => rfl
  subst hd
  refine ⟨?_, ?_, ?_, ?_, ?_⟩
  · rw [Core.showState_bystanders, Core.followDref_keeps _ (g := Core.bystanders) fun _ => rfl,
      Core.unconfirmed_keeps _ _ (g := Core.bystanders) fun d => d.setF_bystanders _ _, c.tcxoGood_bystanders]
  · exact (Core.flag_showState _ (by decide)).trans ((hfollow _).trans (hgood'.trans hgood))
  · exact (Core.flag_congr (Core.get_showState _ (by decide))).trans ((hfollow _).trans (hint'.trans hint))
  · rw [Core.showState_clk, Core.follow_followDref]
    refine Core.dref_of_get ((Core.unconfirmed_keeps _ _ (g := (Core.get · R.CLK_MEDIA_CTRL)) fun d => d.get_setF_ne _ (by decide)).trans ?_)
    exact c.get_tcxoGood (by decide) (by decide)
  · exact (Core.flag_showState _ (by decide)).trans ((hfollow _).trans (hset.trans (by rw [hsame])))

end Tcxo

/-! ### Trips (R76, R81, R82) -/

/-- A property that the trip of a reference leaves true. -/
structure Trips (P : Core → Prop) : Prop where
  set : ∀ (c : Core) (x : Field) (v : Nat), x = F.CLK_MEDIA_STATUS_DOUBLE_FAULT ∨ x = F.CLK_MEDIA_STATUS_STATE → P c → P (c.setF x v)
  count : ∀ (c : Core) (r : Nat), r = R.CLK_DOUBLE_FAULT_COUNT ∨ r = R.CLK_HOLDOVER_COUNT → P c → P (c.count r)
  raise : ∀ (c : Core) (x : Field), x = F.CLK_INT_STATUS_DOUBLE_FAULT ∨ x = F.CLK_INT_STATUS_HOLDOVER_ENTER → P c → P (c.raise x)
  clk : ∀ (c : Core) (x : Clk), x.refGood = c.clk.refGood → (c.clk.locked = false → x.locked = false) → P c → P (c.setClk x)

/-- What a DPLL without its reference does: it holds, or MEDIA stops where the TCXO has not qualified. -/
def Core.tripHeld (c : Core) : Core :=
  if !c.clk.mediaOn then c
  else if !c.flag F.CLK_MEDIA_STATUS_TCXO_QUALIFIED then (if c.clk.fault.isSome then c else c.doubleFault)
  else if c.f F.CLK_MEDIA_STATUS_STATE = 3 then c
  else
    let c := { c with clk := { c.clk with held := true } }
    ((c.setF F.CLK_MEDIA_STATUS_STATE 3).count R.CLK_HOLDOVER_COUNT).raise F.CLK_INT_STATUS_HOLDOVER_ENTER

/-- The DPLL has lost its lock. -/
def Core.unlocked (c : Core) : Core := c.setClk { c.clk with locked := false }

theorem Core.refTrip_eq (c : Core) (r : Nat) : c.refTrip r = if r = 0 ∨ r ≠ c.clk.follow then c else c.unlocked.tripHeld := rfl

namespace Trips
variable {P : Core → Prop} (h : Trips P)
include h

theorem doubleFault {c : Core} (hc : P c) : P c.doubleFault :=
  h.clk _ { (((c.setF F.CLK_MEDIA_STATUS_DOUBLE_FAULT 1).count R.CLK_DOUBLE_FAULT_COUNT).raise F.CLK_INT_STATUS_DOUBLE_FAULT).clk with
    fault := some 0, held := true, locked := false } rfl (fun _ => rfl)
    (h.raise _ _ (.inl rfl) (h.count _ _ (.inl rfl) (h.set _ _ _ (.inl rfl) hc)))

theorem tripHeld {c : Core} (hc : P c) : P c.tripHeld := by
  unfold Core.tripHeld
  split
  · exact hc
  · split
    · split
      · exact hc
      · exact h.doubleFault hc
    · split
      · exact hc
      · exact h.raise _ _ (.inr rfl) (h.count _ _ (.inr rfl) (h.set _ _ _ (.inr rfl) (h.clk c { c.clk with held := true } rfl id hc)))

theorem unlocked {c : Core} (hc : P c) : P c.unlocked := h.clk c { c.clk with locked := false } rfl (fun _ => rfl) hc

theorem refTrip {c : Core} (hc : P c) (r : Nat) : P (c.refTrip r) := by
  rw [Core.refTrip_eq]
  split
  · exact hc
  · exact h.tripHeld (h.unlocked hc)

end Trips

/-- A reading that the registers of clocks and the clock part leave alone, or a register that a trip does not write. -/
theorem trips_get {off : Nat} (h : off ≠ R.CLK_MEDIA_STATUS ∧ off ≠ R.CLK_DOUBLE_FAULT_COUNT ∧ off ≠ R.CLK_HOLDOVER_COUNT)
    (hint : off % 0x100000 ≠ 4) (w : Word) : Trips fun c => c.get off = w where
  set c x v hx hc := (c.get_setF_ne v (by rcases hx with e | e <;> rw [e] <;> exact h.1)).trans hc
  count c r hr hc := (c.get_count_ne (by rcases hr with e | e <;> rw [e] <;> [exact h.2.1; exact h.2.2]) hint).trans hc
  raise c x hx hc := (c.get_raise_ne (by
    rcases hx with e | e <;> rw [e] <;> exact fun e => hint (by rw [e]; decide))).trans hc
  clk _ _ _ _ hc := hc

/-- A flag of CLK_MEDIA_STATUS beside STATE and DOUBLE_FAULT. -/
theorem trips_status {k : Nat} (hlow : 2 < k) (hdouble : k ≠ 13) (b : Bool) : Trips fun c => c.flag ⟨R.CLK_MEDIA_STATUS, k, k⟩ = b where
  set c x v hx hc := by
    refine Eq.trans ?_ hc
    rcases hx with e | e <;> rw [e]
    · exact c.flag_setF_beside v (by decide) (by decide) (by omega)
    · exact c.flag_setF_beside v (by decide) (by decide) (.inl hlow)
  count c r hr hc := (c.flag_count_off (by rcases hr with e | e <;> rw [e] <;> exact (show R.CLK_MEDIA_STATUS ≠ _ by decide)) (show R.CLK_MEDIA_STATUS % 0x100000 ≠ 4 by decide)).trans hc
  raise c x hx hc := (c.flag_raise_off (by rcases hx with e | e <;> rw [e] <;> exact (show R.CLK_MEDIA_STATUS ≠ _ by decide))).trans hc
  clk _ _ _ _ hc := hc

/-- An interrupt that has been raised. -/
theorem trips_interrupt {k : Nat} (hk : k < 32) : Trips fun c => c.flag ⟨R.CLK_INT_STATUS, k, k⟩ = true where
  set c x v hx hc := (Core.flag_congr (c.get_setF_ne v (by rcases hx with e | e <;> rw [e] <;> exact (show R.CLK_INT_STATUS ≠ _ by decide)))).trans hc
  count c r hr hc := c.flag_count_mono hk (by rcases hr with e | e <;> rw [e] <;> decide) hc
  raise c x hx hc := by rcases hx with e | e <;> rw [e] <;> exact c.flag_raise_mono hk (by decide) hc
  clk _ _ _ _ hc := hc

theorem trips_refGood (b : Bool) : Trips fun c => c.clk.refGood = b where
  set _ _ _ _ hc := hc
  count c r _ hc := (congrArg Clk.refGood (c.count_clk r)).trans hc
  raise c x _ hc := (congrArg Clk.refGood (c.raise_clk x)).trans hc
  clk _ _ hx _ hc := hx.trans hc

theorem trips_unlocked : Trips fun c => c.clk.locked = false where
  set _ _ _ _ hc := hc
  count c r _ hc := (congrArg Clk.locked (c.count_clk r)).trans hc
  raise c x _ hc := (congrArg Clk.locked (c.raise_clk x)).trans hc
  clk _ _ _ hl hc := hl hc

theorem trips_atl (x : AtelierPart) : Trips fun c => c.atl = x where
  set _ _ _ _ hc := hc
  count c r _ hc := (Core.count_atl c r).trans hc
  raise c x _ hc := (Core.raise_atl c x).trans hc
  clk _ _ _ _ hc := hc

/-- A trip of the reference that is followed takes the lock. -/
theorem Core.refTrip_unlocks (c : Core) {r : Nat} (h0 : r ≠ 0) (hr : r = c.clk.follow) : (c.refTrip r).clk.locked = false := by
  rw [Core.refTrip_eq, if_neg (by tauto)]
  exact trips_unlocked.tripHeld rfl

/-- REF_IN has tripped, before the DPLL acts on it. -/
def Core.refInLost (c : Core) (trace : Bool) : Core :=
  let d := ((c.count R.CLK_REF_TRIP_COUNT).setF F.CLK_MEDIA_STATUS_REF_QUALIFIED 0).raise F.CLK_INT_STATUS_REF_TRIP
  d.setClk { d.clk with refGood := false, ppsEdges := 0, wasTraceable := trace }

theorem Core.refInTrip_trips {c : Core} (h : c.clk.refGood = true) :
    c.refInTrip = (c.refInLost (c.clk.wasTraceable || c.ownClass = 6)).refTrip 2 := by
  unfold Core.refInTrip
  rw [if_neg (by rw [h]; decide)]
  rfl

theorem Core.refInTrip_parts {c : Core} (h : c.clk.refGood = true) : c.refInTrip.atl = c.atl ∧ c.refInTrip.clk.refGood = false ∧
    c.refInTrip.flag F.CLK_MEDIA_STATUS_REF_QUALIFIED = false ∧ c.refInTrip.flag F.CLK_INT_STATUS_REF_TRIP = true := by
  have hset : ∀ d : Core, (d.setF F.CLK_MEDIA_STATUS_REF_QUALIFIED 0).flag F.CLK_MEDIA_STATUS_REF_QUALIFIED = false := fun d =>
    d.flag_setF_bit _ _ 0 (by decide)
  have hatl : ∀ d : Core, (d.setF F.CLK_MEDIA_STATUS_REF_QUALIFIED 0).atl = d.atl := fun _ => rfl
  rw [Core.refInTrip_trips h]
  refine ⟨(trips_atl _).refTrip ?_ 2, (trips_refGood _).refTrip rfl 2, (trips_status (by decide) (by decide) _).refTrip ?_ 2,
    (trips_interrupt (by decide)).refTrip ?_ 2⟩ <;> unfold Core.refInLost
  · exact (Core.raise_atl _ _).trans ((hatl _).trans (Core.count_atl _ _))
  · exact (Core.flag_raise_off _ (by decide)).trans (hset _)
  · exact Core.flag_raise_same _ _ _ (by decide)

theorem Core.flag_refInTrip {c : Core} (h : c.clk.refGood = true) {k : Nat} (hlow : 2 < k) (hdouble : k ≠ 13) (hqual : k ≠ 9) :
    c.refInTrip.flag ⟨R.CLK_MEDIA_STATUS, k, k⟩ = c.flag ⟨R.CLK_MEDIA_STATUS, k, k⟩ := by
  rw [Core.refInTrip_trips h]
  refine (trips_status hlow hdouble _).refTrip ?_ 2
  unfold Core.refInLost
  refine (Core.flag_raise_off _ (show R.CLK_MEDIA_STATUS ≠ _ by decide)).trans ((Core.flag_setF_beside _ 0 (by decide) (by decide) (by omega)).trans ?_)
  exact c.flag_count_off (show R.CLK_MEDIA_STATUS ≠ _ by decide) (show R.CLK_MEDIA_STATUS % 0x100000 ≠ 4 by decide)

theorem Core.offset_refInTrip {c : Core} (h : c.clk.refGood = true) : c.refInTrip.get R.CLK_REF_OFFSET = c.get R.CLK_REF_OFFSET := by
  rw [Core.refInTrip_trips h]
  refine (trips_get (by decide) (by decide) _).refTrip ?_ 2
  exact (Core.get_raise_ne _ (by decide)).trans ((Core.get_setF_ne _ _ (by decide)).trans (c.get_count_ne (by decide) (by decide)))

end Sys2Proof.Machine
end

section
/-! References, the DPLL, clock resets, ports and the switch of MEDIA (R77 to R89), and O11. -/

namespace Sys2Proof.Machine
open Sys2Proof

/-! ### REF_IN and the DPLL (R76, R77, R79) -/

theorem refInLoss_trips {c : Core} (hon : c.refOn = true) : refInLoss c = (c.setF F.CLK_MEDIA_STATUS_REF_PRESENT 0).refInTrip := if_pos hon

/-- A measurement of REF_IN is shown. -/
def Core.refMeasured (c : Core) (off : Int) : Core := (c.setF F.CLK_MEDIA_STATUS_REF_PRESENT 1).put R.CLK_REF_OFFSET (.ofNat 32 (unsigned 32 off))

/-- A good measurement counts. -/
def Core.refCounted (c : Core) : Core := c.setClk { c.clk with refGood := true, ppsEdges := c.clk.ppsEdges + 1 }

/-- In house-sync mode the counter rolls to a whole second at a good edge. -/
def Core.houseRoll (c : Core) : Core :=
  if c.houseSync ∧ c.f F.CLK_REF_CTRL_TYPE = 1 ∧ c.flag F.CLK_MEDIA_STATUS_REF_QUALIFIED then
    c.setTime { c.time with ptp := (c.ptpNs + 500000000) / 10 ^ 9 * 10 ^ 9 * 2 ^ 32, known := true }
  else c

theorem Core.houseRoll_keeps {α : Type} {g : Core → α} (htime : ∀ (c : Core) (x : TimePart), g (c.setTime x) = g c) (c : Core) :
    g c.houseRoll = g c := keeps_ite g (htime c _) rfl

section RefIn
variable {c : Core} {off : Int}

theorem refInMeasurement_good (hon : c.refOn = true) (hin : off.natAbs ≤ c.f F.CLK_REF_CTRL_WINDOW * 10000) :
    refInMeasurement off c = (c.refMeasured off).refCounted.houseRoll := by
  have hwindow : (c.refMeasured off).f F.CLK_REF_CTRL_WINDOW = c.f F.CLK_REF_CTRL_WINDOW :=
    Core.f_congr ((Core.get_put_ne _ _ (by decide)).trans (c.get_setF_ne _ (by decide)))
  unfold refInMeasurement
  rw [if_neg (by rw [hon]; decide)]
  exact if_pos (hwindow.symm ▸ hin : off.natAbs ≤ (c.refMeasured off).f F.CLK_REF_CTRL_WINDOW * 10000)

theorem refInMeasurement_bad (hon : c.refOn = true) (hout : c.f F.CLK_REF_CTRL_WINDOW * 10000 < off.natAbs) :
    refInMeasurement off c = (c.refMeasured off).refInTrip := by
  have hwindow : (c.refMeasured off).f F.CLK_REF_CTRL_WINDOW = c.f F.CLK_REF_CTRL_WINDOW :=
    Core.f_congr ((Core.get_put_ne _ _ (by decide)).trans (c.get_setF_ne _ (by decide)))
  unfold refInMeasurement
  rw [if_neg (by rw [hon]; decide)]
  exact if_neg fun h => absurd (hwindow ▸ h : off.natAbs ≤ c.f F.CLK_REF_CTRL_WINDOW * 10000) (by omega)

theorem Core.refMeasured_parts (c : Core) (off : Int) : (c.refMeasured off).atl = c.atl ∧ (c.refMeasured off).clk = c.clk ∧
    (c.refMeasured off).flag F.CLK_MEDIA_STATUS_REF_PRESENT = true ∧ (c.refMeasured off).get R.CLK_REF_OFFSET = .ofNat 32 (unsigned 32 off) :=
  ⟨rfl, rfl, (Core.flag_congr (Core.get_put_ne _ _ (by decide))).trans (c.flag_setF_bit _ _ 1 (by decide)), Core.get_put_same _ _ _⟩

theorem Core.goodMeasured_parts (c : Core) (off : Int) (d : Core) (hd : d = (c.refMeasured off).refCounted.houseRoll) : d.atl = c.atl ∧
    d.flag F.CLK_MEDIA_STATUS_REF_PRESENT = true ∧ d.get R.CLK_REF_OFFSET = .ofNat 32 (unsigned 32 off) ∧ d.clk.refGood = true ∧
    d.clk.ppsEdges = c.clk.ppsEdges + 1 := by
  obtain ⟨hatl, hclk, hpresent, hoffset⟩ := c.refMeasured_parts off
  subst hd
  refine ⟨?_, ?_, ?_, ?_, ?_⟩
  · exact (Core.houseRoll_keeps (g := Core.atl) (fun _ _ => rfl) _).trans hatl
  · exact (Core.houseRoll_keeps (g := (Core.flag · _)) (fun _ _ => rfl) _).trans hpresent
  · exact (Core.houseRoll_keeps (g := (Core.get · _)) (fun _ _ => rfl) _).trans hoffset
  · exact Core.houseRoll_keeps (g := fun d => d.clk.refGood) (fun _ _ => rfl) _
  · exact (Core.houseRoll_keeps (g := fun d => d.clk.ppsEdges) (fun _ _ => rfl) _).trans (congrArg (fun x : Clk => x.ppsEdges + 1) hclk)

/-- REF_IN is shown as qualified. -/
def Core.refGained (c : Core) : Core := (c.setF F.CLK_MEDIA_STATUS_REF_QUALIFIED 1).raise F.CLK_INT_STATUS_REF_QUALIFIED

theorem refQualify_qualifies (hon : c.refOn = true) (hgood : c.clk.refGood = true) (hpresent : c.flag F.CLK_MEDIA_STATUS_REF_PRESENT = true)
    (hnew : c.flag F.CLK_MEDIA_STATUS_REF_QUALIFIED = false) (hedges : c.f F.CLK_REF_CTRL_TYPE = 1 → 3 ≤ c.clk.ppsEdges) :
    refQualify c = c.refGained.refBack 2 := by
  unfold refQualify
  rw [if_pos ⟨hon, hgood, hpresent, by rw [hnew]; decide, hedges⟩]
  rfl

theorem Core.refGained_back (c : Core) (r : Nat) : (c.refGained.refBack r).atl = c.atl ∧
    (c.refGained.refBack r).flag F.CLK_MEDIA_STATUS_REF_QUALIFIED = true ∧ (c.refGained.refBack r).flag F.CLK_INT_STATUS_REF_QUALIFIED = true := by
  have hatl : c.refGained.atl = c.atl := (Core.raise_atl _ _).trans rfl
  have hqual : c.refGained.flag F.CLK_MEDIA_STATUS_REF_QUALIFIED = true :=
    (Core.flag_raise_off _ (by decide)).trans (c.flag_setF_bit _ _ 1 (by decide))
  have hint : c.refGained.flag F.CLK_INT_STATUS_REF_QUALIFIED = true := Core.flag_raise_same _ _ _ (by decide)
  generalize c.refGained = d at hatl hqual hint ⊢
  refine ⟨(congrArg Prod.snd (d.refBack_bystanders r)).trans hatl, ?_, ?_⟩
  · refine (Core.refBack_keeps (g := (Core.flag · F.CLK_MEDIA_STATUS_REF_QUALIFIED)) (fun _ => rfl) (fun e => ?_) (fun e => ?_) d r).trans hqual
    · exact e.flag_setF_beside 1 (by decide) (by decide) (by decide)
    · exact e.flag_raise_off (by decide)
  · refine (Core.refBack_keeps (g := (Core.flag · F.CLK_INT_STATUS_REF_QUALIFIED)) (fun _ => rfl) (fun e => ?_) (fun e => ?_) d r).trans hint
    · exact Core.flag_congr (e.get_setF_ne _ (by decide))
    · refine (Core.flag_congr (e.get_raise _ _)).trans ?_
      exact e.flag_setF_beside 1 (by decide) (by decide) (by decide)

end RefIn

/-- The DPLL is locked. -/
def Core.lockTaken (c : Core) : Core := c.setClk { c.clk with locked := true, held := false }

theorem dpllLockEvent_locks {c : Core} (hfollow : c.clk.follow ≠ 0) (hqual : c.refQualified c.clk.follow = true)
    (hservo : c.clk.follow = 1 → c.f F.TIME_STATUS_STATE = 3) (hfault : c.clk.fault = none) : dpllLockEvent c = c.lockTaken.showState := by
  unfold dpllLockEvent
  dsimp only
  rw [if_pos ⟨hfollow, hqual, hservo, by rw [hfault]; rfl⟩]
  rfl

/-- A DPLL that has locked to a qualified reference is shown in state 2. -/
theorem Core.state_lockTaken {c : Core} (hfollow : c.clk.follow ≠ 0) (hqual : c.refQualified c.clk.follow = true) (hfault : c.clk.fault = none)
    (hon : c.clk.mediaOn = true) (hsw : c.clk.sw = none) : c.lockTaken.showState.f F.CLK_MEDIA_STATUS_STATE = 2 := by
  have hstate : c.lockTaken.mediaState = 2 := by
    unfold Core.mediaState
    dsimp only
    rw [if_neg (show ¬c.lockTaken.clk.follow = 0 from hfollow), if_neg (by rw [show c.lockTaken.refQualified c.lockTaken.clk.follow = true from hqual]; decide)]
    exact if_pos rfl
  have hshow : c.lockTaken.showState = c.lockTaken.setF F.CLK_MEDIA_STATUS_STATE c.lockTaken.mediaState :=
    if_pos ⟨hon, by rw [show c.lockTaken.clk.sw = none from hsw]; decide, by rw [show c.lockTaken.clk.fault = none from hfault]; rfl⟩
  rw [hshow, hstate]
  exact (Core.f_setF_same _ _ 2 (by decide) (by decide)).trans rfl

/-! ### CLK_MEDIA_CTRL (R79, R88) -/

theorem Core.setDref_keeps {α : Type} {g : Core → α} (hdref : ∀ (c : Core) (v : Nat), g (c.setF F.CLK_MEDIA_CTRL_DREF v) = g c)
    (hclk : ∀ (c : Core) (x : Clk), x.sw = c.clk.sw → g (c.setClk x) = g c)
    (hstate : ∀ (c : Core) (v : Nat), g (c.setF F.CLK_MEDIA_STATUS_STATE v) = g c)
    (htime : ∀ (c : Core) (v : Nat), g (c.setF F.TIME_STATUS_STATE v) = g c) (c : Core) (d : Nat) : g (c.setDref d) = g c := by
  unfold Core.setDref
  refine keeps_ite g rfl ((Core.showTime_keeps _ htime).trans ((Core.showState_keeps hstate _).trans (keeps_ite g (hdref c d) ?_)))
  exact (hclk (c.setF F.CLK_MEDIA_CTRL_DREF d) { (c.setF F.CLK_MEDIA_CTRL_DREF d).clk with
    follow := (c.setF F.CLK_MEDIA_CTRL_DREF d).dref, locked := false, held := (c.setF F.CLK_MEDIA_CTRL_DREF d).clk.mediaOn } rfl).trans (hdref c d)

theorem Core.setDref_sw (c : Core) (d : Nat) : (c.setDref d).clk.sw = c.clk.sw :=
  Core.setDref_keeps (g := fun c => c.clk.sw) (fun _ _ => rfl) (fun _ _ h => h) (fun _ _ => rfl) (fun _ _ => rfl) c d

theorem Core.setDref_bystanders (c : Core) (d : Nat) : (c.setDref d).bystanders = c.bystanders :=
  Core.setDref_keeps (g := Core.bystanders) (fun _ _ => rfl) (fun _ _ _ => rfl) (fun _ _ => rfl) (fun _ _ => rfl) c d

/-- A field of CLK_MEDIA_CTRL beside DREF. -/
theorem Core.f_setDref (c : Core) (d : Nat) {hi lo : Nat} (h : 1 < lo) (hle : lo ≤ hi) :
    (c.setDref d).f ⟨R.CLK_MEDIA_CTRL, hi, lo⟩ = c.f ⟨R.CLK_MEDIA_CTRL, hi, lo⟩ :=
  Core.setDref_keeps (g := (Core.f · ⟨R.CLK_MEDIA_CTRL, hi, lo⟩)) (fun c v => c.f_setF_beside v (by decide) (by decide) hle (.inl h))
    (fun _ _ _ => rfl) (fun c _ => Core.f_congr (c.get_setF_ne _ (show R.CLK_MEDIA_CTRL ≠ R.CLK_MEDIA_STATUS by decide)))
    (fun c _ => Core.f_congr (c.get_setF_ne _ (show R.CLK_MEDIA_CTRL ≠ R.TIME_STATUS by decide))) c d

theorem Core.dref_setDref (c : Core) {d : Nat} (hd : d < 4) : (c.setDref d).f F.CLK_MEDIA_CTRL_DREF = d := by
  unfold Core.setDref
  split
  · next h => exact h.symm
  · have hset : (c.setF F.CLK_MEDIA_CTRL_DREF d).f F.CLK_MEDIA_CTRL_DREF = d :=
      (c.f_setF_same F.CLK_MEDIA_CTRL_DREF d (by decide) (by decide)).trans (Nat.mod_eq_of_lt hd)
    refine (Core.showTime_keeps _ (g := (Core.f · F.CLK_MEDIA_CTRL_DREF)) fun e _ => Core.f_congr (e.get_setF_ne _ (by decide))).trans ?_
    refine (Core.showState_keeps (g := (Core.f · F.CLK_MEDIA_CTRL_DREF)) (fun e _ => Core.f_congr (e.get_setF_ne _ (by decide))) _).trans ?_
    exact keeps_ite (Core.f · F.CLK_MEDIA_CTRL_DREF) hset hset

section MediaCtrl
variable {c w : Core} {v : Word}

/-- A host writes DREF alone. -/
theorem mediaCtrlWrite_dref (hserves : c.serves 8 R.CLK_MEDIA_CTRL = true) (hw : w = c.written ⟨8, R.CLK_MEDIA_CTRL, v⟩ 0x1F3)
    (hsrc : bitsOf v 5 5 = w.f F.CLK_MEDIA_CTRL_SRC) (hnative : ¬(w.f F.CLK_MEDIA_CTRL_SRC = 1 ∧ w.f F.CLK_MEDIA_CTRL_FAMILY = 1))
    (hissued : rateIssued (w.f F.CLK_MEDIA_CTRL_FAMILY) (w.f F.CLK_MEDIA_CTRL_MULT) (w.f F.CLK_MEDIA_CTRL_LL) = true) :
    c.mediaCtrlWrite 8 v = w.setDref (bitsOf v 1 0) := by
  unfold Core.mediaCtrlWrite
  rw [busWrite_served hserves, ← hw]
  simp only [show ¬8 ≤ 3 by decide, if_false]
  rw [hsrc, if_neg (by rw [hissued]; simpa using hnative)]
  refine if_pos (.inl ⟨?_, ?_, ?_, ?_⟩)
  · exact (w.f_setDref _ (by decide) (by decide)).symm
  · exact (w.f_setDref _ (by decide) (by decide)).symm
  · exact (w.f_setDref _ (by decide) (by decide)).symm
  · exact (w.f_setDref _ (by decide) (by decide)).symm

/-- Firmware writes a rate that is new. -/
theorem mediaCtrlWrite_rate {m : Nat} (hserves : c.serves m R.CLK_MEDIA_CTRL = true) (hw : w = c.written ⟨m, R.CLK_MEDIA_CTRL, v⟩ 0x1F3)
    (hm : m ≤ 3) (hnative : ¬(bitsOf v 5 5 = 1 ∧ bitsOf v 4 4 = 1)) (hissued : rateIssued (bitsOf v 4 4) (bitsOf v 7 6) (bitsOf v 8 8) = true)
    (hdref : bitsOf v 1 0 = w.f F.CLK_MEDIA_CTRL_DREF) (hnew : ¬(bitsOf v 4 4 = w.f F.CLK_MEDIA_CTRL_FAMILY ∧ bitsOf v 7 6 = w.f F.CLK_MEDIA_CTRL_MULT ∧
      bitsOf v 8 8 = w.f F.CLK_MEDIA_CTRL_LL ∧ bitsOf v 5 5 = w.f F.CLK_MEDIA_CTRL_SRC)) (hsw : w.clk.sw = none) (hon : w.clk.mediaOn = true) :
    c.mediaCtrlWrite m v = w.switchSet
      { family := bitsOf v 4 4, mult := bitsOf v 7 6, ll := bitsOf v 8 8, src := bitsOf v 5 5, b := w.anchorB, tok := none } := by
  have hsame : w.setDref (bitsOf v 1 0) = w := if_pos hdref
  unfold Core.mediaCtrlWrite
  rw [busWrite_served hserves, ← hw]
  simp only [hm, if_true]
  rw [if_neg (by rw [hissued]; simpa using hnative), hsame,
    if_neg (by rw [hsw]; simpa using hnew), Core.requestRate_schedules hon]

end MediaCtrl

theorem Core.mult_switchSet (c : Core) {x : MediaSwitch} (hmult : x.mult < 4) : (c.switchSet x).f F.CLK_MEDIA_CTRL_MULT = x.mult := by
  have hrate : (c.putRate x.family x.mult x.ll x.src).f F.CLK_MEDIA_CTRL_MULT = x.mult := by
    unfold Core.putRate
    refine (Core.f_setF_beside _ x.src (show 5 ≤ 5 by decide) (by decide) (show 6 ≤ 7 by decide) (by decide)).trans ?_
    refine (Core.f_setF_beside _ x.ll (show 8 ≤ 8 by decide) (by decide) (show 6 ≤ 7 by decide) (by decide)).trans ?_
    exact (Core.f_setF_same _ F.CLK_MEDIA_CTRL_MULT x.mult (by decide) (by decide)).trans (Nat.mod_eq_of_lt hmult)
  unfold Core.switchSet
  generalize c.putRate x.family x.mult x.ll x.src = d at hrate ⊢
  exact (Core.f_congr (d.get_setF_ne 1 (show R.CLK_MEDIA_CTRL ≠ R.CLK_MEDIA_STATUS by decide))).trans hrate

theorem Core.switchSet_parts (c : Core) (x : MediaSwitch) : (c.switchSet x).atl = c.atl ∧ (c.switchSet x).clk.sw = some x ∧
    (c.switchSet x).flag F.CLK_MEDIA_STATUS_SWITCH_PENDING = true := by
  have hrate : (c.putRate x.family x.mult x.ll x.src).atl = c.atl := rfl
  unfold Core.switchSet
  generalize c.putRate x.family x.mult x.ll x.src = d at hrate ⊢
  exact ⟨hrate, rfl, d.flag_setF_bit _ _ 1 (by decide)⟩

/-! ### CLK_SWITCH (R86) -/

theorem clkSwitchGo_acts {c w : Core} {m : Nat} {v : Word} (hserves : c.serves m R.CLK_SWITCH = true) (hw : w = c.written ⟨m, R.CLK_SWITCH, v⟩ 0x80000000)
    (hgo : bitOf v 31 = true) : clkSwitchGo m v c = if w.f F.CLK_SWITCH_DOMAIN = 2 ∧ w.f F.CLK_SWITCH_SRC ≤ 1 then
      w.setClk { w.clk with ctrlSrc := w.f F.CLK_SWITCH_SRC } else w.setF F.CLK_SWITCH_REFUSED 1 := by
  unfold clkSwitchGo
  rw [busWrite_served hserves, ← hw, if_neg (by rw [hgo]; decide)]
  by_cases h : w.f F.CLK_SWITCH_DOMAIN = 2 ∧ w.f F.CLK_SWITCH_SRC ≤ 1
  · rw [if_neg (by omega), if_pos h]
    rfl
  · rw [if_pos (by omega), if_neg h]

end Sys2Proof.Machine
end

section
/-! Clock resets, the reset of a port and of the host interface, and the switch of MEDIA (R85, R88), and O11. -/

namespace Sys2Proof.Machine
open Sys2Proof

/-! ### Resets as RESET_N makes them (R64, R85, R125) -/

/-- Everything but the registers. -/
def Core.unmapped (c : Core) : Core := { c with regs := [] }

theorem Core.setF_unmapped (c : Core) (x : Field) (v : Nat) : (c.setF x v).unmapped = c.unmapped := rfl

section ResetN
variable (c : Core) (cause : Nat)

/-- Flags that outlive a reset are set again, and GRAIN is as it was configured. -/
def Core.resetShown (old : Core) : Core :=
  let d := c.setF F.CLK_MEDIA_STATUS_TCXO_FAIL (old.f F.CLK_MEDIA_STATUS_TCXO_FAIL)
  let d := d.setF F.CLK_MEDIA_STATUS_PLL_FAULT (old.f F.CLK_MEDIA_STATUS_PLL_FAULT)
  let d := d.setF F.SYS_STATUS_VIN_WARN (old.f F.SYS_STATUS_VIN_WARN)
  let d := d.setF F.SYS_STATUS_THERM_WARN (old.f F.SYS_STATUS_THERM_WARN)
  (d.setF F.MEMC_MAP_GRAIN old.cfg.grain).setF F.MEMC_MAP_GRAIN_NEXT old.cfg.grain

/-- The cause of a reset is recorded. -/
def Core.causedBy : Core := (c.put R.SYS_RESET_CAUSE (.ofNat 32 cause)).setPower { c.power with cause := cause }

theorem Core.resetN_eq : c.resetN cause = (c.resetPd.resetShown c).causedBy cause := rfl

theorem Core.resetShown_unmapped (old : Core) : (c.resetShown old).unmapped = c.unmapped := by
  unfold Core.resetShown
  dsimp only
  rw [Core.setF_unmapped, Core.setF_unmapped, Core.setF_unmapped, Core.setF_unmapped, Core.setF_unmapped, Core.setF_unmapped]

theorem Core.resetN_unmapped : (c.resetN cause).unmapped = { c.resetPd.unmapped with power := { c.resetPd.power with cause := cause } } := by
  have hshown := c.resetPd.resetShown_unmapped c
  rw [Core.resetN_eq]
  generalize c.resetPd.resetShown c = d at hshown ⊢
  exact (congrArg (fun x : Core => { x with power := { x.power with cause := cause } }) hshown :)

theorem Core.f_lt_of_bit {o k : Nat} : c.f ⟨o, k, k⟩ < 2 := by
  have h := bitsOf_lt (c.get o) k k
  rwa [Nat.sub_self, zero_add, pow_one] at h

theorem Core.get_causedBy {off : Nat} (h : off ≠ R.SYS_RESET_CAUSE) : (c.causedBy cause).get off = c.get off := c.get_put_ne _ h

theorem Core.cause_resetN : (c.resetN cause).get R.SYS_RESET_CAUSE = .ofNat 32 cause := by
  rw [Core.resetN_eq]
  exact Core.get_put_same _ _ _

theorem Core.flag_setF_of_f (d : Core) {o k : Nat} (hk : k < 32) : (d.setF ⟨o, k, k⟩ (c.f ⟨o, k, k⟩)).flag ⟨o, k, k⟩ = c.flag ⟨o, k, k⟩ := by
  have hlt := c.f_lt_of_bit (o := o) (k := k)
  rw [d.flag_setF_bit o k _ hk]
  unfold Core.flag
  rw [Nat.mod_eq_of_lt hlt]

theorem Core.flag_resetShown_tcxoFail (old : Core) : (c.resetShown old).flag F.CLK_MEDIA_STATUS_TCXO_FAIL = old.flag F.CLK_MEDIA_STATUS_TCXO_FAIL := by
  unfold Core.resetShown
  dsimp only
  rw [Core.flag_congr (Core.get_setF_ne _ _ (by decide)), Core.flag_congr (Core.get_setF_ne _ _ (by decide)),
    Core.flag_congr (Core.get_setF_ne _ _ (by decide)), Core.flag_congr (Core.get_setF_ne _ _ (by decide))]
  exact (Core.flag_setF_beside _ _ (by decide) (by decide) (by decide)).trans (old.flag_setF_of_f c (by decide))

theorem Core.flag_resetShown_pllFault (old : Core) : (c.resetShown old).flag F.CLK_MEDIA_STATUS_PLL_FAULT = old.flag F.CLK_MEDIA_STATUS_PLL_FAULT := by
  unfold Core.resetShown
  dsimp only
  rw [Core.flag_congr (Core.get_setF_ne _ _ (by decide)), Core.flag_congr (Core.get_setF_ne _ _ (by decide)),
    Core.flag_congr (Core.get_setF_ne _ _ (by decide)), Core.flag_congr (Core.get_setF_ne _ _ (by decide))]
  exact old.flag_setF_of_f _ (by decide)

theorem Core.faults_resetN : (c.resetN cause).flag F.CLK_MEDIA_STATUS_TCXO_FAIL = c.flag F.CLK_MEDIA_STATUS_TCXO_FAIL ∧
    (c.resetN cause).flag F.CLK_MEDIA_STATUS_PLL_FAULT = c.flag F.CLK_MEDIA_STATUS_PLL_FAULT := by
  rw [Core.resetN_eq]
  exact ⟨(Core.flag_congr (Core.get_causedBy _ _ (by decide))).trans (Core.flag_resetShown_tcxoFail _ _),
    (Core.flag_congr (Core.get_causedBy _ _ (by decide))).trans (Core.flag_resetShown_pllFault _ _)⟩

theorem Core.resetN_parts : (c.resetN cause).power.step = 3 ∧ (c.resetN cause).host.sessions = [] ∧ (c.resetN cause).clk.gate = .zero ∧
    (c.resetN cause).atl.trace = [] := by
  have h := c.resetN_unmapped cause
  exact ⟨(congrArg (fun x : Core => x.power.step) h :), (congrArg (fun x : Core => x.host.sessions) h :), (congrArg (fun x : Core => x.clk.gate) h :),
    (congrArg (fun x : Core => x.atl.trace) h :)⟩

theorem Core.shutdownRecord_regs : c.shutdownRecord.regs = c.regs := by
  unfold Core.shutdownRecord Core.writeRecord
  split <;> rfl

theorem Core.flag_shutdown (x : Field) : c.cutAudio.shutdownRecord.flag x = c.flag x :=
  Core.flag_congr (get_of_regs (Core.shutdownRecord_regs _) _)

end ResetN

section CompletesReset
variable {i : Instr} {s : State} {P : State → Prop}

/-- A reset that leaves no trace record completes; one that goes back in the steps of start-up loses the studio SRAM. -/
theorem completes_reset {f : Core → Core} {d : Core} (e : exec i s = runReset f s) (hd : f s.core = d) (htrace : d.atl.trace = [])
    (hstep : d.power.step < s.core.power.step) (hp : P { s with core := d, mem := { s.mem with sram := [] } }) : Completes i s P := by
  subst hd
  refine completes_of_runMem (f := fun m c => (f c, if sramLost c (f c) then { m with sram := [] } else m)) e htrace ?_
  have hlost : sramLost s.core (f s.core) = true := by
    unfold sramLost
    rw [decide_eq_true hstep, Bool.or_true]
  dsimp only
  rw [if_pos hlost]
  exact hp

end CompletesReset

/-! ### A port loses its clock (R85) -/

section Port
variable {α : Type} {g : Core → α}

/-- PTP starts anew on a port. -/
theorem Unled.ptpRestart (h : Unled g) (hport : ∀ (c : Core) (p : Nat) (x : PtpPort), g (c.setPtpPort p x) = g c) (c : Core) (p : Nat) :
    g (c.ptpRestart p) = g c := by
  have hone : g (c.setPtpPort p {}).oneLeader = g c := (foldl_keeps g _ (fun e q => keeps_ite g rfl (hport e q _)) _ _).trans (hport c p _)
  have hled : ∀ (d : Core) (was : Option (Nat × Option Leader)), g d = g c →
      g (if was.map (·.1) = some p then d.chooseActive was else d.showTime) = g c := fun d was hd =>
    keeps_ite g ((h.chooseActive d was).trans hd) ((h.showTime d).trans hd)
  unfold Core.ptpRestart
  exact keeps_ite g ((h.ptpLoss _).trans (hled _ _ hone)) (hled _ _ hone)

theorem unled_net : Unled Core.net where
  set _ _ _ _ := rfl
  leader _ _ _ _ := rfl
  count c r _ := (congrArg Core.net (Core.countN_rest c r 1) :)
  raise c x _ := (congrArg Core.net (c.raise_rest x) :)
  time _ _ _ _ _ := rfl
  clk _ _ := rfl

end Port

/-- A reading of which a port's link, as it goes down, changes nothing but NET_STATUS of the port. -/
structure Unlinked {α : Type} (p : Nat) (g : Core → α) : Prop where
  put : ∀ (c : Core) (off : Nat) (w : Word), off ≠ R.NET_STATUS p → g (c.put off w) = g c
  count : ∀ (c : Core) (r : Nat), r ≠ R.NET_STATUS p → g (c.count r) = g c
  raise : ∀ (c : Core) (x : Field), x.off ≠ R.NET_STATUS p → g (c.raise x) = g c
  net : ∀ (c : Core) (x : NetPart), g { c with net := x } = g c

theorem unlinked_bystanders (p : Nat) : Unlinked p Core.bystanders where
  put c off w _ := c.put_bystanders off w
  count c _ _ := bystanders_of (Core.countS_sessions c _ _ _) (Core.count_atl _ _)
  raise c x _ := c.raise_bystanders x
  net _ _ := rfl

theorem unlinked_status (p : Nat) : Unlinked p (Core.get · (R.NET_STATUS p)) where
  put c _ w h := c.get_put_ne w h.symm
  count c r h := c.get_count_ne h.symm (by unfold R.NET_STATUS; omega)
  raise c x h := c.get_raise_ne h.symm
  net _ _ := rfl

namespace Unlinked
variable {α : Type} {g : Core → α} {p : Nat} (h : Unlinked p g) (hp : p < 4)
include h hp

theorem setMedia (c : Core) {x : Field} (v : Nat) (hx : 0x1000000 ≤ x.off) : g (c.setF x v) = g c := by
  have hne : x.off ≠ R.NET_STATUS p := by
    unfold R.NET_STATUS
    omega
  exact h.put c _ _ hne

theorem legLost (c : Core) (s leg : Nat) : g (c.legLost s leg) = g c := by
  have hloss : ∀ (d : Core) (y : RxStream) (x : Field), 0x1000000 ≤ x.off →
      g ((((d.setRxStream s y).setF x 0).count (R.MEDIA_RX_LEG_LOSS s)).raise F.MEDIA_INT_STATUS_LEG_LOSS) = g d := fun d y x hx =>
    (h.raise _ _ (by simp only [R.NET_STATUS, F.MEDIA_INT_STATUS_LEG_LOSS, R.MEDIA_INT_STATUS]; omega)).trans <|
      (h.count _ _ (by unfold R.NET_STATUS R.MEDIA_RX_LEG_LOSS; omega)).trans ((h.setMedia hp _ _ hx).trans (h.net d _))
  unfold Core.legLost
  exact keeps_ite g rfl (hloss c _ _ (by split <;> simp only [F.MEDIA_RX_STATE_LEG_A_UP, F.MEDIA_RX_STATE_LEG_B_UP, R.MEDIA_RX_STATE] <;> omega))

theorem portDown (c : Core) (hup : c.flag (F.NET_STATUS_LINK_UP p) = true) :
    g (c.portDown p) = g ((c.setF (F.NET_STATUS_LINK_UP p) 0).setF (F.NET_STATUS_BLOCK_LOCK p) 0) := by
  have hdrop : ∀ (d : Core) (f : TxFrame), g (match f.stream with
      | some s => (d.count (R.MEDIA_TX_DROP s.1)).raise F.MEDIA_INT_STATUS_TX_DROP
      | none => d) = g d := fun d f => by
    split
    · exact (h.raise _ _ (by simp only [R.NET_STATUS, F.MEDIA_INT_STATUS_TX_DROP, R.MEDIA_INT_STATUS]; omega)).trans
        (h.count _ _ (by unfold R.NET_STATUS R.MEDIA_TX_DROP; omega))
    · rfl
  have hdown : ∀ d : Core, g ((d.count (R.NET_LINK_DOWN p)).raise (F.NET_INT_STATUS_LINK_DOWN p)) = g d := fun d =>
    (h.raise _ _ (by simp only [R.NET_STATUS, F.NET_INT_STATUS_LINK_DOWN, R.NET_INT_STATUS]; omega)).trans
      (h.count _ _ (by unfold R.NET_STATUS R.NET_LINK_DOWN; omega))
  unfold Core.portDown
  rw [if_neg (by rw [hup]; decide)]
  dsimp only
  refine keeps_ite g ((foldl_keeps g _ (fun d (y : Nat × RxStream) => h.legLost hp d y.1 p) _ _).trans ?_) ?_ <;>
    exact (h.net _ _).trans ((foldl_keeps g _ hdrop _ _).trans (hdown _))

omit hp in
theorem setFill (c : Core) (n : Nat) : g (c.setFill p n) = g c :=
  (h.put _ _ _ (by simp only [F.NET_BUFFER_FILL_PEAK, R.NET_BUFFER_FILL, R.NET_STATUS]; omega)).trans <|
    (h.put _ _ _ (by simp only [F.NET_BUFFER_FILL_FILL, R.NET_BUFFER_FILL, R.NET_STATUS]; omega)).trans (h.net c _)

omit hp in
theorem txShowAll (c : Core) : g c.txShowAll = g c := by
  have hput : ∀ (d : Core) (s : Nat) (w : Word), g (d.put (R.MEDIA_TX_STATE s) w) = g d := fun d s w =>
    h.put d _ w (by unfold R.NET_STATUS R.MEDIA_TX_STATE; omega)
  refine foldl_keeps g _ (fun d (x : Nat × TxStream) => ?_) _ c
  exact keeps_ite g (hput d _ _) ((hput _ _ _).trans ((hput _ _ _).trans (hput d _ _)))

end Unlinked

section NetReset
variable (c : Core) {p : Nat} (hp : p < 4)

/-- The queues of a port are empty. -/
def Core.portEmptied (c : Core) (p : Nat) : Core := c.setNetPort p { c.netPort p with txq := [], arp := [] }

theorem Core.portEmptied_bystanders (p : Nat) : (c.portEmptied p).bystanders = c.bystanders := rfl

theorem Core.get_portEmptied (p off : Nat) : (c.portEmptied p).get off = c.get off := get_of_regs rfl off

theorem Core.portDown_idle {p : Nat} (hdown : c.flag (F.NET_STATUS_LINK_UP p) = false) : c.portDown p = c := by
  unfold Core.portDown
  rw [if_pos (by rw [hdown]; rfl)]

/-- The port no longer pauses and is not paused. -/
def Core.unpaused (c : Core) (p : Nat) : Core := (c.setF (F.NET_STATUS_PAUSED p) 0).setF (F.NET_STATUS_PAUSING p) 0

theorem Core.netReset_eq (p : Nat) : c.netReset p = ((((c.portDown p).setFill p 0).portEmptied p).unpaused p).txShowAll := rfl

theorem Core.linkUp_unpaused (p : Nat) : (c.unpaused p).flag (F.NET_STATUS_LINK_UP p) = c.flag (F.NET_STATUS_LINK_UP p) :=
  (Core.flag_setF_beside _ 0 (show 8 ≤ 8 by decide) (by decide) (show 8 < 0 ∨ 0 < 8 by decide)).trans
    (c.flag_setF_beside 0 (show 9 ≤ 9 by decide) (by decide) (show 9 < 0 ∨ 0 < 9 by decide))

theorem Core.linkUp_cleared (p : Nat) :
    ((c.setF (F.NET_STATUS_LINK_UP p) 0).setF (F.NET_STATUS_BLOCK_LOCK p) 0).flag (F.NET_STATUS_LINK_UP p) = false :=
  (Core.flag_setF_beside _ 0 (show 1 ≤ 1 by decide) (by decide) (show 1 < 0 ∨ 0 < 1 by decide)).trans (c.flag_setF_bit _ _ 0 (by decide))

include hp

theorem Core.linkDown_portDown : (c.portDown p).flag (F.NET_STATUS_LINK_UP p) = false := by
  by_cases hup : c.flag (F.NET_STATUS_LINK_UP p) = true
  · have hget := (unlinked_status p).portDown hp c hup
    have hclear := c.linkUp_cleared p
    generalize (c.setF (F.NET_STATUS_LINK_UP p) 0).setF (F.NET_STATUS_BLOCK_LOCK p) 0 = e at hget hclear
    exact (Core.flag_congr hget).trans hclear
  · rw [c.portDown_idle (Bool.eq_false_iff.mpr hup)]
    exact Bool.eq_false_iff.mpr hup

theorem Core.linkDown_netReset : (c.netReset p).flag (F.NET_STATUS_LINK_UP p) = false := by
  have hdown := c.linkDown_portDown hp
  rw [Core.netReset_eq]
  generalize c.portDown p = d at hdown ⊢
  have hfill := (unlinked_status p).setFill d 0
  generalize d.setFill p 0 = d' at hfill ⊢
  have hfill : (d'.portEmptied p).flag (F.NET_STATUS_LINK_UP p) = false :=
    (Core.flag_congr (x := F.NET_STATUS_LINK_UP p) ((d'.get_portEmptied p _).trans hfill)).trans hdown
  generalize d'.portEmptied p = e at hfill ⊢
  have hpause := (e.linkUp_unpaused p).trans hfill
  generalize e.unpaused p = f at hpause ⊢
  exact (Core.flag_congr ((unlinked_status p).txShowAll f)).trans hpause

theorem Core.netReset_bystanders : (c.netReset p).bystanders = c.bystanders := by
  have hdown : (c.portDown p).bystanders = c.bystanders := by
    by_cases hup : c.flag (F.NET_STATUS_LINK_UP p) = true
    · exact (unlinked_bystanders p).portDown hp c hup
    · rw [c.portDown_idle (Bool.eq_false_iff.mpr hup)]
  rw [Core.netReset_eq]
  generalize c.portDown p = d at hdown ⊢
  have hfill := ((unlinked_bystanders p).setFill d 0).trans hdown
  generalize d.setFill p 0 = d' at hfill ⊢
  have hfill : (d'.portEmptied p).bystanders = c.bystanders := (d'.portEmptied_bystanders p).trans hfill
  generalize d'.portEmptied p = e at hfill ⊢
  have hpause : (e.unpaused p).bystanders = c.bystanders := (Core.setF_bystanders _ _ _).trans ((Core.setF_bystanders _ _ _).trans hfill)
  generalize e.unpaused p = f at hpause ⊢
  exact ((unlinked_bystanders p).txShowAll f).trans hpause

omit hp in
theorem Core.txShowAll_net : c.txShowAll.net = c.net := by
  refine foldl_keeps Core.net _ (fun d (x : Nat × TxStream) => ?_) _ c
  exact Core.txShow_keeps (fun _ _ _ => rfl) d x.1

omit hp in
theorem Core.emptied_netReset : ((c.netReset p).netPort p).txq = [] := by
  rw [Core.netReset_eq, Core.netPort_of_net (Core.txShowAll_net _)]
  generalize (c.portDown p).setFill p 0 = d
  have hemptied : ((d.portEmptied p).netPort p).txq = [] := congrArg NetPort.txq (d.netPort_setNetPort_same p _)
  have hnet : ((d.portEmptied p).unpaused p).net = (d.portEmptied p).net := rfl
  rw [Core.netPort_of_net hnet, hemptied]

end NetReset

theorem serdesPllLoss_resets {c : Core} {p : Nat} (hp : p < 4) : serdesPllLoss p c = ((c.netReset p).ptpRestart p).raise F.CLK_INT_STATUS_PLLS_FAULT :=
  if_neg (by omega)

section PtpRestart
variable (c : Core) (p : Nat)

theorem Core.ptpRestart_net : (c.ptpRestart p).net = c.net := unled_net.ptpRestart (fun _ _ _ => rfl) c p

theorem Core.ptpRestart_bystanders : (c.ptpRestart p).bystanders = c.bystanders := unled_bystanders.ptpRestart (fun _ _ _ => rfl) c p

theorem Core.get_ptpRestart {off : Nat} (h : 0x200100 ≤ off) (hint : off % 0x100000 ≠ 4) : (c.ptpRestart p).get off = c.get off :=
  (unled_get (by omega) (by unfold R.TIME_LEADER_ID_LO R.TIME_LEADER_ID_HI; omega) (by unfold R.TIME_LEADER_CHANGE_COUNT R.TIME_PTP_LOSS_COUNT; omega)
    hint).ptpRestart (fun _ _ _ => rfl) c p

end PtpRestart

/-! ### The host interface loses its clock (R85) -/

section HostReset
variable (c : Core)

theorem Core.mem_closeSession {num : Nat} {x : Session} (h : x ∈ (c.closeSession num).host.sessions) : x ∈ c.host.sessions ∧ x.num ≠ num := by
  have hset : ∀ (d : Core), d.host.sessions = c.host.sessions → x ∈ d.host.sessions.filter (·.num ≠ num) → x ∈ c.host.sessions ∧ x.num ≠ num :=
    fun d hd hx => ⟨hd ▸ (List.mem_filter.mp hx).1, of_decide_eq_true (List.mem_filter.mp hx).2⟩
  refine hset (if c.isExpert num then c.setExpert 0 false else c) ?_ h
  exact keeps_ite (fun d : Core => d.host.sessions) (congrArg Prod.fst (c.setExpert_bystanders 0 false)) rfl

/-- No session that a test picks out is left once they are closed. -/
theorem Core.closeSessions_closes (q : Transport → Bool) : (c.closeSessions q).host.sessions.all (fun x => !q x.transport) = true := by
  have hfold : ∀ (l : List Session) (d : Core) (x : Session), x ∈ (l.foldl (fun e s => e.closeSession s.num) d).host.sessions →
      x ∈ d.host.sessions ∧ ∀ s ∈ l, x.num ≠ s.num := fun l => by
    induction l with
    | nil => exact fun _ _ h => ⟨h, fun _ hs => absurd hs List.not_mem_nil⟩
    | cons s l ih =>
      intro d x h
      obtain ⟨hmem, hne⟩ := ih _ x h
      obtain ⟨hin, hnum⟩ := d.mem_closeSession hmem
      exact ⟨hin, fun y hy => (List.mem_cons.mp hy).elim (fun e => e ▸ hnum) (hne y)⟩
  refine List.all_eq_true.mpr fun x hx => ?_
  obtain ⟨hin, hne⟩ := hfold _ c x hx
  by_contra hq
  exact hne x (List.mem_filter.mpr ⟨hin, by simpa using hq⟩) rfl

/-- The host interface is reset but for its registers. -/
def Core.hostCleared (c : Core) : Core :=
  let c := c.closeSessions isPcie
  let c := { c with host := { c.host with held := [], ring := [], unread := [] } }
  ((List.range 16).foldl Core.clearF2H c).releaseHolds (· = 8)

/-- The rings are off and the link is shown as down. -/
def Core.hostOff (c : Core) : Core :=
  ((((c.setF F.HOST_CMD_SIZE_EN 0).setF F.HOST_RPL_SIZE_EN 0).setF F.HOST_STATUS_LINK_UP 0).setF F.HOST_STATUS_SPEED 0).setF F.HOST_STATUS_WIDTH 0

theorem Core.hostReset_eq : c.hostReset = c.hostCleared.hostOff := rfl

theorem Core.clearF2H_bystanders (n : Nat) : (c.clearF2H n).bystanders = c.bystanders := by
  unfold Core.clearF2H
  split <;> rfl

theorem Core.closeSessions_atl (q : Transport → Bool) : (c.closeSessions q).atl = c.atl :=
  foldl_keeps Core.atl _ (fun d (s : Session) => d.closeSession_atl s.num) _ c

theorem Core.hostCleared_parts : c.hostCleared.atl = c.atl ∧ c.hostCleared.host.sessions.all (fun x => !isPcie x.transport) = true := by
  have hfold : ∀ d : Core, (((List.range 16).foldl Core.clearF2H d).releaseHolds (· = 8)).bystanders = d.bystanders := fun d =>
    (Core.releaseHolds_bystanders _ _).trans (foldl_keeps Core.bystanders _ (fun e n => e.clearF2H_bystanders n) _ d)
  have hatl := c.closeSessions_atl isPcie
  have hall := c.closeSessions_closes isPcie
  unfold Core.hostCleared
  generalize c.closeSessions isPcie = d at hatl hall ⊢
  have hd := hfold { d with host := { d.host with held := [], ring := [], unread := [] } }
  dsimp only
  generalize ((List.range 16).foldl Core.clearF2H _).releaseHolds (· = 8) = e at hd ⊢
  have hsessions : e.host.sessions = d.host.sessions := (congrArg Prod.fst hd :)
  rw [hsessions]
  exact ⟨(congrArg Prod.snd hd :).trans hatl, hall⟩

theorem Core.hostOff_parts : c.hostOff.atl = c.atl ∧ c.hostOff.host = c.host ∧ c.hostOff.flag F.HOST_STATUS_LINK_UP = false ∧
    c.hostOff.flag F.HOST_RPL_SIZE_EN = false := by
  unfold Core.hostOff
  have hkept : ((((((c.setF F.HOST_CMD_SIZE_EN 0).setF F.HOST_RPL_SIZE_EN 0).setF F.HOST_STATUS_LINK_UP 0).setF F.HOST_STATUS_SPEED 0).setF
      F.HOST_STATUS_WIDTH 0).hostAtl = c.hostAtl) := by
    rw [Core.setF_hostAtl, Core.setF_hostAtl, Core.setF_hostAtl, Core.setF_hostAtl, Core.setF_hostAtl]
  refine ⟨congrArg Prod.snd hkept, congrArg Prod.fst hkept, ?_, ?_⟩
  · refine (Core.flag_setF_beside _ 0 (show 4 ≤ 6 by decide) (by decide) (show 6 < 0 ∨ 0 < 4 by decide)).trans ?_
    refine (Core.flag_setF_beside _ 0 (show 1 ≤ 3 by decide) (by decide) (show 3 < 0 ∨ 0 < 1 by decide)).trans ?_
    exact Core.flag_setF_bit _ _ _ 0 (by decide)
  · refine (Core.flag_congr (Core.get_setF_ne _ _ (by decide))).trans ((Core.flag_congr (Core.get_setF_ne _ _ (by decide))).trans
      ((Core.flag_congr (Core.get_setF_ne _ _ (by decide))).trans ?_))
    exact Core.flag_setF_bit _ _ _ 0 (by decide)

theorem Core.hostReset_parts : c.hostReset.atl = c.atl ∧ c.hostReset.host.sessions.all (fun x => !isPcie x.transport) = true ∧
    c.hostReset.flag F.HOST_STATUS_LINK_UP = false ∧ c.hostReset.flag F.HOST_RPL_SIZE_EN = false := by
  obtain ⟨hatl, hall⟩ := c.hostCleared_parts
  obtain ⟨hatl', hhost, hlink, hring⟩ := c.hostCleared.hostOff_parts
  rw [Core.hostReset_eq]
  generalize c.hostCleared.hostOff = d at hatl' hhost hlink hring ⊢
  rw [hhost]
  exact ⟨hatl'.trans hatl, hall, hlink, hring⟩

end HostReset

/-! ### What ends with a session -/

section SessionsGone
variable {off : Nat} (hlow : off < 0x400000)
include hlow

theorem Core.get_put_high (c : Core) {r : Nat} (w : Word) (hr : 0x400000 ≤ r) : (c.put r w).get off = c.get off := c.get_put_ne w (by omega)

theorem Core.get_upShow (c : Core) : c.upShow.get off = c.get off := by
  have hput : ∀ (d : Core) {r : Nat} (w : Word), 0x400000 ≤ r → (d.put r w).get off = d.get off := fun d r w hr => d.get_put_high hlow w hr
  have hslot : ∀ (d : Core) (k : Nat), (((((d.setF (F.UPDATE_SLOT_STATE_STATE k) (d.upSlot k).state).setB (F.UPDATE_SLOT_STATE_SOURCE k)
      ((d.upSlot k).state ≠ 0 && (d.upSlot k).session.isNone)).put (R.UPDATE_SLOT_RECEIVED k) (.ofNat 32 (d.upSlot k).data.length)).put
      (R.UPDATE_SLOT_LENGTH k) (.ofNat 32 (d.upSlot k).length)).put (R.UPDATE_SLOT_PREFIX_LO k)
      (.ofNat 32 (digestWord (d.upSlot k).digest 0)) |>.put (R.UPDATE_SLOT_PREFIX_HI k) (.ofNat 32 (digestWord (d.upSlot k).digest 1))).get off =
      d.get off := fun d k => by
    rw [hput _ _ (by unfold R.UPDATE_SLOT_PREFIX_HI; omega), hput _ _ (by unfold R.UPDATE_SLOT_PREFIX_LO; omega),
      hput _ _ (by unfold R.UPDATE_SLOT_LENGTH; omega), hput _ _ (by unfold R.UPDATE_SLOT_RECEIVED; omega)]
    refine (hput _ _ ?_).trans (hput _ _ ?_) <;> simp only [F.UPDATE_SLOT_STATE_SOURCE, F.UPDATE_SLOT_STATE_STATE, R.UPDATE_SLOT_STATE] <;> omega
  unfold Core.upShow
  dsimp only
  refine (foldl_keeps (Core.get · off) _ hslot _ _).trans ?_
  refine (hput _ _ (by decide)).trans ((hput _ _ (by decide)).trans ((hput _ _ (by decide)).trans ((hput _ _ (by decide)).trans ?_)))
  refine (foldl_keeps (Core.get · off) (fun (c : Core) w => c.put (R.UPDATE_DIGEST w) _) (fun d w => hput d _ (by unfold R.UPDATE_DIGEST; omega)) _ _).trans ?_
  exact (hput _ _ (by decide)).trans ((hput _ _ (by decide)).trans (hput c _ (by decide)))

theorem Core.get_smudgeEnd (c : Core) : c.smudgeEnd.get off = c.get off := by
  have hput : ∀ (d : Core) {r : Nat} (w : Word), 0x400000 ≤ r → (d.put r w).get off = d.get off := fun d r w hr => d.get_put_high hlow w hr
  have hledger : ∀ d : Core, (d.ledger 11 0 0 0 0 true).get off = d.get off := fun d =>
    keeps_ite (Core.get · off) (d.get_countN_away 1 (by unfold window R.HEALTH_LEDGER_DROP; omega)) (hput _ _ (by decide))
  unfold Core.smudgeEnd
  refine keeps_ite (Core.get · off) rfl ((hledger _).trans ((Core.get_raise_ne _ (by simp only [F.SMUDGE_INT_STATUS_DISARMED, R.SMUDGE_INT_STATUS]; omega)).trans ?_))
  exact (hput _ _ (by decide)).trans ((hput _ _ (by decide)).trans ((hput _ _ (by decide)).trans (hput _ _ (by decide))))

variable (hprod : off ≠ R.HOST_RPL_PROD) (hdb : off ≠ R.HOST_DB_STATUS)
include hprod hdb

theorem Core.get_endSlot (c : Core) (k cause : Nat) (st : Status) (answer : Bool) : (c.endSlot k cause st answer).get off = c.get off := by
  have hunsaid : Unsaid (Core.get · off) := unsaid_get (by unfold window; omega) hprod hdb
  have hfree : (c.freeUpSlot k cause).get off = c.get off :=
    (Core.get_put_high hlow _ _ (by simp only [F.UPDATE_SLOT_STATE_CAUSE, R.UPDATE_SLOT_STATE]; omega)).trans (Core.get_upShow hlow _)
  have htold : ∀ l, ((c.freeUpSlot k cause).notice? (c.upSlot k).tok st l).get off = c.get off := fun l => by
    unfold Core.notice?
    split
    · exact (hunsaid.notice _ _ _ _).trans hfree
    · exact hfree
  unfold Core.endSlot
  dsimp only
  refine keeps_ite (Core.get · off) rfl (keeps_ite (Core.get · off) ?_ (htold _))
  exact keeps_ite (Core.get · off) ((hunsaid.frame _ _ rfl).trans (htold _)) ((hunsaid.frame _ _ rfl).trans (htold _))

theorem Core.get_sessionsGone (c : Core) : c.sessionsGone.get off = c.get off := by
  have hslots : ∀ gone l, ((c.setWrites l).slotsGone gone).get off = c.get off := fun gone l => by
    refine foldl_keeps (Core.get · off) _ (fun d k => ?_) _ (c.setWrites l)
    split
    · exact keeps_ite (Core.get · off) (d.get_endSlot hlow hprod hdb _ _ _ _) rfl
    · rfl
  unfold Core.sessionsGone
  exact keeps_ite (Core.get · off) ((Core.get_smudgeEnd hlow _).trans (hslots _ _)) (hslots _ _)

end SessionsGone

end Sys2Proof.Machine
end

section
/-! The switch of MEDIA at its anchor (R88, R89), and O11. -/

namespace Sys2Proof.Machine
open Sys2Proof

theorem power_of_backstage {c d : Core} (h : c.backstage = d.backstage) : c.power = d.power := congrArg Prod.fst h

theorem clk_of_backstage {c d : Core} (h : c.backstage = d.backstage) : c.clk = d.clk := congrArg (·.2.1) h

theorem time_of_backstage {c d : Core} (h : c.backstage = d.backstage) : c.time = d.time := congrArg (·.2.2) h

/-! ### What a new rate leaves off stage -/

namespace Offstage
variable {α : Type} {g : Core → α} (h : Offstage g)
include h

theorem setTdm (c : Core) (p : Nat) (x : TdmPort) : g (c.setTdm p x) = g c := h.arm c _

theorem portStart (c : Core) (p : Nat) : g (c.portStart p) = g c := by
  have hstate : ∀ (d : Core) (hi lo v : Nat), g (d.setF ⟨R.PORTS_TDM_STATE p, hi, lo⟩ v) = g d := fun d hi lo v =>
    h.setF d v (by simp only [R.PORTS_TDM_STATE]; omega)
  have hctrl : ∀ (d : Core) (v : Nat), g (d.setF (F.PORTS_TDM_CTRL_EN p) v) = g d := fun d v =>
    h.setF d v (by simp only [F.PORTS_TDM_CTRL_EN, R.PORTS_TDM_CTRL]; omega)
  have hgood : g (c.setF (F.PORTS_TDM_STATE_GOOD p) 0) = g c := hstate c _ _ _
  unfold Core.portStart
  dsimp only
  refine keeps_ite g ?_ (keeps_ite g ?_ ?_)
  · refine (h.notice? _ _ _ _).trans ((h.portPaths _ _ _ _).trans ((h.raise _ _ (by decide)).trans ((h.portState _ _ _).trans ?_)))
    exact (hstate _ _ _ _).trans ((hctrl _ _).trans ((h.setTdm _ _ _).trans hgood))
  · exact (h.portPaths _ _ _ _).trans ((h.portState _ _ _).trans ((h.setTdm _ _ _).trans hgood))
  · exact (h.notice? _ _ _ _).trans ((h.portPaths _ _ _ _).trans ((h.portState _ _ _).trans ((h.setTdm _ _ _).trans hgood)))

theorem portsRate (c : Core) : g c.portsRate = g c := foldl_keeps g _ (fun d p => keeps_ite g (h.portStart d p) rfl) _ c

theorem dropStream (c : Core) (rx : Bool) (s : Nat) : g (c.dropStream rx s) = g c := by
  have hrx : ∀ (d : Core) (x : RxStream), g (d.setRxStream s x) = g d := fun d _ => h.net d _
  have htx : ∀ (d : Core) (x : TxStream), g (d.setTxStream s x) = g d := fun d _ => h.net d _
  unfold Core.dropStream
  refine keeps_ite g (keeps_ite g ?_ (hrx _ _)) (keeps_ite g ?_ (htx _ _))
  · exact (h.rxStart _ _ _).trans ((hrx _ _).trans (hrx c _))
  · exact (h.txStart _ _ _).trans ((htx _ _).trans (htx c _))

theorem placeFar (c : Core) (objs : List Nat) (start : Nat) : g (c.placeFar objs start) = g c :=
  (foldl_keeps g _ (fun d _ => h.ren d _) _ _).trans (h.ren c _)

theorem loadEntries (c : Core) : g c.loadEntries = g c := by
  unfold Core.loadEntries
  refine (h.setF _ _ (by decide)).trans ((h.setF _ _ (by decide)).trans ((h.setF _ _ (by decide)).trans ((h.setF _ _ (by decide)).trans ?_)))
  exact (h.placeFar _ _ _).trans (h.ren c _)

theorem poolBases (c : Core) : g c.poolBases = g c := by
  have hstate : ∀ (d : Core) (p hi lo v : Nat), g (d.setF ⟨R.PORTS_TDM_STATE p, hi, lo⟩ v) = g d := fun d p hi lo v =>
    h.setF d v (by simp only [R.PORTS_TDM_STATE]; omega)
  exact foldl_keeps (fun a : Core × Nat × Nat => g a.1) _ (fun _ _ => (hstate _ _ _ _ _).trans (hstate _ _ _ _ _)) _ (c, 0, 0)

theorem rateChanged (c : Core) : g c.rateChanged = g c := by
  unfold Core.rateChanged
  refine (h.poolBases _).trans (keeps_ite g ?_ ((h.setF _ _ (by decide)).trans ?_)) <;>
    exact (h.loadEntries _).trans ((h.scene _ _).trans ((foldl_keeps g _ (fun d s => h.dropStream d false s) _ _).trans
      ((foldl_keeps g _ (fun d s => h.dropStream d true s) _ _).trans (h.portsRate c))))

end Offstage

/-! ### The switch -/

/-- Whether a switch changes the rate that runs. -/
abbrev MediaSwitch.changes (x : MediaSwitch) (c : Core) : Prop := x.family ≠ c.clk.family ∨ x.mult ≠ c.clk.mult ∨ x.ll ≠ c.clk.ll

/-- The domain has its new setting. -/
def Core.rateTaken (c : Core) (x : MediaSwitch) (rate : Prop) [Decidable rate] : Core :=
  let c := if rate then c.cutAudio.mediaJump else c.cutAudio
  let c := c.liveRate x.family x.mult x.ll x.src
  if rate then c.rateChanged else c

theorem mediaSwitch_switches {c : Core} {x : MediaSwitch} (hsw : c.clk.sw = some x) (hnew : x.done = false) (hdue : x.b ≤ c.time.n)
    (hon : c.clk.mediaOn = true) : mediaSwitch c =
      ((c.rateTaken x (x.changes c)).setClk { (c.rateTaken x (x.changes c)).clk with
        sw := some { x with done := true, rate := decide (x.changes c) } }).setF F.CLK_MEDIA_STATUS_STATE 6 := by
  unfold mediaSwitch
  rw [hsw]
  dsimp only
  rw [if_neg (by rw [hnew, hon]; simp only [Bool.not_true, Bool.false_eq_true, false_or, or_false]; omega)]
  rfl

theorem Core.rateTaken_clk (c : Core) (x : MediaSwitch) (rate : Prop) [Decidable rate] : (c.rateTaken x rate).clk =
    { c.cutAudio.clk with family := x.family, mult := x.mult, ll := x.ll, src := x.src } := by
  have hkept := offstage_backstage.mediaJump c.cutAudio
  have hjump : (if rate then c.cutAudio.mediaJump else c.cutAudio).clk = c.cutAudio.clk := keeps_ite Core.clk (clk_of_backstage hkept) rfl
  unfold Core.rateTaken
  generalize (if rate then c.cutAudio.mediaJump else c.cutAudio) = d at hjump ⊢
  have hlive : (d.liveRate x.family x.mult x.ll x.src).clk = { c.cutAudio.clk with family := x.family, mult := x.mult, ll := x.ll, src := x.src } :=
    congrArg (fun y : Clk => { y with family := x.family, mult := x.mult, ll := x.ll, src := x.src }) hjump
  have hchanged := offstage_backstage.rateChanged (d.liveRate x.family x.mult x.ll x.src)
  exact keeps_ite Core.clk ((clk_of_backstage hchanged).trans hlive) hlive

/-! ### Completion -/

/-- Settles O11: trips, resets and the switch are read through what they leave alone, and the writes through the one branch that their
hypotheses leave. -/
theorem clockSupervisionCompletes : Obligations.ClockSupervisionCompletes := by
  unfold Obligations.ClockSupervisionCompletes
  refine ⟨?tcxo, ?loss, ?good, ?bad, ?qualify, ?lock, ?dref, ?tcxoTrip, ?pllLoss, ?serdes, ?hostClock, ?mediaTrip, ?aonTrip, ?source, ?rate, ?switch⟩
  case tcxo =>
    intro s confirmed hq hok hnew hfault
    have hdone := tcxoQualify_qualifies confirmed hok hnew hfault
    obtain ⟨hby, hqual, hint, hfollow, hunconfirmed⟩ := tcxoQualify_parts s.core (s.core.refQualified s.core.dref && !confirmed) _ rfl
    generalize Core.showState _ = d at hdone hby hqual hint hfollow hunconfirmed
    exact completes_of_eq rfl hq hdone (congrArg Prod.snd hby) ⟨hqual, hint, hfollow, hunconfirmed⟩
  case loss =>
    intro s hq hon hgood
    have hgood' : (s.core.setF F.CLK_MEDIA_STATUS_REF_PRESENT 0).clk.refGood = true := hgood
    have hpresent := (Core.flag_refInTrip hgood' (k := 10) (by decide) (by decide) (by decide)).trans (s.core.flag_setF_bit _ _ 0 (by decide))
    obtain ⟨hatl, hlost, hqual, htrip⟩ := Core.refInTrip_parts hgood'
    have hdone := refInLoss_trips hon
    have hsame : (s.core.setF F.CLK_MEDIA_STATUS_REF_PRESENT 0).atl = s.core.atl := rfl
    generalize (s.core.setF F.CLK_MEDIA_STATUS_REF_PRESENT 0).refInTrip = d at hdone hpresent hatl hlost hqual htrip
    exact completes_of_eq rfl hq hdone (hatl.trans hsame) ⟨hpresent, hqual, hlost, htrip⟩
  case good =>
    intro s off hq hon hin
    have hdone := refInMeasurement_good hon hin
    obtain ⟨hatl, hpresent, hoffset, hgood, hedges⟩ := s.core.goodMeasured_parts off _ rfl
    generalize Core.houseRoll _ = d at hdone hatl hpresent hoffset hgood hedges
    exact completes_of_eq rfl hq hdone hatl ⟨hpresent, hoffset, hgood, hedges⟩
  case bad =>
    intro s off hq hon hgood hout
    obtain ⟨hatl, hclk, -, hoffset⟩ := s.core.refMeasured_parts off
    have hgood' : (s.core.refMeasured off).clk.refGood = true := (congrArg Clk.refGood hclk).trans hgood
    have hdone := refInMeasurement_bad hon hout
    obtain ⟨hatl', hlost, hqual, htrip⟩ := Core.refInTrip_parts hgood'
    have hoffset' := (Core.offset_refInTrip hgood').trans hoffset
    generalize (s.core.refMeasured off).refInTrip = d at hdone hatl' hlost hqual htrip hoffset'
    exact completes_of_eq rfl hq hdone (hatl'.trans hatl) ⟨hoffset', hlost, hqual, htrip⟩
  case qualify =>
    intro s hq hon hgood hpresent hnew hedges
    have hdone := refQualify_qualifies hon hgood hpresent hnew hedges
    obtain ⟨hatl, hqual, hint⟩ := s.core.refGained_back 2
    generalize s.core.refGained.refBack 2 = d at hdone hatl hqual hint
    exact completes_of_eq rfl hq hdone hatl ⟨hqual, hint⟩
  case lock =>
    intro s hq hfollow hqual hservo hfault
    have hdone := dpllLockEvent_locks hfollow hqual hservo hfault
    have hstate := Core.state_lockTaken (c := s.core) hfollow hqual hfault
    have hclk := s.core.lockTaken.showState_clk
    have hby := s.core.lockTaken.showState_bystanders
    generalize s.core.lockTaken.showState = d at hdone hstate hclk hby
    exact completes_of_eq rfl hq hdone (congrArg Prod.snd hby) ⟨congrArg Clk.locked hclk, congrArg Clk.held hclk, hstate⟩
  case dref =>
    intro s v c hserves hq hsrc hnative hissued
    have hclk : c.clk = s.core.clk := (congrArg Core.clk (s.core.written_rest _ _) :)
    have hlt : bitsOf v 1 0 < 4 := bitsOf_lt v 1 0
    refine completes_of_eq rfl hq (mediaCtrlWrite_dref hserves rfl hsrc hnative hissued)
      ((congrArg Prod.snd (Core.setDref_bystanders _ _)).trans (Core.written_atl _ _ _)) ⟨c.dref_setDref hlt, ?_⟩
    exact (c.setDref_sw _).trans (congrArg Clk.sw hclk)
  case tcxoTrip =>
    intro s hq hvin hstep hdeep
    have hdone : tcxoMonitorTrip s.core = (s.core.setF F.CLK_MEDIA_STATUS_TCXO_FAIL 1).cutAudio.shutdownRecord.resetN causeClock := by
      unfold tcxoMonitorTrip
      rw [if_neg (by rw [hvin, hdeep]; simp only [Bool.not_true, Bool.false_eq_true, false_or, or_false]; omega)]
      rfl
    have hfail : (s.core.setF F.CLK_MEDIA_STATUS_TCXO_FAIL 1).cutAudio.shutdownRecord.flag F.CLK_MEDIA_STATUS_TCXO_FAIL = true :=
      (Core.flag_shutdown _ _).trans (s.core.flag_setF_bit _ _ 1 (by decide))
    generalize (s.core.setF F.CLK_MEDIA_STATUS_TCXO_FAIL 1).cutAudio.shutdownRecord = d at hdone hfail
    obtain ⟨hpower, hsessions, hgate, htrace⟩ := d.resetN_parts causeClock
    obtain ⟨hkept, -⟩ := d.faults_resetN causeClock
    have hcause := d.cause_resetN causeClock
    generalize d.resetN causeClock = e at hdone hpower hsessions hgate htrace hkept hcause
    exact completes_reset rfl hdone htrace (by omega) ⟨hkept.trans hfail, hpower, hcause, hsessions, hgate, rfl⟩
  case pllLoss =>
    intro s hq hvin hstep hdeep
    have hdone : corePllLoss s.core = (s.core.setF F.CLK_MEDIA_STATUS_PLL_FAULT 1).cutAudio.shutdownRecord.resetN causeClock := by
      unfold corePllLoss
      rw [if_neg (by rw [hvin, hdeep]; simp only [Bool.not_true, Bool.false_eq_true, false_or, or_false]; omega)]
      rfl
    have hfault : (s.core.setF F.CLK_MEDIA_STATUS_PLL_FAULT 1).cutAudio.shutdownRecord.flag F.CLK_MEDIA_STATUS_PLL_FAULT = true :=
      (Core.flag_shutdown _ _).trans (s.core.flag_setF_bit _ _ 1 (by decide))
    generalize (s.core.setF F.CLK_MEDIA_STATUS_PLL_FAULT 1).cutAudio.shutdownRecord = d at hdone hfault
    obtain ⟨hpower, -, hgate, htrace⟩ := d.resetN_parts causeClock
    obtain ⟨-, hkept⟩ := d.faults_resetN causeClock
    have hcause := d.cause_resetN causeClock
    generalize d.resetN causeClock = e at hdone hpower hgate htrace hkept hcause
    exact completes_reset rfl hdone htrace (by omega) ⟨hkept.trans hfault, hpower, hcause, hgate, rfl⟩
  case serdes =>
    intro s p hq hp
    have hoff : 0x200100 ≤ R.NET_STATUS p ∧ R.NET_STATUS p % 0x100000 ≠ 4 ∧ R.NET_STATUS p ≠ R.CLK_INT_STATUS := by
      unfold R.NET_STATUS R.CLK_INT_STATUS
      omega
    have hdone := serdesPllLoss_resets (c := s.core) hp
    have hlink := s.core.linkDown_netReset hp
    have hqueue := s.core.emptied_netReset (p := p)
    have hby := s.core.netReset_bystanders hp
    generalize s.core.netReset p = d at hdone hlink hqueue hby
    have hget := d.get_ptpRestart p hoff.1 hoff.2.1
    have hnet := d.ptpRestart_net p
    have hby' := d.ptpRestart_bystanders p
    generalize d.ptpRestart p = e at hdone hget hnet hby'
    refine completes_of_eq rfl hq hdone ((Core.raise_atl _ _).trans ((congrArg Prod.snd hby').trans (congrArg Prod.snd hby))) ⟨?_, ?_, ?_⟩
    · exact (Core.flag_congr (x := F.NET_STATUS_LINK_UP p) ((e.get_raise_ne hoff.2.2).trans hget)).trans hlink
    · exact (congrArg NetPort.txq (Core.netPort_of_net ((congrArg Core.net (e.raise_rest _) :).trans hnet) p)).trans hqueue
    · exact e.flag_raise_same _ _ (by decide)
  case hostClock =>
    intro s hq
    obtain ⟨hatl, hall, hlink, hring⟩ := s.core.hostReset_parts
    have hdone : hostClockLoss s.core = s.core.hostReset.sessionsGone.raise F.CLK_INT_STATUS_PLLS_FAULT := rfl
    generalize s.core.hostReset = d at hatl hall hlink hring hdone
    have hby := d.sessionsGone_bystanders
    have hstatus := d.get_sessionsGone (off := R.HOST_STATUS) (by decide) (by decide) (by decide)
    have hsize := d.get_sessionsGone (off := R.HOST_RPL_SIZE) (by decide) (by decide) (by decide)
    have hsessions : d.sessionsGone.host.sessions = d.host.sessions := (congrArg Prod.fst hby :)
    have hatl' : d.sessionsGone.atl = d.atl := (congrArg Prod.snd hby :)
    generalize d.sessionsGone = e at hdone hstatus hsize hsessions hatl'
    refine completes_of_eq rfl hq hdone ((Core.raise_atl _ _).trans (hatl'.trans hatl)) ⟨?_, ?_, ?_, e.flag_raise_same _ _ (by decide)⟩
    · exact (Core.flag_raise_off _ (by decide)).trans ((Core.flag_congr (x := F.HOST_STATUS_LINK_UP) hstatus).trans hlink)
    · exact (Core.flag_raise_off _ (by decide)).trans ((Core.flag_congr (x := F.HOST_RPL_SIZE_EN) hsize).trans hring)
    · change (e.raise F.CLK_INT_STATUS_PLLS_FAULT).host.sessions.all _ = true
      rw [Core.raise_sessions, hsessions]
      exact hall
  case mediaTrip =>
    intro s hq
    have hclk : (s.core.raise F.CLK_INT_STATUS_MEDIA_MON).clk = s.core.clk := s.core.raise_clk _
    have hraised : (s.core.raise F.CLK_INT_STATUS_MEDIA_MON).flag F.CLK_INT_STATUS_MEDIA_MON = true := s.core.flag_raise_same _ _ (by decide)
    have hsame : (s.core.raise F.CLK_INT_STATUS_MEDIA_MON).atl = s.core.atl := Core.raise_atl _ _
    have hdone : mediaMonitorTrip s.core = (s.core.raise F.CLK_INT_STATUS_MEDIA_MON).refTrip s.core.clk.follow := by
      unfold mediaMonitorTrip
      rfl
    generalize s.core.raise F.CLK_INT_STATUS_MEDIA_MON = d at hclk hraised hsame hdone
    refine completes_of_eq rfl hq hdone ((trips_atl _).refTrip hsame _) ⟨(trips_interrupt (by decide)).refTrip hraised _, fun hfollow => ?_⟩
    exact d.refTrip_unlocks hfollow (by rw [hclk])
  case aonTrip =>
    intro s hq
    refine completes_of_eq rfl hq rfl (Core.raise_atl _ _) ⟨?_, Core.flag_raise_same _ _ _ (by decide)⟩
    exact (Core.flag_raise_off _ (by decide)).trans (s.core.flag_setF_bit _ _ 1 (by decide))
  case source =>
    intro s m v c hserves hq hgo
    have hclk : c.clk = s.core.clk := (congrArg Core.clk (s.core.written_rest _ _) :)
    have hatl : c.atl = s.core.atl := Core.written_atl _ _ _
    have hdone := clkSwitchGo_acts hserves rfl hgo
    by_cases h : c.f F.CLK_SWITCH_DOMAIN = 2 ∧ c.f F.CLK_SWITCH_SRC ≤ 1
    · refine completes_of_eq rfl hq (hdone.trans (if_pos h)) hatl ⟨?_, fun hn => absurd h hn⟩
      exact (if_pos h).symm
    · refine completes_of_eq rfl hq (hdone.trans (if_neg h)) hatl ⟨?_, fun _ => Core.flag_setF_bit _ _ _ 1 (by decide)⟩
      exact (congrArg Clk.ctrlSrc hclk).trans (if_neg h).symm
  case rate =>
    intro s m v c hserves hq hm hnative hissued hdref hnew hsw hon
    have hclk : c.clk = s.core.clk := (congrArg Core.clk (s.core.written_rest _ _) :)
    have hdone := mediaCtrlWrite_rate hserves rfl hm hnative hissued hdref hnew ((congrArg Clk.sw hclk).trans hsw) ((congrArg Clk.mediaOn hclk).trans hon)
    obtain ⟨hatl, hset, hpending⟩ := c.switchSet_parts
      { family := bitsOf v 4 4, mult := bitsOf v 7 6, ll := bitsOf v 8 8, src := bitsOf v 5 5, b := c.anchorB, tok := none }
    have hmult := c.mult_switchSet (x := { family := bitsOf v 4 4, mult := bitsOf v 7 6, ll := bitsOf v 8 8, src := bitsOf v 5 5, b := c.anchorB, tok := none })
      (bitsOf_lt v 7 6)
    exact completes_of_eq rfl hq hdone (hatl.trans (Core.written_atl _ _ _)) ⟨hpending, hset, hmult⟩
  case switch =>
    intro s x hq hsw hnew hdue hon
    have hdone := mediaSwitch_switches hsw hnew hdue hon
    have hclk := s.core.rateTaken_clk x (x.changes s.core)
    generalize s.core.rateTaken x (x.changes s.core) = d at hdone hclk
    have hstate : ((d.setClk { d.clk with sw := some { x with done := true, rate := decide (x.changes s.core) } }).setF F.CLK_MEDIA_STATUS_STATE
        6).f F.CLK_MEDIA_STATUS_STATE = 6 := (Core.f_setF_same _ _ 6 (by decide) (by decide)).trans rfl
    have hset : ((d.setClk { d.clk with sw := some { x with done := true, rate := decide (x.changes s.core) } }).setF F.CLK_MEDIA_STATUS_STATE
        6).clk = { d.clk with sw := some { x with done := true, rate := decide (x.changes s.core) } } := rfl
    generalize (d.setClk _).setF F.CLK_MEDIA_STATUS_STATE 6 = e at hdone hstate hset
    rw [hclk] at hset
    refine completes_traced_core rfl hdone fun t _ h => ?_
    have ht := h.clk.trans hset
    exact ⟨congrArg Clk.family ht, congrArg Clk.mult ht, congrArg Clk.ll ht, congrArg Clk.src ht, congrArg Clk.gate ht, (h.f (by decide)).trans hstate⟩

end Sys2Proof.Machine
end

section
/-! Start-up (R44, R48 to R51, R114, R121 to R123, R453): each event takes its step, and O9. -/

namespace Sys2Proof.Machine
open Sys2Proof

theorem Core.f_setB (c : Core) {o k : Nat} (b : Bool) (hk : k < 32) : (c.setB ⟨o, k, k⟩ b).f ⟨o, k, k⟩ = b2n b := by
  unfold Core.setB
  rw [Core.f_setF_field _ _ (le_refl k) hk, Nat.sub_self]
  cases b <;> rfl

section CompletesFresh
variable {i : Instr} {s : State} {P : State → Prop}

/-- A command that leaves no trace record completes with its meaning. -/
theorem completes_fresh {f : Core → Core} {d : Core} (e : exec i s = runCore f s) (hd : f s.core = d) (htrace : d.atl.trace = [])
    (hp : P { s with core := d }) : Completes i s P := by
  subst hd
  exact completes_of_runCore e htrace hp

end CompletesFresh

/-! ### What start-up leaves off stage -/

namespace Offstage
variable {α : Type} {g : Core → α} (h : Offstage g)
include h

theorem supplied : Supplied g where
  toUnscheduled := h.unscheduled
  brush := h.brush
  memc := h.memc
  crc := h.crc
  freeIx := h.freeIx

theorem loadHeadroom (c : Core) : g c.loadHeadroom = g c :=
  foldl_keeps g _ (fun d o => h.setF d _ (by simp only [R.RENDER_HEADROOM]; omega)) _ c

theorem setDp (c : Core) (n : Nat) (x : DirectPath) : g (c.setDp n x) = g c := h.arm c _

theorem loadRoutes (c : Core) (old : SMap Nat) : g (c.loadRoutes old) = g c := by
  have hctrl : ∀ (d : Core) (n k v : Nat), g (d.setF ⟨R.ARMATURE_DP_CTRL n, k, k⟩ v) = g d := fun d n k v =>
    h.setF d v (by simp only [R.ARMATURE_DP_CTRL]; omega)
  have hgain : ∀ (d : Core) (n v : Nat), g (d.setF (F.ARMATURE_DP_TARGET_GAIN n) v) = g d := fun d n v =>
    h.setF d v (by simp only [F.ARMATURE_DP_TARGET_GAIN, R.ARMATURE_DP_TARGET]; omega)
  have hroute : ∀ (d : Core) (n : Nat) (w : Word), g (d.put (R.ARMATURE_ROUTE n) w) = g d := fun d n w =>
    h.put d w (by simp only [R.ARMATURE_ROUTE]; omega)
  refine foldl_keeps g _ (fun d n => ?_) _ c
  refine keeps_ite g (keeps_ite g ?_ ?_) (hroute _ _ _)
  · exact (hctrl _ _ _ _).trans ((hctrl _ _ _ _).trans ((hgain _ _ _).trans ((h.setDp _ _ _).trans ((hctrl _ _ _ _).trans ((hctrl _ _ _ _).trans
      (hroute _ _ _))))))
  · exact (h.setDp _ _ _).trans ((hctrl _ _ _ _).trans ((hctrl _ _ _ _).trans (hroute _ _ _)))

theorem restoreShow (c : Core) : g c.restoreShow = g c := by
  unfold Core.restoreShow
  split
  · rfl
  · refine keeps_ite g ?_ rfl
    refine (h.loadRoutes _ _).trans ((h.arm _ _).trans ((h.setF _ _ (by decide)).trans ((h.loadHeadroom _).trans ((h.out _ _).trans ?_))))
    exact (h.loadEntries _).trans (h.scene c _)

theorem findRecord (c : Core) : g c.findRecord = g c := (h.flash _ _).trans ((h.setB _ _ (by decide)).trans (h.setB c _ (by decide)))

theorem applyUnits (c : Core) : g c.applyUnits = g c := by
  have hcapacity : ∀ (d : Core) (x : Field) (v : Nat), 0x300000 ≤ x.off →
      g ((d.setF x v).setF F.HEALTH_CAPACITY_REDUCED 1) = g d := fun d x v hx => (h.setF _ _ (by decide)).trans (h.setF d v hx)
  unfold Core.applyUnits
  dsimp only
  refine (foldl_keeps g _ (fun d k => ?_) _ _).trans ((foldl_keeps g _ (fun d l => ?_) _ _).trans (foldl_keeps g _ (fun d l => ?_) _ c))
  · have hstate : g (d.setBcState k 7) = g d := h.supplied.setBcState d k 7
    split
    · exact hstate
    · split
      · exact (h.setF _ _ (by simp only [R.BRUSH_MAP]; omega)).trans hstate
      · exact (hcapacity _ _ _ (by decide)).trans ((h.health _ _).trans hstate)
  · split
    · exact (h.setF _ _ (by simp only [F.RENDER_LANE_SPARE_VALID, R.RENDER_LANE_SPARE]; omega)).trans
        (h.setF d _ (by simp only [F.RENDER_LANE_SPARE_LANE, R.RENDER_LANE_SPARE]; omega))
    · exact (hcapacity _ _ _ (by decide)).trans (h.health d _)
  · exact keeps_ite g (h.setF d 1 (by simp only [R.RENDER_LANE_RETIRED]; omega)) (h.setF d 1 (by simp only [R.RENDER_LANE_RETIRED8]; omega))

theorem gessoStarts (c : Core) : g c.gessoStarts = g c := (h.applyUnits _).trans (h.findRecord c)

theorem renderShow (c : Core) : g c.renderShow = g c := by
  have hmap : g ((List.range 9).foldl (fun (c : Core) e => c.setF (F.RENDER_ENGINE_MAP_RE e) (c.engineState e)) c) = g c :=
    foldl_keeps g _ (fun d e => h.setF d _ (by simp only [F.RENDER_ENGINE_MAP_RE, R.RENDER_ENGINE_MAP]; omega)) _ c
  unfold Core.renderShow
  exact keeps_ite g ((h.ren _ _).trans hmap) ((h.raise _ _ (by decide)).trans ((h.ren _ _).trans hmap))

theorem upShow (c : Core) : g c.upShow = g c := by
  have hput : ∀ (d : Core) {r : Nat} (w : Word), 0x300000 ≤ r → g (d.put r w) = g d := fun d r w hr => h.put d w hr
  unfold Core.upShow
  dsimp only
  refine (foldl_keeps g _ (fun d k => ?_) _ _).trans ?_
  · refine (hput _ _ (by unfold R.UPDATE_SLOT_PREFIX_HI; omega)).trans ((hput _ _ (by unfold R.UPDATE_SLOT_PREFIX_LO; omega)).trans ?_)
    refine (hput _ _ (by unfold R.UPDATE_SLOT_LENGTH; omega)).trans ((hput _ _ (by unfold R.UPDATE_SLOT_RECEIVED; omega)).trans ?_)
    refine (hput _ _ ?_).trans (hput _ _ ?_) <;> simp only [F.UPDATE_SLOT_STATE_SOURCE, F.UPDATE_SLOT_STATE_STATE, R.UPDATE_SLOT_STATE] <;> omega
  · refine (hput _ _ (by decide)).trans ((hput _ _ (by decide)).trans ((hput _ _ (by decide)).trans ((hput _ _ (by decide)).trans ?_)))
    refine (foldl_keeps g (fun (c : Core) w => c.put (R.UPDATE_DIGEST w) _) (fun d w => hput d _ (by unfold R.UPDATE_DIGEST; omega)) _ _).trans ?_
    exact (hput _ _ (by decide)).trans ((hput _ _ (by decide)).trans (hput c _ (by decide)))

theorem showActive (c : Core) : g c.showActive = g c := (h.setF _ _ (by decide)).trans (h.put c _ (by decide))

theorem startPrevious (c : Core) : g c.startPrevious = g c := by
  unfold Core.startPrevious
  split
  · rfl
  · exact (h.setF _ _ (by decide)).trans ((h.showActive _).trans (h.update c _))

theorem flashAllow (c : Core) : g c.flashAllow = g c := h.setB c _ (by decide)

theorem startEngines (c : Core) (b : Nat) : g (c.startEngines b) = g (c.setPower { c.power with engineStop := false }) :=
  (h.mon _ _).trans ((h.out _ _).trans ((h.cal _ _).trans (h.ren _ _)))

end Offstage

/-! ### Firmware starts its cores -/

theorem Core.setBrushEn_backstage (c : Core) (k : Nat) (on : Bool) : (c.setBrushEn k on).backstage = c.backstage := rfl

theorem Core.setF_backstage (c : Core) (x : Field) (v : Nat) : (c.setF x v).backstage = c.backstage := rfl

theorem Core.fwSync_backstage (c : Core) : c.fwSync.backstage = c.backstage := by
  have hgive : ∀ (d : Core) (l : Nat), (d.fwGive l).backstage = d.backstage := fun d l =>
    (Core.setF_backstage _ _ _).trans (offstage_backstage.supplied.bcStop _ _)
  have htake : ∀ (d : Core) (l : Nat), (d.fwTake l).backstage = d.backstage := fun d l =>
    keeps_ite Core.backstage (Core.setF_backstage _ _ _) rfl
  unfold Core.fwSync
  dsimp only
  refine (Core.setF_backstage _ _ _).trans ?_
  rw [foldl_keeps Core.backstage _ htake, foldl_keeps Core.backstage _ hgive]

theorem Core.firmwareStarts_backstage (c : Core) : c.firmwareStarts.backstage = c.backstage := by
  have hbrush : c.brushStart.backstage = c.backstage := by
    unfold Core.brushStart
    dsimp only
    have hspare : ∀ (d : Core) (k : Nat), ((d.setBrushEn k true).setBcState k 5).backstage = d.backstage := fun d k => d.setBrushEn_backstage k true
    refine (Core.fwSync_backstage _).trans ((foldl_keeps Core.backstage _ (fun d k => keeps_ite Core.backstage (hspare d k) rfl) _ _).trans ?_)
    exact foldl_keeps Core.backstage _ (fun d l => Core.setF_backstage d _ _) _ c
  unfold Core.firmwareStarts
  rw [offstage_backstage.showActive, offstage_backstage.upShow, offstage_backstage.renderShow, hbrush]

/-! ### The first steps (R44, R48, R49, R121) -/

/-- Domains PD1 to PD12 are OFF. -/
def Core.domainsOff (c : Core) : Core := (List.range 13).foldl (fun c n => if n = 0 then c else c.setF (F.SYS_PD_STATE_PD n) 3) c

theorem Core.domainsOff_keeps {α : Type} {g : Core → α} (hset : ∀ (c : Core) (n v : Nat), g (c.setF (F.SYS_PD_STATE_PD n) v) = g c) (c : Core) :
    g c.domainsOff = g c := foldl_keeps g _ (fun d n => keeps_ite g rfl (hset d n 3)) _ c

theorem Core.domainsOff_unmapped (c : Core) : c.domainsOff.unmapped = c.unmapped := Core.domainsOff_keeps (fun d _ _ => d.setF_unmapped _ _) c

theorem Core.get_domainsOff (c : Core) {off : Nat} (h : off ≠ R.SYS_PD_STATE) : c.domainsOff.get off = c.get off :=
  Core.domainsOff_keeps (g := (Core.get · off)) (fun d _ _ => d.get_setF_ne _ h) c

theorem Core.powerOff_unmapped (c : Core) : c.powerOff.unmapped =
    (Core.keepFlash { power := { cages := c.power.cages, sfpId := c.power.sfpId } } c).unmapped := by
  unfold Core.powerOff
  dsimp only
  rw [Core.setF_unmapped, Core.setF_unmapped]
  rfl

theorem Core.powerOff_parts (c : Core) : c.powerOff.power.vinOn = false ∧ c.powerOff.power.step = 0 ∧ c.powerOff.power.pgood = false ∧
    c.powerOff.atl.trace = [] := by
  have h := c.powerOff_unmapped
  exact ⟨(congrArg (fun x : Core => x.power.vinOn) h :), (congrArg (fun x : Core => x.power.step) h :), (congrArg (fun x : Core => x.power.pgood) h :),
    (congrArg (fun x : Core => x.atl.trace) h :)⟩

/-- The module after VIN has risen. -/
def Core.risen (c : Core) : Core :=
  ((c.powerOff.setPower { cages := c.power.cages, sfpId := c.power.sfpId, vinOn := true, step := 1 }).domainsOff).put R.SYS_RESET_CAUSE
    (.ofNat 32 causePowerUp)

theorem vinRise_rises {c : Core} (h : c.power.vinOn = false) : vinRise c = c.risen := if_neg (by rw [h]; decide)

theorem Core.risen_parts (c : Core) : c.risen.power.vinOn = true ∧ c.risen.power.step = 1 ∧ c.risen.get R.SYS_RESET_CAUSE = 1 ∧
    c.risen.atl.trace = [] := by
  have hoff := c.powerOff_parts.2.2.2
  unfold Core.risen
  generalize c.powerOff = d at hoff ⊢
  have h := Core.domainsOff_unmapped (d.setPower { cages := c.power.cages, sfpId := c.power.sfpId, vinOn := true, step := 1 })
  generalize Core.domainsOff _ = e at h ⊢
  exact ⟨(congrArg (fun x : Core => x.power.vinOn) h :), (congrArg (fun x : Core => x.power.step) h :), Core.get_put_same _ _ _,
    (congrArg (fun x : Core => x.atl.trace) h :).trans hoff⟩

section FirstSteps
variable {c : Core}

/-- The start threshold has been met. -/
def Core.startMet (c : Core) (vioSel : Bool) : Core :=
  ((c.setPower { c.power with step := 2 }).setB F.SYS_STRAPS_VIO_SEL vioSel).setF F.SYS_STATUS_VIN_WARN 1

theorem startThresholdMet_samples (vioSel : Bool) (hvin : c.power.vinOn = true) (hstep : c.power.step = 1) :
    startThresholdMet vioSel c = c.startMet vioSel := if_neg (by rw [hvin, hstep]; decide)

theorem Core.startMet_parts (c : Core) (vioSel : Bool) : (c.startMet vioSel).unmapped = { c.unmapped with power := { c.power with step := 2 } } ∧
    (c.startMet vioSel).f F.SYS_STRAPS_VIO_SEL = b2n vioSel ∧ (c.startMet vioSel).f F.SYS_STATUS_VIN_WARN = 1 := by
  unfold Core.startMet
  generalize hd : c.setPower { c.power with step := 2 } = d
  have hkept : d.unmapped = { c.unmapped with power := { c.power with step := 2 } } := hd ▸ rfl
  refine ⟨?_, ?_, ?_⟩
  · exact ((Core.setF_unmapped _ _ _).trans (d.setF_unmapped _ (b2n vioSel))).trans hkept
  · exact (Core.f_congr (Core.get_setF_ne _ 1 (by decide))).trans (d.f_setB vioSel (by decide))
  · exact Core.f_setF_field _ 1 (by decide) (by decide)

theorem Core.sampleStraps_unmapped (c : Core) (boot p3 : Bool) (addr : Nat) : (c.sampleStraps boot p3 addr).unmapped = c.unmapped :=
  (Core.setF_unmapped _ _ _).trans ((Core.setF_unmapped _ _ (b2n p3)).trans (c.setF_unmapped _ (b2n boot)))

theorem Core.sampleStraps_straps (c : Core) (boot p3 : Bool) (addr : Nat) : (c.sampleStraps boot p3 addr).f F.SYS_STRAPS_BOOT_MODE = b2n boot ∧
    (c.sampleStraps boot p3 addr).f F.SYS_STRAPS_P3_RATE = b2n p3 ∧ (c.sampleStraps boot p3 addr).f F.SYS_STRAPS_SMB_ADDR = addr % 4 := by
  unfold Core.sampleStraps
  refine ⟨?_, ?_, Core.f_setF_field _ addr (by decide) (by decide)⟩
  · refine (Core.f_setF_beside _ addr (show 3 ≤ 4 by decide) (by decide) (show 1 ≤ 1 by decide) (by decide)).trans ?_
    exact (Core.f_setF_beside _ (b2n p3) (show 2 ≤ 2 by decide) (by decide) (show 1 ≤ 1 by decide) (by decide)).trans (c.f_setB boot (by decide))
  · exact (Core.f_setF_beside _ addr (show 3 ≤ 4 by decide) (by decide) (show 2 ≤ 2 by decide) (by decide)).trans (Core.f_setB _ p3 (by decide))

/-- Rails are in regulation and the TCXO is enabled. -/
def Core.railsUp (c : Core) : Core := (c.setPower { c.power with step := 3, railsOk := true }).setClk { c.clk with tcxoOn := true }

theorem railsInRegulation_samples (boot p3 : Bool) (addr : Nat) (hstep : c.power.step = 2) (hdeep : c.deep = false) (hreset : c.power.inReset = false) :
    railsInRegulation boot p3 addr c = c.railsUp.sampleStraps boot p3 addr := if_neg (by rw [hstep, hdeep, hreset]; decide)

/-- PLLs are released, and the counter starts from the backup counter. -/
def Core.pllsUp (c : Core) : Core :=
  ((c.setPower { c.power with step := 4 }).setClk { c.clk with tcxoOk := true, pllOn := true }).setTime { c.time with
    ptp := (if c.flag F.SYS_BACKUP_SEC_HI_VALID then (c.get R.SYS_BACKUP_SEC_LO).toNat + c.f F.SYS_BACKUP_SEC_HI_SEC * 2 ^ 32 else 0) * 10 ^ 9 * 2 ^ 32
    known := c.flag F.SYS_BACKUP_SEC_HI_VALID }

theorem tcxoStartCheck_passes (hstep : c.power.step = 3) (hon : c.clk.tcxoOn = true) (hreset : c.power.inReset = false) (htrip : c.power.trip = false) :
    tcxoStartCheck c = c.pllsUp.readPins := if_neg (by rw [hstep, hon, hreset, htrip]; decide)

/-- CP0 runs the boot stage. -/
def Core.booting (c : Core) (stuck : Bool) : Core :=
  let c := ((c.setPower { c.power with step := 5, stuck := stuck }).pdUp 1).pdUp 2
  (List.range 8).foldl (fun c k => c.pdUp (k + 3)) c

theorem bootStage_boots (primaryOk secondaryOk : Bool) (hstep : c.power.step = 4) :
    bootStage primaryOk secondaryOk c = (c.booting !(primaryOk || secondaryOk)).readPins.plinth := if_neg (by rw [hstep]; decide)

theorem Core.booting_power (c : Core) (stuck : Bool) : (c.booting stuck).power = { c.power with step := 5, stuck := stuck } :=
by
  have hup : ∀ (d : Core) (n : Nat), (d.pdUp n).power = d.power := fun d n => (congrArg Prod.fst (d.setF_backstage (F.SYS_PD_STATE_PD n) 0) :)
  unfold Core.booting
  dsimp only
  rw [foldl_keeps Core.power _ (fun d k => hup d _), hup, hup]
  rfl

/-- Gesso runs on PLL_B. -/
def Core.gessoUp (c : Core) : Core :=
  (((c.setPower { c.power with step := 6 }).setClk { c.clk with ctrlSrc := 0 }).pdUp 11).dramBack.gessoStarts

theorem gessoStart_runs (hstep : c.power.step = 5) (hstuck : c.power.stuck = false) :
    gessoStart c = if c.gessoUp.flag F.SYS_STRAPS_BOOT_MODE then c.gessoUp else c.gessoUp.enterRecovery := if_neg (by rw [hstep, hstuck]; decide)

theorem Core.gessoUp_backstage (c : Core) : c.gessoUp.backstage = ({ c.power with step := 6 }, { c.clk with ctrlSrc := 0 }, c.time) :=
  (offstage_backstage.gessoStarts _).trans ((Core.setF_backstage _ _ _).trans (Core.setF_backstage _ _ _))

theorem Core.bootMode_gessoUp (c : Core) : c.gessoUp.flag F.SYS_STRAPS_BOOT_MODE = c.flag F.SYS_STRAPS_BOOT_MODE := by
  refine Core.flag_congr (((offstage_get (by decide)).gessoStarts _).trans ?_)
  exact (Core.get_setF_ne _ 0 (by decide)).trans (Core.get_setF_ne _ 0 (by simp only [F.SYS_PD_STATE_PD]; decide))

end FirstSteps

/-! ### DRAM training (R452, R453) -/

/-- The sweeps of one lane are shown, before its failure is entered. -/
def Core.laneShown (c : Core) (i : Nat) (ws : List Nat) : Core :=
  let x := trainLane ws
  let c := (c.setF (F.MEMC_TRAIN_A_RD_DELAY i) x.1.2.1).setF (F.MEMC_TRAIN_A_WR_DELAY i) x.2.1.2.1
  let c := (c.setF (F.MEMC_TRAIN_A_RD_EYE i) x.1.2.2).setF (F.MEMC_TRAIN_A_WR_EYE i) x.2.1.2.2
  let c := (c.setF (F.MEMC_TRAIN_B_RD_VREF i) x.1.1).setF (F.MEMC_TRAIN_B_WR_VREF i) x.2.1.1
  (c.setF (F.MEMC_TRAIN_B_ATTEMPTS i) x.2.2.1).setB (F.MEMC_TRAIN_B_FAILED i) x.2.2.2

/-- The write delay of a lane is kept. -/
def Core.laneTrained (c : Core) (i : Nat) (v : Nat) : Core := { c with memc := { c.memc with trained := smSet (fun _ => 0) c.memc.trained i v } }

theorem Core.flag_laneTrained (c : Core) (i v : Nat) (x : Field) : (c.laneTrained i v).flag x = c.flag x := rfl

theorem Core.putLane_eq (c : Core) (i : Nat) (ws : List Nat) : c.putLane i ws =
    if (trainLane ws).2.2.2 then ((c.laneShown i ws).laneTrained i (trainLane ws).2.1.2.1).ledger 7 5 (i / 2) (i % 2) 0 false
    else (c.laneShown i ws).laneTrained i (trainLane ws).2.1.2.1 := rfl

section Lane
variable (c : Core) (i : Nat) (ws : List Nat)

theorem Core.laneShown_keeps {α : Type} {g : Core → α} (hset : ∀ (c : Core) (x : Field) (v : Nat), x.off = R.MEMC_TRAIN_A i ∨ x.off = R.MEMC_TRAIN_B i →
    g (c.setF x v) = g c) : g (c.laneShown i ws) = g c := by
  unfold Core.laneShown
  dsimp only
  refine (hset _ _ _ (.inr rfl)).trans ((hset _ _ _ (.inr rfl)).trans ((hset _ _ _ (.inr rfl)).trans ((hset _ _ _ (.inr rfl)).trans ?_)))
  exact (hset _ _ _ (.inl rfl)).trans ((hset _ _ _ (.inl rfl)).trans ((hset _ _ _ (.inl rfl)).trans (hset c _ _ (.inl rfl))))

theorem Core.ledger_keeps {α : Type} {g : Core → α} (hcount : ∀ c : Core, g (c.count R.HEALTH_LEDGER_DROP) = g c)
    (hheld : ∀ (c : Core) (x : HealthPart) (b : Bool), g (({ c with health := x } : Core).setB F.HEALTH_STATUS_LEDGER_HELD b) = g c)
    (kind res unit detail : Nat) (value : Int) (smudge : Bool) : g (c.ledger kind res unit detail value smudge) = g c :=
  keeps_ite g (hcount c) (hheld c _ _)

theorem Core.putLane_keeps {α : Type} {g : Core → α} (hset : ∀ (c : Core) (x : Field) (v : Nat), x.off = R.MEMC_TRAIN_A i ∨ x.off = R.MEMC_TRAIN_B i →
    g (c.setF x v) = g c) (hmemc : ∀ (c : Core) (x : MemcPart), g { c with memc := x } = g c) (hcount : ∀ c : Core, g (c.count R.HEALTH_LEDGER_DROP) = g c)
    (hheld : ∀ (c : Core) (x : HealthPart) (b : Bool), g (({ c with health := x } : Core).setB F.HEALTH_STATUS_LEDGER_HELD b) = g c) :
    g (c.putLane i ws) = g c := by
  have hshown : g ((c.laneShown i ws).laneTrained i (trainLane ws).2.1.2.1) = g c := (hmemc _ _).trans (c.laneShown_keeps i ws hset)
  rw [Core.putLane_eq]
  exact keeps_ite g ((Core.ledger_keeps _ hcount hheld _ _ _ _ _ _).trans hshown) hshown

/-- Whether a lane has failed is shown last. -/
theorem Core.failed_laneShown : (c.laneShown i ws).flag (F.MEMC_TRAIN_B_FAILED i) = (trainLane ws).2.2.2 := by
  have hset : ∀ (d : Core) (b : Bool), (d.setB (F.MEMC_TRAIN_B_FAILED i) b).flag (F.MEMC_TRAIN_B_FAILED i) = b := fun d b => by
    refine (d.flag_setF_bit _ _ _ (by decide)).trans ?_
    cases b <;> rfl
  unfold Core.laneShown
  dsimp only
  generalize Core.setF _ (F.MEMC_TRAIN_B_ATTEMPTS i) _ = d
  exact hset d _

theorem Core.failed_putLane (hi : i < 16) : (c.putLane i ws).flag (F.MEMC_TRAIN_B_FAILED i) = (trainLane ws).2.2.2 := by
  have hshown : ((c.laneShown i ws).laneTrained i (trainLane ws).2.1.2.1).flag (F.MEMC_TRAIN_B_FAILED i) = (trainLane ws).2.2.2 :=
    ((c.laneShown i ws).flag_laneTrained i _ _).trans (c.failed_laneShown i ws)
  have hne : R.MEMC_TRAIN_B i ≠ R.HEALTH_LEDGER_DROP ∧ R.MEMC_TRAIN_B i ≠ R.HEALTH_STATUS ∧ R.MEMC_TRAIN_B i % 0x100000 ≠ 4 := by
    simp only [R.MEMC_TRAIN_B, R.HEALTH_LEDGER_DROP, R.HEALTH_STATUS]
    omega
  rw [Core.putLane_eq]
  refine keeps_ite (Core.flag · (F.MEMC_TRAIN_B_FAILED i)) ((Core.ledger_keeps _ (g := (Core.flag · (F.MEMC_TRAIN_B_FAILED i))) (fun d => ?_)
    (fun d x b => ?_) _ _ _ _ _ _).trans hshown) hshown
  · exact Core.flag_congr (d.get_count_ne hne.1 hne.2.2)
  · exact Core.flag_congr (Core.get_setF_ne _ _ hne.2.1)

/-- What another lane shows is kept. -/
theorem Core.failed_putLane_ne {j : Nat} (hj : j < 16) (hne : j ≠ i) :
    (c.putLane i ws).flag (F.MEMC_TRAIN_B_FAILED j) = c.flag (F.MEMC_TRAIN_B_FAILED j) := by
  have hoff : R.MEMC_TRAIN_B j ≠ R.HEALTH_LEDGER_DROP ∧ R.MEMC_TRAIN_B j ≠ R.HEALTH_STATUS ∧ R.MEMC_TRAIN_B j % 0x100000 ≠ 4 ∧
      R.MEMC_TRAIN_B j ≠ R.MEMC_TRAIN_A i ∧ R.MEMC_TRAIN_B j ≠ R.MEMC_TRAIN_B i := by
    simp only [R.MEMC_TRAIN_B, R.MEMC_TRAIN_A, R.HEALTH_LEDGER_DROP, R.HEALTH_STATUS]
    omega
  obtain ⟨hdrop, hstatus, hmod, ha, hb⟩ := hoff
  refine c.putLane_keeps i ws (g := (Core.flag · (F.MEMC_TRAIN_B_FAILED j))) (fun d x v hx => Core.flag_congr (d.get_setF_ne v ?_)) (fun _ _ => rfl)
    (fun d => Core.flag_congr (d.get_count_ne hdrop hmod)) fun d x b => Core.flag_congr (Core.get_setF_ne _ _ hstatus)
  rcases hx with e | e
  · exact fun h => ha (h.trans e)
  · exact fun h => hb (h.trans e)

end Lane

/-- The lanes below n are trained. -/
def Core.lanesTrained (c : Core) (lanes : List (List Nat)) (n : Nat) : Core :=
  (List.range n).foldl (fun (c : Core) i => c.putLane i (lanes.getD i [])) c

section Training
variable (c : Core) (lanes : List (List Nat))

theorem Core.failed_lanesTrained {n : Nat} (hn : n ≤ 16) {j : Nat} (hj : j < n) :
    (c.lanesTrained lanes n).flag (F.MEMC_TRAIN_B_FAILED j) = (trainLane (lanes.getD j [])).2.2.2 := by
  induction n with
  | zero => omega
  | succ n ih =>
    unfold Core.lanesTrained
    rw [List.range_succ, List.foldl_append]
    rcases Nat.lt_succ_iff_lt_or_eq.mp hj with hlt | rfl
    · exact (Core.failed_putLane_ne _ n _ (by omega) (by omega)).trans (ih (by omega) hlt)
    · exact Core.failed_putLane _ j _ (by omega)

theorem Core.lanesTrained_backstage (n : Nat) : (c.lanesTrained lanes n).backstage = c.backstage :=
  foldl_keeps Core.backstage _ (fun d i => d.putLane_keeps i _ (fun e x v _ => e.setF_backstage x v) (fun _ _ => rfl)
    (fun e => offstage_backstage.count e _ 1 (by decide)) fun e x b => Core.setF_backstage _ _ _) _ c

theorem Core.lanesTrained_atl (n : Nat) : (c.lanesTrained lanes n).atl = c.atl :=
  foldl_keeps Core.atl _ (fun d i => d.putLane_keeps i _ (fun _ _ _ _ => rfl) (fun _ _ => rfl) (fun e => e.count_atl _) fun _ _ _ => rfl) _ c

/-- Training has ended well. -/
def Core.trainedUp (c : Core) : Core :=
  { c.setF F.MEMC_STATUS_TRAINED 1 with power := { c.power with step := 7 }, memc := { c.memc with ecc := [] } }

theorem dramTrainingDone_trains (m : Mem) (hstep : c.power.step = 6) (hcause : c.power.cause ≠ causeDeepWake) :
    dramTrainingDone lanes m c = if ((List.range 16).any fun i => (trainLane (lanes.getD i [])).2.2.2) = true
      then ((c.lanesTrained lanes 16).setF F.SYS_STATUS_RECOVERY 1, m) else ((c.lanesTrained lanes 16).trainedUp, { m with dram := [] }) := by
  have hany : ((List.range 16).any fun i => (c.lanesTrained lanes 16).flag (F.MEMC_TRAIN_B_FAILED i)) =
      ((List.range 16).any fun i => (trainLane (lanes.getD i [])).2.2.2) := by
    refine Bool.eq_iff_iff.mpr (List.any_eq_true.trans (Iff.trans ?_ List.any_eq_true.symm))
    exact exists_congr fun i => and_congr_right fun hi => by rw [c.failed_lanesTrained lanes (le_refl 16) (List.mem_range.mp hi)]
  rw [← hany]
  exact (if_neg (by rw [hstep]; decide)).trans (if_neg hcause)

end Training

end Sys2Proof.Machine
end

section
/-! The last steps of start-up (R51, R88, R114, R122, R123), and O9. -/

namespace Sys2Proof.Machine
open Sys2Proof

/-! ### Hold-up and firmware -/

theorem Core.setPgood_keeps {α : Type} {g : Core → α} (hflag : ∀ (c : Core) (b : Bool), g (c.setB F.FLASH_STATUS_WRITES_ALLOWED b) = g c)
    (hout : ∀ (c : Core) (l : List Msg), g { c with outbox := l } = g c) (c : Core) (good : Bool)
    (hpower : g (c.setPower { c.power with pgood := good, pgoodSeen := c.power.pgoodSeen || good }) = g c) : g (c.setPgood good) = g c := by
  have hset : ∀ (d : Core) (m : Msg), g (d.send m).flashAllow = g d := fun d m => (hflag _ _).trans (hout d _)
  exact keeps_ite g rfl ((hset _ _).trans hpower)

section Firmware
variable {c : Core}

/-- The hold-up store is charged. -/
def Core.charged (c : Core) : Core := c.setPower { c.power with holdup := true, step := if c.power.step = 7 then 8 else c.power.step }

theorem holdupCharged_charges (hvin : c.power.vinOn = true) (hstep : 2 ≤ c.power.step) :
    holdupCharged c = if c.charged.power.railsOk = true ∧ (!c.charged.power.trip) = true then c.charged.setPgood true else c.charged :=
  if_neg (by rw [hvin]; simp; omega)

theorem holdupCharged_keeps {α : Type} {g : Core → α} (hflag : ∀ (c : Core) (b : Bool), g (c.setB F.FLASH_STATUS_WRITES_ALLOWED b) = g c)
    (hout : ∀ (c : Core) (l : List Msg), g { c with outbox := l } = g c)
    (hpower : ∀ (c : Core) (a b : Bool), g (c.setPower { c.power with pgood := a, pgoodSeen := b }) = g c)
    (hvin : c.power.vinOn = true) (hstep : 2 ≤ c.power.step) : g (holdupCharged c) = g c.charged := by
  rw [holdupCharged_charges hvin hstep]
  exact keeps_ite g (Core.setPgood_keeps hflag hout _ true (hpower _ _ _)) rfl

/-- The step of the hand-off to firmware. -/
def Core.handed (c : Core) : Core := c.setPower { c.power with step := 9 }

theorem firmwareHandoff_hands (imageOk : Bool) (hstep : c.power.step = 7 ∨ c.power.step = 8) (hpgood : c.power.pgood = true)
    (hrec : c.flag F.SYS_STATUS_RECOVERY = false) : firmwareHandoff imageOk c = if imageOk = true then c.handed else c.enterRecovery :=
  if_neg (by
    rw [hpgood, hrec]
    simp
    omega)

theorem updateHandoff_hands {imageOk prevOk : Bool} (hstep : c.power.step = 7 ∨ c.power.step = 8) (hpgood : c.power.pgood = true)
    (hrec : c.flag F.SYS_STATUS_RECOVERY = false) (hok : (imageOk || (prevOk && c.update.prev.isSome)) = true) :
    updateHandoff imageOk prevOk c = if (!imageOk) = true ∧ c.handed.power.step = 9 ∧ c.power.step ≠ 9 then c.handed.startPrevious else c.handed := by
  have h := (firmwareHandoff_hands (imageOk || (prevOk && c.update.prev.isSome)) hstep hpgood hrec).trans (if_pos hok)
  unfold updateHandoff
  dsimp only
  rw [h]

theorem updateHandoff_recovers {imageOk prevOk : Bool} (hstep : c.power.step = 7 ∨ c.power.step = 8) (hpgood : c.power.pgood = true)
    (hrec : c.flag F.SYS_STATUS_RECOVERY = false) (hok : (imageOk || (prevOk && c.update.prev.isSome)) = false) :
    updateHandoff imageOk prevOk c = c.enterRecovery := by
  have h := (firmwareHandoff_hands (imageOk || (prevOk && c.update.prev.isSome)) hstep hpgood hrec).trans (if_neg (by rw [hok]; decide))
  have hkept : c.enterRecovery.power.step ≠ 9 := by
    rcases hstep with e | e <;> exact fun h => absurd (e.symm.trans h) (by decide)
  unfold updateHandoff
  dsimp only
  rw [h]
  exact if_neg fun hall => hkept hall.2.1

/-- The PCIe endpoint is ready. -/
def Core.endpointUp (c : Core) : Core := c.setPower { c.power with endpointReady := true, step := if c.power.step = 9 then 10 else c.power.step }

theorem pcieEndpointReady_readies (hstep : 9 ≤ c.power.step ∨ c.flag F.SYS_STATUS_RECOVERY = true) (hperst : c.power.perst = false)
    (hdeep : c.deep = false) : pcieEndpointReady c = (c.pdUp 12).endpointUp :=
  if_neg (by
    rw [hperst, hdeep]
    rcases hstep with h | h
    · simp
      omega
    · simp [h])

theorem Core.pdUp_parts (c : Core) (n : Nat) : (c.pdUp n).power = c.power ∧ (c.pdUp n).atl = c.atl := ⟨rfl, rfl⟩

theorem Core.endpointUp_parts (c : Core) : c.endpointUp.atl = c.atl ∧ c.endpointUp.power.endpointReady = true ∧
    c.endpointUp.power.step = if c.power.step = 9 then 10 else c.power.step := ⟨rfl, rfl, rfl⟩

theorem Core.pdOn_endpointUp (c : Core) (n : Nat) : c.endpointUp.pdOn n = c.pdOn n := rfl

theorem Core.pdOn_pdUp (c : Core) {n : Nat} (hn : n < 16) : (c.pdUp n).pdOn n = true := by
  have h : (c.setF (F.SYS_PD_STATE_PD n) 0).f (F.SYS_PD_STATE_PD n) = 0 := by
    have hlo : 2 * n ≤ 2 * n + 1 := by omega
    have hhi : 2 * n + 1 < 32 := by omega
    exact (c.f_setF_field (o := R.SYS_PD_STATE) 0 hlo hhi).trans (Nat.zero_mod _)
  unfold Core.pdOn Core.pdUp
  rw [h]
  simp

/-! ### READY (R123) -/

/-- READY shows in the registers. -/
def Core.readyShown (c : Core) (ms : Nat) : Core :=
  let c := (c.setB F.SYS_STATUS_OUTPUT_HELD (c.flag F.SYS_START_CFG_HOLD_MUTE)).put R.SYS_START_TIME (.ofNat 32 (min ms 65535))
  ((c.setF F.SYS_STATUS_READY 1).setF F.SYS_STATUS_STATE 1).setF F.HOST_STATUS_EASEL_READY 1

/-- The stored configuration is in the registers and in the clocks. -/
def Core.cfgLoaded (c : Core) : Core :=
  let c := c.cfg.regs.foldl (fun c x => c.put x.1 x.2) c
  let c := (c.put R.CLK_QUAL c.cfg.clkQual).put R.SYS_START_CFG c.cfg.startCfg
  let c := (c.putRate c.cfg.family c.cfg.mult c.cfg.ll (c.f F.CLK_MEDIA_CTRL_SRC)).liveRate c.cfg.family c.cfg.mult
    c.cfg.ll (c.f F.CLK_MEDIA_CTRL_SRC)
  c.setB F.HOST_EXPERT_CTRL_UDP_ALLOW c.cfg.udpAllow

/-- The engines may run. -/
def Core.enginesFree (c : Core) : Core := c.setPower { c.power with engineStop := false }

/-- The show starts again where the configuration has it restored. -/
def Core.showBack (c : Core) : Core := if c.flag F.SYS_START_CFG_RESTORE then c.restoreShow else c

theorem startReady_starts (ms : Nat) (hstep : c.power.step = 9 ∨ c.power.step = 10) (hrec : c.flag F.SYS_STATUS_RECOVERY = false) :
    startReady ms c = (((((c.setPower { c.power with step := 11 }).cfgLoaded.showBack.readyShown ms).enginesFree).firmwareStarts).raise
      F.SYS_INT_STATUS_READY).ring 0 :=
  if_neg (by
    rw [hrec]
    simp
    omega)

theorem Core.readyShown_power (c : Core) (ms : Nat) : (c.readyShown ms).power = c.power := by
  have hput : ∀ (d : Core) (off : Nat) (w : Word), (d.put off w).power = d.power := fun _ _ _ => rfl
  have hset : ∀ (d : Core) (x : Field) (v : Nat), (d.setF x v).power = d.power := fun _ _ _ => rfl
  unfold Core.readyShown
  dsimp only
  exact (hset _ _ _).trans ((hset _ _ _).trans ((hset _ _ _).trans ((hput _ _ _).trans (hset _ _ _))))

theorem Core.showBack_power (c : Core) : c.showBack.power = c.power :=
  keeps_ite Core.power (power_of_backstage (offstage_backstage.restoreShow c)) rfl

theorem Core.cfgLoaded_power (c : Core) : c.cfgLoaded.power = c.power := by
  have hput : ∀ (d : Core) (off : Nat) (w : Word), (d.put off w).power = d.power := fun _ _ _ => rfl
  have hset : ∀ (d : Core) (x : Field) (v : Nat), (d.setF x v).power = d.power := fun _ _ _ => rfl
  have hrate : ∀ (d : Core) (a b e f : Nat), (d.putRate a b e f).power = d.power := fun d a b e f => by
    unfold Core.putRate
    rw [hset, hset, hset, hset]
  have hlive : ∀ (d : Core) (a b e f : Nat), (d.liveRate a b e f).power = d.power := fun _ _ _ _ _ => rfl
  unfold Core.cfgLoaded
  dsimp only
  refine (hset _ _ _).trans ((hlive _ _ _ _ _).trans ((hrate _ _ _ _ _).trans ((hput _ _ _).trans ((hput _ _ _).trans ?_))))
  exact foldl_keeps Core.power _ (fun d x => hput d _ _) _ _

theorem startReady_power (ms : Nat) (hstep : c.power.step = 9 ∨ c.power.step = 10) (hrec : c.flag F.SYS_STATUS_RECOVERY = false) :
    (startReady ms c).power = { c.power with step := 11, engineStop := false } := by
  have hshown : ((c.setPower { c.power with step := 11 }).cfgLoaded.showBack.readyShown ms).power = { c.power with step := 11 } :=
    (Core.readyShown_power _ _).trans ((Core.showBack_power _).trans (Core.cfgLoaded_power _))
  rw [startReady_starts ms hstep hrec]
  generalize (c.setPower { c.power with step := 11 }).cfgLoaded.showBack.readyShown ms = d at hshown ⊢
  have hfree : d.enginesFree.power = { c.power with step := 11, engineStop := false } := by
    unfold Core.enginesFree
    rw [hshown]
    rfl
  refine Eq.trans ?_ hfree
  exact (Core.ring_power _ _).trans ((power_of_backstage (backstage_of_rest (Core.raise_rest _ _))).trans (power_of_backstage (Core.firmwareStarts_backstage _)))

/-! ### The first start of MEDIA (R88) -/

theorem Core.startIdle_stage (c : Core) : c.startIdle.power.step = c.power.step ∧ c.startIdle.clk = c.clk ∧ c.startIdle.time = c.time := by
  have hstart : ∀ b, (c.startEngines b).backstage = (c.setPower { c.power with engineStop := false }).backstage := offstage_backstage.startEngines c
  unfold Core.startIdle
  split
  · generalize c.time.n = b
    have h := hstart b
    generalize c.startEngines b = d at h ⊢
    exact ⟨(congrArg (fun x : Power × Clk × TimePart => x.1.step) h :), (congrArg (fun x : Power × Clk × TimePart => x.2.1) h :),
      (congrArg (fun x : Power × Clk × TimePart => x.2.2) h :)⟩
  · exact ⟨rfl, rfl, rfl⟩

/-- The clock of MEDIA runs from sample n. -/
def Core.mediaFrom (c : Core) (n : Nat) : Core :=
  (c.setTime { c.time with n := n }).setClk { c.clk with mediaOn := true, mediaStarted := true, frozen := false, fault := none, fadeInAt := some (n + 5 * c.blk) }

theorem Core.mediaRun_backstage (c : Core) (n : Nat) : (c.mediaRun n).backstage = ((c.mediaFrom n).zeroFrom n).backstage :=
  ((Core.showState_keeps (g := Core.backstage) (fun d v => d.setF_backstage _ v) _).trans (offstage_backstage.mediaRestart _ n) :)

theorem mediaStart_starts (hoff : c.clk.mediaStarted = false) (hstep : 11 ≤ c.power.step) (hpll : c.clk.pllOn = true)
    (hqual : c.flag F.CLK_MEDIA_STATUS_TCXO_QUALIFIED = true) :
    mediaStart c = (((c.setPower { c.power with step := 12 }).mediaRun (c.boundaryAt c.countOfPtp)).startIdle) := by
  unfold mediaStart
  refine (if_neg ?_).trans (if_pos ?_)
  · rw [hoff, hpll]
    simp
    omega
  · rw [hqual, Bool.or_true]

end Firmware

theorem power_of_afar {c d : Core} (h : c.afar = d.afar) : c.power = d.power := (congrArg Core.power h :)

theorem Core.readPins_power (c : Core) : c.readPins.power = c.power := power_of_afar (aside_afar.toSupplied.readPins c)

theorem Core.plinth_power (c : Core) : c.plinth.power = c.power := power_of_afar (aside_afar.plinth c)

theorem Core.mediaUp_parts (c : Core) (n : Nat) : (((c.setPower { c.power with step := 12 }).mediaRun n).startIdle).power.step = 12 ∧
    (((c.setPower { c.power with step := 12 }).mediaRun n).startIdle).clk.mediaOn = true ∧
    (((c.setPower { c.power with step := 12 }).mediaRun n).startIdle).clk.mediaStarted = true ∧
    (((c.setPower { c.power with step := 12 }).mediaRun n).startIdle).time.n = n := by
  have h := (c.setPower { c.power with step := 12 }).mediaRun_backstage n
  generalize (c.setPower { c.power with step := 12 }).mediaRun n = d at h ⊢
  obtain ⟨hstep, hclk, htime⟩ := d.startIdle_stage
  rw [hstep, hclk, htime]
  exact ⟨(congrArg (fun x : Power × Clk × TimePart => x.1.step) h :), (congrArg (fun x : Power × Clk × TimePart => x.2.1.mediaOn) h :),
    (congrArg (fun x : Power × Clk × TimePart => x.2.1.mediaStarted) h :), (congrArg (fun x : Power × Clk × TimePart => x.2.2.n) h :)⟩

theorem Core.flag_enterRecovery (c : Core) : c.enterRecovery.flag F.SYS_STATUS_RECOVERY = true := c.flag_setF_bit _ _ 1 (by decide)

theorem Core.flag_trainedUp (c : Core) : c.trainedUp.flag F.MEMC_STATUS_TRAINED = true := by
  have h : (c.setF F.MEMC_STATUS_TRAINED 1).flag F.MEMC_STATUS_TRAINED = true := c.flag_setF_bit _ _ 1 (by decide)
  unfold Core.trainedUp
  generalize c.setF F.MEMC_STATUS_TRAINED 1 = d at h ⊢
  exact h

/-- Settles O9: each event is its step's update, read through the parts and registers that the step sets. -/
theorem startUpEventsComplete : Obligations.StartUpEventsComplete := by
  unfold Obligations.StartUpEventsComplete
  refine ⟨?_, ?_, ?_, ?_, ?_, ?_, ?_, ?_, ?_, ?_, ?_, ?_, ?_, ?_, ?_⟩
  · intro s _ hoff
    obtain ⟨hvin, hstep, hcause, htrace⟩ := s.core.risen_parts
    exact completes_fresh (f := vinRise) rfl (vinRise_rises hoff) htrace ⟨hvin, hstep, hcause⟩
  · intro s vioSel hq hvin hstep
    obtain ⟨hparts, hvio, hwarn⟩ := s.core.startMet_parts vioSel
    exact completes_of_eq (f := startThresholdMet vioSel) rfl hq (startThresholdMet_samples vioSel hvin hstep) (congrArg Core.atl hparts :)
      ⟨(congrArg (fun x : Core => x.power.step) hparts :), hvio, hwarn⟩
  · intro s boot p3 addr hq hstep hdeep hreset
    have hparts := s.core.railsUp.sampleStraps_unmapped boot p3 addr
    obtain ⟨hboot, hrate, haddr⟩ := s.core.railsUp.sampleStraps_straps boot p3 addr
    exact completes_of_eq (f := railsInRegulation boot p3 addr) rfl hq (railsInRegulation_samples boot p3 addr hstep hdeep hreset)
      (congrArg Core.atl hparts :) ⟨(congrArg (fun x : Core => x.power.step) hparts :), (congrArg (fun x : Core => x.power.railsOk) hparts :),
        (congrArg (fun x : Core => x.clk.tcxoOn) hparts :), hboot, hrate, haddr⟩
  · intro s _ hstep hon hreset htrip
    refine completes_traced_core (f := tcxoStartCheck) rfl (tcxoStartCheck_passes hstep hon hreset htrip) fun t m h => ?_
    have hafar := h.afar.trans (aside_afar.toSupplied.readPins s.core.pllsUp)
    exact ⟨(congrArg (fun x : Core => x.power.step) hafar :), (congrArg (fun x : Core => x.clk.tcxoOk) hafar :),
      (congrArg (fun x : Core => x.clk.pllOn) hafar :), (congrArg (fun x : Core => x.time.known) hafar :)⟩
  · intro s primaryOk secondaryOk _ hstep
    refine completes_traced_core (f := bootStage primaryOk secondaryOk) rfl (bootStage_boots primaryOk secondaryOk hstep) fun t m h => ?_
    have hpower := h.power.trans ((Core.plinth_power _).trans ((Core.readPins_power _).trans (Core.booting_power s.core _)))
    exact ⟨(congrArg Power.step hpower :), (congrArg Power.stuck hpower :)⟩
  · intro s _ hstep hstuck
    refine completes_traced_core (f := gessoStart) rfl (gessoStart_runs hstep hstuck) fun t m h => ?_
    have hstage : t.backstage = ({ s.core.power with step := 6 }, { s.core.clk with ctrlSrc := 0 }, s.core.time) :=
      (h offstage_backstage.supplied).trans (keeps_ite Core.backstage s.core.gessoUp_backstage
        ((Core.setF_backstage _ _ 1).trans s.core.gessoUp_backstage))
    exact ⟨(congrArg (fun x : Power × Clk × TimePart => x.1.step) hstage :), (congrArg (fun x : Power × Clk × TimePart => x.2.1.ctrlSrc) hstage :)⟩
  · intro s _ hstep hstuck hboot
    have hrecovers : gessoStart s.core = s.core.gessoUp.enterRecovery :=
      (gessoStart_runs hstep hstuck).trans (if_neg (by rw [Core.bootMode_gessoUp, hboot]; decide))
    exact completes_traced_core (f := gessoStart) rfl hrecovers fun t m h =>
      (h.flag (x := F.SYS_STATUS_RECOVERY) (by decide)).trans s.core.gessoUp.flag_enterRecovery
  · intro s lanes hq hstep hcause hgood
    have hany : ¬((List.range 16).any fun i => (trainLane (lanes.getD i [])).2.2.2) = true := by
      rw [List.all_eq_not_any_not] at hgood
      simpa using hgood
    have hdone := (dramTrainingDone_trains s.core lanes s.mem hstep hcause).trans (if_neg hany)
    have hatl : (s.core.lanesTrained lanes 16).trainedUp.atl = s.core.atl := (s.core.lanesTrained_atl lanes 16 :)
    refine completes_of_runMem (f := dramTrainingDone lanes) rfl ?_ ?_
    · rw [hdone, hatl]
      exact State.trace_of_quiet hq
    · rw [hdone]
      exact ⟨rfl, (s.core.lanesTrained lanes 16).flag_trainedUp, rfl⟩
  · intro s lanes hq hstep hcause hbad
    have hdone := (dramTrainingDone_trains s.core lanes s.mem hstep hcause).trans (if_pos hbad)
    have hpower : ((s.core.lanesTrained lanes 16).setF F.SYS_STATUS_RECOVERY 1).power = s.core.power :=
      (power_of_backstage (s.core.lanesTrained_backstage lanes 16) :)
    refine completes_of_runMem (f := dramTrainingDone lanes) rfl ?_ ?_
    · rw [hdone]
      exact (congrArg AtelierPart.trace (s.core.lanesTrained_atl lanes 16)).trans (State.trace_of_quiet hq)
    · rw [hdone]
      exact ⟨(congrArg Power.step hpower).trans hstep, (s.core.lanesTrained lanes 16).flag_enterRecovery⟩
  · intro s hq hvin hstep
    have hkept : ((holdupCharged s.core).power.holdup, (holdupCharged s.core).power.step, (holdupCharged s.core).atl) =
        (s.core.charged.power.holdup, s.core.charged.power.step, s.core.charged.atl) :=
      holdupCharged_keeps (g := fun c : Core => (c.power.holdup, c.power.step, c.atl)) (fun _ _ => rfl) (fun _ _ => rfl) (fun _ _ _ => rfl) hvin hstep
    exact completes_of_eq (f := holdupCharged) rfl hq rfl (congrArg (fun x => x.2.2) hkept :)
      ⟨(congrArg (fun x => x.1) hkept :), (congrArg (fun x => x.2.1) hkept :)⟩
  · intro s imageOk prevOk _ hstep hpgood hrec hok
    refine completes_traced_core (f := updateHandoff imageOk prevOk) rfl (updateHandoff_hands hstep hpgood hrec hok) fun t m h => ?_
    have hpower : t.power = s.core.handed.power :=
      h.power.trans (keeps_ite Core.power (power_of_backstage (offstage_backstage.startPrevious _)) rfl)
    exact (congrArg Power.step hpower :)
  · intro s imageOk prevOk hq hstep hpgood hrec hok
    exact completes_of_eq (f := updateHandoff imageOk prevOk) rfl hq (updateHandoff_recovers hstep hpgood hrec hok) rfl
      ⟨rfl, s.core.flag_enterRecovery⟩
  · intro s hq hstep hperst hdeep
    have hon : (s.core.pdUp 12).pdOn 12 = true := s.core.pdOn_pdUp (by decide)
    obtain ⟨hpower, hatl⟩ := s.core.pdUp_parts 12
    have hready := pcieEndpointReady_readies hstep hperst hdeep
    generalize s.core.pdUp 12 = d at hpower hatl hon hready
    obtain ⟨hatl', hendpoint, hstep'⟩ := d.endpointUp_parts
    exact completes_of_eq (f := pcieEndpointReady) rfl hq hready (hatl'.trans hatl)
      ⟨hendpoint, hstep'.trans (by rw [hpower]), (d.pdOn_endpointUp 12).trans hon⟩
  · intro s ms _ hstep hrec
    refine completes_traced_core (f := startReady ms) rfl rfl fun t m h => ?_
    have hpower := h.power.trans (startReady_power ms hstep hrec)
    exact ⟨(congrArg Power.step hpower :), (congrArg Power.engineStop hpower :)⟩
  · intro s _ hoff hstep hpll hqual
    refine completes_traced_core (f := mediaStart) rfl (mediaStart_starts hoff hstep hpll hqual) fun t m h => ?_
    obtain ⟨hup, hon, hstarted, hn⟩ := s.core.mediaUp_parts (s.core.boundaryAt s.core.countOfPtp)
    exact ⟨(congrArg Power.step h.power).trans hup, (congrArg Clk.mediaOn h.clk).trans hon, (congrArg Clk.mediaStarted h.clk).trans hstarted,
      (congrArg TimePart.n h.time).trans hn⟩

end Sys2Proof.Machine
end

section
/-! What loses and regains supply, resets and heat do (R45, R55, R64, R117, R125), the host interface as PCIe resets it, and O10. -/

namespace Sys2Proof.Machine
open Sys2Proof

/-! ### What warnings and holds leave off stage -/

namespace Offstage
variable {α : Type} {g : Core → α} (h : Offstage g)
include h

theorem alert (c : Core) : g c.alert = g (if c.power.alert then c else c.setPower { c.power with alert := true }) := by
  unfold Core.alert
  split
  · rfl
  · exact h.outbox _ _

theorem endSlot (c : Core) (k cause : Nat) (st : Status) (answer : Bool) : g (c.endSlot k cause st answer) = g c := by
  have hfree : g (c.freeUpSlot k cause) = g c :=
    (h.setF _ _ (by simp only [F.UPDATE_SLOT_STATE_CAUSE, R.UPDATE_SLOT_STATE]; omega)).trans ((h.upShow _).trans (h.update c _))
  have htold : ∀ l, g ((c.freeUpSlot k cause).notice? (c.upSlot k).tok st l) = g c := fun l => (h.notice? _ _ _ _).trans hfree
  unfold Core.endSlot
  dsimp only
  refine keeps_ite g rfl (keeps_ite g ?_ (htold _))
  exact keeps_ite g ((h.queueFrame _ _ _).trans (htold _)) ((h.queueFrame _ _ _).trans (htold _))

theorem dropReceptions (c : Core) : g c.dropReceptions = g c := foldl_keeps g _ (fun d k => h.endSlot d k 0 .aborted false) _ c

theorem vinWarned (c : Core) : g c.vinWarned = g c := (h.dropReceptions _).trans (h.flashAllow c)

theorem saveShow (c : Core) : g c.saveShow = g c := keeps_ite g (h.flash c _) (h.flash c _)

theorem vinCleared (c : Core) : g c.vinCleared = g c := by
  have hallow : ∀ x : FlashPart, g ({ c with flash := x } : Core).flashAllow = g c := fun x => (h.flashAllow _).trans (h.flash c x)
  exact keeps_ite g ((h.saveShow _).trans (hallow _)) (hallow _)

theorem surveyHold (c : Core) : g c.surveyHold = g c := (h.survey _ _).trans (h.measureStop c)

end Offstage

theorem Core.saveShow_recPages (c : Core) : c.saveShow.flash.recPages = c.flash.recPages := keeps_ite (fun d : Core => d.flash.recPages) rfl rfl

theorem Core.vinCleared_recPages (c : Core) : c.vinCleared.flash.recPages = 4 :=
  keeps_ite (fun d : Core => d.flash.recPages) (Core.saveShow_recPages _) rfl

theorem Core.alert_alerts (c : Core) : c.alert.power.alert = true := by
  unfold Core.alert
  split
  · next h => exact h
  · rfl

theorem Core.get_alert (c : Core) (off : Nat) : c.alert.get off = c.get off := keeps_ite (Core.get · off) rfl rfl

section Warnings
variable {c : Core}

/-- VIN_WARN is shown and told. -/
def Core.warned (c : Core) : Core := ((c.setF F.SYS_STATUS_VIN_WARN 1).raise F.SYS_INT_STATUS_VIN_WARN).alert

theorem vinWarnSet_warns (hvin : c.power.vinOn = true) (hstep : 2 ≤ c.power.step) (hwarn : c.flag F.SYS_STATUS_VIN_WARN = false) :
    vinWarnSet c = (if c.warned.power.step ≥ 11 then c.warned.count R.SYS_VIN_WARN_COUNT else c.warned).vinWarned :=
  if_neg (by
    rw [hvin, hwarn]
    simp
    omega)

theorem Core.warned_parts (c : Core) : c.warned.flag F.SYS_STATUS_VIN_WARN = true ∧ c.warned.power.alert = true := by
  refine ⟨?_, Core.alert_alerts _⟩
  exact (Core.flag_congr (Core.get_alert _ _)).trans ((Core.flag_congr (Core.get_raise_ne _ (by decide))).trans (c.flag_setF_bit _ _ 1 (by decide)))

theorem vinWarnSet_parts (hvin : c.power.vinOn = true) (hstep : 2 ≤ c.power.step) (hwarn : c.flag F.SYS_STATUS_VIN_WARN = false) :
    (vinWarnSet c).flag F.SYS_STATUS_VIN_WARN = true ∧ (vinWarnSet c).power.alert = true := by
  obtain ⟨hset, halert⟩ := c.warned_parts
  rw [vinWarnSet_warns hvin hstep hwarn]
  generalize c.warned = d at hset halert
  have hcount : ∀ {α : Type} (g : Core → α), g (d.count R.SYS_VIN_WARN_COUNT) = g d →
      g (if d.power.step ≥ 11 then d.count R.SYS_VIN_WARN_COUNT else d) = g d := fun g h => keeps_ite g h rfl
  refine ⟨?_, ?_⟩
  · refine (Core.flag_congr ((offstage_get (by decide)).vinWarned _)).trans ((hcount (Core.flag · F.SYS_STATUS_VIN_WARN) ?_).trans hset)
    exact Core.flag_congr (d.get_count_ne (by decide) (by decide))
  · refine (congrArg Power.alert (power_of_backstage (offstage_backstage.vinWarned _))).trans ((hcount (fun e : Core => e.power.alert) ?_).trans halert)
    exact congrArg Power.alert (power_of_backstage (backstage_of_rest (Core.countN_rest d _ 1)))

/-- VIN_WARN is no longer shown. -/
def Core.unwarned (c : Core) : Core := (c.setF F.SYS_STATUS_VIN_WARN 0).raise F.SYS_INT_STATUS_VIN_WARN_CLEAR

theorem vinWarnClear_clears (hstep : 2 ≤ c.power.step) (hwarn : c.flag F.SYS_STATUS_VIN_WARN = true) : vinWarnClear c = c.unwarned.vinCleared :=
  if_neg (by
    rw [hwarn]
    simp
    omega)

theorem Core.flag_unwarned (c : Core) : c.unwarned.flag F.SYS_STATUS_VIN_WARN = false :=
  (Core.flag_congr (Core.get_raise_ne _ (by decide))).trans (c.flag_setF_bit _ _ 0 (by decide))

end Warnings

/-! ### Resets and deep standby -/

section Resets
variable {c : Core}

/-- The state before supply is lost. -/
def Core.cutOff (c : Core) : Core :=
  let seen := c.power.pgoodSeen
  let c := (((c.relinquish.setPgood false).alert).setF F.SYS_STATUS_STATE 4).cutAudio
  if seen then c.shutdownRecord else c

theorem vinOff_cuts (hvin : c.power.vinOn = true) : vinOff c = c.cutOff.powerOff := if_neg (by rw [hvin]; decide)

/-- RESET_N is held low. -/
def Core.heldInReset (c : Core) : Core := c.setPower { c.power with inReset := true, trip := false }

theorem resetNAssert_resets (hvin : c.power.vinOn = true) (hstep : 3 ≤ c.power.step) (hdeep : c.deep = false) (htrip : c.power.trip = false) :
    resetNAssert c = (c.resetN causeResetN).heldInReset := by
  unfold resetNAssert
  refine (if_neg ?_).trans ((if_neg (by rw [hdeep]; decide)).trans ?_)
  · rw [hvin, hdeep, htrip]
    simp
    omega
  · rw [htrip]
    rfl

theorem Core.heldInReset_parts (c : Core) : c.heldInReset.power.inReset = true ∧ c.heldInReset.power.step = c.power.step ∧
    c.heldInReset.clk = c.clk ∧ c.heldInReset.host = c.host := ⟨rfl, rfl, rfl, rfl⟩

theorem Core.get_heldInReset (c : Core) (off : Nat) : c.heldInReset.get off = c.get off := rfl

/-- RESET_N is high. -/
def Core.released (c : Core) : Core := c.setPower { c.power with inReset := false }

theorem resetNRelease_samples (boot p3 : Bool) (addr : Nat) (hreset : c.power.inReset = true) (hdeep : c.deep = false) :
    resetNRelease boot p3 addr c = if (c.released.sampleStraps boot p3 addr).power.railsOk = true ∧ (c.released.sampleStraps boot p3 addr).power.holdup = true
      then (c.released.sampleStraps boot p3 addr).setPgood true else c.released.sampleStraps boot p3 addr := by
  unfold resetNRelease
  exact (if_neg (by rw [hreset]; decide)).trans (if_neg (by rw [hdeep]; decide))

theorem Core.get_setPgood (c : Core) (good : Bool) {off : Nat} (h : off ≠ R.FLASH_STATUS) : (c.setPgood good).get off = c.get off :=
  Core.setPgood_keeps (g := (Core.get · off)) (fun d _ => d.get_setF_ne _ h) (fun _ _ => rfl) c good rfl

theorem resetNRelease_get (boot p3 : Bool) (addr : Nat) (hreset : c.power.inReset = true) (hdeep : c.deep = false) {off : Nat} (h : off ≠ R.FLASH_STATUS) :
    (resetNRelease boot p3 addr c).get off = (c.released.sampleStraps boot p3 addr).get off := by
  rw [resetNRelease_samples boot p3 addr hreset hdeep]
  exact keeps_ite (Core.get · off) (Core.get_setPgood _ _ h) rfl

theorem resetNRelease_inReset (boot p3 : Bool) (addr : Nat) (hreset : c.power.inReset = true) (hdeep : c.deep = false) :
    (resetNRelease boot p3 addr c).power.inReset = false := by
  have hkept := c.released.sampleStraps_unmapped boot p3 addr
  have hout : (c.released.sampleStraps boot p3 addr).power.inReset = false := (congrArg (fun x : Core => x.power.inReset) hkept :)
  rw [resetNRelease_samples boot p3 addr hreset hdeep]
  generalize c.released.sampleStraps boot p3 addr = d at hout ⊢
  exact (keeps_ite (fun e : Core => e.power.inReset) (Core.setPgood_keeps (g := fun e : Core => e.power.inReset) (fun _ _ => rfl) (fun _ _ => rfl)
    d true rfl) rfl).trans hout

theorem Core.get_keepDram (c old : Core) {off : Nat} (h : dramReg off = false) : (c.keepDram old).get off = c.get off := by
  have hkept : ∀ x ∈ old.regs.filter fun x => dramReg x.1, x.1 ≠ off := fun x hx e => by
    have hdram := (List.mem_filter.mp hx).2
    rw [e, h] at hdram
    exact absurd hdram (by decide)
  refine (smGet_foldl_smSet_ne regReset _ _ hkept).trans (smGet_filter regReset _ _ fun x _ e => ?_)
  rw [e, h]
  rfl

/-- Waking shows VIN_WARN, starts from step 2 and has the DRAM in self-refresh. -/
def Core.awake (c : Core) : Core := (c.setPower { c.power with step := 2 }).setF F.MEMC_STATUS_SELF_REFRESH 1

theorem Core.awake_step (c : Core) : c.awake.power.step = 2 := (congrArg Power.step (power_of_backstage (Core.setF_backstage _ _ _)) :)

theorem Core.get_awake (c : Core) {off : Nat} (h : off ≠ R.MEMC_STATUS) : c.awake.get off = c.get off := Core.get_setF_ne _ 1 h

/-- The domains are off once the module is awake. -/
def Core.woken (c : Core) : Core := (c.setF F.SYS_STATUS_VIN_WARN 1).awake.domainsOff

theorem Core.wake_eq (c : Core) : c.wake = ((c.resetN causeDeepWake).keepDram c).woken := rfl

theorem Core.get_woken (c : Core) {off : Nat} (hstatus : off ≠ R.SYS_STATUS) (hmemc : off ≠ R.MEMC_STATUS) (hpd : off ≠ R.SYS_PD_STATE) :
    c.woken.get off = c.get off := (Core.get_domainsOff _ hpd).trans ((Core.get_awake _ hmemc).trans (c.get_setF_ne 1 hstatus))

theorem Core.step_domainsOff (c : Core) : c.domainsOff.power.step = c.power.step := 
  Core.domainsOff_keeps (g := fun d : Core => d.power.step) (fun _ _ _ => rfl) c

theorem Core.woken_step (c : Core) : c.woken.power.step = 2 := (Core.step_domainsOff _).trans (Core.awake_step _)

theorem Core.cause_wake (c : Core) : c.wake.get R.SYS_RESET_CAUSE = .ofNat 32 causeDeepWake := by
  rw [Core.wake_eq]
  refine (Core.get_woken _ (by decide) (by decide) (by decide)).trans ((Core.get_keepDram _ c (by decide)).trans ?_)
  exact c.cause_resetN causeDeepWake

theorem Core.wake_parts (c : Core) : c.wake.power.step = 2 ∧ c.wake.get R.SYS_RESET_CAUSE = 32 :=
  ⟨(congrArg (fun x : Core => x.power.step) c.wake_eq).trans (Core.woken_step _), c.cause_wake⟩

theorem wakeNFall_wakes (hdeep : c.deep = true) (hreset : c.power.inReset = false) : wakeNFall c = c.wake := if_pos (by rw [hdeep, hreset]; decide)

/-- The backup counter is at the time of the wake. -/
def Core.wokenAt (c : Core) : Core :=
  let at_ := (c.get R.SYS_WAKE_AT_LO).toNat + c.f F.SYS_WAKE_AT_HI_SEC * 2 ^ 32
  let now := (c.get R.SYS_BACKUP_SEC_LO).toNat + c.f F.SYS_BACKUP_SEC_HI_SEC * 2 ^ 32
  let t := max at_ now
  (c.put R.SYS_BACKUP_SEC_LO (.ofNat 32 t)).setF F.SYS_BACKUP_SEC_HI_SEC (t / 2 ^ 32)

theorem wakeAtReached_wakes (hdeep : c.deep = true) (hreset : c.power.inReset = false) (hen : c.flag F.SYS_STANDBY_CTRL_WAKE_AT_EN = true) :
    wakeAtReached c = c.wokenAt.wake := if_pos (by rw [hdeep, hreset, hen]; decide)

theorem moduleReset_resets (hdue : c.power.resetDue = true) : moduleReset c = c.cutAudio.resetN causeModule := if_pos hdue

theorem Core.resetDue_resetN (c : Core) (cause : Nat) : (c.resetN cause).power.resetDue = false :=
  (congrArg (fun x : Core => x.power.resetDue) (c.resetN_unmapped cause) :)

theorem Core.pgood_setPgood (c : Core) (good : Bool) : (c.setPgood good).power.pgood = good := by
  unfold Core.setPgood
  split
  · next h => exact h
  · rfl

end Resets

end Sys2Proof.Machine
end

section
/-! The host interface as PCIe resets it and as a restart ends, heat, and O10 (R55, R65, R117, R118, R125). -/

namespace Sys2Proof.Machine
open Sys2Proof

/-! ### What waits at the host interface -/

/-- A reading that frames, messages that go out at once and registers leave alone. -/
structure Waiting {α : Type} (g : Core → α) : Prop where
  put : ∀ (c : Core) (off : Nat) (w : Word), g (c.put off w) = g c
  outbox : ∀ (c : Core) (l : List Msg), g { c with outbox := l } = g c
  gained : ∀ (c : Core) (l : List Nat), g { c with host := { c.host with gained := l } } = g c
  pba : ∀ (c : Core) (n : Nat), g { c with host := { c.host with pba := n } } = g c
  ops : ∀ (c : Core) (l : List Tok), g { c with host := { c.host with ops := l } } = g c
  net : ∀ (c : Core) (x : NetPart), g { c with net := x } = g c
  update : ∀ (c : Core) (x : UpdatePart), g { c with update := x } = g c
  health : ∀ (c : Core) (x : HealthPart), g { c with health := x } = g c
  twin : ∀ (c : Core) (x : TwinPart), g { c with twin := x } = g c
  flash : ∀ (c : Core) (x : FlashPart), g { c with flash := x } = g c

namespace Waiting
variable {α : Type} {g : Core → α} (h : Waiting g)
include h

theorem setF (c : Core) (x : Field) (v : Nat) : g (c.setF x v) = g c := h.put c _ _

theorem msix (c : Core) (v : Nat) : g (c.msix v) = g c := keeps_ite g (h.pba c _) (h.outbox c _)

theorem raise (c : Core) (x : Field) : g (c.raise x) = g c :=
  Core.raise_keeps h.setF h.gained (fun d _ => keeps_ite g (h.msix d _) rfl) c x

theorem raise? (c : Core) (x : Option Field) : g (c.raise? x) = g c := by
  cases x with
  | none => rfl
  | some y => exact h.raise c y

theorem countN (c : Core) (r n : Nat) : g (c.countN r n) = g c := by
  unfold Core.countN Core.countS
  dsimp only
  exact keeps_ite g ((h.raise? _ _).trans ((h.setF _ _ _).trans (h.setF c _ _))) (h.setF c _ _)

theorem countW (c : Core) (r n : Nat) : g (c.countW r n) = g c := keeps_ite g ((h.raise? _ _).trans (h.put c _ _)) (h.put c _ _)

theorem count (c : Core) (r : Nat) : g (c.count r) = g c := h.countN c r 1

theorem queueFrame (c : Core) (p : Nat) (f : TxFrame) : g (c.queueFrame p f) = g c := by
  have htold : ∀ r x, g ((c.count r).raise x) = g c := fun r x => (h.raise _ _).trans (h.count c r)
  unfold Core.queueFrame
  refine keeps_ite g ?_ (keeps_ite g (htold _ _) (h.net c _))
  split
  · exact htold _ _
  · rfl

theorem queueDatagram (c : Core) (n : Nat) (m : Msg) : g (c.queueDatagram n m) = g c :=
  (h.queueFrame _ _ _).trans (foldl_keeps g _ (fun d _ => h.queueFrame d 3 _) _ c)

theorem ring (c : Core) (b : Nat) : g (c.ring b) = g c :=
  keeps_ite g rfl (keeps_ite g (h.setF c _ _) ((h.msix _ _).trans (h.setF c _ _)))

theorem ringPut (c : Core) (m : Msg) : g (c.ringPut m) = g c := (h.ring _ _).trans ((h.setF _ _ _).trans (h.outbox c _))

/-- A message for a session that is not on PCIe. -/
theorem post (c : Core) {tr : Transport} (htr : isPcie tr = false) (a b d : Nat) (q : Word) (e : Nat) (l : List Byte) :
    g (c.post (.easel tr a b d q e l)) = g c := by
  cases tr with
  | pcie => exact absurd htr (by decide)
  | udp ip port => exact h.queueDatagram c _ _
  | mailbox p => exact h.outbox c _

theorem upShow (c : Core) : g c.upShow = g c := by
  unfold Core.upShow
  dsimp only
  refine (foldl_keeps g _ (fun d k => ?_) _ _).trans ?_
  · exact (h.put _ _ _).trans ((h.put _ _ _).trans ((h.put _ _ _).trans ((h.put _ _ _).trans ((h.put _ _ _).trans (h.put d _ _)))))
  · refine (h.put _ _ _).trans ((h.put _ _ _).trans ((h.put _ _ _).trans ((h.put _ _ _).trans ?_)))
    refine (foldl_keeps g (fun (c : Core) w => c.put (R.UPDATE_DIGEST w) _) (fun d w => h.put d _ _) _ _).trans ?_
    exact (h.put _ _ _).trans ((h.put _ _ _).trans (h.put c _ _))

theorem smudgeEnd (c : Core) : g c.smudgeEnd = g c := by
  have hledger : ∀ d : Core, g (d.ledger 11 0 0 0 0 true) = g d := fun d =>
    keeps_ite g (h.count d _) ((h.put _ _ _).trans (h.health d _))
  unfold Core.smudgeEnd
  refine keeps_ite g rfl ((hledger _).trans ((h.raise _ _).trans ?_))
  exact (h.put _ _ _).trans ((h.put _ _ _).trans ((h.put _ _ _).trans ((h.put _ _ _).trans (h.health c _))))

end Waiting

/-- Held replies and sessions. -/
def Core.hands (c : Core) : List Msg × List Session := (c.host.held, c.host.sessions)

theorem waiting_hands : Waiting Core.hands where
  put _ _ _ := rfl
  outbox _ _ := rfl
  gained _ _ := rfl
  pba _ _ := rfl
  ops _ _ := rfl
  net _ _ := rfl
  update _ _ := rfl
  health _ _ := rfl
  twin _ _ := rfl
  flash _ _ := rfl

theorem waiting_later : Waiting fun c => c.host.later where
  put _ _ _ := rfl
  outbox _ _ := rfl
  gained _ _ := rfl
  pba _ _ := rfl
  ops _ _ := rfl
  net _ _ := rfl
  update _ _ := rfl
  health _ _ := rfl
  twin _ _ := rfl
  flash _ _ := rfl

/-- No session is on PCIe. -/
def Core.offPcie (c : Core) : Prop := ∀ x ∈ c.host.sessions, isPcie x.transport = false

theorem offPcie_of_hands {c d : Core} (h : d.hands = c.hands) (hc : c.offPcie) : d.offPcie := by
  have hs : d.host.sessions = c.host.sessions := congrArg Prod.snd h
  unfold Core.offPcie
  rw [hs]
  exact hc

section OffPcie
variable {c : Core}

theorem Core.notice_hands (h : c.offPcie) (t : Tok) (st : Status) (l : List Byte) : (c.notice t st l).hands = c.hands := by
  have hops := waiting_hands.ops c (c.host.ops.erase t)
  have hoff := offPcie_of_hands hops h
  unfold Core.notice
  refine keeps_ite Core.hands ?_ rfl
  refine Eq.trans ?_ hops
  generalize ({ c with host := { c.host with ops := c.host.ops.erase t } } : Core) = d at hoff ⊢
  refine keeps_ite Core.hands rfl ?_
  split
  · next s hs =>
    unfold Core.postAfter
    split
    · exact waiting_hands.twin d _
    · exact waiting_hands.post d (hoff s (List.mem_of_find?_eq_some hs)) _ _ _ _ _ _
  · rfl

theorem Core.endSlot_hands (h : c.offPcie) (k cause : Nat) (st : Status) (answer : Bool) : (c.endSlot k cause st answer).hands = c.hands := by
  have hfree : (c.freeUpSlot k cause).hands = c.hands := (waiting_hands.setF _ _ _).trans ((waiting_hands.upShow _).trans (waiting_hands.update c _))
  have hoff := offPcie_of_hands hfree h
  have htold : ∀ l, ((c.freeUpSlot k cause).notice? (c.upSlot k).tok st l).hands = c.hands := fun l => by
    generalize c.freeUpSlot k cause = d at hfree hoff ⊢
    cases (c.upSlot k).tok with
    | none => exact hfree
    | some t => exact (Core.notice_hands hoff t st l).trans hfree
  unfold Core.endSlot
  dsimp only
  refine keeps_ite Core.hands rfl (keeps_ite Core.hands ?_ (htold _))
  exact keeps_ite Core.hands ((waiting_hands.queueFrame _ _ _).trans (htold _)) ((waiting_hands.queueFrame _ _ _).trans (htold _))

theorem Core.sessionsGone_hands (h : c.offPcie) : c.sessionsGone.hands = c.hands := by
  have hslots : ∀ gone l, ((c.setWrites l).slotsGone gone).hands = c.hands := fun gone l => by
    have hend : ∀ (d : Core) (k : Nat), d.hands = c.hands → (match (d.upSlot k).session with
        | some s => if (d.upSlot k).state = 1 ∧ gone s then d.endSlot k 0 .aborted false else d
        | none => d).hands = c.hands := fun d k hd => by
      split
      · exact keeps_ite Core.hands ((Core.endSlot_hands (offPcie_of_hands hd h) _ _ _ _).trans hd) hd
      · exact hd
    exact hend _ 1 (hend (c.setWrites l) 0 (waiting_hands.flash c _))
  unfold Core.sessionsGone
  exact keeps_ite Core.hands ((waiting_hands.smudgeEnd _).trans (hslots _ _)) (hslots _ _)

theorem Core.sessionsGone_held (h : c.offPcie) : c.sessionsGone.host.held = c.host.held := congrArg Prod.fst (Core.sessionsGone_hands h)

end OffPcie

section PcieReset
variable (c : Core)

theorem Core.clearF2H_hands (n : Nat) : (c.clearF2H n).hands = c.hands := keeps_ite Core.hands rfl rfl

theorem Core.releaseHolds_hands (q : Nat → Bool) : (c.releaseHolds q).hands = c.hands := by
  refine foldl_keeps Core.hands _ (fun d n => ?_) _ c
  split
  · split <;> rfl
  · rfl

/-- A reset of the host interface holds no reply. -/
theorem Core.held_hostReset : c.hostReset.host.held = [] := by
  have hfold : ∀ d : Core, (((List.range 16).foldl Core.clearF2H d).releaseHolds (· = 8)).hands = d.hands := fun d =>
    (Core.releaseHolds_hands _ _).trans (foldl_keeps Core.hands _ (fun e n => e.clearF2H_hands n) _ d)
  have hcleared : c.hostCleared.host.held = [] := by
    unfold Core.hostCleared
    dsimp only
    generalize c.closeSessions isPcie = d
    have hd := hfold { d with host := { d.host with held := [], ring := [], unread := [] } }
    generalize ((List.range 16).foldl Core.clearF2H _).releaseHolds (· = 8) = e at hd ⊢
    exact (congrArg Prod.fst hd :)
  obtain ⟨_, hhost, _, _⟩ := c.hostCleared.hostOff_parts
  rw [Core.hostReset_eq, hhost, hcleared]

theorem Core.offPcie_hostReset : c.hostReset.offPcie := fun x hx => by
  obtain ⟨_, hall, _, _⟩ := c.hostReset_parts
  simpa using List.all_eq_true.mp hall x hx

theorem Core.held_sessionsGone : c.hostReset.sessionsGone.host.held = [] :=
  (Core.sessionsGone_held c.offPcie_hostReset).trans c.held_hostReset

/-- The endpoint is in reset. -/
def Core.perstLow (c : Core) : Core := c.setPower { c.power with perst := true, endpointReady := false }

theorem pciePerstAssert_eq : pciePerstAssert c = c.hostReset.sessionsGone.perstLow := rfl

theorem Core.perstLow_parts : c.perstLow.power.perst = true ∧ c.perstLow.power.endpointReady = false ∧ c.perstLow.host = c.host := ⟨rfl, rfl, rfl⟩

end PcieReset

/-! ### Heat (R55) -/

section Heat
variable {c : Core}

/-- The measured temperatures are shown. -/
def Core.heated (c : Core) (die board : Int) : Core := (c.setF F.SYS_TDIE_TDIE (unsigned 16 die)).setF F.SYS_TBOARD_TBOARD (unsigned 16 board)

theorem unsigned_lt (n : Nat) (v : Int) : unsigned n v < 2 ^ n := by
  have hpos : (0 : Int) < ((2 ^ n : Nat) : Int) := by exact_mod_cast Nat.two_pow_pos n
  have hlt := Int.emod_lt_of_pos v hpos
  have hge := Int.emod_nonneg v (ne_of_gt hpos)
  unfold unsigned
  omega

theorem Core.heated_shows (c : Core) (die board : Int) : (c.heated die board).f F.SYS_TDIE_TDIE = unsigned 16 die ∧
    (c.heated die board).f F.SYS_TBOARD_TBOARD = unsigned 16 board :=
  ⟨(Core.f_congr (Core.get_setF_ne _ _ (by decide))).trans ((c.f_setF_field _ (by decide) (by decide)).trans (Nat.mod_eq_of_lt (unsigned_lt 16 die))),
    (Core.f_setF_field _ _ (by decide) (by decide)).trans (Nat.mod_eq_of_lt (unsigned_lt 16 board))⟩

theorem Core.get_measured (c : Core) (die board : Int) {off : Nat} (hdie : off ≠ R.SYS_TDIE) (hboard : off ≠ R.SYS_TBOARD) :
    (c.heated die board).get off = c.get off := (Core.get_setF_ne _ _ hboard).trans (c.get_setF_ne _ hdie)

theorem Core.heated_backstage (c : Core) (die board : Int) : (c.heated die board).backstage = c.backstage :=
  (Core.setF_backstage _ _ _).trans (c.setF_backstage _ _)

/-- The warning of heat is shown or withdrawn. -/
def Core.thermWarned (c : Core) (die : Int) : Core :=
  if die ≥ 1000 ∧ !c.flag F.SYS_STATUS_THERM_WARN then ((c.setF F.SYS_STATUS_THERM_WARN 1).raise F.SYS_INT_STATUS_THERM_WARN).alert
  else if die < 950 then c.setF F.SYS_STATUS_THERM_WARN 0 else c

theorem Core.thermWarned_keeps {α : Type} {g : Core → α} (hset : ∀ (c : Core) (v : Nat), g (c.setF F.SYS_STATUS_THERM_WARN v) = g c)
    (hraise : ∀ c : Core, g (c.raise F.SYS_INT_STATUS_THERM_WARN) = g c) (halert : ∀ c : Core, g c.alert = g c) (c : Core) (die : Int) :
    g (c.thermWarned die) = g c :=
  keeps_ite g ((halert _).trans ((hraise _).trans (hset c 1))) (keeps_ite g (hset c 0) rfl)

/-- Mute and hold is due. -/
def Core.holdNow (c : Core) : Core := c.setPower { c.power with holdDue := true }

theorem tempMeasure_measures {die board : Int} (hvin : c.power.vinOn = true) (htrip : c.power.trip = false) (hdie : die < 1250) (hboard : board < 1200) :
    tempMeasure die board c = if die ≥ 1150 ∧ !((c.heated die board).thermWarned die).flag F.SYS_STATUS_THERM_HOLD
      then ((c.heated die board).thermWarned die).holdNow else (c.heated die board).thermWarned die := by
  have hkept : (c.heated die board).power.trip = false := (congrArg Power.trip (power_of_backstage (c.heated_backstage die board))).trans htrip
  unfold tempMeasure
  refine (if_neg (by rw [hvin]; decide)).trans ((if_neg fun h => ?_).trans (if_neg (by omega)))
  exact absurd (hkept.symm.trans h) (by decide)

theorem tempMeasure_trips {die board : Int} (hvin : c.power.vinOn = true) (htrip : c.power.trip = false) (hhot : 1250 ≤ die ∨ 1200 ≤ board) :
    tempMeasure die board c = (c.heated die board).thermalTrip := by
  have hkept : (c.heated die board).power.trip = false := (congrArg Power.trip (power_of_backstage (c.heated_backstage die board))).trans htrip
  unfold tempMeasure
  refine (if_neg (by rw [hvin]; decide)).trans ((if_neg fun h => ?_).trans (if_pos (by omega)))
  exact absurd (hkept.symm.trans h) (by decide)

theorem Core.alert_keeps {α : Type} {g : Core → α} (hpower : ∀ (c : Core) (b : Bool), g (c.setPower { c.power with alert := b }) = g c)
    (hout : ∀ (c : Core) (l : List Msg), g { c with outbox := l } = g c) (c : Core) : g c.alert = g c :=
  keeps_ite g rfl ((hout _ _).trans (hpower c true))

/-- What a measurement below the trip leaves to be read. -/
theorem tempMeasure_parts {die board : Int} (hvin : c.power.vinOn = true) (htrip : c.power.trip = false) (hdie : die < 1250) (hboard : board < 1200) :
    (tempMeasure die board c).f F.SYS_TDIE_TDIE = unsigned 16 die ∧ (tempMeasure die board c).f F.SYS_TBOARD_TBOARD = unsigned 16 board ∧
    (tempMeasure die board c).power.trip = false ∧
    (tempMeasure die board c).power.holdDue = (c.power.holdDue || (decide (1150 ≤ die) && !c.flag F.SYS_STATUS_THERM_HOLD)) := by
  obtain ⟨htdie, htboard⟩ := c.heated_shows die board
  have hpower := power_of_backstage (c.heated_backstage die board)
  have hhold : (c.heated die board).flag F.SYS_STATUS_THERM_HOLD = c.flag F.SYS_STATUS_THERM_HOLD :=
    Core.flag_congr (c.get_measured die board (by decide) (by decide))
  rw [tempMeasure_measures hvin htrip hdie hboard]
  generalize c.heated die board = d at htdie htboard hpower hhold ⊢
  have hget : ∀ {off : Nat}, off ≠ R.SYS_STATUS → off ≠ R.SYS_INT_STATUS → (d.thermWarned die).get off = d.get off := fun hs hi =>
    Core.thermWarned_keeps (g := (Core.get · _)) (fun e v => e.get_setF_ne v hs) (fun e => e.get_raise_ne hi) (fun e => e.get_alert _) d die
  have hflag : (d.thermWarned die).flag F.SYS_STATUS_THERM_HOLD = d.flag F.SYS_STATUS_THERM_HOLD :=
    Core.thermWarned_keeps (g := (Core.flag · F.SYS_STATUS_THERM_HOLD)) (fun e v => e.flag_setF_beside v (by decide) (by decide) (by decide))
      (fun e => Core.flag_congr (e.get_raise_ne (by decide))) (fun e => Core.flag_congr (e.get_alert _)) d die
  have hkept : ((d.thermWarned die).power.trip, (d.thermWarned die).power.holdDue) = (d.power.trip, d.power.holdDue) := by
    refine Core.thermWarned_keeps (g := fun e : Core => (e.power.trip, e.power.holdDue)) (fun _ _ => rfl) (fun e => ?_)
      (Core.alert_keeps (g := fun e : Core => (e.power.trip, e.power.holdDue)) (fun _ _ => rfl) fun _ _ => rfl) d die
    rw [power_of_backstage (backstage_of_rest (e.raise_rest _))]
  have hdieget := hget (off := R.SYS_TDIE) (by decide) (by decide)
  have hboardget := hget (off := R.SYS_TBOARD) (by decide) (by decide)
  generalize d.thermWarned die = e at hdieget hboardget hflag hkept
  have htrip' : e.power.trip = c.power.trip := (congrArg Prod.fst hkept).trans (congrArg Power.trip hpower)
  have hdue : e.power.holdDue = c.power.holdDue := (congrArg Prod.snd hkept).trans (congrArg Power.holdDue hpower)
  have hreg : ∀ (x : Field) (b : Bool), (if die ≥ 1150 ∧ b = true then e.holdNow else e).f x = e.f x := fun x b => keeps_ite (Core.f · x) rfl rfl
  rw [hflag.trans hhold]
  refine ⟨(hreg _ _).trans ((Core.f_congr hdieget).trans htdie), (hreg _ _).trans ((Core.f_congr hboardget).trans htboard), ?_, ?_⟩
  · split
    · exact htrip'.trans htrip
    · exact htrip'.trans htrip
  · by_cases hheat : 1150 ≤ die
    · cases c.flag F.SYS_STATUS_THERM_HOLD
      · rw [if_pos ⟨hheat, rfl⟩, decide_eq_true hheat, Bool.not_false, Bool.and_true, Bool.or_true]
        rfl
      · rw [if_neg fun h => absurd h.2 (by decide), Bool.not_true, Bool.and_false, Bool.or_false, hdue]
    · rw [if_neg fun h => hheat h.1, decide_eq_false hheat, Bool.false_and, Bool.or_false, hdue]

/-- The module is off by heat, before its domains are. -/
def Core.tripped (c : Core) : Core :=
  let c := (c.setPgood false).alert
  let c := c.faultReset c.power.cause
  { c with power := { c.power with trip := true } }.setF F.SYS_STATUS_STATE 4

theorem Core.thermalTrip_eq (c : Core) : c.thermalTrip = c.tripped.domainsOff := rfl

theorem Core.shutdownRecord_backstage (c : Core) : c.shutdownRecord.backstage = c.backstage := by
  unfold Core.shutdownRecord Core.writeRecord
  split <;> rfl

theorem Core.pgood_faultReset (c : Core) (cause : Nat) : (c.faultReset cause).power.pgood = c.power.pgood := by
  have hrecord : c.cutAudio.shutdownRecord.power = c.power := (power_of_backstage (Core.shutdownRecord_backstage _)).trans rfl
  unfold Core.faultReset
  generalize c.cutAudio.shutdownRecord = d at hrecord ⊢
  have hreset : (d.resetN cause).power.pgood = d.power.pgood := (congrArg (fun x : Core => x.power.pgood) (d.resetN_unmapped cause) :)
  rw [hreset, hrecord]

theorem Core.tripped_parts (c : Core) : c.tripped.power.trip = true ∧ c.tripped.power.pgood = false ∧ c.tripped.atl.trace = [] := by
  have hgood : (c.setPgood false).alert.power.pgood = false :=
    (Core.alert_keeps (g := fun e : Core => e.power.pgood) (fun _ _ => rfl) (fun _ _ => rfl) _).trans (c.pgood_setPgood false)
  unfold Core.tripped
  dsimp only
  generalize (c.setPgood false).alert = d at hgood ⊢
  have hreset := (d.pgood_faultReset d.power.cause).trans hgood
  obtain ⟨_, _, _, htrace⟩ := d.cutAudio.shutdownRecord.resetN_parts d.power.cause
  have htrace : (d.faultReset d.power.cause).atl.trace = [] := htrace
  generalize d.faultReset d.power.cause = e at hreset htrace ⊢
  exact ⟨rfl, hreset, htrace⟩

theorem Core.thermalTrip_parts (c : Core) : c.thermalTrip.power.trip = true ∧ c.thermalTrip.power.pgood = false ∧ c.thermalTrip.atl.trace = [] := by
  obtain ⟨htrip, hgood, htrace⟩ := c.tripped_parts
  rw [Core.thermalTrip_eq]
  generalize c.tripped = d at htrip hgood htrace ⊢
  have h : (d.domainsOff.power, d.domainsOff.atl) = (d.power, d.atl) :=
    Core.domainsOff_keeps (g := fun e : Core => (e.power, e.atl)) (fun _ _ _ => rfl) d
  generalize d.domainsOff = e at h ⊢
  exact ⟨(congrArg (fun x => x.1.trip) h :).trans htrip, (congrArg (fun x => x.1.pgood) h :).trans hgood, (congrArg (fun x => x.2.trace) h :).trans htrace⟩

/-- Mute and hold is shown and told. -/
def Core.onHold (c : Core) : Core :=
  (((c.setPower { c.power with holdDue := false }).setF F.SYS_STATUS_THERM_HOLD 1).raise F.SYS_INT_STATUS_THERM_HOLD).alert

theorem muteAndHold_holds (hdue : c.power.holdDue = true) :
    muteAndHold c = ((c.onHold.fadeOut c.onHold.time.n c.onHold.blk).stopEngines).holdHooks := if_neg (by rw [hdue]; decide)

theorem Core.onHold_parts (c : Core) : c.onHold.power.holdDue = false ∧ c.onHold.clk = c.clk ∧ c.onHold.time = c.time ∧
    c.onHold.flag F.SYS_STATUS_THERM_HOLD = true := by
  unfold Core.onHold
  have hset : ((c.setPower { c.power with holdDue := false }).setF F.SYS_STATUS_THERM_HOLD 1).flag F.SYS_STATUS_THERM_HOLD = true :=
    Core.flag_setF_bit _ _ _ 1 (by decide)
  have hstage := (c.setPower { c.power with holdDue := false }).setF_backstage F.SYS_STATUS_THERM_HOLD 1
  generalize (c.setPower { c.power with holdDue := false }).setF F.SYS_STATUS_THERM_HOLD 1 = d at hset hstage ⊢
  have hraise := (backstage_of_rest (d.raise_rest F.SYS_INT_STATUS_THERM_HOLD)).trans hstage
  have hflag := (Core.flag_congr (x := F.SYS_STATUS_THERM_HOLD) (d.get_raise_ne (x := F.SYS_INT_STATUS_THERM_HOLD) (by decide))).trans hset
  generalize d.raise F.SYS_INT_STATUS_THERM_HOLD = e at hraise hflag ⊢
  have halert : (e.alert.power.holdDue, e.alert.clk, e.alert.time) = (e.power.holdDue, e.clk, e.time) :=
    Core.alert_keeps (g := fun x : Core => (x.power.holdDue, x.clk, x.time)) (fun _ _ => rfl) (fun _ _ => rfl) e
  exact ⟨(congrArg Prod.fst halert :).trans (congrArg Power.holdDue (power_of_backstage hraise)),
    (congrArg (fun x => x.2.1) halert :).trans (congrArg (fun x : Power × Clk × TimePart => x.2.1) hraise :), (congrArg (fun x => x.2.2) halert :).trans (congrArg (fun x : Power × Clk × TimePart => x.2.2) hraise :),
    (Core.flag_congr (e.get_alert _)).trans hflag⟩

/-- Outputs fade and engines stop. -/
def Core.quieted (c : Core) : Core := ((c.fadeOut c.time.n c.blk).setPower { c.power with engineStop := true })

theorem Core.stopped_backstage (c : Core) : ((c.fadeOut c.time.n c.blk).stopEngines).holdHooks.backstage = c.quieted.backstage :=
  (offstage_backstage.surveyHold _).trans ((Core.setF_backstage _ _ _).trans (Core.setF_backstage _ _ _))

theorem Core.get_stopped (c : Core) {off : Nat} (h : off < 0x300000) : ((c.fadeOut c.time.n c.blk).stopEngines).holdHooks.get off = c.get off :=
  ((offstage_get h).surveyHold _).trans ((Core.get_setF_ne _ _ (by simp only [F.RENDER_STATUS_RUNNING, R.RENDER_STATUS]; omega)).trans
    (Core.get_setF_ne _ _ (by simp only [F.CALIPER_STATUS_RUNNING, R.CALIPER_STATUS]; omega)))

/-- The hold is over. -/
def Core.cooled (c : Core) : Core := (c.setF F.SYS_STATUS_THERM_HOLD 0).raise F.SYS_INT_STATUS_THERM_RESUME

theorem Core.cooled_parts (c : Core) : c.cooled.backstage = c.backstage ∧ c.cooled.flag F.SYS_STATUS_THERM_HOLD = false ∧
    c.cooled.f F.SYS_STATUS_STATE = c.f F.SYS_STATUS_STATE :=
  ⟨(backstage_of_rest (Core.raise_rest _ _)).trans (c.setF_backstage _ _), (Core.flag_congr (Core.get_raise_ne _ (by decide))).trans (c.flag_setF_bit _ _ 0 (by decide)),
    (Core.f_congr (Core.get_raise_ne _ (by decide))).trans (c.f_setF_beside 0 (by decide) (by decide) (by decide) (by decide))⟩

theorem thermalResume_resumes (hhold : c.flag F.SYS_STATUS_THERM_HOLD = true) (hcool : c.dieCool = true) (hrun : c.f F.SYS_STATUS_STATE = 1) :
    thermalResume c = (c.cooled.startEngines c.cooled.time.n).fadeInFrom (c.cooled.time.n + 4 * c.cooled.blk) := by
  unfold thermalResume
  refine (if_neg (by rw [hhold, hcool]; decide)).trans (if_pos ?_)
  exact c.cooled_parts.2.2.trans hrun

end Heat

end Sys2Proof.Machine
end

section
/-! The PCIe link, the end of a control-plane restart, and O10 (R65, R117, R118). -/

namespace Sys2Proof.Machine
open Sys2Proof

theorem pcieLinkTrained_parts {c : Core} {gen width : Nat} (hvin : c.power.vinOn = true) (hperst : c.power.perst = false) (hlo : 1 ≤ gen) (hhi : gen ≤ 4)
    (hw : width = 1 ∨ width = 2 ∨ width = 4) : (pcieLinkTrained gen width c).flag F.HOST_STATUS_LINK_UP = true ∧
    (pcieLinkTrained gen width c).f F.HOST_STATUS_SPEED = gen ∧ (pcieLinkTrained gen width c).f F.HOST_STATUS_WIDTH = width := by
  have h : pcieLinkTrained gen width c = ((c.setF F.HOST_STATUS_LINK_UP 1).setF F.HOST_STATUS_SPEED gen).setF F.HOST_STATUS_WIDTH width :=
    if_neg (by
      rw [hvin, hperst]
      simp
      omega)
  have hgen : gen % 2 ^ (3 - 1 + 1) = gen := Nat.mod_eq_of_lt (by omega)
  have hwidth : width % 2 ^ (6 - 4 + 1) = width := Nat.mod_eq_of_lt (by omega)
  rw [h]
  refine ⟨?_, ?_, (Core.f_setF_field _ _ (by decide) (by decide)).trans hwidth⟩
  · refine (Core.flag_setF_beside _ _ (show 4 ≤ 6 by decide) (by decide) (by decide)).trans ?_
    exact (Core.flag_setF_beside _ _ (show 1 ≤ 3 by decide) (by decide) (by decide)).trans (c.flag_setF_bit _ _ 1 (by decide))
  · exact (Core.f_setF_beside _ _ (show 4 ≤ 6 by decide) (by decide) (show 1 ≤ 3 by decide) (by decide)).trans
      ((Core.f_setF_field _ _ (by decide) (by decide)).trans hgen)

/-! ### The end of a restart (R65) -/

section RestartEnd
variable (c : Core)

/-- A scheduled activation that runs is over. -/
def Core.activationOver : Core :=
  match c.update.sched with
  | some s => if s.running then c.activated s else c
  | none => c

theorem controlPlaneRestartEnd_ends {c : Core} (h : c.flag F.HOST_STATUS_RESTARTING = true) : controlPlaneRestartEnd c = c.activationOver.restartEnd :=
  if_neg (by rw [h]; decide)

theorem Core.status_activated (s : UpSched) : (c.activated s).get R.HOST_STATUS = c.get R.HOST_STATUS := by
  have hlow : R.HOST_STATUS < 0x400000 := by decide
  have hunsaid : Unsaid (Core.get · R.HOST_STATUS) := unsaid_get (by decide) (by decide) (by decide)
  have hput : ∀ (d : Core) {r : Nat} (w : Word), 0x400000 ≤ r → (d.put r w).get R.HOST_STATUS = d.get R.HOST_STATUS := fun d r w hr =>
    d.get_put_high hlow w hr
  have hraise : ∀ (d : Core) (x : Field), 0x400000 ≤ x.off → (d.raise x).get R.HOST_STATUS = d.get R.HOST_STATUS := fun d x hx =>
    d.get_raise_ne (by omega)
  have hup : ∀ d : Core, d.upShow.get R.HOST_STATUS = d.get R.HOST_STATUS := fun d => d.get_upShow hlow
  have hpeer : ∀ (d : Core) (n : Nat), (d.peerGo n 0).get R.HOST_STATUS = d.get R.HOST_STATUS := fun d n =>
    keeps_ite (Core.get · R.HOST_STATUS) rfl ((hraise _ _ (by decide)).trans (hput d _ (by simp only [F.UPDATE_PEER_STATE_PEER, R.UPDATE_PEER_STATE]; omega)))
  have hpeers : ∀ d : Core, ((List.range 4).foldl (fun (e : Core) n => e.peerGo n 0) d).get R.HOST_STATUS = d.get R.HOST_STATUS := fun d =>
    foldl_keeps (Core.get · R.HOST_STATUS) _ hpeer _ d
  have hover : ∀ d : Core, d.sessionOver.get R.HOST_STATUS = d.get R.HOST_STATUS := fun d => by
    unfold Core.sessionOver
    dsimp only
    split
    · exact (hup _).trans ((hup _).trans (hpeers _))
    · exact (hup _).trans (hpeers _)
  have hactive : ∀ d : Core, d.showActive.get R.HOST_STATUS = d.get R.HOST_STATUS := fun d => (hput _ _ (by decide)).trans (hput d _ (by decide))
  have htold : ∀ (d : Core) (t : Option Tok), (d.notice? t .ok []).get R.HOST_STATUS = d.get R.HOST_STATUS := fun d t => by
    cases t with
    | none => rfl
    | some t => exact hunsaid.notice d t _ _
  unfold Core.activated
  dsimp only
  refine (htold _ _).trans ((hraise _ _ (by decide)).trans ((hactive _).trans ?_))
  exact keeps_ite (Core.get · R.HOST_STATUS) (hup _) (hover _)

theorem Core.status_activationOver : c.activationOver.get R.HOST_STATUS = c.get R.HOST_STATUS := by
  unfold Core.activationOver
  split
  · exact keeps_ite (Core.get · R.HOST_STATUS) (c.status_activated _) rfl
  · rfl

/-- Easel is open again. -/
def Core.reopened : Core := ((c.setF F.HOST_STATUS_RESTARTING 0).setF F.HOST_STATUS_EASEL_READY 1).ring 6

/-- The completions that have waited go out. -/
def Core.tellLater (l : List (Tok × Nat × List Byte)) : Core :=
  l.foldl (fun c x =>
    match c.session? x.1.session with
    | some s => c.post (.easel s.transport 1 x.2.1 x.1.opcode x.1.seq x.1.session x.2.2)
    | none => c) c

/-- No completion waits. -/
def Core.noneLater : Core := { c with host := { c.host with later := [] } }

theorem Core.restartEnd_eq {c : Core} (h : c.flag F.HOST_STATUS_RESTARTING = true) : c.restartEnd = c.reopened.noneLater.tellLater c.reopened.host.later :=
  if_neg (by rw [h]; decide)

theorem Core.reopened_flags : c.reopened.flag F.HOST_STATUS_RESTARTING = false ∧ c.reopened.flag F.HOST_STATUS_EASEL_READY = true := by
  have hring : ∀ (d : Core) (x : Field), x.off = R.HOST_STATUS → (d.ring 6).flag x = d.flag x := fun d x hx =>
    Core.flag_congr (Core.get_ring_ne d (by rw [hx]; decide))
  exact ⟨(hring _ _ rfl).trans ((Core.flag_setF_beside _ 1 (by decide) (by decide) (by decide)).trans (c.flag_setF_bit _ _ 0 (by decide))),
    (hring _ _ rfl).trans (Core.flag_setF_bit _ _ _ 1 (by decide))⟩

theorem Core.tellLater_keeps {α : Type} {g : Core → α} (hpost : ∀ (c : Core) (m : Msg), g (c.post m) = g c) (l : List (Tok × Nat × List Byte)) :
    g (c.tellLater l) = g c := by
  refine foldl_keeps g _ (fun d x => ?_) l c
  split
  · exact hpost d _
  · rfl

theorem Core.post_later (m : Msg) : (c.post m).host.later = c.host.later := by
  have hpcie : ∀ m : Msg, (if c.host.held.isEmpty = true ∧ c.ringFits m = true then c.ringPut m
      else { c with host := { c.host with held := c.host.held ++ [m] } }).host.later = c.host.later := fun m =>
    keeps_ite (fun d : Core => d.host.later) (waiting_later.ringPut c m) rfl
  unfold Core.post
  split
  · exact hpcie _
  · exact waiting_later.queueDatagram c _ _
  · rfl

theorem supplied_later : Supplied fun c => c.host.later where
  put _ _ _ _ := rfl
  raise c x _ := waiting_later.raise c x
  count c r n _ := waiting_later.countN c r n
  countW c r n _ := waiting_later.countW c r n
  atl _ _ := rfl
  brush _ _ := rfl
  memc _ _ := rfl
  crc _ _ := rfl
  health _ _ := rfl
  freeIx _ _ := rfl

theorem Core.restartEnd_parts {c : Core} (h : c.flag F.HOST_STATUS_RESTARTING = true) : c.restartEnd.flag F.HOST_STATUS_RESTARTING = false ∧
    c.restartEnd.flag F.HOST_STATUS_EASEL_READY = true ∧ c.restartEnd.host.later = [] := by
  have hstatus : Unsaid (Core.get · R.HOST_STATUS) := unsaid_get (by decide) (by decide) (by decide)
  obtain ⟨hoff, hopen⟩ := c.reopened_flags
  rw [Core.restartEnd_eq h]
  generalize c.reopened = d at hoff hopen ⊢
  have hget : (d.noneLater.tellLater d.host.later).get R.HOST_STATUS = d.get R.HOST_STATUS :=
    Core.tellLater_keeps _ (g := (Core.get · R.HOST_STATUS)) hstatus.post _
  have hlater : (d.noneLater.tellLater d.host.later).host.later = [] := Core.tellLater_keeps _ (g := fun e : Core => e.host.later) Core.post_later _
  exact ⟨(Core.flag_congr (x := F.HOST_STATUS_RESTARTING) hget).trans hoff, (Core.flag_congr (x := F.HOST_STATUS_EASEL_READY) hget).trans hopen, hlater⟩

end RestartEnd

theorem Core.sessionsGone_atl (c : Core) : c.sessionsGone.atl = c.atl := congrArg Prod.snd c.sessionsGone_bystanders

/-- Settles O10: each event is its update of supply, resets or heat, read through the parts and registers that it sets. -/
theorem supplyEventsComplete : Obligations.SupplyEventsComplete := by
  unfold Obligations.SupplyEventsComplete
  refine ⟨?_, ?_, ?_, ?_, ?_, ?_, ?_, ?_, ?_, ?_, ?_, ?_, ?_, ?_, ?_, ?_, ?_⟩
  · intro s _ hvin hstep hwarn
    obtain ⟨hset, halert⟩ := vinWarnSet_parts hvin hstep hwarn
    exact completes_traced_core (f := vinWarnSet) rfl rfl fun t m h =>
      ⟨(h.flag (x := F.SYS_STATUS_VIN_WARN) (by decide)).trans hset, (congrArg Power.alert h.power).trans halert⟩
  · intro s _ hstep hwarn
    refine completes_traced_core (f := vinWarnClear) rfl (vinWarnClear_clears hstep hwarn) fun t m h => ?_
    have hpages : t.flash.recPages = s.core.unwarned.vinCleared.flash.recPages := (congrArg (fun c : Core => c.flash.recPages) h.afar :)
    exact ⟨(h.flag (x := F.SYS_STATUS_VIN_WARN) (by decide)).trans ((Core.flag_congr ((offstage_get (by decide)).vinCleared _)).trans s.core.flag_unwarned),
      hpages.trans (Core.vinCleared_recPages _)⟩
  · intro s hvin
    obtain ⟨hoff, hstep, hgood, htrace⟩ := s.core.cutOff.powerOff_parts
    have hcut := vinOff_cuts hvin
    generalize s.core.cutOff.powerOff = d at hoff hstep hgood htrace hcut
    refine completes_of_runMem (f := vinOffAll) rfl ?_ ?_ <;> unfold vinOffAll <;> rw [hcut]
    · exact htrace
    · rw [if_pos hvin]
      exact ⟨hoff, hstep, hgood, rfl, rfl⟩
  · intro s _ hvin hstep hdeep htrip
    obtain ⟨hstep', hsessions, hgate, _⟩ := s.core.resetN_parts causeResetN
    have hcause := s.core.cause_resetN causeResetN
    have hreset := resetNAssert_resets hvin hstep hdeep htrip
    generalize s.core.resetN causeResetN = d at hstep' hsessions hgate hcause hreset
    obtain ⟨hin, hsame, hclk, hhost⟩ := d.heldInReset_parts
    refine completes_traced_reset (f := resetNAssert) rfl hreset fun t m h => ?_
    exact ⟨(congrArg Power.inReset h.power).trans hin, (congrArg Power.step h.power).trans (hsame.trans hstep'),
      (h.get (by decide)).trans ((d.get_heldInReset _).trans hcause), (congrArg Clk.gate h.clk).trans ((congrArg Clk.gate hclk).trans hgate),
      h.sessions.trans ((congrArg HostPart.sessions hhost).trans hsessions)⟩
  · intro s boot p3 addr _ hreset hdeep
    obtain ⟨hboot, _, haddr⟩ := s.core.released.sampleStraps_straps boot p3 addr
    have hget := resetNRelease_get boot p3 addr hreset hdeep (off := R.SYS_STRAPS) (by decide)
    have hout := resetNRelease_inReset boot p3 addr hreset hdeep
    refine completes_traced_core (f := resetNRelease boot p3 addr) rfl rfl fun t m h => ?_
    exact ⟨(congrArg Power.inReset h.power).trans hout, (h.f (x := F.SYS_STRAPS_BOOT_MODE) (by decide)).trans ((Core.f_congr hget).trans hboot),
      (h.f (x := F.SYS_STRAPS_SMB_ADDR) (by decide)).trans ((Core.f_congr hget).trans haddr)⟩
  · intro s _ hdeep hreset
    obtain ⟨hstep, hcause⟩ := s.core.wake_parts
    exact completes_traced_core (f := wakeNFall) rfl (wakeNFall_wakes hdeep hreset) fun t m h =>
      ⟨(congrArg Power.step h.power).trans hstep, (h.get (by decide)).trans hcause⟩
  · intro s _ hdeep hreset hen
    obtain ⟨hstep, hcause⟩ := s.core.wokenAt.wake_parts
    exact completes_traced_core (f := wakeAtReached) rfl (wakeAtReached_wakes hdeep hreset hen) fun t m h =>
      ⟨(congrArg Power.step h.power).trans hstep, (h.get (by decide)).trans hcause⟩
  · intro s _ hdue
    obtain ⟨hstep, _, _, _⟩ := s.core.cutAudio.resetN_parts causeModule
    have hcause := s.core.cutAudio.cause_resetN causeModule
    have hclear := s.core.cutAudio.resetDue_resetN causeModule
    exact completes_traced_reset (f := moduleReset) rfl (moduleReset_resets hdue) fun t m h =>
      ⟨(congrArg Power.resetDue h.power).trans hclear, (congrArg Power.step h.power).trans hstep, (h.get (by decide)).trans hcause⟩
  · intro s _ hvin
    have hfault : converterFault s.core = s.core.setPgood false := if_pos hvin
    exact completes_traced_core (f := converterFault) rfl hfault fun t m h => (congrArg Power.pgood h.power).trans (s.core.pgood_setPgood false)
  · intro s hq
    have hheld := s.core.held_sessionsGone
    have hatl : s.core.hostReset.sessionsGone.atl = s.core.atl := by
      obtain ⟨hatl, _, _, _⟩ := s.core.hostReset_parts
      exact (Core.sessionsGone_atl _).trans hatl
    have hlow := pciePerstAssert_eq s.core
    generalize s.core.hostReset.sessionsGone = d at hheld hatl hlow
    obtain ⟨hperst, hend, hhost⟩ := d.perstLow_parts
    exact completes_of_eq (f := pciePerstAssert) rfl hq hlow hatl ⟨hperst, hend, (congrArg HostPart.held hhost).trans hheld⟩
  · intro s hq
    exact completes_of_eq (f := pciePerstRelease) rfl hq rfl rfl rfl
  · intro s gen width _ hvin hperst hlo hhi hw
    obtain ⟨hup, hspeed, hwidth⟩ := pcieLinkTrained_parts hvin hperst hlo hhi hw
    exact completes_traced_core (f := pcieLinkTrained gen width) rfl rfl fun t m h =>
      ⟨(h.flag (x := F.HOST_STATUS_LINK_UP) (by decide)).trans hup, (h.f (x := F.HOST_STATUS_SPEED) (by decide)).trans hspeed,
        (h.f (x := F.HOST_STATUS_WIDTH) (by decide)).trans hwidth⟩
  · intro s die board _ hvin htrip hdie hboard
    obtain ⟨htdie, htboard, htrip', hdue⟩ := tempMeasure_parts hvin htrip hdie hboard
    refine completes_traced (f := tempMeasureAll die board) (d := tempMeasure die board s.core) rfl rfl fun t m h => ?_
    exact ⟨(h.f (x := F.SYS_TDIE_TDIE) (by decide)).trans htdie, (h.f (x := F.SYS_TBOARD_TBOARD) (by decide)).trans htboard,
      (congrArg Power.trip h.power).trans htrip', (congrArg Power.holdDue h.power).trans hdue⟩
  · intro s die board hvin htrip hhot
    obtain ⟨hoff, hgood, htrace⟩ := (s.core.heated die board).thermalTrip_parts
    have htrips := tempMeasure_trips hvin htrip hhot
    generalize (s.core.heated die board).thermalTrip = d at hoff hgood htrace htrips
    refine completes_of_runMem (f := tempMeasureAll die board) rfl ?_ ?_ <;> unfold tempMeasureAll <;> rw [htrips]
    · exact htrace
    · have hlost : d.power.trip = true ∧ (!s.core.power.trip) = true := ⟨hoff, by rw [htrip]; rfl⟩
      dsimp only
      rw [if_pos hlost]
      exact ⟨hoff, hgood, rfl⟩
  · intro s _ hdue
    obtain ⟨hdue', hclk, htime, hhold⟩ := s.core.onHold_parts
    have hholds := muteAndHold_holds hdue
    generalize s.core.onHold = d at hdue' hclk htime hhold hholds
    have hstage := d.stopped_backstage
    have hget := d.get_stopped (off := R.SYS_STATUS) (by decide)
    refine completes_traced_core (f := muteAndHold) rfl hholds fun t m h => ?_
    have hpower := h.power.trans (power_of_backstage hstage)
    refine ⟨(congrArg Power.holdDue hpower).trans hdue', (congrArg Power.engineStop hpower :),
      (h.flag (x := F.SYS_STATUS_THERM_HOLD) (by decide)).trans ((Core.flag_congr hget).trans hhold), ?_⟩
    have hgate : t.clk.gate = .fadeOut d.time.n d.blk := congrArg Clk.gate (h.clk.trans (clk_of_backstage hstage))
    have hblk : d.blk = s.core.blk := by
      unfold Core.blk
      rw [hclk]
    rw [hgate, htime, hblk]
  · intro s _ hhold hcool hrun
    obtain ⟨hstage, hover, _⟩ := s.core.cooled_parts
    have hresumes := thermalResume_resumes hhold hcool hrun
    generalize s.core.cooled = d at hstage hover hresumes
    have hstart := offstage_backstage.startEngines d d.time.n
    have hget := (offstage_get (off := R.SYS_STATUS) (by decide)).startEngines d d.time.n
    generalize d.startEngines d.time.n = e at hstart hget hresumes
    refine completes_traced_core (f := thermalResume) rfl hresumes fun t m h => ?_
    have hblk : d.blk = s.core.blk := by
      unfold Core.blk
      rw [clk_of_backstage hstage]
    refine ⟨(congrArg Power.engineStop h.power).trans (congrArg Power.engineStop (power_of_backstage hstart) :),
      (h.flag (x := F.SYS_STATUS_THERM_HOLD) (by decide)).trans ((Core.flag_congr hget).trans hover), ?_⟩
    rw [congrArg Clk.fadeInAt h.clk, ← hblk, ← time_of_backstage hstage]
    rfl
  · intro s _ hrestart
    have hkept : s.core.activationOver.flag F.HOST_STATUS_RESTARTING = true := (Core.flag_congr s.core.status_activationOver).trans hrestart
    obtain ⟨hoff, hopen, hlater⟩ := Core.restartEnd_parts hkept
    exact completes_traced_core (f := controlPlaneRestartEnd) rfl (controlPlaneRestartEnd_ends hrestart) fun t m h =>
      ⟨(h.flag (x := F.HOST_STATUS_RESTARTING) (by decide)).trans hoff, (h.flag (x := F.HOST_STATUS_EASEL_READY) (by decide)).trans hopen,
        (h supplied_later).trans hlater⟩

end Sys2Proof.Machine
end

section
/-! Function resets (R128), resets that a host asks for (R127, R129), and what they leave off stage. -/

namespace Sys2Proof.Machine
open Sys2Proof

/-! ### What function resets leave off stage -/

theorem Offstage.map {α β : Type} {g : Core → α} (h : Offstage g) (f : α → β) : Offstage fun c => f (g c) where
  put c _ w hoff := congrArg f (h.put c w hoff)
  raise c x hoff := congrArg f (h.raise c x hoff)
  count c r n hr := congrArg f (h.count c r n hr)
  countW c r n hr := congrArg f (h.countW c r n hr)
  outbox c l := congrArg f (h.outbox c l)
  host c x := congrArg f (h.host c x)
  freeIx c n := congrArg f (h.freeIx c n)
  scene c x := congrArg f (h.scene c x)
  cal c x := congrArg f (h.cal c x)
  ren c x := congrArg f (h.ren c x)
  mon c x := congrArg f (h.mon c x)
  out c x := congrArg f (h.out c x)
  flash c x := congrArg f (h.flash c x)
  health c x := congrArg f (h.health c x)
  brush c x := congrArg f (h.brush c x)
  atl c x := congrArg f (h.atl c x)
  survey c x := congrArg f (h.survey c x)
  arm c x := congrArg f (h.arm c x)
  net c x := congrArg f (h.net c x)
  twin c x := congrArg f (h.twin c x)
  memc c x := congrArg f (h.memc c x)
  crc c x := congrArg f (h.crc c x)
  update c x := congrArg f (h.update c x)

theorem offstage_power : Offstage Core.power := offstage_backstage.map Prod.fst

namespace Offstage
variable {α : Type} {g : Core → α} (h : Offstage g)
include h

theorem portMute (c : Core) (p st n : Nat) : g (c.portMute p st n) = g c :=
  (h.portPaths _ _ _ _).trans ((h.setF _ _ (by simp only [F.PORTS_TDM_STATE_GOOD, R.PORTS_TDM_STATE]; omega)).trans ((h.portState _ _ _).trans (h.setTdm c p _)))

theorem portResetStart (c : Core) (p : Nat) : g (c.portResetStart p) = g c := by
  unfold Core.portResetStart
  dsimp only
  exact keeps_ite g ((h.setTdm _ _ _).trans (keeps_ite g (h.portMute c _ _ _) (h.portState c _ _))) (h.setTdm c _ _)

theorem setNetPort (c : Core) (p : Nat) (x : NetPort) : g (c.setNetPort p x) = g c := h.net c _

theorem legLost (c : Core) (s leg : Nat) : g (c.legLost s leg) = g c := by
  unfold Core.legLost
  dsimp only
  refine keeps_ite g rfl ((h.raise _ _ (by decide)).trans ((h.count1 _ (by simp only [R.MEDIA_RX_LEG_LOSS]; omega)).trans ((h.setF _ _ ?_).trans (h.net c _))))
  split <;> simp only [F.MEDIA_RX_STATE_LEG_A_UP, F.MEDIA_RX_STATE_LEG_B_UP, R.MEDIA_RX_STATE] <;> omega

theorem portDown (c : Core) (p : Nat) : g (c.portDown p) = g c := by
  have hdrop : ∀ (d : Core) (f : TxFrame), g (match f.stream with
      | some s => (d.count (R.MEDIA_TX_DROP s.1)).raise F.MEDIA_INT_STATUS_TX_DROP
      | none => d) = g d := fun d f => by
    split
    · exact (h.raise _ _ (by decide)).trans (h.count1 d (by simp only [R.MEDIA_TX_DROP]; omega))
    · rfl
  have hstatus : 0x300000 ≤ R.NET_STATUS p := by simp only [R.NET_STATUS]; omega
  have hqueue : ∀ l : List TxFrame, g (l.foldl (fun (d : Core) f => match f.stream with
      | some s => (d.count (R.MEDIA_TX_DROP s.1)).raise F.MEDIA_INT_STATUS_TX_DROP
      | none => d) ((((c.setF (F.NET_STATUS_LINK_UP p) 0).setF (F.NET_STATUS_BLOCK_LOCK p) 0).count (R.NET_LINK_DOWN p)).raise
        (F.NET_INT_STATUS_LINK_DOWN p))) = g c := fun l => by
    refine (foldl_keeps g _ hdrop l _).trans ((h.raise _ _ (by simp only [F.NET_INT_STATUS_LINK_DOWN, R.NET_INT_STATUS]; omega)).trans ?_)
    exact (h.count1 _ (by simp only [R.NET_LINK_DOWN]; omega)).trans ((h.setF _ _ hstatus).trans (h.setF c _ hstatus))
  unfold Core.portDown
  dsimp only
  refine keeps_ite g rfl (keeps_ite g ?_ ((h.net _ _).trans (hqueue _)))
  exact (foldl_keeps g _ (fun d (y : Nat × RxStream) => h.legLost d y.1 p) _ _).trans ((h.net _ _).trans (hqueue _))

theorem netReset (c : Core) (p : Nat) : g (c.netReset p) = g c := by
  have hstatus : 0x300000 ≤ R.NET_STATUS p := by simp only [R.NET_STATUS]; omega
  have hfill : 0x300000 ≤ R.NET_BUFFER_FILL p := by simp only [R.NET_BUFFER_FILL]; omega
  unfold Core.netReset
  dsimp only
  refine (h.txShowAll _).trans ((h.setF _ _ hstatus).trans ((h.setF _ _ hstatus).trans ((h.setNetPort _ _ _).trans ?_)))
  exact (h.setF _ _ hfill).trans ((h.setF _ _ hfill).trans ((h.setNetPort _ _ _).trans (h.portDown c p)))

theorem maquetteEnd (c : Core) (irq : Bool) (n : Nat) : g (c.maquetteEnd irq n) = g c := by
  refine keeps_ite g ?_ rfl
  refine (h.cal _ _).trans ((h.raiseIf _ _ (by decide)).trans ?_)
  exact (h.setF _ _ (by decide)).trans ((h.setF _ _ (by decide)).trans (h.setF c _ (by decide)))

theorem withdraw (c : Core) (kind : Nat) : g (c.withdraw kind) = g c := by
  unfold Core.withdraw
  split
  · rfl
  · refine keeps_ite g rfl ((h.raise _ _ (by decide)).trans ((h.logChanges _ _ _ _ _).trans ((h.survey _ _).trans ?_)))
    refine (h.setF _ _ (by decide)).trans ((h.survey _ _).trans ((h.setF _ _ (by decide)).trans ?_))
    exact (h.out _ _).trans (h.setF c _ (by decide))

theorem pdmClear (c : Core) : g c.pdmClear = g c := (h.setF _ _ (by decide)).trans (h.survey c _)

theorem closeSession (c : Core) (n : Nat) : g (c.closeSession n) = g c :=
  (h.host _ _).trans (keeps_ite g ((h.setB _ _ (by decide)).trans ((h.setB _ _ (by decide)).trans (h.setF c _ (by decide)))) rfl)

theorem clearF2H (c : Core) (n : Nat) : g (c.clearF2H n) = g c :=
  keeps_ite g ((h.host _ _).trans (h.setF c _ (by simp only [F.HOST_MBX_STATUS_F2H_FULL, R.HOST_MBX_STATUS]; omega))) rfl

theorem releaseHolds (c : Core) (q : Nat → Bool) : g (c.releaseHolds q) = g c := by
  refine foldl_keeps g _ (fun d n => ?_) _ c
  split
  · exact keeps_ite g ((h.host _ _).trans (h.setF d _ (by simp only [R.HOST_HOLD_HELD_LO]; omega))) rfl
  · rfl

theorem hostReset (c : Core) : g c.hostReset = g c := by
  have hclose : g (c.closeSessions isPcie) = g c := foldl_keeps g _ (fun d (s : Session) => h.closeSession d s.num) _ c
  have hmail : ∀ d : Core, g (((List.range 16).foldl Core.clearF2H d).releaseHolds (· = 8)) = g d := fun d =>
    (h.releaseHolds _ _).trans (foldl_keeps g _ h.clearF2H _ d)
  have hcleared : g c.hostCleared = g c := (hmail _).trans ((h.host _ _).trans hclose)
  rw [Core.hostReset_eq]
  unfold Core.hostOff
  rw [h.setF _ _ (by decide), h.setF _ _ (by decide), h.setF _ _ (by decide), h.setF _ _ (by decide), h.setF _ _ (by decide), hcleared]

theorem smudgeEnd (c : Core) : g c.smudgeEnd = g c := by
  have hledger : ∀ d : Core, g (d.ledger 11 0 0 0 0 true) = g d := fun d =>
    keeps_ite g (h.count1 d (by decide)) ((h.setB _ _ (by decide)).trans (h.health d _))
  unfold Core.smudgeEnd
  refine keeps_ite g rfl ((hledger _).trans ((h.raise _ _ (by decide)).trans ?_))
  exact (h.setF _ _ (by decide)).trans ((h.setF _ _ (by decide)).trans ((h.put _ _ (by decide)).trans ((h.put _ _ (by decide)).trans (h.health c _))))

theorem sessionsGone (c : Core) : g c.sessionsGone = g c := by
  have hslots : ∀ gone l, g ((c.setWrites l).slotsGone gone) = g c := fun gone l => by
    refine (foldl_keeps g _ (fun d k => ?_) _ _).trans (h.flash c _)
    split
    · exact keeps_ite g (h.endSlot d _ _ _ _) rfl
    · rfl
  unfold Core.sessionsGone
  exact keeps_ite g ((h.smudgeEnd _).trans (hslots _ _)) (hslots _ _)

theorem healthShow (c : Core) : g c.healthShow = g c := by
  unfold Core.healthShow
  dsimp only
  exact (h.setB _ _ (by decide)).trans ((h.setF _ _ (by decide)).trans ((h.setF _ _ (by decide)).trans ((h.setB _ _ (by decide)).trans (h.renderShow c))))

theorem setStandIn (c : Core) (m : Nat) (l : Option Nat) : g (c.setStandIn m l) = g c := by
  have hset : ∀ a b : Nat, g ((c.setF (F.RENDER_LANE_SPARE_LANE m) a).setF (F.RENDER_LANE_SPARE_VALID m) b) = g c := fun a b =>
    (h.setF _ _ (by simp only [F.RENDER_LANE_SPARE_VALID, R.RENDER_LANE_SPARE]; omega)).trans
      (h.setF c _ (by simp only [F.RENDER_LANE_SPARE_LANE, R.RENDER_LANE_SPARE]; omega))
  unfold Core.setStandIn
  refine (h.raise _ _ (by decide)).trans ?_
  split <;> exact hset _ _

theorem engineBack (c : Core) (e : Nat) : g (c.engineBack e) = g c :=
  keeps_ite g ((h.healthShow _).trans (foldl_keeps g _ (fun d m => keeps_ite g (h.setStandIn d m none) rfl) _ c)) rfl

theorem groupReload (c : Core) (k : Nat) : g (c.groupReload k) = g c :=
  foldl_keeps g _ (fun d _ => keeps_ite g (h.supplied.setBcState d _ 2) rfl) _ c

/-- The end of a function reset. -/
theorem funcEnd (c : Core) (code : Nat) : g (c.funcEnd code) = g c := by
  unfold Core.funcEnd
  refine keeps_ite g (h.setTdm c _ _) <| keeps_ite g (h.setNetPort c _ _) <| keeps_ite g (h.engineBack c _) ?_
  refine keeps_ite g ?_ (keeps_ite g (h.cal c _) rfl)
  exact (h.upShow _).trans ((h.update _ _).trans ((h.brush _ _).trans (h.groupReload c _)))

/-- The start of a function reset, but for those of render engines and of groups of Brush cores. -/
theorem funcStart (c : Core) {code : Nat} (hcode : code ≤ 10 ∨ 24 ≤ code) : g (c.funcStart code) = g c := by
  unfold Core.funcStart
  refine keeps_ite g (h.portResetStart c code) ?_
  by_cases hnet : code ≤ 10 ∨ code = 28
  · exact (congrArg g (if_pos hnet)).trans ((h.setNetPort _ _ _).trans (h.netReset c _))
  · rw [if_neg hnet, if_neg (by omega), if_neg (by omega)]
    refine keeps_ite g ((h.setF _ _ (by decide)).trans ((h.cal _ _).trans (h.maquetteEnd c _ _))) ?_
    refine keeps_ite g ((h.pdmClear _).trans ((h.withdraw _ _).trans (h.measureStop c))) ?_
    refine keeps_ite g ?_ (keeps_ite g ((h.sessionsGone _).trans (h.hostReset c)) rfl)
    exact (h.dropReceptions _).trans ((foldl_keeps g _ (fun d w => h.notice? d _ _ _) _ _).trans (h.flash c _))

end Offstage

end Sys2Proof.Machine
end

section
/-! Resets, standby and the output release that a host or firmware asks for (R126 to R136), and O15. -/

namespace Sys2Proof.Machine
open Sys2Proof

/-! ### Registers with GO in bit 31 -/

/-- In a register whose GO and REFUSED are its two high bits, a write of GO leaves the low bits as they are written. -/
theorem bitOf_written_go (c : Core) {m off rw i : Nat} {v : Word} (hrow : ∃ r, regRow? off = some r ∧ r.rw = rw ∧ r.w1c = 0x40000000 ∧ r.w1s = 0x80000000)
    (hfix : ∀ (c : Core) (old new : Word), c.fixWrite off old new = new) (hi : i < 30) (hrw : (BitVec.ofNat 32 rw).getLsbD i = true) :
    bitOf ((c.written ⟨m, off, v⟩ 0x80000000).get off) i = bitOf v i := by
  obtain ⟨r, hrow, hw, hw1c, hw1s⟩ := hrow
  have hget := c.get_written_hold (a := ⟨m, off, v⟩) hrow 0x80000000
  have hbit : ∀ k, 30 ≤ k → (BitVec.ofNat 32 (2 ^ k)).getLsbD i = false := fun k hk => by
    rw [BitVec.getLsbD_ofNat, Nat.testBit_two_pow_of_ne (by omega), Bool.and_false]
  have hrefused : (BitVec.ofNat 32 0x40000000).getLsbD i = false := hbit 30 (by decide)
  have hgo : (BitVec.ofNat 32 0x80000000).getLsbD i = false := hbit 31 (by decide)
  have hhigh : (~~~BitVec.ofNat 32 0x80000000).getLsbD i = true := by
    rw [BitVec.getLsbD_not, hgo]
    simp
    omega
  rw [hw, hw1c, hw1s, hfix] at hget
  rw [show (c.written ⟨m, off, v⟩ 0x80000000).get off = _ from hget, bitOf_eq_getLsbD, bitOf_eq_getLsbD,
    typedWrite_getLsbD _ _ _ _ _ (by omega), BitVec.getLsbD_and, BitVec.getLsbD_and, hrw, hhigh, hrefused, hgo]
  simp

theorem bitsOf_two (w : Word) : bitsOf w 1 0 = b2n (bitOf w 0) + 2 * b2n (bitOf w 1) := by
  have hbit : ∀ i, b2n (bitOf w i) = w.toNat / 2 ^ i % 2 := fun i => by
    unfold bitOf b2n
    rcases Nat.mod_two_eq_zero_or_one (w.toNat / 2 ^ i) with h | h <;> rw [h] <;> rfl
  rw [hbit, hbit]
  unfold bitsOf
  omega

theorem fixWrite_resetCtrl (c : Core) (old new : Word) : c.fixWrite R.SYS_RESET_CTRL old new = new := by
  unfold Core.fixWrite
  rw [if_neg (by decide), if_neg (by decide), if_neg (by decide), if_neg (by decide), if_neg (by decide), if_neg (by decide), if_neg (by decide), if_neg (by decide), if_neg (by decide), if_neg (by decide), if_neg (by decide), if_neg (by decide), if_neg (by decide), if_neg (by decide), if_neg (by decide), if_neg (by decide), if_neg (by decide), if_neg (by decide)]

theorem fixWrite_standbyCtrl (c : Core) (old new : Word) : c.fixWrite R.SYS_STANDBY_CTRL old new = new := by
  unfold Core.fixWrite
  rw [if_neg (by decide), if_neg (by decide), if_neg (by decide), if_neg (by decide), if_neg (by decide), if_neg (by decide), if_neg (by decide), if_neg (by decide), if_neg (by decide), if_neg (by decide), if_neg (by decide), if_neg (by decide), if_neg (by decide), if_neg (by decide), if_neg (by decide), if_neg (by decide), if_neg (by decide), if_neg (by decide)]

theorem resetKind_written (c : Core) (m : Nat) (v : Word) :
    (c.written ⟨m, R.SYS_RESET_CTRL, v⟩ 0x80000000).flag F.SYS_RESET_CTRL_KIND = bitOf v 0 := by
  have hrow : ∃ r, regRow? R.SYS_RESET_CTRL = some r ∧ r.rw = 1 ∧ r.w1c = 0x40000000 ∧ r.w1s = 0x80000000 := by decide +kernel
  exact (Core.flag_eq_bitOf _ R.SYS_RESET_CTRL 0).trans (bitOf_written_go c hrow fixWrite_resetCtrl (by decide) (by decide))

theorem standbyLevel_written (c : Core) (m : Nat) (v : Word) {n : Nat} (hn : n < 4) :
    (c.written ⟨m, R.SYS_STANDBY_CTRL, withBits v 1 0 n⟩ 0x80000000).f F.SYS_STANDBY_CTRL_LEVEL = n := by
  have hrow : ∃ r, regRow? R.SYS_STANDBY_CTRL = some r ∧ r.rw = 19 ∧ r.w1c = 0x40000000 ∧ r.w1s = 0x80000000 := by decide +kernel
  have hlow := bitOf_written_go c (m := m) (v := withBits v 1 0 n) (i := 0) hrow fixWrite_standbyCtrl (by decide) (by decide)
  have hhigh := bitOf_written_go c (m := m) (v := withBits v 1 0 n) (i := 1) hrow fixWrite_standbyCtrl (by decide) (by decide)
  have hsame : bitsOf ((c.written ⟨m, R.SYS_STANDBY_CTRL, withBits v 1 0 n⟩ 0x80000000).get R.SYS_STANDBY_CTRL) 1 0 = bitsOf (withBits v 1 0 n) 1 0 := by
    rw [bitsOf_two, bitsOf_two, hlow, hhigh]
  exact hsame.trans ((bitsOf_withBits_same v n (by decide) (by decide)).trans (Nat.mod_eq_of_lt hn))

theorem bitOf_withBits_above (w : Word) {hi k : Nat} (hhi : hi < 32) (h : hi < k) (v : Nat) : bitOf (withBits w hi 0 v) k = bitOf w k := by
  rw [bitOf_eq_bitsOf, bitOf_eq_bitsOf, bitsOf_withBits_above w v (Nat.zero_le hi) hhi h]

theorem Core.anchorB_of {c d : Core} (hclk : c.clk = d.clk) (htime : c.time = d.time) (hglaze : c.get R.CALIPER_CTRL = d.get R.CALIPER_CTRL) :
    c.anchorB = d.anchorB := by
  have hf : c.glaze = d.glaze := congrArg (16 * ·) (Core.f_congr (x := F.CALIPER_CTRL_GLAZE) hglaze)
  have hnow : c.now = d.now := by
    unfold Core.now Core.countOfPtp Core.fsHz
    rw [hclk, htime]
  unfold Core.anchorB Core.boundaryAt Core.blk
  rw [hf, hnow, hclk]

/-! ### The state after a write (R127, R129, R134) -/

section Written
variable {c w : Core} {m : Nat} {v : Word}

theorem Core.written_power (c : Core) (a : Access) (hold : Nat) : (c.written a hold).power = c.power := (congrArg Core.power (c.written_rest a hold) :)

theorem Core.written_time (c : Core) (a : Access) (hold : Nat) : (c.written a hold).time = c.time := (congrArg Core.time (c.written_rest a hold) :)

theorem Core.mediaChanging_written (c : Core) (a : Access) (hold : Nat) : (c.written a hold).mediaChanging = c.mediaChanging := by
  unfold Core.mediaChanging
  rw [c.written_clk a hold, c.written_time a hold]

theorem resetCtrlRestart_restarts (hserves : c.serves m R.SYS_RESET_CTRL = true) (hgo : bitOf v 31 = true) (hmedia : c.mediaChanging = false) :
    resetCtrlRestart m v c = (c.written ⟨m, R.SYS_RESET_CTRL, withBits v 0 0 0⟩ 0x80000000).controlRestart := by
  have hkind := (resetKind_written c m (withBits v 0 0 0)).trans (bitOf_withBits_same v (by decide) 0)
  have hmedia' := (c.mediaChanging_written ⟨m, R.SYS_RESET_CTRL, withBits v 0 0 0⟩ 0x80000000).trans hmedia
  unfold resetCtrlRestart Core.resetCtrlWrite
  rw [busWrite_served hserves]
  generalize c.written ⟨m, R.SYS_RESET_CTRL, withBits v 0 0 0⟩ 0x80000000 = w at hkind hmedia' ⊢
  refine (if_neg (by rw [bitOf_withBits_above v (by decide) (by decide), hgo]; decide)).trans ((if_neg (by rw [hmedia']; decide)).trans (if_neg ?_))
  rw [hkind]
  decide

theorem resetCtrlModule_marks (hserves : c.serves m R.SYS_RESET_CTRL = true) (hgo : bitOf v 31 = true) (hmedia : c.mediaChanging = false)
    (hw : w = c.written ⟨m, R.SYS_RESET_CTRL, withBits v 0 0 1⟩ 0x80000000) : resetCtrlModule m v c = w.setPower { w.power with resetDue := true } := by
  have hkind := (resetKind_written c m (withBits v 0 0 1)).trans (bitOf_withBits_same v (by decide) 1)
  have hmedia' := (c.mediaChanging_written ⟨m, R.SYS_RESET_CTRL, withBits v 0 0 1⟩ 0x80000000).trans hmedia
  unfold resetCtrlModule Core.resetCtrlWrite
  rw [busWrite_served hserves, ← hw]
  rw [← hw] at hkind hmedia'
  refine (if_neg (by rw [bitOf_withBits_above v (by decide) (by decide), hgo]; decide)).trans ((if_neg (by rw [hmedia']; decide)).trans (if_pos ?_))
  rw [hkind]
  decide

theorem standbyCtrlWrite_asks {n : Nat} (hserves : c.serves m R.SYS_STANDBY_CTRL = true) (hgo : bitOf v 31 = true) (hn : n < 4)
    (hw : w = c.written ⟨m, R.SYS_STANDBY_CTRL, withBits v 1 0 n⟩ 0x80000000) {d : Core} (hok : w.standbyRequest n = (.ok, d)) :
    c.standbyCtrlWrite m (withBits v 1 0 n) = d := by
  have hlevel := standbyLevel_written c m v hn
  unfold Core.standbyCtrlWrite
  rw [busWrite_served hserves, ← hw]
  rw [← hw] at hlevel
  refine (if_neg (by rw [bitOf_withBits_above v (by decide) (by decide), hgo]; decide)).trans ?_
  rw [hlevel, hok]
  exact if_pos rfl

theorem Core.standbyRequest_leaves (htwin : c.twinned = false) (hfree : c.power.standby = none) (hfunc : c.power.funcReset = none)
    (hmedia : c.mediaChanging = false) (hst : c.f F.SYS_STATUS_STATE = 2) (hon : c.clk.mediaOn = true) :
    c.standbyRequest 0 = (.ok, c.setPower { c.power with standby := some .leaving }) := by
  unfold Core.standbyRequest
  dsimp only
  rw [if_neg (by decide), if_neg (by rw [htwin]; decide), if_neg (by rw [hfree, hfunc, hmedia]; decide), if_neg (by decide),
    if_neg (by rw [hst]; decide), if_neg (by decide), if_pos hon]
  rfl

theorem Core.standbyRequest_deep (htwin : c.twinned = false) (hfree : c.power.standby = none) (hfunc : c.power.funcReset = none)
    (hmedia : c.mediaChanging = false) : c.standbyRequest 2 = (.ok, c.setPower { c.power with standby := some .deepEntering }) := by
  unfold Core.standbyRequest
  dsimp only
  rw [if_neg (by decide), if_neg (by rw [htwin]; decide), if_neg (by rw [hfree, hfunc, hmedia]; decide), if_pos rfl]
  rfl

/-- What standby asks of the state is as before the write. -/
theorem Core.standby_written (hw : w = c.written ⟨m, R.SYS_STANDBY_CTRL, v⟩ 0x80000000) : w.twinned = c.twinned ∧ w.power = c.power ∧
    w.mediaChanging = c.mediaChanging ∧ w.f F.SYS_STATUS_STATE = c.f F.SYS_STATUS_STATE ∧ w.clk = c.clk ∧ w.anchorB = c.anchorB := by
  subst hw
  have hget : ∀ {off : Nat}, off ≠ R.SYS_STANDBY_CTRL → (c.written ⟨m, R.SYS_STANDBY_CTRL, v⟩ 0x80000000).get off = c.get off := fun h =>
    c.get_written_ne _ h
  refine ⟨?_, c.written_power _ _, c.mediaChanging_written _ _, Core.f_congr (hget (by decide)), c.written_clk _ _, ?_⟩
  · unfold Core.twinned Core.twinState
    rw [Core.f_congr (hget (by decide))]
  · exact Core.anchorB_of (c.written_clk _ _) (c.written_time _ _) (hget (by decide))

end Written

end Sys2Proof.Machine
end

section
/-! Function resets begin and end, standby is entered and left (R128, R134 to R136), and O15. -/

namespace Sys2Proof.Machine
open Sys2Proof

/-! ### Function resets (R128) -/

/-- A register of the system block that PTP leaves alone. -/
theorem unled_sys {off : Nat} (h : off < 0x100000) (hint : off % 0x100000 ≠ 4) : Unled (Core.get · off) where
  set c x v hx := c.get_setF_ne v (by rcases hx with e | e <;> rw [e] <;> simp only [R.TIME_STATUS, R.CLK_MEDIA_STATUS] <;> omega)
  leader c _ w hr := c.get_put_ne w (by rcases hr with e | e <;> rw [e] <;> simp only [R.TIME_LEADER_ID_LO, R.TIME_LEADER_ID_HI] <;> omega)
  count c r hr := by
    refine c.get_count_ne (fun e => ?_) hint
    simp only [List.mem_cons, List.not_mem_nil, or_false, R.TIME_LEADER_CHANGE_COUNT, R.TIME_PTP_LOSS_COUNT, R.CLK_DOUBLE_FAULT_COUNT,
      R.CLK_HOLDOVER_COUNT] at hr
    omega
  raise c x hx := c.get_raise_ne (by rcases hx with e | e <;> rw [e] <;> simp only [R.TIME_INT_STATUS, R.CLK_INT_STATUS] <;> omega)
  time _ _ _ _ _ := rfl
  clk _ _ := rfl

theorem unled_power : Unled Core.power where
  set _ _ _ _ := rfl
  leader _ _ _ _ := rfl
  count c r _ := (congrArg Core.power (Core.countN_rest c r 1) :)
  raise c x _ := (congrArg Core.power (c.raise_rest x) :)
  time _ _ _ _ _ := rfl
  clk _ _ := rfl

/-- What is off stage and is no PTP port of TIME is kept as a function reset begins. -/
theorem Core.funcBegin_keeps {α : Type} {g : Core → α} (hoff : Offstage g) (hled : Unled g)
    (hport : ∀ (c : Core) (p : Nat) (x : PtpPort), g (c.setPtpPort p x) = g c) (c : Core) {code : Nat} (hcode : code ≤ 10 ∨ 24 ≤ code) :
    g (c.funcBegin code) = g c :=
  keeps_ite g ((hled.ptpRestart hport _ _).trans (hoff.funcStart c hcode)) (hoff.funcStart c hcode)

section FuncGo
variable {c w : Core} {m : Nat} {v : Word}

theorem funcResetGo_begins (hserves : c.serves m R.SYS_FUNC_RESET = true) (hgo : bitOf v 31 = true) (hw : w = c.written ⟨m, R.SYS_FUNC_RESET, v⟩ 0x80000000)
    (hcode : w.f F.SYS_FUNC_RESET_FUNC ≤ 10 ∨ 24 ≤ w.f F.SYS_FUNC_RESET_FUNC) (hissued : w.f F.SYS_FUNC_RESET_FUNC ≤ 28)
    (hfree : c.power.funcReset = none) (hrun : c.flag F.HOST_STATUS_RESTARTING = false) (hon : c.pdOn (funcPd (w.f F.SYS_FUNC_RESET_FUNC)) = true) :
    funcResetGo m v c = (w.funcBusy (w.f F.SYS_FUNC_RESET_FUNC) none).funcBegin (w.f F.SYS_FUNC_RESET_FUNC) := by
  have hfree' : w.power.funcReset = none := by rw [hw, c.written_power, hfree]
  have hrun' : w.flag F.HOST_STATUS_RESTARTING = false := by
    rw [hw]
    exact (Core.flag_congr (c.get_written_ne _ (show R.HOST_STATUS ≠ R.SYS_FUNC_RESET by decide))).trans hrun
  have hpd : w.get R.SYS_PD_STATE = c.get R.SYS_PD_STATE := by
    rw [hw]
    exact c.get_written_ne _ (show R.SYS_PD_STATE ≠ R.SYS_FUNC_RESET by decide)
  have hon' : w.pdOn (funcPd (w.f F.SYS_FUNC_RESET_FUNC)) = true := by
    unfold Core.pdOn at hon ⊢
    rwa [Core.f_congr (x := F.SYS_PD_STATE_PD (funcPd (w.f F.SYS_FUNC_RESET_FUNC))) hpd]
  unfold funcResetGo
  rw [busWrite_served hserves, ← hw, if_neg (by rw [hgo]; decide)]
  rw [Core.funcRequest_begins hcode hissued hfree' hrun' hon']
  exact if_pos rfl

theorem funcResetGo_refuses (hserves : c.serves m R.SYS_FUNC_RESET = true) (hgo : bitOf v 31 = true) (hw : w = c.written ⟨m, R.SYS_FUNC_RESET, v⟩ 0x80000000)
    (hcode : 28 < w.f F.SYS_FUNC_RESET_FUNC) : funcResetGo m v c = w.setF F.SYS_FUNC_RESET_REFUSED 1 := by
  have hbad : ∀ force tok, w.funcRequest (w.f F.SYS_FUNC_RESET_FUNC) force tok = (.badParam, w) := fun _ _ => if_pos hcode
  unfold funcResetGo
  rw [busWrite_served hserves, ← hw, if_neg (by rw [hgo]; decide)]
  rw [hbad]
  exact if_neg fun h => absurd (show Status.badParam = Status.accepted from h) (by decide)

end FuncGo

theorem Core.funcBusy_flags (c : Core) (code : Nat) (tok : Option Tok) : (c.funcBusy code tok).flag F.SYS_FUNC_RESET_BUSY = true ∧
    (c.funcBusy code tok).flag F.SYS_STATUS_FUNC_RESET_BUSY = true := by
  unfold Core.funcBusy
  refine ⟨?_, (Core.flag_congr (Core.get_setF_ne _ 1 (by decide))).trans (Core.flag_setF_bit _ _ _ 1 (by decide))⟩
  refine (Core.flag_setF_beside _ 1 (by decide) (by decide) (by decide)).trans ((Core.flag_congr (Core.get_setF_ne _ 1 (by decide))).trans ?_)
  exact Core.flag_setF_bit _ _ _ 1 (by decide)

section FuncDone
variable (c : Core)

/-- No function reset is under way. -/
def Core.funcFree : Core := ((c.setPower { c.power with funcReset := none }).setF F.SYS_FUNC_RESET_BUSY 0).setF F.SYS_FUNC_RESET_GO 0

/-- The end of a function reset is shown, counted and told. -/
def Core.funcShown : Core :=
  ((c.funcFree.setF F.SYS_STATUS_FUNC_RESET_BUSY 0).count R.SYS_FUNC_RESET_COUNT).raise F.SYS_INT_STATUS_FUNC_RESET_DONE

theorem Core.funcOver_eq {c : Core} {x : FuncReset} (h : c.power.funcReset = some x) (ok : Bool) :
    c.funcOver ok = c.funcShown.notice? x.tok (if ok then .ok else .faulted) [] := by
  unfold Core.funcOver
  rw [h]
  rfl

theorem Core.funcFree_power : c.funcFree.power = { c.power with funcReset := none } :=
  power_of_backstage ((Core.setF_backstage _ F.SYS_FUNC_RESET_GO 0).trans ((c.setPower { c.power with funcReset := none }).setF_backstage F.SYS_FUNC_RESET_BUSY 0))

theorem Core.busy_funcFree : c.funcFree.flag F.SYS_FUNC_RESET_BUSY = false :=
  (Core.flag_setF_beside _ 0 (by decide) (by decide) (by decide)).trans (Core.flag_setF_bit _ _ _ 0 (by decide))

theorem Core.get_funcFree {off : Nat} (h : off ≠ R.SYS_FUNC_RESET) : c.funcFree.get off = c.get off :=
  (Core.get_setF_ne _ 0 h).trans (Core.get_setF_ne _ 0 h)

theorem Core.funcShown_keeps {α : Type} {g : Core → α} (hset : ∀ c : Core, g (c.setF F.SYS_STATUS_FUNC_RESET_BUSY 0) = g c)
    (hcount : ∀ c : Core, g (c.count R.SYS_FUNC_RESET_COUNT) = g c) (hraise : ∀ c : Core, g (c.raise F.SYS_INT_STATUS_FUNC_RESET_DONE) = g c) :
    g c.funcShown = g c.funcFree := (hraise _).trans ((hcount _).trans (hset _))

theorem Core.funcShown_parts : c.funcShown.power.funcReset = none ∧ c.funcShown.flag F.SYS_FUNC_RESET_BUSY = false ∧
    c.funcShown.flag F.SYS_INT_STATUS_FUNC_RESET_DONE = true ∧
    c.funcShown.f ⟨R.SYS_FUNC_RESET_COUNT, 15, 0⟩ = min 65535 (c.f ⟨R.SYS_FUNC_RESET_COUNT, 15, 0⟩ + 1) := by
  refine ⟨?_, ?_, Core.flag_raise_same _ _ _ (by decide), ?_⟩
  · have hpower := c.funcShown_keeps (g := Core.power) (fun _ => rfl) (fun d => (congrArg Core.power (Core.countN_rest d _ 1) :))
      fun d => (congrArg Core.power (d.raise_rest _) :)
    exact congrArg Power.funcReset (hpower.trans c.funcFree_power)
  · exact (c.funcShown_keeps (g := (Core.flag · F.SYS_FUNC_RESET_BUSY)) (fun d => Core.flag_congr (d.get_setF_ne _ (by decide)))
      (fun d => Core.flag_congr (d.get_count_ne (by decide) (by decide))) fun d => d.flag_raise_off (by decide)).trans c.busy_funcFree
  · unfold Core.funcShown
    refine (Core.f_congr (Core.get_raise_ne _ (by decide))).trans ((Core.f_count_same _ (by decide)).trans ?_)
    rw [Core.f_congr (x := ⟨R.SYS_FUNC_RESET_COUNT, 15, 0⟩) (Core.get_setF_ne _ 0 (by decide)),
      Core.f_congr (x := ⟨R.SYS_FUNC_RESET_COUNT, 15, 0⟩) (c.get_funcFree (by decide)), Nat.min_comm]

theorem funcResetDone_ends {c : Core} {x : FuncReset} (h : c.power.funcReset = some x) (ok : Bool) :
    funcResetDone ok c = (c.funcEnd x.code).funcShown.notice? x.tok (if ok then .ok else .faulted) [] := by
  have hkept : (c.funcEnd x.code).power.funcReset = some x := (congrArg Power.funcReset (offstage_power.funcEnd c x.code)).trans h
  unfold funcResetDone
  rw [h]
  exact Core.funcOver_eq hkept ok

end FuncDone

/-! ### Standby (R134 to R136) -/

section Standby
variable {c : Core}

/-- The outputs are at zero and the engines stop, in quiet standby. -/
def Core.stoodBy (c : Core) : Core := (((c.setPower { c.power with standby := none }).cutAudio.stopEngines).setF F.SYS_STATUS_STATE 2)

theorem quietStandbyEntry_enters {b : Nat} (h : c.power.standby = some (.entering b)) (hb : b ≤ c.time.n) : quietStandbyEntry c = c.stoodBy.plinth := by
  unfold quietStandbyEntry
  rw [h]
  exact if_neg fun hall => by omega

theorem Core.stopEngines_backstage (c : Core) : c.stopEngines.backstage = (c.setPower { c.power with engineStop := true }).backstage :=
  (Core.setF_backstage _ _ _).trans (Core.setF_backstage _ _ _)

theorem Core.stoodBy_parts (c : Core) : c.stoodBy.power.standby = none ∧ c.stoodBy.f F.SYS_STATUS_STATE = 2 ∧ c.stoodBy.power.engineStop = true ∧
    c.stoodBy.clk.gate = .zero := by
  have hcut : (c.setPower { c.power with standby := none }).cutAudio.power.standby = none ∧ (c.setPower { c.power with standby := none }).cutAudio.clk.gate = .zero :=
    ⟨rfl, rfl⟩
  unfold Core.stoodBy
  generalize (c.setPower { c.power with standby := none }).cutAudio = d at hcut ⊢
  obtain ⟨hnone, hgate⟩ := hcut
  have hstage := (Core.setF_backstage d.stopEngines F.SYS_STATUS_STATE 2).trans d.stopEngines_backstage
  have hstate : (d.stopEngines.setF F.SYS_STATUS_STATE 2).f F.SYS_STATUS_STATE = 2 := Core.f_setF_field _ 2 (by decide) (by decide)
  generalize d.stopEngines.setF F.SYS_STATUS_STATE 2 = e at hstage hstate ⊢
  have hpower := power_of_backstage hstage
  exact ⟨(congrArg Power.standby hpower :).trans hnone, hstate, (congrArg Power.engineStop hpower :), (congrArg Clk.gate (clk_of_backstage hstage) :).trans hgate⟩

/-- The domains of the engines are ON. -/
def Core.enginesOn (c : Core) : Core := [4, 5, 6, 7, 8, 9].foldl Core.pdUp c

/-- The state of the module is RUN, and the domains of the engines are ON. -/
def Core.running (c : Core) : Core := ((c.setPower { c.power with standby := none }).setF F.SYS_STATUS_STATE 1).enginesOn

theorem quietStandbyExit_leaves (h : c.power.standby = some .leaving) :
    quietStandbyExit c = (c.running.startEngines c.running.time.n).fadeInFrom (c.running.time.n + 4 * c.running.blk) := by
  unfold quietStandbyExit
  rw [h]
  rfl

theorem Core.enginesOn_keeps {α : Type} {g : Core → α} (hset : ∀ (c : Core) (n : Nat), g (c.pdUp n) = g c) (c : Core) : g c.enginesOn = g c :=
  foldl_keeps g Core.pdUp hset _ c

theorem Core.pdState_pdUp_ne (c : Core) {n k : Nat} (hk : k < 16) (h : n ≠ k) : (c.pdUp k).f (F.SYS_PD_STATE_PD n) = c.f (F.SYS_PD_STATE_PD n) := by
  have hk' : 2 * k + 1 < 32 := by omega
  exact c.f_setF_beside 0 (show 2 * k ≤ 2 * k + 1 by omega) hk' (show 2 * n ≤ 2 * n + 1 by omega) (by omega)

theorem Core.pdState_pdUp_same (c : Core) {n : Nat} (hn : n < 16) : (c.pdUp n).f (F.SYS_PD_STATE_PD n) = 0 := by
  have hhi : 2 * n + 1 < 32 := by omega
  exact (c.f_setF_field (o := R.SYS_PD_STATE) 0 (show 2 * n ≤ 2 * n + 1 by omega) hhi).trans (Nat.zero_mod _)

/-- Domains that are switched on one after another are ON. -/
theorem Core.pdState_pdUps (l : List Nat) (hl : ∀ k ∈ l, k < 16) {n : Nat} (hn : n < 16) (c : Core) (h : n ∈ l ∨ c.f (F.SYS_PD_STATE_PD n) = 0) :
    (l.foldl Core.pdUp c).f (F.SYS_PD_STATE_PD n) = 0 := by
  induction l generalizing c with
  | nil => exact h.resolve_left List.not_mem_nil
  | cons k l ih =>
    refine ih (fun j hj => hl j (List.mem_cons_of_mem _ hj)) (c.pdUp k) ?_
    by_cases e : n = k
    · exact .inr (e ▸ c.pdState_pdUp_same hn)
    · refine h.imp (fun hmem => (List.mem_cons.mp hmem).resolve_left e) fun hz => ?_
      exact (c.pdState_pdUp_ne (hl k List.mem_cons_self) e).trans hz

theorem Core.enginesOn_on (c : Core) {k : Nat} (hk : k < 6) : c.enginesOn.f (F.SYS_PD_STATE_PD (4 + k)) = 0 := by
  refine Core.pdState_pdUps [4, 5, 6, 7, 8, 9] (by decide) (by omega) c (.inl ?_)
  simp only [List.mem_cons, List.not_mem_nil, or_false]
  omega

/-- Supply has gone to deep standby, but for the domains. -/
def Core.asleep (c : Core) (ctrl lo hi : Word) : Core :=
  let c := ((((c.put R.SYS_STANDBY_CTRL ctrl).put R.SYS_WAKE_AT_LO lo).put R.SYS_WAKE_AT_HI hi).setF
    F.MEMC_STATUS_SELF_REFRESH 1).setF F.SYS_STATUS_STATE 3
  { c with clk := { c.clk with tcxoOn := false }, power := { c.power with step := 2 } }

/-- The record of standby has been written while supply is good. -/
def Core.recorded (c : Core) : Core := if c.flag F.SYS_STATUS_VIN_WARN then c else c.standbyRecord

theorem deepStandbyEntry_enters (h : c.power.standby = some .deepEntering) : deepStandbyEntry c =
    ((((c.recorded.cutAudio.resetN (c.recorded.get R.SYS_RESET_CAUSE).toNat).keepDram c.recorded).asleep (c.recorded.get R.SYS_STANDBY_CTRL)
      (c.recorded.get R.SYS_WAKE_AT_LO) (c.recorded.get R.SYS_WAKE_AT_HI)).domainsOff) := by
  unfold deepStandbyEntry
  rw [h]
  rfl

/-- The registers that outlive deep standby are as they were. -/
def Core.wakeKept (c : Core) (ctrl lo hi : Word) : Core := ((c.put R.SYS_STANDBY_CTRL ctrl).put R.SYS_WAKE_AT_LO lo).put R.SYS_WAKE_AT_HI hi

/-- The DRAM is in self-refresh, and the module in deep standby. -/
def Core.deepShown (c : Core) : Core := (c.setF F.MEMC_STATUS_SELF_REFRESH 1).setF F.SYS_STATUS_STATE 3

/-- The TCXO is off, and start-up is to begin with step 2. -/
def Core.deepDown (c : Core) : Core := { c with clk := { c.clk with tcxoOn := false }, power := { c.power with step := 2 } }

theorem Core.asleep_eq (c : Core) (ctrl lo hi : Word) : c.asleep ctrl lo hi = (c.wakeKept ctrl lo hi).deepShown.deepDown := rfl

theorem Core.deepShown_flags (c : Core) : c.deepShown.f F.SYS_STATUS_STATE = 3 ∧ c.deepShown.flag F.MEMC_STATUS_SELF_REFRESH = true :=
  ⟨Core.f_setF_field _ 3 (by decide) (by decide), (Core.flag_congr (Core.get_setF_ne _ 3 (by decide))).trans (c.flag_setF_bit _ _ 1 (by decide))⟩

theorem Core.deepShown_atl (c : Core) : c.deepShown.atl = c.atl := rfl

theorem Core.deepDown_parts (c : Core) : c.deepDown.power.step = 2 ∧ c.deepDown.clk.tcxoOn = false ∧ c.deepDown.atl = c.atl ∧
    c.deepDown.regs = c.regs := ⟨rfl, rfl, rfl, rfl⟩

theorem Core.asleep_parts (c : Core) (ctrl lo hi : Word) : (c.asleep ctrl lo hi).f F.SYS_STATUS_STATE = 3 ∧
    (c.asleep ctrl lo hi).flag F.MEMC_STATUS_SELF_REFRESH = true ∧ (c.asleep ctrl lo hi).power.step = 2 ∧
    (c.asleep ctrl lo hi).clk.tcxoOn = false ∧ (c.asleep ctrl lo hi).atl = c.atl := by
  have hkept : (c.wakeKept ctrl lo hi).atl = c.atl := rfl
  rw [Core.asleep_eq]
  generalize c.wakeKept ctrl lo hi = d at hkept ⊢
  obtain ⟨hstate, hself⟩ := d.deepShown_flags
  have hshown := d.deepShown_atl.trans hkept
  generalize d.deepShown = e at hstate hself hshown ⊢
  obtain ⟨hstep, htcxo, hatl, hregs⟩ := e.deepDown_parts
  exact ⟨(Core.f_congr (get_of_regs hregs _)).trans hstate, (Core.flag_congr (get_of_regs hregs _)).trans hself, hstep, htcxo, hatl.trans hshown⟩

theorem Core.keepDram_atl (c old : Core) : (c.keepDram old).atl = c.atl := rfl

theorem deepStandbyEntry_parts (h : c.power.standby = some .deepEntering) : (deepStandbyEntry c).deep = true ∧ (deepStandbyEntry c).power.step = 2 ∧
    (deepStandbyEntry c).clk.tcxoOn = false ∧ (deepStandbyEntry c).flag F.MEMC_STATUS_SELF_REFRESH = true ∧ (deepStandbyEntry c).atl.trace = [] := by
  have hentry := deepStandbyEntry_enters h
  obtain ⟨_, _, _, htrace⟩ := c.recorded.cutAudio.resetN_parts (c.recorded.get R.SYS_RESET_CAUSE).toNat
  have hdram := Core.keepDram_atl (c.recorded.cutAudio.resetN (c.recorded.get R.SYS_RESET_CAUSE).toNat) c.recorded
  have htrace := (congrArg AtelierPart.trace hdram).trans htrace
  generalize (c.recorded.cutAudio.resetN (c.recorded.get R.SYS_RESET_CAUSE).toNat).keepDram c.recorded = d at hentry htrace
  obtain ⟨hstate, hself, hstep, htcxo, hatl⟩ := d.asleep_parts (c.recorded.get R.SYS_STANDBY_CTRL) (c.recorded.get R.SYS_WAKE_AT_LO)
    (c.recorded.get R.SYS_WAKE_AT_HI)
  generalize d.asleep (c.recorded.get R.SYS_STANDBY_CTRL) (c.recorded.get R.SYS_WAKE_AT_LO) (c.recorded.get R.SYS_WAKE_AT_HI) = e
    at hentry hstate hself hstep htcxo hatl
  have hparts : (e.domainsOff.power, e.domainsOff.clk, e.domainsOff.atl) = (e.power, e.clk, e.atl) :=
    Core.domainsOff_keeps (g := fun x : Core => (x.power, x.clk, x.atl)) (fun _ _ _ => rfl) e
  have hget : ∀ {off : Nat}, off ≠ R.SYS_PD_STATE → e.domainsOff.get off = e.get off := fun hne => e.get_domainsOff hne
  rw [hentry]
  generalize e.domainsOff = x at hparts hget
  refine ⟨decide_eq_true ((Core.f_congr (hget (by decide))).trans hstate), (congrArg (fun y => y.1.step) hparts :).trans hstep,
    (congrArg (fun y => y.2.1.tcxoOn) hparts :).trans htcxo, (Core.flag_congr (hget (by decide))).trans hself, ?_⟩
  exact (congrArg (fun y => y.2.2.trace) hparts :).trans ((congrArg AtelierPart.trace hatl).trans htrace)

theorem pdOn_of_get {c d : Core} (h : c.get R.SYS_PD_STATE = d.get R.SYS_PD_STATE) (n : Nat) : c.pdOn n = d.pdOn n := by
  unfold Core.pdOn
  rw [Core.f_congr (x := F.SYS_PD_STATE_PD n) h]

theorem Traced.pdOn {d t : Core} (h : Traced d t) (n : Nat) : t.pdOn n = d.pdOn n := pdOn_of_get (h.get (by decide)) n

theorem Core.startEngines_power (c : Core) (b : Nat) : (c.startEngines b).power = { c.power with engineStop := false } :=
  power_of_backstage (offstage_backstage.startEngines c b)

theorem Core.get_startEngines (c : Core) (b : Nat) {off : Nat} (h : off < 0x300000) : (c.startEngines b).get off = c.get off :=
  (offstage_get h).startEngines c b

theorem Core.get_fadeInFrom (c : Core) (n off : Nat) : (c.fadeInFrom n).get off = c.get off := rfl

theorem Core.fadeInFrom_parts (c : Core) (n : Nat) : (c.fadeInFrom n).power = c.power ∧ (c.fadeInFrom n).clk.fadeInAt = some n := ⟨rfl, rfl⟩

theorem Core.pdUp_backstage (c : Core) (n : Nat) : (c.pdUp n).backstage = c.backstage := c.setF_backstage (F.SYS_PD_STATE_PD n) 0

theorem Core.running_parts (c : Core) : c.running.power.standby = none ∧ c.running.clk = c.clk ∧ c.running.time = c.time ∧
    c.running.f F.SYS_STATUS_STATE = 1 ∧ ∀ k : Nat, k < 6 → c.running.f (F.SYS_PD_STATE_PD (4 + k)) = 0 := by
  have hstage : c.running.backstage = (c.setPower { c.power with standby := none }).backstage :=
    (Core.enginesOn_keeps (g := Core.backstage) Core.pdUp_backstage _).trans (Core.setF_backstage _ _ _)
  have hstate : c.running.f F.SYS_STATUS_STATE = 1 :=
    (Core.enginesOn_keeps (g := (Core.f · F.SYS_STATUS_STATE)) (fun d n => Core.f_congr (d.get_setF_ne 0 (by simp only [F.SYS_PD_STATE_PD]; decide))) _).trans
      (Core.f_setF_field _ 1 (by decide) (by decide))
  have hon : ∀ k : Nat, k < 6 → c.running.f (F.SYS_PD_STATE_PD (4 + k)) = 0 := fun k hk => Core.enginesOn_on _ hk
  generalize c.running = d at hstage hstate hon ⊢
  exact ⟨(congrArg Power.standby (power_of_backstage hstage) :), (congrArg (fun x : Power × Clk × TimePart => x.2.1) hstage :),
    (congrArg (fun x : Power × Clk × TimePart => x.2.2) hstage :), hstate, hon⟩

theorem quietStandbyExit_parts (h : c.power.standby = some .leaving) : (quietStandbyExit c).power.standby = none ∧
    (quietStandbyExit c).f F.SYS_STATUS_STATE = 1 ∧ (quietStandbyExit c).power.engineStop = false ∧
    (quietStandbyExit c).clk.fadeInAt = some (c.time.n + 4 * c.blk) ∧ ∀ k : Nat, k < 6 → (quietStandbyExit c).pdOn (4 + k) = true := by
  obtain ⟨hnone, hclk, htime, hstate, hon⟩ := c.running_parts
  rw [quietStandbyExit_leaves h]
  generalize c.running = d at hnone hclk htime hstate hon ⊢
  have hblk : d.blk = c.blk := by
    unfold Core.blk
    rw [hclk]
  have hpower := d.startEngines_power d.time.n
  have hget : ∀ {off : Nat}, off < 0x300000 → (d.startEngines d.time.n).get off = d.get off := fun hoff => d.get_startEngines _ hoff
  generalize d.startEngines d.time.n = e at hpower hget ⊢
  obtain ⟨hpower', hfade⟩ := e.fadeInFrom_parts (d.time.n + 4 * d.blk)
  refine ⟨(congrArg Power.standby (hpower'.trans hpower) :).trans hnone, ?_, (congrArg Power.engineStop (hpower'.trans hpower) :), ?_, fun k hk => ?_⟩
  · exact (Core.f_congr ((e.get_fadeInFrom _ _).trans (hget (by decide)))).trans hstate
  · rw [hfade, htime, hblk]
  · refine (pdOn_of_get ((e.get_fadeInFrom _ _).trans (hget (by decide))) _).trans ?_
    unfold Core.pdOn
    rw [hon k hk]
    simp

end Standby

section CompletesRestart
variable {i : Instr} {s : State} {P : State → Prop}

/-- A reset that begins a restart and leaves no trace record loses the studio SRAM. -/
theorem completes_restart {f : Core → Core} {d : Core} (e : exec i s = runReset f s) (hd : f s.core = d) (htrace : d.atl.trace = [])
    (hwas : s.core.flag F.HOST_STATUS_RESTARTING = false) (hnow : d.flag F.HOST_STATUS_RESTARTING = true)
    (hp : P { s with core := d, mem := { s.mem with sram := [] } }) : Completes i s P := by
  subst hd
  refine completes_of_runMem (f := fun m c => (f c, if sramLost c (f c) then { m with sram := [] } else m)) e htrace ?_
  have hlost : sramLost s.core (f s.core) = true := by
    unfold sramLost
    rw [hwas, hnow]
    rfl
  dsimp only
  rw [if_pos hlost]
  exact hp

end CompletesRestart

/-- Settles O15: each reset, standby level and release is its update, read through the parts and registers that it sets. -/
theorem resetsAndStandbyComplete : Obligations.ResetsAndStandbyComplete := by
  unfold Obligations.ResetsAndStandbyComplete
  refine ⟨?_, ?_, ?_, ?_, ?_, ?_, ?_, ?_, ?_, ?_, ?_, ?_⟩
  · intro s m v w hserves hq hgo hmedia hrun
    have hrun' : w.flag F.HOST_STATUS_RESTARTING = false :=
      (Core.flag_congr (s.core.get_written_ne _ (show R.HOST_STATUS ≠ R.SYS_RESET_CTRL by decide))).trans hrun
    have hrestart := resetCtrlRestart_restarts hserves hgo hmedia
    have hatl : w.controlRestart.atl = s.core.atl := (congrArg Prod.snd w.controlRestart_bystanders).trans (s.core.written_atl _ _)
    obtain ⟨hon, hready⟩ := w.controlRestart_flags
    have hready := hready hrun'
    have hdown : w.controlRestart.easelRuns = false := by
      unfold Core.easelRuns
      rw [hon, Bool.not_true, Bool.and_false]
    change resetCtrlRestart m v s.core = w.controlRestart at hrestart
    generalize w.controlRestart = d at hatl hon hready hdown hrestart
    exact completes_restart (f := resetCtrlRestart m v) rfl hrestart ((congrArg AtelierPart.trace hatl).trans (State.trace_of_quiet hq)) hrun hon
      ⟨hon, hready, hdown, rfl⟩
  · intro s m v w hserves hq hgo hmedia
    exact completes_traced_reset (f := resetCtrlModule m v) rfl (resetCtrlModule_marks hserves hgo hmedia rfl) fun t _ h =>
      (congrArg Power.resetDue h.power).trans rfl
  · intro s m v w hserves hq hgo hcode hissued hfree hrun hon
    refine completes_traced_core (f := funcResetGo m v) rfl (funcResetGo_begins hserves hgo rfl hcode hissued hfree hrun hon) fun t _ h => ?_
    obtain ⟨hbusy, hstatus⟩ := w.funcBusy_flags (w.f F.SYS_FUNC_RESET_FUNC) none
    have hpower := (Core.funcBegin_keeps offstage_power unled_power (fun _ _ _ => rfl) (w.funcBusy (w.f F.SYS_FUNC_RESET_FUNC) none) hcode).trans
      (w.power_funcBusy _ _)
    have hget : ∀ {off : Nat}, off < 0x100000 → off % 0x100000 ≠ 4 → ((w.funcBusy (w.f F.SYS_FUNC_RESET_FUNC) none).funcBegin
        (w.f F.SYS_FUNC_RESET_FUNC)).get off = (w.funcBusy (w.f F.SYS_FUNC_RESET_FUNC) none).get off := fun hoff hint =>
      Core.funcBegin_keeps (offstage_get (by omega)) (unled_sys hoff hint) (fun _ _ _ => rfl) _ hcode
    exact ⟨congrArg Power.funcReset (h.power.trans hpower),
      (h.flag (x := F.SYS_FUNC_RESET_BUSY) (by decide)).trans ((Core.flag_congr (hget (by decide) (by decide))).trans hbusy),
      (h.flag (x := F.SYS_STATUS_FUNC_RESET_BUSY) (by decide)).trans ((Core.flag_congr (hget (by decide) (by decide))).trans hstatus)⟩
  · intro s m v w hserves hq hgo hcode
    refine completes_traced_core (f := funcResetGo m v) rfl (funcResetGo_refuses hserves hgo rfl hcode) fun t _ h => ?_
    have hpower : (w.setF F.SYS_FUNC_RESET_REFUSED 1).power = s.core.power := (power_of_backstage (w.setF_backstage _ 1)).trans (s.core.written_power _ _)
    exact ⟨(h.flag (x := F.SYS_FUNC_RESET_REFUSED) (by decide)).trans (w.flag_setF_bit _ _ 1 (by decide)), congrArg Power.funcReset (h.power.trans hpower)⟩
  · intro s ok _ hsome
    obtain ⟨x, hx⟩ := Option.isSome_iff_exists.mp hsome
    refine completes_traced_core (f := funcResetDone ok) rfl (funcResetDone_ends hx ok) fun t _ h => ?_
    have hold := (offstage_get (off := R.SYS_FUNC_RESET_COUNT) (by decide)).funcEnd s.core x.code
    generalize s.core.funcEnd x.code = d at hold h
    obtain ⟨hnone, hbusy, hdone, hcount⟩ := d.funcShown_parts
    have hpower := offstage_power.notice? d.funcShown x.tok (if ok then .ok else .faulted) []
    have hget : ∀ {off : Nat}, off < 0x300000 → t.get off = d.funcShown.get off := fun hoff =>
      (h.get (by omega)).trans ((offstage_get hoff).notice? _ _ _ _)
    generalize d.funcShown = e at hnone hbusy hdone hcount hpower hget h
    refine ⟨(congrArg Power.funcReset (h.power.trans hpower)).trans hnone, (Core.flag_congr (hget (by decide))).trans hbusy,
      (Core.flag_congr (hget (by decide))).trans hdone, (Core.f_congr (hget (by decide))).trans (hcount.trans ?_)⟩
    rw [Core.f_congr (x := ⟨R.SYS_FUNC_RESET_COUNT, 15, 0⟩) hold]
  · intro s m v w hserves hq hgo htwin hfree hfunc hmedia hst hon
    obtain ⟨htwin', hpower, hmedia', hst', hclk, _⟩ := Core.standby_written (w := w) rfl
    have hasks := Core.standbyRequest_leaves (htwin'.trans htwin) (hpower ▸ hfree) (hpower ▸ hfunc) (hmedia'.trans hmedia) (hst'.trans hst) (hclk ▸ hon)
    exact completes_traced_core (f := standbyRunGo m v) rfl (standbyCtrlWrite_asks hserves hgo (by decide) rfl hasks) fun t _ h =>
      congrArg Power.standby h.power
  · intro s m v w hserves hq hgo htwin hfree hfunc hmedia hst hon
    obtain ⟨htwin', hpower, hmedia', hst', hclk, hanchor⟩ := Core.standby_written (w := w) rfl
    have hasks := Core.standbyRequest_quiet (htwin'.trans htwin) (hpower ▸ hfree) (hpower ▸ hfunc) (hmedia'.trans hmedia) (hst'.trans hst) (hclk ▸ hon)
    rw [hanchor] at hasks
    exact completes_traced_core (f := standbyQuietGo m v) rfl (standbyCtrlWrite_asks hserves hgo (by decide) rfl hasks) fun t _ h =>
      congrArg Power.standby h.power
  · intro s m v w hserves hq hgo htwin hfree hfunc hmedia
    obtain ⟨htwin', hpower, hmedia', _, _, _⟩ := Core.standby_written (w := w) rfl
    have hasks := Core.standbyRequest_deep (htwin'.trans htwin) (hpower ▸ hfree) (hpower ▸ hfunc) (hmedia'.trans hmedia)
    exact completes_traced_core (f := standbyDeepGo m v) rfl (standbyCtrlWrite_asks hserves hgo (by decide) rfl hasks) fun t _ h =>
      congrArg Power.standby h.power
  · intro s b _ hstandby hb
    obtain ⟨hnone, hstate, hstop, hgate⟩ := s.core.stoodBy_parts
    refine completes_traced_core (f := quietStandbyEntry) rfl (quietStandbyEntry_enters hstandby hb) fun t _ h => ?_
    have hafar := h.afar.trans (aside_afar.plinth s.core.stoodBy)
    have hget : t.get R.SYS_STATUS = s.core.stoodBy.get R.SYS_STATUS := (h.get (by decide)).trans ((aside_get (by decide)).plinth _)
    generalize s.core.stoodBy = d at hnone hstate hstop hgate hafar hget
    have hpower := power_of_afar hafar
    have hclk : t.clk = d.clk := (congrArg Core.clk hafar :)
    exact ⟨(congrArg Power.standby hpower).trans hnone, (Core.f_congr hget).trans hstate, (congrArg Power.engineStop hpower).trans hstop,
      (congrArg Clk.gate hclk).trans hgate⟩
  · intro s _ hstandby
    obtain ⟨hnone, hstate, hstop, hfade, hon⟩ := quietStandbyExit_parts hstandby
    refine completes_traced_core (f := quietStandbyExit) rfl rfl fun t _ h => ?_
    refine ⟨(congrArg Power.standby h.power).trans hnone, (h.f (x := F.SYS_STATUS_STATE) (by decide)).trans hstate,
      (congrArg Power.engineStop h.power).trans hstop, (congrArg Clk.fadeInAt h.clk).trans hfade, fun k hk => ?_⟩
    exact (h.pdOn _).trans (hon k hk)
  · intro s _ hstandby
    obtain ⟨hdeep, hstep, htcxo, hself, htrace⟩ := deepStandbyEntry_parts hstandby
    have hall : deepStandbyEntryAll s.mem s.core = (deepStandbyEntry s.core, { s.mem with sram := [] }) := by
      unfold deepStandbyEntryAll
      rw [hstandby]
    refine completes_of_runMem (f := deepStandbyEntryAll) rfl ?_ ?_ <;> rw [hall]
    · exact htrace
    · exact ⟨hdeep, hstep, htcxo, hself, rfl, rfl⟩
  · intro s m v w hserves _ hgo hheld
    have hdone : outputReleaseGo m v s.core = w.releaseOutputs := by
      unfold outputReleaseGo
      rw [busWrite_served hserves]
      exact if_pos ⟨hgo, hheld⟩
    exact completes_traced_core (f := outputReleaseGo m v) rfl hdone fun t _ h => congrArg Power.releaseDue h.power

end Sys2Proof.Machine
end

section
/-! What a block boundary does beside its count (R99): readings of the media time are kept as the render ends, the gate moves and swaps take
effect. -/

namespace Sys2Proof.Machine
open Sys2Proof

/-! ### Readings of the media time -/

/-- A reading of supply, clocks and time alone: registers, counters, interrupts, messages and every other part leave it alone. -/
structure Offclock {α : Type} (g : Core → α) : Prop where
  regs : ∀ (c : Core) (m : SMap Word), g { c with regs := m } = g c
  raise : ∀ (c : Core) (x : Field), g (c.raise x) = g c
  count : ∀ (c : Core) (r n : Nat), g (c.countN r n) = g c
  countW : ∀ (c : Core) (r n : Nat), g (c.countW r n) = g c
  outbox : ∀ (c : Core) (l : List Msg), g { c with outbox := l } = g c
  freeIx : ∀ (c : Core) (n : Nat), g { c with freeIx := n } = g c
  host : ∀ (c : Core) (x : HostPart), g { c with host := x } = g c
  scene : ∀ (c : Core) (x : ScenePart), g { c with scene := x } = g c
  cal : ∀ (c : Core) (x : CalPart), g { c with cal := x } = g c
  ren : ∀ (c : Core) (x : RenPart), g { c with ren := x } = g c
  mon : ∀ (c : Core) (x : MonPart), g { c with mon := x } = g c
  out : ∀ (c : Core) (x : OutPart), g { c with out := x } = g c
  memc : ∀ (c : Core) (x : MemcPart), g { c with memc := x } = g c
  flash : ∀ (c : Core) (x : FlashPart), g { c with flash := x } = g c
  crc : ∀ (c : Core) (x : CrcPart), g { c with crc := x } = g c
  health : ∀ (c : Core) (x : HealthPart), g { c with health := x } = g c
  brush : ∀ (c : Core) (x : BrushPart), g { c with brush := x } = g c
  atl : ∀ (c : Core) (x : AtelierPart), g { c with atl := x } = g c
  survey : ∀ (c : Core) (x : SurveyPart), g { c with survey := x } = g c
  arm : ∀ (c : Core) (x : ArmPart), g { c with arm := x } = g c
  net : ∀ (c : Core) (x : NetPart), g { c with net := x } = g c
  twin : ∀ (c : Core) (x : TwinPart), g { c with twin := x } = g c
  update : ∀ (c : Core) (x : UpdatePart), g { c with update := x } = g c

/-- A reading of the media time alone, which supply and clocks leave alone too. -/
structure Unclocked {α : Type} (g : Core → α) : Prop extends Offclock g where
  power : ∀ (c : Core) (x : Power), g { c with power := x } = g c
  clk : ∀ (c : Core) (x : Clk), g { c with clk := x } = g c
  time : ∀ (c : Core) (x : TimePart), x.n = c.time.n → x.cycles = c.time.cycles → g { c with time := x } = g c

/-- The media sample count and the TIME cycles that have passed. -/
def Core.ticks (c : Core) : Nat × Nat := (c.time.n, c.time.cycles)

theorem ticks_of_rest {c d : Core} (h : c.rest = d.rest) : c.ticks = d.ticks :=
  (congrArg (fun c : Core => (c.time.n, c.time.cycles)) h :)

theorem unclocked_ticks : Unclocked Core.ticks where
  regs _ _ := rfl
  raise c x := ticks_of_rest (c.raise_rest x)
  count c r n := ticks_of_rest (c.countN_rest r n)
  countW c r n := ticks_of_rest (c.countW_rest r n)
  outbox _ _ := rfl
  freeIx _ _ := rfl
  power _ _ := rfl
  host _ _ := rfl
  clk _ _ := rfl
  time _ _ hn hc := congrArg₂ Prod.mk hn hc
  scene _ _ := rfl
  cal _ _ := rfl
  ren _ _ := rfl
  mon _ _ := rfl
  out _ _ := rfl
  memc _ _ := rfl
  flash _ _ := rfl
  crc _ _ := rfl
  health _ _ := rfl
  brush _ _ := rfl
  atl _ _ := rfl
  survey _ _ := rfl
  arm _ _ := rfl
  net _ _ := rfl
  twin _ _ := rfl
  update _ _ := rfl

theorem clk_of_rest {c d : Core} (h : c.rest = d.rest) : c.clk = d.clk := (congrArg Core.clk h :)

theorem offclock_clk : Offclock Core.clk where
  regs _ _ := rfl
  raise c x := clk_of_rest (c.raise_rest x)
  count c r n := clk_of_rest (c.countN_rest r n)
  countW c r n := clk_of_rest (c.countW_rest r n)
  outbox _ _ := rfl
  freeIx _ _ := rfl
  host _ _ := rfl
  scene _ _ := rfl
  cal _ _ := rfl
  ren _ _ := rfl
  mon _ _ := rfl
  out _ _ := rfl
  memc _ _ := rfl
  flash _ _ := rfl
  crc _ _ := rfl
  health _ _ := rfl
  brush _ _ := rfl
  atl _ _ := rfl
  survey _ _ := rfl
  arm _ _ := rfl
  net _ _ := rfl
  twin _ _ := rfl
  update _ _ := rfl

/-- The banks of a swap are exchanged, and the swap is shown as the last one. -/
def Core.swapTaken (c : Core) (w : Swap) (n : Nat) : Core :=
  (((List.range 4).foldl (fun (c : Core) p => c.swapPalette w n p) c).put64 R.CALIPER_LAST_SWAP_LO R.CALIPER_LAST_SWAP_HI (w.b % 2 ^ 60)).setF
    F.CALIPER_LAST_SWAP_HI_MASK w.mask

namespace Offclock
variable {α : Type} {g : Core → α} (h : Offclock g)
include h

theorem put (c : Core) (off : Nat) (w : Word) : g (c.put off w) = g c := h.regs c _

theorem setF (c : Core) (x : Field) (v : Nat) : g (c.setF x v) = g c := h.regs c _

theorem setB (c : Core) (x : Field) (b : Bool) : g (c.setB x b) = g c := h.regs c _

theorem count1 (c : Core) (r : Nat) : g (c.count r) = g c := h.count c r 1

theorem put64 (c : Core) (lo hi v : Nat) : g (c.put64 lo hi v) = g c := (h.put _ _ _).trans (h.put c _ _)

/-- An event is counted and told. -/
theorem told (c : Core) (r : Nat) (x : Field) : g ((c.count r).raise x) = g c := (h.raise _ _).trans (h.count1 c r)

theorem offstage : Offstage g where
  put c off w _ := h.put c off w
  raise c x _ := h.raise c x
  count c r n _ := h.count c r n
  countW c r n _ := h.countW c r n
  outbox := h.outbox
  host := h.host
  freeIx := h.freeIx
  scene := h.scene
  cal := h.cal
  ren := h.ren
  mon := h.mon
  out := h.out
  flash := h.flash
  health := h.health
  brush := h.brush
  atl := h.atl
  survey := h.survey
  arm := h.arm
  net := h.net
  twin := h.twin
  memc := h.memc
  crc := h.crc
  update := h.update

theorem aside : Aside g where
  toSupplied := h.offstage.supplied
  regs c m _ := h.regs c m

/-! ### What the environment has seen, and the end of a render -/

theorem seenAt (c : Core) (k : Nat) : g (c.seenAt k) = g c := h.health c _

theorem envSeen (c : Core) (e : BlockEnv) : g (c.envSeen e) = g c := by
  unfold Core.envSeen
  rw [foldl_keeps g Core.fecSeen fun d x => keeps_ite g rfl ((h.count _ _ _).trans (h.countW d _ _)),
    foldl_keeps g Core.hurtDm fun d x => keeps_ite g (h.brush d _) rfl]
  exact foldl_keeps g Core.hurtNear (fun d x => keeps_ite g (h.ren d _) rfl) _ c

theorem chainClips (c : Core) (o : Nat) (ks : List Nat) : g (c.chainClips o ks) = g c := keeps_ite g rfl ((h.raise _ _).trans (h.count c _ _))

theorem runChains (c : Core) (b n : Nat) : g (c.runChains b n) = g c := by
  unfold Core.runChains
  refine (h.out _ _).trans ?_
  split
  · refine (h.setF _ _ _).trans ((h.setF _ _ _).trans ((h.setF _ _ _).trans (foldl_keeps g _ (fun d x => ?_) _ c)))
    exact keeps_ite g ((h.setF _ _ _).trans (h.chainClips d _ _)) (h.chainClips d _ _)
  · refine foldl_keeps g _ (fun d x => ?_) _ c
    exact keeps_ite g ((h.setF _ _ _).trans (h.chainClips d _ _)) (h.chainClips d _ _)

theorem chainTurn (c : Core) (b : Nat) : g (c.chainTurn b) = g c := by
  unfold Core.chainTurn
  split
  · exact keeps_ite g (h.out c _) ((h.setF _ _ _).trans (h.runChains c b _))
  · exact (h.setF _ _ _).trans (h.out c _)

theorem nearFaultRead (c : Core) (a : Nat) : g (c.nearFaultRead a) = g c := by
  unfold Core.nearFaultRead
  dsimp only
  refine keeps_ite g ((h.told _ _ _).trans (keeps_ite g (h.seenAt c _) ?_)) ((h.told _ _ _).trans (h.seenAt c _))
  exact (h.setF _ _ _).trans ((h.setF _ _ _).trans (h.seenAt c _))

theorem laneSmudge (c : Core) (l : Nat) : g (c.laneSmudge l) = g c :=
  keeps_ite g rfl (keeps_ite g ((h.countW _ _ _).trans (h.health c _)) (h.health c _))

theorem fetchCounts (c : Core) : g c.fetchCounts = g c := by
  have hlane : ∀ (d : Core) (l : Nat), g ((d.laneFetch (d.ren.entries.filter (·.lane = l))).2.2.2.foldl Core.nearFaultRead
      ((List.range ((d.laneFetch (d.ren.entries.filter (·.lane = l))).1 + (d.laneFetch (d.ren.entries.filter (·.lane = l))).2.2.1)).foldl
        (fun (e : Core) _ => e.laneSmudge (e.standIn l)) (((d.countW R.RENDER_WINDOW_FETCH (d.laneFetch (d.ren.entries.filter (·.lane = l))).1).countW
          R.RENDER_WINDOW_SHARED (d.laneFetch (d.ren.entries.filter (·.lane = l))).2.1).countW R.RENDER_FAR_FETCH
          (d.laneFetch (d.ren.entries.filter (·.lane = l))).2.2.1))) = g d := fun d l => by
    refine (foldl_keeps g _ h.nearFaultRead _ _).trans ((foldl_keeps g _ (fun e _ => h.laneSmudge e _) _ _).trans ?_)
    exact (h.countW _ _ _).trans ((h.countW _ _ _).trans (h.countW d _ _))
  have hlanes := foldl_keeps g _ hlane (List.range 32) c
  unfold Core.fetchCounts
  exact keeps_ite g ((h.setF _ _ _).trans hlanes) hlanes

theorem finishRender (c : Core) (dram : Nat → Option Nat) : g (c.finishRender dram) = g c := by
  unfold Core.finishRender
  refine keeps_ite g rfl ?_
  have hclips : ∀ (l : List (Nat × Nat)) (d : Core), g (l.foldl (fun (e : Core) x =>
      if x.2 = 0 then e else (e.countN (R.RENDER_CLIP x.1) x.2).raise F.RENDER_INT_STATUS_CLIP) d) = g d := fun l d =>
    foldl_keeps g _ (fun e x => keeps_ite g rfl ((h.raise _ _).trans (h.count e _ _))) l d
  refine keeps_ite g ?_ ((h.raise _ _).trans ((h.count _ _ _).trans ?_)) <;> exact (hclips _ _).trans ((h.ren _ _).trans (h.fetchCounts c))

theorem wordRead (m : Nat) (c : Core) (w : Nat) : g (Core.wordRead m c w) = g c := h.offstage.supplied.wordRead m c w

theorem renderSumsDone (mem : Mem) (c : Core) : g (renderSumsDone mem c).1 = g c := by
  refine (h.finishRender _ _).trans (keeps_ite g rfl ?_)
  exact (foldl_keeps g _ (fun d (x : Nat × Nat) => h.wordRead 9 d x.1) _ _).trans (h.count c _ _)

theorem pairBlock (c : Core) (p : Nat) : g (c.pairBlock p) = g c := by
  unfold Core.pairBlock
  dsimp only
  split
  · exact (h.mon _ _).trans (h.mon c _)
  · exact (h.mon _ _).trans ((h.mon _ _).trans (h.mon c _))

theorem mixBlock (c : Core) (m : Nat) : g (c.mixBlock m) = g c := (h.mon _ _).trans (h.mon c _)

theorem monitorBlock (c : Core) : g c.monitorBlock = g c :=
  keeps_ite g rfl ((foldl_keeps g _ h.mixBlock _ _).trans (foldl_keeps g _ h.pairBlock _ c))

theorem closeRender (c : Core) (b : Nat) (mem : Mem) : g (c.closeRender b mem) = g c := by
  have hsums : g (Machine.renderSumsDone mem (c.chainTurn b)).1 = g c := (h.renderSumsDone mem _).trans (h.chainTurn c b)
  exact keeps_ite g ((h.out _ _).trans ((h.monitorBlock _).trans hsums)) ((h.mon _ _).trans hsums)

theorem captureTdm (c : Core) (b : Nat) : g (c.captureTdm b).2 = g c := by
  refine foldl_snd_keeps g _ (fun a p => ?_) _ _
  split
  · split
    · exact h.arm _ _
    · rfl
  · rfl

end Offclock

namespace Unclocked
variable {α : Type} {g : Core → α} (h : Unclocked g)
include h

theorem unled : Unled g where
  set c x v _ := h.setF c x v
  leader c off w _ := h.put c off w
  count c r _ := h.count1 c r
  raise c x _ := h.raise c x
  time c x _ hn hc := h.time c x hn hc
  clk c x := h.clk c x

/-! ### The gate and the swaps -/

theorem releaseTurn (c : Core) : g c.releaseTurn = g c := by
  have hout : g ((({ c with power := { c.power with releaseDue := false } } : Core).setF F.SYS_STATUS_OUTPUT_HELD 0).raise
      F.SYS_INT_STATUS_OUTPUT_RELEASED) = g c := (h.raise _ _).trans ((h.setF _ _ _).trans (h.power c _))
  exact keeps_ite g (keeps_ite g hout ((h.clk _ _).trans hout)) rfl

theorem riseTurn (c : Core) : g c.riseTurn = g c := by
  unfold Core.riseTurn
  dsimp only
  split
  · rfl
  · exact keeps_ite g rfl (keeps_ite g ((h.clk _ _).trans (h.clk c _)) (h.clk c _))

theorem gateTurn (c : Core) : g c.gateTurn = g c := (h.riseTurn _).trans ((h.releaseTurn _).trans (h.clk c _))

theorem clkoutRestart (c : Core) : g c.clkoutRestart = g c := (foldl_keeps g _ (fun d _ => h.clk d _) _ _).trans (h.clk c _)

theorem portTurn (c : Core) (p : Nat) : g (c.portTurn p) = g c := keeps_ite g rfl (keeps_ite g (h.offstage.portStart c p) rfl)

theorem portsTurn (c : Core) : g c.portsTurn = g c := (h.offstage.poolBases _).trans (foldl_keeps g _ h.portTurn _ c)

theorem glazeRegs (c : Core) : g c.glazeRegs = g c := by
  refine foldl_keeps g _ (fun d e => ?_) _ c
  split
  · exact h.setF d _ _
  · rfl

theorem swapChains (c : Core) (glaze : Bool) : g (c.swapChains glaze) = g c :=
  (h.offstage.loadHeadroom _).trans (keeps_ite g ((foldl_keeps g _ (fun d _ => keeps_ite g rfl (h.out d _)) _ _).trans (h.out c _)) (h.out c _))

theorem swapLayout (c : Core) (b : Nat) : g (c.swapLayout b) = g c := (h.scene _ _).trans (h.offstage.maquetteEnd c true b)

theorem swapRoutes (c : Core) : g c.swapRoutes = g c := (h.offstage.loadRoutes _ _).trans (h.arm c _)

theorem swapParams (c : Core) (b n : Nat) : g (c.swapParams b n) = g c := by
  refine (h.glazeRegs _).trans ((foldl_keeps g _ (fun d e => ?_) _ _).trans (h.brush c _))
  split
  · rfl
  · exact (h.setF _ _ _).trans ((h.setF _ _ _).trans ((h.put _ _ _).trans (h.brush d _)))

theorem swapPalette (c : Core) (w : Swap) (n p : Nat) : g (c.swapPalette w n p) = g c := by
  have hflip : g (c.flipBank p) = g c := h.setF c _ _
  unfold Core.swapPalette
  refine keeps_ite g rfl ?_
  split
  · exact (h.swapLayout _ _).trans hflip
  · exact (h.survey _ _).trans ((h.swapChains _ _).trans hflip)
  · exact (h.swapRoutes _).trans hflip
  · exact (h.swapParams _ _ _).trans hflip

theorem swapTaken (c : Core) (w : Swap) (n : Nat) : g (c.swapTaken w n) = g c :=
  (h.setF _ _ _).trans ((h.put64 _ _ _ _).trans (foldl_keeps g _ (fun e p => h.swapPalette e w n p) _ c))

theorem executeSwap (c : Core) (w : Swap) : g (c.executeSwap w) = g c := by
  have hshown : ∀ (d : Core) (x : CalPart), g ({ d with cal := x } : Core).palShow.saveShow = g d := fun d x =>
    (h.offstage.saveShow _).trans ((h.offstage.palShow _).trans (h.cal d x))
  have hswap : ∀ (x y : CalPart) (n : Nat), g ({ ({ c with cal := x } : Core).swapTaken w n with cal := y } : Core).palShow.saveShow = g c := fun x y n =>
    (hshown _ _).trans ((h.swapTaken _ _ _).trans (h.cal c x))
  exact keeps_ite g ((h.offstage.glazeOver _ _).trans (hswap _ _ _)) (hswap _ _ _)

theorem openTurn (c : Core) : g c.openTurn = g c :=
  (h.portsTurn _).trans ((foldl_keeps g _ h.executeSwap _ _).trans (h.clkoutRestart c))

end Unclocked

end Sys2Proof.Machine
end

section
/-! What a block boundary does beside its count, continued (R99): the armature, the cores, the measurements and the next render leave
the media time alone. -/

namespace Sys2Proof.Machine
open Sys2Proof

namespace Unclocked
variable {α : Type} {g : Core → α} (h : Unclocked g)
include h

/-! ### Streams, PDM inputs and the armature -/

theorem setRxStream (c : Core) (s : Nat) (x : RxStream) : g (c.setRxStream s x) = g c := h.net c _

theorem judge (c : Core) (s b : Nat) : g (c.judge s b) = g c := by
  have hunderrun : ∀ d : Core, g (((((d.count R.ARMATURE_UNDERRUN_COUNT).raise F.ARMATURE_INT_STATUS_UNDERRUN).count (R.MEDIA_RX_UNDERRUN s)).raise
      F.MEDIA_INT_STATUS_UNDERRUN).setF (F.MEDIA_RX_STATE_STATE s) 3) = g d := fun d =>
    (h.setF _ _ _).trans ((h.told _ _ _).trans (h.told d _ _))
  unfold Core.judge
  dsimp only
  refine keeps_ite g ((h.setF _ _ _).trans (h.setRxStream c _ _)) (keeps_ite g ?_ (h.setRxStream c _ _))
  exact (hunderrun _).trans (h.setRxStream c _ _)

theorem releaseStream (c : Core) (b s : Nat) : g (c.releaseStream b s) = g c :=
  keeps_ite g (h.setRxStream c _ _) ((h.setRxStream _ _ _).trans (h.judge c _ _))

theorem releaseAll (c : Core) (b : Nat) : g (c.releaseAll b) = g c := foldl_keeps g _ (fun d s => h.releaseStream d b s) _ c

theorem setPdm (c : Core) (n : Nat) (x : PdmChain) : g (c.setPdm n x) = g c := h.survey c _

theorem pdmTurn (c : Core) (n : Nat) : g (c.pdmTurn n) = g c := by
  have hmode : ∀ a b : Nat, g (if c.clk.mult ≠ 2 ∧ c.pdmMode n ≠ c.f (F.PDM_CH_CTRL_D1 n) then (c.setF (F.PDM_CH_CTRL_D1 n) a).setF
      (F.PDM_CH_CTRL_SH_CIC n) b else c) = g c := fun a b => keeps_ite g ((h.setF _ _ _).trans (h.setF c _ _)) rfl
  exact keeps_ite g (hmode _ _) ((h.setF _ _ _).trans ((h.setPdm _ _ _).trans (hmode _ _)))

theorem pdmBlock (c : Core) (n b : Nat) (bits : List Bool) : g (c.pdmBlock n b bits) = g c := by
  have hturn := h.pdmTurn c n
  unfold Core.pdmBlock
  refine keeps_ite g hturn (keeps_ite g ((h.setPdm _ _ _).trans hturn) ?_)
  exact (h.raise _ _).trans ((h.count _ _ _).trans ((h.setPdm _ _ _).trans hturn))

theorem pdmBlocks (c : Core) (b : Nat) (bits : List (List Bool)) : g (c.pdmBlocks b bits) = g c :=
  (foldl_keeps g _ (fun d n => h.pdmBlock d n b _) _ _).trans (h.put c _ _)

theorem dpMute (c : Core) (n : Nat) : g (c.dpMute n) = g c :=
  keeps_ite g rfl ((h.told _ _ _).trans ((h.setF _ _ _).trans (h.arm c _)))

theorem mark (c : Core) (s n : Nat) : g (c.mark s n) = g c := by
  have hmark : ∀ x : ArmPart, g { c with arm := x } = g c := h.arm c
  unfold Core.mark
  dsimp only
  refine keeps_ite g (hmark _) ((foldl_keeps g _ h.dpMute _ _).trans ((h.setB _ _ _).trans ((h.told _ _ _).trans ?_)))
  exact keeps_ite g (hmark _) ((h.setF _ _ _).trans ((h.setF _ _ _).trans (hmark _)))

theorem examine (c : Core) (b : Nat) (m : SMap (List Int)) (pair : Nat → Option Nat) (flagged : List Nat) : g (c.examine b m pair flagged) = g c :=
  (h.arm _ _).trans (foldl_keeps g _ (fun d s => h.mark d s _) _ c)

theorem meterBlock (c : Core) (s n : Nat) (xs : List Int) : g (c.meterBlock s n xs) = g c :=
  (h.put _ _ _).trans ((h.put _ _ _).trans ((h.put _ _ _).trans ((h.setF _ _ _).trans (h.arm c _))))

theorem meterAll (c : Core) (n : Nat) (src : SMap (List Int)) : g (c.meterAll n src) = g c := foldl_keeps g _ (fun d s => h.meterBlock d s n _) _ c

theorem deliver (c : Core) (b : Nat) (src : SMap (List Int)) : g (c.deliver b src) = g c := by
  have hparts : ∀ (arm : ArmPart) (ren : RenPart) (survey : SurveyPart) (brush : BrushPart),
      g { c with arm := arm, ren := ren, survey := survey, brush := brush } = g c := fun arm ren survey brush =>
    (h.brush { c with arm := arm, ren := ren, survey := survey } brush).trans <|
      (h.survey { c with arm := arm, ren := ren } survey).trans ((h.ren { c with arm := arm } ren).trans (h.arm c arm))
  exact hparts _ _ _ _

theorem armatureTurn (c : Core) (b : Nat) (tdm mons : SMap (List Int)) (pdm : List (List Bool)) : g (c.armatureTurn b tdm mons pdm) = g c := by
  have hseen : ∀ (both : SMap (List Int)) (pair : Nat → Option Nat) (flagged : List Nat) (n : Nat),
      g (((((c.releaseAll n).pdmBlocks b pdm).examine b both pair flagged).brushOut n)) = g c := fun both pair flagged n =>
    (h.brush _ _).trans ((h.examine _ _ _ _ _).trans ((h.pdmBlocks _ _ _).trans (h.releaseAll c n)))
  unfold Core.armatureTurn
  exact (h.deliver _ _ _).trans ((h.meterAll _ _ _).trans (hseen _ _ _ _))

/-! ### Cores and measurements -/

theorem brushFill (c : Core) (b : Nat) : g (c.brushFill b) = g c := by
  refine (foldl_keeps g _ (fun d i => keeps_ite g rfl (h.put64 d _ _ _)) _ _).trans (foldl_keeps g _ (fun d e => ?_) _ c)
  split
  · exact keeps_ite g rfl (foldl_keeps g _ (fun x y => h.brush x _) _ d)
  · rfl

theorem bcShow (c : Core) (k pc : Nat) : g (c.bcShow k pc) = g c := (h.put _ _ _).trans ((h.put _ _ _).trans (h.setF c _ _))

theorem bcGo (c : Core) (k : Nat) : g (c.bcGo k) = g c :=
  keeps_ite g rfl ((h.bcShow _ _ _).trans ((h.setF _ _ _).trans (h.brush c _)))

theorem brushDue (c : Core) : g c.brushDue = g c := by
  unfold Core.brushDue
  refine (foldl_keeps g _ (fun d x => keeps_ite g ((h.bcGo _ _).trans (h.setF d _ _)) rfl) _ _).trans ?_
  exact (foldl_keeps g _ (fun d x => h.brush d _) _ _).trans (h.brush c _)

theorem bcStop (c : Core) (k : Nat) : g (c.bcStop k) = g c := h.offstage.supplied.bcStop c k

theorem fwSync (c : Core) : g c.fwSync = g c := by
  have hgive : ∀ (d : Core) (l : Nat), g (d.fwGive l) = g d := fun d l => (h.setF _ _ _).trans ((h.bcStop _ _).trans (h.brush d _))
  have htake : ∀ (d : Core) (l : Nat), g (d.fwTake l) = g d := fun d l => by
    have htaken : ∀ x : BrushPart, g ((({ d with brush := x } : Core).setBrushEn (d.phys l) true).setF (F.BRUSH_CORE_STATE_OWNER (d.phys l)) 1) = g d :=
      fun x => (h.setF _ _ _).trans ((h.setB _ _ _).trans (h.brush d x))
    exact keeps_ite g ((h.setF _ _ _).trans (htaken _)) (htaken _)
  exact (h.setF _ _ _).trans ((foldl_keeps g _ htake _ _).trans (foldl_keeps g _ hgive _ c))

theorem directDone (c : Core) : g c.directDone = g c :=
  (foldl_keeps g _ (fun d _ => h.offstage.notice d _ _ _) _ _).trans (h.arm c _)

theorem detect (c : Core) (n : Nat) : g (c.detect n) = g c := (h.survey _ _).trans ((h.setF _ _ _).trans (h.setF c _ _))

theorem measureBlock (c : Core) (b : Nat) : g (c.measureBlock b) = g c := by
  unfold Core.measureBlock
  split
  · split
    · exact keeps_ite g rfl (h.offstage.setMeas c _)
    · rfl
  · rfl

theorem surveyCapture (c : Core) (b : Nat) : g (c.surveyCapture b) = g c := keeps_ite g (h.survey c _) (h.survey c _)

theorem followTurn (c : Core) (b : Nat) : g (c.followTurn b) = g c := by
  have hcores : g ((((c.brushFill c.time.n).glazeRegs.brushDue.fwSync).dpTurn).directDone) = g c :=
    (h.directDone _).trans ((h.arm _ _).trans ((h.fwSync _).trans ((h.brushDue _).trans ((h.glazeRegs _).trans (h.brushFill c _)))))
  have hdetect : ∀ d : Core, g d.detectAll = g d := fun d => keeps_ite g rfl (foldl_keeps g _ h.detect _ d)
  exact (h.surveyCapture _ _).trans ((h.measureBlock _ _).trans ((hdetect _).trans hcores))

/-! ### The next render -/

theorem expertApply (c : Core) (x : ExpertWrite) : g (c.expertApply x) = g c := by
  refine foldl_keeps g _ (fun d i => ?_) _ c
  split
  · rfl
  · exact h.ren d _

theorem expertBlock (c : Core) : g c.expertBlock = g c := (foldl_keeps g _ h.expertApply _ _).trans (h.ren c _)

theorem startRender (c : Core) : g c.startRender = g c := by
  unfold Core.startRender
  split
  · exact h.ren c _
  · exact h.ren c _

theorem monitorTurn (c : Core) : g c.monitorTurn = g c := by
  unfold Core.monitorTurn
  dsimp only
  generalize (if c.flag F.CALIPER_MAQUETTE_EN = true then c.pairAnchor (c.f F.CALIPER_MAQUETTE_PAIR) else none) = x
  cases x with
  | none => rfl
  | some b => exact keeps_ite g (h.offstage.maquetteEnd c _ _) rfl

theorem drainWrites (c : Core) : g c.drainWrites = g c := foldl_keeps g _ (fun d ch => h.offstage.supplied.drainTo ch 0 _ d) _ c

theorem renderTurn (c : Core) (mem : Mem) : g (c.renderTurn mem).1 = g c := by
  have hwrite : ∀ (l : List (Nat × List Byte)) (a : Core × Mem), g (l.foldl (fun (a : Core × Mem) y => memWrite 9 y.1 y.2 a.2 a.1) a).1 = g a.1 := fun l => by
    induction l with
    | nil => exact fun _ => rfl
    | cons y t ih => exact fun a => (ih _).trans (h.offstage.supplied.memWrite 9 y.1 y.2 a.2 a.1)
  have hlines : g c.writeLines.1 = g c := h.ren c _
  have hfar : ∀ l : List (Nat × List Byte), g (l.foldl (fun (a : Core × Mem) y => memWrite 9 y.1 y.2 a.2 a.1) (c.writeLines.1, mem)).1 = g c :=
    fun l => (hwrite l _).trans hlines
  have hnext : ∀ d : Core, g d.expertBlock.startRender.monitorTurn.drainWrites = g d := fun d =>
    (h.drainWrites _).trans ((h.monitorTurn _).trans ((h.startRender _).trans (h.expertBlock d)))
  unfold Core.renderTurn
  dsimp only
  refine (hnext _).trans ?_
  exact hfar _

end Unclocked

end Sys2Proof.Machine
end

section
/-! What a block boundary does beside its count, concluded (R99): health, Smudge, the twin and event notices leave the media time alone. -/

namespace Sys2Proof.Machine
open Sys2Proof

namespace Unclocked
variable {α : Type} {g : Core → α} (h : Unclocked g)
include h

/-! ### Units, suspicion and retirement (R512 to R520) -/

theorem putUnit (c : Core) (res u : Nat) (x : UnitRec) : g (c.putUnit res u x) = g c := h.health c _

theorem ledger (c : Core) (kind res unit detail : Nat) (value : Int) (smudge : Bool) : g (c.ledger kind res unit detail value smudge) = g c :=
  keeps_ite g (h.count1 c _) ((h.setB _ _ _).trans (h.health c _))

theorem note (c : Core) (kind res u detail : Nat) (value : Int) : g (c.note kind res u detail value) = g c := h.ledger c kind res u detail value false

theorem suspect (c : Core) (res u detail : Nat) (value : Int) : g (c.suspect res u detail value) = g c :=
  (h.note _ _ _ _ _ _).trans ((h.putUnit _ _ _ _).trans (h.told c _ _))

theorem differed (c : Core) (res u partner : Nat) : g (c.differed res u partner) = g c := (h.note _ _ _ _ _ _).trans (h.putUnit c _ _ _)

theorem swapped (c : Core) (res u spare : Nat) : g (c.swapped res u spare) = g c := (h.note _ _ _ _ _ _).trans (h.told c _ _)

theorem setBcState (c : Core) (k st : Nat) : g (c.setBcState k st) = g c := h.offstage.supplied.setBcState c k st

theorem retire (c : Core) (res u : Nat) : g (c.retire res u) = g c := by
  have hnoted : ∀ (x : UnitRec), g ((((c.count R.HEALTH_RETIRED).raise F.HEALTH_INT_STATUS_RETIRED).putUnit res u x).note 6 res u 0 0) = g c := fun x =>
    (h.note _ _ _ _ _ _).trans ((h.putUnit _ _ _ _).trans (h.told c _ _))
  unfold Core.retire
  dsimp only
  refine keeps_ite g ((h.setF _ _ _).trans (hnoted _)) (keeps_ite g ((h.setF _ _ _).trans (hnoted _)) ?_)
  exact keeps_ite g ((h.setBcState _ _ _).trans (hnoted _)) (hnoted _)

theorem laneLost (c : Core) (l : Nat) : g (c.laneLost l) = g c := by
  have hspare : ∀ x : HealthPart, g (((({ c with health := x } : Core).setF F.HEALTH_STATUS_NO_SPARE 1).raise F.HEALTH_INT_STATUS_NO_SPARE).note 8 1 l 0 0) =
      g c := fun x => (h.note _ _ _ _ _ _).trans ((h.raise _ _).trans ((h.setF _ _ _).trans (h.health c x)))
  exact (h.setF _ _ _).trans ((h.setF _ _ _).trans ((h.setF _ _ _).trans (hspare _)))

/-! ### Migration of cores -/

theorem setMig (c : Core) (k : Nat) (m : Option Migration) : g (c.setMig k m) = g c := (h.setB _ _ _).trans (h.brush c _)

theorem copyCore (c : Core) (k s : Nat) : g (c.copyCore k s) = g c := by
  have hregs : g ((List.range 68).foldl (fun (d : Core) i => d.put (R.BRUSH_CORE_STATE s + (4 + 4 * i)) (d.get (R.BRUSH_CORE_STATE k + (4 + 4 * i)))) c) = g c :=
    foldl_keeps g _ (fun d i => h.put d _ _) _ c
  exact (h.brush _ _).trans ((h.brush _ _).trans hregs)

theorem migStart (c : Core) (unit spare : Nat) (tok : Option Tok) : g (c.migStart unit spare tok) = g c :=
  (h.setMig _ _ _).trans ((h.setBcState _ _ _).trans (h.copyCore c _ _))

theorem migBegin (c : Core) (unit : Nat) (patrol retire : Bool) (tok : Option Tok) : g (c.migBegin unit patrol retire tok) = g c := by
  unfold Core.migBegin
  split
  · rfl
  · dsimp only
    split
    · exact (h.setMig _ _ _).trans (h.migStart c _ _ _)
    · exact h.migStart c _ _ _

theorem migDiffer (c : Core) (k : Nat) (m : Migration) : g (c.migDiffer k m) = g c := (h.setMig _ _ _).trans (h.told c _ _)

theorem migBlock (c : Core) (k : Nat) (differs : Bool) : g (c.migBlock k differs) = g c := by
  unfold Core.migBlock
  split
  · rfl
  · refine keeps_ite g ((h.setMig _ _ _).trans ((h.setBcState _ _ _).trans (h.copyCore c _ _))) (keeps_ite g (h.setMig c _ _) ?_)
    exact keeps_ite g (h.migDiffer c _ _) rfl

theorem migAbandon (c : Core) (k : Nat) : g (c.migAbandon k) = g c := h.offstage.supplied.migAbandon c k

theorem migTurn (c : Core) (k : Nat) (differs : Bool) : g (c.migTurn k differs) = g c := by
  unfold Core.migTurn
  split
  · rfl
  · refine keeps_ite g ((h.health _ _).trans ((h.migDiffer _ _ _).trans ((h.differed _ _ _ _).trans (h.suspect c _ _ _ _)))) ?_
    refine keeps_ite g ((h.countW _ _ _).trans (h.migAbandon c _)) (keeps_ite g ?_ (h.migBlock c _ _))
    exact (h.migBlock _ _ _).trans (h.differed c _ _ _)

theorem coreClear (c : Core) (k : Nat) : g (c.coreClear k) = g c := h.offstage.supplied.coreClear c k

theorem coreLost (c : Core) (k : Nat) : g (c.coreLost k) = g c := by
  have hspare : ∀ a b e : Nat, g ((((((c.setF F.HEALTH_STATUS_NO_SPARE a).raise F.HEALTH_INT_STATUS_NO_SPARE).note 8 3 k 0 0).setF F.HEALTH_CAPACITY_BRUSH b).setF
      F.HEALTH_CAPACITY_REDUCED e).setF F.HEALTH_STATUS_CAPACITY_REDUCED 1) = g c := fun a b e =>
    (h.setF _ _ _).trans ((h.setF _ _ _).trans ((h.setF _ _ _).trans ((h.note _ _ _ _ _ _).trans ((h.raise _ _).trans (h.setF c _ _)))))
  unfold Core.coreLost
  split
  · rfl
  · dsimp only
    split
    · refine (h.health _ _).trans ((h.retire _ _ _).trans ((h.setF _ _ _).trans ((h.setF _ _ _).trans ((h.coreClear _ _).trans ?_))))
      refine (h.setF _ _ _).trans ((h.setF _ _ _).trans ((h.setB _ _ _).trans ((h.setF _ _ _).trans ((h.put _ _ _).trans ?_))))
      exact (h.copyCore _ _ _).trans (hspare _ _ _)
    · exact (h.health _ _).trans ((h.retire _ _ _).trans ((h.bcStop _ _).trans ((h.brush _ _).trans (hspare _ _ _))))

theorem coreSuspect (c : Core) (k : Nat) (value : Int) : g (c.coreSuspect k value) = g c := by
  have hsuspect := h.suspect c 3 k 0 value
  unfold Core.coreSuspect
  dsimp only
  refine keeps_ite g rfl ?_
  split
  · exact keeps_ite g ((h.migBegin _ _ _ _ _).trans ((h.migAbandon _ _).trans hsuspect)) hsuspect
  · exact keeps_ite g ((h.migBegin _ _ _ _ _).trans hsuspect) ((h.coreLost _ _).trans hsuspect)

/-! ### Patrols, qualification and judgement -/

theorem laneReturn (c : Core) (l m : Nat) (tok : Option Tok) : g (c.laneReturn l m tok) = g c :=
  (h.offstage.notice? _ _ _ _).trans ((h.putUnit _ _ _ _).trans ((h.health _ _).trans (h.offstage.setStandIn c _ _)))

theorem patrolTurn (c : Core) (p : Patrol) (diffs : List Nat) : g (c.patrolTurn p diffs) = g c := by
  have hdrop : ∀ x : HealthPart, g { c with health := x } = g c := h.health c
  have hnew : ∀ (l : List Nat) (s : Nat → Nat), g (l.foldl (fun (d : Core) x => (d.suspect 1 x (s x) 0).differed 1 x (s x)) c) = g c := fun l s =>
    foldl_keeps g _ (fun d x => (h.differed _ _ _ _).trans (h.suspect d _ _ _ _)) l c
  unfold Core.patrolTurn
  refine keeps_ite g rfl (keeps_ite g ?_ ?_)
  · refine keeps_ite g ?_ (keeps_ite g ((h.laneReturn _ _ _ _).trans (hdrop _)) rfl)
    exact (h.offstage.notice? _ _ _ _).trans ((h.retire _ _ _).trans ((h.differed _ _ _ _).trans (hdrop _)))
  · refine keeps_ite g ?_ ((h.countW _ _ _).trans ((h.health _ _).trans ?_)) <;> exact (h.health _ _).trans (hnew _ _)

theorem qualifyRun (c : Core) (q : Qualify) (failed : Bool) : g (c.qualifyRun q failed) = g c := by
  have hdrop : ∀ x : HealthPart, g { c with health := x } = g c := h.health c
  have hdone : ∀ x : HealthPart, g ((({ c with health := x } : Core).raise F.HEALTH_INT_STATUS_QUALIFIED).note 5 q.res q.unit 0 0) = g c := fun x =>
    (h.note _ _ _ _ _ _).trans ((h.raise _ _).trans (hdrop x))
  unfold Core.qualifyRun
  refine keeps_ite g ?_ (keeps_ite g (hdrop _) (keeps_ite g ((h.health _ _).trans (hdone _)) ?_))
  · exact (h.offstage.notice? _ _ _ _).trans ((h.retire _ _ _).trans ((h.putUnit _ _ _ _).trans (hdrop _)))
  · exact (h.offstage.notice? _ _ _ _).trans ((h.putUnit _ _ _ _).trans ((h.setBcState _ _ _).trans ((h.health _ _).trans (hdone _))))

theorem qualifyTurn (c : Core) (fails : List Nat) : g (c.qualifyTurn fails) = g c := foldl_keeps g _ (fun d q => h.qualifyRun d q _) _ c

theorem selfTest (c : Core) (res u : Nat) (failed : Bool) : g (c.selfTest res u failed) = g c := by
  have hrun := h.countW c R.HEALTH_SELFTEST_RUNS 1
  exact keeps_ite g hrun ((h.retire _ _ _).trans ((h.note _ _ _ _ _ _).trans ((h.putUnit _ _ _ _).trans ((h.told _ _ _).trans hrun))))

theorem selfTests (c : Core) (fails : List Nat) : g (c.selfTests fails) = g c := by
  refine keeps_ite g rfl ((foldl_keeps g _ (fun d k => h.selfTest d 3 k _) _ _).trans ?_)
  exact foldl_keeps g _ (fun d m => h.selfTest d 1 (32 + m) _) _ c

theorem standInFor (c : Core) (p : Patrol) : g (c.standInFor p) = g c := by
  have hwhich : ∀ l : List (Nat × Nat), g (l.foldl (fun (d : Core) x =>
      let d := (d.setStandIn x.2 (some x.1)).putUnit 1 x.1 { d.unit 1 x.1 with state := 3 }
      let d := d.swapped 1 x.1 (32 + x.2)
      if d.recent 1 x.1 then (d.retire 1 x.1).notice? p.tok .ok []
      else
        let q : Qualify := { res := 1, unit := x.1, tok := p.tok }
        { d with health := { d.health with qualify := d.health.qualify ++ [q] } }) c) = g c := fun l => by
    refine foldl_keeps g _ (fun d x => ?_) l c
    have hlane' : ∀ y : UnitRec, g (((d.setStandIn x.2 (some x.1)).putUnit 1 x.1 y).swapped 1 x.1 (32 + x.2)) = g d := fun y =>
      (h.swapped _ _ _ _).trans ((h.putUnit _ _ _ _).trans (h.offstage.setStandIn d _ _))
    exact keeps_ite g ((h.offstage.notice? _ _ _ _).trans ((h.retire _ _ _).trans (hlane' _))) ((h.health _ _).trans (hlane' _))
  exact (h.health _ _).trans (hwhich _)

theorem judgeKey (c : Core) (key : Nat) : g (c.judgeKey key) = g c := by
  have hmark : ∀ (base res u detail : Nat) (n : Int), g ((c.markKey base).suspect res u detail n) = g c := fun _ _ _ _ _ =>
    (h.suspect _ _ _ _ _).trans (h.health c _)
  unfold Core.judgeKey
  refine keeps_ite g rfl (keeps_ite g (h.coreSuspect c _ _) (keeps_ite g ?_ (keeps_ite g (hmark _ _ _ _ _) rfl)))
  exact keeps_ite g ((h.raise _ _).trans ((h.note _ _ _ _ _ _).trans (hmark _ _ _ _ _))) (hmark _ _ _ _ _)

theorem judgeErrors (c : Core) : g c.judgeErrors = g c := (h.health _ _).trans (foldl_keeps g _ h.judgeKey _ c)

theorem judgeCores (c : Core) : g c.judgeCores = g c := foldl_keeps g _ (fun d k => keeps_ite g (h.coreSuspect d k 4) rfl) _ c

theorem judgeEngines (c : Core) : g c.judgeEngines = g c := by
  refine foldl_keeps g _ (fun d e => ?_) _ c
  have hmark : g ((d.markKey (2 * 2 ^ 32 + e)).suspect 2 e 0 2) = g d := (h.suspect _ _ _ _ _).trans (h.health d _)
  refine keeps_ite g rfl (keeps_ite g ((h.standInFor _ _).trans hmark) ((foldl_keeps g _ (fun x l => ?_) _ _).trans hmark))
  exact (h.laneLost _ _).trans (h.retire x _ _)

theorem tableErrors (c : Core) (errs : List (Nat × Nat)) : g (c.tableErrors errs) = g c := by
  refine foldl_keeps g _ (fun d x => ?_) _ c
  split
  · rfl
  · exact (h.health _ _).trans ((h.seenAt _ _).trans (h.ren d _))

theorem tableRewrite (c : Core) : g c.tableRewrite = g c := (h.health _ _).trans (h.ren c _)

theorem placeAgain (c : Core) : g c.placeAgain = g c := by
  have hparts : ∀ (x : HealthPart) (y : RenPart), g { c with health := x, ren := y } = g c := fun x y =>
    (h.ren { c with health := x } y).trans (h.health c x)
  exact keeps_ite g rfl ((h.setF _ _ _).trans (hparts _ _))

theorem healthTurn (c : Core) (diffs fails groups : List Nat) (table : List (Nat × Nat)) : g (c.healthTurn diffs fails groups table) = g c := by
  have hplaced : ∀ x : HealthPart, g { c.tableRewrite.placeAgain with health := x } = g c := fun x =>
    (h.health _ _).trans ((h.placeAgain _).trans (h.tableRewrite c))
  have hjudged : ∀ d : Core, g ((d.tableErrors table).judgeErrors.judgeCores).judgeEngines.healthShow = g d := fun d =>
    (h.offstage.healthShow _).trans ((h.judgeEngines _).trans ((h.judgeCores _).trans ((h.judgeErrors _).trans (h.tableErrors d table))))
  unfold Core.healthTurn
  refine (hjudged _).trans ((foldl_keeps g _ (fun d k => h.migTurn d k _) _ _).trans ((h.selfTests _ _).trans ?_))
  exact (foldl_keeps g _ (fun d p => h.patrolTurn d p diffs) _ _).trans ((h.qualifyTurn _ _).trans (hplaced _))

end Unclocked

end Sys2Proof.Machine
end

section
/-! What a block boundary does beside its count, concluded (R99): Smudge, the twin and event notices leave the media time alone, and while
MEDIA runs a boundary makes it that of the block that begins. -/

namespace Sys2Proof.Machine
open Sys2Proof

/-! ### The steps of the twin in a block -/

/-- A tether on which nothing was heard is down, and the replies that waited for it go out but those of a takeover. -/
def Core.tetherJudged (c : Core) : Core :=
  if c.flag F.TWIN_STATUS_TETHER_UP ∧ !c.tetherFresh then
    (c.setF F.TWIN_STATUS_TETHER_UP 0).releaseReplies fun k => decide (some k ≠ c.twin.due) else c

/-- The module that plays sends its set, and a standby without a partner its own frame. -/
def Core.setSent (c : Core) (old : Nat) : Core :=
  let c := if c.twinPlays then c.sendSet old else c
  if c.twinState = 1 then c.tetherSend 7 0x8000 c.time.n 0 0 [] else c

/-- A module that plays beside its partner stands down at its boundary. -/
def Core.downTurn (c : Core) : Core :=
  match c.twin.down with
  | some b => if c.time.n ≥ b ∧ c.twinPlays then c.standDown else c
  | none => c

/-- A module that hands over fades out before the boundary of the switch. -/
def Core.switchTurn (c : Core) : Core :=
  match c.twin.switch with
  | some s =>
    if s.mine ∧ !s.faded ∧ c.time.n + s.g ≥ s.b then
      { c.fadeOut (s.b - s.g) s.g with twin := { c.twin with switch := some { s with faded := true } } }
    else c
  | none => c

/-- A module that is too warm is not ready. -/
def Core.warmTurn (c : Core) : Core := if c.flag F.SYS_STATUS_THERM_HOLD then c.setF F.TWIN_STATUS_READY 0 else c

theorem Core.twinTurn_eq (c : Core) (old : Nat) : c.twinTurn old = if !c.tetherOn then { c with twin := { c.twin with cmds := [], libs := [] } }
    else (((c.tetherJudged.setSent old).downTurn.switchTurn).warmTurn.judgeSet).takeoverTurn := rfl

namespace Unclocked
variable {α : Type} {g : Core → α} (h : Unclocked g)
include h

/-! ### Smudge and its trips (R534 to R537) -/

theorem refInTrip (c : Core) : g c.refInTrip = g c := by
  have hlost : ∀ (d : Core) (x : Clk), g d = g c → g (({ d with clk := x } : Core).refTrip 2) = g c := fun d x hd =>
    (h.unled.refTrip _ _).trans ((h.clk d x).trans hd)
  exact keeps_ite g (h.clk c _) (hlost _ _ ((h.raise _ _).trans ((h.setF _ _ _).trans (h.count1 c _))))

theorem mediaMonitorTrip (c : Core) : g (Machine.mediaMonitorTrip c) = g c := (h.unled.refTrip _ _).trans (h.raise c _)

theorem serdesPllLoss (p : Nat) (c : Core) : g (Machine.serdesPllLoss p c) = g c := by
  have hport : ∀ (d : Core) (q : Nat) (x : PtpPort), g (d.setPtpPort q x) = g d := fun d q x => h.time d _ rfl rfl
  exact keeps_ite g rfl ((h.raise _ _).trans ((h.unled.ptpRestart hport _ p).trans (h.offstage.netReset c p)))

theorem hostClockLoss (c : Core) : g (Machine.hostClockLoss c) = g c :=
  (h.raise _ _).trans ((h.offstage.sessionsGone _).trans (h.offstage.hostReset c))

theorem aonMonitorTrip (c : Core) : g (Machine.aonMonitorTrip c) = g c := (h.raise _ _).trans (h.setF c _ _)

theorem smudgeTrip (c : Core) : g c.smudgeTrip = g c := by
  have hhit : g (c.smudgeHit 5) = g c := h.countW c _ _
  unfold Core.smudgeTrip
  dsimp only
  refine keeps_ite g rfl (keeps_ite g ((h.refInTrip _).trans hhit) (keeps_ite g ((h.mediaMonitorTrip _).trans hhit) ?_))
  refine keeps_ite g ((h.serdesPllLoss _ _).trans hhit) (keeps_ite g ((h.hostClockLoss _).trans hhit) ((h.aonMonitorTrip _).trans hhit))

theorem smudgeApply (c : Core) (d : SmudgeDue) : g (c.smudgeApply d) = g c := by
  have hregs : g (d.regs.foldl (fun (c : Core) x => c.put x.1 (if x.1 = R.SMUDGE_CLOCK then withBits x.2 31 31 0 else x.2)) c) = g c :=
    foldl_keeps g _ (fun e x => h.put e _ _) _ c
  have harmed : ∀ (e : Core) (x y : Field) (b : Core → Bool), g (((e.setB x d.on).setB y d.on).setB F.HEALTH_STATUS_SMUDGE_ARMED
      (b ((e.setB x d.on).setB y d.on))) = g e := fun e x y b => (h.setB _ _ _).trans ((h.setB _ _ _).trans (h.setB e _ _))
  unfold Core.smudgeApply
  dsimp only
  refine (h.offstage.notice? _ _ _ _).trans ((h.ledger _ _ _ _ _ _ _).trans ?_)
  refine keeps_ite g (keeps_ite g ((h.smudgeTrip _).trans ?_) ?_) ((h.raise _ _).trans ?_)
  · exact (h.health _ _).trans ((harmed _ _ _ fun e => e.f F.SMUDGE_STATUS_ARMED ≠ 0).trans hregs)
  · exact (h.health _ _).trans ((harmed _ _ _ fun e => e.f F.SMUDGE_STATUS_ARMED ≠ 0).trans hregs)
  · exact (harmed _ _ _ fun e => e.f F.SMUDGE_STATUS_ARMED ≠ 0).trans hregs

theorem smudgeTurn (c : Core) : g c.smudgeTurn = g c := by
  unfold Core.smudgeTurn
  split
  · rfl
  · exact (h.setF _ _ _).trans ((foldl_keeps g _ h.smudgeApply _ _).trans (h.health c _))

/-! ### The twin (R479 to R494) -/

theorem releaseReplies (c : Core) (q : Nat → Bool) : g (c.releaseReplies q) = g c := by
  refine (foldl_keeps g _ (fun d x => ?_) _ _).trans (h.twin c _)
  split
  · exact (h.offstage.unsaid.post _ _).trans (h.offstage.unsaid.markSent d _ _ _)
  · exact h.offstage.unsaid.post d _

theorem tetherSend (c : Core) (kind frag block setLen check : Nat) (payload : List Byte) : g (c.tetherSend kind frag block setLen check payload) = g c :=
  h.offstage.queueFrame c 2 _

theorem sendParts (n : Nat) : ∀ (i k : Nat) (bytes : List Byte) (len check : Nat) (c : Core), g (Core.sendParts n i k bytes len check c) = g c := by
  induction n with
  | zero => exact fun _ _ _ _ _ _ => rfl
  | succ n ih => exact fun i k bytes len check c => keeps_ite g (h.tetherSend c _ _ _ _ _ _) ((ih _ _ _ _ _ _).trans (h.tetherSend c _ _ _ _ _ _))

theorem sendSet (c : Core) (k : Nat) : g (c.sendSet k) = g c := by
  unfold Core.sendSet
  exact (h.twin _ _).trans ((h.countW _ _ _).trans ((h.setF _ _ _).trans ((h.setF _ _ _).trans ((h.put64 _ _ _ _).trans (h.sendParts _ _ _ _ _ _ c)))))

theorem stopEngines (c : Core) : g c.stopEngines = g c := (h.setF _ _ _).trans ((h.setF _ _ _).trans (h.power c _))

theorem aliases (c : Core) (on : Bool) : g (c.aliases on) = g c := (h.put _ _ _).trans ((h.put _ _ _).trans (h.put c _ _))

theorem setTwin (c : Core) (st : Nat) : g (c.setTwin st) = g c := (h.offstage.txShowAll _).trans (h.setF c _ _)

theorem twinWait (c : Core) (st : Nat) : g (c.twinWait st) = g c := by
  have hwait : ∀ d : Core, g ((((d.stopEngines.aliases false).setF F.TWIN_STATUS_READY 0).setF F.SYS_STATUS_STATE 2).setTwin st).plinth = g d := fun d =>
    (h.aside.plinth _).trans ((h.setTwin _ _).trans ((h.setF _ _ _).trans ((h.setF _ _ _).trans ((h.aliases _ _).trans (h.stopEngines d)))))
  exact (hwait _).trans (keeps_ite g (h.clk c _) (h.clk c _))

theorem askResync (c : Core) : g c.askResync = g c :=
  keeps_ite g rfl ((h.twin _ _).trans ((h.setF _ _ _).trans (h.tetherSend c _ _ _ _ _ _)))

theorem standDown (c : Core) : g c.standDown = g c :=
  (h.askResync _).trans ((h.twinWait _ _).trans ((h.raise _ _).trans ((h.releaseReplies _ _).trans (h.twin c _))))

theorem judgeSet (c : Core) : g c.judgeSet = g c := by
  have hmissed : ∀ d : Core, g (((d.count R.TWIN_SET_MISSING).raise F.TWIN_INT_STATUS_SET_MISSING).setF F.TWIN_STATUS_READY 0) = g d := fun d =>
    (h.setF _ _ _).trans (h.told d _ _)
  have hfirst : ∀ (x : TwinPart) (first : Prop) [Decidable first],
      g (if first then ({ c with twin := x } : Core).setF F.TWIN_STATUS_WITNESS_SEEN 0 else { c with twin := x }) = g c := fun x _ _ =>
    keeps_ite g ((h.setF _ _ _).trans (h.twin c x)) (h.twin c x)
  have hjudged : ∀ (x : TwinPart) (first : Prop) [Decidable first], g (((((if first then ({ c with twin := x } : Core).setF F.TWIN_STATUS_WITNESS_SEEN 0
      else { c with twin := x }).count R.TWIN_SET_MISSING).raise F.TWIN_INT_STATUS_SET_MISSING).setF F.TWIN_STATUS_READY 0)) = g c := fun x first _ =>
    (hmissed _).trans (hfirst x first)
  exact keeps_ite g rfl <| keeps_ite g (h.twin c _) <| keeps_ite g (hjudged _ _) <| keeps_ite g (hjudged _ _) <|
    keeps_ite g (keeps_ite g ((h.twin _ _).trans (hjudged _ _)) (hjudged _ _)) ((h.twin _ _).trans (hjudged _ _))

theorem takeoverTurn (c : Core) : g c.takeoverTurn = g c := by
  have hstart : ∀ (b n : Nat) (hit : Bool), g (if hit then (c.startEngines b).fadeInFrom n else c) = g c := fun b n _ =>
    keeps_ite g ((h.clk _ _).trans ((h.offstage.startEngines c b).trans (h.power c _))) rfl
  have hreleased : ∀ (d : Core) (x : TwinPart) (hit : Bool), g (if hit then ({ d with twin := x } : Core).txShowAll else d) = g d := fun d x _ =>
    keeps_ite g ((h.offstage.txShowAll _).trans (h.twin d x)) rfl
  unfold Core.takeoverTurn
  split
  · rfl
  · exact keeps_ite g ((h.raise _ _).trans ((h.setTwin _ _).trans ((h.twin _ _).trans ((hreleased _ _ _).trans (hstart _ _ _)))))
      ((hreleased _ _ _).trans (hstart _ _ _))

theorem tetherJudged (c : Core) : g c.tetherJudged = g c := keeps_ite g ((h.releaseReplies _ _).trans (h.setF c _ _)) rfl

theorem setSent (c : Core) (old : Nat) : g (c.setSent old) = g c := by
  have hset : g (if c.twinPlays then c.sendSet old else c) = g c := keeps_ite g (h.sendSet c old) rfl
  exact keeps_ite g ((h.tetherSend _ _ _ _ _ _ _).trans hset) hset

theorem downTurn (c : Core) : g c.downTurn = g c := by
  unfold Core.downTurn
  split
  · exact keeps_ite g (h.standDown c) rfl
  · rfl

theorem switchTurn (c : Core) : g c.switchTurn = g c := by
  unfold Core.switchTurn
  split
  · exact keeps_ite g ((h.twin _ _).trans (h.clk c _)) rfl
  · rfl

theorem twinTurn (c : Core) (old : Nat) : g (c.twinTurn old) = g c := by
  rw [Core.twinTurn_eq]
  refine keeps_ite g (h.twin c _) ((h.takeoverTurn _).trans ((h.judgeSet _).trans ((keeps_ite g (h.setF _ _ _) rfl).trans ?_)))
  exact (h.switchTurn _).trans ((h.downTurn _).trans ((h.setSent _ _).trans (h.tetherJudged c)))

/-! ### Notices of events -/

theorem eventNotices (c : Core) : g c.eventNotices = g c := by
  refine (foldl_keeps g _ (fun d k => foldl_keeps g _ (fun e s => ?_) _ d) _ _).trans (h.host c _)
  exact keeps_ite g ((h.offstage.unsaid.post _ _).trans (h.host e _)) rfl

theorem sideTurn (c : Core) (old : Nat) (e : BlockEnv) : g (c.sideTurn old e) = g c :=
  (h.eventNotices _).trans ((h.twinTurn _ _).trans ((h.smudgeTurn _).trans (h.healthTurn c _ _ _ _)))

end Unclocked

/-! ### The boundary (R99) -/

section Boundary
variable (c : Core) (e : BlockEnv) (mem : Mem)

/-- The media sample count is n. -/
def Core.countedTo (c : Core) (n : Nat) : Core := { c with time := { c.time with n := n } }

variable {c}

theorem Core.countedTo_ticks (n : Nat) : (c.countedTo n).ticks = (n, c.ticks.2) := rfl

theorem Core.pass_ticks (k : Nat) : (c.pass k).ticks = (c.ticks.1, c.ticks.2 + k) := rfl

theorem blk_of_clk {c d : Core} (h : c.clk = d.clk) : c.blk = d.blk := congrArg (fun k : Clk => if k.ll = 1 then 8 else 16) h

theorem Core.clockTurn_clear {d : Core} (hfault : d.clk.fault = none) (hsw : (d.clk.sw.all fun x => !x.done) = true) : d.clockTurn = (d, true) := by
  unfold Core.clockTurn
  rw [hfault]
  cases hs : d.clk.sw with
  | none => rfl
  | some x =>
    have hdone : x.done = false := by simpa [hs] using hsw
    simp [hdone]

/-- With its clock undisturbed, MEDIA closes a block, counts it, passes its TIME cycles and opens the next one. -/
theorem blockBoundary_ticks (hon : c.clk.mediaOn = true) (hfault : c.clk.fault = none) (hsw : (c.clk.sw.all fun x => !x.done) = true) :
    (blockBoundary e mem c).1.ticks = (c.time.n + c.blk, c.time.cycles + e.cycles) := by
  unfold blockBoundary
  rw [if_neg (by rw [hon]; decide)]
  extract_lets b seen mons closed sent x y z counted k opened followed r
  have hseen : seen.clk = c.clk := offclock_clk.envSeen c e
  have hclosed : closed.clk = seen.clk := offclock_clk.closeRender seen b mem
  have hx : x = sent.captureTdm b := rfl
  clear_value x
  have hcaptured : x.2.clk = sent.clk := by rw [hx]; exact offclock_clk.captureTdm sent b
  have hblk : sent.blk = c.blk := blk_of_clk (hclosed.trans hseen)
  have hclk : (counted.pass e.cycles).clk = c.clk := hcaptured.trans (hclosed.trans hseen)
  have hsent : sent.ticks = c.ticks := (unclocked_ticks.net _ _).trans ((unclocked_ticks.closeRender seen b mem).trans (unclocked_ticks.envSeen c e))
  have hpassed : y.ticks = c.ticks := by rw [← hsent, show y = (sent.captureTdm b).2 from congrArg Prod.snd hx]; exact unclocked_ticks.captureTdm sent b
  have hcycles : counted.ticks = (c.time.n + c.blk, c.time.cycles) := by
    refine (Core.countedTo_ticks (b + sent.blk)).trans ?_
    rw [hpassed, hblk]
    rfl
  have hk : k = (counted.pass e.cycles, true) := Core.clockTurn_clear (by rw [hclk]; exact hfault) (by rw [hclk]; exact hsw)
  have hr : r.1.ticks = k.1.ticks := (unclocked_ticks.renderTurn _ _).trans ((unclocked_ticks.followTurn _ _).trans
    ((unclocked_ticks.armatureTurn _ _ _ _ _).trans ((unclocked_ticks.openTurn _).trans (unclocked_ticks.gateTurn _))))
  rw [if_pos (by rw [hk])]
  calc (r.1.sideTurn b e).ticks
      = k.1.ticks := (unclocked_ticks.sideTurn _ _ _).trans hr
    _ = (counted.ticks.1, counted.ticks.2 + e.cycles) := by rw [hk]; exact Core.pass_ticks _
    _ = (c.time.n + c.blk, c.time.cycles + e.cycles) := by rw [hcycles]

end Boundary

/-- Settles O54: all that a boundary does beside its count leaves the media time alone, so the count of the block that begins stands. -/
theorem blockBoundaryAdvancesMediaTime : Obligations.BlockBoundaryAdvancesMediaTime := by
  unfold Obligations.BlockBoundaryAdvancesMediaTime
  rintro s env hon ⟨hfault, hsw⟩ _
  refine completes_traced (f := blockBoundary env) rfl rfl fun t m h => ?_
  have hticks : t.ticks = (s.core.time.n + s.core.blk, s.core.time.cycles + env.cycles) :=
    (h unclocked_ticks.offstage.supplied).trans (blockBoundary_ticks env s.mem hon hfault hsw)
  exact ⟨congrArg Prod.fst hticks, congrArg Prod.snd hticks⟩

end Sys2Proof.Machine
end
